-- ==== Sys2Proof/Word.lean ====
section
/-! DEFINITION. The word of the register space (R42: one aligned 32-bit word) and the byte of memory. -/

namespace Sys2Proof

/-- A register's value. -/
abbrev Word := BitVec 32

/-- One byte of job memory or of host memory. -/
abbrev Byte := BitVec 8

end Sys2Proof
end

