-- ==== Sys2Proof/Syntax.lean ====
section
/-! DEFINITION. The commands: one constructor per row of spec/opcode_table.json, and the types of their
operands. An operand is what the outside world supplies with the command: a requester, an address and
data, a received frame, a measured value, or the FRC value `t` of its instant in core clocks. -/

namespace Sys2Proof

/-- The eight requesters of R44. -/
inductive Req where
  | pf0 | pf1 | crew (i : Fin 4) | ranger | peer
  deriving DecidableEq, Repr

/-- The ports whose lanes send ALIGN (R243, R338). -/
inductive AlignPort where
  | cam (p : Fin 2) | peer (p : Fin 3)
  deriving DecidableEq, Repr

/-- The receivers that gain and lose 64b/66b block lock: a head lane, a camera lane, a peer lane. -/
inductive Rx where
  | head (c : Fin 128) | cam (p : Fin 2) (lane : Fin 4) | peer (p : Fin 3) (lane : Fin 4)
  deriving DecidableEq, Repr

/-- What a head's HELLO carries (R226). -/
structure HeadHello where
  version : Nat
  ack : Bool
  vendor : Nat
  model : Nat
  serial : Nat
  nozzles : Nat
  formats : Nat
  port : Nat
  buffer : Nat
  tableMax : Nat
  eyePass : Nat
  maxRate : Nat
  deriving DecidableEq, Repr

/-- What a head's STATUS carries (R233). `counters` holds the head counters 0x0 to 0xA of R221. -/
structure HeadStatus where
  port : Nat
  retrainReq : Bool
  fault : Bool
  halted : Bool
  aborted : Bool
  temp : Nat
  tableSeq : Nat
  tableResult : Nat
  period : Nat
  counters : List Nat
  tickSkew : Nat
  deriving DecidableEq, Repr

/-- The sensors of THERM (R498). -/
inductive Sensor where
  | die | inlet | outlet | psu | sink (g : Fin 4) | mram | nor
  deriving DecidableEq, Repr

/-- The phase-locked loops and the reference of CLK.PLL_STATUS (R68). -/
inductive Pll where
  | core | dram | peer | net | stby | ref
  deriving DecidableEq, Repr

/-- The rails of PWR.RAIL_STATUS in bit order (R508). -/
inductive Rail where
  | vstby | vcore | vana09 | vana12 | vio18 | vio33 | vddq | vpp | vnv | cam24 | enc5
  deriving DecidableEq, Repr

/-- An image set (R463): the bytes programmed into its bank, the header first, and the outcomes of the cryptographic checks of
R464: the digest of its public key, its signature, its image hashes (log 52). -/
structure ImageSet where
  bytes : List Byte
  keyOk : Bool
  signatureOk : Bool
  hashesOk : Bool
  deriving DecidableEq, Repr

/-- What a read of host memory by the module brings: the bytes, a refused translation, a translation
request outstanding, or a completion error (R135, R136). -/
inductive HostData where
  | ok (bytes : List Byte)
  | miss
  | refused (done : List Byte)
  | error (done : List Byte)
  deriving DecidableEq, Repr

/-- What the host has enabled in the configuration space of one function (R61, R135, R437): MSI-X, its function mask,
ATS and PASID. -/
structure PcieFn where
  msix : Bool := false
  masked : Bool := false
  ats : Bool := false
  pasid : Bool := false
  deriving DecidableEq, Repr

/-- A tile line that fails at the screener input (R170): the tile, its line and the cause 0 CRC, 1 POISON, 2 INVALID. -/
structure TileFault where
  col : Nat
  row : Nat
  line : Nat
  cause : Nat
  deriving DecidableEq, Repr

/-- A packet of a camera stream (R244): its blocks in order from PKT on, each a sync header and a payload, with the
single blocks that stand between them; what the ECC of its header finds (the header in the PKT block stands as
corrected), and what its CRC-16 does. `vcKnown` is false for an uncorrectable header whose virtual channel cannot be
known. -/
structure CamPacket where
  blocks : List (Nat × Nat)
  vcKnown : Bool
  eccCorrected : Bool
  eccBad : Bool
  crcOk : Bool
  deriving DecidableEq, Repr

/-- A frame on a peer port in a data class (R340): class 1 MIRROR, 2 FORWARD, 3 BULK. In class 0, TIME, it is a single
block; the copies of one block on several lanes carry one `seq`. -/
structure PeerFrame where
  cls : Fin 4
  seq : Nat
  ack : Nat
  crcOk : Bool
  kind : Nat
  fields : List Nat
  deriving DecidableEq, Repr

/-- An ENUM message (R368, R374): the last address given, the number of nodes once it is known, the serial number of the root
it comes from, whether it goes out on the eastern branch, whether the ring is a chain, and the KIND and COLUMN_BASE of the
nodes passed. -/
structure Enum where
  addr : Nat
  count : Nat
  root : Nat
  east : Bool
  chain : Bool
  reports : List (Nat × Nat)
  deriving DecidableEq, Repr

/-- A Lookout message or network heartbeat (R355): the bytes of its payload. -/
structure LookoutMsg where
  bytes : List Byte
  deriving DecidableEq, Repr

/-- A digest record of the partner (R141): over PEER_P, or as a DIGEST message of the network path. -/
inductive DigestRec where
  | peer (plane : Fin 8) (row col crc : Nat)
  | net (m : LookoutMsg)
  deriving DecidableEq, Repr

/-- A frame received on a network port (R382, R383): what the checks look at. `tags` are the VIDs of its
VLAN tags, `udp` the destination address and port of an IPv4 UDP datagram, `trailer` the LanId and the
sequence number of a PRP trailer. -/
structure NetFrame where
  fcsOk : Bool
  length : Nat
  tags : List Nat
  dst : Nat
  src : Nat
  etherType : Nat
  udp : Option (Nat × Nat)
  trailer : Option (Nat × Nat)
  ptpType : Nat
  domain : Nat
  sdo : Nat
  deriving DecidableEq, Repr

/-- A PTP message (R388, R389): its number, its timestamp and its correction in 2^-16 ns, the FRC value at
which it passed the MAC boundary, whether it answers this module's request, and for Announce the
grandmaster's data set in the order of the default comparison: priority1, class, accuracy, variance,
priority2, identity, steps removed, sender. -/
structure PtpMsg where
  seq : Nat
  twoStep : Bool
  time : Nat
  corr : Int
  frc : Nat
  forMe : Bool
  data : List Nat
  deriving DecidableEq, Repr

/-- What ECC finds on a DRAM read (R411, R433): the byte lane of a single-bit error, and the syndrome; for an
uncorrectable word whether the syndrome points into the address fold. -/
inductive Ecc where
  | clean | corrected (lane syndrome : Nat) | uncorrectable (address : Bool) (syndrome : Nat)
  deriving DecidableEq, Repr

/-- A read request of job memory (R412, R413): the address, the class, the FRC values at which it was issued and at which its
data comes back, for RT the line it is for, and what ECC finds. -/
structure DramReq where
  addr : Nat
  cls : Fin 6
  issued : Nat
  back : Nat
  line : Nat
  ecc : Ecc
  deriving DecidableEq, Repr

/-- What the boot chain finds (R460): the worst eye margin of each byte lane of each DRAM channel in 1/64 UI, the journal records whose CRC
or commit word is bad, and which bank images verify. -/
structure BootOutcome where
  margins : List (List Nat)
  badRecords : List Nat
  aOk : Bool
  bOk : Bool
  deriving DecidableEq, Repr

/-- The commands, one constructor per row of the opcode table, in its order; each names its row and the
rule that governs it. -/
inductive Instr where
  /-- REGISTER_WRITE (R41). -/
  | registerWrite (src : Req) (addr data : Nat)
  /-- CLEAR_ON_READ (R41). -/
  | clearOnRead (src : Req) (addr : Nat)
  /-- WRITE_1_TO_CLEAR (R37). -/
  | write1ToClear (src : Req) (addr data hw : Nat)
  /-- INT_FORCE (R36). -/
  | intForce (src : Req) (page data : Nat)
  /-- BAD_ACCESS (R42). -/
  | badAccess (src : Req) (addr : Nat) (write multi : Bool)
  /-- APERTURE_WRITE (R58). -/
  | apertureWrite (src : Req) (addr data : Nat)
  /-- THRESHOLD_WRITE (R153). -/
  | thresholdWrite (src : Req) (addr data : Nat)
  /-- READ_LO (R44). -/
  | readLo (src : Req) (addr : Nat)
  /-- WRITE_HI (R44). -/
  | writeHi (src : Req) (addr data : Nat)
  /-- BLOCK_RESET (R53). -/
  | blockReset (src : Req) (page : Nat)
  /-- CONFIG_LOCK (R52). -/
  | configLock (src : Req) (page : Nat)
  /-- ARM (R48). -/
  | shadowArm (src : Req) (page : Nat)
  /-- DISARM (R47). -/
  | shadowDisarm (src : Req) (page : Nat) (applyNow : Bool)
  /-- SHADOW_APPLY (R46). -/
  | shadowApply (page frame : Nat)
  /-- LOCK_READ (R63). -/
  | lockRead (n : Fin 64) (readers : List Req)
  /-- LOCK_RELEASE (R65). -/
  | lockRelease (src : Req) (n : Fin 64) (data : Nat)
  /-- FORCE_RELEASE (R62). -/
  | forceRelease (src : Req) (data : Nat)
  /-- VEC_ACK (R61). -/
  | vecAck (pf1 : Bool) (vec : Nat)
  /-- MSIX_MESSAGE (R61). -/
  | msixMessage (vec t : Nat)
  /-- RESET_CTRL (R67). -/
  | resetCtrl (src : Req) (data : Nat)
  /-- PLL_LOSS_OF_LOCK (R69). -/
  | pllLossOfLock (pll : Pll) (long : Bool)
  /-- ENCODER_COUNT (R72). -/
  | encoderCount (e : Fin 2) (fwd : Bool) (tenths t : Nat)
  /-- LOSS_OF_SIGNAL (R71). -/
  | lossOfSignal (e : Fin 2) (t : Nat)
  /-- LOS_CLEAR (R71). -/
  | losClear (e : Fin 2)
  /-- SLIP_WINDOW (R74). -/
  | slipWindow
  /-- VIRTUAL_TICK (R78). -/
  | virtualTick (t : Nat)
  /-- LINE_TICK (R82). -/
  | lineTick (t : Nat)
  /-- RUN_ARM (R82). -/
  | runArm (src : Req)
  /-- START (R83). -/
  | runStart (src : Req)
  /-- DRAIN (R82). -/
  | runDrain (src : Req)
  /-- DRAIN_TIMEOUT (R541). -/
  | drainTimeout (t : Nat)
  /-- FRAME_QUEUED (R15). -/
  | frameQueued (line t : Nat)
  /-- ADVICE_RECOMPUTE (R90). -/
  | adviceRecompute (t : Nat)
  /-- SLOT_ARM (R101). -/
  | slotArm (src : Req) (n : Fin 32)
  /-- CANCEL (R104). -/
  | slotCancel (src : Req) (n : Fin 32)
  /-- SLOT_APPLY (R96). -/
  | slotApply (n : Fin 32)
  /-- RAMP_END (R97). -/
  | rampEnd (n : Fin 32)
  /-- BANK_COPY_DONE (R97). -/
  | bankCopyDone (n : Fin 32)
  /-- QUEUE_DOORBELL (R127). -/
  | queueDoorbell (src : Req) (q : Fin 16) (tail : Nat)
  /-- LINEAR (R131). -/
  | linearDesc (q : Fin 16) (words : List Nat) (host : HostData)
  /-- TILE (R131). -/
  | tileDesc (q : Fin 16) (words : List Nat) (host : HostData) (seals : HostData)
  /-- STREAM_CREDIT_RESUME (R122). -/
  | streamCreditResume (q : Fin 16) (host : HostData) (seals : HostData)
  /-- TILE_WAIT_RESUME (R138). -/
  | tileWaitResume (q : Fin 16) (host : HostData) (seals : HostData)
  /-- TRANSLATION_COMPLETION (R135). -/
  | translationCompletion (q : Fin 16) (base size target : Nat) (ok : Bool) (host : HostData) (seals : HostData)
  /-- INVALIDATION_REQUEST (R135). -/
  | invalidationRequest (base size : Nat)
  /-- PAGE_REQUEST_RESPONSE (R136). -/
  | pageRequestResponse (q : Fin 16) (ok : Bool) (host : HostData) (seals : HostData)
  /-- PRI_TIMEOUT (R136). -/
  | priTimeout (q : Fin 16)
  /-- QUEUE_RESTART (R137). -/
  | queueRestart (src : Req) (q : Fin 16)
  /-- QUEUE_STOP (R137). -/
  | queueStop (src : Req) (q : Fin 16)
  /-- ATC_FLUSH (R148). -/
  | atcFlush (src : Req)
  /-- REGION_WRITE (R133). -/
  | regionWrite (src : Req) (r : Fin 64) (reg : Fin 3) (data : Nat)
  /-- STARVED_LINE_RESUME (R123). -/
  | starvedLineResume (line : Nat)
  /-- TILE_DIGEST_RECORD (R141). -/
  | tileDigestRecord (record : DigestRec)
  /-- CONTONE_ARRIVAL (R170). -/
  | contoneArrival (line : Nat) (plane : Fin 8) (faults : List TileFault) (mismatch : List (Nat × Nat))
  /-- FAULT_CLEAR (R178). -/
  | faultClear (src : Req) (c : Fin 128)
  /-- ISOLATE (R204). -/
  | isolate (src : Req) (c : Fin 128)
  /-- ISOLATE_RELEASE (R185). -/
  | isolateRelease (src : Req) (c : Fin 128)
  /-- RECEIVER_DETECT_PROBE (R183). -/
  | receiverDetectProbe (c : Fin 128) (detected : Bool) (t : Nat)
  /-- TRAINING_FRAME (R190). -/
  | trainingFrame (c : Fin 128) (field : Nat) (inverted : Bool) (eye : Option (Fin 256))
  /-- TRAIN_TIMEOUT (R185). -/
  | trainTimeout (c : Fin 128)
  /-- TRAINING_SILENCE (R185). -/
  | trainingSilence (c : Fin 128) (t : Nat)
  /-- RATE_CHANGE_IDLE_END (R194). -/
  | rateChangeIdleEnd (c : Fin 128)
  /-- BLOCK_LOCK_GAINED (R195): on a head lane with the blocks received since, as sync header and scrambled payload. -/
  | blockLockGained (rx : Rx) (blocks : List (Nat × Nat))
  /-- BLOCK_LOCK_LOST (R195), with the invalid headers received since they were last counted. -/
  | blockLockLost (rx : Rx) (errs t : Nat)
  /-- LOCK_TIMEOUT (R185). -/
  | lockTimeout (c : Fin 128)
  /-- EXCHANGE_TIMEOUT (R185). -/
  | exchangeTimeout (c : Fin 128)
  /-- RETRAIN_TIMEOUT (R185). -/
  | retrainTimeout (c : Fin 128)
  /-- HELLO (R227). -/
  | headHello (c : Fin 128) (h : HeadHello) (t : Nat)
  /-- HELLO_REPEAT (R227). -/
  | helloRepeat (c : Fin 128)
  /-- EYE_MEASUREMENT (R198). -/
  | eyeMeasurement (c : Fin 128) (eye : Fin 256)
  /-- HEADER_ERROR_WINDOW (R198). -/
  | headerErrorWindow (rx : Rx) (errs : Nat)
  /-- RETRAIN (R185). -/
  | linkRetrain (src : Req) (c : Fin 128)
  /-- LINK_RESTART (R185). -/
  | linkRestart (src : Req) (c : Fin 128) (t : Nat)
  /-- RATE_UP (R202). -/
  | rateUp (src : Req) (c : Fin 128)
  /-- ACCEPT (R196). -/
  | linkAccept (src : Req) (c : Fin 128) (t : Nat)
  /-- STATUS (R234). -/
  | headStatus (c : Fin 128) (st : HeadStatus)
  /-- STATUS_TIMEOUT (R234). -/
  | statusTimeout (c : Fin 128)
  /-- FRAME_DISCARD (R211). -/
  | frameDiscard (c : Fin 128)
  /-- TABLE_SEND (R230). -/
  | tableSend (src : Req) (c : Fin 128)
  /-- TABLE_NO_RESPONSE (R231). -/
  | tableNoResponse (c : Fin 128)
  /-- ECHO_NOW (R235). -/
  | echoNow (src : Req) (c : Fin 128) (t : Nat)
  /-- ECHO_INTERVAL (R235). -/
  | echoInterval (c : Fin 128) (t : Nat)
  /-- ECHO (R235). -/
  | echoReply (c : Fin 128) (seq turnaround t : Nat)
  /-- ECHO_LOST (R235). -/
  | echoLost (c : Fin 128)
  /-- PORT_STOP_EXCHANGE (R225). -/
  | portStopExchange (c : Fin 128)
  /-- CAMERA_PORT_ENABLE (R245). -/
  | cameraPortEnable (src : Req) (p : Fin 2)
  /-- CAMERA_PORT_DISABLE (R245). -/
  | cameraPortDisable (src : Req) (p : Fin 2)
  /-- POWER_SETTLE (R245). -/
  | powerSettle (p : Fin 2) (milliamps : Nat)
  /-- POWER_FAULT (R246). -/
  | powerFault (p : Fin 2) (milliamps : Nat)
  /-- LINK_TIMEOUT (R245). -/
  | linkTimeout (p : Fin 2)
  /-- ALIGN (R243). -/
  | alignSet (port : AlignPort) (blocks : List (Nat × Nat)) (skew : Nat)
  /-- ALIGN_TIMEOUT (R245). -/
  | alignTimeout (p : Fin 2)
  /-- CCI_GO (R247). -/
  | cciGo (src : Req) (p : Fin 2)
  /-- CCI (R247). -/
  | cciReply (p : Fin 2) (block : Nat)
  /-- CCI_TIMEOUT (R247). -/
  | cciTimeout (p : Fin 2)
  /-- FRAME_START (R255). -/
  | frameStart (p : Fin 2) (vc : Fin 16) (num : Nat) (corrected : Bool) (t : Nat)
  /-- LINE_PACKET (R253). -/
  | linePacket (p : Fin 2) (pkt : CamPacket)
  /-- FRAME_END (R252). -/
  | frameEnd (p : Fin 2) (vc : Fin 16) (num : Nat) (corrected : Bool)
  /-- FRAME_TIMEOUT (R252). -/
  | frameTimeout (p : Fin 2) (vc : Fin 16)
  /-- TRIGGER_RECORD_TIMEOUT (R255). -/
  | triggerRecordTimeout (p : Fin 2)
  /-- ISP_LINE (R261). -/
  | ispLine (p : Fin 2)
  /-- STATS_RECORD_PUBLISH (R270). -/
  | statsRecordPublish (ctx : Fin 16)
  /-- ISP_TABLE_SYNC_DONE (R257). -/
  | ispTableSyncDone (ctx : Fin 16)
  /-- READ_IDX_HOST_WRITE (R277). -/
  | readIdxHostWrite (src : Req) (data : Nat)
  /-- SCALER_RECORD_TAKE (R287). -/
  | scalerRecordTake (contrast : List (Nat × Nat))
  /-- CYCLE_EXPIRED (R290). -/
  | cycleExpired
  /-- RESULT_SET_PUBLISH (R297). -/
  | resultSetPublish (marks : Bool)
  /-- STAIR_FORCE (R284). -/
  | stairForce (src : Req)
  /-- CYCLE_RESTART (R308). -/
  | cycleRestart (src : Req)
  /-- DRIFT_BIN (R306). -/
  | driftBin (c : Fin 128) (t : Nat)
  /-- DRIFT_REREF (R306). -/
  | driftReref (src : Req) (c : Fin 128)
  /-- LAMP_GROUP_ENABLE (R311). -/
  | lampGroupEnable (src : Req) (g : Fin 4)
  /-- LAMP_GROUP_DISABLE (R311). -/
  | lampGroupDisable (src : Req) (g : Fin 4)
  /-- BUS_GOOD (R311). -/
  | busGood (g : Fin 4) (voutMode failures : Nat)
  /-- BUS_WAIT_TIMEOUT (R311). -/
  | busWaitTimeout (g : Fin 4) (failures : Nat)
  /-- BUS_FAULT (R311). -/
  | busFault (g : Fin 4)
  /-- GROUP_RESUME (R311). -/
  | groupResume (src : Req) (g : Fin 4)
  /-- LAMP_PERIOD_START (R312). -/
  | lampPeriodStart (ch : Fin 64) (t : Nat)
  /-- HEADROOM_STEP (R324). -/
  | headroomStep (g : Fin 4) (failures : Fin 4)
  /-- BUS_MEASURE (R324). -/
  | busMeasure (g : Fin 4) (vout iout failures t : Nat)
  /-- SINK_SAMPLE (R326). -/
  | sinkSample (ch : Fin 64) (millivolts microamps : Nat)
  /-- PROBE_INTERVAL (R328). -/
  | probeInterval (g : Fin 4) (t : Nat)
  /-- PROBE_NOW (R328). -/
  | probeNow (src : Req) (ch : Fin 64) (t : Nat)
  /-- PROBE_COMPLETE (R328). -/
  | probeComplete (ch : Fin 64) (millivolts microamps : Nat)
  /-- PROBE_ABORT (R329). -/
  | probeAbort (ch : Fin 64)
  /-- PROBE_BLOCKED (R329). -/
  | probeBlocked (ch : Fin 64)
  /-- CLEAR_LAMP_FAULT (R327). -/
  | clearLampFault (src : Req) (ch : Fin 64)
  /-- NTC_READ (R330). -/
  | ntcRead (g : Fin 4) (ohms : List (Option Nat))
  /-- PUSH (R321). -/
  | lampPush (src : Req)
  /-- FLUSH (R337). -/
  | lampFlush (src : Req) (port : Fin 2)
  /-- PEER_HELLO (R338). -/
  | peerHello (p : Fin 3) (serial mode portId addr proto t : Nat)
  /-- PEER_PORT_DOWN (R339). -/
  | peerPortDown (p : Fin 3)
  /-- NARROWED (R341): the lanes that hold lock, their invalid headers over the last second, and whether the new width is in
  force. -/
  | narrowed (p : Fin 3) (lanes : Nat) (errs : List Nat) (done : Bool)
  /-- BG_RETRAIN (R341). -/
  | bgRetrain (p : Fin 3) (lanes : Nat)
  /-- PORT_RETRAIN (R376). -/
  | portRetrain (src : Req) (p : Fin 3)
  /-- WIDEN_NOW (R376). -/
  | widenNow (src : Req) (p : Fin 3) (lanes : Nat)
  /-- TIME_TRANSFER (R342). -/
  | timeTransfer (p : Fin 3) (t1 t2 t3 t4 ring : Nat)
  /-- PEER_FRAME (R340). -/
  | peerFrame (p : Fin 3) (f : PeerFrame)
  /-- FRAME_RETX (R340). -/
  | frameRetx (p : Fin 3) (cls : Fin 4)
  /-- MIRRORED_WRITE (R345). -/
  | mirroredWrite (addr data : Nat)
  /-- PEER_HEARTBEAT (R352). -/
  | peerHeartbeat (role cond epoch gen t : Nat)
  /-- NETWORK_HEARTBEAT (R352). -/
  | networkHeartbeat (m : LookoutMsg) (t : Nat)
  /-- HEARTBEAT_MISS (R352). -/
  | heartbeatMiss (net : Bool) (t : Nat)
  /-- GRANT (R359). -/
  | leaseGrant (m : LookoutMsg) (t : Nat)
  /-- DENY (R359). -/
  | leaseDeny (m : LookoutMsg) (t : Nat)
  /-- RENEW (R358). -/
  | leaseRenew (t : Nat)
  /-- CLAIM_REPEAT (R358). -/
  | claimRepeat (t : Nat)
  /-- LEASE_LOST (R358). -/
  | leaseLost (t : Nat)
  /-- WIRED_GRANT (R360). -/
  | wiredGrant (a b : Bool) (t : Nat)
  /-- SLOT (R346). -/
  | slotMessage (n : Fin 32) (target action mask0 mask1 mask2 mask3 fwd crc : Nat)
  /-- SLOT_ACK (R346). -/
  | slotAck (n : Fin 32)
  /-- SLOT_NAK (R347). -/
  | slotNak (n : Fin 32)
  /-- CONFIRM (R346). -/
  | slotConfirm (n : Fin 32)
  /-- SLOT_ACK_DEADLINE (R347). -/
  | slotAckDeadline (n : Fin 32)
  /-- IN_DOUBT (R348). -/
  | inDoubt (n : Fin 32)
  /-- IN_DOUBT_ANSWER (R348). -/
  | inDoubtAnswer (n : Fin 32) (applied : Bool) (line : Nat)
  /-- SLOT_CANCEL_MESSAGE (R347). -/
  | slotCancelMessage (n : Fin 32)
  /-- START_MESSAGE (R349). -/
  | startMessage (startLine run t : Nat)
  /-- TICK_INSTANT (R350). -/
  | tickInstant (line leaderFrc : Nat)
  /-- RETRAIN_REQUEST (R351). -/
  | retrainRequest (c : Fin 128) (rateUp : Bool)
  /-- HANDOVER (R362). -/
  | handoverRequest (src : Req)
  /-- RETIRE (R362). -/
  | retireRequest (src : Req)
  /-- HANDOVER_AT_LINE (R363). -/
  | handoverAtLine
  /-- SYNC_ENTRY (R364). -/
  | syncEntry
  /-- SYNC_COMPLETE (R364). -/
  | syncComplete
  /-- DIGEST_NOW (R365). -/
  | digestNow (src : Req)
  /-- SELF_TEST_DIGEST (R365). -/
  | selfTestDigest
  /-- DIGEST_FAIL (R365). -/
  | digestFail (target : Nat)
  /-- HEALTH (R366). -/
  | healthPublish (partner : Option Nat)
  /-- CLOSURE_PROBE (R368). -/
  | closureProbe (root t : Nat)
  /-- ENUM (R368). -/
  | ringEnum (fromW : Bool) (m : Enum) (t : Nat)
  /-- CLOSURE_TIMEOUT (R368). -/
  | closureTimeout (t : Nat)
  /-- ENUMERATE (R380). -/
  | ringEnumerate (src : Req) (t : Nat)
  /-- RESYNC (R380). -/
  | ringResync (src : Req)
  /-- LINE_PREDICTION (R370). -/
  | linePrediction (t : Nat)
  /-- LINE_TIME (R370). -/
  | lineTime (line ringTime t : Nat)
  /-- PRED_HOLD (R371). -/
  | predHold (t : Nat)
  /-- RATE_EXCHANGE (R375). -/
  | rateExchange (rates : List Nat) (lowest partner : Option Nat)
  /-- NETWORK_FRAME (R382). -/
  | networkFrame (port : Fin 2) (f : NetFrame) (t : Nat)
  /-- SYNC (R389). -/
  | ptpSync (port : Fin 2) (m : PtpMsg)
  /-- FOLLOW_UP (R388). -/
  | followUp (port : Fin 2) (m : PtpMsg)
  /-- DELAY_REQ (R390). -/
  | delayReq (port : Fin 2) (t : Nat)
  /-- DELAY_RESP (R394). -/
  | delayResp (port : Fin 2) (m : PtpMsg)
  /-- ANNOUNCE (R388). -/
  | ptpAnnounce (port : Fin 2) (m : PtpMsg)
  /-- ANNOUNCE_TIMEOUT (R388). -/
  | announceTimeout (port : Fin 2)
  /-- PDELAY_REQ (R390). -/
  | pdelayReq (port : Fin 2) (m : PtpMsg) (t : Nat)
  /-- PDELAY_RESP (R394). -/
  | pdelayResp (port : Fin 2) (m : PtpMsg)
  /-- PDELAY_RESP_FOLLOW_UP (R394). -/
  | pdelayRespFollowUp (port : Fin 2) (m : PtpMsg)
  /-- LAN_READMITTED (R395). -/
  | lanReadmitted (port : Fin 2) (t : Nat)
  /-- SYNC_TIMEOUT (R396). -/
  | syncTimeout (port : Fin 2) (t : Nat)
  /-- VERIFY_COMPLETE (R396). -/
  | verifyComplete (t : Nat)
  /-- HOLDOVER_EXPIRED (R396). -/
  | holdoverExpired (t : Nat)
  /-- ACCEPT_PATH (R396). -/
  | acceptPath (src : Req)
  /-- FORCE_HOLDOVER (R396). -/
  | forceHoldover (src : Req)
  /-- SUPERVISION_FRAME (R386). -/
  | supervisionFrame (port : Fin 2) (mac : Nat) (t : Nat)
  /-- LIFE_CHECK (R386). -/
  | lifeCheck
  /-- ENTRY_FORGET (R386). -/
  | entryForget (mac t : Nat)
  /-- REPORT (R385). -/
  | netReport
  /-- NETWORK_LINK_CHANGE (R381). -/
  | networkLinkChange (port : Fin 2) (up : Bool) (speed : Nat)
  /-- NOW_READ (R393). -/
  | nowRead (src : Req) (t : Nat)
  /-- CONVERSION (R393). -/
  | conversion (src : Req) (data : Nat)
  /-- TIMER_ARM (R399). -/
  | timerArm (src : Req) (n : Fin 16) (t : Nat)
  /-- TIMER_DISARM (R401). -/
  | timerDisarm (src : Req) (n : Fin 16)
  /-- TIMER_EVENT (R398). -/
  | timerEvent (n : Fin 16) (t : Nat)
  /-- PLAN_PUSH (R402). -/
  | planPush (src : Req) (n : Fin 16)
  /-- PLAN_FLUSH (R402). -/
  | planFlush (src : Req) (n : Fin 16)
  /-- CAPTURE (R403). -/
  | capture (pin : Fin 16) (falling : Bool) (t : Nat)
  /-- CAP_INFO_READ (R403). -/
  | capInfoRead (src : Req)
  /-- DRAM_READ (R411). -/
  | dramRead (reqs : List DramReq) (t : Nat)
  /-- REFRESH (R416). -/
  | dramRefresh (d : Fin 6) (elapsed : Nat) (pull : Bool)
  /-- FORCED_REFRESH (R416). -/
  | forcedRefresh (d : Fin 6) (elapsed : Nat)
  /-- DRAM_TEMP_READ (R417). -/
  | dramTempRead (d : Fin 6) (temp : Int)
  /-- HOT_EXIT (R417). -/
  | hotExit (d : Fin 6)
  /-- PARITY_ALERT (R419). -/
  | parityAlert (d : Fin 6) (after replays : Nat) (cleared : Bool)
  /-- WCRC_ALERT (R419). -/
  | wcrcAlert (d : Fin 6) (after replays : Nat) (cleared : Bool)
  /-- SCRUB_READ (R423). -/
  | scrubRead (d : Fin 6) (ecc : Ecc) (word : Fin 8)
  /-- RETRAIN_INTERVAL (R426). -/
  | retrainInterval (d : Fin 6)
  /-- RETRAIN_SLICE (R426). -/
  | retrainSlice (d : Fin 6)
  /-- RETRAIN_COMPLETE (R427). -/
  | retrainComplete (d : Fin 6) (pass : Bool) (margin lane : Nat)
  /-- RETRAIN_NOW (R426). -/
  | retrainNow (src : Req) (d : Fin 6)
  /-- SCRUB_RESTART (R432). -/
  | scrubRestart (src : Req) (d : Fin 6)
  /-- CLEAR_DEGRADED (R427). -/
  | clearDegraded (src : Req) (d : Fin 6)
  /-- SCHEDULED_STOP (R428). -/
  | scheduledStop
  /-- POST (R442). -/
  | mbPost (src : Req) (n : Fin 32)
  /-- TAKE (R442). -/
  | mbTake (src : Req) (n : Fin 32)
  /-- MAILBOX_ACK (R442). -/
  | mailboxAck (src : Req) (n : Fin 32) (data : Nat)
  /-- CLEAR (R442). -/
  | mbClear (src : Req) (n : Fin 32)
  /-- DETACH (R450). -/
  | detach (src : Req) (pf1 : Bool)
  /-- BODY_READ (R444). -/
  | bodyRead (n : Fin 32) (read : Option (List Byte))
  /-- REPLY_CHANNEL_FREE (R448). -/
  | replyChannelFree (n : Fin 32)
  /-- REPLY_ROOM_TIMEOUT (R448). -/
  | replyRoomTimeout (n : Fin 32)
  /-- PING (R447). -/
  | ping (n : Fin 32)
  /-- GET_INFO (R447). -/
  | getInfo (n : Fin 32)
  /-- PARK (R534). -/
  | parkRequest (n : Fin 32)
  /-- RESUME (R534). -/
  | resumeRequest (n : Fin 32)
  /-- SET_HOST_KEY (R474). -/
  | setHostKey (n : Fin 32)
  /-- SET_LOOKOUT_KEY (R474). -/
  | setLookoutKey (n : Fin 32)
  /-- ERASE_KEYS (R474). -/
  | eraseKeys (n : Fin 32)
  /-- JOURNAL_WRITE (R474). -/
  | journalWrite (n : Fin 32)
  /-- JOURNAL_READ (R474). -/
  | journalRead (n : Fin 32)
  /-- PERST (R438). -/
  | perst
  /-- FUNCTION_LEVEL_RESET (R438). -/
  | functionLevelReset (pf1 d3 : Bool)
  /-- CREW_WATCHDOG (R459). -/
  | crewWatchdog
  /-- RANGER_WATCHDOG (R459). -/
  | rangerWatchdog (bad : List Nat)
  /-- BOOT (R460). -/
  | boot (b : BootOutcome)
  /-- ERASE_WRITE (R465). -/
  | eraseWrite (src : Req)
  /-- VERIFY (R464). -/
  | fwVerify (src : Req)
  /-- ACTIVATE (R465). -/
  | fwActivate (src : Req)
  /-- CONFIRM_IMAGE (R461). -/
  | confirmImage (src : Req)
  /-- LIVE_CREW (R466). -/
  | liveCrew (src : Req)
  /-- LIVE_RANGER (R467). -/
  | liveRanger (src : Req)
  /-- UPDATE_ABORT (R481). -/
  | updateAbort (src : Req)
  /-- FW_OPERATION_DONE (R465). -/
  | fwOperationDone (img : Option ImageSet)
  /-- CORE_READY (R466). -/
  | coreReady (core : Fin 4)
  /-- CORE_READY_TIMEOUT (R466). -/
  | coreReadyTimeout (core : Fin 4)
  /-- REBOOT (R480). -/
  | fwReboot (src : Req) (data : Nat)
  /-- COMPACT_NOW (R471). -/
  | compactNow (src : Req)
  /-- COMPACTION_DONE (R471). -/
  | compactionDone
  /-- NV_RANGE_RETURN (R472). -/
  | nvRangeReturn (nor : Bool)
  /-- HOST_POST (R482). -/
  | hostPost (src : Req)
  /-- POR (R460). -/
  | powerOnReset (mains sb24 : Bool)
  /-- MAINS_QUALIFIED (R483). -/
  | mainsQualified
  /-- MAINS_FAIL (R485). -/
  | mainsFail (bulk : Nat)
  /-- MAINS_LOW (R486). -/
  | mainsLow (vrms : Nat)
  /-- SB24_CHANGE (R487). -/
  | sb24Change (good : Bool) (millivolts : Nat)
  /-- RAIL_POWER_GOOD (R489). -/
  | railPowerGood (r : Rail)
  /-- RAIL_FAULT (R491). -/
  | railFault (r : Rail)
  /-- POWER_RESTART (R491). -/
  | powerRestart (src : Req)
  /-- HEAD_POWER_CONTROL (R494). -/
  | headPowerControl (src : Req) (data : Nat)
  /-- HEAD_POWER_DEASSERT (R494). -/
  | headPowerDeassert
  /-- SENSOR_SAMPLE (R499). -/
  | sensorSample (sensor : Sensor) (readings : List (Option Int))
  /-- THRESHOLD_DWELL (R500). -/
  | thresholdDwell (k : Fin 17) (inst : Nat)
  /-- THERMAL_TRIP (R503). -/
  | thermalTrip (inlet : Bool)
  /-- LAMP_TRIP (R505). -/
  | lampTrip (g : Fin 4)
  /-- TRIP_RESTART (R506). -/
  | tripRestart
  /-- TRIP_LATCH_CLEAR (R505). -/
  | tripLatchClear (g : Fin 4)
  /-- STOP_IN (R525). -/
  | stopIn (b : Bool)
  /-- STOP_IN_RELEASE (R525). -/
  | stopInRelease
  /-- STOP_IN_DISCREPANCY (R525). -/
  | stopInDiscrepancy
  /-- SYS24_IN_CHANGE (R524). -/
  | sys24InChange (present : Bool)
  /-- SFP_CHANGE (R404). -/
  | sfpChange (port : Fin 2) (present los txFault : Bool)
  /-- RETIRE_REQUEST_REPEAT (R428). -/
  | retireRequestRepeat
  /-- PLL_LOCK_REGAINED (R68). -/
  | pllLockRegained (pll : Pll)
  /-- PCIE_LINK_UP (R438). -/
  | pcieLinkUp (gen : Fin 4) (width : Fin 5) (fn0 fn1 : PcieFn)
  deriving DecidableEq, Repr

end Sys2Proof
end

