-- ==== Sys2Proof/Machine/Sparse.lean ====
section
/-! DEFINITION. Sparse maps in one canonical form: a list of key and value pairs, keys strictly rising, no
entry equal to what an unlisted key reads as. The registers, the shadows, the job memory and the tables
are held this way, so that equal contents are equal data. -/

namespace Sys2Proof.Machine

/-- A sparse map; what an unlisted key reads as is given by the function passed to `smGet` and `smSet`. -/
abbrev SMap (β : Type) := List (Nat × β)

/-- The value at a key. -/
def smGet {β : Type} (d : Nat → β) : SMap β → Nat → β
  | [], k => d k
  | (j, v) :: m, k => if j = k then v else smGet d m k

/-- Put an entry in its sorted place, replacing the entry of its key. -/
def smIns {β : Type} (k : Nat) (v : β) : SMap β → SMap β
  | [] => [(k, v)]
  | (j, w) :: m =>
    if k < j then (k, v) :: (j, w) :: m
    else if k = j then (k, v) :: m
    else (j, w) :: smIns k v m

/-- Remove the entry of a key. -/
def smDel {β : Type} (k : Nat) (m : SMap β) : SMap β := m.filter (fun e => decide (e.1 ≠ k))

/-- Write a value at a key; writing what an unlisted key reads as removes the entry. -/
def smSet {β : Type} [DecidableEq β] (d : Nat → β) (m : SMap β) (k : Nat) (v : β) : SMap β :=
  if v = d k then smDel k m else smIns k v m

/-- Return every key that satisfies `p` to what an unlisted key reads as. -/
def smClear {β : Type} (p : Nat → Bool) (m : SMap β) : SMap β := m.filter (fun e => !p e.1)

/-- The entries of `b` for the keys from lo up to hi, the entries of `a` for the others. -/
def smSplice {β : Type} (lo hi : Nat) (a b : SMap β) : SMap β :=
  a.filter (fun e => decide (e.1 < lo)) ++ b.filter (fun e => decide (lo ≤ e.1) && decide (e.1 < hi))
    ++ a.filter (fun e => decide (hi ≤ e.1))

/-- The canonical form. -/
abbrev smWf {β : Type} (d : Nat → β) (m : SMap β) : Prop :=
  m.Pairwise (fun a b => a.1 < b.1) ∧ ∀ e ∈ m, e.2 ≠ d e.1

end Sys2Proof.Machine
end

