-- ==== Sys2Proof/Machine/Operands.lean ====
section
/-! DEFINITION. Operand forms: bit fields, two's complement, the signed differences by which line numbers,
frame numbers and times are ordered (R48, R79), the rounding rules of the manual, and times in core clocks
of 1.25 ns (R22, R23). -/

namespace Sys2Proof.Machine

/-- Bits hi down to lo of a value. -/
def fld (v hi lo : Nat) : Nat := v / 2 ^ lo % 2 ^ (hi + 1 - lo)

/-- The value with bits hi down to lo replaced by `x`, cut to the field's width. -/
def putFld (v hi lo x : Nat) : Nat := v - fld v hi lo * 2 ^ lo + x % 2 ^ (hi + 1 - lo) * 2 ^ lo

/-- Bit i of a value. -/
def bitOf (v i : Nat) : Bool := v / 2 ^ i % 2 == 1

/-- The value with bit i set. -/
def setB (v i : Nat) : Nat := if bitOf v i then v else v + 2 ^ i

/-- The value with bit i clear. -/
def clrB (v i : Nat) : Nat := if bitOf v i then v - 2 ^ i else v

/-- The value with bit i as given. -/
def putB (v i : Nat) (b : Bool) : Nat := if b then setB v i else clrB v i

/-- A flag as 0 or 1. -/
def b2n (b : Bool) : Nat := if b then 1 else 0

/-- The low w bits of a value read as two's complement. -/
def sgn (w v : Nat) : Int :=
  if v % 2 ^ w < 2 ^ (w - 1) then (v % 2 ^ w : Nat) else (v % 2 ^ w : Nat) - (2 ^ w : Nat)

/-- An integer as w bits of two's complement. -/
def unsgn (w : Nat) (x : Int) : Nat := (x % (2 ^ w : Nat)).toNat

/-- The signed difference a - b in w bits (R48). A difference of exactly -2^(w-1) is negative. -/
def sdiff (w a b : Nat) : Int := sgn w (a % 2 ^ w + 2 ^ w - b % 2 ^ w)

/-- The signed 32-bit difference of two line numbers (R79). -/
def ldiff (a b : Nat) : Int := sdiff 32 a b

/-- A line number plus an integer, modulo 2^32 (R79). -/
def ladd (a : Nat) (n : Int) : Nat := unsgn 32 ((a : Int) + n)

/-- An integer held between two bounds. -/
def clampI (lo hi x : Int) : Int := if x < lo then lo else if hi < x then hi else x

/-- Truncation toward zero of n / d. -/
def truncDiv (n : Int) (d : Nat) : Int := if 0 ≤ n then n / (d : Int) else -((-n) / (d : Int))

/-- n / d rounded to nearest, halves away from zero. -/
def roundAway (n : Int) (d : Nat) : Int :=
  if 0 ≤ n then (2 * n + d) / (2 * (d : Int)) else -((2 * (-n) + d) / (2 * (d : Int)))

/-- Saturating count in w bits. -/
def satInc (w v : Nat) : Nat := if v + 1 < 2 ^ w then v + 1 else 2 ^ w - 1

/-- Saturating addition in w bits. -/
def satAdd (w v n : Nat) : Nat := if v + n < 2 ^ w then v + n else 2 ^ w - 1

/-- A signed value saturated to w bits of two's complement. -/
def satSgn (w : Nat) (x : Int) : Nat := unsgn w (clampI (-(2 ^ (w - 1) : Nat)) ((2 ^ (w - 1) : Nat) - 1) x)

/-- Microseconds and milliseconds in core clocks at 800 MHz. -/
def usClk (n : Nat) : Nat := n * 800
def msClk (n : Nat) : Nat := n * 800000

/-- Nanoseconds as core clocks: to the nearest clock, and rounded up. -/
def nsClk (n : Nat) : Nat := (n * 4 + 2) / 5
def nsClkUp (n : Nat) : Nat := (n * 4 + 4) / 5

/-- A register field in which 0 is treated as 1. -/
def atLeast1 (n : Nat) : Nat := if n = 0 then 1 else n

/-- The little-endian bytes of a value. -/
def leBytes : Nat → Nat → List Byte
  | 0, _ => []
  | n + 1, v => BitVec.ofNat 8 (v % 256) :: leBytes n (v / 256)

/-- The value of little-endian bytes. -/
def leValue : List Byte → Nat
  | [] => 0
  | b :: bs => b.toNat + 256 * leValue bs

/-- The indices of the set bits of the low w bits of a mask, rising. -/
def bitsOf (w m : Nat) : List Nat := (List.range w).filter (bitOf m)

/-- The mask with the bits of a list set. -/
def maskOf (l : List Nat) : Nat := l.foldl setB 0

/-- A key before another, the first difference deciding. -/
def keyBefore : List Nat → List Nat → Bool
  | a :: l, b :: m => if a = b then keyBefore l m else decide (a < b)
  | _, _ => false

end Sys2Proof.Machine
end

