-- ==== Sys2Proof/Machine/Coding.lean ====
section
/-! DEFINITION. The line coding of the head link: the 66-bit blocks, their scrambler and the IDLE blocks between them
(R180 to R182, R212), and the training frame (R187). The first bit on the line is bit 0 of a value. -/

namespace Sys2Proof.Machine

/-! ## The CRC-8 -/

/-- One bit of the CRC-8 of R188: the register shifts left, polynomial 0x07. -/
def crc8Bit (crc : Nat) (b : Bool) : Nat :=
  let c := crc * 2 % 256
  if (bitOf crc 7) != b then c ^^^ 0x07 else c

/-- The CRC-8 of R188 over bits [55:0] of a payload, bit 0 first. -/
def crc8 (v : Nat) : Nat := ((List.range 56).map (bitOf v)).foldl crc8Bit 0

/-- A 64-bit payload with its CRC-8 stored bit k of the CRC in bit 56 + k. -/
def withCrc8 (v : Nat) : Nat := v % 2 ^ 56 + crc8 (v % 2 ^ 56) * 2 ^ 56

/-- Whether the CRC-8 in bits [63:56] of a payload is right. -/
def crc8Ok (v : Nat) : Bool := fld v 63 56 == crc8 (v % 2 ^ 56)

/-! ## Blocks -/

/-- The sync headers H0H1 as R180 writes them: 0b01 DATA, 0b10 CONTROL; the other two are invalid. -/
def dataHeader : Nat := 0b01
def controlHeader : Nat := 0b10

/-- Whether a received sync header is valid. -/
def headerOk (h : Nat) : Bool := h == dataHeader || h == controlHeader

/-- The payload of an IDLE block (R208, R209). -/
def idleBlock : Nat := withCrc8 0x1E

/-- k bits, at most 39, through the scrambler x^58 + x^39 + 1: bit 57 of the register is the bit sent last. -/
def scrambleBits (k reg d : Nat) : Nat × Nat :=
  let out := (d ^^^ (reg / 2 ^ 19) ^^^ reg) % 2 ^ k
  (reg / 2 ^ k + out * 2 ^ (58 - k), out)

/-- The same back: the register holds the bits received. -/
def descrambleBits (k reg r : Nat) : Nat × Nat :=
  (reg / 2 ^ k + r % 2 ^ k * 2 ^ (58 - k), (r ^^^ (reg / 2 ^ 19) ^^^ reg) % 2 ^ k)

/-- A payload through either, in two halves. -/
def throughHalves (f : Nat → Nat → Nat → Nat × Nat) (reg v : Nat) : Nat × Nat :=
  let a := f 32 reg (v % 2 ^ 32)
  let b := f 32 a.1 (v / 2 ^ 32 % 2 ^ 32)
  (b.1, a.2 + b.2 * 2 ^ 32)
def scramble : Nat → Nat → Nat × Nat := throughHalves scrambleBits
def descramble : Nat → Nat → Nat × Nat := throughHalves descrambleBits

/-- The blocks in which a lane sends payloads, each given with its sync header: an IDLE block goes out first where
1,000 blocks have passed without one (R212), but not before an `urgent` block, a stop copy or TICK (R236). `reg` is the
scrambler, `n` the blocks since the last IDLE. -/
def codeBlocks (urgent : Bool) : (reg n : Nat) → List (Nat × Nat) → (Nat × Nat) × List (Nat × Nat)
  | reg, n, [] => ((reg, n), [])
  | reg, n, (h, p) :: bs =>
    let i := scramble reg idleBlock
    let due := !urgent && decide (1000 ≤ n)
    let x := scramble (if due then i.1 else reg) p
    let r := codeBlocks urgent x.1 ((if due then 0 else n) + 1) bs
    (r.1, (if due then [(controlHeader, i.2)] else []) ++ (h, x.2) :: r.2)

/-- The payloads of blocks received. Without a register the first block is the one that R181 discards: it only fills
the register. -/
def decodeBlocks : (reg : Option Nat) → List (Nat × Nat) → Option Nat × List (Nat × Nat)
  | reg, [] => (reg, [])
  | none, (_, r) :: bs => decodeBlocks (some (r % 2 ^ 64 / 2 ^ 6)) bs
  | some reg, (h, r) :: bs =>
    let x := descramble reg r
    let d := decodeBlocks (some x.1) bs
    (d.1, (h, x.2) :: d.2)

/-- An ALIGN block: its logical lane number in [9:8], and its other content zero (R243). -/
def alignBlock (lane : Nat) : Nat := withCrc8 (0x2D + lane * 2 ^ 8)

/-- What a block says as ALIGN, as the lane receives it before any inversion: the logical lane number, and whether the lane
is inverted (R243). -/
def readAlign (b : Nat × Nat) : Option (Nat × Bool) :=
  (List.range 4).findSome? (fun n =>
    if b.1 = controlHeader ∧ b.2 = alignBlock n then some (n, false)
    else if b.1 = dataHeader ∧ b.2 + alignBlock n + 1 = 2 ^ 64 then some (n, true) else none)

/-- A set of ALIGN blocks of physical lanes 0 to 3 that names each logical lane once: the logical numbers, 2 bits a physical
lane, and a bit for each inverted lane. -/
def readAlignSet (bs : List (Nat × Nat)) : Option (Nat × Nat) :=
  let r := bs.filterMap readAlign
  if bs.length = 4 ∧ (List.range 4).all (fun n => r.any (fun x => x.1 == n)) ∧ r.length = 4 then
    some ((r.zipIdx).foldl (fun v x => v + x.1.1 * 4 ^ x.2) 0, (r.zipIdx).foldl (fun v x => v + b2n x.1.2 * 2 ^ x.2) 0)
  else none

/-- Valid IDLE blocks in a row at the end of what has been received, `n` of them before (R185). -/
def idleRun (n : Nat) (bs : List (Nat × Nat)) : Nat :=
  bs.foldl (fun n b => if b.1 == controlHeader && b.2 == idleBlock then n + 1 else 0) n

/-- The payloads of a multi-block frame with their headers: the start block and END are CONTROL blocks (R210). -/
def withHeaders (words : List Nat) : List (Nat × Nat) :=
  (words.zipIdx).map (fun p => (if p.2 = 0 ∨ p.2 + 1 = words.length then controlHeader else dataHeader, p.1))

/-! ## Training frames (R187) -/

/-- Eight bits of PRBS11, x^11 + x^9 + 1: bit 10 of the register is the bit sent last. -/
def prbsByte (reg : Nat) : Nat × Nat :=
  let out := (reg ^^^ (reg / 4)) % 256
  (reg / 256 % 8 + out * 8, out)

/-- n bytes of it: the register after them, and the bits. -/
def prbsBytes : (n reg : Nat) → Nat × Nat
  | 0, reg => (reg, 0)
  | n + 1, reg =>
    let a := prbsByte reg
    let b := prbsBytes n a.1
    (b.1, a.2 + b.2 * 256)

/-- The 512 UI of the control field: a 1 is four 1s then four 0s, a 0 four 0s then four 1s. -/
def controlUi (field : Nat) : Nat :=
  (List.range 64).foldr (fun i acc => acc * 256 + (if bitOf field i then 0x0F else 0xF0)) 0

/-- The 4,096 UI of a training frame: the marker, the control field, and the test segment of 444 bytes. -/
def trainingUi (field segment : Nat) : Nat := 0xFFFF + controlUi field * 2 ^ 32 + segment * 2 ^ 544

end Sys2Proof.Machine
end

