-- ==== Sys2Proof/Config.lean ====
section
/-! DEFINITION. What the manual leaves open. A constant without a body stands for a value that the manual
calls for and does not state: no proof can see what it is. -/

namespace Sys2Proof.Config

/-- The n-th free value drawn (log 2): `State.freeCount` counts them. -/
opaque freeWord : Nat → BitVec 32

/-- The temperature read of an NTC where the Beta equation has no value: B, R25 or the resistance is 0 (R330, log 5). -/
opaque ntcTemp : (beta r25 ohms : Nat) → BitVec 16

/-- Where the scrambler and the PRBS11 of channel c start (R181, R187; log 87): any state but all zeros is allowed. -/
opaque scramblerSeed : (c : Nat) → Nat
opaque prbsSeed : (c : Nat) → Nat

end Sys2Proof.Config
end

