-- ==== Sys2Proof/Machine/Reg.lean ====
section
/-! DEFINITION. Register addresses, named PAGE_REGISTER as the manual names them (R33, R55, R56 and the
register map of each chapter). A register's key is page index times 4096 plus its offset, so a PF0
register's key is its BAR0 address. The PF1 pages of R56 take the page indices 0x100 to 0x102, and the
sixteen banks behind ISPCTX's CTX_SELECT (R256) take 0x200 to 0x20F. -/

namespace Sys2Proof.Machine.Reg

/-! The page indices of R55 and R56, as functions of the instance where a page has several. -/
@[simp, reducible] def pageSYS : Nat := 0x000
@[simp, reducible] def pageCLK : Nat := 0x001
@[simp, reducible] def pagePWR : Nat := 0x002
@[simp, reducible] def pageTHERM : Nat := 0x003
@[simp, reducible] def pageLOCKS : Nat := 0x004
@[simp, reducible] def pageINTC : Nat := 0x005
@[simp, reducible] def pageLINE : Nat := 0x010
@[simp, reducible] def pageENC : Nat := 0x011
@[simp, reducible] def pageAPPLY : Nat := 0x012
@[simp, reducible] def pagePLANE (i : Nat) : Nat := 0x018 + i
@[simp, reducible] def pageCH (i : Nat) : Nat := 0x020 + i
@[simp, reducible] def pageYARD : Nat := 0x0B0
@[simp, reducible] def pageIOMMU : Nat := 0x0B1
@[simp, reducible] def pageJOB : Nat := 0x0B4
@[simp, reducible] def pageDRAM (i : Nat) : Nat := 0x0C0 + i
@[simp, reducible] def pageCAM (i : Nat) : Nat := 0x0C8 + i
@[simp, reducible] def pageISP : Nat := 0x0CA
@[simp, reducible] def pageISPCTX (i : Nat) : Nat := 0x200 + i
@[simp, reducible] def pageSTATS : Nat := 0x0CC
@[simp, reducible] def pageSCALER : Nat := 0x0D0
@[simp, reducible] def pageLAMP (i : Nat) : Nat := 0x0D4 + i
@[simp, reducible] def pageLAMPSEQ : Nat := 0x0D8
@[simp, reducible] def pageNET (i : Nat) : Nat := 0x0E0 + i
@[simp, reducible] def pagePRP : Nat := 0x0E2
@[simp, reducible] def pageTIME : Nat := 0x0E3
@[simp, reducible] def pageTIO : Nat := 0x0E4
@[simp, reducible] def pagePEER (i : Nat) : Nat := 0x0E8 + i
@[simp, reducible] def pagePAIR : Nat := 0x0EB
@[simp, reducible] def pageRING : Nat := 0x0EC
@[simp, reducible] def pageMBOX : Nat := 0x0F0
@[simp, reducible] def pageTALLY : Nat := 0x0F4
@[simp, reducible] def pageMBOXS : Nat := 0x100
@[simp, reducible] def pageNVS : Nat := 0x101
@[simp, reducible] def pageFW : Nat := 0x102
@[simp, reducible] def pageISPCTX_PORT : Nat := 0x0CB

/-! The common header of R33, by page index. -/
@[simp, reducible] def PAGE_ID (page : Nat) : Nat := page * 0x1000 + 0x000
@[simp, reducible] def PAGE_CAP (page : Nat) : Nat := page * 0x1000 + 0x004
@[simp, reducible] def CTRL (page : Nat) : Nat := page * 0x1000 + 0x008
@[simp, reducible] def STATUS (page : Nat) : Nat := page * 0x1000 + 0x00C
@[simp, reducible] def INT_STATUS (page : Nat) : Nat := page * 0x1000 + 0x010
@[simp, reducible] def INT_ENABLE (page : Nat) : Nat := page * 0x1000 + 0x014
@[simp, reducible] def INT_FORCE (page : Nat) : Nat := page * 0x1000 + 0x018
@[simp, reducible] def ERR_INFO (page : Nat) : Nat := page * 0x1000 + 0x01C
@[simp, reducible] def ERR_COUNT (page : Nat) : Nat := page * 0x1000 + 0x020
@[simp, reducible] def SHADOW_CTRL (page : Nat) : Nat := page * 0x1000 + 0x024
@[simp, reducible] def ARM_TARGET (page : Nat) : Nat := page * 0x1000 + 0x028
@[simp, reducible] def SCRATCH (page : Nat) : Nat := page * 0x1000 + 0x02C

/-! INTC: R60. -/
@[simp, reducible] def INTC_GROUP_STATUS0 : Nat := 0x5040
@[simp, reducible] def INTC_GROUP_STATUS1 : Nat := 0x5044
@[simp, reducible] def INTC_GROUP_MASK0 : Nat := 0x5048
@[simp, reducible] def INTC_GROUP_MASK1 : Nat := 0x504C
@[simp, reducible] def INTC_CH_PENDING (n : Nat) : Nat := 0x5050 + 0x4 * n
@[simp, reducible] def INTC_VEC_ACK : Nat := 0x5060
@[simp, reducible] def INTC_HOLDOFF : Nat := 0x5064
@[simp, reducible] def INTC_VEC_MAP (n : Nat) : Nat := 0x5080 + 0x4 * n

/-! LOCKS: R62. -/
@[simp, reducible] def LOCKS_LOCK (n : Nat) : Nat := 0x4040 + 0x4 * n
@[simp, reducible] def LOCKS_HELD0 : Nat := 0x4140
@[simp, reducible] def LOCKS_HELD1 : Nat := 0x4144
@[simp, reducible] def LOCKS_FORCE_RELEASE : Nat := 0x4148

/-! SYS: R66. -/
@[simp, reducible] def SYS_DEVICE_ID : Nat := 0x40
@[simp, reducible] def SYS_REVISION : Nat := 0x44
@[simp, reducible] def SYS_SERIAL_LO : Nat := 0x48
@[simp, reducible] def SYS_SERIAL_HI : Nat := 0x4C
@[simp, reducible] def SYS_FW_VERSION : Nat := 0x50
@[simp, reducible] def SYS_CONFIG : Nat := 0x54
@[simp, reducible] def SYS_MODULE_STATE : Nat := 0x58
@[simp, reducible] def SYS_RESET_CTRL : Nat := 0x5C
@[simp, reducible] def SYS_RESET_CAUSE : Nat := 0x60

/-! CLK: R68. -/
@[simp, reducible] def CLK_PLL_STATUS : Nat := 0x1040
@[simp, reducible] def CLK_PLL_LOSS : Nat := 0x1044
@[simp, reducible] def CLK_CORE_FREQ : Nat := 0x1048
@[simp, reducible] def CLK_REF_FREQ : Nat := 0x104C

/-! LINE: R105. -/
@[simp, reducible] def LINE_RUN_CTRL : Nat := 0x10040
@[simp, reducible] def LINE_RUN_CFG : Nat := 0x10044
@[simp, reducible] def LINE_START_LINE : Nat := 0x10048
@[simp, reducible] def LINE_STOP_LINE : Nat := 0x1004C
@[simp, reducible] def LINE_LOOKAHEAD : Nat := 0x10050
@[simp, reducible] def LINE_CURRENT_LINE : Nat := 0x10054
@[simp, reducible] def LINE_ADMIT_LINE : Nat := 0x10058
@[simp, reducible] def LINE_MISS_CTRL : Nat := 0x1005C
@[simp, reducible] def LINE_MISS_COUNT : Nat := 0x10060
@[simp, reducible] def LINE_MISS_LAST : Nat := 0x10064
@[simp, reducible] def LINE_BUDGET_MIN : Nat := 0x10068
@[simp, reducible] def LINE_PERIOD : Nat := 0x1006C
@[simp, reducible] def LINE_PERIOD_AVG : Nat := 0x10070
@[simp, reducible] def LINE_TICK_FRC_LO : Nat := 0x10074
@[simp, reducible] def LINE_TICK_FRC_HI : Nat := 0x10078
@[simp, reducible] def LINE_SPEED_ADVICE : Nat := 0x1007C
@[simp, reducible] def LINE_ADVICE_CAP : Nat := 0x10080
@[simp, reducible] def LINE_OVERSPEED_COUNT : Nat := 0x10084

/-! ENC: R106. -/
@[simp, reducible] def ENC_SOURCE : Nat := 0x11040
@[simp, reducible] def ENC_ENC0_CFG : Nat := 0x11044
@[simp, reducible] def ENC_ENC1_CFG : Nat := 0x11048
@[simp, reducible] def ENC_CPL0 : Nat := 0x1104C
@[simp, reducible] def ENC_CPL1 : Nat := 0x11050
@[simp, reducible] def ENC_COUNT0 : Nat := 0x11054
@[simp, reducible] def ENC_COUNT1 : Nat := 0x11058
@[simp, reducible] def ENC_ENC_STATUS : Nat := 0x1105C
@[simp, reducible] def ENC_SLIP_CFG : Nat := 0x11060
@[simp, reducible] def ENC_SLIP_VALUE : Nat := 0x11064
@[simp, reducible] def ENC_REVERSE_LIMIT : Nat := 0x11068
@[simp, reducible] def ENC_VENC_PERIOD : Nat := 0x1106C
@[simp, reducible] def ENC_VENC_TIO : Nat := 0x11070

/-! APPLY: R107. -/
@[simp, reducible] def APPLY_SLOT_FREE : Nat := 0x12040
@[simp, reducible] def APPLY_SLOT_DONE : Nat := 0x12044
@[simp, reducible] def APPLY_SLOT_LATE : Nat := 0x12048
@[simp, reducible] def APPLY_SLOT_REFUSED : Nat := 0x1204C
@[simp, reducible] def APPLY_SLOT_RAMPING : Nat := 0x12050
@[simp, reducible] def APPLY_NEXT_LINE : Nat := 0x12054
@[simp, reducible] def APPLY_SLOT_TARGET (n : Nat) : Nat := 0x12400 + 0x20 * n
@[simp, reducible] def APPLY_SLOT_ACTION (n : Nat) : Nat := 0x12404 + 0x20 * n
@[simp, reducible] def APPLY_SLOT_MASK0 (n : Nat) : Nat := 0x12408 + 0x20 * n
@[simp, reducible] def APPLY_SLOT_MASK1 (n : Nat) : Nat := 0x1240C + 0x20 * n
@[simp, reducible] def APPLY_SLOT_MASK2 (n : Nat) : Nat := 0x12410 + 0x20 * n
@[simp, reducible] def APPLY_SLOT_MASK3 (n : Nat) : Nat := 0x12414 + 0x20 * n
@[simp, reducible] def APPLY_SLOT_CTRL (n : Nat) : Nat := 0x12418 + 0x20 * n
@[simp, reducible] def APPLY_SLOT_STATUS (n : Nat) : Nat := 0x1241C + 0x20 * n

/-! CH: R109, R177, R206, R238. -/
@[simp, reducible] def CH_LINE_OFFSET (i : Nat) : Nat := 0x20100 + 0x1000 * i
@[simp, reducible] def CH_DELAY_TAPS (i : Nat) : Nat := 0x20104 + 0x1000 * i
@[simp, reducible] def CH_COL_SHIFT (i : Nat) : Nat := 0x20108 + 0x1000 * i
@[simp, reducible] def CH_SCREEN_CFG (i : Nat) : Nat := 0x200C0 + 0x1000 * i
@[simp, reducible] def CH_SCREEN_CTRL (i : Nat) : Nat := 0x200C4 + 0x1000 * i
@[simp, reducible] def CH_MISMATCH_COUNT (i : Nat) : Nat := 0x200C8 + 0x1000 * i
@[simp, reducible] def CH_MISMATCH_ABSENT_COUNT (i : Nat) : Nat := 0x200CC + 0x1000 * i
@[simp, reducible] def CH_MISMATCH_LAST (i : Nat) : Nat := 0x200D0 + 0x1000 * i
@[simp, reducible] def CH_SEAL_ABSENT_COUNT (i : Nat) : Nat := 0x200D4 + 0x1000 * i
@[simp, reducible] def CH_LEVEL_CLAMP_COUNT (i : Nat) : Nat := 0x200D8 + 0x1000 * i
@[simp, reducible] def CH_SCREEN_STATE (i : Nat) : Nat := 0x200DC + 0x1000 * i
@[simp, reducible] def CH_NOZZLE_STATES (i : Nat) : Nat := 0x200E0 + 0x1000 * i
@[simp, reducible] def CH_NOZZLE_DISABLED (i : Nat) : Nat := 0x200E4 + 0x1000 * i
@[simp, reducible] def CH_CH_CTRL (i : Nat) : Nat := 0x20040 + 0x1000 * i
@[simp, reducible] def CH_LINK_CFG (i : Nat) : Nat := 0x20044 + 0x1000 * i
@[simp, reducible] def CH_LINK_TIMEOUTS (i : Nat) : Nat := 0x20048 + 0x1000 * i
@[simp, reducible] def CH_LINK_CTRL (i : Nat) : Nat := 0x2004C + 0x1000 * i
@[simp, reducible] def CH_LINK_STATUS (i : Nat) : Nat := 0x20050 + 0x1000 * i
@[simp, reducible] def CH_TX_TAPS (i : Nat) : Nat := 0x20054 + 0x1000 * i
@[simp, reducible] def CH_HEAD_TAPS (i : Nat) : Nat := 0x20058 + 0x1000 * i
@[simp, reducible] def CH_EYE (i : Nat) : Nat := 0x2005C + 0x1000 * i
@[simp, reducible] def CH_EYE_MIN (i : Nat) : Nat := 0x20060 + 0x1000 * i
@[simp, reducible] def CH_LOCK_COUNT (i : Nat) : Nat := 0x20064 + 0x1000 * i
@[simp, reducible] def CH_LOCK_LOSS_COUNT (i : Nat) : Nat := 0x20068 + 0x1000 * i
@[simp, reducible] def CH_HEADER_ERR_COUNT (i : Nat) : Nat := 0x2006C + 0x1000 * i
@[simp, reducible] def CH_RETRAIN_COUNT (i : Nat) : Nat := 0x20070 + 0x1000 * i
@[simp, reducible] def CH_FALLBACK_COUNT (i : Nat) : Nat := 0x20074 + 0x1000 * i
@[simp, reducible] def CH_TRAIN_TIME (i : Nat) : Nat := 0x20078 + 0x1000 * i
@[simp, reducible] def CH_PROTO_CFG (i : Nat) : Nat := 0x20080 + 0x1000 * i
@[simp, reducible] def CH_PROTO_STATUS (i : Nat) : Nat := 0x20084 + 0x1000 * i
@[simp, reducible] def CH_HEAD_VENDOR (i : Nat) : Nat := 0x20088 + 0x1000 * i
@[simp, reducible] def CH_HEAD_SERIAL_LO (i : Nat) : Nat := 0x2008C + 0x1000 * i
@[simp, reducible] def CH_HEAD_SERIAL_HI (i : Nat) : Nat := 0x20090 + 0x1000 * i
@[simp, reducible] def CH_HEAD_CAPS (i : Nat) : Nat := 0x20094 + 0x1000 * i
@[simp, reducible] def CH_HEAD_VERSION (i : Nat) : Nat := 0x20098 + 0x1000 * i
@[simp, reducible] def CH_TABLE_SRC_LO (i : Nat) : Nat := 0x2009C + 0x1000 * i
@[simp, reducible] def CH_TABLE_SRC_HI (i : Nat) : Nat := 0x200A0 + 0x1000 * i
@[simp, reducible] def CH_TABLE_CMD (i : Nat) : Nat := 0x200A4 + 0x1000 * i
@[simp, reducible] def CH_TABLE_LINE (i : Nat) : Nat := 0x200A8 + 0x1000 * i
@[simp, reducible] def CH_TABLE_STATUS (i : Nat) : Nat := 0x200AC + 0x1000 * i
@[simp, reducible] def CH_ECHO_RTT (i : Nat) : Nat := 0x200B0 + 0x1000 * i
@[simp, reducible] def CH_HEAD_PERIOD (i : Nat) : Nat := 0x200B4 + 0x1000 * i
@[simp, reducible] def CH_CNT_SEL (i : Nat) : Nat := 0x200B8 + 0x1000 * i
@[simp, reducible] def CH_HEAD_CNT (i : Nat) : Nat := 0x200BC + 0x1000 * i

/-! YARD: R146. -/
@[simp, reducible] def YARD_QUEUE_ACTIVE : Nat := 0xB0040
@[simp, reducible] def YARD_QUEUE_FAULTED : Nat := 0xB0044
@[simp, reducible] def YARD_QUEUE_DONE : Nat := 0xB0048
@[simp, reducible] def YARD_SEAL_MISMATCH_COUNT : Nat := 0xB004C
@[simp, reducible] def YARD_SEAL_BAD : Nat := 0xB0050
@[simp, reducible] def YARD_SEAL_BAD_ROW : Nat := 0xB0054
@[simp, reducible] def YARD_BYTES_LO : Nat := 0xB0058
@[simp, reducible] def YARD_BYTES_HI : Nat := 0xB005C
@[simp, reducible] def YARD_RATE_IN : Nat := 0xB0060
@[simp, reducible] def YARD_Q_BASE_LO (n : Nat) : Nat := 0xB0100 + 0x40 * n
@[simp, reducible] def YARD_Q_BASE_HI (n : Nat) : Nat := 0xB0104 + 0x40 * n
@[simp, reducible] def YARD_Q_CFG (n : Nat) : Nat := 0xB0108 + 0x40 * n
@[simp, reducible] def YARD_Q_PASID (n : Nat) : Nat := 0xB010C + 0x40 * n
@[simp, reducible] def YARD_Q_TAIL (n : Nat) : Nat := 0xB0110 + 0x40 * n
@[simp, reducible] def YARD_Q_HEAD (n : Nat) : Nat := 0xB0114 + 0x40 * n
@[simp, reducible] def YARD_Q_STATUS (n : Nat) : Nat := 0xB0118 + 0x40 * n
@[simp, reducible] def YARD_Q_CTRL (n : Nat) : Nat := 0xB011C + 0x40 * n
@[simp, reducible] def YARD_Q_WB_LO (n : Nat) : Nat := 0xB0120 + 0x40 * n
@[simp, reducible] def YARD_Q_WB_HI (n : Nat) : Nat := 0xB0124 + 0x40 * n
@[simp, reducible] def YARD_Q_DONE (n : Nat) : Nat := 0xB0128 + 0x40 * n
@[simp, reducible] def YARD_REG_BASE (n : Nat) : Nat := 0xB0800 + 0x10 * n
@[simp, reducible] def YARD_REG_SIZE (n : Nat) : Nat := 0xB0804 + 0x10 * n
@[simp, reducible] def YARD_REG_ATTR (n : Nat) : Nat := 0xB0808 + 0x10 * n

/-! IOMMU: R148. -/
@[simp, reducible] def IOMMU_IOMMU_CFG : Nat := 0xB1040
@[simp, reducible] def IOMMU_ATC_STATUS : Nat := 0xB1044
@[simp, reducible] def IOMMU_ATC_FLUSH : Nat := 0xB1048
@[simp, reducible] def IOMMU_ATC_HIT : Nat := 0xB104C
@[simp, reducible] def IOMMU_ATC_MISS : Nat := 0xB1050
@[simp, reducible] def IOMMU_INVAL_COUNT : Nat := 0xB1054
@[simp, reducible] def IOMMU_PRI_OUTSTANDING : Nat := 0xB1058
@[simp, reducible] def IOMMU_PRI_TIMEOUT : Nat := 0xB105C
@[simp, reducible] def IOMMU_PRG_COUNT : Nat := 0xB1060
@[simp, reducible] def IOMMU_PRG_FAIL : Nat := 0xB1064
@[simp, reducible] def IOMMU_FAULT_ADDR_LO : Nat := 0xB1068
@[simp, reducible] def IOMMU_FAULT_ADDR_HI : Nat := 0xB106C
@[simp, reducible] def IOMMU_FAULT_INFO : Nat := 0xB1070

/-! JOB: R149. -/
@[simp, reducible] def JOB_JOB_CFG : Nat := 0xB4040
@[simp, reducible] def JOB_JOB_START : Nat := 0xB4044
@[simp, reducible] def JOB_JOB_END : Nat := 0xB4048
@[simp, reducible] def JOB_MAX_OFFSET : Nat := 0xB404C
@[simp, reducible] def JOB_REP_VALID : Nat := 0xB4050
@[simp, reducible] def JOB_REP_AGREED : Nat := 0xB4054
@[simp, reducible] def JOB_STARVE_COUNT : Nat := 0xB4058
@[simp, reducible] def JOB_DIGEST_LATE_COUNT : Nat := 0xB405C
@[simp, reducible] def JOB_DIGEST_MISMATCH_COUNT : Nat := 0xB4060
@[simp, reducible] def JOB_DIGEST_LAST : Nat := 0xB4064
@[simp, reducible] def JOB_DIGEST_LAST_ROW : Nat := 0xB4068
@[simp, reducible] def JOB_STREAM_ROWS : Nat := 0xB4070
@[simp, reducible] def JOB_STREAM_WRITE_ROW : Nat := 0xB4074
@[simp, reducible] def JOB_STREAM_RELEASE_ROW : Nat := 0xB4078
@[simp, reducible] def JOB_STREAM_CREDITS : Nat := 0xB407C
@[simp, reducible] def JOB_CREDIT_THRESHOLD : Nat := 0xB4080
@[simp, reducible] def JOB_STREAM_LAST_ROW : Nat := 0xB4084
@[simp, reducible] def JOB_SPLICE_REP : Nat := 0xB4090
@[simp, reducible] def JOB_SPLICE_COUNT : Nat := 0xB4094
@[simp, reducible] def JOB_SPLICE_HELD : Nat := 0xB4098
@[simp, reducible] def JOB_PSRC (n : Nat) : Nat := 0xB40C0 + 0x4 * n
@[simp, reducible] def JOB_REP_ROW (n : Nat) : Nat := 0xB4100 + 0x8 * n
@[simp, reducible] def JOB_REP_LENGTH (n : Nat) : Nat := 0xB4104 + 0x8 * n

/-! PLANE: R175. -/
@[simp, reducible] def PLANE_PLANE_CFG (i : Nat) : Nat := 0x18040 + 0x1000 * i
@[simp, reducible] def PLANE_THR_OFFSET (i : Nat) : Nat := 0x18044 + 0x1000 * i
@[simp, reducible] def PLANE_REDIST_W (i : Nat) : Nat := 0x18048 + 0x1000 * i
@[simp, reducible] def PLANE_SEAL_FAIL_COUNT (i : Nat) : Nat := 0x1804C + 0x1000 * i
@[simp, reducible] def PLANE_SEAL_FAIL_LINE (i : Nat) : Nat := 0x18050 + 0x1000 * i
@[simp, reducible] def PLANE_SEAL_FAIL_TILE (i : Nat) : Nat := 0x18054 + 0x1000 * i
@[simp, reducible] def PLANE_SEAL_FAIL_ROW (i : Nat) : Nat := 0x18058 + 0x1000 * i
@[simp, reducible] def PLANE_ABSENT_LINES (i : Nat) : Nat := 0x1805C + 0x1000 * i
@[simp, reducible] def PLANE_REDIST_LOST (i : Nat) : Nat := 0x18060 + 0x1000 * i
@[simp, reducible] def PLANE_KERF_GEN (i : Nat) : Nat := 0x18064 + 0x1000 * i

/-! CAM: R273. -/
@[simp, reducible] def CAM_PORT_CFG (i : Nat) : Nat := 0xC8040 + 0x1000 * i
@[simp, reducible] def CAM_LANE_STATUS (i : Nat) : Nat := 0xC8044 + 0x1000 * i
@[simp, reducible] def CAM_STREAM_MAP (i : Nat) (n : Nat) : Nat := 0xC8048 + 0x1000 * i + 0x4 * n
@[simp, reducible] def CAM_TRIG_CFG (i : Nat) : Nat := 0xC8058 + 0x1000 * i
@[simp, reducible] def CAM_TRIG_NUM (i : Nat) : Nat := 0xC805C + 0x1000 * i
@[simp, reducible] def CAM_TRIG_SKIPPED (i : Nat) : Nat := 0xC8060 + 0x1000 * i
@[simp, reducible] def CAM_TRIG_SKIP_LAST (i : Nat) : Nat := 0xC8064 + 0x1000 * i
@[simp, reducible] def CAM_CCI_CMD (i : Nat) : Nat := 0xC8068 + 0x1000 * i
@[simp, reducible] def CAM_CCI_REG (i : Nat) : Nat := 0xC806C + 0x1000 * i
@[simp, reducible] def CAM_CCI_DATA (i : Nat) : Nat := 0xC8070 + 0x1000 * i
@[simp, reducible] def CAM_CCI_STATUS (i : Nat) : Nat := 0xC8074 + 0x1000 * i
@[simp, reducible] def CAM_FRAMES_BOUND (i : Nat) : Nat := 0xC8078 + 0x1000 * i
@[simp, reducible] def CAM_FRAME_DROPPED (i : Nat) : Nat := 0xC807C + 0x1000 * i
@[simp, reducible] def CAM_DROP_LAST (i : Nat) : Nat := 0xC8080 + 0x1000 * i
@[simp, reducible] def CAM_UNMATCHED (i : Nat) : Nat := 0xC8084 + 0x1000 * i
@[simp, reducible] def CAM_UNMATCHED_LAST (i : Nat) : Nat := 0xC8088 + 0x1000 * i
@[simp, reducible] def CAM_FRAME_MISSING (i : Nat) : Nat := 0xC808C + 0x1000 * i
@[simp, reducible] def CAM_HDR_ECC_CORR (i : Nat) : Nat := 0xC8090 + 0x1000 * i
@[simp, reducible] def CAM_DISCARD_COUNT (i : Nat) : Nat := 0xC8094 + 0x1000 * i
@[simp, reducible] def CAM_LINK_ERR_COUNT (i : Nat) : Nat := 0xC8098 + 0x1000 * i
@[simp, reducible] def CAM_FIFO_PEAK (i : Nat) : Nat := 0xC809C + 0x1000 * i
@[simp, reducible] def CAM_POWER_STATUS (i : Nat) : Nat := 0xC80A0 + 0x1000 * i

/-! ISP: R274. -/
@[simp, reducible] def ISP_ISP_CFG : Nat := 0xCA040
@[simp, reducible] def ISP_OUT_MASK : Nat := 0xCA044
@[simp, reducible] def ISP_FIFO_LEVEL0 : Nat := 0xCA048
@[simp, reducible] def ISP_FIFO_LEVEL1 : Nat := 0xCA04C
@[simp, reducible] def ISP_PIXELS_LO : Nat := 0xCA050
@[simp, reducible] def ISP_PIXELS_HI : Nat := 0xCA054
@[simp, reducible] def ISP_LOAD : Nat := 0xCA058
@[simp, reducible] def ISP_CTX_ACTIVE : Nat := 0xCA05C

/-! ISPCTX: R275. -/
@[simp, reducible] def ISPCTX_CTX_SELECT (i : Nat) : Nat := 0x200040 + 0x1000 * i
@[simp, reducible] def ISPCTX_CTX_CFG (i : Nat) : Nat := 0x200044 + 0x1000 * i
@[simp, reducible] def ISPCTX_GEOMETRY (i : Nat) : Nat := 0x200048 + 0x1000 * i
@[simp, reducible] def ISPCTX_BLACK01 (i : Nat) : Nat := 0x20004C + 0x1000 * i
@[simp, reducible] def ISPCTX_BLACK23 (i : Nat) : Nat := 0x200050 + 0x1000 * i
@[simp, reducible] def ISPCTX_DPC_CFG (i : Nat) : Nat := 0x200054 + 0x1000 * i
@[simp, reducible] def ISPCTX_SHADING_CFG (i : Nat) : Nat := 0x200058 + 0x1000 * i
@[simp, reducible] def ISPCTX_WB01 (i : Nat) : Nat := 0x20005C + 0x1000 * i
@[simp, reducible] def ISPCTX_WB23 (i : Nat) : Nat := 0x200060 + 0x1000 * i
@[simp, reducible] def ISPCTX_CCM0 (i : Nat) : Nat := 0x200064 + 0x1000 * i
@[simp, reducible] def ISPCTX_CCM1 (i : Nat) : Nat := 0x200068 + 0x1000 * i
@[simp, reducible] def ISPCTX_CCM2 (i : Nat) : Nat := 0x20006C + 0x1000 * i
@[simp, reducible] def ISPCTX_CCM3 (i : Nat) : Nat := 0x200070 + 0x1000 * i
@[simp, reducible] def ISPCTX_CCM4 (i : Nat) : Nat := 0x200074 + 0x1000 * i
@[simp, reducible] def ISPCTX_ZONE_CFG (i : Nat) : Nat := 0x200078 + 0x1000 * i
@[simp, reducible] def ISPCTX_SAT_LEVEL (i : Nat) : Nat := 0x20007C + 0x1000 * i
@[simp, reducible] def ISPCTX_OUT_BASE (i : Nat) : Nat := 0x200080 + 0x1000 * i
@[simp, reducible] def ISPCTX_OUT_SLOTS (i : Nat) : Nat := 0x200084 + 0x1000 * i
@[simp, reducible] def ISPCTX_FRAMES (i : Nat) : Nat := 0x200088 + 0x1000 * i
@[simp, reducible] def ISPCTX_LAST_FRAME (i : Nat) : Nat := 0x20008C + 0x1000 * i
@[simp, reducible] def ISPCTX_TABLE_STATE (i : Nat) : Nat := 0x200090 + 0x1000 * i

/-! STATS: R277. -/
@[simp, reducible] def STATS_RING_BASE : Nat := 0xCC040
@[simp, reducible] def STATS_RING_SLOTS : Nat := 0xCC044
@[simp, reducible] def STATS_WRITE_IDX : Nat := 0xCC048
@[simp, reducible] def STATS_READ_IDX_HOST : Nat := 0xCC04C
@[simp, reducible] def STATS_READ_IDX_SCALER : Nat := 0xCC050
@[simp, reducible] def STATS_STATS_CFG : Nat := 0xCC054
@[simp, reducible] def STATS_PUBLISHED : Nat := 0xCC058
@[simp, reducible] def STATS_OVERFLOW : Nat := 0xCC05C

/-! SCALER: R308. -/
@[simp, reducible] def SCALER_SCALER_CFG : Nat := 0xD0040
@[simp, reducible] def SCALER_STRIP_ORIGIN : Nat := 0xD0044
@[simp, reducible] def SCALER_STRIP_PERIOD : Nat := 0xD0048
@[simp, reducible] def SCALER_STRIP_LINES : Nat := 0xD004C
@[simp, reducible] def SCALER_MARK_CFG : Nat := 0xD0050
@[simp, reducible] def SCALER_STAIR_CFG : Nat := 0xD0054
@[simp, reducible] def SCALER_PATCH_V0 : Nat := 0xD0058
@[simp, reducible] def SCALER_PATCH_V1 : Nat := 0xD005C
@[simp, reducible] def SCALER_TRIG_OFF_SPEC : Nat := 0xD0060
@[simp, reducible] def SCALER_TRIG_OFF_MARK : Nat := 0xD0064
@[simp, reducible] def SCALER_TRIG_OFF_STAIR : Nat := 0xD0068
@[simp, reducible] def SCALER_STRIP_NUM : Nat := 0xD006C
@[simp, reducible] def SCALER_STRIP_CTRL : Nat := 0xD0070
@[simp, reducible] def SCALER_BAND_STATE : Nat := 0xD0074
@[simp, reducible] def SCALER_CYCLE_CFG : Nat := 0xD0078
@[simp, reducible] def SCALER_CYCLE_NUM : Nat := 0xD007C
@[simp, reducible] def SCALER_DARK : Nat := 0xD0080
@[simp, reducible] def SCALER_TILE_MIN : Nat := 0xD0084
@[simp, reducible] def SCALER_MARK_MIN : Nat := 0xD0088
@[simp, reducible] def SCALER_REF_CH : Nat := 0xD008C
@[simp, reducible] def SCALER_RESULT_BASE : Nat := 0xD0090
@[simp, reducible] def SCALER_RESULT_SLOTS : Nat := 0xD0094
@[simp, reducible] def SCALER_RESULT_WRITE : Nat := 0xD0098
@[simp, reducible] def SCALER_RESULT_READ : Nat := 0xD009C
@[simp, reducible] def SCALER_MAP_BASE : Nat := 0xD00A0
@[simp, reducible] def SCALER_MARK_BASE : Nat := 0xD00A4
@[simp, reducible] def SCALER_XN_YN : Nat := 0xD00A8
@[simp, reducible] def SCALER_ZN : Nat := 0xD00AC
@[simp, reducible] def SCALER_BAND_RESULTS : Nat := 0xD00B0
@[simp, reducible] def SCALER_NO_TILE : Nat := 0xD00B4
@[simp, reducible] def SCALER_RESULT_OVERFLOW : Nat := 0xD00B8
@[simp, reducible] def SCALER_CYCLE_EXPIRED : Nat := 0xD00BC
@[simp, reducible] def SCALER_MARK_NOT_FOUND : Nat := 0xD00C0
@[simp, reducible] def SCALER_STRIP_SKIPPED : Nat := 0xD00C4
@[simp, reducible] def SCALER_DRIFT_CFG : Nat := 0xD00C8
@[simp, reducible] def SCALER_DRIFT_PENDING (n : Nat) : Nat := 0xD00CC + 0x4 * n
@[simp, reducible] def SCALER_DRIFT_REREF (n : Nat) : Nat := 0xD00DC + 0x4 * n
@[simp, reducible] def SCALER_QUALITY (n : Nat) : Nat := 0xD0100 + 0x4 * n
@[simp, reducible] def SCALER_MARK_RESID : Nat := 0xD0120
@[simp, reducible] def SCALER_POLICY_TONE : Nat := 0xD0140
@[simp, reducible] def SCALER_POLICY_REG : Nat := 0xD0144
@[simp, reducible] def SCALER_POLICY_NOZZLE : Nat := 0xD0148
@[simp, reducible] def SCALER_LOOP_CTRL : Nat := 0xD014C
@[simp, reducible] def SCALER_LOOP_STATUS : Nat := 0xD0150
@[simp, reducible] def SCALER_CTX_SCALE (n : Nat) : Nat := 0xD0200 + 0x4 * n
@[simp, reducible] def SCALER_BAND_EXP (n : Nat) : Nat := 0xD0300 + 0x4 * n
@[simp, reducible] def SCALER_CERT (n : Nat) : Nat := 0xD0340 + 0x4 * n
@[simp, reducible] def SCALER_TGT_LAB (n : Nat) : Nat := 0xD0400 + 0x8 * n
@[simp, reducible] def SCALER_TGT_BD (n : Nat) : Nat := 0xD0404 + 0x8 * n
@[simp, reducible] def SCALER_MATRIX (n : Nat) : Nat := 0xD0540 + 0x4 * n
@[simp, reducible] def SCALER_DENS_W (n : Nat) : Nat := 0xD0588 + 0x4 * n
@[simp, reducible] def SCALER_DENS_SEL : Nat := 0xD05D0
@[simp, reducible] def SCALER_DRIFT_REF (n : Nat) : Nat := 0xD0600 + 0x4 * n
@[simp, reducible] def SCALER_DRIFT_MEAN (n : Nat) : Nat := 0xD0700 + 0x4 * n

/-! LAMP: R335. -/
@[simp, reducible] def LAMP_GROUP_CFG (i : Nat) : Nat := 0xD4040 + 0x1000 * i
@[simp, reducible] def LAMP_GROUP_CTRL (i : Nat) : Nat := 0xD4044 + 0x1000 * i
@[simp, reducible] def LAMP_GROUP_STATUS (i : Nat) : Nat := 0xD4048 + 0x1000 * i
@[simp, reducible] def LAMP_HEADROOM (i : Nat) : Nat := 0xD404C + 0x1000 * i
@[simp, reducible] def LAMP_VOUT_LIMITS (i : Nat) : Nat := 0xD4050 + 0x1000 * i
@[simp, reducible] def LAMP_VOUT_SET (i : Nat) : Nat := 0xD4054 + 0x1000 * i
@[simp, reducible] def LAMP_VMIN_SINK (i : Nat) : Nat := 0xD4058 + 0x1000 * i
@[simp, reducible] def LAMP_BUS_MEAS (i : Nat) : Nat := 0xD405C + 0x1000 * i
@[simp, reducible] def LAMP_PMBUS_ERR (i : Nat) : Nat := 0xD4060 + 0x1000 * i
@[simp, reducible] def LAMP_NTC_CFG (i : Nat) : Nat := 0xD4064 + 0x1000 * i
@[simp, reducible] def LAMP_NTC_TEMP01 (i : Nat) : Nat := 0xD4068 + 0x1000 * i
@[simp, reducible] def LAMP_NTC_TEMP23 (i : Nat) : Nat := 0xD406C + 0x1000 * i
@[simp, reducible] def LAMP_NTC_LIMITS (i : Nat) : Nat := 0xD4070 + 0x1000 * i
@[simp, reducible] def LAMP_SINK_TEMP (i : Nat) : Nat := 0xD4074 + 0x1000 * i
@[simp, reducible] def LAMP_LAMP_LIMIT (i : Nat) : Nat := 0xD4078 + 0x1000 * i
@[simp, reducible] def LAMP_DIAG_FAULT (i : Nat) : Nat := 0xD407C + 0x1000 * i
@[simp, reducible] def LAMP_PROBE_CFG (i : Nat) : Nat := 0xD4080 + 0x1000 * i
@[simp, reducible] def LAMP_PROBE_ABORT (i : Nat) : Nat := 0xD4084 + 0x1000 * i
@[simp, reducible] def LAMP_CH_CFG (i : Nat) (n : Nat) : Nat := 0xD4100 + 0x1000 * i + 0x20 * n
@[simp, reducible] def LAMP_CH_PERIOD (i : Nat) (n : Nat) : Nat := 0xD4104 + 0x1000 * i + 0x20 * n
@[simp, reducible] def LAMP_CH_DRIVE (i : Nat) (n : Nat) : Nat := 0xD4108 + 0x1000 * i + 0x20 * n
@[simp, reducible] def LAMP_CH_LEVEL (i : Nat) (n : Nat) : Nat := 0xD410C + 0x1000 * i + 0x20 * n
@[simp, reducible] def LAMP_CH_DOSE (i : Nat) (n : Nat) : Nat := 0xD4110 + 0x1000 * i + 0x20 * n
@[simp, reducible] def LAMP_CH_OUT (i : Nat) (n : Nat) : Nat := 0xD4114 + 0x1000 * i + 0x20 * n
@[simp, reducible] def LAMP_CH_DIAG (i : Nat) (n : Nat) : Nat := 0xD4118 + 0x1000 * i + 0x20 * n
@[simp, reducible] def LAMP_CH_CTRL (i : Nat) (n : Nat) : Nat := 0xD411C + 0x1000 * i + 0x20 * n

/-! LAMPSEQ: R337. -/
@[simp, reducible] def LAMPSEQ_STROBE_TIMING : Nat := 0xD8040
@[simp, reducible] def LAMPSEQ_MASK_TIMING : Nat := 0xD8044
@[simp, reducible] def LAMPSEQ_PUSH_ENTRY : Nat := 0xD8048
@[simp, reducible] def LAMPSEQ_PUSH_CURRENT : Nat := 0xD804C
@[simp, reducible] def LAMPSEQ_PUSH_CTRL : Nat := 0xD8050
@[simp, reducible] def LAMPSEQ_QUEUE_STATUS : Nat := 0xD8054
@[simp, reducible] def LAMPSEQ_MISMATCH_COUNT : Nat := 0xD8058
@[simp, reducible] def LAMPSEQ_STROBE_SHORT : Nat := 0xD805C
@[simp, reducible] def LAMPSEQ_STROBES : Nat := 0xD8060
@[simp, reducible] def LAMPSEQ_WL_TOL : Nat := 0xD8064
@[simp, reducible] def LAMPSEQ_BAND_MASK_LO (n : Nat) : Nat := 0xD8080 + 0x8 * n
@[simp, reducible] def LAMPSEQ_BAND_MASK_HI (n : Nat) : Nat := 0xD8084 + 0x8 * n
@[simp, reducible] def LAMPSEQ_BAND_CURRENT (n : Nat) : Nat := 0xD80E0 + 0x4 * n
@[simp, reducible] def LAMPSEQ_WHITE0_MASK_LO : Nat := 0xD8110
@[simp, reducible] def LAMPSEQ_WHITE0_MASK_HI : Nat := 0xD8114
@[simp, reducible] def LAMPSEQ_WHITE1_MASK_LO : Nat := 0xD8118
@[simp, reducible] def LAMPSEQ_WHITE1_MASK_HI : Nat := 0xD811C
@[simp, reducible] def LAMPSEQ_WHITE_CURRENT : Nat := 0xD8120

/-! PEER: R376. -/
@[simp, reducible] def PEER_PORT_CFG (i : Nat) : Nat := 0xE8040 + 0x1000 * i
@[simp, reducible] def PEER_PORT_STATUS (i : Nat) : Nat := 0xE8044 + 0x1000 * i
@[simp, reducible] def PEER_PARTNER_SERIAL_LO (i : Nat) : Nat := 0xE8048 + 0x1000 * i
@[simp, reducible] def PEER_PARTNER_SERIAL_HI (i : Nat) : Nat := 0xE804C + 0x1000 * i
@[simp, reducible] def PEER_PARTNER_INFO (i : Nat) : Nat := 0xE8050 + 0x1000 * i
@[simp, reducible] def PEER_LINK_DELAY (i : Nat) : Nat := 0xE8054 + 0x1000 * i
@[simp, reducible] def PEER_LOCK_LOSS_COUNT (i : Nat) : Nat := 0xE8058 + 0x1000 * i
@[simp, reducible] def PEER_RENEG_COUNT (i : Nat) : Nat := 0xE805C + 0x1000 * i
@[simp, reducible] def PEER_HEADER_ERR_COUNT (i : Nat) : Nat := 0xE8060 + 0x1000 * i
@[simp, reducible] def PEER_FRAME_RETX (i : Nat) : Nat := 0xE8064 + 0x1000 * i
@[simp, reducible] def PEER_FRAME_ERR (i : Nat) : Nat := 0xE8068 + 0x1000 * i
@[simp, reducible] def PEER_PORT_CTRL (i : Nat) : Nat := 0xE806C + 0x1000 * i

/-! PAIR: R378. -/
@[simp, reducible] def PAIR_PAIR_CFG : Nat := 0xEB040
@[simp, reducible] def PAIR_PAIR_ID : Nat := 0xEB044
@[simp, reducible] def PAIR_GUARD_CFG : Nat := 0xEB048
@[simp, reducible] def PAIR_HB_CFG : Nat := 0xEB04C
@[simp, reducible] def PAIR_PAIR_STATUS : Nat := 0xEB050
@[simp, reducible] def PAIR_EPOCH : Nat := 0xEB054
@[simp, reducible] def PAIR_MIRROR_GEN : Nat := 0xEB058
@[simp, reducible] def PAIR_PARTNER_GEN : Nat := 0xEB05C
@[simp, reducible] def PAIR_TICK_SKEW : Nat := 0xEB060
@[simp, reducible] def PAIR_TICK_SKEW_MAX : Nat := 0xEB064
@[simp, reducible] def PAIR_HB_MISS : Nat := 0xEB068
@[simp, reducible] def PAIR_PAIR_CTRL : Nat := 0xEB06C
@[simp, reducible] def PAIR_HANDOVER_STATUS : Nat := 0xEB070
@[simp, reducible] def PAIR_HANDOVER_LINE : Nat := 0xEB074
@[simp, reducible] def PAIR_HEALTH : Nat := 0xEB078
@[simp, reducible] def PAIR_PARTNER_HEALTH : Nat := 0xEB07C
@[simp, reducible] def PAIR_DIGEST_FAIL : Nat := 0xEB080
@[simp, reducible] def PAIR_DUP_UNEXPLAINED : Nat := 0xEB084
@[simp, reducible] def PAIR_LOOKOUT_MAC_LO : Nat := 0xEB088
@[simp, reducible] def PAIR_LOOKOUT_MAC_HI : Nat := 0xEB08C
@[simp, reducible] def PAIR_PARTNER_MAC_LO : Nat := 0xEB090
@[simp, reducible] def PAIR_PARTNER_MAC_HI : Nat := 0xEB094
@[simp, reducible] def PAIR_LOOKOUT_COUNT : Nat := 0xEB098
@[simp, reducible] def PAIR_GRANT_WAIT : Nat := 0xEB09C

/-! RING: R380. -/
@[simp, reducible] def RING_RING_CFG : Nat := 0xEC040
@[simp, reducible] def RING_COLUMN_BASE : Nat := 0xEC044
@[simp, reducible] def RING_RING_STATUS : Nat := 0xEC048
@[simp, reducible] def RING_NODE_COUNT : Nat := 0xEC04C
@[simp, reducible] def RING_ACCEL_MAX : Nat := 0xEC050
@[simp, reducible] def RING_PITCH : Nat := 0xEC054
@[simp, reducible] def RING_TL : Nat := 0xEC058
@[simp, reducible] def RING_TL_MAX : Nat := 0xEC05C
@[simp, reducible] def RING_TIME_OFFSET : Nat := 0xEC060
@[simp, reducible] def RING_PRED_LATE : Nat := 0xEC064
@[simp, reducible] def RING_PRED_HOLD : Nat := 0xEC068
@[simp, reducible] def RING_ENUM_TIME : Nat := 0xEC06C
@[simp, reducible] def RING_RING_ADVICE : Nat := 0xEC070
@[simp, reducible] def RING_RING_CTRL : Nat := 0xEC074

/-! NET: R404. -/
@[simp, reducible] def NET_PORT_CFG (i : Nat) : Nat := 0xE0040 + 0x1000 * i
@[simp, reducible] def NET_PORT_STATUS (i : Nat) : Nat := 0xE0044 + 0x1000 * i
@[simp, reducible] def NET_INT_LAT (i : Nat) : Nat := 0xE0048 + 0x1000 * i
@[simp, reducible] def NET_EXT_DELAY (i : Nat) : Nat := 0xE004C + 0x1000 * i
@[simp, reducible] def NET_ASYM (i : Nat) : Nat := 0xE0050 + 0x1000 * i
@[simp, reducible] def NET_RX_FRAMES (i : Nat) : Nat := 0xE0054 + 0x1000 * i
@[simp, reducible] def NET_TX_FRAMES (i : Nat) : Nat := 0xE0058 + 0x1000 * i
@[simp, reducible] def NET_DROP_FCS (i : Nat) : Nat := 0xE005C + 0x1000 * i
@[simp, reducible] def NET_DROP_VLAN (i : Nat) : Nat := 0xE0060 + 0x1000 * i
@[simp, reducible] def NET_DROP_ADDR (i : Nat) : Nat := 0xE0064 + 0x1000 * i
@[simp, reducible] def NET_DROP_TYPE (i : Nat) : Nat := 0xE0068 + 0x1000 * i
@[simp, reducible] def NET_PTP_DELAY (i : Nat) : Nat := 0xE006C + 0x1000 * i
@[simp, reducible] def NET_PTP_OFFSET (i : Nat) : Nat := 0xE0070 + 0x1000 * i
@[simp, reducible] def NET_PTP_STATUS (i : Nat) : Nat := 0xE0074 + 0x1000 * i
@[simp, reducible] def NET_LINK_DOWN_COUNT (i : Nat) : Nat := 0xE0078 + 0x1000 * i

/-! PRP: R405. -/
@[simp, reducible] def PRP_NODE_MAC_LO : Nat := 0xE2040
@[simp, reducible] def PRP_NODE_MAC_HI : Nat := 0xE2044
@[simp, reducible] def PRP_VLAN_CFG : Nat := 0xE2048
@[simp, reducible] def PRP_PRP_CFG : Nat := 0xE204C
@[simp, reducible] def PRP_PTP_SRC_MAC_LO : Nat := 0xE2050
@[simp, reducible] def PRP_PTP_SRC_MAC_HI : Nat := 0xE2054
@[simp, reducible] def PRP_PTP_TRANSPORT : Nat := 0xE2058
@[simp, reducible] def PRP_NODE_IP : Nat := 0xE205C
@[simp, reducible] def PRP_REPORT_MAC_LO : Nat := 0xE2060
@[simp, reducible] def PRP_REPORT_MAC_HI : Nat := 0xE2064
@[simp, reducible] def PRP_POLICE_PTP : Nat := 0xE2068
@[simp, reducible] def PRP_POLICE_LOOKOUT : Nat := 0xE206C
@[simp, reducible] def PRP_POLICE_PARTNER : Nat := 0xE2070
@[simp, reducible] def PRP_POLICE_SUPERV : Nat := 0xE2074
@[simp, reducible] def PRP_DROP_POLICE : Nat := 0xE2078
@[simp, reducible] def PRP_DROP_QUEUE : Nat := 0xE207C
@[simp, reducible] def PRP_DUP_DISCARD : Nat := 0xE2080
@[simp, reducible] def PRP_NODE_COUNT : Nat := 0xE2084
@[simp, reducible] def PRP_LAN_ERR : Nat := 0xE2088

/-! TIME: R406. -/
@[simp, reducible] def TIME_TIME_CFG : Nat := 0xE3040
@[simp, reducible] def TIME_SERVO_STATUS : Nat := 0xE3044
@[simp, reducible] def TIME_OFFSET_FRAC : Nat := 0xE3048
@[simp, reducible] def TIME_OFFSET_LO : Nat := 0xE304C
@[simp, reducible] def TIME_OFFSET_HI : Nat := 0xE3050
@[simp, reducible] def TIME_FRC_REF_LO : Nat := 0xE3054
@[simp, reducible] def TIME_FRC_REF_HI : Nat := 0xE3058
@[simp, reducible] def TIME_RATE_LO : Nat := 0xE305C
@[simp, reducible] def TIME_RATE_HI : Nat := 0xE3060
@[simp, reducible] def TIME_NOW_FRAC : Nat := 0xE3064
@[simp, reducible] def TIME_NOW_LO : Nat := 0xE3068
@[simp, reducible] def TIME_NOW_HI : Nat := 0xE306C
@[simp, reducible] def TIME_FRC_LO : Nat := 0xE3070
@[simp, reducible] def TIME_FRC_HI : Nat := 0xE3074
@[simp, reducible] def TIME_CONV_IN_LO : Nat := 0xE3078
@[simp, reducible] def TIME_CONV_IN_HI : Nat := 0xE307C
@[simp, reducible] def TIME_CONV_CTRL : Nat := 0xE3080
@[simp, reducible] def TIME_CONV_OUT_LO : Nat := 0xE3084
@[simp, reducible] def TIME_CONV_OUT_HI : Nat := 0xE3088
@[simp, reducible] def TIME_CONV_STATUS : Nat := 0xE308C
@[simp, reducible] def TIME_LAST_STEP : Nat := 0xE3090
@[simp, reducible] def TIME_SERVO_OFFSET : Nat := 0xE3094
@[simp, reducible] def TIME_RATE_ADJ : Nat := 0xE3098
@[simp, reducible] def TIME_HOLDOVER_MAX : Nat := 0xE309C
@[simp, reducible] def TIME_TIME_CTRL : Nat := 0xE30A0
@[simp, reducible] def TIME_GM_ID_LO : Nat := 0xE30A4
@[simp, reducible] def TIME_GM_ID_HI : Nat := 0xE30A8
@[simp, reducible] def TIME_PTP_DISCARD : Nat := 0xE30AC

/-! TIO: R407. -/
@[simp, reducible] def TIO_PIN_DIR : Nat := 0xE4040
@[simp, reducible] def TIO_PIN_LEVEL : Nat := 0xE4044
@[simp, reducible] def TIO_CAP_PENDING : Nat := 0xE4048
@[simp, reducible] def TIO_CAP_SEL : Nat := 0xE404C
@[simp, reducible] def TIO_CAP_FRC_LO : Nat := 0xE4050
@[simp, reducible] def TIO_CAP_FRC_HI : Nat := 0xE4054
@[simp, reducible] def TIO_CAP_LINE : Nat := 0xE4058
@[simp, reducible] def TIO_CAP_INFO : Nat := 0xE405C
@[simp, reducible] def TIO_CAP_CFG : Nat := 0xE4060
@[simp, reducible] def TIO_FILTER : Nat := 0xE4064
@[simp, reducible] def TIO_CAP_LOST : Nat := 0xE4068
@[simp, reducible] def TIO_T_CFG (n : Nat) : Nat := 0xE4100 + 0x40 * n
@[simp, reducible] def TIO_T_TARGET_LO (n : Nat) : Nat := 0xE4104 + 0x40 * n
@[simp, reducible] def TIO_T_TARGET_HI (n : Nat) : Nat := 0xE4108 + 0x40 * n
@[simp, reducible] def TIO_T_PERIOD (n : Nat) : Nat := 0xE410C + 0x40 * n
@[simp, reducible] def TIO_T_PERIOD_FRAC (n : Nat) : Nat := 0xE4110 + 0x40 * n
@[simp, reducible] def TIO_T_LINE_DELAY (n : Nat) : Nat := 0xE4114 + 0x40 * n
@[simp, reducible] def TIO_T_WIDTH (n : Nat) : Nat := 0xE4118 + 0x40 * n
@[simp, reducible] def TIO_T_CTRL (n : Nat) : Nat := 0xE411C + 0x40 * n
@[simp, reducible] def TIO_T_STATUS (n : Nat) : Nat := 0xE4120 + 0x40 * n
@[simp, reducible] def TIO_T_NEXT_LO (n : Nat) : Nat := 0xE4124 + 0x40 * n
@[simp, reducible] def TIO_T_NEXT_HI (n : Nat) : Nat := 0xE4128 + 0x40 * n
@[simp, reducible] def TIO_T_PLAN_PUSH (n : Nat) : Nat := 0xE412C + 0x40 * n
@[simp, reducible] def TIO_T_PLAN_EXP (n : Nat) : Nat := 0xE4130 + 0x40 * n
@[simp, reducible] def TIO_T_PLAN_CTRL (n : Nat) : Nat := 0xE4134 + 0x40 * n
@[simp, reducible] def TIO_T_LATE_COUNT (n : Nat) : Nat := 0xE4138 + 0x40 * n
@[simp, reducible] def TIO_T_EVENTS (n : Nat) : Nat := 0xE413C + 0x40 * n

/-! DRAM: R432. -/
@[simp, reducible] def DRAM_CH_CFG (i : Nat) : Nat := 0xC0040 + 0x1000 * i
@[simp, reducible] def DRAM_DEVICE_INFO (i : Nat) : Nat := 0xC0044 + 0x1000 * i
@[simp, reducible] def DRAM_CLASS_WEIGHT (i : Nat) : Nat := 0xC0048 + 0x1000 * i
@[simp, reducible] def DRAM_PAGE_POLICY (i : Nat) : Nat := 0xC004C + 0x1000 * i
@[simp, reducible] def DRAM_REFRESH_STATUS (i : Nat) : Nat := 0xC0050 + 0x1000 * i
@[simp, reducible] def DRAM_REF_COUNT (i : Nat) : Nat := 0xC0054 + 0x1000 * i
@[simp, reducible] def DRAM_FORCED_REF_COUNT (i : Nat) : Nat := 0xC0058 + 0x1000 * i
@[simp, reducible] def DRAM_REF_BURST_MAX (i : Nat) : Nat := 0xC005C + 0x1000 * i
@[simp, reducible] def DRAM_TEMP (i : Nat) : Nat := 0xC0060 + 0x1000 * i
@[simp, reducible] def DRAM_CE_COUNT (i : Nat) : Nat := 0xC0064 + 0x1000 * i
@[simp, reducible] def DRAM_UE_COUNT (i : Nat) : Nat := 0xC0068 + 0x1000 * i
@[simp, reducible] def DRAM_ERR_ADDR_LO (i : Nat) : Nat := 0xC006C + 0x1000 * i
@[simp, reducible] def DRAM_ERR_ADDR_HI (i : Nat) : Nat := 0xC0070 + 0x1000 * i
@[simp, reducible] def DRAM_ERR_DETAIL (i : Nat) : Nat := 0xC0074 + 0x1000 * i
@[simp, reducible] def DRAM_SCRUB_CFG (i : Nat) : Nat := 0xC0078 + 0x1000 * i
@[simp, reducible] def DRAM_SCRUB_POS (i : Nat) : Nat := 0xC007C + 0x1000 * i
@[simp, reducible] def DRAM_SCRUB_PASSES (i : Nat) : Nat := 0xC0080 + 0x1000 * i
@[simp, reducible] def DRAM_PARITY_COUNT (i : Nat) : Nat := 0xC0084 + 0x1000 * i
@[simp, reducible] def DRAM_WCRC_COUNT (i : Nat) : Nat := 0xC0088 + 0x1000 * i
@[simp, reducible] def DRAM_RETRY_COUNT (i : Nat) : Nat := 0xC008C + 0x1000 * i
@[simp, reducible] def DRAM_TRAIN_CFG (i : Nat) : Nat := 0xC0090 + 0x1000 * i
@[simp, reducible] def DRAM_TRAIN_STATUS (i : Nat) : Nat := 0xC0094 + 0x1000 * i
@[simp, reducible] def DRAM_RETRAIN_COUNT (i : Nat) : Nat := 0xC0098 + 0x1000 * i
@[simp, reducible] def DRAM_RETRAIN_FAIL_COUNT (i : Nat) : Nat := 0xC009C + 0x1000 * i
@[simp, reducible] def DRAM_RT_LATE (i : Nat) : Nat := 0xC00A0 + 0x1000 * i
@[simp, reducible] def DRAM_RT_LAT_MAX (i : Nat) : Nat := 0xC00A4 + 0x1000 * i
@[simp, reducible] def DRAM_RT_BW (i : Nat) : Nat := 0xC00A8 + 0x1000 * i
@[simp, reducible] def DRAM_TOTAL_BW (i : Nat) : Nat := 0xC00AC + 0x1000 * i
@[simp, reducible] def DRAM_CH_STATUS (i : Nat) : Nat := 0xC00B0 + 0x1000 * i
@[simp, reducible] def DRAM_DRAM_CTRL (i : Nat) : Nat := 0xC00B4 + 0x1000 * i

/-! MBOX: R455. -/
@[simp, reducible] def MBOX_HOST_CTRL : Nat := 0xF0040
@[simp, reducible] def MBOX_HOST_STATUS : Nat := 0xF0044
@[simp, reducible] def MBOX_RESET_COUNT : Nat := 0xF0048
@[simp, reducible] def MBOX_CH_OWNER : Nat := 0xF004C
@[simp, reducible] def MBOX_CH_PENDING : Nat := 0xF0050
@[simp, reducible] def MBOX_EVT_CFG : Nat := 0xF0054
@[simp, reducible] def MBOX_VEC_ACK : Nat := 0xF0058
@[simp, reducible] def MBOX_MB_PTR_LO (n : Nat) : Nat := 0xF0100 + 0x40 * n
@[simp, reducible] def MBOX_MB_PTR_HI (n : Nat) : Nat := 0xF0104 + 0x40 * n
@[simp, reducible] def MBOX_MB_MSG_LEN (n : Nat) : Nat := 0xF0108 + 0x40 * n
@[simp, reducible] def MBOX_MB_TYPE_TAG (n : Nat) : Nat := 0xF010C + 0x40 * n
@[simp, reducible] def MBOX_MB_CTRL (n : Nat) : Nat := 0xF0110 + 0x40 * n
@[simp, reducible] def MBOX_MB_ACK (n : Nat) : Nat := 0xF0114 + 0x40 * n
@[simp, reducible] def MBOX_MB_STATUS (n : Nat) : Nat := 0xF0118 + 0x40 * n
@[simp, reducible] def MBOX_MB_RESULT (n : Nat) : Nat := 0xF011C + 0x40 * n
@[simp, reducible] def MBOX_MB_NOTICE (n : Nat) : Nat := 0xF0120 + 0x40 * n
@[simp, reducible] def MBOX_MB_MAX_LEN (n : Nat) : Nat := 0xF0124 + 0x40 * n
@[simp, reducible] def MBOX_MB_CFG (n : Nat) : Nat := 0xF0128 + 0x40 * n
@[simp, reducible] def MBOX_MB_RX_BASE_LO (n : Nat) : Nat := 0xF012C + 0x40 * n
@[simp, reducible] def MBOX_MB_RX_BASE_HI (n : Nat) : Nat := 0xF0130 + 0x40 * n
@[simp, reducible] def MBOX_MB_RX_SIZE (n : Nat) : Nat := 0xF0134 + 0x40 * n
@[simp, reducible] def MBOX_MB_ACK_DISCARDED (n : Nat) : Nat := 0xF0138 + 0x40 * n
@[simp, reducible] def MBOX_MB_REJECTED (n : Nat) : Nat := 0xF013C + 0x40 * n

/-! MBOXS: R455, R457. -/
@[simp, reducible] def MBOXS_HOST_CTRL : Nat := 0x100040
@[simp, reducible] def MBOXS_HOST_STATUS : Nat := 0x100044
@[simp, reducible] def MBOXS_RESET_COUNT : Nat := 0x100048
@[simp, reducible] def MBOXS_MB_PTR_LO (n : Nat) : Nat := 0x100100 + 0x40 * n
@[simp, reducible] def MBOXS_MB_PTR_HI (n : Nat) : Nat := 0x100104 + 0x40 * n
@[simp, reducible] def MBOXS_MB_MSG_LEN (n : Nat) : Nat := 0x100108 + 0x40 * n
@[simp, reducible] def MBOXS_MB_TYPE_TAG (n : Nat) : Nat := 0x10010C + 0x40 * n
@[simp, reducible] def MBOXS_MB_CTRL (n : Nat) : Nat := 0x100110 + 0x40 * n
@[simp, reducible] def MBOXS_MB_ACK (n : Nat) : Nat := 0x100114 + 0x40 * n
@[simp, reducible] def MBOXS_MB_STATUS (n : Nat) : Nat := 0x100118 + 0x40 * n
@[simp, reducible] def MBOXS_MB_RESULT (n : Nat) : Nat := 0x10011C + 0x40 * n
@[simp, reducible] def MBOXS_MB_NOTICE (n : Nat) : Nat := 0x100120 + 0x40 * n
@[simp, reducible] def MBOXS_MB_MAX_LEN (n : Nat) : Nat := 0x100124 + 0x40 * n
@[simp, reducible] def MBOXS_MB_CFG (n : Nat) : Nat := 0x100128 + 0x40 * n
@[simp, reducible] def MBOXS_MB_RX_BASE_LO (n : Nat) : Nat := 0x10012C + 0x40 * n
@[simp, reducible] def MBOXS_MB_RX_BASE_HI (n : Nat) : Nat := 0x100130 + 0x40 * n
@[simp, reducible] def MBOXS_MB_RX_SIZE (n : Nat) : Nat := 0x100134 + 0x40 * n
@[simp, reducible] def MBOXS_MB_ACK_DISCARDED (n : Nat) : Nat := 0x100138 + 0x40 * n
@[simp, reducible] def MBOXS_MB_REJECTED (n : Nat) : Nat := 0x10013C + 0x40 * n
@[simp, reducible] def MBOXS_SESSION_LO : Nat := 0x10004C
@[simp, reducible] def MBOXS_SESSION_HI : Nat := 0x100050
@[simp, reducible] def MBOXS_VEC_MAP : Nat := 0x100054
@[simp, reducible] def MBOXS_VEC_ACK : Nat := 0x100058
@[simp, reducible] def MBOXS_KEY_STATE : Nat := 0x10005C
@[simp, reducible] def MBOXS_AUTH_FAIL_COUNT : Nat := 0x100060
@[simp, reducible] def MBOXS_CH_PENDING : Nat := 0x100064

/-! NVS: R479. -/
@[simp, reducible] def NVS_NV_STATUS : Nat := 0x101040
@[simp, reducible] def NVS_MRAM_TEMP : Nat := 0x101044
@[simp, reducible] def NVS_NOR_TEMP : Nat := 0x101048
@[simp, reducible] def NVS_QUEUE_DEPTH : Nat := 0x10104C
@[simp, reducible] def NVS_JOURNAL_USED : Nat := 0x101050
@[simp, reducible] def NVS_RECORDS : Nat := 0x101054
@[simp, reducible] def NVS_LAST_SEQ_LO : Nat := 0x101058
@[simp, reducible] def NVS_LAST_SEQ_HI : Nat := 0x10105C
@[simp, reducible] def NVS_DISCARDED : Nat := 0x101060
@[simp, reducible] def NVS_INTERLOCK_COUNT : Nat := 0x101064
@[simp, reducible] def NVS_NV_CTRL : Nat := 0x101068

/-! FW: R480. -/
@[simp, reducible] def FW_FW_STATUS : Nat := 0x102040
@[simp, reducible] def FW_BANK_A_STATE : Nat := 0x102044
@[simp, reducible] def FW_BANK_A_VERSION : Nat := 0x102048
@[simp, reducible] def FW_BANK_B_STATE : Nat := 0x10204C
@[simp, reducible] def FW_BANK_B_VERSION : Nat := 0x102050
@[simp, reducible] def FW_SRC_LO : Nat := 0x102054
@[simp, reducible] def FW_SRC_HI : Nat := 0x102058
@[simp, reducible] def FW_LEN : Nat := 0x10205C
@[simp, reducible] def FW_PASID : Nat := 0x102060
@[simp, reducible] def FW_UPDATE_CTRL : Nat := 0x102064
@[simp, reducible] def FW_UPDATE_STATUS : Nat := 0x102068
@[simp, reducible] def FW_REBOOT : Nat := 0x10206C
@[simp, reducible] def FW_UPDATE_BANK : Nat := 0x102070

/-! TALLY: R482. -/
@[simp, reducible] def TALLY_NEXT_SEQ : Nat := 0xF4040
@[simp, reducible] def TALLY_OLDEST_SEQ : Nat := 0xF4044
@[simp, reducible] def TALLY_READ_SEQ : Nat := 0xF4048
@[simp, reducible] def TALLY_READ_STATUS : Nat := 0xF404C
@[simp, reducible] def TALLY_READ_W (n : Nat) : Nat := 0xF4050 + 0x4 * n
@[simp, reducible] def TALLY_DROPPED : Nat := 0xF4070
@[simp, reducible] def TALLY_FILTER : Nat := 0xF4074
@[simp, reducible] def TALLY_HOST_CODE : Nat := 0xF4078
@[simp, reducible] def TALLY_HOST_ARG : Nat := 0xF407C
@[simp, reducible] def TALLY_HOST_POST : Nat := 0xF4080
@[simp, reducible] def TALLY_CORRUPT : Nat := 0xF4084

/-! PWR: R508. -/
@[simp, reducible] def PWR_RAIL_STATUS : Nat := 0x2040
@[simp, reducible] def PWR_RAIL_FAULT : Nat := 0x2044
@[simp, reducible] def PWR_MAINS_VRMS : Nat := 0x2048
@[simp, reducible] def PWR_MAINS_FREQ : Nat := 0x204C
@[simp, reducible] def PWR_BULK_V : Nat := 0x2050
@[simp, reducible] def PWR_INPUT_POWER : Nat := 0x2054
@[simp, reducible] def PWR_SB24_V : Nat := 0x2058
@[simp, reducible] def PWR_HEAD_PWR_CTRL : Nat := 0x205C
@[simp, reducible] def PWR_HEAD_PWR_STATUS : Nat := 0x2060
@[simp, reducible] def PWR_LAMP_BUS_STATUS : Nat := 0x2064
@[simp, reducible] def PWR_LAMP_BUS_V01 : Nat := 0x2068
@[simp, reducible] def PWR_LAMP_BUS_V23 : Nat := 0x206C
@[simp, reducible] def PWR_POWER_EVENT : Nat := 0x2070
@[simp, reducible] def PWR_MAINS_FAIL_COUNT : Nat := 0x2074
@[simp, reducible] def PWR_PWR_CTRL : Nat := 0x2078

/-! THERM: R509. -/
@[simp, reducible] def THERM_DIE_TEMP : Nat := 0x3040
@[simp, reducible] def THERM_INLET_TEMP : Nat := 0x3044
@[simp, reducible] def THERM_OUTLET_TEMP : Nat := 0x3048
@[simp, reducible] def THERM_PSU_TEMP : Nat := 0x304C
@[simp, reducible] def THERM_SINK_TEMP01 : Nat := 0x3050
@[simp, reducible] def THERM_SINK_TEMP23 : Nat := 0x3054
@[simp, reducible] def THERM_NV_TEMP : Nat := 0x3058
@[simp, reducible] def THERM_STEPS : Nat := 0x305C
@[simp, reducible] def THERM_COND : Nat := 0x3060
@[simp, reducible] def THERM_TRIP_STATUS : Nat := 0x3064
@[simp, reducible] def THERM_TRIP_COUNT : Nat := 0x3068
@[simp, reducible] def THERM_SENSOR_FAULT : Nat := 0x306C
@[simp, reducible] def THERM_DIE_PEAK : Nat := 0x3070
@[simp, reducible] def THERM_THR_CFG (n : Nat) : Nat := 0x3100 + 0x4 * n

end Sys2Proof.Machine.Reg
end

