-- ==== Sys2Proof/Machine/RegMap.lean ====
section
/-! DEFINITION. The register maps: for every page type, each register's offset, access code, reset value
and writable bits, from the maps of the chapters (R33, R60, R62, R66, R68, R105 to R109, R146 to R149,
R175, R177, R206, R238, R273 to R277, R308, R335 to R337, R376 to R380, R404 to R407, R432, R455, R457,
R479 to R482, R508 and R509). -/

namespace Sys2Proof.Machine

/-- The access codes of R41. `lock` is the special access of LOCKn (R62). -/
inductive Acc where
  | rw | ro | wo | w1c | w1s | rc | rwl | rws | lock
  deriving DecidableEq, Repr

/-- One row of a register map: `count` registers `stride` bytes apart from `base`. `mask` has the bits a
write can change. Where `resets` is not empty it gives the reset value register by register. -/
structure RegRow where
  base : Nat
  stride : Nat
  count : Nat
  acc : Acc
  reset : Nat
  mask : Nat
  resets : List Nat := []
  deriving DecidableEq, Repr

/-- The page types of R55 and R56. -/
inductive PageType where
  | intc | locks | sys | clk | line | enc | apply | ch | yard | iommu | job | plane | cam | isp | ispctx | stats | scaler | lamp | lampseq | peer | pair | ring | net | prp | time | tio | dram | mbox | mboxs | nvs | fw | tally | pwr | therm
  deriving DecidableEq, Repr

/-- TYPE of PAGE_ID (R55, R56). -/
def PageType.code : PageType → Nat
  | .intc => 0x0006
  | .locks => 0x0005
  | .sys => 0x0001
  | .clk => 0x0002
  | .line => 0x0010
  | .enc => 0x0011
  | .apply => 0x0012
  | .ch => 0x0020
  | .yard => 0x0030
  | .iommu => 0x0031
  | .job => 0x0034
  | .plane => 0x0018
  | .cam => 0x0048
  | .isp => 0x004A
  | .ispctx => 0x004B
  | .stats => 0x004C
  | .scaler => 0x0050
  | .lamp => 0x0054
  | .lampseq => 0x0058
  | .peer => 0x0068
  | .pair => 0x006B
  | .ring => 0x006C
  | .net => 0x0060
  | .prp => 0x0062
  | .time => 0x0063
  | .tio => 0x0064
  | .dram => 0x0040
  | .mbox => 0x0070
  | .mboxs => 0x0080
  | .nvs => 0x0081
  | .fw => 0x0082
  | .tally => 0x0074
  | .pwr => 0x0003
  | .therm => 0x0004

/-- DOMAIN of PAGE_CAP (R34, R55): 0 NONE, 1 LINE, 2 FRAME, 3 TIME. -/
def PageType.domain : PageType → Nat
  | .intc => 0
  | .locks => 0
  | .sys => 0
  | .clk => 0
  | .line => 1
  | .enc => 1
  | .apply => 0
  | .ch => 1
  | .yard => 0
  | .iommu => 0
  | .job => 1
  | .plane => 1
  | .cam => 2
  | .isp => 2
  | .ispctx => 2
  | .stats => 0
  | .scaler => 0
  | .lamp => 3
  | .lampseq => 3
  | .peer => 0
  | .pair => 0
  | .ring => 0
  | .net => 0
  | .prp => 0
  | .time => 3
  | .tio => 3
  | .dram => 0
  | .mbox => 0
  | .mboxs => 0
  | .nvs => 0
  | .fw => 0
  | .tally => 0
  | .pwr => 0
  | .therm => 0

/-- INTC (R60). -/
def rowsINTC : List RegRow := [
  ⟨0x040, 4, 1, .ro, 0x00000000, 0x00000000, []⟩,
  ⟨0x044, 4, 1, .ro, 0x00000000, 0x00000000, []⟩,
  ⟨0x048, 4, 1, .rw, 0xFFFFFFFF, 0xFFFFFFFF, []⟩,
  ⟨0x04C, 4, 1, .rw, 0x0007FFFF, 0x0007FFFF, []⟩,
  ⟨0x050, 4, 4, .ro, 0x00000000, 0x00000000, []⟩,
  ⟨0x060, 4, 1, .wo, 0x00000000, 0x00000000, []⟩,
  ⟨0x064, 4, 1, .rw, 0x00000000, 0x0000FFFF, []⟩,
  ⟨0x080, 4, 13, .rw, 0x00000000, 0xBFBFBFBF, []⟩]

/-- LOCKS (R62). -/
def rowsLOCKS : List RegRow := [
  ⟨0x040, 4, 64, .lock, 0x00000000, 0x00000000, []⟩,
  ⟨0x140, 4, 1, .ro, 0x00000000, 0x00000000, []⟩,
  ⟨0x144, 4, 1, .ro, 0x00000000, 0x00000000, []⟩,
  ⟨0x148, 4, 1, .wo, 0x00000000, 0x00000000, []⟩]

/-- SYS (R66). -/
def rowsSYS : List RegRow := [
  ⟨0x040, 4, 1, .ro, 0x00002080, 0x00000000, []⟩,
  ⟨0x044, 4, 1, .ro, 0x41004100, 0x00000000, []⟩,
  ⟨0x048, 4, 1, .ro, 0x00000000, 0x00000000, []⟩,
  ⟨0x04C, 4, 1, .ro, 0x00000000, 0x00000000, []⟩,
  ⟨0x050, 4, 1, .ro, 0x01000000, 0x00000000, []⟩,
  ⟨0x054, 4, 1, .ro, 0x00000000, 0x00000000, []⟩,
  ⟨0x058, 4, 1, .ro, 0x00000002, 0x00000000, []⟩,
  ⟨0x05C, 4, 1, .wo, 0x00000000, 0x00000000, []⟩,
  ⟨0x060, 4, 1, .w1c, 0x00000001, 0x000000FF, []⟩]

/-- CLK (R68). -/
def rowsCLK : List RegRow := [
  ⟨0x040, 4, 1, .ro, 0x0000011F, 0x00000000, []⟩,
  ⟨0x044, 4, 1, .w1c, 0x00000000, 0x0000011F, []⟩,
  ⟨0x048, 4, 1, .ro, 0x2FAF0800, 0x00000000, []⟩,
  ⟨0x04C, 4, 1, .ro, 0x05F5E100, 0x00000000, []⟩]

/-- LINE (R105). -/
def rowsLINE : List RegRow := [
  ⟨0x040, 4, 1, .w1s, 0x00000000, 0x00000000, []⟩,
  ⟨0x044, 4, 1, .rw, 0x00000000, 0x00000F13, []⟩,
  ⟨0x048, 4, 1, .rw, 0x00000000, 0xFFFFFFFF, []⟩,
  ⟨0x04C, 4, 1, .rw, 0x00000000, 0xFFFFFFFF, []⟩,
  ⟨0x050, 4, 1, .rws, 0x00000008, 0x0000003F, []⟩,
  ⟨0x054, 4, 1, .ro, 0x00000000, 0x00000000, []⟩,
  ⟨0x058, 4, 1, .ro, 0x00000000, 0x00000000, []⟩,
  ⟨0x05C, 4, 1, .rw, 0x00000000, 0x0000FF01, []⟩,
  ⟨0x060, 4, 1, .rc, 0x00000000, 0x00000000, []⟩,
  ⟨0x064, 4, 1, .ro, 0x00000000, 0x00000000, []⟩,
  ⟨0x068, 4, 1, .rc, 0x7FFFFFFF, 0x00000000, []⟩,
  ⟨0x06C, 4, 1, .ro, 0x00000000, 0x00000000, []⟩,
  ⟨0x070, 4, 1, .ro, 0x00000000, 0x00000000, []⟩,
  ⟨0x074, 4, 1, .ro, 0x00000000, 0x00000000, []⟩,
  ⟨0x078, 4, 1, .ro, 0x00000000, 0x00000000, []⟩,
  ⟨0x07C, 4, 1, .ro, 0x00000000, 0x00000000, []⟩,
  ⟨0x080, 4, 1, .rw, 0x00013880, 0x0001FFFF, []⟩,
  ⟨0x084, 4, 1, .rc, 0x00000000, 0x00000000, []⟩]

/-- ENC (R106). -/
def rowsENC : List RegRow := [
  ⟨0x040, 4, 1, .rws, 0x00000000, 0x00000007, []⟩,
  ⟨0x044, 4, 1, .rw, 0x00000000, 0x00000F03, []⟩,
  ⟨0x048, 4, 1, .rw, 0x00000000, 0x00000F03, []⟩,
  ⟨0x04C, 4, 1, .rws, 0x00010000, 0xFFFFFFFF, []⟩,
  ⟨0x050, 4, 1, .rws, 0x00010000, 0xFFFFFFFF, []⟩,
  ⟨0x054, 4, 1, .ro, 0x00000000, 0x00000000, []⟩,
  ⟨0x058, 4, 1, .ro, 0x00000000, 0x00000000, []⟩,
  ⟨0x05C, 4, 1, .ro, 0x00000000, 0x00000000, []⟩,
  ⟨0x060, 4, 1, .rw, 0x00321000, 0x0FFFFFFF, []⟩,
  ⟨0x064, 4, 1, .ro, 0x00000000, 0x00000000, []⟩,
  ⟨0x068, 4, 1, .rw, 0x00001000, 0x00FFFFFF, []⟩,
  ⟨0x06C, 4, 1, .rws, 0x0C350000, 0xFFFFFFFF, []⟩,
  ⟨0x070, 4, 1, .rw, 0x00000000, 0x0000000F, []⟩]

/-- APPLY (R107). -/
def rowsAPPLY : List RegRow := [
  ⟨0x040, 4, 1, .ro, 0xFFFFFFFF, 0x00000000, []⟩,
  ⟨0x044, 4, 1, .w1c, 0x00000000, 0xFFFFFFFF, []⟩,
  ⟨0x048, 4, 1, .w1c, 0x00000000, 0xFFFFFFFF, []⟩,
  ⟨0x04C, 4, 1, .w1c, 0x00000000, 0xFFFFFFFF, []⟩,
  ⟨0x050, 4, 1, .ro, 0x00000000, 0x00000000, []⟩,
  ⟨0x054, 4, 1, .ro, 0x00000000, 0x00000000, []⟩,
  ⟨0x400, 32, 32, .rw, 0x00000000, 0xFFFFFFFF, []⟩,
  ⟨0x404, 32, 32, .rw, 0x00000000, 0x00FF01FF, []⟩,
  ⟨0x408, 32, 32, .rw, 0x00000000, 0xFFFFFFFF, []⟩,
  ⟨0x40C, 32, 32, .rw, 0x00000000, 0xFFFFFFFF, []⟩,
  ⟨0x410, 32, 32, .rw, 0x00000000, 0xFFFFFFFF, []⟩,
  ⟨0x414, 32, 32, .rw, 0x00000000, 0xFFFFFFFF, []⟩,
  ⟨0x418, 32, 32, .w1s, 0x00000000, 0x00000000, []⟩,
  ⟨0x41C, 32, 32, .ro, 0x00000000, 0x00000000, []⟩]

/-- CH (R109, R177, R206, R238). -/
def rowsCH : List RegRow := [
  ⟨0x100, 4, 1, .rw, 0x00000000, 0x0003FFFF, []⟩,
  ⟨0x104, 4, 1, .rws, 0x00000000, 0x0000003F, []⟩,
  ⟨0x108, 4, 1, .rws, 0x00000000, 0x000000FF, []⟩,
  ⟨0x0C0, 4, 1, .rws, 0x00000000, 0x00000003, []⟩,
  ⟨0x0C4, 4, 1, .rw, 0x00001000, 0x0000FF01, []⟩,
  ⟨0x0C8, 4, 1, .rc, 0x00000000, 0x00000000, []⟩,
  ⟨0x0CC, 4, 1, .rc, 0x00000000, 0x00000000, []⟩,
  ⟨0x0D0, 4, 1, .ro, 0x00000000, 0x00000000, []⟩,
  ⟨0x0D4, 4, 1, .rc, 0x00000000, 0x00000000, []⟩,
  ⟨0x0D8, 4, 1, .rc, 0x00000000, 0x00000000, []⟩,
  ⟨0x0DC, 4, 1, .ro, 0x00000000, 0x00000000, []⟩,
  ⟨0x0E0, 4, 1, .ro, 0x00000000, 0x00000000, []⟩,
  ⟨0x0E4, 4, 1, .ro, 0x00000000, 0x00000000, []⟩,
  ⟨0x040, 4, 1, .rw, 0x00000000, 0x00000001, []⟩,
  ⟨0x044, 4, 1, .rw, 0x00104D22, 0x00FFFFFF, []⟩,
  ⟨0x048, 4, 1, .rw, 0x1932147D, 0xFFFFFFFF, []⟩,
  ⟨0x04C, 4, 1, .w1s, 0x00000000, 0x00000000, []⟩,
  ⟨0x050, 4, 1, .ro, 0x00000000, 0x00000000, []⟩,
  ⟨0x054, 4, 1, .ro, 0x00380602, 0x00000000, []⟩,
  ⟨0x058, 4, 1, .ro, 0x00000000, 0x00000000, []⟩,
  ⟨0x05C, 4, 1, .ro, 0x00000000, 0x00000000, []⟩,
  ⟨0x060, 4, 1, .rc, 0x000000FF, 0x00000000, []⟩,
  ⟨0x064, 4, 1, .rc, 0x00000000, 0x00000000, []⟩,
  ⟨0x068, 4, 1, .rc, 0x00000000, 0x00000000, []⟩,
  ⟨0x06C, 4, 1, .rc, 0x00000000, 0x00000000, []⟩,
  ⟨0x070, 4, 1, .rc, 0x00000000, 0x00000000, []⟩,
  ⟨0x074, 4, 1, .rc, 0x00000000, 0x00000000, []⟩,
  ⟨0x078, 4, 1, .ro, 0x00000000, 0x00000000, []⟩,
  ⟨0x080, 4, 1, .rw, 0x000A6401, 0x00FFFF01, []⟩,
  ⟨0x084, 4, 1, .ro, 0x00000100, 0x00000000, []⟩,
  ⟨0x088, 4, 1, .ro, 0x00000000, 0x00000000, []⟩,
  ⟨0x08C, 4, 1, .ro, 0x00000000, 0x00000000, []⟩,
  ⟨0x090, 4, 1, .ro, 0x00000000, 0x00000000, []⟩,
  ⟨0x094, 4, 1, .ro, 0x00000000, 0x00000000, []⟩,
  ⟨0x098, 4, 1, .ro, 0x00000000, 0x00000000, []⟩,
  ⟨0x09C, 4, 1, .rw, 0x00000000, 0xFFFFFFF8, []⟩,
  ⟨0x0A0, 4, 1, .rw, 0x00000000, 0xFFFF001F, []⟩,
  ⟨0x0A4, 4, 1, .rw, 0x00000000, 0x03FFFFFF, []⟩,
  ⟨0x0A8, 4, 1, .rw, 0x00000000, 0xFFFFFFFF, []⟩,
  ⟨0x0AC, 4, 1, .ro, 0x00000000, 0x00000000, []⟩,
  ⟨0x0B0, 4, 1, .ro, 0x00000000, 0x00000000, []⟩,
  ⟨0x0B4, 4, 1, .ro, 0x00000000, 0x00000000, []⟩,
  ⟨0x0B8, 4, 1, .rw, 0x00000000, 0x0000000F, []⟩,
  ⟨0x0BC, 4, 1, .ro, 0x00000000, 0x00000000, []⟩]

/-- YARD (R146). -/
def rowsYARD : List RegRow := [
  ⟨0x040, 4, 1, .ro, 0x00000000, 0x00000000, []⟩,
  ⟨0x044, 4, 1, .w1c, 0x00000000, 0x0000FFFF, []⟩,
  ⟨0x048, 4, 1, .w1c, 0x00000000, 0x0000FFFF, []⟩,
  ⟨0x04C, 4, 1, .rc, 0x00000000, 0x00000000, []⟩,
  ⟨0x050, 4, 1, .ro, 0x00000000, 0x00000000, []⟩,
  ⟨0x054, 4, 1, .ro, 0x00000000, 0x00000000, []⟩,
  ⟨0x058, 4, 1, .ro, 0x00000000, 0x00000000, []⟩,
  ⟨0x05C, 4, 1, .ro, 0x00000000, 0x00000000, []⟩,
  ⟨0x060, 4, 1, .ro, 0x00000000, 0x00000000, []⟩,
  ⟨0x100, 64, 16, .rw, 0x00000000, 0xFFFFFFC0, []⟩,
  ⟨0x104, 64, 16, .rw, 0x00000000, 0xFFFFFFFF, []⟩,
  ⟨0x108, 64, 16, .rw, 0x00000040, 0x00001FFF, []⟩,
  ⟨0x10C, 64, 16, .rw, 0x00000000, 0x800FFFFF, []⟩,
  ⟨0x110, 64, 16, .rw, 0x00000000, 0x0000FFFF, []⟩,
  ⟨0x114, 64, 16, .ro, 0x00000000, 0x00000000, []⟩,
  ⟨0x118, 64, 16, .ro, 0x00000007, 0x00000000, []⟩,
  ⟨0x11C, 64, 16, .w1s, 0x00000000, 0x00000000, []⟩,
  ⟨0x120, 64, 16, .rw, 0x00000000, 0xFFFFFFF8, []⟩,
  ⟨0x124, 64, 16, .rw, 0x00000000, 0xFFFFFFFF, []⟩,
  ⟨0x128, 64, 16, .rc, 0x00000000, 0x00000000, []⟩,
  ⟨0x800, 16, 64, .rw, 0, 0x01FFFFFF, (List.replicate 56 0 ++ [0x1700000, 0x1740000, 0x17C0000, 0x17E0000, 0x0, 0x0, 0x0, 0x0])⟩,
  ⟨0x804, 16, 64, .rw, 0, 0x01FFFFFF, (List.replicate 56 0 ++ [0x40000, 0x80000, 0x20000, 0x20000, 0x0, 0x0, 0x0, 0x0])⟩,
  ⟨0x808, 16, 64, .rw, 0, 0x0000FF07, (List.replicate 56 0 ++ [0x80003003, 0x8000E204, 0x8000B205, 0x80003006, 0x80000000, 0x80000000, 0x80000000, 0x80000000])⟩]

/-- IOMMU (R148). -/
def rowsIOMMU : List RegRow := [
  ⟨0x040, 4, 1, .rw, 0x00000000, 0x00000003, []⟩,
  ⟨0x044, 4, 1, .ro, 0x00000000, 0x00000000, []⟩,
  ⟨0x048, 4, 1, .w1s, 0x00000000, 0x00000000, []⟩,
  ⟨0x04C, 4, 1, .rc, 0x00000000, 0x00000000, []⟩,
  ⟨0x050, 4, 1, .rc, 0x00000000, 0x00000000, []⟩,
  ⟨0x054, 4, 1, .rc, 0x00000000, 0x00000000, []⟩,
  ⟨0x058, 4, 1, .ro, 0x00000000, 0x00000000, []⟩,
  ⟨0x05C, 4, 1, .rw, 0x00000064, 0x0000FFFF, []⟩,
  ⟨0x060, 4, 1, .rc, 0x00000000, 0x00000000, []⟩,
  ⟨0x064, 4, 1, .rc, 0x00000000, 0x00000000, []⟩,
  ⟨0x068, 4, 1, .ro, 0x00000000, 0x00000000, []⟩,
  ⟨0x06C, 4, 1, .ro, 0x00000000, 0x00000000, []⟩,
  ⟨0x070, 4, 1, .ro, 0x00000000, 0x00000000, []⟩]

/-- JOB (R149). -/
def rowsJOB : List RegRow := [
  ⟨0x040, 4, 1, .rw, 0x0200FF00, 0x0F0FFF33, []⟩,
  ⟨0x044, 4, 1, .rw, 0x00000000, 0xFFFFFFFF, []⟩,
  ⟨0x048, 4, 1, .rw, 0x00000000, 0xFFFFFFFF, []⟩,
  ⟨0x04C, 4, 1, .ro, 0x00000000, 0x00000000, []⟩,
  ⟨0x050, 4, 1, .ro, 0x00000000, 0x00000000, []⟩,
  ⟨0x054, 4, 1, .ro, 0x00000000, 0x00000000, []⟩,
  ⟨0x058, 4, 1, .rc, 0x00000000, 0x00000000, []⟩,
  ⟨0x05C, 4, 1, .rc, 0x00000000, 0x00000000, []⟩,
  ⟨0x060, 4, 1, .rc, 0x00000000, 0x00000000, []⟩,
  ⟨0x064, 4, 1, .ro, 0x00000000, 0x00000000, []⟩,
  ⟨0x068, 4, 1, .ro, 0x00000000, 0x00000000, []⟩,
  ⟨0x070, 4, 1, .rw, 0x00000000, 0x00FFFFFF, []⟩,
  ⟨0x074, 4, 1, .ro, 0x00000000, 0x00000000, []⟩,
  ⟨0x078, 4, 1, .ro, 0x00000000, 0x00000000, []⟩,
  ⟨0x07C, 4, 1, .ro, 0x00000000, 0x00000000, []⟩,
  ⟨0x080, 4, 1, .rw, 0x00000000, 0x00FFFFFF, []⟩,
  ⟨0x084, 4, 1, .ro, 0xFFFFFFFF, 0x00000000, []⟩,
  ⟨0x090, 4, 1, .rws, 0x00000000, 0x0000010F, []⟩,
  ⟨0x094, 4, 1, .rws, 0x00000001, 0x0000FFFF, []⟩,
  ⟨0x098, 4, 1, .ro, 0x00000000, 0x00000000, []⟩,
  ⟨0x0C0, 4, 8, .rw, 0x00000000, 0x3F3F3F01, []⟩,
  ⟨0x100, 8, 16, .rw, 0x00000000, 0xFFFFFFFF, []⟩,
  ⟨0x104, 8, 16, .rw, 0x00000000, 0xFFFFFFFF, []⟩]

/-- PLANE (R175). -/
def rowsPLANE : List RegRow := [
  ⟨0x040, 4, 1, .rws, 0x00000000, 0x0000000F, []⟩,
  ⟨0x044, 4, 1, .rws, 0x00000000, 0x0000FFFF, []⟩,
  ⟨0x048, 4, 1, .rws, 0x00002060, 0x0000FFFF, []⟩,
  ⟨0x04C, 4, 1, .rc, 0x00000000, 0x00000000, []⟩,
  ⟨0x050, 4, 1, .ro, 0x00000000, 0x00000000, []⟩,
  ⟨0x054, 4, 1, .ro, 0x00000000, 0x00000000, []⟩,
  ⟨0x058, 4, 1, .ro, 0x00000000, 0x00000000, []⟩,
  ⟨0x05C, 4, 1, .rc, 0x00000000, 0x00000000, []⟩,
  ⟨0x060, 4, 1, .rc, 0x00000000, 0x00000000, []⟩,
  ⟨0x064, 4, 1, .ro, 0x00000000, 0x00000000, []⟩]

/-- CAM (R273). -/
def rowsCAM : List RegRow := [
  ⟨0x040, 4, 1, .rw, 0x00640032, 0x00FF00FF, []⟩,
  ⟨0x044, 4, 1, .ro, 0x00000000, 0x00000000, []⟩,
  ⟨0x048, 4, 4, .rws, 0x00000000, 0x8F8F8F8F, []⟩,
  ⟨0x058, 4, 1, .rw, 0x000A0000, 0xFFFF001F, []⟩,
  ⟨0x05C, 4, 1, .ro, 0x00000000, 0x00000000, []⟩,
  ⟨0x060, 4, 1, .rc, 0x00000000, 0x00000000, []⟩,
  ⟨0x064, 4, 1, .ro, 0x00000000, 0x00000000, []⟩,
  ⟨0x068, 4, 1, .rw, 0x00000000, 0x0000037F, []⟩,
  ⟨0x06C, 4, 1, .rw, 0x00000000, 0x0000FFFF, []⟩,
  ⟨0x070, 4, 1, .rw, 0x00000000, 0x0000FFFF, []⟩,
  ⟨0x074, 4, 1, .ro, 0x00000000, 0x00000000, []⟩,
  ⟨0x078, 4, 1, .rc, 0x00000000, 0x00000000, []⟩,
  ⟨0x07C, 4, 1, .rc, 0x00000000, 0x00000000, []⟩,
  ⟨0x080, 4, 1, .ro, 0x00000000, 0x00000000, []⟩,
  ⟨0x084, 4, 1, .rc, 0x00000000, 0x00000000, []⟩,
  ⟨0x088, 4, 1, .ro, 0x00000000, 0x00000000, []⟩,
  ⟨0x08C, 4, 1, .rc, 0x00000000, 0x00000000, []⟩,
  ⟨0x090, 4, 1, .rc, 0x00000000, 0x00000000, []⟩,
  ⟨0x094, 4, 1, .rc, 0x00000000, 0x00000000, []⟩,
  ⟨0x098, 4, 1, .rc, 0x00000000, 0x00000000, []⟩,
  ⟨0x09C, 4, 1, .rc, 0x00000000, 0x00000000, []⟩,
  ⟨0x0A0, 4, 1, .ro, 0x00000000, 0x00000000, []⟩]

/-- ISP (R274). -/
def rowsISP : List RegRow := [
  ⟨0x040, 4, 1, .rw, 0x00000000, 0x00000001, []⟩,
  ⟨0x044, 4, 1, .rws, 0x00000000, 0x0000FFFF, []⟩,
  ⟨0x048, 4, 1, .ro, 0x00000000, 0x00000000, []⟩,
  ⟨0x04C, 4, 1, .ro, 0x00000000, 0x00000000, []⟩,
  ⟨0x050, 4, 1, .ro, 0x00000000, 0x00000000, []⟩,
  ⟨0x054, 4, 1, .ro, 0x00000000, 0x00000000, []⟩,
  ⟨0x058, 4, 1, .ro, 0x00000000, 0x00000000, []⟩,
  ⟨0x05C, 4, 1, .ro, 0x00000000, 0x00000000, []⟩]

/-- ISPCTX (R275). -/
def rowsISPCTX : List RegRow := [
  ⟨0x040, 4, 1, .rw, 0x00000000, 0x0000000F, []⟩,
  ⟨0x044, 4, 1, .rws, 0x00006000, 0x00037F1F, []⟩,
  ⟨0x048, 4, 1, .rws, 0x04002000, 0x3FFF3FFF, []⟩,
  ⟨0x04C, 4, 1, .rws, 0x00000000, 0x3FFF3FFF, []⟩,
  ⟨0x050, 4, 1, .rws, 0x00000000, 0x3FFF3FFF, []⟩,
  ⟨0x054, 4, 1, .rws, 0x01000000, 0x3FFF1FFF, []⟩,
  ⟨0x058, 4, 1, .rws, 0x00000068, 0x000000FF, []⟩,
  ⟨0x05C, 4, 1, .rws, 0x10001000, 0xFFFFFFFF, []⟩,
  ⟨0x060, 4, 1, .rws, 0x10001000, 0xFFFFFFFF, []⟩,
  ⟨0x064, 4, 1, .rws, 0x00001000, 0xFFFFFFFF, []⟩,
  ⟨0x068, 4, 1, .rws, 0x00000000, 0xFFFFFFFF, []⟩,
  ⟨0x06C, 4, 1, .rws, 0x00001000, 0xFFFFFFFF, []⟩,
  ⟨0x070, 4, 1, .rws, 0x00000000, 0xFFFFFFFF, []⟩,
  ⟨0x074, 4, 1, .rws, 0x00001000, 0x0000FFFF, []⟩,
  ⟨0x078, 4, 1, .rws, 0x00000101, 0x00003F7F, []⟩,
  ⟨0x07C, 4, 1, .rws, 0x00003FFF, 0x00003FFF, []⟩,
  ⟨0x080, 4, 1, .rws, 0x00000000, 0x0007FFFF, []⟩,
  ⟨0x084, 4, 1, .rws, 0x00000000, 0x000000FF, []⟩,
  ⟨0x088, 4, 1, .rc, 0x00000000, 0x00000000, []⟩,
  ⟨0x08C, 4, 1, .ro, 0x00000000, 0x00000000, []⟩,
  ⟨0x090, 4, 1, .ro, 0x00000000, 0x00000000, []⟩]

/-- STATS (R277). -/
def rowsSTATS : List RegRow := [
  ⟨0x040, 4, 1, .rw, 0x00000000, 0x0001FFFF, []⟩,
  ⟨0x044, 4, 1, .rw, 0x00000400, 0x00003FFF, []⟩,
  ⟨0x048, 4, 1, .ro, 0x00000000, 0x00000000, []⟩,
  ⟨0x04C, 4, 1, .rw, 0x00000000, 0x00003FFF, []⟩,
  ⟨0x050, 4, 1, .ro, 0x00000000, 0x00000000, []⟩,
  ⟨0x054, 4, 1, .rw, 0x00000001, 0x3FFF0001, []⟩,
  ⟨0x058, 4, 1, .rc, 0x00000000, 0x00000000, []⟩,
  ⟨0x05C, 4, 1, .rc, 0x00000000, 0x00000000, []⟩]

/-- SCALER (R308). -/
def rowsSCALER : List RegRow := [
  ⟨0x040, 4, 1, .rw, 0x0FFFFF04, 0x0FFFFF3F, []⟩,
  ⟨0x044, 4, 1, .rw, 0x00000000, 0xFFFFFFFF, []⟩,
  ⟨0x048, 4, 1, .rw, 0x00017118, 0x00FFFFFF, []⟩,
  ⟨0x04C, 4, 1, .rw, 0x00C00040, 0x0FFF0FFF, []⟩,
  ⟨0x050, 4, 1, .rw, 0x00100100, 0x0FFF0FFF, []⟩,
  ⟨0x054, 4, 1, .rw, 0x0000000A, 0x000000FF, []⟩,
  ⟨0x058, 4, 1, .rw, 0xBF804000, 0xFFFFFFFF, []⟩,
  ⟨0x05C, 4, 1, .rw, 0x000000FF, 0x000000FF, []⟩,
  ⟨0x060, 4, 1, .rw, 0x00000000, 0x00FFFFFF, []⟩,
  ⟨0x064, 4, 1, .rw, 0x00000000, 0x00FFFFFF, []⟩,
  ⟨0x068, 4, 1, .rw, 0x00000000, 0x00FFFFFF, []⟩,
  ⟨0x06C, 4, 1, .ro, 0x00000000, 0x00000000, []⟩,
  ⟨0x070, 4, 1, .w1s, 0x00000000, 0x00000000, []⟩,
  ⟨0x074, 4, 1, .ro, 0x00000000, 0x00000000, []⟩,
  ⟨0x078, 4, 1, .rw, 0x00000018, 0x000000FF, []⟩,
  ⟨0x07C, 4, 1, .ro, 0x00000000, 0x00000000, []⟩,
  ⟨0x080, 4, 1, .rw, 0x00000000, 0xFFFFFFFF, []⟩,
  ⟨0x084, 4, 1, .rw, 0x00000400, 0x00003FFF, []⟩,
  ⟨0x088, 4, 1, .rw, 0x00100000, 0xFFFFFFFF, []⟩,
  ⟨0x08C, 4, 1, .rw, 0x00000000, 0x0000007F, []⟩,
  ⟨0x090, 4, 1, .rw, 0x00000000, 0x0001FFFF, []⟩,
  ⟨0x094, 4, 1, .rw, 0x00000010, 0x000000FF, []⟩,
  ⟨0x098, 4, 1, .ro, 0x00000000, 0x00000000, []⟩,
  ⟨0x09C, 4, 1, .rw, 0x00000000, 0x000000FF, []⟩,
  ⟨0x0A0, 4, 1, .rw, 0x00000000, 0x0001FFFF, []⟩,
  ⟨0x0A4, 4, 1, .rw, 0x00000000, 0x0001FFFF, []⟩,
  ⟨0x0A8, 4, 1, .rw, 0x40003DB5, 0xFFFFFFFF, []⟩,
  ⟨0x0AC, 4, 1, .rw, 0x000034CE, 0x0000FFFF, []⟩,
  ⟨0x0B0, 4, 1, .rc, 0x00000000, 0x00000000, []⟩,
  ⟨0x0B4, 4, 1, .rc, 0x00000000, 0x00000000, []⟩,
  ⟨0x0B8, 4, 1, .rc, 0x00000000, 0x00000000, []⟩,
  ⟨0x0BC, 4, 1, .rc, 0x00000000, 0x00000000, []⟩,
  ⟨0x0C0, 4, 1, .rc, 0x00000000, 0x00000000, []⟩,
  ⟨0x0C4, 4, 1, .rc, 0x00000000, 0x00000000, []⟩,
  ⟨0x0C8, 4, 1, .rw, 0x003C0A18, 0xFFFFFFFF, []⟩,
  ⟨0x0CC, 4, 4, .w1c, 0x00000000, 0xFFFFFFFF, []⟩,
  ⟨0x0DC, 4, 4, .w1s, 0x00000000, 0x00000000, []⟩,
  ⟨0x100, 4, 8, .ro, 0xFFFFFFFF, 0x00000000, []⟩,
  ⟨0x120, 4, 1, .ro, 0x00000000, 0x00000000, []⟩,
  ⟨0x140, 4, 1, .rw, 0x0C14404D, 0x0FFFFFFF, []⟩,
  ⟨0x144, 4, 1, .rw, 0x04A11180, 0x0FFFFFFF, []⟩,
  ⟨0x148, 4, 1, .rw, 0x0160CD5A, 0x00FFFFFF, []⟩,
  ⟨0x14C, 4, 1, .rw, 0x00000000, 0x0000000F, []⟩,
  ⟨0x150, 4, 1, .ro, 0x00000000, 0x00000000, []⟩,
  ⟨0x200, 4, 16, .rw, 0x00000000, 0xFFFFFFFF, []⟩,
  ⟨0x300, 4, 12, .rw, 0x00009C40, 0x000FFFFF, []⟩,
  ⟨0x340, 4, 48, .rw, 0x00000000, 0x0000FFFF, []⟩,
  ⟨0x400, 8, 40, .rw, 0x00008000, 0xFFFFFFFF, []⟩,
  ⟨0x404, 8, 40, .rw, 0x00000000, 0xFFFFFFFF, []⟩,
  ⟨0x540, 4, 18, .rw, 0, 0xFFFFFFFF, [0x2860030, 0x166045B, 0x299000F, 0xDEE07F7, 0x9730FD5, 0x270342, 0x1A0001, 0x20100A6, 0xD5805F1, 0xD0C0F59, 0x3D80877, 0xE0133, 0xC4D00E5, 0xBE017D1, 0xA90323, 0x60017, 0x2, 0x0]⟩,
  ⟨0x588, 4, 18, .rw, 0, 0xFFFFFFFF, [0x0, 0x0, 0x0, 0x0, 0x55555555, 0x5555, 0x0, 0x0, 0x55550000, 0x55555555, 0x0, 0x0, 0x55550000, 0x55555555, 0x0, 0x0, 0x0, 0x0]⟩,
  ⟨0x5D0, 4, 1, .rw, 0x00000000, 0x0000FFFF, []⟩,
  ⟨0x600, 4, 64, .rw, 0x80008000, 0xFFFFFFFF, []⟩,
  ⟨0x700, 4, 64, .ro, 0x80008000, 0x00000000, []⟩]

/-- LAMP (R335). -/
def rowsLAMP : List RegRow := [
  ⟨0x040, 4, 1, .rw, 0x00000040, 0x0000007F, []⟩,
  ⟨0x044, 4, 1, .w1s, 0x00000000, 0x00000000, []⟩,
  ⟨0x048, 4, 1, .ro, 0x00000000, 0x00000000, []⟩,
  ⟨0x04C, 4, 1, .rw, 0x01F40320, 0x0FFF0FFF, []⟩,
  ⟨0x050, 4, 1, .rw, 0xEA602EE0, 0xFFFFFFFF, []⟩,
  ⟨0x054, 4, 1, .ro, 0x00000000, 0x00000000, []⟩,
  ⟨0x058, 4, 1, .ro, 0x00000000, 0x00000000, []⟩,
  ⟨0x05C, 4, 1, .ro, 0x00000000, 0x00000000, []⟩,
  ⟨0x060, 4, 1, .rc, 0x00000000, 0x00000000, []⟩,
  ⟨0x064, 4, 1, .rw, 0x03E80D6B, 0xFFFFFFFF, []⟩,
  ⟨0x068, 4, 1, .ro, 0x80008000, 0x00000000, []⟩,
  ⟨0x06C, 4, 1, .ro, 0x80008000, 0x00000000, []⟩,
  ⟨0x070, 4, 1, .rw, 0x000F6955, 0x000FFFFF, []⟩,
  ⟨0x074, 4, 1, .ro, 0x00000000, 0x00000000, []⟩,
  ⟨0x078, 4, 1, .ro, 0x0001FFFF, 0x00000000, []⟩,
  ⟨0x07C, 4, 1, .ro, 0x00000000, 0x00000000, []⟩,
  ⟨0x080, 4, 1, .rw, 0x006405DC, 0x00FFFFFF, []⟩,
  ⟨0x084, 4, 1, .rc, 0x00000000, 0x00000000, []⟩,
  ⟨0x100, 32, 16, .rws, 0x00000000, 0x0000F7FF, []⟩,
  ⟨0x104, 32, 16, .rws, 0x00013880, 0x000FFFFF, []⟩,
  ⟨0x108, 32, 16, .rws, 0x00000000, 0xFFFF0FFF, []⟩,
  ⟨0x10C, 32, 16, .rws, 0x00000000, 0x000003FF, []⟩,
  ⟨0x110, 32, 16, .rws, 0x00000000, 0x0001FFFF, []⟩,
  ⟨0x114, 32, 16, .ro, 0x00000000, 0x00000000, []⟩,
  ⟨0x118, 32, 16, .ro, 0x00000000, 0x00000000, []⟩,
  ⟨0x11C, 32, 16, .w1s, 0x00000000, 0x00000000, []⟩]

/-- LAMPSEQ (R337). -/
def rowsLAMPSEQ : List RegRow := [
  ⟨0x040, 4, 1, .rws, 0x00C800C8, 0xFFFFFFFF, []⟩,
  ⟨0x044, 4, 1, .rw, 0x03E803E8, 0xFFFFFFFF, []⟩,
  ⟨0x048, 4, 1, .rw, 0x00000000, 0x001FFFFF, []⟩,
  ⟨0x04C, 4, 1, .rw, 0x00000000, 0x00000FFF, []⟩,
  ⟨0x050, 4, 1, .w1s, 0x00000000, 0x00000000, []⟩,
  ⟨0x054, 4, 1, .ro, 0x00000000, 0x00000000, []⟩,
  ⟨0x058, 4, 1, .rc, 0x00000000, 0x00000000, []⟩,
  ⟨0x05C, 4, 1, .rc, 0x00000000, 0x00000000, []⟩,
  ⟨0x060, 4, 1, .rc, 0x00000000, 0x00000000, []⟩,
  ⟨0x064, 4, 1, .rw, 0x00000014, 0x000000FF, []⟩,
  ⟨0x080, 8, 12, .rws, 0x00000000, 0xFFFFFFFF, []⟩,
  ⟨0x084, 8, 12, .rws, 0x00000000, 0xFFFFFFFF, []⟩,
  ⟨0x0E0, 4, 12, .rws, 0x00000000, 0x00000FFF, []⟩,
  ⟨0x110, 4, 1, .rws, 0x00000000, 0xFFFFFFFF, []⟩,
  ⟨0x114, 4, 1, .rws, 0x00000000, 0xFFFFFFFF, []⟩,
  ⟨0x118, 4, 1, .rws, 0x00000000, 0xFFFFFFFF, []⟩,
  ⟨0x11C, 4, 1, .rws, 0x00000000, 0xFFFFFFFF, []⟩,
  ⟨0x120, 4, 1, .rws, 0x00000000, 0x0FFF0FFF, []⟩]

/-- PEER (R376). -/
def rowsPEER : List RegRow := [
  ⟨0x040, 4, 1, .rw, 0x000A0100, 0x00FF0103, []⟩,
  ⟨0x044, 4, 1, .ro, 0x00030000, 0x00000000, []⟩,
  ⟨0x048, 4, 1, .ro, 0x00000000, 0x00000000, []⟩,
  ⟨0x04C, 4, 1, .ro, 0x00000000, 0x00000000, []⟩,
  ⟨0x050, 4, 1, .ro, 0x00000000, 0x00000000, []⟩,
  ⟨0x054, 4, 1, .ro, 0x00000000, 0x00000000, []⟩,
  ⟨0x058, 4, 1, .rc, 0x00000000, 0x00000000, []⟩,
  ⟨0x05C, 4, 1, .rc, 0x00000000, 0x00000000, []⟩,
  ⟨0x060, 4, 1, .rc, 0x00000000, 0x00000000, []⟩,
  ⟨0x064, 4, 1, .rc, 0x00000000, 0x00000000, []⟩,
  ⟨0x068, 4, 1, .rc, 0x00000000, 0x00000000, []⟩,
  ⟨0x06C, 4, 1, .w1s, 0x00000000, 0x00000000, []⟩]

/-- PAIR (R378). -/
def rowsPAIR : List RegRow := [
  ⟨0x040, 4, 1, .rwl, 0x00000000, 0x00000003, []⟩,
  ⟨0x044, 4, 1, .rwl, 0x00000000, 0xFFFFFFFF, []⟩,
  ⟨0x048, 4, 1, .rw, 0x00040040, 0x000FFFFF, []⟩,
  ⟨0x04C, 4, 1, .rw, 0x00050010, 0x00FF00FF, []⟩,
  ⟨0x050, 4, 1, .ro, 0x00000001, 0x00000000, []⟩,
  ⟨0x054, 4, 1, .ro, 0x00000000, 0x00000000, []⟩,
  ⟨0x058, 4, 1, .ro, 0x00000000, 0x00000000, []⟩,
  ⟨0x05C, 4, 1, .ro, 0x00000000, 0x00000000, []⟩,
  ⟨0x060, 4, 1, .ro, 0x00000000, 0x00000000, []⟩,
  ⟨0x064, 4, 1, .rc, 0x00000000, 0x00000000, []⟩,
  ⟨0x068, 4, 1, .rc, 0x00000000, 0x00000000, []⟩,
  ⟨0x06C, 4, 1, .w1s, 0x00000000, 0x00000000, []⟩,
  ⟨0x070, 4, 1, .ro, 0x00000000, 0x00000000, []⟩,
  ⟨0x074, 4, 1, .ro, 0x00000000, 0x00000000, []⟩,
  ⟨0x078, 4, 1, .ro, 0x00000000, 0x00000000, []⟩,
  ⟨0x07C, 4, 1, .ro, 0x00000000, 0x00000000, []⟩,
  ⟨0x080, 4, 1, .rc, 0x00000000, 0x00000000, []⟩,
  ⟨0x084, 4, 1, .rc, 0x00000000, 0x00000000, []⟩,
  ⟨0x088, 4, 1, .rwl, 0x00000000, 0xFFFFFFFF, []⟩,
  ⟨0x08C, 4, 1, .rwl, 0x88B50000, 0xFFFFFFFF, []⟩,
  ⟨0x090, 4, 1, .rwl, 0x00000000, 0xFFFFFFFF, []⟩,
  ⟨0x094, 4, 1, .rwl, 0x00000000, 0x0000FFFF, []⟩,
  ⟨0x098, 4, 1, .rc, 0x00000000, 0x00000000, []⟩,
  ⟨0x09C, 4, 1, .ro, 0x00000000, 0x00000000, []⟩]

/-- RING (R380). -/
def rowsRING : List RegRow := [
  ⟨0x040, 4, 1, .rwl, 0x00000000, 0x00000001, []⟩,
  ⟨0x044, 4, 1, .rwl, 0x00000000, 0xFFFFFFFF, []⟩,
  ⟨0x048, 4, 1, .ro, 0x00000000, 0x00000000, []⟩,
  ⟨0x04C, 4, 1, .ro, 0x00000000, 0x00000000, []⟩,
  ⟨0x050, 4, 1, .rw, 0x000000C8, 0x0000FFFF, []⟩,
  ⟨0x054, 4, 1, .rw, 0x00033AD3, 0x00FFFFFF, []⟩,
  ⟨0x058, 4, 1, .ro, 0x00000000, 0x00000000, []⟩,
  ⟨0x05C, 4, 1, .ro, 0x00000196, 0x00000000, []⟩,
  ⟨0x060, 4, 1, .ro, 0x00000000, 0x00000000, []⟩,
  ⟨0x064, 4, 1, .rc, 0x00000000, 0x00000000, []⟩,
  ⟨0x068, 4, 1, .rc, 0x00000000, 0x00000000, []⟩,
  ⟨0x06C, 4, 1, .ro, 0x00000000, 0x00000000, []⟩,
  ⟨0x070, 4, 1, .ro, 0x00000000, 0x00000000, []⟩,
  ⟨0x074, 4, 1, .w1s, 0x00000000, 0x00000000, []⟩]

/-- NET (R404). -/
def rowsNET : List RegRow := [
  ⟨0x040, 4, 1, .rw, 0x00000002, 0x00000007, []⟩,
  ⟨0x044, 4, 1, .ro, 0x00000000, 0x00000000, []⟩,
  ⟨0x048, 4, 1, .ro, 0x01E00150, 0x00000000, []⟩,
  ⟨0x04C, 4, 1, .rw, 0x00000000, 0xFFFFFFFF, []⟩,
  ⟨0x050, 4, 1, .rw, 0x00000000, 0x0000FFFF, []⟩,
  ⟨0x054, 4, 1, .rc, 0x00000000, 0x00000000, []⟩,
  ⟨0x058, 4, 1, .rc, 0x00000000, 0x00000000, []⟩,
  ⟨0x05C, 4, 1, .rc, 0x00000000, 0x00000000, []⟩,
  ⟨0x060, 4, 1, .rc, 0x00000000, 0x00000000, []⟩,
  ⟨0x064, 4, 1, .rc, 0x00000000, 0x00000000, []⟩,
  ⟨0x068, 4, 1, .rc, 0x00000000, 0x00000000, []⟩,
  ⟨0x06C, 4, 1, .ro, 0x00000000, 0x00000000, []⟩,
  ⟨0x070, 4, 1, .ro, 0x00000000, 0x00000000, []⟩,
  ⟨0x074, 4, 1, .ro, 0x00000000, 0x00000000, []⟩,
  ⟨0x078, 4, 1, .rc, 0x00000000, 0x00000000, []⟩]

/-- PRP (R405). -/
def rowsPRP : List RegRow := [
  ⟨0x040, 4, 1, .rwl, 0x00000000, 0xFFFFFFFF, []⟩,
  ⟨0x044, 4, 1, .rwl, 0x00000000, 0x0000FFFF, []⟩,
  ⟨0x048, 4, 1, .rwl, 0x00000000, 0x00017FFF, []⟩,
  ⟨0x04C, 4, 1, .rw, 0x01901403, 0xFFFFFF03, []⟩,
  ⟨0x050, 4, 1, .rw, 0x00000000, 0xFFFFFFFF, []⟩,
  ⟨0x054, 4, 1, .rw, 0x00010000, 0x0001FFFF, []⟩,
  ⟨0x058, 4, 1, .rw, 0x00000002, 0x00000003, []⟩,
  ⟨0x05C, 4, 1, .rwl, 0x00000000, 0xFFFFFFFF, []⟩,
  ⟨0x060, 4, 1, .rw, 0x00000000, 0xFFFFFFFF, []⟩,
  ⟨0x064, 4, 1, .rw, 0x88B60000, 0xFFFFFFFF, []⟩,
  ⟨0x068, 4, 1, .rw, 0x00400200, 0x00FFFFFF, []⟩,
  ⟨0x06C, 4, 1, .rw, 0x00100064, 0x00FFFFFF, []⟩,
  ⟨0x070, 4, 1, .rw, 0x00200190, 0x00FFFFFF, []⟩,
  ⟨0x074, 4, 1, .rw, 0x00080032, 0x00FFFFFF, []⟩,
  ⟨0x078, 4, 1, .rc, 0x00000000, 0x00000000, []⟩,
  ⟨0x07C, 4, 1, .rc, 0x00000000, 0x00000000, []⟩,
  ⟨0x080, 4, 1, .rc, 0x00000000, 0x00000000, []⟩,
  ⟨0x084, 4, 1, .ro, 0x00000000, 0x00000000, []⟩,
  ⟨0x088, 4, 1, .rc, 0x00000000, 0x00000000, []⟩]

/-- TIME (R406). -/
def rowsTIME : List RegRow := [
  ⟨0x040, 4, 1, .rw, 0x03004000, 0x0FFF7FFF, []⟩,
  ⟨0x044, 4, 1, .ro, 0x00000030, 0x00000000, []⟩,
  ⟨0x048, 4, 1, .rws, 0x00000000, 0x0000FFFF, []⟩,
  ⟨0x04C, 4, 1, .rws, 0x00000000, 0xFFFFFFFF, []⟩,
  ⟨0x050, 4, 1, .rws, 0x00000000, 0xFFFFFFFF, []⟩,
  ⟨0x054, 4, 1, .rws, 0x00000000, 0xFFFFFFFF, []⟩,
  ⟨0x058, 4, 1, .rws, 0x00000000, 0xFFFFFFFF, []⟩,
  ⟨0x05C, 4, 1, .rws, 0x00000000, 0xFFFFFFFF, []⟩,
  ⟨0x060, 4, 1, .rws, 0x01400000, 0xFFFFFFFF, []⟩,
  ⟨0x064, 4, 1, .ro, 0x00000000, 0x00000000, []⟩,
  ⟨0x068, 4, 1, .ro, 0x00000000, 0x00000000, []⟩,
  ⟨0x06C, 4, 1, .ro, 0x00000000, 0x00000000, []⟩,
  ⟨0x070, 4, 1, .ro, 0x00000000, 0x00000000, []⟩,
  ⟨0x074, 4, 1, .ro, 0x00000000, 0x00000000, []⟩,
  ⟨0x078, 4, 1, .rw, 0x00000000, 0xFFFFFFFF, []⟩,
  ⟨0x07C, 4, 1, .rw, 0x00000000, 0xFFFFFFFF, []⟩,
  ⟨0x080, 4, 1, .rw, 0x00000000, 0x00000003, []⟩,
  ⟨0x084, 4, 1, .ro, 0x00000000, 0x00000000, []⟩,
  ⟨0x088, 4, 1, .ro, 0x00000000, 0x00000000, []⟩,
  ⟨0x08C, 4, 1, .ro, 0x00000000, 0x00000000, []⟩,
  ⟨0x090, 4, 1, .ro, 0x00000000, 0x00000000, []⟩,
  ⟨0x094, 4, 1, .ro, 0x00000000, 0x00000000, []⟩,
  ⟨0x098, 4, 1, .ro, 0x00000000, 0x00000000, []⟩,
  ⟨0x09C, 4, 1, .rw, 0x000003E8, 0x0000FFFF, []⟩,
  ⟨0x0A0, 4, 1, .w1s, 0x00000000, 0x00000000, []⟩,
  ⟨0x0A4, 4, 1, .ro, 0x00000000, 0x00000000, []⟩,
  ⟨0x0A8, 4, 1, .ro, 0x00000000, 0x00000000, []⟩,
  ⟨0x0AC, 4, 1, .rc, 0x00000000, 0x00000000, []⟩]

/-- TIO (R407). -/
def rowsTIO : List RegRow := [
  ⟨0x040, 4, 1, .rw, 0x00000000, 0x0000FFFF, []⟩,
  ⟨0x044, 4, 1, .ro, 0x00000000, 0x00000000, []⟩,
  ⟨0x048, 4, 1, .ro, 0x00000000, 0x00000000, []⟩,
  ⟨0x04C, 4, 1, .rw, 0x00000000, 0x0000000F, []⟩,
  ⟨0x050, 4, 1, .ro, 0x00000000, 0x00000000, []⟩,
  ⟨0x054, 4, 1, .ro, 0x00000000, 0x00000000, []⟩,
  ⟨0x058, 4, 1, .ro, 0x00000000, 0x00000000, []⟩,
  ⟨0x05C, 4, 1, .rc, 0x00000000, 0x00000000, []⟩,
  ⟨0x060, 4, 1, .rw, 0x00000000, 0xFFFFFFFF, []⟩,
  ⟨0x064, 4, 1, .rw, 0x00000A04, 0x0000FFFF, []⟩,
  ⟨0x068, 4, 1, .rc, 0x00000000, 0x00000000, []⟩,
  ⟨0x100, 64, 16, .rw, 0x00000000, 0x000007FF, []⟩,
  ⟨0x104, 64, 16, .rw, 0x00000000, 0xFFFFFFFF, []⟩,
  ⟨0x108, 64, 16, .rw, 0x00000000, 0x0000FFFF, []⟩,
  ⟨0x10C, 64, 16, .rw, 0x00000000, 0xFFFFFFFF, []⟩,
  ⟨0x110, 64, 16, .rw, 0x00000000, 0x0000FFFF, []⟩,
  ⟨0x114, 64, 16, .rw, 0x00000000, 0x00FFFFFF, []⟩,
  ⟨0x118, 64, 16, .rw, 0x00000008, 0x00FFFFFF, []⟩,
  ⟨0x11C, 64, 16, .w1s, 0x00000000, 0x00000000, []⟩,
  ⟨0x120, 64, 16, .ro, 0x00000000, 0x00000000, []⟩,
  ⟨0x124, 64, 16, .ro, 0x00000000, 0x00000000, []⟩,
  ⟨0x128, 64, 16, .ro, 0x00000000, 0x00000000, []⟩,
  ⟨0x12C, 64, 16, .rw, 0x00000000, 0x0000FFFF, []⟩,
  ⟨0x130, 64, 16, .rw, 0x00000000, 0x000FFFFF, []⟩,
  ⟨0x134, 64, 16, .w1s, 0x00000000, 0x00000000, []⟩,
  ⟨0x138, 64, 16, .rc, 0x00000000, 0x00000000, []⟩,
  ⟨0x13C, 64, 16, .rc, 0x00000000, 0x00000000, []⟩]

/-- DRAM (R432). -/
def rowsDRAM : List RegRow := [
  ⟨0x040, 4, 1, .rwl, 0x0000000F, 0x0000000F, []⟩,
  ⟨0x044, 4, 1, .ro, 0x04411019, 0x00000000, []⟩,
  ⟨0x048, 4, 1, .rw, 0x00000248, 0x00000FFF, []⟩,
  ⟨0x04C, 4, 1, .rw, 0x00000020, 0x000001FF, []⟩,
  ⟨0x050, 4, 1, .ro, 0x00000000, 0x00000000, []⟩,
  ⟨0x054, 4, 1, .rc, 0x00000000, 0x00000000, []⟩,
  ⟨0x058, 4, 1, .rc, 0x00000000, 0x00000000, []⟩,
  ⟨0x05C, 4, 1, .rc, 0x00000000, 0x00000000, []⟩,
  ⟨0x060, 4, 1, .ro, 0x00000000, 0x00000000, []⟩,
  ⟨0x064, 4, 1, .rc, 0x00000000, 0x00000000, []⟩,
  ⟨0x068, 4, 1, .rc, 0x00000000, 0x00000000, []⟩,
  ⟨0x06C, 4, 1, .ro, 0x00000000, 0x00000000, []⟩,
  ⟨0x070, 4, 1, .ro, 0x00000000, 0x00000000, []⟩,
  ⟨0x074, 4, 1, .ro, 0x00000000, 0x00000000, []⟩,
  ⟨0x078, 4, 1, .rw, 0x00000118, 0x0000FFFF, []⟩,
  ⟨0x07C, 4, 1, .ro, 0x00000000, 0x00000000, []⟩,
  ⟨0x080, 4, 1, .rc, 0x00000000, 0x00000000, []⟩,
  ⟨0x084, 4, 1, .rc, 0x00000000, 0x00000000, []⟩,
  ⟨0x088, 4, 1, .rc, 0x00000000, 0x00000000, []⟩,
  ⟨0x08C, 4, 1, .rc, 0x00000000, 0x00000000, []⟩,
  ⟨0x090, 4, 1, .rw, 0x000C050A, 0x00FFFFFF, []⟩,
  ⟨0x094, 4, 1, .ro, 0x00000000, 0x00000000, []⟩,
  ⟨0x098, 4, 1, .rc, 0x00000000, 0x00000000, []⟩,
  ⟨0x09C, 4, 1, .rc, 0x00000000, 0x00000000, []⟩,
  ⟨0x0A0, 4, 1, .rc, 0x00000000, 0x00000000, []⟩,
  ⟨0x0A4, 4, 1, .rc, 0x00000000, 0x00000000, []⟩,
  ⟨0x0A8, 4, 1, .ro, 0x00000000, 0x00000000, []⟩,
  ⟨0x0AC, 4, 1, .ro, 0x00000000, 0x00000000, []⟩,
  ⟨0x0B0, 4, 1, .ro, 0x00000000, 0x00000000, []⟩,
  ⟨0x0B4, 4, 1, .w1s, 0x00000000, 0x00000000, []⟩]

/-- MBOX (R455). -/
def rowsMBOX : List RegRow := [
  ⟨0x040, 4, 1, .w1s, 0x00000000, 0x00000000, []⟩,
  ⟨0x044, 4, 1, .ro, 0x00000000, 0x00000000, []⟩,
  ⟨0x048, 4, 1, .ro, 0x00000000, 0x00000000, []⟩,
  ⟨0x04C, 4, 1, .ro, 0x00000000, 0x00000000, []⟩,
  ⟨0x050, 4, 1, .ro, 0x00000000, 0x00000000, []⟩,
  ⟨0x054, 4, 1, .rw, 0x00000000, 0x000000BF, []⟩,
  ⟨0x058, 4, 1, .wo, 0x00000000, 0x00000000, []⟩,
  ⟨0x100, 64, 16, .rw, 0x00000000, 0xFFFFFFFF, []⟩,
  ⟨0x104, 64, 16, .rw, 0x00000000, 0xFFFFFFFF, []⟩,
  ⟨0x108, 64, 16, .rw, 0x00000000, 0x01FFFFFF, []⟩,
  ⟨0x10C, 64, 16, .rw, 0x00000000, 0xFFFFFFFF, []⟩,
  ⟨0x110, 64, 16, .w1s, 0x00000000, 0x00000000, []⟩,
  ⟨0x114, 64, 16, .wo, 0x00000000, 0x00000000, []⟩,
  ⟨0x118, 64, 16, .ro, 0x00000000, 0x00000000, []⟩,
  ⟨0x11C, 64, 16, .ro, 0x00000000, 0x00000000, []⟩,
  ⟨0x120, 64, 16, .rc, 0x00000000, 0x00000000, []⟩,
  ⟨0x124, 64, 16, .rw, 0x00100000, 0x01FFFFFF, []⟩,
  ⟨0x128, 64, 16, .rw, 0x00000000, 0x8FFFFF7F, []⟩,
  ⟨0x12C, 64, 16, .rw, 0x00000000, 0xFFFFFFFF, []⟩,
  ⟨0x130, 64, 16, .rw, 0x00000000, 0xFFFFFFFF, []⟩,
  ⟨0x134, 64, 16, .rw, 0x00000000, 0x01FFFFFF, []⟩,
  ⟨0x138, 64, 16, .rc, 0x00000000, 0x00000000, []⟩,
  ⟨0x13C, 64, 16, .rc, 0x00000000, 0x00000000, []⟩]

/-- MBOXS (R455, R457). -/
def rowsMBOXS : List RegRow := [
  ⟨0x040, 4, 1, .w1s, 0x00000000, 0x00000000, []⟩,
  ⟨0x044, 4, 1, .ro, 0x00000000, 0x00000000, []⟩,
  ⟨0x048, 4, 1, .ro, 0x00000000, 0x00000000, []⟩,
  ⟨0x100, 64, 16, .rw, 0x00000000, 0xFFFFFFFF, []⟩,
  ⟨0x104, 64, 16, .rw, 0x00000000, 0xFFFFFFFF, []⟩,
  ⟨0x108, 64, 16, .rw, 0x00000000, 0x01FFFFFF, []⟩,
  ⟨0x10C, 64, 16, .rw, 0x00000000, 0xFFFFFFFF, []⟩,
  ⟨0x110, 64, 16, .w1s, 0x00000000, 0x00000000, []⟩,
  ⟨0x114, 64, 16, .wo, 0x00000000, 0x00000000, []⟩,
  ⟨0x118, 64, 16, .ro, 0x00000000, 0x00000000, []⟩,
  ⟨0x11C, 64, 16, .ro, 0x00000000, 0x00000000, []⟩,
  ⟨0x120, 64, 16, .rc, 0x00000000, 0x00000000, []⟩,
  ⟨0x124, 64, 16, .rw, 0x00100000, 0x01FFFFFF, []⟩,
  ⟨0x128, 64, 16, .rw, 0x00000040, 0x8FFFFF0F, []⟩,
  ⟨0x12C, 64, 16, .rw, 0x00000000, 0xFFFFFFFF, []⟩,
  ⟨0x130, 64, 16, .rw, 0x00000000, 0xFFFFFFFF, []⟩,
  ⟨0x134, 64, 16, .rw, 0x00000000, 0x01FFFFFF, []⟩,
  ⟨0x138, 64, 16, .rc, 0x00000000, 0x00000000, []⟩,
  ⟨0x13C, 64, 16, .rc, 0x00000000, 0x00000000, []⟩,
  ⟨0x04C, 4, 1, .ro, 0x00000000, 0x00000000, []⟩,
  ⟨0x050, 4, 1, .ro, 0x00000000, 0x00000000, []⟩,
  ⟨0x054, 4, 1, .rw, 0x00000000, 0x000F0F0F, []⟩,
  ⟨0x058, 4, 1, .wo, 0x00000000, 0x00000000, []⟩,
  ⟨0x05C, 4, 1, .ro, 0x00000000, 0x00000000, []⟩,
  ⟨0x060, 4, 1, .rc, 0x00000000, 0x00000000, []⟩,
  ⟨0x064, 4, 1, .ro, 0x00000000, 0x00000000, []⟩]

/-- NVS (R479). -/
def rowsNVS : List RegRow := [
  ⟨0x040, 4, 1, .ro, 0x00000003, 0x00000000, []⟩,
  ⟨0x044, 4, 1, .ro, 0x00000000, 0x00000000, []⟩,
  ⟨0x048, 4, 1, .ro, 0x00000000, 0x00000000, []⟩,
  ⟨0x04C, 4, 1, .ro, 0x00000000, 0x00000000, []⟩,
  ⟨0x050, 4, 1, .ro, 0x00000000, 0x00000000, []⟩,
  ⟨0x054, 4, 1, .ro, 0x00000000, 0x00000000, []⟩,
  ⟨0x058, 4, 1, .ro, 0x00000000, 0x00000000, []⟩,
  ⟨0x05C, 4, 1, .ro, 0x00000000, 0x00000000, []⟩,
  ⟨0x060, 4, 1, .rc, 0x00000000, 0x00000000, []⟩,
  ⟨0x064, 4, 1, .rc, 0x00000000, 0x00000000, []⟩,
  ⟨0x068, 4, 1, .w1s, 0x00000000, 0x00000000, []⟩]

/-- FW (R480). -/
def rowsFW : List RegRow := [
  ⟨0x040, 4, 1, .ro, 0x00000000, 0x00000000, []⟩,
  ⟨0x044, 4, 1, .ro, 0x00000004, 0x00000000, []⟩,
  ⟨0x048, 4, 1, .ro, 0x01000000, 0x00000000, []⟩,
  ⟨0x04C, 4, 1, .ro, 0x00000000, 0x00000000, []⟩,
  ⟨0x050, 4, 1, .ro, 0x00000000, 0x00000000, []⟩,
  ⟨0x054, 4, 1, .rw, 0x00000000, 0xFFFFFFFF, []⟩,
  ⟨0x058, 4, 1, .rw, 0x00000000, 0xFFFFFFFF, []⟩,
  ⟨0x05C, 4, 1, .rw, 0x00000000, 0x1FFFFFFF, []⟩,
  ⟨0x060, 4, 1, .rw, 0x00000000, 0x800FFFFF, []⟩,
  ⟨0x064, 4, 1, .w1s, 0x00000000, 0x00000000, []⟩,
  ⟨0x068, 4, 1, .ro, 0x00000000, 0x00000000, []⟩,
  ⟨0x06C, 4, 1, .wo, 0x00000000, 0x00000000, []⟩,
  ⟨0x070, 4, 1, .rw, 0x00000000, 0x00000001, []⟩]

/-- TALLY (R482). -/
def rowsTALLY : List RegRow := [
  ⟨0x040, 4, 1, .ro, 0x00000000, 0x00000000, []⟩,
  ⟨0x044, 4, 1, .ro, 0x00000000, 0x00000000, []⟩,
  ⟨0x048, 4, 1, .rw, 0x00000000, 0xFFFFFFFF, []⟩,
  ⟨0x04C, 4, 1, .ro, 0x00000000, 0x00000000, []⟩,
  ⟨0x050, 4, 8, .ro, 0x00000000, 0x00000000, []⟩,
  ⟨0x070, 4, 1, .rc, 0x00000000, 0x00000000, []⟩,
  ⟨0x074, 4, 1, .rw, 0x00000020, 0x00000033, []⟩,
  ⟨0x078, 4, 1, .rw, 0x0000C000, 0x0003FFFF, []⟩,
  ⟨0x07C, 4, 1, .rw, 0x00000000, 0xFFFFFFFF, []⟩,
  ⟨0x080, 4, 1, .w1s, 0x00000000, 0x00000000, []⟩,
  ⟨0x084, 4, 1, .rc, 0x00000000, 0x00000000, []⟩]

/-- PWR (R508). -/
def rowsPWR : List RegRow := [
  ⟨0x040, 4, 1, .ro, 0x00030001, 0x00000000, []⟩,
  ⟨0x044, 4, 1, .w1c, 0x00000000, 0x000007FF, []⟩,
  ⟨0x048, 4, 1, .ro, 0x00000000, 0x00000000, []⟩,
  ⟨0x04C, 4, 1, .ro, 0x00000000, 0x00000000, []⟩,
  ⟨0x050, 4, 1, .ro, 0x00000000, 0x00000000, []⟩,
  ⟨0x054, 4, 1, .ro, 0x00000000, 0x00000000, []⟩,
  ⟨0x058, 4, 1, .ro, 0x00000000, 0x00000000, []⟩,
  ⟨0x05C, 4, 1, .rw, 0x00000000, 0x000000FF, []⟩,
  ⟨0x060, 4, 1, .ro, 0x00000000, 0x00000000, []⟩,
  ⟨0x064, 4, 1, .ro, 0x00000000, 0x00000000, []⟩,
  ⟨0x068, 4, 1, .ro, 0x00000000, 0x00000000, []⟩,
  ⟨0x06C, 4, 1, .ro, 0x00000000, 0x00000000, []⟩,
  ⟨0x070, 4, 1, .ro, 0x00000000, 0x00000000, []⟩,
  ⟨0x074, 4, 1, .rc, 0x00000000, 0x00000000, []⟩,
  ⟨0x078, 4, 1, .w1s, 0x00000000, 0x00000000, []⟩]

/-- THERM (R509). -/
def rowsTHERM : List RegRow := [
  ⟨0x040, 4, 1, .ro, 0x00008000, 0x00000000, []⟩,
  ⟨0x044, 4, 1, .ro, 0x00008000, 0x00000000, []⟩,
  ⟨0x048, 4, 1, .ro, 0x00008000, 0x00000000, []⟩,
  ⟨0x04C, 4, 1, .ro, 0x00008000, 0x00000000, []⟩,
  ⟨0x050, 4, 1, .ro, 0x80008000, 0x00000000, []⟩,
  ⟨0x054, 4, 1, .ro, 0x80008000, 0x00000000, []⟩,
  ⟨0x058, 4, 1, .ro, 0x80008000, 0x00000000, []⟩,
  ⟨0x05C, 4, 1, .ro, 0x00000000, 0x00000000, []⟩,
  ⟨0x060, 4, 1, .ro, 0x00000000, 0x00000000, []⟩,
  ⟨0x064, 4, 1, .ro, 0x00000000, 0x00000000, []⟩,
  ⟨0x068, 4, 1, .rc, 0x00000000, 0x00000000, []⟩,
  ⟨0x06C, 4, 1, .ro, 0x00000000, 0x00000000, []⟩,
  ⟨0x070, 4, 1, .rc, 0x00008000, 0x00000000, []⟩,
  ⟨0x100, 4, 17, .rw, 0, 0xFFFF0000, [0x320C0690, 0x320C06E0, 0x320C0730, 0x320C0550, 0x320C0370, 0x320C03C0, 0x320C0410, 0x320C0460, 0x320C06E0, 0x320C0730, 0x320C0780, 0x320C07D0, 0x320C05F0, 0x320CFE70, 0x320C0550, 0x320C0000, 0x320C0000]⟩]

/-- The registers of a page from offset 0x040 onward. -/
def PageType.rows : PageType → List RegRow
  | .intc => rowsINTC
  | .locks => rowsLOCKS
  | .sys => rowsSYS
  | .clk => rowsCLK
  | .line => rowsLINE
  | .enc => rowsENC
  | .apply => rowsAPPLY
  | .ch => rowsCH
  | .yard => rowsYARD
  | .iommu => rowsIOMMU
  | .job => rowsJOB
  | .plane => rowsPLANE
  | .cam => rowsCAM
  | .isp => rowsISP
  | .ispctx => rowsISPCTX
  | .stats => rowsSTATS
  | .scaler => rowsSCALER
  | .lamp => rowsLAMP
  | .lampseq => rowsLAMPSEQ
  | .peer => rowsPEER
  | .pair => rowsPAIR
  | .ring => rowsRING
  | .net => rowsNET
  | .prp => rowsPRP
  | .time => rowsTIME
  | .tio => rowsTIO
  | .dram => rowsDRAM
  | .mbox => rowsMBOX
  | .mboxs => rowsMBOXS
  | .nvs => rowsNVS
  | .fw => rowsFW
  | .tally => rowsTALLY
  | .pwr => rowsPWR
  | .therm => rowsTHERM

/-- The page type and instance behind a page index (R55, R56); none for an unlisted index. -/
def pageAt (page : Nat) : Option (PageType × Nat) :=
  if page = 0x005 then some (.intc, 0) else
  if page = 0x004 then some (.locks, 0) else
  if page = 0x000 then some (.sys, 0) else
  if page = 0x001 then some (.clk, 0) else
  if page = 0x010 then some (.line, 0) else
  if page = 0x011 then some (.enc, 0) else
  if page = 0x012 then some (.apply, 0) else
  if 0x020 ≤ page ∧ page < 0x020 + 128 then some (.ch, page - 0x020) else
  if page = 0x0B0 then some (.yard, 0) else
  if page = 0x0B1 then some (.iommu, 0) else
  if page = 0x0B4 then some (.job, 0) else
  if 0x018 ≤ page ∧ page < 0x018 + 8 then some (.plane, page - 0x018) else
  if 0x0C8 ≤ page ∧ page < 0x0C8 + 2 then some (.cam, page - 0x0C8) else
  if page = 0x0CA then some (.isp, 0) else
  if 0x200 ≤ page ∧ page < 0x200 + 16 then some (.ispctx, page - 0x200) else
  if page = 0x0CC then some (.stats, 0) else
  if page = 0x0D0 then some (.scaler, 0) else
  if 0x0D4 ≤ page ∧ page < 0x0D4 + 4 then some (.lamp, page - 0x0D4) else
  if page = 0x0D8 then some (.lampseq, 0) else
  if 0x0E8 ≤ page ∧ page < 0x0E8 + 3 then some (.peer, page - 0x0E8) else
  if page = 0x0EB then some (.pair, 0) else
  if page = 0x0EC then some (.ring, 0) else
  if 0x0E0 ≤ page ∧ page < 0x0E0 + 2 then some (.net, page - 0x0E0) else
  if page = 0x0E2 then some (.prp, 0) else
  if page = 0x0E3 then some (.time, 0) else
  if page = 0x0E4 then some (.tio, 0) else
  if 0x0C0 ≤ page ∧ page < 0x0C0 + 6 then some (.dram, page - 0x0C0) else
  if page = 0x0F0 then some (.mbox, 0) else
  if page = 0x100 then some (.mboxs, 0) else
  if page = 0x101 then some (.nvs, 0) else
  if page = 0x102 then some (.fw, 0) else
  if page = 0x0F4 then some (.tally, 0) else
  if page = 0x002 then some (.pwr, 0) else
  if page = 0x003 then some (.therm, 0) else
  if page = 0x0CB then some (.ispctx, 0) else
  none

/-- The pages on which CTRL.ENABLE reads 1 and is read-only (R35, R206). -/
def PageType.alwaysOn : PageType → Bool
  | .sys | .clk | .pwr | .therm | .locks | .intc | .ch => true
  | _ => false

/-- The row and index of the register at an offset, if the page maps one there. -/
def RegRow.covers (r : RegRow) (off : Nat) : Bool :=
  r.base ≤ off && off < r.base + r.stride * r.count && (off - r.base) % r.stride == 0

/-- The reset value of the register of row `r` at offset `off`. -/
def RegRow.resetAt (r : RegRow) (off : Nat) : Nat :=
  r.resets.getD ((off - r.base) / r.stride) r.reset

/-- The row that maps an offset. -/
def PageType.rowAt (p : PageType) (off : Nat) : Option RegRow := p.rows.find? (·.covers off)

/-- The reset value of a header word (R33 to R36). STATUS.STATE of SYS resets to BOOT as
MODULE_STATE does (R66); the manual gives no other reset value of STATUS, which the model reads as
zero (DESIGN CHOICE, log 3). -/
def headerReset (p : PageType) (inst off : Nat) : Nat :=
  match off with
  | 0x000 => p.code * 0x10000 + inst * 0x100 + 0x01
  | 0x004 => p.domain * 0x40000000
  | 0x008 => if p.alwaysOn then 1 else 0
  | 0x00C => if p = .sys then 0x20 else 0
  | _ => 0

/-- The reset value of the register with a key. Unmapped keys read zero (R33). The MSI-X tables of the two functions
(R435, R436) take the page indices 0x300 and 0x301; their vectors are masked at reset, as that capability's
specification has it (PRESUMED, log 39). -/
def resetOf (key : Nat) : Word :=
  match pageAt (key / 0x1000) with
  | none => if (key / 0x1000 = 0x300 ∨ key / 0x1000 = 0x301) ∧ key % 0x1000 < 0x400 ∧ key % 16 = 12 then 1 else 0
  | some (p, inst) =>
    let off := key % 0x1000
    if off < 0x040 then BitVec.ofNat 32 (headerReset p inst off)
    else match p.rowAt off with
      | some r => BitVec.ofNat 32 (r.resetAt off)
      | none => 0

end Sys2Proof.Machine
end

