-- ==== Sys2Proof/Machine/Image.lean ====
section
/-! DEFINITION. The 512-byte header of an image set (R463), and the image set of the factory. -/

namespace Sys2Proof

/-- n bytes of an image set from byte i, little-endian. -/
def ImageSet.field (m : ImageSet) (i n : Nat) : Nat := Machine.leValue ((m.bytes.drop i).take n)

def ImageSet.magic (m : ImageSet) : Nat := m.field 0 4
def ImageSet.format (m : ImageSet) : Nat := m.field 4 2
def ImageSet.device (m : ImageSet) : Nat := m.field 6 2
def ImageSet.siliconMask (m : ImageSet) : Nat := m.field 8 4
def ImageSet.version (m : ImageSet) : Nat := m.field 12 4
def ImageSet.svn (m : ImageSet) : Nat := m.field 16 1
def ImageSet.protoMajor (m : ImageSet) : Nat := m.field 17 1
def ImageSet.protoMinor (m : ImageSet) : Nat := m.field 18 1
def ImageSet.rangerAt (m : ImageSet) : Nat := m.field 20 4
def ImageSet.rangerLen (m : ImageSet) : Nat := m.field 24 4
def ImageSet.crewAt (m : ImageSet) : Nat := m.field 28 4
def ImageSet.crewLen (m : ImageSet) : Nat := m.field 32 4
def ImageSet.rangerHash (m : ImageSet) : Nat := m.field 36 48
def ImageSet.crewHash (m : ImageSet) : Nat := m.field 84 48
def ImageSet.publicKey (m : ImageSet) : List Byte := (m.bytes.drop 132).take 96
def ImageSet.signature (m : ImageSet) : List Byte := (m.bytes.drop 228).take 96

/-- The Crew image. -/
def ImageSet.crew (m : ImageSet) : List Byte := (m.bytes.drop m.crewAt).take m.crewLen

/-- The images are no longer than their maxima, and what is programmed covers them. -/
def ImageSet.covered (m : ImageSet) : Bool :=
  decide (m.rangerLen ≤ 0x800000) && decide (m.crewLen ≤ 0x8000000) &&
    decide (m.rangerAt + m.rangerLen ≤ m.bytes.length) && decide (m.crewAt + m.crewLen ≤ m.bytes.length)

/-- The image set in bank A from the factory: its header for this device and every silicon step, VERSION 1.0.0.0, PAIR_PROTO
1.0, and two images of four bytes, whose hash fields hold 1 (DESIGN CHOICE, log 4). -/
def factoryImage : ImageSet where
  bytes := Machine.leBytes 4 0x57465A51 ++ Machine.leBytes 2 0x0001 ++ Machine.leBytes 2 0x2080
    ++ Machine.leBytes 4 0x3FFFFFF ++ Machine.leBytes 4 0x01000000 ++ Machine.leBytes 4 0x00000100
    ++ Machine.leBytes 4 512 ++ Machine.leBytes 4 4 ++ Machine.leBytes 4 516 ++ Machine.leBytes 4 4
    ++ Machine.leBytes 48 1 ++ Machine.leBytes 48 1 ++ List.replicate 388 0
  keyOk := true
  signatureOk := true
  hashesOk := true

end Sys2Proof
end

