-- ==== Sys2Proof/Machine/State.lean ====
section
/-! DEFINITION. The state of the block as plain data. Registers are held once, in `regs`; the units hold
what the manual gives the engines beyond their registers. -/

namespace Sys2Proof.Machine

/-- One frame or block sent, or one effect at a pin or toward another party, in order of emission. -/
inductive Out where
  /-- A single control block on the head lane of channel c (R208, R209). -/
  | block (c payload : Nat)
  /-- A multi-block frame on the head lane of channel c: start block, data blocks, END block (R210). -/
  | frame (c : Nat) (words : List Nat)
  /-- How the block or frame before it leaves on the lane: 66-bit blocks as sync header and scrambled payload, with the
  IDLE blocks due among them (R180 to R182, R212). -/
  | coded (c : Nat) (blocks : List (Nat × Nat))
  /-- A training frame on the lane of channel c: its 4,096 UI, the first in bit 0 (R187). -/
  | training (c ui : Nat)
  /-- Electrical idle on the lane of channel c (R183, R185, R194, R204). -/
  | electricalIdle (c : Nat)
  /-- An MSI-X message: 0-63 vectors of PF0, 64-79 vectors of PF1 (R61, R452). -/
  | msix (vector : Nat)
  /-- Bytes written to host memory by the function's DMA at an address, with a PASID prefix if there is one (R127,
  R437); they cross no 4 KiB boundary of a Yarder transfer (R129). -/
  | hostWrite (pasid : Option Nat) (addr : Nat) (bytes : List Byte)
  /-- The same with the EP bit set: a chunk with data that reads as uncorrectable (R422). -/
  | hostPoisoned (pasid : Option Nat) (addr : Nat) (bytes : List Byte)
  /-- A read request of the mailbox copy engine: address and length, with a PASID prefix if there is one (R437, R444). -/
  | hostRead (pasid : Option Nat) (addr length : Nat)
  /-- A PCI Express request or completion without data that the manual names (R135, R136): 1 Translation Request, 2 Page
  Request group, 3 Invalidation Completion, 4 Unsupported Request. -/
  | pcie (kind : Nat) (pasid : Option Nat) (arg : Nat)
  /-- A frame sent on a network port: its VLAN tag (VID, and PCP above it) if it has one, its EtherType, and its content as
  a list of fields (R381 to R397). -/
  | net (port : Nat) (tag : Option Nat) (kind : Nat) (fields : List Nat)
  /-- A frame sent on a peer port in a class, with its number (R340). -/
  | peer (port cls seq kind : Nat) (fields : List Nat)
  /-- A time-transfer block or HELLO on a peer port (R338, R342). -/
  | peerBlock (port kind : Nat) (fields : List Nat)
  /-- A PMBus transaction of lamp group g: the address of its supply, the command, and the value written, 0 for a read
  (R324). -/
  | pmbus (g addr command value : Nat)
  /-- A pulse of a lamp sink: channel, start in FRC clocks, width in clocks, DAC code (R313 to R322). -/
  | lamp (ch start width code : Nat)
  /-- The sink of a lamp channel goes off at an FRC value: a pulse that runs ends there, and those announced for later are
  not driven (R311, R312, R320, R333). -/
  | lampCut (ch at_ : Nat)
  /-- A pulse at TIO pin p: start and width in clocks, and its level (R398). -/
  | tioPulse (pin start width level : Nat)
  /-- The trigger pulse toward camera port p: trigger number, start, width in core clocks (R249). -/
  | camTrigger (port num start width : Nat)
  /-- The TRIG_NUM block of a trigger on the return lane of camera port p (R242, R249). -/
  | trigNum (port block : Nat)
  /-- The blocks that a payload becomes on the return lane of camera port p (R241). -/
  | camCoded (port : Nat) (blocks : List (Nat × Nat))
  /-- A control-channel request to camera port p (R247). -/
  | cci (port word : Nat)
  /-- The Crew interrupt of a TIO timer (R398). -/
  | crewIrq (timer : Nat)
  /-- A change of an output pin: its number and its level. 0x10 and 0x11 are CAM_24 of the camera ports (R246), 0x30 to
  0x33 TX_Disable and RS0 and RS1 of NET_A, then of NET_B (R519). -/
  | pin (id level : Nat)
  /-- A square wave of 50 % duty on an output from now on: its frequency in 1/16 Hz; at 0 the output is held low (R91). -/
  | wave (id sixteenths : Nat)
  /-- A DRAM command of channel d (R414 to R431): 1 REF, 2 write-back of a corrected word, 3 retraining slice, 4 ACTIVATE
  (bank * 2^17 + row), 5 PRECHARGE (bank), 6 READ and 7 READ with auto-precharge (address of the burst within the
  channel), 8 SELF REFRESH ENTRY, 9 SELF REFRESH EXIT, 10 ZQ calibration. -/
  | dram (d command arg : Nat)
  /-- A synchronous bus error to the core that read an address of job memory (R422). -/
  | busError (addr : Nat)
  /-- Text on UART_TX: 0 Ranger's boot log, 1 a copy of a Tally entry, with the words that the text carries (R528). -/
  | uart (what : Nat) (words : List Nat)
  /-- A message handed to firmware: a mailbox message to a Crew core or to Ranger (R442). -/
  | firmware (core what : Nat)
  deriving DecidableEq, Repr

/-- The line position of one encoder (R72 to R74). Positions are in 1/65,536 count. -/
structure Enc where
  /-- Position past the last line tick. -/
  phase : Nat := 0
  /-- How far the position lies below the highest value it has reached. -/
  behind : Nat := 0
  /-- Movement since the slip window began. -/
  window : Int := 0
  deriving DecidableEq, Repr

/-- What a ramp or an immediate action of an APPLY slot works from (R96 to R98). -/
structure Slot where
  /-- The line at whose admission the action began. -/
  startLine : Nat := 0
  /-- The register values in force before a DELAY_TAPS ramp: (register key, value). -/
  base : List (Nat × Nat) := []
  /-- In a pair: how often the slot has been rescheduled (R347). -/
  resched : Nat := 0
  /-- On a follower: ACK has been sent (R346). -/
  acked : Bool := false
  /-- The target had passed when the slot was armed (R102). -/
  late : Bool := false
  /-- In doubt and found to have been applied: the line from which this module applies it (R348). -/
  fromLine : Option Nat := none
  deriving DecidableEq, Repr

/-- The channel tables of one bank and the threshold array, as sparse maps of the words of R57: nozzle
entries keyed ch * 6144 + n, tone values keyed ch * 256 + v8, drop maps keyed ch, kerf mask words keyed
m * 384 + line * 6 + j div 32. -/
structure Bank where
  nozzle : SMap Nat := []
  tone : SMap Nat := []
  dmap : SMap Nat := []
  kerf : SMap Nat := []
  deriving DecidableEq, Repr

/-- The screening state of channels and planes (chapter 5). -/
structure Scr where
  target : Bank := {}
  active : Bank := {}
  /-- Threshold values keyed plane * 65536 + u * 256 + w (R153). -/
  thr : SMap Nat := []
  /-- The kerf bank swaps and the nozzle bank swaps are in registers. Consecutive lines sent ABSENT for a
  mismatch, by channel (R173). -/
  mism : SMap Nat := []
  /-- The channels that R156 treats as DISABLED from the next admitted line on. -/
  implicit : List Nat := []
  /-- The channels whose screener fault of R173 is set. -/
  fault : List Nat := []
  deriving DecidableEq, Repr

/-- A splice record (R120): it begins at image line `start`, shows repeat `rep` for `span` print lines,
and the main repeat resumes with `z`. -/
structure Splice where
  start : Nat
  rep : Nat
  span : Nat
  z : Nat
  deriving DecidableEq, Repr

/-- A strip trigger armed by the Scaler (R286): kind 0 spectral, 1 mark, 2 staircase; how many contexts
have delivered its record. -/
structure Trigger where
  plan : Nat
  port : Nat
  band : Nat
  strip : Nat
  kind : Nat
  got : Nat := 0
  /-- Contexts whose frame of this trigger has been dropped, or has not come (R287). -/
  lost : Nat := 0
  deriving DecidableEq, Repr

/-- One line in production: everything its content depends on is fixed at its admission (R25, R96). -/
structure ProdLine where
  line : Nat
  admitFrc : Nat
  /-- The register file and the screening tables at the admission. -/
  regs : SMap Word
  scr : Scr
  slots : SMap Slot
  splices : List Splice
  /-- The channels whose lanes take the line's frames (R86, R197). -/
  chans : List Nat
  /-- Channels of the line that are sent ABSENT whatever their content (R348, R365). -/
  absent : List Nat := []
  /-- Waiting for a stream row (R123). -/
  starved : Bool := false
  /-- Contone arrived and screened: (channel, frame words); an ABSENT frame has two words. -/
  frames : List (Nat × List Nat) := []
  /-- The planes whose contone has arrived. -/
  planes : List Nat := []
  /-- The channels whose halves compute the line once more (R172, R173). -/
  recomp : List Nat := []
  /-- The channels that a second mismatch sends ABSENT (R173). -/
  split : List Nat := []
  /-- All frames queued on the lanes (R15). -/
  queued : Bool := false
  deriving DecidableEq, Repr

/-- The line engine beyond its registers (chapter 3). -/
structure LineUnit where
  /-- The run number of R215. -/
  runNum : Nat := 0
  /-- START_LINE, STOP_LINE and RUN_CFG as latched at the arm (R82). -/
  startLine : Nat := 0
  stopLine : Nat := 0
  runCfg : Nat := 0
  /-- The final line once admission has stopped. -/
  finalLine : Option Nat := none
  /-- The last line for which TICK was sent since the last MODULE reset (R222). -/
  lastTickLine : Option Nat := none
  /-- The FRC value of the last source instant ticked (R81). -/
  lastSource : Option Nat := none
  /-- Source instants whose tick has not been issued yet, each as the earliest instant that R81 allows. -/
  due : List Nat := []
  /-- The last 64 tick intervals, newest first, and how many of them belong to this run. -/
  intervals : List Nat := []
  runIntervals : Nat := 0
  /-- Ticks of this run so far. -/
  runTicks : Nat := 0
  enc0 : Enc := {}
  enc1 : Enc := {}
  /-- The instant of the last virtual tick, or the one that the carried phase stands for, in 1/256 clock
  (R76, R78). -/
  vencOrigin : Nat := 0
  /-- Lines of the source in use in the slip window that is open, and the movement of the two encoders in the last
  complete window until its comparison (R74). -/
  slipLines : Nat := 0
  slipDone : Option (Int × Int) := none
  /-- Whether AUTO has switched to ENC1 (R76). -/
  autoSwitched : Bool := false
  /-- Consecutive late lines, and the stop of the miss policy that the next tick carries out (R88). -/
  lateRun : Nat := 0
  /-- The planes whose seal failures have asked for the stop of R171. -/
  sealStop : List Nat := []
  missStop : Bool := false
  /-- Values of the advised rate computed in the current second above the rate in force (R90). -/
  advHeld : List Nat := []
  /-- Lines in production, oldest first. -/
  prod : List ProdLine := []
  /-- The lanes on which a stop has been sent, so that only IDLE follows (R222). -/
  stopped : List Nat := []
  /-- The lanes that owe the exchange of R225 after a PORT-scoped HALT. -/
  portStop : List Nat := []
  /-- FRC of the last seal failure and of the last late line (R379). -/
  sealAt : Option Nat := none
  missAt : Option Nat := none
  /-- FRC of the last tick in DRAINING or the entry to it (R541). -/
  drainSince : Nat := 0
  deriving DecidableEq, Repr

/-- The two taps a training request can name (R189). -/
inductive Tap where
  | pre | post
  deriving DecidableEq, Repr

/-- The search of the module's receiver over the head's taps (R193). -/
structure Training where
  /-- SEQ of the current request, and the step it asks for: a tap and a direction (true is INC). -/
  seq : Nat := 0
  step : Option (Tap × Bool) := none
  /-- The current request undoes the step before it. -/
  undo : Bool := false
  /-- The current request is for the preset. -/
  preset : Bool := false
  /-- The partner has echoed the current request, a step that met the end of its range; frames received since. -/
  echoed : Bool := false
  stuck : Bool := false
  waited : Nat := 0
  /-- The eye figure kept so far. -/
  best : Nat := 0
  /-- Single steps tried without success since the last kept one. -/
  failed : Nat := 0
  requests : Nat := 0
  converged : Bool := false
  /-- Directions of the last kept steps (true is INC). -/
  dirPost : Bool := true
  dirPre : Bool := true
  /-- RX_READY as sent. -/
  rxReady : Bool := false
  /-- Consecutive valid frames received with RX_READY = 1 and a passing figure. -/
  readyFrames : Nat := 0
  /-- Consecutive markers received inverted, and whether the polarity has been decided since the entry to TRAIN or
  RETRAIN (R191). -/
  inverted : Nat := 0
  flipped : Bool := false
  /-- As responder: SEQ of the last request carried out, and the outcomes of its taps (R190). -/
  doneSeq : Option Nat := none
  stsPre : Nat := 0
  stsPost : Nat := 0
  /-- The head's figure was below the pass level in the last frame. -/
  headLow : Bool := false
  deriving DecidableEq, Repr

/-- One head lane beyond its registers (chapters 6 and 7). -/
structure Lane where
  /-- Probes in a row that detected the termination, and that did not (R183). -/
  present : Nat := 0
  absent : Nat := 0
  /-- In FAILED: the head has been ABSENT since entry (R185). -/
  sawAbsent : Bool := false
  /-- FRC at the last entry to DETECT. -/
  detectFrc : Nat := 0
  train : Training := {}
  /-- The lane is in the 1.0 ms of electrical idle of a rate change (R194). -/
  rateIdle : Bool := false
  /-- The one attempt at FULL of R202 is in progress. -/
  rateUp : Bool := false
  /-- Low eye figures in a row (R198). -/
  lowEyes : Nat := 0
  /-- A head HELLO has passed R228, and a head HELLO with ACK = 1 came. -/
  helloPassed : Bool := false
  headAcked : Bool := false
  /-- Held for ACCEPT (R196). -/
  held : Bool := false
  /-- Held because partner loss is declared and no valid lease is held (R354). -/
  heldPair : Bool := false
  /-- The changed head has been accepted in this exchange (R196). -/
  accepted : Bool := false
  /-- The head identity kept from the last HELLO with which the lane reached ACTIVE: vendor, model, serial. -/
  ident : Option (Nat × Nat × Nat) := none
  /-- FORMATS of that HELLO (R165). -/
  formats : Nat := 0
  /-- The last head HELLO received in this exchange. -/
  hello : Option HeadHello := none
  /-- SEQ of the last TABLE frame and of the last ECHO request. -/
  tableSeq : Nat := 0
  echoSeq : Nat := 0
  /-- The ECHO requests that wait for their replies, oldest first: SEQ, and FRC of the transmission. -/
  echoes : List (Nat × Nat) := []
  /-- The scrambler and the PRBS11 of the transmitter, once it has sent blocks or training frames, and the blocks sent
  since the last IDLE (R181, R187, R212). -/
  txScr : Option Nat := none
  prbs : Option Nat := none
  sinceIdle : Nat := 0
  /-- The descrambler since block lock was gained, none until its first block, and the valid IDLE blocks in a row
  (R181, R185). -/
  rxScr : Option Nat := none
  idles : Nat := 0
  /-- HEAD_CNT values: indices 0x0 to 0xA from STATUS, 0xB to 0xD counted here (R221). -/
  counters : SMap Nat := []
  /-- Whether a STATUS has arrived since ACTIVE. -/
  statusSeen : Bool := false
  /-- A retrain or rate change waits for a grant of the pair logic (R200, R351): true for a rate change. -/
  asked : Option Bool := none
  deriving DecidableEq, Repr

/-- A Tally entry without its SEQ (R475). -/
structure TallyEntry where
  code : Nat
  source : Nat
  inst : Nat
  severity : Nat
  timeValid : Bool
  time : Nat
  line : Nat
  arg : Nat
  deriving DecidableEq, Repr

/-- A journal record (R469). `committed` is false while its commit word is not written. -/
structure JournalRecord where
  half : Nat
  kind : Nat
  key : Nat
  seq : Nat
  data : List Byte
  committed : Bool := true
  deriving DecidableEq, Repr

/-- Ranger, the firmware banks, the journal and the Tally log beyond their registers (chapter 15). -/
structure Mgmt where
  /-- The Tally intake FIFO and the log, oldest first; a logged entry has its SEQ (R476, R477). -/
  intake : List TallyEntry := []
  log : List (Nat × TallyEntry) := []
  /-- Entries lost and not yet reported by a DROPPED entry. -/
  lost : Nat := 0
  /-- The journal in MRAM, in order of writing, and the records waiting in Ranger's memory (R472). -/
  journal : List JournalRecord := []
  waiting : List JournalRecord := []
  nextSeq : Nat := 1
  /-- The image sets in NOR (R463) and the hashes and protocol of the running images. -/
  bankA : Option ImageSet := none
  bankB : Option ImageSet := none
  runRanger : Nat := 0
  runCrew : Nat := 0
  runProto : Nat := 1
  /-- The core has reached IDLE since its last reset (R438, R455). -/
  up : Bool := false
  /-- The boot chain in BOOT starts at step 1 rather than step 3 (R460). -/
  rom : Bool := true
  /-- The bit number in UPDATE_CTRL of the operation in progress (R465 to R467). -/
  op : Option Nat := none
  /-- The Crew core whose restart is awaited in a live update (R466), and the bank of the operation in
  progress. -/
  liveCore : Option Nat := none
  liveBank : Nat := 0
  /-- A NOR operation waits for the device to return to range (R472). -/
  norPaused : Bool := false
  /-- The copy of the Crew image in region 56 that the Crew cores run: 0 at the start of the region, 1 at its middle (R460,
  R466). -/
  crewSlot : Nat := 0
  deriving DecidableEq, Repr

/-- The dwell of one threshold condition (R500): samples in a row that satisfy its entry and its exit. -/
structure Dwell where
  entered : Bool := false
  up : Nat := 0
  down : Nat := 0
  deriving DecidableEq, Repr

/-- The stop input, the power inputs and outputs and the sensors beyond their registers (chapters 16, 17). -/
structure PowerUnit where
  /-- STOP_IN: the two channels as filtered (true is energised), asserted, discrepancy (R525). -/
  stopA : Bool := true
  stopB : Bool := true
  stopIn : Bool := false
  discrepancy : Bool := false
  sys24 : Bool := true
  /-- Head power bits cleared and not yet deasserted at the output (R494). -/
  headOff : Nat := 0
  /-- The core stays down until PWR_CTRL.RESTART (R491), or until a trip is released (R504, R506). -/
  railHold : Bool := false
  tripHold : Bool := false
  /-- The core was shut down by MAINS_FAIL (R485). -/
  mainsDown : Bool := false
  /-- The last four samples of each sensor, newest first; none for a faulty one (R499). -/
  samples : SMap (List (Option Int)) := []
  /-- The dwell of each threshold condition, keyed as `condKey`. -/
  dwell : SMap Dwell := []
  /-- Samples in a row below the release limits of R505 and R506: 0 for DIE, 1 + g for SINKg, 5 for INLET. -/
  release : SMap Nat := []
  /-- The strap contacts in the layout of SYS.CONFIG: [1:0] STRAP_MODE, [4] STRAP_ROOT (R526). -/
  straps : Nat := 0
  deriving DecidableEq, Repr

/-- A handover or retirement agreed and waiting for its line (R362, R363). -/
structure Handover where
  retire : Bool
  /-- This module asked for it. -/
  mine : Bool
  line : Nat
  deriving DecidableEq, Repr

/-- Pair logic and the Lookout client beyond the PAIR registers (chapter 11). -/
structure PairUnit where
  /-- Own message number, and the last accepted from the Lookout and from the partner (R356). -/
  seq : Nat := 0
  lookoutSeq : Option Nat := none
  partnerSeq : Option Nat := none
  /-- The highest epoch seen (R358). -/
  epochSeen : Nat := 0
  /-- Consecutive misses and consecutive good heartbeats per path: PEER_P, network (R352). -/
  peerMiss : Nat := 0
  netMiss : Nat := 0
  peerGood : Nat := 0
  netGood : Nat := 0
  lost : Bool := false
  /-- Partner loss has been declared, and the pair has not been formed since (R354). -/
  apart : Bool := false
  /-- The FRC value at which the lease lapses, and that at which the last CLAIM or RENEW was sent. -/
  leaseEnd : Option Nat := none
  asked : Option Nat := none
  /-- The last message asked for a claim (true) or a renewal, and the reason of a claim (R355). -/
  claiming : Bool := false
  reason : Nat := 0
  /-- FRC of the last Lookout answer. -/
  answerAt : Option Nat := none
  /-- The last three STATUS frames of each ACTIVE lane, newest first: whether a duplicate counter rose, and whether
  LINES_FIRED did (R359). -/
  quiet : SMap (List (Bool × Bool)) := []
  /-- The grant held for each head: 0 none, 1 this module, 2 the partner (R351). -/
  grants : SMap Nat := []
  handover : Option Handover := none
  /-- The partner is retiring or SAFE. -/
  partnerGone : Bool := false
  /-- The partner's role and condition, from its last heartbeat. -/
  partnerRole : Nat := 0
  partnerCond : Nat := 0
  /-- The state of the two modules has been agreed since the last partner loss (R343, R364). -/
  synced : Bool := false
  /-- Slots in doubt (R348). -/
  inDoubt : List Nat := []
  /-- Channels for which ABSENT is sent, each from a line, and the lines at which sending resumes (R348,
  R365). -/
  absentFrom : List (Nat × Nat) := []
  resumeAt : List (Nat × Nat) := []
  /-- SLOT messages that wait for forwarded writes (R346). -/
  slotWait : List (List Nat) := []
  /-- Channels and planes under repair after a digest mismatch: 0-127 channels, 128 + p planes. -/
  repair : List Nat := []
  /-- Lines in a row with a large skew, and with the phase at a limit (R350). -/
  skewRun : Nat := 0
  limitRun : Nat := 0
  /-- The head behind the partner's lane of each channel: vendor, model, serial, port (R228). -/
  partnerHeads : SMap (List Nat) := []
  /-- The digest check (R365): the line agreed for the next one, and this module's and the partner's digests for a line, each
kept until the other's are there. -/
  digestAt : Option Nat := none
  digests : Option (Nat × List (Nat × Nat)) := none
  theirs : Option (Nat × List (Nat × Nat)) := none
  /-- A rise of DUP_MISMATCH has asked for the digest check (R365). -/
  dupRise : Bool := false
  /-- A line-domain page arm waits for the partner's acknowledgement, by page (R49). -/
  armWait : List Nat := []
  /-- The grant inputs as filtered in WIRED mode (R360). -/
  grantA : Bool := false
  grantB : Bool := false
  deriving DecidableEq, Repr

/-- What a queue does between commands (R130, R135, R136). -/
inductive QWait where
  | none | translation | page | credit | tile
  deriving DecidableEq, Repr

/-- A page of the address translation cache (R135): the function and the PASID that it was translated for, its first host
address and its size, and the address that it translates to. -/
structure AtcEntry where
  pf1 : Bool
  pasid : Option Nat
  base : Nat
  size : Nat
  target : Nat
  deriving DecidableEq, Repr

/-- One descriptor queue beyond its registers. -/
structure Queue where
  /-- The words of the descriptor in progress. -/
  words : Option (List Nat) := none
  /-- Data bytes of it already in job memory, or in host memory. -/
  moved : Nat := 0
  wait : QWait := .none
  /-- The host address of the chunk that waits. -/
  addr : Nat := 0
  /-- A tile of this descriptor disagreed with its supplied seals (R140). -/
  badSeal : Bool := false
  /-- A completion record whose address waits for its translation (R128, R135). -/
  record : Option (List Byte) := none
  deriving DecidableEq, Repr

/-- What stands beside a valid tile (R138, R141): its name, the address of its seal block, and its digest, the CRC-32C of
that block. -/
structure TileMark where
  key : Nat
  block : Nat
  digest : Nat
  deriving DecidableEq, Repr

/-- Job memory, the Yarder and the tiles beyond their registers (chapter 4). -/
structure JobUnit where
  mem : SMap Byte := []
  queues : SMap Queue := []
  /-- The chunks that each queue has moved since its rivals of equal PRIORITY last all had their shares (R129). -/
  shares : SMap Nat := []
  /-- The address translation cache, newest first. -/
  atc : List AtcEntry := []
  /-- Valid tiles by their address (R138). -/
  valid : SMap (Option TileMark) := []
  /-- The partner's digests. -/
  partner : SMap (Option Nat) := []
  /-- The tiles of the stream that a line admitted has used (R143). -/
  judged : List Nat := []
  /-- A retired splice record ends at the image line that the last channel reaches next; the ticks still to come at which a
  splice starts or ends, with the bit of INT_STATUS (R150). -/
  spliceEnd : Bool := false
  edges : List (Nat × Nat) := []
  /-- Bytes taken in on STREAM queues since the last recomputation of the advised rate, whether credits have stayed above
  0 since it, and both for the last 1,000 intervals of 1.0 ms before it, newest first (R126). -/
  bytesIn : Nat := 0
  creditsHeld : Bool := false
  feed : List (Nat × Bool) := []
  deriving DecidableEq, Repr

/-- A trigger record (R255): CURRENT_LINE and the LAMPSEQ settings at the rising edge, and the virtual
channels that have delivered an FS for it. -/
structure TrigRecord where
  num : Nat
  frc : Nat
  line : Nat
  plan : Nat
  expNs : Nat
  band : Nat
  current : Nat
  seen : List Nat := []
  deriving DecidableEq, Repr

/-- A frame of a virtual channel, open until FE (R252), and then held until its record is published (R270). -/
structure CamFrame where
  /-- Its number among the frames of its port; the lines in the FIFO name it. -/
  id : Nat
  vc : Nat
  num : Nat
  ctx : Nat
  fsFrc : Nat
  /-- The trigger record it is bound to; none is UNMATCHED (R255). -/
  rec_ : Option TrigRecord := none
  /-- Dropped: its later packets are discarded (R252). -/
  dropped : Bool := false
  /-- Lines received, and the line start of a line that is open (R253). -/
  received : Nat := 0
  lineOpen : Bool := false
  /-- A line has come since the last line start (R276). -/
  lineHas : Bool := false
  /-- The lines that the ISP has taken, in order: unpacked 14-bit pixels. -/
  lines : List (List Nat) := []
  /-- FE has come. -/
  ended : Bool := false
  /-- The parameter set in force for it: the context's registers and tables, GENERATION, LATE_PARAM. -/
  regs : SMap Word := []
  tables : SMap Nat := []
  gen : Nat := 0
  late : Bool := false
  deriving DecidableEq, Repr

/-- One line in an input FIFO (R258). -/
structure FifoLine where
  frame : Nat
  bytes : Nat
  pixels : List Nat
  deriving DecidableEq, Repr

/-- One camera port beyond its registers (chapter 8). -/
structure CamPort where
  /-- Physical lanes whose block lock is held, and ALIGN sets in a row within the skew (R243, R245). -/
  locked : List Nat := []
  aligned : Nat := 0
  records : List TrigRecord := []
  frames : List CamFrame := []
  fifo : List FifoLine := []
  /-- FRC of the fall of the last pulse (R250). -/
  fall : Option Nat := none
  /-- The CCI request in flight: device, register (R247). -/
  cci : Option (Nat × Nat) := none
  /-- Stream map entries that wait for the next FS of their virtual channel (R254): (channel, byte). -/
  mapWait : List (Nat × Nat) := []
  /-- The number of the next frame. -/
  nextId : Nat := 0
  /-- The scrambler of the return lane, and blocks sent on it since the last IDLE (R181, R241). -/
  txScr : Option Nat := none
  sinceIdle : Nat := 0
  /-- The descramblers of the receive lanes: none before the first block after block lock (R181, R241). -/
  rxScr : SMap (Option Nat) := []
  deriving DecidableEq, Repr

/-- The camera ports and the image pipeline beyond their registers. The ISP tables are keyed
context * 8192 + word offset of R272. -/
structure CamUnit where
  ports : SMap CamPort := []
  target : SMap Nat := []
  active : SMap Nat := []
  /-- The contexts whose last applied set was armed late (R269). -/
  late : List Nat := []
  /-- Frames processed and not yet published, oldest first, with their port. -/
  done : List (Nat × CamFrame) := []
  /-- SEQ of the next record, and the next output slot of each context (R269, R271). -/
  seq : Nat := 0
  outNext : SMap Nat := []
  /-- The port from which the ISP took a line last (R259). -/
  last : Nat := 1
  /-- The lines taken in the last 100 ms: FRC and cost in clocks (R259, R274). -/
  busy : List (Nat × Nat) := []
  deriving DecidableEq, Repr

/-- The result of one patch in one band (R292, R293). -/
structure PatchBand where
  sat : Bool := false
  refl : Option Nat := none
  rel : Option Nat := none
  deriving DecidableEq, Repr

/-- The Scaler beyond its registers (chapter 9). -/
structure ColourUnit where
  /-- Head temperatures of the present 1 s bin, by channel (R305). -/
  temps : SMap (List Int) := []
  /-- The means of the last bins, newest first, none for a bin without a sample. -/
  bins : SMap (List (Option Int)) := []
  /-- FRC of the last drift trigger of each channel (R306). -/
  lastTrig : SMap (Option Nat) := []
  /-- Triggers armed whose records are not all in, oldest first, and how many contexts have delivered. -/
  armed : List Trigger := []
  /-- Strips that a forced staircase falls on (R284). -/
  forced : List Nat := []
  /-- The results of the cycle, keyed patch * 12 + band, and the binding words of each band (R298). -/
  patches : SMap PatchBand := []
  binding : SMap (List Nat) := []
  /-- FIRST_STRIP and LAST_STRIP of the cycle (R290). -/
  span : Option (Nat × Nat) := none
  /-- Complete sets that wait for publication: (bytes, marks). -/
  sets : List (List Byte × Bool) := []
  /-- Marks of the strip whose mark trigger is being served, by channel: found, ex, ey, sum of w; and the
  binding words of that trigger (R298, R300). -/
  marks : SMap (Option (Bool × Int × Int × Nat)) := []
  markBind : List Nat := []
  /-- Firmware: the last line of the last tone ramp of a channel (R302); the strips whose mark row was admitted while a
  DELAY_TAPS or COL_SHIFT slot of the channel was ARMED, RAMPING or SYNC (R303). -/
  toneSettle : SMap (Option Nat) := []
  regSettle : SMap (List Nat) := []
  /-- SCALER_CFG as it was at the last point at which a trigger is armed: MEASURE_EN, DENS_REL and BAND_MASK of the
  triggers that are armed (R309). -/
  cfg : Nat := 0x0FFFFF04
  /-- Channels whose reference is to be taken at their first valid mean (R306), and channels in a full
  registration correction: the first strip that counts, and the errors so far (R307). -/
  reref : List Nat := []
  calib : SMap (Option (Nat × List (Int × Int))) := []
  /-- Contrasts of the last three staircases, newest first, and calibrated gains of nozzles that have left
  GOOD, by channel * 6144 + nozzle (R304). -/
  contrast : SMap (List Nat) := []
  calGain : SMap Nat := []
  deriving DecidableEq, Repr

/-- One lamp channel beyond its registers (R312, R326 to R329). -/
structure LampCh where
  /-- Consecutive failing samples and failing probes. -/
  fails : Nat := 0
  probeFails : Nat := 0
  /-- Consecutive periods without a qualifying pulse. -/
  unqual : Nat := 0
  /-- FRC of the start of the present period, and its length. -/
  start : Nat := 0
  period : Nat := 0
  /-- The pulses of the period or of the strobe, start and width in FRC clocks, as they are driven; FRC before which the
  next period does not start (R312, R320). -/
  pulses : List (Nat × Nat) := []
  due : Nat := 0
  /-- FRC of the start of the last failing probe (R327). -/
  probeAt : Nat := 0
  /-- A probe has been asked for and waits for a free interval. -/
  want : Bool := false
  /-- A probe is in progress. -/
  probing : Bool := false
  deriving DecidableEq, Repr

/-- One lamp group beyond its registers (R324, R325). -/
structure LampGroup where
  /-- The lowest sink voltage sampled in the present 1.0 ms. -/
  vmin : Option Nat := none
  stepFails : Nat := 0
  /-- Next channel to probe. -/
  next : Nat := 0
  /-- FRC at which LAMP_BUS_EN was last deasserted (R497). -/
  offAt : Nat := 0
  deriving DecidableEq, Repr

/-- An entry of a LAMPSEQ queue (R321). -/
structure SeqEntry where
  plan : Nat
  band : Nat
  current : Nat
  deriving DecidableEq, Repr

/-- The lamp groups and LAMPSEQ beyond their registers (chapter 10). -/
structure LampUnit where
  /-- User curves keyed channel * 1024 + level, bin records keyed channel * 4 + word (R334). -/
  curves : SMap Nat := []
  bins : SMap Nat := []
  chans : SMap LampCh := []
  groups : SMap LampGroup := []
  queues : SMap (List SeqEntry) := []
  /-- The exposure masks of the edges of each port that are not over: first and last FRC value (R322). -/
  masks : SMap (List (Nat × Nat)) := []
  deriving DecidableEq, Repr

/-- One peer port beyond its registers (R340, R342). Data classes are 1 MIRROR, 2 FORWARD, 3 BULK. -/
structure PeerPort where
  /-- The number of the last frame sent in each class, and of the next one expected. -/
  txSeq : SMap Nat := []
  rxSeq : SMap Nat := []
  /-- Frames sent and not acknowledged, oldest first: (class, number, kind, fields). -/
  unacked : List (Nat × Nat × Nat × List Nat) := []
  /-- Those of them that wait for the port to carry data: (class, number). -/
  waiting : List (Nat × Nat) := []
  /-- The last TIME-class block of which a good copy has come. -/
  lastBlock : Option Nat := none
  /-- ALIGN sets in a row within the skew (R339). -/
  aligned : Nat := 0
  /-- The neighbour's FRC less this module's, in clocks. -/
  offset : Option Int := none
  deriving DecidableEq, Repr

/-- The peer ports and the ring beyond their registers (chapter 11). -/
structure RingUnit where
  ports : SMap PeerPort := []
  /-- The lowest advised rate of the ring, and the partner's (R375). -/
  advice : Option Nat := none
  partnerAdvice : Option Nat := none
  /-- Ring time of a node that is not root: (FRC, ring time in 2^-16 ns at it) (R369). -/
  base : Option (Nat × Nat) := none
  /-- FRC at which the root began to await closure, and at which the enumeration began (R368). -/
  waitFrc : Nat := 0
  enumFrc : Nat := 0
  /-- ENUM came in on PEER_W; the enumeration is that of a chain; on its root, the nodes of the eastern branch with the root
  itself once the western one is enumerated (R368). -/
  fromW : Bool := true
  chain : Bool := false
  eastNodes : Nat := 0
  /-- The last two predictions that have their ticks, newest first: (line, ring time in 2^-16 ns); those that have come ahead
  of a missing one; how many lines in a row have been extrapolated (R371). -/
  preds : List (Nat × Nat) := []
  ahead : List (Nat × Nat) := []
  held : Nat := 0
  /-- On the root, FRC of the last 65 lines of the source, newest first, and the number of the last (R370). -/
  marks : List Nat := []
  pos : Nat := 0
  deriving DecidableEq, Repr

/-- A source in the PRP node table: its MAC, the FRC of its last frame, and the sequence numbers received
(R386). -/
structure NetNode where
  mac : Nat
  last : Nat
  seqs : List Nat := []
  deriving DecidableEq, Repr

/-- One network port's PTP port (R387 to R389, R394). Times are in 2^-16 ns; instants of this module are FRC
values at the MAC boundary. -/
structure NetPort where
  /-- The selected grandmaster's data set (R388). -/
  best : Option (List Nat) := none
  /-- A two-step Sync that waits for its Follow_Up: number, t2, correction. -/
  sync : Option (Nat × Nat × Int) := none
  /-- t1 + correction, and t2, of the last Sync. -/
  last : Option (Int × Nat) := none
  /-- Number and t3 of the last Delay_Req or Pdelay_Req sent. -/
  req : Option (Nat × Nat) := none
  reqSeq : Nat := 0
  /-- A two-step Pdelay_Resp that waits for its Follow_Up: number, t2 less correction, t4. -/
  resp : Option (Nat × Int × Nat) := none
  /-- The last accepted delay samples, newest first, at most 16, and the suspect ones in a row. -/
  delays : List Int := []
  suspects : List Int := []
  /-- The implied offset o_L of the last sample, and samples since the grandmaster was selected. -/
  off : Option Int := none
  samples : Nat := 0
  /-- Samples since a delay step on this LAN (R395); none: no step stands. -/
  stepped : Option Nat := none
  deriving DecidableEq, Repr

/-- The network ports, PRP, PTP and module time beyond their registers (chapter 12). -/
structure NetUnit where
  /-- The servo has reached LOCKED since POR (R475). -/
  everLocked : Bool := false
  /-- The model before the last apply (offset in 2^-16 ns, FRC_REF, RATE), the FRC of that apply, and of the
  one before (R392). -/
  old : Option (Nat × Nat × Nat) := none
  applyFrc : Nat := 0
  oldFrc : Nat := 0
  ports : SMap NetPort := []
  nodes : List NetNode := []
  /-- The policer of each class: tokens taken and not yet returned, in 1/800,000,000 token, and the FRC of
  that count (R384). -/
  police : SMap (Nat × Nat) := []
  /-- The queues of the classes to firmware, oldest first: the port and the frame (R382, R384). -/
  queues : SMap (List (Nat × NetFrame)) := []
  /-- The PRP sequence number of the next frame, and the FRC of the last supervision frame sent. -/
  seq : Nat := 0
  /-- Samples in a row within the bound of LOCKED, and beyond that of ACQUIRE (R396). -/
  lockRun : Nat := 0
  offRun : Nat := 0
  /-- FRC since which the two LANs agree within 20 ns, and at which the servo entered HOLDOVER. -/
  agree : Option Nat := none
  holdFrc : Nat := 0
  /-- The d_L held at the entry to HOLDOVER, by port. -/
  heldDelay : SMap (Option Int) := []
  /-- LANs dropped under R395. -/
  dropped : List Nat := []
  deriving DecidableEq, Repr

/-- One TIO timer beyond its registers (R398 to R402). -/
structure Timer where
  /-- The capture plan: plan number and exposure in ns. -/
  plan : List (Nat × Nat) := []
  /-- The next event of a time mode: FRC in 1/65,536 clock. -/
  next : Nat := 0
  /-- NS_PERIOD: module time of the first event in 2^-16 ns, and the index of the next event. -/
  first : Option Nat := none
  index : Nat := 0
  /-- The next line of a line mode, and the lines that the Scaler has armed (R286). -/
  line : Nat := 0
  strips : List Nat := []
  /-- An event that the late policy owes at once: its FRC value (R400). -/
  fire : Option Nat := none
  deriving DecidableEq, Repr

/-- A captured edge (R403). -/
structure Edge where
  frc : Nat
  line : Nat
  falling : Bool
  deriving DecidableEq, Repr

/-- Timed I/O beyond its registers (chapter 12). -/
structure TioUnit where
  timers : SMap Timer := []
  caps : SMap (List Edge) := []
  /-- Ticks of the last 2^24 clocks, newest first: line and FRC (R400). -/
  ticks : List (Nat × Nat) := []
  deriving DecidableEq, Repr

/-- One DRAM channel beyond its registers (chapter 13). -/
structure DramCh where
  /-- The refresh debt D in ns (R416). -/
  debt : Int := 0
  /-- TEMP at the last retraining, in 1/16 degree, and readings in a row below 82 degrees (R417, R426). -/
  trainTemp : Int := 0
  cool : Nat := 0
  /-- Slices of the retraining in progress. -/
  slices : Option Nat := none
  /-- Passing retrainings in a row without an uncorrectable error while DEGRADED (R427). -/
  passes : Nat := 0
  /-- The rows that stand open: bank, row, and the FRC of the last hit of a row that PAGE_IDLE closes (R414). -/
  open_ : List (Nat × Nat × Option Nat) := []
  /-- The retry buffer: the last 32 commands with their arguments, the newest first (R419). -/
  cmds : List (Nat × Nat) := []
  /-- The bursts read or written in the last 100 ms: FRC, and whether for class RT (R432). -/
  traffic : List (Nat × Bool) := []
  /-- The bank group of the last column command, the bursts of classes 2 to 4 in the round, and the write buffer, oldest
  first: the burst's number in the channel, the words written, the class (R412, R415). -/
  group : Nat := 0
  share : SMap Nat := []
  writes : List (Nat × Nat × Nat) := []
  deriving DecidableEq, Repr

/-- The DRAM channels beyond their registers (chapter 13). -/
structure DramUnit where
  /-- The 64-bit words of job memory known to be uncorrectable, as address div 8 (R422). -/
  poisoned : List Nat := []
  /-- The module stops once the run in progress has ended (R428). -/
  stop : Bool := false
  /-- A refused RETIRE request of a scheduled stop is to be repeated. -/
  retireAgain : Bool := false
  chans : SMap DramCh := []
  deriving DecidableEq, Repr

/-- The host interface and the mailboxes beyond their registers (chapter 14). -/
structure HostUnit where
  /-- The PCIe link is up, at this generation and width (R126). -/
  link : Bool := false
  gen : Nat := 4
  width : Nat := 16
  /-- What the host has enabled in configuration space (R61, R135, R437). -/
  fn0 : PcieFn := {}
  fn1 : PcieFn := {}
  /-- PF0, PF1 is in D3hot (R435, R438). -/
  sleep0 : Bool := false
  sleep1 : Bool := false
  /-- The message bodies that the module end has copied, by channel (R444, R446). -/
  bodies : SMap (Option (List Byte)) := []
  /-- Commands held for their reply channel: the reply's type, body and code, by channel (R448). -/
  held : SMap (Option (Nat × List Byte)) := []
  /-- The last counter accepted on each secure channel, and the module's own (R453). -/
  counters : SMap Nat := []
  ownCounters : SMap Nat := []
  /-- MBOXS.SESSION: the two halves, drawn at every STANDBY reset and POR (R454). -/
  sessionLo : Nat := 0
  sessionHi : Nat := 0
  deriving DecidableEq, Repr

/-- The latches, locks and interrupt vectors of the register space (chapter 2). -/
structure MsixVector where
  /-- A message has been sent and VEC_ACK has not been written since (R61). -/
  sent : Bool := false
  /-- FRC of the last message. -/
  last : Option Nat := none
  deriving DecidableEq, Repr

/-- The machine: every register, buffer, counter and mode the manual gives the module, and the queue of
commands that are waiting. -/
structure State where
  /-- The free-running counter of core clocks (R23). -/
  frc : Nat
  /-- The registers that differ from their reset values, by key (Machine/Reg.lean). -/
  regs : SMap Word
  /-- The shadows of RWS registers (R46). -/
  shadow : SMap Word
  /-- The read and write latches of R44, by page index * 8 + requester. -/
  latchR : SMap (Option Word)
  latchW : SMap (Option Word)
  /-- What RO and RC registers read on a frozen page (R54): the value when FREEZE was set. -/
  frozen : SMap (Option Word)
  /-- The owner of each held lock; 0 is free (R62, R63). -/
  locks : SMap Nat
  /-- The MSI-X vectors: 0-63 of PF0, 64-79 of PF1 (R61, R452). -/
  msix : SMap MsixVector
  line : LineUnit
  slots : SMap Slot
  scr : Scr
  splices : List Splice
  job : JobUnit
  lanes : SMap Lane
  cam : CamUnit
  colour : ColourUnit
  lamp : LampUnit
  pair : PairUnit
  ring : RingUnit
  net : NetUnit
  tio : TioUnit
  dram : DramUnit
  host : HostUnit
  mgmt : Mgmt
  pwr : PowerUnit
  /-- What the last command answered to its sender: read data. -/
  reply : List Nat
  /-- What the module has sent, oldest first. -/
  out : List Out
  /-- The model's own: how many free values have been drawn (log 2). -/
  freeCount : Nat
  /-- The commands that are waiting, first in, first out. -/
  pending : List Instr
  deriving DecidableEq, Repr

/-- Why a step stops with a fault. No command of this block faults: each has an effect or is recorded or
ignored as the manual says. The constructor is raised by nothing; it is safe. -/
inductive Fault where
  | unreachable
  deriving DecidableEq, Repr

/-- Why a command is refused. `notModelled` names a command that has no meaning yet: safe. -/
inductive Refusal where
  | notModelled (mnemonic : String)
  deriving DecidableEq, Repr

/-- The first Tally entry after the loss of all power (R477). -/
def porEntry : TallyEntry :=
  { code := 0x0001, source := 0xF0, inst := 0, severity := 3, timeValid := false, time := 0, line := 0xFFFFFFFF,
    arg := 0 }

/-- The machine right after power-on reset, in BOOT (R66, R532): every register at its reset value, every
buffer and queue empty, no line in production. STATE_LOST is set on the two mailbox pages (R451), and SESSION has been drawn
(R454). -/
def State.reset : State where
  frc := 0
  regs := [(Reg.INT_STATUS Reg.pageMBOX, 2 ^ 26), (Reg.INT_STATUS Reg.pageMBOXS, 2 ^ 26)]
  shadow := []
  latchR := []
  latchW := []
  frozen := []
  locks := []
  msix := []
  line := {}
  slots := []
  scr := {}
  splices := []
  job := {}
  lanes := []
  cam := {}
  colour := {}
  lamp := {}
  pair := {}
  ring := {}
  net := {}
  tio := {}
  dram := {}
  host := { sessionLo := (Config.freeWord 0).toNat, sessionHi := (Config.freeWord 1).toNat }
  mgmt := { bankA := some factoryImage, runRanger := 1, runCrew := 1, intake := [porEntry] }
  pwr := {}
  reply := []
  out := []
  freeCount := 2
  pending := []

end Sys2Proof.Machine
end

