-- ==== Sys2Proof/Machine/Flags.lean ====
section
/-! DEFINITION. Reading and writing the stored value of a register, and the flags that every page has: the
interrupt bits of INT_STATUS (R36, R37), the fields of STATUS (R35), and the record of an error in ERR_INFO
and ERR_COUNT (R38, R40). -/

namespace Sys2Proof.Machine

/-- The stored value of the register with a key. -/
def State.rd (s : State) (a : Nat) : Nat := (smGet resetOf s.regs a).toNat

/-- Store a value in the register with a key. -/
def State.wr (s : State) (a v : Nat) : State :=
  { s with regs := smSet resetOf s.regs a (BitVec.ofNat 32 v) }

/-- A field of a register. -/
def State.rdF (s : State) (a hi lo : Nat) : Nat := fld (s.rd a) hi lo

/-- Store a field of a register, keeping the other bits. -/
def State.wrF (s : State) (a hi lo v : Nat) : State := s.wr a (putFld (s.rd a) hi lo v)

/-- A bit of a register. -/
def State.bit (s : State) (a i : Nat) : Bool := bitOf (s.rd a) i

/-- Store a bit of a register. -/
def State.wrB (s : State) (a i : Nat) (b : Bool) : State := s.wr a (putB (s.rd a) i b)

/-- Write several registers, in order. -/
def State.wrs (s : State) (l : List (Nat × Nat)) : State := l.foldl (fun s p => s.wr p.1 p.2) s

/-- Add one to a register that saturates at 0xFFFF_FFFF. -/
def State.count (s : State) (a : Nat) : State := s.wr a (satInc 32 (s.rd a))

/-- Add one to a field that saturates. -/
def State.countF (s : State) (a hi lo : Nat) : State := s.wrF a hi lo (satInc (hi + 1 - lo) (s.rdF a hi lo))

/-- Two registers as one 64-bit value. -/
def State.rd64 (s : State) (lo hi : Nat) : Nat := s.rd lo + s.rd hi * 2 ^ 32

/-- Store a 64-bit value in two registers. -/
def State.wr64 (s : State) (lo hi v : Nat) : State := (s.wr lo (v % 2 ^ 32)).wr hi (v / 2 ^ 32 % 2 ^ 32)

/-- Append to what the module has sent. -/
def State.emit (s : State) (o : Out) : State := { s with out := s.out ++ [o] }

/-- Append several. -/
def State.emits (s : State) (l : List Out) : State := { s with out := s.out ++ l }

/-- The answer to the command's sender. -/
def State.answer (s : State) (l : List Nat) : State := { s with reply := l }

/-- The next free value (log 2) and the state that has drawn it. -/
def State.free (s : State) : Nat := (Config.freeWord s.freeCount).toNat
def State.drew (s : State) : State := { s with freeCount := s.freeCount + 1 }

/-- Let time pass to the instant of a command. -/
def State.till (s : State) (t : Nat) : State := { s with frc := max s.frc t % 2 ^ 64 }

/-- Set an INT_STATUS bit of a page (R36). -/
def State.intSet (s : State) (page i : Nat) : State := s.wrB (Reg.INT_STATUS page) i true

/-- The fields of STATUS (R35). -/
def State.ready (s : State) (page : Nat) (b : Bool) : State := s.wrB (Reg.STATUS page) 0 b
def State.busy (s : State) (page : Nat) (b : Bool) : State := s.wrB (Reg.STATUS page) 1 b
def State.degraded (s : State) (page : Nat) (b : Bool) : State := s.wrB (Reg.STATUS page) 3 b
def State.stCode (s : State) (page : Nat) : Nat := s.rdF (Reg.STATUS page) 7 4
def State.setStCode (s : State) (page v : Nat) : State := s.wrF (Reg.STATUS page) 7 4 v

/-- STATUS.FAULT; a change from 0 to 1 sets INT_STATUS.FAULT (R36). -/
def State.fault (s : State) (page : Nat) (b : Bool) : State :=
  let t := s.wrB (Reg.STATUS page) 2 b
  if b && !s.bit (Reg.STATUS page) 2 then t.intSet page 0 else t

/-- SOURCE of ERR_INFO for a requester (R38). -/
def srcCode : Req → Nat
  | .pf0 => 1
  | .pf1 => 2
  | .crew _ => 3
  | .ranger => 4
  | .peer => 5

/-- ERR_COUNT after one more error (R40): COUNT saturates, and OVERFLOW is set by an error that finds it
saturated. -/
def errCountNext (v : Nat) : Nat :=
  if fld v 15 0 = 0xFFFF then setB v 31 else putFld v 15 0 (fld v 15 0 + 1)

/-- Record an error on a page (R38, R40): ERR_INFO keeps the first error since it was last read,
ERR_COUNT counts, and INT_STATUS.ERROR is set (R36). -/
def State.error (s : State) (page code off source : Nat) : State :=
  let s := if s.rd (Reg.ERR_INFO page) = 0
    then s.wr (Reg.ERR_INFO page) (code % 0x10000 + off % 0x1000 * 0x10000 + source % 16 * 0x10000000)
    else s
  (s.wr (Reg.ERR_COUNT page) (errCountNext (s.rd (Reg.ERR_COUNT page)))).intSet page 4

/-- Record an error that an access caused: the key's page and offset, and its requester. -/
def State.errAt (s : State) (page code key : Nat) (src : Req) : State :=
  s.error page code (key % 0x1000) (srcCode src)

/-- Record an error that no access caused (R38). -/
def State.errHw (s : State) (page code : Nat) : State := s.error page code 0 0

/-- Whether a page requests an interrupt (R59). -/
def State.requests (s : State) (page : Nat) : Bool :=
  (s.rd (Reg.INT_STATUS page) &&& s.rd (Reg.INT_ENABLE page)) != 0

end Sys2Proof.Machine
end

