-- ==== Sys2Proof/Machine/Ops.lean ====
section
/-! DEFINITION. The named operations that more than one chapter uses: the two CRCs, module time, the Tally
intake, the module state, the rules of the pair that decide which writes are taken, the lanes' states, the
stop blocks and the switching off of the lamp sinks. -/

namespace Sys2Proof.Machine

/-- The answer of a command's meaning. -/
abbrev Res := Host.Outcome State Fault Refusal

/-! ## The CRCs -/

/-- n bit steps of the reflected CRC-32C of R114. -/
def crc32cBits : Nat → Nat → Nat
  | 0, c => c
  | n + 1, c => crc32cBits n (if c % 2 = 1 then (c / 2) ^^^ 0x82F63B78 else c / 2)

/-- The CRC-32C of R114 over bytes. -/
def crc32c (l : List Byte) : Nat :=
  l.foldl (fun c b => crc32cBits 8 (c ^^^ b.toNat)) 0xFFFFFFFF ^^^ 0xFFFFFFFF

/-- The bytes of a list of 32-bit words, little-endian. -/
def wordBytes (ws : List Nat) : List Byte := ws.flatMap (leBytes 4)

/-! ## Sizes that the chapters share -/

/-- The channels, the planes. -/
def channels : List Nat := List.range 128
def planes : List Nat := List.range 8

/-- The channels of a plane (R11). -/
def planeChannels (p : Nat) : List Nat := (List.range 16).map (fun i => 16 * p + i)

/-! ## Time -/

/-- Module time in 2^-16 ns at an FRC value, under a model (R391). -/
def timeAt (offset16 ref rate frc : Nat) : Nat :=
  unsgn 80 ((offset16 : Int) + (sdiff 64 frc ref * (rate : Int)) / (2 ^ 40 : Nat))

/-- OFFSET with its fraction, FRC_REF and RATE in force (R392). -/
def State.offset16 (s : State) : Nat :=
  s.rdF Reg.TIME_OFFSET_FRAC 15 0 + s.rd64 Reg.TIME_OFFSET_LO Reg.TIME_OFFSET_HI * 65536
def State.frcRef (s : State) : Nat := s.rd64 Reg.TIME_FRC_REF_LO Reg.TIME_FRC_REF_HI
def State.rate (s : State) : Nat := s.rd64 Reg.TIME_RATE_LO Reg.TIME_RATE_HI

/-- Module time now, in 2^-16 ns, and in ns. -/
def State.now16 (s : State) : Nat := timeAt s.offset16 s.frcRef s.rate s.frc
def State.nowNs (s : State) : Nat := s.now16 / 65536 % 2 ^ 64

/-- Clocks elapsed since an instant. -/
def State.since (s : State) (t : Nat) : Nat := s.frc - t

/-! ## Modes and states -/

/-- SYS.CONFIG.MODE (R67): PAIR and RING_PAIR are pair modes, RING and RING_PAIR ring modes. -/
def State.mode (s : State) : Nat := s.rdF Reg.SYS_CONFIG 1 0
def State.pairMode (s : State) : Bool := s.bit Reg.SYS_CONFIG 0
def State.ringMode (s : State) : Bool := s.bit Reg.SYS_CONFIG 1

/-- CONDITION and ROLE of the pair (R343); CONDITION is STANDALONE outside the pair modes. -/
def State.cond (s : State) : Nat := if s.pairMode then s.rdF Reg.PAIR_PAIR_STATUS 2 0 else 0
def State.role (s : State) : Nat := if s.pairMode then s.rdF Reg.PAIR_PAIR_STATUS 5 4 else 0
def State.leads (s : State) : Bool := s.role == 1
def State.follows (s : State) : Bool := s.role == 2

/-- No partner takes part in the pair: ALONE, or JOIN with the role LEADER (R103). -/
def State.actsAlone (s : State) : Bool := s.cond == 6 || s.cond == 1 && s.leads
/-- A partner takes part: PAIRED (R49, R103). -/
def State.paired (s : State) : Bool := s.cond == 3

/-- DEGRADED or contested: changes are frozen. -/
def State.frozenPair (s : State) : Bool := s.cond == 4 || s.cond == 5

/-- MODULE_STATE.STATE (R67). -/
def State.modState (s : State) : Nat := s.rdF Reg.SYS_MODULE_STATE 3 0

/-- LINE.STATUS.STATE (R82): 0 IDLE, 1 ARMED, 2 RUNNING, 3 DRAINING. -/
def State.runSt (s : State) : Nat := s.stCode Reg.pageLINE

/-- A Crew core decides: it is not the one that a live update restarts (R466). -/
def State.crewRuns (s : State) (core : Nat) : Bool := s.mgmt.liveCore != some core
/-- Ranger runs: the standby domain is fed, its ROM has started it (step 3 of R460), and no live update restarts it (R467). -/
def State.rangerRuns (s : State) : Bool :=
  s.modState != 0 && !(s.modState == 2 && s.mgmt.rom) && s.mgmt.op != some 5

/-- RUNNING or DRAINING. -/
def State.printing (s : State) : Bool := s.runSt == 2 || s.runSt == 3

/-- The requester is the host (PF0 or PF1). -/
def isHost : Req → Bool
  | .pf0 | .pf1 => true
  | _ => false

/-- Why a state-changing write of a requester is not taken (R344): NOT_LEADER on a follower, FROZEN on a
leader whose condition is not PAIRED, ALONE, JOIN or SYNC. A module without a role is frozen in CONTEST. -/
def State.writeGate (s : State) (src : Req) : Option Nat :=
  if !s.pairMode || !isHost src then none
  else if s.follows then some 0x0008
  else if s.cond == 4 || s.cond == 5 || s.cond == 7 || s.cond == 2 && !s.leads then some 0x0009
  else none

/-- Why an arm at a line is not taken (R49, R101): FROZEN while the pair is DEGRADED or contested, else NOT_LEADER on a
module that does not lead, and on a module that has stood down (log 86). -/
def State.armGate (s : State) (src : Req) : Option Nat :=
  if !s.pairMode || src = .peer then none
  else if s.frozenPair then some 0x0009
  else if !s.leads || s.cond == 7 then some 0x0008
  else none

/-- GUARD and RESCHED_MAX (R378). -/
def State.guard (s : State) : Nat := s.rdF Reg.PAIR_GUARD_CFG 15 0
def State.reschedMax (s : State) : Nat := atLeast1 (s.rdF Reg.PAIR_GUARD_CFG 19 16)

/-! ## The Tally intake (R475, R476) -/

/-- LINE of a Tally entry: CURRENT_LINE, or 0xFFFF_FFFF outside PRINT. -/
def State.tallyLine (s : State) : Nat :=
  if s.modState = 5 then s.rd Reg.LINE_CURRENT_LINE else 0xFFFFFFFF

/-- Take an entry into the intake FIFO: below MIN_SEVERITY it is not logged, and in a full FIFO it is lost
and counted (R476). -/
def State.tallyAt (s : State) (code source inst sev line arg : Nat) : State :=
  if sev < s.rdF Reg.TALLY_FILTER 1 0 then s
  else if s.mgmt.intake.length < 64 then
    { s with mgmt := { s.mgmt with intake := s.mgmt.intake ++ [
      { code := code, source := source, inst := inst, severity := sev, timeValid := s.net.everLocked,
        time := s.nowNs, line := line, arg := arg }] } }
  else { (s.count Reg.TALLY_DROPPED).intSet Reg.pageTALLY 9 with mgmt := { s.mgmt with lost := s.mgmt.lost + 1 } }

/-- The same with the line of the moment. -/
def State.tally (s : State) (code source inst sev arg : Nat) : State :=
  s.tallyAt code source inst sev s.tallyLine arg

/-! ## The module state (R532) -/

/-- A function in D3hot is served no access (R438). -/
def State.asleep (s : State) (src : Req) : Bool :=
  match src with
  | .pf0 => s.host.sleep0
  | .pf1 => s.host.sleep1
  | _ => false

/-- PF0 BAR0 outside MBOX is out of reach from a reset until the core reaches IDLE (R438), but for the PWR page in STANDBY,
where R491 has RESTART written (log 44). -/
def State.bar0Down (s : State) (src : Req) (a : Nat) : Bool :=
  s.asleep src || (src == .pf0 && decide (a < 0x2000000) && a / 0x1000 != Reg.pageMBOX && !s.mgmt.up
    && !(s.modState == 1 && a / 0x1000 == Reg.pagePWR))

/-- A requester that reaches no core page: what it writes is discarded. -/
def State.cutOff (s : State) (src : Req) : Bool := s.bar0Down src 0

/-- Change MODULE_STATE; each change sets SYS.INT_STATUS.STATE_CHANGE and logs STATE_CHANGE. STATUS.STATE of
SYS carries the same code (R66). RUN_SUB is NONE outside PRINT. -/
def State.setModule (s : State) (st : Nat) : State :=
  let old := s.modState
  if old = st then s
  else
    let s := (s.wr Reg.SYS_MODULE_STATE st).setStCode Reg.pageSYS st
    (s.intSet Reg.pageSYS 8).tally 0x0004 0x01 0 0 (st + old * 16)

/-- STATUS.STATE of the plane pages: OFF outside a run, then SCREEN, or BLANK for a plane not enabled (R175). -/
def State.showPlanes (s : State) (r : Nat) : State :=
  planes.foldl (fun s p =>
    if r = 0 then s.setStCode (Reg.pagePLANE p) 0
    else if s.stCode (Reg.pagePLANE p) = 0 then
      s.setStCode (Reg.pagePLANE p) (if s.bit Reg.JOB_JOB_CFG (8 + p) then 1 else 2)
    else s) s

/-- Change the run state; within PRINT, RUN_SUB shows it (R82). -/
def State.setRun (s : State) (r : Nat) : State :=
  let s := (s.setStCode Reg.pageLINE r).showPlanes r
  if s.modState = 5 then s.wrF Reg.SYS_MODULE_STATE 5 4 r else s

/-! ## Lanes (R184, R185) -/

/-- The record of a lane, and its replacement. -/
def State.lane (s : State) (c : Nat) : Lane := smGet (fun _ => {}) s.lanes c
def State.setLane (s : State) (c : Nat) (l : Lane) : State :=
  { s with lanes := smSet (fun _ => {}) s.lanes c l }

/-- Change the record of a lane. -/
def State.modLane (s : State) (c : Nat) (f : Lane → Lane) : State := s.setLane c (f (s.lane c))

/-- A seed other than all zeros. -/
def nonzero (width seed : Nat) : Nat := seed % (2 ^ width - 1) + 1

/-- Blocks, given as sync headers and payloads, as they leave on a head lane: scrambled, with the IDLE blocks due
(R181, R212); before them the scrambler after it all and the blocks since the last IDLE. -/
def State.codedFor (s : State) (c : Nat) (urgent : Bool) (bs : List (Nat × Nat)) : (Nat × Nat) × List (Nat × Nat) :=
  codeBlocks urgent ((s.lane c).txScr.getD (nonzero 58 (Config.scramblerSeed c))) (s.lane c).sinceIdle bs

/-- What the lane puts out for them. -/
def State.coded (s : State) (c : Nat) (urgent : Bool) (bs : List (Nat × Nat)) : Out := .coded c (s.codedFor c urgent bs).2

/-- Send blocks on a head lane. -/
def State.transmit (s : State) (c : Nat) (urgent : Bool) (bs : List (Nat × Nat)) : State :=
  let r := (s.codedFor c urgent bs).1
  (s.modLane c (fun l => { l with txScr := some r.1, sinceIdle := r.2 })).emit (s.coded c urgent bs)

/-- Send a single block, one ahead of every IDLE, and a multi-block frame (R209, R210, R236). -/
def State.sendBlock (s : State) (c payload : Nat) : State :=
  (s.emit (.block c payload)).transmit c false [(controlHeader, payload)]
def State.sendUrgent (s : State) (c payload : Nat) : State :=
  (s.emit (.block c payload)).transmit c true [(controlHeader, payload)]
def State.sendFrame (s : State) (c : Nat) (words : List Nat) : State :=
  (s.emit (.frame c words)).transmit c false (withHeaders words)

/-- LINK_STATUS.STATE. -/
def State.laneSt (s : State) (c : Nat) : Nat := s.rdF (Reg.CH_LINK_STATUS c) 3 0
def State.laneActive (s : State) (c : Nat) : Bool := s.laneSt c == 5

/-- The ACTIVE lanes. -/
def State.activeLanes (s : State) : List Nat := channels.filter s.laneActive

/-- LINK_STATUS.RATE: true is HALF. -/
def State.laneHalf (s : State) (c : Nat) : Bool := s.bit (Reg.CH_LINK_STATUS c) 4

/-- The lane condition of R533. A lane that owes the exchange of R225 does not count as ACTIVE. -/
def State.laneCondition (s : State) : Bool :=
  channels.any s.laneActive &&
  planes.all (fun p => !s.bit Reg.PWR_HEAD_PWR_STATUS p ||
    (planeChannels p).all (fun c =>
      s.laneSt c == 5 && !s.line.portStop.contains c || s.laneSt c == 0 || s.laneSt c == 7))

/-- IDLE and READY follow the lane condition (R532). -/
def State.reCondition (s : State) : State :=
  if s.modState = 3 ∧ s.laneCondition then s.setModule 4
  else if s.modState = 4 ∧ ¬ s.laneCondition then s.setModule 3
  else s

/-- PARTNER_SILENT (R359): over the last three STATUS frames of every ACTIVE lane neither duplicate counter rose and
LINES_FIRED did, and a lane is ACTIVE. -/
def State.silent (s : State) : Bool :=
  let act := s.activeLanes
  !act.isEmpty && act.all (fun c =>
    let q := smGet (fun _ => []) s.pair.quiet c
    q.length == 3 && q.all (fun e => !e.1) && q.any (fun e => e.2))
def State.showSilent (s : State) : State :=
  if s.pairMode then s.wrB Reg.PAIR_PAIR_STATUS 11 s.silent else s

/-- Change the state of a lane: LINK_STATUS.STATE and STATUS.STATE, READY in ACTIVE only, DEGRADED at HALF
(R184), FAULT while FAILED or while the screener fault is set (R173, R203). -/
def State.setLaneSt (s : State) (c st : Nat) : State :=
  let p := Reg.pageCH c
  let s := (s.wrF (Reg.CH_LINK_STATUS c) 3 0 st).setStCode p st
  let s := (s.ready p (st == 5)).degraded p (s.laneHalf c)
  (s.fault p (st == 7 || s.scr.fault.contains c)).showSilent.reCondition

/-- A channel of which no further frame of the lines in production may leave (R86, R197). -/
def ProdLine.without (c : Nat) (l : ProdLine) : ProdLine := { l with chans := l.chans.filter (· != c) }

/-- The first part of every exit from ACTIVE (R185, R231): LINK_DOWN, the lines in production leave the lane
out, and a TABLE send in progress fails with LINK_LOST. -/
def State.leaveActive (s : State) (c : Nat) : State :=
  if !s.laneActive c then s
  else
    let s := s.intSet (Reg.pageCH c) 9
    let s := { s with
      line := { s.line with
        prod := s.line.prod.map (ProdLine.without c), portStop := s.line.portStop.filter (· != c) }
      pair := { s.pair with quiet := smSet (fun _ => []) s.pair.quiet c [] } }
    let st := s.rdF (Reg.CH_TABLE_STATUS c) 2 0
    if st = 1 ∨ st = 2 then
      ((s.wrF (Reg.CH_TABLE_STATUS c) 2 0 4).wrF (Reg.CH_TABLE_STATUS c) 15 8 0xFD).intSet (Reg.pageCH c) 26
    else s

/-! ## Stop blocks and sinks (R222 to R225, R29) -/

/-- A HALT (or ABORT) block: SCOPE, CAUSE and LINE of R222. -/
def stopBlock (abort portScope : Bool) (cause line : Nat) : Nat :=
  withCrc8 ((if abort then 0x99 else 0xAA) + b2n portScope * 2 ^ 8 + cause * 2 ^ 12 + line * 2 ^ 16)

/-- The causes of R223. -/
def causeStopIn : Nat := 1
def causeTickLoss : Nat := 2
def causeModuleReset : Nat := 3
def causeThermalTrip : Nat := 4
def causeStandDown : Nat := 5
def causeRetire : Nat := 6
def causeSafeStop : Nat := 7

/-- The scope of a stop: HEAD for STOP_IN and outside the pair modes, PORT otherwise (R223). -/
def State.portScope (s : State) (cause : Nat) : Bool := s.pairMode && cause != causeStopIn

/-- Send a stop on every ACTIVE lane: four copies (R222), after which the lane carries only IDLE until its
next run or reset: no second HALT, while an ABORT is always sent (R223). A HALT with scope PORT after which the module neither resets nor enters SAFE is followed
by the exchange of R225, which each such lane then owes. -/
def State.stopAll (s : State) (abort : Bool) (cause : Nat) (exchange : Bool) : State :=
  let port := s.portScope cause
  let lanes := s.activeLanes.filter (fun c => abort || !s.line.stopped.contains c)
  let b := stopBlock abort port cause (s.line.lastTickLine.getD 0)
  let s := lanes.foldl (fun s c => (List.range 4).foldl (fun s _ => s.sendUrgent c b) s) s
  { s with line := { s.line with
      stopped := s.line.stopped ++ lanes.filter (fun c => !s.line.stopped.contains c)
      portStop := if port && exchange then s.line.portStop.filter (fun c => !lanes.contains c) ++ lanes
        else s.line.portStop } }

/-- The record of a lamp channel. -/
def State.lampCh (s : State) (c : Nat) : LampCh := smGet (fun _ => {}) s.lamp.chans c
def State.setLampCh (s : State) (c : Nat) (x : LampCh) : State :=
  { s with lamp := { s.lamp with chans := smSet (fun _ => {}) s.lamp.chans c x } }

/-- End the pulses of a sink at an FRC value. -/
def State.cutPulses (s : State) (c a : Nat) : State :=
  let x := s.lampCh c
  if x.pulses.any (fun q => decide (a < q.1 + q.2)) then
    (s.setLampCh c { x with
      pulses := x.pulses.filterMap (fun q => if q.1 < a then some (q.1, min q.2 (a - q.1)) else none) }).emit (.lampCut c a)
  else s

/-- Turn a lamp sink off: CH_OUT reads 0, its pulses end, a probe loses its current, and the next period may start at
any instant. -/
def State.sinkOff (s : State) (c : Nat) : State :=
  let s := (s.wr (Reg.LAMP_CH_OUT (c / 16) (c % 16)) 0).cutPulses c s.frc
  s.setLampCh c { s.lampCh c with probing := false, due := 0 }

/-- Turn every lamp sink off, and the sinks of one group. -/
def State.sinksOff (s : State) : State := (List.range 64).foldl State.sinkOff s
def State.groupOff (s : State) (g : Nat) : State := ((List.range 16).map (16 * g + ·)).foldl State.sinkOff s

/-! ## Job memory -/

/-- The size of job memory: 96 GiB (R110). -/
def jobBytes : Nat := 96 * 2 ^ 30

/-- Read bytes of job memory; a byte never written reads zero (DESIGN CHOICE, log 6). -/
def State.memByte (s : State) (a : Nat) : Byte := smGet (fun _ => 0) s.job.mem a
def State.memBytes (s : State) (a n : Nat) : List Byte := (List.range n).map (fun i => s.memByte (a + i))
def State.memWord (s : State) (a n : Nat) : Nat := leValue (s.memBytes a n)

/-- Write bytes to job memory. A 64-bit word that is written whole reads correctly after it; a part of an
uncorrectable word stays uncorrectable (R411). -/
def memPut (m : SMap Byte) (a : Nat) (l : List Byte) : SMap Byte :=
  (l.zipIdx).foldl (fun m p => smSet (fun _ => 0) m (a + p.2) p.1) m
def State.memWrite (s : State) (a : Nat) (l : List Byte) : State :=
  { s with
    job := { s.job with mem := memPut s.job.mem a l }
    dram := { s.dram with
      poisoned := s.dram.poisoned.filter (fun w => !(decide (a ≤ w * 8) && decide (w * 8 + 8 ≤ a + l.length))) } }

/-- Whether a read of bytes of job memory is uncorrectable: a word known to be so, or a granule of a channel that has
FAILED (R410, R411, R420). -/
def State.poisonedIn (s : State) (a n : Nat) : Bool :=
  n != 0 && (s.dram.poisoned.any (fun w => decide (a / 8 ≤ w) && decide (w * 8 < a + n)) ||
    (List.range (min 6 ((a + n - 1) / 256 - a / 256 + 1))).any (fun i =>
      s.stCode (Reg.pageDRAM ((a / 256 + i) % 6)) == 5))

/-! ## Regions (R133, R134) -/

/-- Whether an address range lies wholly inside region r, which is enabled, and inside job memory. -/
def State.inRegion (s : State) (r a n : Nat) : Bool :=
  let base := s.rd (Reg.YARD_REG_BASE r) * 4096
  let size := s.rd (Reg.YARD_REG_SIZE r) * 4096
  size != 0 && base ≤ a && a + n ≤ base + size && a + n ≤ jobBytes

/-- KIND of a region: 0 DATA, 1 TILES, 2 SEALS, 3 FIRMWARE, 4 CAMERA, 5 STATS, 6 BUFFER. -/
def State.regKind (s : State) (r : Nat) : Nat := s.rdF (Reg.YARD_REG_ATTR r) 2 0

/-- Whether the range lies inside one enabled host region of a KIND. -/
def State.inHostRegion (s : State) (kind a n : Nat) : Bool :=
  (List.range 56).any (fun r => s.regKind r == kind && s.inRegion r a n)

/-! ## Frames on the network ports (R385, R386) -/

/-- The VLAN tag of the frames sent: VID in [11:0] and PCP in [15:13] (R405). -/
def State.netTag (s : State) : Option Nat :=
  if s.bit Reg.PRP_VLAN_CFG 16 then some (s.rdF Reg.PRP_VLAN_CFG 11 0 + s.rdF Reg.PRP_VLAN_CFG 14 12 * 2 ^ 13) else none

/-- Send a frame on a network port, if its link is up and its transmitter enabled. -/
def State.netSend (s : State) (p kind : Nat) (fields : List Nat) : State :=
  if s.bit (Reg.NET_PORT_STATUS p) 0 && !s.bit (Reg.NET_PORT_CFG p) 2 then
    (s.count (Reg.NET_TX_FRAMES p)).emit (.net p s.netTag kind fields)
  else s

/-- Send a frame other than PTP on both LANs: with PRP_EN the two copies carry the same sequence number and
their LanId. -/
def State.prpSend (s : State) (kind : Nat) (fields : List Nat) : State :=
  if s.bit Reg.PRP_PRP_CFG 0 then
    let n := s.net.seq
    let s := { s with net := { s.net with seq := (n + 1) % 65536 } }
    (s.netSend 0 kind (fields ++ [n, 0xA])).netSend 1 kind (fields ++ [n, 0xB])
  else (s.netSend 0 kind fields).netSend 1 kind fields

/-! ## Requests between the module and its partner -/

/-- The record of a peer port: 0 W, 1 E, 2 P. -/
def State.peerPort (s : State) (p : Nat) : PeerPort := smGet (fun _ => {}) s.ring.ports p
def State.setPeerPort (s : State) (p : Nat) (x : PeerPort) : State :=
  { s with ring := { s.ring with ports := smSet (fun _ => {}) s.ring.ports p x } }

/-- Send a frame on a peer port in a data class (R340): it is kept until it is acknowledged. While the port does not
carry data, in any state but UP, it waits (R341). -/
def State.sendPeer (s : State) (p cls kind : Nat) (fields : List Nat) : State :=
  let x := s.peerPort p
  let n := (smGet (fun _ => 0) x.txSeq cls + 1) % 65536
  let x := { x with
    txSeq := smSet (fun _ => 0) x.txSeq cls n, unacked := x.unacked ++ [(cls, n, kind, fields)] }
  if s.stCode (Reg.pagePEER p) == 4 then (s.setPeerPort p x).emit (.peer p cls n kind fields)
  else s.setPeerPort p { x with waiting := x.waiting ++ [(cls, n)] }

/-- The state of a peer port, and whether it carries TIME-class blocks: UP or RENEG. -/
def State.peerSt (s : State) (p : Nat) : Nat := s.stCode (Reg.pagePEER p)
def State.peerUp (s : State) (p : Nat) : Bool := s.peerSt p == 4 || s.peerSt p == 5

/-- Send a TIME-class block on a port that carries it (R338, R340), and on both ring ports. -/
def State.sendTime (s : State) (p kind : Nat) (fields : List Nat) : State :=
  if s.peerUp p then s.emit (.peerBlock p kind fields) else s
def State.sendRing (s : State) (kind : Nat) (fields : List Nat) : State :=
  (s.sendTime 0 kind fields).sendTime 1 kind fields

/-- Send a frame to the partner on PEER_P in a data class: 1 MIRROR, 2 FORWARD, 3 BULK. -/
def State.toPartner (s : State) (cls kind : Nat) (fields : List Nat) : State :=
  s.sendPeer 2 cls kind fields

/-- Count a mirrored write in MIRROR_GEN (R345). -/
def State.countMirror (s : State) : State := s.wr Reg.PAIR_MIRROR_GEN ((s.rd Reg.PAIR_MIRROR_GEN + 1) % 2 ^ 32)

/-- Count a mirrored write, and forward it: the leader counts it as it accepts it (R345). -/
def State.mirror (s : State) (key v : Nat) : State :=
  if s.pairMode && s.leads then s.countMirror.toPartner 1 0x01 [key, v] else s

end Sys2Proof.Machine
end

