-- ==== Sys2Proof/Machine/DramBus.lean ====
section
/-! DEFINITION. The DRAM channels as the other units reach them: the address map, rows and commands, the write buffer, what
ECC finds, and the stop that an error schedules (R410 to R415, R421 to R424, R428). Channel states: 0 OFF, 1 TRAINING,
2 GOOD, 3 DEGRADED, 4 SELF_REFRESH, 5 FAILED. Commands: 1 REF, 2 WRITE, 3 a retraining slice, 4 ACTIVATE, 5 PRECHARGE,
6 READ, 7 and 11 READ and WRITE with auto-precharge, 8 and 9 self-refresh entry and exit, 10 ZQ calibration. -/

namespace Sys2Proof.Machine

/-! ## The address map (R410) -/

def dramChannel (a : Nat) : Nat := a / 256 % 6
def dramAddr (a : Nat) : Nat := a / 256 / 6 * 256 + a % 256
def jobAddr (d ca : Nat) : Nat := (ca / 256 * 6 + d) * 256 + ca % 256

/-- The row, bank group, bank and column of an address within the channel. -/
def dramRow (ca : Nat) : Nat := fld ca 33 17
def dramBankGroup (ca : Nat) : Nat := fld ca 9 8 ^^^ fld ca 18 17
def dramBank (ca : Nat) : Nat := fld ca 11 10 ^^^ fld ca 20 19
def dramColumn (ca : Nat) : Nat := fld ca 16 12 * 32 + fld ca 7 3

/-! ## A channel -/

def State.dramCh (s : State) (d : Nat) : DramCh := smGet (fun _ => {}) s.dram.chans d
def State.setDramCh (s : State) (d : Nat) (x : DramCh) : State :=
  { s with dram := { s.dram with chans := smSet (fun _ => {}) s.dram.chans d x } }
def State.dramSt (s : State) (d : Nat) : Nat := s.stCode (Reg.pageDRAM d)
def State.inService (s : State) (d : Nat) : Bool := s.dramSt d == 2 || s.dramSt d == 3
def State.hot (s : State) (d : Nat) : Bool := s.bit (Reg.DRAM_CH_STATUS d) 0

/-- tREFI and D_max in ns. -/
def State.tRefi (s : State) (d : Nat) : Nat := if s.hot d then 3900 else 7800
def State.debtMax (s : State) (d : Nat) : Int := (8 * s.tRefi d : Nat)

/-- Store D, as REFRESH_STATUS shows it. -/
def State.setDebt (s : State) (d : Nat) (x : Int) : State :=
  (s.setDramCh d { s.dramCh d with debt := x }).wr (Reg.DRAM_REFRESH_STATUS d)
    (satSgn 16 (x.fdiv 10) + b2n (s.hot d) * 65536)

/-! ## Rows and pages (R414) -/

/-- The page hint of a request of a class: 0 CLOSE, 1 OPEN, 2 IDLE; FORCE_CLOSE treats every hint as CLOSE. -/
def State.pageHint (s : State) (d cls ca : Nat) : Nat :=
  if s.bit (Reg.DRAM_PAGE_POLICY d) 8 then 0
  else if cls = 1 then (if ca / 64 % 4 = 3 then 0 else 1)
  else if cls = 5 then 0 else 2

/-- The number of a bank: bank group * 4 + bank. -/
def bankOf (ca : Nat) : Nat := dramBankGroup ca * 4 + dramBank ca

/-- Issue commands on a channel; the retry buffer holds the last 32 (R419). -/
def State.dramCmds (s : State) (d : Nat) (l : List (Nat × Nat)) : State :=
  let x := s.dramCh d
  (s.setDramCh d { x with cmds := (l.reverse ++ x.cmds).take 32 }).emits (l.map (fun c => .dram d c.1 c.2))

/-- Close the rows of some banks. -/
def State.closeRows (s : State) (d : Nat) (p : Nat × Nat × Option Nat → Bool) : State :=
  let x := s.dramCh d
  (s.setDramCh d { x with open_ := x.open_.filter (fun r => !p r) }).dramCmds d
    ((x.open_.filter p).map (fun r => (5, r.1)))

/-- The rows that have gone PAGE_IDLE controller clocks, at 800 MHz, without a hit. -/
def State.idleRows (s : State) (d : Nat) (r : Nat × Nat × Option Nat) : Bool := match r.2.2 with
  | some f => decide (f + s.rdF (Reg.DRAM_PAGE_POLICY d) 7 0 ≤ s.frc)
  | none => false

/-- Read or write the burst at an address within the channel: its bank's row is opened where another one or none stands
open, and stays open as the hint says. -/
def State.burst (s : State) (d cls ca : Nat) (write : Bool) : State :=
  let s := s.closeRows d (s.idleRows d)
  let b := bankOf ca
  let row := dramRow ca
  let s := s.closeRows d (fun r => r.1 == b && r.2.1 != row)
  let hit := (s.dramCh d).open_.any (fun r => r.1 == b)
  let s := if hit then s else s.dramCmds d [(4, b * 2 ^ 17 + row)]
  let hint := s.pageHint d cls ca
  let x := s.dramCh d
  let kept := if hint = 0 then [] else [(b, row, if hint = 2 then some s.frc else none)]
  (s.setDramCh d { x with
    open_ := x.open_.filter (fun r => r.1 != b) ++ kept, group := dramBankGroup ca
    traffic := (s.frc, cls == 1) :: x.traffic.filter (fun e => decide (s.frc < e.1 + 80000000)) }).dramCmds d
      [(if write then (if hint = 0 then 11 else 2) else if hint = 0 then 7 else 6, ca / 64 * 64)]

/-! ## Faults (R422 to R424, R428) -/

/-- Schedule a stop: it takes effect at the next safe point. -/
def State.scheduleStop (s : State) (d : Nat) : State :=
  let s := ((s.wrB (Reg.DRAM_CH_STATUS d) 1 true).intSet (Reg.pageDRAM d) 17).tally 0x0032 0x40 d 3 0
  { s with dram := { s.dram with stop := true } }

/-- GOOD to DEGRADED, or a stop. -/
def State.degradeDram (s : State) (d : Nat) : State :=
  let p := Reg.pageDRAM d
  let s := s.setDramCh d { s.dramCh d with passes := 0 }
  let s := s.wrF (Reg.DRAM_TRAIN_STATUS d) 23 20 0
  if s.dramSt d = 2 then
    ((((s.setStCode p 3).degraded p true).intSet p 16).wrB (Reg.DRAM_CH_STATUS d) 2 true).tally 0x0031 0x40 d 1 0
  else if s.dramSt d = 3 then s.scheduleStop d
  else s

/-- The module stops by itself: outside the pair modes, or leading in ALONE. -/
def State.stopsAlone (s : State) : Bool := !s.pairMode || (s.leads && s.cond == 6)

/-- ERR_ADDR and ERR_DETAIL. -/
def State.errDetail (s : State) (d a kind cls lane synd : Nat) (scrub : Bool) : State :=
  (s.wr64 (Reg.DRAM_ERR_ADDR_LO d) (Reg.DRAM_ERR_ADDR_HI d) a).wr (Reg.DRAM_ERR_DETAIL d)
    (synd % 256 + kind * 2 ^ 8 + cls * 2 ^ 10 + lane % 16 * 2 ^ 16 + b2n scrub * 2 ^ 20)

/-! ## The write buffer (R415) -/

/-- The write of a buffered burst: its number in the channel, the words of it that have been written, its class. -/
def State.issueWrite (s : State) (d : Nat) (w : Nat × Nat × Nat) : State := s.burst d w.2.2 (w.1 * 64) true

/-- The oldest buffered burst of a channel is written. -/
def State.oldestWrite (s : State) (d : Nat) : State :=
  match (s.dramCh d).writes with
  | [] => s
  | w :: ws => (s.setDramCh d { s.dramCh d with writes := ws }).issueWrite d w

/-- Every buffered burst of a channel is written. -/
def State.flushWrites (s : State) (d : Nat) : State :=
  (List.range (s.dramCh d).writes.length).foldl (fun s _ => s.oldestWrite d) s

/-- A word goes into the write buffer of its channel, which holds 64 bursts. -/
def State.bufferWord (s : State) (cls a : Nat) : State :=
  let d := dramChannel a
  let ca := dramAddr a
  let m := 2 ^ (ca / 8 % 8)
  if !s.inService d then s
  else
    let x := s.dramCh d
    if x.writes.any (fun w => w.1 == ca / 64) then
      s.setDramCh d { x with writes := x.writes.map (fun w => if w.1 = ca / 64 then (w.1, w.2.1 ||| m, cls) else w) }
    else
      let s := s.setDramCh d { x with writes := x.writes ++ [(ca / 64, m, cls)] }
      if 64 < (s.dramCh d).writes.length then s.oldestWrite d else s

/-- A read is served from the buffer where that holds its word. -/
def State.buffered (s : State) (a : Nat) : Bool :=
  (s.dramCh (dramChannel a)).writes.any (fun w => w.1 == dramAddr a / 64 && bitOf w.2.1 (dramAddr a / 8 % 8))

/-- What a read finds (R421, R422). -/
def State.dramOutcome (s : State) (a cls : Nat) (scrub : Bool) : Ecc → State
  | .clean => s
  | .corrected lane synd =>
    let d := dramChannel a
    let s := ((s.count (Reg.DRAM_CE_COUNT d)).errDetail d a 0 cls lane synd scrub).intSet (Reg.pageDRAM d) 8
    if s.bit (Reg.DRAM_CH_CFG d) 1 then s.bufferWord 5 a else s
  | .uncorrectable addr synd =>
    let d := dramChannel a
    let p := Reg.pageDRAM d
    let s := (s.count (Reg.DRAM_UE_COUNT d)).errDetail d a (if addr then 2 else 1) cls 0 synd scrub
    let s := ((s.fault p true).errHw p 0x0101).intSet p 9
    let s := s.tally 0x0030 0x40 d 2 (a / 32 % 2 ^ 32)
    let s := { s with dram := { s.dram with
      poisoned := if s.dram.poisoned.contains (a / 8) then s.dram.poisoned else s.dram.poisoned ++ [a / 8] } }
    s.degradeDram d

/-- What a read of n bytes at an address finds: a word that has read as uncorrectable stays so until it is written whole
(R411), and every read of a FAILED channel, or without the DRAM PLL, is uncorrectable (R69, R420); the syndrome is then a
free value (log 63). -/
def State.eccOf (s : State) (a n : Nat) : Ecc → Ecc
  | .uncorrectable fold y => .uncorrectable fold y
  | e => if s.poisonedIn a n || !s.bit Reg.CLK_PLL_STATUS 1 then .uncorrectable false s.free else e

/-- The read is uncorrectable. -/
def eccBad : Ecc → Bool
  | .uncorrectable _ _ => true
  | _ => false

/-- Write bytes of job memory in a class: a part of a word that reads as uncorrectable is recorded as the error it is
(R411), with a free syndrome (log 63). -/
def State.dramWrite (s : State) (cls a : Nat) (l : List Byte) : State :=
  let n := l.length
  let words := (List.range ((a + n + 7) / 8 - a / 8)).map (a / 8 + ·)
  let torn := words.filter (fun w => (decide (w * 8 < a) || decide (a + n < w * 8 + 8)) && s.poisonedIn (w * 8) 8)
  let s := torn.foldl (fun s w => s.drew.dramOutcome (w * 8) cls false (.uncorrectable false s.free)) s
  words.foldl (fun s w => s.bufferWord cls (w * 8)) (s.memWrite a l)

/-- An idle slot of a channel: rows that have been idle close, and the oldest buffered burst is written (log 100). -/
def State.idleSlot (s : State) (d : Nat) : State :=
  let s := if (s.dramCh d).open_.any (s.idleRows d) then s.closeRows d (s.idleRows d) else s
  s.oldestWrite d

end Sys2Proof.Machine
end

