-- ==== Sys2Proof/Machine/Link.lean ====
section
/-! DEFINITION. Head link: lanes, training and bring-up (chapter 6). The states of R184 are 0 DISABLED,
1 DETECT, 2 TRAIN, 3 LOCK, 4 EXCHANGE, 5 ACTIVE, 6 RETRAIN, 7 FAILED. -/

namespace Sys2Proof.Machine

/-! ## Fields of LINK_CFG and LINK_STATUS (R207) -/

def State.rateMaxHalf (s : State) (c : Nat) : Bool := s.bit (Reg.CH_LINK_CFG c) 0
def State.trainAttempts (s : State) (c : Nat) : Nat := atLeast1 (s.rdF (Reg.CH_LINK_CFG c) 7 4)
def State.eyePass (s : State) (c : Nat) : Nat := s.rdF (Reg.CH_LINK_CFG c) 15 8
def State.attempt (s : State) (c : Nat) : Nat := s.rdF (Reg.CH_LINK_STATUS c) 19 16
def State.setAttempt (s : State) (c n : Nat) : State := s.wrF (Reg.CH_LINK_STATUS c) 19 16 n
def State.setHalf (s : State) (c : Nat) (half : Bool) : State := s.wrB (Reg.CH_LINK_STATUS c) 4 half
def State.setBlockLock (s : State) (c : Nat) (b : Bool) : State := s.wrB (Reg.CH_LINK_STATUS c) 6 b
def State.retrainPending (s : State) (c : Nat) : Bool := s.bit (Reg.CH_LINK_STATUS c) 7
def State.setPending (s : State) (c : Nat) (b : Bool) : State := s.wrB (Reg.CH_LINK_STATUS c) 7 b
def State.partnerActive (s : State) (c : Nat) : Bool := s.pairMode && s.bit (Reg.CH_LINK_STATUS c) 8
def State.setFailCause (s : State) (c v : Nat) : State := s.wrF (Reg.CH_LINK_STATUS c) 15 12 v

/-- The head behind a lane: vendor, model, serial, port. -/
def State.headSeen (s : State) (c : Nat) : List Nat :=
  [s.rdF (Reg.CH_HEAD_VENDOR c) 15 0, s.rdF (Reg.CH_HEAD_VENDOR c) 31 16,
    s.rd64 (Reg.CH_HEAD_SERIAL_LO c) (Reg.CH_HEAD_SERIAL_HI c), s.rdF (Reg.CH_HEAD_CAPS c) 3 3]

/-- In a pair, tell the partner whether this module's lane is ACTIVE (1), FAILED (2) or neither (R200, R351), and with
which head (R228). -/
def State.tellLane (s : State) (c : Nat) (active : Bool) : State :=
  if s.pairMode then s.toPartner 1 0x22 (c :: (if active then 1 else if s.laneSt c = 7 then 2 else 0) :: s.headSeen c)
  else s

/-- The same for every lane, as SYNC begins. -/
def State.tellLanes (s : State) : State := channels.foldl (fun s c => s.tellLane c (s.laneActive c)) s

/-! ## The two tap registers and the control field (R188, R189) -/

/-- TX_TAPS for a pre-cursor and a post-cursor: MAIN is 64 less both (R189). -/
def tapsWord (pre post : Nat) : Nat := pre + post * 2 ^ 8 + (64 - pre - post) * 2 ^ 16

/-- A tap after INC or DEC, and the outcome: 1 UPDATED, 2 AT_MIN, 3 AT_MAX (R190). -/
def stepTap (v max : Nat) (inc : Bool) : Nat × Nat :=
  if inc then (if v < max then (v + 1, 1) else (v, 3)) else (if v = 0 then (v, 2) else (v - 1, 1))

/-- The outcome of one request field: HOLD and the reserved code leave the tap (R188). -/
def askTap (v max req : Nat) : Nat × Nat :=
  if req = 1 then stepTap v max true else if req = 2 then stepTap v max false else (v, 0)

/-- The request fields of the module's own request: 1 INC and 2 DEC in [1:0] PRE or [3:2] POST, or PRESET. -/
def reqBits (preset : Bool) : Option (Tap × Bool) → Nat
  | some (.pre, inc) => if inc then 1 else 2
  | some (.post, inc) => (if inc then 1 else 2) * 4
  | none => b2n preset * 16

/-- The control field that the module sends on a lane. -/
def State.trainField (s : State) (c : Nat) : Nat :=
  let t := (s.lane c).train
  withCrc8 (reqBits t.preset t.step + t.stsPre * 2 ^ 8 + t.stsPost * 2 ^ 10 + b2n t.rxReady * 2 ^ 12
    + b2n (s.laneHalf c) * 2 ^ 13 + t.seq * 2 ^ 16 + t.doneSeq.getD 0 * 2 ^ 24
    + s.rdF (Reg.CH_EYE c) 7 0 * 2 ^ 32 + s.rdF (Reg.CH_TX_TAPS c) 4 0 * 2 ^ 40
    + s.rdF (Reg.CH_TX_TAPS c) 12 8 * 2 ^ 48)

/-- The test segment of the next training frame, and the PRBS11 after it (R187). -/
def State.trainSegment (s : State) (c : Nat) : Nat × Nat :=
  prbsBytes 444 ((s.lane c).prbs.getD (nonzero 11 (Config.prbsSeed c)))

/-- Send a training frame with the control field as it now stands. -/
def State.sendTraining (s : State) (c : Nat) : State :=
  let seg := s.trainSegment c
  (s.modLane c (fun l => { l with prbs := some seg.1 })).emit (.training c (trainingUi (s.trainField c) seg.2))

/-! ## Transitions that several rows of R185 share -/

/-- Entry to DETECT: attempts cleared, electrical idle (R183). -/
def State.enterDetect (s : State) (c : Nat) : State :=
  let s := ((s.setAttempt c 0).setBlockLock c false).setPending c false
  let s := s.modLane c (fun l => { l with
    present := 0, absent := 0, detectFrc := s.frc, train := {},
    rateIdle := false, rateUp := false, held := false, heldPair := false, asked := none, rxScr := none, idles := 0 })
  (s.emit (.electricalIdle c)).setLaneSt c 1

/-- Entry to TRAIN, from preset: an attempt begins, and the head's taps are requested to preset (R185,
R193). While the lane is in the electrical idle of a rate change, the attempt waits for its end (R194). -/
def State.beginAttempt (s : State) (c : Nat) : State :=
  let s := s.setAttempt c (min 15 (s.attempt c + 1))
  let s := (s.wr (Reg.CH_TX_TAPS c) (tapsWord 2 6)).wrB (Reg.CH_LINK_STATUS c) 5 false
  let s := s.modLane c (fun l => { l with
    rateIdle := false
    train := { seq := (l.train.seq + 1) % 256, preset := true, doneSeq := l.train.doneSeq } })
  s.sendTraining c

def State.enterTrain (s : State) (c : Nat) : State :=
  (((s.setBlockLock c false).setPending c false).setLaneSt c 2).beginAttempt c

/-- A change of rate: electrical idle for 1.0 ms, the lane reads TRAIN throughout (R194). From FULL to HALF
it is a fallback (R201). -/
def State.changeRate (s : State) (c : Nat) (half up : Bool) : State :=
  let p := Reg.pageCH c
  let s := if half && !s.laneHalf c
    then ((s.intSet p 11).count (Reg.CH_FALLBACK_COUNT c)).tally 0x0041 0x20 c 1 0 else s
  let s := (((s.setHalf c half).setAttempt c 0).setBlockLock c false).setPending c false
  let s := (s.wrB (Reg.CH_LINK_STATUS c) 5 false).modLane c (fun l => { l with
    rateIdle := true, rateUp := up, asked := none, train := { seq := l.train.seq, doneSeq := l.train.doneSeq } })
  (s.emit (.electricalIdle c)).setLaneSt c 2

/-- Release the leader's grant for a head when this module's lane is ACTIVE or FAILED again (R351). -/
def State.dropGrant (s : State) (c : Nat) : State :=
  if smGet (fun _ => 0) s.pair.grants c = 1
  then { s with pair := { s.pair with grants := smSet (fun _ => 0) s.pair.grants c 0 } } else s

/-- The screeners treat the channel as DISABLED from the next admitted line on, in STANDALONE and RING mode
(R156). -/
def State.markImplicit (s : State) (c : Nat) : State :=
  if s.pairMode || s.scr.implicit.contains c then s
  else { s with scr := { s.scr with implicit := s.scr.implicit ++ [c] } }

/-- Entry to FAILED (R203). -/
def State.enterFailed (s : State) (c cause : Nat) : State :=
  let p := Reg.pageCH c
  let s := ((s.setFailCause c cause).setBlockLock c false).setPending c false
  let s := s.modLane c (fun l => { l with
    present := 0, absent := 0, sawAbsent := false, rateIdle := false,
    rateUp := false, held := false, heldPair := false })
  let s := ((s.emit (.electricalIdle c)).setLaneSt c 7).errHw p 0x0190
  let s := (s.intSet p 12).tally 0x0040 0x20 c 2 cause
  ((s.markImplicit c).dropGrant c).tellLane c false

/-- The end of a failed attempt (R185): another attempt at the same rate, else HALF, else FAILED. The one
attempt at FULL of R202 falls back to HALF at once. -/
def State.failAttempt (s : State) (c cause : Nat) : State :=
  let s := s.setFailCause c cause
  if (s.lane c).rateUp then s.changeRate c true false
  else if s.attempt c < s.trainAttempts c then s.enterTrain c
  else if !s.laneHalf c then s.changeRate c true false
  else s.enterFailed c cause

/-- Entry to RETRAIN, from the taps in force (R193). -/
def State.enterRetrain (s : State) (c : Nat) : State :=
  let s := (((s.leaveActive c).setPending c false).setBlockLock c false).count (Reg.CH_RETRAIN_COUNT c)
  let s := s.wrB (Reg.CH_LINK_STATUS c) 5 false
  let s := s.modLane c (fun l => { l with
    asked := none,
    train := { seq := l.train.seq, echoed := true, doneSeq := l.train.doneSeq, dirPre := l.train.dirPre
               dirPost := l.train.dirPost } })
  ((s.setLaneSt c 6).sendTraining c).tellLane c false

/-- Both ends ready: eight more frames, then 64b/66b (R193). -/
def State.enterLock (s : State) (c : Nat) : State :=
  let s := (List.range 8).foldl (fun s _ => s.sendTraining c) s
  (s.modLane c (fun l => { l with rxScr := none, idles := 0 })).setLaneSt c 3

/-! ## Degradation retrains and rate changes (R199, R200, R202, R351) -/

/-- Start a retrain or a rate change that nothing defers. -/
def State.startDegraded (s : State) (c : Nat) (up : Bool) : State :=
  if up then ((s.leaveActive c).changeRate c false true).tellLane c false else s.enterRetrain c

/-- Defer it: RETRAIN_PENDING and INT_STATUS.RETRAIN_DEFERRED (R185). -/
def State.deferRetrain (s : State) (c : Nat) (up : Bool) : State :=
  ((s.modLane c (fun l => { l with asked := some up })).setPending c true).intSet (Reg.pageCH c) 10

/-- Ask the pair logic (R351): the leader grants itself if no grant is held for the head, the follower asks
the leader, and defers once that refuses. -/
def State.askGrant (s : State) (c : Nat) (up : Bool) : State :=
  if s.leads then
    if smGet (fun _ => 0) s.pair.grants c = 0 then
      { s with pair := { s.pair with grants := smSet (fun _ => 0) s.pair.grants c 1 } }.startDegraded c up
    else s.deferRetrain c up
  else (s.modLane c (fun l => { l with asked := some up })).toPartner 1 0x20 [c, b2n up]

/-- A degradation trigger, or a request for a rate change, on an ACTIVE lane (R198 to R200, R202). -/
def State.requestRetrain (s : State) (c : Nat) (up : Bool) : State :=
  if s.pairMode then
    if s.paired && s.partnerActive c then s.askGrant c up else s.deferRetrain c up
  else if !up && s.printing && !s.bit (Reg.CH_LINK_CFG c) 2 then s.deferRetrain c up
  else s.startDegraded c up

/-- A deferral ends when the run state becomes ARMED or IDLE (R199). In a pair the request needs a grant, which is made
only while PAIRED and with the partner's lane ACTIVE (R200, R351); until then it stays deferred. In ALONE there is no
partner's lane to keep ACTIVE (log 20). -/
def State.releaseOne (s : State) (c : Nat) : State :=
  if !(s.retrainPending c && s.laneActive c) then s
  else
    let up := (s.lane c).asked.getD false
    if !s.pairMode || s.cond == 6 then s.startDegraded c up
    else if s.paired && s.partnerActive c then s.askGrant c up
    else s

def State.releaseRetrains (s : State) : State := channels.foldl State.releaseOne s

/-- With AUTO_RATE_UP, each HALF lane makes one attempt at FULL when the run state becomes IDLE (R202). -/
def State.autoRateUp (s : State) : State :=
  channels.foldl (fun s c =>
    if s.laneActive c && s.laneHalf c && s.bit (Reg.CH_LINK_CFG c) 1 && !s.rateMaxHalf c
    then s.requestRetrain c true else s) s

/-! ## Receiver detect (R183) -/

/-- RECEIVER_DETECT_PROBE: two probes in a row decide PRESENT or ABSENT, which stands until two decide otherwise. DETECT is left for TRAIN while the
plane's head power is asserted; FAILED is left for DETECT after ABSENT, then PRESENT. -/
def execReceiverDetectProbe (c : Fin 128) (detected : Bool) (t : Nat) (s : State) : Res :=
  let c := c.val
  let s := s.till t
  let st := s.laneSt c
  if ¬ (st = 1 ∨ st = 7) then .next s
  else
    let s := s.modLane c (fun l => { l with
      present := if detected then min 2 (l.present + 1) else if l.absent ≥ 1 ∨ l.present < 2 then 0 else 2
      absent := if detected then 0 else min 2 (l.absent + 1)
      sawAbsent := l.sawAbsent || !detected && l.absent ≥ 1 })
    let l := s.lane c
    if l.present < 2 then .next s
    else if st = 1 then
      .next (if s.bit Reg.PWR_HEAD_PWR_STATUS (c / 16) then s.enterTrain c else s)
    else if l.sawAbsent then .next ((s.setHalf c (s.rateMaxHalf c)).enterDetect c)
    else .next s

/-! ## Training (R187 to R194) -/

/-- The module as responder: each new SEQ is carried out once (R190). -/
def State.respond (s : State) (c field : Nat) : State :=
  let seq := fld field 23 16
  if (s.lane c).train.doneSeq = some seq then s
  else
    let pre := s.rdF (Reg.CH_TX_TAPS c) 4 0
    let post := s.rdF (Reg.CH_TX_TAPS c) 12 8
    let a := if bitOf field 4 then (2, 1) else askTap pre 8 (fld field 1 0)
    let b := if bitOf field 4 then (6, 1) else askTap post 20 (fld field 3 2)
    (s.wr (Reg.CH_TX_TAPS c) (tapsWord a.1 b.1)).modLane c (fun l => { l with
      train := { l.train with doneSeq := some seq, stsPre := a.2, stsPost := b.2 } })

/-- The direction first tried for a tap: that of its last kept step, INC when there is none (R193). -/
def Training.dirOf (t : Training) : Tap → Bool
  | .pre => t.dirPre
  | .post => t.dirPost

/-- Issue a request: the next SEQ with a step or the undoing of a step (R190). -/
def Training.ask (t : Training) (step : Tap × Bool) (undo : Bool) : Training :=
  { t with seq := (t.seq + 1) % 256, step := some step, undo := undo, preset := false, echoed := false, waited := 0,
           requests := t.requests + 1 }

/-- The step tried after one that was not kept: the other direction of the same tap, then the other tap. -/
def Training.nextStep (t : Training) : Tap × Bool :=
  match t.step with
  | none => (.post, t.dirPost)
  | some (tap, d) =>
    let first := t.dirOf tap
    let d := if t.undo then !d else d
    if t.failed % 2 = 1 ∧ d = first then (tap, !first)
    else if tap = .post then (.pre, t.dirPre) else (.post, t.dirPost)

/-- Go on with the search, or end it after four failed steps or 64 requests (R193). -/
def Training.advance (t : Training) : Training :=
  if t.failed ≥ 4 ∨ t.requests ≥ 64 then { t with converged := true, step := none }
  else t.ask t.nextStep false

/-- A measured figure after the echo and four frames (R193): the first figure is the starting point; a step
that raises the figure by 2 or more is kept, any other is undone. A step that met the end of its range changed nothing and
needs no undoing; after an undoing, and after one of these, the search goes on from the new figure. After the 64th request
no other follows, and the taps stay (log 88). -/
def Training.measured (t : Training) (e : Nat) : Training :=
  match t.step with
  | none => { t with best := e }.advance
  | some (tap, d) =>
    if t.undo then { t with best := e }.advance
    else if t.stuck then { t with best := e, failed := t.failed + 1 }.advance
    else if e ≥ t.best + 2 then
      { t with best := e, failed := 0,
               dirPre := if tap = Tap.pre then d else t.dirPre
               dirPost := if tap = Tap.post then d else t.dirPost }.advance
    else if t.requests ≥ 64 then { t with best := e, converged := true, step := none }
    else { t with failed := t.failed + 1 }.ask (tap, !d) true

/-- The partner has echoed the request: four frames are waited for, and the figure is measured (R190, R193). -/
def Training.onEcho (t : Training) (atLimit : Bool) : Training := { t with echoed := true, waited := 0, stuck := atLimit }

/-- The search of the module's receiver on one valid frame (R193). -/
def Training.onFrame (t : Training) (field : Nat) (eye : Option Nat) : Training :=
  let sts := match t.step with
    | some (.pre, _) => fld field 9 8
    | some (.post, _) => fld field 11 10
    | none => 1
  if t.converged then t
  else if !t.echoed then
    if fld field 31 24 = t.seq then t.onEcho (sts ≥ 2) else t
  else if t.waited < 4 then { t with waited := t.waited + 1 }
  else match eye with
    | some e => t.measured e
    | none => t

/-- RX_READY and the ready frames (R193). -/
def Training.ready (t : Training) (field : Nat) (eye : Option Nat) (pass : Nat) : Training :=
  let fig := eye.getD t.best
  { t with rxReady := t.converged && decide (fig ≥ pass)
           best := if t.converged then fig else t.best
           readyFrames := if bitOf field 12 && decide (fld field 39 32 ≥ pass) then t.readyFrames + 1 else 0
           headLow := decide (fld field 39 32 < pass) }

/-- The polarity rule of R191: eight inverted markers in a row invert the receiver, once since the entry to TRAIN or
RETRAIN. -/
def State.polarity (s : State) (c : Nat) (inverted : Bool) : State :=
  let t := (s.lane c).train
  let n := if inverted && !t.flipped then t.inverted + 1 else 0
  let s := if n = 8 then s.wrB (Reg.CH_LINK_STATUS c) 5 true else s
  s.modLane c (fun l => { l with train := { t with inverted := n % 8, flipped := t.flipped || n == 8 } })

/-- The module's figure, when a measurement completes with the frame. -/
def State.localEye (s : State) (c : Nat) : Option Nat → State
  | none => s
  | some e => (s.wrF (Reg.CH_EYE c) 7 0 e).wrF (Reg.CH_EYE_MIN c) 7 0 (min e (s.rdF (Reg.CH_EYE_MIN c) 7 0))

/-- A valid training frame in TRAIN or RETRAIN. -/
def State.trainStep (s : State) (c field : Nat) (eye : Option Nat) : State :=
  let s := (s.wr (Reg.CH_HEAD_TAPS c) (fld field 44 40 + fld field 52 48 * 2 ^ 8)).wrF (Reg.CH_EYE c) 15 8 (fld field 39 32)
  let s := (s.respond c field).localEye c eye
  let s := s.modLane c (fun l => { l with
    train := (l.train.onFrame field eye).ready field eye (s.eyePass c) })
  let t := (s.lane c).train
  let s := s.sendTraining c
  if t.rxReady ∧ t.readyFrames ≥ 4 then s.enterLock c else s

/-- TRAINING_FRAME: one training frame received, with a figure where a measurement completed. A frame whose
CRC-8 fails is ignored (R188). In LOCK the frames with RX_READY = 1 before block lock are the head's ending (R193);
others are training frames received again, and fail the attempt (R185; log 88). -/
def execTrainingFrame (c : Fin 128) (field : Nat) (inverted : Bool) (eye : Option (Fin 256)) (s : State) : Res :=
  let c := c.val
  let st := s.laneSt c
  let s := if st = 2 ∨ st = 6 then s.polarity c inverted else s
  if !crc8Ok field then .next s
  else if (st = 2 ∧ ¬ (s.lane c).rateIdle) ∨ st = 6 then .next (s.trainStep c field (eye.map Fin.val))
  else if st = 3 ∧ (!bitOf field 12 ∨ s.bit (Reg.CH_LINK_STATUS c) 6) then .next (s.failAttempt c 3)
  else .next s

/-- TRAIN_TIMEOUT: the attempt fails, with cause EYE_FAIL or TRAIN_TIMEOUT (R185). -/
def execTrainTimeout (c : Fin 128) (s : State) : Res :=
  let c := c.val
  let t := (s.lane c).train
  if s.laneSt c = 2 ∧ ¬ (s.lane c).rateIdle then
    .next (s.failAttempt c (if (t.converged && decide (t.best < s.eyePass c)) || t.headLow then 2 else 1))
  else .next s

/-- TRAINING_SILENCE: no valid training frame for 20 ms (R185). -/
def execTrainingSilence (c : Fin 128) (t : Nat) (s : State) : Res :=
  let c := c.val
  let s := s.till t
  if (s.laneSt c = 2 ∧ ¬ (s.lane c).rateIdle) ∨ s.laneSt c = 6 then .next (s.enterDetect c) else .next s

/-- RATE_CHANGE_IDLE_END: the 1.0 ms of electrical idle ends and the attempt begins (R194). -/
def execRateChangeIdleEnd (c : Fin 128) (s : State) : Res :=
  let c := c.val
  if s.laneSt c = 2 ∧ (s.lane c).rateIdle then .next (s.beginAttempt c) else .next s

/-- LOCK_TIMEOUT (R185). -/
def execLockTimeout (c : Fin 128) (s : State) : Res :=
  if s.laneSt c.val = 3 then .next (s.failAttempt c.val 3) else .next s

/-- EXCHANGE_TIMEOUT (R185), suspended while the lane is held (R196, R354). -/
def execExchangeTimeout (c : Fin 128) (s : State) : Res :=
  let l := s.lane c.val
  if s.laneSt c.val = 4 ∧ ¬ (l.held ∨ l.heldPair) then .next (s.failAttempt c.val 4) else .next s

/-- RETRAIN_TIMEOUT: attempts cleared, TRAIN (R185). -/
def execRetrainTimeout (c : Fin 128) (s : State) : Res :=
  if s.laneSt c.val = 6 then .next ((s.setAttempt c.val 0).enterTrain c.val) else .next s

/-! ## Degradation triggers (R198) -/

/-- EYE_MEASUREMENT: EYE.LOCAL and EYE_MIN; EYE_LOW at the first low figure, and a trigger at the third. -/
def execEyeMeasurement (c : Fin 128) (eye : Fin 256) (s : State) : Res :=
  let c := c.val
  if !s.laneActive c then .next s
  else
    let low := decide (eye.val < s.eyePass c)
    let n := if low then (s.lane c).lowEyes + 1 else 0
    let s := s.localEye c (some eye.val)
    let s := if n = 1 then s.intSet (Reg.pageCH c) 14 else s
    let s := s.modLane c (fun l => { l with lowEyes := if n ≥ 3 then 0 else n })
    if n ≥ 3 then .next (s.requestRetrain c false) else .next s

/-- Invalid headers received while locked (R195). -/
def State.headerErrs (s : State) (c errs : Nat) : State :=
  s.wr (Reg.CH_HEADER_ERR_COUNT c) (satAdd 32 (s.rd (Reg.CH_HEADER_ERR_COUNT c)) errs)

/-- The invalid headers of a 1.0 s window on a head lane, counted while locked (R195); on an ACTIVE lane they are judged
(R198). -/
def State.headWindow (s : State) (c errs : Nat) : State :=
  if !s.bit (Reg.CH_LINK_STATUS c) 6 then s
  else
    let s := s.headerErrs c errs
    if s.laneActive c && errs > s.rdF (Reg.CH_LINK_CFG c) 23 16 then s.requestRetrain c false else s

/-! ## Isolation (R204) -/

/-- The registers of a CHANNEL page that a CHANNEL reset returns to reset: lane, framer, screener and counters (R28).
The tables, the configuration registers, the outcome of the last TABLE send and the head identity are kept (R196, R238;
log 89). -/
def channelResetKeys (c : Nat) : List Nat :=
  [Reg.CH_MISMATCH_COUNT c, Reg.CH_MISMATCH_ABSENT_COUNT c, Reg.CH_MISMATCH_LAST c, Reg.CH_SEAL_ABSENT_COUNT c,
    Reg.CH_LEVEL_CLAMP_COUNT c, Reg.CH_LOCK_COUNT c, Reg.CH_LOCK_LOSS_COUNT c, Reg.CH_HEADER_ERR_COUNT c,
    Reg.CH_RETRAIN_COUNT c, Reg.CH_FALLBACK_COUNT c, Reg.CH_TX_TAPS c, Reg.CH_HEAD_TAPS c, Reg.CH_EYE c, Reg.CH_EYE_MIN c,
    Reg.CH_TRAIN_TIME c, Reg.CH_ECHO_RTT c, Reg.CH_HEAD_PERIOD c]
def State.channelReset (s : State) (c : Nat) : State :=
  let s := s.wrs ((channelResetKeys c).map (fun k => (k, (resetOf k).toNat)))
  let s := { s with scr := { s.scr with mism := smSet (fun _ => 0) s.scr.mism c 0 } }
  let s := s.wr (Reg.CH_LINK_STATUS c) (b2n (s.bit (Reg.CH_LINK_STATUS c) 8) * 2 ^ 8 + s.laneSt c)
  let s := (s.wr (Reg.CH_PROTO_STATUS c) (s.rdF (Reg.CH_PROTO_STATUS c) 7 0 + 2 ^ 8)).wrF (Reg.CH_CNT_SEL c) 31 16 0
  s.modLane c (fun l => { ident := l.ident, formats := l.formats, tableSeq := l.tableSeq, echoSeq := l.echoSeq })

/-- ISOLATE takes effect: the lane drops without HALT, the channel is held in CHANNEL reset (R204). -/
def State.isolateLane (s : State) (c : Nat) : State :=
  let s := s.leaveActive c
  let s := (s.emit (.electricalIdle c)).wrB (Reg.CH_CH_CTRL c) 0 true
  let s := { s with line := { s.line with portStop := s.line.portStop.filter (· != c) } }
  ((((s.channelReset c).setLaneSt c 0).markImplicit c).dropGrant c).tellLane c false

/-- ISOLATE: CH_CTRL.ISOLATE written to 1 (R185). -/
def execIsolate (src : Req) (c : Fin 128) (s : State) : Res :=
  if s.cutOff src then .next s else
  if s.bit (Reg.CH_CH_CTRL c.val) 0 then .next s else .next (s.isolateLane c.val)

/-- ISOLATE written to 0: FULL unless RATE_MAX is HALF, then DETECT (R185). -/
def State.releaseLane (s : State) (c : Nat) : State :=
  let s := s.wrB (Reg.CH_CH_CTRL c) 0 false
  if s.laneSt c = 0 then (s.setHalf c (s.rateMaxHalf c)).enterDetect c else s

def execIsolateRelease (src : Req) (c : Fin 128) (s : State) : Res :=
  if s.cutOff src then .next s else
  if s.bit (Reg.CH_CH_CTRL c.val) 0 then .next (s.releaseLane c.val) else .next s

/-! ## LINK_CTRL (R206) -/

/-- While ISOLATE is 1, LINK_CTRL commands are discarded and recorded (R204). -/
def State.linkCmd (s : State) (src : Req) (c : Nat) (f : State → State) : State :=
  if s.bit (Reg.CH_CH_CTRL c) 0 then s.errAt (Reg.pageCH c) 0x0191 (Reg.CH_LINK_CTRL c) src else f s

/-- RETRAIN: never deferred (R199). -/
def State.doRetrain (s : State) (src : Req) (c : Nat) : State :=
  s.linkCmd src c (fun s => if s.laneActive c then s.enterRetrain c else s)
def execLinkRetrain (src : Req) (c : Fin 128) (s : State) : Res :=
  if s.cutOff src then .next s else
  .next (s.doRetrain src c.val)

/-- LINK_RESTART: from any state but DISABLED to DETECT at RATE_MAX (R185). -/
def State.doRestart (s : State) (src : Req) (c : Nat) : State :=
  s.linkCmd src c (fun s =>
    if s.laneSt c = 0 then s
    else (((s.leaveActive c).setHalf c (s.rateMaxHalf c)).enterDetect c).tellLane c false)
def execLinkRestart (src : Req) (c : Fin 128) (t : Nat) (s : State) : Res :=
  if s.cutOff src then .next s else
  .next ((s.till t).doRestart src c.val)

/-- RATE_UP: a lane at HALF makes one attempt at FULL (R202). -/
def State.doRateUp (s : State) (src : Req) (c : Nat) : State :=
  s.linkCmd src c (fun s =>
    if s.laneActive c && s.laneHalf c && !s.rateMaxHalf c then s.requestRetrain c true else s)
def execRateUp (src : Req) (c : Fin 128) (s : State) : Res :=
  if s.cutOff src then .next s else
  .next (s.doRateUp src c.val)

end Sys2Proof.Machine
end

