-- ==== Sys2Proof/Machine/Protocol.lean ====
section
/-! DEFINITION. Head link: frames, HELLO, TABLE, STATUS and ECHO (chapter 7). -/

namespace Sys2Proof.Machine

/-! ## Frames (R208 to R214) -/

/-- The bytes of a frame's CRC-32C: bytes 1 to 7 of the start block, then each data block (R210). -/
def frameBytes (start : Nat) (data : List Nat) : List Byte :=
  (leBytes 8 start).drop 1 ++ data.flatMap (leBytes 8)

/-- The END block of a frame. -/
def endBlock (start : Nat) (data : List Nat) : Nat :=
  withCrc8 (0x4B + data.length % 2 ^ 16 * 2 ^ 8 + crc32c (frameBytes start data) * 2 ^ 24)

/-- A multi-block frame as payloads: start block, data blocks, END block. -/
def mkFrame (start : Nat) (data : List Nat) : List Nat := start :: (data ++ [endBlock start data])

/-- The start block of a LINE frame (R213). -/
def lineStart (line format : Nat) (absent first : Bool) (taps run : Nat) : Nat :=
  0x33 + line % 2 ^ 32 * 2 ^ 8 + format % 4 * 2 ^ 40 + b2n absent * 2 ^ 42 + b2n first * 2 ^ 43
    + taps % 64 * 2 ^ 44 + run % 256 * 2 ^ 50

/-- Pack codes of b bits, code n at stream bits b * n upward, into 64-bit data blocks (R214): `acc` holds
`have` bits not yet put out. -/
def packCodes (b : Nat) : (acc have_ : Nat) → List Nat → List Nat
  | acc, h, [] => if h = 0 then [] else [acc]
  | acc, h, x :: xs =>
    let acc := acc + x % 2 ^ b * 2 ^ h
    if h + b ≥ 64 then acc % 2 ^ 64 :: packCodes b (acc / 2 ^ 64) (h + b - 64) xs
    else packCodes b acc (h + b) xs

/-- The code width of a FORMAT (R165): BITS3, BITS2, BITS1. -/
def codeBits (format : Nat) : Nat := 3 - format

/-- A TICK block (R217). -/
def tickBlock (line slip : Nat) : Nat := withCrc8 (0x2D + line % 2 ^ 32 * 2 ^ 8 + slip % 64 * 2 ^ 40)

/-- An ECHO request (R235). -/
def echoBlock (seq : Nat) : Nat := withCrc8 (0x87 + seq % 256 * 2 ^ 16)

/-! ## HELLO (R226 to R228) -/

/-- FORMAT in force of a channel. -/
def State.format (s : State) (c : Nat) : Nat := s.rdF (Reg.CH_SCREEN_CFG c) 1 0

/-- The module's HELLO frame. -/
def State.moduleHello (s : State) (c : Nat) (ack : Bool) : List Nat :=
  mkFrame (0x78 + b2n ack * 2 ^ 9 + 0x10 * 2 ^ 16)
    [c + c % 16 * 2 ^ 8 + c / 16 * 2 ^ 12 + s.mode * 2 ^ 16,
     s.rd64 Reg.SYS_SERIAL_LO Reg.SYS_SERIAL_HI, s.format c, 0]

def State.sendHello (s : State) (c : Nat) (ack : Bool) : State :=
  s.sendFrame c (s.moduleHello c ack)

/-- Whether a head HELLO is compatible (R228). -/
def State.compatible (s : State) (c : Nat) (h : HeadHello) : Bool :=
  fld h.version 7 4 == 1 && h.nozzles == 6144 && bitOf h.formats (s.format c) && h.buffer ≥ 64
    && h.tableMax != 0 && h.maxRate ≥ 80000
    && (!s.partnerActive c ||
      match smGet (fun _ => []) s.pair.partnerHeads c with
      | [v, m, n, p] => v == h.vendor && m == h.model && n == h.serial && p != h.port
      | _ => true)

/-- An ACTIVE lane that may carry more than IDLE: none after a stop, until the next run (R222). -/
def State.laneTalks (s : State) (c : Nat) : Bool := s.laneActive c && !s.line.stopped.contains c

/-- Entry to EXCHANGE: HELLO with ACK = 0 (R227). -/
def State.enterExchange (s : State) (c : Nat) : State :=
  let s := s.modLane c (fun l => { l with
    helloPassed := false, headAcked := false, held := false, heldPair := false,
    accepted := false, hello := none })
  (s.setLaneSt c 4).sendHello c false

/-- Entry to ACTIVE (R185, R196, R197, R238): the head's fields are recorded; the lane joins the run from
the next admitted line. -/
def State.enterActive (s : State) (c : Nat) (h : HeadHello) : State :=
  let p := Reg.pageCH c
  let s := s.wrs [
    (Reg.CH_HEAD_VENDOR c, h.vendor % 2 ^ 16 + h.model % 2 ^ 16 * 2 ^ 16),
    (Reg.CH_HEAD_SERIAL_LO c, h.serial % 2 ^ 32), (Reg.CH_HEAD_SERIAL_HI c, h.serial / 2 ^ 32 % 2 ^ 32),
    (Reg.CH_HEAD_CAPS c, h.formats % 8 + h.port % 2 * 2 ^ 3 + h.buffer % 256 * 2 ^ 8 + h.tableMax % 2 ^ 16 * 2 ^ 16),
    (Reg.CH_HEAD_VERSION c, h.version % 256 + h.eyePass % 256 * 2 ^ 8),
    (Reg.CH_TRAIN_TIME c, min (2 ^ 20 - 1) (s.since (s.lane c).detectFrc / usClk 1))]
  let s := ((s.setFailCause c 0).wrB (Reg.CH_LINK_STATUS c) 9 false).wrB (Reg.CH_PROTO_STATUS c) 8 true
  let changed := (s.lane c).ident != some (h.vendor, h.model, h.serial)
  let s := s.modLane c (fun l => { l with
    ident := some (h.vendor, h.model, h.serial), formats := h.formats % 8, lowEyes := 0, rateUp := false, asked := none,
    statusSeen := l.statusSeen && !changed })
  let s := { s with
    scr := { s.scr with implicit := s.scr.implicit.filter (· != c) }
    line := { s.line with stopped := s.line.stopped.filter (· != c) } }
  let s := (s.setLaneSt c 5).intSet p 8
  (s.dropGrant c).tellLane c true

/-- Go on with the exchange once nothing holds the lane: HELLO with ACK = 1, and ACTIVE once the head has
sent ACK = 1 (R227). -/
def State.proceed (s : State) (c : Nat) (h : HeadHello) : State :=
  let s := (s.modLane c (fun l => { l with helloPassed := true })).sendHello c true
  if (s.lane c).headAcked then s.enterActive c h else s

/-- A lane of a module whose partner loss is declared and which holds no valid lease stays in EXCHANGE
(R354). -/
def State.holdsForPair (s : State) : Bool :=
  s.pairMode && s.pair.apart && !s.bit Reg.PAIR_PAIR_STATUS 8

/-- A HELLO with another identity than the one kept (R196). -/
def State.headChanged (s : State) (c : Nat) (h : HeadHello) : Bool :=
  match (s.lane c).ident with
  | none => false
  | some i => i != (h.vendor, h.model, h.serial)
def State.markChanged (s : State) (c : Nat) (h : HeadHello) : State :=
  if s.headChanged c h then (s.wrB (Reg.CH_LINK_STATUS c) 9 true).intSet (Reg.pageCH c) 13 else s

/-- A compatible HELLO in EXCHANGE: a changed head is held where HOLD_NEW_HEAD asks for it, and then until ACCEPT (R196);
then R354, then the acknowledgement. -/
def State.compatHello (s : State) (c : Nat) (h : HeadHello) : State :=
  let l := s.lane c
  let hold := s.headChanged c h && !l.accepted && (l.held || s.bit (Reg.CH_LINK_CFG c) 3)
  let s := s.modLane c (fun l => { l with held := hold, heldPair := s.holdsForPair })
  if hold || s.holdsForPair then s else s.proceed c h

/-- HELLO: a valid head HELLO. In EXCHANGE it is checked; in ACTIVE it is answered with ACK = 1 (R227). -/
def execHeadHello (c : Fin 128) (h : HeadHello) (t : Nat) (s : State) : Res :=
  let c := c.val
  let s := s.till t
  if s.laneActive c then .next (if s.laneTalks c then s.sendHello c true else s)
  else if s.laneSt c ≠ 4 then .next s
  else
    let s := (s.markChanged c h).modLane c (fun l => { l with hello := some h, headAcked := l.headAcked || h.ack })
    if s.compatible c h then .next (s.compatHello c h) else .next (s.enterFailed c 5)

/-- HELLO_REPEAT: every 1.0 ms in EXCHANGE; a held lane sends IDLE only (R196, R227). -/
def execHelloRepeat (c : Fin 128) (s : State) : Res :=
  let c := c.val
  let l := s.lane c
  if s.laneSt c = 4 ∧ ¬ (l.held ∨ l.heldPair) then .next (s.sendHello c l.helloPassed) else .next s

/-- ACCEPT: the host lets a held lane go on (R196). -/
def State.doAccept (s : State) (src : Req) (c : Nat) : State :=
  s.linkCmd src c (fun s =>
    let l := s.lane c
    if s.laneSt c = 4 ∧ l.held then
      let s := s.modLane c (fun l => { l with held := false, accepted := true })
      match l.hello with
      | some h => if l.heldPair then s else s.proceed c h
      | none => s
    else s)
def execLinkAccept (src : Req) (c : Fin 128) (t : Nat) (s : State) : Res :=
  if s.cutOff src then .next s else
  .next ((s.till t).doAccept src c.val)

/-- Release the lanes that R354 holds, when the pair is formed again. -/
def State.releaseHeld (s : State) : State :=
  channels.foldl (fun s c =>
    let l := s.lane c
    if s.laneSt c = 4 ∧ l.heldPair then
      let s := s.modLane c (fun l => { l with heldPair := false })
      match l.hello with
      | some h => if l.held then s else s.proceed c h
      | none => s
    else s) s

/-- PORT_STOP_EXCHANGE: the end of the 10 µs of IDLE after a HALT with scope PORT; block lock is kept
(R225). -/
def execPortStopExchange (c : Fin 128) (s : State) : Res :=
  let c := c.val
  if s.laneActive c ∧ s.line.portStop.contains c then
    let s := { s with line := { s.line with
      portStop := s.line.portStop.filter (· != c), stopped := s.line.stopped.filter (· != c) } }
    .next (((s.leaveActive c).enterExchange c).tellLane c false)
  else .next s

/-! ## Block lock on a head lane (R195) -/

/-- Blocks received on a locked lane in LOCK: the first after block lock is discarded, invalid headers are counted, and 32
valid IDLE blocks in a row lead to EXCHANGE (R180, R181, R185). -/
def State.lockBlocks (s : State) (c : Nat) (blocks : List (Nat × Nat)) : State :=
  let l := s.lane c
  let d := decodeBlocks l.rxScr blocks
  let n := idleRun l.idles d.2
  let s := s.headerErrs c (blocks.filter (fun b => !headerOk b.1)).length
  let s := s.modLane c (fun l => { l with rxScr := d.1, idles := n })
  if n ≥ 32 then s.enterExchange c else s

/-- Block lock gained, or held, in LOCK, with the blocks received since as sync header and scrambled payload (R195). -/
def State.headLockGained (s : State) (c : Nat) (blocks : List (Nat × Nat)) : State :=
  if s.laneSt c ≠ 3 then s
  else if s.bit (Reg.CH_LINK_STATUS c) 6 then s.lockBlocks c blocks
  else
    let s := (s.setBlockLock c true).count (Reg.CH_LOCK_COUNT c)
    (s.modLane c (fun l => { l with rxScr := none, idles := 0 })).lockBlocks c blocks

/-- Block lock lost: LOCK_LOSS_COUNT, and the invalid headers that have not been counted yet (R195; log 98);
ACTIVE goes to RETRAIN, EXCHANGE fails the attempt (R185). -/
def State.headLockLost (s : State) (c errs : Nat) : State :=
  if !s.bit (Reg.CH_LINK_STATUS c) 6 then s
  else
    let s := ((s.setBlockLock c false).count (Reg.CH_LOCK_LOSS_COUNT c)).headerErrs c errs
    if s.laneActive c then s.enterRetrain c
    else if s.laneSt c = 4 then s.failAttempt c 4
    else s

/-! ## The counters of a lane (R221) -/

/-- A counter last reported by the head; unlisted ones read zero. -/
def Lane.counter (l : Lane) (i : Nat) : Nat := smGet (fun _ => 0) l.counters i

/-- Add one to a module counter of a lane (R221: 32-bit, wrapping). -/
def State.countLane (s : State) (c i : Nat) : State :=
  s.modLane c (fun l => { l with counters := smSet (fun _ => 0) l.counters i ((l.counter i + 1) % 2 ^ 32) })

/-- FRAME_DISCARD: a block or frame from the head is discarded (R208 to R211). -/
def execFrameDiscard (c : Fin 128) (s : State) : Res :=
  .next ((s.countLane c.val 0xB).intSet (Reg.pageCH c.val) 27)

/-! ## TABLE (R229 to R231) -/

/-- The frame LENGTH of the TABLE that the registers describe. -/
def State.tableLength (s : State) (c : Nat) : Nat :=
  s.rdF (Reg.CH_TABLE_CMD c) 15 0 + s.rdF (Reg.CH_TABLE_CMD c) 24 24

/-- TABLE_SRC as a job memory address. -/
def State.tableSrc (s : State) (c : Nat) : Nat :=
  s.rd (Reg.CH_TABLE_SRC_LO c) + s.rdF (Reg.CH_TABLE_SRC_HI c) 4 0 * 2 ^ 32

/-- The first condition of R230 that refuses the send. -/
def State.tableRefusal (s : State) (src : Req) (c : Nat) : Option Nat :=
  let st := s.rdF (Reg.CH_TABLE_STATUS c) 2 0
  let n := s.tableLength c
  if !s.laneActive c then some 0x01A4
  else if st = 1 ∨ st = 2 then some 0x01A3
  else if n = 0 then some 0x01A2
  else if n > s.rdF (Reg.CH_HEAD_CAPS c) 31 16 then some 0x01A0
  else if n > 64 ∧ s.printing then some 0x01A1
  else if s.rdF (Reg.CH_TABLE_CMD c) 15 0 ≠ 0
      ∧ !s.inHostRegion 0 (s.tableSrc c) (8 * s.rdF (Reg.CH_TABLE_CMD c) 15 0) then some 0x01A5
  else s.armGate src

/-- The start block and data blocks of the TABLE frame. -/
def State.tableFrame (s : State) (c seq : Nat) : List Nat :=
  let cmd := s.rd (Reg.CH_TABLE_CMD c)
  let ctl := s.rd (Reg.CH_TABLE_LINE c) + fld cmd 25 25 * 2 ^ 32
  let data := (List.range (fld cmd 15 0)).map (fun i => s.memWord (s.tableSrc c + 8 * i) 8)
  mkFrame (0x55 + fld cmd 23 16 * 2 ^ 8 + s.rdF (Reg.CH_TABLE_SRC_HI c) 31 16 * 2 ^ 16
      + s.tableLength c % 2 ^ 16 * 2 ^ 32 + seq * 2 ^ 48 + fld cmd 24 24 * 2 ^ 56)
    (if bitOf cmd 24 then ctl :: data else data)

/-- Whether the read of the source is uncorrectable (R422). -/
def State.tablePoisoned (s : State) (c : Nat) : Bool :=
  s.poisonedIn (s.tableSrc c) (8 * s.rdF (Reg.CH_TABLE_CMD c) 15 0)

/-- Send the TABLE frame that waits: SENDING becomes WAITING. -/
def State.emitTable (s : State) (c : Nat) : State :=
  let k := Reg.CH_TABLE_STATUS c
  if s.rdF k 2 0 = 1 ∧ s.laneTalks c then (s.sendFrame c (s.tableFrame c (s.rdF k 23 16))).wrF k 2 0 2 else s

/-- The TABLE frames that lanes carrying only IDLE have held back, as a run begins (R222, R230). -/
def State.emitTables (s : State) : State := channels.foldl State.emitTable s

/-- TABLE_SEND: the frame is built and sent, and the send waits for the head's STATUS; or it is refused;
or the source returns uncorrectable data and no frame is sent (R230 to R232). A refused send of a channel
whose send is in progress leaves the state of that send. -/
def State.tableSend (s : State) (src : Req) (c : Nat) : State :=
  let k := Reg.CH_TABLE_STATUS c
  let p := Reg.pageCH c
  match s.tableRefusal src c with
  | some code =>
    let s := s.errAt p code (Reg.CH_TABLE_CMD c) src
    if code = 0x01A3 then s else (s.wrF k 2 0 5).intSet p 26
  | none =>
    if s.tablePoisoned c then ((s.wrF k 2 0 4).wrF k 15 8 0xFC).intSet p 26
    else
      let seq := ((s.lane c).tableSeq + 1) % 256
      let s := s.modLane c (fun l => { l with tableSeq := seq })
      (s.wr k (1 + seq * 2 ^ 16)).emitTable c
def execTableSend (src : Req) (c : Fin 128) (s : State) : Res :=
  if s.cutOff src then .next s else
  .next (s.tableSend src c.val)

/-- TABLE_NO_RESPONSE: no STATUS with the SEQ within 10 ms (R231). -/
def execTableNoResponse (c : Fin 128) (s : State) : Res :=
  let k := Reg.CH_TABLE_STATUS c.val
  if s.rdF k 2 0 = 2 then
    .next (((s.wrF k 2 0 4).wrF k 15 8 0xFE).intSet (Reg.pageCH c.val) 26)
  else .next s

/-! ## ECHO (R235) -/

/-- Send a request on an ACTIVE lane. -/
def State.sendEcho (s : State) (c : Nat) : State :=
  if !s.laneTalks c then s
  else
    let seq := ((s.lane c).echoSeq + 1) % 256
    (s.modLane c (fun l => { l with echoSeq := seq, echoes := l.echoes ++ [(seq, s.frc)] })).sendBlock c (echoBlock seq)

/-- ECHO_NOW (R235). -/
def execEchoNow (src : Req) (c : Fin 128) (t : Nat) (s : State) : Res :=
  if s.cutOff src then .next s else
  .next ((s.till t).sendEcho c.val)

/-- ECHO_INTERVAL: a request while ECHO_AUTO is 1 (R235). -/
def execEchoInterval (c : Fin 128) (t : Nat) (s : State) : Res :=
  let s := s.till t
  if s.bit (Reg.CH_PROTO_CFG c.val) 0 then .next (s.sendEcho c.val) else .next s

/-- ECHO: a reply. RTT and LATENCY in units of 1.25 ns; TURNAROUND is in ns, so LATENCY is (RTT less
TURNAROUND / 1.25) / 2, rounded down (R235). -/
def execEchoReply (c : Fin 128) (seq turnaround t : Nat) (s : State) : Res :=
  let c := c.val
  let s := s.till t
  match (s.lane c).echoes.find? (fun e => e.1 == seq % 256) with
  | none => .next s
  | some e =>
    let rtt := s.since e.2
    let lat := (rtt * 5 - turnaround % 2 ^ 16 * 4) / 10
    .next ((s.modLane c (fun l => { l with echoes := l.echoes.filter (fun x => x.1 != seq % 256) })).wr (Reg.CH_ECHO_RTT c)
      (min 0xFFFF rtt + min 0xFFFF lat * 2 ^ 16))

/-- ECHO_LOST: no reply within 100 µs of the oldest request that waits (R235). -/
def execEchoLost (c : Fin 128) (s : State) : Res :=
  let c := c.val
  if (s.lane c).echoes.isEmpty then .next s
  else .next ((s.modLane c (fun l => { l with echoes := l.echoes.drop 1 })).countLane c 0xD)

end Sys2Proof.Machine
end

