-- ==== Sys2Proof/Machine/Apply.lean ====
section
/-! DEFINITION. Shadows and the apply unit (R45 to R51, R95 to R104, R107, R108, R120). Slot states: 0 IDLE,
1 ARMED, 2 RAMPING, 3 SYNC, 4 DONE, 5 REFUSED, 6 CANCELLED, 7 PENDING_ACK. -/

namespace Sys2Proof.Machine

/-! ## Shadows of a page -/

/-- The shadow beside the register with a key. -/
def State.shadowOf (s : State) (k : Nat) : Nat := (smGet resetOf s.shadow k).toNat

/-- The keys of the RWS registers of a page. -/
def rwsKeys (page : Nat) : List Nat :=
  match pageAt page with
  | none => []
  | some (p, _) => (p.rows.filter (fun r => r.acc == .rws)).flatMap (fun r =>
      (List.range r.count).map (fun i => page * 0x1000 + r.base + r.stride * i))

/-- Copy shadows into force. -/
def State.copyShadows (s : State) (keys : List Nat) : State :=
  keys.foldl (fun s k => s.wr k (s.shadowOf k)) s

/-- The page that shows the interrupts of a page: ISPCTX for each of its contexts (R275). -/
def headerPage (page : Nat) : Nat := if 0x200 ≤ page ∧ page < 0x210 then Reg.pageISPCTX_PORT else page

/-- What every apply of a page does beside the copy (R46): ARMED cleared, GENERATION, INT_STATUS.APPLIED. -/
def State.pageApplied (s : State) (page : Nat) : State :=
  let k := Reg.SHADOW_CTRL page
  let s := (s.wrB k 1 false).wrF k 23 16 (s.rdF k 23 16 + 1)
  s.intSet (headerPage page) 1

/-- A page's own apply: every shadow takes force in one clock (R46); an apply whose target had passed sets
INT_STATUS.LATE, which a rescheduled one has set before (R36, R49). -/
def State.applyPage (s : State) (page : Nat) : State :=
  let late := s.bit (Reg.SHADOW_CTRL page) 2 && !s.bit (Reg.SHADOW_CTRL page) 3
  let s := (s.copyShadows (rwsKeys page)).pageApplied page
  if late then s.intSet (headerPage page) 2 else s

/-! ## Splices (R119, R120) -/

/-- Print lines per stored line. -/
def State.ys (s : State) : Nat := s.rdF Reg.JOB_JOB_CFG 5 5 + 1

/-- LENGTH of a repeat, in stored lines. -/
def State.repLength (s : State) (r : Nat) : Nat := s.rd (Reg.JOB_REP_LENGTH r)

/-- The span of the splice that the shadows describe: passes, LENGTH and print lines per stored line. -/
def State.spliceSpan (s : State) (rep count : Nat) : Nat := count * s.repLength rep * s.ys

/-- A splice takes force at image line `at_` (R120): its record joins the others, newest first. -/
def State.addSplice (s : State) (at_ : Nat) : State :=
  let rep := s.rdF Reg.JOB_SPLICE_REP 3 0
  let span := s.spliceSpan rep (s.rdF Reg.JOB_SPLICE_COUNT 15 0)
  let prev := match s.splices with
    | [] => s.rd Reg.JOB_JOB_START
    | r :: _ => r.z
  let z := if s.bit Reg.JOB_SPLICE_REP 8 then ladd at_ span else ladd prev span
  { s with splices := { start := at_, rep := rep, span := span, z := z } :: s.splices }

/-! ## Sources (R75, R76) -/

/-- CPL of an encoder, in 1/65,536 count per line. -/
def State.cpl (s : State) (e : Nat) : Nat := s.rd (if e = 0 then Reg.ENC_CPL0 else Reg.ENC_CPL1)

def State.enc (s : State) (e : Nat) : Enc := if e = 0 then s.line.enc0 else s.line.enc1
def State.setEnc (s : State) (e : Nat) (x : Enc) : State :=
  if e = 0 then { s with line := { s.line with enc0 := x } } else { s with line := { s.line with enc1 := x } }

/-- The source in use: AUTO is ENC0 until it has switched (R75). 0 ENC0, 1 ENC1, 3 VIRTUAL, 4 TIMED, 5 RING. -/
def State.sourceInUse (s : State) : Nat :=
  let v := s.rdF Reg.ENC_SOURCE 2 0
  if v = 2 then (if s.line.autoSwitched then 1 else 0) else v

/-- The period of a source that is no encoder, in 1/256 clock: VENC_PERIOD, or the last tick interval. -/
def State.sourcePeriod (s : State) (src : Nat) : Nat :=
  if src = 3 then s.rd Reg.ENC_VENC_PERIOD else s.rd Reg.LINE_PERIOD * 256

/-- The fraction of a line that the source in use has reached, in 1/2^32 line; below one line, whatever is overdue. -/
def State.lineFrac (s : State) : Nat :=
  let src := s.sourceInUse
  min (2 ^ 32 - 1)
    (if src ≤ 1 then (s.enc src).phase * 2 ^ 32 / atLeast1 (s.cpl src)
      else (s.frc * 256 - s.line.vencOrigin) * 2 ^ 32 / atLeast1 (s.sourcePeriod src))

/-- How far the position of the source in use lies below the highest that it has reached, in 1/2^32 line (R73). -/
def State.lineBehind (s : State) : Nat :=
  let src := s.sourceInUse
  if src ≤ 1 then (s.enc src).behind * 2 ^ 32 / atLeast1 (s.cpl src) else 0

/-- REVn (R73): set where the position lies more than REVERSE_LIMIT counts below its highest value, with
INT_STATUS.REVERSE once; cleared where it has reached that value. -/
def State.showReverse (s : State) (e : Nat) : State :=
  let b := (s.enc e).behind
  if b = 0 then s.wrB Reg.ENC_ENC_STATUS (2 + e) false
  else if b > s.rdF Reg.ENC_REVERSE_LIMIT 23 0 * 65536 ∧ ¬ s.bit Reg.ENC_ENC_STATUS (2 + e) then
    (s.wrB Reg.ENC_ENC_STATUS (2 + e) true).intSet Reg.pageENC 11
  else s

/-- Start the source now in use at a fraction of a line, and as far below the highest position as the old source was: no
tick is lost or doubled (R73, R76). -/
def State.startSource (s : State) (frac back : Nat) : State :=
  let src := s.sourceInUse
  if src ≤ 1 then
    (s.setEnc src { s.enc src with
      phase := frac * s.cpl src / 2 ^ 32, behind := back * s.cpl src / 2 ^ 32 }).showReverse src
  else { s with line := { s.line with
    vencOrigin := s.frc * 256 + back * s.sourcePeriod src / 2 ^ 32 - frac * s.sourcePeriod src / 2 ^ 32 } }

/-- A new CPL leaves the line position where it is (R72): what lies behind it is counted in the new CPL from now on,
rounded down (log 85). -/
def State.rescale (s : State) (e old : Nat) : State :=
  if s.cpl e = old then s
  else
    let x := s.enc e
    (s.setEnc e { x with
      phase := x.phase * s.cpl e / atLeast1 old, behind := x.behind * s.cpl e / atLeast1 old
      window := x.window * s.cpl e / atLeast1 old }).showReverse e

/-- ENC.STATUS.STATE carries SOURCE; ENC_STATUS [10:8] the source in use (R106). -/
def State.showSource (s : State) : State :=
  (s.setStCode Reg.pageENC (s.rdF Reg.ENC_SOURCE 2 0)).wrF Reg.ENC_ENC_STATUS 10 8 s.sourceInUse

/-! ### Loss of signal (R70, R71, R75 to R77) -/

def encCfg (e : Nat) : Nat := if e = 0 then Reg.ENC_ENC0_CFG else Reg.ENC_ENC1_CFG
def State.encOn (s : State) (e : Nat) : Bool := s.bit (encCfg e) 0

/-- LOSn: 1 while the input is disabled. -/
def State.los (s : State) (e : Nat) : Bool := !s.encOn e || s.bit Reg.ENC_ENC_STATUS e

/-- Under AUTO, ENC1 takes over while ENC0 reports LOS and ENC1 does not (R75, R76). -/
def State.autoSwitch (s : State) : State :=
  if s.rdF Reg.ENC_SOURCE 2 0 = 2 ∧ ¬ s.line.autoSwitched ∧ s.los 0 ∧ ¬ s.los 1 then
    let frac := s.lineFrac
    let back := s.lineBehind
    let s := ({ s with line := { s.line with autoSwitched := true } } : State).startSource frac back
    (s.intSet Reg.pageENC 12).showSource
  else s

/-- The source in use reports LOS, and under AUTO ENC1 too (R77). -/
def State.sourceLost (s : State) : Bool :=
  let v := s.rdF Reg.ENC_SOURCE 2 0
  (v == 0 && s.los 0) || (v == 1 && s.los 1) || (v == 2 && s.los s.sourceInUse && s.los 1)

/-- Values of the ENC page have taken force in place of those of `old`: the line positions stand under a new CPL, a new
source starts where the old one was, and a new SOURCE ends an AUTO switch (R72, R76). -/
def State.carryEnc (s old : State) : State :=
  let s := { s with line := { s.line with autoSwitched := false } }
  let s := (s.rescale 0 (old.cpl 0)).rescale 1 (old.cpl 1)
  let s := if s.sourceInUse = old.sourceInUse then s else s.startSource old.lineFrac old.lineBehind
  s.showSource.autoSwitch

/-- The apply of the ENC page. -/
def State.applyEnc (s : State) : State := (s.applyPage Reg.pageENC).carryEnc s

/-! ## Line-domain pages (R48) -/

/-- Apply one line-domain page, with what the page's chapter adds. -/
def State.applyLinePage (s : State) (page line : Nat) : State :=
  if page = Reg.pageENC then s.applyEnc
  else if page = Reg.pageJOB then (s.applyPage page).addSplice line
  else s.applyPage page

/-- The line-domain pages that are applied by their own arm. -/
def linePages : List Nat := [Reg.pageLINE, Reg.pageENC, Reg.pageJOB]

/-- The target of a page had passed when the arm was accepted: LATE without the REFUSED of an arm made again (R48, R49). -/
def State.latePage (s : State) (page : Nat) : Bool :=
  s.bit (Reg.SHADOW_CTRL page) 2 && !s.bit (Reg.SHADOW_CTRL page) 3

/-- A page is armed, its target is line L, lies before it or had passed at the arm, and no partner's acknowledgement is
awaited. -/
def State.pageDue (s : State) (page line : Nat) : Bool :=
  s.bit (Reg.SHADOW_CTRL page) 1
    && (s.latePage page || decide (0 ≤ ldiff line (s.rd (Reg.ARM_TARGET page))))
    && !s.pair.armWait.contains page

/-- The line-domain shadows that apply at the admission of line L. -/
def State.applyLinePages (s : State) (line : Nat) : State :=
  linePages.foldl (fun s p => if s.pageDue p line then s.applyLinePage p line else s) s

/-- ADMIT_LINE: the next line to be admitted. -/
def State.nextLine (s : State) : Nat := s.rd Reg.LINE_ADMIT_LINE

/-- While the run is IDLE or ARMED no line is admitted, and a tick of a new source could admit none before that source
is in force: an armed ENC page whose target is not ahead of the next line takes force at once (log 81). -/
def State.applyIdle (s : State) : State :=
  if s.runSt ≤ 1 ∧ s.pageDue Reg.pageENC s.nextLine then s.applyLinePage Reg.pageENC s.nextLine else s

/-! ## Slots -/

def State.slot (s : State) (n : Nat) : Slot := smGet (fun _ => {}) s.slots n
def State.setSlot (s : State) (n : Nat) (x : Slot) : State :=
  { s with slots := smSet (fun _ => {}) s.slots n x }
def State.slotSt (s : State) (n : Nat) : Nat := s.rdF (Reg.APPLY_SLOT_STATUS n) 3 0
def State.setSlotSt (s : State) (n st : Nat) : State := s.wrF (Reg.APPLY_SLOT_STATUS n) 3 0 st
def State.slotAction (s : State) (n : Nat) : Nat := s.rdF (Reg.APPLY_SLOT_ACTION n) 3 0
def State.slotTarget (s : State) (n : Nat) : Nat := s.rd (Reg.APPLY_SLOT_TARGET n)

/-- The ramp length R (R96). -/
def State.slotRamp (s : State) (n : Nat) : Nat := 2 ^ s.rdF (Reg.APPLY_SLOT_ACTION n) 8 4

/-- Live: ARMED, RAMPING, SYNC or PENDING_ACK. -/
def slotLive (st : Nat) : Bool := st == 1 || st == 2 || st == 3 || st == 7

/-- KERF and PLANE_SET act on planes, the other actions on channels (R95). -/
def onPlanes (action : Nat) : Bool := action == 6 || action == 7

/-- The channels and the planes in a slot's masks. -/
def State.slotChannels (s : State) (n : Nat) : List Nat :=
  bitsOf 32 (s.rd (Reg.APPLY_SLOT_MASK0 n)) ++ (bitsOf 32 (s.rd (Reg.APPLY_SLOT_MASK1 n))).map (· + 32)
    ++ (bitsOf 32 (s.rd (Reg.APPLY_SLOT_MASK2 n))).map (· + 64)
    ++ (bitsOf 32 (s.rd (Reg.APPLY_SLOT_MASK3 n))).map (· + 96)
def State.slotPlanes (s : State) (n : Nat) : List Nat := bitsOf 8 (s.rdF (Reg.APPLY_SLOT_ACTION n) 23 16)

/-- What a slot acts on: planes or channels, as its action has it. -/
def State.slotTargets (s : State) (n : Nat) : List Nat :=
  if onPlanes (s.slotAction n) then s.slotPlanes n else s.slotChannels n

/-- The pages that a slot acts on. -/
def State.slotPages (s : State) (n : Nat) : List Nat :=
  (s.slotTargets n).map (if onPlanes (s.slotAction n) then Reg.pagePLANE else Reg.pageCH)

/-- The RWS registers that a register action moves into force (R95): DELAY_TAPS, COL_SHIFT, every RWS
register of a PLANE page, the other RWS registers of a CH page. -/
def actionKeys (action x : Nat) : List Nat :=
  if action = 4 then [Reg.CH_DELAY_TAPS x]
  else if action = 5 then [Reg.CH_COL_SHIFT x]
  else if action = 7 then rwsKeys (Reg.pagePLANE x)
  else if action = 8 then (rwsKeys (Reg.pageCH x)).filter
    (fun k => k != Reg.CH_DELAY_TAPS x && k != Reg.CH_COL_SHIFT x)
  else []

/-- Record the outcome of a slot: RESULT. -/
def State.slotResult (s : State) (n code : Nat) : State := s.wrF (Reg.APPLY_SLOT_STATUS n) 23 8 code

/-- SLOT_LATE bit n and INT_STATUS.SLOT_LATE; the pages show LATE (R50, R102). -/
def State.slotLate (s : State) (n : Nat) : State :=
  let s := (s.wrB Reg.APPLY_SLOT_LATE n true).intSet Reg.pageAPPLY 10
  (s.slotPages n).foldl (fun s p => (s.wrB (Reg.SHADOW_CTRL p) 2 true).intSet p 2) s

/-- REFUSED (R101). An access caused it, or none did. -/
def State.slotRefuse (s : State) (n code source : Nat) : State :=
  let s := ((s.setSlotSt n 5).slotResult n code).wrB Reg.APPLY_SLOT_REFUSED n true
  let s := (s.intSet Reg.pageAPPLY 9).error Reg.pageAPPLY code
    (if source = 0 then 0 else Reg.APPLY_SLOT_CTRL n % 0x1000) source
  (s.slotPages n).foldl (fun s p => (s.wrB (Reg.SHADOW_CTRL p) 3 true).intSet p 3) s

/-- DONE: SLOT_DONE, GENERATION (R108). -/
def State.slotDone (s : State) (n : Nat) : State :=
  let k := Reg.APPLY_SLOT_STATUS n
  let s := ((s.setSlotSt n 4).wrF k 31 24 (s.rdF k 31 24 + 1)).wrB Reg.APPLY_SLOT_DONE n true
  { s.intSet Reg.pageAPPLY 8 with pair := { s.pair with inDoubt := s.pair.inDoubt.filter (· != n) } }

/-- The key range of a channel's or plane's entries in a table of a bank. -/
def nozzleLo (c : Nat) : Nat := c * 6144
def toneLo (c : Nat) : Nat := c * 256
def kerfLo (p : Nat) : Nat := p * 16 * 384

/-- What a table entry reads before it is written (R152). -/
def nozzleReset : Nat → Nat := fun _ => 0x400
def toneReset (k : Nat) : Nat := (k % 256 * 4095 + 127) / 255
def dmapReset : Nat → Nat := fun _ => 0x76543210
def zeroReset : Nat → Nat := fun _ => 0

/-- The entries of a bank. -/
def Bank.nozzleAt (b : Bank) (c n : Nat) : Nat := smGet nozzleReset b.nozzle (nozzleLo c + n)
def Bank.toneAt (b : Bank) (c v8 : Nat) : Nat := smGet toneReset b.tone (toneLo c + v8)
def Bank.dmapAt (b : Bank) (c : Nat) : Nat := smGet dmapReset b.dmap c
def Bank.kerfWord (b : Bank) (m w : Nat) : Nat := smGet zeroReset b.kerf (m * 384 + w)

/-- Bank `a` with the part of bank `b` that an action names for channel or plane x. -/
def Bank.take (a b : Bank) (action x : Nat) : Bank :=
  if action = 1 then { a with nozzle := smSplice (nozzleLo x) (nozzleLo (x + 1)) a.nozzle b.nozzle }
  else if action = 2 then { a with tone := smSplice (toneLo x) (toneLo (x + 1)) a.tone b.tone }
  else if action = 3 then { a with dmap := smSplice x (x + 1) a.dmap b.dmap }
  else if action = 6 then { a with kerf := smSplice (kerfLo x) (kerfLo (x + 1)) a.kerf b.kerf }
  else a

/-- Swap the banks of the channels or planes of a slot: TARGET becomes ACTIVE (R97). -/
def Scr.swap (b : Scr) (action : Nat) (xs : List Nat) : Scr :=
  { b with active := xs.foldl (fun a x => a.take b.target action x) b.active
           target := xs.foldl (fun a x => a.take b.active action x) b.target }

/-- Copy ACTIVE into TARGET for them. -/
def Scr.sync (b : Scr) (action : Nat) (xs : List Nat) : Scr :=
  { b with target := xs.foldl (fun a x => a.take b.active action x) b.target }

/-- The bank swap of a slot; NOZZLE_GEN and KERF_GEN count swaps (R174, R178). -/
def State.slotSwap (s : State) (n : Nat) : State :=
  let a := s.slotAction n
  let xs := s.slotTargets n
  let s := { s with scr := s.scr.swap a xs }
  let s := xs.foldl (fun s x =>
    if a = 1 then s.wrF (Reg.CH_SCREEN_STATE x) 23 16 (s.rdF (Reg.CH_SCREEN_STATE x) 23 16 + 1)
    else if a = 6 then s.wrF (Reg.PLANE_KERF_GEN x) 7 0 (s.rdF (Reg.PLANE_KERF_GEN x) 7 0 + 1)
    else s) s
  s.setSlotSt n 3

/-- Whether an action moves a bank (R97). -/
def isBankAction (a : Nat) : Bool := a == 1 || a == 2 || a == 3 || a == 6

/-- The last line of the tone ramp of a slot of firmware (R302). -/
def State.toneEnd (s : State) (n : Nat) : State :=
  if s.slotAction n = 2 ∧ 24 ≤ n then
    let last := ladd (s.slot n).startLine ((s.slotRamp n : Int) - 1)
    let m := (s.slotChannels n).foldl (fun m c => smSet (fun _ => none) m c (some last)) s.colour.toneSettle
    { s with colour := { s.colour with toneSettle := m } }
  else s

/-- The end of a slot's ramp: a bank action swaps and reads SYNC, a register action has its final values and
is DONE (R96, R97). -/
def State.slotFinish (s : State) (n : Nat) : State :=
  let a := s.slotAction n
  if isBankAction a then (s.toneEnd n).slotSwap n
  else
    let s := (s.slotTargets n).foldl (fun s x => s.copyShadows (actionKeys a x)) s
    let s := (s.slotPages n).foldl (fun s p => s.pageApplied p) s
    s.slotDone n

/-- A slot acts at the admission of line L (R96, R102): late where L lies past its target. A slot found in
doubt and applied acts with its original target (R348). -/
def State.slotAct (s : State) (n line : Nat) : State :=
  let x := s.slot n
  let start := if x.fromLine.isSome then s.slotTarget n else line
  let s := if x.fromLine.isSome || !x.late && line == s.slotTarget n then s.slotResult n 0
    else (s.slotResult n 0x0107).slotLate n
  let base := (s.slotTargets n).flatMap (fun c => (actionKeys (s.slotAction n) c).map (fun k => (k, s.rd k)))
  let s := s.setSlot n { x with startLine := start, base := base, fromLine := none, late := false }
  if s.slotRamp n = 1 then s.slotFinish n else s.setSlotSt n 2

/-- Whether a slot acts at the admission of line L. -/
def State.slotDue (s : State) (n line : Nat) : Bool :=
  match (s.slot n).fromLine with
  | some l => s.slotSt n == 7 && decide (0 ≤ ldiff line l)
  | none => s.slotSt n == 1 && ((s.slot n).late || decide (0 ≤ ldiff line (s.slotTarget n)))

/-- The taps of a DELAY_TAPS ramp at step k (R98). -/
def rampTaps (active shadow k r : Nat) : Nat :=
  unsgn 32 ((active : Int) + truncDiv (((shadow : Int) - active) * (k + 1)) r)

/-- The DELAY_TAPS values of a ramping slot on line L. -/
def State.slotTaps (s : State) (n line : Nat) : State :=
  if s.slotSt n = 2 ∧ s.slotAction n = 4 then
    let x := s.slot n
    let d := ldiff line x.startLine
    let k := d.toNat
    let r := s.slotRamp n
    x.base.foldl (fun s p => s.wr p.1
      (if d < 0 then p.2 else if k < r then rampTaps p.2 (s.shadowOf p.1) k r else s.shadowOf p.1)) s
  else s

/-- The slots that act at the admission of line L, then the ramps of DELAY_TAPS. -/
def State.applySlots (s : State) (line : Nat) : State :=
  let s := (List.range 32).foldl (fun s n => if s.slotDue n line then s.slotAct n line else s) s
  (List.range 32).foldl (fun s n => s.slotTaps n line) s

/-! ## Arming (R100 to R103) -/

/-- A DELAY_TAPS ramp that would move some channel by more than one tap a line (R98). -/
def State.steepTaps (s : State) (n : Nat) : Bool :=
  (s.slotChannels n).any (fun c =>
    decide (s.slotRamp n < ((s.shadowOf (Reg.CH_DELAY_TAPS c) : Int) - s.rd (Reg.CH_DELAY_TAPS c)).natAbs))

/-- The ramp check (R95, R98, R108). -/
def State.badRamp (s : State) (n : Nat) : Bool :=
  let lg := s.rdF (Reg.APPLY_SLOT_ACTION n) 8 4
  let a := s.slotAction n
  decide (lg > 16) || (lg != 0 && !(a == 1 || a == 2 || a == 4)) || (lg != 0 && a == 4 && s.steepTaps n)

/-- Another live slot has the same action and a channel or plane in common. -/
def State.slotConflict (s : State) (n : Nat) : Bool :=
  (List.range 32).any (fun m => m != n && slotLive (s.slotSt m) && s.slotAction m == s.slotAction n
    && (s.slotTargets n).any (fun x => (s.slotTargets m).contains x))

/-- The first check of R101 that refuses the arm. -/
def State.slotRefusal (s : State) (src : Req) (n : Nat) : Option Nat :=
  let a := s.slotAction n
  if a = 0 ∨ a > 8 then some 0x0101
  else if (s.slotTargets n).isEmpty then some 0x0104
  else if s.badRamp n then some 0x0102
  else if s.slotConflict n then some 0x0103
  else s.armGate src

/-- The bytes of the TARGET regions that a slot names (R346). -/
def State.slotRegion (s : State) (n : Nat) : List Byte :=
  let a := s.slotAction n
  (s.slotTargets n).flatMap (fun x =>
    let words :=
      if a = 1 then (List.range 6144).map (s.scr.target.nozzleAt x)
      else if a = 2 then (List.range 256).map (s.scr.target.toneAt x)
      else if a = 3 then [s.scr.target.dmapAt x]
      else if a = 6 then (List.range 6144).map (fun i => s.scr.target.kerfWord (16 * x) i)
      else (actionKeys a x).map s.shadowOf
    wordBytes words)

/-- The SLOT message of the leader, with the number of the last FORWARD frame (R346). -/
def State.sendSlot (s : State) (n : Nat) : State :=
  s.toPartner 1 0x10 [n, s.slotTarget n, s.rd (Reg.APPLY_SLOT_ACTION n), s.rd (Reg.APPLY_SLOT_MASK0 n),
    s.rd (Reg.APPLY_SLOT_MASK1 n), s.rd (Reg.APPLY_SLOT_MASK2 n), s.rd (Reg.APPLY_SLOT_MASK3 n),
    smGet (fun _ => 0) (s.peerPort 2).txSeq 2, crc32c (s.slotRegion n)]

/-- Reschedule a slot in a pair (R103, R347): the new target is A + GUARD, until RESCHED_MAX. -/
def State.reschedule (s : State) (n source : Nat) : State :=
  let x := s.slot n
  if x.resched ≥ s.reschedMax then s.slotRefuse n 0x000A source
  else
    let s := (s.setSlot n { x with resched := x.resched + 1 }).slotResult n 0x000A
    let s := s.error Reg.pageAPPLY 0x000A (if source = 0 then 0 else Reg.APPLY_SLOT_CTRL n % 0x1000) source
    let s := (s.slotLate n).wr (Reg.APPLY_SLOT_TARGET n) (ladd s.nextLine s.guard)
    (s.setSlotSt n 7).sendSlot n

/-- The pages of a slot show no outcome of an earlier arm (R45, R50). -/
def State.clearOutcome (s : State) (n : Nat) : State :=
  (s.slotPages n).foldl (fun s p => (s.wrB (Reg.SHADOW_CTRL p) 2 false).wrB (Reg.SHADOW_CTRL p) 3 false) s

/-- ARMED as in a standalone module: a target that has passed is marked (R102). -/
def State.slotAlone (s : State) (n : Nat) : State :=
  (s.setSlotSt n 1).setSlot n { s.slot n with late := decide (ldiff (s.slotTarget n) s.nextLine < 0) }

/-- Arm a slot whose checks pass: ARMED; in a pair PENDING_ACK, forwarded once the pair is PAIRED (R103). -/
def State.slotArmed (s : State) (n source : Nat) : State :=
  let s := ((s.setSlot n {}).slotResult n 0).clearOutcome n
  if s.paired then
    if ldiff (s.slotTarget n) s.nextLine < 0 then s.reschedule n source else (s.setSlotSt n 7).sendSlot n
  else if s.cond = 2 then s.setSlotSt n 7
  else s.slotAlone n

/-- A write of SLOTn_CTRL.ARM. -/
def State.armSlot (s : State) (src : Req) (n : Nat) : State :=
  if isHost src && decide (n ≥ 24) then s.errAt Reg.pageAPPLY 0x0105 (Reg.APPLY_SLOT_CTRL n) src
  else if slotLive (s.slotSt n) then s
  else match s.slotRefusal src n with
    | some code => (s.clearOutcome n).slotRefuse n code (srcCode src)
    | none => s.slotArmed n (srcCode src)

/-- SLOT_ARM (R101). -/
def execSlotArm (src : Req) (n : Fin 32) (s : State) : Res :=
  if s.cutOff src then .next s else
  .next (s.armSlot src n.val)

/-- A write of SLOTn_CTRL.CANCEL (R104). -/
def State.cancelSlot (s : State) (src : Req) (n : Nat) : State :=
  let st := s.slotSt n
  let err code := s.errAt Reg.pageAPPLY code (Reg.APPLY_SLOT_CTRL n) src
  if isHost src && decide (n ≥ 24) then err 0x0105
  else match s.writeGate src with
    | some code => err code
    | none =>
      if st = 2 ∨ st = 3 then err 0x0106
      else if st = 1 ∨ st = 7 then
        if s.pairMode && !s.actsAlone && decide (ldiff (s.slotTarget n) s.nextLine < s.guard) then err 0x000A
        else if s.paired then (s.setSlotSt n 6).toPartner 1 0x16 [n]
        else s.setSlotSt n 6
      else s

/-- CANCEL (R104). -/
def execSlotCancel (src : Req) (n : Fin 32) (s : State) : Res :=
  if s.cutOff src then .next s else
  .next (s.cancelSlot src n.val)

/-- SLOT_APPLY: the action of a slot takes force for the next line to be admitted, once that line is its
target or lies past it, while lines are being admitted (R96, R102). -/
def execSlotApply (n : Fin 32) (s : State) : Res :=
  let n := n.val
  if s.runSt = 2 ∧ s.slotDue n s.nextLine then .next ((s.slotAct n s.nextLine).slotTaps n s.nextLine)
  else .next s

/-- RAMP_END: the last line of the ramp has been admitted (R97). -/
def execRampEnd (n : Fin 32) (s : State) : Res :=
  let n := n.val
  if s.slotSt n = 2 ∧ (s.slotRamp n : Int) ≤ ldiff s.nextLine (s.slot n).startLine then
    .next (s.slotFinish n)
  else .next s

/-- BANK_COPY_DONE: ACTIVE has been copied into TARGET, and the slot is DONE (R97). -/
def execBankCopyDone (n : Fin 32) (s : State) : Res :=
  let n := n.val
  if s.slotSt n = 3 then
    .next ({ s with scr := s.scr.sync (s.slotAction n) (s.slotTargets n) }.slotDone n)
  else .next s

end Sys2Proof.Machine
end

