-- ==== Sys2Proof/Machine/Keys.lean ====
section
/-! DEFINITION. The journal records in force (R470), the keys among them (R474), and the message authentication codes under
those keys (R355, R453). -/

namespace Sys2Proof.Machine

/-- NV_STATUS.ACTIVE_HALF. -/
def State.activeHalf (s : State) : Nat := s.rdF Reg.NVS_NV_STATUS 3 3

/-- The records of the active half, and those that wait. -/
def State.records (s : State) : List JournalRecord :=
  s.mgmt.journal.filter (fun r => r.half == s.activeHalf && r.committed) ++ s.mgmt.waiting

/-- The record of a kind and key with the highest SEQ. -/
def newest (l : List JournalRecord) (kind key : Nat) : Option JournalRecord :=
  (l.filter (fun r => r.kind == kind && r.key == key)).foldl (fun m r => match m with
    | none => some r
    | some q => if q.seq ≤ r.seq then some r else some q) none

/-- The KEY of a DELETE record for a record. -/
def deleteKey (kind key : Nat) : Nat := (kind * 65536 + key) % 2 ^ 32

/-- The record in force for a kind and key (R470). -/
def inForce (l : List JournalRecord) (kind key : Nat) : Option JournalRecord :=
  match newest l kind key with
  | none => none
  | some r =>
    match newest l 0x0040 (deleteKey kind key) with
    | some d => if d.seq > r.seq then none else some r
    | none => some r
def State.record (s : State) (kind key : Nat) : Option JournalRecord := inForce s.records kind key

/-- The host key, and the Lookout key, if one is held. -/
def State.hostKey (s : State) : Option (List Byte) := (s.record 0x0030 0).map (·.data)
def State.lookoutKey (s : State) : Option (List Byte) := (s.record 0x0031 0).map (·.data)

/-- Bytes end in the MAC, under a key, of a text; no key makes none right (log 36). -/
def macOk (key : Option (List Byte)) (text mac : List Byte) : Bool :=
  match key with
  | some k => mac == hmac k text
  | none => false

/-- The MAC of a text under a key; without one, 32 free bytes (log 36). -/
def State.macOf (s : State) (key : Option (List Byte)) (text : List Byte) : State × List Byte :=
  match key with
  | some k => (s, hmac k text)
  | none => (List.range 8).foldl (fun (m : State × List Byte) _ => (m.1.drew, m.2 ++ leBytes 4 m.1.free)) (s, [])

end Sys2Proof.Machine
end

