-- ==== Sys2Proof/Machine/Lookout.lean ====
section
/-! DEFINITION. Lookout messages and the partner's messages on the network path: the payload, how one is built and sent
(R355), and what one received must meet (R356). -/

namespace Sys2Proof

/-- n bytes of the payload from byte i, little-endian. -/
def LookoutMsg.field (m : LookoutMsg) (i n : Nat) : Nat := Machine.leValue ((m.bytes.drop i).take n)

def LookoutMsg.version (m : LookoutMsg) : Nat := m.field 0 1
def LookoutMsg.type (m : LookoutMsg) : Nat := m.field 1 1
def LookoutMsg.slot (m : LookoutMsg) : Nat := m.field 2 1 % 2
def LookoutMsg.role (m : LookoutMsg) : Nat := m.field 3 1 % 4
def LookoutMsg.disposition (m : LookoutMsg) : Nat := m.field 3 1 / 4 % 4
def LookoutMsg.partnerState (m : LookoutMsg) : Nat := m.field 3 1 / 16 % 4
def LookoutMsg.pairId (m : LookoutMsg) : Nat := m.field 4 4
def LookoutMsg.serial (m : LookoutMsg) : Nat := m.field 8 8
def LookoutMsg.epoch (m : LookoutMsg) : Nat := m.field 16 4
def LookoutMsg.seq (m : LookoutMsg) : Nat := m.field 20 4
def LookoutMsg.time (m : LookoutMsg) : Nat := m.field 24 8
def LookoutMsg.leaseMs (m : LookoutMsg) : Nat := m.field 32 2
def LookoutMsg.reason (m : LookoutMsg) : Nat := m.field 34 2
def LookoutMsg.arg (m : LookoutMsg) : Nat := m.field 36 4

/-- A message of this VERSION and of a TYPE. One of another type is not the message that a command presents (log 36). -/
def LookoutMsg.isType (m : LookoutMsg) (type : Nat) : Bool := m.version == 1 && m.type == type

/-- The bytes of a message that its MAC covers. -/
def LookoutMsg.covered (m : LookoutMsg) : Nat := if m.type = 0x11 then 56 else 40

namespace Machine

/-- Bytes 0 to 39 of a message of this module. DISPOSITION, PARTNER_STATE and LEASE_MS are fields of the Lookout's own
messages, and zero here. -/
def lookoutBytes (type slot role pairId serial epoch seq time reason arg : Nat) : List Byte :=
  leBytes 4 (0x01 + type % 256 * 2 ^ 8 + slot % 2 * 2 ^ 16 + role % 4 * 2 ^ 24) ++ leBytes 4 pairId ++ leBytes 8 serial
    ++ leBytes 4 epoch ++ leBytes 4 seq ++ leBytes 8 time ++ leBytes 2 0 ++ leBytes 2 reason ++ leBytes 4 arg

/-- A MAC address held in two registers, [47:32] in the low half of the second. -/
def State.mac (s : State) (lo hi : Nat) : Nat := s.rd lo + s.rdF hi 15 0 * 2 ^ 32

def State.pairSlot (s : State) : Nat := s.rdF Reg.PAIR_PAIR_CFG 0 0

/-- Send a message of a TYPE to the MAC address that two registers hold, with `rest` between byte 39 and its MAC. -/
def State.sendMessage (s : State) (lo hi type reason arg : Nat) (rest : List Byte) : State :=
  let s := { s with pair := { s.pair with seq := (s.pair.seq + 1) % 2 ^ 32 } }
  let msg := lookoutBytes type s.pairSlot s.role (s.rd Reg.PAIR_PAIR_ID) (s.rd64 Reg.SYS_SERIAL_LO Reg.SYS_SERIAL_HI)
    (s.rd Reg.PAIR_EPOCH) s.pair.seq s.nowNs reason arg ++ rest
  let m := s.macOf s.lookoutKey msg
  m.1.prpSend (s.rdF Reg.PAIR_LOOKOUT_MAC_HI 31 16) (s.mac lo hi :: (msg ++ m.2).map BitVec.toNat)

/-- The checks of R356 on a message of the Lookout, or of the partner. -/
def State.lookoutOk (s : State) (m : LookoutMsg) (last : Option Nat) : Bool :=
  macOk s.lookoutKey (m.bytes.take m.covered) (m.bytes.drop m.covered) && m.pairId == s.rd Reg.PAIR_PAIR_ID &&
    decide (((m.time : Int) - s.nowNs).natAbs ≤ 1000000000) &&
    match last with
    | some n => decide (0 < sdiff 32 m.seq n)
    | none => true

/-- A message that fails them. -/
def State.lookoutBad (s : State) : State :=
  ((s.countF Reg.PAIR_LOOKOUT_COUNT 15 0).intSet Reg.pagePAIR 12).tally 0x0063 0x6B 0 1 0

/-- The 16 bytes of a tile digest record in a DIGEST message, laid out as DIGEST_LAST is (log 99). -/
def digestRecord (plane row col crc : Nat) : List Byte :=
  leBytes 4 (plane + col * 2 ^ 8) ++ leBytes 4 row ++ leBytes 4 crc ++ leBytes 4 0

end Machine

end Sys2Proof
end

