-- ==== Sys2Proof/Machine/Job.lean ====
section
/-! DEFINITION. Tiles, the mapping of image lines, the stream ring and tile digests (R110 to R124, R138 to
R145). -/

namespace Sys2Proof.Machine

/-! ## Tiles (R112, R113) -/

def tileBytes : Nat := 131072

/-- The identity of a tile: plane, tile row (or stream row) and column. -/
def tileKey (plane row col : Nat) : Nat := (plane * 2 ^ 32 + row) * 64 + col

/-- TILE_COLS, TILE_REGION and SEAL_REGION of a plane source; CONTENT = DROP_CODE (R150). -/
def State.tileCols (s : State) (p : Nat) : Nat := s.rdF (Reg.JOB_PSRC p) 13 8
def State.tileRegion (s : State) (p : Nat) : Nat := s.rdF (Reg.JOB_PSRC p) 21 16
def State.sealRegion (s : State) (p : Nat) : Nat := s.rdF (Reg.JOB_PSRC p) 29 24
def State.dropCode (s : State) (p : Nat) : Bool := s.bit (Reg.JOB_PSRC p) 0
def State.planeEn (s : State) (p : Nat) : Bool := s.bit Reg.JOB_JOB_CFG (8 + p)
def State.enabledPlanes (s : State) : List Nat := planes.filter s.planeEn
def State.streaming (s : State) : Bool := s.bit Reg.JOB_JOB_CFG 0
def State.streamRows (s : State) : Nat := s.rdF Reg.JOB_STREAM_ROWS 23 0

/-- The row of the tile region that holds a tile row: in stream mode the ring row (R121). -/
def State.regionRow (s : State) (row : Nat) : Nat := if s.streaming then row % atLeast1 s.streamRows else row

/-- The addresses of a tile and of its seal block. -/
def State.tileAddr (s : State) (p row col : Nat) : Nat :=
  s.rd (Reg.YARD_REG_BASE (s.tileRegion p)) * 4096 + (s.regionRow row * s.tileCols p + col) * tileBytes
def State.sealAddr (s : State) (p row col : Nat) : Nat :=
  s.rd (Reg.YARD_REG_BASE (s.sealRegion p)) * 4096 + (s.regionRow row * s.tileCols p + col) * 256

/-- A tile and its seal block lie in the plane's regions, which are of their KINDs. -/
def State.located (s : State) (p row col : Nat) : Bool :=
  s.regKind (s.tileRegion p) == 1 && s.regKind (s.sealRegion p) == 2
    && s.inRegion (s.tileRegion p) (s.tileAddr p row col) tileBytes
    && s.inRegion (s.sealRegion p) (s.sealAddr p row col) 256

/-- The plane, the row and the column that `tileKey` joins. -/
def keyPlane (k : Nat) : Nat := k / 64 / 2 ^ 32
def keyRow (k : Nat) : Nat := k / 64 % 2 ^ 32
def keyCol (k : Nat) : Nat := k % 64

/-- Where a tile and its seal block lie. -/
def State.keyAddr (s : State) (k : Nat) : Nat := s.tileAddr (keyPlane k) (keyRow k) (keyCol k)
def State.keySeal (s : State) (k : Nat) : Nat := s.sealAddr (keyPlane k) (keyRow k) (keyCol k)

/-- The digest of a valid tile; none for an invalid one (R138, R141). The mark at its address must name its seal block,
and in a stream its row: a ring row is used again for later rows (R121). -/
def State.tileDigest (s : State) (k : Nat) : Option Nat :=
  match smGet (fun _ => none) s.job.valid (s.keyAddr k) with
  | some m => if m.block = s.keySeal k ∧ (s.streaming = false ∨ keyRow m.key = keyRow k) then some m.digest else none
  | none => none
def State.tileValid (s : State) (p row col : Nat) : Bool := (s.tileDigest (tileKey p row col)).isSome
def State.setTile (s : State) (k : Nat) (d : Option Nat) : State :=
  { s with job := { s.job with
    valid := smSet (fun _ => none) s.job.valid (s.keyAddr k)
      (d.map (fun x => { key := k, block := s.keySeal k, digest := x })) } }
def State.partnerDigest (s : State) (k : Nat) : Option Nat := smGet (fun _ => none) s.job.partner k

/-- AGREED: both digests present and equal (R141). -/
def State.tileAgreed (s : State) (k : Nat) : Bool :=
  match s.tileDigest k, s.partnerDigest k with
  | some a, some b => a == b
  | _, _ => false

/-- The tiles of one tile row of every enabled plane. -/
def State.rowTiles (s : State) (row : Nat) : List Nat :=
  s.enabledPlanes.flatMap (fun p => (List.range (s.tileCols p)).map (fun k => tileKey p row k))

/-- The tile rows of a repeat (R118). -/
def State.repRows (s : State) (r : Nat) : List Nat :=
  (List.range ((s.repLength r + 63) / 64)).map (fun i => s.rd (Reg.JOB_REP_ROW r) + i)

/-- REP_VALID and REP_AGREED of a repeat (R139, R141, R145). -/
def State.repValid (s : State) (r : Nat) : Bool :=
  s.repLength r != 0 && (s.repRows r).all (fun row => (s.rowTiles row).all (fun k => (s.tileDigest k).isSome))
def State.repAgreed (s : State) (r : Nat) : Bool :=
  if s.cond = 6 then s.repValid r
  else s.repLength r != 0 && (s.repRows r).all (fun row => (s.rowTiles row).all s.tileAgreed)

/-- A repeat is defined and its rows lie in every enabled plane's regions (R118, R150). -/
def State.repLocated (s : State) (r : Nat) : Bool :=
  s.repLength r != 0 && s.enabledPlanes.all (fun p => s.tileCols p != 0 &&
    (s.repRows r).all (fun row => s.located p row (s.tileCols p - 1)))

/-- MAIN_REP. -/
def State.mainRep (s : State) : Nat := s.rdF Reg.JOB_JOB_CFG 19 16

/-! ## The stream ring (R121, R122) -/

def State.rowComplete (s : State) (row : Nat) : Bool := (s.rowTiles row).all (fun k => (s.tileDigest k).isSome)

/-- STREAM_WRITE_ROW moves over every complete row. -/
def State.advanceWrite (s : State) : Nat → State
  | 0 => s
  | n + 1 =>
    let k := s.rd Reg.JOB_STREAM_WRITE_ROW
    if s.rowComplete k then (s.wr Reg.JOB_STREAM_WRITE_ROW (k + 1)).advanceWrite n else s

/-- STREAM_CREDITS. -/
def State.credits (s : State) : Nat :=
  s.streamRows + s.rd Reg.JOB_STREAM_RELEASE_ROW - s.rd Reg.JOB_STREAM_WRITE_ROW

/-- INT_STATUS.CREDIT while credits reach the threshold; 0 disables it (R149). -/
def State.showCredits (s : State) : State :=
  let th := s.rdF Reg.JOB_CREDIT_THRESHOLD 23 0
  let s := s.wr Reg.JOB_STREAM_CREDITS s.credits
  let s := if s.credits = 0 then { s with job := { s.job with creditsHeld := false } } else s
  if th ≠ 0 ∧ s.credits ≥ th then s.intSet Reg.pageJOB 8 else s

/-- The first row still needed when the next line to be admitted is A (R121). -/
def State.releaseRow (s : State) : Nat :=
  (ldiff s.nextLine (ladd (s.rd Reg.JOB_JOB_START) (s.rd Reg.JOB_MAX_OFFSET))).toNat / s.ys / 64

/-- A change of the ring, of the planes or of a tile's validity: both rows are found anew (R121). -/
def State.rescanRows (s : State) : State :=
  if s.streaming then
    let k := s.releaseRow
    (((s.wr Reg.JOB_STREAM_RELEASE_ROW k).wr Reg.JOB_STREAM_WRITE_ROW k).advanceWrite s.streamRows).showCredits
  else s.showCredits

/-- STREAM_RELEASE_ROW follows A (R121). -/
def State.releaseRows (s : State) : State :=
  let k := s.releaseRow
  let r := s.rd Reg.JOB_STREAM_RELEASE_ROW
  if !s.streaming || k = r then s
  else if r < k then (s.wr Reg.JOB_STREAM_RELEASE_ROW k).showCredits
  else s.rescanRows

/-- JOB_END in force: of a stream whose LAST descriptor has completed where END_EN is 0 (R122). None: the
job has no end. -/
def State.jobEnd (s : State) : Option Nat :=
  if s.bit Reg.JOB_JOB_CFG 1 then some (s.rd Reg.JOB_JOB_END)
  else if s.streaming && s.rd Reg.JOB_STREAM_LAST_ROW != 0xFFFFFFFF then
    some (ladd (s.rd Reg.JOB_JOB_START) (64 * s.ys * (s.rd Reg.JOB_STREAM_LAST_ROW + 1)))
  else none

/-! ## From image line to stored line (R116 to R120) -/

/-- Whether an image line is blank (R116). -/
def State.blankLine (s : State) (i : Nat) : Bool :=
  decide (ldiff i (s.rd Reg.JOB_JOB_START) < 0) ||
    match s.jobEnd with
    | some e => decide (0 ≤ ldiff i e)
    | none => false

/-- The newest splice record that the line has reached (R120). -/
def State.spliceAt (s : State) (i : Nat) : Option Splice := s.splices.find? (fun r => decide (0 ≤ ldiff i r.start))

/-- The stored line of a repeat at a distance from its start: ys print lines each, modulo LENGTH; div rounds down. -/
def State.repeatAt (s : State) (rep : Nat) (d : Int) : Nat × Nat :=
  (rep, ((d.fdiv s.ys).emod (atLeast1 (s.repLength rep))).toNat)

/-- The repeat and the stored line within it that an image line shows (R120). -/
def State.repeatLine (s : State) (i : Nat) : Nat × Nat :=
  match s.spliceAt i with
  | none => s.repeatAt s.mainRep (ldiff i (s.rd Reg.JOB_JOB_START))
  | some r =>
    if ldiff i r.start < r.span then s.repeatAt r.rep (ldiff i r.start) else s.repeatAt s.mainRep (ldiff i r.z)

/-- The tile row and the line within it that an image line shows. -/
def State.storedLine (s : State) (i : Nat) : Nat × Nat :=
  if s.streaming then
    let n := (ldiff i (s.rd Reg.JOB_JOB_START)).toNat / s.ys
    (n / 64, n % 64)
  else
    let p := s.repeatLine i
    (s.rd (Reg.JOB_REP_ROW p.1) + p.2 / 64, p.2 % 64)

/-- The image line that channel c prints at line N (R92). -/
def State.imageLine (s : State) (c line : Nat) : Nat := ladd line (-(s.rdF (Reg.CH_LINE_OFFSET c) 17 0 : Int))

/-- The largest LINE_OFFSET among the channels of the enabled planes (R117). -/
def State.maxOffset (s : State) : Nat :=
  (s.enabledPlanes.flatMap planeChannels).foldl (fun m c => max m (s.rdF (Reg.CH_LINE_OFFSET c) 17 0)) 0
def State.minOffset (s : State) : Nat :=
  (s.enabledPlanes.flatMap planeChannels).foldl (fun m c => min m (s.rdF (Reg.CH_LINE_OFFSET c) 17 0)) (2 ^ 18)

/-- A record is retired once every channel's next image line has reached the S of a newer one (R120). -/
def retireSplices (next : Nat) : List Splice → List Splice
  | [] => []
  | r :: rs => if 0 ≤ ldiff next r.start then [r] else r :: retireSplices next rs

/-- The image line that the last channel reaches next. -/
def State.lastImage (s : State) : Nat := ladd s.nextLine (-(s.rd Reg.JOB_MAX_OFFSET : Int))

/-- Retire records; one that ends just where a newer one starts still has its SPLICE_END to come. -/
def State.retire (s : State) : State :=
  let kept := retireSplices s.lastImage s.splices
  let gone := s.splices.filter (fun r => !kept.contains r)
  { s with
    splices := kept
    job := { s.job with spliceEnd := gone.any (fun r => ladd r.start r.span == s.lastImage) } }

/-- At the admission of line N: TICK(N) sets SPLICE_START where the first channel's image line reaches S there, and
SPLICE_END where the last channel's reaches S + span (R92, R150). -/
def State.spliceEdges (s : State) (line : Nat) : State :=
  let starts := s.splices.any (fun r => ladd line (-(s.minOffset : Int)) == r.start)
  let ends := s.splices.any (fun r => ladd line (-(s.rd Reg.JOB_MAX_OFFSET : Int)) == ladd r.start r.span)
  { s with job := { s.job with
    edges := s.job.edges ++ (if starts then [(line, 12)] else [])
      ++ (if s.job.spliceEnd || ends then [(line, 13)] else []) } }

/-- What TICK(N) shows of splices. -/
def State.showEdges (s : State) (line : Nat) : State :=
  let now := s.job.edges.filter (fun e => e.1 == line)
  let s := { s with job := { s.job with edges := s.job.edges.filter (fun e => e.1 != line) } }
  now.foldl (fun s e => s.intSet Reg.pageJOB e.2) s

/-! ## What a channel reads of a stored line (R157, R158, R164) -/

/-- The nozzles of a head, and the columns of a module. -/
def headNozzles : Nat := 6144
def headPitch : Nat := 5952
def moduleCols : Nat := 95424

/-- COL_SHIFT. -/
def State.shift (s : State) (c : Nat) : Int := sgn 8 (s.rdF (Reg.CH_COL_SHIFT c) 7 0)

/-- Columns per stored pixel. -/
def State.xs (s : State) : Nat := s.rdF Reg.JOB_JOB_CFG 4 4 + 1

/-- The tile row, the tile line and the tile columns that channel c reads for image line i (R164). -/
def State.tileReads (s : State) (c i : Nat) : List (Nat × Nat × Nat) :=
  let (row, l) := s.storedLine i
  let y0 : Int := (c % 16 * headPitch : Nat) + s.shift c - 2
  let lo := (clampI 0 (moduleCols - 1 : Nat) y0).toNat / s.xs / 2048
  let hi := (clampI 0 (moduleCols - 1 : Nat) (y0 + (headNozzles + 3 : Nat))).toNat / s.xs / 2048
  ((List.range (hi + 1)).filter (fun k => decide (lo ≤ k))).map (fun k => (row, l, k))

/-! ## Digests in a pair (R141 to R145) -/

/-- Send the digest record of a tile over PEER_P, or over the network path while PEER_P is down (R141): a DIGEST message to
the partner, whose ARG is the tile's place in its plane (R355, log 99). -/
def State.sendDigest (s : State) (p row col d : Nat) : State :=
  if !s.pairMode || s.pair.lost then s
  else if s.stCode (Reg.pagePEER 2) = 4 || s.stCode (Reg.pagePEER 2) = 5 then s.toPartner 3 0x01 [p, row, col, d]
  else s.sendMessage Reg.PAIR_PARTNER_MAC_LO Reg.PAIR_PARTNER_MAC_HI 0x11 0 ((row * 64 + col) % 2 ^ 32)
    (digestRecord p row col d)

/-- A tile of the stream has become invalid: its row is complete no more (R121). -/
def State.rowsLose (s : State) : State := if s.streaming then s.rescanRows else s

/-- A comparison of digests that fails makes the tile invalid (R144); after a declared loss none is made (R145). -/
def State.compareDigest (s : State) (p row col : Nat) : State :=
  let k := tileKey p row col
  match s.tileDigest k, s.partnerDigest k with
  | some a, some b =>
    if a = b ∨ s.pair.lost then s
    else
      let s := (s.setTile k none).count Reg.JOB_DIGEST_MISMATCH_COUNT
      let s := (s.wr Reg.JOB_DIGEST_LAST (p + col * 2 ^ 8)).wr Reg.JOB_DIGEST_LAST_ROW row
      let s := { s with job := { s.job with partner := smSet (fun _ => none) s.job.partner k none } }
      (s.intSet Reg.pageJOB 10).rowsLose
  | _, _ => s

/-- A tile becomes valid (R138): its digest is recorded, sent and compared. -/
def State.tileBecomesValid (s : State) (p row col : Nat) : State :=
  let d := crc32c (s.memBytes (s.sealAddr p row col) 256)
  let s := s.setTile (tileKey p row col) (some d)
  let s := (s.sendDigest p row col d).compareDigest p row col
  if s.streaming then (s.advanceWrite (atLeast1 s.streamRows)).showCredits else s

/-- The partner's digest of a tile is held and compared; ignored after a declared loss (R145). -/
def State.takeDigest (s : State) (p row col crc : Nat) : State :=
  if s.pair.lost then s
  else { s with job := { s.job with
    partner := smSet (fun _ => none) s.job.partner (tileKey p row col) (some crc) } }.compareDigest p row col

/-- TILE_DIGEST_RECORD: a digest record from the partner (R141); one of the network path meets the checks of R356. -/
def execTileDigestRecord (record : DigestRec) (s : State) : Res :=
  if !s.pairMode then .next s
  else match record with
    | .peer plane row col crc => .next (s.takeDigest plane.val row col crc)
    | .net m =>
      if !m.isType 0x11 then .next s
      else if !s.lookoutOk m s.pair.partnerSeq then .next s.lookoutBad
      else
        let s := { s with pair := { s.pair with partnerSeq := some m.seq } }
        if 8 ≤ m.field 40 1 then .next s
        else .next (s.takeDigest (m.field 40 1) (m.field 44 4) (m.field 41 1 % 64) (m.field 48 4))

/-- On entry to SYNC every AGREED mark is cleared and every valid tile's record is sent again (R145). -/
def State.resendDigests (s : State) : State :=
  let tiles := s.job.valid
  let s := { s with job := { s.job with partner := [] } }
  tiles.foldl (fun s e => match e.2 with
    | some m => s.sendDigest (keyPlane m.key) (keyRow m.key) (keyCol m.key) m.digest
    | none => s) s

/-- Tiles that an admitted line uses, each judged at the first such line: without the partner's digest it is counted
(R143); after a declared loss no digest is awaited (R145). -/
def State.judgeTiles (s : State) (ks : List Nat) : State :=
  if !s.pairMode || s.pair.lost then s
  else
    let new := ks.filter (fun k => !s.job.judged.contains k)
    let n := (new.filter (fun k => (s.partnerDigest k).isNone)).length
    let kept := s.job.judged.filter (fun k => decide (s.rd Reg.JOB_STREAM_RELEASE_ROW ≤ keyRow k))
    let s := { s with job := { s.job with judged := kept ++ new } }
    if n = 0 then s
    else (s.wr Reg.JOB_DIGEST_LATE_COUNT (satAdd 32 (s.rd Reg.JOB_DIGEST_LATE_COUNT) n)).intSet Reg.pageJOB 11

/-! ## What the arm of a run asks of the job -/

/-- The first condition of R124 that refuses the arm of a stream run. -/
def State.ringRefusal (s : State) : Option Nat :=
  if s.streamRows ≠ 0 ∧ s.enabledPlanes.any (fun p => !s.located p (s.streamRows - 1) (s.tileCols p - 1)) then some 0x0102
  else if s.streamRows < (s.maxOffset + 64 * s.ys - 1) / (64 * s.ys) + 2 then some 0x0106
  else if (List.range (atLeast1 (s.rdF Reg.JOB_JOB_CFG 27 24))).all s.rowComplete then none
  else some 0x0107

/-- The first condition on the job that refuses a run arm (R115, R118, R124, R139, R142, R150). A TILE_COLS above 47
refuses as 0 does, and the checks run in the order TILE_COLS, scale, rows, ring, readiness (log 93). -/
def State.jobRefusal (s : State) : Option Nat :=
  let ps := s.enabledPlanes
  let scaled := s.bit Reg.JOB_JOB_CFG 4 || s.bit Reg.JOB_JOB_CFG 5
  if ps.any (fun p => s.tileCols p == 0 || decide (s.tileCols p > 47)) then some 0x0102
  else if ps.any (fun p => s.dropCode p && scaled) then some 0x0108
  else if s.streaming then s.ringRefusal
  else if !s.repLocated s.mainRep then some 0x0102
  else if !s.repValid s.mainRep || (s.pairMode && !s.repAgreed s.mainRep) then some 0x0107
  else none

/-- The checks of a splice arm against the line S at which it would take force (R119), on the shadows. -/
def State.spliceRefusal (s : State) (at_ : Nat) : Option Nat :=
  let rep := fld (s.shadowOf Reg.JOB_SPLICE_REP) 3 0
  let count := fld (s.shadowOf Reg.JOB_SPLICE_COUNT) 15 0
  let span := s.spliceSpan rep count
  if s.streaming then some 0x0105
  else if !s.repLocated rep then some 0x0102
  else if !s.repValid rep || (s.pairMode && !s.repAgreed rep) then some 0x0107
  else if decide (count = 0) || decide (span ≥ 2 ^ 31) || (s.splices.take 1).any (fun r =>
      decide (ldiff at_ (ladd r.start r.span) < 0)) then some 0x0103
  else if s.splices.length ≥ 4 then some 0x0104
  else none

end Sys2Proof.Machine
end

