-- ==== Sys2Proof/Machine/Digest.lean ====
section
/-! DEFINITION. The parts of the tables, and the self-test of a pair (R365): the digests of channels and planes at an
agreed admission line, their exchange and comparison. -/

namespace Sys2Proof.Machine

/-- The words of the part of a bank that a table (0 nozzle, 1 tone, 2 drop map, 3 kerf) holds for a channel or
plane, and the key of its first entry. -/
def Bank.part (b : Bank) (t x : Nat) : Nat × List Nat :=
  if t = 0 then (nozzleLo x, (List.range 6144).map (b.nozzleAt x))
  else if t = 1 then (toneLo x, (List.range 256).map (b.toneAt x))
  else if t = 2 then (x, [b.dmapAt x])
  else (kerfLo x, (List.range 6144).map (b.kerfWord (16 * x)))

/-- The threshold values of a plane. -/
def State.thrPart (s : State) (p : Nat) : Nat × List Nat :=
  (p * 65536, (List.range 65536).map (fun i => smGet zeroReset s.scr.thr (p * 65536 + i)))

/-- The bytes that a digest covers: of channel x, or of plane x - 128. -/
def State.digestBytes (s : State) (x : Nat) : List Byte :=
  let page := if x < 128 then Reg.pageCH x else Reg.pagePLANE (x - 128)
  let words := if x < 128 then
      ([1, 0, 2] : List Nat).flatMap (fun t => (s.scr.active.part t x).2) ++ [s.rd (Reg.CH_LINE_OFFSET x)]
    else (s.thrPart (x - 128)).2 ++ (s.scr.active.part 3 (x - 128)).2
  wordBytes (words ++ (rwsKeys page).map s.rd)
def State.digest (s : State) (x : Nat) : Nat := crc32c (s.digestBytes x)

/-- The channels of a digest. -/
def digestChans (x : Nat) : List Nat := if x < 128 then [x] else planeChannels (x - 128)

/-- A slot in RAMPING or SYNC acts on it. -/
def State.digestSkipped (s : State) (x : Nat) : Bool :=
  (List.range 32).any (fun n => (s.slotSt n == 2 || s.slotSt n == 3) &&
    (if x < 128 then !onPlanes (s.slotAction n) && (s.slotTargets n).contains x
      else onPlanes (s.slotAction n) && (s.slotTargets n).contains (x - 128)))

/-- What differs is to be repaired, and counted. -/
def State.compareDigests (s : State) (own theirs : List (Nat × Nat)) : State :=
  let bad := (own.filter (fun d => theirs.any (fun e => e.1 == d.1 && e.2 != d.2))).map (·.1)
  let s := bad.foldl (fun s _ => (s.count Reg.PAIR_DIGEST_FAIL).intSet Reg.pagePAIR 13) s
  let s := { s with pair := { s.pair with
    repair := s.pair.repair ++ bad.filter (fun x => !s.pair.repair.contains x) } }
  if s.pair.dupRise then
    let s := { s with pair := { s.pair with dupRise := false } }
    if bad.isEmpty then (s.count Reg.PAIR_DUP_UNEXPLAINED).intSet Reg.pagePAIR 16 else s
  else s

/-- The digests of both modules for one line are compared once both are there. -/
def State.meetDigests (s : State) : State :=
  match s.pair.digests, s.pair.theirs with
  | some (a, own), some (b, theirs) =>
    if a = b then
      { s with pair := { s.pair with digests := none, theirs := none } }.compareDigests own theirs
    else s
  | _, _ => s

/-- The digests of this module are taken for a line, and go to the partner. -/
def State.sendDigests (s : State) (line : Nat) : State :=
  let own := ((List.range 136).filter (fun x => !s.digestSkipped x)).map (fun x => (x, s.digest x))
  let s := { s with pair := { s.pair with digestAt := none, digests := some (line, own) } }
  (s.toPartner 3 0x02 (line :: own.flatMap (fun d => [d.1, d.2]))).meetDigests

/-- The partner's digests come. -/
def State.takeDigests (s : State) (line : Nat) (theirs : List (Nat × Nat)) : State :=
  if s.paired then { s with pair := { s.pair with theirs := some (line, theirs) } }.meetDigests else s

/-- The admission of an agreed line takes the digests. -/
def State.digestDue (s : State) (line : Nat) : State :=
  if s.paired && s.pair.digestAt == some line then s.sendDigests line else s

/-- The line of a check: one still to be admitted, or outside a run the digests are taken at once. -/
def State.agreeDigest (s : State) (inRun : Bool) (line : Nat) : State :=
  if !s.paired then s
  else if !inRun || s.runSt != 2 then s.sendDigests line
  else { s with pair := { s.pair with digestAt := some line } }

/-- A check begins: the leader sets its line, A + GUARD in a run, and tells the follower, which asks for one (log 99). -/
def State.startDigest (s : State) : State :=
  if !s.paired then s
  else if !s.leads then s.toPartner 1 0x45 []
  else
    let inRun := s.runSt == 2
    let line := if inRun then ladd s.nextLine s.guard else s.nextLine
    (s.toPartner 1 0x44 [b2n inRun, line]).agreeDigest inRun line

end Sys2Proof.Machine
end

