-- ==== Sys2Proof/Machine/Timers.lean ====
section
/-! DEFINITION. The TIO timers (R398 to R400): the instant of the next event. Arming and the capture plans stand in
Machine/Arming.lean; what an event does in Machine/Tio.lean, since it reaches the cameras and the line engine.
Timer states: 0 IDLE, 1 ARMED, 2 RUNNING, 3 DONE. -/

namespace Sys2Proof.Machine

/-- The FRC count nearest to a module time in 2^-16 ns, under the model in force (R393). -/
def State.frcOfTime (s : State) (t16 : Nat) : Nat :=
  let d := sdiff 80 t16 s.offset16
  unsgn 64 ((s.frcRef : Int) + (2 * d * (2 ^ 40 : Nat) + s.rate) / (2 * (atLeast1 s.rate : Int)))

def State.timer (s : State) (n : Nat) : Timer := smGet (fun _ => {}) s.tio.timers n
def State.setTimer (s : State) (n : Nat) (x : Timer) : State :=
  { s with tio := { s.tio with timers := smSet (fun _ => {}) s.tio.timers n x } }
def State.timerSt (s : State) (n : Nat) : Nat := s.rdF (Reg.TIO_T_STATUS n) 1 0
def State.setTimerSt (s : State) (n v : Nat) : State := s.wrF (Reg.TIO_T_STATUS n) 1 0 v
def State.timerMode (s : State) (n : Nat) : Nat := s.rdF (Reg.TIO_T_CFG n) 2 0
def State.timerNs (s : State) (n : Nat) : Bool := s.bit (Reg.TIO_T_CFG n) 10

/-- ARMED or RUNNING (R401). -/
def State.timerLive (s : State) (n : Nat) : Bool := s.timerSt n == 1 || s.timerSt n == 2

/-- PERIOD in 1/65,536 clock, and the pulse width in clocks. -/
def State.timerPeriod16 (s : State) (n : Nat) : Nat :=
  s.rd (Reg.TIO_T_PERIOD n) * 65536 + s.rdF (Reg.TIO_T_PERIOD_FRAC n) 15 0
def State.timerWidth (s : State) (n : Nat) : Nat := atLeast1 (s.rdF (Reg.TIO_T_WIDTH n) 23 0)

/-- The FRC value that TARGET names: the signed 48-bit difference from FRC[47:0] (R399). -/
def State.timerTarget (s : State) (n : Nat) : Int :=
  (s.frc : Int) + sdiff 48 (s.rd (Reg.TIO_T_TARGET_LO n) + s.rdF (Reg.TIO_T_TARGET_HI n) 15 0 * 2 ^ 32) s.frc

/-- Show the plan depth (R408). -/
def State.showPlan (s : State) (n : Nat) : State :=
  s.wrF (Reg.TIO_T_STATUS n) 20 16 (s.timer n).plan.length

/-- Show the next event in NEXT. -/
def State.showNext (s : State) (n : Nat) : State :=
  let x := s.timer n
  if s.timerMode n ≥ 3 then (s.wr (Reg.TIO_T_NEXT_LO n) x.line).wr (Reg.TIO_T_NEXT_HI n) 0
  else
    let f := match x.first with
      | some t => s.frcOfTime (t + x.index * s.rd (Reg.TIO_T_PERIOD n) * 65536)
      | none => x.next / 65536
    (s.wr (Reg.TIO_T_NEXT_LO n) (f % 2 ^ 32)).wr (Reg.TIO_T_NEXT_HI n) (f / 2 ^ 32 % 2 ^ 16)

/-- The FRC value at which a line was ticked, as far as the last 2^24 clocks hold it. -/
def State.tickOf (s : State) (line : Nat) : Option Nat :=
  (s.tio.ticks.find? (fun p => p.1 == line)).map (·.2)

/-- The event at the tick of a line plus LINE_DELAY: its instant once the line has been ticked. -/
def State.lineEvent (s : State) (n line : Nat) : Option Nat :=
  (s.tickOf line).map (· + s.rdF (Reg.TIO_T_LINE_DELAY n) 23 0)

/-- The line has been ticked and LINE_DELAY has elapsed since (R400). -/
def State.linePast (s : State) (n line : Nat) : Bool :=
  s.printing && decide (0 ≤ ldiff (s.rd Reg.LINE_CURRENT_LINE) line) &&
    match s.lineEvent n line with
    | some f => decide (f ≤ s.frc)
    | none => true

/-- The newest line whose tick LINE_DELAY clocks ago or more the timer has passed; before the ticks that are kept, all are. -/
def State.lastElapsed (s : State) (n : Nat) : Nat :=
  match s.tio.ticks.find? (fun e => decide (e.2 + s.rdF (Reg.TIO_T_LINE_DELAY n) 23 0 ≤ s.frc)), s.tio.ticks.getLast? with
  | some e, _ => e.1
  | none, some e => ladd e.1 (-1)
  | none, none => s.rd Reg.LINE_CURRENT_LINE

/-- The instant of the timer's next event, where it is known. -/
def State.timerDue (s : State) (n : Nat) : Option Nat :=
  let x := s.timer n
  if !s.timerLive n then none
  else match x.fire with
    | some f => some f
    | none =>
      if s.timerMode n = 0 then none
      else if s.timerMode n ≥ 3 then s.lineEvent n x.line
      else match x.first with
        | some t => some (s.frcOfTime (t + x.index * s.rd (Reg.TIO_T_PERIOD n) * 65536))
        | none => some (x.next / 65536)

/-- The Scaler's next event on the timer (R286). -/
def State.stripDue (s : State) (n : Nat) : Option Nat :=
  match (s.timer n).strips with
  | [] => none
  | l :: _ => s.lineEvent n l

end Sys2Proof.Machine
end

