-- ==== Sys2Proof/Machine/Masks.lean ====
section
/-! DEFINITION. The exposure masks of the camera ports and the lamp pulses that they cut (R320, R322), and the strip
triggers that yield no result (R287). -/

namespace Sys2Proof.Machine

/-! ## Exposure masks (R320, R322) -/

/-- CHi_CFG of channel c, and its MODE. -/
def State.lampCfg (s : State) (c : Nat) : Nat := s.rd (Reg.LAMP_CH_CFG (c / 16) (c % 16))
def State.lampMode (s : State) (c : Nat) : Nat := fld (s.lampCfg c) 1 0

/-- A port whose trigger source is the timer. -/
def State.triggersPort (s : State) (n p : Nat) : Bool :=
  s.bit (Reg.CAM_TRIG_CFG p) 4 && s.rdF (Reg.CAM_TRIG_CFG p) 3 0 == n

/-- The mask of a rising edge at f with an exposure in ns. -/
def State.edgeMask (s : State) (f expNs : Nat) : Nat × Nat :=
  (f - nsClk (s.rdF Reg.LAMPSEQ_MASK_TIMING 15 0), f + nsClk expNs + nsClk (s.rdF Reg.LAMPSEQ_MASK_TIMING 31 16))

/-- The tick of line N - 1 has come in this run. -/
def State.lineNear (s : State) (line : Nat) : Bool :=
  s.printing && decide (ldiff line (ladd (s.rd Reg.LINE_CURRENT_LINE) 1) ≤ 0)

/-- The mask of the next trigger that a timer gives a port, as far as it is known: that of an event at a known instant,
or from now on that of a trigger armed at a line N once line N - 1 has been ticked. -/
def State.timerMask (s : State) (n : Nat) : List (Nat × Option Nat) :=
  let x := s.timer n
  match x.plan with
  | [] => []
  | (_, e) :: _ =>
    let own := if !s.timerLive n || !s.bit (Reg.TIO_T_CFG n) 9 then []
      else if s.timerMode n ≥ 3 && x.fire.isNone then (if s.lineNear x.line then [(0, none)] else [])
      else ((s.timerDue n).map (fun f => ((s.edgeMask f e).1, some (s.edgeMask f e).2))).toList
    own ++ (if x.strips.any s.lineNear then [(0, none)] else [])

/-- The masks of a port: the first FRC value, and the last where it is known. -/
def State.masksOf (s : State) (p : Nat) : List (Nat × Option Nat) :=
  (smGet (fun _ => []) s.lamp.masks p).map (fun m => (m.1, some m.2))
    ++ ((List.range 16).filter (fun n => s.triggersPort n p)).flatMap s.timerMask

/-- An instant lies before the end of a mask. -/
def maskOpen (a : Nat) (m : Nat × Option Nat) : Bool := match m.2 with
  | some e => decide (a < e)
  | none => true

/-- Whether an interval meets a mask of a port. -/
def State.masked (s : State) (p a b : Nat) : Bool :=
  (s.masksOf p).any (fun m => decide (m.1 < b) && maskOpen a m)

/-- A STEADY or DOSE channel that is off throughout the masks of a port. -/
def State.blanked (s : State) (p c : Nat) : Bool :=
  bitOf (s.lampCfg c) (14 + p) && (s.lampMode c == 1 || s.lampMode c == 2)

/-- The pulses of a blanked channel end where a mask of the port that is not over begins. -/
def State.maskCut (s : State) (p : Nat) : State :=
  ((s.masksOf p).filter (maskOpen s.frc)).foldl (fun s m =>
    ((List.range 64).filter (s.blanked p)).foldl (fun s c => s.cutPulses c (max m.1 s.frc)) s) s

/-- The masks that the state of a timer begins. -/
def State.timerCut (s : State) (n : Nat) : State :=
  ([0, 1].filter (s.triggersPort n)).foldl State.maskCut s

/-! ## Strip triggers without a result (R287, R289) -/

/-- PENDING of a band: a spectral trigger of it is armed (R288). -/
def State.showPending (s : State) (b : Nat) : State :=
  s.wrB Reg.SCALER_BAND_STATE (16 + b) (s.colour.armed.any (fun g => g.kind == 0 && g.band == b))

/-- DONE of a band. -/
def State.setBandDone (s : State) (b : Nat) (v : Bool) : State := s.wrB Reg.SCALER_BAND_STATE b v

/-- A trigger that yields no result (R287): its band is measured again (R289). -/
def State.stripSkip (s : State) : State := (s.count Reg.SCALER_STRIP_SKIPPED).intSet Reg.pageSCALER 12

/-- The armed strip trigger of a port and plan loses n results of the `need` that it could have. With none left, and
none in, it is over. -/
def State.loseTrigger (s : State) (p plan n need : Nat) : State :=
  match s.colour.armed.find? (fun g => g.port == p && g.plan == plan) with
  | none => s
  | some g =>
    let h := { g with lost := g.lost + n }
    if h.got = 0 ∧ need ≤ h.lost then
      let s := { s with colour := { s.colour with armed := s.colour.armed.erase g } }
      (if g.kind = 0 then (s.showPending g.band).setBandDone g.band false else s).stripSkip
    else { s with colour := { s.colour with armed := s.colour.armed.map (fun x => if x == g then h else x) } }

/-- The armed triggers whose plan entry a timer still holds are not issued any more. -/
def State.loseUnfired (s : State) (n : Nat) : State :=
  let plans := (s.timer n).plan.map (·.1)
  (s.colour.armed.filter (fun g => s.rdF (Reg.CAM_TRIG_CFG g.port) 3 0 == n && plans.contains g.plan)).foldl
    (fun s g => s.loseTrigger g.port g.plan 0 0) s

end Sys2Proof.Machine
end

