-- ==== Sys2Proof/Machine/Arming.lean ====
section
/-! DEFINITION. The TIO timers (R398 to R402, R407, R408): arming, the late policy and the capture plan. -/

namespace Sys2Proof.Machine

/-! ## Arming (R398 to R401) -/

/-- Why an arm is refused: PIN_IS_INPUT, BAD_PERIOD. -/
def State.timerRefusal (s : State) (n : Nat) : Option Nat :=
  let m := s.timerMode n
  let p := s.rd (Reg.TIO_T_PERIOD n)
  let w := s.timerWidth n + 8
  if s.bit (Reg.TIO_T_CFG n) 6 && !s.bit Reg.TIO_PIN_DIR n then some 0x0104
  else if m ≥ 5 then some 0x0101
  else if m = 2 ∧ (if s.timerNs n then 4 * p < 5 * w else p < w) then some 0x0101
  else if m = 4 ∧ p = 0 then some 0x0101
  else none

/-- The policy in effect for a past target (R400): 1 FIRE_NOW, 2 SKIP_TO_NEXT, 3 DISCARD. -/
def State.latePolicy (s : State) (n : Nat) : Nat :=
  let once := s.timerMode n == 1 || s.timerMode n == 3
  let v := s.rdF (Reg.TIO_T_CFG n) 5 4
  if v = 0 then (if once then 1 else 2) else if v = 2 ∧ once then 3 else v

/-- Whole periods after which a target `gap` periods-units in the past lies ahead. -/
def skipCount (gap period : Nat) : Nat := gap / atLeast1 period + 1

/-- Start a time mode from its target, `late` clocks past. -/
def State.startTime (s : State) (n : Nat) : State :=
  let x := s.timer n
  let target := s.timerTarget n
  let ns := s.timerMode n == 2 && s.timerNs n
  let x := { x with
    next := (target * 65536).toNat, index := 0, fire := none
    first := if ns then some (timeAt s.offset16 s.frcRef s.rate (unsgn 64 target)) else none }
  s.setTimer n x

/-- Advance a periodic timer over the events that are past. -/
def State.skipTime (s : State) (n : Nat) : State :=
  let x := s.timer n
  match x.first with
  | some t =>
    let k := skipCount (sdiff 80 s.now16 t).toNat (s.rd (Reg.TIO_T_PERIOD n) * 65536)
    s.setTimer n { x with index := k }
  | none =>
    let p := s.timerPeriod16 n
    s.setTimer n { x with next := x.next + skipCount (s.frc * 65536 - x.next) p * p }

/-- TARGET of a periodic timer after SKIP_TO_NEXT. -/
def State.showTarget (s : State) (n : Nat) : State :=
  let s := s.showNext n
  (s.wr (Reg.TIO_T_TARGET_LO n) (s.rd (Reg.TIO_T_NEXT_LO n))).wr (Reg.TIO_T_TARGET_HI n)
    (s.rd (Reg.TIO_T_NEXT_HI n))

/-- Arm the timer whose target is not past. -/
def State.armAhead (s : State) (n : Nat) : State := (s.setTimerSt n 1).showNext n

/-- Arm the timer whose target is past (R400). -/
def State.armLate (s : State) (n : Nat) : State :=
  let line := s.timerMode n ≥ 3
  let s := ((s.wrB (Reg.TIO_T_STATUS n) 2 true).intSet Reg.pageTIO 8).count (Reg.TIO_T_LATE_COUNT n)
  let skip (s : State) : State :=
    if line then
      let x := s.timer n
      let k := skipCount (ldiff (s.lastElapsed n) x.line).toNat (s.rd (Reg.TIO_T_PERIOD n))
      s.setTimer n { x with line := ladd x.line (k * s.rd (Reg.TIO_T_PERIOD n) : Nat) }
    else s.skipTime n
  match s.latePolicy n with
  | 1 =>
    let s := if s.timerMode n = 2 ∨ s.timerMode n = 4 then skip s else s
    (s.setTimer n { s.timer n with fire := some s.frc }).armAhead n
  | 2 => (skip s).showTarget n |>.armAhead n
  | _ => s.setTimerSt n 0

/-- An arm written to a timer that is neither ARMED nor RUNNING. -/
def State.armIdle (s : State) (src : Req) (n : Nat) : State :=
  let k := Reg.TIO_T_STATUS n
  let s := (s.wrB k 2 false).wrB k 3 false
  match s.timerRefusal n with
  | some code => (s.wrB k 3 true).errAt Reg.pageTIO code (Reg.TIO_T_CTRL n) src
  | none =>
    let m := s.timerMode n
    if m = 0 then s
    else if m ≥ 3 then
      let s := s.setTimer n { s.timer n with line := s.rd (Reg.TIO_T_TARGET_LO n), fire := none, first := none }
      if s.linePast n (s.rd (Reg.TIO_T_TARGET_LO n)) then s.armLate n else s.armAhead n
    else
      let past := decide (s.timerTarget n ≤ s.frc)
      let s := s.startTime n
      if past then s.armLate n else s.armAhead n

/-- An arm written to a timer; while ARMED or RUNNING it has no effect (log 21). The mask of the trigger that it arms may
begin within a lamp's period (R320). -/
def State.armTimer (s : State) (src : Req) (n : Nat) : State :=
  if s.timerLive n then s else (s.armIdle src n).timerCut n

/-- TIMER_ARM (R399). -/
def execTimerArm (src : Req) (n : Fin 16) (t : Nat) (s : State) : Res :=
  if s.cutOff src then .next s else
  .next ((s.till t).armTimer src n.val)

/-- DISARM: an event that is due still occurs (R401). -/
def State.disarmTimer (s : State) (n : Nat) : State :=
  let due := match s.timerDue n with
    | some f => decide (f = s.frc)
    | none => false
  if s.timerLive n && !due then
    let s := s.loseUnfired n
    (s.setTimer n { s.timer n with fire := none, strips := [] }).setTimerSt n 0
  else s
def execTimerDisarm (src : Req) (n : Fin 16) (s : State) : Res :=
  if s.cutOff src then .next s else
  .next (s.disarmTimer n.val)

/-- At the end of every run each line-mode timer returns to IDLE without an event (R401), one that the Scaler alone has armed
too; the strip triggers that wait for a line are not issued (R287), and the run's ticks are past. -/
def State.endLineTimers (s : State) : State :=
  let s := (List.range 16).foldl (fun s n =>
    let s := if (s.timer n).strips.isEmpty then s else s.loseUnfired n
    let s := s.setTimer n { s.timer n with strips := [] }
    if s.timerMode n ≥ 3 ∨ s.timerMode n = 0 then s.setTimerSt n 0 else s) s
  { s with tio := { s.tio with ticks := [] } }

/-! ## Capture plans (R402) -/

/-- Put an entry at the end of a timer's plan; false where the queue is full. -/
def State.planAdd (s : State) (n plan expNs : Nat) : State × Bool :=
  let x := s.timer n
  if x.plan.length ≥ 16 then (s, false)
  else ((s.setTimer n { x with plan := x.plan ++ [(plan, expNs)] }).showPlan n, true)

/-- A push by a requester. -/
def State.planPush (s : State) (src : Req) (n : Nat) : State :=
  let plan := s.rdF (Reg.TIO_T_PLAN_PUSH n) 15 0
  let e := s.rdF (Reg.TIO_T_PLAN_EXP n) 19 0
  let err code := s.errAt Reg.pageTIO code (Reg.TIO_T_PLAN_CTRL n) src
  if (s.timer n).plan.length ≥ 16 then err 0x0103
  else if e < 100 ∨ e > 1048575 then err 0x0102
  else if isHost src && plan ≥ 0x8000 then err 0x0105
  else (s.planAdd n plan e).1.timerCut n
def execPlanPush (src : Req) (n : Fin 16) (s : State) : Res :=
  if s.cutOff src then .next s else
  .next (s.planPush src n.val)

def State.planFlush (s : State) (n : Nat) : State :=
  let s := s.loseUnfired n
  (s.setTimer n { s.timer n with plan := [] }).showPlan n
def execPlanFlush (src : Req) (n : Fin 16) (s : State) : Res :=
  if s.cutOff src then .next s else
  .next (s.planFlush n.val)

end Sys2Proof.Machine
end

