-- ==== Sys2Proof/Machine/Threshold.lean ====
section
/-! DEFINITION. The threshold model (R500, R501): set point, hysteresis and dwell, judged once a sample. -/

namespace Sys2Proof.Machine

/-- The dwell of threshold k, instance `inst`: the sink bank for k = 8 to 11; for k = 16 group * 8 + j, where
j = 0 to 3 is the step of NTC_DERATE and j = 4 + i NTC_OFF of NTC i; otherwise 0. -/
def condKey (k inst : Nat) : Nat := k * 64 + inst

def State.dwellAt (s : State) (k inst : Nat) : Dwell := smGet (fun _ => {}) s.pwr.dwell (condKey k inst)
def State.setDwell (s : State) (k inst : Nat) (d : Dwell) : State :=
  { s with pwr := { s.pwr with dwell := smSet (fun _ => {}) s.pwr.dwell (condKey k inst) d } }
def State.condIn (s : State) (k inst : Nat) : Bool := (s.dwellAt k inst).entered

/-- MRAM_LOW and NOR_LOW are LOW thresholds. -/
def isLow (k : Nat) : Bool := k == 13 || k == 15

/-- The set point of a threshold in 1/16 degree: SET of THRk_CFG; of k = 16, from LAMPg.NTC_LIMITS (R331). -/
def State.setPoint (s : State) (k inst : Nat) : Int :=
  if k = 16 then
    let l := s.rd (Reg.LAMP_NTC_LIMITS (inst / 8))
    if inst % 8 < 4 then (16 * (fld l 7 0 + 5 * (inst % 8)) : Nat) else (16 * fld l 15 8 : Nat)
  else sgn 16 (s.rdF (Reg.THERM_THR_CFG k) 15 0)

/-- The hysteresis in 1/16 degree, and the samples that complete a dwell: the one that begins it and one
every 10 ms. -/
def State.hysteresis (s : State) (k : Nat) : Int := (4 * s.rdF (Reg.THERM_THR_CFG k) 23 16 : Nat)
def State.dwellSamples (s : State) (k : Nat) : Nat := s.rdF (Reg.THERM_THR_CFG k) 31 24 + 1

/-- One sample of a threshold's value: a sample that breaks a dwell restarts it; a missing value breaks both. -/
def State.dwellSample (s : State) (k inst : Nat) (v : Option Int) : State :=
  let d := s.dwellAt k inst
  let sp := s.setPoint k inst
  let h := s.hysteresis k
  let inside := match v with
    | none => false
    | some x => if isLow k then decide (x ≤ sp) else decide (sp ≤ x)
  let outside := match v with
    | none => false
    | some x => if isLow k then decide (sp + h < x) else decide (x < sp - h)
  s.setDwell k inst { d with
    up := if inside then min 256 (d.up + 1) else 0
    down := if outside then min 256 (d.down + 1) else 0 }

/-- A completed dwell: whether the condition is to change. -/
def State.dwellDone (s : State) (k inst : Nat) : Bool :=
  let d := s.dwellAt k inst
  if d.entered then decide (d.down ≥ s.dwellSamples k) else decide (d.up ≥ s.dwellSamples k)

/-- The latest sample of both inlet sensors is faulty (R499). -/
def State.inletLost (s : State) : Bool :=
  match (smGet (fun _ => []) s.pwr.samples 1).head? with
  | some none => true
  | _ => false

/-- The highest of four steps k0 to k0 + 3 that is entered. -/
def State.stepOf (s : State) (k0 inst : Nat) : Nat :=
  ((List.range 4).filter (fun j => s.condIn (k0 + j) inst)).foldl (fun m j => max m (j + 1)) 0

end Sys2Proof.Machine
end

