-- ==== Sys2Proof/Machine/Lamp.lean ====
section
/-! DEFINITION. Lamp channels, their groups, and the illumination sequencer (chapter 10). Group states: 0 OFF,
1 BUS_WAIT, 2 ON, 3 STOPPED, 4 HOT, 5 FAULT, 6 TRIPPED. -/

namespace Sys2Proof.Machine

/-! ## Brightness curves (R315) -/

/-- The largest number below 2^n that satisfies a predicate which no number above it satisfies; 0 if none. -/
def maxSat (p : Nat → Bool) : Nat → Nat → Nat
  | 0, acc => acc
  | n + 1, acc => maxSat p n (if p (acc + 2 ^ n) then acc + 2 ^ n else acc)

/-- LINEAR, and the reset contents of a user curve. -/
def curveLinear (l : Nat) : Nat := (2 * 65535 * l + 1023) / 2046

/-- GAMMA22: the largest r with r - 1/2 at most 65,535 (l / 1,023)^2.2, raised to the fifth power. -/
def curveGamma (l : Nat) : Nat :=
  maxSat (fun r => decide ((2 * r - 1) ^ 5 * 1023 ^ 11 ≤ 131070 ^ 5 * l ^ 11)) 16 0

/-- LOG: the same for 65,535 (1,024^(l / 1,023) - 1) / 1,023, raised to the power 1,023. -/
def curveLog (l : Nat) : Nat :=
  maxSat (fun r => decide (((2 * r - 1) * 1023 + 131070) ^ 1023 ≤ 131070 ^ 1023 * 1024 ^ l)) 16 0

/-- User curves and bin records (R334). -/
def curveReset (k : Nat) : Nat := curveLinear (k % 1024)
def binReset (k : Nat) : Nat := if k % 4 = 0 then 16384 else 0
def State.curveEntry (s : State) (c l : Nat) : Nat := smGet curveReset s.lamp.curves (c * 1024 + l)
def State.binWord (s : State) (c w : Nat) : Nat := smGet binReset s.lamp.bins (c * 4 + w)

/-! ## Units -/

def State.lampGroup (s : State) (g : Nat) : LampGroup := smGet (fun _ => {}) s.lamp.groups g
def State.setLampGroup (s : State) (g : Nat) (x : LampGroup) : State :=
  { s with lamp := { s.lamp with groups := smSet (fun _ => {}) s.lamp.groups g x } }
def State.groupSt (s : State) (g : Nat) : Nat := s.stCode (Reg.pageLAMP g)

/-- CHi_DIAG of channel c, and its STATE. -/
def diagKey (c : Nat) : Nat := Reg.LAMP_CH_DIAG (c / 16) (c % 16)
def State.diagSt (s : State) (c : Nat) : Nat := s.rdF (diagKey c) 2 0
def State.latched (s : State) (c : Nat) : Bool := s.diagSt c == 4 || s.diagSt c == 5

/-! ## Throttling (R331, R332) -/

/-- The throttle step of a group: module inlet, its sink bank, its hottest NTC; 4 while no inlet sensor
reads (R499). -/
def State.lampStep (s : State) (g : Nat) : Nat :=
  let ntc := ((List.range 4).filter (fun j => s.condIn 16 (g * 8 + j))).foldl (fun m j => max m (j + 1)) 0
  let inlet := if s.inletLost then 4 else s.stepOf 4 0
  max inlet (max (s.stepOf 8 g) ntc)

/-- I_LIM of a group. -/
def State.iLim (s : State) (g : Nat) : Nat := 4095 * (8 - s.rdF (Reg.LAMP_GROUP_STATUS g) 2 0) / 8

/-- A change of step sets INT_STATUS.THROTTLE and is logged (R332, R502). -/
def State.showStep (s : State) (g : Nat) : State :=
  let v := s.lampStep g
  if v = s.rdF (Reg.LAMP_GROUP_STATUS g) 2 0 then s
  else ((s.wrF (Reg.LAMP_GROUP_STATUS g) 2 0 v).intSet (Reg.pageLAMP g) 11).tally 0x0012 0x54 g 1 v

/-! ## Group states (R311) -/

/-- FAULT, HOT and TRIPPED set STATUS.FAULT; READY in ON. -/
def State.setGroup (s : State) (g st : Nat) : State :=
  let p := Reg.pageLAMP g
  let s := ((s.setStCode p st).ready p (st == 2)).fault p (st == 4 || st == 5 || st == 6)
  if st = 2 then s else s.groupOff g

/-- LAMP_BUS_ENg at the output: de-energised without SYS24_IN (R524). -/
def State.busEnable (s : State) (g : Nat) (b : Bool) : State :=
  let s := s.wrB Reg.PWR_LAMP_BUS_STATUS g (b && s.pwr.sys24)
  if b then s else s.setLampGroup g { s.lampGroup g with offAt := s.frc }

/-- Whether some NTC in use, without fault, is in NTC_OFF. -/
def State.ntcOff (s : State) (g : Nat) : Bool :=
  let use := s.rdF (Reg.LAMP_NTC_LIMITS g) 19 16
  (List.range 4).any (fun i => bitOf use i && s.condIn 16 (g * 8 + 4 + i)
    && fld (s.rd (if i < 2 then Reg.LAMP_NTC_TEMP01 g else Reg.LAMP_NTC_TEMP23 g)) (16 * (i % 2) + 15) (16 * (i % 2)) != 0x8000)

/-- Enter ON, or the state that an event present at the entry leads to. -/
def State.groupOn (s : State) (g : Nat) : State :=
  if s.pwr.stopIn then (s.setGroup g 3).intSet (Reg.pageLAMP g) 13
  else if s.ntcOff g then (s.setGroup g 4).intSet (Reg.pageLAMP g) 14
  else s.setGroup g 2

/-- The sink bank trip of a group: TRIPPED, the bus enable deasserted (R495, R505). -/
def State.groupTrip (s : State) (g : Nat) : State :=
  if s.groupSt g = 0 then s else ((s.setGroup g 6).busEnable g false)

/-- The initial bus voltage (R324). -/
def State.initialVout (s : State) (g : Nat) : Nat :=
  let lo := s.rdF (Reg.LAMP_VOUT_LIMITS g) 15 0
  let hi := s.rdF (Reg.LAMP_VOUT_LIMITS g) 31 16
  let used := ((List.range 16).map (16 * g + ·)).filter (fun c => s.lampMode c != 0)
  let v := if used.any (fun c => s.binWord c 2 == 0) then hi
    else used.foldl (fun m c => max m (s.binWord c 2)) 0 + s.rdF (Reg.LAMP_HEADROOM g) 11 0 + 1000
  min hi (max lo v)

/-- A PMBus transaction with the supply of a group, and failures of transactions, which are counted (R324, R325). -/
def State.pmbus (s : State) (g cmd v : Nat) : State := s.emit (.pmbus g (s.rdF (Reg.LAMP_GROUP_CFG g) 6 0) cmd v)
def State.pmbusFails (s : State) (g n : Nat) : State :=
  let k := Reg.LAMP_PMBUS_ERR g
  if n = 0 then s else s.wr k (satAdd 32 (s.rd k) n)

/-- HEADROOM_FAULT: commanding stops until RESUME (R325). -/
def State.headroomFault (s : State) (g : Nat) : State :=
  (s.wrB (Reg.LAMP_GROUP_STATUS g) 10 true).intSet (Reg.pageLAMP g) 12
def State.commanding (s : State) (g : Nat) : Bool := !s.bit (Reg.LAMP_GROUP_STATUS g) 10

/-- Command VOUT_SET over PMBus. -/
def State.setVout (s : State) (g v : Nat) : State := (s.wrF (Reg.LAMP_VOUT_SET g) 15 0 v).pmbus g 0x21 v

/-- CTRL.ENABLE written to 1: OPERATION, VOUT_MODE and the initial voltage go to the supply. A latched sink bank trip acts
at once (R505). -/
def State.groupEnable (s : State) (g : Nat) : State :=
  if s.groupSt g ≠ 0 then s
  else
    let s := (s.busEnable g true).setGroup g 1
    let s := if s.commanding g then
        (((s.pmbus g 0x01 0x80).pmbus g 0x20 0).setVout g (s.initialVout g))
      else s
    if s.bit Reg.PWR_LAMP_BUS_STATUS (16 + g) then s.groupTrip g else s
def execLampGroupEnable (src : Req) (g : Fin 4) (s : State) : Res :=
  if s.cutOff src then .next s else
  .next ((s.wrB (Reg.CTRL (Reg.pageLAMP g.val)) 0 true).groupEnable g.val)

/-- CTRL.ENABLE written to 0: the bus enable falls 1.0 ms later, which the model does not delay (log 9). -/
def State.groupDisable (s : State) (g : Nat) : State := (s.setGroup g 0).busEnable g false
def execLampGroupDisable (src : Req) (g : Fin 4) (s : State) : Res :=
  if s.cutOff src then .next s else
  .next ((s.wrB (Reg.CTRL (Reg.pageLAMP g.val)) 0 false).groupDisable g.val)

/-- BUS_GOOD: the supply reports VOUT_MODE and a voltage within range for 10 ms. In LINEAR16, VOUT_MODE[7:5] = 0 (log 96),
the group enters ON, and unlatched diagnostics start again (R327); in another mode it enters FAULT. -/
def execBusGood (g : Fin 4) (voutMode failures : Nat) (s : State) : Res :=
  let g := g.val
  if s.groupSt g ≠ 1 then .next s
  else
    let s := s.pmbusFails g failures
    if fld voutMode 7 5 ≠ 0 then .next ((s.setGroup g 5).headroomFault g)
    else
      let s := (List.range 16).foldl (fun s i =>
        let c := 16 * g + i
        if s.latched c then s else (s.wrF (diagKey c) 2 0 0).setLampCh c {}) s
      .next ((s.wrB (Reg.LAMP_GROUP_STATUS g) 9 true).groupOn g)

/-- BUS_WAIT_TIMEOUT: 500 ms in BUS_WAIT. -/
def execBusWaitTimeout (g : Fin 4) (failures : Nat) (s : State) : Res :=
  if s.groupSt g.val = 1 then
    .next (((s.pmbusFails g.val failures).setGroup g.val 5).intSet (Reg.pageLAMP g.val) 16)
  else .next s

/-- BUS_FAULT: the bus out of range in ON. -/
def execBusFault (g : Fin 4) (s : State) : Res :=
  let g := g.val
  if s.groupSt g = 2 then
    .next (((s.wrB (Reg.LAMP_GROUP_STATUS g) 9 false).setGroup g 5).intSet (Reg.pageLAMP g) 16)
  else .next s

/-- GROUP_CTRL.RESUME: STOPPED is left with STOP_IN released, and PMBus commanding resumes (R325). -/
def State.groupResume (s : State) (src : Req) (g : Nat) : State :=
  if s.pwr.stopIn then s.errAt (Reg.pageLAMP g) 0x0102 (Reg.LAMP_GROUP_CTRL g) src
  else
    let s := (s.wrB (Reg.LAMP_GROUP_STATUS g) 10 false).setLampGroup g { s.lampGroup g with stepFails := 0 }
    if s.groupSt g = 3 then s.groupOn g else s
def execGroupResume (src : Req) (g : Fin 4) (s : State) : Res :=
  if s.cutOff src then .next s else
  .next (s.groupResume src g.val)

/-- STOP_IN asserted: every sink off, groups in ON enter STOPPED, probes abandoned (R329, R333). -/
def State.abortProbe (s : State) (c : Nat) : State :=
  if (s.lampCh c).probing then
    (s.setLampCh c { s.lampCh c with probing := false }).count (Reg.LAMP_PROBE_ABORT (c / 16))
  else s
def State.lampsStop (s : State) : State :=
  let s := ((List.range 64).foldl State.abortProbe s).sinksOff
  (List.range 4).foldl (fun s g =>
    let s := s.wrB (Reg.LAMP_GROUP_STATUS g) 8 true
    if s.groupSt g = 2 then (s.setGroup g 3).intSet (Reg.pageLAMP g) 13 else s) s

/-! ## From requested output to current and duty (R315 to R319) -/

/-- Relative output r and demand d of R315 and R316; the flag is CHi_DIAG.SAT. -/
def State.lampDemand (s : State) (c : Nat) : Nat × Bool :=
  let l := s.rdF (Reg.LAMP_CH_LEVEL (c / 16) (c % 16)) 9 0
  let curve := fld (s.lampCfg c) 13 12
  let r := if curve = 0 then curveLinear l else if curve = 1 then curveGamma l
    else if curve = 2 then curveLog l else s.curveEntry c l
  let f := s.binWord c 0 % 65536
  let flux := if f = 0 then 16384 else f
  let d := (r * 16384 + flux / 2) / flux
  (min 65535 d, decide (d > 65535))

def State.iCode (s : State) (c : Nat) : Nat := s.rdF (Reg.LAMP_CH_DRIVE (c / 16) (c % 16)) 11 0
def State.iEff (s : State) (c : Nat) : Nat := min (s.iCode c) (s.iLim (c / 16))
def State.dMax (s : State) (c : Nat) : Nat := 65535 * s.iEff c / atLeast1 (s.iCode c)
def State.fRef (s : State) (c : Nat) : Nat := s.rdF (Reg.LAMP_CH_DOSE (c / 16) (c % 16)) 16 0

/-- f_ch of a DOSE channel (R319); none where it does not count. -/
def State.fCh (s : State) (c : Nat) : Option Nat :=
  let d := (s.lampDemand c).1
  if s.lampMode c = 2 ∧ d > 0 ∧ s.fRef c > 0 ∧ s.iCode c > 0 then some (s.fRef c * s.dMax c / d) else none

/-- LAMP_LIMIT of a group (R319). -/
def State.lampLimit (s : State) (g : Nat) : Nat :=
  min 0x1FFFF (((List.range 16).filterMap (fun i => s.fCh (16 * g + i))).foldl min 0x1FFFF)

/-- f_line exceeds f_ch (R319). -/
def State.doseShort (s : State) (c : Nat) : Bool := match s.fCh c with
  | some f => decide (0 < s.rd Reg.LINE_PERIOD_AVG) && decide (800000000 > f * s.rd Reg.LINE_PERIOD_AVG)
  | none => false

/-- CHi_DIAG.DOSE_SHORT of a group, and INT_STATUS.DOSE_SHORT while any of them is set. -/
def State.showDose (s : State) (g : Nat) : State :=
  let cs := (List.range 16).map (16 * g + ·)
  let t := cs.foldl (fun t c => t.wrB (diagKey c) 10 (s.doseShort c)) s
  if cs.any s.doseShort then t.intSet (Reg.pageLAMP g) 15 else t

/-- The demand of the channel's mode: in DOSE d * f_line / F_REF, rounded down (log 22). -/
def State.modeDemand (s : State) (c : Nat) : Nat :=
  let d := (s.lampDemand c).1
  if s.lampMode c = 2 then d * 800000000 / atLeast1 (s.rd Reg.LINE_PERIOD_AVG * s.fRef c) else d

/-- DAC code and duty of a channel that runs (R317). -/
def State.lampDrive (s : State) (c : Nat) : Nat × Nat :=
  let i := s.iCode c
  let e := s.iEff c
  let d := min (s.modeDemand c) (s.dMax c)
  if i = 0 then (0, 0)
  else if bitOf (s.lampCfg c) 2 then
    (min e ((i * d + 32767) / 65535), s.rdF (Reg.LAMP_CH_DRIVE (c / 16) (c % 16)) 31 16)
  else (e, min 65535 ((d * i + e / 2) / atLeast1 e))

/-- The period and whether it was clamped (R312). -/
def State.lampPeriod (s : State) (c : Nat) : Nat × Bool :=
  let cfg := s.lampCfg c
  if bitOf cfg 3 then
    let p := s.rd Reg.LINE_PERIOD_AVG / (fld cfg 7 4 + 1)
    (min 800000 (max 3200 p), p < 3200 || p > 800000)
  else (s.rdF (Reg.LAMP_CH_PERIOD (c / 16) (c % 16)) 19 0, false)

/-- Every sink is held off: STOP_IN is asserted (R333), or the module is SAFE (R532). -/
def State.sinksHeld (s : State) : Bool := s.pwr.stopIn || s.modState == 7

/-- Whether a STEADY or DOSE channel is off throughout the period that starts at t. -/
def State.lampOff (s : State) (c t : Nat) : Bool :=
  let cfg := s.lampCfg c
  let m := s.lampMode c
  let tick := s.rd64 Reg.LINE_TICK_FRC_LO Reg.LINE_TICK_FRC_HI
  s.groupSt (c / 16) != 2 || s.sinksHeld || m == 0 || m == 3 || s.latched c
    || (m == 2 && (!s.printing || s.fRef c == 0))
    || (bitOf cfg 3 && (!s.printing || decide (t > tick + 2 * s.rd Reg.LINE_PERIOD_AVG)))
    || (bitOf cfg 14 && s.masked 0 t (t + 1)) || (bitOf cfg 15 && s.masked 1 t (t + 1))

/-- br_m(k): the m bits of k reversed. -/
def brev : Nat → Nat → Nat
  | 0, _ => 0
  | m + 1, k => k % 2 * 2 ^ m + brev m (k / 2)

/-- The largest power of two that does not exceed n, up to 16; 1 if n is 0. -/
def pow2Floor (n : Nat) : Nat := if n ≥ 16 then 16 else if n ≥ 8 then 8 else if n ≥ 4 then 4 else if n ≥ 2 then 2 else 1

/-- The pulses of one period (R313, R314): start after the period's start, and width. -/
def lampPulses (p duty m : Nat) : List (Nat × Nat) :=
  let t := (p * duty + 32767) / 65535
  if t = 0 then []
  else
    let k := if m = 0 then 1 else pow2Floor (min (2 ^ m) (t / 200))
    (List.range k).map (fun j => (p * brev m j / 2 ^ m, t / k + (if j < t % k then 1 else 0)))

/-- SPREAD_LOG2: 5 to 7 are treated as 4. -/
def State.spread (s : State) (c : Nat) : Nat := min 4 (fld (s.lampCfg c) 10 8)

/-- The longest pulse of the period or the strobe, as it is driven. -/
def State.lampOn (s : State) (c : Nat) : Nat := (s.lampCh c).pulses.foldl (fun m x => max m x.2) 0

/-- One of 256 consecutive periods without a qualifying pulse: UNVERIFIED (R327). -/
def State.countUnqual (s : State) (c : Nat) (qual : Bool) : State :=
  let x := s.lampCh c
  let s := s.setLampCh c { x with unqual := if qual then 0 else min 256 (x.unqual + 1) }
  if !qual && x.unqual + 1 ≥ 256 && (s.diagSt c == 1 || (s.diagSt c == 0 && s.lampMode c != 0)) then
    (s.wrF (diagKey c) 2 0 2).intSet (Reg.pageLAMP (c / 16)) 9
  else s

/-- LAMP_PERIOD_START: the throttle step, the current and the duty take force, and the pulses begin; an exposure mask that
begins within the period cuts them. A period does not start before the end of the last one (R312). -/
def execLampPeriodStart (ch : Fin 64) (t : Nat) (s : State) : Res :=
  let c := ch.val
  let g := c / 16
  let s := s.till t
  if s.groupSt g ≠ 2 ∨ t < (s.lampCh c).due then .next s
  else
    let off := s.lampOff c t
    let (code, duty) := if off then (0, 0) else s.lampDrive c
    let (p, clamped) := s.lampPeriod c
    let pulses := if code = 0 then [] else lampPulses p duty (s.spread c)
    let k := diagKey c
    let s := ((s.wrB k 8 (s.lampDemand c).2).wrB k 9 (!off && decide (s.modeDemand c > s.dMax c))).wrB k 11 clamped
    let s := s.wr (Reg.LAMP_CH_OUT g (c % 16)) (code + duty * 65536)
    let run := pulses.map (fun x => (t + x.1, x.2))
    let s := s.setLampCh c { s.lampCh c with
      start := t, period := p, pulses := run, due := t + p }
    let s := (s.emits (run.map (fun x => .lamp c x.1 x.2 code))).showDose g
    let s := ([0, 1].filter (fun q => s.blanked q c)).foldl State.maskCut s
    .next (s.countUnqual c (s.lampOn c ≥ 3200))

/-- A tick at t: a line-locked channel starts its periods anew at the end of any pulse in progress (R312). -/
def State.lampTick (s : State) (t : Nat) : State :=
  ((List.range 64).filter (fun c => bitOf (s.lampCfg c) 3 && (s.lampMode c == 1 || s.lampMode c == 2))).foldl
    (fun s c =>
      let e := (((s.lampCh c).pulses.find? (fun q => decide (q.1 ≤ t) && decide (t < q.1 + q.2))).map
        (fun q => q.1 + q.2)).getD t
      let s := s.cutPulses c e
      s.setLampCh c { s.lampCh c with due := e }) s

/-! ## Headroom (R324, R325) -/

/-- HEADROOM_STEP: the lowest sampled sink voltage moves VOUT_SET; `failures` transactions of the step were
not acknowledged or failed their PEC, and a third failure fails the step. -/
def execHeadroomStep (g : Fin 4) (failures : Fin 4) (s : State) : Res :=
  let g := g.val
  let x := s.lampGroup g
  if s.groupSt g ≠ 2 ∨ s.bit (Reg.LAMP_GROUP_STATUS g) 10 then .next s
  else
    let s := s.pmbusFails g failures.val
    let s := s.setLampGroup g { x with vmin := none, stepFails := if failures.val = 3 then x.stepFails + 1 else 0 }
    let s := match x.vmin with
      | none => s
      | some v => s.wrF (Reg.LAMP_VMIN_SINK g) 15 0 v
    if failures.val = 3 then
      .next (if x.stepFails + 1 ≥ 3 then s.headroomFault g else s)
    else match x.vmin with
      | none => .next s
      | some v =>
        let old := s.rdF (Reg.LAMP_VOUT_SET g) 15 0
        let slew := s.rdF (Reg.LAMP_HEADROOM g) 27 16
        let lo := s.rdF (Reg.LAMP_VOUT_LIMITS g) 15 0
        let hi := s.rdF (Reg.LAMP_VOUT_LIMITS g) 31 16
        let new := clampI lo hi ((old : Int) - ((v : Int) - s.rdF (Reg.LAMP_HEADROOM g) 11 0))
        .next (s.setVout g (if v < 400 then new else old + clampI (-(slew : Int)) slew (new - old)).toNat)

/-- BUS_MEASURE: STATUS_WORD, READ_VOUT in mV and READ_IOUT in 10 mA (log 96), with the failures of their transactions; BUS_STRAY (R497). -/
def execBusMeasure (g : Fin 4) (vout iout failures t : Nat) (s : State) : Res :=
  let g := g.val
  let s := (((s.till t).pmbus g 0x79 0).pmbus g 0x8B 0).pmbus g 0x8C 0 |>.pmbusFails g failures
  let s := s.wr (Reg.LAMP_BUS_MEAS g) (vout % 65536 + iout % 65536 * 65536)
  let s := s.wrF (if g < 2 then Reg.PWR_LAMP_BUS_V01 else Reg.PWR_LAMP_BUS_V23) (16 * (g % 2) + 15) (16 * (g % 2)) (vout / 10)
  let stray := vout > 5000 && !s.bit Reg.PWR_LAMP_BUS_STATUS g && decide (s.since (s.lampGroup g).offAt > msClk 10)
  let old := s.bit Reg.PWR_LAMP_BUS_STATUS (8 + g)
  let s := s.wrB Reg.PWR_LAMP_BUS_STATUS (8 + g) stray
  .next (if stray && !old then s.intSet Reg.pagePWR 12 else s)

/-! ## Diagnostics (R326 to R329) -/

/-- Latch OPEN (4) or SHORT (5): the channel is held off. -/
def State.latchLamp (s : State) (c st : Nat) : State :=
  let g := c / 16
  let s := (s.wrF (diagKey c) 2 0 st).sinkOff c
  ((s.intSet (Reg.pageLAMP g) 8).wrB (Reg.LAMP_DIAG_FAULT g) (c % 16) true).tally 0x00A1 0x54 c 2 st

/-- SINK_SAMPLE: 3.8 µs into a qualifying pulse. -/
def execSinkSample (ch : Fin 64) (millivolts microamps : Nat) (s : State) : Res :=
  let c := ch.val
  let g := c / 16
  let x := s.lampCh c
  if s.groupSt g ≠ 2 ∨ s.lampOn c < 3200 ∨ s.latched c then .next s
  else
    let s := s.wrF (diagKey c) 31 16 millivolts
    let gr := s.lampGroup g
    let vmin := match gr.vmin with
      | none => millivolts
      | some v => min v millivolts
    let s := s.setLampGroup g { gr with vmin := some vmin }
    let code := s.rdF (Reg.LAMP_CH_OUT g (c % 16)) 11 0
    let vf := s.binWord c 2 % 65536
    let open_ := decide (microamps * 2 * 4095 < code * 2000000)
    let short := vf != 0 && decide (2 * ((s.rdF (Reg.LAMP_BUS_MEAS g) 15 0 : Int) - millivolts) < vf)
    if open_ && (decide (vmin < 400) || s.bit (Reg.LAMP_GROUP_STATUS g) 10) then .next s
    else if open_ || short then
      let s := s.setLampCh c { x with fails := x.fails + 1 }
      .next (if x.fails + 1 ≥ 3 then s.latchLamp c (if open_ then 4 else 5) else s)
    else .next ((s.setLampCh c { x with fails := 0, probeFails := 0, unqual := 0 }).wrF (diagKey c) 2 0 1)

/-- The earliest instant at which the next period of a channel begins: a line-locked one's is no shorter than 12.5 µs / DIV,
and none begins before it is due (R328). -/
def State.nextPeriod (s : State) (c : Nat) : Nat :=
  let x := s.lampCh c
  let cfg := s.lampCfg c
  if bitOf cfg 3 then min x.due (x.start + 10000 / (fld cfg 7 4 + 1)) else x.due

/-- A period of the channel that began at t would have no pulse. -/
def State.lampQuiet (s : State) (c t : Nat) : Bool :=
  let d := s.lampDrive c
  s.lampOff c t || d.1 == 0 || (lampPulses (s.lampPeriod c).1 d.2 (s.spread c)).isEmpty

/-- A probe may start at t (R328): no pulse of the channel runs or can begin within 12 µs, outside the masks of both ports,
and 1.0 ms after a failing one (R327). The pulses of a STROBE channel lie within the masks. -/
def State.probeFree (s : State) (c t : Nat) : Bool :=
  let x := s.lampCh c
  let till := t + usClk (if s.lampMode c = 3 then 12 else 10)
  let clear := s.lampMode c == 0 || s.lampMode c == 3
    || (x.pulses.all (fun p => decide (p.1 + p.2 ≤ t) || decide (t + usClk 12 < p.1))
      && (s.lampQuiet c t || decide (t + usClk 12 < s.nextPeriod c)))
  clear && !s.masked 0 t till && !s.masked 1 t till && (x.probeFails == 0 || decide (x.probeAt + msClk 1 ≤ t))

/-- The channel may be probed: UNVERIFIED, PROBED or IDLE, in a group in ON that probes no other. -/
def State.probeable (s : State) (c : Nat) : Bool :=
  s.groupSt (c / 16) == 2 && (s.diagSt c == 0 || s.diagSt c == 2 || s.diagSt c == 3)
    && !((List.range 16).any (fun i => (s.lampCh (c / 16 * 16 + i)).probing))

/-- Start a probe: 1.0 mA for 10 µs. -/
def State.startProbe (s : State) (c t : Nat) : State :=
  let s := s.setLampCh c { s.lampCh c with probing := true, want := false, probeAt := t }
  (s.wrB (Reg.LAMP_DIAG_FAULT (c / 16)) (16 + c % 16) false).emit (.lamp c t (usClk 10) 2)

/-- PROBE_INTERVAL: the next channel in ascending order that may be probed and has a free interval; one
that a PROBE_NOW waits for goes first. -/
def execProbeInterval (g : Fin 4) (t : Nat) (s : State) : Res :=
  let g := g.val
  let s := s.till t
  let n := (s.lampGroup g).next
  let order := (List.range 16).map (fun i => 16 * g + (n + i) % 16)
  let ok c := s.probeable c && s.probeFree c t
  match (order.filter (fun c => (s.lampCh c).want) ++ order).find? ok with
  | none => .next s
  | some c => .next ((s.setLampGroup g { s.lampGroup g with next := (c % 16 + 1) % 16 }).startProbe c t)

/-- PROBE_NOW: at once in a free interval, else at the next one. -/
def State.probeNow (s : State) (c t : Nat) : State :=
  if s.probeable c && s.probeFree c t then s.startProbe c t
  else s.setLampCh c { s.lampCh c with want := true }
def execProbeNow (src : Req) (ch : Fin 64) (t : Nat) (s : State) : Res :=
  if s.cutOff src then .next s else
  .next ((s.till t).probeNow ch.val t)

/-- PROBE_COMPLETE: two failing probes in a row latch (R327, R328). -/
def execProbeComplete (ch : Fin 64) (millivolts microamps : Nat) (s : State) : Res :=
  let c := ch.val
  let x := s.lampCh c
  if !x.probing then .next s
  else
    let open_ := microamps < 500
    let bad := open_ || decide (millivolts < s.rdF (Reg.LAMP_PROBE_CFG (c / 16)) 15 0)
    if bad then
      let s := s.setLampCh c { x with probing := false, probeFails := x.probeFails + 1, want := true }
      .next (if x.probeFails + 1 ≥ 2 then s.latchLamp c (if open_ then 4 else 5) else s)
    else .next ((s.setLampCh c { x with probing := false, probeFails := 0 }).wrF (diagKey c) 2 0 3)

/-- PROBE_ABORT: a rising edge or STOP_IN during a probe (R329). -/
def execProbeAbort (ch : Fin 64) (s : State) : Res := .next (s.abortProbe ch.val)

/-- PROBE_BLOCKED: no interval for 1.0 s (R329). -/
def execProbeBlocked (ch : Fin 64) (s : State) : Res :=
  let c := ch.val
  if s.groupSt (c / 16) = 2 ∧ s.diagSt c = 2 then
    .next ((s.intSet (Reg.pageLAMP (c / 16)) 10).wrB (Reg.LAMP_DIAG_FAULT (c / 16)) (16 + c % 16) true)
  else .next s

/-- CHi_CTRL.CLEAR: a latched channel starts again, UNVERIFIED, or IDLE in mode OFF (log 23). -/
def State.clearLamp (s : State) (c : Nat) : State :=
  if s.latched c then
    let s := (s.setLampCh c {}).wrB (Reg.LAMP_DIAG_FAULT (c / 16)) (c % 16) false
    if s.lampMode c = 0 then s.wrF (diagKey c) 2 0 0
    else (s.wrF (diagKey c) 2 0 2).intSet (Reg.pageLAMP (c / 16)) 9
  else s
def execClearLampFault (src : Req) (ch : Fin 64) (s : State) : Res :=
  if s.cutOff src then .next s else
  .next (s.clearLamp ch.val)

/-! ## NTC inputs (R330) -/

/-- 2^64 times the natural logarithm of m / 2^64, for m from 2^64 to 2^65, by the series of (x - 1) / (x + 1); and that of
2 (log 5). -/
def lnSeries (m : Nat) : Nat :=
  let z := (m - 2 ^ 64) * 2 ^ 64 / (m + 2 ^ 64)
  let sq := z * z / 2 ^ 64
  2 * ((List.range 24).foldl (fun (a : Nat × Nat) k => (a.1 + a.2 / (2 * k + 1), a.2 * sq / 2 ^ 64)) (0, z)).1
def lnTwo : Nat := 12786308645202655660

/-- 2^64 times the natural logarithm of a / b. -/
def lnRatio (a b : Nat) : Int :=
  let e : Int := (Nat.log2 a : Int) - Nat.log2 b
  let x := if 0 ≤ e then a * 2 ^ 64 / (b * 2 ^ e.toNat) else a * 2 ^ (64 + (-e).toNat) / b
  if x < 2 ^ 64 then (e - 1) * lnTwo + lnSeries (2 * x) else e * lnTwo + lnSeries x

/-- The Beta equation 1 / T = 1 / 298.15 K + ln(R / R25) / B, in 1/16 degree to the nearest (R330). Without B, R25 or R the
equation has no value: a free one (log 5). -/
def betaTemp (b r25 ohms : Nat) : Int :=
  if b = 0 ∨ r25 = 0 ∨ ohms = 0 then sgn 16 (Config.ntcTemp b r25 ohms).toNat
  else
    let d : Int := 100 * b * 2 ^ 64 + 29815 * lnRatio ohms r25
    if d ≤ 0 then 32767
    else ((160 * b * 29815 * 2 ^ 64 - 43704 * d) * 2 + 10 * d).fdiv (20 * d)

/-- The reading of one NTC in 1/16 degree; none is a fault. -/
def State.ntcTemp (s : State) (g : Nat) (ohms : Option Nat) : Option Int :=
  match ohms with
  | none => none
  | some r =>
    let cfg := s.rd (Reg.LAMP_NTC_CFG g)
    let v := betaTemp (fld cfg 15 0) (fld cfg 31 16 * 10) r
    if v < -50 * 16 ∨ v > 200 * 16 then none else some v

/-- A lamp group follows its NTC_OFF conditions (R311). -/
def State.groupNtc (s : State) (g : Nat) : State :=
  if s.groupSt g = 2 ∧ s.ntcOff g then (s.setGroup g 4).intSet (Reg.pageLAMP g) 14
  else if s.groupSt g = 4 ∧ ¬ s.ntcOff g then s.groupOn g
  else s

/-- NTC_READ: every 10 ms; faults are excluded, and each threshold takes its sample. -/
def execNtcRead (g : Fin 4) (ohms : List (Option Nat)) (s : State) : Res :=
  let g := g.val
  let vs := (List.range 4).map (fun i => s.ntcTemp g (ohms.getD i none))
  let w (i : Nat) : Nat := match vs.getD i none with
    | none => 0x8000
    | some v => unsgn 16 v
  let s := (s.wr (Reg.LAMP_NTC_TEMP01 g) (w 0 + w 1 * 65536)).wr (Reg.LAMP_NTC_TEMP23 g) (w 2 + w 3 * 65536)
  let s := if vs.any Option.isNone then s.intSet (Reg.pageLAMP g) 14 else s
  let use := s.rdF (Reg.LAMP_NTC_LIMITS g) 19 16
  let used := ((List.range 4).filter (bitOf use)).filterMap (fun i => vs.getD i none)
  let hot := used.foldl (fun m v => match m with
    | none => some v
    | some x => some (max x v)) none
  let s := (List.range 4).foldl (fun s j => s.dwellSample 16 (g * 8 + j) hot) s
  .next (((List.range 4).foldl (fun s i => s.dwellSample 16 (g * 8 + 4 + i) (vs.getD i none)) s).groupNtc g)

/-! ## LAMPSEQ (R321, R337) -/

def State.lampQueue (s : State) (port : Nat) : List SeqEntry := smGet (fun _ => []) s.lamp.queues port
def State.setLampQueue (s : State) (port : Nat) (q : List SeqEntry) : State :=
  let s := { s with lamp := { s.lamp with queues := smSet (fun _ => []) s.lamp.queues port q } }
  s.wrF Reg.LAMPSEQ_QUEUE_STATUS (8 * port + 4) (8 * port) q.length

/-- A push of the Scaler; false where the queue is full. -/
def State.lampAdd (s : State) (port : Nat) (e : SeqEntry) : State × Bool :=
  if (s.lampQueue port).length ≥ 16 then (s.intSet Reg.pageLAMPSEQ 10, false)
  else (s.setLampQueue port (s.lampQueue port ++ [e]), true)

/-- PUSH_CTRL.PUSH. -/
def State.lampPush (s : State) (src : Req) : State :=
  let w := s.rd Reg.LAMPSEQ_PUSH_ENTRY
  let err code := s.errAt Reg.pageLAMPSEQ code Reg.LAMPSEQ_PUSH_CTRL src
  if fld w 15 0 ≥ 0x8000 ∧ isHost src then err 0x0103
  else
    let r := s.lampAdd (fld w 20 20) { plan := fld w 15 0, band := fld w 19 16, current := s.rdF Reg.LAMPSEQ_PUSH_CURRENT 11 0 }
    if r.2 then r.1 else (err 0x0101).intSet Reg.pageLAMPSEQ 10
def execLampPush (src : Req) (s : State) : Res :=
  if s.cutOff src then .next s else
  .next (s.lampPush src)

/-- A discarded entry counts in MISMATCH_COUNT. -/
def State.lampMismatch (s : State) (n : Nat) : State :=
  if n = 0 then s
  else (s.wr Reg.LAMPSEQ_MISMATCH_COUNT (satAdd 32 (s.rd Reg.LAMPSEQ_MISMATCH_COUNT) n)).intSet Reg.pageLAMPSEQ 8

/-- FLUSHp: every entry of the port's queue is discarded and counted. -/
def State.lampFlush (s : State) (port : Nat) : State :=
  (s.setLampQueue port []).lampMismatch (s.lampQueue port).length
def execLampFlush (src : Req) (port : Fin 2) (s : State) : Res :=
  if s.cutOff src then .next s else
  .next (s.lampFlush port.val)

/-- The head is discarded with a capture-plan entry that R250 discards. -/
def State.lampDiscard (s : State) (port : Nat) : State := s.setLampQueue port ((s.lampQueue port).drop 1)

/-- The channels of a band: BANDb_MASK, or WHITEn_MASK for band 0xF. -/
def State.bandMask (s : State) (port band : Nat) : List Nat :=
  let (lo, hi) := if band = 15 then
      (if port = 0 then (s.rd Reg.LAMPSEQ_WHITE0_MASK_LO, s.rd Reg.LAMPSEQ_WHITE0_MASK_HI)
       else (s.rd Reg.LAMPSEQ_WHITE1_MASK_LO, s.rd Reg.LAMPSEQ_WHITE1_MASK_HI))
    else if band < 12 then (s.rd (Reg.LAMPSEQ_BAND_MASK_LO band), s.rd (Reg.LAMPSEQ_BAND_MASK_HI band))
    else (0, 0)
  bitsOf 32 lo ++ (bitsOf 32 hi).map (· + 32)

/-- The exposure mask of a rising edge at t; those of the port that are over are forgotten (R322). -/
def State.keepMask (s : State) (port expNs t : Nat) : State :=
  let old := (smGet (fun _ => []) s.lamp.masks port).filter (fun m => decide (s.frc < m.2))
  { s with lamp := { s.lamp with masks := smSet (fun _ => []) s.lamp.masks port (old ++ [s.edgeMask t expNs]) } }

/-- Drive a strobe of w clocks from an FRC value on. -/
def State.driveStrobe (s : State) (c from_ w code : Nat) : State :=
  let s := s.setLampCh c { s.lampCh c with pulses := [(from_, w)] }
  (s.wr (Reg.LAMP_CH_OUT (c / 16) (c % 16)) (code + 0xFFFF0000)).emit (.lamp c from_ w code)

/-- The strobe at a rising edge at t (R321): the state after it, and BAND and CURRENT of the trigger record. The window
never leaves the exposure. Where the groups' limits differ the record carries the lowest code driven (log 24). -/
def State.strobe (s : State) (port plan expNs t : Nat) : State × Nat × Nat :=
  let tm := s.rd Reg.LAMPSEQ_STROBE_TIMING
  let s := (s.keepMask port expNs t).maskCut port
  match s.lampQueue port with
  | [] => (s.lampMismatch 1, 15, 0)
  | e :: q =>
    let s := s.setLampQueue port q
    if e.plan ≠ plan then (s.lampMismatch 1, 15, 0)
    else if fld tm 15 0 + fld tm 31 16 ≥ expNs then
      ((s.count Reg.LAMPSEQ_STROBE_SHORT).intSet Reg.pageLAMPSEQ 9, e.band, 0)
    else
      let chans := (s.bandMask port e.band).filter (fun c =>
        s.lampMode c == 3 && s.groupSt (c / 16) == 2 && !s.sinksHeld && !s.latched c)
      let code c := min e.current (s.iLim (c / 16))
      let from_ := t + nsClkUp (fld tm 15 0)
      let width := t + nsClk expNs - nsClkUp (fld tm 31 16) - from_
      if s.sinksHeld then (s, e.band, 0)
      else
        let s := chans.foldl (fun s c => s.driveStrobe c from_ width (code c)) s
        let s := if chans.isEmpty then s else s.count Reg.LAMPSEQ_STROBES
        (s, e.band, chans.foldl (fun m c => min m (code c)) e.current)

end Sys2Proof.Machine
end

