-- ==== Sys2Proof/Machine/Camera.lean ====
section
/-! DEFINITION. Camera ports: power, lanes, the control channel, triggers and frames (R241 to R260, R273).
Port states: 0 OFF, 1 POWER, 2 LOCK, 3 DESKEW, 4 UP, 5 FAULT. -/

namespace Sys2Proof.Machine

def State.camPort (s : State) (p : Nat) : CamPort := smGet (fun _ => {}) s.cam.ports p
def State.setCamPort (s : State) (p : Nat) (x : CamPort) : State :=
  { s with cam := { s.cam with ports := smSet (fun _ => {}) s.cam.ports p x } }
def State.modCamPort (s : State) (p : Nat) (f : CamPort → CamPort) : State := s.setCamPort p (f (s.camPort p))
def State.camSt (s : State) (p : Nat) : Nat := s.stCode (Reg.pageCAM p)
def State.setCamSt (s : State) (p st : Nat) : State :=
  ((s.setStCode (Reg.pageCAM p) st).ready (Reg.pageCAM p) (st == 4)).fault (Reg.pageCAM p) (st == 5)

/-! ## Blocks (R241, R242) -/

/-- Blocks as they leave on the return lane of a port: scrambled, with the IDLE blocks due; before them the scrambler after
it all and the blocks since the last IDLE. -/
def State.camCodedFor (s : State) (p : Nat) (bs : List (Nat × Nat)) : (Nat × Nat) × List (Nat × Nat) :=
  codeBlocks false ((s.camPort p).txScr.getD (nonzero 58 (Config.scramblerSeed (128 + p)))) (s.camPort p).sinceIdle bs

/-- What the return lane puts out for them, and their sending. -/
def State.camCoded (s : State) (p : Nat) (bs : List (Nat × Nat)) : Out := .camCoded p (s.camCodedFor p bs).2
def State.camTransmit (s : State) (p : Nat) (bs : List (Nat × Nat)) : State :=
  let r := (s.camCodedFor p bs).1
  (s.modCamPort p (fun x => { x with txScr := some r.1, sinceIdle := r.2 })).emit (s.camCoded p bs)

/-- The TRIG_NUM block of a frame number. -/
def trigNumBlock (num : Nat) : Nat := withCrc8 (0x66 + num % 65536 * 2 ^ 8)

/-- A CONTROL block that the receiver discards: of no type of R242, or a single block with a wrong CRC-8. -/
def camStray (v : Nat) : Bool :=
  let ty := v % 256
  !([0x1E, 0x2D, 0x33, 0x4B, 0x55, 0x66].contains ty) || ([0x1E, 0x2D, 0x55, 0x66].contains ty && !crc8Ok v)

/-- The CONTROL blocks among some that the receiver discards. -/
def camStrays (blocks : List (Nat × Nat)) : Nat := (blocks.filter (fun b => b.1 == controlHeader && camStray b.2)).length

/-- Count blocks discarded, invalid headers and skew errors in LINK_ERR_COUNT. -/
def State.linkErrs (s : State) (p n : Nat) : State :=
  let k := Reg.CAM_LINK_ERR_COUNT p
  if n = 0 then s else s.wr k (satAdd 32 (s.rd k) n)

/-! ## Packets (R244, R251): the fields of the header are those of CSI-2 (log 94) -/

/-- The packet header: [7:0] DI, [23:8] WC, [31:24] VCX and ECC. -/
def pktHeader (k : CamPacket) : Nat :=
  match k.blocks with
  | b :: _ => if b.1 = controlHeader ∧ b.2 % 256 = 0x33 then fld b.2 39 8 else 0xFF
  | [] => 0xFF
def pktType (k : CamPacket) : Nat := fld (pktHeader k) 5 0
def pktVc (k : CamPacket) : Nat := fld (pktHeader k) 7 6 + 4 * fld (pktHeader k) 31 30
def pktWc (k : CamPacket) : Nat := fld (pktHeader k) 23 8

/-- The payloads of its DATA blocks, VALID of its PKT_END, and how many of its blocks are discarded. -/
def pktData (k : CamPacket) : List Nat := (k.blocks.filter (fun b => b.1 == dataHeader)).map (·.2)
def pktValid (k : CamPacket) : Option Nat :=
  (k.blocks.find? (fun b => b.1 == controlHeader && b.2 % 256 == 0x4B)).map (fun b => fld b.2 10 8)
def pktStrays (k : CamPacket) : Nat :=
  (k.blocks.filter (fun b => b.1 == controlHeader && camStray b.2)).length

/-- A long packet whose block count and VALID agree with its WC. -/
def pktLengthOk (k : CamPacket) : Bool :=
  (pktData k).length == (pktWc k + 9) / 8 && pktValid k == some ((pktWc k + 2) % 8)

/-- Pixels of RAWn in a group: the high bytes of g pixels, then their low n - 8 bits (CSI-2). -/
def rawGroup (n : Nat) : Nat := if n = 8 then 1 else if n = 12 then 2 else 4
def unpackRaw (n : Nat) (bytes : List Byte) : List Nat :=
  let g := rawGroup n
  let w := g * n / 8
  (List.range (bytes.length / w * g)).map (fun i =>
    let b := bytes.drop (i / g * w)
    (b.getD (i % g) 0).toNat * 2 ^ (n - 8)
      + leValue ((b.drop g).take (w - g)) / 2 ^ ((n - 8) * (i % g)) % 2 ^ (n - 8))

/-- The pixels of a line of RAWn. -/
def pktPixels (k : CamPacket) (n : Nat) : List Nat :=
  unpackRaw n (((pktData k).flatMap (leBytes 8)).take (pktWc k))

/-! ## Frames and the stream map (R251 to R256) -/

/-- The map byte in force of a virtual channel: bit 7 EN, bits [3:0] CTX. -/
def mapByte (w v : Nat) : Nat := fld w (8 * (v % 4) + 7) (8 * (v % 4))
def State.streamMap (s : State) (p v : Nat) : Nat :=
  match ((s.camPort p).mapWait.find? (fun e => e.1 == v)).map (·.2) with
  | some old => old
  | none => mapByte (s.rd (Reg.CAM_STREAM_MAP p (v / 4))) v
def State.mapped (s : State) (p v : Nat) : Bool := bitOf (s.streamMap p v) 7
def State.enabledVcs (s : State) (p : Nat) : List Nat := (List.range 16).filter (s.mapped p)

/-- ISP.CTX_ACTIVE: contexts with a frame open. -/
def State.showActive (s : State) : State :=
  s.wrF Reg.ISP_CTX_ACTIVE 15 0 (maskOf ((List.range 2).flatMap (fun p =>
    ((s.camPort p).frames.filter (fun f => !f.ended && !f.dropped)).map (·.ctx))))

/-- The FIFO level of a port in bytes (R258), and the registers that show it. -/
def CamPort.level (x : CamPort) : Nat := (x.fifo.map (·.bytes)).foldl (· + ·) 0
def State.showFifo (s : State) (p : Nat) : State :=
  let n := (s.camPort p).level
  let s := s.wr (if p = 0 then Reg.ISP_FIFO_LEVEL0 else Reg.ISP_FIFO_LEVEL1) n
  let s := s.wr (Reg.CAM_FIFO_PEAK p) (max n (s.rd (Reg.CAM_FIFO_PEAK p)))
  if n * 4 > 262144 * 3 then s.intSet Reg.pageISP 8 else s

/-- Drop the open frame of a virtual channel for a cause (R252): its lines leave the FIFO, and its trigger has one result
less (R287). -/
def State.dropFrame (s : State) (p v cause : Nat) : State :=
  let x := s.camPort p
  match x.frames.find? (fun f => f.vc == v && !f.ended && !f.dropped) with
  | none => s
  | some f =>
    let s := s.setCamPort p { x with
      frames := x.frames.map (fun g => if g.id == f.id then { g with dropped := true, lines := [] } else g)
      fifo := x.fifo.filter (fun l => l.frame != f.id) }
    let s := (s.count (Reg.CAM_FRAME_DROPPED p)).wr (Reg.CAM_DROP_LAST p) (cause + v * 16 + f.num * 65536)
    let s := match f.rec_ with
      | some r => s.loseTrigger p r.plan 1 (s.enabledVcs p).length
      | none => s
    ((s.intSet (Reg.pageCAM p) 11).showFifo p).showActive
def State.dropAll (s : State) (p cause : Nat) : State := (List.range 16).foldl (fun s v => s.dropFrame p v cause) s

/-- The frame number of the next frame start of a port (R256). -/
def nextTrigNum (n : Nat) : Nat := if (n + 1) % 65536 = 0 then (n + 2) % 2 ^ 32 else (n + 1) % 2 ^ 32
def State.nextFrame (s : State) (p : Nat) : Nat :=
  match (s.camPort p).records with
  | r :: _ => r.num % 65536
  | [] => nextTrigNum (s.rd (Reg.CAM_TRIG_NUM p)) % 65536

/-- The port that a context is mapped to. -/
def State.ctxPort (s : State) (k : Nat) : Nat :=
  if (List.range 16).any (fun v => bitOf (s.streamMap 1 v) 7 && s.streamMap 1 v % 16 == k) then 1 else 0

/-! ## Frame-domain applies (R48, R254, R257) -/

/-- A frame-domain page is armed, and frame F is its target, lies past it, or the target had passed at the arm. -/
def State.frameDue (s : State) (page f : Nat) : Bool :=
  s.bit (Reg.SHADOW_CTRL page) 1
    && (s.latePage page || decide (0 ≤ sdiff 16 f (s.rd (Reg.ARM_TARGET page))))

/-- The apply of a STREAM_MAP: an entry that changes while its virtual channel has a frame open waits for
that channel's next FS. -/
def State.applyMap (s : State) (p : Nat) : State :=
  let openVcs := ((s.camPort p).frames.filter (fun f => !f.ended)).map (·.vc)
  let old := openVcs.map (fun v => (v, s.streamMap p v))
  (s.applyPage (Reg.pageCAM p)).modCamPort p (fun x => { x with mapWait := old })

/-- The apply of a context: its registers, and its tables from the aperture bank; LATE is kept for the
records of the set (R257, R269). -/
def State.applyCtx (s : State) (k : Nat) : State :=
  let page := Reg.pageISPCTX k
  let late := s.bit (Reg.SHADOW_CTRL page) 2
  let s := s.applyPage page
  let s := { s with cam := { s.cam with
    active := smSplice (k * 8192) ((k + 1) * 8192) s.cam.active s.cam.target
    late := (if late then [k] else []) ++ s.cam.late.filter (· != k) } }
  s.wrB (Reg.ISPCTX_TABLE_STATE k) 0 true

/-- The applies of the frame start of a bound frame. -/
def State.frameApplies (s : State) (p f : Nat) : State :=
  let s := if s.frameDue (Reg.pageCAM p) f then s.applyMap p else s
  if s.rdF Reg.ISP_ISP_CFG 0 0 = p ∧ s.frameDue Reg.pageISP f then s.applyPage Reg.pageISP else s

/-- Entries of a context's bank (R272): 32-bit word w, and 16-bit entry e of the words from `base` on. -/
def ispTableReset (k : Nat) : Nat :=
  let w := k % 8192
  if 0x1000 ≤ w ∧ w ≤ 0x1461 then 0x10001000
  else if w = 0x1800 then 8192 * 65536
  else if w = 0x1821 then 1024
  else if 0x1840 ≤ w ∧ w < 0x1940 then (w - 0x1840) * 0x01010101
  else 0
def ispWord (m : SMap Nat) (k w : Nat) : Nat := smGet ispTableReset m (k * 8192 + w)
def ispHalf (m : SMap Nat) (k base e : Nat) : Nat :=
  fld (ispWord m k (base + e / 2)) (16 * (e % 2) + 15) (16 * (e % 2))

/-- Why an arm of a context is refused (R257): DEFECT_ORDER, BAD_ZONES, BAD_CELL, on shadows and bank. -/
def State.ctxRefusal (s : State) (k : Nat) : Option Nat :=
  let sh r := s.shadowOf r
  let n := fld (sh (Reg.ISPCTX_DPC_CFG k)) 12 0
  let width := fld (sh (Reg.ISPCTX_GEOMETRY k)) 13 0
  let height := fld (sh (Reg.ISPCTX_GEOMETRY k)) 29 16
  let pos e := let w := ispWord s.cam.target k e; fld w 31 16 * 65536 + fld w 15 0
  let cols := fld (sh (Reg.ISPCTX_ZONE_CFG k)) 6 0
  let rows := fld (sh (Reg.ISPCTX_ZONE_CFG k)) 13 8
  let edge e := ispHalf s.cam.target k 0x1800 e
  let rises base n bound := !((List.range n).any (fun e => decide (edge (base + e + 1) ≤ edge (base + e))))
    && decide (edge (base + n) ≤ bound)
  let cw := fld (sh (Reg.ISPCTX_SHADING_CFG k)) 3 0
  let chh := fld (sh (Reg.ISPCTX_SHADING_CFG k)) 7 4
  if (List.range (n - 1)).any (fun e => decide (pos (e + 1) ≤ pos e)) then some 0x0102
  else if !(rises 0 cols width && rises 65 rows height) then some 0x0103
  else if 32 * 2 ^ cw < width ∨ 16 * 2 ^ chh < height then some 0x0104
  else none

/-- The strip triggers of a port that have been issued and whose records are not all in yield nothing (R53, R287). -/
def State.losePort (s : State) (p : Nat) : State :=
  let x := s.camPort p
  ((x.records ++ x.frames.filterMap (·.rec_)).map (·.plan)).foldl (fun s plan => s.loseTrigger p plan 16 0) s

/-! ## Port states (R245, R246) -/

/-- Leave UP or any other state for LOCK, POWER, FAULT or OFF: open frames are dropped with cause LINK. -/
def State.camLeave (s : State) (p st : Nat) : State :=
  let s := if s.camSt p = 4
    then (s.dropAll p 2).modCamPort p (fun x => { x with frames := x.frames.filter (·.ended) }) else s
  (s.modCamPort p (fun x => { x with aligned := 0 })).setCamSt p st

/-- The 24 V supply of a port: output pin 0x10 + p. -/
def State.camPower (s : State) (p : Nat) (on : Bool) : State :=
  (if on then s else s.wrB (Reg.CAM_POWER_STATUS p) 0 false).emit (.pin (0x10 + p) (b2n on))

def State.camEnable (s : State) (p : Nat) : State :=
  if s.camSt p = 0 ∧ s.modState ≠ 7 then ((s.camPower p true).camTransmit p [(controlHeader, idleBlock)]).setCamSt p 1 else s
def execCameraPortEnable (src : Req) (p : Fin 2) (s : State) : Res :=
  if s.cutOff src then .next s else
  .next ((s.wrB (Reg.CTRL (Reg.pageCAM p.val)) 0 true).camEnable p.val)

def State.camDisable (s : State) (p : Nat) : State :=
  let s := ((s.camLeave p 0).camPower p false).wrB (Reg.CAM_POWER_STATUS p) 1 false
  (s.modCamPort p (fun x => { x with locked := [] })).wrF (Reg.CAM_LANE_STATUS p) 3 0 0
def execCameraPortDisable (src : Req) (p : Fin 2) (s : State) : Res :=
  if s.cutOff src then .next s else
  .next ((s.wrB (Reg.CTRL (Reg.pageCAM p.val)) 0 false).camDisable p.val)

/-- POWER_SETTLE: power good for PORT_CFG.POWER_SETTLE; the current that is measured (log 64). -/
def execPowerSettle (p : Fin 2) (milliamps : Nat) (s : State) : Res :=
  if s.camSt p.val = 1 then
    .next (((s.wrF (Reg.CAM_POWER_STATUS p.val) 27 16 milliamps).wrB (Reg.CAM_POWER_STATUS p.val) 0 true).setCamSt p.val 2)
  else .next s

/-- POWER_FAULT: over-current (R246). -/
def execPowerFault (p : Fin 2) (milliamps : Nat) (s : State) : Res :=
  let p := p.val
  let st := s.camSt p
  let s := s.wrF (Reg.CAM_POWER_STATUS p) 27 16 milliamps
  if 1 ≤ st ∧ st ≤ 4 then
    let s := ((s.camLeave p 5).camPower p false).wrB (Reg.CAM_POWER_STATUS p) 1 true
    .next (s.intSet (Reg.pageCAM p) 16)
  else .next s

/-- LINK_TIMEOUT: 2.0 s in LOCK; the hunt continues. -/
def execLinkTimeout (p : Fin 2) (s : State) : Res :=
  if s.camSt p.val = 2 then .next (s.intSet (Reg.pageCAM p.val) 10) else .next s

/-- Blocks received on a locked camera lane: the first after block lock is discarded (R181, R241), and those that the
receiver discards count, as do invalid headers (R242, R273). -/
def State.camLaneBlocks (s : State) (p lane : Nat) (blocks : List (Nat × Nat)) : State :=
  let d := decodeBlocks (smGet (fun _ => none) (s.camPort p).rxScr lane) blocks
  let bad := (blocks.filter (fun b => !headerOk b.1)).length
  (s.modCamPort p (fun x => { x with rxScr := smSet (fun _ => none) x.rxScr lane d.1 })).linkErrs p (bad + camStrays d.2)

/-- Block lock on a camera lane, in LOCK and beyond: with all four in LOCK, DESKEW. -/
def State.camLockGained (s : State) (p lane : Nat) (blocks : List (Nat × Nat)) : State :=
  if s.camSt p < 2 ∨ s.camSt p = 5 then s
  else if (s.camPort p).locked.contains lane then s.camLaneBlocks p lane blocks
  else
    let s := s.modCamPort p (fun x => { x with
      locked := lane :: x.locked, rxScr := smSet (fun _ => none) x.rxScr lane none })
    let s := (s.wrB (Reg.CAM_LANE_STATUS p) lane true).camLaneBlocks p lane blocks
    if s.camSt p = 2 ∧ (s.camPort p).locked.length = 4 then s.setCamSt p 3 else s

/-- UP lost: LINK_DOWN, open frames dropped, back to LOCK. -/
def State.camDown (s : State) (p : Nat) : State := (s.intSet (Reg.pageCAM p) 9).camLeave p 2

/-- A camera lane loses block lock, with the invalid headers that have not been counted yet (R195, R245; log 98). -/
def State.camLockLost (s : State) (p lane errs : Nat) : State :=
  if (s.camPort p).locked.contains lane then
    let s := (s.linkErrs p errs).modCamPort p (fun x => { x with locked := x.locked.filter (· != lane) })
    let s := s.wrB (Reg.CAM_LANE_STATUS p) lane false
    if s.camSt p = 4 then s.camDown p else s
  else s

/-- ALIGN: the blocks of one slot of the four lanes, and their skew in slots. Blocks that make no set end the row of sets,
and those that the receiver discards count (R242; log 25). A set outside the skew in DESKEW returns to LOCK, where the
hunt begins anew (log 25). -/
def State.camAlign (s : State) (p : Nat) (blocks : List (Nat × Nat)) (skew : Nat) : State :=
  let k := Reg.CAM_LANE_STATUS p
  let st := s.camSt p
  if ¬ (st = 3 ∨ st = 4) then s
  else
    match readAlignSet blocks with
    | none => (s.modCamPort p (fun x => { x with aligned := 0 })).linkErrs p (camStrays blocks)
    | some (map, inverted) =>
      let s := s.wrF k 23 16 (max (s.rdF k 23 16) (min 255 skew))
      if skew > 16 then
        let s := s.count (Reg.CAM_LINK_ERR_COUNT p)
        if st = 3 then
          (((s.modCamPort p (fun x => { x with locked := [], aligned := 0 })).wrF k 3 0 0).setCamSt p 2)
        else s
      else
        let s := s.modCamPort p (fun x => { x with aligned := x.aligned + 1 })
        if st = 3 ∧ (s.camPort p).aligned ≥ 2 then
          (((s.wrF k 7 4 inverted).wrF k 15 8 map).setCamSt p 4 |>.intSet (Reg.pageCAM p) 8)
        else s

/-- ALIGN_TIMEOUT: two ALIGN intervals without ALIGN in UP; the hunt begins anew (log 25). -/
def execAlignTimeout (p : Fin 2) (s : State) : Res :=
  let p := p.val
  if s.camSt p = 4 then
    .next (((s.camDown p).modCamPort p (fun x => { x with locked := [] })).wrF (Reg.CAM_LANE_STATUS p) 3 0 0)
  else .next s

/-! ## Control channel (R247) -/

/-- The request block of the CCI registers. -/
def State.cciWord (s : State) (p : Nat) : Nat :=
  let c := s.rd (Reg.CAM_CCI_CMD p)
  withCrc8 (0x55 + fld c 8 8 * 2 ^ 9 + fld c 9 9 * 2 ^ 10 + fld c 6 0 * 2 ^ 16
    + s.rdF (Reg.CAM_CCI_REG p) 15 0 * 2 ^ 24 + s.rdF (Reg.CAM_CCI_DATA p) 15 0 * 2 ^ 40)

def State.cciGo (s : State) (src : Req) (p : Nat) : State :=
  if s.rdF (Reg.CAM_CCI_STATUS p) 2 0 = 1 then s.errAt (Reg.pageCAM p) 0x0102 (Reg.CAM_CCI_CMD p) src
  else
    let s := s.modCamPort p (fun x => { x with
      cci := some (s.rdF (Reg.CAM_CCI_CMD p) 6 0, s.rdF (Reg.CAM_CCI_REG p) 15 0) })
    ((s.wrF (Reg.CAM_CCI_STATUS p) 2 0 1).emit (.cci p (s.cciWord p))).camTransmit p [(controlHeader, s.cciWord p)]
def execCciGo (src : Req) (p : Fin 2) (s : State) : Res :=
  if s.cutOff src then .next s else
  .next (s.cciGo src p.val)

/-- A CCI block that answers the request in flight: REPLY with its device and register address. -/
def State.cciAnswers (s : State) (p block : Nat) : Bool :=
  block % 256 == 0x55 && bitOf block 8 && (s.camPort p).cci == some (fld block 22 16, fld block 39 24)

/-- CCI: a single block of the camera's stream between packets. One that the receiver discards counts in
LINK_ERR_COUNT (R242); the reply whose addresses are those of the request answers it. -/
def execCciReply (p : Fin 2) (block : Nat) (s : State) : Res :=
  let p := p.val
  if s.camSt p ≠ 3 ∧ s.camSt p ≠ 4 then .next s
  else if camStray block then .next (s.linkErrs p 1)
  else if s.camSt p = 3 then .next s
  else if s.rdF (Reg.CAM_CCI_STATUS p) 2 0 ≠ 1 ∨ ¬ s.cciAnswers p block then .next s
  else
    let nack := bitOf block 11
    let data := fld block 55 40
    let s := (s.modCamPort p (fun x => { x with cci := none })).wrF (Reg.CAM_CCI_STATUS p) 2 0 (if nack then 3 else 2)
    let s := if s.bit (Reg.CAM_CCI_CMD p) 8 && !nack then
      s.wrF (Reg.CAM_CCI_DATA p) 15 0 (if s.bit (Reg.CAM_CCI_CMD p) 9 then data else data % 256) else s
    .next (s.intSet (Reg.pageCAM p) 15)

/-- CCI_TIMEOUT: no reply within 10 ms. -/
def execCciTimeout (p : Fin 2) (s : State) : Res :=
  let p := p.val
  if s.rdF (Reg.CAM_CCI_STATUS p) 2 0 = 1 then
    .next (((s.modCamPort p (fun x => { x with cci := none })).wrF (Reg.CAM_CCI_STATUS p) 2 0 4).intSet (Reg.pageCAM p) 15)
  else .next s

/-! ## Triggers (R248 to R250, R255) -/

/-- A trigger that is not issued: TRIG_SKIPPED. The Scaler gets no result of it (R287). -/
def State.skipTrigger (s : State) (p cause plan : Nat) : State :=
  let s := if cause = 1 then s else s.loseTrigger p plan 0 0
  ((s.count (Reg.CAM_TRIG_SKIPPED p)).wr (Reg.CAM_TRIG_SKIP_LAST p) (cause + plan % 65536 * 65536)).intSet (Reg.pageCAM p) 14

/-- The event of a port's timer at t, with the capture-plan entry that it has consumed. -/
def State.trigger (s : State) (p : Nat) (entry : Option (Nat × Nat)) (t : Nat) : State :=
  match entry with
  | none => s.skipTrigger p 1 0
  | some (plan, e) =>
    let x := s.camPort p
    let gap := usClk (s.rdF (Reg.CAM_TRIG_CFG p) 31 16)
    let busy := match x.fall with
      | some f => decide (t < f + gap)
      | none => false
    if s.camSt p ≠ 4 then (s.lampDiscard p).skipTrigger p 2 plan
    else if busy then (s.lampDiscard p).skipTrigger p 3 plan
    else if x.records.length ≥ 16 then (s.lampDiscard p).skipTrigger p 4 plan
    else
      let s := (List.range 64).foldl State.abortProbe s
      let n := nextTrigNum (s.rd (Reg.CAM_TRIG_NUM p))
      let (s, band, cur) := s.strobe p plan e t
      let r : TrigRecord := {
        num := n, frc := t, line := s.rd Reg.LINE_CURRENT_LINE, plan := plan, expNs := e
        band := band, current := cur }
      let s := s.modCamPort p (fun x => { x with records := x.records ++ [r], fall := some (t + nsClk e) })
      let s := (s.wr (Reg.CAM_TRIG_NUM p) n).emits [.camTrigger p n t (nsClk e), .trigNum p (trigNumBlock n)]
      s.camTransmit p [(controlHeader, trigNumBlock n)]

/-- TRIGGER_RECORD_TIMEOUT: the oldest record is retired, each missing virtual channel counted. -/
def execTriggerRecordTimeout (p : Fin 2) (s : State) : Res :=
  let p := p.val
  match (s.camPort p).records with
  | [] => .next s
  | r :: rs =>
    let n := ((s.enabledVcs p).filter (fun v => !r.seen.contains v)).length
    let s := s.modCamPort p (fun x => { x with records := rs })
    if n = 0 then .next s else
    let s := s.loseTrigger p r.plan n (s.enabledVcs p).length
    .next ((s.wr (Reg.CAM_FRAME_MISSING p) (satAdd 32 (s.rd (Reg.CAM_FRAME_MISSING p)) n)).intSet (Reg.pageCAM p) 13)

/-! ## Frames (R252, R253, R255, R258) -/

/-- Bind an FS: the outstanding record of its frame number, which is retired once every enabled virtual channel has
delivered an FS for it. -/
def State.bind (s : State) (p v num : Nat) : State × Option TrigRecord :=
  let x := s.camPort p
  match x.records.find? (fun r => r.num % 65536 == num) with
  | none => (s, none)
  | some r =>
    let r' := { r with seen := r.seen.filter (· != v) ++ [v] }
    let all := (s.enabledVcs p).all r'.seen.contains
    (s.setCamPort p { x with
      records := if all then x.records.filter (·.num != r.num)
        else x.records.map (fun q => if q.num == r.num then r' else q) }, some r)

/-- An FS. A frame still open on the virtual channel is dropped with NO_FE. -/
def State.frameStart (s : State) (p v num : Nat) : State :=
  if s.camSt p ≠ 4 then s
  else
    let known := (s.camPort p).records.any (fun r => r.num % 65536 == num)
    let s := if known then s.frameApplies p num else s
    let s := s.dropFrame p v 7
    let s := s.modCamPort p (fun x => { x with
      frames := x.frames.filter (fun f => f.vc != v || f.ended), mapWait := x.mapWait.filter (·.1 != v) })
    if !s.mapped p v then s.count (Reg.CAM_DISCARD_COUNT p)
    else
      let k := s.streamMap p v % 16
      let (s, r) := s.bind p v num
      let page := Reg.pageISPCTX k
      let s := if r.isSome && s.frameDue page num then s.applyCtx k else s
      let s := match r with
        | some _ => s.count (Reg.CAM_FRAMES_BOUND p)
        | none => ((s.count (Reg.CAM_UNMATCHED p)).wr (Reg.CAM_UNMATCHED_LAST p) (num + v * 65536)).intSet (Reg.pageCAM p) 12
      let f : CamFrame := {
        id := (s.camPort p).nextId, vc := v, num := num, ctx := k, fsFrc := s.frc, rec_ := r
        regs := s.regs.filter (fun e => e.1 / 0x1000 == page)
        tables := s.cam.active.filter (fun e => e.1 / 8192 == k)
        gen := s.rdF (Reg.SHADOW_CTRL page) 23 16, late := s.cam.late.contains k }
      (s.modCamPort p (fun x => { x with frames := x.frames ++ [f], nextId := x.nextId + 1 })).showActive

/-- A corrected header error of a packet (R252). -/
def State.headerFix (s : State) (p : Nat) (corrected : Bool) : State :=
  if corrected ∧ s.camSt p = 4 then s.count (Reg.CAM_HDR_ECC_CORR p) else s

/-- FRAME_START. -/
def execFrameStart (p : Fin 2) (vc : Fin 16) (num : Nat) (corrected : Bool) (t : Nat) (s : State) : Res :=
  .next (((s.till t).headerFix p.val corrected).frameStart p.val vc.val (num % 65536))

/-- A register of the parameter set of a frame. -/
def CamFrame.rd (f : CamFrame) (k : Nat) : Nat := (smGet resetOf f.regs k).toNat
def CamFrame.width (f : CamFrame) : Nat := fld (f.rd (Reg.ISPCTX_GEOMETRY f.ctx)) 13 0
def CamFrame.height (f : CamFrame) : Nat := fld (f.rd (Reg.ISPCTX_GEOMETRY f.ctx)) 29 16
def CamFrame.cfg (f : CamFrame) : Nat := f.rd (Reg.ISPCTX_CTX_CFG f.ctx)
def CamFrame.bits (f : CamFrame) : Nat := 8 + 2 * fld f.cfg 1 0

/-- A frame whose FE has come and whose lines the ISP has all taken goes on to publication. -/
def State.frameFinish (s : State) (p id : Nat) : State :=
  let x := s.camPort p
  match x.frames.find? (fun f => f.id == id && f.ended && f.lines.length == f.height) with
  | none => s
  | some f =>
    let s := s.setCamPort p { x with frames := x.frames.filter (fun g => g.id != id) }
    (if f.rec_.isSome then { s with cam := { s.cam with done := s.cam.done ++ [(p, f)] } } else s).showActive

/-- Change the open frame of a virtual channel. -/
def State.modFrame (s : State) (p v : Nat) (g : CamFrame → CamFrame) : State :=
  s.modCamPort p (fun x => { x with frames := x.frames.map (fun f => if f.vc == v && !f.ended then g f else f) })

/-- A line start or a line end (R253): an unpaired one is a GEOMETRY error. -/
def State.lineMark (s : State) (p v : Nat) (start : Bool) (f : CamFrame) : State :=
  if f.lineOpen = start then s.dropFrame p v 5
  else s.modFrame p v (fun f => { f with lineOpen := start, lineHas := false })

/-- A long packet of an open frame: its checks, then the FIFO. With LS_LE_REQ each line stands alone between its line
start and its line end (R276). -/
def State.linePut (s : State) (p v : Nat) (k : CamPacket) (f : CamFrame) : State :=
  let drop cause := s.dropFrame p v cause
  if !k.crcOk || !pktLengthOk k then drop 4
  else if (pktType k) ≠ 0x2A + fld f.cfg 1 0 then drop 6
  else if 8 * pktWc k ≠ f.width * f.bits ∨ f.received ≥ f.height ∨ (bitOf f.cfg 12 ∧ ¬ (f.lineOpen ∧ ¬ f.lineHas)) then drop 5
  else if (s.camPort p).level + pktWc k > 262144 then drop 1
  else
    let l : FifoLine := { frame := f.id, bytes := pktWc k, pixels := (pktPixels k f.bits).map (· * 2 ^ (14 - f.bits)) }
    let s := s.modCamPort p (fun x => { x with fifo := x.fifo ++ [l] })
    (s.modFrame p v (fun f => { f with received := f.received + 1, lineHas := true })).showFifo p

/-- An FE closes the frame; another line count than HEIGHT is GEOMETRY. On a channel that no stream map entry enables it
is discarded and counted (R251). -/
def State.frameEnd (s : State) (p v : Nat) : State :=
  match (s.camPort p).frames.find? (fun f => f.vc == v && !f.ended) with
  | none => if s.camSt p = 4 ∧ ¬ s.mapped p v then s.count (Reg.CAM_DISCARD_COUNT p) else s
  | some f =>
    let s := if !f.dropped && (f.received != f.height || f.lineOpen) then s.dropFrame p v 5 else s
    let s := s.modCamPort p (fun x => { x with
      frames := (x.frames.map (fun g => if g.id == f.id then { g with ended := true } else g)).filter (!·.dropped) })
    (s.frameFinish p f.id).showActive

/-- FRAME_END. -/
def execFrameEnd (p : Fin 2) (vc : Fin 16) (_num : Nat) (corrected : Bool) (s : State) : Res :=
  .next ((s.headerFix p.val corrected).frameEnd p.val vc.val)

/-- A packet whose header is good, by its data type (R251). -/
def State.packet (s : State) (p : Nat) (k : CamPacket) : State :=
  let v := pktVc k
  let ty := pktType k
  if ty = 0x00 then s.frameStart p v (pktWc k)
  else if ty = 0x01 then s.frameEnd p v
  else if ¬ (0x2A ≤ ty ∧ ty ≤ 0x2D ∨ ty = 0x02 ∨ ty = 0x03) ∨ ¬ s.mapped p v then s.count (Reg.CAM_DISCARD_COUNT p)
  else match (s.camPort p).frames.find? (fun f => f.vc == v && !f.ended && !f.dropped) with
    | none => s
    | some f => if ty ≤ 0x03 then s.lineMark p v (ty == 0x02) f else s.linePut p v k f

/-- LINE_PACKET: a packet of the camera's stream. -/
def execLinePacket (p : Fin 2) (pkt : CamPacket) (s : State) : Res :=
  let p := p.val
  if s.camSt p ≠ 4 then .next s
  else
    let s := s.linkErrs p (pktStrays pkt)
    if pkt.eccBad then .next (if pkt.vcKnown then s.dropFrame p (pktVc pkt) 3 else s.dropAll p 3)
    else .next ((s.headerFix p pkt.eccCorrected).packet p pkt)

/-- FRAME_TIMEOUT: no FE within FRAME_TIMEOUT of FS. -/
def execFrameTimeout (p : Fin 2) (vc : Fin 16) (s : State) : Res := .next (s.dropFrame p.val vc.val 8)

/-- The port whose line the ISP takes next (R259): the other one, if it has a line. -/
def State.ispPort (s : State) : Nat :=
  let o := 1 - s.cam.last
  if (s.camPort o).fifo.isEmpty then s.cam.last else o

/-- The cost of a line in core clocks (R259). -/
def lineCost (width : Nat) : Nat := (width + 1) / 2 + 8

/-- LOAD: the busy fraction of the last 100 ms, in 0.1 %, rounded down (R274, log 64). -/
def State.ispLoad (s : State) : Nat :=
  min 1000 (((s.cam.busy.filter (fun e => decide (s.frc < e.1 + 80000000))).map (·.2)).foldl (· + ·) 0 / 80000)

/-- ISP_LINE: the ISP takes the next line of the port whose turn it is. -/
def execIspLine (p : Fin 2) (s : State) : Res :=
  let p := p.val
  if s.ispPort ≠ p then .next s
  else match (s.camPort p).fifo with
    | [] => .next s
    | l :: ls =>
      let s := s.modCamPort p (fun x => { x with
        fifo := ls
        frames := x.frames.map (fun f =>
          if f.id == l.frame && !f.dropped then { f with lines := f.lines ++ [l.pixels] } else f) })
      let s := { s with cam := { s.cam with
        last := p, busy := (s.frc, lineCost l.pixels.length) :: s.cam.busy.filter (fun e => decide (s.frc < e.1 + 80000000)) } }
      let n := s.rd64 Reg.ISP_PIXELS_LO Reg.ISP_PIXELS_HI + l.pixels.length
      .next (((s.wr64 Reg.ISP_PIXELS_LO Reg.ISP_PIXELS_HI n).showFifo p).frameFinish p l.frame)

/-- ISP_TABLE_SYNC_DONE: the new tables are back in the aperture bank (R257). -/
def execIspTableSyncDone (ctx : Fin 16) (s : State) : Res := .next (s.wrB (Reg.ISPCTX_TABLE_STATE ctx.val) 0 false)

end Sys2Proof.Machine
end

