-- ==== Sys2Proof/Machine/Isp.lean ====
section
/-! DEFINITION. The image pipeline and its statistics (R261 to R272, R277). Every stage is the function of
the whole frame that the manual gives; an image is a list of rows of 14-bit values. -/

namespace Sys2Proof.Machine

/-- A pixel of an image; 0 outside it. -/
def pix (im : List (List Nat)) (x y : Nat) : Nat := (im.getD y []).getD x 0

/-- The image with a value at every place. -/
def tab (w h : Nat) (f : Nat → Nat → Nat) : List (List Nat) :=
  (List.range h).map (fun y => (List.range w).map (fun x => f x y))

/-- The CFA channel of a place, and 16-bit half ch of a pair of registers. -/
def cfaCh (x y : Nat) : Nat := y % 2 * 2 + x % 2
def CamFrame.pair (f : CamFrame) (k0 k1 ch : Nat) : Nat :=
  let w := f.rd (if ch < 2 then k0 else k1)
  fld w (16 * (ch % 2) + 15) (16 * (ch % 2))

def clamp14 (x : Int) : Nat := (clampI 0 16383 x).toNat

/-- CFA: MONO, or the colour 0 red, 1 green, 2 blue of each channel (R276). -/
def CamFrame.cfa (f : CamFrame) : Nat := fld f.cfg 4 2
def CamFrame.mono (f : CamFrame) : Bool := f.cfa == 0
def CamFrame.colour (f : CamFrame) (x y : Nat) : Nat :=
  let l := if f.cfa = 4 then [0, 1, 1, 2] else if f.cfa = 5 then [1, 0, 2, 1] else if f.cfa = 6 then [1, 2, 0, 1]
    else [2, 1, 1, 0]
  l.getD (cfaCh x y) 0

/-- Distance to the next pixel of the same colour in a row. -/
def CamFrame.stride (f : CamFrame) : Nat := if f.mono then 1 else 2

/-- Black level (R262). -/
def stageBlack (f : CamFrame) (im : List (List Nat)) : List (List Nat) :=
  tab f.width f.height (fun x y =>
    pix im x y - f.pair (Reg.ISPCTX_BLACK01 f.ctx) (Reg.ISPCTX_BLACK23 f.ctx) (cfaCh x y) % 2 ^ 14)

/-- Static defects (R263) and how many were replaced. -/
def stageStatic (f : CamFrame) (im : List (List Nat)) : List (List Nat) × Nat :=
  if !bitOf f.cfg 8 then (im, 0)
  else
    let n := fld (f.rd (Reg.ISPCTX_DPC_CFG f.ctx)) 12 0
    let bad := ((List.range n).map (fun e => let w := ispWord f.tables f.ctx e; (fld w 15 0, fld w 31 16))).filter
      (fun p => p.1 < f.width && p.2 < f.height)
    let d := f.stride
    (tab f.width f.height (fun x y =>
      if bad.contains (x, y) then
        if x < d then pix im (x + d) y
        else if x + d ≥ f.width then pix im (x - d) y
        else (pix im (x - d) y + pix im (x + d) y) / 2
      else pix im x y), bad.length)

/-- The eight neighbours of the same colour. -/
def around (im : List (List Nat)) (d x y : Nat) : List Nat :=
  [pix im (x - d) (y - d), pix im x (y - d), pix im (x + d) (y - d), pix im (x - d) y, pix im (x + d) y,
   pix im (x - d) (y + d), pix im x (y + d), pix im (x + d) (y + d)]

/-- Sorting by insertion. -/
def insertNat (a : Nat) : List Nat → List Nat
  | [] => [a]
  | b :: l => if a ≤ b then a :: b :: l else b :: insertNat a l
def sortNat (l : List Nat) : List Nat := l.foldr insertNat []

/-- The dynamic test of one pixel: its replacement, if it is replaced (R263). -/
def dynamicFix (f : CamFrame) (im : List (List Nat)) (x y : Nat) : Option Nat :=
  let d := f.stride
  if x < d ∨ y < d ∨ x + d ≥ f.width ∨ y + d ≥ f.height then none
  else
    let n := sortNat (around im d x y)
    let thr := fld (f.rd (Reg.ISPCTX_DPC_CFG f.ctx)) 29 16
    let p := pix im x y
    if p > n.getD 7 0 + thr ∨ p + thr < n.getD 0 0 then some ((n.getD 3 0 + n.getD 4 0) / 2) else none

def stageDynamic (f : CamFrame) (im : List (List Nat)) : List (List Nat) × Nat :=
  if !bitOf f.cfg 9 then (im, 0)
  else
    (tab f.width f.height (fun x y => (dynamicFix f im x y).getD (pix im x y)),
     (((List.range f.height).map (fun y => ((List.range f.width).filter (fun x => (dynamicFix f im x y).isSome)).length))).foldl (· + ·) 0)

/-- Lens shading (R264). -/
def stageShading (f : CamFrame) (im : List (List Nat)) : List (List Nat) :=
  if !bitOf f.cfg 10 then im
  else
    let sc := f.rd (Reg.ISPCTX_SHADING_CFG f.ctx)
    let cw := fld sc 3 0
    let chh := fld sc 7 4
    tab f.width f.height (fun x y =>
      let i := x / 2 ^ cw
      let j := y / 2 ^ chh
      let fx := x % 2 ^ cw
      let fy := y % 2 ^ chh
      let g (a b : Nat) := ispHalf f.tables f.ctx 0x1000 ((cfaCh x y * 17 + b) * 33 + a)
      let v := ((g i j * (2 ^ cw - fx) + g (i + 1) j * fx) * (2 ^ chh - fy)
        + (g i (j + 1) * (2 ^ cw - fx) + g (i + 1) (j + 1) * fx) * fy + 2 ^ (cw + chh - 1)) / 2 ^ (cw + chh)
      min 16383 ((pix im x y * v + 2048) / 4096))

/-- White balance (R265). -/
def stageWb (f : CamFrame) (im : List (List Nat)) : List (List Nat) :=
  tab f.width f.height (fun x y =>
    min 16383 ((pix im x y * f.pair (Reg.ISPCTX_WB01 f.ctx) (Reg.ISPCTX_WB23 f.ctx) (cfaCh x y) + 2048) / 4096))

/-- An index mirrored at the edges 0 and n - 1. -/
def mirrorIx (n : Nat) (i : Int) : Nat :=
  let m := (i.emod (2 * (n - 1) : Nat)).toNat
  if n ≤ 1 then 0 else if m < n then m else 2 * (n - 1) - m

/-- Green at a red or blue site, chosen by gradient (R266). -/
def greenAt (f : CamFrame) (im : List (List Nat)) (x y : Nat) : Nat :=
  let p (dx dy : Int) : Int := pix im (mirrorIx f.width (x + dx)) (mirrorIx f.height (y + dy))
  let c := p 0 0
  let dh := (p (-1) 0 - p 1 0).natAbs + (2 * c - p (-2) 0 - p 2 0).natAbs
  let dv := (p 0 (-1) - p 0 1).natAbs + (2 * c - p 0 (-2) - p 0 2).natAbs
  let gh := (2 * (p (-1) 0 + p 1 0) + 2 * c - p (-2) 0 - p 2 0) / 4
  let gv := (2 * (p 0 (-1) + p 0 1) + 2 * c - p 0 (-2) - p 0 2) / 4
  clamp14 (if dh < dv then gh else if dv < dh then gv else (gh + gv) / 2)

/-- Demosaic: the three colour planes (R266). -/
def stageDemosaic (f : CamFrame) (im : List (List Nat)) : List (List (List Nat)) :=
  let w := f.width
  let h := f.height
  let grn := tab w h (fun x y => if f.colour x y = 1 then pix im x y else greenAt f im x y)
  let diff (x y : Nat) (dx dy : Int) : Int :=
    let a := mirrorIx w (x + dx)
    let b := mirrorIx h (y + dy)
    (pix im a b : Int) - pix grn a b
  let col (k : Nat) := tab w h (fun x y =>
    let g : Int := pix grn x y
    if f.colour x y = k then pix im x y
    else if f.colour x y = 1 then
      if f.colour (x + 1) y = k then clamp14 (g + (diff x y (-1) 0 + diff x y 1 0) / 2)
      else clamp14 (g + (diff x y 0 (-1) + diff x y 0 1) / 2)
    else clamp14 (g + (diff x y (-1) (-1) + diff x y 1 (-1) + diff x y (-1) 1 + diff x y 1 1) / 4))
  [col 0, grn, col 2]

/-- Coefficient c_ij of the colour matrix. -/
def CamFrame.ccm (f : CamFrame) (n : Nat) : Int :=
  let k := [Reg.ISPCTX_CCM0 f.ctx, Reg.ISPCTX_CCM1 f.ctx, Reg.ISPCTX_CCM2 f.ctx, Reg.ISPCTX_CCM3 f.ctx,
    Reg.ISPCTX_CCM4 f.ctx].getD (n / 2) 0
  sgn 16 (fld (f.rd k) (16 * (n % 2) + 15) (16 * (n % 2)))

/-- Colour matrix (R267). -/
def stageCcm (f : CamFrame) (ims : List (List (List Nat))) : List (List (List Nat)) :=
  if !bitOf f.cfg 11 then ims
  else
    (List.range 3).map (fun i => tab f.width f.height (fun x y =>
      clamp14 ((((List.range 3).map (fun j => f.ccm (3 * i + j) * (pix (ims.getD j []) x y : Int))).foldl (· + ·) 0 + 2048) / 4096)))

/-- The output of the stages: one plane for MONO, three for Bayer; static and dynamic replacements. -/
def ispOutput (f : CamFrame) : List (List (List Nat)) × Nat × Nat :=
  let (a, ns) := stageStatic f (stageBlack f f.lines)
  let (b, nd) := stageDynamic f a
  let c := stageWb f (stageShading f b)
  (if f.mono then [c] else stageCcm f (stageDemosaic f c), ns, nd)

/-! ## Statistics (R268, R269) -/

/-- Channel 0 to 3 at a place (R268). -/
def statCh (ims : List (List (List Nat))) (ch x y : Nat) : Nat :=
  match ims with
  | [r, g, b] => if ch = 3 then (77 * pix r x y + 150 * pix g x y + 29 * pix b x y + 128) / 256
    else pix (ims.getD ch []) x y
  | [m] => if ch = 0 then pix m x y else 0
  | _ => 0

/-- Every value of a channel. -/
def statValues (f : CamFrame) (ims : List (List (List Nat))) (ch : Nat) : List Nat :=
  (List.range f.height).flatMap (fun y => (List.range f.width).map (fun x => statCh ims ch x y))

/-- The 1,024 histogram words. -/
def histWords (f : CamFrame) (ims : List (List (List Nat))) : List Nat :=
  if !bitOf f.cfg 13 then List.replicate 1024 0
  else (List.range 4).flatMap (fun ch =>
    let v := statValues f ims ch
    (List.range 256).map (fun b => (v.filter (fun p => p / 64 == b)).length))

def CamFrame.zoneCols (f : CamFrame) : Nat := fld (f.rd (Reg.ISPCTX_ZONE_CFG f.ctx)) 6 0
def CamFrame.zoneRows (f : CamFrame) : Nat := fld (f.rd (Reg.ISPCTX_ZONE_CFG f.ctx)) 13 8

/-- The five words of a zone: MEAN0 to MEAN3, SAT. -/
def zoneWords (f : CamFrame) (ims : List (List (List Nat))) (r c : Nat) : List Nat :=
  let edge e := ispHalf f.tables f.ctx 0x1800 e
  let xs := (List.range f.width).filter (fun x => edge c ≤ x && x < edge (c + 1))
  let ys := (List.range f.height).filter (fun y => edge (65 + r) ≤ y && y < edge (66 + r))
  let n := atLeast1 (xs.length * ys.length)
  let places := ys.flatMap (fun y => xs.map (fun x => (x, y)))
  let sum ch := (places.map (fun p => statCh ims ch p.1 p.2)).foldl (· + ·) 0
  let level := fld (f.rd (Reg.ISPCTX_SAT_LEVEL f.ctx)) 13 0
  (List.range 4).map (fun ch => (2 * sum ch * 65536 + n) / (2 * n))
    ++ [min 65535 (places.filter (fun p => level ≤ pix f.lines p.1 p.2)).length]

def zoneArea (f : CamFrame) (ims : List (List (List Nat))) : List Nat :=
  if !bitOf f.cfg 14 then List.replicate (5 * f.zoneRows * f.zoneCols) 0
  else (List.range f.zoneRows).flatMap (fun r => (List.range f.zoneCols).flatMap (fun c => zoneWords f ims r c))

/-- The words of a record; `slot` is the output slot written. -/
def recordWords (f : CamFrame) (r : TrigRecord) (port seq : Nat) (slot : Option Nat) : List Nat :=
  let (ims, ns, nd) := ispOutput f
  let head crc := [
    f.num + f.ctx * 2 ^ 16 + port * 2 ^ 20 + f.gen * 2 ^ 24, r.num, r.frc % 2 ^ 32, r.frc / 2 ^ 32 % 2 ^ 32,
    f.fsFrc % 2 ^ 32, f.fsFrc / 2 ^ 32 % 2 ^ 32, r.line, r.plan + r.band * 2 ^ 16, r.expNs,
    r.current + b2n f.late * 2 ^ 16 + b2n slot.isNone * 2 ^ 17, ns, nd,
    f.zoneCols + f.zoneRows * 2 ^ 8 + slot.getD 0 * 2 ^ 16, seq, 4224 + 20 * f.zoneRows * f.zoneCols, crc]
  let tail := List.replicate 16 0 ++ histWords f ims ++ zoneArea f ims
  head (crc32c (wordBytes (head 0 ++ tail))) ++ tail

/-! ## Output and publication (R270, R271) -/

/-- Bytes of one output slot, and of the samples of a frame. -/
def CamFrame.pix8 (f : CamFrame) : Bool := fld f.cfg 17 16 == 1
def CamFrame.slotBytes (f : CamFrame) : Nat :=
  (f.width * f.height * (if f.mono then 1 else 3) * (if f.pix8 then 1 else 2) + 4095) / 4096 * 4096
def outCurve (f : CamFrame) (v : Nat) : Nat :=
  fld (ispWord f.tables f.ctx (0x1840 + v / 64)) (8 * (v / 16 % 4) + 7) (8 * (v / 16 % 4))
def outBytes (f : CamFrame) : List Byte :=
  let ims := (ispOutput f).1
  (List.range f.height).flatMap (fun y => (List.range f.width).flatMap (fun x => ims.flatMap (fun im =>
    if f.pix8 then leBytes 1 (outCurve f (pix im x y)) else leBytes 2 (pix im x y))))

/-- The address of an output slot of a context in region 57. -/
def State.outAddr (s : State) (f : CamFrame) (slot : Nat) : Nat :=
  (s.rd (Reg.YARD_REG_BASE 57) + fld (f.rd (Reg.ISPCTX_OUT_BASE f.ctx)) 18 0) * 4096 + slot * f.slotBytes

/-- Write the frame output: the slot written, if any. -/
def State.writeOutput (s : State) (f : CamFrame) : State × Option Nat :=
  let n := fld (f.rd (Reg.ISPCTX_OUT_SLOTS f.ctx)) 7 0
  if n = 0 ∨ ¬ s.bit Reg.ISP_OUT_MASK f.ctx then (s, none)
  else
    let slot := smGet (fun _ => 0) s.cam.outNext f.ctx % n
    let t := { s with cam := { s.cam with outNext := smSet (fun _ => 0) s.cam.outNext f.ctx ((slot + 1) % n) } }
    if s.inRegion 57 (s.outAddr f slot) f.slotBytes then (t.dramWrite 2 (s.outAddr f slot) (outBytes f), some slot)
    else (t, none)

/-- The record ring: slots, indices, unread host records. -/
def State.ringSlots (s : State) : Nat := atLeast1 (s.rdF Reg.STATS_RING_SLOTS 13 0)
def State.recordAddr (s : State) (i : Nat) : Nat :=
  (s.rd (Reg.YARD_REG_BASE 58) + s.rdF Reg.STATS_RING_BASE 16 0) * 4096 + i * 49152
def State.scalerEn (s : State) : Bool := s.bit Reg.STATS_STATS_CFG 0
def ringGap (n w r : Nat) : Nat := (w + n - r) % atLeast1 n
def State.showRecords (s : State) : State :=
  let th := s.rdF Reg.STATS_STATS_CFG 29 16
  let n := ringGap s.ringSlots (s.rd Reg.STATS_WRITE_IDX) (s.rd Reg.STATS_READ_IDX_HOST)
  if th ≠ 0 ∧ n ≥ th then s.intSet Reg.pageSTATS 8 else s

/-- STATS_RECORD_PUBLISH: the oldest processed frame of a context. -/
def execStatsRecordPublish (ctx : Fin 16) (s : State) : Res :=
  let k := ctx.val
  match s.cam.done.find? (fun e => e.2.ctx == k) with
  | none => .next s
  | some (port, f) =>
    let s := { s with cam := { s.cam with done := s.cam.done.erase (port, f) } }
    match f.rec_ with
    | none => .next s
    | some r =>
      let w := s.rd Reg.STATS_WRITE_IDX
      let nx := (w + 1) % s.ringSlots
      if nx = s.rd Reg.STATS_READ_IDX_HOST ∨ (s.scalerEn ∧ nx = s.rd Reg.STATS_READ_IDX_SCALER)
          ∨ ¬ s.inRegion 58 (s.recordAddr w) 49152 then
        .next (((s.count Reg.STATS_OVERFLOW).intSet Reg.pageSTATS 9).loseTrigger port r.plan 1 (s.enabledVcs port).length)
      else
        let (s, slot) := s.writeOutput f
        let s := s.dramWrite 2 (s.recordAddr w) (wordBytes (recordWords f r port s.cam.seq slot))
        let s := { s with cam := { s.cam with seq := (s.cam.seq + 1) % 2 ^ 32 } }
        let s := (s.wr Reg.STATS_WRITE_IDX nx).count Reg.STATS_PUBLISHED
        let s := (s.count (Reg.ISPCTX_FRAMES k)).wr (Reg.ISPCTX_LAST_FRAME k) (f.num + slot.getD 0 * 65536)
        .next ((s.intSet Reg.pageISPCTX_PORT 8).showRecords)

/-- READ_IDX_HOST (R277): an index beyond WRITE_IDX around the ring is discarded. -/
def State.readIdxHost (s : State) (src : Req) (data : Nat) : State :=
  let n := s.ringSlots
  let r := s.rd Reg.STATS_READ_IDX_HOST
  let v := data % 2 ^ 14
  if v ≥ n ∨ ringGap n v r > ringGap n (s.rd Reg.STATS_WRITE_IDX) r then
    s.errAt Reg.pageSTATS 0x0102 Reg.STATS_READ_IDX_HOST src
  else (s.wr Reg.STATS_READ_IDX_HOST v).showRecords
def execReadIdxHostWrite (src : Req) (data : Nat) (s : State) : Res :=
  if s.cutOff src then .next s else
  .next (s.readIdxHost src data)

end Sys2Proof.Machine
end

