-- ==== Sys2Proof/Machine/Strip.lean ====
section
/-! DEFINITION. The control strip: its layout and its triggers (R278 to R290). -/

namespace Sys2Proof.Machine

/-! ## Layout (R278, R279) -/

def State.stripEn (s : State) : Bool := s.bit Reg.SCALER_SCALER_CFG 0
def State.dense (s : State) : Bool := s.bit Reg.SCALER_SCALER_CFG 1
def State.measureEn (s : State) : Bool := s.bit Reg.SCALER_SCALER_CFG 5
def State.stripPlanes (s : State) : List Nat := bitsOf 8 (s.rdF Reg.SCALER_SCALER_CFG 15 8)
def State.stripReps (s : State) : Nat := if s.dense then 12 else 1
def State.whiteLines (s : State) : Nat := s.rdF Reg.SCALER_STRIP_LINES 11 0
def State.patchLines (s : State) : Nat := s.rdF Reg.SCALER_STRIP_LINES 27 16
def State.markLines (s : State) : Nat := s.rdF Reg.SCALER_MARK_CFG 11 0
def State.stairStep (s : State) : Nat := s.rdF Reg.SCALER_MARK_CFG 27 16
def State.stripPeriod (s : State) : Nat := s.rdF Reg.SCALER_STRIP_PERIOD 23 0

/-- Lines of the patch rows and of the staircase. -/
def State.patchRows (s : State) : Nat := s.stripPlanes.length * s.stripReps * s.patchLines
def State.stairLines (s : State) : Nat := s.stripPlanes.length * 16 * s.stairStep

/-- Strip n has a staircase: by STAIR_EVERY, or forced (R284). -/
def State.hasStair (s : State) (n : Nat) : Bool :=
  let e := s.rdF Reg.SCALER_STAIR_CFG 7 0
  (e != 0 && n % e == e - 1) || s.colour.forced.contains n

def State.stripLen (s : State) (stair : Bool) : Nat :=
  s.whiteLines + s.patchRows + s.markLines + (if stair then s.stairLines else 0)

/-- The first image line of strip n. -/
def State.stripStart (s : State) (n : Nat) : Nat := ladd (s.rd Reg.SCALER_STRIP_ORIGIN) (n * s.stripPeriod : Nat)

/-- The strip counted from STRIP_NUM in which an image line lies or which it follows, and the line's distance
from its start. -/
def State.stripPhase (s : State) (i : Nat) : Int × Nat :=
  let n := s.rd Reg.SCALER_STRIP_NUM
  let e := ldiff i (s.stripStart n)
  let p : Int := atLeast1 s.stripPeriod
  ((n : Int) + e.fdiv p, (e.fmod p).toNat)

/-- The strip and the line within it that an image line prints (R278): all lines of the strip lie inside the
job window. -/
def State.stripAt (s : State) (i : Nat) : Option (Nat × Nat) :=
  let (n, j) := s.stripPhase i
  if !s.stripEn || n < 0 then none
  else
    let len := s.stripLen (s.hasStair n.toNat)
    let first := s.stripStart n.toNat
    if j < len && !s.blankLine first && !s.blankLine (ladd first (len - 1 : Nat)) then some (n.toNat, j) else none

/-- The sections of R279. -/
inductive StripSec where
  | white
  | patch (replica plane : Nat)
  | mark (row : Nat)
  | stair (plane step : Nat)
  deriving DecidableEq, Repr

def State.stripSec (s : State) (j : Nat) : StripSec :=
  let ps := s.stripPlanes
  let np := atLeast1 ps.length
  let a := s.whiteLines
  let b := a + s.patchRows
  let c := b + s.markLines
  if j < a then .white
  else if j < b then
    let q := (j - a) / atLeast1 s.patchLines
    .patch (q / np) (ps.getD (q % np) 0)
  else if j < c then .mark (j - b)
  else
    let q := (j - c) / atLeast1 s.stairStep
    .stair (ps.getD (q / 16) 0) (q % 16)

/-- The condition of R285 at the arm of a run. -/
def State.stripPeriodOk (s : State) : Bool := !s.stripEn || s.stripPeriod ≥ s.stripLen true + 64

/-- STATUS.STATE of SCALER (R308). -/
def State.showScaler (s : State) : State :=
  s.setStCode Reg.pageSCALER (if s.measureEn then 2 else if s.stripEn then 1 else 0)

/-! ## Bands (R288, R289) -/

def State.bandDone (s : State) (b : Nat) : Bool := s.bit Reg.SCALER_BAND_STATE b
def State.bandPending (s : State) (b : Nat) : Bool := s.bit Reg.SCALER_BAND_STATE (16 + b)

/-- A change of MEASURE_EN, DENS_REL and BAND_MASK takes force at the next trigger armed (R309). -/
def State.latchCfg (s : State) : State :=
  { s with colour := { s.colour with cfg := s.rd Reg.SCALER_SCALER_CFG } }
def State.bandsUsed (s : State) : List Nat := bitsOf 12 (fld s.colour.cfg 27 16)

/-- The band of the next spectral trigger in normal mode. -/
def State.nextBand (s : State) : Nat :=
  let last := s.rdF Reg.SCALER_BAND_STATE 31 28
  let order := ((List.range 12).map (fun i => (last + 1 + i) % 12)).filter s.bandsUsed.contains
  match order.find? (fun b => !s.bandDone b && !s.bandPending b) with
  | some b => b
  | none => order.headD ((last + 1) % 12)

/-! ## Triggers (R286) -/

def State.specPort (s : State) : Nat := s.rdF Reg.SCALER_SCALER_CFG 2 2
def State.markPort (s : State) : Nat := s.rdF Reg.SCALER_SCALER_CFG 3 3

/-- The offset from S_s of trigger u. -/
def State.trigOff (s : State) (u : Nat) : Nat :=
  if u = 12 then s.rdF Reg.SCALER_TRIG_OFF_MARK 23 0
  else if u = 13 then s.rdF Reg.SCALER_TRIG_OFF_STAIR 23 0
  else s.rdF Reg.SCALER_TRIG_OFF_SPEC 23 0 + u * s.stripPlanes.length * s.patchLines

/-- The strip whose trigger u falls at line N, if it is printed. -/
def State.stripOf (s : State) (u line : Nat) : Option Nat :=
  let (n, j) := s.stripPhase (ladd line (-(s.trigOff u : Int)))
  if j ≠ 0 ∨ n < 0 ∨ (u = 13 ∧ ¬ s.hasStair n.toNat) then none
  else (s.stripAt (s.stripStart n.toNat)).map (·.1)

/-- What refuses the Scaler's arm of a timer or its push into a queue, with the page that records it: PIN_IS_INPUT (R398),
PLAN_FULL and BAD_EXPOSURE (R402), QUEUE_FULL (R321). -/
def State.stripRefusal (s : State) (n port expNs : Nat) : Option (Nat × Nat) :=
  if s.bit (Reg.TIO_T_CFG n) 6 && !s.bit Reg.TIO_PIN_DIR n then some (Reg.pageTIO, 0x0104)
  else if (s.timer n).plan.length ≥ 16 then some (Reg.pageTIO, 0x0103)
  else if expNs < 100 ∨ expNs > 1048575 then some (Reg.pageTIO, 0x0102)
  else if (s.lampQueue port).length ≥ 16 then some (Reg.pageLAMPSEQ, 0x0101)
  else none

/-- Arm the timer, the capture-plan entry and the LAMPSEQ entry of one trigger for line N. The exposure of a
mark or staircase trigger is stated nowhere: a free value in the range of R402 (log 26). -/
def State.armTrigger (s : State) (strip u line : Nat) : State :=
  let port := if u < 12 then s.specPort else s.markPort
  let band := if u ≥ 12 then 15 else if s.dense then u else s.nextBand
  let plan := 0x8000 + (strip * 16 + u) % 0x8000
  let n := s.rdF (Reg.CAM_TRIG_CFG port) 3 0
  let e := if u < 12 then s.rdF (Reg.SCALER_BAND_EXP band) 19 0 else 100 + s.free % 1048476
  let s := if u < 12 then s else s.drew
  let cur := if u < 12 then s.rdF (Reg.LAMPSEQ_BAND_CURRENT band) 11 0
    else s.rdF Reg.LAMPSEQ_WHITE_CURRENT (16 * port + 11) (16 * port)
  match s.stripRefusal n port e with
  | some (page, code) => (s.errHw page code).stripSkip
  | none =>
    let s := ((s.planAdd n plan e).1.lampAdd port { plan := plan, band := band, current := cur }).1
    let x := s.timer n
    let s := s.setTimer n { x with strips := x.strips ++ [line] }
    let s := (if s.timerLive n then s else s.setTimerSt n 1).timerCut n
    let s := { s with colour := { s.colour with armed := s.colour.armed ++ [
      { plan := plan, port := port, band := band, strip := strip, kind := if u < 12 then 0 else u - 11 }] } }
    if u < 12 then (s.showPending band).wrF Reg.SCALER_BAND_STATE 31 28 band else s

/-- The trigger numbers of a strip. -/
def State.trigNums (s : State) : List Nat := List.range s.stripReps ++ [12, 13]

/-- The admission of line A: STRIP_NUM moves on, and the triggers of line A + 64 are armed. -/
def State.stripAdmit (s : State) (line : Nat) : State :=
  if !s.stripEn then s
  else
    let n := s.rd Reg.SCALER_STRIP_NUM
    let s := if line = s.stripStart n then s.wr Reg.SCALER_STRIP_NUM (n + 1) else s
    let at_ := ladd line 64
    s.trigNums.foldl (fun s u => match s.stripOf u at_ with
      | some n => if s.measureEn then s.latchCfg.armTrigger n u at_ else s.latchCfg
      | none => s) s

/-- The strips of a run are numbered anew: what is known of strips by their numbers was of earlier ones (R303), and every strip
from here on comes after the triggers so far (R307). -/
def State.stripsAnew (s : State) : State :=
  { s with colour := { s.colour with
    regSettle := [], calib := s.colour.calib.map (fun e => (e.1, e.2.map (fun x => (0, x.2)))) } }

/-- At the first admission of a run: STRIP_NUM, and the triggers whose line N - 64 lies before the run. -/
def State.stripBegin (s : State) (start : Nat) : State :=
  if !s.stripEn then s
  else
    let d := ldiff start (s.rd Reg.SCALER_STRIP_ORIGIN)
    let p := atLeast1 s.stripPeriod
    let s := (s.wr Reg.SCALER_STRIP_NUM (if d ≤ 0 then 0 else (d.toNat + p - 1) / p)).stripsAnew
    if !s.measureEn then s
    else (List.range 64).foldl (fun s i => s.trigNums.foldl (fun s u =>
      if (s.stripOf u (ladd start i)).isSome then s.stripSkip else s) s) s

/-- STAIR_FORCE: the first strip that begins at least 64 lines past the next line to be admitted (R284). Firmware of a
module that does not lead passes it to the leader (R301). -/
def State.stairForce (s : State) (src : Req) : State :=
  match s.writeGate src with
  | some code => s.errAt Reg.pageSCALER code Reg.SCALER_STRIP_CTRL src
  | none =>
    if s.pairMode && !s.leads then s.toPartner 1 0x19 []
    else
      let n := s.rd Reg.SCALER_STRIP_NUM
      let p : Int := atLeast1 s.stripPeriod
      let e := ldiff (ladd s.nextLine 64) (s.stripStart n)
      let k := ((n : Int) - (-e).fdiv p).toNat
      let s := { s with colour := { s.colour with forced := s.colour.forced.filter (· != k) ++ [k] } }
      if s.pairMode then s.countMirror.toPartner 1 0x17 [k] else s
def execStairForce (src : Req) (s : State) : Res :=
  if s.cutOff src then .next s else
  .next (s.stairForce src)

/-- CYCLE_RESTART: a new cycle with all bands cleared. -/
def State.newCycle (s : State) : State :=
  { s.wrF Reg.SCALER_BAND_STATE 11 0 0 with colour := { s.colour with patches := [], binding := [], span := none } }
def State.cycleRestart (s : State) (src : Req) : State :=
  match s.writeGate src with
  | some code => s.errAt Reg.pageSCALER code Reg.SCALER_STRIP_CTRL src
  | none => s.newCycle.mirror Reg.SCALER_STRIP_CTRL 2
def execCycleRestart (src : Req) (s : State) : Res :=
  if s.cutOff src then .next s else
  .next (s.cycleRestart src)

end Sys2Proof.Machine
end

