-- ==== Sys2Proof/Machine/Change.lean ====
section
/-! DEFINITION. Asking for a handover or a retirement (R362). HANDOVER_STATUS: 0 IDLE, 1 PENDING, 2 DONE,
3 REFUSED. -/

namespace Sys2Proof.Machine

def State.changePending (s : State) : Bool := s.rdF Reg.PAIR_HANDOVER_STATUS 2 0 == 1
def State.setChange (s : State) (v : Nat) : State := s.wrF Reg.PAIR_HANDOVER_STATUS 2 0 v

/-- The partner's agreement can be had: PAIRED, the partner neither retiring nor SAFE. -/
def State.canChange (s : State) : Bool := s.paired && !s.pair.partnerGone

/-- Agree a change on the leader at L = A + GUARD and tell the partner. -/
def State.agreeChange (s : State) (retire mine : Bool) : State :=
  let l := ladd s.nextLine s.guard
  let s := { s with pair := { s.pair with handover := some { retire := retire, mine := mine, line := l } } }
  ((s.setChange 1).wr Reg.PAIR_HANDOVER_LINE l).toPartner 1 0x31 [b2n retire, l, b2n mine]

/-- A request of this module: `source` is 0 host, 1 firmware, 2 miss policy, 3 DRAM. -/
def State.askChange (s : State) (retire : Bool) (source : Nat) : State :=
  if s.changePending then s
  else
    let s := s.wr Reg.PAIR_HANDOVER_STATUS (b2n retire * 8 + source * 16)
    if !s.canChange then s.setChange 3
    else if s.leads then s.agreeChange retire true
    else (s.setChange 1).toPartner 1 0x30 [b2n retire]

/-- A request written to PAIR_CTRL (R378). -/
def State.changeCtrl (s : State) (src : Req) (retire : Bool) : State :=
  if !s.pairMode then s.errAt Reg.pagePAIR 0x0101 Reg.PAIR_PAIR_CTRL src
  else if s.changePending then s.errAt Reg.pagePAIR 0x0103 Reg.PAIR_PAIR_CTRL src
  else s.askChange retire (if isHost src then 0 else 1)

/-- HANDOVER and RETIRE (R362). -/
def execHandoverRequest (src : Req) (s : State) : Res :=
  if s.cutOff src then .next s else
  .next (s.changeCtrl src false)
def execRetireRequest (src : Req) (s : State) : Res :=
  if s.cutOff src then .next s else
  .next (s.changeCtrl src true)

end Sys2Proof.Machine
end

