-- ==== Sys2Proof/Machine/Line.lean ====
section
/-! DEFINITION. The line engine: encoders, ticks, runs, admission, late lines and the advised rate (R15, R21,
R70 to R94, R123, R126, R541). Run states: 0 IDLE, 1 ARMED, 2 RUNNING, 3 DRAINING. -/

namespace Sys2Proof.Machine

/-- Change the line engine's own record. -/
def State.modLine (s : State) (f : LineUnit → LineUnit) : State := { s with line := f s.line }

/-! ## The end of a run (R82) -/

/-- Into SAFE (R32, R530, R532): HALT on every ACTIVE lane, every sink and the cameras off. -/
def State.safeStop (s : State) (cause : Nat) : State :=
  let s := (s.stopAll false cause false).sinksOff.modLine (fun l => { l with portStop := [] })
  [0, 1].foldl (fun s p => if s.camSt p = 0 then s else s.camDisable p) s

/-- SAFE: job memory is lost where the fault is in DRAM (R428). -/
def State.enterSafe (s : State) (cause : Nat) : State :=
  let s := (s.safeStop cause).setModule 7
  if s.dram.stop then { s with job := { s.job with mem := [], valid := [], partner := [] } }.rowsLose else s

/-- Every row of R82 that ends the run: IDLE, RUN_ENDED, the module back to READY or IDLE, or to SAFE where a
DRAM fault has scheduled it (R428); then the deferred retrains and rate changes (R199, R202). -/
def State.endRun (s : State) : State :=
  let s := s.modLine (fun l => { l with
    prod := [], due := [], finalLine := none, missStop := false, sealStop := [], lateRun := 0, runIntervals := 0, runTicks := 0 })
  let s := { s with colour := { s.colour with forced := [] } }
  let s := ((s.setRun 0).intSet Reg.pageLINE 9).endLineTimers
  let s := if s.modState ≠ 5 then s
    else if s.dram.stop && s.stopsAlone then s.enterSafe causeSafeStop
    else s.setModule (if s.laneCondition then 4 else 3)
  s.releaseRetrains.autoRateUp

/-- The end of a run for the loss of its ticks (R77, R81, R541): HALT on every active lane. -/
def State.tickLost (s : State) : State := (s.stopAll false causeTickLoss true).endRun

/-- Enter DRAINING with a final line; the run ends at once if its TICK has been sent or is not due. -/
def State.drainAt (s : State) (final : Nat) : State :=
  let s := (s.setRun 3).modLine (fun l => { l with finalLine := some final, drainSince := s.frc })
  if ldiff final (s.rd Reg.LINE_CURRENT_LINE) ≤ 0 ∨ ldiff final s.line.startLine < 0 then s.endRun else s

/-! ## Source instants (R77, R81) -/

/-- The least spacing of ticks. -/
def tickGap : Nat := 10000

/-- A tick of the source at t: delayed to the spacing and counted, and more than eight pending lose the run. -/
def State.sourceInstant (s : State) (t : Nat) : State :=
  let e := match s.line.due.getLast?, s.line.lastSource with
    | some d, _ => max t (d + tickGap)
    | none, some l => max t (l + tickGap)
    | none, none => t
  let s := if e > t then (s.count Reg.LINE_OVERSPEED_COUNT).intSet Reg.pageLINE 12 else s
  let s := s.modLine (fun l => { l with due := l.due ++ [e] })
  if (s.line.due.filter (fun d => decide (t < d))).length > 8 then
    if s.printing then s.tickLost else s.modLine (fun l => { l with due := [] })
  else s

/-- This module is the root of the ring in force. -/
def State.isRoot (s : State) : Bool := s.bit Reg.RING_RING_STATUS 12

/-- One more line of the source in use: with the last line of WINDOW the slip window closes and the next one begins
(R74). -/
def State.slipLine (s : State) : State :=
  if s.los 0 || s.los 1 then s
  else if s.line.slipLines + 1 < atLeast1 (s.rdF Reg.ENC_SLIP_CFG 15 0) then
    s.modLine (fun l => { l with slipLines := l.slipLines + 1 })
  else s.modLine (fun l => { l with
    slipLines := 0, slipDone := some (l.enc0.window, l.enc1.window), enc0 := { l.enc0 with window := 0 }
    enc1 := { l.enc1 with window := 0 } })

/-- A line of the source in use at t. One that TIMED or RING ticks begins here for a later source (R76). -/
def State.sourceLine (s : State) (t : Nat) : State :=
  (if 4 ≤ s.sourceInUse then s.modLine (fun l => { l with vencOrigin := t * 256 }) else s).slipLine

/-- A tick of the ring's predictions. -/
def State.ringInstant (s : State) (t : Nat) : State := (s.sourceLine t).sourceInstant t

/-- A tick of an encoder, of the virtual encoder or of a timer. On the root of a ring it goes to the predictor, which keeps
the instants of 65 lines, and the ticks come from the predictions (R370). -/
def State.tickInput (s : State) (t : Nat) : State :=
  let s := s.sourceLine t
  if s.ringMode && s.isRoot then
    { s with ring := { s.ring with marks := (t :: s.ring.marks).take 65, pos := ladd s.ring.pos 1 } }
  else s.sourceInstant t

/-! ## Encoders (R70 to R78) -/

/-- ENCODER_COUNT: an edge at t of a pulse that lasts `tenths` of 0.1 ns. A pulse shorter than FILTER × 2.5 ns is a
glitch (R70); any other edge is one count. -/
def execEncoderCount (e : Fin 2) (fwd : Bool) (tenths t : Nat) (s : State) : Res :=
  let e := e.val
  let s := s.till t
  if !s.encOn e || decide (tenths < 25 * s.rdF (encCfg e) 11 8) then .next s
  else
    let up := fwd != s.bit (encCfg e) 1
    let k := if e = 0 then Reg.ENC_COUNT0 else Reg.ENC_COUNT1
    let s := s.wr k (ladd (s.rd k) (if up then 1 else -1))
    let x := s.enc e
    let x := if s.los 0 || s.los 1 then x else { x with window := x.window + (if up then 65536 else -65536) }
    if !up then .next ((s.setEnc e { x with behind := x.behind + 65536 }).showReverse e)
    else if x.behind ≥ 65536 then .next ((s.setEnc e { x with behind := x.behind - 65536 }).showReverse e)
    else
      let p := x.phase + 65536 - x.behind
      let c := s.cpl e
      let line := decide (c ≤ p)
      let s := (s.setEnc e { x with behind := 0, phase := if line then p - c else p }).showReverse e
      .next (if line && s.sourceInUse == e then s.tickInput t else s)

/-- A slip window in progress is abandoned (R74). -/
def State.dropWindow (s : State) : State :=
  s.modLine (fun l => { l with
    slipLines := 0, slipDone := none, enc0 := { l.enc0 with window := 0 }, enc1 := { l.enc1 with window := 0 } })

/-- A run whose source in use reports LOS ends (R77, and R82 for DRAINING). -/
def State.lossCheck (s : State) : State := if s.printing && s.sourceLost then s.tickLost else s

/-- An input has come to report LOS: the slip window is abandoned, AUTO switches, a run without a source ends. -/
def State.newLos (s : State) : State := s.dropWindow.autoSwitch.lossCheck

/-- LOSS_OF_SIGNAL: an enabled input enters LOS. -/
def execLossOfSignal (e : Fin 2) (t : Nat) (s : State) : Res :=
  let e := e.val
  let s := s.till t
  if s.los e then .next s
  else .next ((s.wrB Reg.ENC_ENC_STATUS e true).intSet Reg.pageENC (8 + e)).newLos

/-- LOS_CLEAR: both phases valid for 10 ms. -/
def execLosClear (e : Fin 2) (s : State) : Res :=
  if s.encOn e.val then .next (s.wrB Reg.ENC_ENC_STATUS e.val false).autoSwitch else .next s

/-- SLIP_WINDOW: the comparison of a window of WINDOW lines of the source in use that has ended (R74). -/
def execSlipWindow (s : State) : Res :=
  match s.line.slipDone with
  | none => .next s
  | some (w0, w1) =>
    let w := atLeast1 (s.rdF Reg.ENC_SLIP_CFG 15 0)
    let c0 := atLeast1 (s.cpl 0)
    let c1 := atLeast1 (s.cpl 1)
    let v := roundAway (10000 * (w0 * c1 - w1 * c0)) (c0 * c1 * w)
    let big := decide (v.natAbs > s.rdF Reg.ENC_SLIP_CFG 27 16)
    let s := ((s.wr Reg.ENC_SLIP_VALUE (satSgn 32 v)).wrB Reg.ENC_ENC_STATUS 4 big).modLine
      (fun l => { l with slipDone := none })
    .next (if big then s.intSet Reg.pageENC 10 else s)

/-- VIRTUAL_TICK: a period of the virtual encoder that has ended by t: its tick falls on the first clock edge at or after
the end, and the fraction of R78 is carried in 1/256 clock. -/
def execVirtualTick (t : Nat) (s : State) : Res :=
  let s := s.till t
  let next := s.line.vencOrigin + s.rd Reg.ENC_VENC_PERIOD
  if s.sourceInUse ≠ 3 ∨ s.frc * 256 < next then .next s
  else .next ((s.modLine (fun l => { l with vencOrigin := next })).tickInput ((next + 255) / 256))

/-! ## Runs (R82 to R84, R535, R537) -/

/-- The ring is within the bound of R372: T_L in ns against TL_MAX in µs. -/
def State.ringBoundOk (s : State) : Bool := s.rd Reg.RING_TL ≤ s.rd Reg.RING_TL_MAX * 1000
/-- A write of RUN_CTRL.ARM. The follower's arm comes from the leader, with START_SRC = PAIR (R84, R349). -/
def State.armRun (s : State) (src : Req) : State :=
  let err code := s.errAt Reg.pageLINE code Reg.LINE_RUN_CTRL src
  match s.writeGate src with
  | some code => err code
  | none =>
    if s.modState ≠ 4 then err 0x0103
    else if s.pwr.stopIn then err 0x0104
    else match s.jobRefusal with
      | some code => s.errAt Reg.pageJOB code 0x040 src
      | none =>
        if !s.stripPeriodOk then s.errAt Reg.pageSCALER 0x0102 0x040 src
        else if s.ringMode && s.isRoot && !s.ringBoundOk then
          (s.errAt Reg.pageRING 0x0102 0x040 src).intSet Reg.pageRING 11
        else
          let cfg := s.rd Reg.LINE_RUN_CFG
          let start := s.rd Reg.LINE_START_LINE
          let s := s.modLine (fun l => { l with
            runNum := (l.runNum + 1) % 256, startLine := start, stopLine := s.rd Reg.LINE_STOP_LINE
            runCfg := if s.follows then putFld cfg 1 0 3 else cfg, stopped := [] })
          let s := channels.foldl (fun s c => s.wrF (Reg.CH_PROTO_STATUS c) 7 0 s.line.runNum) s.emitTables
          let s := (s.wr Reg.JOB_MAX_OFFSET s.maxOffset).wr Reg.LINE_ADMIT_LINE start
          let s := { s with splices := [], job := { s.job with judged := [], spliceEnd := false, edges := [] } }.releaseRows
          let s := ((s.stripBegin start).setModule 5).setRun 1
          (s.mirror Reg.LINE_RUN_CTRL 1).releaseRetrains.applyIdle

/-- RUN_ARM (R82). -/
def execRunArm (src : Req) (s : State) : Res :=
  if s.cutOff src then .next s else
  .next (s.armRun src)

/-- The start trigger of an ARMED run (R82): the root of a ring and the leader of a pair send START (R83, R349). A run
whose source reports LOS as it becomes RUNNING ends at once (R77). -/
def State.beginRun (s : State) : State :=
  if s.runSt ≠ 1 then s
  else
    let la := s.rdF Reg.LINE_LOOKAHEAD 5 0
    let s := s.wr Reg.LINE_CURRENT_LINE (ladd s.line.startLine (-(la : Int) - 1))
    let s := ((s.setRun 2).intSet Reg.pageLINE 8).modLine (fun l => { l with runTicks := 0, runIntervals := 0 })
    let s := { s with ring := { s.ring with
      preds := [], ahead := [], held := 0, pos := s.rd Reg.LINE_CURRENT_LINE } }
    let s := if s.ringMode && s.isRoot then s.sendRing 0x0A [s.line.startLine, s.line.runNum] else s
    (if s.pairMode && s.leads then s.toPartner 1 0x40 [s.line.startLine, s.line.runNum, s.frc] else s).lossCheck

/-- The start trigger from a source of R83. -/
def State.startFrom (s : State) (source : Nat) : State := if fld s.line.runCfg 1 0 = source then s.beginRun else s

/-- A write of RUN_CTRL.START, and START (R83). -/
def State.startRun (s : State) (src : Req) : State :=
  match s.writeGate src with
  | some code => s.errAt Reg.pageLINE code Reg.LINE_RUN_CTRL src
  | none => s.startFrom 0
def execRunStart (src : Req) (s : State) : Res :=
  if s.cutOff src then .next s else
  .next (s.startRun src)

/-- A write of RUN_CTRL.DRAIN, and DRAIN (R82). -/
def State.drainRun (s : State) (src : Req) : State :=
  match s.writeGate src with
  | some code => s.errAt Reg.pageLINE code Reg.LINE_RUN_CTRL src
  | none =>
    let s := s.mirror Reg.LINE_RUN_CTRL 4
    if s.runSt = 1 then s.endRun
    else if s.runSt = 2 then s.drainAt (ladd s.nextLine (-1))
    else s
def execRunDrain (src : Req) (s : State) : Res :=
  if s.cutOff src then .next s else
  .next (s.drainRun src)

/-- DRAIN_TIMEOUT: 1.0 s without a tick in DRAINING (R541). -/
def execDrainTimeout (t : Nat) (s : State) : Res :=
  let s := s.till t
  if s.runSt = 3 ∧ s.since s.line.drainSince ≥ msClk 1000 then .next s.tickLost else .next s

/-! ## Admission (R85, R96, R116 to R124) -/

/-- The channels that take part in a line. -/
def State.lineChans (s : State) : List Nat := s.activeLanes.filter (fun c => !s.line.stopped.contains c)

/-- The tile lines that channel c reads at an admission line: none on blank and strip lines. -/
def State.lineReads (s : State) (c line : Nat) : List (Nat × Nat × Nat) :=
  let i := s.imageLine c line
  if !s.planeEn (c / 16) || s.blankLine i || (s.stripAt i).isSome then [] else s.tileReads c i

/-- The tiles that the channels of line N use. -/
def State.lineTiles (s : State) (line : Nat) : List Nat :=
  (s.lineChans.flatMap (fun c => ((s.lineReads c line).filter (fun r => decide (r.2.2 < s.tileCols (c / 16)))).map
    (fun r => tileKey (c / 16) r.1 r.2.2))).eraseDups

/-- The rows of the stream that the channels of line N need. -/
def State.neededRows (s : State) (line : Nat) : List Nat :=
  let images := (s.lineChans.filter (fun c => s.planeEn (c / 16))).map (fun c => s.imageLine c line)
  ((images.filter (fun i => !s.blankLine i && (s.stripAt i).isNone)).map (fun i => (s.storedLine i).1)).eraseDups

/-- A row that no line need wait for: every tile is valid, or lies where none can be located (R123, R139). -/
def State.rowReady (s : State) (row : Nat) : Bool :=
  (s.rowTiles row).all (fun k => (s.tileDigest k).isSome || !s.located (keyPlane k) (keyRow k) (keyCol k))

/-- The channels that are sent ABSENT in a line (R86, R348, R365). -/
def State.lineAbsent (s : State) (line : Nat) : List Nat :=
  (s.pair.absentFrom.filter (fun e => decide (0 ≤ ldiff line e.2))).map (·.1)

/-- Channels whose sending resumes at this line. -/
def State.resumeChans (s : State) (line : Nat) : State :=
  let back := (s.pair.resumeAt.filter (fun e => decide (0 ≤ ldiff line e.2))).map (·.1)
  if back.isEmpty then s
  else { s with pair := { s.pair with
    absentFrom := s.pair.absentFrom.filter (fun e => !back.contains e.1)
    resumeAt := s.pair.resumeAt.filter (fun e => !back.contains e.1) } }

/-- The end of the job has been admitted (R117), or STOP_LINE. -/
def State.runOver (s : State) (line : Nat) : Bool :=
  (bitOf s.line.runCfg 4 && line == s.line.stopLine) ||
    match s.jobEnd with
    | some e => decide (0 ≤ ldiff line (ladd e (s.rd Reg.JOB_MAX_OFFSET)))
    | none => false

/-- A DELAY_TAPS or COL_SHIFT slot of a channel is ARMED, RAMPING or SYNC (R303). -/
def State.regMoves (s : State) (c : Nat) : Bool :=
  (List.range 32).any (fun n => [1, 2, 3].contains (s.slotSt n) && [4, 5].contains (s.slotAction n)
    && (s.slotChannels n).contains c)

/-- The strip whose mark row an image line belongs to. -/
def State.markStrip (s : State) (i : Nat) : Option Nat :=
  match s.stripAt i with
  | none => none
  | some (n, j) => match s.stripSec j with
    | .mark _ => some n
    | _ => none

/-- Remember the mark rows that line N admits while their channel's registration moves. -/
def State.markMoving (s : State) (line : Nat) : State :=
  s.lineChans.foldl (fun s c => match s.markStrip (s.imageLine c line) with
    | some n => if s.regMoves c then { s with colour := { s.colour with
        regSettle := smSet (fun _ => []) s.colour.regSettle c
          ((smGet (fun _ => []) s.colour.regSettle c).filter (· != n) ++ [n]) } } else s
    | none => s) s

/-- Admit the next line: shadows and slots take force, and everything its content depends on is fixed. -/
def State.admitLine (s : State) : State :=
  let l := s.nextLine
  let enc := s.pageDue Reg.pageENC l
  let s := (((((s.applyLinePages l).applySlots l).digestDue l).resumeChans l).stripAdmit l).markMoving l
  let s := channels.foldl (fun s c => s.wrB (Reg.CH_SCREEN_STATE c) 0 (s.scr.implicit.contains c)) s
  let rows := if s.streaming then s.neededRows l else []
  let p : ProdLine := {
    line := l, admitFrc := s.frc, regs := s.regs, scr := s.scr, slots := s.slots, splices := s.splices
    chans := s.lineChans, absent := s.lineAbsent l, starved := !rows.all s.rowReady }
  let s := if s.streaming then s.judgeTiles (s.lineTiles l) else s
  let s := (s.spliceEdges l).modLine (fun u => { u with prod := u.prod ++ [p] })
  let s := (s.wr Reg.LINE_ADMIT_LINE (ladd l 1)).retire.releaseRows
  let s := if s.runOver l then s.drainAt l else s
  if enc then s.lossCheck else s

/-- The next line lies at or past the line at which this module retires: it sends no LINE frame from there on (R363). -/
def State.retiring (s : State) : Bool := match s.pair.handover with
  | some h => h.retire && h.mine && decide (0 ≤ ldiff s.nextLine h.line)
  | none => false

/-- At most n lines are admitted at a tick while ADMIT_LINE - CURRENT_LINE is below LOOKAHEAD + 1 (R85). -/
def State.admitUpTo (s : State) : Nat → State
  | 0 => s
  | n + 1 =>
    if s.runSt = 2 ∧ ¬ s.retiring ∧ ldiff s.nextLine (s.rd Reg.LINE_CURRENT_LINE) < s.rdF Reg.LINE_LOOKAHEAD 5 0 + 1
    then s.admitLine.admitUpTo n else s

/-! ## Queued frames (R15, R17, R89) -/

/-- An ABSENT frame for channel c of a line (R213), from what the line was admitted with. -/
def State.absentFrame (s : State) (p : ProdLine) (c : Nat) : List Nat :=
  let rd k := (smGet resetOf p.regs k).toNat
  mkFrame (lineStart p.line (fld (rd (Reg.CH_SCREEN_CFG c)) 1 0) true (p.line == s.line.startLine)
    (rd (Reg.CH_DELAY_TAPS c)) s.line.runNum) []

/-- The margin of R15 of a line queued at t, in ns rounded down. -/
def State.margin (s : State) (p : ProdLine) (t : Nat) : Int :=
  (((s.rd Reg.LINE_PERIOD : Int) - ((t : Int) - p.admitFrc)) * 5).fdiv 4

/-- Record a margin in BUDGET_MIN. -/
def State.recordMargin (s : State) (m : Int) : State :=
  let v := clampI (-(2 ^ 31 : Nat)) (2 ^ 31 - 1 : Nat) m
  let s := if v < sgn 32 (s.rd Reg.LINE_BUDGET_MIN) then s.wr Reg.LINE_BUDGET_MIN (unsgn 32 v) else s
  if m < 0 then s.intSet Reg.pageLINE 15 else s

/-- The frame of channel c of a line with given codes (R213, R214). -/
def State.codeFrame (s : State) (p : ProdLine) (c : Nat) (codes : List Nat) : List Nat :=
  let rd k := (smGet resetOf p.regs k).toNat
  let f := fld (rd (Reg.CH_SCREEN_CFG c)) 1 0
  mkFrame (lineStart p.line f false (p.line == s.line.startLine) (rd (Reg.CH_DELAY_TAPS c)) s.line.runNum)
    (packCodes (codeBits f) 0 0 codes)

/-- The frame of a channel in the queue: what its plane's contone has given; a channel of a plane that is not
enabled sends codes of 0 (R166). -/
def State.frameOf (s : State) (p : ProdLine) (c : Nat) : List Nat :=
  match p.frames.find? (fun f => f.1 == c) with
  | some f => f.2
  | none => if p.absent.contains c then s.absentFrame p c else s.codeFrame p c (List.replicate 6144 0)

/-- The state that a line was admitted with, as far as its content depends on it. -/
def State.admitted (s : State) (p : ProdLine) : State :=
  { s with regs := p.regs, scr := p.scr, slots := p.slots, splices := p.splices }

/-- The frame of channel c stands ready on its lane: the contone of its plane has been screened, or none is needed, as for
a blank line (R116). -/
def State.frameReady (s : State) (p : ProdLine) (c : Nat) : Bool :=
  let v := s.admitted p
  !p.recomp.contains c && (p.absent.contains c || !s.planeEn (c / 16) || p.planes.contains (c / 16)
    || v.blankLine (v.imageLine c p.line))

/-- A channel of the line is late (R87): its frame is not ready, and not for a recomputation (R173). -/
def State.lateLane (s : State) (p : ProdLine) (c : Nat) : Bool := !s.frameReady p c && !p.recomp.contains c

/-- Line by line, in the order in which they leave: how many in a row of a channel's went out ABSENT for a mismatch, and
isolation after ISOLATE_AFTER of them (R173). -/
def State.mismRun (s : State) (c : Nat) (split : Bool) : State :=
  let n := if split then smGet zeroReset s.scr.mism c + 1 else 0
  let s := { s with scr := { s.scr with mism := smSet zeroReset s.scr.mism c n } }
  if split && s.bit (Reg.CH_SCREEN_CTRL c) 0 && decide (atLeast1 (s.rdF (Reg.CH_SCREEN_CTRL c) 15 8) ≤ n)
      && !s.bit (Reg.CH_CH_CTRL c) 0
  then s.isolateLane c else s

/-- Every frame of a line is queued at t: the lanes send them, and the margin of R15 is recorded. -/
def State.queueLine (s : State) (p : ProdLine) (t : Nat) : State :=
  let s := p.chans.foldl (fun s c => (s.sendFrame c (s.frameOf p c)).mismRun c (p.split.contains c)) s
  let s := s.modLine (fun l => { l with
    prod := l.prod.map (fun q => if q.line == p.line then { q with queued := true } else q) })
  if s.line.runIntervals ≥ 1 then s.recordMargin (s.margin p t) else s

/-! ## The duplicated halves (R172, R173) -/

/-- A first mismatch of channel c. -/
def State.mismatch (s : State) (c line : Nat) : State :=
  ((s.count (Reg.CH_MISMATCH_COUNT c)).wr (Reg.CH_MISMATCH_LAST c) line).intSet (Reg.pageCH c) 16

/-- A second mismatch: ABSENT, and the screener fault. -/
def State.mismatchAbsent (s : State) (c line : Nat) : State :=
  let s := (s.count (Reg.CH_MISMATCH_ABSENT_COUNT c)).errHw (Reg.pageCH c) 0x0184
  let s := { s with scr := { s.scr with fault := if s.scr.fault.contains c then s.scr.fault else c :: s.scr.fault } }
  ((s.fault (Reg.pageCH c) true).intSet (Reg.pageCH c) 17).tally 0x0051 0x20 c 2 line

/-! ## Late lines (R87, R88, R123) -/

/-- At TICK(N - 1) some frame of a line is not queued: ABSENT goes out on those lanes, the frame that stands ready on the
others (R87), and a recomputation not complete is a second mismatch (R173). Such a line records no margin (log 85). -/
def State.cutLine (s : State) (p : ProdLine) : State :=
  let s := p.chans.foldl (fun s c => s.sendFrame c (if s.frameReady p c then s.frameOf p c else s.absentFrame p c)) s
  let s := s.modLine (fun l => { l with
    prod := l.prod.map (fun q => if q.line == p.line then { q with queued := true } else q) })
  let s := (p.chans.filter p.recomp.contains).foldl (fun s c => s.mismatchAbsent c p.line) s
  p.chans.foldl (fun s c => s.mismRun c (p.recomp.contains c || p.split.contains c && s.frameReady p c)) s

/-- A late line is counted (R87), and a starved one for its data (R123). -/
def State.missLine (s : State) (p : ProdLine) : State :=
  let s := s.modLine (fun l => { l with missAt := some s.frc })
  let s := ((s.count Reg.LINE_MISS_COUNT).wr Reg.LINE_MISS_LAST p.line).intSet Reg.pageLINE 10
  if p.starved then (s.count Reg.JOB_STARVE_COUNT).intSet Reg.pageJOB 9 else s

/-- The miss policy after a late line: N consecutive ones drain the run at the next tick, or ask for RETIRE in
a pair. -/
def State.missPolicy (s : State) : State :=
  let s := s.modLine (fun l => { l with lateRun := l.lateRun + 1 })
  if s.bit Reg.LINE_MISS_CTRL 0 && s.line.lateRun ≥ atLeast1 (s.rdF Reg.LINE_MISS_CTRL 15 8) then
    let s := s.modLine (fun l => { l with lateRun := 0 })
    if s.pairMode then s.askChange true 2
    else (s.modLine (fun l => { l with missStop := true })).intSet Reg.pageLINE 11
  else s

/-- The check of line CURRENT_LINE + 1 at the tick of CURRENT_LINE: a line whose frames all stand ready is queued with
this tick at the latest (log 85). -/
def State.deadline (s : State) : State :=
  let n := ladd (s.rd Reg.LINE_CURRENT_LINE) 1
  match s.line.prod.find? (fun p => p.line == n) with
  | none => s
  | some p =>
    if p.queued then s.modLine (fun l => { l with lateRun := 0 })
    else if p.chans.all (s.frameReady p) then (s.queueLine p s.frc).modLine (fun l => { l with lateRun := 0 })
    else if p.chans.any (s.lateLane p) then ((s.cutLine p).missLine p).missPolicy
    else (s.cutLine p).modLine (fun l => { l with lateRun := 0 })

/-! ## The tick (R80, R82, R86, R91) -/

/-- TICK on every ACTIVE lane of a line that R82 sends: the two SLIP values are free (R217, log 27). -/
def State.sendTick (s : State) (line : Nat) : State :=
  let full := s.free % 17
  let half := s.drew.free % 34
  let lanes := s.lineChans
  let s := lanes.foldl (fun s c => s.sendUrgent c (tickBlock line (if s.laneHalf c then half else full))) s.drew.drew
  if lanes.isEmpty then s else s.modLine (fun l => { l with lastTickLine := some line })

/-- Φ of the pair, in core clocks (R350). -/
def State.phi (s : State) : Int := sgn 16 (s.rdF Reg.PAIR_TICK_SKEW 31 16)

/-- The instant at which a tick is issued: in the pair modes 160 clocks and Φ after its source instant. -/
def State.issueAt (s : State) (t : Nat) : Nat := if s.pairMode then ((t : Int) + 160 + s.phi).toNat else t

/-- Record the tick's FRC and interval (R80). An interval of 2^32 clocks or more shows as 0xFFFF_FFFF; PERIOD_AVG is
rounded down, and is the mean of those there are before there are 64 (log 85). -/
def State.recordTick (s : State) (t : Nat) : State :=
  let f := s.issueAt t
  let s := if s.line.lastSource.isNone then s
    else
      let d := f - s.rd64 Reg.LINE_TICK_FRC_LO Reg.LINE_TICK_FRC_HI
      let iv := (min (2 ^ 32 - 1) d :: s.line.intervals).take 64
      let inRun := s.printing && s.line.runTicks ≥ 1
      let s := s.modLine (fun l => { l with
        intervals := iv, runIntervals := if inRun then min 64 (l.runIntervals + 1) else l.runIntervals })
      (s.wr Reg.LINE_PERIOD (min (2 ^ 32 - 1) d)).wr Reg.LINE_PERIOD_AVG (iv.foldl (· + ·) 0 / iv.length)
  let s := s.modLine (fun l => { l with
    lastSource := some t, runTicks := if s.printing then l.runTicks + 1 else l.runTicks })
  s.wr64 Reg.LINE_TICK_FRC_LO Reg.LINE_TICK_FRC_HI f

/-- OVER_ADVICE: the mean rate of 64 intervals of the run against the advised rate (R91). -/
def State.overAdvice (s : State) : State :=
  if s.printing && s.line.runIntervals ≥ 64 &&
      decide (800000000 * 64 > s.rdF Reg.LINE_SPEED_ADVICE 16 0 * s.line.intervals.foldl (· + ·) 0)
  then s.intSet Reg.pageLINE 14 else s

/-- Keep the ticks of the last 2^24 clocks for the line-mode timers (R400). -/
def State.logTick (s : State) (line : Nat) : State :=
  let f := s.rd64 Reg.LINE_TICK_FRC_LO Reg.LINE_TICK_FRC_HI
  { s with tio := { s.tio with ticks := (line, f) :: s.tio.ticks.filter (fun e => decide (f < e.2 + 2 ^ 24)) } }

/-- SEAL_STOP on the planes that asked for the stop that is draining (R175). -/
def State.showSealStop (s : State) : State :=
  if s.runSt = 3 then s.line.sealStop.foldl (fun s p => s.setStCode (Reg.pagePLANE p) 3) s else s

/-- The tick of a run (R82): CURRENT_LINE, TICK, the leader's tick instant to its follower (R350), the deadline of the next line, the stop or the end, admission. -/
def State.runTick (s : State) : State :=
  let draining := s.runSt == 3
  let stop := s.line.missStop
  let line := ladd (s.rd Reg.LINE_CURRENT_LINE) 1
  let s := ((s.wr Reg.LINE_CURRENT_LINE line).logTick line).showEdges line
  let s := if ldiff line s.line.startLine ≥ 0 then s.sendTick line else s
  let s := if s.pairMode && s.leads then
    s.sendTime 2 0x07 [line, s.rd64 Reg.LINE_TICK_FRC_LO Reg.LINE_TICK_FRC_HI] else s
  let s := s.modLine (fun l => { l with
    drainSince := s.frc, prod := l.prod.filter (fun p => decide (0 < ldiff p.line line)) })
  let s := s.deadline.overAdvice
  if draining then (if s.line.finalLine = some line then s.endRun else s)
  else if stop then (s.drainAt (ladd s.nextLine (-1))).showSealStop
  else s.admitUpTo 2

/-- Issue the tick whose source instant is t. -/
def State.issueTick (s : State) (t : Nat) : State :=
  let s := s.recordTick t
  if s.printing then s.runTick else s

/-- What a tick does to the lamps: line-locked periods, masks that begin at TICK(N - 1), DOSE_SHORT (R312, R319, R320). -/
def State.lampTicks (s : State) (t : Nat) : State :=
  (List.range 4).foldl State.showDose (([0, 1].foldl State.maskCut (s.lampTick t)))

/-- LINE_TICK: the tick whose instant of issue, in the pair modes after the delay and Φ of R350, has come by t. -/
def execLineTick (t : Nat) (s : State) : Res :=
  let s := s.till t
  match s.line.due with
  | [] => .next s
  | d :: ds =>
    let f := s.issueAt d
    if f ≤ s.frc then .next (((s.modLine (fun l => { l with due := ds })).issueTick d).lampTicks f) else .next s

/-- FRAME_QUEUED: the last frame of a line is queued at t, behind the frames of every earlier line. -/
def execFrameQueued (line t : Nat) (s : State) : Res :=
  let s := s.till t
  match s.line.prod.find? (fun p => p.line == line) with
  | none => .next s
  | some p =>
    let earlier := s.line.prod.any (fun q => decide (ldiff q.line line < 0) && !q.queued)
    if p.queued || earlier || !p.recomp.isEmpty || !p.chans.all (s.frameReady p) then .next s else .next (s.queueLine p t)

/-! ## The advised rate (R21, R90, R126, R319) -/

/-- Usable bytes per second of the PCI Express link (R126). -/
def State.linkRate (s : State) : Nat :=
  [200000000, 400000000, 812500000, 1625000000].getD (s.host.gen - 1) 0 * s.host.width

/-- One more interval of 1.0 ms: RATE_IN is the input of the STREAM queues over the last 1,000 of them, in MB/s (R126,
R146, log 85). -/
def State.measureFeed (s : State) : State :=
  let feed := ((s.job.bytesIn, s.job.creditsHeld) :: s.job.feed).take 1000
  let s := { s with job := { s.job with feed := feed, bytesIn := 0, creditsHeld := s.streaming && s.credits != 0 } }
  s.wr Reg.YARD_RATE_IN ((feed.map (·.1)).foldl (· + ·) 0 / 1000000 % 2 ^ 24)

/-- Credits have stayed above 0 for the whole of the last second. -/
def State.feedHeld (s : State) : Bool := s.job.feed.length == 1000 && s.job.feed.all (·.2)

/-- The stream limit; none where no stream limits the rate. -/
def State.streamLimit (s : State) : Option Nat :=
  let cols := (s.enabledPlanes.map s.tileCols).foldl (· + ·) 0
  if !s.streaming || cols = 0 then none
  else
    let b := min s.linkRate 54000000000
    let b := if s.feedHeld then min b (s.rd Reg.YARD_RATE_IN * 1000000) else b
    some (b * 64 * s.ys / (cols * 131328))

/-- The limits with their CAUSE bits. An ADVICE_CAP above 80,000 limits as 80,000 does (log 85). -/
def State.limits (s : State) : List (Nat × Nat) :=
  let lamp := ((List.range 4).map s.lampLimit).foldl min 0x1FFFF
  [(80000, 24)] ++ (if s.activeLanes.any s.laneHalf then [(60000, 25)] else [])
    ++ (match s.streamLimit with
      | some f => [(f, 26)]
      | none => [])
    ++ (if lamp < 0x1FFFF then [(lamp, 27)] else [])
    ++ (([s.ring.advice, s.ring.partnerAdvice].filterMap id).map (fun f => (f, 28)))
    ++ [(min 80000 (s.rdF Reg.LINE_ADVICE_CAP 16 0), 29)]

/-- The output SPEED_ADVICE: a sixteenth of the advised rate, in 1/16 Hz (R91); low without SYS24_IN (R524). -/
def State.adviceOut (s : State) : State :=
  s.emit (.wave 0x20 (if s.pwr.sys24 then s.rdF Reg.LINE_SPEED_ADVICE 16 0 else 0))

/-- Put a rate in force, with the cause bits of the limits that equal it. -/
def State.setAdvice (s : State) (r : Nat) (ls : List (Nat × Nat)) : State :=
  let old := s.rdF Reg.LINE_SPEED_ADVICE 16 0
  let s := s.wr Reg.LINE_SPEED_ADVICE (r % 2 ^ 17 + maskOf ((ls.filter (fun l => l.1 == r)).map (·.2)))
  if r = old then s else (s.intSet Reg.pageLINE 13).adviceOut

/-- ADVICE_RECOMPUTE: every 1.0 ms. -/
def execAdviceRecompute (t : Nat) (s : State) : Res :=
  let s := (s.till t).measureFeed
  let s := (List.range 4).foldl (fun s g => (s.wr (Reg.LAMP_LAMP_LIMIT g) (s.lampLimit g)).showDose g) s
  let on := s.modState == 4 || s.modState == 5
  let ls := if on then s.limits else []
  let v := if on then (ls.map (·.1)).foldl min 80000 else 0
  let old := s.rdF Reg.LINE_SPEED_ADVICE 16 0
  let held := s.line.advHeld ++ [v]
  let (r, held) := if v ≤ old then (v, []) else if held.length ≥ 1000 then (held.foldl min v, []) else (old, held)
  .next (((s.modLine (fun l => { l with advHeld := held })).setAdvice r ls).overAdvice)

end Sys2Proof.Machine
end

