-- ==== Sys2Proof/Machine/Screening.lean ====
section
/-! DEFINITION. Screening (chapter 5) and what a strip line prints (R279 to R283). A column is given by
y = x - RING.COLUMN_BASE; p is a plane, h a head position, n a nozzle, i an image line, `line` the admission
line. The state is that which the line was admitted with. -/

namespace Sys2Proof.Machine

/-! ## Tables in force (R154, R155, R168) -/

/-- The ramp of an action on channel c at a line: the step k, and e with R = 2^e; none before its first line (R96). -/
def State.rampAt (s : State) (action c line : Nat) : Option (Nat × Nat) :=
  ((List.range 32).find? (fun n => s.slotSt n == 2 && s.slotAction n == action && (s.slotChannels n).contains c
    && decide (0 ≤ ldiff line (s.slot n).startLine))).map
    (fun n => (min (s.slotRamp n - 1) (ldiff line (s.slot n).startLine).toNat, s.rdF (Reg.APPLY_SLOT_ACTION n) 8 4))

/-- The interpolated value of R168. -/
def rampVal (a b : Int) (k e : Nat) : Int := a + ((b - a) * (k + 1) + (2 ^ e / 2 : Nat)).fdiv (2 ^ e : Nat)

/-- A field of a nozzle entry in force, as an integer read by `f`. -/
def State.nozzleField (s : State) (f : Nat → Int) (c n line : Nat) : Int :=
  let a := f (s.scr.active.nozzleAt c n)
  match s.rampAt 1 c line with
  | some (k, e) => rampVal a (f (s.scr.target.nozzleAt c n)) k e
  | none => a
def nozzleGain (w : Nat) : Int := (fld w 11 0 : Nat)
def nozzleOffset (w : Nat) : Int := sgn 10 (fld w 21 12)

/-- STATE in force: that of TARGET from the first line of a ramp; DISABLED under R156. -/
def State.tableState (s : State) (c n line : Nat) : Nat :=
  fld ((if (s.rampAt 1 c line).isSome then s.scr.target else s.scr.active).nozzleAt c n) 23 22
def State.nozzleState (s : State) (c n line : Nat) : Nat :=
  if s.scr.implicit.contains c then 3 else s.tableState c n line
def State.nozzlePrints (s : State) (c n line : Nat) : Bool := s.nozzleState c n line < 2

/-- The tone curve in force. -/
def State.toneOf (s : State) (c v8 line : Nat) : Int :=
  let a : Int := s.scr.active.toneAt c v8
  match s.rampAt 2 c line with
  | some (k, e) => rampVal a (s.scr.target.toneAt c v8) k e
  | none => a

/-- The code of a level (R165). -/
def State.dropCode8 (s : State) (c lvl : Nat) : Nat :=
  s.scr.active.dmapAt c / 16 ^ lvl % 2 ^ codeBits (s.format c)
def State.lmax (s : State) (c : Nat) : Nat := 2 ^ codeBits (s.format c) - 1

/-! ## Columns and heads (R157 to R161) -/

/-- The nozzle with which head h covers column y. -/
def State.nozzleOf (s : State) (p h : Nat) (y : Int) : Option Nat :=
  let n := y - (h * headPitch : Nat) - s.shift (16 * p + h)
  if 0 ≤ n ∧ n < (headNozzles : Int) then some n.toNat else none

/-- Bit j of row i mod 64 of kerf mask b. -/
def State.kerfBit (s : State) (p b i j : Nat) : Bool :=
  bitOf (s.scr.active.kerfWord (16 * p + b) (i % 64 * 6 + j / 32)) (j % 32)

/-- Whether a column exists for this module, and the head and nozzle that print it. -/
structure Column where
  present : Bool
  head : Option (Nat × Nat)
  deriving DecidableEq, Repr

/-- The choice between the two heads that cover an internal kerf column, with the fallback of R160. -/
def State.kerfChoice (s : State) (p i line b j : Nat) (lo hi : Nat × Nat) : Nat × Nat :=
  let (a, z) := if s.kerfBit p b i j then (hi, lo) else (lo, hi)
  if !s.nozzlePrints (16 * p + a.1) a.2 line && s.nozzlePrints (16 * p + z.1) z.2 line then z else a

/-- The head that prints a column (R159 to R161). -/
def State.column (s : State) (p i line : Nat) (y : Int) : Column :=
  if y < 0 ∨ (moduleCols : Int) ≤ y then ⟨false, none⟩
  else
    let b := y.toNat / headPitch
    let j := y.toNat % headPitch
    let own h : Column := ⟨true, (s.nozzleOf p h y).map (fun n => (h, n))⟩
    if b = 16 then
      if s.bit (Reg.PLANE_PLANE_CFG p) 2 && s.kerfBit p 15 i j then ⟨false, none⟩ else own 15
    else if j ≥ 192 then own b
    else if b = 0 then
      if s.bit (Reg.PLANE_PLANE_CFG p) 1 && !s.kerfBit p 15 i j then ⟨false, none⟩ else own 0
    else match s.nozzleOf p (b - 1) y, s.nozzleOf p b y with
      | some m, some n => ⟨true, some (s.kerfChoice p i line (b - 1) j (b - 1, m) (b, n))⟩
      | some _, none => own (b - 1)
      | none, _ => own b

/-! ## The value of a column (R162, R163, R167) -/

/-- A column as the redistribution sees it. `gap` marks a column outside the patches of a strip row. -/
structure ColVal where
  present : Bool
  head : Option (Nat × Nat)
  prints : Bool
  gap : Bool
  /-- v(x), or the level of R167; the stored level before its clamp. -/
  v : Nat
  raw : Nat
  deriving DecidableEq, Repr

/-- v(x) of R162. -/
def State.toneValue (s : State) (c n v8 line : Nat) : Nat :=
  let g := s.nozzleField nozzleGain c n line
  let o := s.nozzleField nozzleOffset c n line
  (clampI 0 4095 ((s.toneOf c v8 line * g + 512) / 1024 + o)).toNat

/-- A column with the value that `pix` gives it for the LMAX of its head; `direct` is R167. -/
def State.colVal (s : State) (p i line : Nat) (direct : Bool) (pix : Nat → Nat → Option Nat) (y : Int) : ColVal :=
  let k := s.column p i line y
  match k.head with
  | none => ⟨k.present && (pix y.toNat 7).isSome, none, false, (pix y.toNat 7).isNone, 0, 0⟩
  | some (h, n) =>
    let c := 16 * p + h
    match pix y.toNat (s.lmax c) with
    | none => ⟨false, none, false, true, 0, 0⟩
    | some x => ⟨true, some (h, n), s.nozzlePrints c n line, false,
        if direct then min x (s.lmax c) else s.toneValue c n x line, x⟩

/-- The columns of a channel with its four guard columns, from the lowest (R164). -/
def State.colVals (s : State) (c i line : Nat) (direct : Bool) (pix : Nat → Nat → Option Nat) : List ColVal :=
  let y0 : Int := (c % 16 * headPitch : Nat) + s.shift c - 2
  (List.range (headNozzles + 4)).map (fun t => s.colVal (c / 16) i line direct pix (y0 + t))

/-- d(x) of R163. -/
def State.donation (s : State) (p : Nat) (k : ColVal) : Nat :=
  if s.bit (Reg.PLANE_PLANE_CFG p) 3 || k.prints || k.head.isNone then 0 else k.v

/-- The value of the middle of five columns after R163. -/
def State.redistributed (s : State) (p : Nat) (a b k d e : ColVal) : Nat :=
  let w1 := s.rdF (Reg.PLANE_REDIST_W p) 7 0
  let w2 := s.rdF (Reg.PLANE_REDIST_W p) 15 8
  min 4095 (k.v + (w1 * (s.donation p b + s.donation p d) + w2 * (s.donation p a + s.donation p e) + 128) / 256)

/-- The level that a non-printing column gives whole (R167); REDIST_OFF does not touch it. -/
def ColVal.given (k : ColVal) : Nat := if k.prints || k.head.isNone then 0 else k.v

/-- Where a non-printing column gives its level: true to the column below it (R167). -/
def givesTo (l k r : ColVal) : Option Bool :=
  if k.given = 0 then none
  else if l.prints && (!r.prints || decide (l.v ≤ r.v)) then some true
  else if r.prints then some false
  else none

/-- The level of the middle of five columns after R167. -/
def leveled (lmax : Nat) (a b k d e : ColVal) : Nat :=
  min lmax (k.v + (if givesTo a b k = some false then b.v else 0) + (if givesTo k d e = some true then d.v else 0))

/-- A donation of the middle column that is lost. -/
def State.donationLost (s : State) (p : Nat) (direct : Bool) (a b k d e : ColVal) : Bool :=
  let w1 := s.rdF (Reg.PLANE_REDIST_W p) 7 0
  let w2 := s.rdF (Reg.PLANE_REDIST_W p) 15 8
  if direct then decide (0 < k.given) && (givesTo b k d).isNone
  else decide (0 < s.donation p k) &&
    ((w1 != 0 && (!b.prints || !d.prints)) || (w2 != 0 && (!a.prints || !e.prints)))

/-- The threshold of column y at image line i. -/
def State.threshold (s : State) (p i y : Nat) : Nat :=
  let u := (s.rd Reg.RING_COLUMN_BASE + y + s.rdF (Reg.PLANE_THR_OFFSET p) 7 0) % 256
  let w := (i + s.rdF (Reg.PLANE_THR_OFFSET p) 15 8) % 256
  smGet zeroReset s.scr.thr (p * 65536 + u * 256 + w)

/-- The code of nozzle n of channel c from its column and the four around it (R165, R166). -/
def State.nozzleCode (s : State) (c i line n : Nat) (direct : Bool) (a b k d e : ColVal) : Nat :=
  let st := s.nozzleState c n line
  let y := ((c % 16 * headPitch : Nat) + s.shift c + n).toNat
  if k.gap ∨ st = 3 then 0
  else if st = 2 ∨ k.head ≠ some (c % 16, n) then s.dropCode8 c 0
  else if direct then s.dropCode8 c (leveled (s.lmax c) a b k d e)
  else s.dropCode8 c ((s.redistributed (c / 16) a b k d e * s.lmax c + s.threshold (c / 16) i y) / 4096)

/-- The codes of a channel for a line, whether its own columns lost a donation, and whether a level of its own
head was clamped. -/
structure Codes where
  codes : List Nat
  lost : Bool := false
  clamped : Bool := false
  deriving DecidableEq, Repr

/-- Walk the columns five at a time. -/
def State.walk (s : State) (c i line : Nat) (direct : Bool) : Nat → List ColVal → Codes
  | n, a :: b :: k :: d :: e :: ks =>
    let r := s.walk c i line direct (n + 1) (b :: k :: d :: e :: ks)
    let own := match k.head with
      | some (h, _) => h == c % 16
      | none => false
    { codes := s.nozzleCode c i line n direct a b k d e :: r.codes
      lost := r.lost || own && s.donationLost (c / 16) direct a b k d e
      clamped := r.clamped || direct && own && decide (s.lmax c < k.raw) }
  | _, _ => { codes := [] }

def State.screen (s : State) (c i line : Nat) (direct : Bool) (pix : Nat → Nat → Option Nat) : Codes :=
  s.walk c i line direct 0 (s.colVals c i line direct pix)

/-! ## Stored lines (R158, R115) -/

/-- The stored byte of column y. -/
def State.storedPixel (s : State) (p i y : Nat) : Nat :=
  let (row, l) := s.storedLine i
  let q := y / s.xs
  (s.memByte (s.tileAddr p row (q / 2048) + l * 2048 + q % 2048)).toNat

/-! ## Strip lines (R279 to R282) -/

/-- The patch that column y belongs to, if any (R280). -/
def patchOf (y : Nat) : Option Nat :=
  let j := y % headPitch
  if 192 ≤ j ∧ j < 192 + 5 * 1152 ∧ y / headPitch < 16 then some ((j - 192) / 1152) else none

/-- PATCH_Vk. -/
def State.patchV (s : State) (k : Nat) : Nat :=
  if k = 4 then s.rdF Reg.SCALER_PATCH_V1 7 0 else s.rdF Reg.SCALER_PATCH_V0 (8 * k + 7) (8 * k)

/-- What a patch column is screened from: v8, or the level of a DROP_CODE plane. -/
def State.patchPix (s : State) (direct : Bool) (y lmax : Nat) : Option Nat :=
  (patchOf y).map (fun k => if direct then (s.patchV k * lmax + 127) / 255 else s.patchV k)

/-- A column of the Blaze mark of plane p (R281). -/
def markCol (p y : Nat) : Bool :=
  let j := y % headPitch
  decide (y / headPitch < 16) && decide (424 + 720 * p ≤ j) && decide (j ≤ 679 + 720 * p)

/-- The code of nozzle n in a mark line. -/
def State.markCode (s : State) (c i line n : Nat) : Nat :=
  let y := (c % 16 * headPitch : Nat) + s.shift c + n
  let st := s.nozzleState c n line
  if y < 0 ∨ ¬ markCol (c / 16) y.toNat ∨ st = 3 then 0
  else if st = 2 ∨ (s.column (c / 16) i line y).head ≠ some (c % 16, n) then s.dropCode8 c 0
  else s.dropCode8 c (s.lmax c)

/-- The code of nozzle n in step t of the staircase of the channel's plane (R282). -/
def State.stairCode (s : State) (c line t n : Nat) : Nat :=
  if c % 2 = t / 8 ∧ n % 8 = t % 8 ∧ s.nozzleState c n line ≠ 3 then s.dropCode8 c (s.lmax c) else 0

/-- No code fires. -/
def noCodes : Codes := { codes := List.replicate headNozzles 0 }

/-- The codes of a strip line. -/
def State.stripCodes (s : State) (c i line j : Nat) : Codes :=
  let p := c / 16
  match s.stripSec j with
  | .white => noCodes
  | .patch _ q => if q = p then s.screen c i line (s.dropCode p) (s.patchPix (s.dropCode p)) else noCodes
  | .mark row => if s.stripPlanes.contains p && decide (64 ≤ row) && decide (row ≤ 191)
      then { codes := (List.range headNozzles).map (s.markCode c i line) } else noCodes
  | .stair q t => if q = p then { codes := (List.range headNozzles).map (s.stairCode c line t) } else noCodes

/-- The codes of channel c for admission line `line`. -/
def State.lineCodes (s : State) (c line : Nat) : Codes :=
  let p := c / 16
  let i := s.imageLine c line
  if !s.planeEn p || s.blankLine i then noCodes
  else match s.stripAt i with
    | some (_, j) => s.stripCodes c i line j
    | none =>
      let d := s.dropCode p
      s.screen c i line d (fun y _ => some (if d then s.storedPixel p i y % 8 else s.storedPixel p i y))

/-! ## Seal verification (R170, R171) -/

/-- The tile of a read exists: a column beyond TILE_COLS, or a tile outside its regions, does not (R139, log 28). -/
def State.readable (s : State) (p : Nat) (r : Nat × Nat × Nat) : Bool :=
  decide (r.2.2 < s.tileCols p) && s.located p r.1 r.2.2

/-- Why a tile line fails, if it does: 0 CRC, 1 POISON, 2 INVALID; `faults` are failures of this read. -/
def State.tileLineFault (s : State) (p : Nat) (faults : List TileFault) (r : Nat × Nat × Nat) : Option Nat :=
  let (row, l, k) := r
  let a := s.tileAddr p row k + l * 2048
  match faults.find? (fun f => f.row == row && f.line == l && f.col == k) with
  | some f => some f.cause
  | none =>
    if !s.readable p r || !s.tileValid p row k then some 2
    else if s.poisonedIn a 2048 || s.poisonedIn (s.sealAddr p row k + 4 * l) 4 then some 1
    else if crc32c (s.memBytes a 2048) ≠ s.memWord (s.sealAddr p row k + 4 * l) 4 then some 0
    else none

/-- Record one failed tile line. -/
def State.sealFail (s : State) (p line : Nat) (r : Nat × Nat × Nat) (cause : Nat) : State :=
  let (row, l, k) := r
  let s := (s.count (Reg.PLANE_SEAL_FAIL_COUNT p)).wr (Reg.PLANE_SEAL_FAIL_LINE p) line
  let s := (s.wr (Reg.PLANE_SEAL_FAIL_TILE p) (k % 64 + cause % 4 * 2 ^ 8 + l % 64 * 2 ^ 16)).wr (Reg.PLANE_SEAL_FAIL_ROW p) row
  ((s.intSet (Reg.pagePLANE p) 8).modLine (fun u => { u with sealAt := some s.frc })).tally 0x0050 0x18 p 2 line

/-- SEAL_POLICY in force for the failed line: STOP drains the run at the next tick, and the plane shows it once that stop is
draining (R171, R175). -/
def State.sealPolicy (s : State) (p : Nat) (blank : Bool) : State :=
  if s.pairMode || blank then s
  else (s.modLine (fun l => { l with
    missStop := true, sealStop := l.sealStop.filter (· != p) ++ [p] })).intSet (Reg.pagePLANE p) 9

/-! ## CONTONE_ARRIVAL -/

/-- The frame of channel c, and what its production records. `v` is the state that the line was admitted with, `hits` what
became of the compare of the halves; a recomputation still to come ends at TICK(N - 1). -/
def State.produce (s v : State) (q : ProdLine) (absent : Bool) (hits c : Nat) : State × (Nat × List Nat) :=
  let page := Reg.pageCH c
  let s := if hits ≥ 1 then s.mismatch c q.line else s
  if hits ≥ 3 then (s, (c, s.absentFrame q c))
  else if hits = 2 then (s.mismatchAbsent c q.line, (c, s.absentFrame q c))
  else if absent then (s, (c, s.absentFrame q c))
  else
    let r := v.lineCodes c q.line
    let s := if r.clamped then (s.count (Reg.CH_LEVEL_CLAMP_COUNT c)).intSet page 19 else s
    (s, (c, s.codeFrame q c r.codes))

/-- CONTONE_ARRIVAL: the tile lines of one plane of a line in production have been read; in a stream the line waits
for a tile that has become invalid (R139). `faults` are the failures of these reads; `mism` gives the channels whose
halves differ, with 1 for a recomputation that agrees, 2 for one that differs again, 3 for one that is not complete by
TICK(N - 1) (R172, R173). A donation is lost in any existing column of the plane, whichever lanes take the line (R163). -/
def execContoneArrival (line : Nat) (plane : Fin 8) (faults : List TileFault) (mism : List (Nat × Nat))
    (s : State) : Res :=
  let p := plane.val
  match s.line.prod.find? (fun q => q.line == line) with
  | none => .next s
  | some q =>
    let v := s.admitted q
    let cs := (planeChannels p).filter q.chans.contains
    let reads := (cs.flatMap (fun c => v.lineReads c line)).eraseDups
    if q.planes.contains p || q.starved then .next s
    else if v.streaming && reads.any (fun r => v.readable p r && !v.tileValid p r.1 r.2.2) then
      .next (s.modLine (fun l => { l with
        prod := l.prod.map (fun r => if r.line == line then { r with starved := true } else r) }))
    else
      let bad := reads.filterMap (fun r => (v.tileLineFault p faults r).map (fun k => (r, k)))
      let sealed := cs.filter (fun c => (v.lineReads c line).any (fun r => bad.any (fun e => e.1 == r)))
      let s := bad.foldl (fun s e => s.sealFail p line e.1 e.2) s
      let s := sealed.foldl (fun s c => (s.count (Reg.CH_SEAL_ABSENT_COUNT c)).intSet (Reg.pageCH c) 18) s
      let s := if sealed.isEmpty then s else (s.count (Reg.PLANE_ABSENT_LINES p)).sealPolicy p (v.bit (Reg.PLANE_PLANE_CFG p) 0)
      let lost := (planeChannels p).any (fun c =>
        (v.lineReads c line).all (fun r => (v.tileLineFault p faults r).isNone) && (v.lineCodes c line).lost)
      let s := if lost then (s.count (Reg.PLANE_REDIST_LOST p)).intSet (Reg.pagePLANE p) 10 else s
      let hits c := if sealed.contains c then 0 else ((mism.filter (fun m => m.1 == c)).map (·.2)).foldl max 0
      let (s, frames) := cs.foldl (fun a c =>
        let (t, f) := a.1.produce v q (sealed.contains c || q.absent.contains c) (hits c) c
        (t, a.2 ++ [f])) (s, [])
      .next (s.modLine (fun l => { l with
        prod := l.prod.map (fun r => if r.line == line
          then { r with
            planes := r.planes ++ [p], frames := r.frames ++ frames
            recomp := r.recomp ++ cs.filter (fun c => decide (3 ≤ hits c))
            split := r.split ++ cs.filter (fun c => decide (hits c = 2)) } else r) }))

/-- STARVED_LINE_RESUME: the rows of a line that waited are complete (R123). -/
def execStarvedLineResume (line : Nat) (s : State) : Res :=
  match s.line.prod.find? (fun q => q.line == line) with
  | none => .next s
  | some q =>
    let v := { s with regs := q.regs, splices := q.splices }
    if !q.starved || !(v.neededRows line).all s.rowReady then .next s
    else .next (s.modLine (fun l => { l with
      prod := l.prod.map (fun r => if r.line == line then { r with starved := false } else r) }))

/-- SCREEN_CTRL.FAULT_CLEAR (R173, R178). -/
def State.clearScreenFault (s : State) (c : Nat) : State :=
  let s := { s with scr := { s.scr with fault := s.scr.fault.filter (· != c) } }
  s.fault (Reg.pageCH c) (s.laneSt c == 7)
def execFaultClear (src : Req) (c : Fin 128) (s : State) : Res :=
  if s.cutOff src then .next s else
  .next (s.clearScreenFault c.val)

end Sys2Proof.Machine
end

