-- ==== Sys2Proof/Machine/Tables.lean ====
section
/-! DEFINITION. Writes to the TARGET banks and the threshold arrays with their forwarding in a pair (R345), and
the changes that firmware decides and arms through APPLY slots 24 to 31 (R100, R301). -/

namespace Sys2Proof.Machine

/-- The tables of R57 that screening uses, by number: 0 nozzle, 1 tone, 2 drop map, 3 kerf, 4 threshold. -/
def Scr.putTable (x : Scr) (t k v : Nat) : Scr :=
  let b := x.target
  if t = 0 then { x with target := { b with nozzle := smSet nozzleReset b.nozzle k v } }
  else if t = 1 then { x with target := { b with tone := smSet toneReset b.tone k v } }
  else if t = 2 then { x with target := { b with dmap := smSet dmapReset b.dmap k v } }
  else if t = 3 then { x with target := { b with kerf := smSet zeroReset b.kerf k v } }
  else { x with thr := smSet zeroReset x.thr k v }

/-- Write a table entry, without forwarding. -/
def State.putTable (s : State) (t k v : Nat) : State := { s with scr := s.scr.putTable t k v }

/-- The leader forwards its table writes on the FORWARD class, and counts them in MIRROR_GEN (R345). -/
def State.forward (s : State) (t k v : Nat) : State :=
  if s.pairMode && s.leads then s.countMirror.toPartner 2 0x01 [t, k, v] else s

/-- Write a table entry of this module and forward it. -/
def State.tableWrite (s : State) (t k v : Nat) : State := (s.putTable t k v).forward t k v

/-! ## Changes decided by firmware (R301) -/

/-- A change: the action, the ramp's logarithm, the channels, the table or shadow writes (5 is a shadow). -/
structure Decision where
  action : Nat
  ramp : Nat
  chans : List Nat
  writes : List (Nat × Nat × Nat)
  deriving DecidableEq, Repr

/-- Write a shadow of an RWS register. -/
def State.putShadow (s : State) (k v : Nat) : State :=
  { s with shadow := smSet resetOf s.shadow k (BitVec.ofNat 32 v) }

def State.decisionWrite (s : State) (w : Nat × Nat × Nat) : State :=
  if w.1 = 5 then (s.putShadow w.2.1 w.2.2).mirror w.2.1 w.2.2 else s.tableWrite w.1 w.2.1 w.2.2

/-- The first of slots 24 to 31 that is free. -/
def State.firmwareSlot (s : State) : Option Nat :=
  ((List.range 8).map (· + 24)).find? (fun n => !slotLive (s.slotSt n))

/-- Carry out a decision: the writes, and a slot armed for the next line to be admitted plus 256 (R302). -/
def State.takeDecision (s : State) (d : Decision) : State :=
  match s.firmwareSlot with
  | none => s
  | some n =>
    let s := d.writes.foldl State.decisionWrite s
    let mask w := maskOf ((d.chans.filter (fun c => c / 32 == w)).map (· % 32))
    let s := s.wrs [(Reg.APPLY_SLOT_TARGET n, ladd s.nextLine 256),
      (Reg.APPLY_SLOT_ACTION n, d.action + d.ramp * 16), (Reg.APPLY_SLOT_MASK0 n, mask 0),
      (Reg.APPLY_SLOT_MASK1 n, mask 1), (Reg.APPLY_SLOT_MASK2 n, mask 2), (Reg.APPLY_SLOT_MASK3 n, mask 3)]
    let s := s.armSlot (.crew 1) n
    if slotLive (s.slotSt n) then s.wrF Reg.SCALER_LOOP_STATUS 15 8 (s.rdF Reg.SCALER_LOOP_STATUS 15 8 + 1) else s

/-- A decision as the fields of a message to the leader, and back (log 30). -/
def Decision.fields (d : Decision) : List Nat :=
  [d.action, d.ramp, d.chans.length] ++ d.chans ++ d.writes.flatMap (fun w => [w.1, w.2.1, w.2.2])
def triples : List Nat → List (Nat × Nat × Nat)
  | a :: b :: c :: l => (a, b, c) :: triples l
  | _ => []
def Decision.ofFields : List Nat → Option Decision
  | a :: r :: n :: l => some { action := a, ramp := r, chans := l.take n, writes := triples (l.drop n) }
  | _ => none

/-- Only the leader of a pair arms slots; the other module passes its decision on (R301). -/
def State.sendDecision (s : State) (d : Decision) : State :=
  if s.pairMode && !s.leads then s.toPartner 1 0x18 d.fields else s.takeDecision d

end Sys2Proof.Machine
end

