-- ==== Sys2Proof/Machine/Colour.lean ====
section
/-! DEFINITION. The Scaler's measurement (R287 to R300): zone averages to reflectance, colour and density, mark
centroids, and result sets. -/

namespace Sys2Proof.Machine

/-- A word of region 58, and the base of that region. -/
def State.region58 (s : State) : Nat := s.rd (Reg.YARD_REG_BASE 58) * 4096

/-- n / d; where the divisor is 0 the manual states no result: a free value (log 31). -/
def State.quot (s : State) (n d : Nat) : Nat := if d = 0 then s.free else n / d

/-- A word of 16-bit halves, read as half i of a register array. -/
def State.half (s : State) (key : Nat → Nat) (i : Nat) : Nat := fld (s.rd (key (i / 2))) (16 * (i % 2) + 15) (16 * (i % 2))

/-! ## The record (R269, R287) -/

/-- Word w of the record at an address. -/
def State.recWord (s : State) (a w : Nat) : Nat := s.memWord (a + 4 * w) 4

/-- A zone of a record: its map entry, MEAN0, SAT. -/
structure Zone where
  map : Nat
  mean : Nat
  sat : Nat
  deriving DecidableEq, Repr

/-- The zones of a record with the entries of the zone map of its context (R291). -/
def State.zones (s : State) (a : Nat) : List Zone :=
  let w12 := s.recWord a 12
  let cols := fld w12 6 0
  let base := s.region58 + s.rdF Reg.SCALER_MAP_BASE 16 0 * 4096 + fld (s.recWord a 0) 19 16 * 4096
  (List.range (fld w12 13 8)).flatMap (fun r => (List.range cols).map (fun c =>
    let z := a + 4224 + 20 * (r * cols + c)
    { map := s.memWord (base + (r * 64 + c) * 2) 2, mean := s.memWord z 4, sat := s.memWord (z + 16) 4 }))

def Zone.kind (z : Zone) : Nat := fld z.map 2 0
def Zone.head (z : Zone) : Nat := fld z.map 9 6

/-- The mean of the zones that are not saturated, rounded down; none where there are none. -/
def zoneMean (l : List Zone) : Option Nat :=
  let g := l.filter (fun z => z.sat == 0)
  if g.isEmpty then none else some ((g.map (·.mean)).foldl (· + ·) 0 / g.length)

/-- The tile of a record: the index of its first unsaturated TILE zone, and T (R292). -/
def recordTile (zs : List Zone) : Option (Nat × Nat) :=
  match zs.find? (fun z => z.kind == 3 && z.sat == 0) with
  | none => none
  | some z =>
    let t := fld z.map 14 13
    (zoneMean (zs.filter (fun y => y.kind == 3 && fld y.map 14 13 == t))).map (fun m => (t, m))

/-- The reflectance of a signal (R293). -/
def State.reflOf (s : State) (x t cert : Nat) : Nat :=
  let dark := s.rd Reg.SCALER_DARK
  min 65535 (s.quot ((x - dark) * cert + 2 * (t - dark)) (4 * (t - dark)))

/-- The result of one patch in a band, from the zones of a record. -/
def State.patchResult (s : State) (zs : List Zone) (t cert plane h k : Nat) : Option PatchBand :=
  let l := zs.filter (fun z => z.kind == 1 && fld z.map 5 3 == plane && z.head == h && fld z.map 12 10 == k)
  if l.isEmpty then none
  else match zoneMean l with
    | none => some { sat := true }
    | some x =>
      let r := s.reflOf x t cert
      let rw := (zoneMean (zs.filter (fun z => z.kind == 2 && z.head == h))).map (fun w => s.reflOf w t cert)
      some { refl := some r
             rel := match rw with
               | none => none
               | some w => if w = 0 then none else some (min 65535 ((r * 16384 + w / 2) / w)) }

/-- Patch identities, e = (p * 16 + h) * 5 + k. -/
def patchIds : List Nat := List.range 640

/-- The binding words of a record (R298): W0 to W4, W6, W7, then context and generation of each record. -/
def State.bindWords (s : State) (a : Nat) (strip : Nat) : List Nat :=
  let w9 := s.recWord a 9
  let w0 := s.recWord a 0
  [s.recWord a 1, s.recWord a 6, s.recWord a 7 % 2 ^ 20 + fld w9 16 16 * 2 ^ 20 + fld w0 20 20 * 2 ^ 21,
    s.recWord a 8, w9 % 4096, strip, s.recWord a 13, fld w0 19 16 * 256 + fld w0 31 24]

/-- Join a further record of the same trigger. -/
def joinBind (old new : List Nat) : List Nat :=
  if old.length > 7 ∧ old.getD 2 0 % 65536 = new.getD 2 0 % 65536 then old ++ new.drop 7 else new

def State.modColour (s : State) (f : ColourUnit → ColourUnit) : State := { s with colour := f s.colour }

/-- Discard the cycle where strip n lies CYCLE_MAX strips or more past its first result (R290). -/
def State.expireCycle (s : State) (n : Nat) : State :=
  match s.colour.span with
  | none => s
  | some (first, _) =>
    if first + atLeast1 (s.rdF Reg.SCALER_CYCLE_CFG 7 0) ≤ n then
      ((s.count Reg.SCALER_CYCLE_EXPIRED).intSet Reg.pageSCALER 9).newCycle
    else s

/-- The cycle that a result of strip n belongs to: in dense mode the results of a strip form a cycle on their own (R289). -/
def State.cycleFor (s : State) (n : Nat) : State :=
  let s := s.expireCycle n
  match s.colour.span with
  | none => s
  | some (first, _) => if s.dense ∧ first ≠ n then s.newCycle else s

/-- The result of a trigger replaces what another one stored for its band (R289). -/
def State.clearBand (s : State) (g : Trigger) : State :=
  let old := smGet (fun _ => []) s.colour.binding g.band
  if old.isEmpty ∨ old.getD 2 0 % 65536 = g.plan then s
  else { s with colour := { s.colour with patches := s.colour.patches.filter (fun e => e.1 % 12 != g.band) } }

/-- Store the band result of a spectral record; a record without a usable tile gives none (R292, R293). -/
def State.storeBand (s : State) (a : Nat) (g : Trigger) : State :=
  let zs := s.zones a
  let noTile := (s.count Reg.SCALER_NO_TILE).intSet Reg.pageSCALER 10
  match recordTile zs with
  | none => noTile
  | some (ti, t) =>
    if (t : Int) - s.rd Reg.SCALER_DARK < (s.rdF Reg.SCALER_TILE_MIN 13 0 * 65536 : Nat) then noTile
    else if !s.bandsUsed.contains g.band then s
    else
      let s := (s.cycleFor g.strip).clearBand g
      let cert := s.rdF (Reg.SCALER_CERT (12 * ti + g.band)) 15 0
      let res := patchIds.filterMap (fun e =>
        (s.patchResult zs t cert (e / 80) (e / 5 % 16) (e % 5)).map (fun r => (e, r)))
      let span := match s.colour.span with
        | none => (g.strip, g.strip)
        | some (x, y) => (min x g.strip, max y g.strip)
      let bind := joinBind (smGet (fun _ => []) s.colour.binding g.band) (s.bindWords a g.strip)
      let s := if t = s.rd Reg.SCALER_DARK then s.drew else s
      (s.modColour (fun u => { u with
        patches := res.foldl (fun m p => smSet (fun _ => {}) m (p.1 * 12 + g.band) p.2) u.patches
        binding := smSet (fun _ => []) u.binding g.band bind, span := some span })).count Reg.SCALER_BAND_RESULTS

/-! ## Colour values (R294, R295) -/

/-- The largest r with 2 r - 1 at most 131,072 times the cube root of k / 1,024; the linear part below. -/
def ftab (k : Nat) : Nat :=
  if 221184 < k * 24389 then maxSat (fun r => decide ((2 * r - 1) ^ 3 * 1024 ≤ 131072 ^ 3 * k)) 17 0
  else (2 * 65536 * (k * 841 * 29 + 4 * 110592) + 110592 * 29) / (2 * 110592 * 29)

/-- fx, fy, fz. -/
def fOf (t : Nat) : Nat := (ftab (t / 16) * (16 - t % 16) + ftab (t / 16 + 1) * (t % 16) + 8) / 16

/-- b to the power n. -/
def powN (b n : Nat) : Nat := b ^ n

/-- dens: 4,096 log10(16,384 / s), correctly rounded, as a signed value. -/
def densOf (sum : Nat) : Int :=
  let v := (sum + 32768) / 65536
  if v = 0 then 0x7FFF
  else if v < 16384 then
    min 0x7FFF (maxSat (fun d => decide (powN 10 (2 * d - 1) * powN v 8192 ≤ powN 16384 8192)) 15 0 : Nat)
  else if v = 16384 then 0
  else -(maxSat (fun d => decide (powN 10 (2 * d - 1) * powN 16384 8192 ≤ powN v 8192)) 15 0 : Nat)

/-- Coefficient (row, b) of MATRIX, and weight (n, b) of DENS_W. -/
def State.matrix (s : State) (row b : Nat) : Int := sgn 16 (s.half Reg.SCALER_MATRIX (row * 12 + b))
def State.densW (s : State) (n b : Nat) : Nat := s.half Reg.SCALER_DENS_W (n * 12 + b)

/-- A converted patch. -/
structure Conv where
  valid : Bool := false
  sat : Bool := false
  noWhite : Bool := false
  refl : List (Option Nat)
  xyz : List Nat := []
  lab : List Int := []
  de : Nat := 0
  dens : List Int := []
  deriving DecidableEq, Repr

/-- The target of a patch: none, or L, a, b. -/
def State.target (s : State) (i : Nat) : Option (Int × Int × Int) :=
  let w := s.rd (Reg.SCALER_TGT_LAB i)
  if fld w 15 0 = 0x8000 then none
  else some (sgn 16 (fld w 15 0), sgn 16 (fld w 31 16), sgn 16 (s.rdF (Reg.SCALER_TGT_BD i) 15 0))

/-- X, Y and Z of reflectances in bands 0 to 11. -/
def State.xyzOf (s : State) (refl : List Nat) : List Nat :=
  (List.range 3).map (fun row =>
    let sum := ((List.range 12).map (fun b => s.matrix row b * (refl.getD b 0 : Nat))).foldl (· + ·) 0
    (clampI 0 65535 ((sum + 8192) / 16384)).toNat)

/-- L, a and b. -/
def State.labOf (s : State) (xyz : List Nat) : List Int :=
  let xn := s.rdF Reg.SCALER_XN_YN 15 0
  let yn := s.rdF Reg.SCALER_XN_YN 31 16
  let zn := s.rdF Reg.SCALER_ZN 15 0
  let f i n : Int := fOf (min 65535 (s.quot (xyz.getD i 0 * 16384 + n / 2) n))
  let (fx, fy, fz) := (f 0 xn, f 1 yn, f 2 zn)
  [(116 * fy + 256) / 512 - 2048, (500 * (fx - fy) + 256) / 512, (200 * (fy - fz) + 256) / 512]

/-- Convert patch e = (plane * 16 + head) * 5 + k of the cycle. -/
def State.convert (s : State) (e : Nat) : Conv :=
  let used := s.bandsUsed
  let band b : PatchBand := smGet (fun _ => {}) s.colour.patches (e * 12 + b)
  let sat := used.any (fun b => (band b).sat)
  let valid := !sat && used.all (fun b => (band b).refl.isSome)
  let noWhite := used.any (fun b => (band b).rel.isNone)
  let cur := (List.range 12).map (fun b => if used.contains b then (band b).refl else some 0)
  if !valid then { sat := sat, noWhite := noWhite, refl := cur }
  else
    let r := cur.map (·.getD 0)
    let xyz := s.xyzOf r
    let lab := s.labOf xyz
    let de := match s.target (5 * (e / 80) + e % 5) with
      | none => 0xFFFF
      | some (l, a, b) => min 0xFFFF (Nat.sqrt
          ((lab.getD 0 0 - l) ^ 2 + (lab.getD 1 0 - a) ^ 2 + (lab.getD 2 0 - b) ^ 2).toNat)
    let q := if bitOf s.colour.cfg 4 && !noWhite
      then (List.range 12).map (fun b => if used.contains b then (band b).rel.getD 0 else 0) else r
    let dens := (List.range 3).map (fun n =>
      densOf (((List.range 12).map (fun b => s.densW n b * q.getD b 0)).foldl (· + ·) 0))
    { valid := true, noWhite := noWhite, refl := cur, xyz := xyz, lab := lab, de := de, dens := dens }

/-- Two 16-bit values in a word. -/
def pair16 (lo hi : Int) : Nat := unsgn 16 lo + unsgn 16 hi * 65536

/-- The sixteen words of a patch entry (R298). Values of a patch that was not converted are stated nowhere:
free values (log 32), `f` gives them. -/
def Conv.words (k : Conv) (f : Nat → Nat) (e : Nat) : List Nat :=
  let r b : Int := match k.refl.getD b none with
    | some v => (v : Nat)
    | none => (f b : Nat)
  let head := e / 80 + e / 5 % 16 * 2 ^ 3 + e % 5 * 2 ^ 7 + b2n k.valid * 2 ^ 16 + b2n k.sat * 2 ^ 17
    + b2n k.noWhite * 2 ^ 18
  let refl := (List.range 6).map (fun w => pair16 (r (2 * w)) (r (2 * w + 1)))
  let x i : Int := if k.valid then ((k.xyz.getD i 0 : Nat) : Int) else (f (16 + i) : Nat)
  let l i : Int := if k.valid then k.lab.getD i 0 else (f (20 + i) : Nat)
  let d i : Int := if k.valid then k.dens.getD i 0 else (f (24 + i) : Nat)
  let de : Int := if k.valid then (k.de : Nat) else (f 28 : Nat)
  [head] ++ refl ++ [pair16 (x 0) (x 1), pair16 (x 2) 0, pair16 (l 0) (l 1), pair16 (l 2) de,
    pair16 (d 0) (d 1), pair16 (d 2) 0, 0, 0, 0]

/-! ## Result sets (R297, R298) -/

/-- Sort contexts rising. -/
def ctxGens (l : List Nat) : List Nat := (sortNat l).map (· % 256)

/-- The eight binding words of a set from those kept. -/
def bindOut (b : List Nat) : List Nat :=
  if b.isEmpty then List.replicate 8 0
  else
    let gens := ctxGens (b.drop 7)
    let w5 := (gens.zipIdx).foldl (fun v p => v + p.1 * 256 ^ p.2) 0 % 2 ^ 32
    [b.getD 0 0, b.getD 1 0, b.getD 2 0, b.getD 3 0, b.getD 4 0, w5, b.getD 5 0, b.getD 6 0]

/-- A result set of given head, bindings and body; W5 is the CRC. -/
def resultSet (w0 first last w3 : Nat) (binds : List (List Nat)) (body : List Nat) : List Byte :=
  let size := 512 + 4 * body.length
  let b := (binds ++ List.replicate (12 - binds.length) []).flatMap bindOut
  let tail := List.replicate 10 0 ++ b ++ List.replicate 16 0 ++ body
  let head crc := [w0, first, last, w3, size, crc]
  wordBytes (head (crc32c (wordBytes (head 0 ++ tail))) ++ tail)

/-- QUALITY of a plane (R296). -/
def quality (des : List Nat) : Nat :=
  if des.isEmpty then 0xFFFFFFFF else des.foldl (· + ·) 0 / des.length + des.foldl max 0 * 65536

/-- When every band in use is DONE the cycle is converted and a new one starts (R290, R294). -/
def State.endCycle (s : State) : State :=
  if s.bandsUsed.isEmpty || !s.bandsUsed.all s.bandDone then s
  else
    let ks := patchIds.map s.convert
    let f e i := (Config.freeWord (s.freeCount + 1 + 32 * e + i)).toNat
    let body := (ks.zipIdx).flatMap (fun p => p.1.words (f p.2) p.2)
    let strips := s.bandsUsed.map (fun b => (smGet (fun _ => []) s.colour.binding b).getD 5 0)
    let first := strips.foldl min (strips.headD 0)
    let last := strips.foldl max 0
    let w3 := maskOf s.bandsUsed + b2n s.dense * 2 ^ 16
    let set := resultSet (s.rd Reg.SCALER_CYCLE_NUM) first last w3
      ((List.range 12).map (fun b => smGet (fun _ => []) s.colour.binding b)) body
    let s := planes.foldl (fun s p => s.wr (Reg.SCALER_QUALITY p) (quality
      ((ks.zipIdx).filterMap (fun q => if q.2 / 80 = p ∧ q.1.valid ∧ (s.target (5 * p + q.2 % 5)).isSome
        then some q.1.de else none)))) s
    let s := { s with freeCount := s.freeCount + 1 + 32 * 640 }
    let s := s.modColour (fun u => { u with sets := u.sets ++ [(set, false)] })
    (s.wr Reg.SCALER_CYCLE_NUM ((s.rd Reg.SCALER_CYCLE_NUM + 1) % 2 ^ 32)).newCycle

/-! ## Marks (R299, R300) -/

/-- Word w of the mark table's entry c. -/
def State.markWord (s : State) (c w : Nat) : Nat :=
  s.memWord (s.region58 + s.rdF Reg.SCALER_MARK_BASE 16 0 * 4096 + 32 * c + 4 * w) 4

/-- The frame output that a record names: its address, width, samples per pixel. -/
def State.frameOut (s : State) (a : Nat) : Nat × Nat × Nat × Nat :=
  let k := fld (s.recWord a 0) 19 16
  let g := s.rd (Reg.ISPCTX_GEOMETRY k)
  let n := if fld (s.rd (Reg.ISPCTX_CTX_CFG k)) 4 2 = 0 then 1 else 3
  let size := (fld g 13 0 * fld g 29 16 * n * 2 + 4095) / 4096 * 4096
  ((s.rd (Reg.YARD_REG_BASE 57) + s.rdF (Reg.ISPCTX_OUT_BASE k) 18 0) * 4096 + fld (s.recWord a 12) 31 16 * size,
    fld g 13 0, n, size)

/-- The mark of channel c in a record: the sum of w, cx and cy, or none where the entry is not in use there. -/
def State.markOf (s : State) (a c : Nat) : Option (Bool × Int × Int × Nat) :=
  let w0 := s.markWord c 0
  let k := fld (s.recWord a 0) 19 16
  if !bitOf w0 15 || fld w0 3 0 != k then none
  else
    let (base, width, n, _) := s.frameOut a
    let (x0, y0) := (fld (s.markWord c 1) 15 0, fld (s.markWord c 1) 31 16)
    let (ww, wh) := (fld (s.markWord c 2) 15 0, fld (s.markWord c 2) 31 16)
    let thr := fld (s.markWord c 3) 13 0
    let px x y := s.memWord (base + ((y * width + x) * n + fld w0 5 4) * 2) 2
    let pts := (List.range wh).flatMap (fun j => (List.range ww).map (fun i => (i, j, thr - px (x0 + i) (y0 + j))))
    let sum (f : Nat × Nat × Nat → Nat) := (pts.map f).foldl (· + ·) 0
    let sw := sum (fun p => p.2.2)
    let mid (o m : Nat) : Int := (o * 65536 + s.quot (2 * 65536 * m + sw) (2 * sw) : Nat)
    let sc := s.rd (Reg.SCALER_CTX_SCALE k)
    let ex := ((mid x0 (sum (fun p => p.2.2 * p.1)) - s.markWord c 4) * sgn 16 sc + 2048) / 4096
    let ey := ((mid y0 (sum (fun p => p.2.2 * p.2.1)) - s.markWord c 5) * sgn 16 (sc / 65536) + 2048) / 4096
    some (decide (s.rd Reg.SCALER_MARK_MIN ≤ sw), ex, ey, sw)

/-- Take the marks of a mark record; a record without its frame output yields none. -/
def State.takeMarks (s : State) (a : Nat) (g : Trigger) : State :=
  let (base, _, _, size) := s.frameOut a
  if bitOf (s.recWord a 9) 17 then s
  else if s.poisonedIn base size then s.stripSkip
  else
    let ms := channels.filterMap (fun c => (s.markOf a c).map (fun m => (c, m)))
    let miss := (ms.filter (fun m => !m.2.1)).length
    let s := if miss = 0 then s
      else (s.wr Reg.SCALER_MARK_NOT_FOUND (satAdd 32 (s.rd Reg.SCALER_MARK_NOT_FOUND) miss)).intSet Reg.pageSCALER 14
    let bind := joinBind s.colour.markBind (s.bindWords a g.strip)
    let s := if ms.any (fun m => m.2.2.2.2 == 0) then s.drew else s
    s.modColour (fun u => { u with
      marks := ms.foldl (fun m p => smSet (fun _ => none) m p.1 (some p.2)) u.marks, markBind := bind })

/-- A mark relative to the reference mark; none for NO_REF. -/
def relMark (ref : Option (Bool × Int × Int × Nat)) (m : Bool × Int × Int × Nat) : Option (Int × Int) :=
  match ref with
  | some (true, rx, ry, _) => some (m.2.1 - rx, m.2.2.1 - ry)
  | _ => none

/-- The mark set of a strip whose mark trigger has been served (R297 to R300). -/
def State.endMarks (s : State) (strip : Nat) : State :=
  let bind := s.colour.markBind
  if bind.isEmpty then s
  else
    let refc := s.rdF Reg.SCALER_REF_CH 6 0
    let mark c := smGet (fun _ => none) s.colour.marks c
    let ref := mark refc
    let rel c := match mark c with
      | some m => if m.1 then (if c = refc then some (m.2.1, m.2.2.1) else relMark ref m) else none
      | none => none
    let noRef := match ref with
      | some m => !m.1
      | none => true
    let body := channels.flatMap (fun c => match mark c with
      | none => [c + b2n noRef * 2 ^ 17, 0, 0, 0]
      | some m =>
        let e := (rel c).getD (m.2.1, m.2.2.1)
        [c + b2n m.1 * 2 ^ 16 + b2n noRef * 2 ^ 17, unsgn 32 e.1, unsgn 32 e.2, min (2 ^ 32 - 1) m.2.2.2])
    let rels := channels.filterMap (fun c => if noRef || c == refc then none else rel c)
    let top (f : Int × Int → Int) := (rels.map (fun e => min 65535 ((f e).natAbs / 256))).foldl max 0
    let s := s.wr Reg.SCALER_MARK_RESID (top (·.1) + top (·.2) * 65536)
    let set := resultSet strip strip strip (2 ^ 28 + b2n s.dense * 2 ^ 16) [bind] body
    s.modColour (fun u => { u with sets := u.sets ++ [(set, true)], marks := [], markBind := [] })

end Sys2Proof.Machine
end

