-- ==== Sys2Proof/Machine/Policy.lean ====
section
/-! DEFINITION. Publication of result sets, the triggers that records serve, and the firmware policies of the colour loop
(R287 to R290, R297, R301 to R307). -/

namespace Sys2Proof.Machine

/-- Word w of a result set. -/
def wordAt (set : List Byte) (w : Nat) : Nat := leValue ((set.drop (4 * w)).take 4)

/-- Store half i of an array of 16-bit halves. -/
def State.putHalf (s : State) (key : Nat → Nat) (i v : Nat) : State :=
  s.wrF (key (i / 2)) (16 * (i % 2) + 15) (16 * (i % 2)) v

/-! ## Tone (R302) -/

/-- The highest change of one correction, in v12 steps. -/
def State.stepMax (s : State) : Int := (4095 * s.rdF Reg.SCALER_POLICY_TONE 23 16 / 1000 : Nat)

/-- The density of patch k of channel c in a set, if the patch is VALID. -/
def State.setDens (s : State) (set : List Byte) (c k : Nat) : Option Int :=
  let w := 128 + 16 * (c * 5 + k)
  let sel := s.rdF Reg.SCALER_DENS_SEL (2 * (c / 16) + 1) (2 * (c / 16))
  let n := if sel = 3 then 0 else sel
  if !bitOf (wordAt set w) 16 then none
  else some (sgn 16 (wordAt set (w + 11 + n / 2) / 2 ^ (16 * (n % 2))))

/-- Δ_k from the densities of patches k - 1 to k + 1, the target density and the span of v: 0 for a slope of 0
or below. Where the span is 0 the slope is stated nowhere: a free value (log 31). -/
def State.toneDelta (s : State) (lo at_ hi target span : Int) : Int :=
  let m := s.stepMax
  if span = 0 then clampI (-m) m (sgn 16 s.free)
  else if (hi - lo) * span ≤ 0 then 0
  else clampI (-m) m (roundAway ((s.rdF Reg.SCALER_POLICY_TONE 7 0 : Nat) * (target - at_) * span.natAbs)
    (256 * (hi - lo).natAbs))

/-- The change at knot k of channel c. -/
def State.knot (s : State) (set : List Byte) (c k : Nat) : Int :=
  let de := fld (wordAt set (128 + 16 * (c * 5 + k) + 10)) 31 16
  let t := 5 * (c / 16) + k
  let v j : Int := s.scr.active.toneAt c (s.patchV j)
  match s.setDens set c (k - 1), s.setDens set c k, s.setDens set c (k + 1) with
  | some lo, some at_, some hi =>
    if de ≤ s.rdF Reg.SCALER_POLICY_TONE 15 8 then 0
    else s.toneDelta lo at_ hi (sgn 16 (s.rdF (Reg.SCALER_TGT_BD t) 31 16)) (v (k + 1) - v (k - 1))
  | _, _, _ => 0

/-- Linear interpolation through knots, rounded half up; outside every segment the manual states no value. -/
def State.interp (s : State) (v : Nat) : List (Nat × Int) → Int
  | (x0, d0) :: (x1, d1) :: l =>
    if x0 ≤ v ∧ v < x1 then
      (2 * (d0 * (x1 - v : Nat) + d1 * (v - x0 : Nat)) + (x1 - x0 : Nat)).fdiv (2 * (x1 - x0) : Nat)
    else s.interp v ((x1, d1) :: l)
  | [(x0, d0)] => if v = x0 then d0 else sgn 13 s.free
  | [] => 0

/-- The new curve of a channel. -/
def State.newCurve (s : State) (set : List Byte) (c : Nat) : List Nat :=
  let ks := [(0, 0)] ++ [1, 2, 3].map (fun k => (s.patchV k, s.knot set c k)) ++ [(255, 0)]
  let raw := (List.range 256).map (fun v => (clampI 0 4095 (s.scr.active.toneAt c v + s.interp v ks)).toNat)
  (raw.foldl (fun (a : List Nat × Nat) x => (a.1 ++ [max a.2 x], max a.2 x)) ([], 0)).1

/-- A channel whose tone curve firmware does not judge by a set that begins with this line: a TONE slot of firmware for it
has not ended its ramp, or ended it later (R302). -/
def State.toneMoves (s : State) (first c : Nat) : Bool :=
  ((List.range 8).map (· + 24)).any (fun n => [1, 2, 7].contains (s.slotSt n) && s.slotAction n == 2
    && (s.slotChannels n).contains c)
  || match smGet (fun _ => none) s.colour.toneSettle c with
    | none => false
    | some l => decide (ldiff first l < 0)

/-- The tone policy on a colour set. -/
def State.tonePolicy (s : State) (set : List Byte) : State :=
  if !s.bit Reg.SCALER_LOOP_CTRL 0 then s
  else
    let first := s.stripStart (wordAt set 1)
    let changed := (channels.filter (fun c => !s.toneMoves first c)).filterMap (fun c =>
      let curve := s.newCurve set c
      if curve == (List.range 256).map (s.scr.active.toneAt c) then none else some (c, curve))
    if changed.isEmpty then s.drew
    else s.drew.sendDecision {
      action := 2, ramp := s.rdF Reg.SCALER_POLICY_TONE 27 24, chans := changed.map (·.1)
      writes := changed.flatMap (fun p => (p.2.zipIdx).map (fun q => (1, toneLo p.1 + q.2, q.1))) }

/-! ## Registration (R303, R307) -/

/-- A correction to make: channel, gain in 1/256, ex, ey. -/
structure RegFix where
  ch : Nat
  gain : Nat
  ex : Int
  ey : Int
  deriving DecidableEq, Repr

/-- The tap change and the new taps; whether the clamp acts. -/
def State.tapFix (s : State) (f : RegFix) : Option (Nat × Nat × Bool) :=
  let d : Int := -roundAway (f.gain * f.ey) 262144
  let v : Int := s.rd (Reg.CH_DELAY_TAPS f.ch) + d
  if d.natAbs ≤ s.rdF Reg.SCALER_POLICY_REG 11 8 then none
  else some (d.natAbs, (clampI 0 63 v).toNat, decide (v < 0) || decide (63 < v))

/-- The new shift of a channel; whether the clamp acts. -/
def State.shiftFix (s : State) (f : RegFix) : Option (Nat × Bool) :=
  let d : Int := -roundAway (f.gain * f.ex) 16777216
  let m : Int := (s.rdF Reg.SCALER_POLICY_REG 19 16 : Nat)
  let v : Int := sgn 8 (s.rd (Reg.CH_COL_SHIFT f.ch)) + clampI (-m) m d
  if d.natAbs ≤ s.rdF Reg.SCALER_POLICY_REG 15 12 then none
  else some (unsgn 8 (clampI (-96) 96 v), decide (v < -96) || decide (96 < v))

/-- The least e with n at most 2^e, from e up. -/
def log2Up (n : Nat) : Nat → Nat → Nat
  | 0, e => e
  | k + 1, e => if n ≤ 2 ^ e then e else log2Up n k (e + 1)

/-- Make corrections: one DELAY_TAPS slot and one COL_SHIFT slot for all channels (log 33). -/
def State.regFixes (s : State) (fs : List RegFix) : State :=
  let taps := fs.filterMap (fun f => (s.tapFix f).map (fun t => (f.ch, t)))
  let shifts := fs.filterMap (fun f => (s.shiftFix f).map (fun t => (f.ch, t)))
  let s := if taps.any (fun t => t.2.2.2) then s.wrB Reg.SCALER_LOOP_STATUS 0 true else s
  let s := if shifts.any (fun t => t.2.2) then s.wrB Reg.SCALER_LOOP_STATUS 1 true else s
  let e := log2Up ((taps.map (·.2.1)).foldl max 0) 17 (s.rdF Reg.SCALER_POLICY_REG 23 20)
  let s := if taps.isEmpty then s
    else s.sendDecision {
      action := 4, ramp := e, chans := taps.map (·.1)
      writes := taps.map (fun t => (5, Reg.CH_DELAY_TAPS t.1, t.2.2.1)) }
  if shifts.isEmpty then s
  else s.sendDecision {
    action := 5, ramp := 0, chans := shifts.map (·.1)
    writes := shifts.map (fun t => (5, Reg.CH_COL_SHIFT t.1, t.2.1)) }

/-- The error of channel c in a mark set: FOUND and not NO_REF. -/
def markErr (set : List Byte) (c : Nat) : Option (Int × Int) :=
  let w0 := wordAt set (128 + 4 * c)
  if bitOf w0 16 && !bitOf w0 17 then
    some (sgn 32 (wordAt set (128 + 4 * c + 1)), sgn 32 (wordAt set (128 + 4 * c + 2))) else none

/-- The mark row of a strip was admitted while no registration slot of channel c moved. -/
def State.markSettled (s : State) (strip c : Nat) : Bool :=
  !(smGet (fun _ => []) s.colour.regSettle c).contains strip

/-- DRIFT_REREF bit c (R306): the mean, or 0x8000 until the first valid mean. -/
def State.reref (s : State) (c : Nat) : State :=
  let m := s.half Reg.SCALER_DRIFT_MEAN c
  let s := s.modColour (fun u => { u with
    reref := u.reref.filter (· != c) ++ (if m = 0x8000 then [c] else []) })
  s.putHalf Reg.SCALER_DRIFT_REF c m

/-- A mark of a channel in calibration (R307): the errors kept, and the correction once CAL_STRIPS are there. -/
def State.calibrate (s : State) (set : List Byte) (c : Nat) : State × Option RegFix :=
  match smGet (fun _ => none) s.colour.calib c, markErr set c with
  | some (first, l), some e =>
    if wordAt set 1 < first || !s.markSettled (wordAt set 1) c then (s, none)
    else
      let l := l ++ [e]
      let n := atLeast1 (s.rdF Reg.SCALER_POLICY_REG 27 24)
      let put x := s.modColour (fun u => { u with calib := smSet (fun _ => none) u.calib c x })
      if l.length < n then (put (some (first, l)), none)
      else
        let mean (f : Int × Int → Int) := ((l.map f).foldl (· + ·) 0).fdiv l.length
        (((put none).reref c).wrB (Reg.SCALER_DRIFT_PENDING (c / 32)) (c % 32) false,
          some { ch := c, gain := 256, ex := mean (·.1), ey := mean (·.2) })
  | _, _ => (s, none)

/-- The registration policy and the drift calibrations on a mark set. -/
def State.regPolicy (s : State) (set : List Byte) : State :=
  let strip := wordAt set 1
  let inCal c := (smGet (fun _ => none) s.colour.calib c).isSome
  let normal := if !s.bit Reg.SCALER_LOOP_CTRL 1 then []
    else (channels.filter (fun c => !inCal c && s.markSettled strip c)).filterMap (fun c =>
      (markErr set c).map (fun e => { ch := c, gain := s.rdF Reg.SCALER_POLICY_REG 7 0, ex := e.1, ey := e.2 : RegFix }))
  let (s, cal) := (channels.filter inCal).foldl (fun (a : State × List RegFix) c =>
    let (s, f) := a.1.calibrate set c
    (s, a.2 ++ f.toList)) (s, [])
  s.regFixes (normal ++ cal)

/-! ## Nozzle states (R304) -/

/-- The calibrated gain of a nozzle, plus 1; 0 while it is what the table holds. -/
def State.calGainOf (s : State) (k : Nat) : Nat :=
  let g := smGet (fun _ => 0) s.colour.calGain k
  if g = 0 then smGet nozzleReset s.scr.active.nozzle k % 4096 else g - 1

/-- The gain of a WEAK nozzle: beyond the field's range the manual states none (log 31). -/
def State.weakGain (s : State) (cal : Nat) (qs : List Nat) : Nat :=
  let sum := qs.foldl (· + ·) 0
  let r := s.quot (2 * cal * 65536 * qs.length + sum) (2 * sum)
  let g := min (cal * s.rdF Reg.SCALER_POLICY_NOZZLE 23 16 / 64) r
  if g < 4096 then g else s.free % 4096

/-- The new nozzle word of nozzle k after a staircase, where it changes. -/
def State.nozzleFix (s : State) (k : Nat) : Option Nat :=
  let w := smGet nozzleReset s.scr.active.nozzle k
  let qs := smGet (fun _ => []) s.colour.contrast k
  let miss := s.rdF Reg.SCALER_POLICY_NOZZLE 7 0 * 256
  let weak := s.rdF Reg.SCALER_POLICY_NOZZLE 15 8 * 256
  let st := fld w 23 22
  let cal := s.calGainOf k
  let new :=
    if st = 3 then w
    else if (qs.filter (fun q => decide (q < miss))).length ≥ 2 then putFld w 23 22 2
    else if (qs.filter (fun q => decide (miss ≤ q) && decide (q < weak))).length ≥ 2 then
      putFld (putFld w 11 0 (s.weakGain cal qs)) 23 22 1
    else if st ≠ 0 ∧ qs.length = 3 ∧ qs.all (fun q => decide (weak ≤ q)) then putFld (putFld w 11 0 cal) 23 22 0
    else w
  if new = w then none else some new

/-- Remember the calibrated gain of a nozzle that leaves GOOD, and forget it as it returns. -/
def State.keepGain (s : State) (k new : Nat) : State :=
  let cal := s.calGainOf k
  s.modColour (fun u => { u with
    calGain := smSet (fun _ => 0) u.calGain k (if fld new 23 22 = 0 then 0 else cal + 1) })

/-- The place of a nozzle's segment in its step, and whether two segments stand in the same step of a plane (R282). Nozzle
n of channel c is c * 6144 + n. -/
def segPos (k : Nat) : Nat := k / 6144 % 16 * headPitch + k % 6144
def sameStep (a b : Nat) : Bool := a / 98304 == b / 98304 && a / 6144 % 2 == b / 6144 % 2 && a % 8 == b % 8

/-- The median contrast of the 16 other segments of a step nearest to nozzle k (log 95). -/
def nearMedian (raw : List (Nat × Nat)) (k : Nat) : Nat :=
  let near := sortNat ((raw.filter (fun m => m.1 != k && sameStep m.1 k)).map (fun m =>
    ((segPos m.1 : Int) - segPos k).natAbs * 2 ^ 32 + m.2))
  let l := sortNat ((near.take 16).map (· % 2 ^ 32))
  (l.getD ((l.length - 1) / 2) 0 + l.getD (l.length / 2) 0) / 2

/-- q_n of the nozzles measured, in 1/65,536, rounded down; where the median is 0 a free value (log 31). -/
def State.fractions (s : State) (raw : List (Nat × Nat)) : List (Nat × Nat) :=
  raw.map (fun m => (m.1, s.quot (m.2 * 65536) (nearMedian raw m.1)))

/-- The nozzle policy on the contrasts of a staircase: each names nozzle c * 6144 + n and q_n in 1/65,536. -/
def State.nozzlePolicy (s : State) (contrast : List (Nat × Nat)) : State :=
  if !s.bit Reg.SCALER_LOOP_CTRL 2 || contrast.isEmpty then s
  else
    let s := s.modColour (fun u => { u with contrast := contrast.foldl (fun m p =>
      smSet (fun _ => []) m p.1 ((p.2 :: smGet (fun _ => []) m p.1).take 3)) u.contrast })
    let fixes := contrast.filterMap (fun p => (s.nozzleFix p.1).map (fun w => (p.1, w)))
    let s := fixes.foldl (fun s p => s.keepGain p.1 p.2) s.drew
    if fixes.isEmpty then s
    else s.sendDecision {
      action := 1, ramp := 0, chans := (fixes.map (fun p => p.1 / 6144)).eraseDups
      writes := fixes.map (fun p => (0, p.1, p.2)) }

/-! ## Triggers served (R287 to R290) -/

/-- A trigger for which no further record is awaited: its band is DONE, or its mark set complete; without a
record it yields no result, and its band is DONE no more (R287, R289). -/
def State.finishTrigger (s : State) (g : Trigger) : State :=
  let s := s.modColour (fun u => { u with armed := u.armed.erase g })
  if g.kind = 0 then
    let s := s.showPending g.band
    let bound := (smGet (fun _ => []) s.colour.binding g.band).getD 2 0 % 65536 == g.plan
    if bound && s.bandsUsed.contains g.band then (s.setBandDone g.band true).endCycle
    else
      let s := if bound then s else s.setBandDone g.band false
      if g.got = 0 then s.stripSkip else s
  else if g.got = 0 then s.stripSkip
  else if g.kind = 1 then s.endMarks g.strip
  else s

/-- All results of a trigger are in, or lost. -/
def State.triggerOver (s : State) (g : Trigger) : Bool :=
  decide (0 < g.got) && decide ((s.enabledVcs g.port).length ≤ g.got + g.lost)

/-- Finish the triggers that are over. -/
def State.finishOver (s : State) : State := (s.colour.armed.filter s.triggerOver).foldl State.finishTrigger s

/-- Serve an armed trigger with a record at address a. A staircase goes to firmware, with the contrasts that it measures
in the frame: nozzle and contrast (R304). -/
def State.serve (s : State) (a : Nat) (g : Trigger) (contrast : List (Nat × Nat)) : State :=
  let s := if s.poisonedIn a (s.recWord a 14) then s.stripSkip
    else if g.kind = 0 then s.storeBand a g
    else if g.kind = 1 then s.takeMarks a g
    else if s.crewRuns 1 then s.nozzlePolicy (s.fractions contrast)
    else s
  let h := { g with got := g.got + 1 }
  (s.modColour (fun u => { u with armed := u.armed.map (fun x => if x == g then h else x) })).finishOver

/-- SCALER_RECORD_TAKE: the record at READ_IDX_SCALER (R270, R287). A record of another BAND than the one armed is not
accepted, and the trigger has one result less. -/
def execScalerRecordTake (contrast : List (Nat × Nat)) (s : State) : Res :=
  let s := s.finishOver
  let r := s.rd Reg.STATS_READ_IDX_SCALER
  if !bitOf s.colour.cfg 5 || !s.scalerEn || r == s.rd Reg.STATS_WRITE_IDX then .next s
  else
    let a := s.recordAddr r
    let s := s.wr Reg.STATS_READ_IDX_SCALER ((r + 1) % s.ringSlots)
    let port := fld (s.recWord a 0) 20 20
    let w7 := s.recWord a 7
    match s.colour.armed.find? (fun g => g.port == port && g.plan == fld w7 15 0) with
    | none => .next s
    | some g =>
      if g.band = fld w7 19 16 then .next (s.serve a g contrast)
      else .next (s.loseTrigger port g.plan 1 (s.enabledVcs port).length)

/-- CYCLE_EXPIRED: the cycle has not completed within CYCLE_MAX strips of its first result (R290). STRIP_NUM names the
next strip, whose results are yet to come. -/
def execCycleExpired (s : State) : Res := .next (s.expireCycle (s.rd Reg.SCALER_STRIP_NUM - 1))

/-! ## Publication (R297) -/

def State.resultSlots (s : State) : Nat := atLeast1 (s.rdF Reg.SCALER_RESULT_SLOTS 7 0)

/-- RESULT_SET_PUBLISH: the oldest complete set of a kind is written, or discarded where no slot is free. Then
firmware takes it. -/
def execResultSetPublish (marks : Bool) (s : State) : Res :=
  match s.colour.sets.find? (fun x => x.2 == marks) with
  | none => .next s
  | some x =>
    let s := s.modColour (fun u => { u with sets := u.sets.erase x })
    let w := s.rdF Reg.SCALER_RESULT_WRITE 7 0
    let next := (w + 1) % s.resultSlots
    let a := s.region58 + s.rdF Reg.SCALER_RESULT_BASE 16 0 * 4096 + w * 65536
    if next = s.rdF Reg.SCALER_RESULT_READ 7 0 || !s.inRegion 58 a 65536 then
      .next ((s.count Reg.SCALER_RESULT_OVERFLOW).intSet Reg.pageSCALER 13)
    else
      let s := ((s.dramWrite 2 a x.1).wr Reg.SCALER_RESULT_WRITE next).intSet Reg.pageSCALER 8
      let takes := s.crewRuns 1
      let s := if !takes then s else if marks then s.regPolicy x.1 else s.tonePolicy x.1
      .next (if !takes || s.rdF Reg.SCALER_LOOP_CTRL 3 0 == 0 then s else s.wr Reg.SCALER_RESULT_READ next)

/-! ## Temperature drift (R305, R306) -/

/-- Close the bin of a channel and form its mean. -/
def State.closeBin (s : State) (c : Nat) : State :=
  let l := smGet (fun _ => []) s.colour.temps c
  let bin := if l.isEmpty then none else some ((l.foldl (· + ·) 0).fdiv l.length)
  let n := s.rdF Reg.SCALER_DRIFT_CFG 15 8
  let bins := (bin :: smGet (fun _ => []) s.colour.bins c).take 255
  let used := (bins.take n).filterMap id
  let mean := if used.isEmpty || 2 * used.length < n then 0x8000
    else unsgn 16 ((used.foldl (· + ·) 0).fdiv used.length)
  let s := s.modColour (fun u => { u with
    temps := smSet (fun _ => []) u.temps c [], bins := smSet (fun _ => []) u.bins c bins })
  let s := s.putHalf Reg.SCALER_DRIFT_MEAN c mean
  if s.colour.reref.contains c && mean != 0x8000 then s.reref c else s

/-- The trigger of a channel, and firmware's answer (R307). -/
def State.driftTrigger (s : State) (c : Nat) : State :=
  let mean := s.half Reg.SCALER_DRIFT_MEAN c
  let ref := s.half Reg.SCALER_DRIFT_REF c
  let early := match smGet (fun _ => none) s.colour.lastTrig c with
    | none => false
    | some t => decide (s.since t < s.rdF Reg.SCALER_DRIFT_CFG 31 16 * 800000000)
  if mean = 0x8000 || ref = 0x8000 || early ||
      decide ((sgn 16 mean - sgn 16 ref).natAbs ≤ s.rdF Reg.SCALER_DRIFT_CFG 7 0) then s
  else
    let s := (s.wrB (Reg.SCALER_DRIFT_PENDING (c / 32)) (c % 32) true).intSet Reg.pageSCALER 11
    let s := s.modColour (fun u => { u with lastTrig := smSet (fun _ => none) u.lastTrig c (some s.frc) })
    if !s.bit Reg.SCALER_LOOP_CTRL 3 || !s.crewRuns 1 then s
    else
      let s := s.stairForce (.crew 1)
      s.modColour (fun u => { u with
        calib := smSet (fun _ => none) u.calib c (some (s.rd Reg.SCALER_STRIP_NUM, [])) })

/-- DRIFT_BIN: the 1 s bin of channel c ends at t. -/
def execDriftBin (c : Fin 128) (t : Nat) (s : State) : Res := .next (((s.till t).closeBin c.val).driftTrigger c.val)

/-- DRIFT_REREF. -/
def execDriftReref (src : Req) (c : Fin 128) (s : State) : Res :=
  if s.cutOff src then .next s else
  .next (s.reref c.val)

end Sys2Proof.Machine
end

