-- ==== Sys2Proof/Machine/Mail.lean ====
section
/-! DEFINITION. The mailbox channels: their ends, their state machine, and the resets of an end (R440 to R452).
Channels 0 to 15 stand on MBOX, 16 to 31 on MBOXS. Channel states: 0 EMPTY, 1 POSTED, 2 TAKEN, 3 ACKED. -/

namespace Sys2Proof.Machine

/-- The key of a channel's register from the register's place in channel 0 of MBOX. -/
def mbKey (reg n : Nat) : Nat := if n < 16 then reg + 0x40 * n else reg + 0x10000 + 0x40 * (n - 16)
def mbPage (n : Nat) : Nat := if n < 16 then Reg.pageMBOX else Reg.pageMBOXS

/-- The configuration of a function: false PF0, true PF1. -/
def State.pcieFn (s : State) (pf1 : Bool) : PcieFn := if pf1 then s.host.fn1 else s.host.fn0

def kPtrLo : Nat → Nat := mbKey (Reg.MBOX_MB_PTR_LO 0)
def kPtrHi : Nat → Nat := mbKey (Reg.MBOX_MB_PTR_HI 0)
def kMsgLen : Nat → Nat := mbKey (Reg.MBOX_MB_MSG_LEN 0)
def kTypeTag : Nat → Nat := mbKey (Reg.MBOX_MB_TYPE_TAG 0)
def kMbCtrl : Nat → Nat := mbKey (Reg.MBOX_MB_CTRL 0)
def kMbCfg : Nat → Nat := mbKey (Reg.MBOX_MB_CFG 0)
def kMbAck : Nat → Nat := mbKey (Reg.MBOX_MB_ACK 0)
def kMbStatus : Nat → Nat := mbKey (Reg.MBOX_MB_STATUS 0)
def kResult : Nat → Nat := mbKey (Reg.MBOX_MB_RESULT 0)
def kNotice : Nat → Nat := mbKey (Reg.MBOX_MB_NOTICE 0)
def kMaxLen : Nat → Nat := mbKey (Reg.MBOX_MB_MAX_LEN 0)
def kRxLo : Nat → Nat := mbKey (Reg.MBOX_MB_RX_BASE_LO 0)
def kRxHi : Nat → Nat := mbKey (Reg.MBOX_MB_RX_BASE_HI 0)
def kRxSize : Nat → Nat := mbKey (Reg.MBOX_MB_RX_SIZE 0)
def kAckDiscarded : Nat → Nat := mbKey (Reg.MBOX_MB_ACK_DISCARDED 0)
def kRejected : Nat → Nat := mbKey (Reg.MBOX_MB_REJECTED 0)

/-- Host to module: MB0-MB7 and MB16-MB23. -/
def toModule (n : Nat) : Bool := n % 16 < 8

def State.mbSt (s : State) (n : Nat) : Nat := s.rdF (kMbStatus n) 1 0
def State.setMbSt (s : State) (n v : Nat) : State := s.wrF (kMbStatus n) 1 0 v
def State.mbSeq (s : State) (n : Nat) : Nat := s.rdF (kMbStatus n) 15 8
def State.mbLen (s : State) (n : Nat) : Nat := s.rdF (kMsgLen n) 24 0
def State.mbType (s : State) (n : Nat) : Nat := s.rdF (kTypeTag n) 15 0
def State.mbTag (s : State) (n : Nat) : Nat := s.rdF (kTypeTag n) 31 16

/-- The requesters at the two ends (R440). -/
def hostEnd (n : Nat) : Req := if n < 16 then .pf0 else .pf1
def State.moduleEnd (s : State) (n : Nat) : Req :=
  if n ≥ 16 then .ranger
  else
    let i := s.rdF Reg.MBOX_CH_OWNER (2 * n + 1) (2 * n)
    if i = 0 then .crew 0 else if i = 1 then .crew 1 else if i = 2 then .crew 2 else .crew 3
def State.mbSender (s : State) (n : Nat) : Req := if toModule n then hostEnd n else s.moduleEnd n
def State.mbReceiver (s : State) (n : Nat) : Req := if toModule n then s.moduleEnd n else hostEnd n

/-- The number of a firmware core in `Out.firmware`: Crew 0 to 3, Ranger 4. -/
def coreNum : Req → Nat
  | .crew i => i.val
  | _ => 4

/-- The host-end event of a channel, and the event of its module end (R452). -/
def State.hostEvent (s : State) (n : Nat) : State := s.intSet (mbPage n) (8 + n % 16)
def State.moduleEvent (s : State) (n : Nat) : State := s.emit (.firmware (coreNum (s.moduleEnd n)) n)

/-- Notify the sender that the channel is ACKED, the receiver that it is POSTED. -/
def State.tellSender (s : State) (n : Nat) : State := if toModule n then s.hostEvent n else s.moduleEvent n
def State.tellReceiver (s : State) (n : Nat) : State := if toModule n then s.moduleEvent n else s.hostEvent n

/-- RESULT := code with SEQ, ACKED, the sender notified. -/
def State.mbResult (s : State) (n code : Nat) : State :=
  ((s.wr (kResult n) (code + s.mbSeq n * 65536)).setMbSt n 3).tellSender n

/-- What the module end holds of a message is dropped. -/
def State.dropMessage (s : State) (n : Nat) : State :=
  { s with host := { s.host with
    bodies := smSet (fun _ => none) s.host.bodies n none, held := smSet (fun _ => none) s.host.held n none } }

/-- The body lies outside the receive region (R445). -/
def State.outOfRegion (s : State) (n : Nat) : Bool :=
  let p := s.rd64 (kPtrLo n) (kPtrHi n)
  let b := s.rd64 (kRxLo n) (kRxHi n)
  !toModule n && s.mbLen n != 0 && (p < b || decide (b + s.rdF (kRxSize n) 24 0 < p + s.mbLen n))

/-- Every command at a channel's registers by the wrong end is recorded as WRONG_SIDE (R441). -/
def State.mbSide (s : State) (src want : Req) (n key : Nat) (f : State → State) : State :=
  if src = want then f s else s.errAt (mbPage n) 0x0103 key src

/-- CTRL.POST (R442). -/
def State.mbPost (s : State) (src : Req) (n : Nat) : State :=
  s.mbSide src (s.mbSender n) n (kMbCtrl n) (fun s =>
    if s.mbSt n = 1 ∨ s.mbSt n = 2 then s.errAt (mbPage n) 0x0101 (kMbCtrl n) src
    else if s.outOfRegion n then s.errAt (mbPage n) 0x0104 (kMbCtrl n) src
    else
      let s := s.wrF (kMbStatus n) 15 8 (s.mbSeq n + 1)
      if s.mbLen n > s.rdF (kMaxLen n) 24 0 then (s.mbResult n 0xFF04).count (kRejected n)
      else (s.setMbSt n 1).tellReceiver n)
def execMbPost (src : Req) (n : Fin 32) (s : State) : Res :=
  if s.asleep src then .next s else
  .next (s.mbPost src n.val)

/-- The PASID of a channel's copies (R444), and a channel that may send no request (R437). -/
def State.mbPasid (s : State) (n : Nat) : Option Nat :=
  if s.bit (kMbCfg n) 31 then some (s.rdF (kMbCfg n) 27 8) else none
def State.mbPasidOff (s : State) (n : Nat) : Bool := (s.mbPasid n).isSome && !(s.pcieFn (decide (16 ≤ n))).pasid

/-- The copy engine reads the body of a message that the module end has taken (R444). -/
def State.requestBody (s : State) (n : Nat) : State :=
  if !toModule n || s.mbLen n == 0 || s.mbPasidOff n then s
  else s.emit (.hostRead (s.mbPasid n) (s.rd64 (kPtrLo n) (kPtrHi n)) (s.mbLen n))

/-- CTRL.TAKE. -/
def State.mbTake (s : State) (src : Req) (n : Nat) : State :=
  s.mbSide src (s.mbReceiver n) n (kMbCtrl n) (fun s =>
    if s.mbSt n = 1 then (s.setMbSt n 2).requestBody n else s.errAt (mbPage n) 0x0102 (kMbCtrl n) src)
def execMbTake (src : Req) (n : Fin 32) (s : State) : Res :=
  if s.asleep src then .next s else
  .next (s.mbTake src n.val)

/-- A write of ACK: CODE in [15:0], SEQ in [23:16]. -/
def State.mbAck (s : State) (src : Req) (n data : Nat) : State :=
  s.mbSide src (s.mbReceiver n) n (kMbAck n) (fun s =>
    if fld data 15 0 ≥ 0xFF00 then s.errAt (mbPage n) 0x0106 (kMbAck n) src
    else if s.mbSt n = 2 ∧ fld data 23 16 = s.mbSeq n then (s.mbResult n (fld data 15 0)).dropMessage n
    else s.count (kAckDiscarded n))
def execMailboxAck (src : Req) (n : Fin 32) (data : Nat) (s : State) : Res :=
  if s.asleep src then .next s else
  .next (s.mbAck src n.val data)

/-- CTRL.CLEAR. -/
def State.mbClear (s : State) (src : Req) (n : Nat) : State :=
  s.mbSide src (s.mbSender n) n (kMbCtrl n) (fun s =>
    if s.mbSt n = 3 then s.setMbSt n 0
    else if s.mbSt n = 0 then s else s.errAt (mbPage n) 0x0101 (kMbCtrl n) src)
def execMbClear (src : Req) (n : Fin 32) (s : State) : Res :=
  if s.asleep src then .next s else
  .next (s.mbClear src n.val)

/-! ## Resets of an end (R450, R451) -/

/-- A reset of the receiver, or of the sender. -/
def State.resetReceiver (s : State) (n : Nat) : State :=
  if s.mbSt n = 1 then s.mbResult n 0xFF01
  else if s.mbSt n = 2 then (s.mbResult n 0xFF02).dropMessage n
  else s
def State.resetSender (s : State) (n : Nat) : State :=
  if s.mbSt n = 2 then
    let s := (s.wr (kNotice n) (0xFF03 + s.mbSeq n * 65536)).wrB (kMbStatus n) 16 true
    ((s.setMbSt n 0).dropMessage n).tellReceiver n
  else s.setMbSt n 0

def State.hostEndReset (s : State) (n : Nat) : State := if toModule n then s.resetSender n else s.resetReceiver n
def State.moduleEndReset (s : State) (n : Nat) : State := if toModule n then s.resetReceiver n else s.resetSender n

def mboxChans : List Nat := List.range 16
def mboxsChans : List Nat := (List.range 16).map (· + 16)

/-- HOST_CTRL.DETACH of MBOX or MBOXS. -/
def State.detach (s : State) (pf1 : Bool) : State :=
  (if pf1 then mboxsChans else mboxChans).foldl State.hostEndReset s
def execDetach (src : Req) (pf1 : Bool) (s : State) : Res :=
  if s.asleep src then .next s else
  .next (s.detach pf1)

/-! ## Locks of a requester that is reset (R65) -/

/-- The owner identity of a requester (R63). -/
def ownerId : Req → Nat
  | .pf0 => 0x01
  | .pf1 => 0x02
  | .crew i => 0x10 + i.val
  | .ranger => 0x20
  | .peer => 0x30
def State.releaseLocks (s : State) (r : Req) : State :=
  { s with locks := s.locks.filter (fun e => e.2 != ownerId r) }

/-- The reset of a Crew core: the module ends it owns, and its locks (R450, R466). -/
def State.crewReset (s : State) (i : Fin 4) : State :=
  ((mboxChans.filter (fun n => s.moduleEnd n = .crew i)).foldl State.moduleEndReset s).releaseLocks (.crew i)

/-- A restart of Ranger: a reset of the module end of the secure channels (R467), and its locks. -/
def State.rangerReset (s : State) : State := (mboxsChans.foldl State.moduleEndReset s).releaseLocks .ranger

end Sys2Proof.Machine
end

