-- ==== Sys2Proof/Machine/Journal.lean ====
section
/-! DEFINITION. The calibration journal in MRAM (R469 to R473, R479). -/

namespace Sys2Proof.Machine

/-- The bytes of a record: header, padded payload, commit word. -/
def JournalRecord.size (r : JournalRecord) : Nat := 32 + (r.data.length + 7) / 8 * 8 + 8

def State.modMgmt (s : State) (f : Mgmt → Mgmt) : State := { s with mgmt := f s.mgmt }

/-- NV_STATUS: MRAM_IN_RANGE, NOR_IN_RANGE, COMPACTING. -/
def State.mramInRange (s : State) : Bool := s.bit Reg.NVS_NV_STATUS 0
def State.norInRange (s : State) : Bool := s.bit Reg.NVS_NV_STATUS 1
def State.compacting (s : State) : Bool := s.bit Reg.NVS_NV_STATUS 2
def State.compact (s : State) (b : Bool) : State := (s.wrB Reg.NVS_NV_STATUS 2 b).busy Reg.pageNVS b

/-- MRAM takes writes: in range, and not TRIPPED (R503). -/
def State.mramOpen (s : State) : Bool := s.mramInRange && s.modState != 8

/-- All records in force, but for START. -/
def State.allInForce (s : State) : List JournalRecord :=
  s.records.filter (fun r => r.kind != 0x0003 && inForce s.records r.kind r.key == some r)

/-- The registers of NVS and KEY_STATE that describe the journal. -/
def State.showJournal (s : State) : State :=
  let used := ((s.mgmt.journal.filter (fun r => r.half == s.activeHalf)).map (·.size)).foldl (· + ·) 0
  let last := s.mgmt.nextSeq - 1
  let s := (s.wrB Reg.NVS_NV_STATUS 4 s.hostKey.isSome).wrB Reg.NVS_NV_STATUS 5 s.lookoutKey.isSome
  (s.wrB Reg.MBOXS_KEY_STATE 0 s.hostKey.isSome).wrs [
    (Reg.NVS_QUEUE_DEPTH, s.mgmt.waiting.length % 128), (Reg.NVS_JOURNAL_USED, used % 2 ^ 26),
    (Reg.NVS_RECORDS, s.allInForce.length % 2 ^ 20), (Reg.NVS_LAST_SEQ_LO, last % 2 ^ 32),
    (Reg.NVS_LAST_SEQ_HI, last / 2 ^ 32 % 2 ^ 32)]

/-- Less than 2 MiB free in the active half starts a compaction (R471). -/
def State.needCompact (s : State) : State :=
  if s.rd Reg.NVS_JOURNAL_USED > 2 ^ 25 - 2 ^ 21 then s.compact true else s

/-- The next record. -/
def State.newRecord (s : State) (kind key : Nat) (data : List Byte) : JournalRecord :=
  { half := s.activeHalf, kind := kind, key := key, seq := s.mgmt.nextSeq, data := data }

/-- Write a record (R472): at once, into the queue, or not at all where the queue is full. The number is 0
COMMITTED or 1 QUEUED. -/
def State.writeRecord (s : State) (kind key : Nat) (data : List Byte) : Option (State × Nat) :=
  let r := s.newRecord kind key data
  if s.mramOpen then
    some ((s.modMgmt (fun m => { m with
      journal := m.journal ++ [r], nextSeq := m.nextSeq + 1 })).showJournal.needCompact, 0)
  else if s.mgmt.waiting.length < 64 then
    let s := (s.modMgmt (fun m => { m with waiting := m.waiting ++ [r], nextSeq := m.nextSeq + 1 })).showJournal
    some (if s.mgmt.waiting.length = 64 then s.intSet Reg.pageNVS 9 else s, 1)
  else none

/-- The records that wait are written. -/
def State.writeWaiting (s : State) : State :=
  if s.mramOpen then
    (s.modMgmt (fun m => { m with
      journal := m.journal ++ m.waiting.map (fun r => { r with half := s.activeHalf })
      waiting := [] })).showJournal.needCompact
  else s

/-! ## Compaction (R471) -/

/-- NV_CTRL.COMPACT_NOW. -/
def State.compactNow (s : State) (src : Req) : State :=
  if s.compacting then s.errAt Reg.pageNVS 0x0101 Reg.NVS_NV_CTRL src else s.compact true
def execCompactNow (src : Req) (s : State) : Res :=
  if s.asleep src then .next s else
  .next (s.compactNow src)

/-- COMPACTION_DONE: every record in force stands in the other half, and START after them. -/
def execCompactionDone (s : State) : Res :=
  if !s.compacting then .next s
  else
    let other := 1 - s.activeHalf
    let keep := s.allInForce.filter (fun r => !s.mgmt.waiting.contains r)
    let start : JournalRecord := { half := other, kind := 0x0003, key := 0, seq := 0, data := [] }
    let new := ((keep ++ [start]).zipIdx).map (fun p => { p.1 with half := other, seq := s.mgmt.nextSeq + p.2 })
    let s := s.modMgmt (fun m => { m with
      journal := m.journal.filter (fun r => r.half != other) ++ new, nextSeq := m.nextSeq + new.length })
    let s := (s.compact false).wrF Reg.NVS_NV_STATUS 3 3 other
    .next (s.showJournal.intSet Reg.pageNVS 10)

/-! ## The range of the devices (R472) -/

/-- NV_RANGE_RETURN: waiting records are written, a paused NOR operation resumes. -/
def execNvRangeReturn (nor : Bool) (s : State) : Res :=
  if nor then
    .next (if s.norInRange then s.modMgmt (fun m => { m with norPaused := false }) else s)
  else .next s.writeWaiting

/-- A device leaves its range, or enters it. -/
def State.nvRange (s : State) (nor inRange : Bool) : State :=
  let i := if nor then 1 else 0
  if s.bit Reg.NVS_NV_STATUS i == inRange then s
  else if inRange then s.wrB Reg.NVS_NV_STATUS i true
  else
    let s := ((s.wrB Reg.NVS_NV_STATUS i false).intSet Reg.pageNVS 8).count Reg.NVS_INTERLOCK_COUNT
    let s := if nor && s.mgmt.op == some 0 then s.modMgmt (fun m => { m with norPaused := true }) else s
    s.tally 0x0090 0x81 0 1 (b2n nor)

end Sys2Proof.Machine
end

