-- ==== Sys2Proof/Machine/Resets.lean ====
section
/-! DEFINITION. The reset domains (R28 to R31, R67, R450, R451), head power and the lamp bus enables at the
outputs (R494, R524), and taking the core down (R485, R490). MODULE_STATE codes are those of R67, and 0 for
OFF. -/

namespace Sys2Proof.Machine

/-- The pages held in the standby domain (R28, R438, R487). -/
def PageType.standby : PageType → Bool
  | .mbox | .mboxs | .nvs | .fw | .tally | .pwr | .therm | .net | .prp | .time => true
  | _ => false

/-- Whether a register key lies on a core page; the MSI-X tables are in the standby domain. -/
def coreKey (k : Nat) : Bool :=
  match pageAt (k / 0x1000) with
  | some (p, _) => !p.standby
  | none => decide (k / 0x1000 < 0x300)

/-- The registers of the Lookout client, which a MODULE reset keeps (R28; log 92). -/
def lookoutKeys : List Nat :=
  [Reg.PAIR_PAIR_CFG, Reg.PAIR_PAIR_ID, Reg.PAIR_EPOCH, Reg.PAIR_LOOKOUT_MAC_LO, Reg.PAIR_LOOKOUT_MAC_HI,
    Reg.PAIR_PARTNER_MAC_LO, Reg.PAIR_PARTNER_MAC_HI, Reg.PAIR_LOOKOUT_COUNT, Reg.PAIR_GRANT_WAIT]

/-- PLL_STATUS after a reset: a loop that has lost lock stays lost until lock is regained (log 67); the DRAM clocks that a
PARK stopped run again. -/
def State.pllKept (s : State) : Nat :=
  if s.modState = 6 then s.rd Reg.CLK_PLL_STATUS ||| 2 else s.rd Reg.CLK_PLL_STATUS

/-- The core's registers and units return to reset; the standby domain, the straps and the stop input are kept.
Job memory is lost (R30), and MODULE_STATE keeps its value until the state changes. -/
def State.coreClear (s : State) : State :=
  let st := s.modState
  let cfg := s.rd Reg.SYS_CONFIG
  let ver := s.rd Reg.SYS_FW_VERSION
  let client := lookoutKeys.map (fun k => (k, s.rd k))
  let lease := s.rd Reg.PAIR_PAIR_STATUS &&& 0x1101
  let pll := s.pllKept
  let s := { s with
    regs := smClear coreKey s.regs, shadow := smClear coreKey s.shadow, frozen := smClear coreKey s.frozen
    latchR := smClear (fun k => coreKey (k / 8 * 0x1000)) s.latchR
    latchW := smClear (fun k => coreKey (k / 8 * 0x1000)) s.latchW, locks := []
    line := {}, slots := [], scr := {}, splices := [], job := {}, lanes := [], cam := {}, colour := {}, lamp := {}
    pair := { seq := s.pair.seq, lookoutSeq := s.pair.lookoutSeq, partnerSeq := s.pair.partnerSeq
              epochSeen := s.pair.epochSeen, leaseEnd := s.pair.leaseEnd, asked := s.pair.asked
              claiming := s.pair.claiming, reason := s.pair.reason, answerAt := s.pair.answerAt
              grantA := s.pair.grantA, grantB := s.pair.grantB }
    ring := {}, tio := {}, dram := {} }
  ((s.wrs client).wrs [(Reg.PAIR_PAIR_STATUS, 1 + (lease / 2 ^ 8) * 2 ^ 8), (Reg.SYS_CONFIG, cfg), (Reg.SYS_FW_VERSION, ver), (Reg.SYS_MODULE_STATE, st),
    (Reg.CLK_PLL_STATUS, pll)]).setStCode Reg.pageSYS st

/-- RESET_CAUSE holds the cause of the last reset alone. -/
def causePOR : Nat := 0
def causeSTANDBY : Nat := 1
def causeHOST : Nat := 2
def causeFIRMWARE : Nat := 3
def causeCREWWDOG : Nat := 4
def causeRANGERWDOG : Nat := 5
def causeTRIP : Nat := 6
def causeCLOCK : Nat := 7

/-- The core in reset: the module ends of MB0 to MB15 reset, and the mailbox pages told. The module is then in
state `st`. -/
def State.coreReset (s : State) (cause st : Nat) : State :=
  let s := (mboxChans.foldl State.moduleEndReset s).coreClear.wr Reg.SYS_RESET_CAUSE (2 ^ cause)
  (s.modMgmt (fun m => { m with up := false })).setModule st

/-- RESET_COUNT and INT_STATUS.CORE_RESET at a MODULE reset (R455, R456). -/
def State.countReset (s : State) : State :=
  let n := satInc 16 (s.rd Reg.MBOX_RESET_COUNT)
  ((s.wr Reg.MBOX_RESET_COUNT n).wr Reg.MBOXS_RESET_COUNT n).intSet Reg.pageMBOX 24

/-- The core runs: BOOT to SAFE. -/
def State.coreUp (s : State) : Bool := decide (2 ≤ s.modState) && decide (s.modState ≤ 7)

/-- The outputs of the core in reset: the lanes that send go to electrical idle, the lamp buses are not enabled,
SPEED_ADVICE is low (R524, R530, R531). -/
def State.coreSilent (s : State) : State :=
  let s := s.wrF Reg.PWR_LAMP_BUS_STATUS 3 0 0
  let s := s.emits ((channels.filter (fun c => 2 ≤ s.laneSt c && s.laneSt c != 7)).map Out.electricalIdle)
  if s.rdF Reg.LINE_SPEED_ADVICE 16 0 = 0 then s else s.emit (.wave 0x20 0)

/-- A MODULE reset with the actions of R29; `halt` is false for a loss of the core PLL. -/
def State.moduleReset (s : State) (cause : Nat) (halt : Bool) : State :=
  if !s.coreUp then s
  else
    let s := (if halt then s.stopAll false causeModuleReset false else s).sinksOff
    (s.coreSilent.coreReset cause 2).countReset.tally 0x0003 0x01 0 2 (2 ^ cause)

/-- RESET_CTRL (R67). -/
def State.resetCtrl (s : State) (src : Req) (data : Nat) : State :=
  if fld data 31 16 ≠ 0xA5C3 then s.errAt Reg.pageSYS 0x000E Reg.SYS_RESET_CTRL src
  else if bitOf data 0 then s.moduleReset (if isHost src then causeHOST else causeFIRMWARE) true
  else s
def execResetCtrl (src : Req) (data : Nat) (s : State) : Res :=
  if s.cutOff src then .next s else
  .next (s.resetCtrl src data)

/-- CREW_WATCHDOG (R459). -/
def execCrewWatchdog (s : State) : Res := .next (s.moduleReset causeCREWWDOG true)

/-! ## Head power and lamp buses at the outputs -/

/-- Every core rail is in regulation: VCORE to VPP. -/
def State.railsGood (s : State) : Bool := s.rdF Reg.PWR_RAIL_STATUS 7 1 == 0x7F

/-- HEAD_PWR_STATUS follows the request, the rails and SYS24_IN (R494, R524); a bit cleared by a write stays
asserted until it is deasserted. -/
def State.showHead (s : State) : State :=
  let v := if s.railsGood && s.pwr.sys24 then s.rdF Reg.PWR_HEAD_PWR_CTRL 7 0 ||| s.pwr.headOff else 0
  if v = s.rd Reg.PWR_HEAD_PWR_STATUS then s
  else ((s.wr Reg.PWR_HEAD_PWR_STATUS v).intSet Reg.pagePWR 13).reCondition

/-- A write of HEAD_PWR_CTRL. -/
def State.headPower (s : State) (src : Req) (data : Nat) : State :=
  let old := s.rdF Reg.PWR_HEAD_PWR_CTRL 7 0
  let new := data % 256
  let off := (bitsOf 8 old).filter (fun p => !bitOf new p)
  if s.printing && !off.isEmpty then s.errAt Reg.pagePWR 0x0101 Reg.PWR_HEAD_PWR_CTRL src
  else
    let keep := (bitsOf 8 s.pwr.headOff).filter (fun p => !bitOf new p)
    ({ s.wr Reg.PWR_HEAD_PWR_CTRL new with
      pwr := { s.pwr with headOff := maskOf (keep ++ off.filter (fun p => !keep.contains p)) } }).showHead
def execHeadPowerControl (src : Req) (data : Nat) (s : State) : Res :=
  if s.bar0Down src (Reg.pagePWR * 0x1000) then .next s else
  .next (s.headPower src data)

/-- HEAD_POWER_DEASSERT: 1.0 ms after the write. -/
def execHeadPowerDeassert (s : State) : Res := .next ({ s with pwr := { s.pwr with headOff := 0 } }).showHead

/-- SYS24_IN_CHANGE: without SYS24_IN every output is de-energised, PWR_GOOD and SPEED_ADVICE among them. A group outside
OFF and TRIPPED asks for its bus. -/
def execSys24InChange (present : Bool) (s : State) : Res :=
  let s := { s with pwr := { s.pwr with sys24 := present } }
  let s := (s.wrB Reg.PWR_RAIL_STATUS 19 (present && s.railsGood && s.coreUp)).adviceOut
  .next ((List.range 4).foldl (fun s g =>
    s.wrB Reg.PWR_LAMP_BUS_STATUS g (present && s.groupSt g != 0 && s.groupSt g != 6)) s).showHead

/-! ## Taking the core down -/

/-- Head power and lamp buses off, HEAD_PWR_CTRL cleared (step 2 of R485, step 5 of R503). -/
def State.dropOutputs (s : State) : State :=
  let s := { s.wr Reg.PWR_HEAD_PWR_CTRL 0 with pwr := { s.pwr with headOff := 0 } }
  (s.wrF Reg.PWR_LAMP_BUS_STATUS 3 0 0).showHead

/-- CAM_24, ENC_5, then the core rails down; PWR_GOOD has fallen before (R490, R492). -/
def State.railsDown (s : State) : State :=
  let r := Reg.PWR_RAIL_STATUS
  (((s.wrB r 19 false).wrF r 7 1 0).wrF r 10 9 0).showHead

/-- Steps 1 to 3 of R485. The module is then in state `st`. -/
def State.coreDown (s : State) (cause st : Nat) : State :=
  let s := ((s.stopAll false causeModuleReset false).sinksOff).wrB Reg.PWR_RAIL_STATUS 19 false
  (s.dropOutputs.railsDown).coreReset cause st

/-- Nothing holds the core down: mains good, no rail hold, no trip. -/
def State.mayStart (s : State) : Bool :=
  s.bit Reg.PWR_RAIL_STATUS 17 && !s.pwr.railHold && !s.pwr.tripHold

/-- From STANDBY or TRIPPED the boot chain starts at step 3 (R488, R506, R532). -/
def State.startCore (s : State) : State :=
  if (s.modState == 1 || s.modState == 8) && s.mayStart then
    let s := (s.setModule 2).wrB Reg.PWR_RAIL_STATUS 8 true
    if s.pwr.mainsDown then
      { (s.wr Reg.SYS_RESET_CAUSE (2 ^ causePOR)).wr Reg.PWR_POWER_EVENT 2 with
        pwr := { s.pwr with mainsDown := false } }
    else s
  else s

/-! ## STANDBY reset and POR -/

/-- The source of the standby converter: 1 SB24 while MAINS_FAIL is declared (R487). -/
def State.showSource24 (s : State) : State :=
  let r := Reg.PWR_RAIL_STATUS
  let sb := !s.bit r 17
  if s.bit r 18 == sb then s else (s.wrB r 18 sb).intSet Reg.pagePWR 11

/-- Everything but MRAM and NOR returns to reset; the inputs, the straps, FRC, and what the block has sent are kept. -/
def State.wiped (s : State) : State :=
  let m := s.mgmt
  { State.reset with
    frc := s.frc, out := s.out, freeCount := s.freeCount, pending := s.pending
    pwr := { stopA := s.pwr.stopA, stopB := s.pwr.stopB, stopIn := s.pwr.stopIn, discrepancy := s.pwr.discrepancy,
             sys24 := s.pwr.sys24, straps := s.pwr.straps }
    net := { everLocked := s.net.everLocked }
    mgmt := { journal := m.journal, nextSeq := m.nextSeq, bankA := m.bankA, bankB := m.bankB,
              runRanger := m.runRanger, runCrew := m.runCrew, runProto := m.runProto } }

/-- The loss of the standby domain: the bank states, which FW_STATE holds in MRAM, are kept. -/
def State.standbyClear (s : State) : State :=
  let s := if s.mgmt.op = some 0 then
    s.wrF (if s.mgmt.liveBank = 0 then Reg.FW_BANK_A_STATE else Reg.FW_BANK_B_STATE) 2 0 5 else s
  let keep := [Reg.FW_BANK_A_STATE, Reg.FW_BANK_A_VERSION, Reg.FW_BANK_B_STATE, Reg.FW_BANK_B_VERSION,
    Reg.SYS_CONFIG, Reg.SYS_FW_VERSION, Reg.PWR_RAIL_STATUS]
  let vals := keep.map (fun k => (k, s.rd k))
  let floor := s.rdF Reg.FW_FW_STATUS 13 8
  let t := (s.wiped.wrs vals).wrF Reg.FW_FW_STATUS 13 8 floor
  let t := { t with host := { t.host with sessionLo := t.free, sessionHi := t.drew.free } }.drew.drew
  let t := (t.intSet Reg.pageMBOX 26).intSet Reg.pageMBOXS 26
  let r := Reg.PWR_RAIL_STATUS
  (((((t.wrB r 0 true).wrF r 7 1 0).wrF r 10 9 0).wrB r 8 true).wrB r 19 false).showJournal

/-- The state after power or a STANDBY reset: BOOT with mains, STANDBY without (R532). A change from the state `old`
sets STATE_CHANGE and logs it (R67, R532). -/
def State.afterStandby (s : State) (old : Nat) : State :=
  let st := if s.bit Reg.PWR_RAIL_STATUS 17 then 2 else 1
  let s := (s.wr Reg.SYS_MODULE_STATE st).setStCode Reg.pageSYS st
  if old = st then s else (s.intSet Reg.pageSYS 8).tally 0x0004 0x01 0 0 (st + old * 16)

/-- A STANDBY reset by `cause`: the Tally log is kept while power is (R477). -/
def State.standbyReset (s : State) (cause arg : Nat) : State :=
  if s.modState = 0 then s
  else
    let m := s.mgmt
    let old := s.modState
    let regs := [Reg.TALLY_NEXT_SEQ, Reg.TALLY_OLDEST_SEQ, Reg.TALLY_DROPPED, Reg.THERM_TRIP_COUNT,
      Reg.PWR_POWER_EVENT].map (fun k => (k, s.rd k)) ++ [(Reg.CLK_PLL_STATUS, s.pllKept)]
    let s := s.standbyClear.wrs regs
    let s := s.modMgmt (fun n => { n with intake := m.intake, log := m.log, lost := m.lost })
    ((s.wr Reg.SYS_RESET_CAUSE (2 ^ cause)).afterStandby old).tally 0x0002 0xF0 0 3 arg

/-- Power returns after the loss of SB24 and the main supply together: a STANDBY reset whose log starts anew with
POR (R28, R477, R488). -/
def State.powerReturn (s : State) : State :=
  let old := s.modState
  let s := { s.standbyClear with net := {} }.modMgmt (fun m => { m with intake := [porEntry] })
  ((s.wr Reg.SYS_RESET_CAUSE (2 ^ causeSTANDBY)).afterStandby old).tally 0x0002 0xF0 0 3 0

/-- POR: the application of power (R28, R532). -/
def execPowerOnReset (mains sb24 : Bool) (s : State) : Res :=
  let s := { s.standbyClear with frc := 0, net := {} }.modMgmt (fun m => { m with intake := [porEntry] })
  let r := Reg.PWR_RAIL_STATUS
  let s := (((s.wrB r 0 true).wrB r 16 sb24).wrB r 17 mains).wrB r 18 (!mains)
  let s := s.wr Reg.SYS_RESET_CAUSE (2 ^ causePOR)
  if mains || sb24 then .next (s.afterStandby (if mains then 2 else 1))
  else .next ((s.wr r 0).wr Reg.SYS_MODULE_STATE 0)

/-- Ranger discards the entries of the log whose CRC fails, known by their SEQ, and counts them (R477). -/
def State.checkLog (s : State) (bad : List Nat) : State :=
  let keep := s.mgmt.log.filter (fun e => !bad.contains e.1)
  let n := s.mgmt.log.length - keep.length
  let s := (s.modMgmt (fun m => { m with log := keep })).wr Reg.TALLY_CORRUPT (satAdd 32 (s.rd Reg.TALLY_CORRUPT) n)
  s.wr Reg.TALLY_OLDEST_SEQ (match keep.head? with
    | some e => e.1
    | none => s.rd Reg.TALLY_NEXT_SEQ)

/-- RANGER_WATCHDOG (R459): `bad` are the entries of the log whose CRC fails when it is checked after the reset. -/
def execRangerWatchdog (bad : List Nat) (s : State) : Res :=
  if s.modState = 0 then .next s else .next ((s.standbyReset causeRANGERWDOG 1).checkLog bad)

/-- FW.REBOOT (R480). -/
def State.reboot (s : State) (src : Req) (data : Nat) : State :=
  if fld data 31 16 ≠ 0xA5C3 then s.errAt Reg.pageFW 0x000E Reg.FW_REBOOT src
  else if bitOf data 0 then s.standbyReset causeSTANDBY 0
  else s
def execFwReboot (src : Req) (data : Nat) (s : State) : Res :=
  if s.asleep src then .next s else
  .next (s.reboot src data)

end Sys2Proof.Machine
end

