-- ==== Sys2Proof/Machine/Boot.lean ====
section
/-! DEFINITION. The boot chain (R460 to R462, R425, R470, R526). Bank states: 0 EMPTY, 1 WRITTEN, 2 VALID,
3 PENDING, 4 ACTIVE, 5 INVALID, 6 REJECTED, 7 BELOW_FLOOR. -/

namespace Sys2Proof.Machine

/-! ## The firmware banks -/

def bankKey (b : Nat) : Nat := if b = 0 then Reg.FW_BANK_A_STATE else Reg.FW_BANK_B_STATE
def bankVersionKey (b : Nat) : Nat := if b = 0 then Reg.FW_BANK_A_VERSION else Reg.FW_BANK_B_VERSION
def State.bankSt (s : State) (b : Nat) : Nat := s.rdF (bankKey b) 2 0
def State.setBankSt (s : State) (b v : Nat) : State := s.wrF (bankKey b) 2 0 v
/-- The FW_STATE record (R469): the state and the TRIES of bank A, of bank B, and which bank is being erased (log 103). -/
def State.bankRecord (s : State) : List Byte :=
  leBytes 4 (s.rdF (bankKey 0) 7 0) ++ leBytes 4 (s.rdF (bankKey 1) 7 0)
    ++ leBytes 4 (if s.mgmt.op = some 0 then 2 ^ s.mgmt.liveBank else 0)

/-- Ranger records the bank states; a record that finds the queue full is lost (R472). -/
def State.recordBanks (s : State) : State :=
  match s.writeRecord 0x0001 0 s.bankRecord with
  | some (t, _) => t
  | none => s

def State.bankTries (s : State) (b : Nat) : Nat := s.rdF (bankKey b) 7 4
def State.bankSvn (s : State) (b : Nat) : Nat := s.rdF (bankKey b) 13 8
def State.bankImage (s : State) (b : Nat) : Option ImageSet := if b = 0 then s.mgmt.bankA else s.mgmt.bankB
def State.setBankImage (s : State) (b : Nat) (i : Option ImageSet) : State :=
  s.modMgmt (fun m => if b = 0 then { m with bankA := i } else { m with bankB := i })
def State.fwFloor (s : State) : Nat := s.rdF Reg.FW_FW_STATUS 13 8
def State.runningBank (s : State) : Nat := s.rdF Reg.FW_FW_STATUS 0 0
def State.recovery (s : State) : Bool := s.bit Reg.FW_FW_STATUS 2

/-- Step 1: the bank states of the FW_STATE record, if there is one, and VERSION and SVN of the bank headers. A bank that was
being erased is INVALID (R473). -/
def State.readBanks (s : State) : State :=
  [0, 1].foldl (fun s b =>
    let was := match s.record 0x0001 0 with
      | none => s.rdF (bankKey b) 7 0
      | some r =>
        if bitOf (leValue ((r.data.drop 8).take 4)) b then 5 else leValue ((r.data.drop (4 * b)).take 4) % 256
    let (svn, version) := match s.bankImage b with
      | some i => (i.svn % 64, i.version)
      | none => (0, 0)
    (s.wr (bankKey b) (was + svn * 256)).wr (bankVersionKey b) version) s

/-- The half of region 56 that a copy of the Crew image takes. -/
def crewBase (slot : Nat) : Nat := 0x1700000000 + slot * 0x20000000

/-- Ranger loads a Crew image. -/
def State.loadCrew (s : State) (slot : Nat) (i : ImageSet) : State :=
  (s.memWrite (crewBase slot) i.crew).modMgmt (fun m => { m with crewSlot := slot })

/-- Step 5: the Crew image that runs, of the running bank or of the other after a live update, goes into region 56. -/
def State.bootCrew (s : State) : State :=
  let runs b := match s.bankImage b with
    | some i => i.crewHash == s.mgmt.runCrew
    | none => false
  match s.bankImage (([s.runningBank, 1 - s.runningBank].find? runs).getD s.runningBank) with
  | some i => s.loadCrew 0 i
  | none => s

/-- LIVE_DIFFERS: the running images differ from those of the ACTIVE bank. -/
def State.showDiffers (s : State) : State :=
  let d := match [0, 1].find? (fun b => s.bankSt b == 4) with
    | none => false
    | some b => match s.bankImage b with
      | none => false
      | some i => i.rangerHash != s.mgmt.runRanger || i.crewHash != s.mgmt.runCrew
  s.wrB Reg.FW_FW_STATUS 5 d

/-- A bank that cannot be booted (R461). -/
def State.rejectBank (s : State) (b : Nat) : State :=
  (((s.setBankSt b 6).recordBanks.wrB Reg.FW_FW_STATUS 3 true).intSet Reg.pageFW 9).tally 0x0081 0x82 b 3 0

/-- The bank that is booted, if any. -/
def State.chooseBank (s : State) (ok : Nat → Bool) : State × Option Nat :=
  let good b := ok b && (s.bankImage b).isSome
  match ([0, 1].find? (fun b => s.bankSt b == 3)).orElse (fun _ => [0, 1].find? (fun b => s.bankSt b == 4)) with
  | none => (s, none)
  | some b =>
    let spent := s.bankSt b == 3 && s.bankTries b == 0
    let t := if s.bankSt b == 3 && !spent then
      (s.wrF (bankKey b) 7 4 (s.bankTries b - 1)).recordBanks
    else s
    if !spent && good b then (t, some b)
    else
      let o := 1 - b
      let next := if (s.bankSt o == 4 || s.bankSt o == 2) && decide (s.fwFloor ≤ s.bankSvn o) && good o
        then some o else none
      (t.rejectBank b, next)

/-- Run the images of a bank. -/
def State.runBank (s : State) (b : Nat) : State :=
  match s.bankImage b with
  | none => s
  | some i =>
    let s := s.modMgmt (fun m => { m with
      runRanger := i.rangerHash, runCrew := i.crewHash, runProto := i.protoMajor })
    let s := ((s.wrB Reg.FW_FW_STATUS 0 (b == 1)).wrB Reg.FW_FW_STATUS 2 false).wr Reg.SYS_FW_VERSION i.version
    s.showDiffers.tally 0x0080 0x82 b 0 i.version

/-! ## The journal scan -/

/-- The records of a half up to the first that fails, and that one. -/
def scanHalf (bad : List Nat) : List JournalRecord → List JournalRecord × Option JournalRecord
  | [] => ([], none)
  | r :: l =>
    if !r.committed || bad.contains r.seq then ([], some r)
    else
      let q := scanHalf bad l
      (r :: q.1, q.2)

/-- Scan both halves; a record without its commit word is discarded and logged. The queue of R472 is Ranger's, and stays. -/
def State.scanJournal (s : State) (bad : List Nat) : State :=
  let half h := scanHalf bad (s.mgmt.journal.filter (fun r => r.half == h))
  let l := (half 0).1 ++ (half 1).1
  let lost := ((half 0).2.toList ++ (half 1).2.toList).filter (fun r => !r.committed)
  let s := s.modMgmt (fun m => { m with
    journal := l, nextSeq := (l ++ m.waiting).foldl (fun n r => max n (r.seq + 1)) 1 })
  let s := lost.foldl (fun s r => (s.count Reg.NVS_DISCARDED).tally 0x0092 0x81 0 1 (r.seq % 2 ^ 32)) s
  let start := (l.filter (fun r => r.kind == 0x0003)).foldl (fun (m : Nat × Nat) r =>
    if m.1 ≤ r.seq then (r.seq, r.half) else m) (0, 0)
  (s.wrF Reg.NVS_NV_STATUS 3 3 start.2).showJournal

/-! ## The tables in force -/

/-- Little-endian words of n bytes. -/
def wordsOf (n : Nat) : Nat → List Byte → List Nat
  | 0, _ => []
  | k + 1, l => leValue (l.take n) :: wordsOf n k (l.drop n)

/-- Write a table entry into both banks. -/
def State.putBoth (s : State) (t k v : Nat) : State :=
  let x := s.scr.putTable t k v
  let b := ({ s.scr with target := s.scr.active }.putTable t k v).target
  { s with scr := { x with active := b } }

/-- Write consecutive entries. -/
def State.putRange (s : State) (t k : Nat) (vs : List Nat) : State :=
  (vs.zipIdx).foldl (fun s p => s.putBoth t (k + p.2) p.1) s

/-- A register as a journal record restores it: the value in force and its shadow. -/
def State.restore (s : State) (k v : Nat) : State :=
  let s := s.wr k v
  if (rwsKeys (k / 0x1000)).contains k then s.putShadow k v else s

/-- Restore the RW registers of SCALER from 0x040 to 0x7FC. -/
def State.restoreScaler (s : State) (vs : List Nat) : State :=
  ((vs.zipIdx).foldl (fun s p =>
    let off := 0x040 + 4 * p.2
    match PageType.rowAt .scaler off with
    | some r => if r.acc == .rw then s.wr (Reg.pageSCALER * 0x1000 + off) (p.1 &&& r.mask) else s
    | none => s) s).showScaler

/-- Load the record in force of a kind (R469); CONFIG is read at step 3. -/
def State.loadRecord (s : State) (r : JournalRecord) : State :=
  let w n k := wordsOf n k r.data
  if r.kind = 0x0010 then s.putRange 0 (nozzleLo r.key) (w 4 6144)
  else if r.kind = 0x0011 then s.putRange 1 (toneLo r.key) (w 2 256)
  else if r.kind = 0x0012 then s.putRange 2 r.key (w 4 1)
  else if r.kind = 0x0013 then s.putRange 3 (kerfLo r.key) (w 4 6144)
  else if r.kind = 0x0014 then s.putRange 4 (r.key * 65536) (w 2 65536)
  else if r.kind = 0x0015 then
    let v := w 4 3
    ((s.restore (Reg.CH_LINE_OFFSET r.key) (v.getD 0 0)).restore (Reg.CH_DELAY_TAPS r.key) (v.getD 1 0)).restore
      (Reg.CH_COL_SHIFT r.key) (v.getD 2 0)
  else if r.kind = 0x0020 then s.restoreScaler (w 4 496)
  else if r.kind = 0x0021 then
    { s with lamp := { s.lamp with bins := ((w 4 4).zipIdx).foldl (fun m p =>
        smSet binReset m (r.key * 4 + p.2) p.1) s.lamp.bins } }
  else s

/-! ## The chain -/

/-- Step 3: the core rails, and CONFIG from the straps or from the record in force (R526). -/
def State.bootRails (s : State) : State :=
  let r := Reg.PWR_RAIL_STATUS
  let s := ((((s.wrB r 0 true).wrF r 7 1 0x7F).wrF r 10 8 7).wrB r 19 s.pwr.sys24).showHead
  let s := (List.range 4).foldl (fun s g => s.wrB (Reg.LAMP_GROUP_STATUS g) 8 s.pwr.stopIn) s
  s.wr Reg.SYS_CONFIG (match s.record 0x0002 0 with
    | some c => (leValue (c.data.take 4) &&& 0x13) + 0x100
    | none => s.pwr.straps &&& 0x13)

/-- The worst byte lane of a channel and its margin: the lower number where two are equal (log 100). -/
def worstLane (l : List Nat) : Nat × Nat :=
  (List.range 9).foldl (fun w i => if l.getD i 0 < w.2 then (i, l.getD i 0) else w) (0, l.getD 0 0)

/-- The channels of which a byte lane's margin is below MARGIN_MIN. -/
def State.trainFails (s : State) (margins : List (List Nat)) : List Nat :=
  (List.range 6).filter (fun d =>
    decide ((worstLane (margins.getD d [])).2 < atLeast1 (s.rdF (Reg.DRAM_TRAIN_CFG d) 23 16)))

/-- Step 4: every DRAM channel trains, and is GOOD, or FAILED (R425); TRAIN_STATUS shows its worst byte lane. -/
def State.bootDram (s : State) (margins : List (List Nat)) : State :=
  let failed := s.trainFails margins
  (List.range 6).foldl (fun s d =>
    let p := Reg.pageDRAM d
    let w := worstLane (margins.getD d [])
    let s := s.wrF (Reg.DRAM_TRAIN_STATUS d) 16 0 (w.2 % 256 + w.1 * 256 + b2n (!failed.contains d) * 65536)
    if failed.contains d then (((s.setStCode p 5).fault p true).ready p false).errHw p 0x0104
    else (s.setStCode p 2).ready p true) s

/-- The lanes that are not isolated start (R373: in a ring, once ring time has converged). -/
def State.startLanes (s : State) : State :=
  channels.foldl (fun s c =>
    if s.bit (Reg.CH_CH_CTRL c) 0 || s.laneSt c != 0 then s
    else (s.setHalf c (s.rateMaxHalf c)).enterDetect c) s

/-- The ring from its start: the links are awaited, and CONFIG says who is root. -/
def State.startRing (s : State) : State :=
  if s.ringMode then
    let s := (s.setStCode Reg.pageRING 1).wrB Reg.RING_RING_STATUS 12 (s.bit Reg.SYS_CONFIG 4)
    { s with ring := { s.ring with waitFrc := s.frc } }
  else s

/-- What the ring and the pair read once the core runs. -/
def State.bootRing (s : State) : State :=
  (if s.pairMode then s.setStCode Reg.pagePAIR 1 else s).startRing

/-- BOOT: the chain from its present step to IDLE, to SAFE, or to recovery. The journal is scanned before its FW_STATE record is
read (log 103). UART_TX carries the boot log, here the bank that
runs, 2 for none: its text is not stated (R528, log 97). -/
def execBoot (b : BootOutcome) (s : State) : Res :=
  if s.modState ≠ 2 then .next s
  else
    let s := s.scanJournal b.badRecords
    let (t, bank) := if s.mgmt.rom then s.readBanks.chooseBank (fun n => if n = 0 then b.aOk else b.bOk)
      else (s, some s.runningBank)
    let t := t.emit (.uart 0 [bank.getD 2])
    match bank with
    | none => .next (t.wrB Reg.FW_FW_STATUS 2 true)
    | some n =>
      let s := (if t.mgmt.rom then t.runBank n else t).modMgmt (fun m => { m with rom := false })
      let s := s.bootRails
      let failed := s.trainFails b.margins
      let s := s.bootDram b.margins
      if !failed.isEmpty then .next (s.sinksOff.setModule 7)
      else
        let s := s.bootCrew.writeWaiting
        let s := s.allInForce.foldl State.loadRecord s
        let s := ((s.modMgmt (fun m => { m with up := true })).setModule 3).intSet Reg.pageMBOX 25
        .next (if s.ringMode then s.bootRing else s.bootRing.startLanes)

end Sys2Proof.Machine
end

