-- ==== Sys2Proof/Machine/Power.lean ====
section
/-! DEFINITION. The mains, SB24, the rails, the temperature sensors and their thresholds, the trips and the stop
input (R483 to R507, R525, R540). -/

namespace Sys2Proof.Machine

def State.modPwr (s : State) (f : PowerUnit → PowerUnit) : State := { s with pwr := f s.pwr }

/-! ## Mains and SB24 (R483 to R488) -/

/-- The standby domain is fed from SB24. -/
def State.sb24Good (s : State) : Bool := s.bit Reg.PWR_RAIL_STATUS 16

/-- Enter STANDBY where the standby domain is fed, OFF where it is not. -/
def State.fedState (s : State) : Nat := if s.sb24Good || s.bit Reg.PWR_RAIL_STATUS 17 then 1 else 0

/-- MAINS_QUALIFIED: the input has been good for the time of R483 or R484. -/
def execMainsQualified (s : State) : Res :=
  let s := ((s.wrB Reg.PWR_RAIL_STATUS 17 true).degraded Reg.pagePWR false)
  if s.modState = 0 then .next (s.powerReturn.wrB Reg.PWR_RAIL_STATUS 18 false)
  else .next s.showSource24.startCore

/-- MAINS_FAIL: the bulk voltage, in 0.1 V, has fallen below 340 V (R484, R485). -/
def execMainsFail (bulk : Nat) (s : State) : Res :=
  let s := (s.wr Reg.PWR_BULK_V (bulk % 65536)).wrB Reg.PWR_RAIL_STATUS 17 false
  let s := ((s.count Reg.PWR_MAINS_FAIL_COUNT).intSet Reg.pagePWR 8).showSource24
  let st := s.fedState
  if s.modState ≤ 1 then .next (s.setModule (if s.modState = 0 then 0 else st))
  else
    let s := (s.wr Reg.PWR_POWER_EVENT 1).modPwr (fun p => { p with mainsDown := true })
    .next (s.coreDown causePOR st)

/-- MAINS_LOW: the input, in 0.1 V rms, has been below 85 V for 100 ms (R486). -/
def execMainsLow (vrms : Nat) (s : State) : Res :=
  let s := s.wr Reg.PWR_MAINS_VRMS (vrms % 65536)
  if vrms < 850 then .next ((s.degraded Reg.pagePWR true).intSet Reg.pagePWR 9)
  else .next (s.degraded Reg.pagePWR false)

/-- SB24_CHANGE (R487, R532). -/
def execSb24Change (good : Bool) (millivolts : Nat) (s : State) : Res :=
  let s := (s.wr Reg.PWR_SB24_V (millivolts % 65536)).wrB Reg.PWR_RAIL_STATUS 16 good
  if s.modState = 0 then .next (if good then s.powerReturn else s)
  else if s.modState = 1 ∧ ¬ good ∧ ¬ s.bit Reg.PWR_RAIL_STATUS 17 then .next (s.setModule 0)
  else .next s

/-! ## Rails (R489 to R493) -/

/-- The bit of a rail in RAIL_STATUS. -/
def railBit : Rail → Nat
  | .vstby => 0
  | .vcore => 1
  | .vana09 => 2
  | .vana12 => 3
  | .vio18 => 4
  | .vio33 => 5
  | .vddq => 6
  | .vpp => 7
  | .vnv => 8
  | .cam24 => 9
  | .enc5 => 10

/-- The rails that must be good before a rail starts (R489). -/
def railBefore : Rail → List Nat
  | .vstby => []
  | .vcore | .vnv => [0]
  | .vana09 | .vana12 => [0, 1]
  | .vio18 | .vio33 => [0, 1, 2, 3]
  | .vddq => [0, 1, 2, 3, 4, 5]
  | .vpp => [0, 1, 2, 3, 4, 5, 6]
  | .cam24 | .enc5 => [0, 1, 2, 3, 4, 5, 6, 7]

/-- RAIL_POWER_GOOD: a rail whose predecessors are good reaches 95 % of nominal. The core rails come up in BOOT. -/
def execRailPowerGood (r : Rail) (s : State) : Res :=
  let k := Reg.PWR_RAIL_STATUS
  if (railBefore r).all (fun i => s.bit k i) && (s.coreUp || railBit r == 0 || railBit r == 8) then
    .next (s.wrB k (railBit r) true).showHead
  else .next s

/-- RAIL_FAULT (R491). A fault of VSTBY is a STANDBY reset; CAM_24 and ENC_5 are left to their users. -/
def execRailFault (r : Rail) (s : State) : Res :=
  if s.modState = 0 then .next s
  else
    let i := railBit r
    let s := ((s.wrB Reg.PWR_RAIL_FAULT i true).wrB Reg.PWR_RAIL_STATUS i false).intSet Reg.pagePWR 10
    if i = 0 then .next (s.standbyReset causeSTANDBY 0)
    else if i ≤ 7 ∧ s.coreUp then
      let s := (s.wr Reg.PWR_POWER_EVENT 4).modPwr (fun p => { p with railHold := true })
      .next (s.coreDown causePOR 1)
    else .next s

/-- PWR_CTRL.RESTART. -/
def State.powerRestart (s : State) : State := (s.modPwr (fun p => { p with railHold := false })).startCore
def execPowerRestart (src : Req) (s : State) : Res :=
  if s.bar0Down src (Reg.pagePWR * 0x1000) then .next s else
  .next s.powerRestart

/-! ## The module trip (R503, R504, R506) -/

/-- Whether a sample of 30 s below its limit is complete: one sample each 10 ms and the one that begins them. -/
def releaseSamples : Nat := 3001
def State.releaseCount (s : State) (k : Nat) : Nat := smGet (fun _ => 0) s.pwr.release k
def State.setRelease (s : State) (k v : Nat) : State :=
  s.modPwr (fun p => { p with release := smSet (fun _ => 0) p.release k v })

/-- An erase in flight is abandoned (R473). -/
def State.abandonErase (s : State) : State :=
  if s.mgmt.op = some 0 then
    let b := s.mgmt.liveBank
    let s := ((s.setBankSt b 5).modMgmt (fun m => { m with op := none, norPaused := false })).recordBanks
    (((s.wrF Reg.FW_UPDATE_STATUS 6 4 3).busy Reg.pageFW false).intSet Reg.pageFW 8).tally 0x0091 0x82 b 2 0
  else s

/-- A module trip of DIE (0) or INLET (1). With the core down it acts only by latching. -/
def State.moduleTrip (s : State) (sensor : Nat) : State :=
  if s.modState = 0 then s
  else
    let s := ((s.wrB Reg.THERM_TRIP_STATUS sensor true).wrF Reg.THERM_TRIP_STATUS 11 8 sensor).modPwr
      (fun p => { p with tripHold := true })
    let s := (s.setRelease 0 0).setRelease 5 0
    if !s.coreUp then s
    else
      let s := (s.tally 0x0010 0x04 0 3 sensor).count Reg.THERM_TRIP_COUNT
      let s := ((s.wrB Reg.PWR_RAIL_STATUS 19 false).sinksOff.stopAll true causeThermalTrip false).wr Reg.PWR_POWER_EVENT 3
      ((s.coreReset causeTRIP 8).countReset.dropOutputs.railsDown.wrB Reg.PWR_RAIL_STATUS 8 false).abandonErase
def execThermalTrip (inlet : Bool) (s : State) : Res := .next (s.moduleTrip (b2n inlet))

/-- TRIP_RESTART: DIE and INLET have stayed below their limits for 30 s. -/
def execTripRestart (s : State) : Res :=
  if s.pwr.tripHold && decide (releaseSamples ≤ s.releaseCount 0) && decide (releaseSamples ≤ s.releaseCount 5) then
    let s := (s.wrF Reg.THERM_TRIP_STATUS 1 0 0).modPwr (fun p => { p with tripHold := false })
    let s := s.wrB Reg.PWR_RAIL_STATUS 8 true
    if s.modState = 8 then .next (((s.wr Reg.PWR_POWER_EVENT 5).tally 0x0011 0x04 0 0 0).startCore)
    else .next s.startCore
  else .next s

/-! ## The sink bank trip (R505) -/

def State.lampTrip (s : State) (g : Nat) : State :=
  if s.bit Reg.PWR_LAMP_BUS_STATUS (16 + g) then s
  else
    let s := ((s.wrB Reg.PWR_LAMP_BUS_STATUS (16 + g) true).wrB Reg.THERM_TRIP_STATUS (2 + g) true).intSet Reg.pageTHERM 11
    let s := (s.setRelease (1 + g) 0).tally 0x0010 0x04 g 3 (4 + g)
    s.groupTrip g
def execLampTrip (g : Fin 4) (s : State) : Res := .next (s.lampTrip g.val)

/-- TRIP_LATCH_CLEAR: the bank has been below 110 degrees for 30 s. -/
def execTripLatchClear (g : Fin 4) (s : State) : Res :=
  if releaseSamples ≤ s.releaseCount (1 + g.val) then
    .next ((s.wrB Reg.PWR_LAMP_BUS_STATUS (16 + g.val) false).wrB Reg.THERM_TRIP_STATUS (2 + g.val) false)
  else .next s

/-! ## Sensors (R498, R499) -/

/-- The identity of a sensor, and where its filtered value stands: a register and its half. -/
def sensorId : Sensor → Nat
  | .die => 0
  | .inlet => 1
  | .outlet => 2
  | .psu => 3
  | .sink g => 4 + g.val
  | .mram => 8
  | .nor => 9
def sensorReg (i : Nat) : Nat × Nat :=
  if i < 4 then (Reg.THERM_DIE_TEMP + 4 * i, 0)
  else if i < 6 then (Reg.THERM_SINK_TEMP01, i - 4)
  else if i < 8 then (Reg.THERM_SINK_TEMP23, i - 6)
  else (Reg.THERM_NV_TEMP, i - 8)

def State.sensorSamples (s : State) (i : Nat) : List (Option Int) := smGet (fun _ => []) s.pwr.samples i

/-- The filtered value: the mean of the valid ones among the last four samples, rounded down. -/
def filtered (l : List (Option Int)) : Option Int :=
  let v := l.filterMap id
  if v.isEmpty then none else some ((v.foldl (· + ·) 0).fdiv v.length)
def State.sensorValue (s : State) (i : Nat) : Option Int := filtered (s.sensorSamples i)

/-- A reading within -55 to +150 degrees. -/
def validReading : Option Int → Option Int
  | some v => if -880 ≤ v ∧ v ≤ 2400 then some v else none
  | none => none

/-- The thresholds of a sensor, with their instance (R501). -/
def sensorThresholds (i : Nat) : List (Nat × Nat) :=
  if i = 0 then [(0, 0), (1, 0), (2, 0)]
  else if i = 1 then [(3, 0), (4, 0), (5, 0), (6, 0), (7, 0)]
  else if 4 ≤ i ∧ i < 8 then [(8, i - 4), (9, i - 4), (10, i - 4), (11, i - 4)]
  else if i = 8 then [(12, 0), (13, 0)]
  else if i = 9 then [(14, 0), (15, 0)]
  else []

/-- Count a sample toward a release: below the limit, with a filtered value. -/
def State.countRelease (s : State) (k : Nat) (limit : Int) (v : Option Int) : State :=
  let below := match v with
    | some x => decide (x < limit)
    | none => false
  s.setRelease k (if below then min releaseSamples (s.releaseCount k + 1) else 0)

/-- The releases that a sensor's samples count toward. -/
def State.releases (s : State) (i : Nat) (v : Option Int) : State :=
  if i = 0 then s.countRelease 0 1600 v
  else if i = 1 then s.countRelease 5 1472 v
  else if 4 ≤ i ∧ i < 8 then s.countRelease (1 + (i - 4)) 1760 v
  else s

/-- The faults that act: all DIE sensors trip the module, both INLET sensors derate the lamps and hold INLET_WARN,
a SINK sensor trips its group. -/
def State.sensorActs (s : State) (i : Nat) (lost : Bool) : State :=
  if i = 0 ∧ lost then s.moduleTrip 0
  else if i = 1 then
    let s := (List.range 4).foldl State.showStep s
    let warn := s.condIn 3 0 || lost
    let s := if lost && !s.bit Reg.THERM_COND 3 then s.intSet Reg.pageTHERM 10 else s
    if s.bit Reg.THERM_COND 3 == warn then s else (s.wrB Reg.THERM_COND 3 warn).intSet Reg.pageTHERM 8
  else if 4 ≤ i ∧ i < 8 ∧ lost then s.lampTrip (i - 4)
  else s

/-- SENSOR_SAMPLE: the readings of the sensors that make up one value, in 1/16 degree. -/
def execSensorSample (sensor : Sensor) (readings : List (Option Int)) (s : State) : Res :=
  let i := sensorId sensor
  let r := readings.map validReading
  let good := r.filterMap id
  let v := if good.isEmpty then none else some (good.foldl max (good.headD 0))
  let bad := r.isEmpty || good.length != r.length
  let s := if bad && !s.bit Reg.THERM_SENSOR_FAULT i then s.intSet Reg.pageTHERM 12 else s
  let s := s.wrB Reg.THERM_SENSOR_FAULT i bad
  let s := s.modPwr (fun p => { p with
    samples := smSet (fun _ => []) p.samples i ((v :: smGet (fun _ => []) p.samples i).take 4) })
  let f := s.sensorValue i
  let word := match f with
    | some x => unsgn 16 x
    | none => 0x8000
  let (k, h) := sensorReg i
  let s := s.wrF k (16 * h + 15) (16 * h) word
  let s := if 4 ≤ i ∧ i < 8 then s.wrF (Reg.LAMP_SINK_TEMP (i - 4)) 15 0 word else s
  let s := if i = 8 then s.wr Reg.NVS_MRAM_TEMP word else if i = 9 then s.wr Reg.NVS_NOR_TEMP word else s
  let s := if i = 0 ∧ word ≠ 0x8000 ∧ (s.rd Reg.THERM_DIE_PEAK = 0x8000 ∨ sgn 16 (s.rd Reg.THERM_DIE_PEAK) < sgn 16 word)
    then s.wr Reg.THERM_DIE_PEAK word else s
  let s := (sensorThresholds i).foldl (fun s t => s.dwellSample t.1 t.2 f) s
  .next ((s.releases i f).sensorActs i v.isNone)

/-! ## Threshold conditions (R500 to R502) -/

/-- A COND bit: for k = 8 to 11 entered on any sink bank, for k = 16 any lamp condition. -/
def State.condBit (s : State) (k : Nat) : Bool :=
  if k = 3 then s.condIn 3 0 || s.inletLost
  else if 8 ≤ k ∧ k < 12 then (List.range 4).any (fun g => s.condIn k g)
  else if k = 16 then (List.range 32).any (fun i => s.condIn 16 i)
  else s.condIn k 0

/-- STEPS: the die step, the inlet lamp step, the sink bank steps. -/
def State.dieStep (s : State) : Nat :=
  ((List.range 3).filter (fun j => s.condIn j 0)).foldl (fun m j => max m (j + 1)) 0
def State.showSteps (s : State) : State :=
  let v := s.dieStep + s.stepOf 4 0 * 2 ^ 4
    + ((List.range 4).map (fun g => s.stepOf 8 g * 2 ^ (8 + 4 * g))).foldl (· + ·) 0
  let s := if s.rdF Reg.THERM_STEPS 1 0 = s.dieStep then s else s.intSet Reg.pageTHERM 9
  s.wr Reg.THERM_STEPS v

/-- What a change of condition k, instance `inst`, does. -/
def State.condActs (s : State) (k inst : Nat) : State :=
  let s := if s.bit Reg.THERM_COND k == s.condBit k then s
    else (s.wrB Reg.THERM_COND k (s.condBit k)).intSet Reg.pageTHERM 8
  let s := if k = 3 ∧ s.condIn 3 0 then s.intSet Reg.pageTHERM 10 else s
  let s := (List.range 4).foldl State.showStep s.showSteps
  if k = 12 ∨ k = 13 then s.nvRange false (!s.condIn 12 0 && !s.condIn 13 0)
  else if k = 14 ∨ k = 15 then s.nvRange true (!s.condIn 14 0 && !s.condIn 15 0)
  else if k = 16 then s.groupNtc (inst / 8)
  else s

/-- THRESHOLD_DWELL: a dwell of threshold k is complete, and the condition is entered or left. -/
def execThresholdDwell (k : Fin 17) (inst : Nat) (s : State) : Res :=
  let k := k.val
  if s.dwellDone k inst then
    let d := s.dwellAt k inst
    .next ((s.setDwell k inst { entered := !d.entered, up := 0, down := 0 }).condActs k inst)
  else .next s

/-! ## The stop input (R525, R540) -/

/-- STOP_IN is asserted: HALT with scope HEAD, the sinks off, the run ended. -/
def State.stopAssert (s : State) : State :=
  let arg := b2n (!s.pwr.stopA) + b2n (!s.pwr.stopB) * 2 + b2n s.pwr.discrepancy * 4
  let s := (s.modPwr (fun p => { p with stopIn := true })).tally 0x00A0 0x10 0 1 arg
  if !s.coreUp then s
  else
    let s := (s.stopAll false causeStopIn true).lampsStop
    if s.runSt = 0 then s else s.endRun

/-- STOP_IN: channel A (false) or B (true) has read de-energised for 10 µs. Both de-energised together end a
discrepancy. -/
def execStopIn (b : Bool) (s : State) : Res :=
  let s := s.modPwr (fun p => if b then { p with stopB := false } else { p with stopA := false })
  let s := if s.pwr.stopA || s.pwr.stopB then s else s.modPwr (fun p => { p with discrepancy := false })
  .next (if s.pwr.stopIn then s else s.stopAssert)

/-- STOP_IN_RELEASE: both channels have read energised for 10 ms. -/
def execStopInRelease (s : State) : Res :=
  let s := s.modPwr (fun p => { p with stopA := true, stopB := true })
  if s.pwr.discrepancy || !s.pwr.stopIn then .next s
  else
    let s := s.modPwr (fun p => { p with stopIn := false })
    .next ((List.range 4).foldl (fun s g => s.wrB (Reg.LAMP_GROUP_STATUS g) 8 false) s)

/-- STOP_IN_DISCREPANCY: one channel has been de-energised alone for 500 ms. -/
def execStopInDiscrepancy (s : State) : Res :=
  if s.pwr.stopA != s.pwr.stopB then .next (s.modPwr (fun p => { p with discrepancy := true })) else .next s

end Sys2Proof.Machine
end

