-- ==== Sys2Proof/Machine/Dram.lean ====
section
/-! DEFINITION. The DRAM channels (R409 to R433): refresh, reads and their order, the scrub, replays, retraining, stops and
PARK. What the other units reach of them stands in Machine/DramBus.lean. -/

namespace Sys2Proof.Machine

/-- RT_BW and TOTAL_BW: bursts of 64 bytes over the last 100 ms in MB/s, rounded down (log 64). -/
def State.dramRate (s : State) (d : Nat) (rt : Bool) : Nat :=
  min 65535 (((s.dramCh d).traffic.filter (fun e => decide (s.frc < e.1 + 80000000) && (e.2 || !rt))).length * 640 / 1000000)

/-- n REF commands, with every bank precharged. -/
def State.refs (s : State) (d n : Nat) (forced : Bool) : State :=
  let s := s.wr (Reg.DRAM_REF_COUNT d) (satAdd 32 (s.rd (Reg.DRAM_REF_COUNT d)) n)
  let s := if forced
    then s.wr (Reg.DRAM_FORCED_REF_COUNT d) (satAdd 32 (s.rd (Reg.DRAM_FORCED_REF_COUNT d)) n) else s
  let s := s.closeRows d (fun _ => true)
  (s.setDebt d ((s.dramCh d).debt - (n * s.tRefi d : Nat))).dramCmds d (List.replicate n (1, 1))

/-! ## Refresh (R416 to R418) -/

/-- REFRESH: an idle slot, `elapsed` ns after the last count of D; buffered bursts are written before it. While D is
negative the channel may pull a REF in, down to -D_max: `pull` says that it does. -/
def execDramRefresh (d : Fin 6) (elapsed : Nat) (pull : Bool) (s : State) : Res :=
  let d := d.val
  if !s.inService d then .next s
  else
    let s := (s.flushWrites d).setDebt d ((s.dramCh d).debt + (elapsed : Nat))
    let debt := (s.dramCh d).debt
    .next (if 0 ≤ debt ∨ pull ∧ -s.debtMax d ≤ debt - (s.tRefi d : Nat) then s.refs d 1 false else s)

/-- FORCED_REFRESH: D has reached D_max. -/
def execForcedRefresh (d : Fin 6) (elapsed : Nat) (s : State) : Res :=
  let d := d.val
  if !s.inService d then .next s
  else
    let s := s.setDebt d ((s.dramCh d).debt + (elapsed : Nat))
    .next (if s.debtMax d ≤ (s.dramCh d).debt then s.refs d 1 true else s)

def State.setHot (s : State) (d : Nat) (b : Bool) : State :=
  let s := (s.wrB (Reg.DRAM_CH_STATUS d) 0 b).intSet (Reg.pageDRAM d) 10
  s.setDebt d (s.dramCh d).debt

/-- Entry to HOT: the excess over the new D_max is paid at once (R418). -/
def State.payExcess (s : State) (d : Nat) : State :=
  let x := (s.dramCh d).debt
  if x ≤ 31200 then s
  else
    let k := ((x - 31200 + 3899) / 3900).toNat
    let s := (s.refs d k true).intSet (Reg.pageDRAM d) 11
    if k > s.rdF (Reg.DRAM_REF_BURST_MAX d) 3 0 then s.wr (Reg.DRAM_REF_BURST_MAX d) (k % 16 + k * 550 % 65536 * 65536)
    else s

/-- Start a retraining (R426). -/
def State.startRetrain (s : State) (d : Nat) : State :=
  if s.inService d ∧ (s.dramCh d).slices = none then
    (s.setDramCh d { s.dramCh d with slices := some 0 }).busy (Reg.pageDRAM d) true
  else s

/-- DRAM_TEMP_READ: the board sensor, in 1/16 degree. -/
def execDramTempRead (d : Fin 6) (temp : Int) (s : State) : Res :=
  let d := d.val
  let s := s.wr (Reg.DRAM_TEMP d) (unsgn 16 temp)
  let s := s.setDramCh d { s.dramCh d with cool := if temp < 1312 then (s.dramCh d).cool + 1 else 0 }
  let s := if 1360 ≤ temp ∧ ¬ s.hot d then (s.setHot d true).payExcess d else s
  let dt : Nat := 16 * atLeast1 (s.rdF (Reg.DRAM_TRAIN_CFG d) 15 8)
  .next (if (temp - (s.dramCh d).trainTemp).natAbs ≥ dt then s.startRetrain d else s)

/-- HOT_EXIT: 10 s of readings below 82 degrees, one each 1.0 ms and the one that begins them. -/
def execHotExit (d : Fin 6) (s : State) : Res :=
  if s.hot d.val ∧ (s.dramCh d.val).cool ≥ 10001 then .next (s.setHot d.val false) else .next s

/-! ## Faults (R420 to R424, R428) -/

/-- DEGRADED back to GOOD. -/
def State.restoreDram (s : State) (d : Nat) : State :=
  let p := Reg.pageDRAM d
  if s.dramSt d ≠ 3 then s
  else
    let s := (((s.setStCode p 2).degraded p false).fault p false).wrB (Reg.DRAM_CH_STATUS d) 2 false
    (s.setDramCh d { s.dramCh d with passes := 0 }).wrF (Reg.DRAM_TRAIN_STATUS d) 23 20 0

/-- FAILED: four replays of a command, or the loss of the DRAM PLL. -/
def State.failDram (s : State) (d : Nat) : State :=
  let p := Reg.pageDRAM d
  if s.dramSt d = 5 then s
  else
    let s := (((s.setStCode p 5).ready p false).fault p true).errHw p 0x0102
    (s.intSet p 14).scheduleStop d

/-! ## Reads (R412, R413, R415) -/

/-- The deadline of an RT request: 4.0 us after the admission of its line; where the line is not in production, after the
request's issue (log 100). -/
def State.readDeadline (s : State) (r : DramReq) : Nat :=
  ((s.line.prod.find? (fun p => p.line == r.line)).map (·.admitFrc)).getD r.issued + 3200

/-- Requests that a channel may serve: the first eight of each bank, and of a requester's class at one address the one that
came first. -/
def eligible (l : List DramReq) : List DramReq :=
  (l.zipIdx.filter (fun p =>
    let before := l.take p.2
    decide ((before.filter (fun r => bankOf (dramAddr r.addr) == bankOf (dramAddr p.1.addr))).length < 8) &&
      !before.any (fun r => r.cls == p.1.cls && r.addr / 8 == p.1.addr / 8))).map (·.1)

/-- The order within a class: earlier deadline, row hit, another bank group in rotation, age. -/
def State.readKey (s : State) (d : Nat) (r : DramReq) : List Nat :=
  let ca := dramAddr r.addr
  let x := s.dramCh d
  [if r.cls.val = 1 then s.readDeadline r else 0,
    b2n (!x.open_.any (fun o => o.1 == bankOf ca && o.2.1 == dramRow ca)),
    (dramBankGroup ca + 3 - x.group) % 4, r.issued]

/-- CLASS_WEIGHT of classes 2 to 4. -/
def State.classWeight (s : State) (d c : Nat) : Nat :=
  atLeast1 (s.rdF (Reg.DRAM_CLASS_WEIGHT d) (4 * (c - 2) + 3) (4 * (c - 2)))

/-- Of classes 2 to 4 with a request, the one served next: the lowest number that has not used up its weight in the round;
once all have, a round begins (log 100). -/
def State.shareClass (s : State) (d : Nat) (cs : List Nat) : State × Nat :=
  let used c := smGet (fun _ => 0) (s.dramCh d).share c
  let left := cs.filter (fun c => decide (used c < s.classWeight d c))
  let (s, c) := match left with
    | c :: _ => (s, c)
    | [] => (s.setDramCh d { s.dramCh d with share := [] }, cs.headD 2)
  let x := s.dramCh d
  (s.setDramCh d { x with share := smSet (fun _ => 0) x.share c (smGet (fun _ => 0) x.share c + 1) }, c)

/-- The request served next: by class, classes 2 to 4 by their weights, but one of them that has waited 20 us first. -/
def State.nextRead (s : State) (d : Nat) (l : List DramReq) : State × Option DramReq :=
  let l := eligible l
  let best (s : State) (l : List DramReq) : Option DramReq :=
    l.find? (fun r => !l.any (fun q => keyBefore (s.readKey d q) (s.readKey d r)))
  let of_ c := l.filter (fun r => r.cls.val == c)
  let aged := l.filter (fun r => decide (2 ≤ r.cls.val) && decide (r.cls.val ≤ 4) && decide (r.issued + 16000 ≤ s.frc))
  if !(of_ 0).isEmpty then (s, best s (of_ 0))
  else if !(of_ 1).isEmpty then (s, best s (of_ 1))
  else if !aged.isEmpty then (s, aged.find? (fun r => !aged.any (fun q => decide (q.issued < r.issued))))
  else
    let cs := ([2, 3, 4] : List Nat).filter (fun c => !(of_ c).isEmpty)
    if cs.isEmpty then (s, best s (of_ 5))
    else
      let (s, c) := s.shareClass d cs
      (s, best s (of_ c))

/-- Serve a read: its burst, or the write buffer; what ECC finds, and for RT the deadline and the latency. A poisoned read
of Crew or Ranger is a bus error (R422). The answer takes its address, its data, and 1 where the data is poisoned. -/
def State.serveRead (s : State) (d : Nat) (r : DramReq) : State :=
  let s := s.till r.back
  let cls := r.cls.val
  let a := r.addr / 8 * 8
  let held := s.buffered a
  let s := if held then s else s.burst d cls (dramAddr a) false
  let s := if cls = 1 && decide (s.readDeadline r < r.back) then s.count (Reg.DRAM_RT_LATE d) else s
  let latency := (r.back - r.issued) * 5 / 4
  let s := if cls = 1 then s.wr (Reg.DRAM_RT_LAT_MAX d) (max (s.rd (Reg.DRAM_RT_LAT_MAX d)) (min 65535 latency)) else s
  let found := if held then .clean else r.ecc
  let e := s.eccOf a 8 found
  let bad := eccBad e
  let s := (if e = found then s else s.drew).dramOutcome a cls (cls == 5) e
  let s := if bad && cls == 4 then s.emit (.busError r.addr) else s
  s.answer (s.reply ++ [r.addr, s.memWord a 8, b2n bad])

/-- Serve what waits on a channel. -/
def State.serveReads (s : State) (d : Nat) (l : List DramReq) : Nat → State
  | 0 => s
  | n + 1 =>
    match s.nextRead d l with
    | (s, none) => s
    | (s, some r) => (s.serveRead d r).serveReads d (l.erase r) n

/-- DRAM_READ: requests for words of job memory that wait together, oldest first; each channel serves its own in the order
of R412 to R415. -/
def execDramRead (reqs : List DramReq) (t : Nat) (s : State) : Res :=
  let s := (s.till t).answer []
  .next ((List.range 6).foldl (fun s d =>
    let l := reqs.filter (fun r => dramChannel r.addr == d)
    if s.inService d || s.dramSt d == 5 then s.serveReads d l l.length else s) s)

/-! ## The scrub (R423) -/

/-- A tile that contains a word loses its validity (R138). -/
def State.tilesLose (s : State) (a : Nat) : State :=
  { s with job := { s.job with
    valid := s.job.valid.filter (fun e => !(decide (e.1 ≤ a) && decide (a < e.1 + tileBytes))) } }.rowsLose

/-- SCRUB_READ: the next burst, and the word of it in which ECC finds what it finds; paused from die step 1 on (R502), and in
PARK. -/
def execScrubRead (d : Fin 6) (ecc : Ecc) (word : Fin 8) (s : State) : Res :=
  let d := d.val
  if !s.inService d || !s.bit (Reg.DRAM_CH_CFG d) 0 || s.rdF Reg.THERM_STEPS 1 0 != 0 then .next s
  else
    let pos := s.rd (Reg.DRAM_SCRUB_POS d)
    let b := jobAddr d (pos * 64)
    let e := s.eccOf b 64 ecc
    let bad := eccBad e
    let known := (List.range 8).find? (fun i => s.poisonedIn (b + 8 * i) 8)
    let a := b + 8 * (if e = ecc then word.val else known.getD word.val)
    let s := ((if e = ecc then s else s.drew).burst d 5 (pos * 64) false).dramOutcome a 5 true e
    let s := if bad then s.tilesLose a else s
    let s := s.wr (Reg.DRAM_SCRUB_POS d) ((pos + 1) % 2 ^ 28)
    .next (if (pos + 1) % 2 ^ 28 = 0 then s.count (Reg.DRAM_SCRUB_PASSES d) else s)

/-- SCRUB_RESTART. -/
def State.scrubRestart (s : State) (d : Nat) : State := s.wr (Reg.DRAM_SCRUB_POS d) 0
def execScrubRestart (src : Req) (d : Fin 6) (s : State) : Res :=
  if s.cutOff src then .next s else
  .next (s.scrubRestart d.val)

/-! ## Replays (R419, R420) -/

/-- An alert, its replays, and the commands that each replay issues again, the oldest first; `cleared` says that a replay
succeeded. -/
def State.alert (s : State) (d key bit replays : Nat) (cmds : List (Nat × Nat)) (cleared : Bool) : State :=
  let s := (s.count key).intSet (Reg.pageDRAM d) bit
  let s := s.wr (Reg.DRAM_RETRY_COUNT d) (satAdd 32 (s.rd (Reg.DRAM_RETRY_COUNT d)) (min 4 replays))
  let s := s.emits ((List.replicate (min 4 replays) cmds).flatten.map (fun c => .dram d c.1 c.2))
  if !cleared && decide (4 ≤ replays) then s.failDram d else s

/-- PARITY_ALERT: all banks are precharged, and the commands issued after the last one known to have been accepted, `after`
in number, are replayed (R419). -/
def execParityAlert (d : Fin 6) (after replays : Nat) (cleared : Bool) (s : State) : Res :=
  if s.inService d.val && s.bit (Reg.DRAM_CH_CFG d.val) 2 then
    let cmds := ((s.dramCh d.val).cmds.take after).reverse
    .next ((s.closeRows d.val (fun _ => true)).alert d.val (Reg.DRAM_PARITY_COUNT d.val) 12 replays cmds cleared)
  else .next s

/-- WCRC_ALERT: the writes of the buffer from the failing one onward, `after` in number, are replayed. -/
def execWcrcAlert (d : Fin 6) (after replays : Nat) (cleared : Bool) (s : State) : Res :=
  if s.inService d.val && s.bit (Reg.DRAM_CH_CFG d.val) 3 then
    let cmds := (((s.dramCh d.val).cmds.filter (fun c => c.1 == 2 || c.1 == 11)).take after).reverse
    .next (s.alert d.val (Reg.DRAM_WCRC_COUNT d.val) 13 replays cmds cleared)
  else .next s

/-! ## Retraining (R426, R427) -/

/-- RETRAIN_INTERVAL, and DRAM_CTRL.RETRAIN_NOW. -/
def execRetrainInterval (d : Fin 6) (s : State) : Res := .next (s.startRetrain d.val)
def execRetrainNow (src : Req) (d : Fin 6) (s : State) : Res :=
  if s.cutOff src then .next s else
  .next (s.startRetrain d.val)

/-- RETRAIN_SLICE: one of 64. -/
def execRetrainSlice (d : Fin 6) (s : State) : Res :=
  match (s.dramCh d.val).slices with
  | some n => .next (if n < 64 then (s.setDramCh d.val { s.dramCh d.val with slices := some (n + 1) }).emit (.dram d.val 3 n) else s)
  | none => .next s

/-- A passing retraining of a DEGRADED channel counts; sixteen restore it. -/
def State.retrainPass (s : State) (d : Nat) : State :=
  if s.dramSt d ≠ 3 then s
  else
    let n := (s.dramCh d).passes + 1
    let s := (s.setDramCh d { s.dramCh d with passes := n }).wrF (Reg.DRAM_TRAIN_STATUS d) 23 20 (min 15 n)
    if n ≥ 16 then s.restoreDram d else s

/-- RETRAIN_COMPLETE: all 64 slices have run; `margin` is the worst byte lane's, `lane` that lane. -/
def execRetrainComplete (d : Fin 6) (pass : Bool) (margin lane : Nat) (s : State) : Res :=
  let d := d.val
  let p := Reg.pageDRAM d
  if (s.dramCh d).slices ≠ some 64 then .next s
  else
    let ok := pass && decide (atLeast1 (s.rdF (Reg.DRAM_TRAIN_CFG d) 23 16) ≤ margin)
    let s := if s.dramSt d = 1 then s.setStCode p (if s.bit (Reg.STATUS p) 3 then 3 else 2) else s
    let s := (s.setDramCh d { s.dramCh d with slices := none, trainTemp := sgn 16 (s.rd (Reg.DRAM_TEMP d)) }).busy p false
    let s := (s.count (Reg.DRAM_RETRAIN_COUNT d)).wrF (Reg.DRAM_TRAIN_STATUS d) 16 0
      (margin % 256 + lane % 16 * 256 + b2n ok * 65536)
    if ok then .next ((s.ready p true).retrainPass d)
    else
      let s := ((s.count (Reg.DRAM_RETRAIN_FAIL_COUNT d)).intSet p 15).errHw p 0x0103
      .next ((s.ready p true).degradeDram d)

/-- CLEAR_DEGRADED. -/
def execClearDegraded (src : Req) (d : Fin 6) (s : State) : Res :=
  if s.cutOff src then .next s else
  .next (s.restoreDram d.val)

/-! ## The scheduled stop (R428) -/

/-- SCHEDULED_STOP: a safe point. -/
def execScheduledStop (s : State) : Res :=
  if !s.dram.stop then .next s
  else if s.stopsAlone then
    if s.runSt = 2 then .next (s.drainAt (ladd s.nextLine (-1)))
    else if s.runSt = 1 then .next s.endRun
    else if s.modState = 3 ∨ s.modState = 4 then .next (s.enterSafe causeSafeStop)
    else .next s
  else
    .next ({ s with dram := { s.dram with retireAgain := true } }.askChange true 3)

/-- RETIRE_REQUEST_REPEAT: 100 ms after the refusal of a request whose source is DRAM. -/
def execRetireRequestRepeat (s : State) : Res :=
  if s.dram.stop && s.dram.retireAgain && s.modState != 7 && s.rdF Reg.PAIR_HANDOVER_STATUS 2 0 == 3
      && s.rdF Reg.PAIR_HANDOVER_STATUS 7 4 == 3 then
    .next (s.askChange true 3)
  else .next s

/-! ## PARK (R430, R431) -/

/-- Every channel writes what it has buffered, pays its debt, precharges its banks and enters self-refresh; one whose
retraining after the last PARK has not ended too. -/
def State.dramPark (s : State) : State :=
  let s := (List.range 6).foldl (fun s d =>
    if s.inService d || s.dramSt d == 1 then
      let s := s.flushWrites d
      let owed := (s.dramCh d).debt
      let s := if 0 < owed then s.refs d ((owed + s.tRefi d - 1) / (s.tRefi d : Nat)).toNat false
        else s.closeRows d (fun _ => true)
      let s := s.dramCmds d [(8, 0)]
      (((s.setDebt d 0).setDramCh d { s.dramCh d with debt := 0, slices := none }).setStCode (Reg.pageDRAM d) 4).busy
        (Reg.pageDRAM d) false
    else s) s
  s.wrB Reg.CLK_PLL_STATUS 1 false

/-- Every channel leaves it, with one full retraining to run. -/
def State.dramResume (s : State) : State :=
  let s := s.wrB Reg.CLK_PLL_STATUS 1 true
  (List.range 6).foldl (fun s d =>
    if s.dramSt d = 4 then
      let s := s.dramCmds d [(9, 0), (10, 0)]
      ((s.setDramCh d { s.dramCh d with debt := 0, slices := some 64 }).setStCode (Reg.pageDRAM d) 1).busy (Reg.pageDRAM d) true
    else s) s

end Sys2Proof.Machine
end

