-- ==== Sys2Proof/Machine/Firmware.lean ====
section
/-! DEFINITION. Firmware updates and live updates (R463 to R467, R480, R481), and host entries of the Tally log
(R482). Operations are known by their bit in UPDATE_CTRL: 0 ERASE_WRITE, 1 VERIFY, 2 ACTIVATE, 3 CONFIRM,
4 LIVE_CREW, 5 LIVE_RANGER. -/

namespace Sys2Proof.Machine

/-! ## The outcome of an operation -/

/-- UPDATE_STATUS: OP, STATE, progress and CODE. -/
def State.fwStatus (s : State) (op st progress code : Nat) : State :=
  s.wr Reg.FW_UPDATE_STATUS (op + st * 16 + progress * 256 + code * 65536)

/-- DONE, and REFUSED and FAILED with their code. -/
def State.fwDone (s : State) (op : Nat) : State := (s.fwStatus op 2 100 0).intSet Reg.pageFW 8
def State.fwRefuse (s : State) (op code : Nat) (src : Req) : State :=
  ((s.fwStatus op 4 0 code).errAt Reg.pageFW code Reg.FW_UPDATE_CTRL src).intSet Reg.pageFW 8
def State.fwFail (s : State) (op code : Nat) : State :=
  let s := (s.fwStatus op 3 0 code).intSet Reg.pageFW 8
  if code = 0 then s else s.errHw Reg.pageFW code

def State.updateBank (s : State) : Nat := s.rdF Reg.FW_UPDATE_BANK 0 0

/-- An operation becomes BUSY on a bank, and ends. -/
def State.fwStart (s : State) (op bank : Nat) : State :=
  ((s.fwStatus op 1 0 0).modMgmt (fun m => { m with op := some op, liveBank := bank })).busy Reg.pageFW true
def State.fwEnd (s : State) : State :=
  (s.modMgmt (fun m => { m with op := none, liveCore := none })).busy Reg.pageFW false

/-- The grounds on which every operation but CONFIRM is refused (R465, R462), and then the operation. -/
def State.fwTry (s : State) (src : Req) (op : Nat) (f : State → State) : State :=
  if !s.recovery && s.updateBank == s.runningBank then s.fwRefuse op 0x0101 src
  else if s.mgmt.op.isSome then s.fwRefuse op 0x010D src
  else if s.recovery && decide (2 < op) then s.fwRefuse op 0x0102 src
  else f s

/-- A bank on trial. -/
def State.pend (s : State) (b : Nat) : State := ((s.setBankSt b 3).wrF (bankKey b) 7 4 3).recordBanks

/-! ## The operations -/

/-- ERASE_WRITE starts (R465, R472): the ERASING marker is recorded, and LEN bytes are asked for at SRC, with PASID where
it is enabled. -/
def State.eraseWrite (s : State) (src : Req) : State :=
  s.fwTry src 0 (fun s =>
    let n := s.rdF Reg.FW_LEN 28 0
    if n < 512 ∨ 268435456 < n then s.fwRefuse 0 0x0107 src
    else if !s.norInRange || s.modState == 8 then s.fwRefuse 0 0x0108 src
    else
      let pasid := if s.bit Reg.FW_PASID 31 then some (s.rdF Reg.FW_PASID 19 0) else none
      (s.fwStart 0 s.updateBank).recordBanks.emit (.hostRead pasid (s.rd64 Reg.FW_SRC_LO Reg.FW_SRC_HI) n))
def execEraseWrite (src : Req) (s : State) : Res :=
  if s.asleep src then .next s else
  .next (s.eraseWrite src)

/-- Why an image set is not valid (R464). -/
def State.imageFault (s : State) (i : ImageSet) : Option Nat :=
  let step := s.rdF Reg.SYS_REVISION 31 24 - 0x41
  if i.magic ≠ 0x57465A51 ∨ i.format ≠ 1 then some 0x0106
  else if i.device != 0x2080 || !bitOf i.siliconMask step then some 0x0105
  else if !i.covered then some 0x0107
  else if !i.keyOk || !i.signatureOk || !i.hashesOk then some 0x0103
  else if i.svn < s.fwFloor then some 0x0104
  else none

/-- VERIFY: a WRITTEN bank becomes VALID, or REJECTED. -/
def State.fwVerify (s : State) (src : Req) : State :=
  s.fwTry src 1 (fun s =>
    let b := s.updateBank
    if s.bankSt b ≠ 1 then s.fwRefuse 1 0x0102 src
    else match s.bankImage b with
      | none => (s.setBankSt b 6).recordBanks.fwFail 1 0x0106
      | some i => match s.imageFault i with
        | some code => (s.setBankSt b 6).recordBanks.fwFail 1 code
        | none => (s.setBankSt b 2).recordBanks.fwDone 1)
def execFwVerify (src : Req) (s : State) : Res :=
  if s.asleep src then .next s else
  .next (s.fwVerify src)

/-- ACTIVATE: a VALID bank becomes PENDING with three tries. -/
def State.fwActivate (s : State) (src : Req) : State :=
  s.fwTry src 2 (fun s =>
    if s.bankSt s.updateBank ≠ 2 then s.fwRefuse 2 0x0102 src else (s.pend s.updateBank).fwDone 2)
def execFwActivate (src : Req) (s : State) : Res :=
  if s.asleep src then .next s else
  .next (s.fwActivate src)

/-- A bank whose SVN is below FLOOR never boots again (R461). -/
def State.belowFloor (s : State) (b : Nat) : State :=
  if s.bankSt b ≠ 0 ∧ s.bankSvn b < s.fwFloor then s.setBankSt b 7 else s

/-- CONFIRM: a PENDING bank becomes ACTIVE, the ACTIVE one VALID, and FLOOR rises. -/
def State.fwConfirm (s : State) (src : Req) : State :=
  if s.mgmt.op.isSome then s.fwRefuse 3 0x010D src
  else if s.recovery then s.fwRefuse 3 0x0102 src
  else
    match [s.updateBank, 1 - s.updateBank].find? (fun b => s.bankSt b == 3) with
    | none => s.fwRefuse 3 0x0102 src
    | some b =>
      let o := 1 - b
      let s := if s.bankSt o = 4 then s.setBankSt o 2 else s
      let s := s.setBankSt b 4
      let s := s.wrF Reg.FW_FW_STATUS 13 8 (max s.fwFloor (s.bankSvn b))
      (s.belowFloor o).recordBanks.showDiffers.fwDone 3
def execConfirmImage (src : Req) (s : State) : Res :=
  if s.asleep src then .next s else
  .next (s.fwConfirm src)

/-! ## Live updates (R466, R467) -/

/-- The number of a Crew core as a requester's index. -/
def crewFin (n : Nat) : Fin 4 := ⟨n % 4, Nat.mod_lt _ (by decide)⟩

/-- Restart a core, whose readiness is then awaited. -/
def State.restartCore (s : State) (core : Nat) : State :=
  (s.crewReset (crewFin core)).modMgmt (fun m => { m with liveCore := some core })

/-- The Crew image of a bank goes in: beside the running one in region 56, and then Crew3 first. -/
def State.startLiveCrew (s : State) (b : Nat) : State :=
  let s := s.fwStart 4 b
  (match s.bankImage b with
    | some i => s.memWrite (crewBase (1 - s.mgmt.crewSlot)) i.crew
    | none => s).restartCore 3

def State.liveCrew (s : State) (src : Req) : State :=
  s.fwTry src 4 (fun s =>
    let b := s.updateBank
    if s.bankSt b ≠ 2 ∧ s.bankSt b ≠ 3 then s.fwRefuse 4 0x0102 src
    else match s.bankImage b with
      | none => s.fwRefuse 4 0x0102 src
      | some i => if i.rangerHash ≠ s.mgmt.runRanger then s.fwRefuse 4 0x010A src else s.startLiveCrew b)
def execLiveCrew (src : Req) (s : State) : Res :=
  if s.asleep src then .next s else
  .next (s.liveCrew src)

def State.liveRanger (s : State) (src : Req) : State :=
  s.fwTry src 5 (fun s =>
    let b := s.updateBank
    if s.bankSt b ≠ 2 ∧ s.bankSt b ≠ 3 then s.fwRefuse 5 0x0102 src
    else if s.modState ≠ 6 then s.fwRefuse 5 0x0109 src
    else s.rangerReset.fwStart 5 b)
def execLiveRanger (src : Req) (s : State) : Res :=
  if s.asleep src then .next s else
  .next (s.liveRanger src)

/-- The new images run: the version, and the bank on trial. -/
def State.liveDone (s : State) (op : Nat) (i : ImageSet) : State :=
  let s := ((s.pend s.mgmt.liveBank).wr Reg.SYS_FW_VERSION i.version).fwEnd
  s.showDiffers.fwDone op

/-- CORE_READY: the next core restarts, and after Crew0 the update is done. -/
def execCoreReady (core : Fin 4) (s : State) : Res :=
  if s.mgmt.op = some 4 ∧ s.mgmt.liveCore = some core.val then
    if core.val = 0 then
      match s.bankImage s.mgmt.liveBank with
      | none => .next s.fwEnd
      | some i =>
        let s := s.modMgmt (fun m => { m with
          runCrew := i.crewHash, runProto := i.protoMajor, crewSlot := 1 - m.crewSlot })
        .next ((s.liveDone 4 i).tally 0x0083 0xF0 0 0 0)
    else .next (s.restartCore (core.val - 1))
  else .next s

/-- CORE_READY_TIMEOUT: the cores that have the new image restart with the old one. -/
def execCoreReadyTimeout (core : Fin 4) (s : State) : Res :=
  if s.mgmt.op = some 4 ∧ s.mgmt.liveCore = some core.val then
    let back := [3, 2, 1, 0].filter (fun n => decide (core.val ≤ n))
    let s := back.foldl (fun s n => s.crewReset (crewFin n)) s
    .next ((s.setBankSt s.mgmt.liveBank 6).fwEnd.recordBanks.fwFail 4 0x010C)
  else .next s

/-! ## The end of an operation -/

/-- The bank is programmed: its header gives VERSION and SVN. -/
def State.written (s : State) (b : Nat) (i : ImageSet) : State :=
  let s := (s.setBankImage b (some i)).wr (bankKey b) (1 + i.svn % 64 * 256)
  ((s.wr (bankVersionKey b) (i.version % 2 ^ 32)).fwEnd.recordBanks.fwDone 0).tally 0x0082 0x82 b 0 0

/-- FW_OPERATION_DONE: an ERASE_WRITE ends with the image it has programmed, or none where the host read failed;
a LIVE_RANGER ends with Ranger running. A paused NOR operation does not end. -/
def execFwOperationDone (img : Option ImageSet) (s : State) : Res :=
  let b := s.mgmt.liveBank
  if s.mgmt.op = some 0 ∧ !s.mgmt.norPaused then
    match img with
    | some i => .next (s.written b i)
    | none => .next ((s.setBankSt b 5).fwEnd.recordBanks.fwFail 0 0x010B)
  else if s.mgmt.op = some 5 then
    match s.bankImage b with
    | none => .next s.fwEnd
    | some i =>
      let s := (s.modMgmt (fun m => { m with runRanger := i.rangerHash })).tally 0x0083 0xF0 0 0 1
      .next (if i.crewHash = s.mgmt.runCrew then s.liveDone 5 i else s.startLiveCrew b)
  else .next s

/-- UPDATE_ABORT: an ERASE_WRITE stops and leaves the bank INVALID. Recovery does not accept it (R462). -/
def State.fwAbort (s : State) (src : Req) : State :=
  if s.recovery then s.errAt Reg.pageFW 0x0102 Reg.FW_UPDATE_CTRL src
  else if s.mgmt.op = some 0 then
    ((s.setBankSt s.mgmt.liveBank 5).fwEnd.modMgmt (fun m => { m with norPaused := false })).recordBanks.fwFail 0 0
  else s
def execUpdateAbort (src : Req) (s : State) : Res :=
  if s.asleep src then .next s else
  .next (s.fwAbort src)

/-! ## Host entries of the Tally log (R482) -/

/-- HOST_POST: a host entry. SEVERITY and ARG are the registers'. -/
def State.hostPost (s : State) (src : Req) : State :=
  let code := s.rdF Reg.TALLY_HOST_CODE 15 0
  if code < 0xC000 then s.errAt Reg.pageTALLY 0x0101 Reg.TALLY_HOST_POST src
  else s.tally code 0xF2 0 (s.rdF Reg.TALLY_HOST_CODE 17 16) (s.rd Reg.TALLY_HOST_ARG)
def execHostPost (src : Req) (s : State) : Res :=
  if s.cutOff src then .next s else
  .next (s.hostPost src)

end Sys2Proof.Machine
end

