-- ==== Sys2Proof/Machine/Time.lean ====
section
/-! DEFINITION. Module time and ring time, their conversion to and from FRC, and the latches of a _LO/_HI pair
(R44, R391 to R393, R369). -/

namespace Sys2Proof.Machine

/-! ## The latches of R44 -/

/-- The number of a requester. -/
def reqNum : Req → Nat
  | .pf0 => 0
  | .pf1 => 1
  | .crew i => 2 + i.val
  | .ranger => 6
  | .peer => 7

/-- The key of a requester's latch on a page. -/
def latchKey (page : Nat) (src : Req) : Nat := page * 8 + reqNum src

def State.readLatch (s : State) (page : Nat) (src : Req) : Option Word :=
  smGet (fun _ => none) s.latchR (latchKey page src)
def State.setReadLatch (s : State) (page : Nat) (src : Req) (v : Nat) : State :=
  { s with latchR := smSet (fun _ => none) s.latchR (latchKey page src) (some (BitVec.ofNat 32 v)) }
def State.writeLatch (s : State) (page : Nat) (src : Req) : Option Word :=
  smGet (fun _ => none) s.latchW (latchKey page src)
def State.setWriteLatch (s : State) (page : Nat) (src : Req) (v : Nat) : State :=
  { s with latchW := smSet (fun _ => none) s.latchW (latchKey page src) (some (BitVec.ofNat 32 v)) }

/-- The low word of a 64-bit write: the requester's latch, or the live value. -/
def State.lowWord (s : State) (page : Nat) (src : Req) (live : Nat) : Nat :=
  match s.writeLatch page src with
  | some v => v.toNat
  | none => live

/-! ## The model of module time (R391, R392) -/

/-- The nominal rate: 1.25 ns per count, in 2^-56 ns. -/
def nominalRate : Nat := 5 * 2 ^ 54

/-- RATE_ADJ: the rate relative to nominal, in 10^-12. -/
def State.showRate (s : State) : State :=
  s.wr Reg.TIME_RATE_ADJ (satSgn 32 ((((s.rate : Int) - nominalRate) * 1000000000000).fdiv nominalRate))

/-- The TIME page applies its shadows: LAST_STEP, and the old model kept (R392). -/
def State.applyTime (s : State) : State :=
  let t := s.applyPage Reg.pageTIME
  let step := (sdiff 80 t.now16 s.now16).fdiv 65536
  ({ t with net := { t.net with
      old := some (s.offset16, s.frcRef, s.rate), oldFrc := s.net.applyFrc, applyFrc := s.frc } }.wr
    Reg.TIME_LAST_STEP (satSgn 32 step)).showRate

/-- The servo sets the model: offset in 2^-16 ns, FRC_REF and RATE. -/
def State.setModel (s : State) (offset ref rate : Nat) : State :=
  ([(Reg.TIME_OFFSET_FRAC, offset % 65536), (Reg.TIME_OFFSET_LO, offset / 65536 % 2 ^ 32),
    (Reg.TIME_OFFSET_HI, offset / 2 ^ 48 % 2 ^ 32), (Reg.TIME_FRC_REF_LO, ref % 2 ^ 32),
    (Reg.TIME_FRC_REF_HI, ref / 2 ^ 32 % 2 ^ 32), (Reg.TIME_RATE_LO, rate % 2 ^ 32),
    (Reg.TIME_RATE_HI, rate / 2 ^ 32 % 2 ^ 32)].foldl (fun s p => s.putShadow p.1 p.2) s).applyTime

/-- Module time in 2^-16 ns at a captured FRC value, and whether it precedes the old model too (R392). -/
def State.timeOf (s : State) (frc : Nat) : Nat × Bool :=
  match s.net.old with
  | some (o, r, q) =>
    if sdiff 64 frc s.net.applyFrc < 0 then (timeAt o r q frc, decide (sdiff 64 frc s.net.oldFrc < 0))
    else (timeAt s.offset16 s.frcRef s.rate frc, false)
  | none => (timeAt s.offset16 s.frcRef s.rate frc, false)

/-! ## Ring time (R369) -/

/-- Ring time in 2^-16 ns at an FRC value, 1.25 ns per clock; before a node has been disciplined the manual
states none (log 31). -/
def State.ringTime (s : State) (frc : Nat) : Nat :=
  if s.isRoot then (s.timeOf frc).1
  else match s.ring.base with
    | some (f, t) => unsgn 80 ((t : Int) + sdiff 64 frc f * 81920)
    | none => s.free

/-- The FRC count nearest to a ring time. -/
def State.frcOfRing (s : State) (t16 : Nat) : Nat :=
  if s.isRoot then s.frcOfTime t16
  else match s.ring.base with
    | some (f, t) => unsgn 64 ((f : Int) + (2 * sdiff 80 t16 t + 81920).fdiv 163840)
    | none => s.free

/-! ## Reading and converting (R393) -/

/-- A read of NOW_LO. -/
def State.readNow (s : State) (src : Req) : State :=
  let v := s.now16
  let ns := v / 65536 % 2 ^ 64
  ((s.setReadLatch Reg.pageTIME src (ns / 2 ^ 32)).wr Reg.TIME_NOW_FRAC (v % 65536)).answer [ns % 2 ^ 32]
def execNowRead (src : Req) (t : Nat) (s : State) : Res :=
  if s.cutOff src then .next (s.answer [0xFFFFFFFF]) else
  .next ((s.till t).readNow src)

/-- A write of CONV_IN_HI: the 64-bit input, converted in the direction and base of CONV_CTRL. -/
def State.convertTime (s : State) (src : Req) (hi : Nat) : State :=
  let lo := s.lowWord Reg.pageTIME src (s.rd Reg.TIME_CONV_IN_LO)
  let s := (s.wr Reg.TIME_CONV_IN_LO lo).wr Reg.TIME_CONV_IN_HI hi
  let v := s.rd64 Reg.TIME_CONV_IN_LO Reg.TIME_CONV_IN_HI
  let ring := s.bit Reg.TIME_CONV_CTRL 1
  let toTime := s.bit Reg.TIME_CONV_CTRL 0
  let open_ := ring && !s.isRoot && s.ring.base.isNone
  let out := if toTime then (if ring then s.ringTime v else (s.timeOf v).1) / 65536
    else if ring then s.frcOfRing (v * 65536) else s.frcOfTime (v * 65536)
  let old := toTime && (!ring || s.isRoot) && (s.timeOf v).2
  let s := if open_ then s.drew else s
  (s.wr64 Reg.TIME_CONV_OUT_LO Reg.TIME_CONV_OUT_HI (out % 2 ^ 64)).wr Reg.TIME_CONV_STATUS (b2n old)
def execConversion (src : Req) (data : Nat) (s : State) : Res :=
  if s.cutOff src then .next s else
  .next (s.convertTime src (data % 2 ^ 32))

end Sys2Proof.Machine
end

