-- ==== Sys2Proof/Machine/Servo.lean ====
section
/-! DEFINITION. PTP on the two LANs, path delay, and the servo (R387 to R390, R394 to R396). Servo states:
0 FREERUN, 1 ACQUIRE, 2 LOCKED, 3 HOLDOVER, 4 VERIFY. Times are in 2^-16 ns. -/

namespace Sys2Proof.Machine

def State.modNet (s : State) (f : NetUnit → NetUnit) : State := { s with net := f s.net }
def State.netPort (s : State) (p : Nat) : NetPort := smGet (fun _ => {}) s.net.ports p
def State.setNetPort (s : State) (p : Nat) (x : NetPort) : State :=
  s.modNet (fun n => { n with ports := smSet (fun _ => {}) n.ports p x })

/-- Nanoseconds in 2^-16 ns. -/
def ns16 (n : Nat) : Int := (n * 65536 : Nat)

def State.servoSt (s : State) : Nat := s.rdF Reg.TIME_SERVO_STATUS 2 0
def State.asymSuspect (s : State) : Bool := s.bit Reg.TIME_SERVO_STATUS 3
def State.lanUse (s : State) (p : Nat) : Bool := s.bit Reg.TIME_SERVO_STATUS (4 + p)

/-- Latencies of a port at its medium-dependent interface (R389), from 0.1 ns. -/
def State.txLat (s : State) (p : Nat) : Int :=
  ((s.rdF (Reg.NET_INT_LAT p) 15 0 + s.rdF (Reg.NET_EXT_DELAY p) 15 0) * 65536 / 10 : Nat)
def State.rxLat (s : State) (p : Nat) : Int :=
  ((s.rdF (Reg.NET_INT_LAT p) 31 16 + s.rdF (Reg.NET_EXT_DELAY p) 31 16) * 65536 / 10 : Nat)
def State.asym (s : State) (p : Nat) : Int := (sgn 16 (s.rd (Reg.NET_ASYM p)) * 65536).fdiv 10

/-- d_L: the mean of the last accepted samples. -/
def NetPort.delay (x : NetPort) : Option Int :=
  if x.delays.isEmpty then none else some ((x.delays.foldl (· + ·) 0).fdiv x.delays.length)

/-- The grandmaster identity in a data set. -/
def gmId (l : List Nat) : Nat := l.getD 5 0

/-- The ports select different grandmasters. -/
def State.gmDiffer (s : State) : Bool :=
  match (s.netPort 0).best, (s.netPort 1).best with
  | some a, some b => gmId a != gmId b
  | _, _ => false

/-! ## What the registers show -/

/-- LAN_USE, and what PTP_STATUS shows of a port. -/
def State.showPtp (s : State) : State :=
  [0, 1].foldl (fun s p =>
    let x := s.netPort p
    let use := !s.net.dropped.contains p && !(p == 1 && s.gmDiffer)
    let ver := s.servoSt == 4 || s.net.dropped.contains p
    let s := s.wrB Reg.TIME_SERVO_STATUS (4 + p) use
    let s := s.wrF (Reg.NET_PTP_STATUS p) 15 0 (b2n x.best.isSome + b2n use * 2 + b2n (!x.suspects.isEmpty) * 4
      + b2n ver * 8 + x.suspects.length * 256)
    match x.delay with
    | some d => s.wr (Reg.NET_PTP_DELAY p) (unsgn 32 ((d * 1000).fdiv 65536))
    | none => s) s

/-- A change of the servo state (R396). -/
def State.setServo (s : State) (st : Nat) : State :=
  if s.servoSt = st then s
  else
    let s := ((s.wrF Reg.TIME_SERVO_STATUS 2 0 st).setStCode Reg.pageTIME st).intSet Reg.pageTIME 8
    let s := s.modNet (fun n => { n with everLocked := n.everLocked || st == 2, lockRun := 0, offRun := 0 })
    s.showPtp.tally 0x0070 0x63 0 (if st = 3 then 1 else 0) st

/-- Into HOLDOVER: d_L is held, and samples count anew. -/
def State.enterHoldover (s : State) : State :=
  let s := s.modNet (fun n => { n with
    holdFrc := s.frc, agree := none
    heldDelay := [0, 1].foldl (fun m p => smSet (fun _ => none) m p (s.netPort p).delay) [] })
  let s := [0, 1].foldl (fun s p => s.setNetPort p { s.netPort p with off := none, stepped := none }) s
  (s.wrB Reg.TIME_SERVO_STATUS 6 false).setServo 3

/-- Out of HOLDOVER or VERIFY with the delays as they are. -/
def State.leaveHoldover (s : State) : State :=
  (s.modNet (fun n => { n with heldDelay := [], agree := none })).setServo 2

/-- ACQUIRE or LOCKED. -/
def State.disciplined (s : State) : Bool := s.servoSt == 1 || s.servoSt == 2

/-! ## Corrections -/

/-- Drop a LAN (R395). -/
def State.dropLan (s : State) (p : Nat) : State :=
  let s := s.modNet (fun n => { n with dropped := n.dropped ++ [p], agree := none })
  ((s.setNetPort p { s.netPort p with stepped := none }).showPtp).intSet Reg.pageTIME 10

/-- Judge the delay steps that stand: a step on every LAN in use, each within eight samples of the other, or on one while
another has had eight samples without one. -/
def State.judgeSteps (s : State) : State :=
  let live := [0, 1].filter (fun p => s.lanUse p && (s.netPort p).off.isSome)
  let stepped := live.filter (fun p => (s.netPort p).stepped.isSome)
  let count p := (s.netPort p).stepped.getD 0
  if stepped.isEmpty then s
  else if stepped.length = live.length ∧ stepped.all (fun p => decide (count p ≤ 8)) then
    (((s.wrB Reg.TIME_SERVO_STATUS 3 true).intSet Reg.pageTIME 9)).enterHoldover
  else (stepped.filter (fun p => decide (8 ≤ count p))).foldl State.dropLan s

/-- The servo input: the mean of o_L over the LANs in use whose samples are not withheld. -/
def State.servoInput (s : State) : Option Int :=
  let os := ([0, 1].filter (fun p => s.lanUse p && (s.netPort p).suspects.isEmpty && (s.netPort p).stepped.isNone)).filterMap
    (fun p => (s.netPort p).off)
  if os.isEmpty then none else some ((os.foldl (· + ·) 0).fdiv os.length)

/-- The rate that firmware chooses, within 200 ppm of nominal: the manual states no law (log 31). -/
def State.servoRate (s : State) : Nat :=
  let m := nominalRate / 5000
  nominalRate - m + (s.free + s.drew.free * 2 ^ 32) % (2 * m + 1)

/-- Slew: the model goes on from module time now at another rate. -/
def State.slew (s : State) : State :=
  if s.bit Reg.TIME_TIME_CFG 14 then (s.setModel s.now16 s.frc s.servoRate).drew.drew else s

/-- Set the model to the measured time: a step while the run state is IDLE or ARMED. -/
def State.setMeasured (s : State) (o : Int) : State :=
  if !s.bit Reg.TIME_TIME_CFG 14 then s
  else if s.printing then s.slew
  else
    let s := s.setModel (unsgn 80 ((s.now16 : Int) - o)) s.frc s.rate
    [0, 1].foldl (fun s p => s.setNetPort p { s.netPort p with off := (s.netPort p).off.map (· - o) }) s

/-- A correction in ACQUIRE or LOCKED, and the counts of R396. -/
def State.correct (s : State) (o : Int) : State :=
  let s := (s.wr Reg.TIME_SERVO_OFFSET (satSgn 32 (o.fdiv 65536))).slew
  let near := if decide (o.natAbs < 100 * 65536) then s.net.lockRun + 1 else 0
  let far := if decide (1000 * 65536 < o.natAbs) then s.net.offRun + 1 else 0
  let s := s.modNet (fun n => { n with lockRun := near, offRun := far })
  if s.servoSt = 1 ∧ 16 ≤ near then s.setServo 2
  else if s.servoSt = 2 ∧ 16 ≤ far then s.setServo 1
  else s

/-- The agreement of the two LANs within 20 ns. -/
def State.updateAgree (s : State) : State :=
  match (s.netPort 0).off, (s.netPort 1).off with
  | some a, some b =>
    let ok := decide ((a - b).natAbs ≤ 20 * 65536)
    s.modNet (fun n => { n with agree := if !ok then none else if n.agree.isSome then n.agree else some s.frc })
  | _, _ => s.modNet (fun n => { n with agree := none })

/-- The two LANs have agreed for 32 s. -/
def State.agreed (s : State) : Bool :=
  match s.net.agree with
  | some a => decide (32 * 800000000 ≤ s.since a)
  | none => false

/-- The servo takes an offset sample of port p. Crew0 decides (R458, R466). -/
def State.servoStep (s : State) (p : Nat) : State :=
  if !s.crewRuns 0 then s
  else
    let s := if s.servoSt = 4 ∨ s.net.dropped ≠ [] then s.updateAgree else s
    let both := (s.netPort 0).off.isSome && (s.netPort 1).off.isSome
    if s.servoSt = 0 then
      if (s.netPort p).samples < 4 ∨ s.lanUse p = false then s
      else (s.setMeasured ((s.netPort p).off.getD 0)).setServo 1
    else if s.disciplined then
      match s.servoInput with
      | some o => s.correct o
      | none => s
    else if s.servoSt = 3 ∧ s.asymSuspect ∧ both then (s.setServo 4).updateAgree
    else s

/-! ## Samples (R389, R394) -/

/-- t1 with its correction, received at FRC value `f`: the offset o_L, once d_L is known. -/
def State.offsetSample (s : State) (p : Nat) (t1 : Int) (f : Nat) : State :=
  let x := s.netPort p
  if x.best.isNone then s
  else
    let x := { x with last := some (t1, f) }
    match x.delay with
    | none => s.setNetPort p x
    | some d =>
      let o := sgn 80 (unsgn 80 (((s.timeOf f).1 : Int) - s.rxLat p - t1 - d - s.asym p))
      let s := s.setNetPort p { x with off := some o, samples := x.samples + 1 }
      (s.wr (Reg.NET_PTP_OFFSET p) (satSgn 32 (o.fdiv 65536))).servoStep p

/-- A delay sample in HOLDOVER without ASYM_SUSPECT. -/
def State.holdoverSample (s : State) (p : Nat) (d : Int) : State :=
  match smGet (fun _ => none) s.net.heldDelay p with
  | none => s.leaveHoldover
  | some h => if (d - h).natAbs ≤ 40 * 65536 then s.leaveHoldover else s.wrB Reg.TIME_SERVO_STATUS 3 true

/-- A delay sample on a port: accepted within 40 ns of d_L, else suspect; the eighth in a row is a delay step. -/
def State.delaySample (s : State) (p : Nat) (d : Int) : State :=
  let x := s.netPort p
  let near := match x.delay with
    | none => true
    | some m => decide ((d - m).natAbs ≤ 40 * 65536)
  let step := !near && x.suspects.length == 7
  let stands := step && s.disciplined && s.lanUse p
  let x := if near then { x with delays := (d :: x.delays).take 16, suspects := [] }
    else if step then { x with
      delays := d :: x.suspects, suspects := [], stepped := if stands then some 0 else x.stepped }
    else { x with suspects := d :: x.suspects }
  let s := s.setNetPort p x
  let y := s.netPort (1 - p)
  let s := (s.setNetPort (1 - p) { y with stepped := y.stepped.map (· + 1) }).showPtp
  let s := if step then s.intSet (Reg.pageNET p) 11 else s
  if !s.crewRuns 0 then s
  else if s.disciplined then s.judgeSteps
  else if s.servoSt = 3 ∧ ¬ s.asymSuspect ∧ s.lanUse p then s.holdoverSample p d
  else s

/-- Time elapsed between two FRC values, in 2^-16 ns. -/
def State.elapsed (s : State) (a b : Nat) : Int := (sdiff 64 b a * (s.rate : Int)) / (2 ^ 40 : Nat)

/-! ## Messages -/

/-- SYNC: one-step, or the first half of a two-step Sync. -/
def execPtpSync (port : Fin 2) (m : PtpMsg) (s : State) : Res :=
  let p := port.val
  let s := s.till m.frc
  if m.twoStep then .next (s.setNetPort p { s.netPort p with sync := some (m.seq, m.frc, m.corr) })
  else .next (s.offsetSample p ((m.time : Int) + m.corr) m.frc)

/-- FOLLOW_UP of the Sync that waits for it. -/
def execFollowUp (port : Fin 2) (m : PtpMsg) (s : State) : Res :=
  let p := port.val
  match (s.netPort p).sync with
  | some (n, f, c) =>
    if n = m.seq then
      .next ((s.setNetPort p { s.netPort p with sync := none }).offsetSample p ((m.time : Int) + m.corr + c) f)
    else .next s
  | none => .next s

/-- The mechanism is peer-to-peer. -/
def State.p2p (s : State) : Bool := s.bit Reg.TIME_TIME_CFG 12

/-- Send a PTP message: its type, its number, its timestamp and its correction (R387: without a trailer). Without L2_EN it
goes over UDP: source and destination address, port, and a checksum of 0 (R388, R390). -/
def State.ptpSend (s : State) (p type seq : Nat) (time corr : Int) : State :=
  let m := [type, seq, unsgn 80 time, unsgn 64 corr]
  if s.bit Reg.PRP_PTP_TRANSPORT 0 && !s.bit Reg.PRP_PTP_TRANSPORT 1 then
    s.netSend p 0x0800 ([s.rd Reg.PRP_NODE_IP, if type = 1 then 0xE0000181 else 0xE000006B,
      if type < 8 then 319 else 320, 0] ++ m)
  else s.netSend p 0x88F7 m

/-- DELAY_REQ: the module sends a Delay_Req, or under P2P a Pdelay_Req, at FRC value t (R390). A Delay_Req needs
a selected grandmaster. -/
def execDelayReq (port : Fin 2) (t : Nat) (s : State) : Res :=
  let p := port.val
  let s := s.till t
  let x := s.netPort p
  if !s.p2p && x.best.isNone then .next s
  else
    let n := (x.reqSeq + 1) % 65536
    let s := s.setNetPort p { x with req := some (n, t), reqSeq := n, resp := none }
    let stamp : Int := if s.bit Reg.TIME_TIME_CFG 13 then 0 else ((s.timeOf t).1 : Int) + s.txLat p
    .next (s.ptpSend p (if s.p2p then 2 else 1) n stamp 0)

/-- DELAY_RESP: half of what the round trip leaves. -/
def execDelayResp (port : Fin 2) (m : PtpMsg) (s : State) : Res :=
  let p := port.val
  let x := s.netPort p
  match x.req, x.last with
  | some (n, f3), some (t1, f2) =>
    if s.p2p || !m.forMe || n != m.seq then .next s
    else
      let away := s.elapsed f2 f3 + s.txLat p + s.rxLat p
      .next ((s.setNetPort p { x with req := none }).delaySample p (((m.time : Int) - m.corr - t1 - away).fdiv 2))
  | _, _ => .next s

/-- PDELAY_REQ of a neighbour, answered at FRC value t (R390). -/
def execPdelayReq (port : Fin 2) (m : PtpMsg) (t : Nat) (s : State) : Res :=
  let p := port.val
  let s := s.till t
  if !s.p2p then .next s
  else
    let t2 := ((s.timeOf m.frc).1 : Int) - s.rxLat p
    let t3 := ((s.timeOf t).1 : Int) + s.txLat p
    if s.bit Reg.TIME_TIME_CFG 13 then .next ((s.ptpSend p 3 m.seq t2 m.corr).ptpSend p 10 m.seq t3 0)
    else .next (s.ptpSend p 3 m.seq 0 (m.corr + (t3 - t2)))

/-- The link delay from a Pdelay exchange: the turnaround, and the FRC values at which it left and came. -/
def State.peerDelay (s : State) (p : Nat) (f1 f4 : Nat) (turn : Int) : State :=
  (s.setNetPort p { s.netPort p with req := none, resp := none }).delaySample p
    ((s.elapsed f1 f4 - s.txLat p - s.rxLat p - turn).fdiv 2)

/-- PDELAY_RESP. -/
def execPdelayResp (port : Fin 2) (m : PtpMsg) (s : State) : Res :=
  let p := port.val
  let s := s.till m.frc
  let x := s.netPort p
  match x.req with
  | some (n, f1) =>
    if !s.p2p || !m.forMe || n != m.seq then .next s
    else if m.twoStep then .next (s.setNetPort p { x with resp := some (n, (m.time : Int) - m.corr, m.frc) })
    else .next (s.peerDelay p f1 m.frc m.corr)
  | none => .next s

/-- PDELAY_RESP_FOLLOW_UP. -/
def execPdelayRespFollowUp (port : Fin 2) (m : PtpMsg) (s : State) : Res :=
  let p := port.val
  let x := s.netPort p
  match x.req, x.resp with
  | some (n, f1), some (k, t2, f4) =>
    if !s.p2p || !m.forMe || n != m.seq || k != m.seq then .next s
    else .next (s.peerDelay p f1 f4 ((m.time : Int) + m.corr - t2))
  | _, _ => .next s

/-! ## The grandmaster (R388) -/

/-- All samples are cleared, and the runs of samples counted (R396). -/
def State.clearSamples (s : State) : State :=
  let s := s.modNet (fun n => { n with lockRun := 0, offRun := 0, agree := none })
  [0, 1].foldl (fun s p => s.setNetPort p { s.netPort p with
    sync := none, last := none, req := none, resp := none, delays := [], suspects := [], off := none, samples := 0
    stepped := none }) s

/-- What a change of a port's selection does: LAN_USE, GM_ID and a change of the grandmaster's identity. The
module's grandmaster is that of LAN A where both are selected. -/
def State.selected (s : State) (p : Nat) (best : Option (List Nat)) : State :=
  let differed := s.gmDiffer
  let s := (s.setNetPort p { s.netPort p with best := best }).showPtp
  let s := if s.gmDiffer && !differed then s.intSet Reg.pageTIME 12 else s
  match (s.netPort 0).best.orElse (fun _ => (s.netPort 1).best) with
  | none => s
  | some b =>
    let old := s.rd64 Reg.TIME_GM_ID_LO Reg.TIME_GM_ID_HI
    let t := s.wr64 Reg.TIME_GM_ID_LO Reg.TIME_GM_ID_HI (gmId b)
    if old = 0 ∨ old = gmId b then t
    else (t.clearSamples.intSet Reg.pageTIME 12).setServo 1

/-- ANNOUNCE: the data set of a sender against the one selected on the port. -/
def execPtpAnnounce (port : Fin 2) (m : PtpMsg) (s : State) : Res :=
  let p := port.val
  let s := s.till m.frc
  match (s.netPort p).best with
  | none => .next (s.selected p (some m.data))
  | some b =>
    if b.getD 7 0 = m.data.getD 7 0 ∨ keyBefore m.data b then .next (s.selected p (some m.data)) else .next s

/-- ANNOUNCE_TIMEOUT. -/
def execAnnounceTimeout (port : Fin 2) (s : State) : Res := .next (s.selected port.val none)

/-! ## The other events of R395 and R396 -/

/-- SYNC_TIMEOUT: no Sync on the port for three intervals. -/
def execSyncTimeout (port : Fin 2) (t : Nat) (s : State) : Res :=
  let s := s.till t
  let p := port.val
  let s := s.setNetPort p { s.netPort p with off := none, samples := 0 }
  if !s.crewRuns 0 then .next s
  else if s.servoSt = 4 then .next ((s.modNet (fun n => { n with agree := none })).setServo 3)
  else if s.disciplined then
    if [0, 1].any (fun q => s.lanUse q && (s.netPort q).off.isSome) then .next s.judgeSteps else .next s.enterHoldover
  else .next s

/-- LAN_READMITTED: a dropped LAN after 32 s of agreement. -/
def execLanReadmitted (port : Fin 2) (t : Nat) (s : State) : Res :=
  let s := s.till t
  let p := port.val
  if s.crewRuns 0 && s.net.dropped.contains p && s.agreed then
    let s := s.modNet (fun n => { n with dropped := n.dropped.filter (· != p), agree := none })
    .next (s.showPtp.intSet Reg.pageTIME 11)
  else .next s

/-- VERIFY_COMPLETE: 32 s of agreement in VERIFY; LAN_USE is both, ASYM_SUSPECT 0. -/
def execVerifyComplete (t : Nat) (s : State) : Res :=
  let s := s.till t
  if s.crewRuns 0 && s.servoSt == 4 && s.agreed then
    .next ((s.modNet (fun n => { n with dropped := [] })).wrB Reg.TIME_SERVO_STATUS 3 false).leaveHoldover
  else .next s

/-- HOLDOVER_EXPIRED. -/
def execHoldoverExpired (t : Nat) (s : State) : Res :=
  let s := s.till t
  if (s.servoSt == 3 || s.servoSt == 4) && decide (s.rdF Reg.TIME_HOLDOVER_MAX 15 0 * 800000000 < s.since s.net.holdFrc) then
    .next ((s.wrB Reg.TIME_SERVO_STATUS 6 true).intSet Reg.pageTIME 13)
  else .next s

/-- TIME_CTRL.ACCEPT_PATH. -/
def State.acceptPath (s : State) : State :=
  if s.crewRuns 0 && (s.servoSt == 3 || s.servoSt == 4) then
    (s.wrB Reg.TIME_SERVO_STATUS 3 false).leaveHoldover
  else s
def execAcceptPath (src : Req) (s : State) : Res :=
  if s.cutOff src then .next s else
  .next s.acceptPath

/-- TIME_CTRL.FORCE_HOLDOVER, and loss of NET_LOCK (R69). -/
def State.forceHoldover (s : State) : State := if s.crewRuns 0 && s.disciplined then s.enterHoldover else s
def execForceHoldover (src : Req) (s : State) : Res :=
  if s.cutOff src then .next s else
  .next s.forceHoldover

end Sys2Proof.Machine
end

