-- ==== Sys2Proof/Machine/Net.lean ====
section
/-! DEFINITION. The network ports, the seven checks of a received frame, PRP and the REPORT frame (R381 to R386,
R404, R405). Classes: 0 PTP, 1 LOOKOUT, 2 PARTNER, 3 SUPERVISION. -/

namespace Sys2Proof.Machine

/-! ## Addresses -/

def macPtp : Nat := 0x011B19000000
def macPtpPeer : Nat := 0x0180C200000E
def macSuperv : Nat := 0x01154E000100
/-- The group addresses of IPv4 224.0.1.129 and 224.0.0.107 on Ethernet (PRESUMED, log 34). -/
def macUdp : Nat := 0x01005E000181
def macUdpPeer : Nat := 0x01005E00006B
def ipPtp : Nat := 0xE0000181
def ipPtpPeer : Nat := 0xE000006B

def State.nodeMac (s : State) : Nat := s.mac Reg.PRP_NODE_MAC_LO Reg.PRP_NODE_MAC_HI

def State.udpEn (s : State) : Bool := s.bit Reg.PRP_PTP_TRANSPORT 0
def State.l2En (s : State) : Bool := s.bit Reg.PRP_PTP_TRANSPORT 1

/-! ## The checks of R382 -/

/-- Check 2: the VLAN tags. -/
def State.vlanOk (s : State) (f : NetFrame) : Bool :=
  if s.bit Reg.PRP_VLAN_CFG 16 then f.tags == [s.rdF Reg.PRP_VLAN_CFG 11 0] else f.tags.isEmpty || f.tags == [0]

/-- Check 3: the destination. -/
def State.addrOk (s : State) (f : NetFrame) : Bool :=
  f.dst == s.nodeMac || f.dst == macPtp || f.dst == macPtpPeer || f.dst == macSuperv ||
    (s.udpEn && (f.dst == macUdp || f.dst == macUdpPeer))

/-- Whether a frame has the form of a PTP frame from the source that is accepted. -/
def State.isPtp (s : State) (f : NetFrame) : Bool :=
  let l2 := s.l2En && f.etherType == 0x88F7 && (f.dst == macPtp || f.dst == macPtpPeer)
  let udp := s.udpEn && f.etherType == 0x0800 && match f.udp with
    | some (ip, port) => (port == 319 || port == 320) && (ip == ipPtp || ip == ipPtpPeer)
    | none => false
  let from_ := s.bit Reg.PRP_PTP_SRC_MAC_HI 16 || f.src == s.mac Reg.PRP_PTP_SRC_MAC_LO Reg.PRP_PTP_SRC_MAC_HI
  (l2 || udp) && from_

/-- Check 4: the class. -/
def State.frameClass (s : State) (f : NetFrame) : Option Nat :=
  let etype := s.rdF Reg.PAIR_LOOKOUT_MAC_HI 31 16
  if s.isPtp f then some 0
  else if f.etherType = etype ∧ f.src = s.mac Reg.PAIR_LOOKOUT_MAC_LO Reg.PAIR_LOOKOUT_MAC_HI then some 1
  else if f.etherType = etype ∧ f.src = s.mac Reg.PAIR_PARTNER_MAC_LO Reg.PAIR_PARTNER_MAC_HI then some 2
  else if f.etherType = 0x88FB ∧ f.dst = macSuperv then some 3
  else none

/-- A PTP frame of another domain or SDO, and a Management or Signaling message, are discarded (R383, R388). -/
def State.ptpForeign (s : State) (f : NetFrame) : Bool :=
  f.domain != s.rdF Reg.TIME_TIME_CFG 7 0 || f.sdo != s.rdF Reg.TIME_TIME_CFG 11 8 || f.ptpType == 12 || f.ptpType == 13

/-! ## PRP (R386) -/

/-- NODE_COUNT. -/
def State.setNodes (s : State) (l : List NetNode) : State :=
  (s.modNet (fun n => { n with nodes := l })).wr Reg.PRP_NODE_COUNT (l.length % 128)

/-- The entry of a source is refreshed at an instant, or made where there is room; a full table sets
NODE_TABLE_FULL. The sequence number, if any, is added. -/
def State.seeNode (s : State) (mac t : Nat) (seq : Option Nat) : State :=
  match s.net.nodes.find? (fun e => e.mac == mac) with
  | some _ => s.setNodes (s.net.nodes.map (fun e =>
      if e.mac = mac then { e with last := t, seqs := e.seqs ++ seq.toList } else e))
  | none =>
    if s.net.nodes.length < 64 then s.setNodes (s.net.nodes ++ [{ mac := mac, last := t, seqs := seq.toList }])
    else s.intSet Reg.pagePRP 10

/-- Check 5: whether the frame is the later copy of a pair. Both copies having come, the number is free for its
next use. -/
def State.prpCheck (s : State) (p : Nat) (f : NetFrame) (t : Nat) : State × Bool :=
  if !s.bit Reg.PRP_PRP_CFG 0 then (s, false)
  else match f.trailer with
    | none => (s, false)
    | some (lan, seq) =>
      let s := if lan = 0xA + p then s
        else (s.countF Reg.PRP_LAN_ERR (16 * p + 15) (16 * p)).intSet Reg.pagePRP 9
      match s.net.nodes.find? (fun e => e.mac == f.src) with
      | some e =>
        if e.seqs.contains seq then
          ((s.setNodes (s.net.nodes.map (fun x =>
            if x.mac = f.src then { x with last := t, seqs := x.seqs.filter (· != seq) } else x))).count
              Reg.PRP_DUP_DISCARD, true)
        else (s.seeNode f.src t (some seq), false)
      | none => (s.seeNode f.src t (some seq), false)

/-- ENTRY_FORGET: ENTRY_FORGET ms after the source's last frame. -/
def execEntryForget (mac t : Nat) (s : State) : Res :=
  let s := s.till t
  let old e := decide (msClk (s.rdF Reg.PRP_PRP_CFG 31 16) ≤ s.since (NetNode.last e))
  .next (s.setNodes (s.net.nodes.filter (fun e => !(e.mac == mac && old e))))

/-- SUPERVISION_FRAME: consumed by hardware; it keeps its source in the node table. -/
def execSupervisionFrame (_port : Fin 2) (mac t : Nat) (s : State) : Res :=
  let s := s.till t
  if s.bit Reg.PRP_PRP_CFG 0 then .next (s.seeNode mac s.frc none) else .next s

/-- LIFE_CHECK: a supervision frame on both LANs. -/
def execLifeCheck (s : State) : Res :=
  if s.bit Reg.PRP_PRP_CFG 0 && s.bit Reg.PRP_PRP_CFG 1 then .next (s.prpSend 0x88FB [s.nodeMac]) else .next s

/-! ## The policer (R384) -/

/-- Check 6: a token of the class. One token is 800,000,000 units, and RATE units return each clock. -/
def State.police (s : State) (c : Nat) : State × Bool :=
  let r := Reg.PRP_POLICE_PTP + 4 * c
  let rate := s.rdF r 15 0
  let burst := s.rdF r 23 16
  let (taken, from_) := smGet (fun _ => (0, 0)) s.net.police c
  let taken := taken - rate * (s.frc - from_)
  if rate ≠ 0 ∧ taken + 800000000 ≤ burst * 800000000 then
    (s.modNet (fun n => { n with police := smSet (fun _ => (0, 0)) n.police c (taken + 800000000, s.frc) }), true)
  else
    ((s.countF Reg.PRP_DROP_POLICE (8 * c + 7) (8 * c)).intSet Reg.pagePRP 8, false)

/-! ## A received frame -/

/-- Check 7: the class queue to firmware holds 64 frames. -/
def State.queueFrame (s : State) (p c : Nat) (f : NetFrame) : State :=
  let q := smGet (fun _ => []) s.net.queues c
  if 64 ≤ q.length then s.countF Reg.PRP_DROP_QUEUE (8 * c + 7) (8 * c)
  else s.modNet (fun n => { n with queues := smSet (fun _ => []) n.queues c (q ++ [(p, f)]) })

/-- Checks 5 to 7. What passes waits for firmware; SUPERVISION is consumed by hardware. -/
def State.takeFrame (s : State) (p c : Nat) (f : NetFrame) : State :=
  let (s, dup) := if c = 0 then (s, false) else s.prpCheck p f s.frc
  if dup then s
  else
    let (s, ok) := s.police c
    if !ok then s else if c = 3 then s else s.queueFrame p c f

/-- NETWORK_FRAME. -/
def execNetworkFrame (port : Fin 2) (f : NetFrame) (t : Nat) (s : State) : Res :=
  let p := port.val
  let s := (s.till t).count (Reg.NET_RX_FRAMES p)
  if !f.fcsOk || f.length < 64 || 1522 < f.length then .next (s.count (Reg.NET_DROP_FCS p))
  else if !s.vlanOk f then .next (s.count (Reg.NET_DROP_VLAN p))
  else if !s.addrOk f then .next (s.count (Reg.NET_DROP_ADDR p))
  else match s.frameClass f with
    | none => .next (s.count (Reg.NET_DROP_TYPE p))
    | some c =>
      if c = 0 ∧ s.ptpForeign f then .next (s.count Reg.TIME_PTP_DISCARD) else .next (s.takeFrame p c f)

/-! ## REPORT (R385) -/

/-- REPORT: its payload to REPORT_MAC, with its EtherType. -/
def execNetReport (s : State) : Res :=
  let mac := s.mac Reg.PRP_REPORT_MAC_LO Reg.PRP_REPORT_MAC_HI
  if mac = 0 then .next s
  else
    let bytes := leBytes 4 0x2001 ++ leBytes 4 (s.rd Reg.SYS_SERIAL_LO) ++ leBytes 4 (s.rd Reg.SYS_SERIAL_HI)
      ++ leBytes 4 (s.rd Reg.LINE_SPEED_ADVICE) ++ leBytes 4 (s.rd Reg.LINE_CURRENT_LINE) ++ leBytes 8 s.nowNs
      ++ leBytes 4 (s.rdF Reg.SYS_MODULE_STATE 7 0 + s.servoSt * 256)
    .next (s.prpSend (s.rdF Reg.PRP_REPORT_MAC_HI 31 16) (mac :: bytes.map (·.toNat)))

/-! ## Links and cages (R381, R404) -/

/-- A port's link goes down. -/
def State.netDown (s : State) (p : Nat) : State :=
  if !s.bit (Reg.NET_PORT_STATUS p) 0 then s
  else
    let s := ((s.wrB (Reg.NET_PORT_STATUS p) 0 false).setStCode (Reg.pageNET p) 0).ready (Reg.pageNET p) false
    (s.intSet (Reg.pageNET p) 9).count (Reg.NET_LINK_DOWN_COUNT p)

/-- TX_Disable of a cage, and its RS0 and RS1 (R519): pins 0x30 and 0x31, two for each port. -/
def State.sfpPins (s : State) (p : Nat) : State :=
  let cfg := Reg.NET_PORT_CFG p
  (s.emit (.pin (0x30 + 2 * p) (b2n (s.bit cfg 2)))).emit (.pin (0x31 + 2 * p) (b2n (!s.bit cfg 0)))

/-- NETWORK_LINK_CHANGE: speed 0 is 10GBASE-R, 1 is 1000BASE-X. A link comes up only at the speed that PORT_CFG.SPEED
selects. -/
def execNetworkLinkChange (port : Fin 2) (up : Bool) (speed : Nat) (s : State) : Res :=
  let p := port.val
  let x := speed % 2
  if !up then .next (s.netDown p)
  else if x ≠ s.rdF (Reg.NET_PORT_CFG p) 0 0 then .next s
  else
    let s := ((s.wrB (Reg.NET_PORT_STATUS p) 0 true).wrB (Reg.NET_PORT_STATUS p) 4 (x == 1)).wr (Reg.NET_INT_LAT p)
      (if x = 1 then 0x08700460 else 0x01E00150)
    .next (((s.setStCode (Reg.pageNET p) 1).ready (Reg.pageNET p) true).intSet (Reg.pageNET p) 8)

/-- SFP_CHANGE: a change of the cage's pins. -/
def execSfpChange (port : Fin 2) (present los txFault : Bool) (s : State) : Res :=
  let p := port.val
  let v := putFld (s.rd (Reg.NET_PORT_STATUS p)) 3 1 (b2n present + b2n los * 2 + b2n txFault * 4)
  if v = s.rd (Reg.NET_PORT_STATUS p) then .next s
  else .next ((s.wr (Reg.NET_PORT_STATUS p) v).intSet (Reg.pageNET p) 10)

end Sys2Proof.Machine
end

