-- ==== Sys2Proof/Machine/Peer.lean ====
section
/-! DEFINITION. The peer ports (R338 to R342, R376, R377): lock, HELLO, width, the repetition of frames and the time
transfer, and what a port's coming and going means to the ring (R367, R371). Port states: 0 DOWN, 1 LOCK,
2 DESKEW, 3 HELLO, 4 UP, 5 RENEG; ports: 0 W, 1 E, 2 P. -/

namespace Sys2Proof.Machine

/-- Enter a port state; READY while traffic is carried. -/
def State.setPeerSt (s : State) (p st : Nat) : State :=
  (s.setStCode (Reg.pagePEER p) st).ready (Reg.pagePEER p) (st == 4 || st == 5)

def State.modPair (s : State) (f : PairUnit → PairUnit) : State := { s with pair := f s.pair }
def State.modRing (s : State) (f : RingUnit → RingUnit) : State := { s with ring := f s.ring }

def State.ringSt (s : State) : Nat := s.stCode Reg.pageRING

/-! ## Block lock (R338, R339) -/

def State.peerLock (s : State) (p : Nat) : Nat := s.rdF (Reg.PEER_PORT_STATUS p) 3 0

/-- Invalid headers received on a locked lane (R195, R376). -/
def State.peerHeaderErrs (s : State) (p errs : Nat) : State :=
  s.wr (Reg.PEER_HEADER_ERR_COUNT p) (satAdd 32 (s.rd (Reg.PEER_HEADER_ERR_COUNT p)) errs)

/-- A lane gains block lock, or holds it; a port that hunts awaits ALIGN. A port that is not enabled stays DOWN. -/
def State.peerLockGained (s : State) (p lane : Nat) (blocks : List (Nat × Nat)) : State :=
  if !s.bit (Reg.CTRL (Reg.pagePEER p)) 0 then s
  else
    let s := (s.wrB (Reg.PEER_PORT_STATUS p) lane true).peerHeaderErrs p (blocks.filter (fun b => !headerOk b.1)).length
    if s.peerSt p ≤ 1 then (s.setPeerPort p { s.peerPort p with aligned := 0 }).setPeerSt p 2 else s

/-- A lane loses block lock, with the invalid headers that have not been counted yet (R195, R376; log 98). -/
def State.peerLockLost (s : State) (p lane errs : Nat) : State :=
  if !s.bit (Reg.PEER_PORT_STATUS p) lane then s
  else ((s.peerHeaderErrs p errs).wrB (Reg.PEER_PORT_STATUS p) lane false).count (Reg.PEER_LOCK_LOSS_COUNT p)

/-- HEADER_ERROR_WINDOW: the invalid headers of a 1.0 s window, on a head lane, a camera lane or a peer lane that is locked
(R195, R198, R273, R376). -/
def execHeaderErrorWindow (rx : Rx) (errs : Nat) (s : State) : Res :=
  match rx with
  | .head c => .next (s.headWindow c.val errs)
  | .cam p lane => .next (if (s.camPort p.val).locked.contains lane.val then s.linkErrs p.val errs else s)
  | .peer p lane => .next (if s.bit (Reg.PEER_PORT_STATUS p.val) lane.val then s.peerHeaderErrs p.val errs else s)

/-- BLOCK_LOCK_GAINED and BLOCK_LOCK_LOST (R195), on a head lane, a camera lane or a peer lane. -/
def execBlockLockGained (rx : Rx) (blocks : List (Nat × Nat)) (s : State) : Res :=
  match rx with
  | .head c => .next (s.headLockGained c.val blocks)
  | .cam p lane => .next (s.camLockGained p.val lane.val blocks)
  | .peer p lane => .next (s.peerLockGained p.val lane.val blocks)
def execBlockLockLost (rx : Rx) (errs t : Nat) (s : State) : Res :=
  let s := s.till t
  match rx with
  | .head c => .next (s.headLockLost c.val errs)
  | .cam p lane => .next (s.camLockLost p.val lane.val errs)
  | .peer p lane => .next (s.peerLockLost p.val lane.val errs)

/-! ## ALIGN and HELLO (R243, R338, R339) -/

/-- The module's own HELLO: serial number, MODE with ROOT, port, ring address, and the major protocol version of its Crew
image (R468). -/
def State.sendPeerHello (s : State) (p : Nat) : State :=
  s.emit (.peerBlock p 0x01 [s.rd64 Reg.SYS_SERIAL_LO Reg.SYS_SERIAL_HI, s.mode + b2n s.isRoot * 16, p,
    s.rdF Reg.RING_RING_STATUS 11 0, s.mgmt.runProto])

/-- ALIGN on a peer port in DESKEW: the second set in a row within 16 slots gives lane order and polarity as in R243, and
the port exchanges HELLO. REVERSED shows physical lanes 0 to 3 as logical 3 to 0. -/
def State.peerAlign (s : State) (p : Nat) (blocks : List (Nat × Nat)) (skew : Nat) : State :=
  if s.peerSt p ≠ 2 then s
  else
    let (n, map, inverted) := match readAlignSet blocks with
      | none => (0, 0, 0)
      | some (map, inverted) => (if skew > 16 then 0 else (s.peerPort p).aligned + 1, map, inverted)
    let s := s.setPeerPort p { s.peerPort p with aligned := n }
    if n < 2 then s
    else
      let k := Reg.PEER_PORT_STATUS p
      ((((s.wrF k 15 8 map).wrF k 7 4 inverted).wrB k 18 (map % 256 == 0x1B)).setPeerSt p 3).sendPeerHello p

/-- ALIGN, on a camera port or a peer port: the blocks of one slot on the physical lanes 0 to 3, with their headers, and
the skew. -/
def execAlignSet (port : AlignPort) (blocks : List (Nat × Nat)) (skew : Nat) (s : State) : Res :=
  match port with
  | .cam p => .next (s.camAlign p.val blocks skew)
  | .peer p => .next (s.peerAlign p.val blocks skew)

/-! ## Frames that wait for their acknowledgement (R340) -/

/-- Send the unacknowledged frames of a class: each repeat counts, the first sending of one that has waited does not. -/
def State.resend (s : State) (p cls : Nat) : State :=
  let x := s.peerPort p
  let s := s.setPeerPort p { x with waiting := x.waiting.filter (fun w => w.1 != cls) }
  (x.unacked.filter (fun f => f.1 == cls)).foldl (fun s f =>
    let s := s.emit (.peer p f.1 f.2.1 f.2.2.1 f.2.2.2)
    if x.waiting.contains (f.1, f.2.1) then s else s.count (Reg.PEER_FRAME_RETX p)) s

/-- FRAME_RETX: frames stop during RENEG and while the port is not up. -/
def execFrameRetx (p : Fin 3) (cls : Fin 4) (s : State) : Res :=
  if s.peerSt p.val = 4 then .next (s.resend p.val cls.val) else .next s

/-- The frames of every data class in strict priority, once a width is in force. -/
def State.resendAll (s : State) (p : Nat) : State := ((s.resend p 1).resend p 2).resend p 3

/-- Cumulative acknowledgement of a class. -/
def State.acked (s : State) (p cls n : Nat) : State :=
  let x := s.peerPort p
  s.setPeerPort p { x with
    unacked := x.unacked.filter (fun f => !(f.1 == cls && decide (sdiff 16 f.2.1 n ≤ 0))) }

/-! ## Width (R341) -/

/-- The widest form that n locked lanes and WIDTH_MAX allow: 0 x4, 1 x2, 2 x1, 3 none. -/
def State.widthOf (s : State) (p n : Nat) : Nat :=
  let m := min 2 (s.rdF (Reg.PEER_PORT_CFG p) 1 0)
  if n = 0 then 3 else max m (if n ≥ 4 then 0 else if n ≥ 2 then 1 else 2)

def State.width (s : State) (p : Nat) : Nat := s.rdF (Reg.PEER_PORT_STATUS p) 17 16
def State.setWidth (s : State) (p w : Nat) : State := s.wrF (Reg.PEER_PORT_STATUS p) 17 16 w

/-- The lanes that carry traffic, in the order of their logical numbers. -/
def State.peerLanes (s : State) (p : Nat) : List Nat :=
  (List.range (4 / 2 ^ s.width p)).filterMap (fun j =>
    (List.range 4).find? (fun l => s.rdF (Reg.PEER_PORT_STATUS p) (9 + 2 * l) (8 + 2 * l) == j))

/-- LANE_MAP with these lanes as logical 0 and upward, and the others after them. -/
def laneMap (best : List Nat) : Nat :=
  ((best ++ (List.range 4).filter (fun l => !best.contains l)).zipIdx).foldl (fun m p => m + p.2 * 4 ^ p.1) 0

/-- Widen to what the lanes that carry traffic and those that have held lock and ALIGN for 100 ms, `lanes`, allow:
these follow those in logical number. -/
def State.widen (s : State) (p lanes : Nat) : State :=
  let k := Reg.PEER_PORT_STATUS p
  let s := s.wrF k 3 0 ((s.peerLock p ||| lanes) % 16)
  let used := s.peerLanes p
  let held := used ++ (bitsOf 4 lanes).filter (fun l => !used.contains l)
  let w := s.widthOf p held.length
  if s.peerSt p = 4 ∧ w < s.width p then
    (((s.wrF k 15 8 (laneMap held)).setWidth p w).count (Reg.PEER_RENEG_COUNT p)).intSet (Reg.pagePEER p) 11
  else s

/-- BG_RETRAIN: `lanes` have held lock and ALIGN for 100 ms. -/
def execBgRetrain (p : Fin 3) (lanes : Nat) (s : State) : Res :=
  if s.bit (Reg.PEER_PORT_CFG p.val) 8 && s.peerSt p.val == 4 then .next (s.widen p.val lanes) else .next s

/-- PORT_CTRL.WIDEN_NOW. -/
def execWidenNow (src : Req) (p : Fin 3) (lanes : Nat) (s : State) : Res :=
  if s.cutOff src then .next s else
  if s.peerSt p.val = 4 then .next (s.widen p.val lanes) else .next s

/-! ## The ring's links (R368, R371) -/

def State.setRingSt (s : State) (st : Nat) : State := (s.setStCode Reg.pageRING st).ready Reg.pageRING (st == 6 || st == 7)

/-- The root sends its closure probe east. -/
def State.sendProbe (s : State) : State :=
  (s.setRingSt 3).sendTime 1 0x06 [s.rd64 Reg.SYS_SERIAL_LO Reg.SYS_SERIAL_HI]

/-- Both ring links are up before the ring is. -/
def State.ringLinksUp (s : State) : State :=
  if !s.ringMode || s.ringSt != 1 || !s.peerUp 0 || !s.peerUp 1 then s
  else if s.isRoot then s.sendProbe else s.setRingSt 2

/-- A ring link goes down: UP becomes CHAIN, and BROKEN; before UP the links are awaited again. -/
def State.ringLinkDown (s : State) : State :=
  if !s.ringMode then s
  else if s.ringSt = 6 then ((s.modRing (fun u => { u with chain := true })).setRingSt 7).intSet Reg.pageRING 9
  else if 2 ≤ s.ringSt ∧ s.ringSt ≤ 5 then s.setRingSt 1
  else s

/-! ## Up and down -/

/-- A port goes down, to state `st`: DOWN, or LOCK where it is retrained. -/
def State.peerDown (s : State) (p st : Nat) : State :=
  let was := s.peerUp p
  let k := Reg.PEER_PORT_STATUS p
  let s := ((s.wrF k 3 0 0).setWidth p 3).wrB k 19 false
  let s := s.setPeerSt p st
  if !was then s
  else
    let s := s.intSet (Reg.pagePEER p) 9
    if p = 2 then s else s.ringLinkDown

/-- PEER_PORT_DOWN. -/
def execPeerPortDown (p : Fin 3) (s : State) : Res := .next (s.peerDown p.val 0)

/-- PORT_CTRL.RETRAIN: the whole port from LOCK; a disabled port stays DOWN (R339). -/
def State.portRetrain (s : State) (p : Nat) : State :=
  if s.bit (Reg.CTRL (Reg.pagePEER p)) 0 then s.peerDown p 1 else s
def execPortRetrain (src : Req) (p : Fin 3) (s : State) : Res :=
  if s.cutOff src then .next s else
  .next (s.portRetrain p.val)

/-- The n locked lanes with the fewest invalid headers; the lower number where these are equal (log 90). -/
def bestLanes (locked : List Nat) (errs : List Nat) (n : Nat) : List Nat :=
  let before a b := decide (errs.getD a 0 < errs.getD b 0) || errs.getD a 0 == errs.getD b 0 && decide (a < b)
  locked.filter (fun b => decide ((locked.filter (fun a => before a b)).length < n))

/-- A lane that carries traffic is out of lock: RENEG, in which only TIME-class blocks go on. -/
def State.narrowing (s : State) (p lanes : Nat) : State :=
  if s.peerSt p ≠ 4 ∨ (s.peerLanes p).all (bitOf lanes) then s
  else if lanes % 16 = 0 then s.peerDown p 0
  else (s.wrF (Reg.PEER_PORT_STATUS p) 3 0 lanes).setPeerSt p 5

/-- The new width is in force: two lanes, or one, and never wider than before. The frames of the data classes are
repeated. A width that stays is no change of it (log 90). -/
def State.narrowDone (s : State) (p lanes : Nat) (errs : List Nat) : State :=
  let locked := bitsOf 4 lanes
  if s.peerSt p ≠ 5 then s
  else if locked.isEmpty then s.peerDown p 0
  else
    let w := max (s.width p) (if locked.length ≥ 2 then 1 else 2)
    let was := s.width p
    let k := Reg.PEER_PORT_STATUS p
    let s := (s.wrF k 3 0 lanes).wrF k 15 8 (laneMap (bestLanes locked errs (4 / 2 ^ w)))
    let s := (s.setWidth p w).setPeerSt p 4
    let s := if w = was then s else (s.count (Reg.PEER_RENEG_COUNT p)).intSet (Reg.pagePEER p) 10
    s.resendAll p

/-- NARROWED. -/
def execNarrowed (p : Fin 3) (lanes : Nat) (errs : List Nat) (done : Bool) (s : State) : Res :=
  .next (if done then s.narrowDone p.val lanes errs else s.narrowing p.val lanes)

/-- Whether two ports may be joined: W to E, and P to P (R338). -/
def portsMatch (own other : Nat) : Bool :=
  (own == 0 && other == 1) || (own == 1 && other == 0) || (own == 2 && other == 2)

/-- This module stops acting as root. -/
def State.standDown (s : State) : State :=
  ((s.wrB Reg.RING_RING_STATUS 12 false).intSet Reg.pageRING 12).setRingSt (if s.ringSt < 2 then s.ringSt else 2)

/-- Another root: the one with the lower serial number stays root (R367). -/
def State.otherRoot (s : State) (serial : Nat) : State :=
  if s.isRoot && decide (serial < s.rd64 Reg.SYS_SERIAL_LO Reg.SYS_SERIAL_HI) then s.standDown else s

/-- Two roots meet as neighbours. -/
def State.meetRoot (s : State) (p serial : Nat) (root : Bool) : State :=
  if p = 2 || !root || !s.ringMode then s else s.otherRoot serial

/-- The questions about slots in doubt (R348). -/
def State.askDoubt (s : State) : State :=
  s.pair.inDoubt.foldl (fun s n => s.toPartner 1 0x14 [n]) s

/-- PEER_HELLO: `mode` is the neighbour's MODE with its ROOT in bit 4, in the layout of SYS.CONFIG; `proto` the
major version of its Crew image. It is taken in HELLO, after deskew. -/
def execPeerHello (p : Fin 3) (serial mode portId addr proto t : Nat) (s : State) : Res :=
  let p := p.val
  let s := s.till t
  if s.peerSt p ≠ 3 then .next s
  else
    let s := s.wr64 (Reg.PEER_PARTNER_SERIAL_LO p) (Reg.PEER_PARTNER_SERIAL_HI p) (serial % 2 ^ 64)
    let s := s.wr (Reg.PEER_PARTNER_INFO p) ((mode &&& 0x13) + addr % 4096 * 256 + portId % 4 * 2 ^ 24)
    if !portsMatch p portId then
      .next ((s.wrB (Reg.PEER_PORT_STATUS p) 19 true).intSet (Reg.pagePEER p) 9)
    else
      let s := s.setWidth p (s.widthOf p (bitsOf 4 (s.peerLock p)).length)
      let s := ((s.setPeerSt p 4).intSet (Reg.pagePEER p) 8).resendAll p
      if p = 2 then .next (s.wrB Reg.FW_FW_STATUS 4 (s.pairMode && proto != s.mgmt.runProto)).askDoubt
      else .next (s.meetRoot p serial (bitOf mode 4)).ringLinksUp

/-! ## Time transfer (R342, R369) -/

/-- The port on the shorter path to the root, in a chain the one on which ENUM came; the other where that one is down. -/
def State.rootPort (s : State) : Nat :=
  let a := s.rdF Reg.RING_RING_STATUS 11 0
  let n := s.rdF Reg.RING_NODE_COUNT 12 0
  let w := if s.ring.chain then s.ring.fromW else decide (2 * (a - 1) ≤ n)
  let q := if w then 0 else 1
  if s.peerUp q then q else 1 - q

/-- Ring time has converged: the ring is UP or a CHAIN, and the head lanes start (R373). -/
def State.ringConverged (s : State) : State :=
  if s.ringSt = 5 then (if s.ring.chain then s.setRingSt 7 else (s.setRingSt 6).intSet Reg.pageRING 8).startLanes
  else if s.ringSt = 7 then s.startLanes
  else s

/-- Discipline ring time to a neighbour whose ring time at FRC value t of this module is `r`. -/
def State.disciplineRing (s : State) (r t : Nat) : State :=
  let d := match s.ring.base with
    | some _ => (sdiff 80 r (s.ringTime t)).fdiv 65536
    | none => 0
  let s := (s.modRing (fun u => { u with base := some (t, r) })).wr Reg.RING_TIME_OFFSET (satSgn 32 d)
  s.ringConverged

/-- TIME_TRANSFER: sent at t1 and received back at t4, on this module's FRC; received at t2 and sent back at t3,
on the neighbour's; `ring` is the neighbour's ring time at t3, in 2^-16 ns. -/
def execTimeTransfer (p : Fin 3) (t1 t2 t3 t4 ring : Nat) (s : State) : Res :=
  let p := p.val
  let s := s.till t4
  if !s.peerUp p then .next s
  else
    let trip := sdiff 64 t4 t1 - sdiff 64 t3 t2
    let s := s.wr (Reg.PEER_LINK_DELAY p) (unsgn 24 ((trip * 1250).fdiv 2))
    let s := s.setPeerPort p { s.peerPort p with offset := some ((sdiff 64 t2 t1 + sdiff 64 t3 t4).fdiv 2) }
    if p ≠ 2 ∧ s.ringMode ∧ !s.isRoot ∧ s.rdF Reg.RING_RING_STATUS 11 0 ≠ 0 ∧ p = s.rootPort then
      .next (s.disciplineRing (unsgn 80 ((ring : Int) + (trip * 81920).fdiv 2)) t4)
    else .next s

end Sys2Proof.Machine
end

