-- ==== Sys2Proof/Machine/Mirror.lean ====
section
/-! DEFINITION. Mirrored state (R345) and what the leader sends of it: a register, a page's arm, the contents of a
table, and everything at SYNC (R49, R346, R364, R365). -/

namespace Sys2Proof.Machine

/-- The domain of a page (R34). -/
def domainOf (page : Nat) : Nat := ((pageAt page).map (fun p => p.1.domain)).getD 0

/-- The bits of the register at an offset of a page type that are mirrored. -/
def mirrorBits : PageType → Nat → Nat
  | .job, o =>
    if o = 0x040 ∨ o = 0x044 ∨ o = 0x048 ∨ o = 0x070 ∨ o = 0x090 ∨ o = 0x094 ∨ (0x100 ≤ o ∧ o < 0x180) then 0xFFFFFFFF
    else if 0x0C0 ≤ o ∧ o < 0x0E0 then 0x00003F01 else 0
  | .line, o => if o = 0x044 ∨ o = 0x048 ∨ o = 0x04C ∨ o = 0x050 ∨ o = 0x05C then 0xFFFFFFFF else 0
  | .enc, o => if o = 0x040 ∨ o = 0x04C ∨ o = 0x050 ∨ o = 0x06C then 0xFFFFFFFF else 0
  | .ch, o => if o = 0x100 ∨ o = 0x104 ∨ o = 0x108 ∨ o = 0x0C0 then 0xFFFFFFFF else 0
  | .plane, o => if o = 0x040 ∨ o = 0x044 ∨ o = 0x048 then 0xFFFFFFFF else 0
  | .scaler, o => if o = 0x040 then 0x0000FF03 else if 0x044 ≤ o ∧ o ≤ 0x05C then 0xFFFFFFFF else 0
  | .ring, o => if o = 0x040 then 1 else if o = 0x044 then 0xFFFFFFFF else 0
  | _, _ => 0

/-- The same for a register key. -/
def mirrorMask (k : Nat) : Nat :=
  match pageAt (k / 0x1000) with
  | some (p, _) => mirrorBits p (k % 0x1000)
  | none => 0

/-- The pages that hold mirrored registers, and those registers. -/
def mirrorPages : List Nat :=
  [Reg.pageLINE, Reg.pageENC, Reg.pageJOB, Reg.pageSCALER, Reg.pageRING] ++ planes.map Reg.pagePLANE
    ++ channels.map Reg.pageCH
def mirrorKeys : List Nat :=
  mirrorPages.flatMap (fun page => ((List.range 1008).map (fun i => page * 0x1000 + 0x040 + 4 * i)).filter
    (fun k => mirrorMask k != 0))

/-- What a mirrored register holds for the partner: its shadow, where it has one. -/
def State.mirrored (s : State) (k : Nat) : Nat :=
  (if (rwsKeys (k / 0x1000)).contains k then s.shadowOf k else s.rd k) &&& mirrorMask k

/-! ## Tables -/

/-- Forward table contents: kind 0x02 into TARGET, kind 0x03 into ACTIVE (0x05 for a register). -/
def State.sendPart (s : State) (kind t : Nat) (part : Nat × List Nat) : State :=
  s.toPartner 2 kind (t :: part.1 :: part.2)

/-- The TARGET regions that a slot names are forwarded again (R346). -/
def State.sendRegions (s : State) (n : Nat) : State :=
  let a := s.slotAction n
  (s.slotTargets n).foldl (fun s x =>
    if a = 1 then s.sendPart 0x02 0 (s.scr.target.part 0 x)
    else if a = 2 then s.sendPart 0x02 1 (s.scr.target.part 1 x)
    else if a = 3 then s.sendPart 0x02 2 (s.scr.target.part 2 x)
    else if a = 6 then s.sendPart 0x02 3 (s.scr.target.part 3 x)
    else (actionKeys a x).foldl (fun s k => s.toPartner 1 0x01 [k, s.shadowOf k]) s) s

/-- The ACTIVE contents of a channel, or of plane p as 128 + p (R365). -/
def State.sendActive (s : State) (x : Nat) : State :=
  if x < 128 then
    let s := ([0, 1, 2] : List Nat).foldl (fun s t => s.sendPart 0x03 t (s.scr.active.part t x)) s
    (rwsKeys (Reg.pageCH x)).foldl (fun s k => s.toPartner 2 0x05 [k, s.rd k]) s
  else
    let s := (s.sendPart 0x03 3 (s.scr.active.part 3 (x - 128))).sendPart 0x03 4 (s.thrPart (x - 128))
    (rwsKeys (Reg.pagePLANE (x - 128))).foldl (fun s k => s.toPartner 2 0x05 [k, s.rd k]) s

/-- Everything that the leader sends at SYNC: the mirrored items, the run, and the ACTIVE tables for the
follower's TARGET apertures. -/
def State.sendAll (s : State) : State :=
  let s := mirrorKeys.foldl (fun s k => s.toPartner 1 0x01 [k, s.mirrored k]) s
  let s := s.toPartner 1 0x41 [s.line.startLine, s.line.runNum]
  let s := channels.foldl (fun s c =>
    ([0, 1, 2] : List Nat).foldl (fun s t => s.sendPart 0x02 t (s.scr.active.part t c)) s) s
  planes.foldl (fun s p => (s.sendPart 0x02 3 (s.scr.active.part 3 p)).sendPart 0x02 4 (s.thrPart p)) s

/-- Write a part received: consecutive entries from a key. -/
def State.takePart (s : State) (active : Bool) (t lo : Nat) (vs : List Nat) : State :=
  let put s k v := if active then State.putBoth s t k v else State.putTable s t k v
  (vs.zipIdx).foldl (fun s p => put s (lo + p.2) p.1) s

/-! ## Arms of line-domain pages (R49) -/

/-- The arm of a page goes to the follower. -/
def State.forwardArm (s : State) (page : Nat) : State :=
  (s.toPartner 1 0x02 [page, s.rd (Reg.ARM_TARGET page)]).applyIdle

/-- A target that has passed in a pair: LATE, REFUSED with LATE_REFUSED, and the page armed again at A plus the
guard, to apply only after the partner's acknowledgement. -/
def State.rearm (s : State) (page source : Nat) : State :=
  let k := Reg.SHADOW_CTRL page
  let s := ((s.wrB k 2 true).wrB k 3 true).error page 0x000A (if source = 0 then 0 else 0x024) source
  let s := (s.intSet page 2).intSet page 3
  let s := (s.wr (Reg.ARM_TARGET page) (ladd s.nextLine s.guard)).modPair (fun p => { p with
    armWait := p.armWait.filter (· != page) ++ [page] })
  s.forwardArm page

end Sys2Proof.Machine
end

