-- ==== Sys2Proof/Machine/Pair.lean ====
section
/-! DEFINITION. The redundant pair: roles and conditions, heartbeats, partner loss, the Lookout and the lease
(R343, R352 to R361). Conditions: 1 JOIN, 2 SYNC, 3 PAIRED, 4 DEGRADED, 5 CONTEST, 6 ALONE, 7 SAFE; roles:
0 NONE, 1 LEADER, 2 FOLLOWER. -/

namespace Sys2Proof.Machine

/-! ## Roles and conditions -/

/-- In ALONE, and in JOIN with the role LEADER, no partner takes part: the slots that this module has armed and that wait for the partner are ARMED (R103).
A slot that it acknowledged as follower is left (R346; log 91). -/
def State.armAlone (s : State) : State :=
  (List.range 32).foldl (fun s n => if s.slotSt n = 7 && !(s.slot n).acked then s.slotAlone n else s) s

/-- A change of CONDITION; the pair being formed releases the lanes that R354 holds. In PAIRED and ALONE the retrains that
are deferred outside a run are tried again (R199, R351). -/
def State.setCond (s : State) (c : Nat) : State :=
  if s.rdF Reg.PAIR_PAIR_STATUS 2 0 = c then s
  else
    let s := ((s.wrF Reg.PAIR_PAIR_STATUS 2 0 c).setStCode Reg.pagePAIR c).intSet Reg.pagePAIR 9
    let s := if c = 3 then (s.modPair (fun p => { p with apart := false })).releaseHeld
      else if s.actsAlone then s.armAlone else s
    if (c == 3 || c == 6) && !s.printing then s.releaseRetrains else s

/-- A change of ROLE. TICK_SKEW is 0 on the leader. -/
def State.setRole (s : State) (r : Nat) : State :=
  if s.rdF Reg.PAIR_PAIR_STATUS 5 4 = r then s
  else
    let s := (s.wrF Reg.PAIR_PAIR_STATUS 5 4 r).intSet Reg.pagePAIR 8
    let s := if r = 1 then s.wr Reg.PAIR_TICK_SKEW 0 else s
    s.tally 0x0061 0x6B 0 1 (r + s.rd Reg.PAIR_EPOCH % 2 ^ 24 * 256)

def State.leaseValid (s : State) : Bool := s.bit Reg.PAIR_PAIR_STATUS 8
def State.peerPath (s : State) : Bool := s.bit Reg.PAIR_PAIR_STATUS 9
def State.netPath (s : State) : Bool := s.bit Reg.PAIR_PAIR_STATUS 10
def State.partnerSilent (s : State) : Bool := s.bit Reg.PAIR_PAIR_STATUS 11
def State.wired (s : State) : Bool := s.bit Reg.PAIR_PAIR_CFG 1

/-- End whatever run there is. -/
def State.stopRun (s : State) : State := if s.runSt = 0 then s else s.endRun

/-- This module stands down or retires: HALT on every ACTIVE lane, SAFE. -/
def State.pairSafe (s : State) (cause : Nat) : State :=
  ((s.enterSafe cause).stopRun).setCond 7

/-! ## Messages to the Lookout (R355) -/

/-- Send a message of a TYPE to the Lookout. -/
def State.toLookout (s : State) (type reason : Nat) : State :=
  s.sendMessage Reg.PAIR_LOOKOUT_MAC_LO Reg.PAIR_LOOKOUT_MAC_HI type reason 0 []

/-- CLAIM: 0 LOSS, 1 FORMATION, 2 HANDOVER, 3 CONTEST. -/
def State.claim (s : State) (reason : Nat) : State :=
  if s.wired then s
  else
    let s := (s.toLookout 0x01 reason).countF Reg.PAIR_LOOKOUT_COUNT 31 16
    (s.wr Reg.PAIR_GRANT_WAIT 0xFFFF).modPair (fun p => { p with
      asked := some s.frc, claiming := true, reason := reason })

/-- RENEW. -/
def State.renew (s : State) : State :=
  if s.wired then s
  else (s.toLookout 0x04 0).modPair (fun p => { p with asked := some s.frc, claiming := false })

/-- RELEASE, and the lease it ends. In WIRED mode there is none to send, and the lease follows the inputs alone (R360). -/
def State.release (s : State) : State :=
  if s.wired then s
  else ((s.wrB Reg.PAIR_PAIR_STATUS 8 false).modPair (fun p => { p with leaseEnd := none })).toLookout 0x05 0

/-! ## Contest and loss (R353, R361) -/

/-- What a module without the lease does where a Lookout would deny it with FOLLOW (R359, R360). -/
def State.denyFollow (s : State) : State :=
  let s := s.setRole 2
  if s.cond = 1 then s else s.setCond 4

/-- LEADER with a lease: ALONE where the partner is lost and shown not to print, else DEGRADED (R359). In JOIN,
PAIRED, SYNC and ALONE the condition stands. -/
def State.takeLead (s : State) (partnerDown : Bool) : State :=
  let s := s.setRole 1
  if s.cond = 5 ∨ s.cond = 4 then
    if s.pair.lost && (partnerDown || !s.printing || s.partnerSilent) then s.setCond 6 else s.setCond 4
  else s

/-- What a contest or a lost partner comes to in WIRED mode: the lease leads, and its want is a DENY with FOLLOW. -/
def State.wiredSettles (s : State) : State := if s.leaseValid then s.takeLead false else s.denyFollow

/-- CONTEST, frozen: the Lookout is asked, or the wired grant settles it. -/
def State.contest (s : State) : State :=
  if s.cond = 5 then s
  else
    let s := s.setCond 5
    if s.wired then s.wiredSettles else s.claim 3

/-- Partner loss is declared. The frames of PEER_P that wait are given up (log 37). -/
def State.partnerLost (s : State) : State :=
  let s := s.releaseLocks .peer
  let s := (s.modPair (fun p => { p with lost := true, apart := true, synced := false, armWait := [] })).setPeerPort 2
    { s.peerPort 2 with txSeq := [], rxSeq := [], unacked := [], waiting := [] }
  let s := ((s.intSet Reg.pagePAIR 10).tally 0x0060 0x6B 0 3 0).setCond 5
  if s.wired then s.wiredSettles else s.claim 0

/-- The paths as they stand (R352, R353): one failed is DEGRADED, both are a partner loss, both good end a
DEGRADED that no loss caused. -/
def State.judgePaths (s : State) : State :=
  let c := s.cond
  if c = 0 ∨ c = 1 ∨ c = 7 then s
  else if !s.peerPath && !s.netPath then
    if s.pair.lost || c = 6 then s else s.partnerLost
  else if s.peerPath && s.netPath then
    if c = 4 ∧ !s.pair.lost ∧ s.role ≠ 0 ∧ s.pair.partnerRole ≠ 0 ∧ s.role ≠ s.pair.partnerRole then
      s.setCond (if s.pair.synced then 3 else 1)
    else s
  else if c = 2 ∨ c = 3 then s.setCond 4
  else s

/-- A path fails, or recovers. -/
def State.setPath (s : State) (net good : Bool) : State :=
  let i := if net then 10 else 9
  if s.bit Reg.PAIR_PAIR_STATUS i == good then s else (s.wrB Reg.PAIR_PAIR_STATUS i good).judgePaths

/-! ## SYNC on the leader (R346, R364, R145) -/

/-- SYNC begins once no slot is RAMPING or SYNC. -/
def State.slotsQuiet (s : State) : Bool := (List.range 32).all (fun n => s.slotSt n != 2 && s.slotSt n != 3)

/-- A slot or a line-domain page that was armed with no partner waits from SYNC on, as one armed in SYNC does (R49, R103). -/
def State.holdArms (s : State) : State :=
  let pages := mirrorPages.filter (fun p =>
    domainOf p == 1 && s.bit (Reg.SHADOW_CTRL p) 1 && !s.pair.armWait.contains p)
  let s := s.modPair (fun p => { p with armWait := p.armWait ++ pages })
  (List.range 32).foldl (fun s n => if s.slotSt n = 1 then s.setSlotSt n 7 else s) s

/-- The leader's entry to SYNC: everything is forwarded. -/
def State.leaderSync (s : State) : State :=
  let s := ((s.modPair (fun p => { p with lost := false, partnerGone := false })).setCond 2).holdArms
  s.resendDigests.tellLanes.sendAll

/-- The end of SYNC on the leader: the slots and page arms that have waited are forwarded. -/
def State.leaderSynced (s : State) : State :=
  let s := (s.modPair (fun p => { p with synced := true })).setCond 3
  let pages := s.pair.armWait
  let s := s.modPair (fun p => { p with armWait := [] })
  let s := pages.foldl (fun s page =>
    if ldiff (s.rd (Reg.ARM_TARGET page)) s.nextLine < 0 then s.rearm page 0 else s.forwardArm page) s
  (List.range 32).foldl (fun s n =>
    if s.slotSt n ≠ 7 then s
    else if ldiff (s.slotTarget n) s.nextLine < 0 then s.reschedule n 0 else s.sendSlot n) s

/-- A follower waits to be taken into SYNC: it is in SYNC, or in JOIN with PEER_P up and both paths good (R346, R364). -/
def State.followerWaits (s : State) (cond : Nat) : Bool :=
  cond == 2 || cond == 1 && s.pair.partnerRole == 2 && s.peerUp 2 && s.peerPath && s.netPath

/-- What the partner's condition asks of the leader: SYNC begins once no slot is RAMPING or SYNC. -/
def State.leaderFollows (s : State) (cond : Nat) : State :=
  if !s.leads then s
  else if s.followerWaits cond ∧ (s.cond = 1 ∨ s.cond = 4 ∨ s.cond = 6) ∧ s.slotsQuiet then s.leaderSync
  else if cond = 3 ∧ s.cond = 2 then s.leaderSynced
  else s

/-! ## SYNC on the follower (R346, R364) -/

/-- PAIR_STATUS.IN_DOUBT. -/
def State.showDoubt (s : State) : State := s.wrB Reg.PAIR_PAIR_STATUS 13 (!s.pair.inDoubt.isEmpty)

/-- A module may enter SYNC as FOLLOWER: PEER_P up, both paths good, no lease, a partner that leads, and images of one
protocol (R468). -/
def State.syncReady (s : State) : Bool :=
  let c := s.cond
  s.pairMode && (c == 1 || c == 4 || c == 5) && s.peerUp 2 && s.peerPath && s.netPath && !s.leaseValid
    && s.pair.partnerRole == 1 && !s.bit Reg.FW_FW_STATUS 4

/-- It enters SYNC once the leader has; until then it waits in JOIN, since a slot of the leader may still be RAMPING or
SYNC, or one of its own. Its own ARMED slots are held until SYNC ends. -/
def State.enterSync (s : State) : State :=
  let s := (s.setRole 2)
  if s.pair.partnerCond ≠ 2 ∨ s.slotsQuiet = false then s.setCond 1
  else
    let s := (List.range 32).foldl (fun s n =>
      if s.slotSt n = 1 then (s.setSlotSt n 7).setSlot n { s.slot n with acked := false } else s) s
    let s := (s.modPair (fun p => { p with lost := false, synced := false, inDoubt := [], slotWait := [] })).showDoubt
    (s.setCond 2).resendDigests.tellLanes

/-- A follower that waits in JOIN sees the leader in SYNC. -/
def State.followerFollows (s : State) : State :=
  if s.follows && s.cond == 1 && s.pair.partnerCond == 2 && s.syncReady then s.enterSync else s

/-! ## Heartbeats (R352) -/

/-- What every partner heartbeat tells: role, condition and epoch (R358, R361). -/
def State.partnerSays (s : State) (role cond epoch : Nat) : State :=
  let s := s.modPair (fun p => { p with
    partnerRole := role, partnerCond := cond, partnerGone := p.partnerGone && cond != 3 || cond == 7
    epochSeen := max p.epochSeen epoch })
  let s := if s.leads && decide (s.rd Reg.PAIR_EPOCH < epoch) then s.setRole 2 else s
  let c := s.cond
  let settled := c != 0 && c != 1 && c != 2 && c != 7 && cond != 1 && cond != 2 && cond != 7
  if settled && s.leads && role == 1 && epoch == s.rd Reg.PAIR_EPOCH then s.contest
  else if settled && c != 6 && ((s.follows && role == 2) || s.role == 0 || role == 0) then s.contest
  else s

/-- One more good heartbeat on a path; the sixteenth in a row makes it good. -/
def State.goodBeat (s : State) (net : Bool) : State :=
  let n := (if net then s.pair.netGood else s.pair.peerGood) + 1
  let s := s.modPair (fun p => if net then { p with netGood := n, netMiss := 0 } else { p with peerGood := n, peerMiss := 0 })
  if n ≥ 16 then s.setPath net true else s

/-- PEER_HEARTBEAT. -/
def execPeerHeartbeat (role cond epoch gen t : Nat) (s : State) : Res :=
  let s := s.till t
  if !s.pairMode then .next s
  else
    let s := ((s.wr Reg.PAIR_PARTNER_GEN (gen % 65536)).partnerSays role cond epoch).goodBeat false
    .next (s.judgePaths.leaderFollows cond).followerFollows

/-- NETWORK_HEARTBEAT. The message carries no condition. -/
def execNetworkHeartbeat (m : LookoutMsg) (t : Nat) (s : State) : Res :=
  let s := s.till t
  if !s.pairMode || !m.isType 0x10 then .next s
  else if !s.lookoutOk m s.pair.partnerSeq then .next s.lookoutBad
  else
    let s := s.modPair (fun p => { p with partnerSeq := some m.seq })
    let s := s.wr Reg.PAIR_PARTNER_GEN (m.arg % 65536)
    .next (((s.partnerSays m.role s.pair.partnerCond m.epoch).goodBeat true).judgePaths)

/-- A heartbeat is missed on a path. -/
def State.missBeat (s : State) (net : Bool) : State :=
  let (hi, lo) := if net then (31, 16) else (15, 0)
  let limit := atLeast1 (if net then s.rdF Reg.PAIR_HB_CFG 23 16 else s.rdF Reg.PAIR_HB_CFG 7 0)
  let n := (if net then s.pair.netMiss else s.pair.peerMiss) + 1
  let s := (s.countF Reg.PAIR_HB_MISS hi lo).modPair (fun p =>
    if net then { p with netMiss := n, netGood := 0 } else { p with peerMiss := n, peerGood := 0 })
  if n ≥ limit then s.setPath net false else s

/-- HEARTBEAT_MISS. -/
def execHeartbeatMiss (net : Bool) (t : Nat) (s : State) : Res :=
  let s := s.till t
  if s.pairMode then .next (s.missBeat net) else .next s

/-! ## The Lookout's answers (R357 to R359) -/

/-- An answer of the Lookout: GRANT_WAIT for one to a CLAIM. -/
def State.answered (s : State) (m : LookoutMsg) : State :=
  let s := match s.pair.asked with
    | some a => if s.pair.claiming then s.wr Reg.PAIR_GRANT_WAIT (min 0xFFFF (s.since a / 800000)) else s
    | none => s
  s.modPair (fun p => { p with lookoutSeq := some m.seq, answerAt := some s.frc })

/-- A lease is held until an instant. -/
def State.holdLease (s : State) (until_ : Option Nat) : State :=
  ((s.wrB Reg.PAIR_PAIR_STATUS 8 true).wrB Reg.PAIR_PAIR_STATUS 12 false).modPair (fun p => { p with
    leaseEnd := until_, asked := none })

/-- GRANT: accepted with an EPOCH not below any seen. The lease runs 2,000 ms from the message it answers. -/
def execLeaseGrant (m : LookoutMsg) (t : Nat) (s : State) : Res :=
  let s := s.till t
  if !s.pairMode || s.wired || !m.isType 0x02 then .next s
  else if !s.lookoutOk m s.pair.lookoutSeq then .next s.lookoutBad
  else if m.epoch < s.pair.epochSeen ∨ s.cond = 7 then .next (s.answered m)
  else
    let end_ := s.pair.asked.getD s.frc + msClk 2000
    let s := ((s.answered m).wr Reg.PAIR_EPOCH (m.epoch % 2 ^ 32)).holdLease (some end_)
    .next ((s.modPair (fun p => { p with epochSeen := m.epoch })).takeLead (m.partnerState == 2))

/-- DENY: FOLLOWER; FOLLOW keeps printing, STAND_DOWN goes to SAFE. -/
def execLeaseDeny (m : LookoutMsg) (t : Nat) (s : State) : Res :=
  let s := s.till t
  if !s.pairMode || s.wired || !m.isType 0x03 then .next s
  else if !s.lookoutOk m s.pair.lookoutSeq then .next s.lookoutBad
  else
    let s := ((s.answered m).wrB Reg.PAIR_PAIR_STATUS 8 false).modPair (fun p => { p with leaseEnd := none, asked := none })
    if s.cond = 7 then .next s
    else if m.disposition = 1 then .next (((s.setRole 2).pairSafe causeStandDown).toLookout 0x06 0)
    else .next s.denyFollow

/-- RENEW, every 500 ms; none while Ranger restarts (R467). -/
def execLeaseRenew (t : Nat) (s : State) : Res :=
  let s := s.till t
  if s.pairMode && s.leaseValid && s.rangerRuns then .next s.renew else .next s

/-- CLAIM_REPEAT: every 200 ms without an answer. A module in JOIN without a role claims for the formation
of the pair (log 38). -/
def execClaimRepeat (t : Nat) (s : State) : Res :=
  let s := s.till t
  if !s.pairMode then .next s
  else if s.pair.asked.isSome then .next (if s.pair.claiming then s.claim s.pair.reason else s.renew)
  else if s.cond = 1 ∧ s.role = 0 then .next (s.claim 1)
  else .next s

/-- The lease lapses: in PAIRED the role is kept, in ALONE or DEGRADED CONTEST is entered. -/
def State.leaseLapses (s : State) : State :=
  let s := (s.wrB Reg.PAIR_PAIR_STATUS 8 false).modPair (fun p => { p with leaseEnd := none })
  if s.cond = 3 then (s.wrB Reg.PAIR_PAIR_STATUS 12 true).intSet Reg.pagePAIR 11
  else if s.cond = 6 ∨ s.cond = 4 then s.setCond 5
  else s

/-- LEASE_LOST: 2,000 ms have passed. -/
def execLeaseLost (t : Nat) (s : State) : Res :=
  let s := s.till t
  match s.pair.leaseEnd with
  | some e => if s.pairMode && s.leaseValid && decide (e ≤ s.frc) then .next s.leaseLapses else .next s
  | none => .next s

/-- The lease as the grant inputs have it (R360): this module's asserted and the other's not. A lease of the inputs ends with
WIRED mode. -/
def State.judgeWired (s : State) : State :=
  let own := if s.pairSlot = 0 then s.pair.grantA && !s.pair.grantB else s.pair.grantB && !s.pair.grantA
  if !s.pairMode || s.cond == 7 then s
  else if !s.wired then (if s.leaseValid ∧ s.pair.leaseEnd = none then s.leaseLapses else s)
  else if own then
    if s.leaseValid then s
    else
      let s := if s.leads then s
        else
          let e := (s.pair.epochSeen + 1) % 2 ^ 32
          (s.wr Reg.PAIR_EPOCH e).modPair (fun p => { p with epochSeen := e })
      (s.holdLease none).takeLead false
  else
    let s := if s.leaseValid then s.leaseLapses else s
    if s.cond = 5 ∨ s.role = 0 then s.denyFollow else s

/-- WIRED_GRANT: the grant inputs after their filter. -/
def execWiredGrant (a b : Bool) (t : Nat) (s : State) : Res :=
  .next ((s.till t).modPair (fun p => { p with grantA := a, grantB := b })).judgeWired

end Sys2Proof.Machine
end

