-- ==== Sys2Proof/Machine/Agree.lean ====
section
/-! DEFINITION. What the two modules of a pair agree: slots (R346 to R348), the start of a run and the phase of ticks
(R349, R350), retrains (R351), handover and retirement (R362, R363), SYNC (R364), the digests of the self-test
(R365) and health (R366). -/

namespace Sys2Proof.Machine

/-! ## Slots -/

/-- The follower compares the regions that a SLOT message names, and answers ACK or NAK. -/
def State.judgeSlot (s : State) (n crc : Nat) : State :=
  if crc32c (s.slotRegion n) = crc then
    ((s.setSlotSt n 7).setSlot n { s.slot n with acked := true }).toPartner 1 0x11 [n]
  else s.toPartner 1 0x12 [n]

/-- A SLOT message whose forwarded writes have all been applied is judged; the others wait. -/
def State.judgeWaiting (s : State) : State :=
  let ready (m : List Nat) := decide (0 ≤ sdiff 16 (smGet (fun _ => 0) (s.peerPort 2).rxSeq 2) (m.getD 1 0))
  let now := s.pair.slotWait.filter ready
  let s := s.modPair (fun p => { p with slotWait := p.slotWait.filter (fun m => !ready m) })
  now.foldl (fun s m => s.judgeSlot (m.getD 0 0) (m.getD 2 0)) s

/-- SLOT: the follower takes the slot's registers and its target, and judges it once FORWARD frame `fwd` has been
applied. -/
def execSlotMessage (n : Fin 32) (target action mask0 mask1 mask2 mask3 fwd crc : Nat) (s : State) : Res :=
  let n := n.val
  if !s.pairMode || !s.follows then .next s
  else
    let s := (s.setSlot n {}).wrs [(Reg.APPLY_SLOT_TARGET n, target), (Reg.APPLY_SLOT_ACTION n, action),
      (Reg.APPLY_SLOT_MASK0 n, mask0), (Reg.APPLY_SLOT_MASK1 n, mask1), (Reg.APPLY_SLOT_MASK2 n, mask2),
      (Reg.APPLY_SLOT_MASK3 n, mask3)]
    let s := s.modPair (fun p => { p with
      slotWait := p.slotWait.filter (fun m => m.getD 0 0 != n) ++ [[n, fwd, crc]] })
    .next s.judgeWaiting

/-- SLOT_ACK: before line T - 16 is admitted, the leader confirms. -/
def execSlotAck (n : Fin 32) (s : State) : Res :=
  let n := n.val
  if s.leads && s.paired && s.slotSt n == 7 && decide (0 ≤ ldiff (ladd (s.slotTarget n) (-16)) s.nextLine) then
    .next ((s.setSlotSt n 1).toPartner 1 0x13 [n])
  else .next s

/-- SLOT_NAK: a rescheduling, and one more DIGEST_FAIL; the regions are forwarded again. -/
def execSlotNak (n : Fin 32) (s : State) : Res :=
  let n := n.val
  if s.leads && s.paired && s.slotSt n == 7 then
    .next (((s.count Reg.PAIR_DIGEST_FAIL).sendRegions n).reschedule n 0)
  else .next s

/-- CONFIRM: before line T - 8 is admitted, the follower's slot is ARMED. -/
def execSlotConfirm (n : Fin 32) (s : State) : Res :=
  let n := n.val
  if s.follows && s.slotSt n == 7 && (s.slot n).acked && decide (0 ≤ ldiff (ladd (s.slotTarget n) (-8)) s.nextLine) then
    .next (s.setSlotSt n 1)
  else .next s

/-- SLOT_ACK_DEADLINE: line T - 16 has been admitted without ACK. A frozen pair agrees nothing (R103). -/
def execSlotAckDeadline (n : Fin 32) (s : State) : Res :=
  let n := n.val
  if s.leads && s.slotSt n == 7 && decide (0 < ldiff s.nextLine (ladd (s.slotTarget n) (-16))) then
    if s.paired then .next (s.reschedule n 0)
    else if s.frozenPair then .next (s.slotRefuse n 0x0009 0)
    else .next s
  else .next s

/-- The channels that a slot acts on: those of its masks, or all 16 of each plane. -/
def State.slotReach (s : State) (n : Nat) : List Nat :=
  if onPlanes (s.slotAction n) then (s.slotPlanes n).flatMap planeChannels else s.slotChannels n

/-- ABSENT from a line for channels; sending resumes at a line. -/
def State.absentFor (s : State) (cs : List Nat) (line : Nat) : State :=
  s.modPair (fun p => { p with absentFrom := p.absentFrom ++ cs.map (fun c => (c, line)) })
def State.resumeFor (s : State) (cs : List Nat) (line : Nat) : State :=
  s.modPair (fun p => { p with resumeAt := p.resumeAt ++ cs.map (fun c => (c, line)) })

/-- IN_DOUBT: ACK has been sent and line T - 8 admitted without CONFIRM. -/
def execInDoubt (n : Fin 32) (s : State) : Res :=
  let n := n.val
  if s.follows && s.slotSt n == 7 && (s.slot n).acked && (s.slot n).fromLine.isNone && !s.pair.inDoubt.contains n &&
      decide (0 < ldiff s.nextLine (ladd (s.slotTarget n) (-8))) then
    let s := (s.absentFor (s.slotReach n) (s.slotTarget n)).modPair (fun p => { p with inDoubt := p.inDoubt ++ [n] })
    .next (if s.peerUp 2 then s.showDoubt.toPartner 1 0x14 [n] else s.showDoubt)
  else .next s

/-- IN_DOUBT_ANSWER: the slot is applied from an agreed line, or discarded at once. -/
def execInDoubtAnswer (n : Fin 32) (applied : Bool) (line : Nat) (s : State) : Res :=
  let n := n.val
  if !s.pair.inDoubt.contains n then .next s
  else
    let cs := s.slotReach n
    let s := (s.modPair (fun p => { p with inDoubt := p.inDoubt.filter (· != n) })).showDoubt
    if applied then .next ((s.setSlot n { s.slot n with fromLine := some line }).resumeFor cs line)
    else
      .next ((s.setSlotSt n 6).modPair (fun p => { p with
        absentFrom := p.absentFrom.filter (fun e => !(cs.contains e.1 && e.2 == s.slotTarget n)) }))

/-- The leader's answer to a question about a slot in doubt: whether it has confirmed it, and a line of
A + GUARD. -/
def State.answerDoubt (s : State) (n : Nat) : State :=
  let st := s.slotSt n
  let applied := st == 1 || st == 2 || st == 3 || st == 4
  s.toPartner 1 0x15 [n, b2n applied, ladd s.nextLine s.guard]

/-- SLOT_CANCEL_MESSAGE. -/
def execSlotCancelMessage (n : Fin 32) (s : State) : Res :=
  let n := n.val
  if s.follows && (s.slotSt n == 1 || s.slotSt n == 7) then
    .next ((s.setSlotSt n 6).modPair (fun p => { p with slotWait := p.slotWait.filter (fun m => m.getD 0 0 != n) }))
  else .next s

/-! ## The start of a run, and the phase of ticks -/

/-- The run number on every channel page. -/
def State.setRunNum (s : State) (n : Nat) : State :=
  channels.foldl (fun s c => s.wrF (Reg.CH_PROTO_STATUS c) 7 0 n) (s.modLine (fun l => { l with runNum := n % 256 }))

/-- START_MESSAGE: from the leader, or from the root of the ring (R83). -/
def execStartMessage (startLine run t : Nat) (s : State) : Res :=
  let s := s.till t
  if s.runSt ≠ 1 then .next s
  else
    let src := fld s.line.runCfg 1 0
    if src = 3 ∧ s.follows then
      let s := (s.modLine (fun l => { l with startLine := startLine })).setRunNum run
      .next (s.wr Reg.LINE_ADMIT_LINE startLine).beginRun
    else if src = 2 ∧ s.ringMode ∧ !s.isRoot then
      .next (s.sendRing 0x0A [startLine, run]).beginRun
    else .next s

/-- The largest error since TICK_SKEW_MAX was read. -/
def State.skewMax (s : State) (e : Nat) : State :=
  if s.rdF Reg.PAIR_TICK_SKEW_MAX 15 0 < e then s.wrF Reg.PAIR_TICK_SKEW_MAX 15 0 (min 0xFFFF e) else s

/-- The comparison of one tick: e in clocks (R350). -/
def State.comparePhase (s : State) (e : Int) : State :=
  let phi := clampI (-160) 160 (s.phi - clampI (-8) 8 e)
  let ns := (e * 5).fdiv 4
  let s := (s.wr Reg.PAIR_TICK_SKEW (satSgn 16 ns + unsgn 16 phi * 65536)).skewMax ((e.natAbs * 5 + 3) / 4)
  let sk := if e.natAbs > 80 then s.pair.skewRun + 1 else 0
  let lm := if phi.natAbs = 160 then s.pair.limitRun + 1 else 0
  let s := s.modPair (fun p => { p with skewRun := sk, limitRun := lm })
  if sk = 64 ∨ lm = 64 then s.intSet Reg.pagePAIR 15 else s

/-- TICK_INSTANT: the leader's tick of a line at an FRC value of its own. -/
def execTickInstant (line leaderFrc : Nat) (s : State) : Res :=
  match s.tickOf line, (s.peerPort 2).offset with
  | some f, some o =>
    if s.pairMode && s.follows && s.peerUp 2 then
      .next (s.comparePhase ((f : Int) - ((leaderFrc : Int) - o)))
    else .next s
  | _, _ => .next s

/-! ## Retrains (R351) -/

def State.setGrant (s : State) (c v : Nat) : State :=
  s.modPair (fun p => { p with grants := smSet (fun _ => 0) p.grants c v })

/-- RETRAIN_REQUEST of the follower: granted while PAIRED, with no grant held for the head and this module's
lane ACTIVE, and refused otherwise. -/
def execRetrainRequest (c : Fin 128) (_rateUp : Bool) (s : State) : Res :=
  let c := c.val
  if s.leads && s.paired && smGet (fun _ => 0) s.pair.grants c == 0 && s.laneActive c then
    .next ((s.setGrant c 2).toPartner 1 0x21 [c])
  else .next (if s.leads then s.toPartner 1 0x23 [c] else s)

/-- The leader's grant reaches the follower. -/
def State.granted (s : State) (c : Nat) : State :=
  match (s.lane c).asked with
  | some up => if s.laneActive c then s.startDegraded c up else s
  | none => s

/-- The leader's refusal reaches the follower: the request is deferred (R200). -/
def State.notGranted (s : State) (c : Nat) : State :=
  match (s.lane c).asked with
  | some up => if s.laneActive c && !s.retrainPending c then s.deferRetrain c up else s
  | none => s

/-- The partner's lane to a head is ACTIVE (1), FAILED (2) or neither. A grant that it held lasts until it is ACTIVE
or FAILED again. -/
def State.partnerLane (s : State) (c v : Nat) (head : List Nat) : State :=
  let s := (s.wrB (Reg.CH_LINK_STATUS c) 8 (v == 1)).modPair (fun p => { p with
    partnerHeads := smSet (fun _ => []) p.partnerHeads c (if v = 1 then head else []) })
  let s := if v != 0 && smGet (fun _ => 0) s.pair.grants c == 2 then s.setGrant c 0 else s
  if v == 1 && !s.printing then s.releaseOne c else s

/-! ## Handover and retirement -/

/-- A request of the partner (R362). If both have asked in the same exchange, the leader's is agreed. -/
def State.partnerAsks (s : State) (retire : Bool) : State :=
  if !s.leads then s
  else if s.changePending || !s.canChange then s.toPartner 1 0x32 []
  else
    let s := s.wr Reg.PAIR_HANDOVER_STATUS (b2n retire * 8)
    s.agreeChange retire false

/-- The leader has agreed a change at a line, its own or this module's. A request of this module that the leader's
precedes is refused (R362). -/
def State.changeAgreed (s : State) (retire : Bool) (line : Nat) (leaders : Bool) : State :=
  let asked := s.changePending
  let s := s.modPair (fun p => { p with handover := some { retire := retire, mine := !leaders, line := line } })
  let s := if !leaders then s.setChange 1
    else if asked then s.setChange 3
    else s.wr Reg.PAIR_HANDOVER_STATUS (1 + b2n retire * 8)
  s.wr Reg.PAIR_HANDOVER_LINE line

/-- A request of this module has been refused. -/
def State.changeRefused (s : State) : State :=
  if s.changePending && s.pair.handover.isNone then s.setChange 3 else s

/-- The roles swap (R363). -/
def State.swapRoles (s : State) : State :=
  if s.leads then s.release.setRole 2 else (s.setRole 1).claim 2

/-- The retiring module: HALT, SAFE, FOLLOWER. -/
def State.retireSelf (s : State) : State :=
  let s := if s.leads then s.release.setRole 2 else s
  s.pairSafe causeRetire

/-- Its partner: LEADER, ALONE at L. -/
def State.partnerRetires (s : State) : State :=
  let s := if s.leads then s else (s.setRole 1).claim 2
  (s.modPair (fun p => { p with partnerGone := true, lost := true, synced := false })).setCond 6

/-- HANDOVER_AT_LINE: the agreed line is admitted. -/
def execHandoverAtLine (s : State) : Res :=
  match s.pair.handover with
  | none => .next s
  | some h =>
    if ldiff s.nextLine h.line < 0 then .next s
    else
      let s := s.modPair (fun p => { p with handover := none })
      let s := ((s.setChange 2).intSet Reg.pagePAIR 14).tallyAt 0x0062 0x6B 0 1 h.line (b2n h.retire)
      .next (if !h.retire then s.swapRoles else if h.mine then s.retireSelf else s.partnerRetires)

/-! ## SYNC on the follower (R364) -/

/-- SYNC_ENTRY. -/
def execSyncEntry (s : State) : Res := .next (if s.syncReady then s.enterSync else s)

/-- The follower may join at a line: the job that R364 asks for is loaded. -/
def State.mayJoin (s : State) (line : Nat) : Bool :=
  if s.streaming then (s.neededRows line).all s.rowReady else s.repAgreed s.mainRep

/-- The follower enters a run that goes on, from a line (R364). -/
def State.joinRun (s : State) (line : Nat) : State :=
  let la := s.rdF Reg.LINE_LOOKAHEAD 5 0
  let s := s.modLine (fun l => { l with
    runCfg := putFld (s.rd Reg.LINE_RUN_CFG) 1 0 3, stopLine := s.rd Reg.LINE_STOP_LINE, stopped := [], runTicks := 0
    runIntervals := 0 })
  let s := (s.emitTables.setRunNum s.line.runNum).wrs [(Reg.JOB_MAX_OFFSET, s.maxOffset), (Reg.LINE_ADMIT_LINE, line),
    (Reg.LINE_CURRENT_LINE, ladd line (-(la : Int) - 1))]
  (((s.releaseRows.setModule 5).setRun 2).intSet Reg.pageLINE 8).lossCheck

/-- SYNC_COMPLETE: on the follower the tables received become ACTIVE, and it asks the leader how SYNC ends; on the leader
what has waited is forwarded. -/
def execSyncComplete (s : State) : Res :=
  if s.cond ≠ 2 then .next s
  else if s.leads then .next s.leaderSynced
  else if s.printing then .next s
  else
    let s := { s with scr := { s.scr with active := s.scr.target } }
    .next (((mirrorPages.foldl (fun s p => s.copyShadows (rwsKeys p)) s).carryEnc s).toPartner 1 0x43 [])

/-- The leader's answer: whether a run goes on, and JOIN_LINE = A + GUARD. -/
def State.answerSync (s : State) : State :=
  if s.leads && s.cond == 2 then s.toPartner 1 0x42 [b2n (s.runSt == 2), ladd s.nextLine s.guard] else s

/-- The follower is PAIRED, in a run from JOIN_LINE on; without its job it stays in SYNC. -/
def State.syncAgreed (s : State) (inRun : Bool) (line : Nat) : State :=
  if !s.follows || s.cond != 2 || inRun && !s.mayJoin line then s
  else
    let s := (s.modPair (fun p => { p with synced := true })).setCond 3
    if inRun then s.joinRun line else s

/-! ## The self-test (R365) -/

/-- DIGEST_NOW. -/
def State.digestNow (s : State) (src : Req) : State :=
  if !s.pairMode then s.errAt Reg.pagePAIR 0x0101 Reg.PAIR_PAIR_CTRL src else s.startDigest
def execDigestNow (src : Req) (s : State) : Res :=
  if s.cutOff src then .next s else
  .next (s.digestNow src)

/-- SELF_TEST_DIGEST: the leader's second has passed; the follower takes its digests at the leader's line (log 99). -/
def execSelfTestDigest (s : State) : Res := .next (if s.leads then s.startDigest else s)

/-- DIGEST_FAIL: the follower sends ABSENT; the leader forwards its ACTIVE contents, and after them the line at which the
follower resumes. -/
def execDigestFail (target : Nat) (s : State) : Res :=
  if !s.pair.repair.contains target then .next s
  else
    let s := s.modPair (fun p => { p with repair := p.repair.filter (· != target) })
    if s.leads then
      let s := s.sendActive target
      .next (s.toPartner 2 0x04 [target, ladd s.nextLine s.guard])
    else if s.printing then .next (s.absentFor (digestChans target) s.nextLine)
    else .next s

/-- The line at which sending resumes. -/
def State.takeResume (s : State) (target line : Nat) : State :=
  let cs := (digestChans target).filter (fun c => s.pair.absentFrom.any (fun e => e.1 == c))
  if s.follows then s.resumeFor cs line else s

/-! ## Health (R366, R379) -/

/-- Whether an instant lies within the last n ms. -/
def State.within (s : State) (t : Option Nat) (ms : Nat) : Bool :=
  match t with
  | some f => decide (s.since f ≤ msClk ms)
  | none => false

/-- HEALTH. -/
def State.health (s : State) : Nat :=
  min 255 (128 - s.activeLanes.length)
    + b2n ((List.range 6).any (fun d => s.stCode (Reg.pageDRAM d) == 3)) * 2 ^ 8
    + b2n ((List.range 128).any s.laneHalf) * 2 ^ 9
    + b2n ((List.range 4).any (fun g => s.lampStep g != 0)) * 2 ^ 10
    + b2n (s.width 2 != 0) * 2 ^ 11 + b2n (!s.netPath) * 2 ^ 12 + b2n (!s.within s.pair.answerAt 2000) * 2 ^ 13
    + b2n (s.within s.line.sealAt 10000) * 2 ^ 14 + b2n (s.within s.line.missAt 10000) * 2 ^ 15

/-- HEALTH: published to the partner; its report is shown. -/
def execHealthPublish (partner : Option Nat) (s : State) : Res :=
  if !s.pairMode then .next s
  else
    let s := s.wr Reg.PAIR_HEALTH s.health
    let s := match partner with
      | some h => s.wr Reg.PAIR_PARTNER_HEALTH (h % 65536)
      | none => s
    .next (s.toPartner 3 0x03 [s.rd Reg.PAIR_HEALTH])

end Sys2Proof.Machine
end

