-- ==== Sys2Proof/Machine/Idle.lean ====
section
/-! DEFINITION. What passes without a command: one core clock, in which the Tally intake FIFO hands one entry to the
log (R23, R476, R477), firmware takes a frame of each class queue (R384), and each DRAM channel has an idle slot (R414, R415). -/

namespace Sys2Proof.Machine

/-- The entries that the log holds (R475). -/
def logSize : Nat := 8192

/-- The words of a Tally entry (R475). -/
def TallyEntry.words (e : TallyEntry) (seq : Nat) : List Nat :=
  let w := [seq % 2 ^ 32, e.time % 2 ^ 32, e.time / 2 ^ 32 % 2 ^ 32,
    e.code % 65536 + e.source % 256 * 2 ^ 16 + e.inst % 256 * 2 ^ 24,
    e.severity % 4 + b2n e.timeValid * 4, e.line % 2 ^ 32, e.arg % 2 ^ 32]
  w ++ [crc32c (wordBytes w)]

/-- An entry enters the log: it receives its SEQ, and in a full log it overwrites the oldest. ENTRY is set at or above
IRQ_SEVERITY, WRAPPED when entry 0 is overwritten (R477, R482). UART_TX carries a text copy (R528). -/
def State.logEntry (s : State) (e : TallyEntry) : State :=
  let n := s.rd Reg.TALLY_NEXT_SEQ
  let full := decide (logSize ≤ s.mgmt.log.length)
  let laps := full && (s.mgmt.log.head?.map (·.1)) == some 0
  let log := (if full then s.mgmt.log.drop 1 else s.mgmt.log) ++ [(n, e)]
  let s := { s with mgmt := { s.mgmt with log := log } }.emit (.uart 1 (e.words n))
  let s := (s.wr Reg.TALLY_NEXT_SEQ ((n + 1) % 2 ^ 32)).wr Reg.TALLY_OLDEST_SEQ ((log.head?.map (·.1)).getD 0)
  let s := if s.rdF Reg.TALLY_FILTER 5 4 ≤ e.severity then s.intSet Reg.pageTALLY 8 else s
  if laps then s.intSet Reg.pageTALLY 10 else s

/-- The oldest entry of the intake FIFO is logged; once there is space again, a DROPPED entry reports what was lost. -/
def State.drainTally (s : State) : State :=
  match s.mgmt.intake with
  | [] => s
  | e :: rest =>
    let s := { s with mgmt := { s.mgmt with intake := rest } }.logEntry e
    let n := s.mgmt.lost
    if n = 0 then s else { s with mgmt := { s.mgmt with lost := 0 } }.tally 0x00FE 0x74 0 1 n

/-- Crew0 takes the oldest frame of a class queue (R382, R384). -/
def State.drainClass (s : State) (c : Nat) : State :=
  match smGet (fun _ => []) s.net.queues c with
  | [] => s
  | _ :: q =>
    { s with net := { s.net with queues := smSet (fun _ => []) s.net.queues c q } }.emit (.firmware 4 (0x200 + c))

/-- One core clock on an empty queue. -/
def State.idle (s : State) : State :=
  let s := (List.range 6).foldl State.idleSlot { s with frc := (s.frc + 1) % 2 ^ 64 }.drainTally
  if s.crewRuns 0 then ([0, 1, 2] : List Nat).foldl State.drainClass s else s

end Sys2Proof.Machine
end

