-- ==== Sys2Proof/Machine/Tio.lean ====
section
/-! DEFINITION. Timed I/O: what a timer event does (R398, R399, R402, R408), and captures (R403). -/

namespace Sys2Proof.Machine

/-! ## Timer events -/

/-- Take the head entry of a timer's capture plan. -/
def State.planTake (s : State) (n : Nat) : State × Option (Nat × Nat) :=
  let x := s.timer n
  match x.plan with
  | [] => (s, none)
  | e :: es => ((s.setTimer n { x with plan := es }).showPlan n, some e)

/-- The effects of one event of timer n at t: the plan entry, the pulse, the camera triggers, the tick under
SOURCE = TIMED and the Crew interrupt. -/
def State.timerFire (s : State) (n t : Nat) (usePlan : Bool) : State :=
  let s := s.count (Reg.TIO_T_EVENTS n)
  let (s, entry) := if usePlan then s.planTake n else (s, none)
  let dry := usePlan && entry.isNone
  let s := if dry then s.intSet Reg.pageTIO 11 else s
  let w := match entry with
    | some e => nsClk e.2
    | none => s.timerWidth n
  let s := if s.bit (Reg.TIO_T_CFG n) 6 && s.bit Reg.TIO_PIN_DIR n && !dry
    then s.emit (.tioPulse n t w (b2n (!s.bit (Reg.TIO_T_CFG n) 7))) else s
  let s := [0, 1].foldl (fun s p => if s.triggersPort n p then s.trigger p entry t else s) s
  let s := if s.sourceInUse = 4 ∧ s.rdF Reg.ENC_VENC_TIO 3 0 = n then s.tickInput t else s
  if s.bit (Reg.TIO_T_CFG n) 8 then s.emit (.crewIrq n) else s

/-- The state of the timer after an event of its own. -/
def State.timerNext (s : State) (n : Nat) : State :=
  let m := s.timerMode n
  let x := s.timer n
  if m = 1 ∨ m = 3 then (s.setTimer n { x with fire := none }).setTimerSt n 3
  else
    let x' := if x.fire.isSome then { x with fire := none }
      else if m = 4 then { x with line := ladd x.line (s.rd (Reg.TIO_T_PERIOD n) : Nat) }
      else if x.first.isSome then { x with index := x.index + 1 }
      else { x with next := x.next + s.timerPeriod16 n }
    ((s.setTimer n x').setTimerSt n 2).showNext n

/-- TIMER_EVENT (R398): the event of timer n that is due at t, its own or one that the Scaler has armed
(R286). -/
def execTimerEvent (n : Fin 16) (t : Nat) (s : State) : Res :=
  let n := n.val
  let s := s.till t
  let due (o : Option Nat) : Bool := match o with
    | some f => decide (f ≤ s.frc)
    | none => false
  if due (s.timerDue n) then
    .next (((s.timerNext n).timerFire n ((s.timerDue n).getD t) (s.bit (Reg.TIO_T_CFG n) 9)).timerCut n)
  else if due (s.stripDue n) then
    let f := (s.stripDue n).getD t
    let x := s.timer n
    let s := s.setTimer n { x with strips := x.strips.drop 1 }
    let s := if (s.timer n).strips.isEmpty && s.timerMode n == 0 then s.setTimerSt n 3 else s
    .next ((s.timerFire n f true).timerCut n)
  else .next s

/-! ## Captures (R403) -/

def State.captures (s : State) (pin : Nat) : List Edge := smGet (fun _ => []) s.tio.caps pin
def State.setCaptures (s : State) (pin : Nat) (l : List Edge) : State :=
  let s := { s with tio := { s.tio with caps := smSet (fun _ => []) s.tio.caps pin l } }
  s.wrB Reg.TIO_CAP_PENDING pin (!l.isEmpty)

/-- CAPTURE: an edge at a pin, at the FRC value t of the edge. -/
def execCapture (pin : Fin 16) (falling : Bool) (t : Nat) (s : State) : Res :=
  let p := pin.val
  let s := (s.till t).wrB Reg.TIO_PIN_LEVEL p (!falling)
  if !s.bit Reg.TIO_CAP_CFG (if falling then 16 + p else p) then .next s
  else if (s.captures p).length ≥ 16 then .next ((s.count Reg.TIO_CAP_LOST).intSet Reg.pageTIO 10)
  else
    let e : Edge := { frc := t, line := s.rd Reg.LINE_CURRENT_LINE, falling := falling }
    let s := (s.setCaptures p (s.captures p ++ [e])).intSet Reg.pageTIO 9
    .next (if fld s.line.runCfg 11 8 = p then s.startFrom 1 else s)

/-- The head entry of the FIFO that CAP_SEL selects. -/
def State.capHead (s : State) : Option Edge := (s.captures (s.rdF Reg.TIO_CAP_SEL 3 0)).head?

/-- CAP_INFO of the head entry. -/
def State.capInfo (s : State) : Nat := match s.capHead with
  | some e => b2n e.falling + 2
  | none => 0

/-- Reading CAP_INFO removes the head entry. -/
def State.readCapInfo (s : State) : State :=
  let p := s.rdF Reg.TIO_CAP_SEL 3 0
  (s.setCaptures p ((s.captures p).drop 1)).answer [s.capInfo]

/-- CAP_INFO_READ. -/
def execCapInfoRead (src : Req) (s : State) : Res :=
  if s.cutOff src then .next (s.answer [0xFFFFFFFF]) else
  .next s.readCapInfo

end Sys2Proof.Machine
end

