-- ==== Sys2Proof/Machine/Ring.lean ====
section
/-! DEFINITION. Rings (R367 to R375, R380): closure, enumeration, the predictions of line ticks, the latency bound
and the exchange of advised rates. Ring states: 0 OFF, 1 WAIT_LINKS, 2 WAIT_ROOT, 3 WAIT_CLOSE, 4 ENUM, 5 TIME_SYNC,
6 UP, 7 CHAIN, 8 FAULT. Blocks on the TIME class: 0x03 LINE_TIME, 0x04 advised rate, 0x05 ENUM, 0x06 probe. -/

namespace Sys2Proof.Machine

/-! ## The latency bound (R372) -/

/-- The integer square root of a value below 2^34. -/
def isqrt (n : Nat) : Nat :=
  (List.range 17).reverse.foldl (fun r k => if (r + 2 ^ k) * (r + 2 ^ k) ≤ n then r + 2 ^ k else r) 0

/-- TL_MAX in whole microseconds, from PITCH in 0.1 nm and ACCEL_MAX in 0.01 m/s². -/
def tlMax (pitch accel : Nat) : Nat := isqrt (pitch * 625 / (4 * atLeast1 accel))

/-- T_L in ns for a number of nodes. -/
def tlOf (nodes : Nat) : Nat := nodes * 800 + 20000

/-- TL_MAX follows PITCH and ACCEL_MAX. -/
def State.showTlMax (s : State) : State :=
  s.wr Reg.RING_TL_MAX (tlMax (s.rdF Reg.RING_PITCH 23 0) (s.rdF Reg.RING_ACCEL_MAX 15 0))

/-- NODE_COUNT, and T_L with it. -/
def State.setNodeCount (s : State) (n : Nat) : State :=
  (s.wr Reg.RING_NODE_COUNT (n % 2 ^ 13)).wr Reg.RING_TL (tlOf (n % 2 ^ 13))

/-! ## Enumeration (R368, R374) -/

def State.ringAddr (s : State) : Nat := s.rdF Reg.RING_RING_STATUS 11 0

/-- What a node reports of itself: KIND and COLUMN_BASE. -/
def State.ringReport (s : State) : Nat × Nat := (s.rdF Reg.RING_RING_CFG 0 0, s.rd Reg.RING_COLUMN_BASE)

/-- An ENUM message: the last address given, the number of nodes once it is known, the root's serial number, the branch on
which it goes out, whether the ring is a chain, and the KIND and COLUMN_BASE of the nodes passed. -/
def enumFields (m : Enum) : List Nat :=
  m.addr :: m.count :: m.root :: b2n m.east :: b2n m.chain :: m.reports.flatMap (fun r => [r.1, r.2])

/-- Send ENUM west or east; at the end of a chain it goes back the way it came. -/
def State.sendEnum (s : State) (east : Bool) (m : Enum) : State :=
  let p := if east then 1 else 0
  s.sendTime (if s.peerUp p then p else 1 - p) 0x05 (enumFields m)

/-- Two ACROSS ranges of 95,424 columns overlap by other than one kerf. The two modules of a pair share their base: they
are `adjacent` in the ring (R3, R367). -/
def badOverlap (adjacent : Bool) (a b : Nat × Nat) : Bool :=
  let d := ((a.2 : Int) - b.2).natAbs
  a.1 == 0 && b.1 == 0 && decide (d < 95424) && d != 95232 && !(adjacent && d == 0)

/-- Neighbours among the nodes as they report: each and the next; in a closed ring the last and the first; in a chain the
root and the first of the western branch, which follows `east` nodes of the eastern one. -/
def neighbours (closed : Bool) (east n i j : Nat) : Bool :=
  if i + 1 = j then !(!closed && j == east && decide (1 < east))
  else i == 0 && (if closed then j + 1 == n else j == east)

/-- Whether any two of the reports clash, or more than two share a base. -/
def reportsClash (closed : Bool) (east : Nat) (rs : List (Nat × Nat)) : Bool :=
  rs.any (fun r => r.1 == 0 && decide ((rs.filter (· == r)).length > 2)) ||
  (rs.zipIdx).any (fun a => (rs.zipIdx).any (fun b => decide (a.2 < b.2) &&
    badOverlap (neighbours closed east rs.length a.2 b.2) a.1 b.1))

/-- The root ends the enumeration: NODE_COUNT is made known to every node, and the root's lanes start. -/
def State.enumDone (s : State) (m : Enum) : State :=
  let s := (s.setNodeCount m.addr).wr Reg.RING_ENUM_TIME (s.since s.ring.enumFrc / 800 % 2 ^ 24)
  let known : Enum := { m with count := m.addr, reports := [] }
  let s := if s.peerUp 1 then s.sendEnum true { known with east := true } else s
  let s := if m.chain && s.peerUp 0 then s.sendEnum false { known with east := false } else s
  let s := if m.chain then s else (s.setRingSt 6).intSet Reg.pageRING 8
  let s := if m.addr > 4094 || reportsClash (!m.chain) s.ring.eastNodes m.reports
    then (s.setRingSt 8).intSet Reg.pageRING 11 else s
  s.startLanes

/-- The root begins to enumerate, in ring state `st`: it takes address 1. A chain without an eastern neighbour is
enumerated west. -/
def State.enumBegin (s : State) (st : Nat) : State :=
  let chain := st == 7
  let s := ((s.wrF Reg.RING_RING_STATUS 11 0 1).setRingSt st).modRing (fun u => { u with
    enumFrc := s.frc, chain := chain, eastNodes := 0 })
  let m : Enum := { addr := 1, count := 0, root := s.rd64 Reg.SYS_SERIAL_LO Reg.SYS_SERIAL_HI, east := true
                    chain := chain, reports := [s.ringReport] }
  if s.peerUp 1 then s.sendEnum true m
  else if s.peerUp 0 then s.sendEnum false { m with east := false }
  else s.enumDone m

/-- A root that meets another's probe or ENUM: the one with the lower serial number stays root (R367). -/
def State.ownRing (s : State) (root : Nat) : Bool :=
  s.isRoot && root == s.rd64 Reg.SYS_SERIAL_LO Reg.SYS_SERIAL_HI

/-- CLOSURE_PROBE: the probe of the root with a serial number comes in on PEER_W. A root that stays root passes no other's
probe on. -/
def execClosureProbe (root t : Nat) (s : State) : Res :=
  let s := s.till t
  if !s.ringMode then .next s
  else if s.ownRing root then .next (if s.ringSt = 3 then s.enumBegin 4 else s)
  else
    let s := s.otherRoot root
    .next (if s.isRoot then s else s.sendTime 1 0x06 [root])

/-- A node takes the address after the one received and passes ENUM on, with its own report. -/
def State.takeAddress (s : State) (fromW : Bool) (m : Enum) : State :=
  let n := m.addr + 1
  let s := s.modRing (fun u => { u with fromW := fromW, chain := m.chain })
  let s := if n > 4094 then (s.wrF Reg.RING_RING_STATUS 11 0 0).setRingSt 8
    else (s.wrF Reg.RING_RING_STATUS 11 0 n).setRingSt 5
  s.sendEnum fromW { m with addr := n, reports := m.reports ++ [s.ringReport] }

/-- ENUM at a node that is not root. A message that comes from the side to which its branch goes is on its way back, and is
passed on. -/
def State.nodeEnum (s : State) (fromW : Bool) (m : Enum) : State :=
  if m.count ≠ 0 then
    let s := s.setNodeCount m.count
    if s.peerUp (if fromW then 1 else 0) then s.sendEnum fromW m else s
  else if fromW = m.east then s.takeAddress fromW m
  else s.sendEnum fromW m

/-- ENUM at the root whose own it is: a ring is closed; the eastern branch of a chain is done, and the western follows. -/
def State.rootEnum (s : State) (fromW : Bool) (m : Enum) : State :=
  if m.count ≠ 0 then s
  else if s.ringSt = 4 ∧ fromW then s.enumDone m
  else if s.ringSt = 7 ∧ !fromW ∧ m.east ∧ s.peerUp 0 then
    (s.modRing (fun u => { u with eastNodes := m.addr })).sendEnum false { m with east := false }
  else if s.ringSt = 7 then s.enumDone m
  else s

/-- ENUM: a message that came in on PEER_W or PEER_E. -/
def execRingEnum (fromW : Bool) (m : Enum) (t : Nat) (s : State) : Res :=
  let s := s.till t
  if !s.ringMode then .next s
  else if s.ownRing m.root then .next (s.rootEnum fromW m)
  else
    let s := s.otherRoot m.root
    .next (if s.isRoot then s else s.nodeEnum fromW m)

/-- CLOSURE_TIMEOUT: 10 s without closure. -/
def execClosureTimeout (t : Nat) (s : State) : Res :=
  let s := s.till t
  if s.ringMode && s.isRoot && (s.ringSt == 1 || s.ringSt == 3) && s.since s.ring.waitFrc ≥ msClk 10000
  then .next (s.enumBegin 7) else .next s

/-- RING_CTRL.ENUMERATE. -/
def State.enumerate (s : State) (src : Req) : State :=
  if !s.isRoot then s.errAt Reg.pageRING 0x0103 Reg.RING_RING_CTRL src
  else if s.modState = 5 then s.errAt Reg.pageRING 0x0101 Reg.RING_RING_CTRL src
  else
    let s := s.modRing (fun u => { u with waitFrc := s.frc })
    if s.peerUp 0 && s.peerUp 1 then s.sendProbe else s.setRingSt 1
def execRingEnumerate (src : Req) (t : Nat) (s : State) : Res :=
  if s.cutOff src then .next s else
  .next ((s.till t).enumerate src)

/-- RING_CTRL.RESYNC: a node that is not root converges again; its address stays. -/
def State.resync (s : State) : State := if (s.ringSt = 6 ∨ s.ringSt = 7) ∧ !s.isRoot then s.setRingSt 5 else s
def execRingResync (src : Req) (s : State) : Res :=
  if s.cutOff src then .next s else
  .next s.resync

/-! ## Predictions (R370, R371) -/

/-- Take a prediction: the last two are kept. -/
def State.takePrediction (s : State) (line ringTime held : Nat) : State :=
  s.modRing (fun u => { u with
    preds := ((line, ringTime) :: u.preds).take 2, held := held, ahead := u.ahead.filter (·.1 != line) })

/-- A prediction of a line that none has come for yet. -/
def State.newLine (s : State) (line : Nat) : Bool :=
  (match s.ring.preds with
    | [] => true
    | p :: _ => decide (0 < ldiff line p.1)) && !s.ring.ahead.any (·.1 == line)

/-- The line whose tick comes next has this number. -/
def State.dueLine (s : State) (line : Nat) : Bool :=
  match s.ring.preds with
  | [] => true
  | p :: _ => line == ladd p.1 1

/-- The ring carries ticks. -/
def State.ringRuns (s : State) : Bool := s.ringMode && (s.ringSt == 6 || s.ringSt == 7 || s.ringSt == 8)

/-- The prediction of line N: from the last line of the source at the mean rate of up to 64, in ring time of 2^-16 ns,
rounded down (R370, log 98). -/
def State.predictLine (s : State) (n : Nat) : Option Nat :=
  match s.ring.marks, s.ring.marks.getLast? with
  | last :: _ :: _, some first =>
    let k := s.ring.marks.length - 1
    let a := s.ringTime last
    let d := sdiff 80 a (s.ringTime first)
    some (unsgn 80 ((a : Int) + (ldiff n s.ring.pos * d).fdiv (k : Nat)))
  | _, _ => none

/-- The next line that the root predicts: after the last one sent, or after the last of the source. -/
def State.nextPrediction (s : State) : Nat :=
  match s.ring.preds with
  | p :: _ => ladd p.1 1
  | [] => ladd s.ring.pos 1

/-- LINE_PREDICTION: at t the root looks whether its next line lies no more than T_L ahead, sends LINE_TIME both ways, and
schedules its own tick. -/
def execLinePrediction (t : Nat) (s : State) : Res :=
  let s := s.till t
  let n := s.nextPrediction
  match s.predictLine n with
  | some r =>
    if s.ringRuns && s.isRoot && decide (sdiff 80 r (s.ringTime s.frc) ≤ (s.rd Reg.RING_TL * 65536 : Nat)) then
      .next (((s.takePrediction n r 0).sendRing 0x03 [n, r]).sourceInstant (s.frcOfRing r))
    else .next s
  | none => .next s

/-- The tick of a line at its ring time; a late one ticks at once. -/
def State.lineAt (s : State) (line ringTime : Nat) : State :=
  let f := s.frcOfRing ringTime
  let s := (if s.ring.base.isNone then s.drew else s).takePrediction line ringTime 0
  if sdiff 64 f s.frc < 1600 then ((s.count Reg.RING_PRED_LATE).intSet Reg.pageRING 10).ringInstant s.frc
  else s.ringInstant f

/-- The predictions that have come ahead follow the one that was missing. -/
def State.lineFollows (s : State) : Nat → State
  | 0 => s
  | k + 1 => match s.ring.ahead.find? (fun e => s.dueLine e.1) with
    | some e => (s.lineAt e.1 e.2).lineFollows k
    | none => s

/-- LINE_TIME: the first copy is passed on and schedules its tick; one ahead of a missing line waits for that line. -/
def execLineTime (line ringTime t : Nat) (s : State) : Res :=
  let s := s.till t
  if !s.ringMode || s.isRoot || s.sourceInUse != 5 || !s.newLine line then .next s
  else
    let s := s.sendRing 0x03 [line, ringTime]
    if s.dueLine line then .next ((s.lineAt line ringTime).lineFollows s.ring.ahead.length)
    else .next (s.modRing (fun u => { u with ahead := u.ahead ++ [(line, ringTime)] }))

/-- PRED_HOLD: no LINE_TIME of the next line within 1.5 of the last interval: the line is extrapolated; sixteen in a row
lose the source. -/
def execPredHold (t : Nat) (s : State) : Res :=
  let s := s.till t
  match s.ring.preds with
  | [(n1, t1), (_, t0)] =>
    let iv := sdiff 80 t1 t0
    let wait := s.frcOfRing (unsgn 80 ((t1 : Int) + iv + iv / 2))
    if !s.ringMode || s.isRoot || s.sourceInUse != 5 || decide (sdiff 64 s.frc wait < 0) then .next s
    else
      let held := s.ring.held + 1
      let s := ((s.takePrediction (ladd n1 1) (unsgn 80 ((t1 : Int) + iv)) held).count Reg.RING_PRED_HOLD).ringInstant s.frc
      .next (if held ≥ 16 then (if s.printing then s.tickLost else s) else s.lineFollows s.ring.ahead.length)
  | _ => .next s

/-! ## Advised rates (R375) -/

/-- The module's own advised rate, its neighbours' limit left out. -/
def State.ownRate (s : State) : Nat :=
  if s.modState == 4 || s.modState == 5 then
    ((s.limits.filter (fun l => l.2 != 28)).map (·.1)).foldl min 80000
  else 0

/-- The rates of a ring: the root returns the lowest of all to every node; another node sends its own and those that came
from farther out toward the root, and the root's value onward. -/
def State.ringRates (s : State) (rates : List Nat) (lowest : Option Nat) : State :=
  let own := s.ownRate
  if s.isRoot then
    let low := rates.foldl min own
    ((s.modRing (fun u => { u with advice := some low })).wr Reg.RING_RING_ADVICE (low % 2 ^ 17)).sendRing 0x04 [1, low]
  else
    let q := s.rootPort
    let s := (own :: rates).foldl (fun s r => s.sendTime q 0x04 [0, r]) s
    match lowest with
    | some r =>
      ((s.modRing (fun u => { u with advice := some r })).wr Reg.RING_RING_ADVICE (r % 2 ^ 17)).sendTime (1 - q) 0x04 [1, r]
    | none => s

/-- RATE_EXCHANGE: every 1.0 ms, with what has come in it: the rates of nodes farther from the root, the root's lowest, and
the partner's rate. -/
def execRateExchange (rates : List Nat) (lowest partner : Option Nat) (s : State) : Res :=
  let s := if s.ringMode then s.ringRates rates lowest else s
  .next (if s.pairMode then
      let s := s.sendTime 2 0x04 [0, s.ownRate]
      match partner with
      | some r => s.modRing (fun u => { u with partnerAdvice := some r })
      | none => s
    else s)

end Sys2Proof.Machine
end

