-- ==== Sys2Proof/Machine/Clock.lean ====
section
/-! DEFINITION. The loss and the return of the phase-locked loops and of the reference (R68, R69). -/

namespace Sys2Proof.Machine

/-- The bit of a loop in CLK.PLL_STATUS and PLL_LOSS. -/
def pllBit : Pll → Nat
  | .core => 0
  | .dram => 1
  | .peer => 2
  | .net => 3
  | .stby => 4
  | .ref => 8

/-- The bits that fall with a loop: the reference takes every loop with it. -/
def pllBits (p : Pll) : List Nat := if p = .ref then [0, 1, 2, 3, 4, 8] else [pllBit p]

/-- What the loss of one lock does (R69). -/
def State.lockEffect (s : State) (i : Nat) : State :=
  if i = 0 then s.moduleReset causeCLOCK false
  else if i = 1 then (List.range 6).foldl State.failDram s
  else if i = 2 then
    let s := (List.range 3).foldl (fun s p => s.peerDown p 0) s
    if s.pairMode then (s.modPair (fun p => { p with peerGood := 0 })).setPath false false else s
  else if i = 3 then ((s.netDown 0).netDown 1).forceHoldover
  else if i = 4 then s.standbyReset causeSTANDBY 0
  else s

/-- Record losses in PLL_LOSS. -/
def State.pllLost (s : State) (bits : List Nat) : State :=
  (bits.foldl (fun s i => s.wrB Reg.CLK_PLL_LOSS i true) s).intSet Reg.pageCLK 8

/-- PLL_LOSS_OF_LOCK: `long` is a loss of 1.0 µs or more; a shorter one only sets PLL_LOSS. A loop that has no lock
cannot lose it. -/
def execPllLossOfLock (pll : Pll) (long : Bool) (s : State) : Res :=
  if !s.bit Reg.CLK_PLL_STATUS (pllBit pll) then .next s
  else if !long then .next (s.pllLost [pllBit pll])
  else
    let bits := (pllBits pll).filter (s.bit Reg.CLK_PLL_STATUS)
    let was := s.rd Reg.CLK_PLL_STATUS
    let s := s.pllLost bits
    let s := s.tally 0x0020 0x02 0 2 (s.rd Reg.CLK_PLL_LOSS)
    let s := bits.foldl State.lockEffect s
    .next (s.wr Reg.CLK_PLL_STATUS (bits.foldl clrB was))

/-- PLL_LOCK_REGAINED. -/
def execPllLockRegained (pll : Pll) (s : State) : Res := .next (s.wrB Reg.CLK_PLL_STATUS (pllBit pll) true)

end Sys2Proof.Machine
end

