-- ==== Sys2Proof/Machine/Services.lean ====
section
/-! DEFINITION. The mailbox services of the module end (R444 to R449, R453, R474, R534). A command takes effect
once it is TAKEN and its body has been copied. -/

namespace Sys2Proof.Machine

/-- Firmware's ACK of a request. -/
def State.fwAck (s : State) (n code : Nat) : State := (s.mbResult n code).dropMessage n

/-- The codes of R449. -/
def ackOk : Nat := 0
def ackBadType : Nat := 1
def ackBadPointer : Nat := 2
def ackBadLength : Nat := 3
def ackBusy : Nat := 4
def ackDenied : Nat := 5
def ackAuthFail : Nat := 6
def ackInterlock : Nat := 7
def ackNoRoom : Nat := 9

/-- The module end of a channel runs: a Crew core from IDLE on, and Ranger. -/
def State.endRuns (s : State) (n : Nat) : Bool :=
  if n < 16 then s.mgmt.up && s.crewRuns (coreNum (s.moduleEnd n))
  else s.rangerRuns

/-- The body of a channel's message, once it is copied. -/
def State.body (s : State) (n : Nat) : Option (List Byte) := smGet (fun _ => none) s.host.bodies n

/-- A request stands TAKEN, and its body, if it has one, is copied. -/
def State.taken (s : State) (n type : Nat) : Bool :=
  toModule n && s.mbSt n == 2 && s.mbType n == type && s.endRuns n && (s.mbLen n == 0 || (s.body n).isSome)

/-- PAIR_STATUS as it reads: CONDITION and ROLE are 0 outside the pair modes, LEASE_LEFT counts down. -/
def State.leaseLeft (s : State) : Nat :=
  match s.pair.leaseEnd with
  | some e => min 0xFFFF ((e - s.frc) / 800000)
  | none => 0
def State.pairStatus (s : State) : Nat :=
  putFld (putFld (putFld (s.rd Reg.PAIR_PAIR_STATUS) 2 0 s.cond) 5 4 s.role) 31 16 s.leaseLeft

/-! ## Replies (R447, R448) -/

/-- The paired reply channel. -/
def replyOf (n : Nat) : Nat := n + 8

/-- What the MAC of a secure message covers: SESSION, the channel, and the body up to it (R453). -/
def State.macText (s : State) (n : Nat) (body : List Byte) : List Byte :=
  leBytes 4 s.host.sessionLo ++ leBytes 4 s.host.sessionHi ++ leBytes 1 n ++ body

/-- A message of this module on a secure channel: the form of R453, with the module's own counter. -/
def State.secureForm (s : State) (m type tag : Nat) (payload : List Byte) : State × List Byte :=
  let c := smGet (fun _ => 0) s.host.ownCounters m + 1
  let s := { s with host := { s.host with ownCounters := smSet (fun _ => 0) s.host.ownCounters m c } }
  let b := leBytes 8 c ++ leBytes 2 type ++ leBytes 2 tag ++ leBytes 4 payload.length ++ payload
  let x := s.macOf s.hostKey (s.macText m b)
  (x.1, b ++ x.2)

/-- Write the reply into the receive region and post it. -/
def State.postReply (s : State) (n : Nat) (payload : List Byte) : State :=
  let m := replyOf n
  let type := s.mbType n % 0x8000 + 0x8000
  let x := if n < 16 then (s, payload) else s.secureForm m type (s.mbTag n) payload
  let s := x.1.emit (.hostWrite (s.mbPasid m) (s.rd64 (kRxLo m) (kRxHi m)) x.2)
  let s := s.wrs [(kPtrLo m, s.rd (kRxLo m)), (kPtrHi m, s.rd (kRxHi m)), (kMsgLen m, x.2.length % 2 ^ 25),
    (kTypeTag m, type + s.mbTag n * 65536)]
  s.mbPost (s.moduleEnd m) m

/-- The bytes of the reply to a request whose payload has this length. -/
def replySize (n len : Nat) : Nat := if n < 16 then len else len + 48

/-- A reply channel that cannot carry a reply of a length: its region or its MAX_LEN is too small, or it may send no
request (R448, R437; log 102). -/
def State.noRoom (s : State) (m size : Nat) : Bool :=
  decide (s.rdF (kRxSize m) 24 0 < size) || decide (s.rdF (kMaxLen m) 24 0 < size) || s.mbPasidOff m

/-- Serve a command: `act` gives the state after it, the code, and its reply. A reply channel in use holds the
request, one without room refuses it; the command is then not acted on. -/
def State.serveCmd (s : State) (n type : Nat) (payload : List Byte)
    (act : State → State × Nat × Option (List Byte)) : State :=
  match act s with
  | (t, code, none) => t.fwAck n code
  | (t, code, some r) =>
    let m := replyOf n
    if s.mbSt m = 1 ∨ s.mbSt m = 2 then
      { s with host := { s.host with held := smSet (fun _ => none) s.host.held n (some (type, payload)) } }
    else if s.noRoom m (replySize n r.length) then s.fwAck n ackNoRoom
    else (t.postReply n r).fwAck n code

/-! ## The checks of a secure message (R453) -/

/-- A check that fails under AUTH_FAIL. -/
def State.authFail (s : State) : State :=
  ((s.count Reg.MBOXS_AUTH_FAIL_COUNT).intSet Reg.pageMBOXS 27).tally 0x0063 0xF0 0 1 1

/-- The fields of a secure body: COUNTER, TYPE, TAG, BODY_LEN, and the payload. -/
def bodyCounter (b : List Byte) : Nat := leValue (b.take 8)
def bodyType (b : List Byte) : Nat := leValue ((b.drop 8).take 2)
def bodyTag (b : List Byte) : Nat := leValue ((b.drop 10).take 2)
def bodyLen (b : List Byte) : Nat := leValue ((b.drop 12).take 4)
def bodyPayload (b : List Byte) : List Byte := (b.drop 16).take (bodyLen b)

/-- The code of the first check of R453 that a body fails. `first` marks the type of first provisioning. -/
def State.secureCheck (s : State) (n : Nat) (b : List Byte) (first : Bool) : Option Nat :=
  if s.mbLen n < 48 ∨ bodyLen b + 48 ≠ s.mbLen n then some ackBadLength
  else if bodyType b ≠ s.mbType n ∨ bodyTag b ≠ s.mbTag n then some ackBadType
  else if s.hostKey.isNone && !first then some ackAuthFail
  else if s.hostKey.isSome && !macOk s.hostKey (s.macText n (b.take (16 + bodyLen b))) (b.drop (16 + bodyLen b)) then
    some ackAuthFail
  else if bodyCounter b ≤ smGet (fun _ => 0) s.host.counters n then some ackAuthFail
  else none

/-- A command on a secure channel: its checks, the length of its payload, and then its service on the payload. -/
def State.secure (s : State) (n : Nat) (lenOk : Nat → Bool) (f : List Byte → State → State) : State :=
  let b := (s.body n).getD []
  match s.secureCheck n b (s.mbType n == 0x0101) with
  | some 6 => s.authFail.fwAck n ackAuthFail
  | some code => s.fwAck n code
  | none =>
    let s := { s with host := { s.host with counters := smSet (fun _ => 0) s.host.counters n (bodyCounter b) } }
    if lenOk (bodyLen b) then f (bodyPayload b) s else s.fwAck n ackBadLength

/-- A service that only the secure channels have (R454). -/
def State.secureOnly (s : State) (n : Nat) (lenOk : Nat → Bool) (f : List Byte → State → State) : State :=
  if n < 16 then s.fwAck n ackBadType else s.secure n lenOk f

/-! ## The common and the power services (R447, R534) -/

/-- A command without a body, which on a secure channel has the form of R453 with an empty payload. -/
def State.plain (s : State) (n : Nat) (f : State → State) : State :=
  if n ≥ 16 then s.secure n (· == 0) (fun _ => f)
  else if s.mbLen n ≠ 0 then s.fwAck n ackBadLength
  else f s

/-- The same where the secure channels do not have it: it passes their checks, and its type is unknown. -/
def State.plainOnly (s : State) (n : Nat) (f : State → State) : State :=
  s.plain n (fun s => if n ≥ 16 then s.fwAck n ackBadType else f s)

/-- PING. -/
def execPing (n : Fin 32) (s : State) : Res :=
  if s.taken n.val 0x0001 then .next (s.plain n.val (fun s => s.fwAck n.val ackOk)) else .next s

/-- The 64 bytes of GET_INFO. -/
def State.infoBytes (s : State) : List Byte :=
  ([Reg.SYS_DEVICE_ID, Reg.SYS_REVISION, Reg.SYS_SERIAL_LO, Reg.SYS_SERIAL_HI, Reg.SYS_FW_VERSION, Reg.SYS_CONFIG,
    Reg.SYS_MODULE_STATE].flatMap (fun k => leBytes 4 (s.rd k))) ++ leBytes 4 s.pairStatus ++ leBytes 8 s.nowNs
    ++ List.replicate 24 0
def State.getInfo (s : State) (n : Nat) : State := s.serveCmd n 0x0002 [] (fun t => (t, ackOk, some t.infoBytes))
def execGetInfo (n : Fin 32) (s : State) : Res :=
  if s.taken n.val 0x0002 then .next (s.plain n.val (fun s => s.getInfo n.val)) else .next s

/-- PARK. -/
def execParkRequest (n : Fin 32) (s : State) : Res :=
  if s.taken n.val 0x0200 then
    .next (s.plainOnly n.val (fun s =>
      if s.modState = 4 then (s.dramPark.setModule 6).fwAck n.val ackOk else s.fwAck n.val ackBusy))
  else .next s

/-- RESUME. -/
def execResumeRequest (n : Fin 32) (s : State) : Res :=
  if s.taken n.val 0x0201 then
    .next (s.plainOnly n.val (fun s =>
      let t := if s.modState = 6 then s.dramResume.setModule (if s.laneCondition then 4 else 3) else s
      t.fwAck n.val ackOk))
  else .next s

/-! ## The secure services (R474) -/

/-- Write a record and ACK: a full queue answers TEMP_INTERLOCK. -/
def State.keyRecord (s : State) (n kind key : Nat) (data : List Byte) : State :=
  match s.writeRecord kind key data with
  | some (t, _) => t.fwAck n ackOk
  | none => s.fwAck n ackInterlock

/-- SET_HOST_KEY and SET_LOOKOUT_KEY. -/
def execSetHostKey (n : Fin 32) (s : State) : Res :=
  if s.taken n.val 0x0101 then .next (s.secureOnly n.val (· == 32) (fun p s => s.keyRecord n.val 0x0030 0 p))
  else .next s
def execSetLookoutKey (n : Fin 32) (s : State) : Res :=
  if s.taken n.val 0x0102 then .next (s.secureOnly n.val (· == 32) (fun p s => s.keyRecord n.val 0x0031 0 p))
  else .next s

/-- ERASE_KEYS: DELETE for both keys, or for neither. -/
def State.eraseKeys (s : State) (n : Nat) : State :=
  match s.writeRecord 0x0040 (deleteKey 0x0030 0) [] with
  | none => s.fwAck n ackInterlock
  | some (t, _) =>
    match t.writeRecord 0x0040 (deleteKey 0x0031 0) [] with
    | none => s.fwAck n ackInterlock
    | some (u, _) => u.fwAck n ackOk
def execEraseKeys (n : Fin 32) (s : State) : Res :=
  if s.taken n.val 0x0103 then .next (s.secureOnly n.val (· == 0) (fun _ s => s.eraseKeys n.val)) else .next s

/-- KIND and KEY of a journal command. -/
def journalKind (p : List Byte) : Nat := leValue (p.take 2)
def journalKey (p : List Byte) : Nat := leValue ((p.drop 4).take 4)

/-- JOURNAL_WRITE: the reply holds STATE in four bytes and SEQ in eight. -/
def journalWriteAct (p : List Byte) (s : State) : State × Nat × Option (List Byte) :=
  let kind := journalKind p
  if kind < 0x8000 ∧ kind ≠ 0x0040 then (s, ackDenied, none)
  else if p.length - 8 > 1048576 then (s, ackBadLength, none)
  else match s.writeRecord kind (journalKey p) (p.drop 8) with
    | none => (s, ackInterlock, none)
    | some (t, st) => (t, ackOk, some (leBytes 4 st ++ leBytes 8 (t.mgmt.nextSeq - 1)))
def execJournalWrite (n : Fin 32) (s : State) : Res :=
  if s.taken n.val 0x0104 then
    .next (s.secureOnly n.val (fun k => decide (8 ≤ k)) (fun p s => s.serveCmd n.val 0x0104 p (journalWriteAct p)))
  else .next s

/-- The header of a record (R469). -/
def JournalRecord.header (r : JournalRecord) : List Byte :=
  let h := leBytes 4 0x4A524E4C ++ leBytes 2 r.kind ++ leBytes 2 (b2n (r.kind == 0x0030 || r.kind == 0x0031))
    ++ leBytes 8 r.seq ++ leBytes 4 r.key ++ leBytes 4 r.data.length ++ leBytes 4 (crc32c r.data)
  h ++ leBytes 4 (crc32c h)

/-- JOURNAL_READ: the reply holds the header and the payload of the record in force. -/
def journalReadAct (p : List Byte) (s : State) : State × Nat × Option (List Byte) :=
  let kind := journalKind p
  if kind = 0x0030 ∨ kind = 0x0031 then (s, ackDenied, none)
  else match s.record kind (journalKey p) with
    | none => (s, ackBadLength, none)
    | some r => (s, ackOk, some (r.header ++ r.data))
def execJournalRead (n : Fin 32) (s : State) : Res :=
  if s.taken n.val 0x0105 then
    .next (s.secureOnly n.val (· == 8) (fun p s => s.serveCmd n.val 0x0105 p (journalReadAct p)))
  else .next s

/-! ## The copy engine and the reply channel (R444, R448) -/

/-- The types that a channel's module end serves. -/
def knownType (n type : Nat) : Bool :=
  if n < 16 then [0x0001, 0x0002, 0x0200, 0x0201].contains type
  else [0x0001, 0x0002, 0x0101, 0x0102, 0x0103, 0x0104, 0x0105].contains type

/-- A message whose body is copied: one of a type that is not served is answered, after the checks of R453 on a secure
channel. -/
def State.bodyCopied (s : State) (n : Nat) (b : List Byte) : State :=
  let s := { s with host := { s.host with bodies := smSet (fun _ => none) s.host.bodies n (some b) } }
  if knownType n (s.mbType n) then s
  else if n < 16 then s.fwAck n ackBadType
  else s.secure n (fun _ => true) (fun _ s => s.fwAck n ackBadType)

/-- BODY_READ: the read of the body of a TAKEN message has brought its bytes, or has failed, as it does for a channel
that may send no request (R437, R444); another number of bytes than MSG_LEN is no body (log 102). -/
def execBodyRead (n : Fin 32) (read : Option (List Byte)) (s : State) : Res :=
  let n := n.val
  if !toModule n || s.mbSt n != 2 || !s.endRuns n then .next s
  else if s.mbLen n = 0 then .next (s.bodyCopied n [])
  else
    match read with
    | some b =>
      if s.mbPasidOff n || b.length != s.mbLen n then .next (s.fwAck n ackBadPointer) else .next (s.bodyCopied n b)
    | none => .next (s.fwAck n ackBadPointer)

/-- REPLY_CHANNEL_FREE: a held request proceeds once its reply channel is EMPTY or ACKED. -/
def execReplyChannelFree (n : Fin 32) (s : State) : Res :=
  let n := n.val
  match smGet (fun _ => none) s.host.held n with
  | none => .next s
  | some (type, payload) =>
    if s.mbSt n ≠ 2 ∨ s.mbSt (replyOf n) = 1 ∨ s.mbSt (replyOf n) = 2 then .next s
    else if type = 0x0002 then .next (s.getInfo n)
    else if type = 0x0104 then .next (s.serveCmd n type payload (journalWriteAct payload))
    else .next (s.serveCmd n type payload (journalReadAct payload))

/-- REPLY_ROOM_TIMEOUT: 10 ms have passed. -/
def execReplyRoomTimeout (n : Fin 32) (s : State) : Res :=
  match smGet (fun _ => none) s.host.held n.val with
  | none => .next s
  | some _ => .next (s.fwAck n.val ackBusy)

end Sys2Proof.Machine
end

