-- ==== Sys2Proof/Machine/Yarder.lean ====
section
/-! DEFINITION. The Yarder: queues, descriptors, regions, address translation and page faults (R127 to R140), and
the host-side resets of its queues (R438). Queue states: 0 IDLE, 1 RUNNING, 2 WAIT_CREDIT, 3 WAIT_PAGE,
4 WAIT_TILE, 5 FAULTED, 6 STOPPED, 7 DISABLED. A descriptor moves the bytes that a command brings, and completes
with its last. -/

namespace Sys2Proof.Machine

/-! ## Queues -/

def State.queue (s : State) (q : Nat) : Queue := smGet (fun _ => {}) s.job.queues q
def State.setQueue (s : State) (q : Nat) (x : Queue) : State :=
  { s with job := { s.job with queues := smSet (fun _ => {}) s.job.queues q x } }

def State.queueSt (s : State) (q : Nat) : Nat := s.rdF (Reg.YARD_Q_STATUS q) 3 0
def State.setQueueSt (s : State) (q v : Nat) : State := s.wrF (Reg.YARD_Q_STATUS q) 3 0 v

def State.queueHead (s : State) (q : Nat) : Nat := s.rdF (Reg.YARD_Q_HEAD q) 15 0
def State.queueTail (s : State) (q : Nat) : Nat := s.rdF (Reg.YARD_Q_TAIL q) 15 0
def State.queueSize (s : State) (q : Nat) : Nat := s.rdF (Reg.YARD_Q_CFG q) 12 8
def State.queuePf1 (s : State) (q : Nat) : Bool := s.bit (Reg.YARD_Q_CFG q) 1

/-- Enabled, with a SIZE_LOG2 of 4 to 16. -/
def State.queueOn (s : State) (q : Nat) : Bool :=
  s.bit (Reg.YARD_Q_CFG q) 0 && decide (4 ≤ s.queueSize q) && decide (s.queueSize q ≤ 16)

/-- RUNNING while there are descriptors, else IDLE; nothing is in progress. -/
def State.queueReady (s : State) (q : Nat) : State :=
  (s.setQueue q {}).setQueueSt q (if s.queueHead q = s.queueTail q then 0 else 1)

/-- The other queues of the same PRIORITY that have work and do not wait, and how many chunks a queue may move before they
have had theirs (R129). -/
def State.rivals (s : State) (q : Nat) : List Nat :=
  (List.range 16).filter (fun r => r != q && s.queueSt r == 1 && (s.queue r).wait == .none
    && s.rdF (Reg.YARD_Q_CFG r) 3 2 == s.rdF (Reg.YARD_Q_CFG q) 3 2)
def State.share (s : State) (q : Nat) : Nat := s.rdF (Reg.YARD_Q_CFG q) 7 4 + 1
def State.shareUsed (s : State) (q : Nat) : Nat := smGet (fun _ => 0) s.job.shares q
def State.useShare (s : State) (q n : Nat) : State :=
  { s with job := { s.job with shares := smSet (fun _ => 0) s.job.shares q n } }

/-- Once a queue and its rivals have all had their shares, all begin anew. -/
def State.newRound (s : State) (q : Nat) : State :=
  if (q :: s.rivals q).all (fun r => decide (s.share r ≤ s.shareUsed r)) then
    (q :: s.rivals q).foldl (fun s r => s.useShare r 0) s
  else s

/-- The bytes from a host address on that a queue may move now: none is no bound. -/
def State.turnBytes (s : State) (q addr : Nat) : Option Nat :=
  if (s.rivals q).isEmpty then none else some ((s.share q - s.shareUsed q) * 4096 - addr % 4096)

/-- The first n bytes of an access. -/
def cutHost (h : HostData) (lim : Option Nat) : HostData :=
  match lim with
  | none => h
  | some n =>
    match h with
    | .ok b => .ok (b.take n)
    | .miss => .miss
    | .refused b => if n < b.length then .ok (b.take n) else h
    | .error b => if n < b.length then .ok (b.take n) else h

/-- The chunks of 4 KiB that n bytes from an address on touch (R129). -/
def chunksOf (addr n : Nat) : Nat := if n = 0 then 0 else (addr % 4096 + n + 4095) / 4096

/-- DISABLED: ENABLE is 0. -/
def State.queueOff (s : State) (q : Nat) : State :=
  ((s.wrB (Reg.YARD_Q_CFG q) 0 false).setQueue q {}).setQueueSt q 7

/-- The PASID of the queue's host accesses (R127), and a queue that may send none since PASID Enable of its function is
clear (R437). -/
def State.queuePasid (s : State) (q : Nat) : Option Nat :=
  if s.bit (Reg.YARD_Q_PASID q) 31 then some (s.rdF (Reg.YARD_Q_PASID q) 19 0) else none
def State.pasidOff (s : State) (q : Nat) : Bool := (s.queuePasid q).isSome && !(s.pcieFn (s.queuePf1 q)).pasid

/-- A queue of higher PRIORITY has work and does not wait: it is served first (R129). -/
def State.outranked (s : State) (q : Nat) : Bool :=
  let pri r := s.rdF (Reg.YARD_Q_CFG r) 3 2
  (List.range 16).any (fun r => s.queueSt r == 1 && (s.queue r).wait == .none && decide (pri q < pri r))

/-- Bytes for host memory in chunks that cross no 4 KiB boundary (R129). -/
def hostChunks (addr : Nat) (b : List Byte) : Nat → List (Nat × List Byte)
  | 0 => []
  | n + 1 =>
    let c := 4096 - addr % 4096
    if b.isEmpty then [] else (addr, b.take c) :: hostChunks (addr + c) (b.drop c) n

/-- QUEUE_DOORBELL: a write of Qq_TAIL. -/
def State.doorbell (s : State) (q tail : Nat) : State :=
  let s := s.wr (Reg.YARD_Q_TAIL q) (tail % 65536)
  if s.queueSt q = 0 ∧ s.queueHead q ≠ s.queueTail q then s.setQueueSt q 1 else s
def execQueueDoorbell (src : Req) (q : Fin 16) (tail : Nat) (s : State) : Res :=
  if s.cutOff src then .next s else
  .next (s.doorbell q.val tail)

/-- Qq_CTRL.RESTART and STOP (R137). -/
def State.queueRestart (s : State) (q : Nat) : State :=
  if s.queueSt q = 5 ∨ s.queueSt q = 6 then s.queueReady q else s
def execQueueRestart (src : Req) (q : Fin 16) (s : State) : Res :=
  if s.cutOff src then .next s else
  .next (s.queueRestart q.val)
/-- STOP ends WAIT_PAGE at once: the page request is outstanding no more, and its response finds no queue waiting
(log 93). -/
def State.queueStop (s : State) (q : Nat) : State :=
  if s.queueSt q ≤ 4 then (s.setQueue q {}).setQueueSt q 6 else s
def execQueueStop (src : Req) (q : Fin 16) (s : State) : Res :=
  if s.cutOff src then .next s else
  .next (s.queueStop q.val)

/-! ## Descriptors (R131) -/

/-- A word of a descriptor, and its fields. -/
def dw (w : List Nat) (i : Nat) : Nat := w.getD i 0 % 2 ^ 32
def dKind (w : List Nat) : Nat := fld (dw w 0) 3 0
def dSealIn (w : List Nat) : Bool := bitOf (dw w 0) 4
def dIrq (w : List Nat) : Bool := bitOf (dw w 0) 5
def dLast (w : List Nat) : Bool := bitOf (dw w 0) 6
def dOut (w : List Nat) : Bool := bitOf (dw w 0) 7
def dPlane (w : List Nat) : Nat := fld (dw w 0) 10 8
def dTag (w : List Nat) : Nat := fld (dw w 0) 31 16
def dSrc (w : List Nat) : Nat := dw w 1 + dw w 2 * 2 ^ 32
def dSealSrc (w : List Nat) : Nat := dw w 3 + dw w 4 * 2 ^ 32
def dLength (w : List Nat) : Nat := dw w 5
def dCount (w : List Nat) : Nat := fld (dw w 5) 15 0
def dOffset (w : List Nat) : Nat := dw w 6 + fld (dw w 7) 4 0 * 2 ^ 32
def dRow (w : List Nat) : Nat := dw w 6
def dCol (w : List Nat) : Nat := fld (dw w 7) 13 8
def dRegion (w : List Nat) : Nat := fld (dw w 7) 29 24

/-- The row and the column of tile i of a TILE descriptor. -/
def State.tileOf (s : State) (w : List Nat) (i : Nat) : Nat × Nat :=
  let n := atLeast1 (s.tileCols (dPlane w))
  (dRow w + (dCol w + i) / n, (dCol w + i) % n)

/-- The bytes that a descriptor moves in all. -/
def dTotal (w : List Nat) : Nat := if dKind w = 1 then dCount w * tileBytes else dLength w

/-! ## The checks of R132 -/

/-- The tile lies where the arm of a repeat run would find it. -/
def State.tileFits (s : State) (w : List Nat) (i : Nat) : Bool :=
  let rc := s.tileOf w i
  s.located (dPlane w) rc.1 rc.2

/-- Tiles from `addr` to `stop` that the repeat r of an enabled plane holds. -/
def State.repUses (s : State) (addr stop r : Nat) : Bool :=
  s.enabledPlanes.any (fun p =>
    let first := s.tileAddr p (s.rd (Reg.JOB_REP_ROW r)) 0
    decide (addr < first + (s.repLength r + 63) / 64 * s.tileCols p * tileBytes) && decide (first < stop))

/-- Tiles of the main repeat, or of a held splice record (TILE_IN_USE). -/
def State.tilesInUse (s : State) (addr stop : Nat) : Bool :=
  s.repUses addr stop s.mainRep || s.splices.any (fun x => s.repUses addr stop x.rep)

/-- The code of the first check that fails. -/
def State.linearRefusal (s : State) (pf1 : Bool) (w : List Nat) : Option Nat :=
  let r := dRegion w
  let size := s.rd (Reg.YARD_REG_SIZE r) * 4096
  let base := s.rd (Reg.YARD_REG_BASE r) * 4096
  let perm := 8 + 2 * b2n pf1 + b2n (dOut w)
  if dLength w = 0 then some 0x0102
  else if dSrc w % 4 ≠ 0 then some 0x010E
  else if size = 0 ∨ s.regKind r = 1 ∨ s.regKind r = 2 then some 0x0104
  else if !s.bit (Reg.YARD_REG_ATTR r) perm then some 0x0105
  else if !s.inRegion r (base + dOffset w) (dLength w) then some 0x0103
  else none
def State.tileRefusal (s : State) (pf1 : Bool) (w : List Nat) : Option Nat :=
  let p := dPlane w
  let n := dCount w
  let t := s.tileRegion p
  let first := s.tileAddr p (dRow w) (dCol w)
  if dOut w then some 0x0101
  else if n = 0 ∨ n = 0xFFFF then some 0x0106
  else if dSrc w % 64 ≠ 0 ∨ dSealIn w ∧ dSealSrc w % 64 ≠ 0 then some 0x010E
  else if s.tileCols p = 0 ∨ s.regKind t ≠ 1 ∨ s.regKind (s.sealRegion p) ≠ 2 ∨ s.rd (Reg.YARD_REG_SIZE t) = 0
      ∨ s.rd (Reg.YARD_REG_SIZE (s.sealRegion p)) = 0 then some 0x0104
  else if !s.bit (Reg.YARD_REG_ATTR t) (8 + 2 * b2n pf1) then some 0x0105
  else if dCol w ≥ s.tileCols p then some 0x0107
  else if s.streaming then
    if (List.range n).any (fun i => !s.tileFits w i) then some 0x0103
    else if dRow w < s.rd Reg.JOB_STREAM_RELEASE_ROW then some 0x0109
    else none
  else if !s.tileFits w (n - 1) then some 0x0103
  else if s.modState = 5 ∧ s.tilesInUse first (first + n * tileBytes) then some 0x0108
  else none
def State.descRefusal (s : State) (q : Nat) (w : List Nat) : Option Nat :=
  if dKind w = 0 then s.linearRefusal (s.queuePf1 q) w
  else if dKind w = 1 then s.tileRefusal (s.queuePf1 q) w
  else some 0x0101

/-! ## The translation of host addresses (R135) -/

/-- USE_ATS, and ATS enabled in the configuration space of the queue's function. -/
def State.useAts (s : State) (q : Nat) : Bool := s.bit Reg.IOMMU_IOMMU_CFG 0 && (s.pcieFn (s.queuePf1 q)).ats
def State.usePri (s : State) : Bool := s.bit Reg.IOMMU_IOMMU_CFG 1

/-- What the cache translates n bytes from an address on to, for the function and the PASID of a queue. -/
def State.translation (s : State) (q addr n : Nat) : Option Nat :=
  (s.job.atc.find? (fun e => e.pf1 == s.queuePf1 q && e.pasid == s.queuePasid q && decide (e.base ≤ addr)
    && decide (addr + n ≤ e.base + e.size))).map (fun e => e.target + (addr - e.base))

/-- The address that a chunk carries on the link. -/
def State.busAddr (s : State) (q addr n : Nat) : Nat :=
  if s.useAts q then (s.translation q addr n).getD addr else addr

/-- The bytes from an address on whose chunks the cache holds. -/
def State.covered (s : State) (q addr n : Nat) : Nat → Nat
  | 0 => 0
  | fuel + 1 =>
    let c := min n (4096 - addr % 4096)
    if c ≠ 0 ∧ (s.translation q addr c).isSome then c + s.covered q (addr + c) (n - c) fuel else 0

/-- The chunks of n bytes that are issued have been found in the cache (R148). -/
def State.atcHits (s : State) (q addr n : Nat) : State :=
  if s.useAts q then s.wr Reg.IOMMU_ATC_HIT (satAdd 32 (s.rd Reg.IOMMU_ATC_HIT) (chunksOf addr n)) else s

/-- A miss: a Translation Request goes out, and the queue alone waits. -/
def State.askTranslation (s : State) (q addr : Nat) : State :=
  ((s.count Reg.IOMMU_ATC_MISS).setQueue q { s.queue q with wait := .translation, addr := addr }).emit
    (.pcie 1 (s.queuePasid q) (addr / 4096 * 4096))

/-! ## The end of a descriptor (R128, R137) -/

/-- A completion record goes out, once its address is translated. -/
def State.putRecord (s : State) (q : Nat) (b : List Byte) : State :=
  let wb := s.rd64 (Reg.YARD_Q_WB_LO q) (Reg.YARD_Q_WB_HI q)
  if s.useAts q && (s.translation q wb 8).isNone then
    (s.setQueue q { s.queue q with record := some b }).askTranslation q wb
  else
    let s := (s.atcHits q wb 8).emit (.hostWrite (s.queuePasid q) (s.busAddr q wb 8) b)
    (s.wrB Reg.YARD_QUEUE_DONE q true).intSet Reg.pageYARD 8

/-- The completion record, where one is due, on a queue that may send it (R128, R437). Its HEAD is Qq_HEAD at the
moment: of a descriptor that completes, the index after it (log 93). -/
def State.writeRecordOf (s : State) (q : Nat) (w : List Nat) (code : Nat) : State :=
  if !dIrq w && code == 0 || s.pasidOff q then s
  else s.putRecord q (leBytes 4 (s.queueHead q + dTag w * 65536) ++ leBytes 4 code)

/-- A descriptor completes with a code. -/
def State.completeDesc (s : State) (q : Nat) (w : List Nat) (code : Nat) : State :=
  let s := if code ≠ 0 then s.errHw Reg.pageYARD code else s
  let s := (s.wr (Reg.YARD_Q_HEAD q) ((s.queueHead q + 1) % 2 ^ s.queueSize q)).count (Reg.YARD_Q_DONE q)
  let s := s.wrF (Reg.YARD_Q_STATUS q) 31 16 code
  let s := if dLast w && dKind w == 1 && s.streaming && (code == 0 || code == 0x010A)
    then s.wr Reg.JOB_STREAM_LAST_ROW (s.tileOf w (dCount w - 1)).1 else s
  (s.queueReady q).writeRecordOf q w code

/-- What a descriptor that ends under R136 leaves: FAULTED, and the fault record. -/
def State.faultQueue (s : State) (q code cause addr : Nat) : State :=
  let s := (s.wrF (Reg.YARD_Q_STATUS q) 31 16 code).errHw Reg.pageYARD code
  let s := (((s.setQueue q {}).setQueueSt q 5).wrB Reg.YARD_QUEUE_FAULTED q true).intSet Reg.pageYARD 9
  let s := s.wr64 Reg.IOMMU_FAULT_ADDR_LO Reg.IOMMU_FAULT_ADDR_HI addr
  (s.wr Reg.IOMMU_FAULT_INFO (q + cause * 16 + s.rdF (Reg.YARD_Q_PASID q) 19 0 * 256)).intSet Reg.pageIOMMU 8

/-- A descriptor ends under R136, HEAD left at it. Where its own completion record cannot be written, it gets none. -/
def State.faultDesc (s : State) (q code cause addr : Nat) : State :=
  let x := s.queue q
  let s := s.faultQueue q code cause addr
  if x.record.isSome then s else s.writeRecordOf q (x.words.getD []) code

/-! ## Host accesses (R135, R136) -/

/-- Why the bytes of an access end where they do. -/
inductive Stop where
  | more | miss | refused | error
  deriving DecidableEq, Repr

/-- The bytes that an access brings, and why it ends there. Through the cache it brings no byte beyond the first
chunk that misses. -/
def State.fetch (s : State) (q addr need : Nat) (h : HostData) : List Byte × Stop :=
  let (b, st) : List Byte × Stop := match h with
    | .ok b => (b.take need, .more)
    | .miss => ([], .miss)
    | .refused b => (b.take need, .refused)
    | .error b => (b.take need, .error)
  if !s.useAts q then (b, if st = .more ∨ st = .miss then .more else .error)
  else
    let c := s.covered q addr b.length (b.length / 4096 + 2)
    if c < b.length ∨ st = .miss then (b.take c, .miss) else (b, st)

/-- A translation is refused at an address: a page request, or PAGE_FAULT. -/
def State.refusedAt (s : State) (q addr : Nat) : State :=
  if s.usePri then
    let s := (s.setQueue q { s.queue q with wait := .page, addr := addr }).setQueueSt q 3
    ((s.count Reg.IOMMU_PRG_COUNT).intSet Reg.pageYARD 11).emit (.pcie 2 (s.queuePasid q) (addr / 4096 * 4096))
  else s.faultDesc q 0x010B 1 addr

/-- An access ends at an address. -/
def State.stopAt (s : State) (q addr : Nat) : Stop → State
  | .more => s
  | .miss => s.askTranslation q addr
  | .refused => s.refusedAt q addr
  | .error => s.faultDesc q 0x010D 3 addr

/-- Bytes moved: BYTES, and the input of the stream queues; `into` marks a transfer into job memory. -/
def State.moveBytes (s : State) (q n : Nat) (into : Bool) : State :=
  let s := s.wr64 Reg.YARD_BYTES_LO Reg.YARD_BYTES_HI ((s.rd64 Reg.YARD_BYTES_LO Reg.YARD_BYTES_HI + n) % 2 ^ 64)
  let x := s.queue q
  let s := s.setQueue q { x with moved := x.moved + n }
  if into && s.rdF (Reg.YARD_Q_CFG q) 3 2 == 3 then { s with job := { s.job with bytesIn := s.job.bytesIn + n } } else s

/-! ## LINEAR -/

/-- The end of a move of n bytes of a LINEAR descriptor of which `need` were left: at the first chunk that reads as
uncorrectable, where the last byte was, or where the access ended. -/
def State.linearEnd (s : State) (q : Nat) (w : List Nat) (need : Nat) (bad : List (Nat × List Byte)) (n : Nat) (st : Stop) :
    State :=
  let from_ := dSrc w + (s.queue q).moved
  match bad with
  | p :: _ =>
    ((s.emit (.hostPoisoned (s.queuePasid q) (s.busAddr q p.1 p.2.length) p.2)).moveBytes q (p.1 - from_ + p.2.length) false).stopAt q p.1 .error
  | [] =>
    let s := s.moveBytes q n (!dOut w)
    if n = need then s.completeDesc q w 0 else s.stopAt q (from_ + n) st

/-- Move bytes of a LINEAR descriptor from where it stands. A chunk to the host that reads as uncorrectable is sent with the
EP bit and ends the descriptor (R422). -/
def State.moveLinear (s : State) (q : Nat) (w : List Nat) (h : HostData) (lim : Option Nat) : State :=
  let done := (s.queue q).moved
  let need := dLength w - done
  let from_ := dSrc w + done
  let at_ := s.rd (Reg.YARD_REG_BASE (dRegion w)) * 4096 + dOffset w + done
  let h := if dOut w then (match h with
      | .ok _ => .ok (s.memBytes at_ need)
      | .refused b => .refused (s.memBytes at_ (min need b.length))
      | .error b => .error (s.memBytes at_ (min need b.length))
      | .miss => .miss) else h
  match s.fetch q from_ need (cutHost h lim) with
  | (b, st) =>
    let s := (s.atcHits q from_ b.length).useShare q (s.shareUsed q + chunksOf from_ b.length)
    let chunks := if dOut w then hostChunks from_ b (b.length / 4096 + 2) else []
    let good := chunks.takeWhile (fun p => !s.poisonedIn (at_ + (p.1 - from_)) p.2.length)
    let s := if dOut w then
        s.emits (good.map (fun p => .hostWrite (s.queuePasid q) (s.busAddr q p.1 p.2.length) p.2))
      else if b.isEmpty then s else s.dramWrite 3 at_ b
    s.linearEnd q w need (chunks.drop good.length) b.length st

/-! ## TILE (R138, R140) -/

/-- The tile that a queue is in the middle of writing. -/
def State.writing (s : State) (q : Nat) : Option Nat :=
  let x := s.queue q
  match x.words with
  | some w =>
    if dKind w = 1 ∧ x.moved % tileBytes ≠ 0 then
      let rc := s.tileOf w (x.moved / tileBytes)
      some (tileKey (dPlane w) rc.1 rc.2)
    else none
  | none => none

/-- Another queue is writing a tile. -/
def State.writtenElsewhere (s : State) (q k : Nat) : Bool :=
  (List.range 16).any (fun r => r != q && s.writing r == some k)

/-- The seal block of a tile as it stands in job memory: the CRC-32C of each line. -/
def State.computeSeals (s : State) (addr : Nat) : List Byte :=
  (List.range 64).flatMap (fun l => leBytes 4 (crc32c (s.memBytes (addr + 2048 * l) 2048)))

/-- The last byte of a tile has been written: its seal block follows, and the tile is valid unless a supplied seal
disagrees. -/
def State.sealTile (s : State) (q p row col : Nat) (given : Option (List Byte)) : State :=
  let own := s.computeSeals (s.tileAddr p row col)
  let s := s.dramWrite 3 (s.sealAddr p row col) (given.getD own)
  if given.isNone || given == some own then s.tileBecomesValid p row col
  else
    let s := (s.count Reg.YARD_SEAL_MISMATCH_COUNT).wr Reg.YARD_SEAL_BAD (p + col * 256)
    ((s.wr Reg.YARD_SEAL_BAD_ROW row).intSet Reg.pageYARD 10).setQueue q { s.queue q with badSeal := true }

/-- Why a queue cannot begin tile (row, col): WAIT_CREDIT (R122) or WAIT_TILE. -/
def State.tileWait (s : State) (q p row col : Nat) : Option Nat :=
  if s.streaming && decide (s.streamRows ≤ row - s.rd Reg.JOB_STREAM_RELEASE_ROW) then some 2
  else if s.writtenElsewhere q (tileKey p row col) then some 4
  else none

/-- The writing of a tile's first byte clears its validity (R138). -/
def State.loseTile (s : State) (k : Nat) : State :=
  if (s.tileDigest k).isSome then (s.setTile k none).rowsLose else s.setTile k none

/-- Write the tiles that the data and the seal blocks reach, `n` tiles being left; `ds` and `ss` say why each
access ends. -/
def State.moveTiles (s : State) (q : Nat) (w : List Nat) (data seals : List Byte) (ds ss : Stop) : Nat → State
  | 0 => s.completeDesc q w (if (s.queue q).badSeal then 0x010A else 0)
  | n + 1 =>
    let p := dPlane w
    let i := dCount w - (n + 1)
    let (row, col) := s.tileOf w i
    let off := (s.queue q).moved % tileBytes
    let need := tileBytes - off
    match if off = 0 then s.tileWait q p row col else none with
    | some st => (s.setQueue q { s.queue q with wait := if st = 2 then .credit else .tile }).setQueueSt q st
    | none =>
      if dSealIn w && decide (seals.length < 256) then s.stopAt q (dSealSrc w + 256 * i + seals.length) ss
      else
        let b := data.take need
        let s := (s.atcHits q (dSrc w + tileBytes * i + off) b.length).useShare q
          (s.shareUsed q + chunksOf (dSrc w + tileBytes * i + off) b.length)
        let s := if b.isEmpty then s
          else ((s.loseTile (tileKey p row col)).dramWrite 3 (s.tileAddr p row col + off) b).moveBytes q b.length true
        if b.length < need then s.stopAt q (dSrc w + tileBytes * i + off + b.length) ds
        else
          let s := if dSealIn w then s.atcHits q (dSealSrc w + 256 * i) 256 else s
          let s := s.sealTile q p row col (if dSealIn w then some (seals.take 256) else none)
          s.moveTiles q w (data.drop need) (seals.drop 256) ds ss n

/-- Move tiles from where the descriptor stands. -/
def State.moveTile (s : State) (q : Nat) (w : List Nat) (h seals : HostData) (lim : Option Nat) : State :=
  let done := (s.queue q).moved
  let i := done / tileBytes
  let left := dCount w - i
  let (sb, ss) : List Byte × Stop :=
    if dSealIn w then s.fetch q (dSealSrc w + 256 * i) (256 * left) seals else ([], .more)
  let (b, ds) := s.fetch q (dSrc w + done) (dCount w * tileBytes - done) (cutHost h lim)
  s.moveTiles q w b sb ds ss left

/-! ## Running a descriptor -/

/-- The bytes that a queue may move in its turn, which its rivals of equal PRIORITY bound (R129). -/
def State.moveTurn (s : State) (q : Nat) (w : List Nat) (h seals : HostData) : State :=
  let s := s.newRound q
  match s.turnBytes q (dSrc w + (s.queue q).moved) with
  | some 0 => s
  | lim => if dKind w = 1 then s.moveTile q w h seals lim else s.moveLinear q w h lim

/-- Go on with the record or the descriptor in progress; the queue is RUNNING, and moves bytes once it is its turn. One that
may send no request ends with PAGE_FAULT (R437). -/
def State.goOn (s : State) (q : Nat) (h seals : HostData) : State :=
  let x := s.queue q
  let s := s.setQueue q { x with wait := .none, record := none }
  match x.record, x.words with
  | some b, _ => (if s.queueSt q = 3 then s.queueReady q else s).putRecord q b
  | none, some w =>
    let s := s.setQueueSt q 1
    if s.outranked q then s
    else if s.pasidOff q then s.faultDesc q 0x010B 1 (dSrc w + x.moved)
    else s.moveTurn q w h seals
  | none, none => s.setQueueSt q 1

/-- The descriptor at HEAD: the checks of R132, and then its data. A queue that may send no request cannot even read
it (R437). -/
def State.runDesc (s : State) (q : Nat) (w : List Nat) (h seals : HostData) : State :=
  if s.queueSt q ≠ 1 ∨ (s.queue q).wait ≠ .none ∨ s.outranked q then s
  else if s.pasidOff q && (s.queue q).words.isNone then
    s.faultDesc q 0x010B 1 (s.rd64 (Reg.YARD_Q_BASE_LO q) (Reg.YARD_Q_BASE_HI q) + 32 * s.queueHead q)
  else match (s.queue q).words with
    | some v => if v = w then s.goOn q h seals else s
    | none =>
      match s.descRefusal q w with
      | some code => s.completeDesc q w code
      | none => (s.setQueue q { words := some w }).goOn q h seals

/-- LINEAR: every descriptor whose KIND is not TILE. -/
def execLinearDesc (q : Fin 16) (words : List Nat) (host : HostData) (s : State) : Res :=
  if dKind words = 1 then .next s else .next (s.runDesc q.val words host .miss)

/-- TILE. -/
def execTileDesc (q : Fin 16) (words : List Nat) (host seals : HostData) (s : State) : Res :=
  if dKind words = 1 then .next (s.runDesc q.val words host seals) else .next s

/-- STREAM_CREDIT_RESUME. -/
def execStreamCreditResume (q : Fin 16) (host seals : HostData) (s : State) : Res :=
  if s.queueSt q.val = 2 then .next (s.goOn q.val host seals) else .next s

/-- TILE_WAIT_RESUME. -/
def execTileWaitResume (q : Fin 16) (host seals : HostData) (s : State) : Res :=
  if s.queueSt q.val = 4 then .next (s.goOn q.val host seals) else .next s

/-! ## Translation and pages -/

/-- TRANSLATION_COMPLETION: a page of `size` bytes at `base` translates to `target`, or a refusal. -/
def execTranslationCompletion (q : Fin 16) (base size target : Nat) (ok : Bool) (host seals : HostData) (s : State) : Res :=
  let x := s.queue q.val
  if x.wait ≠ .translation then .next s
  else if ok then
    let e : AtcEntry := {
      pf1 := s.queuePf1 q, pasid := s.queuePasid q, base := base, size := size, target := target }
    let s := { s with job := { s.job with atc := (e :: s.job.atc).take 512 } }
    .next (s.goOn q.val host seals)
  else .next (s.refusedAt q.val x.addr)

/-- INVALIDATION_REQUEST: the entries that the range touches go; the completion follows. -/
def execInvalidationRequest (base size : Nat) (s : State) : Res :=
  let keep (e : AtcEntry) := !(decide (e.base < base + size) && decide (base < e.base + e.size))
  let s := { s with job := { s.job with atc := s.job.atc.filter keep } }
  .next (((s.count Reg.IOMMU_INVAL_COUNT).intSet Reg.pageIOMMU 9).emit (.pcie 3 none base))

/-- PAGE_REQUEST_RESPONSE: the chunk is translated again, or the descriptor ends. -/
def execPageRequestResponse (q : Fin 16) (ok : Bool) (host seals : HostData) (s : State) : Res :=
  let q := q.val
  if s.queueSt q ≠ 3 then .next s
  else if ok then .next (s.goOn q host seals)
  else .next ((s.count Reg.IOMMU_PRG_FAIL).faultDesc q 0x010B 1 (s.queue q).addr)

/-- PRI_TIMEOUT. -/
def execPriTimeout (q : Fin 16) (s : State) : Res :=
  let q := q.val
  if s.queueSt q = 3 then .next ((s.count Reg.IOMMU_PRG_FAIL).faultDesc q 0x010C 2 (s.queue q).addr) else .next s

/-- ATC_FLUSH. -/
def State.atcFlush (s : State) : State := { s with job := { s.job with atc := [] } }
def execAtcFlush (src : Req) (s : State) : Res :=
  if s.cutOff src then .next s else
  .next s.atcFlush

/-! ## Region entries (R133) -/

/-- Two enabled regions overlap. -/
def State.regionsOverlap (s : State) (a b : Nat) : Bool :=
  let s1 := s.rd (Reg.YARD_REG_SIZE a)
  let s2 := s.rd (Reg.YARD_REG_SIZE b)
  let b1 := s.rd (Reg.YARD_REG_BASE a)
  let b2 := s.rd (Reg.YARD_REG_BASE b)
  s1 != 0 && s2 != 0 && decide (b1 < b2 + s2) && decide (b2 < b1 + s1)

/-- The regions that an enabled plane's source, or a descriptor in flight, names. -/
def State.regionNamed (s : State) (r : Nat) : Bool :=
  s.enabledPlanes.any (fun p => s.tileCols p != 0 && (s.tileRegion p == r || s.sealRegion p == r)) ||
    (List.range 16).any (fun q => match (s.queue q).words with
      | some w => if dKind w = 1 then s.tileRegion (dPlane w) == r || s.sealRegion (dPlane w) == r else dRegion w == r
      | none => false)

/-- The key and the writable bits of a region's register: 0 BASE, 1 SIZE, 2 ATTR. -/
def regionKey (r reg : Nat) : Nat :=
  if reg = 0 then Reg.YARD_REG_BASE r else if reg = 1 then Reg.YARD_REG_SIZE r else Reg.YARD_REG_ATTR r
def regionMask (reg : Nat) : Nat := if reg = 2 then 0x0000FF07 else 0x01FFFFFF

/-- REGION_WRITE. The entries of regions 56 to 63 are FIXED: ATTR is read-only for every requester (R134), all of them
for PF0 and PF1 (R133). -/
def State.regionWrite (s : State) (src : Req) (r reg data : Nat) : State :=
  let k := regionKey r reg
  let m := regionMask reg
  let t := s.wr k ((data &&& m) + (s.rd k - (s.rd k &&& m)))
  let err code := s.errAt Reg.pageYARD code k src
  if decide (56 ≤ r) && (isHost src || reg == 2) then err 0x0005
  else if decide (r < 56) && (List.range 64).any (fun q => q != r && t.regionsOverlap r q) then err 0x0110
  else if s.modState = 5 ∧ s.regionNamed r then err 0x0111
  else if t.regKind r = 1 ∧ t.rd (Reg.YARD_REG_SIZE r) ≠ 0 ∧ t.rd (Reg.YARD_REG_BASE r) % 32 ≠ 0 then err 0x0113
  else t.rowsLose
def execRegionWrite (src : Req) (r : Fin 64) (reg : Fin 3) (data : Nat) (s : State) : Res :=
  if s.cutOff src then .next s else
  .next (s.regionWrite src r.val reg.val data)

/-! ## Resets of the host side (R438, R450) -/

/-- The MSI-X vectors of a function start anew. -/
def State.clearVectors (s : State) (pf1 : Bool) : State :=
  { s with
    msix := s.msix.filter (fun e => decide (e.1 < 64) == pf1)
    regs := smClear (fun k => k / 0x1000 == 0x300 + b2n pf1) s.regs }

/-- The configuration of a function returns to reset, and the function to D0. -/
def State.clearFn (s : State) (pf1 : Bool) : State :=
  { s with host := if pf1 then { s.host with fn1 := {}, sleep1 := false } else { s.host with fn0 := {}, sleep0 := false } }

/-- A function-level reset: configuration, queues, locks, the host ends of its channels. -/
def State.functionReset (s : State) (pf1 : Bool) : State :=
  let s := (((List.range 16).filter (fun q => s.queuePf1 q == pf1)).foldl State.queueOff s)
  (((s.releaseLocks (if pf1 then .pf1 else .pf0)).detach pf1).clearVectors pf1).clearFn pf1

/-- FUNCTION_LEVEL_RESET, or D3hot: the same, and the function is served no access until it returns to D0, where the host
configures it again. -/
def execFunctionLevelReset (pf1 d3 : Bool) (s : State) : Res :=
  let s := s.functionReset pf1
  .next { s with host := if pf1 then { s.host with sleep1 := d3 } else { s.host with sleep0 := d3 } }

/-- PERST#, hot reset, or link down. -/
def execPerst (s : State) : Res :=
  let s := (s.functionReset false).functionReset true
  .next ({ s.atcFlush with host := { s.host with link := false } })

/-- The capabilities of a function in the order of R435, by their numbers in configuration space (PRESUMED, log 43):
PCI Express, Power Management, MSI-X, AER, for PF0 the Device Serial Number, ATS, PRI, PASID. No other is there: no SR-IOV, no
ARI (R434). -/
def pciCaps (pf1 : Bool) : List Nat := [0x10, 0x01, 0x11, 0x0001] ++ (if pf1 then [] else [0x0003]) ++ [0x000F, 0x0013, 0x001B]

/-- What a function answers configuration requests with (R435): vendor, device, class code, revision, MSI-X vectors, the sizes
of BAR0 and BAR2, the capabilities, and for PF0 the Device Serial Number. -/
def State.pciIdentity (s : State) (pf1 : Bool) : List Nat :=
  let rev := (s.rdF Reg.SYS_REVISION 31 24 - 0x41) * 16 + s.rdF Reg.SYS_REVISION 23 16
  if pf1 then [0x1FA7, 0x2081, 0x108000, rev, 16, 0x10000, 0] ++ pciCaps true
  else [0x1FA7, 0x2080, 0x118000, rev, 64, 0x2000000, 0x10000] ++ pciCaps false
    ++ [s.rd Reg.SYS_SERIAL_LO, s.rd Reg.SYS_SERIAL_HI]

/-- What both functions support (R434, R437): maximum payload and maximum read request in bytes, non-posted requests
outstanding, ATS invalidations queued, page requests outstanding, bits of a PASID. -/
def pciLimits : List Nat := [512, 4096, 256, 32, 64, 20]

/-- PCIE_LINK_UP: the link trains at a generation and a width of 2^w lanes, and the host configures the two functions, which
are in D0 (log 43). The answer is what configuration requests now read: the link, and the two functions. -/
def execPcieLinkUp (gen : Fin 4) (width : Fin 5) (fn0 fn1 : PcieFn) (s : State) : Res :=
  .next ({ s with host := { s.host with
    link := true, gen := gen.val + 1, width := 2 ^ width.val, fn0 := fn0, fn1 := fn1, sleep0 := false, sleep1 := false } }.answer
      ([gen.val + 1, 2 ^ width.val] ++ pciLimits ++ s.pciIdentity false ++ s.pciIdentity true))

end Sys2Proof.Machine
end

