-- ==== Sys2Proof/Machine/RegAccess.lean ====
section
/-! DEFINITION. The register space as a requester reaches it (chapter 2): the address map, what each register
reads, the reads that have an effect, the accesses that are not one aligned word, and the locks. -/

namespace Sys2Proof.Machine

/-! ## The address map (R55 to R57, R435, R436) -/

/-- Where an access falls: a register, a table aperture, a reserved place that reads zero without record, the pending
bit array of a function, or an unmapped address. -/
inductive Spot where
  | reg (key : Nat)
  | table (addr : Nat)
  | reserved
  | pba (pf1 : Bool) (word : Nat)
  | unmapped
  deriving DecidableEq, Repr

/-- The address ranges of the table apertures (R57): first address, and the one after the last. -/
def apertures : List (Nat × Nat) := [(0x400000, 0x700000), (0x800000, 0xB00000), (0xC00000, 0xD00000),
  (0xD00000, 0xD10000), (0xD10000, 0xD10200), (0xD20000, 0xD50000), (0xE00000, 0xF00000), (0xF00000, 0x1000000)]
def inAperture (a : Nat) : Bool := apertures.any (fun r => r.1 ≤ a && decide (a < r.2))

/-- The registers of ISPCTX that belong to the context which CTX_SELECT names (R256, R275). -/
def State.banked (s : State) (k : Nat) : Nat :=
  let off := k % 0x1000
  if k / 0x1000 = Reg.pageISPCTX_PORT ∧ (off = 0x024 ∨ off = 0x028 ∨ 0x044 ≤ off) then
    Reg.pageISPCTX (s.rdF (Reg.pageISPCTX_PORT * 0x1000 + 0x040) 3 0) * 0x1000 + off
  else k

/-- A register page of PF0 BAR0, or an aperture. -/
def State.bar0Spot (s : State) (a : Nat) : Spot :=
  if a < 0x100000 then
    match pageAt (a / 0x1000) with
    | some _ => .reg (s.banked a)
    | none => .unmapped
  else if inAperture a then .table a
  else .unmapped

/-- PF0 BAR2 (R436): the windows of MBk and MB(8 + k), the MSI-X table and its pending bits. -/
def bar2Spot (o : Nat) : Spot :=
  let k := o / 0x1000
  let w := o % 0x1000
  if k < 8 then
    if w < 0x40 then .reg (Reg.pageMBOX * 0x1000 + 0x100 + 0x40 * k + w)
    else if w < 0x80 then .reg (Reg.pageMBOX * 0x1000 + 0x100 + 0x40 * (8 + k) + (w - 0x40))
    else .reserved
  else if 0x8000 ≤ o ∧ o < 0x8400 then .reg (0x300000 + (o - 0x8000))
  else if 0x9000 ≤ o ∧ o < 0x9008 then .pba false ((o - 0x9000) / 4)
  else .reserved

/-- PF1 BAR0 (R56, R435). -/
def pf1Spot (a : Nat) : Spot :=
  if a < 0x3000 then .reg (0x100000 + a)
  else if 0x4000 ≤ a ∧ a < 0x5000 then .reg a
  else if 0x8000 ≤ a ∧ a < 0x8100 then .reg (0x301000 + (a - 0x8000))
  else if 0x9000 ≤ a ∧ a < 0x9008 then .pba true ((a - 0x9000) / 4)
  else .unmapped

/-- Where the access of a requester falls. PF0 addresses from 0x200_0000 on are offsets in BAR2; firmware and the peer
agent address pages by index, and only Ranger reaches the secure pages. -/
def State.spot (s : State) (src : Req) (a : Nat) : Spot :=
  match src with
  | .pf0 => if 0x2000000 ≤ a then bar2Spot (a - 0x2000000) else s.bar0Spot a
  | .pf1 => pf1Spot a
  | .ranger => if 0x100000 ≤ a ∧ a < 0x103000 then .reg a else s.bar0Spot a
  | _ => s.bar0Spot a

/-! ## Recording errors of accesses -/

/-- Record an error of an access on its page; UNMAPPED and BAD_ACCESS on SYS set SYS.INT_STATUS.UNMAPPED (R67). -/
def State.accessErr (s : State) (page code off : Nat) (src : Req) : State :=
  let s := s.error (headerPage page) code (off % 0x1000) (srcCode src)
  if page = Reg.pageSYS ∧ (code = 3 ∨ code = 4) then s.intSet Reg.pageSYS 9 else s

/-- An access to an unmapped address (R43). -/
def State.unmappedAt (s : State) (src : Req) (a : Nat) : State :=
  s.accessErr (if src = .pf1 then Reg.pageMBOXS else Reg.pageSYS) 4 a src

/-! ## Interrupt groups (R59, R60, R452) -/

/-- The pages of a group. -/
def groupPages (g : Nat) : List Nat :=
  if g < 4 then [g]
  else if g = 4 then [Reg.pageLOCKS] else if g = 5 then [Reg.pageINTC]
  else if g < 9 then [0x010 + (g - 6)]
  else if g < 17 then [Reg.pagePLANE (g - 9)]
  else if g < 33 then (List.range 8).map (fun i => Reg.pageCH (8 * (g - 17) + i))
  else if g = 33 then [Reg.pageYARD, Reg.pageIOMMU]
  else if g = 34 then [Reg.pageJOB]
  else if g = 35 then (List.range 6).map Reg.pageDRAM
  else if g < 38 then [Reg.pageCAM (g - 36)]
  else if g = 38 then [Reg.pageISP, Reg.pageISPCTX_PORT]
  else if g = 39 then [Reg.pageSTATS]
  else if g = 40 then [Reg.pageSCALER]
  else if g = 41 then (List.range 4).map Reg.pageLAMP ++ [Reg.pageLAMPSEQ]
  else if g = 42 then [Reg.pageNET 0, Reg.pageNET 1, Reg.pagePRP]
  else if g = 43 then [Reg.pageTIME, Reg.pageTIO]
  else if g < 47 then [Reg.pagePEER (g - 44)]
  else if g = 47 then [Reg.pagePAIR]
  else if g = 48 then [Reg.pageRING]
  else if g = 49 then [Reg.pageMBOX]
  else [Reg.pageTALLY]

/-- The enabled causes of a page. -/
def State.causes (s : State) (page : Nat) : Nat := s.rd (Reg.INT_STATUS page) &&& s.rd (Reg.INT_ENABLE page)

/-- The bits of MBOX.INT_STATUS that go straight to a vector: channels with CFG.DIRECT, and EVT_CFG (R452). -/
def State.directBits (s : State) : Nat :=
  maskOf (((List.range 16).filter (fun n => s.bit (Reg.MBOX_MB_CFG n) 6)).map (· + 8)
    ++ if s.bit Reg.MBOX_EVT_CFG 7 then [24, 25, 26] else [])

/-- A page requests toward INTC. -/
def State.pageRequests (s : State) (page : Nat) : Bool :=
  if page = Reg.pageMBOX then (bitsOf 32 (s.causes page)).any (fun i => !bitOf s.directBits i)
  else s.causes page != 0

/-- A group is active: not masked, and a page of it requests. -/
def State.groupMasked (s : State) (g : Nat) : Bool :=
  if g < 32 then s.bit Reg.INTC_GROUP_MASK0 g else s.bit Reg.INTC_GROUP_MASK1 (g - 32)
/-- What firmware's own interrupt path shows of a group, whatever the masks and ROUTE_HOST (R61). -/
def State.groupRequests (s : State) (g : Nat) : Bool := (groupPages g).any s.pageRequests
def State.groupActive (s : State) (g : Nat) : Bool := !s.groupMasked g && s.groupRequests g

/-- The PF0 vector of a group, with ROUTE_HOST. -/
def State.groupVector (s : State) (g : Nat) : Option Nat :=
  let b := s.rdF (Reg.INTC_VEC_MAP (g / 4)) (8 * (g % 4) + 7) (8 * (g % 4))
  if bitOf b 7 then some (b % 64) else none

/-- Whether a vector is active: 0-63 of PF0, 64-79 of PF1 (R61, R452). -/
def State.vectorActive (s : State) (v : Nat) : Bool :=
  if v < 64 then
    (List.range 51).any (fun g => s.groupVector g == some v && s.groupActive g)
      || (List.range 16).any (fun n => s.bit (Reg.MBOX_MB_CFG n) 6 && s.rdF (Reg.MBOX_MB_CFG n) 5 0 == v
          && bitOf (s.causes Reg.pageMBOX) (8 + n))
      || (s.bit Reg.MBOX_EVT_CFG 7 && s.rdF Reg.MBOX_EVT_CFG 5 0 == v && fld (s.causes Reg.pageMBOX) 26 24 != 0)
  else
    let m := Reg.MBOXS_VEC_MAP
    let c := s.causes Reg.pageMBOXS
    (List.range 16).any (fun n => s.rdF (Reg.MBOXS_MB_CFG n) 3 0 == v - 64 && bitOf c (8 + n))
      || (s.rdF m 3 0 == v - 64 && (fld c 7 0 != 0 || fld c 31 24 != 0))
      || (s.rdF m 11 8 == v - 64 && s.requests Reg.pageNVS)
      || (s.rdF m 19 16 == v - 64 && s.requests Reg.pageFW)

def State.vector (s : State) (v : Nat) : MsixVector := smGet (fun _ => {}) s.msix v
def State.setVector (s : State) (v : Nat) (x : MsixVector) : State :=
  { s with msix := smSet (fun _ => {}) s.msix v x }

/-- The mask bit of a vector's entry in the MSI-X table. -/
def State.vectorMasked (s : State) (v : Nat) : Bool :=
  s.bit (if v < 64 then 0x30000C + 16 * v else 0x30100C + 16 * (v - 64)) 0

/-- A vector owes a message: it is active, none has been sent since the last VEC_ACK, and HOLDOFF has passed. -/
def State.vectorOwes (s : State) (v : Nat) : Bool :=
  s.vectorActive v && !(s.vector v).sent &&
  match (s.vector v).last with
  | some t => decide (t + usClk (s.rdF Reg.INTC_HOLDOFF 15 0) ≤ s.frc)
  | none => true

/-- The standard masks let a vector's message through: MSI-X enabled, and neither the function nor the entry masked. -/
def State.vectorOpen (s : State) (v : Nat) : Bool :=
  let f := s.pcieFn (decide (64 ≤ v))
  f.msix && !f.masked && !s.vectorMasked v

/-- Send the message that a vector owes, unless a mask holds it. -/
def State.sendVector (s : State) (v : Nat) : State :=
  if s.vectorOwes v && s.vectorOpen v then
    (s.setVector v { sent := true, last := some s.frc }).emit (.msix v)
  else s

/-- VEC_ACK: the vector may send again, and does if it is active (R61, R452). -/
def State.ackVector (s : State) (v : Nat) : State :=
  (s.setVector v { s.vector v with sent := false }).sendVector v
def execVecAck (pf1 : Bool) (vec : Nat) (s : State) : Res :=
  .next (s.ackVector (if pf1 then 64 + vec % 16 else vec % 64))

/-- MSIX_MESSAGE: a vector that has become active, or whose HOLDOFF has passed. -/
def execMsixMessage (vec t : Nat) (s : State) : Res :=
  let s := s.till t
  .next (if vec < 80 then s.sendVector vec else s)

/-- A word of the pending bit array: vectors whose message waits for the mask. -/
def State.pendingBits (s : State) (pf1 : Bool) (word : Nat) : Nat :=
  maskOf ((List.range 32).filter (fun i =>
    let v := 32 * word + i
    if pf1 then v < 16 && s.vectorOwes (64 + v) else s.vectorOwes v))

/-! ## What registers read -/

/-- ARMED of a CH or PLANE page: a slot that is armed or ramping holds an action for it (R50). -/
def State.slotHolds (s : State) (page : Nat) : Bool :=
  (List.range 32).any (fun n => (s.slotSt n == 1 || s.slotSt n == 2 || s.slotSt n == 7) && (s.slotPages n).contains page)

/-- JOB.STATUS.STATE (R149). -/
def State.jobState (s : State) : Nat :=
  if s.runSt ≠ 0 then 2
  else if s.streaming then (if s.ringRefusal.isNone then 1 else 0)
  else if s.jobRefusal.isNone || s.repValid s.mainRep then 1 else 0

/-- A header register. -/
def State.liveHeader (s : State) (p : PageType) (page off : Nat) : Nat :=
  let v := s.rd (page * 0x1000 + off)
  if off = 0x024 ∧ (p = .ch ∨ p = .plane) then putB v 1 (s.slotHolds page)
  else if off = 0x00C ∧ p = .job then putFld v 7 4 s.jobState
  else if off = 0x00C ∧ p = .pair then putFld v 7 4 (if s.pairMode then fld v 7 4 else 0)
  else v

/-- The nozzles of a channel in a state now in force (R178); all are DISABLED while R156 treats them so. -/
def State.nozzleCount (s : State) (c st : Nat) : Nat :=
  if s.bit (Reg.CH_SCREEN_STATE c) 0 then (if st = 3 then 6144 else 0)
  else ((List.range 6144).filter (fun n => s.tableState c n s.nextLine == st)).length

/-- A channel ramps under an action. -/
def State.rampsNow (s : State) (action c : Nat) : Bool := (s.rampAt action c s.nextLine).isSome

/-- The slots whose state is among those given. -/
def State.slotsIn (s : State) (sts : List Nat) : Nat :=
  maskOf ((List.range 32).filter (fun n => sts.contains (s.slotSt n)))

/-- Elapsed seconds, saturating at 16 bits. -/
def State.seconds (s : State) (t : Nat) : Nat := min 0xFFFF (s.since t / 800000000)

/-- The entry that READ_SEQ selects. -/
def State.tallyRead (s : State) : Option (Nat × TallyEntry) :=
  s.mgmt.log.find? (fun e => e.1 % 2 ^ 32 == s.rd Reg.TALLY_READ_SEQ)

/-- A block register: what it reads now. -/
def State.liveBlock (s : State) (p : PageType) (i k : Nat) : Nat :=
  let v := s.rd k
  let off := k % 0x1000
  match p with
  | .intc =>
    if off = 0x040 then maskOf ((List.range 32).filter s.groupActive)
    else if off = 0x044 then maskOf ((List.range 19).filter (fun g => s.groupActive (32 + g)))
    else if 0x050 ≤ off ∧ off < 0x060 then
      maskOf ((List.range 32).filter (fun c => s.requests (Reg.pageCH (32 * ((off - 0x050) / 4) + c))))
    else v
  | .locks =>
    let held a := maskOf ((List.range 32).filter (fun n => smGet (fun _ => 0) s.locks (a + n) != 0))
    if off = 0x140 then held 0 else if off = 0x144 then held 32 else v
  | .enc =>
    if off = 0x05C then
      putB (putB (putB (putB v 0 (s.los 0)) 1 (s.los 1)) 2 (s.encOn 0 && bitOf v 2)) 3 (s.encOn 1 && bitOf v 3)
    else v
  | .apply =>
    if off = 0x040 then s.slotsIn [0, 4, 5, 6]
    else if off = 0x050 then s.slotsIn [2, 3]
    else if off = 0x054 then s.nextLine
    else v
  | .ch =>
    if off = 0x0DC then putB (putB v 1 (s.rampsNow 1 i)) 2 (s.rampsNow 2 i)
    else if off = 0x0E0 then s.nozzleCount i 1 + s.nozzleCount i 2 * 65536
    else if off = 0x0E4 then s.nozzleCount i 3
    else if off = 0x0BC then (s.lane i).counter (s.rdF (Reg.CH_CNT_SEL i) 3 0)
    else v
  | .yard =>
    if off = 0x040 then maskOf ((List.range 16).filter (fun q => decide (1 ≤ s.queueSt q) && decide (s.queueSt q ≤ 4)))
    else v
  | .iommu =>
    if off = 0x044 then s.job.atc.length
    else if off = 0x058 then ((List.range 16).filter (fun q => (s.queue q).wait == .page)).length
    else v
  | .job =>
    if off = 0x050 then maskOf ((List.range 16).filter s.repValid)
    else if off = 0x054 then maskOf ((List.range 16).filter s.repAgreed)
    else if off = 0x098 then s.splices.length
    else v
  | .isp => if off = 0x058 then s.ispLoad else v
  | .lamp =>
    if 0x100 ≤ off ∧ off < 0x300 ∧ off % 32 = 0x14 then
      let c := 16 * i + (off - 0x100) / 32
      if s.lampMode c = 3 ∧ (s.lampCh c).pulses.all (fun q => decide (q.1 + q.2 ≤ s.frc)) then 0 else v
    else v
  | .dram =>
    if off = 0x0A8 then s.dramRate i true else if off = 0x0AC then s.dramRate i false else v
  | .scaler =>
    if off = 0x150 then putB v 2 ((List.range 8).any (fun n => slotLive (s.slotSt (24 + n)))) else v
  | .pair => if off = 0x050 then s.pairStatus else if off = 0x078 then s.health else v
  | .net =>
    if off = 0x074 then
      match s.net.agree with
      | some t => if bitOf v 3 then putFld v 31 16 (s.seconds t) else v
      | none => v
    else v
  | .time =>
    if off = 0x044 then (if s.servoSt = 3 ∨ s.servoSt = 4 then putFld v 31 16 (s.seconds s.net.holdFrc) else v)
    else if off = 0x068 then s.nowNs % 2 ^ 32
    else if off = 0x06C then s.nowNs / 2 ^ 32
    else if off = 0x070 then s.frc % 2 ^ 32
    else if off = 0x074 then s.frc / 2 ^ 32 % 2 ^ 32
    else v
  | .tio =>
    if off = 0x050 then (s.capHead.map (·.frc % 2 ^ 32)).getD 0
    else if off = 0x054 then (s.capHead.map (·.frc / 2 ^ 32 % 2 ^ 32)).getD 0
    else if off = 0x058 then (s.capHead.map (·.line)).getD 0
    else if off = 0x05C then s.capInfo
    else v
  | .mbox | .mboxs =>
    if off = 0x044 then b2n (!s.mgmt.up) + s.modState * 256
    else if off = 0x04C ∧ p = .mboxs then s.host.sessionLo
    else if off = 0x050 ∧ p = .mboxs then s.host.sessionHi
    else if off = 0x050 ∧ p = .mbox ∨ off = 0x064 ∧ p = .mboxs then
      s.rdF (Reg.INT_STATUS (if p = .mbox then Reg.pageMBOX else Reg.pageMBOXS)) 23 8
    else v
  | .tally =>
    if off = 0x04C then b2n s.tallyRead.isSome
    else if 0x050 ≤ off ∧ off < 0x070 then
      (s.tallyRead.map (fun e => (e.2.words e.1).getD ((off - 0x050) / 4) 0)).getD 0
    else v
  | _ => v

/-- The live value of the register with a key. -/
def State.live (s : State) (k : Nat) : Nat :=
  match pageAt (k / 0x1000) with
  | none => s.rd k
  | some (p, i) => if k % 0x1000 < 0x040 then s.liveHeader p (k / 0x1000) (k % 0x1000) else s.liveBlock p i k

/-- The access code of a register (R33, R41); the registers of an MSI-X table are RW. -/
def headerAcc (off : Nat) : Acc :=
  if off = 0x008 ∨ off = 0x014 ∨ off = 0x024 ∨ off = 0x028 ∨ off = 0x02C then .rw
  else if off = 0x010 then .w1c
  else if off = 0x018 then .w1s
  else if off = 0x01C ∨ off = 0x020 then .rc
  else .ro
def accOf (k : Nat) : Option Acc :=
  let off := k % 0x1000
  match pageAt (k / 0x1000) with
  | none => some .rw
  | some (p, _) =>
    if off < 0x040 then some (headerAcc off)
    else (p.rowAt off).map (fun r => r.acc)

/-- The bits of a register that a write can change. -/
def maskAt (k : Nat) : Nat :=
  match pageAt (k / 0x1000) with
  | none => 0xFFFFFFFF
  | some (p, _) => ((p.rowAt (k % 0x1000)).map (fun r => r.mask)).getD 0

/-- CTRL.FREEZE of the page of a register. -/
def State.frozenPage (s : State) (page : Nat) : Bool := s.bit (Reg.CTRL page) 2

/-- The value held for a register while its page is frozen (R54). -/
def State.heldValue (s : State) (k : Nat) : Option Nat :=
  if s.frozenPage (headerPage (k / 0x1000)) then (smGet (fun _ => none) s.frozen k).map (·.toNat) else none

/-- RX_BASE and RX_SIZE of a host-to-module channel (R455). -/
def noRegion (k : Nat) : Bool :=
  let off := k % 0x1000
  (k / 0x1000 == Reg.pageMBOX || k / 0x1000 == Reg.pageMBOXS) && decide (0x100 ≤ off) && decide (off < 0x300)
    && (off % 0x40 == 0x2C || off % 0x40 == 0x30 || off % 0x40 == 0x34)

/-- What a register reads, beside the latches of R44: the held value, the shadow under READ_SHADOW (R45), zero where
it is write-only, or the live value. -/
def State.visible (s : State) (k : Nat) : Nat :=
  match s.heldValue k with
  | some v => v
  | none =>
    match accOf k with
    | some .wo => 0
    | some .w1s => 0
    | some .rws => if s.bit (Reg.SHADOW_CTRL (k / 0x1000)) 8 then s.shadowOf k else s.rd k
    | some _ => if noRegion k then 0 else s.live k
    | none => 0

/-- The _LO registers of 64-bit pairs by page type: offset, stride, count; each _HI stands 4 bytes above its _LO (R44). -/
def PageType.loRows : PageType → List (Nat × Nat × Nat)
  | .sys => [(0x048, 4, 1)]
  | .line => [(0x074, 4, 1)]
  | .ch => [(0x08C, 4, 1), (0x09C, 4, 1)]
  | .yard => [(0x058, 4, 1), (0x100, 64, 16), (0x120, 64, 16)]
  | .iommu => [(0x068, 4, 1)]
  | .isp => [(0x050, 4, 1)]
  | .lampseq => [(0x080, 8, 12), (0x110, 4, 1), (0x118, 4, 1)]
  | .peer => [(0x048, 4, 1)]
  | .pair => [(0x088, 4, 1), (0x090, 4, 1)]
  | .prp => [(0x040, 4, 1), (0x050, 4, 1), (0x060, 4, 1)]
  | .time => [(0x04C, 4, 1), (0x054, 4, 1), (0x05C, 4, 1), (0x068, 4, 1), (0x070, 4, 1), (0x078, 4, 1), (0x084, 4, 1), (0x0A4, 4, 1)]
  | .tio => [(0x050, 4, 1), (0x104, 64, 16), (0x124, 64, 16)]
  | .dram => [(0x06C, 4, 1)]
  | .mbox => [(0x100, 64, 16), (0x12C, 64, 16)]
  | .mboxs => [(0x100, 64, 16), (0x12C, 64, 16), (0x04C, 4, 1)]
  | .nvs => [(0x058, 4, 1)]
  | .fw => [(0x054, 4, 1)]
  | _ => []

/-- Whether a register is a _LO, or a _HI, of a pair. -/
def isLo (k : Nat) : Bool :=
  match pageAt (k / 0x1000) with
  | none => false
  | some (p, _) => p.loRows.any (fun r =>
      let off := k % 0x1000
      r.1 ≤ off && decide (off < r.1 + r.2.1 * r.2.2) && (off - r.1) % r.2.1 == 0)
def isHi (k : Nat) : Bool := k % 0x1000 != 0 && isLo (k - 4)

/-! ## The locks (R62 to R65) -/

/-- LOCKn as a requester reads it: a free lock is acquired. -/
def State.lockOwner (s : State) (n : Nat) : Nat := smGet (fun _ => 0) s.locks n
def State.readLock (s : State) (src : Req) (n : Nat) : State × Nat :=
  let o := s.lockOwner n
  if o = 0 then ({ s with locks := smSet (fun _ => 0) s.locks n (ownerId src) }, 0)
  else (s, (if o = ownerId src then 0x40000000 else 0x80000000) + o)

/-- The order of R64 among requesters in one clock. -/
def lockOrder : List Req := [.ranger, .crew 0, .crew 1, .crew 2, .crew 3, .peer, .pf1, .pf0]

/-- LOCK_READ: the requesters that read a lock in one clock; the answers stand in their order. One that reaches no
core page reads ones. -/
def execLockRead (n : Fin 64) (readers : List Req) (s : State) : Res :=
  let n := n.val
  let firsts := lockOrder.filter (fun r => readers.contains r && !s.cutOff r)
  let t := firsts.foldl (fun s r => (s.readLock r n).1) s
  .next (t.answer (readers.map (fun r =>
    if s.cutOff r then 0xFFFFFFFF
    else if s.lockOwner n = 0 then (if firsts.head? = some r then 0 else 0x80000000 + t.lockOwner n)
    else (s.readLock r n).2)))

/-- A write of a lock: zero by its owner releases it. -/
def State.writeLock (s : State) (src : Req) (n data : Nat) : State :=
  if s.lockOwner n = ownerId src ∧ data % 2 ^ 32 = 0 then { s with locks := smSet (fun _ => 0) s.locks n 0 }
  else s.errAt Reg.pageLOCKS 0xD (0x4040 + 4 * n) src
def execLockRelease (src : Req) (n : Fin 64) (data : Nat) (s : State) : Res :=
  if s.cutOff src then .next s else
  .next (s.writeLock src n.val data)

/-- FORCE_RELEASE: Ranger's keyed write. -/
def State.forceRelease (s : State) (src : Req) (data : Nat) : State :=
  if src ≠ .ranger then s.errAt Reg.pageLOCKS 0xD Reg.LOCKS_FORCE_RELEASE src
  else if fld data 31 16 ≠ 0xA5C3 then s.errAt Reg.pageLOCKS 0xE Reg.LOCKS_FORCE_RELEASE src
  else { s with locks := smSet (fun _ => 0) s.locks (data % 64) 0 }
def execForceRelease (src : Req) (data : Nat) (s : State) : Res :=
  if s.cutOff src then .next s else
  .next (s.forceRelease src data)

/-! ## Reading a register -/

/-- The keys of the LOCKn registers and CAP_INFO, whose reads FREEZE does not hold. -/
def lockNum (k : Nat) : Option Nat := if 0x4040 ≤ k ∧ k < 0x4140 then some ((k - 0x4040) / 4) else none

/-- The reset value of a register as a number. -/
def resetVal (k : Nat) : Nat := (resetOf k).toNat

/-- A read of a mapped register by a requester (R41, R44, R54, R63, R393, R403). -/
def State.readReg (s : State) (src : Req) (k : Nat) : State :=
  let page := k / 0x1000
  match lockNum k with
  | some n => let r := s.readLock src n; r.1.answer [r.2]
  | none =>
    if k = Reg.TIO_CAP_INFO then s.readCapInfo
    else if k = Reg.TIME_NOW_LO ∧ (s.heldValue k).isNone then s.readNow src
    else if isLo k then (s.setReadLatch page src (s.visible (k + 4))).answer [s.visible k]
    else if isHi k then
      s.answer [((s.readLatch page src).map (·.toNat)).getD (s.visible k)]
    else
      let v := s.visible k
      let s := if accOf k = some .rc ∧ (s.heldValue k).isNone then
          let t := s.wr k (resetVal k)
          if (page = Reg.pageMBOX ∨ page = Reg.pageMBOXS) ∧ 0x100 ≤ k % 0x1000 ∧ k % 0x40 = 0x20 then t.wrB (k - 8) 16 false
          else t
        else s
      s.answer [v]

end Sys2Proof.Machine
end

