-- ==== Sys2Proof/Machine/Aperture.lean ====
section
/-! DEFINITION. The table apertures (R57, R58, R97, R153, R272, R334), and the reads of the bus: a register or an
aperture word, a _LO, an RC register, and the accesses that are not one aligned word (R41 to R44). -/

namespace Sys2Proof.Machine

/-! ## Where an aperture word lies -/

/-- A word of an aperture: entries of a screening table (number, first key, bits of an entry and of the whole word that
are stored, the channel or plane), a word of a read-only bank, of the ISP tables, of the lamp tables, or reserved. -/
inductive TableWord where
  | nozzle (key : Nat)
  | nozzleActive (key : Nat)
  | thr (key : Nat)
  | tone (key : Nat)
  | dmap (c : Nat)
  | kerf (key : Nat)
  | isp (ctx word : Nat)
  | curve (key : Nat)
  | bin (key : Nat)
  | reserved
  deriving DecidableEq, Repr

/-- Whether a word of a context's block is mapped (R272). -/
def ispMapped (w : Nat) : Bool := w < 0x1000 || (0x1000 ≤ w && w < 0x1462) || (0x1800 ≤ w && w < 0x1831)
  || (0x1840 ≤ w && w < 0x1940)

/-- The word at an aperture address (R57). -/
def tableWord (a : Nat) : TableWord :=
  if a < 0x700000 then .nozzle ((a - 0x400000) / 4)
  else if a < 0xB00000 then .nozzleActive ((a - 0x800000) / 4)
  else if a < 0xD00000 then .thr ((a - 0xC00000) / 4 * 2)
  else if a < 0xD10000 then .tone ((a - 0xD00000) / 4 * 2)
  else if a < 0xD10200 then .dmap ((a - 0xD10000) / 4)
  else if a < 0xD50000 then .kerf ((a - 0xD20000) / 4)
  else if a < 0xE80000 then
    let w := (a - 0xE00000) % 0x8000 / 4
    if ispMapped w then .isp ((a - 0xE00000) / 0x8000) w else .reserved
  else if a < 0xF00000 then .reserved
  else if a < 0xF20000 then .curve ((a - 0xF00000) / 4 * 2)
  else if a < 0xF20400 then
    if (a - 0xF20000) / 4 % 4 < 3 then .bin ((a - 0xF20000) / 4) else .reserved
  else .reserved

/-- Two entries in one word: even in [15:0], odd in [31:16]. -/
def twoOf (f : Nat → Nat) (k : Nat) : Nat := f k + f (k + 1) * 65536

/-- What an aperture word reads. -/
def State.tableRead (s : State) (a : Nat) : Nat :=
  match tableWord a with
  | .nozzle k => smGet nozzleReset s.scr.target.nozzle k
  | .nozzleActive k => smGet nozzleReset s.scr.active.nozzle k
  | .thr k => twoOf (smGet zeroReset s.scr.thr) k
  | .tone k => twoOf (smGet toneReset s.scr.target.tone) k
  | .dmap c => s.scr.target.dmapAt c
  | .kerf k => smGet zeroReset s.scr.target.kerf k
  | .isp x w => ispWord s.cam.target x w
  | .curve k => twoOf (smGet curveReset s.lamp.curves) k
  | .bin k => smGet binReset s.lamp.bins k
  | .reserved => 0

/-! ## Writing -/

/-- A TARGET region is held by a slot that is armed, ramping, or copying its bank (R58, R97). -/
def State.targetBusy (s : State) (action x : Nat) : Bool :=
  (List.range 32).any (fun n => slotLive (s.slotSt n) && s.slotAction n == action && (s.slotTargets n).contains x)

/-- An error of an aperture write, recorded in SYS.ERR_INFO (R43). -/
def State.tableErr (s : State) (src : Req) (a code : Nat) : State := s.accessErr Reg.pageSYS code a src

/-- A write into a TARGET region of a channel or plane: refused as R344 has it, or as TARGET_BUSY. -/
def State.targetWrite (s : State) (src : Req) (a action x : Nat) (f : State → State) : State :=
  match s.writeGate src with
  | some code => s.tableErr src a code
  | none => if s.targetBusy action x then s.tableErr src a 0xC else f s

/-- A write of one aperture word. -/
def State.tableStore (s : State) (src : Req) (a data : Nat) : State :=
  let lo := fld data 15 0
  let hi := fld data 31 16
  match tableWord a with
  | .nozzle k => s.targetWrite src a 1 (k / 6144) (fun s => s.tableWrite 0 k (data % 2 ^ 24))
  | .nozzleActive _ => s.tableErr src a 5
  | .thr k =>
    match s.writeGate src with
    | some code => s.tableErr src a code
    | none =>
      if s.runSt ≠ 0 then s.accessErr (Reg.pagePLANE (k / 65536)) 0x0101 a src
      else (s.tableWrite 4 k (lo % 4096)).tableWrite 4 (k + 1) (hi % 4096)
  | .tone k => s.targetWrite src a 2 (k / 256) (fun s =>
      (s.tableWrite 1 k (lo % 4096)).tableWrite 1 (k + 1) (hi % 4096))
  | .dmap c => s.targetWrite src a 3 c (fun s => s.tableWrite 2 c (data &&& 0x77777777))
  | .kerf k => s.targetWrite src a 6 (k / 6144) (fun s => s.tableWrite 3 k (data % 2 ^ 32))
  | .isp x w =>
    if s.bit (Reg.ISPCTX_TABLE_STATE x) 0 then s.tableErr src a 0xC
    else { s with cam := { s.cam with target := smSet ispTableReset s.cam.target (x * 8192 + w) (data % 2 ^ 32) } }
  | .curve k => { s with lamp := { s.lamp with
      curves := smSet curveReset (smSet curveReset s.lamp.curves k lo) (k + 1) hi } }
  | .bin k => { s with lamp := { s.lamp with bins := smSet binReset s.lamp.bins k lo } }
  | .reserved => s

/-- A write at an aperture address by a requester; the gaps between apertures are unmapped (R57). -/
def State.tableAccess (s : State) (src : Req) (a data : Nat) : State :=
  if s.bar0Down src a then s
  else match s.spot src a with
    | .table b => s.tableStore src b data
    | .unmapped => s.unmappedAt src a
    | _ => s

/-- APERTURE_WRITE. -/
def execApertureWrite (src : Req) (addr data : Nat) (s : State) : Res := .next (s.tableAccess src addr data)

/-- THRESHOLD_WRITE: the word of a threshold array. -/
def execThresholdWrite (src : Req) (addr data : Nat) (s : State) : Res :=
  if 0xC00000 ≤ addr ∧ addr < 0xD00000 then .next (s.tableAccess src addr data) else .next s

/-! ## Reads of the bus -/

/-- A read of one aligned word. -/
def State.busRead (s : State) (src : Req) (a : Nat) : State :=
  if s.bar0Down src a then s.answer [0xFFFFFFFF]
  else match s.spot src a with
    | .reg k => s.readReg src k
    | .table b => s.answer [s.tableRead b]
    | .reserved => s.answer [0]
    | .pba pf1 w => s.answer [s.pendingBits pf1 w]
    | .unmapped => (s.unmappedAt src a).answer [0]

/-- CLEAR_ON_READ: the read of an RC register, and of any other (R41, R54). -/
def execClearOnRead (src : Req) (addr : Nat) (s : State) : Res := .next (s.busRead src addr)

/-- READ_LO: the read of a _LO register latches the high word for its requester (R44). -/
def execReadLo (src : Req) (addr : Nat) (s : State) : Res := .next (s.busRead src addr)

/-- BAD_ACCESS: an access with partial byte enables, or of more than one dword (R42, R43). A read of more than one
dword of a register page completes with Unsupported Request, and a write above the payload size is a malformed TLP
reported through AER: `pcie 4`. -/
def State.badAccess (s : State) (src : Req) (a : Nat) (write multi : Bool) : State :=
  if s.bar0Down src a then (if write then s else s.answer [0xFFFFFFFF])
  else match s.spot src a with
    | .reg k =>
      if write then (if k < 0x300000 then s.accessErr (k / 0x1000) 3 k src else s)
      else if multi then (s.answer []).emit (.pcie 4 none a)
      else s.answer [0]
    | .table _ =>
      if write && multi then s.emit (.pcie 4 none a)
      else
        let s := s.tableErr src a 3
        if write then s else s.answer [0]
    | .unmapped =>
      let s := s.unmappedAt src a
      if write then s else s.answer [0]
    | _ => if write then s else s.answer [0]
def execBadAccess (src : Req) (addr : Nat) (write multi : Bool) (s : State) : Res :=
  .next (s.badAccess src addr write multi)

end Sys2Proof.Machine
end

