-- ==== Sys2Proof/Machine/PageCtl.lean ====
section
/-! DEFINITION. What every page header does: arming and disarming the shadows, their apply, block reset,
configuration lock and freeze (R45 to R54, R257). A page of ISPCTX is the page of one context, 0x200 + k. -/

namespace Sys2Proof.Machine

/-! ## Arm (R45, R47 to R51, R257) -/

/-- The page whose shadows an access to a page's SHADOW_CTRL means: for ISPCTX the context of CTX_SELECT. -/
def State.shadowPage (s : State) (page : Nat) : Nat := s.banked (Reg.SHADOW_CTRL page) / 0x1000

/-- Whether the shadows of a page are applied only by APPLY slots (R50). -/
def viaApply (page : Nat) : Bool :=
  match pageAt page with
  | some (.ch, _) => true
  | some (.plane, _) => true
  | _ => false

/-- An arm is refused: REFUSED, the code, and INT_STATUS.REFUSED. On a page whose shadows the APPLY slots apply, LATE and
REFUSED report the slot's outcome and stay (R50). -/
def State.armRefuse (s : State) (page code : Nat) (src : Req) : State :=
  let k := Reg.SHADOW_CTRL page
  let s := if viaApply page then s else (s.wrB k 2 false).wrB k 3 true
  (s.error (headerPage page) code 0x024 (srcCode src)).intSet (headerPage page) 3

/-- The number of the next frame start that a frame-domain page is judged by (R256). -/
def State.frameRef (s : State) (page : Nat) : Nat :=
  match pageAt page with
  | some (.cam, p) => s.nextFrame p
  | some (.ispctx, k) => s.nextFrame (s.ctxPort k)
  | _ => s.nextFrame (s.rdF Reg.ISP_ISP_CFG 0 0)

/-- Whether the target of a page has passed (R48). -/
def State.targetPast (s : State) (page : Nat) : Bool :=
  let t := s.rd (Reg.ARM_TARGET page)
  match domainOf page with
  | 1 => decide (ldiff t s.nextLine < 0)
  | 2 => decide (sdiff 16 t (s.frameRef page) < 0)
  | _ => decide (sdiff 32 t (s.frc % 2 ^ 32) ≤ 0)

/-- What refuses an arm beside its domain: the pair (R49), a splice (R119), a context's tables (R257). -/
def State.armFault (s : State) (src : Req) (page : Nat) : Option Nat :=
  let gate := if domainOf page = 1 then s.armGate src else none
  match gate with
  | some c => some c
  | none =>
    if page = Reg.pageJOB then
      let t := s.rd (Reg.ARM_TARGET page)
      s.spliceRefusal (if ldiff t s.nextLine < 0 then s.nextLine else t)
    else
      match pageAt page with
      | some (.ispctx, k) => s.ctxRefusal k
      | _ => none

/-- The apply of a time-domain page. -/
def State.applyTimePage (s : State) (page : Nat) : State :=
  if page = Reg.pageTIME then s.applyTime else s.applyPage page

/-- An accepted arm: ARMED; a target that has passed sets LATE, and a time-domain page then applies (R48). In a pair
the leader counts the arm in MIRROR_GEN (R345) and forwards it, and arms again one whose target has passed (R49). -/
def State.armAccept (s : State) (src : Req) (page : Nat) : State :=
  let k := Reg.SHADOW_CTRL page
  let s := if s.pairMode && s.leads && decide (domainOf page = 1) then s.countMirror else s
  let past := s.targetPast page
  let s := ((s.wrB k 1 true).wrB k 2 false).wrB k 3 false
  let paired := s.pairMode && s.leads && decide (domainOf page = 1)
  if paired && s.cond == 2 then
    s.modPair (fun p => { p with armWait := p.armWait.filter (· != page) ++ [page] })
  else if paired && s.cond == 3 then (if past then s.rearm page (srcCode src) else s.forwardArm page)
  else
    let s := if past then s.wrB k 2 true else s
    if past && decide (domainOf page = 3) then s.applyTimePage page else s.applyIdle

/-- A write of SHADOW_CTRL.ARM. -/
def State.armPage (s : State) (src : Req) (page : Nat) : State :=
  if domainOf page = 0 then s.armRefuse page 7 src
  else if viaApply page then s.armRefuse page 6 src
  else if s.bit (Reg.SHADOW_CTRL page) 1 then s
  else match s.armFault src page with
    | some c => s.armRefuse page c src
    | none => s.armAccept src page

/-- Whether a requester reaches a page (R55, R56, R438): the secure pages are PF1's and Ranger's, and PF1 reaches only
them and LOCKS. -/
def State.reaches (s : State) (src : Req) (page : Nat) : Bool :=
  (pageAt page).isSome && !s.bar0Down src (page * 0x1000) &&
  match src with
  | .pf1 => page == Reg.pageLOCKS || decide (0x100 ≤ page) && decide (page < 0x103)
  | .ranger => page < 0x103
  | _ => page < 0x100

/-- A write of a header register of a page: where the page is not reached nothing happens, and outside the pair modes
PAIR takes no write (R378). -/
def State.headerAct (s : State) (src : Req) (page key : Nat) (f : State → State) : State :=
  if !s.reaches src page then s
  else if page = Reg.pagePAIR ∧ !s.pairMode then s.errAt page 0x0101 key src
  else f s

/-- ARM. -/
def execShadowArm (src : Req) (page : Nat) (s : State) : Res :=
  .next (s.headerAct src page (Reg.SHADOW_CTRL page) (fun s => s.armPage src (s.shadowPage page)))

/-! ## Apply (R46) -/

/-- The apply of a line-domain page between two ticks; a run whose new source reports LOS ends (R77). -/
def State.applyLineNow (s : State) (page : Nat) : State :=
  let t := s.applyLinePage page s.nextLine
  if page = Reg.pageENC then t.lossCheck else t

/-- The apply of an armed page that is due: a line-domain page at the next admission, a frame-domain page at the start
of frame F, a time-domain page at its clock. -/
def State.applyDue (s : State) (page frame : Nat) : State :=
  match pageAt page with
  | none => s
  | some (p, i) =>
    if p.domain = 1 then
      if linePages.contains page && s.runSt == 2 && s.pageDue page s.nextLine then
        s.applyLineNow page
      else s
    else if p.domain = 2 then
      if s.frameDue page frame then
        (if p = .cam then s.applyMap i else if p = .ispctx then s.applyCtx i else s.applyPage page)
      else s
    else if p.domain = 3 then
      if s.bit (Reg.SHADOW_CTRL page) 1 && decide (0 ≤ sdiff 32 (s.frc % 2 ^ 32) (s.rd (Reg.ARM_TARGET page))) then
        s.applyTimePage page
      else s
    else s

/-- SHADOW_APPLY: for ISPCTX the page of the context. -/
def execShadowApply (page frame : Nat) (s : State) : Res := .next (s.applyDue (s.shadowPage page) frame)

/-- The time-domain pages. -/
def timePages : List Nat := (List.range 4).map Reg.pageLAMP ++ [Reg.pageLAMPSEQ, Reg.pageTIME, Reg.pageTIO]

/-- DISARM cancels an arm that has not applied; if the apply falls in the same clock, it takes place (R47). The leader
of a pair passes it on. -/
def State.disarmPage (s : State) (src : Req) (page : Nat) : State :=
  let k := Reg.SHADOW_CTRL page
  if viaApply page || !s.bit k 1 then s
  else
    let gate := if domainOf page = 1 then s.writeGate src else none
    match gate with
    | some c => s.error (headerPage page) c 0x024 (srcCode src)
    | none =>
      let s := (s.wrB k 1 false).modPair (fun p => { p with armWait := p.armWait.filter (· != page) })
      if domainOf page = 1 ∧ s.paired then s.mirror k 0x10 else s

/-- DISARM. -/
def execShadowDisarm (src : Req) (page : Nat) (applyNow : Bool) (s : State) : Res :=
  .next (s.headerAct src page (Reg.SHADOW_CTRL page) (fun s =>
    let q := s.shadowPage page
    if applyNow && s.bit (Reg.SHADOW_CTRL q) 1 then
      match domainOf q with
      | 1 => s.applyLineNow q
      | 2 => s.applyDue q (s.rd (Reg.ARM_TARGET q))
      | _ => s.applyTimePage q
    else s.disarmPage src q))

/-! ## Configuration lock and freeze (R52, R54) -/

/-- CTRL.CONFIG_LOCK is set. -/
def State.lockPage (s : State) (page : Nat) : State := s.wrB (Reg.CTRL page) 3 true
/-- CONFIG_LOCK. -/
def execConfigLock (src : Req) (page : Nat) (s : State) : Res :=
  .next (s.headerAct src page (Reg.CTRL page) (fun s => s.lockPage page))

/-- The keys of the RO and RC registers of a page that FREEZE holds: those of every context for ISPCTX. -/
def heldKeys (page : Nat) : List Nat :=
  match pageAt page with
  | none => []
  | some (p, _) =>
    let rows := p.rows.filter (fun r => (r.acc == .ro || r.acc == .rc) && !(p == .tio && r.base == 0x05C))
    let pages := if page = Reg.pageISPCTX_PORT then (List.range 16).map Reg.pageISPCTX else [page]
    pages.flatMap (fun q => rows.flatMap (fun r =>
      (List.range r.count).map (fun i => q * 0x1000 + r.base + r.stride * i)))

/-- FREEZE set: the values now read are held. FREEZE cleared: the live values show again. -/
def State.freezePage (s : State) (page : Nat) : State :=
  let held := (heldKeys page).map (fun k => (k, s.live k))
  let s := s.wrB (Reg.CTRL page) 2 true
  { s with frozen := held.foldl (fun m p => smSet (fun _ => none) m p.1 (some (BitVec.ofNat 32 p.2))) s.frozen }
def State.thawPage (s : State) (page : Nat) : State :=
  { s.wrB (Reg.CTRL page) 2 false with frozen := smClear (fun k => headerPage (k / 0x1000) == page) s.frozen }

/-! ## Block reset (R53, R204, R455) -/

/-- Why a block reset is refused. -/
def State.resetBusy (s : State) (src : Req) (page : Nat) : Bool :=
  match pageAt page with
  | none => true
  | some (p, i) =>
    match p with
    | .ch => !s.bit (Reg.CH_CH_CTRL i) 0
    | .line | .enc | .apply | .plane | .job | .yard | .iommu | .dram => s.modState == 5
    | .locks => src != .ranger
    | .mbox => mboxChans.any (fun n => s.mbSt n != 0)
    | .mboxs => mboxsChans.any (fun n => s.mbSt n != 0)
    | _ => false

/-- The registers of a page return to reset, with the shadows, the latches and what FREEZE held; those in `keep` show
the state of something that the reset does not touch. -/
def State.clearPage (s : State) (page : Nat) (keep : List Nat) : State :=
  let mine k := headerPage (k / 0x1000) == page && (k / 0x1000 == page || decide (0x200 ≤ k / 0x1000))
  let vals := keep.map (fun k => (k, s.rd k))
  let s := { s with
    regs := smClear mine s.regs
    shadow := smClear mine s.shadow
    frozen := smClear mine s.frozen
    latchR := smClear (fun k => k / 8 == page) s.latchR
    latchW := smClear (fun k => k / 8 == page) s.latchW }
  s.wrs vals

/-- The pages that a block reset leaves alone but for INT_STATUS, INT_ENABLE, ERR_INFO, ERR_COUNT and SCRATCH. -/
def partReset : PageType → Bool
  | .sys | .clk | .pwr | .therm => true
  | _ => false

/-- Registers without a reset value of their own, and those that show at every moment what a block reset does not touch: the
host key in KEY_STATE, the journal and its devices in NVS (log 18). -/
def keptRegs (p : PageType) : List Nat :=
  match p with
  | .mboxs => [Reg.MBOXS_KEY_STATE]
  | .fw => [Reg.FW_FW_STATUS, Reg.FW_BANK_A_STATE, Reg.FW_BANK_A_VERSION, Reg.FW_BANK_B_STATE,
      Reg.FW_BANK_B_VERSION]
  | .tally => [Reg.TALLY_NEXT_SEQ, Reg.TALLY_OLDEST_SEQ]
  | .nvs => [Reg.NVS_NV_STATUS, Reg.NVS_QUEUE_DEPTH, Reg.NVS_JOURNAL_USED, Reg.NVS_RECORDS,
      Reg.NVS_LAST_SEQ_LO, Reg.NVS_LAST_SEQ_HI]
  | _ => []

/-- The state of the unit behind a page returns to reset. Table contents are kept. -/
def State.clearUnit (s : State) (p : PageType) (i : Nat) : State :=
  match p with
  | .locks => { s with locks := [] }
  | .intc => { s with msix := s.msix.filter (fun e => decide (64 ≤ e.1)) }
  | .line => { s with line := {
      runNum := s.line.runNum, lastTickLine := s.line.lastTickLine, enc0 := s.line.enc0, enc1 := s.line.enc1
      vencOrigin := s.line.vencOrigin, autoSwitched := s.line.autoSwitched, stopped := s.line.stopped } }
  | .enc => { s with line := { s.line with
      enc0 := {}, enc1 := {}, vencOrigin := s.frc * 256, autoSwitched := false } }.showSource
  | .apply => { s with slots := [], pair := { s.pair with inDoubt := [], slotWait := [] } }.showDoubt
  | .ch =>
    let l := s.lane i
    let s := (s.setLane i { ident := l.ident, formats := l.formats }).wr (Reg.CH_CH_CTRL i) 1
    { s with scr := { s.scr with
        fault := s.scr.fault.filter (· != i), mism := smSet (fun _ => 0) s.scr.mism i 0 } }
  | .yard => { s with job := { s.job with queues := [] } }
  | .iommu => s.atcFlush
  | .job => { s with splices := [], job := { s.job with judged := [], spliceEnd := false, edges := [] } }
  | .cam => (((s.losePort i).setCamPort i {}).showFifo i).emit (.pin (0x10 + i) 0)
  | .isp => { ((s.showFifo 0).showFifo 1).showActive with cam := { s.cam with busy := [] } }
  | .ispctx => { s with cam := { s.cam with late := [] } }
  | .stats => { s with cam := { s.cam with done := [] } }
  | .scaler => { s with colour := {} }
  | .lamp =>
    { s.busEnable i false with lamp := { s.lamp with
        chans := smClear (fun c => c / 16 == i) s.lamp.chans
        groups := smSet (fun _ => {}) s.lamp.groups i { offAt := s.frc } } }
  | .lampseq => { s with lamp := { s.lamp with queues := [], masks := [] } }
  | .peer => s.setPeerPort i {}
  | .pair => { s with pair := {
      seq := s.pair.seq, lookoutSeq := s.pair.lookoutSeq, partnerSeq := s.pair.partnerSeq
      epochSeen := s.pair.epochSeen, grantA := s.pair.grantA, grantB := s.pair.grantB } }
  | .ring => ({ s with ring := { ports := s.ring.ports } }).startRing.ringLinksUp
  | .net => s.setNetPort i {}
  | .prp => s.modNet (fun n => { n with nodes := [], police := [], queues := [], seq := 0 })
  | .time => s.modNet (fun n => { n with
      old := none, applyFrc := 0, oldFrc := 0, lockRun := 0, offRun := 0, agree := none, holdFrc := 0
      heldDelay := [], dropped := [] })
  | .tio => { s with tio := {} }
  | .dram => s.setDramCh i {}
  | .nvs => s.busy Reg.pageNVS s.compacting
  | .fw => s.busy Reg.pageFW s.mgmt.op.isSome
  | _ => s

/-- What leaves before the registers clear: a peer port that is up, an Ethernet link. -/
def State.leaveUnit (s : State) (p : PageType) (i : Nat) : State :=
  match p with
  | .peer => s.peerDown i 0
  | .net => s.netDown i
  | .cam => s.camLeave i 0
  | .lamp => s.groupDisable i
  | _ => s

/-- A block reset ends the wait of an arm on the page for the partner (R49, R53). -/
def State.dropWait (s : State) (page : Nat) : State :=
  { s with pair := { s.pair with armWait := s.pair.armWait.filter (· != page) } }

/-- A block reset, complete at once (log 9). -/
def State.blockReset (s : State) (src : Req) (page : Nat) : State :=
  match pageAt page with
  | none => s
  | some (p, i) =>
    if s.resetBusy src page then s.error page 0xB 0x008 (srcCode src)
    else if partReset p then
      s.wrs ([Reg.INT_STATUS page, Reg.INT_ENABLE page, Reg.ERR_INFO page, Reg.ERR_COUNT page, Reg.SCRATCH page].map
        (fun k => (k, 0)))
    else (((s.leaveUnit p i).clearPage page (keptRegs p)).clearUnit p i).dropWait page

/-- BLOCK_RESET. -/
def execBlockReset (src : Req) (page : Nat) (s : State) : Res :=
  .next (s.headerAct src page (Reg.CTRL page) (fun s => s.blockReset src page))

end Sys2Proof.Machine
end

