-- ==== Sys2Proof/Machine/RegWrite.lean ====
section
/-! DEFINITION. Writes of the bus (R41 to R47, R52, R344, R345, R560): what refuses a write, what it stores, what it
does beyond storing, and the actions of self-clearing registers. -/

namespace Sys2Proof.Machine

/-! ## Interrupt causes (R36, R37) -/

/-- The bits of INT_STATUS above [7:0] that a page defines. -/
def blockInts : PageType → List Nat
  | .sys => [8, 9]
  | .clk => [8]
  | .line => [8, 9, 10, 11, 12, 13, 14, 15]
  | .enc => [8, 9, 10, 11, 12]
  | .apply | .plane | .prp | .lampseq | .nvs | .tally => [8, 9, 10]
  | .ch => [8, 9, 10, 11, 12, 13, 14, 16, 17, 18, 19, 20, 21, 22, 23, 24, 25, 26, 27, 28]
  | .yard | .net | .tio => [8, 9, 10, 11]
  | .iommu | .stats | .fw => [8, 9]
  | .job | .time | .pwr => [8, 9, 10, 11, 12, 13]
  | .cam | .lamp | .pair => [8, 9, 10, 11, 12, 13, 14, 15, 16]
  | .isp | .ispctx => [8]
  | .scaler => [8, 9, 10, 11, 12, 13, 14]
  | .peer | .ring | .therm => [8, 9, 10, 11, 12]
  | .dram => [8, 9, 10, 11, 12, 13, 14, 15, 16, 17]
  | .mbox => [8, 9, 10, 11, 12, 13, 14, 15, 16, 17, 18, 19, 20, 21, 22, 23, 24, 25, 26]
  | .mboxs => [8, 9, 10, 11, 12, 13, 14, 15, 16, 17, 18, 19, 20, 21, 22, 23, 26, 27]
  | .intc | .locks => []
def intMask (p : PageType) : Nat := maskOf ([0, 1, 2, 3, 4] ++ blockInts p)

/-- The value after a W1C write: bits that hardware sets in the same clock stay set. -/
def clearBits (v data hw : Nat) : Nat := (v &&& (0xFFFFFFFF ^^^ data)) ||| hw

/-- Bits that are set while a condition holds show it again. -/
def State.whileHeld (s : State) (p : PageType) (i : Nat) : State :=
  if p = .stats then s.showRecords else if p = .job ∧ s.streaming then s.showCredits
  else if p = .lamp then s.showDose i else s

/-! ## The common header -/

/-- CTRL.ENABLE has changed. -/
def State.enabled (s : State) (p : PageType) (i : Nat) (on : Bool) : State :=
  match p with
  | .cam => if on then s.camEnable i else s.camDisable i
  | .lamp => if on then s.groupEnable i else s.groupDisable i
  | .peer => if on then s else s.peerDown i 0
  | _ => s

/-- A write of CTRL: ENABLE and FREEZE, then BLOCK_RESET, then CONFIG_LOCK (R35, R560). -/
def State.writeCtrl (s : State) (src : Req) (p : PageType) (i page data : Nat) : State :=
  let k := Reg.CTRL page
  let was := s.bit k 0
  let on := p.alwaysOn || bitOf data 0
  let s := s.wrB k 0 on
  let s := if on = was then s else s.enabled p i on
  let s := if bitOf data 2 = s.bit k 2 then s else if bitOf data 2 then s.freezePage page else s.thawPage page
  let s := if bitOf data 1 then s.blockReset src page else s
  if bitOf data 3 then s.lockPage page else s

/-- A write of SHADOW_CTRL: READ_SHADOW, then DISARM, then ARM (R45, R560). -/
def State.writeShadowCtrl (s : State) (src : Req) (page data : Nat) : State :=
  let s := if src = .peer then s else s.wrB (Reg.SHADOW_CTRL page) 8 (bitOf data 8)
  let s := if bitOf data 4 then s.disarmPage src page else s
  if bitOf data 0 then s.armPage src page else s

/-- ARMED of a page as it reads (R45, R50). -/
def State.armedPage (s : State) (page : Nat) : Bool := bitOf (s.live (Reg.SHADOW_CTRL page)) 1

/-- A write of ARM_TARGET (R47, R48, R51). -/
def State.writeTarget (s : State) (src : Req) (page data : Nat) : State :=
  if domainOf page = 0 then s
  else if s.armedPage page then s.accessErr page 2 0x028 src
  else s.wr (Reg.ARM_TARGET page) (if domainOf page = 2 then data % 65536 else data)

/-- A write of a header word; `hw` has the INT_STATUS bits that hardware sets in the same clock. -/
def State.writeHeader (s : State) (src : Req) (p : PageType) (i page off data hw : Nat) : State :=
  let m := intMask p
  if off = 0x008 then s.writeCtrl src p i page data
  else if off = 0x010 then
    (s.wr (Reg.INT_STATUS page) (clearBits (s.rd (Reg.INT_STATUS page)) data (hw &&& m))).whileHeld p i
  else if off = 0x014 then s.wr (Reg.INT_ENABLE page) (data &&& m)
  else if off = 0x018 then s.wr (Reg.INT_STATUS page) (s.rd (Reg.INT_STATUS page) ||| (data &&& m))
  else if off = 0x024 then s.writeShadowCtrl src page data
  else if off = 0x028 then s.writeTarget src page data
  else if off = 0x02C then s.wr (Reg.SCRATCH page) data
  else s.accessErr page 5 off src

/-! ## What refuses a write -/

/-- The channel number behind an offset of MBOX or MBOXS from 0x100 on, and the offset within its registers. -/
def mbOf (p : PageType) (off : Nat) : Nat := (off - 0x100) / 64 + (if p = .mboxs then 16 else 0)

/-- A mailbox register by the requester that may write it, and the states in which it may (R441). -/
def State.mbFault (s : State) (src : Req) (n o : Nat) : Option Nat :=
  let by_ (r : Req) (ok : Bool) : Option Nat := if src ≠ r then some 0x0103 else if ok then none else some 0x0101
  let idle := s.mbSt n == 0
  if o ≤ 0x00C then by_ (s.mbSender n) (idle || s.mbSt n == 3)
  else if o = 0x024 then by_ (s.mbReceiver n) idle
  else by_ (hostEnd n) idle

/-- The state in which the write of a register is not taken, whatever its value. -/
def State.stateFault (s : State) (src : Req) (p : PageType) (i k : Nat) : Option Nat :=
  let off := k % 0x1000
  let cond (b : Bool) (code : Nat) : Option Nat := if b then some code else none
  let busy := s.runSt != 0
  match p with
  | .line => cond (busy && (off == 0x044 || off == 0x048 || off == 0x04C || off == 0x05C)) 0x0101
  | .apply =>
    if off < 0x400 then none
    else
      let n := (off - 0x400) / 32
      if isHost src && decide (24 ≤ n) then some 0x0105 else cond (slotLive (s.slotSt n)) 2
  | .ch =>
    if off = 0x100 then cond busy 0x0180
    else if off = 0x09C ∨ off = 0x0A0 ∨ off = 0x0A4 ∨ off = 0x0A8 then
      cond (s.rdF (Reg.CH_TABLE_STATUS i) 2 0 == 1 || s.rdF (Reg.CH_TABLE_STATUS i) 2 0 == 2) 0x01A3
    else none
  | .yard =>
    cond (decide (0x100 ≤ off) && decide (off < 0x500) && (off % 64 == 0 || off % 64 == 4)
      && s.bit (Reg.YARD_Q_CFG ((off - 0x100) / 64)) 0) 0x0112
  | .job =>
    cond (busy && (off == 0x040 || off == 0x044 || off == 0x048 || off == 0x070
      || (decide (0x0C0 ≤ off) && decide (off < 0x0E0)) || (decide (0x100 ≤ off) && decide (off < 0x180)))) 0x0101
  | .cam => none
  | .stats =>
    cond ((off == 0x040 || off == 0x044) && (s.rd Reg.STATS_WRITE_IDX != s.rd Reg.STATS_READ_IDX_HOST
      || s.rd Reg.STATS_WRITE_IDX != s.rd Reg.STATS_READ_IDX_SCALER)) 0x0101
  | .scaler => cond (busy && decide (0x044 ≤ off) && decide (off ≤ 0x05C)) 0x0101
  | .ring => cond (busy && (off == 0x040 || off == 0x044)) 0x0101
  | .time =>
    cond (isHost src && s.bit Reg.TIME_TIME_CFG 14 && decide (0x048 ≤ off) && decide (off ≤ 0x060)) 0x0101
  | .tio =>
    cond (decide (0x100 ≤ off) && decide (off < 0x500) && decide (off % 64 ≤ 0x018)
      && s.timerLive ((off - 0x100) / 64)) 2
  | .mbox | .mboxs =>
    if 0x100 ≤ off ∧ off < 0x500 then s.mbFault src (mbOf p off) ((off - 0x100) % 64) else none
  | _ => none

/-- The centre of a band in 0.5 nm (R295). -/
def bandCentre (b : Nat) : Nat := if b = 11 then 1380 else 810 + 50 * b

/-- A lamp channel whose bin record keeps it out of a band (R323). -/
def State.bandMiss (s : State) (b c : Nat) : Bool :=
  let wl := s.binWord c 1
  wl != 0 && decide (((wl : Int) - bandCentre b).natAbs > s.rdF Reg.LAMPSEQ_WL_TOL 7 0)

/-- The contexts that the enabled entries of one STREAM_MAP word give, with their virtual channels. -/
def mapWord (v w : Nat) : List (Nat × Nat) :=
  ((List.range 4).filter (fun i => bitOf v (8 * i + 7))).map (fun i => (4 * w + i, fld v (8 * i + 3) (8 * i)))

/-- The entries of a port's map, in force, in force until the next FS of a virtual channel, and in shadow, but for one
word of the shadow. -/
def State.mapEntries (s : State) (p : Nat) (but : Option Nat) : List (Nat × Nat × Nat) :=
  ((s.camPort p).mapWait.filter (fun e => bitOf e.2 7)).map (fun e => (p, e.1, e.2 % 16)) ++
  (List.range 4).flatMap (fun w =>
    (mapWord (s.rd (Reg.CAM_STREAM_MAP p w)) w ++
      (if but = some w then [] else mapWord (s.shadowOf (Reg.CAM_STREAM_MAP p w)) w)).map (fun e => (p, e.1, e.2)))

/-- A shadow write of STREAM_MAP would give one context to two enabled entries (R254). -/
def State.mapConflict (s : State) (p w v : Nat) : Bool :=
  let others := s.mapEntries p (some w) ++ s.mapEntries (1 - p) none
  let mine := mapWord v w
  mine.any (fun e => others.any (fun o => o.2.2 == e.2 && !(o.1 == p && o.2.1 == e.1))
    || mine.any (fun f => f.2 == e.2 && f.1 != e.1))

/-- GEOMETRY that R253 and R275 do not allow, for the data type of CTX_CFG. -/
def badGeometry (dt v : Nat) : Bool :=
  let w := fld v 13 0
  let h := fld v 29 16
  let m := if dt = 1 ∨ dt = 3 then 4 else if dt = 2 then 2 else 1
  w < 16 || decide (8192 < w) || h == 0 || decide (8192 < h) || w % m != 0

/-- A value that a register does not take. -/
def State.valueFault (s : State) (p : PageType) (i k v : Nat) : Option Nat :=
  let off := k % 0x1000
  let cond (b : Bool) (code : Nat) : Option Nat := if b then some code else none
  match p with
  | .line => cond (off == 0x050 && (decide (fld v 5 0 < 4) || decide (48 < fld v 5 0))) 0x0102
  | .enc =>
    if off = 0x040 then cond (decide (6 ≤ fld v 2 0)) 3
    else if off = 0x04C ∨ off = 0x050 then cond (decide (v < 0x10000)) 0x0101
    else if off = 0x06C then cond (decide (v < 0x271000)) 0x0102
    else none
  | .ch =>
    if off = 0x108 then cond (decide (96 < (sgn 8 v).natAbs)) 0x0181
    else if off = 0x0C0 then
      if fld v 1 0 = 3 then some 0x0182
      else cond ((s.lane i).ident.isSome && !bitOf (s.lane i).formats (fld v 1 0)) 0x0183
    else none
  | .cam =>
    if 0x048 ≤ off ∧ off < 0x058 then cond (s.mapConflict i ((off - 0x048) / 4) v) 0x0101
    else cond (off == 0x068 && bitOf v 31 && s.rdF (Reg.CAM_CCI_STATUS i) 2 0 == 1) 0x0102
  | .ispctx =>
    if off = 0x044 then
      cond ((decide (1 ≤ fld v 4 2) && decide (fld v 4 2 ≤ 3)) || decide (2 ≤ fld v 17 16)
        || badGeometry (fld v 1 0) (s.shadowOf (k + 4))) 0x0101
    else if off = 0x048 then cond (badGeometry (fld (s.shadowOf (k - 4)) 1 0) v) 0x0101
    else none
  | .scaler =>
    let n := s.resultSlots
    let r := s.rdF Reg.SCALER_RESULT_READ 7 0
    cond (off == 0x09C && (decide (n ≤ fld v 7 0)
      || decide (ringGap n (s.rdF Reg.SCALER_RESULT_WRITE 7 0) r < ringGap n (fld v 7 0) r))) 0x0103
  | .lamp =>
    cond (decide (0x100 ≤ off) && decide (off < 0x300) && off % 32 == 4
      && (decide (fld v 19 0 < 3200) || decide (800000 < fld v 19 0))) 0x0101
  | .lampseq =>
    if 0x080 ≤ off ∧ off < 0x0E0 then
      cond ((bitsOf 32 v).any (fun c => s.bandMiss ((off - 0x080) / 8) (c + 8 * (off % 8)))) 0x0102
    else none
  | .pair => cond (off == 0x048 && (decide (fld v 15 0 < 32) || decide (4096 < fld v 15 0))) 0x0102
  | .mbox | .mboxs =>
    cond (decide (0x100 ≤ off) && decide (off < 0x500) && off % 64 == 0x024 && decide (0x1000000 < fld v 24 0)) 0x0105
  | _ => none

/-- The bits of a register whose write is state-changing (R344). -/
def gateMask (k : Nat) : Nat :=
  if k / 0x1000 = Reg.pageAPPLY ∧ 0x400 ≤ k % 0x1000 then 0xFFFFFFFF else mirrorMask k

/-- Fields that a write does not change in this state, with the error of a write that would. -/
def State.heldBits (s : State) (src : Req) (p : PageType) (k : Nat) : List (Nat × Nat) :=
  let off := k % 0x1000
  (match s.writeGate src with
    | some code => [(gateMask k, code)]
    | none => []) ++
  match p with
  | .scaler => if off = 0x040 ∧ s.runSt ≠ 0 then [(0x0000FF03, 0x0101)] else []
  | .stats =>
    if off = 0x054 ∧ (s.stateFault src .stats 0 Reg.STATS_RING_BASE).isSome then [(1, 0x0101)] else []
  | .yard =>
    if 0x100 ≤ off ∧ off < 0x500 ∧ off % 64 = 8 ∧ s.bit k 0 then [(0x00001F02, 0x0112)] else []
  | .mboxs => if 0x100 ≤ off ∧ off < 0x500 ∧ off % 64 = 0x028 then [(0x00000040, 0x0005)] else []
  | _ => []

/-! ## What a write stores -/

def isRws (k : Nat) : Bool := accOf k == some .rws

/-- The value that a write replaces: the shadow, where there is one. -/
def State.stored (s : State) (k : Nat) : Nat := if isRws k then s.shadowOf k else s.rd k

/-- Store the bits of `m`. -/
def State.putReg (s : State) (k v m : Nat) : State :=
  let new := (s.stored k &&& (0xFFFFFFFF ^^^ m)) ||| (v &&& m)
  if isRws k then s.putShadow k new else s.wr k new

/-- Forward a mirrored register that has been written (R345). -/
def State.mirrorReg (s : State) (k : Nat) : State :=
  if mirrorMask k = 0 then s else s.mirror k (s.stored k &&& mirrorMask k)

/-- The bits that a write of a requester may change: the peer agent writes the mirrored ones. -/
def writable (src : Req) (k : Nat) : Nat :=
  if src = .peer ∧ mirrorMask k ≠ 0 then maskAt k &&& mirrorMask k else maskAt k

/-- Store a register whose write is taken, but for the fields that are held. -/
def State.storeHeld (s : State) (src : Req) (p : PageType) (k v : Nat) : State :=
  let held := s.heldBits src p k
  let m := writable src k
  let all := held.foldl (fun a h => a ||| h.1) 0
  let s := held.foldl (fun s h =>
    if h.1 &&& m &&& (s.stored k ^^^ v) = 0 then s else s.accessErr (k / 0x1000) h.2 k src) s
  let m := m &&& (0xFFFFFFFF ^^^ all)
  if m = 0 then s else
    let s := s.putReg k v m
    if mirrorMask k &&& m = 0 then s else s.mirrorReg k

/-! ## What a write does beyond storing -/

/-- A change of HYST or DWELL restarts a dwell in progress (R509). -/
def State.restartDwell (s : State) (k : Nat) : State :=
  (s.pwr.dwell.filter (fun e => e.1 / 64 == k)).foldl
    (fun s e => s.setDwell k (e.1 % 64) { e.2 with up := 0, down := 0 }) s

/-- The effect of a write that has been stored. `old` is the value before. -/
def State.wrote (s : State) (src : Req) (p : PageType) (i k old data : Nat) : State :=
  let off := k % 0x1000
  match p with
  | .enc =>
    if off = 0x044 ∨ off = 0x048 then
      if bitOf data 0 && !bitOf old 0 then s.wrB Reg.ENC_ENC_STATUS ((off - 0x044) / 4) true
      else if bitOf old 0 && !bitOf data 0 then s.newLos
      else s
    else s
  | .ch =>
    if off = 0x0C4 then (if bitOf data 1 then s.clearScreenFault i else s)
    else if off = 0x080 then (if bitOf data 1 then s.sendEcho i else s)
    else if off = 0x0A4 then (if bitOf data 31 then s.tableSend src i else s)
    else s
  | .yard =>
    if 0x100 ≤ off ∧ off < 0x500 ∧ off % 64 = 8 then
      let q := (off - 0x100) / 64
      if !s.queueOn q then (s.setQueue q {}).setQueueSt q 7
      else if s.queueSt q = 7 then s.queueReady q else s
    else s
  | .job =>
    if off = 0x040 ∨ off = 0x044 ∨ off = 0x070 ∨ 0x0C0 ≤ off ∧ off < 0x0E0 then s.rescanRows
    else if off = 0x080 then s.showCredits
    else s
  | .cam => if off = 0x068 ∧ bitOf data 31 then s.cciGo src i else s
  | .stats => if off = 0x054 then s.showRecords else s
  | .scaler => if off = 0x040 then s.showScaler else s
  | .pair => if off = 0x040 then s.judgeWired else s
  | .ring => if off = 0x050 ∨ off = 0x054 then s.showTlMax else s
  | .net => if off = 0x040 ∧ s.rd k ≠ old then (s.netDown i).sfpPins i else s
  | .therm =>
    if 0x100 ≤ off ∧ (old ^^^ s.rd k) / 65536 ≠ 0 then s.restartDwell ((off - 0x100) / 4) else s
  | _ => s

/-- The registers whose write is a command of its own: the effect in place of a plain store. -/
def State.special (s : State) (src : Req) (p : PageType) (i k data : Nat) : Option State :=
  let off := k % 0x1000
  match p with
  | .yard =>
    if 0x100 ≤ off ∧ off < 0x500 ∧ off % 64 = 0x010 then some (s.doorbell ((off - 0x100) / 64) data)
    else if 0x800 ≤ off ∧ off < 0xC00 then some (s.regionWrite src ((off - 0x800) / 16) (off % 16 / 4) data)
    else none
  | .ch =>
    if off = 0x040 then
      some (if bitOf data 0 = s.bit k 0 then s else if bitOf data 0 then s.isolateLane i else s.releaseLane i)
    else none
  | .stats => if off = 0x04C then some (s.readIdxHost src data) else none
  | .pwr => if off = 0x05C then some (s.headPower src data) else none
  | .time => if off = 0x07C then some (s.convertTime src data) else none
  | .mbox | .mboxs =>
    if noRegion k then
      some (match s.mbFault src (mbOf p off) ((off - 0x100) % 64) with
        | some code => s.accessErr (k / 0x1000) code k src
        | none => s)
    else none
  | _ => none

/-- A write of a register that holds a value. The low half of a pair waits in its latch; the high half writes both
(R44). -/
def State.writeStored (s : State) (src : Req) (p : PageType) (i k data : Nat) : State :=
  let page := k / 0x1000
  let err code := s.accessErr page code k src
  match s.special src p i k data with
  | some t => t
  | none =>
    let gated := gateMask k &&& maskAt k
    match (if gated ≠ 0 ∧ gated = maskAt k then s.writeGate src else none) with
    | some code => err code
    | none =>
      match s.stateFault src p i k with
      | some code => err code
      | none =>
        if isLo k then s.setWriteLatch page src data
        else if isHi k then
          let lo := s.lowWord page src (s.stored (k - 4))
          match (s.valueFault p i (k - 4) lo <|> s.valueFault p i k data) with
          | some code => err code
          | none => (s.putReg (k - 4) lo (maskAt (k - 4))).putReg k data (maskAt k)
        else
          match s.valueFault p i k data with
          | some code => err code
          | none => (s.storeHeld src p k data).wrote src p i k (s.rd k) data

/-! ## Actions (R560) -/

/-- Actions in ascending bit order. -/
def State.acts (s : State) (data : Nat) (l : List (Nat × (State → State))) : State :=
  l.foldl (fun s a => if bitOf data a.1 then a.2 s else s) s

/-- A write of a write-only or W1S register of a block. -/
def State.act (s : State) (src : Req) (p : PageType) (i k data : Nat) : State :=
  let off := k % 0x1000
  match p with
  | .intc => s.ackVector (data % 64)
  | .locks => s.forceRelease src data
  | .sys => s.resetCtrl src data
  | .line => s.acts data [(0, fun s => s.armRun src), (1, fun s => s.startRun src), (2, fun s => s.drainRun src)]
  | .apply =>
    let n := (off - 0x400) / 32
    if isHost src && decide (24 ≤ n) then s.accessErr (k / 0x1000) 0x0105 k src
    else s.acts data [(1, fun s => s.cancelSlot src n), (0, fun s => s.armSlot src n)]
  | .ch =>
    if bitOf data 1 then s.doRestart src i
    else s.acts data [(0, fun s => s.doRetrain src i), (2, fun s => s.doRateUp src i), (3, fun s => s.doAccept src i)]
  | .yard =>
    let q := (off - 0x100) / 64
    s.acts data [(0, fun s => s.queueRestart q), (1, fun s => s.queueStop q)]
  | .iommu => s.acts data [(0, fun s => s.atcFlush)]
  | .scaler =>
    if off = 0x070 then s.acts data [(0, fun s => s.stairForce src), (1, fun s => s.cycleRestart src)]
    else (bitsOf 32 data).foldl (fun s b => s.reref (32 * ((off - 0x0DC) / 4) + b)) s
  | .lamp =>
    if off = 0x044 then s.acts data [(0, fun s => s.groupResume src i)]
    else
      let c := 16 * i + (off - 0x100) / 32
      s.acts data [(0, fun s => s.clearLamp c), (1, fun s => s.probeNow c s.frc)]
  | .lampseq => s.acts data [(0, fun s => s.lampPush src), (1, fun s => s.lampFlush 0), (2, fun s => s.lampFlush 1)]
  | .peer => s.acts data [(0, fun s => s.portRetrain i), (1, fun s => s.widen i 0)]
  | .pair => s.acts data
      [(0, fun s => s.changeCtrl src false), (1, fun s => s.changeCtrl src true), (2, fun s => s.digestNow src)]
  | .ring => s.acts data [(0, fun s => s.enumerate src), (1, fun s => s.resync)]
  | .time => s.acts data [(0, fun s => s.acceptPath), (1, fun s => s.forceHoldover)]
  | .tio =>
    let n := (off - 0x100) / 64
    if off % 64 = 0x01C then s.acts data [(1, fun s => s.disarmTimer n), (0, fun s => s.armTimer src n)]
    else s.acts data [(0, fun s => s.planPush src n), (1, fun s => s.planFlush n)]
  | .dram => s.acts data
      [(0, fun s => s.startRetrain i), (1, fun s => s.scrubRestart i), (2, fun s => s.restoreDram i)]
  | .mbox | .mboxs =>
    if off = 0x040 then s.acts data [(0, fun s => s.detach (p == .mboxs))]
    else if off = 0x058 then s.ackVector (if p = .mbox then data % 64 else 64 + data % 16)
    else
      let n := mbOf p off
      if (off - 0x100) % 64 = 0x014 then s.mbAck src n data
      else s.acts data [(0, fun s => s.mbPost src n), (1, fun s => s.mbTake src n), (2, fun s => s.mbClear src n)]
  | .nvs => s.acts data [(0, fun s => s.compactNow src)]
  | .fw =>
    if off = 0x06C then s.reboot src data
    else s.acts data [(0, fun s => s.eraseWrite src), (1, fun s => s.fwVerify src), (2, fun s => s.fwActivate src),
      (3, fun s => s.fwConfirm src), (4, fun s => s.liveCrew src), (5, fun s => s.liveRanger src),
      (6, fun s => s.fwAbort src)]
  | .tally => s.acts data [(0, fun s => s.hostPost src)]
  | .pwr => s.acts data [(0, fun s => s.powerRestart)]
  | _ => s

/-! ## A write of a register -/

/-- Firmware writes CH_OWNER (R455). -/
def firmwareOwned (src : Req) (k : Nat) : Bool :=
  k == Reg.MBOX_CH_OWNER && (match src with | .crew _ => true | .ranger => true | _ => false)

/-- A write of the register with a key; `hw` has the W1C bits that hardware sets in the same clock. -/
def State.writeReg (s : State) (src : Req) (k data hw : Nat) : State :=
  let page := k / 0x1000
  let off := k % 0x1000
  let data := data % 2 ^ 32
  let err code := s.accessErr page code k src
  match lockNum k with
  | some n => s.writeLock src n data
  | none =>
    match pageAt page with
    | none => s.wr k (if k % 16 = 12 then data % 2 else data)
    | some (p, i) =>
      if p = .pair ∧ !s.pairMode ∧ off ≠ 0x02C then err 0x0101
      else if off < 0x040 then s.writeHeader src p i page off data hw
      else match accOf k with
        | none => err 4
        | some .ro => if firmwareOwned src k then s.wr k data else err 5
        | some .rc => err 5
        | some .wo => s.act src p i k data
        | some .w1s => s.act src p i k data
        | some .w1c => s.wr k (clearBits (s.rd k) data (hw &&& maskAt k))
        | some .rwl => if s.bit (Reg.CTRL (headerPage page)) 3 then err 1 else s.writeStored src p i k data
        | some .rws => if s.armedPage page then err 2 else s.writeStored src p i k data
        | some .rw => s.writeStored src p i k data
        | some .lock => s

/-- A write at a bus address. -/
def State.busWrite (s : State) (src : Req) (a data hw : Nat) : State :=
  if s.bar0Down src a then s
  else match s.spot src a with
    | .reg k => s.writeReg src k data hw
    | .table b => s.tableStore src b data
    | .unmapped => s.unmappedAt src a
    | _ => s

/-- REGISTER_WRITE. -/
def execRegisterWrite (src : Req) (addr data : Nat) (s : State) : Res := .next (s.busWrite src addr data 0)

/-- WRITE_HI. -/
def execWriteHi (src : Req) (addr data : Nat) (s : State) : Res := .next (s.busWrite src addr data 0)

/-- WRITE_1_TO_CLEAR. -/
def execWrite1ToClear (src : Req) (addr data hw : Nat) (s : State) : Res := .next (s.busWrite src addr data hw)

/-- INT_FORCE. -/
def execIntForce (src : Req) (page data : Nat) (s : State) : Res :=
  if s.reaches src page then .next (s.writeReg src (Reg.INT_FORCE page) data 0) else .next s

/-! ## The peer agent (R345) -/

/-- A mirrored write that the follower's peer agent takes. -/
def State.mirroredWrite (s : State) (k data : Nat) : State :=
  if s.pairMode && s.follows then
    s.countMirror.writeReg .peer k data 0
  else s

/-- MIRRORED_WRITE. -/
def execMirroredWrite (addr data : Nat) (s : State) : Res := .next (s.mirroredWrite addr data)

end Sys2Proof.Machine
end

