-- ==== Sys2Proof/Machine/PeerFrame.lean ====
section
/-! DEFINITION. The data-class frames of a peer port (R340): their check, their order and their acknowledgement, and
what the modules of a pair send each other in them. The manual names the messages and not their numbers, which are the
model's (log 40). -/

namespace Sys2Proof.Machine

/-- The state after a meaning that never stops. -/
def nextOf (r : Res) (s : State) : State :=
  match r with
  | .next t => t
  | _ => s

/-- Field i of a message. -/
def arg (l : List Nat) (i : Nat) : Nat := l.getD i 0

/-- Pairs of a list. -/
def pairsOf : List Nat → List (Nat × Nat)
  | a :: b :: l => (a, b) :: pairsOf l
  | _ => []

/-- The follower arms a line-domain page with the leader's target, and acknowledges it (R49). -/
def State.partnerArm (s : State) (page target : Nat) : State :=
  if !s.follows || domainOf page != 1 then s
  else
    let s := (s.countMirror.wr (Reg.ARM_TARGET page) target).armPage .peer page
    if s.bit (Reg.SHADOW_CTRL page) 3 then s else s.toPartner 1 0x03 [page]

/-- No line made from the tables of these channels reaches a head: lines are not produced, or ABSENT is sent for them all
(R24, R365). -/
def State.absentNow (s : State) (cs : List Nat) : Bool :=
  !s.printing || cs.all (fun c => s.pair.absentFrom.any (fun e => e.1 == c && decide (0 ≤ ldiff s.nextLine e.2)))

/-- The channels that a table part from a key concerns, and those of a page. -/
def partChans (t lo : Nat) : List Nat :=
  if t = 0 then [lo / 6144] else if t = 1 then [lo / 256] else if t = 2 then [lo]
  else if t = 3 then planeChannels (lo / 6144) else planeChannels (lo / 65536)
def pageChans (page : Nat) : List Nat :=
  match pageAt page with
  | some (.ch, i) => [i]
  | some (.plane, i) => planeChannels i
  | _ => []

/-- A value in force of the leader, for a channel or plane under repair (R365). -/
def State.repairReg (s : State) (k v : Nat) : State :=
  let cs := pageChans (k / 0x1000)
  if s.follows && !cs.isEmpty && s.absentNow cs then s.wr k v else s

/-- The strip of a forced staircase, as the leader has found it (R284, R345). -/
def State.mirroredForce (s : State) (k : Nat) : State :=
  if !s.follows then s
  else { s.countMirror with colour := { s.colour with forced := s.colour.forced.filter (· != k) ++ [k] } }

/-- MIRROR class: mirrored writes and arms, slots, retrains, handover, the start of a run. -/
def State.takeMirror (s : State) (kind : Nat) (l : List Nat) : State :=
  let a := arg l 0
  let b := arg l 1
  if kind = 0x01 then s.mirroredWrite a b
  else if kind = 0x02 then s.partnerArm a b
  else if kind = 0x03 then (s.modPair (fun p => { p with armWait := p.armWait.filter (· != a) })).applyIdle
  else if kind = 0x10 then
    nextOf (execSlotMessage (Fin.ofNat 32 a) b (arg l 2) (arg l 3) (arg l 4) (arg l 5) (arg l 6) (arg l 7) (arg l 8) s) s
  else if kind = 0x11 then nextOf (execSlotAck (Fin.ofNat 32 a) s) s
  else if kind = 0x12 then nextOf (execSlotNak (Fin.ofNat 32 a) s) s
  else if kind = 0x13 then nextOf (execSlotConfirm (Fin.ofNat 32 a) s) s
  else if kind = 0x14 then (if s.leads then s.answerDoubt (a % 32) else s)
  else if kind = 0x15 then nextOf (execInDoubtAnswer (Fin.ofNat 32 a) (b == 1) (arg l 2) s) s
  else if kind = 0x16 then nextOf (execSlotCancelMessage (Fin.ofNat 32 a) s) s
  else if kind = 0x17 then s.mirroredForce a
  else if kind = 0x18 then
    (match Decision.ofFields l with
      | some d => if s.leads then s.takeDecision d else s
      | none => s)
  else if kind = 0x19 then (if s.leads then s.stairForce (.crew 1) else s)
  else if kind = 0x20 then nextOf (execRetrainRequest (Fin.ofNat 128 a) (b == 1) s) s
  else if kind = 0x21 then (if a < 128 then s.granted a else s)
  else if kind = 0x23 then (if a < 128 then s.notGranted a else s)
  else if kind = 0x22 then (if a < 128 then s.partnerLane a b (l.drop 2) else s)
  else if kind = 0x30 then s.partnerAsks (a == 1)
  else if kind = 0x31 then (if s.leads then s else s.changeAgreed (a == 1) b (arg l 2 == 1))
  else if kind = 0x32 then s.changeRefused
  else if kind = 0x40 then nextOf (execStartMessage a b s.frc s) s
  else if kind = 0x41 then (s.modLine (fun u => { u with startLine := a })).setRunNum b
  else if kind = 0x42 then s.syncAgreed (a == 1) b
  else if kind = 0x43 then s.answerSync
  else if kind = 0x44 then s.agreeDigest (a == 1) b
  else if kind = 0x45 then (if s.leads then s.startDigest else s)
  else s

/-- FORWARD class: one table entry, or a part of a table for TARGET, which the follower takes, or for ACTIVE, which it takes
only while ABSENT is sent (R24, R346, R364, R365). -/
def State.takeForward (s : State) (kind : Nat) (l : List Nat) : State :=
  let s := if !s.follows || kind == 0x03 && !s.absentNow (partChans (arg l 0) (arg l 1)) then s
    else if kind = 0x01 then s.countMirror.putTable (arg l 0) (arg l 1) (arg l 2)
    else if kind = 0x02 then s.takePart false (arg l 0) (arg l 1) (l.drop 2)
    else if kind = 0x03 then s.takePart true (arg l 0) (arg l 1) (l.drop 2)
    else if kind = 0x04 then s.takeResume (arg l 0) (arg l 1)
    else if kind = 0x05 then s.repairReg (arg l 0) (arg l 1)
    else s
  s.judgeWaiting

/-- BULK class: a tile digest, the table digests, a health report. -/
def State.takeBulk (s : State) (kind : Nat) (l : List Nat) : State :=
  let a := arg l 0
  if kind = 0x01 then nextOf (execTileDigestRecord (.peer (Fin.ofNat 8 (arg l 0)) (arg l 1) (arg l 2) (arg l 3)) s) s
  else if kind = 0x02 then
    s.takeDigests a (pairsOf (l.drop 1))
  else if kind = 0x03 then s.wr Reg.PAIR_PARTNER_HEALTH (arg l 0 % 65536)
  else s

/-- What a frame delivered on a port carries: the two modules of a pair speak on PEER_P. -/
def State.deliver (s : State) (p cls kind : Nat) (l : List Nat) : State :=
  if p ≠ 2 ∨ !s.pairMode then s
  else if cls = 1 then s.takeMirror kind l
  else if cls = 2 then s.takeForward kind l
  else s.takeBulk kind l

/-- The receiver acknowledges a class up to a number. -/
def State.ackPeer (s : State) (p cls n : Nat) : State := s.sendTime p 0x09 [cls, n]

/-- A frame of a data class. -/
def State.takePeerFrame (s : State) (p : Nat) (f : PeerFrame) : State :=
  let cls := f.cls.val
  if !f.crcOk then (s.count (Reg.PEER_FRAME_ERR p)).intSet (Reg.pagePEER p) 12
  else
    let s := s.acked p cls (f.ack % 65536)
    let x := s.peerPort p
    let last := smGet (fun _ => 0) x.rxSeq cls
    if f.seq % 65536 = (last + 1) % 65536 then
      let s := s.setPeerPort p { x with rxSeq := smSet (fun _ => 0) x.rxSeq cls (f.seq % 65536) }
      (s.deliver p cls f.kind f.fields).ackPeer p cls (f.seq % 65536)
    else if sdiff 16 f.seq last ≤ 0 then s.ackPeer p cls last
    else s

/-- An ENUM message from its fields. -/
def enumOf (l : List Nat) : Enum :=
  { addr := arg l 0, count := arg l 1, root := arg l 2, east := arg l 3 != 0, chain := arg l 4 != 0
    reports := pairsOf (l.drop 5) }

/-- What a TIME-class block carries, by its kind (log 40): LINE_TIME, ENUM, the closure probe, a tick instant, a heartbeat
or START; the other kinds are commands of their own. -/
def State.takeBlock (s : State) (p kind : Nat) (l : List Nat) : State :=
  let a := arg l 0
  let b := arg l 1
  if kind = 0x0A then nextOf (execStartMessage a b s.frc s) s
  else if kind = 0x09 then s.acked p a (b % 65536)
  else if p = 2 then
    if kind = 0x07 then nextOf (execTickInstant a b s) s
    else if kind = 0x08 then nextOf (execPeerHeartbeat a b (arg l 2) (arg l 3) s.frc s) s
    else s
  else if kind = 0x03 then nextOf (execLineTime a b s.frc s) s
  else if kind = 0x05 then nextOf (execRingEnum (p == 0) (enumOf l) s.frc s) s
  else if kind = 0x06 && p == 0 then nextOf (execClosureProbe a s.frc s) s
  else s

/-- A TIME-class block: the first good copy is taken, the others are copies of it; a copy whose CRC-8 fails is discarded. -/
def State.takeTime (s : State) (p : Nat) (f : PeerFrame) : State :=
  if !f.crcOk then (s.count (Reg.PEER_FRAME_ERR p)).intSet (Reg.pagePEER p) 12
  else if (s.peerPort p).lastBlock = some f.seq then s
  else (s.setPeerPort p { s.peerPort p with lastBlock := some f.seq }).takeBlock p f.kind f.fields

/-- PEER_FRAME: a data-class frame while the port is UP, a TIME-class block also in RENEG. -/
def execPeerFrame (p : Fin 3) (f : PeerFrame) (s : State) : Res :=
  if f.cls = 0 then .next (if s.peerUp p.val then s.takeTime p.val f else s)
  else if s.peerSt p.val = 4 then .next (s.takePeerFrame p.val f)
  else .next s

end Sys2Proof.Machine
end

