-- ==== Sys2Proof/Machine/Status.lean ====
section
/-! DEFINITION. Head link: STATUS (R233, R234), what it tells of the partner (R359), and the interrupts of R240. -/

namespace Sys2Proof.Machine

/-- Whether a counter rose between two reports. -/
def rose (seen : Bool) (old new : Nat) : Bool := seen && decide (0 < sdiff 32 new old)

/-- The interrupts of R240 that a STATUS sets. -/
def State.statusInts (s : State) (c : Nat) (st : HeadStatus) : State :=
  let p := Reg.pageCH c
  let k := Reg.CH_PROTO_STATUS c
  let l := s.lane c
  let new i := st.counters.getD i 0
  let s := if st.fault && !s.bit k 9 then s.intSet p 21 else s
  let s := if (st.halted && !s.bit k 10) || (st.aborted && !s.bit k 11) then s.intSet p 22 else s
  let s := if rose l.statusSeen (l.counter 5) (new 5) then
      let s := s.intSet p 23
      if s.pairMode then { s with pair := { s.pair with dupRise := true } }.startDigest else s
    else s
  let s := if rose l.statusSeen (l.counter 6) (new 6) then s.intSet p 24 else s
  if rose l.statusSeen (l.counter 8) (new 8) then s.intSet p 28 else s

/-- In WIRED mode a lease held in DEGRADED after the loss leads to ALONE once the partner is shown not to print, as it does
at the grant (R359, R360). -/
def State.wiredAlone (s : State) : State :=
  if s.wired && s.leaseValid && s.leads && s.cond == 4 then s.takeLead false else s

/-- The last three STATUS frames of a lane (R359): whether a duplicate counter rose, and whether LINES_FIRED did. -/
def State.judgeSilent (s : State) (c : Nat) (st : HeadStatus) : State :=
  if !s.pairMode then s
  else
    let l := s.lane c
    let new i := st.counters.getD i 0
    let dup := !l.statusSeen || l.counter 4 != new 4 || l.counter 5 != new 5
    let q := ((dup, rose l.statusSeen (l.counter 9) (new 9)) :: smGet (fun _ => []) s.pair.quiet c).take 3
    { s with pair := { s.pair with quiet := smSet (fun _ => []) s.pair.quiet c q } }.showSilent.wiredAlone

/-- The end of a TABLE send that waits for this STATUS (R231). -/
def State.statusTable (s : State) (c : Nat) (st : HeadStatus) : State :=
  let k := Reg.CH_TABLE_STATUS c
  if s.rdF k 2 0 = 2 ∧ st.tableSeq % 256 = s.rdF k 23 16 then
    let s := (s.wrF k 15 8 st.tableResult).wrF k 2 0 (if st.tableResult % 256 = 0 then 3 else 4)
    s.intSet (Reg.pageCH c) (if st.tableResult % 256 = 0 then 25 else 26)
  else s

/-- The head's temperature enters the present 1 s bin of the channel (R305). -/
def State.tempSample (s : State) (c : Nat) (temp : Nat) : State :=
  let l := smGet (fun _ => []) s.colour.temps c
  { s with colour := { s.colour with temps := smSet (fun _ => []) s.colour.temps c (l ++ [sgn 16 temp]) } }

/-- STATUS: a valid STATUS frame on an ACTIVE lane (R234). -/
def execHeadStatus (c : Fin 128) (st : HeadStatus) (s : State) : Res :=
  let c := c.val
  if !s.laneActive c then .next s
  else
    let s := (s.statusInts c st).judgeSilent c st
    let run := s.rdF (Reg.CH_PROTO_STATUS c) 7 0
    let s := s.wr (Reg.CH_PROTO_STATUS c) (run + b2n st.fault * 2 ^ 9 + b2n st.halted * 2 ^ 10
      + b2n st.aborted * 2 ^ 11 + b2n st.retrainReq * 2 ^ 12 + st.temp % 2 ^ 16 * 2 ^ 16)
    let s := (s.wr (Reg.CH_HEAD_PERIOD c) (st.period % 2 ^ 32)).wrF (Reg.CH_CNT_SEL c) 31 16 st.tickSkew
    let s := s.modLane c (fun l => { l with
      statusSeen := true
      counters := (List.range 11).foldl (fun m i => smSet (fun _ => 0) m i (st.counters.getD i 0 % 2 ^ 32)) l.counters })
    let s := (s.statusTable c st).tempSample c st.temp
    if st.retrainReq && (s.lane c).asked.isNone then .next (s.requestRetrain c false) else .next s

/-- STATUS_TIMEOUT: no valid STATUS within STATUS_TIMEOUT (R234). -/
def execStatusTimeout (c : Fin 128) (s : State) : Res :=
  let c := c.val
  if s.laneActive c then
    .next (((s.wrB (Reg.CH_PROTO_STATUS c) 8 true).intSet (Reg.pageCH c) 20).countLane c 0xC)
  else .next s

end Sys2Proof.Machine
end

