-- ==== Sys2Proof/Machine/Dispatch.lean ====
section
/-! DEFINITION. One arm per command: the call of its meaning. -/

namespace Sys2Proof.Machine

def exec (i : Instr) (s : State) : Host.Outcome State Fault Refusal :=
  match i with
  | .registerWrite src addr data => Sys2Proof.Machine.execRegisterWrite src addr data s
  | .clearOnRead src addr => Sys2Proof.Machine.execClearOnRead src addr s
  | .write1ToClear src addr data hw => Sys2Proof.Machine.execWrite1ToClear src addr data hw s
  | .intForce src page data => Sys2Proof.Machine.execIntForce src page data s
  | .badAccess src addr write multi => Sys2Proof.Machine.execBadAccess src addr write multi s
  | .apertureWrite src addr data => Sys2Proof.Machine.execApertureWrite src addr data s
  | .thresholdWrite src addr data => Sys2Proof.Machine.execThresholdWrite src addr data s
  | .readLo src addr => Sys2Proof.Machine.execReadLo src addr s
  | .writeHi src addr data => Sys2Proof.Machine.execWriteHi src addr data s
  | .blockReset src page => Sys2Proof.Machine.execBlockReset src page s
  | .configLock src page => Sys2Proof.Machine.execConfigLock src page s
  | .shadowArm src page => Sys2Proof.Machine.execShadowArm src page s
  | .shadowDisarm src page applyNow => Sys2Proof.Machine.execShadowDisarm src page applyNow s
  | .shadowApply page frame => Sys2Proof.Machine.execShadowApply page frame s
  | .lockRead n readers => Sys2Proof.Machine.execLockRead n readers s
  | .lockRelease src n data => Sys2Proof.Machine.execLockRelease src n data s
  | .forceRelease src data => Sys2Proof.Machine.execForceRelease src data s
  | .vecAck pf1 vec => Sys2Proof.Machine.execVecAck pf1 vec s
  | .msixMessage vec t => Sys2Proof.Machine.execMsixMessage vec t s
  | .resetCtrl src data => Sys2Proof.Machine.execResetCtrl src data s
  | .pllLossOfLock pll long => Sys2Proof.Machine.execPllLossOfLock pll long s
  | .encoderCount e fwd tenths t => Sys2Proof.Machine.execEncoderCount e fwd tenths t s
  | .lossOfSignal e t => Sys2Proof.Machine.execLossOfSignal e t s
  | .losClear e => Sys2Proof.Machine.execLosClear e s
  | .slipWindow => Sys2Proof.Machine.execSlipWindow s
  | .virtualTick t => Sys2Proof.Machine.execVirtualTick t s
  | .lineTick t => Sys2Proof.Machine.execLineTick t s
  | .runArm src => Sys2Proof.Machine.execRunArm src s
  | .runStart src => Sys2Proof.Machine.execRunStart src s
  | .runDrain src => Sys2Proof.Machine.execRunDrain src s
  | .drainTimeout t => Sys2Proof.Machine.execDrainTimeout t s
  | .frameQueued line t => Sys2Proof.Machine.execFrameQueued line t s
  | .adviceRecompute t => Sys2Proof.Machine.execAdviceRecompute t s
  | .slotArm src n => Sys2Proof.Machine.execSlotArm src n s
  | .slotCancel src n => Sys2Proof.Machine.execSlotCancel src n s
  | .slotApply n => Sys2Proof.Machine.execSlotApply n s
  | .rampEnd n => Sys2Proof.Machine.execRampEnd n s
  | .bankCopyDone n => Sys2Proof.Machine.execBankCopyDone n s
  | .queueDoorbell src q tail => Sys2Proof.Machine.execQueueDoorbell src q tail s
  | .linearDesc q words host => Sys2Proof.Machine.execLinearDesc q words host s
  | .tileDesc q words host seals => Sys2Proof.Machine.execTileDesc q words host seals s
  | .streamCreditResume q host seals => Sys2Proof.Machine.execStreamCreditResume q host seals s
  | .tileWaitResume q host seals => Sys2Proof.Machine.execTileWaitResume q host seals s
  | .translationCompletion q base size target ok host seals => Sys2Proof.Machine.execTranslationCompletion q base size target ok host seals s
  | .invalidationRequest base size => Sys2Proof.Machine.execInvalidationRequest base size s
  | .pageRequestResponse q ok host seals => Sys2Proof.Machine.execPageRequestResponse q ok host seals s
  | .priTimeout q => Sys2Proof.Machine.execPriTimeout q s
  | .queueRestart src q => Sys2Proof.Machine.execQueueRestart src q s
  | .queueStop src q => Sys2Proof.Machine.execQueueStop src q s
  | .atcFlush src => Sys2Proof.Machine.execAtcFlush src s
  | .regionWrite src r reg data => Sys2Proof.Machine.execRegionWrite src r reg data s
  | .starvedLineResume line => Sys2Proof.Machine.execStarvedLineResume line s
  | .tileDigestRecord record => Sys2Proof.Machine.execTileDigestRecord record s
  | .contoneArrival line plane faults mismatch => Sys2Proof.Machine.execContoneArrival line plane faults mismatch s
  | .faultClear src c => Sys2Proof.Machine.execFaultClear src c s
  | .isolate src c => Sys2Proof.Machine.execIsolate src c s
  | .isolateRelease src c => Sys2Proof.Machine.execIsolateRelease src c s
  | .receiverDetectProbe c detected t => Sys2Proof.Machine.execReceiverDetectProbe c detected t s
  | .trainingFrame c field inverted eye => Sys2Proof.Machine.execTrainingFrame c field inverted eye s
  | .trainTimeout c => Sys2Proof.Machine.execTrainTimeout c s
  | .trainingSilence c t => Sys2Proof.Machine.execTrainingSilence c t s
  | .rateChangeIdleEnd c => Sys2Proof.Machine.execRateChangeIdleEnd c s
  | .blockLockGained rx blocks => Sys2Proof.Machine.execBlockLockGained rx blocks s
  | .blockLockLost rx errs t => Sys2Proof.Machine.execBlockLockLost rx errs t s
  | .lockTimeout c => Sys2Proof.Machine.execLockTimeout c s
  | .exchangeTimeout c => Sys2Proof.Machine.execExchangeTimeout c s
  | .retrainTimeout c => Sys2Proof.Machine.execRetrainTimeout c s
  | .headHello c h t => Sys2Proof.Machine.execHeadHello c h t s
  | .helloRepeat c => Sys2Proof.Machine.execHelloRepeat c s
  | .eyeMeasurement c eye => Sys2Proof.Machine.execEyeMeasurement c eye s
  | .headerErrorWindow rx errs => Sys2Proof.Machine.execHeaderErrorWindow rx errs s
  | .linkRetrain src c => Sys2Proof.Machine.execLinkRetrain src c s
  | .linkRestart src c t => Sys2Proof.Machine.execLinkRestart src c t s
  | .rateUp src c => Sys2Proof.Machine.execRateUp src c s
  | .linkAccept src c t => Sys2Proof.Machine.execLinkAccept src c t s
  | .headStatus c st => Sys2Proof.Machine.execHeadStatus c st s
  | .statusTimeout c => Sys2Proof.Machine.execStatusTimeout c s
  | .frameDiscard c => Sys2Proof.Machine.execFrameDiscard c s
  | .tableSend src c => Sys2Proof.Machine.execTableSend src c s
  | .tableNoResponse c => Sys2Proof.Machine.execTableNoResponse c s
  | .echoNow src c t => Sys2Proof.Machine.execEchoNow src c t s
  | .echoInterval c t => Sys2Proof.Machine.execEchoInterval c t s
  | .echoReply c seq turnaround t => Sys2Proof.Machine.execEchoReply c seq turnaround t s
  | .echoLost c => Sys2Proof.Machine.execEchoLost c s
  | .portStopExchange c => Sys2Proof.Machine.execPortStopExchange c s
  | .cameraPortEnable src p => Sys2Proof.Machine.execCameraPortEnable src p s
  | .cameraPortDisable src p => Sys2Proof.Machine.execCameraPortDisable src p s
  | .powerSettle p milliamps => Sys2Proof.Machine.execPowerSettle p milliamps s
  | .powerFault p milliamps => Sys2Proof.Machine.execPowerFault p milliamps s
  | .linkTimeout p => Sys2Proof.Machine.execLinkTimeout p s
  | .alignSet port blocks skew => Sys2Proof.Machine.execAlignSet port blocks skew s
  | .alignTimeout p => Sys2Proof.Machine.execAlignTimeout p s
  | .cciGo src p => Sys2Proof.Machine.execCciGo src p s
  | .cciReply p block => Sys2Proof.Machine.execCciReply p block s
  | .cciTimeout p => Sys2Proof.Machine.execCciTimeout p s
  | .frameStart p vc num corrected t => Sys2Proof.Machine.execFrameStart p vc num corrected t s
  | .linePacket p pkt => Sys2Proof.Machine.execLinePacket p pkt s
  | .frameEnd p vc num corrected => Sys2Proof.Machine.execFrameEnd p vc num corrected s
  | .frameTimeout p vc => Sys2Proof.Machine.execFrameTimeout p vc s
  | .triggerRecordTimeout p => Sys2Proof.Machine.execTriggerRecordTimeout p s
  | .ispLine p => Sys2Proof.Machine.execIspLine p s
  | .statsRecordPublish ctx => Sys2Proof.Machine.execStatsRecordPublish ctx s
  | .ispTableSyncDone ctx => Sys2Proof.Machine.execIspTableSyncDone ctx s
  | .readIdxHostWrite src data => Sys2Proof.Machine.execReadIdxHostWrite src data s
  | .scalerRecordTake contrast => Sys2Proof.Machine.execScalerRecordTake contrast s
  | .cycleExpired => Sys2Proof.Machine.execCycleExpired s
  | .resultSetPublish marks => Sys2Proof.Machine.execResultSetPublish marks s
  | .stairForce src => Sys2Proof.Machine.execStairForce src s
  | .cycleRestart src => Sys2Proof.Machine.execCycleRestart src s
  | .driftBin c t => Sys2Proof.Machine.execDriftBin c t s
  | .driftReref src c => Sys2Proof.Machine.execDriftReref src c s
  | .lampGroupEnable src g => Sys2Proof.Machine.execLampGroupEnable src g s
  | .lampGroupDisable src g => Sys2Proof.Machine.execLampGroupDisable src g s
  | .busGood g voutMode failures => Sys2Proof.Machine.execBusGood g voutMode failures s
  | .busWaitTimeout g failures => Sys2Proof.Machine.execBusWaitTimeout g failures s
  | .busFault g => Sys2Proof.Machine.execBusFault g s
  | .groupResume src g => Sys2Proof.Machine.execGroupResume src g s
  | .lampPeriodStart ch t => Sys2Proof.Machine.execLampPeriodStart ch t s
  | .headroomStep g failures => Sys2Proof.Machine.execHeadroomStep g failures s
  | .busMeasure g vout iout failures t => Sys2Proof.Machine.execBusMeasure g vout iout failures t s
  | .sinkSample ch millivolts microamps => Sys2Proof.Machine.execSinkSample ch millivolts microamps s
  | .probeInterval g t => Sys2Proof.Machine.execProbeInterval g t s
  | .probeNow src ch t => Sys2Proof.Machine.execProbeNow src ch t s
  | .probeComplete ch millivolts microamps => Sys2Proof.Machine.execProbeComplete ch millivolts microamps s
  | .probeAbort ch => Sys2Proof.Machine.execProbeAbort ch s
  | .probeBlocked ch => Sys2Proof.Machine.execProbeBlocked ch s
  | .clearLampFault src ch => Sys2Proof.Machine.execClearLampFault src ch s
  | .ntcRead g ohms => Sys2Proof.Machine.execNtcRead g ohms s
  | .lampPush src => Sys2Proof.Machine.execLampPush src s
  | .lampFlush src port => Sys2Proof.Machine.execLampFlush src port s
  | .peerHello p serial mode portId addr proto t => Sys2Proof.Machine.execPeerHello p serial mode portId addr proto t s
  | .peerPortDown p => Sys2Proof.Machine.execPeerPortDown p s
  | .narrowed p lanes errs done => Sys2Proof.Machine.execNarrowed p lanes errs done s
  | .bgRetrain p lanes => Sys2Proof.Machine.execBgRetrain p lanes s
  | .portRetrain src p => Sys2Proof.Machine.execPortRetrain src p s
  | .widenNow src p lanes => Sys2Proof.Machine.execWidenNow src p lanes s
  | .timeTransfer p t1 t2 t3 t4 ring => Sys2Proof.Machine.execTimeTransfer p t1 t2 t3 t4 ring s
  | .peerFrame p f => Sys2Proof.Machine.execPeerFrame p f s
  | .frameRetx p cls => Sys2Proof.Machine.execFrameRetx p cls s
  | .mirroredWrite addr data => Sys2Proof.Machine.execMirroredWrite addr data s
  | .peerHeartbeat role cond epoch gen t => Sys2Proof.Machine.execPeerHeartbeat role cond epoch gen t s
  | .networkHeartbeat m t => Sys2Proof.Machine.execNetworkHeartbeat m t s
  | .heartbeatMiss net t => Sys2Proof.Machine.execHeartbeatMiss net t s
  | .leaseGrant m t => Sys2Proof.Machine.execLeaseGrant m t s
  | .leaseDeny m t => Sys2Proof.Machine.execLeaseDeny m t s
  | .leaseRenew t => Sys2Proof.Machine.execLeaseRenew t s
  | .claimRepeat t => Sys2Proof.Machine.execClaimRepeat t s
  | .leaseLost t => Sys2Proof.Machine.execLeaseLost t s
  | .wiredGrant a b t => Sys2Proof.Machine.execWiredGrant a b t s
  | .slotMessage n target action mask0 mask1 mask2 mask3 fwd crc => Sys2Proof.Machine.execSlotMessage n target action mask0 mask1 mask2 mask3 fwd crc s
  | .slotAck n => Sys2Proof.Machine.execSlotAck n s
  | .slotNak n => Sys2Proof.Machine.execSlotNak n s
  | .slotConfirm n => Sys2Proof.Machine.execSlotConfirm n s
  | .slotAckDeadline n => Sys2Proof.Machine.execSlotAckDeadline n s
  | .inDoubt n => Sys2Proof.Machine.execInDoubt n s
  | .inDoubtAnswer n applied line => Sys2Proof.Machine.execInDoubtAnswer n applied line s
  | .slotCancelMessage n => Sys2Proof.Machine.execSlotCancelMessage n s
  | .startMessage startLine run t => Sys2Proof.Machine.execStartMessage startLine run t s
  | .tickInstant line leaderFrc => Sys2Proof.Machine.execTickInstant line leaderFrc s
  | .retrainRequest c rateUp => Sys2Proof.Machine.execRetrainRequest c rateUp s
  | .handoverRequest src => Sys2Proof.Machine.execHandoverRequest src s
  | .retireRequest src => Sys2Proof.Machine.execRetireRequest src s
  | .handoverAtLine => Sys2Proof.Machine.execHandoverAtLine s
  | .syncEntry => Sys2Proof.Machine.execSyncEntry s
  | .syncComplete => Sys2Proof.Machine.execSyncComplete s
  | .digestNow src => Sys2Proof.Machine.execDigestNow src s
  | .selfTestDigest => Sys2Proof.Machine.execSelfTestDigest s
  | .digestFail target => Sys2Proof.Machine.execDigestFail target s
  | .healthPublish partner => Sys2Proof.Machine.execHealthPublish partner s
  | .closureProbe root t => Sys2Proof.Machine.execClosureProbe root t s
  | .ringEnum fromW m t => Sys2Proof.Machine.execRingEnum fromW m t s
  | .closureTimeout t => Sys2Proof.Machine.execClosureTimeout t s
  | .ringEnumerate src t => Sys2Proof.Machine.execRingEnumerate src t s
  | .ringResync src => Sys2Proof.Machine.execRingResync src s
  | .linePrediction t => Sys2Proof.Machine.execLinePrediction t s
  | .lineTime line ringTime t => Sys2Proof.Machine.execLineTime line ringTime t s
  | .predHold t => Sys2Proof.Machine.execPredHold t s
  | .rateExchange rates lowest partner => Sys2Proof.Machine.execRateExchange rates lowest partner s
  | .networkFrame port f t => Sys2Proof.Machine.execNetworkFrame port f t s
  | .ptpSync port m => Sys2Proof.Machine.execPtpSync port m s
  | .followUp port m => Sys2Proof.Machine.execFollowUp port m s
  | .delayReq port t => Sys2Proof.Machine.execDelayReq port t s
  | .delayResp port m => Sys2Proof.Machine.execDelayResp port m s
  | .ptpAnnounce port m => Sys2Proof.Machine.execPtpAnnounce port m s
  | .announceTimeout port => Sys2Proof.Machine.execAnnounceTimeout port s
  | .pdelayReq port m t => Sys2Proof.Machine.execPdelayReq port m t s
  | .pdelayResp port m => Sys2Proof.Machine.execPdelayResp port m s
  | .pdelayRespFollowUp port m => Sys2Proof.Machine.execPdelayRespFollowUp port m s
  | .lanReadmitted port t => Sys2Proof.Machine.execLanReadmitted port t s
  | .syncTimeout port t => Sys2Proof.Machine.execSyncTimeout port t s
  | .verifyComplete t => Sys2Proof.Machine.execVerifyComplete t s
  | .holdoverExpired t => Sys2Proof.Machine.execHoldoverExpired t s
  | .acceptPath src => Sys2Proof.Machine.execAcceptPath src s
  | .forceHoldover src => Sys2Proof.Machine.execForceHoldover src s
  | .supervisionFrame port mac t => Sys2Proof.Machine.execSupervisionFrame port mac t s
  | .lifeCheck => Sys2Proof.Machine.execLifeCheck s
  | .entryForget mac t => Sys2Proof.Machine.execEntryForget mac t s
  | .netReport => Sys2Proof.Machine.execNetReport s
  | .networkLinkChange port up speed => Sys2Proof.Machine.execNetworkLinkChange port up speed s
  | .nowRead src t => Sys2Proof.Machine.execNowRead src t s
  | .conversion src data => Sys2Proof.Machine.execConversion src data s
  | .timerArm src n t => Sys2Proof.Machine.execTimerArm src n t s
  | .timerDisarm src n => Sys2Proof.Machine.execTimerDisarm src n s
  | .timerEvent n t => Sys2Proof.Machine.execTimerEvent n t s
  | .planPush src n => Sys2Proof.Machine.execPlanPush src n s
  | .planFlush src n => Sys2Proof.Machine.execPlanFlush src n s
  | .capture pin falling t => Sys2Proof.Machine.execCapture pin falling t s
  | .capInfoRead src => Sys2Proof.Machine.execCapInfoRead src s
  | .dramRead reqs t => Sys2Proof.Machine.execDramRead reqs t s
  | .dramRefresh d elapsed pull => Sys2Proof.Machine.execDramRefresh d elapsed pull s
  | .forcedRefresh d elapsed => Sys2Proof.Machine.execForcedRefresh d elapsed s
  | .dramTempRead d temp => Sys2Proof.Machine.execDramTempRead d temp s
  | .hotExit d => Sys2Proof.Machine.execHotExit d s
  | .parityAlert d after replays cleared => Sys2Proof.Machine.execParityAlert d after replays cleared s
  | .wcrcAlert d after replays cleared => Sys2Proof.Machine.execWcrcAlert d after replays cleared s
  | .scrubRead d ecc word => Sys2Proof.Machine.execScrubRead d ecc word s
  | .retrainInterval d => Sys2Proof.Machine.execRetrainInterval d s
  | .retrainSlice d => Sys2Proof.Machine.execRetrainSlice d s
  | .retrainComplete d pass margin lane => Sys2Proof.Machine.execRetrainComplete d pass margin lane s
  | .retrainNow src d => Sys2Proof.Machine.execRetrainNow src d s
  | .scrubRestart src d => Sys2Proof.Machine.execScrubRestart src d s
  | .clearDegraded src d => Sys2Proof.Machine.execClearDegraded src d s
  | .scheduledStop => Sys2Proof.Machine.execScheduledStop s
  | .mbPost src n => Sys2Proof.Machine.execMbPost src n s
  | .mbTake src n => Sys2Proof.Machine.execMbTake src n s
  | .mailboxAck src n data => Sys2Proof.Machine.execMailboxAck src n data s
  | .mbClear src n => Sys2Proof.Machine.execMbClear src n s
  | .detach src pf1 => Sys2Proof.Machine.execDetach src pf1 s
  | .bodyRead n read => Sys2Proof.Machine.execBodyRead n read s
  | .replyChannelFree n => Sys2Proof.Machine.execReplyChannelFree n s
  | .replyRoomTimeout n => Sys2Proof.Machine.execReplyRoomTimeout n s
  | .ping n => Sys2Proof.Machine.execPing n s
  | .getInfo n => Sys2Proof.Machine.execGetInfo n s
  | .parkRequest n => Sys2Proof.Machine.execParkRequest n s
  | .resumeRequest n => Sys2Proof.Machine.execResumeRequest n s
  | .setHostKey n => Sys2Proof.Machine.execSetHostKey n s
  | .setLookoutKey n => Sys2Proof.Machine.execSetLookoutKey n s
  | .eraseKeys n => Sys2Proof.Machine.execEraseKeys n s
  | .journalWrite n => Sys2Proof.Machine.execJournalWrite n s
  | .journalRead n => Sys2Proof.Machine.execJournalRead n s
  | .perst => Sys2Proof.Machine.execPerst s
  | .functionLevelReset pf1 d3 => Sys2Proof.Machine.execFunctionLevelReset pf1 d3 s
  | .crewWatchdog => Sys2Proof.Machine.execCrewWatchdog s
  | .rangerWatchdog bad => Sys2Proof.Machine.execRangerWatchdog bad s
  | .boot b => Sys2Proof.Machine.execBoot b s
  | .eraseWrite src => Sys2Proof.Machine.execEraseWrite src s
  | .fwVerify src => Sys2Proof.Machine.execFwVerify src s
  | .fwActivate src => Sys2Proof.Machine.execFwActivate src s
  | .confirmImage src => Sys2Proof.Machine.execConfirmImage src s
  | .liveCrew src => Sys2Proof.Machine.execLiveCrew src s
  | .liveRanger src => Sys2Proof.Machine.execLiveRanger src s
  | .updateAbort src => Sys2Proof.Machine.execUpdateAbort src s
  | .fwOperationDone img => Sys2Proof.Machine.execFwOperationDone img s
  | .coreReady core => Sys2Proof.Machine.execCoreReady core s
  | .coreReadyTimeout core => Sys2Proof.Machine.execCoreReadyTimeout core s
  | .fwReboot src data => Sys2Proof.Machine.execFwReboot src data s
  | .compactNow src => Sys2Proof.Machine.execCompactNow src s
  | .compactionDone => Sys2Proof.Machine.execCompactionDone s
  | .nvRangeReturn nor => Sys2Proof.Machine.execNvRangeReturn nor s
  | .hostPost src => Sys2Proof.Machine.execHostPost src s
  | .powerOnReset mains sb24 => Sys2Proof.Machine.execPowerOnReset mains sb24 s
  | .mainsQualified => Sys2Proof.Machine.execMainsQualified s
  | .mainsFail bulk => Sys2Proof.Machine.execMainsFail bulk s
  | .mainsLow vrms => Sys2Proof.Machine.execMainsLow vrms s
  | .sb24Change good millivolts => Sys2Proof.Machine.execSb24Change good millivolts s
  | .railPowerGood r => Sys2Proof.Machine.execRailPowerGood r s
  | .railFault r => Sys2Proof.Machine.execRailFault r s
  | .powerRestart src => Sys2Proof.Machine.execPowerRestart src s
  | .headPowerControl src data => Sys2Proof.Machine.execHeadPowerControl src data s
  | .headPowerDeassert => Sys2Proof.Machine.execHeadPowerDeassert s
  | .sensorSample sensor readings => Sys2Proof.Machine.execSensorSample sensor readings s
  | .thresholdDwell k inst => Sys2Proof.Machine.execThresholdDwell k inst s
  | .thermalTrip inlet => Sys2Proof.Machine.execThermalTrip inlet s
  | .lampTrip g => Sys2Proof.Machine.execLampTrip g s
  | .tripRestart => Sys2Proof.Machine.execTripRestart s
  | .tripLatchClear g => Sys2Proof.Machine.execTripLatchClear g s
  | .stopIn b => Sys2Proof.Machine.execStopIn b s
  | .stopInRelease => Sys2Proof.Machine.execStopInRelease s
  | .stopInDiscrepancy => Sys2Proof.Machine.execStopInDiscrepancy s
  | .sys24InChange present => Sys2Proof.Machine.execSys24InChange present s
  | .sfpChange port present los txFault => Sys2Proof.Machine.execSfpChange port present los txFault s
  | .retireRequestRepeat => Sys2Proof.Machine.execRetireRequestRepeat s
  | .pllLockRegained pll => Sys2Proof.Machine.execPllLockRegained pll s
  | .pcieLinkUp gen width fn0 fn1 => Sys2Proof.Machine.execPcieLinkUp gen width fn0 fn1 s

end Sys2Proof.Machine
end

