-- ==== Sys2Proof/Safety.lean ====
section
/-! DEFINITION. What counts as a safe run, in the terms the statements use: the canonical form of everything that is
held sparsely, the values that no rule lets a piece of state leave, and what one command can do to the queue, to what
the module has sent and to the state. -/

namespace Sys2Proof.Machine

/-- The canonical form of job memory: addresses strictly rising, no byte listed that reads as an unlisted one does. -/
abbrev Memory.wf (m : SMap Byte) : Prop := smWf (fun _ => 0) m

/-- Everything held sparsely is in canonical form, so that equal contents are equal data. -/
structure State.Canon (s : State) : Prop where
  regs : smWf resetOf s.regs
  shadow : smWf resetOf s.shadow
  latchR : smWf (fun _ => none) s.latchR
  latchW : smWf (fun _ => none) s.latchW
  frozen : smWf (fun _ => none) s.frozen
  locks : smWf (fun _ => 0) s.locks
  msix : smWf (fun _ => {}) s.msix
  slots : smWf (fun _ => {}) s.slots
  lanes : smWf (fun _ => {}) s.lanes
  mem : Memory.wf s.job.mem

/-- The owner identities of R62: PF0, PF1, the four Crew cores, Ranger and the partner. -/
def legalOwner (o : Nat) : Bool := [0x01, 0x02, 0x10, 0x11, 0x12, 0x13, 0x20, 0x30].contains o

/-- FRC is a 64-bit counter (R23), and a held lock names one of the owners of R62. -/
structure State.Legal (s : State) : Prop where
  frc : s.frc < 2 ^ 64
  locks : ∀ e ∈ s.locks, legalOwner e.2 = true

/-- The invariant of the machine. -/
structure State.Inv (s : State) : Prop where
  canon : s.Canon
  legal : s.Legal

/-- What holds from the state before a command to the state after it: the queue is left alone, nothing that was sent
is taken back, no free value is drawn twice, and the invariant is kept. -/
structure State.Ext (s t : State) : Prop where
  pending : t.pending = s.pending
  sent : s.out <+: t.out
  drawn : s.freeCount ≤ t.freeCount
  inv : s.Inv → t.Inv

/-- The registers outside a list of keys read as before. -/
def State.regsBut (s t : State) (ks : List Nat) : Prop := ∀ k, k ∉ ks → t.rd k = s.rd k

/-- The registers outside a list of pages read as before. -/
def State.pagesBut (s t : State) (ps : List Nat) : Prop := ∀ k, k / 0x1000 ∉ ps → t.rd k = s.rd k

/-- The registers that a change of MODULE_STATE reaches: SYS, and the Tally intake's where its entry is lost. -/
def moduleKeys : List Nat :=
  [Reg.SYS_MODULE_STATE, Reg.STATUS Reg.pageSYS, Reg.INT_STATUS Reg.pageSYS, Reg.TALLY_DROPPED,
    Reg.INT_STATUS Reg.pageTALLY]

/-- The registers that the Tally intake reaches. -/
def tallyKeys : List Nat := [Reg.TALLY_DROPPED, Reg.INT_STATUS Reg.pageTALLY]

/-- The registers that a record written to the journal or queued for it reaches (R472, R479). -/
def journalKeys : List Nat :=
  [Reg.NVS_NV_STATUS, Reg.MBOXS_KEY_STATE, Reg.NVS_QUEUE_DEPTH, Reg.NVS_JOURNAL_USED, Reg.NVS_RECORDS,
    Reg.NVS_LAST_SEQ_LO, Reg.NVS_LAST_SEQ_HI, Reg.INT_STATUS Reg.pageNVS, Reg.STATUS Reg.pageNVS]

/-- The management state is as before but for the journal and its queue. -/
abbrev Mgmt.butJournal (m n : Mgmt) : Prop :=
  n = { m with journal := n.journal, waiting := n.waiting, nextSeq := n.nextSeq }

/-- The sender of a command whose register stands on a page of the core, which D3hot and, for PF0, a core that is not up
put out of reach (R438). -/
def coreSender : Instr → Option Req
  | .lockRelease src _ _ | .forceRelease src _ | .resetCtrl src _ | .runArm src | .runStart src | .runDrain src
  | .slotArm src _ | .slotCancel src _ | .queueDoorbell src _ _ | .queueRestart src _ | .queueStop src _
  | .atcFlush src | .regionWrite src _ _ _ | .faultClear src _ | .isolate src _ | .isolateRelease src _
  | .linkRetrain src _ | .linkRestart src _ _ | .rateUp src _ | .linkAccept src _ _ | .tableSend src _
  | .echoNow src _ _ | .cameraPortEnable src _ | .cameraPortDisable src _ | .cciGo src _ | .readIdxHostWrite src _
  | .stairForce src | .cycleRestart src | .driftReref src _ | .lampGroupEnable src _ | .lampGroupDisable src _
  | .groupResume src _ | .probeNow src _ _ | .clearLampFault src _ | .lampPush src | .lampFlush src _
  | .portRetrain src _ | .widenNow src _ _ | .handoverRequest src | .retireRequest src | .digestNow src
  | .ringEnumerate src _ | .ringResync src | .acceptPath src | .forceHoldover src | .conversion src _
  | .timerArm src _ _ | .timerDisarm src _ | .planPush src _ | .planFlush src _ | .retrainNow src _
  | .scrubRestart src _ | .clearDegraded src _ | .hostPost src => some src
  | _ => none

/-- The sender of a command whose register stands on a page outside the core, or on PWR, which D3hot puts out of reach. -/
def wakeSender : Instr → Option Req
  | .mbPost src _ | .mbTake src _ | .mailboxAck src _ _ | .mbClear src _ | .detach src _ | .eraseWrite src
  | .fwVerify src | .fwActivate src | .confirmImage src | .liveCrew src | .liveRanger src | .updateAbort src
  | .fwReboot src _ | .compactNow src | .powerRestart src | .headPowerControl src _ => some src
  | _ => none

/-- A command to a DRAM channel (R415). -/
def Out.toDram : Out → Bool
  | .dram _ _ _ => true
  | _ => false

/-- What has left the block but for the commands to DRAM. -/
abbrev State.outButDram (s u : State) : Prop :=
  u.out.filter (fun o => !o.toDram) = s.out.filter (fun o => !o.toDram)

/-- The bank states stand at the end of the journal, where MRAM takes writes (R469, R472). -/
abbrev State.banksRecorded (s u : State) : Prop :=
  s.mramOpen = true → u.mgmt.journal.getLast?.map (·.data) = some u.bankRecord

/-- The registers that an error recorded on a page reaches. -/
def errorKeys (p : Nat) : List Nat := [Reg.ERR_INFO p, Reg.ERR_COUNT p, Reg.INT_STATUS p]

/-- The registers that a change of a lane's state reaches, those of MODULE_STATE apart: its own, and PARTNER_SILENT,
which is judged over the ACTIVE lanes (R359). -/
def laneKeys (c : Nat) : List Nat :=
  [Reg.CH_LINK_STATUS c, Reg.STATUS (Reg.pageCH c), Reg.INT_STATUS (Reg.pageCH c), Reg.PAIR_PAIR_STATUS]

/-- The registers in which DOSE_SHORT of a lamp group shows (R319), and of all four. -/
def groupDoseKeys (g : Nat) : List Nat :=
  Reg.INT_STATUS (Reg.pageLAMP g) :: (List.range 16).map (fun i => diagKey (16 * g + i))
def doseKeys : List Nat := (List.range 4).flatMap groupDoseKeys

/-- An error is recorded on a page (R36, R38, R40): ERR_INFO keeps the first, ERR_COUNT counts, INT_STATUS.ERROR. -/
abbrev State.errored (s u : State) (page code off source : Nat) : Prop :=
  u.rd (Reg.ERR_INFO page) = (if s.rd (Reg.ERR_INFO page) = 0
    then code + off % 0x1000 * 0x10000 + source * 0x10000000 else s.rd (Reg.ERR_INFO page)) ∧
  u.rd (Reg.ERR_COUNT page) = errCountNext (s.rd (Reg.ERR_COUNT page)) ∧
  u.bit (Reg.INT_STATUS page) 4 = true

/-- A safe step: the block goes on. -/
def State.goesOn (s : State) : Prop := ∃ t, step s = .next t

end Sys2Proof.Machine
end

