-- ==== Sys2Proof/Certificates/Slice0/Obligations.lean ====
section
/-! DEFINITION. The statements for the provers. A clause says what one command does on the states that meet its
hypotheses: `∃ u, exec c s = .next u ∧ …` says that the command completes, what it leaves in `u`, and, by `regsBut`,
`pagesBut` or the last equation, that every register and every other piece of state it does not name is as before. -/

open Sys2Proof Sys2Proof.Machine

/-- A step runs the command at the front of the queue. For every command c and every state with c at the front of
its queue, a step is exec of c on that state with the rest of the queue. Spec: 00_scope.md. -/
def Obligations.StepTakesFront : Prop :=
  (∀ (c : Instr) (rest : List Instr) (s : State), s.pending = c :: rest → step s = exec c { s with pending := rest })

/-- A step on an empty queue is one core clock. The model's choice (log 1): on an empty queue FRC counts one clock,
and the Tally intake hands its oldest entry to the log with the next SEQ; each DRAM channel takes an idle slot,
in which its oldest buffered burst is written, and Crew0 takes the oldest frame of each class queue; nothing
else changes but the registers of the log and, after a loss, the entry that reports it. Spec:
15_management_log.md. -/
def Obligations.IdleStep : Prop :=
  (∀ s : State, s.pending = [] → step s = .next s.idle) ∧
  (∀ s : State, s.mgmt.intake = [] → (∀ d ∈ List.range 6, (s.dramCh d).open_ = [] ∧ (s.dramCh d).writes = []) →
      (s.crewRuns 0 = false ∨ ∀ c ∈ List.range 3, smGet (fun _ => []) s.net.queues c = []) →
    ∃ u : State, s.idle = u ∧
      u = { s with frc := (s.frc + 1) % 2 ^ 64 }) ∧
  (∀ (e : TallyEntry) (rest : List TallyEntry) (s : State), s.mgmt.intake = e :: rest → s.mgmt.lost = 0 →
      (∀ d ∈ List.range 6, (s.dramCh d).open_ = [] ∧ (s.dramCh d).writes = []) →
      (s.crewRuns 0 = false ∨ ∀ c ∈ List.range 3, smGet (fun _ => []) s.net.queues c = []) →
    ∃ u : State, s.idle = u ∧
      u.frc = (s.frc + 1) % 2 ^ 64 ∧ u.mgmt.intake = rest ∧
      u.out = s.out ++ [Out.uart 1 (e.words (s.rd Reg.TALLY_NEXT_SEQ))] ∧
      u.rd Reg.TALLY_NEXT_SEQ = (s.rd Reg.TALLY_NEXT_SEQ + 1) % 2 ^ 32 ∧
      u.mgmt.log = (if 8192 ≤ s.mgmt.log.length then s.mgmt.log.drop 1 else s.mgmt.log) ++
        [(s.rd Reg.TALLY_NEXT_SEQ, e)] ∧
      (s.rdF Reg.TALLY_FILTER 5 4 ≤ e.severity → u.bit (Reg.INT_STATUS Reg.pageTALLY) 8 = true) ∧
      s.regsBut u [Reg.TALLY_NEXT_SEQ, Reg.TALLY_OLDEST_SEQ, Reg.INT_STATUS Reg.pageTALLY] ∧
      { u with regs := s.regs, frc := s.frc, mgmt := s.mgmt, out := s.out } = s) ∧
  (∀ (d : Nat) (w : Nat × Nat × Nat) (ws : List (Nat × Nat × Nat)) (s : State), (s.dramCh d).writes = w :: ws →
      (∀ r ∈ (s.dramCh d).open_, s.idleRows d r = false) →
    ∃ u : State, s.idleSlot d = u ∧
      (u.dramCh d).writes = ws ∧
      u.out.getLast? = some (Out.dram d (if s.pageHint d w.2.2 (w.1 * 64) = 0 then 11 else 2) (w.1 * 64)) ∧
      s.outButDram u ∧ { u with dram := s.dram, out := s.out } = s) ∧
  (∀ (c : Nat) (f : Nat × NetFrame) (q : List (Nat × NetFrame)) (s : State),
      smGet (fun _ => []) s.net.queues c = f :: q →
    ∃ u : State, s.drainClass c = u ∧
      smGet (fun _ => []) u.net.queues c = q ∧ u.out = s.out ++ [Out.firmware 4 (0x200 + c)] ∧
      u.net = { s.net with queues := u.net.queues } ∧ { u with net := s.net, out := s.out } = s)

/-- Every command is answered by a next state. For every command and every state there is a next state; the queue is
as it was, nothing that was sent is taken back, and no free value is drawn twice. Spec: 00_scope.md. -/
def Obligations.EveryCommandAnswers : Prop :=
  (∀ (c : Instr) (s : State), ∃ t, exec c s = .next t ∧ t.pending = s.pending ∧ s.out <+: t.out ∧
     s.freeCount ≤ t.freeCount)

/-- Every step keeps the invariant. From every state that meets the invariant, a step that answers a next state
answers one that meets it: registers, shadows, latches, frozen values, locks, message states, slots, lanes and
job memory are in canonical form, FRC is a 64-bit number, and every held lock names an owner identity. Spec:
01_architecture.md, 02_register_pages.md. -/
def Obligations.StepKeepsInv : Prop :=
  (∀ s t : State, s.Inv → step s = .next t → t.Inv)

/-- The invariant holds after reset. State.reset is in canonical form, its FRC is a 64-bit number and it holds no
lock; its queue is empty. Spec: 01_architecture.md, 02_register_pages.md. -/
def Obligations.ResetInv : Prop :=
  (State.reset.Inv ∧ State.reset.pending = [] ∧ State.reset.locks = [])

/-- The queue is worked off in order, and the invariant kept throughout. From every state that meets the invariant
there is a run of as many steps as commands wait: after i steps the first i commands are gone from the queue,
each state meets the invariant, what was sent stays sent, and at the end the queue is empty. Spec: 00_scope.md,
01_architecture.md. -/
def Obligations.QueueDrains : Prop :=
  (∀ s : State, s.Inv → ∃ f : Nat → State, f 0 = s ∧ (∀ i < s.pending.length, step (f i) = .next (f (i + 1))) ∧
     (∀ i ≤ s.pending.length, (f i).pending = s.pending.drop i ∧ (f i).Inv ∧ s.out <+: (f i).out) ∧
     (f s.pending.length).pending = [])

/-- What a read of a register answers and a write stores. A read of an RC register answers its value and returns it
to its reset value; under FREEZE it answers the held value and clears nothing; the read of a _LO latches the
high word that the read of the _HI then answers; a read out of reach answers all ones, a read of an unmapped
address answers zero and records UNMAPPED on SYS (on MBOXS for PF1). A write of an RWS register changes its
shadow alone, by the bits that the register has; a write of an RW register of a page whose registers act on
nothing else changes that register alone; a low half waits in the latch of its requester and page, and the write
of the high half writes both; SCRATCH, INT_ENABLE and INT_FORCE as R33 has them; a W1C write clears the bits
written 1 that hardware does not set in the same clock. Spec: 02_register_pages.md, 14_host_mailboxes.md. -/
def Obligations.RegisterAccesses : Prop :=
  (∀ (src : Req) (a k : Nat) (s : State), s.bar0Down src a = false → s.spot src a = .reg k → accOf k = some .rc →
      s.heldValue k = none → k / 0x1000 ≠ Reg.pageMBOX → k / 0x1000 ≠ Reg.pageMBOXS → isLo k = false → isHi k = false →
      k ≠ Reg.TIO_CAP_INFO →
    ∃ u : State, exec (.clearOnRead src a) s = .next u ∧
      u.reply = [s.visible k] ∧ u.rd k = resetVal k ∧ s.regsBut u [k] ∧
      { u with regs := s.regs, reply := s.reply } = s) ∧
  (∀ (src : Req) (a k v : Nat) (s : State), s.bar0Down src a = false → s.spot src a = .reg k →
      s.heldValue k = some v → lockNum k = none → isLo k = false → isHi k = false → k ≠ Reg.TIO_CAP_INFO →
    ∃ u : State, exec (.clearOnRead src a) s = .next u ∧
      u.reply = [v] ∧ { u with reply := s.reply } = s) ∧
  (∀ (src : Req) (a : Nat) (s : State), s.bar0Down src a = true →
    ∃ u : State, exec (.clearOnRead src a) s = .next u ∧
      u.reply = [0xFFFFFFFF] ∧ { u with reply := s.reply } = s) ∧
  (∀ (src : Req) (a : Nat) (s : State), s.bar0Down src a = false → s.spot src a = .unmapped → src ≠ .pf1 →
    ∃ u : State, exec (.clearOnRead src a) s = .next u ∧
      u.reply = [0] ∧ s.errored u Reg.pageSYS 4 a (srcCode src) ∧ u.bit (Reg.INT_STATUS Reg.pageSYS) 9 = true ∧
      s.regsBut u (errorKeys Reg.pageSYS) ∧ { u with regs := s.regs, reply := s.reply } = s) ∧
  (∀ (a : Nat) (s : State), s.spot .pf1 a = .unmapped →
    ∃ u : State, exec (.clearOnRead .pf1 a) s = .next u ∧
      u.reply = [0] ∧ s.errored u Reg.pageMBOXS 4 a 2 ∧ s.regsBut u (errorKeys Reg.pageMBOXS) ∧
      { u with regs := s.regs, reply := s.reply } = s) ∧
  (∀ (src : Req) (a k : Nat) (s : State), s.bar0Down src a = false → s.spot src a = .reg k → isLo k = true →
      k ≠ Reg.TIME_NOW_LO → lockNum k = none →
    ∃ u : State, exec (.readLo src a) s = .next u ∧
      u.reply = [s.visible k] ∧ u.readLatch (k / 0x1000) src = some (BitVec.ofNat 32 (s.visible (k + 4))) ∧
      { u with reply := s.reply, latchR := s.latchR } = s) ∧
  (∀ (src : Req) (a k : Nat) (w : Word) (s : State), s.bar0Down src a = false → s.spot src a = .reg k →
      isLo k = false → isHi k = true → lockNum k = none → k ≠ Reg.TIO_CAP_INFO → s.readLatch (k / 0x1000) src = some w →
    ∃ u : State, exec (.readLo src a) s = .next u ∧
      u.reply = [w.toNat] ∧ { u with reply := s.reply } = s) ∧
  (∀ (src : Req) (a k data i : Nat) (p : PageType) (s : State), s.bar0Down src a = false → s.spot src a = .reg k →
      pageAt (k / 0x1000) = some (p, i) → 0x040 ≤ k % 0x1000 → s.pairMode = false → p ≠ .pair → lockNum k = none →
      accOf k = some .rws → s.armedPage (k / 0x1000) = false → s.special src p i k (data % 2 ^ 32) = none →
      s.stateFault src p i k = none → isLo k = false → isHi k = false → s.valueFault p i k (data % 2 ^ 32) = none →
      p ≠ .enc → p ≠ .cam → s.heldBits src p k = [] → p ≠ .ch ∨ k % 0x1000 ≠ 0x0C4 →
    ∃ u : State, exec (.registerWrite src a data) s = .next u ∧
      u.shadowOf k =
        (s.shadowOf k &&& (0xFFFFFFFF ^^^ writable src k) ||| data % 2 ^ 32 &&& writable src k) % 2 ^ 32 ∧
      (∀ j, j ≠ k → u.shadowOf j = s.shadowOf j) ∧ { u with shadow := s.shadow } = s) ∧
  (∀ (src : Req) (a k data i : Nat) (p : PageType) (s : State), s.bar0Down src a = false → s.spot src a = .reg k →
      pageAt (k / 0x1000) = some (p, i) →
      [PageType.sys, .clk, .intc, .line, .apply, .plane, .iommu, .isp, .ispctx, .lamp, .lampseq, .peer, .prp, .time,
      .tio, .dram, .nvs, .fw, .tally].contains p = true → 0x040 ≤ k % 0x1000 → s.pairMode = false → lockNum k = none →
      accOf k = some .rw → s.special src p i k (data % 2 ^ 32) = none → s.stateFault src p i k = none → isLo k = false →
      isHi k = false → s.valueFault p i k (data % 2 ^ 32) = none →
    ∃ u : State, exec (.registerWrite src a data) s = .next u ∧
      u.rd k = (s.rd k &&& (0xFFFFFFFF ^^^ writable src k) ||| data % 2 ^ 32 &&& writable src k) % 2 ^ 32 ∧
      s.regsBut u [k] ∧ { u with regs := s.regs } = s) ∧
  (∀ (src : Req) (a page data : Nat) (s : State), s.bar0Down src a = false → s.spot src a = .reg (Reg.SCRATCH page) →
      (pageAt page).isSome = true →
    ∃ u : State, exec (.registerWrite src a data) s = .next u ∧
      u.rd (Reg.SCRATCH page) = data % 2 ^ 32 ∧ s.regsBut u [Reg.SCRATCH page] ∧ { u with regs := s.regs } = s) ∧
  (∀ (src : Req) (a page data i : Nat) (p : PageType) (s : State), s.bar0Down src a = false →
      s.spot src a = .reg (Reg.INT_ENABLE page) → pageAt page = some (p, i) → p ≠ .pair ∨ s.pairMode = true →
    ∃ u : State, exec (.registerWrite src a data) s = .next u ∧
      u.rd (Reg.INT_ENABLE page) = data % 2 ^ 32 &&& intMask p ∧ s.regsBut u [Reg.INT_ENABLE page] ∧
      { u with regs := s.regs } = s) ∧
  (∀ (src : Req) (a page data i : Nat) (p : PageType) (hw : Nat) (s : State), s.bar0Down src a = false →
      s.spot src a = .reg (Reg.INT_STATUS page) → pageAt page = some (p, i) → p ≠ .pair ∨ s.pairMode = true →
      p ≠ .stats → p ≠ .job ∨ s.streaming = false →
    ∃ u : State, exec (.write1ToClear src a data hw) s = .next u ∧
      u.rd (Reg.INT_STATUS page) =
        (s.rd (Reg.INT_STATUS page) &&& (0xFFFFFFFF ^^^ data % 2 ^ 32) ||| hw &&& intMask p) % 2 ^ 32 ∧
      s.regsBut u [Reg.INT_STATUS page] ∧ { u with regs := s.regs } = s) ∧
  (∀ (src : Req) (page data i : Nat) (p : PageType) (s : State), s.reaches src page = true →
      pageAt page = some (p, i) → p ≠ .pair ∨ s.pairMode = true →
    ∃ u : State, exec (.intForce src page data) s = .next u ∧
      u.rd (Reg.INT_STATUS page) = (s.rd (Reg.INT_STATUS page) ||| data % 2 ^ 32 &&& intMask p) % 2 ^ 32 ∧
      s.regsBut u [Reg.INT_STATUS page] ∧ { u with regs := s.regs } = s) ∧
  (∀ (src : Req) (a k data i : Nat) (p : PageType) (s : State), s.bar0Down src a = false → s.spot src a = .reg k →
      pageAt (k / 0x1000) = some (p, i) → 0x040 ≤ k % 0x1000 → s.pairMode = false → p ≠ .pair → lockNum k = none →
      accOf k = some .rw → s.special src p i k (data % 2 ^ 32) = none → s.stateFault src p i k = none → isLo k = true →
    ∃ u : State, exec (.registerWrite src a data) s = .next u ∧
      u.writeLatch (k / 0x1000) src = some (BitVec.ofNat 32 data) ∧ { u with latchW := s.latchW } = s) ∧
  (∀ (src : Req) (a k data i : Nat) (p : PageType) (lo : Word) (s : State), s.bar0Down src a = false →
      s.spot src a = .reg k → pageAt (k / 0x1000) = some (p, i) → 0x040 ≤ k % 0x1000 → s.pairMode = false → p ≠ .pair →
      lockNum k = none → accOf k = some .rw → s.special src p i k (data % 2 ^ 32) = none →
      s.stateFault src p i k = none → isLo k = false → isHi k = true → s.writeLatch (k / 0x1000) src = some lo →
      s.valueFault p i (k - 4) lo.toNat = none → s.valueFault p i k (data % 2 ^ 32) = none → isRws k = false →
      isRws (k - 4) = false →
    ∃ u : State, exec (.writeHi src a data) s = .next u ∧
      u.rd (k - 4) = (s.rd (k - 4) &&& (0xFFFFFFFF ^^^ maskAt (k - 4)) ||| lo.toNat &&& maskAt (k - 4)) % 2 ^ 32 ∧
      u.rd k = (s.rd k &&& (0xFFFFFFFF ^^^ maskAt k) ||| data % 2 ^ 32 &&& maskAt k) % 2 ^ 32 ∧
      s.regsBut u [k - 4, k] ∧ { u with regs := s.regs } = s)

/-- What a write that is not taken records. READ_ONLY of an RO or RC register, CONFIG_LOCKED of an RWL register of a
locked page, WRITE_WHILE_ARMED of an RWS register of an armed page, UNMAPPED, and the accesses that are not one
aligned word: the error record of the page and nothing else changed, and nothing at all while the space is out
of reach. Spec: 02_register_pages.md, 14_host_mailboxes.md. -/
def Obligations.RefusedAccesses : Prop :=
  (∀ (src : Req) (a k data i : Nat) (p : PageType) (s : State), s.bar0Down src a = false → s.spot src a = .reg k →
      pageAt (k / 0x1000) = some (p, i) → 0x040 ≤ k % 0x1000 → p ≠ .pair ∨ s.pairMode = true → lockNum k = none →
      accOf k = some .ro ∨ accOf k = some .rc → firmwareOwned src k = false → k / 0x1000 ≠ Reg.pageSYS →
    ∃ u : State, exec (.registerWrite src a data) s = .next u ∧
      s.errored u (headerPage (k / 0x1000)) 5 k (srcCode src) ∧ s.regsBut u (errorKeys (headerPage (k / 0x1000))) ∧
      { u with regs := s.regs } = s) ∧
  (∀ (src : Req) (a k data i : Nat) (p : PageType) (s : State), s.bar0Down src a = false → s.spot src a = .reg k →
      pageAt (k / 0x1000) = some (p, i) → 0x040 ≤ k % 0x1000 → p ≠ .pair ∨ s.pairMode = true → lockNum k = none →
      accOf k = some .rwl → s.bit (Reg.CTRL (headerPage (k / 0x1000))) 3 = true → k / 0x1000 ≠ Reg.pageSYS →
    ∃ u : State, exec (.registerWrite src a data) s = .next u ∧
      s.errored u (headerPage (k / 0x1000)) 1 k (srcCode src) ∧ s.regsBut u (errorKeys (headerPage (k / 0x1000))) ∧
      { u with regs := s.regs } = s) ∧
  (∀ (src : Req) (a k data i : Nat) (p : PageType) (s : State), s.bar0Down src a = false → s.spot src a = .reg k →
      pageAt (k / 0x1000) = some (p, i) → 0x040 ≤ k % 0x1000 → p ≠ .pair ∨ s.pairMode = true → lockNum k = none →
      accOf k = some .rws → s.armedPage (k / 0x1000) = true → k / 0x1000 ≠ Reg.pageSYS →
    ∃ u : State, exec (.registerWrite src a data) s = .next u ∧
      s.errored u (headerPage (k / 0x1000)) 2 k (srcCode src) ∧ s.regsBut u (errorKeys (headerPage (k / 0x1000))) ∧
      { u with regs := s.regs } = s) ∧
  (∀ (src : Req) (a data : Nat) (s : State), s.bar0Down src a = false → s.spot src a = .unmapped → src ≠ .pf1 →
    ∃ u : State, exec (.registerWrite src a data) s = .next u ∧
      s.errored u Reg.pageSYS 4 a (srcCode src) ∧ u.bit (Reg.INT_STATUS Reg.pageSYS) 9 = true ∧
      s.regsBut u (errorKeys Reg.pageSYS) ∧ { u with regs := s.regs } = s) ∧
  (∀ (i : Instr) (src : Req) (s : State), coreSender i = some src → s.cutOff src = true → exec i s = .next s) ∧
  (∀ (i : Instr) (src : Req) (s : State), wakeSender i = some src → s.asleep src = true → exec i s = .next s) ∧
  (∀ (src : Req) (a data : Nat) (s : State), s.bar0Down src a = true →
    exec (.registerWrite src a data) s = .next s) ∧
  (∀ (src : Req) (a k : Nat) (multi : Bool) (s : State), s.bar0Down src a = false → s.spot src a = .reg k →
      k < 0x300000 → k / 0x1000 ≠ Reg.pageSYS →
    ∃ u : State, exec (.badAccess src a true multi) s = .next u ∧
      s.errored u (headerPage (k / 0x1000)) 3 k (srcCode src) ∧ s.regsBut u (errorKeys (headerPage (k / 0x1000))) ∧
      { u with regs := s.regs } = s) ∧
  (∀ (src : Req) (a k : Nat) (multi : Bool) (s : State), s.bar0Down src a = false → s.spot src a = .reg k →
    ∃ u : State, exec (.badAccess src a false multi) s = .next u ∧
      (u.reply = if multi = true then [] else [0]) ∧
      (u.out = s.out ++ if multi = true then [Out.pcie 4 none a] else []) ∧
      { u with reply := s.reply, out := s.out } = s) ∧
  (∀ (src : Req) (a b : Nat) (wr multi : Bool) (s : State), s.bar0Down src a = false → s.spot src a = .table b →
      (wr && multi) = false →
    ∃ u : State, exec (.badAccess src a wr multi) s = .next u ∧
      s.errored u Reg.pageSYS 3 a (srcCode src) ∧ u.bit (Reg.INT_STATUS Reg.pageSYS) 9 = true ∧
      (u.reply = if wr = true then s.reply else [0]) ∧ s.regsBut u (errorKeys Reg.pageSYS) ∧
      { u with regs := s.regs, reply := s.reply } = s)

/-- How ERR_COUNT counts, saturates and is read. An error recorded on a page adds one to COUNT, which saturates at
0xFFFF; one that finds it saturated sets OVERFLOW; the reserved bits stay; a read answers both fields and clears
them. Stated: R40. -/
def Obligations.ErrorCounts : Prop :=
  (∀ (page code off source : Nat) (s : State),
    ∃ u : State, s.error page code off source = u ∧
      u.rdF (Reg.ERR_COUNT page) 15 0 = min 0xFFFF (s.rdF (Reg.ERR_COUNT page) 15 0 + 1) ∧
      u.bit (Reg.ERR_COUNT page) 31 = (s.bit (Reg.ERR_COUNT page) 31 || s.rdF (Reg.ERR_COUNT page) 15 0 == 0xFFFF) ∧
      u.rdF (Reg.ERR_COUNT page) 30 16 = s.rdF (Reg.ERR_COUNT page) 30 16 ∧ s.regsBut u (errorKeys page) ∧
      { u with regs := s.regs } = s) ∧
  (∀ (src : Req) (a page : Nat) (s : State), s.bar0Down src a = false → s.spot src a = .reg (Reg.ERR_COUNT page) →
      (pageAt page).isSome = true → s.heldValue (Reg.ERR_COUNT page) = none →
    ∃ u : State, exec (.clearOnRead src a) s = .next u ∧
      u.reply = [s.rd (Reg.ERR_COUNT page)] ∧ u.rd (Reg.ERR_COUNT page) = 0 ∧ s.regsBut u [(Reg.ERR_COUNT page)] ∧
      { u with regs := s.regs, reply := s.reply } = s)

/-- Locks and MSI-X messages. The read of a free lock acquires it for the highest requester of R64 and answers zero
to that one; a held lock answers its owner with HELD or MINE; a write of zero by the owner releases it, any
other write is NOT_OWNER; FORCE_RELEASE with the key frees a lock for Ranger alone. A vector that owes a message
and is not masked sends it, and then owes none until VEC_ACK; VEC_ACK lets an active vector send again; a vector
that owes none, or is masked, sends nothing. Spec: 02_register_pages.md, 14_host_mailboxes.md. -/
def Obligations.LocksAndMessages : Prop :=
  (∀ (n : Fin 64) (r : Req) (s : State), s.lockOwner n = 0 →
    ∃ u : State, exec (.lockRead n [r]) s = .next u ∧
      u.lockOwner n = ownerId r ∧ u.reply = [0] ∧ (∀ m, m ≠ n.val → u.lockOwner m = s.lockOwner m) ∧
      { u with locks := s.locks, reply := s.reply } = s) ∧
  (∀ (n : Fin 64) (r q : Req) (s : State), s.lockOwner n = 0 → lockOrder.idxOf r < lockOrder.idxOf q →
    ∃ u : State, exec (.lockRead n [q, r]) s = .next u ∧
      u.lockOwner n = ownerId r ∧ u.reply = [0x80000000 + ownerId r, 0] ∧
      { u with locks := s.locks, reply := s.reply } = s) ∧
  (∀ (n : Fin 64) (r : Req) (s : State), s.lockOwner n ≠ 0 →
    ∃ u : State, exec (.lockRead n [r]) s = .next u ∧
      u.locks = s.locks ∧ u.reply = [(if s.lockOwner n = ownerId r then 0x40000000 else 0x80000000) + s.lockOwner n] ∧
      { u with locks := s.locks, reply := s.reply } = s) ∧
  (∀ (src : Req) (n : Fin 64) (data : Nat) (s : State), s.cutOff src = false → s.lockOwner n = ownerId src →
      data % 2 ^ 32 = 0 →
    ∃ u : State, exec (.lockRelease src n data) s = .next u ∧
      u.lockOwner n = 0 ∧ (∀ m, m ≠ n.val → u.lockOwner m = s.lockOwner m) ∧ { u with locks := s.locks } = s) ∧
  (∀ (src : Req) (n : Fin 64) (data : Nat) (s : State), s.cutOff src = false →
      s.lockOwner n ≠ ownerId src ∨ data % 2 ^ 32 ≠ 0 →
    ∃ u : State, exec (.lockRelease src n data) s = .next u ∧
      s.errored u Reg.pageLOCKS 0xD (0x040 + 4 * n) (srcCode src) ∧ s.regsBut u (errorKeys Reg.pageLOCKS) ∧
      { u with regs := s.regs } = s) ∧
  (∀ (data : Nat) (s : State), fld data 31 16 = 0xA5C3 →
    ∃ u : State, exec (.forceRelease .ranger data) s = .next u ∧
      u.lockOwner (data % 64) = 0 ∧ (∀ m, m ≠ data % 64 → u.lockOwner m = s.lockOwner m) ∧
      { u with locks := s.locks } = s) ∧
  (∀ (src : Req) (data : Nat) (s : State), s.cutOff src = false → src ≠ .ranger ∨ fld data 31 16 ≠ 0xA5C3 →
    ∃ u : State, exec (.forceRelease src data) s = .next u ∧
      s.errored u Reg.pageLOCKS (if src = .ranger then 0xE else 0xD) Reg.LOCKS_FORCE_RELEASE (srcCode src) ∧
      s.regsBut u (errorKeys Reg.pageLOCKS) ∧ { u with regs := s.regs } = s) ∧
  (∀ (v t : Nat) (s : State), v < 80 → (s.till t).vectorOwes v = true → s.vectorOpen v = true →
    ∃ u : State, exec (.msixMessage v t) s = .next u ∧
      u.out = s.out ++ [Out.msix v] ∧ u.vector v = { sent := true, last := some u.frc } ∧ u.vectorOwes v = false ∧
      (∀ w, w ≠ v → u.vector w = s.vector w) ∧ { u with frc := s.frc, msix := s.msix, out := s.out } = s) ∧
  (∀ (v t : Nat) (s : State), 80 ≤ v ∨ (s.till t).vectorOwes v = false ∨ s.vectorOpen v = false →
    exec (.msixMessage v t) s = .next (s.till t)) ∧
  (∀ (pf1 : Bool) (vec v : Nat) (s : State), (v = if pf1 = true then 64 + vec % 16 else vec % 64) →
      s.vectorActive v = false ∨ s.vectorOpen v = false →
    ∃ u : State, exec (.vecAck pf1 vec) s = .next u ∧
      (u.vector v).sent = false ∧ (u.vector v).last = (s.vector v).last ∧ u.out = s.out ∧
      { u with msix := s.msix, out := s.out } = s) ∧
  (∀ (pf1 : Bool) (vec v : Nat) (s : State), (v = if pf1 = true then 64 + vec % 16 else vec % 64) →
      s.vectorActive v = true → s.vectorOpen v = true → (s.vector v).last = none →
    ∃ u : State, exec (.vecAck pf1 vec) s = .next u ∧
      (u.vector v).sent = true ∧ u.out = s.out ++ [Out.msix v] ∧ { u with msix := s.msix, out := s.out } = s)

/-- Which of several requesters a free lock goes to. Where several requesters read a free lock in one clock, it goes
to the first of them in the order Ranger, Crew0 to Crew3, peer agent, PF1, PF0; that one reads 0 and every other
reads 0x8000_0000 with the winner. Stated: R64. -/
def Obligations.LockArbitration : Prop :=
  (lockOrder = [.ranger, .crew 0, .crew 1, .crew 2, .crew 3, .peer, .pf1, .pf0]) ∧
  (∀ (n : Fin 64) (w : Req) (readers : List Req) (s : State), s.lockOwner n = 0 →
      (∀ r ∈ readers, s.cutOff r = false) → w ∈ readers → (∀ r ∈ readers, lockOrder.idxOf w ≤ lockOrder.idxOf r) →
    ∃ u : State, exec (.lockRead n readers) s = .next u ∧
      u.lockOwner n = ownerId w ∧ u.reply = readers.map (fun r => if r = w then 0 else 0x80000000 ||| ownerId w) ∧
      (∀ m, m ≠ n.val → u.lockOwner m = s.lockOwner m) ∧ { u with locks := s.locks, reply := s.reply } = s)

/-- What the transitions of a head lane leave. Entry to DETECT, TRAIN, RETRAIN, HALF after failed attempts, FAILED
and DISABLED: the new state, the attempt counter, the taps, the interrupt bits and the counters of R185, R193,
R194, R201, R203 and R204, each with everything it leaves alone. Spec: 06_head_link_lanes.md. -/
def Obligations.LaneTransitions : Prop :=
  (∀ (c : Fin 128) (s : State),
    ∃ u : State, s.enterDetect c = u ∧
      u.laneSt c = 1 ∧ u.attempt c = 0 ∧ u.retrainPending c = false ∧ u.bit (Reg.CH_LINK_STATUS c) 6 = false ∧
      u.laneHalf c = s.laneHalf c ∧ (u.lane c).present = 0 ∧ u.out = s.out ++ [Out.electricalIdle c] ∧
      s.regsBut u (laneKeys c ++ moduleKeys) ∧
      { u with regs := s.regs, lanes := s.lanes, out := s.out, mgmt := s.mgmt } = s) ∧
  (∀ (c : Fin 128) (s : State),
    ∃ u : State, s.enterTrain c = u ∧
      u.laneSt c = 2 ∧ u.attempt c = min 15 (s.attempt c + 1) ∧ u.rd (Reg.CH_TX_TAPS c) = tapsWord 2 6 ∧
      u.retrainPending c = false ∧ (u.lane c).rateIdle = false ∧
      u.out = s.out ++ [Out.training c (trainingUi (u.trainField c) (s.trainSegment c).2)] ∧
      s.regsBut u (laneKeys c ++ moduleKeys ++ [Reg.CH_TX_TAPS c]) ∧
      { u with regs := s.regs, lanes := s.lanes, out := s.out, mgmt := s.mgmt } = s) ∧
  (∀ (c : Fin 128) (cause : Nat) (s : State), (s.lane c).rateUp = false → s.attempt c < s.trainAttempts c →
    ∃ u : State, s.failAttempt c cause = u ∧
      u.laneSt c = 2 ∧ u.attempt c = min 15 (s.attempt c + 1) ∧ u.rdF (Reg.CH_LINK_STATUS c) 15 12 = cause % 16 ∧
      u.laneHalf c = s.laneHalf c ∧ s.regsBut u (laneKeys c ++ moduleKeys ++ [Reg.CH_TX_TAPS c]) ∧
      { u with regs := s.regs, lanes := s.lanes, out := s.out, mgmt := s.mgmt } = s) ∧
  (∀ (c : Fin 128) (cause : Nat) (s : State), (s.lane c).rateUp = true ∨ s.trainAttempts c ≤ s.attempt c →
      s.laneHalf c = false →
    ∃ u : State, s.failAttempt c cause = u ∧
      u.laneSt c = 2 ∧ u.laneHalf c = true ∧ u.attempt c = 0 ∧ (u.lane c).rateIdle = true ∧
      (u.lane c).rateUp = false ∧ u.rd (Reg.CH_FALLBACK_COUNT c) = satInc 32 (s.rd (Reg.CH_FALLBACK_COUNT c)) ∧
      u.bit (Reg.INT_STATUS (Reg.pageCH c)) 11 = true ∧ u.out = s.out ++ [Out.electricalIdle c] ∧
      s.regsBut u (laneKeys c ++ moduleKeys ++ [Reg.CH_FALLBACK_COUNT c]) ∧
      { u with regs := s.regs, lanes := s.lanes, out := s.out, mgmt := s.mgmt } = s) ∧
  (∀ (c : Fin 128) (cause : Nat) (s : State), (s.lane c).rateUp = false → s.trainAttempts c ≤ s.attempt c →
      s.laneHalf c = true →
    ∃ u : State, s.failAttempt c cause = u ∧
      u.laneSt c = 7 ∧ u.rdF (Reg.CH_LINK_STATUS c) 15 12 = cause % 16 ∧
      u.bit (Reg.INT_STATUS (Reg.pageCH c)) 12 = true ∧ u.bit (Reg.INT_STATUS (Reg.pageCH c)) 4 = true ∧
      u.bit (Reg.STATUS (Reg.pageCH c)) 2 = true ∧ (u.lane c).sawAbsent = false ∧
      s.regsBut u (laneKeys c ++ moduleKeys ++ errorKeys (Reg.pageCH c)) ∧
      { u with regs := s.regs, lanes := s.lanes, out := s.out, mgmt := s.mgmt, scr := s.scr, pair := s.pair, ring := s.ring } =
        s) ∧
  (∀ (c : Fin 128) (s : State), s.laneActive c = true →
    ∃ u : State, s.enterRetrain c = u ∧
      u.laneSt c = 6 ∧ u.rd (Reg.CH_RETRAIN_COUNT c) = satInc 32 (s.rd (Reg.CH_RETRAIN_COUNT c)) ∧
      u.bit (Reg.INT_STATUS (Reg.pageCH c)) 9 = true ∧ u.retrainPending c = false ∧ u.laneHalf c = s.laneHalf c ∧
      u.line.prod = s.line.prod.map (ProdLine.without c) ∧
      s.regsBut u (laneKeys c ++ moduleKeys ++ [Reg.CH_RETRAIN_COUNT c, Reg.CH_TABLE_STATUS c]) ∧
      { u with regs := s.regs, lanes := s.lanes, out := s.out, mgmt := s.mgmt, line := s.line, ring := s.ring } = s) ∧
  (∀ (c : Fin 128) (s : State),
    ∃ u : State, s.isolateLane c = u ∧
      u.laneSt c = 0 ∧ u.bit (Reg.CH_CH_CTRL c) 0 = true ∧ (∀ k ∈ channelResetKeys c, u.rd k = (resetOf k).toNat) ∧
      (u.lane c).counters = [] ∧ (u.lane c).ident = (s.lane c).ident ∧
      (s.pairMode = false → u.scr.implicit.contains c.val = true) ∧
      s.regsBut u (laneKeys c ++ moduleKeys ++ channelResetKeys c ++ [Reg.CH_CH_CTRL c, Reg.CH_PROTO_STATUS c,
        Reg.CH_CNT_SEL c, Reg.CH_TABLE_STATUS c]) ∧
      { u with regs := s.regs, lanes := s.lanes, out := s.out, mgmt := s.mgmt, line := s.line, scr := s.scr, pair := s.pair, ring := s.ring } =
        s) ∧
  (∀ (c : Fin 128) (up : Bool) (s : State), s.pairMode = false →
      up = true ∨ s.printing = false ∨ s.bit (Reg.CH_LINK_CFG c) 2 = true →
    ∃ u : State, s.requestRetrain c up = u ∧
      u = s.startDegraded c up) ∧
  (∀ (c : Fin 128) (s : State), s.pairMode = false → s.printing = true → s.bit (Reg.CH_LINK_CFG c) 2 = false →
    ∃ u : State, s.requestRetrain c false = u ∧
      u.retrainPending c = true ∧ u.bit (Reg.INT_STATUS (Reg.pageCH c)) 10 = true ∧ u.laneSt c = s.laneSt c ∧
      (u.lane c).asked = some false ∧ s.regsBut u [Reg.CH_LINK_STATUS c, Reg.INT_STATUS (Reg.pageCH c)] ∧
      { u with regs := s.regs, lanes := s.lanes } = s)

/-- Receiver detect and training commands. RECEIVER_DETECT_PROBE, TRAINING_FRAME, TRAIN_TIMEOUT, TRAINING_SILENCE,
RATE_CHANGE_IDLE_END, LOCK_TIMEOUT, EXCHANGE_TIMEOUT and RETRAIN_TIMEOUT: in the states of R185 that each
belongs to, the transition it brings; in every other state no effect. Spec: 06_head_link_lanes.md. -/
def Obligations.LaneTraining : Prop :=
  (∀ (c : Fin 128) (d : Bool) (t : Nat) (s : State), s.laneSt c ≠ 1 → s.laneSt c ≠ 7 →
    exec (.receiverDetectProbe c d t) s = .next (s.till t)) ∧
  (∀ (c : Fin 128) (t : Nat) (s : State), s.laneSt c = 1 → 1 ≤ (s.lane c).present →
      s.bit Reg.PWR_HEAD_PWR_STATUS (c / 16) = true →
    ∃ u : State, exec (.receiverDetectProbe c true t) s = .next u ∧
      u.laneSt c = 2 ∧ u.attempt c = min 15 (s.attempt c + 1) ∧ u.rd (Reg.CH_TX_TAPS c) = tapsWord 2 6 ∧
      s.regsBut u (laneKeys c ++ moduleKeys ++ [Reg.CH_TX_TAPS c]) ∧
      { u with regs := s.regs, frc := s.frc, lanes := s.lanes, out := s.out, mgmt := s.mgmt } = s) ∧
  (∀ (c : Fin 128) (t : Nat) (s : State), s.laneSt c = 1 →
      (s.lane c).present = 0 ∨ s.bit Reg.PWR_HEAD_PWR_STATUS (c / 16) = false →
    ∃ u : State, exec (.receiverDetectProbe c true t) s = .next u ∧
      (u.lane c).present = min 2 ((s.lane c).present + 1) ∧ (u.lane c).absent = 0 ∧
      { u with frc := s.frc, lanes := s.lanes } = s) ∧
  (∀ (c : Fin 128) (t : Nat) (s : State), s.laneSt c = 7 → (s.lane c).present = 0 ∨ (s.lane c).sawAbsent = false →
    ∃ u : State, exec (.receiverDetectProbe c true t) s = .next u ∧
      (u.lane c).present = min 2 ((s.lane c).present + 1) ∧ (u.lane c).absent = 0 ∧
      { u with frc := s.frc, lanes := s.lanes } = s) ∧
  (∀ (c : Fin 128) (t : Nat) (s : State),
      (s.laneSt c = 1 ∧ s.bit Reg.PWR_HEAD_PWR_STATUS (c / 16) = false) ∨ (s.laneSt c = 7 ∧ (s.lane c).sawAbsent =
      false) → (s.lane c).present = 2 → (s.lane c).absent = 0 →
    ∃ u : State, exec (.receiverDetectProbe c false t) s = .next u ∧
      (u.lane c).present = 2 ∧ (u.lane c).absent = 1 ∧ { u with frc := s.frc, lanes := s.lanes } = s) ∧
  (∀ (c : Fin 128) (t : Nat) (s : State), s.laneSt c = 1 ∨ s.laneSt c = 7 →
      1 ≤ (s.lane c).absent ∨ (s.lane c).present < 2 →
    ∃ u : State, exec (.receiverDetectProbe c false t) s = .next u ∧
      (u.lane c).present = 0 ∧ (u.lane c).absent = min 2 ((s.lane c).absent + 1) ∧
      (u.lane c).sawAbsent = ((s.lane c).sawAbsent || decide (1 ≤ (s.lane c).absent)) ∧
      { u with frc := s.frc, lanes := s.lanes } = s) ∧
  (∀ (c : Fin 128) (t : Nat) (s : State), s.laneSt c = 7 → 1 ≤ (s.lane c).present → (s.lane c).sawAbsent = true →
    ∃ u : State, exec (.receiverDetectProbe c true t) s = .next u ∧
      u.laneSt c = 1 ∧ u.laneHalf c = s.rateMaxHalf c ∧ u.attempt c = 0 ∧ s.regsBut u (laneKeys c ++ moduleKeys) ∧
      { u with regs := s.regs, frc := s.frc, lanes := s.lanes, out := s.out, mgmt := s.mgmt } = s) ∧
  (∀ (c : Fin 128) (field : Nat) (inv : Bool) (eye : Option (Fin 256)) (s : State), crc8Ok field = true →
      (s.laneSt c = 2 ∧ (s.lane c).rateIdle = false) ∨ s.laneSt c = 6 →
    exec (.trainingFrame c field inv eye) s = .next ((s.polarity c inv).trainStep c field (eye.map Fin.val))) ∧
  (∀ (c : Fin 128) (field : Nat) (inv : Bool) (eye : Option (Fin 256)) (s : State), crc8Ok field = true →
      s.laneSt c = 3 → bitOf field 12 = false ∨ s.bit (Reg.CH_LINK_STATUS c) 6 = true →
    exec (.trainingFrame c field inv eye) s = .next (s.failAttempt c 3)) ∧
  (∀ (c : Fin 128) (field : Nat) (inv : Bool) (eye : Option (Fin 256)) (s : State), s.laneSt c = 3 →
      bitOf field 12 = true → s.bit (Reg.CH_LINK_STATUS c) 6 = false →
    exec (.trainingFrame c field inv eye) s = .next s) ∧
  (∀ (c : Fin 128) (field : Nat) (inv : Bool) (eye : Option (Fin 256)) (s : State), s.laneSt c ≠ 2 → s.laneSt c ≠ 3 →
      s.laneSt c ≠ 6 →
    exec (.trainingFrame c field inv eye) s = .next s) ∧
  (∀ (c : Fin 128) (field : Nat) (inv : Bool) (eye : Option (Fin 256)) (s : State), s.laneSt c = 2 →
      (s.lane c).rateIdle = true →
    exec (.trainingFrame c field inv eye) s = .next (s.polarity c inv)) ∧
  (∀ (c : Fin 128) (field : Nat) (inv : Bool) (eye : Option (Fin 256)) (s : State), crc8Ok field = false →
      s.laneSt c ≠ 2 → s.laneSt c ≠ 6 →
    exec (.trainingFrame c field inv eye) s = .next s) ∧
  (∀ (c : Fin 128) (field : Nat) (inv : Bool) (eye : Option (Fin 256)) (s : State), crc8Ok field = false →
      s.laneSt c = 2 ∨ s.laneSt c = 6 →
    exec (.trainingFrame c field inv eye) s = .next (s.polarity c inv)) ∧
  (∀ (c : Fin 128) (field : Nat) (eye : Option Nat) (s : State),
    ∃ u : State, s.trainStep c field eye = u ∧
      u.rd (Reg.CH_HEAD_TAPS c) = fld field 44 40 + fld field 52 48 * 2 ^ 8 ∧
      u.rdF (Reg.CH_EYE c) 15 8 = fld field 39 32 ∧ (u.laneSt c = s.laneSt c ∨ u.laneSt c = 3) ∧
      (u.lane c).train.doneSeq = some (fld field 23 16) ∧
      s.regsBut u (laneKeys c ++ moduleKeys ++ [Reg.CH_HEAD_TAPS c, Reg.CH_EYE c, Reg.CH_EYE_MIN c,
        Reg.CH_TX_TAPS c]) ∧ { u with regs := s.regs, lanes := s.lanes, out := s.out, mgmt := s.mgmt } = s) ∧
  (∀ (c : Fin 128) (s : State), s.laneSt c = 2 → (s.lane c).rateIdle = false →
    exec (.trainTimeout c) s = .next (s.failAttempt c (if ((s.lane c).train.converged = true ∧
      (s.lane c).train.best < s.eyePass c) ∨ (s.lane c).train.headLow = true then 2 else 1))) ∧
  (∀ (c : Fin 128) (t : Nat) (s : State), (s.laneSt c = 2 ∧ (s.lane c).rateIdle = false) ∨ s.laneSt c = 6 →
    exec (.trainingSilence c t) s = .next ((s.till t).enterDetect c)) ∧
  (∀ (c : Fin 128) (t : Nat) (s : State), s.laneSt c ≠ 6 → s.laneSt c ≠ 2 ∨ (s.lane c).rateIdle = true →
    exec (.trainingSilence c t) s = .next (s.till t)) ∧
  (∀ (c : Fin 128) (s : State), s.laneSt c = 2 → (s.lane c).rateIdle = true →
    exec (.trainTimeout c) s = .next s) ∧
  (∀ (c : Fin 128) (s : State), s.laneSt c = 2 → (s.lane c).rateIdle = false →
    exec (.rateChangeIdleEnd c) s = .next s) ∧
  (∀ (c : Fin 128) (s : State), s.laneSt c = 4 → (s.lane c).held = true ∨ (s.lane c).heldPair = true →
    exec (.exchangeTimeout c) s = .next s) ∧
  (∀ (c : Fin 128) (s : State), s.laneSt c = 2 → (s.lane c).rateIdle = true →
    ∃ u : State, exec (.rateChangeIdleEnd c) s = .next u ∧
      u.laneSt c = 2 ∧ (u.lane c).rateIdle = false ∧ u.attempt c = min 15 (s.attempt c + 1) ∧
      u.rd (Reg.CH_TX_TAPS c) = tapsWord 2 6 ∧
      u.out = s.out ++ [Out.training c (trainingUi (u.trainField c) (s.trainSegment c).2)] ∧
      s.regsBut u [Reg.CH_LINK_STATUS c, Reg.CH_TX_TAPS c] ∧
      { u with regs := s.regs, lanes := s.lanes, out := s.out } = s) ∧
  (∀ (c : Fin 128) (s : State), s.laneSt c = 3 →
    exec (.lockTimeout c) s = .next (s.failAttempt c 3)) ∧
  (∀ (c : Fin 128) (s : State), s.laneSt c = 4 → (s.lane c).held = false → (s.lane c).heldPair = false →
    exec (.exchangeTimeout c) s = .next (s.failAttempt c 4)) ∧
  (∀ (c : Fin 128) (s : State), s.laneSt c = 6 →
    exec (.retrainTimeout c) s = .next ((s.setAttempt c 0).enterTrain c)) ∧
  (∀ (c : Fin 128) (s : State), s.laneSt c ≠ 2 →
    exec (.trainTimeout c) s = .next s) ∧
  (∀ (c : Fin 128) (s : State), s.laneSt c ≠ 3 →
    exec (.lockTimeout c) s = .next s) ∧
  (∀ (c : Fin 128) (s : State), s.laneSt c ≠ 4 →
    exec (.exchangeTimeout c) s = .next s) ∧
  (∀ (c : Fin 128) (s : State), s.laneSt c ≠ 6 →
    exec (.retrainTimeout c) s = .next s) ∧
  (∀ (c : Fin 128) (s : State), s.laneSt c ≠ 2 →
    exec (.rateChangeIdleEnd c) s = .next s)

/-- Degradation triggers, isolation and LINK_CTRL. EYE_MEASUREMENT, HEADER_ERROR_WINDOW, ISOLATE, ISOLATE_RELEASE,
RETRAIN, LINK_RESTART and RATE_UP on a lane in the states of R185, R198 to R202 and R204; while ISOLATE is 1,
LINK_CTRL commands record LANE_ISOLATED and change nothing else. Spec: 06_head_link_lanes.md. -/
def Obligations.LaneCommands : Prop :=
  (∀ (c : Fin 128) (eye : Fin 256) (s : State), s.laneActive c = true → s.eyePass c ≤ eye.val →
    ∃ u : State, exec (.eyeMeasurement c eye) s = .next u ∧
      u.rdF (Reg.CH_EYE c) 7 0 = eye.val ∧ u.rdF (Reg.CH_EYE_MIN c) 7 0 = min eye.val (s.rdF (Reg.CH_EYE_MIN c) 7 0) ∧
      (u.lane c).lowEyes = 0 ∧ s.regsBut u [Reg.CH_EYE c, Reg.CH_EYE_MIN c] ∧
      { u with regs := s.regs, lanes := s.lanes } = s) ∧
  (∀ (c : Fin 128) (eye : Fin 256) (s : State), s.laneActive c = true → eye.val < s.eyePass c →
      (s.lane c).lowEyes = 0 →
    ∃ u : State, exec (.eyeMeasurement c eye) s = .next u ∧
      u.rdF (Reg.CH_EYE c) 7 0 = eye.val ∧ (u.lane c).lowEyes = 1 ∧ u.bit (Reg.INT_STATUS (Reg.pageCH c)) 14 = true ∧
      s.regsBut u [Reg.CH_EYE c, Reg.CH_EYE_MIN c, Reg.INT_STATUS (Reg.pageCH c)] ∧
      { u with regs := s.regs, lanes := s.lanes } = s) ∧
  (∀ (c : Fin 128) (eye : Fin 256) (s : State), s.laneActive c = true → eye.val < s.eyePass c →
      2 ≤ (s.lane c).lowEyes →
    exec (.eyeMeasurement c eye) s =
      .next (((s.localEye c (some eye.val)).modLane c (fun l => { l with lowEyes := 0 })).requestRetrain c false)) ∧
  (∀ (c : Fin 128) (n : Nat) (s : State), s.bit (Reg.CH_LINK_STATUS c) 6 = true →
      s.laneActive c = false ∨ n ≤ s.rdF (Reg.CH_LINK_CFG c) 23 16 →
    ∃ u : State, exec (.headerErrorWindow (.head c) n) s = .next u ∧
      u.rd (Reg.CH_HEADER_ERR_COUNT c) = satAdd 32 (s.rd (Reg.CH_HEADER_ERR_COUNT c)) n ∧
      s.regsBut u [Reg.CH_HEADER_ERR_COUNT c] ∧ { u with regs := s.regs } = s) ∧
  (∀ (c : Fin 128) (n : Nat) (s : State), s.bit (Reg.CH_LINK_STATUS c) 6 = false →
    exec (.headerErrorWindow (.head c) n) s = .next s) ∧
  (∀ (c : Fin 128) (n : Nat) (s : State), s.bit (Reg.CH_LINK_STATUS c) 6 = true → s.laneActive c = true →
      s.rdF (Reg.CH_LINK_CFG c) 23 16 < n →
    exec (.headerErrorWindow (.head c) n) s =
      .next ((s.wr (Reg.CH_HEADER_ERR_COUNT c) (satAdd 32 (s.rd (Reg.CH_HEADER_ERR_COUNT c)) n)).requestRetrain c false)) ∧
  (∀ (p : Fin 2) (l : Fin 4) (n : Nat) (s : State), (s.camPort p).locked.contains l.val = true →
    ∃ u : State, exec (.headerErrorWindow (.cam p l) n) s = .next u ∧
      u.rd (Reg.CAM_LINK_ERR_COUNT p) = satAdd 32 (s.rd (Reg.CAM_LINK_ERR_COUNT p)) n ∧
      s.regsBut u [Reg.CAM_LINK_ERR_COUNT p] ∧ { u with regs := s.regs } = s) ∧
  (∀ (p : Fin 2) (l : Fin 4) (n : Nat) (s : State), (s.camPort p).locked.contains l.val = false →
    exec (.headerErrorWindow (.cam p l) n) s = .next s) ∧
  (∀ (p : Fin 3) (l : Fin 4) (n : Nat) (s : State), s.bit (Reg.PEER_PORT_STATUS p) l = true →
    ∃ u : State, exec (.headerErrorWindow (.peer p l) n) s = .next u ∧
      u.rd (Reg.PEER_HEADER_ERR_COUNT p) = satAdd 32 (s.rd (Reg.PEER_HEADER_ERR_COUNT p)) n ∧
      s.regsBut u [Reg.PEER_HEADER_ERR_COUNT p] ∧ { u with regs := s.regs } = s) ∧
  (∀ (p : Fin 3) (l : Fin 4) (n : Nat) (s : State), s.bit (Reg.PEER_PORT_STATUS p) l = false →
    exec (.headerErrorWindow (.peer p l) n) s = .next s) ∧
  (∀ (c : Fin 128) (eye : Fin 256) (s : State), s.laneActive c = false →
    exec (.eyeMeasurement c eye) s = .next s) ∧
  (∀ (c : Fin 128) (eye : Fin 256) (s : State), s.laneActive c = true → eye.val < s.eyePass c →
      (s.lane c).lowEyes = 1 →
    ∃ u : State, exec (.eyeMeasurement c eye) s = .next u ∧
      u.rdF (Reg.CH_EYE c) 7 0 = eye.val ∧ (u.lane c).lowEyes = 2 ∧ s.regsBut u [Reg.CH_EYE c, Reg.CH_EYE_MIN c] ∧
      { u with regs := s.regs, lanes := s.lanes } = s) ∧
  (∀ (src : Req) (c : Fin 128) (s : State), s.cutOff src = false → s.bit (Reg.CH_CH_CTRL c) 0 = false →
    exec (.isolate src c) s = .next (s.isolateLane c)) ∧
  (∀ (src : Req) (c : Fin 128) (s : State), s.cutOff src = false → s.bit (Reg.CH_CH_CTRL c) 0 = true →
    exec (.isolate src c) s = .next s) ∧
  (∀ (src : Req) (c : Fin 128) (s : State), s.cutOff src = false → s.bit (Reg.CH_CH_CTRL c) 0 = true →
      s.laneSt c = 0 →
    ∃ u : State, exec (.isolateRelease src c) s = .next u ∧
      u.bit (Reg.CH_CH_CTRL c) 0 = false ∧ u.laneSt c = 1 ∧ u.laneHalf c = s.rateMaxHalf c ∧
      s.regsBut u (laneKeys c ++ moduleKeys ++ [Reg.CH_CH_CTRL c]) ∧
      { u with regs := s.regs, lanes := s.lanes, out := s.out, mgmt := s.mgmt } = s) ∧
  (∀ (src : Req) (c : Fin 128) (s : State), s.cutOff src = false → s.bit (Reg.CH_CH_CTRL c) 0 = false →
      s.laneActive c = true →
    exec (.linkRetrain src c) s = .next (s.enterRetrain c)) ∧
  (∀ (src : Req) (c : Fin 128) (t : Nat) (s : State), s.cutOff src = false → s.bit (Reg.CH_CH_CTRL c) 0 = false →
      s.laneSt c ≠ 0 →
    ∃ u : State, exec (.linkRestart src c t) s = .next u ∧
      u.laneSt c = 1 ∧ u.laneHalf c = s.rateMaxHalf c ∧ u.attempt c = 0 ∧
      s.regsBut u (laneKeys c ++ moduleKeys ++ [Reg.CH_TABLE_STATUS c]) ∧
      { u with regs := s.regs, frc := s.frc, lanes := s.lanes, out := s.out, mgmt := s.mgmt, line := s.line, ring := s.ring } =
        s) ∧
  (∀ (src : Req) (c : Fin 128) (s : State), s.cutOff src = false → s.bit (Reg.CH_CH_CTRL c) 0 = false →
      s.laneActive c = true → s.laneHalf c = true → s.rateMaxHalf c = false →
    exec (.rateUp src c) s = .next (s.requestRetrain c true)) ∧
  (∀ (src : Req) (c : Fin 128) (s : State), s.cutOff src = false → s.bit (Reg.CH_CH_CTRL c) 0 = true →
    exec (.linkRetrain src c) s = .next (s.errAt (Reg.pageCH c) 0x0191 (Reg.CH_LINK_CTRL c) src)) ∧
  (∀ (src : Req) (c : Fin 128) (s : State), s.cutOff src = false → s.bit (Reg.CH_CH_CTRL c) 0 = true →
    exec (.rateUp src c) s = .next (s.errAt (Reg.pageCH c) 0x0191 (Reg.CH_LINK_CTRL c) src)) ∧
  (∀ (src : Req) (c : Fin 128) (t : Nat) (s : State), s.cutOff src = false → s.bit (Reg.CH_CH_CTRL c) 0 = true →
    exec (.linkRestart src c t) s = .next ((s.till t).errAt (Reg.pageCH c) 0x0191 (Reg.CH_LINK_CTRL c) src)) ∧
  (∀ (src : Req) (c : Fin 128) (s : State), s.cutOff src = false → s.bit (Reg.CH_CH_CTRL c) 0 = false →
    exec (.isolateRelease src c) s = .next s) ∧
  (∀ (src : Req) (c : Fin 128) (s : State), s.cutOff src = false → s.bit (Reg.CH_CH_CTRL c) 0 = false →
      s.laneActive c = false →
    exec (.linkRetrain src c) s = .next s) ∧
  (∀ (src : Req) (c : Fin 128) (t : Nat) (s : State), s.cutOff src = false → s.bit (Reg.CH_CH_CTRL c) 0 = false →
      s.laneSt c = 0 →
    exec (.linkRestart src c t) s = .next (s.till t)) ∧
  (∀ (src : Req) (c : Fin 128) (s : State), s.cutOff src = false → s.bit (Reg.CH_CH_CTRL c) 0 = false →
      s.laneActive c = false ∨ s.laneHalf c = false ∨ s.rateMaxHalf c = true →
    exec (.rateUp src c) s = .next s)

/-- HELLO, its repeats and ACCEPT on a head lane. HELLO in ACTIVE is answered with ACK = 1; in EXCHANGE an
incompatible head fails the lane with cause 5, a compatible one is acknowledged, a head whose ACK has come
brings the lane to ACTIVE with its fields recorded, and a changed head is held where the host asks for it until
ACCEPT; HELLO_REPEAT repeats the HELLO of a lane that is not held; PORT_STOP_EXCHANGE takes a lane that owes it
back to EXCHANGE. Spec: 07_head_link_protocol.md, 06_head_link_lanes.md. -/
def Obligations.HeadHelloExchange : Prop :=
  (∀ (c : Fin 128) (h : HeadHello) (t : Nat) (s : State), s.laneTalks c = true →
    ∃ u : State, exec (.headHello c h t) s = .next u ∧
      u.out = s.out ++ [Out.frame c (s.moduleHello c true), s.coded c false (withHeaders (s.moduleHello c true))] ∧
      { u with frc := s.frc, lanes := s.lanes, out := s.out } = s) ∧
  (∀ (c : Fin 128) (h : HeadHello) (t : Nat) (s : State), s.laneSt c ≠ 4 → s.laneSt c ≠ 5 →
    exec (.headHello c h t) s = .next (s.till t)) ∧
  (∀ (c : Fin 128) (h : HeadHello) (t : Nat) (s : State), s.laneSt c = 4 → s.compatible c h = false →
    ∃ u : State, exec (.headHello c h t) s = .next u ∧
      u.laneSt c = 7 ∧ u.rdF (Reg.CH_LINK_STATUS c) 15 12 = 5 ∧ u.bit (Reg.INT_STATUS (Reg.pageCH c)) 12 = true ∧
      u.bit (Reg.INT_STATUS (Reg.pageCH c)) 4 = true ∧
      s.regsBut u (laneKeys c ++ moduleKeys ++ errorKeys (Reg.pageCH c)) ∧
      { u with regs := s.regs, frc := s.frc, lanes := s.lanes, out := s.out, mgmt := s.mgmt, scr := s.scr, pair := s.pair, ring := s.ring } =
        s) ∧
  (∀ (c : Fin 128) (h : HeadHello) (t : Nat) (s : State), s.laneSt c = 4 → s.compatible c h = true →
      (s.lane c).ident = none ∨ (s.lane c).ident = some (h.vendor, h.model, h.serial) → s.holdsForPair = false →
      h.ack = false → (s.lane c).headAcked = false →
    ∃ u : State, exec (.headHello c h t) s = .next u ∧
      u.laneSt c = 4 ∧ (u.lane c).hello = some h ∧
      u.out = s.out ++ [Out.frame c (s.moduleHello c true), s.coded c false (withHeaders (s.moduleHello c true))] ∧
      { u with frc := s.frc, lanes := s.lanes, out := s.out } = s) ∧
  (∀ (c : Fin 128) (h : HeadHello) (t : Nat) (s : State), s.laneSt c = 4 → s.compatible c h = true →
      (s.lane c).ident = none ∨ (s.lane c).ident = some (h.vendor, h.model, h.serial) → s.holdsForPair = false →
      h.ack = true ∨ (s.lane c).headAcked = true →
    ∃ u : State, exec (.headHello c h t) s = .next u ∧
      u.laneSt c = 5 ∧ u.rd (Reg.CH_HEAD_VENDOR c) = h.vendor % 2 ^ 16 + h.model % 2 ^ 16 * 2 ^ 16 ∧
      u.rd (Reg.CH_HEAD_SERIAL_LO c) = h.serial % 2 ^ 32 ∧
      u.rd (Reg.CH_HEAD_SERIAL_HI c) = h.serial / 2 ^ 32 % 2 ^ 32 ∧
      u.rdF (Reg.CH_HEAD_CAPS c) 31 16 = h.tableMax % 2 ^ 16 ∧ u.rdF (Reg.CH_LINK_STATUS c) 15 12 = 0 ∧
      u.bit (Reg.INT_STATUS (Reg.pageCH c)) 8 = true ∧ (u.lane c).ident = some (h.vendor, h.model, h.serial) ∧
      u.scr.implicit.contains c.val = false ∧
      s.regsBut u (laneKeys c ++ moduleKeys ++ [Reg.CH_HEAD_VENDOR c, Reg.CH_HEAD_SERIAL_LO c,
        Reg.CH_HEAD_SERIAL_HI c, Reg.CH_HEAD_CAPS c, Reg.CH_HEAD_VERSION c, Reg.CH_TRAIN_TIME c,
        Reg.CH_PROTO_STATUS c]) ∧
      { u with regs := s.regs, frc := s.frc, lanes := s.lanes, out := s.out, mgmt := s.mgmt, scr := s.scr, pair := s.pair, ring := s.ring } =
        s) ∧
  (∀ (c : Fin 128) (h : HeadHello) (t : Nat) (s : State), s.laneSt c = 4 → s.compatible c h = true →
      (s.lane c).ident.isSome = true → (s.lane c).ident ≠ some (h.vendor, h.model, h.serial) →
      s.bit (Reg.CH_LINK_CFG c) 3 = true → (s.lane c).accepted = false →
    ∃ u : State, exec (.headHello c h t) s = .next u ∧
      u.laneSt c = 4 ∧ (u.lane c).held = true ∧ u.bit (Reg.CH_LINK_STATUS c) 9 = true ∧
      (s.bit (Reg.CH_LINK_STATUS c) 9 = false → u.bit (Reg.INT_STATUS (Reg.pageCH c)) 13 = true) ∧
      s.regsBut u [Reg.CH_LINK_STATUS c, Reg.INT_STATUS (Reg.pageCH c)] ∧
      { u with regs := s.regs, frc := s.frc, lanes := s.lanes } = s) ∧
  (∀ (src : Req) (c : Fin 128) (h : HeadHello) (t : Nat) (s : State), s.cutOff src = false →
      s.bit (Reg.CH_CH_CTRL c) 0 = false → s.laneSt c = 4 → (s.lane c).held = true → (s.lane c).heldPair = false →
      (s.lane c).hello = some h → (s.lane c).headAcked = false →
    ∃ u : State, exec (.linkAccept src c t) s = .next u ∧
      u.laneSt c = 4 ∧ (u.lane c).held = false ∧ (u.lane c).accepted = true ∧
      u.out = s.out ++ [Out.frame c (s.moduleHello c true), s.coded c false (withHeaders (s.moduleHello c true))] ∧
      { u with frc := s.frc, lanes := s.lanes, out := s.out } = s) ∧
  (∀ (c : Fin 128) (s : State), s.laneSt c = 4 → (s.lane c).held = false → (s.lane c).heldPair = false →
    ∃ u : State, exec (.helloRepeat c) s = .next u ∧
      u.out = s.out ++ [Out.frame c (s.moduleHello c (s.lane c).helloPassed),
        s.coded c false (withHeaders (s.moduleHello c (s.lane c).helloPassed))] ∧
      { u with lanes := s.lanes, out := s.out } = s) ∧
  (∀ (c : Fin 128) (s : State), s.laneSt c ≠ 4 ∨ (s.lane c).held = true ∨ (s.lane c).heldPair = true →
    exec (.helloRepeat c) s = .next s) ∧
  (∀ (c : Fin 128) (s : State), s.laneActive c = true → s.line.portStop.contains c.val = true →
    ∃ u : State, exec (.portStopExchange c) s = .next u ∧
      u.laneSt c = 4 ∧ u.bit (Reg.INT_STATUS (Reg.pageCH c)) 9 = true ∧
      u.line.portStop = s.line.portStop.filter (· != c.val) ∧
      s.regsBut u (laneKeys c ++ moduleKeys ++ [Reg.CH_TABLE_STATUS c]) ∧
      { u with regs := s.regs, lanes := s.lanes, out := s.out, mgmt := s.mgmt, line := s.line, ring := s.ring } = s)

/-- STATUS, discarded frames, ECHO and TABLE of a head lane. STATUS on an ACTIVE lane records PROTO_STATUS, the
period and the counters; STATUS_TIMEOUT and FRAME_DISCARD set their bits and count; ECHO requests and replies,
with RTT and LATENCY of R235. TABLE_SEND that no condition of R230 refuses emits the TABLE frame and waits with
its SEQ; uncorrectable source data fails it with RESULT 0xFC and sends nothing; a refused send records its error
and reads REFUSED, and a refused send while one is in progress leaves the state of that send. TABLE_NO_RESPONSE
fails the waiting send with RESULT 0xFE. Spec: 07_head_link_protocol.md. -/
def Obligations.HeadStatusAndTables : Prop :=
  (∀ (c : Fin 128) (st : HeadStatus) (s : State), s.laneActive c = true →
      st.retrainReq = false ∨ s.retrainPending c = true →
    ∃ u : State, exec (.headStatus c st) s = .next u ∧
      u.rd (Reg.CH_HEAD_PERIOD c) = st.period % 2 ^ 32 ∧ u.bit (Reg.CH_PROTO_STATUS c) 8 = false ∧
      u.bit (Reg.CH_PROTO_STATUS c) 9 = st.fault ∧ u.bit (Reg.CH_PROTO_STATUS c) 10 = st.halted ∧
      u.bit (Reg.CH_PROTO_STATUS c) 11 = st.aborted ∧ u.rdF (Reg.CH_PROTO_STATUS c) 31 16 = st.temp % 2 ^ 16 ∧
      u.rdF (Reg.CH_PROTO_STATUS c) 7 0 = s.rdF (Reg.CH_PROTO_STATUS c) 7 0 ∧ (u.lane c).statusSeen = true ∧
      u.laneSt c = s.laneSt c ∧
      (st.fault = true → s.bit (Reg.CH_PROTO_STATUS c) 9 = false → u.bit (Reg.INT_STATUS (Reg.pageCH c)) 21 = true) ∧
      s.regsBut u [Reg.CH_PROTO_STATUS c, Reg.CH_HEAD_PERIOD c, Reg.CH_CNT_SEL c, Reg.CH_TABLE_STATUS c,
        Reg.INT_STATUS (Reg.pageCH c), Reg.PAIR_PAIR_STATUS] ∧
      { u with regs := s.regs, lanes := s.lanes, colour := s.colour, pair := s.pair } = s) ∧
  (∀ (c : Fin 128) (st : HeadStatus) (s : State), s.laneActive c = true → st.retrainReq = true →
      s.retrainPending c = false → s.pairMode = false → s.printing = true → s.bit (Reg.CH_LINK_CFG c) 2 = false →
    ∃ u : State, exec (.headStatus c st) s = .next u ∧
      u.retrainPending c = true ∧ u.bit (Reg.INT_STATUS (Reg.pageCH c)) 10 = true ∧
      u.rd (Reg.CH_HEAD_PERIOD c) = st.period % 2 ^ 32 ∧
      s.regsBut u ([Reg.CH_PROTO_STATUS c, Reg.CH_HEAD_PERIOD c, Reg.CH_CNT_SEL c, Reg.CH_TABLE_STATUS c,
        Reg.INT_STATUS (Reg.pageCH c), Reg.PAIR_PAIR_STATUS] ++ [Reg.CH_LINK_STATUS c]) ∧
      { u with regs := s.regs, lanes := s.lanes, colour := s.colour, pair := s.pair } = s) ∧
  (∀ (c : Fin 128) (st : HeadStatus) (s : State), s.laneActive c = false →
    exec (.headStatus c st) s = .next s) ∧
  (∀ (c : Fin 128) (s : State), s.laneActive c = true →
    ∃ u : State, exec (.statusTimeout c) s = .next u ∧
      u.bit (Reg.CH_PROTO_STATUS c) 8 = true ∧ u.bit (Reg.INT_STATUS (Reg.pageCH c)) 20 = true ∧
      (u.lane c).counter 0xC = ((s.lane c).counter 0xC + 1) % 2 ^ 32 ∧
      s.regsBut u [Reg.CH_PROTO_STATUS c, Reg.INT_STATUS (Reg.pageCH c)] ∧
      { u with regs := s.regs, lanes := s.lanes } = s) ∧
  (∀ (c : Fin 128) (s : State),
    ∃ u : State, exec (.frameDiscard c) s = .next u ∧
      u.bit (Reg.INT_STATUS (Reg.pageCH c)) 27 = true ∧
      (u.lane c).counter 0xB = ((s.lane c).counter 0xB + 1) % 2 ^ 32 ∧ s.regsBut u [Reg.INT_STATUS (Reg.pageCH c)] ∧
      { u with regs := s.regs, lanes := s.lanes } = s) ∧
  (∀ (src : Req) (c : Fin 128) (t : Nat) (s : State), s.cutOff src = false → s.laneTalks c = true →
    ∃ u : State, exec (.echoNow src c t) s = .next u ∧
      (u.lane c).echoes = (s.lane c).echoes ++ [(((s.lane c).echoSeq + 1) % 256, u.frc)] ∧
      u.frc = max s.frc t % 2 ^ 64 ∧
      u.out = s.out ++ [Out.block c (echoBlock (((s.lane c).echoSeq + 1) % 256)), s.coded c false [(controlHeader,
        echoBlock (((s.lane c).echoSeq + 1) % 256))]] ∧ { u with frc := s.frc, lanes := s.lanes, out := s.out } = s) ∧
  (∀ (c : Fin 128) (t : Nat) (s : State), s.laneTalks c = true → s.bit (Reg.CH_PROTO_CFG c) 0 = true →
    ∃ u : State, exec (.echoInterval c t) s = .next u ∧
      (u.lane c).echoes = (s.lane c).echoes ++ [(((s.lane c).echoSeq + 1) % 256, u.frc)] ∧
      u.out = s.out ++ [Out.block c (echoBlock (((s.lane c).echoSeq + 1) % 256)), s.coded c false [(controlHeader,
        echoBlock (((s.lane c).echoSeq + 1) % 256))]] ∧ { u with frc := s.frc, lanes := s.lanes, out := s.out } = s) ∧
  (∀ (c : Fin 128) (seq turnaround t : Nat) (s : State), (s.lane c).echoes.find? (fun e => e.1 == seq % 256) = none →
    exec (.echoReply c seq turnaround t) s = .next (s.till t)) ∧
  (∀ (c : Fin 128) (t : Nat) (s : State), s.bit (Reg.CH_PROTO_CFG c) 0 = false →
    exec (.echoInterval c t) s = .next (s.till t)) ∧
  (∀ (c : Fin 128) (seq turnaround t t0 : Nat) (s : State),
      (s.lane c).echoes.find? (fun e => e.1 == seq % 256) = some (seq % 256, t0) →
    ∃ u : State, exec (.echoReply c seq turnaround t) s = .next u ∧
      u.rdF (Reg.CH_ECHO_RTT c) 15 0 = min 0xFFFF (max s.frc t % 2 ^ 64 - t0) ∧
      u.rdF (Reg.CH_ECHO_RTT c) 31 16 =
        min 0xFFFF (((max s.frc t % 2 ^ 64 - t0) * 5 - turnaround % 2 ^ 16 * 4) / 10) ∧
      (u.lane c).echoes = (s.lane c).echoes.filter (fun e => e.1 != seq % 256) ∧ s.regsBut u [Reg.CH_ECHO_RTT c] ∧
      { u with regs := s.regs, frc := s.frc, lanes := s.lanes } = s) ∧
  (∀ (c : Fin 128) (s : State), (s.lane c).echoes ≠ [] →
    ∃ u : State, exec (.echoLost c) s = .next u ∧
      (u.lane c).echoes = (s.lane c).echoes.drop 1 ∧ (u.lane c).counter 0xD = ((s.lane c).counter 0xD + 1) % 2 ^ 32 ∧
      { u with lanes := s.lanes } = s) ∧
  (∀ (c : Fin 128) (s : State), (s.lane c).echoes = [] →
    exec (.echoLost c) s = .next s) ∧
  (∀ (src : Req) (c : Fin 128) (s : State), s.cutOff src = false → s.tableRefusal src c = none →
      s.tablePoisoned c = false → s.laneTalks c = true →
    ∃ u : State, exec (.tableSend src c) s = .next u ∧
      u.rd (Reg.CH_TABLE_STATUS c) = 2 + (((s.lane c).tableSeq + 1) % 256) * 2 ^ 16 ∧
      (u.lane c).tableSeq = ((s.lane c).tableSeq + 1) % 256 ∧
      u.out = s.out ++ [Out.frame c (s.tableFrame c (((s.lane c).tableSeq + 1) % 256)),
        s.coded c false (withHeaders (s.tableFrame c (((s.lane c).tableSeq + 1) % 256)))] ∧
      s.regsBut u [Reg.CH_TABLE_STATUS c] ∧ { u with regs := s.regs, lanes := s.lanes, out := s.out } = s) ∧
  (∀ (src : Req) (c : Fin 128) (s : State), s.cutOff src = false → s.tableRefusal src c = none →
      s.tablePoisoned c = true →
    ∃ u : State, exec (.tableSend src c) s = .next u ∧
      u.rdF (Reg.CH_TABLE_STATUS c) 2 0 = 4 ∧ u.rdF (Reg.CH_TABLE_STATUS c) 15 8 = 0xFC ∧
      u.bit (Reg.INT_STATUS (Reg.pageCH c)) 26 = true ∧
      s.regsBut u [Reg.CH_TABLE_STATUS c, Reg.INT_STATUS (Reg.pageCH c)] ∧ { u with regs := s.regs } = s) ∧
  (∀ (src : Req) (c : Fin 128) (code : Nat) (s : State), s.cutOff src = false → s.tableRefusal src c = some code →
      code ≠ 0x01A3 →
    ∃ u : State, exec (.tableSend src c) s = .next u ∧
      u.rdF (Reg.CH_TABLE_STATUS c) 2 0 = 5 ∧ u.bit (Reg.INT_STATUS (Reg.pageCH c)) 26 = true ∧
      u.bit (Reg.INT_STATUS (Reg.pageCH c)) 4 = true ∧
      (s.rd (Reg.ERR_INFO (Reg.pageCH c)) = 0 → u.rdF (Reg.ERR_INFO (Reg.pageCH c)) 15 0 = code % 0x10000) ∧
      s.regsBut u (errorKeys (Reg.pageCH c) ++ [Reg.CH_TABLE_STATUS c]) ∧ { u with regs := s.regs } = s) ∧
  (∀ (src : Req) (c : Fin 128) (s : State), s.cutOff src = false → s.tableRefusal src c = some 0x01A3 →
    exec (.tableSend src c) s = .next (s.errAt (Reg.pageCH c) 0x01A3 (Reg.CH_TABLE_CMD c) src)) ∧
  (∀ (c : Fin 128) (s : State), s.rdF (Reg.CH_TABLE_STATUS c) 2 0 = 2 →
    ∃ u : State, exec (.tableNoResponse c) s = .next u ∧
      u.rdF (Reg.CH_TABLE_STATUS c) 2 0 = 4 ∧ u.rdF (Reg.CH_TABLE_STATUS c) 15 8 = 0xFE ∧
      u.bit (Reg.INT_STATUS (Reg.pageCH c)) 26 = true ∧
      s.regsBut u [Reg.CH_TABLE_STATUS c, Reg.INT_STATUS (Reg.pageCH c)] ∧ { u with regs := s.regs } = s)

/-- The table apertures. A write of an aperture word reaches the TARGET bank, the threshold array or the lamp table
that it addresses, for the bits that an entry has, and the word then reads back as written; a TARGET region that
a live slot holds is TARGET_BUSY, the ACTIVE bank is READ_ONLY, the threshold arrays are not written in a run.
Spec: 02_register_pages.md, 05_screening.md, 10_lamp_channels.md. -/
def Obligations.ApertureCommands : Prop :=
  (∀ (src : Req) (a data k : Nat) (s : State), s.bar0Down src a = false → s.spot src a = .table a →
      tableWord a = .nozzle k → s.pairMode = false → s.targetBusy 1 (k / 6144) = false →
    ∃ u : State, exec (.apertureWrite src a data) s = .next u ∧
      u.tableRead a = data % 2 ^ 24 ∧
      (∀ j, j ≠ k → smGet nozzleReset u.scr.target.nozzle j = smGet nozzleReset s.scr.target.nozzle j) ∧
      u.scr.active = s.scr.active ∧ { u with scr := s.scr } = s) ∧
  (∀ (src : Req) (a data k : Nat) (s : State), s.bar0Down src a = false → s.spot src a = .table a →
      tableWord a = .tone k → s.pairMode = false → s.targetBusy 2 (k / 256) = false →
    ∃ u : State, exec (.apertureWrite src a data) s = .next u ∧
      u.tableRead a = data % 2 ^ 16 % 4096 + data / 2 ^ 16 % 4096 * 65536 ∧ u.scr.active = s.scr.active ∧
      { u with scr := s.scr } = s) ∧
  (∀ (src : Req) (a data k : Nat) (s : State), s.bar0Down src a = false → s.spot src a = .table a →
      tableWord a = .dmap k → s.pairMode = false → s.targetBusy 3 k = false →
    ∃ u : State, exec (.apertureWrite src a data) s = .next u ∧
      u.tableRead a = data &&& 0x77777777 ∧ u.scr.active = s.scr.active ∧ { u with scr := s.scr } = s) ∧
  (∀ (src : Req) (a data k : Nat) (s : State), s.bar0Down src a = false → s.spot src a = .table a →
      tableWord a = .kerf k → s.pairMode = false → s.targetBusy 6 (k / 6144) = false →
    ∃ u : State, exec (.apertureWrite src a data) s = .next u ∧
      u.tableRead a = data % 2 ^ 32 ∧ u.scr.active = s.scr.active ∧ { u with scr := s.scr } = s) ∧
  (∀ (src : Req) (a data k : Nat) (s : State), s.bar0Down src a = false → s.spot src a = .table a →
      tableWord a = .curve k →
    ∃ u : State, exec (.apertureWrite src a data) s = .next u ∧
      u.tableRead a = data % 2 ^ 32 ∧ { u with lamp := s.lamp } = s) ∧
  (∀ (src : Req) (a data k : Nat) (s : State), s.bar0Down src a = false → s.spot src a = .table a →
      tableWord a = .bin k →
    ∃ u : State, exec (.apertureWrite src a data) s = .next u ∧
      u.tableRead a = data % 2 ^ 16 ∧ { u with lamp := s.lamp } = s) ∧
  (∀ (src : Req) (a data x w : Nat) (s : State), s.bar0Down src a = false → s.spot src a = .table a →
      tableWord a = .isp x w → s.bit (Reg.ISPCTX_TABLE_STATE x) 0 = false →
    ∃ u : State, exec (.apertureWrite src a data) s = .next u ∧
      u.tableRead a = data % 2 ^ 32 ∧ { u with cam := s.cam } = s) ∧
  (∀ (src : Req) (a data k : Nat) (s : State), s.bar0Down src a = false → s.spot src a = .table a →
      tableWord a = .nozzle k → s.pairMode = false → s.targetBusy 1 (k / 6144) = true →
    ∃ u : State, exec (.apertureWrite src a data) s = .next u ∧
      s.errored u Reg.pageSYS 0xC a (srcCode src) ∧
      u.bit (Reg.INT_STATUS Reg.pageSYS) 9 = s.bit (Reg.INT_STATUS Reg.pageSYS) 9 ∧
      s.regsBut u (errorKeys Reg.pageSYS) ∧ { u with regs := s.regs } = s) ∧
  (∀ (src : Req) (a data k : Nat) (s : State), s.bar0Down src a = false → s.spot src a = .table a →
      tableWord a = .nozzleActive k →
    ∃ u : State, exec (.apertureWrite src a data) s = .next u ∧
      s.errored u Reg.pageSYS 5 a (srcCode src) ∧ s.regsBut u (errorKeys Reg.pageSYS) ∧ { u with regs := s.regs } = s) ∧
  (∀ (src : Req) (a data k : Nat) (s : State), s.bar0Down src a = false → s.spot src a = .table a → 0xC00000 ≤ a →
      a < 0xD00000 → s.pairMode = false → k = (a - 0xC00000) / 4 * 2 → s.runSt = 0 →
    ∃ u : State, exec (.thresholdWrite src a data) s = .next u ∧
      u.tableRead a = data % 2 ^ 16 % 4096 + data / 2 ^ 16 % 4096 * 65536 ∧ u.scr.target = s.scr.target ∧
      u.scr.active = s.scr.active ∧
      (∀ j, j ≠ k → j ≠ k + 1 → smGet zeroReset u.scr.thr j = smGet zeroReset s.scr.thr j) ∧
      { u with scr := s.scr } = s) ∧
  (∀ (src : Req) (a data k : Nat) (s : State), s.bar0Down src a = false → s.spot src a = .table a → 0xC00000 ≤ a →
      a < 0xD00000 → s.pairMode = false → k = (a - 0xC00000) / 4 * 2 → s.runSt ≠ 0 →
    ∃ u : State, exec (.thresholdWrite src a data) s = .next u ∧
      s.errored u (Reg.pagePLANE (k / 65536)) 0x0101 a (srcCode src) ∧
      s.regsBut u (errorKeys (Reg.pagePLANE (k / 65536))) ∧ { u with regs := s.regs } = s)

/-- Configuration lock, shadows and block reset of a page. CONFIG_LOCK sets the bit; ARM is refused on a page
without a domain (7) and on a page that only slots apply (6; LATE and REFUSED, which show the outcome of the
slot, stay: the choice of log 98), is without effect on an armed page, and otherwise arms, LATE showing a target
that has passed, an ENC page that is due taking force at once while no run prints (the reading of log 81);
DISARM cancels an arm; SHADOW_APPLY copies every shadow of an armed page that is due; BLOCK_RESET returns the
registers of the page to reset, is refused as BLOCK_BUSY, and on SYS, CLK, PWR and THERM reaches five registers
only. Spec: 02_register_pages.md. -/
def Obligations.PageCommands : Prop :=
  (∀ (src : Req) (page : Nat) (s : State), s.reaches src page = true →
    ∃ u : State, exec (.configLock src page) s = .next u ∧
      u.bit (Reg.CTRL page) 3 = true ∧ u.rdF (Reg.CTRL page) 2 0 = s.rdF (Reg.CTRL page) 2 0 ∧
      s.regsBut u [Reg.CTRL page] ∧ { u with regs := s.regs } = s) ∧
  (∀ (src : Req) (page q : Nat) (s : State), s.reaches src page = true → q = s.shadowPage page → domainOf q = 0 →
    ∃ u : State, exec (.shadowArm src page) s = .next u ∧
      s.errored u (headerPage q) 7 0x024 (srcCode src) ∧ u.bit (Reg.SHADOW_CTRL q) 3 = true ∧
      u.bit (Reg.INT_STATUS (headerPage q)) 3 = true ∧ s.regsBut u (errorKeys (headerPage q) ++ [Reg.SHADOW_CTRL q]) ∧
      { u with regs := s.regs } = s) ∧
  (∀ (src : Req) (page q : Nat) (s : State), s.reaches src page = true → q = s.shadowPage page → viaApply q = true →
    ∃ u : State, exec (.shadowArm src page) s = .next u ∧
      s.errored u q 6 0x024 (srcCode src) ∧ u.bit (Reg.INT_STATUS q) 3 = true ∧ s.regsBut u (errorKeys q) ∧
      { u with regs := s.regs } = s) ∧
  (∀ (src : Req) (page q : Nat) (s : State), s.reaches src page = true → q = s.shadowPage page → domainOf q ≠ 0 →
      viaApply q = false → s.bit (Reg.SHADOW_CTRL q) 1 = false → s.armFault src q = none → s.pairMode = false →
      domainOf q ≠ 3 ∨ s.targetPast q = false →
      1 < s.runSt ∨ ldiff s.nextLine (s.rd (Reg.ARM_TARGET Reg.pageENC)) < 0 ∨ (q ≠ Reg.pageENC ∧
      s.bit (Reg.SHADOW_CTRL Reg.pageENC) 1 = false) →
    ∃ u : State, exec (.shadowArm src page) s = .next u ∧
      u.bit (Reg.SHADOW_CTRL q) 1 = true ∧ u.bit (Reg.SHADOW_CTRL q) 3 = false ∧
      u.bit (Reg.SHADOW_CTRL q) 2 = s.targetPast q ∧ s.regsBut u [Reg.SHADOW_CTRL q] ∧ { u with regs := s.regs } = s) ∧
  (∀ (src : Req) (s : State), s.reaches src Reg.pageENC = true → s.bit (Reg.SHADOW_CTRL Reg.pageENC) 1 = false →
      s.armFault src Reg.pageENC = none → s.pairMode = false → s.runSt ≤ 1 →
      0 ≤ ldiff s.nextLine (s.rd (Reg.ARM_TARGET Reg.pageENC)) → s.pair.armWait.contains Reg.pageENC = false →
    ∃ u : State, exec (.shadowArm src Reg.pageENC) s = .next u ∧
      rwsKeys Reg.pageENC ≠ [] ∧ (∀ k ∈ rwsKeys Reg.pageENC, u.rd k = s.shadowOf k) ∧
      u.bit (Reg.SHADOW_CTRL Reg.pageENC) 1 = false ∧ u.bit (Reg.INT_STATUS Reg.pageENC) 1 = true ∧
      s.regsBut u (rwsKeys Reg.pageENC ++ [Reg.SHADOW_CTRL Reg.pageENC, Reg.INT_STATUS Reg.pageENC,
        Reg.ENC_ENC_STATUS, Reg.STATUS Reg.pageENC]) ∧ { u with regs := s.regs, line := s.line } = s) ∧
  (∀ (src : Req) (page q : Nat) (s : State), s.reaches src page = true → q = s.shadowPage page → domainOf q ≠ 0 →
      viaApply q = false → s.bit (Reg.SHADOW_CTRL q) 1 = true →
    exec (.shadowArm src page) s = .next s) ∧
  (∀ (src : Req) (page q : Nat) (s : State), s.reaches src page = true → q = s.shadowPage page → viaApply q = false →
      s.bit (Reg.SHADOW_CTRL q) 1 = true → s.pairMode = false →
    ∃ u : State, exec (.shadowDisarm src page false) s = .next u ∧
      u.bit (Reg.SHADOW_CTRL q) 1 = false ∧ u.rdF (Reg.SHADOW_CTRL q) 23 16 = s.rdF (Reg.SHADOW_CTRL q) 23 16 ∧
      s.regsBut u [Reg.SHADOW_CTRL q] ∧ { u with regs := s.regs, pair := s.pair } = s) ∧
  (∀ (frame : Nat) (s : State), s.runSt = 2 → s.bit (Reg.SHADOW_CTRL Reg.pageLINE) 1 = true →
      0 ≤ ldiff s.nextLine (s.rd (Reg.ARM_TARGET Reg.pageLINE)) → s.pair.armWait.contains Reg.pageLINE = false →
    ∃ u : State, exec (.shadowApply Reg.pageLINE frame) s = .next u ∧
      rwsKeys Reg.pageLINE ≠ [] ∧ (∀ k ∈ rwsKeys Reg.pageLINE, u.rd k = s.shadowOf k) ∧
      u.bit (Reg.SHADOW_CTRL Reg.pageLINE) 1 = false ∧
      u.rdF (Reg.SHADOW_CTRL Reg.pageLINE) 23 16 = (s.rdF (Reg.SHADOW_CTRL Reg.pageLINE) 23 16 + 1) % 256 ∧
      u.bit (Reg.INT_STATUS Reg.pageLINE) 1 = true ∧
      s.regsBut u (rwsKeys Reg.pageLINE ++ [Reg.SHADOW_CTRL Reg.pageLINE, Reg.INT_STATUS Reg.pageLINE]) ∧
      { u with regs := s.regs } = s) ∧
  (∀ (page frame : Nat) (s : State), 3 < page → page < 0x0CB → s.bit (Reg.SHADOW_CTRL page) 1 = false →
    exec (.shadowApply page frame) s = .next s) ∧
  (∀ (page frame g : Nat) (s : State), page = Reg.pageLAMP g → g < 4 → s.bit (Reg.SHADOW_CTRL page) 1 = true →
      0 ≤ sdiff 32 (s.frc % 2 ^ 32) (s.rd (Reg.ARM_TARGET page)) →
    ∃ u : State, exec (.shadowApply page frame) s = .next u ∧
      (∀ k ∈ rwsKeys page, u.rd k = s.shadowOf k) ∧ u.bit (Reg.SHADOW_CTRL page) 1 = false ∧
      u.bit (Reg.INT_STATUS page) 1 = true ∧
      s.regsBut u (rwsKeys page ++ [Reg.SHADOW_CTRL page, Reg.INT_STATUS page]) ∧ { u with regs := s.regs } = s) ∧
  (∀ (src : Req) (page i : Nat) (p : PageType) (s : State), s.reaches src page = true → pageAt page = some (p, i) →
      s.resetBusy src page = true →
    ∃ u : State, exec (.blockReset src page) s = .next u ∧
      s.errored u page 0xB 0x008 (srcCode src) ∧ s.regsBut u (errorKeys page) ∧ { u with regs := s.regs } = s) ∧
  (∀ (src : Req) (page i : Nat) (p : PageType) (s : State), s.reaches src page = true → pageAt page = some (p, i) →
      s.resetBusy src page = false → partReset p = true →
    ∃ u : State, exec (.blockReset src page) s = .next u ∧
      (∀ k ∈ [Reg.INT_STATUS page, Reg.INT_ENABLE page, Reg.ERR_INFO page, Reg.ERR_COUNT page, Reg.SCRATCH page],
        u.rd k = 0) ∧
      s.regsBut u [Reg.INT_STATUS page, Reg.INT_ENABLE page, Reg.ERR_INFO page, Reg.ERR_COUNT page,
        Reg.SCRATCH page] ∧ { u with regs := s.regs } = s) ∧
  (∀ (src : Req) (page i : Nat) (p : PageType) (s : State), s.reaches src page = true → pageAt page = some (p, i) →
      s.resetBusy src page = false →
      [PageType.apply, .plane, .prp, .lampseq, .scaler, .tio, .job, .locks].contains p = true →
    ∃ u : State, exec (.blockReset src page) s = .next u ∧
      (∀ k, k / 0x1000 = page → u.rd k = resetVal k) ∧ (∀ k, k / 0x1000 = page → u.shadowOf k = resetVal k) ∧
      (p = .apply → u.slots = []) ∧ (p = .job → u.splices = []) ∧ (p = .locks → u.locks = []) ∧ s.pagesBut u [page] ∧
      { u with regs := s.regs, shadow := s.shadow, frozen := s.frozen, latchR := s.latchR, latchW := s.latchW, slots := s.slots, pair := s.pair, job := s.job, splices := s.splices, colour := s.colour, lamp := s.lamp, net := s.net, tio := s.tio, locks := s.locks } =
        s)

/-- Arming, cancelling and applying slots. ARM of a slot in order of R101: the host does not reach slots 24 to 31, a
live slot is left as it is, the first failed check refuses it with its code in RESULT, and otherwise it reads
ARMED; CANCEL of an armed slot reads CANCELLED and of one that acts is refused; SLOT_APPLY starts the ramp or
acts at once; RAMP_END swaps a bank or gives the final register values; BANK_COPY_DONE makes the slot DONE.
Spec: 03_line_engine.md. -/
def Obligations.SlotCommands : Prop :=
  (∀ (src : Req) (n : Fin 32) (s : State), s.cutOff src = false → isHost src = true → 24 ≤ n.val →
    ∃ u : State, exec (.slotArm src n) s = .next u ∧
      s.errored u Reg.pageAPPLY 0x0105 (Reg.APPLY_SLOT_CTRL n) (srcCode src) ∧ s.regsBut u (errorKeys Reg.pageAPPLY) ∧
      { u with regs := s.regs } = s) ∧
  (∀ (src : Req) (n : Fin 32) (s : State), s.cutOff src = false → isHost src = false ∨ n.val < 24 →
      slotLive (s.slotSt n) = true →
    exec (.slotArm src n) s = .next s) ∧
  (∀ (src : Req) (n : Fin 32) (code : Nat) (s : State), s.cutOff src = false → isHost src = false ∨ n.val < 24 →
      slotLive (s.slotSt n) = false → s.slotRefusal src n = some code →
    ∃ u : State, exec (.slotArm src n) s = .next u ∧
      u.slotSt n = 5 ∧ u.rdF (Reg.APPLY_SLOT_STATUS n) 23 8 = code ∧ u.bit Reg.APPLY_SLOT_REFUSED n = true ∧
      u.bit (Reg.INT_STATUS Reg.pageAPPLY) 9 = true ∧
      s.errored u Reg.pageAPPLY code (Reg.APPLY_SLOT_CTRL n) (srcCode src) ∧
      (∀ p ∈ s.slotPages n, u.bit (Reg.SHADOW_CTRL p) 3 = true ∧ u.bit (Reg.INT_STATUS p) 3 = true) ∧
      s.regsBut u ([Reg.APPLY_SLOT_STATUS n, Reg.APPLY_SLOT_REFUSED] ++ errorKeys Reg.pageAPPLY ++
        (s.slotPages n).map Reg.SHADOW_CTRL ++ (s.slotPages n).map Reg.INT_STATUS) ∧ { u with regs := s.regs } = s) ∧
  (∀ (src : Req) (n : Fin 32) (s : State), s.cutOff src = false → isHost src = false ∨ n.val < 24 →
      slotLive (s.slotSt n) = false → s.slotRefusal src n = none → s.pairMode = false →
    ∃ u : State, exec (.slotArm src n) s = .next u ∧
      u.slotSt n = 1 ∧ u.rdF (Reg.APPLY_SLOT_STATUS n) 23 8 = 0 ∧
      u.slot n = { late := decide (ldiff (s.slotTarget n) s.nextLine < 0) } ∧
      (∀ p ∈ s.slotPages n, u.bit (Reg.SHADOW_CTRL p) 2 = false ∧ u.bit (Reg.SHADOW_CTRL p) 3 = false) ∧
      s.regsBut u ([Reg.APPLY_SLOT_STATUS n] ++ (s.slotPages n).map Reg.SHADOW_CTRL) ∧
      { u with regs := s.regs, slots := s.slots } = s) ∧
  (∀ (src : Req) (n : Fin 32) (s : State), s.cutOff src = false → isHost src = false ∨ n.val < 24 →
      s.slotSt n = 1 ∨ s.slotSt n = 7 → s.pairMode = false →
    ∃ u : State, exec (.slotCancel src n) s = .next u ∧
      u.slotSt n = 6 ∧ u.rdF (Reg.APPLY_SLOT_STATUS n) 31 8 = s.rdF (Reg.APPLY_SLOT_STATUS n) 31 8 ∧
      s.regsBut u [Reg.APPLY_SLOT_STATUS n] ∧ { u with regs := s.regs } = s) ∧
  (∀ (src : Req) (n : Fin 32) (s : State), s.cutOff src = false → isHost src = false ∨ n.val < 24 →
      s.writeGate src = none → s.slotSt n = 2 ∨ s.slotSt n = 3 →
    ∃ u : State, exec (.slotCancel src n) s = .next u ∧
      s.errored u Reg.pageAPPLY 0x0106 (Reg.APPLY_SLOT_CTRL n) (srcCode src) ∧ s.regsBut u (errorKeys Reg.pageAPPLY) ∧
      { u with regs := s.regs } = s) ∧
  (∀ (n : Fin 32) (s : State), s.runSt ≠ 2 ∨ s.slotDue n s.nextLine = false →
    exec (.slotApply n) s = .next s) ∧
  (∀ (n : Fin 32) (s : State), s.runSt = 2 → s.slotDue n s.nextLine = true → (s.slot n).fromLine = none →
      (s.slot n).late = false → s.nextLine = s.slotTarget n → s.slotRamp n ≠ 1 → s.slotAction n ≠ 4 →
    ∃ u : State, exec (.slotApply n) s = .next u ∧
      u.slotSt n = 2 ∧ u.rdF (Reg.APPLY_SLOT_STATUS n) 23 8 = 0 ∧ (u.slot n).startLine = s.nextLine ∧ u.scr = s.scr ∧
      s.regsBut u [Reg.APPLY_SLOT_STATUS n] ∧ { u with regs := s.regs, slots := s.slots } = s) ∧
  (∀ (n : Fin 32) (s : State), s.runSt = 2 → s.slotDue n s.nextLine = true → (s.slot n).fromLine = none →
      (s.slot n).late = true ∨ s.slotTarget n ≠ s.nextLine → s.slotRamp n ≠ 1 → s.slotAction n = 1 →
    ∃ u : State, exec (.slotApply n) s = .next u ∧
      u.slotSt n = 2 ∧ u.rdF (Reg.APPLY_SLOT_STATUS n) 23 8 = 0x0107 ∧ u.bit Reg.APPLY_SLOT_LATE n = true ∧
      u.bit (Reg.INT_STATUS Reg.pageAPPLY) 10 = true ∧
      (∀ p ∈ s.slotPages n, u.bit (Reg.SHADOW_CTRL p) 2 = true ∧ u.bit (Reg.INT_STATUS p) 2 = true) ∧
      s.regsBut u ([Reg.APPLY_SLOT_STATUS n, Reg.APPLY_SLOT_LATE, Reg.INT_STATUS Reg.pageAPPLY] ++
        (s.slotPages n).map Reg.SHADOW_CTRL ++ (s.slotPages n).map Reg.INT_STATUS) ∧
      { u with regs := s.regs, slots := s.slots } = s) ∧
  (∀ (n : Fin 32) (s : State), s.slotSt n = 2 → (s.slotRamp n : Int) ≤ ldiff s.nextLine (s.slot n).startLine →
      isBankAction (s.slotAction n) = true →
    ∃ u : State, exec (.rampEnd n) s = .next u ∧
      u.slotSt n = 3 ∧ u.scr = s.scr.swap (s.slotAction n) (s.slotTargets n) ∧
      s.regsBut u ([Reg.APPLY_SLOT_STATUS n] ++ (List.range 128).map Reg.CH_SCREEN_STATE ++
        planes.map Reg.PLANE_KERF_GEN) ∧ { u with regs := s.regs, scr := s.scr } = s) ∧
  (∀ (n : Fin 32) (s : State), s.slotSt n = 2 → (s.slotRamp n : Int) ≤ ldiff s.nextLine (s.slot n).startLine →
      s.slotAction n = 4 →
    ∃ u : State, exec (.rampEnd n) s = .next u ∧
      u.slotSt n = 4 ∧ (∀ c ∈ s.slotChannels n, u.rd (Reg.CH_DELAY_TAPS c) = s.shadowOf (Reg.CH_DELAY_TAPS c)) ∧
      u.bit Reg.APPLY_SLOT_DONE n = true ∧ u.bit (Reg.INT_STATUS Reg.pageAPPLY) 8 = true ∧
      s.regsBut u ([Reg.APPLY_SLOT_STATUS n, Reg.APPLY_SLOT_DONE, Reg.INT_STATUS Reg.pageAPPLY] ++
        (s.slotPages n).map Reg.SHADOW_CTRL ++ (s.slotPages n).map Reg.INT_STATUS ++
        (s.slotChannels n).map Reg.CH_DELAY_TAPS) ∧ { u with regs := s.regs, pair := s.pair } = s) ∧
  (∀ (n : Fin 32) (s : State), s.slotSt n ≠ 2 →
    exec (.rampEnd n) s = .next s) ∧
  (∀ (n : Fin 32) (s : State), s.slotSt n = 3 →
    ∃ u : State, exec (.bankCopyDone n) s = .next u ∧
      u.slotSt n = 4 ∧ u.scr = s.scr.sync (s.slotAction n) (s.slotTargets n) ∧ u.bit Reg.APPLY_SLOT_DONE n = true ∧
      u.rdF (Reg.APPLY_SLOT_STATUS n) 31 24 = (s.rdF (Reg.APPLY_SLOT_STATUS n) 31 24 + 1) % 256 ∧
      u.bit (Reg.INT_STATUS Reg.pageAPPLY) 8 = true ∧
      s.regsBut u [Reg.APPLY_SLOT_STATUS n, Reg.APPLY_SLOT_DONE, Reg.INT_STATUS Reg.pageAPPLY] ∧
      { u with regs := s.regs, scr := s.scr, pair := s.pair } = s)

/-- Asking for a handover or a retirement, and digest records. HANDOVER and RETIRE outside the pair modes and during
a pending change are errors; without a partner that can agree the request is REFUSED; a leader agrees it at the
next line and GUARD lines on and tells its partner; a follower asks its leader. A digest record of the partner
is kept, and one that differs makes the tile invalid. Spec: 11_pair_and_ring.md, 04_job_memory.md. -/
def Obligations.ChangeCommands : Prop :=
  (∀ (src : Req) (s : State), s.cutOff src = false → s.pairMode = false →
    ∃ u : State, exec (.handoverRequest src) s = .next u ∧
      s.errored u Reg.pagePAIR 0x0101 Reg.PAIR_PAIR_CTRL (srcCode src) ∧ s.regsBut u (errorKeys Reg.pagePAIR) ∧
      { u with regs := s.regs } = s) ∧
  (∀ (src : Req) (s : State), s.cutOff src = false → s.pairMode = true → s.changePending = true →
    ∃ u : State, exec (.handoverRequest src) s = .next u ∧
      s.errored u Reg.pagePAIR 0x0103 Reg.PAIR_PAIR_CTRL (srcCode src) ∧ s.regsBut u (errorKeys Reg.pagePAIR) ∧
      { u with regs := s.regs } = s) ∧
  (∀ (src : Req) (s : State), s.cutOff src = false → s.pairMode = true → s.changePending = false →
      s.canChange = false →
    ∃ u : State, exec (.handoverRequest src) s = .next u ∧
      u.rdF Reg.PAIR_HANDOVER_STATUS 2 0 = 3 ∧ u.bit Reg.PAIR_HANDOVER_STATUS 3 = false ∧
      (u.rdF Reg.PAIR_HANDOVER_STATUS 5 4 = if isHost src = true then 0 else 1) ∧
      s.regsBut u [Reg.PAIR_HANDOVER_STATUS] ∧ { u with regs := s.regs } = s) ∧
  (∀ (src : Req) (s : State), s.cutOff src = false → s.changePending = false → s.canChange = true → s.leads = true →
    ∃ u : State, exec (.handoverRequest src) s = .next u ∧
      u.rdF Reg.PAIR_HANDOVER_STATUS 2 0 = 1 ∧ u.bit Reg.PAIR_HANDOVER_STATUS 3 = false ∧
      u.rd Reg.PAIR_HANDOVER_LINE = ladd s.nextLine s.guard ∧
      u.pair.handover = some { retire := false, mine := true, line := ladd s.nextLine s.guard } ∧
      s.regsBut u [Reg.PAIR_HANDOVER_STATUS, Reg.PAIR_HANDOVER_LINE] ∧
      { u with regs := s.regs, pair := s.pair, ring := s.ring, out := s.out } = s) ∧
  (∀ (src : Req) (s : State), s.cutOff src = false → s.changePending = false → s.canChange = true → s.leads = false →
      s.stCode (Reg.pagePEER 2) = 4 →
    ∃ u : State, exec (.handoverRequest src) s = .next u ∧
      u.rdF Reg.PAIR_HANDOVER_STATUS 2 0 = 1 ∧
      u.out = s.out ++ [Out.peer 2 1 ((smGet (fun _ => 0) (s.peerPort 2).txSeq 1 + 1) % 65536) 0x30 [b2n false]] ∧
      s.regsBut u [Reg.PAIR_HANDOVER_STATUS] ∧ { u with regs := s.regs, ring := s.ring, out := s.out } = s) ∧
  (∀ (src : Req) (s : State), s.cutOff src = false → s.pairMode = false →
    ∃ u : State, exec (.retireRequest src) s = .next u ∧
      s.errored u Reg.pagePAIR 0x0101 Reg.PAIR_PAIR_CTRL (srcCode src) ∧ s.regsBut u (errorKeys Reg.pagePAIR) ∧
      { u with regs := s.regs } = s) ∧
  (∀ (src : Req) (s : State), s.cutOff src = false → s.pairMode = true → s.changePending = true →
    ∃ u : State, exec (.retireRequest src) s = .next u ∧
      s.errored u Reg.pagePAIR 0x0103 Reg.PAIR_PAIR_CTRL (srcCode src) ∧ s.regsBut u (errorKeys Reg.pagePAIR) ∧
      { u with regs := s.regs } = s) ∧
  (∀ (src : Req) (s : State), s.cutOff src = false → s.pairMode = true → s.changePending = false →
      s.canChange = false →
    ∃ u : State, exec (.retireRequest src) s = .next u ∧
      u.rdF Reg.PAIR_HANDOVER_STATUS 2 0 = 3 ∧ u.bit Reg.PAIR_HANDOVER_STATUS 3 = true ∧
      (u.rdF Reg.PAIR_HANDOVER_STATUS 5 4 = if isHost src = true then 0 else 1) ∧
      s.regsBut u [Reg.PAIR_HANDOVER_STATUS] ∧ { u with regs := s.regs } = s) ∧
  (∀ (src : Req) (s : State), s.cutOff src = false → s.changePending = false → s.canChange = true → s.leads = true →
    ∃ u : State, exec (.retireRequest src) s = .next u ∧
      u.rdF Reg.PAIR_HANDOVER_STATUS 2 0 = 1 ∧ u.bit Reg.PAIR_HANDOVER_STATUS 3 = true ∧
      u.rd Reg.PAIR_HANDOVER_LINE = ladd s.nextLine s.guard ∧
      u.pair.handover = some { retire := true, mine := true, line := ladd s.nextLine s.guard } ∧
      s.regsBut u [Reg.PAIR_HANDOVER_STATUS, Reg.PAIR_HANDOVER_LINE] ∧
      { u with regs := s.regs, pair := s.pair, ring := s.ring, out := s.out } = s) ∧
  (∀ (src : Req) (s : State), s.cutOff src = false → s.changePending = false → s.canChange = true → s.leads = false →
      s.stCode (Reg.pagePEER 2) = 4 →
    ∃ u : State, exec (.retireRequest src) s = .next u ∧
      u.rdF Reg.PAIR_HANDOVER_STATUS 2 0 = 1 ∧
      u.out = s.out ++ [Out.peer 2 1 ((smGet (fun _ => 0) (s.peerPort 2).txSeq 1 + 1) % 65536) 0x30 [b2n true]] ∧
      s.regsBut u [Reg.PAIR_HANDOVER_STATUS] ∧ { u with regs := s.regs, ring := s.ring, out := s.out } = s) ∧
  (∀ (r : DigestRec) (s : State), s.pairMode = false →
    exec (.tileDigestRecord r) s = .next s) ∧
  (∀ (plane : Fin 8) (row col crc : Nat) (s : State), s.pair.lost = true →
    exec (.tileDigestRecord (.peer plane row col crc)) s = .next s) ∧
  (∀ (plane : Fin 8) (row col crc k : Nat) (s : State), s.pairMode = true → s.pair.lost = false →
      k = tileKey plane row col → s.tileDigest k = none ∨ s.tileDigest k = some crc →
    ∃ u : State, exec (.tileDigestRecord (.peer plane row col crc)) s = .next u ∧
      u.partnerDigest k = some crc ∧ u.tileDigest k = s.tileDigest k ∧
      (∀ j, j ≠ k → u.partnerDigest j = s.partnerDigest j) ∧ { u with job := s.job } = s) ∧
  (∀ (plane : Fin 8) (row col crc k : Nat) (d : Nat) (s : State), s.pairMode = true → s.pair.lost = false →
      k = tileKey plane row col → s.tileDigest k = some d → d ≠ crc →
    ∃ u : State, exec (.tileDigestRecord (.peer plane row col crc)) s = .next u ∧
      u.partnerDigest k = none ∧ u.tileDigest k = none ∧
      u.rd Reg.JOB_DIGEST_MISMATCH_COUNT = satInc 32 (s.rd Reg.JOB_DIGEST_MISMATCH_COUNT) ∧
      u.rd Reg.JOB_DIGEST_LAST = (plane + col * 2 ^ 8) % 2 ^ 32 ∧ u.rd Reg.JOB_DIGEST_LAST_ROW = row % 2 ^ 32 ∧
      u.bit (Reg.INT_STATUS Reg.pageJOB) 10 = true ∧
      s.regsBut u [Reg.JOB_DIGEST_MISMATCH_COUNT, Reg.JOB_DIGEST_LAST, Reg.JOB_DIGEST_LAST_ROW,
        Reg.INT_STATUS Reg.pageJOB, Reg.JOB_STREAM_RELEASE_ROW, Reg.JOB_STREAM_WRITE_ROW, Reg.JOB_STREAM_CREDITS] ∧
      { u with regs := s.regs, job := s.job } = s) ∧
  (∀ (m : LookoutMsg) (s : State), s.pairMode = true → m.isType 0x11 = true →
      s.lookoutOk m s.pair.partnerSeq = false →
    ∃ u : State, exec (.tileDigestRecord (.net m)) s = .next u ∧
      u.rdF Reg.PAIR_LOOKOUT_COUNT 15 0 = satInc 16 (s.rdF Reg.PAIR_LOOKOUT_COUNT 15 0) ∧
      u.bit (Reg.INT_STATUS Reg.pagePAIR) 12 = true ∧
      s.regsBut u ([Reg.PAIR_LOOKOUT_COUNT, Reg.INT_STATUS Reg.pagePAIR] ++ tallyKeys) ∧
      { u with regs := s.regs, mgmt := s.mgmt } = s) ∧
  (∀ (m : LookoutMsg) (k : Nat) (s : State), s.pairMode = true → s.pair.lost = false → m.isType 0x11 = true →
      s.lookoutOk m s.pair.partnerSeq = true → m.field 40 1 < 8 →
      k = tileKey (m.field 40 1) (m.field 44 4) (m.field 41 1 % 64) →
      s.tileDigest k = none ∨ s.tileDigest k = some (m.field 48 4) →
    ∃ u : State, exec (.tileDigestRecord (.net m)) s = .next u ∧
      u.partnerDigest k = some (m.field 48 4) ∧ u.tileDigest k = s.tileDigest k ∧
      (∀ j, j ≠ k → u.partnerDigest j = s.partnerDigest j) ∧ u.pair = { s.pair with partnerSeq := some m.seq } ∧
      { u with job := s.job, pair := s.pair } = s)

/-- Encoders, loss of signal and slip. A decoded edge of an enabled input counts unless its pulse is shorter than
FILTER; a reversal is counted back before lines go on; a line passes when the phase reaches CPL. LOSS_OF_SIGNAL
and LOS_CLEAR change the LOS bits, AUTO switches to ENC1, and the loss of the source in use ends a run that
prints (the reading of log 82); a slip window closes with its last line and SLIP_WINDOW records the slip of R74.
Spec: 03_line_engine.md. -/
def Obligations.EncoderCommands : Prop :=
  (∀ (e : Fin 2) (fwd : Bool) (tenths t : Nat) (s : State), s.encOn e = false ∨ tenths < 25 * s.rdF (encCfg e) 11 8 →
    exec (.encoderCount e fwd tenths t) s = .next (s.till t)) ∧
  (∀ (e : Fin 2) (fwd : Bool) (tenths t : Nat) (s : State), s.encOn e = true → 25 * s.rdF (encCfg e) 11 8 ≤ tenths →
      fwd ≠ s.bit (encCfg e) 1 → (s.enc e).behind = 0 → (s.enc e).phase + 65536 < s.cpl e →
    ∃ u : State, exec (.encoderCount e fwd tenths t) s = .next u ∧
      u.rd (if e.val = 0 then Reg.ENC_COUNT0 else Reg.ENC_COUNT1) = ladd (s.rd (if e.val =
        0 then Reg.ENC_COUNT0 else Reg.ENC_COUNT1)) 1 ∧ (u.enc e).phase = (s.enc e).phase + 65536 ∧
      ((u.enc e).window = if (s.los 0 || s.los 1) = true then (s.enc e).window else (s.enc e).window + 65536) ∧
      u.line.due = s.line.due ∧ s.regsBut u [(if e.val = 0 then Reg.ENC_COUNT0 else Reg.ENC_COUNT1)] ∧
      { u with regs := s.regs, frc := s.frc, line := s.line } = s) ∧
  (∀ (e : Fin 2) (fwd : Bool) (tenths t : Nat) (s : State), s.encOn e = true → 25 * s.rdF (encCfg e) 11 8 ≤ tenths →
      fwd ≠ s.bit (encCfg e) 1 → (s.enc e).behind = 0 → s.cpl e ≤ (s.enc e).phase + 65536 → s.sourceInUse = e.val →
      s.ringMode = false → s.line.due = [] → s.line.lastSource = none →
    ∃ u : State, exec (.encoderCount e fwd tenths t) s = .next u ∧
      (u.enc e).phase = (s.enc e).phase + 65536 - s.cpl e ∧ u.line.due = [t] ∧
      s.regsBut u [(if e.val = 0 then Reg.ENC_COUNT0 else Reg.ENC_COUNT1)] ∧
      { u with regs := s.regs, frc := s.frc, line := s.line } = s) ∧
  (∀ (e : Fin 2) (fwd : Bool) (tenths t : Nat) (s : State), s.encOn e = true → 25 * s.rdF (encCfg e) 11 8 ≤ tenths →
      fwd ≠ s.bit (encCfg e) 1 → 0 < (s.enc e).behind →
    ∃ u : State, exec (.encoderCount e fwd tenths t) s = .next u ∧
      u.rd (if e.val = 0 then Reg.ENC_COUNT0 else Reg.ENC_COUNT1) = ladd (s.rd (if e.val =
        0 then Reg.ENC_COUNT0 else Reg.ENC_COUNT1)) 1 ∧ (u.enc e).behind = (s.enc e).behind - 65536 ∧
      (u.enc e).phase = (s.enc e).phase ∧ u.line.due = s.line.due ∧
      ((u.enc e).behind = 0 → u.bit Reg.ENC_ENC_STATUS (2 + e) = false) ∧
      s.regsBut u [(if e.val = 0 then Reg.ENC_COUNT0 else Reg.ENC_COUNT1), Reg.ENC_ENC_STATUS] ∧
      { u with regs := s.regs, frc := s.frc, line := s.line } = s) ∧
  (∀ (e : Fin 2) (fwd : Bool) (tenths t : Nat) (s : State), s.encOn e = true → 25 * s.rdF (encCfg e) 11 8 ≤ tenths →
      fwd = s.bit (encCfg e) 1 →
    ∃ u : State, exec (.encoderCount e fwd tenths t) s = .next u ∧
      u.rd (if e.val = 0 then Reg.ENC_COUNT0 else Reg.ENC_COUNT1) = ladd (s.rd (if e.val =
        0 then Reg.ENC_COUNT0 else Reg.ENC_COUNT1)) (-1) ∧ (u.enc e).behind = (s.enc e).behind + 65536 ∧
      (u.enc e).phase = (s.enc e).phase ∧ u.line.due = s.line.due ∧
      (s.rdF Reg.ENC_REVERSE_LIMIT 23 0 * 65536 < (s.enc e).behind + 65536 → u.bit Reg.ENC_ENC_STATUS (2 + e) =
        true) ∧
      (s.rdF Reg.ENC_REVERSE_LIMIT 23 0 * 65536 < (s.enc e).behind + 65536 → s.bit Reg.ENC_ENC_STATUS (2 + e) =
        false → u.bit (Reg.INT_STATUS Reg.pageENC) 11 = true) ∧
      s.regsBut u [(if e.val = 0 then Reg.ENC_COUNT0 else Reg.ENC_COUNT1), Reg.ENC_ENC_STATUS,
        Reg.INT_STATUS Reg.pageENC] ∧ { u with regs := s.regs, frc := s.frc, line := s.line } = s) ∧
  (∀ (e : Fin 2) (t : Nat) (s : State), (s.till t).los e = true →
    exec (.lossOfSignal e t) s = .next (s.till t)) ∧
  (∀ (e : Fin 2) (t : Nat) (s : State), s.los e = false → s.rdF Reg.ENC_SOURCE 2 0 ≠ 2 → s.printing = false →
    ∃ u : State, exec (.lossOfSignal e t) s = .next u ∧
      u.bit Reg.ENC_ENC_STATUS e = true ∧ u.bit (Reg.INT_STATUS Reg.pageENC) (8 + e) = true ∧
      u.line.enc0 = { s.line.enc0 with window := 0 } ∧ u.line.enc1 = { s.line.enc1 with window := 0 } ∧
      s.regsBut u [Reg.ENC_ENC_STATUS, Reg.INT_STATUS Reg.pageENC] ∧
      { u with regs := s.regs, frc := s.frc, line := s.line } = s) ∧
  (∀ (t : Nat) (s : State), s.los 0 = false → s.los 1 = false → s.rdF Reg.ENC_SOURCE 2 0 = 2 →
      s.line.autoSwitched = false →
    ∃ u : State, exec (.lossOfSignal 0 t) s = .next u ∧
      u.line.autoSwitched = true ∧ u.sourceInUse = 1 ∧ u.bit (Reg.INT_STATUS Reg.pageENC) 8 = true ∧
      u.bit (Reg.INT_STATUS Reg.pageENC) 12 = true ∧ u.rdF Reg.ENC_ENC_STATUS 10 8 = 1 ∧
      s.regsBut u [Reg.ENC_ENC_STATUS, Reg.INT_STATUS Reg.pageENC, Reg.STATUS Reg.pageENC] ∧
      { u with regs := s.regs, frc := s.frc, line := s.line } = s) ∧
  (∀ (e : Fin 2) (t : Nat) (s : State), s.los e = false → s.printing = true → s.rdF Reg.ENC_SOURCE 2 0 = e.val →
    ∃ u : State, exec (.lossOfSignal e t) s = .next u ∧
      u.runSt = 0 ∧ u.bit (Reg.INT_STATUS Reg.pageLINE) 9 = true ∧ u.line.prod = []) ∧
  (∀ (e : Fin 2) (s : State), s.encOn e = true → s.rdF Reg.ENC_SOURCE 2 0 ≠ 2 →
    ∃ u : State, exec (.losClear e) s = .next u ∧
      u.bit Reg.ENC_ENC_STATUS e = false ∧ s.regsBut u [Reg.ENC_ENC_STATUS] ∧ { u with regs := s.regs } = s) ∧
  (∀ (e : Fin 2) (s : State), s.encOn e = false →
    exec (.losClear e) s = .next s) ∧
  (∀ (v w0 w1 : Int) (s : State), s.line.slipDone = some (w0, w1) →
      v =
      roundAway (10000 * (w0 * atLeast1 (s.cpl 1) - w1 * atLeast1 (s.cpl 0))) (atLeast1 (s.cpl 0) * atLeast1 (s.cpl 1) * atLeast1 (s.rdF Reg.ENC_SLIP_CFG 15 0)) →
    ∃ u : State, exec (.slipWindow) s = .next u ∧
      u.rd Reg.ENC_SLIP_VALUE = satSgn 32 v ∧
      u.bit Reg.ENC_ENC_STATUS 4 = decide (s.rdF Reg.ENC_SLIP_CFG 27 16 < v.natAbs) ∧
      (s.rdF Reg.ENC_SLIP_CFG 27 16 < v.natAbs → u.bit (Reg.INT_STATUS Reg.pageENC) 10 = true) ∧
      u.line = { s.line with slipDone := none } ∧
      s.regsBut u [Reg.ENC_SLIP_VALUE, Reg.ENC_ENC_STATUS, Reg.INT_STATUS Reg.pageENC] ∧
      { u with regs := s.regs, line := s.line } = s) ∧
  (∀ s : State, s.line.slipDone = none →
    exec (.slipWindow) s = .next s) ∧
  (∀ s : State, s.los 0 = false → s.los 1 = false → atLeast1 (s.rdF Reg.ENC_SLIP_CFG 15 0) ≤ s.line.slipLines + 1 →
    ∃ u : State, s.slipLine = u ∧
      u.line.slipDone = some (s.line.enc0.window, s.line.enc1.window) ∧ u.line.slipLines = 0 ∧
      u.line.enc0 = { s.line.enc0 with window := 0 } ∧ u.line.enc1 = { s.line.enc1 with window := 0 } ∧
      { u with line := s.line } = s) ∧
  (∀ s : State, s.los 0 = false → s.los 1 = false → s.line.slipLines + 1 < atLeast1 (s.rdF Reg.ENC_SLIP_CFG 15 0) →
    ∃ u : State, s.slipLine = u ∧
      u.line = { s.line with slipLines := s.line.slipLines + 1 } ∧ { u with line := s.line } = s) ∧
  (∀ (t : Nat) (s : State), s.sourceInUse ≠ 3 ∨ (s.till t).frc * 256 < s.line.vencOrigin + s.rd Reg.ENC_VENC_PERIOD →
    exec (.virtualTick t) s = .next (s.till t)) ∧
  (∀ (t : Nat) (e : Nat) (s : State), s.sourceInUse = 3 → e = s.line.vencOrigin + s.rd Reg.ENC_VENC_PERIOD →
      e ≤ (s.till t).frc * 256 → s.ringMode = false → s.line.due = [] → s.line.lastSource = none →
    ∃ u : State, exec (.virtualTick t) s = .next u ∧
      u.line.due = [(e + 255) / 256] ∧ u.line.vencOrigin = e ∧ u.frc = max s.frc t % 2 ^ 64 ∧
      { u with frc := s.frc, line := s.line } = s)

/-- Arming, starting and ending a run. RUN_ARM in order of its checks; an accepted arm reads ARMED in PRINT with
ADMIT_LINE at START_LINE; RUN_START puts CURRENT_LINE LOOKAHEAD + 1 lines before it; RUN_DRAIN enters DRAINING
with the last admitted line as the final one, and ends an armed run; DRAIN_TIMEOUT ends a run whose ticks are
lost. Spec: 03_line_engine.md, 18_startup_operation.md. -/
def Obligations.RunCommands : Prop :=
  (∀ (src : Req) (s : State), s.cutOff src = false → s.writeGate src = none → s.modState ≠ 4 →
    ∃ u : State, exec (.runArm src) s = .next u ∧
      s.errored u Reg.pageLINE 0x0103 Reg.LINE_RUN_CTRL (srcCode src) ∧ s.regsBut u (errorKeys Reg.pageLINE) ∧
      { u with regs := s.regs } = s) ∧
  (∀ (src : Req) (s : State), s.cutOff src = false → s.writeGate src = none → s.modState = 4 → s.pwr.stopIn = true →
    ∃ u : State, exec (.runArm src) s = .next u ∧
      s.errored u Reg.pageLINE 0x0104 Reg.LINE_RUN_CTRL (srcCode src) ∧ s.regsBut u (errorKeys Reg.pageLINE) ∧
      { u with regs := s.regs } = s) ∧
  (∀ (src : Req) (code : Nat) (s : State), s.cutOff src = false → s.writeGate src = none → s.modState = 4 →
      s.pwr.stopIn = false → s.jobRefusal = some code →
    ∃ u : State, exec (.runArm src) s = .next u ∧
      s.errored u Reg.pageJOB code 0x040 (srcCode src) ∧ s.regsBut u (errorKeys Reg.pageJOB) ∧
      { u with regs := s.regs } = s) ∧
  (∀ (src : Req) (s : State), s.cutOff src = false → s.writeGate src = none → s.modState = 4 → s.pwr.stopIn = false →
      s.jobRefusal = none → s.stripPeriodOk = true → s.ringMode = false → s.pairMode = false → src ≠ .peer →
      s.bit (Reg.SHADOW_CTRL Reg.pageENC) 1 = false →
    ∃ u : State, exec (.runArm src) s = .next u ∧
      u.runSt = 1 ∧ u.modState = 5 ∧ u.rdF Reg.SYS_MODULE_STATE 5 4 = 1 ∧ u.line.runNum = (s.line.runNum + 1) % 256 ∧
      u.line.startLine = s.rd Reg.LINE_START_LINE ∧ u.line.stopLine = s.rd Reg.LINE_STOP_LINE ∧
      u.line.runCfg = s.rd Reg.LINE_RUN_CFG ∧ u.nextLine = s.rd Reg.LINE_START_LINE ∧
      u.rd Reg.JOB_MAX_OFFSET = s.maxOffset ∧ u.splices = [] ∧ u.bit (Reg.INT_STATUS Reg.pageSYS) 8 = true) ∧
  (∀ (src : Req) (s : State), s.cutOff src = false → s.writeGate src = none → s.runSt = 1 →
      fld s.line.runCfg 1 0 = 0 → s.ringMode = false → s.pairMode = false → s.sourceLost = false →
    ∃ u : State, exec (.runStart src) s = .next u ∧
      u.runSt = 2 ∧ u.rd Reg.LINE_CURRENT_LINE = ladd s.line.startLine (-(s.rdF Reg.LINE_LOOKAHEAD 5 0 : Int) - 1) ∧
      u.bit (Reg.INT_STATUS Reg.pageLINE) 8 = true ∧ u.line.runTicks = 0 ∧
      s.regsBut u ([Reg.LINE_CURRENT_LINE, Reg.STATUS Reg.pageLINE, Reg.INT_STATUS Reg.pageLINE,
        Reg.SYS_MODULE_STATE] ++ planes.map (fun p => Reg.STATUS (Reg.pagePLANE p))) ∧
      { u with regs := s.regs, line := s.line, ring := s.ring } = s) ∧
  (∀ (src : Req) (s : State), s.cutOff src = false → s.writeGate src = none → s.runSt = 1 →
      fld s.line.runCfg 1 0 = 0 → s.ringMode = false → s.pairMode = false → s.sourceLost = true →
    ∃ u : State, exec (.runStart src) s = .next u ∧
      u.runSt = 0 ∧ u.bit (Reg.INT_STATUS Reg.pageLINE) 9 = true ∧ u.line.prod = []) ∧
  (∀ (src : Req) (s : State), s.cutOff src = false → s.writeGate src = none →
      s.runSt ≠ 1 ∨ fld s.line.runCfg 1 0 ≠ 0 →
    exec (.runStart src) s = .next s) ∧
  (∀ (src : Req) (s : State), s.cutOff src = false → s.writeGate src = none → s.runSt = 2 → s.pairMode = false →
      0 < ldiff (ladd s.nextLine (-1)) (s.rd Reg.LINE_CURRENT_LINE) → 0 ≤ ldiff (ladd s.nextLine (-1)) s.line.startLine →
    ∃ u : State, exec (.runDrain src) s = .next u ∧
      u.runSt = 3 ∧ u.line.finalLine = some (ladd s.nextLine (-1)) ∧ u.line.drainSince = s.frc ∧
      u.line.prod = s.line.prod ∧
      s.regsBut u ([Reg.STATUS Reg.pageLINE, Reg.SYS_MODULE_STATE] ++
        planes.map (fun p => Reg.STATUS (Reg.pagePLANE p))) ∧ { u with regs := s.regs, line := s.line } = s) ∧
  (∀ (src : Req) (s : State), s.cutOff src = false → s.writeGate src = none → s.runSt = 1 → s.pairMode = false →
    ∃ u : State, exec (.runDrain src) s = .next u ∧
      u.runSt = 0 ∧ u.bit (Reg.INT_STATUS Reg.pageLINE) 9 = true ∧ u.line.prod = [] ∧ u.line.finalLine = none) ∧
  (∀ (t : Nat) (s : State), s.runSt = 3 → msClk 1000 ≤ (s.till t).since s.line.drainSince →
    ∃ u : State, exec (.drainTimeout t) s = .next u ∧
      u.runSt = 0 ∧ u.bit (Reg.INT_STATUS Reg.pageLINE) 9 = true ∧ u.line.prod = []) ∧
  (∀ (t : Nat) (s : State), s.runSt ≠ 3 ∨ (s.till t).since s.line.drainSince < msClk 1000 →
    exec (.drainTimeout t) s = .next (s.till t))

/-- The tick, queued frames and the advised rate. LINE_TICK outside a run records its instant and interval; in
DRAINING before the final line it moves CURRENT_LINE on and sends TICK, with two free SLIP values drawn;
FRAME_QUEUED sends the frames of a line whose planes are complete and whose earlier lines are queued;
ADVICE_RECOMPUTE puts the smallest limit in force at once when it falls, and zero outside READY and PRINT. Spec:
03_line_engine.md. -/
def Obligations.TickCommands : Prop :=
  (∀ (t d : Nat) (s : State), s.printing = false → s.pairMode = false → s.line.due = [d] → d ≤ (s.till t).frc →
      s.line.lastSource = none →
    ∃ u : State, exec (.lineTick t) s = .next u ∧
      u.line.due = [] ∧ u.line.lastSource = some d ∧ u.rd64 Reg.LINE_TICK_FRC_LO Reg.LINE_TICK_FRC_HI = d % 2 ^ 64 ∧
      s.regsBut u ([Reg.LINE_TICK_FRC_LO, Reg.LINE_TICK_FRC_HI] ++ doseKeys) ∧
      { u with regs := s.regs, frc := s.frc, line := s.line, lamp := s.lamp, out := s.out } = s) ∧
  (∀ (t d l : Nat) (s : State), s.printing = false → s.pairMode = false → s.line.due = [d] → d ≤ (s.till t).frc →
      s.line.lastSource = some l →
    ∃ u : State, exec (.lineTick t) s = .next u ∧
      u.line.due = [] ∧
      u.rd Reg.LINE_PERIOD = min (2 ^ 32 - 1) (d - s.rd64 Reg.LINE_TICK_FRC_LO Reg.LINE_TICK_FRC_HI) ∧
      u.line.intervals = (u.rd Reg.LINE_PERIOD :: s.line.intervals).take 64 ∧
      u.rd64 Reg.LINE_TICK_FRC_LO Reg.LINE_TICK_FRC_HI = d % 2 ^ 64 ∧
      s.regsBut u ([Reg.LINE_TICK_FRC_LO, Reg.LINE_TICK_FRC_HI, Reg.LINE_PERIOD, Reg.LINE_PERIOD_AVG] ++ doseKeys) ∧
      { u with regs := s.regs, frc := s.frc, line := s.line, lamp := s.lamp, out := s.out } = s) ∧
  (∀ (t d n : Nat) (s : State), s.runSt = 3 → s.pairMode = false → s.line.due = [d] → d ≤ (s.till t).frc →
      s.line.lastSource = none → n = ladd (s.rd Reg.LINE_CURRENT_LINE) 1 → s.line.finalLine ≠ some n →
      0 ≤ ldiff n s.line.startLine → s.line.prod = [] →
    ∃ u : State, exec (.lineTick t) s = .next u ∧
      u.rd Reg.LINE_CURRENT_LINE = n ∧
      (u.line.lastTickLine = if s.lineChans = [] then s.line.lastTickLine else some n) ∧ u.runSt = 3 ∧
      u.freeCount = s.freeCount + 2 ∧
      s.out ++ s.lineChans.flatMap (fun c => [Out.block c (tickBlock n (if s.laneHalf c =
        true then s.drew.free % 34 else s.free % 17)), s.coded c true [(controlHeader, tickBlock n (if s.laneHalf c =
        true then s.drew.free % 34 else s.free % 17))]]) <+: u.out ∧
      s.regsBut u ([Reg.LINE_TICK_FRC_LO, Reg.LINE_TICK_FRC_HI, Reg.LINE_CURRENT_LINE,
        Reg.INT_STATUS Reg.pageLINE] ++ doseKeys) ∧
      { u with regs := s.regs, frc := s.frc, line := s.line, tio := s.tio, lamp := s.lamp, lanes := s.lanes, out := s.out, freeCount := s.freeCount } =
        s) ∧
  (∀ (t : Nat) (s : State), s.line.due ≠ [] → (∀ d ∈ s.line.due, (s.till t).frc < d) →
    exec (.lineTick t) s = .next (s.till t)) ∧
  (∀ (line t : Nat) (p : ProdLine) (s : State), s.line.prod.find? (fun p => p.line == line) = some p →
      p.queued = false → s.line.prod.any (fun q => decide (ldiff q.line line < 0) && !q.queued) = false → p.recomp = [] →
      p.chans.Nodup → s.enabledPlanes.all p.planes.contains = true → s.line.runIntervals = 0 →
    ∃ u : State, exec (.frameQueued line t) s = .next u ∧
      u.out = s.out ++ p.chans.flatMap (fun c => [Out.frame c (s.frameOf p c),
        s.coded c false (withHeaders (s.frameOf p c))]) ∧
      u.line.prod = s.line.prod.map (fun q => if q.line == line then { q with queued := true } else q) ∧
      { u with frc := s.frc, line := s.line, lanes := s.lanes, out := s.out } = s) ∧
  (∀ (line t : Nat) (s : State), s.line.prod.find? (fun p => p.line == line) = none →
    exec (.frameQueued line t) s = .next (s.till t)) ∧
  (∀ (t : Nat) (s : State), s.modState ≠ 4 → s.modState ≠ 5 →
    ∃ u : State, exec (.adviceRecompute t) s = .next u ∧
      u.rd Reg.LINE_SPEED_ADVICE = 0 ∧ u.line.advHeld = [] ∧
      (s.rdF Reg.LINE_SPEED_ADVICE 16 0 ≠ 0 → u.bit (Reg.INT_STATUS Reg.pageLINE) 13 = true) ∧
      (s.rdF Reg.LINE_SPEED_ADVICE 16 0 ≠ 0 → u.out = s.out ++ [Out.wave 0x20 0]) ∧
      s.regsBut u ([Reg.LINE_SPEED_ADVICE, Reg.INT_STATUS Reg.pageLINE, Reg.YARD_RATE_IN, Reg.LAMP_LAMP_LIMIT 0,
        Reg.LAMP_LAMP_LIMIT 1, Reg.LAMP_LAMP_LIMIT 2, Reg.LAMP_LAMP_LIMIT 3] ++ doseKeys) ∧
      { u with regs := s.regs, frc := s.frc, line := s.line, job := s.job, out := s.out } = s) ∧
  (∀ (t r : Nat) (s : State), s.modState = 4 → r = ((s.till t).measureFeed.limits.map (·.1)).foldl min 80000 →
      r ≤ s.rdF Reg.LINE_SPEED_ADVICE 16 0 →
    ∃ u : State, exec (.adviceRecompute t) s = .next u ∧
      u.rdF Reg.LINE_SPEED_ADVICE 16 0 = r ∧ u.line.advHeld = [] ∧
      (∀ g ∈ [0, 1, 2, 3], u.rd (Reg.LAMP_LAMP_LIMIT g) = s.lampLimit g % 2 ^ 32) ∧
      s.regsBut u ([Reg.LINE_SPEED_ADVICE, Reg.INT_STATUS Reg.pageLINE, Reg.YARD_RATE_IN, Reg.LAMP_LAMP_LIMIT 0,
        Reg.LAMP_LAMP_LIMIT 1, Reg.LAMP_LAMP_LIMIT 2, Reg.LAMP_LAMP_LIMIT 3] ++ doseKeys) ∧
      { u with regs := s.regs, frc := s.frc, line := s.line, job := s.job, out := s.out } = s) ∧
  (∀ s : State, s.pageDue Reg.pageLINE s.nextLine = false → s.pageDue Reg.pageENC s.nextLine = false →
      s.pageDue Reg.pageJOB s.nextLine = false → (∀ n ∈ List.range 32, s.slotDue n s.nextLine = false) →
      (∀ n ∈ List.range 32, s.slotSt n ≠ 2) → s.streaming = false → s.runOver s.nextLine = false → s.pair.resumeAt = [] →
      s.colour = {} →
    ∃ u : State, s.admitLine = u ∧
      u.nextLine = ladd s.nextLine 1 ∧ u.line.prod.length = s.line.prod.length + 1 ∧
      (∀ p ∈ u.line.prod.drop s.line.prod.length, p.line = s.nextLine ∧ p.admitFrc = s.frc ∧ p.slots = s.slots ∧
        p.queued = false) ∧ u.runSt = s.runSt)

/-- Arming and disarming timers, capture plans, and reading and converting time. An arm of a live timer has no
effect; a refused arm sets REFUSED and records its code; a target ahead arms the timer; a past target sets LATE,
counts, and acts by the policy in effect. DISARM returns a live timer to IDLE unless its event is due; PLAN_PUSH
appends an entry of 100 to 1,048,575 ns to a queue of sixteen; PLAN_FLUSH empties it. NOW_READ answers the low
word of module time, latches the high word and stores the fraction; a conversion forms the 64-bit input from the
latch and the written high word and puts FRC to module time, or module time to FRC, under the model in force
into CONV_OUT. Spec: 12_time_network.md. -/
def Obligations.TimersAndTime : Prop :=
  (∀ (src : Req) (n : Fin 16) (t : Nat) (s : State), s.cutOff src = false → s.timerLive n = true →
    exec (.timerArm src n t) s = .next (s.till t)) ∧
  (∀ (src : Req) (n : Fin 16) (t : Nat) (code : Nat) (s : State), s.cutOff src = false → s.timerLive n = false →
      s.timerRefusal n = some code →
    ∃ u : State, exec (.timerArm src n t) s = .next u ∧
      s.errored u Reg.pageTIO code (Reg.TIO_T_CTRL n) (srcCode src) ∧ u.bit (Reg.TIO_T_STATUS n) 3 = true ∧
      u.bit (Reg.TIO_T_STATUS n) 2 = false ∧ u.timerSt n = s.timerSt n ∧
      s.regsBut u (errorKeys Reg.pageTIO ++ [Reg.TIO_T_STATUS n]) ∧ { u with regs := s.regs, frc := s.frc } = s) ∧
  (∀ (src : Req) (n : Fin 16) (t : Nat) (s : State), s.cutOff src = false → s.timerLive n = false →
      s.timerRefusal n = none → s.timerMode n = 1 → (s.till t).frc < (s.till t).timerTarget n →
    ∃ u : State, exec (.timerArm src n t) s = .next u ∧
      u.timerSt n = 1 ∧ u.bit (Reg.TIO_T_STATUS n) 2 = false ∧ u.bit (Reg.TIO_T_STATUS n) 3 = false ∧
      (u.timer n).next = ((s.till t).timerTarget n * 65536).toNat ∧ (u.timer n).fire = none ∧
      (u.timer n).plan = (s.timer n).plan ∧
      s.regsBut u [Reg.TIO_T_STATUS n, Reg.TIO_T_NEXT_LO n, Reg.TIO_T_NEXT_HI n] ∧
      { u with regs := s.regs, frc := s.frc, tio := s.tio } = s) ∧
  (∀ (src : Req) (n : Fin 16) (t : Nat) (s : State), s.cutOff src = false → s.timerLive n = false →
      s.timerRefusal n = none → s.timerMode n = 1 → (s.till t).timerTarget n ≤ (s.till t).frc → s.latePolicy n = 1 →
    ∃ u : State, exec (.timerArm src n t) s = .next u ∧
      u.timerSt n = 1 ∧ u.bit (Reg.TIO_T_STATUS n) 2 = true ∧ (u.timer n).fire = some u.frc ∧
      u.rd (Reg.TIO_T_LATE_COUNT n) = satInc 32 (s.rd (Reg.TIO_T_LATE_COUNT n)) ∧
      u.bit (Reg.INT_STATUS Reg.pageTIO) 8 = true ∧
      s.regsBut u [Reg.TIO_T_STATUS n, Reg.TIO_T_NEXT_LO n, Reg.TIO_T_NEXT_HI n, Reg.TIO_T_LATE_COUNT n,
        Reg.INT_STATUS Reg.pageTIO] ∧ { u with regs := s.regs, frc := s.frc, tio := s.tio } = s) ∧
  (∀ (src : Req) (n : Fin 16) (t : Nat) (s : State), s.cutOff src = false → s.timerLive n = false →
      s.timerRefusal n = none → s.timerMode n = 1 → (s.till t).timerTarget n ≤ (s.till t).frc → s.latePolicy n = 3 →
    ∃ u : State, exec (.timerArm src n t) s = .next u ∧
      u.timerSt n = 0 ∧ u.bit (Reg.TIO_T_STATUS n) 2 = true ∧
      u.rd (Reg.TIO_T_LATE_COUNT n) = satInc 32 (s.rd (Reg.TIO_T_LATE_COUNT n)) ∧
      u.bit (Reg.INT_STATUS Reg.pageTIO) 8 = true ∧
      s.regsBut u [Reg.TIO_T_STATUS n, Reg.TIO_T_LATE_COUNT n, Reg.INT_STATUS Reg.pageTIO] ∧
      { u with regs := s.regs, frc := s.frc, tio := s.tio } = s) ∧
  (∀ (src : Req) (n : Fin 16) (t : Nat) (s : State), s.cutOff src = false → s.timerLive n = false →
      s.timerRefusal n = none → s.timerMode n = 4 → s.printing = false →
    ∃ u : State, exec (.timerArm src n t) s = .next u ∧
      u.timerSt n = 1 ∧ (u.timer n).line = s.rd (Reg.TIO_T_TARGET_LO n) ∧
      u.rd (Reg.TIO_T_NEXT_LO n) = s.rd (Reg.TIO_T_TARGET_LO n) ∧
      s.regsBut u [Reg.TIO_T_STATUS n, Reg.TIO_T_NEXT_LO n, Reg.TIO_T_NEXT_HI n] ∧
      { u with regs := s.regs, frc := s.frc, tio := s.tio } = s) ∧
  (∀ (src : Req) (n : Fin 16) (s : State), s.cutOff src = false → s.timerLive n = true → s.timerDue n ≠ some s.frc →
    ∃ u : State, exec (.timerDisarm src n) s = .next u ∧
      u.timerSt n = 0 ∧ (u.timer n).fire = none ∧ (u.timer n).strips = [] ∧ (u.timer n).plan = (s.timer n).plan ∧
      s.regsBut u [Reg.TIO_T_STATUS n] ∧ { u with regs := s.regs, tio := s.tio } = s) ∧
  (∀ (src : Req) (n : Fin 16) (s : State), s.cutOff src = false → s.timerLive n = false ∨ s.timerDue n = some s.frc →
    exec (.timerDisarm src n) s = .next s) ∧
  (∀ (src : Req) (n : Fin 16) (s : State), s.cutOff src = false → (s.timer n).plan.length < 16 →
      100 ≤ s.rdF (Reg.TIO_T_PLAN_EXP n) 19 0 → isHost src = false ∨ s.rdF (Reg.TIO_T_PLAN_PUSH n) 15 0 < 0x8000 →
      s.rdF (Reg.TIO_T_PLAN_EXP n) 19 0 ≤ 1048575 →
    ∃ u : State, exec (.planPush src n) s = .next u ∧
      (u.timer n).plan = (s.timer n).plan ++ [(s.rdF (Reg.TIO_T_PLAN_PUSH n) 15 0,
        s.rdF (Reg.TIO_T_PLAN_EXP n) 19 0)] ∧ u.rdF (Reg.TIO_T_STATUS n) 20 16 = (s.timer n).plan.length + 1 ∧
      u.timerSt n = s.timerSt n ∧ s.regsBut u [Reg.TIO_T_STATUS n] ∧ { u with regs := s.regs, tio := s.tio } = s) ∧
  (∀ (src : Req) (n : Fin 16) (s : State), s.cutOff src = false → 16 ≤ (s.timer n).plan.length →
    ∃ u : State, exec (.planPush src n) s = .next u ∧
      s.errored u Reg.pageTIO 0x0103 (Reg.TIO_T_PLAN_CTRL n) (srcCode src) ∧ s.regsBut u (errorKeys Reg.pageTIO) ∧
      { u with regs := s.regs } = s) ∧
  (∀ (src : Req) (n : Fin 16) (s : State), s.cutOff src = false → (s.timer n).plan.length < 16 →
      s.rdF (Reg.TIO_T_PLAN_EXP n) 19 0 < 100 →
    ∃ u : State, exec (.planPush src n) s = .next u ∧
      s.errored u Reg.pageTIO 0x0102 (Reg.TIO_T_PLAN_CTRL n) (srcCode src) ∧ s.regsBut u (errorKeys Reg.pageTIO) ∧
      { u with regs := s.regs } = s) ∧
  (∀ (src : Req) (n : Fin 16) (s : State), s.cutOff src = false → (s.timer n).plan.length < 16 →
      100 ≤ s.rdF (Reg.TIO_T_PLAN_EXP n) 19 0 → isHost src = true → 0x8000 ≤ s.rdF (Reg.TIO_T_PLAN_PUSH n) 15 0 →
    ∃ u : State, exec (.planPush src n) s = .next u ∧
      s.errored u Reg.pageTIO 0x0105 (Reg.TIO_T_PLAN_CTRL n) (srcCode src) ∧ s.regsBut u (errorKeys Reg.pageTIO) ∧
      { u with regs := s.regs } = s) ∧
  (∀ (src : Req) (n : Fin 16) (s : State), s.cutOff src = false →
    ∃ u : State, exec (.planFlush src n) s = .next u ∧
      (u.timer n).plan = [] ∧ u.rdF (Reg.TIO_T_STATUS n) 20 16 = 0 ∧ u.timerSt n = s.timerSt n ∧
      s.regsBut u [Reg.TIO_T_STATUS n] ∧ { u with regs := s.regs, tio := s.tio } = s) ∧
  (∀ (src : Req) (t : Nat) (s : State), s.cutOff src = false →
    ∃ u : State, exec (.nowRead src t) s = .next u ∧
      u.frc = max s.frc t % 2 ^ 64 ∧ u.reply = [u.nowNs % 2 ^ 32] ∧
      u.readLatch Reg.pageTIME src = some (BitVec.ofNat 32 (u.nowNs / 2 ^ 32)) ∧
      u.rd Reg.TIME_NOW_FRAC = u.now16 % 65536 ∧ s.regsBut u [Reg.TIME_NOW_FRAC] ∧
      { u with regs := s.regs, frc := s.frc, reply := s.reply, latchR := s.latchR } = s) ∧
  (∀ (src : Req) (hi v : Nat) (s : State), s.cutOff src = false →
      v = s.lowWord Reg.pageTIME src (s.rd Reg.TIME_CONV_IN_LO) + hi % 2 ^ 32 * 2 ^ 32 →
      s.bit Reg.TIME_CONV_CTRL 1 = false → s.bit Reg.TIME_CONV_CTRL 0 = true →
    ∃ u : State, exec (.conversion src hi) s = .next u ∧
      u.rd64 Reg.TIME_CONV_OUT_LO Reg.TIME_CONV_OUT_HI = (s.timeOf v).1 / 65536 % 2 ^ 64 ∧
      u.rd Reg.TIME_CONV_STATUS = b2n (s.timeOf v).2 ∧ u.rd64 Reg.TIME_CONV_IN_LO Reg.TIME_CONV_IN_HI = v ∧
      s.regsBut u [Reg.TIME_CONV_IN_LO, Reg.TIME_CONV_IN_HI, Reg.TIME_CONV_OUT_LO, Reg.TIME_CONV_OUT_HI,
        Reg.TIME_CONV_STATUS] ∧ { u with regs := s.regs } = s) ∧
  (∀ (src : Req) (hi v : Nat) (s : State), s.cutOff src = false →
      v = s.lowWord Reg.pageTIME src (s.rd Reg.TIME_CONV_IN_LO) + hi % 2 ^ 32 * 2 ^ 32 →
      s.bit Reg.TIME_CONV_CTRL 1 = false → s.bit Reg.TIME_CONV_CTRL 0 = false →
    ∃ u : State, exec (.conversion src hi) s = .next u ∧
      u.rd64 Reg.TIME_CONV_OUT_LO Reg.TIME_CONV_OUT_HI = s.frcOfTime (v * 65536) % 2 ^ 64 ∧
      u.rd Reg.TIME_CONV_STATUS = 0 ∧
      s.regsBut u [Reg.TIME_CONV_IN_LO, Reg.TIME_CONV_IN_HI, Reg.TIME_CONV_OUT_LO, Reg.TIME_CONV_OUT_HI,
        Reg.TIME_CONV_STATUS] ∧ { u with regs := s.regs } = s) ∧
  (∀ (src : Req) (hi v : Nat) (s : State), s.cutOff src = false →
      v = s.lowWord Reg.pageTIME src (s.rd Reg.TIME_CONV_IN_LO) + hi % 2 ^ 32 * 2 ^ 32 →
      s.bit Reg.TIME_CONV_CTRL 1 = true → s.isRoot = false → s.ring.base = none →
    ∃ u : State, exec (.conversion src hi) s = .next u ∧
      u.freeCount = s.freeCount + 1 ∧ u.rd Reg.TIME_CONV_STATUS = 0 ∧
      s.regsBut u [Reg.TIME_CONV_IN_LO, Reg.TIME_CONV_IN_HI, Reg.TIME_CONV_OUT_LO, Reg.TIME_CONV_OUT_HI,
        Reg.TIME_CONV_STATUS] ∧ { u with regs := s.regs, freeCount := s.freeCount } = s)

/-- Timer events and captures. The event of a ONCE timer counts, drives its pulse and its interrupt, takes the head
of its capture plan where it uses one, and leaves the timer DONE; a periodic one stays RUNNING with the next
event a period on. A capture at an enabled edge joins the FIFO of its pin, a full FIFO counts a lost one;
reading CAP_INFO removes the head. Spec: 12_time_network.md. -/
def Obligations.TimerEvents : Prop :=
  (∀ (n : Fin 16) (t f : Nat) (s : State), s.timerDue n = some f → f ≤ (s.till t).frc → s.timerMode n = 1 →
      s.bit (Reg.TIO_T_CFG n) 9 = false → s.bit (Reg.TIO_T_CFG n) 6 = true → s.bit Reg.TIO_PIN_DIR n = true →
      s.bit (Reg.TIO_T_CFG n) 8 = false → s.triggersPort n 0 = false → s.triggersPort n 1 = false →
      s.sourceInUse ≠ 4 ∨ s.rdF Reg.ENC_VENC_TIO 3 0 ≠ n.val →
    ∃ u : State, exec (.timerEvent n t) s = .next u ∧
      u.timerSt n = 3 ∧ (u.timer n).fire = none ∧ u.rd (Reg.TIO_T_EVENTS n) = satInc 32 (s.rd (Reg.TIO_T_EVENTS n)) ∧
      u.out = s.out ++ [Out.tioPulse n f (s.timerWidth n) (b2n (!s.bit (Reg.TIO_T_CFG n) 7))] ∧
      s.regsBut u [Reg.TIO_T_STATUS n, Reg.TIO_T_EVENTS n] ∧
      { u with regs := s.regs, frc := s.frc, tio := s.tio, out := s.out } = s) ∧
  (∀ (n : Fin 16) (t f : Nat) (s : State), s.timerDue n = some f → f ≤ (s.till t).frc → s.timerMode n = 1 →
      s.bit (Reg.TIO_T_CFG n) 9 = false → s.bit (Reg.TIO_T_CFG n) 6 = false ∨ s.bit Reg.TIO_PIN_DIR n = false →
      s.bit (Reg.TIO_T_CFG n) 8 = false → s.triggersPort n 0 = false → s.triggersPort n 1 = false →
      s.sourceInUse ≠ 4 ∨ s.rdF Reg.ENC_VENC_TIO 3 0 ≠ n.val →
    ∃ u : State, exec (.timerEvent n t) s = .next u ∧
      u.timerSt n = 3 ∧ (u.timer n).fire = none ∧ u.rd (Reg.TIO_T_EVENTS n) = satInc 32 (s.rd (Reg.TIO_T_EVENTS n)) ∧
      s.regsBut u [Reg.TIO_T_STATUS n, Reg.TIO_T_EVENTS n] ∧ { u with regs := s.regs, frc := s.frc, tio := s.tio } = s) ∧
  (∀ (n : Fin 16) (t f : Nat) (s : State), s.timerDue n = some f → f ≤ (s.till t).frc → s.timerMode n = 2 →
      s.timerNs n = false → (s.timer n).fire = none → (s.timer n).first = none → s.bit (Reg.TIO_T_CFG n) 9 = false →
      s.bit (Reg.TIO_T_CFG n) 6 = false → s.bit (Reg.TIO_T_CFG n) 8 = true → s.triggersPort n 0 = false →
      s.triggersPort n 1 = false → s.sourceInUse ≠ 4 ∨ s.rdF Reg.ENC_VENC_TIO 3 0 ≠ n.val →
    ∃ u : State, exec (.timerEvent n t) s = .next u ∧
      u.timerSt n = 2 ∧ (u.timer n).next = (s.timer n).next + s.timerPeriod16 n ∧
      u.rd (Reg.TIO_T_EVENTS n) = satInc 32 (s.rd (Reg.TIO_T_EVENTS n)) ∧ u.out = s.out ++ [Out.crewIrq n] ∧
      s.regsBut u [Reg.TIO_T_STATUS n, Reg.TIO_T_NEXT_LO n, Reg.TIO_T_NEXT_HI n, Reg.TIO_T_EVENTS n] ∧
      { u with regs := s.regs, frc := s.frc, tio := s.tio, out := s.out } = s) ∧
  (∀ (n : Fin 16) (t f : Nat) (plan : Nat × Nat) (s : State), s.timerDue n = some f → f ≤ (s.till t).frc →
      s.timerMode n = 1 → s.bit (Reg.TIO_T_CFG n) 9 = true → s.bit (Reg.TIO_T_CFG n) 6 = true →
      s.bit Reg.TIO_PIN_DIR n = true → s.bit (Reg.TIO_T_CFG n) 8 = false → (s.timer n).plan.head? = some plan →
      s.triggersPort n 0 = false → s.triggersPort n 1 = false → s.sourceInUse ≠ 4 ∨ s.rdF Reg.ENC_VENC_TIO 3 0 ≠ n.val →
    ∃ u : State, exec (.timerEvent n t) s = .next u ∧
      u.timerSt n = 3 ∧ (u.timer n).plan = (s.timer n).plan.tail ∧
      u.rdF (Reg.TIO_T_STATUS n) 20 16 = ((s.timer n).plan.length - 1) % 32 ∧
      u.out = s.out ++ [Out.tioPulse n f (nsClk plan.2) (b2n (!s.bit (Reg.TIO_T_CFG n) 7))] ∧
      s.regsBut u [Reg.TIO_T_STATUS n, Reg.TIO_T_EVENTS n] ∧
      { u with regs := s.regs, frc := s.frc, tio := s.tio, out := s.out } = s) ∧
  (∀ (n : Fin 16) (t : Nat) (s : State), s.timerLive n = false → (s.timer n).strips = [] →
    exec (.timerEvent n t) s = .next (s.till t)) ∧
  (∀ (pin : Fin 16) (falling : Bool) (t : Nat) (s : State),
      s.bit Reg.TIO_CAP_CFG (if falling = true then 16 + pin.val else pin.val) = false →
    ∃ u : State, exec (.capture pin falling t) s = .next u ∧
      u.bit Reg.TIO_PIN_LEVEL pin = !falling ∧ u.captures pin = s.captures pin ∧ s.regsBut u [Reg.TIO_PIN_LEVEL] ∧
      { u with regs := s.regs, frc := s.frc } = s) ∧
  (∀ (pin : Fin 16) (falling : Bool) (t : Nat) (s : State),
      s.bit Reg.TIO_CAP_CFG (if falling = true then 16 + pin.val else pin.val) = true → (s.captures pin).length < 16 →
      fld s.line.runCfg 11 8 ≠ pin.val ∨ fld s.line.runCfg 1 0 ≠ 1 →
    ∃ u : State, exec (.capture pin falling t) s = .next u ∧
      u.captures pin = s.captures pin ++ [{ frc := t, line := s.rd Reg.LINE_CURRENT_LINE, falling := falling }] ∧
      u.bit Reg.TIO_CAP_PENDING pin = true ∧ u.bit (Reg.INT_STATUS Reg.pageTIO) 9 = true ∧
      u.bit Reg.TIO_PIN_LEVEL pin = !falling ∧
      s.regsBut u [Reg.TIO_PIN_LEVEL, Reg.TIO_CAP_PENDING, Reg.INT_STATUS Reg.pageTIO] ∧
      { u with regs := s.regs, frc := s.frc, tio := s.tio } = s) ∧
  (∀ (pin : Fin 16) (falling : Bool) (t : Nat) (s : State),
      s.bit Reg.TIO_CAP_CFG (if falling = true then 16 + pin.val else pin.val) = true → 16 ≤ (s.captures pin).length →
    ∃ u : State, exec (.capture pin falling t) s = .next u ∧
      u.captures pin = s.captures pin ∧ u.rd Reg.TIO_CAP_LOST = satInc 32 (s.rd Reg.TIO_CAP_LOST) ∧
      u.bit (Reg.INT_STATUS Reg.pageTIO) 10 = true ∧
      s.regsBut u [Reg.TIO_PIN_LEVEL, Reg.TIO_CAP_LOST, Reg.INT_STATUS Reg.pageTIO] ∧
      { u with regs := s.regs, frc := s.frc } = s) ∧
  (∀ (src : Req) (s : State), s.cutOff src = false →
    ∃ u : State, exec (.capInfoRead src) s = .next u ∧
      u.reply = [s.capInfo] ∧
      u.captures (s.rdF Reg.TIO_CAP_SEL 3 0) = (s.captures (s.rdF Reg.TIO_CAP_SEL 3 0)).drop 1 ∧
      s.regsBut u [Reg.TIO_CAP_PENDING] ∧ { u with regs := s.regs, tio := s.tio, reply := s.reply } = s)

/-- The states of a lamp group and the queues of the sequencer. Enabling an OFF group raises its bus enable, sends
OPERATION and the initial VOUT_SET and waits for the bus; BUS_GOOD takes it to ON, to STOPPED under STOP_IN, or
to HOT, and to FAULT where VOUT_MODE is not LINEAR16; disabling, a bus timeout and a bus fault leave every sink
of the group off; RESUME leaves STOPPED once STOP_IN is released. A push appends the entry that PUSH_ENTRY and
PUSH_CURRENT describe to the queue of its port; a full queue and an entry of a plan that belongs to the module
are errors; a flush discards and counts every entry. Spec: 10_lamp_channels.md. -/
def Obligations.LampGroupsAndQueues : Prop :=
  (∀ (src : Req) (g : Fin 4) (s : State), s.cutOff src = false → s.groupSt g = 0 →
      s.bit Reg.PWR_LAMP_BUS_STATUS (16 + g.val) = false → s.bit (Reg.LAMP_GROUP_STATUS g) 10 = false →
      s.pwr.sys24 = true →
    ∃ u : State, exec (.lampGroupEnable src g) s = .next u ∧
      u.groupSt g = 1 ∧ u.bit (Reg.CTRL (Reg.pageLAMP g)) 0 = true ∧ u.bit Reg.PWR_LAMP_BUS_STATUS g = true ∧
      u.rdF (Reg.LAMP_VOUT_SET g) 15 0 = s.initialVout g % 65536 ∧
      [Out.pmbus g (s.rdF (Reg.LAMP_GROUP_CFG g) 6 0) 0x01 0x80,
        Out.pmbus g (s.rdF (Reg.LAMP_GROUP_CFG g) 6 0) 0x20 0,
        Out.pmbus g (s.rdF (Reg.LAMP_GROUP_CFG g) 6 0) 0x21 (s.initialVout g)] <:+ u.out ∧
      s.regsBut u ([Reg.CTRL (Reg.pageLAMP g), Reg.STATUS (Reg.pageLAMP g), Reg.INT_STATUS (Reg.pageLAMP g),
        Reg.PWR_LAMP_BUS_STATUS, Reg.LAMP_VOUT_SET g] ++ (List.range 16).map (Reg.LAMP_CH_OUT g)) ∧
      { u with regs := s.regs, out := s.out, lamp := s.lamp } = s) ∧
  (∀ (src : Req) (g : Fin 4) (s : State), s.cutOff src = false → s.groupSt g ≠ 0 →
    ∃ u : State, exec (.lampGroupEnable src g) s = .next u ∧
      u.groupSt g = s.groupSt g ∧ u.bit (Reg.CTRL (Reg.pageLAMP g)) 0 = true ∧
      s.regsBut u [Reg.CTRL (Reg.pageLAMP g)] ∧ { u with regs := s.regs } = s) ∧
  (∀ (src : Req) (g : Fin 4) (s : State), s.cutOff src = false →
    ∃ u : State, exec (.lampGroupDisable src g) s = .next u ∧
      u.groupSt g = 0 ∧ u.bit (Reg.CTRL (Reg.pageLAMP g)) 0 = false ∧ u.bit Reg.PWR_LAMP_BUS_STATUS g = false ∧
      (∀ i ∈ List.range 16, u.rd (Reg.LAMP_CH_OUT g i) = 0) ∧ (u.lampGroup g).offAt = s.frc ∧
      s.regsBut u ([Reg.CTRL (Reg.pageLAMP g), Reg.STATUS (Reg.pageLAMP g), Reg.PWR_LAMP_BUS_STATUS] ++
        (List.range 16).map (Reg.LAMP_CH_OUT g)) ∧ { u with regs := s.regs, lamp := s.lamp, out := s.out } = s) ∧
  (∀ (g : Fin 4) (vm f : Nat) (s : State), s.groupSt g = 1 → fld vm 7 5 = 0 → s.pwr.stopIn = false →
      s.ntcOff g = false →
    ∃ u : State, exec (.busGood g vm f) s = .next u ∧
      u.groupSt g = 2 ∧ u.bit (Reg.STATUS (Reg.pageLAMP g)) 0 = true ∧ u.bit (Reg.LAMP_GROUP_STATUS g) 9 = true ∧
      (∀ i ∈ List.range 16, s.latched (16 * g + i) = false → u.diagSt (16 * g + i) = 0) ∧
      (∀ i ∈ List.range 16, s.latched (16 * g + i) = true → u.diagSt (16 * g + i) = s.diagSt (16 * g + i)) ∧
      s.regsBut u ([Reg.STATUS (Reg.pageLAMP g), Reg.LAMP_GROUP_STATUS g, Reg.LAMP_PMBUS_ERR g] ++
        (List.range 16).map (fun i => diagKey (16 * g + i))) ∧
      { u with regs := s.regs, lamp := s.lamp, out := s.out } = s) ∧
  (∀ (g : Fin 4) (vm f : Nat) (s : State), s.groupSt g = 1 → fld vm 7 5 = 0 → s.pwr.stopIn = true →
    ∃ u : State, exec (.busGood g vm f) s = .next u ∧
      u.groupSt g = 3 ∧ u.bit (Reg.INT_STATUS (Reg.pageLAMP g)) 13 = true ∧
      s.regsBut u ([Reg.STATUS (Reg.pageLAMP g), Reg.INT_STATUS (Reg.pageLAMP g), Reg.LAMP_GROUP_STATUS g,
        Reg.LAMP_PMBUS_ERR g] ++ (List.range 16).map (fun i => diagKey (16 * g + i)) ++
        (List.range 16).map (Reg.LAMP_CH_OUT g)) ∧ { u with regs := s.regs, lamp := s.lamp, out := s.out } = s) ∧
  (∀ (g : Fin 4) (vm f : Nat) (s : State), s.groupSt g ≠ 1 →
    exec (.busGood g vm f) s = .next s) ∧
  (∀ (g : Fin 4) (vm f : Nat) (s : State), s.groupSt g = 1 → fld vm 7 5 ≠ 0 →
    ∃ u : State, exec (.busGood g vm f) s = .next u ∧
      u.groupSt g = 5 ∧ u.bit (Reg.LAMP_GROUP_STATUS g) 10 = true ∧
      u.bit (Reg.INT_STATUS (Reg.pageLAMP g)) 12 = true ∧ u.bit (Reg.STATUS (Reg.pageLAMP g)) 2 = true ∧
      s.regsBut u ([Reg.STATUS (Reg.pageLAMP g), Reg.INT_STATUS (Reg.pageLAMP g), Reg.LAMP_GROUP_STATUS g,
        Reg.LAMP_PMBUS_ERR g] ++ (List.range 16).map (Reg.LAMP_CH_OUT g)) ∧
      { u with regs := s.regs, lamp := s.lamp, out := s.out } = s) ∧
  (∀ (g : Fin 4) (f : Nat) (s : State), s.groupSt g = 1 →
    ∃ u : State, exec (.busWaitTimeout g f) s = .next u ∧
      u.groupSt g = 5 ∧ u.bit (Reg.STATUS (Reg.pageLAMP g)) 2 = true ∧
      u.bit (Reg.INT_STATUS (Reg.pageLAMP g)) 16 = true ∧
      s.regsBut u ([Reg.STATUS (Reg.pageLAMP g), Reg.INT_STATUS (Reg.pageLAMP g), Reg.LAMP_PMBUS_ERR g] ++
        (List.range 16).map (Reg.LAMP_CH_OUT g)) ∧ { u with regs := s.regs, lamp := s.lamp, out := s.out } = s) ∧
  (∀ (g : Fin 4) (f : Nat) (s : State), s.groupSt g ≠ 1 →
    exec (.busWaitTimeout g f) s = .next s) ∧
  (∀ (g : Fin 4) (s : State), s.groupSt g = 2 →
    ∃ u : State, exec (.busFault g) s = .next u ∧
      u.groupSt g = 5 ∧ u.bit (Reg.STATUS (Reg.pageLAMP g)) 2 = true ∧ u.bit (Reg.STATUS (Reg.pageLAMP g)) 0 = false ∧
      u.bit (Reg.INT_STATUS (Reg.pageLAMP g)) 16 = true ∧ u.bit (Reg.LAMP_GROUP_STATUS g) 9 = false ∧
      (∀ i ∈ List.range 16, u.rd (Reg.LAMP_CH_OUT g i) = 0) ∧
      s.regsBut u ([Reg.STATUS (Reg.pageLAMP g), Reg.INT_STATUS (Reg.pageLAMP g), Reg.LAMP_GROUP_STATUS g] ++
        (List.range 16).map (Reg.LAMP_CH_OUT g)) ∧ { u with regs := s.regs, lamp := s.lamp, out := s.out } = s) ∧
  (∀ (g : Fin 4) (s : State), s.groupSt g ≠ 2 →
    exec (.busFault g) s = .next s) ∧
  (∀ (src : Req) (g : Fin 4) (s : State), s.cutOff src = false → s.pwr.stopIn = true →
    ∃ u : State, exec (.groupResume src g) s = .next u ∧
      s.errored u (Reg.pageLAMP g) 0x0102 (Reg.LAMP_GROUP_CTRL g) (srcCode src) ∧
      s.regsBut u (errorKeys (Reg.pageLAMP g)) ∧ { u with regs := s.regs } = s) ∧
  (∀ (src : Req) (g : Fin 4) (s : State), s.cutOff src = false → s.pwr.stopIn = false → s.groupSt g = 3 →
      s.ntcOff g = false →
    ∃ u : State, exec (.groupResume src g) s = .next u ∧
      u.groupSt g = 2 ∧ u.bit (Reg.LAMP_GROUP_STATUS g) 10 = false ∧ (u.lampGroup g).stepFails = 0 ∧
      s.regsBut u [Reg.STATUS (Reg.pageLAMP g), Reg.LAMP_GROUP_STATUS g] ∧
      { u with regs := s.regs, lamp := s.lamp } = s) ∧
  (∀ (src : Req) (q : Nat) (s : State), s.cutOff src = false →
      isHost src = false ∨ fld (s.rd Reg.LAMPSEQ_PUSH_ENTRY) 15 0 < 0x8000 →
      q = fld (s.rd Reg.LAMPSEQ_PUSH_ENTRY) 20 20 → (s.lampQueue q).length < 16 →
    ∃ u : State, exec (.lampPush src) s = .next u ∧
      u.lampQueue q = s.lampQueue q ++ [{ plan := fld (s.rd Reg.LAMPSEQ_PUSH_ENTRY) 15 0, band := fld (s.rd Reg.LAMPSEQ_PUSH_ENTRY) 19 16, current := s.rdF Reg.LAMPSEQ_PUSH_CURRENT 11 0 }] ∧
      u.lampQueue (1 - q) = s.lampQueue (1 - q) ∧
      u.rdF Reg.LAMPSEQ_QUEUE_STATUS (8 * q + 4) (8 * q) = (s.lampQueue q).length + 1 ∧
      s.regsBut u [Reg.LAMPSEQ_QUEUE_STATUS] ∧ { u with regs := s.regs, lamp := s.lamp } = s) ∧
  (∀ (src : Req) (s : State), s.cutOff src = false → isHost src = true →
      0x8000 ≤ fld (s.rd Reg.LAMPSEQ_PUSH_ENTRY) 15 0 →
    ∃ u : State, exec (.lampPush src) s = .next u ∧
      s.errored u Reg.pageLAMPSEQ 0x0103 Reg.LAMPSEQ_PUSH_CTRL (srcCode src) ∧
      s.regsBut u (errorKeys Reg.pageLAMPSEQ) ∧ { u with regs := s.regs } = s) ∧
  (∀ (src : Req) (q : Nat) (s : State), s.cutOff src = false →
      isHost src = false ∨ fld (s.rd Reg.LAMPSEQ_PUSH_ENTRY) 15 0 < 0x8000 →
      q = fld (s.rd Reg.LAMPSEQ_PUSH_ENTRY) 20 20 → 16 ≤ (s.lampQueue q).length →
    ∃ u : State, exec (.lampPush src) s = .next u ∧
      s.errored u Reg.pageLAMPSEQ 0x0101 Reg.LAMPSEQ_PUSH_CTRL (srcCode src) ∧
      u.bit (Reg.INT_STATUS Reg.pageLAMPSEQ) 10 = true ∧ s.regsBut u (errorKeys Reg.pageLAMPSEQ) ∧
      { u with regs := s.regs } = s) ∧
  (∀ (src : Req) (port : Fin 2) (s : State), s.cutOff src = false → s.lampQueue port ≠ [] →
    ∃ u : State, exec (.lampFlush src port) s = .next u ∧
      u.lampQueue port = [] ∧ u.rdF Reg.LAMPSEQ_QUEUE_STATUS (8 * port + 4) (8 * port) = 0 ∧
      u.rd Reg.LAMPSEQ_MISMATCH_COUNT = satAdd 32 (s.rd Reg.LAMPSEQ_MISMATCH_COUNT) (s.lampQueue port).length ∧
      u.bit (Reg.INT_STATUS Reg.pageLAMPSEQ) 8 = true ∧
      s.regsBut u [Reg.LAMPSEQ_QUEUE_STATUS, Reg.LAMPSEQ_MISMATCH_COUNT, Reg.INT_STATUS Reg.pageLAMPSEQ] ∧
      { u with regs := s.regs, lamp := s.lamp } = s)

/-- Lamp periods, headroom, bus measurements and NTC inputs. The start of a period puts the drive of R317 into
CH_OUT and sends its pulses, and nothing while the channel is off; HEADROOM_STEP moves VOUT_SET by the lowest
sink voltage within the slew and the limits, and three failed steps stop PMBus; BUS_MEASURE records the voltages
and BUS_STRAY; NTC_READ records the temperatures and takes a sample of each threshold. Spec:
10_lamp_channels.md, 16_power_thermal.md. -/
def Obligations.LampDrive : Prop :=
  (∀ (ch : Fin 64) (t : Nat) (s : State), s.groupSt (ch.val / 16) = 2 → (s.lampCh ch).due ≤ t →
      (s.till t).lampOff ch t = true →
    ∃ u : State, exec (.lampPeriodStart ch t) s = .next u ∧
      u.rd (Reg.LAMP_CH_OUT (ch.val / 16) (ch.val % 16)) = 0 ∧ u.lampOn ch = 0 ∧ (u.lampCh ch).start = t ∧
      (s.blanked 0 ch = false → s.blanked 1 ch = false → u.out = s.out) ∧
      s.regsBut u (groupDoseKeys (ch.val / 16) ++ [Reg.LAMP_CH_OUT (ch.val / 16) (ch.val % 16)]) ∧
      { u with regs := s.regs, frc := s.frc, lamp := s.lamp, out := s.out } = s) ∧
  (∀ (ch : Fin 64) (t : Nat) (code duty : Nat) (s : State), s.groupSt (ch.val / 16) = 2 → (s.lampCh ch).due ≤ t →
      s.blanked 0 ch = false → s.blanked 1 ch = false → (s.till t).lampOff ch t = false →
      (s.till t).lampDrive ch = (code, duty) →
    ∃ u : State, exec (.lampPeriodStart ch t) s = .next u ∧
      u.rd (Reg.LAMP_CH_OUT (ch.val / 16) (ch.val % 16)) = (code + duty * 65536) % 2 ^ 32 ∧ (u.lampCh ch).start = t ∧
      (u.lampCh ch).period = ((s.till t).lampPeriod ch).1 ∧
      u.out = s.out ++ (if code = 0 then [] else
        (lampPulses ((s.till t).lampPeriod ch).1 duty (s.spread ch)).map (fun x => Out.lamp ch (t + x.1) x.2 code)) ∧
      s.regsBut u (groupDoseKeys (ch.val / 16) ++ [Reg.LAMP_CH_OUT (ch.val / 16) (ch.val % 16)]) ∧
      { u with regs := s.regs, frc := s.frc, lamp := s.lamp, out := s.out } = s) ∧
  (∀ (ch : Fin 64) (t : Nat) (s : State), s.groupSt (ch.val / 16) ≠ 2 ∨ t < (s.lampCh ch).due →
    exec (.lampPeriodStart ch t) s = .next (s.till t)) ∧
  (∀ (g : Fin 4) (f : Fin 4) (v old n : Nat) (s : State), s.groupSt g = 2 →
      s.bit (Reg.LAMP_GROUP_STATUS g) 10 = false → f.val ≠ 3 → (s.lampGroup g).vmin = some v → 400 ≤ v →
      old = s.rdF (Reg.LAMP_VOUT_SET g) 15 0 →
      n =
      (old + clampI (-(s.rdF (Reg.LAMP_HEADROOM g) 27 16 : Int)) (s.rdF (Reg.LAMP_HEADROOM g) 27 16) (clampI (s.rdF (Reg.LAMP_VOUT_LIMITS g) 15 0) (s.rdF (Reg.LAMP_VOUT_LIMITS g) 31 16) ((old : Int) - ((v : Int) - s.rdF (Reg.LAMP_HEADROOM g) 11 0)) - old)).toNat →
    ∃ u : State, exec (.headroomStep g f) s = .next u ∧
      u.rdF (Reg.LAMP_VMIN_SINK g) 15 0 = v % 65536 ∧ u.rdF (Reg.LAMP_VOUT_SET g) 15 0 = n % 65536 ∧
      (u.lampGroup g).vmin = none ∧ (u.lampGroup g).stepFails = 0 ∧
      u.out = s.out ++ [Out.pmbus g (s.rdF (Reg.LAMP_GROUP_CFG g) 6 0) 0x21 n] ∧
      s.regsBut u [Reg.LAMP_PMBUS_ERR g, Reg.LAMP_VMIN_SINK g, Reg.LAMP_VOUT_SET g] ∧
      { u with regs := s.regs, lamp := s.lamp, out := s.out } = s) ∧
  (∀ (g : Fin 4) (f : Fin 4) (v old n : Nat) (s : State), s.groupSt g = 2 →
      s.bit (Reg.LAMP_GROUP_STATUS g) 10 = false → f.val ≠ 3 → (s.lampGroup g).vmin = some v → v < 400 →
      old = s.rdF (Reg.LAMP_VOUT_SET g) 15 0 →
      n =
      (clampI (s.rdF (Reg.LAMP_VOUT_LIMITS g) 15 0) (s.rdF (Reg.LAMP_VOUT_LIMITS g) 31 16) ((old : Int) - ((v : Int) - s.rdF (Reg.LAMP_HEADROOM g) 11 0))).toNat →
    ∃ u : State, exec (.headroomStep g f) s = .next u ∧
      u.rdF (Reg.LAMP_VMIN_SINK g) 15 0 = v % 65536 ∧ u.rdF (Reg.LAMP_VOUT_SET g) 15 0 = n % 65536 ∧
      (u.lampGroup g).vmin = none ∧ (u.lampGroup g).stepFails = 0 ∧
      u.out = s.out ++ [Out.pmbus g (s.rdF (Reg.LAMP_GROUP_CFG g) 6 0) 0x21 n] ∧
      s.regsBut u [Reg.LAMP_PMBUS_ERR g, Reg.LAMP_VMIN_SINK g, Reg.LAMP_VOUT_SET g] ∧
      { u with regs := s.regs, lamp := s.lamp, out := s.out } = s) ∧
  (∀ (g : Fin 4) (s : State), s.groupSt g = 2 → s.bit (Reg.LAMP_GROUP_STATUS g) 10 = false →
    ∃ u : State, exec (.headroomStep g 3) s = .next u ∧
      u.rd (Reg.LAMP_PMBUS_ERR g) = satAdd 32 (s.rd (Reg.LAMP_PMBUS_ERR g)) 3 ∧
      (u.lampGroup g).stepFails = (s.lampGroup g).stepFails + 1 ∧
      u.bit (Reg.LAMP_GROUP_STATUS g) 10 = decide (2 ≤ (s.lampGroup g).stepFails) ∧
      u.rd (Reg.LAMP_VOUT_SET g) = s.rd (Reg.LAMP_VOUT_SET g) ∧
      s.regsBut u [Reg.LAMP_PMBUS_ERR g, Reg.LAMP_VMIN_SINK g, Reg.LAMP_GROUP_STATUS g,
        Reg.INT_STATUS (Reg.pageLAMP g)] ∧ { u with regs := s.regs, lamp := s.lamp } = s) ∧
  (∀ (g : Fin 4) (f : Fin 4) (s : State), s.groupSt g ≠ 2 ∨ s.bit (Reg.LAMP_GROUP_STATUS g) 10 = true →
    exec (.headroomStep g f) s = .next s) ∧
  (∀ (g : Fin 4) (vout iout f t : Nat) (s : State),
    ∃ u : State, exec (.busMeasure g vout iout f t) s = .next u ∧
      u.out = s.out ++ [Out.pmbus g (s.rdF (Reg.LAMP_GROUP_CFG g) 6 0) 0x79 0,
        Out.pmbus g (s.rdF (Reg.LAMP_GROUP_CFG g) 6 0) 0x8B 0,
        Out.pmbus g (s.rdF (Reg.LAMP_GROUP_CFG g) 6 0) 0x8C 0] ∧
      u.rd (Reg.LAMP_PMBUS_ERR g) = satAdd 32 (s.rd (Reg.LAMP_PMBUS_ERR g)) f ∧
      u.rd (Reg.LAMP_BUS_MEAS g) = vout % 65536 + iout % 65536 * 65536 ∧
      u.bit Reg.PWR_LAMP_BUS_STATUS (8 + g.val) =
        (decide (5000 < vout) && !s.bit Reg.PWR_LAMP_BUS_STATUS g && decide (msClk 10 < u.frc - (s.lampGroup g).offAt)) ∧
      u.bit Reg.PWR_LAMP_BUS_STATUS g = s.bit Reg.PWR_LAMP_BUS_STATUS g ∧
      (u.bit Reg.PWR_LAMP_BUS_STATUS (8 + g.val) = true → s.bit Reg.PWR_LAMP_BUS_STATUS (8 + g.val) = false →
        u.bit (Reg.INT_STATUS Reg.pagePWR) 12 = true) ∧
      s.regsBut u [Reg.LAMP_PMBUS_ERR g, Reg.LAMP_BUS_MEAS g, Reg.PWR_LAMP_BUS_V01, Reg.PWR_LAMP_BUS_V23,
        Reg.PWR_LAMP_BUS_STATUS, Reg.INT_STATUS Reg.pagePWR] ∧
      { u with regs := s.regs, frc := s.frc, out := s.out } = s) ∧
  (∀ (g : Fin 4) (s : State), s.groupSt g ≠ 2 → s.groupSt g ≠ 4 →
    ∃ u : State, exec (.ntcRead g [none, none, none, none]) s = .next u ∧
      u.rd (Reg.LAMP_NTC_TEMP01 g) = 0x80008000 ∧ u.rd (Reg.LAMP_NTC_TEMP23 g) = 0x80008000 ∧
      u.bit (Reg.INT_STATUS (Reg.pageLAMP g)) 14 = true ∧
      (∀ j ∈ List.range 8, (u.dwellAt 16 (g * 8 + j)).up = 0 ∧ (u.dwellAt 16 (g * 8 + j)).down = 0 ∧
        u.condIn 16 (g * 8 + j) = s.condIn 16 (g * 8 + j)) ∧
      s.regsBut u [Reg.LAMP_NTC_TEMP01 g, Reg.LAMP_NTC_TEMP23 g, Reg.INT_STATUS (Reg.pageLAMP g)] ∧
      { u with regs := s.regs, pwr := s.pwr } = s)

/-- Lamp diagnostics. A sample in a qualifying pulse records its voltage, makes a good channel VERIFIED, and a third
failure in a row latches OPEN or SHORT with the sink off; a probe sends 1.0 mA for 10 microseconds, its good
answer reads PROBED, and a second failure in a row latches; an aborted probe counts; CLEAR starts a latched
channel again. Spec: 10_lamp_channels.md. -/
def Obligations.LampDiagnostics : Prop :=
  (∀ (ch : Fin 64) (mv ua : Nat) (s : State), s.groupSt (ch.val / 16) = 2 → 3200 ≤ s.lampOn ch →
      s.latched ch = false → s.rdF (Reg.LAMP_CH_OUT (ch.val / 16) (ch.val % 16)) 11 0 * 2000000 ≤ ua * 2 * 4095 →
      (s.binWord ch 2 % 65536 = 0 ∨
      (s.binWord ch 2 % 65536 : Int) ≤ 2 * ((s.rdF (Reg.LAMP_BUS_MEAS (ch.val / 16)) 15 0 : Int) - mv)) →
    ∃ u : State, exec (.sinkSample ch mv ua) s = .next u ∧
      u.diagSt ch = 1 ∧ u.rdF (diagKey ch) 31 16 = mv % 65536 ∧ (u.lampCh ch).fails = 0 ∧
      (u.lampGroup (ch.val / 16)).vmin =
        some (match (s.lampGroup (ch.val / 16)).vmin with | none => mv | some v => min v mv) ∧
      s.regsBut u [diagKey ch] ∧ { u with regs := s.regs, lamp := s.lamp } = s) ∧
  (∀ (ch : Fin 64) (mv ua : Nat) (s : State), s.groupSt (ch.val / 16) = 2 → 3200 ≤ s.lampOn ch →
      s.latched ch = false → ua * 2 * 4095 < s.rdF (Reg.LAMP_CH_OUT (ch.val / 16) (ch.val % 16)) 11 0 * 2000000 →
      400 ≤ (match (s.lampGroup (ch.val / 16)).vmin with | none => mv | some v => min v mv) →
      s.bit (Reg.LAMP_GROUP_STATUS (ch.val / 16)) 10 = false → 2 ≤ (s.lampCh ch).fails →
    ∃ u : State, exec (.sinkSample ch mv ua) s = .next u ∧
      u.diagSt ch = 4 ∧ u.rd (Reg.LAMP_CH_OUT (ch.val / 16) (ch.val % 16)) = 0 ∧
      u.bit (Reg.LAMP_DIAG_FAULT (ch.val / 16)) (ch.val % 16) = true ∧
      u.bit (Reg.INT_STATUS (Reg.pageLAMP (ch.val / 16))) 8 = true ∧
      s.regsBut u ([diagKey ch, Reg.LAMP_CH_OUT (ch.val / 16) (ch.val % 16), Reg.LAMP_DIAG_FAULT (ch.val / 16),
        Reg.INT_STATUS (Reg.pageLAMP (ch.val / 16))] ++ tallyKeys) ∧
      { u with regs := s.regs, lamp := s.lamp, mgmt := s.mgmt, out := s.out } = s) ∧
  (∀ (ch : Fin 64) (mv ua : Nat) (s : State), s.groupSt (ch.val / 16) ≠ 2 ∨ s.lampOn ch < 3200 ∨ s.latched ch = true →
    exec (.sinkSample ch mv ua) s = .next s) ∧
  (∀ (g : Fin 4) (t : Nat) (s : State), (∀ i ∈ List.range 16, (s.till t).probeable (16 * g + i) = false) →
    exec (.probeInterval g t) s = .next (s.till t)) ∧
  (∀ (g : Fin 4) (t : Nat) (s : State), (∀ i ∈ List.range 16, (s.lampCh (16 * g + i)).want = false) →
      (s.till t).probeable (16 * g + (s.lampGroup g).next % 16) = true →
      (s.till t).probeFree (16 * g + (s.lampGroup g).next % 16) t = true →
    ∃ u : State, exec (.probeInterval g t) s = .next u ∧
      (u.lampCh (16 * g + (s.lampGroup g).next % 16)).probing = true ∧
      (u.lampGroup g).next = ((s.lampGroup g).next % 16 + 1) % 16 ∧
      u.out = s.out ++ [Out.lamp (16 * g + (s.lampGroup g).next % 16) t (usClk 10) 2] ∧
      s.regsBut u [Reg.LAMP_DIAG_FAULT g] ∧ { u with regs := s.regs, frc := s.frc, lamp := s.lamp, out := s.out } = s) ∧
  (∀ (src : Req) (ch : Fin 64) (t : Nat) (s : State), s.cutOff src = false → (s.till t).probeable ch = true →
      (s.till t).probeFree ch t = true →
    ∃ u : State, exec (.probeNow src ch t) s = .next u ∧
      (u.lampCh ch).probing = true ∧ (u.lampCh ch).want = false ∧ u.out = s.out ++ [Out.lamp ch t (usClk 10) 2] ∧
      u.bit (Reg.LAMP_DIAG_FAULT (ch.val / 16)) (16 + ch.val % 16) = false ∧
      s.regsBut u [Reg.LAMP_DIAG_FAULT (ch.val / 16)] ∧
      { u with regs := s.regs, frc := s.frc, lamp := s.lamp, out := s.out } = s) ∧
  (∀ (src : Req) (ch : Fin 64) (t : Nat) (s : State), s.cutOff src = false →
      ((s.till t).probeable ch && (s.till t).probeFree ch t) = false →
    ∃ u : State, exec (.probeNow src ch t) s = .next u ∧
      (u.lampCh ch).want = true ∧ (u.lampCh ch).probing = (s.lampCh ch).probing ∧ u.out = s.out ∧
      { u with frc := s.frc, lamp := s.lamp } = s) ∧
  (∀ (ch : Fin 64) (mv ua : Nat) (s : State), (s.lampCh ch).probing = true → 500 ≤ ua →
      s.rdF (Reg.LAMP_PROBE_CFG (ch.val / 16)) 15 0 ≤ mv →
    ∃ u : State, exec (.probeComplete ch mv ua) s = .next u ∧
      u.diagSt ch = 3 ∧ (u.lampCh ch).probing = false ∧ (u.lampCh ch).probeFails = 0 ∧ s.regsBut u [diagKey ch] ∧
      { u with regs := s.regs, lamp := s.lamp } = s) ∧
  (∀ (ch : Fin 64) (mv ua : Nat) (s : State), (s.lampCh ch).probing = true → ua < 500 → 1 ≤ (s.lampCh ch).probeFails →
    ∃ u : State, exec (.probeComplete ch mv ua) s = .next u ∧
      u.diagSt ch = 4 ∧ (u.lampCh ch).probing = false ∧ u.rd (Reg.LAMP_CH_OUT (ch.val / 16) (ch.val % 16)) = 0 ∧
      s.regsBut u ([diagKey ch, Reg.LAMP_CH_OUT (ch.val / 16) (ch.val % 16), Reg.LAMP_DIAG_FAULT (ch.val / 16),
        Reg.INT_STATUS (Reg.pageLAMP (ch.val / 16))] ++ tallyKeys) ∧
      { u with regs := s.regs, lamp := s.lamp, mgmt := s.mgmt, out := s.out } = s) ∧
  (∀ (ch : Fin 64) (s : State), (s.lampCh ch).probing = true →
    ∃ u : State, exec (.probeAbort ch) s = .next u ∧
      (u.lampCh ch).probing = false ∧
      u.rd (Reg.LAMP_PROBE_ABORT (ch.val / 16)) = satInc 32 (s.rd (Reg.LAMP_PROBE_ABORT (ch.val / 16))) ∧
      s.regsBut u [Reg.LAMP_PROBE_ABORT (ch.val / 16)] ∧ { u with regs := s.regs, lamp := s.lamp } = s) ∧
  (∀ (ch : Fin 64) (s : State), (s.lampCh ch).probing = false →
    exec (.probeAbort ch) s = .next s) ∧
  (∀ (ch : Fin 64) (s : State), s.groupSt (ch.val / 16) = 2 → s.diagSt ch = 2 →
    ∃ u : State, exec (.probeBlocked ch) s = .next u ∧
      u.bit (Reg.INT_STATUS (Reg.pageLAMP (ch.val / 16))) 10 = true ∧
      u.bit (Reg.LAMP_DIAG_FAULT (ch.val / 16)) (16 + ch.val % 16) = true ∧
      s.regsBut u [Reg.INT_STATUS (Reg.pageLAMP (ch.val / 16)), Reg.LAMP_DIAG_FAULT (ch.val / 16)] ∧
      { u with regs := s.regs } = s) ∧
  (∀ (src : Req) (ch : Fin 64) (s : State), s.cutOff src = false → s.latched ch = true → s.lampMode ch ≠ 0 →
    ∃ u : State, exec (.clearLampFault src ch) s = .next u ∧
      u.diagSt ch = 2 ∧ u.lampCh ch = {} ∧ u.bit (Reg.LAMP_DIAG_FAULT (ch.val / 16)) (ch.val % 16) = false ∧
      u.bit (Reg.INT_STATUS (Reg.pageLAMP (ch.val / 16))) 9 = true ∧
      s.regsBut u [diagKey ch, Reg.LAMP_DIAG_FAULT (ch.val / 16), Reg.INT_STATUS (Reg.pageLAMP (ch.val / 16))] ∧
      { u with regs := s.regs, lamp := s.lamp } = s) ∧
  (∀ (src : Req) (ch : Fin 64) (s : State), s.cutOff src = false → s.latched ch = false →
    exec (.clearLampFault src ch) s = .next s)

/-- The states of a camera port and its control channel. Enabling an OFF port raises its supply; POWER_SETTLE starts
the hunt for lock; an over-current switches the supply off and leaves FAULT; two ALIGN sets within the skew
bring a port in DESKEW to UP, one outside it starts the hunt again; the loss of ALIGN in UP returns to LOCK; a
control request is sent, and its reply or its timeout shows in CCI_STATUS. Spec: 08_camera_pipeline.md. -/
def Obligations.CameraPorts : Prop :=
  (∀ (src : Req) (p : Fin 2) (s : State), s.cutOff src = false → s.camSt p = 0 → s.modState ≠ 7 →
    ∃ u : State, exec (.cameraPortEnable src p) s = .next u ∧
      u.camSt p = 1 ∧ u.bit (Reg.CTRL (Reg.pageCAM p)) 0 = true ∧
      u.out = s.out ++ [Out.pin (0x10 + p) 1, s.camCoded p [(controlHeader, idleBlock)]] ∧
      s.regsBut u [Reg.CTRL (Reg.pageCAM p), Reg.STATUS (Reg.pageCAM p)] ∧
      { u with regs := s.regs, out := s.out, cam := s.cam } = s) ∧
  (∀ (src : Req) (p : Fin 2) (s : State), s.cutOff src = false → s.camSt p ≠ 0 ∨ s.modState = 7 →
    ∃ u : State, exec (.cameraPortEnable src p) s = .next u ∧
      u.camSt p = s.camSt p ∧ u.bit (Reg.CTRL (Reg.pageCAM p)) 0 = true ∧ s.regsBut u [Reg.CTRL (Reg.pageCAM p)] ∧
      { u with regs := s.regs } = s) ∧
  (∀ (src : Req) (p : Fin 2) (s : State), s.cutOff src = false →
    ∃ u : State, exec (.cameraPortDisable src p) s = .next u ∧
      u.camSt p = 0 ∧ u.bit (Reg.CTRL (Reg.pageCAM p)) 0 = false ∧ u.bit (Reg.CAM_POWER_STATUS p) 0 = false ∧
      u.bit (Reg.CAM_POWER_STATUS p) 1 = false ∧ u.out = s.out ++ [Out.pin (0x10 + p) 0] ∧
      u.rdF (Reg.CAM_LANE_STATUS p) 3 0 = 0 ∧ (u.camPort p).locked = [] ∧ (u.camPort p).aligned = 0 ∧
      s.regsBut u [Reg.CTRL (Reg.pageCAM p), Reg.STATUS (Reg.pageCAM p), Reg.CAM_POWER_STATUS p,
        Reg.CAM_LANE_STATUS p, Reg.CAM_FRAME_DROPPED p, Reg.CAM_DROP_LAST p, Reg.INT_STATUS (Reg.pageCAM p),
        Reg.ISP_FIFO_LEVEL0, Reg.ISP_FIFO_LEVEL1, Reg.CAM_FIFO_PEAK p, Reg.INT_STATUS Reg.pageISP, Reg.ISP_CTX_ACTIVE,
        Reg.SCALER_STRIP_SKIPPED, Reg.SCALER_BAND_STATE, Reg.INT_STATUS Reg.pageSCALER] ∧
      { u with regs := s.regs, out := s.out, cam := s.cam, colour := s.colour } = s) ∧
  (∀ (p : Fin 2) (ma : Nat) (s : State), s.camSt p = 1 →
    ∃ u : State, exec (.powerSettle p ma) s = .next u ∧
      u.camSt p = 2 ∧ u.bit (Reg.CAM_POWER_STATUS p) 0 = true ∧ u.rdF (Reg.CAM_POWER_STATUS p) 27 16 = ma % 4096 ∧
      s.regsBut u [Reg.STATUS (Reg.pageCAM p), Reg.CAM_POWER_STATUS p] ∧ { u with regs := s.regs } = s) ∧
  (∀ (p : Fin 2) (ma : Nat) (s : State), s.camSt p ≠ 1 →
    exec (.powerSettle p ma) s = .next s) ∧
  (∀ (p : Fin 2) (ma : Nat) (s : State), 1 ≤ s.camSt p → s.camSt p ≤ 4 →
    ∃ u : State, exec (.powerFault p ma) s = .next u ∧
      u.camSt p = 5 ∧ u.bit (Reg.STATUS (Reg.pageCAM p)) 2 = true ∧ u.bit (Reg.CAM_POWER_STATUS p) 1 = true ∧
      u.bit (Reg.CAM_POWER_STATUS p) 0 = false ∧ u.rdF (Reg.CAM_POWER_STATUS p) 27 16 = ma % 4096 ∧
      u.bit (Reg.INT_STATUS (Reg.pageCAM p)) 16 = true ∧ u.out = s.out ++ [Out.pin (0x10 + p) 0] ∧
      s.regsBut u [Reg.STATUS (Reg.pageCAM p), Reg.CAM_POWER_STATUS p, Reg.CAM_FRAME_DROPPED p, Reg.CAM_DROP_LAST p,
        Reg.INT_STATUS (Reg.pageCAM p), Reg.ISP_FIFO_LEVEL0, Reg.ISP_FIFO_LEVEL1, Reg.CAM_FIFO_PEAK p,
        Reg.INT_STATUS Reg.pageISP, Reg.ISP_CTX_ACTIVE, Reg.SCALER_STRIP_SKIPPED, Reg.SCALER_BAND_STATE,
        Reg.INT_STATUS Reg.pageSCALER] ∧ { u with regs := s.regs, out := s.out, cam := s.cam, colour := s.colour } = s) ∧
  (∀ (p : Fin 2) (ma : Nat) (s : State), s.camSt p = 0 ∨ s.camSt p = 5 →
    ∃ u : State, exec (.powerFault p ma) s = .next u ∧
      u.rdF (Reg.CAM_POWER_STATUS p) 27 16 = ma % 4096 ∧ u.camSt p = s.camSt p ∧
      s.regsBut u [Reg.CAM_POWER_STATUS p] ∧ { u with regs := s.regs } = s) ∧
  (∀ (p : Fin 2) (s : State), s.camSt p = 2 →
    ∃ u : State, exec (.linkTimeout p) s = .next u ∧
      u.bit (Reg.INT_STATUS (Reg.pageCAM p)) 10 = true ∧ u.camSt p = 2 ∧
      s.regsBut u [Reg.INT_STATUS (Reg.pageCAM p)] ∧ { u with regs := s.regs } = s) ∧
  (∀ (p : Fin 2) (blocks : List (Nat × Nat)) (map inv skew : Nat) (s : State), s.camSt p = 3 → skew ≤ 16 →
      readAlignSet blocks = some (map, inv) → (s.camPort p).aligned = 0 →
    ∃ u : State, exec (.alignSet (.cam p) blocks skew) s = .next u ∧
      u.camSt p = 3 ∧ (u.camPort p).aligned = 1 ∧
      u.rdF (Reg.CAM_LANE_STATUS p) 23 16 = max (s.rdF (Reg.CAM_LANE_STATUS p) 23 16) skew ∧
      s.regsBut u [Reg.CAM_LANE_STATUS p] ∧ { u with regs := s.regs, cam := s.cam } = s) ∧
  (∀ (p : Fin 2) (blocks : List (Nat × Nat)) (map inv skew : Nat) (s : State), s.camSt p = 3 → skew ≤ 16 →
      readAlignSet blocks = some (map, inv) → 1 ≤ (s.camPort p).aligned →
    ∃ u : State, exec (.alignSet (.cam p) blocks skew) s = .next u ∧
      u.camSt p = 4 ∧ u.rdF (Reg.CAM_LANE_STATUS p) 7 4 = inv % 16 ∧ u.rdF (Reg.CAM_LANE_STATUS p) 15 8 = map % 256 ∧
      u.bit (Reg.INT_STATUS (Reg.pageCAM p)) 8 = true ∧ u.bit (Reg.STATUS (Reg.pageCAM p)) 0 = true ∧
      s.regsBut u [Reg.CAM_LANE_STATUS p, Reg.STATUS (Reg.pageCAM p), Reg.INT_STATUS (Reg.pageCAM p)] ∧
      { u with regs := s.regs, cam := s.cam } = s) ∧
  (∀ (p : Fin 2) (blocks : List (Nat × Nat)) (map inv skew : Nat) (s : State), s.camSt p = 3 → 16 < skew →
      readAlignSet blocks = some (map, inv) →
    ∃ u : State, exec (.alignSet (.cam p) blocks skew) s = .next u ∧
      u.camSt p = 2 ∧ (u.camPort p).aligned = 0 ∧ (u.camPort p).locked = [] ∧
      u.rd (Reg.CAM_LINK_ERR_COUNT p) = satInc 32 (s.rd (Reg.CAM_LINK_ERR_COUNT p)) ∧
      s.regsBut u [Reg.CAM_LANE_STATUS p, Reg.STATUS (Reg.pageCAM p), Reg.CAM_LINK_ERR_COUNT p] ∧
      { u with regs := s.regs, cam := s.cam } = s) ∧
  (∀ (p : Fin 2) (blocks : List (Nat × Nat)) (skew : Nat) (s : State), s.camSt p = 3 → readAlignSet blocks = none →
    ∃ u : State, exec (.alignSet (.cam p) blocks skew) s = .next u ∧
      u.camSt p = 3 ∧ (u.camPort p).aligned = 0 ∧
      u.rd (Reg.CAM_LINK_ERR_COUNT p) = satAdd 32 (s.rd (Reg.CAM_LINK_ERR_COUNT p)) (camStrays blocks) ∧
      s.regsBut u [Reg.CAM_LINK_ERR_COUNT p] ∧ { u with regs := s.regs, cam := s.cam } = s) ∧
  (∀ (p : Fin 2) (blocks : List (Nat × Nat)) (skew : Nat) (s : State), s.camSt p ≠ 3 → s.camSt p ≠ 4 →
    exec (.alignSet (.cam p) blocks skew) s = .next s) ∧
  (∀ (p : Fin 2) (s : State), s.camSt p = 4 →
    ∃ u : State, exec (.alignTimeout p) s = .next u ∧
      u.camSt p = 2 ∧ u.bit (Reg.INT_STATUS (Reg.pageCAM p)) 9 = true ∧ (u.camPort p).aligned = 0 ∧
      (u.camPort p).locked = [] ∧ u.rdF (Reg.CAM_LANE_STATUS p) 3 0 = 0 ∧
      s.regsBut u [Reg.STATUS (Reg.pageCAM p), Reg.CAM_LANE_STATUS p, Reg.CAM_FRAME_DROPPED p, Reg.CAM_DROP_LAST p,
        Reg.INT_STATUS (Reg.pageCAM p), Reg.ISP_FIFO_LEVEL0, Reg.ISP_FIFO_LEVEL1, Reg.CAM_FIFO_PEAK p,
        Reg.INT_STATUS Reg.pageISP, Reg.ISP_CTX_ACTIVE, Reg.SCALER_STRIP_SKIPPED, Reg.SCALER_BAND_STATE,
        Reg.INT_STATUS Reg.pageSCALER] ∧ { u with regs := s.regs, cam := s.cam, colour := s.colour } = s) ∧
  (∀ (p : Fin 2) (s : State), s.camSt p ≠ 4 →
    exec (.alignTimeout p) s = .next s) ∧
  (∀ (src : Req) (p : Fin 2) (s : State), s.cutOff src = false → s.rdF (Reg.CAM_CCI_STATUS p) 2 0 = 1 →
    ∃ u : State, exec (.cciGo src p) s = .next u ∧
      s.errored u (Reg.pageCAM p) 0x0102 (Reg.CAM_CCI_CMD p) (srcCode src) ∧ s.regsBut u (errorKeys (Reg.pageCAM p)) ∧
      { u with regs := s.regs } = s) ∧
  (∀ (src : Req) (p : Fin 2) (s : State), s.cutOff src = false → s.rdF (Reg.CAM_CCI_STATUS p) 2 0 ≠ 1 →
    ∃ u : State, exec (.cciGo src p) s = .next u ∧
      u.rdF (Reg.CAM_CCI_STATUS p) 2 0 = 1 ∧
      u.out = s.out ++ [Out.cci p (s.cciWord p), s.camCoded p [(controlHeader, s.cciWord p)]] ∧
      (u.camPort p).cci = some (s.rdF (Reg.CAM_CCI_CMD p) 6 0, s.rdF (Reg.CAM_CCI_REG p) 15 0) ∧
      s.regsBut u [Reg.CAM_CCI_STATUS p] ∧ { u with regs := s.regs, out := s.out, cam := s.cam } = s) ∧
  (∀ (p : Fin 2) (b : Nat) (s : State), s.camSt p = 4 → camStray b = false → s.rdF (Reg.CAM_CCI_STATUS p) 2 0 = 1 →
      s.cciAnswers p b = true →
    ∃ u : State, exec (.cciReply p b) s = .next u ∧
      (u.rdF (Reg.CAM_CCI_STATUS p) 2 0 = if bitOf b 11 = true then 3 else 2) ∧
      (u.rdF (Reg.CAM_CCI_DATA p) 15 0 = if s.bit (Reg.CAM_CCI_CMD p) 8 = true ∧ bitOf b 11 =
        false then (if s.bit (Reg.CAM_CCI_CMD p) 9 = true then fld b 55 40 else fld b 55 40 % 256) else
        s.rdF (Reg.CAM_CCI_DATA p) 15 0) ∧ (u.camPort p).cci = none ∧
      u.bit (Reg.INT_STATUS (Reg.pageCAM p)) 15 = true ∧
      s.regsBut u [Reg.CAM_CCI_STATUS p, Reg.CAM_CCI_DATA p, Reg.INT_STATUS (Reg.pageCAM p)] ∧
      { u with regs := s.regs, cam := s.cam } = s) ∧
  (∀ (p : Fin 2) (b : Nat) (s : State), s.camSt p = 4 → camStray b = true →
    ∃ u : State, exec (.cciReply p b) s = .next u ∧
      u.rd (Reg.CAM_LINK_ERR_COUNT p) = satAdd 32 (s.rd (Reg.CAM_LINK_ERR_COUNT p)) 1 ∧
      s.regsBut u [Reg.CAM_LINK_ERR_COUNT p] ∧ { u with regs := s.regs } = s) ∧
  (∀ (p : Fin 2) (b : Nat) (s : State),
      s.camSt p ≠ 4 ∨ (camStray b = false ∧ (s.rdF (Reg.CAM_CCI_STATUS p) 2 0 ≠ 1 ∨ s.cciAnswers p b = false)) →
    exec (.cciReply p b) s = .next s) ∧
  (∀ (p : Fin 2) (s : State), s.rdF (Reg.CAM_CCI_STATUS p) 2 0 = 1 →
    ∃ u : State, exec (.cciTimeout p) s = .next u ∧
      u.rdF (Reg.CAM_CCI_STATUS p) 2 0 = 4 ∧ (u.camPort p).cci = none ∧
      u.bit (Reg.INT_STATUS (Reg.pageCAM p)) 15 = true ∧
      s.regsBut u [Reg.CAM_CCI_STATUS p, Reg.INT_STATUS (Reg.pageCAM p)] ∧ { u with regs := s.regs, cam := s.cam } = s)

/-- Frames of a camera port, record publication and the statistics ring. FRAME_START of a mapped virtual channel
opens a frame, bound to the oldest trigger record of its number or counted UNMATCHED, and discards an unmapped
one; a good line joins the FIFO, a line with a bad CRC drops the frame; FRAME_END of a complete frame keeps it
for the ISP, of a short one drops it; a missing FRAME_END drops it; a trigger record that times out counts the
channels that are missing; ISP_LINE takes the next line of the port whose turn it is. The oldest processed frame
of a context is published where its ring slot is free and lies in its region, and otherwise counted in OVERFLOW;
ISP_TABLE_SYNC_DONE clears the synchronisation bit; READ_IDX_HOST moves within the written records, and an index
beyond them is refused. Spec: 08_camera_pipeline.md. -/
def Obligations.CameraFramesAndRecords : Prop :=
  (∀ (p : Fin 2) (vc : Fin 16) (num t : Nat) (co : Bool) (s : State), s.camSt p = 4 → s.mapped p vc = false →
      (s.camPort p).records = [] → (s.camPort p).mapWait = [] → (s.camPort p).frames = [] →
    ∃ u : State, exec (.frameStart p vc num co t) s = .next u ∧
      (u.rd (Reg.CAM_HDR_ECC_CORR p) = if co = true then satInc 32 (s.rd (Reg.CAM_HDR_ECC_CORR p)) else
        s.rd (Reg.CAM_HDR_ECC_CORR p)) ∧ u.rd (Reg.CAM_DISCARD_COUNT p) = satInc 32 (s.rd (Reg.CAM_DISCARD_COUNT p)) ∧
      (u.camPort p).frames = [] ∧ s.regsBut u [Reg.CAM_HDR_ECC_CORR p, Reg.CAM_DISCARD_COUNT p] ∧
      { u with regs := s.regs, frc := s.frc, cam := s.cam } = s) ∧
  (∀ (p : Fin 2) (vc : Fin 16) (num t : Nat) (co : Bool) (s : State), s.camSt p = 4 → s.mapped p vc = true →
      (s.camPort p).records = [] → (s.camPort p).mapWait = [] → (s.camPort p).frames = [] →
    ∃ u : State, exec (.frameStart p vc num co t) s = .next u ∧
      (u.rd (Reg.CAM_HDR_ECC_CORR p) = if co = true then satInc 32 (s.rd (Reg.CAM_HDR_ECC_CORR p)) else
        s.rd (Reg.CAM_HDR_ECC_CORR p)) ∧ u.rd (Reg.CAM_UNMATCHED p) = satInc 32 (s.rd (Reg.CAM_UNMATCHED p)) ∧
      u.rd (Reg.CAM_UNMATCHED_LAST p) = num % 65536 + vc * 65536 ∧ u.bit (Reg.INT_STATUS (Reg.pageCAM p)) 12 = true ∧
      (∀ f ∈ (u.camPort p).frames, f.id = (s.camPort p).nextId ∧ f.vc = vc.val ∧ f.num = num % 65536 ∧ f.ctx =
        s.streamMap p vc % 16 ∧ f.fsFrc = u.frc ∧ f.rec_ = none) ∧ (u.camPort p).frames.length = 1 ∧
      s.regsBut u [Reg.CAM_HDR_ECC_CORR p, Reg.CAM_UNMATCHED p, Reg.CAM_UNMATCHED_LAST p,
        Reg.INT_STATUS (Reg.pageCAM p), Reg.ISP_CTX_ACTIVE] ∧
      { u with regs := s.regs, frc := s.frc, cam := s.cam } = s) ∧
  (∀ (p : Fin 2) (vc : Fin 16) (num t : Nat) (co : Bool) (r : TrigRecord) (s : State), s.camSt p = 4 →
      s.mapped p vc = true → (s.camPort p).records = [r] → r.num % 65536 = num % 65536 → r.seen.contains vc.val = false →
      (s.camPort p).mapWait = [] → (s.camPort p).frames = [] → s.frameDue (Reg.pageCAM p) (num % 65536) = false →
      s.frameDue Reg.pageISP (num % 65536) = false →
      s.frameDue (Reg.pageISPCTX (s.streamMap p vc % 16)) (num % 65536) = false →
    ∃ u : State, exec (.frameStart p vc num co t) s = .next u ∧
      (u.rd (Reg.CAM_HDR_ECC_CORR p) = if co = true then satInc 32 (s.rd (Reg.CAM_HDR_ECC_CORR p)) else
        s.rd (Reg.CAM_HDR_ECC_CORR p)) ∧ u.rd (Reg.CAM_FRAMES_BOUND p) = satInc 32 (s.rd (Reg.CAM_FRAMES_BOUND p)) ∧
      (∀ f ∈ (u.camPort p).frames, f.id = (s.camPort p).nextId ∧ f.vc = vc.val ∧ f.num = num % 65536 ∧ f.rec_ =
        some r) ∧ (u.camPort p).frames.length = 1 ∧
      ((u.camPort p).records = if (s.enabledVcs p).all (r.seen ++ [vc.val]).contains = true then [] else
        [{ r with seen := r.seen ++ [vc.val] }]) ∧
      s.regsBut u [Reg.CAM_HDR_ECC_CORR p, Reg.CAM_FRAMES_BOUND p, Reg.ISP_CTX_ACTIVE] ∧
      { u with regs := s.regs, frc := s.frc, cam := s.cam } = s) ∧
  (∀ (p : Fin 2) (vc : Fin 16) (num t : Nat) (co : Bool) (s : State), s.camSt p ≠ 4 →
    exec (.frameStart p vc num co t) s = .next (s.till t)) ∧
  (∀ (p : Fin 2) (k : CamPacket) (f : CamFrame) (s : State), s.camSt p = 4 → pktStrays k = 0 → k.eccBad = false →
      k.eccCorrected = false → s.mapped p (pktVc k) = true → (s.camPort p).frames = [f] → f.vc = pktVc k →
      f.ended = false → f.dropped = false → pktType k = 0x2A + fld f.cfg 1 0 → k.crcOk = true → pktLengthOk k = true →
      8 * pktWc k = f.width * f.bits → f.received < f.height → bitOf f.cfg 12 = false →
      (s.camPort p).level + pktWc k ≤ 262144 →
    ∃ u : State, exec (.linePacket p k) s = .next u ∧
      (u.camPort p).fifo = (s.camPort p).fifo ++ [{ frame := f.id, bytes := pktWc k, pixels := (pktPixels k f.bits).map (· * 2 ^ (14 - f.bits)) }] ∧
      (u.camPort p).frames = [{ f with received := f.received + 1, lineHas := true }] ∧
      u.rd (if p.val = 0 then Reg.ISP_FIFO_LEVEL0 else Reg.ISP_FIFO_LEVEL1) = (u.camPort p).level ∧
      s.regsBut u [Reg.ISP_FIFO_LEVEL0, Reg.ISP_FIFO_LEVEL1, Reg.CAM_FIFO_PEAK p, Reg.INT_STATUS Reg.pageISP] ∧
      { u with regs := s.regs, cam := s.cam } = s) ∧
  (∀ (p : Fin 2) (k : CamPacket) (f : CamFrame) (s : State), s.camSt p = 4 → pktStrays k = 0 → k.eccBad = false →
      k.eccCorrected = false → s.mapped p (pktVc k) = true → (s.camPort p).frames = [f] → f.vc = pktVc k →
      f.ended = false → f.dropped = false → 0x2A ≤ pktType k → pktType k ≤ 0x2D → (k.crcOk && pktLengthOk k) = false →
    ∃ u : State, exec (.linePacket p k) s = .next u ∧
      (∀ g ∈ (u.camPort p).frames, g.dropped = true ∧ g.lines = []) ∧
      u.rd (Reg.CAM_FRAME_DROPPED p) = satInc 32 (s.rd (Reg.CAM_FRAME_DROPPED p)) ∧
      u.rd (Reg.CAM_DROP_LAST p) = (4 + pktVc k * 16 + f.num * 65536) % 2 ^ 32 ∧
      u.bit (Reg.INT_STATUS (Reg.pageCAM p)) 11 = true ∧
      s.regsBut u [Reg.CAM_FRAME_DROPPED p, Reg.CAM_DROP_LAST p, Reg.INT_STATUS (Reg.pageCAM p),
        Reg.ISP_FIFO_LEVEL0, Reg.ISP_FIFO_LEVEL1, Reg.CAM_FIFO_PEAK p, Reg.INT_STATUS Reg.pageISP, Reg.ISP_CTX_ACTIVE,
        Reg.SCALER_STRIP_SKIPPED, Reg.SCALER_BAND_STATE, Reg.INT_STATUS Reg.pageSCALER] ∧
      { u with regs := s.regs, cam := s.cam, colour := s.colour } = s) ∧
  (∀ (p : Fin 2) (k : CamPacket) (s : State), s.camSt p ≠ 4 →
    exec (.linePacket p k) s = .next s) ∧
  (∀ (p : Fin 2) (vc : Fin 16) (num : Nat) (co : Bool) (f : CamFrame) (s : State), (s.camPort p).frames = [f] →
      f.vc = vc.val → f.ended = false → f.dropped = false → f.received = f.height → f.lineOpen = false →
      f.lines.length ≠ f.height →
    ∃ u : State, exec (.frameEnd p vc num co) s = .next u ∧
      (u.camPort p).frames = [{ f with ended := true }] ∧ u.cam.done = s.cam.done ∧
      s.regsBut u [Reg.CAM_HDR_ECC_CORR p, Reg.ISP_CTX_ACTIVE] ∧ { u with regs := s.regs, cam := s.cam } = s) ∧
  (∀ (p : Fin 2) (vc : Fin 16) (num : Nat) (co : Bool) (f : CamFrame) (s : State), (s.camPort p).frames = [f] →
      f.vc = vc.val → f.ended = false → f.dropped = false → f.received = f.height → f.lineOpen = false →
      f.lines.length = f.height → f.rec_.isSome = true →
    ∃ u : State, exec (.frameEnd p vc num co) s = .next u ∧
      (u.camPort p).frames = [] ∧ u.cam.done = s.cam.done ++ [(p.val, { f with ended := true })] ∧
      s.regsBut u [Reg.CAM_HDR_ECC_CORR p, Reg.ISP_CTX_ACTIVE] ∧ { u with regs := s.regs, cam := s.cam } = s) ∧
  (∀ (p : Fin 2) (vc : Fin 16) (num : Nat) (co : Bool) (f : CamFrame) (s : State), (s.camPort p).frames = [f] →
      f.vc = vc.val → f.ended = false → f.dropped = false → f.received ≠ f.height →
    ∃ u : State, exec (.frameEnd p vc num co) s = .next u ∧
      (u.camPort p).frames = [] ∧ u.rd (Reg.CAM_DROP_LAST p) = (5 + vc * 16 + f.num * 65536) % 2 ^ 32 ∧
      u.bit (Reg.INT_STATUS (Reg.pageCAM p)) 11 = true ∧ u.cam.done = s.cam.done ∧
      s.regsBut u [Reg.CAM_HDR_ECC_CORR p, Reg.CAM_FRAME_DROPPED p, Reg.CAM_DROP_LAST p,
        Reg.INT_STATUS (Reg.pageCAM p), Reg.ISP_FIFO_LEVEL0, Reg.ISP_FIFO_LEVEL1, Reg.CAM_FIFO_PEAK p,
        Reg.INT_STATUS Reg.pageISP, Reg.ISP_CTX_ACTIVE, Reg.SCALER_STRIP_SKIPPED, Reg.SCALER_BAND_STATE,
        Reg.INT_STATUS Reg.pageSCALER] ∧ { u with regs := s.regs, cam := s.cam, colour := s.colour } = s) ∧
  (∀ (p : Fin 2) (vc : Fin 16) (f : CamFrame) (s : State), (s.camPort p).frames = [f] → f.vc = vc.val →
      f.ended = false → f.dropped = false →
    ∃ u : State, exec (.frameTimeout p vc) s = .next u ∧
      (u.camPort p).frames = [{ f with dropped := true, lines := [] }] ∧
      u.rd (Reg.CAM_DROP_LAST p) = (8 + vc * 16 + f.num * 65536) % 2 ^ 32 ∧
      u.bit (Reg.INT_STATUS (Reg.pageCAM p)) 11 = true ∧
      s.regsBut u [Reg.CAM_FRAME_DROPPED p, Reg.CAM_DROP_LAST p, Reg.INT_STATUS (Reg.pageCAM p),
        Reg.ISP_FIFO_LEVEL0, Reg.ISP_FIFO_LEVEL1, Reg.CAM_FIFO_PEAK p, Reg.INT_STATUS Reg.pageISP, Reg.ISP_CTX_ACTIVE,
        Reg.SCALER_STRIP_SKIPPED, Reg.SCALER_BAND_STATE, Reg.INT_STATUS Reg.pageSCALER] ∧
      { u with regs := s.regs, cam := s.cam, colour := s.colour } = s) ∧
  (∀ (p : Fin 2) (r : TrigRecord) (rs : List TrigRecord) (s : State), (s.camPort p).records = r :: rs →
      ((s.enabledVcs p).filter (fun v => !r.seen.contains v)).length ≠ 0 →
    ∃ u : State, exec (.triggerRecordTimeout p) s = .next u ∧
      (u.camPort p).records = rs ∧
      u.rd (Reg.CAM_FRAME_MISSING p) =
        satAdd 32 (s.rd (Reg.CAM_FRAME_MISSING p)) ((s.enabledVcs p).filter (fun v => !r.seen.contains v)).length ∧
      u.bit (Reg.INT_STATUS (Reg.pageCAM p)) 13 = true ∧
      s.regsBut u [Reg.CAM_FRAME_MISSING p, Reg.INT_STATUS (Reg.pageCAM p), Reg.SCALER_STRIP_SKIPPED,
        Reg.SCALER_BAND_STATE, Reg.INT_STATUS Reg.pageSCALER] ∧
      { u with regs := s.regs, cam := s.cam, colour := s.colour } = s) ∧
  (∀ (p : Fin 2) (l : FifoLine) (ls : List FifoLine) (f : CamFrame) (s : State), s.ispPort = p.val →
      (s.camPort p).fifo = l :: ls → (s.camPort p).frames = [f] → f.id = l.frame → f.dropped = false → f.ended = false →
    ∃ u : State, exec (.ispLine p) s = .next u ∧
      (u.camPort p).fifo = ls ∧ (u.camPort p).frames = [{ f with lines := f.lines ++ [l.pixels] }] ∧
      u.cam.last = p.val ∧
      u.rd64 Reg.ISP_PIXELS_LO Reg.ISP_PIXELS_HI =
        (s.rd64 Reg.ISP_PIXELS_LO Reg.ISP_PIXELS_HI + l.pixels.length) % 2 ^ 64 ∧
      s.regsBut u [Reg.ISP_PIXELS_LO, Reg.ISP_PIXELS_HI, Reg.ISP_FIFO_LEVEL0, Reg.ISP_FIFO_LEVEL1,
        Reg.CAM_FIFO_PEAK p, Reg.INT_STATUS Reg.pageISP] ∧ { u with regs := s.regs, cam := s.cam } = s) ∧
  (∀ (p : Fin 2) (s : State), s.ispPort ≠ p.val ∨ (s.camPort p).fifo = [] →
    exec (.ispLine p) s = .next s) ∧
  (∀ (ctx : Fin 16) (s : State), s.cam.done.find? (fun e => e.2.ctx == ctx.val) = none →
    exec (.statsRecordPublish ctx) s = .next s) ∧
  (∀ (ctx : Fin 16) (port : Nat) (f : CamFrame) (r : TrigRecord) (s : State),
      s.cam.done.find? (fun e => e.2.ctx == ctx.val) = some (port, f) → f.rec_ = some r →
      (s.rd Reg.STATS_WRITE_IDX + 1) % s.ringSlots = s.rd Reg.STATS_READ_IDX_HOST →
    ∃ u : State, exec (.statsRecordPublish ctx) s = .next u ∧
      u.cam.done = s.cam.done.erase (port, f) ∧ u.rd Reg.STATS_OVERFLOW = satInc 32 (s.rd Reg.STATS_OVERFLOW) ∧
      u.bit (Reg.INT_STATUS Reg.pageSTATS) 9 = true ∧
      s.regsBut u [Reg.STATS_OVERFLOW, Reg.INT_STATUS Reg.pageSTATS, Reg.SCALER_STRIP_SKIPPED,
        Reg.SCALER_BAND_STATE, Reg.INT_STATUS Reg.pageSCALER] ∧
      { u with regs := s.regs, cam := s.cam, colour := s.colour } = s) ∧
  (∀ (ctx : Fin 16) (port : Nat) (f : CamFrame) (r : TrigRecord) (s : State),
      s.cam.done.find? (fun e => e.2.ctx == ctx.val) = some (port, f) → f.rec_ = some r →
      (s.rd Reg.STATS_WRITE_IDX + 1) % s.ringSlots ≠ s.rd Reg.STATS_READ_IDX_HOST →
      s.scalerEn = false ∨ (s.rd Reg.STATS_WRITE_IDX + 1) % s.ringSlots ≠ s.rd Reg.STATS_READ_IDX_SCALER →
      s.inRegion 58 (s.recordAddr (s.rd Reg.STATS_WRITE_IDX)) 49152 = true → s.bit Reg.ISP_OUT_MASK f.ctx = false →
      s.poisonedIn (s.recordAddr (s.rd Reg.STATS_WRITE_IDX)) 1 = false →
      s.poisonedIn (s.recordAddr (s.rd Reg.STATS_WRITE_IDX) + 4 * (recordWords f r port s.cam.seq none).length - 1) 1 =
      false →
    ∃ u : State, exec (.statsRecordPublish ctx) s = .next u ∧
      s.outButDram u ∧ u.cam.done = s.cam.done.erase (port, f) ∧ u.cam.seq = (s.cam.seq + 1) % 2 ^ 32 ∧
      u.rd Reg.STATS_WRITE_IDX = (s.rd Reg.STATS_WRITE_IDX + 1) % s.ringSlots ∧
      u.rd Reg.STATS_PUBLISHED = satInc 32 (s.rd Reg.STATS_PUBLISHED) ∧
      u.rd (Reg.ISPCTX_LAST_FRAME ctx) = f.num % 65536 ∧ u.bit (Reg.INT_STATUS Reg.pageISPCTX_PORT) 8 = true ∧
      (∀ i, i < (recordWords f r port s.cam.seq none).length →
        u.memWord (s.recordAddr (s.rd Reg.STATS_WRITE_IDX) + 4 * i) 4 =
        (recordWords f r port s.cam.seq none).getD i 0 % 2 ^ 32) ∧
      (∀ a, a < s.recordAddr (s.rd Reg.STATS_WRITE_IDX) ∨
        s.recordAddr (s.rd Reg.STATS_WRITE_IDX) + 4 * (recordWords f r port s.cam.seq none).length ≤ a → u.memByte a =
        s.memByte a) ∧
      s.regsBut u [Reg.STATS_WRITE_IDX, Reg.STATS_PUBLISHED, Reg.ISPCTX_FRAMES ctx, Reg.ISPCTX_LAST_FRAME ctx,
        Reg.INT_STATUS Reg.pageISPCTX_PORT, Reg.INT_STATUS Reg.pageSTATS] ∧
      { u with regs := s.regs, cam := s.cam, job := s.job, dram := s.dram, out := s.out } = s) ∧
  (∀ (ctx : Fin 16) (s : State),
    ∃ u : State, exec (.ispTableSyncDone ctx) s = .next u ∧
      u.bit (Reg.ISPCTX_TABLE_STATE ctx) 0 = false ∧ s.regsBut u [Reg.ISPCTX_TABLE_STATE ctx] ∧
      { u with regs := s.regs } = s) ∧
  (∀ (src : Req) (data : Nat) (s : State), s.cutOff src = false → data % 2 ^ 14 < s.ringSlots →
      ringGap s.ringSlots (data % 2 ^ 14) (s.rd Reg.STATS_READ_IDX_HOST) ≤ ringGap s.ringSlots (s.rd Reg.STATS_WRITE_IDX) (s.rd Reg.STATS_READ_IDX_HOST) →
    ∃ u : State, exec (.readIdxHostWrite src data) s = .next u ∧
      u.rd Reg.STATS_READ_IDX_HOST = data % 2 ^ 14 ∧
      s.regsBut u [Reg.STATS_READ_IDX_HOST, Reg.INT_STATUS Reg.pageSTATS] ∧ { u with regs := s.regs } = s) ∧
  (∀ (src : Req) (data : Nat) (s : State), s.cutOff src = false →
      s.ringSlots ≤ data % 2 ^ 14 ∨
      ¬ (ringGap s.ringSlots (data % 2 ^ 14) (s.rd Reg.STATS_READ_IDX_HOST) ≤ ringGap s.ringSlots (s.rd Reg.STATS_WRITE_IDX) (s.rd Reg.STATS_READ_IDX_HOST)) →
    ∃ u : State, exec (.readIdxHostWrite src data) s = .next u ∧
      s.errored u Reg.pageSTATS 0x0102 Reg.STATS_READ_IDX_HOST (srcCode src) ∧ s.regsBut u (errorKeys Reg.pageSTATS) ∧
      { u with regs := s.regs } = s)

/-- Records taken, cycles and result sets. The Scaler takes the record at its read index and passes over one that no
armed trigger asks for; an expired cycle counts and starts anew; a complete result set is written to its slot
and the write index moves, or the set is discarded and counted when no slot is free; STAIR_FORCE and
CYCLE_RESTART as R284 and R290 have them. Spec: 09_colour_loop.md. -/
def Obligations.ScalerCommands : Prop :=
  (∀ (l : List (Nat × Nat)) (s : State), bitOf s.colour.cfg 5 = true → s.scalerEn = true →
      s.rd Reg.STATS_READ_IDX_SCALER ≠ s.rd Reg.STATS_WRITE_IDX → s.colour.armed = [] →
    ∃ u : State, exec (.scalerRecordTake l) s = .next u ∧
      u.rd Reg.STATS_READ_IDX_SCALER = (s.rd Reg.STATS_READ_IDX_SCALER + 1) % s.ringSlots ∧
      s.regsBut u [Reg.STATS_READ_IDX_SCALER] ∧ { u with regs := s.regs } = s) ∧
  (∀ (l : List (Nat × Nat)) (g : Trigger) (s : State), bitOf s.colour.cfg 5 = true → s.scalerEn = true →
      s.rd Reg.STATS_READ_IDX_SCALER ≠ s.rd Reg.STATS_WRITE_IDX → s.colour.armed = [g] → g.kind = 0 → g.got = 0 →
      g.port = fld (s.recWord (s.recordAddr (s.rd Reg.STATS_READ_IDX_SCALER)) 0) 20 20 →
      g.plan = fld (s.recWord (s.recordAddr (s.rd Reg.STATS_READ_IDX_SCALER)) 7) 15 0 →
      g.band = fld (s.recWord (s.recordAddr (s.rd Reg.STATS_READ_IDX_SCALER)) 7) 19 16 →
      s.poisonedIn (s.recordAddr (s.rd Reg.STATS_READ_IDX_SCALER)) (s.recWord (s.recordAddr (s.rd Reg.STATS_READ_IDX_SCALER)) 14) =
      true → 1 + g.lost < (s.enabledVcs g.port).length →
    ∃ u : State, exec (.scalerRecordTake l) s = .next u ∧
      u.colour.armed = [{ g with got := 1 }] ∧
      u.rd Reg.SCALER_STRIP_SKIPPED = satInc 32 (s.rd Reg.SCALER_STRIP_SKIPPED) ∧
      u.bit (Reg.INT_STATUS Reg.pageSCALER) 12 = true ∧ u.colour.patches = s.colour.patches ∧
      s.regsBut u [Reg.STATS_READ_IDX_SCALER, Reg.SCALER_STRIP_SKIPPED, Reg.INT_STATUS Reg.pageSCALER] ∧
      { u with regs := s.regs, colour := s.colour } = s) ∧
  (∀ (l : List (Nat × Nat)) (s : State), (∀ g ∈ s.colour.armed, s.triggerOver g = false) →
      bitOf s.colour.cfg 5 = false ∨ s.scalerEn = false ∨ s.rd Reg.STATS_READ_IDX_SCALER = s.rd Reg.STATS_WRITE_IDX →
    exec (.scalerRecordTake l) s = .next s) ∧
  (∀ (first last : Nat) (s : State), s.colour.span = some (first, last) →
      first + atLeast1 (s.rdF Reg.SCALER_CYCLE_CFG 7 0) ≤ s.rd Reg.SCALER_STRIP_NUM - 1 →
    ∃ u : State, exec (.cycleExpired) s = .next u ∧
      u.rd Reg.SCALER_CYCLE_EXPIRED = satInc 32 (s.rd Reg.SCALER_CYCLE_EXPIRED) ∧
      u.rdF Reg.SCALER_BAND_STATE 11 0 = 0 ∧ u.rdF Reg.SCALER_BAND_STATE 31 12 = s.rdF Reg.SCALER_BAND_STATE 31 12 ∧
      u.bit (Reg.INT_STATUS Reg.pageSCALER) 9 = true ∧ u.colour.patches = [] ∧ u.colour.span = none ∧
      u.colour.armed = s.colour.armed ∧
      s.regsBut u [Reg.SCALER_CYCLE_EXPIRED, Reg.SCALER_BAND_STATE, Reg.INT_STATUS Reg.pageSCALER] ∧
      { u with regs := s.regs, colour := s.colour } = s) ∧
  (∀ (first last : Nat) (s : State), s.colour.span = some (first, last) →
      s.rd Reg.SCALER_STRIP_NUM - 1 < first + atLeast1 (s.rdF Reg.SCALER_CYCLE_CFG 7 0) →
    exec (.cycleExpired) s = .next s) ∧
  (∀ s : State, s.colour.span = none →
    exec (.cycleExpired) s = .next s) ∧
  (∀ (marks : Bool) (s : State), s.colour.sets.find? (fun x => x.2 == marks) = none →
    exec (.resultSetPublish marks) s = .next s) ∧
  (∀ (marks : Bool) (x : List Byte × Bool) (s : State), s.colour.sets.find? (fun x => x.2 == marks) = some x →
      (s.rdF Reg.SCALER_RESULT_WRITE 7 0 + 1) % s.resultSlots = s.rdF Reg.SCALER_RESULT_READ 7 0 →
    ∃ u : State, exec (.resultSetPublish marks) s = .next u ∧
      u.colour.sets = s.colour.sets.erase x ∧
      u.rd Reg.SCALER_RESULT_OVERFLOW = satInc 32 (s.rd Reg.SCALER_RESULT_OVERFLOW) ∧
      u.bit (Reg.INT_STATUS Reg.pageSCALER) 13 = true ∧
      s.regsBut u [Reg.SCALER_RESULT_OVERFLOW, Reg.INT_STATUS Reg.pageSCALER] ∧
      { u with regs := s.regs, colour := s.colour } = s) ∧
  (∀ (marks : Bool) (x : List Byte × Bool) (s : State), s.colour.sets.find? (fun x => x.2 == marks) = some x →
      (s.rdF Reg.SCALER_RESULT_WRITE 7 0 + 1) % s.resultSlots ≠ s.rdF Reg.SCALER_RESULT_READ 7 0 →
      s.inRegion 58 (s.region58 + s.rdF Reg.SCALER_RESULT_BASE 16 0 * 4096 + s.rdF Reg.SCALER_RESULT_WRITE 7 0 * 65536) 65536 =
      true → s.rdF Reg.SCALER_LOOP_CTRL 3 0 = 0 →
      (marks = true → ∀ c ∈ channels, smGet (fun _ => none) s.colour.calib c = none) →
      s.poisonedIn (s.region58 + s.rdF Reg.SCALER_RESULT_BASE 16 0 * 4096 + s.rdF Reg.SCALER_RESULT_WRITE 7 0 * 65536) 1 =
      false →
      s.poisonedIn (s.region58 + s.rdF Reg.SCALER_RESULT_BASE 16 0 * 4096 + s.rdF Reg.SCALER_RESULT_WRITE 7 0 * 65536 + x.1.length - 1) 1 =
      false →
    ∃ u : State, exec (.resultSetPublish marks) s = .next u ∧
      s.outButDram u ∧ u.colour.sets = s.colour.sets.erase x ∧
      u.rd Reg.SCALER_RESULT_WRITE = (s.rdF Reg.SCALER_RESULT_WRITE 7 0 + 1) % s.resultSlots ∧
      u.rd Reg.SCALER_RESULT_READ = s.rd Reg.SCALER_RESULT_READ ∧ u.bit (Reg.INT_STATUS Reg.pageSCALER) 8 = true ∧
      u.memBytes (s.region58 + s.rdF Reg.SCALER_RESULT_BASE 16 0 * 4096 + s.rdF Reg.SCALER_RESULT_WRITE 7 0 * 65536) x.1.length =
        x.1 ∧ s.regsBut u [Reg.SCALER_RESULT_WRITE, Reg.INT_STATUS Reg.pageSCALER] ∧
      { u with regs := s.regs, colour := s.colour, job := s.job, dram := s.dram, out := s.out } = s) ∧
  (∀ (src : Req) (k : Nat) (s : State), s.cutOff src = false → s.writeGate src = none → s.pairMode = false →
      k =
      ((s.rd Reg.SCALER_STRIP_NUM : Int) - (-(ldiff (ladd s.nextLine 64) (s.stripStart (s.rd Reg.SCALER_STRIP_NUM)))).fdiv (atLeast1 s.stripPeriod)).toNat →
    ∃ u : State, exec (.stairForce src) s = .next u ∧
      u.colour.forced = s.colour.forced.filter (· != k) ++ [k] ∧ u.hasStair k = true ∧
      { u with colour := s.colour } = s) ∧
  (∀ (src : Req) (code : Nat) (s : State), s.cutOff src = false → s.writeGate src = some code →
    ∃ u : State, exec (.stairForce src) s = .next u ∧
      s.errored u Reg.pageSCALER code Reg.SCALER_STRIP_CTRL (srcCode src) ∧ s.regsBut u (errorKeys Reg.pageSCALER) ∧
      { u with regs := s.regs } = s) ∧
  (∀ (src : Req) (s : State), s.cutOff src = false → s.writeGate src = none → s.pairMode = false →
    ∃ u : State, exec (.cycleRestart src) s = .next u ∧
      u.rdF Reg.SCALER_BAND_STATE 11 0 = 0 ∧ u.rdF Reg.SCALER_BAND_STATE 31 12 = s.rdF Reg.SCALER_BAND_STATE 31 12 ∧
      u.colour.patches = [] ∧ u.colour.binding = [] ∧ u.colour.span = none ∧ u.colour.armed = s.colour.armed ∧
      s.regsBut u [Reg.SCALER_BAND_STATE] ∧ { u with regs := s.regs, colour := s.colour } = s) ∧
  (∀ (src : Req) (code : Nat) (s : State), s.cutOff src = false → s.writeGate src = some code →
    ∃ u : State, exec (.cycleRestart src) s = .next u ∧
      s.errored u Reg.pageSCALER code Reg.SCALER_STRIP_CTRL (srcCode src) ∧ s.regsBut u (errorKeys Reg.pageSCALER) ∧
      { u with regs := s.regs } = s) ∧
  (∀ (src : Req) (c : Fin 128) (s : State), s.cutOff src = false → s.half Reg.SCALER_DRIFT_MEAN c ≠ 0x8000 →
    ∃ u : State, exec (.driftReref src c) s = .next u ∧
      u.half Reg.SCALER_DRIFT_REF c = s.half Reg.SCALER_DRIFT_MEAN c ∧ u.colour.reref.contains c.val = false ∧
      s.regsBut u [Reg.SCALER_DRIFT_REF (c / 2)] ∧ { u with regs := s.regs, colour := s.colour } = s) ∧
  (∀ (src : Req) (c : Fin 128) (s : State), s.cutOff src = false → s.half Reg.SCALER_DRIFT_MEAN c = 0x8000 →
    ∃ u : State, exec (.driftReref src c) s = .next u ∧
      u.half Reg.SCALER_DRIFT_REF c = 0x8000 ∧ u.colour.reref.contains c.val = true ∧
      s.regsBut u [Reg.SCALER_DRIFT_REF (c / 2)] ∧ { u with regs := s.regs, colour := s.colour } = s) ∧
  (∀ (c : Fin 128) (t : Nat) (s : State), smGet (fun _ => []) s.colour.temps c = [] →
      smGet (fun _ => []) s.colour.bins c = [] →
    ∃ u : State, exec (.driftBin c t) s = .next u ∧
      u.half Reg.SCALER_DRIFT_MEAN c = 0x8000 ∧ smGet (fun _ => []) u.colour.bins c = [none] ∧
      smGet (fun _ => []) u.colour.temps c = [] ∧ s.regsBut u [Reg.SCALER_DRIFT_MEAN (c / 2)] ∧
      { u with regs := s.regs, frc := s.frc, colour := s.colour } = s) ∧
  (∀ (c : Fin 128) (t : Nat) (x : Int) (s : State), smGet (fun _ => []) s.colour.temps c = [x] →
      smGet (fun _ => []) s.colour.bins c = [] → s.rdF Reg.SCALER_DRIFT_CFG 15 8 = 1 →
      s.half Reg.SCALER_DRIFT_REF c = 0x8000 → unsgn 16 x ≠ 0x8000 → s.colour.reref = [] →
    ∃ u : State, exec (.driftBin c t) s = .next u ∧
      u.half Reg.SCALER_DRIFT_MEAN c = unsgn 16 x ∧ smGet (fun _ => []) u.colour.bins c = [some x] ∧
      smGet (fun _ => []) u.colour.temps c = [] ∧ s.regsBut u [Reg.SCALER_DRIFT_MEAN (c / 2)] ∧
      { u with regs := s.regs, frc := s.frc, colour := s.colour } = s)

/-- Contone arrival, starved lines and the screener fault. CONTONE_ARRIVAL of a plane that is not enabled gives
every channel of the line in it a frame of zero codes, or an ABSENT frame where the line is absent; a plane
whose tile line fails its seal is ABSENT, counted and recorded; a line or plane that does not wait is left
alone; STARVED_LINE_RESUME lets a line go on once its rows are complete; FAULT_CLEAR clears the screener fault,
and STATUS.FAULT unless the lane is FAILED. Spec: 05_screening.md, 04_job_memory.md. -/
def Obligations.ScreeningCommands : Prop :=
  (∀ (line : Nat) (plane : Fin 8) (faults : List TileFault) (mism : List (Nat × Nat)) (s : State),
      s.line.prod.find? (fun q => q.line == line) = none →
    exec (.contoneArrival line plane faults mism) s = .next s) ∧
  (∀ (line : Nat) (plane : Fin 8) (faults : List TileFault) (mism : List (Nat × Nat)) (q : ProdLine) (s : State),
      s.line.prod.find? (fun q => q.line == line) = some q → (q.planes.contains plane.val || q.starved) = true →
    exec (.contoneArrival line plane faults mism) s = .next s) ∧
  (∀ (line : Nat) (plane : Fin 8) (faults : List TileFault) (q : ProdLine) (s : State),
      s.line.prod.find? (fun q => q.line == line) = some q → q.planes.contains plane.val = false → q.starved = false →
      ({ s with regs := q.regs, scr := q.scr, slots := q.slots, splices := q.splices } : State).planeEn plane = false →
    ∃ u : State, exec (.contoneArrival line plane faults []) s = .next u ∧
      u.line.prod = s.line.prod.map (fun r => if r.line == line then { r with planes := r.planes ++ [plane.val], frames := r.frames ++ ((planeChannels plane).filter q.chans.contains).map (fun c => (c, if q.absent.contains c then s.absentFrame q c else s.codeFrame q c (List.replicate 6144 0))) } else
        r) ∧ s.freeCount ≤ u.freeCount ∧ { u with line := s.line, scr := s.scr, freeCount := s.freeCount } = s) ∧
  (∀ (line c : Nat) (plane : Fin 8) (faults : List TileFault) (q : ProdLine) (s : State),
      s.line.prod.find? (fun q => q.line == line) = some q → q.planes.contains plane.val = false → q.starved = false →
      s.pairMode = true → ((planeChannels plane).filter q.chans.contains) = [c] →
      ({ s with regs := q.regs, scr := q.scr, slots := q.slots, splices := q.splices } : State).lineReads c line ≠ [] →
      (∀ r ∈ ({ s with regs := q.regs, scr := q.scr, slots := q.slots, splices := q.splices } : State).lineReads c line,
      ({ s with regs := q.regs, scr := q.scr, slots := q.slots, splices := q.splices } : State).tileLineFault plane faults r =
      some 2) →
    ∃ u : State, exec (.contoneArrival line plane faults []) s = .next u ∧
      u.line.prod = s.line.prod.map (fun r => if r.line == line then { r with planes := r.planes ++ [plane.val], frames := r.frames ++ [(c, s.absentFrame q c)] } else
        r) ∧ u.rd (Reg.PLANE_ABSENT_LINES plane) = satInc 32 (s.rd (Reg.PLANE_ABSENT_LINES plane)) ∧
      u.rd (Reg.CH_SEAL_ABSENT_COUNT c) = satInc 32 (s.rd (Reg.CH_SEAL_ABSENT_COUNT c)) ∧
      u.bit (Reg.INT_STATUS (Reg.pageCH c)) 18 = true ∧ u.bit (Reg.INT_STATUS (Reg.pagePLANE plane)) 8 = true ∧
      u.rd (Reg.PLANE_SEAL_FAIL_LINE plane) = line % 2 ^ 32 ∧
      s.pagesBut u [Reg.pagePLANE plane, Reg.pageCH c, Reg.pageTALLY] ∧
      { u with regs := s.regs, line := s.line, scr := s.scr, freeCount := s.freeCount, mgmt := s.mgmt } = s) ∧
  (∀ (line : Nat) (q : ProdLine) (s : State), s.line.prod.find? (fun q => q.line == line) = some q →
      q.starved = true →
      (({ s with regs := q.regs, splices := q.splices } : State).neededRows line).all s.rowComplete = true →
    ∃ u : State, exec (.starvedLineResume line) s = .next u ∧
      u.line.prod = s.line.prod.map (fun r => if r.line == line then { r with starved := false } else r) ∧
      { u with line := s.line } = s) ∧
  (∀ (line : Nat) (q : ProdLine) (s : State), s.line.prod.find? (fun q => q.line == line) = some q →
      q.starved = false →
    exec (.starvedLineResume line) s = .next s) ∧
  (∀ (src : Req) (c : Fin 128) (s : State), s.cutOff src = false →
    ∃ u : State, exec (.faultClear src c) s = .next u ∧
      u.scr.fault.contains c.val = false ∧ u.bit (Reg.STATUS (Reg.pageCH c)) 2 = decide (s.laneSt c = 7) ∧
      (∀ d, d ≠ c.val → u.scr.fault.contains d = s.scr.fault.contains d) ∧
      s.regsBut u [Reg.STATUS (Reg.pageCH c), Reg.INT_STATUS (Reg.pageCH c)] ∧
      { u with regs := s.regs, scr := s.scr } = s)

/-- The state machine of a mailbox channel. POST takes a channel in EMPTY or ACKED to POSTED with the next SEQ and
tells its receiver, or answers TOO_LONG at once; TAKE, the ACK that names the SEQ, and CLEAR move it on; each
from the wrong end is WRONG_SIDE, each in a wrong state its own error, and an ACK that does not fit is counted
and discarded; DETACH empties what the host sends and acknowledges what it receives. Spec: 14_host_mailboxes.md. -/
def Obligations.MailboxCommands : Prop :=
  (∀ (src : Req) (n : Fin 32) (s : State), s.asleep src = false → src ≠ s.mbSender n →
    ∃ u : State, exec (.mbPost src n) s = .next u ∧
      s.errored u (mbPage n) 0x0103 (kMbCtrl n) (srcCode src) ∧ s.regsBut u (errorKeys (mbPage n)) ∧
      { u with regs := s.regs } = s) ∧
  (∀ (src : Req) (n : Fin 32) (s : State), s.asleep src = false → src ≠ s.mbReceiver n →
    ∃ u : State, exec (.mbTake src n) s = .next u ∧
      s.errored u (mbPage n) 0x0103 (kMbCtrl n) (srcCode src) ∧ s.regsBut u (errorKeys (mbPage n)) ∧
      { u with regs := s.regs } = s) ∧
  (∀ (src : Req) (n : Fin 32) (s : State), s.asleep src = false → src ≠ s.mbSender n →
    ∃ u : State, exec (.mbClear src n) s = .next u ∧
      s.errored u (mbPage n) 0x0103 (kMbCtrl n) (srcCode src) ∧ s.regsBut u (errorKeys (mbPage n)) ∧
      { u with regs := s.regs } = s) ∧
  (∀ (src : Req) (n : Fin 32) (s : State), s.asleep src = false → src = s.mbSender n → s.mbSt n = 0 ∨ s.mbSt n = 3 →
      s.outOfRegion n = false → s.mbLen n ≤ s.rdF (kMaxLen n) 24 0 → toModule n = true →
    ∃ u : State, exec (.mbPost src n) s = .next u ∧
      u.mbSt n = 1 ∧ u.mbSeq n = (s.mbSeq n + 1) % 256 ∧ u.out = s.out ++ [Out.firmware (coreNum (s.moduleEnd n)) n] ∧
      s.regsBut u [kMbStatus n] ∧ { u with regs := s.regs, out := s.out } = s) ∧
  (∀ (src : Req) (n : Fin 32) (s : State), s.asleep src = false → src = s.mbSender n → s.mbSt n = 0 ∨ s.mbSt n = 3 →
      s.outOfRegion n = false → s.mbLen n ≤ s.rdF (kMaxLen n) 24 0 → toModule n = false →
    ∃ u : State, exec (.mbPost src n) s = .next u ∧
      u.mbSt n = 1 ∧ u.mbSeq n = (s.mbSeq n + 1) % 256 ∧ u.bit (Reg.INT_STATUS (mbPage n)) (8 + n % 16) = true ∧
      s.regsBut u [kMbStatus n, Reg.INT_STATUS (mbPage n)] ∧ { u with regs := s.regs } = s) ∧
  (∀ (src : Req) (n : Fin 32) (s : State), s.asleep src = false → src = s.mbSender n → s.mbSt n = 0 ∨ s.mbSt n = 3 →
      s.outOfRegion n = false → s.rdF (kMaxLen n) 24 0 < s.mbLen n → toModule n = true →
    ∃ u : State, exec (.mbPost src n) s = .next u ∧
      u.mbSt n = 3 ∧ u.mbSeq n = (s.mbSeq n + 1) % 256 ∧ u.rd (kResult n) = 0xFF04 + u.mbSeq n * 65536 ∧
      u.bit (Reg.INT_STATUS (mbPage n)) (8 + n % 16) = true ∧ u.rd (kRejected n) = satInc 32 (s.rd (kRejected n)) ∧
      s.regsBut u [kMbStatus n, Reg.INT_STATUS (mbPage n), kResult n, kRejected n] ∧ { u with regs := s.regs } = s) ∧
  (∀ (src : Req) (n : Fin 32) (s : State), s.asleep src = false → src = s.mbSender n → s.mbSt n = 1 ∨ s.mbSt n = 2 →
    ∃ u : State, exec (.mbPost src n) s = .next u ∧
      s.errored u (mbPage n) 0x0101 (kMbCtrl n) (srcCode src) ∧ s.regsBut u (errorKeys (mbPage n)) ∧
      { u with regs := s.regs } = s) ∧
  (∀ (src : Req) (n : Fin 32) (s : State), s.asleep src = false → src = s.mbSender n → s.mbSt n = 0 ∨ s.mbSt n = 3 →
      s.outOfRegion n = true →
    ∃ u : State, exec (.mbPost src n) s = .next u ∧
      s.errored u (mbPage n) 0x0104 (kMbCtrl n) (srcCode src) ∧ s.regsBut u (errorKeys (mbPage n)) ∧
      { u with regs := s.regs } = s) ∧
  (∀ (src : Req) (n : Fin 32) (s : State), s.asleep src = false → src = s.mbReceiver n → s.mbSt n = 1 →
      toModule n = true → s.mbLen n ≠ 0 → s.mbPasidOff n = false →
    ∃ u : State, exec (.mbTake src n) s = .next u ∧
      u.mbSt n = 2 ∧ u.mbSeq n = s.mbSeq n ∧
      u.out = s.out ++ [Out.hostRead (s.mbPasid n) (s.rd64 (kPtrLo n) (kPtrHi n)) (s.mbLen n)] ∧
      s.regsBut u [kMbStatus n] ∧ { u with regs := s.regs, out := s.out } = s) ∧
  (∀ (src : Req) (n : Fin 32) (s : State), s.asleep src = false → src = s.mbReceiver n → s.mbSt n = 1 →
      toModule n = false ∨ s.mbLen n = 0 ∨ s.mbPasidOff n = true →
    ∃ u : State, exec (.mbTake src n) s = .next u ∧
      u.mbSt n = 2 ∧ u.mbSeq n = s.mbSeq n ∧ s.regsBut u [kMbStatus n] ∧ { u with regs := s.regs } = s) ∧
  (∀ (src : Req) (n : Fin 32) (s : State), s.asleep src = false → src = s.mbReceiver n → s.mbSt n ≠ 1 →
    ∃ u : State, exec (.mbTake src n) s = .next u ∧
      s.errored u (mbPage n) 0x0102 (kMbCtrl n) (srcCode src) ∧ s.regsBut u (errorKeys (mbPage n)) ∧
      { u with regs := s.regs } = s) ∧
  (∀ (src : Req) (n : Fin 32) (data : Nat) (s : State), s.asleep src = false → src ≠ s.mbReceiver n →
    ∃ u : State, exec (.mailboxAck src n data) s = .next u ∧
      s.errored u (mbPage n) 0x0103 (kMbAck n) (srcCode src) ∧ s.regsBut u (errorKeys (mbPage n)) ∧
      { u with regs := s.regs } = s) ∧
  (∀ (src : Req) (n : Fin 32) (data : Nat) (s : State), s.asleep src = false → src = s.mbReceiver n →
      0xFF00 ≤ fld data 15 0 →
    ∃ u : State, exec (.mailboxAck src n data) s = .next u ∧
      s.errored u (mbPage n) 0x0106 (kMbAck n) (srcCode src) ∧ s.regsBut u (errorKeys (mbPage n)) ∧
      { u with regs := s.regs } = s) ∧
  (∀ (src : Req) (n : Fin 32) (data : Nat) (s : State), s.asleep src = false → src = s.mbReceiver n →
      fld data 15 0 < 0xFF00 → s.mbSt n = 2 → fld data 23 16 = s.mbSeq n → toModule n = true →
    ∃ u : State, exec (.mailboxAck src n data) s = .next u ∧
      u.mbSt n = 3 ∧ u.rd (kResult n) = fld data 15 0 + s.mbSeq n * 65536 ∧
      u.bit (Reg.INT_STATUS (mbPage n)) (8 + n % 16) = true ∧ u.body n = none ∧
      s.regsBut u [kMbStatus n, Reg.INT_STATUS (mbPage n), kResult n] ∧ { u with regs := s.regs, host := s.host } = s) ∧
  (∀ (src : Req) (n : Fin 32) (data : Nat) (s : State), s.asleep src = false → src = s.mbReceiver n →
      fld data 15 0 < 0xFF00 → s.mbSt n ≠ 2 ∨ fld data 23 16 ≠ s.mbSeq n →
    ∃ u : State, exec (.mailboxAck src n data) s = .next u ∧
      u.rd (kAckDiscarded n) = satInc 32 (s.rd (kAckDiscarded n)) ∧ s.regsBut u [kAckDiscarded n] ∧
      { u with regs := s.regs } = s) ∧
  (∀ (src : Req) (n : Fin 32) (s : State), s.asleep src = false → src = s.mbSender n → s.mbSt n = 3 →
    ∃ u : State, exec (.mbClear src n) s = .next u ∧
      u.mbSt n = 0 ∧ u.mbSeq n = s.mbSeq n ∧ s.regsBut u [kMbStatus n] ∧ { u with regs := s.regs } = s) ∧
  (∀ (src : Req) (n : Fin 32) (s : State), s.asleep src = false → src = s.mbSender n → s.mbSt n = 0 →
    exec (.mbClear src n) s = .next s) ∧
  (∀ (src : Req) (n : Fin 32) (s : State), s.asleep src = false → src = s.mbSender n → s.mbSt n = 1 ∨ s.mbSt n = 2 →
    ∃ u : State, exec (.mbClear src n) s = .next u ∧
      s.errored u (mbPage n) 0x0101 (kMbCtrl n) (srcCode src) ∧ s.regsBut u (errorKeys (mbPage n)) ∧
      { u with regs := s.regs } = s) ∧
  (∀ (src : Req) (pf1 : Bool) (s : State), s.asleep src = false →
    ∃ u : State, exec (.detach src pf1) s = .next u ∧
      (∀ n ∈ (if pf1 = true then mboxsChans else mboxChans), toModule n = true → u.mbSt n = 0) ∧
      (∀ n ∈ (if pf1 = true then mboxsChans else mboxChans), toModule n = false → s.mbSt n = 1 → u.mbSt n = 3 ∧
        u.rd (kResult n) = 0xFF01 + s.mbSeq n * 65536) ∧
      (∀ n ∈ (if pf1 = true then mboxsChans else mboxChans), toModule n = false → s.mbSt n = 2 → u.mbSt n = 3 ∧
        u.rd (kResult n) = 0xFF02 + s.mbSeq n * 65536) ∧
      s.pagesBut u [if pf1 = true then Reg.pageMBOXS else Reg.pageMBOX] ∧
      { u with regs := s.regs, host := s.host, out := s.out } = s)

/-- The services of the mailbox channels. PING is acknowledged OK; GET_INFO posts its reply and is acknowledged;
PARK in READY parks the module and RESUME leaves PARK, each acknowledged, PARK elsewhere BUSY; BODY_READ makes a
served message ready and answers an unreadable body or an unknown type; a request held for its reply channel
proceeds when it is free, and is BUSY after 10 ms. Spec: 14_host_mailboxes.md, 18_startup_operation.md. -/
def Obligations.MailboxServices : Prop :=
  (∀ (n : Fin 32) (s : State), s.taken n 0x0001 = true → n.val < 16 → s.mbLen n = 0 →
    ∃ u : State, exec (.ping n) s = .next u ∧
      u.mbSt n = 3 ∧ u.rd (kResult n) = 0 + s.mbSeq n * 65536 ∧
      u.bit (Reg.INT_STATUS (mbPage n)) (8 + n % 16) = true ∧
      s.regsBut u [kMbStatus n, kResult n, Reg.INT_STATUS (mbPage n)] ∧ { u with regs := s.regs, host := s.host } = s) ∧
  (∀ (n : Fin 32) (s : State), s.taken n 0x0001 = true → n.val < 16 → s.mbLen n ≠ 0 →
    ∃ u : State, exec (.ping n) s = .next u ∧
      u.mbSt n = 3 ∧ u.rd (kResult n) = 3 + s.mbSeq n * 65536 ∧
      u.bit (Reg.INT_STATUS (mbPage n)) (8 + n % 16) = true ∧
      s.regsBut u [kMbStatus n, kResult n, Reg.INT_STATUS (mbPage n)] ∧ { u with regs := s.regs, host := s.host } = s) ∧
  (∀ (n : Fin 32) (b : List Byte) (s : State), s.taken n 0x0001 = true → 16 ≤ n.val → s.body n = some b →
      s.secureCheck n b false = none → bodyLen b = 0 →
    ∃ u : State, exec (.ping n) s = .next u ∧
      u.mbSt n = 3 ∧ u.rd (kResult n) = 0 + s.mbSeq n * 65536 ∧
      u.bit (Reg.INT_STATUS (mbPage n)) (8 + n % 16) = true ∧ smGet (fun _ => 0) u.host.counters n = bodyCounter b ∧
      s.regsBut u [kMbStatus n, kResult n, Reg.INT_STATUS (mbPage n)] ∧ { u with regs := s.regs, host := s.host } = s) ∧
  (∀ (n : Fin 32) (s : State), s.taken n 0x0001 = false →
    exec (.ping n) s = .next s) ∧
  (∀ (n : Fin 32) (m : Nat) (s : State), s.taken n 0x0002 = true → n.val < 16 → s.mbLen n = 0 → m = n.val + 8 →
      s.mbSt m = 0 ∨ s.mbSt m = 3 → 64 ≤ s.rdF (kRxSize m) 24 0 → 64 ≤ s.rdF (kMaxLen m) 24 0 → s.mbPasidOff m = false →
    ∃ u : State, exec (.getInfo n) s = .next u ∧
      u.mbSt n = 3 ∧ u.rd (kResult n) = 0 + s.mbSeq n * 65536 ∧
      u.bit (Reg.INT_STATUS (mbPage n)) (8 + n % 16) = true ∧ u.mbSt m = 1 ∧
      u.rd (kTypeTag m) = 0x8002 + s.mbTag n * 65536 ∧ u.mbLen m = 64 ∧
      u.bit (Reg.INT_STATUS (mbPage n)) (8 + m % 16) = true ∧
      u.out = s.out ++ [Out.hostWrite (s.mbPasid m) (s.rd64 (kRxLo m) (kRxHi m)) s.infoBytes] ∧
      s.regsBut u ([kMbStatus n, kResult n, Reg.INT_STATUS (mbPage n)] ++ [kPtrLo m, kPtrHi m, kMsgLen m,
        kTypeTag m, kMbStatus m]) ∧ { u with regs := s.regs, host := s.host, out := s.out } = s) ∧
  (∀ (n : Fin 32) (m : Nat) (s : State), s.taken n 0x0002 = true → n.val < 16 → s.mbLen n = 0 → m = n.val + 8 →
      s.mbSt m = 1 ∨ s.mbSt m = 2 →
    ∃ u : State, exec (.getInfo n) s = .next u ∧
      smGet (fun _ => none) u.host.held n = some (2, []) ∧ u.mbSt n = 2 ∧ { u with host := s.host } = s) ∧
  (∀ (n : Fin 32) (s : State), s.taken n 0x0200 = true → n.val < 16 → s.mbLen n = 0 → s.modState ≠ 4 →
    ∃ u : State, exec (.parkRequest n) s = .next u ∧
      u.mbSt n = 3 ∧ u.rd (kResult n) = 4 + s.mbSeq n * 65536 ∧
      u.bit (Reg.INT_STATUS (mbPage n)) (8 + n % 16) = true ∧
      s.regsBut u [kMbStatus n, kResult n, Reg.INT_STATUS (mbPage n)] ∧ { u with regs := s.regs, host := s.host } = s) ∧
  (∀ (n : Fin 32) (s : State), s.taken n 0x0200 = true → n.val < 16 → s.mbLen n = 0 → s.modState = 4 →
    ∃ u : State, exec (.parkRequest n) s = .next u ∧
      u.mbSt n = 3 ∧ u.rd (kResult n) = 0 + s.mbSeq n * 65536 ∧
      u.bit (Reg.INT_STATUS (mbPage n)) (8 + n % 16) = true ∧ u.modState = 6 ∧
      u.bit (Reg.INT_STATUS Reg.pageSYS) 8 = true ∧
      s.regsBut u ([kMbStatus n, kResult n, Reg.INT_STATUS (mbPage n)] ++ moduleKeys ++
        (List.range 6).map (fun d => Reg.STATUS (Reg.pageDRAM d)) ++ (List.range 6).map Reg.DRAM_REFRESH_STATUS ++
        [Reg.CLK_PLL_STATUS]) ∧
      { u with regs := s.regs, host := s.host, mgmt := s.mgmt, dram := s.dram, out := s.out } = s) ∧
  (∀ (n : Fin 32) (s : State), s.taken n 0x0201 = true → n.val < 16 → s.mbLen n = 0 → s.modState ≠ 6 →
    ∃ u : State, exec (.resumeRequest n) s = .next u ∧
      u.mbSt n = 3 ∧ u.rd (kResult n) = 0 + s.mbSeq n * 65536 ∧
      u.bit (Reg.INT_STATUS (mbPage n)) (8 + n % 16) = true ∧
      s.regsBut u [kMbStatus n, kResult n, Reg.INT_STATUS (mbPage n)] ∧ { u with regs := s.regs, host := s.host } = s) ∧
  (∀ (n : Fin 32) (s : State), s.taken n 0x0201 = true → n.val < 16 → s.mbLen n = 0 → s.modState = 6 →
    ∃ u : State, exec (.resumeRequest n) s = .next u ∧
      u.mbSt n = 3 ∧ u.rd (kResult n) = 0 + s.mbSeq n * 65536 ∧
      u.bit (Reg.INT_STATUS (mbPage n)) (8 + n % 16) = true ∧ (u.modState = 3 ∨ u.modState = 4) ∧
      (u.modState = 4 ↔ s.laneCondition = true) ∧
      s.pagesBut u ([mbPage n, Reg.pageSYS, Reg.pageTALLY] ++ (List.range 6).map Reg.pageDRAM) ∧
      { u with regs := s.regs, host := s.host, mgmt := s.mgmt, dram := s.dram, out := s.out } = s) ∧
  (∀ (n : Fin 32) (s : State), toModule n = true → s.mbSt n = 2 → s.endRuns n = true → s.mbLen n ≠ 0 →
    ∃ u : State, exec (.bodyRead n none) s = .next u ∧
      u.mbSt n = 3 ∧ u.rd (kResult n) = 2 + s.mbSeq n * 65536 ∧
      u.bit (Reg.INT_STATUS (mbPage n)) (8 + n % 16) = true ∧
      s.regsBut u [kMbStatus n, kResult n, Reg.INT_STATUS (mbPage n)] ∧ { u with regs := s.regs, host := s.host } = s) ∧
  (∀ (n : Fin 32) (b : List Byte) (s : State), toModule n = true → s.mbSt n = 2 → s.endRuns n = true → s.mbLen n ≠ 0 →
      s.mbPasidOff n = true ∨ b.length ≠ s.mbLen n →
    ∃ u : State, exec (.bodyRead n (some b)) s = .next u ∧
      u.mbSt n = 3 ∧ u.rd (kResult n) = 2 + s.mbSeq n * 65536 ∧
      u.bit (Reg.INT_STATUS (mbPage n)) (8 + n % 16) = true ∧
      s.regsBut u [kMbStatus n, kResult n, Reg.INT_STATUS (mbPage n)] ∧ { u with regs := s.regs, host := s.host } = s) ∧
  (∀ (n : Fin 32) (b : List Byte) (s : State), toModule n = true → s.mbSt n = 2 → s.endRuns n = true → s.mbLen n ≠ 0 →
      s.mbPasidOff n = false → b.length = s.mbLen n → knownType n (s.mbType n) = true →
    ∃ u : State, exec (.bodyRead n (some b)) s = .next u ∧
      u.body n = some b ∧ { u with host := s.host } = s) ∧
  (∀ (n : Fin 32) (read : Option (List Byte)) (s : State), toModule n = true → s.mbSt n = 2 → s.endRuns n = true →
      s.mbLen n = 0 → knownType n (s.mbType n) = true →
    ∃ u : State, exec (.bodyRead n read) s = .next u ∧
      u.body n = some [] ∧ { u with host := s.host } = s) ∧
  (∀ (n : Fin 32) (b : List Byte) (s : State), toModule n = true → s.mbSt n = 2 → s.endRuns n = true → s.mbLen n ≠ 0 →
      s.mbPasidOff n = false → b.length = s.mbLen n → knownType n (s.mbType n) = false → n.val < 16 →
    ∃ u : State, exec (.bodyRead n (some b)) s = .next u ∧
      u.mbSt n = 3 ∧ u.rd (kResult n) = 1 + s.mbSeq n * 65536 ∧
      u.bit (Reg.INT_STATUS (mbPage n)) (8 + n % 16) = true ∧
      s.regsBut u [kMbStatus n, kResult n, Reg.INT_STATUS (mbPage n)] ∧ { u with regs := s.regs, host := s.host } = s) ∧
  (∀ (n : Fin 32) (b : List Byte) (s : State), toModule n = true → s.mbSt n = 2 → s.endRuns n = true → s.mbLen n ≠ 0 →
      s.mbPasidOff n = false → b.length = s.mbLen n → knownType n (s.mbType n) = false → 16 ≤ n.val →
      s.secureCheck n b false = none →
    ∃ u : State, exec (.bodyRead n (some b)) s = .next u ∧
      u.mbSt n = 3 ∧ u.rd (kResult n) = 1 + s.mbSeq n * 65536 ∧
      u.bit (Reg.INT_STATUS (mbPage n)) (8 + n % 16) = true ∧ smGet (fun _ => 0) u.host.counters n = bodyCounter b ∧
      s.regsBut u [kMbStatus n, kResult n, Reg.INT_STATUS (mbPage n)] ∧ { u with regs := s.regs, host := s.host } = s) ∧
  (∀ (n : Fin 32) (read : Option (List Byte)) (s : State), toModule n = false ∨ s.mbSt n ≠ 2 ∨ s.endRuns n = false →
    exec (.bodyRead n read) s = .next s) ∧
  (∀ (n : Fin 32) (m : Nat) (s : State), smGet (fun _ => none) s.host.held n = some (2, []) → n.val < 8 →
      m = n.val + 8 → s.mbSt n = 2 → s.mbSt m = 0 ∨ s.mbSt m = 3 → 64 ≤ s.rdF (kRxSize m) 24 0 →
      64 ≤ s.rdF (kMaxLen m) 24 0 → s.mbPasidOff m = false →
    ∃ u : State, exec (.replyChannelFree n) s = .next u ∧
      u.mbSt n = 3 ∧ u.rd (kResult n) = 0 + s.mbSeq n * 65536 ∧
      u.bit (Reg.INT_STATUS (mbPage n)) (8 + n % 16) = true ∧ u.mbSt m = 1 ∧
      smGet (fun _ => none) u.host.held n = none ∧
      u.out = s.out ++ [Out.hostWrite (s.mbPasid m) (s.rd64 (kRxLo m) (kRxHi m)) s.infoBytes] ∧
      s.regsBut u ([kMbStatus n, kResult n, Reg.INT_STATUS (mbPage n)] ++ [kPtrLo m, kPtrHi m, kMsgLen m,
        kTypeTag m, kMbStatus m]) ∧ { u with regs := s.regs, host := s.host, out := s.out } = s) ∧
  (∀ (n : Fin 32) (s : State), smGet (fun _ => none) s.host.held n = none →
    exec (.replyChannelFree n) s = .next s) ∧
  (∀ (n : Fin 32) (s : State), (smGet (fun _ => none) s.host.held n).isSome = true → toModule n = true →
    ∃ u : State, exec (.replyRoomTimeout n) s = .next u ∧
      u.mbSt n = 3 ∧ u.rd (kResult n) = 4 + s.mbSeq n * 65536 ∧
      u.bit (Reg.INT_STATUS (mbPage n)) (8 + n % 16) = true ∧ smGet (fun _ => none) u.host.held n = none ∧
      s.regsBut u [kMbStatus n, kResult n, Reg.INT_STATUS (mbPage n)] ∧ { u with regs := s.regs, host := s.host } = s) ∧
  (∀ (n : Fin 32) (s : State), smGet (fun _ => none) s.host.held n = none →
    exec (.replyRoomTimeout n) s = .next s)

/-- The secure services, the journal, and host entries of the log. A secure command that fails its checks is
acknowledged with its code, and an authentication failure is counted and raised; one that passes keeps its
counter, and SET_HOST_KEY, SET_LOOKOUT_KEY and ERASE_KEYS write their records; JOURNAL_WRITE writes a record and
JOURNAL_READ reads one, each with its reply. COMPACT_NOW starts a compaction, and is refused during one;
COMPACTION_DONE leaves every record in force in the other half with new sequence numbers and START after them;
the return of the range writes the waiting records; HOST_POST takes a host entry into the intake, and refuses a
code below 0xC000. Spec: 14_host_mailboxes.md, 15_management_log.md. -/
def Obligations.SecureServicesAndJournal : Prop :=
  (∀ (n : Fin 32) (b : List Byte) (s : State), s.taken n 0x0101 = true → 16 ≤ n.val → s.body n = some b →
      s.secureCheck n b true = none → bodyLen b = 32 → s.mramOpen = true →
    ∃ u : State, exec (.setHostKey n) s = .next u ∧
      u.mbSt n = 3 ∧ u.rd (kResult n) = 0 + s.mbSeq n * 65536 ∧
      u.bit (Reg.INT_STATUS (mbPage n)) (8 + n % 16) = true ∧
      u.mgmt.journal = s.mgmt.journal ++ [{ half := s.activeHalf, kind := 0x0030, key := 0, seq := s.mgmt.nextSeq, data := bodyPayload b }] ∧
      u.mgmt.nextSeq = s.mgmt.nextSeq + 1 ∧ smGet (fun _ => 0) u.host.counters n = bodyCounter b ∧
      s.regsBut u ([kMbStatus n, kResult n, Reg.INT_STATUS (mbPage n)] ++ [Reg.STATUS Reg.pageNVS,
        Reg.NVS_NV_STATUS, Reg.NVS_QUEUE_DEPTH, Reg.NVS_JOURNAL_USED, Reg.NVS_RECORDS, Reg.NVS_LAST_SEQ_LO,
        Reg.NVS_LAST_SEQ_HI, Reg.MBOXS_KEY_STATE]) ∧ { u with regs := s.regs, host := s.host, mgmt := s.mgmt } = s) ∧
  (∀ (n : Fin 32) (b : List Byte) (s : State), s.taken n 0x0102 = true → 16 ≤ n.val → s.body n = some b →
      s.secureCheck n b false = none → bodyLen b = 32 → s.mramOpen = true →
    ∃ u : State, exec (.setLookoutKey n) s = .next u ∧
      u.mbSt n = 3 ∧ u.rd (kResult n) = 0 + s.mbSeq n * 65536 ∧
      u.bit (Reg.INT_STATUS (mbPage n)) (8 + n % 16) = true ∧
      u.mgmt.journal = s.mgmt.journal ++ [{ half := s.activeHalf, kind := 0x0031, key := 0, seq := s.mgmt.nextSeq, data := bodyPayload b }] ∧
      u.mgmt.nextSeq = s.mgmt.nextSeq + 1 ∧ smGet (fun _ => 0) u.host.counters n = bodyCounter b ∧
      s.regsBut u ([kMbStatus n, kResult n, Reg.INT_STATUS (mbPage n)] ++ [Reg.STATUS Reg.pageNVS,
        Reg.NVS_NV_STATUS, Reg.NVS_QUEUE_DEPTH, Reg.NVS_JOURNAL_USED, Reg.NVS_RECORDS, Reg.NVS_LAST_SEQ_LO,
        Reg.NVS_LAST_SEQ_HI, Reg.MBOXS_KEY_STATE]) ∧ { u with regs := s.regs, host := s.host, mgmt := s.mgmt } = s) ∧
  (∀ (n : Fin 32) (b : List Byte) (s : State), s.taken n 0x0102 = true → 16 ≤ n.val → s.body n = some b →
      s.secureCheck n b false = some 6 →
    ∃ u : State, exec (.setLookoutKey n) s = .next u ∧
      u.mbSt n = 3 ∧ u.rd (kResult n) = 6 + s.mbSeq n * 65536 ∧
      u.bit (Reg.INT_STATUS (mbPage n)) (8 + n % 16) = true ∧ u.mgmt.journal = s.mgmt.journal ∧
      u.rd Reg.MBOXS_AUTH_FAIL_COUNT = satInc 32 (s.rd Reg.MBOXS_AUTH_FAIL_COUNT) ∧
      u.bit (Reg.INT_STATUS Reg.pageMBOXS) 27 = true ∧
      s.regsBut u ([kMbStatus n, kResult n, Reg.INT_STATUS (mbPage n)] ++ [Reg.MBOXS_AUTH_FAIL_COUNT] ++ tallyKeys) ∧
      { u with regs := s.regs, host := s.host, mgmt := s.mgmt } = s) ∧
  (∀ (n : Fin 32) (b : List Byte) (s : State), s.taken n 0x0103 = true → 16 ≤ n.val → s.body n = some b →
      s.secureCheck n b false = none → bodyLen b = 0 → s.mramOpen = true →
    ∃ u : State, exec (.eraseKeys n) s = .next u ∧
      u.mbSt n = 3 ∧ u.rd (kResult n) = 0 + s.mbSeq n * 65536 ∧
      u.bit (Reg.INT_STATUS (mbPage n)) (8 + n % 16) = true ∧
      u.mgmt.journal = s.mgmt.journal ++ [{ half := s.activeHalf, kind := 0x0040, key := deleteKey 0x0030 0, seq := s.mgmt.nextSeq, data := [] },
        { half := s.activeHalf, kind := 0x0040, key := deleteKey 0x0031 0, seq := s.mgmt.nextSeq + 1, data := [] }] ∧
      u.mgmt.nextSeq = s.mgmt.nextSeq + 2 ∧
      s.regsBut u ([kMbStatus n, kResult n, Reg.INT_STATUS (mbPage n)] ++ [Reg.STATUS Reg.pageNVS,
        Reg.NVS_NV_STATUS, Reg.NVS_QUEUE_DEPTH, Reg.NVS_JOURNAL_USED, Reg.NVS_RECORDS, Reg.NVS_LAST_SEQ_LO,
        Reg.NVS_LAST_SEQ_HI, Reg.MBOXS_KEY_STATE]) ∧ { u with regs := s.regs, host := s.host, mgmt := s.mgmt } = s) ∧
  (∀ (n : Fin 32) (b : List Byte) (r : Nat) (s : State), s.taken n 0x0104 = true → 16 ≤ n.val → s.body n = some b →
      s.secureCheck n b false = none → 8 ≤ bodyLen b → s.mramOpen = true → 0x8000 ≤ journalKind (bodyPayload b) →
      (bodyPayload b).length ≤ 1048584 → r = n.val + 8 → s.mbSt r = 0 ∨ s.mbSt r = 3 → s.noRoom r 60 = false →
    ∃ u : State, exec (.journalWrite n) s = .next u ∧
      u.mbSt n = 3 ∧ u.rd (kResult n) = 0 + s.mbSeq n * 65536 ∧
      u.bit (Reg.INT_STATUS (mbPage n)) (8 + n % 16) = true ∧
      u.mgmt.journal = s.mgmt.journal ++ [{ half := s.activeHalf, kind := journalKind (bodyPayload b), key := journalKey (bodyPayload b), seq := s.mgmt.nextSeq, data := (bodyPayload b).drop 8 }] ∧
      u.mbSt r = 1 ∧ u.mbLen r = 60 ∧ smGet (fun _ => 0) u.host.counters n = bodyCounter b ∧
      s.regsBut u ([kMbStatus n, kResult n, Reg.INT_STATUS (mbPage n)] ++ [Reg.STATUS Reg.pageNVS,
        Reg.NVS_NV_STATUS, Reg.NVS_QUEUE_DEPTH, Reg.NVS_JOURNAL_USED, Reg.NVS_RECORDS, Reg.NVS_LAST_SEQ_LO,
        Reg.NVS_LAST_SEQ_HI, Reg.MBOXS_KEY_STATE] ++ [kPtrLo r, kPtrHi r, kMsgLen r, kTypeTag r, kMbStatus r]) ∧
      { u with regs := s.regs, host := s.host, mgmt := s.mgmt, out := s.out, freeCount := s.freeCount } = s) ∧
  (∀ (n : Fin 32) (b : List Byte) (r : Nat) (s : State), s.taken n 0x0104 = true → 16 ≤ n.val → s.body n = some b →
      s.secureCheck n b false = none → 8 ≤ bodyLen b → s.mramOpen = true → 0x8000 ≤ journalKind (bodyPayload b) →
      (bodyPayload b).length ≤ 1048584 → r = n.val + 8 → s.mbSt r = 0 ∨ s.mbSt r = 3 → s.noRoom r 60 = true →
    ∃ u : State, exec (.journalWrite n) s = .next u ∧
      u.mbSt n = 3 ∧ u.rd (kResult n) = 9 + s.mbSeq n * 65536 ∧
      u.bit (Reg.INT_STATUS (mbPage n)) (8 + n % 16) = true ∧ u.mgmt = s.mgmt ∧ u.mbSt r = s.mbSt r ∧
      s.regsBut u [kMbStatus n, kResult n, Reg.INT_STATUS (mbPage n)] ∧ { u with regs := s.regs, host := s.host } = s) ∧
  (∀ (n : Fin 32) (b : List Byte) (s : State), s.taken n 0x0104 = true → 16 ≤ n.val → s.body n = some b →
      s.secureCheck n b false = none → 8 ≤ bodyLen b → journalKind (bodyPayload b) < 0x8000 →
      journalKind (bodyPayload b) ≠ 0x0040 →
    ∃ u : State, exec (.journalWrite n) s = .next u ∧
      u.mbSt n = 3 ∧ u.rd (kResult n) = 5 + s.mbSeq n * 65536 ∧
      u.bit (Reg.INT_STATUS (mbPage n)) (8 + n % 16) = true ∧ u.mgmt = s.mgmt ∧
      smGet (fun _ => 0) u.host.counters n = bodyCounter b ∧
      s.regsBut u [kMbStatus n, kResult n, Reg.INT_STATUS (mbPage n)] ∧ { u with regs := s.regs, host := s.host } = s) ∧
  (∀ (n : Fin 32) (b : List Byte) (r : Nat) (q : JournalRecord) (s : State), s.taken n 0x0105 = true → 16 ≤ n.val →
      s.body n = some b → s.secureCheck n b false = none → bodyLen b = 8 → journalKind (bodyPayload b) ≠ 0x0030 →
      journalKind (bodyPayload b) ≠ 0x0031 →
      s.record (journalKind (bodyPayload b)) (journalKey (bodyPayload b)) = some q → q.data.length < 1048576 →
      r = n.val + 8 → s.mbSt r = 0 ∨ s.mbSt r = 3 → s.noRoom r (80 + q.data.length) = false →
    ∃ u : State, exec (.journalRead n) s = .next u ∧
      u.mbSt n = 3 ∧ u.rd (kResult n) = 0 + s.mbSeq n * 65536 ∧
      u.bit (Reg.INT_STATUS (mbPage n)) (8 + n % 16) = true ∧ u.mgmt = s.mgmt ∧ u.mbSt r = 1 ∧
      u.mbLen r = 80 + q.data.length ∧ smGet (fun _ => 0) u.host.counters n = bodyCounter b ∧
      s.regsBut u ([kMbStatus n, kResult n, Reg.INT_STATUS (mbPage n)] ++ [kPtrLo r, kPtrHi r, kMsgLen r,
        kTypeTag r, kMbStatus r]) ∧
      { u with regs := s.regs, host := s.host, out := s.out, freeCount := s.freeCount } = s) ∧
  (∀ (n : Fin 32) (b : List Byte) (s : State), s.taken n 0x0105 = true → 16 ≤ n.val → s.body n = some b →
      s.secureCheck n b false = none → bodyLen b = 8 → journalKind (bodyPayload b) = 0x0030 →
    ∃ u : State, exec (.journalRead n) s = .next u ∧
      u.mbSt n = 3 ∧ u.rd (kResult n) = 5 + s.mbSeq n * 65536 ∧
      u.bit (Reg.INT_STATUS (mbPage n)) (8 + n % 16) = true ∧ u.mgmt = s.mgmt ∧
      s.regsBut u [kMbStatus n, kResult n, Reg.INT_STATUS (mbPage n)] ∧ { u with regs := s.regs, host := s.host } = s) ∧
  (∀ (src : Req) (s : State), s.asleep src = false → s.compacting = true →
    ∃ u : State, exec (.compactNow src) s = .next u ∧
      s.errored u Reg.pageNVS 0x0101 Reg.NVS_NV_CTRL (srcCode src) ∧ s.regsBut u (errorKeys Reg.pageNVS) ∧
      { u with regs := s.regs } = s) ∧
  (∀ (src : Req) (s : State), s.asleep src = false → s.compacting = false →
    ∃ u : State, exec (.compactNow src) s = .next u ∧
      u.compacting = true ∧ u.mgmt = s.mgmt ∧ s.regsBut u [Reg.NVS_NV_STATUS, Reg.STATUS Reg.pageNVS] ∧
      { u with regs := s.regs } = s) ∧
  (∀ s : State, s.compacting = false →
    exec (.compactionDone) s = .next s) ∧
  (∀ s : State, s.compacting = true → s.mgmt.waiting = [] →
    ∃ u : State, exec (.compactionDone) s = .next u ∧
      u.compacting = false ∧ u.activeHalf = 1 - s.activeHalf ∧ u.bit (Reg.INT_STATUS Reg.pageNVS) 10 = true ∧
      u.mgmt.nextSeq = s.mgmt.nextSeq + s.allInForce.length + 1 ∧
      (u.mgmt.journal.filter (fun r => r.half == 1 - s.activeHalf)).map (fun r => (r.kind, r.key, r.data)) =
        s.allInForce.map (fun r => (r.kind, r.key, r.data)) ++ [(0x0003, 0, [])] ∧
      u.mgmt.journal.filter (fun r => r.half == s.activeHalf) =
        s.mgmt.journal.filter (fun r => r.half == s.activeHalf) ∧
      s.regsBut u ([Reg.STATUS Reg.pageNVS, Reg.NVS_NV_STATUS, Reg.NVS_QUEUE_DEPTH, Reg.NVS_JOURNAL_USED,
        Reg.NVS_RECORDS, Reg.NVS_LAST_SEQ_LO, Reg.NVS_LAST_SEQ_HI, Reg.MBOXS_KEY_STATE] ++
        [Reg.INT_STATUS Reg.pageNVS]) ∧ { u with regs := s.regs, mgmt := s.mgmt } = s) ∧
  (∀ s : State, s.mramOpen = true →
    ∃ u : State, exec (.nvRangeReturn false) s = .next u ∧
      u.mgmt.waiting = [] ∧
      u.mgmt.journal = s.mgmt.journal ++ s.mgmt.waiting.map (fun r => { r with half := s.activeHalf }) ∧
      u.mgmt.nextSeq = s.mgmt.nextSeq ∧
      s.regsBut u [Reg.STATUS Reg.pageNVS, Reg.NVS_NV_STATUS, Reg.NVS_QUEUE_DEPTH, Reg.NVS_JOURNAL_USED,
        Reg.NVS_RECORDS, Reg.NVS_LAST_SEQ_LO, Reg.NVS_LAST_SEQ_HI, Reg.MBOXS_KEY_STATE] ∧
      { u with regs := s.regs, mgmt := s.mgmt } = s) ∧
  (∀ s : State, s.norInRange = true →
    ∃ u : State, exec (.nvRangeReturn true) s = .next u ∧
      u.mgmt = { s.mgmt with norPaused := false } ∧ { u with mgmt := s.mgmt } = s) ∧
  (∀ (src : Req) (s : State), s.cutOff src = false → s.rdF Reg.TALLY_HOST_CODE 15 0 < 0xC000 →
    ∃ u : State, exec (.hostPost src) s = .next u ∧
      s.errored u Reg.pageTALLY 0x0101 Reg.TALLY_HOST_POST (srcCode src) ∧ s.regsBut u (errorKeys Reg.pageTALLY) ∧
      { u with regs := s.regs } = s) ∧
  (∀ (src : Req) (s : State), s.cutOff src = false → 0xC000 ≤ s.rdF Reg.TALLY_HOST_CODE 15 0 →
      s.rdF Reg.TALLY_FILTER 1 0 ≤ s.rdF Reg.TALLY_HOST_CODE 17 16 → s.mgmt.intake.length < 64 →
    ∃ u : State, exec (.hostPost src) s = .next u ∧
      u.mgmt = { s.mgmt with intake := s.mgmt.intake ++ [{ code := s.rdF Reg.TALLY_HOST_CODE 15 0, source := 0xF2, inst := 0, severity := s.rdF Reg.TALLY_HOST_CODE 17 16, timeValid := s.net.everLocked, time := s.nowNs, line := s.tallyLine, arg := s.rd Reg.TALLY_HOST_ARG }] } ∧
      { u with mgmt := s.mgmt } = s)

/-- A MODULE reset, its causes, head power, and phase-locked loops. A MODULE reset returns every core register to
its reset value but those that say why and what runs, puts the module in BOOT, holds the mailbox pages told,
empties job memory and every core unit, and leaves the standby domain and the Lookout client; it needs the key
of RESET_CTRL, and a Crew watchdog is another cause. Head power follows its control, the rails and SYS24_IN, and
is not taken away in a run. A short loss sets its bit of PLL_LOSS and INT_STATUS only; a loss of 1 microsecond
of the core PLL is a MODULE reset without HALT, of the DRAM PLL the failure of the channels in service, of the
standby PLL a STANDBY reset; a lock regained sets its bit of PLL_STATUS. Spec: 01_architecture.md,
02_register_pages.md, 14_host_mailboxes.md, 16_power_thermal.md. -/
def Obligations.ModuleResetsAndClocks : Prop :=
  (∀ (src : Req) (data : Nat) (s : State), s.cutOff src = false → fld data 31 16 ≠ 0xA5C3 →
    ∃ u : State, exec (.resetCtrl src data) s = .next u ∧
      s.errored u Reg.pageSYS 0x000E Reg.SYS_RESET_CTRL (srcCode src) ∧ s.regsBut u (errorKeys Reg.pageSYS) ∧
      { u with regs := s.regs } = s) ∧
  (∀ (src : Req) (data : Nat) (s : State), s.cutOff src = false → fld data 31 16 = 0xA5C3 → bitOf data 0 = false →
    exec (.resetCtrl src data) s = .next s) ∧
  (∀ (src : Req) (data : Nat) (s : State), s.cutOff src = false → fld data 31 16 = 0xA5C3 → bitOf data 0 = true →
      s.coreUp = true →
    ∃ u : State, exec (.resetCtrl src data) s = .next u ∧
      u.rd Reg.CLK_PLL_STATUS = s.pllKept ∧ (∀ k ∈ lookoutKeys, u.rd k = s.rd k) ∧
      u.rd Reg.PAIR_PAIR_STATUS = 1 + ((s.rd Reg.PAIR_PAIR_STATUS &&& 0x1100) / 256) * 256 ∧ u.modState = 2 ∧
      u.rd Reg.SYS_RESET_CAUSE = 2 ^ (if isHost src then 2 else 3) ∧ u.rd Reg.SYS_CONFIG = s.rd Reg.SYS_CONFIG ∧
      u.rd Reg.SYS_FW_VERSION = s.rd Reg.SYS_FW_VERSION ∧
      (∀ k, coreKey k = true → k ∉ [Reg.CLK_PLL_STATUS, Reg.SYS_CONFIG, Reg.SYS_FW_VERSION, Reg.SYS_MODULE_STATE,
        Reg.SYS_RESET_CAUSE, Reg.STATUS Reg.pageSYS, Reg.INT_STATUS Reg.pageSYS, Reg.PAIR_PAIR_STATUS] ++
        lookoutKeys → u.rd k = (resetOf k).toNat) ∧
      (∀ k, coreKey k = false → k / 0x1000 ≠ Reg.pageMBOX → k ∉ [Reg.MBOXS_HOST_STATUS, Reg.MBOXS_RESET_COUNT] ++
        tallyKeys → u.rd k = s.rd k) ∧ u.live Reg.MBOX_HOST_STATUS = 1 + 2 * 256 ∧
      u.rd Reg.MBOX_RESET_COUNT = satInc 16 (s.rd Reg.MBOX_RESET_COUNT) ∧
      u.bit (Reg.INT_STATUS Reg.pageMBOX) 24 = true ∧ (u.locks, u.lanes, u.slots) = ([], [], []) ∧
      (u.job, u.line, u.dram, u.ring) = ({}, {}, {}, {}) ∧ (u.pwr, u.net, u.frc) = (s.pwr, s.net, s.frc) ∧
      (u.mgmt.journal, u.mgmt.log, u.mgmt.rom) = (s.mgmt.journal, s.mgmt.log, s.mgmt.rom) ∧ u.mgmt.up = false ∧
      (∀ c ∈ s.activeLanes, Out.block c (stopBlock false s.pairMode 3 (s.line.lastTickLine.getD 0)) ∈ u.out)) ∧
  (∀ s : State, s.coreUp = true →
    ∃ u : State, exec (.crewWatchdog) s = .next u ∧
      u.rd Reg.CLK_PLL_STATUS = s.pllKept ∧ (∀ k ∈ lookoutKeys, u.rd k = s.rd k) ∧
      u.rd Reg.PAIR_PAIR_STATUS = 1 + ((s.rd Reg.PAIR_PAIR_STATUS &&& 0x1100) / 256) * 256 ∧ u.modState = 2 ∧
      u.rd Reg.SYS_RESET_CAUSE = 2 ^ 4 ∧ u.rd Reg.SYS_CONFIG = s.rd Reg.SYS_CONFIG ∧
      u.rd Reg.SYS_FW_VERSION = s.rd Reg.SYS_FW_VERSION ∧
      (∀ k, coreKey k = true → k ∉ [Reg.CLK_PLL_STATUS, Reg.SYS_CONFIG, Reg.SYS_FW_VERSION, Reg.SYS_MODULE_STATE,
        Reg.SYS_RESET_CAUSE, Reg.STATUS Reg.pageSYS, Reg.INT_STATUS Reg.pageSYS, Reg.PAIR_PAIR_STATUS] ++
        lookoutKeys → u.rd k = (resetOf k).toNat) ∧
      (∀ k, coreKey k = false → k / 0x1000 ≠ Reg.pageMBOX → k ∉ [Reg.MBOXS_HOST_STATUS, Reg.MBOXS_RESET_COUNT] ++
        tallyKeys → u.rd k = s.rd k) ∧ u.live Reg.MBOX_HOST_STATUS = 1 + 2 * 256 ∧
      u.rd Reg.MBOX_RESET_COUNT = satInc 16 (s.rd Reg.MBOX_RESET_COUNT) ∧
      u.bit (Reg.INT_STATUS Reg.pageMBOX) 24 = true ∧ (u.locks, u.lanes, u.slots) = ([], [], []) ∧
      (u.job, u.line, u.dram, u.ring) = ({}, {}, {}, {}) ∧ (u.pwr, u.net, u.frc) = (s.pwr, s.net, s.frc) ∧
      (u.mgmt.journal, u.mgmt.log, u.mgmt.rom) = (s.mgmt.journal, s.mgmt.log, s.mgmt.rom) ∧ u.mgmt.up = false ∧
      (∀ c ∈ s.activeLanes, Out.block c (stopBlock false s.pairMode 3 (s.line.lastTickLine.getD 0)) ∈ u.out)) ∧
  (∀ s : State, s.coreUp = false →
    exec (.crewWatchdog) s = .next s) ∧
  (∀ (src : Req) (data : Nat) (s : State), s.bar0Down src (Reg.pagePWR * 0x1000) = false → s.printing = true →
      fld (s.rd Reg.PWR_HEAD_PWR_CTRL) 7 0 &&& (data % 256) ≠ s.rdF Reg.PWR_HEAD_PWR_CTRL 7 0 →
    ∃ u : State, exec (.headPowerControl src data) s = .next u ∧
      s.errored u Reg.pagePWR 0x0101 Reg.PWR_HEAD_PWR_CTRL (srcCode src) ∧ s.regsBut u (errorKeys Reg.pagePWR) ∧
      { u with regs := s.regs } = s) ∧
  (∀ (src : Req) (data : Nat) (s : State), s.bar0Down src (Reg.pagePWR * 0x1000) = false → s.printing = false →
      s.railsGood = true → s.pwr.sys24 = true →
    ∃ u : State, exec (.headPowerControl src data) s = .next u ∧
      u.rd Reg.PWR_HEAD_PWR_CTRL = data % 256 ∧ u.rd Reg.PWR_HEAD_PWR_STATUS = data % 256 ||| u.pwr.headOff ∧
      (s.pwr.headOff = 0 → s.rdF Reg.PWR_HEAD_PWR_CTRL 7 0 &&& (data % 256) = s.rdF Reg.PWR_HEAD_PWR_CTRL 7 0 →
        u.pwr.headOff = 0) ∧
      s.regsBut u ([Reg.PWR_HEAD_PWR_CTRL, Reg.PWR_HEAD_PWR_STATUS, Reg.INT_STATUS Reg.pagePWR] ++ moduleKeys) ∧
      { u with regs := s.regs, pwr := s.pwr, mgmt := s.mgmt } = s) ∧
  (∀ s : State, s.railsGood = true → s.pwr.sys24 = true →
    ∃ u : State, exec (.headPowerDeassert) s = .next u ∧
      u.rd Reg.PWR_HEAD_PWR_STATUS = s.rdF Reg.PWR_HEAD_PWR_CTRL 7 0 ∧ u.pwr = { s.pwr with headOff := 0 } ∧
      s.regsBut u ([Reg.PWR_HEAD_PWR_STATUS, Reg.INT_STATUS Reg.pagePWR] ++ moduleKeys) ∧
      { u with regs := s.regs, pwr := s.pwr, mgmt := s.mgmt } = s) ∧
  (∀ s : State, s.rd Reg.PWR_HEAD_PWR_STATUS ≠ 0 →
    ∃ u : State, exec (.sys24InChange false) s = .next u ∧
      u.rd Reg.PWR_HEAD_PWR_STATUS = 0 ∧ u.rdF Reg.PWR_LAMP_BUS_STATUS 3 0 = 0 ∧
      u.pwr = { s.pwr with sys24 := false } ∧ u.bit Reg.PWR_RAIL_STATUS 19 = false ∧
      u.bit (Reg.INT_STATUS Reg.pagePWR) 13 = true ∧
      s.regsBut u ([Reg.PWR_RAIL_STATUS, Reg.PWR_HEAD_PWR_STATUS, Reg.PWR_LAMP_BUS_STATUS,
        Reg.INT_STATUS Reg.pagePWR, Reg.LINE_SPEED_ADVICE] ++ moduleKeys) ∧
      { u with regs := s.regs, pwr := s.pwr, mgmt := s.mgmt, out := s.out } = s) ∧
  (∀ s : State, s.railsGood = true →
    ∃ u : State, exec (.sys24InChange true) s = .next u ∧
      u.rd Reg.PWR_HEAD_PWR_STATUS = s.rdF Reg.PWR_HEAD_PWR_CTRL 7 0 ||| s.pwr.headOff ∧
      (∀ g ∈ List.range 4, u.bit Reg.PWR_LAMP_BUS_STATUS g = (s.groupSt g != 0 && s.groupSt g != 6)) ∧
      u.pwr = { s.pwr with sys24 := true } ∧ u.bit Reg.PWR_RAIL_STATUS 19 = s.coreUp ∧
      s.regsBut u ([Reg.PWR_RAIL_STATUS, Reg.PWR_HEAD_PWR_STATUS, Reg.PWR_LAMP_BUS_STATUS,
        Reg.INT_STATUS Reg.pagePWR, Reg.LINE_SPEED_ADVICE] ++ moduleKeys) ∧
      { u with regs := s.regs, pwr := s.pwr, mgmt := s.mgmt, out := s.out } = s) ∧
  (∀ (pll : Pll) (s : State), s.bit Reg.CLK_PLL_STATUS (pllBit pll) = true →
    ∃ u : State, exec (.pllLossOfLock pll false) s = .next u ∧
      u.rd Reg.CLK_PLL_LOSS = setB (s.rd Reg.CLK_PLL_LOSS) (pllBit pll) ∧
      u.bit (Reg.INT_STATUS Reg.pageCLK) 8 = true ∧ s.regsBut u [Reg.CLK_PLL_LOSS, Reg.INT_STATUS Reg.pageCLK] ∧
      { u with regs := s.regs } = s) ∧
  (∀ (pll : Pll) (long : Bool) (s : State), s.bit Reg.CLK_PLL_STATUS (pllBit pll) = false →
    exec (.pllLossOfLock pll long) s = .next s) ∧
  (∀ s : State, s.bit Reg.CLK_PLL_STATUS 0 = true → s.coreUp = true →
    ∃ u : State, exec (.pllLossOfLock .core true) s = .next u ∧
      u.modState = 2 ∧ u.rd Reg.SYS_RESET_CAUSE = 2 ^ 7 ∧ u.bit Reg.CLK_PLL_STATUS 0 = false ∧
      u.out = s.coreSilent.out ∧ u.rd Reg.MBOX_RESET_COUNT = satInc 16 (s.rd Reg.MBOX_RESET_COUNT) ∧
      (u.lanes, u.slots, u.locks) = ([], [], []) ∧ u.mgmt.journal = s.mgmt.journal ∧ (u.pwr, u.net) = (s.pwr, s.net)) ∧
  (∀ s : State, s.bit Reg.CLK_PLL_STATUS 1 = true →
    ∃ u : State, exec (.pllLossOfLock .dram true) s = .next u ∧
      (∀ d ∈ List.range 6, u.dramSt d = 5) ∧ u.bit Reg.CLK_PLL_STATUS 1 = false ∧ u.bit Reg.CLK_PLL_LOSS 1 = true ∧
      u.bit (Reg.INT_STATUS Reg.pageCLK) 8 = true ∧ ((∃ d ∈ List.range 6, s.dramSt d ≠ 5) → u.dram.stop = true) ∧
      s.pagesBut u ([Reg.pageCLK, Reg.pageTALLY] ++ (List.range 6).map Reg.pageDRAM) ∧
      { u with regs := s.regs, mgmt := s.mgmt, dram := s.dram } = s) ∧
  (∀ s : State, s.bit Reg.CLK_PLL_STATUS 4 = true → s.modState ≠ 0 →
    ∃ u : State, exec (.pllLossOfLock .stby true) s = .next u ∧
      u.modState = (if s.bit Reg.PWR_RAIL_STATUS 17 then 2 else 1) ∧ u.rd Reg.SYS_RESET_CAUSE = 2 ^ 1 ∧
      u.bit Reg.CLK_PLL_STATUS 4 = false ∧ u.mgmt.journal = s.mgmt.journal ∧
      (u.lanes, u.slots, u.locks) = ([], [], [])) ∧
  (∀ s : State, s.bit Reg.CLK_PLL_STATUS 3 = true →
    ∃ u : State, exec (.pllLossOfLock .net true) s = .next u ∧
      u.bit Reg.CLK_PLL_STATUS 3 = false ∧ u.bit Reg.CLK_PLL_LOSS 3 = true ∧
      (∀ p ∈ List.range 2, u.bit (Reg.NET_PORT_STATUS p) 0 = false) ∧
      s.pagesBut u [Reg.pageCLK, Reg.pageTALLY, Reg.pageTIME, Reg.pagePRP, Reg.pageNET 0, Reg.pageNET 1] ∧
      { u with regs := s.regs, mgmt := s.mgmt, net := s.net } = s) ∧
  (∀ (pll : Pll) (s : State),
    ∃ u : State, exec (.pllLockRegained pll) s = .next u ∧
      u.rd Reg.CLK_PLL_STATUS = setB (s.rd Reg.CLK_PLL_STATUS) (pllBit pll) ∧ s.regsBut u [Reg.CLK_PLL_STATUS] ∧
      { u with regs := s.regs } = s)

/-- POR, the resets of the standby domain, PERST#, function level resets and the boot chain. POR and a STANDBY reset
put every register outside a short list at its reset value and keep the journal, the banks and FRC (POR: FRC 0);
with mains the module is then in BOOT, without it in STANDBY. PERST# and a function level reset leave the
registers of the module, clear the MSI-X state of their function and reset its host side. BOOT from the ROM runs
the chosen bank, or stays in recovery where neither can be booted; the chain then brings up the rails, reads
CONFIG, trains DRAM, puts the Crew image into region 56 and starts the lanes that are not isolated, and the
module is IDLE; with a DRAM channel failed it is SAFE; outside BOOT nothing happens. Spec: 01_architecture.md,
14_host_mailboxes.md, 15_management_log.md, 18_startup_operation.md. -/
def Obligations.StandbyResetsAndBoot : Prop :=
  (∀ (mains sb24 : Bool) (s : State), mains = true →
    ∃ u : State, exec (.powerOnReset mains sb24) s = .next u ∧
      u.modState = 2 ∧ u.frc = 0 ∧ u.rd Reg.SYS_RESET_CAUSE = 1 ∧ u.mgmt.intake = [porEntry] ∧
      u.live Reg.MBOX_HOST_STATUS = 0x201 ∧ u.rdF Reg.PWR_RAIL_STATUS 18 16 = b2n sb24 + 2 ∧
      (∀ k, k ∉ [Reg.FW_BANK_A_STATE, Reg.FW_BANK_A_VERSION, Reg.FW_BANK_B_STATE, Reg.FW_BANK_B_VERSION,
        Reg.SYS_CONFIG, Reg.SYS_FW_VERSION, Reg.PWR_RAIL_STATUS, Reg.FW_FW_STATUS, Reg.MBOXS_SESSION_LO,
        Reg.MBOXS_SESSION_HI, Reg.INT_STATUS Reg.pageMBOX, Reg.INT_STATUS Reg.pageMBOXS, Reg.NVS_NV_STATUS,
        Reg.NVS_QUEUE_DEPTH, Reg.NVS_JOURNAL_USED, Reg.NVS_RECORDS, Reg.NVS_LAST_SEQ_LO, Reg.NVS_LAST_SEQ_HI,
        Reg.MBOXS_KEY_STATE, Reg.SYS_RESET_CAUSE, Reg.SYS_MODULE_STATE, Reg.STATUS Reg.pageSYS, Reg.MBOX_HOST_STATUS,
        Reg.MBOXS_HOST_STATUS, Reg.INT_STATUS Reg.pageSYS] → u.rd k = (resetOf k).toNat) ∧
      (u.lanes, u.slots, u.locks) = ([], [], []) ∧ u.latchR = [] ∧ u.latchW = [] ∧
      (u.job, u.line, u.dram, u.ring) = ({}, {}, {}, {}) ∧
      u.host = { sessionLo := s.free, sessionHi := s.drew.free } ∧ u.freeCount = s.freeCount + 2 ∧ u.mgmt.up = false ∧
      (u.mgmt.journal, u.mgmt.nextSeq, u.mgmt.bankA, u.mgmt.bankB) = (s.mgmt.journal, s.mgmt.nextSeq, s.mgmt.bankA,
        s.mgmt.bankB) ∧ (u.out, u.pending) = (s.out, s.pending) ∧ u.bit (Reg.INT_STATUS Reg.pageMBOX) 26 = true) ∧
  (∀ s : State,
    ∃ u : State, exec (.powerOnReset false true) s = .next u ∧
      u.modState = 1 ∧ u.frc = 0 ∧ u.rd Reg.SYS_RESET_CAUSE = 1 ∧ u.mgmt.intake = [porEntry] ∧
      u.rdF Reg.PWR_RAIL_STATUS 18 16 = 5 ∧
      (∀ k, k ∉ [Reg.FW_BANK_A_STATE, Reg.FW_BANK_A_VERSION, Reg.FW_BANK_B_STATE, Reg.FW_BANK_B_VERSION,
        Reg.SYS_CONFIG, Reg.SYS_FW_VERSION, Reg.PWR_RAIL_STATUS, Reg.FW_FW_STATUS, Reg.MBOXS_SESSION_LO,
        Reg.MBOXS_SESSION_HI, Reg.INT_STATUS Reg.pageMBOX, Reg.INT_STATUS Reg.pageMBOXS, Reg.NVS_NV_STATUS,
        Reg.NVS_QUEUE_DEPTH, Reg.NVS_JOURNAL_USED, Reg.NVS_RECORDS, Reg.NVS_LAST_SEQ_LO, Reg.NVS_LAST_SEQ_HI,
        Reg.MBOXS_KEY_STATE, Reg.SYS_RESET_CAUSE, Reg.SYS_MODULE_STATE, Reg.STATUS Reg.pageSYS, Reg.MBOX_HOST_STATUS,
        Reg.MBOXS_HOST_STATUS, Reg.INT_STATUS Reg.pageSYS] → u.rd k = (resetOf k).toNat) ∧
      (u.lanes, u.slots, u.locks) = ([], [], []) ∧ u.latchR = [] ∧ u.latchW = [] ∧
      (u.job, u.line, u.dram, u.ring) = ({}, {}, {}, {}) ∧
      u.host = { sessionLo := s.free, sessionHi := s.drew.free } ∧ u.freeCount = s.freeCount + 2 ∧ u.mgmt.up = false ∧
      (u.mgmt.journal, u.mgmt.nextSeq, u.mgmt.bankA, u.mgmt.bankB) = (s.mgmt.journal, s.mgmt.nextSeq, s.mgmt.bankA,
        s.mgmt.bankB) ∧ (u.out, u.pending) = (s.out, s.pending) ∧ u.bit (Reg.INT_STATUS Reg.pageMBOX) 26 = true) ∧
  (∀ (ls : List Nat) (s : State), s.modState ≠ 0 →
    ∃ u : State, exec (.rangerWatchdog ls) s = .next u ∧
      u.rd (Reg.INT_STATUS Reg.pageSYS) = (if s.modState = u.modState then 0 else 256) ∧
      u.modState = (if s.bit Reg.PWR_RAIL_STATUS 17 then 2 else 1) ∧ u.frc = s.frc ∧
      u.rd Reg.CLK_PLL_STATUS = s.pllKept ∧ u.rd Reg.SYS_RESET_CAUSE = 2 ^ 5 ∧
      u.mgmt.log = s.mgmt.log.filter (fun e => !ls.contains e.1) ∧
      (∀ k, k ∉ [Reg.FW_BANK_A_STATE, Reg.FW_BANK_A_VERSION, Reg.FW_BANK_B_STATE, Reg.FW_BANK_B_VERSION,
        Reg.SYS_CONFIG, Reg.SYS_FW_VERSION, Reg.PWR_RAIL_STATUS, Reg.FW_FW_STATUS, Reg.MBOXS_SESSION_LO,
        Reg.MBOXS_SESSION_HI, Reg.INT_STATUS Reg.pageMBOX, Reg.INT_STATUS Reg.pageMBOXS, Reg.NVS_NV_STATUS,
        Reg.NVS_QUEUE_DEPTH, Reg.NVS_JOURNAL_USED, Reg.NVS_RECORDS, Reg.NVS_LAST_SEQ_LO, Reg.NVS_LAST_SEQ_HI,
        Reg.MBOXS_KEY_STATE, Reg.SYS_RESET_CAUSE, Reg.SYS_MODULE_STATE, Reg.STATUS Reg.pageSYS, Reg.MBOX_HOST_STATUS,
        Reg.MBOXS_HOST_STATUS, Reg.INT_STATUS Reg.pageSYS] ++ [Reg.CLK_PLL_STATUS, Reg.TALLY_NEXT_SEQ,
        Reg.TALLY_OLDEST_SEQ, Reg.TALLY_CORRUPT, Reg.TALLY_DROPPED, Reg.THERM_TRIP_COUNT, Reg.PWR_POWER_EVENT] ++
        tallyKeys → u.rd k = (resetOf k).toNat) ∧ (u.lanes, u.slots, u.locks) = ([], [], []) ∧
      u.latchR = [] ∧ u.latchW = [] ∧ (u.job, u.line, u.dram, u.ring) = ({}, {}, {}, {}) ∧
      u.host = { sessionLo := s.free, sessionHi := s.drew.free } ∧ u.freeCount = s.freeCount + 2 ∧ u.mgmt.up = false ∧
      (u.mgmt.journal, u.mgmt.nextSeq, u.mgmt.bankA, u.mgmt.bankB) = (s.mgmt.journal, s.mgmt.nextSeq, s.mgmt.bankA,
        s.mgmt.bankB) ∧ (u.out, u.pending) = (s.out, s.pending) ∧ u.bit (Reg.INT_STATUS Reg.pageMBOX) 26 = true ∧
      u.rd Reg.TALLY_CORRUPT = satAdd 32 0 (s.mgmt.log.length - u.mgmt.log.length)) ∧
  (∀ (ls : List Nat) (s : State), s.modState = 0 →
    exec (.rangerWatchdog ls) s = .next s) ∧
  (∀ (src : Req) (data : Nat) (s : State), s.asleep src = false → fld data 31 16 ≠ 0xA5C3 →
    ∃ u : State, exec (.fwReboot src data) s = .next u ∧
      s.errored u Reg.pageFW 0x000E Reg.FW_REBOOT (srcCode src) ∧ s.regsBut u (errorKeys Reg.pageFW) ∧
      { u with regs := s.regs } = s) ∧
  (∀ (src : Req) (data : Nat) (s : State), s.asleep src = false → fld data 31 16 = 0xA5C3 → bitOf data 0 = true →
      s.modState ≠ 0 →
    ∃ u : State, exec (.fwReboot src data) s = .next u ∧
      u.rd (Reg.INT_STATUS Reg.pageSYS) = (if s.modState = u.modState then 0 else 256) ∧
      u.modState = (if s.bit Reg.PWR_RAIL_STATUS 17 then 2 else 1) ∧ u.frc = s.frc ∧
      u.rd Reg.CLK_PLL_STATUS = s.pllKept ∧ u.rd Reg.SYS_RESET_CAUSE = 2 ^ 1 ∧ u.mgmt.log = s.mgmt.log ∧
      (∀ k, k ∉ [Reg.FW_BANK_A_STATE, Reg.FW_BANK_A_VERSION, Reg.FW_BANK_B_STATE, Reg.FW_BANK_B_VERSION,
        Reg.SYS_CONFIG, Reg.SYS_FW_VERSION, Reg.PWR_RAIL_STATUS, Reg.FW_FW_STATUS, Reg.MBOXS_SESSION_LO,
        Reg.MBOXS_SESSION_HI, Reg.INT_STATUS Reg.pageMBOX, Reg.INT_STATUS Reg.pageMBOXS, Reg.NVS_NV_STATUS,
        Reg.NVS_QUEUE_DEPTH, Reg.NVS_JOURNAL_USED, Reg.NVS_RECORDS, Reg.NVS_LAST_SEQ_LO, Reg.NVS_LAST_SEQ_HI,
        Reg.MBOXS_KEY_STATE, Reg.SYS_RESET_CAUSE, Reg.SYS_MODULE_STATE, Reg.STATUS Reg.pageSYS, Reg.MBOX_HOST_STATUS,
        Reg.MBOXS_HOST_STATUS, Reg.INT_STATUS Reg.pageSYS] ++ [Reg.CLK_PLL_STATUS, Reg.TALLY_NEXT_SEQ,
        Reg.TALLY_OLDEST_SEQ, Reg.TALLY_CORRUPT, Reg.TALLY_DROPPED, Reg.THERM_TRIP_COUNT, Reg.PWR_POWER_EVENT] ++
        tallyKeys → u.rd k = (resetOf k).toNat) ∧ (u.lanes, u.slots, u.locks) = ([], [], []) ∧
      u.latchR = [] ∧ u.latchW = [] ∧ (u.job, u.line, u.dram, u.ring) = ({}, {}, {}, {}) ∧
      u.host = { sessionLo := s.free, sessionHi := s.drew.free } ∧ u.freeCount = s.freeCount + 2 ∧ u.mgmt.up = false ∧
      (u.mgmt.journal, u.mgmt.nextSeq, u.mgmt.bankA, u.mgmt.bankB) = (s.mgmt.journal, s.mgmt.nextSeq, s.mgmt.bankA,
        s.mgmt.bankB) ∧ (u.out, u.pending) = (s.out, s.pending) ∧ u.bit (Reg.INT_STATUS Reg.pageMBOX) 26 = true) ∧
  (∀ (pf1 d3 : Bool) (s : State),
    ∃ u : State, exec (.functionLevelReset pf1 d3) s = .next u ∧
      u.asleep (if pf1 then .pf1 else .pf0) = d3 ∧
      (∀ q ∈ List.range 16, s.queuePf1 q = pf1 → u.queueSt q = 7 ∧ u.bit (Reg.YARD_Q_CFG q) 0 = false) ∧
      (∀ q ∈ List.range 16, s.queuePf1 q = !pf1 → u.rd (Reg.YARD_Q_CFG q) = s.rd (Reg.YARD_Q_CFG q) ∧ u.queueSt q =
        s.queueSt q) ∧ u.locks = s.locks.filter (fun e => e.2 != ownerId (if pf1 = true then .pf1 else .pf0)) ∧
      u.msix = s.msix.filter (fun e => decide (e.1 < 64) == pf1) ∧
      s.pagesBut u [Reg.pageYARD, if pf1 = true then Reg.pageMBOXS else Reg.pageMBOX, if pf1 = true then 0x301 else
        0x300] ∧
      { u with regs := s.regs, locks := s.locks, msix := s.msix, host := s.host, job := s.job, out := s.out } = s) ∧
  (∀ s : State,
    ∃ u : State, exec (.perst) s = .next u ∧
      (∀ q ∈ List.range 16, u.queueSt q = 7) ∧ u.locks = s.locks.filter (fun e => e.2 != 0x01 && e.2 != 0x02) ∧
      u.msix = [] ∧ u.host.link = false ∧ u.job.atc = [] ∧ u.job.mem = s.job.mem ∧
      s.pagesBut u [Reg.pageYARD, Reg.pageMBOX, Reg.pageMBOXS, 0x300, 0x301] ∧
      { u with regs := s.regs, locks := s.locks, msix := s.msix, host := s.host, job := s.job, out := s.out } = s) ∧
  (∀ (gen : Fin 4) (width : Fin 5) (fn0 fn1 : PcieFn) (s : State),
    ∃ u : State, exec (.pcieLinkUp gen width fn0 fn1) s = .next u ∧
      u.host = { s.host with link := true, gen := gen.val + 1, width := 2 ^ width.val, fn0 := fn0, fn1 := fn1, sleep0 := false, sleep1 := false } ∧
      u.reply = [gen.val + 1, 2 ^ width.val] ++ pciLimits ++ s.pciIdentity false ++ s.pciIdentity true ∧
      { u with host := s.host, reply := s.reply } = s) ∧
  (∀ (b : BootOutcome) (s : State), s.modState ≠ 2 →
    exec (.boot b) s = .next s) ∧
  (∀ (b : BootOutcome) (img : ImageSet) (s : State), s.modState = 2 → s.mgmt.rom = false → s.mgmt.journal = [] →
      s.mgmt.waiting = [] → s.trainFails b.margins = [] → bitOf s.pwr.straps 1 = false → s.activeLanes = [] →
      s.runningBank = 0 → s.mgmt.bankA = some img → img.crewHash = s.mgmt.runCrew →
    ∃ u : State, exec (.boot b) s = .next u ∧
      u.modState = 3 ∧ u.rdF Reg.PWR_RAIL_STATUS 10 0 = 0x7FF ∧ u.rd Reg.SYS_CONFIG = s.pwr.straps &&& 0x13 ∧
      (∀ d ∈ List.range 6, u.dramSt d = 2 ∧ u.bit (Reg.DRAM_TRAIN_STATUS d) 16 = true) ∧
      u.bit (Reg.INT_STATUS Reg.pageMBOX) 25 = true ∧ u.live Reg.MBOX_HOST_STATUS = 0x300 ∧
      (∀ c ∈ channels, s.laneSt c = 0 → s.bit (Reg.CH_CH_CTRL c) 0 = false → u.laneSt c = 1) ∧
      (∀ c ∈ channels, s.laneSt c ≠ 0 ∨ s.bit (Reg.CH_CH_CTRL c) 0 = true → u.laneSt c = s.laneSt c) ∧
      u.job.mem = (s.memWrite (crewBase 0) img.crew).job.mem ∧
      u.mgmt = { s.mgmt with rom := false, crewSlot := 0, up := true, nextSeq := 1, intake := u.mgmt.intake } ∧
      s.pagesBut u ([Reg.pageSYS, Reg.pagePWR, Reg.pageFW, Reg.pageNVS, Reg.pageMBOX, Reg.pageMBOXS,
        Reg.pageTALLY] ++ (List.range 6).map Reg.pageDRAM ++ (List.range 4).map Reg.pageLAMP ++
        (List.range 128).map Reg.pageCH ++ [Reg.pagePAIR]) ∧
      { u with regs := s.regs, mgmt := s.mgmt, lanes := s.lanes, line := s.line, out := s.out, scr := s.scr, job := s.job } =
        s) ∧
  (∀ (b : BootOutcome) (img : ImageSet) (s : State), s.modState = 2 → s.mgmt.rom = true → s.bankSt 0 = 4 →
      s.bankSt 1 = 0 → s.mgmt.bankA = some img → b.aOk = true → s.mgmt.journal = [] → s.trainFails b.margins ≠ [] →
    ∃ u : State, exec (.boot b) s = .next u ∧
      u.modState = 7 ∧ u.rd Reg.SYS_FW_VERSION = img.version % 2 ^ 32 ∧ u.mgmt.runCrew = img.crewHash ∧
      (u.runningBank, u.recovery) = (0, false) ∧ u.rdF Reg.PWR_RAIL_STATUS 10 0 = 0x7FF ∧
      u.rd Reg.SYS_CONFIG = s.pwr.straps &&& 0x13 ∧
      (∀ d ∈ List.range 6, u.dramSt d = (if (s.trainFails b.margins).contains d then 5 else 2)) ∧
      u.live Reg.MBOX_HOST_STATUS = 0x701 ∧ u.out = s.out ++ [Out.uart 0 [0]] ∧
      s.pagesBut u ([Reg.pageSYS, Reg.pagePWR, Reg.pageFW, Reg.pageNVS, Reg.pageMBOX, Reg.pageMBOXS,
        Reg.pageTALLY] ++ (List.range 6).map Reg.pageDRAM ++ (List.range 4).map Reg.pageLAMP) ∧
      { u with regs := s.regs, mgmt := s.mgmt, out := s.out, lamp := s.lamp } = s) ∧
  (∀ (b : BootOutcome) (r : JournalRecord) (s : State), s.modState = 2 → s.mgmt.rom = true → s.mgmt.journal = [r] →
      r.kind = 1 ∧ r.key = 0 ∧ r.committed = true ∧ r.half = s.activeHalf → b.badRecords = [] →
      (∀ n ∈ List.range 2, leValue ((r.data.drop (4 * n)).take 4) % 8 ≠ 3 ∧
      leValue ((r.data.drop (4 * n)).take 4) % 8 ≠ 4) →
    ∃ u : State, exec (.boot b) s = .next u ∧
      u.recovery = true ∧
      (∀ n ∈ List.range 2, u.bankSt n = (if bitOf (leValue ((r.data.drop 8).take 4)) n then 5 else
        leValue ((r.data.drop (4 * n)).take 4) % 8))) ∧
  (∀ (b : BootOutcome) (s : State), s.modState = 2 → s.mgmt.rom = true → s.mgmt.journal = [] → s.mgmt.waiting = [] →
      (∀ i ∈ List.range 2, s.bankSt i ≠ 3 ∧ s.bankSt i ≠ 4) →
    ∃ u : State, exec (.boot b) s = .next u ∧
      u.recovery = true ∧ u.modState = 2 ∧ u.out = s.out ++ [Out.uart 0 [2]] ∧ s.mgmt.butJournal u.mgmt ∧
      s.regsBut u ([Reg.FW_FW_STATUS, Reg.FW_BANK_A_STATE, Reg.FW_BANK_B_STATE, Reg.FW_BANK_A_VERSION,
        Reg.FW_BANK_B_VERSION] ++ journalKeys) ∧ { u with regs := s.regs, out := s.out, mgmt := s.mgmt } = s)

/-- Firmware updates and live updates. Every operation but CONFIRM is refused on the running bank, and all during
another; ERASE_WRITE starts with a length it can take, VERIFY and ACTIVATE act on a WRITTEN and a VALID bank,
CONFIRM makes the PENDING bank ACTIVE and raises the floor; UPDATE_STATUS and INT_STATUS say how each ended, and
the journal has the new bank states. LIVE_CREW puts the new image beside the running one, restarts Crew3 first
and each core in turn as the one before it is ready; after Crew0 the new images run and their bank is on trial;
a core that is not ready in time brings the old images back and rejects the bank; LIVE_RANGER is taken in PARK
and ends with the new image. Spec: 15_management_log.md. -/
def Obligations.FirmwareAndLiveUpdates : Prop :=
  (∀ (src : Req) (s : State), s.asleep src = false → s.recovery = false → s.updateBank = s.runningBank →
    ∃ u : State, exec (.eraseWrite src) s = .next u ∧
      u.rd Reg.FW_UPDATE_STATUS = 0 + 4 * 16 + 0x0101 * 65536 ∧ u.bit (Reg.INT_STATUS Reg.pageFW) 8 = true ∧
      s.errored u Reg.pageFW 0x0101 Reg.FW_UPDATE_CTRL (srcCode src) ∧
      s.regsBut u (errorKeys Reg.pageFW ++ [Reg.FW_UPDATE_STATUS, Reg.INT_STATUS Reg.pageFW]) ∧
      { u with regs := s.regs } = s) ∧
  (∀ (src : Req) (s : State), s.asleep src = false → s.recovery = false → s.updateBank = s.runningBank →
    ∃ u : State, exec (.fwVerify src) s = .next u ∧
      u.rd Reg.FW_UPDATE_STATUS = 1 + 4 * 16 + 0x0101 * 65536 ∧ u.bit (Reg.INT_STATUS Reg.pageFW) 8 = true ∧
      s.errored u Reg.pageFW 0x0101 Reg.FW_UPDATE_CTRL (srcCode src) ∧
      s.regsBut u (errorKeys Reg.pageFW ++ [Reg.FW_UPDATE_STATUS, Reg.INT_STATUS Reg.pageFW]) ∧
      { u with regs := s.regs } = s) ∧
  (∀ (src : Req) (s : State), s.asleep src = false → s.recovery = false → s.updateBank = s.runningBank →
    ∃ u : State, exec (.fwActivate src) s = .next u ∧
      u.rd Reg.FW_UPDATE_STATUS = 2 + 4 * 16 + 0x0101 * 65536 ∧ u.bit (Reg.INT_STATUS Reg.pageFW) 8 = true ∧
      s.errored u Reg.pageFW 0x0101 Reg.FW_UPDATE_CTRL (srcCode src) ∧
      s.regsBut u (errorKeys Reg.pageFW ++ [Reg.FW_UPDATE_STATUS, Reg.INT_STATUS Reg.pageFW]) ∧
      { u with regs := s.regs } = s) ∧
  (∀ (src : Req) (s : State), s.asleep src = false → s.recovery = false → s.updateBank = s.runningBank →
    ∃ u : State, exec (.liveCrew src) s = .next u ∧
      u.rd Reg.FW_UPDATE_STATUS = 4 + 4 * 16 + 0x0101 * 65536 ∧ u.bit (Reg.INT_STATUS Reg.pageFW) 8 = true ∧
      s.errored u Reg.pageFW 0x0101 Reg.FW_UPDATE_CTRL (srcCode src) ∧
      s.regsBut u (errorKeys Reg.pageFW ++ [Reg.FW_UPDATE_STATUS, Reg.INT_STATUS Reg.pageFW]) ∧
      { u with regs := s.regs } = s) ∧
  (∀ (src : Req) (s : State), s.asleep src = false → s.recovery = false → s.updateBank = s.runningBank →
    ∃ u : State, exec (.liveRanger src) s = .next u ∧
      u.rd Reg.FW_UPDATE_STATUS = 5 + 4 * 16 + 0x0101 * 65536 ∧ u.bit (Reg.INT_STATUS Reg.pageFW) 8 = true ∧
      s.errored u Reg.pageFW 0x0101 Reg.FW_UPDATE_CTRL (srcCode src) ∧
      s.regsBut u (errorKeys Reg.pageFW ++ [Reg.FW_UPDATE_STATUS, Reg.INT_STATUS Reg.pageFW]) ∧
      { u with regs := s.regs } = s) ∧
  (∀ (src : Req) (s : State), s.asleep src = false → s.updateBank ≠ s.runningBank → s.mgmt.op.isSome = true →
    ∃ u : State, exec (.fwActivate src) s = .next u ∧
      u.rd Reg.FW_UPDATE_STATUS = 2 + 4 * 16 + 0x010D * 65536 ∧ u.bit (Reg.INT_STATUS Reg.pageFW) 8 = true ∧
      s.errored u Reg.pageFW 0x010D Reg.FW_UPDATE_CTRL (srcCode src) ∧
      s.regsBut u (errorKeys Reg.pageFW ++ [Reg.FW_UPDATE_STATUS, Reg.INT_STATUS Reg.pageFW]) ∧
      { u with regs := s.regs } = s) ∧
  (∀ (src : Req) (s : State), s.asleep src = false → s.updateBank ≠ s.runningBank → s.mgmt.op = none →
      s.recovery = true →
    ∃ u : State, exec (.liveCrew src) s = .next u ∧
      u.rd Reg.FW_UPDATE_STATUS = 4 + 4 * 16 + 0x0102 * 65536 ∧ u.bit (Reg.INT_STATUS Reg.pageFW) 8 = true ∧
      s.errored u Reg.pageFW 0x0102 Reg.FW_UPDATE_CTRL (srcCode src) ∧
      s.regsBut u (errorKeys Reg.pageFW ++ [Reg.FW_UPDATE_STATUS, Reg.INT_STATUS Reg.pageFW]) ∧
      { u with regs := s.regs } = s) ∧
  (∀ (src : Req) (s : State), s.asleep src = false → s.updateBank ≠ s.runningBank → s.mgmt.op = none →
      512 ≤ s.rdF Reg.FW_LEN 28 0 → s.rdF Reg.FW_LEN 28 0 ≤ 268435456 → s.norInRange = true → s.modState ≠ 8 →
    ∃ u : State, exec (.eraseWrite src) s = .next u ∧
      u.rd Reg.FW_UPDATE_STATUS = 0x10 ∧ u.bit (Reg.STATUS Reg.pageFW) 1 = true ∧
      { s.mgmt with op := some 0, liveBank := s.updateBank }.butJournal u.mgmt ∧ s.banksRecorded u ∧
      u.out = s.out ++ [Out.hostRead (if s.bit Reg.FW_PASID 31 then some (s.rdF Reg.FW_PASID 19 0) else
        none) (s.rd64 Reg.FW_SRC_LO Reg.FW_SRC_HI) (s.rdF Reg.FW_LEN 28 0)] ∧
      s.regsBut u ([Reg.FW_UPDATE_STATUS, Reg.STATUS Reg.pageFW] ++ journalKeys) ∧
      { u with regs := s.regs, mgmt := s.mgmt, out := s.out } = s) ∧
  (∀ (src : Req) (s : State), s.asleep src = false → s.updateBank ≠ s.runningBank → s.mgmt.op = none →
      s.rdF Reg.FW_LEN 28 0 < 512 →
    ∃ u : State, exec (.eraseWrite src) s = .next u ∧
      u.rd Reg.FW_UPDATE_STATUS = 0 + 4 * 16 + 0x0107 * 65536 ∧ u.bit (Reg.INT_STATUS Reg.pageFW) 8 = true ∧
      s.errored u Reg.pageFW 0x0107 Reg.FW_UPDATE_CTRL (srcCode src) ∧
      s.regsBut u (errorKeys Reg.pageFW ++ [Reg.FW_UPDATE_STATUS, Reg.INT_STATUS Reg.pageFW]) ∧
      { u with regs := s.regs } = s) ∧
  (∀ (src : Req) (img : ImageSet) (s : State), s.asleep src = false → s.updateBank ≠ s.runningBank →
      s.mgmt.op = none → s.bankSt s.updateBank = 1 → s.bankImage s.updateBank = some img → s.imageFault img = none →
    ∃ u : State, exec (.fwVerify src) s = .next u ∧
      u.rd Reg.FW_UPDATE_STATUS = 1 + 2 * 16 + 100 * 256 ∧ u.bankSt s.updateBank = 2 ∧
      u.bit (Reg.INT_STATUS Reg.pageFW) 8 = true ∧ s.mgmt.butJournal u.mgmt ∧ s.banksRecorded u ∧
      s.regsBut u (bankKey s.updateBank :: [Reg.FW_UPDATE_STATUS, Reg.INT_STATUS Reg.pageFW,
        Reg.STATUS Reg.pageFW] ++ journalKeys) ∧ { u with regs := s.regs, mgmt := s.mgmt } = s) ∧
  (∀ (src : Req) (img : ImageSet) (code : Nat) (s : State), s.asleep src = false → s.updateBank ≠ s.runningBank →
      s.mgmt.op = none → s.bankSt s.updateBank = 1 → s.bankImage s.updateBank = some img → s.imageFault img = some code →
    ∃ u : State, exec (.fwVerify src) s = .next u ∧
      u.rd Reg.FW_UPDATE_STATUS = 1 + 3 * 16 + code * 65536 ∧ u.bankSt s.updateBank = 6 ∧
      s.errored u Reg.pageFW code 0 0 ∧ s.mgmt.butJournal u.mgmt ∧ s.banksRecorded u ∧
      s.regsBut u (bankKey s.updateBank :: errorKeys Reg.pageFW ++ [Reg.FW_UPDATE_STATUS, Reg.INT_STATUS Reg.pageFW,
        Reg.STATUS Reg.pageFW] ++ journalKeys) ∧ { u with regs := s.regs, mgmt := s.mgmt } = s) ∧
  (∀ (src : Req) (s : State), s.asleep src = false → s.updateBank ≠ s.runningBank → s.mgmt.op = none →
      s.bankSt s.updateBank ≠ 1 →
    ∃ u : State, exec (.fwVerify src) s = .next u ∧
      u.rd Reg.FW_UPDATE_STATUS = 1 + 4 * 16 + 0x0102 * 65536 ∧ u.bit (Reg.INT_STATUS Reg.pageFW) 8 = true ∧
      s.errored u Reg.pageFW 0x0102 Reg.FW_UPDATE_CTRL (srcCode src) ∧
      s.regsBut u (errorKeys Reg.pageFW ++ [Reg.FW_UPDATE_STATUS, Reg.INT_STATUS Reg.pageFW]) ∧
      { u with regs := s.regs } = s) ∧
  (∀ (src : Req) (s : State), s.asleep src = false → s.updateBank ≠ s.runningBank → s.mgmt.op = none →
      s.bankSt s.updateBank = 2 →
    ∃ u : State, exec (.fwActivate src) s = .next u ∧
      u.rd Reg.FW_UPDATE_STATUS = 2 + 2 * 16 + 100 * 256 ∧ u.bankSt s.updateBank = 3 ∧ u.bankTries s.updateBank = 3 ∧
      u.bankSvn s.updateBank = s.bankSvn s.updateBank ∧ u.bit (Reg.INT_STATUS Reg.pageFW) 8 = true ∧
      s.mgmt.butJournal u.mgmt ∧ s.banksRecorded u ∧
      s.regsBut u (bankKey s.updateBank :: [Reg.FW_UPDATE_STATUS, Reg.INT_STATUS Reg.pageFW,
        Reg.STATUS Reg.pageFW] ++ journalKeys) ∧ { u with regs := s.regs, mgmt := s.mgmt } = s) ∧
  (∀ (src : Req) (s : State), s.asleep src = false → s.mgmt.op = none → (∀ i ∈ List.range 2, s.bankSt i ≠ 3) →
    ∃ u : State, exec (.confirmImage src) s = .next u ∧
      u.rd Reg.FW_UPDATE_STATUS = 3 + 4 * 16 + 0x0102 * 65536 ∧ u.bit (Reg.INT_STATUS Reg.pageFW) 8 = true ∧
      s.errored u Reg.pageFW 0x0102 Reg.FW_UPDATE_CTRL (srcCode src) ∧
      s.regsBut u (errorKeys Reg.pageFW ++ [Reg.FW_UPDATE_STATUS, Reg.INT_STATUS Reg.pageFW]) ∧
      { u with regs := s.regs } = s) ∧
  (∀ (src : Req) (s : State), s.asleep src = false → s.mgmt.op = none → s.recovery = false → s.updateBank < 2 →
      s.bankSt s.updateBank = 3 → s.bankSt (1 - s.updateBank) = 4 →
    ∃ u : State, exec (.confirmImage src) s = .next u ∧
      u.rd Reg.FW_UPDATE_STATUS = 3 + 2 * 16 + 100 * 256 ∧ u.bankSt s.updateBank = 4 ∧
      u.fwFloor = max s.fwFloor (s.bankSvn s.updateBank) ∧
      u.bankSt (1 - s.updateBank) = (if s.bankSvn (1 - s.updateBank) < u.fwFloor then 7 else 2) ∧
      u.bit (Reg.INT_STATUS Reg.pageFW) 8 = true ∧ s.mgmt.butJournal u.mgmt ∧ s.banksRecorded u ∧
      s.regsBut u ([Reg.FW_BANK_A_STATE, Reg.FW_BANK_B_STATE, Reg.FW_FW_STATUS] ++ [Reg.FW_UPDATE_STATUS,
        Reg.INT_STATUS Reg.pageFW, Reg.STATUS Reg.pageFW] ++ journalKeys) ∧
      { u with regs := s.regs, mgmt := s.mgmt } = s) ∧
  (∀ (src : Req) (s : State), s.asleep src = false → s.recovery = false → s.mgmt.op ≠ some 0 →
    exec (.updateAbort src) s = .next s) ∧
  (∀ (src : Req) (s : State), s.asleep src = false → s.recovery = true →
    ∃ u : State, exec (.updateAbort src) s = .next u ∧
      s.errored u Reg.pageFW 0x0102 Reg.FW_UPDATE_CTRL (srcCode src) ∧ s.regsBut u (errorKeys Reg.pageFW) ∧
      { u with regs := s.regs } = s) ∧
  (∀ (src : Req) (s : State), s.asleep src = false → s.recovery = false → s.mgmt.op = some 0 →
    ∃ u : State, exec (.updateAbort src) s = .next u ∧
      u.bankSt s.mgmt.liveBank = 5 ∧ u.rd Reg.FW_UPDATE_STATUS = 0x30 ∧ u.bit (Reg.STATUS Reg.pageFW) 1 = false ∧
      { s.mgmt with op := none, liveCore := none, norPaused := false }.butJournal u.mgmt ∧ s.banksRecorded u ∧
      u.bit (Reg.INT_STATUS Reg.pageFW) 8 = true ∧
      s.regsBut u (bankKey s.mgmt.liveBank :: [Reg.FW_UPDATE_STATUS, Reg.INT_STATUS Reg.pageFW,
        Reg.STATUS Reg.pageFW] ++ journalKeys) ∧ { u with regs := s.regs, mgmt := s.mgmt } = s) ∧
  (∀ s : State, s.mgmt.op = some 0 → s.mgmt.norPaused = false →
    ∃ u : State, exec (.fwOperationDone none) s = .next u ∧
      u.bankSt s.mgmt.liveBank = 5 ∧ u.rd Reg.FW_UPDATE_STATUS = 3 * 16 + 0x010B * 65536 ∧
      u.bit (Reg.STATUS Reg.pageFW) 1 = false ∧ { s.mgmt with op := none, liveCore := none }.butJournal u.mgmt ∧
      s.banksRecorded u ∧ s.errored u Reg.pageFW 0x010B 0 0 ∧
      s.regsBut u (bankKey s.mgmt.liveBank :: errorKeys Reg.pageFW ++ [Reg.FW_UPDATE_STATUS,
        Reg.INT_STATUS Reg.pageFW, Reg.STATUS Reg.pageFW] ++ journalKeys) ∧
      { u with regs := s.regs, mgmt := s.mgmt } = s) ∧
  (∀ (img : ImageSet) (s : State), s.mgmt.op = some 0 → s.mgmt.norPaused = false →
    ∃ u : State, exec (.fwOperationDone (some img)) s = .next u ∧
      u.bankSt s.mgmt.liveBank = 1 ∧ u.bankImage s.mgmt.liveBank = some img ∧
      u.bankSvn s.mgmt.liveBank = img.svn % 64 ∧ u.rd (bankVersionKey s.mgmt.liveBank) = img.version % 2 ^ 32 ∧
      u.rd Reg.FW_UPDATE_STATUS = 2 * 16 + 100 * 256 ∧ u.mgmt.op = none ∧ u.bit (Reg.STATUS Reg.pageFW) 1 = false ∧
      s.banksRecorded u ∧
      s.regsBut u ([bankKey s.mgmt.liveBank, bankVersionKey s.mgmt.liveBank] ++ [Reg.FW_UPDATE_STATUS,
        Reg.INT_STATUS Reg.pageFW, Reg.STATUS Reg.pageFW] ++ journalKeys ++ tallyKeys) ∧
      { u with regs := s.regs, mgmt := s.mgmt } = s) ∧
  (∀ (src : Req) (img : ImageSet) (s : State), s.asleep src = false → s.updateBank ≠ s.runningBank →
      s.mgmt.op = none → s.recovery = false → s.bankSt s.updateBank = 2 ∨ s.bankSt s.updateBank = 3 →
      s.bankImage s.updateBank = some img → img.rangerHash = s.mgmt.runRanger →
    ∃ u : State, exec (.liveCrew src) s = .next u ∧
      u.rd Reg.FW_UPDATE_STATUS = 4 + 16 ∧
      u.mgmt = { s.mgmt with op := some 4, liveBank := s.updateBank, liveCore := some 3 } ∧
      u.locks = s.locks.filter (fun e => e.2 != 0x13) ∧
      u.job = (s.memWrite (crewBase (1 - s.mgmt.crewSlot)) img.crew).job ∧ u.bit (Reg.STATUS Reg.pageFW) 1 = true ∧
      s.pagesBut u [Reg.pageFW, Reg.pageMBOX] ∧
      { u with regs := s.regs, mgmt := s.mgmt, locks := s.locks, host := s.host, out := s.out, job := s.job } = s) ∧
  (∀ (src : Req) (img : ImageSet) (s : State), s.asleep src = false → s.updateBank ≠ s.runningBank →
      s.mgmt.op = none → s.recovery = false → s.bankSt s.updateBank = 2 ∨ s.bankSt s.updateBank = 3 →
      s.bankImage s.updateBank = some img → img.rangerHash ≠ s.mgmt.runRanger →
    ∃ u : State, exec (.liveCrew src) s = .next u ∧
      u.rd Reg.FW_UPDATE_STATUS = 4 + 4 * 16 + 0x010A * 65536 ∧
      s.errored u Reg.pageFW 0x010A Reg.FW_UPDATE_CTRL (srcCode src) ∧
      s.regsBut u (errorKeys Reg.pageFW ++ [Reg.FW_UPDATE_STATUS, Reg.INT_STATUS Reg.pageFW]) ∧
      { u with regs := s.regs } = s) ∧
  (∀ (src : Req) (s : State), s.asleep src = false → s.updateBank ≠ s.runningBank → s.mgmt.op = none →
      s.recovery = false → s.bankSt s.updateBank = 2 ∨ s.bankSt s.updateBank = 3 → s.modState = 6 →
    ∃ u : State, exec (.liveRanger src) s = .next u ∧
      u.rd Reg.FW_UPDATE_STATUS = 5 + 16 ∧ u.mgmt = { s.mgmt with op := some 5, liveBank := s.updateBank } ∧
      u.locks = s.locks.filter (fun e => e.2 != 0x20) ∧ u.bit (Reg.STATUS Reg.pageFW) 1 = true ∧
      s.pagesBut u [Reg.pageFW, Reg.pageMBOXS] ∧
      { u with regs := s.regs, mgmt := s.mgmt, locks := s.locks, host := s.host, out := s.out } = s) ∧
  (∀ (core : Fin 4) (s : State), s.mgmt.op = some 4 → s.mgmt.liveCore = some core.val → core.val ≠ 0 →
    ∃ u : State, exec (.coreReady core) s = .next u ∧
      u.mgmt = { s.mgmt with liveCore := some (core.val - 1) } ∧
      u.locks = s.locks.filter (fun e => e.2 != 0x10 + core.val - 1) ∧ s.pagesBut u [Reg.pageMBOX] ∧
      { u with regs := s.regs, mgmt := s.mgmt, locks := s.locks, host := s.host, out := s.out } = s) ∧
  (∀ (img : ImageSet) (s : State), s.mgmt.op = some 4 → s.mgmt.liveCore = some 0 →
      s.bankImage s.mgmt.liveBank = some img →
    ∃ u : State, exec (.coreReady 0) s = .next u ∧
      u.bankSt s.mgmt.liveBank = 3 ∧ u.bankTries s.mgmt.liveBank = 3 ∧
      u.rd Reg.SYS_FW_VERSION = img.version % 2 ^ 32 ∧
      (u.mgmt.runCrew, u.mgmt.op, u.mgmt.liveCore, u.mgmt.crewSlot) = (img.crewHash, none, none,
        1 - s.mgmt.crewSlot) ∧ u.rd Reg.FW_UPDATE_STATUS = 4 + 2 * 16 + 100 * 256 ∧
      u.bit (Reg.STATUS Reg.pageFW) 1 = false ∧ s.banksRecorded u ∧
      s.regsBut u ([bankKey s.mgmt.liveBank, Reg.FW_FW_STATUS, Reg.SYS_FW_VERSION] ++ [Reg.FW_UPDATE_STATUS,
        Reg.INT_STATUS Reg.pageFW, Reg.STATUS Reg.pageFW] ++ journalKeys ++ tallyKeys) ∧
      { u with regs := s.regs, mgmt := s.mgmt } = s) ∧
  (∀ (core : Fin 4) (s : State), s.mgmt.op = some 4 → s.mgmt.liveCore = some core.val →
    ∃ u : State, exec (.coreReadyTimeout core) s = .next u ∧
      u.bankSt s.mgmt.liveBank = 6 ∧ u.rd Reg.FW_UPDATE_STATUS = 4 + 3 * 16 + 0x010C * 65536 ∧
      { s.mgmt with op := none, liveCore := none }.butJournal u.mgmt ∧ s.banksRecorded u ∧
      s.errored u Reg.pageFW 0x010C 0 0 ∧ s.pagesBut u [Reg.pageFW, Reg.pageMBOX, Reg.pageNVS, Reg.pageMBOXS] ∧
      { u with regs := s.regs, mgmt := s.mgmt, locks := s.locks, host := s.host, out := s.out } = s) ∧
  (∀ (img : ImageSet) (s : State), s.mgmt.op = some 5 → s.bankImage s.mgmt.liveBank = some img →
      img.crewHash = s.mgmt.runCrew →
    ∃ u : State, exec (.fwOperationDone (some img)) s = .next u ∧
      u.bankSt s.mgmt.liveBank = 3 ∧ u.rd Reg.SYS_FW_VERSION = img.version % 2 ^ 32 ∧
      (u.mgmt.runRanger, u.mgmt.op) = (img.rangerHash, none) ∧ u.rd Reg.FW_UPDATE_STATUS = 5 + 2 * 16 + 100 * 256 ∧
      u.bit (Reg.STATUS Reg.pageFW) 1 = false ∧
      s.regsBut u ([bankKey s.mgmt.liveBank, Reg.FW_FW_STATUS, Reg.SYS_FW_VERSION] ++ [Reg.FW_UPDATE_STATUS,
        Reg.INT_STATUS Reg.pageFW, Reg.STATUS Reg.pageFW] ++ journalKeys ++ tallyKeys) ∧
      { u with regs := s.regs, mgmt := s.mgmt } = s)

/-- The mains, SB24 and the rails. Qualified mains start the core from STANDBY or TRIPPED where nothing holds it
down; MAINS_FAIL takes the core down, to STANDBY where SB24 feeds the standby domain and to OFF where nothing
does; a low input degrades; a fault of a core rail takes the core down until RESTART; a rail that reaches its
level shows so once the rails before it are good. Spec: 16_power_thermal.md, 18_startup_operation.md. -/
def Obligations.MainsAndRails : Prop :=
  (∀ s : State, s.modState = 0 →
    ∃ u : State, exec (.mainsQualified) s = .next u ∧
      u.modState = 2 ∧ u.bit Reg.PWR_RAIL_STATUS 17 = true ∧ u.bit Reg.PWR_RAIL_STATUS 18 = false ∧
      u.rd Reg.SYS_RESET_CAUSE = 2 ∧ u.mgmt.journal = s.mgmt.journal ∧ (u.lanes, u.slots, u.locks) = ([], [], []) ∧
      u.out = s.out) ∧
  (∀ s : State, s.modState = 1 ∨ s.modState = 8 → s.pwr.railHold = false → s.pwr.tripHold = false →
      s.pwr.mainsDown = false →
    ∃ u : State, exec (.mainsQualified) s = .next u ∧
      u.modState = 2 ∧ u.bit (Reg.INT_STATUS Reg.pageSYS) 8 = true ∧ u.bit Reg.PWR_RAIL_STATUS 8 = true ∧
      u.bit Reg.PWR_RAIL_STATUS 17 = true ∧ u.bit Reg.PWR_RAIL_STATUS 18 = false ∧
      u.bit (Reg.STATUS Reg.pagePWR) 3 = false ∧
      s.regsBut u ([Reg.PWR_RAIL_STATUS, Reg.STATUS Reg.pagePWR, Reg.INT_STATUS Reg.pagePWR] ++ moduleKeys) ∧
      { u with regs := s.regs, mgmt := s.mgmt } = s) ∧
  (∀ s : State, s.modState = 1 → s.pwr.railHold = false → s.pwr.tripHold = false → s.pwr.mainsDown = true →
    ∃ u : State, exec (.mainsQualified) s = .next u ∧
      u.modState = 2 ∧ u.rd Reg.SYS_RESET_CAUSE = 1 ∧ u.rd Reg.PWR_POWER_EVENT = 2 ∧
      u.pwr = { s.pwr with mainsDown := false } ∧ u.bit Reg.PWR_RAIL_STATUS 17 = true ∧
      u.bit Reg.PWR_RAIL_STATUS 18 = false ∧ u.bit (Reg.STATUS Reg.pagePWR) 3 = false ∧
      s.regsBut u ([Reg.PWR_RAIL_STATUS, Reg.STATUS Reg.pagePWR, Reg.INT_STATUS Reg.pagePWR] ++
        [Reg.SYS_RESET_CAUSE, Reg.PWR_POWER_EVENT] ++ moduleKeys) ∧
      { u with regs := s.regs, mgmt := s.mgmt, pwr := s.pwr } = s) ∧
  (∀ s : State, s.modState = 1 → s.pwr.railHold = true ∨ s.pwr.tripHold = true →
    ∃ u : State, exec (.mainsQualified) s = .next u ∧
      u.modState = 1 ∧ u.bit Reg.PWR_RAIL_STATUS 17 = true ∧ u.bit Reg.PWR_RAIL_STATUS 18 = false ∧
      u.bit (Reg.STATUS Reg.pagePWR) 3 = false ∧
      s.regsBut u [Reg.PWR_RAIL_STATUS, Reg.STATUS Reg.pagePWR, Reg.INT_STATUS Reg.pagePWR] ∧
      { u with regs := s.regs } = s) ∧
  (∀ (bulk : Nat) (s : State), 2 ≤ s.modState → s.sb24Good = true →
    ∃ u : State, exec (.mainsFail bulk) s = .next u ∧
      u.rd Reg.PWR_BULK_V = bulk % 65536 ∧ u.bit Reg.PWR_RAIL_STATUS 17 = false ∧
      u.bit Reg.PWR_RAIL_STATUS 18 = true ∧
      u.rd Reg.PWR_MAINS_FAIL_COUNT = satInc 32 (s.rd Reg.PWR_MAINS_FAIL_COUNT) ∧
      u.bit (Reg.INT_STATUS Reg.pagePWR) 8 = true ∧ u.rd Reg.PWR_POWER_EVENT = 1 ∧ u.pwr.mainsDown = true ∧
      u.rd Reg.SYS_RESET_CAUSE = 1 ∧
      (∀ c ∈ s.activeLanes, Out.block c (stopBlock false s.pairMode 3 (s.line.lastTickLine.getD 0)) ∈ u.out) ∧
      u.rd Reg.CLK_PLL_STATUS = s.pllKept ∧ (∀ k ∈ lookoutKeys, u.rd k = s.rd k) ∧
      u.rd Reg.PAIR_PAIR_STATUS = 1 + ((s.rd Reg.PAIR_PAIR_STATUS &&& 0x1100) / 256) * 256 ∧ u.modState = 1 ∧
      (∀ k, coreKey k = true → k ∉ [Reg.CLK_PLL_STATUS, Reg.SYS_CONFIG, Reg.SYS_FW_VERSION, Reg.SYS_MODULE_STATE,
        Reg.SYS_RESET_CAUSE, Reg.STATUS Reg.pageSYS, Reg.INT_STATUS Reg.pageSYS, Reg.PAIR_PAIR_STATUS] ++
        lookoutKeys → u.rd k = (resetOf k).toNat) ∧
      (∀ k, coreKey k = false → k / 0x1000 ≠ Reg.pageMBOX → k / 0x1000 ≠ Reg.pagePWR →
        k ∉ [Reg.MBOXS_HOST_STATUS] ++ tallyKeys → u.rd k = s.rd k) ∧ u.rdF Reg.PWR_RAIL_STATUS 7 1 = 0 ∧
      u.rdF Reg.PWR_RAIL_STATUS 10 9 = 0 ∧ u.bit Reg.PWR_RAIL_STATUS 19 = false ∧ u.rd Reg.PWR_HEAD_PWR_CTRL = 0 ∧
      u.rd Reg.PWR_HEAD_PWR_STATUS = 0 ∧ u.rdF Reg.PWR_LAMP_BUS_STATUS 3 0 = 0 ∧
      (u.locks, u.lanes, u.slots) = ([], [], []) ∧ (u.job, u.line, u.dram, u.ring) = ({}, {}, {}, {}) ∧
      (u.mgmt.journal, u.net) = (s.mgmt.journal, s.net) ∧ u.live Reg.MBOX_HOST_STATUS = 1 + 1 * 256) ∧
  (∀ (bulk : Nat) (s : State), 2 ≤ s.modState → s.sb24Good = false →
    ∃ u : State, exec (.mainsFail bulk) s = .next u ∧
      u.rd Reg.PWR_BULK_V = bulk % 65536 ∧ u.bit Reg.PWR_RAIL_STATUS 17 = false ∧
      u.bit Reg.PWR_RAIL_STATUS 18 = true ∧
      u.rd Reg.PWR_MAINS_FAIL_COUNT = satInc 32 (s.rd Reg.PWR_MAINS_FAIL_COUNT) ∧
      u.bit (Reg.INT_STATUS Reg.pagePWR) 8 = true ∧ u.rd Reg.PWR_POWER_EVENT = 1 ∧ u.pwr.mainsDown = true ∧
      u.rd Reg.CLK_PLL_STATUS = s.pllKept ∧ (∀ k ∈ lookoutKeys, u.rd k = s.rd k) ∧
      u.rd Reg.PAIR_PAIR_STATUS = 1 + ((s.rd Reg.PAIR_PAIR_STATUS &&& 0x1100) / 256) * 256 ∧ u.modState = 0 ∧
      (∀ k, coreKey k = true → k ∉ [Reg.CLK_PLL_STATUS, Reg.SYS_CONFIG, Reg.SYS_FW_VERSION, Reg.SYS_MODULE_STATE,
        Reg.SYS_RESET_CAUSE, Reg.STATUS Reg.pageSYS, Reg.INT_STATUS Reg.pageSYS, Reg.PAIR_PAIR_STATUS] ++
        lookoutKeys → u.rd k = (resetOf k).toNat) ∧
      (∀ k, coreKey k = false → k / 0x1000 ≠ Reg.pageMBOX → k / 0x1000 ≠ Reg.pagePWR →
        k ∉ [Reg.MBOXS_HOST_STATUS] ++ tallyKeys → u.rd k = s.rd k) ∧ u.rdF Reg.PWR_RAIL_STATUS 7 1 = 0 ∧
      u.rdF Reg.PWR_RAIL_STATUS 10 9 = 0 ∧ u.bit Reg.PWR_RAIL_STATUS 19 = false ∧ u.rd Reg.PWR_HEAD_PWR_CTRL = 0 ∧
      u.rd Reg.PWR_HEAD_PWR_STATUS = 0 ∧ u.rdF Reg.PWR_LAMP_BUS_STATUS 3 0 = 0 ∧
      (u.locks, u.lanes, u.slots) = ([], [], []) ∧ (u.job, u.line, u.dram, u.ring) = ({}, {}, {}, {}) ∧
      (u.mgmt.journal, u.net) = (s.mgmt.journal, s.net) ∧ u.live Reg.MBOX_HOST_STATUS = 1 + 0 * 256) ∧
  (∀ (bulk : Nat) (s : State), s.modState = 1 → s.sb24Good = true →
    ∃ u : State, exec (.mainsFail bulk) s = .next u ∧
      u.rd Reg.PWR_BULK_V = bulk % 65536 ∧ u.bit Reg.PWR_RAIL_STATUS 17 = false ∧
      u.bit Reg.PWR_RAIL_STATUS 18 = true ∧
      u.rd Reg.PWR_MAINS_FAIL_COUNT = satInc 32 (s.rd Reg.PWR_MAINS_FAIL_COUNT) ∧
      u.bit (Reg.INT_STATUS Reg.pagePWR) 8 = true ∧ u.modState = 1 ∧
      s.regsBut u ([Reg.PWR_RAIL_STATUS, Reg.STATUS Reg.pagePWR, Reg.INT_STATUS Reg.pagePWR] ++ [Reg.PWR_BULK_V,
        Reg.PWR_MAINS_FAIL_COUNT]) ∧ { u with regs := s.regs } = s) ∧
  (∀ (vrms : Nat) (s : State), vrms < 850 →
    ∃ u : State, exec (.mainsLow vrms) s = .next u ∧
      u.rd Reg.PWR_MAINS_VRMS = vrms % 65536 ∧ u.bit (Reg.STATUS Reg.pagePWR) 3 = true ∧
      u.bit (Reg.INT_STATUS Reg.pagePWR) 9 = true ∧
      s.regsBut u [Reg.PWR_MAINS_VRMS, Reg.STATUS Reg.pagePWR, Reg.INT_STATUS Reg.pagePWR] ∧
      { u with regs := s.regs } = s) ∧
  (∀ (vrms : Nat) (s : State), 850 ≤ vrms →
    ∃ u : State, exec (.mainsLow vrms) s = .next u ∧
      u.rd Reg.PWR_MAINS_VRMS = vrms % 65536 ∧ u.bit (Reg.STATUS Reg.pagePWR) 3 = false ∧
      s.regsBut u [Reg.PWR_MAINS_VRMS, Reg.STATUS Reg.pagePWR] ∧ { u with regs := s.regs } = s) ∧
  (∀ (good : Bool) (millivolts : Nat) (s : State), 2 ≤ s.modState →
    ∃ u : State, exec (.sb24Change good millivolts) s = .next u ∧
      u.bit Reg.PWR_RAIL_STATUS 16 = good ∧ u.rd Reg.PWR_SB24_V = millivolts % 65536 ∧
      s.regsBut u [Reg.PWR_RAIL_STATUS, Reg.PWR_SB24_V] ∧ { u with regs := s.regs } = s) ∧
  (∀ (millivolts : Nat) (s : State), s.modState = 1 → s.bit Reg.PWR_RAIL_STATUS 17 = false →
    ∃ u : State, exec (.sb24Change false millivolts) s = .next u ∧
      u.modState = 0 ∧ u.bit Reg.PWR_RAIL_STATUS 16 = false ∧ u.rd Reg.PWR_SB24_V = millivolts % 65536 ∧
      s.regsBut u ([Reg.PWR_RAIL_STATUS, Reg.PWR_SB24_V] ++ moduleKeys) ∧
      { u with regs := s.regs, mgmt := s.mgmt } = s) ∧
  (∀ (millivolts : Nat) (s : State), s.modState = 0 → s.bit Reg.PWR_RAIL_STATUS 17 = false →
    ∃ u : State, exec (.sb24Change true millivolts) s = .next u ∧
      u.modState = 1 ∧ u.rd Reg.SYS_RESET_CAUSE = 2 ∧ u.mgmt.journal = s.mgmt.journal ∧
      (u.lanes, u.slots, u.locks) = ([], [], []) ∧ u.out = s.out) ∧
  (∀ (r : Rail) (s : State), (∀ i ∈ railBefore r, s.bit Reg.PWR_RAIL_STATUS i = true) →
      s.coreUp = true ∨ r = .vstby ∨ r = .vnv →
    ∃ u : State, exec (.railPowerGood r) s = .next u ∧
      u.bit Reg.PWR_RAIL_STATUS (railBit r) = true ∧
      (∀ i ∈ List.range 32, i ≠ railBit r → u.bit Reg.PWR_RAIL_STATUS i = s.bit Reg.PWR_RAIL_STATUS i) ∧
      s.regsBut u ([Reg.PWR_RAIL_STATUS, Reg.PWR_HEAD_PWR_STATUS, Reg.INT_STATUS Reg.pagePWR] ++ moduleKeys) ∧
      { u with regs := s.regs, mgmt := s.mgmt } = s) ∧
  (∀ (r : Rail) (s : State), (∃ i ∈ railBefore r, s.bit Reg.PWR_RAIL_STATUS i = false) →
    exec (.railPowerGood r) s = .next s) ∧
  (∀ (r : Rail) (s : State), s.modState ≠ 0 → r = .cam24 ∨ r = .enc5 ∨ r = .vnv →
    ∃ u : State, exec (.railFault r) s = .next u ∧
      u.bit Reg.PWR_RAIL_FAULT (railBit r) = true ∧ u.bit Reg.PWR_RAIL_STATUS (railBit r) = false ∧
      u.bit (Reg.INT_STATUS Reg.pagePWR) 10 = true ∧
      s.regsBut u [Reg.PWR_RAIL_STATUS, Reg.PWR_RAIL_FAULT, Reg.INT_STATUS Reg.pagePWR] ∧
      { u with regs := s.regs } = s) ∧
  (∀ (r : Rail) (s : State), s.coreUp = true → r ≠ .vstby → railBit r ≤ 7 →
    ∃ u : State, exec (.railFault r) s = .next u ∧
      u.bit Reg.PWR_RAIL_FAULT (railBit r) = true ∧ u.bit (Reg.INT_STATUS Reg.pagePWR) 10 = true ∧
      u.rd Reg.PWR_POWER_EVENT = 4 ∧ u.pwr.railHold = true ∧
      (∀ c ∈ s.activeLanes, Out.block c (stopBlock false s.pairMode 3 (s.line.lastTickLine.getD 0)) ∈ u.out) ∧
      u.rd Reg.CLK_PLL_STATUS = s.pllKept ∧ (∀ k ∈ lookoutKeys, u.rd k = s.rd k) ∧
      u.rd Reg.PAIR_PAIR_STATUS = 1 + ((s.rd Reg.PAIR_PAIR_STATUS &&& 0x1100) / 256) * 256 ∧ u.modState = 1 ∧
      (∀ k, coreKey k = true → k ∉ [Reg.CLK_PLL_STATUS, Reg.SYS_CONFIG, Reg.SYS_FW_VERSION, Reg.SYS_MODULE_STATE,
        Reg.SYS_RESET_CAUSE, Reg.STATUS Reg.pageSYS, Reg.INT_STATUS Reg.pageSYS, Reg.PAIR_PAIR_STATUS] ++
        lookoutKeys → u.rd k = (resetOf k).toNat) ∧
      (∀ k, coreKey k = false → k / 0x1000 ≠ Reg.pageMBOX → k / 0x1000 ≠ Reg.pagePWR →
        k ∉ [Reg.MBOXS_HOST_STATUS] ++ tallyKeys → u.rd k = s.rd k) ∧ u.rdF Reg.PWR_RAIL_STATUS 7 1 = 0 ∧
      u.rdF Reg.PWR_RAIL_STATUS 10 9 = 0 ∧ u.bit Reg.PWR_RAIL_STATUS 19 = false ∧ u.rd Reg.PWR_HEAD_PWR_CTRL = 0 ∧
      u.rd Reg.PWR_HEAD_PWR_STATUS = 0 ∧ u.rdF Reg.PWR_LAMP_BUS_STATUS 3 0 = 0 ∧
      (u.locks, u.lanes, u.slots) = ([], [], []) ∧ (u.job, u.line, u.dram, u.ring) = ({}, {}, {}, {}) ∧
      (u.mgmt.journal, u.net) = (s.mgmt.journal, s.net) ∧ u.live Reg.MBOX_HOST_STATUS = 1 + 1 * 256) ∧
  (∀ s : State, s.modState ≠ 0 →
    ∃ u : State, exec (.railFault .vstby) s = .next u ∧
      u.rd (Reg.INT_STATUS Reg.pageSYS) = (if s.modState = u.modState then 0 else 256) ∧
      u.modState = (if s.bit Reg.PWR_RAIL_STATUS 17 then 2 else 1) ∧ u.frc = s.frc ∧
      u.rd Reg.CLK_PLL_STATUS = s.pllKept ∧ u.rd Reg.SYS_RESET_CAUSE = 2 ^ 1 ∧ u.mgmt.log = s.mgmt.log ∧
      (∀ k, k ∉ [Reg.FW_BANK_A_STATE, Reg.FW_BANK_A_VERSION, Reg.FW_BANK_B_STATE, Reg.FW_BANK_B_VERSION,
        Reg.SYS_CONFIG, Reg.SYS_FW_VERSION, Reg.PWR_RAIL_STATUS, Reg.FW_FW_STATUS, Reg.MBOXS_SESSION_LO,
        Reg.MBOXS_SESSION_HI, Reg.INT_STATUS Reg.pageMBOX, Reg.INT_STATUS Reg.pageMBOXS, Reg.NVS_NV_STATUS,
        Reg.NVS_QUEUE_DEPTH, Reg.NVS_JOURNAL_USED, Reg.NVS_RECORDS, Reg.NVS_LAST_SEQ_LO, Reg.NVS_LAST_SEQ_HI,
        Reg.MBOXS_KEY_STATE, Reg.SYS_RESET_CAUSE, Reg.SYS_MODULE_STATE, Reg.STATUS Reg.pageSYS, Reg.MBOX_HOST_STATUS,
        Reg.MBOXS_HOST_STATUS, Reg.INT_STATUS Reg.pageSYS] ++ [Reg.CLK_PLL_STATUS, Reg.TALLY_NEXT_SEQ,
        Reg.TALLY_OLDEST_SEQ, Reg.TALLY_CORRUPT, Reg.TALLY_DROPPED, Reg.THERM_TRIP_COUNT, Reg.PWR_POWER_EVENT] ++
        tallyKeys → u.rd k = (resetOf k).toNat) ∧ (u.lanes, u.slots, u.locks) = ([], [], []) ∧
      u.latchR = [] ∧ u.latchW = [] ∧ (u.job, u.line, u.dram, u.ring) = ({}, {}, {}, {}) ∧
      u.host = { sessionLo := s.free, sessionHi := s.drew.free } ∧ u.freeCount = s.freeCount + 2 ∧ u.mgmt.up = false ∧
      (u.mgmt.journal, u.mgmt.nextSeq, u.mgmt.bankA, u.mgmt.bankB) = (s.mgmt.journal, s.mgmt.nextSeq, s.mgmt.bankA,
        s.mgmt.bankB) ∧ (u.out, u.pending) = (s.out, s.pending) ∧ u.bit (Reg.INT_STATUS Reg.pageMBOX) 26 = true) ∧
  (∀ (src : Req) (s : State), s.bar0Down src (Reg.pagePWR * 0x1000) = false → s.modState = 1 →
      s.pwr.tripHold = false → s.bit Reg.PWR_RAIL_STATUS 17 = true → s.pwr.mainsDown = false →
    ∃ u : State, exec (.powerRestart src) s = .next u ∧
      u.modState = 2 ∧ u.bit Reg.PWR_RAIL_STATUS 8 = true ∧ u.pwr = { s.pwr with railHold := false } ∧
      s.regsBut u ([Reg.PWR_RAIL_STATUS] ++ moduleKeys) ∧ { u with regs := s.regs, mgmt := s.mgmt, pwr := s.pwr } = s) ∧
  (∀ (src : Req) (s : State), s.bar0Down src (Reg.pagePWR * 0x1000) = false →
      s.modState ≠ 1 ∧ s.modState ≠ 8 ∨ s.pwr.tripHold = true →
    exec (.powerRestart src) s = .next ({ s with pwr := { s.pwr with railHold := false } }))

/-- Sensor samples, thresholds, trips and the stop input. A sample of a sensor gives the filtered value, the mean of
its last four good samples rounded down, and its fault bit; a completed dwell enters or leaves its condition; a
DIE or INLET trip takes the core down to TRIPPED with ABORT on the lanes and latches, a sink bank trip takes its
group, and each is released after 30 s below its limit. A channel that falls asserts STOP_IN: HALT with scope
HEAD on every active lane, every lamp sink off, the run ended; it is released with both channels energised and
no discrepancy, which a channel that falls alone for 500 ms makes. Spec: 16_power_thermal.md, 17_connectors.md. -/
def Obligations.ThermalAndStopInput : Prop :=
  (∀ (readings : List (Option Int)) (v : Int) (s : State), readings.map validReading = readings →
      readings.all (·.isSome) = true → (readings.filterMap id).foldl max ((readings.filterMap id).headD 0) = v →
      readings ≠ [] → (∀ x ∈ s.sensorSamples 2, ∀ y ∈ x, -880 ≤ y ∧ y ≤ 2400) →
    ∃ u : State, exec (.sensorSample .outlet readings) s = .next u ∧
      u.sensorSamples 2 = (some v :: s.sensorSamples 2).take 4 ∧ u.bit Reg.THERM_SENSOR_FAULT 2 = false ∧
      some (sgn 16 (u.rdF Reg.THERM_OUTLET_TEMP 15 0)) = u.sensorValue 2 ∧
      s.regsBut u [Reg.THERM_OUTLET_TEMP, Reg.THERM_SENSOR_FAULT] ∧ { u with regs := s.regs, pwr := s.pwr } = s) ∧
  (∀ (readings : List (Option Int)) (v : Int) (s : State), readings.map validReading = readings →
      readings.all (·.isSome) = true → (readings.filterMap id).foldl max ((readings.filterMap id).headD 0) = v →
      readings ≠ [] → (∀ x ∈ s.sensorSamples 0, ∀ y ∈ x, -880 ≤ y ∧ y ≤ 2400) →
    ∃ u : State, exec (.sensorSample .die readings) s = .next u ∧
      u.sensorSamples 0 = (some v :: s.sensorSamples 0).take 4 ∧ u.bit Reg.THERM_SENSOR_FAULT 0 = false ∧
      some (sgn 16 (u.rdF Reg.THERM_DIE_TEMP 15 0)) = u.sensorValue 0 ∧
      u.releaseCount 0 = (if (u.sensorValue 0).getD 1600 < 1600 then min releaseSamples (s.releaseCount 0 + 1) else
        0) ∧ (∀ k ∈ List.range 3, u.condIn k 0 = s.condIn k 0) ∧
      s.regsBut u [Reg.THERM_DIE_TEMP, Reg.THERM_DIE_PEAK, Reg.THERM_SENSOR_FAULT] ∧
      { u with regs := s.regs, pwr := s.pwr } = s) ∧
  (∀ (readings : List (Option Int)) (s : State), readings.map validReading = readings.map (fun _ => none) →
    ∃ u : State, exec (.sensorSample .psu readings) s = .next u ∧
      u.bit Reg.THERM_SENSOR_FAULT 3 = true ∧ u.sensorSamples 3 = (none :: s.sensorSamples 3).take 4 ∧
      (s.bit Reg.THERM_SENSOR_FAULT 3 = false → u.bit (Reg.INT_STATUS Reg.pageTHERM) 12 = true) ∧
      s.regsBut u [Reg.THERM_PSU_TEMP, Reg.THERM_SENSOR_FAULT, Reg.INT_STATUS Reg.pageTHERM] ∧
      { u with regs := s.regs, pwr := s.pwr } = s) ∧
  (∀ (k : Fin 17) (inst : Nat) (s : State), s.dwellDone k inst = false →
    exec (.thresholdDwell k inst) s = .next s) ∧
  (∀ (k : Fin 17) (inst : Nat) (s : State), s.dwellDone k inst = true →
    ∃ u : State, exec (.thresholdDwell k inst) s = .next u ∧
      u.dwellAt k inst = { entered := !s.condIn k inst, up := 0, down := 0 } ∧ u.bit Reg.THERM_COND k = u.condBit k ∧
      (s.bit Reg.THERM_COND k ≠ u.condBit k → u.bit (Reg.INT_STATUS Reg.pageTHERM) 8 = true) ∧
      u.rdF Reg.THERM_STEPS 1 0 = u.dieStep ∧
      s.pagesBut u ([Reg.pageTHERM, Reg.pageNVS, Reg.pageTALLY] ++ (List.range 4).map Reg.pageLAMP ++ [Reg.pagePWR,
        Reg.pageLAMPSEQ]) ∧ { u with regs := s.regs, pwr := s.pwr, mgmt := s.mgmt, lamp := s.lamp, out := s.out } = s) ∧
  (∀ (inlet : Bool) (s : State), s.coreUp = true →
    ∃ u : State, exec (.thermalTrip inlet) s = .next u ∧
      u.rd Reg.CLK_PLL_STATUS = s.pllKept ∧ (∀ k ∈ lookoutKeys, u.rd k = s.rd k) ∧
      u.rd Reg.PAIR_PAIR_STATUS = 1 + ((s.rd Reg.PAIR_PAIR_STATUS &&& 0x1100) / 256) * 256 ∧ u.modState = 8 ∧
      u.rd Reg.SYS_RESET_CAUSE = 2 ^ 6 ∧ u.rd Reg.PWR_POWER_EVENT = 3 ∧
      u.rd Reg.THERM_TRIP_COUNT = satInc 32 (s.rd Reg.THERM_TRIP_COUNT) ∧
      u.bit Reg.THERM_TRIP_STATUS (b2n inlet) = true ∧ u.pwr.tripHold = true ∧ u.rd Reg.PWR_HEAD_PWR_CTRL = 0 ∧
      u.rd Reg.PWR_HEAD_PWR_STATUS = 0 ∧ u.rdF Reg.PWR_RAIL_STATUS 10 1 = 0 ∧ u.rdF Reg.PWR_LAMP_BUS_STATUS 3 0 = 0 ∧
      (∀ k, coreKey k = true → k ∉ [Reg.CLK_PLL_STATUS, Reg.SYS_CONFIG, Reg.SYS_FW_VERSION, Reg.SYS_MODULE_STATE,
        Reg.SYS_RESET_CAUSE, Reg.STATUS Reg.pageSYS, Reg.INT_STATUS Reg.pageSYS, Reg.PAIR_PAIR_STATUS] ++
        lookoutKeys → u.rd k = (resetOf k).toNat) ∧
      (∀ c ∈ s.activeLanes, Out.block c (stopBlock true s.pairMode 4 (s.line.lastTickLine.getD 0)) ∈ u.out) ∧
      (u.locks, u.lanes, u.slots) = ([], [], []) ∧ u.mgmt.journal = s.mgmt.journal ∧
      u.rd Reg.MBOX_RESET_COUNT = satInc 16 (s.rd Reg.MBOX_RESET_COUNT)) ∧
  (∀ (inlet : Bool) (s : State), s.modState = 1 ∨ s.modState = 8 →
    ∃ u : State, exec (.thermalTrip inlet) s = .next u ∧
      u.bit Reg.THERM_TRIP_STATUS (b2n inlet) = true ∧ u.pwr.tripHold = true ∧ u.modState = s.modState ∧
      s.regsBut u [Reg.THERM_TRIP_STATUS] ∧ { u with regs := s.regs, pwr := s.pwr } = s) ∧
  (∀ (g : Fin 4) (s : State), s.bit Reg.PWR_LAMP_BUS_STATUS (16 + g) = true →
    exec (.lampTrip g) s = .next s) ∧
  (∀ (g : Fin 4) (s : State), s.bit Reg.PWR_LAMP_BUS_STATUS (16 + g) = false → s.groupSt g ≠ 0 →
    ∃ u : State, exec (.lampTrip g) s = .next u ∧
      u.bit Reg.PWR_LAMP_BUS_STATUS (16 + g) = true ∧ u.bit Reg.THERM_TRIP_STATUS (2 + g) = true ∧
      u.bit (Reg.INT_STATUS Reg.pageTHERM) 11 = true ∧ u.groupSt g = 6 ∧ u.bit Reg.PWR_LAMP_BUS_STATUS g = false ∧
      u.releaseCount (1 + g) = 0 ∧ s.pagesBut u [Reg.pagePWR, Reg.pageTHERM, Reg.pageTALLY, Reg.pageLAMP g] ∧
      { u with regs := s.regs, pwr := s.pwr, mgmt := s.mgmt, lamp := s.lamp, out := s.out } = s) ∧
  (∀ s : State, s.pwr.tripHold = true → releaseSamples ≤ s.releaseCount 0 → releaseSamples ≤ s.releaseCount 5 →
      s.modState = 8 → s.bit Reg.PWR_RAIL_STATUS 17 = true → s.pwr.railHold = false → s.pwr.mainsDown = false →
    ∃ u : State, exec (.tripRestart) s = .next u ∧
      u.modState = 2 ∧ u.rd Reg.PWR_POWER_EVENT = 5 ∧ u.rdF Reg.THERM_TRIP_STATUS 1 0 = 0 ∧
      u.pwr = { s.pwr with tripHold := false } ∧ u.bit Reg.PWR_RAIL_STATUS 8 = true ∧
      s.regsBut u ([Reg.THERM_TRIP_STATUS, Reg.PWR_RAIL_STATUS, Reg.PWR_POWER_EVENT] ++ moduleKeys) ∧
      { u with regs := s.regs, pwr := s.pwr, mgmt := s.mgmt } = s) ∧
  (∀ s : State, s.pwr.tripHold = false ∨ s.releaseCount 0 < releaseSamples ∨ s.releaseCount 5 < releaseSamples →
    exec (.tripRestart) s = .next s) ∧
  (∀ (g : Fin 4) (s : State), releaseSamples ≤ s.releaseCount (1 + g) →
    ∃ u : State, exec (.tripLatchClear g) s = .next u ∧
      u.bit Reg.PWR_LAMP_BUS_STATUS (16 + g) = false ∧ u.bit Reg.THERM_TRIP_STATUS (2 + g) = false ∧
      s.regsBut u [Reg.PWR_LAMP_BUS_STATUS, Reg.THERM_TRIP_STATUS] ∧ { u with regs := s.regs } = s) ∧
  (∀ (g : Fin 4) (s : State), s.releaseCount (1 + g) < releaseSamples →
    exec (.tripLatchClear g) s = .next s) ∧
  (∀ (b : Bool) (s : State), s.pwr.stopIn = true →
    ∃ u : State, exec (.stopIn b) s = .next u ∧
      u.pwr.stopIn = true ∧ (if b = true then u.pwr.stopB else u.pwr.stopA) = false ∧
      (if b = true then u.pwr.stopA else u.pwr.stopB) = (if b = true then s.pwr.stopA else s.pwr.stopB) ∧
      { u with pwr := s.pwr } = s) ∧
  (∀ (b : Bool) (s : State), s.pwr.stopIn = false → s.coreUp = true → s.runSt = 0 →
    ∃ u : State, exec (.stopIn b) s = .next u ∧
      u.pwr.stopIn = true ∧ (if b = true then u.pwr.stopB else u.pwr.stopA) = false ∧
      (∀ c ∈ s.activeLanes, Out.block c (stopBlock false false 1 (s.line.lastTickLine.getD 0)) ∈ u.out) ∧
      (∀ c ∈ s.activeLanes, c ∈ u.line.stopped) ∧ (∀ g ∈ List.range 4, u.bit (Reg.LAMP_GROUP_STATUS g) 8 = true) ∧
      (∀ g ∈ List.range 4, ∀ i ∈ List.range 16, u.rd (Reg.LAMP_CH_OUT g i) = 0) ∧
      s.pagesBut u [Reg.pageTALLY, Reg.pageLAMP 0, Reg.pageLAMP 1, Reg.pageLAMP 2, Reg.pageLAMP 3, Reg.pageLAMPSEQ,
        Reg.pagePWR] ∧
      { u with regs := s.regs, pwr := s.pwr, mgmt := s.mgmt, out := s.out, line := s.line, lamp := s.lamp, lanes := s.lanes } =
        s) ∧
  (∀ (b : Bool) (s : State), s.pwr.stopIn = false → s.coreUp = true → s.runSt ≠ 0 →
    ∃ u : State, exec (.stopIn b) s = .next u ∧
      u.pwr.stopIn = true ∧ (if b = true then u.pwr.stopB else u.pwr.stopA) = false ∧ u.runSt = 0 ∧ u.line.prod = [] ∧
      (∀ c ∈ s.activeLanes, Out.block c (stopBlock false false 1 (s.line.lastTickLine.getD 0)) ∈ u.out) ∧
      (∀ g ∈ List.range 4, u.bit (Reg.LAMP_GROUP_STATUS g) 8 = true)) ∧
  (∀ s : State, s.pwr.stopIn = true → s.pwr.discrepancy = false →
    ∃ u : State, exec (.stopInRelease) s = .next u ∧
      u.pwr = { s.pwr with stopA := true, stopB := true, stopIn := false } ∧
      (∀ g ∈ List.range 4, u.bit (Reg.LAMP_GROUP_STATUS g) 8 = false) ∧
      s.regsBut u ((List.range 4).map Reg.LAMP_GROUP_STATUS) ∧ { u with regs := s.regs, pwr := s.pwr } = s) ∧
  (∀ s : State, s.pwr.discrepancy = true →
    ∃ u : State, exec (.stopInRelease) s = .next u ∧
      u.pwr = { s.pwr with stopA := true, stopB := true } ∧ { u with pwr := s.pwr } = s) ∧
  (∀ s : State, s.pwr.stopA ≠ s.pwr.stopB →
    ∃ u : State, exec (.stopInDiscrepancy) s = .next u ∧
      u.pwr = { s.pwr with discrepancy := true } ∧ { u with pwr := s.pwr } = s) ∧
  (∀ s : State, s.pwr.stopA = s.pwr.stopB →
    exec (.stopInDiscrepancy) s = .next s)

/-- Reads of DRAM, what ECC finds, and the stop that DRAM schedules. A read answers the word of job memory; a
corrected error is counted and its address and detail kept, an uncorrectable one is counted, recorded as an
error, poisons its word and degrades its channel, or schedules a stop where the channel is degraded already;
every read of a FAILED channel is uncorrectable; the real-time class keeps its latency. A burst opens the row of
its bank and leaves it open, open until it idles, or closed, as its page hint says; a read of a buffered word is
served from the write buffer; of the requests that wait, class 0 is served first, then real-time ones by
deadline, and the scrub last. At the next safe point a module that stops alone drains its run, ends an armed
one, or enters SAFE from IDLE or READY with HALT on its lanes and job memory lost; in a pair it asks to retire,
and asks again while the refusal names DRAM. Spec: 13_dram.md, 11_pair_and_ring.md. -/
def Obligations.DramReadsAndStops : Prop :=
  (∀ (t : Nat) (s : State),
    exec (.dramRead [] t) s = .next ({ s.till t with reply := [] })) ∧
  (∀ (r : DramReq) (t : Nat) (s : State), s.inService (dramChannel r.addr) = true →
      s.bit Reg.CLK_PLL_STATUS 1 = true → s.poisonedIn (r.addr / 8 * 8) 8 = false → s.buffered (r.addr / 8 * 8) = false →
      r.ecc = .clean → r.cls ≠ 1 →
    ∃ u : State, exec (.dramRead [r] t) s = .next u ∧
      u.reply = [r.addr, s.memWord (r.addr / 8 * 8) 8, 0] ∧ u.frc = ((s.till t).till r.back).frc ∧
      (u.dramCh (dramChannel r.addr)).open_ =
        ((((s.till t).till r.back).burst (dramChannel r.addr) r.cls (dramAddr (r.addr / 8 * 8)) false).dramCh (dramChannel r.addr)).open_ ∧
      u.out = (((s.till t).till r.back).burst (dramChannel r.addr) r.cls (dramAddr (r.addr / 8 * 8)) false).out ∧
      { u with reply := s.reply, dram := s.dram, out := s.out, frc := s.frc } = s) ∧
  (∀ (r : DramReq) (t : Nat) (s : State), s.inService (dramChannel r.addr) = true →
      s.bit Reg.CLK_PLL_STATUS 1 = true → s.poisonedIn (r.addr / 8 * 8) 8 = false → s.buffered (r.addr / 8 * 8) = false →
      r.ecc = .clean → r.cls = 1 →
    ∃ u : State, exec (.dramRead [r] t) s = .next u ∧
      u.reply = [r.addr, s.memWord (r.addr / 8 * 8) 8, 0] ∧ u.frc = ((s.till t).till r.back).frc ∧
      (u.dramCh (dramChannel r.addr)).open_ =
        ((((s.till t).till r.back).burst (dramChannel r.addr) r.cls (dramAddr (r.addr / 8 * 8)) false).dramCh (dramChannel r.addr)).open_ ∧
      u.out = (((s.till t).till r.back).burst (dramChannel r.addr) r.cls (dramAddr (r.addr / 8 * 8)) false).out ∧
      u.rd (Reg.DRAM_RT_LAT_MAX (dramChannel r.addr)) =
        max (s.rd (Reg.DRAM_RT_LAT_MAX (dramChannel r.addr))) (min 65535 ((r.back - r.issued) * 5 / 4)) ∧
      u.rd (Reg.DRAM_RT_LATE (dramChannel r.addr)) =
        (if s.readDeadline r < r.back then satInc 32 (s.rd (Reg.DRAM_RT_LATE (dramChannel r.addr))) else
        s.rd (Reg.DRAM_RT_LATE (dramChannel r.addr))) ∧
      s.regsBut u [Reg.DRAM_RT_LAT_MAX (dramChannel r.addr), Reg.DRAM_RT_LATE (dramChannel r.addr)] ∧
      { u with regs := s.regs, reply := s.reply, dram := s.dram, out := s.out, frc := s.frc } = s) ∧
  (∀ (r : DramReq) (t : Nat) (s : State), s.inService (dramChannel r.addr) = true →
      s.bit Reg.CLK_PLL_STATUS 1 = true → s.poisonedIn (r.addr / 8 * 8) 8 = false → s.buffered (r.addr / 8 * 8) = true →
      r.cls ≠ 1 →
    ∃ u : State, exec (.dramRead [r] t) s = .next u ∧
      u.reply = [r.addr, s.memWord (r.addr / 8 * 8) 8, 0] ∧ u.frc = ((s.till t).till r.back).frc ∧
      { u with reply := s.reply, dram := s.dram, frc := s.frc } = s) ∧
  (∀ (r : DramReq) (t : Nat) (lane synd : Nat) (s : State), s.inService (dramChannel r.addr) = true →
      s.bit Reg.CLK_PLL_STATUS 1 = true → s.poisonedIn (r.addr / 8 * 8) 8 = false → s.buffered (r.addr / 8 * 8) = false →
      r.cls ≠ 1 → r.ecc = .corrected lane synd → s.bit (Reg.DRAM_CH_CFG (dramChannel r.addr)) 1 = false →
      (s.dramCh (dramChannel r.addr)).writes.length < 64 →
    ∃ u : State, exec (.dramRead [r] t) s = .next u ∧
      u.reply = [r.addr, s.memWord (r.addr / 8 * 8) 8, 0] ∧ u.frc = ((s.till t).till r.back).frc ∧
      (u.dramCh (dramChannel r.addr)).open_ =
        ((((s.till t).till r.back).burst (dramChannel r.addr) r.cls (dramAddr (r.addr / 8 * 8)) false).dramCh (dramChannel r.addr)).open_ ∧
      u.rd (Reg.DRAM_CE_COUNT (dramChannel r.addr)) = satInc 32 (s.rd (Reg.DRAM_CE_COUNT (dramChannel r.addr))) ∧
      u.rd (Reg.DRAM_ERR_ADDR_LO (dramChannel r.addr)) = (r.addr / 8 * 8) % 2 ^ 32 ∧
      u.rd (Reg.DRAM_ERR_DETAIL (dramChannel r.addr)) = synd % 256 + r.cls * 1024 + lane % 16 * 65536 + (if r.cls =
        5 then 0x100000 else 0) ∧ u.bit (Reg.INT_STATUS (Reg.pageDRAM (dramChannel r.addr))) 8 = true ∧
      u.out = (((s.till t).till r.back).burst (dramChannel r.addr) r.cls (dramAddr (r.addr / 8 * 8)) false).out ∧
      s.regsBut u [Reg.DRAM_CE_COUNT (dramChannel r.addr), Reg.DRAM_ERR_ADDR_LO (dramChannel r.addr),
        Reg.DRAM_ERR_ADDR_HI (dramChannel r.addr), Reg.DRAM_ERR_DETAIL (dramChannel r.addr),
        Reg.INT_STATUS (Reg.pageDRAM (dramChannel r.addr))] ∧
      { u with regs := s.regs, reply := s.reply, dram := s.dram, out := s.out, frc := s.frc } = s) ∧
  (∀ (r : DramReq) (t : Nat) (lane synd : Nat) (s : State), s.inService (dramChannel r.addr) = true →
      s.bit Reg.CLK_PLL_STATUS 1 = true → s.poisonedIn (r.addr / 8 * 8) 8 = false → s.buffered (r.addr / 8 * 8) = false →
      r.cls ≠ 1 → r.ecc = .corrected lane synd → s.bit (Reg.DRAM_CH_CFG (dramChannel r.addr)) 1 = true →
      (s.dramCh (dramChannel r.addr)).writes.length < 64 →
    ∃ u : State, exec (.dramRead [r] t) s = .next u ∧
      u.reply = [r.addr, s.memWord (r.addr / 8 * 8) 8, 0] ∧ u.frc = ((s.till t).till r.back).frc ∧
      (u.dramCh (dramChannel r.addr)).open_ =
        ((((s.till t).till r.back).burst (dramChannel r.addr) r.cls (dramAddr (r.addr / 8 * 8)) false).dramCh (dramChannel r.addr)).open_ ∧
      u.rd (Reg.DRAM_CE_COUNT (dramChannel r.addr)) = satInc 32 (s.rd (Reg.DRAM_CE_COUNT (dramChannel r.addr))) ∧
      u.rd (Reg.DRAM_ERR_ADDR_LO (dramChannel r.addr)) = (r.addr / 8 * 8) % 2 ^ 32 ∧
      u.rd (Reg.DRAM_ERR_DETAIL (dramChannel r.addr)) = synd % 256 + r.cls * 1024 + lane % 16 * 65536 + (if r.cls =
        5 then 0x100000 else 0) ∧ u.bit (Reg.INT_STATUS (Reg.pageDRAM (dramChannel r.addr))) 8 = true ∧
      u.buffered (r.addr / 8 * 8) = true ∧
      s.regsBut u [Reg.DRAM_CE_COUNT (dramChannel r.addr), Reg.DRAM_ERR_ADDR_LO (dramChannel r.addr),
        Reg.DRAM_ERR_ADDR_HI (dramChannel r.addr), Reg.DRAM_ERR_DETAIL (dramChannel r.addr),
        Reg.INT_STATUS (Reg.pageDRAM (dramChannel r.addr))] ∧
      { u with regs := s.regs, reply := s.reply, dram := s.dram, out := s.out, frc := s.frc } = s) ∧
  (∀ (r : DramReq) (t : Nat) (fold : Bool) (synd : Nat) (s : State), s.dramSt (dramChannel r.addr) = 2 →
      s.buffered (r.addr / 8 * 8) = false → r.cls = 3 → r.ecc = .uncorrectable fold synd →
    ∃ u : State, exec (.dramRead [r] t) s = .next u ∧
      u.reply = [r.addr, s.memWord (r.addr / 8 * 8) 8, 1] ∧
      u.out = (((s.till t).till r.back).burst (dramChannel r.addr) r.cls (dramAddr (r.addr / 8 * 8)) false).out ∧
      u.rd (Reg.DRAM_UE_COUNT (dramChannel r.addr)) = satInc 32 (s.rd (Reg.DRAM_UE_COUNT (dramChannel r.addr))) ∧
      s.errored u (Reg.pageDRAM (dramChannel r.addr)) 0x0101 0 0 ∧
      u.rd (Reg.DRAM_ERR_DETAIL (dramChannel r.addr)) = synd % 256 + (if fold = true then 2 else 1) * 256 + 3 * 1024 ∧
      r.addr / 8 ∈ u.dram.poisoned ∧ u.bit (Reg.STATUS (Reg.pageDRAM (dramChannel r.addr))) 2 = true ∧
      u.dramSt (dramChannel r.addr) = 3 ∧ u.bit (Reg.DRAM_CH_STATUS (dramChannel r.addr)) 2 = true ∧
      u.dram.stop = s.dram.stop ∧
      s.regsBut u (errorKeys (Reg.pageDRAM (dramChannel r.addr)) ++ [Reg.DRAM_UE_COUNT (dramChannel r.addr),
        Reg.DRAM_ERR_ADDR_LO (dramChannel r.addr), Reg.DRAM_ERR_ADDR_HI (dramChannel r.addr),
        Reg.DRAM_ERR_DETAIL (dramChannel r.addr), Reg.STATUS (Reg.pageDRAM (dramChannel r.addr)),
        Reg.DRAM_CH_STATUS (dramChannel r.addr), Reg.DRAM_TRAIN_STATUS (dramChannel r.addr)] ++ tallyKeys) ∧
      { u with regs := s.regs, reply := s.reply, dram := s.dram, mgmt := s.mgmt, out := s.out, frc := s.frc } = s) ∧
  (∀ (r : DramReq) (t : Nat) (fold : Bool) (synd : Nat) (s : State), s.dramSt (dramChannel r.addr) = 3 →
      s.buffered (r.addr / 8 * 8) = false → r.cls = 3 → r.ecc = .uncorrectable fold synd →
    ∃ u : State, exec (.dramRead [r] t) s = .next u ∧
      u.reply = [r.addr, s.memWord (r.addr / 8 * 8) 8, 1] ∧
      u.out = (((s.till t).till r.back).burst (dramChannel r.addr) r.cls (dramAddr (r.addr / 8 * 8)) false).out ∧
      u.rd (Reg.DRAM_UE_COUNT (dramChannel r.addr)) = satInc 32 (s.rd (Reg.DRAM_UE_COUNT (dramChannel r.addr))) ∧
      s.errored u (Reg.pageDRAM (dramChannel r.addr)) 0x0101 0 0 ∧
      u.rd (Reg.DRAM_ERR_DETAIL (dramChannel r.addr)) = synd % 256 + (if fold = true then 2 else 1) * 256 + 3 * 1024 ∧
      r.addr / 8 ∈ u.dram.poisoned ∧ u.bit (Reg.STATUS (Reg.pageDRAM (dramChannel r.addr))) 2 = true ∧
      u.dramSt (dramChannel r.addr) = 3 ∧ u.bit (Reg.DRAM_CH_STATUS (dramChannel r.addr)) 1 = true ∧
      u.dram.stop = true ∧
      s.regsBut u (errorKeys (Reg.pageDRAM (dramChannel r.addr)) ++ [Reg.DRAM_UE_COUNT (dramChannel r.addr),
        Reg.DRAM_ERR_ADDR_LO (dramChannel r.addr), Reg.DRAM_ERR_ADDR_HI (dramChannel r.addr),
        Reg.DRAM_ERR_DETAIL (dramChannel r.addr), Reg.STATUS (Reg.pageDRAM (dramChannel r.addr)),
        Reg.DRAM_CH_STATUS (dramChannel r.addr), Reg.DRAM_TRAIN_STATUS (dramChannel r.addr)] ++ tallyKeys) ∧
      { u with regs := s.regs, reply := s.reply, dram := s.dram, mgmt := s.mgmt, out := s.out, frc := s.frc } = s) ∧
  (∀ (r : DramReq) (t : Nat) (s : State), s.dramSt (dramChannel r.addr) = 5 → r.cls ≠ 1 → r.ecc = .clean →
      s.bit Reg.CLK_PLL_STATUS 1 = false ∨ s.poisonedIn (r.addr / 8 * 8) 8 = true →
    ∃ u : State, exec (.dramRead [r] t) s = .next u ∧
      u.rd (Reg.DRAM_UE_COUNT (dramChannel r.addr)) = satInc 32 (s.rd (Reg.DRAM_UE_COUNT (dramChannel r.addr))) ∧
      s.errored u (Reg.pageDRAM (dramChannel r.addr)) 0x0101 0 0 ∧
      u.reply = [r.addr, s.memWord (r.addr / 8 * 8) 8, 1] ∧
      s.regsBut u (errorKeys (Reg.pageDRAM (dramChannel r.addr)) ++ [Reg.DRAM_UE_COUNT (dramChannel r.addr),
        Reg.DRAM_ERR_ADDR_LO (dramChannel r.addr), Reg.DRAM_ERR_ADDR_HI (dramChannel r.addr),
        Reg.DRAM_ERR_DETAIL (dramChannel r.addr), Reg.STATUS (Reg.pageDRAM (dramChannel r.addr)),
        Reg.DRAM_CH_STATUS (dramChannel r.addr), Reg.DRAM_TRAIN_STATUS (dramChannel r.addr)] ++ tallyKeys) ∧
      { u with regs := s.regs, reply := s.reply, dram := s.dram, mgmt := s.mgmt, out := s.out, frc := s.frc, freeCount := s.freeCount } =
        s) ∧
  (∀ (r : DramReq) (t : Nat) (s : State), s.dramSt (dramChannel r.addr) = 2 → r.addr / 8 ∈ s.dram.poisoned →
      s.buffered (r.addr / 8 * 8) = false → r.cls = 3 → r.ecc = .clean →
    ∃ u : State, exec (.dramRead [r] t) s = .next u ∧
      u.reply = [r.addr, s.memWord (r.addr / 8 * 8) 8, 1] ∧
      u.rd (Reg.DRAM_UE_COUNT (dramChannel r.addr)) = satInc 32 (s.rd (Reg.DRAM_UE_COUNT (dramChannel r.addr))) ∧
      s.errored u (Reg.pageDRAM (dramChannel r.addr)) 0x0101 0 0 ∧ u.dramSt (dramChannel r.addr) = 3 ∧
      s.regsBut u (errorKeys (Reg.pageDRAM (dramChannel r.addr)) ++ [Reg.DRAM_UE_COUNT (dramChannel r.addr),
        Reg.DRAM_ERR_ADDR_LO (dramChannel r.addr), Reg.DRAM_ERR_ADDR_HI (dramChannel r.addr),
        Reg.DRAM_ERR_DETAIL (dramChannel r.addr), Reg.STATUS (Reg.pageDRAM (dramChannel r.addr)),
        Reg.DRAM_CH_STATUS (dramChannel r.addr), Reg.DRAM_TRAIN_STATUS (dramChannel r.addr)] ++ tallyKeys) ∧
      { u with regs := s.regs, reply := s.reply, dram := s.dram, mgmt := s.mgmt, out := s.out, frc := s.frc, freeCount := s.freeCount } =
        s) ∧
  (∀ (r : DramReq) (t : Nat) (fold : Bool) (synd : Nat) (s : State), s.dramSt (dramChannel r.addr) = 5 → r.cls = 4 →
      r.ecc = .uncorrectable fold synd →
    ∃ u : State, exec (.dramRead [r] t) s = .next u ∧
      u.reply = [r.addr, s.memWord (r.addr / 8 * 8) 8, 1] ∧
      s.errored u (Reg.pageDRAM (dramChannel r.addr)) 0x0101 0 0 ∧ Out.busError r.addr ∈ u.out ∧
      s.regsBut u (errorKeys (Reg.pageDRAM (dramChannel r.addr)) ++ [Reg.DRAM_UE_COUNT (dramChannel r.addr),
        Reg.DRAM_ERR_ADDR_LO (dramChannel r.addr), Reg.DRAM_ERR_ADDR_HI (dramChannel r.addr),
        Reg.DRAM_ERR_DETAIL (dramChannel r.addr), Reg.STATUS (Reg.pageDRAM (dramChannel r.addr)),
        Reg.DRAM_CH_STATUS (dramChannel r.addr), Reg.DRAM_TRAIN_STATUS (dramChannel r.addr)] ++ tallyKeys) ∧
      { u with regs := s.regs, reply := s.reply, dram := s.dram, mgmt := s.mgmt, out := s.out, frc := s.frc } = s) ∧
  (∀ (l : List DramReq) (t : Nat) (s : State), (∀ d ∈ List.range 6, s.inService d = false ∧ s.dramSt d ≠ 5) →
    exec (.dramRead l t) s = .next ({ s.till t with reply := [] })) ∧
  (∀ (d : Nat) (l : List DramReq) (r : DramReq) (s : State), (s.nextRead d l).2 = some r → r ∈ l ∧ (r.cls ≠ 0 →
     ∀ q ∈ eligible l, q.cls ≠ 0) ∧ (r.cls = 1 → ∀ q ∈ eligible l, q.cls = 1 → s.readDeadline r ≤ s.readDeadline q) ∧
     (2 ≤ r.cls.val → ∀ q ∈ eligible l, q.cls ≠ 1) ∧ (r.cls = 5 → ∀ q ∈ eligible l, q.cls = 5)) ∧
  (∀ (d cls ca : Nat) (w : Bool) (s : State), s.pageHint d cls ca = 0 →
    ∃ u : State, s.burst d cls ca w = u ∧
      (∀ r ∈ (u.dramCh d).open_, r.1 ≠ bankOf ca) ∧
      u.out.getLast? = some (Out.dram d (if w = true then 11 else 7) (ca / 64 * 64)) ∧
      (∀ r ∈ (s.dramCh d).open_, s.idleRows d r = false → r.1 ≠ bankOf ca → r ∈ (u.dramCh d).open_) ∧
      ((s.dramCh d).open_ = [] → u.out = s.out ++ [Out.dram d 4 (bankOf ca * 2 ^ 17 + dramRow ca),
        Out.dram d (if w = true then 11 else 7) (ca / 64 * 64)]) ∧ (u.dramCh d).writes = (s.dramCh d).writes ∧
      { u with dram := s.dram, out := s.out } = s) ∧
  (∀ (d cls ca : Nat) (w : Bool) (s : State), s.pageHint d cls ca = 1 →
    ∃ u : State, s.burst d cls ca w = u ∧
      (bankOf ca, dramRow ca, none) ∈ (u.dramCh d).open_ ∧
      u.out.getLast? = some (Out.dram d (if w = true then 2 else 6) (ca / 64 * 64)) ∧
      (∀ r ∈ (s.dramCh d).open_, s.idleRows d r = false → r.1 ≠ bankOf ca → r ∈ (u.dramCh d).open_) ∧
      ((s.dramCh d).open_ = [] → u.out = s.out ++ [Out.dram d 4 (bankOf ca * 2 ^ 17 + dramRow ca),
        Out.dram d (if w = true then 2 else 6) (ca / 64 * 64)]) ∧ (u.dramCh d).writes = (s.dramCh d).writes ∧
      { u with dram := s.dram, out := s.out } = s) ∧
  (∀ (d cls ca : Nat) (w : Bool) (s : State), s.pageHint d cls ca = 2 →
    ∃ u : State, s.burst d cls ca w = u ∧
      (bankOf ca, dramRow ca, some s.frc) ∈ (u.dramCh d).open_ ∧
      u.out.getLast? = some (Out.dram d (if w = true then 2 else 6) (ca / 64 * 64)) ∧
      (∀ r ∈ (s.dramCh d).open_, s.idleRows d r = false → r.1 ≠ bankOf ca → r ∈ (u.dramCh d).open_) ∧
      ((s.dramCh d).open_ = [] → u.out = s.out ++ [Out.dram d 4 (bankOf ca * 2 ^ 17 + dramRow ca),
        Out.dram d (if w = true then 2 else 6) (ca / 64 * 64)]) ∧ (u.dramCh d).writes = (s.dramCh d).writes ∧
      { u with dram := s.dram, out := s.out } = s) ∧
  (∀ (cls a : Nat) (s : State), s.inService (dramChannel a) = true → (s.dramCh (dramChannel a)).writes.length < 64 →
    ∃ u : State, s.bufferWord cls a = u ∧
      u.buffered a = true ∧ u.out = s.out ∧ u.job = s.job ∧ { u with dram := s.dram } = s) ∧
  (∀ (d : Fin 6) (word : Fin 8) (s : State), s.inService d = true → s.bit Reg.CLK_PLL_STATUS 1 = true →
      s.poisonedIn (jobAddr d (s.rd (Reg.DRAM_SCRUB_POS d) * 64)) 64 = false → s.bit (Reg.DRAM_CH_CFG d) 0 = true →
      s.rdF Reg.THERM_STEPS 1 0 = 0 →
    ∃ u : State, exec (.scrubRead d .clean word) s = .next u ∧
      u.rd (Reg.DRAM_SCRUB_POS d) = (s.rd (Reg.DRAM_SCRUB_POS d) + 1) % 2 ^ 28 ∧
      u.rd (Reg.DRAM_SCRUB_PASSES d) = (if (s.rd (Reg.DRAM_SCRUB_POS d) + 1) % 2 ^ 28 =
        0 then satInc 32 (s.rd (Reg.DRAM_SCRUB_PASSES d)) else s.rd (Reg.DRAM_SCRUB_PASSES d)) ∧
      (u.dram, u.out) = ((s.burst d 5 (s.rd (Reg.DRAM_SCRUB_POS d) * 64) false).dram,
        (s.burst d 5 (s.rd (Reg.DRAM_SCRUB_POS d) * 64) false).out) ∧
      s.regsBut u [Reg.DRAM_SCRUB_POS d, Reg.DRAM_SCRUB_PASSES d] ∧
      { u with regs := s.regs, dram := s.dram, out := s.out } = s) ∧
  (∀ (d : Fin 6) (ecc : Ecc) (word : Fin 8) (s : State),
      s.inService d = false ∨ s.bit (Reg.DRAM_CH_CFG d) 0 = false ∨ s.rdF Reg.THERM_STEPS 1 0 ≠ 0 →
    exec (.scrubRead d ecc word) s = .next s) ∧
  (∀ (d : Fin 6) (fold : Bool) (synd a : Nat) (word : Fin 8) (s : State), s.dramSt d = 2 →
      s.bit (Reg.DRAM_CH_CFG d) 0 = true → s.rdF Reg.THERM_STEPS 1 0 = 0 →
      a = jobAddr d (s.rd (Reg.DRAM_SCRUB_POS d) * 64) + 8 * word →
    ∃ u : State, exec (.scrubRead d (.uncorrectable fold synd) word) s = .next u ∧
      u.rd (Reg.DRAM_UE_COUNT d) = satInc 32 (s.rd (Reg.DRAM_UE_COUNT d)) ∧
      u.rd (Reg.DRAM_SCRUB_POS d) = (s.rd (Reg.DRAM_SCRUB_POS d) + 1) % 2 ^ 28 ∧ u.dramSt d = 3 ∧
      u.rd (Reg.DRAM_ERR_ADDR_LO d) = a % 2 ^ 32 ∧ a / 8 ∈ u.dram.poisoned ∧ s.errored u (Reg.pageDRAM d) 0x0101 0 0 ∧
      (∀ e ∈ u.job.valid, a < e.1 ∨ e.1 + tileBytes ≤ a) ∧ s.pagesBut u [Reg.pageDRAM d, Reg.pageTALLY, Reg.pageJOB] ∧
      { u with regs := s.regs, dram := s.dram, mgmt := s.mgmt, job := s.job, out := s.out } = s) ∧
  (∀ (src : Req) (d : Fin 6) (s : State), s.cutOff src = false →
    ∃ u : State, exec (.scrubRestart src d) s = .next u ∧
      u.rd (Reg.DRAM_SCRUB_POS d) = 0 ∧ s.regsBut u [Reg.DRAM_SCRUB_POS d] ∧ { u with regs := s.regs } = s) ∧
  (∀ s : State, s.dram.stop = false →
    exec (.scheduledStop) s = .next s) ∧
  (∀ s : State, s.dram.stop = true → s.stopsAlone = true → s.runSt = 0 → s.modState = 3 ∨ s.modState = 4 →
    ∃ u : State, exec (.scheduledStop) s = .next u ∧
      u.modState = 7 ∧ u.job.mem = [] ∧ (u.job.valid, u.job.partner) = ([], []) ∧
      (∀ g ∈ List.range 4, ∀ i ∈ List.range 16, u.rd (Reg.LAMP_CH_OUT g i) = 0) ∧
      (∀ c ∈ s.activeLanes, Out.block c (stopBlock false s.pairMode 7 (s.line.lastTickLine.getD 0)) ∈ u.out) ∧
      s.pagesBut u [Reg.pageSYS, Reg.pageTALLY, Reg.pageLAMP 0, Reg.pageLAMP 1, Reg.pageLAMP 2, Reg.pageLAMP 3,
        Reg.pageCAM 0, Reg.pageCAM 1, Reg.pageISP, Reg.pageSCALER] ∧
      { u with regs := s.regs, mgmt := s.mgmt, line := s.line, out := s.out, job := s.job, lamp := s.lamp, lanes := s.lanes, cam := s.cam, colour := s.colour } =
        s) ∧
  (∀ s : State, s.dram.stop = true → s.stopsAlone = true → s.runSt = 2 →
    exec (.scheduledStop) s = .next (s.drainAt (ladd s.nextLine (-1)))) ∧
  (∀ s : State, s.dram.stop = true → s.stopsAlone = false →
    exec (.scheduledStop) s =
      .next (({ s with dram := { s.dram with retireAgain := true } } : State).askChange true 3)) ∧
  (∀ s : State, s.dram.stop = true → s.dram.retireAgain = true → s.modState ≠ 7 →
      s.rdF Reg.PAIR_HANDOVER_STATUS 2 0 = 3 → s.rdF Reg.PAIR_HANDOVER_STATUS 7 4 = 3 →
    exec (.retireRequestRepeat) s = .next (s.askChange true 3)) ∧
  (∀ s : State, s.dram.stop = false ∨ s.dram.retireAgain = false →
    exec (.retireRequestRepeat) s = .next s)

/-- Refresh, heat, alerts and retraining of a DRAM channel. The refresh debt grows with time and falls by tREFI at
each REF, forced at its bound; a board temperature of 85 degrees makes a channel HOT at once and 10 s below 82
end it; an alert is counted with its replays, the fourth of which fails the channel; a retraining of 64 slices
ends in its record, degrades on failure, and sixteen passes restore. Spec: 13_dram.md. -/
def Obligations.DramUpkeep : Prop :=
  (∀ (d : Fin 6) (elapsed : Nat) (pull : Bool) (s : State), s.inService d = false →
    exec (.dramRefresh d elapsed pull) s = .next s) ∧
  (∀ (d : Fin 6) (elapsed : Nat) (pull : Bool) (s : State), s.inService d = true → 0 ≤ (s.dramCh d).debt + elapsed →
    ∃ u : State, exec (.dramRefresh d elapsed pull) s = .next u ∧
      (u.dramCh d).debt = (s.dramCh d).debt + elapsed - (s.tRefi d : Nat) ∧
      u.rd (Reg.DRAM_REF_COUNT d) = satInc 32 (s.rd (Reg.DRAM_REF_COUNT d)) ∧
      u.out = ((s.flushWrites d).closeRows d (fun _ => true)).out ++ [Out.dram d 1 1] ∧ (u.dramCh d).open_ = [] ∧
      (u.dramCh d).writes = [] ∧ s.regsBut u [Reg.DRAM_REFRESH_STATUS d, Reg.DRAM_REF_COUNT d] ∧
      { u with regs := s.regs, dram := s.dram, out := s.out } = s) ∧
  (∀ (d : Fin 6) (elapsed : Nat) (s : State), s.inService d = true → (s.dramCh d).debt + elapsed < 0 →
      -s.debtMax d ≤ (s.dramCh d).debt + elapsed - (s.tRefi d : Nat) →
    ∃ u : State, exec (.dramRefresh d elapsed true) s = .next u ∧
      (u.dramCh d).debt = (s.dramCh d).debt + elapsed - (s.tRefi d : Nat) ∧
      u.rd (Reg.DRAM_REF_COUNT d) = satInc 32 (s.rd (Reg.DRAM_REF_COUNT d)) ∧
      u.out = ((s.flushWrites d).closeRows d (fun _ => true)).out ++ [Out.dram d 1 1] ∧ (u.dramCh d).open_ = [] ∧
      (u.dramCh d).writes = [] ∧ s.regsBut u [Reg.DRAM_REFRESH_STATUS d, Reg.DRAM_REF_COUNT d] ∧
      { u with regs := s.regs, dram := s.dram, out := s.out } = s) ∧
  (∀ (d : Fin 6) (elapsed : Nat) (pull : Bool) (s : State), s.inService d = true → (s.dramCh d).debt + elapsed < 0 →
      pull = false ∨ (s.dramCh d).debt + elapsed - (s.tRefi d : Nat) < -s.debtMax d →
    ∃ u : State, exec (.dramRefresh d elapsed pull) s = .next u ∧
      (u.dramCh d).debt = (s.dramCh d).debt + elapsed ∧ u.out = (s.flushWrites d).out ∧ (u.dramCh d).writes = [] ∧
      s.regsBut u [Reg.DRAM_REFRESH_STATUS d] ∧ { u with regs := s.regs, dram := s.dram, out := s.out } = s) ∧
  (∀ (d : Fin 6) (elapsed : Nat) (s : State), s.inService d = true → s.debtMax d ≤ (s.dramCh d).debt + elapsed →
    ∃ u : State, exec (.forcedRefresh d elapsed) s = .next u ∧
      (u.dramCh d).debt = (s.dramCh d).debt + elapsed - (s.tRefi d : Nat) ∧
      u.rd (Reg.DRAM_FORCED_REF_COUNT d) = satInc 32 (s.rd (Reg.DRAM_FORCED_REF_COUNT d)) ∧
      u.rd (Reg.DRAM_REF_COUNT d) = satInc 32 (s.rd (Reg.DRAM_REF_COUNT d)) ∧
      u.out = (s.closeRows d (fun _ => true)).out ++ [Out.dram d 1 1] ∧ (u.dramCh d).open_ = [] ∧
      s.regsBut u [Reg.DRAM_REFRESH_STATUS d, Reg.DRAM_REF_COUNT d, Reg.DRAM_FORCED_REF_COUNT d] ∧
      { u with regs := s.regs, dram := s.dram, out := s.out } = s) ∧
  (∀ (d : Fin 6) (elapsed : Nat) (s : State), s.inService d = true → (s.dramCh d).debt + elapsed < s.debtMax d →
    ∃ u : State, exec (.forcedRefresh d elapsed) s = .next u ∧
      (u.dramCh d).debt = (s.dramCh d).debt + elapsed ∧ s.regsBut u [Reg.DRAM_REFRESH_STATUS d] ∧
      { u with regs := s.regs, dram := s.dram } = s) ∧
  (∀ (d : Fin 6) (temp : Int) (s : State), temp < 1360 ∨ s.hot d = true →
      (temp - (s.dramCh d).trainTemp).natAbs < 16 * atLeast1 (s.rdF (Reg.DRAM_TRAIN_CFG d) 15 8) →
    ∃ u : State, exec (.dramTempRead d temp) s = .next u ∧
      u.rd (Reg.DRAM_TEMP d) = unsgn 16 temp ∧
      (u.dramCh d).cool = (if temp < 1312 then (s.dramCh d).cool + 1 else 0) ∧ s.regsBut u [Reg.DRAM_TEMP d] ∧
      { u with regs := s.regs, dram := s.dram } = s) ∧
  (∀ (d : Fin 6) (temp : Int) (s : State), 1360 ≤ temp → s.hot d = false →
      (temp - (s.dramCh d).trainTemp).natAbs < 16 * atLeast1 (s.rdF (Reg.DRAM_TRAIN_CFG d) 15 8) →
      (s.dramCh d).debt ≤ 31200 →
    ∃ u : State, exec (.dramTempRead d temp) s = .next u ∧
      u.rd (Reg.DRAM_TEMP d) = unsgn 16 temp ∧ u.hot d = true ∧ u.bit (Reg.INT_STATUS (Reg.pageDRAM d)) 10 = true ∧
      (u.dramCh d).debt = (s.dramCh d).debt ∧
      s.regsBut u [Reg.DRAM_TEMP d, Reg.DRAM_CH_STATUS d, Reg.INT_STATUS (Reg.pageDRAM d),
        Reg.DRAM_REFRESH_STATUS d] ∧ { u with regs := s.regs, dram := s.dram } = s) ∧
  (∀ (d : Fin 6) (temp : Int) (s : State), 1360 ≤ temp → s.hot d = false →
      (temp - (s.dramCh d).trainTemp).natAbs < 16 * atLeast1 (s.rdF (Reg.DRAM_TRAIN_CFG d) 15 8) →
      31200 < (s.dramCh d).debt →
    ∃ u : State, exec (.dramTempRead d temp) s = .next u ∧
      u.hot d = true ∧ (u.dramCh d).debt ≤ 31200 ∧ 31200 - 3900 < (u.dramCh d).debt ∧
      u.bit (Reg.INT_STATUS (Reg.pageDRAM d)) 11 = true ∧
      s.regsBut u [Reg.DRAM_TEMP d, Reg.DRAM_CH_STATUS d, Reg.INT_STATUS (Reg.pageDRAM d),
        Reg.DRAM_REFRESH_STATUS d, Reg.DRAM_REF_COUNT d, Reg.DRAM_FORCED_REF_COUNT d, Reg.DRAM_REF_BURST_MAX d] ∧
      { u with regs := s.regs, dram := s.dram, out := s.out } = s) ∧
  (∀ (d : Fin 6) (temp : Int) (s : State), temp < 1360 → s.inService d = true → (s.dramCh d).slices = none →
      16 * atLeast1 (s.rdF (Reg.DRAM_TRAIN_CFG d) 15 8) ≤ (temp - (s.dramCh d).trainTemp).natAbs →
    ∃ u : State, exec (.dramTempRead d temp) s = .next u ∧
      (u.dramCh d).slices = some 0 ∧ u.bit (Reg.STATUS (Reg.pageDRAM d)) 1 = true ∧
      s.regsBut u [Reg.DRAM_TEMP d, Reg.STATUS (Reg.pageDRAM d)] ∧ { u with regs := s.regs, dram := s.dram } = s) ∧
  (∀ (d : Fin 6) (s : State), s.hot d = true → 10001 ≤ (s.dramCh d).cool →
    ∃ u : State, exec (.hotExit d) s = .next u ∧
      u.hot d = false ∧ u.bit (Reg.INT_STATUS (Reg.pageDRAM d)) 10 = true ∧
      s.regsBut u [Reg.DRAM_CH_STATUS d, Reg.INT_STATUS (Reg.pageDRAM d), Reg.DRAM_REFRESH_STATUS d] ∧
      { u with regs := s.regs, dram := s.dram } = s) ∧
  (∀ (d : Fin 6) (s : State), s.hot d = false ∨ (s.dramCh d).cool < 10001 →
    exec (.hotExit d) s = .next s) ∧
  (∀ (d : Fin 6) (after replays : Nat) (cleared : Bool) (s : State), s.inService d = true →
      s.bit (Reg.DRAM_CH_CFG d) 2 = true → cleared = true ∨ replays < 4 →
    ∃ u : State, exec (.parityAlert d after replays cleared) s = .next u ∧
      u.rd (Reg.DRAM_PARITY_COUNT d) = satInc 32 (s.rd (Reg.DRAM_PARITY_COUNT d)) ∧
      u.bit (Reg.INT_STATUS (Reg.pageDRAM d)) 12 = true ∧
      u.rd (Reg.DRAM_RETRY_COUNT d) = satAdd 32 (s.rd (Reg.DRAM_RETRY_COUNT d)) (min 4 replays) ∧
      u.out = (s.closeRows d (fun _ => true)).out ++
        (List.replicate (min 4 replays) ((s.dramCh d).cmds.take after).reverse).flatten.map (fun x => Out.dram d x.1 x.2) ∧
      s.regsBut u [Reg.DRAM_PARITY_COUNT d, Reg.INT_STATUS (Reg.pageDRAM d), Reg.DRAM_RETRY_COUNT d] ∧
      { u with regs := s.regs, dram := s.dram, out := s.out } = s) ∧
  (∀ (d : Fin 6) (after replays : Nat) (cleared : Bool) (s : State),
      s.inService d = false ∨ s.bit (Reg.DRAM_CH_CFG d) 2 = false →
    exec (.parityAlert d after replays cleared) s = .next s) ∧
  (∀ (d : Fin 6) (after replays : Nat) (cleared : Bool) (s : State), s.inService d = true →
      s.bit (Reg.DRAM_CH_CFG d) 3 = true → cleared = true ∨ replays < 4 →
    ∃ u : State, exec (.wcrcAlert d after replays cleared) s = .next u ∧
      u.rd (Reg.DRAM_WCRC_COUNT d) = satInc 32 (s.rd (Reg.DRAM_WCRC_COUNT d)) ∧
      u.bit (Reg.INT_STATUS (Reg.pageDRAM d)) 13 = true ∧
      u.rd (Reg.DRAM_RETRY_COUNT d) = satAdd 32 (s.rd (Reg.DRAM_RETRY_COUNT d)) (min 4 replays) ∧
      u.out = s.out ++
        (List.replicate (min 4 replays) (((s.dramCh d).cmds.filter (fun x => x.1 == 2 || x.1 == 11)).take after).reverse).flatten.map (fun x => Out.dram d x.1 x.2) ∧
      s.regsBut u [Reg.DRAM_WCRC_COUNT d, Reg.INT_STATUS (Reg.pageDRAM d), Reg.DRAM_RETRY_COUNT d] ∧
      { u with regs := s.regs, dram := s.dram, out := s.out } = s) ∧
  (∀ (d : Fin 6) (after replays : Nat) (cleared : Bool) (s : State),
      s.inService d = false ∨ s.bit (Reg.DRAM_CH_CFG d) 3 = false →
    exec (.wcrcAlert d after replays cleared) s = .next s) ∧
  (∀ (d : Fin 6) (after : Nat) (s : State), s.inService d = true → s.bit (Reg.DRAM_CH_CFG d) 2 = true →
    ∃ u : State, exec (.parityAlert d after 4 false) s = .next u ∧
      u.dramSt d = 5 ∧ s.errored u (Reg.pageDRAM d) 0x0102 0 0 ∧ u.dram.stop = true ∧
      u.bit (Reg.INT_STATUS (Reg.pageDRAM d)) 14 = true ∧ u.bit (Reg.STATUS (Reg.pageDRAM d)) 0 = false ∧
      s.regsBut u (errorKeys (Reg.pageDRAM d) ++ [Reg.STATUS (Reg.pageDRAM d), Reg.DRAM_PARITY_COUNT d,
        Reg.DRAM_RETRY_COUNT d, Reg.DRAM_CH_STATUS d] ++ tallyKeys) ∧
      { u with regs := s.regs, dram := s.dram, mgmt := s.mgmt, out := s.out } = s) ∧
  (∀ (d : Fin 6) (s : State), s.inService d = true → (s.dramCh d).slices = none →
    ∃ u : State, exec (.retrainInterval d) s = .next u ∧
      (u.dramCh d).slices = some 0 ∧ u.bit (Reg.STATUS (Reg.pageDRAM d)) 1 = true ∧
      s.regsBut u [Reg.STATUS (Reg.pageDRAM d)] ∧ { u with regs := s.regs, dram := s.dram } = s) ∧
  (∀ (d : Fin 6) (s : State), s.inService d = false ∨ (s.dramCh d).slices ≠ none →
    exec (.retrainInterval d) s = .next s) ∧
  (∀ (src : Req) (d : Fin 6) (s : State), s.inService d = true → (s.dramCh d).slices = none →
    ∃ u : State, exec (.retrainNow src d) s = .next u ∧
      (u.dramCh d).slices = some 0 ∧ u.bit (Reg.STATUS (Reg.pageDRAM d)) 1 = true ∧
      s.regsBut u [Reg.STATUS (Reg.pageDRAM d)] ∧ { u with regs := s.regs, dram := s.dram } = s) ∧
  (∀ (src : Req) (d : Fin 6) (s : State), s.inService d = false ∨ (s.dramCh d).slices ≠ none →
    exec (.retrainNow src d) s = .next s) ∧
  (∀ (d : Fin 6) (n : Nat) (s : State), (s.dramCh d).slices = some n → n < 64 →
    ∃ u : State, exec (.retrainSlice d) s = .next u ∧
      (u.dramCh d).slices = some (n + 1) ∧ u.out = s.out ++ [Out.dram d 3 n] ∧
      { u with dram := s.dram, out := s.out } = s) ∧
  (∀ (d : Fin 6) (s : State), (s.dramCh d).slices = none →
    exec (.retrainSlice d) s = .next s) ∧
  (∀ (d : Fin 6) (margin lane : Nat) (s : State), (s.dramCh d).slices = some 64 →
      atLeast1 (s.rdF (Reg.DRAM_TRAIN_CFG d) 23 16) ≤ margin → s.dramSt d = 2 →
    ∃ u : State, exec (.retrainComplete d true margin lane) s = .next u ∧
      (u.dramCh d).slices = none ∧ u.rd (Reg.DRAM_RETRAIN_COUNT d) = satInc 32 (s.rd (Reg.DRAM_RETRAIN_COUNT d)) ∧
      u.bit (Reg.STATUS (Reg.pageDRAM d)) 1 = false ∧
      u.rdF (Reg.DRAM_TRAIN_STATUS d) 16 0 = margin % 256 + lane % 16 * 256 + 65536 ∧ u.dramSt d = 2 ∧
      s.regsBut u [Reg.STATUS (Reg.pageDRAM d), Reg.DRAM_RETRAIN_COUNT d, Reg.DRAM_TRAIN_STATUS d] ∧
      { u with regs := s.regs, dram := s.dram } = s) ∧
  (∀ (d : Fin 6) (margin lane : Nat) (s : State), (s.dramCh d).slices = some 64 →
      atLeast1 (s.rdF (Reg.DRAM_TRAIN_CFG d) 23 16) ≤ margin → s.dramSt d = 3 → (s.dramCh d).passes < 15 →
    ∃ u : State, exec (.retrainComplete d true margin lane) s = .next u ∧
      (u.dramCh d).slices = none ∧ u.rd (Reg.DRAM_RETRAIN_COUNT d) = satInc 32 (s.rd (Reg.DRAM_RETRAIN_COUNT d)) ∧
      u.bit (Reg.STATUS (Reg.pageDRAM d)) 1 = false ∧
      u.rdF (Reg.DRAM_TRAIN_STATUS d) 16 0 = margin % 256 + lane % 16 * 256 + 65536 ∧ u.dramSt d = 3 ∧
      (u.dramCh d).passes = (s.dramCh d).passes + 1 ∧
      u.rdF (Reg.DRAM_TRAIN_STATUS d) 23 20 = (s.dramCh d).passes + 1 ∧
      s.regsBut u [Reg.STATUS (Reg.pageDRAM d), Reg.DRAM_RETRAIN_COUNT d, Reg.DRAM_TRAIN_STATUS d] ∧
      { u with regs := s.regs, dram := s.dram } = s) ∧
  (∀ (d : Fin 6) (margin lane : Nat) (s : State), (s.dramCh d).slices = some 64 →
      atLeast1 (s.rdF (Reg.DRAM_TRAIN_CFG d) 23 16) ≤ margin → s.dramSt d = 3 → 15 ≤ (s.dramCh d).passes →
    ∃ u : State, exec (.retrainComplete d true margin lane) s = .next u ∧
      (u.dramCh d).slices = none ∧ u.rd (Reg.DRAM_RETRAIN_COUNT d) = satInc 32 (s.rd (Reg.DRAM_RETRAIN_COUNT d)) ∧
      u.bit (Reg.STATUS (Reg.pageDRAM d)) 1 = false ∧
      u.rdF (Reg.DRAM_TRAIN_STATUS d) 16 0 = margin % 256 + lane % 16 * 256 + 65536 ∧ u.dramSt d = 2 ∧
      (u.dramCh d).passes = 0 ∧ u.bit (Reg.STATUS (Reg.pageDRAM d)) 3 = false ∧
      u.bit (Reg.DRAM_CH_STATUS d) 2 = false ∧
      s.regsBut u [Reg.STATUS (Reg.pageDRAM d), Reg.DRAM_RETRAIN_COUNT d, Reg.DRAM_TRAIN_STATUS d,
        Reg.DRAM_CH_STATUS d] ∧ { u with regs := s.regs, dram := s.dram } = s) ∧
  (∀ (d : Fin 6) (margin lane : Nat) (pass : Bool) (s : State), (s.dramCh d).slices = some 64 →
      pass = false ∨ margin < atLeast1 (s.rdF (Reg.DRAM_TRAIN_CFG d) 23 16) → s.dramSt d = 2 →
    ∃ u : State, exec (.retrainComplete d pass margin lane) s = .next u ∧
      (u.dramCh d).slices = none ∧ u.rd (Reg.DRAM_RETRAIN_COUNT d) = satInc 32 (s.rd (Reg.DRAM_RETRAIN_COUNT d)) ∧
      u.bit (Reg.STATUS (Reg.pageDRAM d)) 1 = false ∧
      u.rdF (Reg.DRAM_TRAIN_STATUS d) 16 0 = margin % 256 + lane % 16 * 256 + 0 ∧ u.dramSt d = 3 ∧
      u.rd (Reg.DRAM_RETRAIN_FAIL_COUNT d) = satInc 32 (s.rd (Reg.DRAM_RETRAIN_FAIL_COUNT d)) ∧
      s.errored u (Reg.pageDRAM d) 0x0103 0 0 ∧ u.bit (Reg.INT_STATUS (Reg.pageDRAM d)) 15 = true ∧
      s.regsBut u (errorKeys (Reg.pageDRAM d) ++ [Reg.STATUS (Reg.pageDRAM d), Reg.DRAM_RETRAIN_COUNT d,
        Reg.DRAM_TRAIN_STATUS d, Reg.DRAM_RETRAIN_FAIL_COUNT d, Reg.DRAM_CH_STATUS d] ++ tallyKeys) ∧
      { u with regs := s.regs, dram := s.dram, mgmt := s.mgmt } = s) ∧
  (∀ (d : Fin 6) (margin lane : Nat) (pass : Bool) (s : State), (s.dramCh d).slices ≠ some 64 →
    exec (.retrainComplete d pass margin lane) s = .next s) ∧
  (∀ (src : Req) (d : Fin 6) (s : State), s.cutOff src = false → s.dramSt d = 3 →
    ∃ u : State, exec (.clearDegraded src d) s = .next u ∧
      u.dramSt d = 2 ∧ (u.dramCh d).passes = 0 ∧ u.bit (Reg.STATUS (Reg.pageDRAM d)) 3 = false ∧
      u.bit (Reg.STATUS (Reg.pageDRAM d)) 2 = false ∧ u.bit (Reg.DRAM_CH_STATUS d) 2 = false ∧
      u.rdF (Reg.DRAM_TRAIN_STATUS d) 23 20 = 0 ∧
      s.regsBut u [Reg.STATUS (Reg.pageDRAM d), Reg.DRAM_CH_STATUS d, Reg.DRAM_TRAIN_STATUS d] ∧
      { u with regs := s.regs, dram := s.dram } = s) ∧
  (∀ (src : Req) (d : Fin 6) (s : State), s.cutOff src = false → s.dramSt d ≠ 3 →
    exec (.clearDegraded src d) s = .next s)

/-- The seven checks of a received frame. A frame that fails a check is counted at that check and goes no further:
FCS and length, VLAN, address, class; a foreign PTP message is discarded; a frame without a token or without
room in its queue is counted; what passes waits in the 64-frame queue of its class. Supervision frames keep
their node in the table, and ENTRY_FORGET drops it. Spec: 12_time_network.md. -/
def Obligations.NetworkFrames : Prop :=
  (∀ (port : Fin 2) (f : NetFrame) (t : Nat) (s : State), f.fcsOk = false ∨ f.length < 64 ∨ 1522 < f.length →
    ∃ u : State, exec (.networkFrame port f t) s = .next u ∧
      u.rd (Reg.NET_RX_FRAMES port) = satInc 32 (s.rd (Reg.NET_RX_FRAMES port)) ∧ u.frc = (s.till t).frc ∧
      u.rd (Reg.NET_DROP_FCS port) = satInc 32 (s.rd (Reg.NET_DROP_FCS port)) ∧
      s.regsBut u [Reg.NET_RX_FRAMES port, (Reg.NET_DROP_FCS port)] ∧ { u with regs := s.regs, frc := s.frc } = s) ∧
  (∀ (port : Fin 2) (f : NetFrame) (t : Nat) (s : State), f.fcsOk = true → 64 ≤ f.length → f.length ≤ 1522 →
      s.vlanOk f = false →
    ∃ u : State, exec (.networkFrame port f t) s = .next u ∧
      u.rd (Reg.NET_RX_FRAMES port) = satInc 32 (s.rd (Reg.NET_RX_FRAMES port)) ∧ u.frc = (s.till t).frc ∧
      u.rd (Reg.NET_DROP_VLAN port) = satInc 32 (s.rd (Reg.NET_DROP_VLAN port)) ∧
      s.regsBut u [Reg.NET_RX_FRAMES port, (Reg.NET_DROP_VLAN port)] ∧ { u with regs := s.regs, frc := s.frc } = s) ∧
  (∀ (port : Fin 2) (f : NetFrame) (t : Nat) (s : State), f.fcsOk = true → 64 ≤ f.length → f.length ≤ 1522 →
      s.vlanOk f = true → s.addrOk f = false →
    ∃ u : State, exec (.networkFrame port f t) s = .next u ∧
      u.rd (Reg.NET_RX_FRAMES port) = satInc 32 (s.rd (Reg.NET_RX_FRAMES port)) ∧ u.frc = (s.till t).frc ∧
      u.rd (Reg.NET_DROP_ADDR port) = satInc 32 (s.rd (Reg.NET_DROP_ADDR port)) ∧
      s.regsBut u [Reg.NET_RX_FRAMES port, (Reg.NET_DROP_ADDR port)] ∧ { u with regs := s.regs, frc := s.frc } = s) ∧
  (∀ (port : Fin 2) (f : NetFrame) (t : Nat) (s : State), f.fcsOk = true → 64 ≤ f.length → f.length ≤ 1522 →
      s.vlanOk f = true → s.addrOk f = true → s.frameClass f = none →
    ∃ u : State, exec (.networkFrame port f t) s = .next u ∧
      u.rd (Reg.NET_RX_FRAMES port) = satInc 32 (s.rd (Reg.NET_RX_FRAMES port)) ∧ u.frc = (s.till t).frc ∧
      u.rd (Reg.NET_DROP_TYPE port) = satInc 32 (s.rd (Reg.NET_DROP_TYPE port)) ∧
      s.regsBut u [Reg.NET_RX_FRAMES port, (Reg.NET_DROP_TYPE port)] ∧ { u with regs := s.regs, frc := s.frc } = s) ∧
  (∀ (port : Fin 2) (f : NetFrame) (t : Nat) (s : State), f.fcsOk = true → 64 ≤ f.length → f.length ≤ 1522 →
      s.vlanOk f = true → s.addrOk f = true → s.frameClass f = some 0 → s.ptpForeign f = true →
    ∃ u : State, exec (.networkFrame port f t) s = .next u ∧
      u.rd (Reg.NET_RX_FRAMES port) = satInc 32 (s.rd (Reg.NET_RX_FRAMES port)) ∧ u.frc = (s.till t).frc ∧
      u.rd Reg.TIME_PTP_DISCARD = satInc 32 (s.rd Reg.TIME_PTP_DISCARD) ∧
      s.regsBut u [Reg.NET_RX_FRAMES port, Reg.TIME_PTP_DISCARD] ∧ { u with regs := s.regs, frc := s.frc } = s) ∧
  (∀ (port : Fin 2) (f : NetFrame) (t : Nat) (s : State), f.fcsOk = true → 64 ≤ f.length → f.length ≤ 1522 →
      s.vlanOk f = true → s.addrOk f = true → s.frameClass f = some 0 → s.ptpForeign f = false →
      ((s.till t).police 0).2 = true → (smGet (fun _ => []) s.net.queues 0).length < 64 →
    ∃ u : State, exec (.networkFrame port f t) s = .next u ∧
      u.rd (Reg.NET_RX_FRAMES port) = satInc 32 (s.rd (Reg.NET_RX_FRAMES port)) ∧ u.frc = (s.till t).frc ∧
      smGet (fun _ => []) u.net.queues 0 = smGet (fun _ => []) s.net.queues 0 ++ [(port.val, f)] ∧
      s.regsBut u [Reg.NET_RX_FRAMES port] ∧ { u with regs := s.regs, frc := s.frc, net := s.net } = s) ∧
  (∀ (port : Fin 2) (f : NetFrame) (t : Nat) (s : State), f.fcsOk = true → 64 ≤ f.length → f.length ≤ 1522 →
      s.vlanOk f = true → s.addrOk f = true → s.frameClass f = some 0 → s.ptpForeign f = false →
      ((s.till t).police 0).2 = true → 64 ≤ (smGet (fun _ => []) s.net.queues 0).length →
    ∃ u : State, exec (.networkFrame port f t) s = .next u ∧
      u.rd (Reg.NET_RX_FRAMES port) = satInc 32 (s.rd (Reg.NET_RX_FRAMES port)) ∧ u.frc = (s.till t).frc ∧
      u.rdF Reg.PRP_DROP_QUEUE 7 0 = satInc 8 (s.rdF Reg.PRP_DROP_QUEUE 7 0) ∧
      s.regsBut u [Reg.NET_RX_FRAMES port, Reg.PRP_DROP_QUEUE] ∧
      { u with regs := s.regs, frc := s.frc, net := s.net } = s) ∧
  (∀ (port : Fin 2) (f : NetFrame) (t : Nat) (s : State), f.fcsOk = true → 64 ≤ f.length → f.length ≤ 1522 →
      s.vlanOk f = true → s.addrOk f = true → s.frameClass f = some 0 → s.ptpForeign f = false →
      ((s.till t).police 0).2 = false →
    ∃ u : State, exec (.networkFrame port f t) s = .next u ∧
      u.rd (Reg.NET_RX_FRAMES port) = satInc 32 (s.rd (Reg.NET_RX_FRAMES port)) ∧ u.frc = (s.till t).frc ∧
      u.rdF Reg.PRP_DROP_POLICE 7 0 = satInc 8 (s.rdF Reg.PRP_DROP_POLICE 7 0) ∧
      u.bit (Reg.INT_STATUS Reg.pagePRP) 8 = true ∧
      s.regsBut u [Reg.NET_RX_FRAMES port, Reg.PRP_DROP_POLICE, Reg.INT_STATUS Reg.pagePRP] ∧
      { u with regs := s.regs, frc := s.frc, net := s.net } = s) ∧
  (∀ (port : Fin 2) (f : NetFrame) (t : Nat) (s : State), f.fcsOk = true → 64 ≤ f.length → f.length ≤ 1522 →
      s.vlanOk f = true → s.addrOk f = true → s.frameClass f = some 1 →
      s.bit Reg.PRP_PRP_CFG 0 = false ∨ f.trailer = none → ((s.till t).police 1).2 = true →
      (smGet (fun _ => []) s.net.queues 1).length < 64 →
    ∃ u : State, exec (.networkFrame port f t) s = .next u ∧
      u.rd (Reg.NET_RX_FRAMES port) = satInc 32 (s.rd (Reg.NET_RX_FRAMES port)) ∧ u.frc = (s.till t).frc ∧
      smGet (fun _ => []) u.net.queues 1 = smGet (fun _ => []) s.net.queues 1 ++ [(port.val, f)] ∧
      s.regsBut u [Reg.NET_RX_FRAMES port] ∧ { u with regs := s.regs, frc := s.frc, net := s.net } = s) ∧
  (∀ (port : Fin 2) (f : NetFrame) (t : Nat) (lan seq : Nat) (e : NetNode) (s : State), f.fcsOk = true →
      64 ≤ f.length → f.length ≤ 1522 → s.vlanOk f = true → s.addrOk f = true → s.frameClass f = some 1 →
      s.bit Reg.PRP_PRP_CFG 0 = true → f.trailer = some (lan, seq) → lan = 0xA + port →
      s.net.nodes.find? (fun e => e.mac == f.src) = some e → seq ∈ e.seqs →
    ∃ u : State, exec (.networkFrame port f t) s = .next u ∧
      u.rd (Reg.NET_RX_FRAMES port) = satInc 32 (s.rd (Reg.NET_RX_FRAMES port)) ∧ u.frc = (s.till t).frc ∧
      u.rd Reg.PRP_DUP_DISCARD = satInc 32 (s.rd Reg.PRP_DUP_DISCARD) ∧ u.net.queues = s.net.queues ∧
      s.regsBut u [Reg.NET_RX_FRAMES port, Reg.PRP_DUP_DISCARD, Reg.PRP_NODE_COUNT] ∧
      { u with regs := s.regs, frc := s.frc, net := s.net } = s) ∧
  (∀ (port : Fin 2) (mac t : Nat) (s : State), s.bit Reg.PRP_PRP_CFG 0 = false →
    exec (.supervisionFrame port mac t) s = .next (s.till t)) ∧
  (∀ (port : Fin 2) (mac t : Nat) (s : State), s.bit Reg.PRP_PRP_CFG 0 = true →
      s.net.nodes.find? (fun e => e.mac == mac) = none → s.net.nodes.length < 64 →
    ∃ u : State, exec (.supervisionFrame port mac t) s = .next u ∧
      u.frc = (s.till t).frc ∧
      u.net = { s.net with nodes := s.net.nodes ++ [{ mac := mac, last := (s.till t).frc, seqs := [] }] } ∧
      u.rd Reg.PRP_NODE_COUNT = s.net.nodes.length + 1 ∧ s.regsBut u [Reg.PRP_NODE_COUNT] ∧
      { u with regs := s.regs, net := s.net, frc := s.frc } = s) ∧
  (∀ (port : Fin 2) (mac t : Nat) (s : State), s.bit Reg.PRP_PRP_CFG 0 = true →
      s.net.nodes.find? (fun e => e.mac == mac) = none → 64 ≤ s.net.nodes.length →
    ∃ u : State, exec (.supervisionFrame port mac t) s = .next u ∧
      u.frc = (s.till t).frc ∧ u.bit (Reg.INT_STATUS Reg.pagePRP) 10 = true ∧
      s.regsBut u [Reg.INT_STATUS Reg.pagePRP] ∧ { u with regs := s.regs, frc := s.frc } = s) ∧
  (∀ (mac t : Nat) (s : State), s.net.nodes.length < 128 →
    ∃ u : State, exec (.entryForget mac t) s = .next u ∧
      u.frc = (s.till t).frc ∧
      u.net =
        { s.net with nodes := s.net.nodes.filter (fun e => !(e.mac == mac && decide (msClk (s.rdF Reg.PRP_PRP_CFG 31 16) ≤ (s.till t).frc - e.last))) } ∧
      u.rd Reg.PRP_NODE_COUNT = u.net.nodes.length ∧ s.regsBut u [Reg.PRP_NODE_COUNT] ∧
      { u with regs := s.regs, net := s.net, frc := s.frc } = s) ∧
  (∀ s : State, s.bit Reg.PRP_PRP_CFG 0 = true → s.bit Reg.PRP_PRP_CFG 1 = true →
      (∀ p ∈ List.range 2, s.bit (Reg.NET_PORT_STATUS p) 0 = true) →
      (∀ p ∈ List.range 2, s.bit (Reg.NET_PORT_CFG p) 2 = false) →
    ∃ u : State, exec (.lifeCheck) s = .next u ∧
      u.out = s.out ++ [Out.net 0 s.netTag 0x88FB [s.nodeMac, s.net.seq, 0xA], Out.net 1 s.netTag 0x88FB [s.nodeMac,
        s.net.seq, 0xB]] ∧ u.net = { s.net with seq := (s.net.seq + 1) % 65536 } ∧
      (∀ p ∈ List.range 2, u.rd (Reg.NET_TX_FRAMES p) = satInc 32 (s.rd (Reg.NET_TX_FRAMES p))) ∧
      s.regsBut u [Reg.NET_TX_FRAMES 0, Reg.NET_TX_FRAMES 1] ∧
      { u with regs := s.regs, net := s.net, out := s.out } = s) ∧
  (∀ s : State, s.bit Reg.PRP_PRP_CFG 1 = false →
    exec (.lifeCheck) s = .next s) ∧
  (∀ s : State, s.mac Reg.PRP_REPORT_MAC_LO Reg.PRP_REPORT_MAC_HI = 0 →
    exec (.netReport) s = .next s) ∧
  (∀ s : State, s.mac Reg.PRP_REPORT_MAC_LO Reg.PRP_REPORT_MAC_HI ≠ 0 → s.bit Reg.PRP_PRP_CFG 0 = false →
      (∀ p ∈ List.range 2, s.bit (Reg.NET_PORT_STATUS p) 0 = true) →
      (∀ p ∈ List.range 2, s.bit (Reg.NET_PORT_CFG p) 2 = false) →
    ∃ u : State, exec (.netReport) s = .next u ∧
      u.out = s.out ++ [0,
        1].map (fun p => Out.net p s.netTag (s.rdF Reg.PRP_REPORT_MAC_HI 31 16) (s.mac Reg.PRP_REPORT_MAC_LO Reg.PRP_REPORT_MAC_HI :: (leBytes 4 0x2001 ++
        leBytes 4 (s.rd Reg.SYS_SERIAL_LO) ++ leBytes 4 (s.rd Reg.SYS_SERIAL_HI) ++
        leBytes 4 (s.rd Reg.LINE_SPEED_ADVICE) ++ leBytes 4 (s.rd Reg.LINE_CURRENT_LINE) ++ leBytes 8 s.nowNs ++
        leBytes 4 (s.rdF Reg.SYS_MODULE_STATE 7 0 + s.servoSt * 256)).map (·.toNat))) ∧
      s.regsBut u [Reg.NET_TX_FRAMES 0, Reg.NET_TX_FRAMES 1] ∧ { u with regs := s.regs, out := s.out } = s) ∧
  (∀ (port : Fin 2) (speed : Nat) (s : State), speed % 2 ≠ s.rdF (Reg.NET_PORT_CFG port) 0 0 →
    exec (.networkLinkChange port true speed) s = .next s) ∧
  (∀ (port : Fin 2) (speed : Nat) (s : State), speed % 2 = s.rdF (Reg.NET_PORT_CFG port) 0 0 →
    ∃ u : State, exec (.networkLinkChange port true speed) s = .next u ∧
      u.bit (Reg.NET_PORT_STATUS port) 0 = true ∧ u.bit (Reg.NET_PORT_STATUS port) 4 = (speed % 2 == 1) ∧
      u.rd (Reg.NET_INT_LAT port) = (if speed % 2 = 1 then 0x08700460 else 0x01E00150) ∧
      u.stCode (Reg.pageNET port) = 1 ∧ u.bit (Reg.STATUS (Reg.pageNET port)) 0 = true ∧
      u.bit (Reg.INT_STATUS (Reg.pageNET port)) 8 = true ∧
      s.regsBut u [Reg.NET_PORT_STATUS port, Reg.STATUS (Reg.pageNET port), Reg.INT_STATUS (Reg.pageNET port),
        Reg.NET_INT_LAT port] ∧ { u with regs := s.regs } = s) ∧
  (∀ (port : Fin 2) (speed : Nat) (s : State), s.bit (Reg.NET_PORT_STATUS port) 0 = true →
    ∃ u : State, exec (.networkLinkChange port false speed) s = .next u ∧
      u.bit (Reg.NET_PORT_STATUS port) 0 = false ∧ u.stCode (Reg.pageNET port) = 0 ∧
      u.bit (Reg.STATUS (Reg.pageNET port)) 0 = false ∧ u.bit (Reg.INT_STATUS (Reg.pageNET port)) 9 = true ∧
      u.rd (Reg.NET_LINK_DOWN_COUNT port) = satInc 32 (s.rd (Reg.NET_LINK_DOWN_COUNT port)) ∧
      s.regsBut u [Reg.NET_PORT_STATUS port, Reg.STATUS (Reg.pageNET port), Reg.INT_STATUS (Reg.pageNET port),
        Reg.NET_LINK_DOWN_COUNT port] ∧ { u with regs := s.regs } = s) ∧
  (∀ (port : Fin 2) (speed : Nat) (s : State), s.bit (Reg.NET_PORT_STATUS port) 0 = false →
    exec (.networkLinkChange port false speed) s = .next s) ∧
  (∀ (port : Fin 2) (present los txFault : Bool) (s : State),
      s.rdF (Reg.NET_PORT_STATUS port) 3 1 ≠ b2n present + b2n los * 2 + b2n txFault * 4 →
    ∃ u : State, exec (.sfpChange port present los txFault) s = .next u ∧
      u.rdF (Reg.NET_PORT_STATUS port) 3 1 = b2n present + b2n los * 2 + b2n txFault * 4 ∧
      u.bit (Reg.NET_PORT_STATUS port) 0 = s.bit (Reg.NET_PORT_STATUS port) 0 ∧
      u.bit (Reg.INT_STATUS (Reg.pageNET port)) 10 = true ∧
      s.regsBut u [Reg.NET_PORT_STATUS port, Reg.INT_STATUS (Reg.pageNET port)] ∧ { u with regs := s.regs } = s)

/-- PTP messages on the two LANs. A two-step Sync waits for its Follow_Up; a Sync or a Follow_Up gives an offset
sample once the port has a grandmaster and a delay; Delay_Req is sent where one is selected, and its answer
gives a delay sample, as a peer-to-peer exchange does; an Announce selects the better data set, and its timeout
none. Spec: 12_time_network.md. -/
def Obligations.PtpMessages : Prop :=
  (∀ (port : Fin 2) (m : PtpMsg) (s : State), m.twoStep = true →
    ∃ u : State, exec (.ptpSync port m) s = .next u ∧
      u.frc = (s.till m.frc).frc ∧ u.netPort port = { s.netPort port with sync := some (m.seq, m.frc, m.corr) } ∧
      u.netPort (1 - port) = s.netPort (1 - port) ∧ { u with net := s.net, frc := s.frc } = s) ∧
  (∀ (port : Fin 2) (m : PtpMsg) (s : State), m.twoStep = false → (s.netPort port).best = none →
    exec (.ptpSync port m) s = .next (s.till m.frc)) ∧
  (∀ (port : Fin 2) (m : PtpMsg) (s : State), m.twoStep = false → (s.netPort port).best.isSome = true →
      (s.netPort port).delays = [] →
    ∃ u : State, exec (.ptpSync port m) s = .next u ∧
      u.frc = (s.till m.frc).frc ∧
      u.netPort port = { s.netPort port with last := some ((m.time : Int) + m.corr, m.frc) } ∧
      { u with net := s.net, frc := s.frc } = s) ∧
  (∀ (port : Fin 2) (m : PtpMsg) (d : Int) (s : State), m.twoStep = false → (s.netPort port).best.isSome = true →
      (s.netPort port).delay = some d → s.servoSt = 0 → (s.netPort port).samples < 3 →
    ∃ u : State, exec (.ptpSync port m) s = .next u ∧
      u.frc = (s.till m.frc).frc ∧ (u.netPort port).samples = (s.netPort port).samples + 1 ∧
      (u.netPort port).last = some ((m.time : Int) + m.corr, m.frc) ∧ (u.netPort port).off.isSome = true ∧
      s.regsBut u [Reg.NET_PTP_OFFSET port] ∧ { u with regs := s.regs, net := s.net, frc := s.frc } = s) ∧
  (∀ (port : Fin 2) (m : PtpMsg) (s : State), (s.netPort port).sync = none →
    exec (.followUp port m) s = .next s) ∧
  (∀ (port : Fin 2) (m : PtpMsg) (n g : Nat) (c : Int) (s : State), (s.netPort port).sync = some (n, g, c) →
      n = m.seq → (s.netPort port).best.isSome = true → (s.netPort port).delays = [] →
    ∃ u : State, exec (.followUp port m) s = .next u ∧
      u.netPort port = { s.netPort port with sync := none, last := some ((m.time : Int) + m.corr + c, g) } ∧
      { u with net := s.net } = s) ∧
  (∀ (port : Fin 2) (t : Nat) (s : State), s.p2p = false → (s.netPort port).best = none →
    exec (.delayReq port t) s = .next (s.till t)) ∧
  (∀ (port : Fin 2) (t : Nat) (s : State), s.p2p = false →
      s.bit Reg.PRP_PTP_TRANSPORT 0 = false ∨ s.bit Reg.PRP_PTP_TRANSPORT 1 = true →
      (s.netPort port).best.isSome = true → s.bit Reg.TIME_TIME_CFG 13 = true →
      s.bit (Reg.NET_PORT_STATUS port) 0 = true → s.bit (Reg.NET_PORT_CFG port) 2 = false →
    ∃ u : State, exec (.delayReq port t) s = .next u ∧
      u.frc = (s.till t).frc ∧
      u.netPort port = { s.netPort port with req := some (((s.netPort port).reqSeq + 1) % 65536, t), reqSeq := ((s.netPort port).reqSeq + 1) % 65536, resp := none } ∧
      u.out = s.out ++ [Out.net port s.netTag 0x88F7 [1, ((s.netPort port).reqSeq + 1) % 65536, 0, 0]] ∧
      s.regsBut u [Reg.NET_TX_FRAMES port] ∧ { u with regs := s.regs, net := s.net, frc := s.frc, out := s.out } = s) ∧
  (∀ (port type seq : Nat) (time corr : Int) (s : State), s.bit (Reg.NET_PORT_STATUS port) 0 = true →
      s.bit (Reg.NET_PORT_CFG port) 2 = false → s.bit Reg.PRP_PTP_TRANSPORT 0 = true →
      s.bit Reg.PRP_PTP_TRANSPORT 1 = false →
    ∃ u : State, s.ptpSend port type seq time corr = u ∧
      u.out = s.out ++ [Out.net port s.netTag 0x0800 [s.rd Reg.PRP_NODE_IP, if type = 1 then 0xE0000181 else
        0xE000006B, if type < 8 then 319 else 320, 0, type, seq, unsgn 80 time, unsgn 64 corr]] ∧
      u.rd (Reg.NET_TX_FRAMES port) = satInc 32 (s.rd (Reg.NET_TX_FRAMES port)) ∧
      s.regsBut u [Reg.NET_TX_FRAMES port] ∧ { u with regs := s.regs, out := s.out } = s) ∧
  (∀ (port type seq : Nat) (time corr : Int) (s : State), s.bit (Reg.NET_PORT_STATUS port) 0 = true →
      s.bit (Reg.NET_PORT_CFG port) 2 = false →
      s.bit Reg.PRP_PTP_TRANSPORT 0 = false ∨ s.bit Reg.PRP_PTP_TRANSPORT 1 = true →
    ∃ u : State, s.ptpSend port type seq time corr = u ∧
      u.out = s.out ++ [Out.net port s.netTag 0x88F7 [type, seq, unsgn 80 time, unsgn 64 corr]] ∧
      s.regsBut u [Reg.NET_TX_FRAMES port] ∧ { u with regs := s.regs, out := s.out } = s) ∧
  (∀ (port : Fin 2) (m : PtpMsg) (s : State), (s.netPort port).req = none →
    exec (.delayResp port m) s = .next s) ∧
  (∀ (port : Fin 2) (m : PtpMsg) (n f3 f2 : Nat) (t1 : Int) (s : State), (s.netPort port).req = some (n, f3) →
      (s.netPort port).last = some (t1, f2) → s.p2p = false → m.forMe = true → n = m.seq → (s.netPort port).delays = [] →
      s.servoSt = 0 →
    ∃ u : State, exec (.delayResp port m) s = .next u ∧
      (u.netPort port).delays =
        [((m.time : Int) - m.corr - t1 - (s.elapsed f2 f3 + s.txLat port + s.rxLat port)).fdiv 2] ∧
      (u.netPort port).req = none ∧
      s.regsBut u [Reg.TIME_SERVO_STATUS, Reg.NET_PTP_STATUS 0, Reg.NET_PTP_STATUS 1, Reg.NET_PTP_DELAY 0,
        Reg.NET_PTP_DELAY 1] ∧ { u with regs := s.regs, net := s.net } = s) ∧
  (∀ (port : Fin 2) (m : PtpMsg) (t : Nat) (s : State), s.p2p = false →
    exec (.pdelayReq port m t) s = .next (s.till t)) ∧
  (∀ (port : Fin 2) (m : PtpMsg) (t : Nat) (s : State), s.p2p = true →
      s.bit Reg.PRP_PTP_TRANSPORT 0 = false ∨ s.bit Reg.PRP_PTP_TRANSPORT 1 = true → s.bit Reg.TIME_TIME_CFG 13 = true →
      s.bit (Reg.NET_PORT_STATUS port) 0 = true → s.bit (Reg.NET_PORT_CFG port) 2 = false →
    ∃ u : State, exec (.pdelayReq port m t) s = .next u ∧
      u.frc = (s.till t).frc ∧
      u.out = s.out ++ [Out.net port s.netTag 0x88F7 [3, m.seq,
        unsgn 80 ((((s.till t).timeOf m.frc).1 : Int) - s.rxLat port), unsgn 64 m.corr],
        Out.net port s.netTag 0x88F7 [10, m.seq, unsgn 80 ((((s.till t).timeOf t).1 : Int) + s.txLat port), 0]] ∧
      s.regsBut u [Reg.NET_TX_FRAMES port] ∧ { u with regs := s.regs, frc := s.frc, out := s.out } = s) ∧
  (∀ (port : Fin 2) (m : PtpMsg) (s : State), (s.netPort port).req = none →
    exec (.pdelayResp port m) s = .next (s.till m.frc)) ∧
  (∀ (port : Fin 2) (m : PtpMsg) (n f1 : Nat) (s : State), (s.netPort port).req = some (n, f1) → s.p2p = true →
      m.forMe = true → n = m.seq → m.twoStep = true →
    ∃ u : State, exec (.pdelayResp port m) s = .next u ∧
      u.frc = (s.till m.frc).frc ∧
      u.netPort port = { s.netPort port with resp := some (n, (m.time : Int) - m.corr, m.frc) } ∧
      { u with net := s.net, frc := s.frc } = s) ∧
  (∀ (port : Fin 2) (m : PtpMsg) (n f1 : Nat) (s : State), (s.netPort port).req = some (n, f1) → s.p2p = true →
      m.forMe = true → n = m.seq → m.twoStep = false → (s.netPort port).delays = [] → s.servoSt = 0 →
    ∃ u : State, exec (.pdelayResp port m) s = .next u ∧
      u.frc = (s.till m.frc).frc ∧
      (u.netPort port).delays = [(s.elapsed f1 m.frc - s.txLat port - s.rxLat port - m.corr).fdiv 2] ∧
      (u.netPort port).req = none ∧
      s.regsBut u [Reg.TIME_SERVO_STATUS, Reg.NET_PTP_STATUS 0, Reg.NET_PTP_STATUS 1, Reg.NET_PTP_DELAY 0,
        Reg.NET_PTP_DELAY 1] ∧ { u with regs := s.regs, net := s.net, frc := s.frc } = s) ∧
  (∀ (port : Fin 2) (m : PtpMsg) (s : State), (s.netPort port).resp = none →
    exec (.pdelayRespFollowUp port m) s = .next s) ∧
  (∀ (port : Fin 2) (m : PtpMsg) (n f1 : Nat) (f4 : Nat) (t2 : Int) (s : State), (s.netPort port).req = some (n, f1) →
      (s.netPort port).resp = some (n, t2, f4) → s.p2p = true → m.forMe = true → n = m.seq →
      (s.netPort port).delays = [] → s.servoSt = 0 →
    ∃ u : State, exec (.pdelayRespFollowUp port m) s = .next u ∧
      (u.netPort port).delays =
        [(s.elapsed f1 f4 - s.txLat port - s.rxLat port - ((m.time : Int) + m.corr - t2)).fdiv 2] ∧
      ((u.netPort port).req, (u.netPort port).resp) = (none, none) ∧
      s.regsBut u [Reg.TIME_SERVO_STATUS, Reg.NET_PTP_STATUS 0, Reg.NET_PTP_STATUS 1, Reg.NET_PTP_DELAY 0,
        Reg.NET_PTP_DELAY 1] ∧ { u with regs := s.regs, net := s.net } = s) ∧
  (∀ (port : Fin 2) (m : PtpMsg) (s : State), (s.netPort port).best = none →
    ∃ u : State, exec (.ptpAnnounce port m) s = .next u ∧
      u.frc = (s.till m.frc).frc ∧ (u.netPort port).best = some m.data ∧
      s.pagesBut u [Reg.pageTIME, Reg.pageTALLY, Reg.pageNET 0, Reg.pageNET 1] ∧
      { u with regs := s.regs, net := s.net, frc := s.frc, mgmt := s.mgmt } = s) ∧
  (∀ (port : Fin 2) (m : PtpMsg) (b : List Nat) (s : State), (s.netPort port).best = some b →
      b.getD 7 0 ≠ m.data.getD 7 0 → keyBefore m.data b = false →
    exec (.ptpAnnounce port m) s = .next (s.till m.frc)) ∧
  (∀ (port : Fin 2) (m : PtpMsg) (b : List Nat) (s : State), (s.netPort port).best = some b →
      keyBefore m.data b = true →
    ∃ u : State, exec (.ptpAnnounce port m) s = .next u ∧
      u.frc = (s.till m.frc).frc ∧ (u.netPort port).best = some m.data ∧
      s.pagesBut u [Reg.pageTIME, Reg.pageTALLY, Reg.pageNET 0, Reg.pageNET 1] ∧
      { u with regs := s.regs, net := s.net, frc := s.frc, mgmt := s.mgmt } = s) ∧
  (∀ (port : Fin 2) (s : State),
    ∃ u : State, exec (.announceTimeout port) s = .next u ∧
      (u.netPort port).best = none ∧ (u.netPort (1 - port)).best = (s.netPort (1 - port)).best ∧
      s.pagesBut u [Reg.pageTIME, Reg.pageTALLY, Reg.pageNET 0, Reg.pageNET 1] ∧
      { u with regs := s.regs, net := s.net, mgmt := s.mgmt } = s)

/-- The servo and its holdover. Where Crew0 runs, a disciplined servo enters HOLDOVER when it is forced or when no
LAN in use has a sample; ACCEPT_PATH, and in VERIFY 32 s of agreement, lead back to LOCKED; a dropped LAN is
admitted again after 32 s of agreement; a holdover longer than its bound is flagged. Spec: 12_time_network.md. -/
def Obligations.ServoStates : Prop :=
  (∀ (src : Req) (s : State), s.cutOff src = false → s.crewRuns 0 = true → s.disciplined = true →
    ∃ u : State, exec (.forceHoldover src) s = .next u ∧
      u.servoSt = 3 ∧ u.net.holdFrc = s.frc ∧
      (∀ p ∈ List.range 2, smGet (fun _ => none) u.net.heldDelay p = (s.netPort p).delay) ∧
      (∀ p ∈ List.range 2, (u.netPort p).off = none) ∧ u.bit (Reg.INT_STATUS Reg.pageTIME) 8 = true ∧
      u.bit Reg.TIME_SERVO_STATUS 6 = false ∧
      s.regsBut u ([Reg.TIME_SERVO_STATUS, Reg.STATUS Reg.pageTIME, Reg.INT_STATUS Reg.pageTIME,
        Reg.NET_PTP_STATUS 0, Reg.NET_PTP_STATUS 1, Reg.NET_PTP_DELAY 0, Reg.NET_PTP_DELAY 1] ++ tallyKeys) ∧
      { u with regs := s.regs, net := s.net, mgmt := s.mgmt } = s) ∧
  (∀ (src : Req) (s : State), s.cutOff src = false → s.crewRuns 0 = false ∨ s.disciplined = false →
    exec (.forceHoldover src) s = .next s) ∧
  (∀ (src : Req) (s : State), s.cutOff src = false → s.crewRuns 0 = true → s.servoSt = 3 ∨ s.servoSt = 4 →
    ∃ u : State, exec (.acceptPath src) s = .next u ∧
      u.servoSt = 2 ∧ u.asymSuspect = false ∧ u.net.everLocked = true ∧ (u.net.heldDelay, u.net.agree) = ([], none) ∧
      s.regsBut u ([Reg.TIME_SERVO_STATUS, Reg.STATUS Reg.pageTIME, Reg.INT_STATUS Reg.pageTIME,
        Reg.NET_PTP_STATUS 0, Reg.NET_PTP_STATUS 1, Reg.NET_PTP_DELAY 0, Reg.NET_PTP_DELAY 1] ++ tallyKeys) ∧
      { u with regs := s.regs, net := s.net, mgmt := s.mgmt } = s) ∧
  (∀ (src : Req) (s : State), s.cutOff src = false → s.servoSt ≠ 3 → s.servoSt ≠ 4 →
    exec (.acceptPath src) s = .next s) ∧
  (∀ (t a : Nat) (s : State), s.crewRuns 0 = true → s.servoSt = 4 → s.net.agree = some a →
      32 * 800000000 ≤ (s.till t).frc - a →
    ∃ u : State, exec (.verifyComplete t) s = .next u ∧
      u.frc = (s.till t).frc ∧ u.servoSt = 2 ∧ u.asymSuspect = false ∧ (u.net.dropped, u.net.agree) = ([], none) ∧
      s.regsBut u ([Reg.TIME_SERVO_STATUS, Reg.STATUS Reg.pageTIME, Reg.INT_STATUS Reg.pageTIME,
        Reg.NET_PTP_STATUS 0, Reg.NET_PTP_STATUS 1, Reg.NET_PTP_DELAY 0, Reg.NET_PTP_DELAY 1] ++ tallyKeys) ∧
      { u with regs := s.regs, net := s.net, mgmt := s.mgmt, frc := s.frc } = s) ∧
  (∀ (t : Nat) (s : State), s.servoSt ≠ 4 →
    exec (.verifyComplete t) s = .next (s.till t)) ∧
  (∀ (port : Fin 2) (t : Nat) (a : Nat) (s : State), s.crewRuns 0 = true → port.val ∈ s.net.dropped →
      s.net.agree = some a → 32 * 800000000 ≤ (s.till t).frc - a →
    ∃ u : State, exec (.lanReadmitted port t) s = .next u ∧
      u.frc = (s.till t).frc ∧ u.net = { s.net with dropped := s.net.dropped.filter (· != port.val), agree := none } ∧
      u.bit (Reg.INT_STATUS Reg.pageTIME) 11 = true ∧
      s.regsBut u [Reg.TIME_SERVO_STATUS, Reg.INT_STATUS Reg.pageTIME, Reg.NET_PTP_STATUS 0, Reg.NET_PTP_STATUS 1,
        Reg.NET_PTP_DELAY 0, Reg.NET_PTP_DELAY 1] ∧ { u with regs := s.regs, net := s.net, frc := s.frc } = s) ∧
  (∀ (port : Fin 2) (t : Nat) (s : State), port.val ∉ s.net.dropped →
    exec (.lanReadmitted port t) s = .next (s.till t)) ∧
  (∀ (t : Nat) (s : State), s.servoSt = 3 ∨ s.servoSt = 4 →
      s.rdF Reg.TIME_HOLDOVER_MAX 15 0 * 800000000 < (s.till t).frc - s.net.holdFrc →
    ∃ u : State, exec (.holdoverExpired t) s = .next u ∧
      u.frc = (s.till t).frc ∧ u.bit Reg.TIME_SERVO_STATUS 6 = true ∧ u.bit (Reg.INT_STATUS Reg.pageTIME) 13 = true ∧
      s.regsBut u [Reg.TIME_SERVO_STATUS, Reg.INT_STATUS Reg.pageTIME] ∧ { u with regs := s.regs, frc := s.frc } = s) ∧
  (∀ (t : Nat) (s : State), s.servoSt ≠ 3 → s.servoSt ≠ 4 →
    exec (.holdoverExpired t) s = .next (s.till t)) ∧
  (∀ (port : Fin 2) (t : Nat) (s : State), s.crewRuns 0 = true → s.servoSt = 2 → (s.netPort (1 - port)).off = none →
    ∃ u : State, exec (.syncTimeout port t) s = .next u ∧
      u.frc = (s.till t).frc ∧ u.servoSt = 3 ∧ (u.netPort port).samples = 0 ∧ (u.netPort port).off = none ∧
      s.regsBut u ([Reg.TIME_SERVO_STATUS, Reg.STATUS Reg.pageTIME, Reg.INT_STATUS Reg.pageTIME,
        Reg.NET_PTP_STATUS 0, Reg.NET_PTP_STATUS 1, Reg.NET_PTP_DELAY 0, Reg.NET_PTP_DELAY 1] ++ tallyKeys) ∧
      { u with regs := s.regs, net := s.net, mgmt := s.mgmt, frc := s.frc } = s) ∧
  (∀ (port : Fin 2) (t : Nat) (s : State), s.crewRuns 0 = true → s.servoSt = 4 →
    ∃ u : State, exec (.syncTimeout port t) s = .next u ∧
      u.frc = (s.till t).frc ∧ u.servoSt = 3 ∧ u.net.agree = none ∧ (u.netPort port).samples = 0 ∧
      s.regsBut u ([Reg.TIME_SERVO_STATUS, Reg.STATUS Reg.pageTIME, Reg.INT_STATUS Reg.pageTIME,
        Reg.NET_PTP_STATUS 0, Reg.NET_PTP_STATUS 1, Reg.NET_PTP_DELAY 0, Reg.NET_PTP_DELAY 1] ++ tallyKeys) ∧
      { u with regs := s.regs, net := s.net, mgmt := s.mgmt, frc := s.frc } = s) ∧
  (∀ (port : Fin 2) (t : Nat) (s : State), s.servoSt = 0 ∨ s.servoSt = 3 →
    ∃ u : State, exec (.syncTimeout port t) s = .next u ∧
      u.frc = (s.till t).frc ∧ u.netPort port = { s.netPort port with off := none, samples := 0 } ∧
      { u with net := s.net, frc := s.frc } = s)

/-- Block lock of a head lane, a camera lane and a peer lane. A head lane in LOCK that gains block lock shows and
counts it; the blocks that follow are descrambled but the first, invalid headers are counted, and 32 valid IDLE
blocks in a row lead to EXCHANGE and HELLO. One that loses lock counts the loss and its invalid headers, and an
ACTIVE lane retrains. A camera lane of a port in LOCK or beyond and a lane of an enabled peer port show theirs;
invalid headers of a camera lane are counted, a lane of a port that is UP that loses lock takes the link down; a
port that hunts awaits ALIGN, and a peer lane counts its losses and headers. Spec: 06_head_link_lanes.md,
08_camera_pipeline.md, 11_pair_and_ring.md. -/
def Obligations.BlockLocks : Prop :=
  (∀ (c : Fin 128) (blocks : List (Nat × Nat)) (s : State), s.laneSt c = 3 → s.bit (Reg.CH_LINK_STATUS c) 6 = false →
      32 ≤ idleRun 0 (decodeBlocks none blocks).2 →
    ∃ u : State, exec (.blockLockGained (.head c) blocks) s = .next u ∧
      u.laneSt c = 4 ∧ u.bit (Reg.CH_LINK_STATUS c) 6 = true ∧
      u.rd (Reg.CH_LOCK_COUNT c) = satInc 32 (s.rd (Reg.CH_LOCK_COUNT c)) ∧
      u.rd (Reg.CH_HEADER_ERR_COUNT c) =
        satAdd 32 (s.rd (Reg.CH_HEADER_ERR_COUNT c)) (blocks.filter (fun b => !headerOk b.1)).length ∧
      u.out = s.out ++ [Out.frame c (s.moduleHello c false), s.coded c false (withHeaders (s.moduleHello c false))] ∧
      s.regsBut u (laneKeys c ++ [Reg.CH_LOCK_COUNT c, Reg.CH_HEADER_ERR_COUNT c] ++ moduleKeys) ∧
      { u with regs := s.regs, lanes := s.lanes, out := s.out, mgmt := s.mgmt } = s) ∧
  (∀ (c : Fin 128) (blocks : List (Nat × Nat)) (s : State), s.laneSt c = 3 → s.bit (Reg.CH_LINK_STATUS c) 6 = false →
      idleRun 0 (decodeBlocks none blocks).2 < 32 →
    ∃ u : State, exec (.blockLockGained (.head c) blocks) s = .next u ∧
      u.laneSt c = 3 ∧ u.bit (Reg.CH_LINK_STATUS c) 6 = true ∧
      u.rd (Reg.CH_LOCK_COUNT c) = satInc 32 (s.rd (Reg.CH_LOCK_COUNT c)) ∧
      u.rd (Reg.CH_HEADER_ERR_COUNT c) =
        satAdd 32 (s.rd (Reg.CH_HEADER_ERR_COUNT c)) (blocks.filter (fun b => !headerOk b.1)).length ∧
      (u.lane c).idles = idleRun 0 (decodeBlocks none blocks).2 ∧ (u.lane c).rxScr = (decodeBlocks none blocks).1 ∧
      s.regsBut u (laneKeys c ++ [Reg.CH_LOCK_COUNT c, Reg.CH_HEADER_ERR_COUNT c] ++ moduleKeys) ∧
      { u with regs := s.regs, lanes := s.lanes } = s) ∧
  (∀ (c : Fin 128) (blocks : List (Nat × Nat)) (s : State), s.laneSt c = 3 → s.bit (Reg.CH_LINK_STATUS c) 6 = true →
      32 ≤ idleRun (s.lane c).idles (decodeBlocks (s.lane c).rxScr blocks).2 →
    ∃ u : State, exec (.blockLockGained (.head c) blocks) s = .next u ∧
      u.laneSt c = 4 ∧ u.bit (Reg.CH_LINK_STATUS c) 6 = true ∧
      u.rd (Reg.CH_HEADER_ERR_COUNT c) =
        satAdd 32 (s.rd (Reg.CH_HEADER_ERR_COUNT c)) (blocks.filter (fun b => !headerOk b.1)).length ∧
      u.out = s.out ++ [Out.frame c (s.moduleHello c false), s.coded c false (withHeaders (s.moduleHello c false))] ∧
      s.regsBut u (laneKeys c ++ [Reg.CH_HEADER_ERR_COUNT c] ++ moduleKeys) ∧
      { u with regs := s.regs, lanes := s.lanes, out := s.out, mgmt := s.mgmt } = s) ∧
  (∀ (c : Fin 128) (blocks : List (Nat × Nat)) (s : State), s.laneSt c ≠ 3 →
    exec (.blockLockGained (.head c) blocks) s = .next s) ∧
  (∀ (c : Fin 128) (errs t : Nat) (s : State), s.bit (Reg.CH_LINK_STATUS c) 6 = true → s.laneSt c = 5 →
    ∃ u : State, exec (.blockLockLost (.head c) errs t) s = .next u ∧
      u.frc = (s.till t).frc ∧ u.rd (Reg.CH_HEADER_ERR_COUNT c) = satAdd 32 (s.rd (Reg.CH_HEADER_ERR_COUNT c)) errs ∧
      u.laneSt c = 6 ∧ u.bit (Reg.CH_LINK_STATUS c) 6 = false ∧
      u.rd (Reg.CH_LOCK_LOSS_COUNT c) = satInc 32 (s.rd (Reg.CH_LOCK_LOSS_COUNT c)) ∧
      s.pagesBut u [Reg.pageCH c, Reg.pageSYS, Reg.pageTALLY, Reg.pagePAIR] ∧
      { u with regs := s.regs, lanes := s.lanes, out := s.out, mgmt := s.mgmt, frc := s.frc, line := s.line, pair := s.pair, scr := s.scr, ring := s.ring } =
        s) ∧
  (∀ (c : Fin 128) (errs t : Nat) (s : State), s.bit (Reg.CH_LINK_STATUS c) 6 = false →
    exec (.blockLockLost (.head c) errs t) s = .next (s.till t)) ∧
  (∀ (p : Fin 2) (lane : Fin 4) (s : State), 2 < s.camSt p → s.camSt p ≠ 5 →
      (s.camPort p).locked.contains lane.val = false →
    ∃ u : State, exec (.blockLockGained (.cam p lane) []) s = .next u ∧
      u.bit (Reg.CAM_LANE_STATUS p) lane = true ∧ (u.camPort p).locked = lane.val :: (s.camPort p).locked ∧
      s.regsBut u [Reg.CAM_LANE_STATUS p] ∧ { u with regs := s.regs, cam := s.cam } = s) ∧
  (∀ (p : Fin 2) (lane : Fin 4) (s : State), s.camSt p < 2 ∨ s.camSt p = 5 →
    exec (.blockLockGained (.cam p lane) []) s = .next s) ∧
  (∀ (p : Fin 2) (lane : Fin 4) (s : State), s.camSt p = 2 → (s.camPort p).locked.contains lane.val = false →
      (s.camPort p).locked.length = 3 →
    ∃ u : State, exec (.blockLockGained (.cam p lane) []) s = .next u ∧
      u.bit (Reg.CAM_LANE_STATUS p) lane = true ∧ u.camSt p = 3 ∧ s.pagesBut u [Reg.pageCAM p] ∧
      { u with regs := s.regs, cam := s.cam } = s) ∧
  (∀ (p : Fin 2) (lane : Fin 4) (errs t : Nat) (s : State), (s.camPort p).locked.contains lane.val = false →
    exec (.blockLockLost (.cam p lane) errs t) s = .next (s.till t)) ∧
  (∀ (p : Fin 2) (lane : Fin 4) (errs t : Nat) (s : State), s.camSt p ≠ 4 →
      (s.camPort p).locked.contains lane.val = true →
    ∃ u : State, exec (.blockLockLost (.cam p lane) errs t) s = .next u ∧
      u.frc = (s.till t).frc ∧ u.rd (Reg.CAM_LINK_ERR_COUNT p) = satAdd 32 (s.rd (Reg.CAM_LINK_ERR_COUNT p)) errs ∧
      u.bit (Reg.CAM_LANE_STATUS p) lane = false ∧
      (u.camPort p).locked = (s.camPort p).locked.filter (· != lane.val) ∧
      s.regsBut u [Reg.CAM_LANE_STATUS p, Reg.CAM_LINK_ERR_COUNT p] ∧
      { u with regs := s.regs, cam := s.cam, frc := s.frc } = s) ∧
  (∀ (p : Fin 2) (lane : Fin 4) (errs t : Nat) (s : State), s.camSt p = 4 →
      (s.camPort p).locked.contains lane.val = true →
    ∃ u : State, exec (.blockLockLost (.cam p lane) errs t) s = .next u ∧
      u.frc = (s.till t).frc ∧ u.rd (Reg.CAM_LINK_ERR_COUNT p) = satAdd 32 (s.rd (Reg.CAM_LINK_ERR_COUNT p)) errs ∧
      u.bit (Reg.CAM_LANE_STATUS p) lane = false ∧ u.camSt p = 2 ∧ u.bit (Reg.INT_STATUS (Reg.pageCAM p)) 9 = true ∧
      s.pagesBut u [Reg.pageCAM p] ∧ { u with regs := s.regs, cam := s.cam, frc := s.frc } = s) ∧
  (∀ (p : Fin 3) (lane : Fin 4) (s : State), s.bit (Reg.CTRL (Reg.pagePEER p)) 0 = false →
    exec (.blockLockGained (.peer p lane) []) s = .next s) ∧
  (∀ (p : Fin 3) (lane : Fin 4) (s : State), s.bit (Reg.CTRL (Reg.pagePEER p)) 0 = true → s.peerSt p ≤ 1 →
    ∃ u : State, exec (.blockLockGained (.peer p lane) []) s = .next u ∧
      u.bit (Reg.PEER_PORT_STATUS p) lane = true ∧ u.peerSt p = 2 ∧ (u.peerPort p).aligned = 0 ∧
      s.regsBut u [Reg.PEER_PORT_STATUS p, Reg.STATUS (Reg.pagePEER p)] ∧
      { u with regs := s.regs, ring := s.ring } = s) ∧
  (∀ (p : Fin 3) (lane : Fin 4) (s : State), s.bit (Reg.CTRL (Reg.pagePEER p)) 0 = true → 1 < s.peerSt p →
    ∃ u : State, exec (.blockLockGained (.peer p lane) []) s = .next u ∧
      u.bit (Reg.PEER_PORT_STATUS p) lane = true ∧ u.peerSt p = s.peerSt p ∧ s.regsBut u [Reg.PEER_PORT_STATUS p] ∧
      { u with regs := s.regs } = s) ∧
  (∀ (p : Fin 3) (lane : Fin 4) (errs t : Nat) (s : State), s.bit (Reg.PEER_PORT_STATUS p) lane = true →
    ∃ u : State, exec (.blockLockLost (.peer p lane) errs t) s = .next u ∧
      u.frc = (s.till t).frc ∧
      u.rd (Reg.PEER_HEADER_ERR_COUNT p) = satAdd 32 (s.rd (Reg.PEER_HEADER_ERR_COUNT p)) errs ∧
      u.bit (Reg.PEER_PORT_STATUS p) lane = false ∧
      u.rd (Reg.PEER_LOCK_LOSS_COUNT p) = satInc 32 (s.rd (Reg.PEER_LOCK_LOSS_COUNT p)) ∧
      s.regsBut u [Reg.PEER_PORT_STATUS p, Reg.PEER_LOCK_LOSS_COUNT p, Reg.PEER_HEADER_ERR_COUNT p] ∧
      { u with regs := s.regs, frc := s.frc } = s) ∧
  (∀ (p : Fin 3) (lane : Fin 4) (errs t : Nat) (s : State), s.bit (Reg.PEER_PORT_STATUS p) lane = false →
    exec (.blockLockLost (.peer p lane) errs t) s = .next (s.till t))

/-- The peer ports. The second ALIGN set in a row within 16 slots gives lane order and polarity, and the port sends
HELLO; a HELLO of a neighbour that may be joined brings the port up at the widest form that its locked lanes
allow, and a wrong one is flagged; a port that loses a lane in use is in RENEG until the narrower width is in
force; it widens as lanes return; a port that goes down takes the ring with it; the time transfer gives the link
delay and the offset of the clocks; the first good copy of a TIME-class block is taken; data frames are taken in
order, acknowledged, repeated while unacknowledged, and counted when wrong. A mirrored write of an RWS register
is taken by the follower as the peer agent Spec: 11_pair_and_ring.md. -/
def Obligations.PeerPorts : Prop :=
  (∀ (p : Fin 3) (blocks : List (Nat × Nat)) (skew : Nat) (s : State), s.peerSt p ≠ 2 →
    exec (.alignSet (.peer p) blocks skew) s = .next s) ∧
  (∀ (p : Fin 3) (blocks : List (Nat × Nat)) (skew : Nat) (s : State), s.peerSt p = 2 →
      16 < skew ∨ readAlignSet blocks = none →
    ∃ u : State, exec (.alignSet (.peer p) blocks skew) s = .next u ∧
      (u.peerPort p).aligned = 0 ∧ (u.peerPort p).unacked = (s.peerPort p).unacked ∧ { u with ring := s.ring } = s) ∧
  (∀ (p : Fin 3) (blocks : List (Nat × Nat)) (skew : Nat) (s : State), s.peerSt p = 2 → skew ≤ 16 →
      (readAlignSet blocks).isSome = true → (s.peerPort p).aligned = 0 →
    ∃ u : State, exec (.alignSet (.peer p) blocks skew) s = .next u ∧
      (u.peerPort p).aligned = 1 ∧ (u.peerPort p).unacked = (s.peerPort p).unacked ∧ { u with ring := s.ring } = s) ∧
  (∀ (p : Fin 3) (blocks : List (Nat × Nat)) (map inv skew : Nat) (s : State), s.peerSt p = 2 → skew ≤ 16 →
      readAlignSet blocks = some (map, inv) → 1 ≤ (s.peerPort p).aligned →
    ∃ u : State, exec (.alignSet (.peer p) blocks skew) s = .next u ∧
      u.peerSt p = 3 ∧ u.rdF (Reg.PEER_PORT_STATUS p) 15 8 = map % 256 ∧
      u.rdF (Reg.PEER_PORT_STATUS p) 7 4 = inv % 16 ∧ u.bit (Reg.PEER_PORT_STATUS p) 18 = (map % 256 == 0x1B) ∧
      u.out = s.out ++ [Out.peerBlock p 0x01 [s.rd64 Reg.SYS_SERIAL_LO Reg.SYS_SERIAL_HI,
        s.mode + b2n s.isRoot * 16, p, s.rdF Reg.RING_RING_STATUS 11 0, s.mgmt.runProto]] ∧
      s.regsBut u [Reg.PEER_PORT_STATUS p, Reg.STATUS (Reg.pagePEER p)] ∧
      { u with regs := s.regs, ring := s.ring, out := s.out } = s) ∧
  (readAlignSet [(controlHeader, alignBlock 3), (controlHeader, alignBlock 2), (dataHeader,
       2 ^ 64 - 1 - alignBlock 1), (controlHeader, alignBlock 0)] = some (0x1B, 4)) ∧
  (∀ (p : Fin 3) (serial mode portId addr proto t : Nat) (s : State), s.peerSt p ≠ 3 →
    exec (.peerHello p serial mode portId addr proto t) s = .next (s.till t)) ∧
  (∀ (p : Fin 3) (serial mode portId addr proto t : Nat) (s : State), s.peerSt p = 3 → portsMatch p portId = false →
    ∃ u : State, exec (.peerHello p serial mode portId addr proto t) s = .next u ∧
      u.frc = (s.till t).frc ∧ u.rd (Reg.PEER_PARTNER_SERIAL_LO p) = serial % 2 ^ 32 ∧
      u.rd (Reg.PEER_PARTNER_INFO p) = (mode &&& 0x13) + addr % 4096 * 256 + portId % 4 * 2 ^ 24 ∧ u.peerSt p = 3 ∧
      u.bit (Reg.PEER_PORT_STATUS p) 19 = true ∧ u.bit (Reg.INT_STATUS (Reg.pagePEER p)) 9 = true ∧
      s.regsBut u [Reg.PEER_PORT_STATUS p, Reg.STATUS (Reg.pagePEER p), Reg.INT_STATUS (Reg.pagePEER p),
        Reg.PEER_PARTNER_SERIAL_LO p, Reg.PEER_PARTNER_SERIAL_HI p, Reg.PEER_PARTNER_INFO p] ∧
      { u with regs := s.regs, frc := s.frc } = s) ∧
  (∀ (p : Fin 3) (serial mode portId addr proto t : Nat) (s : State), s.peerSt p = 3 → portsMatch p portId = true →
      p = 2 → s.pair.inDoubt = [] →
    ∃ u : State, exec (.peerHello p serial mode portId addr proto t) s = .next u ∧
      u.frc = (s.till t).frc ∧ u.rd (Reg.PEER_PARTNER_SERIAL_LO p) = serial % 2 ^ 32 ∧
      u.rd (Reg.PEER_PARTNER_INFO p) = (mode &&& 0x13) + addr % 4096 * 256 + portId % 4 * 2 ^ 24 ∧ u.peerSt p = 4 ∧
      u.bit (Reg.INT_STATUS (Reg.pagePEER p)) 8 = true ∧ u.width p = s.widthOf p (bitsOf 4 (s.peerLock p)).length ∧
      u.bit Reg.FW_FW_STATUS 4 = (s.pairMode && proto != s.mgmt.runProto) ∧
      s.regsBut u [Reg.PEER_PORT_STATUS p, Reg.STATUS (Reg.pagePEER p), Reg.INT_STATUS (Reg.pagePEER p),
        Reg.PEER_PARTNER_SERIAL_LO p, Reg.PEER_PARTNER_SERIAL_HI p, Reg.PEER_PARTNER_INFO p, Reg.FW_FW_STATUS,
        Reg.PEER_FRAME_RETX p] ∧ { u with regs := s.regs, frc := s.frc, out := s.out, ring := s.ring } = s) ∧
  (∀ (p : Fin 3) (serial mode portId addr proto t : Nat) (s : State), s.peerSt p = 3 → portsMatch p portId = true →
      p ≠ 2 → s.ringMode = false →
    ∃ u : State, exec (.peerHello p serial mode portId addr proto t) s = .next u ∧
      u.frc = (s.till t).frc ∧ u.rd (Reg.PEER_PARTNER_SERIAL_LO p) = serial % 2 ^ 32 ∧
      u.rd (Reg.PEER_PARTNER_INFO p) = (mode &&& 0x13) + addr % 4096 * 256 + portId % 4 * 2 ^ 24 ∧ u.peerSt p = 4 ∧
      u.bit (Reg.INT_STATUS (Reg.pagePEER p)) 8 = true ∧ u.width p = s.widthOf p (bitsOf 4 (s.peerLock p)).length ∧
      s.regsBut u [Reg.PEER_PORT_STATUS p, Reg.STATUS (Reg.pagePEER p), Reg.INT_STATUS (Reg.pagePEER p),
        Reg.PEER_PARTNER_SERIAL_LO p, Reg.PEER_PARTNER_SERIAL_HI p, Reg.PEER_PARTNER_INFO p, Reg.PEER_FRAME_RETX p] ∧
      { u with regs := s.regs, frc := s.frc, out := s.out, ring := s.ring } = s) ∧
  (∀ (src : Req) (p : Fin 3) (s : State), s.cutOff src = false → s.bit (Reg.CTRL (Reg.pagePEER p)) 0 = false →
    exec (.portRetrain src p) s = .next s) ∧
  (∀ (p : Fin 3) (s : State), s.peerUp p = false →
    ∃ u : State, exec (.peerPortDown p) s = .next u ∧
      u.peerLock p = 0 ∧ u.width p = 3 ∧ u.peerUp p = false ∧ u.peerSt p = 0 ∧
      s.regsBut u [Reg.PEER_PORT_STATUS p, Reg.STATUS (Reg.pagePEER p)] ∧ { u with regs := s.regs } = s) ∧
  (∀ (p : Fin 3) (s : State), s.peerUp p = true → p = 2 ∨ s.ringMode = false →
    ∃ u : State, exec (.peerPortDown p) s = .next u ∧
      u.peerLock p = 0 ∧ u.width p = 3 ∧ u.peerUp p = false ∧ u.peerSt p = 0 ∧
      u.bit (Reg.INT_STATUS (Reg.pagePEER p)) 9 = true ∧
      s.regsBut u [Reg.PEER_PORT_STATUS p, Reg.STATUS (Reg.pagePEER p), Reg.INT_STATUS (Reg.pagePEER p)] ∧
      { u with regs := s.regs } = s) ∧
  (∀ (src : Req) (p : Fin 3) (s : State), s.cutOff src = false → s.bit (Reg.CTRL (Reg.pagePEER p)) 0 = true →
      s.peerUp p = false →
    ∃ u : State, exec (.portRetrain src p) s = .next u ∧
      u.peerLock p = 0 ∧ u.width p = 3 ∧ u.peerUp p = false ∧ u.peerSt p = 1 ∧
      s.regsBut u [Reg.PEER_PORT_STATUS p, Reg.STATUS (Reg.pagePEER p)] ∧ { u with regs := s.regs } = s) ∧
  (∀ (src : Req) (p : Fin 3) (s : State), s.cutOff src = false → s.bit (Reg.CTRL (Reg.pagePEER p)) 0 = true →
      s.peerUp p = true → p = 2 ∨ s.ringMode = false →
    ∃ u : State, exec (.portRetrain src p) s = .next u ∧
      u.peerLock p = 0 ∧ u.width p = 3 ∧ u.peerUp p = false ∧ u.peerSt p = 1 ∧
      u.bit (Reg.INT_STATUS (Reg.pagePEER p)) 9 = true ∧
      s.regsBut u [Reg.PEER_PORT_STATUS p, Reg.STATUS (Reg.pagePEER p), Reg.INT_STATUS (Reg.pagePEER p)] ∧
      { u with regs := s.regs } = s) ∧
  (∀ (p : Fin 3) (s : State), s.peerUp p = true → p ≠ 2 → s.ringMode = true → s.ringSt = 6 →
    ∃ u : State, exec (.peerPortDown p) s = .next u ∧
      u.peerLock p = 0 ∧ u.width p = 3 ∧ u.peerUp p = false ∧ u.ringSt = 7 ∧ u.ring.chain = true ∧
      u.bit (Reg.INT_STATUS Reg.pageRING) 9 = true ∧
      s.regsBut u [Reg.PEER_PORT_STATUS p, Reg.STATUS (Reg.pagePEER p), Reg.INT_STATUS (Reg.pagePEER p),
        Reg.STATUS Reg.pageRING, Reg.INT_STATUS Reg.pageRING] ∧ { u with regs := s.regs, ring := s.ring } = s) ∧
  (∀ (p : Fin 3) (lanes : Nat) (errs : List Nat) (s : State), s.peerSt p = 4 →
      (s.peerLanes p).all (bitOf lanes) = false → lanes % 16 ≠ 0 →
    ∃ u : State, exec (.narrowed p lanes errs false) s = .next u ∧
      u.peerLock p = lanes % 16 ∧ u.peerSt p = 5 ∧ u.width p = s.width p ∧
      s.regsBut u [Reg.PEER_PORT_STATUS p, Reg.STATUS (Reg.pagePEER p)] ∧ { u with regs := s.regs } = s) ∧
  (∀ (p : Fin 3) (lanes : Nat) (errs : List Nat) (s : State),
      s.peerSt p ≠ 4 ∨ (s.peerLanes p).all (bitOf lanes) = true →
    exec (.narrowed p lanes errs false) s = .next s) ∧
  (∀ (p : Fin 3) (lanes : Nat) (errs : List Nat) (s : State), s.peerSt p = 5 → (bitsOf 4 lanes).length ≠ 0 →
      (s.peerPort p).unacked = [] → max (s.width p) (if 2 ≤ (bitsOf 4 lanes).length then 1 else 2) ≠ s.width p →
    ∃ u : State, exec (.narrowed p lanes errs true) s = .next u ∧
      u.peerLock p = lanes % 16 ∧ u.peerSt p = 4 ∧
      u.width p = (max (s.width p) (if 2 ≤ (bitsOf 4 lanes).length then 1 else 2)) % 4 ∧
      u.rdF (Reg.PEER_PORT_STATUS p) 15 8 =
        laneMap (bestLanes (bitsOf 4 lanes) errs (4 / 2 ^ (max (s.width p) (if 2 ≤ (bitsOf 4 lanes).length then 1 else
        2)))) % 256 ∧ u.rd (Reg.PEER_RENEG_COUNT p) = satInc 32 (s.rd (Reg.PEER_RENEG_COUNT p)) ∧
      u.bit (Reg.INT_STATUS (Reg.pagePEER p)) 10 = true ∧
      s.regsBut u [Reg.PEER_PORT_STATUS p, Reg.STATUS (Reg.pagePEER p), Reg.INT_STATUS (Reg.pagePEER p),
        Reg.PEER_RENEG_COUNT p] ∧ { u with regs := s.regs, ring := s.ring } = s) ∧
  (∀ (p : Fin 3) (lanes : Nat) (errs : List Nat) (s : State), s.peerSt p = 5 → (bitsOf 4 lanes).length ≠ 0 →
      (s.peerPort p).unacked = [] → max (s.width p) (if 2 ≤ (bitsOf 4 lanes).length then 1 else 2) = s.width p →
    ∃ u : State, exec (.narrowed p lanes errs true) s = .next u ∧
      u.peerLock p = lanes % 16 ∧ u.peerSt p = 4 ∧
      u.width p = (max (s.width p) (if 2 ≤ (bitsOf 4 lanes).length then 1 else 2)) % 4 ∧
      u.rdF (Reg.PEER_PORT_STATUS p) 15 8 =
        laneMap (bestLanes (bitsOf 4 lanes) errs (4 / 2 ^ (max (s.width p) (if 2 ≤ (bitsOf 4 lanes).length then 1 else
        2)))) % 256 ∧ u.rd (Reg.PEER_RENEG_COUNT p) = s.rd (Reg.PEER_RENEG_COUNT p) ∧
      s.regsBut u [Reg.PEER_PORT_STATUS p, Reg.STATUS (Reg.pagePEER p), Reg.INT_STATUS (Reg.pagePEER p),
        Reg.PEER_RENEG_COUNT p] ∧ { u with regs := s.regs, ring := s.ring } = s) ∧
  (∀ (p : Fin 3) (lanes : Nat) (errs : List Nat) (s : State), s.peerSt p ≠ 5 →
    exec (.narrowed p lanes errs true) s = .next s) ∧
  (∀ (p : Fin 3) (lanes : Nat) (s : State), s.bit (Reg.PEER_PORT_CFG p) 8 = true → s.peerSt p = 4 →
      s.widthOf p (bitsOf 4 ((s.peerLock p ||| lanes) % 16)).length < s.width p →
    ∃ u : State, exec (.bgRetrain p lanes) s = .next u ∧
      u.peerLock p = (s.peerLock p ||| lanes) % 16 ∧
      u.width p = s.widthOf p (bitsOf 4 ((s.peerLock p ||| lanes) % 16)).length ∧
      u.rd (Reg.PEER_RENEG_COUNT p) = satInc 32 (s.rd (Reg.PEER_RENEG_COUNT p)) ∧
      u.bit (Reg.INT_STATUS (Reg.pagePEER p)) 11 = true ∧
      s.regsBut u [Reg.PEER_PORT_STATUS p, Reg.INT_STATUS (Reg.pagePEER p), Reg.PEER_RENEG_COUNT p] ∧
      { u with regs := s.regs } = s) ∧
  (∀ (p : Fin 3) (lanes : Nat) (s : State), s.bit (Reg.PEER_PORT_CFG p) 8 = true → s.peerSt p = 4 →
      s.width p ≤ s.widthOf p (bitsOf 4 ((s.peerLock p ||| lanes) % 16)).length →
    ∃ u : State, exec (.bgRetrain p lanes) s = .next u ∧
      u.peerLock p = (s.peerLock p ||| lanes) % 16 ∧ u.width p = s.width p ∧ s.regsBut u [Reg.PEER_PORT_STATUS p] ∧
      { u with regs := s.regs } = s) ∧
  (∀ (p : Fin 3) (lanes : Nat) (s : State), s.peerSt p ≠ 4 →
    exec (.bgRetrain p lanes) s = .next s) ∧
  (∀ (src : Req) (p : Fin 3) (lanes : Nat) (s : State), s.cutOff src = false → s.peerSt p = 4 →
      s.widthOf p (bitsOf 4 ((s.peerLock p ||| lanes) % 16)).length < s.width p →
    ∃ u : State, exec (.widenNow src p lanes) s = .next u ∧
      u.peerLock p = (s.peerLock p ||| lanes) % 16 ∧
      u.width p = s.widthOf p (bitsOf 4 ((s.peerLock p ||| lanes) % 16)).length ∧
      u.rd (Reg.PEER_RENEG_COUNT p) = satInc 32 (s.rd (Reg.PEER_RENEG_COUNT p)) ∧
      u.bit (Reg.INT_STATUS (Reg.pagePEER p)) 11 = true ∧
      s.regsBut u [Reg.PEER_PORT_STATUS p, Reg.INT_STATUS (Reg.pagePEER p), Reg.PEER_RENEG_COUNT p] ∧
      { u with regs := s.regs } = s) ∧
  (∀ (src : Req) (p : Fin 3) (lanes : Nat) (s : State), s.cutOff src = false → s.peerSt p = 4 →
      s.width p ≤ s.widthOf p (bitsOf 4 ((s.peerLock p ||| lanes) % 16)).length →
    ∃ u : State, exec (.widenNow src p lanes) s = .next u ∧
      u.peerLock p = (s.peerLock p ||| lanes) % 16 ∧ u.width p = s.width p ∧ s.regsBut u [Reg.PEER_PORT_STATUS p] ∧
      { u with regs := s.regs } = s) ∧
  (∀ (src : Req) (p : Fin 3) (lanes : Nat) (s : State), s.cutOff src = false → s.peerSt p ≠ 4 →
    exec (.widenNow src p lanes) s = .next s) ∧
  (∀ (p : Fin 3) (t1 t2 t3 t4 ring : Nat) (s : State), s.peerUp p = true →
      p = 2 ∨ s.ringMode = false ∨ s.isRoot = true →
    ∃ u : State, exec (.timeTransfer p t1 t2 t3 t4 ring) s = .next u ∧
      u.frc = (s.till t4).frc ∧
      u.rd (Reg.PEER_LINK_DELAY p) = unsgn 24 (((sdiff 64 t4 t1 - sdiff 64 t3 t2) * 1250).fdiv 2) ∧
      (u.peerPort p).offset = some ((sdiff 64 t2 t1 + sdiff 64 t3 t4).fdiv 2) ∧
      (u.peerPort p).unacked = (s.peerPort p).unacked ∧ s.regsBut u [Reg.PEER_LINK_DELAY p] ∧
      { u with regs := s.regs, frc := s.frc, ring := s.ring } = s) ∧
  (∀ (p : Fin 3) (t1 t2 t3 t4 ring : Nat) (s : State), s.peerUp p = false →
    exec (.timeTransfer p t1 t2 t3 t4 ring) s = .next (s.till t4)) ∧
  (∀ (p : Fin 3) (t1 t2 t3 t4 ring : Nat) (s : State), s.peerUp p = true → p ≠ 2 → s.ringMode = true →
      s.isRoot = false → s.rdF Reg.RING_RING_STATUS 11 0 ≠ 0 → p.val = s.rootPort → s.ringSt = 6 →
    ∃ u : State, exec (.timeTransfer p t1 t2 t3 t4 ring) s = .next u ∧
      u.frc = (s.till t4).frc ∧
      u.rd (Reg.PEER_LINK_DELAY p) = unsgn 24 (((sdiff 64 t4 t1 - sdiff 64 t3 t2) * 1250).fdiv 2) ∧
      (u.peerPort p).offset = some ((sdiff 64 t2 t1 + sdiff 64 t3 t4).fdiv 2) ∧
      (u.peerPort p).unacked = (s.peerPort p).unacked ∧
      u.ring.base = some (t4, unsgn 80 ((ring : Int) + ((sdiff 64 t4 t1 - sdiff 64 t3 t2) * 81920).fdiv 2)) ∧
      s.regsBut u [Reg.PEER_LINK_DELAY p, Reg.RING_TIME_OFFSET] ∧
      { u with regs := s.regs, frc := s.frc, ring := s.ring } = s) ∧
  (∀ (p : Fin 3) (f : PeerFrame) (s : State), s.peerSt p ≠ 4 → f.cls ≠ 0 ∨ s.peerUp p = false →
    exec (.peerFrame p f) s = .next s) ∧
  (∀ (p : Fin 3) (f : PeerFrame) (s : State), s.peerUp p = true → f.cls = 0 → f.crcOk = false →
    ∃ u : State, exec (.peerFrame p f) s = .next u ∧
      u.rd (Reg.PEER_FRAME_ERR p) = satInc 32 (s.rd (Reg.PEER_FRAME_ERR p)) ∧
      u.bit (Reg.INT_STATUS (Reg.pagePEER p)) 12 = true ∧
      s.regsBut u [Reg.PEER_FRAME_ERR p, Reg.INT_STATUS (Reg.pagePEER p)] ∧ { u with regs := s.regs } = s) ∧
  (∀ (p : Fin 3) (f : PeerFrame) (s : State), f.cls = 0 → f.crcOk = true → (s.peerPort p).lastBlock = some f.seq →
    exec (.peerFrame p f) s = .next s) ∧
  (∀ (p : Fin 3) (f : PeerFrame) (s : State), s.peerUp p = true → f.cls = 0 → f.crcOk = true →
      (s.peerPort p).lastBlock ≠ some f.seq →
    exec (.peerFrame p f) s =
      .next ((s.setPeerPort p { s.peerPort p with lastBlock := some f.seq }).takeBlock p f.kind f.fields)) ∧
  (∀ (p : Fin 3) (f : PeerFrame) (s : State), s.peerSt p = 4 → f.cls ≠ 0 → f.crcOk = false →
    ∃ u : State, exec (.peerFrame p f) s = .next u ∧
      u.rd (Reg.PEER_FRAME_ERR p) = satInc 32 (s.rd (Reg.PEER_FRAME_ERR p)) ∧
      u.bit (Reg.INT_STATUS (Reg.pagePEER p)) 12 = true ∧
      s.regsBut u [Reg.PEER_FRAME_ERR p, Reg.INT_STATUS (Reg.pagePEER p)] ∧ { u with regs := s.regs } = s) ∧
  (∀ (p : Fin 3) (f : PeerFrame) (s : State), s.peerSt p = 4 → f.cls ≠ 0 → f.crcOk = true →
      p ≠ 2 ∨ s.pairMode = false → f.seq % 65536 = (smGet (fun _ => 0) (s.peerPort p).rxSeq f.cls + 1) % 65536 →
    ∃ u : State, exec (.peerFrame p f) s = .next u ∧
      (u.peerPort p).unacked =
        (s.peerPort p).unacked.filter (fun x => !(x.1 == f.cls.val && decide (sdiff 16 x.2.1 (f.ack % 65536) ≤ 0))) ∧
      smGet (fun _ => 0) (u.peerPort p).rxSeq f.cls = f.seq % 65536 ∧
      u.out = s.out ++ [Out.peerBlock p 0x09 [f.cls, f.seq % 65536]] ∧ { u with ring := s.ring, out := s.out } = s) ∧
  (∀ (p : Fin 3) (f : PeerFrame) (s : State), s.peerSt p = 4 → f.cls ≠ 0 → f.crcOk = true →
      f.seq % 65536 ≠ (smGet (fun _ => 0) (s.peerPort p).rxSeq f.cls + 1) % 65536 →
      sdiff 16 f.seq (smGet (fun _ => 0) (s.peerPort p).rxSeq f.cls) ≤ 0 →
    ∃ u : State, exec (.peerFrame p f) s = .next u ∧
      (u.peerPort p).unacked =
        (s.peerPort p).unacked.filter (fun x => !(x.1 == f.cls.val && decide (sdiff 16 x.2.1 (f.ack % 65536) ≤ 0))) ∧
      u.out = s.out ++ [Out.peerBlock p 0x09 [f.cls, smGet (fun _ => 0) (s.peerPort p).rxSeq f.cls]] ∧
      { u with ring := s.ring, out := s.out } = s) ∧
  (∀ (p : Fin 3) (f : PeerFrame) (s : State), s.peerSt p = 4 → f.cls ≠ 0 → f.crcOk = true →
      0 < sdiff 16 f.seq (smGet (fun _ => 0) (s.peerPort p).rxSeq f.cls) →
      f.seq % 65536 ≠ (smGet (fun _ => 0) (s.peerPort p).rxSeq f.cls + 1) % 65536 →
    ∃ u : State, exec (.peerFrame p f) s = .next u ∧
      (u.peerPort p).unacked =
        (s.peerPort p).unacked.filter (fun x => !(x.1 == f.cls.val && decide (sdiff 16 x.2.1 (f.ack % 65536) ≤ 0))) ∧
      u.out = s.out ∧ { u with ring := s.ring } = s) ∧
  (∀ (p : Fin 3) (cls : Fin 4) (s : State), s.peerSt p ≠ 4 →
    exec (.frameRetx p cls) s = .next s) ∧
  (∀ (p : Fin 3) (cls : Fin 4) (n kind : Nat) (fields : List Nat) (s : State), s.peerSt p = 4 →
      (s.peerPort p).waiting.contains (cls.val, n) = false →
      (s.peerPort p).unacked.filter (fun x => x.1 == cls.val) = [(cls.val, n, kind, fields)] →
    ∃ u : State, exec (.frameRetx p cls) s = .next u ∧
      u.out = s.out ++ [Out.peer p cls n kind fields] ∧
      u.rd (Reg.PEER_FRAME_RETX p) = satInc 32 (s.rd (Reg.PEER_FRAME_RETX p)) ∧ s.regsBut u [Reg.PEER_FRAME_RETX p] ∧
      { u with regs := s.regs, out := s.out, ring := s.ring } = s) ∧
  (∀ (addr data : Nat) (s : State), s.pairMode = false ∨ s.follows = false →
    exec (.mirroredWrite addr data) s = .next s) ∧
  (∀ (k data i : Nat) (p : PageType) (s : State), s.pairMode = true → s.follows = true →
      pageAt (k / 0x1000) = some (p, i) → 0x040 ≤ k % 0x1000 → lockNum k = none → accOf k = some .rws →
      s.armedPage (k / 0x1000) = false → s.special .peer p i k (data % 2 ^ 32) = none → s.stateFault .peer p i k = none →
      isLo k = false → isHi k = false → s.valueFault p i k (data % 2 ^ 32) = none → p ≠ .enc → p ≠ .cam → p ≠ .pair →
      s.heldBits .peer p k = [] → p ≠ .ch ∨ k % 0x1000 ≠ 0x0C4 →
    ∃ u : State, exec (.mirroredWrite k data) s = .next u ∧
      u.rd Reg.PAIR_MIRROR_GEN = (s.rd Reg.PAIR_MIRROR_GEN + 1) % 2 ^ 32 ∧
      u.shadowOf k =
        (s.shadowOf k &&& (0xFFFFFFFF ^^^ writable .peer k) ||| data % 2 ^ 32 &&& writable .peer k) % 2 ^ 32 ∧
      (∀ j, j ≠ k → j ≠ Reg.PAIR_MIRROR_GEN → u.shadowOf j = s.shadowOf j) ∧ s.regsBut u [Reg.PAIR_MIRROR_GEN] ∧
      { u with regs := s.regs, shadow := s.shadow } = s)

/-- Heartbeats of the pair and what they tell. A heartbeat of the partner shows its generation and keeps its role,
its condition and the highest epoch, and the sixteenth good one in a row makes its path good; a miss counts, and
at its limit the path fails: in PAIRED the condition is DEGRADED; a message that fails its checks is counted and
raises. Outside a pair nothing happens. Spec: 11_pair_and_ring.md. -/
def Obligations.PairHeartbeats : Prop :=
  (∀ (role cond epoch gen t : Nat) (s : State), s.pairMode = false →
    exec (.peerHeartbeat role cond epoch gen t) s = .next (s.till t)) ∧
  (∀ (role cond epoch gen t : Nat) (s : State), s.pairMode = true → s.cond = 3 → cond = 3 → s.role + role = 3 →
      s.leads = true ∨ s.follows = true → s.bit Reg.PAIR_PAIR_STATUS 9 = true → s.bit Reg.PAIR_PAIR_STATUS 10 = true →
      epoch ≤ s.rd Reg.PAIR_EPOCH →
    ∃ u : State, exec (.peerHeartbeat role cond epoch gen t) s = .next u ∧
      u.frc = (s.till t).frc ∧ u.rd Reg.PAIR_PARTNER_GEN = gen % 65536 ∧
      (u.pair.partnerRole, u.pair.partnerCond, u.pair.peerMiss) = (role, cond, 0) ∧
      u.pair.peerGood = s.pair.peerGood + 1 ∧ u.pair.epochSeen = max s.pair.epochSeen epoch ∧
      s.regsBut u [Reg.PAIR_PARTNER_GEN] ∧ { u with regs := s.regs, pair := s.pair, frc := s.frc } = s) ∧
  (∀ (m : LookoutMsg) (t : Nat) (s : State), s.pairMode = false ∨ m.isType 0x10 = false →
    exec (.networkHeartbeat m t) s = .next (s.till t)) ∧
  (∀ (m : LookoutMsg) (t : Nat) (s : State), s.pairMode = true → m.isType 0x10 = true →
      (s.till t).lookoutOk m s.pair.partnerSeq = false →
    ∃ u : State, exec (.networkHeartbeat m t) s = .next u ∧
      u.frc = (s.till t).frc ∧ u.rdF Reg.PAIR_LOOKOUT_COUNT 15 0 = satInc 16 (s.rdF Reg.PAIR_LOOKOUT_COUNT 15 0) ∧
      u.bit (Reg.INT_STATUS Reg.pagePAIR) 12 = true ∧
      s.regsBut u ([Reg.PAIR_LOOKOUT_COUNT, Reg.INT_STATUS Reg.pagePAIR] ++ tallyKeys) ∧
      { u with regs := s.regs, frc := s.frc, mgmt := s.mgmt } = s) ∧
  (∀ (m : LookoutMsg) (t : Nat) (s : State), s.pairMode = true → m.isType 0x10 = true →
      (s.till t).lookoutOk m s.pair.partnerSeq = true → s.cond = 3 → s.pair.partnerCond = 3 → s.role + m.role = 3 →
      s.leads = true ∨ s.follows = true → s.bit Reg.PAIR_PAIR_STATUS 9 = true → s.bit Reg.PAIR_PAIR_STATUS 10 = true →
      m.epoch ≤ s.rd Reg.PAIR_EPOCH →
    ∃ u : State, exec (.networkHeartbeat m t) s = .next u ∧
      u.frc = (s.till t).frc ∧ u.pair.partnerSeq = some m.seq ∧ (u.pair.partnerRole, u.pair.netMiss) = (m.role, 0) ∧
      u.pair.netGood = s.pair.netGood + 1 ∧ { u with pair := s.pair, frc := s.frc } = s) ∧
  (∀ (net : Bool) (t : Nat) (s : State), s.pairMode = false →
    exec (.heartbeatMiss net t) s = .next (s.till t)) ∧
  (∀ (t : Nat) (s : State), s.pairMode = true → s.pair.peerMiss + 1 < s.rdF Reg.PAIR_HB_CFG 7 0 →
    ∃ u : State, exec (.heartbeatMiss false t) s = .next u ∧
      u.frc = (s.till t).frc ∧ u.rdF Reg.PAIR_HB_MISS 15 0 = satInc 16 (s.rdF Reg.PAIR_HB_MISS 15 0) ∧
      u.pair = { s.pair with peerMiss := s.pair.peerMiss + 1, peerGood := 0 } ∧ s.regsBut u [Reg.PAIR_HB_MISS] ∧
      { u with regs := s.regs, pair := s.pair, frc := s.frc } = s) ∧
  (∀ (t : Nat) (s : State), s.pairMode = true → s.cond = 3 → s.bit Reg.PAIR_PAIR_STATUS 9 = true →
      s.bit Reg.PAIR_PAIR_STATUS 10 = true → atLeast1 (s.rdF Reg.PAIR_HB_CFG 7 0) ≤ s.pair.peerMiss + 1 →
    ∃ u : State, exec (.heartbeatMiss false t) s = .next u ∧
      u.frc = (s.till t).frc ∧ u.bit Reg.PAIR_PAIR_STATUS 9 = false ∧ u.cond = 4 ∧ u.role = s.role ∧
      u.bit (Reg.INT_STATUS Reg.pagePAIR) 9 = true ∧
      s.regsBut u ([Reg.PAIR_PAIR_STATUS, Reg.STATUS Reg.pagePAIR, Reg.INT_STATUS Reg.pagePAIR] ++
        [Reg.PAIR_HB_MISS]) ∧ { u with regs := s.regs, pair := s.pair, frc := s.frc } = s) ∧
  (∀ (t : Nat) (s : State), s.pairMode = true → s.cond = 3 → s.wired = false → s.bit Reg.PAIR_PAIR_STATUS 9 = false →
      s.bit Reg.PAIR_PAIR_STATUS 10 = true → s.pair.lost = false →
      atLeast1 (s.rdF Reg.PAIR_HB_CFG 23 16) ≤ s.pair.netMiss + 1 →
    ∃ u : State, exec (.heartbeatMiss true t) s = .next u ∧
      u.frc = (s.till t).frc ∧ u.pair.lost = true ∧ u.cond = 5 ∧ u.role = s.role ∧
      u.bit (Reg.INT_STATUS Reg.pagePAIR) 10 = true ∧ u.locks = s.locks.filter (fun e => e.2 != 0x30) ∧
      u.rd Reg.PAIR_GRANT_WAIT = 0xFFFF ∧ (u.pair.claiming, u.pair.reason) = (true, 0) ∧
      s.pagesBut u [Reg.pagePAIR, Reg.pageTALLY, Reg.pageNET 0, Reg.pageNET 1] ∧
      { u with regs := s.regs, pair := s.pair, frc := s.frc, mgmt := s.mgmt, locks := s.locks, ring := s.ring, net := s.net, out := s.out, freeCount := s.freeCount } =
        s)

/-- The lease, the Lookout and the grant inputs. A GRANT with an epoch not below any seen gives the lease for 2,000
ms from the message that it answers, and the lead; a DENY makes a follower, and STAND_DOWN sends it to SAFE;
leases are renewed and claims repeated; a lease that lapses in PAIRED is flagged, in ALONE or DEGRADED it is a
contest; in wired mode one grant input gives the lease. Spec: 11_pair_and_ring.md. -/
def Obligations.PairLease : Prop :=
  (∀ (m : LookoutMsg) (t : Nat) (s : State), s.pairMode = false ∨ s.wired = true ∨ m.isType 0x02 = false →
    exec (.leaseGrant m t) s = .next (s.till t)) ∧
  (∀ (m : LookoutMsg) (t : Nat) (s : State), s.pairMode = true → s.wired = false → m.isType 0x02 = true →
      (s.till t).lookoutOk m s.pair.lookoutSeq = false →
    ∃ u : State, exec (.leaseGrant m t) s = .next u ∧
      u.frc = (s.till t).frc ∧ u.rdF Reg.PAIR_LOOKOUT_COUNT 15 0 = satInc 16 (s.rdF Reg.PAIR_LOOKOUT_COUNT 15 0) ∧
      u.bit (Reg.INT_STATUS Reg.pagePAIR) 12 = true ∧
      s.regsBut u ([Reg.PAIR_LOOKOUT_COUNT, Reg.INT_STATUS Reg.pagePAIR] ++ tallyKeys) ∧
      { u with regs := s.regs, frc := s.frc, mgmt := s.mgmt } = s) ∧
  (∀ (m : LookoutMsg) (t : Nat) (s : State), s.pairMode = false ∨ s.wired = true ∨ m.isType 0x03 = false →
    exec (.leaseDeny m t) s = .next (s.till t)) ∧
  (∀ (m : LookoutMsg) (t : Nat) (s : State), s.pairMode = true → s.wired = false → m.isType 0x03 = true →
      (s.till t).lookoutOk m s.pair.lookoutSeq = false →
    ∃ u : State, exec (.leaseDeny m t) s = .next u ∧
      u.frc = (s.till t).frc ∧ u.rdF Reg.PAIR_LOOKOUT_COUNT 15 0 = satInc 16 (s.rdF Reg.PAIR_LOOKOUT_COUNT 15 0) ∧
      u.bit (Reg.INT_STATUS Reg.pagePAIR) 12 = true ∧
      s.regsBut u ([Reg.PAIR_LOOKOUT_COUNT, Reg.INT_STATUS Reg.pagePAIR] ++ tallyKeys) ∧
      { u with regs := s.regs, frc := s.frc, mgmt := s.mgmt } = s) ∧
  (∀ (m : LookoutMsg) (t : Nat) (s : State), s.pairMode = true → s.wired = false →
      (s.till t).lookoutOk m s.pair.lookoutSeq = true → m.isType 0x02 = true → s.pair.epochSeen ≤ m.epoch → s.cond = 3 →
      s.leads = true →
    ∃ u : State, exec (.leaseGrant m t) s = .next u ∧
      u.frc = (s.till t).frc ∧ u.bit Reg.PAIR_PAIR_STATUS 8 = true ∧ u.bit Reg.PAIR_PAIR_STATUS 12 = false ∧
      u.rd Reg.PAIR_EPOCH = m.epoch % 2 ^ 32 ∧
      u.pair.leaseEnd = some (s.pair.asked.getD (s.till t).frc + 1600000000) ∧ u.pair.asked = none ∧
      (u.pair.epochSeen, u.pair.lookoutSeq) = (m.epoch, some m.seq) ∧ (u.cond, u.role) = (3, 1) ∧
      s.regsBut u [Reg.PAIR_PAIR_STATUS, Reg.PAIR_EPOCH, Reg.PAIR_GRANT_WAIT] ∧
      { u with regs := s.regs, pair := s.pair, frc := s.frc } = s) ∧
  (∀ (m : LookoutMsg) (t : Nat) (s : State), s.pairMode = true → s.wired = false →
      (s.till t).lookoutOk m s.pair.lookoutSeq = true → m.isType 0x02 = true → s.pair.epochSeen ≤ m.epoch → s.cond = 5 →
      s.pair.lost = true → m.partnerState = 2 → (∀ n ∈ List.range 32, s.slotSt n ≠ 7) →
      channels.filter s.retrainPending = [] →
    ∃ u : State, exec (.leaseGrant m t) s = .next u ∧
      u.frc = (s.till t).frc ∧ u.bit Reg.PAIR_PAIR_STATUS 8 = true ∧ (u.cond, u.role) = (6, 1) ∧
      u.rd Reg.PAIR_EPOCH = m.epoch % 2 ^ 32 ∧
      s.regsBut u ([Reg.PAIR_PAIR_STATUS, Reg.STATUS Reg.pagePAIR, Reg.INT_STATUS Reg.pagePAIR] ++ [Reg.PAIR_EPOCH,
        Reg.PAIR_GRANT_WAIT, Reg.PAIR_TICK_SKEW] ++ tallyKeys) ∧
      { u with regs := s.regs, pair := s.pair, frc := s.frc, mgmt := s.mgmt } = s) ∧
  (∀ (m : LookoutMsg) (t : Nat) (s : State), s.pairMode = true → s.wired = false →
      (s.till t).lookoutOk m s.pair.lookoutSeq = true → m.isType 0x02 = true → s.pair.epochSeen ≤ m.epoch → s.cond = 5 →
      s.pair.lost = true → m.partnerState = 2 →
    ∃ u : State, exec (.leaseGrant m t) s = .next u ∧
      u.frc = (s.till t).frc ∧ u.bit Reg.PAIR_PAIR_STATUS 8 = true ∧ (u.cond, u.role) = (6, 1) ∧
      u.rd Reg.PAIR_EPOCH = m.epoch % 2 ^ 32 ∧
      s.pagesBut u ([Reg.pagePAIR, Reg.pageAPPLY, Reg.pageSYS, Reg.pageTALLY] ++ (List.range 128).map Reg.pageCH) ∧
      { u with regs := s.regs, pair := s.pair, frc := s.frc, mgmt := s.mgmt, lanes := s.lanes, line := s.line, out := s.out, scr := s.scr, ring := s.ring, net := s.net, slots := s.slots } =
        s) ∧
  (∀ (m : LookoutMsg) (t : Nat) (s : State), s.pairMode = true → s.wired = false →
      (s.till t).lookoutOk m s.pair.lookoutSeq = true → m.isType 0x02 = true → m.epoch < s.pair.epochSeen →
    ∃ u : State, exec (.leaseGrant m t) s = .next u ∧
      u.frc = (s.till t).frc ∧ u.pair.lookoutSeq = some m.seq ∧ u.pair.leaseEnd = s.pair.leaseEnd ∧
      s.regsBut u [Reg.PAIR_GRANT_WAIT] ∧ { u with regs := s.regs, pair := s.pair, frc := s.frc } = s) ∧
  (∀ (m : LookoutMsg) (t : Nat) (s : State), s.pairMode = true → s.wired = false →
      (s.till t).lookoutOk m s.pair.lookoutSeq = true → m.isType 0x03 = true → m.disposition = 0 → s.cond = 5 →
    ∃ u : State, exec (.leaseDeny m t) s = .next u ∧
      u.frc = (s.till t).frc ∧ (u.cond, u.role) = (4, 2) ∧ u.bit Reg.PAIR_PAIR_STATUS 8 = false ∧
      (u.pair.leaseEnd, u.pair.asked) = (none, none) ∧
      s.regsBut u ([Reg.PAIR_PAIR_STATUS, Reg.STATUS Reg.pagePAIR, Reg.INT_STATUS Reg.pagePAIR] ++
        [Reg.PAIR_GRANT_WAIT] ++ tallyKeys) ∧
      { u with regs := s.regs, pair := s.pair, frc := s.frc, mgmt := s.mgmt } = s) ∧
  (∀ (m : LookoutMsg) (t : Nat) (s : State), s.pairMode = true → s.wired = false →
      (s.till t).lookoutOk m s.pair.lookoutSeq = true → m.isType 0x03 = true → m.disposition = 1 → s.cond = 5 →
      s.runSt = 0 → s.dram.stop = false →
    ∃ u : State, exec (.leaseDeny m t) s = .next u ∧
      u.frc = (s.till t).frc ∧ (u.cond, u.role) = (7, 2) ∧ u.modState = 7 ∧ u.bit Reg.PAIR_PAIR_STATUS 8 = false ∧
      (∀ g ∈ List.range 4, ∀ i ∈ List.range 16, u.rd (Reg.LAMP_CH_OUT g i) = 0) ∧
      s.pagesBut u [Reg.pagePAIR, Reg.pageSYS, Reg.pageTALLY, Reg.pageLAMP 0, Reg.pageLAMP 1, Reg.pageLAMP 2,
        Reg.pageLAMP 3, Reg.pageNET 0, Reg.pageNET 1, Reg.pageCAM 0, Reg.pageCAM 1, Reg.pageISP, Reg.pageSCALER] ∧
      { u with regs := s.regs, pair := s.pair, frc := s.frc, mgmt := s.mgmt, line := s.line, out := s.out, net := s.net, lamp := s.lamp, lanes := s.lanes, cam := s.cam, colour := s.colour, freeCount := s.freeCount } =
        s) ∧
  (∀ (t : Nat) (s : State), s.pairMode = true → s.wired = false → s.bit Reg.PAIR_PAIR_STATUS 8 = true →
      s.rangerRuns = true →
    ∃ u : State, exec (.leaseRenew t) s = .next u ∧
      u.frc = (s.till t).frc ∧
      u.pair = { s.pair with seq := (s.pair.seq + 1) % 2 ^ 32, asked := some (s.till t).frc, claiming := false } ∧
      s.regsBut u [Reg.NET_TX_FRAMES 0, Reg.NET_TX_FRAMES 1] ∧
      { u with regs := s.regs, pair := s.pair, frc := s.frc, net := s.net, out := s.out, freeCount := s.freeCount } =
        s) ∧
  (∀ (t : Nat) (s : State), s.pairMode = false ∨ s.bit Reg.PAIR_PAIR_STATUS 8 = false ∨ s.rangerRuns = false →
    exec (.leaseRenew t) s = .next (s.till t)) ∧
  (∀ (t : Nat) (s : State), s.pairMode = true → s.wired = false → s.cond = 1 → s.role = 0 → s.pair.asked = none →
    ∃ u : State, exec (.claimRepeat t) s = .next u ∧
      u.frc = (s.till t).frc ∧
      u.pair = { s.pair with seq := (s.pair.seq + 1) % 2 ^ 32, asked := some (s.till t).frc, claiming := true, reason := 1 } ∧
      u.rd Reg.PAIR_GRANT_WAIT = 0xFFFF ∧
      u.rdF Reg.PAIR_LOOKOUT_COUNT 31 16 = satInc 16 (s.rdF Reg.PAIR_LOOKOUT_COUNT 31 16) ∧
      s.regsBut u ([Reg.NET_TX_FRAMES 0, Reg.NET_TX_FRAMES 1] ++ [Reg.PAIR_GRANT_WAIT, Reg.PAIR_LOOKOUT_COUNT]) ∧
      { u with regs := s.regs, pair := s.pair, frc := s.frc, net := s.net, out := s.out, freeCount := s.freeCount } =
        s) ∧
  (∀ (t : Nat) (s : State), s.pairMode = false ∨ s.pair.asked = none ∧ s.cond ≠ 1 →
    exec (.claimRepeat t) s = .next (s.till t)) ∧
  (∀ (t e : Nat) (s : State), s.pairMode = true → s.bit Reg.PAIR_PAIR_STATUS 8 = true → s.pair.leaseEnd = some e →
      e ≤ (s.till t).frc → s.cond = 3 →
    ∃ u : State, exec (.leaseLost t) s = .next u ∧
      u.frc = (s.till t).frc ∧ u.bit Reg.PAIR_PAIR_STATUS 8 = false ∧ u.bit Reg.PAIR_PAIR_STATUS 12 = true ∧
      u.pair = { s.pair with leaseEnd := none } ∧ u.bit (Reg.INT_STATUS Reg.pagePAIR) 11 = true ∧
      (u.cond, u.role) = (3, s.role) ∧ s.regsBut u [Reg.PAIR_PAIR_STATUS, Reg.INT_STATUS Reg.pagePAIR] ∧
      { u with regs := s.regs, pair := s.pair, frc := s.frc } = s) ∧
  (∀ (t e : Nat) (s : State), s.pairMode = true → s.bit Reg.PAIR_PAIR_STATUS 8 = true → s.pair.leaseEnd = some e →
      e ≤ (s.till t).frc → s.cond = 6 ∨ s.cond = 4 →
    ∃ u : State, exec (.leaseLost t) s = .next u ∧
      u.frc = (s.till t).frc ∧ u.bit Reg.PAIR_PAIR_STATUS 8 = false ∧ (u.cond, u.role) = (5, s.role) ∧
      u.pair.leaseEnd = none ∧
      s.regsBut u [Reg.PAIR_PAIR_STATUS, Reg.STATUS Reg.pagePAIR, Reg.INT_STATUS Reg.pagePAIR] ∧
      { u with regs := s.regs, pair := s.pair, frc := s.frc } = s) ∧
  (∀ (t : Nat) (s : State), s.pair.leaseEnd = none →
    exec (.leaseLost t) s = .next (s.till t)) ∧
  (∀ (a b : Bool) (t : Nat) (s : State),
      s.pairMode = false ∨ s.wired = false ∧ (s.bit Reg.PAIR_PAIR_STATUS 8 = false ∨ s.pair.leaseEnd.isSome = true) →
    ∃ u : State, exec (.wiredGrant a b t) s = .next u ∧
      u.frc = (s.till t).frc ∧ u.pair = { s.pair with grantA := a, grantB := b } ∧
      { u with pair := s.pair, frc := s.frc } = s) ∧
  (∀ (t : Nat) (s : State), s.pairMode = true → s.wired = true → s.pairSlot = 0 → s.cond = 3 → s.leads = true →
      s.bit Reg.PAIR_PAIR_STATUS 8 = false →
    ∃ u : State, exec (.wiredGrant true false t) s = .next u ∧
      u.frc = (s.till t).frc ∧ u.bit Reg.PAIR_PAIR_STATUS 8 = true ∧ (u.cond, u.role) = (3, 1) ∧
      u.pair = { s.pair with grantA := true, grantB := false, leaseEnd := none, asked := none } ∧
      s.regsBut u [Reg.PAIR_PAIR_STATUS] ∧ { u with regs := s.regs, pair := s.pair, frc := s.frc } = s) ∧
  (∀ (t : Nat) (s : State), s.pairMode = true → s.wired = true → s.pairSlot = 0 → s.cond = 5 → s.leads = false →
      s.pair.lost = true → s.printing = false → s.bit Reg.PAIR_PAIR_STATUS 8 = false →
      (∀ n ∈ List.range 32, s.slotSt n ≠ 7) → channels.filter s.retrainPending = [] →
    ∃ u : State, exec (.wiredGrant true false t) s = .next u ∧
      u.frc = (s.till t).frc ∧ u.bit Reg.PAIR_PAIR_STATUS 8 = true ∧ (u.cond, u.role) = (6, 1) ∧
      u.rd Reg.PAIR_EPOCH = (s.pair.epochSeen + 1) % 2 ^ 32 ∧ u.pair.epochSeen = (s.pair.epochSeen + 1) % 2 ^ 32 ∧
      s.regsBut u ([Reg.PAIR_PAIR_STATUS, Reg.STATUS Reg.pagePAIR, Reg.INT_STATUS Reg.pagePAIR] ++ [Reg.PAIR_EPOCH,
        Reg.PAIR_TICK_SKEW] ++ tallyKeys) ∧
      { u with regs := s.regs, pair := s.pair, frc := s.frc, mgmt := s.mgmt } = s) ∧
  (∀ (t : Nat) (s : State), s.pairMode = true → s.wired = true → s.pairSlot = 0 → s.cond = 5 → s.leads = false →
      s.pair.lost = true → s.printing = false → s.bit Reg.PAIR_PAIR_STATUS 8 = false →
    ∃ u : State, exec (.wiredGrant true false t) s = .next u ∧
      u.frc = (s.till t).frc ∧ u.bit Reg.PAIR_PAIR_STATUS 8 = true ∧ (u.cond, u.role) = (6, 1) ∧
      u.rd Reg.PAIR_EPOCH = (s.pair.epochSeen + 1) % 2 ^ 32 ∧ u.pair.epochSeen = (s.pair.epochSeen + 1) % 2 ^ 32 ∧
      s.pagesBut u ([Reg.pagePAIR, Reg.pageAPPLY, Reg.pageSYS, Reg.pageTALLY] ++ (List.range 128).map Reg.pageCH) ∧
      { u with regs := s.regs, pair := s.pair, frc := s.frc, mgmt := s.mgmt, lanes := s.lanes, line := s.line, out := s.out, scr := s.scr, ring := s.ring, net := s.net, slots := s.slots } =
        s)

/-- Slots that a pair agrees. The follower takes a SLOT message and answers it; the leader confirms a slot that is
acknowledged in time, reschedules one that is not and refuses it while the pair is frozen; the follower arms on
CONFIRM, is in doubt without it and sends ABSENT until it is told; a cancelled slot is CANCELLED. Spec:
11_pair_and_ring.md, 03_line_engine.md. -/
def Obligations.PairSlots : Prop :=
  (∀ (n : Fin 32) (target action mask0 mask1 mask2 mask3 fwd crc : Nat) (s : State),
      s.pairMode = false ∨ s.follows = false →
    exec (.slotMessage n target action mask0 mask1 mask2 mask3 fwd crc) s = .next s) ∧
  (∀ (n : Fin 32) (target action mask0 mask1 mask2 mask3 fwd crc : Nat) (s : State), s.pairMode = true →
      s.follows = true → s.pair.slotWait = [] → sdiff 16 (smGet (fun _ => 0) (s.peerPort 2).rxSeq 2) fwd < 0 →
    ∃ u : State, exec (.slotMessage n target action mask0 mask1 mask2 mask3 fwd crc) s = .next u ∧
      u.rd (Reg.APPLY_SLOT_TARGET n) = target % 2 ^ 32 ∧ u.rd (Reg.APPLY_SLOT_ACTION n) = action % 2 ^ 32 ∧
      u.rd (Reg.APPLY_SLOT_MASK0 n) = mask0 % 2 ^ 32 ∧ u.pair = { s.pair with slotWait := [[n, fwd, crc]] } ∧
      u.slot n = {} ∧ u.slotSt n = s.slotSt n ∧
      s.regsBut u [Reg.APPLY_SLOT_TARGET n, Reg.APPLY_SLOT_ACTION n, Reg.APPLY_SLOT_MASK0 n, Reg.APPLY_SLOT_MASK1 n,
        Reg.APPLY_SLOT_MASK2 n, Reg.APPLY_SLOT_MASK3 n] ∧
      { u with regs := s.regs, slots := s.slots, pair := s.pair } = s) ∧
  (∀ (n : Fin 32) (target action mask0 mask1 mask2 mask3 fwd crc : Nat) (s : State), s.stCode (Reg.pagePEER 2) = 4 →
      s.pairMode = true → s.follows = true → s.pair.slotWait = [] →
      0 ≤ sdiff 16 (smGet (fun _ => 0) (s.peerPort 2).rxSeq 2) fwd →
      crc32c ((s.wrs [(Reg.APPLY_SLOT_TARGET n, target), (Reg.APPLY_SLOT_ACTION n, action), (Reg.APPLY_SLOT_MASK0 n,
      mask0), (Reg.APPLY_SLOT_MASK1 n, mask1), (Reg.APPLY_SLOT_MASK2 n, mask2), (Reg.APPLY_SLOT_MASK3 n,
      mask3)]).slotRegion n) ≠ crc →
    ∃ u : State, exec (.slotMessage n target action mask0 mask1 mask2 mask3 fwd crc) s = .next u ∧
      u.rd (Reg.APPLY_SLOT_TARGET n) = target % 2 ^ 32 ∧
      u.out = s.out ++ [Out.peer 2 1 ((smGet (fun _ => 0) (s.peerPort 2).txSeq 1 + 1) % 65536) 0x12 [n]] ∧
      u.slotSt n = s.slotSt n ∧
      s.regsBut u [Reg.APPLY_SLOT_TARGET n, Reg.APPLY_SLOT_ACTION n, Reg.APPLY_SLOT_MASK0 n, Reg.APPLY_SLOT_MASK1 n,
        Reg.APPLY_SLOT_MASK2 n, Reg.APPLY_SLOT_MASK3 n] ∧
      { u with regs := s.regs, slots := s.slots, pair := s.pair, ring := s.ring, out := s.out } = s) ∧
  (∀ (n : Fin 32) (target action mask0 mask1 mask2 mask3 fwd crc : Nat) (s : State), s.stCode (Reg.pagePEER 2) = 4 →
      s.pairMode = true → s.follows = true → s.pair.slotWait = [] →
      0 ≤ sdiff 16 (smGet (fun _ => 0) (s.peerPort 2).rxSeq 2) fwd →
      crc32c ((s.wrs [(Reg.APPLY_SLOT_TARGET n, target), (Reg.APPLY_SLOT_ACTION n, action), (Reg.APPLY_SLOT_MASK0 n,
      mask0), (Reg.APPLY_SLOT_MASK1 n, mask1), (Reg.APPLY_SLOT_MASK2 n, mask2), (Reg.APPLY_SLOT_MASK3 n,
      mask3)]).slotRegion n) = crc →
    ∃ u : State, exec (.slotMessage n target action mask0 mask1 mask2 mask3 fwd crc) s = .next u ∧
      u.slotSt n = 7 ∧ (u.slot n).acked = true ∧
      u.out = s.out ++ [Out.peer 2 1 ((smGet (fun _ => 0) (s.peerPort 2).txSeq 1 + 1) % 65536) 0x11 [n]] ∧
      s.regsBut u ([Reg.APPLY_SLOT_TARGET n, Reg.APPLY_SLOT_ACTION n, Reg.APPLY_SLOT_MASK0 n,
        Reg.APPLY_SLOT_MASK1 n, Reg.APPLY_SLOT_MASK2 n, Reg.APPLY_SLOT_MASK3 n] ++ [Reg.APPLY_SLOT_STATUS n]) ∧
      { u with regs := s.regs, slots := s.slots, pair := s.pair, ring := s.ring, out := s.out } = s) ∧
  (∀ (n : Fin 32) (s : State), s.stCode (Reg.pagePEER 2) = 4 → s.leads = true → s.paired = true → s.slotSt n = 7 →
      0 ≤ ldiff (ladd (s.slotTarget n) (-16)) s.nextLine →
    ∃ u : State, exec (.slotAck n) s = .next u ∧
      u.slotSt n = 1 ∧
      u.out = s.out ++ [Out.peer 2 1 ((smGet (fun _ => 0) (s.peerPort 2).txSeq 1 + 1) % 65536) 0x13 [n]] ∧
      s.regsBut u [Reg.APPLY_SLOT_STATUS n] ∧ { u with regs := s.regs, ring := s.ring, out := s.out } = s) ∧
  (∀ (n : Fin 32) (s : State),
      s.leads = false ∨ s.paired = false ∨ s.slotSt n ≠ 7 ∨ ldiff (ladd (s.slotTarget n) (-16)) s.nextLine < 0 →
    exec (.slotAck n) s = .next s) ∧
  (∀ (n : Fin 32) (s : State), s.leads = false ∨ s.paired = false ∨ s.slotSt n ≠ 7 →
    exec (.slotNak n) s = .next s) ∧
  (∀ (n : Fin 32) (s : State), s.leads = true → s.paired = true → s.slotSt n = 7 →
      0 < ldiff s.nextLine (ladd (s.slotTarget n) (-16)) → (s.slot n).resched < s.reschedMax →
    ∃ u : State, exec (.slotAckDeadline n) s = .next u ∧
      u.slotSt n = 7 ∧ u.slotTarget n = ladd s.nextLine s.guard ∧ (u.slot n).resched = (s.slot n).resched + 1 ∧
      s.errored u Reg.pageAPPLY 0x000A 0 0 ∧ u.bit Reg.APPLY_SLOT_LATE n = true ∧
      u.bit (Reg.INT_STATUS Reg.pageAPPLY) 10 = true ∧
      s.pagesBut u ([Reg.pageAPPLY] ++ (List.range 1024).filter (fun q => (s.slotPages n).contains q)) ∧
      { u with regs := s.regs, slots := s.slots, ring := s.ring, out := s.out } = s) ∧
  (∀ (n : Fin 32) (s : State), s.leads = true → s.frozenPair = true → s.slotSt n = 7 →
      0 < ldiff s.nextLine (ladd (s.slotTarget n) (-16)) →
    ∃ u : State, exec (.slotAckDeadline n) s = .next u ∧
      u.slotSt n = 5 ∧ s.errored u Reg.pageAPPLY 0x0009 0 0 ∧ u.bit Reg.APPLY_SLOT_REFUSED n = true ∧
      u.rdF (Reg.APPLY_SLOT_STATUS n) 23 8 = 9 ∧
      s.pagesBut u ([Reg.pageAPPLY] ++ (List.range 1024).filter (fun q => (s.slotPages n).contains q)) ∧
      { u with regs := s.regs } = s) ∧
  (∀ (n : Fin 32) (s : State), s.leads = true → s.paired = true → s.slotSt n = 7 → (s.slot n).resched < s.reschedMax →
      s.slotAction n = 1 → s.slotTargets n = [] →
    ∃ u : State, exec (.slotNak n) s = .next u ∧
      u.slotSt n = 7 ∧ u.slotTarget n = ladd s.nextLine s.guard ∧ (u.slot n).resched = (s.slot n).resched + 1 ∧
      u.rd Reg.PAIR_DIGEST_FAIL = satInc 32 (s.rd Reg.PAIR_DIGEST_FAIL) ∧ s.errored u Reg.pageAPPLY 0x000A 0 0 ∧
      s.regsBut u (errorKeys Reg.pageAPPLY ++ [Reg.APPLY_SLOT_STATUS n, Reg.APPLY_SLOT_TARGET n,
        Reg.APPLY_SLOT_LATE] ++ [Reg.PAIR_DIGEST_FAIL]) ∧
      { u with regs := s.regs, slots := s.slots, ring := s.ring, out := s.out, pair := s.pair } = s) ∧
  (∀ (n : Fin 32) (s : State), s.follows = true → s.slotSt n = 7 → (s.slot n).acked = true →
      0 ≤ ldiff (ladd (s.slotTarget n) (-8)) s.nextLine →
    ∃ u : State, exec (.slotConfirm n) s = .next u ∧
      u.slotSt n = 1 ∧ s.regsBut u [Reg.APPLY_SLOT_STATUS n] ∧ { u with regs := s.regs } = s) ∧
  (∀ (n : Fin 32) (s : State),
      s.follows = false ∨ s.slotSt n ≠ 7 ∨ (s.slot n).acked = false ∨ ldiff (ladd (s.slotTarget n) (-8)) s.nextLine < 0 →
    exec (.slotConfirm n) s = .next s) ∧
  (∀ (n : Fin 32) (s : State), s.stCode (Reg.pagePEER 2) = 4 → s.follows = true → s.slotSt n = 7 →
      (s.slot n).acked = true → (s.slot n).fromLine = none → n.val ∉ s.pair.inDoubt →
      0 < ldiff s.nextLine (ladd (s.slotTarget n) (-8)) → s.peerUp 2 = true →
    ∃ u : State, exec (.inDoubt n) s = .next u ∧
      u.pair = { s.pair with inDoubt := s.pair.inDoubt ++ [n.val], absentFrom := s.pair.absentFrom ++ (s.slotReach n).map (fun c => (c, s.slotTarget n)) } ∧
      u.bit Reg.PAIR_PAIR_STATUS 13 = true ∧
      u.out = s.out ++ [Out.peer 2 1 ((smGet (fun _ => 0) (s.peerPort 2).txSeq 1 + 1) % 65536) 0x14 [n]] ∧
      s.regsBut u [Reg.PAIR_PAIR_STATUS] ∧ { u with regs := s.regs, pair := s.pair, ring := s.ring, out := s.out } = s) ∧
  (∀ (n : Fin 32) (s : State), s.follows = false ∨ s.slotSt n ≠ 7 ∨ n.val ∈ s.pair.inDoubt →
    exec (.inDoubt n) s = .next s) ∧
  (∀ (n : Fin 32) (applied : Bool) (line : Nat) (s : State), n.val ∉ s.pair.inDoubt →
    exec (.inDoubtAnswer n applied line) s = .next s) ∧
  (∀ (n : Fin 32) (line : Nat) (s : State), n.val ∈ s.pair.inDoubt →
    ∃ u : State, exec (.inDoubtAnswer n true line) s = .next u ∧
      (u.slot n).fromLine = some line ∧
      u.pair = { s.pair with inDoubt := s.pair.inDoubt.filter (· != n.val), resumeAt := s.pair.resumeAt ++ (s.slotReach n).map (fun c => (c, line)) } ∧
      u.bit Reg.PAIR_PAIR_STATUS 13 = !u.pair.inDoubt.isEmpty ∧ u.slotSt n = s.slotSt n ∧
      s.regsBut u [Reg.PAIR_PAIR_STATUS] ∧ { u with regs := s.regs, pair := s.pair, slots := s.slots } = s) ∧
  (∀ (n : Fin 32) (line : Nat) (s : State), n.val ∈ s.pair.inDoubt →
    ∃ u : State, exec (.inDoubtAnswer n false line) s = .next u ∧
      u.slotSt n = 6 ∧
      u.pair = { s.pair with inDoubt := s.pair.inDoubt.filter (· != n.val), absentFrom := s.pair.absentFrom.filter (fun e => !((s.slotReach n).contains e.1 && e.2 == s.slotTarget n)) } ∧
      s.regsBut u [Reg.PAIR_PAIR_STATUS, Reg.APPLY_SLOT_STATUS n] ∧ { u with regs := s.regs, pair := s.pair } = s) ∧
  (∀ (n : Fin 32) (s : State), s.follows = true → s.slotSt n = 1 ∨ s.slotSt n = 7 →
    ∃ u : State, exec (.slotCancelMessage n) s = .next u ∧
      u.slotSt n = 6 ∧ u.pair = { s.pair with slotWait := s.pair.slotWait.filter (fun m => m.getD 0 0 != n.val) } ∧
      s.regsBut u [Reg.APPLY_SLOT_STATUS n] ∧ { u with regs := s.regs, pair := s.pair } = s) ∧
  (∀ (n : Fin 32) (s : State), s.follows = false ∨ s.slotSt n ≠ 1 ∧ s.slotSt n ≠ 7 →
    exec (.slotCancelMessage n) s = .next s)

/-- Runs, ticks, retrains, handover, SYNC, digests and health in a pair. The follower begins the run that the leader
starts and follows the phase of its ticks; the leader grants one retrain of a head; at the agreed line roles
swap or the retiring module goes to SAFE and its partner is ALONE; SYNC is entered and completed; a digest that
differs is counted and repaired; health is published. Spec: 11_pair_and_ring.md. -/
def Obligations.PairAgreement : Prop :=
  (∀ (startLine run t : Nat) (s : State), s.runSt ≠ 1 →
    exec (.startMessage startLine run t) s = .next (s.till t)) ∧
  (∀ (startLine run t : Nat) (s : State), s.runSt = 1 → fld s.line.runCfg 1 0 = 3 → s.follows = true →
      s.sourceLost = false →
    ∃ u : State, exec (.startMessage startLine run t) s = .next u ∧
      u.frc = (s.till t).frc ∧ u.runSt = 2 ∧ u.rd Reg.LINE_ADMIT_LINE = startLine % 2 ^ 32 ∧
      u.rd Reg.LINE_CURRENT_LINE = ladd startLine (-(s.rdF Reg.LINE_LOOKAHEAD 5 0 : Int) - 1) ∧
      (u.line.startLine, u.line.runNum) = (startLine, run % 256) ∧ u.bit (Reg.INT_STATUS Reg.pageLINE) 8 = true ∧
      s.pagesBut u ([Reg.pageLINE, Reg.pageSYS] ++ (List.range 8).map Reg.pagePLANE ++
        (List.range 128).map Reg.pageCH) ∧
      { u with regs := s.regs, line := s.line, frc := s.frc, ring := s.ring, out := s.out } = s) ∧
  (∀ (line leaderFrc : Nat) (s : State), s.pairMode = false ∨ s.follows = false ∨ s.peerUp 2 = false →
    exec (.tickInstant line leaderFrc) s = .next s) ∧
  (∀ (line leaderFrc f : Nat) (o e : Int) (s : State), s.pairMode = true → s.follows = true → s.peerUp 2 = true →
      s.tickOf line = some f → (s.peerPort 2).offset = some o → e = (f : Int) - (leaderFrc - o) → e.natAbs ≤ 8 →
      s.phi = 0 →
    ∃ u : State, exec (.tickInstant line leaderFrc) s = .next u ∧
      u.phi = -e ∧ u.rdF Reg.PAIR_TICK_SKEW 15 0 = satSgn 16 ((e * 5).fdiv 4) ∧
      (u.pair.skewRun, u.pair.limitRun) = (0, 0) ∧ s.regsBut u [Reg.PAIR_TICK_SKEW, Reg.PAIR_TICK_SKEW_MAX] ∧
      { u with regs := s.regs, pair := s.pair } = s) ∧
  (∀ (c : Fin 128) (rateUp : Bool) (s : State), s.stCode (Reg.pagePEER 2) = 4 → s.leads = true → s.paired = true →
      smGet (fun _ => 0) s.pair.grants c = 0 → s.laneSt c = 5 →
    ∃ u : State, exec (.retrainRequest c rateUp) s = .next u ∧
      smGet (fun _ => 0) u.pair.grants c = 2 ∧
      u.out = s.out ++ [Out.peer 2 1 ((smGet (fun _ => 0) (s.peerPort 2).txSeq 1 + 1) % 65536) 0x21 [c]] ∧
      { u with pair := s.pair, ring := s.ring, out := s.out } = s) ∧
  (∀ (c : Fin 128) (rateUp : Bool) (s : State), s.leads = false →
    exec (.retrainRequest c rateUp) s = .next s) ∧
  (∀ (c : Fin 128) (rateUp : Bool) (s : State), s.stCode (Reg.pagePEER 2) = 4 → s.leads = true →
      s.paired = false ∨ smGet (fun _ => 0) s.pair.grants c ≠ 0 ∨ s.laneSt c ≠ 5 →
    ∃ u : State, exec (.retrainRequest c rateUp) s = .next u ∧
      u.out = s.out ++ [Out.peer 2 1 ((smGet (fun _ => 0) (s.peerPort 2).txSeq 1 + 1) % 65536) 0x23 [c]] ∧
      { u with ring := s.ring, out := s.out } = s) ∧
  (∀ (c : Fin 128) (rateUp : Bool) (s : State), s.stCode (Reg.pagePEER 2) ≠ 4 → s.leads = true →
    ∃ u : State, exec (.retrainRequest c rateUp) s = .next u ∧
      (u.peerPort 2).waiting = (s.peerPort 2).waiting ++ [(1,
        (smGet (fun _ => 0) (s.peerPort 2).txSeq 1 + 1) % 65536)] ∧ { u with pair := s.pair, ring := s.ring } = s) ∧
  (∀ s : State, s.pair.handover = none →
    exec (.handoverAtLine) s = .next s) ∧
  (∀ (h : Handover) (s : State), s.pair.handover = some h → ldiff s.nextLine h.line < 0 →
    exec (.handoverAtLine) s = .next s) ∧
  (∀ (h : Handover) (s : State), s.pair.handover = some h → 0 ≤ ldiff s.nextLine h.line → h.retire = false →
      s.leads = true → s.wired = true →
    ∃ u : State, exec (.handoverAtLine) s = .next u ∧
      u.role = 2 ∧ u.cond = s.cond ∧ u.rdF Reg.PAIR_HANDOVER_STATUS 2 0 = 2 ∧
      u.bit Reg.PAIR_PAIR_STATUS 8 = s.bit Reg.PAIR_PAIR_STATUS 8 ∧ u.bit (Reg.INT_STATUS Reg.pagePAIR) 14 = true ∧
      (u.pair.handover, u.pair.leaseEnd) = (none, s.pair.leaseEnd) ∧
      s.regsBut u ([Reg.PAIR_PAIR_STATUS, Reg.STATUS Reg.pagePAIR, Reg.INT_STATUS Reg.pagePAIR] ++
        [Reg.PAIR_HANDOVER_STATUS, Reg.PAIR_TICK_SKEW] ++ tallyKeys) ∧
      { u with regs := s.regs, pair := s.pair, mgmt := s.mgmt } = s) ∧
  (∀ (h : Handover) (s : State), s.pair.handover = some h → 0 ≤ ldiff s.nextLine h.line → h.retire = false →
      s.follows = true → s.wired = true →
    ∃ u : State, exec (.handoverAtLine) s = .next u ∧
      u.role = 1 ∧ u.cond = s.cond ∧ u.rdF Reg.PAIR_HANDOVER_STATUS 2 0 = 2 ∧ u.rd Reg.PAIR_TICK_SKEW = 0 ∧
      s.regsBut u ([Reg.PAIR_PAIR_STATUS, Reg.STATUS Reg.pagePAIR, Reg.INT_STATUS Reg.pagePAIR] ++
        [Reg.PAIR_HANDOVER_STATUS, Reg.PAIR_TICK_SKEW] ++ tallyKeys) ∧
      { u with regs := s.regs, pair := s.pair, mgmt := s.mgmt } = s) ∧
  (∀ (h : Handover) (s : State), s.pair.handover = some h → 0 ≤ ldiff s.nextLine h.line → h.retire = true →
      h.mine = false → s.leads = true → s.pairMode = true → (∀ n ∈ List.range 32, s.slotSt n ≠ 7) →
      channels.filter s.retrainPending = [] →
    ∃ u : State, exec (.handoverAtLine) s = .next u ∧
      (u.cond, u.role) = (6, 1) ∧ (u.pair.partnerGone, u.pair.lost, u.pair.synced) = (true, true, false) ∧
      u.rdF Reg.PAIR_HANDOVER_STATUS 2 0 = 2 ∧
      s.regsBut u ([Reg.PAIR_PAIR_STATUS, Reg.STATUS Reg.pagePAIR, Reg.INT_STATUS Reg.pagePAIR] ++
        [Reg.PAIR_HANDOVER_STATUS, Reg.PAIR_TICK_SKEW] ++ tallyKeys) ∧
      { u with regs := s.regs, pair := s.pair, mgmt := s.mgmt } = s) ∧
  (∀ (h : Handover) (s : State), s.pair.handover = some h → 0 ≤ ldiff s.nextLine h.line → h.retire = true →
      h.mine = false → s.leads = true → s.pairMode = true →
    ∃ u : State, exec (.handoverAtLine) s = .next u ∧
      (u.cond, u.role) = (6, 1) ∧ (u.pair.partnerGone, u.pair.lost, u.pair.synced) = (true, true, false) ∧
      u.rdF Reg.PAIR_HANDOVER_STATUS 2 0 = 2 ∧
      s.pagesBut u ([Reg.pagePAIR, Reg.pageAPPLY, Reg.pageSYS, Reg.pageTALLY] ++ (List.range 128).map Reg.pageCH) ∧
      { u with regs := s.regs, pair := s.pair, mgmt := s.mgmt, lanes := s.lanes, line := s.line, out := s.out, scr := s.scr, ring := s.ring, net := s.net, slots := s.slots } =
        s) ∧
  (∀ (h : Handover) (s : State), s.pair.handover = some h → 0 ≤ ldiff s.nextLine h.line → h.retire = true →
      h.mine = true → s.follows = true → s.runSt = 0 → s.dram.stop = false →
    ∃ u : State, exec (.handoverAtLine) s = .next u ∧
      (u.cond, u.role) = (7, 2) ∧ u.modState = 7 ∧ u.rdF Reg.PAIR_HANDOVER_STATUS 2 0 = 2 ∧
      s.pagesBut u [Reg.pagePAIR, Reg.pageSYS, Reg.pageTALLY, Reg.pageLAMP 0, Reg.pageLAMP 1, Reg.pageLAMP 2,
        Reg.pageLAMP 3, Reg.pageCAM 0, Reg.pageCAM 1, Reg.pageISP, Reg.pageSCALER] ∧
      { u with regs := s.regs, pair := s.pair, mgmt := s.mgmt, line := s.line, out := s.out, lanes := s.lanes, lamp := s.lamp, cam := s.cam, colour := s.colour } =
        s) ∧
  (∀ s : State, s.pairMode = true → s.cond = 1 ∨ s.cond = 4 ∨ s.cond = 5 → s.peerUp 2 = true →
      s.bit Reg.PAIR_PAIR_STATUS 9 = true → s.bit Reg.PAIR_PAIR_STATUS 10 = true → s.bit Reg.PAIR_PAIR_STATUS 8 = false →
      s.pair.partnerRole = 1 → s.bit Reg.FW_FW_STATUS 4 = false → s.pair.partnerCond = 2 → s.slotsQuiet = true →
    ∃ u : State, exec (.syncEntry) s = .next u ∧
      (u.cond, u.role) = (2, 2) ∧
      (u.pair.lost, u.pair.synced, u.pair.inDoubt, u.pair.slotWait) = (false, false, [], []) ∧
      u.bit Reg.PAIR_PAIR_STATUS 13 = false ∧ u.job.partner = [] ∧
      (∀ n ∈ List.range 32, u.slotSt n = (if s.slotSt n = 1 then 7 else s.slotSt n)) ∧
      s.regsBut u ([Reg.PAIR_PAIR_STATUS, Reg.STATUS Reg.pagePAIR, Reg.INT_STATUS Reg.pagePAIR] ++ tallyKeys ++
        (List.range 32).map Reg.APPLY_SLOT_STATUS) ∧
      { u with regs := s.regs, pair := s.pair, mgmt := s.mgmt, job := s.job, ring := s.ring, out := s.out, slots := s.slots } =
        s) ∧
  (∀ s : State, s.pairMode = true → s.cond = 1 ∨ s.cond = 4 ∨ s.cond = 5 → s.peerUp 2 = true →
      s.bit Reg.PAIR_PAIR_STATUS 9 = true → s.bit Reg.PAIR_PAIR_STATUS 10 = true → s.bit Reg.PAIR_PAIR_STATUS 8 = false →
      s.pair.partnerRole = 1 → s.bit Reg.FW_FW_STATUS 4 = false → s.pair.partnerCond ≠ 2 ∨ s.slotsQuiet = false →
    ∃ u : State, exec (.syncEntry) s = .next u ∧
      (u.cond, u.role) = (1, 2) ∧ u.pair.lost = s.pair.lost ∧
      s.regsBut u ([Reg.PAIR_PAIR_STATUS, Reg.STATUS Reg.pagePAIR, Reg.INT_STATUS Reg.pagePAIR] ++ tallyKeys) ∧
      { u with regs := s.regs, pair := s.pair, mgmt := s.mgmt, job := s.job, ring := s.ring, out := s.out } = s) ∧
  (∀ s : State, s.pairMode = false ∨ s.peerUp 2 = false ∨ s.pair.partnerRole ≠ 1 →
    exec (.syncEntry) s = .next s) ∧
  (∀ s : State, s.cond ≠ 2 →
    exec (.syncComplete) s = .next s) ∧
  (∀ s : State, s.cond = 2 → s.leads = true → s.pair.armWait = [] → (∀ n ∈ List.range 32, s.slotSt n ≠ 7) →
    ∃ u : State, exec (.syncComplete) s = .next u ∧
      (u.cond, u.role) = (3, 1) ∧ u.pair.synced = true ∧ u.scr = s.scr ∧
      u.bit (Reg.INT_STATUS Reg.pagePAIR) 9 = true ∧
      s.regsBut u [Reg.PAIR_PAIR_STATUS, Reg.STATUS Reg.pagePAIR, Reg.INT_STATUS Reg.pagePAIR] ∧
      { u with regs := s.regs, pair := s.pair } = s) ∧
  (∀ s : State, s.cond = 2 → s.leads = false → s.printing = true →
    exec (.syncComplete) s = .next s) ∧
  (∀ s : State, s.stCode (Reg.pagePEER 2) = 4 → s.cond = 2 → s.leads = false → s.printing = false →
    ∃ u : State, exec (.syncComplete) s = .next u ∧
      (u.cond, u.role) = (2, s.role) ∧ u.scr.active = s.scr.target ∧ u.pair.synced = s.pair.synced ∧
      u.out = s.out ++ [Out.peer 2 1 ((smGet (fun _ => 0) (s.peerPort 2).txSeq 1 + 1) % 65536) 0x43 []]) ∧
  (∀ (src : Req) (s : State), s.cutOff src = false → s.pairMode = false →
    ∃ u : State, exec (.digestNow src) s = .next u ∧
      s.errored u Reg.pagePAIR 0x0101 Reg.PAIR_PAIR_CTRL (srcCode src) ∧ s.regsBut u (errorKeys Reg.pagePAIR) ∧
      { u with regs := s.regs } = s) ∧
  (∀ (src : Req) (s : State), s.cutOff src = false → s.stCode (Reg.pagePEER 2) = 4 → s.pairMode = true → s.cond = 3 →
      s.leads = true → s.runSt ≠ 2 → s.pair.theirs = none →
    ∃ u : State, exec (.digestNow src) s = .next u ∧
      u.pair = { s.pair with digestAt := none, digests := some (s.nextLine, ((List.range 136).filter (fun x => !s.digestSkipped x)).map (fun x => (x, s.digest x))) } ∧
      u.out = s.out ++ [Out.peer 2 1 ((smGet (fun _ => 0) (s.peerPort 2).txSeq 1 + 1) % 65536) 0x44 [0, s.nextLine],
        Out.peer 2 3 ((smGet (fun _ => 0) (s.peerPort 2).txSeq 3 + 1) % 65536) 0x02 (s.nextLine :: (((List.range 136).filter (fun x => !s.digestSkipped x)).map (fun x => (x,
        s.digest x))).flatMap (fun d => [d.1, d.2]))] ∧ { u with pair := s.pair, ring := s.ring, out := s.out } = s) ∧
  (∀ (src : Req) (s : State), s.cutOff src = false → s.stCode (Reg.pagePEER 2) = 4 → s.pairMode = true → s.cond = 3 →
      s.leads = true → s.runSt = 2 →
    ∃ u : State, exec (.digestNow src) s = .next u ∧
      u.pair = { s.pair with digestAt := some (ladd s.nextLine s.guard) } ∧
      u.out = s.out ++ [Out.peer 2 1 ((smGet (fun _ => 0) (s.peerPort 2).txSeq 1 + 1) % 65536) 0x44 [1,
        ladd s.nextLine s.guard]] ∧ { u with pair := s.pair, ring := s.ring, out := s.out } = s) ∧
  (∀ s : State, s.stCode (Reg.pagePEER 2) = 4 → s.pairMode = true → s.cond = 3 → s.leads = true → s.runSt ≠ 2 →
      s.pair.theirs = none →
    ∃ u : State, exec (.selfTestDigest) s = .next u ∧
      u.pair = { s.pair with digestAt := none, digests := some (s.nextLine, ((List.range 136).filter (fun x => !s.digestSkipped x)).map (fun x => (x, s.digest x))) } ∧
      u.out = s.out ++ [Out.peer 2 1 ((smGet (fun _ => 0) (s.peerPort 2).txSeq 1 + 1) % 65536) 0x44 [0, s.nextLine],
        Out.peer 2 3 ((smGet (fun _ => 0) (s.peerPort 2).txSeq 3 + 1) % 65536) 0x02 (s.nextLine :: (((List.range 136).filter (fun x => !s.digestSkipped x)).map (fun x => (x,
        s.digest x))).flatMap (fun d => [d.1, d.2]))] ∧ { u with pair := s.pair, ring := s.ring, out := s.out } = s) ∧
  (∀ s : State, s.stCode (Reg.pagePEER 2) = 4 → s.pairMode = true → s.cond = 3 → s.leads = true → s.runSt = 2 →
    ∃ u : State, exec (.selfTestDigest) s = .next u ∧
      u.pair = { s.pair with digestAt := some (ladd s.nextLine s.guard) } ∧
      u.out = s.out ++ [Out.peer 2 1 ((smGet (fun _ => 0) (s.peerPort 2).txSeq 1 + 1) % 65536) 0x44 [1,
        ladd s.nextLine s.guard]] ∧ { u with pair := s.pair, ring := s.ring, out := s.out } = s) ∧
  (∀ (src : Req) (s : State), s.cutOff src = false → s.stCode (Reg.pagePEER 2) = 4 → s.pairMode = true → s.cond = 3 →
      s.leads = false →
    ∃ u : State, exec (.digestNow src) s = .next u ∧
      u.out = s.out ++ [Out.peer 2 1 ((smGet (fun _ => 0) (s.peerPort 2).txSeq 1 + 1) % 65536) 0x45 []] ∧
      { u with ring := s.ring, out := s.out } = s) ∧
  (∀ (src : Req) (s : State), s.cutOff src = false → s.pairMode = true → s.cond ≠ 3 →
    exec (.digestNow src) s = .next s) ∧
  (∀ s : State, s.paired = false ∨ s.leads = false →
    exec (.selfTestDigest) s = .next s) ∧
  (∀ (line x d v : Nat) (s : State), s.pairMode = true → s.cond = 3 → s.pair.digests = some (line, [(x, d)]) → d ≠ v →
      x ∉ s.pair.repair → s.pair.dupRise = false →
    ∃ u : State, s.takeDigests line [(x, v)] = u ∧
      u.rd Reg.PAIR_DIGEST_FAIL = satInc 32 (s.rd Reg.PAIR_DIGEST_FAIL) ∧
      u.bit (Reg.INT_STATUS Reg.pagePAIR) 13 = true ∧
      u.pair = { s.pair with digests := none, theirs := none, repair := s.pair.repair ++ [x] } ∧
      s.regsBut u [Reg.PAIR_DIGEST_FAIL, Reg.INT_STATUS Reg.pagePAIR] ∧ { u with regs := s.regs, pair := s.pair } = s) ∧
  (∀ (line x d v : Nat) (s : State), s.pairMode = true → s.cond = 3 → s.pair.digests = some (line, [(x, d)]) → d = v →
      s.pair.dupRise = true →
    ∃ u : State, s.takeDigests line [(x, v)] = u ∧
      u.rd Reg.PAIR_DUP_UNEXPLAINED = satInc 32 (s.rd Reg.PAIR_DUP_UNEXPLAINED) ∧
      u.bit (Reg.INT_STATUS Reg.pagePAIR) 16 = true ∧
      u.pair = { s.pair with digests := none, theirs := none, dupRise := false } ∧
      s.regsBut u [Reg.PAIR_DUP_UNEXPLAINED, Reg.INT_STATUS Reg.pagePAIR] ∧
      { u with regs := s.regs, pair := s.pair } = s) ∧
  (∀ (line x d v : Nat) (s : State), s.pairMode = true → s.cond = 3 →
      s.pair.digests = none ∨ s.pair.digests = some (d, []) ∧ d ≠ line →
    ∃ u : State, s.takeDigests line [(x, v)] = u ∧
      u.pair = { s.pair with theirs := some (line, [(x, v)]) } ∧ { u with pair := s.pair } = s) ∧
  (∀ (target : Nat) (s : State), target ∉ s.pair.repair →
    exec (.digestFail target) s = .next s) ∧
  (∀ (target : Nat) (s : State), target ∈ s.pair.repair → s.leads = false → s.printing = true →
    ∃ u : State, exec (.digestFail target) s = .next u ∧
      u.pair = { s.pair with repair := s.pair.repair.filter (· != target), absentFrom := s.pair.absentFrom ++ (digestChans target).map (fun c => (c, s.nextLine)) } ∧
      { u with pair := s.pair } = s) ∧
  (∀ (target : Nat) (s : State), target ∈ s.pair.repair → s.leads = false → s.printing = false →
    ∃ u : State, exec (.digestFail target) s = .next u ∧
      u.pair = { s.pair with repair := s.pair.repair.filter (· != target) } ∧ { u with pair := s.pair } = s) ∧
  (∀ (target : Nat) (s : State), target ∈ s.pair.repair → s.leads = true → s.stCode (Reg.pagePEER 2) = 4 →
    ∃ u : State, exec (.digestFail target) s = .next u ∧
      u.pair = { s.pair with repair := s.pair.repair.filter (· != target) } ∧
      u.out.getLast? = some (Out.peer 2 2 (smGet (fun _ => 0) (u.peerPort 2).txSeq 2) 0x04 [target,
        ladd s.nextLine s.guard]) ∧ { u with pair := s.pair, ring := s.ring, out := s.out } = s) ∧
  (∀ (partner : Option Nat) (s : State), s.pairMode = false →
    exec (.healthPublish partner) s = .next s) ∧
  (∀ (h : Nat) (s : State), s.stCode (Reg.pagePEER 2) = 4 → s.pairMode = true →
    ∃ u : State, exec (.healthPublish (some h)) s = .next u ∧
      u.rd Reg.PAIR_HEALTH = s.health ∧ u.rd Reg.PAIR_PARTNER_HEALTH = h % 65536 ∧
      u.out = s.out ++ [Out.peer 2 3 ((smGet (fun _ => 0) (s.peerPort 2).txSeq 3 + 1) % 65536) 0x03 [s.health]] ∧
      s.regsBut u [Reg.PAIR_HEALTH, Reg.PAIR_PARTNER_HEALTH] ∧
      { u with regs := s.regs, ring := s.ring, out := s.out } = s)

/-- Closure and enumeration of a ring. A node passes the closure probe on, and the root that gets its own back takes
address 1 and sends ENUM east; a node takes the next address and passes ENUM on with its report; the root ends
the enumeration with NODE_COUNT and the latency bound; without closure for 10 s the root makes a chain;
ENUMERATE belongs to the root outside PRINT, and RESYNC makes a node converge again. Spec: 11_pair_and_ring.md. -/
def Obligations.RingEnumeration : Prop :=
  (∀ (root t : Nat) (s : State), s.ringMode = false →
    exec (.closureProbe root t) s = .next (s.till t)) ∧
  (∀ (root t : Nat) (s : State), s.ringMode = true → s.isRoot = false → s.peerUp 1 = true →
    ∃ u : State, exec (.closureProbe root t) s = .next u ∧
      u.frc = (s.till t).frc ∧ u.out = s.out ++ [Out.peerBlock 1 0x06 [root]] ∧
      { u with frc := s.frc, out := s.out } = s) ∧
  (∀ (root t : Nat) (s : State), s.ringMode = true → s.isRoot = true →
      root = s.rd64 Reg.SYS_SERIAL_LO Reg.SYS_SERIAL_HI → s.ringSt = 3 → s.peerUp 1 = true →
    ∃ u : State, exec (.closureProbe root t) s = .next u ∧
      u.frc = (s.till t).frc ∧ u.ringSt = 4 ∧ u.ringAddr = 1 ∧
      u.ring = { s.ring with enumFrc := (s.till t).frc, chain := false, eastNodes := 0 } ∧
      u.out = s.out ++ [Out.peerBlock 1 0x05 (enumFields { addr := 1, count := 0, root := root, east := true, chain := false, reports := [s.ringReport] })] ∧
      s.regsBut u [Reg.STATUS Reg.pageRING, Reg.RING_RING_STATUS] ∧
      { u with regs := s.regs, frc := s.frc, ring := s.ring, out := s.out } = s) ∧
  (∀ (root t : Nat) (s : State), s.ringMode = true → s.isRoot = true →
      s.rd64 Reg.SYS_SERIAL_LO Reg.SYS_SERIAL_HI < root →
    exec (.closureProbe root t) s = .next (s.till t)) ∧
  (∀ (fromW : Bool) (m : Enum) (t : Nat) (s : State), s.ringMode = false →
    exec (.ringEnum fromW m t) s = .next (s.till t)) ∧
  (∀ (fromW : Bool) (m : Enum) (t : Nat) (s : State), s.ringMode = true → s.isRoot = false → m.count = 0 →
      fromW = m.east → s.peerUp (if fromW then 1 else 0) = true → m.addr < 4094 →
    ∃ u : State, exec (.ringEnum fromW m t) s = .next u ∧
      u.frc = (s.till t).frc ∧ u.ringAddr = m.addr + 1 ∧ u.ringSt = 5 ∧
      u.ring = { s.ring with fromW := fromW, chain := m.chain } ∧
      u.out = s.out ++ [Out.peerBlock (if fromW then 1 else 0) 0x05 (enumFields { m with addr := m.addr + 1, reports := m.reports ++ [s.ringReport] })] ∧
      s.regsBut u [Reg.STATUS Reg.pageRING, Reg.RING_RING_STATUS] ∧
      { u with regs := s.regs, frc := s.frc, ring := s.ring, out := s.out } = s) ∧
  (∀ (fromW : Bool) (m : Enum) (t : Nat) (s : State), s.ringMode = true → s.isRoot = false → m.count = 0 →
      fromW = m.east → s.peerUp (if fromW then 1 else 0) = true → 4094 ≤ m.addr →
    ∃ u : State, exec (.ringEnum fromW m t) s = .next u ∧
      u.frc = (s.till t).frc ∧ u.ringAddr = 0 ∧ u.ringSt = 8 ∧
      s.regsBut u [Reg.STATUS Reg.pageRING, Reg.RING_RING_STATUS] ∧
      { u with regs := s.regs, frc := s.frc, ring := s.ring, out := s.out } = s) ∧
  (∀ (fromW : Bool) (m : Enum) (t : Nat) (s : State), s.ringMode = true → s.isRoot = false → m.count = 0 →
      fromW ≠ m.east → s.peerUp (if fromW then 1 else 0) = true →
    ∃ u : State, exec (.ringEnum fromW m t) s = .next u ∧
      u.frc = (s.till t).frc ∧ u.out = s.out ++ [Out.peerBlock (if fromW then 1 else 0) 0x05 (enumFields m)] ∧
      { u with frc := s.frc, out := s.out } = s) ∧
  (∀ (fromW : Bool) (m : Enum) (t : Nat) (s : State), s.ringMode = true → s.isRoot = false → m.count ≠ 0 →
    ∃ u : State, exec (.ringEnum fromW m t) s = .next u ∧
      u.frc = (s.till t).frc ∧ u.rd Reg.RING_NODE_COUNT = m.count % 8192 ∧
      u.rd Reg.RING_TL = tlOf (m.count % 8192) % 2 ^ 32 ∧ s.regsBut u [Reg.RING_NODE_COUNT, Reg.RING_TL] ∧
      { u with regs := s.regs, frc := s.frc, out := s.out } = s) ∧
  (∀ (fromW : Bool) (m : Enum) (t : Nat) (s : State), s.ringMode = true → s.isRoot = true →
      m.root = s.rd64 Reg.SYS_SERIAL_LO Reg.SYS_SERIAL_HI → m.count = 0 → s.ringSt = 4 → fromW = true → m.chain = false →
      m.addr ≤ 4094 → reportsClash true s.ring.eastNodes m.reports = false →
    ∃ u : State, exec (.ringEnum fromW m t) s = .next u ∧
      u.frc = (s.till t).frc ∧ u.rd Reg.RING_NODE_COUNT = m.addr ∧ u.ringSt = 6 ∧
      u.bit (Reg.INT_STATUS Reg.pageRING) 8 = true ∧ u.rd Reg.RING_TL = tlOf m.addr ∧
      s.pagesBut u ([Reg.pageRING, Reg.pageSYS, Reg.pageTALLY] ++ (List.range 128).map Reg.pageCH) ∧
      { u with regs := s.regs, frc := s.frc, out := s.out, lanes := s.lanes, mgmt := s.mgmt, ring := s.ring } = s) ∧
  (∀ (fromW : Bool) (m : Enum) (t : Nat) (s : State), s.ringMode = true → s.isRoot = true →
      m.root = s.rd64 Reg.SYS_SERIAL_LO Reg.SYS_SERIAL_HI → m.count = 0 → s.ringSt = 4 → fromW = true →
      4094 < m.addr ∨ reportsClash (!m.chain) s.ring.eastNodes m.reports = true →
    ∃ u : State, exec (.ringEnum fromW m t) s = .next u ∧
      u.frc = (s.till t).frc ∧ u.ringSt = 8 ∧ u.bit (Reg.INT_STATUS Reg.pageRING) 11 = true ∧
      s.pagesBut u ([Reg.pageRING, Reg.pageSYS, Reg.pageTALLY] ++ (List.range 128).map Reg.pageCH) ∧
      { u with regs := s.regs, frc := s.frc, out := s.out, lanes := s.lanes, mgmt := s.mgmt, ring := s.ring } = s) ∧
  (∀ (fromW : Bool) (m : Enum) (t : Nat) (s : State), s.ringMode = true → s.isRoot = true →
      m.root = s.rd64 Reg.SYS_SERIAL_LO Reg.SYS_SERIAL_HI → m.count = 0 → s.ringSt = 7 → fromW = false → m.east = true →
      s.peerUp 0 = true →
    ∃ u : State, exec (.ringEnum fromW m t) s = .next u ∧
      u.frc = (s.till t).frc ∧ u.ring = { s.ring with eastNodes := m.addr } ∧
      u.out = s.out ++ [Out.peerBlock 0 0x05 (enumFields { m with east := false })] ∧
      { u with frc := s.frc, ring := s.ring, out := s.out } = s) ∧
  (∀ (t : Nat) (s : State), s.ringMode = true → s.isRoot = true → s.ringSt = 1 ∨ s.ringSt = 3 →
      8000000000 ≤ (s.till t).frc - s.ring.waitFrc → s.peerUp 1 = true →
    ∃ u : State, exec (.closureTimeout t) s = .next u ∧
      u.frc = (s.till t).frc ∧ u.ringSt = 7 ∧ u.ringAddr = 1 ∧
      u.out = s.out ++ [Out.peerBlock 1 0x05 (enumFields { addr := 1, count := 0, root := s.rd64 Reg.SYS_SERIAL_LO Reg.SYS_SERIAL_HI, east := true, chain := true, reports := [s.ringReport] })] ∧
      s.regsBut u [Reg.STATUS Reg.pageRING, Reg.RING_RING_STATUS] ∧
      { u with regs := s.regs, frc := s.frc, ring := s.ring, out := s.out } = s) ∧
  (∀ (t : Nat) (s : State), s.ringMode = false ∨ s.isRoot = false ∨ s.ringSt = 6 →
    exec (.closureTimeout t) s = .next (s.till t)) ∧
  (∀ (src : Req) (t : Nat) (s : State), s.cutOff src = false → s.isRoot = false →
    ∃ u : State, exec (.ringEnumerate src t) s = .next u ∧
      s.errored u Reg.pageRING 0x0103 Reg.RING_RING_CTRL (srcCode src) ∧ u.frc = (s.till t).frc ∧
      s.regsBut u (errorKeys Reg.pageRING) ∧ { u with regs := s.regs, frc := s.frc } = s) ∧
  (∀ (src : Req) (t : Nat) (s : State), s.cutOff src = false → s.isRoot = true → s.modState = 5 →
    ∃ u : State, exec (.ringEnumerate src t) s = .next u ∧
      s.errored u Reg.pageRING 0x0101 Reg.RING_RING_CTRL (srcCode src) ∧ u.frc = (s.till t).frc ∧
      s.regsBut u (errorKeys Reg.pageRING) ∧ { u with regs := s.regs, frc := s.frc } = s) ∧
  (∀ (src : Req) (t : Nat) (s : State), s.cutOff src = false → s.isRoot = true → s.modState ≠ 5 → s.peerUp 0 = true →
      s.peerUp 1 = true →
    ∃ u : State, exec (.ringEnumerate src t) s = .next u ∧
      u.frc = (s.till t).frc ∧ u.ringSt = 3 ∧
      u.out = s.out ++ [Out.peerBlock 1 0x06 [s.rd64 Reg.SYS_SERIAL_LO Reg.SYS_SERIAL_HI]] ∧
      u.ring = { s.ring with waitFrc := (s.till t).frc } ∧ s.regsBut u [Reg.STATUS Reg.pageRING] ∧
      { u with regs := s.regs, frc := s.frc, ring := s.ring, out := s.out } = s) ∧
  (∀ (src : Req) (t : Nat) (s : State), s.cutOff src = false → s.isRoot = true → s.modState ≠ 5 →
      s.peerUp 0 = false ∨ s.peerUp 1 = false →
    ∃ u : State, exec (.ringEnumerate src t) s = .next u ∧
      u.frc = (s.till t).frc ∧ u.ringSt = 1 ∧ u.ring = { s.ring with waitFrc := (s.till t).frc } ∧
      s.regsBut u [Reg.STATUS Reg.pageRING] ∧ { u with regs := s.regs, frc := s.frc, ring := s.ring } = s) ∧
  (∀ (src : Req) (s : State), s.cutOff src = false → s.ringSt = 6 ∨ s.ringSt = 7 → s.isRoot = false →
    ∃ u : State, exec (.ringResync src) s = .next u ∧
      u.ringSt = 5 ∧ u.bit (Reg.STATUS Reg.pageRING) 0 = false ∧ s.regsBut u [Reg.STATUS Reg.pageRING] ∧
      { u with regs := s.regs } = s) ∧
  (∀ (src : Req) (s : State), s.cutOff src = false → s.ringSt ≠ 6 ∧ s.ringSt ≠ 7 ∨ s.isRoot = true →
    exec (.ringResync src) s = .next s)

/-- Line predictions and advised rates in a ring. The root predicts its next line from the last lines of its source,
sends it on both ring ports once it lies within T_L, and keeps the last two; a node passes the first copy on and
schedules its tick, at once where it is late, keeps one that is ahead, and holds an interval where none comes;
the rates are exchanged every millisecond, the nodes sending theirs toward the root and the root returning the
lowest. Spec: 11_pair_and_ring.md. -/
def Obligations.RingTiming : Prop :=
  (∀ (t r : Nat) (s : State), s.ringRuns = true → s.isRoot = true →
      (s.till t).predictLine (s.till t).nextPrediction = some r →
      sdiff 80 r ((s.till t).ringTime (s.till t).frc) ≤ (s.rd Reg.RING_TL * 65536 : Nat) → s.peerUp 0 = true →
      s.peerUp 1 = true → s.line.due = [] → s.line.lastSource = none →
    ∃ u : State, exec (.linePrediction t) s = .next u ∧
      u.frc = (s.till t).frc ∧ u.ring.preds = (((s.till t).nextPrediction, r) :: s.ring.preds).take 2 ∧
      u.out = s.out ++ [Out.peerBlock 0 0x03 [(s.till t).nextPrediction, r],
        Out.peerBlock 1 0x03 [(s.till t).nextPrediction, r]] ∧ u.ring.held = 0 ∧
      u.line = { s.line with due := [s.frcOfRing r] } ∧
      { u with frc := s.frc, ring := s.ring, out := s.out, line := s.line } = s) ∧
  (∀ (t r : Nat) (s : State), s.ringRuns = true → s.isRoot = true →
      (s.till t).predictLine (s.till t).nextPrediction = some r →
      (s.rd Reg.RING_TL * 65536 : Nat) < sdiff 80 r ((s.till t).ringTime (s.till t).frc) →
    exec (.linePrediction t) s = .next (s.till t)) ∧
  (∀ (t : Nat) (s : State), s.ringRuns = false ∨ s.isRoot = false ∨ s.ring.marks.length < 2 →
    exec (.linePrediction t) s = .next (s.till t)) ∧
  (∀ (n a b : Nat) (s : State), s.ring.marks = [a, b] →
     s.predictLine n =
       some (unsgn 80 ((s.ringTime a : Int) + ldiff n s.ring.pos * sdiff 80 (s.ringTime a) (s.ringTime b)))) ∧
  (∀ (line ringTime t : Nat) (s : State), s.ringMode = true → s.isRoot = false → s.sourceInUse = 5 →
      s.newLine line = true → s.ring.base.isSome = true → s.dueLine line = true → s.ring.ahead = [] → s.peerUp 0 = true →
      s.peerUp 1 = true → s.line.due = [] → s.line.lastSource = none →
      1600 ≤ sdiff 64 (s.frcOfRing ringTime) (s.till t).frc →
    ∃ u : State, exec (.lineTime line ringTime t) s = .next u ∧
      u.frc = (s.till t).frc ∧ u.ring.preds = ((line, ringTime) :: s.ring.preds).take 2 ∧
      u.out = s.out ++ [Out.peerBlock 0 0x03 [line, ringTime], Out.peerBlock 1 0x03 [line, ringTime]] ∧
      u.line = { (s.sourceLine (s.frcOfRing ringTime)).line with due := [s.frcOfRing ringTime] } ∧
      { u with frc := s.frc, ring := s.ring, out := s.out, line := s.line } = s) ∧
  (∀ (line ringTime t : Nat) (s : State), s.ringMode = true → s.isRoot = false → s.sourceInUse = 5 →
      s.newLine line = true → s.ring.base.isSome = true → s.dueLine line = true → s.ring.ahead = [] → s.peerUp 0 = true →
      s.peerUp 1 = true → s.line.due = [] → s.line.lastSource = none →
      sdiff 64 (s.frcOfRing ringTime) (s.till t).frc < 1600 →
    ∃ u : State, exec (.lineTime line ringTime t) s = .next u ∧
      u.frc = (s.till t).frc ∧ u.ring.preds = ((line, ringTime) :: s.ring.preds).take 2 ∧
      u.out = s.out ++ [Out.peerBlock 0 0x03 [line, ringTime], Out.peerBlock 1 0x03 [line, ringTime]] ∧
      u.rd Reg.RING_PRED_LATE = satInc 32 (s.rd Reg.RING_PRED_LATE) ∧ u.bit (Reg.INT_STATUS Reg.pageRING) 10 = true ∧
      u.line = { (s.sourceLine ((s.till t).frc)).line with due := [(s.till t).frc] } ∧
      s.regsBut u [Reg.RING_PRED_LATE, Reg.INT_STATUS Reg.pageRING] ∧
      { u with regs := s.regs, frc := s.frc, ring := s.ring, out := s.out, line := s.line } = s) ∧
  (∀ (line ringTime t : Nat) (s : State), s.ringMode = true → s.isRoot = false → s.sourceInUse = 5 →
      s.newLine line = true → s.ring.base.isSome = true → s.dueLine line = false → s.peerUp 0 = true →
      s.peerUp 1 = true →
    ∃ u : State, exec (.lineTime line ringTime t) s = .next u ∧
      u.frc = (s.till t).frc ∧ u.ring = { s.ring with ahead := s.ring.ahead ++ [(line, ringTime)] } ∧
      u.out = s.out ++ [Out.peerBlock 0 0x03 [line, ringTime], Out.peerBlock 1 0x03 [line, ringTime]] ∧
      { u with frc := s.frc, ring := s.ring, out := s.out } = s) ∧
  (∀ (line ringTime t : Nat) (s : State), s.ringMode = false ∨ s.isRoot = true ∨ s.newLine line = false →
    exec (.lineTime line ringTime t) s = .next (s.till t)) ∧
  (∀ (t n1 t1 n0 t0 : Nat) (s : State), s.ring.preds = [(n1, t1), (n0, t0)] → s.ring.ahead = [] → s.ringMode = true →
      s.isRoot = false → s.sourceInUse = 5 → s.ring.base.isSome = true →
      0 ≤ sdiff 64 (s.till t).frc (s.frcOfRing (unsgn 80 ((t1 : Int) + sdiff 80 t1 t0 + sdiff 80 t1 t0 / 2))) →
      s.line.due = [] → s.line.lastSource = none → s.ring.held < 15 →
    ∃ u : State, exec (.predHold t) s = .next u ∧
      u.frc = (s.till t).frc ∧ u.ring.preds = [(ladd n1 1, unsgn 80 ((t1 : Int) + sdiff 80 t1 t0)), (n1, t1)] ∧
      u.ring.held = s.ring.held + 1 ∧ u.rd Reg.RING_PRED_HOLD = satInc 32 (s.rd Reg.RING_PRED_HOLD) ∧
      u.line = { (s.sourceLine ((s.till t).frc)).line with due := [(s.till t).frc] } ∧
      s.regsBut u [Reg.RING_PRED_HOLD] ∧ { u with regs := s.regs, frc := s.frc, ring := s.ring, line := s.line } = s) ∧
  (∀ (t : Nat) (s : State), s.ring.preds = [] →
    exec (.predHold t) s = .next (s.till t)) ∧
  (∀ (rates : List Nat) (lowest partner : Option Nat) (s : State), s.ringMode = false → s.pairMode = false →
    exec (.rateExchange rates lowest partner) s = .next s) ∧
  (∀ (rates : List Nat) (lowest partner : Option Nat) (s : State), s.ringMode = true → s.pairMode = false →
      s.isRoot = true → s.peerUp 0 = true → s.peerUp 1 = true →
    ∃ u : State, exec (.rateExchange rates lowest partner) s = .next u ∧
      u.ring = { s.ring with advice := some (rates.foldl min s.ownRate) } ∧
      u.rd Reg.RING_RING_ADVICE = (rates.foldl min s.ownRate) % 131072 ∧
      u.out = s.out ++ [Out.peerBlock 0 0x04 [1, (rates.foldl min s.ownRate)], Out.peerBlock 1 0x04 [1,
        (rates.foldl min s.ownRate)]] ∧ s.regsBut u [Reg.RING_RING_ADVICE] ∧
      { u with regs := s.regs, ring := s.ring, out := s.out } = s) ∧
  (∀ (rates : List Nat) (low : Nat) (partner : Option Nat) (s : State), s.ringMode = true → s.pairMode = false →
      s.isRoot = false → s.peerUp 0 = true → s.peerUp 1 = true →
    ∃ u : State, exec (.rateExchange rates (some low) partner) s = .next u ∧
      u.ring = { s.ring with advice := some low } ∧ u.rd Reg.RING_RING_ADVICE = low % 131072 ∧
      u.out = s.out ++ (s.ownRate :: rates).map (fun r => Out.peerBlock s.rootPort 0x04 [0, r]) ++
        [Out.peerBlock (1 - s.rootPort) 0x04 [1, low]] ∧ s.regsBut u [Reg.RING_RING_ADVICE] ∧
      { u with regs := s.regs, ring := s.ring, out := s.out } = s) ∧
  (∀ (rates : List Nat) (lowest partner : Option Nat) (s : State), s.pairMode = true → s.ringMode = false →
      s.peerUp 2 = true →
    ∃ u : State, exec (.rateExchange rates lowest partner) s = .next u ∧
      u.ring = { s.ring with partnerAdvice := partner.or s.ring.partnerAdvice } ∧
      u.out = s.out ++ [Out.peerBlock 2 0x04 [0, s.ownRate]] ∧ { u with ring := s.ring, out := s.out } = s)

/-- The descriptor queues and the regions. A doorbell stores TAIL and an IDLE queue with descriptors runs; RESTART
makes a FAULTED or STOPPED queue ready again and STOP ends what is in progress; a flush and an invalidation
empty the translation cache, wholly or where the range touches it; a region entry is written, or refused with
its code. Spec: 04_job_memory.md. -/
def Obligations.QueueCommands : Prop :=
  (∀ (src : Req) (q : Fin 16) (tail : Nat) (s : State), s.cutOff src = false → s.queueSt q = 0 →
      s.queueHead q ≠ tail % 65536 →
    ∃ u : State, exec (.queueDoorbell src q tail) s = .next u ∧
      u.queueTail q = tail % 65536 ∧ u.queueSt q = 1 ∧ s.regsBut u [Reg.YARD_Q_TAIL q, Reg.YARD_Q_STATUS q] ∧
      { u with regs := s.regs } = s) ∧
  (∀ (src : Req) (q : Fin 16) (tail : Nat) (s : State), s.cutOff src = false →
      s.queueSt q ≠ 0 ∨ s.queueHead q = tail % 65536 →
    ∃ u : State, exec (.queueDoorbell src q tail) s = .next u ∧
      u.queueTail q = tail % 65536 ∧ s.regsBut u [Reg.YARD_Q_TAIL q] ∧ { u with regs := s.regs } = s) ∧
  (∀ (src : Req) (q : Fin 16) (s : State), s.cutOff src = false → s.queueSt q = 5 ∨ s.queueSt q = 6 →
    ∃ u : State, exec (.queueRestart src q) s = .next u ∧
      u.queue q = {} ∧ u.queueSt q = (if s.queueHead q = s.queueTail q then 0 else 1) ∧
      u.queueHead q = s.queueHead q ∧ s.regsBut u [Reg.YARD_Q_STATUS q] ∧ { u with regs := s.regs, job := s.job } = s) ∧
  (∀ (src : Req) (q : Fin 16) (s : State), s.cutOff src = false → s.queueSt q ≠ 5 → s.queueSt q ≠ 6 →
    exec (.queueRestart src q) s = .next s) ∧
  (∀ (src : Req) (q : Fin 16) (s : State), s.cutOff src = false → s.queueSt q ≤ 4 →
    ∃ u : State, exec (.queueStop src q) s = .next u ∧
      u.queue q = {} ∧ u.queueSt q = 6 ∧ u.queueHead q = s.queueHead q ∧ s.regsBut u [Reg.YARD_Q_STATUS q] ∧
      { u with regs := s.regs, job := s.job } = s) ∧
  (∀ (src : Req) (q : Fin 16) (s : State), s.cutOff src = false → 4 < s.queueSt q →
    exec (.queueStop src q) s = .next s) ∧
  (∀ (src : Req) (s : State), s.cutOff src = false →
    ∃ u : State, exec (.atcFlush src) s = .next u ∧
      u.job = { s.job with atc := [] } ∧ { u with job := s.job } = s) ∧
  (∀ (base size : Nat) (s : State),
    ∃ u : State, exec (.invalidationRequest base size) s = .next u ∧
      u.job =
        { s.job with atc := s.job.atc.filter (fun e => !(decide (e.base < base + size) && decide (base < e.base + e.size))) } ∧
      u.rd Reg.IOMMU_INVAL_COUNT = satInc 32 (s.rd Reg.IOMMU_INVAL_COUNT) ∧
      u.bit (Reg.INT_STATUS Reg.pageIOMMU) 9 = true ∧ u.out = s.out ++ [Out.pcie 3 none base] ∧
      s.regsBut u [Reg.IOMMU_INVAL_COUNT, Reg.INT_STATUS Reg.pageIOMMU] ∧
      { u with regs := s.regs, job := s.job, out := s.out } = s) ∧
  (∀ (src : Req) (r : Fin 64) (reg : Fin 3) (data : Nat) (s : State), s.cutOff src = false → 56 ≤ r.val →
      isHost src = true ∨ reg.val = 2 →
    ∃ u : State, exec (.regionWrite src r reg data) s = .next u ∧
      s.errored u Reg.pageYARD 0x0005 (regionKey r reg) (srcCode src) ∧ s.regsBut u (errorKeys Reg.pageYARD) ∧
      { u with regs := s.regs } = s) ∧
  (∀ (src : Req) (r : Fin 64) (reg : Fin 3) (data : Nat) (s : State), s.cutOff src = false →
      r.val < 56 ∨ isHost src = false ∧ reg.val ≠ 2 →
      (∀ q ∈ List.range 64, r.val < 56 → q ≠ r.val →
      (s.wr (regionKey r reg) ((data &&& regionMask reg) + (s.rd (regionKey r reg) - (s.rd (regionKey r reg) &&& regionMask reg)))).regionsOverlap r q =
      false) → s.modState ≠ 5 ∨ s.regionNamed r = false →
      (s.wr (regionKey r reg) ((data &&& regionMask reg) + (s.rd (regionKey r reg) - (s.rd (regionKey r reg) &&& regionMask reg)))).regKind r ≠ 1 ∨
      (s.wr (regionKey r reg) ((data &&& regionMask reg) + (s.rd (regionKey r reg) - (s.rd (regionKey r reg) &&& regionMask reg)))).rd (Reg.YARD_REG_SIZE r) =
      0 ∨
      (s.wr (regionKey r reg) ((data &&& regionMask reg) + (s.rd (regionKey r reg) - (s.rd (regionKey r reg) &&& regionMask reg)))).rd (Reg.YARD_REG_BASE r) % 32 =
      0 →
    exec (.regionWrite src r reg data) s =
      .next ((s.wr (regionKey r reg) ((data &&& regionMask reg) + (s.rd (regionKey r reg) - (s.rd (regionKey r reg) &&& regionMask reg)))).rowsLose)) ∧
  (∀ (src : Req) (r q : Fin 64) (data : Nat) (s : State), s.cutOff src = false → r.val < 56 → q ≠ r →
      isHost src = true →
      (s.wr (regionKey r 1) ((data &&& regionMask 1) + (s.rd (regionKey r 1) - (s.rd (regionKey r 1) &&& regionMask 1)))).regionsOverlap r q =
      true →
    ∃ u : State, exec (.regionWrite src r 1 data) s = .next u ∧
      s.errored u Reg.pageYARD 0x0110 (regionKey r 1) (srcCode src) ∧ s.regsBut u (errorKeys Reg.pageYARD) ∧
      { u with regs := s.regs } = s) ∧
  (∀ (src : Req) (r : Fin 64) (reg : Fin 3) (data : Nat) (s : State), s.cutOff src = false →
      r.val < 56 ∨ isHost src = false ∧ reg.val ≠ 2 →
      (∀ q ∈ List.range 64, r.val < 56 → q ≠ r.val →
      (s.wr (regionKey r reg) ((data &&& regionMask reg) + (s.rd (regionKey r reg) - (s.rd (regionKey r reg) &&& regionMask reg)))).regionsOverlap r q =
      false) → s.modState = 5 → s.regionNamed r = true →
    ∃ u : State, exec (.regionWrite src r reg data) s = .next u ∧
      s.errored u Reg.pageYARD 0x0111 (regionKey r reg) (srcCode src) ∧ s.regsBut u (errorKeys Reg.pageYARD) ∧
      { u with regs := s.regs } = s)

/-- Descriptors: their checks, their data and their faults. A LINEAR descriptor that passes its checks moves its
bytes between host memory and its region and completes with its record; one that fails a check completes with
that code and an error; a completion error, a refused page and an unanswered page request leave the queue
FAULTED at the descriptor, with the fault record; a tile that is written is sealed and valid, and one whose
supplied seals differ is counted. Spec: 04_job_memory.md. -/
def Obligations.DescriptorCommands : Prop :=
  (∀ (q : Fin 16) (w : List Nat) (b : List Byte) (s : State), s.queueSt q = 1 → (s.queue q).wait = .none →
      (s.queue q).words = none → s.pasidOff q = false → s.outranked q = false → s.rivals q = [] → dKind w = 0 →
      0 < dLength w → dSrc w % 4 = 0 → 0 < s.rd (Reg.YARD_REG_SIZE (dRegion w)) → s.regKind (dRegion w) ≠ 1 →
      s.regKind (dRegion w) ≠ 2 → s.bit (Reg.YARD_REG_ATTR (dRegion w)) (8 + 2 * b2n (s.queuePf1 q)) = true →
      s.inRegion (dRegion w) (s.rd (Reg.YARD_REG_BASE (dRegion w)) * 4096 + dOffset w) (dLength w) = true →
      dOut w = false → s.useAts q = false → b.length = dLength w →
      s.poisonedIn (s.rd (Reg.YARD_REG_BASE (dRegion w)) * 4096 + dOffset w) 1 = false →
      s.poisonedIn (s.rd (Reg.YARD_REG_BASE (dRegion w)) * 4096 + dOffset w + dLength w - 1) 1 = false → dIrq w = false →
    ∃ u : State, exec (.linearDesc q w (.ok b)) s = .next u ∧
      u.queueHead q = (s.queueHead q + 1) % 2 ^ s.queueSize q ∧
      u.rd (Reg.YARD_Q_DONE q) = satInc 32 (s.rd (Reg.YARD_Q_DONE q)) ∧ u.queue q = {} ∧
      u.queueSt q = (if u.queueHead q = s.queueTail q then 0 else 1) ∧ s.outButDram u ∧
      u.rd64 Reg.YARD_BYTES_LO Reg.YARD_BYTES_HI = (s.rd64 Reg.YARD_BYTES_LO Reg.YARD_BYTES_HI + dLength w) % 2 ^ 64 ∧
      u.memBytes (s.rd (Reg.YARD_REG_BASE (dRegion w)) * 4096 + dOffset w) (dLength w) = b ∧
      (∀ a, u.memByte ((s.rd (Reg.YARD_REG_BASE (dRegion w)) * 4096 + dOffset w) + dLength w + a) =
        s.memByte ((s.rd (Reg.YARD_REG_BASE (dRegion w)) * 4096 + dOffset w) + dLength w + a)) ∧
      u.rdF (Reg.YARD_Q_STATUS q) 31 16 = 0 ∧
      s.regsBut u [Reg.YARD_Q_HEAD q, Reg.YARD_Q_DONE q, Reg.YARD_Q_STATUS q, Reg.YARD_BYTES_LO, Reg.YARD_BYTES_HI] ∧
      { u with regs := s.regs, job := s.job, dram := s.dram, out := s.out } = s) ∧
  (∀ (q : Fin 16) (w : List Nat) (b : List Byte) (s : State), s.queueSt q = 1 → (s.queue q).wait = .none →
      (s.queue q).words = none → s.pasidOff q = false → s.outranked q = false → s.rivals q = [] → dKind w = 0 →
      0 < dLength w → dSrc w % 4 = 0 → 0 < s.rd (Reg.YARD_REG_SIZE (dRegion w)) → s.regKind (dRegion w) ≠ 1 →
      s.regKind (dRegion w) ≠ 2 → s.bit (Reg.YARD_REG_ATTR (dRegion w)) (9 + 2 * b2n (s.queuePf1 q)) = true →
      s.inRegion (dRegion w) (s.rd (Reg.YARD_REG_BASE (dRegion w)) * 4096 + dOffset w) (dLength w) = true →
      dOut w = true → s.useAts q = false → b.length = dLength w → dIrq w = true →
      s.poisonedIn (s.rd (Reg.YARD_REG_BASE (dRegion w)) * 4096 + dOffset w) (dLength w) = false →
    ∃ u : State, exec (.linearDesc q w (.ok b)) s = .next u ∧
      u.queueHead q = (s.queueHead q + 1) % 2 ^ s.queueSize q ∧
      u.rd (Reg.YARD_Q_DONE q) = satInc 32 (s.rd (Reg.YARD_Q_DONE q)) ∧ u.queue q = {} ∧
      u.queueSt q = (if u.queueHead q = s.queueTail q then 0 else 1) ∧
      u.rd64 Reg.YARD_BYTES_LO Reg.YARD_BYTES_HI = (s.rd64 Reg.YARD_BYTES_LO Reg.YARD_BYTES_HI + dLength w) % 2 ^ 64 ∧
      u.out = s.out ++
        ((hostChunks (dSrc w) (s.memBytes (s.rd (Reg.YARD_REG_BASE (dRegion w)) * 4096 + dOffset w) (dLength w)) (dLength w / 4096 + 2)).map (fun p => Out.hostWrite (s.queuePasid q) p.1 p.2) ++
        [Out.hostWrite (s.queuePasid q) (s.rd64 (Reg.YARD_Q_WB_LO q) (Reg.YARD_Q_WB_HI q)) (leBytes 4 (u.queueHead q + dTag w * 65536) ++
        leBytes 4 0)]) ∧ u.job.mem = s.job.mem ∧ u.bit Reg.YARD_QUEUE_DONE q = true ∧
      u.bit (Reg.INT_STATUS Reg.pageYARD) 8 = true ∧
      s.regsBut u [Reg.YARD_Q_HEAD q, Reg.YARD_Q_DONE q, Reg.YARD_Q_STATUS q, Reg.YARD_BYTES_LO, Reg.YARD_BYTES_HI,
        Reg.YARD_QUEUE_DONE, Reg.INT_STATUS Reg.pageYARD] ∧ { u with regs := s.regs, job := s.job, out := s.out } = s) ∧
  (∀ (q : Fin 16) (w : List Nat) (b : List Byte) (s : State), s.queueSt q = 1 → (s.queue q).wait = .none →
      (s.queue q).words = none → s.pasidOff q = false → s.outranked q = false → s.rivals q = [] → dKind w = 0 →
      0 < dLength w → dSrc w % 4 = 0 → 0 < s.rd (Reg.YARD_REG_SIZE (dRegion w)) → s.regKind (dRegion w) ≠ 1 →
      s.regKind (dRegion w) ≠ 2 → s.bit (Reg.YARD_REG_ATTR (dRegion w)) (9 + 2 * b2n (s.queuePf1 q)) = true →
      s.inRegion (dRegion w) (s.rd (Reg.YARD_REG_BASE (dRegion w)) * 4096 + dOffset w) (dLength w) = true →
      dOut w = true → s.useAts q = false → b.length = dLength w → dLength w ≤ 4096 - dSrc w % 4096 →
      s.poisonedIn (s.rd (Reg.YARD_REG_BASE (dRegion w)) * 4096 + dOffset w) (dLength w) = true →
    ∃ u : State, exec (.linearDesc q w (.ok b)) s = .next u ∧
      u.queueSt q = 5 ∧ u.queueHead q = s.queueHead q ∧ s.errored u Reg.pageYARD 0x010D 0 0 ∧
      u.rdF (Reg.YARD_Q_STATUS q) 31 16 = 0x010D ∧ u.rdF Reg.IOMMU_FAULT_INFO 7 4 = 3 ∧
      (s.out ++
        [Out.hostPoisoned (s.queuePasid q) (dSrc w) (s.memBytes (s.rd (Reg.YARD_REG_BASE (dRegion w)) * 4096 + dOffset w) (dLength w))]) <+: u.out ∧
      u.job.mem = s.job.mem ∧
      s.regsBut u (errorKeys Reg.pageYARD ++ [Reg.YARD_Q_STATUS q, Reg.YARD_QUEUE_FAULTED, Reg.YARD_QUEUE_DONE,
        Reg.IOMMU_FAULT_ADDR_LO, Reg.IOMMU_FAULT_ADDR_HI, Reg.IOMMU_FAULT_INFO, Reg.INT_STATUS Reg.pageIOMMU,
        Reg.YARD_BYTES_LO, Reg.YARD_BYTES_HI]) ∧ { u with regs := s.regs, job := s.job, out := s.out } = s) ∧
  (∀ (q : Fin 16) (w : List Nat) (code : Nat) (h : HostData) (s : State), s.queueSt q = 1 → (s.queue q).wait = .none →
      (s.queue q).words = none → s.pasidOff q = false → s.outranked q = false → s.rivals q = [] →
      s.useAts q = false ∨ (s.translation q (s.rd64 (Reg.YARD_Q_WB_LO q) (Reg.YARD_Q_WB_HI q)) 8).isSome = true →
      dKind w ≠ 1 → s.descRefusal q w = some code → code ≠ 0 →
    ∃ u : State, exec (.linearDesc q w h) s = .next u ∧
      u.queueHead q = (s.queueHead q + 1) % 2 ^ s.queueSize q ∧
      u.rd (Reg.YARD_Q_DONE q) = satInc 32 (s.rd (Reg.YARD_Q_DONE q)) ∧ u.queue q = {} ∧
      u.queueSt q = (if u.queueHead q = s.queueTail q then 0 else 1) ∧ s.errored u Reg.pageYARD code 0 0 ∧
      u.rdF (Reg.YARD_Q_STATUS q) 31 16 = code % 65536 ∧ u.job.mem = s.job.mem ∧ u.bit Reg.YARD_QUEUE_DONE q = true ∧
      s.regsBut u (errorKeys Reg.pageYARD ++ [Reg.YARD_Q_HEAD q, Reg.YARD_Q_DONE q, Reg.YARD_Q_STATUS q,
        Reg.YARD_QUEUE_DONE, Reg.IOMMU_ATC_HIT]) ∧ { u with regs := s.regs, job := s.job, out := s.out } = s) ∧
  (∀ (q : Fin 16) (w : List Nat) (h : HostData) (s : State), s.queueSt q ≠ 1 →
    exec (.linearDesc q w h) s = .next s) ∧
  (∀ (q : Fin 16) (w : List Nat) (s : State), s.queueSt q = 1 → (s.queue q).wait = .none → (s.queue q).words = none →
      s.pasidOff q = false → s.outranked q = false → s.rivals q = [] → dKind w = 0 → s.descRefusal q w = none →
      s.useAts q = false →
    ∃ u : State, exec (.linearDesc q w (.error [])) s = .next u ∧
      u.queueSt q = 5 ∧ u.queueHead q = s.queueHead q ∧ s.errored u Reg.pageYARD 0x010D 0 0 ∧
      u.rdF (Reg.YARD_Q_STATUS q) 31 16 = 0x010D ∧ u.bit Reg.YARD_QUEUE_FAULTED q = true ∧
      u.rd Reg.IOMMU_FAULT_ADDR_LO = (dSrc w) % 2 ^ 32 ∧
      u.rd Reg.IOMMU_FAULT_INFO = q + 3 * 16 + s.rdF (Reg.YARD_Q_PASID q) 19 0 * 256 ∧
      u.bit (Reg.INT_STATUS Reg.pageYARD) 9 = true ∧ u.bit (Reg.INT_STATUS Reg.pageIOMMU) 8 = true ∧ u.queue q = {} ∧
      s.regsBut u (errorKeys Reg.pageYARD ++ [Reg.YARD_Q_STATUS q, Reg.YARD_QUEUE_FAULTED, Reg.YARD_QUEUE_DONE,
        Reg.IOMMU_FAULT_ADDR_LO, Reg.IOMMU_FAULT_ADDR_HI, Reg.IOMMU_FAULT_INFO, Reg.INT_STATUS Reg.pageIOMMU,
        Reg.IOMMU_ATC_HIT, Reg.YARD_BYTES_LO, Reg.YARD_BYTES_HI]) ∧
      { u with regs := s.regs, job := s.job, out := s.out } = s) ∧
  (∀ (q : Fin 16) (w : List Nat) (h : HostData) (s : State), s.queueSt q = 1 → (s.queue q).wait = .none →
      (s.queue q).words = none → s.outranked q = false → s.pasidOff q = true → dKind w ≠ 1 →
    ∃ u : State, exec (.linearDesc q w h) s = .next u ∧
      u.queueSt q = 5 ∧ u.queueHead q = s.queueHead q ∧ s.errored u Reg.pageYARD 0x010B 0 0 ∧
      u.rdF (Reg.YARD_Q_STATUS q) 31 16 = 0x010B ∧ u.bit Reg.YARD_QUEUE_FAULTED q = true ∧
      u.rd Reg.IOMMU_FAULT_ADDR_LO =
        (s.rd64 (Reg.YARD_Q_BASE_LO q) (Reg.YARD_Q_BASE_HI q) + 32 * s.queueHead q) % 2 ^ 32 ∧
      u.rd Reg.IOMMU_FAULT_INFO = q + 1 * 16 + s.rdF (Reg.YARD_Q_PASID q) 19 0 * 256 ∧
      u.bit (Reg.INT_STATUS Reg.pageYARD) 9 = true ∧ u.bit (Reg.INT_STATUS Reg.pageIOMMU) 8 = true ∧ u.queue q = {} ∧
      s.regsBut u (errorKeys Reg.pageYARD ++ [Reg.YARD_Q_STATUS q, Reg.YARD_QUEUE_FAULTED, Reg.YARD_QUEUE_DONE,
        Reg.IOMMU_FAULT_ADDR_LO, Reg.IOMMU_FAULT_ADDR_HI, Reg.IOMMU_FAULT_INFO, Reg.INT_STATUS Reg.pageIOMMU,
        Reg.IOMMU_ATC_HIT]) ∧ { u with regs := s.regs, job := s.job, out := s.out } = s) ∧
  (∀ (q : Fin 16) (w : List Nat) (h : HostData) (s : State), s.outranked q = true → dKind w ≠ 1 →
    exec (.linearDesc q w h) s = .next s) ∧
  (∀ (q : Fin 16) (base size target : Nat) (ok : Bool) (host seals : HostData) (s : State),
      (s.queue q).wait ≠ .translation →
    exec (.translationCompletion q base size target ok host seals) s = .next s) ∧
  (∀ (q : Fin 16) (base size target : Nat) (host seals : HostData) (s : State), (s.queue q).wait = .translation →
      s.usePri = true →
    ∃ u : State, exec (.translationCompletion q base size target false host seals) s = .next u ∧
      u.queueSt q = 3 ∧ u.queue q = { s.queue q with wait := .page } ∧
      u.rd Reg.IOMMU_PRG_COUNT = satInc 32 (s.rd Reg.IOMMU_PRG_COUNT) ∧
      u.bit (Reg.INT_STATUS Reg.pageYARD) 11 = true ∧
      u.out = s.out ++ [Out.pcie 2 (s.queuePasid q) ((s.queue q).addr / 4096 * 4096)] ∧
      s.regsBut u [Reg.YARD_Q_STATUS q, Reg.IOMMU_PRG_COUNT, Reg.INT_STATUS Reg.pageYARD] ∧
      { u with regs := s.regs, job := s.job, out := s.out } = s) ∧
  (∀ (q : Fin 16) (base size target : Nat) (host seals : HostData) (s : State), (s.queue q).wait = .translation →
      s.usePri = false →
      s.useAts q = false ∨ (s.translation q (s.rd64 (Reg.YARD_Q_WB_LO q) (Reg.YARD_Q_WB_HI q)) 8).isSome = true →
    ∃ u : State, exec (.translationCompletion q base size target false host seals) s = .next u ∧
      u.queueSt q = 5 ∧ u.queueHead q = s.queueHead q ∧ s.errored u Reg.pageYARD 0x010B 0 0 ∧
      u.rdF (Reg.YARD_Q_STATUS q) 31 16 = 0x010B ∧ u.bit Reg.YARD_QUEUE_FAULTED q = true ∧
      u.rd Reg.IOMMU_FAULT_ADDR_LO = ((s.queue q).addr) % 2 ^ 32 ∧
      u.rd Reg.IOMMU_FAULT_INFO = q + 1 * 16 + s.rdF (Reg.YARD_Q_PASID q) 19 0 * 256 ∧
      u.bit (Reg.INT_STATUS Reg.pageYARD) 9 = true ∧ u.bit (Reg.INT_STATUS Reg.pageIOMMU) 8 = true ∧ u.queue q = {} ∧
      s.regsBut u (errorKeys Reg.pageYARD ++ [Reg.YARD_Q_STATUS q, Reg.YARD_QUEUE_FAULTED, Reg.YARD_QUEUE_DONE,
        Reg.IOMMU_FAULT_ADDR_LO, Reg.IOMMU_FAULT_ADDR_HI, Reg.IOMMU_FAULT_INFO, Reg.INT_STATUS Reg.pageIOMMU,
        Reg.IOMMU_ATC_HIT]) ∧ { u with regs := s.regs, job := s.job, out := s.out } = s) ∧
  (∀ (q : Fin 16) (w : List Nat) (base target : Nat) (b : List Byte) (s : State), (s.queue q).wait = .translation →
      (s.queue q).words = some w → (s.queue q).moved = 0 → s.pasidOff q = false → s.outranked q = false →
      s.rivals q = [] → (s.queue q).record = none → dKind w = 0 → dOut w = false → dIrq w = false → s.useAts q = true →
      b.length = dLength w → b.length ≤ 4096 - dSrc w % 4096 → b ≠ [] → base ≤ dSrc w → dSrc w + b.length ≤ base + 4096 →
      s.poisonedIn (s.rd (Reg.YARD_REG_BASE (dRegion w)) * 4096 + dOffset w) 1 = false →
      s.poisonedIn (s.rd (Reg.YARD_REG_BASE (dRegion w)) * 4096 + dOffset w + dLength w - 1) 1 = false →
    ∃ u : State, exec (.translationCompletion q base 4096 target true (.ok b) .miss) s = .next u ∧
      s.outButDram u ∧ u.queueHead q = (s.queueHead q + 1) % 2 ^ s.queueSize q ∧
      u.memBytes (s.rd (Reg.YARD_REG_BASE (dRegion w)) * 4096 + dOffset w) (dLength w) = b ∧
      u.job.atc = ({ pf1 := s.queuePf1 q, pasid := s.queuePasid q, base := base, size := 4096, target := target } :: s.job.atc).take 512 ∧
      u.rd Reg.IOMMU_ATC_HIT = satInc 32 (s.rd Reg.IOMMU_ATC_HIT) ∧
      s.regsBut u [Reg.YARD_Q_HEAD q, Reg.YARD_Q_DONE q, Reg.YARD_Q_STATUS q, Reg.YARD_BYTES_LO, Reg.YARD_BYTES_HI,
        Reg.IOMMU_ATC_HIT] ∧ { u with regs := s.regs, job := s.job, dram := s.dram, out := s.out } = s) ∧
  (∀ (q : Fin 16) (ok : Bool) (host seals : HostData) (s : State), s.queueSt q ≠ 3 →
    exec (.pageRequestResponse q ok host seals) s = .next s) ∧
  (∀ (q : Fin 16) (host seals : HostData) (s : State), s.queueSt q = 3 →
      s.useAts q = false ∨ (s.translation q (s.rd64 (Reg.YARD_Q_WB_LO q) (Reg.YARD_Q_WB_HI q)) 8).isSome = true →
    ∃ u : State, exec (.pageRequestResponse q false host seals) s = .next u ∧
      u.queueSt q = 5 ∧ u.queueHead q = s.queueHead q ∧ s.errored u Reg.pageYARD 0x010B 0 0 ∧
      u.rdF (Reg.YARD_Q_STATUS q) 31 16 = 0x010B ∧ u.bit Reg.YARD_QUEUE_FAULTED q = true ∧
      u.rd Reg.IOMMU_FAULT_ADDR_LO = ((s.queue q).addr) % 2 ^ 32 ∧
      u.rd Reg.IOMMU_FAULT_INFO = q + 1 * 16 + s.rdF (Reg.YARD_Q_PASID q) 19 0 * 256 ∧
      u.bit (Reg.INT_STATUS Reg.pageYARD) 9 = true ∧ u.bit (Reg.INT_STATUS Reg.pageIOMMU) 8 = true ∧ u.queue q = {} ∧
      u.rd Reg.IOMMU_PRG_FAIL = satInc 32 (s.rd Reg.IOMMU_PRG_FAIL) ∧
      s.regsBut u (errorKeys Reg.pageYARD ++ [Reg.YARD_Q_STATUS q, Reg.YARD_QUEUE_FAULTED, Reg.YARD_QUEUE_DONE,
        Reg.IOMMU_FAULT_ADDR_LO, Reg.IOMMU_FAULT_ADDR_HI, Reg.IOMMU_FAULT_INFO, Reg.INT_STATUS Reg.pageIOMMU,
        Reg.IOMMU_ATC_HIT, Reg.IOMMU_PRG_FAIL]) ∧ { u with regs := s.regs, job := s.job, out := s.out } = s) ∧
  (∀ (q : Fin 16) (w : List Nat) (b : List Byte) (s : State), s.queueSt q = 3 → (s.queue q).words = some w →
      (s.queue q).moved = 0 → s.pasidOff q = false → s.outranked q = false → s.rivals q = [] →
      (s.queue q).record = none → dKind w = 0 → dOut w = false → dIrq w = false → s.useAts q = false →
      b.length = dLength w → s.poisonedIn (s.rd (Reg.YARD_REG_BASE (dRegion w)) * 4096 + dOffset w) 1 = false →
      s.poisonedIn (s.rd (Reg.YARD_REG_BASE (dRegion w)) * 4096 + dOffset w + dLength w - 1) 1 = false →
    ∃ u : State, exec (.pageRequestResponse q true (.ok b) .miss) s = .next u ∧
      u.queueHead q = (s.queueHead q + 1) % 2 ^ s.queueSize q ∧
      u.rd (Reg.YARD_Q_DONE q) = satInc 32 (s.rd (Reg.YARD_Q_DONE q)) ∧ u.queue q = {} ∧
      u.queueSt q = (if u.queueHead q = s.queueTail q then 0 else 1) ∧ s.outButDram u ∧
      u.memBytes (s.rd (Reg.YARD_REG_BASE (dRegion w)) * 4096 + dOffset w) (dLength w) = b ∧
      s.regsBut u [Reg.YARD_Q_HEAD q, Reg.YARD_Q_DONE q, Reg.YARD_Q_STATUS q, Reg.YARD_BYTES_LO, Reg.YARD_BYTES_HI] ∧
      { u with regs := s.regs, job := s.job, dram := s.dram, out := s.out } = s) ∧
  (∀ (q : Fin 16) (s : State), s.queueSt q ≠ 3 →
    exec (.priTimeout q) s = .next s) ∧
  (∀ (q : Fin 16) (s : State), s.queueSt q = 3 →
      s.useAts q = false ∨ (s.translation q (s.rd64 (Reg.YARD_Q_WB_LO q) (Reg.YARD_Q_WB_HI q)) 8).isSome = true →
    ∃ u : State, exec (.priTimeout q) s = .next u ∧
      u.queueSt q = 5 ∧ u.queueHead q = s.queueHead q ∧ s.errored u Reg.pageYARD 0x010C 0 0 ∧
      u.rdF (Reg.YARD_Q_STATUS q) 31 16 = 0x010C ∧ u.bit Reg.YARD_QUEUE_FAULTED q = true ∧
      u.rd Reg.IOMMU_FAULT_ADDR_LO = ((s.queue q).addr) % 2 ^ 32 ∧
      u.rd Reg.IOMMU_FAULT_INFO = q + 2 * 16 + s.rdF (Reg.YARD_Q_PASID q) 19 0 * 256 ∧
      u.bit (Reg.INT_STATUS Reg.pageYARD) 9 = true ∧ u.bit (Reg.INT_STATUS Reg.pageIOMMU) 8 = true ∧ u.queue q = {} ∧
      u.rd Reg.IOMMU_PRG_FAIL = satInc 32 (s.rd Reg.IOMMU_PRG_FAIL) ∧
      s.regsBut u (errorKeys Reg.pageYARD ++ [Reg.YARD_Q_STATUS q, Reg.YARD_QUEUE_FAULTED, Reg.YARD_QUEUE_DONE,
        Reg.IOMMU_FAULT_ADDR_LO, Reg.IOMMU_FAULT_ADDR_HI, Reg.IOMMU_FAULT_INFO, Reg.INT_STATUS Reg.pageIOMMU,
        Reg.IOMMU_ATC_HIT, Reg.IOMMU_PRG_FAIL]) ∧ { u with regs := s.regs, job := s.job, out := s.out } = s) ∧
  (∀ (q : Fin 16) (host seals : HostData) (s : State), s.queueSt q ≠ 2 →
    exec (.streamCreditResume q host seals) s = .next s) ∧
  (∀ (q : Fin 16) (w : List Nat) (host seals : HostData) (s : State), s.queueSt q = 2 → (s.queue q).words = some w →
      (s.queue q).moved = 0 → s.pasidOff q = false → s.outranked q = false → s.rivals q = [] →
      (s.queue q).record = none → dKind w = 1 → dSealIn w = false → 0 < dCount w → s.useAts q = false → host = .miss →
      s.tileWait q (dPlane w) (s.tileOf w 0).1 (s.tileOf w 0).2 = none →
    ∃ u : State, exec (.streamCreditResume q host seals) s = .next u ∧
      u.queueSt q = 1 ∧ u.queue q = { s.queue q with wait := .none } ∧ s.regsBut u [Reg.YARD_Q_STATUS q] ∧
      { u with regs := s.regs, job := s.job } = s) ∧
  (∀ (q : Fin 16) (w : List Nat) (b : List Byte) (s : State), b.length = tileBytes → s.queueSt q = 2 →
      (s.queue q).words = some w → (s.queue q).moved = 0 → (s.queue q).badSeal = false → s.pasidOff q = false →
      s.outranked q = false → s.rivals q = [] → (s.queue q).record = none → dKind w = 1 → dSealIn w = false →
      dIrq w = false → dLast w = false → dCount w = 1 → s.useAts q = false → s.pairMode = false →
      s.tileWait q (dPlane w) (s.tileOf w 0).1 (s.tileOf w 0).2 = none →
    ∃ u : State, exec (.streamCreditResume q (.ok b) .miss) s = .next u ∧
      u.queueHead q = (s.queueHead q + 1) % 2 ^ s.queueSize q ∧
      u.rd (Reg.YARD_Q_DONE q) = satInc 32 (s.rd (Reg.YARD_Q_DONE q)) ∧ u.queue q = {} ∧
      u.queueSt q = (if u.queueHead q = s.queueTail q then 0 else 1) ∧ s.outButDram u ∧
      u.rdF (Reg.YARD_Q_STATUS q) 31 16 = 0 ∧ u.tileValid (dPlane w) (s.tileOf w 0).1 (s.tileOf w 0).2 = true ∧
      u.memBytes (s.tileAddr (dPlane w) (s.tileOf w 0).1 (s.tileOf w 0).2) tileBytes = b ∧
      s.pagesBut u [Reg.pageYARD, Reg.pageJOB] ∧
      { u with regs := s.regs, job := s.job, dram := s.dram, out := s.out } = s) ∧
  (∀ (q : Fin 16) (host seals : HostData) (s : State), s.queueSt q ≠ 4 →
    exec (.tileWaitResume q host seals) s = .next s) ∧
  (∀ (q : Fin 16) (w : List Nat) (host seals : HostData) (s : State), s.queueSt q = 4 → (s.queue q).words = some w →
      (s.queue q).moved = 0 → s.pasidOff q = false → s.outranked q = false → s.rivals q = [] →
      (s.queue q).record = none → dKind w = 1 → dSealIn w = false → 0 < dCount w → s.useAts q = false → host = .miss →
      s.tileWait q (dPlane w) (s.tileOf w 0).1 (s.tileOf w 0).2 = none →
    ∃ u : State, exec (.tileWaitResume q host seals) s = .next u ∧
      u.queueSt q = 1 ∧ u.queue q = { s.queue q with wait := .none } ∧ s.regsBut u [Reg.YARD_Q_STATUS q] ∧
      { u with regs := s.regs, job := s.job } = s) ∧
  (∀ (q : Fin 16) (w : List Nat) (b : List Byte) (s : State), b.length = tileBytes → s.queueSt q = 4 →
      (s.queue q).words = some w → (s.queue q).moved = 0 → (s.queue q).badSeal = false → s.pasidOff q = false →
      s.outranked q = false → s.rivals q = [] → (s.queue q).record = none → dKind w = 1 → dSealIn w = false →
      dIrq w = false → dLast w = false → dCount w = 1 → s.useAts q = false → s.pairMode = false →
      s.tileWait q (dPlane w) (s.tileOf w 0).1 (s.tileOf w 0).2 = none →
    ∃ u : State, exec (.tileWaitResume q (.ok b) .miss) s = .next u ∧
      u.queueHead q = (s.queueHead q + 1) % 2 ^ s.queueSize q ∧
      u.rd (Reg.YARD_Q_DONE q) = satInc 32 (s.rd (Reg.YARD_Q_DONE q)) ∧ u.queue q = {} ∧
      u.queueSt q = (if u.queueHead q = s.queueTail q then 0 else 1) ∧ s.outButDram u ∧
      u.rdF (Reg.YARD_Q_STATUS q) 31 16 = 0 ∧ u.tileValid (dPlane w) (s.tileOf w 0).1 (s.tileOf w 0).2 = true ∧
      u.memBytes (s.tileAddr (dPlane w) (s.tileOf w 0).1 (s.tileOf w 0).2) tileBytes = b ∧
      s.pagesBut u [Reg.pageYARD, Reg.pageJOB] ∧
      { u with regs := s.regs, job := s.job, dram := s.dram, out := s.out } = s) ∧
  (∀ (q : Fin 16) (w : List Nat) (h seals : HostData) (s : State), dKind w ≠ 1 ∨ s.queueSt q ≠ 1 →
    exec (.tileDesc q w h seals) s = .next s) ∧
  (∀ (q : Fin 16) (w : List Nat) (h seals : HostData) (code : Nat) (s : State), s.queueSt q = 1 →
      (s.queue q).wait = .none → (s.queue q).words = none → s.pasidOff q = false → s.outranked q = false →
      s.rivals q = [] →
      s.useAts q = false ∨ (s.translation q (s.rd64 (Reg.YARD_Q_WB_LO q) (Reg.YARD_Q_WB_HI q)) 8).isSome = true →
      dKind w = 1 → s.descRefusal q w = some code → code ≠ 0 → code ≠ 0x010A →
    ∃ u : State, exec (.tileDesc q w h seals) s = .next u ∧
      u.queueHead q = (s.queueHead q + 1) % 2 ^ s.queueSize q ∧
      u.rd (Reg.YARD_Q_DONE q) = satInc 32 (s.rd (Reg.YARD_Q_DONE q)) ∧ u.queue q = {} ∧
      u.queueSt q = (if u.queueHead q = s.queueTail q then 0 else 1) ∧ s.errored u Reg.pageYARD code 0 0 ∧
      u.rdF (Reg.YARD_Q_STATUS q) 31 16 = code % 65536 ∧ u.job.valid = s.job.valid ∧
      s.regsBut u (errorKeys Reg.pageYARD ++ [Reg.YARD_Q_HEAD q, Reg.YARD_Q_DONE q, Reg.YARD_Q_STATUS q,
        Reg.YARD_QUEUE_DONE, Reg.IOMMU_ATC_HIT]) ∧ { u with regs := s.regs, job := s.job, out := s.out } = s) ∧
  (∀ (q : Fin 16) (w : List Nat) (b : List Byte) (s : State), b.length = tileBytes → s.queueSt q = 1 →
      (s.queue q).wait = .none → (s.queue q).words = none → s.pasidOff q = false → s.outranked q = false →
      s.rivals q = [] → dOut w = false → dSrc w % 64 = 0 → 0 < s.tileCols (dPlane w) → dCol w < s.tileCols (dPlane w) →
      s.bit (Reg.YARD_REG_ATTR (s.tileRegion (dPlane w))) (8 + 2 * b2n (s.queuePf1 q)) = true →
      s.located (dPlane w) (s.tileOf w 0).1 (s.tileOf w 0).2 = true →
      0 < s.rd (Reg.YARD_REG_SIZE (s.tileRegion (dPlane w))) → 0 < s.rd (Reg.YARD_REG_SIZE (s.sealRegion (dPlane w))) →
      s.modState ≠ 5 → s.streaming = false → dKind w = 1 → dSealIn w = false → dIrq w = false → dLast w = false →
      dCount w = 1 → s.useAts q = false → s.pairMode = false →
      s.tileWait q (dPlane w) (s.tileOf w 0).1 (s.tileOf w 0).2 = none →
    ∃ u : State, exec (.tileDesc q w (.ok b) .miss) s = .next u ∧
      u.queueHead q = (s.queueHead q + 1) % 2 ^ s.queueSize q ∧
      u.rd (Reg.YARD_Q_DONE q) = satInc 32 (s.rd (Reg.YARD_Q_DONE q)) ∧ u.queue q = {} ∧
      u.queueSt q = (if u.queueHead q = s.queueTail q then 0 else 1) ∧ s.outButDram u ∧
      u.rdF (Reg.YARD_Q_STATUS q) 31 16 = 0 ∧ u.tileValid (dPlane w) (s.tileOf w 0).1 (s.tileOf w 0).2 = true ∧
      u.memBytes (s.tileAddr (dPlane w) (s.tileOf w 0).1 (s.tileOf w 0).2) tileBytes = b ∧
      s.pagesBut u [Reg.pageYARD, Reg.pageJOB] ∧
      { u with regs := s.regs, job := s.job, dram := s.dram, out := s.out } = s) ∧
  (∀ (q : Fin 16) (b : List Byte) (s : State), s.useAts q = true →
      s.translation q (s.rd64 (Reg.YARD_Q_WB_LO q) (Reg.YARD_Q_WB_HI q)) 8 = none →
    ∃ u : State, s.putRecord q b = u ∧
      u.queue q = { s.queue q with record := some b, wait := .translation, addr := s.rd64 (Reg.YARD_Q_WB_LO q) (Reg.YARD_Q_WB_HI q) } ∧
      u.rd Reg.IOMMU_ATC_MISS = satInc 32 (s.rd Reg.IOMMU_ATC_MISS) ∧
      u.out = s.out ++
        [Out.pcie 1 (s.queuePasid q) ((s.rd64 (Reg.YARD_Q_WB_LO q) (Reg.YARD_Q_WB_HI q)) / 4096 * 4096)] ∧
      s.regsBut u [Reg.IOMMU_ATC_MISS] ∧ { u with regs := s.regs, job := s.job, out := s.out } = s)

/-- The on-time of a lamp period. The widths of the pulses of a period, spread or not, sum to (P x duty + 32,767)
div 65,535 clocks; a duty of 0 gives no pulse, a duty of 65,535 the whole period; without spread the pulse
begins at the start of the period. Stated: R313. -/
def Obligations.LampOnTime : Prop :=
  (∀ p duty m : Nat, m ≤ 4 → ((lampPulses p duty m).map (fun e => e.2)).sum = (p * duty + 32767) / 65535) ∧
  (∀ p m : Nat, lampPulses p 0 m = []) ∧
  (∀ p : Nat, 0 < p → lampPulses p 65535 0 = [(0, p)]) ∧
  (∀ p duty : Nat, 0 < (p * duty + 32767) / 65535 → lampPulses p duty 0 = [(0, (p * duty + 32767) / 65535)])

/-- Where a job memory address lies in DRAM. Channel and address within the channel of a job memory address, the
row, bank group, bank and column of that address, the inverse, and the eight granules of a tile line, which
touch every channel. Stated: R410. -/
def Obligations.AddressInterleave : Prop :=
  (∀ a : Nat, dramChannel a = a / 256 % 6 ∧ dramAddr a = a / 256 / 6 * 256 + a % 256) ∧
  (∀ a : Nat, jobAddr (dramChannel a) (dramAddr a) = a) ∧
  (∀ d ca : Nat, d < 6 → jobAddr d ca = (ca / 256 * 6 + d) * 256 + ca % 256 ∧ dramChannel (jobAddr d ca) = d ∧
     dramAddr (jobAddr d ca) = ca) ∧
  (∀ ca : Nat, dramRow ca = ca / 2 ^ 17 % 2 ^ 17 ∧ dramBankGroup ca = ca / 2 ^ 8 % 4 ^^^ ca / 2 ^ 17 % 4 ∧
     dramBank ca = ca / 2 ^ 10 % 4 ^^^ ca / 2 ^ 19 % 4 ∧ dramColumn ca = ca / 2 ^ 12 % 32 * 32 + ca / 2 ^ 3 % 32) ∧
  (∀ line d : Nat, d < 6 → ∃ a, line * 2048 ≤ a ∧ a < line * 2048 + 2048 ∧ dramChannel a = d)

/-- The first and the next uncorrectable error of a DRAM channel. An uncorrectable error, of a read in any class or
of the scrub, on a GOOD channel makes it DEGRADED and sets INT_STATUS.DEGRADED; on a DEGRADED channel it
schedules a stop. Stated: R424. -/
def Obligations.UncorrectableErrors : Prop :=
  (∀ (r : DramReq) (fold : Bool) (synd t : Nat) (s : State), s.dramSt (dramChannel r.addr) = 2 →
      s.buffered (r.addr / 8 * 8) = false → r.ecc = .uncorrectable fold synd →
    ∃ u : State, exec (.dramRead [r] t) s = .next u ∧
      u.dramSt (dramChannel r.addr) = 3 ∧ u.bit (Reg.INT_STATUS (Reg.pageDRAM (dramChannel r.addr))) 16 = true) ∧
  (∀ (r : DramReq) (fold : Bool) (synd t : Nat) (s : State), s.dramSt (dramChannel r.addr) = 3 →
      s.buffered (r.addr / 8 * 8) = false → r.ecc = .uncorrectable fold synd →
    ∃ u : State, exec (.dramRead [r] t) s = .next u ∧
      u.dramSt (dramChannel r.addr) = 3 ∧ u.bit (Reg.DRAM_CH_STATUS (dramChannel r.addr)) 1 = true ∧
      u.bit (Reg.INT_STATUS (Reg.pageDRAM (dramChannel r.addr))) 17 = true ∧ u.dram.stop = true) ∧
  (∀ (d : Fin 6) (fold : Bool) (synd : Nat) (word : Fin 8) (s : State), s.dramSt d = 2 →
      s.bit (Reg.DRAM_CH_CFG d) 0 = true → s.rdF Reg.THERM_STEPS 1 0 = 0 →
    ∃ u : State, exec (.scrubRead d (.uncorrectable fold synd) word) s = .next u ∧
      u.dramSt d = 3 ∧ u.bit (Reg.INT_STATUS (Reg.pageDRAM d)) 16 = true) ∧
  (∀ (d : Fin 6) (fold : Bool) (synd : Nat) (word : Fin 8) (s : State), s.dramSt d = 3 →
      s.bit (Reg.DRAM_CH_CFG d) 0 = true → s.rdF Reg.THERM_STEPS 1 0 = 0 →
    ∃ u : State, exec (.scrubRead d (.uncorrectable fold synd) word) s = .next u ∧
      u.dramSt d = 3 ∧ u.bit (Reg.DRAM_CH_STATUS d) 1 = true ∧ u.bit (Reg.INT_STATUS (Reg.pageDRAM d)) 17 = true ∧
      u.dram.stop = true)

/-- An arm of a run while the module is not READY, or while STOP_IN is asserted. RUN_ARM while the module is not
READY is recorded in LINE.ERR_INFO as 0x0103, and while it is READY and STOP_IN is asserted as 0x0104; the run
state and every other register stay. In a pair the write is judged first by the rule for state-changing writes.
Stated: R535. -/
def Obligations.ArmRefusals : Prop :=
  (∀ (src : Req) (s : State), s.cutOff src = false → s.writeGate src = none → s.modState ≠ 4 →
    ∃ u : State, exec (.runArm src) s = .next u ∧
      s.errored u Reg.pageLINE 0x0103 Reg.LINE_RUN_CTRL (srcCode src) ∧ u.runSt = s.runSt ∧
      s.regsBut u (errorKeys Reg.pageLINE) ∧ { u with regs := s.regs } = s) ∧
  (∀ (src : Req) (s : State), s.cutOff src = false → s.writeGate src = none → s.modState = 4 → s.pwr.stopIn = true →
    ∃ u : State, exec (.runArm src) s = .next u ∧
      s.errored u Reg.pageLINE 0x0104 Reg.LINE_RUN_CTRL (srcCode src) ∧ u.runSt = s.runSt ∧
      s.regsBut u (errorKeys Reg.pageLINE) ∧ { u with regs := s.regs } = s)

/-- How drop codes are packed into the data blocks of a LINE frame. For the code widths 3, 2 and 1 of the three
formats: bit j of the code of nozzle n is stream bit b n + j, which lies in data block (b n + j) div 64 at
payload bit (b n + j) mod 64; 6,144 codes fill 288, 192 or 96 blocks of 64 bits, and a frame has two blocks
more. Spec: 07_head_link_protocol.md. -/
def Obligations.FramePacking : Prop :=
  (codeBits 0 = 3 ∧ codeBits 1 = 2 ∧ codeBits 2 = 1) ∧
  (∀ (b : Nat) (codes : List Nat), 1 ≤ b → b ≤ 3 → codes.length = 6144 → (∀ x ∈ codes, x < 2 ^ b) →
     (packCodes b 0 0 codes).length = 96 * b ∧ (∀ x ∈ packCodes b 0 0 codes, x < 2 ^ 64)) ∧
  (∀ (b : Nat) (codes : List Nat), 1 ≤ b → b ≤ 3 → codes.length = 6144 → (∀ x ∈ codes, x < 2 ^ b) →
     ∀ n < 6144, ∀ j < b,
     ((packCodes b 0 0 codes).getD ((b * n + j) / 64) 0).testBit ((b * n + j) % 64) = (codes.getD n 0).testBit j) ∧
  (∀ (start : Nat) (data : List Nat), (mkFrame start data).length = data.length + 2)
end

