-- ==== Sys2Proof/Laws/Sparse.lean ====
section
/-! SUPPORT. The laws of the sparse maps: a read after a write, and that every operation keeps the canonical form. -/

namespace Sys2Proof.Machine

variable {β : Type}

theorem smGet_smIns_same (d : Nat → β) (k : Nat) (v : β) (m : SMap β) : smGet d (smIns k v m) k = v := by
  induction m with
  | nil => simp [smIns, smGet]
  | cons e m ih =>
    obtain ⟨j, w⟩ := e
    simp only [smIns]
    split
    · simp [smGet]
    · split
      · simp [smGet]
      · rename_i _ h; simp [smGet, ih, Ne.symm h]

theorem smGet_smIns_ne (d : Nat → β) (k a : Nat) (v : β) (m : SMap β) (h : a ≠ k) :
    smGet d (smIns k v m) a = smGet d m a := by
  induction m with
  | nil => simp [smIns, smGet, Ne.symm h]
  | cons e m ih =>
    obtain ⟨j, w⟩ := e
    simp only [smIns]
    split
    · simp [smGet, Ne.symm h]
    · split
      · rename_i _ hk; subst hk; simp [smGet, Ne.symm h]
      · simp [smGet, ih]

theorem smGet_smDel_same (d : Nat → β) (k : Nat) (m : SMap β) : smGet d (smDel k m) k = d k := by
  induction m with
  | nil => rfl
  | cons e m ih =>
    obtain ⟨j, w⟩ := e
    by_cases h : j = k
    · simpa [smDel, h] using ih
    · simpa [smDel, h, smGet] using ih

theorem smGet_smClear (d : Nat → β) (p : Nat → Bool) (m : SMap β) (a : Nat) :
    smGet d (smClear p m) a = if p a then d a else smGet d m a := by
  induction m with
  | nil => simp [smClear, smGet]
  | cons e m ih =>
    obtain ⟨j, w⟩ := e
    by_cases hp : p j
    · by_cases hj : j = a
      · subst hj; simpa [smClear, hp, smGet] using ih
      · simpa [smClear, hp, smGet, hj] using ih
    · by_cases hj : j = a
      · subst hj; simp [smClear, hp, smGet]
      · simpa [smClear, hp, smGet, hj] using ih

theorem smDel_eq_smClear (k : Nat) (m : SMap β) : smDel k m = smClear (fun a => decide (a = k)) m := by
  simp [smDel, smClear]

theorem smGet_smDel_ne (d : Nat → β) (k a : Nat) (m : SMap β) (h : a ≠ k) : smGet d (smDel k m) a = smGet d m a := by
  rw [smDel_eq_smClear, smGet_smClear]; simp [h]

/-- A read after a write to the same key. -/
theorem smGet_smSet_same [DecidableEq β] (d : Nat → β) (m : SMap β) (k : Nat) (v : β) :
    smGet d (smSet d m k v) k = v := by
  unfold smSet; split
  · rename_i h; rw [smGet_smDel_same, h]
  · exact smGet_smIns_same d k v m

/-- A write leaves every other key alone. -/
theorem smGet_smSet_ne [DecidableEq β] (d : Nat → β) (m : SMap β) (k a : Nat) (v : β) (h : a ≠ k) :
    smGet d (smSet d m k v) a = smGet d m a := by
  unfold smSet; split
  · exact smGet_smDel_ne d k a m h
  · exact smGet_smIns_ne d k a v m h

theorem smGet_smSet [DecidableEq β] (d : Nat → β) (m : SMap β) (k a : Nat) (v : β) :
    smGet d (smSet d m k v) a = if a = k then v else smGet d m a := by
  by_cases h : a = k
  · subst h; simp [smGet_smSet_same]
  · simp [h, smGet_smSet_ne d m k a v h]

/-! ## The canonical form -/

theorem smWf_nil (d : Nat → β) : smWf d ([] : SMap β) := by simp [smWf]

theorem smWf_filter (d : Nat → β) (p : Nat × β → Bool) (m : SMap β) (h : smWf d m) : smWf d (m.filter p) :=
  ⟨h.1.filter p, fun e he => h.2 e (List.mem_filter.1 he).1⟩

theorem smWf_smDel (d : Nat → β) (k : Nat) (m : SMap β) (h : smWf d m) : smWf d (smDel k m) := smWf_filter d _ m h

theorem smWf_smClear (d : Nat → β) (p : Nat → Bool) (m : SMap β) (h : smWf d m) : smWf d (smClear p m) :=
  smWf_filter d _ m h

theorem mem_smIns (k : Nat) (v : β) (m : SMap β) (e : Nat × β) (h : e ∈ smIns k v m) : e = (k, v) ∨ e ∈ m := by
  induction m with
  | nil => simpa [smIns] using h
  | cons f m ih =>
    obtain ⟨j, w⟩ := f
    simp only [smIns] at h
    split at h
    · simpa using h
    · split at h
      · simp only [List.mem_cons] at h ⊢; tauto
      · simp only [List.mem_cons] at h ⊢
        rcases h with h | h
        · tauto
        · rcases ih h with h | h <;> tauto

theorem smIns_sorted (k : Nat) (v : β) (m : SMap β) (h : m.Pairwise (fun a b => a.1 < b.1)) :
    (smIns k v m).Pairwise (fun a b => a.1 < b.1) := by
  induction m with
  | nil => simp [smIns]
  | cons f m ih =>
    obtain ⟨j, w⟩ := f
    have hm := List.pairwise_cons.1 h
    simp only [smIns]
    split
    · rename_i hk
      refine List.pairwise_cons.2 ⟨fun e he => ?_, h⟩
      rcases List.mem_cons.1 he with rfl | he
      · exact hk
      · exact lt_trans hk (hm.1 e he)
    · split
      · rename_i _ hk
        subst hk
        exact List.pairwise_cons.2 ⟨fun e he => hm.1 e he, hm.2⟩
      · rename_i h1 h2
        refine List.pairwise_cons.2 ⟨fun e he => ?_, ih hm.2⟩
        rcases mem_smIns k v m e he with rfl | he
        · show j < k; omega
        · exact hm.1 e he

theorem smWf_smSet [DecidableEq β] (d : Nat → β) (m : SMap β) (k : Nat) (v : β) (h : smWf d m) :
    smWf d (smSet d m k v) := by
  unfold smSet; split
  · exact smWf_smDel d k m h
  · rename_i hv
    refine ⟨smIns_sorted k v m h.1, fun e he => ?_⟩
    rcases mem_smIns k v m e he with rfl | he
    · exact hv
    · exact h.2 e he

/-- Equal readings of canonical maps are equal data. -/
theorem smGet_eq_default (d : Nat → β) (m : SMap β) (k : Nat) (h : ∀ e ∈ m, k < e.1) : smGet d m k = d k := by
  induction m with
  | nil => rfl
  | cons e m ih =>
    have := h e (by simp)
    simp only [smGet]
    rw [if_neg (by omega), ih (fun e he => h e (by simp [he]))]

theorem smWf_ext (d : Nat → β) (a b : SMap β) (ha : smWf d a) (hb : smWf d b)
    (h : ∀ k, smGet d a k = smGet d b k) : a = b := by
  induction a generalizing b with
  | nil =>
    cases b with
    | nil => rfl
    | cons e b => exact absurd (by simpa [smGet] using (h e.1).symm) (hb.2 e (by simp))
  | cons e a ih =>
    have ha' := List.pairwise_cons.1 ha.1
    cases b with
    | nil => exact absurd (by simpa [smGet] using h e.1) (ha.2 e (by simp))
    | cons f b =>
      have hb' := List.pairwise_cons.1 hb.1
      obtain ⟨j, v⟩ := e
      obtain ⟨k, w⟩ := f
      have hjk : j = k := by
        rcases lt_trichotomy j k with hlt | he | hlt
        · have := h j
          rw [smGet_eq_default d ((k, w) :: b) j (fun x hx => by
            rcases List.mem_cons.1 hx with rfl | hx
            · exact hlt
            · exact lt_trans hlt (hb'.1 x hx))] at this
          exact absurd (by simpa [smGet] using this) (ha.2 (j, v) (by simp))
        · exact he
        · have := h k
          rw [smGet_eq_default d ((j, v) :: a) k (fun x hx => by
            rcases List.mem_cons.1 hx with rfl | hx
            · exact hlt
            · exact lt_trans hlt (ha'.1 x hx))] at this
          exact absurd (by simpa [smGet] using this.symm) (hb.2 (k, w) (by simp))
      subst hjk
      have hv : v = w := by simpa [smGet] using h j
      subst hv
      refine congrArg _ (ih b ⟨ha'.2, fun e he => ha.2 e (by simp [he])⟩ ⟨hb'.2, fun e he => hb.2 e (by simp [he])⟩
        (fun k => ?_))
      by_cases hk : j = k
      · subst hk
        rw [smGet_eq_default d a j (ha'.1 ·), smGet_eq_default d b j (hb'.1 ·)]
      · simpa [smGet, hk] using h k

/-- Every write of job memory keeps the canonical form. -/
theorem memPut_wf (m : SMap Byte) (a : Nat) (l : List Byte) (h : Memory.wf m) : Memory.wf (memPut m a l) := by
  unfold memPut
  generalize l.zipIdx = z
  induction z generalizing m with
  | nil => exact h
  | cons e z ih => exact ih _ (smWf_smSet _ m _ _ h)

theorem reset_mem_wf : Memory.wf State.reset.job.mem := smWf_nil _

end Sys2Proof.Machine
end

