-- ==== Sys2Proof/Laws/State.lean ====
section
/-! SUPPORT. The laws of the register file and of the records of State: what each update leaves alone, field by field,
and what a register reads after a write. -/

namespace Sys2Proof.Machine

variable (s : State)

/-! ## Registers -/

/-- What a register reads after a write. -/
theorem State.rd_wr (a v k : Nat) : (s.wr a v).rd k = if k = a then v % 2 ^ 32 else s.rd k := by
  unfold State.rd State.wr
  rw [smGet_smSet]
  split <;> simp

@[simp] theorem State.rd_wr_same (a v : Nat) : (s.wr a v).rd a = v % 2 ^ 32 := by simp [State.rd_wr]

theorem State.rd_wr_ne (a v k : Nat) (h : k ≠ a) : (s.wr a v).rd k = s.rd k := by simp [State.rd_wr, h]

/-- A register is 32 bits wide. -/
theorem State.rd_lt (k : Nat) : s.rd k < 2 ^ 32 := (smGet resetOf s.regs k).isLt

/-- A register reads its reset value in the reset state, but for STATE_LOST of the mailbox pages. -/
theorem State.rd_reset (k : Nat) (h : k ≠ Reg.INT_STATUS Reg.pageMBOX) (h' : k ≠ Reg.INT_STATUS Reg.pageMBOXS) :
    State.reset.rd k = (resetOf k).toNat := by
  simp only [State.rd, State.reset, smGet, if_neg h.symm, if_neg h'.symm]

/-! ## wr -/

@[simp] theorem State.wr_frc (a v : Nat) : (s.wr a v).frc = s.frc := rfl
@[simp] theorem State.wr_shadow (a v : Nat) : (s.wr a v).shadow = s.shadow := rfl
@[simp] theorem State.wr_latchR (a v : Nat) : (s.wr a v).latchR = s.latchR := rfl
@[simp] theorem State.wr_latchW (a v : Nat) : (s.wr a v).latchW = s.latchW := rfl
@[simp] theorem State.wr_frozen (a v : Nat) : (s.wr a v).frozen = s.frozen := rfl
@[simp] theorem State.wr_locks (a v : Nat) : (s.wr a v).locks = s.locks := rfl
@[simp] theorem State.wr_msix (a v : Nat) : (s.wr a v).msix = s.msix := rfl
@[simp] theorem State.wr_line (a v : Nat) : (s.wr a v).line = s.line := rfl
@[simp] theorem State.wr_slots (a v : Nat) : (s.wr a v).slots = s.slots := rfl
@[simp] theorem State.wr_scr (a v : Nat) : (s.wr a v).scr = s.scr := rfl
@[simp] theorem State.wr_splices (a v : Nat) : (s.wr a v).splices = s.splices := rfl
@[simp] theorem State.wr_job (a v : Nat) : (s.wr a v).job = s.job := rfl
@[simp] theorem State.wr_lanes (a v : Nat) : (s.wr a v).lanes = s.lanes := rfl
@[simp] theorem State.wr_cam (a v : Nat) : (s.wr a v).cam = s.cam := rfl
@[simp] theorem State.wr_colour (a v : Nat) : (s.wr a v).colour = s.colour := rfl
@[simp] theorem State.wr_lamp (a v : Nat) : (s.wr a v).lamp = s.lamp := rfl
@[simp] theorem State.wr_pair (a v : Nat) : (s.wr a v).pair = s.pair := rfl
@[simp] theorem State.wr_ring (a v : Nat) : (s.wr a v).ring = s.ring := rfl
@[simp] theorem State.wr_net (a v : Nat) : (s.wr a v).net = s.net := rfl
@[simp] theorem State.wr_tio (a v : Nat) : (s.wr a v).tio = s.tio := rfl
@[simp] theorem State.wr_dram (a v : Nat) : (s.wr a v).dram = s.dram := rfl
@[simp] theorem State.wr_host (a v : Nat) : (s.wr a v).host = s.host := rfl
@[simp] theorem State.wr_mgmt (a v : Nat) : (s.wr a v).mgmt = s.mgmt := rfl
@[simp] theorem State.wr_pwr (a v : Nat) : (s.wr a v).pwr = s.pwr := rfl
@[simp] theorem State.wr_reply (a v : Nat) : (s.wr a v).reply = s.reply := rfl
@[simp] theorem State.wr_out (a v : Nat) : (s.wr a v).out = s.out := rfl
@[simp] theorem State.wr_freeCount (a v : Nat) : (s.wr a v).freeCount = s.freeCount := rfl
@[simp] theorem State.wr_pending (a v : Nat) : (s.wr a v).pending = s.pending := rfl

/-! ## wrF -/

@[simp] theorem State.wrF_frc (a hi lo v : Nat) : (s.wrF a hi lo v).frc = s.frc := rfl
@[simp] theorem State.wrF_shadow (a hi lo v : Nat) : (s.wrF a hi lo v).shadow = s.shadow := rfl
@[simp] theorem State.wrF_latchR (a hi lo v : Nat) : (s.wrF a hi lo v).latchR = s.latchR := rfl
@[simp] theorem State.wrF_latchW (a hi lo v : Nat) : (s.wrF a hi lo v).latchW = s.latchW := rfl
@[simp] theorem State.wrF_frozen (a hi lo v : Nat) : (s.wrF a hi lo v).frozen = s.frozen := rfl
@[simp] theorem State.wrF_locks (a hi lo v : Nat) : (s.wrF a hi lo v).locks = s.locks := rfl
@[simp] theorem State.wrF_msix (a hi lo v : Nat) : (s.wrF a hi lo v).msix = s.msix := rfl
@[simp] theorem State.wrF_line (a hi lo v : Nat) : (s.wrF a hi lo v).line = s.line := rfl
@[simp] theorem State.wrF_slots (a hi lo v : Nat) : (s.wrF a hi lo v).slots = s.slots := rfl
@[simp] theorem State.wrF_scr (a hi lo v : Nat) : (s.wrF a hi lo v).scr = s.scr := rfl
@[simp] theorem State.wrF_splices (a hi lo v : Nat) : (s.wrF a hi lo v).splices = s.splices := rfl
@[simp] theorem State.wrF_job (a hi lo v : Nat) : (s.wrF a hi lo v).job = s.job := rfl
@[simp] theorem State.wrF_lanes (a hi lo v : Nat) : (s.wrF a hi lo v).lanes = s.lanes := rfl
@[simp] theorem State.wrF_cam (a hi lo v : Nat) : (s.wrF a hi lo v).cam = s.cam := rfl
@[simp] theorem State.wrF_colour (a hi lo v : Nat) : (s.wrF a hi lo v).colour = s.colour := rfl
@[simp] theorem State.wrF_lamp (a hi lo v : Nat) : (s.wrF a hi lo v).lamp = s.lamp := rfl
@[simp] theorem State.wrF_pair (a hi lo v : Nat) : (s.wrF a hi lo v).pair = s.pair := rfl
@[simp] theorem State.wrF_ring (a hi lo v : Nat) : (s.wrF a hi lo v).ring = s.ring := rfl
@[simp] theorem State.wrF_net (a hi lo v : Nat) : (s.wrF a hi lo v).net = s.net := rfl
@[simp] theorem State.wrF_tio (a hi lo v : Nat) : (s.wrF a hi lo v).tio = s.tio := rfl
@[simp] theorem State.wrF_dram (a hi lo v : Nat) : (s.wrF a hi lo v).dram = s.dram := rfl
@[simp] theorem State.wrF_host (a hi lo v : Nat) : (s.wrF a hi lo v).host = s.host := rfl
@[simp] theorem State.wrF_mgmt (a hi lo v : Nat) : (s.wrF a hi lo v).mgmt = s.mgmt := rfl
@[simp] theorem State.wrF_pwr (a hi lo v : Nat) : (s.wrF a hi lo v).pwr = s.pwr := rfl
@[simp] theorem State.wrF_reply (a hi lo v : Nat) : (s.wrF a hi lo v).reply = s.reply := rfl
@[simp] theorem State.wrF_out (a hi lo v : Nat) : (s.wrF a hi lo v).out = s.out := rfl
@[simp] theorem State.wrF_freeCount (a hi lo v : Nat) : (s.wrF a hi lo v).freeCount = s.freeCount := rfl
@[simp] theorem State.wrF_pending (a hi lo v : Nat) : (s.wrF a hi lo v).pending = s.pending := rfl

/-! ## wrB -/

@[simp] theorem State.wrB_frc (a i : Nat) (b : Bool) : (s.wrB a i b).frc = s.frc := rfl
@[simp] theorem State.wrB_shadow (a i : Nat) (b : Bool) : (s.wrB a i b).shadow = s.shadow := rfl
@[simp] theorem State.wrB_latchR (a i : Nat) (b : Bool) : (s.wrB a i b).latchR = s.latchR := rfl
@[simp] theorem State.wrB_latchW (a i : Nat) (b : Bool) : (s.wrB a i b).latchW = s.latchW := rfl
@[simp] theorem State.wrB_frozen (a i : Nat) (b : Bool) : (s.wrB a i b).frozen = s.frozen := rfl
@[simp] theorem State.wrB_locks (a i : Nat) (b : Bool) : (s.wrB a i b).locks = s.locks := rfl
@[simp] theorem State.wrB_msix (a i : Nat) (b : Bool) : (s.wrB a i b).msix = s.msix := rfl
@[simp] theorem State.wrB_line (a i : Nat) (b : Bool) : (s.wrB a i b).line = s.line := rfl
@[simp] theorem State.wrB_slots (a i : Nat) (b : Bool) : (s.wrB a i b).slots = s.slots := rfl
@[simp] theorem State.wrB_scr (a i : Nat) (b : Bool) : (s.wrB a i b).scr = s.scr := rfl
@[simp] theorem State.wrB_splices (a i : Nat) (b : Bool) : (s.wrB a i b).splices = s.splices := rfl
@[simp] theorem State.wrB_job (a i : Nat) (b : Bool) : (s.wrB a i b).job = s.job := rfl
@[simp] theorem State.wrB_lanes (a i : Nat) (b : Bool) : (s.wrB a i b).lanes = s.lanes := rfl
@[simp] theorem State.wrB_cam (a i : Nat) (b : Bool) : (s.wrB a i b).cam = s.cam := rfl
@[simp] theorem State.wrB_colour (a i : Nat) (b : Bool) : (s.wrB a i b).colour = s.colour := rfl
@[simp] theorem State.wrB_lamp (a i : Nat) (b : Bool) : (s.wrB a i b).lamp = s.lamp := rfl
@[simp] theorem State.wrB_pair (a i : Nat) (b : Bool) : (s.wrB a i b).pair = s.pair := rfl
@[simp] theorem State.wrB_ring (a i : Nat) (b : Bool) : (s.wrB a i b).ring = s.ring := rfl
@[simp] theorem State.wrB_net (a i : Nat) (b : Bool) : (s.wrB a i b).net = s.net := rfl
@[simp] theorem State.wrB_tio (a i : Nat) (b : Bool) : (s.wrB a i b).tio = s.tio := rfl
@[simp] theorem State.wrB_dram (a i : Nat) (b : Bool) : (s.wrB a i b).dram = s.dram := rfl
@[simp] theorem State.wrB_host (a i : Nat) (b : Bool) : (s.wrB a i b).host = s.host := rfl
@[simp] theorem State.wrB_mgmt (a i : Nat) (b : Bool) : (s.wrB a i b).mgmt = s.mgmt := rfl
@[simp] theorem State.wrB_pwr (a i : Nat) (b : Bool) : (s.wrB a i b).pwr = s.pwr := rfl
@[simp] theorem State.wrB_reply (a i : Nat) (b : Bool) : (s.wrB a i b).reply = s.reply := rfl
@[simp] theorem State.wrB_out (a i : Nat) (b : Bool) : (s.wrB a i b).out = s.out := rfl
@[simp] theorem State.wrB_freeCount (a i : Nat) (b : Bool) : (s.wrB a i b).freeCount = s.freeCount := rfl
@[simp] theorem State.wrB_pending (a i : Nat) (b : Bool) : (s.wrB a i b).pending = s.pending := rfl

/-! ## count -/

@[simp] theorem State.count_frc (a : Nat) : (s.count a).frc = s.frc := rfl
@[simp] theorem State.count_shadow (a : Nat) : (s.count a).shadow = s.shadow := rfl
@[simp] theorem State.count_latchR (a : Nat) : (s.count a).latchR = s.latchR := rfl
@[simp] theorem State.count_latchW (a : Nat) : (s.count a).latchW = s.latchW := rfl
@[simp] theorem State.count_frozen (a : Nat) : (s.count a).frozen = s.frozen := rfl
@[simp] theorem State.count_locks (a : Nat) : (s.count a).locks = s.locks := rfl
@[simp] theorem State.count_msix (a : Nat) : (s.count a).msix = s.msix := rfl
@[simp] theorem State.count_line (a : Nat) : (s.count a).line = s.line := rfl
@[simp] theorem State.count_slots (a : Nat) : (s.count a).slots = s.slots := rfl
@[simp] theorem State.count_scr (a : Nat) : (s.count a).scr = s.scr := rfl
@[simp] theorem State.count_splices (a : Nat) : (s.count a).splices = s.splices := rfl
@[simp] theorem State.count_job (a : Nat) : (s.count a).job = s.job := rfl
@[simp] theorem State.count_lanes (a : Nat) : (s.count a).lanes = s.lanes := rfl
@[simp] theorem State.count_cam (a : Nat) : (s.count a).cam = s.cam := rfl
@[simp] theorem State.count_colour (a : Nat) : (s.count a).colour = s.colour := rfl
@[simp] theorem State.count_lamp (a : Nat) : (s.count a).lamp = s.lamp := rfl
@[simp] theorem State.count_pair (a : Nat) : (s.count a).pair = s.pair := rfl
@[simp] theorem State.count_ring (a : Nat) : (s.count a).ring = s.ring := rfl
@[simp] theorem State.count_net (a : Nat) : (s.count a).net = s.net := rfl
@[simp] theorem State.count_tio (a : Nat) : (s.count a).tio = s.tio := rfl
@[simp] theorem State.count_dram (a : Nat) : (s.count a).dram = s.dram := rfl
@[simp] theorem State.count_host (a : Nat) : (s.count a).host = s.host := rfl
@[simp] theorem State.count_mgmt (a : Nat) : (s.count a).mgmt = s.mgmt := rfl
@[simp] theorem State.count_pwr (a : Nat) : (s.count a).pwr = s.pwr := rfl
@[simp] theorem State.count_reply (a : Nat) : (s.count a).reply = s.reply := rfl
@[simp] theorem State.count_out (a : Nat) : (s.count a).out = s.out := rfl
@[simp] theorem State.count_freeCount (a : Nat) : (s.count a).freeCount = s.freeCount := rfl
@[simp] theorem State.count_pending (a : Nat) : (s.count a).pending = s.pending := rfl

/-! ## countF -/

@[simp] theorem State.countF_frc (a hi lo : Nat) : (s.countF a hi lo).frc = s.frc := rfl
@[simp] theorem State.countF_shadow (a hi lo : Nat) : (s.countF a hi lo).shadow = s.shadow := rfl
@[simp] theorem State.countF_latchR (a hi lo : Nat) : (s.countF a hi lo).latchR = s.latchR := rfl
@[simp] theorem State.countF_latchW (a hi lo : Nat) : (s.countF a hi lo).latchW = s.latchW := rfl
@[simp] theorem State.countF_frozen (a hi lo : Nat) : (s.countF a hi lo).frozen = s.frozen := rfl
@[simp] theorem State.countF_locks (a hi lo : Nat) : (s.countF a hi lo).locks = s.locks := rfl
@[simp] theorem State.countF_msix (a hi lo : Nat) : (s.countF a hi lo).msix = s.msix := rfl
@[simp] theorem State.countF_line (a hi lo : Nat) : (s.countF a hi lo).line = s.line := rfl
@[simp] theorem State.countF_slots (a hi lo : Nat) : (s.countF a hi lo).slots = s.slots := rfl
@[simp] theorem State.countF_scr (a hi lo : Nat) : (s.countF a hi lo).scr = s.scr := rfl
@[simp] theorem State.countF_splices (a hi lo : Nat) : (s.countF a hi lo).splices = s.splices := rfl
@[simp] theorem State.countF_job (a hi lo : Nat) : (s.countF a hi lo).job = s.job := rfl
@[simp] theorem State.countF_lanes (a hi lo : Nat) : (s.countF a hi lo).lanes = s.lanes := rfl
@[simp] theorem State.countF_cam (a hi lo : Nat) : (s.countF a hi lo).cam = s.cam := rfl
@[simp] theorem State.countF_colour (a hi lo : Nat) : (s.countF a hi lo).colour = s.colour := rfl
@[simp] theorem State.countF_lamp (a hi lo : Nat) : (s.countF a hi lo).lamp = s.lamp := rfl
@[simp] theorem State.countF_pair (a hi lo : Nat) : (s.countF a hi lo).pair = s.pair := rfl
@[simp] theorem State.countF_ring (a hi lo : Nat) : (s.countF a hi lo).ring = s.ring := rfl
@[simp] theorem State.countF_net (a hi lo : Nat) : (s.countF a hi lo).net = s.net := rfl
@[simp] theorem State.countF_tio (a hi lo : Nat) : (s.countF a hi lo).tio = s.tio := rfl
@[simp] theorem State.countF_dram (a hi lo : Nat) : (s.countF a hi lo).dram = s.dram := rfl
@[simp] theorem State.countF_host (a hi lo : Nat) : (s.countF a hi lo).host = s.host := rfl
@[simp] theorem State.countF_mgmt (a hi lo : Nat) : (s.countF a hi lo).mgmt = s.mgmt := rfl
@[simp] theorem State.countF_pwr (a hi lo : Nat) : (s.countF a hi lo).pwr = s.pwr := rfl
@[simp] theorem State.countF_reply (a hi lo : Nat) : (s.countF a hi lo).reply = s.reply := rfl
@[simp] theorem State.countF_out (a hi lo : Nat) : (s.countF a hi lo).out = s.out := rfl
@[simp] theorem State.countF_freeCount (a hi lo : Nat) : (s.countF a hi lo).freeCount = s.freeCount := rfl
@[simp] theorem State.countF_pending (a hi lo : Nat) : (s.countF a hi lo).pending = s.pending := rfl

/-! ## wr64 -/

@[simp] theorem State.wr64_frc (a b v : Nat) : (s.wr64 a b v).frc = s.frc := rfl
@[simp] theorem State.wr64_shadow (a b v : Nat) : (s.wr64 a b v).shadow = s.shadow := rfl
@[simp] theorem State.wr64_latchR (a b v : Nat) : (s.wr64 a b v).latchR = s.latchR := rfl
@[simp] theorem State.wr64_latchW (a b v : Nat) : (s.wr64 a b v).latchW = s.latchW := rfl
@[simp] theorem State.wr64_frozen (a b v : Nat) : (s.wr64 a b v).frozen = s.frozen := rfl
@[simp] theorem State.wr64_locks (a b v : Nat) : (s.wr64 a b v).locks = s.locks := rfl
@[simp] theorem State.wr64_msix (a b v : Nat) : (s.wr64 a b v).msix = s.msix := rfl
@[simp] theorem State.wr64_line (a b v : Nat) : (s.wr64 a b v).line = s.line := rfl
@[simp] theorem State.wr64_slots (a b v : Nat) : (s.wr64 a b v).slots = s.slots := rfl
@[simp] theorem State.wr64_scr (a b v : Nat) : (s.wr64 a b v).scr = s.scr := rfl
@[simp] theorem State.wr64_splices (a b v : Nat) : (s.wr64 a b v).splices = s.splices := rfl
@[simp] theorem State.wr64_job (a b v : Nat) : (s.wr64 a b v).job = s.job := rfl
@[simp] theorem State.wr64_lanes (a b v : Nat) : (s.wr64 a b v).lanes = s.lanes := rfl
@[simp] theorem State.wr64_cam (a b v : Nat) : (s.wr64 a b v).cam = s.cam := rfl
@[simp] theorem State.wr64_colour (a b v : Nat) : (s.wr64 a b v).colour = s.colour := rfl
@[simp] theorem State.wr64_lamp (a b v : Nat) : (s.wr64 a b v).lamp = s.lamp := rfl
@[simp] theorem State.wr64_pair (a b v : Nat) : (s.wr64 a b v).pair = s.pair := rfl
@[simp] theorem State.wr64_ring (a b v : Nat) : (s.wr64 a b v).ring = s.ring := rfl
@[simp] theorem State.wr64_net (a b v : Nat) : (s.wr64 a b v).net = s.net := rfl
@[simp] theorem State.wr64_tio (a b v : Nat) : (s.wr64 a b v).tio = s.tio := rfl
@[simp] theorem State.wr64_dram (a b v : Nat) : (s.wr64 a b v).dram = s.dram := rfl
@[simp] theorem State.wr64_host (a b v : Nat) : (s.wr64 a b v).host = s.host := rfl
@[simp] theorem State.wr64_mgmt (a b v : Nat) : (s.wr64 a b v).mgmt = s.mgmt := rfl
@[simp] theorem State.wr64_pwr (a b v : Nat) : (s.wr64 a b v).pwr = s.pwr := rfl
@[simp] theorem State.wr64_reply (a b v : Nat) : (s.wr64 a b v).reply = s.reply := rfl
@[simp] theorem State.wr64_out (a b v : Nat) : (s.wr64 a b v).out = s.out := rfl
@[simp] theorem State.wr64_freeCount (a b v : Nat) : (s.wr64 a b v).freeCount = s.freeCount := rfl
@[simp] theorem State.wr64_pending (a b v : Nat) : (s.wr64 a b v).pending = s.pending := rfl

/-! ## intSet -/

@[simp] theorem State.intSet_frc (p i : Nat) : (s.intSet p i).frc = s.frc := rfl
@[simp] theorem State.intSet_shadow (p i : Nat) : (s.intSet p i).shadow = s.shadow := rfl
@[simp] theorem State.intSet_latchR (p i : Nat) : (s.intSet p i).latchR = s.latchR := rfl
@[simp] theorem State.intSet_latchW (p i : Nat) : (s.intSet p i).latchW = s.latchW := rfl
@[simp] theorem State.intSet_frozen (p i : Nat) : (s.intSet p i).frozen = s.frozen := rfl
@[simp] theorem State.intSet_locks (p i : Nat) : (s.intSet p i).locks = s.locks := rfl
@[simp] theorem State.intSet_msix (p i : Nat) : (s.intSet p i).msix = s.msix := rfl
@[simp] theorem State.intSet_line (p i : Nat) : (s.intSet p i).line = s.line := rfl
@[simp] theorem State.intSet_slots (p i : Nat) : (s.intSet p i).slots = s.slots := rfl
@[simp] theorem State.intSet_scr (p i : Nat) : (s.intSet p i).scr = s.scr := rfl
@[simp] theorem State.intSet_splices (p i : Nat) : (s.intSet p i).splices = s.splices := rfl
@[simp] theorem State.intSet_job (p i : Nat) : (s.intSet p i).job = s.job := rfl
@[simp] theorem State.intSet_lanes (p i : Nat) : (s.intSet p i).lanes = s.lanes := rfl
@[simp] theorem State.intSet_cam (p i : Nat) : (s.intSet p i).cam = s.cam := rfl
@[simp] theorem State.intSet_colour (p i : Nat) : (s.intSet p i).colour = s.colour := rfl
@[simp] theorem State.intSet_lamp (p i : Nat) : (s.intSet p i).lamp = s.lamp := rfl
@[simp] theorem State.intSet_pair (p i : Nat) : (s.intSet p i).pair = s.pair := rfl
@[simp] theorem State.intSet_ring (p i : Nat) : (s.intSet p i).ring = s.ring := rfl
@[simp] theorem State.intSet_net (p i : Nat) : (s.intSet p i).net = s.net := rfl
@[simp] theorem State.intSet_tio (p i : Nat) : (s.intSet p i).tio = s.tio := rfl
@[simp] theorem State.intSet_dram (p i : Nat) : (s.intSet p i).dram = s.dram := rfl
@[simp] theorem State.intSet_host (p i : Nat) : (s.intSet p i).host = s.host := rfl
@[simp] theorem State.intSet_mgmt (p i : Nat) : (s.intSet p i).mgmt = s.mgmt := rfl
@[simp] theorem State.intSet_pwr (p i : Nat) : (s.intSet p i).pwr = s.pwr := rfl
@[simp] theorem State.intSet_reply (p i : Nat) : (s.intSet p i).reply = s.reply := rfl
@[simp] theorem State.intSet_out (p i : Nat) : (s.intSet p i).out = s.out := rfl
@[simp] theorem State.intSet_freeCount (p i : Nat) : (s.intSet p i).freeCount = s.freeCount := rfl
@[simp] theorem State.intSet_pending (p i : Nat) : (s.intSet p i).pending = s.pending := rfl

/-! ## ready -/

@[simp] theorem State.ready_frc (p : Nat) (b : Bool) : (s.ready p b).frc = s.frc := rfl
@[simp] theorem State.ready_shadow (p : Nat) (b : Bool) : (s.ready p b).shadow = s.shadow := rfl
@[simp] theorem State.ready_latchR (p : Nat) (b : Bool) : (s.ready p b).latchR = s.latchR := rfl
@[simp] theorem State.ready_latchW (p : Nat) (b : Bool) : (s.ready p b).latchW = s.latchW := rfl
@[simp] theorem State.ready_frozen (p : Nat) (b : Bool) : (s.ready p b).frozen = s.frozen := rfl
@[simp] theorem State.ready_locks (p : Nat) (b : Bool) : (s.ready p b).locks = s.locks := rfl
@[simp] theorem State.ready_msix (p : Nat) (b : Bool) : (s.ready p b).msix = s.msix := rfl
@[simp] theorem State.ready_line (p : Nat) (b : Bool) : (s.ready p b).line = s.line := rfl
@[simp] theorem State.ready_slots (p : Nat) (b : Bool) : (s.ready p b).slots = s.slots := rfl
@[simp] theorem State.ready_scr (p : Nat) (b : Bool) : (s.ready p b).scr = s.scr := rfl
@[simp] theorem State.ready_splices (p : Nat) (b : Bool) : (s.ready p b).splices = s.splices := rfl
@[simp] theorem State.ready_job (p : Nat) (b : Bool) : (s.ready p b).job = s.job := rfl
@[simp] theorem State.ready_lanes (p : Nat) (b : Bool) : (s.ready p b).lanes = s.lanes := rfl
@[simp] theorem State.ready_cam (p : Nat) (b : Bool) : (s.ready p b).cam = s.cam := rfl
@[simp] theorem State.ready_colour (p : Nat) (b : Bool) : (s.ready p b).colour = s.colour := rfl
@[simp] theorem State.ready_lamp (p : Nat) (b : Bool) : (s.ready p b).lamp = s.lamp := rfl
@[simp] theorem State.ready_pair (p : Nat) (b : Bool) : (s.ready p b).pair = s.pair := rfl
@[simp] theorem State.ready_ring (p : Nat) (b : Bool) : (s.ready p b).ring = s.ring := rfl
@[simp] theorem State.ready_net (p : Nat) (b : Bool) : (s.ready p b).net = s.net := rfl
@[simp] theorem State.ready_tio (p : Nat) (b : Bool) : (s.ready p b).tio = s.tio := rfl
@[simp] theorem State.ready_dram (p : Nat) (b : Bool) : (s.ready p b).dram = s.dram := rfl
@[simp] theorem State.ready_host (p : Nat) (b : Bool) : (s.ready p b).host = s.host := rfl
@[simp] theorem State.ready_mgmt (p : Nat) (b : Bool) : (s.ready p b).mgmt = s.mgmt := rfl
@[simp] theorem State.ready_pwr (p : Nat) (b : Bool) : (s.ready p b).pwr = s.pwr := rfl
@[simp] theorem State.ready_reply (p : Nat) (b : Bool) : (s.ready p b).reply = s.reply := rfl
@[simp] theorem State.ready_out (p : Nat) (b : Bool) : (s.ready p b).out = s.out := rfl
@[simp] theorem State.ready_freeCount (p : Nat) (b : Bool) : (s.ready p b).freeCount = s.freeCount := rfl
@[simp] theorem State.ready_pending (p : Nat) (b : Bool) : (s.ready p b).pending = s.pending := rfl

/-! ## busy -/

@[simp] theorem State.busy_frc (p : Nat) (b : Bool) : (s.busy p b).frc = s.frc := rfl
@[simp] theorem State.busy_shadow (p : Nat) (b : Bool) : (s.busy p b).shadow = s.shadow := rfl
@[simp] theorem State.busy_latchR (p : Nat) (b : Bool) : (s.busy p b).latchR = s.latchR := rfl
@[simp] theorem State.busy_latchW (p : Nat) (b : Bool) : (s.busy p b).latchW = s.latchW := rfl
@[simp] theorem State.busy_frozen (p : Nat) (b : Bool) : (s.busy p b).frozen = s.frozen := rfl
@[simp] theorem State.busy_locks (p : Nat) (b : Bool) : (s.busy p b).locks = s.locks := rfl
@[simp] theorem State.busy_msix (p : Nat) (b : Bool) : (s.busy p b).msix = s.msix := rfl
@[simp] theorem State.busy_line (p : Nat) (b : Bool) : (s.busy p b).line = s.line := rfl
@[simp] theorem State.busy_slots (p : Nat) (b : Bool) : (s.busy p b).slots = s.slots := rfl
@[simp] theorem State.busy_scr (p : Nat) (b : Bool) : (s.busy p b).scr = s.scr := rfl
@[simp] theorem State.busy_splices (p : Nat) (b : Bool) : (s.busy p b).splices = s.splices := rfl
@[simp] theorem State.busy_job (p : Nat) (b : Bool) : (s.busy p b).job = s.job := rfl
@[simp] theorem State.busy_lanes (p : Nat) (b : Bool) : (s.busy p b).lanes = s.lanes := rfl
@[simp] theorem State.busy_cam (p : Nat) (b : Bool) : (s.busy p b).cam = s.cam := rfl
@[simp] theorem State.busy_colour (p : Nat) (b : Bool) : (s.busy p b).colour = s.colour := rfl
@[simp] theorem State.busy_lamp (p : Nat) (b : Bool) : (s.busy p b).lamp = s.lamp := rfl
@[simp] theorem State.busy_pair (p : Nat) (b : Bool) : (s.busy p b).pair = s.pair := rfl
@[simp] theorem State.busy_ring (p : Nat) (b : Bool) : (s.busy p b).ring = s.ring := rfl
@[simp] theorem State.busy_net (p : Nat) (b : Bool) : (s.busy p b).net = s.net := rfl
@[simp] theorem State.busy_tio (p : Nat) (b : Bool) : (s.busy p b).tio = s.tio := rfl
@[simp] theorem State.busy_dram (p : Nat) (b : Bool) : (s.busy p b).dram = s.dram := rfl
@[simp] theorem State.busy_host (p : Nat) (b : Bool) : (s.busy p b).host = s.host := rfl
@[simp] theorem State.busy_mgmt (p : Nat) (b : Bool) : (s.busy p b).mgmt = s.mgmt := rfl
@[simp] theorem State.busy_pwr (p : Nat) (b : Bool) : (s.busy p b).pwr = s.pwr := rfl
@[simp] theorem State.busy_reply (p : Nat) (b : Bool) : (s.busy p b).reply = s.reply := rfl
@[simp] theorem State.busy_out (p : Nat) (b : Bool) : (s.busy p b).out = s.out := rfl
@[simp] theorem State.busy_freeCount (p : Nat) (b : Bool) : (s.busy p b).freeCount = s.freeCount := rfl
@[simp] theorem State.busy_pending (p : Nat) (b : Bool) : (s.busy p b).pending = s.pending := rfl

/-! ## degraded -/

@[simp] theorem State.degraded_frc (p : Nat) (b : Bool) : (s.degraded p b).frc = s.frc := rfl
@[simp] theorem State.degraded_shadow (p : Nat) (b : Bool) : (s.degraded p b).shadow = s.shadow := rfl
@[simp] theorem State.degraded_latchR (p : Nat) (b : Bool) : (s.degraded p b).latchR = s.latchR := rfl
@[simp] theorem State.degraded_latchW (p : Nat) (b : Bool) : (s.degraded p b).latchW = s.latchW := rfl
@[simp] theorem State.degraded_frozen (p : Nat) (b : Bool) : (s.degraded p b).frozen = s.frozen := rfl
@[simp] theorem State.degraded_locks (p : Nat) (b : Bool) : (s.degraded p b).locks = s.locks := rfl
@[simp] theorem State.degraded_msix (p : Nat) (b : Bool) : (s.degraded p b).msix = s.msix := rfl
@[simp] theorem State.degraded_line (p : Nat) (b : Bool) : (s.degraded p b).line = s.line := rfl
@[simp] theorem State.degraded_slots (p : Nat) (b : Bool) : (s.degraded p b).slots = s.slots := rfl
@[simp] theorem State.degraded_scr (p : Nat) (b : Bool) : (s.degraded p b).scr = s.scr := rfl
@[simp] theorem State.degraded_splices (p : Nat) (b : Bool) : (s.degraded p b).splices = s.splices := rfl
@[simp] theorem State.degraded_job (p : Nat) (b : Bool) : (s.degraded p b).job = s.job := rfl
@[simp] theorem State.degraded_lanes (p : Nat) (b : Bool) : (s.degraded p b).lanes = s.lanes := rfl
@[simp] theorem State.degraded_cam (p : Nat) (b : Bool) : (s.degraded p b).cam = s.cam := rfl
@[simp] theorem State.degraded_colour (p : Nat) (b : Bool) : (s.degraded p b).colour = s.colour := rfl
@[simp] theorem State.degraded_lamp (p : Nat) (b : Bool) : (s.degraded p b).lamp = s.lamp := rfl
@[simp] theorem State.degraded_pair (p : Nat) (b : Bool) : (s.degraded p b).pair = s.pair := rfl
@[simp] theorem State.degraded_ring (p : Nat) (b : Bool) : (s.degraded p b).ring = s.ring := rfl
@[simp] theorem State.degraded_net (p : Nat) (b : Bool) : (s.degraded p b).net = s.net := rfl
@[simp] theorem State.degraded_tio (p : Nat) (b : Bool) : (s.degraded p b).tio = s.tio := rfl
@[simp] theorem State.degraded_dram (p : Nat) (b : Bool) : (s.degraded p b).dram = s.dram := rfl
@[simp] theorem State.degraded_host (p : Nat) (b : Bool) : (s.degraded p b).host = s.host := rfl
@[simp] theorem State.degraded_mgmt (p : Nat) (b : Bool) : (s.degraded p b).mgmt = s.mgmt := rfl
@[simp] theorem State.degraded_pwr (p : Nat) (b : Bool) : (s.degraded p b).pwr = s.pwr := rfl
@[simp] theorem State.degraded_reply (p : Nat) (b : Bool) : (s.degraded p b).reply = s.reply := rfl
@[simp] theorem State.degraded_out (p : Nat) (b : Bool) : (s.degraded p b).out = s.out := rfl
@[simp] theorem State.degraded_freeCount (p : Nat) (b : Bool) : (s.degraded p b).freeCount = s.freeCount := rfl
@[simp] theorem State.degraded_pending (p : Nat) (b : Bool) : (s.degraded p b).pending = s.pending := rfl

/-! ## setStCode -/

@[simp] theorem State.setStCode_frc (p v : Nat) : (s.setStCode p v).frc = s.frc := rfl
@[simp] theorem State.setStCode_shadow (p v : Nat) : (s.setStCode p v).shadow = s.shadow := rfl
@[simp] theorem State.setStCode_latchR (p v : Nat) : (s.setStCode p v).latchR = s.latchR := rfl
@[simp] theorem State.setStCode_latchW (p v : Nat) : (s.setStCode p v).latchW = s.latchW := rfl
@[simp] theorem State.setStCode_frozen (p v : Nat) : (s.setStCode p v).frozen = s.frozen := rfl
@[simp] theorem State.setStCode_locks (p v : Nat) : (s.setStCode p v).locks = s.locks := rfl
@[simp] theorem State.setStCode_msix (p v : Nat) : (s.setStCode p v).msix = s.msix := rfl
@[simp] theorem State.setStCode_line (p v : Nat) : (s.setStCode p v).line = s.line := rfl
@[simp] theorem State.setStCode_slots (p v : Nat) : (s.setStCode p v).slots = s.slots := rfl
@[simp] theorem State.setStCode_scr (p v : Nat) : (s.setStCode p v).scr = s.scr := rfl
@[simp] theorem State.setStCode_splices (p v : Nat) : (s.setStCode p v).splices = s.splices := rfl
@[simp] theorem State.setStCode_job (p v : Nat) : (s.setStCode p v).job = s.job := rfl
@[simp] theorem State.setStCode_lanes (p v : Nat) : (s.setStCode p v).lanes = s.lanes := rfl
@[simp] theorem State.setStCode_cam (p v : Nat) : (s.setStCode p v).cam = s.cam := rfl
@[simp] theorem State.setStCode_colour (p v : Nat) : (s.setStCode p v).colour = s.colour := rfl
@[simp] theorem State.setStCode_lamp (p v : Nat) : (s.setStCode p v).lamp = s.lamp := rfl
@[simp] theorem State.setStCode_pair (p v : Nat) : (s.setStCode p v).pair = s.pair := rfl
@[simp] theorem State.setStCode_ring (p v : Nat) : (s.setStCode p v).ring = s.ring := rfl
@[simp] theorem State.setStCode_net (p v : Nat) : (s.setStCode p v).net = s.net := rfl
@[simp] theorem State.setStCode_tio (p v : Nat) : (s.setStCode p v).tio = s.tio := rfl
@[simp] theorem State.setStCode_dram (p v : Nat) : (s.setStCode p v).dram = s.dram := rfl
@[simp] theorem State.setStCode_host (p v : Nat) : (s.setStCode p v).host = s.host := rfl
@[simp] theorem State.setStCode_mgmt (p v : Nat) : (s.setStCode p v).mgmt = s.mgmt := rfl
@[simp] theorem State.setStCode_pwr (p v : Nat) : (s.setStCode p v).pwr = s.pwr := rfl
@[simp] theorem State.setStCode_reply (p v : Nat) : (s.setStCode p v).reply = s.reply := rfl
@[simp] theorem State.setStCode_out (p v : Nat) : (s.setStCode p v).out = s.out := rfl
@[simp] theorem State.setStCode_freeCount (p v : Nat) : (s.setStCode p v).freeCount = s.freeCount := rfl
@[simp] theorem State.setStCode_pending (p v : Nat) : (s.setStCode p v).pending = s.pending := rfl

/-! ## emit -/

@[simp] theorem State.emit_regs (o : Out) : (s.emit o).regs = s.regs := rfl
@[simp] theorem State.emit_frc (o : Out) : (s.emit o).frc = s.frc := rfl
@[simp] theorem State.emit_shadow (o : Out) : (s.emit o).shadow = s.shadow := rfl
@[simp] theorem State.emit_latchR (o : Out) : (s.emit o).latchR = s.latchR := rfl
@[simp] theorem State.emit_latchW (o : Out) : (s.emit o).latchW = s.latchW := rfl
@[simp] theorem State.emit_frozen (o : Out) : (s.emit o).frozen = s.frozen := rfl
@[simp] theorem State.emit_locks (o : Out) : (s.emit o).locks = s.locks := rfl
@[simp] theorem State.emit_msix (o : Out) : (s.emit o).msix = s.msix := rfl
@[simp] theorem State.emit_line (o : Out) : (s.emit o).line = s.line := rfl
@[simp] theorem State.emit_slots (o : Out) : (s.emit o).slots = s.slots := rfl
@[simp] theorem State.emit_scr (o : Out) : (s.emit o).scr = s.scr := rfl
@[simp] theorem State.emit_splices (o : Out) : (s.emit o).splices = s.splices := rfl
@[simp] theorem State.emit_job (o : Out) : (s.emit o).job = s.job := rfl
@[simp] theorem State.emit_lanes (o : Out) : (s.emit o).lanes = s.lanes := rfl
@[simp] theorem State.emit_cam (o : Out) : (s.emit o).cam = s.cam := rfl
@[simp] theorem State.emit_colour (o : Out) : (s.emit o).colour = s.colour := rfl
@[simp] theorem State.emit_lamp (o : Out) : (s.emit o).lamp = s.lamp := rfl
@[simp] theorem State.emit_pair (o : Out) : (s.emit o).pair = s.pair := rfl
@[simp] theorem State.emit_ring (o : Out) : (s.emit o).ring = s.ring := rfl
@[simp] theorem State.emit_net (o : Out) : (s.emit o).net = s.net := rfl
@[simp] theorem State.emit_tio (o : Out) : (s.emit o).tio = s.tio := rfl
@[simp] theorem State.emit_dram (o : Out) : (s.emit o).dram = s.dram := rfl
@[simp] theorem State.emit_host (o : Out) : (s.emit o).host = s.host := rfl
@[simp] theorem State.emit_mgmt (o : Out) : (s.emit o).mgmt = s.mgmt := rfl
@[simp] theorem State.emit_pwr (o : Out) : (s.emit o).pwr = s.pwr := rfl
@[simp] theorem State.emit_reply (o : Out) : (s.emit o).reply = s.reply := rfl
@[simp] theorem State.emit_freeCount (o : Out) : (s.emit o).freeCount = s.freeCount := rfl
@[simp] theorem State.emit_pending (o : Out) : (s.emit o).pending = s.pending := rfl
@[simp] theorem State.emit_rd (o : Out) (k : Nat) : (s.emit o).rd k = s.rd k := rfl

/-! ## emits -/

@[simp] theorem State.emits_regs (l : List Out) : (s.emits l).regs = s.regs := rfl
@[simp] theorem State.emits_frc (l : List Out) : (s.emits l).frc = s.frc := rfl
@[simp] theorem State.emits_shadow (l : List Out) : (s.emits l).shadow = s.shadow := rfl
@[simp] theorem State.emits_latchR (l : List Out) : (s.emits l).latchR = s.latchR := rfl
@[simp] theorem State.emits_latchW (l : List Out) : (s.emits l).latchW = s.latchW := rfl
@[simp] theorem State.emits_frozen (l : List Out) : (s.emits l).frozen = s.frozen := rfl
@[simp] theorem State.emits_locks (l : List Out) : (s.emits l).locks = s.locks := rfl
@[simp] theorem State.emits_msix (l : List Out) : (s.emits l).msix = s.msix := rfl
@[simp] theorem State.emits_line (l : List Out) : (s.emits l).line = s.line := rfl
@[simp] theorem State.emits_slots (l : List Out) : (s.emits l).slots = s.slots := rfl
@[simp] theorem State.emits_scr (l : List Out) : (s.emits l).scr = s.scr := rfl
@[simp] theorem State.emits_splices (l : List Out) : (s.emits l).splices = s.splices := rfl
@[simp] theorem State.emits_job (l : List Out) : (s.emits l).job = s.job := rfl
@[simp] theorem State.emits_lanes (l : List Out) : (s.emits l).lanes = s.lanes := rfl
@[simp] theorem State.emits_cam (l : List Out) : (s.emits l).cam = s.cam := rfl
@[simp] theorem State.emits_colour (l : List Out) : (s.emits l).colour = s.colour := rfl
@[simp] theorem State.emits_lamp (l : List Out) : (s.emits l).lamp = s.lamp := rfl
@[simp] theorem State.emits_pair (l : List Out) : (s.emits l).pair = s.pair := rfl
@[simp] theorem State.emits_ring (l : List Out) : (s.emits l).ring = s.ring := rfl
@[simp] theorem State.emits_net (l : List Out) : (s.emits l).net = s.net := rfl
@[simp] theorem State.emits_tio (l : List Out) : (s.emits l).tio = s.tio := rfl
@[simp] theorem State.emits_dram (l : List Out) : (s.emits l).dram = s.dram := rfl
@[simp] theorem State.emits_host (l : List Out) : (s.emits l).host = s.host := rfl
@[simp] theorem State.emits_mgmt (l : List Out) : (s.emits l).mgmt = s.mgmt := rfl
@[simp] theorem State.emits_pwr (l : List Out) : (s.emits l).pwr = s.pwr := rfl
@[simp] theorem State.emits_reply (l : List Out) : (s.emits l).reply = s.reply := rfl
@[simp] theorem State.emits_freeCount (l : List Out) : (s.emits l).freeCount = s.freeCount := rfl
@[simp] theorem State.emits_pending (l : List Out) : (s.emits l).pending = s.pending := rfl
@[simp] theorem State.emits_rd (l : List Out) (k : Nat) : (s.emits l).rd k = s.rd k := rfl

/-! ## answer -/

@[simp] theorem State.answer_regs (l : List Nat) : (s.answer l).regs = s.regs := rfl
@[simp] theorem State.answer_frc (l : List Nat) : (s.answer l).frc = s.frc := rfl
@[simp] theorem State.answer_shadow (l : List Nat) : (s.answer l).shadow = s.shadow := rfl
@[simp] theorem State.answer_latchR (l : List Nat) : (s.answer l).latchR = s.latchR := rfl
@[simp] theorem State.answer_latchW (l : List Nat) : (s.answer l).latchW = s.latchW := rfl
@[simp] theorem State.answer_frozen (l : List Nat) : (s.answer l).frozen = s.frozen := rfl
@[simp] theorem State.answer_locks (l : List Nat) : (s.answer l).locks = s.locks := rfl
@[simp] theorem State.answer_msix (l : List Nat) : (s.answer l).msix = s.msix := rfl
@[simp] theorem State.answer_line (l : List Nat) : (s.answer l).line = s.line := rfl
@[simp] theorem State.answer_slots (l : List Nat) : (s.answer l).slots = s.slots := rfl
@[simp] theorem State.answer_scr (l : List Nat) : (s.answer l).scr = s.scr := rfl
@[simp] theorem State.answer_splices (l : List Nat) : (s.answer l).splices = s.splices := rfl
@[simp] theorem State.answer_job (l : List Nat) : (s.answer l).job = s.job := rfl
@[simp] theorem State.answer_lanes (l : List Nat) : (s.answer l).lanes = s.lanes := rfl
@[simp] theorem State.answer_cam (l : List Nat) : (s.answer l).cam = s.cam := rfl
@[simp] theorem State.answer_colour (l : List Nat) : (s.answer l).colour = s.colour := rfl
@[simp] theorem State.answer_lamp (l : List Nat) : (s.answer l).lamp = s.lamp := rfl
@[simp] theorem State.answer_pair (l : List Nat) : (s.answer l).pair = s.pair := rfl
@[simp] theorem State.answer_ring (l : List Nat) : (s.answer l).ring = s.ring := rfl
@[simp] theorem State.answer_net (l : List Nat) : (s.answer l).net = s.net := rfl
@[simp] theorem State.answer_tio (l : List Nat) : (s.answer l).tio = s.tio := rfl
@[simp] theorem State.answer_dram (l : List Nat) : (s.answer l).dram = s.dram := rfl
@[simp] theorem State.answer_host (l : List Nat) : (s.answer l).host = s.host := rfl
@[simp] theorem State.answer_mgmt (l : List Nat) : (s.answer l).mgmt = s.mgmt := rfl
@[simp] theorem State.answer_pwr (l : List Nat) : (s.answer l).pwr = s.pwr := rfl
@[simp] theorem State.answer_out (l : List Nat) : (s.answer l).out = s.out := rfl
@[simp] theorem State.answer_freeCount (l : List Nat) : (s.answer l).freeCount = s.freeCount := rfl
@[simp] theorem State.answer_pending (l : List Nat) : (s.answer l).pending = s.pending := rfl
@[simp] theorem State.answer_rd (l : List Nat) (k : Nat) : (s.answer l).rd k = s.rd k := rfl

/-! ## drew -/

@[simp] theorem State.drew_regs : (s.drew).regs = s.regs := rfl
@[simp] theorem State.drew_frc : (s.drew).frc = s.frc := rfl
@[simp] theorem State.drew_shadow : (s.drew).shadow = s.shadow := rfl
@[simp] theorem State.drew_latchR : (s.drew).latchR = s.latchR := rfl
@[simp] theorem State.drew_latchW : (s.drew).latchW = s.latchW := rfl
@[simp] theorem State.drew_frozen : (s.drew).frozen = s.frozen := rfl
@[simp] theorem State.drew_locks : (s.drew).locks = s.locks := rfl
@[simp] theorem State.drew_msix : (s.drew).msix = s.msix := rfl
@[simp] theorem State.drew_line : (s.drew).line = s.line := rfl
@[simp] theorem State.drew_slots : (s.drew).slots = s.slots := rfl
@[simp] theorem State.drew_scr : (s.drew).scr = s.scr := rfl
@[simp] theorem State.drew_splices : (s.drew).splices = s.splices := rfl
@[simp] theorem State.drew_job : (s.drew).job = s.job := rfl
@[simp] theorem State.drew_lanes : (s.drew).lanes = s.lanes := rfl
@[simp] theorem State.drew_cam : (s.drew).cam = s.cam := rfl
@[simp] theorem State.drew_colour : (s.drew).colour = s.colour := rfl
@[simp] theorem State.drew_lamp : (s.drew).lamp = s.lamp := rfl
@[simp] theorem State.drew_pair : (s.drew).pair = s.pair := rfl
@[simp] theorem State.drew_ring : (s.drew).ring = s.ring := rfl
@[simp] theorem State.drew_net : (s.drew).net = s.net := rfl
@[simp] theorem State.drew_tio : (s.drew).tio = s.tio := rfl
@[simp] theorem State.drew_dram : (s.drew).dram = s.dram := rfl
@[simp] theorem State.drew_host : (s.drew).host = s.host := rfl
@[simp] theorem State.drew_mgmt : (s.drew).mgmt = s.mgmt := rfl
@[simp] theorem State.drew_pwr : (s.drew).pwr = s.pwr := rfl
@[simp] theorem State.drew_reply : (s.drew).reply = s.reply := rfl
@[simp] theorem State.drew_out : (s.drew).out = s.out := rfl
@[simp] theorem State.drew_pending : (s.drew).pending = s.pending := rfl
@[simp] theorem State.drew_rd (k : Nat) : (s.drew).rd k = s.rd k := rfl

/-! ## till -/

@[simp] theorem State.till_regs (t : Nat) : (s.till t).regs = s.regs := rfl
@[simp] theorem State.till_shadow (t : Nat) : (s.till t).shadow = s.shadow := rfl
@[simp] theorem State.till_latchR (t : Nat) : (s.till t).latchR = s.latchR := rfl
@[simp] theorem State.till_latchW (t : Nat) : (s.till t).latchW = s.latchW := rfl
@[simp] theorem State.till_frozen (t : Nat) : (s.till t).frozen = s.frozen := rfl
@[simp] theorem State.till_locks (t : Nat) : (s.till t).locks = s.locks := rfl
@[simp] theorem State.till_msix (t : Nat) : (s.till t).msix = s.msix := rfl
@[simp] theorem State.till_line (t : Nat) : (s.till t).line = s.line := rfl
@[simp] theorem State.till_slots (t : Nat) : (s.till t).slots = s.slots := rfl
@[simp] theorem State.till_scr (t : Nat) : (s.till t).scr = s.scr := rfl
@[simp] theorem State.till_splices (t : Nat) : (s.till t).splices = s.splices := rfl
@[simp] theorem State.till_job (t : Nat) : (s.till t).job = s.job := rfl
@[simp] theorem State.till_lanes (t : Nat) : (s.till t).lanes = s.lanes := rfl
@[simp] theorem State.till_cam (t : Nat) : (s.till t).cam = s.cam := rfl
@[simp] theorem State.till_colour (t : Nat) : (s.till t).colour = s.colour := rfl
@[simp] theorem State.till_lamp (t : Nat) : (s.till t).lamp = s.lamp := rfl
@[simp] theorem State.till_pair (t : Nat) : (s.till t).pair = s.pair := rfl
@[simp] theorem State.till_ring (t : Nat) : (s.till t).ring = s.ring := rfl
@[simp] theorem State.till_net (t : Nat) : (s.till t).net = s.net := rfl
@[simp] theorem State.till_tio (t : Nat) : (s.till t).tio = s.tio := rfl
@[simp] theorem State.till_dram (t : Nat) : (s.till t).dram = s.dram := rfl
@[simp] theorem State.till_host (t : Nat) : (s.till t).host = s.host := rfl
@[simp] theorem State.till_mgmt (t : Nat) : (s.till t).mgmt = s.mgmt := rfl
@[simp] theorem State.till_pwr (t : Nat) : (s.till t).pwr = s.pwr := rfl
@[simp] theorem State.till_reply (t : Nat) : (s.till t).reply = s.reply := rfl
@[simp] theorem State.till_out (t : Nat) : (s.till t).out = s.out := rfl
@[simp] theorem State.till_freeCount (t : Nat) : (s.till t).freeCount = s.freeCount := rfl
@[simp] theorem State.till_pending (t : Nat) : (s.till t).pending = s.pending := rfl
@[simp] theorem State.till_rd (t : Nat) (k : Nat) : (s.till t).rd k = s.rd k := rfl

@[simp] theorem State.emit_out (o : Out) : (s.emit o).out = s.out ++ [o] := rfl
@[simp] theorem State.emits_out (l : List Out) : (s.emits l).out = s.out ++ l := rfl
@[simp] theorem State.answer_reply (l : List Nat) : (s.answer l).reply = l := rfl
@[simp] theorem State.drew_freeCount : s.drew.freeCount = s.freeCount + 1 := rfl
@[simp] theorem State.till_frc (t : Nat) : (s.till t).frc = max s.frc t % 2 ^ 64 := rfl

/-! ## Job memory -/

/-- A byte of memory after a write of bytes. -/
theorem smGet_memPut (m : SMap Byte) (a : Nat) (l : List Byte) (x : Nat) :
    smGet (fun _ => 0) (memPut m a l) x
      = if a ≤ x ∧ x < a + l.length then l.getD (x - a) 0 else smGet (fun _ => 0) m x := by
  unfold memPut
  induction l using List.reverseRecOn with
  | nil => simp
  | append_singleton l b ih =>
    rw [List.zipIdx_append, List.foldl_append]
    simp only [List.zipIdx_cons, List.zipIdx_nil, List.foldl_cons, List.foldl_nil, smGet_smSet, ih, List.length_append,
      List.length_cons, List.length_nil, Nat.zero_add]
    by_cases h : x = a + l.length
    · subst h
      simp [List.getD_eq_getElem?_getD]
    · rw [if_neg h]
      by_cases h1 : a ≤ x ∧ x < a + l.length
      · rw [if_pos h1, if_pos ⟨h1.1, by omega⟩]
        simp [List.getD_eq_getElem?_getD, List.getElem?_append_left (show x - a < l.length by omega)]
      · rw [if_neg h1, if_neg (by omega)]

theorem State.memByte_memWrite (a : Nat) (l : List Byte) (x : Nat) :
    (s.memWrite a l).memByte x = if a ≤ x ∧ x < a + l.length then l.getD (x - a) 0 else s.memByte x :=
  smGet_memPut _ a l x

end Sys2Proof.Machine
end

