-- ==== Sys2Proof/Laws/Ext.lean ====
section
/-! SUPPORT. The relation `State.Ext` is kept by the primitive updates of State; Laws/ExtLink to Laws/ExtBus carry it
through the meanings. Each lemma has the form: what was reached before the update is reached after it. -/

namespace Sys2Proof.Machine

variable {s0 s t : State}

theorem State.Ext.refl (s : State) : s.Ext s := ⟨rfl, List.prefix_rfl, le_rfl, id⟩

theorem State.Ext.trans {a b c : State} (h : a.Ext b) (k : b.Ext c) : a.Ext c :=
  ⟨k.pending.trans h.pending, h.sent.trans k.sent, h.drawn.trans k.drawn, k.inv ∘ h.inv⟩

/-- A change that leaves alone everything the invariant speaks of. -/
theorem State.Ext.step (h : s0.Ext s) (hp : t.pending = s.pending) (ho : s.out <+: t.out)
    (hf : s.freeCount ≤ t.freeCount) (hi : s.Inv → t.Inv) : s0.Ext t := h.trans ⟨hp, ho, hf, hi⟩

theorem ext_mk {j : JobUnit} {line scr splices cam colour lamp pair ring net tio dram host mgmt pwr reply}
    (h : s0.Ext t) (hj : j.mem = t.job.mem) :
    s0.Ext ⟨t.frc, t.regs, t.shadow, t.latchR, t.latchW, t.frozen, t.locks, t.msix, line, t.slots, scr, splices, j,
      t.lanes, cam, colour, lamp, pair, ring, net, tio, dram, host, mgmt, pwr, reply, t.out, t.freeCount, t.pending⟩ :=
  h.step rfl List.prefix_rfl le_rfl fun i =>
    ⟨⟨i.canon.regs, i.canon.shadow, i.canon.latchR, i.canon.latchW, i.canon.frozen, i.canon.locks, i.canon.msix,
      i.canon.slots, i.canon.lanes, hj ▸ i.canon.mem⟩, ⟨i.legal.frc, i.legal.locks⟩⟩

theorem ext_ite {c : Prop} [Decidable c] {a b : State} (ha : s0.Ext a) (hb : s0.Ext b) :
    s0.Ext (if c then a else b) := by split <;> assumption

theorem ext_fst_ite {α : Type} {c : Prop} [Decidable c] {a b : State × α} (ha : s0.Ext a.1) (hb : s0.Ext b.1) :
    s0.Ext (if c then a else b).1 := by split <;> assumption

theorem ext_foldl {α : Type} {f : State → α → State} {l : List α} (h : s0.Ext s)
    (hf : ∀ t x, s0.Ext t → s0.Ext (f t x)) : s0.Ext (l.foldl f s) := by
  induction l generalizing s with
  | nil => exact h
  | cons x l ih => exact ih (hf s x h)

theorem ext_foldl_fst {α γ : Type} {f : State × γ → α → State × γ} {l : List α} {p : State × γ} (h : s0.Ext p.1)
    (hf : ∀ (q : State × γ) x, s0.Ext q.1 → s0.Ext (f q x).1) : s0.Ext (l.foldl f p).1 := by
  induction l generalizing p with
  | nil => exact h
  | cons x l ih => exact ih (hf p x h)

/-- A command's answer carries on from a state. -/
def Res.Ext (s0 : State) : Res → Prop
  | .next t => s0.Ext t
  | .fault _ => False
  | .refused _ => False

theorem res_next (h : s0.Ext s) : Res.Ext s0 (.next s) := h

theorem res_ite {c : Prop} [Decidable c] {a b : Res} (ha : Res.Ext s0 a) (hb : Res.Ext s0 b) :
    Res.Ext s0 (if c then a else b) := by split <;> assumption

/-! ## The primitives -/

theorem wr_ext (h : s0.Ext s) (a v : Nat) : s0.Ext (s.wr a v) :=
  h.step rfl List.prefix_rfl le_rfl fun i =>
    ⟨{ i.canon with regs := smWf_smSet _ _ _ _ i.canon.regs }, ⟨i.legal.frc, i.legal.locks⟩⟩

theorem clearRegs_ext (h : s0.Ext s) (p : Nat → Bool) : s0.Ext { s with regs := smClear p s.regs } :=
  h.step rfl List.prefix_rfl le_rfl fun i =>
    ⟨{ i.canon with regs := smWf_smClear _ _ _ i.canon.regs }, ⟨i.legal.frc, i.legal.locks⟩⟩

theorem setShadow_ext' (h : s0.Ext s) (k v : Nat) :
    s0.Ext { s with shadow := smSet resetOf s.shadow k (BitVec.ofNat 32 v) } :=
  h.step rfl List.prefix_rfl le_rfl fun i =>
    ⟨{ i.canon with shadow := smWf_smSet _ _ _ _ i.canon.shadow }, ⟨i.legal.frc, i.legal.locks⟩⟩

theorem setLatchR_ext' (h : s0.Ext s) (k : Nat) (v : Option Word) :
    s0.Ext { s with latchR := smSet (fun _ => none) s.latchR k v } :=
  h.step rfl List.prefix_rfl le_rfl fun i =>
    ⟨{ i.canon with latchR := smWf_smSet _ _ _ _ i.canon.latchR }, ⟨i.legal.frc, i.legal.locks⟩⟩

theorem setLatchW_ext' (h : s0.Ext s) (k : Nat) (v : Option Word) :
    s0.Ext { s with latchW := smSet (fun _ => none) s.latchW k v } :=
  h.step rfl List.prefix_rfl le_rfl fun i =>
    ⟨{ i.canon with latchW := smWf_smSet _ _ _ _ i.canon.latchW }, ⟨i.legal.frc, i.legal.locks⟩⟩

theorem clearFrozen_ext (h : s0.Ext s) (p : Nat → Bool) : s0.Ext { s with frozen := smClear p s.frozen } :=
  h.step rfl List.prefix_rfl le_rfl fun i =>
    ⟨{ i.canon with frozen := smWf_smClear _ _ _ i.canon.frozen }, ⟨i.legal.frc, i.legal.locks⟩⟩

theorem smWf_foldl_some (l : List (Nat × Nat)) (m : SMap (Option Word)) (h : smWf (fun _ => none) m) :
    smWf (fun _ => none) (l.foldl (fun m p => smSet (fun _ => none) m p.1 (some (BitVec.ofNat 32 p.2))) m) := by
  induction l generalizing m with
  | nil => exact h
  | cons e l ih => exact ih _ (smWf_smSet _ _ _ _ h)

theorem setFrozen_ext (h : s0.Ext s) (l : List (Nat × Nat)) : s0.Ext { s with
    frozen := l.foldl (fun m p => smSet (fun _ => none) m p.1 (some (BitVec.ofNat 32 p.2))) s.frozen } :=
  h.step rfl List.prefix_rfl le_rfl fun i =>
    ⟨{ i.canon with frozen := smWf_foldl_some l _ i.canon.frozen }, ⟨i.legal.frc, i.legal.locks⟩⟩

theorem ownerId_legal (r : Req) : legalOwner (ownerId r) = true := by
  cases r with
  | crew i => revert i; decide
  | _ => decide

theorem takeLock_ext (h : s0.Ext s) (n : Nat) (r : Req) :
    s0.Ext { s with locks := smSet (fun _ => 0) s.locks n (ownerId r) } :=
  h.step rfl List.prefix_rfl le_rfl fun i =>
    ⟨{ i.canon with locks := smWf_smSet _ _ _ _ i.canon.locks }, ⟨i.legal.frc, fun e he => by
      simp only [smSet] at he
      split at he
      · exact i.legal.locks e (List.mem_filter.1 he).1
      · rcases mem_smIns _ _ _ _ he with rfl | he
        · exact ownerId_legal r
        · exact i.legal.locks e he⟩⟩

theorem dropLock_ext (h : s0.Ext s) (n : Nat) : s0.Ext { s with locks := smSet (fun _ => 0) s.locks n 0 } :=
  h.step rfl List.prefix_rfl le_rfl fun i =>
    ⟨{ i.canon with locks := smWf_smSet (fun _ => 0) s.locks n 0 i.canon.locks }, ⟨i.legal.frc, fun e he => by
      simp only [smSet, if_true] at he
      exact i.legal.locks e (List.mem_filter.1 he).1⟩⟩

theorem filterLocks_ext (h : s0.Ext s) (p : Nat × Nat → Bool) : s0.Ext { s with locks := s.locks.filter p } :=
  h.step rfl List.prefix_rfl le_rfl fun i =>
    ⟨{ i.canon with locks := smWf_filter _ _ _ i.canon.locks },
      ⟨i.legal.frc, fun e he => i.legal.locks e (List.mem_filter.1 he).1⟩⟩

theorem noLocks_ext (h : s0.Ext s) : s0.Ext { s with locks := [] } :=
  h.step rfl List.prefix_rfl le_rfl fun i =>
    ⟨{ i.canon with locks := smWf_nil _ }, ⟨i.legal.frc, by simp⟩⟩

theorem setMsix_ext' (h : s0.Ext s) (v : Nat) (x : MsixVector) :
    s0.Ext { s with msix := smSet (fun _ => {}) s.msix v x } :=
  h.step rfl List.prefix_rfl le_rfl fun i =>
    ⟨{ i.canon with msix := smWf_smSet _ _ _ _ i.canon.msix }, ⟨i.legal.frc, i.legal.locks⟩⟩

theorem filterMsix_ext (h : s0.Ext s) (p : Nat × MsixVector → Bool) : s0.Ext { s with msix := s.msix.filter p } :=
  h.step rfl List.prefix_rfl le_rfl fun i =>
    ⟨{ i.canon with msix := smWf_filter _ _ _ i.canon.msix }, ⟨i.legal.frc, i.legal.locks⟩⟩

theorem setSlot_ext' (h : s0.Ext s) (n : Nat) (x : Slot) :
    s0.Ext { s with slots := smSet (fun _ => {}) s.slots n x } :=
  h.step rfl List.prefix_rfl le_rfl fun i =>
    ⟨{ i.canon with slots := smWf_smSet _ _ _ _ i.canon.slots }, ⟨i.legal.frc, i.legal.locks⟩⟩

theorem setLane_ext (h : s0.Ext s) (c : Nat) (l : Lane) : s0.Ext (s.setLane c l) :=
  h.step rfl List.prefix_rfl le_rfl fun i =>
    ⟨{ i.canon with lanes := smWf_smSet _ _ _ _ i.canon.lanes }, ⟨i.legal.frc, i.legal.locks⟩⟩

theorem memWrite_ext (h : s0.Ext s) (a : Nat) (l : List Byte) : s0.Ext (s.memWrite a l) :=
  h.step rfl List.prefix_rfl le_rfl fun i =>
    ⟨{ i.canon with mem := memPut_wf _ _ _ i.canon.mem }, ⟨i.legal.frc, i.legal.locks⟩⟩

theorem noMem_ext (h : s0.Ext s) (j : JobUnit) : s0.Ext { s with job := { j with mem := [] } } :=
  h.step rfl List.prefix_rfl le_rfl fun i =>
    ⟨{ i.canon with mem := smWf_nil _ }, ⟨i.legal.frc, i.legal.locks⟩⟩

theorem noSlots_ext (h : s0.Ext s) (p : PairUnit) : s0.Ext { s with slots := [], pair := p } :=
  h.step rfl List.prefix_rfl le_rfl fun i =>
    ⟨{ i.canon with slots := smWf_nil _ }, ⟨i.legal.frc, i.legal.locks⟩⟩

theorem emit_ext (h : s0.Ext s) (o : Out) : s0.Ext (s.emit o) :=
  h.step rfl (List.prefix_append _ _) le_rfl fun i =>
    ⟨⟨i.canon.regs, i.canon.shadow, i.canon.latchR, i.canon.latchW, i.canon.frozen, i.canon.locks, i.canon.msix,
      i.canon.slots, i.canon.lanes, i.canon.mem⟩, ⟨i.legal.frc, i.legal.locks⟩⟩

theorem emits_ext (h : s0.Ext s) (l : List Out) : s0.Ext (s.emits l) :=
  h.step rfl (List.prefix_append _ _) le_rfl fun i =>
    ⟨⟨i.canon.regs, i.canon.shadow, i.canon.latchR, i.canon.latchW, i.canon.frozen, i.canon.locks, i.canon.msix,
      i.canon.slots, i.canon.lanes, i.canon.mem⟩, ⟨i.legal.frc, i.legal.locks⟩⟩

theorem drewN_ext (h : s0.Ext s) (n : Nat) : s0.Ext { s with freeCount := s.freeCount + n } :=
  h.step rfl List.prefix_rfl (Nat.le_add_right _ _) fun i =>
    ⟨⟨i.canon.regs, i.canon.shadow, i.canon.latchR, i.canon.latchW, i.canon.frozen, i.canon.locks, i.canon.msix,
      i.canon.slots, i.canon.lanes, i.canon.mem⟩, ⟨i.legal.frc, i.legal.locks⟩⟩

theorem drewNM_ext (h : s0.Ext s) (n m : Nat) : s0.Ext { s with freeCount := s.freeCount + n + m } := by
  rw [Nat.add_assoc]; exact drewN_ext h (n + m)

theorem zeroFrc_ext (h : s0.Ext s) (net : NetUnit) : s0.Ext { s with frc := 0, net := net } :=
  h.step rfl List.prefix_rfl le_rfl fun i =>
    ⟨⟨i.canon.regs, i.canon.shadow, i.canon.latchR, i.canon.latchW, i.canon.frozen, i.canon.locks, i.canon.msix,
      i.canon.slots, i.canon.lanes, i.canon.mem⟩, ⟨Nat.two_pow_pos 64, i.legal.locks⟩⟩

theorem drew_ext (h : s0.Ext s) : s0.Ext s.drew := drewN_ext h 1

theorem till_ext (h : s0.Ext s) (t : Nat) : s0.Ext (s.till t) :=
  h.step rfl List.prefix_rfl le_rfl fun i =>
    ⟨⟨i.canon.regs, i.canon.shadow, i.canon.latchR, i.canon.latchW, i.canon.frozen, i.canon.locks, i.canon.msix,
      i.canon.slots, i.canon.lanes, i.canon.mem⟩, ⟨Nat.mod_lt _ (by decide), i.legal.locks⟩⟩

end Sys2Proof.Machine
end

