-- ==== Sys2Proof/Laws/ExtLink.lean ====
section
/-! SUPPORT. `State.Ext` is kept by every function of the meanings: the registers, the lanes, the protocol, slots, screening jobs and timers. -/

set_option linter.unusedTactic false
set_option linter.unreachableTactic false

namespace Sys2Proof.Machine

variable {s0 s : State}

/-! ## Machine/Flags -/

theorem wrF_ext (h : s0.Ext s) (a hi lo v : Nat) : s0.Ext (s.wrF a hi lo v) := by
  unfold State.wrF
  repeat' first
    | with_reducible first
      | assumption | apply wr_ext

theorem wrB_ext (h : s0.Ext s) (a i : Nat) (b : Bool) : s0.Ext (s.wrB a i b) := by
  unfold State.wrB
  repeat' first
    | with_reducible first
      | assumption | apply wr_ext

theorem wrs_ext (h : s0.Ext s) (l : List (Nat × Nat)) : s0.Ext (s.wrs l) := by
  unfold State.wrs
  repeat' first
    | (with_reducible first
        | assumption | apply wr_ext)
    | (with_reducible apply ext_foldl; on_goal 2 => (intro t x ht; try beta_reduce))

theorem count_ext (h : s0.Ext s) (a : Nat) : s0.Ext (s.count a) := by
  unfold State.count
  repeat' first
    | with_reducible first
      | assumption | apply wr_ext

theorem countF_ext (h : s0.Ext s) (a hi lo : Nat) : s0.Ext (s.countF a hi lo) := by
  unfold State.countF
  repeat' first
    | with_reducible first
      | assumption | apply wrF_ext

theorem wr64_ext (h : s0.Ext s) (lo hi v : Nat) : s0.Ext (s.wr64 lo hi v) := by
  unfold State.wr64
  repeat' first
    | with_reducible first
      | assumption | apply wr_ext

theorem answer_ext (h : s0.Ext s) (l : List Nat) : s0.Ext (s.answer l) := by
  unfold State.answer
  repeat' first
    | (with_reducible first
        | assumption | rfl)
    | (extract_lets +onlyGivenNames x; first | clear_value x | subst x)
    | with_reducible apply ext_mk

theorem intSet_ext (h : s0.Ext s) (page i : Nat) : s0.Ext (s.intSet page i) := by
  unfold State.intSet
  repeat' first
    | with_reducible first
      | assumption | apply wrB_ext

theorem ready_ext (h : s0.Ext s) (page : Nat) (b : Bool) : s0.Ext (s.ready page b) := by
  unfold State.ready
  repeat' first
    | with_reducible first
      | assumption | apply wrB_ext

theorem busy_ext (h : s0.Ext s) (page : Nat) (b : Bool) : s0.Ext (s.busy page b) := by
  unfold State.busy
  repeat' first
    | with_reducible first
      | assumption | apply wrB_ext

theorem degraded_ext (h : s0.Ext s) (page : Nat) (b : Bool) : s0.Ext (s.degraded page b) := by
  unfold State.degraded
  repeat' first
    | with_reducible first
      | assumption | apply wrB_ext

theorem setStCode_ext (h : s0.Ext s) (page v : Nat) : s0.Ext (s.setStCode page v) := by
  unfold State.setStCode
  repeat' first
    | with_reducible first
      | assumption | apply wrF_ext

theorem fault_ext (h : s0.Ext s) (page : Nat) (b : Bool) : s0.Ext (s.fault page b) := by
  unfold State.fault
  repeat' first
    | (with_reducible first
        | assumption | apply ext_ite | apply wrB_ext | apply intSet_ext)
    | (extract_lets +onlyGivenNames x
       refine have hx : State.Ext s0 x := ?_; ?_
       (on_goal 2 => clear_value x)
       subst x)
    | split

theorem error_ext (h : s0.Ext s) (page code off source : Nat) : s0.Ext (s.error page code off source) := by
  unfold State.error
  repeat' first
    | (with_reducible first
        | assumption | apply ext_ite | apply wr_ext | apply intSet_ext)
    | (extract_lets +onlyGivenNames x
       refine have hx : State.Ext s0 x := ?_; ?_
       (on_goal 2 => clear_value x)
       subst x)
    | split

theorem errAt_ext (h : s0.Ext s) (page code key : Nat) (src : Req) : s0.Ext (s.errAt page code key src) := by
  unfold State.errAt
  repeat' first
    | with_reducible first
      | assumption | apply error_ext

theorem errHw_ext (h : s0.Ext s) (page code : Nat) : s0.Ext (s.errHw page code) := by
  unfold State.errHw
  repeat' first
    | with_reducible first
      | assumption | apply error_ext

/-! ## Machine/Ops -/

theorem tallyAt_ext (h : s0.Ext s) (code source inst sev line arg : Nat) :
    s0.Ext (s.tallyAt code source inst sev line arg) := by
  unfold State.tallyAt
  repeat' first
    | (with_reducible first
        | assumption | rfl | apply ext_ite | apply intSet_ext | apply count_ext)
    | (extract_lets +onlyGivenNames x
       refine have hx : State.Ext s0 x := ?_; ?_
       (on_goal 2 => clear_value x)
       subst x)
    | (extract_lets +onlyGivenNames x; first | clear_value x | subst x)
    | split
    | with_reducible apply ext_mk

theorem tally_ext (h : s0.Ext s) (code source inst sev arg : Nat) : s0.Ext (s.tally code source inst sev arg) := by
  unfold State.tally
  repeat' first
    | with_reducible first
      | assumption | apply tallyAt_ext

theorem setModule_ext (h : s0.Ext s) (st : Nat) : s0.Ext (s.setModule st) := by
  unfold State.setModule
  repeat' first
    | (with_reducible first
        | assumption | apply ext_ite | apply setStCode_ext | apply wr_ext | apply tally_ext | apply intSet_ext)
    | (extract_lets +onlyGivenNames x
       refine have hx : State.Ext s0 x := ?_; ?_
       (on_goal 2 => clear_value x)
       subst x)
    | (extract_lets +onlyGivenNames x; first | clear_value x | subst x)
    | split

theorem showPlanes_ext (h : s0.Ext s) (r : Nat) : s0.Ext (s.showPlanes r) := by
  unfold State.showPlanes
  repeat' first
    | (with_reducible first
        | assumption | apply ext_ite | apply setStCode_ext)
    | (with_reducible apply ext_foldl; on_goal 2 => (intro t x ht; try beta_reduce))
    | split

theorem setRun_ext (h : s0.Ext s) (r : Nat) : s0.Ext (s.setRun r) := by
  unfold State.setRun
  repeat' first
    | (with_reducible first
        | assumption | apply ext_ite | apply showPlanes_ext | apply setStCode_ext | apply wrF_ext)
    | (extract_lets +onlyGivenNames x
       refine have hx : State.Ext s0 x := ?_; ?_
       (on_goal 2 => clear_value x)
       subst x)
    | split

theorem modLane_ext (h : s0.Ext s) (c : Nat) (f : Lane → Lane) : s0.Ext (s.modLane c f) := by
  unfold State.modLane
  repeat' first
    | with_reducible first
      | assumption | apply setLane_ext

theorem transmit_ext (h : s0.Ext s) (c : Nat) (urgent : Bool) (bs : List (Nat × Nat)) :
    s0.Ext (s.transmit c urgent bs) := by
  unfold State.transmit
  repeat' first
    | (with_reducible first
        | assumption | rfl | apply ext_ite | apply modLane_ext | apply emit_ext)
    | (extract_lets +onlyGivenNames x
       refine have hx : State.Ext s0 x := ?_; ?_
       (on_goal 2 => clear_value x)
       subst x)
    | (extract_lets +onlyGivenNames x; first | clear_value x | subst x)
    | with_reducible apply ext_mk

theorem sendBlock_ext (h : s0.Ext s) (c payload : Nat) : s0.Ext (s.sendBlock c payload) := by
  unfold State.sendBlock
  repeat' first
    | (with_reducible first
        | assumption | apply ext_ite | apply emit_ext | apply transmit_ext)

theorem sendUrgent_ext (h : s0.Ext s) (c payload : Nat) : s0.Ext (s.sendUrgent c payload) := by
  unfold State.sendUrgent
  repeat' first
    | (with_reducible first
        | assumption | apply ext_ite | apply emit_ext | apply transmit_ext)

theorem sendFrame_ext (h : s0.Ext s) (c : Nat) (words : List Nat) : s0.Ext (s.sendFrame c words) := by
  unfold State.sendFrame
  repeat' first
    | (with_reducible first
        | assumption | apply ext_ite | apply emit_ext | apply transmit_ext)

theorem reCondition_ext (h : s0.Ext s) : s0.Ext s.reCondition := by
  unfold State.reCondition
  repeat' first
    | (with_reducible first
        | assumption | apply ext_ite | apply setModule_ext)
    | split

theorem showSilent_ext (h : s0.Ext s) : s0.Ext s.showSilent := by
  unfold State.showSilent
  repeat' first
    | (with_reducible first
        | assumption | apply ext_ite | apply wrB_ext)
    | split

theorem setLaneSt_ext (h : s0.Ext s) (c st : Nat) : s0.Ext (s.setLaneSt c st) := by
  unfold State.setLaneSt
  repeat' first
    | (with_reducible first
        | assumption | apply ext_ite | apply wrF_ext | apply setStCode_ext | apply ready_ext | apply degraded_ext
        | apply fault_ext | apply showSilent_ext | apply reCondition_ext)
    | (extract_lets +onlyGivenNames x
       refine have hx : State.Ext s0 x := ?_; ?_
       (on_goal 2 => clear_value x)
       subst x)
    | (extract_lets +onlyGivenNames x; first | clear_value x | subst x)

theorem leaveActive_ext (h : s0.Ext s) (c : Nat) : s0.Ext (s.leaveActive c) := by
  unfold State.leaveActive
  repeat' first
    | (with_reducible first
        | assumption | rfl | apply ext_ite | apply intSet_ext | apply wrF_ext)
    | (extract_lets +onlyGivenNames x
       refine have hx : State.Ext s0 x := ?_; ?_
       (on_goal 2 => clear_value x)
       subst x)
    | (extract_lets +onlyGivenNames x; first | clear_value x | subst x)
    | split
    | with_reducible apply ext_mk

theorem stopAll_ext (h : s0.Ext s) (abort : Bool) (cause : Nat) (exchange : Bool) :
    s0.Ext (s.stopAll abort cause exchange) := by
  unfold State.stopAll
  repeat' first
    | (with_reducible first
        | assumption | rfl | apply ext_ite | apply sendUrgent_ext | apply emits_ext)
    | (with_reducible apply ext_foldl; on_goal 2 => (intro t x ht; try beta_reduce))
    | (extract_lets +onlyGivenNames x
       refine have hx : State.Ext s0 x := ?_; ?_
       (on_goal 2 => clear_value x)
       subst x)
    | (extract_lets +onlyGivenNames x; have y : _ → State := x; clear y; subst x; beta_reduce)
    | (extract_lets +onlyGivenNames x; first | clear_value x | subst x)
    | split
    | with_reducible apply ext_mk

theorem setLampCh_ext (h : s0.Ext s) (c : Nat) (x : LampCh) : s0.Ext (s.setLampCh c x) := by
  unfold State.setLampCh
  repeat' first
    | (with_reducible first
        | assumption | rfl)
    | (extract_lets +onlyGivenNames x; first | clear_value x | subst x)
    | with_reducible apply ext_mk

theorem cutPulses_ext (h : s0.Ext s) (c a : Nat) : s0.Ext (s.cutPulses c a) := by
  unfold State.cutPulses
  repeat' first
    | (with_reducible first
        | assumption | rfl | apply ext_ite | apply setLampCh_ext | apply emit_ext)
    | (extract_lets +onlyGivenNames x
       refine have hx : State.Ext s0 x := ?_; ?_
       (on_goal 2 => clear_value x)
       subst x)
    | (extract_lets +onlyGivenNames x; first | clear_value x | subst x)
    | split
    | with_reducible apply ext_mk

theorem sinkOff_ext (h : s0.Ext s) (c : Nat) : s0.Ext (s.sinkOff c) := by
  unfold State.sinkOff
  repeat' first
    | (with_reducible first
        | assumption | rfl | apply ext_ite | apply wr_ext | apply cutPulses_ext | apply frc_ext | apply setLampCh_ext)
    | (extract_lets +onlyGivenNames x
       refine have hx : State.Ext s0 x := ?_; ?_
       (on_goal 2 => clear_value x)
       subst x)
    | (extract_lets +onlyGivenNames x; first | clear_value x | subst x)
    | with_reducible apply ext_mk

theorem sinksOff_ext (h : s0.Ext s) : s0.Ext s.sinksOff := ext_foldl h fun _ x ht => sinkOff_ext ht x

theorem groupOff_ext (h : s0.Ext s) (g : Nat) : s0.Ext (s.groupOff g) := ext_foldl h fun _ x ht => sinkOff_ext ht x

theorem netSend_ext (h : s0.Ext s) (p kind : Nat) (fields : List Nat) : s0.Ext (s.netSend p kind fields) := by
  unfold State.netSend
  repeat' first
    | (with_reducible first
        | assumption | apply ext_ite | apply count_ext | apply emit_ext)
    | split

theorem prpSend_ext (h : s0.Ext s) (kind : Nat) (fields : List Nat) : s0.Ext (s.prpSend kind fields) := by
  unfold State.prpSend
  repeat' first
    | (with_reducible first
        | assumption | rfl | apply ext_ite | apply netSend_ext)
    | (extract_lets +onlyGivenNames x
       refine have hx : State.Ext s0 x := ?_; ?_
       (on_goal 2 => clear_value x)
       subst x)
    | (extract_lets +onlyGivenNames x; first | clear_value x | subst x)
    | split
    | with_reducible apply ext_mk

theorem setPeerPort_ext (h : s0.Ext s) (p : Nat) (x : PeerPort) : s0.Ext (s.setPeerPort p x) := by
  unfold State.setPeerPort
  repeat' first
    | (with_reducible first
        | assumption | rfl)
    | (extract_lets +onlyGivenNames x; first | clear_value x | subst x)
    | with_reducible apply ext_mk

theorem sendPeer_ext (h : s0.Ext s) (p cls kind : Nat) (fields : List Nat) :
    s0.Ext (s.sendPeer p cls kind fields) := by
  unfold State.sendPeer
  repeat' first
    | (with_reducible first
        | assumption | rfl | apply ext_ite | apply setPeerPort_ext | apply emit_ext)
    | (extract_lets +onlyGivenNames x
       refine have hx : State.Ext s0 x := ?_; ?_
       (on_goal 2 => clear_value x)
       subst x)
    | (extract_lets +onlyGivenNames x; first | clear_value x | subst x)
    | split
    | with_reducible apply ext_mk

theorem sendTime_ext (h : s0.Ext s) (p kind : Nat) (fields : List Nat) : s0.Ext (s.sendTime p kind fields) := by
  unfold State.sendTime
  repeat' first
    | (with_reducible first
        | assumption | apply ext_ite | apply emit_ext)
    | split

theorem sendRing_ext (h : s0.Ext s) (kind : Nat) (fields : List Nat) : s0.Ext (s.sendRing kind fields) := by
  unfold State.sendRing
  repeat' first
    | (with_reducible first
        | assumption | apply ext_ite | apply sendTime_ext)

theorem toPartner_ext (h : s0.Ext s) (cls kind : Nat) (fields : List Nat) : s0.Ext (s.toPartner cls kind fields) := by
  unfold State.toPartner
  repeat' first
    | with_reducible first
      | assumption | apply sendPeer_ext

theorem countMirror_ext (h : s0.Ext s) : s0.Ext s.countMirror := by
  unfold State.countMirror
  repeat' first
    | (with_reducible first
        | assumption | apply ext_ite | apply wr_ext)

theorem mirror_ext (h : s0.Ext s) (key v : Nat) : s0.Ext (s.mirror key v) := by
  unfold State.mirror
  repeat' first
    | (with_reducible first
        | assumption | apply ext_ite | apply countMirror_ext | apply toPartner_ext | apply wr_ext)
    | split

/-! ## Machine/DramBus -/

theorem setDramCh_ext (h : s0.Ext s) (d : Nat) (x : DramCh) : s0.Ext (s.setDramCh d x) := by
  unfold State.setDramCh
  repeat' first
    | (with_reducible first
        | assumption | rfl)
    | (extract_lets +onlyGivenNames x; first | clear_value x | subst x)
    | with_reducible apply ext_mk

theorem setDebt_ext (h : s0.Ext s) (d : Nat) (x : Int) : s0.Ext (s.setDebt d x) := by
  unfold State.setDebt
  repeat' first
    | (with_reducible first
        | assumption | apply wr_ext | apply setDramCh_ext)
    | (extract_lets +onlyGivenNames x; first | clear_value x | subst x)

theorem dramCmds_ext (h : s0.Ext s) (d : Nat) (l : List (Nat × Nat)) : s0.Ext (s.dramCmds d l) := by
  unfold State.dramCmds
  repeat' first
    | (with_reducible first
        | assumption | rfl | apply ext_ite | apply setDramCh_ext | apply emits_ext)
    | (extract_lets +onlyGivenNames x
       refine have hx : State.Ext s0 x := ?_; ?_
       (on_goal 2 => clear_value x)
       subst x)
    | (extract_lets +onlyGivenNames x; first | clear_value x | subst x)
    | with_reducible apply ext_mk

theorem closeRows_ext (h : s0.Ext s) (d : Nat) (p : Nat × Nat × Option Nat → Bool) : s0.Ext (s.closeRows d p) := by
  unfold State.closeRows
  repeat' first
    | (with_reducible first
        | assumption | rfl | apply ext_ite | apply setDramCh_ext | apply dramCmds_ext)
    | (extract_lets +onlyGivenNames x
       refine have hx : State.Ext s0 x := ?_; ?_
       (on_goal 2 => clear_value x)
       subst x)
    | (extract_lets +onlyGivenNames x; first | clear_value x | subst x)
    | with_reducible apply ext_mk

theorem burst_ext (h : s0.Ext s) (d cls ca : Nat) (write : Bool) : s0.Ext (s.burst d cls ca write) := by
  unfold State.burst
  repeat' first
    | (with_reducible first
        | assumption | rfl | apply ext_ite | apply closeRows_ext | apply dramCmds_ext | apply frc_ext
        | apply setDramCh_ext)
    | (extract_lets +onlyGivenNames x
       refine have hx : State.Ext s0 x := ?_; ?_
       (on_goal 2 => clear_value x)
       subst x)
    | (extract_lets +onlyGivenNames x; first | clear_value x | subst x)
    | split
    | with_reducible apply ext_mk

theorem scheduleStop_ext (h : s0.Ext s) (d : Nat) : s0.Ext (s.scheduleStop d) := by
  unfold State.scheduleStop
  repeat' first
    | (with_reducible first
        | assumption | rfl | apply tally_ext | apply intSet_ext | apply wrB_ext)
    | (extract_lets +onlyGivenNames x
       refine have hx : State.Ext s0 x := ?_; ?_
       (on_goal 2 => clear_value x)
       subst x)
    | (extract_lets +onlyGivenNames x; first | clear_value x | subst x)
    | with_reducible apply ext_mk

theorem degradeDram_ext (h : s0.Ext s) (d : Nat) : s0.Ext (s.degradeDram d) := by
  unfold State.degradeDram
  repeat' first
    | (with_reducible first
        | assumption | apply ext_ite | apply setDramCh_ext | apply wrF_ext | apply tally_ext | apply wrB_ext
        | apply intSet_ext | apply degraded_ext | apply setStCode_ext | apply scheduleStop_ext)
    | (extract_lets +onlyGivenNames x
       refine have hx : State.Ext s0 x := ?_; ?_
       (on_goal 2 => clear_value x)
       subst x)
    | (extract_lets +onlyGivenNames x; first | clear_value x | subst x)
    | split

theorem errDetail_ext (h : s0.Ext s) (d a kind cls lane synd : Nat) (scrub : Bool) :
    s0.Ext (s.errDetail d a kind cls lane synd scrub) := by
  unfold State.errDetail
  repeat' first
    | with_reducible first
      | assumption | apply wr_ext | apply wr64_ext

theorem issueWrite_ext (h : s0.Ext s) (d : Nat) (w : Nat × Nat × Nat) : s0.Ext (s.issueWrite d w) := by
  unfold State.issueWrite
  repeat' first
    | (with_reducible first
        | assumption | apply ext_ite | apply burst_ext)

theorem oldestWrite_ext (h : s0.Ext s) (d : Nat) : s0.Ext (s.oldestWrite d) := by
  unfold State.oldestWrite
  repeat' first
    | (with_reducible first
        | assumption | rfl | apply ext_ite | apply setDramCh_ext | apply issueWrite_ext)
    | split
    | with_reducible apply ext_mk

theorem flushWrites_ext (h : s0.Ext s) (d : Nat) : s0.Ext (s.flushWrites d) := by
  unfold State.flushWrites
  repeat' first
    | (with_reducible first
        | assumption | apply ext_ite | apply oldestWrite_ext)
    | (with_reducible apply ext_foldl; on_goal 2 => (intro t x ht; try beta_reduce))

theorem bufferWord_ext (h : s0.Ext s) (cls a : Nat) : s0.Ext (s.bufferWord cls a) := by
  unfold State.bufferWord
  repeat' first
    | (with_reducible first
        | assumption | rfl | apply ext_ite | apply setDramCh_ext | apply oldestWrite_ext)
    | (extract_lets +onlyGivenNames x
       refine have hx : State.Ext s0 x := ?_; ?_
       (on_goal 2 => clear_value x)
       subst x)
    | (extract_lets +onlyGivenNames x; first | clear_value x | subst x)
    | split
    | with_reducible apply ext_mk

theorem dramOutcome_ext (h : s0.Ext s) (a cls : Nat) (scrub : Bool) (x4 : Ecc) :
    s0.Ext (s.dramOutcome a cls scrub x4) := by
  unfold State.dramOutcome
  repeat' first
    | (with_reducible first
        | assumption | apply bufferWord_ext | rfl | apply ext_ite | apply intSet_ext | apply errDetail_ext | apply count_ext
        | apply emit_ext | apply errHw_ext | apply fault_ext | apply tally_ext | apply degradeDram_ext)
    | (extract_lets +onlyGivenNames x
       refine have hx : State.Ext s0 x := ?_; ?_
       (on_goal 2 => clear_value x)
       subst x)
    | (extract_lets +onlyGivenNames x; first | clear_value x | subst x)
    | split
    | with_reducible apply ext_mk

theorem dramWrite_ext (h : s0.Ext s) (cls a : Nat) (l : List Byte) : s0.Ext (s.dramWrite cls a l) := by
  unfold State.dramWrite
  repeat' first
    | (with_reducible first
        | assumption | apply ext_ite | apply drew_ext | apply dramOutcome_ext | apply bufferWord_ext
        | apply memWrite_ext)
    | (with_reducible apply ext_foldl; on_goal 2 => (intro t x ht; try beta_reduce))
    | (extract_lets +onlyGivenNames x
       refine have hx : State.Ext s0 x := ?_; ?_
       (on_goal 2 => clear_value x)
       subst x)
    | (extract_lets +onlyGivenNames x; have y : _ → State := x; clear y; subst x; beta_reduce)
    | (extract_lets +onlyGivenNames x; first | clear_value x | subst x)

theorem idleSlot_ext (h : s0.Ext s) (d : Nat) : s0.Ext (s.idleSlot d) := by
  unfold State.idleSlot
  repeat' first
    | (with_reducible first
        | assumption | apply ext_ite | apply closeRows_ext | apply oldestWrite_ext)
    | (extract_lets +onlyGivenNames x
       refine have hx : State.Ext s0 x := ?_; ?_
       (on_goal 2 => clear_value x)
       subst x)
    | (extract_lets +onlyGivenNames x; first | clear_value x | subst x)
    | split

/-! ## Machine/Link -/

theorem setAttempt_ext (h : s0.Ext s) (c n : Nat) : s0.Ext (s.setAttempt c n) := by
  unfold State.setAttempt
  repeat' first
    | with_reducible first
      | assumption | apply wrF_ext

theorem setHalf_ext (h : s0.Ext s) (c : Nat) (half : Bool) : s0.Ext (s.setHalf c half) := by
  unfold State.setHalf
  repeat' first
    | with_reducible first
      | assumption | apply wrB_ext

theorem setBlockLock_ext (h : s0.Ext s) (c : Nat) (b : Bool) : s0.Ext (s.setBlockLock c b) := by
  unfold State.setBlockLock
  repeat' first
    | with_reducible first
      | assumption | apply wrB_ext

theorem setPending_ext (h : s0.Ext s) (c : Nat) (b : Bool) : s0.Ext (s.setPending c b) := by
  unfold State.setPending
  repeat' first
    | with_reducible first
      | assumption | apply wrB_ext

theorem setFailCause_ext (h : s0.Ext s) (c v : Nat) : s0.Ext (s.setFailCause c v) := by
  unfold State.setFailCause
  repeat' first
    | with_reducible first
      | assumption | apply wrF_ext

theorem tellLane_ext (h : s0.Ext s) (c : Nat) (active : Bool) : s0.Ext (s.tellLane c active) := by
  unfold State.tellLane
  repeat' first
    | (with_reducible first
        | assumption | apply ext_ite | apply toPartner_ext)
    | split

theorem tellLanes_ext (h : s0.Ext s) : s0.Ext s.tellLanes := by
  unfold State.tellLanes
  exact ext_foldl h (fun _ c h => tellLane_ext h c _)

theorem sendTraining_ext (h : s0.Ext s) (c : Nat) : s0.Ext (s.sendTraining c) := by
  unfold State.sendTraining
  repeat' first
    | (with_reducible first
        | assumption | rfl | apply ext_ite | apply modLane_ext | apply emit_ext)
    | (extract_lets +onlyGivenNames x
       refine have hx : State.Ext s0 x := ?_; ?_
       (on_goal 2 => clear_value x)
       subst x)
    | (extract_lets +onlyGivenNames x; first | clear_value x | subst x)
    | with_reducible apply ext_mk

theorem enterDetect_ext (h : s0.Ext s) (c : Nat) : s0.Ext (s.enterDetect c) := by
  unfold State.enterDetect
  repeat' first
    | (with_reducible first
        | assumption | rfl | apply ext_ite | apply setAttempt_ext | apply setBlockLock_ext | apply setPending_ext
        | apply modLane_ext | apply frc_ext | apply emit_ext | apply setLaneSt_ext)
    | (extract_lets +onlyGivenNames x
       refine have hx : State.Ext s0 x := ?_; ?_
       (on_goal 2 => clear_value x)
       subst x)
    | (extract_lets +onlyGivenNames x; first | clear_value x | subst x)
    | with_reducible apply ext_mk

theorem beginAttempt_ext (h : s0.Ext s) (c : Nat) : s0.Ext (s.beginAttempt c) := by
  unfold State.beginAttempt
  repeat' first
    | (with_reducible first
        | assumption | rfl | apply ext_ite | apply setAttempt_ext | apply wr_ext | apply wrB_ext | apply modLane_ext
        | apply sendTraining_ext)
    | (extract_lets +onlyGivenNames x
       refine have hx : State.Ext s0 x := ?_; ?_
       (on_goal 2 => clear_value x)
       subst x)
    | (extract_lets +onlyGivenNames x; first | clear_value x | subst x)
    | with_reducible apply ext_mk

theorem enterTrain_ext (h : s0.Ext s) (c : Nat) : s0.Ext (s.enterTrain c) := by
  unfold State.enterTrain
  repeat' first
    | with_reducible first
      | assumption | apply beginAttempt_ext | apply setLaneSt_ext | apply setPending_ext | apply setBlockLock_ext

theorem changeRate_ext (h : s0.Ext s) (c : Nat) (half up : Bool) : s0.Ext (s.changeRate c half up) := by
  unfold State.changeRate
  repeat' first
    | (with_reducible first
        | assumption | rfl | apply ext_ite | apply intSet_ext | apply count_ext | apply tally_ext | apply setHalf_ext
        | apply setAttempt_ext | apply setBlockLock_ext | apply setPending_ext | apply wrB_ext | apply modLane_ext
        | apply emit_ext | apply setLaneSt_ext)
    | (extract_lets +onlyGivenNames x
       refine have hx : State.Ext s0 x := ?_; ?_
       (on_goal 2 => clear_value x)
       subst x)
    | (extract_lets +onlyGivenNames x; first | clear_value x | subst x)
    | split
    | with_reducible apply ext_mk

theorem dropGrant_ext (h : s0.Ext s) (c : Nat) : s0.Ext (s.dropGrant c) := by
  unfold State.dropGrant
  repeat' first
    | (with_reducible first
        | assumption | rfl | apply ext_ite)
    | (extract_lets +onlyGivenNames x; first | clear_value x | subst x)
    | split
    | with_reducible apply ext_mk

theorem markImplicit_ext (h : s0.Ext s) (c : Nat) : s0.Ext (s.markImplicit c) := by
  unfold State.markImplicit
  repeat' first
    | (with_reducible first
        | assumption | rfl | apply ext_ite)
    | (extract_lets +onlyGivenNames x; first | clear_value x | subst x)
    | split
    | with_reducible apply ext_mk

theorem enterFailed_ext (h : s0.Ext s) (c cause : Nat) : s0.Ext (s.enterFailed c cause) := by
  unfold State.enterFailed
  repeat' first
    | (with_reducible first
        | assumption | apply setPending_ext | apply setBlockLock_ext | apply setFailCause_ext | apply modLane_ext
        | apply errHw_ext | apply setLaneSt_ext | apply emit_ext | apply tally_ext | apply intSet_ext
        | apply tellLane_ext | apply dropGrant_ext | apply markImplicit_ext)
    | (extract_lets +onlyGivenNames x
       refine have hx : State.Ext s0 x := ?_; ?_
       (on_goal 2 => clear_value x)
       subst x)
    | (extract_lets +onlyGivenNames x; first | clear_value x | subst x)

theorem failAttempt_ext (h : s0.Ext s) (c cause : Nat) : s0.Ext (s.failAttempt c cause) := by
  unfold State.failAttempt
  repeat' first
    | (with_reducible first
        | assumption | apply ext_ite | apply setFailCause_ext | apply changeRate_ext | apply enterTrain_ext
        | apply enterFailed_ext)
    | (extract_lets +onlyGivenNames x
       refine have hx : State.Ext s0 x := ?_; ?_
       (on_goal 2 => clear_value x)
       subst x)
    | split

theorem enterRetrain_ext (h : s0.Ext s) (c : Nat) : s0.Ext (s.enterRetrain c) := by
  unfold State.enterRetrain
  repeat' first
    | (with_reducible first
        | assumption | rfl | apply ext_ite | apply leaveActive_ext | apply setPending_ext | apply setBlockLock_ext
        | apply count_ext | apply wrB_ext | apply modLane_ext | apply setLaneSt_ext | apply sendTraining_ext
        | apply tellLane_ext)
    | (extract_lets +onlyGivenNames x
       refine have hx : State.Ext s0 x := ?_; ?_
       (on_goal 2 => clear_value x)
       subst x)
    | (extract_lets +onlyGivenNames x; first | clear_value x | subst x)
    | with_reducible apply ext_mk

theorem enterLock_ext (h : s0.Ext s) (c : Nat) : s0.Ext (s.enterLock c) := by
  unfold State.enterLock
  repeat' first
    | (with_reducible first
        | assumption | rfl | apply ext_ite | apply sendTraining_ext | apply modLane_ext | apply setLaneSt_ext
        | apply emits_ext)
    | (with_reducible apply ext_foldl; on_goal 2 => (intro t x ht; try beta_reduce))
    | (extract_lets +onlyGivenNames x
       refine have hx : State.Ext s0 x := ?_; ?_
       (on_goal 2 => clear_value x)
       subst x)
    | (extract_lets +onlyGivenNames x; have y : _ → State := x; clear y; subst x; beta_reduce)
    | (extract_lets +onlyGivenNames x; first | clear_value x | subst x)
    | with_reducible apply ext_mk

theorem startDegraded_ext (h : s0.Ext s) (c : Nat) (up : Bool) : s0.Ext (s.startDegraded c up) := by
  unfold State.startDegraded
  repeat' first
    | (with_reducible first
        | assumption | apply ext_ite | apply tellLane_ext | apply changeRate_ext | apply leaveActive_ext
        | apply enterRetrain_ext)
    | split

theorem deferRetrain_ext (h : s0.Ext s) (c : Nat) (up : Bool) : s0.Ext (s.deferRetrain c up) := by
  unfold State.deferRetrain
  repeat' first
    | with_reducible first
      | assumption | apply intSet_ext | apply setPending_ext | apply modLane_ext

theorem askGrant_ext (h : s0.Ext s) (c : Nat) (up : Bool) : s0.Ext (s.askGrant c up) := by
  unfold State.askGrant
  repeat' first
    | (with_reducible first
        | assumption | apply modLane_ext | rfl | apply ext_ite | apply startDegraded_ext | apply deferRetrain_ext | apply toPartner_ext)
    | (extract_lets +onlyGivenNames x; first | clear_value x | subst x)
    | split
    | with_reducible apply ext_mk

theorem requestRetrain_ext (h : s0.Ext s) (c : Nat) (up : Bool) : s0.Ext (s.requestRetrain c up) := by
  unfold State.requestRetrain
  repeat' first
    | (with_reducible first
        | assumption | apply ext_ite | apply askGrant_ext | apply deferRetrain_ext | apply startDegraded_ext)
    | split

theorem releaseOne_ext (h : s0.Ext s) (c : Nat) : s0.Ext (s.releaseOne c) := by
  unfold State.releaseOne
  repeat' first
    | (with_reducible first
        | assumption | apply ext_ite | apply startDegraded_ext | apply askGrant_ext)
    | (extract_lets +onlyGivenNames x
       refine have hx : State.Ext s0 x := ?_; ?_
       (on_goal 2 => clear_value x)
       subst x)
    | (extract_lets +onlyGivenNames x; first | clear_value x | subst x)
    | split

theorem releaseRetrains_ext (h : s0.Ext s) : s0.Ext s.releaseRetrains := by
  unfold State.releaseRetrains
  repeat' first
    | (with_reducible first
        | assumption | apply releaseOne_ext)
    | (with_reducible apply ext_foldl; on_goal 2 => (intro t x ht; try beta_reduce))

theorem autoRateUp_ext (h : s0.Ext s) : s0.Ext s.autoRateUp := by
  unfold State.autoRateUp
  repeat' first
    | (with_reducible first
        | assumption | apply ext_ite | apply requestRetrain_ext)
    | (with_reducible apply ext_foldl; on_goal 2 => (intro t x ht; try beta_reduce))
    | split

theorem execReceiverDetectProbe_ext (h : s0.Ext s) (c : Fin 128) (detected : Bool) (t : Nat) :
    Res.Ext s0 (execReceiverDetectProbe c detected t s) := by
  unfold execReceiverDetectProbe
  repeat' first
    | (with_reducible first
        | assumption | apply res_next | apply res_ite | apply ext_ite | apply till_ext | apply modLane_ext
        | apply enterTrain_ext | apply enterDetect_ext | apply setHalf_ext)
    | (extract_lets +onlyGivenNames x
       refine have hx : State.Ext s0 x := ?_; ?_
       (on_goal 2 => clear_value x)
       subst x)
    | (extract_lets +onlyGivenNames x; first | clear_value x | subst x)
    | split

theorem respond_ext (h : s0.Ext s) (c field : Nat) : s0.Ext (s.respond c field) := by
  unfold State.respond
  repeat' first
    | (with_reducible first
        | assumption | rfl | apply ext_ite | apply wr_ext | apply modLane_ext)
    | (extract_lets +onlyGivenNames x
       refine have hx : State.Ext s0 x := ?_; ?_
       (on_goal 2 => clear_value x)
       subst x)
    | (extract_lets +onlyGivenNames x; first | clear_value x | subst x)
    | split
    | with_reducible apply ext_mk

theorem polarity_ext (h : s0.Ext s) (c : Nat) (inverted : Bool) : s0.Ext (s.polarity c inverted) := by
  unfold State.polarity
  repeat' first
    | (with_reducible first
        | assumption | rfl | apply ext_ite | apply wrB_ext | apply modLane_ext)
    | (extract_lets +onlyGivenNames x
       refine have hx : State.Ext s0 x := ?_; ?_
       (on_goal 2 => clear_value x)
       subst x)
    | (extract_lets +onlyGivenNames x; first | clear_value x | subst x)
    | split
    | with_reducible apply ext_mk

theorem localEye_ext (h : s0.Ext s) (c : Nat) (x2 : Option Nat) : s0.Ext (s.localEye c x2) := by
  unfold State.localEye
  repeat' first
    | (with_reducible first
        | assumption | apply wrF_ext)
    | split

theorem trainStep_ext (h : s0.Ext s) (c field : Nat) (eye : Option Nat) : s0.Ext (s.trainStep c field eye) := by
  unfold State.trainStep
  repeat' first
    | (with_reducible first
        | assumption | rfl | apply ext_ite | apply wr_ext | apply wrF_ext | apply respond_ext | apply localEye_ext
        | apply modLane_ext | apply ready_ext | apply sendTraining_ext | apply enterLock_ext)
    | (extract_lets +onlyGivenNames x
       refine have hx : State.Ext s0 x := ?_; ?_
       (on_goal 2 => clear_value x)
       subst x)
    | (extract_lets +onlyGivenNames x; first | clear_value x | subst x)
    | split
    | with_reducible apply ext_mk

theorem execTrainingFrame_ext (h : s0.Ext s) (c : Fin 128) (field : Nat) (inverted : Bool) (eye : Option (Fin 256)) :
    Res.Ext s0 (execTrainingFrame c field inverted eye s) := by
  unfold execTrainingFrame
  repeat' first
    | (with_reducible first
        | assumption | apply res_next | apply res_ite | apply ext_ite | apply polarity_ext | apply trainStep_ext
        | apply failAttempt_ext)
    | (extract_lets +onlyGivenNames x
       refine have hx : State.Ext s0 x := ?_; ?_
       (on_goal 2 => clear_value x)
       subst x)
    | (extract_lets +onlyGivenNames x; first | clear_value x | subst x)
    | split

theorem execTrainTimeout_ext (h : s0.Ext s) (c : Fin 128) : Res.Ext s0 (execTrainTimeout c s) := by
  unfold execTrainTimeout
  repeat' first
    | (with_reducible first
        | assumption | apply res_next | apply res_ite | apply ext_ite | apply failAttempt_ext)
    | (extract_lets +onlyGivenNames x; first | clear_value x | subst x)
    | split

theorem execTrainingSilence_ext (h : s0.Ext s) (c : Fin 128) (t : Nat) : Res.Ext s0 (execTrainingSilence c t s) := by
  unfold execTrainingSilence
  repeat' first
    | (with_reducible first
        | assumption | apply res_next | apply res_ite | apply ext_ite | apply till_ext | apply enterDetect_ext)
    | (extract_lets +onlyGivenNames x
       refine have hx : State.Ext s0 x := ?_; ?_
       (on_goal 2 => clear_value x)
       subst x)
    | (extract_lets +onlyGivenNames x; first | clear_value x | subst x)
    | split

theorem execRateChangeIdleEnd_ext (h : s0.Ext s) (c : Fin 128) : Res.Ext s0 (execRateChangeIdleEnd c s) := by
  unfold execRateChangeIdleEnd
  repeat' first
    | (with_reducible first
        | assumption | apply res_next | apply res_ite | apply ext_ite | apply beginAttempt_ext)
    | (extract_lets +onlyGivenNames x; first | clear_value x | subst x)
    | split

theorem execLockTimeout_ext (h : s0.Ext s) (c : Fin 128) : Res.Ext s0 (execLockTimeout c s) := by
  unfold execLockTimeout
  repeat' first
    | (with_reducible first
        | assumption | apply res_next | apply res_ite | apply ext_ite | apply failAttempt_ext)
    | split

theorem execExchangeTimeout_ext (h : s0.Ext s) (c : Fin 128) : Res.Ext s0 (execExchangeTimeout c s) := by
  unfold execExchangeTimeout
  repeat' first
    | (with_reducible first
        | assumption | apply res_next | apply res_ite | apply ext_ite | apply failAttempt_ext)
    | (extract_lets +onlyGivenNames x; first | clear_value x | subst x)
    | split

theorem execRetrainTimeout_ext (h : s0.Ext s) (c : Fin 128) : Res.Ext s0 (execRetrainTimeout c s) := by
  unfold execRetrainTimeout
  repeat' first
    | (with_reducible first
        | assumption | apply res_next | apply res_ite | apply ext_ite | apply enterTrain_ext | apply setAttempt_ext)
    | split

theorem execEyeMeasurement_ext (h : s0.Ext s) (c : Fin 128) (eye : Fin 256) :
    Res.Ext s0 (execEyeMeasurement c eye s) := by
  unfold execEyeMeasurement
  repeat' first
    | (with_reducible first
        | assumption | apply res_next | apply res_ite | apply ext_ite | apply localEye_ext | apply intSet_ext
        | apply modLane_ext | apply requestRetrain_ext)
    | (extract_lets +onlyGivenNames x
       refine have hx : State.Ext s0 x := ?_; ?_
       (on_goal 2 => clear_value x)
       subst x)
    | (extract_lets +onlyGivenNames x; first | clear_value x | subst x)
    | split

theorem headerErrs_ext (h : s0.Ext s) (c errs : Nat) : s0.Ext (s.headerErrs c errs) := by
  unfold State.headerErrs
  repeat' first
    | (with_reducible first
        | assumption | apply ext_ite | apply wr_ext)

theorem headWindow_ext (h : s0.Ext s) (c errs : Nat) : s0.Ext (s.headWindow c errs) := by
  unfold State.headWindow
  repeat' first
    | (with_reducible first
        | assumption | apply ext_ite | apply headerErrs_ext | apply requestRetrain_ext)
    | (extract_lets +onlyGivenNames x
       refine have hx : State.Ext s0 x := ?_; ?_
       (on_goal 2 => clear_value x)
       subst x)
    | (extract_lets +onlyGivenNames x; first | clear_value x | subst x)
    | split

theorem channelReset_ext (h : s0.Ext s) (c : Nat) : s0.Ext (s.channelReset c) := by
  unfold State.channelReset
  repeat' first
    | (with_reducible first
        | assumption | rfl | apply ext_ite | apply wrs_ext | apply wr_ext | apply wrF_ext | apply modLane_ext)
    | (extract_lets +onlyGivenNames x
       refine have hx : State.Ext s0 x := ?_; ?_
       (on_goal 2 => clear_value x)
       subst x)
    | (extract_lets +onlyGivenNames x; first | clear_value x | subst x)
    | with_reducible apply ext_mk

theorem isolateLane_ext (h : s0.Ext s) (c : Nat) : s0.Ext (s.isolateLane c) := by
  unfold State.isolateLane
  repeat' first
    | (with_reducible first
        | assumption | rfl | apply ext_ite | apply leaveActive_ext | apply emit_ext | apply wrB_ext
        | apply channelReset_ext | apply setLaneSt_ext | apply markImplicit_ext | apply dropGrant_ext
        | apply tellLane_ext)
    | (extract_lets +onlyGivenNames x
       refine have hx : State.Ext s0 x := ?_; ?_
       (on_goal 2 => clear_value x)
       subst x)
    | (extract_lets +onlyGivenNames x; first | clear_value x | subst x)
    | with_reducible apply ext_mk

theorem execIsolate_ext (h : s0.Ext s) (src : Req) (c : Fin 128) : Res.Ext s0 (execIsolate src c s) := by
  unfold execIsolate
  repeat' first
    | (with_reducible first
        | assumption | apply res_next | apply res_ite | apply ext_ite | apply isolateLane_ext)
    | split

theorem releaseLane_ext (h : s0.Ext s) (c : Nat) : s0.Ext (s.releaseLane c) := by
  unfold State.releaseLane
  repeat' first
    | (with_reducible first
        | assumption | apply ext_ite | apply wrB_ext | apply enterDetect_ext | apply setHalf_ext)
    | (extract_lets +onlyGivenNames x
       refine have hx : State.Ext s0 x := ?_; ?_
       (on_goal 2 => clear_value x)
       subst x)
    | split

theorem execIsolateRelease_ext (h : s0.Ext s) (src : Req) (c : Fin 128) :
    Res.Ext s0 (execIsolateRelease src c s) := by
  unfold execIsolateRelease
  repeat' first
    | (with_reducible first
        | assumption | apply res_next | apply res_ite | apply ext_ite | apply releaseLane_ext)
    | split

theorem linkCmd_ext (h : s0.Ext s) (src : Req) (c : Nat) (f : State → State) (hf : ∀ t, s0.Ext t → s0.Ext (f t)) :
    s0.Ext (s.linkCmd src c f) := by
  unfold State.linkCmd
  repeat' first
    | (with_reducible first
        | assumption | apply ext_ite | apply errAt_ext | apply hf)
    | split

theorem doRetrain_ext (h : s0.Ext s) (src : Req) (c : Nat) : s0.Ext (s.doRetrain src c) := by
  unfold State.doRetrain
  repeat' first
    | (with_reducible first
        | assumption | apply ext_ite | apply linkCmd_ext | apply enterRetrain_ext)
    | (intro t ht; try beta_reduce)
    | split

theorem execLinkRetrain_ext (h : s0.Ext s) (src : Req) (c : Fin 128) : Res.Ext s0 (execLinkRetrain src c s) := by
  unfold execLinkRetrain
  repeat' first
    | (with_reducible first
        | assumption | apply res_next | apply res_ite | apply ext_ite | apply doRetrain_ext)
    | split

theorem doRestart_ext (h : s0.Ext s) (src : Req) (c : Nat) : s0.Ext (s.doRestart src c) := by
  unfold State.doRestart
  repeat' first
    | (with_reducible first
        | assumption | apply ext_ite | apply linkCmd_ext | apply tellLane_ext | apply enterDetect_ext
        | apply setHalf_ext | apply leaveActive_ext)
    | (intro t ht; try beta_reduce)
    | split

theorem execLinkRestart_ext (h : s0.Ext s) (src : Req) (c : Fin 128) (t : Nat) :
    Res.Ext s0 (execLinkRestart src c t s) := by
  unfold execLinkRestart
  repeat' first
    | (with_reducible first
        | assumption | apply res_next | apply res_ite | apply ext_ite | apply till_ext | apply doRestart_ext)
    | split

theorem doRateUp_ext (h : s0.Ext s) (src : Req) (c : Nat) : s0.Ext (s.doRateUp src c) := by
  unfold State.doRateUp
  repeat' first
    | (with_reducible first
        | assumption | apply ext_ite | apply linkCmd_ext | apply requestRetrain_ext)
    | (intro t ht; try beta_reduce)
    | split

theorem execRateUp_ext (h : s0.Ext s) (src : Req) (c : Fin 128) : Res.Ext s0 (execRateUp src c s) := by
  unfold execRateUp
  repeat' first
    | (with_reducible first
        | assumption | apply res_next | apply res_ite | apply ext_ite | apply doRateUp_ext)
    | split

/-! ## Machine/Protocol -/

theorem sendHello_ext (h : s0.Ext s) (c : Nat) (ack : Bool) : s0.Ext (s.sendHello c ack) := by
  unfold State.sendHello
  repeat' first
    | (with_reducible first
        | assumption | apply ext_ite | apply sendFrame_ext | apply emit_ext)

theorem enterExchange_ext (h : s0.Ext s) (c : Nat) : s0.Ext (s.enterExchange c) := by
  unfold State.enterExchange
  repeat' first
    | (with_reducible first
        | assumption | apply modLane_ext | apply sendHello_ext | apply setLaneSt_ext)
    | (extract_lets +onlyGivenNames x
       refine have hx : State.Ext s0 x := ?_; ?_
       (on_goal 2 => clear_value x)
       subst x)

theorem enterActive_ext (h : s0.Ext s) (c : Nat) (h : HeadHello) : s0.Ext (s.enterActive c h) := by
  unfold State.enterActive
  repeat' first
    | (with_reducible first
        | assumption | rfl | apply ext_ite | apply wrs_ext | apply setFailCause_ext | apply wrB_ext
        | apply modLane_ext | apply setLaneSt_ext | apply intSet_ext | apply dropGrant_ext | apply tellLane_ext)
    | (extract_lets +onlyGivenNames x
       refine have hx : State.Ext s0 x := ?_; ?_
       (on_goal 2 => clear_value x)
       subst x)
    | (extract_lets +onlyGivenNames x; first | clear_value x | subst x)
    | with_reducible apply ext_mk

theorem proceed_ext (h : s0.Ext s) (c : Nat) (h1 : HeadHello) : s0.Ext (s.proceed c h1) := by
  unfold State.proceed
  repeat' first
    | (with_reducible first
        | assumption | apply ext_ite | apply sendHello_ext | apply modLane_ext | apply enterActive_ext)
    | (extract_lets +onlyGivenNames x
       refine have hx : State.Ext s0 x := ?_; ?_
       (on_goal 2 => clear_value x)
       subst x)
    | split

theorem markChanged_ext (h : s0.Ext s) (c : Nat) (h : HeadHello) : s0.Ext (s.markChanged c h) := by
  unfold State.markChanged
  repeat' first
    | (with_reducible first
        | assumption | apply ext_ite | apply wrB_ext | apply intSet_ext)
    | split

theorem compatHello_ext (h : s0.Ext s) (c : Nat) (h : HeadHello) : s0.Ext (s.compatHello c h) := by
  unfold State.compatHello
  repeat' first
    | (with_reducible first
        | assumption | rfl | apply ext_ite | apply modLane_ext | apply proceed_ext)
    | (extract_lets +onlyGivenNames x
       refine have hx : State.Ext s0 x := ?_; ?_
       (on_goal 2 => clear_value x)
       subst x)
    | (extract_lets +onlyGivenNames x; first | clear_value x | subst x)
    | split
    | with_reducible apply ext_mk

theorem execHeadHello_ext (h : s0.Ext s) (c : Fin 128) (h : HeadHello) (t : Nat) :
    Res.Ext s0 (execHeadHello c h t s) := by
  unfold execHeadHello
  repeat' first
    | (with_reducible first
        | assumption | rfl | apply res_next | apply res_ite | apply ext_ite | apply till_ext | apply sendHello_ext
        | apply markChanged_ext | apply modLane_ext | apply compatHello_ext | apply enterFailed_ext)
    | (extract_lets +onlyGivenNames x
       refine have hx : State.Ext s0 x := ?_; ?_
       (on_goal 2 => clear_value x)
       subst x)
    | (extract_lets +onlyGivenNames x; first | clear_value x | subst x)
    | split
    | with_reducible apply ext_mk

theorem execHelloRepeat_ext (h : s0.Ext s) (c : Fin 128) : Res.Ext s0 (execHelloRepeat c s) := by
  unfold execHelloRepeat
  repeat' first
    | (with_reducible first
        | assumption | apply res_next | apply res_ite | apply ext_ite | apply sendHello_ext)
    | (extract_lets +onlyGivenNames x; first | clear_value x | subst x)
    | split

theorem doAccept_ext (h : s0.Ext s) (src : Req) (c : Nat) : s0.Ext (s.doAccept src c) := by
  unfold State.doAccept
  repeat' first
    | (with_reducible first
        | assumption | apply ext_ite | apply linkCmd_ext | apply modLane_ext | apply proceed_ext)
    | (extract_lets +onlyGivenNames x
       refine have hx : State.Ext s0 x := ?_; ?_
       (on_goal 2 => clear_value x)
       subst x)
    | (extract_lets +onlyGivenNames x; first | clear_value x | subst x)
    | (intro t ht; try beta_reduce)
    | split

theorem execLinkAccept_ext (h : s0.Ext s) (src : Req) (c : Fin 128) (t : Nat) :
    Res.Ext s0 (execLinkAccept src c t s) := by
  unfold execLinkAccept
  repeat' first
    | (with_reducible first
        | assumption | apply res_next | apply res_ite | apply ext_ite | apply till_ext | apply doAccept_ext)
    | split

theorem releaseHeld_ext (h : s0.Ext s) : s0.Ext s.releaseHeld := by
  unfold State.releaseHeld
  repeat' first
    | (with_reducible first
        | assumption | apply ext_ite | apply modLane_ext | apply proceed_ext)
    | (with_reducible apply ext_foldl; on_goal 2 => (intro t x ht; try beta_reduce))
    | (extract_lets +onlyGivenNames x
       refine have hx : State.Ext s0 x := ?_; ?_
       (on_goal 2 => clear_value x)
       subst x)
    | (extract_lets +onlyGivenNames x; first | clear_value x | subst x)
    | split

theorem execPortStopExchange_ext (h : s0.Ext s) (c : Fin 128) : Res.Ext s0 (execPortStopExchange c s) := by
  unfold execPortStopExchange
  repeat' first
    | (with_reducible first
        | assumption | rfl | apply res_next | apply res_ite | apply ext_ite | apply tellLane_ext
        | apply enterExchange_ext | apply leaveActive_ext)
    | (extract_lets +onlyGivenNames x
       refine have hx : State.Ext s0 x := ?_; ?_
       (on_goal 2 => clear_value x)
       subst x)
    | (extract_lets +onlyGivenNames x; first | clear_value x | subst x)
    | split
    | with_reducible apply ext_mk

theorem lockBlocks_ext (h : s0.Ext s) (c : Nat) (blocks : List (Nat × Nat)) : s0.Ext (s.lockBlocks c blocks) := by
  unfold State.lockBlocks
  repeat' first
    | (with_reducible first
        | assumption | rfl | apply ext_ite | apply headerErrs_ext | apply modLane_ext | apply enterExchange_ext)
    | (extract_lets +onlyGivenNames x
       refine have hx : State.Ext s0 x := ?_; ?_
       (on_goal 2 => clear_value x)
       subst x)
    | (extract_lets +onlyGivenNames x; first | clear_value x | subst x)
    | split
    | with_reducible apply ext_mk

theorem headLockGained_ext (h : s0.Ext s) (c : Nat) (blocks : List (Nat × Nat)) :
    s0.Ext (s.headLockGained c blocks) := by
  unfold State.headLockGained
  repeat' first
    | (with_reducible first
        | assumption | rfl | apply ext_ite | apply lockBlocks_ext | apply setBlockLock_ext | apply count_ext
        | apply modLane_ext)
    | (extract_lets +onlyGivenNames x
       refine have hx : State.Ext s0 x := ?_; ?_
       (on_goal 2 => clear_value x)
       subst x)
    | (extract_lets +onlyGivenNames x; first | clear_value x | subst x)
    | split
    | with_reducible apply ext_mk

theorem headLockLost_ext (h : s0.Ext s) (c errs : Nat) : s0.Ext (s.headLockLost c errs) := by
  unfold State.headLockLost
  repeat' first
    | (with_reducible first
        | assumption | apply ext_ite | apply setBlockLock_ext | apply count_ext | apply headerErrs_ext
        | apply enterRetrain_ext | apply failAttempt_ext | apply wr_ext)
    | (extract_lets +onlyGivenNames x
       refine have hx : State.Ext s0 x := ?_; ?_
       (on_goal 2 => clear_value x)
       subst x)
    | (extract_lets +onlyGivenNames x; first | clear_value x | subst x)
    | split

theorem countLane_ext (h : s0.Ext s) (c i : Nat) : s0.Ext (s.countLane c i) := by
  unfold State.countLane
  repeat' first
    | with_reducible first
      | assumption | apply modLane_ext

theorem execFrameDiscard_ext (h : s0.Ext s) (c : Fin 128) : Res.Ext s0 (execFrameDiscard c s) := by
  unfold execFrameDiscard
  repeat' first
    | with_reducible first
      | assumption | apply res_next | apply intSet_ext | apply countLane_ext

theorem emitTable_ext (h : s0.Ext s) (c : Nat) : s0.Ext (s.emitTable c) := by
  unfold State.emitTable
  repeat' first
    | (with_reducible first
        | assumption | apply ext_ite | apply sendFrame_ext | apply wrF_ext | apply emit_ext)
    | (extract_lets +onlyGivenNames x
       refine have hx : State.Ext s0 x := ?_; ?_
       (on_goal 2 => clear_value x)
       subst x)
    | (extract_lets +onlyGivenNames x; first | clear_value x | subst x)
    | split

theorem emitTables_ext (h : s0.Ext s) : s0.Ext s.emitTables := by
  unfold State.emitTables
  repeat' first
    | (with_reducible first
        | assumption | apply emitTable_ext)
    | (with_reducible apply ext_foldl; on_goal 2 => (intro t x ht; try beta_reduce))

theorem tableSend_ext (h : s0.Ext s) (src : Req) (c : Nat) : s0.Ext (s.tableSend src c) := by
  unfold State.tableSend
  repeat' first
    | (with_reducible first
        | assumption | apply emitTable_ext | apply ext_ite | apply errAt_ext | apply intSet_ext | apply wrF_ext | apply modLane_ext
        | apply wr_ext | apply emit_ext)
    | (extract_lets +onlyGivenNames x
       refine have hx : State.Ext s0 x := ?_; ?_
       (on_goal 2 => clear_value x)
       subst x)
    | (extract_lets +onlyGivenNames x; first | clear_value x | subst x)
    | split

theorem execTableSend_ext (h : s0.Ext s) (src : Req) (c : Fin 128) : Res.Ext s0 (execTableSend src c s) := by
  unfold execTableSend
  repeat' first
    | (with_reducible first
        | assumption | apply res_next | apply res_ite | apply ext_ite | apply tableSend_ext)
    | split

theorem execTableNoResponse_ext (h : s0.Ext s) (c : Fin 128) : Res.Ext s0 (execTableNoResponse c s) := by
  unfold execTableNoResponse
  repeat' first
    | (with_reducible first
        | assumption | apply res_next | apply res_ite | apply ext_ite | apply intSet_ext | apply wrF_ext)
    | (extract_lets +onlyGivenNames x; first | clear_value x | subst x)
    | split

theorem sendEcho_ext (h : s0.Ext s) (c : Nat) : s0.Ext (s.sendEcho c) := by
  unfold State.sendEcho
  repeat' first
    | (with_reducible first
        | assumption | rfl | apply ext_ite | apply modLane_ext | apply frc_ext | apply sendBlock_ext | apply emit_ext)
    | (extract_lets +onlyGivenNames x
       refine have hx : State.Ext s0 x := ?_; ?_
       (on_goal 2 => clear_value x)
       subst x)
    | (extract_lets +onlyGivenNames x; first | clear_value x | subst x)
    | split
    | with_reducible apply ext_mk

theorem execEchoNow_ext (h : s0.Ext s) (src : Req) (c : Fin 128) (t : Nat) : Res.Ext s0 (execEchoNow src c t s) := by
  unfold execEchoNow
  repeat' first
    | (with_reducible first
        | assumption | apply res_next | apply res_ite | apply ext_ite | apply till_ext | apply sendEcho_ext)
    | split

theorem execEchoInterval_ext (h : s0.Ext s) (c : Fin 128) (t : Nat) : Res.Ext s0 (execEchoInterval c t s) := by
  unfold execEchoInterval
  repeat' first
    | (with_reducible first
        | assumption | apply res_next | apply res_ite | apply ext_ite | apply till_ext | apply sendEcho_ext)
    | (extract_lets +onlyGivenNames x
       refine have hx : State.Ext s0 x := ?_; ?_
       (on_goal 2 => clear_value x)
       subst x)
    | split

theorem execEchoReply_ext (h : s0.Ext s) (c : Fin 128) (seq turnaround t : Nat) :
    Res.Ext s0 (execEchoReply c seq turnaround t s) := by
  unfold execEchoReply
  repeat' first
    | (with_reducible first
        | assumption | rfl | apply res_next | apply res_ite | apply ext_ite | apply till_ext | apply modLane_ext
        | apply wr_ext)
    | (extract_lets +onlyGivenNames x
       refine have hx : State.Ext s0 x := ?_; ?_
       (on_goal 2 => clear_value x)
       subst x)
    | (extract_lets +onlyGivenNames x; first | clear_value x | subst x)
    | split
    | with_reducible apply ext_mk

theorem execEchoLost_ext (h : s0.Ext s) (c : Fin 128) : Res.Ext s0 (execEchoLost c s) := by
  unfold execEchoLost
  repeat' first
    | (with_reducible first
        | assumption | rfl | apply res_next | apply res_ite | apply ext_ite | apply modLane_ext | apply countLane_ext)
    | (extract_lets +onlyGivenNames x
       refine have hx : State.Ext s0 x := ?_; ?_
       (on_goal 2 => clear_value x)
       subst x)
    | (extract_lets +onlyGivenNames x; first | clear_value x | subst x)
    | split
    | with_reducible apply ext_mk

/-! ## Machine/Apply -/

theorem copyShadows_ext (h : s0.Ext s) (keys : List Nat) : s0.Ext (s.copyShadows keys) := by
  unfold State.copyShadows
  repeat' first
    | (with_reducible first
        | assumption | apply wr_ext)
    | (with_reducible apply ext_foldl; on_goal 2 => (intro t x ht; try beta_reduce))

theorem pageApplied_ext (h : s0.Ext s) (page : Nat) : s0.Ext (s.pageApplied page) := by
  unfold State.pageApplied
  repeat' first
    | (with_reducible first
        | assumption | apply wrF_ext | apply wrB_ext | apply intSet_ext)
    | (extract_lets +onlyGivenNames x
       refine have hx : State.Ext s0 x := ?_; ?_
       (on_goal 2 => clear_value x)
       subst x)
    | (extract_lets +onlyGivenNames x; first | clear_value x | subst x)

theorem applyPage_ext (h : s0.Ext s) (page : Nat) : s0.Ext (s.applyPage page) := by
  unfold State.applyPage
  repeat' first
    | (with_reducible first
        | assumption | apply ext_ite | apply copyShadows_ext | apply pageApplied_ext | apply intSet_ext)
    | (extract_lets +onlyGivenNames x
       refine have hx : State.Ext s0 x := ?_; ?_
       (on_goal 2 => clear_value x)
       subst x)
    | (extract_lets +onlyGivenNames x; first | clear_value x | subst x)
    | split

theorem addSplice_ext (h : s0.Ext s) (at_ : Nat) : s0.Ext (s.addSplice at_) := by
  unfold State.addSplice
  repeat' first
    | (with_reducible first
        | assumption | rfl | apply ext_ite)
    | (extract_lets +onlyGivenNames x; first | clear_value x | subst x)
    | split
    | with_reducible apply ext_mk

theorem setEnc_ext (h : s0.Ext s) (e : Nat) (x : Enc) : s0.Ext (s.setEnc e x) := by
  unfold State.setEnc
  repeat' first
    | (with_reducible first
        | assumption | rfl | apply ext_ite)
    | (extract_lets +onlyGivenNames x; first | clear_value x | subst x)
    | split
    | with_reducible apply ext_mk

theorem showReverse_ext (h : s0.Ext s) (e : Nat) : s0.Ext (s.showReverse e) := by
  unfold State.showReverse
  repeat' first
    | (with_reducible first
        | assumption | apply ext_ite | apply wrB_ext | apply intSet_ext)
    | (extract_lets +onlyGivenNames x
       refine have hx : State.Ext s0 x := ?_; ?_
       (on_goal 2 => clear_value x)
       subst x)
    | (extract_lets +onlyGivenNames x; first | clear_value x | subst x)
    | split

theorem startSource_ext (h : s0.Ext s) (frac back : Nat) : s0.Ext (s.startSource frac back) := by
  unfold State.startSource
  repeat' first
    | (with_reducible first
        | assumption | rfl | apply ext_ite | apply setEnc_ext | apply showReverse_ext | apply frc_ext)
    | (extract_lets +onlyGivenNames x
       refine have hx : State.Ext s0 x := ?_; ?_
       (on_goal 2 => clear_value x)
       subst x)
    | (extract_lets +onlyGivenNames x; first | clear_value x | subst x)
    | split
    | with_reducible apply ext_mk

theorem rescale_ext (h : s0.Ext s) (e old : Nat) : s0.Ext (s.rescale e old) := by
  unfold State.rescale
  repeat' first
    | (with_reducible first
        | assumption | rfl | apply ext_ite | apply setEnc_ext | apply showReverse_ext)
    | (extract_lets +onlyGivenNames x
       refine have hx : State.Ext s0 x := ?_; ?_
       (on_goal 2 => clear_value x)
       subst x)
    | (extract_lets +onlyGivenNames x; first | clear_value x | subst x)
    | split
    | with_reducible apply ext_mk

theorem showSource_ext (h : s0.Ext s) : s0.Ext s.showSource := by
  unfold State.showSource
  repeat' first
    | with_reducible first
      | assumption | apply wrF_ext | apply setStCode_ext

theorem autoSwitch_ext (h : s0.Ext s) : s0.Ext s.autoSwitch := by
  unfold State.autoSwitch
  repeat' first
    | (with_reducible first
        | assumption | rfl | apply ext_ite | apply startSource_ext | apply intSet_ext | apply showSource_ext)
    | (extract_lets +onlyGivenNames x
       refine have hx : State.Ext s0 x := ?_; ?_
       (on_goal 2 => clear_value x)
       subst x)
    | (extract_lets +onlyGivenNames x; first | clear_value x | subst x)
    | split
    | with_reducible apply ext_mk

theorem carryEnc_ext (h : s0.Ext s) (old : State) : s0.Ext (s.carryEnc old) := by
  unfold State.carryEnc
  repeat' first
    | (with_reducible first
        | assumption | rfl | apply ext_ite | apply rescale_ext | apply startSource_ext | apply showSource_ext
        | apply autoSwitch_ext)
    | (extract_lets +onlyGivenNames x
       refine have hx : State.Ext s0 x := ?_; ?_
       (on_goal 2 => clear_value x)
       subst x)
    | (extract_lets +onlyGivenNames x; first | clear_value x | subst x)
    | split
    | with_reducible apply ext_mk

theorem applyEnc_ext (h : s0.Ext s) : s0.Ext s.applyEnc := by
  unfold State.applyEnc
  repeat' first
    | (with_reducible first
        | assumption | apply ext_ite | apply applyPage_ext | apply carryEnc_ext)

theorem applyLinePage_ext (h : s0.Ext s) (page line : Nat) : s0.Ext (s.applyLinePage page line) := by
  unfold State.applyLinePage
  repeat' first
    | (with_reducible first
        | assumption | apply ext_ite | apply applyEnc_ext | apply addSplice_ext | apply applyPage_ext)
    | split

theorem applyLinePages_ext (h : s0.Ext s) (line : Nat) : s0.Ext (s.applyLinePages line) := by
  unfold State.applyLinePages
  repeat' first
    | (with_reducible first
        | assumption | apply ext_ite | apply applyLinePage_ext)
    | (with_reducible apply ext_foldl; on_goal 2 => (intro t x ht; try beta_reduce))
    | split

theorem applyIdle_ext (h : s0.Ext s) : s0.Ext s.applyIdle := ext_ite (applyLinePage_ext h _ _) h

theorem setSlot_ext (h : s0.Ext s) (n : Nat) (x : Slot) : s0.Ext (s.setSlot n x) := by
  unfold State.setSlot
  repeat' first
    | (with_reducible first
        | assumption | rfl)
    | (extract_lets +onlyGivenNames x; first | clear_value x | subst x)
    | with_reducible apply setSlot_ext'
    | with_reducible apply ext_mk

theorem setSlotSt_ext (h : s0.Ext s) (n st : Nat) : s0.Ext (s.setSlotSt n st) := by
  unfold State.setSlotSt
  repeat' first
    | with_reducible first
      | assumption | apply wrF_ext

theorem slotResult_ext (h : s0.Ext s) (n code : Nat) : s0.Ext (s.slotResult n code) := by
  unfold State.slotResult
  repeat' first
    | with_reducible first
      | assumption | apply wrF_ext

theorem slotLate_ext (h : s0.Ext s) (n : Nat) : s0.Ext (s.slotLate n) := by
  unfold State.slotLate
  repeat' first
    | (with_reducible first
        | assumption | apply intSet_ext | apply wrB_ext)
    | (with_reducible apply ext_foldl; on_goal 2 => (intro t x ht; try beta_reduce))
    | (extract_lets +onlyGivenNames x
       refine have hx : State.Ext s0 x := ?_; ?_
       (on_goal 2 => clear_value x)
       subst x)

theorem slotRefuse_ext (h : s0.Ext s) (n code source : Nat) : s0.Ext (s.slotRefuse n code source) := by
  unfold State.slotRefuse
  repeat' first
    | (with_reducible first
        | assumption | apply ext_ite | apply wrB_ext | apply slotResult_ext | apply setSlotSt_ext | apply error_ext
        | apply intSet_ext)
    | (with_reducible apply ext_foldl; on_goal 2 => (intro t x ht; try beta_reduce))
    | (extract_lets +onlyGivenNames x
       refine have hx : State.Ext s0 x := ?_; ?_
       (on_goal 2 => clear_value x)
       subst x)
    | split

theorem slotDone_ext (h : s0.Ext s) (n : Nat) : s0.Ext (s.slotDone n) := by
  unfold State.slotDone
  repeat' first
    | (with_reducible first
        | assumption | rfl | apply wrB_ext | apply wrF_ext | apply setSlotSt_ext | apply intSet_ext)
    | (extract_lets +onlyGivenNames x
       refine have hx : State.Ext s0 x := ?_; ?_
       (on_goal 2 => clear_value x)
       subst x)
    | (extract_lets +onlyGivenNames x; first | clear_value x | subst x)
    | with_reducible apply ext_mk

theorem slotSwap_ext (h : s0.Ext s) (n : Nat) : s0.Ext (s.slotSwap n) := by
  unfold State.slotSwap
  repeat' first
    | (with_reducible first
        | assumption | rfl | apply ext_ite | apply wrF_ext | apply setSlotSt_ext)
    | (with_reducible apply ext_foldl; on_goal 2 => (intro t x ht; try beta_reduce))
    | (extract_lets +onlyGivenNames x
       refine have hx : State.Ext s0 x := ?_; ?_
       (on_goal 2 => clear_value x)
       subst x)
    | (extract_lets +onlyGivenNames x; first | clear_value x | subst x)
    | split
    | with_reducible apply ext_mk

theorem toneEnd_ext (h : s0.Ext s) (n : Nat) : s0.Ext (s.toneEnd n) := by
  unfold State.toneEnd
  repeat' first
    | (with_reducible first
        | assumption | rfl | apply ext_ite)
    | (with_reducible apply ext_foldl; on_goal 2 => (intro t x ht; try beta_reduce))
    | (extract_lets +onlyGivenNames x
       refine have hx : State.Ext s0 x := ?_; ?_
       (on_goal 2 => clear_value x)
       subst x)
    | (extract_lets +onlyGivenNames x; first | clear_value x | subst x)
    | split
    | with_reducible apply ext_mk

theorem slotFinish_ext (h : s0.Ext s) (n : Nat) : s0.Ext (s.slotFinish n) := by
  unfold State.slotFinish
  repeat' first
    | (with_reducible first
        | assumption | apply ext_ite | apply toneEnd_ext | apply slotSwap_ext | apply copyShadows_ext
        | apply pageApplied_ext | apply slotDone_ext)
    | (with_reducible apply ext_foldl; on_goal 2 => (intro t x ht; try beta_reduce))
    | (extract_lets +onlyGivenNames x
       refine have hx : State.Ext s0 x := ?_; ?_
       (on_goal 2 => clear_value x)
       subst x)
    | (extract_lets +onlyGivenNames x; have y : _ → State := x; clear y; subst x; beta_reduce)
    | (extract_lets +onlyGivenNames x; first | clear_value x | subst x)
    | split

theorem slotAct_ext (h : s0.Ext s) (n line : Nat) : s0.Ext (s.slotAct n line) := by
  unfold State.slotAct
  repeat' first
    | (with_reducible first
        | assumption | rfl | apply ext_ite | apply slotResult_ext | apply slotLate_ext | apply setSlot_ext
        | apply slotFinish_ext | apply setSlotSt_ext)
    | (extract_lets +onlyGivenNames x
       refine have hx : State.Ext s0 x := ?_; ?_
       (on_goal 2 => clear_value x)
       subst x)
    | (extract_lets +onlyGivenNames x; first | clear_value x | subst x)
    | split
    | with_reducible apply ext_mk

theorem slotTaps_ext (h : s0.Ext s) (n line : Nat) : s0.Ext (s.slotTaps n line) := by
  unfold State.slotTaps
  repeat' first
    | (with_reducible first
        | assumption | apply ext_ite | apply wr_ext)
    | (with_reducible apply ext_foldl; on_goal 2 => (intro t x ht; try beta_reduce))
    | (extract_lets +onlyGivenNames x
       refine have hx : State.Ext s0 x := ?_; ?_
       (on_goal 2 => clear_value x)
       subst x)
    | (extract_lets +onlyGivenNames x; have y : _ → State := x; clear y; subst x; beta_reduce)
    | (extract_lets +onlyGivenNames x; first | clear_value x | subst x)
    | split

theorem applySlots_ext (h : s0.Ext s) (line : Nat) : s0.Ext (s.applySlots line) := by
  unfold State.applySlots
  repeat' first
    | (with_reducible first
        | assumption | apply ext_ite | apply slotAct_ext | apply slotTaps_ext)
    | (with_reducible apply ext_foldl; on_goal 2 => (intro t x ht; try beta_reduce))
    | (extract_lets +onlyGivenNames x
       refine have hx : State.Ext s0 x := ?_; ?_
       (on_goal 2 => clear_value x)
       subst x)
    | split

theorem sendSlot_ext (h : s0.Ext s) (n : Nat) : s0.Ext (s.sendSlot n) := by
  unfold State.sendSlot
  repeat' first
    | (with_reducible first
        | assumption | apply ext_ite | apply toPartner_ext)

theorem reschedule_ext (h : s0.Ext s) (n source : Nat) : s0.Ext (s.reschedule n source) := by
  unfold State.reschedule
  repeat' first
    | (with_reducible first
        | assumption | apply ext_ite | apply slotRefuse_ext | apply slotResult_ext | apply setSlot_ext
        | apply error_ext | apply wr_ext | apply slotLate_ext | apply sendSlot_ext | apply setSlotSt_ext)
    | (extract_lets +onlyGivenNames x
       refine have hx : State.Ext s0 x := ?_; ?_
       (on_goal 2 => clear_value x)
       subst x)
    | (extract_lets +onlyGivenNames x; first | clear_value x | subst x)
    | split

theorem clearOutcome_ext (h : s0.Ext s) (n : Nat) : s0.Ext (s.clearOutcome n) := by
  unfold State.clearOutcome
  repeat' first
    | (with_reducible first
        | assumption | apply ext_ite | apply wrB_ext)
    | (with_reducible apply ext_foldl; on_goal 2 => (intro t x ht; try beta_reduce))

theorem slotAlone_ext (h : s0.Ext s) (n : Nat) : s0.Ext (s.slotAlone n) := by
  unfold State.slotAlone
  repeat' first
    | (with_reducible first
        | assumption | rfl | apply ext_ite | apply setSlotSt_ext | apply setSlot_ext)
    | with_reducible apply ext_mk

theorem slotArmed_ext (h : s0.Ext s) (n source : Nat) : s0.Ext (s.slotArmed n source) := by
  unfold State.slotArmed
  repeat' first
    | (with_reducible first
        | assumption | apply ext_ite | apply setSlot_ext | apply slotResult_ext | apply clearOutcome_ext
        | apply reschedule_ext | apply setSlotSt_ext | apply sendSlot_ext | apply slotAlone_ext)
    | (extract_lets +onlyGivenNames x
       refine have hx : State.Ext s0 x := ?_; ?_
       (on_goal 2 => clear_value x)
       subst x)
    | (extract_lets +onlyGivenNames x; first | clear_value x | subst x)
    | split

theorem armSlot_ext (h : s0.Ext s) (src : Req) (n : Nat) : s0.Ext (s.armSlot src n) := by
  unfold State.armSlot
  repeat' first
    | (with_reducible first
        | assumption | apply ext_ite | apply errAt_ext | apply clearOutcome_ext | apply slotRefuse_ext
        | apply slotArmed_ext)
    | split

theorem execSlotArm_ext (h : s0.Ext s) (src : Req) (n : Fin 32) : Res.Ext s0 (execSlotArm src n s) := by
  unfold execSlotArm
  repeat' first
    | (with_reducible first
        | assumption | apply res_next | apply res_ite | apply ext_ite | apply armSlot_ext)
    | split

theorem cancelSlot_ext (h : s0.Ext s) (src : Req) (n : Nat) : s0.Ext (s.cancelSlot src n) := by
  unfold State.cancelSlot
  repeat' first
    | (with_reducible first
        | assumption | apply ext_ite | apply errAt_ext | apply setSlotSt_ext | apply toPartner_ext)
    | (extract_lets +onlyGivenNames x
       refine have hx : State.Ext s0 x := ?_; ?_
       (on_goal 2 => clear_value x)
       subst x)
    | (extract_lets +onlyGivenNames x; have y : _ → State := x; clear y; subst x; beta_reduce)
    | (extract_lets +onlyGivenNames x; first | clear_value x | subst x)
    | split

theorem execSlotCancel_ext (h : s0.Ext s) (src : Req) (n : Fin 32) : Res.Ext s0 (execSlotCancel src n s) := by
  unfold execSlotCancel
  repeat' first
    | (with_reducible first
        | assumption | apply res_next | apply res_ite | apply ext_ite | apply cancelSlot_ext)
    | split

theorem execSlotApply_ext (h : s0.Ext s) (n : Fin 32) : Res.Ext s0 (execSlotApply n s) := by
  unfold execSlotApply
  repeat' first
    | (with_reducible first
        | assumption | apply res_next | apply res_ite | apply ext_ite | apply slotTaps_ext | apply slotAct_ext)
    | (extract_lets +onlyGivenNames x; first | clear_value x | subst x)
    | split

theorem execRampEnd_ext (h : s0.Ext s) (n : Fin 32) : Res.Ext s0 (execRampEnd n s) := by
  unfold execRampEnd
  repeat' first
    | (with_reducible first
        | assumption | apply res_next | apply res_ite | apply ext_ite | apply slotFinish_ext)
    | (extract_lets +onlyGivenNames x; first | clear_value x | subst x)
    | split

theorem execBankCopyDone_ext (h : s0.Ext s) (n : Fin 32) : Res.Ext s0 (execBankCopyDone n s) := by
  unfold execBankCopyDone
  repeat' first
    | (with_reducible first
        | assumption | rfl | apply res_next | apply res_ite | apply ext_ite | apply slotDone_ext)
    | (extract_lets +onlyGivenNames x; first | clear_value x | subst x)
    | split
    | with_reducible apply ext_mk

/-! ## Machine/Keys -/

theorem macOf_ext (h : s0.Ext s) (key : Option (List Byte)) (text : List Byte) : s0.Ext (s.macOf key text).1 := by
  unfold State.macOf
  split
  · exact h
  · exact ext_foldl_fst (p := (s, [])) h fun _ _ hq => drew_ext hq

/-! ## Machine/Lookout -/

theorem sendMessage_ext (h : s0.Ext s) (lo hi type reason arg : Nat) (rest : List Byte) :
    s0.Ext (s.sendMessage lo hi type reason arg rest) := by
  unfold State.sendMessage
  repeat' first
    | (with_reducible first
        | assumption | rfl | apply ext_ite | apply macOf_ext | apply prpSend_ext)
    | (extract_lets +onlyGivenNames x
       refine have hx : State.Ext s0 x := ?_; ?_
       (on_goal 2 => clear_value x)
       subst x)
    | (extract_lets +onlyGivenNames x; first | clear_value x | subst x)
    | with_reducible apply ext_mk

theorem lookoutBad_ext (h : s0.Ext s) : s0.Ext s.lookoutBad := by
  unfold State.lookoutBad
  repeat' first
    | with_reducible first
      | assumption | apply tally_ext | apply intSet_ext | apply countF_ext

/-! ## Machine/Job -/

theorem setTile_ext (h : s0.Ext s) (k : Nat) (d : Option Nat) : s0.Ext (s.setTile k d) := by
  unfold State.setTile
  repeat' first
    | (with_reducible first
        | assumption | rfl)
    | (extract_lets +onlyGivenNames x; have y : JobUnit := x; clear y; subst x)
    | (extract_lets +onlyGivenNames x; first | clear_value x | subst x)
    | with_reducible apply ext_mk

theorem advanceWrite_ext (h : s0.Ext s) (n : Nat) : s0.Ext (s.advanceWrite n) := by
  induction n generalizing s with
  | zero => exact h
  | succ n ih => exact ext_ite (ih (wr_ext h _ _)) h

theorem showCredits_ext (h : s0.Ext s) : s0.Ext s.showCredits := by
  unfold State.showCredits
  repeat' first
    | (with_reducible first
        | assumption | rfl | apply ext_ite | apply wr_ext | apply intSet_ext)
    | (extract_lets +onlyGivenNames x
       refine have hx : State.Ext s0 x := ?_; ?_
       (on_goal 2 => clear_value x)
       subst x)
    | (extract_lets +onlyGivenNames x; have y : JobUnit := x; clear y; subst x)
    | (extract_lets +onlyGivenNames x; first | clear_value x | subst x)
    | split
    | with_reducible apply ext_mk

theorem rescanRows_ext (h : s0.Ext s) : s0.Ext s.rescanRows := by
  unfold State.rescanRows
  repeat' first
    | (with_reducible first
        | assumption | apply ext_ite | apply wr_ext | apply advanceWrite_ext | apply showCredits_ext)
    | (extract_lets +onlyGivenNames x
       refine have hx : State.Ext s0 x := ?_; ?_
       (on_goal 2 => clear_value x)
       subst x)
    | (extract_lets +onlyGivenNames x; first | clear_value x | subst x)
    | split

theorem releaseRows_ext (h : s0.Ext s) : s0.Ext s.releaseRows := by
  unfold State.releaseRows
  repeat' first
    | (with_reducible first
        | assumption | apply ext_ite | apply wr_ext | apply showCredits_ext | apply rescanRows_ext)
    | (extract_lets +onlyGivenNames x
       refine have hx : State.Ext s0 x := ?_; ?_
       (on_goal 2 => clear_value x)
       subst x)
    | (extract_lets +onlyGivenNames x; first | clear_value x | subst x)
    | split

theorem retire_ext (h : s0.Ext s) : s0.Ext s.retire := by
  unfold State.retire
  repeat' first
    | (with_reducible first
        | assumption | rfl)
    | (extract_lets +onlyGivenNames x; have y : JobUnit := x; clear y; subst x)
    | (extract_lets +onlyGivenNames x; first | clear_value x | subst x)
    | with_reducible apply ext_mk

theorem spliceEdges_ext (h : s0.Ext s) (line : Nat) : s0.Ext (s.spliceEdges line) := by
  unfold State.spliceEdges
  repeat' first
    | (with_reducible first
        | assumption | rfl | apply ext_ite)
    | (extract_lets +onlyGivenNames x
       refine have hx : State.Ext s0 x := ?_; ?_
       (on_goal 2 => clear_value x)
       subst x)
    | (extract_lets +onlyGivenNames x; have y : JobUnit := x; clear y; subst x)
    | (extract_lets +onlyGivenNames x; first | clear_value x | subst x)
    | split
    | with_reducible apply ext_mk

theorem showEdges_ext (h : s0.Ext s) (line : Nat) : s0.Ext (s.showEdges line) := by
  unfold State.showEdges
  repeat' first
    | (with_reducible first
        | assumption | rfl | apply ext_ite | apply intSet_ext)
    | (with_reducible apply ext_foldl; on_goal 2 => (intro t x ht; try beta_reduce))
    | (extract_lets +onlyGivenNames x
       refine have hx : State.Ext s0 x := ?_; ?_
       (on_goal 2 => clear_value x)
       subst x)
    | (extract_lets +onlyGivenNames x; have y : _ → State := x; clear y; subst x; beta_reduce)
    | (extract_lets +onlyGivenNames x; have y : JobUnit := x; clear y; subst x)
    | (extract_lets +onlyGivenNames x; first | clear_value x | subst x)
    | with_reducible apply ext_mk

theorem sendDigest_ext (h : s0.Ext s) (p row col d : Nat) : s0.Ext (s.sendDigest p row col d) := by
  unfold State.sendDigest
  repeat' first
    | (with_reducible first
        | assumption | apply ext_ite | apply toPartner_ext | apply sendMessage_ext)
    | split

theorem rowsLose_ext (h : s0.Ext s) : s0.Ext s.rowsLose := by
  unfold State.rowsLose
  repeat' first
    | (with_reducible first
        | assumption | apply ext_ite | apply rescanRows_ext)
    | split

theorem compareDigest_ext (h : s0.Ext s) (p row col : Nat) : s0.Ext (s.compareDigest p row col) := by
  unfold State.compareDigest
  repeat' first
    | (with_reducible first
        | assumption | rfl | apply ext_ite | apply setTile_ext | apply count_ext | apply wr_ext | apply intSet_ext
        | apply rowsLose_ext)
    | (extract_lets +onlyGivenNames x
       refine have hx : State.Ext s0 x := ?_; ?_
       (on_goal 2 => clear_value x)
       subst x)
    | (extract_lets +onlyGivenNames x; have y : JobUnit := x; clear y; subst x)
    | (extract_lets +onlyGivenNames x; first | clear_value x | subst x)
    | split
    | with_reducible apply ext_mk

theorem tileBecomesValid_ext (h : s0.Ext s) (p row col : Nat) : s0.Ext (s.tileBecomesValid p row col) := by
  unfold State.tileBecomesValid
  repeat' first
    | (with_reducible first
        | assumption | apply ext_ite | apply setTile_ext | apply compareDigest_ext | apply sendDigest_ext
        | apply showCredits_ext | apply advanceWrite_ext)
    | (extract_lets +onlyGivenNames x
       refine have hx : State.Ext s0 x := ?_; ?_
       (on_goal 2 => clear_value x)
       subst x)
    | (extract_lets +onlyGivenNames x; first | clear_value x | subst x)
    | split

theorem takeDigest_ext (h : s0.Ext s) (p row col crc : Nat) : s0.Ext (s.takeDigest p row col crc) := by
  unfold State.takeDigest
  repeat' first
    | (with_reducible first
        | assumption | rfl | apply ext_ite | apply compareDigest_ext)
    | split
    | with_reducible apply ext_mk

theorem execTileDigestRecord_ext (h : s0.Ext s) (record : DigestRec) :
    Res.Ext s0 (execTileDigestRecord record s) := by
  unfold execTileDigestRecord
  repeat' first
    | (with_reducible first
        | assumption | rfl | apply res_next | apply res_ite | apply ext_ite | apply takeDigest_ext
        | apply lookoutBad_ext)
    | (extract_lets +onlyGivenNames x
       refine have hx : State.Ext s0 x := ?_; ?_
       (on_goal 2 => clear_value x)
       subst x)
    | (extract_lets +onlyGivenNames x; first | clear_value x | subst x)
    | split
    | with_reducible apply ext_mk

theorem resendDigests_ext (h : s0.Ext s) : s0.Ext s.resendDigests := by
  unfold State.resendDigests
  repeat' first
    | (with_reducible first
        | assumption | rfl | apply sendDigest_ext)
    | (with_reducible apply ext_foldl; on_goal 2 => (intro t x ht; try beta_reduce))
    | (extract_lets +onlyGivenNames x
       refine have hx : State.Ext s0 x := ?_; ?_
       (on_goal 2 => clear_value x)
       subst x)
    | (extract_lets +onlyGivenNames x; have y : JobUnit := x; clear y; subst x)
    | (extract_lets +onlyGivenNames x; first | clear_value x | subst x)
    | split
    | with_reducible apply ext_mk

theorem judgeTiles_ext (h : s0.Ext s) (ks : List Nat) : s0.Ext (s.judgeTiles ks) := by
  unfold State.judgeTiles
  repeat' first
    | (with_reducible first
        | assumption | rfl | apply ext_ite | apply wr_ext | apply intSet_ext)
    | (extract_lets +onlyGivenNames x
       refine have hx : State.Ext s0 x := ?_; ?_
       (on_goal 2 => clear_value x)
       subst x)
    | (extract_lets +onlyGivenNames x; have y : JobUnit := x; clear y; subst x)
    | (extract_lets +onlyGivenNames x; first | clear_value x | subst x)
    | split
    | with_reducible apply ext_mk

/-! ## Machine/Digest -/

theorem compareDigests_ext (h : s0.Ext s) (own theirs : List (Nat × Nat)) : s0.Ext (s.compareDigests own theirs) := by
  unfold State.compareDigests
  repeat' first
    | (with_reducible first
        | assumption | rfl | apply ext_ite | apply count_ext | apply intSet_ext)
    | (with_reducible apply ext_foldl; on_goal 2 => (intro t x ht; try beta_reduce))
    | (extract_lets +onlyGivenNames x
       refine have hx : State.Ext s0 x := ?_; ?_
       (on_goal 2 => clear_value x)
       subst x)
    | (extract_lets +onlyGivenNames x; have y : _ → State := x; clear y; subst x; beta_reduce)
    | (extract_lets +onlyGivenNames x; first | clear_value x | subst x)
    | split
    | with_reducible apply ext_mk

theorem meetDigests_ext (h : s0.Ext s) : s0.Ext s.meetDigests := by
  unfold State.meetDigests
  repeat' first
    | (with_reducible first
        | assumption | rfl | apply ext_ite | apply compareDigests_ext)
    | split
    | with_reducible apply ext_mk

theorem sendDigests_ext (h : s0.Ext s) (line : Nat) : s0.Ext (s.sendDigests line) := by
  unfold State.sendDigests
  repeat' first
    | (with_reducible first
        | assumption | rfl | apply ext_ite | apply toPartner_ext | apply meetDigests_ext)
    | (extract_lets +onlyGivenNames x
       refine have hx : State.Ext s0 x := ?_; ?_
       (on_goal 2 => clear_value x)
       subst x)
    | (extract_lets +onlyGivenNames x; first | clear_value x | subst x)
    | with_reducible apply ext_mk

theorem takeDigests_ext (h : s0.Ext s) (line : Nat) (theirs : List (Nat × Nat)) :
    s0.Ext (s.takeDigests line theirs) := by
  unfold State.takeDigests
  repeat' first
    | (with_reducible first
        | assumption | rfl | apply ext_ite | apply meetDigests_ext)
    | split
    | with_reducible apply ext_mk

theorem digestDue_ext (h : s0.Ext s) (line : Nat) : s0.Ext (s.digestDue line) := by
  unfold State.digestDue
  repeat' first
    | (with_reducible first
        | assumption | apply ext_ite | apply sendDigests_ext)
    | split

theorem agreeDigest_ext (h : s0.Ext s) (inRun : Bool) (line : Nat) : s0.Ext (s.agreeDigest inRun line) := by
  unfold State.agreeDigest
  repeat' first
    | (with_reducible first
        | assumption | rfl | apply ext_ite | apply sendDigests_ext)
    | split
    | with_reducible apply ext_mk

theorem startDigest_ext (h : s0.Ext s) : s0.Ext s.startDigest := by
  unfold State.startDigest
  repeat' first
    | (with_reducible first
        | assumption | apply ext_ite | apply toPartner_ext | apply agreeDigest_ext)
    | (extract_lets +onlyGivenNames x
       refine have hx : State.Ext s0 x := ?_; ?_
       (on_goal 2 => clear_value x)
       subst x)
    | (extract_lets +onlyGivenNames x; first | clear_value x | subst x)
    | split

/-! ## Machine/Timers -/

theorem setTimer_ext (h : s0.Ext s) (n : Nat) (x : Timer) : s0.Ext (s.setTimer n x) := by
  unfold State.setTimer
  repeat' first
    | (with_reducible first
        | assumption | rfl)
    | (extract_lets +onlyGivenNames x; first | clear_value x | subst x)
    | with_reducible apply ext_mk

theorem setTimerSt_ext (h : s0.Ext s) (n v : Nat) : s0.Ext (s.setTimerSt n v) := by
  unfold State.setTimerSt
  repeat' first
    | with_reducible first
      | assumption | apply wrF_ext

theorem showPlan_ext (h : s0.Ext s) (n : Nat) : s0.Ext (s.showPlan n) := by
  unfold State.showPlan
  repeat' first
    | with_reducible first
      | assumption | apply wrF_ext

theorem showNext_ext (h : s0.Ext s) (n : Nat) : s0.Ext (s.showNext n) := by
  unfold State.showNext
  repeat' first
    | (with_reducible first
        | assumption | apply ext_ite | apply wr_ext)
    | (extract_lets +onlyGivenNames x; first | clear_value x | subst x)
    | split

/-! ## Machine/Masks -/

theorem maskCut_ext (h : s0.Ext s) (p : Nat) : s0.Ext (s.maskCut p) := by
  unfold State.maskCut
  repeat' first
    | (with_reducible first
        | assumption | apply ext_ite | apply frc_ext | apply cutPulses_ext)
    | (with_reducible apply ext_foldl; on_goal 2 => (intro t x ht; try beta_reduce))

theorem timerCut_ext (h : s0.Ext s) (n : Nat) : s0.Ext (s.timerCut n) := by
  unfold State.timerCut
  repeat' first
    | (with_reducible first
        | assumption | apply ext_ite | apply maskCut_ext)
    | (with_reducible apply ext_foldl; on_goal 2 => (intro t x ht; try beta_reduce))

theorem showPending_ext (h : s0.Ext s) (b : Nat) : s0.Ext (s.showPending b) := by
  unfold State.showPending
  repeat' first
    | (with_reducible first
        | assumption | apply ext_ite | apply wrB_ext)

theorem setBandDone_ext (h : s0.Ext s) (b : Nat) (v : Bool) : s0.Ext (s.setBandDone b v) := by
  unfold State.setBandDone
  repeat' first
    | with_reducible first
      | assumption | apply wrB_ext

theorem stripSkip_ext (h : s0.Ext s) : s0.Ext s.stripSkip := by
  unfold State.stripSkip
  repeat' first
    | with_reducible first
      | assumption | apply intSet_ext | apply count_ext

theorem loseTrigger_ext (h : s0.Ext s) (p plan n need : Nat) : s0.Ext (s.loseTrigger p plan n need) := by
  unfold State.loseTrigger
  repeat' first
    | (with_reducible first
        | assumption | rfl | apply ext_ite | apply showPending_ext | apply setBandDone_ext | apply stripSkip_ext)
    | (extract_lets +onlyGivenNames x
       refine have hx : State.Ext s0 x := ?_; ?_
       (on_goal 2 => clear_value x)
       subst x)
    | (extract_lets +onlyGivenNames x; first | clear_value x | subst x)
    | split
    | with_reducible apply ext_mk

theorem loseUnfired_ext (h : s0.Ext s) (n : Nat) : s0.Ext (s.loseUnfired n) := by
  unfold State.loseUnfired
  repeat' first
    | (with_reducible first
        | assumption | apply ext_ite | apply loseTrigger_ext)
    | (with_reducible apply ext_foldl; on_goal 2 => (intro t x ht; try beta_reduce))
    | (extract_lets +onlyGivenNames x
       refine have hx : State.Ext s0 x := ?_; ?_
       (on_goal 2 => clear_value x)
       subst x)
    | (extract_lets +onlyGivenNames x; have y : _ → State := x; clear y; subst x; beta_reduce)
    | (extract_lets +onlyGivenNames x; first | clear_value x | subst x)

/-! ## Machine/Arming -/

theorem startTime_ext (h : s0.Ext s) (n : Nat) : s0.Ext (s.startTime n) := by
  unfold State.startTime
  repeat' first
    | (with_reducible first
        | assumption | apply ext_ite | apply setTimer_ext)
    | (extract_lets +onlyGivenNames x; first | clear_value x | subst x)
    | split

theorem skipTime_ext (h : s0.Ext s) (n : Nat) : s0.Ext (s.skipTime n) := by
  unfold State.skipTime
  repeat' first
    | (with_reducible first
        | assumption | apply setTimer_ext)
    | (extract_lets +onlyGivenNames x; first | clear_value x | subst x)
    | split

theorem showTarget_ext (h : s0.Ext s) (n : Nat) : s0.Ext (s.showTarget n) := by
  unfold State.showTarget
  repeat' first
    | (with_reducible first
        | assumption | apply showNext_ext | apply wr_ext)
    | (extract_lets +onlyGivenNames x
       refine have hx : State.Ext s0 x := ?_; ?_
       (on_goal 2 => clear_value x)
       subst x)

theorem armAhead_ext (h : s0.Ext s) (n : Nat) : s0.Ext (s.armAhead n) := by
  unfold State.armAhead
  repeat' first
    | with_reducible first
      | assumption | apply showNext_ext | apply setTimerSt_ext

theorem armLate_ext (h : s0.Ext s) (n : Nat) : s0.Ext (s.armLate n) := by
  unfold State.armLate
  repeat' first
    | (with_reducible first
        | assumption | rfl | apply ext_ite | apply wrB_ext | apply intSet_ext | apply count_ext | apply setTimer_ext
        | apply skipTime_ext | apply frc_ext | apply armAhead_ext | apply showTarget_ext | apply setTimerSt_ext)
    | (extract_lets +onlyGivenNames x
       refine have hx : State.Ext s0 x := ?_; ?_
       (on_goal 2 => clear_value x)
       subst x)
    | (extract_lets +onlyGivenNames x; have y : _ → State := x; clear y; subst x; beta_reduce)
    | (extract_lets +onlyGivenNames x; first | clear_value x | subst x)
    | split
    | with_reducible apply ext_mk

theorem armIdle_ext (h : s0.Ext s) (src : Req) (n : Nat) : s0.Ext (s.armIdle src n) := by
  unfold State.armIdle
  repeat' first
    | (with_reducible first
        | assumption | rfl | apply ext_ite | apply wrB_ext | apply errAt_ext | apply setTimer_ext | apply armLate_ext
        | apply armAhead_ext | apply frc_ext | apply startTime_ext)
    | (extract_lets +onlyGivenNames x
       refine have hx : State.Ext s0 x := ?_; ?_
       (on_goal 2 => clear_value x)
       subst x)
    | (extract_lets +onlyGivenNames x; first | clear_value x | subst x)
    | split
    | with_reducible apply ext_mk

theorem armTimer_ext (h : s0.Ext s) (src : Req) (n : Nat) : s0.Ext (s.armTimer src n) := by
  unfold State.armTimer
  repeat' first
    | (with_reducible first
        | assumption | apply ext_ite | apply armIdle_ext | apply timerCut_ext)
    | split

theorem execTimerArm_ext (h : s0.Ext s) (src : Req) (n : Fin 16) (t : Nat) : Res.Ext s0 (execTimerArm src n t s) := by
  unfold execTimerArm
  repeat' first
    | (with_reducible first
        | assumption | apply res_next | apply res_ite | apply ext_ite | apply till_ext | apply armTimer_ext)
    | split

theorem disarmTimer_ext (h : s0.Ext s) (n : Nat) : s0.Ext (s.disarmTimer n) := by
  unfold State.disarmTimer
  repeat' first
    | (with_reducible first
        | assumption | rfl | apply ext_ite | apply frc_ext | apply loseUnfired_ext | apply setTimer_ext
        | apply setTimerSt_ext)
    | (extract_lets +onlyGivenNames x
       refine have hx : State.Ext s0 x := ?_; ?_
       (on_goal 2 => clear_value x)
       subst x)
    | (extract_lets +onlyGivenNames x; first | clear_value x | subst x)
    | split
    | with_reducible apply ext_mk

theorem execTimerDisarm_ext (h : s0.Ext s) (src : Req) (n : Fin 16) : Res.Ext s0 (execTimerDisarm src n s) := by
  unfold execTimerDisarm
  repeat' first
    | (with_reducible first
        | assumption | apply res_next | apply res_ite | apply ext_ite | apply disarmTimer_ext)
    | split

theorem endLineTimers_ext (h : s0.Ext s) : s0.Ext s.endLineTimers := by
  unfold State.endLineTimers
  repeat' first
    | (with_reducible first
        | assumption | rfl | apply ext_ite | apply loseUnfired_ext | apply setTimer_ext | apply setTimerSt_ext)
    | (with_reducible apply ext_foldl; on_goal 2 => (intro t x ht; try beta_reduce))
    | (extract_lets +onlyGivenNames x
       refine have hx : State.Ext s0 x := ?_; ?_
       (on_goal 2 => clear_value x)
       subst x)
    | (extract_lets +onlyGivenNames x; have y : _ → State := x; clear y; subst x; beta_reduce)
    | (extract_lets +onlyGivenNames x; first | clear_value x | subst x)
    | split
    | with_reducible apply ext_mk

theorem planAdd_ext (h : s0.Ext s) (n plan expNs : Nat) : s0.Ext (s.planAdd n plan expNs).1 := by
  unfold State.planAdd
  repeat' first
    | (with_reducible first
        | assumption | apply ext_ite | apply ext_fst_ite | apply showPlan_ext | apply setTimer_ext)
    | (extract_lets +onlyGivenNames x; first | clear_value x | subst x)
    | split

theorem planPush_ext (h : s0.Ext s) (src : Req) (n : Nat) : s0.Ext (s.planPush src n) := by
  unfold State.planPush
  repeat' first
    | (with_reducible first
        | assumption | apply ext_ite | apply errAt_ext | apply planAdd_ext | apply timerCut_ext)
    | (extract_lets +onlyGivenNames x
       refine have hx : State.Ext s0 x := ?_; ?_
       (on_goal 2 => clear_value x)
       subst x)
    | (extract_lets +onlyGivenNames x; have y : _ → State := x; clear y; subst x; beta_reduce)
    | (extract_lets +onlyGivenNames x; first | clear_value x | subst x)
    | split

theorem execPlanPush_ext (h : s0.Ext s) (src : Req) (n : Fin 16) : Res.Ext s0 (execPlanPush src n s) := by
  unfold execPlanPush
  repeat' first
    | (with_reducible first
        | assumption | apply res_next | apply res_ite | apply ext_ite | apply planPush_ext)
    | split

theorem planFlush_ext (h : s0.Ext s) (n : Nat) : s0.Ext (s.planFlush n) := by
  unfold State.planFlush
  repeat' first
    | (with_reducible first
        | assumption | rfl | apply ext_ite | apply loseUnfired_ext | apply setTimer_ext | apply showPlan_ext)
    | (extract_lets +onlyGivenNames x
       refine have hx : State.Ext s0 x := ?_; ?_
       (on_goal 2 => clear_value x)
       subst x)
    | (extract_lets +onlyGivenNames x; first | clear_value x | subst x)
    | with_reducible apply ext_mk

theorem execPlanFlush_ext (h : s0.Ext s) (src : Req) (n : Fin 16) : Res.Ext s0 (execPlanFlush src n s) := by
  unfold execPlanFlush
  repeat' first
    | (with_reducible first
        | assumption | apply res_next | apply res_ite | apply ext_ite | apply planFlush_ext)
    | split

/-! ## Machine/Threshold -/

theorem setDwell_ext (h : s0.Ext s) (k inst : Nat) (d : Dwell) : s0.Ext (s.setDwell k inst d) := by
  unfold State.setDwell
  repeat' first
    | (with_reducible first
        | assumption | rfl)
    | (extract_lets +onlyGivenNames x; first | clear_value x | subst x)
    | with_reducible apply ext_mk

theorem dwellSample_ext (h : s0.Ext s) (k inst : Nat) (v : Option Int) : s0.Ext (s.dwellSample k inst v) := by
  unfold State.dwellSample
  repeat' first
    | (with_reducible first
        | assumption | apply ext_ite | apply setDwell_ext)
    | (extract_lets +onlyGivenNames x; first | clear_value x | subst x)
    | split

end Sys2Proof.Machine
end

