-- ==== Sys2Proof/Laws/ExtPrint.lean ====
section
/-! SUPPORT. `State.Ext` is kept by every function of the meanings: lamps, cameras, the image pipeline, the strip, the line engine, screening and colour. -/

set_option linter.unusedTactic false
set_option linter.unreachableTactic false

namespace Sys2Proof.Machine

variable {s0 s : State}

/-! ## Machine/Lamp -/

theorem setLampGroup_ext (h : s0.Ext s) (g : Nat) (x : LampGroup) : s0.Ext (s.setLampGroup g x) := by
  unfold State.setLampGroup
  repeat' first
    | (with_reducible first
        | assumption | rfl)
    | (extract_lets +onlyGivenNames x; first | clear_value x | subst x)
    | with_reducible apply ext_mk

theorem showStep_ext (h : s0.Ext s) (g : Nat) : s0.Ext (s.showStep g) := by
  unfold State.showStep
  repeat' first
    | (with_reducible first
        | assumption | apply ext_ite | apply tally_ext | apply intSet_ext | apply wrF_ext)
    | (extract_lets +onlyGivenNames x; first | clear_value x | subst x)
    | split

theorem setGroup_ext (h : s0.Ext s) (g st : Nat) : s0.Ext (s.setGroup g st) := by
  unfold State.setGroup
  repeat' first
    | (with_reducible first
        | assumption | apply ext_ite | apply fault_ext | apply ready_ext | apply setStCode_ext | apply groupOff_ext)
    | (extract_lets +onlyGivenNames x
       refine have hx : State.Ext s0 x := ?_; ?_
       (on_goal 2 => clear_value x)
       subst x)
    | (extract_lets +onlyGivenNames x; first | clear_value x | subst x)
    | split

theorem busEnable_ext (h : s0.Ext s) (g : Nat) (b : Bool) : s0.Ext (s.busEnable g b) := by
  unfold State.busEnable
  repeat' first
    | (with_reducible first
        | assumption | apply ext_ite | apply wrB_ext | apply setLampGroup_ext)
    | (extract_lets +onlyGivenNames x
       refine have hx : State.Ext s0 x := ?_; ?_
       (on_goal 2 => clear_value x)
       subst x)
    | (extract_lets +onlyGivenNames x; first | clear_value x | subst x)
    | split

theorem groupOn_ext (h : s0.Ext s) (g : Nat) : s0.Ext (s.groupOn g) := by
  unfold State.groupOn
  repeat' first
    | (with_reducible first
        | assumption | apply ext_ite | apply intSet_ext | apply setGroup_ext)
    | split

theorem groupTrip_ext (h : s0.Ext s) (g : Nat) : s0.Ext (s.groupTrip g) := by
  unfold State.groupTrip
  repeat' first
    | (with_reducible first
        | assumption | apply ext_ite | apply busEnable_ext | apply setGroup_ext)
    | split

theorem pmbus_ext (h : s0.Ext s) (g cmd v : Nat) : s0.Ext (s.pmbus g cmd v) := by
  unfold State.pmbus
  repeat' first
    | (with_reducible first
        | assumption | apply ext_ite | apply emit_ext)

theorem pmbusFails_ext (h : s0.Ext s) (g n : Nat) : s0.Ext (s.pmbusFails g n) := by
  unfold State.pmbusFails
  repeat' first
    | (with_reducible first
        | assumption | apply ext_ite | apply wr_ext)
    | (extract_lets +onlyGivenNames x
       refine have hx : State.Ext s0 x := ?_; ?_
       (on_goal 2 => clear_value x)
       subst x)
    | (extract_lets +onlyGivenNames x; first | clear_value x | subst x)
    | split

theorem headroomFault_ext (h : s0.Ext s) (g : Nat) : s0.Ext (s.headroomFault g) := by
  unfold State.headroomFault
  repeat' first
    | (with_reducible first
        | assumption | apply ext_ite | apply wrB_ext | apply intSet_ext)

theorem setVout_ext (h : s0.Ext s) (g v : Nat) : s0.Ext (s.setVout g v) := by
  unfold State.setVout
  repeat' first
    | (with_reducible first
        | assumption | apply ext_ite | apply wrF_ext | apply pmbus_ext | apply emit_ext)

theorem groupEnable_ext (h : s0.Ext s) (g : Nat) : s0.Ext (s.groupEnable g) := by
  unfold State.groupEnable
  repeat' first
    | (with_reducible first
        | assumption | apply ext_ite | apply busEnable_ext | apply setGroup_ext | apply pmbus_ext | apply setVout_ext
        | apply groupTrip_ext | apply emit_ext)
    | (extract_lets +onlyGivenNames x
       refine have hx : State.Ext s0 x := ?_; ?_
       (on_goal 2 => clear_value x)
       subst x)
    | (extract_lets +onlyGivenNames x; first | clear_value x | subst x)
    | split

theorem execLampGroupEnable_ext (h : s0.Ext s) (src : Req) (g : Fin 4) :
    Res.Ext s0 (execLampGroupEnable src g s) := by
  unfold execLampGroupEnable
  repeat' first
    | (with_reducible first
        | assumption | apply res_next | apply res_ite | apply ext_ite | apply wrB_ext | apply groupEnable_ext)
    | split

theorem groupDisable_ext (h : s0.Ext s) (g : Nat) : s0.Ext (s.groupDisable g) := by
  unfold State.groupDisable
  repeat' first
    | with_reducible first
      | assumption | apply busEnable_ext | apply setGroup_ext

theorem execLampGroupDisable_ext (h : s0.Ext s) (src : Req) (g : Fin 4) :
    Res.Ext s0 (execLampGroupDisable src g s) := by
  unfold execLampGroupDisable
  repeat' first
    | (with_reducible first
        | assumption | apply res_next | apply res_ite | apply ext_ite | apply wrB_ext | apply groupDisable_ext)
    | split

theorem execBusGood_ext (h : s0.Ext s) (g : Fin 4) (voutMode failures : Nat) :
    Res.Ext s0 (execBusGood g voutMode failures s) := by
  unfold execBusGood
  repeat' first
    | (with_reducible first
        | assumption | apply res_next | apply res_ite | apply ext_ite | apply pmbusFails_ext | apply setGroup_ext
        | apply headroomFault_ext | apply wrF_ext | apply setLampCh_ext | apply wrB_ext | apply groupOn_ext)
    | (with_reducible apply ext_foldl; on_goal 2 => (intro t x ht; try beta_reduce))
    | (extract_lets +onlyGivenNames x
       refine have hx : State.Ext s0 x := ?_; ?_
       (on_goal 2 => clear_value x)
       subst x)
    | (extract_lets +onlyGivenNames x; have y : _ → State := x; clear y; subst x; beta_reduce)
    | (extract_lets +onlyGivenNames x; first | clear_value x | subst x)
    | split

theorem execBusWaitTimeout_ext (h : s0.Ext s) (g : Fin 4) (failures : Nat) :
    Res.Ext s0 (execBusWaitTimeout g failures s) := by
  unfold execBusWaitTimeout
  repeat' first
    | (with_reducible first
        | assumption | apply res_next | apply res_ite | apply ext_ite | apply pmbusFails_ext | apply setGroup_ext
        | apply intSet_ext)
    | split

theorem execBusFault_ext (h : s0.Ext s) (g : Fin 4) : Res.Ext s0 (execBusFault g s) := by
  unfold execBusFault
  repeat' first
    | (with_reducible first
        | assumption | apply res_next | apply res_ite | apply ext_ite | apply intSet_ext | apply setGroup_ext
        | apply wrB_ext)
    | (extract_lets +onlyGivenNames x; first | clear_value x | subst x)
    | split

theorem groupResume_ext (h : s0.Ext s) (src : Req) (g : Nat) : s0.Ext (s.groupResume src g) := by
  unfold State.groupResume
  repeat' first
    | (with_reducible first
        | assumption | apply ext_ite | apply errAt_ext | apply setLampGroup_ext | apply wrB_ext | apply groupOn_ext)
    | (extract_lets +onlyGivenNames x
       refine have hx : State.Ext s0 x := ?_; ?_
       (on_goal 2 => clear_value x)
       subst x)
    | (extract_lets +onlyGivenNames x; first | clear_value x | subst x)
    | split

theorem execGroupResume_ext (h : s0.Ext s) (src : Req) (g : Fin 4) : Res.Ext s0 (execGroupResume src g s) := by
  unfold execGroupResume
  repeat' first
    | (with_reducible first
        | assumption | apply res_next | apply res_ite | apply ext_ite | apply groupResume_ext)
    | split

theorem abortProbe_ext (h : s0.Ext s) (c : Nat) : s0.Ext (s.abortProbe c) := by
  unfold State.abortProbe
  repeat' first
    | (with_reducible first
        | assumption | apply ext_ite | apply count_ext | apply setLampCh_ext)
    | (extract_lets +onlyGivenNames x; first | clear_value x | subst x)
    | split

theorem lampsStop_ext (h : s0.Ext s) : s0.Ext s.lampsStop := by
  unfold State.lampsStop
  repeat' first
    | (with_reducible first
        | assumption | apply ext_ite | apply abortProbe_ext | apply sinksOff_ext | apply wrB_ext | apply setGroup_ext
        | apply intSet_ext)
    | (with_reducible apply ext_foldl; on_goal 2 => (intro t x ht; try beta_reduce))
    | (extract_lets +onlyGivenNames x
       refine have hx : State.Ext s0 x := ?_; ?_
       (on_goal 2 => clear_value x)
       subst x)
    | (extract_lets +onlyGivenNames x; have y : _ → State := x; clear y; subst x; beta_reduce)
    | (extract_lets +onlyGivenNames x; first | clear_value x | subst x)
    | split

theorem showDose_ext (h : s0.Ext s) (g : Nat) : s0.Ext (s.showDose g) := by
  unfold State.showDose
  repeat' first
    | (with_reducible first
        | assumption | apply ext_ite | apply wrB_ext | apply intSet_ext)
    | (with_reducible apply ext_foldl; on_goal 2 => (intro t x ht; try beta_reduce))
    | (extract_lets +onlyGivenNames x
       refine have hx : State.Ext s0 x := ?_; ?_
       (on_goal 2 => clear_value x)
       subst x)
    | (extract_lets +onlyGivenNames x; first | clear_value x | subst x)
    | split

theorem countUnqual_ext (h : s0.Ext s) (c : Nat) (qual : Bool) : s0.Ext (s.countUnqual c qual) := by
  unfold State.countUnqual
  repeat' first
    | (with_reducible first
        | assumption | rfl | apply ext_ite | apply setLampCh_ext | apply wrF_ext | apply intSet_ext)
    | (extract_lets +onlyGivenNames x
       refine have hx : State.Ext s0 x := ?_; ?_
       (on_goal 2 => clear_value x)
       subst x)
    | (extract_lets +onlyGivenNames x; first | clear_value x | subst x)
    | split
    | with_reducible apply ext_mk

theorem execLampPeriodStart_ext (h : s0.Ext s) (ch : Fin 64) (t : Nat) : Res.Ext s0 (execLampPeriodStart ch t s) := by
  unfold execLampPeriodStart
  repeat' first
    | (with_reducible first
        | assumption | rfl | apply res_next | apply res_ite | apply ext_ite | apply till_ext | apply wrB_ext
        | apply wr_ext | apply setLampCh_ext | apply emits_ext | apply showDose_ext | apply maskCut_ext
        | apply countUnqual_ext)
    | (with_reducible apply ext_foldl; on_goal 2 => (intro t x ht; try beta_reduce))
    | (extract_lets +onlyGivenNames x
       refine have hx : State.Ext s0 x := ?_; ?_
       (on_goal 2 => clear_value x)
       subst x)
    | (extract_lets +onlyGivenNames x; first | clear_value x | subst x)
    | (split; rename_i a b e
       refine have ha : State.Ext s0 a := (congrArg (fun q => State.Ext s0 q.1) e).mp ?_; ?_
       (on_goal 2 => clear e)
       beta_reduce)
    | (split; rename_i a b c e
       refine have ha : State.Ext s0 a := (congrArg (fun q => State.Ext s0 q.1) e).mp ?_; ?_
       (on_goal 2 => clear e)
       beta_reduce)
    | (with_reducible apply ext_foldl_fst; on_goal 2 => (intro q x hq; try beta_reduce))
    | split
    | with_reducible apply ext_mk

theorem lampTick_ext (h : s0.Ext s) (t : Nat) : s0.Ext (s.lampTick t) := by
  unfold State.lampTick
  repeat' first
    | (with_reducible first
        | assumption | rfl | apply ext_ite | apply cutPulses_ext | apply setLampCh_ext)
    | (with_reducible apply ext_foldl; on_goal 2 => (intro t x ht; try beta_reduce))
    | (extract_lets +onlyGivenNames x
       refine have hx : State.Ext s0 x := ?_; ?_
       (on_goal 2 => clear_value x)
       subst x)
    | (extract_lets +onlyGivenNames x; have y : _ → State := x; clear y; subst x; beta_reduce)
    | (extract_lets +onlyGivenNames x; first | clear_value x | subst x)
    | with_reducible apply ext_mk

theorem execHeadroomStep_ext (h : s0.Ext s) (g : Fin 4) (failures : Fin 4) :
    Res.Ext s0 (execHeadroomStep g failures s) := by
  unfold execHeadroomStep
  repeat' first
    | (with_reducible first
        | assumption | rfl | apply res_next | apply res_ite | apply ext_ite | apply pmbusFails_ext
        | apply setLampGroup_ext | apply wrF_ext | apply headroomFault_ext | apply slew_ext | apply setVout_ext
        | apply wr_ext)
    | (extract_lets +onlyGivenNames x
       refine have hx : State.Ext s0 x := ?_; ?_
       (on_goal 2 => clear_value x)
       subst x)
    | (extract_lets +onlyGivenNames x; first | clear_value x | subst x)
    | split
    | with_reducible apply ext_mk

theorem execBusMeasure_ext (h : s0.Ext s) (g : Fin 4) (vout iout failures t : Nat) :
    Res.Ext s0 (execBusMeasure g vout iout failures t s) := by
  unfold execBusMeasure
  repeat' first
    | (with_reducible first
        | assumption | apply res_next | apply res_ite | apply ext_ite | apply till_ext | apply pmbus_ext
        | apply pmbusFails_ext | apply wr_ext | apply wrF_ext | apply wrB_ext | apply intSet_ext)
    | (extract_lets +onlyGivenNames x
       refine have hx : State.Ext s0 x := ?_; ?_
       (on_goal 2 => clear_value x)
       subst x)
    | (extract_lets +onlyGivenNames x; first | clear_value x | subst x)
    | split

theorem latchLamp_ext (h : s0.Ext s) (c st : Nat) : s0.Ext (s.latchLamp c st) := by
  unfold State.latchLamp
  repeat' first
    | (with_reducible first
        | assumption | apply ext_ite | apply wrF_ext | apply sinkOff_ext | apply intSet_ext | apply wrB_ext
        | apply tally_ext | apply wr_ext)
    | (extract_lets +onlyGivenNames x
       refine have hx : State.Ext s0 x := ?_; ?_
       (on_goal 2 => clear_value x)
       subst x)
    | (extract_lets +onlyGivenNames x; first | clear_value x | subst x)

theorem execSinkSample_ext (h : s0.Ext s) (ch : Fin 64) (millivolts microamps : Nat) :
    Res.Ext s0 (execSinkSample ch millivolts microamps s) := by
  unfold execSinkSample
  repeat' first
    | (with_reducible first
        | assumption | rfl | apply res_next | apply res_ite | apply ext_ite | apply wrF_ext | apply setLampGroup_ext
        | apply setLampCh_ext | apply latchLamp_ext)
    | (extract_lets +onlyGivenNames x
       refine have hx : State.Ext s0 x := ?_; ?_
       (on_goal 2 => clear_value x)
       subst x)
    | (extract_lets +onlyGivenNames x; first | clear_value x | subst x)
    | split
    | with_reducible apply ext_mk

theorem startProbe_ext (h : s0.Ext s) (c t : Nat) : s0.Ext (s.startProbe c t) := by
  unfold State.startProbe
  repeat' first
    | (with_reducible first
        | assumption | rfl | apply ext_ite | apply setLampCh_ext | apply wrB_ext | apply emit_ext)
    | (extract_lets +onlyGivenNames x
       refine have hx : State.Ext s0 x := ?_; ?_
       (on_goal 2 => clear_value x)
       subst x)
    | (extract_lets +onlyGivenNames x; first | clear_value x | subst x)
    | with_reducible apply ext_mk

theorem execProbeInterval_ext (h : s0.Ext s) (g : Fin 4) (t : Nat) : Res.Ext s0 (execProbeInterval g t s) := by
  unfold execProbeInterval
  repeat' first
    | (with_reducible first
        | assumption | apply res_next | apply till_ext | apply startProbe_ext | apply setLampGroup_ext)
    | (extract_lets +onlyGivenNames x
       refine have hx : State.Ext s0 x := ?_; ?_
       (on_goal 2 => clear_value x)
       subst x)
    | (extract_lets +onlyGivenNames x; have y : _ → State := x; clear y; subst x; beta_reduce)
    | (extract_lets +onlyGivenNames x; first | clear_value x | subst x)
    | split

theorem probeNow_ext (h : s0.Ext s) (c t : Nat) : s0.Ext (s.probeNow c t) := by
  unfold State.probeNow
  repeat' first
    | (with_reducible first
        | assumption | apply ext_ite | apply startProbe_ext | apply setLampCh_ext)
    | (extract_lets +onlyGivenNames x; first | clear_value x | subst x)
    | split

theorem execProbeNow_ext (h : s0.Ext s) (src : Req) (ch : Fin 64) (t : Nat) :
    Res.Ext s0 (execProbeNow src ch t s) := by
  unfold execProbeNow
  repeat' first
    | (with_reducible first
        | assumption | apply res_next | apply res_ite | apply ext_ite | apply till_ext | apply probeNow_ext)
    | split

theorem execProbeComplete_ext (h : s0.Ext s) (ch : Fin 64) (millivolts microamps : Nat) :
    Res.Ext s0 (execProbeComplete ch millivolts microamps s) := by
  unfold execProbeComplete
  repeat' first
    | (with_reducible first
        | assumption | apply res_next | apply res_ite | apply ext_ite | apply setLampCh_ext | apply latchLamp_ext
        | apply wrF_ext)
    | (extract_lets +onlyGivenNames x
       refine have hx : State.Ext s0 x := ?_; ?_
       (on_goal 2 => clear_value x)
       subst x)
    | (extract_lets +onlyGivenNames x; first | clear_value x | subst x)
    | split

theorem execProbeAbort_ext (h : s0.Ext s) (ch : Fin 64) : Res.Ext s0 (execProbeAbort ch s) := by
  unfold execProbeAbort
  repeat' first
    | with_reducible first
      | assumption | apply res_next | apply abortProbe_ext

theorem execProbeBlocked_ext (h : s0.Ext s) (ch : Fin 64) : Res.Ext s0 (execProbeBlocked ch s) := by
  unfold execProbeBlocked
  repeat' first
    | (with_reducible first
        | assumption | apply res_next | apply res_ite | apply ext_ite | apply wrB_ext | apply intSet_ext)
    | (extract_lets +onlyGivenNames x; first | clear_value x | subst x)
    | split

theorem clearLamp_ext (h : s0.Ext s) (c : Nat) : s0.Ext (s.clearLamp c) := by
  unfold State.clearLamp
  repeat' first
    | (with_reducible first
        | assumption | apply ext_ite | apply wrB_ext | apply setLampCh_ext | apply wrF_ext | apply intSet_ext)
    | (extract_lets +onlyGivenNames x
       refine have hx : State.Ext s0 x := ?_; ?_
       (on_goal 2 => clear_value x)
       subst x)
    | split

theorem execClearLampFault_ext (h : s0.Ext s) (src : Req) (ch : Fin 64) :
    Res.Ext s0 (execClearLampFault src ch s) := by
  unfold execClearLampFault
  repeat' first
    | (with_reducible first
        | assumption | apply res_next | apply res_ite | apply ext_ite | apply clearLamp_ext)
    | split

theorem groupNtc_ext (h : s0.Ext s) (g : Nat) : s0.Ext (s.groupNtc g) := by
  unfold State.groupNtc
  repeat' first
    | (with_reducible first
        | assumption | apply ext_ite | apply intSet_ext | apply setGroup_ext | apply groupOn_ext)
    | split

theorem execNtcRead_ext (h : s0.Ext s) (g : Fin 4) (ohms : List (Option Nat)) :
    Res.Ext s0 (execNtcRead g ohms s) := by
  unfold execNtcRead
  repeat' first
    | (with_reducible first
        | assumption | apply res_next | apply res_ite | apply ext_ite | apply wr_ext | apply intSet_ext
        | apply dwellSample_ext | apply groupNtc_ext)
    | (with_reducible apply ext_foldl; on_goal 2 => (intro t x ht; try beta_reduce))
    | (extract_lets +onlyGivenNames x
       refine have hx : State.Ext s0 x := ?_; ?_
       (on_goal 2 => clear_value x)
       subst x)
    | (extract_lets +onlyGivenNames x; have y : _ → State := x; clear y; subst x; beta_reduce)
    | (extract_lets +onlyGivenNames x; first | clear_value x | subst x)
    | split

theorem setLampQueue_ext (h : s0.Ext s) (port : Nat) (q : List SeqEntry) : s0.Ext (s.setLampQueue port q) := by
  unfold State.setLampQueue
  repeat' first
    | (with_reducible first
        | assumption | rfl | apply wrF_ext)
    | (extract_lets +onlyGivenNames x
       refine have hx : State.Ext s0 x := ?_; ?_
       (on_goal 2 => clear_value x)
       subst x)
    | (extract_lets +onlyGivenNames x; first | clear_value x | subst x)
    | with_reducible apply ext_mk

theorem lampAdd_ext (h : s0.Ext s) (port : Nat) (e : SeqEntry) : s0.Ext (s.lampAdd port e).1 := by
  unfold State.lampAdd
  repeat' first
    | (with_reducible first
        | assumption | apply ext_ite | apply ext_fst_ite | apply intSet_ext | apply setLampQueue_ext)
    | split

theorem lampPush_ext (h : s0.Ext s) (src : Req) : s0.Ext (s.lampPush src) := by
  unfold State.lampPush
  repeat' first
    | (with_reducible first
        | assumption | apply ext_ite | apply errAt_ext | apply lampAdd_ext | apply intSet_ext)
    | (extract_lets +onlyGivenNames x; have y : _ → State := x; clear y; subst x; beta_reduce)
    | (extract_lets +onlyGivenNames x; first | clear_value x | subst x)
    | (split; rename_i a b e
       refine have ha : State.Ext s0 a := (congrArg (fun q => State.Ext s0 q.1) e).mp ?_; ?_
       (on_goal 2 => clear e)
       beta_reduce)
    | (split; rename_i a b c e
       refine have ha : State.Ext s0 a := (congrArg (fun q => State.Ext s0 q.1) e).mp ?_; ?_
       (on_goal 2 => clear e)
       beta_reduce)
    | split

theorem execLampPush_ext (h : s0.Ext s) (src : Req) : Res.Ext s0 (execLampPush src s) := by
  unfold execLampPush
  repeat' first
    | (with_reducible first
        | assumption | apply res_next | apply res_ite | apply ext_ite | apply lampPush_ext)
    | split

theorem lampMismatch_ext (h : s0.Ext s) (n : Nat) : s0.Ext (s.lampMismatch n) := by
  unfold State.lampMismatch
  repeat' first
    | (with_reducible first
        | assumption | apply ext_ite | apply intSet_ext | apply wr_ext)
    | split

theorem lampFlush_ext (h : s0.Ext s) (port : Nat) : s0.Ext (s.lampFlush port) := by
  unfold State.lampFlush
  repeat' first
    | with_reducible first
      | assumption | apply lampMismatch_ext | apply setLampQueue_ext

theorem execLampFlush_ext (h : s0.Ext s) (src : Req) (port : Fin 2) : Res.Ext s0 (execLampFlush src port s) := by
  unfold execLampFlush
  repeat' first
    | (with_reducible first
        | assumption | apply res_next | apply res_ite | apply ext_ite | apply lampFlush_ext)
    | split

theorem lampDiscard_ext (h : s0.Ext s) (port : Nat) : s0.Ext (s.lampDiscard port) := by
  unfold State.lampDiscard
  repeat' first
    | with_reducible first
      | assumption | apply setLampQueue_ext

theorem keepMask_ext (h : s0.Ext s) (port expNs t : Nat) : s0.Ext (s.keepMask port expNs t) := by
  unfold State.keepMask
  repeat' first
    | (with_reducible first
        | assumption | rfl | apply ext_ite | apply frc_ext)
    | (extract_lets +onlyGivenNames x
       refine have hx : State.Ext s0 x := ?_; ?_
       (on_goal 2 => clear_value x)
       subst x)
    | (extract_lets +onlyGivenNames x; first | clear_value x | subst x)
    | with_reducible apply ext_mk

theorem driveStrobe_ext (h : s0.Ext s) (c from_ w code : Nat) : s0.Ext (s.driveStrobe c from_ w code) := by
  unfold State.driveStrobe
  repeat' first
    | (with_reducible first
        | assumption | rfl | apply ext_ite | apply setLampCh_ext | apply wr_ext | apply emit_ext)
    | (extract_lets +onlyGivenNames x
       refine have hx : State.Ext s0 x := ?_; ?_
       (on_goal 2 => clear_value x)
       subst x)
    | (extract_lets +onlyGivenNames x; first | clear_value x | subst x)
    | with_reducible apply ext_mk

theorem strobe_ext (h : s0.Ext s) (port plan expNs t : Nat) : s0.Ext (s.strobe port plan expNs t).1 := by
  unfold State.strobe
  repeat' first
    | (with_reducible first
        | assumption | apply ext_ite | apply ext_fst_ite | apply keepMask_ext | apply maskCut_ext
        | apply lampMismatch_ext | apply setLampQueue_ext | apply count_ext | apply intSet_ext | apply driveStrobe_ext
        | apply wr_ext | apply emits_ext)
    | (with_reducible apply ext_foldl; on_goal 2 => (intro t x ht; try beta_reduce))
    | (extract_lets +onlyGivenNames x
       refine have hx : State.Ext s0 x := ?_; ?_
       (on_goal 2 => clear_value x)
       subst x)
    | (extract_lets +onlyGivenNames x; have y : _ → State := x; clear y; subst x; beta_reduce)
    | (extract_lets +onlyGivenNames x; first | clear_value x | subst x)
    | split

/-! ## Machine/Camera -/

theorem setCamPort_ext (h : s0.Ext s) (p : Nat) (x : CamPort) : s0.Ext (s.setCamPort p x) := by
  unfold State.setCamPort
  repeat' first
    | (with_reducible first
        | assumption | rfl)
    | (extract_lets +onlyGivenNames x; first | clear_value x | subst x)
    | with_reducible apply ext_mk

theorem modCamPort_ext (h : s0.Ext s) (p : Nat) (f : CamPort → CamPort) : s0.Ext (s.modCamPort p f) := by
  unfold State.modCamPort
  repeat' first
    | with_reducible first
      | assumption | apply setCamPort_ext

theorem setCamSt_ext (h : s0.Ext s) (p st : Nat) : s0.Ext (s.setCamSt p st) := by
  unfold State.setCamSt
  repeat' first
    | with_reducible first
      | assumption | apply fault_ext | apply ready_ext | apply setStCode_ext

theorem camTransmit_ext (h : s0.Ext s) (p : Nat) (bs : List (Nat × Nat)) : s0.Ext (s.camTransmit p bs) := by
  unfold State.camTransmit
  repeat' first
    | (with_reducible first
        | assumption | rfl | apply ext_ite | apply modCamPort_ext | apply emit_ext)
    | (extract_lets +onlyGivenNames x
       refine have hx : State.Ext s0 x := ?_; ?_
       (on_goal 2 => clear_value x)
       subst x)
    | (extract_lets +onlyGivenNames x; first | clear_value x | subst x)
    | with_reducible apply ext_mk

theorem linkErrs_ext (h : s0.Ext s) (p n : Nat) : s0.Ext (s.linkErrs p n) := by
  unfold State.linkErrs
  repeat' first
    | (with_reducible first
        | assumption | apply ext_ite | apply wr_ext)
    | (extract_lets +onlyGivenNames x
       refine have hx : State.Ext s0 x := ?_; ?_
       (on_goal 2 => clear_value x)
       subst x)
    | (extract_lets +onlyGivenNames x; first | clear_value x | subst x)
    | split

theorem showActive_ext (h : s0.Ext s) : s0.Ext s.showActive := by
  unfold State.showActive
  repeat' first
    | with_reducible first
      | assumption | apply wrF_ext

theorem showFifo_ext (h : s0.Ext s) (p : Nat) : s0.Ext (s.showFifo p) := by
  unfold State.showFifo
  repeat' first
    | (with_reducible first
        | assumption | apply ext_ite | apply wr_ext | apply intSet_ext)
    | (extract_lets +onlyGivenNames x
       refine have hx : State.Ext s0 x := ?_; ?_
       (on_goal 2 => clear_value x)
       subst x)
    | (extract_lets +onlyGivenNames x; first | clear_value x | subst x)
    | split

theorem dropFrame_ext (h : s0.Ext s) (p v cause : Nat) : s0.Ext (s.dropFrame p v cause) := by
  unfold State.dropFrame
  repeat' first
    | (with_reducible first
        | assumption | rfl | apply ext_ite | apply setCamPort_ext | apply count_ext | apply wr_ext
        | apply loseTrigger_ext | apply intSet_ext | apply showFifo_ext | apply showActive_ext)
    | (extract_lets +onlyGivenNames x
       refine have hx : State.Ext s0 x := ?_; ?_
       (on_goal 2 => clear_value x)
       subst x)
    | (extract_lets +onlyGivenNames x; first | clear_value x | subst x)
    | split
    | with_reducible apply ext_mk

theorem dropAll_ext (h : s0.Ext s) (p cause : Nat) : s0.Ext (s.dropAll p cause) := by
  unfold State.dropAll
  repeat' first
    | (with_reducible first
        | assumption | apply dropFrame_ext)
    | (with_reducible apply ext_foldl; on_goal 2 => (intro t x ht; try beta_reduce))

theorem applyMap_ext (h : s0.Ext s) (p : Nat) : s0.Ext (s.applyMap p) := by
  unfold State.applyMap
  repeat' first
    | (with_reducible first
        | assumption | apply modCamPort_ext | apply applyPage_ext)
    | (extract_lets +onlyGivenNames x; first | clear_value x | subst x)

theorem applyCtx_ext (h : s0.Ext s) (k : Nat) : s0.Ext (s.applyCtx k) := by
  unfold State.applyCtx
  repeat' first
    | (with_reducible first
        | assumption | rfl | apply ext_ite | apply applyPage_ext | apply wrB_ext)
    | (extract_lets +onlyGivenNames x
       refine have hx : State.Ext s0 x := ?_; ?_
       (on_goal 2 => clear_value x)
       subst x)
    | (extract_lets +onlyGivenNames x; first | clear_value x | subst x)
    | split
    | with_reducible apply ext_mk

theorem frameApplies_ext (h : s0.Ext s) (p f : Nat) : s0.Ext (s.frameApplies p f) := by
  unfold State.frameApplies
  repeat' first
    | (with_reducible first
        | assumption | apply ext_ite | apply applyMap_ext | apply applyPage_ext)
    | (extract_lets +onlyGivenNames x
       refine have hx : State.Ext s0 x := ?_; ?_
       (on_goal 2 => clear_value x)
       subst x)
    | split

theorem losePort_ext (h : s0.Ext s) (p : Nat) : s0.Ext (s.losePort p) := by
  unfold State.losePort
  repeat' first
    | (with_reducible first
        | assumption | apply ext_ite | apply loseTrigger_ext)
    | (with_reducible apply ext_foldl; on_goal 2 => (intro t x ht; try beta_reduce))
    | (extract_lets +onlyGivenNames x
       refine have hx : State.Ext s0 x := ?_; ?_
       (on_goal 2 => clear_value x)
       subst x)
    | (extract_lets +onlyGivenNames x; have y : _ → State := x; clear y; subst x; beta_reduce)
    | (extract_lets +onlyGivenNames x; first | clear_value x | subst x)

theorem camLeave_ext (h : s0.Ext s) (p st : Nat) : s0.Ext (s.camLeave p st) := by
  unfold State.camLeave
  repeat' first
    | (with_reducible first
        | assumption | apply ext_ite | apply dropAll_ext | apply setCamSt_ext | apply modCamPort_ext)
    | (extract_lets +onlyGivenNames x
       refine have hx : State.Ext s0 x := ?_; ?_
       (on_goal 2 => clear_value x)
       subst x)
    | split

theorem camPower_ext (h : s0.Ext s) (p : Nat) (on : Bool) : s0.Ext (s.camPower p on) := by
  unfold State.camPower
  repeat' first
    | (with_reducible first
        | assumption | apply ext_ite | apply emit_ext | apply wrB_ext)
    | split

theorem camEnable_ext (h : s0.Ext s) (p : Nat) : s0.Ext (s.camEnable p) := by
  unfold State.camEnable
  repeat' first
    | (with_reducible first
        | assumption | apply ext_ite | apply camPower_ext | apply camTransmit_ext | apply setCamSt_ext)
    | split

theorem execCameraPortEnable_ext (h : s0.Ext s) (src : Req) (p : Fin 2) :
    Res.Ext s0 (execCameraPortEnable src p s) := by
  unfold execCameraPortEnable
  repeat' first
    | (with_reducible first
        | assumption | apply res_next | apply res_ite | apply ext_ite | apply wrB_ext | apply camEnable_ext)
    | split

theorem camDisable_ext (h : s0.Ext s) (p : Nat) : s0.Ext (s.camDisable p) := by
  unfold State.camDisable
  repeat' first
    | (with_reducible first
        | assumption | apply wrB_ext | apply camPower_ext | apply camLeave_ext | apply wrF_ext | apply modCamPort_ext)
    | (extract_lets +onlyGivenNames x
       refine have hx : State.Ext s0 x := ?_; ?_
       (on_goal 2 => clear_value x)
       subst x)

theorem execCameraPortDisable_ext (h : s0.Ext s) (src : Req) (p : Fin 2) :
    Res.Ext s0 (execCameraPortDisable src p s) := by
  unfold execCameraPortDisable
  repeat' first
    | (with_reducible first
        | assumption | apply res_next | apply res_ite | apply ext_ite | apply wrB_ext | apply camDisable_ext)
    | split

theorem execPowerSettle_ext (h : s0.Ext s) (p : Fin 2) (milliamps : Nat) :
    Res.Ext s0 (execPowerSettle p milliamps s) := by
  unfold execPowerSettle
  repeat' first
    | (with_reducible first
        | assumption | apply res_next | apply res_ite | apply ext_ite | apply wrF_ext | apply wrB_ext
        | apply setCamSt_ext)
    | split

theorem execPowerFault_ext (h : s0.Ext s) (p : Fin 2) (milliamps : Nat) :
    Res.Ext s0 (execPowerFault p milliamps s) := by
  unfold execPowerFault
  repeat' first
    | (with_reducible first
        | assumption | apply res_next | apply res_ite | apply ext_ite | apply wrF_ext | apply wrB_ext
        | apply camPower_ext | apply camLeave_ext | apply intSet_ext)
    | (extract_lets +onlyGivenNames x
       refine have hx : State.Ext s0 x := ?_; ?_
       (on_goal 2 => clear_value x)
       subst x)
    | (extract_lets +onlyGivenNames x; first | clear_value x | subst x)
    | split

theorem execLinkTimeout_ext (h : s0.Ext s) (p : Fin 2) : Res.Ext s0 (execLinkTimeout p s) := by
  unfold execLinkTimeout
  repeat' first
    | (with_reducible first
        | assumption | apply res_next | apply res_ite | apply ext_ite | apply intSet_ext)
    | split

theorem camLaneBlocks_ext (h : s0.Ext s) (p lane : Nat) (blocks : List (Nat × Nat)) :
    s0.Ext (s.camLaneBlocks p lane blocks) := by
  unfold State.camLaneBlocks
  repeat' first
    | (with_reducible first
        | assumption | rfl | apply ext_ite | apply modCamPort_ext | apply linkErrs_ext)
    | (extract_lets +onlyGivenNames x
       refine have hx : State.Ext s0 x := ?_; ?_
       (on_goal 2 => clear_value x)
       subst x)
    | (extract_lets +onlyGivenNames x; first | clear_value x | subst x)
    | with_reducible apply ext_mk

theorem camLockGained_ext (h : s0.Ext s) (p lane : Nat) (blocks : List (Nat × Nat)) :
    s0.Ext (s.camLockGained p lane blocks) := by
  unfold State.camLockGained
  repeat' first
    | (with_reducible first
        | assumption | rfl | apply ext_ite | apply camLaneBlocks_ext | apply modCamPort_ext | apply wrB_ext
        | apply setCamSt_ext)
    | (extract_lets +onlyGivenNames x
       refine have hx : State.Ext s0 x := ?_; ?_
       (on_goal 2 => clear_value x)
       subst x)
    | (extract_lets +onlyGivenNames x; first | clear_value x | subst x)
    | split
    | with_reducible apply ext_mk

theorem camDown_ext (h : s0.Ext s) (p : Nat) : s0.Ext (s.camDown p) := by
  unfold State.camDown
  repeat' first
    | with_reducible first
      | assumption | apply camLeave_ext | apply intSet_ext

theorem camLockLost_ext (h : s0.Ext s) (p lane errs : Nat) : s0.Ext (s.camLockLost p lane errs) := by
  unfold State.camLockLost
  repeat' first
    | (with_reducible first
        | assumption | rfl | apply ext_ite | apply linkErrs_ext | apply modCamPort_ext | apply wrB_ext
        | apply camDown_ext | apply wr_ext)
    | (extract_lets +onlyGivenNames x
       refine have hx : State.Ext s0 x := ?_; ?_
       (on_goal 2 => clear_value x)
       subst x)
    | (extract_lets +onlyGivenNames x; first | clear_value x | subst x)
    | split
    | with_reducible apply ext_mk

theorem camAlign_ext (h : s0.Ext s) (p : Nat) (blocks : List (Nat × Nat)) (skew : Nat) :
    s0.Ext (s.camAlign p blocks skew) := by
  unfold State.camAlign
  repeat' first
    | (with_reducible first
        | assumption | rfl | apply ext_ite | apply modCamPort_ext | apply linkErrs_ext | apply wrF_ext
        | apply count_ext | apply setCamSt_ext | apply intSet_ext)
    | (extract_lets +onlyGivenNames x
       refine have hx : State.Ext s0 x := ?_; ?_
       (on_goal 2 => clear_value x)
       subst x)
    | (extract_lets +onlyGivenNames x; first | clear_value x | subst x)
    | split
    | with_reducible apply ext_mk

theorem execAlignTimeout_ext (h : s0.Ext s) (p : Fin 2) : Res.Ext s0 (execAlignTimeout p s) := by
  unfold execAlignTimeout
  repeat' first
    | (with_reducible first
        | assumption | apply wrF_ext | apply modCamPort_ext | apply res_next | apply res_ite | apply ext_ite | apply camDown_ext)
    | split

theorem cciGo_ext (h : s0.Ext s) (src : Req) (p : Nat) : s0.Ext (s.cciGo src p) := by
  unfold State.cciGo
  repeat' first
    | (with_reducible first
        | assumption | rfl | apply ext_ite | apply errAt_ext | apply modCamPort_ext | apply wrF_ext | apply emit_ext
        | apply camTransmit_ext)
    | (extract_lets +onlyGivenNames x
       refine have hx : State.Ext s0 x := ?_; ?_
       (on_goal 2 => clear_value x)
       subst x)
    | (extract_lets +onlyGivenNames x; first | clear_value x | subst x)
    | split
    | with_reducible apply ext_mk

theorem execCciGo_ext (h : s0.Ext s) (src : Req) (p : Fin 2) : Res.Ext s0 (execCciGo src p s) := by
  unfold execCciGo
  repeat' first
    | (with_reducible first
        | assumption | apply res_next | apply res_ite | apply ext_ite | apply cciGo_ext)
    | split

theorem execCciReply_ext (h : s0.Ext s) (p : Fin 2) (block : Nat) : Res.Ext s0 (execCciReply p block s) := by
  unfold execCciReply
  repeat' first
    | (with_reducible first
        | assumption | rfl | apply res_next | apply res_ite | apply ext_ite | apply linkErrs_ext
        | apply modCamPort_ext | apply wrF_ext | apply intSet_ext)
    | (extract_lets +onlyGivenNames x
       refine have hx : State.Ext s0 x := ?_; ?_
       (on_goal 2 => clear_value x)
       subst x)
    | (extract_lets +onlyGivenNames x; first | clear_value x | subst x)
    | split
    | with_reducible apply ext_mk

theorem execCciTimeout_ext (h : s0.Ext s) (p : Fin 2) : Res.Ext s0 (execCciTimeout p s) := by
  unfold execCciTimeout
  repeat' first
    | (with_reducible first
        | assumption | apply res_next | apply res_ite | apply ext_ite | apply intSet_ext | apply wrF_ext
        | apply modCamPort_ext)
    | (extract_lets +onlyGivenNames x; first | clear_value x | subst x)
    | split

theorem skipTrigger_ext (h : s0.Ext s) (p cause plan : Nat) : s0.Ext (s.skipTrigger p cause plan) := by
  unfold State.skipTrigger
  repeat' first
    | (with_reducible first
        | assumption | apply ext_ite | apply loseTrigger_ext | apply count_ext | apply wr_ext | apply intSet_ext)
    | (extract_lets +onlyGivenNames x
       refine have hx : State.Ext s0 x := ?_; ?_
       (on_goal 2 => clear_value x)
       subst x)
    | (extract_lets +onlyGivenNames x; first | clear_value x | subst x)
    | split

theorem trigger_ext (h : s0.Ext s) (p : Nat) (entry : Option (Nat × Nat)) (t : Nat) :
    s0.Ext (s.trigger p entry t) := by
  unfold State.trigger
  repeat' first
    | (with_reducible first
        | assumption | rfl | apply ext_ite | apply skipTrigger_ext | apply busy_ext | apply lampDiscard_ext
        | apply abortProbe_ext | apply strobe_ext | apply frc_ext | apply modCamPort_ext | apply wr_ext
        | apply emits_ext | apply camTransmit_ext | apply emit_ext)
    | (with_reducible apply ext_foldl; on_goal 2 => (intro t x ht; try beta_reduce))
    | (extract_lets +onlyGivenNames x
       refine have hx : State.Ext s0 x := ?_; ?_
       (on_goal 2 => clear_value x)
       subst x)
    | (extract_lets +onlyGivenNames x; first | clear_value x | subst x)
    | (split; rename_i a b e
       refine have ha : State.Ext s0 a := (congrArg (fun q => State.Ext s0 q.1) e).mp ?_; ?_
       (on_goal 2 => clear e)
       beta_reduce)
    | (split; rename_i a b c e
       refine have ha : State.Ext s0 a := (congrArg (fun q => State.Ext s0 q.1) e).mp ?_; ?_
       (on_goal 2 => clear e)
       beta_reduce)
    | (with_reducible apply ext_foldl_fst; on_goal 2 => (intro q x hq; try beta_reduce))
    | split
    | with_reducible apply ext_mk

theorem execTriggerRecordTimeout_ext (h : s0.Ext s) (p : Fin 2) : Res.Ext s0 (execTriggerRecordTimeout p s) := by
  unfold execTriggerRecordTimeout
  repeat' first
    | (with_reducible first
        | assumption | rfl | apply res_next | apply res_ite | apply ext_ite | apply modCamPort_ext
        | apply loseTrigger_ext | apply wr_ext | apply intSet_ext)
    | (extract_lets +onlyGivenNames x
       refine have hx : State.Ext s0 x := ?_; ?_
       (on_goal 2 => clear_value x)
       subst x)
    | (extract_lets +onlyGivenNames x; first | clear_value x | subst x)
    | split
    | with_reducible apply ext_mk

theorem bind_ext (h : s0.Ext s) (p v num : Nat) : s0.Ext (s.bind p v num).1 := by
  unfold State.bind
  repeat' first
    | (with_reducible first
        | assumption | apply ext_ite | apply ext_fst_ite | apply setCamPort_ext)
    | (extract_lets +onlyGivenNames x; first | clear_value x | subst x)
    | split

theorem frameStart_ext (h : s0.Ext s) (p v num : Nat) : s0.Ext (s.frameStart p v num) := by
  unfold State.frameStart
  repeat' first
    | (with_reducible first
        | assumption | rfl | apply ext_ite | apply frameApplies_ext | apply dropFrame_ext | apply modCamPort_ext
        | apply count_ext | apply bind_ext | apply applyCtx_ext | apply wr_ext | apply intSet_ext | apply frc_ext
        | apply showActive_ext)
    | (extract_lets +onlyGivenNames x
       refine have hx : State.Ext s0 x := ?_; ?_
       (on_goal 2 => clear_value x)
       subst x)
    | (extract_lets +onlyGivenNames x; first | clear_value x | subst x)
    | (split; rename_i a b e
       refine have ha : State.Ext s0 a := (congrArg (fun q => State.Ext s0 q.1) e).mp ?_; ?_
       (on_goal 2 => clear e)
       beta_reduce)
    | (split; rename_i a b c e
       refine have ha : State.Ext s0 a := (congrArg (fun q => State.Ext s0 q.1) e).mp ?_; ?_
       (on_goal 2 => clear e)
       beta_reduce)
    | split
    | with_reducible apply ext_mk

theorem headerFix_ext (h : s0.Ext s) (p : Nat) (corrected : Bool) : s0.Ext (s.headerFix p corrected) := by
  unfold State.headerFix
  repeat' first
    | (with_reducible first
        | assumption | apply ext_ite | apply count_ext)
    | split

theorem execFrameStart_ext (h : s0.Ext s) (p : Fin 2) (vc : Fin 16) (num : Nat) (corrected : Bool) (t : Nat) :
    Res.Ext s0 (execFrameStart p vc num corrected t s) := by
  unfold execFrameStart
  repeat' first
    | (with_reducible first
        | assumption | apply res_next | apply res_ite | apply ext_ite | apply till_ext | apply headerFix_ext
        | apply frameStart_ext | apply wr_ext)

theorem frameFinish_ext (h : s0.Ext s) (p id : Nat) : s0.Ext (s.frameFinish p id) := by
  unfold State.frameFinish
  repeat' first
    | (with_reducible first
        | assumption | rfl | apply ext_ite | apply setCamPort_ext | apply showActive_ext)
    | (extract_lets +onlyGivenNames x
       refine have hx : State.Ext s0 x := ?_; ?_
       (on_goal 2 => clear_value x)
       subst x)
    | (extract_lets +onlyGivenNames x; first | clear_value x | subst x)
    | split
    | with_reducible apply ext_mk

theorem modFrame_ext (h : s0.Ext s) (p v : Nat) (g : CamFrame → CamFrame) : s0.Ext (s.modFrame p v g) := by
  unfold State.modFrame
  repeat' first
    | (with_reducible first
        | assumption | apply ext_ite | apply modCamPort_ext)
    | split

theorem lineMark_ext (h : s0.Ext s) (p v : Nat) (start : Bool) (f : CamFrame) : s0.Ext (s.lineMark p v start f) := by
  unfold State.lineMark
  repeat' first
    | (with_reducible first
        | assumption | rfl | apply ext_ite | apply dropFrame_ext | apply modFrame_ext)
    | split
    | with_reducible apply ext_mk

theorem linePut_ext (h : s0.Ext s) (p v : Nat) (k : CamPacket) (f : CamFrame) : s0.Ext (s.linePut p v k f) := by
  unfold State.linePut
  repeat' first
    | (with_reducible first
        | assumption | rfl | apply ext_ite | apply dropFrame_ext | apply modCamPort_ext | apply modFrame_ext
        | apply showFifo_ext)
    | (extract_lets +onlyGivenNames x
       refine have hx : State.Ext s0 x := ?_; ?_
       (on_goal 2 => clear_value x)
       subst x)
    | (extract_lets +onlyGivenNames x; have y : _ → State := x; clear y; subst x; beta_reduce)
    | (extract_lets +onlyGivenNames x; first | clear_value x | subst x)
    | split
    | with_reducible apply ext_mk

theorem frameEnd_ext (h : s0.Ext s) (p v : Nat) : s0.Ext (s.frameEnd p v) := by
  unfold State.frameEnd
  repeat' first
    | (with_reducible first
        | assumption | rfl | apply ext_ite | apply count_ext | apply dropFrame_ext | apply modCamPort_ext
        | apply frameFinish_ext | apply showActive_ext)
    | (extract_lets +onlyGivenNames x
       refine have hx : State.Ext s0 x := ?_; ?_
       (on_goal 2 => clear_value x)
       subst x)
    | (extract_lets +onlyGivenNames x; first | clear_value x | subst x)
    | split
    | with_reducible apply ext_mk

theorem execFrameEnd_ext (h : s0.Ext s) (p : Fin 2) (vc : Fin 16) (num : Nat) (corrected : Bool) :
    Res.Ext s0 (execFrameEnd p vc num corrected s) := by
  unfold execFrameEnd
  repeat' first
    | (with_reducible first
        | assumption | apply res_next | apply res_ite | apply ext_ite | apply headerFix_ext | apply frameEnd_ext)

theorem packet_ext (h : s0.Ext s) (p : Nat) (k : CamPacket) : s0.Ext (s.packet p k) := by
  unfold State.packet
  repeat' first
    | (with_reducible first
        | assumption | apply ext_ite | apply frameStart_ext | apply frameEnd_ext | apply count_ext
        | apply lineMark_ext | apply linePut_ext)
    | (extract_lets +onlyGivenNames x
       refine have hx : State.Ext s0 x := ?_; ?_
       (on_goal 2 => clear_value x)
       subst x)
    | (extract_lets +onlyGivenNames x; first | clear_value x | subst x)
    | split

theorem execLinePacket_ext (h : s0.Ext s) (p : Fin 2) (pkt : CamPacket) : Res.Ext s0 (execLinePacket p pkt s) := by
  unfold execLinePacket
  repeat' first
    | (with_reducible first
        | assumption | apply res_next | apply res_ite | apply ext_ite | apply linkErrs_ext | apply dropFrame_ext
        | apply dropAll_ext | apply headerFix_ext | apply packet_ext)
    | (extract_lets +onlyGivenNames x
       refine have hx : State.Ext s0 x := ?_; ?_
       (on_goal 2 => clear_value x)
       subst x)
    | (extract_lets +onlyGivenNames x; first | clear_value x | subst x)
    | split

theorem execFrameTimeout_ext (h : s0.Ext s) (p : Fin 2) (vc : Fin 16) : Res.Ext s0 (execFrameTimeout p vc s) := by
  unfold execFrameTimeout
  repeat' first
    | with_reducible first
      | assumption | apply res_next | apply dropFrame_ext

theorem execIspLine_ext (h : s0.Ext s) (p : Fin 2) : Res.Ext s0 (execIspLine p s) := by
  unfold execIspLine
  repeat' first
    | (with_reducible first
        | assumption | rfl | apply res_next | apply res_ite | apply ext_ite | apply modCamPort_ext | apply busy_ext
        | apply frc_ext | apply wr64_ext | apply showFifo_ext | apply frameFinish_ext)
    | (extract_lets +onlyGivenNames x
       refine have hx : State.Ext s0 x := ?_; ?_
       (on_goal 2 => clear_value x)
       subst x)
    | (extract_lets +onlyGivenNames x; first | clear_value x | subst x)
    | split
    | with_reducible apply ext_mk

theorem execIspTableSyncDone_ext (h : s0.Ext s) (ctx : Fin 16) : Res.Ext s0 (execIspTableSyncDone ctx s) := by
  unfold execIspTableSyncDone
  repeat' first
    | with_reducible first
      | assumption | apply res_next | apply wrB_ext

/-! ## Machine/Isp -/

theorem writeOutput_ext (h : s0.Ext s) (f : CamFrame) : s0.Ext (s.writeOutput f).1 := by
  unfold State.writeOutput
  repeat' first
    | (with_reducible first
        | assumption | rfl | apply ext_ite | apply ext_fst_ite | apply dramWrite_ext | apply memWrite_ext)
    | (extract_lets +onlyGivenNames x
       refine have hx : State.Ext s0 x := ?_; ?_
       (on_goal 2 => clear_value x)
       subst x)
    | (extract_lets +onlyGivenNames x; first | clear_value x | subst x)
    | split
    | with_reducible apply ext_mk

theorem showRecords_ext (h : s0.Ext s) : s0.Ext s.showRecords := by
  unfold State.showRecords
  repeat' first
    | (with_reducible first
        | assumption | apply ext_ite | apply intSet_ext)
    | (extract_lets +onlyGivenNames x; first | clear_value x | subst x)
    | split

theorem execStatsRecordPublish_ext (h : s0.Ext s) (ctx : Fin 16) : Res.Ext s0 (execStatsRecordPublish ctx s) := by
  unfold execStatsRecordPublish
  repeat' first
    | (with_reducible first
        | assumption | rfl | apply res_next | apply res_ite | apply ext_ite | apply count_ext | apply intSet_ext
        | apply loseTrigger_ext | apply writeOutput_ext | apply dramWrite_ext | apply wr_ext | apply showRecords_ext
        | apply memWrite_ext)
    | (extract_lets +onlyGivenNames x
       refine have hx : State.Ext s0 x := ?_; ?_
       (on_goal 2 => clear_value x)
       subst x)
    | (extract_lets +onlyGivenNames x; first | clear_value x | subst x)
    | (split; rename_i a b e
       refine have ha : State.Ext s0 a := (congrArg (fun q => State.Ext s0 q.1) e).mp ?_; ?_
       (on_goal 2 => clear e)
       beta_reduce)
    | (split; rename_i a b c e
       refine have ha : State.Ext s0 a := (congrArg (fun q => State.Ext s0 q.1) e).mp ?_; ?_
       (on_goal 2 => clear e)
       beta_reduce)
    | split
    | with_reducible apply ext_mk

theorem readIdxHost_ext (h : s0.Ext s) (src : Req) (data : Nat) : s0.Ext (s.readIdxHost src data) := by
  unfold State.readIdxHost
  repeat' first
    | (with_reducible first
        | assumption | apply ext_ite | apply errAt_ext | apply showRecords_ext | apply wr_ext)
    | (extract_lets +onlyGivenNames x; first | clear_value x | subst x)
    | split

theorem execReadIdxHostWrite_ext (h : s0.Ext s) (src : Req) (data : Nat) :
    Res.Ext s0 (execReadIdxHostWrite src data s) := by
  unfold execReadIdxHostWrite
  repeat' first
    | (with_reducible first
        | assumption | apply res_next | apply res_ite | apply ext_ite | apply readIdxHost_ext)
    | split

/-! ## Machine/Strip -/

theorem showScaler_ext (h : s0.Ext s) : s0.Ext s.showScaler := by
  unfold State.showScaler
  repeat' first
    | (with_reducible first
        | assumption | apply ext_ite | apply setStCode_ext)
    | split

theorem latchCfg_ext (h : s0.Ext s) : s0.Ext s.latchCfg := by
  unfold State.latchCfg
  repeat' first
    | (with_reducible first
        | assumption | rfl | apply ext_ite)
    | with_reducible apply ext_mk

theorem armTrigger_ext (h : s0.Ext s) (strip u line : Nat) : s0.Ext (s.armTrigger strip u line) := by
  unfold State.armTrigger
  repeat' first
    | (with_reducible first
        | assumption | rfl | apply ext_ite | apply drew_ext | apply errHw_ext | apply stripSkip_ext
        | apply planAdd_ext | apply lampAdd_ext | apply setTimer_ext | apply setTimerSt_ext | apply timerCut_ext
        | apply showPending_ext | apply wrF_ext)
    | (extract_lets +onlyGivenNames x
       refine have hx : State.Ext s0 x := ?_; ?_
       (on_goal 2 => clear_value x)
       subst x)
    | (extract_lets +onlyGivenNames x; first | clear_value x | subst x)
    | split
    | with_reducible apply ext_mk

theorem stripAdmit_ext (h : s0.Ext s) (line : Nat) : s0.Ext (s.stripAdmit line) := by
  unfold State.stripAdmit
  repeat' first
    | (with_reducible first
        | assumption | apply ext_ite | apply wr_ext | apply latchCfg_ext | apply armTrigger_ext)
    | (with_reducible apply ext_foldl; on_goal 2 => (intro t x ht; try beta_reduce))
    | (extract_lets +onlyGivenNames x
       refine have hx : State.Ext s0 x := ?_; ?_
       (on_goal 2 => clear_value x)
       subst x)
    | (extract_lets +onlyGivenNames x; have y : _ → State := x; clear y; subst x; beta_reduce)
    | (extract_lets +onlyGivenNames x; first | clear_value x | subst x)
    | split

theorem stripsAnew_ext (h : s0.Ext s) : s0.Ext s.stripsAnew := by
  unfold State.stripsAnew
  repeat' first
    | (with_reducible first
        | assumption | rfl | apply ext_ite)
    | with_reducible apply ext_mk

theorem stripBegin_ext (h : s0.Ext s) (start : Nat) : s0.Ext (s.stripBegin start) := by
  unfold State.stripBegin
  repeat' first
    | (with_reducible first
        | assumption | apply ext_ite | apply wr_ext | apply stripsAnew_ext | apply stripSkip_ext)
    | (with_reducible apply ext_foldl; on_goal 2 => (intro t x ht; try beta_reduce))
    | (extract_lets +onlyGivenNames x
       refine have hx : State.Ext s0 x := ?_; ?_
       (on_goal 2 => clear_value x)
       subst x)
    | (extract_lets +onlyGivenNames x; have y : _ → State := x; clear y; subst x; beta_reduce)
    | (extract_lets +onlyGivenNames x; first | clear_value x | subst x)
    | split

theorem stairForce_ext (h : s0.Ext s) (src : Req) : s0.Ext (s.stairForce src) := by
  unfold State.stairForce
  repeat' first
    | (with_reducible first
        | assumption | rfl | apply ext_ite | apply errAt_ext | apply toPartner_ext | apply countMirror_ext)
    | (extract_lets +onlyGivenNames x
       refine have hx : State.Ext s0 x := ?_; ?_
       (on_goal 2 => clear_value x)
       subst x)
    | (extract_lets +onlyGivenNames x; first | clear_value x | subst x)
    | split
    | with_reducible apply ext_mk

theorem execStairForce_ext (h : s0.Ext s) (src : Req) : Res.Ext s0 (execStairForce src s) := by
  unfold execStairForce
  repeat' first
    | (with_reducible first
        | assumption | apply res_next | apply res_ite | apply ext_ite | apply stairForce_ext)
    | split

theorem newCycle_ext (h : s0.Ext s) : s0.Ext s.newCycle := by
  unfold State.newCycle
  repeat' first
    | (with_reducible first
        | assumption | rfl | apply wrF_ext)
    | (extract_lets +onlyGivenNames x
       refine have hx : State.Ext s0 x := ?_; ?_
       (on_goal 2 => clear_value x)
       subst x)
    | (extract_lets +onlyGivenNames x; first | clear_value x | subst x)
    | with_reducible apply ext_mk

theorem cycleRestart_ext (h : s0.Ext s) (src : Req) : s0.Ext (s.cycleRestart src) := by
  unfold State.cycleRestart
  repeat' first
    | (with_reducible first
        | assumption | apply errAt_ext | apply mirror_ext | apply newCycle_ext)
    | split

theorem execCycleRestart_ext (h : s0.Ext s) (src : Req) : Res.Ext s0 (execCycleRestart src s) := by
  unfold execCycleRestart
  repeat' first
    | (with_reducible first
        | assumption | apply res_next | apply res_ite | apply ext_ite | apply cycleRestart_ext)
    | split

/-! ## Machine/Change -/

theorem setChange_ext (h : s0.Ext s) (v : Nat) : s0.Ext (s.setChange v) := by
  unfold State.setChange
  repeat' first
    | with_reducible first
      | assumption | apply wrF_ext

theorem agreeChange_ext (h : s0.Ext s) (retire mine : Bool) : s0.Ext (s.agreeChange retire mine) := by
  unfold State.agreeChange
  repeat' first
    | (with_reducible first
        | assumption | rfl | apply ext_ite | apply retire_ext | apply setChange_ext | apply wr_ext
        | apply toPartner_ext)
    | (extract_lets +onlyGivenNames x
       refine have hx : State.Ext s0 x := ?_; ?_
       (on_goal 2 => clear_value x)
       subst x)
    | (extract_lets +onlyGivenNames x; first | clear_value x | subst x)
    | with_reducible apply ext_mk

theorem askChange_ext (h : s0.Ext s) (retire : Bool) (source : Nat) : s0.Ext (s.askChange retire source) := by
  unfold State.askChange
  repeat' first
    | (with_reducible first
        | assumption | apply ext_ite | apply wr_ext | apply setChange_ext | apply agreeChange_ext
        | apply toPartner_ext)
    | (extract_lets +onlyGivenNames x
       refine have hx : State.Ext s0 x := ?_; ?_
       (on_goal 2 => clear_value x)
       subst x)
    | split

theorem changeCtrl_ext (h : s0.Ext s) (src : Req) (retire : Bool) : s0.Ext (s.changeCtrl src retire) := by
  unfold State.changeCtrl
  repeat' first
    | (with_reducible first
        | assumption | apply ext_ite | apply errAt_ext | apply askChange_ext)
    | split

theorem execHandoverRequest_ext (h : s0.Ext s) (src : Req) : Res.Ext s0 (execHandoverRequest src s) := by
  unfold execHandoverRequest
  repeat' first
    | (with_reducible first
        | assumption | apply res_next | apply res_ite | apply ext_ite | apply changeCtrl_ext)
    | split

theorem execRetireRequest_ext (h : s0.Ext s) (src : Req) : Res.Ext s0 (execRetireRequest src s) := by
  unfold execRetireRequest
  repeat' first
    | (with_reducible first
        | assumption | apply res_next | apply res_ite | apply ext_ite | apply changeCtrl_ext)
    | split

/-! ## Machine/Line -/

theorem modLine_ext (h : s0.Ext s) (f : LineUnit → LineUnit) : s0.Ext (s.modLine f) := by
  unfold State.modLine
  repeat' first
    | (with_reducible first
        | assumption | rfl)
    | (extract_lets +onlyGivenNames x; first | clear_value x | subst x)
    | with_reducible apply ext_mk

theorem safeStop_ext (h : s0.Ext s) (cause : Nat) : s0.Ext (s.safeStop cause) := by
  unfold State.safeStop
  repeat' first
    | (with_reducible first
        | assumption | rfl | apply ext_ite | apply stopAll_ext | apply sinksOff_ext | apply modLine_ext
        | apply camDisable_ext)
    | (with_reducible apply ext_foldl; on_goal 2 => (intro t x ht; try beta_reduce))
    | (extract_lets +onlyGivenNames x
       refine have hx : State.Ext s0 x := ?_; ?_
       (on_goal 2 => clear_value x)
       subst x)
    | (extract_lets +onlyGivenNames x; have y : _ → State := x; clear y; subst x; beta_reduce)
    | (extract_lets +onlyGivenNames x; first | clear_value x | subst x)
    | split
    | with_reducible apply ext_mk

theorem enterSafe_ext (h : s0.Ext s) (cause : Nat) : s0.Ext (s.enterSafe cause) := by
  have k := setModule_ext (safeStop_ext h cause) 7
  unfold State.enterSafe
  refine ext_ite (rowsLose_ext ?_) k
  exact noMem_ext k { ((s.safeStop cause).setModule 7).job with valid := [], partner := [] }

theorem endRun_ext (h : s0.Ext s) : s0.Ext s.endRun := by
  unfold State.endRun
  repeat' first
    | (with_reducible first
        | assumption | rfl | apply ext_ite | apply modLine_ext | apply setRun_ext | apply intSet_ext
        | apply endLineTimers_ext | apply enterSafe_ext | apply setModule_ext | apply releaseRetrains_ext
        | apply autoRateUp_ext)
    | (extract_lets +onlyGivenNames x
       refine have hx : State.Ext s0 x := ?_; ?_
       (on_goal 2 => clear_value x)
       subst x)
    | (extract_lets +onlyGivenNames x; first | clear_value x | subst x)
    | split
    | with_reducible apply ext_mk

theorem tickLost_ext (h : s0.Ext s) : s0.Ext s.tickLost := by
  unfold State.tickLost
  repeat' first
    | with_reducible first
      | assumption | apply endRun_ext | apply stopAll_ext

theorem drainAt_ext (h : s0.Ext s) (final : Nat) : s0.Ext (s.drainAt final) := by
  unfold State.drainAt
  repeat' first
    | (with_reducible first
        | assumption | apply ext_ite | apply modLine_ext | apply setRun_ext | apply endRun_ext)
    | (extract_lets +onlyGivenNames x
       refine have hx : State.Ext s0 x := ?_; ?_
       (on_goal 2 => clear_value x)
       subst x)
    | split

theorem sourceInstant_ext (h : s0.Ext s) (t : Nat) : s0.Ext (s.sourceInstant t) := by
  unfold State.sourceInstant
  repeat' first
    | (with_reducible first
        | assumption | apply ext_ite | apply intSet_ext | apply count_ext | apply modLine_ext | apply tickLost_ext)
    | (extract_lets +onlyGivenNames x
       refine have hx : State.Ext s0 x := ?_; ?_
       (on_goal 2 => clear_value x)
       subst x)
    | (extract_lets +onlyGivenNames x; first | clear_value x | subst x)
    | split

theorem slipLine_ext (h : s0.Ext s) : s0.Ext s.slipLine := by
  unfold State.slipLine
  repeat' first
    | (with_reducible first
        | assumption | rfl | apply ext_ite | apply modLine_ext)
    | split
    | with_reducible apply ext_mk

theorem sourceLine_ext (h : s0.Ext s) (t : Nat) : s0.Ext (s.sourceLine t) := by
  unfold State.sourceLine
  repeat' first
    | (with_reducible first
        | assumption | rfl | apply ext_ite | apply modLine_ext | apply slipLine_ext)
    | split
    | with_reducible apply ext_mk

theorem ringInstant_ext (h : s0.Ext s) (t : Nat) : s0.Ext (s.ringInstant t) := by
  unfold State.ringInstant
  repeat' first
    | (with_reducible first
        | assumption | apply ext_ite | apply sourceLine_ext | apply sourceInstant_ext)

theorem tickInput_ext (h : s0.Ext s) (t : Nat) : s0.Ext (s.tickInput t) := by
  unfold State.tickInput
  repeat' first
    | (with_reducible first
        | assumption | rfl | apply ext_ite | apply sourceLine_ext | apply sourceInstant_ext)
    | (extract_lets +onlyGivenNames x
       refine have hx : State.Ext s0 x := ?_; ?_
       (on_goal 2 => clear_value x)
       subst x)
    | (extract_lets +onlyGivenNames x; first | clear_value x | subst x)
    | split
    | with_reducible apply ext_mk

theorem execEncoderCount_ext (h : s0.Ext s) (e : Fin 2) (fwd : Bool) (tenths t : Nat) :
    Res.Ext s0 (execEncoderCount e fwd tenths t s) := by
  unfold execEncoderCount
  repeat' first
    | (with_reducible first
        | assumption | rfl | apply res_next | apply res_ite | apply ext_ite | apply till_ext | apply wr_ext
        | apply setEnc_ext | apply showReverse_ext | apply tickInput_ext)
    | (extract_lets +onlyGivenNames x
       refine have hx : State.Ext s0 x := ?_; ?_
       (on_goal 2 => clear_value x)
       subst x)
    | (extract_lets +onlyGivenNames x; first | clear_value x | subst x)
    | split
    | with_reducible apply ext_mk

theorem dropWindow_ext (h : s0.Ext s) : s0.Ext s.dropWindow := by
  unfold State.dropWindow
  repeat' first
    | (with_reducible first
        | assumption | rfl | apply ext_ite | apply modLine_ext)
    | with_reducible apply ext_mk

theorem lossCheck_ext (h : s0.Ext s) : s0.Ext s.lossCheck := ext_ite (tickLost_ext h) h

theorem newLos_ext (h : s0.Ext s) : s0.Ext s.newLos := lossCheck_ext (autoSwitch_ext (dropWindow_ext h))

theorem execLossOfSignal_ext (h : s0.Ext s) (e : Fin 2) (t : Nat) : Res.Ext s0 (execLossOfSignal e t s) := by
  unfold execLossOfSignal
  repeat' first
    | (with_reducible first
        | assumption | apply res_next | apply res_ite | apply ext_ite | apply till_ext | apply intSet_ext
        | apply wrB_ext | apply newLos_ext)
    | (extract_lets +onlyGivenNames x
       refine have hx : State.Ext s0 x := ?_; ?_
       (on_goal 2 => clear_value x)
       subst x)
    | (extract_lets +onlyGivenNames x; first | clear_value x | subst x)
    | split

theorem execLosClear_ext (h : s0.Ext s) (e : Fin 2) : Res.Ext s0 (execLosClear e s) := by
  unfold execLosClear
  repeat' first
    | (with_reducible first
        | assumption | apply res_next | apply res_ite | apply ext_ite | apply autoSwitch_ext | apply wrB_ext)
    | split

theorem execSlipWindow_ext (h : s0.Ext s) : Res.Ext s0 (execSlipWindow s) := by
  unfold execSlipWindow
  repeat' first
    | (with_reducible first
        | assumption | rfl | apply res_next | apply res_ite | apply ext_ite | apply wr_ext | apply wrB_ext
        | apply modLine_ext | apply intSet_ext)
    | (extract_lets +onlyGivenNames x
       refine have hx : State.Ext s0 x := ?_; ?_
       (on_goal 2 => clear_value x)
       subst x)
    | (extract_lets +onlyGivenNames x; first | clear_value x | subst x)
    | split
    | with_reducible apply ext_mk

theorem execVirtualTick_ext (h : s0.Ext s) (t : Nat) : Res.Ext s0 (execVirtualTick t s) := by
  unfold execVirtualTick
  repeat' first
    | (with_reducible first
        | assumption | rfl | apply res_next | apply res_ite | apply ext_ite | apply till_ext | apply frc_ext
        | apply modLine_ext | apply tickInput_ext)
    | (extract_lets +onlyGivenNames x
       refine have hx : State.Ext s0 x := ?_; ?_
       (on_goal 2 => clear_value x)
       subst x)
    | (extract_lets +onlyGivenNames x; first | clear_value x | subst x)
    | split
    | with_reducible apply ext_mk

theorem armRun_ext (h : s0.Ext s) (src : Req) : s0.Ext (s.armRun src) := by
  unfold State.armRun
  repeat' first
    | (with_reducible first
        | assumption | rfl | apply ext_ite | apply errAt_ext | apply intSet_ext | apply modLine_ext | apply wrF_ext
        | apply emitTables_ext | apply wr_ext | apply releaseRows_ext | apply stripBegin_ext | apply setModule_ext
        | apply setRun_ext | apply mirror_ext | apply releaseRetrains_ext | apply applyIdle_ext)
    | (with_reducible apply ext_foldl; on_goal 2 => (intro t x ht; try beta_reduce))
    | (extract_lets +onlyGivenNames x
       refine have hx : State.Ext s0 x := ?_; ?_
       (on_goal 2 => clear_value x)
       subst x)
    | (extract_lets +onlyGivenNames x; have y : _ → State := x; clear y; subst x; beta_reduce)
    | (extract_lets +onlyGivenNames x; have y : JobUnit := x; clear y; subst x)
    | (extract_lets +onlyGivenNames x; first | clear_value x | subst x)
    | split
    | with_reducible apply ext_mk

theorem execRunArm_ext (h : s0.Ext s) (src : Req) : Res.Ext s0 (execRunArm src s) := by
  unfold execRunArm
  repeat' first
    | (with_reducible first
        | assumption | apply res_next | apply res_ite | apply ext_ite | apply armRun_ext)
    | split

theorem beginRun_ext (h : s0.Ext s) : s0.Ext s.beginRun := by
  unfold State.beginRun
  repeat' first
    | (with_reducible first
        | assumption | rfl | apply ext_ite | apply wr_ext | apply setRun_ext | apply intSet_ext | apply modLine_ext
        | apply sendRing_ext | apply toPartner_ext | apply frc_ext | apply lossCheck_ext | apply emits_ext)
    | (extract_lets +onlyGivenNames x
       refine have hx : State.Ext s0 x := ?_; ?_
       (on_goal 2 => clear_value x)
       subst x)
    | (extract_lets +onlyGivenNames x; first | clear_value x | subst x)
    | split
    | with_reducible apply ext_mk

theorem startFrom_ext (h : s0.Ext s) (source : Nat) : s0.Ext (s.startFrom source) := by
  unfold State.startFrom
  repeat' first
    | (with_reducible first
        | assumption | apply ext_ite | apply beginRun_ext)
    | split

theorem startRun_ext (h : s0.Ext s) (src : Req) : s0.Ext (s.startRun src) := by
  unfold State.startRun
  repeat' first
    | (with_reducible first
        | assumption | apply errAt_ext | apply startFrom_ext)
    | split

theorem execRunStart_ext (h : s0.Ext s) (src : Req) : Res.Ext s0 (execRunStart src s) := by
  unfold execRunStart
  repeat' first
    | (with_reducible first
        | assumption | apply res_next | apply res_ite | apply ext_ite | apply startRun_ext)
    | split

theorem drainRun_ext (h : s0.Ext s) (src : Req) : s0.Ext (s.drainRun src) := by
  unfold State.drainRun
  repeat' first
    | (with_reducible first
        | assumption | apply ext_ite | apply errAt_ext | apply mirror_ext | apply endRun_ext | apply drainAt_ext)
    | (extract_lets +onlyGivenNames x
       refine have hx : State.Ext s0 x := ?_; ?_
       (on_goal 2 => clear_value x)
       subst x)
    | split

theorem execRunDrain_ext (h : s0.Ext s) (src : Req) : Res.Ext s0 (execRunDrain src s) := by
  unfold execRunDrain
  repeat' first
    | (with_reducible first
        | assumption | apply res_next | apply res_ite | apply ext_ite | apply drainRun_ext)
    | split

theorem execDrainTimeout_ext (h : s0.Ext s) (t : Nat) : Res.Ext s0 (execDrainTimeout t s) := by
  unfold execDrainTimeout
  repeat' first
    | (with_reducible first
        | assumption | apply res_next | apply res_ite | apply ext_ite | apply till_ext | apply tickLost_ext)
    | (extract_lets +onlyGivenNames x
       refine have hx : State.Ext s0 x := ?_; ?_
       (on_goal 2 => clear_value x)
       subst x)
    | split

theorem resumeChans_ext (h : s0.Ext s) (line : Nat) : s0.Ext (s.resumeChans line) := by
  unfold State.resumeChans
  repeat' first
    | (with_reducible first
        | assumption | rfl | apply ext_ite)
    | (extract_lets +onlyGivenNames x; first | clear_value x | subst x)
    | split
    | with_reducible apply ext_mk

theorem markMoving_ext (h : s0.Ext s) (line : Nat) : s0.Ext (s.markMoving line) := by
  unfold State.markMoving
  repeat' first
    | (with_reducible first
        | assumption | rfl | apply ext_ite)
    | (with_reducible apply ext_foldl; on_goal 2 => (intro t x ht; try beta_reduce))
    | split
    | with_reducible apply ext_mk

theorem admitLine_ext (h : s0.Ext s) : s0.Ext s.admitLine := by
  unfold State.admitLine
  repeat' first
    | (with_reducible first
        | assumption | rfl | apply ext_ite | apply applyLinePages_ext | apply applySlots_ext | apply digestDue_ext
        | apply resumeChans_ext | apply stripAdmit_ext | apply markMoving_ext | apply wrB_ext | apply frc_ext
        | apply judgeTiles_ext | apply spliceEdges_ext | apply modLine_ext | apply wr_ext | apply retire_ext
        | apply releaseRows_ext | apply drainAt_ext | apply lossCheck_ext)
    | (with_reducible apply ext_foldl; on_goal 2 => (intro t x ht; try beta_reduce))
    | (extract_lets +onlyGivenNames x
       refine have hx : State.Ext s0 x := ?_; ?_
       (on_goal 2 => clear_value x)
       subst x)
    | (extract_lets +onlyGivenNames x; have y : _ → State := x; clear y; subst x; beta_reduce)
    | (extract_lets +onlyGivenNames x; first | clear_value x | subst x)
    | split
    | with_reducible apply ext_mk

theorem admit_ext (h : s0.Ext s) (n : Nat) : s0.Ext (s.admitUpTo n) := by
  induction n generalizing s with
  | zero => exact h
  | succ n ih => exact ext_ite (ih (admitLine_ext h)) h

theorem recordMargin_ext (h : s0.Ext s) (m : Int) : s0.Ext (s.recordMargin m) := by
  unfold State.recordMargin
  repeat' first
    | (with_reducible first
        | assumption | apply ext_ite | apply wr_ext | apply intSet_ext)
    | (extract_lets +onlyGivenNames x
       refine have hx : State.Ext s0 x := ?_; ?_
       (on_goal 2 => clear_value x)
       subst x)
    | (extract_lets +onlyGivenNames x; first | clear_value x | subst x)
    | split

theorem mismRun_ext (h : s0.Ext s) (c : Nat) (split : Bool) : s0.Ext (s.mismRun c split) := by
  unfold State.mismRun
  repeat' first
    | (with_reducible first
        | assumption | rfl | apply ext_ite | apply isolateLane_ext)
    | (extract_lets +onlyGivenNames x
       refine have hx : State.Ext s0 x := ?_; ?_
       (on_goal 2 => clear_value x)
       subst x)
    | (extract_lets +onlyGivenNames x; first | clear_value x | subst x)
    | split
    | with_reducible apply ext_mk

theorem queueLine_ext (h : s0.Ext s) (p : ProdLine) (t : Nat) : s0.Ext (s.queueLine p t) := by
  unfold State.queueLine
  repeat' first
    | (with_reducible first
        | assumption | rfl | apply ext_ite | apply sendFrame_ext | apply mismRun_ext | apply modLine_ext
        | apply recordMargin_ext)
    | (with_reducible apply ext_foldl; on_goal 2 => (intro t x ht; try beta_reduce))
    | (extract_lets +onlyGivenNames x
       refine have hx : State.Ext s0 x := ?_; ?_
       (on_goal 2 => clear_value x)
       subst x)
    | (extract_lets +onlyGivenNames x; have y : _ → State := x; clear y; subst x; beta_reduce)
    | (extract_lets +onlyGivenNames x; first | clear_value x | subst x)
    | split
    | with_reducible apply ext_mk

theorem mismatch_ext (h : s0.Ext s) (c line : Nat) : s0.Ext (s.mismatch c line) := by
  unfold State.mismatch
  repeat' first
    | with_reducible first
      | assumption | apply intSet_ext | apply wr_ext | apply count_ext

theorem mismatchAbsent_ext (h : s0.Ext s) (c line : Nat) : s0.Ext (s.mismatchAbsent c line) := by
  unfold State.mismatchAbsent
  repeat' first
    | (with_reducible first
        | assumption | rfl | apply ext_ite | apply count_ext | apply errHw_ext | apply fault_ext | apply intSet_ext
        | apply tally_ext)
    | (extract_lets +onlyGivenNames x
       refine have hx : State.Ext s0 x := ?_; ?_
       (on_goal 2 => clear_value x)
       subst x)
    | (extract_lets +onlyGivenNames x; first | clear_value x | subst x)
    | split
    | with_reducible apply ext_mk

theorem cutLine_ext (h : s0.Ext s) (p : ProdLine) : s0.Ext (s.cutLine p) := by
  unfold State.cutLine
  repeat' first
    | (with_reducible first
        | assumption | rfl | apply ext_ite | apply sendFrame_ext | apply modLine_ext | apply mismatchAbsent_ext
        | apply mismRun_ext)
    | (with_reducible apply ext_foldl; on_goal 2 => (intro t x ht; try beta_reduce))
    | (extract_lets +onlyGivenNames x
       refine have hx : State.Ext s0 x := ?_; ?_
       (on_goal 2 => clear_value x)
       subst x)
    | (extract_lets +onlyGivenNames x; have y : _ → State := x; clear y; subst x; beta_reduce)
    | (extract_lets +onlyGivenNames x; first | clear_value x | subst x)
    | split
    | with_reducible apply ext_mk

theorem missLine_ext (h : s0.Ext s) (p : ProdLine) : s0.Ext (s.missLine p) := by
  unfold State.missLine
  repeat' first
    | (with_reducible first
        | assumption | rfl | apply ext_ite | apply modLine_ext | apply frc_ext | apply count_ext | apply wr_ext
        | apply intSet_ext | apply emits_ext)
    | (extract_lets +onlyGivenNames x
       refine have hx : State.Ext s0 x := ?_; ?_
       (on_goal 2 => clear_value x)
       subst x)
    | (extract_lets +onlyGivenNames x; first | clear_value x | subst x)
    | split
    | with_reducible apply ext_mk

theorem missPolicy_ext (h : s0.Ext s) : s0.Ext s.missPolicy := by
  unfold State.missPolicy
  repeat' first
    | (with_reducible first
        | assumption | apply ext_ite | apply modLine_ext | apply askChange_ext | apply intSet_ext)
    | (extract_lets +onlyGivenNames x
       refine have hx : State.Ext s0 x := ?_; ?_
       (on_goal 2 => clear_value x)
       subst x)
    | split

theorem deadline_ext (h : s0.Ext s) : s0.Ext s.deadline := by
  unfold State.deadline
  repeat' first
    | (with_reducible first
        | assumption | rfl | apply ext_ite | apply modLine_ext | apply queueLine_ext | apply frc_ext
        | apply cutLine_ext | apply missLine_ext | apply missPolicy_ext)
    | (extract_lets +onlyGivenNames x
       refine have hx : State.Ext s0 x := ?_; ?_
       (on_goal 2 => clear_value x)
       subst x)
    | (extract_lets +onlyGivenNames x; first | clear_value x | subst x)
    | split
    | with_reducible apply ext_mk

theorem sendTick_ext (h : s0.Ext s) (line : Nat) : s0.Ext (s.sendTick line) := by
  unfold State.sendTick
  repeat' first
    | (with_reducible first
        | assumption | rfl | apply ext_ite | apply drew_ext | apply sendUrgent_ext | apply modLine_ext
        | apply emits_ext)
    | (with_reducible apply ext_foldl; on_goal 2 => (intro t x ht; try beta_reduce))
    | (extract_lets +onlyGivenNames x
       refine have hx : State.Ext s0 x := ?_; ?_
       (on_goal 2 => clear_value x)
       subst x)
    | (extract_lets +onlyGivenNames x; have y : _ → State := x; clear y; subst x; beta_reduce)
    | (extract_lets +onlyGivenNames x; first | clear_value x | subst x)
    | split
    | with_reducible apply ext_mk

theorem recordTick_ext (h : s0.Ext s) (t : Nat) : s0.Ext (s.recordTick t) := by
  unfold State.recordTick
  repeat' first
    | (with_reducible first
        | assumption | apply ext_ite | apply modLine_ext | apply wr_ext | apply wr64_ext)
    | (with_reducible apply ext_foldl; on_goal 2 => (intro t x ht; try beta_reduce))
    | (extract_lets +onlyGivenNames x
       refine have hx : State.Ext s0 x := ?_; ?_
       (on_goal 2 => clear_value x)
       subst x)
    | (extract_lets +onlyGivenNames x; first | clear_value x | subst x)
    | split

theorem overAdvice_ext (h : s0.Ext s) : s0.Ext s.overAdvice := by
  unfold State.overAdvice
  repeat' first
    | (with_reducible first
        | assumption | apply ext_ite | apply intSet_ext)
    | (with_reducible apply ext_foldl; on_goal 2 => (intro t x ht; try beta_reduce))
    | split

theorem logTick_ext (h : s0.Ext s) (line : Nat) : s0.Ext (s.logTick line) := by
  unfold State.logTick
  repeat' first
    | (with_reducible first
        | assumption | rfl)
    | (extract_lets +onlyGivenNames x; first | clear_value x | subst x)
    | with_reducible apply ext_mk

theorem showSealStop_ext (h : s0.Ext s) : s0.Ext s.showSealStop := by
  unfold State.showSealStop
  repeat' first
    | (with_reducible first
        | assumption | apply ext_ite | apply setStCode_ext)
    | (with_reducible apply ext_foldl; on_goal 2 => (intro t x ht; try beta_reduce))
    | split

theorem runTick_ext (h : s0.Ext s) : s0.Ext s.runTick := by
  unfold State.runTick
  repeat' first
    | (with_reducible first
        | assumption | apply admit_ext | apply sendTime_ext | rfl | apply ext_ite | apply wr_ext | apply logTick_ext | apply showEdges_ext
        | apply sendTick_ext | apply sendTime_ext | apply modLine_ext | apply frc_ext | apply deadline_ext
        | apply overAdvice_ext | apply endRun_ext | apply drainAt_ext | apply showSealStop_ext)
    | (extract_lets +onlyGivenNames x
       refine have hx : State.Ext s0 x := ?_; ?_
       (on_goal 2 => clear_value x)
       subst x)
    | (extract_lets +onlyGivenNames x; first | clear_value x | subst x)
    | split
    | with_reducible apply ext_mk

theorem issueTick_ext (h : s0.Ext s) (t : Nat) : s0.Ext (s.issueTick t) := by
  unfold State.issueTick
  repeat' first
    | (with_reducible first
        | assumption | apply ext_ite | apply recordTick_ext | apply runTick_ext)
    | (extract_lets +onlyGivenNames x
       refine have hx : State.Ext s0 x := ?_; ?_
       (on_goal 2 => clear_value x)
       subst x)
    | split

theorem lampTicks_ext (h : s0.Ext s) (t : Nat) : s0.Ext (s.lampTicks t) := by
  unfold State.lampTicks
  repeat' first
    | (with_reducible first
        | assumption | apply ext_ite | apply showDose_ext | apply maskCut_ext | apply lampTick_ext)
    | (with_reducible apply ext_foldl; on_goal 2 => (intro t x ht; try beta_reduce))

theorem execLineTick_ext (h : s0.Ext s) (t : Nat) : Res.Ext s0 (execLineTick t s) := by
  unfold execLineTick
  repeat' first
    | (with_reducible first
        | assumption | rfl | apply res_next | apply res_ite | apply ext_ite | apply till_ext | apply frc_ext
        | apply modLine_ext | apply issueTick_ext | apply lampTicks_ext)
    | (extract_lets +onlyGivenNames x
       refine have hx : State.Ext s0 x := ?_; ?_
       (on_goal 2 => clear_value x)
       subst x)
    | (extract_lets +onlyGivenNames x; first | clear_value x | subst x)
    | split
    | with_reducible apply ext_mk

theorem execFrameQueued_ext (h : s0.Ext s) (line t : Nat) : Res.Ext s0 (execFrameQueued line t s) := by
  unfold execFrameQueued
  repeat' first
    | (with_reducible first
        | assumption | apply res_next | apply res_ite | apply ext_ite | apply till_ext | apply queueLine_ext
        | apply emits_ext)
    | (extract_lets +onlyGivenNames x
       refine have hx : State.Ext s0 x := ?_; ?_
       (on_goal 2 => clear_value x)
       subst x)
    | (extract_lets +onlyGivenNames x; first | clear_value x | subst x)
    | split

theorem measureFeed_ext (h : s0.Ext s) : s0.Ext s.measureFeed := by
  unfold State.measureFeed
  repeat' first
    | (with_reducible first
        | assumption | rfl | apply ext_ite | apply wr_ext)
    | (with_reducible apply ext_foldl; on_goal 2 => (intro t x ht; try beta_reduce))
    | (extract_lets +onlyGivenNames x
       refine have hx : State.Ext s0 x := ?_; ?_
       (on_goal 2 => clear_value x)
       subst x)
    | (extract_lets +onlyGivenNames x; have y : JobUnit := x; clear y; subst x)
    | (extract_lets +onlyGivenNames x; first | clear_value x | subst x)
    | with_reducible apply ext_mk

theorem adviceOut_ext (h : s0.Ext s) : s0.Ext s.adviceOut := by
  unfold State.adviceOut
  repeat' first
    | (with_reducible first
        | assumption | apply ext_ite | apply emit_ext)
    | split

theorem setAdvice_ext (h : s0.Ext s) (r : Nat) (ls : List (Nat × Nat)) : s0.Ext (s.setAdvice r ls) := by
  unfold State.setAdvice
  repeat' first
    | (with_reducible first
        | assumption | apply ext_ite | apply wr_ext | apply intSet_ext | apply adviceOut_ext | apply emit_ext)
    | (extract_lets +onlyGivenNames x
       refine have hx : State.Ext s0 x := ?_; ?_
       (on_goal 2 => clear_value x)
       subst x)
    | (extract_lets +onlyGivenNames x; first | clear_value x | subst x)
    | split

theorem execAdviceRecompute_ext (h : s0.Ext s) (t : Nat) : Res.Ext s0 (execAdviceRecompute t s) := by
  unfold execAdviceRecompute
  repeat' first
    | (with_reducible first
        | assumption | rfl | apply res_next | apply res_ite | apply ext_ite | apply till_ext | apply measureFeed_ext
        | apply wr_ext | apply showDose_ext | apply modLine_ext | apply setAdvice_ext | apply overAdvice_ext)
    | (with_reducible apply ext_foldl; on_goal 2 => (intro t x ht; try beta_reduce))
    | (extract_lets +onlyGivenNames x
       refine have hx : State.Ext s0 x := ?_; ?_
       (on_goal 2 => clear_value x)
       subst x)
    | (extract_lets +onlyGivenNames x; have y : _ → State := x; clear y; subst x; beta_reduce)
    | (extract_lets +onlyGivenNames x; first | clear_value x | subst x)
    | (split; rename_i a b e
       refine have ha : State.Ext s0 a := (congrArg (fun q => State.Ext s0 q.1) e).mp ?_; ?_
       (on_goal 2 => clear e)
       beta_reduce)
    | (split; rename_i a b c e
       refine have ha : State.Ext s0 a := (congrArg (fun q => State.Ext s0 q.1) e).mp ?_; ?_
       (on_goal 2 => clear e)
       beta_reduce)
    | (with_reducible apply ext_foldl_fst; on_goal 2 => (intro q x hq; try beta_reduce))
    | split
    | with_reducible apply ext_mk

/-! ## Machine/Screening -/

theorem sealFail_ext (h : s0.Ext s) (p line : Nat) (r : Nat × Nat × Nat) (cause : Nat) :
    s0.Ext (s.sealFail p line r cause) := by
  unfold State.sealFail
  repeat' first
    | (with_reducible first
        | assumption | apply wr_ext | apply count_ext | apply tally_ext | apply modLine_ext | apply intSet_ext)
    | (extract_lets +onlyGivenNames x
       refine have hx : State.Ext s0 x := ?_; ?_
       (on_goal 2 => clear_value x)
       subst x)
    | split

theorem sealPolicy_ext (h : s0.Ext s) (p : Nat) (blank : Bool) : s0.Ext (s.sealPolicy p blank) := by
  unfold State.sealPolicy
  repeat' first
    | (with_reducible first
        | assumption | rfl | apply ext_ite | apply modLine_ext | apply intSet_ext)
    | split
    | with_reducible apply ext_mk

theorem produce_ext (h : s0.Ext s) (v : State) (q : ProdLine) (absent : Bool) (hits c : Nat) :
    s0.Ext (s.produce v q absent hits c).1 := by
  unfold State.produce
  repeat' first
    | (with_reducible first
        | assumption | apply ext_ite | apply ext_fst_ite | apply mismatch_ext | apply mismatchAbsent_ext
        | apply count_ext | apply intSet_ext)
    | (extract_lets +onlyGivenNames x
       refine have hx : State.Ext s0 x := ?_; ?_
       (on_goal 2 => clear_value x)
       subst x)
    | (extract_lets +onlyGivenNames x; first | clear_value x | subst x)
    | split

theorem execContoneArrival_ext (h : s0.Ext s) (line : Nat) (plane : Fin 8) (faults : List TileFault) (mism : List (Nat × Nat)) :
    Res.Ext s0 (execContoneArrival line plane faults mism s) := by
  unfold execContoneArrival
  repeat' first
    | (with_reducible first
        | assumption | rfl | apply res_next | apply res_ite | apply ext_ite | apply admitted_ext | apply modLine_ext
        | apply sealFail_ext | apply count_ext | apply intSet_ext | apply sealPolicy_ext | apply produce_ext)
    | (with_reducible apply ext_foldl; on_goal 2 => (intro t x ht; try beta_reduce))
    | (extract_lets +onlyGivenNames x
       refine have hx : State.Ext s0 x := ?_; ?_
       (on_goal 2 => clear_value x)
       subst x)
    | (extract_lets +onlyGivenNames x; have y : _ → State := x; clear y; subst x; beta_reduce)
    | (extract_lets +onlyGivenNames x; first | clear_value x | subst x)
    | (split; rename_i a b e
       refine have ha : State.Ext s0 a := (congrArg (fun q => State.Ext s0 q.1) e).mp ?_; ?_
       (on_goal 2 => clear e)
       beta_reduce)
    | (split; rename_i a b c e
       refine have ha : State.Ext s0 a := (congrArg (fun q => State.Ext s0 q.1) e).mp ?_; ?_
       (on_goal 2 => clear e)
       beta_reduce)
    | (with_reducible apply ext_foldl_fst; on_goal 2 => (intro q x hq; try beta_reduce))
    | split
    | with_reducible apply drewN_ext
    | with_reducible apply ext_mk

theorem execStarvedLineResume_ext (h : s0.Ext s) (line : Nat) : Res.Ext s0 (execStarvedLineResume line s) := by
  unfold execStarvedLineResume
  repeat' first
    | (with_reducible first
        | assumption | rfl | apply res_next | apply res_ite | apply ext_ite | apply modLine_ext)
    | (extract_lets +onlyGivenNames x
       refine have hx : State.Ext s0 x := ?_; ?_
       (on_goal 2 => clear_value x)
       subst x)
    | (extract_lets +onlyGivenNames x; first | clear_value x | subst x)
    | split
    | with_reducible apply ext_mk

theorem clearScreenFault_ext (h : s0.Ext s) (c : Nat) : s0.Ext (s.clearScreenFault c) := by
  unfold State.clearScreenFault
  repeat' first
    | (with_reducible first
        | assumption | rfl | apply fault_ext)
    | (extract_lets +onlyGivenNames x
       refine have hx : State.Ext s0 x := ?_; ?_
       (on_goal 2 => clear_value x)
       subst x)
    | (extract_lets +onlyGivenNames x; first | clear_value x | subst x)
    | with_reducible apply ext_mk

theorem execFaultClear_ext (h : s0.Ext s) (src : Req) (c : Fin 128) : Res.Ext s0 (execFaultClear src c s) := by
  unfold execFaultClear
  repeat' first
    | (with_reducible first
        | assumption | apply res_next | apply res_ite | apply ext_ite | apply clearScreenFault_ext)
    | split

/-! ## Machine/Tables -/

theorem putTable_ext (h : s0.Ext s) (t k v : Nat) : s0.Ext (s.putTable t k v) := by
  unfold State.putTable
  repeat' first
    | (with_reducible first
        | assumption | rfl)
    | (extract_lets +onlyGivenNames x; first | clear_value x | subst x)
    | with_reducible apply ext_mk

theorem forward_ext (h : s0.Ext s) (t k v : Nat) : s0.Ext (s.forward t k v) := by
  unfold State.forward
  repeat' first
    | (with_reducible first
        | assumption | apply ext_ite | apply countMirror_ext | apply toPartner_ext)
    | split

theorem tableWrite_ext (h : s0.Ext s) (t k v : Nat) : s0.Ext (s.tableWrite t k v) := by
  unfold State.tableWrite
  repeat' first
    | with_reducible first
      | assumption | apply forward_ext | apply putTable_ext

theorem putShadow_ext (h : s0.Ext s) (k v : Nat) : s0.Ext (s.putShadow k v) := by
  unfold State.putShadow
  repeat' first
    | (with_reducible first
        | assumption | rfl)
    | (extract_lets +onlyGivenNames x; first | clear_value x | subst x)
    | with_reducible apply setShadow_ext'
    | with_reducible apply ext_mk

theorem decisionWrite_ext (h : s0.Ext s) (w : Nat × Nat × Nat) : s0.Ext (s.decisionWrite w) := by
  unfold State.decisionWrite
  repeat' first
    | (with_reducible first
        | assumption | apply ext_ite | apply mirror_ext | apply putShadow_ext | apply tableWrite_ext)
    | split

theorem takeDecision_ext (h : s0.Ext s) (d : Decision) : s0.Ext (s.takeDecision d) := by
  unfold State.takeDecision
  repeat' first
    | (with_reducible first
        | assumption | apply ext_ite | apply decisionWrite_ext | apply wrs_ext | apply armSlot_ext | apply wrF_ext)
    | (with_reducible apply ext_foldl; on_goal 2 => (intro t x ht; try beta_reduce))
    | (extract_lets +onlyGivenNames x
       refine have hx : State.Ext s0 x := ?_; ?_
       (on_goal 2 => clear_value x)
       subst x)
    | (extract_lets +onlyGivenNames x; have y : _ → State := x; clear y; subst x; beta_reduce)
    | (extract_lets +onlyGivenNames x; first | clear_value x | subst x)
    | split

theorem sendDecision_ext (h : s0.Ext s) (d : Decision) : s0.Ext (s.sendDecision d) := by
  unfold State.sendDecision
  repeat' first
    | (with_reducible first
        | assumption | apply ext_ite | apply toPartner_ext | apply takeDecision_ext)
    | split

/-! ## Machine/Colour -/

theorem modColour_ext (h : s0.Ext s) (f : ColourUnit → ColourUnit) : s0.Ext (s.modColour f) := by
  unfold State.modColour
  repeat' first
    | (with_reducible first
        | assumption | rfl)
    | (extract_lets +onlyGivenNames x; first | clear_value x | subst x)
    | with_reducible apply ext_mk

theorem expireCycle_ext (h : s0.Ext s) (n : Nat) : s0.Ext (s.expireCycle n) := by
  unfold State.expireCycle
  repeat' first
    | (with_reducible first
        | assumption | apply ext_ite | apply count_ext | apply intSet_ext | apply newCycle_ext)
    | split

theorem cycleFor_ext (h : s0.Ext s) (n : Nat) : s0.Ext (s.cycleFor n) := by
  unfold State.cycleFor
  repeat' first
    | (with_reducible first
        | assumption | apply ext_ite | apply expireCycle_ext | apply newCycle_ext)
    | (extract_lets +onlyGivenNames x
       refine have hx : State.Ext s0 x := ?_; ?_
       (on_goal 2 => clear_value x)
       subst x)
    | (extract_lets +onlyGivenNames x; first | clear_value x | subst x)
    | split

theorem clearBand_ext (h : s0.Ext s) (g : Trigger) : s0.Ext (s.clearBand g) := by
  unfold State.clearBand
  repeat' first
    | (with_reducible first
        | assumption | rfl | apply ext_ite)
    | (extract_lets +onlyGivenNames x
       refine have hx : State.Ext s0 x := ?_; ?_
       (on_goal 2 => clear_value x)
       subst x)
    | (extract_lets +onlyGivenNames x; first | clear_value x | subst x)
    | split
    | with_reducible apply ext_mk

theorem storeBand_ext (h : s0.Ext s) (a : Nat) (g : Trigger) : s0.Ext (s.storeBand a g) := by
  unfold State.storeBand
  repeat' first
    | (with_reducible first
        | assumption | rfl | apply ext_ite | apply count_ext | apply intSet_ext | apply cycleFor_ext
        | apply clearBand_ext | apply bind_ext | apply drew_ext | apply modColour_ext)
    | (with_reducible apply ext_foldl; on_goal 2 => (intro t x ht; try beta_reduce))
    | (extract_lets +onlyGivenNames x
       refine have hx : State.Ext s0 x := ?_; ?_
       (on_goal 2 => clear_value x)
       subst x)
    | (extract_lets +onlyGivenNames x; first | clear_value x | subst x)
    | split
    | with_reducible apply ext_mk

theorem endCycle_ext (h : s0.Ext s) : s0.Ext s.endCycle := by
  unfold State.endCycle
  repeat' first
    | (with_reducible first
        | assumption | rfl | apply ext_ite | apply wr_ext | apply modColour_ext | apply newCycle_ext)
    | (with_reducible apply ext_foldl; on_goal 2 => (intro t x ht; try beta_reduce))
    | (extract_lets +onlyGivenNames x
       refine have hx : State.Ext s0 x := ?_; ?_
       (on_goal 2 => clear_value x)
       subst x)
    | (extract_lets +onlyGivenNames x; have y : _ → State := x; clear y; subst x; beta_reduce)
    | (extract_lets +onlyGivenNames x; first | clear_value x | subst x)
    | split
    | with_reducible apply drewNM_ext
    | with_reducible apply ext_mk

theorem takeMarks_ext (h : s0.Ext s) (a : Nat) (g : Trigger) : s0.Ext (s.takeMarks a g) := by
  unfold State.takeMarks
  repeat' first
    | (with_reducible first
        | assumption | apply ext_ite | apply stripSkip_ext | apply intSet_ext | apply wr_ext | apply drew_ext
        | apply modColour_ext)
    | (with_reducible apply ext_foldl; on_goal 2 => (intro t x ht; try beta_reduce))
    | (extract_lets +onlyGivenNames x
       refine have hx : State.Ext s0 x := ?_; ?_
       (on_goal 2 => clear_value x)
       subst x)
    | (extract_lets +onlyGivenNames x; first | clear_value x | subst x)
    | split

theorem endMarks_ext (h : s0.Ext s) (strip : Nat) : s0.Ext (s.endMarks strip) := by
  unfold State.endMarks
  repeat' first
    | (with_reducible first
        | assumption | rfl | apply ext_ite | apply bind_ext | apply wr_ext | apply modColour_ext)
    | (with_reducible apply ext_foldl; on_goal 2 => (intro t x ht; try beta_reduce))
    | (extract_lets +onlyGivenNames x
       refine have hx : State.Ext s0 x := ?_; ?_
       (on_goal 2 => clear_value x)
       subst x)
    | (extract_lets +onlyGivenNames x; have y : _ → State := x; clear y; subst x; beta_reduce)
    | (extract_lets +onlyGivenNames x; first | clear_value x | subst x)
    | split
    | with_reducible apply ext_mk

end Sys2Proof.Machine
end

