-- ==== Sys2Proof/Laws/ExtCore.lean ====
section
/-! SUPPORT. `State.Ext` is kept by every function of the meanings: policies, mailboxes, the journal, resets, boot, power, DRAM and firmware. -/

set_option linter.unusedTactic false
set_option linter.unreachableTactic false

namespace Sys2Proof.Machine

variable {s0 s : State}

/-! ## Machine/Policy -/

theorem putHalf_ext (h : s0.Ext s) (key : Nat → Nat) (i v : Nat) : s0.Ext (s.putHalf key i v) := by
  unfold State.putHalf
  repeat' first
    | with_reducible first
      | assumption | apply wrF_ext

theorem tonePolicy_ext (h : s0.Ext s) (set : List Byte) : s0.Ext (s.tonePolicy set) := by
  unfold State.tonePolicy
  repeat' first
    | (with_reducible first
        | assumption | apply ext_ite | apply drew_ext | apply sendDecision_ext)
    | (extract_lets +onlyGivenNames x
       refine have hx : State.Ext s0 x := ?_; ?_
       (on_goal 2 => clear_value x)
       subst x)
    | (extract_lets +onlyGivenNames x; first | clear_value x | subst x)
    | split

theorem regFixes_ext (h : s0.Ext s) (fs : List RegFix) : s0.Ext (s.regFixes fs) := by
  unfold State.regFixes
  repeat' first
    | (with_reducible first
        | assumption | apply ext_ite | apply wrB_ext | apply sendDecision_ext)
    | (with_reducible apply ext_foldl; on_goal 2 => (intro t x ht; try beta_reduce))
    | (extract_lets +onlyGivenNames x
       refine have hx : State.Ext s0 x := ?_; ?_
       (on_goal 2 => clear_value x)
       subst x)
    | (extract_lets +onlyGivenNames x; first | clear_value x | subst x)
    | split

theorem reref_ext (h : s0.Ext s) (c : Nat) : s0.Ext (s.reref c) := by
  unfold State.reref
  repeat' first
    | (with_reducible first
        | assumption | apply ext_ite | apply modColour_ext | apply putHalf_ext)
    | (extract_lets +onlyGivenNames x
       refine have hx : State.Ext s0 x := ?_; ?_
       (on_goal 2 => clear_value x)
       subst x)
    | (extract_lets +onlyGivenNames x; first | clear_value x | subst x)
    | split

theorem calibrate_ext (h : s0.Ext s) (set : List Byte) (c : Nat) : s0.Ext (s.calibrate set c).1 := by
  unfold State.calibrate
  repeat' first
    | (with_reducible first
        | assumption | apply ext_ite | apply ext_fst_ite | apply modColour_ext | apply wrB_ext | apply reref_ext)
    | (with_reducible apply ext_foldl; on_goal 2 => (intro t x ht; try beta_reduce))
    | (extract_lets +onlyGivenNames x; have y : _ → State := x; clear y; subst x; beta_reduce)
    | (extract_lets +onlyGivenNames x; first | clear_value x | subst x)
    | split

theorem regPolicy_ext (h : s0.Ext s) (set : List Byte) : s0.Ext (s.regPolicy set) := by
  unfold State.regPolicy
  repeat' first
    | (with_reducible first
        | assumption | apply ext_ite | apply calibrate_ext | apply regFixes_ext)
    | (with_reducible apply ext_foldl; on_goal 2 => (intro t x ht; try beta_reduce))
    | (extract_lets +onlyGivenNames x; have y : _ → State := x; clear y; subst x; beta_reduce)
    | (extract_lets +onlyGivenNames x; first | clear_value x | subst x)
    | (split; rename_i a b e
       refine have ha : State.Ext s0 a := (congrArg (fun q => State.Ext s0 q.1) e).mp ?_; ?_
       (on_goal 2 => clear e)
       beta_reduce)
    | (split; rename_i a b c e
       refine have ha : State.Ext s0 a := (congrArg (fun q => State.Ext s0 q.1) e).mp ?_; ?_
       (on_goal 2 => clear e)
       beta_reduce)
    | (with_reducible apply ext_foldl_fst; on_goal 2 => (intro q x hq; try beta_reduce))
    | split

theorem keepGain_ext (h : s0.Ext s) (k new : Nat) : s0.Ext (s.keepGain k new) := by
  unfold State.keepGain
  repeat' first
    | (with_reducible first
        | assumption | apply ext_ite | apply modColour_ext)
    | (extract_lets +onlyGivenNames x; first | clear_value x | subst x)
    | split

theorem nozzlePolicy_ext (h : s0.Ext s) (contrast : List (Nat × Nat)) : s0.Ext (s.nozzlePolicy contrast) := by
  unfold State.nozzlePolicy
  repeat' first
    | (with_reducible first
        | assumption | apply ext_ite | apply modColour_ext | apply keepGain_ext | apply drew_ext
        | apply sendDecision_ext)
    | (with_reducible apply ext_foldl; on_goal 2 => (intro t x ht; try beta_reduce))
    | (extract_lets +onlyGivenNames x
       refine have hx : State.Ext s0 x := ?_; ?_
       (on_goal 2 => clear_value x)
       subst x)
    | (extract_lets +onlyGivenNames x; first | clear_value x | subst x)
    | split

theorem finishTrigger_ext (h : s0.Ext s) (g : Trigger) : s0.Ext (s.finishTrigger g) := by
  unfold State.finishTrigger
  repeat' first
    | (with_reducible first
        | assumption | rfl | apply ext_ite | apply modColour_ext | apply showPending_ext | apply setBandDone_ext
        | apply endCycle_ext | apply stripSkip_ext | apply endMarks_ext)
    | (extract_lets +onlyGivenNames x
       refine have hx : State.Ext s0 x := ?_; ?_
       (on_goal 2 => clear_value x)
       subst x)
    | (extract_lets +onlyGivenNames x; first | clear_value x | subst x)
    | split
    | with_reducible apply ext_mk

theorem finishOver_ext (h : s0.Ext s) : s0.Ext s.finishOver := by
  unfold State.finishOver
  repeat' first
    | (with_reducible first
        | assumption | apply ext_ite | apply finishTrigger_ext)
    | (with_reducible apply ext_foldl; on_goal 2 => (intro t x ht; try beta_reduce))

theorem serve_ext (h : s0.Ext s) (a : Nat) (g : Trigger) (contrast : List (Nat × Nat)) :
    s0.Ext (s.serve a g contrast) := by
  unfold State.serve
  repeat' first
    | (with_reducible first
        | assumption | rfl | apply ext_ite | apply stripSkip_ext | apply storeBand_ext | apply takeMarks_ext
        | apply nozzlePolicy_ext | apply modColour_ext | apply finishOver_ext)
    | (extract_lets +onlyGivenNames x
       refine have hx : State.Ext s0 x := ?_; ?_
       (on_goal 2 => clear_value x)
       subst x)
    | (extract_lets +onlyGivenNames x; first | clear_value x | subst x)
    | split
    | with_reducible apply ext_mk

theorem execScalerRecordTake_ext (h : s0.Ext s) (contrast : List (Nat × Nat)) :
    Res.Ext s0 (execScalerRecordTake contrast s) := by
  unfold execScalerRecordTake
  repeat' first
    | (with_reducible first
        | assumption | apply res_next | apply res_ite | apply ext_ite | apply finishOver_ext | apply wr_ext
        | apply serve_ext | apply loseTrigger_ext)
    | (extract_lets +onlyGivenNames x
       refine have hx : State.Ext s0 x := ?_; ?_
       (on_goal 2 => clear_value x)
       subst x)
    | (extract_lets +onlyGivenNames x; first | clear_value x | subst x)
    | split

theorem execCycleExpired_ext (h : s0.Ext s) : Res.Ext s0 (execCycleExpired s) := by
  unfold execCycleExpired
  repeat' first
    | (with_reducible first
        | assumption | apply res_next | apply res_ite | apply ext_ite | apply expireCycle_ext)

theorem execResultSetPublish_ext (h : s0.Ext s) (marks : Bool) : Res.Ext s0 (execResultSetPublish marks s) := by
  unfold execResultSetPublish
  repeat' first
    | (with_reducible first
        | assumption | rfl | apply res_next | apply res_ite | apply ext_ite | apply modColour_ext | apply count_ext
        | apply intSet_ext | apply dramWrite_ext | apply wr_ext | apply regPolicy_ext | apply tonePolicy_ext
        | apply memWrite_ext)
    | (extract_lets +onlyGivenNames x
       refine have hx : State.Ext s0 x := ?_; ?_
       (on_goal 2 => clear_value x)
       subst x)
    | (extract_lets +onlyGivenNames x; first | clear_value x | subst x)
    | split
    | with_reducible apply ext_mk

theorem closeBin_ext (h : s0.Ext s) (c : Nat) : s0.Ext (s.closeBin c) := by
  unfold State.closeBin
  repeat' first
    | (with_reducible first
        | assumption | apply ext_ite | apply modColour_ext | apply putHalf_ext | apply reref_ext)
    | (with_reducible apply ext_foldl; on_goal 2 => (intro t x ht; try beta_reduce))
    | (extract_lets +onlyGivenNames x
       refine have hx : State.Ext s0 x := ?_; ?_
       (on_goal 2 => clear_value x)
       subst x)
    | (extract_lets +onlyGivenNames x; first | clear_value x | subst x)
    | split

theorem driftTrigger_ext (h : s0.Ext s) (c : Nat) : s0.Ext (s.driftTrigger c) := by
  unfold State.driftTrigger
  repeat' first
    | (with_reducible first
        | assumption | apply ext_ite | apply intSet_ext | apply wrB_ext | apply modColour_ext | apply stairForce_ext)
    | (extract_lets +onlyGivenNames x
       refine have hx : State.Ext s0 x := ?_; ?_
       (on_goal 2 => clear_value x)
       subst x)
    | (extract_lets +onlyGivenNames x; first | clear_value x | subst x)
    | split

theorem execDriftBin_ext (h : s0.Ext s) (c : Fin 128) (t : Nat) : Res.Ext s0 (execDriftBin c t s) := by
  unfold execDriftBin
  repeat' first
    | with_reducible first
      | assumption | apply res_next | apply driftTrigger_ext | apply closeBin_ext | apply till_ext

theorem execDriftReref_ext (h : s0.Ext s) (src : Req) (c : Fin 128) : Res.Ext s0 (execDriftReref src c s) := by
  unfold execDriftReref
  repeat' first
    | (with_reducible first
        | assumption | apply res_next | apply res_ite | apply ext_ite | apply reref_ext)
    | split

/-! ## Machine/Mail -/

theorem setMbSt_ext (h : s0.Ext s) (n v : Nat) : s0.Ext (s.setMbSt n v) := by
  unfold State.setMbSt
  repeat' first
    | with_reducible first
      | assumption | apply wrF_ext

theorem hostEvent_ext (h : s0.Ext s) (n : Nat) : s0.Ext (s.hostEvent n) := by
  unfold State.hostEvent
  repeat' first
    | with_reducible first
      | assumption | apply intSet_ext

theorem moduleEvent_ext (h : s0.Ext s) (n : Nat) : s0.Ext (s.moduleEvent n) := by
  unfold State.moduleEvent
  repeat' first
    | with_reducible first
      | assumption | apply emit_ext

theorem tellSender_ext (h : s0.Ext s) (n : Nat) : s0.Ext (s.tellSender n) := by
  unfold State.tellSender
  repeat' first
    | (with_reducible first
        | assumption | apply ext_ite | apply hostEvent_ext | apply moduleEvent_ext)
    | split

theorem tellReceiver_ext (h : s0.Ext s) (n : Nat) : s0.Ext (s.tellReceiver n) := by
  unfold State.tellReceiver
  repeat' first
    | (with_reducible first
        | assumption | apply ext_ite | apply moduleEvent_ext | apply hostEvent_ext)
    | split

theorem mbResult_ext (h : s0.Ext s) (n code : Nat) : s0.Ext (s.mbResult n code) := by
  unfold State.mbResult
  repeat' first
    | with_reducible first
      | assumption | apply tellSender_ext | apply setMbSt_ext | apply wr_ext

theorem dropMessage_ext (h : s0.Ext s) (n : Nat) : s0.Ext (s.dropMessage n) := by
  unfold State.dropMessage
  repeat' first
    | (with_reducible first
        | assumption | rfl | apply ext_ite)
    | with_reducible apply ext_mk

theorem mbSide_ext (h : s0.Ext s) (src want : Req) (n key : Nat) (f : State → State) (hf : ∀ t, s0.Ext t → s0.Ext (f
    t)) :
    s0.Ext (s.mbSide src want n key f) := by
  unfold State.mbSide
  repeat' first
    | (with_reducible first
        | assumption | apply ext_ite | apply errAt_ext | apply hf)
    | split

theorem mbPost_ext (h : s0.Ext s) (src : Req) (n : Nat) : s0.Ext (s.mbPost src n) := by
  unfold State.mbPost
  repeat' first
    | (with_reducible first
        | assumption | apply ext_ite | apply mbSide_ext | apply errAt_ext | apply wrF_ext | apply count_ext
        | apply mbResult_ext | apply tellReceiver_ext | apply setMbSt_ext)
    | (extract_lets +onlyGivenNames x
       refine have hx : State.Ext s0 x := ?_; ?_
       (on_goal 2 => clear_value x)
       subst x)
    | (intro t ht; try beta_reduce)
    | split

theorem execMbPost_ext (h : s0.Ext s) (src : Req) (n : Fin 32) : Res.Ext s0 (execMbPost src n s) := by
  unfold execMbPost
  repeat' first
    | (with_reducible first
        | assumption | apply res_next | apply res_ite | apply ext_ite | apply mbPost_ext)
    | split

theorem requestBody_ext (h : s0.Ext s) (n : Nat) : s0.Ext (s.requestBody n) := by
  unfold State.requestBody
  repeat' first
    | (with_reducible first
        | assumption | apply ext_ite | apply emit_ext)
    | split

theorem mbTake_ext (h : s0.Ext s) (src : Req) (n : Nat) : s0.Ext (s.mbTake src n) := by
  unfold State.mbTake
  repeat' first
    | (with_reducible first
        | assumption | apply ext_ite | apply mbSide_ext | apply setMbSt_ext | apply requestBody_ext | apply errAt_ext)
    | (intro t; intros; try beta_reduce)
    | split

theorem execMbTake_ext (h : s0.Ext s) (src : Req) (n : Fin 32) : Res.Ext s0 (execMbTake src n s) := by
  unfold execMbTake
  repeat' first
    | (with_reducible first
        | assumption | apply res_next | apply res_ite | apply ext_ite | apply mbTake_ext)
    | split

theorem mbAck_ext (h : s0.Ext s) (src : Req) (n data : Nat) : s0.Ext (s.mbAck src n data) := by
  unfold State.mbAck
  repeat' first
    | (with_reducible first
        | assumption | apply ext_ite | apply mbSide_ext | apply errAt_ext | apply dropMessage_ext
        | apply mbResult_ext | apply count_ext)
    | (intro t ht; try beta_reduce)
    | split

theorem execMailboxAck_ext (h : s0.Ext s) (src : Req) (n : Fin 32) (data : Nat) :
    Res.Ext s0 (execMailboxAck src n data s) := by
  unfold execMailboxAck
  repeat' first
    | (with_reducible first
        | assumption | apply res_next | apply res_ite | apply ext_ite | apply mbAck_ext)
    | split

theorem mbClear_ext (h : s0.Ext s) (src : Req) (n : Nat) : s0.Ext (s.mbClear src n) := by
  unfold State.mbClear
  repeat' first
    | (with_reducible first
        | assumption | apply ext_ite | apply mbSide_ext | apply setMbSt_ext | apply errAt_ext)
    | (intro t ht; try beta_reduce)
    | split

theorem execMbClear_ext (h : s0.Ext s) (src : Req) (n : Fin 32) : Res.Ext s0 (execMbClear src n s) := by
  unfold execMbClear
  repeat' first
    | (with_reducible first
        | assumption | apply res_next | apply res_ite | apply ext_ite | apply mbClear_ext)
    | split

theorem resetReceiver_ext (h : s0.Ext s) (n : Nat) : s0.Ext (s.resetReceiver n) := by
  unfold State.resetReceiver
  repeat' first
    | (with_reducible first
        | assumption | apply ext_ite | apply mbResult_ext | apply dropMessage_ext)
    | split

theorem resetSender_ext (h : s0.Ext s) (n : Nat) : s0.Ext (s.resetSender n) := by
  unfold State.resetSender
  repeat' first
    | (with_reducible first
        | assumption | apply ext_ite | apply wrB_ext | apply wr_ext | apply tellReceiver_ext | apply dropMessage_ext
        | apply setMbSt_ext)
    | (extract_lets +onlyGivenNames x
       refine have hx : State.Ext s0 x := ?_; ?_
       (on_goal 2 => clear_value x)
       subst x)
    | split

theorem hostEndReset_ext (h : s0.Ext s) (n : Nat) : s0.Ext (s.hostEndReset n) := by
  unfold State.hostEndReset
  repeat' first
    | (with_reducible first
        | assumption | apply ext_ite | apply resetSender_ext | apply resetReceiver_ext)
    | split

theorem moduleEndReset_ext (h : s0.Ext s) (n : Nat) : s0.Ext (s.moduleEndReset n) := by
  unfold State.moduleEndReset
  repeat' first
    | (with_reducible first
        | assumption | apply ext_ite | apply resetReceiver_ext | apply resetSender_ext)
    | split

theorem detach_ext (h : s0.Ext s) (pf1 : Bool) : s0.Ext (s.detach pf1) := by
  unfold State.detach
  repeat' first
    | (with_reducible first
        | assumption | apply ext_ite | apply hostEndReset_ext)
    | (with_reducible apply ext_foldl; on_goal 2 => (intro t x ht; try beta_reduce))
    | split

theorem execDetach_ext (h : s0.Ext s) (src : Req) (pf1 : Bool) : Res.Ext s0 (execDetach src pf1 s) := by
  unfold execDetach
  repeat' first
    | (with_reducible first
        | assumption | apply res_next | apply res_ite | apply ext_ite | apply detach_ext)
    | split

theorem releaseLocks_ext (h : s0.Ext s) (r : Req) : s0.Ext (s.releaseLocks r) := by
  unfold State.releaseLocks
  repeat' first
    | (with_reducible first
        | assumption | rfl)
    | (extract_lets +onlyGivenNames x; first | clear_value x | subst x)
    | with_reducible apply filterLocks_ext
    | with_reducible apply ext_mk

theorem crewReset_ext (h : s0.Ext s) (i : Fin 4) : s0.Ext (s.crewReset i) := by
  unfold State.crewReset
  repeat' first
    | (with_reducible first
        | assumption | apply releaseLocks_ext | apply moduleEndReset_ext)
    | (with_reducible apply ext_foldl; on_goal 2 => (intro t x ht; try beta_reduce))

theorem rangerReset_ext (h : s0.Ext s) : s0.Ext s.rangerReset := by
  unfold State.rangerReset
  repeat' first
    | (with_reducible first
        | assumption | apply releaseLocks_ext | apply moduleEndReset_ext)
    | (with_reducible apply ext_foldl; on_goal 2 => (intro t x ht; try beta_reduce))

/-! ## Machine/Journal -/

theorem modMgmt_ext (h : s0.Ext s) (f : Mgmt → Mgmt) : s0.Ext (s.modMgmt f) := by
  unfold State.modMgmt
  repeat' first
    | (with_reducible first
        | assumption | rfl)
    | (extract_lets +onlyGivenNames x; first | clear_value x | subst x)
    | with_reducible apply ext_mk

theorem compact_ext (h : s0.Ext s) (b : Bool) : s0.Ext (s.compact b) := by
  unfold State.compact
  repeat' first
    | (with_reducible first
        | assumption | apply ext_ite | apply wrB_ext | apply busy_ext)

theorem showJournal_ext (h : s0.Ext s) : s0.Ext s.showJournal := by
  unfold State.showJournal
  repeat' first
    | (with_reducible first
        | assumption | apply ext_ite | apply wrB_ext | apply wrs_ext)
    | (with_reducible apply ext_foldl; on_goal 2 => (intro t x ht; try beta_reduce))
    | (extract_lets +onlyGivenNames x
       refine have hx : State.Ext s0 x := ?_; ?_
       (on_goal 2 => clear_value x)
       subst x)
    | (extract_lets +onlyGivenNames x; first | clear_value x | subst x)

theorem needCompact_ext (h : s0.Ext s) : s0.Ext s.needCompact := by
  unfold State.needCompact
  repeat' first
    | (with_reducible first
        | assumption | apply ext_ite | apply compact_ext)
    | split

theorem writeRecord_ext (h : s0.Ext s) (kind key : Nat) (data : List Byte) {r : State × Nat}
    (e : s.writeRecord kind key data = some r) : s0.Ext r.1 := by
  unfold State.writeRecord at e
  extract_lets q t at e
  split at e
  · rw [← Option.some.inj e]; exact needCompact_ext (showJournal_ext (modMgmt_ext h _))
  · split at e
    · rw [← Option.some.inj e]
      have ht : s0.Ext t := showJournal_ext (modMgmt_ext h _)
      exact ext_ite (intSet_ext ht _ _) ht
    · exact absurd e (by simp)

theorem writeWaiting_ext (h : s0.Ext s) : s0.Ext s.writeWaiting := by
  unfold State.writeWaiting
  repeat' first
    | (with_reducible first
        | assumption | apply ext_ite | apply needCompact_ext | apply showJournal_ext | apply modMgmt_ext)
    | split

theorem compactNow_ext (h : s0.Ext s) (src : Req) : s0.Ext (s.compactNow src) := by
  unfold State.compactNow
  repeat' first
    | (with_reducible first
        | assumption | apply ext_ite | apply errAt_ext | apply compact_ext)
    | split

theorem execCompactNow_ext (h : s0.Ext s) (src : Req) : Res.Ext s0 (execCompactNow src s) := by
  unfold execCompactNow
  repeat' first
    | (with_reducible first
        | assumption | apply res_next | apply res_ite | apply ext_ite | apply compactNow_ext)
    | split

theorem execCompactionDone_ext (h : s0.Ext s) : Res.Ext s0 (execCompactionDone s) := by
  unfold execCompactionDone
  repeat' first
    | (with_reducible first
        | assumption | rfl | apply res_next | apply res_ite | apply ext_ite | apply modMgmt_ext | apply compact_ext
        | apply wrF_ext | apply showJournal_ext | apply intSet_ext)
    | (extract_lets +onlyGivenNames x
       refine have hx : State.Ext s0 x := ?_; ?_
       (on_goal 2 => clear_value x)
       subst x)
    | (extract_lets +onlyGivenNames x; first | clear_value x | subst x)
    | split
    | with_reducible apply ext_mk

theorem execNvRangeReturn_ext (h : s0.Ext s) (nor : Bool) : Res.Ext s0 (execNvRangeReturn nor s) := by
  unfold execNvRangeReturn
  repeat' first
    | (with_reducible first
        | assumption | apply res_next | apply res_ite | apply ext_ite | apply modMgmt_ext | apply writeWaiting_ext)
    | split

theorem nvRange_ext (h : s0.Ext s) (nor inRange : Bool) : s0.Ext (s.nvRange nor inRange) := by
  unfold State.nvRange
  repeat' first
    | (with_reducible first
        | assumption | apply ext_ite | apply wrB_ext | apply count_ext | apply intSet_ext | apply modMgmt_ext
        | apply tally_ext)
    | (extract_lets +onlyGivenNames x
       refine have hx : State.Ext s0 x := ?_; ?_
       (on_goal 2 => clear_value x)
       subst x)
    | (extract_lets +onlyGivenNames x; first | clear_value x | subst x)
    | split

/-! ## Machine/Resets -/

theorem coreClear_ext (h : s0.Ext s) : s0.Ext s.coreClear := by
  unfold State.coreClear
  refine setStCode_ext (wrs_ext (wrs_ext ?_ _) _) _ _
  exact h.step rfl List.prefix_rfl le_rfl fun i =>
    ⟨⟨smWf_smClear _ _ _ i.canon.regs, smWf_smClear _ _ _ i.canon.shadow,
      smWf_smClear _ (fun k => coreKey (k / 8 * 0x1000)) _ i.canon.latchR,
      smWf_smClear _ (fun k => coreKey (k / 8 * 0x1000)) _ i.canon.latchW, smWf_smClear _ _ _ i.canon.frozen, smWf_nil _,
      i.canon.msix, smWf_nil _, smWf_nil _, smWf_nil _⟩, ⟨i.legal.frc, by simp⟩⟩

theorem coreReset_ext (h : s0.Ext s) (cause st : Nat) : s0.Ext (s.coreReset cause st) := by
  unfold State.coreReset
  repeat' first
    | (with_reducible first
        | assumption | rfl | apply ext_ite | apply moduleEndReset_ext | apply coreClear_ext | apply wr_ext
        | apply modMgmt_ext | apply setModule_ext)
    | (with_reducible apply ext_foldl; on_goal 2 => (intro t x ht; try beta_reduce))
    | (extract_lets +onlyGivenNames x
       refine have hx : State.Ext s0 x := ?_; ?_
       (on_goal 2 => clear_value x)
       subst x)
    | (extract_lets +onlyGivenNames x; first | clear_value x | subst x)
    | with_reducible apply ext_mk

theorem countReset_ext (h : s0.Ext s) : s0.Ext s.countReset := by
  unfold State.countReset
  repeat' first
    | (with_reducible first
        | assumption | apply intSet_ext | apply wr_ext)
    | (extract_lets +onlyGivenNames x; first | clear_value x | subst x)

theorem coreSilent_ext (h : s0.Ext s) : s0.Ext s.coreSilent := by
  unfold State.coreSilent
  repeat' first
    | (with_reducible first
        | assumption | apply ext_ite | apply wrF_ext | apply emits_ext | apply emit_ext)
    | (extract_lets +onlyGivenNames x
       refine have hx : State.Ext s0 x := ?_; ?_
       (on_goal 2 => clear_value x)
       subst x)
    | (extract_lets +onlyGivenNames x; first | clear_value x | subst x)
    | split

theorem moduleReset_ext (h : s0.Ext s) (cause : Nat) (halt : Bool) : s0.Ext (s.moduleReset cause halt) := by
  unfold State.moduleReset
  repeat' first
    | (with_reducible first
        | assumption | apply ext_ite | apply stopAll_ext | apply sinksOff_ext | apply coreSilent_ext
        | apply coreReset_ext | apply countReset_ext | apply tally_ext)
    | (extract_lets +onlyGivenNames x
       refine have hx : State.Ext s0 x := ?_; ?_
       (on_goal 2 => clear_value x)
       subst x)
    | (extract_lets +onlyGivenNames x; first | clear_value x | subst x)
    | split

theorem resetCtrl_ext (h : s0.Ext s) (src : Req) (data : Nat) : s0.Ext (s.resetCtrl src data) := by
  unfold State.resetCtrl
  repeat' first
    | (with_reducible first
        | assumption | apply ext_ite | apply errAt_ext | apply moduleReset_ext)
    | split

theorem execResetCtrl_ext (h : s0.Ext s) (src : Req) (data : Nat) : Res.Ext s0 (execResetCtrl src data s) := by
  unfold execResetCtrl
  repeat' first
    | (with_reducible first
        | assumption | apply res_next | apply res_ite | apply ext_ite | apply resetCtrl_ext)
    | split

theorem execCrewWatchdog_ext (h : s0.Ext s) : Res.Ext s0 (execCrewWatchdog s) := by
  unfold execCrewWatchdog
  repeat' first
    | with_reducible first
      | assumption | apply res_next | apply moduleReset_ext

theorem showHead_ext (h : s0.Ext s) : s0.Ext s.showHead := by
  unfold State.showHead
  repeat' first
    | (with_reducible first
        | assumption | apply ext_ite | apply reCondition_ext | apply intSet_ext | apply wr_ext)
    | (extract_lets +onlyGivenNames x; first | clear_value x | subst x)
    | split

theorem headPower_ext (h : s0.Ext s) (src : Req) (data : Nat) : s0.Ext (s.headPower src data) := by
  unfold State.headPower
  repeat' first
    | (with_reducible first
        | assumption | rfl | apply ext_ite | apply errAt_ext | apply showHead_ext | apply wr_ext)
    | (extract_lets +onlyGivenNames x
       refine have hx : State.Ext s0 x := ?_; ?_
       (on_goal 2 => clear_value x)
       subst x)
    | (extract_lets +onlyGivenNames x; first | clear_value x | subst x)
    | split
    | with_reducible apply ext_mk

theorem execHeadPowerControl_ext (h : s0.Ext s) (src : Req) (data : Nat) :
    Res.Ext s0 (execHeadPowerControl src data s) := by
  unfold execHeadPowerControl
  repeat' first
    | (with_reducible first
        | assumption | apply res_next | apply res_ite | apply ext_ite | apply headPower_ext)
    | split

theorem execHeadPowerDeassert_ext (h : s0.Ext s) : Res.Ext s0 (execHeadPowerDeassert s) := by
  unfold execHeadPowerDeassert
  repeat' first
    | (with_reducible first
        | assumption | rfl | apply res_next | apply showHead_ext)
    | (extract_lets +onlyGivenNames x; first | clear_value x | subst x)
    | with_reducible apply ext_mk

theorem execSys24InChange_ext (h : s0.Ext s) (present : Bool) : Res.Ext s0 (execSys24InChange present s) := by
  unfold execSys24InChange
  repeat' first
    | (with_reducible first
        | assumption | rfl | apply res_next | apply res_ite | apply ext_ite | apply wrB_ext | apply adviceOut_ext
        | apply showHead_ext)
    | (with_reducible apply ext_foldl; on_goal 2 => (intro t x ht; try beta_reduce))
    | (extract_lets +onlyGivenNames x
       refine have hx : State.Ext s0 x := ?_; ?_
       (on_goal 2 => clear_value x)
       subst x)
    | (extract_lets +onlyGivenNames x; have y : _ → State := x; clear y; subst x; beta_reduce)
    | (extract_lets +onlyGivenNames x; first | clear_value x | subst x)
    | with_reducible apply ext_mk

theorem dropOutputs_ext (h : s0.Ext s) : s0.Ext s.dropOutputs := by
  unfold State.dropOutputs
  repeat' first
    | (with_reducible first
        | assumption | rfl | apply wr_ext | apply showHead_ext | apply wrF_ext)
    | (extract_lets +onlyGivenNames x
       refine have hx : State.Ext s0 x := ?_; ?_
       (on_goal 2 => clear_value x)
       subst x)
    | (extract_lets +onlyGivenNames x; first | clear_value x | subst x)
    | with_reducible apply ext_mk

theorem railsDown_ext (h : s0.Ext s) : s0.Ext s.railsDown := by
  unfold State.railsDown
  repeat' first
    | (with_reducible first
        | assumption | apply showHead_ext | apply wrF_ext | apply wrB_ext)
    | (extract_lets +onlyGivenNames x; first | clear_value x | subst x)

theorem coreDown_ext (h : s0.Ext s) (cause st : Nat) : s0.Ext (s.coreDown cause st) := by
  unfold State.coreDown
  repeat' first
    | (with_reducible first
        | assumption | apply wrB_ext | apply sinksOff_ext | apply stopAll_ext | apply coreReset_ext
        | apply railsDown_ext | apply dropOutputs_ext)
    | (extract_lets +onlyGivenNames x
       refine have hx : State.Ext s0 x := ?_; ?_
       (on_goal 2 => clear_value x)
       subst x)

theorem startCore_ext (h : s0.Ext s) : s0.Ext s.startCore := by
  unfold State.startCore
  repeat' first
    | (with_reducible first
        | assumption | rfl | apply ext_ite | apply wrB_ext | apply setModule_ext | apply wr_ext)
    | (extract_lets +onlyGivenNames x
       refine have hx : State.Ext s0 x := ?_; ?_
       (on_goal 2 => clear_value x)
       subst x)
    | (extract_lets +onlyGivenNames x; first | clear_value x | subst x)
    | split
    | with_reducible apply ext_mk

theorem showSource24_ext (h : s0.Ext s) : s0.Ext s.showSource24 := by
  unfold State.showSource24
  repeat' first
    | (with_reducible first
        | assumption | apply ext_ite | apply intSet_ext | apply wrB_ext)
    | (extract_lets +onlyGivenNames x; first | clear_value x | subst x)
    | split

theorem wiped_ext (h : s0.Ext s) : s0.Ext s.wiped :=
  h.step rfl List.prefix_rfl le_rfl fun i =>
    ⟨⟨show smWf resetOf State.reset.regs by decide, smWf_nil _, smWf_nil _, smWf_nil _, smWf_nil _, smWf_nil _, smWf_nil _, smWf_nil _, smWf_nil _,
      smWf_nil _⟩, ⟨i.legal.frc, fun _ he => absurd he (List.not_mem_nil)⟩⟩

theorem standbyClear_ext (h : s0.Ext s) : s0.Ext s.standbyClear := by
  unfold State.standbyClear
  repeat' first
    | (with_reducible first
        | assumption | rfl | apply ext_ite | apply wrF_ext | apply wiped_ext | apply wrs_ext | apply drew_ext
        | apply intSet_ext | apply wrB_ext | apply showJournal_ext)
    | (extract_lets +onlyGivenNames x
       refine have hx : State.Ext s0 x := ?_; ?_
       (on_goal 2 => clear_value x)
       subst x)
    | (extract_lets +onlyGivenNames x; first | clear_value x | subst x)
    | split
    | with_reducible apply ext_mk

theorem afterStandby_ext (h : s0.Ext s) (old : Nat) : s0.Ext (s.afterStandby old) := by
  unfold State.afterStandby
  repeat' first
    | (with_reducible first
        | assumption | apply ext_ite | apply wr_ext | apply setStCode_ext | apply intSet_ext | apply tally_ext)
    | (extract_lets +onlyGivenNames x
       refine have hx : State.Ext s0 x := ?_; ?_
       (on_goal 2 => clear_value x)
       subst x)
    | (extract_lets +onlyGivenNames x; first | clear_value x | subst x)
    | split

theorem standbyReset_ext (h : s0.Ext s) (cause arg : Nat) : s0.Ext (s.standbyReset cause arg) := by
  unfold State.standbyReset
  repeat' first
    | (with_reducible first
        | assumption | rfl | apply ext_ite | apply standbyClear_ext | apply wrs_ext | apply modMgmt_ext | apply wr_ext
        | apply afterStandby_ext | apply tally_ext)
    | (extract_lets +onlyGivenNames x
       refine have hx : State.Ext s0 x := ?_; ?_
       (on_goal 2 => clear_value x)
       subst x)
    | (extract_lets +onlyGivenNames x; first | clear_value x | subst x)
    | split
    | with_reducible apply ext_mk

theorem powerReturn_ext (h : s0.Ext s) : s0.Ext s.powerReturn := by
  unfold State.powerReturn
  repeat' first
    | (with_reducible first
        | assumption | rfl | apply ext_ite | apply standbyClear_ext | apply modMgmt_ext | apply wr_ext
        | apply afterStandby_ext | apply tally_ext)
    | (extract_lets +onlyGivenNames x
       refine have hx : State.Ext s0 x := ?_; ?_
       (on_goal 2 => clear_value x)
       subst x)
    | (extract_lets +onlyGivenNames x; first | clear_value x | subst x)
    | with_reducible apply ext_mk

theorem execPowerOnReset_ext (h : s0.Ext s) (mains sb24 : Bool) : Res.Ext s0 (execPowerOnReset mains sb24 s) := by
  unfold execPowerOnReset
  repeat' first
    | (with_reducible first
        | assumption | rfl | apply res_next | apply res_ite | apply ext_ite | apply standbyClear_ext | apply frc_ext
        | apply modMgmt_ext | apply wrB_ext | apply wr_ext | apply afterStandby_ext)
    | (extract_lets +onlyGivenNames x
       refine have hx : State.Ext s0 x := ?_; ?_
       (on_goal 2 => clear_value x)
       subst x)
    | (extract_lets +onlyGivenNames x; first | clear_value x | subst x)
    | split
    | with_reducible apply zeroFrc_ext
    | with_reducible apply ext_mk

theorem checkLog_ext (h : s0.Ext s) (bad : List Nat) : s0.Ext (s.checkLog bad) := by
  unfold State.checkLog
  repeat' first
    | (with_reducible first
        | assumption | rfl | apply ext_ite | apply modMgmt_ext | apply wr_ext)
    | (extract_lets +onlyGivenNames x
       refine have hx : State.Ext s0 x := ?_; ?_
       (on_goal 2 => clear_value x)
       subst x)
    | (extract_lets +onlyGivenNames x; first | clear_value x | subst x)
    | split
    | with_reducible apply ext_mk

theorem execRangerWatchdog_ext (h : s0.Ext s) (bad : List Nat) : Res.Ext s0 (execRangerWatchdog bad s) := by
  unfold execRangerWatchdog
  repeat' first
    | (with_reducible first
        | assumption | apply res_next | apply res_ite | apply ext_ite | apply standbyReset_ext | apply checkLog_ext)
    | split

theorem reboot_ext (h : s0.Ext s) (src : Req) (data : Nat) : s0.Ext (s.reboot src data) := by
  unfold State.reboot
  repeat' first
    | (with_reducible first
        | assumption | apply ext_ite | apply errAt_ext | apply standbyReset_ext)
    | split

theorem execFwReboot_ext (h : s0.Ext s) (src : Req) (data : Nat) : Res.Ext s0 (execFwReboot src data s) := by
  unfold execFwReboot
  repeat' first
    | (with_reducible first
        | assumption | apply res_next | apply res_ite | apply ext_ite | apply reboot_ext)
    | split

/-! ## Machine/Boot -/

theorem setBankSt_ext (h : s0.Ext s) (b v : Nat) : s0.Ext (s.setBankSt b v) := by
  unfold State.setBankSt
  repeat' first
    | with_reducible first
      | assumption | apply wrF_ext

theorem recordBanks_ext (h : s0.Ext s) : s0.Ext s.recordBanks := by
  unfold State.recordBanks
  split
  · rename_i e; exact writeRecord_ext h _ _ _ e
  · exact h

theorem setBankImage_ext (h : s0.Ext s) (b : Nat) (i : Option ImageSet) : s0.Ext (s.setBankImage b i) := by
  unfold State.setBankImage
  repeat' first
    | (with_reducible first
        | assumption | apply ext_ite | apply modMgmt_ext)
    | split

theorem readBanks_ext (h : s0.Ext s) : s0.Ext s.readBanks := by
  unfold State.readBanks
  repeat' first
    | (with_reducible first
        | assumption | apply ext_ite | apply wr_ext)
    | (with_reducible apply ext_foldl; on_goal 2 => (intro t x ht; try beta_reduce))
    | (extract_lets +onlyGivenNames x
       refine have hx : State.Ext s0 x := ?_; ?_
       (on_goal 2 => clear_value x)
       subst x)
    | (extract_lets +onlyGivenNames x; have y : _ → State := x; clear y; subst x; beta_reduce)
    | (extract_lets +onlyGivenNames x; first | clear_value x | subst x)
    | (split; rename_i a b e
       refine have ha : State.Ext s0 a := (congrArg (fun q => State.Ext s0 q.1) e).mp ?_; ?_
       (on_goal 2 => clear e)
       beta_reduce)
    | (split; rename_i a b c e
       refine have ha : State.Ext s0 a := (congrArg (fun q => State.Ext s0 q.1) e).mp ?_; ?_
       (on_goal 2 => clear e)
       beta_reduce)
    | (with_reducible apply ext_foldl_fst; on_goal 2 => (intro q x hq; try beta_reduce))
    | split

theorem loadCrew_ext (h : s0.Ext s) (slot : Nat) (i : ImageSet) : s0.Ext (s.loadCrew slot i) := by
  unfold State.loadCrew
  repeat' first
    | (with_reducible first
        | assumption | rfl | apply ext_ite | apply memWrite_ext | apply modMgmt_ext)
    | with_reducible apply ext_mk

theorem bootCrew_ext (h : s0.Ext s) : s0.Ext s.bootCrew := by
  unfold State.bootCrew
  repeat' first
    | (with_reducible first
        | assumption | apply ext_ite | apply loadCrew_ext)
    | (extract_lets +onlyGivenNames x
       refine have hx : State.Ext s0 x := ?_; ?_
       (on_goal 2 => clear_value x)
       subst x)
    | (extract_lets +onlyGivenNames x; have y : _ → State := x; clear y; subst x; beta_reduce)
    | (extract_lets +onlyGivenNames x; first | clear_value x | subst x)
    | split

theorem showDiffers_ext (h : s0.Ext s) : s0.Ext s.showDiffers := by
  unfold State.showDiffers
  repeat' first
    | (with_reducible first
        | assumption | apply wrB_ext)
    | (extract_lets +onlyGivenNames x; first | clear_value x | subst x)
    | split

theorem rejectBank_ext (h : s0.Ext s) (b : Nat) : s0.Ext (s.rejectBank b) := by
  unfold State.rejectBank
  repeat' first
    | (with_reducible first
        | assumption | apply ext_ite | apply setBankSt_ext | apply recordBanks_ext | apply wrB_ext | apply intSet_ext
        | apply tally_ext)

theorem chooseBank_ext (h : s0.Ext s) (ok : Nat → Bool) : s0.Ext (s.chooseBank ok).1 := by
  unfold State.chooseBank
  repeat' first
    | (with_reducible first
        | assumption | apply ext_ite | apply ext_fst_ite | apply wrF_ext | apply recordBanks_ext
        | apply rejectBank_ext)
    | (extract_lets +onlyGivenNames x
       refine have hx : State.Ext s0 x := ?_; ?_
       (on_goal 2 => clear_value x)
       subst x)
    | (extract_lets +onlyGivenNames x; have y : _ → State := x; clear y; subst x; beta_reduce)
    | (extract_lets +onlyGivenNames x; first | clear_value x | subst x)
    | split

theorem runBank_ext (h : s0.Ext s) (b : Nat) : s0.Ext (s.runBank b) := by
  unfold State.runBank
  repeat' first
    | (with_reducible first
        | assumption | apply modMgmt_ext | apply wr_ext | apply wrB_ext | apply tally_ext | apply showDiffers_ext)
    | (extract_lets +onlyGivenNames x
       refine have hx : State.Ext s0 x := ?_; ?_
       (on_goal 2 => clear_value x)
       subst x)
    | split

theorem scanJournal_ext (h : s0.Ext s) (bad : List Nat) : s0.Ext (s.scanJournal bad) := by
  unfold State.scanJournal
  repeat' first
    | (with_reducible first
        | assumption | rfl | apply ext_ite | apply modMgmt_ext | apply count_ext | apply tally_ext | apply wrF_ext
        | apply showJournal_ext)
    | (with_reducible apply ext_foldl; on_goal 2 => (intro t x ht; try beta_reduce))
    | (extract_lets +onlyGivenNames x
       refine have hx : State.Ext s0 x := ?_; ?_
       (on_goal 2 => clear_value x)
       subst x)
    | (extract_lets +onlyGivenNames x; have y : _ → State := x; clear y; subst x; beta_reduce)
    | (extract_lets +onlyGivenNames x; first | clear_value x | subst x)
    | split
    | with_reducible apply ext_mk

theorem putBoth_ext (h : s0.Ext s) (t k v : Nat) : s0.Ext (s.putBoth t k v) := by
  unfold State.putBoth
  repeat' first
    | (with_reducible first
        | assumption | rfl)
    | (extract_lets +onlyGivenNames x; first | clear_value x | subst x)
    | with_reducible apply ext_mk

theorem putRange_ext (h : s0.Ext s) (t k : Nat) (vs : List Nat) : s0.Ext (s.putRange t k vs) := by
  unfold State.putRange
  repeat' first
    | (with_reducible first
        | assumption | apply putBoth_ext)
    | (with_reducible apply ext_foldl; on_goal 2 => (intro t x ht; try beta_reduce))

theorem restore_ext (h : s0.Ext s) (k v : Nat) : s0.Ext (s.restore k v) := by
  unfold State.restore
  repeat' first
    | (with_reducible first
        | assumption | apply ext_ite | apply wr_ext | apply putShadow_ext)
    | (extract_lets +onlyGivenNames x
       refine have hx : State.Ext s0 x := ?_; ?_
       (on_goal 2 => clear_value x)
       subst x)
    | split

theorem restoreScaler_ext (h : s0.Ext s) (vs : List Nat) : s0.Ext (s.restoreScaler vs) := by
  unfold State.restoreScaler
  repeat' first
    | (with_reducible first
        | assumption | apply ext_ite | apply wr_ext | apply showScaler_ext)
    | (with_reducible apply ext_foldl; on_goal 2 => (intro t x ht; try beta_reduce))
    | (extract_lets +onlyGivenNames x
       refine have hx : State.Ext s0 x := ?_; ?_
       (on_goal 2 => clear_value x)
       subst x)
    | (extract_lets +onlyGivenNames x; have y : _ → State := x; clear y; subst x; beta_reduce)
    | (extract_lets +onlyGivenNames x; first | clear_value x | subst x)
    | split

theorem loadRecord_ext (h : s0.Ext s) (r : JournalRecord) : s0.Ext (s.loadRecord r) := by
  unfold State.loadRecord
  repeat' first
    | (with_reducible first
        | assumption | rfl | apply ext_ite | apply putRange_ext | apply restore_ext | apply restoreScaler_ext)
    | (with_reducible apply ext_foldl; on_goal 2 => (intro t x ht; try beta_reduce))
    | (extract_lets +onlyGivenNames x; have y : _ → State := x; clear y; subst x; beta_reduce)
    | (extract_lets +onlyGivenNames x; first | clear_value x | subst x)
    | split
    | with_reducible apply ext_mk

theorem bootRails_ext (h : s0.Ext s) : s0.Ext s.bootRails := by
  unfold State.bootRails
  repeat' first
    | (with_reducible first
        | assumption | apply ext_ite | apply wrB_ext | apply wrF_ext | apply showHead_ext | apply wr_ext)
    | (with_reducible apply ext_foldl; on_goal 2 => (intro t x ht; try beta_reduce))
    | (extract_lets +onlyGivenNames x
       refine have hx : State.Ext s0 x := ?_; ?_
       (on_goal 2 => clear_value x)
       subst x)
    | (extract_lets +onlyGivenNames x; have y : _ → State := x; clear y; subst x; beta_reduce)
    | (extract_lets +onlyGivenNames x; first | clear_value x | subst x)
    | split

theorem bootDram_ext (h : s0.Ext s) (margins : List (List Nat)) : s0.Ext (s.bootDram margins) := by
  unfold State.bootDram
  repeat' first
    | (with_reducible first
        | assumption | apply ext_ite | apply wrF_ext | apply setStCode_ext | apply fault_ext | apply ready_ext
        | apply errHw_ext)
    | (with_reducible apply ext_foldl; on_goal 2 => (intro t x ht; try beta_reduce))
    | (extract_lets +onlyGivenNames x
       refine have hx : State.Ext s0 x := ?_; ?_
       (on_goal 2 => clear_value x)
       subst x)
    | (extract_lets +onlyGivenNames x; have y : _ → State := x; clear y; subst x; beta_reduce)
    | (extract_lets +onlyGivenNames x; first | clear_value x | subst x)
    | split

theorem startLanes_ext (h : s0.Ext s) : s0.Ext s.startLanes := by
  unfold State.startLanes
  repeat' first
    | (with_reducible first
        | assumption | apply ext_ite | apply enterDetect_ext | apply setHalf_ext)
    | (with_reducible apply ext_foldl; on_goal 2 => (intro t x ht; try beta_reduce))
    | split

theorem startRing_ext (h : s0.Ext s) : s0.Ext s.startRing := by
  unfold State.startRing
  repeat' first
    | (with_reducible first
        | assumption | rfl | apply ext_ite | apply setStCode_ext | apply wrB_ext | apply frc_ext)
    | (extract_lets +onlyGivenNames x
       refine have hx : State.Ext s0 x := ?_; ?_
       (on_goal 2 => clear_value x)
       subst x)
    | (extract_lets +onlyGivenNames x; first | clear_value x | subst x)
    | split
    | with_reducible apply ext_mk

theorem bootRing_ext (h : s0.Ext s) : s0.Ext s.bootRing := by
  unfold State.bootRing
  repeat' first
    | (with_reducible first
        | assumption | apply ext_ite | apply setStCode_ext | apply startRing_ext)
    | split

theorem execBoot_ext (h : s0.Ext s) (b : BootOutcome) : Res.Ext s0 (execBoot b s) := by
  unfold execBoot
  repeat' first
    | (with_reducible first
        | assumption | rfl | apply res_next | apply res_ite | apply ext_ite | apply scanJournal_ext
        | apply readBanks_ext | apply chooseBank_ext | apply emit_ext | apply wrB_ext | apply runBank_ext
        | apply modMgmt_ext | apply bootRails_ext | apply bootDram_ext | apply sinksOff_ext | apply setModule_ext
        | apply bootCrew_ext | apply writeWaiting_ext | apply loadRecord_ext | apply intSet_ext | apply bootRing_ext
        | apply startLanes_ext)
    | (with_reducible apply ext_foldl; on_goal 2 => (intro t x ht; try beta_reduce))
    | (extract_lets +onlyGivenNames x
       refine have hx : State.Ext s0 x := ?_; ?_
       (on_goal 2 => clear_value x)
       subst x)
    | (extract_lets +onlyGivenNames x; first | clear_value x | subst x)
    | (split; rename_i a b e
       refine have ha : State.Ext s0 a := (congrArg (fun q => State.Ext s0 q.1) e).mp ?_; ?_
       (on_goal 2 => clear e)
       beta_reduce)
    | (split; rename_i a b c e
       refine have ha : State.Ext s0 a := (congrArg (fun q => State.Ext s0 q.1) e).mp ?_; ?_
       (on_goal 2 => clear e)
       beta_reduce)
    | (with_reducible apply ext_foldl_fst; on_goal 2 => (intro q x hq; try beta_reduce))
    | split
    | with_reducible apply ext_mk

/-! ## Machine/Power -/

theorem modPwr_ext (h : s0.Ext s) (f : PowerUnit → PowerUnit) : s0.Ext (s.modPwr f) := by
  unfold State.modPwr
  repeat' first
    | (with_reducible first
        | assumption | rfl)
    | (extract_lets +onlyGivenNames x; first | clear_value x | subst x)
    | with_reducible apply ext_mk

theorem execMainsQualified_ext (h : s0.Ext s) : Res.Ext s0 (execMainsQualified s) := by
  unfold execMainsQualified
  repeat' first
    | (with_reducible first
        | assumption | apply res_next | apply res_ite | apply ext_ite | apply degraded_ext | apply wrB_ext
        | apply powerReturn_ext | apply startCore_ext | apply showSource24_ext)
    | (extract_lets +onlyGivenNames x
       refine have hx : State.Ext s0 x := ?_; ?_
       (on_goal 2 => clear_value x)
       subst x)
    | split

theorem execMainsFail_ext (h : s0.Ext s) (bulk : Nat) : Res.Ext s0 (execMainsFail bulk s) := by
  unfold execMainsFail
  repeat' first
    | (with_reducible first
        | assumption | apply res_next | apply res_ite | apply ext_ite | apply wrB_ext | apply wr_ext
        | apply showSource24_ext | apply intSet_ext | apply count_ext | apply setModule_ext | apply modPwr_ext
        | apply coreDown_ext)
    | (extract_lets +onlyGivenNames x
       refine have hx : State.Ext s0 x := ?_; ?_
       (on_goal 2 => clear_value x)
       subst x)
    | (extract_lets +onlyGivenNames x; first | clear_value x | subst x)
    | split

theorem execMainsLow_ext (h : s0.Ext s) (vrms : Nat) : Res.Ext s0 (execMainsLow vrms s) := by
  unfold execMainsLow
  repeat' first
    | (with_reducible first
        | assumption | apply res_next | apply res_ite | apply ext_ite | apply wr_ext | apply intSet_ext
        | apply degraded_ext)
    | (extract_lets +onlyGivenNames x
       refine have hx : State.Ext s0 x := ?_; ?_
       (on_goal 2 => clear_value x)
       subst x)
    | split

theorem execSb24Change_ext (h : s0.Ext s) (good : Bool) (millivolts : Nat) :
    Res.Ext s0 (execSb24Change good millivolts s) := by
  unfold execSb24Change
  repeat' first
    | (with_reducible first
        | assumption | apply res_next | apply res_ite | apply ext_ite | apply wrB_ext | apply wr_ext
        | apply powerReturn_ext | apply setModule_ext)
    | (extract_lets +onlyGivenNames x
       refine have hx : State.Ext s0 x := ?_; ?_
       (on_goal 2 => clear_value x)
       subst x)
    | split

theorem execRailPowerGood_ext (h : s0.Ext s) (r : Rail) : Res.Ext s0 (execRailPowerGood r s) := by
  unfold execRailPowerGood
  repeat' first
    | (with_reducible first
        | assumption | apply res_next | apply res_ite | apply ext_ite | apply showHead_ext | apply wrB_ext)
    | (extract_lets +onlyGivenNames x; first | clear_value x | subst x)
    | split

theorem execRailFault_ext (h : s0.Ext s) (r : Rail) : Res.Ext s0 (execRailFault r s) := by
  unfold execRailFault
  repeat' first
    | (with_reducible first
        | assumption | apply res_next | apply res_ite | apply ext_ite | apply intSet_ext | apply wrB_ext
        | apply standbyReset_ext | apply modPwr_ext | apply wr_ext | apply coreDown_ext)
    | (extract_lets +onlyGivenNames x
       refine have hx : State.Ext s0 x := ?_; ?_
       (on_goal 2 => clear_value x)
       subst x)
    | (extract_lets +onlyGivenNames x; first | clear_value x | subst x)
    | split

theorem powerRestart_ext (h : s0.Ext s) : s0.Ext s.powerRestart := by
  unfold State.powerRestart
  repeat' first
    | with_reducible first
      | assumption | apply startCore_ext | apply modPwr_ext

theorem execPowerRestart_ext (h : s0.Ext s) (src : Req) : Res.Ext s0 (execPowerRestart src s) := by
  unfold execPowerRestart
  repeat' first
    | (with_reducible first
        | assumption | apply res_next | apply res_ite | apply ext_ite | apply powerRestart_ext)
    | split

theorem setRelease_ext (h : s0.Ext s) (k v : Nat) : s0.Ext (s.setRelease k v) := by
  unfold State.setRelease
  repeat' first
    | with_reducible first
      | assumption | apply modPwr_ext

theorem abandonErase_ext (h : s0.Ext s) : s0.Ext s.abandonErase := by
  unfold State.abandonErase
  repeat' first
    | (with_reducible first
        | assumption | rfl | apply ext_ite | apply setBankSt_ext | apply modMgmt_ext | apply recordBanks_ext
        | apply wrF_ext | apply busy_ext | apply intSet_ext | apply tally_ext)
    | (extract_lets +onlyGivenNames x
       refine have hx : State.Ext s0 x := ?_; ?_
       (on_goal 2 => clear_value x)
       subst x)
    | (extract_lets +onlyGivenNames x; first | clear_value x | subst x)
    | split
    | with_reducible apply ext_mk

theorem moduleTrip_ext (h : s0.Ext s) (sensor : Nat) : s0.Ext (s.moduleTrip sensor) := by
  unfold State.moduleTrip
  repeat' first
    | (with_reducible first
        | assumption | apply ext_ite | apply modPwr_ext | apply wrF_ext | apply wrB_ext | apply setRelease_ext
        | apply count_ext | apply tally_ext | apply wr_ext | apply stopAll_ext | apply sinksOff_ext
        | apply abandonErase_ext | apply railsDown_ext | apply dropOutputs_ext | apply countReset_ext
        | apply coreReset_ext)
    | (extract_lets +onlyGivenNames x
       refine have hx : State.Ext s0 x := ?_; ?_
       (on_goal 2 => clear_value x)
       subst x)
    | split

theorem execThermalTrip_ext (h : s0.Ext s) (inlet : Bool) : Res.Ext s0 (execThermalTrip inlet s) := by
  unfold execThermalTrip
  repeat' first
    | with_reducible first
      | assumption | apply res_next | apply moduleTrip_ext

theorem execTripRestart_ext (h : s0.Ext s) : Res.Ext s0 (execTripRestart s) := by
  unfold execTripRestart
  repeat' first
    | (with_reducible first
        | assumption | apply res_next | apply res_ite | apply ext_ite | apply modPwr_ext | apply wrF_ext
        | apply wrB_ext | apply startCore_ext | apply tally_ext | apply wr_ext)
    | (extract_lets +onlyGivenNames x
       refine have hx : State.Ext s0 x := ?_; ?_
       (on_goal 2 => clear_value x)
       subst x)
    | split

theorem lampTrip_ext (h : s0.Ext s) (g : Nat) : s0.Ext (s.lampTrip g) := by
  unfold State.lampTrip
  repeat' first
    | (with_reducible first
        | assumption | apply ext_ite | apply intSet_ext | apply wrB_ext | apply tally_ext | apply setRelease_ext
        | apply groupTrip_ext)
    | (extract_lets +onlyGivenNames x
       refine have hx : State.Ext s0 x := ?_; ?_
       (on_goal 2 => clear_value x)
       subst x)
    | split

theorem execLampTrip_ext (h : s0.Ext s) (g : Fin 4) : Res.Ext s0 (execLampTrip g s) := by
  unfold execLampTrip
  repeat' first
    | with_reducible first
      | assumption | apply res_next | apply lampTrip_ext

theorem execTripLatchClear_ext (h : s0.Ext s) (g : Fin 4) : Res.Ext s0 (execTripLatchClear g s) := by
  unfold execTripLatchClear
  repeat' first
    | (with_reducible first
        | assumption | apply res_next | apply res_ite | apply ext_ite | apply wrB_ext)
    | split

theorem countRelease_ext (h : s0.Ext s) (k : Nat) (limit : Int) (v : Option Int) :
    s0.Ext (s.countRelease k limit v) := by
  unfold State.countRelease
  repeat' first
    | (with_reducible first
        | assumption | apply ext_ite | apply setRelease_ext)
    | (extract_lets +onlyGivenNames x; first | clear_value x | subst x)
    | split

theorem releases_ext (h : s0.Ext s) (i : Nat) (v : Option Int) : s0.Ext (s.releases i v) := by
  unfold State.releases
  repeat' first
    | (with_reducible first
        | assumption | apply ext_ite | apply countRelease_ext)
    | split

theorem sensorActs_ext (h : s0.Ext s) (i : Nat) (lost : Bool) : s0.Ext (s.sensorActs i lost) := by
  unfold State.sensorActs
  repeat' first
    | (with_reducible first
        | assumption | apply ext_ite | apply moduleTrip_ext | apply showStep_ext | apply intSet_ext | apply wrB_ext
        | apply lampTrip_ext)
    | (with_reducible apply ext_foldl; on_goal 2 => (intro t x ht; try beta_reduce))
    | (extract_lets +onlyGivenNames x
       refine have hx : State.Ext s0 x := ?_; ?_
       (on_goal 2 => clear_value x)
       subst x)
    | (extract_lets +onlyGivenNames x; first | clear_value x | subst x)
    | split

theorem execSensorSample_ext (h : s0.Ext s) (sensor : Sensor) (readings : List (Option Int)) :
    Res.Ext s0 (execSensorSample sensor readings s) := by
  unfold execSensorSample
  repeat' first
    | (with_reducible first
        | assumption | rfl | apply res_next | apply res_ite | apply ext_ite | apply intSet_ext | apply wrB_ext
        | apply modPwr_ext | apply wrF_ext | apply wr_ext | apply dwellSample_ext | apply releases_ext
        | apply sensorActs_ext)
    | (with_reducible apply ext_foldl; on_goal 2 => (intro t x ht; try beta_reduce))
    | (extract_lets +onlyGivenNames x
       refine have hx : State.Ext s0 x := ?_; ?_
       (on_goal 2 => clear_value x)
       subst x)
    | (extract_lets +onlyGivenNames x; have y : _ → State := x; clear y; subst x; beta_reduce)
    | (extract_lets +onlyGivenNames x; first | clear_value x | subst x)
    | (split; rename_i a b e
       refine have ha : State.Ext s0 a := (congrArg (fun q => State.Ext s0 q.1) e).mp ?_; ?_
       (on_goal 2 => clear e)
       beta_reduce)
    | (split; rename_i a b c e
       refine have ha : State.Ext s0 a := (congrArg (fun q => State.Ext s0 q.1) e).mp ?_; ?_
       (on_goal 2 => clear e)
       beta_reduce)
    | (with_reducible apply ext_foldl_fst; on_goal 2 => (intro q x hq; try beta_reduce))
    | split
    | with_reducible apply ext_mk

theorem showSteps_ext (h : s0.Ext s) : s0.Ext s.showSteps := by
  unfold State.showSteps
  repeat' first
    | (with_reducible first
        | assumption | apply ext_ite | apply intSet_ext | apply wr_ext)
    | (with_reducible apply ext_foldl; on_goal 2 => (intro t x ht; try beta_reduce))
    | (extract_lets +onlyGivenNames x
       refine have hx : State.Ext s0 x := ?_; ?_
       (on_goal 2 => clear_value x)
       subst x)
    | (extract_lets +onlyGivenNames x; first | clear_value x | subst x)
    | split

theorem condActs_ext (h : s0.Ext s) (k inst : Nat) : s0.Ext (s.condActs k inst) := by
  unfold State.condActs
  repeat' first
    | (with_reducible first
        | assumption | apply ext_ite | apply intSet_ext | apply wrB_ext | apply showStep_ext | apply showSteps_ext
        | apply nvRange_ext | apply groupNtc_ext)
    | (with_reducible apply ext_foldl; on_goal 2 => (intro t x ht; try beta_reduce))
    | (extract_lets +onlyGivenNames x
       refine have hx : State.Ext s0 x := ?_; ?_
       (on_goal 2 => clear_value x)
       subst x)
    | split

theorem execThresholdDwell_ext (h : s0.Ext s) (k : Fin 17) (inst : Nat) :
    Res.Ext s0 (execThresholdDwell k inst s) := by
  unfold execThresholdDwell
  repeat' first
    | (with_reducible first
        | assumption | apply res_next | apply res_ite | apply ext_ite | apply condActs_ext | apply setDwell_ext)
    | (extract_lets +onlyGivenNames x; first | clear_value x | subst x)
    | split

theorem stopAssert_ext (h : s0.Ext s) : s0.Ext s.stopAssert := by
  unfold State.stopAssert
  repeat' first
    | (with_reducible first
        | assumption | apply ext_ite | apply tally_ext | apply modPwr_ext | apply lampsStop_ext | apply stopAll_ext
        | apply endRun_ext)
    | (extract_lets +onlyGivenNames x
       refine have hx : State.Ext s0 x := ?_; ?_
       (on_goal 2 => clear_value x)
       subst x)
    | (extract_lets +onlyGivenNames x; first | clear_value x | subst x)
    | split

theorem execStopIn_ext (h : s0.Ext s) (b : Bool) : Res.Ext s0 (execStopIn b s) := by
  unfold execStopIn
  repeat' first
    | (with_reducible first
        | assumption | apply res_next | apply res_ite | apply ext_ite | apply modPwr_ext | apply stopAssert_ext)
    | (extract_lets +onlyGivenNames x
       refine have hx : State.Ext s0 x := ?_; ?_
       (on_goal 2 => clear_value x)
       subst x)
    | split

theorem execStopInRelease_ext (h : s0.Ext s) : Res.Ext s0 (execStopInRelease s) := by
  unfold execStopInRelease
  repeat' first
    | (with_reducible first
        | assumption | apply res_next | apply res_ite | apply ext_ite | apply modPwr_ext | apply wrB_ext)
    | (with_reducible apply ext_foldl; on_goal 2 => (intro t x ht; try beta_reduce))
    | (extract_lets +onlyGivenNames x
       refine have hx : State.Ext s0 x := ?_; ?_
       (on_goal 2 => clear_value x)
       subst x)
    | split

theorem execStopInDiscrepancy_ext (h : s0.Ext s) : Res.Ext s0 (execStopInDiscrepancy s) := by
  unfold execStopInDiscrepancy
  repeat' first
    | (with_reducible first
        | assumption | apply res_next | apply res_ite | apply ext_ite | apply modPwr_ext)
    | split

/-! ## Machine/Dram -/

theorem refs_ext (h : s0.Ext s) (d n : Nat) (forced : Bool) : s0.Ext (s.refs d n forced) := by
  unfold State.refs
  repeat' first
    | (with_reducible first
        | assumption | apply ext_ite | apply wr_ext | apply closeRows_ext | apply setDebt_ext | apply dramCmds_ext
        | apply emit_ext)
    | (extract_lets +onlyGivenNames x
       refine have hx : State.Ext s0 x := ?_; ?_
       (on_goal 2 => clear_value x)
       subst x)
    | (extract_lets +onlyGivenNames x; first | clear_value x | subst x)
    | split

theorem execDramRefresh_ext (h : s0.Ext s) (d : Fin 6) (elapsed : Nat) (pull : Bool) :
    Res.Ext s0 (execDramRefresh d elapsed pull s) := by
  unfold execDramRefresh
  repeat' first
    | (with_reducible first
        | assumption | apply res_next | apply res_ite | apply ext_ite | apply flushWrites_ext | apply setDebt_ext
        | apply refs_ext)
    | (extract_lets +onlyGivenNames x
       refine have hx : State.Ext s0 x := ?_; ?_
       (on_goal 2 => clear_value x)
       subst x)
    | (extract_lets +onlyGivenNames x; first | clear_value x | subst x)
    | split

theorem execForcedRefresh_ext (h : s0.Ext s) (d : Fin 6) (elapsed : Nat) :
    Res.Ext s0 (execForcedRefresh d elapsed s) := by
  unfold execForcedRefresh
  repeat' first
    | (with_reducible first
        | assumption | apply res_next | apply res_ite | apply ext_ite | apply setDebt_ext | apply refs_ext)
    | (extract_lets +onlyGivenNames x
       refine have hx : State.Ext s0 x := ?_; ?_
       (on_goal 2 => clear_value x)
       subst x)
    | (extract_lets +onlyGivenNames x; first | clear_value x | subst x)
    | split

theorem setHot_ext (h : s0.Ext s) (d : Nat) (b : Bool) : s0.Ext (s.setHot d b) := by
  unfold State.setHot
  repeat' first
    | (with_reducible first
        | assumption | apply intSet_ext | apply wrB_ext | apply setDebt_ext)
    | (extract_lets +onlyGivenNames x
       refine have hx : State.Ext s0 x := ?_; ?_
       (on_goal 2 => clear_value x)
       subst x)

theorem payExcess_ext (h : s0.Ext s) (d : Nat) : s0.Ext (s.payExcess d) := by
  unfold State.payExcess
  repeat' first
    | (with_reducible first
        | assumption | apply ext_ite | apply intSet_ext | apply refs_ext | apply wr_ext)
    | (extract_lets +onlyGivenNames x
       refine have hx : State.Ext s0 x := ?_; ?_
       (on_goal 2 => clear_value x)
       subst x)
    | (extract_lets +onlyGivenNames x; first | clear_value x | subst x)
    | split

theorem startRetrain_ext (h : s0.Ext s) (d : Nat) : s0.Ext (s.startRetrain d) := by
  unfold State.startRetrain
  repeat' first
    | (with_reducible first
        | assumption | apply ext_ite | apply busy_ext | apply setDramCh_ext)
    | (extract_lets +onlyGivenNames x; first | clear_value x | subst x)
    | split

theorem execDramTempRead_ext (h : s0.Ext s) (d : Fin 6) (temp : Int) : Res.Ext s0 (execDramTempRead d temp s) := by
  unfold execDramTempRead
  repeat' first
    | (with_reducible first
        | assumption | apply res_next | apply res_ite | apply ext_ite | apply wr_ext | apply setDramCh_ext
        | apply payExcess_ext | apply setHot_ext | apply startRetrain_ext)
    | (extract_lets +onlyGivenNames x
       refine have hx : State.Ext s0 x := ?_; ?_
       (on_goal 2 => clear_value x)
       subst x)
    | (extract_lets +onlyGivenNames x; first | clear_value x | subst x)
    | split

theorem execHotExit_ext (h : s0.Ext s) (d : Fin 6) : Res.Ext s0 (execHotExit d s) := by
  unfold execHotExit
  repeat' first
    | (with_reducible first
        | assumption | apply res_next | apply res_ite | apply ext_ite | apply setHot_ext)
    | split

theorem restoreDram_ext (h : s0.Ext s) (d : Nat) : s0.Ext (s.restoreDram d) := by
  unfold State.restoreDram
  repeat' first
    | (with_reducible first
        | assumption | apply ext_ite | apply wrB_ext | apply fault_ext | apply degraded_ext | apply setStCode_ext
        | apply wrF_ext | apply setDramCh_ext)
    | (extract_lets +onlyGivenNames x
       refine have hx : State.Ext s0 x := ?_; ?_
       (on_goal 2 => clear_value x)
       subst x)
    | (extract_lets +onlyGivenNames x; first | clear_value x | subst x)
    | split

theorem failDram_ext (h : s0.Ext s) (d : Nat) : s0.Ext (s.failDram d) := by
  unfold State.failDram
  repeat' first
    | (with_reducible first
        | assumption | apply ext_ite | apply errHw_ext | apply fault_ext | apply ready_ext | apply setStCode_ext
        | apply scheduleStop_ext | apply intSet_ext)
    | (extract_lets +onlyGivenNames x
       refine have hx : State.Ext s0 x := ?_; ?_
       (on_goal 2 => clear_value x)
       subst x)
    | (extract_lets +onlyGivenNames x; first | clear_value x | subst x)
    | split

theorem shareClass_ext (h : s0.Ext s) (d : Nat) (cs : List Nat) : s0.Ext (s.shareClass d cs).1 := by
  unfold State.shareClass
  repeat' first
    | (with_reducible first
        | assumption | rfl | apply ext_ite | apply ext_fst_ite | apply setDramCh_ext)
    | (extract_lets +onlyGivenNames x
       refine have hx : State.Ext s0 x := ?_; ?_
       (on_goal 2 => clear_value x)
       subst x)
    | (extract_lets +onlyGivenNames x; have y : _ → State := x; clear y; subst x; beta_reduce)
    | (extract_lets +onlyGivenNames x; first | clear_value x | subst x)
    | (split; rename_i a b e
       refine have ha : State.Ext s0 a := (congrArg (fun q => State.Ext s0 q.1) e).mp ?_; ?_
       (on_goal 2 => clear e)
       beta_reduce)
    | (split; rename_i a b c e
       refine have ha : State.Ext s0 a := (congrArg (fun q => State.Ext s0 q.1) e).mp ?_; ?_
       (on_goal 2 => clear e)
       beta_reduce)
    | split
    | with_reducible apply ext_mk

theorem nextRead_ext (h : s0.Ext s) (d : Nat) (l : List DramReq) : s0.Ext (s.nextRead d l).1 := by
  unfold State.nextRead
  repeat' first
    | (with_reducible first
        | assumption | apply ext_ite | apply ext_fst_ite | apply frc_ext | apply shareClass_ext)
    | (extract_lets +onlyGivenNames x
       refine have hx : State.Ext s0 x := ?_; ?_
       (on_goal 2 => clear_value x)
       subst x)
    | (extract_lets +onlyGivenNames x; have y : _ → State := x; clear y; subst x; beta_reduce)
    | (extract_lets +onlyGivenNames x; first | clear_value x | subst x)
    | (split; rename_i a b e
       refine have ha : State.Ext s0 a := (congrArg (fun q => State.Ext s0 q.1) e).mp ?_; ?_
       (on_goal 2 => clear e)
       beta_reduce)
    | (split; rename_i a b c e
       refine have ha : State.Ext s0 a := (congrArg (fun q => State.Ext s0 q.1) e).mp ?_; ?_
       (on_goal 2 => clear e)
       beta_reduce)
    | split

theorem serveRead_ext (h : s0.Ext s) (d : Nat) (r : DramReq) : s0.Ext (s.serveRead d r) := by
  unfold State.serveRead
  repeat' first
    | (with_reducible first
        | assumption | apply ext_ite | apply till_ext | apply burst_ext | apply frc_ext | apply count_ext
        | apply wr_ext | apply drew_ext | apply dramOutcome_ext | apply emit_ext | apply answer_ext)
    | (extract_lets +onlyGivenNames x
       refine have hx : State.Ext s0 x := ?_; ?_
       (on_goal 2 => clear_value x)
       subst x)
    | (extract_lets +onlyGivenNames x; first | clear_value x | subst x)
    | split

theorem serveReads_ext (h : s0.Ext s) (d : Nat) (l : List DramReq) (n : Nat) : s0.Ext (s.serveReads d l n) := by
  induction n generalizing s l with
  | zero => exact h
  | succ n ih =>
    have k := nextRead_ext h d l
    unfold State.serveReads
    split
    · rename_i e; rw [e] at k; exact k
    · rename_i e; rw [e] at k; exact ih (serveRead_ext k _ _) _

theorem execDramRead_ext (h : s0.Ext s) (reqs : List DramReq) (t : Nat) : Res.Ext s0 (execDramRead reqs t s) :=
  ext_foldl (answer_ext (till_ext h t) _) fun _ _ ht => ext_ite (serveReads_ext ht _ _ _) ht

theorem tilesLose_ext (h : s0.Ext s) (a : Nat) : s0.Ext (s.tilesLose a) := by
  unfold State.tilesLose
  repeat' first
    | (with_reducible first
        | assumption | rfl | apply ext_ite | apply rowsLose_ext)
    | with_reducible apply ext_mk

theorem execScrubRead_ext (h : s0.Ext s) (d : Fin 6) (ecc : Ecc) (word : Fin 8) :
    Res.Ext s0 (execScrubRead d ecc word s) := by
  unfold execScrubRead
  repeat' first
    | (with_reducible first
        | assumption | apply res_next | apply res_ite | apply ext_ite | apply drew_ext | apply burst_ext
        | apply dramOutcome_ext | apply tilesLose_ext | apply wr_ext | apply count_ext)
    | (extract_lets +onlyGivenNames x
       refine have hx : State.Ext s0 x := ?_; ?_
       (on_goal 2 => clear_value x)
       subst x)
    | (extract_lets +onlyGivenNames x; first | clear_value x | subst x)
    | split

theorem scrubRestart_ext (h : s0.Ext s) (d : Nat) : s0.Ext (s.scrubRestart d) := by
  unfold State.scrubRestart
  repeat' first
    | with_reducible first
      | assumption | apply wr_ext

theorem execScrubRestart_ext (h : s0.Ext s) (src : Req) (d : Fin 6) : Res.Ext s0 (execScrubRestart src d s) := by
  unfold execScrubRestart
  repeat' first
    | (with_reducible first
        | assumption | apply res_next | apply res_ite | apply ext_ite | apply scrubRestart_ext)
    | split

theorem alert_ext (h : s0.Ext s) (d key bit replays : Nat) (cmds : List (Nat × Nat)) (cleared : Bool) :
    s0.Ext (s.alert d key bit replays cmds cleared) := by
  unfold State.alert
  repeat' first
    | (with_reducible first
        | assumption | apply ext_ite | apply count_ext | apply intSet_ext | apply wr_ext | apply emits_ext
        | apply failDram_ext)
    | (extract_lets +onlyGivenNames x
       refine have hx : State.Ext s0 x := ?_; ?_
       (on_goal 2 => clear_value x)
       subst x)
    | (extract_lets +onlyGivenNames x; first | clear_value x | subst x)
    | split

theorem execParityAlert_ext (h : s0.Ext s) (d : Fin 6) (after replays : Nat) (cleared : Bool) :
    Res.Ext s0 (execParityAlert d after replays cleared s) := by
  unfold execParityAlert
  repeat' first
    | (with_reducible first
        | assumption | apply res_next | apply res_ite | apply ext_ite | apply closeRows_ext | apply alert_ext)
    | (extract_lets +onlyGivenNames x
       refine have hx : State.Ext s0 x := ?_; ?_
       (on_goal 2 => clear_value x)
       subst x)
    | (extract_lets +onlyGivenNames x; first | clear_value x | subst x)
    | split

theorem execWcrcAlert_ext (h : s0.Ext s) (d : Fin 6) (after replays : Nat) (cleared : Bool) :
    Res.Ext s0 (execWcrcAlert d after replays cleared s) := by
  unfold execWcrcAlert
  repeat' first
    | (with_reducible first
        | assumption | apply res_next | apply res_ite | apply ext_ite | apply alert_ext)
    | (extract_lets +onlyGivenNames x
       refine have hx : State.Ext s0 x := ?_; ?_
       (on_goal 2 => clear_value x)
       subst x)
    | (extract_lets +onlyGivenNames x; first | clear_value x | subst x)
    | split

theorem execRetrainInterval_ext (h : s0.Ext s) (d : Fin 6) : Res.Ext s0 (execRetrainInterval d s) := by
  unfold execRetrainInterval
  repeat' first
    | with_reducible first
      | assumption | apply res_next | apply startRetrain_ext

theorem execRetrainNow_ext (h : s0.Ext s) (src : Req) (d : Fin 6) : Res.Ext s0 (execRetrainNow src d s) := by
  unfold execRetrainNow
  repeat' first
    | (with_reducible first
        | assumption | apply res_next | apply res_ite | apply ext_ite | apply startRetrain_ext)
    | split

theorem execRetrainSlice_ext (h : s0.Ext s) (d : Fin 6) : Res.Ext s0 (execRetrainSlice d s) := by
  unfold execRetrainSlice
  repeat' first
    | (with_reducible first
        | assumption | apply res_next | apply res_ite | apply ext_ite | apply emit_ext | apply setDramCh_ext)
    | (extract_lets +onlyGivenNames x; first | clear_value x | subst x)
    | split

theorem retrainPass_ext (h : s0.Ext s) (d : Nat) : s0.Ext (s.retrainPass d) := by
  unfold State.retrainPass
  repeat' first
    | (with_reducible first
        | assumption | apply ext_ite | apply wrF_ext | apply setDramCh_ext | apply restoreDram_ext)
    | (extract_lets +onlyGivenNames x
       refine have hx : State.Ext s0 x := ?_; ?_
       (on_goal 2 => clear_value x)
       subst x)
    | (extract_lets +onlyGivenNames x; first | clear_value x | subst x)
    | split

theorem execRetrainComplete_ext (h : s0.Ext s) (d : Fin 6) (pass : Bool) (margin lane : Nat) :
    Res.Ext s0 (execRetrainComplete d pass margin lane s) := by
  unfold execRetrainComplete
  repeat' first
    | (with_reducible first
        | assumption | apply res_next | apply res_ite | apply ext_ite | apply setStCode_ext | apply busy_ext
        | apply setDramCh_ext | apply wrF_ext | apply count_ext | apply retrainPass_ext | apply ready_ext
        | apply errHw_ext | apply intSet_ext | apply degradeDram_ext)
    | (extract_lets +onlyGivenNames x
       refine have hx : State.Ext s0 x := ?_; ?_
       (on_goal 2 => clear_value x)
       subst x)
    | (extract_lets +onlyGivenNames x; first | clear_value x | subst x)
    | split

theorem execClearDegraded_ext (h : s0.Ext s) (src : Req) (d : Fin 6) : Res.Ext s0 (execClearDegraded src d s) := by
  unfold execClearDegraded
  repeat' first
    | (with_reducible first
        | assumption | apply res_next | apply res_ite | apply ext_ite | apply restoreDram_ext)
    | split

theorem execScheduledStop_ext (h : s0.Ext s) : Res.Ext s0 (execScheduledStop s) := by
  unfold execScheduledStop
  repeat' first
    | (with_reducible first
        | assumption | rfl | apply res_next | apply res_ite | apply ext_ite | apply drainAt_ext | apply endRun_ext
        | apply enterSafe_ext | apply askChange_ext)
    | (extract_lets +onlyGivenNames x; first | clear_value x | subst x)
    | split
    | with_reducible apply ext_mk

theorem execRetireRequestRepeat_ext (h : s0.Ext s) : Res.Ext s0 (execRetireRequestRepeat s) := by
  unfold execRetireRequestRepeat
  repeat' first
    | (with_reducible first
        | assumption | apply res_next | apply res_ite | apply ext_ite | apply askChange_ext)
    | split

theorem dramPark_ext (h : s0.Ext s) : s0.Ext s.dramPark := by
  unfold State.dramPark
  repeat' first
    | (with_reducible first
        | assumption | rfl | apply ext_ite | apply flushWrites_ext | apply refs_ext | apply closeRows_ext
        | apply dramCmds_ext | apply setDebt_ext | apply setDramCh_ext | apply setStCode_ext | apply busy_ext
        | apply wrB_ext)
    | (with_reducible apply ext_foldl; on_goal 2 => (intro t x ht; try beta_reduce))
    | (extract_lets +onlyGivenNames x
       refine have hx : State.Ext s0 x := ?_; ?_
       (on_goal 2 => clear_value x)
       subst x)
    | (extract_lets +onlyGivenNames x; have y : _ → State := x; clear y; subst x; beta_reduce)
    | (extract_lets +onlyGivenNames x; first | clear_value x | subst x)
    | split
    | with_reducible apply ext_mk

theorem dramResume_ext (h : s0.Ext s) : s0.Ext s.dramResume := by
  unfold State.dramResume
  repeat' first
    | (with_reducible first
        | assumption | rfl | apply ext_ite | apply wrB_ext | apply dramCmds_ext | apply setDramCh_ext
        | apply setStCode_ext | apply busy_ext)
    | (with_reducible apply ext_foldl; on_goal 2 => (intro t x ht; try beta_reduce))
    | (extract_lets +onlyGivenNames x
       refine have hx : State.Ext s0 x := ?_; ?_
       (on_goal 2 => clear_value x)
       subst x)
    | (extract_lets +onlyGivenNames x; have y : _ → State := x; clear y; subst x; beta_reduce)
    | (extract_lets +onlyGivenNames x; first | clear_value x | subst x)
    | split
    | with_reducible apply ext_mk

/-! ## Machine/Firmware -/

theorem fwStatus_ext (h : s0.Ext s) (op st progress code : Nat) : s0.Ext (s.fwStatus op st progress code) := by
  unfold State.fwStatus
  repeat' first
    | with_reducible first
      | assumption | apply wr_ext

theorem fwDone_ext (h : s0.Ext s) (op : Nat) : s0.Ext (s.fwDone op) := by
  unfold State.fwDone
  repeat' first
    | with_reducible first
      | assumption | apply intSet_ext | apply fwStatus_ext

theorem fwRefuse_ext (h : s0.Ext s) (op code : Nat) (src : Req) : s0.Ext (s.fwRefuse op code src) := by
  unfold State.fwRefuse
  repeat' first
    | with_reducible first
      | assumption | apply intSet_ext | apply errAt_ext | apply fwStatus_ext

theorem fwFail_ext (h : s0.Ext s) (op code : Nat) : s0.Ext (s.fwFail op code) := by
  unfold State.fwFail
  repeat' first
    | (with_reducible first
        | assumption | apply ext_ite | apply intSet_ext | apply fwStatus_ext | apply errHw_ext)
    | (extract_lets +onlyGivenNames x
       refine have hx : State.Ext s0 x := ?_; ?_
       (on_goal 2 => clear_value x)
       subst x)
    | split

theorem fwStart_ext (h : s0.Ext s) (op bank : Nat) : s0.Ext (s.fwStart op bank) := by
  unfold State.fwStart
  repeat' first
    | (with_reducible first
        | assumption | rfl | apply ext_ite | apply fwStatus_ext | apply modMgmt_ext | apply busy_ext)
    | with_reducible apply ext_mk

theorem fwEnd_ext (h : s0.Ext s) : s0.Ext s.fwEnd := by
  unfold State.fwEnd
  repeat' first
    | (with_reducible first
        | assumption | rfl | apply ext_ite | apply modMgmt_ext | apply busy_ext)
    | with_reducible apply ext_mk

theorem fwTry_ext (h : s0.Ext s) (src : Req) (op : Nat) (f : State → State) (hf : ∀ t, s0.Ext t → s0.Ext (f t)) :
    s0.Ext (s.fwTry src op f) := by
  unfold State.fwTry
  repeat' first
    | (with_reducible first
        | assumption | apply ext_ite | apply fwRefuse_ext | apply hf)
    | split

theorem pend_ext (h : s0.Ext s) (b : Nat) : s0.Ext (s.pend b) := by
  unfold State.pend
  repeat' first
    | (with_reducible first
        | assumption | apply ext_ite | apply setBankSt_ext | apply wrF_ext | apply recordBanks_ext)

theorem eraseWrite_ext (h : s0.Ext s) (src : Req) : s0.Ext (s.eraseWrite src) := by
  unfold State.eraseWrite
  repeat' first
    | (with_reducible first
        | assumption | apply ext_ite | apply fwTry_ext | apply fwRefuse_ext | apply fwStart_ext
        | apply recordBanks_ext | apply emit_ext)
    | (extract_lets +onlyGivenNames x
       refine have hx : State.Ext s0 x := ?_; ?_
       (on_goal 2 => clear_value x)
       subst x)
    | (extract_lets +onlyGivenNames x; have y : _ → State := x; clear y; subst x; beta_reduce)
    | (extract_lets +onlyGivenNames x; first | clear_value x | subst x)
    | (intro t; intros; try beta_reduce)
    | split

theorem execEraseWrite_ext (h : s0.Ext s) (src : Req) : Res.Ext s0 (execEraseWrite src s) := by
  unfold execEraseWrite
  repeat' first
    | (with_reducible first
        | assumption | apply res_next | apply res_ite | apply ext_ite | apply eraseWrite_ext)
    | split

theorem fwVerify_ext (h : s0.Ext s) (src : Req) : s0.Ext (s.fwVerify src) := by
  unfold State.fwVerify
  repeat' first
    | (with_reducible first
        | assumption | apply ext_ite | apply fwTry_ext | apply fwRefuse_ext | apply setBankSt_ext
        | apply recordBanks_ext | apply fwFail_ext | apply fwDone_ext)
    | (extract_lets +onlyGivenNames x
       refine have hx : State.Ext s0 x := ?_; ?_
       (on_goal 2 => clear_value x)
       subst x)
    | (extract_lets +onlyGivenNames x; have y : _ → State := x; clear y; subst x; beta_reduce)
    | (extract_lets +onlyGivenNames x; first | clear_value x | subst x)
    | (intro t; intros; try beta_reduce)
    | split

theorem execFwVerify_ext (h : s0.Ext s) (src : Req) : Res.Ext s0 (execFwVerify src s) := by
  unfold execFwVerify
  repeat' first
    | (with_reducible first
        | assumption | apply res_next | apply res_ite | apply ext_ite | apply fwVerify_ext)
    | split

theorem fwActivate_ext (h : s0.Ext s) (src : Req) : s0.Ext (s.fwActivate src) := by
  unfold State.fwActivate
  repeat' first
    | (with_reducible first
        | assumption | apply ext_ite | apply fwTry_ext | apply fwRefuse_ext | apply fwDone_ext | apply pend_ext)
    | (intro t ht; try beta_reduce)
    | split

theorem execFwActivate_ext (h : s0.Ext s) (src : Req) : Res.Ext s0 (execFwActivate src s) := by
  unfold execFwActivate
  repeat' first
    | (with_reducible first
        | assumption | apply res_next | apply res_ite | apply ext_ite | apply fwActivate_ext)
    | split

theorem belowFloor_ext (h : s0.Ext s) (b : Nat) : s0.Ext (s.belowFloor b) := by
  unfold State.belowFloor
  repeat' first
    | (with_reducible first
        | assumption | apply ext_ite | apply setBankSt_ext)
    | split

theorem fwConfirm_ext (h : s0.Ext s) (src : Req) : s0.Ext (s.fwConfirm src) := by
  unfold State.fwConfirm
  repeat' first
    | (with_reducible first
        | assumption | apply ext_ite | apply fwRefuse_ext | apply setBankSt_ext | apply wrF_ext | apply belowFloor_ext
        | apply recordBanks_ext | apply showDiffers_ext | apply fwDone_ext)
    | (extract_lets +onlyGivenNames x
       refine have hx : State.Ext s0 x := ?_; ?_
       (on_goal 2 => clear_value x)
       subst x)
    | (extract_lets +onlyGivenNames x; first | clear_value x | subst x)
    | split

theorem execConfirmImage_ext (h : s0.Ext s) (src : Req) : Res.Ext s0 (execConfirmImage src s) := by
  unfold execConfirmImage
  repeat' first
    | (with_reducible first
        | assumption | apply res_next | apply res_ite | apply ext_ite | apply fwConfirm_ext)
    | split

theorem restartCore_ext (h : s0.Ext s) (core : Nat) : s0.Ext (s.restartCore core) := by
  unfold State.restartCore
  repeat' first
    | with_reducible first
      | assumption | apply modMgmt_ext | apply crewReset_ext

theorem startLiveCrew_ext (h : s0.Ext s) (b : Nat) : s0.Ext (s.startLiveCrew b) := by
  unfold State.startLiveCrew
  repeat' first
    | (with_reducible first
        | assumption | apply ext_ite | apply fwStart_ext | apply memWrite_ext | apply restartCore_ext)
    | (extract_lets +onlyGivenNames x
       refine have hx : State.Ext s0 x := ?_; ?_
       (on_goal 2 => clear_value x)
       subst x)
    | (extract_lets +onlyGivenNames x; first | clear_value x | subst x)
    | split

theorem liveCrew_ext (h : s0.Ext s) (src : Req) : s0.Ext (s.liveCrew src) := by
  unfold State.liveCrew
  repeat' first
    | (with_reducible first
        | assumption | apply ext_ite | apply fwTry_ext | apply fwRefuse_ext | apply startLiveCrew_ext)
    | (extract_lets +onlyGivenNames x; first | clear_value x | subst x)
    | (intro t ht; try beta_reduce)
    | split

theorem execLiveCrew_ext (h : s0.Ext s) (src : Req) : Res.Ext s0 (execLiveCrew src s) := by
  unfold execLiveCrew
  repeat' first
    | (with_reducible first
        | assumption | apply res_next | apply res_ite | apply ext_ite | apply liveCrew_ext)
    | split

theorem liveRanger_ext (h : s0.Ext s) (src : Req) : s0.Ext (s.liveRanger src) := by
  unfold State.liveRanger
  repeat' first
    | (with_reducible first
        | assumption | apply ext_ite | apply fwTry_ext | apply fwRefuse_ext | apply fwStart_ext
        | apply rangerReset_ext)
    | (extract_lets +onlyGivenNames x; first | clear_value x | subst x)
    | (intro t ht; try beta_reduce)
    | split

theorem execLiveRanger_ext (h : s0.Ext s) (src : Req) : Res.Ext s0 (execLiveRanger src s) := by
  unfold execLiveRanger
  repeat' first
    | (with_reducible first
        | assumption | apply res_next | apply res_ite | apply ext_ite | apply liveRanger_ext)
    | split

theorem liveDone_ext (h : s0.Ext s) (op : Nat) (i : ImageSet) : s0.Ext (s.liveDone op i) := by
  unfold State.liveDone
  repeat' first
    | (with_reducible first
        | assumption | apply fwEnd_ext | apply wr_ext | apply pend_ext | apply fwDone_ext | apply showDiffers_ext)
    | (extract_lets +onlyGivenNames x
       refine have hx : State.Ext s0 x := ?_; ?_
       (on_goal 2 => clear_value x)
       subst x)

theorem execCoreReady_ext (h : s0.Ext s) (core : Fin 4) : Res.Ext s0 (execCoreReady core s) := by
  unfold execCoreReady
  repeat' first
    | (with_reducible first
        | assumption | rfl | apply res_next | apply res_ite | apply ext_ite | apply fwEnd_ext | apply modMgmt_ext
        | apply liveDone_ext | apply tally_ext | apply restartCore_ext)
    | (extract_lets +onlyGivenNames x
       refine have hx : State.Ext s0 x := ?_; ?_
       (on_goal 2 => clear_value x)
       subst x)
    | (extract_lets +onlyGivenNames x; first | clear_value x | subst x)
    | split
    | with_reducible apply ext_mk

theorem execCoreReadyTimeout_ext (h : s0.Ext s) (core : Fin 4) : Res.Ext s0 (execCoreReadyTimeout core s) := by
  unfold execCoreReadyTimeout
  repeat' first
    | (with_reducible first
        | assumption | apply res_next | apply res_ite | apply ext_ite | apply crewReset_ext | apply setBankSt_ext
        | apply fwEnd_ext | apply recordBanks_ext | apply fwFail_ext)
    | (with_reducible apply ext_foldl; on_goal 2 => (intro t x ht; try beta_reduce))
    | (extract_lets +onlyGivenNames x
       refine have hx : State.Ext s0 x := ?_; ?_
       (on_goal 2 => clear_value x)
       subst x)
    | (extract_lets +onlyGivenNames x; have y : _ → State := x; clear y; subst x; beta_reduce)
    | (extract_lets +onlyGivenNames x; first | clear_value x | subst x)
    | split

theorem written_ext (h : s0.Ext s) (b : Nat) (i : ImageSet) : s0.Ext (s.written b i) := by
  unfold State.written
  repeat' first
    | (with_reducible first
        | assumption | apply ext_ite | apply setBankImage_ext | apply wr_ext | apply fwEnd_ext | apply recordBanks_ext
        | apply fwDone_ext | apply tally_ext)
    | (extract_lets +onlyGivenNames x
       refine have hx : State.Ext s0 x := ?_; ?_
       (on_goal 2 => clear_value x)
       subst x)
    | (extract_lets +onlyGivenNames x; first | clear_value x | subst x)

theorem execFwOperationDone_ext (h : s0.Ext s) (img : Option ImageSet) : Res.Ext s0 (execFwOperationDone img s) := by
  unfold execFwOperationDone
  repeat' first
    | (with_reducible first
        | assumption | rfl | apply res_next | apply res_ite | apply ext_ite | apply written_ext | apply setBankSt_ext
        | apply fwEnd_ext | apply recordBanks_ext | apply fwFail_ext | apply modMgmt_ext | apply tally_ext
        | apply liveDone_ext | apply startLiveCrew_ext)
    | (extract_lets +onlyGivenNames x
       refine have hx : State.Ext s0 x := ?_; ?_
       (on_goal 2 => clear_value x)
       subst x)
    | (extract_lets +onlyGivenNames x; first | clear_value x | subst x)
    | split
    | with_reducible apply ext_mk

theorem fwAbort_ext (h : s0.Ext s) (src : Req) : s0.Ext (s.fwAbort src) := by
  unfold State.fwAbort
  repeat' first
    | (with_reducible first
        | assumption | rfl | apply ext_ite | apply errAt_ext | apply setBankSt_ext | apply fwEnd_ext
        | apply modMgmt_ext | apply recordBanks_ext | apply fwFail_ext)
    | split
    | with_reducible apply ext_mk

theorem execUpdateAbort_ext (h : s0.Ext s) (src : Req) : Res.Ext s0 (execUpdateAbort src s) := by
  unfold execUpdateAbort
  repeat' first
    | (with_reducible first
        | assumption | apply res_next | apply res_ite | apply ext_ite | apply fwAbort_ext)
    | split

theorem hostPost_ext (h : s0.Ext s) (src : Req) : s0.Ext (s.hostPost src) := by
  unfold State.hostPost
  repeat' first
    | (with_reducible first
        | assumption | apply ext_ite | apply errAt_ext | apply tally_ext)
    | (extract_lets +onlyGivenNames x; first | clear_value x | subst x)
    | split

theorem execHostPost_ext (h : s0.Ext s) (src : Req) : Res.Ext s0 (execHostPost src s) := by
  unfold execHostPost
  repeat' first
    | (with_reducible first
        | assumption | apply res_next | apply res_ite | apply ext_ite | apply hostPost_ext)
    | split

end Sys2Proof.Machine
end

