-- ==== Sys2Proof/Laws/ExtPeer.lean ====
section
/-! SUPPORT. `State.Ext` is kept by every function of the meanings: module time, the network, the peer ports, the pair and the ring. -/

set_option linter.unusedTactic false
set_option linter.unreachableTactic false

namespace Sys2Proof.Machine

variable {s0 s : State}

/-! ## Machine/Time -/

theorem setReadLatch_ext (h : s0.Ext s) (page : Nat) (src : Req) (v : Nat) : s0.Ext (s.setReadLatch page src v) := by
  unfold State.setReadLatch
  repeat' first
    | (with_reducible first
        | assumption | rfl)
    | (extract_lets +onlyGivenNames x; first | clear_value x | subst x)
    | with_reducible apply setLatchR_ext'
    | with_reducible apply ext_mk

theorem setWriteLatch_ext (h : s0.Ext s) (page : Nat) (src : Req) (v : Nat) :
    s0.Ext (s.setWriteLatch page src v) := by
  unfold State.setWriteLatch
  repeat' first
    | (with_reducible first
        | assumption | rfl)
    | (extract_lets +onlyGivenNames x; first | clear_value x | subst x)
    | with_reducible apply setLatchW_ext'
    | with_reducible apply ext_mk

theorem showRate_ext (h : s0.Ext s) : s0.Ext s.showRate := by
  unfold State.showRate
  repeat' first
    | with_reducible first
      | assumption | apply wr_ext

theorem applyTime_ext (h : s0.Ext s) : s0.Ext s.applyTime := by
  unfold State.applyTime
  repeat' first
    | (with_reducible first
        | assumption | rfl | apply applyPage_ext | apply showRate_ext | apply wr_ext)
    | (extract_lets +onlyGivenNames x
       refine have hx : State.Ext s0 x := ?_; ?_
       (on_goal 2 => clear_value x)
       subst x)
    | (extract_lets +onlyGivenNames x; first | clear_value x | subst x)
    | with_reducible apply ext_mk

theorem setModel_ext (h : s0.Ext s) (offset ref rate : Nat) : s0.Ext (s.setModel offset ref rate) := by
  unfold State.setModel
  repeat' first
    | (with_reducible first
        | assumption | apply applyTime_ext | apply putShadow_ext)
    | (with_reducible apply ext_foldl; on_goal 2 => (intro t x ht; try beta_reduce))

theorem readNow_ext (h : s0.Ext s) (src : Req) : s0.Ext (s.readNow src) := by
  unfold State.readNow
  repeat' first
    | (with_reducible first
        | assumption | apply answer_ext | apply wr_ext | apply setReadLatch_ext)
    | (extract_lets +onlyGivenNames x; first | clear_value x | subst x)

theorem execNowRead_ext (h : s0.Ext s) (src : Req) (t : Nat) : Res.Ext s0 (execNowRead src t s) := by
  unfold execNowRead
  repeat' first
    | (with_reducible first
        | assumption | apply res_next | apply res_ite | apply ext_ite | apply answer_ext | apply till_ext
        | apply readNow_ext)
    | split

theorem convertTime_ext (h : s0.Ext s) (src : Req) (hi : Nat) : s0.Ext (s.convertTime src hi) := by
  unfold State.convertTime
  repeat' first
    | (with_reducible first
        | assumption | apply ext_ite | apply wr_ext | apply drew_ext | apply wr64_ext)
    | (extract_lets +onlyGivenNames x
       refine have hx : State.Ext s0 x := ?_; ?_
       (on_goal 2 => clear_value x)
       subst x)
    | (extract_lets +onlyGivenNames x; first | clear_value x | subst x)
    | split

theorem execConversion_ext (h : s0.Ext s) (src : Req) (data : Nat) : Res.Ext s0 (execConversion src data s) := by
  unfold execConversion
  repeat' first
    | (with_reducible first
        | assumption | apply res_next | apply res_ite | apply ext_ite | apply convertTime_ext)
    | split

/-! ## Machine/Servo -/

theorem modNet_ext (h : s0.Ext s) (f : NetUnit → NetUnit) : s0.Ext (s.modNet f) := by
  unfold State.modNet
  repeat' first
    | (with_reducible first
        | assumption | rfl)
    | (extract_lets +onlyGivenNames x; first | clear_value x | subst x)
    | with_reducible apply ext_mk

theorem setNetPort_ext (h : s0.Ext s) (p : Nat) (x : NetPort) : s0.Ext (s.setNetPort p x) := by
  unfold State.setNetPort
  repeat' first
    | with_reducible first
      | assumption | apply modNet_ext

theorem showPtp_ext (h : s0.Ext s) : s0.Ext s.showPtp := by
  unfold State.showPtp
  repeat' first
    | (with_reducible first
        | assumption | apply wrB_ext | apply wrF_ext | apply wr_ext)
    | (with_reducible apply ext_foldl; on_goal 2 => (intro t x ht; try beta_reduce))
    | (extract_lets +onlyGivenNames x
       refine have hx : State.Ext s0 x := ?_; ?_
       (on_goal 2 => clear_value x)
       subst x)
    | (extract_lets +onlyGivenNames x; first | clear_value x | subst x)
    | split

theorem setServo_ext (h : s0.Ext s) (st : Nat) : s0.Ext (s.setServo st) := by
  unfold State.setServo
  repeat' first
    | (with_reducible first
        | assumption | apply ext_ite | apply intSet_ext | apply setStCode_ext | apply wrF_ext | apply modNet_ext
        | apply tally_ext | apply showPtp_ext)
    | (extract_lets +onlyGivenNames x
       refine have hx : State.Ext s0 x := ?_; ?_
       (on_goal 2 => clear_value x)
       subst x)
    | split

theorem enterHoldover_ext (h : s0.Ext s) : s0.Ext s.enterHoldover := by
  unfold State.enterHoldover
  repeat' first
    | (with_reducible first
        | assumption | apply modNet_ext | apply setNetPort_ext | apply setServo_ext | apply wrB_ext)
    | (with_reducible apply ext_foldl; on_goal 2 => (intro t x ht; try beta_reduce))
    | (extract_lets +onlyGivenNames x
       refine have hx : State.Ext s0 x := ?_; ?_
       (on_goal 2 => clear_value x)
       subst x)
    | (extract_lets +onlyGivenNames x; first | clear_value x | subst x)

theorem leaveHoldover_ext (h : s0.Ext s) : s0.Ext s.leaveHoldover := by
  unfold State.leaveHoldover
  repeat' first
    | with_reducible first
      | assumption | apply setServo_ext | apply modNet_ext

theorem dropLan_ext (h : s0.Ext s) (p : Nat) : s0.Ext (s.dropLan p) := by
  unfold State.dropLan
  repeat' first
    | (with_reducible first
        | assumption | apply modNet_ext | apply intSet_ext | apply showPtp_ext | apply setNetPort_ext)
    | (extract_lets +onlyGivenNames x
       refine have hx : State.Ext s0 x := ?_; ?_
       (on_goal 2 => clear_value x)
       subst x)
    | (extract_lets +onlyGivenNames x; first | clear_value x | subst x)

theorem judgeSteps_ext (h : s0.Ext s) : s0.Ext s.judgeSteps := by
  unfold State.judgeSteps
  repeat' first
    | (with_reducible first
        | assumption | apply ext_ite | apply count_ext | apply wrB_ext | apply intSet_ext | apply enterHoldover_ext
        | apply dropLan_ext)
    | (with_reducible apply ext_foldl; on_goal 2 => (intro t x ht; try beta_reduce))
    | (extract_lets +onlyGivenNames x
       refine have hx : State.Ext s0 x := ?_; ?_
       (on_goal 2 => clear_value x)
       subst x)
    | (extract_lets +onlyGivenNames x; have y : _ → State := x; clear y; subst x; beta_reduce)
    | (extract_lets +onlyGivenNames x; first | clear_value x | subst x)
    | split

theorem slew_ext (h : s0.Ext s) : s0.Ext s.slew := by
  unfold State.slew
  repeat' first
    | (with_reducible first
        | assumption | apply ext_ite | apply drew_ext | apply setModel_ext)
    | split

theorem setMeasured_ext (h : s0.Ext s) (o : Int) : s0.Ext (s.setMeasured o) := by
  unfold State.setMeasured
  repeat' first
    | (with_reducible first
        | assumption | apply ext_ite | apply slew_ext | apply setModel_ext | apply setNetPort_ext)
    | (with_reducible apply ext_foldl; on_goal 2 => (intro t x ht; try beta_reduce))
    | (extract_lets +onlyGivenNames x
       refine have hx : State.Ext s0 x := ?_; ?_
       (on_goal 2 => clear_value x)
       subst x)
    | (extract_lets +onlyGivenNames x; first | clear_value x | subst x)
    | split

theorem correct_ext (h : s0.Ext s) (o : Int) : s0.Ext (s.correct o) := by
  unfold State.correct
  repeat' first
    | (with_reducible first
        | assumption | apply ext_ite | apply slew_ext | apply wr_ext | apply modNet_ext | apply setServo_ext)
    | (extract_lets +onlyGivenNames x
       refine have hx : State.Ext s0 x := ?_; ?_
       (on_goal 2 => clear_value x)
       subst x)
    | (extract_lets +onlyGivenNames x; first | clear_value x | subst x)
    | split

theorem updateAgree_ext (h : s0.Ext s) : s0.Ext s.updateAgree := by
  unfold State.updateAgree
  repeat' first
    | (with_reducible first
        | assumption | apply ext_ite | apply modNet_ext)
    | (extract_lets +onlyGivenNames x; first | clear_value x | subst x)
    | split

theorem servoStep_ext (h : s0.Ext s) (p : Nat) : s0.Ext (s.servoStep p) := by
  unfold State.servoStep
  repeat' first
    | (with_reducible first
        | assumption | apply ext_ite | apply updateAgree_ext | apply setMeasured_ext | apply setServo_ext
        | apply correct_ext)
    | (extract_lets +onlyGivenNames x
       refine have hx : State.Ext s0 x := ?_; ?_
       (on_goal 2 => clear_value x)
       subst x)
    | (extract_lets +onlyGivenNames x; first | clear_value x | subst x)
    | split

theorem offsetSample_ext (h : s0.Ext s) (p : Nat) (t1 : Int) (f : Nat) : s0.Ext (s.offsetSample p t1 f) := by
  unfold State.offsetSample
  repeat' first
    | (with_reducible first
        | assumption | apply ext_ite | apply setNetPort_ext | apply servoStep_ext | apply wr_ext)
    | (extract_lets +onlyGivenNames x
       refine have hx : State.Ext s0 x := ?_; ?_
       (on_goal 2 => clear_value x)
       subst x)
    | (extract_lets +onlyGivenNames x; first | clear_value x | subst x)
    | split

theorem holdoverSample_ext (h : s0.Ext s) (p : Nat) (d : Int) : s0.Ext (s.holdoverSample p d) := by
  unfold State.holdoverSample
  repeat' first
    | (with_reducible first
        | assumption | apply ext_ite | apply leaveHoldover_ext | apply wrB_ext)
    | split

theorem delaySample_ext (h : s0.Ext s) (p : Nat) (d : Int) : s0.Ext (s.delaySample p d) := by
  unfold State.delaySample
  repeat' first
    | (with_reducible first
        | assumption | apply ext_ite | apply setNetPort_ext | apply showPtp_ext | apply intSet_ext
        | apply judgeSteps_ext | apply holdoverSample_ext)
    | (extract_lets +onlyGivenNames x
       refine have hx : State.Ext s0 x := ?_; ?_
       (on_goal 2 => clear_value x)
       subst x)
    | (extract_lets +onlyGivenNames x; first | clear_value x | subst x)
    | split

theorem execPtpSync_ext (h : s0.Ext s) (port : Fin 2) (m : PtpMsg) : Res.Ext s0 (execPtpSync port m s) := by
  unfold execPtpSync
  repeat' first
    | (with_reducible first
        | assumption | apply res_next | apply res_ite | apply ext_ite | apply till_ext | apply setNetPort_ext
        | apply offsetSample_ext)
    | (extract_lets +onlyGivenNames x
       refine have hx : State.Ext s0 x := ?_; ?_
       (on_goal 2 => clear_value x)
       subst x)
    | (extract_lets +onlyGivenNames x; first | clear_value x | subst x)
    | split

theorem execFollowUp_ext (h : s0.Ext s) (port : Fin 2) (m : PtpMsg) : Res.Ext s0 (execFollowUp port m s) := by
  unfold execFollowUp
  repeat' first
    | (with_reducible first
        | assumption | apply res_next | apply res_ite | apply ext_ite | apply offsetSample_ext | apply setNetPort_ext)
    | (extract_lets +onlyGivenNames x; first | clear_value x | subst x)
    | split

theorem ptpSend_ext (h : s0.Ext s) (p type seq : Nat) (time corr : Int) :
    s0.Ext (s.ptpSend p type seq time corr) := by
  unfold State.ptpSend
  repeat' first
    | (with_reducible first
        | assumption | apply ext_ite | apply netSend_ext)
    | (extract_lets +onlyGivenNames x
       refine have hx : State.Ext s0 x := ?_; ?_
       (on_goal 2 => clear_value x)
       subst x)
    | (extract_lets +onlyGivenNames x; first | clear_value x | subst x)
    | split

theorem execDelayReq_ext (h : s0.Ext s) (port : Fin 2) (t : Nat) : Res.Ext s0 (execDelayReq port t s) := by
  unfold execDelayReq
  repeat' first
    | (with_reducible first
        | assumption | apply res_next | apply res_ite | apply ext_ite | apply till_ext | apply setNetPort_ext
        | apply ptpSend_ext)
    | (extract_lets +onlyGivenNames x
       refine have hx : State.Ext s0 x := ?_; ?_
       (on_goal 2 => clear_value x)
       subst x)
    | (extract_lets +onlyGivenNames x; first | clear_value x | subst x)
    | split

theorem execDelayResp_ext (h : s0.Ext s) (port : Fin 2) (m : PtpMsg) : Res.Ext s0 (execDelayResp port m s) := by
  unfold execDelayResp
  repeat' first
    | (with_reducible first
        | assumption | apply res_next | apply res_ite | apply ext_ite | apply delaySample_ext | apply setNetPort_ext)
    | (extract_lets +onlyGivenNames x; first | clear_value x | subst x)
    | split

theorem execPdelayReq_ext (h : s0.Ext s) (port : Fin 2) (m : PtpMsg) (t : Nat) :
    Res.Ext s0 (execPdelayReq port m t s) := by
  unfold execPdelayReq
  repeat' first
    | (with_reducible first
        | assumption | apply res_next | apply res_ite | apply ext_ite | apply till_ext | apply ptpSend_ext)
    | (extract_lets +onlyGivenNames x
       refine have hx : State.Ext s0 x := ?_; ?_
       (on_goal 2 => clear_value x)
       subst x)
    | (extract_lets +onlyGivenNames x; first | clear_value x | subst x)
    | split

theorem peerDelay_ext (h : s0.Ext s) (p f1 f4 : Nat) (turn : Int) : s0.Ext (s.peerDelay p f1 f4 turn) := by
  unfold State.peerDelay
  repeat' first
    | (with_reducible first
        | assumption | apply delaySample_ext | apply setNetPort_ext)
    | (extract_lets +onlyGivenNames x; first | clear_value x | subst x)

theorem execPdelayResp_ext (h : s0.Ext s) (port : Fin 2) (m : PtpMsg) : Res.Ext s0 (execPdelayResp port m s) := by
  unfold execPdelayResp
  repeat' first
    | (with_reducible first
        | assumption | apply res_next | apply res_ite | apply ext_ite | apply till_ext | apply setNetPort_ext
        | apply peerDelay_ext)
    | (extract_lets +onlyGivenNames x
       refine have hx : State.Ext s0 x := ?_; ?_
       (on_goal 2 => clear_value x)
       subst x)
    | (extract_lets +onlyGivenNames x; first | clear_value x | subst x)
    | split

theorem execPdelayRespFollowUp_ext (h : s0.Ext s) (port : Fin 2) (m : PtpMsg) :
    Res.Ext s0 (execPdelayRespFollowUp port m s) := by
  unfold execPdelayRespFollowUp
  repeat' first
    | (with_reducible first
        | assumption | apply res_next | apply res_ite | apply ext_ite | apply peerDelay_ext)
    | (extract_lets +onlyGivenNames x; first | clear_value x | subst x)
    | split

theorem clearSamples_ext (h : s0.Ext s) : s0.Ext s.clearSamples := by
  unfold State.clearSamples
  repeat' first
    | (with_reducible first
        | assumption | rfl | apply ext_ite | apply modNet_ext | apply setNetPort_ext)
    | (with_reducible apply ext_foldl; on_goal 2 => (intro t x ht; try beta_reduce))
    | (extract_lets +onlyGivenNames x
       refine have hx : State.Ext s0 x := ?_; ?_
       (on_goal 2 => clear_value x)
       subst x)
    | (extract_lets +onlyGivenNames x; have y : _ → State := x; clear y; subst x; beta_reduce)
    | (extract_lets +onlyGivenNames x; first | clear_value x | subst x)
    | with_reducible apply ext_mk

theorem selected_ext (h : s0.Ext s) (p : Nat) (best : Option (List Nat)) : s0.Ext (s.selected p best) := by
  unfold State.selected
  repeat' first
    | (with_reducible first
        | assumption | rfl | apply ext_ite | apply setNetPort_ext | apply showPtp_ext | apply intSet_ext
        | apply wr64_ext | apply clearSamples_ext | apply setServo_ext)
    | (extract_lets +onlyGivenNames x
       refine have hx : State.Ext s0 x := ?_; ?_
       (on_goal 2 => clear_value x)
       subst x)
    | (extract_lets +onlyGivenNames x; first | clear_value x | subst x)
    | split
    | with_reducible apply ext_mk

theorem execPtpAnnounce_ext (h : s0.Ext s) (port : Fin 2) (m : PtpMsg) : Res.Ext s0 (execPtpAnnounce port m s) := by
  unfold execPtpAnnounce
  repeat' first
    | (with_reducible first
        | assumption | apply res_next | apply res_ite | apply ext_ite | apply till_ext | apply frc_ext
        | apply selected_ext)
    | (extract_lets +onlyGivenNames x
       refine have hx : State.Ext s0 x := ?_; ?_
       (on_goal 2 => clear_value x)
       subst x)
    | (extract_lets +onlyGivenNames x; first | clear_value x | subst x)
    | split

theorem execAnnounceTimeout_ext (h : s0.Ext s) (port : Fin 2) : Res.Ext s0 (execAnnounceTimeout port s) := by
  unfold execAnnounceTimeout
  repeat' first
    | with_reducible first
      | assumption | apply res_next | apply selected_ext

theorem execSyncTimeout_ext (h : s0.Ext s) (port : Fin 2) (t : Nat) : Res.Ext s0 (execSyncTimeout port t s) := by
  unfold execSyncTimeout
  repeat' first
    | (with_reducible first
        | assumption | apply res_next | apply res_ite | apply ext_ite | apply till_ext | apply setNetPort_ext
        | apply setServo_ext | apply modNet_ext | apply judgeSteps_ext | apply enterHoldover_ext)
    | (extract_lets +onlyGivenNames x
       refine have hx : State.Ext s0 x := ?_; ?_
       (on_goal 2 => clear_value x)
       subst x)
    | (extract_lets +onlyGivenNames x; first | clear_value x | subst x)
    | split

theorem execLanReadmitted_ext (h : s0.Ext s) (port : Fin 2) (t : Nat) : Res.Ext s0 (execLanReadmitted port t s) := by
  unfold execLanReadmitted
  repeat' first
    | (with_reducible first
        | assumption | apply res_next | apply res_ite | apply ext_ite | apply till_ext | apply modNet_ext
        | apply intSet_ext | apply showPtp_ext)
    | (extract_lets +onlyGivenNames x
       refine have hx : State.Ext s0 x := ?_; ?_
       (on_goal 2 => clear_value x)
       subst x)
    | (extract_lets +onlyGivenNames x; first | clear_value x | subst x)
    | split

theorem execVerifyComplete_ext (h : s0.Ext s) (t : Nat) : Res.Ext s0 (execVerifyComplete t s) := by
  unfold execVerifyComplete
  repeat' first
    | (with_reducible first
        | assumption | apply res_next | apply res_ite | apply ext_ite | apply till_ext | apply leaveHoldover_ext
        | apply wrB_ext | apply modNet_ext)
    | (extract_lets +onlyGivenNames x
       refine have hx : State.Ext s0 x := ?_; ?_
       (on_goal 2 => clear_value x)
       subst x)
    | split

theorem execHoldoverExpired_ext (h : s0.Ext s) (t : Nat) : Res.Ext s0 (execHoldoverExpired t s) := by
  unfold execHoldoverExpired
  repeat' first
    | (with_reducible first
        | assumption | apply res_next | apply res_ite | apply ext_ite | apply till_ext | apply intSet_ext
        | apply wrB_ext)
    | (extract_lets +onlyGivenNames x
       refine have hx : State.Ext s0 x := ?_; ?_
       (on_goal 2 => clear_value x)
       subst x)
    | split

theorem acceptPath_ext (h : s0.Ext s) : s0.Ext s.acceptPath := by
  unfold State.acceptPath
  repeat' first
    | (with_reducible first
        | assumption | apply ext_ite | apply leaveHoldover_ext | apply wrB_ext)
    | split

theorem execAcceptPath_ext (h : s0.Ext s) (src : Req) : Res.Ext s0 (execAcceptPath src s) := by
  unfold execAcceptPath
  repeat' first
    | (with_reducible first
        | assumption | apply res_next | apply res_ite | apply ext_ite | apply acceptPath_ext)
    | split

theorem forceHoldover_ext (h : s0.Ext s) : s0.Ext s.forceHoldover := by
  unfold State.forceHoldover
  repeat' first
    | (with_reducible first
        | assumption | apply ext_ite | apply enterHoldover_ext)
    | split

theorem execForceHoldover_ext (h : s0.Ext s) (src : Req) : Res.Ext s0 (execForceHoldover src s) := by
  unfold execForceHoldover
  repeat' first
    | (with_reducible first
        | assumption | apply res_next | apply res_ite | apply ext_ite | apply forceHoldover_ext)
    | split

/-! ## Machine/Net -/

theorem setNodes_ext (h : s0.Ext s) (l : List NetNode) : s0.Ext (s.setNodes l) := by
  unfold State.setNodes
  repeat' first
    | with_reducible first
      | assumption | apply wr_ext | apply modNet_ext

theorem seeNode_ext (h : s0.Ext s) (mac t : Nat) (seq : Option Nat) : s0.Ext (s.seeNode mac t seq) := by
  unfold State.seeNode
  repeat' first
    | (with_reducible first
        | assumption | apply ext_ite | apply setNodes_ext | apply intSet_ext)
    | split

theorem prpCheck_ext (h : s0.Ext s) (p : Nat) (f : NetFrame) (t : Nat) : s0.Ext (s.prpCheck p f t).1 := by
  unfold State.prpCheck
  repeat' first
    | (with_reducible first
        | assumption | apply ext_ite | apply ext_fst_ite | apply intSet_ext | apply countF_ext | apply count_ext
        | apply setNodes_ext | apply seeNode_ext)
    | (extract_lets +onlyGivenNames x
       refine have hx : State.Ext s0 x := ?_; ?_
       (on_goal 2 => clear_value x)
       subst x)
    | split

theorem execEntryForget_ext (h : s0.Ext s) (mac t : Nat) : Res.Ext s0 (execEntryForget mac t s) := by
  unfold execEntryForget
  repeat' first
    | (with_reducible first
        | assumption | apply res_next | apply till_ext | apply setNodes_ext)
    | (extract_lets +onlyGivenNames x
       refine have hx : State.Ext s0 x := ?_; ?_
       (on_goal 2 => clear_value x)
       subst x)
    | (extract_lets +onlyGivenNames x; have y : _ → State := x; clear y; subst x; beta_reduce)
    | (extract_lets +onlyGivenNames x; first | clear_value x | subst x)

theorem execSupervisionFrame_ext (h : s0.Ext s) (port : Fin 2) (mac t : Nat) :
    Res.Ext s0 (execSupervisionFrame port mac t s) := by
  unfold execSupervisionFrame
  repeat' first
    | (with_reducible first
        | assumption | apply res_next | apply res_ite | apply ext_ite | apply till_ext | apply seeNode_ext
        | apply frc_ext)
    | (extract_lets +onlyGivenNames x
       refine have hx : State.Ext s0 x := ?_; ?_
       (on_goal 2 => clear_value x)
       subst x)
    | (extract_lets +onlyGivenNames x; first | clear_value x | subst x)
    | split

theorem execLifeCheck_ext (h : s0.Ext s) : Res.Ext s0 (execLifeCheck s) := by
  unfold execLifeCheck
  repeat' first
    | (with_reducible first
        | assumption | apply res_next | apply res_ite | apply ext_ite | apply prpSend_ext)
    | split

theorem police_ext (h : s0.Ext s) (c : Nat) : s0.Ext (s.police c).1 := by
  unfold State.police
  repeat' first
    | (with_reducible first
        | assumption | rfl | apply ext_ite | apply ext_fst_ite | apply burst_ext | apply frc_ext | apply modNet_ext
        | apply countF_ext | apply intSet_ext)
    | (extract_lets +onlyGivenNames x
       refine have hx : State.Ext s0 x := ?_; ?_
       (on_goal 2 => clear_value x)
       subst x)
    | (extract_lets +onlyGivenNames x; first | clear_value x | subst x)
    | (split; rename_i a b e
       refine have ha : State.Ext s0 a := (congrArg (fun q => State.Ext s0 q.1) e).mp ?_; ?_
       (on_goal 2 => clear e)
       beta_reduce)
    | (split; rename_i a b c e
       refine have ha : State.Ext s0 a := (congrArg (fun q => State.Ext s0 q.1) e).mp ?_; ?_
       (on_goal 2 => clear e)
       beta_reduce)
    | split
    | with_reducible apply ext_mk

theorem queueFrame_ext (h : s0.Ext s) (p c : Nat) (f : NetFrame) : s0.Ext (s.queueFrame p c f) := by
  unfold State.queueFrame
  repeat' first
    | (with_reducible first
        | assumption | rfl | apply ext_ite | apply countF_ext | apply modNet_ext)
    | (extract_lets +onlyGivenNames x
       refine have hx : State.Ext s0 x := ?_; ?_
       (on_goal 2 => clear_value x)
       subst x)
    | (extract_lets +onlyGivenNames x; first | clear_value x | subst x)
    | split
    | with_reducible apply ext_mk

theorem takeFrame_ext (h : s0.Ext s) (p c : Nat) (f : NetFrame) : s0.Ext (s.takeFrame p c f) := by
  unfold State.takeFrame
  repeat' first
    | (with_reducible first
        | assumption | apply ext_ite | apply prpCheck_ext | apply frc_ext | apply police_ext | apply queueFrame_ext
        | apply emit_ext)
    | (split; rename_i a b e
       refine have ha : State.Ext s0 a := (congrArg (fun q => State.Ext s0 q.1) e).mp ?_; ?_
       (on_goal 2 => clear e)
       beta_reduce)
    | (split; rename_i a b c e
       refine have ha : State.Ext s0 a := (congrArg (fun q => State.Ext s0 q.1) e).mp ?_; ?_
       (on_goal 2 => clear e)
       beta_reduce)
    | split

theorem execNetworkFrame_ext (h : s0.Ext s) (port : Fin 2) (f : NetFrame) (t : Nat) :
    Res.Ext s0 (execNetworkFrame port f t s) := by
  unfold execNetworkFrame
  repeat' first
    | (with_reducible first
        | assumption | apply res_next | apply res_ite | apply ext_ite | apply till_ext | apply count_ext
        | apply takeFrame_ext)
    | (extract_lets +onlyGivenNames x
       refine have hx : State.Ext s0 x := ?_; ?_
       (on_goal 2 => clear_value x)
       subst x)
    | (extract_lets +onlyGivenNames x; first | clear_value x | subst x)
    | split

theorem execNetReport_ext (h : s0.Ext s) : Res.Ext s0 (execNetReport s) := by
  unfold execNetReport
  repeat' first
    | (with_reducible first
        | assumption | apply res_next | apply res_ite | apply ext_ite | apply prpSend_ext)
    | (extract_lets +onlyGivenNames x; first | clear_value x | subst x)
    | split

theorem netDown_ext (h : s0.Ext s) (p : Nat) : s0.Ext (s.netDown p) := by
  unfold State.netDown
  repeat' first
    | (with_reducible first
        | assumption | apply ext_ite | apply ready_ext | apply setStCode_ext | apply wrB_ext | apply count_ext
        | apply intSet_ext)
    | (extract_lets +onlyGivenNames x
       refine have hx : State.Ext s0 x := ?_; ?_
       (on_goal 2 => clear_value x)
       subst x)
    | split

theorem sfpPins_ext (h : s0.Ext s) (p : Nat) : s0.Ext (s.sfpPins p) := by
  unfold State.sfpPins
  repeat' first
    | (with_reducible first
        | assumption | apply ext_ite | apply emit_ext)
    | (extract_lets +onlyGivenNames x
       refine have hx : State.Ext s0 x := ?_; ?_
       (on_goal 2 => clear_value x)
       subst x)
    | (extract_lets +onlyGivenNames x; first | clear_value x | subst x)

theorem execNetworkLinkChange_ext (h : s0.Ext s) (port : Fin 2) (up : Bool) (speed : Nat) :
    Res.Ext s0 (execNetworkLinkChange port up speed s) := by
  unfold execNetworkLinkChange
  repeat' first
    | (with_reducible first
        | assumption | apply res_next | apply res_ite | apply ext_ite | apply netDown_ext | apply wrB_ext
        | apply wr_ext | apply setStCode_ext | apply ready_ext | apply intSet_ext)
    | (extract_lets +onlyGivenNames x
       refine have hx : State.Ext s0 x := ?_; ?_
       (on_goal 2 => clear_value x)
       subst x)
    | (extract_lets +onlyGivenNames x; first | clear_value x | subst x)
    | split

theorem execSfpChange_ext (h : s0.Ext s) (port : Fin 2) (present los txFault : Bool) :
    Res.Ext s0 (execSfpChange port present los txFault s) := by
  unfold execSfpChange
  repeat' first
    | (with_reducible first
        | assumption | apply res_next | apply res_ite | apply ext_ite | apply intSet_ext | apply wr_ext)
    | (extract_lets +onlyGivenNames x; first | clear_value x | subst x)
    | split

/-! ## Machine/Peer -/

theorem setPeerSt_ext (h : s0.Ext s) (p st : Nat) : s0.Ext (s.setPeerSt p st) := by
  unfold State.setPeerSt
  repeat' first
    | with_reducible first
      | assumption | apply ready_ext | apply setStCode_ext

theorem modPair_ext (h : s0.Ext s) (f : PairUnit → PairUnit) : s0.Ext (s.modPair f) := by
  unfold State.modPair
  repeat' first
    | (with_reducible first
        | assumption | rfl)
    | (extract_lets +onlyGivenNames x; first | clear_value x | subst x)
    | with_reducible apply ext_mk

theorem modRing_ext (h : s0.Ext s) (f : RingUnit → RingUnit) : s0.Ext (s.modRing f) := by
  unfold State.modRing
  repeat' first
    | (with_reducible first
        | assumption | rfl)
    | (extract_lets +onlyGivenNames x; first | clear_value x | subst x)
    | with_reducible apply ext_mk

theorem peerHeaderErrs_ext (h : s0.Ext s) (p errs : Nat) : s0.Ext (s.peerHeaderErrs p errs) := by
  unfold State.peerHeaderErrs
  repeat' first
    | (with_reducible first
        | assumption | apply ext_ite | apply wr_ext)

theorem peerLockGained_ext (h : s0.Ext s) (p lane : Nat) (blocks : List (Nat × Nat)) :
    s0.Ext (s.peerLockGained p lane blocks) := by
  unfold State.peerLockGained
  repeat' first
    | (with_reducible first
        | assumption | rfl | apply ext_ite | apply wrB_ext | apply peerHeaderErrs_ext | apply setPeerPort_ext
        | apply setPeerSt_ext)
    | (extract_lets +onlyGivenNames x
       refine have hx : State.Ext s0 x := ?_; ?_
       (on_goal 2 => clear_value x)
       subst x)
    | (extract_lets +onlyGivenNames x; first | clear_value x | subst x)
    | split
    | with_reducible apply ext_mk

theorem peerLockLost_ext (h : s0.Ext s) (p lane errs : Nat) : s0.Ext (s.peerLockLost p lane errs) := by
  unfold State.peerLockLost
  repeat' first
    | (with_reducible first
        | assumption | apply ext_ite | apply peerHeaderErrs_ext | apply wrB_ext | apply count_ext | apply wr_ext)
    | split

theorem execHeaderErrorWindow_ext (h : s0.Ext s) (rx : Rx) (errs : Nat) :
    Res.Ext s0 (execHeaderErrorWindow rx errs s) := by
  unfold execHeaderErrorWindow
  repeat' first
    | (with_reducible first
        | assumption | apply res_next | apply res_ite | apply ext_ite | apply headWindow_ext | apply linkErrs_ext
        | apply peerHeaderErrs_ext | apply wr_ext)
    | split

theorem execBlockLockGained_ext (h : s0.Ext s) (rx : Rx) (blocks : List (Nat × Nat)) :
    Res.Ext s0 (execBlockLockGained rx blocks s) := by
  unfold execBlockLockGained
  repeat' first
    | (with_reducible first
        | assumption | apply res_next | apply res_ite | apply ext_ite | apply headLockGained_ext
        | apply camLockGained_ext | apply peerLockGained_ext)
    | split

theorem execBlockLockLost_ext (h : s0.Ext s) (rx : Rx) (errs t : Nat) :
    Res.Ext s0 (execBlockLockLost rx errs t s) := by
  unfold execBlockLockLost
  repeat' first
    | (with_reducible first
        | assumption | apply res_next | apply res_ite | apply ext_ite | apply till_ext | apply headLockLost_ext
        | apply camLockLost_ext | apply peerLockLost_ext)
    | (extract_lets +onlyGivenNames x
       refine have hx : State.Ext s0 x := ?_; ?_
       (on_goal 2 => clear_value x)
       subst x)
    | (extract_lets +onlyGivenNames x; first | clear_value x | subst x)
    | split

theorem sendPeerHello_ext (h : s0.Ext s) (p : Nat) : s0.Ext (s.sendPeerHello p) := by
  unfold State.sendPeerHello
  repeat' first
    | (with_reducible first
        | assumption | apply ext_ite | apply emit_ext)

theorem peerAlign_ext (h : s0.Ext s) (p : Nat) (blocks : List (Nat × Nat)) (skew : Nat) :
    s0.Ext (s.peerAlign p blocks skew) := by
  unfold State.peerAlign
  repeat' first
    | (with_reducible first
        | assumption | rfl | apply ext_ite | apply setPeerPort_ext | apply wrF_ext | apply wrB_ext
        | apply setPeerSt_ext | apply sendPeerHello_ext)
    | (extract_lets +onlyGivenNames x
       refine have hx : State.Ext s0 x := ?_; ?_
       (on_goal 2 => clear_value x)
       subst x)
    | (extract_lets +onlyGivenNames x; first | clear_value x | subst x)
    | (split; rename_i a b e
       refine have ha : State.Ext s0 a := (congrArg (fun q => State.Ext s0 q.1) e).mp ?_; ?_
       (on_goal 2 => clear e)
       beta_reduce)
    | (split; rename_i a b c e
       refine have ha : State.Ext s0 a := (congrArg (fun q => State.Ext s0 q.1) e).mp ?_; ?_
       (on_goal 2 => clear e)
       beta_reduce)
    | split
    | with_reducible apply ext_mk

theorem execAlignSet_ext (h : s0.Ext s) (port : AlignPort) (blocks : List (Nat × Nat)) (skew : Nat) :
    Res.Ext s0 (execAlignSet port blocks skew s) := by
  unfold execAlignSet
  repeat' first
    | (with_reducible first
        | assumption | apply res_next | apply res_ite | apply ext_ite | apply camAlign_ext | apply peerAlign_ext)
    | split

theorem resend_ext (h : s0.Ext s) (p cls : Nat) : s0.Ext (s.resend p cls) := by
  unfold State.resend
  repeat' first
    | (with_reducible first
        | assumption | rfl | apply ext_ite | apply setPeerPort_ext | apply emit_ext | apply count_ext)
    | (with_reducible apply ext_foldl; on_goal 2 => (intro t x ht; try beta_reduce))
    | (extract_lets +onlyGivenNames x
       refine have hx : State.Ext s0 x := ?_; ?_
       (on_goal 2 => clear_value x)
       subst x)
    | (extract_lets +onlyGivenNames x; have y : _ → State := x; clear y; subst x; beta_reduce)
    | (extract_lets +onlyGivenNames x; first | clear_value x | subst x)
    | split
    | with_reducible apply ext_mk

theorem execFrameRetx_ext (h : s0.Ext s) (p : Fin 3) (cls : Fin 4) : Res.Ext s0 (execFrameRetx p cls s) := by
  unfold execFrameRetx
  repeat' first
    | (with_reducible first
        | assumption | apply res_next | apply res_ite | apply ext_ite | apply resend_ext)
    | split

theorem resendAll_ext (h : s0.Ext s) (p : Nat) : s0.Ext (s.resendAll p) := by
  unfold State.resendAll
  repeat' first
    | with_reducible first
      | assumption | apply resend_ext

theorem acked_ext (h : s0.Ext s) (p cls n : Nat) : s0.Ext (s.acked p cls n) := by
  unfold State.acked
  repeat' first
    | (with_reducible first
        | assumption | apply setPeerPort_ext)
    | (extract_lets +onlyGivenNames x; first | clear_value x | subst x)

theorem setWidth_ext (h : s0.Ext s) (p w : Nat) : s0.Ext (s.setWidth p w) := by
  unfold State.setWidth
  repeat' first
    | with_reducible first
      | assumption | apply wrF_ext

theorem widen_ext (h : s0.Ext s) (p lanes : Nat) : s0.Ext (s.widen p lanes) := by
  unfold State.widen
  repeat' first
    | (with_reducible first
        | assumption | apply ext_ite | apply wrF_ext | apply setWidth_ext | apply count_ext | apply intSet_ext)
    | (extract_lets +onlyGivenNames x
       refine have hx : State.Ext s0 x := ?_; ?_
       (on_goal 2 => clear_value x)
       subst x)
    | (extract_lets +onlyGivenNames x; first | clear_value x | subst x)
    | split

theorem execBgRetrain_ext (h : s0.Ext s) (p : Fin 3) (lanes : Nat) : Res.Ext s0 (execBgRetrain p lanes s) := by
  unfold execBgRetrain
  repeat' first
    | (with_reducible first
        | assumption | apply res_next | apply res_ite | apply ext_ite | apply widen_ext)
    | split

theorem execWidenNow_ext (h : s0.Ext s) (src : Req) (p : Fin 3) (lanes : Nat) :
    Res.Ext s0 (execWidenNow src p lanes s) := by
  unfold execWidenNow
  repeat' first
    | (with_reducible first
        | assumption | apply res_next | apply res_ite | apply ext_ite | apply widen_ext)
    | split

theorem setRingSt_ext (h : s0.Ext s) (st : Nat) : s0.Ext (s.setRingSt st) := by
  unfold State.setRingSt
  repeat' first
    | with_reducible first
      | assumption | apply ready_ext | apply setStCode_ext

theorem sendProbe_ext (h : s0.Ext s) : s0.Ext s.sendProbe := by
  unfold State.sendProbe
  repeat' first
    | (with_reducible first
        | assumption | apply ext_ite | apply setRingSt_ext | apply sendTime_ext | apply emit_ext)

theorem ringLinksUp_ext (h : s0.Ext s) : s0.Ext s.ringLinksUp := by
  unfold State.ringLinksUp
  repeat' first
    | (with_reducible first
        | assumption | apply ext_ite | apply sendProbe_ext | apply setRingSt_ext)
    | split

theorem ringLinkDown_ext (h : s0.Ext s) : s0.Ext s.ringLinkDown := by
  unfold State.ringLinkDown
  repeat' first
    | (with_reducible first
        | assumption | rfl | apply ext_ite | apply modRing_ext | apply setRingSt_ext | apply intSet_ext)
    | split
    | with_reducible apply ext_mk

theorem peerDown_ext (h : s0.Ext s) (p st : Nat) : s0.Ext (s.peerDown p st) := by
  unfold State.peerDown
  repeat' first
    | (with_reducible first
        | assumption | apply ext_ite | apply wrB_ext | apply setWidth_ext | apply wrF_ext | apply setPeerSt_ext
        | apply intSet_ext | apply ringLinkDown_ext)
    | (extract_lets +onlyGivenNames x
       refine have hx : State.Ext s0 x := ?_; ?_
       (on_goal 2 => clear_value x)
       subst x)
    | (extract_lets +onlyGivenNames x; first | clear_value x | subst x)
    | split

theorem execPeerPortDown_ext (h : s0.Ext s) (p : Fin 3) : Res.Ext s0 (execPeerPortDown p s) := by
  unfold execPeerPortDown
  repeat' first
    | with_reducible first
      | assumption | apply res_next | apply peerDown_ext

theorem portRetrain_ext (h : s0.Ext s) (p : Nat) : s0.Ext (s.portRetrain p) := by
  unfold State.portRetrain
  repeat' first
    | (with_reducible first
        | assumption | apply ext_ite | apply peerDown_ext)
    | split

theorem execPortRetrain_ext (h : s0.Ext s) (src : Req) (p : Fin 3) : Res.Ext s0 (execPortRetrain src p s) := by
  unfold execPortRetrain
  repeat' first
    | (with_reducible first
        | assumption | apply res_next | apply res_ite | apply ext_ite | apply portRetrain_ext)
    | split

theorem narrowing_ext (h : s0.Ext s) (p lanes : Nat) : s0.Ext (s.narrowing p lanes) := by
  unfold State.narrowing
  repeat' first
    | (with_reducible first
        | assumption | apply ext_ite | apply peerDown_ext | apply wrF_ext | apply setPeerSt_ext)
    | split

theorem narrowDone_ext (h : s0.Ext s) (p lanes : Nat) (errs : List Nat) : s0.Ext (s.narrowDone p lanes errs) := by
  unfold State.narrowDone
  repeat' first
    | (with_reducible first
        | assumption | apply ext_ite | apply peerDown_ext | apply wrF_ext | apply setWidth_ext | apply setPeerSt_ext
        | apply count_ext | apply intSet_ext | apply resendAll_ext)
    | (extract_lets +onlyGivenNames x
       refine have hx : State.Ext s0 x := ?_; ?_
       (on_goal 2 => clear_value x)
       subst x)
    | (extract_lets +onlyGivenNames x; first | clear_value x | subst x)
    | split

theorem execNarrowed_ext (h : s0.Ext s) (p : Fin 3) (lanes : Nat) (errs : List Nat) (done : Bool) :
    Res.Ext s0 (execNarrowed p lanes errs done s) := by
  unfold execNarrowed
  repeat' first
    | (with_reducible first
        | assumption | apply res_next | apply res_ite | apply ext_ite | apply narrowDone_ext | apply narrowing_ext)
    | split

theorem standDown_ext (h : s0.Ext s) : s0.Ext s.standDown := by
  unfold State.standDown
  repeat' first
    | (with_reducible first
        | assumption | apply ext_ite | apply wrB_ext | apply intSet_ext | apply setRingSt_ext)
    | split

theorem otherRoot_ext (h : s0.Ext s) (serial : Nat) : s0.Ext (s.otherRoot serial) := by
  unfold State.otherRoot
  repeat' first
    | (with_reducible first
        | assumption | apply ext_ite | apply standDown_ext)
    | split

theorem meetRoot_ext (h : s0.Ext s) (p serial : Nat) (root : Bool) : s0.Ext (s.meetRoot p serial root) := by
  unfold State.meetRoot
  repeat' first
    | (with_reducible first
        | assumption | apply ext_ite | apply otherRoot_ext)
    | split

theorem askDoubt_ext (h : s0.Ext s) : s0.Ext s.askDoubt := by
  unfold State.askDoubt
  repeat' first
    | (with_reducible first
        | assumption | apply toPartner_ext)
    | (with_reducible apply ext_foldl; on_goal 2 => (intro t x ht; try beta_reduce))

theorem execPeerHello_ext (h : s0.Ext s) (p : Fin 3) (serial mode portId addr proto t : Nat) :
    Res.Ext s0 (execPeerHello p serial mode portId addr proto t s) := by
  unfold execPeerHello
  repeat' first
    | (with_reducible first
        | assumption | apply res_next | apply res_ite | apply ext_ite | apply till_ext | apply wr64_ext | apply wr_ext
        | apply wrB_ext | apply intSet_ext | apply setWidth_ext | apply setPeerSt_ext | apply resendAll_ext
        | apply askDoubt_ext | apply meetRoot_ext | apply ringLinksUp_ext | apply drew_ext)
    | (extract_lets +onlyGivenNames x
       refine have hx : State.Ext s0 x := ?_; ?_
       (on_goal 2 => clear_value x)
       subst x)
    | (extract_lets +onlyGivenNames x; first | clear_value x | subst x)
    | split

theorem ringConverged_ext (h : s0.Ext s) : s0.Ext s.ringConverged := by
  unfold State.ringConverged
  repeat' first
    | (with_reducible first
        | assumption | apply ext_ite | apply setRingSt_ext | apply intSet_ext | apply startLanes_ext)
    | split

theorem disciplineRing_ext (h : s0.Ext s) (r t : Nat) : s0.Ext (s.disciplineRing r t) := by
  unfold State.disciplineRing
  repeat' first
    | (with_reducible first
        | assumption | apply wr_ext | apply modRing_ext | apply ringConverged_ext)
    | (extract_lets +onlyGivenNames x
       refine have hx : State.Ext s0 x := ?_; ?_
       (on_goal 2 => clear_value x)
       subst x)
    | (extract_lets +onlyGivenNames x; first | clear_value x | subst x)
    | split

theorem execTimeTransfer_ext (h : s0.Ext s) (p : Fin 3) (t1 t2 t3 t4 ring : Nat) :
    Res.Ext s0 (execTimeTransfer p t1 t2 t3 t4 ring s) := by
  unfold execTimeTransfer
  repeat' first
    | (with_reducible first
        | assumption | apply res_next | apply res_ite | apply ext_ite | apply till_ext | apply wr_ext
        | apply setPeerPort_ext | apply disciplineRing_ext)
    | (extract_lets +onlyGivenNames x
       refine have hx : State.Ext s0 x := ?_; ?_
       (on_goal 2 => clear_value x)
       subst x)
    | (extract_lets +onlyGivenNames x; first | clear_value x | subst x)
    | split

/-! ## Machine/Mirror -/

theorem sendPart_ext (h : s0.Ext s) (kind t : Nat) (part : Nat × List Nat) : s0.Ext (s.sendPart kind t part) := by
  unfold State.sendPart
  repeat' first
    | (with_reducible first
        | assumption | apply ext_ite | apply toPartner_ext)

theorem sendRegions_ext (h : s0.Ext s) (n : Nat) : s0.Ext (s.sendRegions n) := by
  unfold State.sendRegions
  repeat' first
    | (with_reducible first
        | assumption | apply ext_ite | apply sendPart_ext | apply toPartner_ext)
    | (with_reducible apply ext_foldl; on_goal 2 => (intro t x ht; try beta_reduce))
    | (extract_lets +onlyGivenNames x
       refine have hx : State.Ext s0 x := ?_; ?_
       (on_goal 2 => clear_value x)
       subst x)
    | (extract_lets +onlyGivenNames x; have y : _ → State := x; clear y; subst x; beta_reduce)
    | (extract_lets +onlyGivenNames x; first | clear_value x | subst x)
    | split

theorem sendActive_ext (h : s0.Ext s) (x : Nat) : s0.Ext (s.sendActive x) := by
  unfold State.sendActive
  repeat' first
    | (with_reducible first
        | assumption | apply ext_ite | apply sendPart_ext | apply toPartner_ext)
    | (with_reducible apply ext_foldl; on_goal 2 => (intro t x ht; try beta_reduce))
    | (extract_lets +onlyGivenNames x
       refine have hx : State.Ext s0 x := ?_; ?_
       (on_goal 2 => clear_value x)
       subst x)
    | (extract_lets +onlyGivenNames x; have y : _ → State := x; clear y; subst x; beta_reduce)
    | (extract_lets +onlyGivenNames x; first | clear_value x | subst x)
    | split

theorem sendAll_ext (h : s0.Ext s) : s0.Ext s.sendAll := by
  unfold State.sendAll
  repeat' first
    | (with_reducible first
        | assumption | apply ext_ite | apply toPartner_ext | apply sendPart_ext)
    | (with_reducible apply ext_foldl; on_goal 2 => (intro t x ht; try beta_reduce))
    | (extract_lets +onlyGivenNames x
       refine have hx : State.Ext s0 x := ?_; ?_
       (on_goal 2 => clear_value x)
       subst x)
    | (extract_lets +onlyGivenNames x; have y : _ → State := x; clear y; subst x; beta_reduce)
    | (extract_lets +onlyGivenNames x; first | clear_value x | subst x)

theorem takePart_ext (h : s0.Ext s) (active : Bool) (t lo : Nat) (vs : List Nat) :
    s0.Ext (s.takePart active t lo vs) := by
  unfold State.takePart
  repeat' first
    | (with_reducible first
        | assumption | apply ext_ite | apply putBoth_ext | apply putTable_ext)
    | (with_reducible apply ext_foldl; on_goal 2 => (intro t x ht; try beta_reduce))
    | (extract_lets +onlyGivenNames x; have y : _ → State := x; clear y; subst x; beta_reduce)
    | (extract_lets +onlyGivenNames x; first | clear_value x | subst x)
    | split

theorem forwardArm_ext (h : s0.Ext s) (page : Nat) : s0.Ext (s.forwardArm page) := by
  unfold State.forwardArm
  repeat' first
    | with_reducible first
      | assumption | apply applyIdle_ext | apply toPartner_ext

theorem rearm_ext (h : s0.Ext s) (page source : Nat) : s0.Ext (s.rearm page source) := by
  unfold State.rearm
  repeat' first
    | (with_reducible first
        | assumption | apply ext_ite | apply error_ext | apply wrB_ext | apply intSet_ext | apply modPair_ext
        | apply wr_ext | apply forwardArm_ext)
    | (extract_lets +onlyGivenNames x
       refine have hx : State.Ext s0 x := ?_; ?_
       (on_goal 2 => clear_value x)
       subst x)
    | (extract_lets +onlyGivenNames x; first | clear_value x | subst x)
    | split

/-! ## Machine/Pair -/

theorem armAlone_ext (h : s0.Ext s) : s0.Ext s.armAlone := by
  unfold State.armAlone
  repeat' first
    | (with_reducible first
        | assumption | apply ext_ite | apply acked_ext | apply slotAlone_ext)
    | (with_reducible apply ext_foldl; on_goal 2 => (intro t x ht; try beta_reduce))
    | split

theorem setCond_ext (h : s0.Ext s) (c : Nat) : s0.Ext (s.setCond c) := by
  unfold State.setCond
  repeat' first
    | (with_reducible first
        | assumption | rfl | apply ext_ite | apply wrF_ext | apply setStCode_ext | apply intSet_ext
        | apply modPair_ext | apply releaseHeld_ext | apply armAlone_ext | apply releaseRetrains_ext)
    | (extract_lets +onlyGivenNames x
       refine have hx : State.Ext s0 x := ?_; ?_
       (on_goal 2 => clear_value x)
       subst x)
    | (extract_lets +onlyGivenNames x; first | clear_value x | subst x)
    | split
    | with_reducible apply ext_mk

theorem setRole_ext (h : s0.Ext s) (r : Nat) : s0.Ext (s.setRole r) := by
  unfold State.setRole
  repeat' first
    | (with_reducible first
        | assumption | apply ext_ite | apply intSet_ext | apply wrF_ext | apply wr_ext | apply tally_ext)
    | (extract_lets +onlyGivenNames x
       refine have hx : State.Ext s0 x := ?_; ?_
       (on_goal 2 => clear_value x)
       subst x)
    | split

theorem stopRun_ext (h : s0.Ext s) : s0.Ext s.stopRun := by
  unfold State.stopRun
  repeat' first
    | (with_reducible first
        | assumption | apply ext_ite | apply endRun_ext)
    | split

theorem pairSafe_ext (h : s0.Ext s) (cause : Nat) : s0.Ext (s.pairSafe cause) := by
  unfold State.pairSafe
  repeat' first
    | with_reducible first
      | assumption | apply setCond_ext | apply stopRun_ext | apply enterSafe_ext

theorem toLookout_ext (h : s0.Ext s) (type reason : Nat) : s0.Ext (s.toLookout type reason) :=
  sendMessage_ext h _ _ _ _ _ _

theorem claim_ext (h : s0.Ext s) (reason : Nat) : s0.Ext (s.claim reason) := by
  unfold State.claim
  repeat' first
    | (with_reducible first
        | assumption | apply ext_ite | apply countF_ext | apply toLookout_ext | apply modPair_ext | apply wr_ext)
    | (extract_lets +onlyGivenNames x
       refine have hx : State.Ext s0 x := ?_; ?_
       (on_goal 2 => clear_value x)
       subst x)
    | split

theorem renew_ext (h : s0.Ext s) : s0.Ext s.renew := by
  unfold State.renew
  repeat' first
    | (with_reducible first
        | assumption | apply ext_ite | apply modPair_ext | apply toLookout_ext)
    | split

theorem release_ext (h : s0.Ext s) : s0.Ext s.release := by
  unfold State.release
  repeat' first
    | (with_reducible first
        | assumption | rfl | apply ext_ite | apply wrB_ext | apply modPair_ext | apply toLookout_ext)
    | split
    | with_reducible apply ext_mk

theorem denyFollow_ext (h : s0.Ext s) : s0.Ext s.denyFollow := by
  unfold State.denyFollow
  repeat' first
    | (with_reducible first
        | assumption | apply ext_ite | apply setRole_ext | apply setCond_ext)
    | (extract_lets +onlyGivenNames x
       refine have hx : State.Ext s0 x := ?_; ?_
       (on_goal 2 => clear_value x)
       subst x)
    | split

theorem takeLead_ext (h : s0.Ext s) (partnerDown : Bool) : s0.Ext (s.takeLead partnerDown) := by
  unfold State.takeLead
  repeat' first
    | (with_reducible first
        | assumption | apply ext_ite | apply setRole_ext | apply setCond_ext)
    | (extract_lets +onlyGivenNames x
       refine have hx : State.Ext s0 x := ?_; ?_
       (on_goal 2 => clear_value x)
       subst x)
    | split

theorem wiredSettles_ext (h : s0.Ext s) : s0.Ext s.wiredSettles := by
  unfold State.wiredSettles
  repeat' first
    | (with_reducible first
        | assumption | apply ext_ite | apply takeLead_ext | apply denyFollow_ext)
    | split

theorem contest_ext (h : s0.Ext s) : s0.Ext s.contest := by
  unfold State.contest
  repeat' first
    | (with_reducible first
        | assumption | apply ext_ite | apply setCond_ext | apply wiredSettles_ext | apply claim_ext)
    | (extract_lets +onlyGivenNames x
       refine have hx : State.Ext s0 x := ?_; ?_
       (on_goal 2 => clear_value x)
       subst x)
    | (extract_lets +onlyGivenNames x; first | clear_value x | subst x)
    | split

theorem partnerLost_ext (h : s0.Ext s) : s0.Ext s.partnerLost := by
  unfold State.partnerLost
  repeat' first
    | (with_reducible first
        | assumption | rfl | apply ext_ite | apply releaseLocks_ext | apply modPair_ext | apply setPeerPort_ext
        | apply intSet_ext | apply tally_ext | apply setCond_ext | apply wiredSettles_ext | apply claim_ext)
    | (extract_lets +onlyGivenNames x
       refine have hx : State.Ext s0 x := ?_; ?_
       (on_goal 2 => clear_value x)
       subst x)
    | (extract_lets +onlyGivenNames x; first | clear_value x | subst x)
    | split
    | with_reducible apply ext_mk

theorem judgePaths_ext (h : s0.Ext s) : s0.Ext s.judgePaths := by
  unfold State.judgePaths
  repeat' first
    | (with_reducible first
        | assumption | apply ext_ite | apply partnerLost_ext | apply setCond_ext)
    | (extract_lets +onlyGivenNames x; first | clear_value x | subst x)
    | split

theorem setPath_ext (h : s0.Ext s) (net good : Bool) : s0.Ext (s.setPath net good) := by
  unfold State.setPath
  repeat' first
    | (with_reducible first
        | assumption | apply ext_ite | apply judgePaths_ext | apply wrB_ext)
    | (extract_lets +onlyGivenNames x; first | clear_value x | subst x)
    | split

theorem holdArms_ext (h : s0.Ext s) : s0.Ext s.holdArms := by
  unfold State.holdArms
  repeat' first
    | (with_reducible first
        | assumption | rfl | apply ext_ite | apply modPair_ext | apply setSlotSt_ext)
    | (with_reducible apply ext_foldl; on_goal 2 => (intro t x ht; try beta_reduce))
    | (extract_lets +onlyGivenNames x
       refine have hx : State.Ext s0 x := ?_; ?_
       (on_goal 2 => clear_value x)
       subst x)
    | (extract_lets +onlyGivenNames x; have y : _ → State := x; clear y; subst x; beta_reduce)
    | (extract_lets +onlyGivenNames x; first | clear_value x | subst x)
    | split
    | with_reducible apply ext_mk

theorem leaderSync_ext (h : s0.Ext s) : s0.Ext s.leaderSync := by
  unfold State.leaderSync
  repeat' first
    | (with_reducible first
        | assumption | rfl | apply ext_ite | apply modPair_ext | apply setCond_ext | apply holdArms_ext
        | apply resendDigests_ext | apply tellLanes_ext | apply sendAll_ext)
    | (extract_lets +onlyGivenNames x
       refine have hx : State.Ext s0 x := ?_; ?_
       (on_goal 2 => clear_value x)
       subst x)
    | (extract_lets +onlyGivenNames x; first | clear_value x | subst x)
    | with_reducible apply ext_mk

theorem leaderSynced_ext (h : s0.Ext s) : s0.Ext s.leaderSynced := by
  unfold State.leaderSynced
  repeat' first
    | (with_reducible first
        | assumption | apply ext_ite | apply setCond_ext | apply modPair_ext | apply rearm_ext | apply forwardArm_ext
        | apply reschedule_ext | apply sendSlot_ext)
    | (with_reducible apply ext_foldl; on_goal 2 => (intro t x ht; try beta_reduce))
    | (extract_lets +onlyGivenNames x
       refine have hx : State.Ext s0 x := ?_; ?_
       (on_goal 2 => clear_value x)
       subst x)
    | (extract_lets +onlyGivenNames x; first | clear_value x | subst x)
    | split

theorem leaderFollows_ext (h : s0.Ext s) (cond : Nat) : s0.Ext (s.leaderFollows cond) := by
  unfold State.leaderFollows
  repeat' first
    | (with_reducible first
        | assumption | apply ext_ite | apply leaderSync_ext | apply leaderSynced_ext)
    | split

theorem showDoubt_ext (h : s0.Ext s) : s0.Ext s.showDoubt := by
  unfold State.showDoubt
  repeat' first
    | with_reducible first
      | assumption | apply wrB_ext

theorem enterSync_ext (h : s0.Ext s) : s0.Ext s.enterSync := by
  unfold State.enterSync
  repeat' first
    | (with_reducible first
        | assumption | rfl | apply ext_ite | apply setRole_ext | apply setCond_ext | apply setSlotSt_ext
        | apply setSlot_ext | apply acked_ext | apply modPair_ext | apply showDoubt_ext | apply resendDigests_ext
        | apply tellLanes_ext)
    | (with_reducible apply ext_foldl; on_goal 2 => (intro t x ht; try beta_reduce))
    | (extract_lets +onlyGivenNames x
       refine have hx : State.Ext s0 x := ?_; ?_
       (on_goal 2 => clear_value x)
       subst x)
    | (extract_lets +onlyGivenNames x; have y : _ → State := x; clear y; subst x; beta_reduce)
    | (extract_lets +onlyGivenNames x; first | clear_value x | subst x)
    | split
    | with_reducible apply ext_mk

theorem followerFollows_ext (h : s0.Ext s) : s0.Ext s.followerFollows := by
  unfold State.followerFollows
  repeat' first
    | (with_reducible first
        | assumption | apply ext_ite | apply enterSync_ext)
    | split

theorem partnerSays_ext (h : s0.Ext s) (role cond epoch : Nat) : s0.Ext (s.partnerSays role cond epoch) := by
  unfold State.partnerSays
  repeat' first
    | (with_reducible first
        | assumption | apply ext_ite | apply modPair_ext | apply setRole_ext | apply contest_ext)
    | (extract_lets +onlyGivenNames x
       refine have hx : State.Ext s0 x := ?_; ?_
       (on_goal 2 => clear_value x)
       subst x)
    | (extract_lets +onlyGivenNames x; first | clear_value x | subst x)
    | split

theorem goodBeat_ext (h : s0.Ext s) (net : Bool) : s0.Ext (s.goodBeat net) := by
  unfold State.goodBeat
  repeat' first
    | (with_reducible first
        | assumption | apply ext_ite | apply modPair_ext | apply setPath_ext)
    | (extract_lets +onlyGivenNames x
       refine have hx : State.Ext s0 x := ?_; ?_
       (on_goal 2 => clear_value x)
       subst x)
    | (extract_lets +onlyGivenNames x; first | clear_value x | subst x)
    | split

theorem execPeerHeartbeat_ext (h : s0.Ext s) (role cond epoch gen t : Nat) :
    Res.Ext s0 (execPeerHeartbeat role cond epoch gen t s) := by
  unfold execPeerHeartbeat
  repeat' first
    | (with_reducible first
        | assumption | apply res_next | apply res_ite | apply ext_ite | apply till_ext | apply wr_ext
        | apply partnerSays_ext | apply goodBeat_ext | apply judgePaths_ext | apply leaderFollows_ext
        | apply followerFollows_ext)
    | (extract_lets +onlyGivenNames x
       refine have hx : State.Ext s0 x := ?_; ?_
       (on_goal 2 => clear_value x)
       subst x)
    | (extract_lets +onlyGivenNames x; first | clear_value x | subst x)
    | split

theorem execNetworkHeartbeat_ext (h : s0.Ext s) (m : LookoutMsg) (t : Nat) :
    Res.Ext s0 (execNetworkHeartbeat m t s) := by
  unfold execNetworkHeartbeat
  repeat' first
    | (with_reducible first
        | assumption | rfl | apply res_next | apply res_ite | apply ext_ite | apply till_ext | apply lookoutBad_ext
        | apply modPair_ext | apply wr_ext | apply partnerSays_ext | apply goodBeat_ext | apply judgePaths_ext)
    | (extract_lets +onlyGivenNames x
       refine have hx : State.Ext s0 x := ?_; ?_
       (on_goal 2 => clear_value x)
       subst x)
    | (extract_lets +onlyGivenNames x; first | clear_value x | subst x)
    | split
    | with_reducible apply ext_mk

theorem missBeat_ext (h : s0.Ext s) (net : Bool) : s0.Ext (s.missBeat net) := by
  unfold State.missBeat
  repeat' first
    | (with_reducible first
        | assumption | apply ext_ite | apply modPair_ext | apply countF_ext | apply setPath_ext)
    | (extract_lets +onlyGivenNames x
       refine have hx : State.Ext s0 x := ?_; ?_
       (on_goal 2 => clear_value x)
       subst x)
    | (extract_lets +onlyGivenNames x; first | clear_value x | subst x)
    | split

theorem execHeartbeatMiss_ext (h : s0.Ext s) (net : Bool) (t : Nat) : Res.Ext s0 (execHeartbeatMiss net t s) := by
  unfold execHeartbeatMiss
  repeat' first
    | (with_reducible first
        | assumption | apply res_next | apply res_ite | apply ext_ite | apply till_ext | apply missBeat_ext)
    | (extract_lets +onlyGivenNames x
       refine have hx : State.Ext s0 x := ?_; ?_
       (on_goal 2 => clear_value x)
       subst x)
    | split

theorem answered_ext (h : s0.Ext s) (m : LookoutMsg) : s0.Ext (s.answered m) := by
  unfold State.answered
  repeat' first
    | (with_reducible first
        | assumption | apply ext_ite | apply wr_ext | apply modPair_ext)
    | (extract_lets +onlyGivenNames x
       refine have hx : State.Ext s0 x := ?_; ?_
       (on_goal 2 => clear_value x)
       subst x)
    | split

theorem holdLease_ext (h : s0.Ext s) (until_ : Option Nat) : s0.Ext (s.holdLease until_) := by
  unfold State.holdLease
  repeat' first
    | with_reducible first
      | assumption | apply modPair_ext | apply wrB_ext

theorem execLeaseGrant_ext (h : s0.Ext s) (m : LookoutMsg) (t : Nat) : Res.Ext s0 (execLeaseGrant m t s) := by
  unfold execLeaseGrant
  repeat' first
    | (with_reducible first
        | assumption | rfl | apply res_next | apply res_ite | apply ext_ite | apply till_ext | apply lookoutBad_ext
        | apply answered_ext | apply frc_ext | apply wr_ext | apply holdLease_ext | apply modPair_ext
        | apply takeLead_ext)
    | (extract_lets +onlyGivenNames x
       refine have hx : State.Ext s0 x := ?_; ?_
       (on_goal 2 => clear_value x)
       subst x)
    | (extract_lets +onlyGivenNames x; first | clear_value x | subst x)
    | split
    | with_reducible apply ext_mk

theorem execLeaseDeny_ext (h : s0.Ext s) (m : LookoutMsg) (t : Nat) : Res.Ext s0 (execLeaseDeny m t s) := by
  unfold execLeaseDeny
  repeat' first
    | (with_reducible first
        | assumption | rfl | apply res_next | apply res_ite | apply ext_ite | apply till_ext | apply lookoutBad_ext
        | apply answered_ext | apply wrB_ext | apply modPair_ext | apply setRole_ext | apply pairSafe_ext
        | apply toLookout_ext | apply denyFollow_ext)
    | (extract_lets +onlyGivenNames x
       refine have hx : State.Ext s0 x := ?_; ?_
       (on_goal 2 => clear_value x)
       subst x)
    | (extract_lets +onlyGivenNames x; first | clear_value x | subst x)
    | split
    | with_reducible apply ext_mk

theorem execLeaseRenew_ext (h : s0.Ext s) (t : Nat) : Res.Ext s0 (execLeaseRenew t s) := by
  unfold execLeaseRenew
  repeat' first
    | (with_reducible first
        | assumption | apply res_next | apply res_ite | apply ext_ite | apply till_ext | apply renew_ext)
    | (extract_lets +onlyGivenNames x
       refine have hx : State.Ext s0 x := ?_; ?_
       (on_goal 2 => clear_value x)
       subst x)
    | (extract_lets +onlyGivenNames x; first | clear_value x | subst x)
    | split

theorem execClaimRepeat_ext (h : s0.Ext s) (t : Nat) : Res.Ext s0 (execClaimRepeat t s) := by
  unfold execClaimRepeat
  repeat' first
    | (with_reducible first
        | assumption | apply res_next | apply res_ite | apply ext_ite | apply till_ext | apply claim_ext
        | apply renew_ext)
    | (extract_lets +onlyGivenNames x
       refine have hx : State.Ext s0 x := ?_; ?_
       (on_goal 2 => clear_value x)
       subst x)
    | split

theorem leaseLapses_ext (h : s0.Ext s) : s0.Ext s.leaseLapses := by
  unfold State.leaseLapses
  repeat' first
    | (with_reducible first
        | assumption | apply ext_ite | apply modPair_ext | apply wrB_ext | apply intSet_ext | apply setCond_ext)
    | (extract_lets +onlyGivenNames x
       refine have hx : State.Ext s0 x := ?_; ?_
       (on_goal 2 => clear_value x)
       subst x)
    | split

theorem execLeaseLost_ext (h : s0.Ext s) (t : Nat) : Res.Ext s0 (execLeaseLost t s) := by
  unfold execLeaseLost
  repeat' first
    | (with_reducible first
        | assumption | apply res_next | apply res_ite | apply ext_ite | apply till_ext | apply leaseLapses_ext)
    | (extract_lets +onlyGivenNames x
       refine have hx : State.Ext s0 x := ?_; ?_
       (on_goal 2 => clear_value x)
       subst x)
    | split

theorem judgeWired_ext (h : s0.Ext s) : s0.Ext s.judgeWired := by
  unfold State.judgeWired
  repeat' first
    | (with_reducible first
        | assumption | rfl | apply ext_ite | apply leaseLapses_ext | apply wr_ext | apply modPair_ext
        | apply holdLease_ext | apply takeLead_ext | apply denyFollow_ext)
    | (extract_lets +onlyGivenNames x
       refine have hx : State.Ext s0 x := ?_; ?_
       (on_goal 2 => clear_value x)
       subst x)
    | (extract_lets +onlyGivenNames x; first | clear_value x | subst x)
    | split
    | with_reducible apply ext_mk

theorem execWiredGrant_ext (h : s0.Ext s) (a b : Bool) (t : Nat) : Res.Ext s0 (execWiredGrant a b t s) := by
  unfold execWiredGrant
  repeat' first
    | (with_reducible first
        | assumption | rfl | apply res_next | apply res_ite | apply ext_ite | apply till_ext | apply modPair_ext
        | apply judgeWired_ext | apply wr_ext)
    | with_reducible apply ext_mk

/-! ## Machine/Agree -/

theorem judgeSlot_ext (h : s0.Ext s) (n crc : Nat) : s0.Ext (s.judgeSlot n crc) := by
  unfold State.judgeSlot
  repeat' first
    | (with_reducible first
        | assumption | apply ext_ite | apply toPartner_ext | apply setSlot_ext | apply setSlotSt_ext)
    | (extract_lets +onlyGivenNames x; first | clear_value x | subst x)
    | split

theorem judgeWaiting_ext (h : s0.Ext s) : s0.Ext s.judgeWaiting := by
  unfold State.judgeWaiting
  repeat' first
    | (with_reducible first
        | assumption | rfl | apply ext_ite | apply ready_ext | apply modPair_ext | apply judgeSlot_ext)
    | (with_reducible apply ext_foldl; on_goal 2 => (intro t x ht; try beta_reduce))
    | (extract_lets +onlyGivenNames x
       refine have hx : State.Ext s0 x := ?_; ?_
       (on_goal 2 => clear_value x)
       subst x)
    | (extract_lets +onlyGivenNames x; have y : _ → State := x; clear y; subst x; beta_reduce)
    | (extract_lets +onlyGivenNames x; first | clear_value x | subst x)
    | with_reducible apply ext_mk

theorem execSlotMessage_ext (h : s0.Ext s) (n : Fin 32) (target action mask0 mask1 mask2 mask3 fwd crc : Nat) :
    Res.Ext s0 (execSlotMessage n target action mask0 mask1 mask2 mask3 fwd crc s) := by
  unfold execSlotMessage
  repeat' first
    | (with_reducible first
        | assumption | apply res_next | apply res_ite | apply ext_ite | apply wrs_ext | apply setSlot_ext
        | apply modPair_ext | apply judgeWaiting_ext)
    | (extract_lets +onlyGivenNames x
       refine have hx : State.Ext s0 x := ?_; ?_
       (on_goal 2 => clear_value x)
       subst x)
    | (extract_lets +onlyGivenNames x; first | clear_value x | subst x)
    | split

theorem execSlotAck_ext (h : s0.Ext s) (n : Fin 32) : Res.Ext s0 (execSlotAck n s) := by
  unfold execSlotAck
  repeat' first
    | (with_reducible first
        | assumption | apply res_next | apply res_ite | apply ext_ite | apply toPartner_ext | apply setSlotSt_ext)
    | (extract_lets +onlyGivenNames x; first | clear_value x | subst x)
    | split

theorem execSlotNak_ext (h : s0.Ext s) (n : Fin 32) : Res.Ext s0 (execSlotNak n s) := by
  unfold execSlotNak
  repeat' first
    | (with_reducible first
        | assumption | apply res_next | apply res_ite | apply ext_ite | apply reschedule_ext | apply sendRegions_ext
        | apply count_ext)
    | (extract_lets +onlyGivenNames x; first | clear_value x | subst x)
    | split

theorem execSlotConfirm_ext (h : s0.Ext s) (n : Fin 32) : Res.Ext s0 (execSlotConfirm n s) := by
  unfold execSlotConfirm
  repeat' first
    | (with_reducible first
        | assumption | apply res_next | apply res_ite | apply ext_ite | apply setSlotSt_ext)
    | (extract_lets +onlyGivenNames x; first | clear_value x | subst x)
    | split

theorem execSlotAckDeadline_ext (h : s0.Ext s) (n : Fin 32) : Res.Ext s0 (execSlotAckDeadline n s) := by
  unfold execSlotAckDeadline
  repeat' first
    | (with_reducible first
        | assumption | apply res_next | apply res_ite | apply ext_ite | apply reschedule_ext | apply slotRefuse_ext)
    | (extract_lets +onlyGivenNames x; first | clear_value x | subst x)
    | split

theorem absentFor_ext (h : s0.Ext s) (cs : List Nat) (line : Nat) : s0.Ext (s.absentFor cs line) := by
  unfold State.absentFor
  repeat' first
    | with_reducible first
      | assumption | apply modPair_ext

theorem resumeFor_ext (h : s0.Ext s) (cs : List Nat) (line : Nat) : s0.Ext (s.resumeFor cs line) := by
  unfold State.resumeFor
  repeat' first
    | with_reducible first
      | assumption | apply modPair_ext

theorem execInDoubt_ext (h : s0.Ext s) (n : Fin 32) : Res.Ext s0 (execInDoubt n s) := by
  unfold execInDoubt
  repeat' first
    | (with_reducible first
        | assumption | apply res_next | apply res_ite | apply ext_ite | apply modPair_ext | apply absentFor_ext
        | apply toPartner_ext | apply showDoubt_ext)
    | (extract_lets +onlyGivenNames x
       refine have hx : State.Ext s0 x := ?_; ?_
       (on_goal 2 => clear_value x)
       subst x)
    | (extract_lets +onlyGivenNames x; first | clear_value x | subst x)
    | split

theorem execInDoubtAnswer_ext (h : s0.Ext s) (n : Fin 32) (applied : Bool) (line : Nat) :
    Res.Ext s0 (execInDoubtAnswer n applied line s) := by
  unfold execInDoubtAnswer
  repeat' first
    | (with_reducible first
        | assumption | apply res_next | apply res_ite | apply ext_ite | apply showDoubt_ext | apply modPair_ext
        | apply resumeFor_ext | apply setSlot_ext | apply setSlotSt_ext)
    | (extract_lets +onlyGivenNames x
       refine have hx : State.Ext s0 x := ?_; ?_
       (on_goal 2 => clear_value x)
       subst x)
    | (extract_lets +onlyGivenNames x; first | clear_value x | subst x)
    | split

theorem answerDoubt_ext (h : s0.Ext s) (n : Nat) : s0.Ext (s.answerDoubt n) := by
  unfold State.answerDoubt
  repeat' first
    | (with_reducible first
        | assumption | apply toPartner_ext)
    | (extract_lets +onlyGivenNames x; first | clear_value x | subst x)

theorem execSlotCancelMessage_ext (h : s0.Ext s) (n : Fin 32) : Res.Ext s0 (execSlotCancelMessage n s) := by
  unfold execSlotCancelMessage
  repeat' first
    | (with_reducible first
        | assumption | apply res_next | apply res_ite | apply ext_ite | apply modPair_ext | apply setSlotSt_ext)
    | (extract_lets +onlyGivenNames x; first | clear_value x | subst x)
    | split

theorem setRunNum_ext (h : s0.Ext s) (n : Nat) : s0.Ext (s.setRunNum n) := by
  unfold State.setRunNum
  repeat' first
    | (with_reducible first
        | assumption | apply wrF_ext | apply modLine_ext)
    | (with_reducible apply ext_foldl; on_goal 2 => (intro t x ht; try beta_reduce))

theorem execStartMessage_ext (h : s0.Ext s) (startLine run t : Nat) :
    Res.Ext s0 (execStartMessage startLine run t s) := by
  unfold execStartMessage
  repeat' first
    | (with_reducible first
        | assumption | rfl | apply res_next | apply res_ite | apply ext_ite | apply till_ext | apply modLine_ext
        | apply setRunNum_ext | apply wr_ext | apply beginRun_ext | apply sendRing_ext | apply emits_ext)
    | (extract_lets +onlyGivenNames x
       refine have hx : State.Ext s0 x := ?_; ?_
       (on_goal 2 => clear_value x)
       subst x)
    | (extract_lets +onlyGivenNames x; first | clear_value x | subst x)
    | split
    | with_reducible apply ext_mk

theorem skewMax_ext (h : s0.Ext s) (e : Nat) : s0.Ext (s.skewMax e) := by
  unfold State.skewMax
  repeat' first
    | (with_reducible first
        | assumption | apply ext_ite | apply wrF_ext)
    | split

theorem comparePhase_ext (h : s0.Ext s) (e : Int) : s0.Ext (s.comparePhase e) := by
  unfold State.comparePhase
  repeat' first
    | (with_reducible first
        | assumption | apply ext_ite | apply skewMax_ext | apply wr_ext | apply modPair_ext | apply intSet_ext)
    | (extract_lets +onlyGivenNames x
       refine have hx : State.Ext s0 x := ?_; ?_
       (on_goal 2 => clear_value x)
       subst x)
    | (extract_lets +onlyGivenNames x; first | clear_value x | subst x)
    | split

theorem execTickInstant_ext (h : s0.Ext s) (line leaderFrc : Nat) :
    Res.Ext s0 (execTickInstant line leaderFrc s) := by
  unfold execTickInstant
  repeat' first
    | (with_reducible first
        | assumption | apply res_next | apply res_ite | apply ext_ite | apply comparePhase_ext)
    | split

theorem setGrant_ext (h : s0.Ext s) (c v : Nat) : s0.Ext (s.setGrant c v) := by
  unfold State.setGrant
  repeat' first
    | with_reducible first
      | assumption | apply modPair_ext

theorem execRetrainRequest_ext (h : s0.Ext s) (c : Fin 128) (x1 : Bool) : Res.Ext s0 (execRetrainRequest c x1 s) := by
  unfold execRetrainRequest
  repeat' first
    | (with_reducible first
        | assumption | apply res_next | apply res_ite | apply ext_ite | apply toPartner_ext | apply setGrant_ext)
    | (extract_lets +onlyGivenNames x; first | clear_value x | subst x)
    | split

theorem granted_ext (h : s0.Ext s) (c : Nat) : s0.Ext (s.granted c) := by
  unfold State.granted
  repeat' first
    | (with_reducible first
        | assumption | apply ext_ite | apply startDegraded_ext)
    | split

theorem notGranted_ext (h : s0.Ext s) (c : Nat) : s0.Ext (s.notGranted c) := by
  unfold State.notGranted
  repeat' first
    | (with_reducible first
        | assumption | apply ext_ite | apply deferRetrain_ext)
    | split

theorem partnerLane_ext (h : s0.Ext s) (c v : Nat) (head : List Nat) : s0.Ext (s.partnerLane c v head) := by
  unfold State.partnerLane
  repeat' first
    | (with_reducible first
        | assumption | rfl | apply ext_ite | apply wrB_ext | apply modPair_ext | apply setGrant_ext
        | apply releaseOne_ext)
    | (extract_lets +onlyGivenNames x
       refine have hx : State.Ext s0 x := ?_; ?_
       (on_goal 2 => clear_value x)
       subst x)
    | (extract_lets +onlyGivenNames x; first | clear_value x | subst x)
    | split
    | with_reducible apply ext_mk

theorem partnerAsks_ext (h : s0.Ext s) (retire : Bool) : s0.Ext (s.partnerAsks retire) := by
  unfold State.partnerAsks
  repeat' first
    | (with_reducible first
        | assumption | apply ext_ite | apply toPartner_ext | apply wr_ext | apply agreeChange_ext)
    | (extract_lets +onlyGivenNames x
       refine have hx : State.Ext s0 x := ?_; ?_
       (on_goal 2 => clear_value x)
       subst x)
    | split

theorem changeAgreed_ext (h : s0.Ext s) (retire : Bool) (line : Nat) (leaders : Bool) :
    s0.Ext (s.changeAgreed retire line leaders) := by
  unfold State.changeAgreed
  repeat' first
    | (with_reducible first
        | assumption | rfl | apply ext_ite | apply modPair_ext | apply retire_ext | apply setChange_ext | apply wr_ext)
    | (extract_lets +onlyGivenNames x
       refine have hx : State.Ext s0 x := ?_; ?_
       (on_goal 2 => clear_value x)
       subst x)
    | (extract_lets +onlyGivenNames x; first | clear_value x | subst x)
    | split
    | with_reducible apply ext_mk

theorem changeRefused_ext (h : s0.Ext s) : s0.Ext s.changeRefused := by
  unfold State.changeRefused
  repeat' first
    | (with_reducible first
        | assumption | apply ext_ite | apply setChange_ext)
    | split

theorem swapRoles_ext (h : s0.Ext s) : s0.Ext s.swapRoles := by
  unfold State.swapRoles
  repeat' first
    | (with_reducible first
        | assumption | apply ext_ite | apply setRole_ext | apply release_ext | apply claim_ext)
    | split

theorem retireSelf_ext (h : s0.Ext s) : s0.Ext s.retireSelf := by
  unfold State.retireSelf
  repeat' first
    | (with_reducible first
        | assumption | apply ext_ite | apply setRole_ext | apply release_ext | apply pairSafe_ext)
    | (extract_lets +onlyGivenNames x
       refine have hx : State.Ext s0 x := ?_; ?_
       (on_goal 2 => clear_value x)
       subst x)
    | split

theorem partnerRetires_ext (h : s0.Ext s) : s0.Ext s.partnerRetires := by
  unfold State.partnerRetires
  repeat' first
    | (with_reducible first
        | assumption | apply ext_ite | apply claim_ext | apply setRole_ext | apply setCond_ext | apply modPair_ext)
    | (extract_lets +onlyGivenNames x
       refine have hx : State.Ext s0 x := ?_; ?_
       (on_goal 2 => clear_value x)
       subst x)
    | split

theorem execHandoverAtLine_ext (h : s0.Ext s) : Res.Ext s0 (execHandoverAtLine s) := by
  unfold execHandoverAtLine
  repeat' first
    | (with_reducible first
        | assumption | apply res_next | apply res_ite | apply ext_ite | apply modPair_ext | apply tallyAt_ext
        | apply intSet_ext | apply setChange_ext | apply swapRoles_ext | apply retireSelf_ext
        | apply partnerRetires_ext)
    | (extract_lets +onlyGivenNames x
       refine have hx : State.Ext s0 x := ?_; ?_
       (on_goal 2 => clear_value x)
       subst x)
    | split

theorem execSyncEntry_ext (h : s0.Ext s) : Res.Ext s0 (execSyncEntry s) := by
  unfold execSyncEntry
  repeat' first
    | (with_reducible first
        | assumption | apply res_next | apply res_ite | apply ext_ite | apply enterSync_ext)
    | split

theorem joinRun_ext (h : s0.Ext s) (line : Nat) : s0.Ext (s.joinRun line) := by
  unfold State.joinRun
  repeat' first
    | (with_reducible first
        | assumption | rfl | apply ext_ite | apply modLine_ext | apply emitTables_ext | apply setRunNum_ext
        | apply wrs_ext | apply releaseRows_ext | apply setModule_ext | apply setRun_ext | apply intSet_ext
        | apply lossCheck_ext)
    | (extract_lets +onlyGivenNames x
       refine have hx : State.Ext s0 x := ?_; ?_
       (on_goal 2 => clear_value x)
       subst x)
    | (extract_lets +onlyGivenNames x; first | clear_value x | subst x)
    | with_reducible apply ext_mk

theorem execSyncComplete_ext (h : s0.Ext s) : Res.Ext s0 (execSyncComplete s) := by
  unfold execSyncComplete
  repeat' first
    | (with_reducible first
        | assumption | rfl | apply res_next | apply res_ite | apply ext_ite | apply leaderSynced_ext
        | apply copyShadows_ext | apply carryEnc_ext | apply toPartner_ext)
    | (with_reducible apply ext_foldl; on_goal 2 => (intro t x ht; try beta_reduce))
    | (extract_lets +onlyGivenNames x
       refine have hx : State.Ext s0 x := ?_; ?_
       (on_goal 2 => clear_value x)
       subst x)
    | (extract_lets +onlyGivenNames x; have y : _ → State := x; clear y; subst x; beta_reduce)
    | (extract_lets +onlyGivenNames x; first | clear_value x | subst x)
    | split
    | with_reducible apply ext_mk

theorem answerSync_ext (h : s0.Ext s) : s0.Ext s.answerSync := by
  unfold State.answerSync
  repeat' first
    | (with_reducible first
        | assumption | apply ext_ite | apply toPartner_ext)
    | split

theorem syncAgreed_ext (h : s0.Ext s) (inRun : Bool) (line : Nat) : s0.Ext (s.syncAgreed inRun line) := by
  unfold State.syncAgreed
  repeat' first
    | (with_reducible first
        | assumption | rfl | apply ext_ite | apply modPair_ext | apply setCond_ext | apply joinRun_ext)
    | (extract_lets +onlyGivenNames x
       refine have hx : State.Ext s0 x := ?_; ?_
       (on_goal 2 => clear_value x)
       subst x)
    | (extract_lets +onlyGivenNames x; first | clear_value x | subst x)
    | split
    | with_reducible apply ext_mk

theorem digestNow_ext (h : s0.Ext s) (src : Req) : s0.Ext (s.digestNow src) := by
  unfold State.digestNow
  repeat' first
    | (with_reducible first
        | assumption | apply ext_ite | apply errAt_ext | apply startDigest_ext)
    | split

theorem execDigestNow_ext (h : s0.Ext s) (src : Req) : Res.Ext s0 (execDigestNow src s) := by
  unfold execDigestNow
  repeat' first
    | (with_reducible first
        | assumption | apply res_next | apply res_ite | apply ext_ite | apply digestNow_ext)
    | split

theorem execSelfTestDigest_ext (h : s0.Ext s) : Res.Ext s0 (execSelfTestDigest s) := by
  unfold execSelfTestDigest
  repeat' first
    | (with_reducible first
        | assumption | apply res_next | apply res_ite | apply ext_ite | apply startDigest_ext)
    | split

theorem execDigestFail_ext (h : s0.Ext s) (target : Nat) : Res.Ext s0 (execDigestFail target s) := by
  unfold execDigestFail
  repeat' first
    | (with_reducible first
        | assumption | rfl | apply res_next | apply res_ite | apply ext_ite | apply modPair_ext | apply sendActive_ext
        | apply toPartner_ext | apply absentFor_ext)
    | (extract_lets +onlyGivenNames x
       refine have hx : State.Ext s0 x := ?_; ?_
       (on_goal 2 => clear_value x)
       subst x)
    | (extract_lets +onlyGivenNames x; first | clear_value x | subst x)
    | split
    | with_reducible apply ext_mk

theorem takeResume_ext (h : s0.Ext s) (target line : Nat) : s0.Ext (s.takeResume target line) := by
  unfold State.takeResume
  repeat' first
    | (with_reducible first
        | assumption | apply ext_ite | apply resumeFor_ext)
    | (extract_lets +onlyGivenNames x
       refine have hx : State.Ext s0 x := ?_; ?_
       (on_goal 2 => clear_value x)
       subst x)
    | (extract_lets +onlyGivenNames x; first | clear_value x | subst x)
    | split

theorem execHealthPublish_ext (h : s0.Ext s) (partner : Option Nat) : Res.Ext s0 (execHealthPublish partner s) := by
  unfold execHealthPublish
  repeat' first
    | (with_reducible first
        | assumption | apply res_next | apply res_ite | apply ext_ite | apply wr_ext | apply toPartner_ext)
    | (extract_lets +onlyGivenNames x
       refine have hx : State.Ext s0 x := ?_; ?_
       (on_goal 2 => clear_value x)
       subst x)
    | split

/-! ## Machine/Ring -/

theorem showTlMax_ext (h : s0.Ext s) : s0.Ext s.showTlMax := by
  unfold State.showTlMax
  repeat' first
    | with_reducible first
      | assumption | apply wr_ext

theorem setNodeCount_ext (h : s0.Ext s) (n : Nat) : s0.Ext (s.setNodeCount n) := by
  unfold State.setNodeCount
  repeat' first
    | with_reducible first
      | assumption | apply wr_ext

theorem sendEnum_ext (h : s0.Ext s) (east : Bool) (m : Enum) : s0.Ext (s.sendEnum east m) := by
  unfold State.sendEnum
  repeat' first
    | (with_reducible first
        | assumption | apply ext_ite | apply sendTime_ext | apply emit_ext)
    | (extract_lets +onlyGivenNames x
       refine have hx : State.Ext s0 x := ?_; ?_
       (on_goal 2 => clear_value x)
       subst x)
    | (extract_lets +onlyGivenNames x; first | clear_value x | subst x)
    | split

theorem enumDone_ext (h : s0.Ext s) (m : Enum) : s0.Ext (s.enumDone m) := by
  unfold State.enumDone
  repeat' first
    | (with_reducible first
        | assumption | rfl | apply ext_ite | apply setNodeCount_ext | apply wr_ext | apply count_ext
        | apply sendEnum_ext | apply setRingSt_ext | apply intSet_ext | apply startLanes_ext)
    | (extract_lets +onlyGivenNames x
       refine have hx : State.Ext s0 x := ?_; ?_
       (on_goal 2 => clear_value x)
       subst x)
    | (extract_lets +onlyGivenNames x; first | clear_value x | subst x)
    | split
    | with_reducible apply ext_mk

theorem enumBegin_ext (h : s0.Ext s) (st : Nat) : s0.Ext (s.enumBegin st) := by
  unfold State.enumBegin
  repeat' first
    | (with_reducible first
        | assumption | rfl | apply ext_ite | apply wrF_ext | apply setRingSt_ext | apply modRing_ext | apply frc_ext
        | apply count_ext | apply sendEnum_ext | apply enumDone_ext)
    | (extract_lets +onlyGivenNames x
       refine have hx : State.Ext s0 x := ?_; ?_
       (on_goal 2 => clear_value x)
       subst x)
    | (extract_lets +onlyGivenNames x; first | clear_value x | subst x)
    | split
    | with_reducible apply ext_mk

theorem execClosureProbe_ext (h : s0.Ext s) (root t : Nat) : Res.Ext s0 (execClosureProbe root t s) := by
  unfold execClosureProbe
  repeat' first
    | (with_reducible first
        | assumption | apply res_next | apply res_ite | apply ext_ite | apply till_ext | apply enumBegin_ext
        | apply otherRoot_ext | apply sendTime_ext | apply emit_ext)
    | (extract_lets +onlyGivenNames x
       refine have hx : State.Ext s0 x := ?_; ?_
       (on_goal 2 => clear_value x)
       subst x)
    | (extract_lets +onlyGivenNames x; first | clear_value x | subst x)
    | split

theorem takeAddress_ext (h : s0.Ext s) (fromW : Bool) (m : Enum) : s0.Ext (s.takeAddress fromW m) := by
  unfold State.takeAddress
  repeat' first
    | (with_reducible first
        | assumption | rfl | apply ext_ite | apply modRing_ext | apply wrF_ext | apply setRingSt_ext
        | apply sendEnum_ext)
    | (extract_lets +onlyGivenNames x
       refine have hx : State.Ext s0 x := ?_; ?_
       (on_goal 2 => clear_value x)
       subst x)
    | (extract_lets +onlyGivenNames x; first | clear_value x | subst x)
    | split
    | with_reducible apply ext_mk

theorem nodeEnum_ext (h : s0.Ext s) (fromW : Bool) (m : Enum) : s0.Ext (s.nodeEnum fromW m) := by
  unfold State.nodeEnum
  repeat' first
    | (with_reducible first
        | assumption | apply ext_ite | apply count_ext | apply setNodeCount_ext | apply sendEnum_ext
        | apply takeAddress_ext)
    | (extract_lets +onlyGivenNames x
       refine have hx : State.Ext s0 x := ?_; ?_
       (on_goal 2 => clear_value x)
       subst x)
    | (extract_lets +onlyGivenNames x; first | clear_value x | subst x)
    | split

theorem rootEnum_ext (h : s0.Ext s) (fromW : Bool) (m : Enum) : s0.Ext (s.rootEnum fromW m) := by
  unfold State.rootEnum
  repeat' first
    | (with_reducible first
        | assumption | rfl | apply ext_ite | apply count_ext | apply enumDone_ext | apply modRing_ext
        | apply sendEnum_ext)
    | split
    | with_reducible apply ext_mk

theorem execRingEnum_ext (h : s0.Ext s) (fromW : Bool) (m : Enum) (t : Nat) :
    Res.Ext s0 (execRingEnum fromW m t s) := by
  unfold execRingEnum
  repeat' first
    | (with_reducible first
        | assumption | apply res_next | apply res_ite | apply ext_ite | apply till_ext | apply rootEnum_ext
        | apply otherRoot_ext | apply nodeEnum_ext)
    | (extract_lets +onlyGivenNames x
       refine have hx : State.Ext s0 x := ?_; ?_
       (on_goal 2 => clear_value x)
       subst x)
    | (extract_lets +onlyGivenNames x; first | clear_value x | subst x)
    | split

theorem execClosureTimeout_ext (h : s0.Ext s) (t : Nat) : Res.Ext s0 (execClosureTimeout t s) := by
  unfold execClosureTimeout
  repeat' first
    | (with_reducible first
        | assumption | apply res_next | apply res_ite | apply ext_ite | apply till_ext | apply enumBegin_ext)
    | (extract_lets +onlyGivenNames x
       refine have hx : State.Ext s0 x := ?_; ?_
       (on_goal 2 => clear_value x)
       subst x)
    | split

theorem enumerate_ext (h : s0.Ext s) (src : Req) : s0.Ext (s.enumerate src) := by
  unfold State.enumerate
  repeat' first
    | (with_reducible first
        | assumption | apply ext_ite | apply errAt_ext | apply modRing_ext | apply sendProbe_ext
        | apply setRingSt_ext)
    | (extract_lets +onlyGivenNames x
       refine have hx : State.Ext s0 x := ?_; ?_
       (on_goal 2 => clear_value x)
       subst x)
    | split

theorem execRingEnumerate_ext (h : s0.Ext s) (src : Req) (t : Nat) : Res.Ext s0 (execRingEnumerate src t s) := by
  unfold execRingEnumerate
  repeat' first
    | (with_reducible first
        | assumption | apply res_next | apply res_ite | apply ext_ite | apply till_ext | apply enumerate_ext)
    | split

theorem resync_ext (h : s0.Ext s) : s0.Ext s.resync := by
  unfold State.resync
  repeat' first
    | (with_reducible first
        | assumption | apply ext_ite | apply setRingSt_ext)
    | split

theorem execRingResync_ext (h : s0.Ext s) (src : Req) : Res.Ext s0 (execRingResync src s) := by
  unfold execRingResync
  repeat' first
    | (with_reducible first
        | assumption | apply res_next | apply res_ite | apply ext_ite | apply resync_ext)
    | split

theorem takePrediction_ext (h : s0.Ext s) (line ringTime held : Nat) :
    s0.Ext (s.takePrediction line ringTime held) := by
  unfold State.takePrediction
  repeat' first
    | (with_reducible first
        | assumption | rfl | apply ext_ite | apply modRing_ext)
    | with_reducible apply ext_mk

theorem execLinePrediction_ext (h : s0.Ext s) (t : Nat) : Res.Ext s0 (execLinePrediction t s) := by
  unfold execLinePrediction
  repeat' first
    | (with_reducible first
        | assumption | apply res_next | apply res_ite | apply ext_ite | apply till_ext | apply frc_ext
        | apply takePrediction_ext | apply sendRing_ext | apply sourceInstant_ext)
    | (extract_lets +onlyGivenNames x
       refine have hx : State.Ext s0 x := ?_; ?_
       (on_goal 2 => clear_value x)
       subst x)
    | (extract_lets +onlyGivenNames x; first | clear_value x | subst x)
    | split

theorem lineAt_ext (h : s0.Ext s) (line ringTime : Nat) : s0.Ext (s.lineAt line ringTime) := by
  unfold State.lineAt
  repeat' first
    | (with_reducible first
        | assumption | apply ext_ite | apply drew_ext | apply takePrediction_ext | apply frc_ext | apply count_ext
        | apply intSet_ext | apply ringInstant_ext)
    | (extract_lets +onlyGivenNames x
       refine have hx : State.Ext s0 x := ?_; ?_
       (on_goal 2 => clear_value x)
       subst x)
    | (extract_lets +onlyGivenNames x; first | clear_value x | subst x)
    | split

theorem lineFollows_ext (h : s0.Ext s) (n : Nat) : s0.Ext (s.lineFollows n) := by
  induction n generalizing s with
  | zero => exact h
  | succ n ih =>
    unfold State.lineFollows
    split
    · exact ih (lineAt_ext h _ _)
    · exact h

theorem execLineTime_ext (h : s0.Ext s) (line ringTime t : Nat) : Res.Ext s0 (execLineTime line ringTime t s) := by
  unfold execLineTime
  repeat' first
    | (with_reducible first
        | assumption | apply lineFollows_ext | rfl | apply res_next | apply res_ite | apply ext_ite | apply till_ext | apply sendRing_ext
        | apply lineAt_ext | apply modRing_ext | apply drew_ext)
    | (extract_lets +onlyGivenNames x
       refine have hx : State.Ext s0 x := ?_; ?_
       (on_goal 2 => clear_value x)
       subst x)
    | (extract_lets +onlyGivenNames x; first | clear_value x | subst x)
    | split
    | with_reducible apply ext_mk

theorem execPredHold_ext (h : s0.Ext s) (t : Nat) : Res.Ext s0 (execPredHold t s) := by
  unfold execPredHold
  repeat' first
    | (with_reducible first
        | assumption | apply lineFollows_ext | apply res_next | apply res_ite | apply ext_ite | apply till_ext | apply frc_ext
        | apply takePrediction_ext | apply count_ext | apply ringInstant_ext | apply tickLost_ext)
    | (extract_lets +onlyGivenNames x
       refine have hx : State.Ext s0 x := ?_; ?_
       (on_goal 2 => clear_value x)
       subst x)
    | (extract_lets +onlyGivenNames x; first | clear_value x | subst x)
    | split

theorem ringRates_ext (h : s0.Ext s) (rates : List Nat) (lowest : Option Nat) :
    s0.Ext (s.ringRates rates lowest) := by
  unfold State.ringRates
  repeat' first
    | (with_reducible first
        | assumption | rfl | apply ext_ite | apply modRing_ext | apply wr_ext | apply sendRing_ext
        | apply sendTime_ext)
    | (with_reducible apply ext_foldl; on_goal 2 => (intro t x ht; try beta_reduce))
    | (extract_lets +onlyGivenNames x
       refine have hx : State.Ext s0 x := ?_; ?_
       (on_goal 2 => clear_value x)
       subst x)
    | (extract_lets +onlyGivenNames x; have y : _ → State := x; clear y; subst x; beta_reduce)
    | (extract_lets +onlyGivenNames x; first | clear_value x | subst x)
    | split
    | with_reducible apply ext_mk

theorem execRateExchange_ext (h : s0.Ext s) (rates : List Nat) (lowest partner : Option Nat) :
    Res.Ext s0 (execRateExchange rates lowest partner s) := by
  unfold execRateExchange
  repeat' first
    | (with_reducible first
        | assumption | rfl | apply res_next | apply res_ite | apply ext_ite | apply ringRates_ext | apply sendTime_ext
        | apply modRing_ext | apply wr_ext | apply emits_ext | apply emit_ext)
    | (extract_lets +onlyGivenNames x
       refine have hx : State.Ext s0 x := ?_; ?_
       (on_goal 2 => clear_value x)
       subst x)
    | (extract_lets +onlyGivenNames x; first | clear_value x | subst x)
    | split
    | with_reducible apply ext_mk

/-! ## Machine/Clock -/

theorem lockEffect_ext (h : s0.Ext s) (i : Nat) : s0.Ext (s.lockEffect i) := by
  unfold State.lockEffect
  repeat' first
    | (with_reducible first
        | assumption | rfl | apply ext_ite | apply moduleReset_ext | apply failDram_ext | apply peerDown_ext
        | apply modPair_ext | apply setPath_ext | apply netDown_ext | apply forceHoldover_ext | apply standbyReset_ext)
    | (with_reducible apply ext_foldl; on_goal 2 => (intro t x ht; try beta_reduce))
    | (extract_lets +onlyGivenNames x
       refine have hx : State.Ext s0 x := ?_; ?_
       (on_goal 2 => clear_value x)
       subst x)
    | (extract_lets +onlyGivenNames x; have y : _ → State := x; clear y; subst x; beta_reduce)
    | (extract_lets +onlyGivenNames x; first | clear_value x | subst x)
    | split
    | with_reducible apply ext_mk

theorem pllLost_ext (h : s0.Ext s) (bits : List Nat) : s0.Ext (s.pllLost bits) := by
  unfold State.pllLost
  repeat' first
    | (with_reducible first
        | assumption | apply intSet_ext | apply wrB_ext)
    | (with_reducible apply ext_foldl; on_goal 2 => (intro t x ht; try beta_reduce))

theorem execPllLossOfLock_ext (h : s0.Ext s) (pll : Pll) (long : Bool) :
    Res.Ext s0 (execPllLossOfLock pll long s) := by
  unfold execPllLossOfLock
  repeat' first
    | (with_reducible first
        | assumption | apply res_next | apply res_ite | apply ext_ite | apply pllLost_ext | apply tally_ext
        | apply lockEffect_ext | apply wr_ext)
    | (with_reducible apply ext_foldl; on_goal 2 => (intro t x ht; try beta_reduce))
    | (extract_lets +onlyGivenNames x
       refine have hx : State.Ext s0 x := ?_; ?_
       (on_goal 2 => clear_value x)
       subst x)
    | (extract_lets +onlyGivenNames x; first | clear_value x | subst x)
    | split

theorem execPllLockRegained_ext (h : s0.Ext s) (pll : Pll) : Res.Ext s0 (execPllLockRegained pll s) := by
  unfold execPllLockRegained
  repeat' first
    | with_reducible first
      | assumption | apply res_next | apply wrB_ext

end Sys2Proof.Machine
end

