-- ==== Sys2Proof/Laws/ExtBus.lean ====
section
/-! SUPPORT. `State.Ext` is kept by every function of the meanings: the services, the Yarder, timed I/O, and the accesses of the register space. -/

set_option linter.unusedTactic false
set_option linter.unreachableTactic false

namespace Sys2Proof.Machine

variable {s0 s : State}

/-! ## Machine/Services -/

theorem fwAck_ext (h : s0.Ext s) (n code : Nat) : s0.Ext (s.fwAck n code) := by
  unfold State.fwAck
  repeat' first
    | with_reducible first
      | assumption | apply dropMessage_ext | apply mbResult_ext

theorem secureForm_ext (h : s0.Ext s) (m type tag : Nat) (payload : List Byte) :
    s0.Ext (s.secureForm m type tag payload).1 := by
  unfold State.secureForm
  repeat' first
    | (with_reducible first
        | assumption | rfl | apply ext_ite | apply ext_fst_ite | apply macOf_ext)
    | (extract_lets +onlyGivenNames x
       refine have hx : State.Ext s0 x := ?_; ?_
       (on_goal 2 => clear_value x)
       subst x)
    | (extract_lets +onlyGivenNames x; first | clear_value x | subst x)
    | with_reducible apply ext_mk

theorem postReply_ext (h : s0.Ext s) (n : Nat) (payload : List Byte) : s0.Ext (s.postReply n payload) := by
  unfold State.postReply
  repeat' first
    | (with_reducible first
        | assumption | apply ext_ite | apply secureForm_ext | apply emit_ext | apply wrs_ext | apply mbPost_ext
        | apply drew_ext)
    | (extract_lets +onlyGivenNames x
       refine have hx : State.Ext s0 x := ?_; ?_
       (on_goal 2 => clear_value x)
       subst x)
    | (extract_lets +onlyGivenNames x; first | clear_value x | subst x)
    | split

theorem serveCmd_ext (h : s0.Ext s) (n type : Nat) (payload : List Byte)
    (act : State → State × Nat × Option (List Byte)) (hact : ∀ t, s0.Ext t → s0.Ext (act t).1) :
    s0.Ext (s.serveCmd n type payload act) := by
  unfold State.serveCmd
  split
  · rename_i e
    have k := hact s h
    rw [e] at k
    exact fwAck_ext k _ _
  · rename_i e
    have k := hact s h
    rw [e] at k
    exact ext_ite (ext_mk h rfl) (ext_ite (fwAck_ext h _ _) (fwAck_ext (postReply_ext k _ _) _ _))

theorem authFail_ext (h : s0.Ext s) : s0.Ext s.authFail := by
  unfold State.authFail
  repeat' first
    | with_reducible first
      | assumption | apply tally_ext | apply intSet_ext | apply count_ext

theorem secure_ext (h : s0.Ext s) (n : Nat) (lenOk : Nat → Bool) (f : List Byte → State → State)
    (hf : ∀ p t, s0.Ext t → s0.Ext (f p t)) : s0.Ext (s.secure n lenOk f) := by
  unfold State.secure
  repeat' first
    | (with_reducible first
        | assumption | apply ext_ite | apply fwAck_ext | apply authFail_ext | apply hf)
    | (extract_lets +onlyGivenNames x
       refine have hx : State.Ext s0 x := ?_; ?_
       (on_goal 2 => clear_value x)
       subst x)
    | (extract_lets +onlyGivenNames x; first | clear_value x | subst x)
    | split
    | exact ext_mk h rfl

theorem secureOnly_ext (h : s0.Ext s) (n : Nat) (lenOk : Nat → Bool) (f : List Byte → State → State)
    (hf : ∀ p t, s0.Ext t → s0.Ext (f p t)) : s0.Ext (s.secureOnly n lenOk f) :=
  ext_ite (fwAck_ext h _ _) (secure_ext h _ _ _ hf)

theorem plain_ext (h : s0.Ext s) (n : Nat) (f : State → State) (hf : ∀ t, s0.Ext t → s0.Ext (f t)) :
    s0.Ext (s.plain n f) :=
  ext_ite (secure_ext h _ _ _ fun _ => hf) (ext_ite (fwAck_ext h _ _) (hf s h))

theorem plainOnly_ext (h : s0.Ext s) (n : Nat) (f : State → State) (hf : ∀ t, s0.Ext t → s0.Ext (f t)) :
    s0.Ext (s.plainOnly n f) :=
  plain_ext h _ _ fun t ht => ext_ite (fwAck_ext ht _ _) (hf t ht)

theorem execPing_ext (h : s0.Ext s) (n : Fin 32) : Res.Ext s0 (execPing n s) := by
  unfold execPing
  repeat' first
    | (with_reducible first
        | assumption | apply res_next | apply res_ite | apply ext_ite | apply plain_ext | apply fwAck_ext)
    | (intro t ht; try beta_reduce)
    | split

theorem getInfo_ext (h : s0.Ext s) (n : Nat) : s0.Ext (s.getInfo n) := by
  unfold State.getInfo
  repeat' first
    | (with_reducible first
        | assumption | apply serveCmd_ext)
    | (intro t ht; try beta_reduce)

theorem execGetInfo_ext (h : s0.Ext s) (n : Fin 32) : Res.Ext s0 (execGetInfo n s) := by
  unfold execGetInfo
  repeat' first
    | (with_reducible first
        | assumption | apply res_next | apply res_ite | apply ext_ite | apply plain_ext | apply getInfo_ext)
    | (intro t ht; try beta_reduce)
    | split

theorem execParkRequest_ext (h : s0.Ext s) (n : Fin 32) : Res.Ext s0 (execParkRequest n s) := by
  unfold execParkRequest
  repeat' first
    | (with_reducible first
        | assumption | apply res_next | apply res_ite | apply ext_ite | apply plainOnly_ext | apply dramPark_ext
        | apply setModule_ext | apply fwAck_ext)
    | (intro t; intros; try beta_reduce)
    | split

theorem execResumeRequest_ext (h : s0.Ext s) (n : Fin 32) : Res.Ext s0 (execResumeRequest n s) := by
  unfold execResumeRequest
  repeat' first
    | (with_reducible first
        | assumption | apply res_next | apply res_ite | apply ext_ite | apply plainOnly_ext | apply dramResume_ext
        | apply setModule_ext | apply fwAck_ext)
    | (extract_lets +onlyGivenNames x
       refine have hx : State.Ext s0 x := ?_; ?_
       (on_goal 2 => clear_value x)
       subst x)
    | (extract_lets +onlyGivenNames x; have y : _ → State := x; clear y; subst x; beta_reduce)
    | (extract_lets +onlyGivenNames x; first | clear_value x | subst x)
    | (intro t; intros; try beta_reduce)
    | split

theorem keyRecord_ext (h : s0.Ext s) (n kind key : Nat) (data : List Byte) : s0.Ext (s.keyRecord n kind key data) := by
  unfold State.keyRecord
  split
  · rename_i e; exact fwAck_ext (writeRecord_ext h _ _ _ e) _ _
  · exact fwAck_ext h _ _

theorem execSetHostKey_ext (h : s0.Ext s) (n : Fin 32) : Res.Ext s0 (execSetHostKey n s) := by
  unfold execSetHostKey
  repeat' first
    | (with_reducible first
        | assumption | apply res_next | apply res_ite | apply ext_ite | apply secureOnly_ext | apply keyRecord_ext)
    | (intro t; intros; try beta_reduce)
    | split

theorem execSetLookoutKey_ext (h : s0.Ext s) (n : Fin 32) : Res.Ext s0 (execSetLookoutKey n s) := by
  unfold execSetLookoutKey
  repeat' first
    | (with_reducible first
        | assumption | apply res_next | apply res_ite | apply ext_ite | apply secureOnly_ext | apply keyRecord_ext)
    | (intro t; intros; try beta_reduce)
    | split

theorem eraseKeys_ext (h : s0.Ext s) (n : Nat) : s0.Ext (s.eraseKeys n) := by
  unfold State.eraseKeys
  split
  · exact fwAck_ext h _ _
  · rename_i e
    split
    · exact fwAck_ext h _ _
    · rename_i e'; exact fwAck_ext (writeRecord_ext (writeRecord_ext h _ _ _ e) _ _ _ e') _ _

theorem execEraseKeys_ext (h : s0.Ext s) (n : Fin 32) : Res.Ext s0 (execEraseKeys n s) := by
  unfold execEraseKeys
  repeat' first
    | (with_reducible first
        | assumption | apply res_next | apply res_ite | apply ext_ite | apply secureOnly_ext | apply eraseKeys_ext)
    | (intro t; intros; try beta_reduce)
    | split

theorem journalWriteAct_ext (h : s0.Ext s) (p : List Byte) : s0.Ext (journalWriteAct p s).1 := by
  unfold journalWriteAct
  extract_lets k
  split
  · exact h
  · split
    · exact h
    · split
      · exact h
      · rename_i e; exact writeRecord_ext h _ _ _ e

theorem execJournalWrite_ext (h : s0.Ext s) (n : Fin 32) : Res.Ext s0 (execJournalWrite n s) := by
  unfold execJournalWrite
  repeat' first
    | (with_reducible first
        | assumption | apply res_next | apply res_ite | apply ext_ite | apply secureOnly_ext | apply serveCmd_ext
        | apply journalWriteAct_ext)
    | (intro t; intros; try beta_reduce)
    | split

theorem journalReadAct_ext (h : s0.Ext s) (p : List Byte) : s0.Ext (journalReadAct p s).1 := by
  unfold journalReadAct
  repeat' first
    | (with_reducible first
        | assumption | apply ext_ite | apply ext_fst_ite)
    | (extract_lets +onlyGivenNames x; first | clear_value x | subst x)
    | split

theorem execJournalRead_ext (h : s0.Ext s) (n : Fin 32) : Res.Ext s0 (execJournalRead n s) := by
  unfold execJournalRead
  repeat' first
    | (with_reducible first
        | assumption | apply res_next | apply res_ite | apply ext_ite | apply secureOnly_ext | apply serveCmd_ext
        | apply journalReadAct_ext)
    | (intro t; intros; try beta_reduce)
    | split

theorem bodyCopied_ext (h : s0.Ext s) (n : Nat) (b : List Byte) : s0.Ext (s.bodyCopied n b) := by
  unfold State.bodyCopied
  repeat' first
    | (with_reducible first
        | assumption | rfl | apply ext_ite | apply fwAck_ext | apply secure_ext)
    | (extract_lets +onlyGivenNames x
       refine have hx : State.Ext s0 x := ?_; ?_
       (on_goal 2 => clear_value x)
       subst x)
    | (extract_lets +onlyGivenNames x; first | clear_value x | subst x)
    | (intro t; intros; try beta_reduce)
    | split
    | with_reducible apply ext_mk

theorem execBodyRead_ext (h : s0.Ext s) (n : Fin 32) (read : Option (List Byte)) :
    Res.Ext s0 (execBodyRead n read s) := by
  unfold execBodyRead
  repeat' first
    | (with_reducible first
        | assumption | apply res_next | apply res_ite | apply ext_ite | apply bodyCopied_ext | apply fwAck_ext)
    | (extract_lets +onlyGivenNames x
       refine have hx : State.Ext s0 x := ?_; ?_
       (on_goal 2 => clear_value x)
       subst x)
    | (extract_lets +onlyGivenNames x; first | clear_value x | subst x)
    | split

theorem execReplyChannelFree_ext (h : s0.Ext s) (n : Fin 32) : Res.Ext s0 (execReplyChannelFree n s) := by
  unfold execReplyChannelFree
  repeat' first
    | (with_reducible first
        | assumption | apply res_next | apply res_ite | apply ext_ite | apply getInfo_ext | apply serveCmd_ext
        | apply journalWriteAct_ext | apply journalReadAct_ext)
    | (extract_lets +onlyGivenNames x; first | clear_value x | subst x)
    | (intro t ht; try beta_reduce)
    | (split; rename_i a b e
       refine have ha : State.Ext s0 a := (congrArg (fun q => State.Ext s0 q.1) e).mp ?_; ?_
       (on_goal 2 => clear e)
       beta_reduce)
    | (split; rename_i a b c e
       refine have ha : State.Ext s0 a := (congrArg (fun q => State.Ext s0 q.1) e).mp ?_; ?_
       (on_goal 2 => clear e)
       beta_reduce)
    | split

theorem execReplyRoomTimeout_ext (h : s0.Ext s) (n : Fin 32) : Res.Ext s0 (execReplyRoomTimeout n s) := by
  unfold execReplyRoomTimeout
  repeat' first
    | (with_reducible first
        | assumption | apply res_next | apply fwAck_ext)
    | split

/-! ## Machine/Yarder -/

theorem setQueue_ext (h : s0.Ext s) (q : Nat) (x : Queue) : s0.Ext (s.setQueue q x) := by
  unfold State.setQueue
  repeat' first
    | (with_reducible first
        | assumption | rfl)
    | (extract_lets +onlyGivenNames x; have y : JobUnit := x; clear y; subst x)
    | (extract_lets +onlyGivenNames x; first | clear_value x | subst x)
    | with_reducible apply ext_mk

theorem setQueueSt_ext (h : s0.Ext s) (q v : Nat) : s0.Ext (s.setQueueSt q v) := by
  unfold State.setQueueSt
  repeat' first
    | with_reducible first
      | assumption | apply wrF_ext

theorem queueReady_ext (h : s0.Ext s) (q : Nat) : s0.Ext (s.queueReady q) := by
  unfold State.queueReady
  repeat' first
    | (with_reducible first
        | assumption | apply ext_ite | apply setQueueSt_ext | apply setQueue_ext)
    | split

theorem useShare_ext (h : s0.Ext s) (q n : Nat) : s0.Ext (s.useShare q n) := by
  unfold State.useShare
  repeat' first
    | (with_reducible first
        | assumption | rfl | apply ext_ite)
    | with_reducible apply ext_mk

theorem newRound_ext (h : s0.Ext s) (q : Nat) : s0.Ext (s.newRound q) := by
  unfold State.newRound
  repeat' first
    | (with_reducible first
        | assumption | apply ext_ite | apply useShare_ext)
    | (with_reducible apply ext_foldl; on_goal 2 => (intro t x ht; try beta_reduce))
    | split

theorem queueOff_ext (h : s0.Ext s) (q : Nat) : s0.Ext (s.queueOff q) := by
  unfold State.queueOff
  repeat' first
    | with_reducible first
      | assumption | apply setQueueSt_ext | apply setQueue_ext | apply wrB_ext

theorem doorbell_ext (h : s0.Ext s) (q tail : Nat) : s0.Ext (s.doorbell q tail) := by
  unfold State.doorbell
  repeat' first
    | (with_reducible first
        | assumption | apply ext_ite | apply wr_ext | apply setQueueSt_ext)
    | (extract_lets +onlyGivenNames x
       refine have hx : State.Ext s0 x := ?_; ?_
       (on_goal 2 => clear_value x)
       subst x)
    | split

theorem execQueueDoorbell_ext (h : s0.Ext s) (src : Req) (q : Fin 16) (tail : Nat) :
    Res.Ext s0 (execQueueDoorbell src q tail s) := by
  unfold execQueueDoorbell
  repeat' first
    | (with_reducible first
        | assumption | apply res_next | apply res_ite | apply ext_ite | apply doorbell_ext)
    | split

theorem queueRestart_ext (h : s0.Ext s) (q : Nat) : s0.Ext (s.queueRestart q) := by
  unfold State.queueRestart
  repeat' first
    | (with_reducible first
        | assumption | apply ext_ite | apply queueReady_ext)
    | split

theorem execQueueRestart_ext (h : s0.Ext s) (src : Req) (q : Fin 16) : Res.Ext s0 (execQueueRestart src q s) := by
  unfold execQueueRestart
  repeat' first
    | (with_reducible first
        | assumption | apply res_next | apply res_ite | apply ext_ite | apply queueRestart_ext)
    | split

theorem queueStop_ext (h : s0.Ext s) (q : Nat) : s0.Ext (s.queueStop q) := by
  unfold State.queueStop
  repeat' first
    | (with_reducible first
        | assumption | apply ext_ite | apply setQueueSt_ext | apply setQueue_ext)
    | split

theorem execQueueStop_ext (h : s0.Ext s) (src : Req) (q : Fin 16) : Res.Ext s0 (execQueueStop src q s) := by
  unfold execQueueStop
  repeat' first
    | (with_reducible first
        | assumption | apply res_next | apply res_ite | apply ext_ite | apply queueStop_ext)
    | split

theorem atcHits_ext (h : s0.Ext s) (q addr n : Nat) : s0.Ext (s.atcHits q addr n) := by
  unfold State.atcHits
  repeat' first
    | (with_reducible first
        | assumption | apply ext_ite | apply wr_ext)
    | split

theorem askTranslation_ext (h : s0.Ext s) (q addr : Nat) : s0.Ext (s.askTranslation q addr) := by
  unfold State.askTranslation
  repeat' first
    | (with_reducible first
        | assumption | rfl | apply ext_ite | apply count_ext | apply setQueue_ext | apply emit_ext)
    | with_reducible apply ext_mk

theorem putRecord_ext (h : s0.Ext s) (q : Nat) (b : List Byte) : s0.Ext (s.putRecord q b) := by
  unfold State.putRecord
  repeat' first
    | (with_reducible first
        | assumption | rfl | apply ext_ite | apply setQueue_ext | apply askTranslation_ext | apply atcHits_ext
        | apply emit_ext | apply wrB_ext | apply intSet_ext)
    | (extract_lets +onlyGivenNames x
       refine have hx : State.Ext s0 x := ?_; ?_
       (on_goal 2 => clear_value x)
       subst x)
    | (extract_lets +onlyGivenNames x; first | clear_value x | subst x)
    | split
    | with_reducible apply ext_mk

theorem writeRecordOf_ext (h : s0.Ext s) (q : Nat) (w : List Nat) (code : Nat) :
    s0.Ext (s.writeRecordOf q w code) := by
  unfold State.writeRecordOf
  repeat' first
    | (with_reducible first
        | assumption | apply ext_ite | apply putRecord_ext | apply emit_ext)
    | split

theorem completeDesc_ext (h : s0.Ext s) (q : Nat) (w : List Nat) (code : Nat) : s0.Ext (s.completeDesc q w code) := by
  unfold State.completeDesc
  repeat' first
    | (with_reducible first
        | assumption | apply ext_ite | apply errHw_ext | apply wr_ext | apply count_ext | apply wrF_ext
        | apply queueReady_ext | apply writeRecordOf_ext)
    | (extract_lets +onlyGivenNames x
       refine have hx : State.Ext s0 x := ?_; ?_
       (on_goal 2 => clear_value x)
       subst x)
    | (extract_lets +onlyGivenNames x; first | clear_value x | subst x)
    | split

theorem faultQueue_ext (h : s0.Ext s) (q code cause addr : Nat) : s0.Ext (s.faultQueue q code cause addr) := by
  unfold State.faultQueue
  repeat' first
    | (with_reducible first
        | assumption | apply ext_ite | apply wrF_ext | apply errHw_ext | apply setQueue_ext | apply setQueueSt_ext
        | apply wrB_ext | apply intSet_ext | apply wr64_ext | apply wr_ext)
    | (extract_lets +onlyGivenNames x
       refine have hx : State.Ext s0 x := ?_; ?_
       (on_goal 2 => clear_value x)
       subst x)
    | (extract_lets +onlyGivenNames x; first | clear_value x | subst x)

theorem faultDesc_ext (h : s0.Ext s) (q code cause addr : Nat) : s0.Ext (s.faultDesc q code cause addr) := by
  unfold State.faultDesc
  repeat' first
    | (with_reducible first
        | assumption | apply ext_ite | apply faultQueue_ext | apply writeRecordOf_ext | apply wr_ext)
    | (extract_lets +onlyGivenNames x
       refine have hx : State.Ext s0 x := ?_; ?_
       (on_goal 2 => clear_value x)
       subst x)
    | (extract_lets +onlyGivenNames x; first | clear_value x | subst x)
    | split

theorem refusedAt_ext (h : s0.Ext s) (q addr : Nat) : s0.Ext (s.refusedAt q addr) := by
  unfold State.refusedAt
  repeat' first
    | (with_reducible first
        | assumption | rfl | apply ext_ite | apply setQueue_ext | apply setQueueSt_ext | apply count_ext
        | apply intSet_ext | apply emit_ext | apply faultDesc_ext)
    | (extract_lets +onlyGivenNames x
       refine have hx : State.Ext s0 x := ?_; ?_
       (on_goal 2 => clear_value x)
       subst x)
    | (extract_lets +onlyGivenNames x; first | clear_value x | subst x)
    | split
    | with_reducible apply ext_mk

theorem stopAt_ext (h : s0.Ext s) (q addr : Nat) (x3 : Stop) : s0.Ext (s.stopAt q addr x3) := by
  unfold State.stopAt
  repeat' first
    | (with_reducible first
        | assumption | apply askTranslation_ext | apply setQueue_ext | apply refusedAt_ext | apply faultDesc_ext)
    | (extract_lets +onlyGivenNames x; first | clear_value x | subst x)
    | split

theorem moveBytes_ext (h : s0.Ext s) (q n : Nat) (into : Bool) : s0.Ext (s.moveBytes q n into) := by
  unfold State.moveBytes
  repeat' first
    | (with_reducible first
        | assumption | rfl | apply ext_ite | apply wr64_ext | apply setQueue_ext)
    | (extract_lets +onlyGivenNames x
       refine have hx : State.Ext s0 x := ?_; ?_
       (on_goal 2 => clear_value x)
       subst x)
    | (extract_lets +onlyGivenNames x; have y : JobUnit := x; clear y; subst x)
    | (extract_lets +onlyGivenNames x; first | clear_value x | subst x)
    | split
    | with_reducible apply ext_mk

theorem linearEnd_ext (h : s0.Ext s) (q : Nat) (w : List Nat) (need : Nat) (bad : List (Nat × List Byte)) (n : Nat) (st : Stop) :
    s0.Ext (s.linearEnd q w need bad n st) := by
  unfold State.linearEnd
  repeat' first
    | (with_reducible first
        | assumption | apply ext_ite | apply emit_ext | apply moveBytes_ext | apply stopAt_ext | apply error_ext
        | apply completeDesc_ext)
    | (extract_lets +onlyGivenNames x
       refine have hx : State.Ext s0 x := ?_; ?_
       (on_goal 2 => clear_value x)
       subst x)
    | (extract_lets +onlyGivenNames x; first | clear_value x | subst x)
    | split

theorem moveLinear_ext (h : s0.Ext s) (q : Nat) (w : List Nat) (h : HostData) (lim : Option Nat) :
    s0.Ext (s.moveLinear q w h lim) := by
  unfold State.moveLinear
  repeat' first
    | (with_reducible first
        | assumption | apply ext_ite | apply error_ext | apply fetch_ext | apply atcHits_ext | apply useShare_ext
        | apply emits_ext | apply dramWrite_ext | apply linearEnd_ext | apply memWrite_ext | apply emit_ext)
    | (extract_lets +onlyGivenNames x
       refine have hx : State.Ext s0 x := ?_; ?_
       (on_goal 2 => clear_value x)
       subst x)
    | (extract_lets +onlyGivenNames x; first | clear_value x | subst x)
    | split

theorem sealTile_ext (h : s0.Ext s) (q p row col : Nat) (given : Option (List Byte)) :
    s0.Ext (s.sealTile q p row col given) := by
  unfold State.sealTile
  repeat' first
    | (with_reducible first
        | assumption | rfl | apply ext_ite | apply dramWrite_ext | apply tileBecomesValid_ext | apply count_ext
        | apply wr_ext | apply intSet_ext | apply setQueue_ext | apply memWrite_ext)
    | (extract_lets +onlyGivenNames x
       refine have hx : State.Ext s0 x := ?_; ?_
       (on_goal 2 => clear_value x)
       subst x)
    | (extract_lets +onlyGivenNames x; first | clear_value x | subst x)
    | split
    | with_reducible apply ext_mk

theorem loseTile_ext (h : s0.Ext s) (k : Nat) : s0.Ext (s.loseTile k) := by
  unfold State.loseTile
  repeat' first
    | (with_reducible first
        | assumption | apply ext_ite | apply setTile_ext | apply rowsLose_ext)
    | split

theorem moveTiles_ext (h : s0.Ext s) (q : Nat) (w : List Nat) (data seals : List Byte) (ds ss : Stop) (n : Nat) :
    s0.Ext (s.moveTiles q w data seals ds ss n) := by
  induction n generalizing s data seals with
  | zero => exact completeDesc_ext h _ _ _
  | succ n ih =>
    unfold State.moveTiles
    repeat' first
      | with_reducible assumption
      | with_reducible apply ih
      | with_reducible apply ext_ite
      | with_reducible apply setQueueSt_ext
      | with_reducible apply setQueue_ext
      | with_reducible apply stopAt_ext
      | with_reducible apply moveBytes_ext
      | with_reducible apply dramWrite_ext
      | with_reducible apply atcHits_ext
      | with_reducible apply useShare_ext
      | with_reducible apply loseTile_ext
      | with_reducible apply sealTile_ext
      | (extract_lets +onlyGivenNames x; refine have hx : State.Ext s0 x := ?_; ?_; (on_goal 2 => clear_value x); (on_goal 1 => subst x))
      | (extract_lets +onlyGivenNames x; clear_value x)
      | split

theorem moveTile_ext (h : s0.Ext s) (q : Nat) (w : List Nat) (h seals : HostData) (lim : Option Nat) :
    s0.Ext (s.moveTile q w h seals lim) := by
  unfold State.moveTile
  repeat' first
    | (with_reducible first
        | assumption | apply ext_ite | apply fetch_ext | apply moveTiles_ext)
    | (extract_lets +onlyGivenNames x
       refine have hx : State.Ext s0 x := ?_; ?_
       (on_goal 2 => clear_value x)
       subst x)
    | (extract_lets +onlyGivenNames x; first | clear_value x | subst x)
    | (split; rename_i a b e
       refine have ha : State.Ext s0 a := (congrArg (fun q => State.Ext s0 q.1) e).mp ?_; ?_
       (on_goal 2 => clear e)
       beta_reduce)
    | (split; rename_i a b c e
       refine have ha : State.Ext s0 a := (congrArg (fun q => State.Ext s0 q.1) e).mp ?_; ?_
       (on_goal 2 => clear e)
       beta_reduce)
    | split

theorem moveTurn_ext (h : s0.Ext s) (q : Nat) (w : List Nat) (h seals : HostData) :
    s0.Ext (s.moveTurn q w h seals) := by
  unfold State.moveTurn
  repeat' first
    | (with_reducible first
        | assumption | apply ext_ite | apply newRound_ext | apply moveTile_ext | apply moveLinear_ext)
    | (extract_lets +onlyGivenNames x
       refine have hx : State.Ext s0 x := ?_; ?_
       (on_goal 2 => clear_value x)
       subst x)
    | (extract_lets +onlyGivenNames x; first | clear_value x | subst x)
    | split

theorem goOn_ext (h : s0.Ext s) (q : Nat) (h seals : HostData) : s0.Ext (s.goOn q h seals) := by
  unfold State.goOn
  repeat' first
    | (with_reducible first
        | assumption | rfl | apply ext_ite | apply setQueue_ext | apply queueReady_ext | apply putRecord_ext
        | apply setQueueSt_ext | apply faultDesc_ext | apply moveTurn_ext)
    | (extract_lets +onlyGivenNames x
       refine have hx : State.Ext s0 x := ?_; ?_
       (on_goal 2 => clear_value x)
       subst x)
    | (extract_lets +onlyGivenNames x; first | clear_value x | subst x)
    | split
    | with_reducible apply ext_mk

theorem runDesc_ext (h : s0.Ext s) (q : Nat) (w : List Nat) (h seals : HostData) :
    s0.Ext (s.runDesc q w h seals) := by
  unfold State.runDesc
  repeat' first
    | (with_reducible first
        | assumption | apply ext_ite | apply faultDesc_ext | apply goOn_ext | apply completeDesc_ext
        | apply setQueue_ext)
    | split

theorem execLinearDesc_ext (h : s0.Ext s) (q : Fin 16) (words : List Nat) (host : HostData) :
    Res.Ext s0 (execLinearDesc q words host s) := by
  unfold execLinearDesc
  repeat' first
    | (with_reducible first
        | assumption | apply res_next | apply res_ite | apply ext_ite | apply runDesc_ext)
    | split

theorem execTileDesc_ext (h : s0.Ext s) (q : Fin 16) (words : List Nat) (host seals : HostData) :
    Res.Ext s0 (execTileDesc q words host seals s) := by
  unfold execTileDesc
  repeat' first
    | (with_reducible first
        | assumption | apply res_next | apply res_ite | apply ext_ite | apply runDesc_ext)
    | split

theorem execStreamCreditResume_ext (h : s0.Ext s) (q : Fin 16) (host seals : HostData) :
    Res.Ext s0 (execStreamCreditResume q host seals s) := by
  unfold execStreamCreditResume
  repeat' first
    | (with_reducible first
        | assumption | apply res_next | apply res_ite | apply ext_ite | apply goOn_ext)
    | split

theorem execTileWaitResume_ext (h : s0.Ext s) (q : Fin 16) (host seals : HostData) :
    Res.Ext s0 (execTileWaitResume q host seals s) := by
  unfold execTileWaitResume
  repeat' first
    | (with_reducible first
        | assumption | apply res_next | apply res_ite | apply ext_ite | apply goOn_ext)
    | split

theorem execTranslationCompletion_ext (h : s0.Ext s) (q : Fin 16) (base size target : Nat) (ok : Bool) (host seals : HostData) :
    Res.Ext s0 (execTranslationCompletion q base size target ok host seals s) := by
  unfold execTranslationCompletion
  repeat' first
    | (with_reducible first
        | assumption | rfl | apply res_next | apply res_ite | apply ext_ite | apply goOn_ext | apply refusedAt_ext)
    | (extract_lets +onlyGivenNames x
       refine have hx : State.Ext s0 x := ?_; ?_
       (on_goal 2 => clear_value x)
       subst x)
    | (extract_lets +onlyGivenNames x; have y : JobUnit := x; clear y; subst x)
    | (extract_lets +onlyGivenNames x; first | clear_value x | subst x)
    | split
    | with_reducible apply ext_mk

theorem execInvalidationRequest_ext (h : s0.Ext s) (base size : Nat) :
    Res.Ext s0 (execInvalidationRequest base size s) := by
  unfold execInvalidationRequest
  repeat' first
    | (with_reducible first
        | assumption | rfl | apply res_next | apply res_ite | apply ext_ite | apply count_ext | apply intSet_ext
        | apply emit_ext)
    | (extract_lets +onlyGivenNames x
       refine have hx : State.Ext s0 x := ?_; ?_
       (on_goal 2 => clear_value x)
       subst x)
    | (extract_lets +onlyGivenNames x; have y : JobUnit := x; clear y; subst x)
    | (extract_lets +onlyGivenNames x; first | clear_value x | subst x)
    | with_reducible apply ext_mk

theorem execPageRequestResponse_ext (h : s0.Ext s) (q : Fin 16) (ok : Bool) (host seals : HostData) :
    Res.Ext s0 (execPageRequestResponse q ok host seals s) := by
  unfold execPageRequestResponse
  repeat' first
    | (with_reducible first
        | assumption | apply res_next | apply res_ite | apply ext_ite | apply goOn_ext | apply faultDesc_ext
        | apply count_ext)
    | (extract_lets +onlyGivenNames x; first | clear_value x | subst x)
    | split

theorem execPriTimeout_ext (h : s0.Ext s) (q : Fin 16) : Res.Ext s0 (execPriTimeout q s) := by
  unfold execPriTimeout
  repeat' first
    | (with_reducible first
        | assumption | apply res_next | apply res_ite | apply ext_ite | apply faultDesc_ext | apply count_ext)
    | (extract_lets +onlyGivenNames x; first | clear_value x | subst x)
    | split

theorem atcFlush_ext (h : s0.Ext s) : s0.Ext s.atcFlush := by
  unfold State.atcFlush
  repeat' first
    | (with_reducible first
        | assumption | rfl)
    | (extract_lets +onlyGivenNames x; have y : JobUnit := x; clear y; subst x)
    | (extract_lets +onlyGivenNames x; first | clear_value x | subst x)
    | with_reducible apply ext_mk

theorem execAtcFlush_ext (h : s0.Ext s) (src : Req) : Res.Ext s0 (execAtcFlush src s) := by
  unfold execAtcFlush
  repeat' first
    | (with_reducible first
        | assumption | apply res_next | apply res_ite | apply ext_ite | apply atcFlush_ext)
    | split

theorem regionWrite_ext (h : s0.Ext s) (src : Req) (r reg data : Nat) : s0.Ext (s.regionWrite src r reg data) := by
  unfold State.regionWrite
  repeat' first
    | (with_reducible first
        | assumption | apply ext_ite | apply wr_ext | apply errAt_ext | apply rowsLose_ext)
    | (extract_lets +onlyGivenNames x
       refine have hx : State.Ext s0 x := ?_; ?_
       (on_goal 2 => clear_value x)
       subst x)
    | (extract_lets +onlyGivenNames x; have y : _ → State := x; clear y; subst x; beta_reduce)
    | (extract_lets +onlyGivenNames x; first | clear_value x | subst x)
    | split

theorem execRegionWrite_ext (h : s0.Ext s) (src : Req) (r : Fin 64) (reg : Fin 3) (data : Nat) :
    Res.Ext s0 (execRegionWrite src r reg data s) := by
  unfold execRegionWrite
  repeat' first
    | (with_reducible first
        | assumption | apply res_next | apply res_ite | apply ext_ite | apply regionWrite_ext)
    | split

theorem clearVectors_ext (h : s0.Ext s) (pf1 : Bool) : s0.Ext (s.clearVectors pf1) :=
  clearRegs_ext (filterMsix_ext h _) _

theorem clearFn_ext (h : s0.Ext s) (pf1 : Bool) : s0.Ext (s.clearFn pf1) := by
  unfold State.clearFn
  repeat' first
    | (with_reducible first
        | assumption | rfl | apply ext_ite)
    | split
    | with_reducible apply ext_mk

theorem functionReset_ext (h : s0.Ext s) (pf1 : Bool) : s0.Ext (s.functionReset pf1) := by
  unfold State.functionReset
  repeat' first
    | (with_reducible first
        | assumption | apply ext_ite | apply queueOff_ext | apply releaseLocks_ext | apply detach_ext
        | apply clearVectors_ext | apply clearFn_ext)
    | (with_reducible apply ext_foldl; on_goal 2 => (intro t x ht; try beta_reduce))
    | (extract_lets +onlyGivenNames x
       refine have hx : State.Ext s0 x := ?_; ?_
       (on_goal 2 => clear_value x)
       subst x)
    | (extract_lets +onlyGivenNames x; first | clear_value x | subst x)
    | split

theorem execFunctionLevelReset_ext (h : s0.Ext s) (pf1 d3 : Bool) : Res.Ext s0 (execFunctionLevelReset pf1 d3 s) := by
  unfold execFunctionLevelReset
  repeat' first
    | (with_reducible first
        | assumption | rfl | apply res_next | apply res_ite | apply ext_ite | apply functionReset_ext)
    | (extract_lets +onlyGivenNames x
       refine have hx : State.Ext s0 x := ?_; ?_
       (on_goal 2 => clear_value x)
       subst x)
    | (extract_lets +onlyGivenNames x; first | clear_value x | subst x)
    | split
    | with_reducible apply ext_mk

theorem execPerst_ext (h : s0.Ext s) : Res.Ext s0 (execPerst s) := by
  unfold execPerst
  repeat' first
    | (with_reducible first
        | assumption | rfl | apply res_next | apply functionReset_ext | apply atcFlush_ext)
    | (extract_lets +onlyGivenNames x
       refine have hx : State.Ext s0 x := ?_; ?_
       (on_goal 2 => clear_value x)
       subst x)
    | (extract_lets +onlyGivenNames x; first | clear_value x | subst x)
    | with_reducible apply ext_mk

theorem execPcieLinkUp_ext (h : s0.Ext s) (gen : Fin 4) (width : Fin 5) (fn0 fn1 : PcieFn) :
    Res.Ext s0 (execPcieLinkUp gen width fn0 fn1 s) := by
  unfold execPcieLinkUp
  repeat' first
    | (with_reducible first
        | assumption | rfl | apply res_next | apply res_ite | apply ext_ite | apply answer_ext)
    | with_reducible apply ext_mk

/-! ## Machine/Tio -/

theorem planTake_ext (h : s0.Ext s) (n : Nat) : s0.Ext (s.planTake n).1 := by
  unfold State.planTake
  repeat' first
    | (with_reducible first
        | assumption | apply showPlan_ext | apply setTimer_ext)
    | (extract_lets +onlyGivenNames x; first | clear_value x | subst x)
    | split

theorem timerFire_ext (h : s0.Ext s) (n t : Nat) (usePlan : Bool) : s0.Ext (s.timerFire n t usePlan) := by
  unfold State.timerFire
  repeat' first
    | (with_reducible first
        | assumption | apply ext_ite | apply count_ext | apply planTake_ext | apply intSet_ext | apply emit_ext
        | apply trigger_ext | apply tickInput_ext)
    | (with_reducible apply ext_foldl; on_goal 2 => (intro t x ht; try beta_reduce))
    | (extract_lets +onlyGivenNames x
       refine have hx : State.Ext s0 x := ?_; ?_
       (on_goal 2 => clear_value x)
       subst x)
    | (extract_lets +onlyGivenNames x; have y : _ → State := x; clear y; subst x; beta_reduce)
    | (extract_lets +onlyGivenNames x; first | clear_value x | subst x)
    | (split; rename_i a b e
       refine have ha : State.Ext s0 a := (congrArg (fun q => State.Ext s0 q.1) e).mp ?_; ?_
       (on_goal 2 => clear e)
       beta_reduce)
    | (split; rename_i a b c e
       refine have ha : State.Ext s0 a := (congrArg (fun q => State.Ext s0 q.1) e).mp ?_; ?_
       (on_goal 2 => clear e)
       beta_reduce)
    | (with_reducible apply ext_foldl_fst; on_goal 2 => (intro q x hq; try beta_reduce))
    | split

theorem timerNext_ext (h : s0.Ext s) (n : Nat) : s0.Ext (s.timerNext n) := by
  unfold State.timerNext
  repeat' first
    | (with_reducible first
        | assumption | apply ext_ite | apply setTimerSt_ext | apply setTimer_ext | apply showNext_ext)
    | (extract_lets +onlyGivenNames x; first | clear_value x | subst x)
    | split

theorem execTimerEvent_ext (h : s0.Ext s) (n : Fin 16) (t : Nat) : Res.Ext s0 (execTimerEvent n t s) := by
  unfold execTimerEvent
  repeat' first
    | (with_reducible first
        | assumption | rfl | apply res_next | apply res_ite | apply ext_ite | apply till_ext | apply frc_ext
        | apply timerNext_ext | apply timerFire_ext | apply timerCut_ext | apply setTimer_ext | apply setTimerSt_ext)
    | (extract_lets +onlyGivenNames x
       refine have hx : State.Ext s0 x := ?_; ?_
       (on_goal 2 => clear_value x)
       subst x)
    | (extract_lets +onlyGivenNames x; first | clear_value x | subst x)
    | split
    | with_reducible apply ext_mk

theorem setCaptures_ext (h : s0.Ext s) (pin : Nat) (l : List Edge) : s0.Ext (s.setCaptures pin l) := by
  unfold State.setCaptures
  repeat' first
    | (with_reducible first
        | assumption | rfl | apply wrB_ext)
    | (extract_lets +onlyGivenNames x
       refine have hx : State.Ext s0 x := ?_; ?_
       (on_goal 2 => clear_value x)
       subst x)
    | (extract_lets +onlyGivenNames x; first | clear_value x | subst x)
    | with_reducible apply ext_mk

theorem execCapture_ext (h : s0.Ext s) (pin : Fin 16) (falling : Bool) (t : Nat) :
    Res.Ext s0 (execCapture pin falling t s) := by
  unfold execCapture
  repeat' first
    | (with_reducible first
        | assumption | apply res_next | apply res_ite | apply ext_ite | apply wrB_ext | apply till_ext
        | apply intSet_ext | apply count_ext | apply setCaptures_ext | apply startFrom_ext)
    | (extract_lets +onlyGivenNames x
       refine have hx : State.Ext s0 x := ?_; ?_
       (on_goal 2 => clear_value x)
       subst x)
    | (extract_lets +onlyGivenNames x; first | clear_value x | subst x)
    | split

theorem readCapInfo_ext (h : s0.Ext s) : s0.Ext s.readCapInfo := by
  unfold State.readCapInfo
  repeat' first
    | (with_reducible first
        | assumption | apply answer_ext | apply setCaptures_ext)
    | (extract_lets +onlyGivenNames x; first | clear_value x | subst x)

theorem execCapInfoRead_ext (h : s0.Ext s) (src : Req) : Res.Ext s0 (execCapInfoRead src s) := by
  unfold execCapInfoRead
  repeat' first
    | (with_reducible first
        | assumption | apply res_next | apply res_ite | apply ext_ite | apply answer_ext | apply readCapInfo_ext)
    | split

/-! ## Machine/Idle -/

theorem logEntry_ext (h : s0.Ext s) (e : TallyEntry) : s0.Ext (s.logEntry e) := by
  unfold State.logEntry
  repeat' first
    | (with_reducible first
        | assumption | rfl | apply ext_ite | apply emit_ext | apply wr_ext | apply intSet_ext)
    | (extract_lets +onlyGivenNames x
       refine have hx : State.Ext s0 x := ?_; ?_
       (on_goal 2 => clear_value x)
       subst x)
    | (extract_lets +onlyGivenNames x; first | clear_value x | subst x)
    | split
    | with_reducible apply ext_mk

theorem drainTally_ext (h : s0.Ext s) : s0.Ext s.drainTally := by
  unfold State.drainTally
  repeat' first
    | (with_reducible first
        | assumption | rfl | apply ext_ite | apply logEntry_ext | apply tally_ext)
    | (extract_lets +onlyGivenNames x
       refine have hx : State.Ext s0 x := ?_; ?_
       (on_goal 2 => clear_value x)
       subst x)
    | (extract_lets +onlyGivenNames x; first | clear_value x | subst x)
    | split
    | with_reducible apply ext_mk

theorem frc_ext (h : s0.Ext s) (n : Nat) : s0.Ext { s with frc := n % 2 ^ 64 } :=
  h.step rfl List.prefix_rfl le_rfl fun i =>
    ⟨⟨i.canon.regs, i.canon.shadow, i.canon.latchR, i.canon.latchW, i.canon.frozen, i.canon.locks, i.canon.msix,
      i.canon.slots, i.canon.lanes, i.canon.mem⟩, ⟨Nat.mod_lt _ (by decide), i.legal.locks⟩⟩

theorem drainClass_ext (h : s0.Ext s) (c : Nat) : s0.Ext (s.drainClass c) := by
  unfold State.drainClass
  repeat' first
    | (with_reducible first
        | assumption | rfl | apply ext_ite | apply emit_ext)
    | split
    | with_reducible apply ext_mk

theorem idle_ext (h : s0.Ext s) : s0.Ext s.idle := by
  unfold State.idle
  have k : s0.Ext ((List.range 6).foldl State.idleSlot { s with frc := (s.frc + 1) % 2 ^ 64 }.drainTally) :=
    ext_foldl (drainTally_ext (frc_ext h _)) fun _ x ht => idleSlot_ext ht x
  exact ext_ite (ext_foldl k fun _ x ht => drainClass_ext ht x) k

/-! ## Machine/RegAccess -/

theorem accessErr_ext (h : s0.Ext s) (page code off : Nat) (src : Req) : s0.Ext (s.accessErr page code off src) := by
  unfold State.accessErr
  repeat' first
    | (with_reducible first
        | assumption | apply ext_ite | apply error_ext | apply intSet_ext)
    | (extract_lets +onlyGivenNames x
       refine have hx : State.Ext s0 x := ?_; ?_
       (on_goal 2 => clear_value x)
       subst x)
    | split

theorem unmappedAt_ext (h : s0.Ext s) (src : Req) (a : Nat) : s0.Ext (s.unmappedAt src a) := by
  unfold State.unmappedAt
  repeat' first
    | (with_reducible first
        | assumption | apply ext_ite | apply accessErr_ext)
    | split

theorem setVector_ext (h : s0.Ext s) (v : Nat) (x : MsixVector) : s0.Ext (s.setVector v x) := by
  unfold State.setVector
  repeat' first
    | (with_reducible first
        | assumption | rfl)
    | (extract_lets +onlyGivenNames x; first | clear_value x | subst x)
    | with_reducible apply setMsix_ext'
    | with_reducible apply ext_mk

theorem sendVector_ext (h : s0.Ext s) (v : Nat) : s0.Ext (s.sendVector v) := by
  unfold State.sendVector
  repeat' first
    | (with_reducible first
        | assumption | apply ext_ite | apply setVector_ext | apply frc_ext | apply emit_ext)
    | split

theorem ackVector_ext (h : s0.Ext s) (v : Nat) : s0.Ext (s.ackVector v) := by
  unfold State.ackVector
  repeat' first
    | (with_reducible first
        | assumption | apply sendVector_ext | apply setVector_ext)
    | (extract_lets +onlyGivenNames x; first | clear_value x | subst x)

theorem execVecAck_ext (h : s0.Ext s) (pf1 : Bool) (vec : Nat) : Res.Ext s0 (execVecAck pf1 vec s) := by
  unfold execVecAck
  repeat' first
    | (with_reducible first
        | assumption | apply res_next | apply res_ite | apply ext_ite | apply ackVector_ext)
    | split

theorem execMsixMessage_ext (h : s0.Ext s) (vec t : Nat) : Res.Ext s0 (execMsixMessage vec t s) := by
  unfold execMsixMessage
  repeat' first
    | (with_reducible first
        | assumption | apply res_next | apply res_ite | apply ext_ite | apply till_ext | apply sendVector_ext)
    | (extract_lets +onlyGivenNames x
       refine have hx : State.Ext s0 x := ?_; ?_
       (on_goal 2 => clear_value x)
       subst x)
    | split

theorem readLock_ext (h : s0.Ext s) (src : Req) (n : Nat) : s0.Ext (s.readLock src n).1 := by
  unfold State.readLock
  repeat' first
    | (with_reducible first
        | assumption | rfl | apply ext_ite | apply ext_fst_ite)
    | (extract_lets +onlyGivenNames x; first | clear_value x | subst x)
    | split
    | with_reducible apply takeLock_ext
    | with_reducible apply ext_mk

theorem execLockRead_ext (h : s0.Ext s) (n : Fin 64) (readers : List Req) :
    Res.Ext s0 (execLockRead n readers s) := by
  unfold execLockRead
  repeat' first
    | (with_reducible first
        | assumption | apply res_next | apply res_ite | apply ext_ite | apply readLock_ext | apply answer_ext)
    | (with_reducible apply ext_foldl; on_goal 2 => (intro t x ht; try beta_reduce))
    | (extract_lets +onlyGivenNames x
       refine have hx : State.Ext s0 x := ?_; ?_
       (on_goal 2 => clear_value x)
       subst x)
    | (extract_lets +onlyGivenNames x; have y : _ → State := x; clear y; subst x; beta_reduce)
    | (extract_lets +onlyGivenNames x; first | clear_value x | subst x)
    | split

theorem writeLock_ext (h : s0.Ext s) (src : Req) (n data : Nat) : s0.Ext (s.writeLock src n data) := by
  unfold State.writeLock
  repeat' first
    | (with_reducible first
        | assumption | rfl | apply ext_ite | apply errAt_ext)
    | (extract_lets +onlyGivenNames x; first | clear_value x | subst x)
    | split
    | with_reducible apply dropLock_ext
    | with_reducible apply ext_mk

theorem execLockRelease_ext (h : s0.Ext s) (src : Req) (n : Fin 64) (data : Nat) :
    Res.Ext s0 (execLockRelease src n data s) := by
  unfold execLockRelease
  repeat' first
    | (with_reducible first
        | assumption | apply res_next | apply res_ite | apply ext_ite | apply writeLock_ext)
    | split

theorem forceRelease_ext (h : s0.Ext s) (src : Req) (data : Nat) : s0.Ext (s.forceRelease src data) := by
  unfold State.forceRelease
  repeat' first
    | (with_reducible first
        | assumption | rfl | apply ext_ite | apply errAt_ext)
    | (extract_lets +onlyGivenNames x; first | clear_value x | subst x)
    | split
    | with_reducible apply dropLock_ext
    | with_reducible apply ext_mk

theorem execForceRelease_ext (h : s0.Ext s) (src : Req) (data : Nat) : Res.Ext s0 (execForceRelease src data s) := by
  unfold execForceRelease
  repeat' first
    | (with_reducible first
        | assumption | apply res_next | apply res_ite | apply ext_ite | apply forceRelease_ext)
    | split

theorem readReg_ext (h : s0.Ext s) (src : Req) (k : Nat) : s0.Ext (s.readReg src k) := by
  unfold State.readReg
  repeat' first
    | (with_reducible first
        | assumption | apply ext_ite | apply readLock_ext | apply answer_ext | apply readCapInfo_ext
        | apply readNow_ext | apply setReadLatch_ext | apply wr_ext | apply wrB_ext)
    | (extract_lets +onlyGivenNames x
       refine have hx : State.Ext s0 x := ?_; ?_
       (on_goal 2 => clear_value x)
       subst x)
    | (extract_lets +onlyGivenNames x; first | clear_value x | subst x)
    | (split; rename_i a b e
       refine have ha : State.Ext s0 a := (congrArg (fun q => State.Ext s0 q.1) e).mp ?_; ?_
       (on_goal 2 => clear e)
       beta_reduce)
    | (split; rename_i a b c e
       refine have ha : State.Ext s0 a := (congrArg (fun q => State.Ext s0 q.1) e).mp ?_; ?_
       (on_goal 2 => clear e)
       beta_reduce)
    | split

/-! ## Machine/Aperture -/

theorem tableErr_ext (h : s0.Ext s) (src : Req) (a code : Nat) : s0.Ext (s.tableErr src a code) := by
  unfold State.tableErr
  repeat' first
    | with_reducible first
      | assumption | apply accessErr_ext

theorem targetWrite_ext (h : s0.Ext s) (src : Req) (a action x : Nat) (f : State → State) (hf : ∀ t, s0.Ext t →
    s0.Ext (f t)) :
    s0.Ext (s.targetWrite src a action x f) := by
  unfold State.targetWrite
  repeat' first
    | (with_reducible first
        | assumption | apply ext_ite | apply tableErr_ext | apply hf)
    | split

theorem tableStore_ext (h : s0.Ext s) (src : Req) (a data : Nat) : s0.Ext (s.tableStore src a data) := by
  unfold State.tableStore
  repeat' first
    | (with_reducible first
        | assumption | rfl | apply ext_ite | apply targetWrite_ext | apply tableWrite_ext | apply tableErr_ext
        | apply accessErr_ext)
    | (extract_lets +onlyGivenNames x; first | clear_value x | subst x)
    | (intro t ht; try beta_reduce)
    | split
    | with_reducible apply ext_mk

theorem tableAccess_ext (h : s0.Ext s) (src : Req) (a data : Nat) : s0.Ext (s.tableAccess src a data) := by
  unfold State.tableAccess
  repeat' first
    | (with_reducible first
        | assumption | apply ext_ite | apply tableStore_ext | apply unmappedAt_ext)
    | split

theorem execApertureWrite_ext (h : s0.Ext s) (src : Req) (addr data : Nat) :
    Res.Ext s0 (execApertureWrite src addr data s) := by
  unfold execApertureWrite
  repeat' first
    | with_reducible first
      | assumption | apply res_next | apply tableAccess_ext

theorem execThresholdWrite_ext (h : s0.Ext s) (src : Req) (addr data : Nat) :
    Res.Ext s0 (execThresholdWrite src addr data s) := by
  unfold execThresholdWrite
  repeat' first
    | (with_reducible first
        | assumption | apply res_next | apply res_ite | apply ext_ite | apply tableAccess_ext)
    | split

theorem busRead_ext (h : s0.Ext s) (src : Req) (a : Nat) : s0.Ext (s.busRead src a) := by
  unfold State.busRead
  repeat' first
    | (with_reducible first
        | assumption | apply ext_ite | apply answer_ext | apply readReg_ext | apply unmappedAt_ext)
    | split

theorem execClearOnRead_ext (h : s0.Ext s) (src : Req) (addr : Nat) : Res.Ext s0 (execClearOnRead src addr s) := by
  unfold execClearOnRead
  repeat' first
    | with_reducible first
      | assumption | apply res_next | apply busRead_ext

theorem execReadLo_ext (h : s0.Ext s) (src : Req) (addr : Nat) : Res.Ext s0 (execReadLo src addr s) := by
  unfold execReadLo
  repeat' first
    | with_reducible first
      | assumption | apply res_next | apply busRead_ext

theorem badAccess_ext (h : s0.Ext s) (src : Req) (a : Nat) (write multi : Bool) :
    s0.Ext (s.badAccess src a write multi) := by
  unfold State.badAccess
  repeat' first
    | (with_reducible first
        | assumption | apply ext_ite | apply answer_ext | apply accessErr_ext | apply emit_ext | apply tableErr_ext
        | apply unmappedAt_ext)
    | (extract_lets +onlyGivenNames x
       refine have hx : State.Ext s0 x := ?_; ?_
       (on_goal 2 => clear_value x)
       subst x)
    | (extract_lets +onlyGivenNames x; first | clear_value x | subst x)
    | split

theorem execBadAccess_ext (h : s0.Ext s) (src : Req) (addr : Nat) (write multi : Bool) :
    Res.Ext s0 (execBadAccess src addr write multi s) := by
  unfold execBadAccess
  repeat' first
    | with_reducible first
      | assumption | apply res_next | apply badAccess_ext

/-! ## Machine/PageCtl -/

theorem armRefuse_ext (h : s0.Ext s) (page code : Nat) (src : Req) : s0.Ext (s.armRefuse page code src) := by
  unfold State.armRefuse
  repeat' first
    | (with_reducible first
        | assumption | apply ext_ite | apply wrB_ext | apply error_ext | apply intSet_ext)
    | (extract_lets +onlyGivenNames x
       refine have hx : State.Ext s0 x := ?_; ?_
       (on_goal 2 => clear_value x)
       subst x)
    | (extract_lets +onlyGivenNames x; first | clear_value x | subst x)
    | split

theorem applyTimePage_ext (h : s0.Ext s) (page : Nat) : s0.Ext (s.applyTimePage page) := by
  unfold State.applyTimePage
  repeat' first
    | (with_reducible first
        | assumption | apply ext_ite | apply applyTime_ext | apply applyPage_ext)
    | split

theorem armAccept_ext (h : s0.Ext s) (src : Req) (page : Nat) : s0.Ext (s.armAccept src page) := by
  unfold State.armAccept
  repeat' first
    | (with_reducible first
        | assumption | rfl | apply ext_ite | apply countMirror_ext | apply wrB_ext | apply modPair_ext
        | apply rearm_ext | apply forwardArm_ext | apply applyTimePage_ext | apply applyIdle_ext)
    | (extract_lets +onlyGivenNames x
       refine have hx : State.Ext s0 x := ?_; ?_
       (on_goal 2 => clear_value x)
       subst x)
    | (extract_lets +onlyGivenNames x; first | clear_value x | subst x)
    | split
    | with_reducible apply ext_mk

theorem armPage_ext (h : s0.Ext s) (src : Req) (page : Nat) : s0.Ext (s.armPage src page) := by
  unfold State.armPage
  repeat' first
    | (with_reducible first
        | assumption | apply ext_ite | apply armRefuse_ext | apply armAccept_ext)
    | split

theorem headerAct_ext (h : s0.Ext s) (src : Req) (page key : Nat) (f : State → State)
    (hf : ∀ t, s0.Ext t → s0.Ext (f t)) : s0.Ext (s.headerAct src page key f) :=
  ext_ite h (ext_ite (errAt_ext h _ _ _ _) (hf s h))

theorem execShadowArm_ext (h : s0.Ext s) (src : Req) (page : Nat) : Res.Ext s0 (execShadowArm src page s) := by
  unfold execShadowArm
  repeat' first
    | (with_reducible first
        | assumption | apply res_next | apply res_ite | apply ext_ite | apply headerAct_ext | apply armPage_ext)
    | (intro t; intros; try beta_reduce)

theorem applyLineNow_ext (h : s0.Ext s) (page : Nat) : s0.Ext (s.applyLineNow page) := by
  unfold State.applyLineNow
  exact ext_ite (lossCheck_ext (applyLinePage_ext h _ _)) (applyLinePage_ext h _ _)

theorem applyDue_ext (h : s0.Ext s) (page frame : Nat) : s0.Ext (s.applyDue page frame) := by
  unfold State.applyDue
  repeat' first
    | (with_reducible first
        | assumption | apply ext_ite | apply applyLineNow_ext | apply applyMap_ext | apply applyCtx_ext
        | apply applyPage_ext | apply applyTimePage_ext)
    | split

theorem execShadowApply_ext (h : s0.Ext s) (page frame : Nat) : Res.Ext s0 (execShadowApply page frame s) := by
  unfold execShadowApply
  repeat' first
    | with_reducible first
      | assumption | apply res_next | apply applyDue_ext

theorem disarmPage_ext (h : s0.Ext s) (src : Req) (page : Nat) : s0.Ext (s.disarmPage src page) := by
  unfold State.disarmPage
  repeat' first
    | (with_reducible first
        | assumption | apply ext_ite | apply error_ext | apply modPair_ext | apply wrB_ext | apply mirror_ext)
    | (extract_lets +onlyGivenNames x
       refine have hx : State.Ext s0 x := ?_; ?_
       (on_goal 2 => clear_value x)
       subst x)
    | (extract_lets +onlyGivenNames x; first | clear_value x | subst x)
    | split

theorem execShadowDisarm_ext (h : s0.Ext s) (src : Req) (page : Nat) (applyNow : Bool) :
    Res.Ext s0 (execShadowDisarm src page applyNow s) := by
  unfold execShadowDisarm
  repeat' first
    | (with_reducible first
        | assumption | apply res_next | apply res_ite | apply ext_ite | apply headerAct_ext | apply applyLineNow_ext
        | apply applyDue_ext | apply applyTimePage_ext | apply disarmPage_ext)
    | (extract_lets +onlyGivenNames x
       refine have hx : State.Ext s0 x := ?_; ?_
       (on_goal 2 => clear_value x)
       subst x)
    | (extract_lets +onlyGivenNames x; have y : _ → State := x; clear y; subst x; beta_reduce)
    | (extract_lets +onlyGivenNames x; first | clear_value x | subst x)
    | (intro t; intros; try beta_reduce)
    | split

theorem lockPage_ext (h : s0.Ext s) (page : Nat) : s0.Ext (s.lockPage page) := by
  unfold State.lockPage
  repeat' first
    | with_reducible first
      | assumption | apply wrB_ext

theorem execConfigLock_ext (h : s0.Ext s) (src : Req) (page : Nat) : Res.Ext s0 (execConfigLock src page s) := by
  unfold execConfigLock
  repeat' first
    | (with_reducible first
        | assumption | apply res_next | apply res_ite | apply ext_ite | apply headerAct_ext | apply lockPage_ext)
    | (intro t; intros; try beta_reduce)

theorem freezePage_ext (h : s0.Ext s) (page : Nat) : s0.Ext (s.freezePage page) := by
  unfold State.freezePage
  repeat' first
    | (with_reducible first
        | assumption | rfl | apply wrB_ext)
    | (with_reducible apply ext_foldl; on_goal 2 => (intro t x ht; try beta_reduce))
    | (extract_lets +onlyGivenNames x
       refine have hx : State.Ext s0 x := ?_; ?_
       (on_goal 2 => clear_value x)
       subst x)
    | (extract_lets +onlyGivenNames x; first | clear_value x | subst x)
    | with_reducible apply setFrozen_ext
    | with_reducible apply ext_mk

theorem thawPage_ext (h : s0.Ext s) (page : Nat) : s0.Ext (s.thawPage page) :=
  clearFrozen_ext (wrB_ext h _ _ _) _

theorem clearPage_ext (h : s0.Ext s) (page : Nat) (keep : List Nat) : s0.Ext (s.clearPage page keep) := by
  unfold State.clearPage
  extract_lets mine vals
  refine wrs_ext ?_ _
  exact h.step rfl List.prefix_rfl le_rfl fun i =>
    ⟨⟨smWf_smClear _ mine _ i.canon.regs, smWf_smClear _ mine _ i.canon.shadow,
      smWf_smClear _ (fun k => k / 8 == page) _ i.canon.latchR, smWf_smClear _ (fun k => k / 8 == page) _ i.canon.latchW,
      smWf_smClear _ mine _ i.canon.frozen, i.canon.locks, i.canon.msix, i.canon.slots, i.canon.lanes, i.canon.mem⟩,
      ⟨i.legal.frc, i.legal.locks⟩⟩

theorem clearUnit_ext (h : s0.Ext s) (p : PageType) (i : Nat) : s0.Ext (s.clearUnit p i) := by
  unfold State.clearUnit
  split
  all_goals repeat' first
    | (with_reducible first
        | assumption | rfl | apply showSource_ext | apply wr_ext | apply setLane_ext | apply atcFlush_ext
        | apply emit_ext | apply setCamPort_ext | apply losePort_ext | apply showActive_ext | apply showFifo_ext | apply busEnable_ext
        | apply setPeerPort_ext | apply setNetPort_ext | apply setDramCh_ext
        | apply modNet_ext | apply showDoubt_ext | apply busy_ext | apply startRing_ext | apply ringLinksUp_ext
        | apply showJournal_ext)
    | (extract_lets +onlyGivenNames x
       refine have hx : State.Ext s0 x := ?_; ?_
       (on_goal 2 => clear_value x)
       subst x)
    | (extract_lets +onlyGivenNames x; have y : JobUnit := x; clear y; subst x)
    | (extract_lets +onlyGivenNames x; first | clear_value x | subst x)
    | split
    | with_reducible apply noLocks_ext
    | with_reducible apply filterMsix_ext
    | with_reducible apply noSlots_ext
    | with_reducible apply ext_mk

theorem leaveUnit_ext (h : s0.Ext s) (p : PageType) (i : Nat) : s0.Ext (s.leaveUnit p i) := by
  unfold State.leaveUnit
  repeat' first
    | (with_reducible first
        | assumption | apply peerDown_ext | apply netDown_ext | apply camLeave_ext | apply groupDisable_ext)
    | split

theorem dropWait_ext (h : s0.Ext s) (page : Nat) : s0.Ext (s.dropWait page) := by
  unfold State.dropWait
  repeat' first
    | (with_reducible first
        | assumption | rfl | apply ext_ite)
    | with_reducible apply ext_mk

theorem blockReset_ext (h : s0.Ext s) (src : Req) (page : Nat) : s0.Ext (s.blockReset src page) := by
  unfold State.blockReset
  repeat' first
    | (with_reducible first
        | assumption | apply ext_ite | apply error_ext | apply wrs_ext | apply leaveUnit_ext | apply clearPage_ext
        | apply clearUnit_ext | apply dropWait_ext)
    | split

theorem execBlockReset_ext (h : s0.Ext s) (src : Req) (page : Nat) : Res.Ext s0 (execBlockReset src page s) := by
  unfold execBlockReset
  repeat' first
    | (with_reducible first
        | assumption | apply res_next | apply res_ite | apply ext_ite | apply headerAct_ext | apply blockReset_ext)
    | (intro t; intros; try beta_reduce)

/-! ## Machine/RegWrite -/

theorem whileHeld_ext (h : s0.Ext s) (p : PageType) (i : Nat) : s0.Ext (s.whileHeld p i) := by
  unfold State.whileHeld
  repeat' first
    | (with_reducible first
        | assumption | apply ext_ite | apply showRecords_ext | apply showCredits_ext | apply showDose_ext)
    | split

theorem enabled_ext (h : s0.Ext s) (p : PageType) (i : Nat) (on : Bool) : s0.Ext (s.enabled p i on) := by
  unfold State.enabled
  repeat' first
    | (with_reducible first
        | assumption | apply ext_ite | apply camEnable_ext | apply camDisable_ext | apply groupEnable_ext
        | apply groupDisable_ext | apply peerDown_ext)
    | split

theorem writeCtrl_ext (h : s0.Ext s) (src : Req) (p : PageType) (i page data : Nat) :
    s0.Ext (s.writeCtrl src p i page data) := by
  unfold State.writeCtrl
  repeat' first
    | (with_reducible first
        | assumption | apply ext_ite | apply wrB_ext | apply enabled_ext | apply freezePage_ext | apply thawPage_ext
        | apply blockReset_ext | apply lockPage_ext)
    | (extract_lets +onlyGivenNames x
       refine have hx : State.Ext s0 x := ?_; ?_
       (on_goal 2 => clear_value x)
       subst x)
    | (extract_lets +onlyGivenNames x; first | clear_value x | subst x)
    | split

theorem writeShadowCtrl_ext (h : s0.Ext s) (src : Req) (page data : Nat) :
    s0.Ext (s.writeShadowCtrl src page data) := by
  unfold State.writeShadowCtrl
  repeat' first
    | (with_reducible first
        | assumption | apply ext_ite | apply wrB_ext | apply disarmPage_ext | apply armPage_ext)
    | (extract_lets +onlyGivenNames x
       refine have hx : State.Ext s0 x := ?_; ?_
       (on_goal 2 => clear_value x)
       subst x)
    | split

theorem writeTarget_ext (h : s0.Ext s) (src : Req) (page data : Nat) : s0.Ext (s.writeTarget src page data) := by
  unfold State.writeTarget
  repeat' first
    | (with_reducible first
        | assumption | apply ext_ite | apply accessErr_ext | apply wr_ext)
    | split

theorem writeHeader_ext (h : s0.Ext s) (src : Req) (p : PageType) (i page off data hw : Nat) :
    s0.Ext (s.writeHeader src p i page off data hw) := by
  unfold State.writeHeader
  repeat' first
    | (with_reducible first
        | assumption | apply ext_ite | apply writeCtrl_ext | apply wr_ext | apply whileHeld_ext
        | apply writeShadowCtrl_ext | apply writeTarget_ext | apply accessErr_ext)
    | (extract_lets +onlyGivenNames x
       refine have hx : State.Ext s0 x := ?_; ?_
       (on_goal 2 => clear_value x)
       subst x)
    | (extract_lets +onlyGivenNames x; first | clear_value x | subst x)
    | split

theorem putReg_ext (h : s0.Ext s) (k v m : Nat) : s0.Ext (s.putReg k v m) := by
  unfold State.putReg
  repeat' first
    | (with_reducible first
        | assumption | apply ext_ite | apply putShadow_ext | apply wr_ext)
    | (extract_lets +onlyGivenNames x; first | clear_value x | subst x)
    | split

theorem mirrorReg_ext (h : s0.Ext s) (k : Nat) : s0.Ext (s.mirrorReg k) := by
  unfold State.mirrorReg
  repeat' first
    | (with_reducible first
        | assumption | apply ext_ite | apply mirror_ext)
    | split

theorem storeHeld_ext (h : s0.Ext s) (src : Req) (p : PageType) (k v : Nat) : s0.Ext (s.storeHeld src p k v) := by
  unfold State.storeHeld
  repeat' first
    | (with_reducible first
        | assumption | apply ext_ite | apply accessErr_ext | apply putReg_ext | apply mirrorReg_ext)
    | (with_reducible apply ext_foldl; on_goal 2 => (intro t x ht; try beta_reduce))
    | (extract_lets +onlyGivenNames x
       refine have hx : State.Ext s0 x := ?_; ?_
       (on_goal 2 => clear_value x)
       subst x)
    | (extract_lets +onlyGivenNames x; first | clear_value x | subst x)
    | split

theorem restartDwell_ext (h : s0.Ext s) (k : Nat) : s0.Ext (s.restartDwell k) := by
  unfold State.restartDwell
  repeat' first
    | (with_reducible first
        | assumption | apply setDwell_ext)
    | (with_reducible apply ext_foldl; on_goal 2 => (intro t x ht; try beta_reduce))
    | (extract_lets +onlyGivenNames x; first | clear_value x | subst x)

theorem wrote_ext (h : s0.Ext s) (src : Req) (p : PageType) (i k old data : Nat) :
    s0.Ext (s.wrote src p i k old data) := by
  unfold State.wrote
  repeat' first
    | (with_reducible first
        | assumption | apply ext_ite | apply wrB_ext | apply newLos_ext | apply clearScreenFault_ext
        | apply sendEcho_ext | apply tableSend_ext | apply setQueue_ext | apply setQueueSt_ext | apply queueReady_ext
        | apply rescanRows_ext | apply showCredits_ext | apply cciGo_ext | apply showRecords_ext
        | apply showScaler_ext | apply judgeWired_ext | apply showTlMax_ext | apply netDown_ext | apply sfpPins_ext
        | apply restartDwell_ext)
    | (extract_lets +onlyGivenNames x
       refine have hx : State.Ext s0 x := ?_; ?_
       (on_goal 2 => clear_value x)
       subst x)
    | (extract_lets +onlyGivenNames x; first | clear_value x | subst x)
    | split

theorem special_ext (h : s0.Ext s) (src : Req) (p : PageType) (i k data : Nat) {r : State}
    (e : s.special src p i k data = some r) : s0.Ext r := by
  unfold State.special at e
  extract_lets off at e
  split at e
  · split at e
    · rw [← Option.some.inj e]; exact doorbell_ext h _ _
    · split at e
      · rw [← Option.some.inj e]; exact regionWrite_ext h _ _ _ _
      · exact absurd e (by simp)
  · split at e
    · rw [← Option.some.inj e]
      exact ext_ite h (ext_ite (isolateLane_ext h _) (releaseLane_ext h _))
    · exact absurd e (by simp)
  · split at e
    · rw [← Option.some.inj e]; exact readIdxHost_ext h _ _
    · exact absurd e (by simp)
  · split at e
    · rw [← Option.some.inj e]; exact headPower_ext h _ _
    · exact absurd e (by simp)
  · split at e
    · rw [← Option.some.inj e]; exact convertTime_ext h _ _
    · exact absurd e (by simp)
  · split at e
    · rw [← Option.some.inj e]
      split
      · exact accessErr_ext h _ _ _ _
      · exact h
    · exact absurd e (by simp)
  · split at e
    · rw [← Option.some.inj e]
      split
      · exact accessErr_ext h _ _ _ _
      · exact h
    · exact absurd e (by simp)
  · exact absurd e (by simp)

theorem writeStored_ext (h : s0.Ext s) (src : Req) (p : PageType) (i k data : Nat) :
    s0.Ext (s.writeStored src p i k data) := by
  unfold State.writeStored
  extract_lets page err
  split
  · rename_i e; exact special_ext h _ _ _ _ _ e
  · split
    · exact accessErr_ext h _ _ _ _
    · split
      · exact accessErr_ext h _ _ _ _
      · refine ext_ite (setWriteLatch_ext h _ _ _) (ext_ite ?_ ?_)
        · split
          · exact accessErr_ext h _ _ _ _
          · exact putReg_ext (putReg_ext h _ _ _) _ _ _
        · split
          · exact accessErr_ext h _ _ _ _
          · exact wrote_ext (storeHeld_ext h _ _ _ _) _ _ _ _ _ _

theorem acts_ext (h : s0.Ext s) (data : Nat) (l : List (Nat × (State → State)))
    (hl : ∀ a ∈ l, ∀ t, s0.Ext t → s0.Ext (a.2 t)) : s0.Ext (s.acts data l) := by
  unfold State.acts
  induction l generalizing s with
  | nil => exact h
  | cons a l ih =>
    exact ih (ext_ite (hl a (by simp) s h) h) (fun b hb => hl b (by simp [hb]))

theorem act_ext (h : s0.Ext s) (src : Req) (p : PageType) (i k data : Nat) : s0.Ext (s.act src p i k data) := by
  unfold State.act
  extract_lets off
  split
  all_goals repeat' first
    | with_reducible assumption
    | with_reducible apply ext_ite
    | (with_reducible apply acts_ext; on_goal 2 => (repeat' first
        | (refine List.forall_mem_cons.2 ⟨?_, ?_⟩; on_goal 1 => (intro t ht; beta_reduce))
        | exact List.forall_mem_nil _))
    | with_reducible apply accessErr_ext
    | with_reducible apply armRun_ext
    | with_reducible apply startRun_ext
    | with_reducible apply drainRun_ext
    | with_reducible apply cancelSlot_ext
    | with_reducible apply armSlot_ext
    | with_reducible apply doRestart_ext
    | with_reducible apply doRetrain_ext
    | with_reducible apply doRateUp_ext
    | with_reducible apply doAccept_ext
    | with_reducible apply queueRestart_ext
    | with_reducible apply queueStop_ext
    | with_reducible apply atcFlush_ext
    | with_reducible apply stairForce_ext
    | with_reducible apply cycleRestart_ext
    | with_reducible apply groupResume_ext
    | with_reducible apply clearLamp_ext
    | with_reducible apply probeNow_ext
    | with_reducible apply lampPush_ext
    | with_reducible apply lampFlush_ext
    | with_reducible apply portRetrain_ext
    | with_reducible apply widen_ext
    | with_reducible apply changeCtrl_ext
    | with_reducible apply digestNow_ext
    | with_reducible apply enumerate_ext
    | with_reducible apply resync_ext
    | with_reducible apply acceptPath_ext
    | with_reducible apply forceHoldover_ext
    | with_reducible apply disarmTimer_ext
    | with_reducible apply armTimer_ext
    | with_reducible apply planPush_ext
    | with_reducible apply planFlush_ext
    | with_reducible apply startRetrain_ext
    | with_reducible apply scrubRestart_ext
    | with_reducible apply restoreDram_ext
    | with_reducible apply detach_ext
    | with_reducible apply ackVector_ext
    | with_reducible apply mbAck_ext
    | with_reducible apply mbPost_ext
    | with_reducible apply mbTake_ext
    | with_reducible apply mbClear_ext
    | with_reducible apply compactNow_ext
    | with_reducible apply reboot_ext
    | with_reducible apply eraseWrite_ext
    | with_reducible apply fwVerify_ext
    | with_reducible apply fwActivate_ext
    | with_reducible apply fwConfirm_ext
    | with_reducible apply liveCrew_ext
    | with_reducible apply liveRanger_ext
    | with_reducible apply fwAbort_ext
    | with_reducible apply hostPost_ext
    | with_reducible apply powerRestart_ext
    | with_reducible apply reref_ext
    | with_reducible apply forceRelease_ext
    | with_reducible apply resetCtrl_ext
    | (with_reducible apply ext_foldl; on_goal 2 => (intro t x ht; try beta_reduce))
    | (extract_lets +onlyGivenNames x; clear_value x)
    | split

theorem writeReg_ext (h : s0.Ext s) (src : Req) (k data hw : Nat) : s0.Ext (s.writeReg src k data hw) := by
  unfold State.writeReg
  repeat' first
    | (with_reducible first
        | assumption | apply ext_ite | apply accessErr_ext | apply writeLock_ext | apply wr_ext
        | apply writeHeader_ext | apply act_ext | apply writeStored_ext)
    | (extract_lets +onlyGivenNames x; have y : _ → State := x; clear y; subst x; beta_reduce)
    | (extract_lets +onlyGivenNames x; first | clear_value x | subst x)
    | split

theorem busWrite_ext (h : s0.Ext s) (src : Req) (a data hw : Nat) : s0.Ext (s.busWrite src a data hw) := by
  unfold State.busWrite
  repeat' first
    | (with_reducible first
        | assumption | apply ext_ite | apply writeReg_ext | apply tableStore_ext | apply unmappedAt_ext)
    | split

theorem execRegisterWrite_ext (h : s0.Ext s) (src : Req) (addr data : Nat) :
    Res.Ext s0 (execRegisterWrite src addr data s) := by
  unfold execRegisterWrite
  repeat' first
    | with_reducible first
      | assumption | apply res_next | apply busWrite_ext

theorem execWriteHi_ext (h : s0.Ext s) (src : Req) (addr data : Nat) : Res.Ext s0 (execWriteHi src addr data s) := by
  unfold execWriteHi
  repeat' first
    | with_reducible first
      | assumption | apply res_next | apply busWrite_ext

theorem execWrite1ToClear_ext (h : s0.Ext s) (src : Req) (addr data hw : Nat) :
    Res.Ext s0 (execWrite1ToClear src addr data hw s) := by
  unfold execWrite1ToClear
  repeat' first
    | with_reducible first
      | assumption | apply res_next | apply busWrite_ext

theorem execIntForce_ext (h : s0.Ext s) (src : Req) (page data : Nat) :
    Res.Ext s0 (execIntForce src page data s) := by
  unfold execIntForce
  repeat' first
    | (with_reducible first
        | assumption | apply res_next | apply res_ite | apply ext_ite | apply writeReg_ext)
    | split

theorem mirroredWrite_ext (h : s0.Ext s) (k data : Nat) : s0.Ext (s.mirroredWrite k data) := by
  unfold State.mirroredWrite
  repeat' first
    | (with_reducible first
        | assumption | apply ext_ite | apply countMirror_ext | apply writeReg_ext | apply wr_ext)
    | split

theorem execMirroredWrite_ext (h : s0.Ext s) (addr data : Nat) : Res.Ext s0 (execMirroredWrite addr data s) := by
  unfold execMirroredWrite
  repeat' first
    | with_reducible first
      | assumption | apply res_next | apply mirroredWrite_ext

/-! ## Machine/PeerFrame -/

theorem nextOf_ext (h : s0.Ext s) {r : Res} (e : Res.Ext s0 r) : s0.Ext (nextOf r s) := by
  unfold nextOf
  split
  · exact e
  · exact h

theorem partnerArm_ext (h : s0.Ext s) (page target : Nat) : s0.Ext (s.partnerArm page target) := by
  unfold State.partnerArm
  repeat' first
    | (with_reducible first
        | assumption | apply ext_ite | apply countMirror_ext | apply wr_ext | apply armPage_ext | apply toPartner_ext)
    | (extract_lets +onlyGivenNames x
       refine have hx : State.Ext s0 x := ?_; ?_
       (on_goal 2 => clear_value x)
       subst x)
    | (extract_lets +onlyGivenNames x; first | clear_value x | subst x)
    | split

theorem repairReg_ext (h : s0.Ext s) (k v : Nat) : s0.Ext (s.repairReg k v) := by
  unfold State.repairReg
  repeat' first
    | (with_reducible first
        | assumption | apply ext_ite | apply wr_ext)
    | (extract_lets +onlyGivenNames x
       refine have hx : State.Ext s0 x := ?_; ?_
       (on_goal 2 => clear_value x)
       subst x)
    | (extract_lets +onlyGivenNames x; first | clear_value x | subst x)
    | split

theorem mirroredForce_ext (h : s0.Ext s) (k : Nat) : s0.Ext (s.mirroredForce k) := by
  unfold State.mirroredForce
  repeat' first
    | (with_reducible first
        | assumption | rfl | apply ext_ite | apply countMirror_ext)
    | split
    | with_reducible apply ext_mk

theorem takeMirror_ext (h : s0.Ext s) (kind : Nat) (l : List Nat) : s0.Ext (s.takeMirror kind l) := by
  unfold State.takeMirror
  repeat' first
    | (with_reducible first
        | assumption | rfl | apply ext_ite | apply mirroredWrite_ext | apply partnerArm_ext | apply modPair_ext
        | apply applyIdle_ext | apply nextOf_ext | apply execSlotMessage_ext | apply execSlotAck_ext
        | apply execSlotNak_ext | apply execSlotConfirm_ext | apply answerDoubt_ext | apply execInDoubtAnswer_ext
        | apply execSlotCancelMessage_ext | apply mirroredForce_ext | apply takeDecision_ext | apply stairForce_ext
        | apply execRetrainRequest_ext | apply granted_ext | apply notGranted_ext | apply partnerLane_ext
        | apply partnerAsks_ext | apply changeAgreed_ext | apply changeRefused_ext | apply execStartMessage_ext
        | apply frc_ext | apply modLine_ext | apply setRunNum_ext | apply syncAgreed_ext | apply answerSync_ext
        | apply agreeDigest_ext | apply startDigest_ext | apply wr_ext)
    | (extract_lets +onlyGivenNames x
       refine have hx : State.Ext s0 x := ?_; ?_
       (on_goal 2 => clear_value x)
       subst x)
    | (extract_lets +onlyGivenNames x; first | clear_value x | subst x)
    | split
    | with_reducible apply ext_mk

theorem takeForward_ext (h : s0.Ext s) (kind : Nat) (l : List Nat) : s0.Ext (s.takeForward kind l) := by
  unfold State.takeForward
  repeat' first
    | (with_reducible first
        | assumption | apply ext_ite | apply countMirror_ext | apply putTable_ext | apply takePart_ext
        | apply takeResume_ext | apply repairReg_ext | apply judgeWaiting_ext)
    | (extract_lets +onlyGivenNames x
       refine have hx : State.Ext s0 x := ?_; ?_
       (on_goal 2 => clear_value x)
       subst x)
    | (extract_lets +onlyGivenNames x; first | clear_value x | subst x)
    | split

theorem takeBulk_ext (h : s0.Ext s) (kind : Nat) (l : List Nat) : s0.Ext (s.takeBulk kind l) := by
  unfold State.takeBulk
  repeat' first
    | (with_reducible first
        | assumption | apply ext_ite | apply nextOf_ext | apply execTileDigestRecord_ext | apply takeDigests_ext
        | apply wr_ext)
    | (extract_lets +onlyGivenNames x
       refine have hx : State.Ext s0 x := ?_; ?_
       (on_goal 2 => clear_value x)
       subst x)
    | (extract_lets +onlyGivenNames x; first | clear_value x | subst x)
    | split

theorem deliver_ext (h : s0.Ext s) (p cls kind : Nat) (l : List Nat) : s0.Ext (s.deliver p cls kind l) := by
  unfold State.deliver
  repeat' first
    | (with_reducible first
        | assumption | apply ext_ite | apply takeMirror_ext | apply takeForward_ext | apply takeBulk_ext)
    | split

theorem ackPeer_ext (h : s0.Ext s) (p cls n : Nat) : s0.Ext (s.ackPeer p cls n) := by
  unfold State.ackPeer
  repeat' first
    | (with_reducible first
        | assumption | apply ext_ite | apply sendTime_ext | apply emit_ext)

theorem takePeerFrame_ext (h : s0.Ext s) (p : Nat) (f : PeerFrame) : s0.Ext (s.takePeerFrame p f) := by
  unfold State.takePeerFrame
  repeat' first
    | (with_reducible first
        | assumption | apply ext_ite | apply intSet_ext | apply count_ext | apply acked_ext | apply setPeerPort_ext
        | apply ackPeer_ext | apply deliver_ext)
    | (extract_lets +onlyGivenNames x
       refine have hx : State.Ext s0 x := ?_; ?_
       (on_goal 2 => clear_value x)
       subst x)
    | (extract_lets +onlyGivenNames x; first | clear_value x | subst x)
    | split

theorem takeBlock_ext (h : s0.Ext s) (p kind : Nat) (l : List Nat) : s0.Ext (s.takeBlock p kind l) := by
  unfold State.takeBlock
  repeat' first
    | (with_reducible first
        | assumption | apply ext_ite | apply nextOf_ext | apply execStartMessage_ext | apply frc_ext | apply acked_ext
        | apply execTickInstant_ext | apply execPeerHeartbeat_ext | apply execLineTime_ext | apply execRingEnum_ext
        | apply execClosureProbe_ext)
    | (extract_lets +onlyGivenNames x
       refine have hx : State.Ext s0 x := ?_; ?_
       (on_goal 2 => clear_value x)
       subst x)
    | (extract_lets +onlyGivenNames x; first | clear_value x | subst x)
    | split

theorem takeTime_ext (h : s0.Ext s) (p : Nat) (f : PeerFrame) : s0.Ext (s.takeTime p f) := by
  unfold State.takeTime
  repeat' first
    | (with_reducible first
        | assumption | rfl | apply ext_ite | apply count_ext | apply intSet_ext | apply setPeerPort_ext
        | apply takeBlock_ext)
    | split
    | with_reducible apply ext_mk

theorem execPeerFrame_ext (h : s0.Ext s) (p : Fin 3) (f : PeerFrame) : Res.Ext s0 (execPeerFrame p f s) := by
  unfold execPeerFrame
  repeat' first
    | (with_reducible first
        | assumption | apply res_next | apply res_ite | apply ext_ite | apply takeTime_ext | apply takePeerFrame_ext)
    | split

/-! ## Machine/Status -/

theorem statusInts_ext (h : s0.Ext s) (c : Nat) (st : HeadStatus) : s0.Ext (s.statusInts c st) := by
  unfold State.statusInts
  repeat' first
    | (with_reducible first
        | assumption | rfl | apply ext_ite | apply fault_ext | apply intSet_ext | apply startDigest_ext)
    | (extract_lets +onlyGivenNames x
       refine have hx : State.Ext s0 x := ?_; ?_
       (on_goal 2 => clear_value x)
       subst x)
    | (extract_lets +onlyGivenNames x; have y : _ → State := x; clear y; subst x; beta_reduce)
    | (extract_lets +onlyGivenNames x; first | clear_value x | subst x)
    | split
    | with_reducible apply ext_mk

theorem wiredAlone_ext (h : s0.Ext s) : s0.Ext s.wiredAlone := by
  unfold State.wiredAlone
  repeat' first
    | (with_reducible first
        | assumption | apply ext_ite | apply takeLead_ext)
    | split

theorem judgeSilent_ext (h : s0.Ext s) (c : Nat) (st : HeadStatus) : s0.Ext (s.judgeSilent c st) := by
  unfold State.judgeSilent
  repeat' first
    | (with_reducible first
        | assumption | rfl | apply ext_ite | apply showSilent_ext | apply wiredAlone_ext)
    | (extract_lets +onlyGivenNames x
       refine have hx : State.Ext s0 x := ?_; ?_
       (on_goal 2 => clear_value x)
       subst x)
    | (extract_lets +onlyGivenNames x; have y : _ → State := x; clear y; subst x; beta_reduce)
    | (extract_lets +onlyGivenNames x; first | clear_value x | subst x)
    | split
    | with_reducible apply ext_mk

theorem statusTable_ext (h : s0.Ext s) (c : Nat) (st : HeadStatus) : s0.Ext (s.statusTable c st) := by
  unfold State.statusTable
  repeat' first
    | (with_reducible first
        | assumption | apply ext_ite | apply wrF_ext | apply intSet_ext)
    | (extract_lets +onlyGivenNames x
       refine have hx : State.Ext s0 x := ?_; ?_
       (on_goal 2 => clear_value x)
       subst x)
    | (extract_lets +onlyGivenNames x; first | clear_value x | subst x)
    | split

theorem tempSample_ext (h : s0.Ext s) (c temp : Nat) : s0.Ext (s.tempSample c temp) := by
  unfold State.tempSample
  repeat' first
    | (with_reducible first
        | assumption | rfl)
    | (extract_lets +onlyGivenNames x; first | clear_value x | subst x)
    | with_reducible apply ext_mk

theorem execHeadStatus_ext (h : s0.Ext s) (c : Fin 128) (st : HeadStatus) : Res.Ext s0 (execHeadStatus c st s) := by
  unfold execHeadStatus
  repeat' first
    | (with_reducible first
        | assumption | apply res_next | apply res_ite | apply ext_ite | apply judgeSilent_ext | apply statusInts_ext
        | apply wr_ext | apply wrF_ext | apply modLane_ext | apply tempSample_ext | apply statusTable_ext
        | apply requestRetrain_ext)
    | (with_reducible apply ext_foldl; on_goal 2 => (intro t x ht; try beta_reduce))
    | (extract_lets +onlyGivenNames x
       refine have hx : State.Ext s0 x := ?_; ?_
       (on_goal 2 => clear_value x)
       subst x)
    | (extract_lets +onlyGivenNames x; first | clear_value x | subst x)
    | split

theorem execStatusTimeout_ext (h : s0.Ext s) (c : Fin 128) : Res.Ext s0 (execStatusTimeout c s) := by
  unfold execStatusTimeout
  repeat' first
    | (with_reducible first
        | assumption | apply res_next | apply res_ite | apply ext_ite | apply countLane_ext | apply intSet_ext
        | apply wrB_ext)
    | (extract_lets +onlyGivenNames x; first | clear_value x | subst x)
    | split

end Sys2Proof.Machine
end

