-- ==== Sys2Proof/Laws/Fields.lean ====
section
/-! SUPPORT. The laws of bit fields: what a field or a bit reads after a field or a bit was stored, for the register
file as for values. -/

namespace Sys2Proof.Machine

/-! ## Values, bit by bit -/

theorem bitOf_eq_testBit (v i : Nat) : bitOf v i = v.testBit i := by
  simp [bitOf, Nat.testBit_eq_decide_div_mod_eq, beq_eq_decide]

theorem testBit_fld (v hi lo j : Nat) : (fld v hi lo).testBit j = (decide (j < hi + 1 - lo) && v.testBit (lo + j)) := by
  simp only [fld, Nat.testBit_mod_two_pow, Nat.testBit_div_two_pow, Nat.add_comm]

theorem fld_lt (v hi lo : Nat) : fld v hi lo < 2 ^ (hi + 1 - lo) := Nat.mod_lt _ (by positivity)

/-- A value split at the bits lo and hi + 1. -/
theorem split_fld (v hi lo : Nat) (h : lo ≤ hi + 1) :
    v = v / 2 ^ (hi + 1) * 2 ^ (hi + 1) + fld v hi lo * 2 ^ lo + v % 2 ^ lo := by
  have h1 : 2 ^ (hi + 1) = 2 ^ (hi + 1 - lo) * 2 ^ lo := by rw [← pow_add]; congr 1; omega
  have h2 := Nat.div_add_mod v (2 ^ lo)
  have h3 := Nat.div_add_mod (v / 2 ^ lo) (2 ^ (hi + 1 - lo))
  rw [Nat.div_div_eq_div_mul, mul_comm (2 ^ lo), ← h1] at h3
  have h4 : v / 2 ^ (hi + 1) * 2 ^ (hi + 1) = 2 ^ lo * (2 ^ (hi + 1 - lo) * (v / 2 ^ (hi + 1))) := by rw [h1]; ring
  unfold fld
  rw [h4, mul_comm _ (2 ^ lo), ← mul_add, h3, h2]

theorem putFld_eq (v hi lo x : Nat) (h : lo ≤ hi + 1) : putFld v hi lo x
    = v / 2 ^ (hi + 1) * 2 ^ (hi + 1) + x % 2 ^ (hi + 1 - lo) * 2 ^ lo + v % 2 ^ lo := by
  have := split_fld v hi lo h
  unfold putFld
  omega

theorem testBit_putFld (v hi lo x j : Nat) (h : lo ≤ hi + 1) : (putFld v hi lo x).testBit j
    = if lo ≤ j ∧ j ≤ hi then x.testBit (j - lo) else v.testBit j := by
  have h1 : 2 ^ (hi + 1) = 2 ^ (hi + 1 - lo) * 2 ^ lo := by rw [← pow_add]; congr 1; omega
  have e : putFld v hi lo x = 2 ^ lo * (2 ^ (hi + 1 - lo) * (v / 2 ^ (hi + 1)) + x % 2 ^ (hi + 1 - lo)) + v % 2 ^ lo := by
    rw [putFld_eq v hi lo x h]
    generalize v / 2 ^ (hi + 1) = a
    rw [h1]; ring
  rw [e, Nat.testBit_two_pow_mul_add _ (Nat.mod_lt _ (by positivity)),
    Nat.testBit_two_pow_mul_add _ (Nat.mod_lt _ (by positivity))]
  simp only [Nat.testBit_mod_two_pow, Nat.testBit_div_two_pow]
  by_cases h2 : j < lo
  · simp [h2, show ¬ lo ≤ j by omega]
  · by_cases h3 : j ≤ hi
    · simp [h2, h3, show lo ≤ j by omega, show j - lo < hi + 1 - lo by omega]
    · simp only [h2, h3, if_false, and_false, show ¬ j - lo < hi + 1 - lo by omega]
      congr 1; omega

theorem fld_bit (v i : Nat) : fld v i i = if bitOf v i then 1 else 0 := by
  have h : i + 1 - i = 1 := by omega
  simp only [fld, bitOf, h, pow_one, beq_iff_eq]
  split <;> omega

theorem bit_le (v i : Nat) (h : bitOf v i = true) : 2 ^ i ≤ v := by
  by_contra hc
  rw [not_le] at hc
  simp [bitOf, Nat.div_eq_of_lt hc] at h

theorem setB_eq (v i : Nat) : setB v i = putFld v i i 1 := by
  have h : i + 1 - i = 1 := by omega
  unfold setB putFld
  rw [fld_bit, h]
  split
  · rename_i hb; have := bit_le v i hb; simp; omega
  · simp

theorem clrB_eq (v i : Nat) : clrB v i = putFld v i i 0 := by
  unfold clrB putFld
  rw [fld_bit]
  split <;> simp

theorem putB_eq (v i : Nat) (b : Bool) : putB v i b = putFld v i i (b2n b) := by
  cases b
  · simp [putB, clrB_eq, b2n]
  · simp [putB, setB_eq, b2n]

/-! ## Fields of values -/

theorem fld_putFld_same (v hi lo x : Nat) (h : lo ≤ hi) : fld (putFld v hi lo x) hi lo = x % 2 ^ (hi + 1 - lo) := by
  refine Nat.eq_of_testBit_eq fun j => ?_
  rw [testBit_fld, testBit_putFld _ _ _ _ _ (by omega), Nat.testBit_mod_two_pow]
  by_cases hj : j < hi + 1 - lo
  · rw [if_pos (by omega)]; simp [hj]
  · simp [hj]

theorem fld_putFld_other (v hi lo x hi' lo' : Nat) (hl : lo ≤ hi) (h : hi' < lo ∨ hi < lo') :
    fld (putFld v hi lo x) hi' lo' = fld v hi' lo' := by
  refine Nat.eq_of_testBit_eq fun j => ?_
  rw [testBit_fld, testBit_fld, testBit_putFld _ _ _ _ _ (by omega)]
  by_cases hj : j < hi' + 1 - lo'
  · rw [if_neg (by omega)]
  · simp [hj]

theorem bitOf_putFld_other (v hi lo x i : Nat) (hl : lo ≤ hi) (h : i < lo ∨ hi < i) :
    bitOf (putFld v hi lo x) i = bitOf v i := by
  rw [bitOf_eq_testBit, bitOf_eq_testBit, testBit_putFld _ _ _ _ _ (by omega), if_neg (by omega)]

theorem bitOf_putB (v i j : Nat) (b : Bool) : bitOf (putB v i b) j = if j = i then b else bitOf v j := by
  rw [putB_eq, bitOf_eq_testBit, bitOf_eq_testBit, testBit_putFld _ _ _ _ _ (by omega)]
  by_cases h : j = i
  · subst h; cases b <;> simp [b2n]
  · rw [if_neg (by omega), if_neg h]

theorem fld_putB_other (v i hi lo : Nat) (b : Bool) (h : hi < i ∨ i < lo) : fld (putB v i b) hi lo = fld v hi lo := by
  rw [putB_eq]; exact fld_putFld_other _ _ _ _ _ _ le_rfl (by omega)

theorem putFld_lt (v hi lo x w : Nat) (hl : lo ≤ hi) (hw : hi < w) (hv : v < 2 ^ w) : putFld v hi lo x < 2 ^ w := by
  refine Nat.lt_pow_two_of_testBit _ fun j hj => ?_
  rw [testBit_putFld _ _ _ _ _ (by omega), if_neg (by omega)]
  exact Nat.testBit_lt_two_pow (lt_of_lt_of_le hv (Nat.pow_le_pow_right (by omega) hj))

theorem putB_lt (v i w : Nat) (b : Bool) (hi : i < w) (hv : v < 2 ^ w) : putB v i b < 2 ^ w := by
  rw [putB_eq]; exact putFld_lt _ _ _ _ _ le_rfl hi hv

/-! ## Fields of registers -/

variable (s : State)

theorem State.rd_wrF (a hi lo v k : Nat) (hl : lo ≤ hi) (hw : hi < 32) :
    (s.wrF a hi lo v).rd k = if k = a then putFld (s.rd a) hi lo v else s.rd k := by
  unfold State.wrF
  rw [State.rd_wr, Nat.mod_eq_of_lt (putFld_lt _ _ _ _ 32 hl hw (s.rd_lt a))]

theorem State.rd_wrB (a i k : Nat) (b : Bool) (hi : i < 32) :
    (s.wrB a i b).rd k = if k = a then putB (s.rd a) i b else s.rd k := by
  unfold State.wrB
  rw [State.rd_wr, Nat.mod_eq_of_lt (putB_lt _ _ 32 _ hi (s.rd_lt a))]

theorem State.rd_intSet (p i k : Nat) (hi : i < 32) :
    (s.intSet p i).rd k = if k = Reg.INT_STATUS p then setB (s.rd (Reg.INT_STATUS p)) i else s.rd k := by
  unfold State.intSet
  rw [State.rd_wrB _ _ _ _ _ hi]
  rfl

theorem State.rdF_wrF_same (a hi lo v : Nat) (hl : lo ≤ hi) (hw : hi < 32) :
    (s.wrF a hi lo v).rdF a hi lo = v % 2 ^ (hi + 1 - lo) := by
  unfold State.rdF
  rw [State.rd_wrF _ _ _ _ _ _ hl hw, if_pos rfl, fld_putFld_same _ _ _ _ hl]

theorem State.bit_wrB_same (a i : Nat) (b : Bool) (hi : i < 32) : (s.wrB a i b).bit a i = b := by
  unfold State.bit
  rw [State.rd_wrB _ _ _ _ _ hi, if_pos rfl, bitOf_putB, if_pos rfl]

theorem satInc_lt (w v : Nat) : satInc w v < 2 ^ w := by
  have : 0 < 2 ^ w := by positivity
  unfold satInc
  split <;> omega

theorem State.rd_count (a k : Nat) : (s.count a).rd k = if k = a then satInc 32 (s.rd a) else s.rd k := by
  unfold State.count
  rw [State.rd_wr, Nat.mod_eq_of_lt (satInc_lt 32 _)]

end Sys2Proof.Machine
end

