-- ==== Sys2Proof/WellFormed.lean ====
section
/-! DEFINITION. Well-formed commands: every operand lies in the range that its register, link or bus carries. -/

namespace Sys2Proof

/-- A value of 16, 32 or 64 bits. -/
def w16 (n : Nat) : Bool := decide (n < 65536)
def w32 (n : Nat) : Bool := decide (n < 2 ^ 32)
def w64 (n : Nat) : Bool := decide (n < 2 ^ 64)

/-- The operands of a command lie in their ranges: words of 32 bits, instants of 64-bit FRC, bus addresses inside
the two BARs of PF0 and that of PF1. -/
def Instr.wellFormed : Instr → Bool
  | .registerWrite _ addr data => decide (addr < 0x3000000) && w32 data
  | .clearOnRead _ addr => decide (addr < 0x3000000)
  | .write1ToClear _ addr data hw => decide (addr < 0x3000000) && w32 data && w32 hw
  | .intForce _ page data => decide (page < 0x1000) && w32 data
  | .badAccess _ addr _ _ => decide (addr < 0x3000000)
  | .apertureWrite _ addr data => decide (addr < 0x3000000) && w32 data
  | .thresholdWrite _ addr data => decide (addr < 0x3000000) && w32 data
  | .readLo _ addr => decide (addr < 0x3000000)
  | .writeHi _ addr data => decide (addr < 0x3000000) && w32 data
  | .blockReset _ page => decide (page < 0x1000)
  | .configLock _ page => decide (page < 0x1000)
  | .shadowArm _ page => decide (page < 0x1000)
  | .shadowDisarm _ page _ => decide (page < 0x1000)
  | .shadowApply page frame => decide (page < 0x1000) && w16 frame
  | .lockRead _ readers => decide readers.Nodup
  | .lockRelease _ _ data => w32 data
  | .forceRelease _ data => w32 data
  | .vecAck _ vec => decide (vec < 80)
  | .msixMessage vec t => decide (vec < 80) && w64 t
  | .resetCtrl _ data => w32 data
  | .pllLossOfLock _ _ => true
  | .encoderCount _ _ _ t => w64 t
  | .lossOfSignal _ t => w64 t
  | .losClear _ => true
  | .slipWindow => true
  | .virtualTick t => w64 t
  | .lineTick t => w64 t
  | .runArm _ => true
  | .runStart _ => true
  | .runDrain _ => true
  | .drainTimeout t => w64 t
  | .frameQueued line t => w32 line && w64 t
  | .adviceRecompute t => w64 t
  | .slotArm _ _ => true
  | .slotCancel _ _ => true
  | .slotApply _ => true
  | .rampEnd _ => true
  | .bankCopyDone _ => true
  | .queueDoorbell _ _ tail => w16 tail
  | .linearDesc _ words _ => (words.length == 8 && words.all w32)
  | .tileDesc _ words _ _ => (words.length == 8 && words.all w32)
  | .streamCreditResume _ _ _ => true
  | .tileWaitResume _ _ _ => true
  | .translationCompletion _ base size target _ _ _ => w64 base && w64 size && w64 target
  | .invalidationRequest base size => w64 base && w64 size
  | .pageRequestResponse _ _ _ _ => true
  | .priTimeout _ => true
  | .queueRestart _ _ => true
  | .queueStop _ _ => true
  | .atcFlush _ => true
  | .regionWrite _ _ _ data => w32 data
  | .starvedLineResume line => w32 line
  | .tileDigestRecord (.peer _ row col crc) => w32 row && decide (col < 64) && w32 crc
  | .tileDigestRecord (.net m) => decide (m.bytes.length = 88)
  | .contoneArrival line _ faults mismatch =>
    w32 line && faults.all (fun f => f.cause < 3 && w32 f.row && f.col < 64 && f.line < 64) && mismatch.all (fun m
    => m.1 < 128)
  | .faultClear _ _ => true
  | .isolate _ _ => true
  | .isolateRelease _ _ => true
  | .receiverDetectProbe _ _ t => w64 t
  | .trainingFrame _ field _ _ => w64 field
  | .trainTimeout _ => true
  | .trainingSilence _ t => w64 t
  | .rateChangeIdleEnd _ => true
  | .blockLockGained _ blocks => blocks.all (fun b => decide (b.1 < 4) && w64 b.2)
  | .blockLockLost _ errs t => w32 errs && w64 t
  | .lockTimeout _ => true
  | .exchangeTimeout _ => true
  | .retrainTimeout _ => true
  | .headHello _ h t => (h.formats < 8 && h.port < 2 && h.buffer < 256 && h.tableMax < 65536) && w64 t
  | .helloRepeat _ => true
  | .eyeMeasurement _ _ => true
  | .headerErrorWindow _ errs => w32 errs
  | .linkRetrain _ _ => true
  | .linkRestart _ _ t => w64 t
  | .rateUp _ _ => true
  | .linkAccept _ _ t => w64 t
  | .headStatus _ st => (st.counters.length == 11 && st.counters.all w32 && st.temp < 65536)
  | .statusTimeout _ => true
  | .frameDiscard _ => true
  | .tableSend _ _ => true
  | .tableNoResponse _ => true
  | .echoNow _ _ t => w64 t
  | .echoInterval _ t => w64 t
  | .echoReply _ seq turnaround t => w16 seq && w32 turnaround && w64 t
  | .echoLost _ => true
  | .portStopExchange _ => true
  | .cameraPortEnable _ _ => true
  | .cameraPortDisable _ _ => true
  | .powerSettle _ milliamps => w32 milliamps
  | .powerFault _ milliamps => w32 milliamps
  | .linkTimeout _ => true
  | .alignSet _ blocks skew => blocks.all (fun b => decide (b.1 < 4) && w64 b.2) && w32 skew
  | .alignTimeout _ => true
  | .cciGo _ _ => true
  | .cciReply _ block => w64 block
  | .cciTimeout _ => true
  | .frameStart _ _ num _ t => w16 num && w64 t
  | .linePacket _ pkt => pkt.blocks.all (fun b => decide (b.1 < 4) && w64 b.2)
  | .frameEnd _ _ num _ => w16 num
  | .frameTimeout _ _ => true
  | .triggerRecordTimeout _ => true
  | .ispLine _ => true
  | .statsRecordPublish _ => true
  | .ispTableSyncDone _ => true
  | .readIdxHostWrite _ data => w32 data
  | .scalerRecordTake contrast => contrast.all (fun m => m.1 < 786432 && w32 m.2)
  | .cycleExpired => true
  | .resultSetPublish _ => true
  | .stairForce _ => true
  | .cycleRestart _ => true
  | .driftBin _ t => w64 t
  | .driftReref _ _ => true
  | .lampGroupEnable _ _ => true
  | .lampGroupDisable _ _ => true
  | .busGood _ voutMode failures => decide (voutMode < 256) && w32 failures
  | .busWaitTimeout _ failures => w32 failures
  | .busFault _ => true
  | .groupResume _ _ => true
  | .lampPeriodStart _ t => w64 t
  | .headroomStep _ _ => true
  | .busMeasure _ vout iout failures t => w32 vout && w32 iout && w32 failures && w64 t
  | .sinkSample _ millivolts microamps => w32 millivolts && w32 microamps
  | .probeInterval _ t => w64 t
  | .probeNow _ _ t => w64 t
  | .probeComplete _ millivolts microamps => w32 millivolts && w32 microamps
  | .probeAbort _ => true
  | .probeBlocked _ => true
  | .clearLampFault _ _ => true
  | .ntcRead _ ohms => (ohms.length == 4)
  | .lampPush _ => true
  | .lampFlush _ _ => true
  | .peerHello _ serial mode portId addr proto t =>
    w64 serial && decide (mode < 32) && decide (portId < 3) && decide (addr < 4096) && w16 proto && w64 t
  | .peerPortDown _ => true
  | .narrowed _ lanes errs _ => decide (lanes < 16) && decide (errs.length = 4) && errs.all w32
  | .bgRetrain _ lanes => decide (lanes < 16)
  | .portRetrain _ _ => true
  | .widenNow _ _ lanes => decide (lanes < 16)
  | .timeTransfer _ t1 t2 t3 t4 ring => w64 t1 && w64 t2 && w64 t3 && w64 t4 && w64 ring
  | .peerFrame _ f => (f.seq < 65536 && f.ack < 65536 && f.kind < 256)
  | .frameRetx _ _ => true
  | .mirroredWrite addr data => decide (addr < 0x3000000) && w32 data
  | .peerHeartbeat role cond epoch gen t => decide (role < 3) && decide (cond < 8) && w32 epoch && w32 gen && w64 t
  | .networkHeartbeat m t => decide (m.bytes.length = 72) && w64 t
  | .heartbeatMiss _ t => w64 t
  | .leaseGrant m t => decide (m.bytes.length = 72) && w64 t
  | .leaseDeny m t => decide (m.bytes.length = 72) && w64 t
  | .leaseRenew t => w64 t
  | .claimRepeat t => w64 t
  | .leaseLost t => w64 t
  | .wiredGrant _ _ t => w64 t
  | .slotMessage _ target action mask0 mask1 mask2 mask3 fwd crc =>
    w32 target && w32 action && w32 mask0 && w32 mask1 && w32 mask2 && w32 mask3 && w16 fwd && w32 crc
  | .slotAck _ => true
  | .slotNak _ => true
  | .slotConfirm _ => true
  | .slotAckDeadline _ => true
  | .inDoubt _ => true
  | .inDoubtAnswer _ _ line => w32 line
  | .slotCancelMessage _ => true
  | .startMessage startLine run t => w32 startLine && decide (run < 256) && w64 t
  | .tickInstant line leaderFrc => w32 line && w64 leaderFrc
  | .retrainRequest _ _ => true
  | .handoverRequest _ => true
  | .retireRequest _ => true
  | .handoverAtLine => true
  | .syncEntry => true
  | .syncComplete => true
  | .digestNow _ => true
  | .selfTestDigest => true
  | .digestFail target => decide (target < 136)
  | .healthPublish partner => (partner.getD 0 < 65536)
  | .closureProbe root t => w64 root && w64 t
  | .ringEnum _ m t =>
    decide (m.addr < 8192) && decide (m.count < 8192) && w64 m.root && m.reports.all (fun r => w32 r.1 && w32 r.2) && w64 t
  | .closureTimeout t => w64 t
  | .ringEnumerate _ t => w64 t
  | .ringResync _ => true
  | .linePrediction t => w64 t
  | .lineTime line ringTime t => w32 line && w64 ringTime && w64 t
  | .predHold t => w64 t
  | .rateExchange rates lowest partner => rates.all w32 && lowest.all w32 && partner.all w32
  | .networkFrame _ f t => (f.dst < 2 ^ 48 && f.src < 2 ^ 48 && f.etherType < 65536) && w64 t
  | .ptpSync _ m => (w16 m.seq && w64 m.frc)
  | .followUp _ m => (w16 m.seq && w64 m.frc)
  | .delayReq _ t => w64 t
  | .delayResp _ m => (w16 m.seq && w64 m.frc)
  | .ptpAnnounce _ m => (w16 m.seq && w64 m.frc)
  | .announceTimeout _ => true
  | .pdelayReq _ m t => (w16 m.seq && w64 m.frc) && w64 t
  | .pdelayResp _ m => (w16 m.seq && w64 m.frc)
  | .pdelayRespFollowUp _ m => (w16 m.seq && w64 m.frc)
  | .lanReadmitted _ t => w64 t
  | .syncTimeout _ t => w64 t
  | .verifyComplete t => w64 t
  | .holdoverExpired t => w64 t
  | .acceptPath _ => true
  | .forceHoldover _ => true
  | .supervisionFrame _ mac t => decide (mac < 2 ^ 48) && w64 t
  | .lifeCheck => true
  | .entryForget mac t => decide (mac < 2 ^ 48) && w64 t
  | .netReport => true
  | .networkLinkChange _ _ speed => w32 speed
  | .nowRead _ t => w64 t
  | .conversion _ data => w32 data
  | .timerArm _ _ t => w64 t
  | .timerDisarm _ _ => true
  | .timerEvent _ t => w64 t
  | .planPush _ _ => true
  | .planFlush _ _ => true
  | .capture _ _ t => w64 t
  | .capInfoRead _ => true
  | .dramRead reqs t => reqs.all (fun r => decide (r.addr < 96 * 2 ^ 30) && w64 r.issued && w64 r.back && w32 r.line) && w64 t
  | .dramRefresh _ elapsed _ => w32 elapsed
  | .forcedRefresh _ elapsed => w32 elapsed
  | .dramTempRead _ _ => true
  | .hotExit _ => true
  | .parityAlert _ after replays _ => w32 after && w32 replays
  | .wcrcAlert _ after replays _ => w32 after && w32 replays
  | .scrubRead _ _ _ => true
  | .retrainInterval _ => true
  | .retrainSlice _ => true
  | .retrainComplete _ _ margin lane => w32 margin && decide (lane < 8)
  | .retrainNow _ _ => true
  | .scrubRestart _ _ => true
  | .clearDegraded _ _ => true
  | .scheduledStop => true
  | .mbPost _ _ => true
  | .mbTake _ _ => true
  | .mailboxAck _ _ data => w32 data
  | .mbClear _ _ => true
  | .detach _ _ => true
  | .bodyRead _ read => decide ((read.getD []).length ≤ 0x1000000)
  | .replyChannelFree _ => true
  | .replyRoomTimeout _ => true
  | .ping _ => true
  | .getInfo _ => true
  | .parkRequest _ => true
  | .resumeRequest _ => true
  | .setHostKey _ => true
  | .setLookoutKey _ => true
  | .eraseKeys _ => true
  | .journalWrite _ => true
  | .journalRead _ => true
  | .perst => true
  | .functionLevelReset _ _ => true
  | .crewWatchdog => true
  | .rangerWatchdog bad => bad.all w32
  | .boot b => b.margins.length == 6 && b.margins.all (fun l => l.length == 9 && l.all (fun m => decide (m < 64)))
  | .eraseWrite _ => true
  | .fwVerify _ => true
  | .fwActivate _ => true
  | .confirmImage _ => true
  | .liveCrew _ => true
  | .liveRanger _ => true
  | .updateAbort _ => true
  | .fwOperationDone img => decide (((img.map (·.bytes)).getD []).length ≤ 0x10000000)
  | .coreReady _ => true
  | .coreReadyTimeout _ => true
  | .fwReboot _ data => w32 data
  | .compactNow _ => true
  | .compactionDone => true
  | .nvRangeReturn _ => true
  | .hostPost _ => true
  | .powerOnReset _ _ => true
  | .mainsQualified => true
  | .mainsFail bulk => w32 bulk
  | .mainsLow vrms => w32 vrms
  | .sb24Change _ millivolts => w32 millivolts
  | .railPowerGood _ => true
  | .railFault _ => true
  | .powerRestart _ => true
  | .headPowerControl _ data => w32 data
  | .headPowerDeassert => true
  | .sensorSample _ readings => decide (readings.length ≤ 2)
  | .thresholdDwell _ inst => decide (inst < 64)
  | .thermalTrip _ => true
  | .lampTrip _ => true
  | .tripRestart => true
  | .tripLatchClear _ => true
  | .stopIn _ => true
  | .stopInRelease => true
  | .stopInDiscrepancy => true
  | .sys24InChange _ => true
  | .sfpChange _ _ _ _ => true
  | .retireRequestRepeat => true
  | .pllLockRegained _ => true
  | .pcieLinkUp _ _ _ _ => true

end Sys2Proof
end

