-- ==== Sys2Proof/Tests/Slice0.lean ====
section
/-! SUPPORT. The tests: ill-formed commands are refused, the worked examples of the spec, and for every statement a
state and operands that meet the hypotheses of each of its clauses. -/

set_option linter.unusedVariables false

namespace Sys2Proof.Tests
open Sys2Proof.Machine

/-- The state after reset with some registers written, once the core has reached IDLE. -/
def mkS (l : List (Nat × Nat)) : State :=
  let s := State.reset.wrs l
  { s with mgmt := { s.mgmt with up := true } }

/-- A secure body up to its MAC, with a TAG of 0. -/
def secBody (type ctr : Nat) (p : List Byte) : List Byte :=
  leBytes 8 ctr ++ leBytes 2 type ++ leBytes 2 0 ++ leBytes 4 p.length ++ p

/-- The same with the MAC of a session of 0 under an empty key. -/
def signedBody (n : Nat) (b : List Byte) : List Byte := b ++ hmac [] (leBytes 8 0 ++ leBytes 1 n ++ b)

/-- A message with its MAC under an empty key. -/
def signedMsg (b : List Byte) : LookoutMsg := { bytes := b ++ hmac [] b }

/-! ## Ill-formed commands -/

def aHeadHello : HeadHello :=
  { version := 0, ack := true, vendor := 0, model := 0, serial := 0, nozzles := 0, formats := 0, port := 0,
    buffer := 0, tableMax := 0, eyePass := 0, maxRate := 0 }
def aHeadStatus : HeadStatus :=
  { port := 0, retrainReq := true, fault := true, halted := true, aborted := true, temp := 0, tableSeq := 0,
    tableResult := 0, period := 0, counters := List.replicate 11 0, tickSkew := 0 }
def aImageSet : ImageSet := { bytes := [], keyOk := true, signatureOk := true, hashesOk := true }
def aCamPacket : CamPacket :=
  { blocks := [], vcKnown := true, eccCorrected := true, eccBad := true, crcOk := true }
def aPeerFrame : PeerFrame := { cls := 0, seq := 0, ack := 0, crcOk := true, kind := 0, fields := [] }
def aEnum : Enum := { addr := 0, count := 0, root := 0, east := true, chain := true, reports := [] }
def aLookoutMsg : LookoutMsg := { bytes := List.replicate 72 0 }
def aNetFrame : NetFrame :=
  { fcsOk := true, length := 0, tags := [], dst := 0, src := 0, etherType := 0, udp := none, trailer := none,
    ptpType := 0, domain := 0, sdo := 0 }
def aPtpMsg : PtpMsg := { seq := 0, twoStep := true, time := 0, corr := 0, frc := 0, forMe := true, data := [] }
def aDramReq : DramReq := { addr := 0, cls := 0, issued := 0, back := 0, line := 0, ecc := .clean }
def aBootOutcome : BootOutcome :=
  { margins := List.replicate 6 (List.replicate 9 0), badRecords := [], aOk := true, bOk := true }

theorem test_ill_formed_refused_1 : ([
    .tileDigestRecord (.peer 0 (2 ^ 32) 0 0), .tileDigestRecord (.peer 0 0 64 0),
    .tileDigestRecord (.peer 0 0 0 (2 ^ 32)), .tileDigestRecord (.net { bytes := [] }),
    .registerWrite .ranger 0x3000000 0, .registerWrite .ranger 0 (2 ^ 32), .clearOnRead .ranger 0x3000000,
    .write1ToClear .ranger 0x3000000 0 0, .write1ToClear .ranger 0 (2 ^ 32) 0, .write1ToClear .ranger 0 0 (2 ^ 32),
    .intForce .ranger 0x1000 0, .intForce .ranger 0 (2 ^ 32), .badAccess .ranger 0x3000000 true true,
    .apertureWrite .ranger 0x3000000 0, .apertureWrite .ranger 0 (2 ^ 32), .thresholdWrite .ranger 0x3000000 0,
    .thresholdWrite .ranger 0 (2 ^ 32), .readLo .ranger 0x3000000, .writeHi .ranger 0x3000000 0,
    .writeHi .ranger 0 (2 ^ 32), .blockReset .ranger 0x1000, .configLock .ranger 0x1000, .shadowArm .ranger 0x1000,
    .shadowDisarm .ranger 0x1000 true, .shadowApply 0x1000 0, .shadowApply 0 (2 ^ 16), .lockRead 0 [.pf0, .pf0],
    .lockRelease .ranger 0 (2 ^ 32), .forceRelease .ranger (2 ^ 32), .vecAck true 80, .msixMessage 80 0,
    .msixMessage 0 (2 ^ 64), .resetCtrl .ranger (2 ^ 32), .encoderCount 0 true 0 (2 ^ 64), .lossOfSignal 0 (2 ^ 64),
    .virtualTick (2 ^ 64), .lineTick (2 ^ 64), .drainTimeout (2 ^ 64), .frameQueued (2 ^ 32) 0,
    .frameQueued 0 (2 ^ 64)] :
    List Instr).all (fun c => !c.wellFormed) = true := by
  decide

theorem test_ill_formed_refused_2 : ([
    .adviceRecompute (2 ^ 64), .queueDoorbell .ranger 0 (2 ^ 16), .linearDesc 0 [] .miss,
    .linearDesc 0 (List.replicate 8 (2 ^ 32)) .miss, .tileDesc 0 [] .miss .miss,
    .tileDesc 0 (List.replicate 8 (2 ^ 32)) .miss .miss, .translationCompletion 0 (2 ^ 64) 0 0 true .miss .miss,
    .translationCompletion 0 0 (2 ^ 64) 0 true .miss .miss, .translationCompletion 0 0 0 (2 ^ 64) true .miss .miss,
    .invalidationRequest (2 ^ 64) 0, .invalidationRequest 0 (2 ^ 64), .regionWrite .ranger 0 0 (2 ^ 32),
    .starvedLineResume (2 ^ 32), .contoneArrival (2 ^ 32) 0 [] [], .contoneArrival 0 0 [⟨0, 0, 0, 3⟩] [],
    .contoneArrival 0 0 [⟨0, 2 ^ 32, 0, 0⟩] [], .contoneArrival 0 0 [⟨64, 0, 0, 0⟩] [],
    .contoneArrival 0 0 [⟨0, 0, 64, 0⟩] [], .contoneArrival 0 0 [] [(128, 0)], .receiverDetectProbe 0 true (2 ^ 64),
    .trainingFrame 0 (2 ^ 64) true none, .trainingSilence 0 (2 ^ 64), .blockLockGained (.head 0) [(4, 0)],
    .blockLockGained (.head 0) [(0, 2 ^ 64)], .blockLockLost (.head 0) (2 ^ 32) 0,
    .blockLockLost (.head 0) 0 (2 ^ 64), .headHello 0 { aHeadHello with formats := 8 } 0,
    .headHello 0 { aHeadHello with port := 2 } 0, .headHello 0 { aHeadHello with buffer := 256 } 0,
    .headHello 0 { aHeadHello with tableMax := 65536 } 0, .headHello 0 aHeadHello (2 ^ 64),
    .headerErrorWindow (.head 0) (2 ^ 32), .linkRestart .ranger 0 (2 ^ 64), .linkAccept .ranger 0 (2 ^ 64),
    .headStatus 0 { aHeadStatus with temp := 65536 }, .headStatus 0 { aHeadStatus with counters := [] },
    .headStatus 0 { aHeadStatus with counters := List.replicate 11 (2 ^ 32) }, .echoNow .ranger 0 (2 ^ 64),
    .echoInterval 0 (2 ^ 64), .echoReply 0 (2 ^ 16) 0 0] :
    List Instr).all (fun c => !c.wellFormed) = true := by
  decide

theorem test_ill_formed_refused_3 : ([
    .echoReply 0 0 (2 ^ 32) 0, .echoReply 0 0 0 (2 ^ 64), .powerSettle 0 (2 ^ 32), .powerFault 0 (2 ^ 32),
    .alignSet (.cam 0) [(4, 0)] 0, .alignSet (.cam 0) [(0, 2 ^ 64)] 0, .alignSet (.cam 0) [] (2 ^ 32),
    .cciReply 0 (2 ^ 64), .frameStart 0 0 (2 ^ 16) true 0, .frameStart 0 0 0 true (2 ^ 64),
    .linePacket 0 { aCamPacket with blocks := [(4, 0)] }, .frameEnd 0 0 (2 ^ 16) true,
    .readIdxHostWrite .ranger (2 ^ 32), .scalerRecordTake [(786432, 0)], .scalerRecordTake [(0, 2 ^ 32)],
    .driftBin 0 (2 ^ 64), .busGood 0 256 0, .busGood 0 0 (2 ^ 32), .busWaitTimeout 0 (2 ^ 32),
    .lampPeriodStart 0 (2 ^ 64), .busMeasure 0 (2 ^ 32) 0 0 0, .busMeasure 0 0 (2 ^ 32) 0 0,
    .busMeasure 0 0 0 (2 ^ 32) 0, .busMeasure 0 0 0 0 (2 ^ 64), .sinkSample 0 (2 ^ 32) 0, .sinkSample 0 0 (2 ^ 32),
    .probeInterval 0 (2 ^ 64), .probeNow .ranger 0 (2 ^ 64), .probeComplete 0 (2 ^ 32) 0,
    .probeComplete 0 0 (2 ^ 32), .ntcRead 0 [], .peerHello 0 (2 ^ 64) 0 0 0 0 0, .peerHello 0 0 32 0 0 0 0,
    .peerHello 0 0 0 3 0 0 0, .peerHello 0 0 0 0 4096 0 0, .peerHello 0 0 0 0 0 (2 ^ 16) 0,
    .peerHello 0 0 0 0 0 0 (2 ^ 64), .narrowed 0 16 [0, 0, 0, 0] true, .narrowed 0 0 [] true,
    .narrowed 0 0 [0, 0, 0, 2 ^ 32] true] :
    List Instr).all (fun c => !c.wellFormed) = true := by
  decide

theorem test_ill_formed_refused_4 : ([
    .bgRetrain 0 16, .widenNow .ranger 0 16, .timeTransfer 0 (2 ^ 64) 0 0 0 0, .timeTransfer 0 0 (2 ^ 64) 0 0 0,
    .timeTransfer 0 0 0 (2 ^ 64) 0 0, .timeTransfer 0 0 0 0 (2 ^ 64) 0, .timeTransfer 0 0 0 0 0 (2 ^ 64),
    .peerFrame 0 { aPeerFrame with seq := 65536 }, .peerFrame 0 { aPeerFrame with ack := 65536 },
    .peerFrame 0 { aPeerFrame with kind := 256 }, .mirroredWrite 0x3000000 0, .mirroredWrite 0 (2 ^ 32),
    .peerHeartbeat 3 0 0 0 0, .peerHeartbeat 0 8 0 0 0, .peerHeartbeat 0 0 (2 ^ 32) 0 0,
    .peerHeartbeat 0 0 0 (2 ^ 32) 0, .peerHeartbeat 0 0 0 0 (2 ^ 64),
    .networkHeartbeat { aLookoutMsg with bytes := [] } 0, .networkHeartbeat aLookoutMsg (2 ^ 64),
    .heartbeatMiss true (2 ^ 64), .leaseGrant { aLookoutMsg with bytes := [] } 0, .leaseGrant aLookoutMsg (2 ^ 64),
    .leaseDeny { aLookoutMsg with bytes := [] } 0, .leaseDeny aLookoutMsg (2 ^ 64), .leaseRenew (2 ^ 64),
    .claimRepeat (2 ^ 64), .leaseLost (2 ^ 64), .wiredGrant true true (2 ^ 64),
    .slotMessage 0 (2 ^ 32) 0 0 0 0 0 0 0, .slotMessage 0 0 (2 ^ 32) 0 0 0 0 0 0,
    .slotMessage 0 0 0 (2 ^ 32) 0 0 0 0 0, .slotMessage 0 0 0 0 (2 ^ 32) 0 0 0 0,
    .slotMessage 0 0 0 0 0 (2 ^ 32) 0 0 0, .slotMessage 0 0 0 0 0 0 (2 ^ 32) 0 0,
    .slotMessage 0 0 0 0 0 0 0 (2 ^ 16) 0, .slotMessage 0 0 0 0 0 0 0 0 (2 ^ 32), .inDoubtAnswer 0 true (2 ^ 32),
    .startMessage (2 ^ 32) 0 0, .startMessage 0 256 0, .startMessage 0 0 (2 ^ 64)] :
    List Instr).all (fun c => !c.wellFormed) = true := by
  decide

theorem test_ill_formed_refused_5 : ([
    .tickInstant (2 ^ 32) 0, .tickInstant 0 (2 ^ 64), .digestFail 136, .healthPublish (some 65536),
    .closureProbe (2 ^ 64) 0, .closureProbe 0 (2 ^ 64), .ringEnum true { aEnum with addr := 8192 } 0,
    .ringEnum true { aEnum with count := 8192 } 0, .ringEnum true { aEnum with root := 2 ^ 64 } 0,
    .ringEnum true { aEnum with reports := [(2 ^ 32, 0)] } 0,
    .ringEnum true { aEnum with reports := [(0, 2 ^ 32)] } 0, .ringEnum true aEnum (2 ^ 64),
    .closureTimeout (2 ^ 64), .ringEnumerate .ranger (2 ^ 64), .linePrediction (2 ^ 64), .lineTime (2 ^ 32) 0 0,
    .lineTime 0 (2 ^ 64) 0, .lineTime 0 0 (2 ^ 64), .predHold (2 ^ 64), .rateExchange [2 ^ 32] none none,
    .rateExchange [] (some (2 ^ 32)) none, .rateExchange [] none (some (2 ^ 32)),
    .networkFrame 0 { aNetFrame with dst := 2 ^ 48 } 0, .networkFrame 0 { aNetFrame with src := 2 ^ 48 } 0,
    .networkFrame 0 { aNetFrame with etherType := 65536 } 0, .networkFrame 0 aNetFrame (2 ^ 64),
    .ptpSync 0 { aPtpMsg with seq := 2 ^ 16 }, .ptpSync 0 { aPtpMsg with frc := 2 ^ 64 },
    .followUp 0 { aPtpMsg with seq := 2 ^ 16 }, .followUp 0 { aPtpMsg with frc := 2 ^ 64 }, .delayReq 0 (2 ^ 64),
    .delayResp 0 { aPtpMsg with seq := 2 ^ 16 }, .delayResp 0 { aPtpMsg with frc := 2 ^ 64 },
    .ptpAnnounce 0 { aPtpMsg with seq := 2 ^ 16 }, .ptpAnnounce 0 { aPtpMsg with frc := 2 ^ 64 },
    .pdelayReq 0 { aPtpMsg with seq := 2 ^ 16 } 0, .pdelayReq 0 { aPtpMsg with frc := 2 ^ 64 } 0,
    .pdelayReq 0 aPtpMsg (2 ^ 64), .pdelayResp 0 { aPtpMsg with seq := 2 ^ 16 },
    .pdelayResp 0 { aPtpMsg with frc := 2 ^ 64 }] :
    List Instr).all (fun c => !c.wellFormed) = true := by
  decide

theorem test_ill_formed_refused_6 : ([
    .pdelayRespFollowUp 0 { aPtpMsg with seq := 2 ^ 16 }, .pdelayRespFollowUp 0 { aPtpMsg with frc := 2 ^ 64 },
    .lanReadmitted 0 (2 ^ 64), .syncTimeout 0 (2 ^ 64), .verifyComplete (2 ^ 64), .holdoverExpired (2 ^ 64),
    .supervisionFrame 0 (2 ^ 48) 0, .supervisionFrame 0 0 (2 ^ 64), .entryForget (2 ^ 48) 0,
    .entryForget 0 (2 ^ 64), .networkLinkChange 0 true (2 ^ 32), .nowRead .ranger (2 ^ 64),
    .conversion .ranger (2 ^ 32), .timerArm .ranger 0 (2 ^ 64), .timerEvent 0 (2 ^ 64), .capture 0 true (2 ^ 64),
    .dramRead [{ aDramReq with addr := 96 * 2 ^ 30 }] 0, .dramRead [{ aDramReq with issued := 2 ^ 64 }] 0,
    .dramRead [{ aDramReq with back := 2 ^ 64 }] 0, .dramRead [{ aDramReq with line := 2 ^ 32 }] 0,
    .dramRead [] (2 ^ 64), .dramRefresh 0 (2 ^ 32) true, .forcedRefresh 0 (2 ^ 32), .parityAlert 0 (2 ^ 32) 0 true,
    .parityAlert 0 0 (2 ^ 32) true, .wcrcAlert 0 (2 ^ 32) 0 true, .wcrcAlert 0 0 (2 ^ 32) true,
    .retrainComplete 0 true (2 ^ 32) 0, .retrainComplete 0 true 0 8, .mailboxAck .ranger 0 (2 ^ 32),
    .rangerWatchdog [2 ^ 32], .boot { aBootOutcome with margins := [] },
    .boot { aBootOutcome with margins := List.replicate 6 [] },
    .boot { aBootOutcome with margins := List.replicate 6 (List.replicate 9 64) }, .fwReboot .ranger (2 ^ 32),
    .mainsFail (2 ^ 32), .mainsLow (2 ^ 32), .sb24Change true (2 ^ 32), .headPowerControl .ranger (2 ^ 32),
    .sensorSample .die [none, none, none]] :
    List Instr).all (fun c => !c.wellFormed) = true := by
  decide

theorem test_ill_formed_refused_7 : ([
    .thresholdDwell 0 64] :
    List Instr).all (fun c => !c.wellFormed) = true := by
  decide

theorem test_well_formed_accepted_1 : ([
    .registerWrite .ranger 0 0, .clearOnRead .ranger 0, .write1ToClear .ranger 0 0 0, .intForce .ranger 0 0,
    .badAccess .ranger 0 true true, .apertureWrite .ranger 0 0, .thresholdWrite .ranger 0 0, .readLo .ranger 0,
    .writeHi .ranger 0 0, .blockReset .ranger 0, .configLock .ranger 0, .shadowArm .ranger 0,
    .shadowDisarm .ranger 0 true, .shadowApply 0 0, .lockRead 0 [], .lockRelease .ranger 0 0,
    .forceRelease .ranger 0, .vecAck true 0, .msixMessage 0 0, .resetCtrl .ranger 0, .encoderCount 0 true 0 0,
    .lossOfSignal 0 0, .virtualTick 0, .lineTick 0, .drainTimeout 0, .frameQueued 0 0, .adviceRecompute 0,
    .queueDoorbell .ranger 0 0, .linearDesc 0 (List.replicate 8 0) .miss,
    .tileDesc 0 (List.replicate 8 0) .miss .miss, .translationCompletion 0 0 0 0 true .miss .miss,
    .invalidationRequest 0 0, .regionWrite .ranger 0 0 0, .starvedLineResume 0, .tileDigestRecord (.peer 0 0 0 0),
    .contoneArrival 0 0 [] [], .receiverDetectProbe 0 true 0, .trainingFrame 0 0 true none, .trainingSilence 0 0,
    .blockLockGained (.head 0) []] :
    List Instr).all (fun c => c.wellFormed) = true := by
  decide

theorem test_well_formed_accepted_2 : ([
    .blockLockLost (.head 0) 0 0, .headHello 0 aHeadHello 0, .headerErrorWindow (.head 0) 0,
    .linkRestart .ranger 0 0, .linkAccept .ranger 0 0, .headStatus 0 aHeadStatus, .echoNow .ranger 0 0,
    .echoInterval 0 0, .echoReply 0 0 0 0, .powerSettle 0 0, .powerFault 0 0, .alignSet (.cam 0) [] 0,
    .cciReply 0 0, .frameStart 0 0 0 true 0, .linePacket 0 aCamPacket, .frameEnd 0 0 0 true,
    .readIdxHostWrite .ranger 0, .scalerRecordTake [], .driftBin 0 0, .busGood 0 0 0, .busWaitTimeout 0 0,
    .lampPeriodStart 0 0, .busMeasure 0 0 0 0 0, .sinkSample 0 0 0, .probeInterval 0 0, .probeNow .ranger 0 0,
    .probeComplete 0 0 0, .ntcRead 0 [none, none, none, none], .peerHello 0 0 0 0 0 0 0,
    .narrowed 0 0 [0, 0, 0, 0] true, .bgRetrain 0 0, .widenNow .ranger 0 0, .timeTransfer 0 0 0 0 0 0,
    .peerFrame 0 aPeerFrame, .mirroredWrite 0 0, .peerHeartbeat 0 0 0 0 0, .networkHeartbeat aLookoutMsg 0,
    .heartbeatMiss true 0, .leaseGrant aLookoutMsg 0, .leaseDeny aLookoutMsg 0] :
    List Instr).all (fun c => c.wellFormed) = true := by
  decide

theorem test_well_formed_accepted_3 : ([
    .leaseRenew 0, .claimRepeat 0, .leaseLost 0, .wiredGrant true true 0, .slotMessage 0 0 0 0 0 0 0 0 0,
    .inDoubtAnswer 0 true 0, .startMessage 0 0 0, .tickInstant 0 0, .digestFail 0, .healthPublish none,
    .closureProbe 0 0, .ringEnum true aEnum 0, .closureTimeout 0, .ringEnumerate .ranger 0, .linePrediction 0,
    .lineTime 0 0 0, .predHold 0, .rateExchange [] none none, .networkFrame 0 aNetFrame 0, .ptpSync 0 aPtpMsg,
    .followUp 0 aPtpMsg, .delayReq 0 0, .delayResp 0 aPtpMsg, .ptpAnnounce 0 aPtpMsg, .pdelayReq 0 aPtpMsg 0,
    .pdelayResp 0 aPtpMsg, .pdelayRespFollowUp 0 aPtpMsg, .lanReadmitted 0 0, .syncTimeout 0 0, .verifyComplete 0,
    .holdoverExpired 0, .supervisionFrame 0 0 0, .entryForget 0 0, .networkLinkChange 0 true 0, .nowRead .ranger 0,
    .conversion .ranger 0, .timerArm .ranger 0 0, .timerEvent 0 0, .capture 0 true 0, .dramRead [] 0] :
    List Instr).all (fun c => c.wellFormed) = true := by
  decide

theorem test_well_formed_accepted_4 : ([
    .dramRefresh 0 0 true, .forcedRefresh 0 0, .parityAlert 0 0 0 true, .wcrcAlert 0 0 0 true,
    .retrainComplete 0 true 0 0, .mailboxAck .ranger 0 0, .bodyRead 0 none, .rangerWatchdog [], .boot aBootOutcome,
    .fwOperationDone none, .fwReboot .ranger 0, .mainsFail 0, .mainsLow 0, .sb24Change true 0,
    .headPowerControl .ranger 0, .sensorSample .die [], .thresholdDwell 0 0] :
    List Instr).all (fun c => c.wellFormed) = true := by
  decide

theorem test_ill_formed_long :
    ((Instr.bodyRead 0 (some (List.replicate 0x1000001 0))).wellFormed,
      (Instr.fwOperationDone (some { aImageSet with bytes := List.replicate 0x10000001 0 })).wellFormed) = (false, false) := by
  simp only [Instr.wellFormed, Option.getD_some, Option.map_some, List.length_replicate, -List.reduceReplicate]
  decide


/-! ## Worked examples of the spec -/

/-- The example of R410. -/
theorem test_address_map :
    (dramChannel 0x0200AC4530, dramAddr 0x0200AC4530, dramRow 0x55720B30, dramBankGroup 0x55720B30,
      dramBank 0x55720B30, dramColumn 0x55720B30) = (3, 0x55720B30, 10937, 2, 0, 6) := by decide

set_option Elab.async false in
/-- The check value of R114. -/
theorem test_seal_check : crc32c [0x31, 0x32, 0x33, 0x34, 0x35, 0x36, 0x37, 0x38, 0x39] = 0xE3069283 := by decide +kernel

/-- The example of R114: PLANE3 with its tiles at 0x02_0000_0000 and its seals at 0x16_0000_0000. -/
theorem test_tile_place :
    let s := mkS [(Reg.JOB_PSRC 3, 0x05041800), (Reg.YARD_REG_BASE 4, 0x200000), (Reg.YARD_REG_BASE 5, 0x1600000)]
    (s.tileAddr 3 3 14 + 8 * 2048 + 1328, s.sealAddr 3 3 14 + 8 * 4) = (0x0200AC4530, 0x1600005620) := by decide

/-- The example of R120: repeat 3 spliced twice into a main repeat of 4,000 stored lines. -/
theorem test_splice :
    let s := { mkS [(Reg.JOB_JOB_CFG, 0x20), (Reg.JOB_REP_LENGTH 0, 4000), (Reg.JOB_REP_LENGTH 3, 1000)] with
      splices := [{ start := 100000, rep := 3, span := 4000, z := 4000 }] }
    ((s.repeatLine 99999), (s.repeatLine 100000).1, (s.repeatLine 103999).1, (s.repeatLine 104000))
      = ((0, 1999), 3, 3, (0, 2000)) := by decide

/-- The example of R98. -/
theorem test_ramp_taps :
    ([2, 3, 7, 11, 15].map (fun k => rampTaps 10 14 k 16)) = [10, 11, 12, 13, 14] := by decide

/-- The example of R168. -/
theorem test_ramp_value : (rampVal 1024 1075 4 4, rampVal 0 (-12) 4 4) = (1040, -4) := by decide

/-- The example of R48: the difference of two line numbers across the wrap. -/
theorem test_line_difference : (ldiff 0x10 0xFFFFFFF0, ldiff 0xFFFFFFE0 0xFFFFFFF0) = (32, -16) := by decide

/-- The examples of R162 to R166, with the tables that they name. -/
def screened : State := { mkS [(Reg.PLANE_THR_OFFSET 2, 40 + 200 * 256), (Reg.PLANE_REDIST_W 2, 96 + 32 * 256)] with
  scr := { active := { nozzle := [(38 * 6144 + 86, 0x3F4433), (38 * 6144 + 1000, 0x800400)],
                       tone := [(38 * 256 + 100, 1600), (38 * 256 + 104, 1680), (38 * 256 + 128, 2100)] },
           thr := [(2 * 65536 + 11, 1730), (2 * 65536 + 144 * 256 + 11, 1200), (2 * 65536 + 145 * 256 + 11, 3900),
                   (2 * 65536 + 146 * 256 + 11, 2048), (2 * 65536 + 147 * 256 + 11, 100),
                   (2 * 65536 + 148 * 256 + 11, 3000)] } }
theorem test_kerf_value : (screened.toneValue 38 86 128 7, screened.threshold 2 1000003 35800,
    screened.dropCode8 38 ((2193 * 7 + 1730) / 4096)) = (2193, 1730, 4) := by decide
def good (n v : Nat) : ColVal := ⟨true, some (6, n), true, false, v, 100⟩
def missing : ColVal := ⟨true, some (6, 1000), false, false, 1600, 100⟩
theorem test_redistribution :
    [screened.redistributed 2 (good 996 1600) (good 997 1600) (good 998 1600) (good 999 1600) missing,
      screened.redistributed 2 (good 997 1600) (good 998 1600) (good 999 1600) missing (good 1001 1600),
      screened.redistributed 2 (good 999 1600) missing (good 1001 1600) (good 1002 1680) (good 1003 1680),
      screened.redistributed 2 missing (good 1001 1600) (good 1002 1680) (good 1003 1680) (good 1004 1680)]
      = [1800, 2200, 2200, 1880] := by decide

/-- The example of R314: eight sub-pulses of 200 clocks in the even slots. -/
theorem test_spread : lampPulses 16000 6554 4 =
    [(0, 200), (8000, 200), (4000, 200), (12000, 200), (2000, 200), (10000, 200), (6000, 200), (14000, 200)] := by
  decide

/-- The example of R319: the demand of LC3, and the duty it leaves at the throttle limit. -/
theorem test_dose :
    let s := mkS [(Reg.LAMP_CH_LEVEL 0 3, 512), (Reg.LAMP_CH_DRIVE 0 3, 0xFFF), (Reg.LAMP_GROUP_STATUS 0, 2)]
    let s := { s with lamp := { bins := [(3 * 4, 18022)] } }
    (curveLinear 512, (s.lampDemand 3).1, s.iEff 3, s.dMax 3) = (32800, 29819, 3071, 49147) := by decide

/-- The example of R293. -/
theorem test_reflectance : (mkS [(Reg.SCALER_DARK, 64 * 65536)]).reflOf (6001 * 32768) (12000 * 65536) 57672 = 3547 := by
  decide

set_option Elab.async false in
/-- The example of R294: a neutral patch of reflectance 0.5 in every band. -/
theorem test_lab : (State.reset.xyzOf (List.replicate 12 8192), State.reset.labOf [7899, 8192, 6759])
    = ([7899, 8192, 6759], [9737, 2, 0]) := by decide +kernel

/-- The example of R372: 2.00 m/s² at 1,200 lines per inch. -/
theorem test_latency_bound : (tlMax 211667 200, tlOf 482) = (406, 405600) := by decide

/-- The example of R417: D = 50.0 µs as the sensor reads 85.1 °C takes five REFs. -/
theorem test_hot_entry :
    let s := { mkS [(Reg.STATUS (Reg.pageDRAM 2), 0x20)] with dram := { chans := [(2, { debt := 50000, trainTemp := 1362 })] } }
    (match execDramTempRead 2 1362 s with
      | .next t => decide ((t.dramCh 2).debt = 30500 ∧ t.rd (Reg.DRAM_REF_COUNT 2) = 5 ∧ t.hot 2 = true)
      | _ => false) = true := by decide

set_option Elab.async false in
/-- The example of R451: DETACH of a TAKEN command leaves the channel EMPTY with NOTICE 0xFF03 and its SEQ. -/
theorem test_detach :
    let s := mkS [(Reg.MBOX_MB_STATUS 1, 0x2C02)]
    (match execDetach .pf0 false s with
      | .next t => decide (t.mbSt 1 = 0 ∧ t.mbSeq 1 = 0x2C ∧ t.rd (Reg.MBOX_MB_NOTICE 1) % 65536 = 0xFF03)
      | _ => false) = true := by decide +kernel

/-- The queue of one command: a step runs it and leaves the queue empty. -/
theorem test_step : (match step { State.reset with pending := [.forceRelease .ranger 0] } with
    | .next t => t.pending.isEmpty
    | _ => false) = true := by decide

/-! ## Hypotheses that are met -/

theorem other_value (d : Nat) : ∃ v, d ≠ v := ⟨d + 1, by omega⟩

theorem witness_StepTakesFront :
    ∃ (c : Instr) (rest : List Instr) (s : State), s.pending = c :: rest :=
  ⟨(.forceRelease .ranger 0), [], { State.reset with pending := [.forceRelease .ranger 0] }, by decide⟩

theorem witness_IdleStep :
  (∃ (s : State), s.pending = []) ∧
  (∃ (s : State), s.mgmt.intake = [] ∧ (∀ d ∈ List.range 6, (s.dramCh d).open_ = [] ∧ (s.dramCh d).writes = []) ∧
     (s.crewRuns 0 = false ∨ ∀ c ∈ List.range 3, smGet (fun _ => []) s.net.queues c = [])) ∧
  (∃ (e : TallyEntry) (rest : List TallyEntry) (s : State), s.mgmt.intake = e :: rest ∧ s.mgmt.lost = 0 ∧
     (∀ d ∈ List.range 6, (s.dramCh d).open_ = [] ∧ (s.dramCh d).writes = []) ∧
     (s.crewRuns 0 = false ∨ ∀ c ∈ List.range 3, smGet (fun _ => []) s.net.queues c = [])) ∧
  (∃ (d : Nat) (w : Nat × Nat × Nat) (ws : List (Nat × Nat × Nat)) (s : State), (s.dramCh d).writes = w :: ws ∧
     (∀ r ∈ (s.dramCh d).open_, s.idleRows d r = false)) ∧
  (∃ (c : Nat) (f : Nat × NetFrame) (q : List (Nat × NetFrame)) (s : State), smGet (fun _ => []) s.net.queues c =
     f :: q) :=
  ⟨⟨mkS [], by decide⟩,
   ⟨{ State.reset with mgmt := {} }, by decide⟩,
   ⟨⟨0x32, 0x40, 2, 3, false, 0, 0, 0⟩, [], { mkS [(Reg.TALLY_NEXT_SEQ, 0xFFFFFFFF)] with mgmt := { intake := [⟨0x32, 0x40, 2, 3, false, 0, 0, 0⟩] } }, by decide⟩,
   ⟨2, (9, 1, 3), [(10, 1, 3)], { mkS [] with dram := { chans := [(2, { writes := [(9, 1, 3), (10, 1, 3)] })] } }, by decide⟩,
   ⟨1, (0, { fcsOk := true, length := 100, tags := [], dst := 1, src := 5, etherType := 0x88B5, udp := none, trailer := none, ptpType := 0, domain := 0, sdo := 0 }), [], { mkS [] with net := { queues := [(1, [(0, { fcsOk := true, length := 100, tags := [], dst := 1, src := 5, etherType := 0x88B5, udp := none, trailer := none, ptpType := 0, domain := 0, sdo := 0 })])] } }, by decide⟩⟩

theorem witness_StepKeepsInv :
    ∃ (t : State) (s : State), s.Inv ∧ step s = .next t :=
  ⟨{ State.reset with frc := 6, mgmt := {} }, { State.reset with frc := 5, mgmt := {} }, ⟨by constructor <;> decide, by constructor <;> decide⟩, rfl⟩

theorem witness_QueueDrains :
    ∃ (s : State), s.Inv :=
  ⟨{ State.reset with pending := [.forceRelease .ranger 0] }, ⟨by constructor <;> decide, by constructor <;> decide⟩⟩

theorem witness_RegisterAccesses :
  (∃ (src : Req) (a k : Nat) (s : State), s.bar0Down src a = false ∧ s.spot src a = .reg k ∧ accOf k = some .rc ∧
     s.heldValue k = none ∧ k / 0x1000 ≠ Reg.pageMBOX ∧ k / 0x1000 ≠ Reg.pageMBOXS ∧ isLo k = false ∧ isHi k = false ∧
     k ≠ Reg.TIO_CAP_INFO) ∧
  (∃ (src : Req) (a k v : Nat) (s : State), s.bar0Down src a = false ∧ s.spot src a = .reg k ∧
     s.heldValue k = some v ∧ lockNum k = none ∧ isLo k = false ∧ isHi k = false ∧ k ≠ Reg.TIO_CAP_INFO) ∧
  (∃ (src : Req) (a : Nat) (s : State), s.bar0Down src a = true) ∧
  (∃ (src : Req) (a : Nat) (s : State), s.bar0Down src a = false ∧ s.spot src a = .unmapped ∧ src ≠ .pf1) ∧
  (∃ (a : Nat) (s : State), s.spot .pf1 a = .unmapped) ∧
  (∃ (src : Req) (a k : Nat) (s : State), s.bar0Down src a = false ∧ s.spot src a = .reg k ∧ isLo k = true ∧
     k ≠ Reg.TIME_NOW_LO ∧ lockNum k = none) ∧
  (∃ (src : Req) (a k : Nat) (w : Word) (s : State), s.bar0Down src a = false ∧ s.spot src a = .reg k ∧
     isLo k = false ∧ isHi k = true ∧ lockNum k = none ∧ k ≠ Reg.TIO_CAP_INFO ∧ s.readLatch (k / 0x1000) src = some w) ∧
  (∃ (src : Req) (a k data i : Nat) (p : PageType) (s : State), s.bar0Down src a = false ∧ s.spot src a = .reg k ∧
     pageAt (k / 0x1000) = some (p, i) ∧ 0x040 ≤ k % 0x1000 ∧ s.pairMode = false ∧ p ≠ .pair ∧ lockNum k = none ∧
     accOf k = some .rws ∧ s.armedPage (k / 0x1000) = false ∧ s.special src p i k (data % 2 ^ 32) = none ∧
     s.stateFault src p i k = none ∧ isLo k = false ∧ isHi k = false ∧ s.valueFault p i k (data % 2 ^ 32) = none ∧
     p ≠ .enc ∧ p ≠ .cam ∧ s.heldBits src p k = [] ∧ (p ≠ .ch ∨ k % 0x1000 ≠ 0x0C4)) ∧
  (∃ (src : Req) (a k data i : Nat) (p : PageType) (s : State), s.bar0Down src a = false ∧ s.spot src a = .reg k ∧
     pageAt (k / 0x1000) = some (p, i) ∧
     [PageType.sys, .clk, .intc, .line, .apply, .plane, .iommu, .isp, .ispctx, .lamp, .lampseq, .peer, .prp, .time,
     .tio, .dram, .nvs, .fw, .tally].contains p = true ∧ 0x040 ≤ k % 0x1000 ∧ s.pairMode = false ∧
     lockNum k = none ∧ accOf k = some .rw ∧ s.special src p i k (data % 2 ^ 32) = none ∧
     s.stateFault src p i k = none ∧ isLo k = false ∧ isHi k = false ∧ s.valueFault p i k (data % 2 ^ 32) = none) ∧
  (∃ (src : Req) (a page data : Nat) (s : State), s.bar0Down src a = false ∧
     s.spot src a = .reg (Reg.SCRATCH page) ∧ (pageAt page).isSome = true) ∧
  (∃ (src : Req) (a page data i : Nat) (p : PageType) (s : State), s.bar0Down src a = false ∧
     s.spot src a = .reg (Reg.INT_ENABLE page) ∧ pageAt page = some (p, i) ∧ (p ≠ .pair ∨ s.pairMode = true)) ∧
  (∃ (src : Req) (a page data i : Nat) (p : PageType) (hw : Nat) (s : State), s.bar0Down src a = false ∧
     s.spot src a = .reg (Reg.INT_STATUS page) ∧ pageAt page = some (p, i) ∧ (p ≠ .pair ∨ s.pairMode = true) ∧
     p ≠ .stats ∧ (p ≠ .job ∨ s.streaming = false)) ∧
  (∃ (src : Req) (page data i : Nat) (p : PageType) (s : State), s.reaches src page = true ∧
     pageAt page = some (p, i) ∧ (p ≠ .pair ∨ s.pairMode = true)) ∧
  (∃ (src : Req) (a k data i : Nat) (p : PageType) (s : State), s.bar0Down src a = false ∧ s.spot src a = .reg k ∧
     pageAt (k / 0x1000) = some (p, i) ∧ 0x040 ≤ k % 0x1000 ∧ s.pairMode = false ∧ p ≠ .pair ∧ lockNum k = none ∧
     accOf k = some .rw ∧ s.special src p i k (data % 2 ^ 32) = none ∧ s.stateFault src p i k = none ∧ isLo k = true) ∧
  (∃ (src : Req) (a k data i : Nat) (p : PageType) (lo : Word) (s : State), s.bar0Down src a = false ∧
     s.spot src a = .reg k ∧ pageAt (k / 0x1000) = some (p, i) ∧ 0x040 ≤ k % 0x1000 ∧ s.pairMode = false ∧ p ≠ .pair ∧
     lockNum k = none ∧ accOf k = some .rw ∧ s.special src p i k (data % 2 ^ 32) = none ∧
     s.stateFault src p i k = none ∧ isLo k = false ∧ isHi k = true ∧ s.writeLatch (k / 0x1000) src = some lo ∧
     s.valueFault p i (k - 4) lo.toNat = none ∧ s.valueFault p i k (data % 2 ^ 32) = none ∧ isRws k = false ∧
     isRws (k - 4) = false) :=
  ⟨⟨(.crew 0), 0x2001C, 0x2001C, mkS [(0x2001C, 0x10050101)], by decide⟩,
   ⟨(.crew 0), 0x10020, 0x10020, 7, { mkS [(Reg.CTRL Reg.pageLINE, 5)] with frozen := [(0x10020, some 7)] }, by decide⟩,
   ⟨.pf0, 0x10020, { mkS [] with mgmt := { up := false } }, by decide⟩,
   ⟨(.crew 1), 0x6004, mkS [], by decide⟩,
   ⟨0x3004, mkS [], by decide⟩,
   ⟨.ranger, 0x2008C, 0x2008C, mkS [(0x2008C, 5), (0x20090, 7)], by decide⟩,
   ⟨.ranger, 0x20090, 0x20090, 9, (mkS [(0x20090, 7)]).setReadLatch 0x20 .ranger 9, by decide⟩,
   ⟨.ranger, 0x20104, 0x20104, 0x12345678, 0, .ch, mkS [], by decide⟩,
   ⟨.ranger, 0x5048, 0x5048, 0x12345678, 0, .intc, mkS [], by decide⟩,
   ⟨.ranger, 0x1002C, 0x10, 0x12345678, mkS [], by decide⟩,
   ⟨.ranger, 0x10014, 0x10, 0xFFFFFFFF, 0, .line, mkS [], by decide⟩,
   ⟨.ranger, 0x10010, 0x10, 0x300, 0, .line, 0x200, mkS [(0x10010, 0x310)], by decide⟩,
   ⟨.ranger, 0x10, 0x300, 0, .line, mkS [(0x10010, 0x10)], by decide⟩,
   ⟨.ranger, 0xB0100, 0xB0100, 0x12345678, 0, .yard, mkS [], by decide⟩,
   ⟨(.crew 0), 0xB0104, 0xB0104, 7, 0, .yard, 0x1000, (mkS []).setWriteLatch 0xB0 (.crew 0) 0x1000, by decide⟩⟩

theorem witness_RefusedAccesses :
  (∃ (src : Req) (a k data i : Nat) (p : PageType) (s : State), s.bar0Down src a = false ∧ s.spot src a = .reg k ∧
     pageAt (k / 0x1000) = some (p, i) ∧ 0x040 ≤ k % 0x1000 ∧ (p ≠ .pair ∨ s.pairMode = true) ∧ lockNum k = none ∧
     (accOf k = some .ro ∨ accOf k = some .rc) ∧ firmwareOwned src k = false ∧ k / 0x1000 ≠ Reg.pageSYS) ∧
  (∃ (src : Req) (a k data i : Nat) (p : PageType) (s : State), s.bar0Down src a = false ∧ s.spot src a = .reg k ∧
     pageAt (k / 0x1000) = some (p, i) ∧ 0x040 ≤ k % 0x1000 ∧ (p ≠ .pair ∨ s.pairMode = true) ∧ lockNum k = none ∧
     accOf k = some .rwl ∧ s.bit (Reg.CTRL (headerPage (k / 0x1000))) 3 = true ∧ k / 0x1000 ≠ Reg.pageSYS) ∧
  (∃ (src : Req) (a k data i : Nat) (p : PageType) (s : State), s.bar0Down src a = false ∧ s.spot src a = .reg k ∧
     pageAt (k / 0x1000) = some (p, i) ∧ 0x040 ≤ k % 0x1000 ∧ (p ≠ .pair ∨ s.pairMode = true) ∧ lockNum k = none ∧
     accOf k = some .rws ∧ s.armedPage (k / 0x1000) = true ∧ k / 0x1000 ≠ Reg.pageSYS) ∧
  (∃ (src : Req) (a data : Nat) (s : State), s.bar0Down src a = false ∧ s.spot src a = .unmapped ∧ src ≠ .pf1) ∧
  (∃ (i : Instr) (src : Req) (s : State), coreSender i = some src ∧ s.cutOff src = true) ∧
  (∃ (i : Instr) (src : Req) (s : State), wakeSender i = some src ∧ s.asleep src = true) ∧
  (∃ (src : Req) (a data : Nat) (s : State), s.bar0Down src a = true) ∧
  (∃ (src : Req) (a k : Nat) (multi : Bool) (s : State), s.bar0Down src a = false ∧ s.spot src a = .reg k ∧
     k < 0x300000 ∧ k / 0x1000 ≠ Reg.pageSYS) ∧
  (∃ (src : Req) (a k : Nat) (multi : Bool) (s : State), s.bar0Down src a = false ∧ s.spot src a = .reg k) ∧
  (∃ (src : Req) (a b : Nat) (wr multi : Bool) (s : State), s.bar0Down src a = false ∧ s.spot src a = .table b ∧
     (wr && multi) = false) :=
  ⟨⟨.ranger, 0x10070, 0x10070, 5, 0, .line, mkS [], by decide⟩,
   ⟨.ranger, 0xE2040, 0xE2040, 5, 0, .prp, mkS [(0xE2008, 9)], by decide⟩,
   ⟨.ranger, 0x11040, 0x11040, 5, 0, .enc, mkS [(0x11024, 2)], by decide⟩,
   ⟨.ranger, 0x6040, 5, mkS [], by decide⟩,
   ⟨(.runArm .pf0), .pf0, { mkS [] with mgmt := { up := false } }, by decide⟩,
   ⟨(.mbPost .pf1 3), .pf1, { mkS [] with host := { sleep1 := true } }, by decide⟩,
   ⟨.pf0, 0x10040, 5, { mkS [] with mgmt := { up := false } }, by decide⟩,
   ⟨.ranger, 0x10042, 0x10042, true, mkS [], by decide⟩,
   ⟨.ranger, 0x10042, 0x10042, true, mkS [], by decide⟩,
   ⟨.ranger, 0x400001, 0x400001, true, false, mkS [], by decide⟩⟩

theorem witness_ErrorCounts :
    ∃ (src : Req) (a page : Nat) (s : State), s.bar0Down src a = false ∧ s.spot src a = .reg (Reg.ERR_COUNT page) ∧
    (pageAt page).isSome = true ∧ s.heldValue (Reg.ERR_COUNT page) = none :=
  ⟨.ranger, 0x10020, 0x10, mkS [(0x10020, 0x80001234)], by decide⟩

theorem witness_LocksAndMessages :
  (∃ (n : Fin 64) (r : Req) (s : State), s.lockOwner n = 0) ∧
  (∃ (n : Fin 64) (r q : Req) (s : State), s.lockOwner n = 0 ∧ lockOrder.idxOf r < lockOrder.idxOf q) ∧
  (∃ (n : Fin 64) (r : Req) (s : State), s.lockOwner n ≠ 0) ∧
  (∃ (src : Req) (n : Fin 64) (data : Nat) (s : State), s.cutOff src = false ∧ s.lockOwner n = ownerId src ∧
     data % 2 ^ 32 = 0) ∧
  (∃ (src : Req) (n : Fin 64) (data : Nat) (s : State), s.cutOff src = false ∧
     (s.lockOwner n ≠ ownerId src ∨ data % 2 ^ 32 ≠ 0)) ∧
  (∃ (data : Nat) (s : State), fld data 31 16 = 0xA5C3) ∧
  (∃ (src : Req) (data : Nat) (s : State), s.cutOff src = false ∧ (src ≠ .ranger ∨ fld data 31 16 ≠ 0xA5C3)) ∧
  (∃ (v t : Nat) (s : State), v < 80 ∧ (s.till t).vectorOwes v = true ∧ s.vectorOpen v = true) ∧
  (∃ (v t : Nat) (s : State), (80 ≤ v ∨ (s.till t).vectorOwes v = false ∨ s.vectorOpen v = false)) ∧
  (∃ (pf1 : Bool) (vec v : Nat) (s : State), (v = if pf1 = true then 64 + vec % 16 else vec % 64) ∧
     (s.vectorActive v = false ∨ s.vectorOpen v = false)) ∧
  (∃ (pf1 : Bool) (vec v : Nat) (s : State), (v = if pf1 = true then 64 + vec % 16 else vec % 64) ∧
     s.vectorActive v = true ∧ s.vectorOpen v = true ∧ (s.vector v).last = none) :=
  ⟨⟨3, (.crew 2), mkS [], by decide⟩,
   ⟨3, (.crew 2), .pf0, mkS [], by decide⟩,
   ⟨3, (.crew 2), { mkS [] with locks := [(3, 0x20)] }, by decide⟩,
   ⟨.ranger, 3, 0, { mkS [] with locks := [(3, 0x20)] }, by decide⟩,
   ⟨.pf1, 3, 0, { mkS [] with locks := [(3, 0x20)] }, by decide⟩,
   ⟨0xA5C30003, { mkS [] with locks := [(3, 0x20)] }, by decide⟩,
   ⟨.pf0, 0xA5C30003, { mkS [] with locks := [(3, 0x20)] }, by decide⟩,
   ⟨5, 10, { mkS [(0x30005C, 0), (Reg.INTC_VEC_MAP 4, 0x850000), (Reg.INTC_GROUP_MASK0, 0), (0x20010, 0x100), (0x20014, 0x100), (Reg.INTC_VEC_MAP 4, 0x8585)] with host := { fn0 := { msix := true } } }, by decide⟩,
   ⟨5, 10, mkS [], by decide⟩,
   ⟨false, 5, 5, { mkS [] with msix := [(5, { sent := true, last := some 3 })] }, by decide⟩,
   ⟨false, 5, 5, { mkS [(0x30005C, 0), (Reg.INTC_VEC_MAP 4, 0x8585), (Reg.INTC_GROUP_MASK0, 0), (0x20010, 0x100), (0x20014, 0x100)] with msix := [(5, { sent := true })], host := { fn0 := { msix := true } } }, by decide⟩⟩

theorem witness_LockArbitration :
    ∃ (n : Fin 64) (w : Req) (readers : List Req) (s : State), s.lockOwner n = 0 ∧
    (∀ r ∈ readers, s.cutOff r = false) ∧ w ∈ readers ∧ (∀ r ∈ readers, lockOrder.idxOf w ≤ lockOrder.idxOf r) :=
  ⟨3, (.crew 2), [.pf0, .crew 2, .peer], mkS [], by decide⟩

theorem witness_LaneTransitions :
  (∃ (c : Fin 128) (cause : Nat) (s : State), (s.lane c).rateUp = false ∧ s.attempt c < s.trainAttempts c) ∧
  (∃ (c : Fin 128) (cause : Nat) (s : State), ((s.lane c).rateUp = true ∨ s.trainAttempts c ≤ s.attempt c) ∧
     s.laneHalf c = false) ∧
  (∃ (c : Fin 128) (cause : Nat) (s : State), (s.lane c).rateUp = false ∧ s.trainAttempts c ≤ s.attempt c ∧
     s.laneHalf c = true) ∧
  (∃ (c : Fin 128) (s : State), s.laneActive c = true) ∧
  (∃ (c : Fin 128) (up : Bool) (s : State), s.pairMode = false ∧
     (up = true ∨ s.printing = false ∨ s.bit (Reg.CH_LINK_CFG c) 2 = true)) ∧
  (∃ (c : Fin 128) (s : State), s.pairMode = false ∧ s.printing = true ∧ s.bit (Reg.CH_LINK_CFG c) 2 = false) :=
  ⟨⟨3, 1, mkS [(Reg.CH_LINK_STATUS 3, 0x00010002), (Reg.CH_LINK_CFG 3, 0x30)], by decide⟩,
   ⟨3, 1, mkS [(Reg.CH_LINK_STATUS 3, 0x00030002), (Reg.CH_LINK_CFG 3, 0x30)], by decide⟩,
   ⟨3, 1, mkS [(Reg.CH_LINK_STATUS 3, 0x00030012), (Reg.CH_LINK_CFG 3, 0x30)], by decide⟩,
   ⟨3, mkS [(Reg.CH_LINK_STATUS 3, 0x85)], by decide⟩,
   ⟨3, true, mkS [(Reg.CH_LINK_STATUS 3, 5)], by decide⟩,
   ⟨3, mkS [(Reg.CH_LINK_STATUS 3, 5), (Reg.STATUS Reg.pageLINE, 0x20)], by decide⟩⟩

set_option Elab.async false in
theorem witness_LaneTraining :
  (∃ (c : Fin 128) (d : Bool) (t : Nat) (s : State), s.laneSt c ≠ 1 ∧ s.laneSt c ≠ 7) ∧
  (∃ (c : Fin 128) (t : Nat) (s : State), s.laneSt c = 1 ∧ 1 ≤ (s.lane c).present ∧
     s.bit Reg.PWR_HEAD_PWR_STATUS (c / 16) = true) ∧
  (∃ (c : Fin 128) (t : Nat) (s : State), s.laneSt c = 1 ∧
     ((s.lane c).present = 0 ∨ s.bit Reg.PWR_HEAD_PWR_STATUS (c / 16) = false)) ∧
  (∃ (c : Fin 128) (t : Nat) (s : State), s.laneSt c = 7 ∧ ((s.lane c).present = 0 ∨ (s.lane c).sawAbsent = false)) ∧
  (∃ (c : Fin 128) (t : Nat) (s : State), ((s.laneSt c = 1 ∧
     s.bit Reg.PWR_HEAD_PWR_STATUS (c / 16) = false) ∨ (s.laneSt c = 7 ∧ (s.lane c).sawAbsent = false)) ∧
     (s.lane c).present = 2 ∧ (s.lane c).absent = 0) ∧
  (∃ (c : Fin 128) (t : Nat) (s : State), (s.laneSt c = 1 ∨ s.laneSt c = 7) ∧
     (1 ≤ (s.lane c).absent ∨ (s.lane c).present < 2)) ∧
  (∃ (c : Fin 128) (t : Nat) (s : State), s.laneSt c = 7 ∧ 1 ≤ (s.lane c).present ∧ (s.lane c).sawAbsent = true) ∧
  (∃ (c : Fin 128) (field : Nat) (inv : Bool) (eye : Option (Fin 256)) (s : State), crc8Ok field = true ∧
     ((s.laneSt c = 2 ∧ (s.lane c).rateIdle = false) ∨ s.laneSt c = 6)) ∧
  (∃ (c : Fin 128) (field : Nat) (inv : Bool) (eye : Option (Fin 256)) (s : State), crc8Ok field = true ∧
     s.laneSt c = 3 ∧ (bitOf field 12 = false ∨ s.bit (Reg.CH_LINK_STATUS c) 6 = true)) ∧
  (∃ (c : Fin 128) (field : Nat) (inv : Bool) (eye : Option (Fin 256)) (s : State), s.laneSt c = 3 ∧
     bitOf field 12 = true ∧ s.bit (Reg.CH_LINK_STATUS c) 6 = false) ∧
  (∃ (c : Fin 128) (field : Nat) (inv : Bool) (eye : Option (Fin 256)) (s : State), s.laneSt c ≠ 2 ∧
     s.laneSt c ≠ 3 ∧ s.laneSt c ≠ 6) ∧
  (∃ (c : Fin 128) (field : Nat) (inv : Bool) (eye : Option (Fin 256)) (s : State), s.laneSt c = 2 ∧
     (s.lane c).rateIdle = true) ∧
  (∃ (c : Fin 128) (field : Nat) (inv : Bool) (eye : Option (Fin 256)) (s : State), crc8Ok field = false ∧
     s.laneSt c ≠ 2 ∧ s.laneSt c ≠ 6) ∧
  (∃ (c : Fin 128) (field : Nat) (inv : Bool) (eye : Option (Fin 256)) (s : State), crc8Ok field = false ∧
     (s.laneSt c = 2 ∨ s.laneSt c = 6)) ∧
  (∃ (c : Fin 128) (s : State), s.laneSt c = 2 ∧ (s.lane c).rateIdle = false) ∧
  (∃ (c : Fin 128) (t : Nat) (s : State), ((s.laneSt c = 2 ∧ (s.lane c).rateIdle = false) ∨ s.laneSt c = 6)) ∧
  (∃ (c : Fin 128) (t : Nat) (s : State), s.laneSt c ≠ 6 ∧ (s.laneSt c ≠ 2 ∨ (s.lane c).rateIdle = true)) ∧
  (∃ (c : Fin 128) (s : State), s.laneSt c = 2 ∧ (s.lane c).rateIdle = true) ∧
  (∃ (c : Fin 128) (s : State), s.laneSt c = 2 ∧ (s.lane c).rateIdle = false) ∧
  (∃ (c : Fin 128) (s : State), s.laneSt c = 4 ∧ ((s.lane c).held = true ∨ (s.lane c).heldPair = true)) ∧
  (∃ (c : Fin 128) (s : State), s.laneSt c = 2 ∧ (s.lane c).rateIdle = true) ∧
  (∃ (c : Fin 128) (s : State), s.laneSt c = 3) ∧
  (∃ (c : Fin 128) (s : State), s.laneSt c = 4 ∧ (s.lane c).held = false ∧ (s.lane c).heldPair = false) ∧
  (∃ (c : Fin 128) (s : State), s.laneSt c = 6) ∧
  (∃ (c : Fin 128) (s : State), s.laneSt c ≠ 2) ∧
  (∃ (c : Fin 128) (s : State), s.laneSt c ≠ 3) ∧
  (∃ (c : Fin 128) (s : State), s.laneSt c ≠ 4) ∧
  (∃ (c : Fin 128) (s : State), s.laneSt c ≠ 6) ∧
  (∃ (c : Fin 128) (s : State), s.laneSt c ≠ 2) :=
  ⟨⟨3, true, 5, mkS [(Reg.CH_LINK_STATUS 3, 5)], by decide⟩,
   ⟨3, 7, { mkS [(Reg.CH_LINK_STATUS 3, 1), (Reg.PWR_HEAD_PWR_STATUS, 1)] with lanes := [(3, { present := 1 })] }, by decide⟩,
   ⟨3, 7, mkS [(Reg.CH_LINK_STATUS 3, 1)], by decide⟩,
   ⟨3, 7, mkS [(Reg.CH_LINK_STATUS 3, 7)], by decide⟩,
   ⟨3, 7, { mkS [(Reg.CH_LINK_STATUS 3, 7)] with lanes := [(3, { present := 2 })] }, by decide⟩,
   ⟨3, 7, mkS [(Reg.CH_LINK_STATUS 3, 7)], by decide⟩,
   ⟨3, 7, { mkS [(Reg.CH_LINK_STATUS 3, 7)] with lanes := [(3, { present := 1, sawAbsent := true })] }, by decide⟩,
   ⟨3, 0, false, none, mkS [(Reg.CH_LINK_STATUS 3, 6)], by decide +kernel⟩,
   ⟨3, 0, false, none, mkS [(Reg.CH_LINK_STATUS 3, 3)], by decide +kernel⟩,
   ⟨3, (withCrc8 4096), false, none, mkS [(Reg.CH_LINK_STATUS 3, 3)], by decide +kernel⟩,
   ⟨3, 0, false, none, mkS [(Reg.CH_LINK_STATUS 3, 5)], by decide⟩,
   ⟨3, 0, false, none, { mkS [(Reg.CH_LINK_STATUS 3, 2)] with lanes := [(3, { rateIdle := true })] }, by decide⟩,
   ⟨3, 1, false, none, mkS [(Reg.CH_LINK_STATUS 3, 3)], by decide +kernel⟩,
   ⟨3, 1, false, none, mkS [(Reg.CH_LINK_STATUS 3, 2)], by decide +kernel⟩,
   ⟨3, mkS [(Reg.CH_LINK_STATUS 3, 2)], by decide⟩,
   ⟨3, 5, mkS [(Reg.CH_LINK_STATUS 3, 6)], by decide⟩,
   ⟨3, 5, mkS [(Reg.CH_LINK_STATUS 3, 5)], by decide⟩,
   ⟨3, { mkS [(Reg.CH_LINK_STATUS 3, 2)] with lanes := [(3, { rateIdle := true })] }, by decide⟩,
   ⟨3, mkS [(Reg.CH_LINK_STATUS 3, 2)], by decide⟩,
   ⟨3, { mkS [(Reg.CH_LINK_STATUS 3, 4)] with lanes := [(3, { held := true })] }, by decide⟩,
   ⟨3, { mkS [(Reg.CH_LINK_STATUS 3, 2)] with lanes := [(3, { rateIdle := true })] }, by decide⟩,
   ⟨3, mkS [(Reg.CH_LINK_STATUS 3, 3)], by decide⟩,
   ⟨3, mkS [(Reg.CH_LINK_STATUS 3, 4)], by decide⟩,
   ⟨3, mkS [(Reg.CH_LINK_STATUS 3, 6)], by decide⟩,
   ⟨3, mkS [(Reg.CH_LINK_STATUS 3, 5)], by decide⟩,
   ⟨3, mkS [(Reg.CH_LINK_STATUS 3, 5)], by decide⟩,
   ⟨3, mkS [(Reg.CH_LINK_STATUS 3, 5)], by decide⟩,
   ⟨3, mkS [(Reg.CH_LINK_STATUS 3, 5)], by decide⟩,
   ⟨3, mkS [(Reg.CH_LINK_STATUS 3, 5)], by decide⟩⟩

theorem witness_LaneCommands :
  (∃ (c : Fin 128) (eye : Fin 256) (s : State), s.laneActive c = true ∧ s.eyePass c ≤ eye.val) ∧
  (∃ (c : Fin 128) (eye : Fin 256) (s : State), s.laneActive c = true ∧ eye.val < s.eyePass c ∧
     (s.lane c).lowEyes = 0) ∧
  (∃ (c : Fin 128) (eye : Fin 256) (s : State), s.laneActive c = true ∧ eye.val < s.eyePass c ∧
     2 ≤ (s.lane c).lowEyes) ∧
  (∃ (c : Fin 128) (n : Nat) (s : State), s.bit (Reg.CH_LINK_STATUS c) 6 = true ∧
     (s.laneActive c = false ∨ n ≤ s.rdF (Reg.CH_LINK_CFG c) 23 16)) ∧
  (∃ (c : Fin 128) (n : Nat) (s : State), s.bit (Reg.CH_LINK_STATUS c) 6 = false) ∧
  (∃ (c : Fin 128) (n : Nat) (s : State), s.bit (Reg.CH_LINK_STATUS c) 6 = true ∧ s.laneActive c = true ∧
     s.rdF (Reg.CH_LINK_CFG c) 23 16 < n) ∧
  (∃ (p : Fin 2) (l : Fin 4) (n : Nat) (s : State), (s.camPort p).locked.contains l.val = true) ∧
  (∃ (p : Fin 2) (l : Fin 4) (n : Nat) (s : State), (s.camPort p).locked.contains l.val = false) ∧
  (∃ (p : Fin 3) (l : Fin 4) (n : Nat) (s : State), s.bit (Reg.PEER_PORT_STATUS p) l = true) ∧
  (∃ (p : Fin 3) (l : Fin 4) (n : Nat) (s : State), s.bit (Reg.PEER_PORT_STATUS p) l = false) ∧
  (∃ (c : Fin 128) (eye : Fin 256) (s : State), s.laneActive c = false) ∧
  (∃ (c : Fin 128) (eye : Fin 256) (s : State), s.laneActive c = true ∧ eye.val < s.eyePass c ∧
     (s.lane c).lowEyes = 1) ∧
  (∃ (src : Req) (c : Fin 128) (s : State), s.cutOff src = false ∧ s.bit (Reg.CH_CH_CTRL c) 0 = false) ∧
  (∃ (src : Req) (c : Fin 128) (s : State), s.cutOff src = false ∧ s.bit (Reg.CH_CH_CTRL c) 0 = true) ∧
  (∃ (src : Req) (c : Fin 128) (s : State), s.cutOff src = false ∧ s.bit (Reg.CH_CH_CTRL c) 0 = true ∧
     s.laneSt c = 0) ∧
  (∃ (src : Req) (c : Fin 128) (s : State), s.cutOff src = false ∧ s.bit (Reg.CH_CH_CTRL c) 0 = false ∧
     s.laneActive c = true) ∧
  (∃ (src : Req) (c : Fin 128) (t : Nat) (s : State), s.cutOff src = false ∧ s.bit (Reg.CH_CH_CTRL c) 0 = false ∧
     s.laneSt c ≠ 0) ∧
  (∃ (src : Req) (c : Fin 128) (s : State), s.cutOff src = false ∧ s.bit (Reg.CH_CH_CTRL c) 0 = false ∧
     s.laneActive c = true ∧ s.laneHalf c = true ∧ s.rateMaxHalf c = false) ∧
  (∃ (src : Req) (c : Fin 128) (s : State), s.cutOff src = false ∧ s.bit (Reg.CH_CH_CTRL c) 0 = true) ∧
  (∃ (src : Req) (c : Fin 128) (s : State), s.cutOff src = false ∧ s.bit (Reg.CH_CH_CTRL c) 0 = true) ∧
  (∃ (src : Req) (c : Fin 128) (t : Nat) (s : State), s.cutOff src = false ∧ s.bit (Reg.CH_CH_CTRL c) 0 = true) ∧
  (∃ (src : Req) (c : Fin 128) (s : State), s.cutOff src = false ∧ s.bit (Reg.CH_CH_CTRL c) 0 = false) ∧
  (∃ (src : Req) (c : Fin 128) (s : State), s.cutOff src = false ∧ s.bit (Reg.CH_CH_CTRL c) 0 = false ∧
     s.laneActive c = false) ∧
  (∃ (src : Req) (c : Fin 128) (t : Nat) (s : State), s.cutOff src = false ∧ s.bit (Reg.CH_CH_CTRL c) 0 = false ∧
     s.laneSt c = 0) ∧
  (∃ (src : Req) (c : Fin 128) (s : State), s.cutOff src = false ∧ s.bit (Reg.CH_CH_CTRL c) 0 = false ∧
     (s.laneActive c = false ∨ s.laneHalf c = false ∨ s.rateMaxHalf c = true)) :=
  ⟨⟨3, 200, mkS [(Reg.CH_LINK_STATUS 3, 5)], by decide⟩,
   ⟨3, 2, mkS [(Reg.CH_LINK_STATUS 3, 5), (Reg.CH_LINK_CFG 3, 0x3030)], by decide⟩,
   ⟨3, 2, { mkS [(Reg.CH_LINK_STATUS 3, 5), (Reg.CH_LINK_CFG 3, 0x3030)] with lanes := [(3, { lowEyes := 2 })] }, by decide⟩,
   ⟨3, 2, mkS [(Reg.CH_LINK_STATUS 3, 0x45), (Reg.CH_LINK_CFG 3, 0x100030)], by decide⟩,
   ⟨3, 200, mkS [(Reg.CH_LINK_STATUS 3, 3)], by decide⟩,
   ⟨3, 200, mkS [(Reg.CH_LINK_STATUS 3, 0x45), (Reg.CH_LINK_CFG 3, 0x100030)], by decide⟩,
   ⟨1, 2, 5, { mkS [] with cam := { ports := [(1, { locked := [2] })] } }, by decide⟩,
   ⟨1, 2, 5, mkS [], by decide⟩,
   ⟨1, 2, 5, mkS [(Reg.PEER_PORT_STATUS 1, 4)], by decide⟩,
   ⟨1, 2, 5, mkS [], by decide⟩,
   ⟨3, 2, mkS [(Reg.CH_LINK_STATUS 3, 4)], by decide⟩,
   ⟨3, 2, { mkS [(Reg.CH_LINK_STATUS 3, 5), (Reg.CH_LINK_CFG 3, 0x3030)] with lanes := [(3, { lowEyes := 1 })] }, by decide⟩,
   ⟨.pf0, 3, mkS [(Reg.CH_CH_CTRL 3, 0)], by decide⟩,
   ⟨.pf0, 3, mkS [(Reg.CH_CH_CTRL 3, 1)], by decide⟩,
   ⟨.pf0, 3, mkS [(Reg.CH_CH_CTRL 3, 1), (Reg.CH_LINK_STATUS 3, 0)], by decide⟩,
   ⟨.pf0, 3, mkS [(Reg.CH_CH_CTRL 3, 0), (Reg.CH_LINK_STATUS 3, 5)], by decide⟩,
   ⟨.pf0, 3, 9, mkS [(Reg.CH_CH_CTRL 3, 0), (Reg.CH_LINK_STATUS 3, 5)], by decide⟩,
   ⟨.pf0, 3, mkS [(Reg.CH_CH_CTRL 3, 0), (Reg.CH_LINK_STATUS 3, 0x15), (Reg.CH_LINK_CFG 3, 0)], by decide⟩,
   ⟨.pf0, 3, mkS [(Reg.CH_CH_CTRL 3, 1)], by decide⟩,
   ⟨.pf0, 3, mkS [(Reg.CH_CH_CTRL 3, 1)], by decide⟩,
   ⟨.pf0, 3, 9, mkS [(Reg.CH_CH_CTRL 3, 1)], by decide⟩,
   ⟨.pf0, 3, mkS [(Reg.CH_CH_CTRL 3, 0)], by decide⟩,
   ⟨.pf0, 3, mkS [(Reg.CH_CH_CTRL 3, 0), (Reg.CH_LINK_STATUS 3, 4)], by decide⟩,
   ⟨.pf0, 3, 9, mkS [(Reg.CH_CH_CTRL 3, 0), (Reg.CH_LINK_STATUS 3, 0)], by decide⟩,
   ⟨.pf0, 3, mkS [(Reg.CH_CH_CTRL 3, 0), (Reg.CH_LINK_STATUS 3, 5), (Reg.CH_LINK_CFG 3, 0)], by decide⟩⟩

theorem witness_HeadHelloExchange :
  (∃ (c : Fin 128) (h : HeadHello) (t : Nat) (s : State), s.laneTalks c = true) ∧
  (∃ (c : Fin 128) (h : HeadHello) (t : Nat) (s : State), s.laneSt c ≠ 4 ∧ s.laneSt c ≠ 5) ∧
  (∃ (c : Fin 128) (h : HeadHello) (t : Nat) (s : State), s.laneSt c = 4 ∧ s.compatible c h = false) ∧
  (∃ (c : Fin 128) (h : HeadHello) (t : Nat) (s : State), s.laneSt c = 4 ∧ s.compatible c h = true ∧
     ((s.lane c).ident = none ∨ (s.lane c).ident = some (h.vendor, h.model, h.serial)) ∧ s.holdsForPair = false ∧
     h.ack = false ∧ (s.lane c).headAcked = false) ∧
  (∃ (c : Fin 128) (h : HeadHello) (t : Nat) (s : State), s.laneSt c = 4 ∧ s.compatible c h = true ∧
     ((s.lane c).ident = none ∨ (s.lane c).ident = some (h.vendor, h.model, h.serial)) ∧ s.holdsForPair = false ∧
     (h.ack = true ∨ (s.lane c).headAcked = true)) ∧
  (∃ (c : Fin 128) (h : HeadHello) (t : Nat) (s : State), s.laneSt c = 4 ∧ s.compatible c h = true ∧
     (s.lane c).ident.isSome = true ∧ (s.lane c).ident ≠ some (h.vendor, h.model, h.serial) ∧
     s.bit (Reg.CH_LINK_CFG c) 3 = true ∧ (s.lane c).accepted = false) ∧
  (∃ (src : Req) (c : Fin 128) (h : HeadHello) (t : Nat) (s : State), s.cutOff src = false ∧
     s.bit (Reg.CH_CH_CTRL c) 0 = false ∧ s.laneSt c = 4 ∧ (s.lane c).held = true ∧ (s.lane c).heldPair = false ∧
     (s.lane c).hello = some h ∧ (s.lane c).headAcked = false) ∧
  (∃ (c : Fin 128) (s : State), s.laneSt c = 4 ∧ (s.lane c).held = false ∧ (s.lane c).heldPair = false) ∧
  (∃ (c : Fin 128) (s : State), (s.laneSt c ≠ 4 ∨ (s.lane c).held = true ∨ (s.lane c).heldPair = true)) ∧
  (∃ (c : Fin 128) (s : State), s.laneActive c = true ∧ s.line.portStop.contains c.val = true) :=
  ⟨⟨3, { version := 0x10, ack := false, vendor := 1, model := 2, serial := 3, nozzles := 6144, formats := 7, port := 0, buffer := 64, tableMax := 100, eyePass := 48, maxRate := 80000 }, 9, mkS [(Reg.CH_LINK_STATUS 3, 5)], by decide⟩,
   ⟨3, { version := 0x10, ack := false, vendor := 1, model := 2, serial := 3, nozzles := 6144, formats := 7, port := 0, buffer := 64, tableMax := 100, eyePass := 48, maxRate := 80000 }, 9, mkS [], by decide⟩,
   ⟨3, { version := 0x10, ack := false, vendor := 1, model := 2, serial := 3, nozzles := 6143, formats := 7, port := 0, buffer := 64, tableMax := 100, eyePass := 48, maxRate := 80000 }, 9, mkS [(Reg.CH_LINK_STATUS 3, 4)], by decide⟩,
   ⟨3, { version := 0x10, ack := false, vendor := 1, model := 2, serial := 3, nozzles := 6144, formats := 7, port := 0, buffer := 64, tableMax := 100, eyePass := 48, maxRate := 80000 }, 9, mkS [(Reg.CH_LINK_STATUS 3, 4)], by decide⟩,
   ⟨3, { version := 0x10, ack := true, vendor := 1, model := 2, serial := 3, nozzles := 6144, formats := 7, port := 0, buffer := 64, tableMax := 100, eyePass := 48, maxRate := 80000 }, 9, mkS [(Reg.CH_LINK_STATUS 3, 4)], by decide⟩,
   ⟨3, { version := 0x10, ack := false, vendor := 1, model := 2, serial := 3, nozzles := 6144, formats := 7, port := 0, buffer := 64, tableMax := 100, eyePass := 48, maxRate := 80000 }, 9, { mkS [(Reg.CH_LINK_STATUS 3, 4), (Reg.CH_LINK_CFG 3, 0x3038)] with lanes := [(3, { ident := some (1, 1, 1) })] }, by decide⟩,
   ⟨.pf0, 3, { version := 0x10, ack := false, vendor := 1, model := 2, serial := 3, nozzles := 6144, formats := 7, port := 0, buffer := 64, tableMax := 100, eyePass := 48, maxRate := 80000 }, 9, { mkS [(Reg.CH_LINK_STATUS 3, 4), (Reg.CH_CH_CTRL 3, 0)] with lanes := [(3, { held := true, hello := some { version := 0x10, ack := false, vendor := 1, model := 2, serial := 3, nozzles := 6144, formats := 7, port := 0, buffer := 64, tableMax := 100, eyePass := 48, maxRate := 80000 } })] }, by decide⟩,
   ⟨3, mkS [(Reg.CH_LINK_STATUS 3, 4)], by decide⟩,
   ⟨3, mkS [], by decide⟩,
   ⟨3, { mkS [(Reg.CH_LINK_STATUS 3, 5)] with line := { portStop := [3] } }, by decide⟩⟩

theorem witness_HeadStatusAndTables :
  (∃ (c : Fin 128) (st : HeadStatus) (s : State), s.laneActive c = true ∧
     (st.retrainReq = false ∨ s.retrainPending c = true)) ∧
  (∃ (c : Fin 128) (st : HeadStatus) (s : State), s.laneActive c = true ∧ st.retrainReq = true ∧
     s.retrainPending c = false ∧ s.pairMode = false ∧ s.printing = true ∧ s.bit (Reg.CH_LINK_CFG c) 2 = false) ∧
  (∃ (c : Fin 128) (st : HeadStatus) (s : State), s.laneActive c = false) ∧
  (∃ (c : Fin 128) (s : State), s.laneActive c = true) ∧
  (∃ (src : Req) (c : Fin 128) (t : Nat) (s : State), s.cutOff src = false ∧ s.laneTalks c = true) ∧
  (∃ (c : Fin 128) (t : Nat) (s : State), s.laneTalks c = true ∧ s.bit (Reg.CH_PROTO_CFG c) 0 = true) ∧
  (∃ (c : Fin 128) (seq turnaround t : Nat) (s : State), (s.lane c).echoes.find? (fun e => e.1 == seq % 256) = none) ∧
  (∃ (c : Fin 128) (t : Nat) (s : State), s.bit (Reg.CH_PROTO_CFG c) 0 = false) ∧
  (∃ (c : Fin 128) (seq turnaround t t0 : Nat) (s : State), (s.lane c).echoes.find? (fun e => e.1 == seq % 256) =
     some (seq % 256, t0)) ∧
  (∃ (c : Fin 128) (s : State), (s.lane c).echoes ≠ []) ∧
  (∃ (c : Fin 128) (s : State), (s.lane c).echoes = []) ∧
  (∃ (src : Req) (c : Fin 128) (s : State), s.cutOff src = false ∧ s.tableRefusal src c = none ∧
     s.tablePoisoned c = false ∧ s.laneTalks c = true) ∧
  (∃ (src : Req) (c : Fin 128) (s : State), s.cutOff src = false ∧ s.tableRefusal src c = none ∧
     s.tablePoisoned c = true) ∧
  (∃ (src : Req) (c : Fin 128) (code : Nat) (s : State), s.cutOff src = false ∧ s.tableRefusal src c = some code ∧
     code ≠ 0x01A3) ∧
  (∃ (src : Req) (c : Fin 128) (s : State), s.cutOff src = false ∧ s.tableRefusal src c = some 0x01A3) ∧
  (∃ (c : Fin 128) (s : State), s.rdF (Reg.CH_TABLE_STATUS c) 2 0 = 2) :=
  ⟨⟨3, { port := 0, retrainReq := false, fault := true, halted := false, aborted := false, temp := 300, tableSeq := 0, tableResult := 0, period := 12345, counters := [1, 2, 3, 4, 5, 6, 7, 8, 9, 10, 11], tickSkew := 9 }, mkS [(Reg.CH_LINK_STATUS 3, 5)], by decide⟩,
   ⟨3, { port := 0, retrainReq := true, fault := true, halted := false, aborted := false, temp := 300, tableSeq := 0, tableResult := 0, period := 12345, counters := [1, 2, 3, 4, 5, 6, 7, 8, 9, 10, 11], tickSkew := 9 }, mkS [(Reg.CH_LINK_STATUS 3, 5), (Reg.STATUS Reg.pageLINE, 0x20)], by decide⟩,
   ⟨3, { port := 0, retrainReq := false, fault := true, halted := false, aborted := false, temp := 300, tableSeq := 0, tableResult := 0, period := 12345, counters := [1, 2, 3, 4, 5, 6, 7, 8, 9, 10, 11], tickSkew := 9 }, mkS [], by decide⟩,
   ⟨3, mkS [(Reg.CH_LINK_STATUS 3, 5)], by decide⟩,
   ⟨.pf0, 3, 100, mkS [(Reg.CH_LINK_STATUS 3, 5)], by decide⟩,
   ⟨3, 100, mkS [(Reg.CH_LINK_STATUS 3, 5), (Reg.CH_PROTO_CFG 3, 1)], by decide⟩,
   ⟨3, 0, 100, 500, mkS [], by decide⟩,
   ⟨3, 100, mkS [(Reg.CH_PROTO_CFG 3, 0)], by decide⟩,
   ⟨3, 0, 100, 500, 20, { mkS [(Reg.CH_LINK_STATUS 3, 5)] with lanes := [(3, { echoes := [(0, 20)] })] }, by decide⟩,
   ⟨3, { mkS [(Reg.CH_LINK_STATUS 3, 5)] with lanes := [(3, { echoes := [(0, 20)] })] }, by decide⟩,
   ⟨3, mkS [], by decide⟩,
   ⟨.pf0, 3, mkS [(Reg.CH_LINK_STATUS 3, 5), (Reg.CH_HEAD_CAPS 3, 0x640000), (Reg.CH_TABLE_CMD 3, 0x10002), (Reg.YARD_REG_SIZE 0, 16)], by decide⟩,
   ⟨.pf0, 3, { mkS [(Reg.CH_LINK_STATUS 3, 5), (Reg.CH_HEAD_CAPS 3, 0x640000), (Reg.CH_TABLE_CMD 3, 0x10002), (Reg.YARD_REG_SIZE 0, 16)] with dram := { poisoned := [0] } }, by decide⟩,
   ⟨.pf0, 3, 0x1A4, mkS [], by decide⟩,
   ⟨.pf0, 3, mkS [(Reg.CH_LINK_STATUS 3, 5), (Reg.CH_TABLE_STATUS 3, 2)], by decide⟩,
   ⟨3, mkS [(Reg.CH_TABLE_STATUS 3, 2)], by decide⟩⟩

theorem witness_ApertureCommands :
  (∃ (src : Req) (a data k : Nat) (s : State), s.bar0Down src a = false ∧ s.spot src a = .table a ∧
     tableWord a = .nozzle k ∧ s.pairMode = false ∧ s.targetBusy 1 (k / 6144) = false) ∧
  (∃ (src : Req) (a data k : Nat) (s : State), s.bar0Down src a = false ∧ s.spot src a = .table a ∧
     tableWord a = .tone k ∧ s.pairMode = false ∧ s.targetBusy 2 (k / 256) = false) ∧
  (∃ (src : Req) (a data k : Nat) (s : State), s.bar0Down src a = false ∧ s.spot src a = .table a ∧
     tableWord a = .dmap k ∧ s.pairMode = false ∧ s.targetBusy 3 k = false) ∧
  (∃ (src : Req) (a data k : Nat) (s : State), s.bar0Down src a = false ∧ s.spot src a = .table a ∧
     tableWord a = .kerf k ∧ s.pairMode = false ∧ s.targetBusy 6 (k / 6144) = false) ∧
  (∃ (src : Req) (a data k : Nat) (s : State), s.bar0Down src a = false ∧ s.spot src a = .table a ∧
     tableWord a = .curve k) ∧
  (∃ (src : Req) (a data k : Nat) (s : State), s.bar0Down src a = false ∧ s.spot src a = .table a ∧
     tableWord a = .bin k) ∧
  (∃ (src : Req) (a data x w : Nat) (s : State), s.bar0Down src a = false ∧ s.spot src a = .table a ∧
     tableWord a = .isp x w ∧ s.bit (Reg.ISPCTX_TABLE_STATE x) 0 = false) ∧
  (∃ (src : Req) (a data k : Nat) (s : State), s.bar0Down src a = false ∧ s.spot src a = .table a ∧
     tableWord a = .nozzle k ∧ s.pairMode = false ∧ s.targetBusy 1 (k / 6144) = true) ∧
  (∃ (src : Req) (a data k : Nat) (s : State), s.bar0Down src a = false ∧ s.spot src a = .table a ∧
     tableWord a = .nozzleActive k) ∧
  (∃ (src : Req) (a data k : Nat) (s : State), s.bar0Down src a = false ∧ s.spot src a = .table a ∧ 0xC00000 ≤ a ∧
     a < 0xD00000 ∧ s.pairMode = false ∧ k = (a - 0xC00000) / 4 * 2 ∧ s.runSt = 0) ∧
  (∃ (src : Req) (a data k : Nat) (s : State), s.bar0Down src a = false ∧ s.spot src a = .table a ∧ 0xC00000 ≤ a ∧
     a < 0xD00000 ∧ s.pairMode = false ∧ k = (a - 0xC00000) / 4 * 2 ∧ s.runSt ≠ 0) :=
  ⟨⟨.ranger, 0x400010, 0x12345678, 4, mkS [], by decide⟩,
   ⟨.ranger, 0xD00010, 0x12345678, 8, mkS [], by decide⟩,
   ⟨.ranger, 0xD10010, 0x12345678, 4, mkS [], by decide⟩,
   ⟨.ranger, 0xD20010, 0x12345678, 4, mkS [], by decide⟩,
   ⟨.ranger, 0xF00010, 0x12345678, 8, mkS [], by decide⟩,
   ⟨.ranger, 0xF20010, 0x12345678, 4, mkS [], by decide⟩,
   ⟨.ranger, 0xE00010, 0x12345678, 0, 4, mkS [], by decide⟩,
   ⟨.ranger, 0x400010, 0x12345678, 4, mkS [(Reg.APPLY_SLOT_STATUS 2, 1), (Reg.APPLY_SLOT_ACTION 2, 1), (Reg.APPLY_SLOT_MASK0 2, 1)], by decide⟩,
   ⟨.ranger, 0x800010, 0x12345678, 4, mkS [], by decide⟩,
   ⟨.ranger, 0xC00010, 0x12345678, 8, mkS [], by decide⟩,
   ⟨.ranger, 0xC00010, 0x12345678, 8, mkS [(Reg.STATUS Reg.pageLINE, 0x20)], by decide⟩⟩

theorem witness_PageCommands :
  (∃ (src : Req) (page : Nat) (s : State), s.reaches src page = true) ∧
  (∃ (src : Req) (page q : Nat) (s : State), s.reaches src page = true ∧ q = s.shadowPage page ∧ domainOf q = 0) ∧
  (∃ (src : Req) (page q : Nat) (s : State), s.reaches src page = true ∧ q = s.shadowPage page ∧ viaApply q = true) ∧
  (∃ (src : Req) (page q : Nat) (s : State), s.reaches src page = true ∧ q = s.shadowPage page ∧ domainOf q ≠ 0 ∧
     viaApply q = false ∧ s.bit (Reg.SHADOW_CTRL q) 1 = false ∧ s.armFault src q = none ∧ s.pairMode = false ∧
     (domainOf q ≠ 3 ∨ s.targetPast q = false) ∧
     (1 < s.runSt ∨ ldiff s.nextLine (s.rd (Reg.ARM_TARGET Reg.pageENC)) < 0 ∨ (q ≠ Reg.pageENC ∧
     s.bit (Reg.SHADOW_CTRL Reg.pageENC) 1 = false))) ∧
  (∃ (src : Req) (s : State), s.reaches src Reg.pageENC = true ∧ s.bit (Reg.SHADOW_CTRL Reg.pageENC) 1 = false ∧
     s.armFault src Reg.pageENC = none ∧ s.pairMode = false ∧ s.runSt ≤ 1 ∧
     0 ≤ ldiff s.nextLine (s.rd (Reg.ARM_TARGET Reg.pageENC)) ∧ s.pair.armWait.contains Reg.pageENC = false) ∧
  (∃ (src : Req) (page q : Nat) (s : State), s.reaches src page = true ∧ q = s.shadowPage page ∧ domainOf q ≠ 0 ∧
     viaApply q = false ∧ s.bit (Reg.SHADOW_CTRL q) 1 = true) ∧
  (∃ (src : Req) (page q : Nat) (s : State), s.reaches src page = true ∧ q = s.shadowPage page ∧
     viaApply q = false ∧ s.bit (Reg.SHADOW_CTRL q) 1 = true ∧ s.pairMode = false) ∧
  (∃ (frame : Nat) (s : State), s.runSt = 2 ∧ s.bit (Reg.SHADOW_CTRL Reg.pageLINE) 1 = true ∧
     0 ≤ ldiff s.nextLine (s.rd (Reg.ARM_TARGET Reg.pageLINE)) ∧ s.pair.armWait.contains Reg.pageLINE = false) ∧
  (∃ (page frame : Nat) (s : State), 3 < page ∧ page < 0x0CB ∧ s.bit (Reg.SHADOW_CTRL page) 1 = false) ∧
  (∃ (page frame g : Nat) (s : State), page = Reg.pageLAMP g ∧ g < 4 ∧ s.bit (Reg.SHADOW_CTRL page) 1 = true ∧
     0 ≤ sdiff 32 (s.frc % 2 ^ 32) (s.rd (Reg.ARM_TARGET page))) ∧
  (∃ (src : Req) (page i : Nat) (p : PageType) (s : State), s.reaches src page = true ∧ pageAt page = some (p, i) ∧
     s.resetBusy src page = true) ∧
  (∃ (src : Req) (page i : Nat) (p : PageType) (s : State), s.reaches src page = true ∧ pageAt page = some (p, i) ∧
     s.resetBusy src page = false ∧ partReset p = true) ∧
  (∃ (src : Req) (page i : Nat) (p : PageType) (s : State), s.reaches src page = true ∧ pageAt page = some (p, i) ∧
     s.resetBusy src page = false ∧
     [PageType.apply, .plane, .prp, .lampseq, .scaler, .tio, .job, .locks].contains p = true) :=
  ⟨⟨.ranger, 0x10, mkS [], by decide⟩,
   ⟨.ranger, 0xB0, 0xB0, mkS [], by decide⟩,
   ⟨.ranger, 0x23, 0x23, mkS [], by decide⟩,
   ⟨.ranger, 0x10, 0x10, mkS [], by decide⟩,
   ⟨.ranger, mkS [], by decide⟩,
   ⟨.ranger, 0x10, 0x10, mkS [(0x10024, 2)], by decide⟩,
   ⟨.ranger, 0x10, 0x10, mkS [(0x10024, 2)], by decide⟩,
   ⟨0, mkS [(0x10024, 2), (Reg.STATUS Reg.pageLINE, 0x20)], by decide⟩,
   ⟨0x10, 5, mkS [], by decide⟩,
   ⟨0xD5, 0, 1, mkS [(0xD5024, 2)], by decide⟩,
   ⟨.ranger, 0x23, 3, .ch, mkS [(0x23040, 0)], by decide⟩,
   ⟨.ranger, 0x1, 0, .clk, mkS [(0x102C, 7)], by decide⟩,
   ⟨.ranger, 0x12, 0, .apply, { mkS [(Reg.APPLY_SLOT_STATUS 2, 1), (Reg.APPLY_SLOT_TARGET 2, 77)] with slots := [(2, { startLine := 5 })] }, by decide⟩⟩

theorem witness_SlotCommands :
  (∃ (src : Req) (n : Fin 32) (s : State), s.cutOff src = false ∧ isHost src = true ∧ 24 ≤ n.val) ∧
  (∃ (src : Req) (n : Fin 32) (s : State), s.cutOff src = false ∧ (isHost src = false ∨ n.val < 24) ∧
     slotLive (s.slotSt n) = true) ∧
  (∃ (src : Req) (n : Fin 32) (code : Nat) (s : State), s.cutOff src = false ∧ (isHost src = false ∨ n.val < 24) ∧
     slotLive (s.slotSt n) = false ∧ s.slotRefusal src n = some code) ∧
  (∃ (src : Req) (n : Fin 32) (s : State), s.cutOff src = false ∧ (isHost src = false ∨ n.val < 24) ∧
     slotLive (s.slotSt n) = false ∧ s.slotRefusal src n = none ∧ s.pairMode = false) ∧
  (∃ (src : Req) (n : Fin 32) (s : State), s.cutOff src = false ∧ (isHost src = false ∨ n.val < 24) ∧
     (s.slotSt n = 1 ∨ s.slotSt n = 7) ∧ s.pairMode = false) ∧
  (∃ (src : Req) (n : Fin 32) (s : State), s.cutOff src = false ∧ (isHost src = false ∨ n.val < 24) ∧
     s.writeGate src = none ∧ (s.slotSt n = 2 ∨ s.slotSt n = 3)) ∧
  (∃ (n : Fin 32) (s : State), (s.runSt ≠ 2 ∨ s.slotDue n s.nextLine = false)) ∧
  (∃ (n : Fin 32) (s : State), s.runSt = 2 ∧ s.slotDue n s.nextLine = true ∧ (s.slot n).fromLine = none ∧
     (s.slot n).late = false ∧ s.nextLine = s.slotTarget n ∧ s.slotRamp n ≠ 1 ∧ s.slotAction n ≠ 4) ∧
  (∃ (n : Fin 32) (s : State), s.runSt = 2 ∧ s.slotDue n s.nextLine = true ∧ (s.slot n).fromLine = none ∧
     ((s.slot n).late = true ∨ s.slotTarget n ≠ s.nextLine) ∧ s.slotRamp n ≠ 1 ∧ s.slotAction n = 1) ∧
  (∃ (n : Fin 32) (s : State), s.slotSt n = 2 ∧ (s.slotRamp n : Int) ≤ ldiff s.nextLine (s.slot n).startLine ∧
     isBankAction (s.slotAction n) = true) ∧
  (∃ (n : Fin 32) (s : State), s.slotSt n = 2 ∧ (s.slotRamp n : Int) ≤ ldiff s.nextLine (s.slot n).startLine ∧
     s.slotAction n = 4) ∧
  (∃ (n : Fin 32) (s : State), s.slotSt n ≠ 2) ∧
  (∃ (n : Fin 32) (s : State), s.slotSt n = 3) :=
  ⟨⟨.pf0, 25, mkS [], by decide⟩,
   ⟨.pf0, 3, mkS [(Reg.APPLY_SLOT_STATUS 3, 1)], by decide⟩,
   ⟨.pf0, 3, 0x102, mkS [(Reg.APPLY_SLOT_ACTION 3, 0x38), (Reg.APPLY_SLOT_MASK0 3, 5)], by decide⟩,
   ⟨.pf0, 3, mkS [(Reg.APPLY_SLOT_ACTION 3, 8), (Reg.APPLY_SLOT_MASK0 3, 5)], by decide⟩,
   ⟨.pf0, 3, mkS [(Reg.APPLY_SLOT_STATUS 3, 1)], by decide⟩,
   ⟨.pf0, 3, mkS [(Reg.APPLY_SLOT_STATUS 3, 2)], by decide⟩,
   ⟨3, mkS [], by decide⟩,
   ⟨3, mkS [(Reg.STATUS Reg.pageLINE, 0x20), (Reg.APPLY_SLOT_STATUS 3, 1), (Reg.APPLY_SLOT_ACTION 3, 0x31), (Reg.APPLY_SLOT_MASK0 3, 5)], by decide⟩,
   ⟨3, mkS [(Reg.STATUS Reg.pageLINE, 0x20), (Reg.APPLY_SLOT_STATUS 3, 1), (Reg.APPLY_SLOT_ACTION 3, 0x31), (Reg.APPLY_SLOT_MASK0 3, 5), (Reg.LINE_ADMIT_LINE, 9)], by decide⟩,
   ⟨3, mkS [(Reg.APPLY_SLOT_STATUS 3, 2), (Reg.APPLY_SLOT_ACTION 3, 0x31), (Reg.APPLY_SLOT_MASK0 3, 5), (Reg.LINE_ADMIT_LINE, 9)], by decide⟩,
   ⟨3, mkS [(Reg.APPLY_SLOT_STATUS 3, 2), (Reg.APPLY_SLOT_ACTION 3, 0x34), (Reg.APPLY_SLOT_MASK0 3, 5), (Reg.LINE_ADMIT_LINE, 9)], by decide⟩,
   ⟨3, mkS [], by decide⟩,
   ⟨3, mkS [(Reg.APPLY_SLOT_STATUS 3, 3), (Reg.APPLY_SLOT_ACTION 3, 1), (Reg.APPLY_SLOT_MASK0 3, 5)], by decide⟩⟩

set_option Elab.async false in
theorem witness_ChangeCommands :
  (∃ (src : Req) (s : State), s.cutOff src = false ∧ s.pairMode = false) ∧
  (∃ (src : Req) (s : State), s.cutOff src = false ∧ s.pairMode = true ∧ s.changePending = true) ∧
  (∃ (src : Req) (s : State), s.cutOff src = false ∧ s.pairMode = true ∧ s.changePending = false ∧
     s.canChange = false) ∧
  (∃ (src : Req) (s : State), s.cutOff src = false ∧ s.changePending = false ∧ s.canChange = true ∧ s.leads = true) ∧
  (∃ (src : Req) (s : State), s.cutOff src = false ∧ s.changePending = false ∧ s.canChange = true ∧
     s.leads = false ∧ s.stCode (Reg.pagePEER 2) = 4) ∧
  (∃ (src : Req) (s : State), s.cutOff src = false ∧ s.pairMode = false) ∧
  (∃ (src : Req) (s : State), s.cutOff src = false ∧ s.pairMode = true ∧ s.changePending = true) ∧
  (∃ (src : Req) (s : State), s.cutOff src = false ∧ s.pairMode = true ∧ s.changePending = false ∧
     s.canChange = false) ∧
  (∃ (src : Req) (s : State), s.cutOff src = false ∧ s.changePending = false ∧ s.canChange = true ∧ s.leads = true) ∧
  (∃ (src : Req) (s : State), s.cutOff src = false ∧ s.changePending = false ∧ s.canChange = true ∧
     s.leads = false ∧ s.stCode (Reg.pagePEER 2) = 4) ∧
  (∃ (r : DigestRec) (s : State), s.pairMode = false) ∧
  (∃ (plane : Fin 8) (row col crc : Nat) (s : State), s.pair.lost = true) ∧
  (∃ (plane : Fin 8) (row col crc k : Nat) (s : State), s.pairMode = true ∧ s.pair.lost = false ∧
     k = tileKey plane row col ∧ (s.tileDigest k = none ∨ s.tileDigest k = some crc)) ∧
  (∃ (plane : Fin 8) (row col crc k : Nat) (d : Nat) (s : State), s.pairMode = true ∧ s.pair.lost = false ∧
     k = tileKey plane row col ∧ s.tileDigest k = some d ∧ d ≠ crc) ∧
  (∃ (m : LookoutMsg) (s : State), s.pairMode = true ∧ m.isType 0x11 = true ∧
     s.lookoutOk m s.pair.partnerSeq = false) ∧
  (∃ (m : LookoutMsg) (k : Nat) (s : State), s.pairMode = true ∧ s.pair.lost = false ∧ m.isType 0x11 = true ∧
     s.lookoutOk m s.pair.partnerSeq = true ∧ m.field 40 1 < 8 ∧
     k = tileKey (m.field 40 1) (m.field 44 4) (m.field 41 1 % 64) ∧
     (s.tileDigest k = none ∨ s.tileDigest k = some (m.field 48 4))) :=
  ⟨⟨.pf0, mkS [], by decide⟩,
   ⟨.pf0, mkS [(Reg.SYS_CONFIG, 1), (Reg.PAIR_HANDOVER_STATUS, 1)], by decide⟩,
   ⟨.pf0, mkS [(Reg.SYS_CONFIG, 1)], by decide⟩,
   ⟨.pf0, mkS [(Reg.SYS_CONFIG, 1), (Reg.PAIR_PAIR_STATUS, 0x13)], by decide⟩,
   ⟨.pf0, mkS [(Reg.SYS_CONFIG, 1), (Reg.PAIR_PAIR_STATUS, 0x23), (Reg.STATUS (Reg.pagePEER 2), 0x40)], by decide⟩,
   ⟨.pf0, mkS [], by decide⟩,
   ⟨.pf0, mkS [(Reg.SYS_CONFIG, 1), (Reg.PAIR_HANDOVER_STATUS, 1)], by decide⟩,
   ⟨.pf0, mkS [(Reg.SYS_CONFIG, 1)], by decide⟩,
   ⟨.pf0, mkS [(Reg.SYS_CONFIG, 1), (Reg.PAIR_PAIR_STATUS, 0x13)], by decide⟩,
   ⟨.pf0, mkS [(Reg.SYS_CONFIG, 1), (Reg.PAIR_PAIR_STATUS, 0x23), (Reg.STATUS (Reg.pagePEER 2), 0x40)], by decide⟩,
   ⟨(.peer 2 3 4 5), mkS [], by decide⟩,
   ⟨2, 3, 4, 5, { mkS [(Reg.SYS_CONFIG, 1)] with pair := { lost := true } }, by decide⟩,
   ⟨2, 3, 4, 5, (tileKey 2 3 4), mkS [(Reg.SYS_CONFIG, 1)], by decide⟩,
   ⟨2, 3, 4, 5, (tileKey 2 3 4), 6, { mkS [(Reg.SYS_CONFIG, 1)] with job := { valid := [(524288, some { key := tileKey 2 3 4, block := 1024, digest := 6 })] } }, by decide⟩,
   ⟨{ bytes := leBytes 4 0x1101 ++ List.replicate 84 0 }, mkS [(Reg.SYS_CONFIG, 1)], by decide⟩,
   ⟨(signedMsg (lookoutBytes 0x11 0 0 0 0 0 7 0 0 0 ++ digestRecord 2 3 4 5)), (tileKey 2 3 4), { mkS [(Reg.SYS_CONFIG, 1)] with mgmt := { journal := [{ half := 0, kind := 0x0031, key := 0, seq := 1, data := [] }], nextSeq := 2 } }, by decide +kernel⟩⟩

theorem witness_EncoderCommands :
  (∃ (e : Fin 2) (fwd : Bool) (tenths t : Nat) (s : State), (s.encOn e = false ∨
     tenths < 25 * s.rdF (encCfg e) 11 8)) ∧
  (∃ (e : Fin 2) (fwd : Bool) (tenths t : Nat) (s : State), s.encOn e = true ∧ 25 * s.rdF (encCfg e) 11 8 ≤ tenths ∧
     fwd ≠ s.bit (encCfg e) 1 ∧ (s.enc e).behind = 0 ∧ (s.enc e).phase + 65536 < s.cpl e) ∧
  (∃ (e : Fin 2) (fwd : Bool) (tenths t : Nat) (s : State), s.encOn e = true ∧ 25 * s.rdF (encCfg e) 11 8 ≤ tenths ∧
     fwd ≠ s.bit (encCfg e) 1 ∧ (s.enc e).behind = 0 ∧ s.cpl e ≤ (s.enc e).phase + 65536 ∧ s.sourceInUse = e.val ∧
     s.ringMode = false ∧ s.line.due = [] ∧ s.line.lastSource = none) ∧
  (∃ (e : Fin 2) (fwd : Bool) (tenths t : Nat) (s : State), s.encOn e = true ∧ 25 * s.rdF (encCfg e) 11 8 ≤ tenths ∧
     fwd ≠ s.bit (encCfg e) 1 ∧ 0 < (s.enc e).behind) ∧
  (∃ (e : Fin 2) (fwd : Bool) (tenths t : Nat) (s : State), s.encOn e = true ∧ 25 * s.rdF (encCfg e) 11 8 ≤ tenths ∧
     fwd = s.bit (encCfg e) 1) ∧
  (∃ (e : Fin 2) (t : Nat) (s : State), (s.till t).los e = true) ∧
  (∃ (e : Fin 2) (t : Nat) (s : State), s.los e = false ∧ s.rdF Reg.ENC_SOURCE 2 0 ≠ 2 ∧ s.printing = false) ∧
  (∃ (t : Nat) (s : State), s.los 0 = false ∧ s.los 1 = false ∧ s.rdF Reg.ENC_SOURCE 2 0 = 2 ∧
     s.line.autoSwitched = false) ∧
  (∃ (e : Fin 2) (t : Nat) (s : State), s.los e = false ∧ s.printing = true ∧ s.rdF Reg.ENC_SOURCE 2 0 = e.val) ∧
  (∃ (e : Fin 2) (s : State), s.encOn e = true ∧ s.rdF Reg.ENC_SOURCE 2 0 ≠ 2) ∧
  (∃ (e : Fin 2) (s : State), s.encOn e = false) ∧
  (∃ (v w0 w1 : Int) (s : State), s.line.slipDone = some (w0, w1) ∧
     v =
     roundAway (10000 * (w0 * atLeast1 (s.cpl 1) - w1 * atLeast1 (s.cpl 0))) (atLeast1 (s.cpl 0) * atLeast1 (s.cpl 1) * atLeast1 (s.rdF Reg.ENC_SLIP_CFG 15 0))) ∧
  (∃ (s : State), s.line.slipDone = none) ∧
  (∃ (s : State), s.los 0 = false ∧ s.los 1 = false ∧ atLeast1 (s.rdF Reg.ENC_SLIP_CFG 15 0) ≤ s.line.slipLines + 1) ∧
  (∃ (s : State), s.los 0 = false ∧ s.los 1 = false ∧ s.line.slipLines + 1 < atLeast1 (s.rdF Reg.ENC_SLIP_CFG 15 0)) ∧
  (∃ (t : Nat) (s : State), (s.sourceInUse ≠ 3 ∨
     (s.till t).frc * 256 < s.line.vencOrigin + s.rd Reg.ENC_VENC_PERIOD)) ∧
  (∃ (t : Nat) (e : Nat) (s : State), s.sourceInUse = 3 ∧ e = s.line.vencOrigin + s.rd Reg.ENC_VENC_PERIOD ∧
     e ≤ (s.till t).frc * 256 ∧ s.ringMode = false ∧ s.line.due = [] ∧ s.line.lastSource = none) :=
  ⟨⟨1, true, 50, 5, mkS [], by decide⟩,
   ⟨1, true, 50, 5, mkS [(Reg.ENC_ENC1_CFG, 1), (Reg.ENC_CPL1, 0x50000)], by decide⟩,
   ⟨0, true, 50, 5, mkS [(Reg.ENC_ENC0_CFG, 1), (Reg.ENC_CPL0, 0x10000)], by decide⟩,
   ⟨0, true, 50, 5, { mkS [(Reg.ENC_ENC0_CFG, 1)] with line := { enc0 := { behind := 65536 } } }, by decide⟩,
   ⟨0, false, 50, 5, mkS [(Reg.ENC_ENC0_CFG, 1), (Reg.ENC_REVERSE_LIMIT, 0)], by decide⟩,
   ⟨1, 5, mkS [], by decide⟩,
   ⟨1, 5, mkS [(Reg.ENC_ENC1_CFG, 1), (Reg.ENC_SOURCE, 0), (Reg.ENC_ENC_STATUS, 0)], by decide⟩,
   ⟨5, mkS [(Reg.ENC_ENC0_CFG, 1), (Reg.ENC_ENC1_CFG, 1), (Reg.ENC_SOURCE, 2), (Reg.ENC_ENC_STATUS, 0)], by decide⟩,
   ⟨1, 5, mkS [(Reg.ENC_ENC1_CFG, 1), (Reg.ENC_SOURCE, 1), (Reg.ENC_ENC_STATUS, 0), (Reg.STATUS Reg.pageLINE, 0x30)], by decide⟩,
   ⟨1, mkS [(Reg.ENC_ENC1_CFG, 1), (Reg.ENC_SOURCE, 0), (Reg.ENC_ENC_STATUS, 3)], by decide⟩,
   ⟨1, mkS [], by decide⟩,
   ⟨10, 0x65000, 0x63666, { mkS [(Reg.ENC_ENC0_CFG, 1), (Reg.ENC_ENC1_CFG, 1), (Reg.ENC_ENC_STATUS, 0), (Reg.ENC_CPL0, 0x10000), (Reg.ENC_CPL1, 0x10000), (Reg.ENC_SLIP_CFG, 0x00050064)] with line := { slipDone := some (0x65000, 0x63666) } }, by decide⟩,
   ⟨mkS [], by decide⟩,
   ⟨{ mkS [(Reg.ENC_ENC0_CFG, 1), (Reg.ENC_ENC1_CFG, 1), (Reg.ENC_ENC_STATUS, 0), (Reg.ENC_CPL0, 0x10000), (Reg.ENC_CPL1, 0x10000), (Reg.ENC_SLIP_CFG, 0x00050064)] with line := { slipLines := 99, enc0 := { window := 7 } } }, by decide⟩,
   ⟨{ mkS [(Reg.ENC_ENC0_CFG, 1), (Reg.ENC_ENC1_CFG, 1), (Reg.ENC_ENC_STATUS, 0), (Reg.ENC_CPL0, 0x10000), (Reg.ENC_CPL1, 0x10000), (Reg.ENC_SLIP_CFG, 0x00050064)] with line := { slipLines := 98 } }, by decide⟩,
   ⟨9, mkS [(Reg.ENC_SOURCE, 1)], by decide⟩,
   ⟨9, 1000, mkS [(Reg.ENC_SOURCE, 3), (Reg.ENC_VENC_PERIOD, 1000)], by decide⟩⟩

theorem witness_RunCommands :
  (∃ (src : Req) (s : State), s.cutOff src = false ∧ s.writeGate src = none ∧ s.modState ≠ 4) ∧
  (∃ (src : Req) (s : State), s.cutOff src = false ∧ s.writeGate src = none ∧ s.modState = 4 ∧ s.pwr.stopIn = true) ∧
  (∃ (src : Req) (code : Nat) (s : State), s.cutOff src = false ∧ s.writeGate src = none ∧ s.modState = 4 ∧
     s.pwr.stopIn = false ∧ s.jobRefusal = some code) ∧
  (∃ (src : Req) (s : State), s.cutOff src = false ∧ s.writeGate src = none ∧ s.modState = 4 ∧
     s.pwr.stopIn = false ∧ s.jobRefusal = none ∧ s.stripPeriodOk = true ∧ s.ringMode = false ∧ s.pairMode = false ∧
     src ≠ .peer ∧ s.bit (Reg.SHADOW_CTRL Reg.pageENC) 1 = false) ∧
  (∃ (src : Req) (s : State), s.cutOff src = false ∧ s.writeGate src = none ∧ s.runSt = 1 ∧
     fld s.line.runCfg 1 0 = 0 ∧ s.ringMode = false ∧ s.pairMode = false ∧ s.sourceLost = false) ∧
  (∃ (src : Req) (s : State), s.cutOff src = false ∧ s.writeGate src = none ∧ s.runSt = 1 ∧
     fld s.line.runCfg 1 0 = 0 ∧ s.ringMode = false ∧ s.pairMode = false ∧ s.sourceLost = true) ∧
  (∃ (src : Req) (s : State), s.cutOff src = false ∧ s.writeGate src = none ∧
     (s.runSt ≠ 1 ∨ fld s.line.runCfg 1 0 ≠ 0)) ∧
  (∃ (src : Req) (s : State), s.cutOff src = false ∧ s.writeGate src = none ∧ s.runSt = 2 ∧ s.pairMode = false ∧
     0 < ldiff (ladd s.nextLine (-1)) (s.rd Reg.LINE_CURRENT_LINE) ∧ 0 ≤ ldiff (ladd s.nextLine (-1)) s.line.startLine) ∧
  (∃ (src : Req) (s : State), s.cutOff src = false ∧ s.writeGate src = none ∧ s.runSt = 1 ∧ s.pairMode = false) ∧
  (∃ (t : Nat) (s : State), s.runSt = 3 ∧ msClk 1000 ≤ (s.till t).since s.line.drainSince) ∧
  (∃ (t : Nat) (s : State), (s.runSt ≠ 3 ∨ (s.till t).since s.line.drainSince < msClk 1000)) :=
  ⟨⟨.pf0, mkS [], by decide⟩,
   ⟨.pf0, { mkS [(Reg.SYS_MODULE_STATE, 4)] with pwr := { stopIn := true } }, by decide⟩,
   ⟨.pf0, 0x102, { mkS [(Reg.SYS_MODULE_STATE, 4)] with pwr := { stopIn := false } }, by decide⟩,
   ⟨.pf0, { mkS [(Reg.SYS_MODULE_STATE, 4), (Reg.STATUS Reg.pageSYS, 0x40), (Reg.JOB_REP_LENGTH 0, 64), (Reg.LINE_START_LINE, 77), (Reg.JOB_JOB_CFG, 0x02000100), (Reg.JOB_PSRC 0, 0x01000100), (Reg.YARD_REG_SIZE 0, 32), (Reg.YARD_REG_ATTR 0, 1), (Reg.YARD_REG_BASE 1, 64), (Reg.YARD_REG_SIZE 1, 1), (Reg.YARD_REG_ATTR 1, 2)] with job := { valid := [(0, some { key := 0, block := 262144, digest := 5 })] } }, by decide⟩,
   ⟨.pf0, { mkS [(Reg.SYS_MODULE_STATE, 0x15), (Reg.STATUS Reg.pageLINE, 0x10), (Reg.ENC_SOURCE, 3)] with line := { startLine := 100 } }, by decide⟩,
   ⟨.pf0, { mkS [(Reg.SYS_MODULE_STATE, 0x15), (Reg.STATUS Reg.pageLINE, 0x10), (Reg.ENC_SOURCE, 0), (Reg.ENC_ENC0_CFG, 1), (Reg.ENC_ENC_STATUS, 1)] with line := { startLine := 100 } }, by decide⟩,
   ⟨.pf0, mkS [], by decide⟩,
   ⟨.pf0, { mkS [(Reg.STATUS Reg.pageLINE, 0x20), (Reg.LINE_ADMIT_LINE, 105), (Reg.LINE_CURRENT_LINE, 102)] with line := { startLine := 100 } }, by decide⟩,
   ⟨.pf0, mkS [(Reg.STATUS Reg.pageLINE, 0x10)], by decide⟩,
   ⟨800000005, mkS [(Reg.STATUS Reg.pageLINE, 0x30)], by decide⟩,
   ⟨80, mkS [(Reg.STATUS Reg.pageLINE, 0x30)], by decide⟩⟩

theorem witness_TickCommands :
  (∃ (t d : Nat) (s : State), s.printing = false ∧ s.pairMode = false ∧ s.line.due = [d] ∧ d ≤ (s.till t).frc ∧
     s.line.lastSource = none) ∧
  (∃ (t d l : Nat) (s : State), s.printing = false ∧ s.pairMode = false ∧ s.line.due = [d] ∧ d ≤ (s.till t).frc ∧
     s.line.lastSource = some l) ∧
  (∃ (t d n : Nat) (s : State), s.runSt = 3 ∧ s.pairMode = false ∧ s.line.due = [d] ∧ d ≤ (s.till t).frc ∧
     s.line.lastSource = none ∧ n = ladd (s.rd Reg.LINE_CURRENT_LINE) 1 ∧ s.line.finalLine ≠ some n ∧
     0 ≤ ldiff n s.line.startLine ∧ s.line.prod = []) ∧
  (∃ (t : Nat) (s : State), s.line.due ≠ [] ∧ (∀ d ∈ s.line.due, (s.till t).frc < d)) ∧
  (∃ (line t : Nat) (p : ProdLine) (s : State), s.line.prod.find? (fun p => p.line == line) = some p ∧
     p.queued = false ∧ s.line.prod.any (fun q => decide (ldiff q.line line < 0) && !q.queued) = false ∧
     p.recomp = [] ∧ p.chans.Nodup ∧ s.enabledPlanes.all p.planes.contains = true ∧ s.line.runIntervals = 0) ∧
  (∃ (line t : Nat) (s : State), s.line.prod.find? (fun p => p.line == line) = none) ∧
  (∃ (t : Nat) (s : State), s.modState ≠ 4 ∧ s.modState ≠ 5) ∧
  (∃ (t r : Nat) (s : State), s.modState = 4 ∧ r = ((s.till t).measureFeed.limits.map (·.1)).foldl min 80000 ∧
     r ≤ s.rdF Reg.LINE_SPEED_ADVICE 16 0) ∧
  (∃ (s : State), s.pageDue Reg.pageLINE s.nextLine = false ∧ s.pageDue Reg.pageENC s.nextLine = false ∧
     s.pageDue Reg.pageJOB s.nextLine = false ∧ (∀ n ∈ List.range 32, s.slotDue n s.nextLine = false) ∧
     (∀ n ∈ List.range 32, s.slotSt n ≠ 2) ∧ s.streaming = false ∧ s.runOver s.nextLine = false ∧
     s.pair.resumeAt = [] ∧ s.colour = {}) :=
  ⟨⟨9, 7, { mkS [] with line := { due := [7] } }, by decide⟩,
   ⟨9, 7, 2, { mkS [(Reg.LINE_TICK_FRC_LO, 2)] with line := { due := [7], lastSource := some 2 } }, by decide⟩,
   ⟨9, 7, 101, { mkS [(Reg.STATUS Reg.pageLINE, 0x30), (Reg.LINE_CURRENT_LINE, 100)] with line := { due := [7], startLine := 90, finalLine := some 105 } }, by decide⟩,
   ⟨9, { mkS [] with line := { due := [70] } }, by decide⟩,
   ⟨5, 9, { line := 5, admitFrc := 1, regs := [], scr := {}, slots := [], splices := [], chans := [3], absent := [], planes := [0], frames := [(3, [7, 8])] }, { mkS [(Reg.JOB_JOB_CFG, 0x02000100)] with line := { prod := [{ line := 5, admitFrc := 1, regs := [], scr := {}, slots := [], splices := [], chans := [3], absent := [], planes := [0], frames := [(3, [7, 8])] }] } }, by decide⟩,
   ⟨5, 9, mkS [], by decide⟩,
   ⟨9, mkS [(Reg.LINE_SPEED_ADVICE, 80000)], by decide⟩,
   ⟨9, 80000, mkS [(Reg.SYS_MODULE_STATE, 4), (Reg.LINE_SPEED_ADVICE, 80000)], by decide⟩,
   ⟨mkS [(Reg.LINE_ADMIT_LINE, 100)], by decide⟩⟩

theorem witness_TimersAndTime :
  (∃ (src : Req) (n : Fin 16) (t : Nat) (s : State), s.cutOff src = false ∧ s.timerLive n = true) ∧
  (∃ (src : Req) (n : Fin 16) (t : Nat) (code : Nat) (s : State), s.cutOff src = false ∧ s.timerLive n = false ∧
     s.timerRefusal n = some code) ∧
  (∃ (src : Req) (n : Fin 16) (t : Nat) (s : State), s.cutOff src = false ∧ s.timerLive n = false ∧
     s.timerRefusal n = none ∧ s.timerMode n = 1 ∧ (s.till t).frc < (s.till t).timerTarget n) ∧
  (∃ (src : Req) (n : Fin 16) (t : Nat) (s : State), s.cutOff src = false ∧ s.timerLive n = false ∧
     s.timerRefusal n = none ∧ s.timerMode n = 1 ∧ (s.till t).timerTarget n ≤ (s.till t).frc ∧ s.latePolicy n = 1) ∧
  (∃ (src : Req) (n : Fin 16) (t : Nat) (s : State), s.cutOff src = false ∧ s.timerLive n = false ∧
     s.timerRefusal n = none ∧ s.timerMode n = 1 ∧ (s.till t).timerTarget n ≤ (s.till t).frc ∧ s.latePolicy n = 3) ∧
  (∃ (src : Req) (n : Fin 16) (t : Nat) (s : State), s.cutOff src = false ∧ s.timerLive n = false ∧
     s.timerRefusal n = none ∧ s.timerMode n = 4 ∧ s.printing = false) ∧
  (∃ (src : Req) (n : Fin 16) (s : State), s.cutOff src = false ∧ s.timerLive n = true ∧ s.timerDue n ≠ some s.frc) ∧
  (∃ (src : Req) (n : Fin 16) (s : State), s.cutOff src = false ∧
     (s.timerLive n = false ∨ s.timerDue n = some s.frc)) ∧
  (∃ (src : Req) (n : Fin 16) (s : State), s.cutOff src = false ∧ (s.timer n).plan.length < 16 ∧
     100 ≤ s.rdF (Reg.TIO_T_PLAN_EXP n) 19 0 ∧ (isHost src = false ∨ s.rdF (Reg.TIO_T_PLAN_PUSH n) 15 0 < 0x8000) ∧
     s.rdF (Reg.TIO_T_PLAN_EXP n) 19 0 ≤ 1048575) ∧
  (∃ (src : Req) (n : Fin 16) (s : State), s.cutOff src = false ∧ 16 ≤ (s.timer n).plan.length) ∧
  (∃ (src : Req) (n : Fin 16) (s : State), s.cutOff src = false ∧ (s.timer n).plan.length < 16 ∧
     s.rdF (Reg.TIO_T_PLAN_EXP n) 19 0 < 100) ∧
  (∃ (src : Req) (n : Fin 16) (s : State), s.cutOff src = false ∧ (s.timer n).plan.length < 16 ∧
     100 ≤ s.rdF (Reg.TIO_T_PLAN_EXP n) 19 0 ∧ isHost src = true ∧ 0x8000 ≤ s.rdF (Reg.TIO_T_PLAN_PUSH n) 15 0) ∧
  (∃ (src : Req) (n : Fin 16) (s : State), s.cutOff src = false) ∧
  (∃ (src : Req) (t : Nat) (s : State), s.cutOff src = false) ∧
  (∃ (src : Req) (hi v : Nat) (s : State), s.cutOff src = false ∧
     v = s.lowWord Reg.pageTIME src (s.rd Reg.TIME_CONV_IN_LO) + hi % 2 ^ 32 * 2 ^ 32 ∧
     s.bit Reg.TIME_CONV_CTRL 1 = false ∧ s.bit Reg.TIME_CONV_CTRL 0 = true) ∧
  (∃ (src : Req) (hi v : Nat) (s : State), s.cutOff src = false ∧
     v = s.lowWord Reg.pageTIME src (s.rd Reg.TIME_CONV_IN_LO) + hi % 2 ^ 32 * 2 ^ 32 ∧
     s.bit Reg.TIME_CONV_CTRL 1 = false ∧ s.bit Reg.TIME_CONV_CTRL 0 = false) ∧
  (∃ (src : Req) (hi v : Nat) (s : State), s.cutOff src = false ∧
     v = s.lowWord Reg.pageTIME src (s.rd Reg.TIME_CONV_IN_LO) + hi % 2 ^ 32 * 2 ^ 32 ∧
     s.bit Reg.TIME_CONV_CTRL 1 = true ∧ s.isRoot = false ∧ s.ring.base = none) :=
  ⟨⟨.pf0, 3, 9, mkS [(Reg.TIO_T_STATUS 3, 1)], by decide⟩,
   ⟨.pf0, 3, 9, 0x101, mkS [(Reg.TIO_T_CFG 3, 5)], by decide⟩,
   ⟨.pf0, 3, 9, mkS [(Reg.TIO_T_CFG 3, 1), (Reg.TIO_T_TARGET_LO 3, 5000)], by decide⟩,
   ⟨.pf0, 3, 9000, mkS [(Reg.TIO_T_CFG 3, 1), (Reg.TIO_T_TARGET_LO 3, 5000)], by decide⟩,
   ⟨.pf0, 3, 9000, mkS [(Reg.TIO_T_CFG 3, 0x31), (Reg.TIO_T_TARGET_LO 3, 5000)], by decide⟩,
   ⟨.pf0, 3, 9, mkS [(Reg.TIO_T_CFG 3, 4), (Reg.TIO_T_PERIOD 3, 7), (Reg.TIO_T_TARGET_LO 3, 70)], by decide⟩,
   ⟨.pf0, 3, { mkS [(Reg.TIO_T_STATUS 3, 1), (Reg.TIO_T_CFG 3, 1)] with tio := { timers := [(3, { next := 655360000 })] } }, by decide⟩,
   ⟨.pf0, 3, mkS [], by decide⟩,
   ⟨.pf0, 3, mkS [(Reg.TIO_T_PLAN_PUSH 3, 7), (Reg.TIO_T_PLAN_EXP 3, 500)], by decide⟩,
   ⟨.pf0, 3, { mkS [] with tio := { timers := [(3, { plan := List.replicate 16 (0, 0) })] } }, by decide⟩,
   ⟨.pf0, 3, mkS [(Reg.TIO_T_PLAN_EXP 3, 5)], by decide⟩,
   ⟨.pf0, 3, mkS [(Reg.TIO_T_PLAN_PUSH 3, 0x8007), (Reg.TIO_T_PLAN_EXP 3, 500)], by decide⟩,
   ⟨.pf0, 3, { mkS [] with tio := { timers := [(3, { plan := List.replicate 16 (0, 0) })] } }, by decide⟩,
   ⟨.pf0, 800, mkS [], by decide⟩,
   ⟨.pf0, 1, 0x100000000, mkS [(Reg.TIME_CONV_CTRL, 1)], by decide⟩,
   ⟨.pf0, 1, 0x100000000, mkS [(Reg.TIME_CONV_CTRL, 0)], by decide⟩,
   ⟨.pf0, 1, 0x100000000, mkS [(Reg.TIME_CONV_CTRL, 2)], by decide⟩⟩

theorem witness_TimerEvents :
  (∃ (n : Fin 16) (t f : Nat) (s : State), s.timerDue n = some f ∧ f ≤ (s.till t).frc ∧ s.timerMode n = 1 ∧
     s.bit (Reg.TIO_T_CFG n) 9 = false ∧ s.bit (Reg.TIO_T_CFG n) 6 = true ∧ s.bit Reg.TIO_PIN_DIR n = true ∧
     s.bit (Reg.TIO_T_CFG n) 8 = false ∧ s.triggersPort n 0 = false ∧ s.triggersPort n 1 = false ∧
     (s.sourceInUse ≠ 4 ∨ s.rdF Reg.ENC_VENC_TIO 3 0 ≠ n.val)) ∧
  (∃ (n : Fin 16) (t f : Nat) (s : State), s.timerDue n = some f ∧ f ≤ (s.till t).frc ∧ s.timerMode n = 1 ∧
     s.bit (Reg.TIO_T_CFG n) 9 = false ∧ (s.bit (Reg.TIO_T_CFG n) 6 = false ∨ s.bit Reg.TIO_PIN_DIR n = false) ∧
     s.bit (Reg.TIO_T_CFG n) 8 = false ∧ s.triggersPort n 0 = false ∧ s.triggersPort n 1 = false ∧
     (s.sourceInUse ≠ 4 ∨ s.rdF Reg.ENC_VENC_TIO 3 0 ≠ n.val)) ∧
  (∃ (n : Fin 16) (t f : Nat) (s : State), s.timerDue n = some f ∧ f ≤ (s.till t).frc ∧ s.timerMode n = 2 ∧
     s.timerNs n = false ∧ (s.timer n).fire = none ∧ (s.timer n).first = none ∧ s.bit (Reg.TIO_T_CFG n) 9 = false ∧
     s.bit (Reg.TIO_T_CFG n) 6 = false ∧ s.bit (Reg.TIO_T_CFG n) 8 = true ∧ s.triggersPort n 0 = false ∧
     s.triggersPort n 1 = false ∧ (s.sourceInUse ≠ 4 ∨ s.rdF Reg.ENC_VENC_TIO 3 0 ≠ n.val)) ∧
  (∃ (n : Fin 16) (t f : Nat) (plan : Nat × Nat) (s : State), s.timerDue n = some f ∧ f ≤ (s.till t).frc ∧
     s.timerMode n = 1 ∧ s.bit (Reg.TIO_T_CFG n) 9 = true ∧ s.bit (Reg.TIO_T_CFG n) 6 = true ∧
     s.bit Reg.TIO_PIN_DIR n = true ∧ s.bit (Reg.TIO_T_CFG n) 8 = false ∧ (s.timer n).plan.head? = some plan ∧
     s.triggersPort n 0 = false ∧ s.triggersPort n 1 = false ∧
     (s.sourceInUse ≠ 4 ∨ s.rdF Reg.ENC_VENC_TIO 3 0 ≠ n.val)) ∧
  (∃ (n : Fin 16) (t : Nat) (s : State), s.timerLive n = false ∧ (s.timer n).strips = []) ∧
  (∃ (pin : Fin 16) (falling : Bool) (t : Nat) (s : State), s.bit Reg.TIO_CAP_CFG (if falling =
     true then 16 + pin.val else pin.val) = false) ∧
  (∃ (pin : Fin 16) (falling : Bool) (t : Nat) (s : State), s.bit Reg.TIO_CAP_CFG (if falling =
     true then 16 + pin.val else pin.val) = true ∧ (s.captures pin).length < 16 ∧
     (fld s.line.runCfg 11 8 ≠ pin.val ∨ fld s.line.runCfg 1 0 ≠ 1)) ∧
  (∃ (pin : Fin 16) (falling : Bool) (t : Nat) (s : State), s.bit Reg.TIO_CAP_CFG (if falling =
     true then 16 + pin.val else pin.val) = true ∧ 16 ≤ (s.captures pin).length) ∧
  (∃ (src : Req) (s : State), s.cutOff src = false) :=
  ⟨⟨3, 70, 60, { mkS [(Reg.TIO_T_STATUS 3, 1), (Reg.TIO_T_CFG 3, 0x41), (Reg.TIO_PIN_DIR, 8)] with tio := { timers := [(3, { next := 60 * 65536 })] } }, by decide⟩,
   ⟨3, 70, 60, { mkS [(Reg.TIO_T_STATUS 3, 1), (Reg.TIO_T_CFG 3, 0x41)] with tio := { timers := [(3, { next := 60 * 65536 })] } }, by decide⟩,
   ⟨3, 70, 60, { mkS [(Reg.TIO_T_STATUS 3, 2), (Reg.TIO_T_CFG 3, 0x102), (Reg.TIO_T_PERIOD 3, 50)] with tio := { timers := [(3, { next := 60 * 65536 })] } }, by decide⟩,
   ⟨3, 70, 60, (5, 1000), { mkS [(Reg.TIO_T_STATUS 3, 1), (Reg.TIO_T_CFG 3, 0x241), (Reg.TIO_PIN_DIR, 8)] with tio := { timers := [(3, { next := 60 * 65536, plan := [(5, 1000)] })] } }, by decide⟩,
   ⟨3, 70, mkS [], by decide⟩,
   ⟨3, true, 9, mkS [], by decide⟩,
   ⟨3, true, 9, mkS [(Reg.TIO_CAP_CFG, 0x80000)], by decide⟩,
   ⟨3, false, 9, { mkS [(Reg.TIO_CAP_CFG, 0x8)] with tio := { caps := [(3, List.replicate 16 { frc := 1, line := 2, falling := false })] } }, by decide⟩,
   ⟨.pf0, { mkS [(Reg.TIO_CAP_SEL, 3)] with tio := { caps := [(3, List.replicate 2 { frc := 1, line := 2, falling := false })] } }, by decide⟩⟩

theorem witness_LampGroupsAndQueues :
  (∃ (src : Req) (g : Fin 4) (s : State), s.cutOff src = false ∧ s.groupSt g = 0 ∧
     s.bit Reg.PWR_LAMP_BUS_STATUS (16 + g.val) = false ∧ s.bit (Reg.LAMP_GROUP_STATUS g) 10 = false ∧
     s.pwr.sys24 = true) ∧
  (∃ (src : Req) (g : Fin 4) (s : State), s.cutOff src = false ∧ s.groupSt g ≠ 0) ∧
  (∃ (src : Req) (g : Fin 4) (s : State), s.cutOff src = false) ∧
  (∃ (g : Fin 4) (vm f : Nat) (s : State), s.groupSt g = 1 ∧ fld vm 7 5 = 0 ∧ s.pwr.stopIn = false ∧
     s.ntcOff g = false) ∧
  (∃ (g : Fin 4) (vm f : Nat) (s : State), s.groupSt g = 1 ∧ fld vm 7 5 = 0 ∧ s.pwr.stopIn = true) ∧
  (∃ (g : Fin 4) (vm f : Nat) (s : State), s.groupSt g ≠ 1) ∧
  (∃ (g : Fin 4) (vm f : Nat) (s : State), s.groupSt g = 1 ∧ fld vm 7 5 ≠ 0) ∧
  (∃ (g : Fin 4) (f : Nat) (s : State), s.groupSt g = 1) ∧
  (∃ (g : Fin 4) (f : Nat) (s : State), s.groupSt g ≠ 1) ∧
  (∃ (g : Fin 4) (s : State), s.groupSt g = 2) ∧
  (∃ (g : Fin 4) (s : State), s.groupSt g ≠ 2) ∧
  (∃ (src : Req) (g : Fin 4) (s : State), s.cutOff src = false ∧ s.pwr.stopIn = true) ∧
  (∃ (src : Req) (g : Fin 4) (s : State), s.cutOff src = false ∧ s.pwr.stopIn = false ∧ s.groupSt g = 3 ∧
     s.ntcOff g = false) ∧
  (∃ (src : Req) (q : Nat) (s : State), s.cutOff src = false ∧
     (isHost src = false ∨ fld (s.rd Reg.LAMPSEQ_PUSH_ENTRY) 15 0 < 0x8000) ∧
     q = fld (s.rd Reg.LAMPSEQ_PUSH_ENTRY) 20 20 ∧ (s.lampQueue q).length < 16) ∧
  (∃ (src : Req) (s : State), s.cutOff src = false ∧ isHost src = true ∧
     0x8000 ≤ fld (s.rd Reg.LAMPSEQ_PUSH_ENTRY) 15 0) ∧
  (∃ (src : Req) (q : Nat) (s : State), s.cutOff src = false ∧
     (isHost src = false ∨ fld (s.rd Reg.LAMPSEQ_PUSH_ENTRY) 15 0 < 0x8000) ∧
     q = fld (s.rd Reg.LAMPSEQ_PUSH_ENTRY) 20 20 ∧ 16 ≤ (s.lampQueue q).length) ∧
  (∃ (src : Req) (port : Fin 2) (s : State), s.cutOff src = false ∧ s.lampQueue port ≠ []) :=
  ⟨⟨.pf0, 1, { mkS [] with pwr := { sys24 := true } }, by decide⟩,
   ⟨.pf0, 1, mkS [(Reg.STATUS (Reg.pageLAMP 1), 0x20)], by decide⟩,
   ⟨.pf0, 1, mkS [(Reg.STATUS (Reg.pageLAMP 1), 0x20), (Reg.LAMP_CH_OUT 1 3, 55)], by decide⟩,
   ⟨1, 0x18, 1, { mkS [(Reg.STATUS (Reg.pageLAMP 1), 0x10)] with pwr := { stopIn := false } }, by decide⟩,
   ⟨1, 0x18, 1, { mkS [(Reg.STATUS (Reg.pageLAMP 1), 0x10)] with pwr := { stopIn := true } }, by decide⟩,
   ⟨1, 0x18, 1, mkS [], by decide⟩,
   ⟨1, 0x40, 1, mkS [(Reg.STATUS (Reg.pageLAMP 1), 0x10)], by decide⟩,
   ⟨1, 2, mkS [(Reg.STATUS (Reg.pageLAMP 1), 0x10)], by decide⟩,
   ⟨1, 2, mkS [], by decide⟩,
   ⟨1, mkS [(Reg.STATUS (Reg.pageLAMP 1), 0x20)], by decide⟩,
   ⟨1, mkS [], by decide⟩,
   ⟨.pf0, 1, { mkS [] with pwr := { stopIn := true } }, by decide⟩,
   ⟨.pf0, 1, { mkS [(Reg.STATUS (Reg.pageLAMP 1), 0x30)] with pwr := { stopIn := false } }, by decide⟩,
   ⟨.pf0, 1, mkS [(Reg.LAMPSEQ_PUSH_ENTRY, 0x120005), (Reg.LAMPSEQ_PUSH_CURRENT, 900)], by decide⟩,
   ⟨.pf0, mkS [(Reg.LAMPSEQ_PUSH_ENTRY, 0x12F005)], by decide⟩,
   ⟨.pf0, 0, { mkS [(Reg.LAMPSEQ_PUSH_ENTRY, 5)] with lamp := { queues := [(0, List.replicate 16 { plan := 1, band := 2, current := 3 })] } }, by decide⟩,
   ⟨.pf0, 0, { mkS [(Reg.LAMPSEQ_QUEUE_STATUS, 5)] with lamp := { queues := [(0, List.replicate 5 { plan := 1, band := 2, current := 3 })] } }, by decide⟩⟩

theorem witness_LampDrive :
  (∃ (ch : Fin 64) (t : Nat) (s : State), s.groupSt (ch.val / 16) = 2 ∧ (s.lampCh ch).due ≤ t ∧
     (s.till t).lampOff ch t = true) ∧
  (∃ (ch : Fin 64) (t : Nat) (code duty : Nat) (s : State), s.groupSt (ch.val / 16) = 2 ∧ (s.lampCh ch).due ≤ t ∧
     s.blanked 0 ch = false ∧ s.blanked 1 ch = false ∧ (s.till t).lampOff ch t = false ∧
     (s.till t).lampDrive ch = (code, duty)) ∧
  (∃ (ch : Fin 64) (t : Nat) (s : State), (s.groupSt (ch.val / 16) ≠ 2 ∨ t < (s.lampCh ch).due)) ∧
  (∃ (g : Fin 4) (f : Fin 4) (v old n : Nat) (s : State), s.groupSt g = 2 ∧
     s.bit (Reg.LAMP_GROUP_STATUS g) 10 = false ∧ f.val ≠ 3 ∧ (s.lampGroup g).vmin = some v ∧ 400 ≤ v ∧
     old = s.rdF (Reg.LAMP_VOUT_SET g) 15 0 ∧
     n =
     (old + clampI (-(s.rdF (Reg.LAMP_HEADROOM g) 27 16 : Int)) (s.rdF (Reg.LAMP_HEADROOM g) 27 16) (clampI (s.rdF (Reg.LAMP_VOUT_LIMITS g) 15 0) (s.rdF (Reg.LAMP_VOUT_LIMITS g) 31 16) ((old : Int) - ((v : Int) - s.rdF (Reg.LAMP_HEADROOM g) 11 0)) - old)).toNat) ∧
  (∃ (g : Fin 4) (f : Fin 4) (v old n : Nat) (s : State), s.groupSt g = 2 ∧
     s.bit (Reg.LAMP_GROUP_STATUS g) 10 = false ∧ f.val ≠ 3 ∧ (s.lampGroup g).vmin = some v ∧ v < 400 ∧
     old = s.rdF (Reg.LAMP_VOUT_SET g) 15 0 ∧
     n =
     (clampI (s.rdF (Reg.LAMP_VOUT_LIMITS g) 15 0) (s.rdF (Reg.LAMP_VOUT_LIMITS g) 31 16) ((old : Int) - ((v : Int) - s.rdF (Reg.LAMP_HEADROOM g) 11 0))).toNat) ∧
  (∃ (g : Fin 4) (s : State), s.groupSt g = 2 ∧ s.bit (Reg.LAMP_GROUP_STATUS g) 10 = false) ∧
  (∃ (g : Fin 4) (f : Fin 4) (s : State), (s.groupSt g ≠ 2 ∨ s.bit (Reg.LAMP_GROUP_STATUS g) 10 = true)) ∧
  (∃ (g : Fin 4) (s : State), s.groupSt g ≠ 2 ∧ s.groupSt g ≠ 4) :=
  ⟨⟨18, 99, mkS [(Reg.STATUS (Reg.pageLAMP 1), 0x20), (Reg.LAMP_CH_OUT 1 2, 9)], by decide⟩,
   ⟨18, 99, 0, 0, { mkS [(Reg.STATUS (Reg.pageLAMP 1), 0x20), (Reg.LAMP_CH_CFG 1 2, 1)] with pwr := { stopIn := false } }, by decide⟩,
   ⟨18, 99, mkS [], by decide⟩,
   ⟨1, 1, 500, 20000, 20100, { mkS [(Reg.STATUS (Reg.pageLAMP 1), 0x20), (Reg.LAMP_VOUT_SET 1, 20000), (Reg.LAMP_VOUT_LIMITS 1, 0x9C402710), (Reg.LAMP_HEADROOM 1, 0x640320)] with lamp := { groups := [(1, { vmin := some 500 })] } }, by decide⟩,
   ⟨1, 1, 300, 20000, 20500, { mkS [(Reg.STATUS (Reg.pageLAMP 1), 0x20), (Reg.LAMP_VOUT_SET 1, 20000), (Reg.LAMP_VOUT_LIMITS 1, 0x9C402710), (Reg.LAMP_HEADROOM 1, 0x640320)] with lamp := { groups := [(1, { vmin := some 300 })] } }, by decide⟩,
   ⟨1, mkS [(Reg.STATUS (Reg.pageLAMP 1), 0x20)], by decide⟩,
   ⟨1, 0, mkS [], by decide⟩,
   ⟨1, mkS [], by decide⟩⟩

theorem witness_LampDiagnostics :
  (∃ (ch : Fin 64) (mv ua : Nat) (s : State), s.groupSt (ch.val / 16) = 2 ∧ 3200 ≤ s.lampOn ch ∧
     s.latched ch = false ∧ s.rdF (Reg.LAMP_CH_OUT (ch.val / 16) (ch.val % 16)) 11 0 * 2000000 ≤ ua * 2 * 4095 ∧
     (s.binWord ch 2 % 65536 = 0 ∨
     (s.binWord ch 2 % 65536 : Int) ≤ 2 * ((s.rdF (Reg.LAMP_BUS_MEAS (ch.val / 16)) 15 0 : Int) - mv))) ∧
  (∃ (ch : Fin 64) (mv ua : Nat) (s : State), s.groupSt (ch.val / 16) = 2 ∧ 3200 ≤ s.lampOn ch ∧
     s.latched ch = false ∧ ua * 2 * 4095 < s.rdF (Reg.LAMP_CH_OUT (ch.val / 16) (ch.val % 16)) 11 0 * 2000000 ∧
     400 ≤ (match (s.lampGroup (ch.val / 16)).vmin with | none => mv | some v => min v mv) ∧
     s.bit (Reg.LAMP_GROUP_STATUS (ch.val / 16)) 10 = false ∧ 2 ≤ (s.lampCh ch).fails) ∧
  (∃ (ch : Fin 64) (mv ua : Nat) (s : State), (s.groupSt (ch.val / 16) ≠ 2 ∨ s.lampOn ch < 3200 ∨ s.latched ch =
     true)) ∧
  (∃ (g : Fin 4) (t : Nat) (s : State), (∀ i ∈ List.range 16, (s.till t).probeable (16 * g + i) = false)) ∧
  (∃ (g : Fin 4) (t : Nat) (s : State), (∀ i ∈ List.range 16, (s.lampCh (16 * g + i)).want = false) ∧
     (s.till t).probeable (16 * g + (s.lampGroup g).next % 16) = true ∧
     (s.till t).probeFree (16 * g + (s.lampGroup g).next % 16) t = true) ∧
  (∃ (src : Req) (ch : Fin 64) (t : Nat) (s : State), s.cutOff src = false ∧ (s.till t).probeable ch = true ∧
     (s.till t).probeFree ch t = true) ∧
  (∃ (src : Req) (ch : Fin 64) (t : Nat) (s : State), s.cutOff src = false ∧
     ((s.till t).probeable ch && (s.till t).probeFree ch t) = false) ∧
  (∃ (ch : Fin 64) (mv ua : Nat) (s : State), (s.lampCh ch).probing = true ∧ 500 ≤ ua ∧
     s.rdF (Reg.LAMP_PROBE_CFG (ch.val / 16)) 15 0 ≤ mv) ∧
  (∃ (ch : Fin 64) (mv ua : Nat) (s : State), (s.lampCh ch).probing = true ∧ ua < 500 ∧ 1 ≤ (s.lampCh ch).probeFails) ∧
  (∃ (ch : Fin 64) (s : State), (s.lampCh ch).probing = true) ∧
  (∃ (ch : Fin 64) (s : State), (s.lampCh ch).probing = false) ∧
  (∃ (ch : Fin 64) (s : State), s.groupSt (ch.val / 16) = 2 ∧ s.diagSt ch = 2) ∧
  (∃ (src : Req) (ch : Fin 64) (s : State), s.cutOff src = false ∧ s.latched ch = true ∧ s.lampMode ch ≠ 0) ∧
  (∃ (src : Req) (ch : Fin 64) (s : State), s.cutOff src = false ∧ s.latched ch = false) :=
  ⟨⟨18, 900, 700, { mkS [(Reg.STATUS (Reg.pageLAMP 1), 0x20)] with lamp := { chans := [(18, { pulses := [(0, 4000)] })] } }, by decide⟩,
   ⟨18, 900, 0, { mkS [(Reg.STATUS (Reg.pageLAMP 1), 0x20), (Reg.LAMP_CH_OUT 1 2, 0x80)] with lamp := { chans := [(18, { pulses := [(0, 4000)], fails := 2 })] } }, by decide⟩,
   ⟨18, 900, 0, mkS [], by decide⟩,
   ⟨1, 50, mkS [], by decide⟩,
   ⟨1, 50, mkS [(Reg.STATUS (Reg.pageLAMP 1), 0x20)], by decide⟩,
   ⟨.pf0, 18, 50, mkS [(Reg.STATUS (Reg.pageLAMP 1), 0x20)], by decide⟩,
   ⟨.pf0, 18, 50, mkS [], by decide⟩,
   ⟨18, 60000, 900, { mkS [(Reg.STATUS (Reg.pageLAMP 1), 0x20)] with lamp := { chans := [(18, { probing := true, probeFails := 1 })] } }, by decide⟩,
   ⟨18, 60000, 0, { mkS [(Reg.STATUS (Reg.pageLAMP 1), 0x20)] with lamp := { chans := [(18, { probing := true, probeFails := 1 })] } }, by decide⟩,
   ⟨18, { mkS [(Reg.STATUS (Reg.pageLAMP 1), 0x20)] with lamp := { chans := [(18, { probing := true, probeFails := 1 })] } }, by decide⟩,
   ⟨18, mkS [], by decide⟩,
   ⟨18, mkS [(Reg.STATUS (Reg.pageLAMP 1), 0x20), (diagKey 18, 2)], by decide⟩,
   ⟨.pf0, 18, mkS [(diagKey 18, 4), (Reg.LAMP_CH_CFG 1 2, 1)], by decide⟩,
   ⟨.pf0, 18, mkS [], by decide⟩⟩

set_option Elab.async false in
theorem witness_CameraPorts :
  (∃ (src : Req) (p : Fin 2) (s : State), s.cutOff src = false ∧ s.camSt p = 0 ∧ s.modState ≠ 7) ∧
  (∃ (src : Req) (p : Fin 2) (s : State), s.cutOff src = false ∧ (s.camSt p ≠ 0 ∨ s.modState = 7)) ∧
  (∃ (src : Req) (p : Fin 2) (s : State), s.cutOff src = false) ∧
  (∃ (p : Fin 2) (ma : Nat) (s : State), s.camSt p = 1) ∧
  (∃ (p : Fin 2) (ma : Nat) (s : State), s.camSt p ≠ 1) ∧
  (∃ (p : Fin 2) (ma : Nat) (s : State), 1 ≤ s.camSt p ∧ s.camSt p ≤ 4) ∧
  (∃ (p : Fin 2) (ma : Nat) (s : State), (s.camSt p = 0 ∨ s.camSt p = 5)) ∧
  (∃ (p : Fin 2) (s : State), s.camSt p = 2) ∧
  (∃ (p : Fin 2) (blocks : List (Nat × Nat)) (map inv skew : Nat) (s : State), s.camSt p = 3 ∧ skew ≤ 16 ∧
     readAlignSet blocks = some (map, inv) ∧ (s.camPort p).aligned = 0) ∧
  (∃ (p : Fin 2) (blocks : List (Nat × Nat)) (map inv skew : Nat) (s : State), s.camSt p = 3 ∧ skew ≤ 16 ∧
     readAlignSet blocks = some (map, inv) ∧ 1 ≤ (s.camPort p).aligned) ∧
  (∃ (p : Fin 2) (blocks : List (Nat × Nat)) (map inv skew : Nat) (s : State), s.camSt p = 3 ∧ 16 < skew ∧
     readAlignSet blocks = some (map, inv)) ∧
  (∃ (p : Fin 2) (blocks : List (Nat × Nat)) (skew : Nat) (s : State), s.camSt p = 3 ∧ readAlignSet blocks = none) ∧
  (∃ (p : Fin 2) (blocks : List (Nat × Nat)) (skew : Nat) (s : State), s.camSt p ≠ 3 ∧ s.camSt p ≠ 4) ∧
  (∃ (p : Fin 2) (s : State), s.camSt p = 4) ∧
  (∃ (p : Fin 2) (s : State), s.camSt p ≠ 4) ∧
  (∃ (src : Req) (p : Fin 2) (s : State), s.cutOff src = false ∧ s.rdF (Reg.CAM_CCI_STATUS p) 2 0 = 1) ∧
  (∃ (src : Req) (p : Fin 2) (s : State), s.cutOff src = false ∧ s.rdF (Reg.CAM_CCI_STATUS p) 2 0 ≠ 1) ∧
  (∃ (p : Fin 2) (b : Nat) (s : State), s.camSt p = 4 ∧ camStray b = false ∧ s.rdF (Reg.CAM_CCI_STATUS p) 2 0 = 1 ∧
     s.cciAnswers p b = true) ∧
  (∃ (p : Fin 2) (b : Nat) (s : State), s.camSt p = 4 ∧ camStray b = true) ∧
  (∃ (p : Fin 2) (b : Nat) (s : State), (s.camSt p ≠ 4 ∨ (camStray b = false ∧
     (s.rdF (Reg.CAM_CCI_STATUS p) 2 0 ≠ 1 ∨ s.cciAnswers p b = false)))) ∧
  (∃ (p : Fin 2) (s : State), s.rdF (Reg.CAM_CCI_STATUS p) 2 0 = 1) :=
  ⟨⟨.pf0, 1, mkS [], by decide⟩,
   ⟨.pf0, 1, mkS [(Reg.STATUS (Reg.pageCAM 1), 64)], by decide⟩,
   ⟨.pf0, 1, { mkS [(Reg.STATUS (Reg.pageCAM 1), 64)] with cam := { ports := [(1, { locked := [0, 1, 2, 3], frames := [{ id := 0, vc := 2, num := 7, ctx := 0, fsFrc := 5 }] })] } }, by decide⟩,
   ⟨1, 300, mkS [(Reg.STATUS (Reg.pageCAM 1), 16)], by decide⟩,
   ⟨1, 300, mkS [], by decide⟩,
   ⟨1, 900, mkS [(Reg.STATUS (Reg.pageCAM 1), 48)], by decide⟩,
   ⟨1, 900, mkS [], by decide⟩,
   ⟨1, mkS [(Reg.STATUS (Reg.pageCAM 1), 32)], by decide⟩,
   ⟨1, [(controlHeader, alignBlock 0), (controlHeader, alignBlock 1), (controlHeader, alignBlock 2), (controlHeader, alignBlock 3)], 0xE4, 0, 5, mkS [(Reg.STATUS (Reg.pageCAM 1), 48)], by decide +kernel⟩,
   ⟨1, [(dataHeader, 2 ^ 64 - 1 - alignBlock 0), (controlHeader, alignBlock 2), (controlHeader, alignBlock 1), (controlHeader, alignBlock 3)], 0xD8, 1, 5, { mkS [(Reg.STATUS (Reg.pageCAM 1), 48)] with cam := { ports := [(1, { aligned := 1 })] } }, by decide +kernel⟩,
   ⟨1, [(controlHeader, alignBlock 0), (controlHeader, alignBlock 1), (controlHeader, alignBlock 2), (controlHeader, alignBlock 3)], 0xE4, 0, 17, mkS [(Reg.STATUS (Reg.pageCAM 1), 48)], by decide +kernel⟩,
   ⟨1, [(controlHeader, 5)], 3, mkS [(Reg.STATUS (Reg.pageCAM 1), 48)], by decide⟩,
   ⟨1, [(controlHeader, alignBlock 0), (controlHeader, alignBlock 1), (controlHeader, alignBlock 2), (controlHeader, alignBlock 3)], 3, mkS [(Reg.STATUS (Reg.pageCAM 1), 32)], by decide⟩,
   ⟨1, mkS [(Reg.STATUS (Reg.pageCAM 1), 64)], by decide⟩,
   ⟨1, mkS [], by decide⟩,
   ⟨.pf0, 1, mkS [(Reg.CAM_CCI_STATUS 1, 1)], by decide⟩,
   ⟨.pf0, 1, mkS [], by decide⟩,
   ⟨1, (withCrc8 0x7700003412010155), { mkS [(Reg.STATUS (Reg.pageCAM 1), 64), (Reg.CAM_CCI_STATUS 1, 1), (Reg.CAM_CCI_CMD 1, 0x100)] with cam := { ports := [(1, { cci := some (1, 0x3412) })] } }, by decide +kernel⟩,
   ⟨1, 0x77, mkS [(Reg.STATUS (Reg.pageCAM 1), 64)], by decide⟩,
   ⟨1, 0x77, mkS [], by decide⟩,
   ⟨1, mkS [(Reg.CAM_CCI_STATUS 1, 1)], by decide⟩⟩

set_option Elab.async false in
theorem witness_CameraFramesAndRecords :
  (∃ (p : Fin 2) (vc : Fin 16) (num t : Nat) (co : Bool) (s : State), s.camSt p = 4 ∧ s.mapped p vc = false ∧
     (s.camPort p).records = [] ∧ (s.camPort p).mapWait = [] ∧ (s.camPort p).frames = []) ∧
  (∃ (p : Fin 2) (vc : Fin 16) (num t : Nat) (co : Bool) (s : State), s.camSt p = 4 ∧ s.mapped p vc = true ∧
     (s.camPort p).records = [] ∧ (s.camPort p).mapWait = [] ∧ (s.camPort p).frames = []) ∧
  (∃ (p : Fin 2) (vc : Fin 16) (num t : Nat) (co : Bool) (r : TrigRecord) (s : State), s.camSt p = 4 ∧
     s.mapped p vc = true ∧ (s.camPort p).records = [r] ∧ r.num % 65536 = num % 65536 ∧
     r.seen.contains vc.val = false ∧ (s.camPort p).mapWait = [] ∧ (s.camPort p).frames = [] ∧
     s.frameDue (Reg.pageCAM p) (num % 65536) = false ∧ s.frameDue Reg.pageISP (num % 65536) = false ∧
     s.frameDue (Reg.pageISPCTX (s.streamMap p vc % 16)) (num % 65536) = false) ∧
  (∃ (p : Fin 2) (vc : Fin 16) (num t : Nat) (co : Bool) (s : State), s.camSt p ≠ 4) ∧
  (∃ (p : Fin 2) (k : CamPacket) (f : CamFrame) (s : State), s.camSt p = 4 ∧ pktStrays k = 0 ∧ k.eccBad = false ∧
     k.eccCorrected = false ∧ s.mapped p (pktVc k) = true ∧ (s.camPort p).frames = [f] ∧ f.vc = pktVc k ∧
     f.ended = false ∧ f.dropped = false ∧ pktType k = 0x2A + fld f.cfg 1 0 ∧ k.crcOk = true ∧ pktLengthOk k = true ∧
     8 * pktWc k = f.width * f.bits ∧ f.received < f.height ∧ bitOf f.cfg 12 = false ∧
     (s.camPort p).level + pktWc k ≤ 262144) ∧
  (∃ (p : Fin 2) (k : CamPacket) (f : CamFrame) (s : State), s.camSt p = 4 ∧ pktStrays k = 0 ∧ k.eccBad = false ∧
     k.eccCorrected = false ∧ s.mapped p (pktVc k) = true ∧ (s.camPort p).frames = [f] ∧ f.vc = pktVc k ∧
     f.ended = false ∧ f.dropped = false ∧ 0x2A ≤ pktType k ∧ pktType k ≤ 0x2D ∧ (k.crcOk && pktLengthOk k) = false) ∧
  (∃ (p : Fin 2) (k : CamPacket) (s : State), s.camSt p ≠ 4) ∧
  (∃ (p : Fin 2) (vc : Fin 16) (num : Nat) (co : Bool) (f : CamFrame) (s : State), (s.camPort p).frames = [f] ∧
     f.vc = vc.val ∧ f.ended = false ∧ f.dropped = false ∧ f.received = f.height ∧ f.lineOpen = false ∧
     f.lines.length ≠ f.height) ∧
  (∃ (p : Fin 2) (vc : Fin 16) (num : Nat) (co : Bool) (f : CamFrame) (s : State), (s.camPort p).frames = [f] ∧
     f.vc = vc.val ∧ f.ended = false ∧ f.dropped = false ∧ f.received = f.height ∧ f.lineOpen = false ∧
     f.lines.length = f.height ∧ f.rec_.isSome = true) ∧
  (∃ (p : Fin 2) (vc : Fin 16) (num : Nat) (co : Bool) (f : CamFrame) (s : State), (s.camPort p).frames = [f] ∧
     f.vc = vc.val ∧ f.ended = false ∧ f.dropped = false ∧ f.received ≠ f.height) ∧
  (∃ (p : Fin 2) (vc : Fin 16) (f : CamFrame) (s : State), (s.camPort p).frames = [f] ∧ f.vc = vc.val ∧
     f.ended = false ∧ f.dropped = false) ∧
  (∃ (p : Fin 2) (r : TrigRecord) (rs : List TrigRecord) (s : State), (s.camPort p).records = r :: rs ∧
     ((s.enabledVcs p).filter (fun v => !r.seen.contains v)).length ≠ 0) ∧
  (∃ (p : Fin 2) (l : FifoLine) (ls : List FifoLine) (f : CamFrame) (s : State), s.ispPort = p.val ∧
     (s.camPort p).fifo = l :: ls ∧ (s.camPort p).frames = [f] ∧ f.id = l.frame ∧ f.dropped = false ∧ f.ended = false) ∧
  (∃ (p : Fin 2) (s : State), (s.ispPort ≠ p.val ∨ (s.camPort p).fifo = [])) ∧
  (∃ (ctx : Fin 16) (s : State), s.cam.done.find? (fun e => e.2.ctx == ctx.val) = none) ∧
  (∃ (ctx : Fin 16) (port : Nat) (f : CamFrame) (r : TrigRecord) (s : State),
     s.cam.done.find? (fun e => e.2.ctx == ctx.val) = some (port, f) ∧ f.rec_ = some r ∧
     (s.rd Reg.STATS_WRITE_IDX + 1) % s.ringSlots = s.rd Reg.STATS_READ_IDX_HOST) ∧
  (∃ (ctx : Fin 16) (port : Nat) (f : CamFrame) (r : TrigRecord) (s : State),
     s.cam.done.find? (fun e => e.2.ctx == ctx.val) = some (port, f) ∧ f.rec_ = some r ∧
     (s.rd Reg.STATS_WRITE_IDX + 1) % s.ringSlots ≠ s.rd Reg.STATS_READ_IDX_HOST ∧
     (s.scalerEn = false ∨ (s.rd Reg.STATS_WRITE_IDX + 1) % s.ringSlots ≠ s.rd Reg.STATS_READ_IDX_SCALER) ∧
     s.inRegion 58 (s.recordAddr (s.rd Reg.STATS_WRITE_IDX)) 49152 = true ∧ s.bit Reg.ISP_OUT_MASK f.ctx = false ∧
     s.poisonedIn (s.recordAddr (s.rd Reg.STATS_WRITE_IDX)) 1 = false ∧
     s.poisonedIn (s.recordAddr (s.rd Reg.STATS_WRITE_IDX) + 4 * (recordWords f r port s.cam.seq none).length - 1) 1 =
     false) ∧
  (∃ (src : Req) (data : Nat) (s : State), s.cutOff src = false ∧ data % 2 ^ 14 < s.ringSlots ∧
     ringGap s.ringSlots (data % 2 ^ 14) (s.rd Reg.STATS_READ_IDX_HOST) ≤ ringGap s.ringSlots (s.rd Reg.STATS_WRITE_IDX) (s.rd Reg.STATS_READ_IDX_HOST)) ∧
  (∃ (src : Req) (data : Nat) (s : State), s.cutOff src = false ∧
     (s.ringSlots ≤ data % 2 ^ 14 ∨
     ¬ (ringGap s.ringSlots (data % 2 ^ 14) (s.rd Reg.STATS_READ_IDX_HOST) ≤ ringGap s.ringSlots (s.rd Reg.STATS_WRITE_IDX) (s.rd Reg.STATS_READ_IDX_HOST)))) :=
  ⟨⟨1, 2, 7, 9, true, mkS [(Reg.STATUS (Reg.pageCAM 1), 64)], by decide⟩,
   ⟨1, 2, 7, 9, true, mkS [(Reg.STATUS (Reg.pageCAM 1), 64), (Reg.CAM_STREAM_MAP 1 0, 0x830000)], by decide⟩,
   ⟨1, 2, 7, 9, true, { num := 7, frc := 5, line := 3, plan := 1, expNs := 500, band := 2, current := 9 }, { mkS [(Reg.STATUS (Reg.pageCAM 1), 64), (Reg.CAM_STREAM_MAP 1 0, 0x830000)] with cam := { ports := [(1, { records := [{ num := 7, frc := 5, line := 3, plan := 1, expNs := 500, band := 2, current := 9 }] })] } }, by decide⟩,
   ⟨1, 2, 7, 9, true, mkS [], by decide⟩,
   ⟨1, { blocks := [(2, 0x10AA33), (1, 5), (1, 6), (1, 7), (2, 0x24B)], vcKnown := true, eccCorrected := false, eccBad := false, crcOk := true }, { id := 4, vc := 2, num := 7, ctx := 3, fsFrc := 5, regs := [(Reg.ISPCTX_GEOMETRY 3, BitVec.ofNat 32 0x00020010)] }, { mkS [(Reg.STATUS (Reg.pageCAM 1), 64), (Reg.CAM_STREAM_MAP 1 0, 0x830000)] with cam := { ports := [(1, { frames := [{ id := 4, vc := 2, num := 7, ctx := 3, fsFrc := 5, regs := [(Reg.ISPCTX_GEOMETRY 3, BitVec.ofNat 32 0x00020010)] }] })] } }, by decide⟩,
   ⟨1, { blocks := [(2, 0x10AA33), (1, 5), (1, 6), (1, 7), (2, 0x24B)], vcKnown := true, eccCorrected := false, eccBad := false, crcOk := false }, { id := 4, vc := 2, num := 7, ctx := 3, fsFrc := 5, regs := [(Reg.ISPCTX_GEOMETRY 3, BitVec.ofNat 32 0x00020010)] }, { mkS [(Reg.STATUS (Reg.pageCAM 1), 64), (Reg.CAM_STREAM_MAP 1 0, 0x830000)] with cam := { ports := [(1, { frames := [{ id := 4, vc := 2, num := 7, ctx := 3, fsFrc := 5, regs := [(Reg.ISPCTX_GEOMETRY 3, BitVec.ofNat 32 0x00020010)] }] })] } }, by decide⟩,
   ⟨1, { blocks := [(2, 0x10AA33), (1, 5), (1, 6), (1, 7), (2, 0x24B)], vcKnown := true, eccCorrected := false, eccBad := false, crcOk := true }, mkS [], by decide⟩,
   ⟨1, 2, 7, false, { id := 4, vc := 2, num := 7, ctx := 3, fsFrc := 5, received := 2, regs := [(Reg.ISPCTX_GEOMETRY 3, BitVec.ofNat 32 0x00020010)] }, { mkS [(Reg.STATUS (Reg.pageCAM 1), 64), (Reg.CAM_STREAM_MAP 1 0, 0x830000)] with cam := { ports := [(1, { frames := [{ id := 4, vc := 2, num := 7, ctx := 3, fsFrc := 5, received := 2, regs := [(Reg.ISPCTX_GEOMETRY 3, BitVec.ofNat 32 0x00020010)] }] })] } }, by decide⟩,
   ⟨1, 2, 7, false, { id := 4, vc := 2, num := 7, ctx := 3, fsFrc := 5, received := 2, lines := [[1], [2]], rec_ := some { num := 7, frc := 5, line := 3, plan := 1, expNs := 500, band := 2, current := 9 }, regs := [(Reg.ISPCTX_GEOMETRY 3, BitVec.ofNat 32 0x00020010)] }, { mkS [(Reg.STATUS (Reg.pageCAM 1), 64), (Reg.CAM_STREAM_MAP 1 0, 0x830000)] with cam := { ports := [(1, { frames := [{ id := 4, vc := 2, num := 7, ctx := 3, fsFrc := 5, received := 2, lines := [[1], [2]], rec_ := some { num := 7, frc := 5, line := 3, plan := 1, expNs := 500, band := 2, current := 9 }, regs := [(Reg.ISPCTX_GEOMETRY 3, BitVec.ofNat 32 0x00020010)] }] })] } }, by decide⟩,
   ⟨1, 2, 7, false, { id := 4, vc := 2, num := 7, ctx := 3, fsFrc := 5, regs := [(Reg.ISPCTX_GEOMETRY 3, BitVec.ofNat 32 0x00020010)] }, { mkS [(Reg.STATUS (Reg.pageCAM 1), 64), (Reg.CAM_STREAM_MAP 1 0, 0x830000)] with cam := { ports := [(1, { frames := [{ id := 4, vc := 2, num := 7, ctx := 3, fsFrc := 5, regs := [(Reg.ISPCTX_GEOMETRY 3, BitVec.ofNat 32 0x00020010)] }] })] } }, by decide⟩,
   ⟨1, 2, { id := 4, vc := 2, num := 7, ctx := 3, fsFrc := 5, regs := [(Reg.ISPCTX_GEOMETRY 3, BitVec.ofNat 32 0x00020010)] }, { mkS [(Reg.STATUS (Reg.pageCAM 1), 64), (Reg.CAM_STREAM_MAP 1 0, 0x830000)] with cam := { ports := [(1, { frames := [{ id := 4, vc := 2, num := 7, ctx := 3, fsFrc := 5, regs := [(Reg.ISPCTX_GEOMETRY 3, BitVec.ofNat 32 0x00020010)] }] })] } }, by decide⟩,
   ⟨1, { num := 7, frc := 5, line := 3, plan := 1, expNs := 500, band := 2, current := 9 }, [], { mkS [(Reg.STATUS (Reg.pageCAM 1), 64), (Reg.CAM_STREAM_MAP 1 0, 0x830000)] with cam := { ports := [(1, { records := [{ num := 7, frc := 5, line := 3, plan := 1, expNs := 500, band := 2, current := 9 }] })] } }, by decide⟩,
   ⟨1, { frame := 4, bytes := 16, pixels := [1, 2] }, [], { id := 4, vc := 2, num := 7, ctx := 3, fsFrc := 5, regs := [(Reg.ISPCTX_GEOMETRY 3, BitVec.ofNat 32 0x00020010)] }, { mkS [(Reg.STATUS (Reg.pageCAM 1), 64), (Reg.CAM_STREAM_MAP 1 0, 0x830000)] with cam := { ports := [(1, { frames := [{ id := 4, vc := 2, num := 7, ctx := 3, fsFrc := 5, regs := [(Reg.ISPCTX_GEOMETRY 3, BitVec.ofNat 32 0x00020010)] }], fifo := [{ frame := 4, bytes := 16, pixels := [1, 2] }] })] } }, by decide⟩,
   ⟨1, mkS [], by decide⟩,
   ⟨3, mkS [], by decide⟩,
   ⟨3, 1, { id := 4, vc := 2, num := 7, ctx := 3, fsFrc := 5, regs := [(Reg.ISPCTX_GEOMETRY 3, BitVec.ofNat 32 0x00020010)], rec_ := some { num := 7, frc := 5, line := 3, plan := 1, expNs := 500, band := 2, current := 9 } }, { num := 7, frc := 5, line := 3, plan := 1, expNs := 500, band := 2, current := 9 }, { mkS [(Reg.STATS_RING_SLOTS, 1)] with cam := { done := [(1, { id := 4, vc := 2, num := 7, ctx := 3, fsFrc := 5, regs := [(Reg.ISPCTX_GEOMETRY 3, BitVec.ofNat 32 0x00020010)], rec_ := some { num := 7, frc := 5, line := 3, plan := 1, expNs := 500, band := 2, current := 9 } })] } }, by decide⟩,
   ⟨3, 1, { id := 4, vc := 2, num := 7, ctx := 3, fsFrc := 5, regs := [(Reg.ISPCTX_GEOMETRY 3, BitVec.ofNat 32 0x00020010)], rec_ := some { num := 7, frc := 5, line := 3, plan := 1, expNs := 500, band := 2, current := 9 } }, { num := 7, frc := 5, line := 3, plan := 1, expNs := 500, band := 2, current := 9 }, { mkS [(Reg.STATS_RING_SLOTS, 4), (Reg.YARD_REG_SIZE 58, 0x100), (Reg.ISP_OUT_MASK, 0)] with cam := { done := [(1, { id := 4, vc := 2, num := 7, ctx := 3, fsFrc := 5, regs := [(Reg.ISPCTX_GEOMETRY 3, BitVec.ofNat 32 0x00020010)], rec_ := some { num := 7, frc := 5, line := 3, plan := 1, expNs := 500, band := 2, current := 9 } })] } }, by decide +kernel⟩,
   ⟨.pf0, 3, mkS [(Reg.STATS_RING_SLOTS, 8), (Reg.STATS_WRITE_IDX, 5)], by decide⟩,
   ⟨.pf0, 6, mkS [(Reg.STATS_RING_SLOTS, 8), (Reg.STATS_WRITE_IDX, 5)], by decide⟩⟩

theorem witness_ScalerCommands :
  (∃ (l : List (Nat × Nat)) (s : State), bitOf s.colour.cfg 5 = true ∧ s.scalerEn = true ∧
     s.rd Reg.STATS_READ_IDX_SCALER ≠ s.rd Reg.STATS_WRITE_IDX ∧ s.colour.armed = []) ∧
  (∃ (l : List (Nat × Nat)) (g : Trigger) (s : State), bitOf s.colour.cfg 5 = true ∧ s.scalerEn = true ∧
     s.rd Reg.STATS_READ_IDX_SCALER ≠ s.rd Reg.STATS_WRITE_IDX ∧ s.colour.armed = [g] ∧ g.kind = 0 ∧ g.got = 0 ∧
     g.port = fld (s.recWord (s.recordAddr (s.rd Reg.STATS_READ_IDX_SCALER)) 0) 20 20 ∧
     g.plan = fld (s.recWord (s.recordAddr (s.rd Reg.STATS_READ_IDX_SCALER)) 7) 15 0 ∧
     g.band = fld (s.recWord (s.recordAddr (s.rd Reg.STATS_READ_IDX_SCALER)) 7) 19 16 ∧
     s.poisonedIn (s.recordAddr (s.rd Reg.STATS_READ_IDX_SCALER)) (s.recWord (s.recordAddr (s.rd Reg.STATS_READ_IDX_SCALER)) 14) =
     true ∧ 1 + g.lost < (s.enabledVcs g.port).length) ∧
  (∃ (l : List (Nat × Nat)) (s : State), (∀ g ∈ s.colour.armed, s.triggerOver g = false) ∧
     (bitOf s.colour.cfg 5 = false ∨ s.scalerEn = false ∨ s.rd Reg.STATS_READ_IDX_SCALER = s.rd Reg.STATS_WRITE_IDX)) ∧
  (∃ (first last : Nat) (s : State), s.colour.span = some (first, last) ∧
     first + atLeast1 (s.rdF Reg.SCALER_CYCLE_CFG 7 0) ≤ s.rd Reg.SCALER_STRIP_NUM - 1) ∧
  (∃ (first last : Nat) (s : State), s.colour.span = some (first, last) ∧
     s.rd Reg.SCALER_STRIP_NUM - 1 < first + atLeast1 (s.rdF Reg.SCALER_CYCLE_CFG 7 0)) ∧
  (∃ (s : State), s.colour.span = none) ∧
  (∃ (marks : Bool) (s : State), s.colour.sets.find? (fun x => x.2 == marks) = none) ∧
  (∃ (marks : Bool) (x : List Byte × Bool) (s : State), s.colour.sets.find? (fun x => x.2 == marks) = some x ∧
     (s.rdF Reg.SCALER_RESULT_WRITE 7 0 + 1) % s.resultSlots = s.rdF Reg.SCALER_RESULT_READ 7 0) ∧
  (∃ (marks : Bool) (x : List Byte × Bool) (s : State), s.colour.sets.find? (fun x => x.2 == marks) = some x ∧
     (s.rdF Reg.SCALER_RESULT_WRITE 7 0 + 1) % s.resultSlots ≠ s.rdF Reg.SCALER_RESULT_READ 7 0 ∧
     s.inRegion 58 (s.region58 + s.rdF Reg.SCALER_RESULT_BASE 16 0 * 4096 + s.rdF Reg.SCALER_RESULT_WRITE 7 0 * 65536) 65536 =
     true ∧ s.rdF Reg.SCALER_LOOP_CTRL 3 0 = 0 ∧
     (marks = true → ∀ c ∈ channels, smGet (fun _ => none) s.colour.calib c = none) ∧
     s.poisonedIn (s.region58 + s.rdF Reg.SCALER_RESULT_BASE 16 0 * 4096 + s.rdF Reg.SCALER_RESULT_WRITE 7 0 * 65536) 1 =
     false ∧
     s.poisonedIn (s.region58 + s.rdF Reg.SCALER_RESULT_BASE 16 0 * 4096 + s.rdF Reg.SCALER_RESULT_WRITE 7 0 * 65536 + x.1.length - 1) 1 =
     false) ∧
  (∃ (src : Req) (k : Nat) (s : State), s.cutOff src = false ∧ s.writeGate src = none ∧ s.pairMode = false ∧
     k =
     ((s.rd Reg.SCALER_STRIP_NUM : Int) - (-(ldiff (ladd s.nextLine 64) (s.stripStart (s.rd Reg.SCALER_STRIP_NUM)))).fdiv (atLeast1 s.stripPeriod)).toNat) ∧
  (∃ (src : Req) (code : Nat) (s : State), s.cutOff src = false ∧ s.writeGate src = some code) ∧
  (∃ (src : Req) (s : State), s.cutOff src = false ∧ s.writeGate src = none ∧ s.pairMode = false) ∧
  (∃ (src : Req) (code : Nat) (s : State), s.cutOff src = false ∧ s.writeGate src = some code) ∧
  (∃ (src : Req) (c : Fin 128) (s : State), s.cutOff src = false ∧ s.half Reg.SCALER_DRIFT_MEAN c ≠ 0x8000) ∧
  (∃ (src : Req) (c : Fin 128) (s : State), s.cutOff src = false ∧ s.half Reg.SCALER_DRIFT_MEAN c = 0x8000) ∧
  (∃ (c : Fin 128) (t : Nat) (s : State), smGet (fun _ => []) s.colour.temps c = [] ∧
     smGet (fun _ => []) s.colour.bins c = []) ∧
  (∃ (c : Fin 128) (t : Nat) (x : Int) (s : State), smGet (fun _ => []) s.colour.temps c = [x] ∧
     smGet (fun _ => []) s.colour.bins c = [] ∧ s.rdF Reg.SCALER_DRIFT_CFG 15 8 = 1 ∧
     s.half Reg.SCALER_DRIFT_REF c = 0x8000 ∧ unsgn 16 x ≠ 0x8000 ∧ s.colour.reref = []) :=
  ⟨⟨[], { mkS [(Reg.SCALER_SCALER_CFG, 0x20), (Reg.STATS_STATS_CFG, 1), (Reg.STATS_WRITE_IDX, 2), (Reg.STATS_RING_SLOTS, 8)] with colour := { cfg := 0x20 } }, by decide⟩,
   ⟨[], { plan := 0, port := 0, band := 0, strip := 3, kind := 0 }, { mkS [(Reg.SCALER_SCALER_CFG, 0x20), (Reg.STATS_STATS_CFG, 1), (Reg.STATS_WRITE_IDX, 2), (Reg.STATS_RING_SLOTS, 8), (Reg.CAM_STREAM_MAP 0 0, 0x8180), (Reg.YARD_REG_BASE 58, 0)] with colour := { cfg := 0x20, armed := [{ plan := 0, port := 0, band := 0, strip := 3, kind := 0 }] }, dram := { poisoned := [7] }, job := { mem := [(56, 64)] } }, by decide⟩,
   ⟨[], mkS [], by decide⟩,
   ⟨3, 4, { mkS [(Reg.SCALER_STRIP_NUM, 900), (Reg.SCALER_BAND_STATE, 0x51)] with colour := { span := some (3, 4) } }, by decide⟩,
   ⟨3, 4, { mkS [(Reg.SCALER_STRIP_NUM, 5)] with colour := { span := some (3, 4) } }, by decide⟩,
   ⟨mkS [], by decide⟩,
   ⟨true, mkS [], by decide⟩,
   ⟨true, ([1, 2, 3, 4], true), { mkS [(Reg.SCALER_RESULT_SLOTS, 1)] with colour := { sets := [([1, 2, 3, 4], true)] } }, by decide⟩,
   ⟨false, ([1, 2, 3, 4], false), { mkS [(Reg.SCALER_RESULT_SLOTS, 4), (Reg.YARD_REG_SIZE 58, 0x100)] with colour := { sets := [([1, 2, 3, 4], false)] } }, by decide⟩,
   ⟨.pf0, 3, mkS [(Reg.LINE_ADMIT_LINE, 200), (Reg.SCALER_STRIP_PERIOD, 100), (Reg.SCALER_STRIP_NUM, 1)], by decide⟩,
   ⟨.pf0, 8, mkS [(Reg.SYS_CONFIG, 1), (Reg.PAIR_PAIR_STATUS, 0x23)], by decide⟩,
   ⟨.pf0, { mkS [(Reg.SCALER_BAND_STATE, 0x51)] with colour := { span := some (3, 4) } }, by decide⟩,
   ⟨.pf0, 8, mkS [(Reg.SYS_CONFIG, 1), (Reg.PAIR_PAIR_STATUS, 0x23)], by decide⟩,
   ⟨.pf0, 3, { mkS [(Reg.SCALER_DRIFT_MEAN 1, 0x01230045)] with colour := { reref := [3] } }, by decide⟩,
   ⟨.pf0, 3, mkS [(Reg.SCALER_DRIFT_MEAN 1, 0x80000000)], by decide⟩,
   ⟨3, 9, mkS [], by decide⟩,
   ⟨3, 9, 77, { mkS [(Reg.SCALER_DRIFT_CFG, 0x100), (Reg.SCALER_DRIFT_REF 1, 0x80008000)] with colour := { temps := [(3, [77])] } }, by decide⟩⟩

theorem witness_ScreeningCommands :
  (∃ (line : Nat) (plane : Fin 8) (faults : List TileFault) (mism : List (Nat × Nat)) (s : State),
     s.line.prod.find? (fun q => q.line == line) = none) ∧
  (∃ (line : Nat) (plane : Fin 8) (faults : List TileFault) (mism : List (Nat × Nat)) (q : ProdLine) (s : State),
     s.line.prod.find? (fun q => q.line == line) = some q ∧ (q.planes.contains plane.val || q.starved) = true) ∧
  (∃ (line : Nat) (plane : Fin 8) (faults : List TileFault) (q : ProdLine) (s : State),
     s.line.prod.find? (fun q => q.line == line) = some q ∧ q.planes.contains plane.val = false ∧
     q.starved = false ∧
     ({ s with regs := q.regs, scr := q.scr, slots := q.slots, splices := q.splices } : State).planeEn plane = false) ∧
  (∃ (line c : Nat) (plane : Fin 8) (faults : List TileFault) (q : ProdLine) (s : State),
     s.line.prod.find? (fun q => q.line == line) = some q ∧ q.planes.contains plane.val = false ∧
     q.starved = false ∧ s.pairMode = true ∧ ((planeChannels plane).filter q.chans.contains) = [c] ∧
     ({ s with regs := q.regs, scr := q.scr, slots := q.slots, splices := q.splices } : State).lineReads c line ≠ [] ∧
     (∀ r ∈ ({ s with regs := q.regs, scr := q.scr, slots := q.slots, splices := q.splices } : State).lineReads c line,
     ({ s with regs := q.regs, scr := q.scr, slots := q.slots, splices := q.splices } : State).tileLineFault plane faults r =
     some 2)) ∧
  (∃ (line : Nat) (q : ProdLine) (s : State), s.line.prod.find? (fun q => q.line == line) = some q ∧
     q.starved = true ∧
     (({ s with regs := q.regs, splices := q.splices } : State).neededRows line).all s.rowComplete = true) ∧
  (∃ (line : Nat) (q : ProdLine) (s : State), s.line.prod.find? (fun q => q.line == line) = some q ∧
     q.starved = false) ∧
  (∃ (src : Req) (c : Fin 128) (s : State), s.cutOff src = false) :=
  ⟨⟨5, 1, [], [], mkS [], by decide⟩,
   ⟨5, 1, [], [], { line := 5, admitFrc := 1, regs := [], scr := {}, slots := [], splices := [], chans := [3], starved := true }, { mkS [] with line := { prod := [{ line := 5, admitFrc := 1, regs := [], scr := {}, slots := [], splices := [], chans := [3], starved := true }] } }, by decide⟩,
   ⟨5, 1, [], { line := 5, admitFrc := 1, regs := [(Reg.JOB_JOB_CFG, 0)], scr := {}, slots := [], splices := [], chans := [17, 20], absent := [20] }, { mkS [] with line := { prod := [{ line := 5, admitFrc := 1, regs := [(Reg.JOB_JOB_CFG, 0)], scr := {}, slots := [], splices := [], chans := [17, 20], absent := [20] }] } }, by decide⟩,
   ⟨5, 16, 1, [], { line := 5, admitFrc := 1, regs := (State.reset.wrs [(Reg.JOB_JOB_CFG, 0x02000200), (Reg.JOB_PSRC 1, 0x01000100), (Reg.JOB_REP_LENGTH 0, 64)]).regs, scr := {}, slots := [], splices := [], chans := [16] }, { mkS [(Reg.SYS_CONFIG, 1)] with line := { prod := [{ line := 5, admitFrc := 1, regs := (State.reset.wrs [(Reg.JOB_JOB_CFG, 0x02000200), (Reg.JOB_PSRC 1, 0x01000100), (Reg.JOB_REP_LENGTH 0, 64)]).regs, scr := {}, slots := [], splices := [], chans := [16] }] } }, by decide⟩,
   ⟨5, { line := 5, admitFrc := 1, regs := [(Reg.JOB_JOB_CFG, 1)], scr := {}, slots := [], splices := [], chans := [3], starved := true }, { mkS [] with line := { prod := [{ line := 5, admitFrc := 1, regs := [(Reg.JOB_JOB_CFG, 1)], scr := {}, slots := [], splices := [], chans := [3], starved := true }] } }, by decide⟩,
   ⟨5, { line := 5, admitFrc := 1, regs := [(Reg.JOB_JOB_CFG, 0)], scr := {}, slots := [], splices := [], chans := [17, 20], absent := [20] }, { mkS [] with line := { prod := [{ line := 5, admitFrc := 1, regs := [(Reg.JOB_JOB_CFG, 0)], scr := {}, slots := [], splices := [], chans := [17, 20], absent := [20] }] } }, by decide⟩,
   ⟨.pf0, 3, { mkS [(Reg.STATUS (Reg.pageCH 3), 4)] with scr := { fault := [3, 4] } }, by decide⟩⟩

theorem witness_MailboxCommands :
  (∃ (src : Req) (n : Fin 32) (s : State), s.asleep src = false ∧ src ≠ s.mbSender n) ∧
  (∃ (src : Req) (n : Fin 32) (s : State), s.asleep src = false ∧ src ≠ s.mbReceiver n) ∧
  (∃ (src : Req) (n : Fin 32) (s : State), s.asleep src = false ∧ src ≠ s.mbSender n) ∧
  (∃ (src : Req) (n : Fin 32) (s : State), s.asleep src = false ∧ src = s.mbSender n ∧
     (s.mbSt n = 0 ∨ s.mbSt n = 3) ∧ s.outOfRegion n = false ∧ s.mbLen n ≤ s.rdF (kMaxLen n) 24 0 ∧ toModule n = true) ∧
  (∃ (src : Req) (n : Fin 32) (s : State), s.asleep src = false ∧ src = s.mbSender n ∧
     (s.mbSt n = 0 ∨ s.mbSt n = 3) ∧ s.outOfRegion n = false ∧ s.mbLen n ≤ s.rdF (kMaxLen n) 24 0 ∧ toModule n = false) ∧
  (∃ (src : Req) (n : Fin 32) (s : State), s.asleep src = false ∧ src = s.mbSender n ∧
     (s.mbSt n = 0 ∨ s.mbSt n = 3) ∧ s.outOfRegion n = false ∧ s.rdF (kMaxLen n) 24 0 < s.mbLen n ∧ toModule n = true) ∧
  (∃ (src : Req) (n : Fin 32) (s : State), s.asleep src = false ∧ src = s.mbSender n ∧ (s.mbSt n = 1 ∨ s.mbSt n = 2)) ∧
  (∃ (src : Req) (n : Fin 32) (s : State), s.asleep src = false ∧ src = s.mbSender n ∧
     (s.mbSt n = 0 ∨ s.mbSt n = 3) ∧ s.outOfRegion n = true) ∧
  (∃ (src : Req) (n : Fin 32) (s : State), s.asleep src = false ∧ src = s.mbReceiver n ∧ s.mbSt n = 1 ∧
     toModule n = true ∧ s.mbLen n ≠ 0 ∧ s.mbPasidOff n = false) ∧
  (∃ (src : Req) (n : Fin 32) (s : State), s.asleep src = false ∧ src = s.mbReceiver n ∧ s.mbSt n = 1 ∧
     (toModule n = false ∨ s.mbLen n = 0 ∨ s.mbPasidOff n = true)) ∧
  (∃ (src : Req) (n : Fin 32) (s : State), s.asleep src = false ∧ src = s.mbReceiver n ∧ s.mbSt n ≠ 1) ∧
  (∃ (src : Req) (n : Fin 32) (data : Nat) (s : State), s.asleep src = false ∧ src ≠ s.mbReceiver n) ∧
  (∃ (src : Req) (n : Fin 32) (data : Nat) (s : State), s.asleep src = false ∧ src = s.mbReceiver n ∧
     0xFF00 ≤ fld data 15 0) ∧
  (∃ (src : Req) (n : Fin 32) (data : Nat) (s : State), s.asleep src = false ∧ src = s.mbReceiver n ∧
     fld data 15 0 < 0xFF00 ∧ s.mbSt n = 2 ∧ fld data 23 16 = s.mbSeq n ∧ toModule n = true) ∧
  (∃ (src : Req) (n : Fin 32) (data : Nat) (s : State), s.asleep src = false ∧ src = s.mbReceiver n ∧
     fld data 15 0 < 0xFF00 ∧ (s.mbSt n ≠ 2 ∨ fld data 23 16 ≠ s.mbSeq n)) ∧
  (∃ (src : Req) (n : Fin 32) (s : State), s.asleep src = false ∧ src = s.mbSender n ∧ s.mbSt n = 3) ∧
  (∃ (src : Req) (n : Fin 32) (s : State), s.asleep src = false ∧ src = s.mbSender n ∧ s.mbSt n = 0) ∧
  (∃ (src : Req) (n : Fin 32) (s : State), s.asleep src = false ∧ src = s.mbSender n ∧ (s.mbSt n = 1 ∨ s.mbSt n = 2)) ∧
  (∃ (src : Req) (pf1 : Bool) (s : State), s.asleep src = false) :=
  ⟨⟨.peer, 3, mkS [], by decide⟩,
   ⟨.peer, 3, mkS [], by decide⟩,
   ⟨.peer, 3, mkS [], by decide⟩,
   ⟨.pf0, 3, mkS [], by decide⟩,
   ⟨(.crew 0), 8, mkS [], by decide⟩,
   ⟨.pf0, 3, mkS [(kMsgLen 3, 0x1000001), (kMaxLen 3, 16)], by decide⟩,
   ⟨.pf0, 3, mkS [(kMbStatus 3, 1)], by decide⟩,
   ⟨(.crew 0), 8, mkS [(kMsgLen 8, 16)], by decide⟩,
   ⟨(.crew 0), 3, mkS [(kMbStatus 3, 1), (kMsgLen 3, 16)], by decide⟩,
   ⟨(.crew 0), 3, mkS [(kMbStatus 3, 1)], by decide⟩,
   ⟨(.crew 0), 3, mkS [], by decide⟩,
   ⟨.peer, 3, 0, mkS [], by decide⟩,
   ⟨(.crew 0), 3, 0xFF00, mkS [], by decide⟩,
   ⟨(.crew 0), 3, 0x50004, mkS [(kMbStatus 3, 1282)], by decide⟩,
   ⟨(.crew 0), 3, 0x50004, mkS [(kMbStatus 3, 1538)], by decide⟩,
   ⟨.pf0, 3, mkS [(kMbStatus 3, 3)], by decide⟩,
   ⟨.pf0, 3, mkS [], by decide⟩,
   ⟨.pf0, 3, mkS [(kMbStatus 3, 1)], by decide⟩,
   ⟨.pf0, false, mkS [(kMbStatus 3, 2), (kMbStatus 9, 0x501)], by decide⟩⟩

set_option Elab.async false in
theorem witness_MailboxServices :
  (∃ (n : Fin 32) (s : State), s.taken n 0x0001 = true ∧ n.val < 16 ∧ s.mbLen n = 0) ∧
  (∃ (n : Fin 32) (s : State), s.taken n 0x0001 = true ∧ n.val < 16 ∧ s.mbLen n ≠ 0) ∧
  (∃ (n : Fin 32) (b : List Byte) (s : State), s.taken n 0x0001 = true ∧ 16 ≤ n.val ∧ s.body n = some b ∧
     s.secureCheck n b false = none ∧ bodyLen b = 0) ∧
  (∃ (n : Fin 32) (s : State), s.taken n 0x0001 = false) ∧
  (∃ (n : Fin 32) (m : Nat) (s : State), s.taken n 0x0002 = true ∧ n.val < 16 ∧ s.mbLen n = 0 ∧ m = n.val + 8 ∧
     (s.mbSt m = 0 ∨ s.mbSt m = 3) ∧ 64 ≤ s.rdF (kRxSize m) 24 0 ∧ 64 ≤ s.rdF (kMaxLen m) 24 0 ∧
     s.mbPasidOff m = false) ∧
  (∃ (n : Fin 32) (m : Nat) (s : State), s.taken n 0x0002 = true ∧ n.val < 16 ∧ s.mbLen n = 0 ∧ m = n.val + 8 ∧
     (s.mbSt m = 1 ∨ s.mbSt m = 2)) ∧
  (∃ (n : Fin 32) (s : State), s.taken n 0x0200 = true ∧ n.val < 16 ∧ s.mbLen n = 0 ∧ s.modState ≠ 4) ∧
  (∃ (n : Fin 32) (s : State), s.taken n 0x0200 = true ∧ n.val < 16 ∧ s.mbLen n = 0 ∧ s.modState = 4) ∧
  (∃ (n : Fin 32) (s : State), s.taken n 0x0201 = true ∧ n.val < 16 ∧ s.mbLen n = 0 ∧ s.modState ≠ 6) ∧
  (∃ (n : Fin 32) (s : State), s.taken n 0x0201 = true ∧ n.val < 16 ∧ s.mbLen n = 0 ∧ s.modState = 6) ∧
  (∃ (n : Fin 32) (s : State), toModule n = true ∧ s.mbSt n = 2 ∧ s.endRuns n = true ∧ s.mbLen n ≠ 0) ∧
  (∃ (n : Fin 32) (b : List Byte) (s : State), toModule n = true ∧ s.mbSt n = 2 ∧ s.endRuns n = true ∧
     s.mbLen n ≠ 0 ∧ (s.mbPasidOff n = true ∨ b.length ≠ s.mbLen n)) ∧
  (∃ (n : Fin 32) (b : List Byte) (s : State), toModule n = true ∧ s.mbSt n = 2 ∧ s.endRuns n = true ∧
     s.mbLen n ≠ 0 ∧ s.mbPasidOff n = false ∧ b.length = s.mbLen n ∧ knownType n (s.mbType n) = true) ∧
  (∃ (n : Fin 32) (read : Option (List Byte)) (s : State), toModule n = true ∧ s.mbSt n = 2 ∧ s.endRuns n = true ∧
     s.mbLen n = 0 ∧ knownType n (s.mbType n) = true) ∧
  (∃ (n : Fin 32) (b : List Byte) (s : State), toModule n = true ∧ s.mbSt n = 2 ∧ s.endRuns n = true ∧
     s.mbLen n ≠ 0 ∧ s.mbPasidOff n = false ∧ b.length = s.mbLen n ∧ knownType n (s.mbType n) = false ∧ n.val < 16) ∧
  (∃ (n : Fin 32) (b : List Byte) (s : State), toModule n = true ∧ s.mbSt n = 2 ∧ s.endRuns n = true ∧
     s.mbLen n ≠ 0 ∧ s.mbPasidOff n = false ∧ b.length = s.mbLen n ∧ knownType n (s.mbType n) = false ∧ 16 ≤ n.val ∧
     s.secureCheck n b false = none) ∧
  (∃ (n : Fin 32) (read : Option (List Byte)) (s : State), (toModule n = false ∨ s.mbSt n ≠ 2 ∨ s.endRuns n = false)) ∧
  (∃ (n : Fin 32) (m : Nat) (s : State), smGet (fun _ => none) s.host.held n = some (2, []) ∧ n.val < 8 ∧
     m = n.val + 8 ∧ s.mbSt n = 2 ∧ (s.mbSt m = 0 ∨ s.mbSt m = 3) ∧ 64 ≤ s.rdF (kRxSize m) 24 0 ∧
     64 ≤ s.rdF (kMaxLen m) 24 0 ∧ s.mbPasidOff m = false) ∧
  (∃ (n : Fin 32) (s : State), smGet (fun _ => none) s.host.held n = none) ∧
  (∃ (n : Fin 32) (s : State), (smGet (fun _ => none) s.host.held n).isSome = true ∧ toModule n = true) ∧
  (∃ (n : Fin 32) (s : State), smGet (fun _ => none) s.host.held n = none) :=
  ⟨⟨3, mkS [(Reg.SYS_MODULE_STATE, 4), (kMbStatus 3, 0x502), (kTypeTag 3, 1)], by decide⟩,
   ⟨3, { mkS [(Reg.SYS_MODULE_STATE, 4), (kMbStatus 3, 0x502), (kTypeTag 3, 1), (kMsgLen 3, 8)] with host := { bodies := [(3, some (List.replicate 8 0))] } }, by decide⟩,
   ⟨17, (signedBody 17 (secBody 1 5 [])), { mkS [(Reg.SYS_MODULE_STATE, 4), (kMbStatus 17, 0x502), (kTypeTag 17, 1), (kMsgLen 17, 48), (Reg.NVS_NV_STATUS, 1)] with mgmt := { journal := [{ half := 0, kind := 0x30, key := 0, seq := 1, data := [] }], nextSeq := 9, up := true }, host := { bodies := [(17, some (signedBody 17 (secBody 1 5 [])))] } }, by decide +kernel⟩,
   ⟨3, mkS [], by decide⟩,
   ⟨3, 11, mkS [(Reg.SYS_MODULE_STATE, 4), (kMbStatus 3, 0x502), (kTypeTag 3, 2), (kRxSize 11, 64), (kMaxLen 11, 64)], by decide⟩,
   ⟨3, 11, mkS [(Reg.SYS_MODULE_STATE, 4), (kMbStatus 3, 0x502), (kTypeTag 3, 2), (kMbStatus 11, 1)], by decide⟩,
   ⟨3, mkS [(Reg.SYS_MODULE_STATE, 3), (kMbStatus 3, 0x502), (kTypeTag 3, 512)], by decide⟩,
   ⟨3, mkS [(Reg.SYS_MODULE_STATE, 4), (kMbStatus 3, 0x502), (kTypeTag 3, 512)], by decide⟩,
   ⟨3, mkS [(Reg.SYS_MODULE_STATE, 4), (kMbStatus 3, 0x502), (kTypeTag 3, 513)], by decide⟩,
   ⟨3, mkS [(Reg.SYS_MODULE_STATE, 6), (kMbStatus 3, 0x502), (kTypeTag 3, 513)], by decide⟩,
   ⟨3, mkS [(Reg.SYS_MODULE_STATE, 4), (kMbStatus 3, 0x502), (kTypeTag 3, 1), (kMsgLen 3, 8)], by decide⟩,
   ⟨3, [], mkS [(Reg.SYS_MODULE_STATE, 4), (kMbStatus 3, 0x502), (kTypeTag 3, 1), (kMsgLen 3, 8)], by decide⟩,
   ⟨3, (List.replicate 8 0), mkS [(Reg.SYS_MODULE_STATE, 4), (kMbStatus 3, 0x502), (kTypeTag 3, 1), (kMsgLen 3, 8)], by decide⟩,
   ⟨3, none, mkS [(Reg.SYS_MODULE_STATE, 4), (kMbStatus 3, 0x502), (kTypeTag 3, 1)], by decide⟩,
   ⟨3, (List.replicate 8 0), mkS [(Reg.SYS_MODULE_STATE, 4), (kMbStatus 3, 0x502), (kTypeTag 3, 7), (kMsgLen 3, 8)], by decide⟩,
   ⟨17, (signedBody 17 (secBody 7 5 [])), { mkS [(Reg.SYS_MODULE_STATE, 4), (kMbStatus 17, 0x502), (kTypeTag 17, 7), (kMsgLen 17, 48), (Reg.NVS_NV_STATUS, 1)] with mgmt := { journal := [{ half := 0, kind := 0x30, key := 0, seq := 1, data := [] }], nextSeq := 9, up := true }, host := { bodies := [] } }, by decide +kernel⟩,
   ⟨3, none, mkS [], by decide⟩,
   ⟨3, 11, { mkS [(Reg.SYS_MODULE_STATE, 4), (kMbStatus 3, 0x502), (kTypeTag 3, 2), (kRxSize 11, 64), (kMaxLen 11, 64)] with host := { held := [(3, some (2, []))] } }, by decide⟩,
   ⟨3, mkS [], by decide⟩,
   ⟨3, { mkS [(Reg.SYS_MODULE_STATE, 4), (kMbStatus 3, 0x502), (kTypeTag 3, 2), (kRxSize 11, 64), (kMaxLen 11, 64)] with host := { held := [(3, some (2, []))] } }, by decide⟩,
   ⟨3, mkS [], by decide⟩⟩

set_option Elab.async false in
theorem witness_SecureServicesAndJournal :
  (∃ (n : Fin 32) (b : List Byte) (s : State), s.taken n 0x0101 = true ∧ 16 ≤ n.val ∧ s.body n = some b ∧
     s.secureCheck n b true = none ∧ bodyLen b = 32 ∧ s.mramOpen = true) ∧
  (∃ (n : Fin 32) (b : List Byte) (s : State), s.taken n 0x0102 = true ∧ 16 ≤ n.val ∧ s.body n = some b ∧
     s.secureCheck n b false = none ∧ bodyLen b = 32 ∧ s.mramOpen = true) ∧
  (∃ (n : Fin 32) (b : List Byte) (s : State), s.taken n 0x0102 = true ∧ 16 ≤ n.val ∧ s.body n = some b ∧
     s.secureCheck n b false = some 6) ∧
  (∃ (n : Fin 32) (b : List Byte) (s : State), s.taken n 0x0103 = true ∧ 16 ≤ n.val ∧ s.body n = some b ∧
     s.secureCheck n b false = none ∧ bodyLen b = 0 ∧ s.mramOpen = true) ∧
  (∃ (n : Fin 32) (b : List Byte) (r : Nat) (s : State), s.taken n 0x0104 = true ∧ 16 ≤ n.val ∧ s.body n = some b ∧
     s.secureCheck n b false = none ∧ 8 ≤ bodyLen b ∧ s.mramOpen = true ∧ 0x8000 ≤ journalKind (bodyPayload b) ∧
     (bodyPayload b).length ≤ 1048584 ∧ r = n.val + 8 ∧ (s.mbSt r = 0 ∨ s.mbSt r = 3) ∧ s.noRoom r 60 = false) ∧
  (∃ (n : Fin 32) (b : List Byte) (r : Nat) (s : State), s.taken n 0x0104 = true ∧ 16 ≤ n.val ∧ s.body n = some b ∧
     s.secureCheck n b false = none ∧ 8 ≤ bodyLen b ∧ s.mramOpen = true ∧ 0x8000 ≤ journalKind (bodyPayload b) ∧
     (bodyPayload b).length ≤ 1048584 ∧ r = n.val + 8 ∧ (s.mbSt r = 0 ∨ s.mbSt r = 3) ∧ s.noRoom r 60 = true) ∧
  (∃ (n : Fin 32) (b : List Byte) (s : State), s.taken n 0x0104 = true ∧ 16 ≤ n.val ∧ s.body n = some b ∧
     s.secureCheck n b false = none ∧ 8 ≤ bodyLen b ∧ journalKind (bodyPayload b) < 0x8000 ∧
     journalKind (bodyPayload b) ≠ 0x0040) ∧
  (∃ (n : Fin 32) (b : List Byte) (r : Nat) (q : JournalRecord) (s : State), s.taken n 0x0105 = true ∧ 16 ≤ n.val ∧
     s.body n = some b ∧ s.secureCheck n b false = none ∧ bodyLen b = 8 ∧ journalKind (bodyPayload b) ≠ 0x0030 ∧
     journalKind (bodyPayload b) ≠ 0x0031 ∧
     s.record (journalKind (bodyPayload b)) (journalKey (bodyPayload b)) = some q ∧ q.data.length < 1048576 ∧
     r = n.val + 8 ∧ (s.mbSt r = 0 ∨ s.mbSt r = 3) ∧ s.noRoom r (80 + q.data.length) = false) ∧
  (∃ (n : Fin 32) (b : List Byte) (s : State), s.taken n 0x0105 = true ∧ 16 ≤ n.val ∧ s.body n = some b ∧
     s.secureCheck n b false = none ∧ bodyLen b = 8 ∧ journalKind (bodyPayload b) = 0x0030) ∧
  (∃ (src : Req) (s : State), s.asleep src = false ∧ s.compacting = true) ∧
  (∃ (src : Req) (s : State), s.asleep src = false ∧ s.compacting = false) ∧
  (∃ (s : State), s.compacting = false) ∧
  (∃ (s : State), s.compacting = true ∧ s.mgmt.waiting = []) ∧
  (∃ (s : State), s.mramOpen = true) ∧
  (∃ (s : State), s.norInRange = true) ∧
  (∃ (src : Req) (s : State), s.cutOff src = false ∧ s.rdF Reg.TALLY_HOST_CODE 15 0 < 0xC000) ∧
  (∃ (src : Req) (s : State), s.cutOff src = false ∧ 0xC000 ≤ s.rdF Reg.TALLY_HOST_CODE 15 0 ∧
     s.rdF Reg.TALLY_FILTER 1 0 ≤ s.rdF Reg.TALLY_HOST_CODE 17 16 ∧ s.mgmt.intake.length < 64) :=
  ⟨⟨17, (secBody 257 5 (List.replicate 32 7) ++ List.replicate 32 0), { mkS [(Reg.SYS_MODULE_STATE, 4), (kMbStatus 17, 0x502), (kTypeTag 17, 257), (kMsgLen 17, 80), (Reg.NVS_NV_STATUS, 1)] with host := { bodies := [(17, some ((secBody 257 5 (List.replicate 32 7) ++ List.replicate 32 0)))] } }, by decide⟩,
   ⟨17, (signedBody 17 (secBody 258 5 (List.replicate 32 7))), { mkS [(Reg.SYS_MODULE_STATE, 4), (kMbStatus 17, 0x502), (kTypeTag 17, 258), (kMsgLen 17, 80), (Reg.NVS_NV_STATUS, 1)] with mgmt := { journal := [{ half := 0, kind := 0x30, key := 0, seq := 1, data := [] }], nextSeq := 9, up := true }, host := { bodies := [(17, some (signedBody 17 (secBody 258 5 (List.replicate 32 7))))] } }, by decide +kernel⟩,
   ⟨17, (secBody 258 5 (List.replicate 32 7) ++ List.replicate 32 0), { mkS [(Reg.SYS_MODULE_STATE, 4), (kMbStatus 17, 0x502), (kTypeTag 17, 258), (kMsgLen 17, 80), (Reg.NVS_NV_STATUS, 1)] with host := { bodies := [(17, some ((secBody 258 5 (List.replicate 32 7) ++ List.replicate 32 0)))] } }, by decide⟩,
   ⟨17, (signedBody 17 (secBody 259 5 [])), { mkS [(Reg.SYS_MODULE_STATE, 4), (kMbStatus 17, 0x502), (kTypeTag 17, 259), (kMsgLen 17, 48), (Reg.NVS_NV_STATUS, 1)] with mgmt := { journal := [{ half := 0, kind := 0x30, key := 0, seq := 1, data := [] }], nextSeq := 9, up := true }, host := { bodies := [(17, some (signedBody 17 (secBody 259 5 [])))] } }, by decide +kernel⟩,
   ⟨17, (signedBody 17 (secBody 260 5 [0, 0x80, 0, 0, 0, 0, 0, 0])), 25, { mkS [(Reg.SYS_MODULE_STATE, 4), (kMbStatus 17, 0x502), (kTypeTag 17, 260), (kMsgLen 17, 56), (Reg.NVS_NV_STATUS, 1), (kRxSize 25, 100), (kMaxLen 25, 100)] with mgmt := { journal := [{ half := 0, kind := 0x30, key := 0, seq := 1, data := [] }], nextSeq := 9, up := true }, host := { bodies := [(17, some (signedBody 17 (secBody 260 5 [0, 0x80, 0, 0, 0, 0, 0, 0])))] } }, by decide +kernel⟩,
   ⟨17, (signedBody 17 (secBody 260 5 [0, 0x80, 0, 0, 0, 0, 0, 0])), 25, { mkS [(Reg.SYS_MODULE_STATE, 4), (kMbStatus 17, 0x502), (kTypeTag 17, 260), (kMsgLen 17, 56), (Reg.NVS_NV_STATUS, 1), (kRxSize 25, 59), (kMaxLen 25, 100)] with mgmt := { journal := [{ half := 0, kind := 0x30, key := 0, seq := 1, data := [] }], nextSeq := 9, up := true }, host := { bodies := [(17, some (signedBody 17 (secBody 260 5 [0, 0x80, 0, 0, 0, 0, 0, 0])))] } }, by decide +kernel⟩,
   ⟨17, (signedBody 17 (secBody 260 5 [0, 0x10, 0, 0, 0, 0, 0, 0])), { mkS [(Reg.SYS_MODULE_STATE, 4), (kMbStatus 17, 0x502), (kTypeTag 17, 260), (kMsgLen 17, 56), (Reg.NVS_NV_STATUS, 1)] with mgmt := { journal := [{ half := 0, kind := 0x30, key := 0, seq := 1, data := [] }], nextSeq := 9, up := true }, host := { bodies := [(17, some (signedBody 17 (secBody 260 5 [0, 0x10, 0, 0, 0, 0, 0, 0])))] } }, by decide +kernel⟩,
   ⟨17, (signedBody 17 (secBody 261 5 [0, 0x80, 0, 0, 0, 0, 0, 0])), 25, { half := 0, kind := 0x8000, key := 0, seq := 2, data := [9, 8] }, { mkS [(Reg.SYS_MODULE_STATE, 4), (kMbStatus 17, 0x502), (kTypeTag 17, 261), (kMsgLen 17, 56), (Reg.NVS_NV_STATUS, 1), (kRxSize 25, 100), (kMaxLen 25, 100)] with mgmt := { journal := [{ half := 0, kind := 0x30, key := 0, seq := 1, data := [] }, { half := 0, kind := 0x8000, key := 0, seq := 2, data := [9, 8] }], nextSeq := 9, up := true }, host := { bodies := [(17, some (signedBody 17 (secBody 261 5 [0, 0x80, 0, 0, 0, 0, 0, 0])))] } }, by decide +kernel⟩,
   ⟨17, (signedBody 17 (secBody 261 5 [0x30, 0, 0, 0, 0, 0, 0, 0])), { mkS [(Reg.SYS_MODULE_STATE, 4), (kMbStatus 17, 0x502), (kTypeTag 17, 261), (kMsgLen 17, 56), (Reg.NVS_NV_STATUS, 1)] with mgmt := { journal := [{ half := 0, kind := 0x30, key := 0, seq := 1, data := [] }], nextSeq := 9, up := true }, host := { bodies := [(17, some (signedBody 17 (secBody 261 5 [0x30, 0, 0, 0, 0, 0, 0, 0])))] } }, by decide +kernel⟩,
   ⟨.ranger, mkS [(Reg.NVS_NV_STATUS, 5)], by decide⟩,
   ⟨.ranger, mkS [], by decide⟩,
   ⟨mkS [], by decide⟩,
   ⟨{ mkS [(Reg.NVS_NV_STATUS, 5)] with mgmt := { journal := [{ half := 0, kind := 0x8000, key := 0, seq := 1, data := [9] }, { half := 0, kind := 0x8000, key := 0, seq := 2, data := [9, 8] }], nextSeq := 3 } }, by decide⟩,
   ⟨{ mkS [(Reg.NVS_NV_STATUS, 1)] with mgmt := { waiting := [{ half := 0, kind := 0x8000, key := 0, seq := 1, data := [9] }], nextSeq := 3 } }, by decide⟩,
   ⟨{ mkS [(Reg.NVS_NV_STATUS, 3)] with mgmt := { norPaused := true } }, by decide⟩,
   ⟨.pf0, mkS [(Reg.TALLY_HOST_CODE, 0x4001)], by decide⟩,
   ⟨.pf0, mkS [(Reg.TALLY_HOST_CODE, 0x3C001), (Reg.TALLY_HOST_ARG, 9)], by decide⟩⟩

theorem witness_ModuleResetsAndClocks :
  (∃ (src : Req) (data : Nat) (s : State), s.cutOff src = false ∧ fld data 31 16 ≠ 0xA5C3) ∧
  (∃ (src : Req) (data : Nat) (s : State), s.cutOff src = false ∧ fld data 31 16 = 0xA5C3 ∧ bitOf data 0 = false) ∧
  (∃ (src : Req) (data : Nat) (s : State), s.cutOff src = false ∧ fld data 31 16 = 0xA5C3 ∧ bitOf data 0 = true ∧
     s.coreUp = true) ∧
  (∃ (s : State), s.coreUp = true) ∧
  (∃ (s : State), s.coreUp = false) ∧
  (∃ (src : Req) (data : Nat) (s : State), s.bar0Down src (Reg.pagePWR * 0x1000) = false ∧ s.printing = true ∧
     fld (s.rd Reg.PWR_HEAD_PWR_CTRL) 7 0 &&& (data % 256) ≠ s.rdF Reg.PWR_HEAD_PWR_CTRL 7 0) ∧
  (∃ (src : Req) (data : Nat) (s : State), s.bar0Down src (Reg.pagePWR * 0x1000) = false ∧ s.printing = false ∧
     s.railsGood = true ∧ s.pwr.sys24 = true) ∧
  (∃ (s : State), s.railsGood = true ∧ s.pwr.sys24 = true) ∧
  (∃ (s : State), s.rd Reg.PWR_HEAD_PWR_STATUS ≠ 0) ∧
  (∃ (s : State), s.railsGood = true) ∧
  (∃ (pll : Pll) (s : State), s.bit Reg.CLK_PLL_STATUS (pllBit pll) = true) ∧
  (∃ (pll : Pll) (long : Bool) (s : State), s.bit Reg.CLK_PLL_STATUS (pllBit pll) = false) ∧
  (∃ (s : State), s.bit Reg.CLK_PLL_STATUS 0 = true ∧ s.coreUp = true) ∧
  (∃ (s : State), s.bit Reg.CLK_PLL_STATUS 1 = true) ∧
  (∃ (s : State), s.bit Reg.CLK_PLL_STATUS 4 = true ∧ s.modState ≠ 0) ∧
  (∃ (s : State), s.bit Reg.CLK_PLL_STATUS 3 = true) :=
  ⟨⟨.pf0, 1, mkS [], by decide⟩,
   ⟨.pf0, 0xA5C30000, mkS [], by decide⟩,
   ⟨.pf0, 0xA5C30001, mkS [(Reg.SYS_MODULE_STATE, 5), (Reg.CH_LINK_STATUS 3, 5), (kMbStatus 3, 1), (Reg.PWR_MAINS_VRMS, 9)], by decide⟩,
   ⟨mkS [(Reg.SYS_MODULE_STATE, 5), (Reg.CH_LINK_STATUS 3, 5)], by decide⟩,
   ⟨mkS [(Reg.SYS_MODULE_STATE, 1)], by decide⟩,
   ⟨.pf0, 1, mkS [(Reg.STATUS Reg.pageLINE, 0x20), (Reg.PWR_HEAD_PWR_CTRL, 3)], by decide⟩,
   ⟨.pf0, 7, mkS [(Reg.PWR_HEAD_PWR_CTRL, 3), (Reg.PWR_RAIL_STATUS, 0xFF)], by decide⟩,
   ⟨{ mkS [(Reg.PWR_HEAD_PWR_CTRL, 3), (Reg.PWR_RAIL_STATUS, 0xFF), (Reg.PWR_HEAD_PWR_STATUS, 7)] with pwr := { headOff := 4 } }, by decide⟩,
   ⟨mkS [(Reg.PWR_HEAD_PWR_CTRL, 3), (Reg.PWR_HEAD_PWR_STATUS, 3), (Reg.PWR_LAMP_BUS_STATUS, 3), (Reg.PWR_RAIL_STATUS, 0xFF)], by decide⟩,
   ⟨mkS [(Reg.PWR_HEAD_PWR_CTRL, 3), (Reg.PWR_RAIL_STATUS, 0xFF)], by decide⟩,
   ⟨.dram, mkS [(Reg.CLK_PLL_STATUS, 0x1F)], by decide⟩,
   ⟨.dram, true, mkS [(Reg.CLK_PLL_STATUS, 0)], by decide⟩,
   ⟨mkS [(Reg.CLK_PLL_STATUS, 0x1F), (Reg.SYS_MODULE_STATE, 4), (Reg.CH_LINK_STATUS 3, 5)], by decide⟩,
   ⟨mkS [(Reg.CLK_PLL_STATUS, 0x1F), (Reg.STATUS (Reg.pageDRAM 2), 0x20)], by decide⟩,
   ⟨mkS [(Reg.CLK_PLL_STATUS, 0x1F), (Reg.SYS_MODULE_STATE, 4)], by decide⟩,
   ⟨mkS [(Reg.CLK_PLL_STATUS, 0x1F), (Reg.SYS_MODULE_STATE, 4)], by decide⟩⟩

set_option Elab.async false in
theorem witness_StandbyResetsAndBoot :
  (∃ (mains sb24 : Bool) (s : State), mains = true) ∧
  (∃ (ls : List Nat) (s : State), s.modState ≠ 0) ∧
  (∃ (ls : List Nat) (s : State), s.modState = 0) ∧
  (∃ (src : Req) (data : Nat) (s : State), s.asleep src = false ∧ fld data 31 16 ≠ 0xA5C3) ∧
  (∃ (src : Req) (data : Nat) (s : State), s.asleep src = false ∧ fld data 31 16 = 0xA5C3 ∧ bitOf data 0 = true ∧
     s.modState ≠ 0) ∧
  (∃ (b : BootOutcome) (s : State), s.modState ≠ 2) ∧
  (∃ (b : BootOutcome) (img : ImageSet) (s : State), s.modState = 2 ∧ s.mgmt.rom = false ∧ s.mgmt.journal = [] ∧
     s.mgmt.waiting = [] ∧ s.trainFails b.margins = [] ∧ bitOf s.pwr.straps 1 = false ∧ s.activeLanes = [] ∧
     s.runningBank = 0 ∧ s.mgmt.bankA = some img ∧ img.crewHash = s.mgmt.runCrew) ∧
  (∃ (b : BootOutcome) (img : ImageSet) (s : State), s.modState = 2 ∧ s.mgmt.rom = true ∧ s.bankSt 0 = 4 ∧
     s.bankSt 1 = 0 ∧ s.mgmt.bankA = some img ∧ b.aOk = true ∧ s.mgmt.journal = [] ∧ s.trainFails b.margins ≠ []) ∧
  (∃ (b : BootOutcome) (r : JournalRecord) (s : State), s.modState = 2 ∧ s.mgmt.rom = true ∧ s.mgmt.journal = [r] ∧
     r.kind = 1 ∧ r.key = 0 ∧ r.committed = true ∧ r.half = s.activeHalf ∧ b.badRecords = [] ∧
     (∀ n ∈ List.range 2, leValue ((r.data.drop (4 * n)).take 4) % 8 ≠ 3 ∧
     leValue ((r.data.drop (4 * n)).take 4) % 8 ≠ 4)) ∧
  (∃ (b : BootOutcome) (s : State), s.modState = 2 ∧ s.mgmt.rom = true ∧ s.mgmt.journal = [] ∧ s.mgmt.waiting = [] ∧
     (∀ i ∈ List.range 2, s.bankSt i ≠ 3 ∧ s.bankSt i ≠ 4)) :=
  ⟨⟨true, true, { mkS [(Reg.SYS_MODULE_STATE, 5), (Reg.PWR_RAIL_STATUS, 0x207FF), (Reg.PWR_MAINS_VRMS, 9)] with frc := 12 }, by decide⟩,
   ⟨[3], { mkS [(Reg.SYS_MODULE_STATE, 5), (Reg.PWR_RAIL_STATUS, 0x207FF), (Reg.PWR_MAINS_VRMS, 9)] with frc := 12 }, by decide⟩,
   ⟨[], mkS [(Reg.SYS_MODULE_STATE, 0)], by decide⟩,
   ⟨.pf1, 1, mkS [], by decide⟩,
   ⟨.pf1, 0xA5C30001, { mkS [(Reg.SYS_MODULE_STATE, 5), (Reg.PWR_RAIL_STATUS, 0x207FF), (Reg.PWR_MAINS_VRMS, 9)] with frc := 12 }, by decide⟩,
   ⟨{ margins := List.replicate 6 (List.replicate 9 40), badRecords := [], aOk := true, bOk := true }, mkS [(Reg.SYS_MODULE_STATE, 3)], by decide⟩,
   ⟨{ margins := List.replicate 6 (List.replicate 9 40), badRecords := [], aOk := true, bOk := true }, factoryImage, { mkS [(Reg.SYS_MODULE_STATE, 2), (Reg.CH_CH_CTRL 4, 1)] with mgmt := { rom := false, bankA := some factoryImage, runCrew := 1 } }, by decide +kernel⟩,
   ⟨{ margins := [], badRecords := [], aOk := true, bOk := true }, factoryImage, { mkS [(Reg.SYS_MODULE_STATE, 2), (Reg.FW_BANK_A_STATE, 4), (Reg.FW_BANK_B_STATE, 0)] with mgmt := { rom := true, bankA := some factoryImage } }, by decide +kernel⟩,
   ⟨{ margins := List.replicate 6 (List.replicate 9 40), badRecords := [], aOk := true, bOk := true }, { half := 0, kind := 1, key := 0, seq := 3, data := [2, 0, 0, 0, 1, 0, 0, 0, 2, 0, 0, 0] }, { mkS [(Reg.SYS_MODULE_STATE, 2)] with mgmt := { rom := true, journal := [{ half := 0, kind := 1, key := 0, seq := 3, data := [2, 0, 0, 0, 1, 0, 0, 0, 2, 0, 0, 0] }], nextSeq := 4 } }, by decide⟩,
   ⟨{ margins := List.replicate 6 (List.replicate 9 40), badRecords := [], aOk := true, bOk := true }, { mkS [(Reg.SYS_MODULE_STATE, 2), (Reg.FW_BANK_A_STATE, 1), (Reg.FW_BANK_B_STATE, 0)] with mgmt := { rom := true } }, by decide⟩⟩

set_option Elab.async false in
theorem witness_FirmwareAndLiveUpdates :
  (∃ (src : Req) (s : State), s.asleep src = false ∧ s.recovery = false ∧ s.updateBank = s.runningBank) ∧
  (∃ (src : Req) (s : State), s.asleep src = false ∧ s.recovery = false ∧ s.updateBank = s.runningBank) ∧
  (∃ (src : Req) (s : State), s.asleep src = false ∧ s.recovery = false ∧ s.updateBank = s.runningBank) ∧
  (∃ (src : Req) (s : State), s.asleep src = false ∧ s.recovery = false ∧ s.updateBank = s.runningBank) ∧
  (∃ (src : Req) (s : State), s.asleep src = false ∧ s.recovery = false ∧ s.updateBank = s.runningBank) ∧
  (∃ (src : Req) (s : State), s.asleep src = false ∧ s.updateBank ≠ s.runningBank ∧ s.mgmt.op.isSome = true) ∧
  (∃ (src : Req) (s : State), s.asleep src = false ∧ s.updateBank ≠ s.runningBank ∧ s.mgmt.op = none ∧
     s.recovery = true) ∧
  (∃ (src : Req) (s : State), s.asleep src = false ∧ s.updateBank ≠ s.runningBank ∧ s.mgmt.op = none ∧
     512 ≤ s.rdF Reg.FW_LEN 28 0 ∧ s.rdF Reg.FW_LEN 28 0 ≤ 268435456 ∧ s.norInRange = true ∧ s.modState ≠ 8) ∧
  (∃ (src : Req) (s : State), s.asleep src = false ∧ s.updateBank ≠ s.runningBank ∧ s.mgmt.op = none ∧
     s.rdF Reg.FW_LEN 28 0 < 512) ∧
  (∃ (src : Req) (img : ImageSet) (s : State), s.asleep src = false ∧ s.updateBank ≠ s.runningBank ∧
     s.mgmt.op = none ∧ s.bankSt s.updateBank = 1 ∧ s.bankImage s.updateBank = some img ∧ s.imageFault img = none) ∧
  (∃ (src : Req) (img : ImageSet) (code : Nat) (s : State), s.asleep src = false ∧ s.updateBank ≠ s.runningBank ∧
     s.mgmt.op = none ∧ s.bankSt s.updateBank = 1 ∧ s.bankImage s.updateBank = some img ∧ s.imageFault img = some code) ∧
  (∃ (src : Req) (s : State), s.asleep src = false ∧ s.updateBank ≠ s.runningBank ∧ s.mgmt.op = none ∧
     s.bankSt s.updateBank ≠ 1) ∧
  (∃ (src : Req) (s : State), s.asleep src = false ∧ s.updateBank ≠ s.runningBank ∧ s.mgmt.op = none ∧
     s.bankSt s.updateBank = 2) ∧
  (∃ (src : Req) (s : State), s.asleep src = false ∧ s.mgmt.op = none ∧ (∀ i ∈ List.range 2, s.bankSt i ≠ 3)) ∧
  (∃ (src : Req) (s : State), s.asleep src = false ∧ s.mgmt.op = none ∧ s.recovery = false ∧ s.updateBank < 2 ∧
     s.bankSt s.updateBank = 3 ∧ s.bankSt (1 - s.updateBank) = 4) ∧
  (∃ (src : Req) (s : State), s.asleep src = false ∧ s.recovery = false ∧ s.mgmt.op ≠ some 0) ∧
  (∃ (src : Req) (s : State), s.asleep src = false ∧ s.recovery = true) ∧
  (∃ (src : Req) (s : State), s.asleep src = false ∧ s.recovery = false ∧ s.mgmt.op = some 0) ∧
  (∃ (s : State), s.mgmt.op = some 0 ∧ s.mgmt.norPaused = false) ∧
  (∃ (img : ImageSet) (s : State), s.mgmt.op = some 0 ∧ s.mgmt.norPaused = false) ∧
  (∃ (src : Req) (img : ImageSet) (s : State), s.asleep src = false ∧ s.updateBank ≠ s.runningBank ∧
     s.mgmt.op = none ∧ s.recovery = false ∧ (s.bankSt s.updateBank = 2 ∨ s.bankSt s.updateBank = 3) ∧
     s.bankImage s.updateBank = some img ∧ img.rangerHash = s.mgmt.runRanger) ∧
  (∃ (src : Req) (img : ImageSet) (s : State), s.asleep src = false ∧ s.updateBank ≠ s.runningBank ∧
     s.mgmt.op = none ∧ s.recovery = false ∧ (s.bankSt s.updateBank = 2 ∨ s.bankSt s.updateBank = 3) ∧
     s.bankImage s.updateBank = some img ∧ img.rangerHash ≠ s.mgmt.runRanger) ∧
  (∃ (src : Req) (s : State), s.asleep src = false ∧ s.updateBank ≠ s.runningBank ∧ s.mgmt.op = none ∧
     s.recovery = false ∧ (s.bankSt s.updateBank = 2 ∨ s.bankSt s.updateBank = 3) ∧ s.modState = 6) ∧
  (∃ (core : Fin 4) (s : State), s.mgmt.op = some 4 ∧ s.mgmt.liveCore = some core.val ∧ core.val ≠ 0) ∧
  (∃ (img : ImageSet) (s : State), s.mgmt.op = some 4 ∧ s.mgmt.liveCore = some 0 ∧
     s.bankImage s.mgmt.liveBank = some img) ∧
  (∃ (core : Fin 4) (s : State), s.mgmt.op = some 4 ∧ s.mgmt.liveCore = some core.val) ∧
  (∃ (img : ImageSet) (s : State), s.mgmt.op = some 5 ∧ s.bankImage s.mgmt.liveBank = some img ∧
     img.crewHash = s.mgmt.runCrew) :=
  ⟨⟨.pf1, mkS [], by decide⟩,
   ⟨.ranger, mkS [], by decide⟩,
   ⟨.pf0, mkS [], by decide⟩,
   ⟨.ranger, mkS [], by decide⟩,
   ⟨.pf0, mkS [], by decide⟩,
   ⟨.pf0, { mkS [(Reg.FW_UPDATE_BANK, 1), (Reg.FW_FW_STATUS, 0)] with mgmt := { op := some 0 } }, by decide⟩,
   ⟨.ranger, { mkS [(Reg.FW_UPDATE_BANK, 1), (Reg.FW_FW_STATUS, 0), (Reg.FW_FW_STATUS, 4)] with mgmt := { op := none } }, by decide⟩,
   ⟨.pf1, { mkS [(Reg.FW_UPDATE_BANK, 1), (Reg.FW_FW_STATUS, 0), (Reg.FW_LEN, 512), (Reg.NVS_NV_STATUS, 3)] with mgmt := { op := none } }, by decide⟩,
   ⟨.pf1, { mkS [(Reg.FW_UPDATE_BANK, 1), (Reg.FW_FW_STATUS, 0), (Reg.FW_LEN, 511)] with mgmt := { op := none } }, by decide⟩,
   ⟨.pf1, factoryImage, { mkS [(Reg.FW_UPDATE_BANK, 1), (Reg.FW_FW_STATUS, 0), (Reg.FW_BANK_B_STATE, 1)] with mgmt := { bankB := some factoryImage } }, by decide +kernel⟩,
   ⟨.pf1, { factoryImage with signatureOk := false }, 0x0103, { mkS [(Reg.FW_UPDATE_BANK, 1), (Reg.FW_FW_STATUS, 0), (Reg.FW_BANK_B_STATE, 1)] with mgmt := { bankB := some { factoryImage with signatureOk := false } } }, by decide +kernel⟩,
   ⟨.ranger, { mkS [(Reg.FW_UPDATE_BANK, 1), (Reg.FW_FW_STATUS, 0)] with mgmt := { op := none } }, by decide⟩,
   ⟨.pf1, { mkS [(Reg.FW_UPDATE_BANK, 1), (Reg.FW_FW_STATUS, 0), (Reg.FW_BANK_B_STATE, 2)] with mgmt := { op := none } }, by decide⟩,
   ⟨.pf1, { mkS [(Reg.FW_UPDATE_BANK, 1), (Reg.FW_FW_STATUS, 0), (Reg.FW_BANK_A_STATE, 4)] with mgmt := { op := none } }, by decide⟩,
   ⟨.pf1, { mkS [(Reg.FW_UPDATE_BANK, 1), (Reg.FW_FW_STATUS, 0), (Reg.FW_BANK_A_STATE, 4), (Reg.FW_BANK_B_STATE, 0x203)] with mgmt := { op := none } }, by decide⟩,
   ⟨.pf0, { mkS [(Reg.FW_UPDATE_BANK, 1), (Reg.FW_FW_STATUS, 0)] with mgmt := { op := none, up := true } }, by decide⟩,
   ⟨.pf1, mkS [(Reg.FW_FW_STATUS, 4)], by decide⟩,
   ⟨.pf0, { mkS [(Reg.FW_UPDATE_BANK, 1), (Reg.FW_FW_STATUS, 0)] with mgmt := { op := some 0, liveBank := 1, up := true } }, by decide⟩,
   ⟨{ mkS [(Reg.FW_UPDATE_BANK, 1), (Reg.FW_FW_STATUS, 0)] with mgmt := { op := some 0, liveBank := 1 } }, by decide⟩,
   ⟨factoryImage, { mkS [(Reg.FW_UPDATE_BANK, 1), (Reg.FW_FW_STATUS, 0)] with mgmt := { op := some 0, liveBank := 1 } }, by decide⟩,
   ⟨.pf1, factoryImage, { mkS [(Reg.FW_UPDATE_BANK, 1), (Reg.FW_FW_STATUS, 0), (Reg.FW_BANK_B_STATE, 2)] with mgmt := { runRanger := 1, bankB := some factoryImage } }, by decide +kernel⟩,
   ⟨.pf1, factoryImage, { mkS [(Reg.FW_UPDATE_BANK, 1), (Reg.FW_FW_STATUS, 0), (Reg.FW_BANK_B_STATE, 2)] with mgmt := { runRanger := 2, bankB := some factoryImage } }, by decide +kernel⟩,
   ⟨.pf1, { mkS [(Reg.FW_UPDATE_BANK, 1), (Reg.FW_FW_STATUS, 0), (Reg.FW_BANK_B_STATE, 2), (Reg.SYS_MODULE_STATE, 6)] with mgmt := { runRanger := 1, bankB := some factoryImage } }, by decide⟩,
   ⟨2, { mkS [(Reg.FW_UPDATE_BANK, 1), (Reg.FW_FW_STATUS, 0)] with mgmt := { op := some 4, liveCore := some 2, liveBank := 1 } }, by decide⟩,
   ⟨factoryImage, { mkS [(Reg.FW_UPDATE_BANK, 1), (Reg.FW_FW_STATUS, 0)] with mgmt := { op := some 4, liveCore := some 0, liveBank := 1, bankB := some factoryImage } }, by decide +kernel⟩,
   ⟨1, { mkS [(Reg.FW_UPDATE_BANK, 1), (Reg.FW_FW_STATUS, 0)] with mgmt := { op := some 4, liveCore := some 1, liveBank := 1 } }, by decide⟩,
   ⟨factoryImage, { mkS [(Reg.FW_UPDATE_BANK, 1), (Reg.FW_FW_STATUS, 0)] with mgmt := { op := some 5, liveBank := 1, runCrew := 1, runRanger := 1, bankB := some factoryImage } }, by decide +kernel⟩⟩

theorem witness_MainsAndRails :
  (∃ (s : State), s.modState = 0) ∧
  (∃ (s : State), (s.modState = 1 ∨ s.modState = 8) ∧ s.pwr.railHold = false ∧ s.pwr.tripHold = false ∧
     s.pwr.mainsDown = false) ∧
  (∃ (s : State), s.modState = 1 ∧ s.pwr.railHold = false ∧ s.pwr.tripHold = false ∧ s.pwr.mainsDown = true) ∧
  (∃ (s : State), s.modState = 1 ∧ (s.pwr.railHold = true ∨ s.pwr.tripHold = true)) ∧
  (∃ (bulk : Nat) (s : State), 2 ≤ s.modState ∧ s.sb24Good = true) ∧
  (∃ (bulk : Nat) (s : State), 2 ≤ s.modState ∧ s.sb24Good = false) ∧
  (∃ (bulk : Nat) (s : State), s.modState = 1 ∧ s.sb24Good = true) ∧
  (∃ (vrms : Nat) (s : State), vrms < 850) ∧
  (∃ (vrms : Nat) (s : State), 850 ≤ vrms) ∧
  (∃ (good : Bool) (millivolts : Nat) (s : State), 2 ≤ s.modState) ∧
  (∃ (millivolts : Nat) (s : State), s.modState = 1 ∧ s.bit Reg.PWR_RAIL_STATUS 17 = false) ∧
  (∃ (millivolts : Nat) (s : State), s.modState = 0 ∧ s.bit Reg.PWR_RAIL_STATUS 17 = false) ∧
  (∃ (r : Rail) (s : State), (∀ i ∈ railBefore r, s.bit Reg.PWR_RAIL_STATUS i = true) ∧
     (s.coreUp = true ∨ r = .vstby ∨ r = .vnv)) ∧
  (∃ (r : Rail) (s : State), (∃ i ∈ railBefore r, s.bit Reg.PWR_RAIL_STATUS i = false)) ∧
  (∃ (r : Rail) (s : State), s.modState ≠ 0 ∧ (r = .cam24 ∨ r = .enc5 ∨ r = .vnv)) ∧
  (∃ (r : Rail) (s : State), s.coreUp = true ∧ r ≠ .vstby ∧ railBit r ≤ 7) ∧
  (∃ (s : State), s.modState ≠ 0) ∧
  (∃ (src : Req) (s : State), s.bar0Down src (Reg.pagePWR * 0x1000) = false ∧ s.modState = 1 ∧
     s.pwr.tripHold = false ∧ s.bit Reg.PWR_RAIL_STATUS 17 = true ∧ s.pwr.mainsDown = false) ∧
  (∃ (src : Req) (s : State), s.bar0Down src (Reg.pagePWR * 0x1000) = false ∧ (s.modState ≠ 1 ∧
     s.modState ≠ 8 ∨ s.pwr.tripHold = true)) :=
  ⟨⟨mkS [(Reg.SYS_MODULE_STATE, 0), (Reg.PWR_RAIL_STATUS, 0)], by decide⟩,
   ⟨mkS [(Reg.SYS_MODULE_STATE, 1), (Reg.PWR_RAIL_STATUS, 0x50001)], by decide⟩,
   ⟨{ mkS [(Reg.SYS_MODULE_STATE, 1), (Reg.PWR_RAIL_STATUS, 0x50001)] with pwr := { mainsDown := true } }, by decide⟩,
   ⟨{ mkS [(Reg.SYS_MODULE_STATE, 1), (Reg.PWR_RAIL_STATUS, 0x50001)] with pwr := { railHold := true } }, by decide⟩,
   ⟨3390, mkS [(Reg.SYS_MODULE_STATE, 5), (Reg.CH_LINK_STATUS 3, 5), (Reg.PWR_RAIL_STATUS, 0xB07FF), (Reg.PWR_HEAD_PWR_CTRL, 3), (Reg.PWR_HEAD_PWR_STATUS, 3), (Reg.PWR_LAMP_BUS_STATUS, 3)], by decide⟩,
   ⟨3390, mkS [(Reg.SYS_MODULE_STATE, 5), (Reg.CH_LINK_STATUS 3, 5), (Reg.PWR_RAIL_STATUS, 0xA07FF), (Reg.PWR_HEAD_PWR_CTRL, 3), (Reg.PWR_HEAD_PWR_STATUS, 3), (Reg.PWR_LAMP_BUS_STATUS, 3)], by decide⟩,
   ⟨3390, mkS [(Reg.SYS_MODULE_STATE, 1), (Reg.PWR_RAIL_STATUS, 0x30001)], by decide⟩,
   ⟨849, mkS [], by decide⟩,
   ⟨850, mkS [], by decide⟩,
   ⟨true, 24000, mkS [(Reg.SYS_MODULE_STATE, 4)], by decide⟩,
   ⟨100, mkS [(Reg.SYS_MODULE_STATE, 1), (Reg.PWR_RAIL_STATUS, 0x10001)], by decide⟩,
   ⟨24000, mkS [(Reg.SYS_MODULE_STATE, 0), (Reg.PWR_RAIL_STATUS, 0)], by decide⟩,
   ⟨.vddq, mkS [(Reg.SYS_MODULE_STATE, 4), (Reg.PWR_RAIL_STATUS, 0x3F)], by decide⟩,
   ⟨.vddq, mkS [(Reg.SYS_MODULE_STATE, 4), (Reg.PWR_RAIL_STATUS, 0x1F)], by decide⟩,
   ⟨.cam24, mkS [(Reg.SYS_MODULE_STATE, 4), (Reg.PWR_RAIL_STATUS, 0x7FF)], by decide⟩,
   ⟨.vddq, mkS [(Reg.SYS_MODULE_STATE, 5), (Reg.CH_LINK_STATUS 3, 5), (Reg.PWR_RAIL_STATUS, 0xB07FF), (Reg.PWR_HEAD_PWR_CTRL, 3), (Reg.PWR_HEAD_PWR_STATUS, 3), (Reg.PWR_LAMP_BUS_STATUS, 3)], by decide⟩,
   ⟨mkS [(Reg.SYS_MODULE_STATE, 5), (Reg.CH_LINK_STATUS 3, 5), (Reg.PWR_RAIL_STATUS, 0xB07FF), (Reg.PWR_HEAD_PWR_CTRL, 3), (Reg.PWR_HEAD_PWR_STATUS, 3), (Reg.PWR_LAMP_BUS_STATUS, 3)], by decide⟩,
   ⟨.ranger, { mkS [(Reg.SYS_MODULE_STATE, 1), (Reg.PWR_RAIL_STATUS, 0x20001)] with pwr := { railHold := true } }, by decide⟩,
   ⟨.ranger, mkS [(Reg.SYS_MODULE_STATE, 4)], by decide⟩⟩

theorem witness_ThermalAndStopInput :
  (∃ (readings : List (Option Int)) (v : Int) (s : State), readings.map validReading = readings ∧
     readings.all (·.isSome) = true ∧ (readings.filterMap id).foldl max ((readings.filterMap id).headD 0) = v ∧
     readings ≠ [] ∧ (∀ x ∈ s.sensorSamples 2, ∀ y ∈ x, -880 ≤ y ∧ y ≤ 2400)) ∧
  (∃ (readings : List (Option Int)) (v : Int) (s : State), readings.map validReading = readings ∧
     readings.all (·.isSome) = true ∧ (readings.filterMap id).foldl max ((readings.filterMap id).headD 0) = v ∧
     readings ≠ [] ∧ (∀ x ∈ s.sensorSamples 0, ∀ y ∈ x, -880 ≤ y ∧ y ≤ 2400)) ∧
  (∃ (readings : List (Option Int)) (s : State), readings.map validReading = readings.map (fun _ => none)) ∧
  (∃ (k : Fin 17) (inst : Nat) (s : State), s.dwellDone k inst = false) ∧
  (∃ (k : Fin 17) (inst : Nat) (s : State), s.dwellDone k inst = true) ∧
  (∃ (inlet : Bool) (s : State), s.coreUp = true) ∧
  (∃ (inlet : Bool) (s : State), (s.modState = 1 ∨ s.modState = 8)) ∧
  (∃ (g : Fin 4) (s : State), s.bit Reg.PWR_LAMP_BUS_STATUS (16 + g) = true) ∧
  (∃ (g : Fin 4) (s : State), s.bit Reg.PWR_LAMP_BUS_STATUS (16 + g) = false ∧ s.groupSt g ≠ 0) ∧
  (∃ (s : State), s.pwr.tripHold = true ∧ releaseSamples ≤ s.releaseCount 0 ∧ releaseSamples ≤ s.releaseCount 5 ∧
     s.modState = 8 ∧ s.bit Reg.PWR_RAIL_STATUS 17 = true ∧ s.pwr.railHold = false ∧ s.pwr.mainsDown = false) ∧
  (∃ (s : State), (s.pwr.tripHold = false ∨ s.releaseCount 0 < releaseSamples ∨ s.releaseCount 5 < releaseSamples)) ∧
  (∃ (g : Fin 4) (s : State), releaseSamples ≤ s.releaseCount (1 + g)) ∧
  (∃ (g : Fin 4) (s : State), s.releaseCount (1 + g) < releaseSamples) ∧
  (∃ (b : Bool) (s : State), s.pwr.stopIn = true) ∧
  (∃ (b : Bool) (s : State), s.pwr.stopIn = false ∧ s.coreUp = true ∧ s.runSt = 0) ∧
  (∃ (b : Bool) (s : State), s.pwr.stopIn = false ∧ s.coreUp = true ∧ s.runSt ≠ 0) ∧
  (∃ (s : State), s.pwr.stopIn = true ∧ s.pwr.discrepancy = false) ∧
  (∃ (s : State), s.pwr.discrepancy = true) ∧
  (∃ (s : State), s.pwr.stopA ≠ s.pwr.stopB) ∧
  (∃ (s : State), s.pwr.stopA = s.pwr.stopB) :=
  ⟨⟨[some 800, some 816], 816, { mkS [] with pwr := { samples := [(2, [some 700, none])] } }, by decide⟩,
   ⟨[some 800, some 816], 816, { mkS [] with pwr := { samples := [(0, [some 700, none])] } }, by decide⟩,
   ⟨[none, some 9000], mkS [], by decide⟩,
   ⟨3, 0, mkS [], by decide⟩,
   ⟨3, 0, { mkS [] with pwr := { dwell := [(192, { up := 201 })] } }, by decide⟩,
   ⟨true, mkS [(Reg.SYS_MODULE_STATE, 5), (Reg.CH_LINK_STATUS 3, 5), (Reg.PWR_RAIL_STATUS, 0xB07FF), (Reg.PWR_HEAD_PWR_CTRL, 3), (Reg.PWR_HEAD_PWR_STATUS, 3), (Reg.PWR_LAMP_BUS_STATUS, 3)], by decide⟩,
   ⟨true, mkS [(Reg.SYS_MODULE_STATE, 1)], by decide⟩,
   ⟨2, mkS [(Reg.PWR_LAMP_BUS_STATUS, 0x40000)], by decide⟩,
   ⟨2, mkS [(Reg.STATUS (Reg.pageLAMP 2), 0x20), (Reg.LAMP_GROUP_STATUS 2, 2), (Reg.PWR_LAMP_BUS_STATUS, 4)], by decide⟩,
   ⟨{ mkS [(Reg.SYS_MODULE_STATE, 8), (Reg.PWR_RAIL_STATUS, 0x20001), (Reg.THERM_TRIP_STATUS, 1)] with pwr := { tripHold := true, release := [(0, 3001), (5, 3001)] } }, by decide⟩,
   ⟨mkS [], by decide⟩,
   ⟨1, { mkS [(Reg.PWR_LAMP_BUS_STATUS, 0x20000)] with pwr := { release := [(2, 3001)] } }, by decide⟩,
   ⟨1, mkS [], by decide⟩,
   ⟨true, { mkS [] with pwr := { stopIn := true, stopA := false } }, by decide⟩,
   ⟨true, mkS [(Reg.SYS_MODULE_STATE, 4), (Reg.CH_LINK_STATUS 3, 5), (Reg.LAMP_CH_OUT 1 2, 9)], by decide⟩,
   ⟨false, mkS [(Reg.SYS_MODULE_STATE, 5), (Reg.STATUS Reg.pageLINE, 0x20), (Reg.CH_LINK_STATUS 3, 5)], by decide⟩,
   ⟨{ mkS [(Reg.LAMP_GROUP_STATUS 1, 0x100)] with pwr := { stopIn := true, stopB := false } }, by decide⟩,
   ⟨{ mkS [] with pwr := { stopIn := true, discrepancy := true } }, by decide⟩,
   ⟨{ mkS [] with pwr := { stopB := false } }, by decide⟩,
   ⟨mkS [], by decide⟩⟩

theorem witness_DramReadsAndStops :
  (∃ (r : DramReq) (t : Nat) (s : State), s.inService (dramChannel r.addr) = true ∧
     s.bit Reg.CLK_PLL_STATUS 1 = true ∧ s.poisonedIn (r.addr / 8 * 8) 8 = false ∧
     s.buffered (r.addr / 8 * 8) = false ∧ r.ecc = .clean ∧ r.cls ≠ 1) ∧
  (∃ (r : DramReq) (t : Nat) (s : State), s.inService (dramChannel r.addr) = true ∧
     s.bit Reg.CLK_PLL_STATUS 1 = true ∧ s.poisonedIn (r.addr / 8 * 8) 8 = false ∧
     s.buffered (r.addr / 8 * 8) = false ∧ r.ecc = .clean ∧ r.cls = 1) ∧
  (∃ (r : DramReq) (t : Nat) (s : State), s.inService (dramChannel r.addr) = true ∧
     s.bit Reg.CLK_PLL_STATUS 1 = true ∧ s.poisonedIn (r.addr / 8 * 8) 8 = false ∧
     s.buffered (r.addr / 8 * 8) = true ∧ r.cls ≠ 1) ∧
  (∃ (r : DramReq) (t : Nat) (lane synd : Nat) (s : State), s.inService (dramChannel r.addr) = true ∧
     s.bit Reg.CLK_PLL_STATUS 1 = true ∧ s.poisonedIn (r.addr / 8 * 8) 8 = false ∧
     s.buffered (r.addr / 8 * 8) = false ∧ r.cls ≠ 1 ∧ r.ecc = .corrected lane synd ∧
     s.bit (Reg.DRAM_CH_CFG (dramChannel r.addr)) 1 = false ∧ (s.dramCh (dramChannel r.addr)).writes.length < 64) ∧
  (∃ (r : DramReq) (t : Nat) (lane synd : Nat) (s : State), s.inService (dramChannel r.addr) = true ∧
     s.bit Reg.CLK_PLL_STATUS 1 = true ∧ s.poisonedIn (r.addr / 8 * 8) 8 = false ∧
     s.buffered (r.addr / 8 * 8) = false ∧ r.cls ≠ 1 ∧ r.ecc = .corrected lane synd ∧
     s.bit (Reg.DRAM_CH_CFG (dramChannel r.addr)) 1 = true ∧ (s.dramCh (dramChannel r.addr)).writes.length < 64) ∧
  (∃ (r : DramReq) (t : Nat) (fold : Bool) (synd : Nat) (s : State), s.dramSt (dramChannel r.addr) = 2 ∧
     s.buffered (r.addr / 8 * 8) = false ∧ r.cls = 3 ∧ r.ecc = .uncorrectable fold synd) ∧
  (∃ (r : DramReq) (t : Nat) (fold : Bool) (synd : Nat) (s : State), s.dramSt (dramChannel r.addr) = 3 ∧
     s.buffered (r.addr / 8 * 8) = false ∧ r.cls = 3 ∧ r.ecc = .uncorrectable fold synd) ∧
  (∃ (r : DramReq) (t : Nat) (s : State), s.dramSt (dramChannel r.addr) = 5 ∧ r.cls ≠ 1 ∧ r.ecc = .clean ∧
     (s.bit Reg.CLK_PLL_STATUS 1 = false ∨ s.poisonedIn (r.addr / 8 * 8) 8 = true)) ∧
  (∃ (r : DramReq) (t : Nat) (s : State), s.dramSt (dramChannel r.addr) = 2 ∧ r.addr / 8 ∈ s.dram.poisoned ∧
     s.buffered (r.addr / 8 * 8) = false ∧ r.cls = 3 ∧ r.ecc = .clean) ∧
  (∃ (r : DramReq) (t : Nat) (fold : Bool) (synd : Nat) (s : State), s.dramSt (dramChannel r.addr) = 5 ∧ r.cls = 4 ∧
     r.ecc = .uncorrectable fold synd) ∧
  (∃ (l : List DramReq) (t : Nat) (s : State), (∀ d ∈ List.range 6, s.inService d = false ∧ s.dramSt d ≠ 5)) ∧
  (∃ (d : Nat) (l : List DramReq) (r : DramReq) (s : State), (s.nextRead d l).2 = some r) ∧
  (∃ (d cls ca : Nat) (w : Bool) (s : State), s.pageHint d cls ca = 0) ∧
  (∃ (d cls ca : Nat) (w : Bool) (s : State), s.pageHint d cls ca = 1) ∧
  (∃ (d cls ca : Nat) (w : Bool) (s : State), s.pageHint d cls ca = 2) ∧
  (∃ (cls a : Nat) (s : State), s.inService (dramChannel a) = true ∧ (s.dramCh (dramChannel a)).writes.length < 64) ∧
  (∃ (d : Fin 6) (word : Fin 8) (s : State), s.inService d = true ∧ s.bit Reg.CLK_PLL_STATUS 1 = true ∧
     s.poisonedIn (jobAddr d (s.rd (Reg.DRAM_SCRUB_POS d) * 64)) 64 = false ∧ s.bit (Reg.DRAM_CH_CFG d) 0 = true ∧
     s.rdF Reg.THERM_STEPS 1 0 = 0) ∧
  (∃ (d : Fin 6) (ecc : Ecc) (word : Fin 8) (s : State), (s.inService d = false ∨ s.bit (Reg.DRAM_CH_CFG d) 0 =
     false ∨ s.rdF Reg.THERM_STEPS 1 0 ≠ 0)) ∧
  (∃ (d : Fin 6) (fold : Bool) (synd a : Nat) (word : Fin 8) (s : State), s.dramSt d = 2 ∧
     s.bit (Reg.DRAM_CH_CFG d) 0 = true ∧ s.rdF Reg.THERM_STEPS 1 0 = 0 ∧
     a = jobAddr d (s.rd (Reg.DRAM_SCRUB_POS d) * 64) + 8 * word) ∧
  (∃ (src : Req) (d : Fin 6) (s : State), s.cutOff src = false) ∧
  (∃ (s : State), s.dram.stop = false) ∧
  (∃ (s : State), s.dram.stop = true ∧ s.stopsAlone = true ∧ s.runSt = 0 ∧ (s.modState = 3 ∨ s.modState = 4)) ∧
  (∃ (s : State), s.dram.stop = true ∧ s.stopsAlone = true ∧ s.runSt = 2) ∧
  (∃ (s : State), s.dram.stop = true ∧ s.stopsAlone = false) ∧
  (∃ (s : State), s.dram.stop = true ∧ s.dram.retireAgain = true ∧ s.modState ≠ 7 ∧
     s.rdF Reg.PAIR_HANDOVER_STATUS 2 0 = 3 ∧ s.rdF Reg.PAIR_HANDOVER_STATUS 7 4 = 3) ∧
  (∃ (s : State), (s.dram.stop = false ∨ s.dram.retireAgain = false)) :=
  ⟨⟨{ addr := 600, cls := 3, issued := 5, back := 40, line := 0, ecc := .clean }, 50, mkS [(Reg.STATUS (Reg.pageDRAM 2), 32)], by decide⟩,
   ⟨{ addr := 600, cls := 1, issued := 5, back := 9000, line := 0, ecc := .clean }, 50, mkS [(Reg.STATUS (Reg.pageDRAM 2), 32)], by decide⟩,
   ⟨{ addr := 600, cls := 3, issued := 5, back := 40, line := 0, ecc := .clean }, 50, { mkS [(Reg.STATUS (Reg.pageDRAM 2), 32)] with dram := { chans := [(2, { writes := [(1, 0x8, 3)] })] } }, by decide⟩,
   ⟨{ addr := 600, cls := 3, issued := 5, back := 40, line := 0, ecc := .corrected 5 9 }, 50, 5, 9, mkS [(Reg.STATUS (Reg.pageDRAM 2), 32), (Reg.DRAM_CH_CFG 2, 0)], by decide⟩,
   ⟨{ addr := 600, cls := 3, issued := 5, back := 40, line := 0, ecc := .corrected 5 9 }, 50, 5, 9, mkS [(Reg.STATUS (Reg.pageDRAM 2), 32), (Reg.DRAM_CH_CFG 2, 2)], by decide⟩,
   ⟨{ addr := 600, cls := 3, issued := 5, back := 40, line := 0, ecc := .uncorrectable true 9 }, 50, true, 9, mkS [(Reg.STATUS (Reg.pageDRAM 2), 32)], by decide⟩,
   ⟨{ addr := 600, cls := 3, issued := 5, back := 40, line := 0, ecc := .uncorrectable true 9 }, 50, true, 9, mkS [(Reg.STATUS (Reg.pageDRAM 2), 48)], by decide⟩,
   ⟨{ addr := 600, cls := 3, issued := 5, back := 40, line := 0, ecc := .clean }, 50, mkS [(Reg.STATUS (Reg.pageDRAM 2), 80), (Reg.CLK_PLL_STATUS, 0x1D)], by decide⟩,
   ⟨{ addr := 600, cls := 3, issued := 5, back := 40, line := 0, ecc := .clean }, 50, { mkS [(Reg.STATUS (Reg.pageDRAM 2), 32)] with dram := { poisoned := [75] } }, by decide⟩,
   ⟨{ addr := 600, cls := 4, issued := 5, back := 40, line := 0, ecc := .uncorrectable true 9 }, 50, true, 9, mkS [(Reg.STATUS (Reg.pageDRAM 2), 80)], by decide⟩,
   ⟨[{ addr := 600, cls := 3, issued := 5, back := 40, line := 0, ecc := .clean }], 50, mkS [], by decide⟩,
   ⟨2, [{ addr := 600, cls := 3, issued := 5, back := 40, line := 0, ecc := .clean }, { addr := 600, cls := 1, issued := 5, back := 40, line := 0, ecc := .clean }], { addr := 600, cls := 1, issued := 5, back := 40, line := 0, ecc := .clean }, mkS [], by decide⟩,
   ⟨2, 5, 600, false, { mkS [] with dram := { chans := [(2, { open_ := [(1, 3, some 0), (bankOf 600, 7, none)] })] } }, by decide⟩,
   ⟨2, 1, 600, true, { mkS [] with dram := { chans := [(2, { open_ := [(1, 3, some 0), (bankOf 600, 7, none)] })] } }, by decide⟩,
   ⟨2, 3, 600, false, { mkS [] with dram := { chans := [(2, { open_ := [(1, 3, some 0), (bankOf 600, 7, none)] })] } }, by decide⟩,
   ⟨3, 600, mkS [(Reg.STATUS (Reg.pageDRAM 2), 32)], by decide⟩,
   ⟨2, 3, mkS [(Reg.STATUS (Reg.pageDRAM 2), 32), (Reg.DRAM_CH_CFG 2, 1), (Reg.DRAM_SCRUB_POS 2, 0xFFFFFFF)], by decide⟩,
   ⟨2, .clean, 3, mkS [], by decide⟩,
   ⟨2, false, 7, 528, 2, mkS [(Reg.STATUS (Reg.pageDRAM 2), 32), (Reg.DRAM_CH_CFG 2, 1)], by decide⟩,
   ⟨.pf0, 2, mkS [], by decide⟩,
   ⟨mkS [], by decide⟩,
   ⟨{ mkS [(Reg.SYS_CONFIG, 0), (Reg.SYS_MODULE_STATE, 4), (Reg.CH_LINK_STATUS 3, 5)] with dram := { stop := true } }, by decide⟩,
   ⟨{ mkS [(Reg.SYS_CONFIG, 0), (Reg.SYS_MODULE_STATE, 5), (Reg.STATUS Reg.pageLINE, 0x20)] with dram := { stop := true } }, by decide⟩,
   ⟨{ mkS [(Reg.SYS_CONFIG, 1), (Reg.PAIR_PAIR_STATUS, 0x13)] with dram := { stop := true } }, by decide⟩,
   ⟨{ mkS [(Reg.SYS_CONFIG, 1), (Reg.PAIR_PAIR_STATUS, 0x13), (Reg.PAIR_HANDOVER_STATUS, 0x33)] with dram := { stop := true, retireAgain := true } }, by decide⟩,
   ⟨mkS [], by decide⟩⟩

theorem witness_DramUpkeep :
  (∃ (d : Fin 6) (elapsed : Nat) (pull : Bool) (s : State), s.inService d = false) ∧
  (∃ (d : Fin 6) (elapsed : Nat) (pull : Bool) (s : State), s.inService d = true ∧ 0 ≤ (s.dramCh d).debt + elapsed) ∧
  (∃ (d : Fin 6) (elapsed : Nat) (s : State), s.inService d = true ∧ (s.dramCh d).debt + elapsed < 0 ∧
     -s.debtMax d ≤ (s.dramCh d).debt + elapsed - (s.tRefi d : Nat)) ∧
  (∃ (d : Fin 6) (elapsed : Nat) (pull : Bool) (s : State), s.inService d = true ∧ (s.dramCh d).debt + elapsed < 0 ∧
     (pull = false ∨ (s.dramCh d).debt + elapsed - (s.tRefi d : Nat) < -s.debtMax d)) ∧
  (∃ (d : Fin 6) (elapsed : Nat) (s : State), s.inService d = true ∧ s.debtMax d ≤ (s.dramCh d).debt + elapsed) ∧
  (∃ (d : Fin 6) (elapsed : Nat) (s : State), s.inService d = true ∧ (s.dramCh d).debt + elapsed < s.debtMax d) ∧
  (∃ (d : Fin 6) (temp : Int) (s : State), (temp < 1360 ∨ s.hot d = true) ∧
     (temp - (s.dramCh d).trainTemp).natAbs < 16 * atLeast1 (s.rdF (Reg.DRAM_TRAIN_CFG d) 15 8)) ∧
  (∃ (d : Fin 6) (temp : Int) (s : State), 1360 ≤ temp ∧ s.hot d = false ∧
     (temp - (s.dramCh d).trainTemp).natAbs < 16 * atLeast1 (s.rdF (Reg.DRAM_TRAIN_CFG d) 15 8) ∧
     (s.dramCh d).debt ≤ 31200) ∧
  (∃ (d : Fin 6) (temp : Int) (s : State), 1360 ≤ temp ∧ s.hot d = false ∧
     (temp - (s.dramCh d).trainTemp).natAbs < 16 * atLeast1 (s.rdF (Reg.DRAM_TRAIN_CFG d) 15 8) ∧
     31200 < (s.dramCh d).debt) ∧
  (∃ (d : Fin 6) (temp : Int) (s : State), temp < 1360 ∧ s.inService d = true ∧ (s.dramCh d).slices = none ∧
     16 * atLeast1 (s.rdF (Reg.DRAM_TRAIN_CFG d) 15 8) ≤ (temp - (s.dramCh d).trainTemp).natAbs) ∧
  (∃ (d : Fin 6) (s : State), s.hot d = true ∧ 10001 ≤ (s.dramCh d).cool) ∧
  (∃ (d : Fin 6) (s : State), (s.hot d = false ∨ (s.dramCh d).cool < 10001)) ∧
  (∃ (d : Fin 6) (after replays : Nat) (cleared : Bool) (s : State), s.inService d = true ∧
     s.bit (Reg.DRAM_CH_CFG d) 2 = true ∧ (cleared = true ∨ replays < 4)) ∧
  (∃ (d : Fin 6) (after replays : Nat) (cleared : Bool) (s : State), (s.inService d = false ∨
     s.bit (Reg.DRAM_CH_CFG d) 2 = false)) ∧
  (∃ (d : Fin 6) (after replays : Nat) (cleared : Bool) (s : State), s.inService d = true ∧
     s.bit (Reg.DRAM_CH_CFG d) 3 = true ∧ (cleared = true ∨ replays < 4)) ∧
  (∃ (d : Fin 6) (after replays : Nat) (cleared : Bool) (s : State), (s.inService d = false ∨
     s.bit (Reg.DRAM_CH_CFG d) 3 = false)) ∧
  (∃ (d : Fin 6) (after : Nat) (s : State), s.inService d = true ∧ s.bit (Reg.DRAM_CH_CFG d) 2 = true) ∧
  (∃ (d : Fin 6) (s : State), s.inService d = true ∧ (s.dramCh d).slices = none) ∧
  (∃ (d : Fin 6) (s : State), (s.inService d = false ∨ (s.dramCh d).slices ≠ none)) ∧
  (∃ (src : Req) (d : Fin 6) (s : State), s.inService d = true ∧ (s.dramCh d).slices = none) ∧
  (∃ (src : Req) (d : Fin 6) (s : State), (s.inService d = false ∨ (s.dramCh d).slices ≠ none)) ∧
  (∃ (d : Fin 6) (n : Nat) (s : State), (s.dramCh d).slices = some n ∧ n < 64) ∧
  (∃ (d : Fin 6) (s : State), (s.dramCh d).slices = none) ∧
  (∃ (d : Fin 6) (margin lane : Nat) (s : State), (s.dramCh d).slices = some 64 ∧
     atLeast1 (s.rdF (Reg.DRAM_TRAIN_CFG d) 23 16) ≤ margin ∧ s.dramSt d = 2) ∧
  (∃ (d : Fin 6) (margin lane : Nat) (s : State), (s.dramCh d).slices = some 64 ∧
     atLeast1 (s.rdF (Reg.DRAM_TRAIN_CFG d) 23 16) ≤ margin ∧ s.dramSt d = 3 ∧ (s.dramCh d).passes < 15) ∧
  (∃ (d : Fin 6) (margin lane : Nat) (s : State), (s.dramCh d).slices = some 64 ∧
     atLeast1 (s.rdF (Reg.DRAM_TRAIN_CFG d) 23 16) ≤ margin ∧ s.dramSt d = 3 ∧ 15 ≤ (s.dramCh d).passes) ∧
  (∃ (d : Fin 6) (margin lane : Nat) (pass : Bool) (s : State), (s.dramCh d).slices = some 64 ∧
     (pass = false ∨ margin < atLeast1 (s.rdF (Reg.DRAM_TRAIN_CFG d) 23 16)) ∧ s.dramSt d = 2) ∧
  (∃ (d : Fin 6) (margin lane : Nat) (pass : Bool) (s : State), (s.dramCh d).slices ≠ some 64) ∧
  (∃ (src : Req) (d : Fin 6) (s : State), s.cutOff src = false ∧ s.dramSt d = 3) ∧
  (∃ (src : Req) (d : Fin 6) (s : State), s.cutOff src = false ∧ s.dramSt d ≠ 3) :=
  ⟨⟨2, 7800, true, mkS [], by decide⟩,
   ⟨2, 7800, false, { mkS [(Reg.STATUS (Reg.pageDRAM 2), 32)] with dram := { chans := [(2, { writes := [(4, 3, 3)] })] } }, by decide⟩,
   ⟨2, 100, { mkS [(Reg.STATUS (Reg.pageDRAM 2), 32)] with dram := { chans := [(2, { debt := -500 })] } }, by decide⟩,
   ⟨2, 100, false, { mkS [(Reg.STATUS (Reg.pageDRAM 2), 32)] with dram := { chans := [(2, { debt := -500 })] } }, by decide⟩,
   ⟨2, 62400, mkS [(Reg.STATUS (Reg.pageDRAM 2), 32)], by decide⟩,
   ⟨2, 100, mkS [(Reg.STATUS (Reg.pageDRAM 2), 32)], by decide⟩,
   ⟨2, 400, { mkS [] with dram := { chans := [(2, { trainTemp := 400 })] } }, by decide⟩,
   ⟨2, 1360, { mkS [] with dram := { chans := [(2, { trainTemp := 1360 })] } }, by decide⟩,
   ⟨2, 1360, { mkS [] with dram := { chans := [(2, { trainTemp := 1360, debt := 50000 })] } }, by decide⟩,
   ⟨2, 1300, mkS [(Reg.STATUS (Reg.pageDRAM 2), 32)], by decide⟩,
   ⟨2, { mkS [(Reg.DRAM_CH_STATUS 2, 1)] with dram := { chans := [(2, { cool := 10001 })] } }, by decide⟩,
   ⟨2, mkS [], by decide⟩,
   ⟨2, 2, 3, true, { mkS [(Reg.STATUS (Reg.pageDRAM 2), 32), (Reg.DRAM_CH_CFG 2, 4)] with dram := { chans := [(2, { open_ := [(1, 3, some 0)], cmds := [(2, 64), (6, 128)] })] } }, by decide⟩,
   ⟨2, 2, 3, true, mkS [], by decide⟩,
   ⟨2, 2, 3, true, { mkS [(Reg.STATUS (Reg.pageDRAM 2), 32), (Reg.DRAM_CH_CFG 2, 8)] with dram := { chans := [(2, { open_ := [(1, 3, some 0)], cmds := [(2, 64), (6, 128)] })] } }, by decide⟩,
   ⟨2, 2, 3, true, mkS [], by decide⟩,
   ⟨2, 1, mkS [(Reg.STATUS (Reg.pageDRAM 2), 32), (Reg.DRAM_CH_CFG 2, 4)], by decide⟩,
   ⟨2, mkS [(Reg.STATUS (Reg.pageDRAM 2), 32)], by decide⟩,
   ⟨2, mkS [], by decide⟩,
   ⟨.pf0, 2, mkS [(Reg.STATUS (Reg.pageDRAM 2), 32)], by decide⟩,
   ⟨.pf0, 2, mkS [], by decide⟩,
   ⟨2, 63, { mkS [] with dram := { chans := [(2, { slices := some 63 })] } }, by decide⟩,
   ⟨2, mkS [], by decide⟩,
   ⟨2, 255, 4, { mkS [(Reg.STATUS (Reg.pageDRAM 2), 32)] with dram := { chans := [(2, { slices := some 64 })] } }, by decide⟩,
   ⟨2, 255, 4, { mkS [(Reg.STATUS (Reg.pageDRAM 2), 48)] with dram := { chans := [(2, { slices := some 64, passes := 4 })] } }, by decide⟩,
   ⟨2, 255, 4, { mkS [(Reg.STATUS (Reg.pageDRAM 2), 48)] with dram := { chans := [(2, { slices := some 64, passes := 15 })] } }, by decide⟩,
   ⟨2, 5, 4, false, { mkS [(Reg.STATUS (Reg.pageDRAM 2), 32)] with dram := { chans := [(2, { slices := some 64 })] } }, by decide⟩,
   ⟨2, 5, 4, false, mkS [], by decide⟩,
   ⟨.pf0, 2, mkS [(Reg.STATUS (Reg.pageDRAM 2), 48)], by decide⟩,
   ⟨.pf0, 2, mkS [], by decide⟩⟩

theorem witness_NetworkFrames :
  (∃ (port : Fin 2) (f : NetFrame) (t : Nat) (s : State), (f.fcsOk = false ∨ f.length < 64 ∨ 1522 < f.length)) ∧
  (∃ (port : Fin 2) (f : NetFrame) (t : Nat) (s : State), f.fcsOk = true ∧ 64 ≤ f.length ∧ f.length ≤ 1522 ∧
     s.vlanOk f = false) ∧
  (∃ (port : Fin 2) (f : NetFrame) (t : Nat) (s : State), f.fcsOk = true ∧ 64 ≤ f.length ∧ f.length ≤ 1522 ∧
     s.vlanOk f = true ∧ s.addrOk f = false) ∧
  (∃ (port : Fin 2) (f : NetFrame) (t : Nat) (s : State), f.fcsOk = true ∧ 64 ≤ f.length ∧ f.length ≤ 1522 ∧
     s.vlanOk f = true ∧ s.addrOk f = true ∧ s.frameClass f = none) ∧
  (∃ (port : Fin 2) (f : NetFrame) (t : Nat) (s : State), f.fcsOk = true ∧ 64 ≤ f.length ∧ f.length ≤ 1522 ∧
     s.vlanOk f = true ∧ s.addrOk f = true ∧ s.frameClass f = some 0 ∧ s.ptpForeign f = true) ∧
  (∃ (port : Fin 2) (f : NetFrame) (t : Nat) (s : State), f.fcsOk = true ∧ 64 ≤ f.length ∧ f.length ≤ 1522 ∧
     s.vlanOk f = true ∧ s.addrOk f = true ∧ s.frameClass f = some 0 ∧ s.ptpForeign f = false ∧
     ((s.till t).police 0).2 = true ∧ (smGet (fun _ => []) s.net.queues 0).length < 64) ∧
  (∃ (port : Fin 2) (f : NetFrame) (t : Nat) (s : State), f.fcsOk = true ∧ 64 ≤ f.length ∧ f.length ≤ 1522 ∧
     s.vlanOk f = true ∧ s.addrOk f = true ∧ s.frameClass f = some 0 ∧ s.ptpForeign f = false ∧
     ((s.till t).police 0).2 = true ∧ 64 ≤ (smGet (fun _ => []) s.net.queues 0).length) ∧
  (∃ (port : Fin 2) (f : NetFrame) (t : Nat) (s : State), f.fcsOk = true ∧ 64 ≤ f.length ∧ f.length ≤ 1522 ∧
     s.vlanOk f = true ∧ s.addrOk f = true ∧ s.frameClass f = some 0 ∧ s.ptpForeign f = false ∧
     ((s.till t).police 0).2 = false) ∧
  (∃ (port : Fin 2) (f : NetFrame) (t : Nat) (s : State), f.fcsOk = true ∧ 64 ≤ f.length ∧ f.length ≤ 1522 ∧
     s.vlanOk f = true ∧ s.addrOk f = true ∧ s.frameClass f = some 1 ∧
     (s.bit Reg.PRP_PRP_CFG 0 = false ∨ f.trailer = none) ∧ ((s.till t).police 1).2 = true ∧
     (smGet (fun _ => []) s.net.queues 1).length < 64) ∧
  (∃ (port : Fin 2) (f : NetFrame) (t : Nat) (lan seq : Nat) (e : NetNode) (s : State), f.fcsOk = true ∧
     64 ≤ f.length ∧ f.length ≤ 1522 ∧ s.vlanOk f = true ∧ s.addrOk f = true ∧ s.frameClass f = some 1 ∧
     s.bit Reg.PRP_PRP_CFG 0 = true ∧ f.trailer = some (lan, seq) ∧ lan = 0xA + port ∧
     s.net.nodes.find? (fun e => e.mac == f.src) = some e ∧ seq ∈ e.seqs) ∧
  (∃ (port : Fin 2) (mac t : Nat) (s : State), s.bit Reg.PRP_PRP_CFG 0 = false) ∧
  (∃ (port : Fin 2) (mac t : Nat) (s : State), s.bit Reg.PRP_PRP_CFG 0 = true ∧
     s.net.nodes.find? (fun e => e.mac == mac) = none ∧ s.net.nodes.length < 64) ∧
  (∃ (port : Fin 2) (mac t : Nat) (s : State), s.bit Reg.PRP_PRP_CFG 0 = true ∧
     s.net.nodes.find? (fun e => e.mac == mac) = none ∧ 64 ≤ s.net.nodes.length) ∧
  (∃ (mac t : Nat) (s : State), s.net.nodes.length < 128) ∧
  (∃ (s : State), s.bit Reg.PRP_PRP_CFG 0 = true ∧ s.bit Reg.PRP_PRP_CFG 1 = true ∧
     (∀ p ∈ List.range 2, s.bit (Reg.NET_PORT_STATUS p) 0 = true) ∧
     (∀ p ∈ List.range 2, s.bit (Reg.NET_PORT_CFG p) 2 = false)) ∧
  (∃ (s : State), s.bit Reg.PRP_PRP_CFG 1 = false) ∧
  (∃ (s : State), s.mac Reg.PRP_REPORT_MAC_LO Reg.PRP_REPORT_MAC_HI = 0) ∧
  (∃ (s : State), s.mac Reg.PRP_REPORT_MAC_LO Reg.PRP_REPORT_MAC_HI ≠ 0 ∧ s.bit Reg.PRP_PRP_CFG 0 = false ∧
     (∀ p ∈ List.range 2, s.bit (Reg.NET_PORT_STATUS p) 0 = true) ∧
     (∀ p ∈ List.range 2, s.bit (Reg.NET_PORT_CFG p) 2 = false)) ∧
  (∃ (port : Fin 2) (speed : Nat) (s : State), speed % 2 ≠ s.rdF (Reg.NET_PORT_CFG port) 0 0) ∧
  (∃ (port : Fin 2) (speed : Nat) (s : State), speed % 2 = s.rdF (Reg.NET_PORT_CFG port) 0 0) ∧
  (∃ (port : Fin 2) (speed : Nat) (s : State), s.bit (Reg.NET_PORT_STATUS port) 0 = true) ∧
  (∃ (port : Fin 2) (speed : Nat) (s : State), s.bit (Reg.NET_PORT_STATUS port) 0 = false) ∧
  (∃ (port : Fin 2) (present los txFault : Bool) (s : State),
     s.rdF (Reg.NET_PORT_STATUS port) 3 1 ≠ b2n present + b2n los * 2 + b2n txFault * 4) :=
  ⟨⟨1, { fcsOk := true, length := 1523, tags := [], dst := 0x011B19000000, src := 5, etherType := 0x88F7, udp := none, trailer := none, ptpType := 0, domain := 0, sdo := 0 }, 7, mkS [], by decide⟩,
   ⟨1, { fcsOk := true, length := 100, tags := [5], dst := 0x011B19000000, src := 5, etherType := 0x88F7, udp := none, trailer := none, ptpType := 0, domain := 0, sdo := 0 }, 7, mkS [], by decide⟩,
   ⟨1, { fcsOk := true, length := 100, tags := [], dst := 77, src := 5, etherType := 0x88F7, udp := none, trailer := none, ptpType := 0, domain := 0, sdo := 0 }, 7, mkS [], by decide⟩,
   ⟨1, { fcsOk := true, length := 100, tags := [], dst := 0x011B19000000, src := 5, etherType := 0x0806, udp := none, trailer := none, ptpType := 0, domain := 0, sdo := 0 }, 7, mkS [], by decide⟩,
   ⟨1, { fcsOk := true, length := 100, tags := [], dst := 0x011B19000000, src := 5, etherType := 0x88F7, udp := none, trailer := none, ptpType := 12, domain := 0, sdo := 0 }, 7, mkS [(Reg.PRP_PRP_CFG, 1), (Reg.PRP_PTP_TRANSPORT, 3), (Reg.PRP_PTP_SRC_MAC_HI, 0x10000), (Reg.PRP_POLICE_PTP, 0x100001), (Reg.PRP_POLICE_PTP + 4, 0x100001), (Reg.PRP_POLICE_PTP + 8, 0x100001), (Reg.PRP_POLICE_PTP + 12, 0x100001)], by decide⟩,
   ⟨1, { fcsOk := true, length := 100, tags := [], dst := 0x011B19000000, src := 5, etherType := 0x88F7, udp := none, trailer := none, ptpType := 0, domain := 0, sdo := 0 }, 7, mkS [(Reg.PRP_PRP_CFG, 1), (Reg.PRP_PTP_TRANSPORT, 3), (Reg.PRP_PTP_SRC_MAC_HI, 0x10000), (Reg.PRP_POLICE_PTP, 0x100001), (Reg.PRP_POLICE_PTP + 4, 0x100001), (Reg.PRP_POLICE_PTP + 8, 0x100001), (Reg.PRP_POLICE_PTP + 12, 0x100001)], by decide⟩,
   ⟨1, { fcsOk := true, length := 100, tags := [], dst := 0x011B19000000, src := 5, etherType := 0x88F7, udp := none, trailer := none, ptpType := 0, domain := 0, sdo := 0 }, 7, { mkS [(Reg.PRP_PRP_CFG, 1), (Reg.PRP_PTP_TRANSPORT, 3), (Reg.PRP_PTP_SRC_MAC_HI, 0x10000), (Reg.PRP_POLICE_PTP, 0x100001), (Reg.PRP_POLICE_PTP + 4, 0x100001), (Reg.PRP_POLICE_PTP + 8, 0x100001), (Reg.PRP_POLICE_PTP + 12, 0x100001)] with net := { queues := [(0, List.replicate 64 (0, { fcsOk := true, length := 100, tags := [], dst := 0x011B19000000, src := 5, etherType := 0x88F7, udp := none, trailer := none, ptpType := 0, domain := 0, sdo := 0 }))] } }, by decide⟩,
   ⟨1, { fcsOk := true, length := 100, tags := [], dst := 0x011B19000000, src := 5, etherType := 0x88F7, udp := none, trailer := none, ptpType := 0, domain := 0, sdo := 0 }, 7, mkS [(Reg.PRP_PRP_CFG, 1), (Reg.PRP_PTP_TRANSPORT, 3), (Reg.PRP_PTP_SRC_MAC_HI, 0x10000), (Reg.PRP_POLICE_PTP, 0), (Reg.PRP_POLICE_PTP + 4, 0x100001), (Reg.PRP_POLICE_PTP + 8, 0x100001), (Reg.PRP_POLICE_PTP + 12, 0x100001)], by decide⟩,
   ⟨1, { fcsOk := true, length := 100, tags := [], dst := 0x011B19000000, src := 5, etherType := 0x88B5, udp := none, trailer := none, ptpType := 0, domain := 0, sdo := 0 }, 7, mkS [(Reg.PRP_PRP_CFG, 1), (Reg.PRP_PTP_TRANSPORT, 3), (Reg.PRP_PTP_SRC_MAC_HI, 0x10000), (Reg.PRP_POLICE_PTP, 0x100001), (Reg.PRP_POLICE_PTP + 4, 0x100001), (Reg.PRP_POLICE_PTP + 8, 0x100001), (Reg.PRP_POLICE_PTP + 12, 0x100001), (Reg.PAIR_LOOKOUT_MAC_LO, 5), (Reg.PAIR_LOOKOUT_MAC_HI, 0x88B50000)], by decide⟩,
   ⟨1, { fcsOk := true, length := 100, tags := [], dst := 0x011B19000000, src := 5, etherType := 0x88B5, udp := none, trailer := some (11, 3), ptpType := 0, domain := 0, sdo := 0 }, 7, 11, 3, { mac := 5, last := 0, seqs := [3] }, { mkS [(Reg.PRP_PRP_CFG, 1), (Reg.PRP_PTP_TRANSPORT, 3), (Reg.PRP_PTP_SRC_MAC_HI, 0x10000), (Reg.PRP_POLICE_PTP, 0x100001), (Reg.PRP_POLICE_PTP + 4, 0x100001), (Reg.PRP_POLICE_PTP + 8, 0x100001), (Reg.PRP_POLICE_PTP + 12, 0x100001), (Reg.PAIR_LOOKOUT_MAC_LO, 5), (Reg.PAIR_LOOKOUT_MAC_HI, 0x88B50000)] with net := { nodes := [{ mac := 5, last := 0, seqs := [3] }] } }, by decide⟩,
   ⟨0, 9, 3, mkS [(Reg.PRP_PRP_CFG, 0)], by decide⟩,
   ⟨0, 9, 3, mkS [(Reg.PRP_PRP_CFG, 1)], by decide⟩,
   ⟨0, 99, 3, { mkS [(Reg.PRP_PRP_CFG, 1)] with net := { nodes := List.replicate 64 { mac := 1, last := 0, seqs := [] } } }, by decide⟩,
   ⟨1, 900000000, { mkS [(Reg.PRP_PRP_CFG, 0x10001)] with net := { nodes := [{ mac := 1, last := 0, seqs := [] }] } }, by decide⟩,
   ⟨mkS [(Reg.PRP_PRP_CFG, 3), (Reg.NET_PORT_STATUS 0, 1), (Reg.NET_PORT_STATUS 1, 1)], by decide⟩,
   ⟨mkS [(Reg.PRP_PRP_CFG, 1)], by decide⟩,
   ⟨mkS [], by decide⟩,
   ⟨mkS [(Reg.PRP_PRP_CFG, 0), (Reg.PRP_REPORT_MAC_LO, 7), (Reg.NET_PORT_STATUS 0, 1), (Reg.NET_PORT_STATUS 1, 1)], by decide⟩,
   ⟨1, 1, mkS [(Reg.NET_PORT_CFG 1, 0)], by decide⟩,
   ⟨1, 1, mkS [(Reg.NET_PORT_CFG 1, 1)], by decide⟩,
   ⟨1, 1, mkS [(Reg.NET_PORT_STATUS 1, 1)], by decide⟩,
   ⟨1, 1, mkS [], by decide⟩,
   ⟨0, true, false, true, mkS [], by decide⟩⟩

theorem witness_PtpMessages :
  (∃ (port : Fin 2) (m : PtpMsg) (s : State), m.twoStep = true) ∧
  (∃ (port : Fin 2) (m : PtpMsg) (s : State), m.twoStep = false ∧ (s.netPort port).best = none) ∧
  (∃ (port : Fin 2) (m : PtpMsg) (s : State), m.twoStep = false ∧ (s.netPort port).best.isSome = true ∧
     (s.netPort port).delays = []) ∧
  (∃ (port : Fin 2) (m : PtpMsg) (d : Int) (s : State), m.twoStep = false ∧ (s.netPort port).best.isSome = true ∧
     (s.netPort port).delay = some d ∧ s.servoSt = 0 ∧ (s.netPort port).samples < 3) ∧
  (∃ (port : Fin 2) (m : PtpMsg) (s : State), (s.netPort port).sync = none) ∧
  (∃ (port : Fin 2) (m : PtpMsg) (n g : Nat) (c : Int) (s : State), (s.netPort port).sync = some (n, g, c) ∧
     n = m.seq ∧ (s.netPort port).best.isSome = true ∧ (s.netPort port).delays = []) ∧
  (∃ (port : Fin 2) (t : Nat) (s : State), s.p2p = false ∧ (s.netPort port).best = none) ∧
  (∃ (port : Fin 2) (t : Nat) (s : State), s.p2p = false ∧
     (s.bit Reg.PRP_PTP_TRANSPORT 0 = false ∨ s.bit Reg.PRP_PTP_TRANSPORT 1 = true) ∧
     (s.netPort port).best.isSome = true ∧ s.bit Reg.TIME_TIME_CFG 13 = true ∧
     s.bit (Reg.NET_PORT_STATUS port) 0 = true ∧ s.bit (Reg.NET_PORT_CFG port) 2 = false) ∧
  (∃ (port type seq : Nat) (time corr : Int) (s : State), s.bit (Reg.NET_PORT_STATUS port) 0 = true ∧
     s.bit (Reg.NET_PORT_CFG port) 2 = false ∧ s.bit Reg.PRP_PTP_TRANSPORT 0 = true ∧
     s.bit Reg.PRP_PTP_TRANSPORT 1 = false) ∧
  (∃ (port type seq : Nat) (time corr : Int) (s : State), s.bit (Reg.NET_PORT_STATUS port) 0 = true ∧
     s.bit (Reg.NET_PORT_CFG port) 2 = false ∧
     (s.bit Reg.PRP_PTP_TRANSPORT 0 = false ∨ s.bit Reg.PRP_PTP_TRANSPORT 1 = true)) ∧
  (∃ (port : Fin 2) (m : PtpMsg) (s : State), (s.netPort port).req = none) ∧
  (∃ (port : Fin 2) (m : PtpMsg) (n f3 f2 : Nat) (t1 : Int) (s : State), (s.netPort port).req = some (n, f3) ∧
     (s.netPort port).last = some (t1, f2) ∧ s.p2p = false ∧ m.forMe = true ∧ n = m.seq ∧
     (s.netPort port).delays = [] ∧ s.servoSt = 0) ∧
  (∃ (port : Fin 2) (m : PtpMsg) (t : Nat) (s : State), s.p2p = false) ∧
  (∃ (port : Fin 2) (m : PtpMsg) (t : Nat) (s : State), s.p2p = true ∧
     (s.bit Reg.PRP_PTP_TRANSPORT 0 = false ∨ s.bit Reg.PRP_PTP_TRANSPORT 1 = true) ∧
     s.bit Reg.TIME_TIME_CFG 13 = true ∧ s.bit (Reg.NET_PORT_STATUS port) 0 = true ∧
     s.bit (Reg.NET_PORT_CFG port) 2 = false) ∧
  (∃ (port : Fin 2) (m : PtpMsg) (s : State), (s.netPort port).req = none) ∧
  (∃ (port : Fin 2) (m : PtpMsg) (n f1 : Nat) (s : State), (s.netPort port).req = some (n, f1) ∧ s.p2p = true ∧
     m.forMe = true ∧ n = m.seq ∧ m.twoStep = true) ∧
  (∃ (port : Fin 2) (m : PtpMsg) (n f1 : Nat) (s : State), (s.netPort port).req = some (n, f1) ∧ s.p2p = true ∧
     m.forMe = true ∧ n = m.seq ∧ m.twoStep = false ∧ (s.netPort port).delays = [] ∧ s.servoSt = 0) ∧
  (∃ (port : Fin 2) (m : PtpMsg) (s : State), (s.netPort port).resp = none) ∧
  (∃ (port : Fin 2) (m : PtpMsg) (n f1 : Nat) (f4 : Nat) (t2 : Int) (s : State), (s.netPort port).req = some (n,
     f1) ∧ (s.netPort port).resp = some (n, t2, f4) ∧ s.p2p = true ∧ m.forMe = true ∧ n = m.seq ∧
     (s.netPort port).delays = [] ∧ s.servoSt = 0) ∧
  (∃ (port : Fin 2) (m : PtpMsg) (s : State), (s.netPort port).best = none) ∧
  (∃ (port : Fin 2) (m : PtpMsg) (b : List Nat) (s : State), (s.netPort port).best = some b ∧
     b.getD 7 0 ≠ m.data.getD 7 0 ∧ keyBefore m.data b = false) ∧
  (∃ (port : Fin 2) (m : PtpMsg) (b : List Nat) (s : State), (s.netPort port).best = some b ∧
     keyBefore m.data b = true) :=
  ⟨⟨1, { seq := 4, twoStep := true, time := 0, corr := 0, frc := 50, forMe := true, data := [] }, mkS [], by decide⟩,
   ⟨1, { seq := 4, twoStep := false, time := 0, corr := 0, frc := 50, forMe := true, data := [] }, mkS [], by decide⟩,
   ⟨1, { seq := 4, twoStep := false, time := 0, corr := 0, frc := 50, forMe := true, data := [] }, { mkS [] with net := { ports := [(1, { best := some [1] })] } }, by decide⟩,
   ⟨1, { seq := 4, twoStep := false, time := 0, corr := 0, frc := 50, forMe := true, data := [] }, 7, { mkS [] with net := { ports := [(1, { best := some [1], delays := [7] })] } }, by decide⟩,
   ⟨1, { seq := 4, twoStep := false, time := 0, corr := 0, frc := 50, forMe := true, data := [] }, mkS [], by decide⟩,
   ⟨1, { seq := 4, twoStep := false, time := 0, corr := 0, frc := 50, forMe := true, data := [] }, 4, 9, 2, { mkS [] with net := { ports := [(1, { best := some [1], sync := some (4, 9, 2) })] } }, by decide⟩,
   ⟨1, 5, mkS [], by decide⟩,
   ⟨1, 5, { mkS [(Reg.TIME_TIME_CFG, 0x2000), (Reg.NET_PORT_STATUS 1, 1)] with net := { ports := [(1, { best := some [1] })] } }, by decide⟩,
   ⟨1, 1, 4, 9, 2, mkS [(Reg.NET_PORT_STATUS 1, 1), (Reg.PRP_NODE_IP, 0xC0A80001), (Reg.PRP_PTP_TRANSPORT, 1)], by decide⟩,
   ⟨1, 1, 4, 9, 2, mkS [(Reg.NET_PORT_STATUS 1, 1), (Reg.PRP_NODE_IP, 0xC0A80001), (Reg.PRP_PTP_TRANSPORT, 3)], by decide⟩,
   ⟨1, { seq := 4, twoStep := false, time := 0, corr := 0, frc := 50, forMe := true, data := [] }, mkS [], by decide⟩,
   ⟨1, { seq := 4, twoStep := false, time := 900, corr := 0, frc := 50, forMe := true, data := [] }, 4, 60, 50, 100, { mkS [] with net := { ports := [(1, { best := some [1], req := some (4, 60), last := some (100, 50) })] } }, by decide⟩,
   ⟨1, { seq := 4, twoStep := false, time := 0, corr := 0, frc := 50, forMe := true, data := [] }, 70, mkS [], by decide⟩,
   ⟨1, { seq := 4, twoStep := false, time := 0, corr := 0, frc := 50, forMe := true, data := [] }, 70, mkS [(Reg.TIME_TIME_CFG, 0x3000), (Reg.NET_PORT_STATUS 1, 1)], by decide⟩,
   ⟨1, { seq := 4, twoStep := false, time := 0, corr := 0, frc := 50, forMe := true, data := [] }, mkS [], by decide⟩,
   ⟨1, { seq := 4, twoStep := true, time := 0, corr := 0, frc := 50, forMe := true, data := [] }, 4, 20, { mkS [(Reg.TIME_TIME_CFG, 0x1000)] with net := { ports := [(1, { req := some (4, 20) })] } }, by decide⟩,
   ⟨1, { seq := 4, twoStep := false, time := 0, corr := 0, frc := 50, forMe := true, data := [] }, 4, 20, { mkS [(Reg.TIME_TIME_CFG, 0x1000)] with net := { ports := [(1, { req := some (4, 20) })] } }, by decide⟩,
   ⟨1, { seq := 4, twoStep := false, time := 0, corr := 0, frc := 50, forMe := true, data := [] }, mkS [], by decide⟩,
   ⟨1, { seq := 4, twoStep := false, time := 0, corr := 0, frc := 50, forMe := true, data := [] }, 4, 20, 50, 8, { mkS [(Reg.TIME_TIME_CFG, 0x1000)] with net := { ports := [(1, { req := some (4, 20), resp := some (4, 8, 50) })] } }, by decide⟩,
   ⟨1, { seq := 4, twoStep := false, time := 0, corr := 0, frc := 50, forMe := true, data := [1, 2, 3, 4, 5, 6, 7, 8] }, mkS [], by decide⟩,
   ⟨1, { seq := 4, twoStep := false, time := 0, corr := 0, frc := 50, forMe := true, data := [2, 2, 3, 4, 5, 6, 7, 9] }, [1, 2, 3, 4, 5, 6, 7, 8], { mkS [] with net := { ports := [(1, { best := some [1, 2, 3, 4, 5, 6, 7, 8] })] } }, by decide⟩,
   ⟨1, { seq := 4, twoStep := false, time := 0, corr := 0, frc := 50, forMe := true, data := [0, 2, 3, 4, 5, 6, 7, 9] }, [1, 2, 3, 4, 5, 6, 7, 8], { mkS [] with net := { ports := [(1, { best := some [1, 2, 3, 4, 5, 6, 7, 8] })] } }, by decide⟩⟩

theorem witness_ServoStates :
  (∃ (src : Req) (s : State), s.cutOff src = false ∧ s.crewRuns 0 = true ∧ s.disciplined = true) ∧
  (∃ (src : Req) (s : State), s.cutOff src = false ∧ (s.crewRuns 0 = false ∨ s.disciplined = false)) ∧
  (∃ (src : Req) (s : State), s.cutOff src = false ∧ s.crewRuns 0 = true ∧ (s.servoSt = 3 ∨ s.servoSt = 4)) ∧
  (∃ (src : Req) (s : State), s.cutOff src = false ∧ s.servoSt ≠ 3 ∧ s.servoSt ≠ 4) ∧
  (∃ (t a : Nat) (s : State), s.crewRuns 0 = true ∧ s.servoSt = 4 ∧ s.net.agree = some a ∧
     32 * 800000000 ≤ (s.till t).frc - a) ∧
  (∃ (t : Nat) (s : State), s.servoSt ≠ 4) ∧
  (∃ (port : Fin 2) (t : Nat) (a : Nat) (s : State), s.crewRuns 0 = true ∧ port.val ∈ s.net.dropped ∧
     s.net.agree = some a ∧ 32 * 800000000 ≤ (s.till t).frc - a) ∧
  (∃ (port : Fin 2) (t : Nat) (s : State), port.val ∉ s.net.dropped) ∧
  (∃ (t : Nat) (s : State), (s.servoSt = 3 ∨ s.servoSt = 4) ∧
     s.rdF Reg.TIME_HOLDOVER_MAX 15 0 * 800000000 < (s.till t).frc - s.net.holdFrc) ∧
  (∃ (t : Nat) (s : State), s.servoSt ≠ 3 ∧ s.servoSt ≠ 4) ∧
  (∃ (port : Fin 2) (t : Nat) (s : State), s.crewRuns 0 = true ∧ s.servoSt = 2 ∧ (s.netPort (1 - port)).off = none) ∧
  (∃ (port : Fin 2) (t : Nat) (s : State), s.crewRuns 0 = true ∧ s.servoSt = 4) ∧
  (∃ (port : Fin 2) (t : Nat) (s : State), (s.servoSt = 0 ∨ s.servoSt = 3)) :=
  ⟨⟨.pf0, { mkS [(Reg.TIME_SERVO_STATUS, 2)] with net := { ports := [(1, { delays := [4, 5], off := some 3 })] } }, by decide⟩,
   ⟨.pf0, mkS [], by decide⟩,
   ⟨.pf0, mkS [(Reg.TIME_SERVO_STATUS, 0xB)], by decide⟩,
   ⟨.pf0, mkS [], by decide⟩,
   ⟨25600000000, 0, { mkS [(Reg.TIME_SERVO_STATUS, 0xC)] with net := { agree := some 0 } }, by decide⟩,
   ⟨5, mkS [], by decide⟩,
   ⟨1, 25600000000, 0, { mkS [(Reg.TIME_SERVO_STATUS, 2)] with net := { agree := some 0, dropped := [1] } }, by decide⟩,
   ⟨1, 5, mkS [], by decide⟩,
   ⟨900000000, mkS [(Reg.TIME_SERVO_STATUS, 3), (Reg.TIME_HOLDOVER_MAX, 1)], by decide⟩,
   ⟨5, mkS [], by decide⟩,
   ⟨1, 5, mkS [(Reg.TIME_SERVO_STATUS, 0x32)], by decide⟩,
   ⟨1, 5, mkS [(Reg.TIME_SERVO_STATUS, 4)], by decide⟩,
   ⟨1, 5, { mkS [] with net := { ports := [(1, { samples := 3 })] } }, by decide⟩⟩

set_option Elab.async false in
theorem witness_BlockLocks :
  (∃ (c : Fin 128) (blocks : List (Nat × Nat)) (s : State), s.laneSt c = 3 ∧
     s.bit (Reg.CH_LINK_STATUS c) 6 = false ∧ 32 ≤ idleRun 0 (decodeBlocks none blocks).2) ∧
  (∃ (c : Fin 128) (blocks : List (Nat × Nat)) (s : State), s.laneSt c = 3 ∧
     s.bit (Reg.CH_LINK_STATUS c) 6 = false ∧ idleRun 0 (decodeBlocks none blocks).2 < 32) ∧
  (∃ (c : Fin 128) (blocks : List (Nat × Nat)) (s : State), s.laneSt c = 3 ∧ s.bit (Reg.CH_LINK_STATUS c) 6 = true ∧
     32 ≤ idleRun (s.lane c).idles (decodeBlocks (s.lane c).rxScr blocks).2) ∧
  (∃ (c : Fin 128) (blocks : List (Nat × Nat)) (s : State), s.laneSt c ≠ 3) ∧
  (∃ (c : Fin 128) (errs t : Nat) (s : State), s.bit (Reg.CH_LINK_STATUS c) 6 = true ∧ s.laneSt c = 5) ∧
  (∃ (c : Fin 128) (errs t : Nat) (s : State), s.bit (Reg.CH_LINK_STATUS c) 6 = false) ∧
  (∃ (p : Fin 2) (lane : Fin 4) (s : State), 2 < s.camSt p ∧ s.camSt p ≠ 5 ∧
     (s.camPort p).locked.contains lane.val = false) ∧
  (∃ (p : Fin 2) (lane : Fin 4) (s : State), (s.camSt p < 2 ∨ s.camSt p = 5)) ∧
  (∃ (p : Fin 2) (lane : Fin 4) (s : State), s.camSt p = 2 ∧ (s.camPort p).locked.contains lane.val = false ∧
     (s.camPort p).locked.length = 3) ∧
  (∃ (p : Fin 2) (lane : Fin 4) (errs t : Nat) (s : State), (s.camPort p).locked.contains lane.val = false) ∧
  (∃ (p : Fin 2) (lane : Fin 4) (errs t : Nat) (s : State), s.camSt p ≠ 4 ∧
     (s.camPort p).locked.contains lane.val = true) ∧
  (∃ (p : Fin 2) (lane : Fin 4) (errs t : Nat) (s : State), s.camSt p = 4 ∧
     (s.camPort p).locked.contains lane.val = true) ∧
  (∃ (p : Fin 3) (lane : Fin 4) (s : State), s.bit (Reg.CTRL (Reg.pagePEER p)) 0 = false) ∧
  (∃ (p : Fin 3) (lane : Fin 4) (s : State), s.bit (Reg.CTRL (Reg.pagePEER p)) 0 = true ∧ s.peerSt p ≤ 1) ∧
  (∃ (p : Fin 3) (lane : Fin 4) (s : State), s.bit (Reg.CTRL (Reg.pagePEER p)) 0 = true ∧ 1 < s.peerSt p) ∧
  (∃ (p : Fin 3) (lane : Fin 4) (errs t : Nat) (s : State), s.bit (Reg.PEER_PORT_STATUS p) lane = true) ∧
  (∃ (p : Fin 3) (lane : Fin 4) (errs t : Nat) (s : State), s.bit (Reg.PEER_PORT_STATUS p) lane = false) :=
  ⟨⟨3, (codeBlocks false 1 0 (List.replicate 33 (controlHeader, idleBlock))).2, mkS [(Reg.CH_LINK_STATUS 3, 3)], by decide +kernel⟩,
   ⟨3, (1, 5) :: (codeBlocks false 1 0 (List.replicate 4 (controlHeader, idleBlock))).2, mkS [(Reg.CH_LINK_STATUS 3, 3)], by decide +kernel⟩,
   ⟨3, (codeBlocks false 1 0 (List.replicate 2 (controlHeader, idleBlock))).2, { mkS [(Reg.CH_LINK_STATUS 3, 0x43)] with lanes := [(3, { rxScr := some 1, idles := 30 })] }, by decide +kernel⟩,
   ⟨3, [], mkS [], by decide⟩,
   ⟨3, 17, 9, mkS [(Reg.CH_LINK_STATUS 3, 0x45)], by decide⟩,
   ⟨3, 16, 9, mkS [], by decide⟩,
   ⟨1, 2, mkS [(Reg.STATUS (Reg.pageCAM 1), 0x40)], by decide⟩,
   ⟨1, 2, mkS [], by decide⟩,
   ⟨1, 2, { mkS [(Reg.STATUS (Reg.pageCAM 1), 0x20)] with cam := { ports := [(1, { locked := [0, 1, 3] })] } }, by decide⟩,
   ⟨1, 2, 16, 3, mkS [], by decide⟩,
   ⟨1, 2, 17, 3, { mkS [(Reg.STATUS (Reg.pageCAM 1), 0x20)] with cam := { ports := [(1, { locked := [0, 1, 2] })] } }, by decide⟩,
   ⟨1, 2, 16, 3, { mkS [(Reg.STATUS (Reg.pageCAM 1), 0x40)] with cam := { ports := [(1, { locked := [0, 1, 2, 3] })] } }, by decide⟩,
   ⟨2, 1, mkS [(Reg.CTRL (Reg.pagePEER 2), 0)], by decide⟩,
   ⟨2, 1, mkS [(Reg.CTRL (Reg.pagePEER 2), 1), (Reg.STATUS (Reg.pagePEER 2), 0x10)], by decide⟩,
   ⟨2, 1, mkS [(Reg.CTRL (Reg.pagePEER 2), 1), (Reg.STATUS (Reg.pagePEER 2), 0x40)], by decide⟩,
   ⟨2, 1, 16, 7, mkS [(Reg.PEER_PORT_STATUS 2, 2)], by decide⟩,
   ⟨2, 1, 16, 7, mkS [], by decide⟩⟩

set_option Elab.async false in
theorem witness_PeerPorts :
  (∃ (p : Fin 3) (blocks : List (Nat × Nat)) (skew : Nat) (s : State), s.peerSt p ≠ 2) ∧
  (∃ (p : Fin 3) (blocks : List (Nat × Nat)) (skew : Nat) (s : State), s.peerSt p = 2 ∧
     (16 < skew ∨ readAlignSet blocks = none)) ∧
  (∃ (p : Fin 3) (blocks : List (Nat × Nat)) (skew : Nat) (s : State), s.peerSt p = 2 ∧ skew ≤ 16 ∧
     (readAlignSet blocks).isSome = true ∧ (s.peerPort p).aligned = 0) ∧
  (∃ (p : Fin 3) (blocks : List (Nat × Nat)) (map inv skew : Nat) (s : State), s.peerSt p = 2 ∧ skew ≤ 16 ∧
     readAlignSet blocks = some (map, inv) ∧ 1 ≤ (s.peerPort p).aligned) ∧
  (∃ (p : Fin 3) (serial mode portId addr proto t : Nat) (s : State), s.peerSt p ≠ 3) ∧
  (∃ (p : Fin 3) (serial mode portId addr proto t : Nat) (s : State), s.peerSt p = 3 ∧ portsMatch p portId = false) ∧
  (∃ (p : Fin 3) (serial mode portId addr proto t : Nat) (s : State), s.peerSt p = 3 ∧ portsMatch p portId = true ∧
     p = 2 ∧ s.pair.inDoubt = []) ∧
  (∃ (p : Fin 3) (serial mode portId addr proto t : Nat) (s : State), s.peerSt p = 3 ∧ portsMatch p portId = true ∧
     p ≠ 2 ∧ s.ringMode = false) ∧
  (∃ (src : Req) (p : Fin 3) (s : State), s.cutOff src = false ∧ s.bit (Reg.CTRL (Reg.pagePEER p)) 0 = false) ∧
  (∃ (p : Fin 3) (s : State), s.peerUp p = false) ∧
  (∃ (p : Fin 3) (s : State), s.peerUp p = true ∧ (p = 2 ∨ s.ringMode = false)) ∧
  (∃ (src : Req) (p : Fin 3) (s : State), s.cutOff src = false ∧ s.bit (Reg.CTRL (Reg.pagePEER p)) 0 = true ∧
     s.peerUp p = false) ∧
  (∃ (src : Req) (p : Fin 3) (s : State), s.cutOff src = false ∧ s.bit (Reg.CTRL (Reg.pagePEER p)) 0 = true ∧
     s.peerUp p = true ∧ (p = 2 ∨ s.ringMode = false)) ∧
  (∃ (p : Fin 3) (s : State), s.peerUp p = true ∧ p ≠ 2 ∧ s.ringMode = true ∧ s.ringSt = 6) ∧
  (∃ (p : Fin 3) (lanes : Nat) (errs : List Nat) (s : State), s.peerSt p = 4 ∧
     (s.peerLanes p).all (bitOf lanes) = false ∧ lanes % 16 ≠ 0) ∧
  (∃ (p : Fin 3) (lanes : Nat) (errs : List Nat) (s : State), (s.peerSt p ≠ 4 ∨
     (s.peerLanes p).all (bitOf lanes) = true)) ∧
  (∃ (p : Fin 3) (lanes : Nat) (errs : List Nat) (s : State), s.peerSt p = 5 ∧ (bitsOf 4 lanes).length ≠ 0 ∧
     (s.peerPort p).unacked = [] ∧ max (s.width p) (if 2 ≤ (bitsOf 4 lanes).length then 1 else 2) ≠ s.width p) ∧
  (∃ (p : Fin 3) (lanes : Nat) (errs : List Nat) (s : State), s.peerSt p = 5 ∧ (bitsOf 4 lanes).length ≠ 0 ∧
     (s.peerPort p).unacked = [] ∧ max (s.width p) (if 2 ≤ (bitsOf 4 lanes).length then 1 else 2) = s.width p) ∧
  (∃ (p : Fin 3) (lanes : Nat) (errs : List Nat) (s : State), s.peerSt p ≠ 5) ∧
  (∃ (p : Fin 3) (lanes : Nat) (s : State), s.bit (Reg.PEER_PORT_CFG p) 8 = true ∧ s.peerSt p = 4 ∧
     s.widthOf p (bitsOf 4 ((s.peerLock p ||| lanes) % 16)).length < s.width p) ∧
  (∃ (p : Fin 3) (lanes : Nat) (s : State), s.bit (Reg.PEER_PORT_CFG p) 8 = true ∧ s.peerSt p = 4 ∧
     s.width p ≤ s.widthOf p (bitsOf 4 ((s.peerLock p ||| lanes) % 16)).length) ∧
  (∃ (p : Fin 3) (lanes : Nat) (s : State), s.peerSt p ≠ 4) ∧
  (∃ (src : Req) (p : Fin 3) (lanes : Nat) (s : State), s.cutOff src = false ∧ s.peerSt p = 4 ∧
     s.widthOf p (bitsOf 4 ((s.peerLock p ||| lanes) % 16)).length < s.width p) ∧
  (∃ (src : Req) (p : Fin 3) (lanes : Nat) (s : State), s.cutOff src = false ∧ s.peerSt p = 4 ∧
     s.width p ≤ s.widthOf p (bitsOf 4 ((s.peerLock p ||| lanes) % 16)).length) ∧
  (∃ (src : Req) (p : Fin 3) (lanes : Nat) (s : State), s.cutOff src = false ∧ s.peerSt p ≠ 4) ∧
  (∃ (p : Fin 3) (t1 t2 t3 t4 ring : Nat) (s : State), s.peerUp p = true ∧
     (p = 2 ∨ s.ringMode = false ∨ s.isRoot = true)) ∧
  (∃ (p : Fin 3) (t1 t2 t3 t4 ring : Nat) (s : State), s.peerUp p = false) ∧
  (∃ (p : Fin 3) (t1 t2 t3 t4 ring : Nat) (s : State), s.peerUp p = true ∧ p ≠ 2 ∧ s.ringMode = true ∧
     s.isRoot = false ∧ s.rdF Reg.RING_RING_STATUS 11 0 ≠ 0 ∧ p.val = s.rootPort ∧ s.ringSt = 6) ∧
  (∃ (p : Fin 3) (f : PeerFrame) (s : State), s.peerSt p ≠ 4 ∧ (f.cls ≠ 0 ∨ s.peerUp p = false)) ∧
  (∃ (p : Fin 3) (f : PeerFrame) (s : State), s.peerUp p = true ∧ f.cls = 0 ∧ f.crcOk = false) ∧
  (∃ (p : Fin 3) (f : PeerFrame) (s : State), f.cls = 0 ∧ f.crcOk = true ∧ (s.peerPort p).lastBlock = some f.seq) ∧
  (∃ (p : Fin 3) (f : PeerFrame) (s : State), s.peerUp p = true ∧ f.cls = 0 ∧ f.crcOk = true ∧
     (s.peerPort p).lastBlock ≠ some f.seq) ∧
  (∃ (p : Fin 3) (f : PeerFrame) (s : State), s.peerSt p = 4 ∧ f.cls ≠ 0 ∧ f.crcOk = false) ∧
  (∃ (p : Fin 3) (f : PeerFrame) (s : State), s.peerSt p = 4 ∧ f.cls ≠ 0 ∧ f.crcOk = true ∧
     (p ≠ 2 ∨ s.pairMode = false) ∧ f.seq % 65536 = (smGet (fun _ => 0) (s.peerPort p).rxSeq f.cls + 1) % 65536) ∧
  (∃ (p : Fin 3) (f : PeerFrame) (s : State), s.peerSt p = 4 ∧ f.cls ≠ 0 ∧ f.crcOk = true ∧
     f.seq % 65536 ≠ (smGet (fun _ => 0) (s.peerPort p).rxSeq f.cls + 1) % 65536 ∧
     sdiff 16 f.seq (smGet (fun _ => 0) (s.peerPort p).rxSeq f.cls) ≤ 0) ∧
  (∃ (p : Fin 3) (f : PeerFrame) (s : State), s.peerSt p = 4 ∧ f.cls ≠ 0 ∧ f.crcOk = true ∧
     0 < sdiff 16 f.seq (smGet (fun _ => 0) (s.peerPort p).rxSeq f.cls) ∧
     f.seq % 65536 ≠ (smGet (fun _ => 0) (s.peerPort p).rxSeq f.cls + 1) % 65536) ∧
  (∃ (p : Fin 3) (cls : Fin 4) (s : State), s.peerSt p ≠ 4) ∧
  (∃ (p : Fin 3) (cls : Fin 4) (n kind : Nat) (fields : List Nat) (s : State), s.peerSt p = 4 ∧
     (s.peerPort p).waiting.contains (cls.val, n) = false ∧
     (s.peerPort p).unacked.filter (fun x => x.1 == cls.val) = [(cls.val, n, kind, fields)]) ∧
  (∃ (addr data : Nat) (s : State), (s.pairMode = false ∨ s.follows = false)) ∧
  (∃ (k data i : Nat) (p : PageType) (s : State), s.pairMode = true ∧ s.follows = true ∧
     pageAt (k / 0x1000) = some (p, i) ∧ 0x040 ≤ k % 0x1000 ∧ lockNum k = none ∧ accOf k = some .rws ∧
     s.armedPage (k / 0x1000) = false ∧ s.special .peer p i k (data % 2 ^ 32) = none ∧
     s.stateFault .peer p i k = none ∧ isLo k = false ∧ isHi k = false ∧ s.valueFault p i k (data % 2 ^ 32) = none ∧
     p ≠ .enc ∧ p ≠ .cam ∧ p ≠ .pair ∧ s.heldBits .peer p k = [] ∧ (p ≠ .ch ∨ k % 0x1000 ≠ 0x0C4)) :=
  ⟨⟨2, [(controlHeader, alignBlock 0), (controlHeader, alignBlock 1), (controlHeader, alignBlock 2), (controlHeader, alignBlock 3)], 3, mkS [], by decide⟩,
   ⟨2, [], 7, { mkS [(Reg.STATUS (Reg.pagePEER 2), 0x20), (Reg.SYS_SERIAL_LO, 77)] with ring := { ports := [(2, { aligned := 1 })] } }, by decide⟩,
   ⟨2, [(controlHeader, alignBlock 0), (controlHeader, alignBlock 1), (controlHeader, alignBlock 2), (controlHeader, alignBlock 3)], 16, { mkS [(Reg.STATUS (Reg.pagePEER 2), 0x20), (Reg.SYS_SERIAL_LO, 77)] with ring := { ports := [(2, { aligned := 0 })] } }, by decide +kernel⟩,
   ⟨2, [(controlHeader, alignBlock 3), (controlHeader, alignBlock 2), (dataHeader, 2 ^ 64 - 1 - alignBlock 1), (controlHeader, alignBlock 0)], 0x1B, 4, 16, { mkS [(Reg.STATUS (Reg.pagePEER 2), 0x20), (Reg.SYS_SERIAL_LO, 77)] with ring := { ports := [(2, { aligned := 1 })] } }, by decide +kernel⟩,
   ⟨2, 5, 0, 2, 0, 1, 9, mkS [], by decide⟩,
   ⟨2, 5, 0, 1, 0, 1, 9, mkS [(Reg.STATUS (Reg.pagePEER 2), 0x30)], by decide⟩,
   ⟨2, 5, 1, 2, 0, 1, 9, mkS [(Reg.STATUS (Reg.pagePEER 2), 0x30), (Reg.PEER_PORT_STATUS 2, 0xF)], by decide⟩,
   ⟨1, 5, 1, 0, 0, 1, 9, mkS [(Reg.SYS_CONFIG, 1), (Reg.STATUS (Reg.pagePEER 1), 0x30), (Reg.PEER_PORT_STATUS 1, 0x7)], by decide⟩,
   ⟨.pf0, 2, mkS [(Reg.CTRL (Reg.pagePEER 2), 0)], by decide⟩,
   ⟨2, mkS [(Reg.CTRL (Reg.pagePEER 2), 1), (Reg.STATUS (Reg.pagePEER 2), 0x20), (Reg.PEER_PORT_STATUS 2, 3)], by decide⟩,
   ⟨2, mkS [(Reg.CTRL (Reg.pagePEER 2), 1), (Reg.STATUS (Reg.pagePEER 2), 0x40), (Reg.PEER_PORT_STATUS 2, 3)], by decide⟩,
   ⟨.pf0, 2, mkS [(Reg.CTRL (Reg.pagePEER 2), 1), (Reg.STATUS (Reg.pagePEER 2), 0x20), (Reg.PEER_PORT_STATUS 2, 3)], by decide⟩,
   ⟨.pf0, 2, mkS [(Reg.CTRL (Reg.pagePEER 2), 1), (Reg.STATUS (Reg.pagePEER 2), 0x40), (Reg.PEER_PORT_STATUS 2, 3)], by decide⟩,
   ⟨1, mkS [(Reg.SYS_CONFIG, 2), (Reg.STATUS Reg.pageRING, 0x60), (Reg.STATUS (Reg.pagePEER 1), 0x40)], by decide⟩,
   ⟨1, 5, [], mkS [(Reg.STATUS (Reg.pagePEER 1), 0x40), (Reg.PEER_PORT_STATUS 1, 0xE40F)], by decide⟩,
   ⟨1, 7, [], mkS [(Reg.STATUS (Reg.pagePEER 1), 0x40), (Reg.PEER_PORT_STATUS 1, 0x1E40F)], by decide⟩,
   ⟨1, 13, [4, 0, 9, 2], mkS [(Reg.STATUS (Reg.pagePEER 1), 0x50), (Reg.PEER_PORT_STATUS 1, 0xE40F)], by decide⟩,
   ⟨1, 13, [4, 0, 9, 2], mkS [(Reg.STATUS (Reg.pagePEER 1), 0x50), (Reg.PEER_PORT_STATUS 1, 0x1E40F)], by decide⟩,
   ⟨1, 5, [], mkS [], by decide⟩,
   ⟨1, 15, mkS [(Reg.STATUS (Reg.pagePEER 1), 0x40), (Reg.PEER_PORT_CFG 1, 0x100), (Reg.PEER_PORT_STATUS 1, 0x10003)], by decide⟩,
   ⟨1, 0, mkS [(Reg.STATUS (Reg.pagePEER 1), 0x40), (Reg.PEER_PORT_CFG 1, 0x100), (Reg.PEER_PORT_STATUS 1, 0x10003)], by decide⟩,
   ⟨1, 15, mkS [], by decide⟩,
   ⟨.pf0, 1, 15, mkS [(Reg.STATUS (Reg.pagePEER 1), 0x40), (Reg.PEER_PORT_CFG 1, 0x100), (Reg.PEER_PORT_STATUS 1, 0x10003)], by decide⟩,
   ⟨.pf0, 1, 0, mkS [(Reg.STATUS (Reg.pagePEER 1), 0x40), (Reg.PEER_PORT_CFG 1, 0x100), (Reg.PEER_PORT_STATUS 1, 0x10003)], by decide⟩,
   ⟨.pf0, 1, 15, mkS [], by decide⟩,
   ⟨2, 10, 100, 110, 30, 0, mkS [(Reg.STATUS (Reg.pagePEER 2), 0x40)], by decide⟩,
   ⟨2, 10, 100, 110, 30, 0, mkS [], by decide⟩,
   ⟨0, 10, 100, 110, 30, 0, mkS [(Reg.SYS_CONFIG, 2), (Reg.RING_RING_STATUS, 2), (Reg.RING_NODE_COUNT, 4), (Reg.STATUS Reg.pageRING, 0x60), (Reg.STATUS (Reg.pagePEER 0), 0x40)], by decide⟩,
   ⟨1, { cls := 1, seq := 1, ack := 0, crcOk := true, kind := 0x99, fields := [] }, mkS [], by decide⟩,
   ⟨1, { cls := 0, seq := 1, ack := 0, crcOk := false, kind := 0x99, fields := [] }, mkS [(Reg.STATUS (Reg.pagePEER 1), 0x40)], by decide⟩,
   ⟨1, { cls := 0, seq := 7, ack := 0, crcOk := true, kind := 0x99, fields := [] }, { mkS [(Reg.STATUS (Reg.pagePEER 1), 0x40)] with ring := { ports := [(1, { lastBlock := some 7 })] } }, by decide⟩,
   ⟨1, { cls := 0, seq := 7, ack := 0, crcOk := true, kind := 0x03, fields := [5, 9] }, mkS [(Reg.STATUS (Reg.pagePEER 1), 0x40)], by decide⟩,
   ⟨1, { cls := 1, seq := 1, ack := 0, crcOk := false, kind := 0x99, fields := [] }, mkS [(Reg.STATUS (Reg.pagePEER 1), 0x40)], by decide⟩,
   ⟨1, { cls := 1, seq := 1, ack := 0, crcOk := true, kind := 0x99, fields := [] }, mkS [(Reg.STATUS (Reg.pagePEER 1), 0x40)], by decide⟩,
   ⟨1, { cls := 1, seq := 0, ack := 0, crcOk := true, kind := 0x99, fields := [] }, mkS [(Reg.STATUS (Reg.pagePEER 1), 0x40)], by decide⟩,
   ⟨1, { cls := 1, seq := 5, ack := 0, crcOk := true, kind := 0x99, fields := [] }, mkS [(Reg.STATUS (Reg.pagePEER 1), 0x40)], by decide⟩,
   ⟨1, 1, mkS [], by decide⟩,
   ⟨1, 1, 4, 9, [7], { mkS [(Reg.STATUS (Reg.pagePEER 1), 0x40)] with ring := { ports := [(1, { unacked := [(1, 4, 9, [7])] })] } }, by decide⟩,
   ⟨0xB4040, 1, mkS [], by decide⟩,
   ⟨0x20104, 0x12345678, 0, .ch, mkS [(Reg.SYS_CONFIG, 1), (Reg.PAIR_PAIR_STATUS, 0x623), (Reg.STATUS Reg.pagePAIR, 0x30)], by decide⟩⟩

set_option Elab.async false in
theorem witness_PairHeartbeats :
  (∃ (role cond epoch gen t : Nat) (s : State), s.pairMode = false) ∧
  (∃ (role cond epoch gen t : Nat) (s : State), s.pairMode = true ∧ s.cond = 3 ∧ cond = 3 ∧ s.role + role = 3 ∧
     (s.leads = true ∨ s.follows = true) ∧ s.bit Reg.PAIR_PAIR_STATUS 9 = true ∧
     s.bit Reg.PAIR_PAIR_STATUS 10 = true ∧ epoch ≤ s.rd Reg.PAIR_EPOCH) ∧
  (∃ (m : LookoutMsg) (t : Nat) (s : State), (s.pairMode = false ∨ m.isType 0x10 = false)) ∧
  (∃ (m : LookoutMsg) (t : Nat) (s : State), s.pairMode = true ∧ m.isType 0x10 = true ∧
     (s.till t).lookoutOk m s.pair.partnerSeq = false) ∧
  (∃ (m : LookoutMsg) (t : Nat) (s : State), s.pairMode = true ∧ m.isType 0x10 = true ∧
     (s.till t).lookoutOk m s.pair.partnerSeq = true ∧ s.cond = 3 ∧ s.pair.partnerCond = 3 ∧ s.role + m.role = 3 ∧
     (s.leads = true ∨ s.follows = true) ∧ s.bit Reg.PAIR_PAIR_STATUS 9 = true ∧
     s.bit Reg.PAIR_PAIR_STATUS 10 = true ∧ m.epoch ≤ s.rd Reg.PAIR_EPOCH) ∧
  (∃ (net : Bool) (t : Nat) (s : State), s.pairMode = false) ∧
  (∃ (t : Nat) (s : State), s.pairMode = true ∧ s.pair.peerMiss + 1 < s.rdF Reg.PAIR_HB_CFG 7 0) ∧
  (∃ (t : Nat) (s : State), s.pairMode = true ∧ s.cond = 3 ∧ s.bit Reg.PAIR_PAIR_STATUS 9 = true ∧
     s.bit Reg.PAIR_PAIR_STATUS 10 = true ∧ atLeast1 (s.rdF Reg.PAIR_HB_CFG 7 0) ≤ s.pair.peerMiss + 1) ∧
  (∃ (t : Nat) (s : State), s.pairMode = true ∧ s.cond = 3 ∧ s.wired = false ∧
     s.bit Reg.PAIR_PAIR_STATUS 9 = false ∧ s.bit Reg.PAIR_PAIR_STATUS 10 = true ∧ s.pair.lost = false ∧
     atLeast1 (s.rdF Reg.PAIR_HB_CFG 23 16) ≤ s.pair.netMiss + 1) :=
  ⟨⟨2, 3, 0, 7, 9, mkS [(Reg.SYS_CONFIG, 0)], by decide⟩,
   ⟨2, 3, 0, 7, 9, mkS [(Reg.SYS_CONFIG, 1), (Reg.PAIR_PAIR_STATUS, 0x613), (Reg.STATUS Reg.pagePAIR, 0x30)], by decide⟩,
   ⟨signedMsg ([1, 0, 0, 2] ++ List.replicate 16 0 ++ [5] ++ List.replicate 19 0), 9, mkS [(Reg.SYS_CONFIG, 0)], by decide⟩,
   ⟨{ bytes := [1, 16, 0, 2] ++ List.replicate 16 0 ++ [5] ++ List.replicate 19 0 ++ List.replicate 32 0 }, 9, mkS [(Reg.SYS_CONFIG, 1), (Reg.PAIR_PAIR_STATUS, 0x613), (Reg.STATUS Reg.pagePAIR, 0x30)], by decide⟩,
   ⟨signedMsg ([1, 16, 0, 2] ++ List.replicate 16 0 ++ [5] ++ List.replicate 19 0), 9, { mkS [(Reg.SYS_CONFIG, 1), (Reg.PAIR_PAIR_STATUS, 0x613), (Reg.STATUS Reg.pagePAIR, 0x30)] with mgmt := { journal := [{ half := 0, kind := 0x31, key := 0, seq := 1, data := [] }], up := true }, pair := { partnerCond := 3 } }, by decide +kernel⟩,
   ⟨true, 9, mkS [(Reg.SYS_CONFIG, 0)], by decide⟩,
   ⟨9, mkS [(Reg.SYS_CONFIG, 1), (Reg.PAIR_PAIR_STATUS, 0x613), (Reg.STATUS Reg.pagePAIR, 0x30), (Reg.PAIR_HB_CFG, 0x30003)], by decide⟩,
   ⟨9, { mkS [(Reg.SYS_CONFIG, 1), (Reg.PAIR_PAIR_STATUS, 0x613), (Reg.STATUS Reg.pagePAIR, 0x30), (Reg.PAIR_HB_CFG, 0x30003)] with pair := { peerMiss := 2 } }, by decide⟩,
   ⟨9, { mkS [(Reg.SYS_CONFIG, 1), (Reg.PAIR_PAIR_STATUS, 0x413), (Reg.STATUS Reg.pagePAIR, 0x30), (Reg.PAIR_HB_CFG, 0x30003)] with pair := { netMiss := 2 } }, by decide⟩⟩

set_option Elab.async false in
theorem witness_PairLease :
  (∃ (m : LookoutMsg) (t : Nat) (s : State), (s.pairMode = false ∨ s.wired = true ∨ m.isType 0x02 = false)) ∧
  (∃ (m : LookoutMsg) (t : Nat) (s : State), s.pairMode = true ∧ s.wired = false ∧ m.isType 0x02 = true ∧
     (s.till t).lookoutOk m s.pair.lookoutSeq = false) ∧
  (∃ (m : LookoutMsg) (t : Nat) (s : State), (s.pairMode = false ∨ s.wired = true ∨ m.isType 0x03 = false)) ∧
  (∃ (m : LookoutMsg) (t : Nat) (s : State), s.pairMode = true ∧ s.wired = false ∧ m.isType 0x03 = true ∧
     (s.till t).lookoutOk m s.pair.lookoutSeq = false) ∧
  (∃ (m : LookoutMsg) (t : Nat) (s : State), s.pairMode = true ∧ s.wired = false ∧
     (s.till t).lookoutOk m s.pair.lookoutSeq = true ∧ m.isType 0x02 = true ∧ s.pair.epochSeen ≤ m.epoch ∧
     s.cond = 3 ∧ s.leads = true) ∧
  (∃ (m : LookoutMsg) (t : Nat) (s : State), s.pairMode = true ∧ s.wired = false ∧
     (s.till t).lookoutOk m s.pair.lookoutSeq = true ∧ m.isType 0x02 = true ∧ s.pair.epochSeen ≤ m.epoch ∧
     s.cond = 5 ∧ s.pair.lost = true ∧ m.partnerState = 2 ∧ (∀ n ∈ List.range 32, s.slotSt n ≠ 7) ∧
     channels.filter s.retrainPending = []) ∧
  (∃ (m : LookoutMsg) (t : Nat) (s : State), s.pairMode = true ∧ s.wired = false ∧
     (s.till t).lookoutOk m s.pair.lookoutSeq = true ∧ m.isType 0x02 = true ∧ s.pair.epochSeen ≤ m.epoch ∧
     s.cond = 5 ∧ s.pair.lost = true ∧ m.partnerState = 2) ∧
  (∃ (m : LookoutMsg) (t : Nat) (s : State), s.pairMode = true ∧ s.wired = false ∧
     (s.till t).lookoutOk m s.pair.lookoutSeq = true ∧ m.isType 0x02 = true ∧ m.epoch < s.pair.epochSeen) ∧
  (∃ (m : LookoutMsg) (t : Nat) (s : State), s.pairMode = true ∧ s.wired = false ∧
     (s.till t).lookoutOk m s.pair.lookoutSeq = true ∧ m.isType 0x03 = true ∧ m.disposition = 0 ∧ s.cond = 5) ∧
  (∃ (m : LookoutMsg) (t : Nat) (s : State), s.pairMode = true ∧ s.wired = false ∧
     (s.till t).lookoutOk m s.pair.lookoutSeq = true ∧ m.isType 0x03 = true ∧ m.disposition = 1 ∧ s.cond = 5 ∧
     s.runSt = 0 ∧ s.dram.stop = false) ∧
  (∃ (t : Nat) (s : State), s.pairMode = true ∧ s.wired = false ∧ s.bit Reg.PAIR_PAIR_STATUS 8 = true ∧
     s.rangerRuns = true) ∧
  (∃ (t : Nat) (s : State), (s.pairMode = false ∨ s.bit Reg.PAIR_PAIR_STATUS 8 = false ∨ s.rangerRuns = false)) ∧
  (∃ (t : Nat) (s : State), s.pairMode = true ∧ s.wired = false ∧ s.cond = 1 ∧ s.role = 0 ∧ s.pair.asked = none) ∧
  (∃ (t : Nat) (s : State), (s.pairMode = false ∨ s.pair.asked = none ∧ s.cond ≠ 1)) ∧
  (∃ (t e : Nat) (s : State), s.pairMode = true ∧ s.bit Reg.PAIR_PAIR_STATUS 8 = true ∧ s.pair.leaseEnd = some e ∧
     e ≤ (s.till t).frc ∧ s.cond = 3) ∧
  (∃ (t e : Nat) (s : State), s.pairMode = true ∧ s.bit Reg.PAIR_PAIR_STATUS 8 = true ∧ s.pair.leaseEnd = some e ∧
     e ≤ (s.till t).frc ∧ (s.cond = 6 ∨ s.cond = 4)) ∧
  (∃ (t : Nat) (s : State), s.pair.leaseEnd = none) ∧
  (∃ (a b : Bool) (t : Nat) (s : State), (s.pairMode = false ∨ s.wired = false ∧
     (s.bit Reg.PAIR_PAIR_STATUS 8 = false ∨ s.pair.leaseEnd.isSome = true))) ∧
  (∃ (t : Nat) (s : State), s.pairMode = true ∧ s.wired = true ∧ s.pairSlot = 0 ∧ s.cond = 3 ∧ s.leads = true ∧
     s.bit Reg.PAIR_PAIR_STATUS 8 = false) ∧
  (∃ (t : Nat) (s : State), s.pairMode = true ∧ s.wired = true ∧ s.pairSlot = 0 ∧ s.cond = 5 ∧ s.leads = false ∧
     s.pair.lost = true ∧ s.printing = false ∧ s.bit Reg.PAIR_PAIR_STATUS 8 = false ∧
     (∀ n ∈ List.range 32, s.slotSt n ≠ 7) ∧ channels.filter s.retrainPending = []) ∧
  (∃ (t : Nat) (s : State), s.pairMode = true ∧ s.wired = true ∧ s.pairSlot = 0 ∧ s.cond = 5 ∧ s.leads = false ∧
     s.pair.lost = true ∧ s.printing = false ∧ s.bit Reg.PAIR_PAIR_STATUS 8 = false) :=
  ⟨⟨signedMsg ([1, 0, 0, 2] ++ List.replicate 16 0 ++ [5] ++ List.replicate 19 0), 9, mkS [(Reg.SYS_CONFIG, 0)], by decide⟩,
   ⟨{ bytes := [1, 2, 0, 2] ++ List.replicate 16 0 ++ [5] ++ List.replicate 19 0 ++ List.replicate 32 0 }, 9, mkS [(Reg.SYS_CONFIG, 1), (Reg.PAIR_PAIR_STATUS, 0x613), (Reg.STATUS Reg.pagePAIR, 0x30)], by decide⟩,
   ⟨signedMsg ([1, 0, 0, 2] ++ List.replicate 16 0 ++ [5] ++ List.replicate 19 0), 9, mkS [(Reg.SYS_CONFIG, 0)], by decide⟩,
   ⟨{ bytes := [1, 3, 0, 2] ++ List.replicate 16 0 ++ [5] ++ List.replicate 19 0 ++ List.replicate 32 0 }, 9, mkS [(Reg.SYS_CONFIG, 1), (Reg.PAIR_PAIR_STATUS, 0x613), (Reg.STATUS Reg.pagePAIR, 0x30)], by decide⟩,
   ⟨signedMsg ([1, 2, 0, 2] ++ List.replicate 12 0 ++ [4, 0, 0, 0, 5] ++ List.replicate 19 0), 9, { mkS [(Reg.SYS_CONFIG, 1), (Reg.PAIR_PAIR_STATUS, 0x613), (Reg.STATUS Reg.pagePAIR, 0x30)] with mgmt := { journal := [{ half := 0, kind := 0x31, key := 0, seq := 1, data := [] }], up := true }, pair := { asked := some 3, claiming := true } }, by decide +kernel⟩,
   ⟨signedMsg ([1, 2, 0, 34] ++ List.replicate 12 0 ++ [4, 0, 0, 0, 5] ++ List.replicate 19 0), 9, { mkS [(Reg.SYS_CONFIG, 1), (Reg.PAIR_PAIR_STATUS, 0x625), (Reg.STATUS Reg.pagePAIR, 0x30)] with mgmt := { journal := [{ half := 0, kind := 0x31, key := 0, seq := 1, data := [] }], up := true }, pair := { asked := some 3, claiming := true, lost := true } }, by decide +kernel⟩,
   ⟨signedMsg ([1, 2, 0, 34] ++ List.replicate 12 0 ++ [4, 0, 0, 0, 5] ++ List.replicate 19 0), 9, { mkS [(Reg.SYS_CONFIG, 1), (Reg.PAIR_PAIR_STATUS, 0x625), (Reg.STATUS Reg.pagePAIR, 0x30)] with mgmt := { journal := [{ half := 0, kind := 0x31, key := 0, seq := 1, data := [] }], up := true }, pair := { asked := some 3, claiming := true, lost := true } }, by decide +kernel⟩,
   ⟨signedMsg ([1, 2, 0, 2] ++ List.replicate 12 0 ++ [4, 0, 0, 0, 5] ++ List.replicate 19 0), 9, { mkS [(Reg.SYS_CONFIG, 1), (Reg.PAIR_PAIR_STATUS, 0x613), (Reg.STATUS Reg.pagePAIR, 0x30)] with mgmt := { journal := [{ half := 0, kind := 0x31, key := 0, seq := 1, data := [] }], up := true }, pair := { epochSeen := 5 } }, by decide +kernel⟩,
   ⟨signedMsg ([1, 3, 0, 2] ++ List.replicate 16 0 ++ [5] ++ List.replicate 19 0), 9, { mkS [(Reg.SYS_CONFIG, 1), (Reg.PAIR_PAIR_STATUS, 0x715), (Reg.STATUS Reg.pagePAIR, 0x30)] with mgmt := { journal := [{ half := 0, kind := 0x31, key := 0, seq := 1, data := [] }], up := true }, pair := { asked := some 3, claiming := true } }, by decide +kernel⟩,
   ⟨signedMsg ([1, 3, 0, 6] ++ List.replicate 16 0 ++ [5] ++ List.replicate 19 0), 9, { mkS [(Reg.SYS_CONFIG, 1), (Reg.PAIR_PAIR_STATUS, 0x715), (Reg.STATUS Reg.pagePAIR, 0x30), (Reg.SYS_MODULE_STATE, 4), (Reg.LAMP_CH_OUT 1 2, 9)] with mgmt := { journal := [{ half := 0, kind := 0x31, key := 0, seq := 1, data := [] }], up := true }, pair := { asked := some 3, claiming := true } }, by decide +kernel⟩,
   ⟨9, mkS [(Reg.SYS_MODULE_STATE, 3), (Reg.SYS_CONFIG, 1), (Reg.PAIR_PAIR_STATUS, 0x713), (Reg.STATUS Reg.pagePAIR, 0x30)], by decide⟩,
   ⟨9, mkS [(Reg.SYS_CONFIG, 0)], by decide⟩,
   ⟨9, mkS [(Reg.SYS_CONFIG, 1), (Reg.PAIR_PAIR_STATUS, 0x601), (Reg.STATUS Reg.pagePAIR, 0x30)], by decide⟩,
   ⟨9, mkS [(Reg.SYS_CONFIG, 0)], by decide⟩,
   ⟨9, 9, { mkS [(Reg.SYS_CONFIG, 1), (Reg.PAIR_PAIR_STATUS, 0x713), (Reg.STATUS Reg.pagePAIR, 0x30)] with pair := { leaseEnd := some 9 } }, by decide⟩,
   ⟨9, 9, { mkS [(Reg.SYS_CONFIG, 1), (Reg.PAIR_PAIR_STATUS, 0x716), (Reg.STATUS Reg.pagePAIR, 0x30)] with pair := { leaseEnd := some 9 } }, by decide⟩,
   ⟨9, mkS [], by decide⟩,
   ⟨true, false, 9, mkS [(Reg.SYS_CONFIG, 0)], by decide⟩,
   ⟨9, mkS [(Reg.SYS_CONFIG, 1), (Reg.PAIR_PAIR_STATUS, 0x613), (Reg.STATUS Reg.pagePAIR, 0x30), (Reg.PAIR_PAIR_CFG, 2)], by decide⟩,
   ⟨9, { mkS [(Reg.SYS_CONFIG, 1), (Reg.PAIR_PAIR_STATUS, 0x625), (Reg.STATUS Reg.pagePAIR, 0x30), (Reg.PAIR_PAIR_CFG, 2)] with pair := { lost := true } }, by decide⟩,
   ⟨9, { mkS [(Reg.SYS_CONFIG, 1), (Reg.PAIR_PAIR_STATUS, 0x625), (Reg.STATUS Reg.pagePAIR, 0x30), (Reg.PAIR_PAIR_CFG, 2)] with pair := { lost := true } }, by decide⟩⟩

theorem witness_PairSlots :
  (∃ (n : Fin 32) (target action mask0 mask1 mask2 mask3 fwd crc : Nat) (s : State), (s.pairMode = false ∨
     s.follows = false)) ∧
  (∃ (n : Fin 32) (target action mask0 mask1 mask2 mask3 fwd crc : Nat) (s : State), s.pairMode = true ∧
     s.follows = true ∧ s.pair.slotWait = [] ∧ sdiff 16 (smGet (fun _ => 0) (s.peerPort 2).rxSeq 2) fwd < 0) ∧
  (∃ (n : Fin 32) (target action mask0 mask1 mask2 mask3 fwd crc : Nat) (s : State), s.stCode (Reg.pagePEER 2) = 4 ∧
     s.pairMode = true ∧ s.follows = true ∧ s.pair.slotWait = [] ∧
     0 ≤ sdiff 16 (smGet (fun _ => 0) (s.peerPort 2).rxSeq 2) fwd ∧
     crc32c ((s.wrs [(Reg.APPLY_SLOT_TARGET n, target), (Reg.APPLY_SLOT_ACTION n, action), (Reg.APPLY_SLOT_MASK0 n,
     mask0), (Reg.APPLY_SLOT_MASK1 n, mask1), (Reg.APPLY_SLOT_MASK2 n, mask2), (Reg.APPLY_SLOT_MASK3 n,
     mask3)]).slotRegion n) ≠ crc) ∧
  (∃ (n : Fin 32) (target action mask0 mask1 mask2 mask3 fwd crc : Nat) (s : State), s.stCode (Reg.pagePEER 2) = 4 ∧
     s.pairMode = true ∧ s.follows = true ∧ s.pair.slotWait = [] ∧
     0 ≤ sdiff 16 (smGet (fun _ => 0) (s.peerPort 2).rxSeq 2) fwd ∧
     crc32c ((s.wrs [(Reg.APPLY_SLOT_TARGET n, target), (Reg.APPLY_SLOT_ACTION n, action), (Reg.APPLY_SLOT_MASK0 n,
     mask0), (Reg.APPLY_SLOT_MASK1 n, mask1), (Reg.APPLY_SLOT_MASK2 n, mask2), (Reg.APPLY_SLOT_MASK3 n,
     mask3)]).slotRegion n) = crc) ∧
  (∃ (n : Fin 32) (s : State), s.stCode (Reg.pagePEER 2) = 4 ∧ s.leads = true ∧ s.paired = true ∧ s.slotSt n = 7 ∧
     0 ≤ ldiff (ladd (s.slotTarget n) (-16)) s.nextLine) ∧
  (∃ (n : Fin 32) (s : State), (s.leads = false ∨ s.paired = false ∨ s.slotSt n ≠ 7 ∨
     ldiff (ladd (s.slotTarget n) (-16)) s.nextLine < 0)) ∧
  (∃ (n : Fin 32) (s : State), (s.leads = false ∨ s.paired = false ∨ s.slotSt n ≠ 7)) ∧
  (∃ (n : Fin 32) (s : State), s.leads = true ∧ s.paired = true ∧ s.slotSt n = 7 ∧
     0 < ldiff s.nextLine (ladd (s.slotTarget n) (-16)) ∧ (s.slot n).resched < s.reschedMax) ∧
  (∃ (n : Fin 32) (s : State), s.leads = true ∧ s.frozenPair = true ∧ s.slotSt n = 7 ∧
     0 < ldiff s.nextLine (ladd (s.slotTarget n) (-16))) ∧
  (∃ (n : Fin 32) (s : State), s.leads = true ∧ s.paired = true ∧ s.slotSt n = 7 ∧
     (s.slot n).resched < s.reschedMax ∧ s.slotAction n = 1 ∧ s.slotTargets n = []) ∧
  (∃ (n : Fin 32) (s : State), s.follows = true ∧ s.slotSt n = 7 ∧ (s.slot n).acked = true ∧
     0 ≤ ldiff (ladd (s.slotTarget n) (-8)) s.nextLine) ∧
  (∃ (n : Fin 32) (s : State), (s.follows = false ∨ s.slotSt n ≠ 7 ∨ (s.slot n).acked = false ∨
     ldiff (ladd (s.slotTarget n) (-8)) s.nextLine < 0)) ∧
  (∃ (n : Fin 32) (s : State), s.stCode (Reg.pagePEER 2) = 4 ∧ s.follows = true ∧ s.slotSt n = 7 ∧
     (s.slot n).acked = true ∧ (s.slot n).fromLine = none ∧ n.val ∉ s.pair.inDoubt ∧
     0 < ldiff s.nextLine (ladd (s.slotTarget n) (-8)) ∧ s.peerUp 2 = true) ∧
  (∃ (n : Fin 32) (s : State), (s.follows = false ∨ s.slotSt n ≠ 7 ∨ n.val ∈ s.pair.inDoubt)) ∧
  (∃ (n : Fin 32) (applied : Bool) (line : Nat) (s : State), n.val ∉ s.pair.inDoubt) ∧
  (∃ (n : Fin 32) (line : Nat) (s : State), n.val ∈ s.pair.inDoubt) ∧
  (∃ (n : Fin 32) (line : Nat) (s : State), n.val ∈ s.pair.inDoubt) ∧
  (∃ (n : Fin 32) (s : State), s.follows = true ∧ (s.slotSt n = 1 ∨ s.slotSt n = 7)) ∧
  (∃ (n : Fin 32) (s : State), (s.follows = false ∨ s.slotSt n ≠ 1 ∧ s.slotSt n ≠ 7)) :=
  ⟨⟨3, 100, 1, 1, 0, 0, 0, 0, 5, mkS [(Reg.SYS_CONFIG, 0)], by decide⟩,
   ⟨3, 100, 1, 1, 0, 0, 0, 1, 5, mkS [(Reg.SYS_CONFIG, 1), (Reg.PAIR_PAIR_STATUS, 0x623), (Reg.STATUS Reg.pagePAIR, 0x30)], by decide⟩,
   ⟨3, 100, 0, 0, 0, 0, 0, 0, 0xFFFFFFFF1, mkS [(Reg.STATUS (Reg.pagePEER 2), 0x40), (Reg.SYS_CONFIG, 1), (Reg.PAIR_PAIR_STATUS, 0x623), (Reg.STATUS Reg.pagePAIR, 0x30)], by decide⟩,
   ⟨3, 100, 0, 0, 0, 0, 0, 0, (crc32c []), mkS [(Reg.STATUS (Reg.pagePEER 2), 0x40), (Reg.SYS_CONFIG, 1), (Reg.PAIR_PAIR_STATUS, 0x623), (Reg.STATUS Reg.pagePAIR, 0x30)], by decide⟩,
   ⟨3, mkS [(Reg.SYS_CONFIG, 1), (Reg.PAIR_PAIR_STATUS, 0x613), (Reg.STATUS Reg.pagePAIR, 0x30), (Reg.APPLY_SLOT_STATUS 3, 7), (Reg.APPLY_SLOT_TARGET 3, 116), (Reg.LINE_ADMIT_LINE, 100), (Reg.STATUS (Reg.pagePEER 2), 0x40)], by decide⟩,
   ⟨3, mkS [(Reg.SYS_CONFIG, 1), (Reg.PAIR_PAIR_STATUS, 0x613), (Reg.STATUS Reg.pagePAIR, 0x30), (Reg.APPLY_SLOT_STATUS 3, 7), (Reg.APPLY_SLOT_TARGET 3, 115), (Reg.LINE_ADMIT_LINE, 100)], by decide⟩,
   ⟨3, mkS [(Reg.SYS_CONFIG, 1), (Reg.PAIR_PAIR_STATUS, 0x623), (Reg.STATUS Reg.pagePAIR, 0x30), (Reg.APPLY_SLOT_STATUS 3, 7), (Reg.APPLY_SLOT_TARGET 3, 115), (Reg.LINE_ADMIT_LINE, 100)], by decide⟩,
   ⟨3, mkS [(Reg.SYS_CONFIG, 1), (Reg.PAIR_PAIR_STATUS, 0x613), (Reg.STATUS Reg.pagePAIR, 0x30), (Reg.APPLY_SLOT_STATUS 3, 7), (Reg.APPLY_SLOT_TARGET 3, 115), (Reg.LINE_ADMIT_LINE, 100), (Reg.APPLY_SLOT_ACTION 3, 1), (Reg.APPLY_SLOT_MASK0 3, 2)], by decide⟩,
   ⟨3, mkS [(Reg.SYS_CONFIG, 1), (Reg.PAIR_PAIR_STATUS, 0x614), (Reg.STATUS Reg.pagePAIR, 0x30), (Reg.APPLY_SLOT_STATUS 3, 7), (Reg.APPLY_SLOT_TARGET 3, 115), (Reg.LINE_ADMIT_LINE, 100)], by decide⟩,
   ⟨3, mkS [(Reg.SYS_CONFIG, 1), (Reg.PAIR_PAIR_STATUS, 0x613), (Reg.STATUS Reg.pagePAIR, 0x30), (Reg.APPLY_SLOT_STATUS 3, 7), (Reg.APPLY_SLOT_TARGET 3, 115), (Reg.LINE_ADMIT_LINE, 100), (Reg.APPLY_SLOT_ACTION 3, 1)], by decide⟩,
   ⟨3, { mkS [(Reg.SYS_CONFIG, 1), (Reg.PAIR_PAIR_STATUS, 0x623), (Reg.STATUS Reg.pagePAIR, 0x30), (Reg.APPLY_SLOT_STATUS 3, 7), (Reg.APPLY_SLOT_TARGET 3, 108), (Reg.LINE_ADMIT_LINE, 100)] with slots := [(3, { acked := true })] }, by decide⟩,
   ⟨3, mkS [], by decide⟩,
   ⟨3, { mkS [(Reg.SYS_CONFIG, 1), (Reg.PAIR_PAIR_STATUS, 0x623), (Reg.STATUS Reg.pagePAIR, 0x30), (Reg.APPLY_SLOT_STATUS 3, 7), (Reg.APPLY_SLOT_TARGET 3, 107), (Reg.LINE_ADMIT_LINE, 100), (Reg.STATUS (Reg.pagePEER 2), 0x40), (Reg.APPLY_SLOT_ACTION 3, 1), (Reg.APPLY_SLOT_MASK0 3, 2)] with slots := [(3, { acked := true })] }, by decide⟩,
   ⟨3, mkS [], by decide⟩,
   ⟨3, true, 9, mkS [], by decide⟩,
   ⟨3, 9, { mkS [(Reg.SYS_CONFIG, 1), (Reg.PAIR_PAIR_STATUS, 0x623), (Reg.STATUS Reg.pagePAIR, 0x30), (Reg.APPLY_SLOT_STATUS 3, 7), (Reg.APPLY_SLOT_TARGET 3, 107), (Reg.LINE_ADMIT_LINE, 100)] with pair := { inDoubt := [3] } }, by decide⟩,
   ⟨3, 9, { mkS [(Reg.SYS_CONFIG, 1), (Reg.PAIR_PAIR_STATUS, 0x623), (Reg.STATUS Reg.pagePAIR, 0x30), (Reg.APPLY_SLOT_STATUS 3, 7), (Reg.APPLY_SLOT_TARGET 3, 107), (Reg.LINE_ADMIT_LINE, 100)] with pair := { inDoubt := [3] } }, by decide⟩,
   ⟨3, mkS [(Reg.SYS_CONFIG, 1), (Reg.PAIR_PAIR_STATUS, 0x623), (Reg.STATUS Reg.pagePAIR, 0x30), (Reg.APPLY_SLOT_STATUS 3, 1), (Reg.APPLY_SLOT_TARGET 3, 107), (Reg.LINE_ADMIT_LINE, 100)], by decide⟩,
   ⟨3, mkS [], by decide⟩⟩

theorem witness_PairAgreement :
  (∃ (startLine run t : Nat) (s : State), s.runSt ≠ 1) ∧
  (∃ (startLine run t : Nat) (s : State), s.runSt = 1 ∧ fld s.line.runCfg 1 0 = 3 ∧ s.follows = true ∧
     s.sourceLost = false) ∧
  (∃ (line leaderFrc : Nat) (s : State), (s.pairMode = false ∨ s.follows = false ∨ s.peerUp 2 = false)) ∧
  (∃ (line leaderFrc f : Nat) (o e : Int) (s : State), s.pairMode = true ∧ s.follows = true ∧ s.peerUp 2 = true ∧
     s.tickOf line = some f ∧ (s.peerPort 2).offset = some o ∧ e = (f : Int) - (leaderFrc - o) ∧ e.natAbs ≤ 8 ∧
     s.phi = 0) ∧
  (∃ (c : Fin 128) (rateUp : Bool) (s : State), s.stCode (Reg.pagePEER 2) = 4 ∧ s.leads = true ∧ s.paired = true ∧
     smGet (fun _ => 0) s.pair.grants c = 0 ∧ s.laneSt c = 5) ∧
  (∃ (c : Fin 128) (rateUp : Bool) (s : State), s.leads = false) ∧
  (∃ (c : Fin 128) (rateUp : Bool) (s : State), s.stCode (Reg.pagePEER 2) = 4 ∧ s.leads = true ∧
     (s.paired = false ∨ smGet (fun _ => 0) s.pair.grants c ≠ 0 ∨ s.laneSt c ≠ 5)) ∧
  (∃ (c : Fin 128) (rateUp : Bool) (s : State), s.stCode (Reg.pagePEER 2) ≠ 4 ∧ s.leads = true) ∧
  (∃ (s : State), s.pair.handover = none) ∧
  (∃ (h : Handover) (s : State), s.pair.handover = some h ∧ ldiff s.nextLine h.line < 0) ∧
  (∃ (h : Handover) (s : State), s.pair.handover = some h ∧ 0 ≤ ldiff s.nextLine h.line ∧ h.retire = false ∧
     s.leads = true ∧ s.wired = true) ∧
  (∃ (h : Handover) (s : State), s.pair.handover = some h ∧ 0 ≤ ldiff s.nextLine h.line ∧ h.retire = false ∧
     s.follows = true ∧ s.wired = true) ∧
  (∃ (h : Handover) (s : State), s.pair.handover = some h ∧ 0 ≤ ldiff s.nextLine h.line ∧ h.retire = true ∧
     h.mine = false ∧ s.leads = true ∧ s.pairMode = true ∧ (∀ n ∈ List.range 32, s.slotSt n ≠ 7) ∧
     channels.filter s.retrainPending = []) ∧
  (∃ (h : Handover) (s : State), s.pair.handover = some h ∧ 0 ≤ ldiff s.nextLine h.line ∧ h.retire = true ∧
     h.mine = false ∧ s.leads = true ∧ s.pairMode = true) ∧
  (∃ (h : Handover) (s : State), s.pair.handover = some h ∧ 0 ≤ ldiff s.nextLine h.line ∧ h.retire = true ∧
     h.mine = true ∧ s.follows = true ∧ s.runSt = 0 ∧ s.dram.stop = false) ∧
  (∃ (s : State), s.pairMode = true ∧ (s.cond = 1 ∨ s.cond = 4 ∨ s.cond = 5) ∧ s.peerUp 2 = true ∧
     s.bit Reg.PAIR_PAIR_STATUS 9 = true ∧ s.bit Reg.PAIR_PAIR_STATUS 10 = true ∧
     s.bit Reg.PAIR_PAIR_STATUS 8 = false ∧ s.pair.partnerRole = 1 ∧ s.bit Reg.FW_FW_STATUS 4 = false ∧
     s.pair.partnerCond = 2 ∧ s.slotsQuiet = true) ∧
  (∃ (s : State), s.pairMode = true ∧ (s.cond = 1 ∨ s.cond = 4 ∨ s.cond = 5) ∧ s.peerUp 2 = true ∧
     s.bit Reg.PAIR_PAIR_STATUS 9 = true ∧ s.bit Reg.PAIR_PAIR_STATUS 10 = true ∧
     s.bit Reg.PAIR_PAIR_STATUS 8 = false ∧ s.pair.partnerRole = 1 ∧ s.bit Reg.FW_FW_STATUS 4 = false ∧
     (s.pair.partnerCond ≠ 2 ∨ s.slotsQuiet = false)) ∧
  (∃ (s : State), (s.pairMode = false ∨ s.peerUp 2 = false ∨ s.pair.partnerRole ≠ 1)) ∧
  (∃ (s : State), s.cond ≠ 2) ∧
  (∃ (s : State), s.cond = 2 ∧ s.leads = true ∧ s.pair.armWait = [] ∧ (∀ n ∈ List.range 32, s.slotSt n ≠ 7)) ∧
  (∃ (s : State), s.cond = 2 ∧ s.leads = false ∧ s.printing = true) ∧
  (∃ (s : State), s.stCode (Reg.pagePEER 2) = 4 ∧ s.cond = 2 ∧ s.leads = false ∧ s.printing = false) ∧
  (∃ (src : Req) (s : State), s.cutOff src = false ∧ s.pairMode = false) ∧
  (∃ (src : Req) (s : State), s.cutOff src = false ∧ s.stCode (Reg.pagePEER 2) = 4 ∧ s.pairMode = true ∧
     s.cond = 3 ∧ s.leads = true ∧ s.runSt ≠ 2 ∧ s.pair.theirs = none) ∧
  (∃ (src : Req) (s : State), s.cutOff src = false ∧ s.stCode (Reg.pagePEER 2) = 4 ∧ s.pairMode = true ∧
     s.cond = 3 ∧ s.leads = true ∧ s.runSt = 2) ∧
  (∃ (s : State), s.stCode (Reg.pagePEER 2) = 4 ∧ s.pairMode = true ∧ s.cond = 3 ∧ s.leads = true ∧ s.runSt ≠ 2 ∧
     s.pair.theirs = none) ∧
  (∃ (s : State), s.stCode (Reg.pagePEER 2) = 4 ∧ s.pairMode = true ∧ s.cond = 3 ∧ s.leads = true ∧ s.runSt = 2) ∧
  (∃ (src : Req) (s : State), s.cutOff src = false ∧ s.stCode (Reg.pagePEER 2) = 4 ∧ s.pairMode = true ∧
     s.cond = 3 ∧ s.leads = false) ∧
  (∃ (src : Req) (s : State), s.cutOff src = false ∧ s.pairMode = true ∧ s.cond ≠ 3) ∧
  (∃ (s : State), (s.paired = false ∨ s.leads = false)) ∧
  (∃ (line x d v : Nat) (s : State), s.pairMode = true ∧ s.cond = 3 ∧ s.pair.digests = some (line, [(x, d)]) ∧
     d ≠ v ∧ x ∉ s.pair.repair ∧ s.pair.dupRise = false) ∧
  (∃ (line x d v : Nat) (s : State), s.pairMode = true ∧ s.cond = 3 ∧ s.pair.digests = some (line, [(x, d)]) ∧
     d = v ∧ s.pair.dupRise = true) ∧
  (∃ (line x d v : Nat) (s : State), s.pairMode = true ∧ s.cond = 3 ∧
     (s.pair.digests = none ∨ s.pair.digests = some (d, []) ∧ d ≠ line)) ∧
  (∃ (target : Nat) (s : State), target ∉ s.pair.repair) ∧
  (∃ (target : Nat) (s : State), target ∈ s.pair.repair ∧ s.leads = false ∧ s.printing = true) ∧
  (∃ (target : Nat) (s : State), target ∈ s.pair.repair ∧ s.leads = false ∧ s.printing = false) ∧
  (∃ (target : Nat) (s : State), target ∈ s.pair.repair ∧ s.leads = true ∧ s.stCode (Reg.pagePEER 2) = 4) ∧
  (∃ (partner : Option Nat) (s : State), s.pairMode = false) ∧
  (∃ (h : Nat) (s : State), s.stCode (Reg.pagePEER 2) = 4 ∧ s.pairMode = true) :=
  ⟨⟨50, 7, 9, mkS [], by decide⟩,
   ⟨50, 7, 9, { mkS [(Reg.SYS_CONFIG, 1), (Reg.PAIR_PAIR_STATUS, 0x623), (Reg.STATUS Reg.pagePAIR, 0x30), (Reg.SYS_MODULE_STATE, 5), (Reg.STATUS Reg.pageLINE, 0x10), (Reg.ENC_SOURCE, 3)] with line := { runCfg := 3 } }, by decide⟩,
   ⟨5, 900, mkS [(Reg.SYS_CONFIG, 0)], by decide⟩,
   ⟨5, 900, 905, 0, 5, { mkS [(Reg.SYS_CONFIG, 1), (Reg.PAIR_PAIR_STATUS, 0x623), (Reg.STATUS Reg.pagePAIR, 0x30), (Reg.STATUS (Reg.pagePEER 2), 0x40)] with tio := { ticks := [(5, 905)] }, ring := { ports := [(2, { offset := some 0 })] } }, by decide⟩,
   ⟨3, true, mkS [(Reg.STATUS (Reg.pagePEER 2), 0x40), (Reg.SYS_CONFIG, 1), (Reg.PAIR_PAIR_STATUS, 0x613), (Reg.STATUS Reg.pagePAIR, 0x30), (Reg.CH_LINK_STATUS 3, 5)], by decide⟩,
   ⟨3, true, mkS [], by decide⟩,
   ⟨3, true, mkS [(Reg.STATUS (Reg.pagePEER 2), 0x40), (Reg.SYS_CONFIG, 1), (Reg.PAIR_PAIR_STATUS, 0x613), (Reg.STATUS Reg.pagePAIR, 0x30), (Reg.CH_LINK_STATUS 3, 6)], by decide⟩,
   ⟨3, true, mkS [(Reg.SYS_CONFIG, 1), (Reg.PAIR_PAIR_STATUS, 0x613), (Reg.STATUS Reg.pagePAIR, 0x30), (Reg.CH_LINK_STATUS 3, 5)], by decide⟩,
   ⟨mkS [], by decide⟩,
   ⟨{ retire := false, mine := true, line := 50 }, { mkS [(Reg.SYS_CONFIG, 1), (Reg.PAIR_PAIR_STATUS, 0x613), (Reg.STATUS Reg.pagePAIR, 0x30), (Reg.LINE_ADMIT_LINE, 10)] with pair := { handover := some { retire := false, mine := true, line := 50 } } }, by decide⟩,
   ⟨{ retire := false, mine := true, line := 50 }, { mkS [(Reg.SYS_CONFIG, 1), (Reg.PAIR_PAIR_STATUS, 0x613), (Reg.STATUS Reg.pagePAIR, 0x30), (Reg.PAIR_PAIR_CFG, 2), (Reg.LINE_ADMIT_LINE, 50)] with pair := { handover := some { retire := false, mine := true, line := 50 } } }, by decide⟩,
   ⟨{ retire := false, mine := true, line := 50 }, { mkS [(Reg.SYS_CONFIG, 1), (Reg.PAIR_PAIR_STATUS, 0x623), (Reg.STATUS Reg.pagePAIR, 0x30), (Reg.PAIR_PAIR_CFG, 2), (Reg.LINE_ADMIT_LINE, 50)] with pair := { handover := some { retire := false, mine := true, line := 50 } } }, by decide⟩,
   ⟨{ retire := true, mine := false, line := 50 }, { mkS [(Reg.SYS_CONFIG, 1), (Reg.PAIR_PAIR_STATUS, 0x613), (Reg.STATUS Reg.pagePAIR, 0x30), (Reg.LINE_ADMIT_LINE, 50)] with pair := { handover := some { retire := true, mine := false, line := 50 } } }, by decide⟩,
   ⟨{ retire := true, mine := false, line := 50 }, { mkS [(Reg.SYS_CONFIG, 1), (Reg.PAIR_PAIR_STATUS, 0x613), (Reg.STATUS Reg.pagePAIR, 0x30), (Reg.LINE_ADMIT_LINE, 50)] with pair := { handover := some { retire := true, mine := false, line := 50 } } }, by decide⟩,
   ⟨{ retire := true, mine := true, line := 50 }, { mkS [(Reg.SYS_CONFIG, 1), (Reg.PAIR_PAIR_STATUS, 0x623), (Reg.STATUS Reg.pagePAIR, 0x30), (Reg.SYS_MODULE_STATE, 4), (Reg.LINE_ADMIT_LINE, 50)] with pair := { handover := some { retire := true, mine := true, line := 50 } } }, by decide⟩,
   ⟨{ mkS [(Reg.SYS_CONFIG, 1), (Reg.PAIR_PAIR_STATUS, 0x601), (Reg.STATUS Reg.pagePAIR, 0x30), (Reg.STATUS (Reg.pagePEER 2), 0x40)] with pair := { partnerRole := 1, partnerCond := 2, lost := true } }, by decide⟩,
   ⟨{ mkS [(Reg.SYS_CONFIG, 1), (Reg.PAIR_PAIR_STATUS, 0x601), (Reg.STATUS Reg.pagePAIR, 0x30), (Reg.STATUS (Reg.pagePEER 2), 0x40)] with pair := { partnerRole := 1, lost := true } }, by decide⟩,
   ⟨mkS [(Reg.SYS_CONFIG, 0)], by decide⟩,
   ⟨mkS [(Reg.SYS_CONFIG, 0)], by decide⟩,
   ⟨mkS [(Reg.SYS_CONFIG, 1), (Reg.PAIR_PAIR_STATUS, 0x612), (Reg.STATUS Reg.pagePAIR, 0x30)], by decide⟩,
   ⟨mkS [(Reg.SYS_CONFIG, 1), (Reg.PAIR_PAIR_STATUS, 0x622), (Reg.STATUS Reg.pagePAIR, 0x30), (Reg.SYS_MODULE_STATE, 5), (Reg.STATUS Reg.pageLINE, 0x20)], by decide⟩,
   ⟨mkS [(Reg.SYS_CONFIG, 1), (Reg.PAIR_PAIR_STATUS, 0x622), (Reg.STATUS Reg.pagePAIR, 0x30), (Reg.STATUS (Reg.pagePEER 2), 0x40)], by decide⟩,
   ⟨.pf0, mkS [(Reg.SYS_CONFIG, 0)], by decide⟩,
   ⟨.pf0, mkS [(Reg.SYS_CONFIG, 1), (Reg.PAIR_PAIR_STATUS, 0x613), (Reg.STATUS Reg.pagePAIR, 0x30), (Reg.STATUS (Reg.pagePEER 2), 0x40)], by decide⟩,
   ⟨.pf0, mkS [(Reg.SYS_CONFIG, 1), (Reg.PAIR_PAIR_STATUS, 0x613), (Reg.STATUS Reg.pagePAIR, 0x30), (Reg.STATUS (Reg.pagePEER 2), 0x40), (Reg.STATUS Reg.pageLINE, 0x20)], by decide⟩,
   ⟨mkS [(Reg.SYS_CONFIG, 1), (Reg.PAIR_PAIR_STATUS, 0x613), (Reg.STATUS Reg.pagePAIR, 0x30), (Reg.STATUS (Reg.pagePEER 2), 0x40)], by decide⟩,
   ⟨mkS [(Reg.SYS_CONFIG, 1), (Reg.PAIR_PAIR_STATUS, 0x613), (Reg.STATUS Reg.pagePAIR, 0x30), (Reg.STATUS (Reg.pagePEER 2), 0x40), (Reg.STATUS Reg.pageLINE, 0x20)], by decide⟩,
   ⟨.pf0, mkS [(Reg.SYS_CONFIG, 1), (Reg.PAIR_PAIR_STATUS, 0x623), (Reg.STATUS Reg.pagePAIR, 0x30), (Reg.STATUS (Reg.pagePEER 2), 0x40)], by decide⟩,
   ⟨.pf0, mkS [(Reg.SYS_CONFIG, 1), (Reg.PAIR_PAIR_STATUS, 0x622), (Reg.STATUS Reg.pagePAIR, 0x30)], by decide⟩,
   ⟨mkS [(Reg.SYS_CONFIG, 0)], by decide⟩,
   ⟨50, 3, 7, 8, { mkS [(Reg.SYS_CONFIG, 1), (Reg.PAIR_PAIR_STATUS, 0x613), (Reg.STATUS Reg.pagePAIR, 0x30)] with pair := { digests := some (50, [(3, 7)]) } }, by decide⟩,
   ⟨50, 3, 7, 7, { mkS [(Reg.SYS_CONFIG, 1), (Reg.PAIR_PAIR_STATUS, 0x613), (Reg.STATUS Reg.pagePAIR, 0x30)] with pair := { digests := some (50, [(3, 7)]), dupRise := true } }, by decide⟩,
   ⟨50, 3, 7, 7, { mkS [(Reg.SYS_CONFIG, 1), (Reg.PAIR_PAIR_STATUS, 0x613), (Reg.STATUS Reg.pagePAIR, 0x30)] with pair := { digests := none } }, by decide⟩,
   ⟨3, mkS [], by decide⟩,
   ⟨3, { mkS [(Reg.SYS_CONFIG, 1), (Reg.PAIR_PAIR_STATUS, 0x623), (Reg.STATUS Reg.pagePAIR, 0x30), (Reg.SYS_MODULE_STATE, 5), (Reg.STATUS Reg.pageLINE, 0x20)] with pair := { repair := [3] } }, by decide⟩,
   ⟨3, { mkS [(Reg.SYS_CONFIG, 1), (Reg.PAIR_PAIR_STATUS, 0x623), (Reg.STATUS Reg.pagePAIR, 0x30)] with pair := { repair := [3] } }, by decide⟩,
   ⟨3, { mkS [(Reg.SYS_CONFIG, 1), (Reg.PAIR_PAIR_STATUS, 0x613), (Reg.STATUS Reg.pagePAIR, 0x30), (Reg.STATUS (Reg.pagePEER 2), 0x40)] with pair := { repair := [3] } }, by decide⟩,
   ⟨none, mkS [(Reg.SYS_CONFIG, 0)], by decide⟩,
   ⟨5, mkS [(Reg.STATUS (Reg.pagePEER 2), 0x40), (Reg.SYS_CONFIG, 1), (Reg.PAIR_PAIR_STATUS, 0x613), (Reg.STATUS Reg.pagePAIR, 0x30), (Reg.CH_LINK_STATUS 3, 5)], by decide⟩⟩

theorem witness_RingEnumeration :
  (∃ (root t : Nat) (s : State), s.ringMode = false) ∧
  (∃ (root t : Nat) (s : State), s.ringMode = true ∧ s.isRoot = false ∧ s.peerUp 1 = true) ∧
  (∃ (root t : Nat) (s : State), s.ringMode = true ∧ s.isRoot = true ∧
     root = s.rd64 Reg.SYS_SERIAL_LO Reg.SYS_SERIAL_HI ∧ s.ringSt = 3 ∧ s.peerUp 1 = true) ∧
  (∃ (root t : Nat) (s : State), s.ringMode = true ∧ s.isRoot = true ∧
     s.rd64 Reg.SYS_SERIAL_LO Reg.SYS_SERIAL_HI < root) ∧
  (∃ (fromW : Bool) (m : Enum) (t : Nat) (s : State), s.ringMode = false) ∧
  (∃ (fromW : Bool) (m : Enum) (t : Nat) (s : State), s.ringMode = true ∧ s.isRoot = false ∧ m.count = 0 ∧
     fromW = m.east ∧ s.peerUp (if fromW then 1 else 0) = true ∧ m.addr < 4094) ∧
  (∃ (fromW : Bool) (m : Enum) (t : Nat) (s : State), s.ringMode = true ∧ s.isRoot = false ∧ m.count = 0 ∧
     fromW = m.east ∧ s.peerUp (if fromW then 1 else 0) = true ∧ 4094 ≤ m.addr) ∧
  (∃ (fromW : Bool) (m : Enum) (t : Nat) (s : State), s.ringMode = true ∧ s.isRoot = false ∧ m.count = 0 ∧
     fromW ≠ m.east ∧ s.peerUp (if fromW then 1 else 0) = true) ∧
  (∃ (fromW : Bool) (m : Enum) (t : Nat) (s : State), s.ringMode = true ∧ s.isRoot = false ∧ m.count ≠ 0) ∧
  (∃ (fromW : Bool) (m : Enum) (t : Nat) (s : State), s.ringMode = true ∧ s.isRoot = true ∧
     m.root = s.rd64 Reg.SYS_SERIAL_LO Reg.SYS_SERIAL_HI ∧ m.count = 0 ∧ s.ringSt = 4 ∧ fromW = true ∧
     m.chain = false ∧ m.addr ≤ 4094 ∧ reportsClash true s.ring.eastNodes m.reports = false) ∧
  (∃ (fromW : Bool) (m : Enum) (t : Nat) (s : State), s.ringMode = true ∧ s.isRoot = true ∧
     m.root = s.rd64 Reg.SYS_SERIAL_LO Reg.SYS_SERIAL_HI ∧ m.count = 0 ∧ s.ringSt = 4 ∧ fromW = true ∧
     (4094 < m.addr ∨ reportsClash (!m.chain) s.ring.eastNodes m.reports = true)) ∧
  (∃ (fromW : Bool) (m : Enum) (t : Nat) (s : State), s.ringMode = true ∧ s.isRoot = true ∧
     m.root = s.rd64 Reg.SYS_SERIAL_LO Reg.SYS_SERIAL_HI ∧ m.count = 0 ∧ s.ringSt = 7 ∧ fromW = false ∧
     m.east = true ∧ s.peerUp 0 = true) ∧
  (∃ (t : Nat) (s : State), s.ringMode = true ∧ s.isRoot = true ∧ (s.ringSt = 1 ∨ s.ringSt = 3) ∧
     8000000000 ≤ (s.till t).frc - s.ring.waitFrc ∧ s.peerUp 1 = true) ∧
  (∃ (t : Nat) (s : State), (s.ringMode = false ∨ s.isRoot = false ∨ s.ringSt = 6)) ∧
  (∃ (src : Req) (t : Nat) (s : State), s.cutOff src = false ∧ s.isRoot = false) ∧
  (∃ (src : Req) (t : Nat) (s : State), s.cutOff src = false ∧ s.isRoot = true ∧ s.modState = 5) ∧
  (∃ (src : Req) (t : Nat) (s : State), s.cutOff src = false ∧ s.isRoot = true ∧ s.modState ≠ 5 ∧
     s.peerUp 0 = true ∧ s.peerUp 1 = true) ∧
  (∃ (src : Req) (t : Nat) (s : State), s.cutOff src = false ∧ s.isRoot = true ∧ s.modState ≠ 5 ∧
     (s.peerUp 0 = false ∨ s.peerUp 1 = false)) ∧
  (∃ (src : Req) (s : State), s.cutOff src = false ∧ (s.ringSt = 6 ∨ s.ringSt = 7) ∧ s.isRoot = false) ∧
  (∃ (src : Req) (s : State), s.cutOff src = false ∧ (s.ringSt ≠ 6 ∧ s.ringSt ≠ 7 ∨ s.isRoot = true)) :=
  ⟨⟨7, 9, mkS [(Reg.SYS_CONFIG, 0)], by decide⟩,
   ⟨7, 9, mkS [(Reg.SYS_CONFIG, 2), (Reg.STATUS Reg.pageRING, 32), (Reg.STATUS (Reg.pagePEER 0), 0x40), (Reg.STATUS (Reg.pagePEER 1), 0x40)], by decide⟩,
   ⟨0, 9, mkS [(Reg.SYS_CONFIG, 2), (Reg.STATUS Reg.pageRING, 48), (Reg.RING_RING_STATUS, 0x1000), (Reg.STATUS (Reg.pagePEER 0), 0x40), (Reg.STATUS (Reg.pagePEER 1), 0x40)], by decide⟩,
   ⟨7, 9, mkS [(Reg.SYS_CONFIG, 2), (Reg.STATUS Reg.pageRING, 48), (Reg.RING_RING_STATUS, 0x1000), (Reg.STATUS (Reg.pagePEER 0), 0x40), (Reg.STATUS (Reg.pagePEER 1), 0x40)], by decide⟩,
   ⟨true, { addr := 1, count := 0, root := 0, east := true, chain := false, reports := [(0, 5)] }, 9, mkS [(Reg.SYS_CONFIG, 0)], by decide⟩,
   ⟨true, { addr := 1, count := 0, root := 0, east := true, chain := false, reports := [(0, 5)] }, 9, mkS [(Reg.SYS_CONFIG, 2), (Reg.STATUS Reg.pageRING, 32), (Reg.STATUS (Reg.pagePEER 0), 0x40), (Reg.STATUS (Reg.pagePEER 1), 0x40)], by decide⟩,
   ⟨true, { addr := 4094, count := 0, root := 0, east := true, chain := false, reports := [(0, 5)] }, 9, mkS [(Reg.SYS_CONFIG, 2), (Reg.STATUS Reg.pageRING, 32), (Reg.STATUS (Reg.pagePEER 0), 0x40), (Reg.STATUS (Reg.pagePEER 1), 0x40)], by decide⟩,
   ⟨false, { addr := 1, count := 0, root := 0, east := true, chain := true, reports := [(0, 5)] }, 9, mkS [(Reg.SYS_CONFIG, 2), (Reg.STATUS Reg.pageRING, 80), (Reg.STATUS (Reg.pagePEER 0), 0x40), (Reg.STATUS (Reg.pagePEER 1), 0x40)], by decide⟩,
   ⟨true, { addr := 5, count := 5, root := 0, east := true, chain := false, reports := [(0, 5)] }, 9, mkS [(Reg.SYS_CONFIG, 2), (Reg.STATUS Reg.pageRING, 80), (Reg.STATUS (Reg.pagePEER 0), 0x40), (Reg.STATUS (Reg.pagePEER 1), 0x40)], by decide⟩,
   ⟨true, { addr := 4, count := 0, root := 0, east := true, chain := false, reports := [(0,5),(0,5),(1,0),(0,95237)] }, 9, mkS [(Reg.SYS_CONFIG, 2), (Reg.STATUS Reg.pageRING, 64), (Reg.RING_RING_STATUS, 0x1000), (Reg.STATUS (Reg.pagePEER 0), 0x40), (Reg.STATUS (Reg.pagePEER 1), 0x40)], by decide⟩,
   ⟨true, { addr := 4, count := 0, root := 0, east := true, chain := false, reports := [(0,5),(1,0),(0,5),(0,200000)] }, 9, mkS [(Reg.SYS_CONFIG, 2), (Reg.STATUS Reg.pageRING, 64), (Reg.RING_RING_STATUS, 0x1000), (Reg.STATUS (Reg.pagePEER 0), 0x40), (Reg.STATUS (Reg.pagePEER 1), 0x40)], by decide⟩,
   ⟨false, { addr := 3, count := 0, root := 0, east := true, chain := true, reports := [(0, 5)] }, 9, mkS [(Reg.SYS_CONFIG, 2), (Reg.STATUS Reg.pageRING, 112), (Reg.RING_RING_STATUS, 0x1000), (Reg.STATUS (Reg.pagePEER 0), 0x40), (Reg.STATUS (Reg.pagePEER 1), 0x40)], by decide⟩,
   ⟨8000000000, mkS [(Reg.SYS_CONFIG, 2), (Reg.STATUS Reg.pageRING, 16), (Reg.RING_RING_STATUS, 0x1000), (Reg.STATUS (Reg.pagePEER 0), 0x40), (Reg.STATUS (Reg.pagePEER 1), 0x40)], by decide⟩,
   ⟨9, mkS [(Reg.SYS_CONFIG, 0)], by decide⟩,
   ⟨.pf0, 9, mkS [(Reg.SYS_CONFIG, 2), (Reg.STATUS Reg.pageRING, 96)], by decide⟩,
   ⟨.pf0, 9, mkS [(Reg.SYS_CONFIG, 2), (Reg.STATUS Reg.pageRING, 96), (Reg.RING_RING_STATUS, 0x1000), (Reg.SYS_MODULE_STATE, 5)], by decide⟩,
   ⟨.pf0, 9, mkS [(Reg.SYS_CONFIG, 2), (Reg.STATUS Reg.pageRING, 96), (Reg.RING_RING_STATUS, 0x1000), (Reg.STATUS (Reg.pagePEER 0), 0x40), (Reg.STATUS (Reg.pagePEER 1), 0x40)], by decide⟩,
   ⟨.pf0, 9, mkS [(Reg.SYS_CONFIG, 2), (Reg.STATUS Reg.pageRING, 112), (Reg.RING_RING_STATUS, 0x1000)], by decide⟩,
   ⟨.pf0, mkS [(Reg.SYS_CONFIG, 2), (Reg.STATUS Reg.pageRING, 96)], by decide⟩,
   ⟨.pf0, mkS [(Reg.SYS_CONFIG, 2), (Reg.STATUS Reg.pageRING, 80)], by decide⟩⟩

theorem witness_RingTiming :
  (∃ (t r : Nat) (s : State), s.ringRuns = true ∧ s.isRoot = true ∧
     (s.till t).predictLine (s.till t).nextPrediction = some r ∧
     sdiff 80 r ((s.till t).ringTime (s.till t).frc) ≤ (s.rd Reg.RING_TL * 65536 : Nat) ∧ s.peerUp 0 = true ∧
     s.peerUp 1 = true ∧ s.line.due = [] ∧ s.line.lastSource = none) ∧
  (∃ (t r : Nat) (s : State), s.ringRuns = true ∧ s.isRoot = true ∧
     (s.till t).predictLine (s.till t).nextPrediction = some r ∧
     (s.rd Reg.RING_TL * 65536 : Nat) < sdiff 80 r ((s.till t).ringTime (s.till t).frc)) ∧
  (∃ (t : Nat) (s : State), (s.ringRuns = false ∨ s.isRoot = false ∨ s.ring.marks.length < 2)) ∧
  (∃ (n a b : Nat) (s : State), s.ring.marks = [a, b]) ∧
  (∃ (line ringTime t : Nat) (s : State), s.ringMode = true ∧ s.isRoot = false ∧ s.sourceInUse = 5 ∧
     s.newLine line = true ∧ s.ring.base.isSome = true ∧ s.dueLine line = true ∧ s.ring.ahead = [] ∧
     s.peerUp 0 = true ∧ s.peerUp 1 = true ∧ s.line.due = [] ∧ s.line.lastSource = none ∧
     1600 ≤ sdiff 64 (s.frcOfRing ringTime) (s.till t).frc) ∧
  (∃ (line ringTime t : Nat) (s : State), s.ringMode = true ∧ s.isRoot = false ∧ s.sourceInUse = 5 ∧
     s.newLine line = true ∧ s.ring.base.isSome = true ∧ s.dueLine line = true ∧ s.ring.ahead = [] ∧
     s.peerUp 0 = true ∧ s.peerUp 1 = true ∧ s.line.due = [] ∧ s.line.lastSource = none ∧
     sdiff 64 (s.frcOfRing ringTime) (s.till t).frc < 1600) ∧
  (∃ (line ringTime t : Nat) (s : State), s.ringMode = true ∧ s.isRoot = false ∧ s.sourceInUse = 5 ∧
     s.newLine line = true ∧ s.ring.base.isSome = true ∧ s.dueLine line = false ∧ s.peerUp 0 = true ∧
     s.peerUp 1 = true) ∧
  (∃ (line ringTime t : Nat) (s : State), (s.ringMode = false ∨ s.isRoot = true ∨ s.newLine line = false)) ∧
  (∃ (t n1 t1 n0 t0 : Nat) (s : State), s.ring.preds = [(n1, t1), (n0, t0)] ∧ s.ring.ahead = [] ∧
     s.ringMode = true ∧ s.isRoot = false ∧ s.sourceInUse = 5 ∧ s.ring.base.isSome = true ∧
     0 ≤ sdiff 64 (s.till t).frc (s.frcOfRing (unsgn 80 ((t1 : Int) + sdiff 80 t1 t0 + sdiff 80 t1 t0 / 2))) ∧
     s.line.due = [] ∧ s.line.lastSource = none ∧ s.ring.held < 15) ∧
  (∃ (t : Nat) (s : State), s.ring.preds = []) ∧
  (∃ (rates : List Nat) (lowest partner : Option Nat) (s : State), s.ringMode = false ∧ s.pairMode = false) ∧
  (∃ (rates : List Nat) (lowest partner : Option Nat) (s : State), s.ringMode = true ∧ s.pairMode = false ∧
     s.isRoot = true ∧ s.peerUp 0 = true ∧ s.peerUp 1 = true) ∧
  (∃ (rates : List Nat) (low : Nat) (partner : Option Nat) (s : State), s.ringMode = true ∧ s.pairMode = false ∧
     s.isRoot = false ∧ s.peerUp 0 = true ∧ s.peerUp 1 = true) ∧
  (∃ (rates : List Nat) (lowest partner : Option Nat) (s : State), s.pairMode = true ∧ s.ringMode = false ∧
     s.peerUp 2 = true) :=
  ⟨⟨9, 491520000, { mkS [(Reg.SYS_CONFIG, 2), (Reg.STATUS Reg.pageRING, 96), (Reg.RING_RING_STATUS, 0x1000), (Reg.STATUS (Reg.pagePEER 0), 0x40), (Reg.STATUS (Reg.pagePEER 1), 0x40), (Reg.RING_TL, 20000)] with ring := { marks := [4000, 2000], pos := 5 } }, by decide⟩,
   ⟨9, 491520000, { mkS [(Reg.SYS_CONFIG, 2), (Reg.STATUS Reg.pageRING, 96), (Reg.RING_RING_STATUS, 0x1000), (Reg.STATUS (Reg.pagePEER 0), 0x40), (Reg.STATUS (Reg.pagePEER 1), 0x40), (Reg.RING_TL, 2)] with ring := { marks := [4000, 2000], pos := 5 } }, by decide⟩,
   ⟨5, mkS [], by decide⟩,
   ⟨6, 4000, 2000, { mkS [(Reg.SYS_CONFIG, 2), (Reg.STATUS Reg.pageRING, 96), (Reg.RING_RING_STATUS, 0x1000)] with ring := { marks := [4000, 2000], pos := 5 } }, by decide⟩,
   ⟨5, 163840000, 9, { mkS [(Reg.SYS_CONFIG, 2), (Reg.STATUS Reg.pageRING, 96), (Reg.STATUS (Reg.pagePEER 0), 0x40), (Reg.STATUS (Reg.pagePEER 1), 0x40), (Reg.ENC_SOURCE, 5)] with ring := { base := some (0, 0) } }, by decide⟩,
   ⟨5, 81920, 9, { mkS [(Reg.SYS_CONFIG, 2), (Reg.STATUS Reg.pageRING, 96), (Reg.STATUS (Reg.pagePEER 0), 0x40), (Reg.STATUS (Reg.pagePEER 1), 0x40), (Reg.ENC_SOURCE, 5)] with ring := { base := some (0, 0) } }, by decide⟩,
   ⟨8, 81920, 9, { mkS [(Reg.SYS_CONFIG, 2), (Reg.STATUS Reg.pageRING, 96), (Reg.STATUS (Reg.pagePEER 0), 0x40), (Reg.STATUS (Reg.pagePEER 1), 0x40), (Reg.ENC_SOURCE, 5)] with ring := { base := some (0, 0), preds := [(6, 163840000)] } }, by decide⟩,
   ⟨5, 81920, 9, mkS [(Reg.SYS_CONFIG, 0)], by decide⟩,
   ⟨9000, 6, 163840000, 5, 81920000, { mkS [(Reg.SYS_CONFIG, 2), (Reg.STATUS Reg.pageRING, 96), (Reg.ENC_SOURCE, 5)] with ring := { base := some (0, 0), preds := [(6, 163840000), (5, 81920000)] } }, by decide⟩,
   ⟨9, mkS [], by decide⟩,
   ⟨[70000], none, none, mkS [(Reg.SYS_CONFIG, 0)], by decide⟩,
   ⟨[70000], none, none, mkS [(Reg.SYS_CONFIG, 2), (Reg.STATUS Reg.pageRING, 96), (Reg.RING_RING_STATUS, 0x1000), (Reg.STATUS (Reg.pagePEER 0), 0x40), (Reg.STATUS (Reg.pagePEER 1), 0x40)], by decide⟩,
   ⟨[70000], 60000, none, mkS [(Reg.SYS_CONFIG, 2), (Reg.STATUS Reg.pageRING, 96), (Reg.STATUS (Reg.pagePEER 0), 0x40), (Reg.STATUS (Reg.pagePEER 1), 0x40)], by decide⟩,
   ⟨[], none, some 70000, mkS [(Reg.SYS_CONFIG, 1), (Reg.STATUS (Reg.pagePEER 2), 0x40)], by decide⟩⟩

theorem witness_QueueCommands :
  (∃ (src : Req) (q : Fin 16) (tail : Nat) (s : State), s.cutOff src = false ∧ s.queueSt q = 0 ∧
     s.queueHead q ≠ tail % 65536) ∧
  (∃ (src : Req) (q : Fin 16) (tail : Nat) (s : State), s.cutOff src = false ∧
     (s.queueSt q ≠ 0 ∨ s.queueHead q = tail % 65536)) ∧
  (∃ (src : Req) (q : Fin 16) (s : State), s.cutOff src = false ∧ (s.queueSt q = 5 ∨ s.queueSt q = 6)) ∧
  (∃ (src : Req) (q : Fin 16) (s : State), s.cutOff src = false ∧ s.queueSt q ≠ 5 ∧ s.queueSt q ≠ 6) ∧
  (∃ (src : Req) (q : Fin 16) (s : State), s.cutOff src = false ∧ s.queueSt q ≤ 4) ∧
  (∃ (src : Req) (q : Fin 16) (s : State), s.cutOff src = false ∧ 4 < s.queueSt q) ∧
  (∃ (src : Req) (s : State), s.cutOff src = false) ∧
  (∃ (src : Req) (r : Fin 64) (reg : Fin 3) (data : Nat) (s : State), s.cutOff src = false ∧ 56 ≤ r.val ∧
     (isHost src = true ∨ reg.val = 2)) ∧
  (∃ (src : Req) (r : Fin 64) (reg : Fin 3) (data : Nat) (s : State), s.cutOff src = false ∧
     (r.val < 56 ∨ isHost src = false ∧ reg.val ≠ 2) ∧
     (∀ q ∈ List.range 64, r.val < 56 → q ≠ r.val →
     (s.wr (regionKey r reg) ((data &&& regionMask reg) + (s.rd (regionKey r reg) - (s.rd (regionKey r reg) &&& regionMask reg)))).regionsOverlap r q =
     false) ∧ (s.modState ≠ 5 ∨ s.regionNamed r = false) ∧
     ((s.wr (regionKey r reg) ((data &&& regionMask reg) + (s.rd (regionKey r reg) - (s.rd (regionKey r reg) &&& regionMask reg)))).regKind r ≠ 1 ∨
     (s.wr (regionKey r reg) ((data &&& regionMask reg) + (s.rd (regionKey r reg) - (s.rd (regionKey r reg) &&& regionMask reg)))).rd (Reg.YARD_REG_SIZE r) =
     0 ∨
     (s.wr (regionKey r reg) ((data &&& regionMask reg) + (s.rd (regionKey r reg) - (s.rd (regionKey r reg) &&& regionMask reg)))).rd (Reg.YARD_REG_BASE r) % 32 =
     0)) ∧
  (∃ (src : Req) (r q : Fin 64) (data : Nat) (s : State), s.cutOff src = false ∧ r.val < 56 ∧ q ≠ r ∧
     isHost src = true ∧
     (s.wr (regionKey r 1) ((data &&& regionMask 1) + (s.rd (regionKey r 1) - (s.rd (regionKey r 1) &&& regionMask 1)))).regionsOverlap r q =
     true) ∧
  (∃ (src : Req) (r : Fin 64) (reg : Fin 3) (data : Nat) (s : State), s.cutOff src = false ∧
     (r.val < 56 ∨ isHost src = false ∧ reg.val ≠ 2) ∧
     (∀ q ∈ List.range 64, r.val < 56 → q ≠ r.val →
     (s.wr (regionKey r reg) ((data &&& regionMask reg) + (s.rd (regionKey r reg) - (s.rd (regionKey r reg) &&& regionMask reg)))).regionsOverlap r q =
     false) ∧ s.modState = 5 ∧ s.regionNamed r = true) :=
  ⟨⟨.pf0, 2, 3, mkS [(Reg.YARD_Q_STATUS 2, 0), (Reg.YARD_Q_CFG 2, 1025)], by decide⟩,
   ⟨.pf0, 2, 3, mkS [(Reg.YARD_Q_STATUS 2, 7), (Reg.YARD_Q_CFG 2, 1025)], by decide⟩,
   ⟨.pf0, 2, mkS [(Reg.YARD_Q_STATUS 2, 5), (Reg.YARD_Q_CFG 2, 1025)], by decide⟩,
   ⟨.pf0, 2, mkS [(Reg.YARD_Q_STATUS 2, 1), (Reg.YARD_Q_CFG 2, 1025)], by decide⟩,
   ⟨.pf0, 2, mkS [(Reg.YARD_Q_STATUS 2, 1), (Reg.YARD_Q_CFG 2, 1025)], by decide⟩,
   ⟨.pf0, 2, mkS [(Reg.YARD_Q_STATUS 2, 5), (Reg.YARD_Q_CFG 2, 1025)], by decide⟩,
   ⟨.pf0, { mkS [] with job := { atc := [{ pf1 := false, pasid := none, base := 0, size := 4096, target := 0 }] } }, by decide⟩,
   ⟨.ranger, 57, 2, 1, mkS [], by decide⟩,
   ⟨.pf0, 3, 1, 16, mkS [], by decide⟩,
   ⟨.pf0, 3, 4, 16, mkS [(Reg.YARD_REG_BASE 3, 0x100), (Reg.YARD_REG_BASE 4, 0x108), (Reg.YARD_REG_SIZE 4, 1)], by decide⟩,
   ⟨.pf0, 3, 2, 0, { mkS [(Reg.SYS_MODULE_STATE, 5), (Reg.YARD_REG_BASE 3, 0x100)] with job := { queues := [(2, { words := some [0, 0, 0, 0, 0, 64, 0, 0x3000000] })] } }, by decide⟩⟩

theorem witness_DescriptorCommands :
  (∃ (q : Fin 16) (w : List Nat) (b : List Byte) (s : State), s.queueSt q = 1 ∧ (s.queue q).wait = .none ∧
     (s.queue q).words = none ∧ s.pasidOff q = false ∧ s.outranked q = false ∧ s.rivals q = [] ∧ dKind w = 0 ∧
     0 < dLength w ∧ dSrc w % 4 = 0 ∧ 0 < s.rd (Reg.YARD_REG_SIZE (dRegion w)) ∧ s.regKind (dRegion w) ≠ 1 ∧
     s.regKind (dRegion w) ≠ 2 ∧ s.bit (Reg.YARD_REG_ATTR (dRegion w)) (8 + 2 * b2n (s.queuePf1 q)) = true ∧
     s.inRegion (dRegion w) (s.rd (Reg.YARD_REG_BASE (dRegion w)) * 4096 + dOffset w) (dLength w) = true ∧
     dOut w = false ∧ s.useAts q = false ∧ b.length = dLength w ∧
     s.poisonedIn (s.rd (Reg.YARD_REG_BASE (dRegion w)) * 4096 + dOffset w) 1 = false ∧
     s.poisonedIn (s.rd (Reg.YARD_REG_BASE (dRegion w)) * 4096 + dOffset w + dLength w - 1) 1 = false ∧ dIrq w = false) ∧
  (∃ (q : Fin 16) (w : List Nat) (b : List Byte) (s : State), s.queueSt q = 1 ∧ (s.queue q).wait = .none ∧
     (s.queue q).words = none ∧ s.pasidOff q = false ∧ s.outranked q = false ∧ s.rivals q = [] ∧ dKind w = 0 ∧
     0 < dLength w ∧ dSrc w % 4 = 0 ∧ 0 < s.rd (Reg.YARD_REG_SIZE (dRegion w)) ∧ s.regKind (dRegion w) ≠ 1 ∧
     s.regKind (dRegion w) ≠ 2 ∧ s.bit (Reg.YARD_REG_ATTR (dRegion w)) (9 + 2 * b2n (s.queuePf1 q)) = true ∧
     s.inRegion (dRegion w) (s.rd (Reg.YARD_REG_BASE (dRegion w)) * 4096 + dOffset w) (dLength w) = true ∧
     dOut w = true ∧ s.useAts q = false ∧ b.length = dLength w ∧ dIrq w = true ∧
     s.poisonedIn (s.rd (Reg.YARD_REG_BASE (dRegion w)) * 4096 + dOffset w) (dLength w) = false) ∧
  (∃ (q : Fin 16) (w : List Nat) (b : List Byte) (s : State), s.queueSt q = 1 ∧ (s.queue q).wait = .none ∧
     (s.queue q).words = none ∧ s.pasidOff q = false ∧ s.outranked q = false ∧ s.rivals q = [] ∧ dKind w = 0 ∧
     0 < dLength w ∧ dSrc w % 4 = 0 ∧ 0 < s.rd (Reg.YARD_REG_SIZE (dRegion w)) ∧ s.regKind (dRegion w) ≠ 1 ∧
     s.regKind (dRegion w) ≠ 2 ∧ s.bit (Reg.YARD_REG_ATTR (dRegion w)) (9 + 2 * b2n (s.queuePf1 q)) = true ∧
     s.inRegion (dRegion w) (s.rd (Reg.YARD_REG_BASE (dRegion w)) * 4096 + dOffset w) (dLength w) = true ∧
     dOut w = true ∧ s.useAts q = false ∧ b.length = dLength w ∧ dLength w ≤ 4096 - dSrc w % 4096 ∧
     s.poisonedIn (s.rd (Reg.YARD_REG_BASE (dRegion w)) * 4096 + dOffset w) (dLength w) = true) ∧
  (∃ (q : Fin 16) (w : List Nat) (code : Nat) (h : HostData) (s : State), s.queueSt q = 1 ∧
     (s.queue q).wait = .none ∧ (s.queue q).words = none ∧ s.pasidOff q = false ∧ s.outranked q = false ∧
     s.rivals q = [] ∧
     (s.useAts q = false ∨ (s.translation q (s.rd64 (Reg.YARD_Q_WB_LO q) (Reg.YARD_Q_WB_HI q)) 8).isSome = true) ∧
     dKind w ≠ 1 ∧ s.descRefusal q w = some code ∧ code ≠ 0) ∧
  (∃ (q : Fin 16) (w : List Nat) (h : HostData) (s : State), s.queueSt q ≠ 1) ∧
  (∃ (q : Fin 16) (w : List Nat) (s : State), s.queueSt q = 1 ∧ (s.queue q).wait = .none ∧
     (s.queue q).words = none ∧ s.pasidOff q = false ∧ s.outranked q = false ∧ s.rivals q = [] ∧ dKind w = 0 ∧
     s.descRefusal q w = none ∧ s.useAts q = false) ∧
  (∃ (q : Fin 16) (w : List Nat) (h : HostData) (s : State), s.queueSt q = 1 ∧ (s.queue q).wait = .none ∧
     (s.queue q).words = none ∧ s.outranked q = false ∧ s.pasidOff q = true ∧ dKind w ≠ 1) ∧
  (∃ (q : Fin 16) (w : List Nat) (h : HostData) (s : State), s.outranked q = true ∧ dKind w ≠ 1) ∧
  (∃ (q : Fin 16) (base size target : Nat) (ok : Bool) (host seals : HostData) (s : State),
     (s.queue q).wait ≠ .translation) ∧
  (∃ (q : Fin 16) (base size target : Nat) (host seals : HostData) (s : State), (s.queue q).wait = .translation ∧
     s.usePri = true) ∧
  (∃ (q : Fin 16) (base size target : Nat) (host seals : HostData) (s : State), (s.queue q).wait = .translation ∧
     s.usePri = false ∧
     (s.useAts q = false ∨ (s.translation q (s.rd64 (Reg.YARD_Q_WB_LO q) (Reg.YARD_Q_WB_HI q)) 8).isSome = true)) ∧
  (∃ (q : Fin 16) (w : List Nat) (base target : Nat) (b : List Byte) (s : State), (s.queue q).wait = .translation ∧
     (s.queue q).words = some w ∧ (s.queue q).moved = 0 ∧ s.pasidOff q = false ∧ s.outranked q = false ∧
     s.rivals q = [] ∧ (s.queue q).record = none ∧ dKind w = 0 ∧ dOut w = false ∧ dIrq w = false ∧ s.useAts q = true ∧
     b.length = dLength w ∧ b.length ≤ 4096 - dSrc w % 4096 ∧ b ≠ [] ∧ base ≤ dSrc w ∧
     dSrc w + b.length ≤ base + 4096 ∧
     s.poisonedIn (s.rd (Reg.YARD_REG_BASE (dRegion w)) * 4096 + dOffset w) 1 = false ∧
     s.poisonedIn (s.rd (Reg.YARD_REG_BASE (dRegion w)) * 4096 + dOffset w + dLength w - 1) 1 = false) ∧
  (∃ (q : Fin 16) (ok : Bool) (host seals : HostData) (s : State), s.queueSt q ≠ 3) ∧
  (∃ (q : Fin 16) (host seals : HostData) (s : State), s.queueSt q = 3 ∧
     (s.useAts q = false ∨ (s.translation q (s.rd64 (Reg.YARD_Q_WB_LO q) (Reg.YARD_Q_WB_HI q)) 8).isSome = true)) ∧
  (∃ (q : Fin 16) (w : List Nat) (b : List Byte) (s : State), s.queueSt q = 3 ∧ (s.queue q).words = some w ∧
     (s.queue q).moved = 0 ∧ s.pasidOff q = false ∧ s.outranked q = false ∧ s.rivals q = [] ∧
     (s.queue q).record = none ∧ dKind w = 0 ∧ dOut w = false ∧ dIrq w = false ∧ s.useAts q = false ∧
     b.length = dLength w ∧ s.poisonedIn (s.rd (Reg.YARD_REG_BASE (dRegion w)) * 4096 + dOffset w) 1 = false ∧
     s.poisonedIn (s.rd (Reg.YARD_REG_BASE (dRegion w)) * 4096 + dOffset w + dLength w - 1) 1 = false) ∧
  (∃ (q : Fin 16) (s : State), s.queueSt q ≠ 3) ∧
  (∃ (q : Fin 16) (s : State), s.queueSt q = 3 ∧
     (s.useAts q = false ∨ (s.translation q (s.rd64 (Reg.YARD_Q_WB_LO q) (Reg.YARD_Q_WB_HI q)) 8).isSome = true)) ∧
  (∃ (q : Fin 16) (host seals : HostData) (s : State), s.queueSt q ≠ 2) ∧
  (∃ (q : Fin 16) (w : List Nat) (host seals : HostData) (s : State), s.queueSt q = 2 ∧ (s.queue q).words = some w ∧
     (s.queue q).moved = 0 ∧ s.pasidOff q = false ∧ s.outranked q = false ∧ s.rivals q = [] ∧
     (s.queue q).record = none ∧ dKind w = 1 ∧ dSealIn w = false ∧ 0 < dCount w ∧ s.useAts q = false ∧ host = .miss ∧
     s.tileWait q (dPlane w) (s.tileOf w 0).1 (s.tileOf w 0).2 = none) ∧
  (∃ (q : Fin 16) (w : List Nat) (b : List Byte) (s : State), b.length = tileBytes ∧ s.queueSt q = 2 ∧
     (s.queue q).words = some w ∧ (s.queue q).moved = 0 ∧ (s.queue q).badSeal = false ∧ s.pasidOff q = false ∧
     s.outranked q = false ∧ s.rivals q = [] ∧ (s.queue q).record = none ∧ dKind w = 1 ∧ dSealIn w = false ∧
     dIrq w = false ∧ dLast w = false ∧ dCount w = 1 ∧ s.useAts q = false ∧ s.pairMode = false ∧
     s.tileWait q (dPlane w) (s.tileOf w 0).1 (s.tileOf w 0).2 = none) ∧
  (∃ (q : Fin 16) (host seals : HostData) (s : State), s.queueSt q ≠ 4) ∧
  (∃ (q : Fin 16) (w : List Nat) (host seals : HostData) (s : State), s.queueSt q = 4 ∧ (s.queue q).words = some w ∧
     (s.queue q).moved = 0 ∧ s.pasidOff q = false ∧ s.outranked q = false ∧ s.rivals q = [] ∧
     (s.queue q).record = none ∧ dKind w = 1 ∧ dSealIn w = false ∧ 0 < dCount w ∧ s.useAts q = false ∧ host = .miss ∧
     s.tileWait q (dPlane w) (s.tileOf w 0).1 (s.tileOf w 0).2 = none) ∧
  (∃ (q : Fin 16) (w : List Nat) (b : List Byte) (s : State), b.length = tileBytes ∧ s.queueSt q = 4 ∧
     (s.queue q).words = some w ∧ (s.queue q).moved = 0 ∧ (s.queue q).badSeal = false ∧ s.pasidOff q = false ∧
     s.outranked q = false ∧ s.rivals q = [] ∧ (s.queue q).record = none ∧ dKind w = 1 ∧ dSealIn w = false ∧
     dIrq w = false ∧ dLast w = false ∧ dCount w = 1 ∧ s.useAts q = false ∧ s.pairMode = false ∧
     s.tileWait q (dPlane w) (s.tileOf w 0).1 (s.tileOf w 0).2 = none) ∧
  (∃ (q : Fin 16) (w : List Nat) (h seals : HostData) (s : State), (dKind w ≠ 1 ∨ s.queueSt q ≠ 1)) ∧
  (∃ (q : Fin 16) (w : List Nat) (h seals : HostData) (code : Nat) (s : State), s.queueSt q = 1 ∧
     (s.queue q).wait = .none ∧ (s.queue q).words = none ∧ s.pasidOff q = false ∧ s.outranked q = false ∧
     s.rivals q = [] ∧
     (s.useAts q = false ∨ (s.translation q (s.rd64 (Reg.YARD_Q_WB_LO q) (Reg.YARD_Q_WB_HI q)) 8).isSome = true) ∧
     dKind w = 1 ∧ s.descRefusal q w = some code ∧ code ≠ 0 ∧ code ≠ 0x010A) ∧
  (∃ (q : Fin 16) (w : List Nat) (b : List Byte) (s : State), b.length = tileBytes ∧ s.queueSt q = 1 ∧
     (s.queue q).wait = .none ∧ (s.queue q).words = none ∧ s.pasidOff q = false ∧ s.outranked q = false ∧
     s.rivals q = [] ∧ dOut w = false ∧ dSrc w % 64 = 0 ∧ 0 < s.tileCols (dPlane w) ∧ dCol w < s.tileCols (dPlane w) ∧
     s.bit (Reg.YARD_REG_ATTR (s.tileRegion (dPlane w))) (8 + 2 * b2n (s.queuePf1 q)) = true ∧
     s.located (dPlane w) (s.tileOf w 0).1 (s.tileOf w 0).2 = true ∧
     0 < s.rd (Reg.YARD_REG_SIZE (s.tileRegion (dPlane w))) ∧ 0 < s.rd (Reg.YARD_REG_SIZE (s.sealRegion (dPlane w))) ∧
     s.modState ≠ 5 ∧ s.streaming = false ∧ dKind w = 1 ∧ dSealIn w = false ∧ dIrq w = false ∧ dLast w = false ∧
     dCount w = 1 ∧ s.useAts q = false ∧ s.pairMode = false ∧
     s.tileWait q (dPlane w) (s.tileOf w 0).1 (s.tileOf w 0).2 = none) ∧
  (∃ (q : Fin 16) (b : List Byte) (s : State), s.useAts q = true ∧
     s.translation q (s.rd64 (Reg.YARD_Q_WB_LO q) (Reg.YARD_Q_WB_HI q)) 8 = none) :=
  ⟨⟨2, [0, 64, 0, 0, 0, 8, 16, 0x3000000], [1, 2, 3, 4, 5, 6, 7, 8], mkS [(Reg.YARD_Q_STATUS 2, 1), (Reg.YARD_Q_CFG 2, 1025), (Reg.YARD_Q_TAIL 2, 1), (Reg.YARD_REG_BASE 3, 0x100), (Reg.YARD_REG_SIZE 3, 16), (Reg.YARD_REG_ATTR 3, 0xF00)], by decide⟩,
   ⟨2, [0xA0, 64, 0, 0, 0, 8, 16, 0x3000000], [1, 2, 3, 4, 5, 6, 7, 8], mkS [(Reg.YARD_Q_STATUS 2, 1), (Reg.YARD_Q_CFG 2, 1025), (Reg.YARD_Q_TAIL 2, 1), (Reg.YARD_REG_BASE 3, 0x100), (Reg.YARD_REG_SIZE 3, 16), (Reg.YARD_REG_ATTR 3, 0xF00)], by decide⟩,
   ⟨2, [0x80, 64, 0, 0, 0, 8, 16, 0x3000000], [1, 2, 3, 4, 5, 6, 7, 8], { mkS [(Reg.YARD_Q_STATUS 2, 1), (Reg.YARD_Q_CFG 2, 1025), (Reg.YARD_Q_TAIL 2, 1), (Reg.YARD_REG_BASE 3, 0x100), (Reg.YARD_REG_SIZE 3, 16), (Reg.YARD_REG_ATTR 3, 0xF00)] with dram := { poisoned := [131074] } }, by decide⟩,
   ⟨2, [0, 64, 0, 0, 0, 0, 16, 0x3000000], 0x0102, .miss, mkS [(Reg.YARD_Q_STATUS 2, 1), (Reg.YARD_Q_CFG 2, 1025), (Reg.YARD_Q_TAIL 2, 1), (Reg.YARD_REG_BASE 3, 0x100), (Reg.YARD_REG_SIZE 3, 16), (Reg.YARD_REG_ATTR 3, 0xF00)], by decide⟩,
   ⟨2, [0, 64, 0, 0, 0, 8, 16, 0x3000000], .miss, mkS [(Reg.YARD_Q_STATUS 2, 0), (Reg.YARD_Q_CFG 2, 1025)], by decide⟩,
   ⟨2, [0, 64, 0, 0, 0, 8, 16, 0x3000000], mkS [(Reg.YARD_Q_STATUS 2, 1), (Reg.YARD_Q_CFG 2, 1025), (Reg.YARD_Q_TAIL 2, 1), (Reg.YARD_REG_BASE 3, 0x100), (Reg.YARD_REG_SIZE 3, 16), (Reg.YARD_REG_ATTR 3, 0xF00)], by decide⟩,
   ⟨2, [0, 64, 0, 0, 0, 8, 16, 0x3000000], .miss, mkS [(Reg.YARD_Q_STATUS 2, 1), (Reg.YARD_Q_CFG 2, 1025), (Reg.YARD_Q_TAIL 2, 1), (Reg.YARD_REG_BASE 3, 0x100), (Reg.YARD_REG_SIZE 3, 16), (Reg.YARD_REG_ATTR 3, 0xF00), (Reg.YARD_Q_PASID 2, 0x80000005)], by decide⟩,
   ⟨2, [0, 64, 0, 0, 0, 8, 16, 0x3000000], .miss, mkS [(Reg.YARD_Q_STATUS 2, 1), (Reg.YARD_Q_CFG 2, 1025), (Reg.YARD_Q_TAIL 2, 1), (Reg.YARD_REG_BASE 3, 0x100), (Reg.YARD_REG_SIZE 3, 16), (Reg.YARD_REG_ATTR 3, 0xF00), (Reg.YARD_Q_STATUS 3, 1), (Reg.YARD_Q_CFG 3, 0x40D)], by decide⟩,
   ⟨2, 0, 4096, 0, true, .miss, .miss, mkS [(Reg.YARD_Q_STATUS 2, 1), (Reg.YARD_Q_CFG 2, 1025)], by decide⟩,
   ⟨2, 0, 4096, 0, .miss, .miss, { mkS [(Reg.YARD_Q_STATUS 2, 1), (Reg.IOMMU_IOMMU_CFG, 3), (Reg.YARD_Q_CFG 2, 1025), (Reg.YARD_Q_TAIL 2, 1), (Reg.YARD_REG_BASE 3, 0x100), (Reg.YARD_REG_SIZE 3, 16), (Reg.YARD_REG_ATTR 3, 0xF00)] with job := { queues := [(2, { words := some [0, 64, 0, 0, 0, 8, 16, 0x3000000], wait := .translation, addr := 64 })] } }, by decide⟩,
   ⟨2, 0, 4096, 0, .miss, .miss, { mkS [(Reg.YARD_Q_STATUS 2, 1), (Reg.IOMMU_IOMMU_CFG, 1), (Reg.YARD_Q_CFG 2, 1025), (Reg.YARD_Q_TAIL 2, 1), (Reg.YARD_REG_BASE 3, 0x100), (Reg.YARD_REG_SIZE 3, 16), (Reg.YARD_REG_ATTR 3, 0xF00)] with job := { queues := [(2, { words := some [0, 64, 0, 0, 0, 8, 16, 0x3000000], wait := .translation, addr := 64 })] } }, by decide⟩,
   ⟨2, [0, 64, 0, 0, 0, 8, 16, 0x3000000], 0, 8192, [1, 2, 3, 4, 5, 6, 7, 8], { mkS [(Reg.YARD_Q_STATUS 2, 1), (Reg.IOMMU_IOMMU_CFG, 1), (Reg.YARD_Q_CFG 2, 1025), (Reg.YARD_Q_TAIL 2, 1), (Reg.YARD_REG_BASE 3, 0x100), (Reg.YARD_REG_SIZE 3, 16), (Reg.YARD_REG_ATTR 3, 0xF00)] with host := { fn0 := { ats := true } }, job := { queues := [(2, { words := some [0, 64, 0, 0, 0, 8, 16, 0x3000000], wait := .translation, addr := 64 })] } }, by decide⟩,
   ⟨2, true, .miss, .miss, mkS [(Reg.YARD_Q_STATUS 2, 1), (Reg.YARD_Q_CFG 2, 1025)], by decide⟩,
   ⟨2, .miss, .miss, { mkS [(Reg.YARD_Q_STATUS 2, 3), (Reg.YARD_Q_CFG 2, 1025), (Reg.YARD_Q_TAIL 2, 1), (Reg.YARD_REG_BASE 3, 0x100), (Reg.YARD_REG_SIZE 3, 16), (Reg.YARD_REG_ATTR 3, 0xF00)] with job := { queues := [(2, { words := some [0, 64, 0, 0, 0, 8, 16, 0x3000000], wait := .page, addr := 64 })] } }, by decide⟩,
   ⟨2, [0, 64, 0, 0, 0, 8, 16, 0x3000000], [1, 2, 3, 4, 5, 6, 7, 8], { mkS [(Reg.YARD_Q_STATUS 2, 3), (Reg.YARD_Q_CFG 2, 1025), (Reg.YARD_Q_TAIL 2, 1), (Reg.YARD_REG_BASE 3, 0x100), (Reg.YARD_REG_SIZE 3, 16), (Reg.YARD_REG_ATTR 3, 0xF00)] with job := { queues := [(2, { words := some [0, 64, 0, 0, 0, 8, 16, 0x3000000], wait := .page, addr := 64 })] } }, by decide⟩,
   ⟨2, mkS [(Reg.YARD_Q_STATUS 2, 1), (Reg.YARD_Q_CFG 2, 1025)], by decide⟩,
   ⟨2, { mkS [(Reg.YARD_Q_STATUS 2, 3), (Reg.YARD_Q_CFG 2, 1025), (Reg.YARD_Q_TAIL 2, 1), (Reg.YARD_REG_BASE 3, 0x100), (Reg.YARD_REG_SIZE 3, 16), (Reg.YARD_REG_ATTR 3, 0xF00)] with job := { queues := [(2, { words := some [0, 64, 0, 0, 0, 8, 16, 0x3000000], wait := .page, addr := 64 })] } }, by decide⟩,
   ⟨2, .miss, .miss, mkS [(Reg.YARD_Q_STATUS 2, 1), (Reg.YARD_Q_CFG 2, 1025)], by decide⟩,
   ⟨2, [1, 64, 0, 0, 0, 1, 0, 0], .miss, .miss, { mkS [(Reg.YARD_Q_STATUS 2, 2), (Reg.YARD_Q_CFG 2, 1025), (Reg.YARD_Q_TAIL 2, 1), (Reg.YARD_REG_BASE 3, 0x100), (Reg.YARD_REG_SIZE 3, 16), (Reg.YARD_REG_ATTR 3, 0xF00)] with job := { queues := [(2, { words := some [1, 64, 0, 0, 0, 1, 0, 0], wait := .tile })] } }, by decide⟩,
   ⟨2, [1, 64, 0, 0, 0, 1, 0, 0], List.replicate 131072 0, { mkS [(Reg.YARD_Q_STATUS 2, 2), (Reg.YARD_Q_CFG 2, 1025), (Reg.YARD_Q_TAIL 2, 1), (Reg.YARD_REG_BASE 3, 0x100), (Reg.YARD_REG_SIZE 3, 160), (Reg.YARD_REG_ATTR 3, 0xF01), (Reg.YARD_REG_BASE 4, 0x400), (Reg.YARD_REG_SIZE 4, 16), (Reg.YARD_REG_ATTR 4, 0xF02), (Reg.JOB_PSRC 0, 0x04030100), (Reg.JOB_JOB_CFG, 1), (Reg.JOB_STREAM_ROWS, 4)] with job := { queues := [(2, { words := some [1, 64, 0, 0, 0, 1, 0, 0], wait := .credit })] } }, List.length_replicate, by decide⟩,
   ⟨2, .miss, .miss, mkS [(Reg.YARD_Q_STATUS 2, 1), (Reg.YARD_Q_CFG 2, 1025)], by decide⟩,
   ⟨2, [1, 64, 0, 0, 0, 1, 0, 0], .miss, .miss, { mkS [(Reg.YARD_Q_STATUS 2, 4), (Reg.YARD_Q_CFG 2, 1025), (Reg.YARD_Q_TAIL 2, 1), (Reg.YARD_REG_BASE 3, 0x100), (Reg.YARD_REG_SIZE 3, 16), (Reg.YARD_REG_ATTR 3, 0xF00)] with job := { queues := [(2, { words := some [1, 64, 0, 0, 0, 1, 0, 0], wait := .tile })] } }, by decide⟩,
   ⟨2, [1, 64, 0, 0, 0, 1, 0, 0], List.replicate 131072 0, { mkS [(Reg.YARD_Q_STATUS 2, 4), (Reg.YARD_Q_CFG 2, 1025), (Reg.YARD_Q_TAIL 2, 1), (Reg.YARD_REG_BASE 3, 0x100), (Reg.YARD_REG_SIZE 3, 160), (Reg.YARD_REG_ATTR 3, 0xF01), (Reg.YARD_REG_BASE 4, 0x400), (Reg.YARD_REG_SIZE 4, 16), (Reg.YARD_REG_ATTR 4, 0xF02), (Reg.JOB_PSRC 0, 0x04030100)] with job := { queues := [(2, { words := some [1, 64, 0, 0, 0, 1, 0, 0], wait := .tile })] } }, List.length_replicate, by decide⟩,
   ⟨2, [0, 64, 0, 0, 0, 8, 16, 0x3000000], .miss, .miss, mkS [(Reg.YARD_Q_STATUS 2, 1), (Reg.YARD_Q_CFG 2, 1025)], by decide⟩,
   ⟨2, [1, 64, 0, 0, 0, 0, 0, 0], .miss, .miss, 0x0106, mkS [(Reg.YARD_Q_STATUS 2, 1), (Reg.YARD_Q_CFG 2, 1025), (Reg.YARD_Q_TAIL 2, 1), (Reg.YARD_REG_BASE 3, 0x100), (Reg.YARD_REG_SIZE 3, 16), (Reg.YARD_REG_ATTR 3, 0xF00)], by decide⟩,
   ⟨2, [1, 64, 0, 0, 0, 1, 0, 0], List.replicate 131072 0, mkS [(Reg.YARD_Q_STATUS 2, 1), (Reg.YARD_Q_CFG 2, 1025), (Reg.YARD_Q_TAIL 2, 1), (Reg.YARD_REG_BASE 3, 0x100), (Reg.YARD_REG_SIZE 3, 160), (Reg.YARD_REG_ATTR 3, 0xF01), (Reg.YARD_REG_BASE 4, 0x400), (Reg.YARD_REG_SIZE 4, 16), (Reg.YARD_REG_ATTR 4, 0xF02), (Reg.JOB_PSRC 0, 0x04030100)], List.length_replicate, by decide⟩,
   ⟨2, [1, 2, 3, 4, 5, 6, 7, 8], { mkS [(Reg.YARD_Q_STATUS 2, 1), (Reg.YARD_Q_CFG 2, 1025), (Reg.IOMMU_IOMMU_CFG, 1)] with host := { fn0 := { ats := true } } }, by decide⟩⟩

theorem witness_UncorrectableErrors :
  (∃ (r : DramReq) (fold : Bool) (synd t : Nat) (s : State), s.dramSt (dramChannel r.addr) = 2 ∧
     s.buffered (r.addr / 8 * 8) = false ∧ r.ecc = .uncorrectable fold synd) ∧
  (∃ (r : DramReq) (fold : Bool) (synd t : Nat) (s : State), s.dramSt (dramChannel r.addr) = 3 ∧
     s.buffered (r.addr / 8 * 8) = false ∧ r.ecc = .uncorrectable fold synd) ∧
  (∃ (d : Fin 6) (fold : Bool) (synd : Nat) (word : Fin 8) (s : State), s.dramSt d = 2 ∧
     s.bit (Reg.DRAM_CH_CFG d) 0 = true ∧ s.rdF Reg.THERM_STEPS 1 0 = 0) ∧
  (∃ (d : Fin 6) (fold : Bool) (synd : Nat) (word : Fin 8) (s : State), s.dramSt d = 3 ∧
     s.bit (Reg.DRAM_CH_CFG d) 0 = true ∧ s.rdF Reg.THERM_STEPS 1 0 = 0) :=
  ⟨⟨{ addr := 600, cls := 3, issued := 5, back := 40, line := 0, ecc := .uncorrectable true 9 }, true, 9, 50, mkS [(Reg.STATUS (Reg.pageDRAM 2), 32), (Reg.DRAM_CH_CFG 2, 1)], by decide⟩,
   ⟨{ addr := 600, cls := 3, issued := 5, back := 40, line := 0, ecc := .uncorrectable true 9 }, true, 9, 50, mkS [(Reg.STATUS (Reg.pageDRAM 2), 48), (Reg.DRAM_CH_CFG 2, 1)], by decide⟩,
   ⟨2, true, 9, 3, mkS [(Reg.STATUS (Reg.pageDRAM 2), 32), (Reg.DRAM_CH_CFG 2, 1)], by decide⟩,
   ⟨2, true, 9, 3, mkS [(Reg.STATUS (Reg.pageDRAM 2), 48), (Reg.DRAM_CH_CFG 2, 1)], by decide⟩⟩

theorem witness_ArmRefusals :
  (∃ (src : Req) (s : State), s.cutOff src = false ∧ s.writeGate src = none ∧ s.modState ≠ 4) ∧
  (∃ (src : Req) (s : State), s.cutOff src = false ∧ s.writeGate src = none ∧ s.modState = 4 ∧ s.pwr.stopIn = true) :=
  ⟨⟨.pf0, mkS [], by decide⟩,
   ⟨.pf0, { mkS [(Reg.SYS_MODULE_STATE, 4)] with pwr := { stopIn := true } }, by decide⟩⟩

theorem witness_FramePacking :
    ∃ (b : Nat) (codes : List Nat) (s : State), 1 ≤ b ∧ b ≤ 3 ∧ codes.length = 6144 ∧ (∀ x ∈ codes, x < 2 ^ b) :=
  ⟨3, List.replicate 6144 7, mkS [], by decide, by decide, List.length_replicate, fun x h => List.eq_of_mem_replicate h ▸ by decide⟩

end Sys2Proof.Tests
end

section
/-! The header register ERR_COUNT (R40) and the arbitration of a free lock (R64): the rules of what an error stores,
of a read of an RC header register and of the locks, and the statements of the register pages that they settle. -/

namespace Sys2Proof.Machine

/-! ## The word of ERR_COUNT -/

/-- COUNT goes up by one and stops at 0xFFFF. -/
theorem fld_errCountNext_count (v : Nat) : fld (errCountNext v) 15 0 = min 0xFFFF (fld v 15 0 + 1) := by
  have hlt : fld v 15 0 < 2 ^ 16 := fld_lt v 15 0
  unfold errCountNext
  split
  case isTrue hfull => rw [setB_eq, fld_putFld_other _ _ _ _ _ _ le_rfl (by omega), hfull]; rfl
  case isFalse hfull => rw [fld_putFld_same _ _ _ _ (by omega)]; omega

/-- OVERFLOW is set where the error finds COUNT saturated, and is kept otherwise. -/
theorem bitOf_errCountNext_overflow (v : Nat) :
    bitOf (errCountNext v) 31 = (bitOf v 31 || fld v 15 0 == 0xFFFF) := by
  unfold errCountNext
  split
  case isTrue hfull => simp [show setB v 31 = putB v 31 true from rfl, bitOf_putB, hfull]
  case isFalse hfull => simp [bitOf_putFld_other, hfull]

/-- The bits between COUNT and OVERFLOW stay. -/
theorem fld_errCountNext_reserved (v : Nat) : fld (errCountNext v) 30 16 = fld v 30 16 := by
  unfold errCountNext
  split
  · rw [setB_eq, fld_putFld_other _ _ _ _ _ _ le_rfl (by omega)]
  · rw [fld_putFld_other _ _ _ _ _ _ (by omega) (by omega)]

theorem errCountNext_lt {v : Nat} (h : v < 2 ^ 32) : errCountNext v < 2 ^ 32 := by
  unfold errCountNext
  split
  · exact putB_lt v 31 32 true (by omega) h
  · exact putFld_lt v 15 0 _ 32 (by omega) (by omega) h

/-! ## The record of an error -/

theorem errCount_ne_errInfo (page : Nat) : Reg.ERR_COUNT page ≠ Reg.ERR_INFO page := by
  simp only [Reg.ERR_COUNT, Reg.ERR_INFO]; omega

theorem intStatus_ne_errCount (page : Nat) : Reg.INT_STATUS page ≠ Reg.ERR_COUNT page := by
  simp only [Reg.INT_STATUS, Reg.ERR_COUNT]; omega

theorem intStatus_ne_errInfo (page : Nat) : Reg.INT_STATUS page ≠ Reg.ERR_INFO page := by
  simp only [Reg.INT_STATUS, Reg.ERR_INFO]; omega

section
variable (s : State) (page code off source : Nat)

/-- What every register reads after an error is recorded on a page. -/
theorem State.rd_error (k : Nat) : (s.error page code off source).rd k =
    if k = Reg.INT_STATUS page then setB (s.rd (Reg.INT_STATUS page)) 4
    else if k = Reg.ERR_COUNT page then errCountNext (s.rd (Reg.ERR_COUNT page))
    else if k = Reg.ERR_INFO page ∧ s.rd (Reg.ERR_INFO page) = 0 then
      code % 0x10000 + off % 0x1000 * 0x10000 + source % 16 * 0x10000000
    else s.rd k := by
  have hword : (code % 0x10000 + off % 0x1000 * 0x10000 + source % 16 * 0x10000000) % 2 ^ 32
      = code % 0x10000 + off % 0x1000 * 0x10000 + source % 16 * 0x10000000 := Nat.mod_eq_of_lt (by omega)
  have hcount := Nat.mod_eq_of_lt (errCountNext_lt (s.rd_lt (Reg.ERR_COUNT page)))
  have hne := errCount_ne_errInfo page
  have hne' := intStatus_ne_errCount page
  have hne'' := intStatus_ne_errInfo page
  unfold State.error
  split
  case isTrue hfirst =>
    simp only [State.rd_intSet _ _ _ _ (show 4 < 32 by omega), State.rd_wr, hne, hne', hne'', hcount, hword, hfirst,
      if_false, and_true]
  case isFalse hfirst =>
    simp only [State.rd_intSet _ _ _ _ (show 4 < 32 by omega), State.rd_wr, hne', hcount, hfirst, if_false, and_false]

theorem State.rd_error_errCount :
    (s.error page code off source).rd (Reg.ERR_COUNT page) = errCountNext (s.rd (Reg.ERR_COUNT page)) := by
  rw [State.rd_error, if_neg (intStatus_ne_errCount page).symm, if_pos rfl]

/-- An error reaches the registers of `errorKeys` only. -/
theorem State.regsBut_error : s.regsBut (s.error page code off source) (errorKeys page) := by
  intro k hk
  simp only [errorKeys, List.mem_cons, List.not_mem_nil, or_false, not_or] at hk
  obtain ⟨hinfo, hcount, hint⟩ := hk
  rw [State.rd_error, if_neg hint, if_neg hcount, if_neg (fun h => hinfo h.1)]

/-- Storing a register and setting an interrupt bit reach the registers only. -/
theorem State.wr_eq_with_regs {t : State} (a v : Nat) (h : ∃ r, t = { s with regs := r }) :
    ∃ r, t.wr a v = { s with regs := r } := by
  obtain ⟨r, rfl⟩ := h
  exact ⟨_, rfl⟩

theorem State.intSet_eq_with_regs {t : State} (i : Nat) (h : ∃ r, t = { s with regs := r }) :
    ∃ r, t.intSet page i = { s with regs := r } := s.wr_eq_with_regs _ _ h

/-- So does an error. -/
theorem State.error_eq_with_regs : ∃ r, s.error page code off source = { s with regs := r } := by
  have hself : ∃ r, s = { s with regs := r } := ⟨s.regs, rfl⟩
  unfold State.error
  split
  · exact s.intSet_eq_with_regs page 4 (s.wr_eq_with_regs _ _ (s.wr_eq_with_regs _ _ hself))
  · exact s.intSet_eq_with_regs page 4 (s.wr_eq_with_regs _ _ hself)

theorem State.error_frame : { s.error page code off source with regs := s.regs } = s := by
  obtain ⟨r, hr⟩ := s.error_eq_with_regs page code off source
  rw [hr]

end

/-! ## Reading ERR_COUNT -/

theorem errCount_page (page : Nat) : Reg.ERR_COUNT page / 0x1000 = page := by simp only [Reg.ERR_COUNT]; omega

theorem errCount_offset (page : Nat) : Reg.ERR_COUNT page % 0x1000 = 0x020 := by simp only [Reg.ERR_COUNT]; omega

/-- The 64-bit pairs of R44 stand above the common header. -/
theorem loRows_above_header (p : PageType) : ∀ r ∈ p.loRows, 0x040 ≤ r.1 := by cases p <;> decide

theorem isLo_header {k : Nat} (h : k % 0x1000 < 0x040) : isLo k = false := by
  unfold isLo
  split
  next => rfl
  next p _ _ =>
    refine List.any_eq_false.2 fun r hr => ?_
    have := loRows_above_header p r hr
    simp [show ¬ r.1 ≤ k % 0x1000 by omega]

theorem isHi_header {k : Nat} (hlo : 4 ≤ k % 0x1000) (h : k % 0x1000 < 0x040) : isHi k = false := by
  simp [isHi, isLo_header (show (k - 4) % 0x1000 < 0x040 by omega)]

theorem lockNum_errCount (page : Nat) : lockNum (Reg.ERR_COUNT page) = none := by
  have := errCount_offset page
  exact if_neg (by omega)

theorem noRegion_errCount (page : Nat) : noRegion (Reg.ERR_COUNT page) = false := by
  simp [noRegion, errCount_offset]

section
variable {page : Nat} (hpage : (pageAt page).isSome = true)
include hpage

theorem accOf_errCount : accOf (Reg.ERR_COUNT page) = some .rc := by
  obtain ⟨x, hx⟩ := Option.isSome_iff_exists.1 hpage
  simp [accOf, errCount_page, errCount_offset, hx, headerAcc]

theorem resetVal_errCount : resetVal (Reg.ERR_COUNT page) = 0 := by
  obtain ⟨x, hx⟩ := Option.isSome_iff_exists.1 hpage
  simp [resetVal, resetOf, errCount_page, errCount_offset, hx, headerReset]

theorem State.live_errCount (s : State) : s.live (Reg.ERR_COUNT page) = s.rd (Reg.ERR_COUNT page) := by
  obtain ⟨x, hx⟩ := Option.isSome_iff_exists.1 hpage
  simp [State.live, errCount_page, errCount_offset, hx, State.liveHeader]

/-- A read of ERR_COUNT that FREEZE does not hold answers the register and clears it (R40, R41). -/
theorem State.readReg_errCount (s : State) (src : Req) (hheld : s.heldValue (Reg.ERR_COUNT page) = none) :
    s.readReg src (Reg.ERR_COUNT page) = (s.wr (Reg.ERR_COUNT page) 0).answer [s.rd (Reg.ERR_COUNT page)] := by
  have hoff := errCount_offset page
  have hvis : s.visible (Reg.ERR_COUNT page) = s.rd (Reg.ERR_COUNT page) := by
    simp [State.visible, hheld, accOf_errCount hpage, noRegion_errCount, State.live_errCount hpage]
  have hcap : Reg.ERR_COUNT page ≠ Reg.TIO_CAP_INFO := fun h => by simp [h] at hoff
  have hnow : Reg.ERR_COUNT page ≠ Reg.TIME_NOW_LO := fun h => by simp [h] at hoff
  simp [State.readReg, lockNum_errCount, hcap, hnow, isLo_header (hoff.trans_lt (by decide)),
    isHi_header (by omega) (hoff.trans_lt (by decide)), accOf_errCount hpage, resetVal_errCount hpage, hheld, hvis, hoff]

end

theorem exec_clearOnRead (src : Req) (a : Nat) (s : State) :
    exec (.clearOnRead src a) s = .next (s.busRead src a) := rfl

/-! ## The locks -/

theorem ownerId_ne_zero (r : Req) : ownerId r ≠ 0 := by cases r <;> simp [ownerId]

/-- HELD stands above every owner identity, so that the two may be added. -/
theorem held_or_ownerId (r : Req) : 0x80000000 ||| ownerId r = 0x80000000 + ownerId r := by
  have hlt : ownerId r < 2 ^ 31 := by cases r <;> simp only [ownerId] <;> omega
  exact (Nat.two_pow_add_eq_or_of_lt hlt 1).symm

/-- The state in which a requester has acquired a lock. -/
def State.takeLock (s : State) (r : Req) (n : Nat) : State :=
  { s with locks := smSet (fun _ => 0) s.locks n (ownerId r) }

section
variable (s : State) (r : Req) (n : Nat)

theorem State.lockOwner_takeLock_same : (s.takeLock r n).lockOwner n = ownerId r := smGet_smSet_same _ _ _ _

theorem State.lockOwner_takeLock_ne {m : Nat} (h : m ≠ n) : (s.takeLock r n).lockOwner m = s.lockOwner m :=
  smGet_smSet_ne _ _ _ _ _ h

/-- The read of a free lock acquires it. -/
theorem State.readLock_free (h : s.lockOwner n = 0) : s.readLock r n = (s.takeLock r n, 0) := by
  simp [State.readLock, h, State.takeLock]

/-- The read of a held lock changes nothing. -/
theorem State.readLock_held (h : s.lockOwner n ≠ 0) : (s.readLock r n).1 = s := by simp [State.readLock, h]

/-- Nor do the reads of a held lock by any number of requesters. -/
theorem State.foldl_readLock_held (rs : List Req) (h : s.lockOwner n ≠ 0) :
    rs.foldl (fun s r => (s.readLock r n).1) s = s := by
  induction rs with
  | nil => rfl
  | cons q rs ih => rw [List.foldl_cons, s.readLock_held q n h, ih]

/-- Of requesters that read a free lock one after another, the first acquires it. -/
theorem State.foldl_readLock_free (rs : List Req) (h : s.lockOwner n = 0) :
    (r :: rs).foldl (fun s r => (s.readLock r n).1) s = s.takeLock r n := by
  rw [List.foldl_cons, s.readLock_free r n h]
  exact (s.takeLock r n).foldl_readLock_held n rs (by rw [s.lockOwner_takeLock_same]; exact ownerId_ne_zero r)

end

/-- Every requester has a place in the order of R64. -/
theorem mem_lockOrder (r : Req) : r ∈ lockOrder := by
  cases r with
  | crew i => fin_cases i <;> decide
  | _ => decide

/-- The first element of a list that satisfies a predicate is the one of least index. -/
theorem find?_eq_some_of_idxOf_le {α : Type} [DecidableEq α] {p : α → Bool} {w : α} {l : List α} (hw : p w = true)
    (hmem : w ∈ l) (hle : ∀ r, p r = true → l.idxOf w ≤ l.idxOf r) : l.find? p = some w := by
  induction l with
  | nil => simp at hmem
  | cons a l ih =>
    by_cases ha : p a = true
    · have hidx := hle a ha
      rw [List.idxOf_cons_self, Nat.le_zero, List.idxOf_eq_zero_iff_head_eq (by simp)] at hidx
      rw [List.find?_cons_of_pos ha]
      exact congrArg some hidx
    · have hne : ∀ r, p r = true → a ≠ r := fun r hr h => ha (h ▸ hr)
      rw [List.find?_cons_of_neg ha]
      refine ih ((List.mem_cons.1 hmem).resolve_left (hne w hw).symm) fun r hr => ?_
      simpa [List.idxOf_cons_ne _ (hne w hw), List.idxOf_cons_ne _ (hne r hr)] using hle r hr

/-- The readers in reach, in the order of R64, begin with the one that stands first in that order. -/
theorem lockOrder_filter_eq_cons {s : State} {w : Req} {readers : List Req}
    (hreach : ∀ r ∈ readers, s.cutOff r = false) (hw : w ∈ readers)
    (hfirst : ∀ r ∈ readers, lockOrder.idxOf w ≤ lockOrder.idxOf r) :
    ∃ rest, lockOrder.filter (fun r => readers.contains r && !s.cutOff r) = w :: rest := by
  refine List.head?_eq_some_iff.1 ?_
  rw [List.head?_filter]
  refine find?_eq_some_of_idxOf_le (by simp [hw, hreach w hw]) (mem_lockOrder w) fun r hr => hfirst r ?_
  simp only [Bool.and_eq_true, List.contains_iff_mem] at hr
  exact hr.1

theorem exec_lockRead (n : Fin 64) (readers : List Req) (s : State) :
    exec (.lockRead n readers) s = execLockRead n readers s := rfl

/-- LOCK_READ of a free lock by requesters in reach: the first of them acquires it, and each of the others reads HELD
with the winner (R63, R64). -/
theorem exec_lockRead_free {s : State} {n : Fin 64} {w : Req} {readers : List Req} (hfree : s.lockOwner n = 0)
    (hreach : ∀ r ∈ readers, s.cutOff r = false) (hw : w ∈ readers)
    (hfirst : ∀ r ∈ readers, lockOrder.idxOf w ≤ lockOrder.idxOf r) :
    exec (.lockRead n readers) s = .next ((s.takeLock w n).answer
      (readers.map (fun r => if r = w then 0 else 0x80000000 ||| ownerId w))) := by
  obtain ⟨rest, hrest⟩ := lockOrder_filter_eq_cons hreach hw hfirst
  have hreply : ∀ r ∈ readers,
      (if s.cutOff r then 0xFFFFFFFF
        else if s.lockOwner n = 0 then
          (if (w :: rest).head? = some r then 0 else 0x80000000 + (s.takeLock w n).lockOwner n)
        else (s.readLock r n).2) = if r = w then 0 else 0x80000000 ||| ownerId w := fun r hr => by
    simp [hreach r hr, hfree, s.lockOwner_takeLock_same, held_or_ownerId, eq_comm]
  simp only [exec_lockRead, execLockRead, hrest, s.foldl_readLock_free w n rest hfree, List.map_congr_left hreply]

/-! ## The obligations -/

/-- Settles O9: the three fields of the word that an error stores, and the read of an RC header register. -/
theorem errorCounts : Obligations.ErrorCounts := by
  unfold Obligations.ErrorCounts
  refine ⟨fun page code off source s => ⟨_, rfl, ?_, ?_, ?_, s.regsBut_error page code off source,
    s.error_frame page code off source⟩, fun src a page s hup hspot hpage hheld => ?_⟩
  · simp only [State.rdF, State.rd_error_errCount, fld_errCountNext_count]
  · simp only [State.bit, State.rdF, State.rd_error_errCount, bitOf_errCountNext_overflow]
  · simp only [State.rdF, State.rd_error_errCount, fld_errCountNext_reserved]
  · have hread : exec (.clearOnRead src a) s = .next ((s.wr (Reg.ERR_COUNT page) 0).answer [s.rd (Reg.ERR_COUNT page)]) := by
      simp [exec_clearOnRead, State.busRead, hup, hspot, s.readReg_errCount hpage src hheld]
    refine ⟨_, hread, rfl, s.rd_wr_same _ 0, fun k hk => ?_, rfl⟩
    exact s.rd_wr_ne _ 0 k (fun h => hk (List.mem_singleton.2 h))

/-- Settles O11: the readers in the order of R64 begin with the winner, and once it has the lock no later read of
the clock changes the state. -/
theorem lockArbitration : Obligations.LockArbitration := by
  unfold Obligations.LockArbitration
  refine ⟨rfl, fun n w readers s hfree hreach hw hfirst =>
    ⟨_, exec_lockRead_free hfree hreach hw hfirst, ?_, rfl, ?_, rfl⟩⟩
  · exact s.lockOwner_takeLock_same w n
  · exact fun m hm => s.lockOwner_takeLock_ne w n hm

end Sys2Proof.Machine
end

section
/-! SUPPORT. The on-time of a lamp period: its division among the sub-pulses (R314) and the sum of their widths (R313). -/

namespace Sys2Proof.Machine

/-- Shares of q each, with one more to those numbered below r, of which there are min k r. -/
theorem sum_shares (q r k : Nat) :
    ((List.range k).map (fun j => q + if j < r then 1 else 0)).sum = k * q + min k r := by
  induction k with
  | zero => simp
  | succ k ih =>
    have hlast : min k r + (if k < r then 1 else 0) = min (k + 1) r := by split <;> omega
    rw [List.range_succ, List.map_append, List.sum_append_nat, ih, ← hlast, Nat.succ_mul, List.map_singleton,
      List.sum_singleton]
    omega

/-- The first t mod k of k shares are one larger than the rest, and nothing of t is lost. -/
theorem sum_shares_div_mod (t : Nat) {k : Nat} (hk : 0 < k) :
    ((List.range k).map (fun j => t / k + if j < t % k then 1 else 0)).sum = t := by
  rw [sum_shares, Nat.min_eq_right (Nat.mod_lt t hk).le, Nat.div_add_mod]

theorem pow2Floor_pos (n : Nat) : 0 < pow2Floor n := by
  unfold pow2Floor
  split_ifs <;> decide

/-- The on-time T of a period of p clocks (R313). -/
def onTime (p duty : Nat) : Nat := (p * duty + 32767) / 65535

@[simp] theorem onTime_zero (p : Nat) : onTime p 0 = 0 := by
  unfold onTime
  omega

@[simp] theorem onTime_full (p : Nat) : onTime p 65535 = p := by
  unfold onTime
  omega

/-- The number K of sub-pulses of an on-time t (R314). -/
def subPulses (m t : Nat) : Nat := if m = 0 then 1 else pow2Floor (min (2 ^ m) (t / 200))

theorem subPulses_pos (m t : Nat) : 0 < subPulses m t := by
  unfold subPulses
  split
  · exact Nat.one_pos
  · exact pow2Floor_pos _

section
variable {p duty : Nat} (m : Nat)

theorem lampPulses_of_off (h : onTime p duty = 0) : lampPulses p duty m = [] := if_pos h

theorem lampPulses_of_on (h : onTime p duty ≠ 0) :
    lampPulses p duty m = (List.range (subPulses m (onTime p duty))).map (fun j =>
      (p * brev m j / 2 ^ m, onTime p duty / subPulses m (onTime p duty) +
        (if j < onTime p duty % subPulses m (onTime p duty) then 1 else 0))) := if_neg h

/-- The widths of the pulses of a period sum to its on-time, for every spread. -/
theorem sum_lampPulses_width : ((lampPulses p duty m).map (fun e => e.2)).sum = onTime p duty := by
  by_cases h : onTime p duty = 0
  · simp [lampPulses_of_off m h, h]
  · rw [lampPulses_of_on m h, List.map_map]
    exact sum_shares_div_mod _ (subPulses_pos m _)

/-- Without spread the only pulse is the whole on-time, from the start of the period. -/
theorem lampPulses_unspread (h : onTime p duty ≠ 0) : lampPulses p duty 0 = [(0, onTime p duty)] := by
  simp [lampPulses_of_on 0 h, subPulses, brev, Nat.mod_one]

end

/-- Settles O56: the sub-pulses share out the on-time by quotient and remainder; a duty of 0 or of 65,535 makes it 0
or the period, and without spread there is one sub-pulse. -/
theorem lampOnTime : Obligations.LampOnTime := by
  unfold Obligations.LampOnTime
  refine ⟨fun p duty m _ => sum_lampPulses_width m, fun p m => lampPulses_of_off m (onTime_zero p),
    fun p hp => ?_, fun p duty hon => lampPulses_unspread hon.ne'⟩
  have hfull := onTime_full p
  have h := lampPulses_unspread (p := p) (duty := 65535) (by omega)
  rwa [hfull] at h

end Sys2Proof.Machine
end

section
/-! The DRAM channels: the address map (R410), and what an uncorrectable error of a read or of the scrub does to its
channel (R424). -/

namespace Sys2Proof.Machine

/-! ## The address map -/

theorem dramChannel_lt (a : Nat) : dramChannel a < 6 := Nat.mod_lt _ (by decide)

theorem jobAddr_dramChannel_dramAddr (a : Nat) : jobAddr (dramChannel a) (dramAddr a) = a := by
  unfold jobAddr dramChannel dramAddr
  omega

theorem dramAddr_jobAddr {d : Nat} (hd : d < 6) (ca : Nat) : dramAddr (jobAddr d ca) = ca := by
  unfold dramAddr jobAddr
  omega

/-- A granule lies whole on one channel. -/
theorem dramChannel_jobAddr_add {d ca i : Nat} (hd : d < 6) (hi : ca % 256 + i < 256) :
    dramChannel (jobAddr d ca + i) = d := by
  unfold dramChannel jobAddr
  omega

theorem dramChannel_jobAddr {d : Nat} (hd : d < 6) (ca : Nat) : dramChannel (jobAddr d ca) = d := by
  simpa only [Nat.add_zero] using dramChannel_jobAddr_add (i := 0) hd (Nat.mod_lt ca (by decide))

/-- A 64-bit word lies on the channel of each of its bytes. -/
theorem dramChannel_word (a : Nat) : dramChannel (a / 8 * 8) = dramChannel a := by
  unfold dramChannel
  omega

theorem dramChannel_granule (g : Nat) : dramChannel (g * 256) = g % 6 := by
  unfold dramChannel
  omega

/-- Among six granules in a row is one of each channel. -/
theorem exists_granule_dramChannel (g : Nat) {d : Nat} (hd : d < 6) : ∃ i < 6, dramChannel ((g + i) * 256) = d := by
  refine ⟨(d + 6 - g % 6) % 6, by omega, ?_⟩
  rw [dramChannel_granule]
  omega

/-- Settles O57: the map and its inverse by division, and a channel's granule among the first six of a tile line. -/
theorem addressInterleave : Obligations.AddressInterleave := by
  unfold Obligations.AddressInterleave
  refine ⟨fun a => ⟨rfl, rfl⟩, jobAddr_dramChannel_dramAddr,
    fun d ca hd => ⟨rfl, dramChannel_jobAddr hd ca, dramAddr_jobAddr hd ca⟩,
    fun ca => ⟨rfl, rfl, rfl, rfl⟩, fun line d hd => ?_⟩
  obtain ⟨i, hi, hchannel⟩ := exists_granule_dramChannel (line * 8) hd
  exact ⟨_, by omega, by omega, hchannel⟩

/-! ## The bits and the state code of a page -/

section
variable (s : State)

theorem State.bit_wrB (a i k j : Nat) (b : Bool) (hi : i < 32) :
    (s.wrB a i b).bit k j = if k = a ∧ j = i then b else s.bit k j := by
  unfold State.bit
  rw [s.rd_wrB a i k b hi]
  by_cases hk : k = a
  · simp [hk, bitOf_putB]
  · simp [hk]

theorem State.bit_intSet (p i k j : Nat) (hi : i < 32) :
    (s.intSet p i).bit k j = if k = Reg.INT_STATUS p ∧ j = i then true else s.bit k j := s.bit_wrB _ i k j true hi

/-- An entry of the log reaches no page but TALLY. -/
theorem State.pagesBut_tally (code source inst sev arg : Nat) :
    s.pagesBut (s.tally code source inst sev arg) [Reg.pageTALLY] := by
  intro k hk
  have hpage : k / 0x1000 ≠ Reg.pageTALLY := fun h => hk (List.mem_singleton.2 h)
  have hdropped : k ≠ Reg.TALLY_DROPPED := by rintro rfl; exact hpage rfl
  have hint : k ≠ Reg.INT_STATUS Reg.pageTALLY := by rintro rfl; exact hpage rfl
  unfold State.tally State.tallyAt
  split_ifs
  · rfl
  · rfl
  · calc ((s.count Reg.TALLY_DROPPED).intSet Reg.pageTALLY 9).rd k
        = (s.count Reg.TALLY_DROPPED).rd k := by rw [State.rd_intSet _ _ _ _ (by decide), if_neg hint]
      _ = s.rd k := by rw [State.rd_count, if_neg hdropped]

theorem State.tally_dram (code source inst sev arg : Nat) : (s.tally code source inst sev arg).dram = s.dram := by
  unfold State.tally State.tallyAt
  split_ifs <;> rfl

end

/-! ## The state of a channel -/

/-- The registers of a channel in which an uncorrectable error shows (R424, R428). -/
def channelKeys (d : Nat) : List Nat :=
  [Reg.STATUS (Reg.pageDRAM d), Reg.INT_STATUS (Reg.pageDRAM d), Reg.DRAM_CH_STATUS d]

theorem channelKeys_page {d k : Nat} (hk : k ∈ channelKeys d) : k / 0x1000 = Reg.pageDRAM d := by
  simp only [channelKeys, List.mem_cons, List.not_mem_nil, or_false, Reg.STATUS, Reg.INT_STATUS,
    Reg.DRAM_CH_STATUS] at hk
  simp only [Reg.pageDRAM] at hk ⊢
  omega

theorem channelKeys_offset {d k : Nat} (hk : k ∈ channelKeys d) :
    k % 0x1000 = 0x00C ∨ k % 0x1000 = 0x010 ∨ k % 0x1000 = 0x0B0 := by
  simp only [channelKeys, List.mem_cons, List.not_mem_nil, or_false, Reg.STATUS, Reg.INT_STATUS,
    Reg.DRAM_CH_STATUS, Reg.pageDRAM] at hk
  omega

theorem chStatus_ne_intStatus (d : Nat) : Reg.DRAM_CH_STATUS d ≠ Reg.INT_STATUS (Reg.pageDRAM d) := by
  simp only [Reg.DRAM_CH_STATUS, Reg.INT_STATUS, Reg.pageDRAM]
  omega

section
variable (s : State) {d : Nat}

/-- What reaches one other page alone reaches none of them. -/
theorem State.rd_channelKeys_of_pagesBut {s t : State} {p : Nat} (h : s.pagesBut t [p]) (hp : Reg.pageDRAM d ≠ p) :
    ∀ k ∈ channelKeys d, t.rd k = s.rd k :=
  fun k hk => h k (fun hmem => hp ((channelKeys_page hk).symm.trans (List.mem_singleton.1 hmem)))

theorem State.rd_tally_channelKeys (code source inst sev arg : Nat) (hd : d < 6) :
    ∀ k ∈ channelKeys d, (s.tally code source inst sev arg).rd k = s.rd k :=
  State.rd_channelKeys_of_pagesBut (s.pagesBut_tally code source inst sev arg) (by
    simp only [Reg.pageDRAM, Reg.pageTALLY]
    omega)

theorem State.dramSt_congr {s u : State} (h : u.rd (Reg.STATUS (Reg.pageDRAM d)) = s.rd (Reg.STATUS (Reg.pageDRAM d))) :
    u.dramSt d = s.dramSt d := congrArg (fun v => fld v 7 4) h

theorem State.rd_eq_of_regs_eq {s u : State} (h : u.regs = s.regs) (k : Nat) : u.rd k = s.rd k := by
  unfold State.rd
  rw [h]

theorem State.dramSt_wr_ne {a : Nat} (v : Nat) (h : a ≠ Reg.STATUS (Reg.pageDRAM d)) :
    (s.wr a v).dramSt d = s.dramSt d :=
  State.dramSt_congr (s.rd_wr_ne a v _ h.symm)

/-- A write at another offset than that of STATUS. -/
theorem State.dramSt_wr {a : Nat} (v : Nat) (h : a % 0x1000 ≠ 0x00C) : (s.wr a v).dramSt d = s.dramSt d := by
  refine s.dramSt_wr_ne v fun ha => h ?_
  rw [ha, Reg.STATUS]
  omega

/-- A bit outside [7:4] of any register leaves the state code alone. -/
theorem State.dramSt_wrB (a i : Nat) (b : Bool) (h : i < 4 ∨ 7 < i) (hi : i < 32) :
    (s.wrB a i b).dramSt d = s.dramSt d := by
  by_cases ha : a = Reg.STATUS (Reg.pageDRAM d)
  · have hrd := s.rd_wrB a i a b hi
    rw [if_pos rfl] at hrd
    subst ha
    unfold State.dramSt State.stCode State.rdF
    rw [hrd, fld_putB_other _ _ _ _ _ (by omega)]
  · exact s.dramSt_wr_ne _ ha

theorem State.dramSt_intSet (p i : Nat) (h : i < 4 ∨ 7 < i) (hi : i < 32) : (s.intSet p i).dramSt d = s.dramSt d :=
  s.dramSt_wrB _ i true h hi

theorem State.dramSt_setStCode (v : Nat) : (s.setStCode (Reg.pageDRAM d) v).dramSt d = v % 16 :=
  s.rdF_wrF_same _ 7 4 v (by decide) (by decide)

theorem State.dramSt_fault (p : Nat) (b : Bool) : (s.fault p b).dramSt d = s.dramSt d := by
  unfold State.fault
  split_ifs
  · rw [State.dramSt_intSet _ _ _ (by decide) (by decide), s.dramSt_wrB _ _ _ (by decide) (by decide)]
  · exact s.dramSt_wrB _ _ _ (by decide) (by decide)

theorem State.dramSt_errHw (p code : Nat) : (s.errHw p code).dramSt d = s.dramSt d := by
  refine State.dramSt_congr (s.regsBut_error p code 0 0 _ ?_)
  simp only [errorKeys, List.mem_cons, List.not_mem_nil, or_false, Reg.STATUS, Reg.ERR_INFO, Reg.ERR_COUNT,
    Reg.INT_STATUS, Reg.pageDRAM]
  omega

theorem State.dramSt_tally (code source inst sev arg : Nat) (hd : d < 6) :
    (s.tally code source inst sev arg).dramSt d = s.dramSt d :=
  State.dramSt_congr (s.rd_tally_channelKeys code source inst sev arg hd _ List.mem_cons_self)

end

/-! ## What an uncorrectable error does to its channel (R424) -/

/-- From s to u the channel has taken an uncorrectable error: it has gone from GOOD to DEGRADED with
INT_STATUS.DEGRADED, or while DEGRADED a stop is scheduled. -/
def State.TakesError (s u : State) (d : Nat) : Prop :=
  (s.dramSt d = 2 → u.dramSt d = 3 ∧ u.bit (Reg.INT_STATUS (Reg.pageDRAM d)) 16 = true) ∧
  (s.dramSt d = 3 → u.dramSt d = 3 ∧ u.bit (Reg.DRAM_CH_STATUS d) 1 = true ∧
    u.bit (Reg.INT_STATUS (Reg.pageDRAM d)) 17 = true ∧ u.dram.stop = true)

section
variable {s t u : State} {d : Nat}

/-- What comes before the error may change anything but the channel's state. -/
theorem State.TakesError.of_dramSt_eq (h : t.TakesError u d) (hst : t.dramSt d = s.dramSt d) : s.TakesError u d := by
  unfold State.TakesError at h ⊢
  rwa [hst] at h

/-- What comes after it may change anything but the registers of `channelKeys` and the records of the channels. -/
theorem State.TakesError.of_rd_eq (h : s.TakesError t d) (hkeys : ∀ k ∈ channelKeys d, u.rd k = t.rd k)
    (hdram : u.dram = t.dram) : s.TakesError u d := by
  simp only [channelKeys, List.forall_mem_cons, List.not_mem_nil, false_imp_iff, implies_true, and_true] at hkeys
  obtain ⟨hstatus, hint, hch⟩ := hkeys
  unfold State.TakesError State.bit at h ⊢
  rwa [State.dramSt_congr hstatus, hint, hch, hdram]

variable (s)

/-- The state before a scheduled stop is logged. -/
def State.stopFlags (s : State) (d : Nat) : State :=
  { (s.wrB (Reg.DRAM_CH_STATUS d) 1 true).intSet (Reg.pageDRAM d) 17 with dram := { s.dram with stop := true } }

theorem State.stopFlags_takesError (hst : s.dramSt d = 3) : s.TakesError (s.stopFlags d) d := by
  refine ⟨fun h => by omega, fun _ => ⟨?_, ?_, ?_, rfl⟩⟩
  · calc (s.stopFlags d).dramSt d
        = ((s.wrB (Reg.DRAM_CH_STATUS d) 1 true).intSet (Reg.pageDRAM d) 17).dramSt d := rfl
      _ = 3 := by
        rw [State.dramSt_intSet _ _ _ (by decide) (by decide), s.dramSt_wrB _ _ _ (by decide) (by decide), hst]
  · calc (s.stopFlags d).bit (Reg.DRAM_CH_STATUS d) 1
        = ((s.wrB (Reg.DRAM_CH_STATUS d) 1 true).intSet (Reg.pageDRAM d) 17).bit (Reg.DRAM_CH_STATUS d) 1 := rfl
      _ = true := by
        rw [State.bit_intSet _ _ _ _ _ (by decide), if_neg (fun h => chStatus_ne_intStatus d h.1),
          s.bit_wrB_same _ _ _ (by decide)]
  · exact (s.wrB (Reg.DRAM_CH_STATUS d) 1 true).bit_wrB_same _ 17 true (by decide)

theorem State.scheduleStop_takesError (hd : d < 6) (hst : s.dramSt d = 3) : s.TakesError (s.scheduleStop d) d := by
  refine (s.stopFlags_takesError hst).of_rd_eq (State.rd_tally_channelKeys _ 0x0032 0x40 d 3 0 hd) ?_
  simp only [State.scheduleStop, State.stopFlags, State.tally_dram, State.intSet_dram, State.wrB_dram]

/-- The state before a degradation is logged. -/
def State.degradedFlags (s : State) (d : Nat) : State :=
  (((s.setStCode (Reg.pageDRAM d) 3).degraded (Reg.pageDRAM d) true).intSet (Reg.pageDRAM d) 16).wrB
    (Reg.DRAM_CH_STATUS d) 2 true

theorem State.degradedFlags_takesError (hst : s.dramSt d = 2) : s.TakesError (s.degradedFlags d) d := by
  refine ⟨fun _ => ⟨?_, ?_⟩, fun h => by omega⟩
  · unfold State.degradedFlags State.degraded
    rw [State.dramSt_wrB _ _ _ _ (by decide) (by decide), State.dramSt_intSet _ _ _ (by decide) (by decide),
      State.dramSt_wrB _ _ _ _ (by decide) (by decide), s.dramSt_setStCode]
  · unfold State.degradedFlags
    rw [State.bit_wrB _ _ _ _ _ _ (by decide), if_neg (fun h => chStatus_ne_intStatus d h.1.symm)]
    exact State.bit_wrB_same _ _ 16 true (by decide)

/-- The state of a channel whose run of good retrainings has ended. -/
def State.passesEnded (s : State) (d : Nat) : State :=
  (s.setDramCh d { s.dramCh d with passes := 0 }).wrF (Reg.DRAM_TRAIN_STATUS d) 23 20 0

theorem State.dramSt_passesEnded : (s.passesEnded d).dramSt d = s.dramSt d := by
  refine State.dramSt_wr _ _ ?_
  rw [Reg.DRAM_TRAIN_STATUS]
  omega

theorem State.degradeDram_eq : s.degradeDram d =
    if (s.passesEnded d).dramSt d = 2 then ((s.passesEnded d).degradedFlags d).tally 0x0031 0x40 d 1 0
    else if (s.passesEnded d).dramSt d = 3 then (s.passesEnded d).scheduleStop d
    else s.passesEnded d := rfl

theorem State.degradeDram_takesError (hd : d < 6) : s.TakesError (s.degradeDram d) d := by
  refine State.TakesError.of_dramSt_eq (t := s.passesEnded d) ?_ s.dramSt_passesEnded
  rw [s.degradeDram_eq]
  split_ifs with hgood hdegraded
  · exact ((s.passesEnded d).degradedFlags_takesError hgood).of_rd_eq
      (State.rd_tally_channelKeys _ 0x0031 0x40 d 1 0 hd) (State.tally_dram _ _ _ _ _ _)
  · exact (s.passesEnded d).scheduleStop_takesError hd hdegraded
  · exact ⟨fun h => absurd h hgood, fun h => absurd h hdegraded⟩

/-! ### The record of the error -/

theorem State.dramSt_errDetail (a kind cls lane synd : Nat) (scrub : Bool) :
    (s.errDetail d a kind cls lane synd scrub).dramSt d = s.dramSt d := by
  unfold State.errDetail State.wr64
  rw [State.dramSt_wr, State.dramSt_wr, State.dramSt_wr] <;>
    simp only [Reg.DRAM_ERR_DETAIL, Reg.DRAM_ERR_ADDR_LO, Reg.DRAM_ERR_ADDR_HI] <;> omega

/-- The state in which a channel has recorded an uncorrectable read (R422). -/
def State.uncorrectableRecorded (s : State) (d a cls synd : Nat) (scrub fold : Bool) : State :=
  let p := Reg.pageDRAM d
  let s := (s.count (Reg.DRAM_UE_COUNT d)).errDetail d a (if fold then 2 else 1) cls 0 synd scrub
  (((s.fault p true).errHw p 0x0101).intSet p 9).tally 0x0030 0x40 d 2 (a / 32 % 2 ^ 32)

theorem State.dramSt_uncorrectableRecorded (hd : d < 6) (a cls synd : Nat) (scrub fold : Bool) :
    (s.uncorrectableRecorded d a cls synd scrub fold).dramSt d = s.dramSt d := by
  have hcount : Reg.DRAM_UE_COUNT d % 0x1000 ≠ 0x00C := by
    rw [Reg.DRAM_UE_COUNT]
    omega
  unfold State.uncorrectableRecorded
  dsimp only
  rw [State.dramSt_tally _ _ _ _ _ _ hd, State.dramSt_intSet _ _ _ (by decide) (by decide),
    State.dramSt_errHw, State.dramSt_fault, State.dramSt_errDetail]
  exact s.dramSt_wr _ hcount

theorem State.dramSt_setDram (x : DramUnit) : { s with dram := x }.dramSt d = s.dramSt d := rfl

/-- An uncorrectable outcome is recorded, it changes what is known of the poisoned words, and the channel degrades. -/
theorem State.dramOutcome_uncorrectable (a cls synd : Nat) (scrub fold : Bool) :
    ∃ x, s.dramOutcome a cls scrub (.uncorrectable fold synd) =
      { s.uncorrectableRecorded (dramChannel a) a cls synd scrub fold with dram := x }.degradeDram (dramChannel a) :=
  ⟨_, rfl⟩

/-- An uncorrectable outcome of a read is an uncorrectable error of the channel of its address. -/
theorem State.dramOutcome_takesError (a cls synd : Nat) (scrub fold : Bool) :
    s.TakesError (s.dramOutcome a cls scrub (.uncorrectable fold synd)) (dramChannel a) := by
  obtain ⟨x, hx⟩ := s.dramOutcome_uncorrectable a cls synd scrub fold
  rw [hx]
  refine (State.degradeDram_takesError _ (dramChannel_lt a)).of_dramSt_eq ?_
  rw [State.dramSt_setDram, s.dramSt_uncorrectableRecorded (dramChannel_lt a)]

end

/-! ## What a read and a scrub read do beside it -/

section
variable (s : State) (d : Nat)

theorem State.setDramCh_regs (x : DramCh) : (s.setDramCh d x).regs = s.regs := rfl

theorem State.dramCmds_regs (l : List (Nat × Nat)) : (s.dramCmds d l).regs = s.regs := rfl

theorem State.closeRows_regs (p : Nat × Nat × Option Nat → Bool) : (s.closeRows d p).regs = s.regs := rfl

/-- A burst reaches no register. -/
theorem State.burst_regs (cls ca : Nat) (write : Bool) : (s.burst d cls ca write).regs = s.regs := by
  simp only [State.burst, apply_ite State.regs, State.dramCmds_regs, State.setDramCh_regs, State.closeRows_regs,
    ite_self]

/-- From s to t only the JOB page has changed, and nothing of the DRAM channels. -/
def State.JobPageOnly (s t : State) : Prop := s.pagesBut t [Reg.pageJOB] ∧ t.dram = s.dram

variable {s} {t u : State}

theorem State.JobPageOnly.refl (s : State) : s.JobPageOnly s := ⟨fun _ _ => rfl, rfl⟩

theorem State.JobPageOnly.trans (h : s.JobPageOnly t) (h' : t.JobPageOnly u) : s.JobPageOnly u :=
  ⟨fun k hk => (h'.1 k hk).trans (h.1 k hk), h'.2.trans h.2⟩

theorem State.JobPageOnly.wr (h : s.JobPageOnly t) {a : Nat} (v : Nat) (ha : a / 0x1000 = Reg.pageJOB) :
    s.JobPageOnly (t.wr a v) := by
  refine h.trans ⟨fun k hk => t.rd_wr_ne a v k ?_, rfl⟩
  rintro rfl
  exact hk (List.mem_singleton.2 ha)

theorem State.JobPageOnly.setJob (h : s.JobPageOnly t) (j : JobUnit) : s.JobPageOnly { t with job := j } :=
  h.trans ⟨fun _ _ => rfl, rfl⟩

theorem State.JobPageOnly.advanceWrite (h : s.JobPageOnly t) (n : Nat) : s.JobPageOnly (t.advanceWrite n) := by
  induction n generalizing t with
  | zero => exact h
  | succ n ih =>
    unfold State.advanceWrite
    dsimp only
    split
    · exact ih (h.wr _ rfl)
    · exact h

theorem State.JobPageOnly.showCredits (h : s.JobPageOnly t) : s.JobPageOnly t.showCredits := by
  have hwr : s.JobPageOnly (t.wr Reg.JOB_STREAM_CREDITS t.credits) := h.wr _ rfl
  unfold State.showCredits State.intSet State.wrB
  dsimp only
  split_ifs
  · exact (hwr.setJob _).wr _ rfl
  · exact hwr.setJob _
  · exact hwr.wr _ rfl
  · exact hwr

theorem State.JobPageOnly.rowsLose (h : s.JobPageOnly t) : s.JobPageOnly t.rowsLose := by
  unfold State.rowsLose State.rescanRows
  dsimp only
  split_ifs
  · exact (((h.wr _ rfl).wr _ rfl).advanceWrite _).showCredits
  · exact h

theorem State.JobPageOnly.tilesLose (h : s.JobPageOnly t) (a : Nat) : s.JobPageOnly (t.tilesLose a) :=
  (h.setJob _).rowsLose
end

/-! ## A read -/

section
variable (s : State) (d : Nat) (r : DramReq)

theorem eligible_singleton : eligible [r] = [r] := by simp [eligible]

theorem keyBefore_irrefl (l : List Nat) : keyBefore l l = false := by
  induction l with
  | nil => rfl
  | cons a l ih => simpa [keyBefore] using ih

theorem State.dramCh_setDramCh (x : DramCh) (e : Nat) :
    (s.setDramCh d x).dramCh e = if e = d then x else s.dramCh e := smGet_smSet _ _ _ _ _

/-- A change of a channel that keeps its buffered writes. -/
theorem State.buffered_setDramCh {x : DramCh} (h : x.writes = (s.dramCh d).writes) :
    (s.setDramCh d x).buffered = s.buffered := by
  funext a
  unfold State.buffered
  rw [s.dramCh_setDramCh]
  split_ifs with ha
  · rw [h, ha]
  · rfl

/-- A channel whose round of classes 2 to 4 stands at a share (R412). -/
def State.setShare (s : State) (d : Nat) (share : SMap Nat) : State :=
  s.setDramCh d { s.dramCh d with share := share }

theorem State.setShare_buffered (share : SMap Nat) : (s.setShare d share).buffered = s.buffered :=
  s.buffered_setDramCh d rfl

/-- One more burst of a class in the round. -/
def State.countShare (s : State) (d c : Nat) : State :=
  s.setShare d (smSet (fun _ => 0) (s.dramCh d).share c (smGet (fun _ => 0) (s.dramCh d).share c + 1))

/-- Of a single class that one is chosen; only the channel's round moves on. -/
theorem State.shareClass_singleton (c : Nat) :
    ∃ u, s.shareClass d [c] = (u, c) ∧ u.regs = s.regs ∧ u.buffered = s.buffered := by
  by_cases hc : smGet (fun _ => 0) (s.dramCh d).share c < s.classWeight d c
  · refine ⟨s.countShare d c, ?_, rfl, s.setShare_buffered d _⟩
    simp [State.shareClass, hc, State.countShare, State.setShare]
  · refine ⟨(s.setShare d []).countShare d c, ?_, rfl, ?_⟩
    · simp [State.shareClass, hc, State.countShare, State.setShare]
    · exact (State.setShare_buffered _ d _).trans (s.setShare_buffered d [])

/-- A single request of classes 2 to 4 is served next; its class has been chosen unless it has aged. -/
theorem State.nextRead_singleton_shared (hc : r.cls ∈ [2, 3, 4]) : s.nextRead d [r] =
    if r.issued + 16000 ≤ s.frc then (s, some r) else ((s.shareClass d [r.cls.val]).1, some r) := by
  have hchosen : ∀ c, (s.shareClass d [c]).2 = c := fun c => by
    obtain ⟨u, hu, -⟩ := s.shareClass_singleton d c
    rw [hu]
  simp only [List.mem_cons, List.not_mem_nil, or_false] at hc
  split_ifs with haged
  · rcases hc with hc | hc | hc <;> simp [State.nextRead, eligible_singleton, hc, haged]
  · rcases hc with hc | hc | hc <;> simp [State.nextRead, eligible_singleton, keyBefore_irrefl, hc, haged, hchosen]

/-- A single request of the other classes is served next. -/
theorem State.nextRead_singleton_unshared (hc : r.cls ∉ [2, 3, 4]) : s.nextRead d [r] = (s, some r) := by
  have hclass : r.cls = 0 ∨ r.cls = 1 ∨ r.cls = 5 := by
    simp only [List.mem_cons, List.not_mem_nil, or_false] at hc
    omega
  rcases hclass with h | h | h <;> simp [State.nextRead, eligible_singleton, keyBefore_irrefl, h]

/-- A single request is the one served next; choosing it reaches neither the registers nor the write buffer. -/
theorem State.nextRead_singleton :
    ∃ u, s.nextRead d [r] = (u, some r) ∧ u.regs = s.regs ∧ u.buffered = s.buffered := by
  by_cases hc : r.cls ∈ [2, 3, 4]
  · obtain ⟨u, hu, hregs, hbuf⟩ := s.shareClass_singleton d r.cls.val
    rw [s.nextRead_singleton_shared d r hc, hu]
    split_ifs
    · exact ⟨s, rfl, rfl, rfl⟩
    · exact ⟨u, rfl, hregs, hbuf⟩
  · exact ⟨s, s.nextRead_singleton_unshared d r hc, rfl, rfl⟩

theorem State.till_buffered (t : Nat) : (s.till t).buffered = s.buffered := rfl

/-- A read as its data comes back, before what ECC finds: the burst, unless the write buffer holds the word, and for RT
the deadline and the latency. -/
def State.readTimed (s : State) (d : Nat) (r : DramReq) (held : Bool) : State :=
  let s := s.till r.back
  let s := if held then s else s.burst d r.cls (dramAddr (r.addr / 8 * 8)) false
  let s := if r.cls.val = 1 && decide (s.readDeadline r < r.back) then s.count (Reg.DRAM_RT_LATE d) else s
  if r.cls.val = 1 then
    s.wr (Reg.DRAM_RT_LAT_MAX d) (max (s.rd (Reg.DRAM_RT_LAT_MAX d)) (min 65535 ((r.back - r.issued) * 5 / 4)))
  else s

/-- A read once ECC has found what it finds: the bus error and the answer. -/
def State.readAnswered (s : State) (r : DramReq) (bad : Bool) : State :=
  let s := if bad && r.cls.val == 4 then s.emit (.busError r.addr) else s
  s.answer (s.reply ++ [r.addr, s.memWord (r.addr / 8 * 8) 8, b2n bad])

theorem State.serveRead_eq : s.serveRead d r =
    let held := s.buffered (r.addr / 8 * 8)
    let found := if held then .clean else r.ecc
    let e := (s.readTimed d r held).eccOf (r.addr / 8 * 8) 8 found
    ((if e = found then s.readTimed d r held else (s.readTimed d r held).drew).dramOutcome
      (r.addr / 8 * 8) r.cls (r.cls.val == 5) e).readAnswered r (eccBad e) := rfl

theorem State.serveRead_uncorrectable {fold : Bool} {synd : Nat} (hbuf : s.buffered (r.addr / 8 * 8) = false)
    (hecc : r.ecc = .uncorrectable fold synd) : s.serveRead d r =
      ((s.readTimed d r false).dramOutcome (r.addr / 8 * 8) r.cls (r.cls.val == 5)
        (.uncorrectable fold synd)).readAnswered r true := by
  simp [s.serveRead_eq, hbuf, hecc, State.eccOf, eccBad]

theorem State.readAnswered_regs (bad : Bool) : (s.readAnswered r bad).regs = s.regs := by
  unfold State.readAnswered
  split <;> rfl

theorem State.readAnswered_dram (bad : Bool) : (s.readAnswered r bad).dram = s.dram := by
  unfold State.readAnswered
  split <;> rfl

theorem State.dramSt_readTimed (held : Bool) : (s.readTimed d r held).dramSt d = s.dramSt d := by
  have hlate : Reg.DRAM_RT_LATE d % 0x1000 ≠ 0x00C := by
    rw [Reg.DRAM_RT_LATE]
    omega
  have hmax : Reg.DRAM_RT_LAT_MAX d % 0x1000 ≠ 0x00C := by
    rw [Reg.DRAM_RT_LAT_MAX]
    omega
  have htill : (s.till r.back).dramSt d = s.dramSt d := rfl
  have hburst : ((s.till r.back).burst d r.cls (dramAddr (r.addr / 8 * 8)) false).dramSt d = s.dramSt d :=
    State.dramSt_congr (State.rd_eq_of_regs_eq (State.burst_regs _ d _ _ _) _)
  unfold State.readTimed State.count
  dsimp only
  split_ifs <;> simp only [State.dramSt_wr _ _ hmax, State.dramSt_wr _ _ hlate, hburst, htill]

/-- An uncorrectable read from DRAM is an uncorrectable error of its channel. -/
theorem State.serveRead_takesError {fold : Bool} {synd : Nat} (hbuf : s.buffered (r.addr / 8 * 8) = false)
    (hecc : r.ecc = .uncorrectable fold synd) (hd : dramChannel r.addr = d) : s.TakesError (s.serveRead d r) d := by
  have herror := (s.readTimed d r false).dramOutcome_takesError (r.addr / 8 * 8) r.cls synd (r.cls.val == 5) fold
  rw [dramChannel_word, hd] at herror
  rw [s.serveRead_uncorrectable d r hbuf hecc]
  exact (herror.of_dramSt_eq (s.dramSt_readTimed d r false)).of_rd_eq
    (fun k _ => State.rd_eq_of_regs_eq (State.readAnswered_regs _ r true) k) (State.readAnswered_dram _ r true)

/-- A fold whose steps change nothing. -/
theorem foldl_eq_self {f : State → Nat → State} {l : List Nat} (s : State) (hf : ∀ i ∈ l, f s i = s) :
    l.foldl f s = s := by
  induction l with
  | nil => rfl
  | cons i l ih => rw [List.foldl_cons, hf i List.mem_cons_self, ih fun j hj => hf j (List.mem_cons_of_mem i hj)]

/-- A fold of which one step alone changes anything. -/
theorem foldl_eq_step {f : State → Nat → State} {a : Nat} {l : List Nat} (s : State) (hnd : l.Nodup) (ha : a ∈ l)
    (hf : ∀ t, ∀ i ≠ a, f t i = t) : l.foldl f s = f s a := by
  obtain ⟨l₁, l₂, rfl⟩ := List.append_of_mem ha
  have hne : ∀ i ∈ l₁ ++ l₂, i ≠ a := fun i hi h => (List.nodup_cons.1 (List.nodup_middle.1 hnd)).1 (h ▸ hi)
  rw [List.foldl_append, List.foldl_cons, foldl_eq_self s fun i hi => hf s i (hne i (List.mem_append_left _ hi)),
    foldl_eq_self _ fun i hi => hf _ i (hne i (List.mem_append_right _ hi))]

theorem exec_dramRead (l : List DramReq) (t : Nat) : exec (.dramRead l t) s = execDramRead l t s := rfl

/-- A single request is served by its channel alone. -/
theorem exec_dramRead_singleton (t : Nat) (hserved : s.inService (dramChannel r.addr) = true) :
    exec (.dramRead [r] t) s = .next (((s.till t).answer []).serveReads (dramChannel r.addr) [r] 1) := by
  rw [exec_dramRead]
  unfold execDramRead
  dsimp only
  rw [foldl_eq_step _ List.nodup_range (List.mem_range.2 (dramChannel_lt r.addr))]
  · have h : ((s.till t).answer []).inService (dramChannel r.addr) = true := hserved
    simp [h]
  · intro s i hi
    simp [Ne.symm hi, State.serveReads]

/-- A DRAM_READ of one word that ECC cannot correct is an uncorrectable error of the word's channel. -/
theorem exec_dramRead_takesError {fold : Bool} {synd : Nat} (t : Nat)
    (hserved : s.inService (dramChannel r.addr) = true) (hbuf : s.buffered (r.addr / 8 * 8) = false)
    (hecc : r.ecc = .uncorrectable fold synd) :
    ∃ u, exec (.dramRead [r] t) s = .next u ∧ s.TakesError u (dramChannel r.addr) := by
  obtain ⟨v, hv, hregs, hbuffered⟩ := ((s.till t).answer []).nextRead_singleton (dramChannel r.addr) r
  have hserve : ((s.till t).answer []).serveReads (dramChannel r.addr) [r] 1 = v.serveRead (dramChannel r.addr) r := by
    simp [State.serveReads, hv]
  refine ⟨_, by rw [exec_dramRead_singleton s r t hserved, hserve], ?_⟩
  exact (v.serveRead_takesError _ r ((congrFun hbuffered _).trans hbuf) hecc rfl).of_dramSt_eq
    (State.dramSt_congr (State.rd_eq_of_regs_eq hregs _))
end

/-! ## A scrub read -/

section
variable (s : State) (d : Fin 6)

theorem exec_scrubRead (ecc : Ecc) (word : Fin 8) : exec (.scrubRead d ecc word) s = execScrubRead d ecc word s := rfl

/-- The scrub moves on to the next burst (R423). -/
def State.scrubMoved (s : State) (d : Nat) (pos : Nat) : State :=
  let s := s.wr (Reg.DRAM_SCRUB_POS d) ((pos + 1) % 2 ^ 28)
  if (pos + 1) % 2 ^ 28 = 0 then s.count (Reg.DRAM_SCRUB_PASSES d) else s

theorem State.rd_scrubMoved (d pos : Nat) : ∀ k ∈ channelKeys d, (s.scrubMoved d pos).rd k = s.rd k := by
  intro k hk
  have hoff := channelKeys_offset hk
  have hpos : k ≠ Reg.DRAM_SCRUB_POS d := by
    rw [Reg.DRAM_SCRUB_POS]
    omega
  have hpasses : k ≠ Reg.DRAM_SCRUB_PASSES d := by
    rw [Reg.DRAM_SCRUB_PASSES]
    omega
  unfold State.scrubMoved
  dsimp only
  split_ifs
  · rw [State.rd_count, if_neg hpasses, s.rd_wr_ne _ _ _ hpos]
  · exact s.rd_wr_ne _ _ _ hpos

theorem State.scrubMoved_dram (d pos : Nat) : (s.scrubMoved d pos).dram = s.dram := by
  unfold State.scrubMoved
  dsimp only
  split <;> rfl

/-- The word of the scrubbed burst in which ECC finds what it finds. -/
def State.scrubWord (s : State) (d : Fin 6) (word : Fin 8) : Nat :=
  jobAddr d (s.rd (Reg.DRAM_SCRUB_POS d) * 64) + 8 * word

theorem State.dramChannel_scrubWord (word : Fin 8) : dramChannel (s.scrubWord d word) = d :=
  dramChannel_jobAddr_add d.isLt (by omega)

/-- A scrub read of a word that ECC cannot correct, where the scrub runs. -/
theorem exec_scrubRead_uncorrectable (fold : Bool) (synd : Nat) (word : Fin 8) (hserved : s.inService d = true)
    (hcfg : s.bit (Reg.DRAM_CH_CFG d) 0 = true) (hstep : s.rdF Reg.THERM_STEPS 1 0 = 0) :
    exec (.scrubRead d (.uncorrectable fold synd) word) s = .next
      ((((s.burst d 5 (s.rd (Reg.DRAM_SCRUB_POS d) * 64) false).dramOutcome (s.scrubWord d word) 5 true
        (.uncorrectable fold synd)).tilesLose (s.scrubWord d word)).scrubMoved d (s.rd (Reg.DRAM_SCRUB_POS d))) := by
  rw [exec_scrubRead]
  unfold execScrubRead
  simp [hserved, hcfg, hstep, State.eccOf, eccBad, State.scrubWord, State.scrubMoved]

/-- A scrub read of a word that ECC cannot correct is an uncorrectable error of the channel. -/
theorem exec_scrubRead_takesError (fold : Bool) (synd : Nat) (word : Fin 8) (hserved : s.inService d = true)
    (hcfg : s.bit (Reg.DRAM_CH_CFG d) 0 = true) (hstep : s.rdF Reg.THERM_STEPS 1 0 = 0) :
    ∃ u, exec (.scrubRead d (.uncorrectable fold synd) word) s = .next u ∧ s.TakesError u d := by
  refine ⟨_, exec_scrubRead_uncorrectable s d fold synd word hserved hcfg hstep, ?_⟩
  have herror := (s.burst d 5 (s.rd (Reg.DRAM_SCRUB_POS d) * 64) false).dramOutcome_takesError
    (s.scrubWord d word) 5 synd true fold
  rw [s.dramChannel_scrubWord] at herror
  have hburst := State.dramSt_congr (d := d) (State.rd_eq_of_regs_eq
    (s.burst_regs d 5 (s.rd (Reg.DRAM_SCRUB_POS d) * 64) false) _)
  obtain ⟨hjob, hdram⟩ := (State.JobPageOnly.refl _).tilesLose (s.scrubWord d word)
  have hpage : Reg.pageDRAM d ≠ Reg.pageJOB := by
    simp only [Reg.pageDRAM, Reg.pageJOB]
    omega
  exact ((herror.of_dramSt_eq hburst).of_rd_eq (State.rd_channelKeys_of_pagesBut hjob hpage) hdram).of_rd_eq
    (State.rd_scrubMoved _ d _) (State.scrubMoved_dram _ d _)
end

theorem State.inService_of_good {s : State} {d : Nat} (h : s.dramSt d = 2) : s.inService d = true := by
  simp [State.inService, h]

theorem State.inService_of_degraded {s : State} {d : Nat} (h : s.dramSt d = 3) : s.inService d = true := by
  simp [State.inService, h]

/-- Settles O58: reads and scrub reads find the error alike, and what the channel takes from it holds the effect on a
GOOD channel and the effect on a DEGRADED one. -/
theorem uncorrectableErrors : Obligations.UncorrectableErrors := by
  unfold Obligations.UncorrectableErrors
  refine ⟨fun r fold synd t s hst hbuf hecc => ?_, fun r fold synd t s hst hbuf hecc => ?_,
    fun d fold synd word s hst hcfg hstep => ?_, fun d fold synd word s hst hcfg hstep => ?_⟩
  · obtain ⟨u, hu, hgood, -⟩ := exec_dramRead_takesError s r t (State.inService_of_good hst) hbuf hecc
    exact ⟨u, hu, hgood hst⟩
  · obtain ⟨u, hu, -, hdegraded⟩ := exec_dramRead_takesError s r t (State.inService_of_degraded hst) hbuf hecc
    exact ⟨u, hu, hdegraded hst⟩
  · obtain ⟨u, hu, hgood, -⟩ :=
      exec_scrubRead_takesError s d fold synd word (State.inService_of_good hst) hcfg hstep
    exact ⟨u, hu, hgood hst⟩
  · obtain ⟨u, hu, -, hdegraded⟩ :=
      exec_scrubRead_takesError s d fold synd word (State.inService_of_degraded hst) hcfg hstep
    exact ⟨u, hu, hdegraded hst⟩

end Sys2Proof.Machine
end

section
/-! The refusal of an arm (R535): what an error that an access caused leaves behind, and the two checks that an arm meets
before those of the job. -/

namespace Sys2Proof.Machine

/-! ## An error that an access caused -/

section
variable (s : State) (page code : Nat)

/-- ERR_INFO takes the first error and keeps it against later ones (R38). -/
theorem State.rd_error_errInfo (off source : Nat) :
    (s.error page code off source).rd (Reg.ERR_INFO page) = if s.rd (Reg.ERR_INFO page) = 0
      then code % 0x10000 + off % 0x1000 * 0x10000 + source % 16 * 0x10000000 else s.rd (Reg.ERR_INFO page) := by
  rw [State.rd_error, if_neg (intStatus_ne_errInfo page).symm, if_neg (errCount_ne_errInfo page).symm]
  simp only [true_and]

theorem State.bit_error_intStatus (off source : Nat) :
    (s.error page code off source).bit (Reg.INT_STATUS page) 4 = true := by
  unfold State.bit
  rw [State.rd_error, if_pos rfl]
  exact (bitOf_putB _ 4 4 true).trans (if_pos rfl)

theorem status_notMem_errorKeys : Reg.STATUS page ∉ errorKeys page := by
  simp only [errorKeys, List.mem_cons, List.not_mem_nil, or_false, Reg.STATUS, Reg.ERR_INFO, Reg.ERR_COUNT,
    Reg.INT_STATUS]
  omega

/-- What reaches the error registers of a page alone leaves its state code. -/
theorem State.stCode_of_regsBut_errorKeys {s u : State} {page : Nat} (h : s.regsBut u (errorKeys page)) :
    u.stCode page = s.stCode page :=
  congrArg (fun v => fld v 7 4) (h _ (status_notMem_errorKeys page))

theorem srcCode_lt (src : Req) : srcCode src < 16 := by cases src <;> simp [srcCode]

/-- ERR_INFO names the code, the key's offset and the requester; none of them is cut. -/
theorem State.errored_errAt (key : Nat) (src : Req) (hcode : code < 0x10000) :
    s.errored (s.errAt page code key src) page code key (srcCode src) := by
  refine ⟨?_, s.rd_error_errCount page code _ _, s.bit_error_intStatus page code _ _⟩
  rw [State.errAt, State.rd_error_errInfo, Nat.mod_eq_of_lt hcode, Nat.mod_mod, Nat.mod_eq_of_lt (srcCode_lt src)]

end

/-! ## The checks of an arm -/

theorem exec_runArm (src : Req) (s : State) : exec (.runArm src) s = execRunArm src s := rfl

section
variable {s : State} {src : Req}

theorem State.armRun_of_notReady (hgate : s.writeGate src = none) (hst : s.modState ≠ 4) :
    s.armRun src = s.errAt Reg.pageLINE 0x0103 Reg.LINE_RUN_CTRL src := by
  unfold State.armRun
  simp only [hgate, if_pos hst]

theorem State.armRun_of_stopActive (hgate : s.writeGate src = none) (hst : s.modState = 4)
    (hstop : s.pwr.stopIn = true) : s.armRun src = s.errAt Reg.pageLINE 0x0104 Reg.LINE_RUN_CTRL src := by
  unfold State.armRun
  simp only [hgate, if_neg (not_not_intro hst), if_pos hstop]

/-- An arm that comes to an error on the LINE page records it, and leaves the run and all else as it was. -/
theorem exec_runArm_of_refused {code : Nat} (hreach : s.cutOff src = false) (hcode : code < 0x10000)
    (hrefused : s.armRun src = s.errAt Reg.pageLINE code Reg.LINE_RUN_CTRL src) :
    ∃ u : State, exec (.runArm src) s = .next u ∧
      s.errored u Reg.pageLINE code Reg.LINE_RUN_CTRL (srcCode src) ∧ u.runSt = s.runSt ∧
      s.regsBut u (errorKeys Reg.pageLINE) ∧ { u with regs := s.regs } = s := by
  have hexec : exec (.runArm src) s = .next (s.errAt Reg.pageLINE code Reg.LINE_RUN_CTRL src) := by
    rw [exec_runArm, execRunArm, hreach, hrefused]
    rfl
  have hframe := s.regsBut_error Reg.pageLINE code (Reg.LINE_RUN_CTRL % 0x1000) (srcCode src)
  exact ⟨_, hexec, s.errored_errAt _ code _ src hcode, State.stCode_of_regsBut_errorKeys hframe, hframe,
    s.error_frame _ code _ _⟩

end

/-- Settles O59: of the checks of an arm, the module state comes first and STOP_IN second, and each refuses by an error
on the LINE page. -/
theorem armRefusals : Obligations.ArmRefusals := by
  unfold Obligations.ArmRefusals
  refine ⟨fun src s hreach hgate hst => ?_, fun src s hreach hgate hst hstop => ?_⟩
  · exact exec_runArm_of_refused hreach (by decide) (State.armRun_of_notReady hgate hst)
  · exact exec_runArm_of_refused hreach (by decide) (State.armRun_of_stopActive hgate hst hstop)

end Sys2Proof.Machine
end

section
/-! What a command does to the queue, to what was sent and to the invariant, over all commands; the run that works the
queue off; and the packing of drop codes into blocks. -/

namespace Sys2Proof.Machine

/-! ## Every command carries on -/

/-- Every command answers a next state that carries on from the one before it. -/
theorem exec_ext {s0 s : State} (h : s0.Ext s) (c : Instr) : Res.Ext s0 (exec c s) := by
  cases c with
  | registerWrite src addr data => exact execRegisterWrite_ext h src addr data
  | clearOnRead src addr => exact execClearOnRead_ext h src addr
  | write1ToClear src addr data hw => exact execWrite1ToClear_ext h src addr data hw
  | intForce src page data => exact execIntForce_ext h src page data
  | badAccess src addr write multi => exact execBadAccess_ext h src addr write multi
  | apertureWrite src addr data => exact execApertureWrite_ext h src addr data
  | thresholdWrite src addr data => exact execThresholdWrite_ext h src addr data
  | readLo src addr => exact execReadLo_ext h src addr
  | writeHi src addr data => exact execWriteHi_ext h src addr data
  | blockReset src page => exact execBlockReset_ext h src page
  | configLock src page => exact execConfigLock_ext h src page
  | shadowArm src page => exact execShadowArm_ext h src page
  | shadowDisarm src page applyNow => exact execShadowDisarm_ext h src page applyNow
  | shadowApply page frame => exact execShadowApply_ext h page frame
  | lockRead n readers => exact execLockRead_ext h n readers
  | lockRelease src n data => exact execLockRelease_ext h src n data
  | forceRelease src data => exact execForceRelease_ext h src data
  | vecAck pf1 vec => exact execVecAck_ext h pf1 vec
  | msixMessage vec t => exact execMsixMessage_ext h vec t
  | resetCtrl src data => exact execResetCtrl_ext h src data
  | pllLossOfLock pll long => exact execPllLossOfLock_ext h pll long
  | encoderCount e fwd tenths t => exact execEncoderCount_ext h e fwd tenths t
  | lossOfSignal e t => exact execLossOfSignal_ext h e t
  | losClear e => exact execLosClear_ext h e
  | slipWindow => exact execSlipWindow_ext h
  | virtualTick t => exact execVirtualTick_ext h t
  | lineTick t => exact execLineTick_ext h t
  | runArm src => exact execRunArm_ext h src
  | runStart src => exact execRunStart_ext h src
  | runDrain src => exact execRunDrain_ext h src
  | drainTimeout t => exact execDrainTimeout_ext h t
  | frameQueued line t => exact execFrameQueued_ext h line t
  | adviceRecompute t => exact execAdviceRecompute_ext h t
  | slotArm src n => exact execSlotArm_ext h src n
  | slotCancel src n => exact execSlotCancel_ext h src n
  | slotApply n => exact execSlotApply_ext h n
  | rampEnd n => exact execRampEnd_ext h n
  | bankCopyDone n => exact execBankCopyDone_ext h n
  | queueDoorbell src q tail => exact execQueueDoorbell_ext h src q tail
  | linearDesc q words host => exact execLinearDesc_ext h q words host
  | tileDesc q words host seals => exact execTileDesc_ext h q words host seals
  | streamCreditResume q host seals => exact execStreamCreditResume_ext h q host seals
  | tileWaitResume q host seals => exact execTileWaitResume_ext h q host seals
  | translationCompletion q base size target ok host seals => exact execTranslationCompletion_ext h q base size target ok host seals
  | invalidationRequest base size => exact execInvalidationRequest_ext h base size
  | pageRequestResponse q ok host seals => exact execPageRequestResponse_ext h q ok host seals
  | priTimeout q => exact execPriTimeout_ext h q
  | queueRestart src q => exact execQueueRestart_ext h src q
  | queueStop src q => exact execQueueStop_ext h src q
  | atcFlush src => exact execAtcFlush_ext h src
  | regionWrite src r reg data => exact execRegionWrite_ext h src r reg data
  | starvedLineResume line => exact execStarvedLineResume_ext h line
  | tileDigestRecord record => exact execTileDigestRecord_ext h record
  | contoneArrival line plane faults mismatch => exact execContoneArrival_ext h line plane faults mismatch
  | faultClear src c => exact execFaultClear_ext h src c
  | isolate src c => exact execIsolate_ext h src c
  | isolateRelease src c => exact execIsolateRelease_ext h src c
  | receiverDetectProbe c detected t => exact execReceiverDetectProbe_ext h c detected t
  | trainingFrame c field inverted eye => exact execTrainingFrame_ext h c field inverted eye
  | trainTimeout c => exact execTrainTimeout_ext h c
  | trainingSilence c t => exact execTrainingSilence_ext h c t
  | rateChangeIdleEnd c => exact execRateChangeIdleEnd_ext h c
  | blockLockGained rx blocks => exact execBlockLockGained_ext h rx blocks
  | blockLockLost rx errs t => exact execBlockLockLost_ext h rx errs t
  | lockTimeout c => exact execLockTimeout_ext h c
  | exchangeTimeout c => exact execExchangeTimeout_ext h c
  | retrainTimeout c => exact execRetrainTimeout_ext h c
  | headHello c hello t => exact execHeadHello_ext h c hello t
  | helloRepeat c => exact execHelloRepeat_ext h c
  | eyeMeasurement c eye => exact execEyeMeasurement_ext h c eye
  | headerErrorWindow rx errs => exact execHeaderErrorWindow_ext h rx errs
  | linkRetrain src c => exact execLinkRetrain_ext h src c
  | linkRestart src c t => exact execLinkRestart_ext h src c t
  | rateUp src c => exact execRateUp_ext h src c
  | linkAccept src c t => exact execLinkAccept_ext h src c t
  | headStatus c st => exact execHeadStatus_ext h c st
  | statusTimeout c => exact execStatusTimeout_ext h c
  | frameDiscard c => exact execFrameDiscard_ext h c
  | tableSend src c => exact execTableSend_ext h src c
  | tableNoResponse c => exact execTableNoResponse_ext h c
  | echoNow src c t => exact execEchoNow_ext h src c t
  | echoInterval c t => exact execEchoInterval_ext h c t
  | echoReply c seq turnaround t => exact execEchoReply_ext h c seq turnaround t
  | echoLost c => exact execEchoLost_ext h c
  | portStopExchange c => exact execPortStopExchange_ext h c
  | cameraPortEnable src p => exact execCameraPortEnable_ext h src p
  | cameraPortDisable src p => exact execCameraPortDisable_ext h src p
  | powerSettle p milliamps => exact execPowerSettle_ext h p milliamps
  | powerFault p milliamps => exact execPowerFault_ext h p milliamps
  | linkTimeout p => exact execLinkTimeout_ext h p
  | alignSet port blocks skew => exact execAlignSet_ext h port blocks skew
  | alignTimeout p => exact execAlignTimeout_ext h p
  | cciGo src p => exact execCciGo_ext h src p
  | cciReply p block => exact execCciReply_ext h p block
  | cciTimeout p => exact execCciTimeout_ext h p
  | frameStart p vc num corrected t => exact execFrameStart_ext h p vc num corrected t
  | linePacket p pkt => exact execLinePacket_ext h p pkt
  | frameEnd p vc num corrected => exact execFrameEnd_ext h p vc num corrected
  | frameTimeout p vc => exact execFrameTimeout_ext h p vc
  | triggerRecordTimeout p => exact execTriggerRecordTimeout_ext h p
  | ispLine p => exact execIspLine_ext h p
  | statsRecordPublish ctx => exact execStatsRecordPublish_ext h ctx
  | ispTableSyncDone ctx => exact execIspTableSyncDone_ext h ctx
  | readIdxHostWrite src data => exact execReadIdxHostWrite_ext h src data
  | scalerRecordTake contrast => exact execScalerRecordTake_ext h contrast
  | cycleExpired => exact execCycleExpired_ext h
  | resultSetPublish marks => exact execResultSetPublish_ext h marks
  | stairForce src => exact execStairForce_ext h src
  | cycleRestart src => exact execCycleRestart_ext h src
  | driftBin c t => exact execDriftBin_ext h c t
  | driftReref src c => exact execDriftReref_ext h src c
  | lampGroupEnable src g => exact execLampGroupEnable_ext h src g
  | lampGroupDisable src g => exact execLampGroupDisable_ext h src g
  | busGood g voutMode failures => exact execBusGood_ext h g voutMode failures
  | busWaitTimeout g failures => exact execBusWaitTimeout_ext h g failures
  | busFault g => exact execBusFault_ext h g
  | groupResume src g => exact execGroupResume_ext h src g
  | lampPeriodStart ch t => exact execLampPeriodStart_ext h ch t
  | headroomStep g failures => exact execHeadroomStep_ext h g failures
  | busMeasure g vout iout failures t => exact execBusMeasure_ext h g vout iout failures t
  | sinkSample ch millivolts microamps => exact execSinkSample_ext h ch millivolts microamps
  | probeInterval g t => exact execProbeInterval_ext h g t
  | probeNow src ch t => exact execProbeNow_ext h src ch t
  | probeComplete ch millivolts microamps => exact execProbeComplete_ext h ch millivolts microamps
  | probeAbort ch => exact execProbeAbort_ext h ch
  | probeBlocked ch => exact execProbeBlocked_ext h ch
  | clearLampFault src ch => exact execClearLampFault_ext h src ch
  | ntcRead g ohms => exact execNtcRead_ext h g ohms
  | lampPush src => exact execLampPush_ext h src
  | lampFlush src port => exact execLampFlush_ext h src port
  | peerHello p serial mode portId addr proto t => exact execPeerHello_ext h p serial mode portId addr proto t
  | peerPortDown p => exact execPeerPortDown_ext h p
  | narrowed p lanes errs done => exact execNarrowed_ext h p lanes errs done
  | bgRetrain p lanes => exact execBgRetrain_ext h p lanes
  | portRetrain src p => exact execPortRetrain_ext h src p
  | widenNow src p lanes => exact execWidenNow_ext h src p lanes
  | timeTransfer p t1 t2 t3 t4 ring => exact execTimeTransfer_ext h p t1 t2 t3 t4 ring
  | peerFrame p f => exact execPeerFrame_ext h p f
  | frameRetx p cls => exact execFrameRetx_ext h p cls
  | mirroredWrite addr data => exact execMirroredWrite_ext h addr data
  | peerHeartbeat role cond epoch gen t => exact execPeerHeartbeat_ext h role cond epoch gen t
  | networkHeartbeat m t => exact execNetworkHeartbeat_ext h m t
  | heartbeatMiss net t => exact execHeartbeatMiss_ext h net t
  | leaseGrant m t => exact execLeaseGrant_ext h m t
  | leaseDeny m t => exact execLeaseDeny_ext h m t
  | leaseRenew t => exact execLeaseRenew_ext h t
  | claimRepeat t => exact execClaimRepeat_ext h t
  | leaseLost t => exact execLeaseLost_ext h t
  | wiredGrant a b t => exact execWiredGrant_ext h a b t
  | slotMessage n target action mask0 mask1 mask2 mask3 fwd crc => exact execSlotMessage_ext h n target action mask0 mask1 mask2 mask3 fwd crc
  | slotAck n => exact execSlotAck_ext h n
  | slotNak n => exact execSlotNak_ext h n
  | slotConfirm n => exact execSlotConfirm_ext h n
  | slotAckDeadline n => exact execSlotAckDeadline_ext h n
  | inDoubt n => exact execInDoubt_ext h n
  | inDoubtAnswer n applied line => exact execInDoubtAnswer_ext h n applied line
  | slotCancelMessage n => exact execSlotCancelMessage_ext h n
  | startMessage startLine run t => exact execStartMessage_ext h startLine run t
  | tickInstant line leaderFrc => exact execTickInstant_ext h line leaderFrc
  | retrainRequest c rateUp => exact execRetrainRequest_ext h c rateUp
  | handoverRequest src => exact execHandoverRequest_ext h src
  | retireRequest src => exact execRetireRequest_ext h src
  | handoverAtLine => exact execHandoverAtLine_ext h
  | syncEntry => exact execSyncEntry_ext h
  | syncComplete => exact execSyncComplete_ext h
  | digestNow src => exact execDigestNow_ext h src
  | selfTestDigest => exact execSelfTestDigest_ext h
  | digestFail target => exact execDigestFail_ext h target
  | healthPublish partner => exact execHealthPublish_ext h partner
  | closureProbe root t => exact execClosureProbe_ext h root t
  | ringEnum fromW m t => exact execRingEnum_ext h fromW m t
  | closureTimeout t => exact execClosureTimeout_ext h t
  | ringEnumerate src t => exact execRingEnumerate_ext h src t
  | ringResync src => exact execRingResync_ext h src
  | linePrediction t => exact execLinePrediction_ext h t
  | lineTime line ringTime t => exact execLineTime_ext h line ringTime t
  | predHold t => exact execPredHold_ext h t
  | rateExchange rates lowest partner => exact execRateExchange_ext h rates lowest partner
  | networkFrame port f t => exact execNetworkFrame_ext h port f t
  | ptpSync port m => exact execPtpSync_ext h port m
  | followUp port m => exact execFollowUp_ext h port m
  | delayReq port t => exact execDelayReq_ext h port t
  | delayResp port m => exact execDelayResp_ext h port m
  | ptpAnnounce port m => exact execPtpAnnounce_ext h port m
  | announceTimeout port => exact execAnnounceTimeout_ext h port
  | pdelayReq port m t => exact execPdelayReq_ext h port m t
  | pdelayResp port m => exact execPdelayResp_ext h port m
  | pdelayRespFollowUp port m => exact execPdelayRespFollowUp_ext h port m
  | lanReadmitted port t => exact execLanReadmitted_ext h port t
  | syncTimeout port t => exact execSyncTimeout_ext h port t
  | verifyComplete t => exact execVerifyComplete_ext h t
  | holdoverExpired t => exact execHoldoverExpired_ext h t
  | acceptPath src => exact execAcceptPath_ext h src
  | forceHoldover src => exact execForceHoldover_ext h src
  | supervisionFrame port mac t => exact execSupervisionFrame_ext h port mac t
  | lifeCheck => exact execLifeCheck_ext h
  | entryForget mac t => exact execEntryForget_ext h mac t
  | netReport => exact execNetReport_ext h
  | networkLinkChange port up speed => exact execNetworkLinkChange_ext h port up speed
  | nowRead src t => exact execNowRead_ext h src t
  | conversion src data => exact execConversion_ext h src data
  | timerArm src n t => exact execTimerArm_ext h src n t
  | timerDisarm src n => exact execTimerDisarm_ext h src n
  | timerEvent n t => exact execTimerEvent_ext h n t
  | planPush src n => exact execPlanPush_ext h src n
  | planFlush src n => exact execPlanFlush_ext h src n
  | capture pin falling t => exact execCapture_ext h pin falling t
  | capInfoRead src => exact execCapInfoRead_ext h src
  | dramRead reqs t => exact execDramRead_ext h reqs t
  | dramRefresh d elapsed pull => exact execDramRefresh_ext h d elapsed pull
  | forcedRefresh d elapsed => exact execForcedRefresh_ext h d elapsed
  | dramTempRead d temp => exact execDramTempRead_ext h d temp
  | hotExit d => exact execHotExit_ext h d
  | parityAlert d after replays cleared => exact execParityAlert_ext h d after replays cleared
  | wcrcAlert d after replays cleared => exact execWcrcAlert_ext h d after replays cleared
  | scrubRead d ecc word => exact execScrubRead_ext h d ecc word
  | retrainInterval d => exact execRetrainInterval_ext h d
  | retrainSlice d => exact execRetrainSlice_ext h d
  | retrainComplete d pass margin lane => exact execRetrainComplete_ext h d pass margin lane
  | retrainNow src d => exact execRetrainNow_ext h src d
  | scrubRestart src d => exact execScrubRestart_ext h src d
  | clearDegraded src d => exact execClearDegraded_ext h src d
  | scheduledStop => exact execScheduledStop_ext h
  | mbPost src n => exact execMbPost_ext h src n
  | mbTake src n => exact execMbTake_ext h src n
  | mailboxAck src n data => exact execMailboxAck_ext h src n data
  | mbClear src n => exact execMbClear_ext h src n
  | detach src pf1 => exact execDetach_ext h src pf1
  | bodyRead n read => exact execBodyRead_ext h n read
  | replyChannelFree n => exact execReplyChannelFree_ext h n
  | replyRoomTimeout n => exact execReplyRoomTimeout_ext h n
  | ping n => exact execPing_ext h n
  | getInfo n => exact execGetInfo_ext h n
  | parkRequest n => exact execParkRequest_ext h n
  | resumeRequest n => exact execResumeRequest_ext h n
  | setHostKey n => exact execSetHostKey_ext h n
  | setLookoutKey n => exact execSetLookoutKey_ext h n
  | eraseKeys n => exact execEraseKeys_ext h n
  | journalWrite n => exact execJournalWrite_ext h n
  | journalRead n => exact execJournalRead_ext h n
  | perst => exact execPerst_ext h
  | functionLevelReset pf1 d3 => exact execFunctionLevelReset_ext h pf1 d3
  | crewWatchdog => exact execCrewWatchdog_ext h
  | rangerWatchdog bad => exact execRangerWatchdog_ext h bad
  | boot b => exact execBoot_ext h b
  | eraseWrite src => exact execEraseWrite_ext h src
  | fwVerify src => exact execFwVerify_ext h src
  | fwActivate src => exact execFwActivate_ext h src
  | confirmImage src => exact execConfirmImage_ext h src
  | liveCrew src => exact execLiveCrew_ext h src
  | liveRanger src => exact execLiveRanger_ext h src
  | updateAbort src => exact execUpdateAbort_ext h src
  | fwOperationDone img => exact execFwOperationDone_ext h img
  | coreReady core => exact execCoreReady_ext h core
  | coreReadyTimeout core => exact execCoreReadyTimeout_ext h core
  | fwReboot src data => exact execFwReboot_ext h src data
  | compactNow src => exact execCompactNow_ext h src
  | compactionDone => exact execCompactionDone_ext h
  | nvRangeReturn nor => exact execNvRangeReturn_ext h nor
  | hostPost src => exact execHostPost_ext h src
  | powerOnReset mains sb24 => exact execPowerOnReset_ext h mains sb24
  | mainsQualified => exact execMainsQualified_ext h
  | mainsFail bulk => exact execMainsFail_ext h bulk
  | mainsLow vrms => exact execMainsLow_ext h vrms
  | sb24Change good millivolts => exact execSb24Change_ext h good millivolts
  | railPowerGood r => exact execRailPowerGood_ext h r
  | railFault r => exact execRailFault_ext h r
  | powerRestart src => exact execPowerRestart_ext h src
  | headPowerControl src data => exact execHeadPowerControl_ext h src data
  | headPowerDeassert => exact execHeadPowerDeassert_ext h
  | sensorSample sensor readings => exact execSensorSample_ext h sensor readings
  | thresholdDwell k inst => exact execThresholdDwell_ext h k inst
  | thermalTrip inlet => exact execThermalTrip_ext h inlet
  | lampTrip g => exact execLampTrip_ext h g
  | tripRestart => exact execTripRestart_ext h
  | tripLatchClear g => exact execTripLatchClear_ext h g
  | stopIn b => exact execStopIn_ext h b
  | stopInRelease => exact execStopInRelease_ext h
  | stopInDiscrepancy => exact execStopInDiscrepancy_ext h
  | sys24InChange present => exact execSys24InChange_ext h present
  | sfpChange port present los txFault => exact execSfpChange_ext h port present los txFault
  | retireRequestRepeat => exact execRetireRequestRepeat_ext h
  | pllLockRegained pll => exact execPllLockRegained_ext h pll
  | pcieLinkUp gen width fn0 fn1 => exact execPcieLinkUp_ext h gen width fn0 fn1

theorem exec_next (c : Instr) (s : State) : ∃ t, exec c s = .next t ∧ s.Ext t := by
  have h := exec_ext (State.Ext.refl s) c
  cases hc : exec c s with
  | next t => rw [hc] at h; exact ⟨t, rfl, h⟩
  | fault f => rw [hc] at h; exact h.elim
  | refused r => rw [hc] at h; exact h.elim

/-- Settles O3: what every command carries on. -/
theorem everyCommandAnswers : Obligations.EveryCommandAnswers := by
  unfold Obligations.EveryCommandAnswers
  intro c s
  obtain ⟨t, ht, hext⟩ := exec_next c s
  exact ⟨t, ht, hext.pending, hext.sent, hext.drawn⟩

/-! ## Steps -/

theorem step_of_pending_nil {s : State} (h : s.pending = []) : step s = .next s.idle := by
  unfold step
  rw [h]

theorem step_of_pending_cons {s : State} {c : Instr} {rest : List Instr} (h : s.pending = c :: rest) :
    step s = exec c { s with pending := rest } := by
  unfold step
  rw [h]

/-- Settles O1: the arm of a step that finds a command. -/
theorem stepTakesFront : Obligations.StepTakesFront := fun _ _ _ h => step_of_pending_cons h

/-- The queue is no part of what the invariant speaks of. -/
theorem State.Inv.setPending {s : State} (h : s.Inv) (l : List Instr) : { s with pending := l }.Inv := by
  obtain ⟨⟨hregs, hshadow, hlatchR, hlatchW, hfrozen, hlocks, hmsix, hslots, hlanes, hmem⟩, ⟨hfrc, howners⟩⟩ := h
  exact ⟨⟨hregs, hshadow, hlatchR, hlatchW, hfrozen, hlocks, hmsix, hslots, hlanes, hmem⟩, ⟨hfrc, howners⟩⟩

/-- A step with a command at the front takes it off the queue, keeps the invariant and takes nothing sent back. -/
theorem step_next_of_pending_cons {s : State} {c : Instr} {rest : List Instr} (h : s.pending = c :: rest) :
    ∃ t, step s = .next t ∧ t.pending = rest ∧ s.out <+: t.out ∧ (s.Inv → t.Inv) := by
  obtain ⟨t, ht, hext⟩ := exec_next c { s with pending := rest }
  exact ⟨t, (step_of_pending_cons h).trans ht, hext.pending, hext.sent, fun hinv => hext.inv (hinv.setPending rest)⟩

/-- Settles O4: an idle step and the step of a command both keep it. -/
theorem stepKeepsInv : Obligations.StepKeepsInv := by
  unfold Obligations.StepKeepsInv
  intro s t hinv hstep
  cases hp : s.pending with
  | nil =>
    rw [step_of_pending_nil hp, Host.Outcome.next.injEq] at hstep
    exact hstep ▸ (idle_ext (State.Ext.refl s)).inv hinv
  | cons c rest =>
    obtain ⟨u, hu, -, -, hkeep⟩ := step_next_of_pending_cons hp
    rw [hu, Host.Outcome.next.injEq] at hstep
    exact hstep ▸ hkeep hinv

/-! ## The run that works the queue off -/

/-- The state after a step, where it goes on. -/
def State.after (s : State) : State :=
  match step s with
  | .next t => t
  | _ => s

theorem State.after_of_step {s t : State} (h : step s = .next t) : s.after = t := by
  unfold State.after
  rw [h]

/-- After i steps of a queue that holds as many commands, the first i are gone. -/
theorem iterate_after {s : State} (hinv : s.Inv) : ∀ i ≤ s.pending.length,
    (State.after^[i] s).pending = s.pending.drop i ∧ (State.after^[i] s).Inv ∧ s.out <+: (State.after^[i] s).out := by
  intro i
  induction i with
  | zero => exact fun _ => ⟨rfl, hinv, List.prefix_rfl⟩
  | succ i ih =>
    intro hi
    obtain ⟨hpending, hkept, hsent⟩ := ih (by omega)
    rw [List.drop_eq_getElem_cons (show i < s.pending.length by omega)] at hpending
    obtain ⟨t, ht, htpending, htsent, htinv⟩ := step_next_of_pending_cons hpending
    rw [Function.iterate_succ_apply', State.after_of_step ht]
    exact ⟨htpending, htinv hkept, hsent.trans htsent⟩

theorem step_iterate_after {s : State} (hinv : s.Inv) {i : Nat} (hi : i < s.pending.length) :
    step (State.after^[i] s) = .next (State.after^[i + 1] s) := by
  obtain ⟨hpending, -, -⟩ := iterate_after hinv i hi.le
  rw [List.drop_eq_getElem_cons hi] at hpending
  obtain ⟨t, ht, -⟩ := step_next_of_pending_cons hpending
  rw [Function.iterate_succ_apply', State.after_of_step ht, ht]

/-- Settles O6: the run is the iteration of `State.after`. -/
theorem queueDrains : Obligations.QueueDrains := by
  unfold Obligations.QueueDrains
  intro s hinv
  refine ⟨fun i => State.after^[i] s, rfl, fun i hi => step_iterate_after hinv hi, iterate_after hinv, ?_⟩
  obtain ⟨hpending, -, -⟩ := iterate_after hinv s.pending.length le_rfl
  rw [hpending, List.drop_length]

/-- Settles O5: the only two registers that stand against their reset value are the mailbox pages' INT_STATUS. -/
theorem resetInv : Obligations.ResetInv := by
  unfold Obligations.ResetInv
  refine ⟨⟨⟨?_, smWf_nil _, smWf_nil _, smWf_nil _, smWf_nil _, smWf_nil _, smWf_nil _, smWf_nil _, smWf_nil _,
    reset_mem_wf⟩, ⟨by decide, by simp [State.reset]⟩⟩, rfl, rfl⟩
  refine ⟨by decide, ?_⟩
  simp only [State.reset, List.forall_mem_cons, List.not_mem_nil, false_imp_iff, implies_true, and_true]
  decide

/-! ## The packing of drop codes (R214) -/

/-- Bit j of digit i of a number in base 2 ^ w is its bit w i + j. -/
theorem testBit_ofDigits_two_pow {w j : Nat} (hj : j < w) {l : List Nat} (h : ∀ x ∈ l, x < 2 ^ w) (i : Nat) :
    (Nat.ofDigits (2 ^ w) l).testBit (w * i + j) = (l.getD i 0).testBit j := by
  induction l generalizing i with
  | nil => simp
  | cons x l ih =>
    rw [List.forall_mem_cons] at h
    rw [Nat.ofDigits_cons, add_comm, Nat.testBit_two_pow_mul_add _ h.1]
    cases i with
    | zero => simp [hj]
    | succ i =>
      rw [if_neg (by rw [Nat.mul_succ]; omega), show w * (i + 1) + j - w = w * i + j by rw [Nat.mul_succ]; omega,
        ih h.2, List.getD_cons_succ]

/-- A digit put above h bits. -/
theorem add_mul_two_pow_lt {acc x h b : Nat} (hacc : acc < 2 ^ h) (hx : x < 2 ^ b) : acc + x * 2 ^ h < 2 ^ (h + b) := by
  rw [pow_add]
  calc acc + x * 2 ^ h < (x + 1) * 2 ^ h := by rw [Nat.succ_mul]; omega
    _ ≤ 2 ^ h * 2 ^ b := by rw [mul_comm]; exact Nat.mul_le_mul_left _ hx

section
variable {b : Nat} (hb : b ≤ 64)
include hb

/-- The blocks spell the same number as the codes, after what has not yet been put out. -/
theorem ofDigits_packCodes {codes : List Nat} (hcodes : ∀ x ∈ codes, x < 2 ^ b) (acc have_ : Nat) (hh : have_ < 64)
    (hacc : acc < 2 ^ have_) : Nat.ofDigits (2 ^ 64) (packCodes b acc have_ codes)
      = acc + 2 ^ have_ * Nat.ofDigits (2 ^ b) codes := by
  induction codes generalizing acc have_ with
  | nil =>
    unfold packCodes
    split_ifs with h0
    · subst h0; simp at hacc; simp [hacc]
    · simp
  | cons x codes ih =>
    rw [List.forall_mem_cons] at hcodes
    obtain ⟨hx, hrest⟩ := hcodes
    have hsum := add_mul_two_pow_lt hacc hx
    simp only [packCodes, Nat.mod_eq_of_lt hx, Nat.ofDigits_cons]
    split_ifs with hfull
    · have hpow : 2 ^ (have_ + b) = 2 ^ 64 * 2 ^ (have_ + b - 64) := by rw [← pow_add]; congr 1; omega
      rw [Nat.ofDigits_cons, ih hrest _ _ (by omega) (Nat.div_lt_of_lt_mul (hpow ▸ hsum)), mul_add, ← mul_assoc,
        ← hpow, ← add_assoc, Nat.mod_add_div, pow_add]
      ring
    · rw [ih hrest _ _ (by omega) hsum, pow_add]
      ring

theorem packCodes_lt (codes : List Nat) (acc have_ : Nat) (hh : have_ < 64) (hacc : acc < 2 ^ have_)
    (hcodes : ∀ x ∈ codes, x < 2 ^ b) : ∀ x ∈ packCodes b acc have_ codes, x < 2 ^ 64 := by
  induction codes generalizing acc have_ with
  | nil =>
    unfold packCodes
    split_ifs
    · simp
    · simpa using hacc.trans (Nat.pow_lt_pow_right (by decide) hh)
  | cons x codes ih =>
    rw [List.forall_mem_cons] at hcodes
    obtain ⟨hx, hrest⟩ := hcodes
    have hsum := add_mul_two_pow_lt hacc hx
    simp only [packCodes, Nat.mod_eq_of_lt hx]
    split_ifs with hfull
    · have hpow : 2 ^ (have_ + b) = 2 ^ 64 * 2 ^ (have_ + b - 64) := by rw [← pow_add]; congr 1; omega
      rw [List.forall_mem_cons]
      exact ⟨Nat.mod_lt _ (by decide), ih _ _ (by omega) (Nat.div_lt_of_lt_mul (hpow ▸ hsum)) hrest⟩
    · exact ih _ _ (by omega) hsum hrest

/-- Every 64 bits fill a block, and what is left over one more. -/
theorem length_packCodes (codes : List Nat) (acc have_ : Nat) (hh : have_ < 64) :
    (packCodes b acc have_ codes).length = (have_ + b * codes.length + 63) / 64 := by
  induction codes generalizing acc have_ with
  | nil =>
    unfold packCodes
    split_ifs <;> simp <;> omega
  | cons x codes ih =>
    simp only [packCodes]
    split_ifs
    · rw [List.length_cons, ih _ _ (by omega), List.length_cons, Nat.mul_succ]
      omega
    · rw [ih _ _ (by omega), List.length_cons, Nat.mul_succ]
      omega

end

/-- Settles O60: blocks and codes are the digits, in base 2 ^ 64 and in base 2 ^ b, of one number. -/
theorem framePacking : Obligations.FramePacking := by
  unfold Obligations.FramePacking
  refine ⟨⟨rfl, rfl, rfl⟩, fun b codes _ hb hlen hcodes => ⟨?_, ?_⟩, fun b codes _ hb hlen hcodes n _ j hj => ?_,
    fun start data => by simp [mkFrame]⟩
  · rw [length_packCodes (by omega) codes 0 0 (by decide), hlen]
    omega
  · exact packCodes_lt (by omega) codes 0 0 (by decide) (by decide) hcodes
  · have hblocks := packCodes_lt (show b ≤ 64 by omega) codes 0 0 (by decide) (by decide) hcodes
    calc ((packCodes b 0 0 codes).getD ((b * n + j) / 64) 0).testBit ((b * n + j) % 64)
        = (Nat.ofDigits (2 ^ 64) (packCodes b 0 0 codes)).testBit (b * n + j) := by
          rw [← testBit_ofDigits_two_pow (Nat.mod_lt _ (by decide)) hblocks, Nat.div_add_mod]
      _ = (Nat.ofDigits (2 ^ b) codes).testBit (b * n + j) := by
          rw [ofDigits_packCodes (by omega) hcodes 0 0 (by decide) (by decide)]
          simp
      _ = (codes.getD n 0).testBit j := testBit_ofDigits_two_pow hj hcodes n

end Sys2Proof.Machine
end

section
/-! Two statements about head lanes that fail. A lane that leaves ACTIVE drops its last STATUS frames from the silence test
of the pair (R359), and the statements say that everything of the pair is left alone. -/

namespace Sys2Proof.Machine

/-- Lane 0 is ACTIVE, and one STATUS frame of it counts in the silence test. -/
def quietLane : State :=
  { State.reset.wrs [(Reg.CH_LINK_STATUS 0, 5)] with pair := { quiet := [(0, [(true, true)])] } }

theorem quietLane_laneActive : quietLane.laneActive 0 = true := by decide

theorem quietLane_enterRetrain_quiet : (quietLane.enterRetrain 0).pair.quiet = [] := by decide +kernel

/-- Refutes O12: the entry to RETRAIN empties the quiet list of the lane, which is part of `pair`. -/
theorem not_laneTransitions : ¬ Obligations.LaneTransitions := by
  unfold Obligations.LaneTransitions
  rintro ⟨-, -, -, -, -, hretrain, -⟩
  obtain ⟨u, rfl, -, -, -, -, -, -, -, hframe⟩ := hretrain 0 quietLane quietLane_laneActive
  have hquiet := congrArg (·.pair.quiet) hframe
  simp only [Fin.val_zero, quietLane_enterRetrain_quiet] at hquiet
  exact absurd hquiet (by decide)

theorem quietLane_doRestart_quiet : ((quietLane.till 0).doRestart (.crew 0) 0).pair.quiet = [] := by decide +kernel

/-- Refutes O14: LINK_RESTART of an ACTIVE lane empties its quiet list, which is part of `pair`. -/
theorem not_laneCommands : ¬ Obligations.LaneCommands := by
  unfold Obligations.LaneCommands
  rintro ⟨-, -, -, -, -, -, -, -, -, -, -, -, -, -, -, -, hrestart, -⟩
  obtain ⟨u, hu, -, -, -, -, hframe⟩ := hrestart (.crew 0) 0 0 quietLane (by decide) (by decide) (by decide)
  have hexec : exec (.linkRestart (.crew 0) 0 0) quietLane = .next ((quietLane.till 0).doRestart (.crew 0) 0) := rfl
  obtain rfl := Host.Outcome.next.inj (hexec.symm.trans hu)
  have hquiet := congrArg (·.pair.quiet) hframe
  simp only [quietLane_doRestart_quiet] at hquiet
  exact absurd hquiet (by decide)

end Sys2Proof.Machine
end

section
/-! Statements that leave a case out: each is refuted by a state of that case. -/

namespace Sys2Proof.Machine

/-- What is known of the next state holds of the state that a statement names. -/
theorem next_spec {r : Res} {u : State} {P : State → Prop} (h : ∃ v, r = .next v ∧ P v) (hu : r = .next u) : P u := by
  obtain ⟨v, hv, hP⟩ := h
  exact Host.Outcome.next.inj (hv.symm.trans hu) ▸ hP

/-! ## Reads of PF1 in D3hot -/

/-- PF1 is in D3hot (R438). -/
def sleepingPf1 : State := { State.reset with host := { State.reset.host with sleep1 := true } }

theorem sleepingPf1_read_reply :
    ∃ u, exec (.clearOnRead .pf1 0x3000) sleepingPf1 = .next u ∧ u.reply = [0xFFFFFFFF] := ⟨_, rfl, by decide +kernel⟩

/-- Refutes O7: a read by PF1 of an unmapped address answers all ones, and not zero, while PF1 is in D3hot. -/
theorem not_registerAccesses : ¬ Obligations.RegisterAccesses := by
  unfold Obligations.RegisterAccesses
  rintro ⟨-, -, -, -, hunmapped, -⟩
  obtain ⟨u, hu, hreply, -⟩ := hunmapped 0x3000 sleepingPf1 (by decide)
  have hones := next_spec sleepingPf1_read_reply hu
  exact absurd (hones.symm.trans hreply) (by decide)

/-! ## A core reset while a lamp pulse is announced -/

/-- A pulse of lamp channel 0 is announced for 100 clocks on (R320). -/
def announcedPulse : State := { State.reset with lamp := { chans := [(0, { pulses := [(100, 10)], due := 200 })] } }

theorem announcedPulse_pllLoss_out :
    ∃ u, exec (.pllLossOfLock .core true) announcedPulse = .next u ∧ u.out ≠ announcedPulse.coreSilent.out :=
  ⟨_, rfl, by decide +kernel⟩

/-- Refutes O36: the core reset of a lost PLL also cuts the lamp pulses that are announced, and reports each cut. -/
theorem not_moduleResetsAndClocks : ¬ Obligations.ModuleResetsAndClocks := by
  unfold Obligations.ModuleResetsAndClocks
  rintro ⟨-, -, -, -, -, -, -, -, -, -, -, -, hcore, -⟩
  obtain ⟨u, hu, -, -, -, hout, -⟩ := hcore announcedPulse (by decide) (by decide)
  have hne := next_spec announcedPulse_pllLoss_out hu
  exact hne hout

/-! ## SAFE while a lane is stopped -/

/-- IDLE with a scheduled stop due (R428), where lane 0 is ACTIVE and has been stopped already. -/
def stoppedLane : State :=
  { State.reset.wrs [(Reg.SYS_MODULE_STATE, 3), (Reg.CH_LINK_STATUS 0, 5)] with
    dram := { stop := true }, line := { stopped := [0] } }

theorem stoppedLane_scheduledStop_out :
    ∃ u, exec .scheduledStop stoppedLane = .next u ∧
      Out.block 0 (stopBlock false stoppedLane.pairMode 7 (stoppedLane.line.lastTickLine.getD 0)) ∉ u.out := ⟨_, rfl, by decide +kernel⟩

/-- Refutes O41: a lane that has been stopped already is not sent HALT again. -/
theorem not_dramReadsAndStops : ¬ Obligations.DramReadsAndStops := by
  unfold Obligations.DramReadsAndStops
  rintro ⟨-, -, -, -, -, -, -, -, -, -, -, -, -, -, -, -, -, -, -, -, -, -, hsafe, -⟩
  obtain ⟨u, hu, -, -, -, -, hhalt, -⟩ := hsafe stoppedLane (by decide) (by decide) (by decide) (by decide)
  have hnone := next_spec stoppedLane_scheduledStop_out hu
  exact hnone (hhalt 0 (by decide))

/-! ## Widening of a peer port -/

/-- Peer port 0 is UP on one lane, its background retraining is on, and all four lanes are locked. -/
def lockedLanes : State :=
  State.reset.wrs [(Reg.PEER_PORT_CFG 0, 2 ^ 8), (Reg.STATUS (Reg.pagePEER 0), 4 * 2 ^ 4),
    (Reg.PEER_PORT_STATUS 0, 0x2E40F)]

theorem lockedLanes_bgRetrain_width : ∃ u, exec (.bgRetrain 0 0) lockedLanes = .next u ∧ u.width 0 = 2 :=
  ⟨_, rfl, by decide +kernel⟩

/-- Refutes O47: lanes that are locked, but that BG_RETRAIN does not name, do not widen the port. -/
theorem not_peerPorts : ¬ Obligations.PeerPorts := by
  unfold Obligations.PeerPorts
  rintro ⟨-, -, -, -, -, -, -, -, -, -, -, -, -, -, -, -, -, -, -, -, hwiden, -⟩
  obtain ⟨u, hu, -, hwidth, -⟩ := hwiden 0 0 lockedLanes (by decide) (by decide) (by decide)
  have hone := next_spec lockedLanes_bgRetrain_width hu
  exact absurd (hone.symm.trans hwidth) (by decide)

end Sys2Proof.Machine
end

section
/-! More statements that a state of a case they leave out refutes. -/

namespace Sys2Proof.Machine

/-- The test P of the next state, where there is one. -/
def nextHas (P : State → Bool) : Res → Bool
  | .next u => P u
  | _ => false

theorem nextHas_spec {r : Res} {u : State} {P : State → Bool} (h : nextHas P r = true) (hu : r = .next u) :
    P u = true := by
  subst hu
  exact h

/-! ## The PAIR page outside the pair modes -/

theorem reset_configLock_pair :
    ∃ u, exec (.configLock .ranger Reg.pagePAIR) State.reset = .next u ∧ u.bit (Reg.CTRL Reg.pagePAIR) 3 = false :=
  ⟨_, rfl, by decide +kernel⟩

/-- Refutes O18: outside the pair modes the PAIR page takes no CONFIG_LOCK (R378). -/
theorem not_pageCommands : ¬ Obligations.PageCommands := by
  unfold Obligations.PageCommands
  rintro ⟨hlock, -⟩
  obtain ⟨u, hu, hset, -⟩ := hlock .ranger Reg.pagePAIR State.reset (by decide)
  exact absurd ((next_spec reset_configLock_pair hu).symm.trans hset) (by decide)

/-! ## A stray block on the stream of a camera port that is not UP -/

/-- Camera port 0 is in DESKEW (R245). -/
def deskewPort : State := State.reset.wrs [(Reg.STATUS (Reg.pageCAM 0), 3 * 2 ^ 4)]

theorem deskewPort_cciReply_errs :
    ∃ u, exec (.cciReply 0 0) deskewPort = .next u ∧ u.rd (Reg.CAM_LINK_ERR_COUNT 0) = 1 := ⟨_, rfl, by decide +kernel⟩

/-- Refutes O29: in DESKEW a block that the receiver discards counts in LINK_ERR_COUNT. -/
theorem not_cameraPorts : ¬ Obligations.CameraPorts := by
  unfold Obligations.CameraPorts
  rintro ⟨-, -, -, -, -, -, -, -, -, -, -, -, -, -, -, -, -, -, -, hstray, -⟩
  have hcount := next_spec deskewPort_cciReply_errs (hstray 0 0 deskewPort (by decide))
  exact absurd hcount (by decide)

/-! ## RESUME with the DRAM clock stopped -/

/-- PARK, with the DRAM loop unlocked and a RESUME request taken on channel 3. -/
def parked : State :=
  let s := State.reset.wrs
    [(Reg.SYS_MODULE_STATE, 6), (Reg.CLK_PLL_STATUS, 0), (kTypeTag 3, 0x201), (kMbStatus 3, 0x502)]
  { s with mgmt := { s.mgmt with up := true } }

theorem parked_resume_pll :
    ∃ u, exec (.resumeRequest 3) parked = .next u ∧ u.rd Reg.CLK_PLL_STATUS = 2 := ⟨_, rfl, by decide +kernel⟩

/-- Refutes O34: RESUME starts the DRAM loop again, which shows in CLK.PLL_STATUS. -/
theorem not_mailboxServices : ¬ Obligations.MailboxServices := by
  unfold Obligations.MailboxServices
  rintro ⟨-, -, -, -, -, -, -, -, -, hresume, -⟩
  obtain ⟨u, hu, -, -, -, -, -, hpages, -⟩ := hresume 3 parked (by decide) (by decide) (by decide) (by decide)
  have hpll := hpages Reg.CLK_PLL_STATUS (by decide)
  exact absurd ((next_spec parked_resume_pll hu).symm.trans hpll) (by decide)

/-! ## Boot while a lamp pulse is announced -/

/-- What the boot chain finds where bank A can be booted and no channel trains. -/
def untrained : BootOutcome := { margins := [], badRecords := [], aOk := true, bOk := false }

theorem announcedPulse_boot_out :
    nextHas (fun u => decide (u.out ≠ announcedPulse.out ++ [Out.uart 0 [0]])) (exec (.boot untrained) announcedPulse) =
      true := by decide +kernel

/-- Refutes O37: a boot that ends in SAFE cuts the lamp pulses that are announced, and reports each cut. -/
theorem not_standbyResetsAndBoot : ¬ Obligations.StandbyResetsAndBoot := by
  unfold Obligations.StandbyResetsAndBoot
  rintro ⟨-, -, -, -, -, -, -, -, -, -, -, hsafe, -⟩
  obtain ⟨u, hu, -, -, -, -, -, -, -, -, hout, -⟩ := hsafe untrained factoryImage announcedPulse (by decide) rfl
    (by decide +kernel) (by decide +kernel) rfl rfl rfl (by decide +kernel)
  exact of_decide_eq_true (nextHas_spec announcedPulse_boot_out hu) hout

end Sys2Proof.Machine
end

section
/-! Statements that promise a HALT on every ACTIVE lane: a lane that has been stopped already gets none. -/

namespace Sys2Proof.Machine

/-- After reset, lane 0 is ACTIVE and has been stopped already. -/
def haltedLane : State := { State.reset.wrs [(Reg.CH_LINK_STATUS 0, 5)] with line := { stopped := [0] } }

theorem haltedLane_active : 0 ∈ haltedLane.activeLanes := by decide +kernel

theorem haltedLane_mainsFail_out :
    nextHas (fun u => decide (Out.block 0 (stopBlock false haltedLane.pairMode 3 (haltedLane.line.lastTickLine.getD 0)) ∉
      u.out)) (exec (.mainsFail 0) haltedLane) = true := by decide +kernel

/-- Refutes O39: MAINS_FAIL sends no second HALT to a lane that has been stopped. -/
theorem not_mainsAndRails : ¬ Obligations.MainsAndRails := by
  unfold Obligations.MainsAndRails
  rintro ⟨-, -, -, -, hfail, -⟩
  obtain ⟨u, hu, -, -, -, -, -, -, -, -, hhalt, -⟩ := hfail 0 haltedLane (by decide) (by decide)
  exact of_decide_eq_true (nextHas_spec haltedLane_mainsFail_out hu) (hhalt 0 haltedLane_active)

theorem haltedLane_stopIn_out :
    nextHas (fun u => decide (Out.block 0 (stopBlock false false 1 (haltedLane.line.lastTickLine.getD 0)) ∉ u.out))
      (exec (.stopIn false) haltedLane) = true := by decide +kernel

/-- Refutes O40: STOP_IN sends no second HALT to a lane that has been stopped. -/
theorem not_thermalAndStopInput : ¬ Obligations.ThermalAndStopInput := by
  unfold Obligations.ThermalAndStopInput
  rintro ⟨-, -, -, -, -, -, -, -, -, -, -, -, -, -, hstop, -⟩
  obtain ⟨u, hu, -, -, hhalt, -⟩ := hstop false haltedLane (by decide) (by decide) (by decide)
  exact of_decide_eq_true (nextHas_spec haltedLane_stopIn_out hu) (hhalt 0 haltedLane_active)

end Sys2Proof.Machine
end

section
/-! More statements that a state of a case they leave out refutes: an encoder's last step back, a retrain that a head has asked
for already, and a lane that SYNC holds. -/

namespace Sys2Proof.Machine

/-- Encoder 0 is on and has less than one edge to count back. -/
def nearlyBack : State := { State.reset.wrs [(encCfg 0, 1)] with line := { enc0 := { behind := 1 } } }

theorem nearlyBack_encoderCount_phase :
    nextHas (fun u => decide ((u.enc 0).phase ≠ (nearlyBack.enc 0).phase)) (exec (.encoderCount 0 true 0 0) nearlyBack) =
      true := by decide +kernel

/-- Refutes O21: an edge of which only a part is counted back moves the phase by the rest. -/
theorem not_encoderCommands : ¬ Obligations.EncoderCommands := by
  unfold Obligations.EncoderCommands
  rintro ⟨-, -, -, hback, -⟩
  obtain ⟨u, hu, -, -, hphase, -⟩ := hback 0 true 0 0 nearlyBack (by decide) (by decide) (by decide) (by decide)
  exact of_decide_eq_true (nextHas_spec nearlyBack_encoderCount_phase hu) hphase

/-- PRINT, where the retrain that the head of lane 3 asked for has been noted. -/
def askedLane : State :=
  { State.reset.wrs [(Reg.STATUS Reg.pageLINE, 0x20), (Reg.CH_LINK_STATUS 3, 5)] with
    lanes := [(3, { asked := some false })] }

/-- A STATUS that asks for a retrain (R233). -/
def retrainStatus : HeadStatus :=
  { port := 0, retrainReq := true, fault := false, halted := false, aborted := false, temp := 0, tableSeq := 0,
    tableResult := 0, period := 0, counters := [], tickSkew := 0 }

theorem askedLane_headStatus_pending :
    nextHas (fun u => !u.retrainPending 3) (exec (.headStatus 3 retrainStatus) askedLane) = true := by decide +kernel

/-- Refutes O16: a retrain that has been asked for already is not made pending again. -/
theorem not_headStatusAndTables : ¬ Obligations.HeadStatusAndTables := by
  unfold Obligations.HeadStatusAndTables
  rintro ⟨-, hasks, -⟩
  obtain ⟨u, hu, hpending, -⟩ :=
    hasks 3 retrainStatus askedLane (by decide) rfl (by decide) (by decide) (by decide) (by decide)
  have hnot := nextHas_spec askedLane_headStatus_pending hu
  exact absurd hpending (by simpa using hnot)

/-- The leader of a pair in SYNC, whose lane 3 is held in EXCHANGE for the partner. -/
def heldLane : State :=
  { State.reset.wrs [(Reg.SYS_CONFIG, 1), (Reg.CH_LINK_STATUS 3, 4), (Reg.PAIR_PAIR_STATUS, 0x612)] with
    lanes := [(3, { heldPair := true })] }

theorem heldLane_syncComplete_lanes :
    nextHas (fun u => decide (u.lanes ≠ heldLane.lanes)) (exec .syncComplete heldLane) = true := by decide +kernel

/-- Refutes O51: the end of SYNC lets go of the lanes that were held for the partner. -/
theorem not_pairAgreement : ¬ Obligations.PairAgreement := by
  unfold Obligations.PairAgreement
  rintro ⟨-, -, -, -, -, -, -, -, -, -, -, -, -, -, -, -, -, -, -, hsync, -⟩
  obtain ⟨u, hu, -, -, -, -, -, hframe⟩ := hsync heldLane (by decide) (by decide) rfl (by decide)
  have hlanes := congrArg State.lanes hframe
  exact of_decide_eq_true (nextHas_spec heldLane_syncComplete_lanes hu) hlanes

end Sys2Proof.Machine
end

section
/-! The end of the HELLO exchange on a lane that a stop has held. -/

namespace Sys2Proof.Machine

/-- Lane 3 is in EXCHANGE after a port stop (R223). -/
def stoppedExchange : State := { State.reset.wrs [(Reg.CH_LINK_STATUS 3, 4)] with line := { stopped := [3] } }

/-- The HELLO of a head that the module can work with, with ACK. -/
def goodHello : HeadHello :=
  { version := 0x10, ack := true, vendor := 0, model := 0, serial := 0, nozzles := 6144, formats := 1, port := 0,
    buffer := 64, tableMax := 1, eyePass := 0, maxRate := 80000 }

theorem stoppedExchange_headHello_line :
    nextHas (fun u => decide (u.line ≠ stoppedExchange.line)) (exec (.headHello 3 goodHello 0) stoppedExchange) = true := by
  decide +kernel

/-- Refutes O15: a lane that becomes ACTIVE is no longer among the stopped ones. -/
theorem not_headHelloExchange : ¬ Obligations.HeadHelloExchange := by
  unfold Obligations.HeadHelloExchange
  rintro ⟨-, -, -, -, hactive, -⟩
  obtain ⟨u, hu, -, -, -, -, -, -, -, -, -, -, hframe⟩ := hactive 3 goodHello 0 stoppedExchange (by decide)
    (by decide +kernel) (by decide) (by decide) (by decide)
  have hline := congrArg State.line hframe
  exact of_decide_eq_true (nextHas_spec stoppedExchange_headHello_line hu) hline

end Sys2Proof.Machine
end

section
/-! The generation in a network heartbeat. -/

namespace Sys2Proof.Machine

/-- The leader of a pair that is PAIRED, both of whose paths are good, with an empty Lookout key. -/
def pairedLeader : State :=
  { State.reset.wrs [(Reg.SYS_CONFIG, 1), (Reg.PAIR_PAIR_STATUS, 0x613), (Reg.STATUS Reg.pagePAIR, 0x30)] with
    mgmt := { State.reset.mgmt with journal := [{ half := 0, kind := 0x31, key := 0, seq := 1, data := [] }] }
    pair := { partnerCond := 3 } }

/-- The bytes of a message of a type without its MAC, from the slot 0 in the role 2, with epoch 0, SEQ 5 and an ARG. -/
def messageBytes (type arg : Nat) : List Byte := lookoutBytes type 0 2 0 0 0 5 0 0 arg

/-- Such a message with its MAC under the empty key. -/
def emptyKeyMessage (type arg : Nat) : LookoutMsg := { bytes := messageBytes type arg ++ hmac [] (messageBytes type arg) }

theorem pairedLeader_networkHeartbeat_gen :
    nextHas (fun u => decide (u.regs ≠ pairedLeader.regs)) (exec (.networkHeartbeat (emptyKeyMessage 0x10 1) 0) pairedLeader) =
      true := by decide +kernel

/-- Refutes O48: a network heartbeat whose generation is 1 shows it in PARTNER_GEN. -/
theorem not_pairHeartbeats : ¬ Obligations.PairHeartbeats := by
  unfold Obligations.PairHeartbeats
  rintro ⟨-, -, -, -, hnetwork, -⟩
  obtain ⟨u, hu, -, -, -, -, hframe⟩ := hnetwork (emptyKeyMessage 0x10 1) 0 pairedLeader (by decide) (by decide +kernel)
    (by decide +kernel) (by decide) (by decide) (by decide +kernel) (by decide) (by decide) (by decide) (by decide +kernel)
  have hregs := congrArg State.regs hframe
  exact of_decide_eq_true (nextHas_spec pairedLeader_networkHeartbeat_gen hu) hregs

end Sys2Proof.Machine
end

section
/-! What an update leaves alone: the parts of a state beside its registers, and the registers that the shared operations
reach. A frame of a statement is the equality of every part that it does not name. -/

namespace Sys2Proof.Machine

/-- The parts of a state beside its registers. -/
inductive Part where
  | frc | shadow | latchR | latchW | frozen | locks | msix | line | slots | scr | splices | job | lanes | cam | colour
  | lamp | pair | ring | net | tio | dram | host | mgmt | pwr | reply | out | freeCount | pending
  deriving DecidableEq

/-- Two states agree in a part. -/
def State.sameAt (s t : State) : Part → Prop
  | .frc => t.frc = s.frc
  | .shadow => t.shadow = s.shadow
  | .latchR => t.latchR = s.latchR
  | .latchW => t.latchW = s.latchW
  | .frozen => t.frozen = s.frozen
  | .locks => t.locks = s.locks
  | .msix => t.msix = s.msix
  | .line => t.line = s.line
  | .slots => t.slots = s.slots
  | .scr => t.scr = s.scr
  | .splices => t.splices = s.splices
  | .job => t.job = s.job
  | .lanes => t.lanes = s.lanes
  | .cam => t.cam = s.cam
  | .colour => t.colour = s.colour
  | .lamp => t.lamp = s.lamp
  | .pair => t.pair = s.pair
  | .ring => t.ring = s.ring
  | .net => t.net = s.net
  | .tio => t.tio = s.tio
  | .dram => t.dram = s.dram
  | .host => t.host = s.host
  | .mgmt => t.mgmt = s.mgmt
  | .pwr => t.pwr = s.pwr
  | .reply => t.reply = s.reply
  | .out => t.out = s.out
  | .freeCount => t.freeCount = s.freeCount
  | .pending => t.pending = s.pending

/-- Two states agree but for their registers and the parts of a list. -/
def State.Agree (ps : List Part) (s t : State) : Prop := ∀ p ∉ ps, s.sameAt t p

/-- A state with its registers and the parts of a list as in another. -/
def State.revert (ps : List Part) (s t : State) : State where
  frc := if .frc ∈ ps then s.frc else t.frc
  regs := s.regs
  shadow := if .shadow ∈ ps then s.shadow else t.shadow
  latchR := if .latchR ∈ ps then s.latchR else t.latchR
  latchW := if .latchW ∈ ps then s.latchW else t.latchW
  frozen := if .frozen ∈ ps then s.frozen else t.frozen
  locks := if .locks ∈ ps then s.locks else t.locks
  msix := if .msix ∈ ps then s.msix else t.msix
  line := if .line ∈ ps then s.line else t.line
  slots := if .slots ∈ ps then s.slots else t.slots
  scr := if .scr ∈ ps then s.scr else t.scr
  splices := if .splices ∈ ps then s.splices else t.splices
  job := if .job ∈ ps then s.job else t.job
  lanes := if .lanes ∈ ps then s.lanes else t.lanes
  cam := if .cam ∈ ps then s.cam else t.cam
  colour := if .colour ∈ ps then s.colour else t.colour
  lamp := if .lamp ∈ ps then s.lamp else t.lamp
  pair := if .pair ∈ ps then s.pair else t.pair
  ring := if .ring ∈ ps then s.ring else t.ring
  net := if .net ∈ ps then s.net else t.net
  tio := if .tio ∈ ps then s.tio else t.tio
  dram := if .dram ∈ ps then s.dram else t.dram
  host := if .host ∈ ps then s.host else t.host
  mgmt := if .mgmt ∈ ps then s.mgmt else t.mgmt
  pwr := if .pwr ∈ ps then s.pwr else t.pwr
  reply := if .reply ∈ ps then s.reply else t.reply
  out := if .out ∈ ps then s.out else t.out
  freeCount := if .freeCount ∈ ps then s.freeCount else t.freeCount
  pending := if .pending ∈ ps then s.pending else t.pending

theorem reverted {α : Type} {c : Prop} [Decidable c] {x y : α} (h : ¬ c → y = x) : (if c then x else y) = x := by
  split
  · rfl
  · exact h ‹_›

/-- Where only those parts differ, restoring them restores the state. -/
theorem State.Agree.revert_eq {ps : List Part} {s t : State} (h : s.Agree ps t) : State.revert ps s t = s := by
  unfold State.revert
  rw [reverted (h .frc), reverted (h .shadow), reverted (h .latchR), reverted (h .latchW), reverted (h .frozen),
    reverted (h .locks), reverted (h .msix), reverted (h .line), reverted (h .slots), reverted (h .scr),
    reverted (h .splices), reverted (h .job), reverted (h .lanes), reverted (h .cam), reverted (h .colour),
    reverted (h .lamp), reverted (h .pair), reverted (h .ring), reverted (h .net), reverted (h .tio),
    reverted (h .dram), reverted (h .host), reverted (h .mgmt), reverted (h .pwr), reverted (h .reply),
    reverted (h .out), reverted (h .freeCount), reverted (h .pending)]

section
variable {ps : List Part} {s t u : State}

@[simp] theorem State.Agree.refl (s : State) : s.Agree ps s := fun p _ => by cases p <;> rfl

theorem State.Agree.trans (h : s.Agree ps t) (h' : t.Agree ps u) : s.Agree ps u := by
  intro p hp
  have h1 := h p hp
  have h2 := h' p hp
  cases p <;> exact h2.trans h1

theorem State.Agree.symm (h : s.Agree ps t) : t.Agree ps s := by
  intro p hp
  have h1 := h p hp
  cases p <;> exact h1.symm

/-- What two states agree in, a third agrees in with both or with neither. -/
theorem State.Agree.iff (h : t.Agree ps u) : s.Agree ps u ↔ s.Agree ps t :=
  ⟨fun hu => hu.trans h.symm, fun ht => ht.trans h⟩

theorem State.Agree.mono {qs : List Part} (h : s.Agree ps t) (hsub : ps ⊆ qs) : s.Agree qs t :=
  fun p hp => h p fun hq => hp (hsub hq)

/-- Two states agree where each part either is in the list or is the same in both. -/
theorem State.agree_of (t u : State)
    (h_frc : .frc ∉ ps → u.frc = t.frc)
    (h_shadow : .shadow ∉ ps → u.shadow = t.shadow)
    (h_latchR : .latchR ∉ ps → u.latchR = t.latchR)
    (h_latchW : .latchW ∉ ps → u.latchW = t.latchW)
    (h_frozen : .frozen ∉ ps → u.frozen = t.frozen)
    (h_locks : .locks ∉ ps → u.locks = t.locks)
    (h_msix : .msix ∉ ps → u.msix = t.msix)
    (h_line : .line ∉ ps → u.line = t.line)
    (h_slots : .slots ∉ ps → u.slots = t.slots)
    (h_scr : .scr ∉ ps → u.scr = t.scr)
    (h_splices : .splices ∉ ps → u.splices = t.splices)
    (h_job : .job ∉ ps → u.job = t.job)
    (h_lanes : .lanes ∉ ps → u.lanes = t.lanes)
    (h_cam : .cam ∉ ps → u.cam = t.cam)
    (h_colour : .colour ∉ ps → u.colour = t.colour)
    (h_lamp : .lamp ∉ ps → u.lamp = t.lamp)
    (h_pair : .pair ∉ ps → u.pair = t.pair)
    (h_ring : .ring ∉ ps → u.ring = t.ring)
    (h_net : .net ∉ ps → u.net = t.net)
    (h_tio : .tio ∉ ps → u.tio = t.tio)
    (h_dram : .dram ∉ ps → u.dram = t.dram)
    (h_host : .host ∉ ps → u.host = t.host)
    (h_mgmt : .mgmt ∉ ps → u.mgmt = t.mgmt)
    (h_pwr : .pwr ∉ ps → u.pwr = t.pwr)
    (h_reply : .reply ∉ ps → u.reply = t.reply)
    (h_out : .out ∉ ps → u.out = t.out)
    (h_freeCount : .freeCount ∉ ps → u.freeCount = t.freeCount)
    (h_pending : .pending ∉ ps → u.pending = t.pending) :
    t.Agree ps u := by
  intro p hp
  cases p
  case frc => exact h_frc hp
  case shadow => exact h_shadow hp
  case latchR => exact h_latchR hp
  case latchW => exact h_latchW hp
  case frozen => exact h_frozen hp
  case locks => exact h_locks hp
  case msix => exact h_msix hp
  case line => exact h_line hp
  case slots => exact h_slots hp
  case scr => exact h_scr hp
  case splices => exact h_splices hp
  case job => exact h_job hp
  case lanes => exact h_lanes hp
  case cam => exact h_cam hp
  case colour => exact h_colour hp
  case lamp => exact h_lamp hp
  case pair => exact h_pair hp
  case ring => exact h_ring hp
  case net => exact h_net hp
  case tio => exact h_tio hp
  case dram => exact h_dram hp
  case host => exact h_host hp
  case mgmt => exact h_mgmt hp
  case pwr => exact h_pwr hp
  case reply => exact h_reply hp
  case out => exact h_out hp
  case freeCount => exact h_freeCount hp
  case pending => exact h_pending hp

/-- An update of some parts of a state, each of them in the list. -/
@[simp] theorem State.agree_mk {frc shadow latchR latchW frozen locks msix line slots scr splices job lanes cam colour
    lamp pair ring net tio dram host mgmt pwr reply out freeCount pending}
    (h_frc : .frc ∉ ps → frc = t.frc)
    (h_shadow : .shadow ∉ ps → shadow = t.shadow)
    (h_latchR : .latchR ∉ ps → latchR = t.latchR)
    (h_latchW : .latchW ∉ ps → latchW = t.latchW)
    (h_frozen : .frozen ∉ ps → frozen = t.frozen)
    (h_locks : .locks ∉ ps → locks = t.locks)
    (h_msix : .msix ∉ ps → msix = t.msix)
    (h_line : .line ∉ ps → line = t.line)
    (h_slots : .slots ∉ ps → slots = t.slots)
    (h_scr : .scr ∉ ps → scr = t.scr)
    (h_splices : .splices ∉ ps → splices = t.splices)
    (h_job : .job ∉ ps → job = t.job)
    (h_lanes : .lanes ∉ ps → lanes = t.lanes)
    (h_cam : .cam ∉ ps → cam = t.cam)
    (h_colour : .colour ∉ ps → colour = t.colour)
    (h_lamp : .lamp ∉ ps → lamp = t.lamp)
    (h_pair : .pair ∉ ps → pair = t.pair)
    (h_ring : .ring ∉ ps → ring = t.ring)
    (h_net : .net ∉ ps → net = t.net)
    (h_tio : .tio ∉ ps → tio = t.tio)
    (h_dram : .dram ∉ ps → dram = t.dram)
    (h_host : .host ∉ ps → host = t.host)
    (h_mgmt : .mgmt ∉ ps → mgmt = t.mgmt)
    (h_pwr : .pwr ∉ ps → pwr = t.pwr)
    (h_reply : .reply ∉ ps → reply = t.reply)
    (h_out : .out ∉ ps → out = t.out)
    (h_freeCount : .freeCount ∉ ps → freeCount = t.freeCount)
    (h_pending : .pending ∉ ps → pending = t.pending) :
    s.Agree ps ⟨frc, t.regs, shadow, latchR, latchW, frozen, locks, msix, line, slots, scr, splices, job, lanes, cam,
    colour, lamp, pair, ring, net, tio, dram, host, mgmt, pwr, reply, out, freeCount, pending⟩ ↔ s.Agree ps t :=
  (State.agree_of t ⟨frc, t.regs, shadow, latchR, latchW, frozen, locks, msix, line, slots, scr, splices, job, lanes,
    cam, colour, lamp, pair, ring, net, tio, dram, host, mgmt, pwr, reply, out, freeCount, pending⟩ h_frc h_shadow
    h_latchR h_latchW h_frozen h_locks h_msix h_line h_slots h_scr h_splices h_job h_lanes h_cam h_colour h_lamp h_pair
    h_ring h_net h_tio h_dram h_host h_mgmt h_pwr h_reply h_out h_freeCount h_pending).iff

/-- A change of parts leaves the registers as they read, and one of other parts the lanes. -/
@[simp] theorem State.rd_mk {frc shadow latchR latchW frozen locks msix line slots scr splices job lanes cam colour
    lamp pair ring net tio dram host mgmt pwr reply out freeCount pending} (k : Nat) :
    State.rd ⟨frc, t.regs, shadow, latchR, latchW, frozen, locks, msix, line, slots, scr, splices, job, lanes, cam,
    colour, lamp, pair, ring, net, tio, dram, host, mgmt, pwr, reply, out, freeCount, pending⟩ k = t.rd k := rfl

@[simp] theorem State.lane_mk {regs frc shadow latchR latchW frozen locks msix line slots scr splices job cam colour
    lamp pair ring net tio dram host mgmt pwr reply out freeCount pending} (c : Nat) :
    State.lane ⟨frc, regs, shadow, latchR, latchW, frozen, locks, msix, line, slots, scr, splices, job, t.lanes, cam,
    colour, lamp, pair, ring, net, tio, dram, host, mgmt, pwr, reply, out, freeCount, pending⟩ c = t.lane c := rfl

@[simp] theorem State.agree_ite {c : Prop} [Decidable c] :
    s.Agree ps (if c then t else u) ↔ (if c then s.Agree ps t else s.Agree ps u) := by split <;> rfl

@[simp] theorem State.rd_ite {c : Prop} [Decidable c] (k : Nat) :
    (if c then t else u).rd k = if c then t.rd k else u.rd k := by split <;> rfl

end

end Sys2Proof.Machine
end

section
/-! The primitive updates as the reads and frames of the statements need them: what a register reads after each, and the
parts that each leaves alone. -/

namespace Sys2Proof.Machine

/-! ## The registers that an update reaches -/

section
variable (s : State)

@[simp] theorem State.rd_wr_of_ne {a k : Nat} (v : Nat) (h : k ≠ a) : (s.wr a v).rd k = s.rd k := s.rd_wr_ne a v k h

@[simp] theorem State.rd_wrF_of_ne {a k : Nat} (hi lo v : Nat) (h : k ≠ a) : (s.wrF a hi lo v).rd k = s.rd k :=
  s.rd_wr_ne a _ k h

@[simp] theorem State.rd_wrF_same (a : Nat) {hi lo : Nat} (v : Nat) (hl : lo ≤ hi) (hw : hi < 32) :
    (s.wrF a hi lo v).rd a = putFld (s.rd a) hi lo v := by rw [s.rd_wrF a hi lo v a hl hw, if_pos rfl]

@[simp] theorem State.rd_wrB_of_ne {a k : Nat} (i : Nat) (b : Bool) (h : k ≠ a) : (s.wrB a i b).rd k = s.rd k :=
  s.rd_wr_ne a _ k h

@[simp] theorem State.rd_wrB_same (a : Nat) {i : Nat} (b : Bool) (hi : i < 32) :
    (s.wrB a i b).rd a = putB (s.rd a) i b := by rw [s.rd_wrB a i a b hi, if_pos rfl]

@[simp] theorem State.rd_intSet_of_ne {p k : Nat} (i : Nat) (h : k ≠ Reg.INT_STATUS p) : (s.intSet p i).rd k = s.rd k :=
  s.rd_wr_ne _ _ k h

@[simp] theorem State.rd_intSet_same {p k i : Nat} (h : k = Reg.INT_STATUS p) (hi : i < 32) :
    (s.intSet p i).rd k = putB (s.rd k) i true := by rw [h]; exact s.rd_wrB_same _ true hi

@[simp] theorem State.rd_count_of_ne {a k : Nat} (h : k ≠ a) : (s.count a).rd k = s.rd k := s.rd_wr_ne a _ k h

@[simp] theorem State.rd_count_same (a : Nat) : (s.count a).rd a = satInc 32 (s.rd a) := by rw [s.rd_count, if_pos rfl]

@[simp] theorem State.rd_ready_of_ne {p k : Nat} (b : Bool) (h : k ≠ Reg.STATUS p) : (s.ready p b).rd k = s.rd k :=
  s.rd_wr_ne _ _ k h

@[simp] theorem State.rd_ready_same {p k : Nat} (b : Bool) (h : k = Reg.STATUS p) :
    (s.ready p b).rd k = putB (s.rd k) 0 b := by rw [h]; exact s.rd_wrB_same _ b (by decide)

@[simp] theorem State.rd_busy_of_ne {p k : Nat} (b : Bool) (h : k ≠ Reg.STATUS p) : (s.busy p b).rd k = s.rd k :=
  s.rd_wr_ne _ _ k h

@[simp] theorem State.rd_busy_same {p k : Nat} (b : Bool) (h : k = Reg.STATUS p) :
    (s.busy p b).rd k = putB (s.rd k) 1 b := by rw [h]; exact s.rd_wrB_same _ b (by decide)

@[simp] theorem State.rd_degraded_of_ne {p k : Nat} (b : Bool) (h : k ≠ Reg.STATUS p) : (s.degraded p b).rd k = s.rd k :=
  s.rd_wr_ne _ _ k h

@[simp] theorem State.rd_degraded_same {p k : Nat} (b : Bool) (h : k = Reg.STATUS p) :
    (s.degraded p b).rd k = putB (s.rd k) 3 b := by rw [h]; exact s.rd_wrB_same _ b (by decide)

@[simp] theorem State.rd_setStCode_of_ne {p k : Nat} (v : Nat) (h : k ≠ Reg.STATUS p) :
    (s.setStCode p v).rd k = s.rd k := s.rd_wr_ne _ _ k h

@[simp] theorem State.rd_setStCode_same {p k : Nat} (v : Nat) (h : k = Reg.STATUS p) :
    (s.setStCode p v).rd k = putFld (s.rd k) 7 4 v := by rw [h]; exact s.rd_wrF_same _ v (by decide) (by decide)

@[simp] theorem State.rd_fault_of_ne {p k : Nat} (b : Bool) (h : k ≠ Reg.STATUS p) (h' : k ≠ Reg.INT_STATUS p) :
    (s.fault p b).rd k = s.rd k := by
  unfold State.fault
  split
  · rw [State.rd_intSet_of_ne _ _ h', s.rd_wrB_of_ne _ _ h]
  · rw [s.rd_wrB_of_ne _ _ h]

@[simp] theorem State.rd_fault_same {p k : Nat} (b : Bool) (h : k = Reg.STATUS p) :
    (s.fault p b).rd k = putB (s.rd k) 2 b := by
  subst h
  unfold State.fault
  split
  · rw [State.rd_intSet_of_ne _ _ (by simp), s.rd_wrB_same _ _ (by decide)]
  · rw [s.rd_wrB_same _ _ (by decide)]

@[simp] theorem State.rd_error_of_notMem {p k : Nat} (code off source : Nat) (h : k ∉ errorKeys p) :
    (s.error p code off source).rd k = s.rd k := s.regsBut_error p code off source k h

@[simp] theorem State.rd_error_intStatus {p k : Nat} (code off source : Nat) (h : k = Reg.INT_STATUS p) :
    (s.error p code off source).rd k = putB (s.rd k) 4 true := by rw [h, State.rd_error, if_pos rfl]; rfl

@[simp] theorem State.rd_errHw_intStatus {p k : Nat} (code : Nat) (h : k = Reg.INT_STATUS p) :
    (s.errHw p code).rd k = putB (s.rd k) 4 true := s.rd_error_intStatus _ _ _ h

@[simp] theorem State.rd_errAt_of_notMem {p k : Nat} (code key : Nat) (src : Req) (h : k ∉ errorKeys p) :
    (s.errAt p code key src).rd k = s.rd k := s.rd_error_of_notMem _ _ _ h

@[simp] theorem State.rd_errHw_of_notMem {p k : Nat} (code : Nat) (h : k ∉ errorKeys p) :
    (s.errHw p code).rd k = s.rd k := s.rd_error_of_notMem _ _ _ h

@[simp] theorem State.rd_tallyAt_of_notMem {k : Nat} (code source inst sev line arg : Nat) (h : k ∉ tallyKeys) :
    (s.tallyAt code source inst sev line arg).rd k = s.rd k := by
  simp only [tallyKeys, List.mem_cons, List.not_mem_nil, or_false, not_or] at h
  obtain ⟨hdropped, hint⟩ := h
  unfold State.tallyAt
  split_ifs
  · rfl
  · rfl
  · calc ((s.count Reg.TALLY_DROPPED).intSet Reg.pageTALLY 9).rd k
        = (s.count Reg.TALLY_DROPPED).rd k := State.rd_intSet_of_ne _ _ hint
      _ = s.rd k := s.rd_count_of_ne hdropped

@[simp] theorem State.rd_tally_of_notMem {k : Nat} (code source inst sev arg : Nat) (h : k ∉ tallyKeys) :
    (s.tally code source inst sev arg).rd k = s.rd k := s.rd_tallyAt_of_notMem _ _ _ _ _ _ h

@[simp] theorem mem_errorKeys (p k : Nat) :
    k ∈ errorKeys p ↔ k = Reg.ERR_INFO p ∨ k = Reg.ERR_COUNT p ∨ k = Reg.INT_STATUS p := by simp [errorKeys]

@[simp] theorem mem_tallyKeys (k : Nat) : k ∈ tallyKeys ↔ k = Reg.TALLY_DROPPED ∨ k = Reg.INT_STATUS Reg.pageTALLY := by
  simp [tallyKeys]

@[simp] theorem mem_moduleKeys (k : Nat) : k ∈ moduleKeys ↔ k = Reg.SYS_MODULE_STATE ∨ k = Reg.STATUS Reg.pageSYS ∨
    k = Reg.INT_STATUS Reg.pageSYS ∨ k = Reg.TALLY_DROPPED ∨ k = Reg.INT_STATUS Reg.pageTALLY := by simp [moduleKeys]

@[simp] theorem State.rd_setLane (c k : Nat) (l : Lane) : (s.setLane c l).rd k = s.rd k := rfl
@[simp] theorem State.rd_modLane (c k : Nat) (f : Lane → Lane) : (s.modLane c f).rd k = s.rd k := rfl

/-! ## The parts that an update leaves alone -/

variable {s} {t : State} {ps : List Part}

@[simp] theorem State.agree_wr (a v : Nat) : s.Agree ps (t.wr a v) ↔ s.Agree ps t := Iff.rfl
@[simp] theorem State.agree_wrF (a hi lo v : Nat) : s.Agree ps (t.wrF a hi lo v) ↔ s.Agree ps t := Iff.rfl
@[simp] theorem State.agree_wrB (a i : Nat) (b : Bool) : s.Agree ps (t.wrB a i b) ↔ s.Agree ps t := Iff.rfl
@[simp] theorem State.agree_wr64 (a b v : Nat) : s.Agree ps (t.wr64 a b v) ↔ s.Agree ps t := Iff.rfl
@[simp] theorem State.agree_count (a : Nat) : s.Agree ps (t.count a) ↔ s.Agree ps t := Iff.rfl
@[simp] theorem State.agree_countF (a hi lo : Nat) : s.Agree ps (t.countF a hi lo) ↔ s.Agree ps t := Iff.rfl
@[simp] theorem State.agree_intSet (p i : Nat) : s.Agree ps (t.intSet p i) ↔ s.Agree ps t := Iff.rfl
@[simp] theorem State.agree_ready (p : Nat) (b : Bool) : s.Agree ps (t.ready p b) ↔ s.Agree ps t := Iff.rfl
@[simp] theorem State.agree_busy (p : Nat) (b : Bool) : s.Agree ps (t.busy p b) ↔ s.Agree ps t := Iff.rfl
@[simp] theorem State.agree_degraded (p : Nat) (b : Bool) : s.Agree ps (t.degraded p b) ↔ s.Agree ps t := Iff.rfl
@[simp] theorem State.agree_setStCode (p v : Nat) : s.Agree ps (t.setStCode p v) ↔ s.Agree ps t := Iff.rfl

theorem State.agree_wrs (l : List (Nat × Nat)) : s.Agree ps (t.wrs l) ↔ s.Agree ps t := by
  unfold State.wrs
  induction l generalizing t with
  | nil => rfl
  | cons p l ih => exact ih

@[simp] theorem State.agree_fault (p : Nat) (b : Bool) : s.Agree ps (t.fault p b) ↔ s.Agree ps t := by
  simp [State.fault]

@[simp] theorem State.agree_error (p code off source : Nat) : s.Agree ps (t.error p code off source) ↔ s.Agree ps t := by
  simp [State.error]

@[simp] theorem State.agree_errAt (p code key : Nat) (src : Req) :
    s.Agree ps (t.errAt p code key src) ↔ s.Agree ps t := State.agree_error _ _ _ _

@[simp] theorem State.agree_errHw (p code : Nat) : s.Agree ps (t.errHw p code) ↔ s.Agree ps t := State.agree_error _ _ _ _

@[simp] theorem State.agree_emit (o : Out) (h : .out ∈ ps) : s.Agree ps (t.emit o) ↔ s.Agree ps t := by
  simp [State.emit, h]

@[simp] theorem State.agree_emits (l : List Out) (h : .out ∈ ps) : s.Agree ps (t.emits l) ↔ s.Agree ps t := by
  simp [State.emits, h]

@[simp] theorem State.agree_answer (l : List Nat) (h : .reply ∈ ps) : s.Agree ps (t.answer l) ↔ s.Agree ps t := by
  simp [State.answer, h]

@[simp] theorem State.agree_drew (h : .freeCount ∈ ps) : s.Agree ps t.drew ↔ s.Agree ps t := by
  simp [State.drew, h]

@[simp] theorem State.agree_till (n : Nat) (h : .frc ∈ ps) : s.Agree ps (t.till n) ↔ s.Agree ps t := by
  simp [State.till, h]

@[simp] theorem State.agree_setLane (c : Nat) (l : Lane) (h : .lanes ∈ ps) :
    s.Agree ps (t.setLane c l) ↔ s.Agree ps t := by simp [State.setLane, h]

@[simp] theorem State.agree_modLane (c : Nat) (f : Lane → Lane) (h : .lanes ∈ ps) :
    s.Agree ps (t.modLane c f) ↔ s.Agree ps t := State.agree_setLane _ _ h

@[simp] theorem State.agree_tallyAt (code source inst sev line arg : Nat) (h : .mgmt ∈ ps) :
    s.Agree ps (t.tallyAt code source inst sev line arg) ↔ s.Agree ps t := by
  simp -implicitDefEqProofs [State.tallyAt, h]

@[simp] theorem State.agree_tally (code source inst sev arg : Nat) (h : .mgmt ∈ ps) :
    s.Agree ps (t.tally code source inst sev arg) ↔ s.Agree ps t := State.agree_tallyAt _ _ _ _ _ _ h

end
end Sys2Proof.Machine
end

section
/-! The descriptor queues and the regions (R127, R133, R136, R137). -/

namespace Sys2Proof.Machine

/-- A refused access records its error, and reaches nothing else. -/
theorem State.refused_errAt {s : State} {r : Res} {page code key : Nat} {src : Req} (hcode : code < 0x10000)
    (h : r = .next (s.errAt page code key src)) :
    ∃ u : State, r = .next u ∧ s.errored u page code key (srcCode src) ∧ s.regsBut u (errorKeys page) ∧
      { u with regs := s.regs } = s :=
  ⟨_, h, s.errored_errAt page code key src hcode, s.regsBut_error page code _ _, s.error_frame page code _ _⟩

/-! ## The state of a queue -/

section
variable (s : State) (q : Nat)

theorem State.queueSt_setQueueSt (v : Nat) (hv : v < 16) : (s.setQueueSt q v).queueSt q = v := by
  unfold State.queueSt State.setQueueSt
  rw [State.rdF_wrF_same _ _ _ _ _ (by decide) (by decide)]
  exact Nat.mod_eq_of_lt hv

theorem State.regsBut_setQueueSt (v : Nat) : s.regsBut (s.setQueueSt q v) [Reg.YARD_Q_STATUS q] := by
  intro k hk
  rw [List.mem_singleton] at hk
  exact s.rd_wrF_of_ne _ _ _ hk

theorem State.queueHead_setQueueSt (v : Nat) : (s.setQueueSt q v).queueHead q = s.queueHead q := by
  unfold State.queueHead State.rdF
  rw [State.regsBut_setQueueSt s q v _ (by simp)]

theorem State.queueTail_setQueueSt (v : Nat) : (s.setQueueSt q v).queueTail q = s.queueTail q := by
  unfold State.queueTail State.rdF
  rw [State.regsBut_setQueueSt s q v _ (by simp)]

theorem State.queue_setQueue_same (x : Queue) : (s.setQueue q x).queue q = x := smGet_smSet_same _ _ _ _

/-- What ends or begins anew: nothing is in progress, and the queue is in another state. -/
theorem State.setQueue_setQueueSt_spec (v : Nat) (hv : v < 16) :
    ((s.setQueue q {}).setQueueSt q v).queue q = {} ∧ ((s.setQueue q {}).setQueueSt q v).queueSt q = v ∧
      ((s.setQueue q {}).setQueueSt q v).queueHead q = s.queueHead q ∧
      s.regsBut ((s.setQueue q {}).setQueueSt q v) [Reg.YARD_Q_STATUS q] ∧
      { (s.setQueue q {}).setQueueSt q v with regs := s.regs, job := s.job } = s :=
  ⟨s.queue_setQueue_same q {}, State.queueSt_setQueueSt _ q v hv, State.queueHead_setQueueSt _ q v,
    State.regsBut_setQueueSt _ q v, rfl⟩

/-! ## The doorbell -/

/-- A doorbell stores TAIL, which has 16 bits. -/
theorem State.queueTail_wr (tail : Nat) : (s.wr (Reg.YARD_Q_TAIL q) (tail % 65536)).queueTail q = tail % 65536 := by
  unfold State.queueTail State.rdF fld
  rw [State.rd_wr_same]
  omega

theorem State.queueSt_wrTail (v : Nat) : (s.wr (Reg.YARD_Q_TAIL q) v).queueSt q = s.queueSt q := by
  have hne : Reg.YARD_Q_STATUS q ≠ Reg.YARD_Q_TAIL q := by simp only [Reg.YARD_Q_STATUS, Reg.YARD_Q_TAIL]; omega
  unfold State.queueSt State.rdF
  rw [State.rd_wr_of_ne _ _ hne]

theorem State.queueHead_wrTail (v : Nat) : (s.wr (Reg.YARD_Q_TAIL q) v).queueHead q = s.queueHead q := by
  have hne : Reg.YARD_Q_HEAD q ≠ Reg.YARD_Q_TAIL q := by simp only [Reg.YARD_Q_HEAD, Reg.YARD_Q_TAIL]; omega
  unfold State.queueHead State.rdF
  rw [State.rd_wr_of_ne _ _ hne]

theorem State.doorbell_of_work {tail : Nat} (hidle : s.queueSt q = 0) (hwork : s.queueHead q ≠ tail % 65536) :
    s.doorbell q tail = (s.wr (Reg.YARD_Q_TAIL q) (tail % 65536)).setQueueSt q 1 := by
  unfold State.doorbell
  simp only [s.queueSt_wrTail, s.queueHead_wrTail, s.queueTail_wr]
  rw [if_pos ⟨hidle, hwork⟩]

theorem State.doorbell_of_noWork {tail : Nat} (h : s.queueSt q ≠ 0 ∨ s.queueHead q = tail % 65536) :
    s.doorbell q tail = s.wr (Reg.YARD_Q_TAIL q) (tail % 65536) := by
  unfold State.doorbell
  simp only [s.queueSt_wrTail, s.queueHead_wrTail, s.queueTail_wr]
  rw [if_neg (fun hb => h.elim (· hb.1) hb.2)]

end

/-! ## A region entry (R133) -/

/-- The state with a region's register written, before it is checked. -/
def State.regionWritten (s : State) (r reg data : Nat) : State :=
  s.wr (regionKey r reg) ((data &&& regionMask reg) + (s.rd (regionKey r reg) - (s.rd (regionKey r reg) &&& regionMask reg)))

section
variable {s : State} {src : Req} {r reg data : Nat}

/-- The checks of a region's entry in their order. -/
theorem State.regionWrite_eq : s.regionWrite src r reg data =
    if decide (56 ≤ r) && (isHost src || reg == 2) then s.errAt Reg.pageYARD 0x0005 (regionKey r reg) src
    else if decide (r < 56) && (List.range 64).any (fun q => q != r && (s.regionWritten r reg data).regionsOverlap r q) then
      s.errAt Reg.pageYARD 0x0110 (regionKey r reg) src
    else if s.modState = 5 ∧ s.regionNamed r then s.errAt Reg.pageYARD 0x0111 (regionKey r reg) src
    else if (s.regionWritten r reg data).regKind r = 1 ∧ (s.regionWritten r reg data).rd (Reg.YARD_REG_SIZE r) ≠ 0 ∧
      (s.regionWritten r reg data).rd (Reg.YARD_REG_BASE r) % 32 ≠ 0 then
      s.errAt Reg.pageYARD 0x0113 (regionKey r reg) src
    else (s.regionWritten r reg data).rowsLose := rfl

/-- No other region overlaps, or the region is a fixed one. -/
theorem overlap_eq_false (h : ∀ q ∈ List.range 64, r < 56 → q ≠ r → (s.regionWritten r reg data).regionsOverlap r q = false) :
    (decide (r < 56) && (List.range 64).any (fun q => q != r && (s.regionWritten r reg data).regionsOverlap r q)) =
      false := by
  rw [Bool.and_eq_false_iff, decide_eq_false_iff_not, List.any_eq_false]
  by_cases hr : r < 56
  · refine Or.inr fun q hq => ?_
    by_cases hqr : q = r
    · simp [hqr]
    · simp [h q hq hr hqr]
  · exact Or.inl hr

theorem fixed_eq_false (h : r < 56 ∨ isHost src = false ∧ reg ≠ 2) :
    (decide (56 ≤ r) && (isHost src || reg == 2)) = false := by
  rcases h with h | ⟨hsrc, hreg⟩
  · simp [h]
  · simp [hsrc, hreg]

theorem State.regionWrite_of_fixed (hr : 56 ≤ r) (h : isHost src = true ∨ reg = 2) :
    s.regionWrite src r reg data = s.errAt Reg.pageYARD 0x0005 (regionKey r reg) src := by
  rw [State.regionWrite_eq, if_pos (by simpa [hr] using h)]

theorem State.regionWrite_of_overlap {q : Nat} (hr : r < 56) (hq : q ∈ List.range 64) (hqr : q ≠ r)
    (h : (s.regionWritten r reg data).regionsOverlap r q = true) :
    s.regionWrite src r reg data = s.errAt Reg.pageYARD 0x0110 (regionKey r reg) src := by
  have hany : (List.range 64).any (fun q => q != r && (s.regionWritten r reg data).regionsOverlap r q) = true :=
    List.any_eq_true.2 ⟨q, hq, by simp [hqr, h]⟩
  rw [State.regionWrite_eq, if_neg (by simp [hr]), if_pos (by simpa [hr] using hany)]

theorem State.regionWrite_of_named (hfixed : r < 56 ∨ isHost src = false ∧ reg ≠ 2)
    (hover : ∀ q ∈ List.range 64, r < 56 → q ≠ r → (s.regionWritten r reg data).regionsOverlap r q = false)
    (hprint : s.modState = 5) (hnamed : s.regionNamed r = true) :
    s.regionWrite src r reg data = s.errAt Reg.pageYARD 0x0111 (regionKey r reg) src := by
  rw [State.regionWrite_eq, fixed_eq_false hfixed, if_neg Bool.false_ne_true, overlap_eq_false hover,
    if_neg Bool.false_ne_true, if_pos ⟨hprint, hnamed⟩]

theorem State.regionWrite_of_taken (hfixed : r < 56 ∨ isHost src = false ∧ reg ≠ 2)
    (hover : ∀ q ∈ List.range 64, r < 56 → q ≠ r → (s.regionWritten r reg data).regionsOverlap r q = false)
    (hfree : s.modState ≠ 5 ∨ s.regionNamed r = false)
    (halign : (s.regionWritten r reg data).regKind r ≠ 1 ∨ (s.regionWritten r reg data).rd (Reg.YARD_REG_SIZE r) = 0 ∨
      (s.regionWritten r reg data).rd (Reg.YARD_REG_BASE r) % 32 = 0) :
    s.regionWrite src r reg data = (s.regionWritten r reg data).rowsLose := by
  rw [State.regionWrite_eq, fixed_eq_false hfixed, if_neg Bool.false_ne_true, overlap_eq_false hover,
    if_neg Bool.false_ne_true, if_neg, if_neg]
  · exact fun ⟨hkind, hsize, hbase⟩ => halign.elim (· hkind) (fun h => h.elim hsize hbase)
  · exact fun ⟨hprint, hnamed⟩ => hfree.elim (· hprint) (fun h => Bool.false_ne_true (h.symm.trans hnamed))

end

/-- A command of a requester that reaches the module. -/
theorem if_reached {s t : State} {src : Req} (h : s.cutOff src = false) :
    (if s.cutOff src then Host.Outcome.next s else .next t : Res) = .next t := by simp [h]

/-- Settles O54: each command of the queues and regions by the equation that says what it does. -/
theorem queueCommands : Obligations.QueueCommands := by
  unfold Obligations.QueueCommands
  refine ⟨fun src q tail s hreach hidle hwork => ?_, fun src q tail s hreach hnone => ?_, fun src q s hreach hst => ?_,
    fun src q s hreach h5 h6 => ?_, fun src q s hreach hst => ?_, fun src q s hreach hst => ?_, fun src s hreach => ?_,
    fun base size s => ?_, fun src r reg data s hreach hr h => ?_, fun src r reg data s hreach hfixed hover hfree halign => ?_,
    fun src r q data s hreach hr hqr hhost h => ?_, fun src r reg data s hreach hfixed hover hprint hnamed => ?_⟩
  case refine_1 =>
    refine ⟨_, (if_reached hreach).trans (congrArg _ (s.doorbell_of_work q hidle hwork)), ?_, ?_, ?_, rfl⟩
    · rw [State.queueTail_setQueueSt, State.queueTail_wr]
    · exact State.queueSt_setQueueSt _ _ _ (by decide)
    · intro k hk
      simp only [List.mem_cons, List.not_mem_nil, or_false, not_or] at hk
      rw [State.regsBut_setQueueSt _ _ _ k (by simpa using hk.2), State.rd_wr_of_ne _ _ hk.1]
  case refine_2 =>
    refine ⟨_, (if_reached hreach).trans (congrArg _ (s.doorbell_of_noWork q hnone)), s.queueTail_wr q tail, ?_, rfl⟩
    intro k hk
    exact s.rd_wr_of_ne _ (by simpa using hk)
  case refine_3 =>
    refine ⟨_, (if_reached hreach).trans (congrArg _ (if_pos hst)), ?_⟩
    exact s.setQueue_setQueueSt_spec q _ (by split <;> decide)
  case refine_4 =>
    exact (if_reached hreach).trans (congrArg _ (if_neg (fun h => h.elim h5 h6)))
  case refine_5 =>
    exact ⟨_, (if_reached hreach).trans (congrArg _ (if_pos hst)), s.setQueue_setQueueSt_spec q 6 (by decide)⟩
  case refine_6 =>
    exact (if_reached hreach).trans (congrArg _ (if_neg (by omega)))
  case refine_7 =>
    exact ⟨_, if_reached hreach, rfl, rfl⟩
  case refine_8 =>
    refine ⟨_, rfl, rfl, ?_, ?_, rfl, ?_, rfl⟩
    · simp
    · simp [State.bit, bitOf_putB]
    · intro k hk
      simp only [List.mem_cons, List.not_mem_nil, or_false, not_or] at hk
      rw [State.emit_rd, State.rd_intSet_of_ne _ _ hk.2, State.rd_count_of_ne _ hk.1, State.rd_mk]
  case refine_9 =>
    exact State.refused_errAt (by decide) ((if_reached hreach).trans (congrArg _ (State.regionWrite_of_fixed hr h)))
  case refine_10 =>
    exact (if_reached hreach).trans (congrArg _ (State.regionWrite_of_taken hfixed hover hfree halign))
  case refine_11 =>
    have hq : q.val ≠ r.val := fun h => hqr (Fin.ext h)
    exact State.refused_errAt (by decide)
      ((if_reached hreach).trans (congrArg _ (State.regionWrite_of_overlap hr (by simp [q.isLt]) hq h)))
  case refine_12 =>
    exact State.refused_errAt (by decide)
      ((if_reached hreach).trans (congrArg _ (State.regionWrite_of_named hfixed hover hprint hnamed)))

end Sys2Proof.Machine
end

section
/-! A complete line ends its channels' runs of mismatches. -/

namespace Sys2Proof.Machine

/-- Line 5, complete, whose only channel is 3. -/
def completeLine : ProdLine :=
  { line := 5, admitFrc := 0, regs := [], scr := {}, slots := [], splices := [], chans := [3], frames := [(3, [7])],
    planes := List.range 8 }

/-- A module in which line 5 is complete and channel 3 went out ABSENT once for a mismatch. -/
def mismatchedOnce : State :=
  { State.reset with
    line := { State.reset.line with prod := [completeLine] }
    scr := { State.reset.scr with mism := [(3, 1)] } }

theorem mismatchedOnce_frameQueued_scr :
    nextHas (fun u => decide (u.scr.mism ≠ mismatchedOnce.scr.mism)) (exec (.frameQueued 5 0) mismatchedOnce) = true := by
  decide +kernel

/-- Refutes O23: the frames of a complete line that no mismatch holds back end its channels' runs of mismatches. -/
theorem not_tickCommands : ¬ Obligations.TickCommands := by
  unfold Obligations.TickCommands
  rintro ⟨-, -, -, -, hqueued, -⟩
  obtain ⟨u, hu, -, -, hframe⟩ := hqueued 5 0 completeLine mismatchedOnce (by decide +kernel) (by decide)
    (by decide +kernel) (by decide) (by decide) (by decide +kernel) (by decide +kernel)
  have hscr := congrArg State.scr hframe
  exact of_decide_eq_true (nextHas_spec mismatchedOnce_frameQueued_scr hu) (congrArg Scr.mism hscr)

end Sys2Proof.Machine
end

section
/-! The servo and the PTP ports as their commands use them: what a change of the servo's state reaches (R387 to R396). -/

namespace Sys2Proof.Machine

/-- The registers that show PTP (R387, R396). -/
def ptpKeys : List Nat :=
  [Reg.TIME_SERVO_STATUS, Reg.NET_PTP_STATUS 0, Reg.NET_PTP_STATUS 1, Reg.NET_PTP_DELAY 0, Reg.NET_PTP_DELAY 1]

/-- The registers that a change of the servo's state reaches. -/
def servoKeys : List Nat :=
  [Reg.TIME_SERVO_STATUS, Reg.STATUS Reg.pageTIME, Reg.INT_STATUS Reg.pageTIME,
    Reg.NET_PTP_STATUS 0, Reg.NET_PTP_STATUS 1, Reg.NET_PTP_DELAY 0, Reg.NET_PTP_DELAY 1] ++ tallyKeys

theorem ptpKeys_subset_servoKeys : ptpKeys ⊆ servoKeys := by simp [ptpKeys, servoKeys]

theorem tallyKeys_subset_servoKeys : tallyKeys ⊆ servoKeys := List.subset_append_right _ _

theorem State.regsBut.trans {s t u : State} {ks : List Nat} (h : s.regsBut t ks) (h' : t.regsBut u ks) : s.regsBut u ks :=
  fun k hk => (h' k hk).trans (h k hk)

theorem State.regsBut.mono {s t : State} {ks ls : List Nat} (h : s.regsBut t ks) (hsub : ks ⊆ ls) : s.regsBut t ls :=
  fun k hk => h k (fun hm => hk (hsub hm))

/-! ## One port -/

section
variable (s : State)

@[simp] theorem State.rd_modNet (f : NetUnit → NetUnit) (k : Nat) : (s.modNet f).rd k = s.rd k := rfl
@[simp] theorem State.modNet_net (f : NetUnit → NetUnit) : (s.modNet f).net = f s.net := rfl
@[simp] theorem State.rd_setNetPort (p : Nat) (x : NetPort) (k : Nat) : (s.setNetPort p x).rd k = s.rd k := rfl

theorem State.netPort_congr {s t : State} (h : t.net.ports = s.net.ports) (p : Nat) : t.netPort p = s.netPort p := by
  unfold State.netPort
  rw [h]

@[simp] theorem State.netPort_setNetPort_same (p : Nat) (x : NetPort) : (s.setNetPort p x).netPort p = x :=
  smGet_smSet_same _ _ _ _

theorem State.netPort_setNetPort_of_ne {p q : Nat} (x : NetPort) (h : q ≠ p) : (s.setNetPort p x).netPort q = s.netPort q := by
  unfold State.netPort State.setNetPort
  exact smGet_smSet_ne _ _ _ _ _ h

/-- What PTP_STATUS shows of a port, and its LAN_USE and PTP_DELAY: one round of `showPtp`. -/
def State.showPort (s : State) (p : Nat) : State :=
  let x := s.netPort p
  let use := !s.net.dropped.contains p && !(p == 1 && s.gmDiffer)
  let ver := s.servoSt == 4 || s.net.dropped.contains p
  let s := s.wrB Reg.TIME_SERVO_STATUS (4 + p) use
  let s := s.wrF (Reg.NET_PTP_STATUS p) 15 0 (b2n x.best.isSome + b2n use * 2 + b2n (!x.suspects.isEmpty) * 4
    + b2n ver * 8 + x.suspects.length * 256)
  match x.delay with
  | some d => s.wr (Reg.NET_PTP_DELAY p) (unsgn 32 ((d * 1000).fdiv 65536))
  | none => s

theorem State.showPtp_eq : s.showPtp = (s.showPort 0).showPort 1 := rfl


theorem State.rd_showPort_servo {p : Nat} (hp : p < 2) : (s.showPort p).rd Reg.TIME_SERVO_STATUS =
    putB (s.rd Reg.TIME_SERVO_STATUS) (4 + p) (!s.net.dropped.contains p && !(p == 1 && s.gmDiffer)) := by
  have hst : Reg.TIME_SERVO_STATUS ≠ Reg.NET_PTP_STATUS p := by simp only [Reg.TIME_SERVO_STATUS, Reg.NET_PTP_STATUS]; omega
  have hdl : Reg.TIME_SERVO_STATUS ≠ Reg.NET_PTP_DELAY p := by simp only [Reg.TIME_SERVO_STATUS, Reg.NET_PTP_DELAY]; omega
  unfold State.showPort
  dsimp only
  split
  · rw [State.rd_wr_of_ne _ _ hdl, State.rd_wrF_of_ne _ _ _ _ hst, State.rd_wrB_same _ _ _ (by omega)]
  · rw [State.rd_wrF_of_ne _ _ _ _ hst, State.rd_wrB_same _ _ _ (by omega)]

theorem State.regsBut_showPort {p : Nat} :
    s.regsBut (s.showPort p) [Reg.TIME_SERVO_STATUS, Reg.NET_PTP_STATUS p, Reg.NET_PTP_DELAY p] := by
  intro k hk
  simp only [List.mem_cons, List.not_mem_nil, or_false, not_or] at hk
  obtain ⟨hservo, hst, hdl⟩ := hk
  unfold State.showPort
  dsimp only
  split
  · rw [State.rd_wr_of_ne _ _ hdl, State.rd_wrF_of_ne _ _ _ _ hst, State.rd_wrB_of_ne _ _ _ hservo]
  · rw [State.rd_wrF_of_ne _ _ _ _ hst, State.rd_wrB_of_ne _ _ _ hservo]

@[simp] theorem State.agree_showPort {t : State} {ps : List Part} (p : Nat) :
    t.Agree ps (s.showPort p) ↔ t.Agree ps s := by
  unfold State.showPort
  dsimp only
  split <;> rfl

@[simp] theorem State.showPort_net (p : Nat) : (s.showPort p).net = s.net := by
  unfold State.showPort
  dsimp only
  split <;> rfl

/-! ## Both ports -/

@[simp] theorem State.agree_showPtp {t : State} {ps : List Part} : t.Agree ps s.showPtp ↔ t.Agree ps s := by
  simp [State.showPtp_eq]

@[simp] theorem State.showPtp_net : s.showPtp.net = s.net := by simp [State.showPtp_eq]

theorem State.regsBut_showPtp : s.regsBut s.showPtp ptpKeys := by
  rw [State.showPtp_eq]
  exact (s.regsBut_showPort.mono (by simp [ptpKeys])).trans ((State.regsBut_showPort _).mono (by simp [ptpKeys]))

/-- Of SERVO_STATUS only LAN_USE changes. -/
theorem State.bit_showPtp_servo {i : Nat} (h4 : i ≠ 4) (h5 : i ≠ 5) :
    s.showPtp.bit Reg.TIME_SERVO_STATUS i = s.bit Reg.TIME_SERVO_STATUS i := by
  unfold State.bit
  rw [State.showPtp_eq, State.rd_showPort_servo _ (by decide), State.rd_showPort_servo _ (by decide), bitOf_putB,
    if_neg h5, bitOf_putB, if_neg h4]

theorem State.servoSt_showPtp : s.showPtp.servoSt = s.servoSt := by
  unfold State.servoSt State.rdF
  rw [State.showPtp_eq, State.rd_showPort_servo _ (by decide), State.rd_showPort_servo _ (by decide),
    fld_putB_other _ _ _ _ _ (by omega), fld_putB_other _ _ _ _ _ (by omega)]

/-! ## A change of the servo's state -/

/-- What the module tells of a change to a state, before it is logged. -/
def State.servoShown (s : State) (st : Nat) : State :=
  let s := ((s.wrF Reg.TIME_SERVO_STATUS 2 0 st).setStCode Reg.pageTIME st).intSet Reg.pageTIME 8
  (s.modNet (fun n => { n with everLocked := n.everLocked || st == 2, lockRun := 0, offRun := 0 })).showPtp

variable {s}

theorem State.setServo_of_ne {st : Nat} (h : s.servoSt ≠ st) :
    s.setServo st = (s.servoShown st).tally 0x0070 0x63 0 (if st = 3 then 1 else 0) st := if_neg h

theorem State.setServo_of_eq {st : Nat} (h : s.servoSt = st) : s.setServo st = s := if_pos h

theorem State.net_tally (code source inst sev arg : Nat) : (s.tally code source inst sev arg).net = s.net :=
  (State.agree_tally (ps := [.mgmt]) _ _ _ _ _ (by simp)).2 (.refl s) .net (by simp)

theorem State.servo_tally (code source inst sev arg : Nat) :
    (s.tally code source inst sev arg).rd Reg.TIME_SERVO_STATUS = s.rd Reg.TIME_SERVO_STATUS :=
  s.rd_tally_of_notMem _ _ _ _ _ (by simp)

theorem State.net_setServo {st : Nat} (h : s.servoSt ≠ st) :
    (s.setServo st).net = { s.net with everLocked := s.net.everLocked || st == 2, lockRun := 0, offRun := 0 } := by
  rw [State.setServo_of_ne h, State.net_tally, State.servoShown, State.showPtp_net]
  rfl

theorem State.netPort_setServo (st p : Nat) : (s.setServo st).netPort p = s.netPort p := by
  by_cases h : s.servoSt = st
  · rw [State.setServo_of_eq h]
  · exact State.netPort_congr (by rw [State.net_setServo h]) p

theorem State.servoSt_setServo {st : Nat} (h : s.servoSt ≠ st) (hst : st < 8) : (s.setServo st).servoSt = st := by
  have hshown : (s.servoShown st).servoSt = st := by
    rw [State.servoShown, State.servoSt_showPtp, State.servoSt, State.rdF, State.rd_modNet, State.rd_intSet_of_ne _ _ (by decide),
      State.rd_setStCode_of_ne _ _ (by decide), State.rd_wrF_same _ _ _ (by decide) (by decide),
      fld_putFld_same _ _ _ _ (by decide)]
    exact Nat.mod_eq_of_lt hst
  rw [State.setServo_of_ne h, State.servoSt, State.rdF, State.servo_tally]
  exact hshown

/-- ASYM_SUSPECT and HOLDOVER_EXPIRED stay. -/
theorem State.bit_setServo {st i : Nat} (h2 : 2 < i) (h4 : i ≠ 4) (h5 : i ≠ 5) :
    (s.setServo st).bit Reg.TIME_SERVO_STATUS i = s.bit Reg.TIME_SERVO_STATUS i := by
  by_cases h : s.servoSt = st
  · rw [State.setServo_of_eq h]
  · rw [State.setServo_of_ne h, State.bit, State.servo_tally]
    refine (State.bit_showPtp_servo _ h4 h5).trans ?_
    rw [State.bit, State.rd_modNet, State.rd_intSet_of_ne _ _ (by decide), State.rd_setStCode_of_ne _ _ (by decide),
      State.rd_wrF_same _ _ _ (by decide) (by decide), bitOf_putFld_other _ _ _ _ _ (by decide) (by omega)]
    rfl

theorem State.regsBut_servoShown (st : Nat) : s.regsBut (s.servoShown st) servoKeys := by
  refine State.regsBut.trans ?_ ((State.regsBut_showPtp _).mono ptpKeys_subset_servoKeys)
  intro k hk
  simp only [servoKeys, List.cons_append, List.nil_append, List.mem_cons, not_or] at hk
  obtain ⟨hservo, hstatus, hint, -⟩ := hk
  rw [State.rd_modNet, State.rd_intSet_of_ne _ _ hint, State.rd_setStCode_of_ne _ _ hstatus, State.rd_wrF_of_ne _ _ _ _ hservo]

theorem State.regsBut_setServo (st : Nat) : s.regsBut (s.setServo st) servoKeys := by
  by_cases h : s.servoSt = st
  · rw [State.setServo_of_eq h]
    exact fun _ _ => rfl
  · rw [State.setServo_of_ne h]
    exact (State.regsBut_servoShown st).trans
      (fun k hk => State.rd_tally_of_notMem _ _ _ _ _ _ (fun hm => hk (tallyKeys_subset_servoKeys hm)))

theorem State.intStatus_servoShown (st : Nat) : (s.servoShown st).bit (Reg.INT_STATUS Reg.pageTIME) 8 = true := by
  rw [State.servoShown, State.bit, State.regsBut_showPtp _ _ (by decide), State.rd_modNet,
    State.rd_intSet_same _ rfl (by decide), bitOf_putB, if_pos rfl]

theorem State.intStatus_setServo {st : Nat} (h : s.servoSt ≠ st) :
    (s.setServo st).bit (Reg.INT_STATUS Reg.pageTIME) 8 = true := by
  rw [State.setServo_of_ne h, State.bit, State.rd_tally_of_notMem _ _ _ _ _ _ (by simp)]
  exact State.intStatus_servoShown st

@[simp] theorem State.agree_modNet {t : State} {ps : List Part} (f : NetUnit → NetUnit) (h : .net ∈ ps) :
    t.Agree ps (s.modNet f) ↔ t.Agree ps s := by simp [State.modNet, h]

@[simp] theorem State.agree_setNetPort {t : State} {ps : List Part} (p : Nat) (x : NetPort) (h : .net ∈ ps) :
    t.Agree ps (s.setNetPort p x) ↔ t.Agree ps s := State.agree_modNet _ h

@[simp] theorem State.agree_setServo {t : State} {ps : List Part} (st : Nat) (hn : .net ∈ ps) (hm : .mgmt ∈ ps) :
    t.Agree ps (s.setServo st) ↔ t.Agree ps s := by
  simp [State.setServo, hn, hm]

end
end Sys2Proof.Machine
end

section
/-! HOLDOVER, and the commands of the servo (R390 to R396). -/

namespace Sys2Proof.Machine

section
variable {s : State}

theorem State.disciplined_iff : s.disciplined = true ↔ s.servoSt = 1 ∨ s.servoSt = 2 := by
  simp [State.disciplined]

/-- The network unit at the entry to HOLDOVER: the delays are held, and no port has a sample. -/
def State.heldNet (s : State) : State :=
  let s := s.modNet (fun n => { n with
    holdFrc := s.frc, agree := none
    heldDelay := [0, 1].foldl (fun m p => smSet (fun _ => none) m p (s.netPort p).delay) [] })
  [0, 1].foldl (fun s p => s.setNetPort p { s.netPort p with off := none, stepped := none }) s

theorem State.enterHoldover_eq : s.enterHoldover = (s.heldNet.wrB Reg.TIME_SERVO_STATUS 6 false).setServo 3 := rfl

@[simp] theorem State.rd_heldNet (k : Nat) : s.heldNet.rd k = s.rd k := rfl
@[simp] theorem State.heldNet_holdFrc : s.heldNet.net.holdFrc = s.frc := rfl

@[simp] theorem State.agree_heldNet {t : State} {ps : List Part} (h : .net ∈ ps) :
    t.Agree ps s.heldNet ↔ t.Agree ps s := by simp [State.heldNet, h]

theorem State.heldDelay_heldNet {p : Nat} (hp : p ∈ List.range 2) :
    smGet (fun _ => none) s.heldNet.net.heldDelay p = (s.netPort p).delay := by
  have h : s.heldNet.net.heldDelay =
      smSet (fun _ => none) (smSet (fun _ => none) [] 0 (s.netPort 0).delay) 1 (s.netPort 1).delay := rfl
  rw [h]
  obtain rfl | rfl : p = 0 ∨ p = 1 := by have := List.mem_range.1 hp; omega
  · rw [smGet_smSet_ne _ _ _ _ _ (by decide), smGet_smSet_same]
  · rw [smGet_smSet_same]

theorem State.netPort_heldNet {p : Nat} (hp : p < 2) :
    s.heldNet.netPort p = { s.netPort p with off := none, stepped := none } := by
  obtain rfl | rfl : p = 0 ∨ p = 1 := by omega
  · exact (State.netPort_setNetPort_of_ne _ _ (by decide)).trans (State.netPort_setNetPort_same _ _ _)
  · refine (State.netPort_setNetPort_same _ _ _).trans ?_
    rw [State.netPort_setNetPort_of_ne _ _ (by decide)]
    rfl

/-- HOLDOVER_EXPIRED is shown at 0 where the entry begins. -/
theorem State.servoSt_wrB {i : Nat} {b : Bool} (hi : 2 < i) (hi' : i < 32) :
    (s.wrB Reg.TIME_SERVO_STATUS i b).servoSt = s.servoSt := by
  rw [State.servoSt, State.rdF, State.rd_wrB_same _ _ _ hi', fld_putB_other _ _ _ _ _ (by omega)]
  rfl

theorem State.servoSt_cleared_heldNet : (s.heldNet.wrB Reg.TIME_SERVO_STATUS 6 false).servoSt = s.servoSt :=
  State.servoSt_wrB (by decide) (by decide)

/-- What the entry to HOLDOVER leaves. -/
theorem State.enterHoldover_spec (h : s.servoSt ≠ 3) :
    s.enterHoldover.servoSt = 3 ∧ s.enterHoldover.net.holdFrc = s.frc ∧ s.enterHoldover.net.heldDelay = s.heldNet.net.heldDelay ∧
      (∀ p < 2, s.enterHoldover.netPort p = { s.netPort p with off := none, stepped := none }) ∧
      s.enterHoldover.bit (Reg.INT_STATUS Reg.pageTIME) 8 = true ∧ s.enterHoldover.bit Reg.TIME_SERVO_STATUS 6 = false := by
  have h3 : (s.heldNet.wrB Reg.TIME_SERVO_STATUS 6 false).servoSt ≠ 3 := by rwa [State.servoSt_cleared_heldNet]
  rw [State.enterHoldover_eq]
  refine ⟨State.servoSt_setServo h3 (by decide), ?_, ?_, fun p hp => ?_, State.intStatus_setServo h3, ?_⟩
  · rw [State.net_setServo h3]
    rfl
  · rw [State.net_setServo h3]
    rfl
  · rw [State.netPort_setServo]
    exact State.netPort_heldNet hp
  · rw [State.bit_setServo (by decide) (by decide) (by decide), State.bit, State.rd_wrB_same _ _ _ (by decide), bitOf_putB,
      if_pos rfl]

theorem State.regsBut_wrB_servo (i : Nat) (b : Bool) : s.regsBut (s.wrB Reg.TIME_SERVO_STATUS i b) servoKeys :=
  fun _ hk => State.rd_wrB_of_ne _ _ _ (fun h => hk (h ▸ by simp [servoKeys]))

theorem State.regsBut_enterHoldover : s.regsBut s.enterHoldover servoKeys := by
  rw [State.enterHoldover_eq]
  exact State.regsBut.trans (t := s.heldNet.wrB Reg.TIME_SERVO_STATUS 6 false) (State.regsBut_wrB_servo (s := s) 6 false)
    (State.regsBut_setServo 3)

@[simp] theorem State.agree_enterHoldover {t : State} {ps : List Part} (hn : .net ∈ ps) (hm : .mgmt ∈ ps) :
    t.Agree ps s.enterHoldover ↔ t.Agree ps s := by
  simp [State.enterHoldover_eq, hn, hm]

/-- What leaving HOLDOVER or VERIFY leaves. -/
theorem State.leaveHoldover_spec (h : s.servoSt ≠ 2) :
    s.leaveHoldover.servoSt = 2 ∧
      s.leaveHoldover.net = { s.net with heldDelay := [], agree := none, everLocked := true, lockRun := 0, offRun := 0 } ∧
      s.leaveHoldover.bit Reg.TIME_SERVO_STATUS 3 = s.bit Reg.TIME_SERVO_STATUS 3 := by
  refine ⟨State.servoSt_setServo h (by decide), ?_, State.bit_setServo (by decide) (by decide) (by decide)⟩
  refine (State.net_setServo (s := s.modNet (fun n => { n with heldDelay := [], agree := none })) h).trans ?_
  simp

theorem State.regsBut_leaveHoldover : s.regsBut s.leaveHoldover servoKeys :=
  State.regsBut_setServo (s := s.modNet (fun n => { n with heldDelay := [], agree := none })) 2

@[simp] theorem State.agree_leaveHoldover {t : State} {ps : List Part} (hn : .net ∈ ps) (hm : .mgmt ∈ ps) :
    t.Agree ps s.leaveHoldover ↔ t.Agree ps s := by
  simp [State.leaveHoldover, hn, hm]

/-- Back to LOCKED with the path as it is: what ACCEPT_PATH and VERIFY_COMPLETE have in common. -/
theorem State.acceptedPath_spec (h : s.servoSt ≠ 2) :
    (s.wrB Reg.TIME_SERVO_STATUS 3 false).leaveHoldover.servoSt = 2 ∧
      (s.wrB Reg.TIME_SERVO_STATUS 3 false).leaveHoldover.asymSuspect = false ∧
      (s.wrB Reg.TIME_SERVO_STATUS 3 false).leaveHoldover.net =
        { s.net with heldDelay := [], agree := none, everLocked := true, lockRun := 0, offRun := 0 } ∧
      s.regsBut (s.wrB Reg.TIME_SERVO_STATUS 3 false).leaveHoldover servoKeys := by
  obtain ⟨hst, hnet, hbit⟩ := State.leaveHoldover_spec (s := s.wrB Reg.TIME_SERVO_STATUS 3 false)
    (by rwa [State.servoSt_wrB (by decide) (by decide)])
  refine ⟨hst, hbit.trans ?_, hnet, (State.regsBut_wrB_servo 3 false).trans State.regsBut_leaveHoldover⟩
  rw [State.bit, State.rd_wrB_same _ _ _ (by decide), bitOf_putB, if_pos rfl]

theorem State.agreed_of {a : Nat} (h : s.net.agree = some a) (h32 : 32 * 800000000 ≤ s.frc - a) : s.agreed = true := by
  rw [State.agreed, h]
  exact decide_eq_true h32

theorem State.Agree.frc_eq {t : State} {ps : List Part} (h : s.Agree ps t) (hfrc : .frc ∉ ps) : t.frc = s.frc := h .frc hfrc

theorem State.regsBut_showPtp_intSet (i : Nat) :
    s.regsBut (s.showPtp.intSet Reg.pageTIME i) (Reg.INT_STATUS Reg.pageTIME :: ptpKeys) := by
  intro k hk
  rw [List.mem_cons, not_or] at hk
  rw [State.rd_intSet_of_ne _ _ hk.1]
  exact State.regsBut_showPtp _ _ hk.2


/-- A port without a sample, at instant t. -/
def State.unsynced (s : State) (p t : Nat) : State :=
  (s.till t).setNetPort p { (s.till t).netPort p with off := none, samples := 0 }

theorem State.netPort_unsynced (s : State) (p t : Nat) :
    (s.unsynced p t).netPort p = { s.netPort p with off := none, samples := 0 } := State.netPort_setNetPort_same _ _ _

theorem State.syncTimeout_eq (s : State) (p : Fin 2) (t : Nat) : execSyncTimeout p t s =
    if !(s.unsynced p t).crewRuns 0 then .next (s.unsynced p t)
    else if (s.unsynced p t).servoSt = 4 then
      .next (((s.unsynced p t).modNet (fun n => { n with agree := none })).setServo 3)
    else if (s.unsynced p t).disciplined then
      if [0, 1].any (fun q => (s.unsynced p t).lanUse q && ((s.unsynced p t).netPort q).off.isSome) then
        .next (s.unsynced p t).judgeSteps
      else .next (s.unsynced p t).enterHoldover
    else .next (s.unsynced p t) := rfl

/-- A LOCKED servo whose other LAN has no sample either goes to HOLDOVER. -/
theorem State.syncTimeout_of_alone (s : State) (p : Fin 2) (t : Nat) (hrun : s.crewRuns 0 = true) (hst : s.servoSt = 2)
    (hoff : (s.netPort (1 - p)).off = none) : execSyncTimeout p t s = .next (s.unsynced p t).enterHoldover := by
  have hrun' : (s.unsynced p t).crewRuns 0 = true := hrun
  have hst2 : (s.unsynced p t).servoSt = 2 := hst
  have hnone : ∀ q ∈ [0, 1], ((s.unsynced p t).netPort q).off = none := by
    intro q hq
    by_cases h : q = p
    · rw [h, State.netPort_unsynced]
    · have hq' : q = 1 - p.val := by
        have := p.isLt
        simp only [List.mem_cons, List.not_mem_nil, or_false] at hq
        omega
      rw [State.unsynced, State.netPort_setNetPort_of_ne _ _ h, hq']
      exact hoff
  have hidle : [0, 1].any (fun q => (s.unsynced p t).lanUse q && ((s.unsynced p t).netPort q).off.isSome) = false := by
    rw [List.any_eq_false]
    intro q hq
    simp [hnone q hq]
  rw [State.syncTimeout_eq, if_neg (by simp [hrun']), if_neg (by simp [hst2]), if_pos (State.disciplined_iff.2 (.inr hst2)),
    if_neg (by simp [hidle])]

/-- In FREE and HOLDOVER the servo stays as it is. -/
theorem State.syncTimeout_of_free (s : State) (p : Fin 2) (t : Nat) (hst : s.servoSt = 0 ∨ s.servoSt = 3) :
    execSyncTimeout p t s = .next (s.unsynced p t) := by
  have hst' : (s.unsynced p t).servoSt = 0 ∨ (s.unsynced p t).servoSt = 3 := hst
  rw [State.syncTimeout_eq, if_neg (c := _ = 4) (by omega), if_neg (c := State.disciplined _ = true) (by rw [State.disciplined_iff]; omega)]
  exact ite_self _

end

/-- Settles O45: each command enters or leaves HOLDOVER, or leaves the servo as it is. -/
theorem servoStates : Obligations.ServoStates := by
  unfold Obligations.ServoStates
  refine ⟨fun src s hreach hrun hdisc => ?_, fun src s hreach hidle => ?_, fun src s hreach hrun hst => ?_,
    fun src s hreach h3 h4 => ?_, fun t a s hrun hst hagree h32 => ?_, fun t s h4 => ?_,
    fun port t a s hrun hdrop hagree h32 => ?_, fun port t s hdrop => ?_, fun t s hst hlate => ?_, fun t s h3 h4 => ?_,
    fun port t s hrun hst hoff => ?_, fun port t s hrun hst => ?_, fun port t s hst => ?_⟩
  · have h3 : s.servoSt ≠ 3 := by
      rcases State.disciplined_iff.1 hdisc with h | h <;> omega
    obtain ⟨hst, hfrc, hheld, hport, hint, hbit⟩ := State.enterHoldover_spec h3
    refine ⟨s.enterHoldover, (if_reached hreach).trans (congrArg _ (if_pos (by simp [hrun, hdisc]))), hst, hfrc, fun p hp => ?_,
      fun p hp => ?_, hint, hbit, State.regsBut_enterHoldover, ?_⟩
    · rw [hheld]
      exact State.heldDelay_heldNet hp
    · rw [hport p (List.mem_range.1 hp)]
    · exact State.Agree.revert_eq (ps := [.net, .mgmt]) (by simp)
  · refine (if_reached hreach).trans (congrArg _ (if_neg ?_))
    rcases hidle with h | h <;> simp [h]
  · have h2 : s.servoSt ≠ 2 := by omega
    obtain ⟨hst', hasym, hnet, hregs⟩ := State.acceptedPath_spec h2
    refine ⟨_, (if_reached hreach).trans (congrArg _ (if_pos ?_)), hst', hasym, ?_, ?_, hregs, ?_⟩
    · rcases hst with h | h <;> simp [hrun, h]
    · rw [hnet]
    · rw [hnet]
    · exact State.Agree.revert_eq (ps := [.net, .mgmt]) (by simp)
  · exact (if_reached hreach).trans (congrArg _ (if_neg (by simp [h3, h4])))
  · have hst' : ((s.till t).modNet (fun n => { n with dropped := [] })).servoSt ≠ 2 := by
      have : s.servoSt ≠ 2 := by omega
      exact this
    obtain ⟨hst2, hasym, hnet, hregs⟩ := State.acceptedPath_spec hst'
    refine ⟨_, if_pos ?_, ?_, hst2, hasym, ?_, hregs, ?_⟩
    · have hagreed : (s.till t).agreed = true := State.agreed_of hagree h32
      have hrun' : (s.till t).crewRuns 0 = true := hrun
      have hst4 : (s.till t).servoSt = 4 := hst
      simp [hagreed, hrun', hst4]
    · exact State.Agree.frc_eq (s := s.till t) (ps := [.net, .mgmt]) (by simp) (by simp)
    · rw [hnet]
      rfl
    · exact State.Agree.revert_eq (ps := [.net, .mgmt, .frc]) (by simp)
  · have h4' : (s.till t).servoSt ≠ 4 := h4
    exact if_neg (by simp [h4'])
  · have hagreed : (s.till t).agreed = true := State.agreed_of hagree h32
    have hrun' : (s.till t).crewRuns 0 = true := hrun
    refine ⟨_, if_pos ?_, ?_, ?_, ?_, ?_, ?_⟩
    · simp [hagreed, hrun', hdrop]
    · exact State.Agree.frc_eq (s := s.till t) (ps := [.net]) (by simp) (by simp)
    · simp
    · rw [State.bit, State.rd_intSet_same _ rfl (by decide), bitOf_putB, if_pos rfl]
    · refine State.regsBut.mono (ks := Reg.INT_STATUS Reg.pageTIME :: ptpKeys) (State.regsBut_showPtp_intSet (s :=
        (s.till t).modNet (fun n => { n with dropped := n.dropped.filter (· != port.val), agree := none })) 11) (by simp [ptpKeys])
    · exact State.Agree.revert_eq (ps := [.net, .frc]) (by simp)
  · exact if_neg (by simp [hdrop])
  · refine ⟨_, if_pos ?_, rfl, ?_, ?_, ?_, rfl⟩
    · rw [Bool.and_eq_true, decide_eq_true_iff]
      exact ⟨(by simpa using hst : (s.servoSt == 3 || s.servoSt == 4) = true), hlate⟩
    · rw [State.bit, State.rd_intSet_of_ne _ _ (by decide), State.rd_wrB_same _ _ _ (by decide), bitOf_putB, if_pos rfl]
    · rw [State.bit, State.rd_intSet_same _ rfl (by decide), bitOf_putB, if_pos rfl]
    · intro k hk
      simp only [List.mem_cons, List.not_mem_nil, or_false, not_or] at hk
      rw [State.rd_intSet_of_ne _ _ hk.2, State.rd_wrB_of_ne _ _ _ hk.1]
      rfl
  · have h3' : (s.till t).servoSt ≠ 3 := h3
    have h4' : (s.till t).servoSt ≠ 4 := h4
    exact if_neg (by simp [h3', h4'])
  · have hst3 : s.servoSt ≠ 3 := by omega
    obtain ⟨hst', -, -, hport, -, -⟩ := State.enterHoldover_spec (s := s.unsynced port.val t) hst3
    refine ⟨_, s.syncTimeout_of_alone port t hrun hst hoff, ?_, hst', ?_, ?_, ?_, ?_⟩
    · exact State.Agree.frc_eq (s := s.till t) (ps := [.net, .mgmt]) (by simp [State.unsynced]) (by simp)
    · rw [hport _ port.isLt, State.netPort_unsynced]
    · rw [hport _ port.isLt]
    · exact State.regsBut_enterHoldover (s := s.unsynced port.val t)
    · exact State.Agree.revert_eq (ps := [.net, .mgmt, .frc]) (by simp [State.unsynced])
  · have hst3 : s.servoSt ≠ 3 := by omega
    have hrun' : (s.unsynced port.val t).crewRuns 0 = true := hrun
    have hst4 : (s.unsynced port.val t).servoSt = 4 := hst
    refine ⟨((s.unsynced port.val t).modNet (fun n => { n with agree := none })).setServo 3, ?_, ?_,
      State.servoSt_setServo hst3 (by decide), ?_, ?_, ?_, ?_⟩
    · refine (s.syncTimeout_eq port t).trans ?_
      rw [if_neg (by simp [hrun']), if_pos hst4]
    · exact State.Agree.frc_eq (s := s.till t) (ps := [.net, .mgmt]) (by simp [State.unsynced]) (by simp)
    · exact congrArg NetUnit.agree (State.net_setServo (s := (s.unsynced port t).modNet (fun n => { n with agree := none })) hst3)
    · rw [State.netPort_setServo]
      exact congrArg NetPort.samples (State.netPort_unsynced s port.val t)
    · exact State.regsBut_setServo (s := (s.unsynced port.val t).modNet (fun n => { n with agree := none })) 3
    · exact State.Agree.revert_eq (ps := [.net, .mgmt, .frc]) (by simp [State.unsynced])
  · refine ⟨s.unsynced port.val t, s.syncTimeout_of_free port t hst, rfl, State.netPort_unsynced _ _ _, rfl⟩

end Sys2Proof.Machine
end

section
/-! The PTP messages (R387 to R392): what is sent, the samples of a port, and its grandmaster. -/

namespace Sys2Proof.Machine

theorem State.regsBut.pagesBut {s t : State} {ks ps : List Nat} (h : s.regsBut t ks) (hks : ∀ k ∈ ks, k / 0x1000 ∈ ps) :
    s.pagesBut t ps := fun k hk => h k (fun hm => hk (hks k hm))

theorem State.pagesBut.trans {s t u : State} {ps : List Nat} (h : s.pagesBut t ps) (h' : t.pagesBut u ps) : s.pagesBut u ps :=
  fun k hk => (h' k hk).trans (h k hk)

/-! ## Messages sent -/

section
variable (s : State) (p : Nat)

theorem State.netSend_of_up {kind : Nat} {fields : List Nat} (hup : s.bit (Reg.NET_PORT_STATUS p) 0 = true)
    (hon : s.bit (Reg.NET_PORT_CFG p) 2 = false) :
    s.netSend p kind fields = (s.count (Reg.NET_TX_FRAMES p)).emit (.net p s.netTag kind fields) := if_pos (by simp [hup, hon])

/-- PTP over Ethernet. -/
theorem State.ptpSend_of_l2 {type seq : Nat} {time corr : Int}
    (hl2 : s.bit Reg.PRP_PTP_TRANSPORT 0 = false ∨ s.bit Reg.PRP_PTP_TRANSPORT 1 = true) :
    s.ptpSend p type seq time corr = s.netSend p 0x88F7 [type, seq, unsgn 80 time, unsgn 64 corr] :=
  if_neg (by rcases hl2 with h | h <;> simp [h])

/-- PTP over UDP. -/
theorem State.ptpSend_of_udp {type seq : Nat} {time corr : Int}
    (h0 : s.bit Reg.PRP_PTP_TRANSPORT 0 = true) (h1 : s.bit Reg.PRP_PTP_TRANSPORT 1 = false) :
    s.ptpSend p type seq time corr = s.netSend p 0x0800 [s.rd Reg.PRP_NODE_IP, if type = 1 then 0xE0000181 else
      0xE000006B, if type < 8 then 319 else 320, 0, type, seq, unsgn 80 time, unsgn 64 corr] :=
  if_pos (by simp [h0, h1])

/-- A message over Ethernet on a port that is up and enabled. -/
theorem State.ptpSend_of_up {type seq : Nat} {time corr : Int}
    (hl2 : s.bit Reg.PRP_PTP_TRANSPORT 0 = false ∨ s.bit Reg.PRP_PTP_TRANSPORT 1 = true)
    (hup : s.bit (Reg.NET_PORT_STATUS p) 0 = true) (hon : s.bit (Reg.NET_PORT_CFG p) 2 = false) :
    s.ptpSend p type seq time corr = (s.count (Reg.NET_TX_FRAMES p)).emit
      (.net p s.netTag 0x88F7 [type, seq, unsgn 80 time, unsgn 64 corr]) := by
  rw [State.ptpSend_of_l2 s p hl2, State.netSend_of_up s p hup hon]

theorem State.regsBut_count_emit (k : Nat) (o : Out) : s.regsBut ((s.count k).emit o) [k] := by
  intro j hj
  rw [State.emit_rd, State.rd_count_of_ne _ (fun h => hj (List.mem_singleton.2 h))]

/-! ## Samples -/

/-- A port of a grandmaster but without a delay keeps the time of the Sync alone. -/
theorem State.offsetSample_of_noDelay (t1 : Int) (f : Nat) (hbest : (s.netPort p).best.isSome = true)
    (hdelays : (s.netPort p).delays = []) :
    s.offsetSample p t1 f = s.setNetPort p { s.netPort p with last := some (t1, f) } := by
  have hdelay : ({ s.netPort p with last := some (t1, f) } : NetPort).delay = none := by simp [NetPort.delay, hdelays]
  unfold State.offsetSample
  rw [if_neg (by simp [Option.isSome_iff_ne_none.1 hbest])]
  dsimp only
  rw [hdelay]

theorem State.offsetSample_of_noMaster (t1 : Int) (f : Nat) (hbest : (s.netPort p).best = none) :
    s.offsetSample p t1 f = s := if_pos (by simp [hbest])

/-- The offset that the port measures (R390). -/
def State.offsetOf (s : State) (p : Nat) (t1 d : Int) (f : Nat) : Int :=
  sgn 80 (unsgn 80 (((s.timeOf f).1 : Int) - s.rxLat p - t1 - d - s.asym p))

/-- The offset sample is shown and kept. -/
def State.withOffset (s : State) (p : Nat) (t1 d : Int) (f : Nat) : State :=
  (s.setNetPort p { s.netPort p with
    last := some (t1, f), off := some (s.offsetOf p t1 d f), samples := (s.netPort p).samples + 1 }).wr
    (Reg.NET_PTP_OFFSET p) (satSgn 32 ((s.offsetOf p t1 d f).fdiv 65536))

theorem State.offsetSample_of_delay {t1 d : Int} {f : Nat} (hbest : (s.netPort p).best.isSome = true)
    (hdelay : (s.netPort p).delay = some d) : s.offsetSample p t1 f = (s.withOffset p t1 d f).servoStep p := by
  have hdelay' : ({ s.netPort p with last := some (t1, f) } : NetPort).delay = some d := hdelay
  unfold State.offsetSample
  rw [if_neg (by simp [Option.isSome_iff_ne_none.1 hbest])]
  dsimp only
  rw [hdelay']
  rfl

@[simp] theorem State.netPort_wr (k v q : Nat) : (s.wr k v).netPort q = s.netPort q := rfl

theorem State.netPort_withOffset (t1 d : Int) (f : Nat) : (s.withOffset p t1 d f).netPort p = { s.netPort p with
    last := some (t1, f), off := some (s.offsetOf p t1 d f), samples := (s.netPort p).samples + 1 } :=
  State.netPort_setNetPort_same _ _ _

theorem State.updateAgree_eq : ∃ a, s.updateAgree = s.modNet (fun n => { n with agree := a }) := by
  unfold State.updateAgree
  split
  · exact ⟨_, rfl⟩
  · exact ⟨_, rfl⟩

variable {s p}

/-- In FREE the servo waits for four samples of the port. -/
theorem State.servoStep_of_free (hst : s.servoSt = 0) (hfew : (s.netPort p).samples < 4) :
    ∃ a, s.servoStep p = s.modNet (fun n => { n with agree := a }) := by
  have hagree : ∃ a, (if s.servoSt = 4 ∨ s.net.dropped ≠ [] then s.updateAgree else s) =
      s.modNet (fun n => { n with agree := a }) := by
    split
    · exact s.updateAgree_eq
    · exact ⟨s.net.agree, rfl⟩
  obtain ⟨a, ha⟩ := hagree
  unfold State.servoStep
  rw [ha]
  split
  · exact ⟨s.net.agree, rfl⟩
  · exact ⟨a, (if_pos hst).trans (if_pos (.inl hfew))⟩

/-- A port's new samples are shown, and the steps of the other one are one sample older. -/
def State.sampled (s : State) (p : Nat) (x : NetPort) : State :=
  let s := s.setNetPort p x
  (s.setNetPort (1 - p) { s.netPort (1 - p) with stepped := (s.netPort (1 - p)).stepped.map (· + 1) }).showPtp

theorem State.netPort_sampled (x : NetPort) (hp : p < 2) : (s.sampled p x).netPort p = x := by
  have hne : p ≠ 1 - p := by omega
  refine (State.netPort_congr (congrArg NetUnit.ports (State.showPtp_net _)) p).trans ?_
  rw [State.netPort_setNetPort_of_ne _ _ hne, State.netPort_setNetPort_same]

theorem State.servoSt_sampled (x : NetPort) : (s.sampled p x).servoSt = s.servoSt := State.servoSt_showPtp _

theorem State.regsBut_sampled (x : NetPort) : s.regsBut (s.sampled p x) ptpKeys := fun k hk => State.regsBut_showPtp _ k hk

@[simp] theorem State.agree_sampled {t : State} {ps : List Part} (x : NetPort) (h : .net ∈ ps) :
    t.Agree ps (s.sampled p x) ↔ t.Agree ps s := by simp [State.sampled, h]

/-- The first delay sample of a port in FREE is accepted. -/
theorem State.delaySample_of_free (d : Int) (hst : s.servoSt = 0) (hdelays : (s.netPort p).delays = []) :
    s.delaySample p d = s.sampled p { s.netPort p with delays := [d], suspects := [] } := by
  have hdelay : (s.netPort p).delay = none := by simp [NetPort.delay, hdelays]
  have hst' (x : NetPort) : (s.sampled p x).servoSt = 0 := (State.servoSt_sampled x).trans hst
  have hidle (x : NetPort) : (s.sampled p x).disciplined = false := by simp [State.disciplined, hst']
  have hsampled : s.delaySample p d =
      (let t := s.sampled p { s.netPort p with delays := (d :: (s.netPort p).delays).take 16, suspects := [] }
      if !t.crewRuns 0 then t
      else if t.disciplined then t.judgeSteps
      else if t.servoSt = 3 ∧ ¬ t.asymSuspect ∧ t.lanUse p then t.holdoverSample p d
      else t) := by
    unfold State.delaySample
    dsimp only
    rw [hdelay]
    rfl
  rw [hsampled]
  dsimp only
  rw [hidle, hst', if_neg (c := false = true) (by decide), if_neg (c := 0 = 3 ∧ _) (by simp), ite_self, hdelays]
  rfl

/-! ## The grandmaster -/

/-- A port's data set, and what is shown of it. -/
def State.chosen (s : State) (p : Nat) (best : Option (List Nat)) : State :=
  let differed := s.gmDiffer
  let s := (s.setNetPort p { s.netPort p with best := best }).showPtp
  if s.gmDiffer && !differed then s.intSet Reg.pageTIME 12 else s

/-- The grandmaster that the module follows is shown, and one that has changed starts the servo anew. -/
def State.followMaster (s : State) : State :=
  match (s.netPort 0).best.orElse (fun _ => (s.netPort 1).best) with
  | none => s
  | some b =>
    let old := s.rd64 Reg.TIME_GM_ID_LO Reg.TIME_GM_ID_HI
    let t := s.wr64 Reg.TIME_GM_ID_LO Reg.TIME_GM_ID_HI (gmId b)
    if old = 0 ∨ old = gmId b then t
    else (t.clearSamples.intSet Reg.pageTIME 12).setServo 1

theorem State.selected_eq (best : Option (List Nat)) : s.selected p best = (s.chosen p best).followMaster := rfl

/-- The pages of the time and of the ports. -/
def ptpPages : List Nat := [Reg.pageTIME, Reg.pageTALLY, Reg.pageNET 0, Reg.pageNET 1]

theorem State.pagesBut_intSet_time (i : Nat) : s.pagesBut (s.intSet Reg.pageTIME i) ptpPages := by
  intro k hk
  refine State.rd_intSet_of_ne _ _ (fun h => hk ?_)
  subst h
  simp [ptpPages]

theorem State.pagesBut_showPtp : s.pagesBut s.showPtp ptpPages :=
  (State.regsBut_showPtp s).pagesBut (by simp [ptpKeys, ptpPages])

theorem State.pagesBut_setServo (st : Nat) : s.pagesBut (s.setServo st) ptpPages :=
  (State.regsBut_setServo st).pagesBut (by simp [servoKeys, ptpPages, tallyKeys])

theorem State.pagesBut_wr64_master (v : Nat) : s.pagesBut (s.wr64 Reg.TIME_GM_ID_LO Reg.TIME_GM_ID_HI v) ptpPages := by
  intro k hk
  have hlo : k ≠ Reg.TIME_GM_ID_LO := fun h => hk (by rw [h]; simp [ptpPages])
  have hhi : k ≠ Reg.TIME_GM_ID_HI := fun h => hk (by rw [h]; simp [ptpPages])
  rw [State.wr64, State.rd_wr_of_ne _ _ hhi, State.rd_wr_of_ne _ _ hlo]

theorem State.pagesBut_chosen (best : Option (List Nat)) : s.pagesBut (s.chosen p best) ptpPages := by
  have hshown : s.pagesBut (s.setNetPort p { s.netPort p with best := best }).showPtp ptpPages :=
    State.pagesBut_showPtp (s := s.setNetPort p { s.netPort p with best := best })
  unfold State.chosen
  dsimp only
  split
  · exact hshown.trans (State.pagesBut_intSet_time 12)
  · exact hshown

@[simp] theorem State.agree_chosen {t : State} {ps : List Part} (best : Option (List Nat)) (h : .net ∈ ps) :
    t.Agree ps (s.chosen p best) ↔ t.Agree ps s := by
  unfold State.chosen
  dsimp only
  split <;> simp [h]

theorem State.net_chosen (best : Option (List Nat)) :
    (s.chosen p best).net = (s.setNetPort p { s.netPort p with best := best }).net := by
  unfold State.chosen
  dsimp only
  split <;> simp

theorem State.best_chosen (best : Option (List Nat)) : ((s.chosen p best).netPort p).best = best := by
  rw [State.netPort_congr (congrArg NetUnit.ports (State.net_chosen best)), State.netPort_setNetPort_same]

theorem State.best_chosen_of_ne {q : Nat} (best : Option (List Nat)) (h : q ≠ p) :
    ((s.chosen p best).netPort q).best = (s.netPort q).best := by
  rw [State.netPort_congr (congrArg NetUnit.ports (State.net_chosen best)), State.netPort_setNetPort_of_ne _ _ h]

/-- One round of `clearSamples`. -/
def State.clearPort (s : State) (p : Nat) : State :=
  s.setNetPort p { s.netPort p with
    sync := none, last := none, req := none, resp := none, delays := [], suspects := [], off := none, samples := 0
    stepped := none }

theorem State.best_clearPort (q : Nat) : ((s.clearPort p).netPort q).best = (s.netPort q).best := by
  by_cases h : q = p
  · subst h
    rw [State.clearPort, State.netPort_setNetPort_same]
  · rw [State.clearPort, State.netPort_setNetPort_of_ne _ _ h]

theorem State.clearSamples_eq : s.clearSamples =
    ((s.modNet (fun n => { n with lockRun := 0, offRun := 0, agree := none })).clearPort 0).clearPort 1 := rfl

theorem State.best_clearSamples (q : Nat) : (s.clearSamples.netPort q).best = (s.netPort q).best := by
  rw [State.clearSamples_eq, State.best_clearPort, State.best_clearPort]
  rfl

@[simp] theorem State.agree_clearSamples {t : State} {ps : List Part} (h : .net ∈ ps) :
    t.Agree ps s.clearSamples ↔ t.Agree ps s := by simp [State.clearSamples_eq, State.clearPort, h]

theorem State.best_followMaster (q : Nat) : (s.followMaster.netPort q).best = (s.netPort q).best := by
  unfold State.followMaster
  split
  · rfl
  · dsimp only
    split
    · rfl
    · rw [State.netPort_setServo]
      exact State.best_clearSamples q

@[simp] theorem State.agree_followMaster {t : State} {ps : List Part} (hn : .net ∈ ps) (hm : .mgmt ∈ ps) :
    t.Agree ps s.followMaster ↔ t.Agree ps s := by
  unfold State.followMaster
  split
  · rfl
  · dsimp only
    split <;> simp [hn, hm]

theorem State.pagesBut_followMaster : s.pagesBut s.followMaster ptpPages := by
  unfold State.followMaster
  split
  · exact fun _ _ => rfl
  · next b _ =>
    have hshown : s.pagesBut (s.wr64 Reg.TIME_GM_ID_LO Reg.TIME_GM_ID_HI (gmId b)).clearSamples ptpPages :=
      State.pagesBut_wr64_master _
    dsimp only
    split
    · exact State.pagesBut_wr64_master _
    · exact (hshown.trans (State.pagesBut_intSet_time 12)).trans (State.pagesBut_setServo 1)

/-- What the selection of a data set leaves. -/
theorem State.selected_spec (best : Option (List Nat)) :
    ((s.selected p best).netPort p).best = best ∧ s.pagesBut (s.selected p best) ptpPages ∧
      s.Agree [.net, .mgmt] (s.selected p best) := by
  rw [State.selected_eq]
  refine ⟨?_, (State.pagesBut_chosen best).trans State.pagesBut_followMaster, by simp⟩
  rw [State.best_followMaster, State.best_chosen]

theorem State.best_selected_of_ne {q : Nat} (best : Option (List Nat)) (h : q ≠ p) :
    ((s.selected p best).netPort q).best = (s.netPort q).best := by
  rw [State.selected_eq, State.best_followMaster, State.best_chosen_of_ne _ h]

end
end Sys2Proof.Machine
end

section
/-! The PTP messages, settled. -/

namespace Sys2Proof.Machine

section
variable (s : State) (p : Fin 2)

theorem State.delayReq_of_l2 {t : Nat} (hp2p : s.p2p = false) (hbest : (s.netPort p).best.isSome = true)
    (htwo : s.bit Reg.TIME_TIME_CFG 13 = true) :
    execDelayReq p t s = .next (((s.till t).setNetPort p { s.netPort p with
      req := some (((s.netPort p).reqSeq + 1) % 65536, t), reqSeq := ((s.netPort p).reqSeq + 1) % 65536, resp := none }).ptpSend
        p 1 (((s.netPort p).reqSeq + 1) % 65536) 0 0) := by
  have hp2p' : (s.till t).p2p = false := hp2p
  have hcond : ¬((!(s.till t).p2p && ((s.till t).netPort p).best.isNone) = true) := by
    have : ((s.till t).netPort p).best.isSome = true := hbest
    simp [Option.isSome_iff_ne_none.1 this]
  refine (if_neg hcond).trans ?_
  dsimp only
  congr 2
  · exact if_neg (by simp [State.p2p] at hp2p ⊢; exact hp2p)
  · exact if_pos htwo

/-- A two-step answer takes two messages. -/
theorem State.pdelayReq_of_twoStep {m : PtpMsg} {t : Nat} (hp2p : s.p2p = true) (htwo : s.bit Reg.TIME_TIME_CFG 13 = true) :
    execPdelayReq p m t s = .next (((s.till t).ptpSend p 3 m.seq ((((s.till t).timeOf m.frc).1 : Int) - s.rxLat p) m.corr).ptpSend
      p 10 m.seq ((((s.till t).timeOf t).1 : Int) + s.txLat p) 0) := by
  have hp2p' : (s.till t).p2p = true := hp2p
  exact (if_neg (by simp [hp2p'])).trans (if_pos htwo)

theorem State.rd_withOffset_of_ne (s : State) (p : Nat) (t1 d : Int) (f : Nat) {k : Nat} (h : k ≠ Reg.NET_PTP_OFFSET p) :
    (s.withOffset p t1 d f).rd k = s.rd k := State.rd_wr_of_ne _ _ h

theorem State.rdF_of_rd_eq {s t : State} {k hi lo : Nat} (h : t.rd k = s.rd k) : t.rdF k hi lo = s.rdF k hi lo :=
  congrArg (fun v => fld v hi lo) h

variable {s p}

/-- The first delay sample of a port in FREE, after the port's exchange has been changed. -/
theorem State.firstDelay_spec {x : NetPort} (d : Int) (hst : s.servoSt = 0) (hdelays : x.delays = []) :
    ((s.setNetPort p x).delaySample p d).netPort p = { x with delays := [d], suspects := [] } ∧
      s.regsBut ((s.setNetPort p x).delaySample p d) ptpKeys ∧ s.Agree [.net] ((s.setNetPort p x).delaySample p d) := by
  have hport := State.netPort_setNetPort_same s p x
  rw [State.delaySample_of_free (s := s.setNetPort p x) d hst (by rwa [hport]), hport]
  exact ⟨State.netPort_sampled _ p.isLt, State.regsBut_sampled (s := s.setNetPort p x) _, by simp⟩

theorem State.netTag_congr {s t : State} (h : t.rd Reg.PRP_VLAN_CFG = s.rd Reg.PRP_VLAN_CFG) : t.netTag = s.netTag := by
  unfold State.netTag State.bit State.rdF
  rw [h]

/-- A second message on the same port. -/
theorem State.ptpSend_of_sent {o : Out} {type seq : Nat} {time corr : Int}
    (hl2 : s.bit Reg.PRP_PTP_TRANSPORT 0 = false ∨ s.bit Reg.PRP_PTP_TRANSPORT 1 = true)
    (hup : s.bit (Reg.NET_PORT_STATUS p) 0 = true) (hon : s.bit (Reg.NET_PORT_CFG p) 2 = false) :
    ((s.count (Reg.NET_TX_FRAMES p)).emit o).ptpSend p type seq time corr =
      (((s.count (Reg.NET_TX_FRAMES p)).emit o).count (Reg.NET_TX_FRAMES p)).emit
        (.net p s.netTag 0x88F7 [type, seq, unsgn 80 time, unsgn 64 corr]) := by
  have hrd (k : Nat) (hk : k ≠ Reg.NET_TX_FRAMES p) : ((s.count (Reg.NET_TX_FRAMES p)).emit o).rd k = s.rd k := by
    rw [State.emit_rd, State.rd_count_of_ne _ hk]
  have hbit (k i : Nat) (hk : k ≠ Reg.NET_TX_FRAMES p) : ((s.count (Reg.NET_TX_FRAMES p)).emit o).bit k i = s.bit k i :=
    congrArg (bitOf · i) (hrd k hk)
  rw [State.ptpSend_of_up _ _ (by rwa [hbit _ _ (by simp; omega), hbit _ _ (by simp; omega)])
    (by rwa [hbit _ _ (by simp)]) (by rwa [hbit _ _ (by simp)]), State.netTag_congr (hrd _ (by simp; omega))]

/-- The two messages of a two-step answer on a port that is up. -/
theorem State.pdelayReq_of_up {m : PtpMsg} {t : Nat} (hp2p : s.p2p = true) (htwo : s.bit Reg.TIME_TIME_CFG 13 = true)
    (hl2 : s.bit Reg.PRP_PTP_TRANSPORT 0 = false ∨ s.bit Reg.PRP_PTP_TRANSPORT 1 = true)
    (hup : s.bit (Reg.NET_PORT_STATUS p) 0 = true) (hon : s.bit (Reg.NET_PORT_CFG p) 2 = false) :
    execPdelayReq p m t s = .next (((((s.till t).count (Reg.NET_TX_FRAMES p)).emit (.net p s.netTag 0x88F7 [3, m.seq,
      unsgn 80 ((((s.till t).timeOf m.frc).1 : Int) - s.rxLat p), unsgn 64 m.corr])).count (Reg.NET_TX_FRAMES p)).emit
      (.net p s.netTag 0x88F7 [10, m.seq, unsgn 80 ((((s.till t).timeOf t).1 : Int) + s.txLat p), 0])) := by
  have hzero : unsgn 64 0 = 0 := by decide
  have hl2' : (s.till t).bit Reg.PRP_PTP_TRANSPORT 0 = false ∨ (s.till t).bit Reg.PRP_PTP_TRANSPORT 1 = true := hl2
  have hup' : (s.till t).bit (Reg.NET_PORT_STATUS p) 0 = true := hup
  have hon' : (s.till t).bit (Reg.NET_PORT_CFG p) 2 = false := hon
  rw [State.pdelayReq_of_twoStep s p hp2p htwo, State.ptpSend_of_up _ _ hl2' hup' hon', State.ptpSend_of_sent hl2' hup' hon', hzero]
  rfl

end

/-! The delay answers of a port, by what it waits for. -/

section
variable (s : State) (p : Fin 2) (m : PtpMsg)

theorem State.followUp_of_none (h : (s.netPort p).sync = none) : execFollowUp p m s = .next s := by
  unfold execFollowUp
  dsimp only
  rw [h]

theorem State.followUp_of_some {n g : Nat} {c : Int} (h : (s.netPort p).sync = some (n, g, c)) (hn : n = m.seq) :
    execFollowUp p m s =
      .next ((s.setNetPort p { s.netPort p with sync := none }).offsetSample p ((m.time : Int) + m.corr + c) g) := by
  unfold execFollowUp
  dsimp only
  rw [h]
  exact if_pos hn

theorem State.delayResp_of_none (h : (s.netPort p).req = none) : execDelayResp p m s = .next s := by
  unfold execDelayResp
  dsimp only
  rw [h]

theorem State.delayResp_of_some {n f3 f2 : Nat} {t1 : Int} (hreq : (s.netPort p).req = some (n, f3))
    (hlast : (s.netPort p).last = some (t1, f2)) (hp2p : s.p2p = false) (hme : m.forMe = true) (hn : n = m.seq) :
    execDelayResp p m s = .next ((s.setNetPort p { s.netPort p with req := none }).delaySample p
      (((m.time : Int) - m.corr - t1 - (s.elapsed f2 f3 + s.txLat p + s.rxLat p)).fdiv 2)) := by
  unfold execDelayResp
  dsimp only
  rw [hreq, hlast]
  exact if_neg (by simp [hp2p, hme, hn])

theorem State.pdelayResp_of_none (h : (s.netPort p).req = none) : execPdelayResp p m s = .next (s.till m.frc) := by
  have h' : ((s.till m.frc).netPort p).req = none := h
  unfold execPdelayResp
  dsimp only
  rw [h']

theorem State.pdelayResp_of_some {n f1 : Nat} (hreq : (s.netPort p).req = some (n, f1)) (hp2p : s.p2p = true)
    (hme : m.forMe = true) (hn : n = m.seq) : execPdelayResp p m s = .next (if m.twoStep then
      (s.till m.frc).setNetPort p { s.netPort p with resp := some (n, (m.time : Int) - m.corr, m.frc) }
      else (s.till m.frc).peerDelay p f1 m.frc m.corr) := by
  have hreq' : ((s.till m.frc).netPort p).req = some (n, f1) := hreq
  have hp2p' : (s.till m.frc).p2p = true := hp2p
  rw [apply_ite Host.Outcome.next]
  unfold execPdelayResp
  dsimp only
  split
  · next k g hsome =>
    obtain ⟨rfl, rfl⟩ : k = n ∧ g = f1 := by simpa using hsome.symm.trans hreq'
    exact if_neg (by simp [hp2p', hme, hn])
  · next hnone => exact absurd (hnone.symm.trans hreq') (by simp)

theorem State.pdelayRespFollowUp_of_none (h : (s.netPort p).resp = none) : execPdelayRespFollowUp p m s = .next s := by
  unfold execPdelayRespFollowUp
  dsimp only
  rw [h]
  cases (s.netPort p).req with
  | none => rfl
  | some q => rfl

theorem State.pdelayRespFollowUp_of_some {n f1 f4 : Nat} {t2 : Int} (hreq : (s.netPort p).req = some (n, f1))
    (hresp : (s.netPort p).resp = some (n, t2, f4)) (hp2p : s.p2p = true) (hme : m.forMe = true) (hn : n = m.seq) :
    execPdelayRespFollowUp p m s = .next (s.peerDelay p f1 f4 ((m.time : Int) + m.corr - t2)) := by
  unfold execPdelayRespFollowUp
  dsimp only
  rw [hreq, hresp]
  exact if_neg (by simp [hp2p, hme, hn])

theorem State.ptpAnnounce_of_none (h : (s.netPort p).best = none) :
    execPtpAnnounce p m s = .next ((s.till m.frc).selected p (some m.data)) := by
  have h' : ((s.till m.frc).netPort p).best = none := h
  unfold execPtpAnnounce
  dsimp only
  rw [h']

theorem State.ptpAnnounce_of_some {b : List Nat} (h : (s.netPort p).best = some b) :
    execPtpAnnounce p m s = .next (if b.getD 7 0 = m.data.getD 7 0 ∨ keyBefore m.data b then
      (s.till m.frc).selected p (some m.data) else s.till m.frc) := by
  have h' : ((s.till m.frc).netPort p).best = some b := h
  rw [apply_ite Host.Outcome.next]
  unfold execPtpAnnounce
  dsimp only
  rw [h']

/-- The frame of a data set selected. -/
theorem State.announced_spec : (((s.till m.frc).selected p (some m.data)).netPort p).best = some m.data ∧
    s.pagesBut ((s.till m.frc).selected p (some m.data)) ptpPages ∧
    ((s.till m.frc).selected p (some m.data)).frc = (s.till m.frc).frc ∧
    s.Agree [.net, .mgmt, .frc] ((s.till m.frc).selected p (some m.data)) := by
  obtain ⟨hbest, hregs, hagree⟩ := State.selected_spec (s := s.till m.frc) (p := p) (some m.data)
  exact ⟨hbest, hregs, hagree.frc_eq (by simp), by simp [State.selected_eq]⟩

end

/-- Settles O44: each message has the effect of the ports that it finds. -/
theorem ptpMessages : Obligations.PtpMessages := by
  unfold Obligations.PtpMessages
  refine ⟨fun p m s htwo => ?_, fun p m s htwo hbest => ?_, fun p m s htwo hbest hdelays => ?_,
    fun p m d s htwo hbest hdelay hst hfew => ?_, fun p m s hsync => ?_, fun p m n g c s hsync hn hbest hdelays => ?_,
    fun p t s hp2p hbest => ?_, fun p t s hp2p hl2 hbest htwo hup hon => ?_,
    fun p type seq time corr s hup hon h0 h1 => ?_, fun p type seq time corr s hup hon hl2 => ?_,
    fun p m s hreq => ?_, fun p m n f3 f2 t1 s hreq hlast hp2p hme hn hdelays hst => ?_, fun p m t s hp2p => ?_,
    fun p m t s hp2p hl2 htwo hup hon => ?_, fun p m s hreq => ?_, fun p m n f1 s hreq hp2p hme hn htwo => ?_,
    fun p m n f1 s hreq hp2p hme hn htwo hdelays hst => ?_, fun p m s hresp => ?_,
    fun p m n f1 f4 t2 s hreq hresp hp2p hme hn hdelays hst => ?_, fun p m s hbest => ?_, fun p m b s hbest hdiff hkey => ?_,
    fun p m b s hbest hkey => ?_, fun p s => ?_⟩
  · refine ⟨_, if_pos htwo, rfl, State.netPort_setNetPort_same _ _ _, State.netPort_setNetPort_of_ne _ _ ?_, rfl⟩
    omega
  · exact (if_neg (by simp [htwo])).trans (congrArg _ ((s.till m.frc).offsetSample_of_noMaster p _ _ hbest))
  · exact ⟨_, (if_neg (by simp [htwo])).trans (congrArg _ ((s.till m.frc).offsetSample_of_noDelay p _ _ hbest hdelays)), rfl,
      State.netPort_setNetPort_same _ _ _, rfl⟩
  · have hport := State.netPort_withOffset (s.till m.frc) p ((m.time : Int) + m.corr) d m.frc
    obtain ⟨a, ha⟩ := State.servoStep_of_free (s := (s.till m.frc).withOffset p ((m.time : Int) + m.corr) d m.frc) (p := p)
      ((State.rdF_of_rd_eq (State.rd_withOffset_of_ne _ _ _ _ _ (by simp; omega))).trans hst) (by rw [hport]; exact Nat.succ_lt_succ hfew)
    refine ⟨_, (if_neg (by simp [htwo])).trans (congrArg _ (((s.till m.frc).offsetSample_of_delay p hbest hdelay).trans ha)),
      rfl, congrArg NetPort.samples hport, congrArg NetPort.last hport, ?_, ?_, rfl⟩
    · exact congrArg (fun x => x.off.isSome) hport
    · intro k hk
      exact State.rd_withOffset_of_ne _ _ _ _ _ (fun h => hk (List.mem_singleton.2 h))
  · exact s.followUp_of_none p m hsync
  · have hcleared := State.netPort_setNetPort_same s p { s.netPort p with sync := none }
    refine ⟨(s.setNetPort p { s.netPort p with sync := none }).setNetPort p
      { s.netPort p with sync := none, last := some ((m.time : Int) + m.corr + c, g) },
      (s.followUp_of_some p m hsync hn).trans ?_, State.netPort_setNetPort_same _ _ _, rfl⟩
    rw [State.offsetSample_of_noDelay _ _ _ _ (by rwa [hcleared]) (by rwa [hcleared]), hcleared]
  · have hp2p' : (s.till t).p2p = false := hp2p
    have hbest' : ((s.till t).netPort p).best = none := hbest
    exact if_pos (by simp [hp2p', hbest'])
  · exact ⟨_, (s.delayReq_of_l2 p hp2p hbest htwo).trans (congrArg _ (State.ptpSend_of_up _ _ hl2 hup hon)), rfl,
      State.netPort_setNetPort_same _ _ _, rfl, fun k hk => State.regsBut_count_emit _ _ _ k hk, rfl⟩
  · refine ⟨_, rfl, ?_⟩
    rw [State.ptpSend_of_udp s p h0 h1, State.netSend_of_up s p hup hon]
    exact ⟨rfl, by rw [State.emit_rd, State.rd_count_same], State.regsBut_count_emit _ _ _,
      State.Agree.revert_eq (ps := [.out]) (by simp)⟩
  · refine ⟨_, rfl, ?_⟩
    rw [State.ptpSend_of_up s p hl2 hup hon]
    exact ⟨rfl, State.regsBut_count_emit _ _ _, State.Agree.revert_eq (ps := [.out]) (by simp)⟩
  · exact s.delayResp_of_none p m hreq
  · obtain ⟨hport, hregs, hagree⟩ := State.firstDelay_spec (s := s) (p := p) (x := { s.netPort p with req := none })
      (((m.time : Int) - m.corr - t1 - (s.elapsed f2 f3 + s.txLat p + s.rxLat p)).fdiv 2) hst hdelays
    exact ⟨_, s.delayResp_of_some p m hreq hlast hp2p hme hn, congrArg NetPort.delays hport, congrArg NetPort.req hport, hregs,
      hagree.revert_eq⟩
  · have hp2p' : (s.till t).p2p = false := hp2p
    exact if_pos (by simp [hp2p'])
  · refine ⟨_, State.pdelayReq_of_up hp2p htwo hl2 hup hon, rfl, by simp, ?_, rfl⟩
    intro k hk
    rw [State.regsBut_count_emit _ _ _ k hk]
    exact State.regsBut_count_emit (s.till t) _ _ k hk
  · exact s.pdelayResp_of_none p m hreq
  · exact ⟨_, (s.pdelayResp_of_some p m hreq hp2p hme hn).trans (congrArg _ (if_pos htwo)), rfl,
      State.netPort_setNetPort_same _ _ _, rfl⟩
  · obtain ⟨hport, hregs, hagree⟩ := State.firstDelay_spec (s := s.till m.frc) (p := p)
      (x := { s.netPort p with req := none, resp := none })
      ((s.elapsed f1 m.frc - s.txLat p - s.rxLat p - m.corr).fdiv 2) hst hdelays
    have hframe : s.Agree [.net, .frc] (s.till m.frc) := by simp
    exact ⟨_, (s.pdelayResp_of_some p m hreq hp2p hme hn).trans (congrArg _ (if_neg (by simp [htwo]))), hagree.frc_eq (by simp),
      congrArg NetPort.delays hport, congrArg NetPort.req hport, hregs, (hframe.trans (hagree.mono (by simp))).revert_eq⟩
  · exact s.pdelayRespFollowUp_of_none p m hresp
  · obtain ⟨hport, hregs, hagree⟩ := State.firstDelay_spec (s := s) (p := p)
      (x := { s.netPort p with req := none, resp := none })
      ((s.elapsed f1 f4 - s.txLat p - s.rxLat p - ((m.time : Int) + m.corr - t2)).fdiv 2) hst hdelays
    exact ⟨_, s.pdelayRespFollowUp_of_some p m hreq hresp hp2p hme hn, congrArg NetPort.delays hport,
      congrArg (fun x => (x.req, x.resp)) hport, hregs, hagree.revert_eq⟩
  · obtain ⟨hdata, hregs, hfrc, hagree⟩ := s.announced_spec p m
    exact ⟨_, s.ptpAnnounce_of_none p m hbest, hfrc, hdata, hregs, hagree.revert_eq⟩
  · exact (s.ptpAnnounce_of_some p m hbest).trans (congrArg _ (if_neg (not_or.2 ⟨hdiff, by simp [hkey]⟩)))
  · obtain ⟨hdata, hregs, hfrc, hagree⟩ := s.announced_spec p m
    exact ⟨_, (s.ptpAnnounce_of_some p m hbest).trans (congrArg _ (if_pos (.inr hkey))), hfrc, hdata, hregs, hagree.revert_eq⟩
  · obtain ⟨hchosen, hregs, hagree⟩ := State.selected_spec (s := s) (p := p) none
    exact ⟨_, rfl, hchosen, State.best_selected_of_ne _ (by omega), hregs, hagree.revert_eq⟩

end Sys2Proof.Machine
end

section
/-! The checks of a received frame (R383, R384, R386). -/

namespace Sys2Proof.Machine

section
variable (s : State) (p : Fin 2)

/-- A frame is counted before its checks. -/
def State.received (s : State) (p t : Nat) : State := (s.till t).count (Reg.NET_RX_FRAMES p)

theorem State.rd_received_of_ne {p t k : Nat} (h : k ≠ Reg.NET_RX_FRAMES p) : (s.received p t).rd k = s.rd k :=
  (State.rd_count_of_ne (s := s.till t) h).trans rfl

theorem State.rd_received_same (p t : Nat) :
    (s.received p t).rd (Reg.NET_RX_FRAMES p) = satInc 32 (s.rd (Reg.NET_RX_FRAMES p)) := State.rd_count_same (s := s.till t) _

theorem State.bit_of_rd_eq {s t : State} {k i : Nat} (h : t.rd k = s.rd k) : t.bit k i = s.bit k i :=
  congrArg (fun v => bitOf v i) h

theorem State.mac_of_rd_eq {s t : State} {lo hi : Nat} (hlo : t.rd lo = s.rd lo) (hhi : t.rd hi = s.rd hi) :
    t.mac lo hi = s.mac lo hi := by
  rw [State.mac, State.mac, hlo, State.rdF_of_rd_eq hhi]

/-- The checks read registers of the pages PRP, PAIR and TIME only. -/
structure State.SameNetConfig (s t : State) : Prop where
  vlan : t.rd Reg.PRP_VLAN_CFG = s.rd Reg.PRP_VLAN_CFG
  node : t.nodeMac = s.nodeMac
  transport : t.rd Reg.PRP_PTP_TRANSPORT = s.rd Reg.PRP_PTP_TRANSPORT
  anySource : t.rd Reg.PRP_PTP_SRC_MAC_HI = s.rd Reg.PRP_PTP_SRC_MAC_HI
  source : t.mac Reg.PRP_PTP_SRC_MAC_LO Reg.PRP_PTP_SRC_MAC_HI = s.mac Reg.PRP_PTP_SRC_MAC_LO Reg.PRP_PTP_SRC_MAC_HI
  lookoutType : t.rd Reg.PAIR_LOOKOUT_MAC_HI = s.rd Reg.PAIR_LOOKOUT_MAC_HI
  lookout : t.mac Reg.PAIR_LOOKOUT_MAC_LO Reg.PAIR_LOOKOUT_MAC_HI = s.mac Reg.PAIR_LOOKOUT_MAC_LO Reg.PAIR_LOOKOUT_MAC_HI
  partner : t.mac Reg.PAIR_PARTNER_MAC_LO Reg.PAIR_PARTNER_MAC_HI = s.mac Reg.PAIR_PARTNER_MAC_LO Reg.PAIR_PARTNER_MAC_HI
  time : t.rd Reg.TIME_TIME_CFG = s.rd Reg.TIME_TIME_CFG

theorem State.sameNetConfig_received (t : Nat) : s.SameNetConfig (s.received p t) := by
  have hrd {k : Nat} (h : k ≠ Reg.NET_RX_FRAMES p) := s.rd_received_of_ne (p := p) (t := t) h
  exact {
    vlan := hrd (by simp; omega)
    node := State.mac_of_rd_eq (hrd (by simp; omega)) (hrd (by simp; omega))
    transport := hrd (by simp; omega)
    anySource := hrd (by simp; omega)
    source := State.mac_of_rd_eq (hrd (by simp; omega)) (hrd (by simp; omega))
    lookoutType := hrd (by simp; omega)
    lookout := State.mac_of_rd_eq (hrd (by simp; omega)) (hrd (by simp; omega))
    partner := State.mac_of_rd_eq (hrd (by simp; omega)) (hrd (by simp; omega))
    time := hrd (by simp; omega) }

variable {s} {t : State} (h : s.SameNetConfig t) (f : NetFrame)
include h

theorem State.SameNetConfig.vlanOk_eq : t.vlanOk f = s.vlanOk f := by
  unfold State.vlanOk
  rw [State.bit_of_rd_eq h.vlan, State.rdF_of_rd_eq h.vlan]

theorem State.SameNetConfig.addrOk_eq : t.addrOk f = s.addrOk f := by
  unfold State.addrOk State.udpEn
  rw [State.bit_of_rd_eq h.transport, h.node]

theorem State.SameNetConfig.isPtp_eq : t.isPtp f = s.isPtp f := by
  unfold State.isPtp State.udpEn State.l2En
  rw [State.bit_of_rd_eq h.transport, State.bit_of_rd_eq h.transport, State.bit_of_rd_eq h.anySource, h.source]

theorem State.SameNetConfig.frameClass_eq : t.frameClass f = s.frameClass f := by
  unfold State.frameClass
  rw [h.isPtp_eq, State.rdF_of_rd_eq h.lookoutType, h.lookout, h.partner]

theorem State.SameNetConfig.ptpForeign_eq : t.ptpForeign f = s.ptpForeign f := by
  unfold State.ptpForeign
  rw [State.rdF_of_rd_eq h.time, State.rdF_of_rd_eq h.time]

end

section
variable (s : State) (p : Fin 2) (f : NetFrame) (t : Nat)

theorem State.networkFrame_of_bad (h : f.fcsOk = false ∨ f.length < 64 ∨ 1522 < f.length) :
    execNetworkFrame p f t s = .next ((s.received p t).count (Reg.NET_DROP_FCS p)) := by
  refine if_pos ?_
  rw [Bool.or_eq_true, Bool.or_eq_true, Bool.not_eq_true', decide_eq_true_iff, decide_eq_true_iff, or_assoc]
  exact h

variable {s p f t} (hfcs : f.fcsOk = true) (hlo : 64 ≤ f.length) (hhi : f.length ≤ 1522)
include hfcs hlo hhi

theorem NetFrame.good : ¬(!f.fcsOk || f.length < 64 || 1522 < f.length) = true := by
  simp [hfcs, hlo, hhi]

theorem State.networkFrame_of_vlan (hvlan : s.vlanOk f = false) :
    execNetworkFrame p f t s = .next ((s.received p t).count (Reg.NET_DROP_VLAN p)) := by
  have hvlan' := ((s.sameNetConfig_received p t).vlanOk_eq f).trans hvlan
  exact (if_neg (NetFrame.good hfcs hlo hhi)).trans (if_pos (by simp [State.received] at hvlan' ⊢; exact hvlan'))

variable (hvlan : s.vlanOk f = true)
include hvlan

theorem State.networkFrame_of_addr (haddr : s.addrOk f = false) :
    execNetworkFrame p f t s = .next ((s.received p t).count (Reg.NET_DROP_ADDR p)) := by
  have hcfg := s.sameNetConfig_received p t
  have hvlan' : ¬(!(s.received p t).vlanOk f) = true := by simp [hcfg.vlanOk_eq, hvlan]
  have haddr' : (!(s.received p t).addrOk f) = true := by simp [hcfg.addrOk_eq, haddr]
  exact (if_neg (NetFrame.good hfcs hlo hhi)).trans ((if_neg hvlan').trans (if_pos haddr'))

variable (haddr : s.addrOk f = true)
include haddr

theorem State.networkFrame_of_noClass (hclass : s.frameClass f = none) :
    execNetworkFrame p f t s = .next ((s.received p t).count (Reg.NET_DROP_TYPE p)) := by
  have hcfg := s.sameNetConfig_received p t
  have hvlan' : ¬(!(s.received p t).vlanOk f) = true := by simp [hcfg.vlanOk_eq, hvlan]
  have haddr' : ¬(!(s.received p t).addrOk f) = true := by simp [hcfg.addrOk_eq, haddr]
  have hclass' : (s.received p t).frameClass f = none := (hcfg.frameClass_eq f).trans hclass
  refine (if_neg (NetFrame.good hfcs hlo hhi)).trans ((if_neg hvlan').trans ((if_neg haddr').trans ?_))
  unfold State.received at hclass'
  rw [hclass']
  rfl

theorem State.networkFrame_of_class {c : Nat} (hclass : s.frameClass f = some c) :
    execNetworkFrame p f t s = if c = 0 ∧ s.ptpForeign f = true then .next ((s.received p t).count Reg.TIME_PTP_DISCARD)
      else .next ((s.received p t).takeFrame p c f) := by
  have hcfg := s.sameNetConfig_received p t
  have hvlan' : ¬(!(s.received p t).vlanOk f) = true := by simp [hcfg.vlanOk_eq, hvlan]
  have haddr' : ¬(!(s.received p t).addrOk f) = true := by simp [hcfg.addrOk_eq, haddr]
  have hclass' : (s.received p t).frameClass f = some c := (hcfg.frameClass_eq f).trans hclass
  refine (if_neg (NetFrame.good hfcs hlo hhi)).trans ((if_neg hvlan').trans ((if_neg haddr').trans ?_))
  rw [← hcfg.ptpForeign_eq f]
  unfold State.received at hclass' ⊢
  rw [hclass']

end

/-! ## Checks 5 to 7 -/

section
variable {s : State} {c : Nat}

theorem State.takeFrame_ptp (p : Nat) (f : NetFrame) :
    s.takeFrame p 0 f = if (s.police 0).2 then (s.police 0).1.queueFrame p 0 f else (s.police 0).1 := by
  unfold State.takeFrame
  rw [if_pos rfl]
  dsimp only
  generalize s.police 0 = q
  obtain ⟨u, b⟩ := q
  cases b <;> rfl

theorem State.takeFrame_lookout (p : Nat) (f : NetFrame) :
    s.takeFrame p 1 f = if (s.prpCheck p f s.frc).2 then (s.prpCheck p f s.frc).1
      else if ((s.prpCheck p f s.frc).1.police 1).2 then ((s.prpCheck p f s.frc).1.police 1).1.queueFrame p 1 f
      else ((s.prpCheck p f s.frc).1.police 1).1 := by
  unfold State.takeFrame
  rw [if_neg (by decide)]
  generalize s.prpCheck p f s.frc = q
  obtain ⟨u, dup⟩ := q
  dsimp only
  generalize u.police 1 = r
  obtain ⟨v, ok⟩ := r
  cases dup <;> cases ok <;> rfl

/-- The tokens of a class that are in use. -/
def State.tokensTaken (s : State) (c : Nat) : Nat :=
  (smGet (fun _ => (0, 0)) s.net.police c).1 -
    s.rdF (Reg.PRP_POLICE_PTP + 4 * c) 15 0 * (s.frc - (smGet (fun _ => (0, 0)) s.net.police c).2)

def State.tokenLeft (s : State) (c : Nat) : Bool :=
  decide (s.rdF (Reg.PRP_POLICE_PTP + 4 * c) 15 0 ≠ 0 ∧
    s.tokensTaken c + 800000000 ≤ s.rdF (Reg.PRP_POLICE_PTP + 4 * c) 23 16 * 800000000)

def NetUnit.withPolice (n : NetUnit) (l : SMap (Nat × Nat)) : NetUnit := { n with police := l }

theorem NetUnit.queues_withPolice (n : NetUnit) (l : SMap (Nat × Nat)) : (n.withPolice l).queues = n.queues := rfl

/-- One token more is in use. -/
def State.takeToken (s : State) (c : Nat) : State :=
  s.modNet (fun n => n.withPolice (smSet (fun _ => (0, 0)) n.police c (s.tokensTaken c + 800000000, s.frc)))

theorem ite_eq_ite_decide {α : Type} {P : Prop} [Decidable P] (a b : α) :
    (if P then a else b) = if decide P then a else b := by
  by_cases h : P
  · rw [if_pos h, if_pos (decide_eq_true h)]
  · rw [if_neg h, if_neg (by simpa using h)]

theorem State.police_eq (s : State) (c : Nat) : s.police c = if s.tokenLeft c
    then (s.takeToken c, true)
    else ((s.countF Reg.PRP_DROP_POLICE (8 * c + 7) (8 * c)).intSet Reg.pagePRP 8, false) := by
  unfold State.police State.tokenLeft State.takeToken
  exact ite_eq_ite_decide _ _

theorem State.police_snd : (s.police c).2 = s.tokenLeft c := by
  rw [State.police_eq]
  cases s.tokenLeft c <;> rfl

theorem State.police_of_token (h : (s.police c).2 = true) : (s.police c).1 = s.takeToken c := by
  rw [State.police_eq, if_pos (State.police_snd.symm.trans h)]

@[simp] theorem State.rd_takeToken (k : Nat) : (s.takeToken c).rd k = s.rd k := s.rd_modNet _ k
@[simp] theorem State.takeToken_queues : (s.takeToken c).net.queues = s.net.queues :=
  NetUnit.queues_withPolice _ _
@[simp] theorem State.agree_takeToken {t : State} {ps : List Part} (h : .net ∈ ps) :
    t.Agree ps (s.takeToken c) ↔ t.Agree ps s := by simp [State.takeToken, h]

theorem State.police_of_noToken (h : (s.police c).2 = false) :
    (s.police c).1 = (s.countF Reg.PRP_DROP_POLICE (8 * c + 7) (8 * c)).intSet Reg.pagePRP 8 := by
  rw [State.police_eq, if_neg (by simp [State.police_snd.symm.trans h])]

/-- The policer reads a register of the page PRP, and the clock. -/
theorem State.police_snd_congr {t : State} (hrd : t.rd (Reg.PRP_POLICE_PTP + 4 * c) = s.rd (Reg.PRP_POLICE_PTP + 4 * c))
    (hfrc : t.frc = s.frc) (hnet : t.net = s.net) : (t.police c).2 = (s.police c).2 := by
  have htaken : t.tokensTaken c = s.tokensTaken c := by
    rw [State.tokensTaken, State.tokensTaken, State.rdF_of_rd_eq hrd, hfrc, hnet]
  rw [State.police_snd, State.police_snd, State.tokenLeft, State.tokenLeft, htaken, State.rdF_of_rd_eq hrd, State.rdF_of_rd_eq hrd]

end

end Sys2Proof.Machine
end

section
/-! The queues of frames, the node table and the links (R383 to R386, R404), and what a frame meets. -/

namespace Sys2Proof.Machine

section
variable {s : State}

/-! ## The class queues -/

def State.classQueue (s : State) (c : Nat) : List (Nat × NetFrame) := smGet (fun _ => []) s.net.queues c

theorem State.queueFrame_of_full {p c : Nat} {f : NetFrame} (h : 64 ≤ (s.classQueue c).length) :
    s.queueFrame p c f = s.countF Reg.PRP_DROP_QUEUE (8 * c + 7) (8 * c) := if_pos h

theorem State.queueFrame_of_room {p c : Nat} {f : NetFrame} (h : (s.classQueue c).length < 64) :
    s.queueFrame p c f =
      s.modNet (fun n => { n with queues := smSet (fun _ => []) n.queues c (s.classQueue c ++ [(p, f)]) }) :=
  if_neg (by have := h; unfold State.classQueue at this; omega)

theorem State.classQueue_queueFrame {p c : Nat} {f : NetFrame} (h : (s.classQueue c).length < 64) :
    (s.queueFrame p c f).classQueue c = s.classQueue c ++ [(p, f)] := by
  rw [State.queueFrame_of_room h]
  exact smGet_smSet_same _ _ _ _

theorem State.rd_queueFrame {p c : Nat} {f : NetFrame} (h : (s.classQueue c).length < 64) (k : Nat) :
    (s.queueFrame p c f).rd k = s.rd k := by
  rw [State.queueFrame_of_room h, State.rd_modNet]

@[simp] theorem State.agree_queueFrame {t : State} {ps : List Part} {p c : Nat} {f : NetFrame} (h : .net ∈ ps) :
    t.Agree ps (s.queueFrame p c f) ↔ t.Agree ps s := by
  unfold State.queueFrame
  dsimp only
  split <;> simp [h]

theorem State.classQueue_takeToken (c d : Nat) : (s.takeToken c).classQueue d = s.classQueue d := by
  rw [State.classQueue, State.takeToken_queues, State.classQueue]

/-! ## A received frame that passes -/

theorem State.classQueue_received (p t c : Nat) : (s.received p t).classQueue c = s.classQueue c := rfl

theorem State.frc_received (p t : Nat) : (s.received p t).frc = (s.till t).frc := rfl

@[simp] theorem State.agree_received {r : State} {ps : List Part} (p t : Nat) (h : .frc ∈ ps) :
    r.Agree ps (s.received p t) ↔ r.Agree ps s := by simp [State.received, h]

theorem State.police_received {p : Fin 2} {t c : Nat} {b : Bool} (h : ((s.till t).police c).2 = b) :
    ((s.received p t).police c).2 = b :=
  (State.police_snd_congr (s := s.till t) ((s.till t).rd_count_of_ne (by simp; omega)) rfl rfl).trans h

/-- What becomes of a frame that has its token and a place in its queue. -/
theorem State.queued_spec {p : Fin 2} {t c : Nat} {f : NetFrame} (htoken : ((s.till t).police c).2 = true)
    (hroom : (s.classQueue c).length < 64) :
    let u := ((s.received p t).police c).1.queueFrame p c f
    u.rd (Reg.NET_RX_FRAMES p) = satInc 32 (s.rd (Reg.NET_RX_FRAMES p)) ∧ u.frc = (s.till t).frc ∧
      smGet (fun _ => []) u.net.queues c = s.classQueue c ++ [(p.val, f)] ∧ s.regsBut u [Reg.NET_RX_FRAMES p] ∧
      s.Agree [.frc, .net] u := by
  have hroom' : (((s.received p t).takeToken c).classQueue c).length < 64 := by
    rwa [State.classQueue_takeToken, State.classQueue_received]
  dsimp only
  rw [State.police_of_token (State.police_received htoken)]
  refine ⟨?_, ?_, ?_, fun k hk => ?_, by simp⟩
  · rw [State.rd_queueFrame hroom', State.rd_takeToken, State.rd_received_same]
  · exact State.Agree.frc_eq (s := s.received p t) (ps := [.net]) (by simp) (by simp)
  · refine (State.classQueue_queueFrame hroom').trans ?_
    rw [State.classQueue_takeToken, State.classQueue_received]
  · rw [State.rd_queueFrame hroom', State.rd_takeToken, State.rd_received_of_ne _ (fun h => hk (List.mem_singleton.2 h))]

/-- What becomes of a frame that finds its queue full. -/
theorem State.full_spec {p : Fin 2} {t : Nat} {f : NetFrame} (htoken : ((s.till t).police 0).2 = true)
    (hfull : 64 ≤ (s.classQueue 0).length) :
    let u := ((s.received p t).police 0).1.queueFrame p 0 f
    u.rd (Reg.NET_RX_FRAMES p) = satInc 32 (s.rd (Reg.NET_RX_FRAMES p)) ∧ u.frc = (s.till t).frc ∧
      u.rdF Reg.PRP_DROP_QUEUE 7 0 = satInc 8 (s.rdF Reg.PRP_DROP_QUEUE 7 0) ∧
      s.regsBut u [Reg.NET_RX_FRAMES p, Reg.PRP_DROP_QUEUE] ∧ s.Agree [.frc, .net] u := by
  have hfull' : 64 ≤ (((s.received p t).takeToken 0).classQueue 0).length := by
    rwa [State.classQueue_takeToken, State.classQueue_received]
  dsimp only
  rw [State.police_of_token (State.police_received htoken)]
  refine ⟨?_, ?_, ?_, fun k hk => ?_, by simp⟩
  · rw [State.queueFrame_of_full hfull', State.countF, State.rd_wrF_of_ne _ _ _ _ (by simp; omega), State.rd_takeToken,
      State.rd_received_same]
  · exact State.Agree.frc_eq (s := s.received p t) (ps := [.net]) (by simp) (by simp)
  · rw [State.queueFrame_of_full hfull', State.countF, State.rdF_wrF_same _ _ _ _ _ (by decide) (by decide),
      State.rdF_of_rd_eq (State.rd_takeToken _), State.rdF_of_rd_eq (s.rd_received_of_ne (by simp; omega)),
      Nat.mod_eq_of_lt (satInc_lt _ _)]
  · simp only [List.mem_cons, List.not_mem_nil, or_false, not_or] at hk
    rw [State.queueFrame_of_full hfull', State.countF, State.rd_wrF_of_ne _ _ _ _ hk.2, State.rd_takeToken,
      State.rd_received_of_ne _ hk.1]

/-- What becomes of a frame without a token. -/
theorem State.policed_spec {p : Fin 2} {t : Nat} (hnone : ((s.till t).police 0).2 = false) :
    let u := ((s.received p t).police 0).1
    u.rd (Reg.NET_RX_FRAMES p) = satInc 32 (s.rd (Reg.NET_RX_FRAMES p)) ∧ u.frc = (s.till t).frc ∧
      u.rdF Reg.PRP_DROP_POLICE 7 0 = satInc 8 (s.rdF Reg.PRP_DROP_POLICE 7 0) ∧
      u.bit (Reg.INT_STATUS Reg.pagePRP) 8 = true ∧
      s.regsBut u [Reg.NET_RX_FRAMES p, Reg.PRP_DROP_POLICE, Reg.INT_STATUS Reg.pagePRP] ∧ s.Agree [.frc] u := by
  dsimp only
  rw [State.police_of_noToken (State.police_received hnone)]
  refine ⟨?_, ?_, ?_, ?_, fun k hk => ?_, by simp⟩
  · rw [State.rd_intSet_of_ne _ _ (by simp; omega), State.countF, State.rd_wrF_of_ne _ _ _ _ (by simp; omega),
      State.rd_received_same]
  · exact State.Agree.frc_eq (s := s.received p t) (ps := []) (by simp) (by simp)
  · rw [State.rdF_of_rd_eq (State.rd_intSet_of_ne _ _ (by simp)), State.countF,
      State.rdF_wrF_same _ _ _ _ _ (by decide) (by decide),
      State.rdF_of_rd_eq (s.rd_received_of_ne (by simp; omega)), Nat.mod_eq_of_lt (satInc_lt _ _)]
  · rw [State.bit, State.rd_intSet_same _ rfl (by decide), bitOf_putB, if_pos rfl]
  · simp only [List.mem_cons, List.not_mem_nil, or_false, not_or] at hk
    rw [State.rd_intSet_of_ne _ _ hk.2.2, State.countF, State.rd_wrF_of_ne _ _ _ _ hk.2.1, State.rd_received_of_ne _ hk.1]

end
end Sys2Proof.Machine
end

section
/-! The node table, the frames on both LANs and the links, and the obligation about received frames. -/

namespace Sys2Proof.Machine

section
variable {s : State}

/-- What a frame that fails a check leaves. -/
theorem State.dropped_spec {p t k : Nat} (h : k ≠ Reg.NET_RX_FRAMES p) :
    let u := (s.received p t).count k
    u.rd (Reg.NET_RX_FRAMES p) = satInc 32 (s.rd (Reg.NET_RX_FRAMES p)) ∧ u.frc = (s.till t).frc ∧
      u.rd k = satInc 32 (s.rd k) ∧ s.regsBut u [Reg.NET_RX_FRAMES p, k] ∧ { u with regs := s.regs, frc := s.frc } = s := by
  refine ⟨?_, rfl, ?_, fun j hj => ?_, State.Agree.revert_eq (ps := [.frc]) (by simp)⟩
  · rw [State.rd_count_of_ne _ h.symm, State.rd_received_same]
  · rw [State.rd_count_same, State.rd_received_of_ne _ h]
  · simp only [List.mem_cons, List.not_mem_nil, or_false, not_or] at hj
    rw [State.rd_count_of_ne _ hj.2, State.rd_received_of_ne _ hj.1]

/-! ## The node table -/

@[simp] theorem State.setNodes_net (l : List NetNode) : (s.setNodes l).net = { s.net with nodes := l } := rfl

theorem State.rd_setNodes_same (l : List NetNode) (h : l.length < 128) :
    (s.setNodes l).rd Reg.PRP_NODE_COUNT = l.length := by
  rw [State.setNodes, State.rd_wr_same, Nat.mod_eq_of_lt h, Nat.mod_eq_of_lt (lt_trans h (by decide))]

theorem State.rd_setNodes_of_ne (l : List NetNode) {k : Nat} (h : k ≠ Reg.PRP_NODE_COUNT) : (s.setNodes l).rd k = s.rd k := by
  rw [State.setNodes, State.rd_wr_of_ne _ _ h, State.rd_modNet]

theorem State.seeNode_of_new {mac t : Nat} {seq : Option Nat} (hnew : s.net.nodes.find? (fun e => e.mac == mac) = none)
    (hroom : s.net.nodes.length < 64) :
    s.seeNode mac t seq = s.setNodes (s.net.nodes ++ [{ mac := mac, last := t, seqs := seq.toList }]) := by
  unfold State.seeNode
  rw [hnew]
  exact if_pos hroom

theorem State.seeNode_of_full {mac t : Nat} {seq : Option Nat} (hnew : s.net.nodes.find? (fun e => e.mac == mac) = none)
    (hfull : 64 ≤ s.net.nodes.length) : s.seeNode mac t seq = s.intSet Reg.pagePRP 10 := by
  unfold State.seeNode
  rw [hnew]
  exact if_neg (by omega)

/-! ## Copies -/

theorem State.prpCheck_of_single {p t : Nat} {f : NetFrame} (h : s.bit Reg.PRP_PRP_CFG 0 = false ∨ f.trailer = none) :
    s.prpCheck p f t = (s, false) := by
  unfold State.prpCheck
  rcases h with h | h
  · exact if_pos (by simp [h])
  · rw [h]
    exact ite_self _

/-- The nodes after the second copy of a pair. -/
def State.copied (s : State) (mac t seq : Nat) : List NetNode :=
  s.net.nodes.map (fun x => if x.mac = mac then { x with last := t, seqs := x.seqs.filter (· != seq) } else x)

theorem State.prpCheck_of_copy {p t seq : Nat} {f : NetFrame} {e : NetNode} (hprp : s.bit Reg.PRP_PRP_CFG 0 = true)
    (htrailer : f.trailer = some (0xA + p, seq)) (hnode : s.net.nodes.find? (fun e => e.mac == f.src) = some e)
    (hseq : seq ∈ e.seqs) : s.prpCheck p f t = ((s.setNodes (s.copied f.src t seq)).count Reg.PRP_DUP_DISCARD, true) := by
  unfold State.prpCheck
  rw [if_neg (by simp [hprp]), htrailer]
  dsimp only
  rw [if_pos rfl, hnode]
  exact if_pos (by simpa using hseq)

/-! ## Both LANs -/

/-- A frame on each LAN. -/
def State.sentBoth (s : State) (kind : Nat) (f g : List Nat) : State :=
  (((s.count (Reg.NET_TX_FRAMES 0)).emit (.net 0 s.netTag kind f)).count (Reg.NET_TX_FRAMES 1)).emit (.net 1 s.netTag kind g)

theorem State.netSend_both {kind : Nat} {f g : List Nat}
    (hup : ∀ p ∈ List.range 2, s.bit (Reg.NET_PORT_STATUS p) 0 = true)
    (hon : ∀ p ∈ List.range 2, s.bit (Reg.NET_PORT_CFG p) 2 = false) :
    (s.netSend 0 kind f).netSend 1 kind g = s.sentBoth kind f g := by
  have hrd {k : Nat} (hk : k ≠ Reg.NET_TX_FRAMES 0) :
      ((s.count (Reg.NET_TX_FRAMES 0)).emit (.net 0 s.netTag kind f)).rd k = s.rd k := by
    rw [State.emit_rd, State.rd_count_of_ne _ hk]
  rw [State.netSend_of_up s 0 (hup 0 (by decide)) (hon 0 (by decide)), State.netSend_of_up _ 1, State.netTag_congr (hrd (by decide))]
  · rfl
  · exact (State.bit_of_rd_eq (hrd (by decide))).trans (hup 1 (by decide))
  · exact (State.bit_of_rd_eq (hrd (by decide))).trans (hon 1 (by decide))

theorem State.rd_sentBoth {kind : Nat} {f g : List Nat} {p : Nat} (hp : p ∈ List.range 2) :
    (s.sentBoth kind f g).rd (Reg.NET_TX_FRAMES p) = satInc 32 (s.rd (Reg.NET_TX_FRAMES p)) := by
  rw [State.sentBoth, State.emit_rd]
  obtain rfl | rfl : p = 0 ∨ p = 1 := by have := List.mem_range.1 hp; omega
  · rw [State.rd_count_of_ne _ (by decide), State.emit_rd, State.rd_count_same]
  · rw [State.rd_count_same, State.emit_rd, State.rd_count_of_ne _ (by decide)]

theorem State.regsBut_sentBoth (kind : Nat) (f g : List Nat) :
    s.regsBut (s.sentBoth kind f g) [Reg.NET_TX_FRAMES 0, Reg.NET_TX_FRAMES 1] := by
  intro k hk
  simp only [List.mem_cons, List.not_mem_nil, or_false, not_or] at hk
  rw [State.sentBoth, State.emit_rd, State.rd_count_of_ne _ hk.2, State.emit_rd, State.rd_count_of_ne _ hk.1]

theorem State.out_sentBoth (kind : Nat) (f g : List Nat) :
    (s.sentBoth kind f g).out = s.out ++ [.net 0 s.netTag kind f, .net 1 s.netTag kind g] := by
  simp [State.sentBoth]

@[simp] theorem State.agree_sentBoth {t : State} {ps : List Part} (kind : Nat) (f g : List Nat) (h : .out ∈ ps) :
    t.Agree ps (s.sentBoth kind f g) ↔ t.Agree ps s := by simp [State.sentBoth, h]

/-! ## Links -/

/-- The link is up at a speed. -/
def State.linked (s : State) (p x : Nat) : State :=
  let s := ((s.wrB (Reg.NET_PORT_STATUS p) 0 true).wrB (Reg.NET_PORT_STATUS p) 4 (x == 1)).wr (Reg.NET_INT_LAT p)
    (if x = 1 then 0x08700460 else 0x01E00150)
  ((s.setStCode (Reg.pageNET p) 1).ready (Reg.pageNET p) true).intSet (Reg.pageNET p) 8

theorem State.regsBut_linked (p x : Nat) : s.regsBut (s.linked p x) [Reg.NET_PORT_STATUS p, Reg.STATUS (Reg.pageNET p),
    Reg.INT_STATUS (Reg.pageNET p), Reg.NET_INT_LAT p] := by
  intro k hk
  simp only [List.mem_cons, List.not_mem_nil, or_false, not_or] at hk
  obtain ⟨hport, hstatus, hint, hlat⟩ := hk
  rw [State.linked, State.rd_intSet_of_ne _ _ hint, State.rd_ready_of_ne _ _ hstatus, State.rd_setStCode_of_ne _ _ hstatus,
    State.rd_wr_of_ne _ _ hlat, State.rd_wrB_of_ne _ _ _ hport, State.rd_wrB_of_ne _ _ _ hport]

theorem State.linked_spec (p x : Nat) : (s.linked p x).bit (Reg.NET_PORT_STATUS p) 0 = true ∧
    (s.linked p x).bit (Reg.NET_PORT_STATUS p) 4 = (x == 1) ∧
    (s.linked p x).rd (Reg.NET_INT_LAT p) = (if x = 1 then 0x08700460 else 0x01E00150) ∧
    (s.linked p x).stCode (Reg.pageNET p) = 1 ∧ (s.linked p x).bit (Reg.STATUS (Reg.pageNET p)) 0 = true ∧
    (s.linked p x).bit (Reg.INT_STATUS (Reg.pageNET p)) 8 = true := by
  have hport : (s.linked p x).rd (Reg.NET_PORT_STATUS p) =
      putB (putB (s.rd (Reg.NET_PORT_STATUS p)) 0 true) 4 (x == 1) := by
    rw [State.linked, State.rd_intSet_of_ne _ _ (by simp; omega), State.rd_ready_of_ne _ _ (by simp; omega),
      State.rd_setStCode_of_ne _ _ (by simp; omega), State.rd_wr_of_ne _ _ (by simp), State.rd_wrB_same _ _ _ (by decide),
      State.rd_wrB_same _ _ _ (by decide)]
  have hstatus : (s.linked p x).rd (Reg.STATUS (Reg.pageNET p)) =
      putB (putFld (s.rd (Reg.STATUS (Reg.pageNET p))) 7 4 1) 0 true := by
    rw [State.linked, State.rd_intSet_of_ne _ _ (by simp), State.rd_ready_same _ _ rfl, State.rd_setStCode_same _ _ rfl,
      State.rd_wr_of_ne _ _ (by simp; omega), State.rd_wrB_of_ne _ _ _ (by simp; omega), State.rd_wrB_of_ne _ _ _ (by simp; omega)]
  refine ⟨?_, ?_, ?_, ?_, ?_, ?_⟩
  · rw [State.bit, hport, bitOf_putB, if_neg (by decide), bitOf_putB, if_pos rfl]
  · rw [State.bit, hport, bitOf_putB, if_pos rfl]
  · rw [State.linked, State.rd_intSet_of_ne _ _ (by simp; omega), State.rd_ready_of_ne _ _ (by simp; omega),
      State.rd_setStCode_of_ne _ _ (by simp; omega), State.rd_wr_same]
    split <;> rfl
  · rw [State.stCode, State.rdF, hstatus, fld_putB_other _ _ _ _ _ (by decide), fld_putFld_same _ _ _ _ (by decide)]
    rfl
  · rw [State.bit, hstatus, bitOf_putB, if_pos rfl]
  · rw [State.bit, State.linked, State.rd_intSet_same _ rfl (by decide), bitOf_putB, if_pos rfl]

/-- The link is down. -/
def State.unlinked (s : State) (p : Nat) : State :=
  let s := ((s.wrB (Reg.NET_PORT_STATUS p) 0 false).setStCode (Reg.pageNET p) 0).ready (Reg.pageNET p) false
  (s.intSet (Reg.pageNET p) 9).count (Reg.NET_LINK_DOWN_COUNT p)

theorem State.regsBut_unlinked (p : Nat) : s.regsBut (s.unlinked p) [Reg.NET_PORT_STATUS p, Reg.STATUS (Reg.pageNET p),
    Reg.INT_STATUS (Reg.pageNET p), Reg.NET_LINK_DOWN_COUNT p] := by
  intro k hk
  simp only [List.mem_cons, List.not_mem_nil, or_false, not_or] at hk
  obtain ⟨hport, hstatus, hint, hcount⟩ := hk
  rw [State.unlinked, State.rd_count_of_ne _ hcount, State.rd_intSet_of_ne _ _ hint, State.rd_ready_of_ne _ _ hstatus,
    State.rd_setStCode_of_ne _ _ hstatus, State.rd_wrB_of_ne _ _ _ hport]

theorem State.unlinked_spec (p : Nat) : (s.unlinked p).bit (Reg.NET_PORT_STATUS p) 0 = false ∧
    (s.unlinked p).stCode (Reg.pageNET p) = 0 ∧ (s.unlinked p).bit (Reg.STATUS (Reg.pageNET p)) 0 = false ∧
    (s.unlinked p).bit (Reg.INT_STATUS (Reg.pageNET p)) 9 = true ∧
    (s.unlinked p).rd (Reg.NET_LINK_DOWN_COUNT p) = satInc 32 (s.rd (Reg.NET_LINK_DOWN_COUNT p)) := by
  have hstatus : (s.unlinked p).rd (Reg.STATUS (Reg.pageNET p)) =
      putB (putFld (s.rd (Reg.STATUS (Reg.pageNET p))) 7 4 0) 0 false := by
    rw [State.unlinked, State.rd_count_of_ne _ (by simp; omega), State.rd_intSet_of_ne _ _ (by simp),
      State.rd_ready_same _ _ rfl, State.rd_setStCode_same _ _ rfl, State.rd_wrB_of_ne _ _ _ (by simp; omega)]
  refine ⟨?_, ?_, ?_, ?_, ?_⟩
  · rw [State.bit, State.unlinked, State.rd_count_of_ne _ (by simp), State.rd_intSet_of_ne _ _ (by simp; omega),
      State.rd_ready_of_ne _ _ (by simp; omega), State.rd_setStCode_of_ne _ _ (by simp; omega),
      State.rd_wrB_same _ _ _ (by decide), bitOf_putB, if_pos rfl]
  · rw [State.stCode, State.rdF, hstatus, fld_putB_other _ _ _ _ _ (by decide), fld_putFld_same _ _ _ _ (by decide)]
    rfl
  · rw [State.bit, hstatus, bitOf_putB, if_pos rfl]
  · rw [State.bit, State.unlinked, State.rd_count_of_ne _ (by simp; omega), State.rd_intSet_same _ rfl (by decide), bitOf_putB,
      if_pos rfl]
  · rw [State.unlinked, State.rd_count_same, State.rd_intSet_of_ne _ _ (by simp; omega), State.rd_ready_of_ne _ _ (by simp; omega),
      State.rd_setStCode_of_ne _ _ (by simp; omega), State.rd_wrB_of_ne _ _ _ (by simp)]

end
end Sys2Proof.Machine
end

section
/-! What a received frame meets, the frames on both LANs and the cages (R383 to R386, R404). -/

namespace Sys2Proof.Machine

section
variable {s : State} {p : Fin 2} {f : NetFrame} {t : Nat} (hfcs : f.fcsOk = true) (hlo : 64 ≤ f.length)
  (hhi : f.length ≤ 1522) (hvlan : s.vlanOk f = true) (haddr : s.addrOk f = true)
include hfcs hlo hhi hvlan haddr

/-- A PTP frame of the module's domain reaches the policer. -/
theorem State.networkFrame_of_ptp (hclass : s.frameClass f = some 0) (hown : s.ptpForeign f = false) :
    execNetworkFrame p f t s = .next (if ((s.received p t).police 0).2 then ((s.received p t).police 0).1.queueFrame p 0 f
      else ((s.received p t).police 0).1) := by
  rw [State.networkFrame_of_class hfcs hlo hhi hvlan haddr hclass, if_neg (by simp [hown]), State.takeFrame_ptp]

end

/-- The bytes of the REPORT frame (R385). -/
def State.reportBytes (s : State) : List Byte :=
  leBytes 4 0x2001 ++ leBytes 4 (s.rd Reg.SYS_SERIAL_LO) ++ leBytes 4 (s.rd Reg.SYS_SERIAL_HI)
    ++ leBytes 4 (s.rd Reg.LINE_SPEED_ADVICE) ++ leBytes 4 (s.rd Reg.LINE_CURRENT_LINE) ++ leBytes 8 s.nowNs
    ++ leBytes 4 (s.rdF Reg.SYS_MODULE_STATE 7 0 + s.servoSt * 256)

theorem State.netReport_of_mac {s : State} (hmac : s.mac Reg.PRP_REPORT_MAC_LO Reg.PRP_REPORT_MAC_HI ≠ 0) :
    execNetReport s = .next (s.prpSend (s.rdF Reg.PRP_REPORT_MAC_HI 31 16)
      (s.mac Reg.PRP_REPORT_MAC_LO Reg.PRP_REPORT_MAC_HI :: s.reportBytes.map (·.toNat))) := if_neg hmac

theorem State.prpSend_of_single {s : State} {kind : Nat} {fields : List Nat} (hprp : s.bit Reg.PRP_PRP_CFG 0 = false)
    (hup : ∀ p ∈ List.range 2, s.bit (Reg.NET_PORT_STATUS p) 0 = true)
    (hon : ∀ p ∈ List.range 2, s.bit (Reg.NET_PORT_CFG p) 2 = false) :
    s.prpSend kind fields = s.sentBoth kind fields fields :=
  (if_neg (by simp [hprp])).trans (State.netSend_both hup hon)

/-- The next sequence number of PRP. -/
def State.prpNext (s : State) : State := { s with net := { s.net with seq := (s.net.seq + 1) % 65536 } }

theorem State.prpSend_of_prp {s : State} {kind : Nat} {fields : List Nat} (hprp : s.bit Reg.PRP_PRP_CFG 0 = true)
    (hup : ∀ p ∈ List.range 2, s.bit (Reg.NET_PORT_STATUS p) 0 = true)
    (hon : ∀ p ∈ List.range 2, s.bit (Reg.NET_PORT_CFG p) 2 = false) :
    s.prpSend kind fields = s.prpNext.sentBoth kind (fields ++ [s.net.seq, 0xA]) (fields ++ [s.net.seq, 0xB]) :=
  (if_pos hprp).trans (State.netSend_both (s := s.prpNext) hup hon)

theorem State.networkLinkChange_up (s : State) (p : Fin 2) (speed : Nat) : execNetworkLinkChange p true speed s =
    if speed % 2 ≠ s.rdF (Reg.NET_PORT_CFG p) 0 0 then .next s else .next (s.linked p (speed % 2)) := rfl

theorem State.netDown_of_up {s : State} {p : Nat} (h : s.bit (Reg.NET_PORT_STATUS p) 0 = true) : s.netDown p = s.unlinked p :=
  if_neg (by simp [h])

theorem State.netDown_of_down {s : State} {p : Nat} (h : s.bit (Reg.NET_PORT_STATUS p) 0 = false) : s.netDown p = s :=
  if_pos (by simp [h])

theorem State.Agree.net_eq {s t : State} {ps : List Part} (h : s.Agree ps t) (hnet : .net ∉ ps) : t.net = s.net := h .net hnet

/-- The second copy of a pair goes no further. -/
theorem State.copied_spec {s : State} {p : Fin 2} {f : NetFrame} {t seq : Nat} {e : NetNode} (hprp : s.bit Reg.PRP_PRP_CFG 0 = true)
    (htrailer : f.trailer = some (0xA + p.val, seq)) (hnode : s.net.nodes.find? (fun e => e.mac == f.src) = some e)
    (hseq : seq ∈ e.seqs) :
    let r := s.received p t
    r.takeFrame p 1 f = (r.setNodes (r.copied f.src r.frc seq)).count Reg.PRP_DUP_DISCARD := by
  dsimp only
  rw [State.takeFrame_lookout, State.prpCheck_of_copy (s := s.received p t) (e := e) ?_ htrailer hnode hseq, if_pos rfl]
  exact (State.bit_of_rd_eq (s.rd_received_of_ne (by simp; omega))).trans hprp

/-- What the second copy of a pair leaves. -/
theorem State.discarded_spec {s : State} {p : Fin 2} {t : Nat} {l : List NetNode} :
    let u := ((s.received p t).setNodes l).count Reg.PRP_DUP_DISCARD
    u.rd (Reg.NET_RX_FRAMES p) = satInc 32 (s.rd (Reg.NET_RX_FRAMES p)) ∧
      u.rd Reg.PRP_DUP_DISCARD = satInc 32 (s.rd Reg.PRP_DUP_DISCARD) ∧
      s.regsBut u [Reg.NET_RX_FRAMES p, Reg.PRP_DUP_DISCARD, Reg.PRP_NODE_COUNT] := by
  refine ⟨?_, ?_, fun k hk => ?_⟩
  · rw [State.rd_count_of_ne _ (by simp; omega), State.rd_setNodes_of_ne _ (by simp; omega), State.rd_received_same]
  · rw [State.rd_count_same, State.rd_setNodes_of_ne _ (by simp), s.rd_received_of_ne (by simp; omega)]
  · simp only [List.mem_cons, List.not_mem_nil, or_false, not_or] at hk
    rw [State.rd_count_of_ne _ hk.2.1, State.rd_setNodes_of_ne _ hk.2.2, s.rd_received_of_ne hk.1]

theorem State.sfpChange_spec {s : State} {p : Nat} {v : Nat} (hv : v < 8) :
    let u := (s.wrF (Reg.NET_PORT_STATUS p) 3 1 v).intSet (Reg.pageNET p) 10
    u.rdF (Reg.NET_PORT_STATUS p) 3 1 = v ∧ u.bit (Reg.NET_PORT_STATUS p) 0 = s.bit (Reg.NET_PORT_STATUS p) 0 ∧
      u.bit (Reg.INT_STATUS (Reg.pageNET p)) 10 = true ∧
      s.regsBut u [Reg.NET_PORT_STATUS p, Reg.INT_STATUS (Reg.pageNET p)] := by
  have hport : ((s.wrF (Reg.NET_PORT_STATUS p) 3 1 v).intSet (Reg.pageNET p) 10).rd (Reg.NET_PORT_STATUS p) =
      putFld (s.rd (Reg.NET_PORT_STATUS p)) 3 1 v := by
    rw [State.rd_intSet_of_ne _ _ (by simp; omega), State.rd_wrF_same _ _ _ (by decide) (by decide)]
  refine ⟨?_, ?_, ?_, fun k hk => ?_⟩
  · rw [State.rdF, hport, fld_putFld_same _ _ _ _ (by decide)]
    exact Nat.mod_eq_of_lt hv
  · rw [State.bit, hport, bitOf_putFld_other _ _ _ _ _ (by decide) (by decide)]
    rfl
  · rw [State.bit, State.rd_intSet_same _ rfl (by decide), bitOf_putB, if_pos rfl]
  · simp only [List.mem_cons, List.not_mem_nil, or_false, not_or] at hk
    rw [State.rd_intSet_of_ne _ _ hk.2, State.rd_wrF_of_ne _ _ _ _ hk.1]

/-- Settles O43: each check of a frame, and what passes them all. -/
theorem networkFrames : Obligations.NetworkFrames := by
  unfold Obligations.NetworkFrames
  refine ⟨fun p f t s hbad => ?_, fun p f t s hfcs hlo hhi hvlan => ?_, fun p f t s hfcs hlo hhi hvlan haddr => ?_,
    fun p f t s hfcs hlo hhi hvlan haddr hclass => ?_, fun p f t s hfcs hlo hhi hvlan haddr hclass hforeign => ?_,
    fun p f t s hfcs hlo hhi hvlan haddr hclass hown htoken hroom => ?_,
    fun p f t s hfcs hlo hhi hvlan haddr hclass hown htoken hfull => ?_,
    fun p f t s hfcs hlo hhi hvlan haddr hclass hown hnone => ?_,
    fun p f t s hfcs hlo hhi hvlan haddr hclass hsingle htoken hroom => ?_,
    fun p f t lan seq e s hfcs hlo hhi hvlan haddr hclass hprp htrailer hlan hnode hseq => ?_,
    fun p mac t s hoff => ?_, fun p mac t s hprp hnew hroom => ?_, fun p mac t s hprp hnew hfull => ?_,
    fun mac t s hsmall => ?_, fun s hprp hlife hup hon => ?_, fun s hlife => ?_, fun s hmac => ?_,
    fun s hmac hprp hup hon => ?_, fun p speed s hspeed => ?_, fun p speed s hspeed => ?_, fun p speed s hup => ?_,
    fun p speed s hdown => ?_, fun p present los txFault s hnew => ?_⟩
  · exact ⟨_, s.networkFrame_of_bad p f t hbad, State.dropped_spec (by simp)⟩
  · exact ⟨_, State.networkFrame_of_vlan hfcs hlo hhi hvlan, State.dropped_spec (by simp)⟩
  · exact ⟨_, State.networkFrame_of_addr hfcs hlo hhi hvlan haddr, State.dropped_spec (by simp)⟩
  · exact ⟨_, State.networkFrame_of_noClass hfcs hlo hhi hvlan haddr hclass, State.dropped_spec (by simp)⟩
  · exact ⟨_, (State.networkFrame_of_class hfcs hlo hhi hvlan haddr hclass).trans (if_pos ⟨rfl, hforeign⟩),
      State.dropped_spec (by simp; omega)⟩
  · obtain ⟨hcount, hfrc, hqueue, hregs, hagree⟩ := State.queued_spec (p := p) (f := f) htoken hroom
    exact ⟨_, (State.networkFrame_of_ptp hfcs hlo hhi hvlan haddr hclass hown).trans
      (congrArg _ (if_pos (State.police_received htoken))), hcount, hfrc, hqueue, hregs, hagree.revert_eq⟩
  · obtain ⟨hcount, hfrc, hqueue, hregs, hagree⟩ := State.full_spec (p := p) (f := f) htoken hfull
    exact ⟨_, (State.networkFrame_of_ptp hfcs hlo hhi hvlan haddr hclass hown).trans
      (congrArg _ (if_pos (State.police_received htoken))), hcount, hfrc, hqueue, hregs, hagree.revert_eq⟩
  · obtain ⟨hcount, hfrc, hdrop, hint, hregs, hagree⟩ := State.policed_spec (p := p) hnone
    exact ⟨_, (State.networkFrame_of_ptp hfcs hlo hhi hvlan haddr hclass hown).trans
      (congrArg _ (if_neg (by simp [State.police_received hnone]))), hcount, hfrc, hdrop, hint, hregs,
      (hagree.mono (qs := [.frc, .net]) (by simp)).revert_eq⟩
  · obtain ⟨hcount, hfrc, hqueue, hregs, hagree⟩ := State.queued_spec (p := p) (f := f) htoken hroom
    have hcheck : (s.received p t).prpCheck p f (s.received p t).frc = (s.received p t, false) :=
      State.prpCheck_of_single (hsingle.imp_left
        (State.bit_of_rd_eq (s.rd_received_of_ne (k := Reg.PRP_PRP_CFG) (by simp; omega))).trans)
    refine ⟨_, (State.networkFrame_of_class hfcs hlo hhi hvlan haddr hclass).trans ((if_neg (by simp)).trans (congrArg _ ?_)),
      hcount, hfrc, hqueue, hregs, hagree.revert_eq⟩
    rw [State.takeFrame_lookout, hcheck, if_neg (by simp), if_pos (State.police_received htoken)]
  · obtain ⟨hcount, hdup, hregs⟩ := State.discarded_spec (s := s) (p := p) (t := t)
      (l := (s.received p t).copied f.src (s.received p t).frc seq)
    subst hlan
    exact ⟨_, (State.networkFrame_of_class hfcs hlo hhi hvlan haddr hclass).trans ((if_neg (by simp)).trans
      (congrArg _ (State.copied_spec hprp htrailer hnode hseq))), hcount, rfl, hdup, rfl, hregs,
      State.Agree.revert_eq (ps := [.frc, .net]) (by simp [State.setNodes])⟩
  · have hoff' : (s.till t).bit Reg.PRP_PRP_CFG 0 = false := hoff
    exact if_neg (by simp [hoff'])
  · refine ⟨(s.till t).setNodes (s.net.nodes ++ [{ mac := mac, last := (s.till t).frc, seqs := [] }]),
      (if_pos hprp).trans (congrArg _ (State.seeNode_of_new (s := s.till t) hnew hroom)), rfl, rfl, ?_, ?_, rfl⟩
    · rw [State.rd_setNodes_same _ (by rw [List.length_append]; simp; omega), List.length_append]
      rfl
    · exact fun k hk => State.rd_setNodes_of_ne (s := s.till t) _ (fun h => hk (List.mem_singleton.2 h))
  · refine ⟨_, (if_pos hprp).trans (congrArg _ (State.seeNode_of_full (s := s.till t) hnew hfull)), rfl, ?_, ?_, rfl⟩
    · rw [State.bit, State.rd_intSet_same _ rfl (by decide), bitOf_putB, if_pos rfl]
    · exact fun k hk => State.rd_intSet_of_ne (s.till t) _ (fun h => hk (List.mem_singleton.2 h))
  · refine ⟨_, rfl, rfl, rfl, ?_, ?_, rfl⟩
    · exact State.rd_setNodes_same _ (lt_of_le_of_lt (List.length_filter_le _ _) hsmall)
    · exact fun k hk => State.rd_setNodes_of_ne (s := s.till t) _ (fun h => hk (List.mem_singleton.2 h))
  · refine ⟨_, (if_pos (by simp [hprp, hlife])).trans (congrArg _ (State.prpSend_of_prp hprp hup hon)), ?_, ?_, fun p hp => ?_,
      State.regsBut_sentBoth (s := s.prpNext) _ _ _, ?_⟩
    · exact State.out_sentBoth (s := s.prpNext) _ _ _
    · exact State.Agree.net_eq (s := s.prpNext) (ps := [.out]) (by simp) (by simp)
    · exact State.rd_sentBoth (s := s.prpNext) hp
    · exact State.Agree.revert_eq (ps := [.net, .out]) (by simp [State.prpNext])
  · exact if_neg (by simp [hlife])
  · exact if_pos hmac
  · exact ⟨_, (State.netReport_of_mac hmac).trans (congrArg _ (State.prpSend_of_single hprp hup hon)),
      State.out_sentBoth _ _ _, State.regsBut_sentBoth _ _ _, State.Agree.revert_eq (ps := [.out]) (by simp)⟩
  · exact (s.networkLinkChange_up p speed).trans (if_pos hspeed)
  · obtain ⟨hup, hten, hlat, hst, hready, hint⟩ := State.linked_spec (s := s) p (speed % 2)
    exact ⟨_, (s.networkLinkChange_up p speed).trans (if_neg (not_not.2 hspeed)), hup, hten, hlat, hst, hready, hint,
      State.regsBut_linked _ _, State.Agree.revert_eq (ps := []) (by simp [State.linked])⟩
  · obtain ⟨hbit, hst, hready, hint, hcount⟩ := State.unlinked_spec (s := s) p
    exact ⟨_, congrArg Host.Outcome.next (State.netDown_of_up hup), hbit, hst, hready, hint, hcount,
      State.regsBut_unlinked _, State.Agree.revert_eq (ps := []) (by simp [State.unlinked])⟩
  · exact congrArg Host.Outcome.next (State.netDown_of_down hdown)
  · have hv : b2n present + b2n los * 2 + b2n txFault * 4 < 8 := by
      cases present <;> cases los <;> cases txFault <;> decide
    obtain ⟨hfield, hlink, hint, hregs⟩ := State.sfpChange_spec (s := s) (p := p) hv
    refine ⟨_, if_neg (fun h => hnew ?_), hfield, hlink, hint, hregs, State.Agree.revert_eq (ps := []) (by simp)⟩
    rw [State.rdF, ← h, fld_putFld_same _ _ _ _ (by decide)]
    exact Nat.mod_eq_of_lt hv

end Sys2Proof.Machine
end

section
/-! What the DRAM channels do beside the command: only their own records and their commands change (R414, R415). -/

namespace Sys2Proof.Machine

/-- From s to t nothing has changed but the records of the DRAM channels and the commands to them. -/
structure State.DramOnly (s t : State) : Prop where
  regs : t.regs = s.regs
  agree : s.Agree [.dram, .out] t
  out : s.outButDram t

section
variable {s t u : State} {d : Nat}

theorem State.DramOnly.refl (s : State) : s.DramOnly s := ⟨rfl, .refl s, rfl⟩

theorem State.DramOnly.trans (h : s.DramOnly t) (h' : t.DramOnly u) : s.DramOnly u :=
  ⟨h'.regs.trans h.regs, h.agree.trans h'.agree, h'.out.trans h.out⟩

theorem State.DramOnly.rd_eq (h : s.DramOnly t) (k : Nat) : t.rd k = s.rd k := by
  unfold State.rd
  rw [h.regs]

theorem State.DramOnly.frc_eq (h : s.DramOnly t) : t.frc = s.frc := h.agree .frc (by simp)

theorem State.DramOnly.pageHint_eq (h : s.DramOnly t) (d cls ca : Nat) : t.pageHint d cls ca = s.pageHint d cls ca := by
  unfold State.pageHint
  rw [State.bit_of_rd_eq (h.rd_eq _)]

theorem State.DramOnly.restored (h : s.DramOnly t) : { t with dram := s.dram, out := s.out } = s :=
  calc
    { t with dram := s.dram, out := s.out } = { t with regs := s.regs, dram := s.dram, out := s.out } := by rw [← h.regs]
    _ = s := h.agree.revert_eq

theorem State.dramOnly_setDramCh (x : DramCh) : s.DramOnly (s.setDramCh d x) :=
  ⟨rfl, by simp [State.setDramCh], rfl⟩

theorem dramCommands_filter (l : List (Nat × Nat)) :
    (l.map (fun c => Out.dram d c.1 c.2)).filter (fun o => !o.toDram) = [] := by
  rw [List.filter_eq_nil_iff]
  intro o ho
  obtain ⟨c, -, rfl⟩ := List.mem_map.1 ho
  simp [Out.toDram]

theorem State.dramOnly_dramCmds (l : List (Nat × Nat)) : s.DramOnly (s.dramCmds d l) := by
  refine ⟨rfl, by simp [State.dramCmds, State.setDramCh], ?_⟩
  have hout : (s.dramCmds d l).out = s.out ++ l.map (fun c => .dram d c.1 c.2) := rfl
  rw [State.outButDram, hout, List.filter_append, dramCommands_filter, List.append_nil]

theorem State.dramOnly_closeRows (p : Nat × Nat × Option Nat → Bool) : s.DramOnly (s.closeRows d p) :=
  State.dramOnly_setDramCh _ |>.trans (State.dramOnly_dramCmds _)

/-- A burst's row, opened where its bank holds another one or none. -/
def State.rowOpened (s : State) (d ca : Nat) : State :=
  let s := (s.closeRows d (s.idleRows d)).closeRows d (fun r => r.1 == bankOf ca && r.2.1 != dramRow ca)
  if (s.dramCh d).open_.any (fun r => r.1 == bankOf ca) then s else s.dramCmds d [(4, bankOf ca * 2 ^ 17 + dramRow ca)]

/-- The channel as the command of a burst finds it. -/
def State.burstRow (s : State) (d cls ca : Nat) : State :=
  let hint := s.pageHint d cls ca
  let kept := if hint = 0 then [] else [(bankOf ca, dramRow ca, if hint = 2 then some s.frc else none)]
  s.setDramCh d { s.dramCh d with
    open_ := (s.dramCh d).open_.filter (fun r => r.1 != bankOf ca) ++ kept, group := dramBankGroup ca
    traffic := (s.frc, cls == 1) :: (s.dramCh d).traffic.filter (fun e => decide (s.frc < e.1 + 80000000)) }

theorem State.burst_eq (d cls ca : Nat) (write : Bool) : s.burst d cls ca write =
    ((s.rowOpened d ca).burstRow d cls ca).dramCmds d
      [(if write then (if (s.rowOpened d ca).pageHint d cls ca = 0 then 11 else 2)
        else if (s.rowOpened d ca).pageHint d cls ca = 0 then 7 else 6, ca / 64 * 64)] := rfl

theorem State.dramOnly_rowOpened (d ca : Nat) : s.DramOnly (s.rowOpened d ca) := by
  unfold State.rowOpened
  dsimp only
  split
  · exact (State.dramOnly_closeRows _).trans (State.dramOnly_closeRows _)
  · exact ((State.dramOnly_closeRows _).trans (State.dramOnly_closeRows _)).trans (State.dramOnly_dramCmds _)

theorem State.dramOnly_burst (d cls ca : Nat) (write : Bool) : s.DramOnly (s.burst d cls ca write) := by
  rw [State.burst_eq]
  exact ((State.dramOnly_rowOpened d ca).trans (State.dramOnly_setDramCh _)).trans (State.dramOnly_dramCmds _)

/-! ## The buffered writes -/

theorem State.writes_dramCmds (l : List (Nat × Nat)) : ((s.dramCmds d l).dramCh d).writes = (s.dramCh d).writes := by
  have h : (s.dramCmds d l).dramCh d = { s.dramCh d with cmds := (l.reverse ++ (s.dramCh d).cmds).take 32 } :=
    (s.dramCh_setDramCh d _ d).trans (if_pos rfl)
  rw [h]

theorem State.writes_closeRows (p : Nat × Nat × Option Nat → Bool) :
    ((s.closeRows d p).dramCh d).writes = (s.dramCh d).writes := by
  unfold State.closeRows
  rw [State.writes_dramCmds, State.dramCh_setDramCh, if_pos rfl]

theorem State.writes_rowOpened (ca : Nat) : ((s.rowOpened d ca).dramCh d).writes = (s.dramCh d).writes := by
  unfold State.rowOpened
  dsimp only
  split
  · rw [State.writes_closeRows, State.writes_closeRows]
  · rw [State.writes_dramCmds, State.writes_closeRows, State.writes_closeRows]

theorem State.writes_burst (cls ca : Nat) (write : Bool) : ((s.burst d cls ca write).dramCh d).writes = (s.dramCh d).writes := by
  rw [State.burst_eq, State.writes_dramCmds, State.burstRow, State.dramCh_setDramCh, if_pos rfl]
  exact State.writes_rowOpened ca

theorem State.out_burst_write (cls ca : Nat) : (s.burst d cls ca true).out.getLast? =
    some (.dram d (if s.pageHint d cls ca = 0 then 11 else 2) (ca / 64 * 64)) := by
  rw [State.burst_eq, (State.dramOnly_rowOpened d ca).pageHint_eq]
  exact List.getLast?_concat

/-! ## An idle slot -/

theorem State.idleSlot_of_quiet (hopen : (s.dramCh d).open_ = []) (hwrites : (s.dramCh d).writes = []) : s.idleSlot d = s := by
  unfold State.idleSlot State.oldestWrite
  rw [if_neg (by simp [hopen])]
  dsimp only
  rw [hwrites]

theorem State.idleSlot_of_write {w : Nat × Nat × Nat} {ws : List (Nat × Nat × Nat)}
    (hwrites : (s.dramCh d).writes = w :: ws) (hopen : ∀ r ∈ (s.dramCh d).open_, s.idleRows d r = false) :
    s.idleSlot d = (s.setDramCh d { s.dramCh d with writes := ws }).issueWrite d w := by
  unfold State.idleSlot State.oldestWrite
  have hnone : ((s.dramCh d).open_.any (s.idleRows d)) = false := by
    rw [List.any_eq_false]
    exact fun r hr => by simp [hopen r hr]
  rw [hnone]
  dsimp only
  rw [if_neg (by decide), hwrites]

/-! ## The Tally intake -/

theorem State.drainTally_of_none (hintake : s.mgmt.intake = []) : s.drainTally = s := by
  unfold State.drainTally
  rw [hintake]

/-- The log after one entry more. -/
def State.logAfter (s : State) (e : TallyEntry) : List (Nat × TallyEntry) :=
  (if 8192 ≤ s.mgmt.log.length then s.mgmt.log.drop 1 else s.mgmt.log) ++ [(s.rd Reg.TALLY_NEXT_SEQ, e)]

/-- An entry is kept, sent and shown in NEXT_SEQ and OLDEST_SEQ. -/
def State.kept (s : State) (e : TallyEntry) (log : List (Nat × TallyEntry)) : State :=
  (({ s with mgmt := { s.mgmt with log := log } }.emit (.uart 1 (e.words (s.rd Reg.TALLY_NEXT_SEQ)))).wr Reg.TALLY_NEXT_SEQ
    ((s.rd Reg.TALLY_NEXT_SEQ + 1) % 2 ^ 32)).wr Reg.TALLY_OLDEST_SEQ ((log.head?.map Prod.fst).getD 0)

/-- The interrupt bits of the log: an entry at or above the threshold, and a log that has come round. -/
def State.logInterrupts (s : State) (severity : Nat) (laps : Bool) : State :=
  let s := if s.rdF Reg.TALLY_FILTER 5 4 ≤ severity then s.intSet Reg.pageTALLY 8 else s
  if laps then s.intSet Reg.pageTALLY 10 else s

theorem State.logEntry_eq (e : TallyEntry) :
    ∃ laps, s.logEntry e = (s.kept e (s.logAfter e)).logInterrupts e.severity laps := by
  refine ⟨decide (logSize ≤ s.mgmt.log.length) && (s.mgmt.log.head?.map (·.1)) == some 0, ?_⟩
  have hlog : s.logAfter e = (if decide (logSize ≤ s.mgmt.log.length) = true then s.mgmt.log.drop 1 else s.mgmt.log) ++
      [(s.rd Reg.TALLY_NEXT_SEQ, e)] := by
    unfold State.logAfter
    rw [← show logSize = 8192 from rfl]
    simp only [decide_eq_true_eq]
  rw [hlog]
  rfl

@[simp] theorem State.agree_logInterrupts {ps : List Part} (severity : Nat) (laps : Bool) :
    s.Agree ps (t.logInterrupts severity laps) ↔ s.Agree ps t := by
  simp [State.logInterrupts]

theorem State.rd_logInterrupts {severity : Nat} {laps : Bool} {k : Nat} (h : k ≠ Reg.INT_STATUS Reg.pageTALLY) :
    (s.logInterrupts severity laps).rd k = s.rd k := by
  unfold State.logInterrupts
  dsimp only
  split <;> split <;> simp only [State.rd_intSet_of_ne _ _ h]

theorem State.threshold_logInterrupts {severity : Nat} (laps : Bool) (h : s.rdF Reg.TALLY_FILTER 5 4 ≤ severity) :
    (s.logInterrupts severity laps).bit (Reg.INT_STATUS Reg.pageTALLY) 8 = true := by
  unfold State.logInterrupts
  rw [if_pos h]
  cases laps with
  | false => rw [if_neg (by decide), State.bit, State.rd_intSet_same _ rfl (by decide), bitOf_putB, if_pos rfl]
  | true =>
    rw [if_pos rfl, State.bit, State.rd_intSet_same _ rfl (by decide), bitOf_putB, if_neg (by decide),
      State.rd_intSet_same _ rfl (by decide), bitOf_putB, if_pos rfl]

theorem State.rd_kept_of_ne {e : TallyEntry} {log : List (Nat × TallyEntry)} {k : Nat} (h : k ≠ Reg.TALLY_NEXT_SEQ)
    (h' : k ≠ Reg.TALLY_OLDEST_SEQ) : (s.kept e log).rd k = s.rd k := by
  rw [State.kept, State.rd_wr_of_ne _ _ h', State.rd_wr_of_ne _ _ h, State.emit_rd, State.rd_mk]

/-- What an entry's words, its SEQ and its threshold make of the log. -/
theorem State.logEntry_spec (e : TallyEntry) :
    (s.logEntry e).out = s.out ++ [Out.uart 1 (e.words (s.rd Reg.TALLY_NEXT_SEQ))] ∧
    (s.logEntry e).rd Reg.TALLY_NEXT_SEQ = (s.rd Reg.TALLY_NEXT_SEQ + 1) % 2 ^ 32 ∧
    (s.logEntry e).mgmt = { s.mgmt with log := s.logAfter e } ∧
    (s.rdF Reg.TALLY_FILTER 5 4 ≤ e.severity → (s.logEntry e).bit (Reg.INT_STATUS Reg.pageTALLY) 8 = true) ∧
    s.regsBut (s.logEntry e) [Reg.TALLY_NEXT_SEQ, Reg.TALLY_OLDEST_SEQ, Reg.INT_STATUS Reg.pageTALLY] ∧
    s.Agree [.mgmt, .out] (s.logEntry e) := by
  obtain ⟨laps, hlog⟩ := s.logEntry_eq e
  have hagree : (s.kept e (s.logAfter e)).Agree [] (s.logEntry e) := by simp [hlog]
  refine ⟨?_, ?_, ?_, fun h => ?_, fun k hk => ?_, ?_⟩
  · exact (hagree .out (by simp)).trans (by simp [State.kept])
  · rw [hlog, State.rd_logInterrupts (by decide), State.kept, State.rd_wr_of_ne _ _ (by decide), State.rd_wr_same, Nat.mod_mod]
  · exact (hagree .mgmt (by simp)).trans rfl
  · rw [hlog]
    refine State.threshold_logInterrupts laps ?_
    rwa [State.rdF_of_rd_eq (s.rd_kept_of_ne (by decide) (by decide))]
  · simp only [List.mem_cons, List.not_mem_nil, or_false, not_or] at hk
    rw [hlog, State.rd_logInterrupts hk.2.2, State.rd_kept_of_ne hk.1 hk.2.1]
  · rw [hlog]
    simp [State.kept]

theorem State.drainTally_of_one {e : TallyEntry} {rest : List TallyEntry} (hintake : s.mgmt.intake = e :: rest)
    (hlost : s.mgmt.lost = 0) : s.drainTally = { s with mgmt := { s.mgmt with intake := rest } }.logEntry e := by
  unfold State.drainTally
  rw [hintake]
  refine if_pos ?_
  obtain ⟨-, -, hmgmt, -⟩ := ({ s with mgmt := { s.mgmt with intake := rest } } : State).logEntry_spec e
  rw [hmgmt]
  exact hlost

/-! ## An idle clock -/

theorem State.foldl_eq_self {α : Type} {f : State → α → State} {l : List α} (h : ∀ x ∈ l, f s x = s) : l.foldl f s = s := by
  induction l with
  | nil => rfl
  | cons x xs ih => rw [List.foldl_cons, h x (by simp), ih fun y hy => h y (by simp [hy])]

theorem State.drainClass_of_none {c : Nat} (h : smGet (fun _ => []) s.net.queues c = []) : s.drainClass c = s := by
  unfold State.drainClass
  rw [h]

/-- A clock in which the channels have nothing to do and no frame waits for Crew0. -/
theorem State.idle_of_quiet (hdram : ∀ d ∈ List.range 6, (s.dramCh d).open_ = [] ∧ (s.dramCh d).writes = [])
    (hnet : s.crewRuns 0 = false ∨ ∀ c ∈ List.range 3, smGet (fun _ => []) s.net.queues c = [])
    (hd : { s with frc := (s.frc + 1) % 2 ^ 64 }.drainTally.dram = s.dram)
    (hn : { s with frc := (s.frc + 1) % 2 ^ 64 }.drainTally.net = s.net)
    (hlive : { s with frc := (s.frc + 1) % 2 ^ 64 }.drainTally.crewRuns 0 = s.crewRuns 0) :
    s.idle = { s with frc := (s.frc + 1) % 2 ^ 64 }.drainTally := by
  have hch (d : Nat) : { s with frc := (s.frc + 1) % 2 ^ 64 }.drainTally.dramCh d = s.dramCh d := by
    unfold State.dramCh
    rw [hd]
  have hslots : (List.range 6).foldl State.idleSlot { s with frc := (s.frc + 1) % 2 ^ 64 }.drainTally =
      { s with frc := (s.frc + 1) % 2 ^ 64 }.drainTally := by
    refine State.foldl_eq_self fun d hdm => State.idleSlot_of_quiet ?_ ?_
    · rw [hch]
      exact (hdram d hdm).1
    · rw [hch]
      exact (hdram d hdm).2
  unfold State.idle
  rw [hslots]
  dsimp only
  rw [hlive]
  rcases hnet with hoff | hempty
  · rw [if_neg (by simp [hoff])]
  · refine (congrArg (fun x => if s.crewRuns 0 = true then x else _) (State.foldl_eq_self fun c hc => ?_)).trans (ite_self _)
    refine State.drainClass_of_none ?_
    rw [hn]
    exact hempty c (by simp at hc ⊢; omega)

end

/-- Settles O2: a clock that finds nothing to do, one entry to log, or one burst to write. -/
theorem idleStep : Obligations.IdleStep := by
  unfold Obligations.IdleStep
  refine ⟨fun s h => ?_, fun s hintake hdram hnet => ?_, fun e rest s hintake hlost hdram hnet => ?_,
    fun d w ws s hwrites hopen => ?_, fun c f q s hqueue => ?_⟩
  · unfold step
    rw [h]
  · have hnone := State.drainTally_of_none (s := { s with frc := (s.frc + 1) % 2 ^ 64 }) hintake
    refine ⟨_, rfl, ?_⟩
    rw [State.idle_of_quiet hdram hnet (by rw [hnone]) (by rw [hnone]) (by rw [hnone]; rfl), hnone]
  · have hone := State.drainTally_of_one (s := { s with frc := (s.frc + 1) % 2 ^ 64 }) hintake hlost
    obtain ⟨hout, hseq, hmgmt, hint, hregs, hagree⟩ := State.logEntry_spec
      (s := { s with frc := (s.frc + 1) % 2 ^ 64, mgmt := { s.mgmt with intake := rest } }) e
    refine ⟨({ s with frc := (s.frc + 1) % 2 ^ 64, mgmt := { s.mgmt with intake := rest } } : State).logEntry e, ?_, ?_, ?_,
      hout, hseq, ?_, hint, hregs, ?_⟩
    · rw [← hone]
      refine State.idle_of_quiet hdram hnet ?_ ?_ ?_
      · rw [hone]
        exact hagree .dram (by simp)
      · rw [hone]
        exact hagree .net (by simp)
      · rw [hone]
        unfold State.crewRuns
        rw [hmgmt]
    · exact hagree .frc (by simp)
    · rw [hmgmt]
    · rw [hmgmt]
      rfl
    · exact (State.Agree.trans (ps := [.frc, .mgmt, .out]) (by simp) (hagree.mono (by simp))).revert_eq
  · have hwrite := State.dramOnly_burst (s := s.setDramCh d { s.dramCh d with writes := ws }) d w.2.2 (w.1 * 64) true
    have hslot := (State.dramOnly_setDramCh (s := s) (d := d) { s.dramCh d with writes := ws }).trans hwrite
    refine ⟨_, State.idleSlot_of_write hwrites hopen, ?_, ?_, hslot.out, ?_⟩
    · rw [State.issueWrite, State.writes_burst, State.dramCh_setDramCh, if_pos rfl]
    · rw [State.issueWrite, State.out_burst_write, Nat.mul_div_cancel _ (by decide)]
      rfl
    · exact hslot.restored
  · refine ⟨_, rfl, ?_⟩
    unfold State.drainClass
    rw [hqueue]
    exact ⟨smGet_smSet_same _ _ _ _, rfl, rfl, rfl⟩

end Sys2Proof.Machine
end

section
/-! Accesses that are not taken (R36, R38, R42, R43, R438). -/

namespace Sys2Proof.Machine

theorem exec_of_cutOff {i : Instr} {src : Req} {s : State} (h : coreSender i = some src) (hcut : s.cutOff src = true) :
    exec i s = .next s := by
  unfold coreSender at h
  split at h <;> cases h <;> exact if_pos hcut

theorem State.bar0Down_of_asleep {s : State} {src : Req} (a : Nat) (h : s.asleep src = true) : s.bar0Down src a = true := by
  simp [State.bar0Down, h]

theorem exec_of_asleep {i : Instr} {src : Req} {s : State} (h : wakeSender i = some src) (hasleep : s.asleep src = true) :
    exec i s = .next s := by
  have hdown := State.bar0Down_of_asleep (Reg.pagePWR * 0x1000) hasleep
  cases i
  case powerRestart =>
    cases h
    exact if_pos hdown
  case headPowerControl =>
    cases h
    exact if_pos hdown
  all_goals cases h <;> exact if_pos hasleep

section
variable {s : State} {src : Req} {a k data : Nat}

/-- An access error on a page other than SYS. -/
theorem State.accessErr_eq {page code : Nat} (h : page ≠ Reg.pageSYS) :
    s.accessErr page code k src = s.errAt (headerPage page) code k src := if_neg (fun hp => h hp.1)

/-- What a write of a register past the header of its page does, by the class of the register. -/
theorem State.registerWrite_of_reg {i : Nat} {p : PageType} (hup : s.bar0Down src a = false) (hspot : s.spot src a = .reg k)
    (hpage : pageAt (k / 0x1000) = some (p, i)) (hoff : 0x040 ≤ k % 0x1000) (hpair : p ≠ .pair ∨ s.pairMode = true)
    (hlock : lockNum k = none) : execRegisterWrite src a data s = .next (match accOf k with
      | none => s.accessErr (k / 0x1000) 4 k src
      | some .ro => if firmwareOwned src k then s.wr k (data % 2 ^ 32) else s.accessErr (k / 0x1000) 5 k src
      | some .rc => s.accessErr (k / 0x1000) 5 k src
      | some .wo => s.act src p i k (data % 2 ^ 32)
      | some .w1s => s.act src p i k (data % 2 ^ 32)
      | some .w1c => s.wr k (clearBits (s.rd k) (data % 2 ^ 32) (0 &&& maskAt k))
      | some .rwl => if s.bit (Reg.CTRL (headerPage (k / 0x1000))) 3 then s.accessErr (k / 0x1000) 1 k src
        else s.writeStored src p i k (data % 2 ^ 32)
      | some .rws => if s.armedPage (k / 0x1000) then s.accessErr (k / 0x1000) 2 k src
        else s.writeStored src p i k (data % 2 ^ 32)
      | some .rw => s.writeStored src p i k (data % 2 ^ 32)
      | some .lock => s) := by
  unfold execRegisterWrite State.busWrite
  rw [if_neg (by simp [hup]), hspot]
  dsimp only
  unfold State.writeReg
  dsimp only
  rw [hlock, hpage]
  dsimp only
  rw [if_neg (by rcases hpair with h | h <;> simp [h])]
  exact congrArg Host.Outcome.next (if_neg (by omega))

/-- An access error, as the obligations state it. -/
theorem State.refused_accessErr {r : Res} {page code : Nat} (hpage : page ≠ Reg.pageSYS) (hcode : code < 0x10000)
    (h : r = .next (s.accessErr page code k src)) :
    ∃ u : State, r = .next u ∧ s.errored u (headerPage page) code k (srcCode src) ∧
      s.regsBut u (errorKeys (headerPage page)) ∧ { u with regs := s.regs } = s :=
  State.refused_errAt hcode (h.trans (congrArg _ (State.accessErr_eq hpage)))

/-- An access error on SYS: ACCESS_ERROR too. -/
theorem State.accessErr_sys {code : Nat} (hcode : code = 3 ∨ code = 4) :
    s.errored (s.accessErr Reg.pageSYS code a src) Reg.pageSYS code a (srcCode src) ∧
      (s.accessErr Reg.pageSYS code a src).bit (Reg.INT_STATUS Reg.pageSYS) 9 = true ∧
      s.regsBut (s.accessErr Reg.pageSYS code a src) (errorKeys Reg.pageSYS) ∧
      { s.accessErr Reg.pageSYS code a src with regs := s.regs } = s := by
  have heq : s.accessErr Reg.pageSYS code a src = (s.errAt Reg.pageSYS code a src).intSet Reg.pageSYS 9 := if_pos ⟨rfl, hcode⟩
  obtain ⟨hinfo, hcount, hbit⟩ := s.errored_errAt Reg.pageSYS code a src (by omega)
  rw [heq]
  refine ⟨⟨?_, ?_, ?_⟩, ?_, fun j hj => ?_, State.Agree.revert_eq (ps := []) (by simp)⟩
  · rw [State.rd_intSet_of_ne _ _ (by decide), hinfo]
  · rw [State.rd_intSet_of_ne _ _ (by decide), hcount]
  · rw [State.bit, State.rd_intSet_same _ rfl (by decide), bitOf_putB, if_neg (by decide)]
    exact hbit
  · rw [State.bit, State.rd_intSet_same _ rfl (by decide), bitOf_putB, if_pos rfl]
  · rw [State.rd_intSet_of_ne _ _ (fun h => hj (by simp [h, errorKeys])), State.rd_errAt_of_notMem _ _ _ _ hj]

end
section
variable {s : State} {src : Req} {a k : Nat} (hup : s.bar0Down src a = false)
include hup

theorem State.busWrite_of_unmapped (data hw : Nat) (hspot : s.spot src a = .unmapped) :
    s.busWrite src a data hw = s.unmappedAt src a := by
  unfold State.busWrite
  rw [if_neg (by simp [hup]), hspot]

theorem State.badAccess_of_reg (write multi : Bool) (hspot : s.spot src a = .reg k) : s.badAccess src a write multi =
    if write then (if k < 0x300000 then s.accessErr (k / 0x1000) 3 k src else s)
    else if multi then (s.answer []).emit (.pcie 4 none a) else s.answer [0] := by
  unfold State.badAccess
  rw [if_neg (by simp [hup]), hspot]

theorem State.badAccess_of_table {b : Nat} (write multi : Bool) (hspot : s.spot src a = .table b)
    (hboth : (write && multi) = false) : s.badAccess src a write multi =
      if write then s.accessErr Reg.pageSYS 3 a src else (s.accessErr Reg.pageSYS 3 a src).answer [0] := by
  unfold State.badAccess
  rw [if_neg (by simp [hup]), hspot]
  exact if_neg (by simp [hboth])

end

/-- Settles O8: each access that is not taken records its error, and one out of reach nothing. -/
theorem refusedAccesses : Obligations.RefusedAccesses := by
  unfold Obligations.RefusedAccesses
  refine ⟨fun src a k data i p s hup hspot hpage hoff hpair hlock hacc hown hsys => ?_,
    fun src a k data i p s hup hspot hpage hoff hpair hlock hacc hlocked hsys => ?_,
    fun src a k data i p s hup hspot hpage hoff hpair hlock hacc harmed hsys => ?_,
    fun src a data s hup hspot hsrc => ?_, fun i src s => exec_of_cutOff, fun i src s => exec_of_asleep,
    fun src a data s hdown => ?_, fun src a k multi s hup hspot hmbox hsys => ?_, fun src a k multi s hup hspot => ?_,
    fun src a b wr multi s hup hspot hboth => ?_⟩
  · refine State.refused_accessErr hsys (by decide) ((State.registerWrite_of_reg hup hspot hpage hoff hpair hlock).trans ?_)
    rcases hacc with h | h
    · rw [h]
      exact congrArg _ (if_neg (by simp [hown]))
    · rw [h]
  · refine State.refused_accessErr hsys (by decide) ((State.registerWrite_of_reg hup hspot hpage hoff hpair hlock).trans ?_)
    rw [hacc]
    exact congrArg _ (if_pos hlocked)
  · refine State.refused_accessErr hsys (by decide) ((State.registerWrite_of_reg hup hspot hpage hoff hpair hlock).trans ?_)
    rw [hacc]
    exact congrArg _ (if_pos harmed)
  · refine ⟨s.accessErr Reg.pageSYS 4 a src, ?_, State.accessErr_sys (.inr rfl)⟩
    refine congrArg _ ((State.busWrite_of_unmapped hup data 0 hspot).trans ?_)
    exact congrArg (fun p => s.accessErr p 4 a src) (if_neg hsrc)
  · exact congrArg _ (if_pos hdown)
  · refine State.refused_accessErr hsys (by decide) ?_
    exact congrArg _ ((State.badAccess_of_reg hup true multi hspot).trans (if_pos hmbox))
  · refine ⟨_, congrArg Host.Outcome.next (State.badAccess_of_reg hup false multi hspot), ?_⟩
    cases multi with
    | false => exact ⟨rfl, (List.append_nil _).symm, rfl⟩
    | true => exact ⟨rfl, rfl, rfl⟩
  · obtain ⟨herr, hint, hregs, hframe⟩ := State.accessErr_sys (s := s) (src := src) (a := a) (.inl rfl)
    have hanswer := congrArg (fun t : State => { t with reply := s.reply }) hframe
    refine ⟨_, congrArg Host.Outcome.next (State.badAccess_of_table hup wr multi hspot hboth), ?_⟩
    cases wr with
    | false => exact ⟨herr, hint, rfl, hregs, hanswer⟩
    | true =>
      have hreply := congrArg State.reply hframe
      exact ⟨herr, hint, hreply, hregs, hanswer⟩

end Sys2Proof.Machine
end

section
/-! A plan that is flushed ends the Scaler's trigger that it holds. -/

namespace Sys2Proof.Machine

/-- Plan 5 of timer 0, which triggers port 0, and the Scaler's trigger of band 0 that waits for it. -/
def plannedTrigger : State :=
  { State.reset with
    tio := { State.reset.tio with timers := [(0, { plan := [(5, 200)] })] }
    colour := { State.reset.colour with armed := [{ port := 0, plan := 5, band := 0, strip := 0, kind := 0 }] } }

theorem plannedTrigger_planFlush_colour :
    nextHas (fun u => decide (u.colour ≠ plannedTrigger.colour)) (exec (.planFlush .pf1 0) plannedTrigger) = true := by
  decide +kernel

/-- Refutes O24: a flush of the plan that holds the Scaler's trigger ends that trigger. -/
theorem not_timersAndTime : ¬ Obligations.TimersAndTime := by
  unfold Obligations.TimersAndTime
  rintro ⟨-, -, -, -, -, -, -, -, -, -, -, -, hflush, -⟩
  obtain ⟨u, hu, -, -, -, -, hframe⟩ := hflush .pf1 0 plannedTrigger (by decide +kernel)
  have hcolour := congrArg State.colour hframe
  exact of_decide_eq_true (nextHas_spec plannedTrigger_planFlush_colour hu) hcolour

end Sys2Proof.Machine
end

section
/-! Timer events that trigger no camera and no tick, and captures (R398 to R403). -/

namespace Sys2Proof.Machine

section
variable {s : State} {n : Nat}

/-! ## What an event sends -/

/-- The pulse of an event, unless its plan was empty. -/
def State.pulsed (s : State) (n t w : Nat) (dry : Bool) : State :=
  if s.bit (Reg.TIO_T_CFG n) 6 && s.bit Reg.TIO_PIN_DIR n && !dry
    then s.emit (.tioPulse n t w (b2n (!s.bit (Reg.TIO_T_CFG n) 7))) else s

/-- What an event does once its plan entry is taken. -/
def State.fireTail (s : State) (n t w : Nat) (entry : Option (Nat × Nat)) (dry : Bool) : State :=
  let s := s.pulsed n t w dry
  let s := [0, 1].foldl (fun s p => if s.triggersPort n p then s.trigger p entry t else s) s
  let s := if s.sourceInUse = 4 ∧ s.rdF Reg.ENC_VENC_TIO 3 0 = n then s.tickInput t else s
  if s.bit (Reg.TIO_T_CFG n) 8 then s.emit (.crewIrq n) else s

theorem State.timerFire_false (t : Nat) : s.timerFire n t false =
    (s.count (Reg.TIO_T_EVENTS n)).fireTail n t ((s.count (Reg.TIO_T_EVENTS n)).timerWidth n) none false := rfl

/-- The plan of a timer without its head. -/
def State.planTaken (s : State) (n : Nat) : State :=
  (s.setTimer n { s.timer n with plan := (s.timer n).plan.tail }).showPlan n

theorem State.timerFire_true {t : Nat} {e : Nat × Nat} (hplan : (s.timer n).plan.head? = some e) : s.timerFire n t true =
    ((s.count (Reg.TIO_T_EVENTS n)).planTaken n).fireTail n t (nsClk e.2) (some e) false := by
  obtain ⟨es, hes⟩ := List.head?_eq_some_iff.1 hplan
  have htake : (s.count (Reg.TIO_T_EVENTS n)).planTake n = ((s.count (Reg.TIO_T_EVENTS n)).planTaken n, some e) := by
    have hes' : ((s.count (Reg.TIO_T_EVENTS n)).timer n).plan = e :: es := hes
    unfold State.planTake State.planTaken
    dsimp only
    rw [hes']
    rfl
  unfold State.timerFire
  dsimp only
  rw [if_pos rfl, htake]
  rfl

/-- Timer n triggers no camera port and no tick. -/
structure State.LoneTimer (s : State) (n : Nat) : Prop where
  port : ∀ p ∈ [0, 1], s.triggersPort n p = false
  source : s.sourceInUse ≠ 4 ∨ s.rdF Reg.ENC_VENC_TIO 3 0 ≠ n

theorem State.fireTail_of_lone {t w : Nat} {entry : Option (Nat × Nat)} {dry : Bool} (h : s.LoneTimer n) :
    s.fireTail n t w entry dry =
      if s.bit (Reg.TIO_T_CFG n) 8 then (s.pulsed n t w dry).emit (.crewIrq n) else s.pulsed n t w dry := by
  have hlone : (s.pulsed n t w dry).LoneTimer n := by
    unfold State.pulsed
    split
    · exact ⟨h.port, h.source⟩
    · exact h
  have hbit : (s.pulsed n t w dry).bit (Reg.TIO_T_CFG n) 8 = s.bit (Reg.TIO_T_CFG n) 8 := by
    unfold State.pulsed
    split <;> rfl
  have hports : [0, 1].foldl (fun s p => if s.triggersPort n p then s.trigger p entry t else s) (s.pulsed n t w dry) =
      s.pulsed n t w dry :=
    State.foldl_eq_self fun p hp => if_neg (by simp [hlone.port p hp])
  unfold State.fireTail
  dsimp only
  rw [hports, if_neg (c := _ ∧ _) (fun hsource => hlone.source.elim (fun h => h hsource.1) (fun h => h hsource.2)), hbit]

/-- The timer's own registers that an event shows. -/
def timerKeys (n : Nat) : List Nat := [Reg.TIO_T_STATUS n, Reg.TIO_T_NEXT_LO n, Reg.TIO_T_NEXT_HI n, Reg.TIO_T_EVENTS n]

theorem State.LoneTimer.of_regsBut {t : State} (h : s.LoneTimer n) (hn : n < 16) (hregs : s.regsBut t (timerKeys n))
    (hline : t.line = s.line) : t.LoneTimer n := by
  have hport (p : Nat) (hp : p ∈ [0, 1]) : t.triggersPort n p = s.triggersPort n p := by
    have hkey : t.rd (Reg.CAM_TRIG_CFG p) = s.rd (Reg.CAM_TRIG_CFG p) := hregs _ (by
      simp only [List.mem_cons, List.not_mem_nil, or_false] at hp
      simp [timerKeys]
      omega)
    unfold State.triggersPort
    rw [State.bit_of_rd_eq hkey, State.rdF_of_rd_eq hkey]
  have hsource : t.sourceInUse = s.sourceInUse := by
    unfold State.sourceInUse
    rw [State.rdF_of_rd_eq (hregs _ (by simp [timerKeys]; omega)), hline]
  refine ⟨fun p hp => (hport p hp).trans (h.port p hp), ?_⟩
  rw [hsource, State.rdF_of_rd_eq (hregs Reg.ENC_VENC_TIO (by simp [timerKeys]; omega))]
  exact h.source

theorem State.timerCut_of_lone (h : s.LoneTimer n) : s.timerCut n = s := by
  have hnone : [0, 1].filter (s.triggersPort n) = [] := by
    rw [List.filter_eq_nil_iff]
    exact fun p hp => by simp [h.port p hp]
  unfold State.timerCut
  rw [hnone]
  rfl

/-! ## The timer itself -/

theorem State.timer_setTimer_same (x : Timer) : (s.setTimer n x).timer n = x := smGet_smSet_same _ _ _ _

@[simp] theorem State.rd_setTimer (x : Timer) (k : Nat) : (s.setTimer n x).rd k = s.rd k := rfl

@[simp] theorem State.agree_setTimer {t : State} {ps : List Part} (x : Timer) (h : .tio ∈ ps) :
    s.Agree ps (t.setTimer n x) ↔ s.Agree ps t := by simp [State.setTimer, h]

theorem State.timerSt_setTimerSt {v : Nat} (hv : v < 4) : (s.setTimerSt n v).timerSt n = v := by
  unfold State.timerSt State.setTimerSt
  rw [State.rdF_wrF_same _ _ _ _ _ (by decide) (by decide)]
  exact Nat.mod_eq_of_lt hv

/-- The event of a ONCE timer leaves it DONE. -/
theorem State.timerNext_of_once (h : s.timerMode n = 1) :
    s.timerNext n = (s.setTimer n { s.timer n with fire := none }).setTimerSt n 3 := if_pos (.inl h)

end

/-! ## The events of the timers in the modes ONCE and PERIODIC -/

section
variable {s : State} {n : Fin 16} {t f : Nat}

theorem State.timerEvent_of_due (hdue : s.timerDue n = some f) (hlate : f ≤ (s.till t).frc) : execTimerEvent n t s =
    .next ((((s.till t).timerNext n).timerFire n f (s.bit (Reg.TIO_T_CFG n) 9)).timerCut n) := by
  have hdue' : (s.till t).timerDue n = some f := hdue
  unfold execTimerEvent
  dsimp only
  rw [hdue']
  exact if_pos (decide_eq_true hlate)

/-- The timer after the event of its mode ONCE, which counts. -/
def State.onceDone (s : State) (n t : Nat) : State :=
  (((s.till t).setTimer n { s.timer n with fire := none }).setTimerSt n 3).count (Reg.TIO_T_EVENTS n)

theorem State.regsBut_onceDone (n t : Nat) : s.regsBut (s.onceDone n t) [Reg.TIO_T_STATUS n, Reg.TIO_T_EVENTS n] := by
  intro k hk
  simp only [List.mem_cons, List.not_mem_nil, or_false, not_or] at hk
  rw [State.onceDone, State.rd_count_of_ne _ hk.2, State.setTimerSt, State.rd_wrF_of_ne _ _ _ _ hk.1, State.rd_setTimer,
    State.till_rd]

theorem State.onceDone_spec (n t : Nat) : (s.onceDone n t).timerSt n = 3 ∧
    (s.onceDone n t).timer n = { s.timer n with fire := none } ∧
    (s.onceDone n t).rd (Reg.TIO_T_EVENTS n) = satInc 32 (s.rd (Reg.TIO_T_EVENTS n)) ∧
    (s.onceDone n t).rdF (Reg.TIO_T_STATUS n) 20 16 = s.rdF (Reg.TIO_T_STATUS n) 20 16 ∧
    s.Agree [.frc, .tio] (s.onceDone n t) := by
  refine ⟨?_, State.timer_setTimer_same _, ?_, ?_, by simp [State.onceDone, State.setTimerSt]⟩
  · refine (State.rdF_of_rd_eq (State.rd_count_of_ne _ (by simp))).trans (State.timerSt_setTimerSt (by decide))
  · rw [State.onceDone, State.rd_count_same, State.setTimerSt, State.rd_wrF_of_ne _ _ _ _ (by simp), State.rd_setTimer,
      State.till_rd]
  · rw [State.onceDone, State.rdF_of_rd_eq (State.rd_count_of_ne _ (by simp)), State.setTimerSt, State.rdF,
      State.rd_wrF_same _ _ _ (by decide) (by decide), fld_putFld_other _ _ _ _ _ _ (by decide) (by decide)]
    rfl

theorem State.loneTimer_onceDone (h : s.LoneTimer n) : (s.onceDone n t).LoneTimer n :=
  h.of_regsBut n.isLt ((State.regsBut_onceDone n t).mono (by simp [timerKeys])) rfl

theorem State.bit_onceDone {k i : Nat} (h : k ≠ Reg.TIO_T_STATUS n) (h' : k ≠ Reg.TIO_T_EVENTS n) :
    (s.onceDone n t).bit k i = s.bit k i := State.bit_of_rd_eq (State.regsBut_onceDone n t k (by simp only [List.mem_cons, h, h', List.not_mem_nil, or_self, not_false_eq_true]))

/-- The event of a ONCE timer that uses no plan. -/
theorem State.timerEvent_of_once (hdue : s.timerDue n = some f) (hlate : f ≤ (s.till t).frc) (hmode : s.timerMode n = 1)
    (hplan : s.bit (Reg.TIO_T_CFG n) 9 = false) (hirq : s.bit (Reg.TIO_T_CFG n) 8 = false) (hlone : s.LoneTimer n) :
    execTimerEvent n t s = .next ((s.onceDone n t).pulsed n f (s.timerWidth n) false) := by
  have hlone' := State.loneTimer_onceDone (t := t) hlone
  have hfire : (((s.till t).timerNext n).timerFire n f false) = (s.onceDone n t).pulsed n f (s.timerWidth n) false := by
    rw [State.timerNext_of_once (s := s.till t) hmode, State.timerFire_false]
    refine (State.fireTail_of_lone hlone').trans ?_
    rw [State.bit_onceDone (by simp) (by simp), hirq, if_neg (by decide)]
    refine congrArg (fun w => (s.onceDone n t).pulsed n f w false) ?_
    exact congrArg atLeast1 (State.rdF_of_rd_eq (State.regsBut_onceDone n t _ (by simp)))
  rw [State.timerEvent_of_due hdue hlate, hplan, hfire, State.timerCut_of_lone]
  unfold State.pulsed
  split
  · exact ⟨hlone'.port, hlone'.source⟩
  · exact hlone'

/-! The plan of a ONCE timer. -/

theorem State.rd_planTaken_of_ne {s : State} {n k : Nat} (h : k ≠ Reg.TIO_T_STATUS n) : (s.planTaken n).rd k = s.rd k := by
  rw [State.planTaken, State.showPlan, State.rd_wrF_of_ne _ _ _ _ h, State.rd_setTimer]

theorem State.planTaken_spec (s : State) (n : Nat) :
    (s.planTaken n).timer n = { s.timer n with plan := (s.timer n).plan.tail } ∧
    (s.planTaken n).rdF (Reg.TIO_T_STATUS n) 20 16 = ((s.timer n).plan.length - 1) % 32 ∧
    (s.planTaken n).timerSt n = s.timerSt n := by
  have htimer := State.timer_setTimer_same (s := s) (n := n) { s.timer n with plan := (s.timer n).plan.tail }
  refine ⟨htimer, ?_, ?_⟩
  · unfold State.planTaken State.showPlan
    rw [State.rdF_wrF_same _ _ _ _ _ (by decide) (by decide), htimer, List.length_tail]
    rfl
  · unfold State.planTaken State.showPlan State.timerSt State.rdF
    rw [State.rd_wrF_same _ _ _ (by decide) (by decide), fld_putFld_other _ _ _ _ _ _ (by decide) (by decide)]
    rfl

@[simp] theorem State.agree_planTaken {s t : State} {ps : List Part} (n : Nat) (h : .tio ∈ ps) :
    s.Agree ps (t.planTaken n) ↔ s.Agree ps t := by simp [State.planTaken, State.showPlan, h]

/-- The event of a ONCE timer that uses its plan. -/
theorem State.timerEvent_of_plan {e : Nat × Nat} (hdue : s.timerDue n = some f) (hlate : f ≤ (s.till t).frc)
    (hmode : s.timerMode n = 1) (hplan : s.bit (Reg.TIO_T_CFG n) 9 = true) (hirq : s.bit (Reg.TIO_T_CFG n) 8 = false)
    (hhead : (s.timer n).plan.head? = some e) (hlone : s.LoneTimer n) :
    execTimerEvent n t s = .next (((s.onceDone n t).planTaken n).pulsed n f (nsClk e.2) false) := by
  have hregs : (s.onceDone n t).regsBut ((s.onceDone n t).planTaken n) (timerKeys n) := fun k hk =>
    State.rd_planTaken_of_ne (fun h => hk (by simp [h, timerKeys]))
  have hlone' : ((s.onceDone n t).planTaken n).LoneTimer n := (State.loneTimer_onceDone (t := t) hlone).of_regsBut n.isLt hregs rfl
  have hhead' : (((s.till t).timerNext n).timer n).plan.head? = some e := by
    rw [State.timerNext_of_once (s := s.till t) hmode]
    exact (congrArg (fun x => x.plan.head?) (State.timer_setTimer_same (s := s.till t) { s.timer n with fire := none })).trans hhead
  have hfire : ((s.till t).timerNext n).timerFire n f true = ((s.onceDone n t).planTaken n).pulsed n f (nsClk e.2) false := by
    rw [State.timerFire_true hhead', State.timerNext_of_once (s := s.till t) hmode]
    refine (State.fireTail_of_lone hlone').trans ?_
    rw [State.bit_of_rd_eq (State.rd_planTaken_of_ne (by simp)), State.bit_onceDone (by simp) (by simp), hirq,
      if_neg (by decide)]
  rw [State.timerEvent_of_due hdue hlate, hplan, hfire, State.timerCut_of_lone]
  unfold State.pulsed
  split
  · exact ⟨hlone'.port, hlone'.source⟩
  · exact hlone'

/-! The pulse. -/

section
variable {s : State} {m t' w : Nat} {dry : Bool}

theorem State.pulsed_of_pin (hout : s.bit (Reg.TIO_T_CFG m) 6 = true) (hpin : s.bit Reg.TIO_PIN_DIR m = true) :
    s.pulsed m t' w false = s.emit (.tioPulse m t' w (b2n (!s.bit (Reg.TIO_T_CFG m) 7))) := if_pos (by simp [hout, hpin])

theorem State.pulsed_of_noPin (h : s.bit (Reg.TIO_T_CFG m) 6 = false ∨ s.bit Reg.TIO_PIN_DIR m = false) :
    s.pulsed m t' w dry = s := by
  refine if_neg ?_
  rw [Bool.and_eq_true, Bool.and_eq_true]
  rcases h with h | h <;> simp [h]

end

/-! The event of a periodic timer that sends no pulse. -/

/-- The timer after the event of its mode PERIODIC, which counts. -/
def State.periodDone (s : State) (n t : Nat) : State :=
  ((((s.till t).setTimer n { s.timer n with next := (s.timer n).next + s.timerPeriod16 n }).setTimerSt n 2).showNext n).count
    (Reg.TIO_T_EVENTS n)

/-- What shows the next event of a timer reaches NEXT alone. -/
theorem State.rd_showNext_of_ne {s : State} {m k : Nat} (hlo : k ≠ Reg.TIO_T_NEXT_LO m) (hhi : k ≠ Reg.TIO_T_NEXT_HI m) :
    (s.showNext m).rd k = s.rd k := by
  unfold State.showNext
  dsimp only
  split <;> rw [State.rd_wr_of_ne _ _ hhi, State.rd_wr_of_ne _ _ hlo]

@[simp] theorem State.agree_showNext {s u : State} {ps : List Part} (m : Nat) : s.Agree ps (u.showNext m) ↔ s.Agree ps u := by
  unfold State.showNext
  dsimp only
  split <;> simp

theorem State.timer_showNext {s : State} (m q : Nat) : (s.showNext m).timer q = s.timer q := by
  unfold State.showNext
  dsimp only
  split <;> rfl

theorem State.regsBut_periodDone (n t : Nat) : s.regsBut (s.periodDone n t) (timerKeys n) := by
  intro k hk
  simp only [timerKeys, List.mem_cons, List.not_mem_nil, or_false, not_or] at hk
  obtain ⟨hst, hlo, hhi, hev⟩ := hk
  rw [State.periodDone, State.rd_count_of_ne _ hev, State.rd_showNext_of_ne hlo hhi, State.setTimerSt,
    State.rd_wrF_of_ne _ _ _ _ hst, State.rd_setTimer, State.till_rd]

theorem State.periodDone_spec (n t : Nat) : (s.periodDone n t).timerSt n = 2 ∧
    ((s.periodDone n t).timer n).next = (s.timer n).next + s.timerPeriod16 n ∧
    (s.periodDone n t).rd (Reg.TIO_T_EVENTS n) = satInc 32 (s.rd (Reg.TIO_T_EVENTS n)) ∧
    s.Agree [.frc, .tio] (s.periodDone n t) := by
  refine ⟨?_, ?_, ?_, by simp [State.periodDone, State.setTimerSt]⟩
  · refine (State.rdF_of_rd_eq (State.rd_count_of_ne _ (by simp))).trans ?_
    refine (State.rdF_of_rd_eq (State.rd_showNext_of_ne (by simp) (by simp))).trans ?_
    exact State.timerSt_setTimerSt (by decide)
  · have htimer : (s.periodDone n t).timer n = { s.timer n with next := (s.timer n).next + s.timerPeriod16 n } :=
      (State.timer_showNext n n).trans (State.timer_setTimer_same (s := s.till t) _)
    rw [htimer]
  · rw [State.periodDone, State.rd_count_same, State.rd_showNext_of_ne (by simp) (by simp), State.setTimerSt,
      State.rd_wrF_of_ne _ _ _ _ (by simp), State.rd_setTimer, State.till_rd]

theorem State.timerNext_of_period {s : State} {m : Nat} (hmode : s.timerMode m = 2) (hfire : (s.timer m).fire = none)
    (hfirst : (s.timer m).first = none) : s.timerNext m =
      ((s.setTimer m { s.timer m with next := (s.timer m).next + s.timerPeriod16 m }).setTimerSt m 2).showNext m := by
  unfold State.timerNext
  dsimp only
  rw [hmode, if_neg (by decide), hfire, hfirst, if_neg (by decide), if_neg (by decide), if_neg (by decide)]

/-- The event of a periodic timer that sends no pulse but interrupts the Crew. -/
theorem State.timerEvent_of_period (hdue : s.timerDue n = some f) (hlate : f ≤ (s.till t).frc) (hmode : s.timerMode n = 2)
    (hfire : (s.timer n).fire = none) (hfirst : (s.timer n).first = none) (hplan : s.bit (Reg.TIO_T_CFG n) 9 = false)
    (hout : s.bit (Reg.TIO_T_CFG n) 6 = false) (hirq : s.bit (Reg.TIO_T_CFG n) 8 = true) (hlone : s.LoneTimer n) :
    execTimerEvent n t s = .next ((s.periodDone n t).emit (.crewIrq n)) := by
  have hlone' : (s.periodDone n t).LoneTimer n :=
    hlone.of_regsBut n.isLt (State.regsBut_periodDone n t) ((State.periodDone_spec n t).2.2.2 .line (by simp))
  have hbit (i : Nat) : (s.periodDone n t).bit (Reg.TIO_T_CFG n) i = s.bit (Reg.TIO_T_CFG n) i :=
    State.bit_of_rd_eq (State.regsBut_periodDone n t _ (by simp [timerKeys]))
  have htail : ((s.till t).timerNext n).timerFire n f false = (s.periodDone n t).emit (.crewIrq n) := by
    rw [State.timerNext_of_period (s := s.till t) hmode hfire hfirst, State.timerFire_false]
    refine (State.fireTail_of_lone hlone').trans ?_
    rw [hbit, if_pos hirq, State.pulsed_of_noPin (.inl ((hbit 6).trans hout))]
  rw [State.timerEvent_of_due hdue hlate, hplan, htail]
  exact congrArg _ (State.timerCut_of_lone ⟨hlone'.port, hlone'.source⟩)

end

end Sys2Proof.Machine
end

section
/-! Captures (R403), and the obligation about timer events. -/

namespace Sys2Proof.Machine

section
variable {s : State} {p : Fin 16} {t : Nat}

theorem State.captures_setCaptures (q : Nat) (l : List Edge) : (s.setCaptures q l).captures q = l := smGet_smSet_same _ _ _ _

@[simp] theorem State.timer_emit (o : Out) (n : Nat) : (s.emit o).timer n = s.timer n := rfl

@[simp] theorem State.timerSt_emit (o : Out) (n : Nat) : (s.emit o).timerSt n = s.timerSt n := rfl

@[simp] theorem State.rdF_emit (o : Out) (k hi lo : Nat) : (s.emit o).rdF k hi lo = s.rdF k hi lo := rfl

@[simp] theorem State.captures_intSet (pg i q : Nat) : (s.intSet pg i).captures q = s.captures q := rfl

theorem State.regsBut_emit {s u : State} {o : Out} {ks : List Nat} : s.regsBut (u.emit o) ks ↔ s.regsBut u ks := Iff.rfl

theorem State.captures_congr {s u : State} (h : u.tio = s.tio) (q : Nat) : u.captures q = s.captures q := by
  unfold State.captures
  rw [h]

@[simp] theorem State.agree_setCaptures {u : State} {ps : List Part} (q : Nat) (l : List Edge) (h : .tio ∈ ps) :
    s.Agree ps (u.setCaptures q l) ↔ s.Agree ps u := by simp [State.setCaptures, h]

theorem State.rd_setCaptures_of_ne {q k : Nat} (l : List Edge) (h : k ≠ Reg.TIO_CAP_PENDING) : (s.setCaptures q l).rd k = s.rd k := by
  rw [State.setCaptures, State.rd_wrB_of_ne _ _ _ h]
  rfl

/-- The level of the pin after an edge. -/
def State.levelShown (s : State) (p t : Nat) (falling : Bool) : State := (s.till t).wrB Reg.TIO_PIN_LEVEL p (!falling)

theorem State.rd_levelShown_of_ne {q k : Nat} {falling : Bool} (h : k ≠ Reg.TIO_PIN_LEVEL) :
    (s.levelShown q t falling).rd k = s.rd k := by
  rw [State.levelShown, State.rd_wrB_of_ne _ _ _ h, State.till_rd]

theorem State.level_levelShown (falling : Bool) : (s.levelShown p t falling).bit Reg.TIO_PIN_LEVEL p = !falling := by
  rw [State.bit, State.levelShown, State.rd_wrB_same _ _ _ (by omega), bitOf_putB, if_pos rfl]

theorem State.capture_eq (falling : Bool) : execCapture p falling t s =
    if !(s.levelShown p t falling).bit Reg.TIO_CAP_CFG (if falling then 16 + p.val else p.val) then .next (s.levelShown p t falling)
    else if ((s.levelShown p t falling).captures p).length ≥ 16 then
      .next (((s.levelShown p t falling).count Reg.TIO_CAP_LOST).intSet Reg.pageTIO 10)
    else
      .next (if fld s.line.runCfg 11 8 = p.val then
        (((s.levelShown p t falling).setCaptures p (s.captures p ++
          [{ frc := t, line := (s.levelShown p t falling).rd Reg.LINE_CURRENT_LINE, falling := falling }])).intSet
            Reg.pageTIO 9).startFrom 1
        else ((s.levelShown p t falling).setCaptures p (s.captures p ++
          [{ frc := t, line := (s.levelShown p t falling).rd Reg.LINE_CURRENT_LINE, falling := falling }])).intSet
            Reg.pageTIO 9) := rfl

/-- An edge that joins the FIFO of its pin. -/
def State.captured (s : State) (p t : Nat) (falling : Bool) : State :=
  ((s.levelShown p t falling).setCaptures p (s.captures p ++
    [{ frc := t, line := s.rd Reg.LINE_CURRENT_LINE, falling := falling }])).intSet Reg.pageTIO 9

theorem State.capture_of_room {falling : Bool} (hon : s.bit Reg.TIO_CAP_CFG (if falling then 16 + p.val else p.val) = true)
    (hroom : (s.captures p).length < 16) (hrun : fld s.line.runCfg 11 8 ≠ p.val ∨ fld s.line.runCfg 1 0 ≠ 1) :
    execCapture p falling t s = .next (s.captured p t falling) := by
  have hon' : (s.levelShown p t falling).bit Reg.TIO_CAP_CFG (if falling then 16 + p.val else p.val) = true :=
    (State.bit_of_rd_eq (State.rd_levelShown_of_ne (by simp))).trans hon
  have hroom' : ¬ ((s.levelShown p t falling).captures p).length ≥ 16 := not_le.2 hroom
  rw [State.capture_eq, if_neg (by simp [hon']), if_neg hroom', State.rd_levelShown_of_ne (by simp)]
  refine congrArg _ ?_
  split
  · next hpin => exact if_neg (hrun.resolve_left (fun h => h hpin))
  · rfl

theorem State.captured_spec {falling : Bool} :
    (s.captured p t falling).captures p = s.captures p ++
      [{ frc := t, line := s.rd Reg.LINE_CURRENT_LINE, falling := falling }] ∧
    (s.captured p t falling).bit Reg.TIO_CAP_PENDING p = true ∧
    (s.captured p t falling).bit (Reg.INT_STATUS Reg.pageTIO) 9 = true ∧
    (s.captured p t falling).bit Reg.TIO_PIN_LEVEL p = !falling ∧
    s.regsBut (s.captured p t falling) [Reg.TIO_PIN_LEVEL, Reg.TIO_CAP_PENDING, Reg.INT_STATUS Reg.pageTIO] ∧
    s.Agree [.frc, .tio] (s.captured p t falling) := by
  refine ⟨?_, ?_, ?_, ?_, fun k hk => ?_, by simp [State.captured, State.levelShown]⟩
  · rw [State.captured, State.captures_intSet, State.captures_setCaptures]
  · rw [State.bit, State.captured, State.rd_intSet_of_ne _ _ (by decide), State.setCaptures, State.rd_wrB_same _ _ _ (by omega),
      bitOf_putB, if_pos rfl]
    simp
  · rw [State.bit, State.captured, State.rd_intSet_same _ rfl (by decide), bitOf_putB, if_pos rfl]
  · rw [← State.level_levelShown (s := s) (p := p) (t := t) falling]
    refine State.bit_of_rd_eq ?_
    rw [State.captured, State.rd_intSet_of_ne _ _ (by decide), State.rd_setCaptures_of_ne _ (by decide)]
  · simp only [List.mem_cons, List.not_mem_nil, or_false, not_or] at hk
    rw [State.captured, State.rd_intSet_of_ne _ _ hk.2.2, State.rd_setCaptures_of_ne _ hk.2.1, State.rd_levelShown_of_ne hk.1]

end

/-- A timer that is not live and on which the Scaler has armed nothing has no event. -/
theorem State.timerEvent_of_idle {s : State} {n : Fin 16} {t : Nat} (hlive : s.timerLive n = false)
    (hstrips : (s.timer n).strips = []) : execTimerEvent n t s = .next (s.till t) := by
  have hlive' : (!(s.till t).timerLive n) = true := by
    have hsame : (s.till t).timerLive n = false := hlive
    rw [hsame, Bool.not_false]
  have hdue : (s.till t).timerDue n = none := if_pos hlive'
  have hstrips' : ((s.till t).timer n).strips = [] := hstrips
  have hstrip : (s.till t).stripDue n = none := by
    unfold State.stripDue
    rw [hstrips']
  unfold execTimerEvent
  dsimp only
  rw [hdue, hstrip]
  rfl

/-- Settles O25: the events that trigger nothing else, and each edge and reading of a capture FIFO. -/
theorem timerEvents : Obligations.TimerEvents := by
  unfold Obligations.TimerEvents
  refine ⟨fun n t f s hdue hlate hmode hplan hout hpin hirq h0 h1 hsrc => ?_,
    fun n t f s hdue hlate hmode hplan hout hirq h0 h1 hsrc => ?_,
    fun n t f s hdue hlate hmode hns hfire hfirst hplan hout hirq h0 h1 hsrc => ?_,
    fun n t f e s hdue hlate hmode hplan hout hpin hirq hhead h0 h1 hsrc => ?_, fun n t s hlive hstrips => ?_,
    fun p falling t s hoff => ?_, fun p falling t s hon hroom hrun => ?_, fun p falling t s hon hfull => ?_,
    fun src s hreach => ?_⟩
  · have hlone : s.LoneTimer n := ⟨by simp [h0, h1], hsrc⟩
    obtain ⟨hst, htimer, hev, -, hagree⟩ := State.onceDone_spec (s := s) n t
    have hpulse : (s.onceDone n t).pulsed n f (s.timerWidth n) false =
        (s.onceDone n t).emit (.tioPulse n f (s.timerWidth n) (b2n (!s.bit (Reg.TIO_T_CFG n) 7))) := by
      rw [State.pulsed_of_pin, State.bit_onceDone (by simp) (by simp)]
      · exact (State.bit_onceDone (by simp) (by simp)).trans hout
      · exact (State.bit_onceDone (by simp; omega) (by simp; omega)).trans hpin
    refine ⟨_, (State.timerEvent_of_once hdue hlate hmode hplan hirq hlone).trans (congrArg _ hpulse), (State.timerSt_emit _ _).trans hst, ?_, ?_, ?_,
      State.regsBut_emit.2 (State.regsBut_onceDone _ _), ?_⟩
    · rw [State.timer_emit, htimer]
    · rw [State.emit_rd, hev]
    · rw [State.emit_out]
      exact congrArg (· ++ _) (hagree .out (by simp))
    · exact State.Agree.revert_eq (ps := [.frc, .tio, .out]) ((State.agree_emit _ (by simp)).2 (hagree.mono (by simp)))
  · have hlone : s.LoneTimer n := ⟨by simp [h0, h1], hsrc⟩
    obtain ⟨hst, htimer, hev, -, hagree⟩ := State.onceDone_spec (s := s) n t
    refine ⟨_, (State.timerEvent_of_once hdue hlate hmode hplan hirq hlone).trans (congrArg _ (State.pulsed_of_noPin ?_)), hst,
      congrArg Timer.fire htimer, hev, State.regsBut_onceDone _ _, hagree.revert_eq⟩
    rwa [State.bit_onceDone (by simp) (by simp), State.bit_onceDone (by simp; omega) (by simp; omega)]
  · have hlone : s.LoneTimer n := ⟨by simp [h0, h1], hsrc⟩
    obtain ⟨hst, hnext, hev, hagree⟩ := State.periodDone_spec (s := s) n t
    refine ⟨_, State.timerEvent_of_period hdue hlate hmode hfire hfirst hplan hout hirq hlone,
      (State.timerSt_emit _ _).trans hst, ?_, ?_, ?_,
      State.regsBut_emit.2 (State.regsBut_periodDone n t), ?_⟩
    · rw [State.timer_emit, hnext]
    · rw [State.emit_rd, hev]
    · rw [State.emit_out]
      exact congrArg (· ++ _) (hagree .out (by simp))
    · exact State.Agree.revert_eq (ps := [.frc, .tio, .out]) ((State.agree_emit _ (by simp)).2 (hagree.mono (by simp)))
  · have hlone : s.LoneTimer n := ⟨by simp [h0, h1], hsrc⟩
    obtain ⟨hst, htimer, hev, -, hagree⟩ := State.onceDone_spec (s := s) n t
    obtain ⟨htaken, hdepth, hst'⟩ := State.planTaken_spec (s.onceDone n t) n
    have hagree' : s.Agree [.frc, .tio] ((s.onceDone n t).planTaken n) := by simpa using hagree
    have hbit {k : Nat} (i : Nat) (h : k ≠ Reg.TIO_T_STATUS n) (h' : k ≠ Reg.TIO_T_EVENTS n) :
        ((s.onceDone n t).planTaken n).bit k i = s.bit k i :=
      (State.bit_of_rd_eq (State.rd_planTaken_of_ne h)).trans (State.bit_onceDone h h')
    have hpulse : ((s.onceDone n t).planTaken n).pulsed n f (nsClk e.2) false =
        ((s.onceDone n t).planTaken n).emit (.tioPulse n f (nsClk e.2) (b2n (!s.bit (Reg.TIO_T_CFG n) 7))) := by
      rw [State.pulsed_of_pin, hbit _ (by simp) (by simp)]
      · exact (hbit 6 (by simp) (by simp)).trans hout
      · exact (hbit n (by simp; omega) (by simp; omega)).trans hpin
    refine ⟨_, (State.timerEvent_of_plan hdue hlate hmode hplan hirq hhead hlone).trans (congrArg _ hpulse), 
      (State.timerSt_emit _ _).trans (hst'.trans hst), ?_, ?_, ?_, State.regsBut_emit.2 fun k hk => ?_, ?_⟩
    · rw [State.timer_emit, htaken, htimer]
    · rw [State.rdF_emit, hdepth, htimer]
    · rw [State.emit_out]
      exact congrArg (· ++ _) (hagree' .out (by simp))
    · exact (State.rd_planTaken_of_ne (fun h => hk (by simp [h]))).trans (State.regsBut_onceDone n t k hk)
    · exact State.Agree.revert_eq (ps := [.frc, .tio, .out]) ((State.agree_emit _ (by simp)).2 (hagree'.mono (by simp)))
  · exact State.timerEvent_of_idle hlive hstrips
  · have hoff' : (s.levelShown p t falling).bit Reg.TIO_CAP_CFG (if falling then 16 + p.val else p.val) = false :=
      (State.bit_of_rd_eq (State.rd_levelShown_of_ne (by simp))).trans hoff
    refine ⟨_, (State.capture_eq falling).trans (if_pos (by simp [hoff'])), State.level_levelShown falling, rfl, ?_,
      State.Agree.revert_eq (ps := [.frc]) (by simp [State.levelShown])⟩
    exact fun k hk => State.rd_levelShown_of_ne (fun h => hk (by simp [h]))
  · obtain ⟨hlist, hpending, hint, hlevel, hregs, hagree⟩ := State.captured_spec (s := s) (p := p) (t := t) (falling := falling)
    exact ⟨_, State.capture_of_room hon hroom hrun, hlist, hpending, hint, hlevel, hregs, hagree.revert_eq⟩
  · have hon' : (s.levelShown p t falling).bit Reg.TIO_CAP_CFG (if falling then 16 + p.val else p.val) = true :=
      (State.bit_of_rd_eq (State.rd_levelShown_of_ne (by simp))).trans hon
    refine ⟨_, (State.capture_eq falling).trans ((if_neg (by simp [hon'])).trans (if_pos hfull)), rfl, ?_, ?_, fun k hk => ?_,
      State.Agree.revert_eq (ps := [.frc]) (by simp [State.levelShown])⟩
    · rw [State.rd_intSet_of_ne _ _ (by decide), State.rd_count_same, State.rd_levelShown_of_ne (by decide)]
    · rw [State.bit, State.rd_intSet_same _ rfl (by decide), bitOf_putB, if_pos rfl]
    · simp only [List.mem_cons, List.not_mem_nil, or_false, not_or] at hk
      rw [State.rd_intSet_of_ne _ _ hk.2.2, State.rd_count_of_ne _ hk.2.1, State.rd_levelShown_of_ne hk.1]
  · refine ⟨_, if_neg (by simp [hreach]), rfl, State.captures_setCaptures _ _, fun k hk => ?_,
      State.Agree.revert_eq (ps := [.tio, .reply]) (by simp [State.readCapInfo])⟩
    exact State.rd_setCaptures_of_ne _ (fun h => hk (List.mem_singleton.2 h))

end Sys2Proof.Machine
end

section
/-! Poison under a new Crew image, a link that goes down under a frame, and lanes that start in a pair. -/

namespace Sys2Proof.Machine

/-! ## LIVE_CREW over poisoned words -/

/-- The factory image with 8 bytes of Crew code more. -/
def longImage : ImageSet where
  bytes := leBytes 4 0x57465A51 ++ leBytes 2 0x0001 ++ leBytes 2 0x2080 ++ leBytes 4 0x3FFFFFF ++ leBytes 4 0x01000000
    ++ leBytes 4 0x00000100 ++ leBytes 4 512 ++ leBytes 4 4 ++ leBytes 4 516 ++ leBytes 4 8
    ++ leBytes 48 1 ++ leBytes 48 1 ++ List.replicate 396 0
  keyOk := true
  signatureOk := true
  hashesOk := true

/-- Bank B is VALID with that image; the first word of the free Crew space is poisoned. -/
def poisonedCrew : State :=
  { State.reset.wrs [(Reg.FW_UPDATE_BANK, 1), (Reg.FW_FW_STATUS, 0), (Reg.FW_BANK_B_STATE, 2)] with
    mgmt := { runRanger := 1, bankB := some longImage }
    dram := { poisoned := [crewBase 1 / 8] } }

theorem poisonedCrew_liveCrew_dram :
    nextHas (fun u => decide (u.dram.poisoned ≠ poisonedCrew.dram.poisoned)) (exec (.liveCrew .pf1) poisonedCrew) = true := by
  decide +kernel

/-- Refutes O38: the new Crew image ends the poison of the words that it covers. -/
theorem not_firmwareAndLiveUpdates : ¬ Obligations.FirmwareAndLiveUpdates := by
  unfold Obligations.FirmwareAndLiveUpdates
  rintro ⟨-, -, -, -, -, -, -, -, -, -, -, -, -, -, -, -, -, -, -, -, hcrew, -⟩
  obtain ⟨u, hu, -, -, -, -, -, -, hframe⟩ := hcrew .pf1 longImage poisonedCrew (by decide +kernel) (by decide +kernel)
    (by decide +kernel) (by decide +kernel) (by decide +kernel) (by decide +kernel) (by decide +kernel)
  exact of_decide_eq_true (nextHas_spec poisonedCrew_liveCrew_dram hu) (congrArg (fun s => s.dram.poisoned) hframe)

/-! ## BLOCK_LOCK_LOST of a camera lane under an open frame -/

/-- A frame of context 3 that is arriving. -/
def arrivingFrame : CamFrame :=
  { id := 4, vc := 2, num := 7, ctx := 3, fsFrc := 5,
    regs := [(Reg.ISPCTX_GEOMETRY 3, BitVec.ofNat 32 0x00020010)] }

/-- Camera port 1 UP with that frame, which CTX_ACTIVE shows. -/
def arriving : State :=
  { State.reset.wrs [(Reg.STATUS (Reg.pageCAM 1), 0x40), (Reg.ISP_CTX_ACTIVE, 8)] with
    cam := { ports := [(1, { locked := [0, 1, 2, 3], frames := [arrivingFrame] })] } }

theorem arriving_blockLockLost_active :
    nextHas (fun u => decide (u.rd Reg.ISP_CTX_ACTIVE ≠ arriving.rd Reg.ISP_CTX_ACTIVE))
      (exec (.blockLockLost (.cam 1 2) 16 3) arriving) = true := by
  decide +kernel

/-- Refutes O46: a port that goes down drops its frame, which CTX_ACTIVE of ISP then shows no longer. -/
theorem not_blockLocks : ¬ Obligations.BlockLocks := by
  unfold Obligations.BlockLocks
  rintro ⟨-, -, -, -, -, -, -, -, -, -, -, hlost, -⟩
  obtain ⟨u, hu, -, -, -, -, -, hpages, -⟩ := hlost 1 2 16 3 arriving (by decide +kernel) (by decide +kernel)
  exact of_decide_eq_true (nextHas_spec arriving_blockLockLost_active hu)
    (hpages Reg.ISP_CTX_ACTIVE (by decide +kernel))

/-! ## RING_ENUM at a root that is in a pair too -/

/-- The last ENUM of a ring of four. -/
def lastEnum : Enum :=
  { addr := 4, count := 0, root := 0, east := true, chain := false, reports := [(0,5),(0,5),(1,0),(0,95237)] }

/-- A root in ENUMERATE with the bits of both modes in CONFIG, whose lanes have been silent and are isolated but lane 0. -/
def pairedRoot : State :=
  State.reset.wrs ([(Reg.SYS_CONFIG, 3), (Reg.STATUS Reg.pageRING, 64), (Reg.RING_RING_STATUS, 0x1000),
    (Reg.PAIR_PAIR_STATUS, 0x800), (Reg.STATUS (Reg.pagePEER 0), 0x40), (Reg.STATUS (Reg.pagePEER 1), 0x40)] ++
    (List.range 127).map (fun c => (Reg.CH_CH_CTRL (c + 1), 1)))

theorem pairedRoot_ringEnum_silent :
    nextHas (fun u => decide (u.rd Reg.PAIR_PAIR_STATUS ≠ pairedRoot.rd Reg.PAIR_PAIR_STATUS))
      (exec (.ringEnum true lastEnum 9) pairedRoot) = true := by
  decide +kernel

/-- Refutes O52: the lanes that a complete ring starts are silent no more, which the PAIR page shows in a pair mode. -/
theorem not_ringEnumeration : ¬ Obligations.RingEnumeration := by
  unfold Obligations.RingEnumeration
  rintro ⟨-, -, -, -, -, -, -, -, -, hend, -⟩
  obtain ⟨u, hu, -, -, -, -, -, hpages, -⟩ := hend true lastEnum 9 pairedRoot (by decide +kernel) (by decide +kernel)
    (by decide +kernel) (by decide +kernel) (by decide +kernel) (by decide +kernel) (by decide +kernel)
    (by decide +kernel) (by decide +kernel)
  exact of_decide_eq_true (nextHas_spec pairedRoot_ringEnum_silent hu)
    (hpages Reg.PAIR_PAIR_STATUS (by decide +kernel))

end Sys2Proof.Machine
end

section
/-! The ramp of a tone slot of firmware, and a record of a frame whose number was counted past 16 bits. -/

namespace Sys2Proof.Machine

/-! ## RAMP_END of a tone slot of firmware -/

/-- Slot 24, the tone ramp of firmware on channel 0, whose last line has gone. -/
def toneRamp : State :=
  State.reset.wrs [(Reg.APPLY_SLOT_STATUS 24, 2), (Reg.APPLY_SLOT_ACTION 24, 2), (Reg.APPLY_SLOT_MASK0 24, 1),
    (Reg.LINE_ADMIT_LINE, 9)]

theorem toneRamp_rampEnd_colour :
    nextHas (fun u => decide (u.colour ≠ toneRamp.colour)) (exec (.rampEnd 24) toneRamp) = true := by
  decide +kernel

/-- Refutes O19: the end of a tone ramp of firmware notes for its channels the last line of the ramp (R302). -/
theorem not_slotCommands : ¬ Obligations.SlotCommands := by
  unfold Obligations.SlotCommands
  rintro ⟨-, -, -, -, -, -, -, -, -, hramp, -⟩
  obtain ⟨u, hu, -, -, -, hframe⟩ := hramp 24 toneRamp (by decide +kernel) (by decide +kernel) (by decide +kernel)
  have hcolour := congrArg State.colour hframe
  exact of_decide_eq_true (nextHas_spec toneRamp_rampEnd_colour hu) hcolour

/-! ## STATS_RECORD_PUBLISH of a frame number of 17 bits -/

/-- The trigger record of frame 65536. -/
def wideRecord : TrigRecord := { num := 65536, frc := 5, line := 3, plan := 1, expNs := 500, band := 2, current := 9 }

/-- Frame 65536 of context 3, processed. -/
def wideFrame : CamFrame :=
  { id := 4, vc := 2, num := 65536, ctx := 3, fsFrc := 5, rec_ := some wideRecord,
    regs := [(Reg.ISPCTX_GEOMETRY 3, BitVec.ofNat 32 0x00020010)] }

/-- A module with a free record slot in region 58, in which that frame is ready. -/
def wideFrameDone : State :=
  { State.reset.wrs [(Reg.STATS_RING_SLOTS, 4), (Reg.YARD_REG_SIZE 58, 0x100), (Reg.ISP_OUT_MASK, 0)] with
    cam := { done := [(1, wideFrame)] } }

theorem State.rd_showRecords_of_ne {s : State} {k : Nat} (h : k ≠ Reg.INT_STATUS Reg.pageSTATS) :
    s.showRecords.rd k = s.rd k := by
  unfold State.showRecords
  dsimp only
  split
  next => exact State.rd_intSet_of_ne _ _ h
  next => rfl

/-- Of a frame with a trigger record and without an output slot, whose record finds room: its number in LAST_FRAME. -/
theorem execStatsRecordPublish_of_room {ctx : Fin 16} {port : Nat} {f : CamFrame} {r : TrigRecord} {s : State}
    (hdone : s.cam.done.find? (fun e => e.2.ctx == ctx.val) = some (port, f)) (hrec : f.rec_ = some r)
    (hroom : (s.rd Reg.STATS_WRITE_IDX + 1) % s.ringSlots ≠ s.rd Reg.STATS_READ_IDX_HOST) 
    (hscaler : (s.rd Reg.STATS_WRITE_IDX + 1) % s.ringSlots ≠ s.rd Reg.STATS_READ_IDX_SCALER)
    (hregion : s.inRegion 58 (s.recordAddr (s.rd Reg.STATS_WRITE_IDX)) 49152 = true)
    (hmask : s.bit Reg.ISP_OUT_MASK f.ctx = false) :
    ∃ v : State, exec (.statsRecordPublish ctx) s =
      .next (((v.wr (Reg.ISPCTX_LAST_FRAME ctx) (f.num + 0 * 65536)).intSet Reg.pageISPCTX_PORT 8).showRecords) := by
  have hout (c : CamUnit) : ({ s with cam := c } : State).writeOutput f = ({ s with cam := c }, none) := by
    unfold State.writeOutput
    dsimp only
    exact if_pos (.inr (by simp [show ({ s with cam := c } : State).bit Reg.ISP_OUT_MASK f.ctx = false from hmask]))
  unfold exec execStatsRecordPublish
  dsimp only
  rw [hdone]
  dsimp only
  rw [hrec]
  dsimp only
  rw [if_neg, hout]
  · exact ⟨_, rfl⟩
  · rintro (h | h | h)
    · exact hroom h
    · exact hscaler h.2
    · exact h hregion

theorem wideFrameDone_publish_lastFrame :
    ∃ u, exec (.statsRecordPublish 3) wideFrameDone = .next u ∧ u.rd (Reg.ISPCTX_LAST_FRAME 3) = 65536 := by
  obtain ⟨v, hv⟩ := execStatsRecordPublish_of_room (s := wideFrameDone) (ctx := 3) (port := 1) (f := wideFrame)
    (r := wideRecord) (by decide +kernel) rfl (by decide +kernel) (by decide +kernel) (by decide +kernel) (by decide +kernel)
  refine ⟨_, hv, ?_⟩
  rw [State.rd_showRecords_of_ne (by decide), State.rd_intSet_of_ne _ _ (by decide)]
  exact State.rd_wr_same ..

/-- Nothing of job memory is uncorrectable there. -/
theorem wideFrameDone_poisonedIn (a : Nat) : wideFrameDone.poisonedIn a 1 = false := by
  have hstate : ∀ d : Fin 6, (wideFrameDone.stCode (Reg.pageDRAM d) == 5) = false := by decide +kernel
  have hany : (List.range (min 6 ((a + 1 - 1) / 256 - a / 256 + 1))).any (fun i =>
      wideFrameDone.stCode (Reg.pageDRAM ((a / 256 + i) % 6)) == 5) = false :=
    List.any_eq_false.2 fun i _ => by simpa using hstate ⟨(a / 256 + i) % 6, Nat.mod_lt _ (by decide)⟩
  unfold State.poisonedIn
  rw [hany]
  rfl

/-- Refutes O30: LAST_FRAME keeps the whole number of a frame, of which the clause tells 16 bits. -/
theorem not_cameraFramesAndRecords : ¬ Obligations.CameraFramesAndRecords := by
  unfold Obligations.CameraFramesAndRecords
  rintro ⟨-, -, -, -, -, -, -, -, -, -, -, -, -, -, -, -, hpublish, -⟩
  obtain ⟨u, hu, -, -, -, -, -, hlast, -⟩ := hpublish 3 1 wideFrame wideRecord wideFrameDone (by decide +kernel)
    rfl (by decide +kernel) (.inr (by decide +kernel)) (by decide +kernel) (by decide +kernel)
    (wideFrameDone_poisonedIn _) (wideFrameDone_poisonedIn _)
  have hwhole : u.rd (Reg.ISPCTX_LAST_FRAME 3) = 65536 := next_spec wideFrameDone_publish_lastFrame hu
  exact absurd (hwhole.symm.trans hlast) (by decide)

end Sys2Proof.Machine
end

section
/-! A line of a stream whose tile became invalid. -/

namespace Sys2Proof.Machine

/-- The registers with which a line was admitted: plane 1 streams, its tiles in region 1 and its seals in region 2. -/
def streamRegs : State :=
  State.reset.wrs [(Reg.JOB_JOB_CFG, 0x02000201), (Reg.JOB_PSRC 1, 0x02010100), (Reg.JOB_REP_LENGTH 0, 64),
    (Reg.JOB_STREAM_ROWS, 4), (Reg.YARD_REG_ATTR 1, 1), (Reg.YARD_REG_SIZE 1, 0x1000), (Reg.YARD_REG_ATTR 2, 2),
    (Reg.YARD_REG_SIZE 2, 0x1000)]

/-- Line 5 in production on channel 16. -/
def streamLine : ProdLine :=
  { line := 5, admitFrc := 1, regs := streamRegs.regs, scr := {}, slots := [], splices := [], chans := [16] }

/-- A pair in which that line waits for its planes, no tile being valid. -/
def streamStarves : State :=
  { State.reset.wrs [(Reg.SYS_CONFIG, 1)] with line := { prod := [streamLine] } }

theorem streamStarves_contoneArrival_absent :
    nextHas (fun u => decide (u.rd (Reg.PLANE_ABSENT_LINES 1) ≠ satInc 32 (streamStarves.rd (Reg.PLANE_ABSENT_LINES 1))))
      (exec (.contoneArrival 5 1 [] []) streamStarves) = true := by
  decide +kernel

/-- Refutes O32: a line of a stream whose tile is invalid waits for the tile (R139), and is not sent ABSENT. -/
theorem not_screeningCommands : ¬ Obligations.ScreeningCommands := by
  unfold Obligations.ScreeningCommands
  rintro ⟨-, -, -, hfault, -⟩
  obtain ⟨u, hu, -, habsent, -⟩ := hfault 5 16 1 [] streamLine streamStarves (by decide +kernel) (by decide +kernel)
    (by decide +kernel) (by decide +kernel) (by decide +kernel) (by decide +kernel) (by decide +kernel)
  exact of_decide_eq_true (nextHas_spec streamStarves_contoneArrival_absent hu) habsent

end Sys2Proof.Machine
end

section
/-! Writes of job memory: the bytes are in memory, and the write buffers and the DRAM commands follow. -/

namespace Sys2Proof.Machine

section
variable {s t u : State}

theorem State.dramOnly_oldestWrite (d : Nat) : s.DramOnly (s.oldestWrite d) := by
  unfold State.oldestWrite
  split
  next => exact .refl s
  next w ws _ => exact (State.dramOnly_setDramCh _).trans (State.dramOnly_burst _ _ _ _)

theorem State.dramOnly_bufferWord (cls a : Nat) : s.DramOnly (s.bufferWord cls a) := by
  unfold State.bufferWord
  dsimp only
  split
  next => exact .refl s
  next =>
    split
    next => exact State.dramOnly_setDramCh _
    next =>
      split
      next => exact (State.dramOnly_setDramCh _).trans (State.dramOnly_oldestWrite _)
      next => exact State.dramOnly_setDramCh _

theorem State.dramOnly_foldl_bufferWord (cls : Nat) (ws : List Nat) :
    s.DramOnly (ws.foldl (fun s w => s.bufferWord cls (w * 8)) s) := by
  induction ws generalizing s with
  | nil => exact .refl s
  | cons w ws ih => exact (State.dramOnly_bufferWord _ _).trans ih

/-- The words that n bytes from a reach in part only. -/
def partWords (a n : Nat) : List Nat :=
  ((List.range ((a + n + 7) / 8 - a / 8)).map (a / 8 + ·)).filter
    (fun w => decide (w * 8 < a) || decide (a + n < w * 8 + 8))

/-- A write that no word which it reaches in part makes uncorrectable. -/
theorem State.dramOnly_dramWrite {a : Nat} {l : List Byte} (cls : Nat)
    (hpart : ∀ w ∈ partWords a l.length, s.poisonedIn (w * 8) 8 = false) :
    (s.memWrite a l).DramOnly (s.dramWrite cls a l) := by
  have htorn : (((List.range ((a + l.length + 7) / 8 - a / 8)).map (a / 8 + ·)).filter
      (fun w => (decide (w * 8 < a) || decide (a + l.length < w * 8 + 8)) && s.poisonedIn (w * 8) 8)) = [] := by
    rw [List.filter_eq_nil_iff]
    intro w hw hbad
    rw [Bool.and_eq_true] at hbad
    exact absurd ((hpart w (List.mem_filter.2 ⟨hw, hbad.1⟩)).symm.trans hbad.2) (by decide)
  unfold State.dramWrite
  dsimp only
  rw [htorn]
  exact State.dramOnly_foldl_bufferWord _ _

theorem partWords_of_aligned {a n : Nat} (ha : a % 8 = 0) (hn : n % 8 = 0) : partWords a n = [] := by
  unfold partWords
  rw [List.filter_eq_nil_iff]
  intro w hw
  obtain ⟨i, hi, rfl⟩ := List.mem_map.1 hw
  have := List.mem_range.1 hi
  simp only [Bool.or_eq_true, decide_eq_true_eq, not_or, not_lt]
  omega

theorem State.DramOnly.job_eq (h : s.DramOnly t) : t.job = s.job := h.agree .job (by simp)

theorem State.DramOnly.memByte_eq (h : s.DramOnly t) (a : Nat) : t.memByte a = s.memByte a := by
  unfold State.memByte
  rw [h.job_eq]

end
end Sys2Proof.Machine
end

section
/-! A tile whose seal block lies on it: the seals of its lines overwrite its first bytes. -/

namespace Sys2Proof.Machine

section
variable {s t : State} {q : Nat} {w : List Nat}

/-! ## What leaves the bytes of job memory alone -/

theorem State.atcHits_job (addr n : Nat) : (s.atcHits q addr n).job = s.job := by
  unfold State.atcHits
  split <;> rfl

theorem State.setQueue_mem (x : Queue) : (s.setQueue q x).job.mem = s.job.mem := rfl

theorem State.askTranslation_mem (addr : Nat) : (s.askTranslation q addr).job.mem = s.job.mem := by
  rw [State.askTranslation, State.emit_job, State.setQueue_mem, State.count_job]

theorem State.putRecord_mem (b : List Byte) : (s.putRecord q b).job.mem = s.job.mem := by
  unfold State.putRecord
  dsimp only
  split
  next => rw [State.askTranslation_mem, State.setQueue_mem]
  next => rw [State.intSet_job, State.wrB_job, State.emit_job, State.atcHits_job]

theorem State.writeRecordOf_mem (code : Nat) : (s.writeRecordOf q w code).job.mem = s.job.mem := by
  unfold State.writeRecordOf
  split
  next => rfl
  next => exact State.putRecord_mem _

theorem State.queueReady_mem : (s.queueReady q).job.mem = s.job.mem := by
  rw [State.queueReady, State.setQueueSt, State.wrF_job, State.setQueue]

/-- The state in which a descriptor has completed with a code, before its queue goes on. -/
def State.descDone (s : State) (q : Nat) (w : List Nat) (code : Nat) : State :=
  let s := if code ≠ 0 then s.errHw Reg.pageYARD code else s
  let s := (s.wr (Reg.YARD_Q_HEAD q) ((s.queueHead q + 1) % 2 ^ s.queueSize q)).count (Reg.YARD_Q_DONE q)
  let s := s.wrF (Reg.YARD_Q_STATUS q) 31 16 code
  if dLast w && dKind w == 1 && s.streaming && (code == 0 || code == 0x010A)
    then s.wr Reg.JOB_STREAM_LAST_ROW (s.tileOf w (dCount w - 1)).1 else s

theorem State.errHw_job (page code : Nat) : (s.errHw page code).job = s.job :=
  ((State.agree_errHw (s := s) (t := s) (ps := []) page code).2 (.refl s)) .job (by simp)

theorem State.descDone_job (code : Nat) : (s.descDone q w code).job = s.job := by
  unfold State.descDone
  dsimp only
  split <;> split <;> simp only [State.wr_job, State.wrF_job, State.count_job, State.errHw_job]

theorem State.completeDesc_mem (code : Nat) : (s.completeDesc q w code).job.mem = s.job.mem :=
  calc
    _ = ((s.descDone q w code).queueReady q).job.mem := State.writeRecordOf_mem code
    _ = (s.descDone q w code).job.mem := State.queueReady_mem
    _ = s.job.mem := by rw [State.descDone_job]

/-! ## The writing of a tile -/

theorem State.advanceWrite_job (n : Nat) : (s.advanceWrite n).job = s.job := by
  induction n generalizing s with
  | zero => rfl
  | succ n ih =>
    unfold State.advanceWrite
    dsimp only
    split
    next => rw [ih, State.wr_job]
    next => rfl

theorem State.showCredits_mem : s.showCredits.job.mem = s.job.mem := by
  unfold State.showCredits
  dsimp only
  split <;> split <;> simp only [State.intSet_job, State.wr_job]

theorem State.rowsLose_mem : s.rowsLose.job.mem = s.job.mem := by
  unfold State.rowsLose State.rescanRows
  split
  next =>
    dsimp only
    rw [State.showCredits_mem, State.advanceWrite_job, State.wr_job, State.wr_job]
  next => rfl

theorem State.setTile_mem (k : Nat) (d : Option Nat) : (s.setTile k d).job.mem = s.job.mem := rfl

theorem State.loseTile_mem (k : Nat) : (s.loseTile k).job.mem = s.job.mem := by
  unfold State.loseTile
  split
  next => rw [State.rowsLose_mem, State.setTile_mem]
  next => rfl

theorem State.compareDigest_mem (p row col : Nat) : (s.compareDigest p row col).job.mem = s.job.mem := by
  unfold State.compareDigest
  dsimp only
  split
  next =>
    split
    next => rfl
    next =>
      rw [State.rowsLose_mem, State.intSet_job, State.wr_job, State.wr_job, State.count_job, State.setTile_mem]
  next => rfl

theorem State.tileBecomesValid_mem (p row col : Nat) (hpair : s.pairMode = false) :
    (s.tileBecomesValid p row col).job.mem = s.job.mem := by
  have hsend (u : State) (d : Nat) (hu : u.pairMode = false) : u.sendDigest p row col d = u := by
    unfold State.sendDigest
    rw [hu]
    rfl
  unfold State.tileBecomesValid
  dsimp only
  rw [hsend (s.setTile _ _) _ hpair]
  split
  next => rw [State.showCredits_mem, State.advanceWrite_job, State.compareDigest_mem, State.setTile_mem]
  next => rw [State.compareDigest_mem, State.setTile_mem]

theorem State.moveBytes_mem (n : Nat) (into : Bool) : (s.moveBytes q n into).job.mem = s.job.mem := by
  unfold State.moveBytes
  dsimp only
  split <;> rw [State.setQueue_mem, State.wr64_job]

theorem State.DramOnly.mem_eq {a : Nat} {l : List Byte} (h : (s.memWrite a l).DramOnly t) :
    t.job.mem = memPut s.job.mem a l := by
  rw [h.job_eq, State.memWrite]

theorem State.computeSeals_length (a : Nat) : (s.computeSeals a).length = 256 := by
  have hlen : ∀ l ∈ List.range 64, (leBytes 4 (crc32c (s.memBytes (a + 2048 * l) 2048))).length = 4 := fun _ _ => rfl
  rw [State.computeSeals, List.length_flatMap, List.map_congr_left hlen]
  rfl

theorem State.sealTile_of_computed (p row col : Nat) : s.sealTile q p row col none =
    (s.dramWrite 3 (s.sealAddr p row col) (s.computeSeals (s.tileAddr p row col))).tileBecomesValid p row col := by
  unfold State.sealTile
  exact if_pos rfl

theorem State.pairMode_memWrite (a : Nat) (l : List Byte) : (s.memWrite a l).pairMode = s.pairMode := rfl

/-- The bytes of the seal block that a tile at 0 gets, lying in the block at 0 too. -/
theorem State.sealTile_mem {p row col : Nat} (hpair : s.pairMode = false) (hseal : s.sealAddr p row col = 0) :
    (s.sealTile q p row col none).job.mem = memPut s.job.mem 0 (s.computeSeals (s.tileAddr p row col)) := by
  have hwhole : partWords 0 (s.computeSeals (s.tileAddr p row col)).length = [] := by
    rw [State.computeSeals_length]
    exact partWords_of_aligned rfl rfl
  have hwrite := State.dramOnly_dramWrite (s := s) (a := 0) (l := s.computeSeals (s.tileAddr p row col)) 3
    (by rw [hwhole]; exact List.forall_mem_nil _)
  rw [State.sealTile_of_computed, hseal, State.tileBecomesValid_mem]
  · exact hwrite.mem_eq
  · exact (State.bit_of_rd_eq (hwrite.rd_eq _)).trans ((State.pairMode_memWrite ..).trans hpair)

/-! ## The one tile of a descriptor -/

/-- The queue goes on with its descriptor. -/
def State.resumed (s : State) (q : Nat) : State :=
  (s.setQueue q { s.queue q with wait := .none, record := none }).setQueueSt q 1

theorem State.goOn_of_words {h seals : HostData} (hrecord : (s.queue q).record = none) (hwords : (s.queue q).words = some w)
    (hrank : (s.resumed q).outranked q = false) (hpasid : (s.resumed q).pasidOff q = false) :
    s.goOn q h seals = (s.resumed q).moveTurn q w h seals := by
  unfold State.resumed at hrank hpasid ⊢
  unfold State.goOn
  dsimp only at hrank hpasid ⊢
  rw [hwords] at hrank hpasid ⊢
  rw [hrecord]
  dsimp only
  rw [if_neg, if_neg]
  · exact fun hoff => absurd (hpasid.symm.trans hoff) (by decide)
  · exact fun hout => absurd (hrank.symm.trans hout) (by decide)

theorem State.moveTurn_of_alone {h seals : HostData} (halone : ((s.newRound q).rivals q).isEmpty = true) (htile : dKind w = 1) :
    s.moveTurn q w h seals = (s.newRound q).moveTile q w h seals none := by
  have hturn : (s.newRound q).turnBytes q (dSrc w + ((s.newRound q).queue q).moved) = none := if_pos halone
  unfold State.moveTurn
  dsimp only
  rw [hturn]
  exact if_pos htile

theorem State.fetch_all {addr need : Nat} {b : List Byte} (hats : s.useAts q = false) (hb : b.length = need) :
    s.fetch q addr need (.ok b) = (b, .more) := by
  unfold State.fetch
  dsimp only
  rw [if_pos (by rw [hats]; rfl), if_pos (.inl rfl), List.take_of_length_le hb.le]

theorem State.moveTile_of_one {b : List Byte} {seals : HostData} (hmoved : (s.queue q).moved = 0) (hcount : dCount w = 1)
    (hseal : dSealIn w = false) (hats : s.useAts q = false) (hb : b.length = tileBytes) :
    s.moveTile q w (.ok b) seals none = s.moveTiles q w b [] .more .more 1 := by
  unfold State.moveTile
  dsimp only
  rw [hmoved, hcount, hseal, cutHost, State.fetch_all hats (hb.trans (by decide))]
  rfl

/-- The bytes of tile k are in job memory at a. -/
def State.tileMoved (s : State) (q k a : Nat) (b : List Byte) : State :=
  ((s.loseTile k).dramWrite 3 a b).moveBytes q tileBytes true

theorem State.moveTiles_of_one {b : List Byte} (hmoved : (s.queue q).moved = 0) (hcount : dCount w = 1)
    (hseal : dSealIn w = false) (hats : s.useAts q = false) (hb : b.length = tileBytes)
    (hfree : s.tileWait q (dPlane w) (s.tileOf w 0).1 (s.tileOf w 0).2 = none) :
    ∃ n code, s.moveTiles q w b [] .more .more 1 =
      (((s.useShare q n).tileMoved q (tileKey (dPlane w) (s.tileOf w 0).1 (s.tileOf w 0).2)
        ((s.useShare q n).tileAddr (dPlane w) (s.tileOf w 0).1 (s.tileOf w 0).2 + 0) b).sealTile q (dPlane w)
        (s.tileOf w 0).1 (s.tileOf w 0).2 none).completeDesc q w code := by
  have hnext : dCount w - (0 + 1) = 0 := by rw [hcount]
  have hempty : b.isEmpty = false := by
    cases b with
    | nil => exact absurd hb (by decide)
    | cons x xs => rfl
  have hats' (addr n : Nat) : s.atcHits q addr n = s := by
    unfold State.atcHits
    rw [hats]
    rfl
  have htake : b.take tileBytes = b := List.take_of_length_le hb.le
  unfold State.moveTiles
  dsimp only
  rw [hnext, hmoved, Nat.zero_mod, if_pos rfl, hfree]
  dsimp only
  rw [hseal, Bool.false_and, if_neg Bool.false_ne_true, Nat.sub_zero, htake, hats', hempty, if_neg Bool.false_ne_true,
    if_neg (by rw [hb]; exact lt_irrefl _), if_neg Bool.false_ne_true, if_neg Bool.false_ne_true]
  rw [Nat.mul_zero, hb]
  unfold State.moveTiles State.tileMoved
  exact ⟨_, _, rfl⟩

/-- The first seal byte of the last line of a tile. -/
theorem State.computeSeals_lastLine (a : Nat) :
    (s.computeSeals a).getD 252 0 = (leBytes 4 (crc32c (s.memBytes (a + 2048 * 63) 2048))).getD 0 0 := by
  have hlen : ∀ l ∈ List.range 63, (leBytes 4 (crc32c (s.memBytes (a + 2048 * l) 2048))).length = 4 := fun _ _ => rfl
  have hprefix : ((List.range 63).flatMap fun l => leBytes 4 (crc32c (s.memBytes (a + 2048 * l) 2048))).length = 252 := by
    rw [List.length_flatMap, List.map_congr_left hlen]
    rfl
  rw [State.computeSeals, List.range_succ, List.flatMap_append, List.getD_append_right _ _ _ _ hprefix.le, hprefix,
    List.flatMap_cons, List.flatMap_nil, List.append_nil]

theorem State.rd_setQueue (x : Queue) (k : Nat) : (s.setQueue q x).rd k = s.rd k := rfl

theorem State.rd_bytesIn (n : Nat) (k : Nat) : ({ s with job := { s.job with bytesIn := n } } : State).rd k = s.rd k := rfl

theorem State.rd_moveBytes_of_ne {k : Nat} (n : Nat) (into : Bool) (hlo : k ≠ Reg.YARD_BYTES_LO) (hhi : k ≠ Reg.YARD_BYTES_HI) :
    (s.moveBytes q n into).rd k = s.rd k := by
  unfold State.moveBytes
  dsimp only
  split
  · rw [State.rd_bytesIn, State.rd_setQueue, State.wr64, State.rd_wr_of_ne _ _ hhi, State.rd_wr_of_ne _ _ hlo]
  · rw [State.rd_setQueue, State.wr64, State.rd_wr_of_ne _ _ hhi, State.rd_wr_of_ne _ _ hlo]

/-- A state whose registers differ in the count of bytes moved at most. -/
def State.SameButBytes (s t : State) : Prop := ∀ k, k ≠ Reg.YARD_BYTES_LO → k ≠ Reg.YARD_BYTES_HI → t.rd k = s.rd k

theorem State.SameButBytes.pairMode_eq (h : s.SameButBytes t) : t.pairMode = s.pairMode :=
  State.bit_of_rd_eq (h _ (by decide) (by decide))

theorem State.SameButBytes.regionRow_eq (h : s.SameButBytes t) (row : Nat) : t.regionRow row = s.regionRow row := by
  have hstream : t.streaming = s.streaming := State.bit_of_rd_eq (h _ (by decide) (by decide))
  have hrows : t.streamRows = s.streamRows := State.rdF_of_rd_eq (h _ (by decide) (by decide))
  rw [State.regionRow, State.regionRow, hstream, hrows]

theorem State.SameButBytes.tileCols_eq (h : s.SameButBytes t) : t.tileCols 0 = s.tileCols 0 :=
  State.rdF_of_rd_eq (h _ (by decide) (by decide))

theorem State.SameButBytes.sealAddr_eq (h : s.SameButBytes t) (hregion : s.sealRegion 0 = 0) (row col : Nat) :
    t.sealAddr 0 row col = s.sealAddr 0 row col := by
  have hregion' : t.sealRegion 0 = 0 := (State.rdF_of_rd_eq (h _ (by decide) (by decide))).trans hregion
  rw [State.sealAddr, State.sealAddr, hregion, hregion', h _ (by decide) (by decide), h.regionRow_eq, h.tileCols_eq]

theorem State.SameButBytes.tileAddr_eq (h : s.SameButBytes t) (hregion : s.tileRegion 0 = 0) (row col : Nat) :
    t.tileAddr 0 row col = s.tileAddr 0 row col := by
  have hregion' : t.tileRegion 0 = 0 := (State.rdF_of_rd_eq (h _ (by decide) (by decide))).trans hregion
  rw [State.tileAddr, State.tileAddr, hregion, hregion', h _ (by decide) (by decide), h.regionRow_eq, h.tileCols_eq]

theorem State.tileMoved_facts {k : Nat} {b : List Byte} (hnone : (s.tileDigest k).isSome = false) (hb : b.length = tileBytes) :
    s.SameButBytes (s.tileMoved q k 0 b) ∧ (s.tileMoved q k 0 b).job.mem = memPut s.job.mem 0 b := by
  have hlose : s.loseTile k = s.setTile k none := if_neg (by rw [hnone]; decide)
  have hwhole : partWords 0 b.length = [] := by
    rw [hb]
    exact partWords_of_aligned rfl rfl
  have hwrite := State.dramOnly_dramWrite (s := s.setTile k none) (a := 0) (l := b) 3
    (by rw [hwhole]; exact List.forall_mem_nil _)
  rw [State.tileMoved, hlose]
  refine ⟨fun k hlo hhi => ?_, ?_⟩
  · rw [State.rd_moveBytes_of_ne _ _ hlo hhi]
    exact hwrite.rd_eq k
  · rw [State.moveBytes_mem, hwrite.mem_eq, State.setTile_mem]

end

/-! ## A tile at 0 with its seal block at 0 -/

/-- A TILE descriptor of one tile of plane 0. -/
def tileWords : List Nat := [1, 0, 0, 0, 0, 1, 0, 0]

/-- Queue 2 waits for credit with it; the plane has no regions, so that the tile and its seals lie at 0 both. -/
def tileQueue : State :=
  { State.reset.wrs [(Reg.YARD_Q_STATUS 2, 2), (Reg.YARD_Q_CFG 2, 1025), (Reg.YARD_Q_TAIL 2, 1)] with
    job := { queues := [(2, { words := some tileWords, wait := .credit })] } }

/-- The queue as it begins to move the tile. -/
def tileQueueReady : State := (tileQueue.resumed 2).newRound 2

theorem tileQueue_resume {b : List Byte} (hb : b.length = tileBytes) :
    ∃ n code, exec (.streamCreditResume 2 (.ok b) .miss) tileQueue =
      .next ((((tileQueueReady.useShare 2 n).tileMoved 2 0 0 b).sealTile 2 0 0 0 none).completeDesc 2 tileWords code) := by
  obtain ⟨n, code, hmove⟩ := State.moveTiles_of_one (s := tileQueueReady) (q := 2) (w := tileWords) (by decide +kernel)
    (by decide +kernel) (by decide +kernel) (by decide +kernel) hb (by decide +kernel)
  have hplane : dPlane tileWords = 0 := by decide +kernel
  have hat : tileQueueReady.tileOf tileWords 0 = (0, 0) := by decide +kernel
  have hkey : tileKey 0 0 0 = 0 := by decide +kernel
  have haddr : (tileQueueReady.useShare 2 n).tileAddr 0 0 0 = 0 :=
    (State.SameButBytes.tileAddr_eq (s := tileQueueReady) (fun _ _ _ => rfl) (by decide +kernel) 0 0).trans
      (by decide +kernel)
  refine ⟨n, code, ?_⟩
  rw [hplane, hat] at hmove
  dsimp only at hmove
  rw [hkey, haddr, Nat.add_zero] at hmove
  calc
    _ = Host.Outcome.next (tileQueue.goOn 2 (.ok b) .miss) := by
      unfold exec execStreamCreditResume
      exact if_pos (by decide +kernel)
    _ = _ := by
      rw [State.goOn_of_words (w := tileWords) (by decide +kernel) (by decide +kernel) (by decide +kernel)
          (by decide +kernel),
        State.moveTurn_of_alone (by decide +kernel) (by decide +kernel)]
      change Host.Outcome.next (tileQueueReady.moveTile _ _ _ _ _) = _
      rw [State.moveTile_of_one (by decide +kernel) (by decide +kernel) (by decide +kernel) (by decide +kernel) hb, hmove]

/-- The byte of the last line's CRC that lies on byte 252 of the tile. -/
theorem tileQueue_memByte {b : List Byte} (hb : b.length = tileBytes) :
    ∃ u : State, exec (.streamCreditResume 2 (.ok b) .miss) tileQueue = .next u ∧
      u.memByte 252 = (leBytes 4 (crc32c ((List.range 2048).map fun i => b.getD (2048 * 63 + i) 0))).getD 0 0 := by
  obtain ⟨n, code, hexec⟩ := tileQueue_resume hb
  have hnone : (tileQueueReady.tileDigest 0).isSome = false := by decide +kernel
  obtain ⟨hregs, hmem⟩ := State.tileMoved_facts (s := tileQueueReady.useShare 2 n) (q := 2) (k := 0) hnone hb
  have hregs' : tileQueueReady.SameButBytes ((tileQueueReady.useShare 2 n).tileMoved 2 0 0 b) := hregs
  refine ⟨_, hexec, ?_⟩
  have hseal := State.sealTile_mem (s := (tileQueueReady.useShare 2 n).tileMoved 2 0 0 b) (q := 2) (p := 0) (row := 0)
    (col := 0) (hregs'.pairMode_eq.trans (by decide +kernel))
    ((hregs'.sealAddr_eq (by decide +kernel) 0 0).trans (by decide +kernel))
  have htile : ((tileQueueReady.useShare 2 n).tileMoved 2 0 0 b).tileAddr 0 0 0 = 0 :=
    (hregs'.tileAddr_eq (by decide +kernel) 0 0).trans (by decide +kernel)
  have hline : ((tileQueueReady.useShare 2 n).tileMoved 2 0 0 b).memBytes (0 + 2048 * 63) 2048 =
      (List.range 2048).map fun i => b.getD (2048 * 63 + i) 0 := by
    refine List.map_congr_left fun i hi => ?_
    have hi := List.mem_range.1 hi
    rw [State.memByte, hmem, smGet_memPut, if_pos ⟨Nat.zero_le _, by rw [hb, tileBytes]; omega⟩, Nat.sub_zero, Nat.zero_add]
  rw [State.memByte, State.completeDesc_mem, hseal, smGet_memPut, State.computeSeals_length,
    if_pos ⟨Nat.zero_le _, by decide⟩, htile, Nat.sub_zero, State.computeSeals_lastLine, hline]

theorem memBytes_getD {s : State} {a n i : Nat} (h : i < n) : (s.memBytes a n).getD i 0 = s.memByte (a + i) := by
  simp [State.memBytes, List.getD_eq_getElem?_getD, h]

/-- A tile of zeros, and one with a single other byte in its first line. -/
def zeroTile : List Byte := List.replicate tileBytes 0
def markedTile : List Byte := zeroTile.set 252 1

/-- Refutes O55: nothing keeps the seal block of a tile apart from the tile. -/
theorem not_descriptorCommands : ¬ Obligations.DescriptorCommands := by
  unfold Obligations.DescriptorCommands
  rintro ⟨-, -, -, -, -, -, -, -, -, -, -, -, -, -, -, -, -, -, -, htile, -⟩
  have hread {b : List Byte} (hb : b.length = tileBytes) :
      (leBytes 4 (crc32c ((List.range 2048).map fun i => b.getD (2048 * 63 + i) 0))).getD 0 0 = b.getD 252 0 := by
    obtain ⟨u, hu, -, -, -, -, -, -, -, hbytes, -⟩ := htile 2 tileWords b tileQueue hb (by decide +kernel)
      (by decide +kernel) (by decide +kernel) (by decide +kernel) (by decide +kernel) (by decide +kernel)
      (by decide +kernel) (by decide +kernel) (by decide +kernel) (by decide +kernel) (by decide +kernel)
      (by decide +kernel) (by decide +kernel) (by decide +kernel) (by decide +kernel) (by decide +kernel)
    have hseal : u.memByte 252 = _ := next_spec (tileQueue_memByte hb) hu
    have haddr : tileQueue.tileAddr (dPlane tileWords) (tileQueue.tileOf tileWords 0).1
      (tileQueue.tileOf tileWords 0).2 = 0 := by decide +kernel
    rw [haddr] at hbytes
    rw [← hseal, ← Nat.zero_add 252, ← memBytes_getD (n := tileBytes) (by decide), hbytes, Nat.zero_add]
  have hzero := hread (b := zeroTile) List.length_replicate
  have hmarked := hread (b := markedTile) (List.length_set.trans List.length_replicate)
  have hsame : ((List.range 2048).map fun i => markedTile.getD (2048 * 63 + i) 0) =
      (List.range 2048).map fun i => zeroTile.getD (2048 * 63 + i) 0 := by
    refine List.map_congr_left fun i _ => ?_
    rw [List.getD_eq_getElem?_getD, List.getD_eq_getElem?_getD, markedTile, List.getElem?_set_ne (by omega)]
  have hone : markedTile.getD 252 0 = 1 := by
    rw [List.getD_eq_getElem?_getD, markedTile,
      List.getElem?_set_self (by rw [zeroTile, List.length_replicate]; decide)]
    rfl
  have hnull : zeroTile.getD 252 0 = 0 := by
    rw [List.getD_eq_getElem?_getD, zeroTile, List.getElem?_replicate_of_lt (by decide)]
    rfl
  rw [hsame, hzero, hone, hnull] at hmarked
  exact absurd hmarked (by decide)

end Sys2Proof.Machine
end

section
/-! Predictions and rates in a ring: what is sent to the neighbours, and the ticks that a prediction schedules. -/

namespace Sys2Proof.Machine

section
variable {s t : State}

/-! ## Blocks to the neighbours -/

theorem State.sendTime_of_up {p : Nat} (kind : Nat) (fields : List Nat) (hup : s.peerUp p = true) :
    s.sendTime p kind fields = s.emit (.peerBlock p kind fields) := if_pos hup

theorem State.sendRing_of_up (kind : Nat) (fields : List Nat) (hwest : s.peerUp 0 = true) (heast : s.peerUp 1 = true) :
    s.sendRing kind fields =
      { s with out := s.out ++ [Out.peerBlock 0 kind fields, Out.peerBlock 1 kind fields] } := by
  rw [State.sendRing, State.sendTime_of_up kind fields hwest]
  exact (State.sendTime_of_up (s := s.emit _) kind fields heast).trans
    (congrArg (fun l => { s with out := l }) (List.append_assoc _ _ _))

theorem State.foldl_sendTime_of_up {p : Nat} (kind : Nat) (f : Nat → List Nat) (rs : List Nat) (hup : s.peerUp p = true) :
    rs.foldl (fun s r => s.sendTime p kind (f r)) s =
      { s with out := s.out ++ rs.map (fun r => Out.peerBlock p kind (f r)) } := by
  induction rs generalizing s with
  | nil => exact congrArg (fun l => { s with out := l }) (List.append_nil _).symm
  | cons r rs ih =>
    rw [List.foldl_cons, State.sendTime_of_up kind (f r) hup, ih (s := s.emit _) hup]
    exact congrArg (fun l => { s with out := l }) (List.append_assoc _ _ _)

/-! ## The instants of a source -/

/-- A line that passes changes the line engine's own state alone. -/
theorem State.sourceLine_eq (f : Nat) : s.sourceLine f = { s with line := (s.sourceLine f).line } := by
  unfold State.sourceLine State.slipLine
  split <;> split <;> (try split) <;> rfl

theorem State.los_congr (e : Nat) (hrd : ∀ k, k / 0x1000 = Reg.pageENC → t.rd k = s.rd k) : t.los e = s.los e := by
  have hcfg : encCfg e / 0x1000 = Reg.pageENC := by
    unfold encCfg
    split <;> rfl
  have hon : t.encOn e = s.encOn e := State.bit_of_rd_eq (hrd _ hcfg)
  rw [State.los, State.los, hon, State.bit_of_rd_eq (hrd Reg.ENC_ENC_STATUS rfl)]

/-- What a line that passes does depends on the ENC page and the line engine's own state. -/
theorem State.sourceLine_line_congr (f : Nat) (hline : t.line = s.line)
    (hrd : ∀ k, k / 0x1000 = Reg.pageENC → t.rd k = s.rd k) : (t.sourceLine f).line = (s.sourceLine f).line := by
  have hsource : t.sourceInUse = s.sourceInUse := by
    rw [State.sourceInUse, State.sourceInUse, State.rdF_of_rd_eq (hrd Reg.ENC_SOURCE rfl), hline]
  have hslip (u v : State) (h : v.line = u.line) (hr : ∀ k, k / 0x1000 = Reg.pageENC → v.rd k = u.rd k) :
      v.slipLine.line = u.slipLine.line := by
    unfold State.slipLine
    rw [State.los_congr 0 hr, State.los_congr 1 hr, State.rdF_of_rd_eq (hr Reg.ENC_SLIP_CFG rfl), h]
    split
    · exact h
    · split <;> simp only [State.modLine, h]
  rw [State.sourceLine, State.sourceLine, hsource]
  split
  · exact hslip _ _ (by simp only [State.modLine, hline]) hrd
  · exact hslip _ _ hline hrd

theorem State.sourceLine_due (f : Nat) : (s.sourceLine f).line.due = s.line.due := by
  unfold State.sourceLine State.slipLine
  split <;> split <;> (try split) <;> rfl

theorem State.sourceLine_lastSource (f : Nat) : (s.sourceLine f).line.lastSource = s.line.lastSource := by
  unfold State.sourceLine State.slipLine
  split <;> split <;> (try split) <;> rfl

/-- The first instant of a source waits for its tick, no other being due. -/
theorem State.sourceInstant_of_first (f : Nat) (hdue : s.line.due = []) (hlast : s.line.lastSource = none) :
    s.sourceInstant f = { s with line := { s.line with due := [f] } } := by
  unfold State.sourceInstant
  rw [hdue, hlast]
  dsimp only [List.getLast?_nil]
  rw [if_neg (lt_irrefl _), if_neg]
  · rw [State.modLine, hdue]
    rfl
  · rw [State.modLine, hdue]
    simp

theorem State.ringInstant_of_first (f : Nat) (hdue : s.line.due = []) (hlast : s.line.lastSource = none) :
    s.ringInstant f = { s with line := { (s.sourceLine f).line with due := [f] } } := by
  rw [State.ringInstant, State.sourceInstant_of_first f ((State.sourceLine_due f).trans hdue)
    ((State.sourceLine_lastSource f).trans hlast)]
  rw [State.sourceLine_eq]

/-! ## LINE_PREDICTION -/

theorem State.predictLine_of_two {n a b : Nat} (hmarks : s.ring.marks = [a, b]) : s.predictLine n =
    some (unsgn 80 ((s.ringTime a : Int) + ldiff n s.ring.pos * sdiff 80 (s.ringTime a) (s.ringTime b))) := by
  unfold State.predictLine
  rw [hmarks]
  exact congrArg (fun x : Int => some (unsgn 80 ((s.ringTime a : Int) + x))) (Int.fdiv_one _)

theorem State.predictLine_of_few {n : Nat} (hmarks : s.ring.marks.length < 2) : s.predictLine n = none := by
  unfold State.predictLine
  match hm : s.ring.marks with
  | [] => rfl
  | [a] => rfl
  | a :: b :: l =>
    rw [hm] at hmarks
    exact absurd hmarks (by simp)

theorem execLinePrediction_of_ahead {r f : Nat} (hruns : s.ringRuns = true) (hroot : s.isRoot = true)
    (hpredict : (s.till f).predictLine (s.till f).nextPrediction = some r)
    (hnear : sdiff 80 r ((s.till f).ringTime (s.till f).frc) ≤ (s.rd Reg.RING_TL * 65536 : Nat))
    (hwest : s.peerUp 0 = true) (heast : s.peerUp 1 = true) (hdue : s.line.due = []) (hlast : s.line.lastSource = none) :
    exec (.linePrediction f) s = .next { s with
      frc := (s.till f).frc
      ring := { s.ring with
        preds := (((s.till f).nextPrediction, r) :: s.ring.preds).take 2
        held := 0, ahead := s.ring.ahead.filter (·.1 != (s.till f).nextPrediction) }
      out := s.out ++ [Out.peerBlock 0 0x03 [(s.till f).nextPrediction, r], Out.peerBlock 1 0x03 [(s.till f).nextPrediction, r]]
      line := { s.line with due := [s.frcOfRing r] } } := by
  have hgo : ((s.till f).ringRuns && (s.till f).isRoot &&
      decide (sdiff 80 r ((s.till f).ringTime (s.till f).frc) ≤ ((s.till f).rd Reg.RING_TL * 65536 : Nat))) = true := by
    rw [Bool.and_eq_true, Bool.and_eq_true, decide_eq_true_iff]
    exact ⟨⟨hruns, hroot⟩, hnear⟩
  unfold exec execLinePrediction
  dsimp only
  rw [hpredict]
  dsimp only
  rw [if_pos hgo, State.sendRing_of_up (s := (s.till f).takePrediction (s.till f).nextPrediction r 0) _ _ hwest heast]
  exact congrArg Host.Outcome.next (State.sourceInstant_of_first _ hdue hlast)

theorem execLinePrediction_of_none {f : Nat}
    (h : ∀ r, (s.till f).predictLine (s.till f).nextPrediction = some r → s.ringRuns = true → s.isRoot = true →
      (s.rd Reg.RING_TL * 65536 : Nat) < sdiff 80 r ((s.till f).ringTime (s.till f).frc)) :
    exec (.linePrediction f) s = .next (s.till f) := by
  unfold exec execLinePrediction
  dsimp only
  split
  next r hr =>
    refine if_neg fun hgo => ?_
    rw [Bool.and_eq_true, Bool.and_eq_true, decide_eq_true_iff] at hgo
    obtain ⟨⟨hruns, hroot⟩, hnear⟩ := hgo
    exact absurd hnear (not_le_of_gt (h r hr hruns hroot))
  next => rfl

/-! ## LINE_TIME and PRED_HOLD -/

/-- The ring once a prediction has been taken. -/
def RingUnit.predicted (u : RingUnit) (line ringTime held : Nat) : RingUnit :=
  { u with preds := ((line, ringTime) :: u.preds).take 2, held := held, ahead := u.ahead.filter (·.1 != line) }

theorem State.lineAt_of_early {line rt : Nat} (hbase : s.ring.base.isSome = true) (hdue : s.line.due = [])
    (hlast : s.line.lastSource = none) (hearly : 1600 ≤ sdiff 64 (s.frcOfRing rt) s.frc) :
    s.lineAt line rt = { s with
      ring := s.ring.predicted line rt 0
      line := { (s.sourceLine (s.frcOfRing rt)).line with due := [s.frcOfRing rt] } } := by
  have hnone : ¬ s.ring.base.isNone = true := by
    rw [Option.isNone_iff_eq_none]
    exact Option.isSome_iff_ne_none.1 hbase
  unfold State.lineAt
  dsimp only
  rw [if_neg hnone]
  refine (if_neg (not_lt.2 hearly)).trans ((State.ringInstant_of_first (s := s.takePrediction line rt 0) _ hdue hlast).trans ?_)
  rw [State.sourceLine_line_congr (s := s) (t := s.takePrediction line rt 0) _ rfl (fun _ _ => rfl)]
  rfl

/-- A prediction that comes late is counted. -/
def State.predLate (s : State) : State := (s.count Reg.RING_PRED_LATE).intSet Reg.pageRING 10

theorem State.lineAt_of_late {line rt : Nat} (hbase : s.ring.base.isSome = true) (hdue : s.line.due = [])
    (hlast : s.line.lastSource = none) (hlate : sdiff 64 (s.frcOfRing rt) s.frc < 1600) :
    s.lineAt line rt = { s.predLate with
      ring := s.ring.predicted line rt 0
      line := { (s.sourceLine s.frc).line with due := [s.frc] } } := by
  have hnone : ¬ s.ring.base.isNone = true := by
    rw [Option.isNone_iff_eq_none]
    exact Option.isSome_iff_ne_none.1 hbase
  have hrd (k : Nat) (hk : k / 0x1000 = Reg.pageENC) : (s.takePrediction line rt 0).predLate.rd k = s.rd k := by
    rw [State.predLate, State.rd_intSet_of_ne _ _ (by rintro rfl; exact absurd hk (by decide)),
      State.rd_count_of_ne _ (by rintro rfl; exact absurd hk (by decide))]
    rfl
  unfold State.lineAt
  dsimp only
  rw [if_neg hnone]
  refine (if_pos hlate).trans
    ((State.ringInstant_of_first (s := (s.takePrediction line rt 0).predLate) _ hdue hlast).trans ?_)
  rw [State.sourceLine_line_congr (s := s) (t := (s.takePrediction line rt 0).predLate) _ rfl hrd]
  rfl

/-- A copy that is passed on: LINE_TIME out of both ports. -/
def lineTimeBlocks (line rt : Nat) : List Out := [Out.peerBlock 0 0x03 [line, rt], Out.peerBlock 1 0x03 [line, rt]]

/-- The state in which a LINE_TIME of instant f is looked at, once passed on. -/
def State.passedOn (s : State) (line rt f : Nat) : State :=
  { s with frc := (s.till f).frc, out := s.out ++ lineTimeBlocks line rt }

theorem execLineTime_of_new {line rt f : Nat} (hring : s.ringMode = true) (hroot : s.isRoot = false)
    (hsource : s.sourceInUse = 5) (hnew : s.newLine line = true) (hwest : s.peerUp 0 = true) (heast : s.peerUp 1 = true) :
    exec (.lineTime line rt f) s = if s.dueLine line
      then .next (((s.passedOn line rt f).lineAt line rt).lineFollows s.ring.ahead.length)
      else .next ((s.passedOn line rt f).modRing (fun u => { u with ahead := u.ahead ++ [(line, rt)] })) := by
  have hgo : ¬ (!(s.till f).ringMode || (s.till f).isRoot || (s.till f).sourceInUse != 5 || !(s.till f).newLine line) = true := by
    change ¬ (!s.ringMode || s.isRoot || s.sourceInUse != 5 || !s.newLine line) = true
    rw [hring, hroot, hsource, hnew]
    decide
  unfold exec execLineTime
  dsimp only
  rw [if_neg hgo, State.sendRing_of_up (s := s.till f) _ _ hwest heast]
  rfl

/-- The line that comes next, and the prediction after it has not come yet. -/
theorem execLineTime_of_next {line rt f : Nat} (hring : s.ringMode = true) (hroot : s.isRoot = false)
    (hsource : s.sourceInUse = 5) (hnew : s.newLine line = true) (hwest : s.peerUp 0 = true) (heast : s.peerUp 1 = true)
    (hnext : s.dueLine line = true) (hahead : s.ring.ahead = []) :
    exec (.lineTime line rt f) s = .next ((s.passedOn line rt f).lineAt line rt) := by
  rw [execLineTime_of_new hring hroot hsource hnew hwest heast, if_pos hnext, hahead]
  rfl

theorem execLineTime_of_ahead {line rt f : Nat} (hring : s.ringMode = true) (hroot : s.isRoot = false)
    (hsource : s.sourceInUse = 5) (hnew : s.newLine line = true) (hwest : s.peerUp 0 = true) (heast : s.peerUp 1 = true)
    (hnext : s.dueLine line = false) : exec (.lineTime line rt f) s =
      .next ((s.passedOn line rt f).modRing (fun u => { u with ahead := u.ahead ++ [(line, rt)] })) := by
  rw [execLineTime_of_new hring hroot hsource hnew hwest heast, hnext, if_neg Bool.false_ne_true]

theorem State.sourceLine_passedOn {line rt f : Nat} (g : Nat) :
    ((s.passedOn line rt f).sourceLine g).line = (s.sourceLine g).line :=
  State.sourceLine_line_congr g rfl (fun _ _ => rfl)

theorem State.rd_predLate_of_ne {k : Nat} (hlate : k ≠ Reg.RING_PRED_LATE) (hint : k ≠ Reg.INT_STATUS Reg.pageRING) :
    s.predLate.rd k = s.rd k := by
  rw [State.predLate, State.rd_intSet_of_ne _ _ hint, State.rd_count_of_ne _ hlate]

theorem State.rd_predLate : s.predLate.rd Reg.RING_PRED_LATE = satInc 32 (s.rd Reg.RING_PRED_LATE) := by
  rw [State.predLate, State.rd_intSet_of_ne _ _ (by decide), State.rd_count_same]

theorem State.bit_predLate : s.predLate.bit (Reg.INT_STATUS Reg.pageRING) 10 = true := by
  rw [State.predLate, State.bit_intSet _ _ _ _ _ (by decide), if_pos ⟨rfl, rfl⟩]

theorem execLineTime_of_not {line rt f : Nat} (h : s.ringMode = false ∨ s.isRoot = true ∨ s.newLine line = false) :
    exec (.lineTime line rt f) s = .next (s.till f) := by
  unfold exec execLineTime
  dsimp only
  refine if_pos ?_
  change (!s.ringMode || s.isRoot || s.sourceInUse != 5 || !s.newLine line) = true
  obtain h | h | h := h <;> simp [h]

/-- A held interval: the next line is extrapolated, and ticks at once. -/
theorem execPredHold_of_late {f n1 t1 n0 t0 : Nat} (hpreds : s.ring.preds = [(n1, t1), (n0, t0)]) (hahead : s.ring.ahead = [])
    (hring : s.ringMode = true) (hroot : s.isRoot = false) (hsource : s.sourceInUse = 5)
    (hlate : 0 ≤ sdiff 64 (s.till f).frc (s.frcOfRing (unsgn 80 ((t1 : Int) + sdiff 80 t1 t0 + sdiff 80 t1 t0 / 2))))
    (hdue : s.line.due = []) (hlast : s.line.lastSource = none) (hheld : s.ring.held < 15) :
    exec (.predHold f) s = .next { s.count Reg.RING_PRED_HOLD with
      frc := (s.till f).frc
      ring := s.ring.predicted (ladd n1 1) (unsgn 80 ((t1 : Int) + sdiff 80 t1 t0)) (s.ring.held + 1)
      line := { (s.sourceLine (s.till f).frc).line with due := [(s.till f).frc] } } := by
  have hgo : ¬ (!(s.till f).ringMode || (s.till f).isRoot || (s.till f).sourceInUse != 5 ||
      decide (sdiff 64 (s.till f).frc
        ((s.till f).frcOfRing (unsgn 80 ((t1 : Int) + sdiff 80 t1 t0 + sdiff 80 t1 t0 / 2))) < 0)) = true := by
    change ¬ (!s.ringMode || s.isRoot || s.sourceInUse != 5 || decide (sdiff 64 (s.till f).frc
      (s.frcOfRing (unsgn 80 ((t1 : Int) + sdiff 80 t1 t0 + sdiff 80 t1 t0 / 2))) < 0)) = true
    rw [hring, hroot, hsource, decide_eq_false (not_lt.2 hlate)]
    decide
  let v := ((s.till f).takePrediction (ladd n1 1) (unsgn 80 ((t1 : Int) + sdiff 80 t1 t0)) (s.ring.held + 1)).count
    Reg.RING_PRED_HOLD
  have hrd (k : Nat) (hk : k / 0x1000 = Reg.pageENC) : v.rd k = s.rd k :=
    State.rd_count_of_ne _ (by rintro rfl; exact absurd hk (by decide))
  have htick : v.ringInstant (s.till f).frc =
      { v with line := { (s.sourceLine (s.till f).frc).line with due := [(s.till f).frc] } } := by
    rw [State.ringInstant_of_first (s := v) _ hdue hlast, State.sourceLine_line_congr (s := s) (t := v) _ rfl hrd]
  have hahead' : (v.ringInstant (s.till f).frc).ring.ahead = [] := by
    rw [htick]
    change s.ring.ahead.filter _ = []
    rw [hahead, List.filter_nil]
  unfold exec execPredHold
  dsimp only
  rw [State.till_ring, hpreds]
  dsimp only
  rw [if_neg hgo, if_neg (by omega)]
  change Host.Outcome.next ((v.ringInstant (s.till f).frc).lineFollows (v.ringInstant (s.till f).frc).ring.ahead.length) = _
  rw [hahead', List.length_nil, State.lineFollows, htick]
  rfl

theorem execPredHold_of_none {f : Nat} (hpreds : s.ring.preds = []) : exec (.predHold f) s = .next (s.till f) := by
  unfold exec execPredHold
  dsimp only
  rw [State.till_ring, hpreds]

/-! ## RATE_EXCHANGE -/

theorem execRateExchange_of_alone (rates : List Nat) (lowest partner : Option Nat) (hring : s.ringMode = false)
    (hpair : s.pairMode = false) : exec (.rateExchange rates lowest partner) s = .next s := by
  unfold exec execRateExchange
  dsimp only
  rw [hring, if_neg Bool.false_ne_true, hpair, if_neg Bool.false_ne_true]

theorem execRateExchange_of_ring (rates : List Nat) (lowest partner : Option Nat) (hring : s.ringMode = true)
    (hpair : (s.ringRates rates lowest).pairMode = false) :
    exec (.rateExchange rates lowest partner) s = .next (s.ringRates rates lowest) := by
  unfold exec execRateExchange
  dsimp only
  rw [hring, if_pos rfl, hpair, if_neg Bool.false_ne_true]

theorem execRateExchange_of_pair (rates : List Nat) (lowest partner : Option Nat) (hring : s.ringMode = false)
    (hpair : s.pairMode = true) (hup : s.peerUp 2 = true) :
    exec (.rateExchange rates lowest partner) s = .next { s with
      ring := { s.ring with partnerAdvice := partner.or s.ring.partnerAdvice }
      out := s.out ++ [Out.peerBlock 2 0x04 [0, s.ownRate]] } := by
  unfold exec execRateExchange
  dsimp only
  rw [hring, if_neg Bool.false_ne_true, hpair, if_pos rfl, State.sendTime_of_up _ _ hup]
  cases partner <;> rfl

/-- The lowest rate of the ring as a node shows it. -/
def State.ringAdvised (s : State) (r : Nat) : State :=
  (s.modRing (fun u => { u with advice := some r })).wr Reg.RING_RING_ADVICE (r % 2 ^ 17)

theorem State.rd_ringAdvised {r : Nat} : (s.ringAdvised r).rd Reg.RING_RING_ADVICE = r % 131072 := by
  rw [State.ringAdvised, State.rd_wr_same]
  omega

theorem State.rd_ringAdvised_of_ne {r k : Nat} (h : k ≠ Reg.RING_RING_ADVICE) : (s.ringAdvised r).rd k = s.rd k := by
  rw [State.ringAdvised, State.rd_wr_of_ne _ _ h]
  rfl

theorem State.peerUp_of_rd {p : Nat} (h : t.rd (Reg.STATUS (Reg.pagePEER p)) = s.rd (Reg.STATUS (Reg.pagePEER p))) :
    t.peerUp p = s.peerUp p := by
  have hst : t.peerSt p = s.peerSt p := State.rdF_of_rd_eq h
  rw [State.peerUp, State.peerUp, hst]

theorem State.peerUp_ringAdvised (r p : Nat) : (s.ringAdvised r).peerUp p = s.peerUp p :=
  State.peerUp_of_rd (State.rd_ringAdvised_of_ne (by simp; omega))

theorem State.ringRates_of_root (rates : List Nat) (lowest : Option Nat) (hroot : s.isRoot = true)
    (hwest : s.peerUp 0 = true) (heast : s.peerUp 1 = true) :
    s.ringRates rates lowest = { s.ringAdvised (rates.foldl min s.ownRate) with
      out := s.out ++ [Out.peerBlock 0 0x04 [1, rates.foldl min s.ownRate],
        Out.peerBlock 1 0x04 [1, rates.foldl min s.ownRate]] } := by
  unfold State.ringRates
  dsimp only
  rw [hroot, if_pos rfl]
  exact State.sendRing_of_up (s := s.ringAdvised _) _ _ ((State.peerUp_ringAdvised ..).trans hwest)
    ((State.peerUp_ringAdvised ..).trans heast)

/-- The port toward the root and the other one are both of the ring. -/
theorem State.peerUp_rootPort (hwest : s.peerUp 0 = true) (heast : s.peerUp 1 = true) :
    s.peerUp s.rootPort = true ∧ s.peerUp (1 - s.rootPort) = true := by
  have hport : s.rootPort = 0 ∨ s.rootPort = 1 := by
    unfold State.rootPort
    dsimp only
    split <;> split <;> simp
  obtain h | h := hport <;> rw [h]
  · exact ⟨hwest, heast⟩
  · exact ⟨heast, hwest⟩

theorem State.ringRates_of_node (rates : List Nat) (low : Nat) (hroot : s.isRoot = false)
    (hwest : s.peerUp 0 = true) (heast : s.peerUp 1 = true) :
    s.ringRates rates (some low) = { s.ringAdvised low with
      out := s.out ++ (s.ownRate :: rates).map (fun r => Out.peerBlock s.rootPort 0x04 [0, r]) ++
        [Out.peerBlock (1 - s.rootPort) 0x04 [1, low]] } := by
  obtain ⟨hin, hon⟩ := State.peerUp_rootPort hwest heast
  unfold State.ringRates
  dsimp only
  rw [hroot, if_neg Bool.false_ne_true, State.foldl_sendTime_of_up 0x04 (fun r => [0, r]) (s.ownRate :: rates) hin]
  exact State.sendTime_of_up (s := State.ringAdvised { s with out := _ } low) _ _ ((State.peerUp_ringAdvised ..).trans hon)

end

/-- Settles O53, clause by clause from what LINE_PREDICTION, LINE_TIME, PRED_HOLD and RATE_EXCHANGE answer. -/
theorem ringTiming : Obligations.RingTiming := by
  unfold Obligations.RingTiming
  refine ⟨fun t r s hruns hroot hpredict hnear hwest heast hdue hlast => ?_, fun t r s hruns hroot hpredict hfar => ?_,
    fun t s h => ?_, fun n a b s hmarks => State.predictLine_of_two hmarks,
    fun line rt t s hring hroot hsource hnew hbase hnext hahead hwest heast hdue hlast hearly => ?_,
    fun line rt t s hring hroot hsource hnew hbase hnext hahead hwest heast hdue hlast hlate => ?_,
    fun line rt t s hring hroot hsource hnew hbase hnext hwest heast => ?_,
    fun line rt t s h => execLineTime_of_not h,
    fun t n1 t1 n0 t0 s hpreds hahead hring hroot hsource hbase hlate hdue hlast hheld => ?_,
    fun t s hpreds => execPredHold_of_none hpreds,
    fun rates lowest partner s hring hpair => execRateExchange_of_alone rates lowest partner hring hpair,
    fun rates lowest partner s hring hpair hroot hwest heast => ?_,
    fun rates low partner s hring hpair hroot hwest heast => ?_,
    fun rates lowest partner s hpair hring hup => ?_⟩
  · exact ⟨_, execLinePrediction_of_ahead hruns hroot hpredict hnear hwest heast hdue hlast, rfl, rfl, rfl, rfl, rfl, rfl⟩
  · refine execLinePrediction_of_none fun r' hr' _ _ => ?_
    rw [hpredict] at hr'
    exact Option.some.inj hr' ▸ hfar
  · refine execLinePrediction_of_none fun r hr hruns hroot => ?_
    obtain h | h | h := h
    · exact absurd (h.symm.trans hruns) (by decide)
    · exact absurd (h.symm.trans hroot) (by decide)
    · rw [State.predictLine_of_few (s := s.till t) h] at hr
      exact absurd hr (by simp)
  · refine ⟨_, (execLineTime_of_next hring hroot hsource hnew hwest heast hnext hahead).trans
      (congrArg _ (State.lineAt_of_early (s := s.passedOn line rt t) hbase hdue hlast hearly)), rfl, rfl, rfl, ?_, rfl⟩
    dsimp only
    rw [State.sourceLine_passedOn]
    rfl
  · refine ⟨_, (execLineTime_of_next hring hroot hsource hnew hwest heast hnext hahead).trans
      (congrArg _ (State.lineAt_of_late (s := s.passedOn line rt t) hbase hdue hlast hlate)), rfl, rfl, rfl,
      State.rd_predLate (s := s.passedOn line rt t), State.bit_predLate (s := s.passedOn line rt t), ?_, ?_, rfl⟩
    · dsimp only
      rw [State.sourceLine_passedOn]
      rfl
    · intro k hk
      simp only [List.mem_cons, List.not_mem_nil, or_false, not_or] at hk
      exact State.rd_predLate_of_ne (s := s.passedOn line rt t) hk.1 hk.2
  · exact ⟨_, execLineTime_of_ahead hring hroot hsource hnew hwest heast hnext, rfl, rfl, rfl, rfl⟩
  · refine ⟨_, execPredHold_of_late hpreds hahead hring hroot hsource hlate hdue hlast hheld, rfl, ?_, rfl,
      State.rd_count_same .., rfl, ?_, rfl⟩
    · change (_ :: s.ring.preds).take 2 = _
      rw [hpreds]
      rfl
    · intro k hk
      simp only [List.mem_cons, List.not_mem_nil, or_false] at hk
      exact State.rd_count_of_ne _ hk
  · refine ⟨_, (execRateExchange_of_ring rates lowest partner hring ?_).trans
      (congrArg _ (State.ringRates_of_root rates lowest hroot hwest heast)), rfl, ?_, rfl, ?_, rfl⟩
    · rw [State.ringRates_of_root rates lowest hroot hwest heast]
      exact (State.bit_of_rd_eq (State.rd_ringAdvised_of_ne (by decide))).trans hpair
    · exact State.rd_ringAdvised
    · intro k hk
      simp only [List.mem_cons, List.not_mem_nil, or_false] at hk
      exact State.rd_ringAdvised_of_ne hk
  · refine ⟨_, (execRateExchange_of_ring rates (some low) partner hring ?_).trans
      (congrArg _ (State.ringRates_of_node rates low hroot hwest heast)), rfl, ?_, rfl, ?_, rfl⟩
    · rw [State.ringRates_of_node rates low hroot hwest heast]
      exact (State.bit_of_rd_eq (State.rd_ringAdvised_of_ne (by decide))).trans hpair
    · exact State.rd_ringAdvised
    · intro k hk
      simp only [List.mem_cons, List.not_mem_nil, or_false] at hk
      exact State.rd_ringAdvised_of_ne hk
  · exact ⟨_, execRateExchange_of_pair rates lowest partner hring hpair hup, rfl, rfl, rfl⟩

end Sys2Proof.Machine
end

section
/-! Frames to the partner, and the slots of the two modules of a pair. -/

namespace Sys2Proof.Machine

section
variable {s t : State}

/-! ## Frames to the partner -/

@[simp] theorem State.rd_toPartner (cls kind : Nat) (fields : List Nat) (k : Nat) :
    (s.toPartner cls kind fields).rd k = s.rd k := by
  unfold State.toPartner State.sendPeer
  dsimp only
  split <;> rfl

theorem State.toPartner_eq (cls kind : Nat) (fields : List Nat) : s.toPartner cls kind fields =
    { s with ring := (s.toPartner cls kind fields).ring, out := (s.toPartner cls kind fields).out } := by
  unfold State.toPartner State.sendPeer
  dsimp only
  split <;> rfl

@[simp] theorem State.agree_toPartner {ps : List Part} (cls kind : Nat) (fields : List Nat) (hring : .ring ∈ ps)
    (hout : .out ∈ ps) : s.Agree ps (t.toPartner cls kind fields) ↔ s.Agree ps t := by
  rw [State.toPartner_eq]
  simp [hring, hout]

/-- The number that the next frame of a class to the partner has. -/
def State.partnerSeq (s : State) (cls : Nat) : Nat := (smGet (fun _ => 0) (s.peerPort 2).txSeq cls + 1) % 65536

theorem State.toPartner_out {cls kind : Nat} {fields : List Nat} (hup : s.stCode (Reg.pagePEER 2) = 4) :
    (s.toPartner cls kind fields).out = s.out ++ [Out.peer 2 cls (s.partnerSeq cls) kind fields] := by
  unfold State.toPartner State.sendPeer
  dsimp only
  rw [if_pos (by rw [hup]; rfl)]
  rfl

theorem State.slot_toPartner (cls kind : Nat) (fields : List Nat) (n : Nat) :
    (s.toPartner cls kind fields).slot n = s.slot n := by
  rw [State.toPartner_eq]
  rfl

/-! ## A slot -/

theorem State.slotSt_of_rd {n : Nat} (h : t.rd (Reg.APPLY_SLOT_STATUS n) = s.rd (Reg.APPLY_SLOT_STATUS n)) :
    t.slotSt n = s.slotSt n := State.rdF_of_rd_eq h

theorem State.slotSt_setSlotSt {n st : Nat} (hst : st < 16) : (s.setSlotSt n st).slotSt n = st := by
  rw [State.slotSt, State.setSlotSt, State.rdF_wrF_same _ _ _ _ _ (by omega) (by omega)]
  exact Nat.mod_eq_of_lt hst

theorem State.rd_setSlotSt_of_ne {n st k : Nat} (h : k ≠ Reg.APPLY_SLOT_STATUS n) : (s.setSlotSt n st).rd k = s.rd k :=
  State.rd_wrF_of_ne _ _ _ _ h

theorem State.slot_setSlot (n : Nat) (x : Slot) : (s.setSlot n x).slot n = x := by
  rw [State.slot, State.setSlot, smGet_smSet, if_pos rfl]

theorem State.slotTarget_of_rd {n : Nat} (h : t.rd (Reg.APPLY_SLOT_TARGET n) = s.rd (Reg.APPLY_SLOT_TARGET n)) :
    t.slotTarget n = s.slotTarget n := h

/-- The pages of a slot follow from its ACTION and its masks. -/
theorem State.slotPages_of_rd {n : Nat} (haction : t.rd (Reg.APPLY_SLOT_ACTION n) = s.rd (Reg.APPLY_SLOT_ACTION n))
    (h0 : t.rd (Reg.APPLY_SLOT_MASK0 n) = s.rd (Reg.APPLY_SLOT_MASK0 n))
    (h1 : t.rd (Reg.APPLY_SLOT_MASK1 n) = s.rd (Reg.APPLY_SLOT_MASK1 n))
    (h2 : t.rd (Reg.APPLY_SLOT_MASK2 n) = s.rd (Reg.APPLY_SLOT_MASK2 n))
    (h3 : t.rd (Reg.APPLY_SLOT_MASK3 n) = s.rd (Reg.APPLY_SLOT_MASK3 n)) : t.slotPages n = s.slotPages n := by
  have ha : t.slotAction n = s.slotAction n := State.rdF_of_rd_eq haction
  have hp : t.slotPlanes n = s.slotPlanes n := congrArg (bitsOf 8) (State.rdF_of_rd_eq haction)
  have hc : t.slotChannels n = s.slotChannels n := by
    rw [State.slotChannels, State.slotChannels, h0, h1, h2, h3]
  rw [State.slotPages, State.slotPages, State.slotTargets, State.slotTargets, ha, hp, hc]

/-- Every page of a slot is one of a plane or of a channel. -/
theorem State.slotPages_lt {n p : Nat} (hp : p ∈ s.slotPages n) : Reg.pageAPPLY < p ∧ p < 1024 := by
  have hbits {w m x : Nat} (hx : x ∈ bitsOf w m) : x < w := List.mem_range.1 (List.mem_of_mem_filter hx)
  unfold State.slotPages at hp
  obtain ⟨x, hx, rfl⟩ := List.mem_map.1 hp
  unfold State.slotTargets at hx
  split at hx
  next h =>
    have := hbits hx
    simp only [h, if_true, Reg.pagePLANE, Reg.pageAPPLY]
    omega
  next h =>
    have hlt : x < 128 := by
      simp only [State.slotChannels, List.mem_append, List.mem_map] at hx
      obtain ((hx | ⟨y, hy, rfl⟩) | ⟨y, hy, rfl⟩) | ⟨y, hy, rfl⟩ := hx
      · exact lt_trans (hbits hx) (by omega)
      all_goals have := hbits hy; omega
    rw [if_neg h]
    simp only [Reg.pageCH, Reg.pageAPPLY]
    omega

/-- Bit i of SHADOW_CTRL and of INT_STATUS set on every page of a list. -/
def State.flagPages (s : State) (i : Nat) (ps : List Nat) : State :=
  ps.foldl (fun s p => (s.wrB (Reg.SHADOW_CTRL p) i true).intSet p i) s

theorem State.pagesBut_flagPages (i : Nat) (ps : List Nat) : s.pagesBut (s.flagPages i ps) ps := by
  induction ps generalizing s with
  | nil => exact fun _ _ => rfl
  | cons p ps ih =>
    intro k hk
    rw [List.mem_cons, not_or] at hk
    have hctrl : k ≠ Reg.SHADOW_CTRL p := by rintro rfl; exact hk.1 (by simp only [Reg.SHADOW_CTRL]; omega)
    have hint : k ≠ Reg.INT_STATUS p := by rintro rfl; exact hk.1 (by simp only [Reg.INT_STATUS]; omega)
    calc
      _ = ((s.wrB (Reg.SHADOW_CTRL p) i true).intSet p i).rd k := ih k hk.2
      _ = s.rd k := by rw [State.rd_intSet_of_ne _ _ hint, State.rd_wrB_of_ne _ _ _ hctrl]

@[simp] theorem State.agree_flagPages {qs : List Part} (i : Nat) (ps : List Nat) :
    s.Agree qs (t.flagPages i ps) ↔ s.Agree qs t := by
  induction ps generalizing t with
  | nil => rfl
  | cons p ps ih => exact ih.trans (by simp)

/-- LATE of a slot, on the APPLY page and on its own pages. -/
theorem State.slotLate_eq (n : Nat) : s.slotLate n =
    ((s.wrB Reg.APPLY_SLOT_LATE n true).intSet Reg.pageAPPLY 10).flagPages 2 (s.slotPages n) := by
  have hpages : ((s.wrB Reg.APPLY_SLOT_LATE n true).intSet Reg.pageAPPLY 10).slotPages n = s.slotPages n := by
    refine State.slotPages_of_rd ?_ ?_ ?_ ?_ ?_ <;>
      rw [State.rd_intSet_of_ne _ _ (by simp; omega), State.rd_wrB_of_ne _ _ _ (by simp; omega)]
  unfold State.slotLate
  dsimp only
  rw [hpages]
  rfl

theorem State.rd_flagPages_apply (i n : Nat) {k : Nat} (hk : k / 0x1000 = Reg.pageAPPLY) :
    (t.flagPages i (s.slotPages n)).rd k = t.rd k :=
  State.pagesBut_flagPages i _ k fun hm => (State.slotPages_lt hm).1.ne' hk

/-- The pages that an outcome of a slot reaches. -/
def State.slotReached (s : State) (n : Nat) : List Nat :=
  [Reg.pageAPPLY] ++ (List.range 1024).filter (fun q => (s.slotPages n).contains q)

theorem State.pagesBut_flagPages_slot (i n : Nat) : t.pagesBut (t.flagPages i (s.slotPages n)) (s.slotReached n) := by
  refine fun k hk => State.pagesBut_flagPages i _ k fun hm => hk ?_
  refine List.mem_append_right _ (List.mem_filter.2 ⟨List.mem_range.2 (State.slotPages_lt hm).2, ?_⟩)
  simpa using hm

/-! ## A refusal -/

/-- The registers of the APPLY page as a refusal of a slot by the module leaves them. -/
def State.slotRefused (s : State) (n code : Nat) : State :=
  ((((s.setSlotSt n 5).slotResult n code).wrB Reg.APPLY_SLOT_REFUSED n true).intSet Reg.pageAPPLY 9).error Reg.pageAPPLY code 0 0

theorem State.regsBut_slotRefused (n code : Nat) : s.regsBut (s.slotRefused n code)
    (errorKeys Reg.pageAPPLY ++ [Reg.APPLY_SLOT_STATUS n, Reg.APPLY_SLOT_REFUSED]) := by
  intro k hk
  simp only [List.mem_append, mem_errorKeys, List.mem_cons, List.not_mem_nil, or_false, not_or] at hk
  obtain ⟨⟨hinfo, hcount, hint⟩, hst, href⟩ := hk
  rw [State.slotRefused, State.rd_error_of_notMem _ _ _ _ (by simp only [mem_errorKeys, not_or]; exact ⟨hinfo, hcount, hint⟩),
    State.rd_intSet_of_ne _ _ hint, State.rd_wrB_of_ne _ _ _ href, State.slotResult, State.rd_wrF_of_ne _ _ _ _ hst,
    State.rd_setSlotSt_of_ne hst]

theorem State.slotRefuse_eq (n code : Nat) :
    s.slotRefuse n code 0 = (s.slotRefused n code).flagPages 3 (s.slotPages n) := by
  have hpages : (s.slotRefused n code).slotPages n = s.slotPages n := by
    refine State.slotPages_of_rd ?_ ?_ ?_ ?_ ?_ <;> exact State.regsBut_slotRefused n code _ (by simp; omega)
  unfold State.slotRefuse
  dsimp only
  rw [if_pos rfl]
  change State.flagPages (s.slotRefused n code) 3 ((s.slotRefused n code).slotPages n) = _
  rw [hpages]

/-- An error recorded after changes that leave ERR_INFO and ERR_COUNT of the page alone. -/
theorem State.errored_error {page code off source : Nat} (hinfo : t.rd (Reg.ERR_INFO page) = s.rd (Reg.ERR_INFO page))
    (hcount : t.rd (Reg.ERR_COUNT page) = s.rd (Reg.ERR_COUNT page)) (hcode : code < 0x10000) (hsource : source < 16) :
    s.errored (t.error page code off source) page code off source := by
  refine ⟨?_, ?_, t.bit_error_intStatus page code _ _⟩
  · rw [State.rd_error_errInfo, Nat.mod_eq_of_lt hcode, Nat.mod_eq_of_lt hsource, hinfo]
  · rw [State.rd_error_errCount, hcount]

/-- What a later state shows of an error, where the keys of the error are as they were. -/
theorem State.errored_of_rd {u v : State} {page code off source : Nat} (h : s.errored u page code off source)
    (hinfo : v.rd (Reg.ERR_INFO page) = u.rd (Reg.ERR_INFO page))
    (hcount : v.rd (Reg.ERR_COUNT page) = u.rd (Reg.ERR_COUNT page))
    (hint : v.bit (Reg.INT_STATUS page) 4 = u.bit (Reg.INT_STATUS page) 4) : s.errored v page code off source :=
  ⟨hinfo.trans h.1, hcount.trans h.2.1, hint.trans h.2.2⟩

theorem State.slotSt_of_slotResult {n : Nat} (code : Nat)
    (h : t.rd (Reg.APPLY_SLOT_STATUS n) = (s.slotResult n code).rd (Reg.APPLY_SLOT_STATUS n)) : t.slotSt n = s.slotSt n := by
  unfold State.slotSt State.rdF
  rw [h, State.slotResult, State.rd_wrF_same _ _ _ (by decide) (by decide),
    fld_putFld_other _ _ _ _ _ _ (by decide) (.inl (by decide))]

theorem State.rd_slotRefused_status (n : Fin 32) (code : Nat) : (s.slotRefused n code).rd (Reg.APPLY_SLOT_STATUS n) =
    ((s.setSlotSt n 5).slotResult n code).rd (Reg.APPLY_SLOT_STATUS n) := by
  have hn := n.isLt
  rw [State.slotRefused, State.rd_error_of_notMem _ _ _ _ (by simp; omega), State.rd_intSet_of_ne _ _ (by simp; omega),
    State.rd_wrB_of_ne _ _ _ (by simp; omega)]

theorem State.errored_slotRefused (n : Fin 32) {code : Nat} (hcode : code < 0x10000) :
    s.errored (s.slotRefused n code) Reg.pageAPPLY code 0 0 := by
  have hn := n.isLt
  refine State.errored_error ?_ ?_ hcode (by decide) <;>
    rw [State.rd_intSet_of_ne _ _ (by decide), State.rd_wrB_of_ne _ _ _ (by decide), State.slotResult,
      State.rd_wrF_of_ne _ _ _ _ (by simp; omega), State.rd_setSlotSt_of_ne (by simp; omega)]

theorem State.slotRefuse_spec (n : Fin 32) {code : Nat} (hcode : code < 0x10000) :
    (s.slotRefuse n code 0).slotSt n = 5 ∧ s.errored (s.slotRefuse n code 0) Reg.pageAPPLY code 0 0 ∧
      (s.slotRefuse n code 0).bit Reg.APPLY_SLOT_REFUSED n = true ∧
      (s.slotRefuse n code 0).rdF (Reg.APPLY_SLOT_STATUS n) 23 8 = code := by
  have hn := n.isLt
  have happly {k : Nat} (hk : k / 0x1000 = Reg.pageAPPLY) : (s.slotRefuse n code 0).rd k = (s.slotRefused n code).rd k := by
    rw [State.slotRefuse_eq, State.rd_flagPages_apply _ _ hk]
  have hstatus := (happly (k := Reg.APPLY_SLOT_STATUS n) (by simp; omega)).trans (State.rd_slotRefused_status n code)
  refine ⟨?_, ?_, ?_, ?_⟩
  · exact (State.slotSt_of_slotResult code hstatus).trans (State.slotSt_setSlotSt (by decide))
  · exact State.errored_of_rd (State.errored_slotRefused n hcode) (happly rfl) (happly rfl) (State.bit_of_rd_eq (happly rfl))
  · rw [State.bit_of_rd_eq (happly rfl), State.slotRefused,
      State.bit_of_rd_eq (State.rd_error_of_notMem _ _ _ _ (by decide)),
      State.bit_of_rd_eq (State.rd_intSet_of_ne _ _ (by decide)), State.bit_wrB_same _ _ _ _ hn]
  · rw [State.rdF_of_rd_eq hstatus, State.slotResult, State.rdF_wrF_same _ _ _ _ _ (by decide) (by decide)]
    exact Nat.mod_eq_of_lt hcode

theorem State.pagesBut_slotRefuse (n : Fin 32) (code : Nat) : s.pagesBut (s.slotRefuse n code 0) (s.slotReached n) := by
  have hn := n.isLt
  have happly : s.pagesBut (s.slotRefused n code) (s.slotReached n) := by
    refine (State.regsBut_slotRefused n code).pagesBut fun k hk => List.mem_append_left _ (List.mem_singleton.2 ?_)
    simp only [List.mem_append, mem_errorKeys, List.mem_cons, List.not_mem_nil, or_false] at hk
    obtain (rfl | rfl | rfl) | rfl | rfl := hk <;> simp
    omega
  rw [State.slotRefuse_eq]
  exact happly.trans (State.pagesBut_flagPages_slot _ _)

theorem State.agree_slotRefuse (n code : Nat) : s.Agree [] (s.slotRefuse n code 0) := by
  rw [State.slotRefuse_eq, State.agree_flagPages, State.slotRefused]
  simp [State.setSlotSt, State.slotResult]

/-! ## A rescheduling -/

/-- One rescheduling more, with its error. -/
def State.reschedNoted (s : State) (n : Nat) : State :=
  ((s.setSlot n { s.slot n with resched := (s.slot n).resched + 1 }).slotResult n 0x000A).error Reg.pageAPPLY 0x000A 0 0

/-- LATE of it on the APPLY page. -/
def State.reschedLate (s : State) (n : Nat) : State :=
  ((s.reschedNoted n).wrB Reg.APPLY_SLOT_LATE n true).intSet Reg.pageAPPLY 10

/-- The slot waits for ACK again, with its new target. -/
def State.rescheduled (s : State) (n : Nat) : State :=
  (((s.reschedLate n).flagPages 2 (s.slotPages n)).wr (Reg.APPLY_SLOT_TARGET n) (ladd s.nextLine s.guard)).setSlotSt n 7

theorem State.regsBut_reschedNoted (n : Nat) :
    s.regsBut (s.reschedNoted n) (errorKeys Reg.pageAPPLY ++ [Reg.APPLY_SLOT_STATUS n]) := by
  intro k hk
  simp only [List.mem_append, List.mem_cons, List.not_mem_nil, or_false, not_or] at hk
  rw [State.reschedNoted, State.rd_error_of_notMem _ _ _ _ hk.1, State.slotResult, State.rd_wrF_of_ne _ _ _ _ hk.2]
  rfl

theorem State.regsBut_reschedLate (n : Nat) :
    s.regsBut (s.reschedLate n) (errorKeys Reg.pageAPPLY ++ [Reg.APPLY_SLOT_STATUS n, Reg.APPLY_SLOT_LATE]) := by
  intro k hk
  simp only [List.mem_append, mem_errorKeys, List.mem_cons, List.not_mem_nil, or_false, not_or] at hk
  obtain ⟨⟨hinfo, hcount, hint⟩, hst, hlate⟩ := hk
  rw [State.reschedLate, State.rd_intSet_of_ne _ _ hint, State.rd_wrB_of_ne _ _ _ hlate]
  refine State.regsBut_reschedNoted n k ?_
  simp only [List.mem_append, mem_errorKeys, List.mem_cons, List.not_mem_nil, or_false, not_or]
  exact ⟨⟨hinfo, hcount, hint⟩, hst⟩

theorem State.reschedule_eq (n : Nat) (h : (s.slot n).resched < s.reschedMax) :
    s.reschedule n 0 = (s.rescheduled n).sendSlot n := by
  have hpages : (s.reschedNoted n).slotPages n = s.slotPages n := by
    refine State.slotPages_of_rd ?_ ?_ ?_ ?_ ?_ <;> exact State.regsBut_reschedNoted n _ (by simp; omega)
  have hline : (s.reschedNoted n).nextLine = s.nextLine := State.regsBut_reschedNoted n _ (by simp; omega)
  have hguard : (s.reschedNoted n).guard = s.guard :=
    State.rdF_of_rd_eq (State.regsBut_reschedNoted n _ (by simp; omega))
  unfold State.reschedule
  dsimp only
  rw [if_neg (not_le_of_gt h), if_pos rfl]
  change (((((s.reschedNoted n).slotLate n).wr _ (ladd (s.reschedNoted n).nextLine (s.reschedNoted n).guard)).setSlotSt n
    7).sendSlot n) = _
  rw [State.slotLate_eq, hpages, hline, hguard]
  rfl

theorem ladd_lt (a : Nat) (n : Int) : ladd a n < 2 ^ 32 := by
  unfold ladd unsgn
  omega

theorem State.slotSt_rescheduled (n : Nat) : (s.rescheduled n).slotSt n = 7 := State.slotSt_setSlotSt (by decide)

theorem State.slotTarget_rescheduled (n : Nat) : (s.rescheduled n).slotTarget n = ladd s.nextLine s.guard := by
  rw [State.slotTarget, State.rescheduled, State.rd_setSlotSt_of_ne (by simp), State.rd_wr_same]
  exact Nat.mod_eq_of_lt (ladd_lt _ _)

theorem State.agree_reschedNoted (n : Nat) :
    (s.setSlot n { s.slot n with resched := (s.slot n).resched + 1 }).Agree [] (s.reschedNoted n) := by
  simp [State.reschedNoted, State.slotResult, State.Agree.refl]

theorem State.agree_reschedLate_rescheduled (n : Nat) : (s.reschedNoted n).Agree [] (s.rescheduled n) := by
  simp [State.rescheduled, State.reschedLate, State.setSlotSt, State.Agree.refl]

theorem State.slot_rescheduled (n : Nat) : ((s.rescheduled n).slot n).resched = (s.slot n).resched + 1 := by
  have hslots : (s.rescheduled n).slots = (s.setSlot n { s.slot n with resched := (s.slot n).resched + 1 }).slots :=
    (State.agree_reschedLate_rescheduled n .slots (by simp)).trans (State.agree_reschedNoted n .slots (by simp))
  rw [State.slot, hslots]
  exact congrArg Slot.resched (State.slot_setSlot n { s.slot n with resched := (s.slot n).resched + 1 })

theorem State.agree_rescheduled (n : Nat) : s.Agree [.slots] (s.rescheduled n) := by
  have h : s.Agree [.slots] (s.setSlot n { s.slot n with resched := (s.slot n).resched + 1 }) := by
    simp [State.setSlot]
  exact (h.trans ((State.agree_reschedNoted n).mono (by simp))).trans ((State.agree_reschedLate_rescheduled n).mono (by simp))

theorem State.rd_rescheduled_apply (n : Nat) {k : Nat} (hk : k / 0x1000 = Reg.pageAPPLY)
    (hst : k ≠ Reg.APPLY_SLOT_STATUS n) (htarget : k ≠ Reg.APPLY_SLOT_TARGET n) :
    (s.rescheduled n).rd k = (s.reschedLate n).rd k := by
  rw [State.rescheduled, State.rd_setSlotSt_of_ne hst, State.rd_wr_of_ne _ _ htarget, State.rd_flagPages_apply _ _ hk]

theorem State.errored_reschedLate (n : Fin 32) : s.errored (s.reschedLate n) Reg.pageAPPLY 0x000A 0 0 := by
  have hn := n.isLt
  have hkept {k : Nat} (hlate : k ≠ Reg.APPLY_SLOT_LATE) (hint : k ≠ Reg.INT_STATUS Reg.pageAPPLY) :
      (s.reschedLate n).rd k = (s.reschedNoted n).rd k := by
    rw [State.reschedLate, State.rd_intSet_of_ne _ _ hint, State.rd_wrB_of_ne _ _ _ hlate]
  have hnoted : s.errored (s.reschedNoted n) Reg.pageAPPLY 0x000A 0 0 := by
    refine State.errored_error ?_ ?_ (by decide) (by decide) <;>
      rw [State.slotResult, State.rd_wrF_of_ne _ _ _ _ (by simp; omega)] <;> rfl
  refine State.errored_of_rd hnoted (hkept (by decide) (by decide)) (hkept (by decide) (by decide)) ?_
  rw [State.reschedLate, State.bit_intSet _ _ _ _ _ (by decide), if_neg (fun h => absurd h.2 (by decide)),
    State.bit_of_rd_eq (State.rd_wrB_of_ne _ _ _ (by decide))]

theorem State.rescheduled_flags (n : Fin 32) : s.errored (s.rescheduled n) Reg.pageAPPLY 0x000A 0 0 ∧
    (s.rescheduled n).bit Reg.APPLY_SLOT_LATE n = true ∧ (s.rescheduled n).bit (Reg.INT_STATUS Reg.pageAPPLY) 10 = true := by
  have hn := n.isLt
  have hrd {k : Nat} (hk : k < 0x12400) (hpage : k / 0x1000 = Reg.pageAPPLY) :
      (s.rescheduled n).rd k = (s.reschedLate n).rd k :=
    State.rd_rescheduled_apply n hpage (by simp; omega) (by simp; omega)
  refine ⟨State.errored_of_rd (State.errored_reschedLate n) (hrd (by decide) rfl) (hrd (by decide) rfl)
    (State.bit_of_rd_eq (hrd (by decide) rfl)), ?_, ?_⟩
  · rw [State.bit_of_rd_eq (hrd (by decide) rfl), State.reschedLate,
      State.bit_of_rd_eq (State.rd_intSet_of_ne _ _ (by decide)), State.bit_wrB_same _ _ _ _ hn]
  · rw [State.bit_of_rd_eq (hrd (by decide) rfl), State.reschedLate, State.bit_intSet _ _ _ _ _ (by decide), if_pos ⟨rfl, rfl⟩]

/-- The keys of a rescheduling on the APPLY page. -/
def reschedKeys (n : Nat) : List Nat :=
  errorKeys Reg.pageAPPLY ++ [Reg.APPLY_SLOT_STATUS n, Reg.APPLY_SLOT_TARGET n, Reg.APPLY_SLOT_LATE]

theorem State.rd_rescheduled_of_notMem {n k : Nat} (hk : k ∉ reschedKeys n) :
    (s.rescheduled n).rd k = ((s.reschedLate n).flagPages 2 (s.slotPages n)).rd k ∧ (s.reschedLate n).rd k = s.rd k := by
  simp only [reschedKeys, List.mem_append, List.mem_cons, List.not_mem_nil, or_false, not_or] at hk
  obtain ⟨herr, hst, htarget, hlate⟩ := hk
  refine ⟨?_, State.regsBut_reschedLate n k ?_⟩
  · rw [State.rescheduled, State.rd_setSlotSt_of_ne hst, State.rd_wr_of_ne _ _ htarget]
  · simp only [List.mem_append, List.mem_cons, List.not_mem_nil, or_false, not_or]
    exact ⟨herr, hst, hlate⟩

theorem reschedKeys_page {n : Fin 32} {k : Nat} (hk : k ∈ reschedKeys n) : k / 0x1000 = Reg.pageAPPLY := by
  have hn := n.isLt
  simp only [reschedKeys, List.mem_append, mem_errorKeys, List.mem_cons, List.not_mem_nil, or_false] at hk
  obtain (rfl | rfl | rfl) | rfl | rfl | rfl := hk <;> simp <;> omega

theorem State.pagesBut_rescheduled (n : Fin 32) : s.pagesBut (s.rescheduled n) (s.slotReached n) := by
  intro k hk
  have hkey : k ∉ reschedKeys n := fun hm =>
    hk (List.mem_append_left _ (List.mem_singleton.2 (reschedKeys_page hm)))
  obtain ⟨hflag, hlate⟩ := State.rd_rescheduled_of_notMem (s := s) hkey
  rw [hflag, State.pagesBut_flagPages_slot 2 n k hk, hlate]

/-- A slot without targets reaches no page but APPLY. -/
theorem State.regsBut_rescheduled {n : Nat} (hnone : s.slotTargets n = []) :
    s.regsBut (s.rescheduled n) (reschedKeys n) := by
  intro k hk
  obtain ⟨hflag, hlate⟩ := State.rd_rescheduled_of_notMem (s := s) hk
  rw [hflag, State.slotPages, hnone]
  exact hlate

end
end Sys2Proof.Machine
end

section
/-! The commands by which the two modules of a pair agree a slot. -/

namespace Sys2Proof.Machine

section
variable {s : State}

/-! ## SLOT -/

/-- The slot's registers and its target, as a SLOT message brings them. -/
def State.slotTaken (s : State) (n target action mask0 mask1 mask2 mask3 : Nat) : State :=
  (s.setSlot n {}).wrs [(Reg.APPLY_SLOT_TARGET n, target), (Reg.APPLY_SLOT_ACTION n, action), (Reg.APPLY_SLOT_MASK0 n, mask0),
    (Reg.APPLY_SLOT_MASK1 n, mask1), (Reg.APPLY_SLOT_MASK2 n, mask2), (Reg.APPLY_SLOT_MASK3 n, mask3)]

/-- The messages that wait for their forwarded writes. -/
def State.slotWaits (s : State) (l : List (List Nat)) : State := s.modPair (fun p => { p with slotWait := l })

theorem State.wrs_setSlot (n : Nat) (x : Slot) (l : List (Nat × Nat)) : (s.setSlot n x).wrs l = (s.wrs l).setSlot n x := by
  induction l generalizing s with
  | nil => rfl
  | cons p l ih => exact ih (s := s.wr p.1 p.2)

theorem execSlotMessage_of_follows (n : Fin 32) (target action mask0 mask1 mask2 mask3 fwd crc : Nat)
    (hpair : s.pairMode = true) (hfollows : s.follows = true) (hwait : s.pair.slotWait = []) :
    exec (.slotMessage n target action mask0 mask1 mask2 mask3 fwd crc) s =
      .next ((s.slotTaken n target action mask0 mask1 mask2 mask3).slotWaits [[n, fwd, crc]]).judgeWaiting := by
  have hempty : (s.slotTaken n target action mask0 mask1 mask2 mask3).pair.slotWait = [] := hwait
  unfold exec execSlotMessage
  dsimp only
  rw [hpair, hfollows, if_neg (by decide)]
  change Host.Outcome.next ((s.slotTaken n target action mask0 mask1 mask2 mask3).modPair _).judgeWaiting = _
  rw [State.slotWaits, State.modPair, State.modPair, hempty]
  rfl

theorem execSlotMessage_of_not (n : Fin 32) (target action mask0 mask1 mask2 mask3 fwd crc : Nat)
    (h : s.pairMode = false ∨ s.follows = false) :
    exec (.slotMessage n target action mask0 mask1 mask2 mask3 fwd crc) s = .next s := by
  unfold exec execSlotMessage
  dsimp only
  exact if_pos (by obtain h | h := h <;> simp [h])

theorem State.judgeWaiting_of_behind {n fwd crc : Nat} (hfwd : sdiff 16 (smGet (fun _ => 0) (s.peerPort 2).rxSeq 2) fwd < 0) :
    (s.slotWaits [[n, fwd, crc]]).judgeWaiting = s.slotWaits [[n, fwd, crc]] := by
  have hready : decide (0 ≤ sdiff 16 (smGet (fun _ => 0) ((s.slotWaits [[n, fwd, crc]]).peerPort 2).rxSeq 2) fwd) = false :=
    decide_eq_false (not_le_of_gt hfwd)
  unfold State.judgeWaiting
  dsimp only
  rw [show (s.slotWaits [[n, fwd, crc]]).pair.slotWait = [[n, fwd, crc]] from rfl, List.filter_cons_of_neg (by
    change ¬ decide (0 ≤ sdiff 16 (smGet (fun _ => 0) ((s.slotWaits [[n, fwd, crc]]).peerPort 2).rxSeq 2) fwd) = true
    rw [hready]; decide)]
  change (s.slotWaits [[n, fwd, crc]]).modPair (fun p => { p with slotWait := [[n, fwd, crc]].filter _ }) = _
  rw [List.filter_cons_of_pos (by
    change (!decide (0 ≤ sdiff 16 (smGet (fun _ => 0) ((s.slotWaits [[n, fwd, crc]]).peerPort 2).rxSeq 2) fwd)) = true
    rw [hready]; rfl)]
  rfl

theorem State.judgeWaiting_of_due {n fwd crc : Nat} (hfwd : 0 ≤ sdiff 16 (smGet (fun _ => 0) (s.peerPort 2).rxSeq 2) fwd) :
    (s.slotWaits [[n, fwd, crc]]).judgeWaiting = (s.slotWaits []).judgeSlot n crc := by
  have hready : decide (0 ≤ sdiff 16 (smGet (fun _ => 0) ((s.slotWaits [[n, fwd, crc]]).peerPort 2).rxSeq 2) fwd) = true :=
    decide_eq_true hfwd
  unfold State.judgeWaiting
  dsimp only
  rw [show (s.slotWaits [[n, fwd, crc]]).pair.slotWait = [[n, fwd, crc]] from rfl, List.filter_cons_of_pos (by
    change decide (0 ≤ sdiff 16 (smGet (fun _ => 0) ((s.slotWaits [[n, fwd, crc]]).peerPort 2).rxSeq 2) fwd) = true
    exact hready)]
  change ((s.slotWaits [[n, fwd, crc]]).modPair (fun p => { p with slotWait := [[n, fwd, crc]].filter _ })).judgeSlot n crc = _
  rw [List.filter_cons_of_neg (by
    change ¬ (!decide (0 ≤ sdiff 16 (smGet (fun _ => 0) ((s.slotWaits [[n, fwd, crc]]).peerPort 2).rxSeq 2) fwd)) = true
    rw [hready]; decide)]
  rfl

/-- The registers that a SLOT message brings. -/
def slotMessageKeys (n : Nat) : List Nat :=
  [Reg.APPLY_SLOT_TARGET n, Reg.APPLY_SLOT_ACTION n, Reg.APPLY_SLOT_MASK0 n, Reg.APPLY_SLOT_MASK1 n, Reg.APPLY_SLOT_MASK2 n,
    Reg.APPLY_SLOT_MASK3 n]

section
variable (n target action mask0 mask1 mask2 mask3 : Nat)

theorem State.slotTaken_eq : s.slotTaken n target action mask0 mask1 mask2 mask3 =
    ((((((s.setSlot n {}).wr (Reg.APPLY_SLOT_TARGET n) target).wr (Reg.APPLY_SLOT_ACTION n) action).wr
      (Reg.APPLY_SLOT_MASK0 n) mask0).wr (Reg.APPLY_SLOT_MASK1 n) mask1).wr (Reg.APPLY_SLOT_MASK2 n) mask2).wr
      (Reg.APPLY_SLOT_MASK3 n) mask3 := rfl

theorem State.regsBut_slotTaken : s.regsBut (s.slotTaken n target action mask0 mask1 mask2 mask3) (slotMessageKeys n) := by
  intro k hk
  simp only [slotMessageKeys, List.mem_cons, List.not_mem_nil, or_false, not_or] at hk
  obtain ⟨htarget, haction, h0, h1, h2, h3⟩ := hk
  rw [State.slotTaken_eq, State.rd_wr_of_ne _ _ h3, State.rd_wr_of_ne _ _ h2, State.rd_wr_of_ne _ _ h1,
    State.rd_wr_of_ne _ _ h0, State.rd_wr_of_ne _ _ haction, State.rd_wr_of_ne _ _ htarget]
  rfl

theorem State.slotTarget_slotTaken :
    (s.slotTaken n target action mask0 mask1 mask2 mask3).rd (Reg.APPLY_SLOT_TARGET n) = target % 2 ^ 32 := by
  rw [State.slotTaken_eq, State.rd_wr_of_ne _ _ (by simp), State.rd_wr_of_ne _ _ (by simp), State.rd_wr_of_ne _ _ (by simp),
    State.rd_wr_of_ne _ _ (by simp), State.rd_wr_of_ne _ _ (by simp), State.rd_wr_same]

theorem State.slotAction_slotTaken :
    (s.slotTaken n target action mask0 mask1 mask2 mask3).rd (Reg.APPLY_SLOT_ACTION n) = action % 2 ^ 32 := by
  rw [State.slotTaken_eq, State.rd_wr_of_ne _ _ (by simp), State.rd_wr_of_ne _ _ (by simp), State.rd_wr_of_ne _ _ (by simp),
    State.rd_wr_of_ne _ _ (by simp), State.rd_wr_same]

theorem State.slotMask_slotTaken :
    (s.slotTaken n target action mask0 mask1 mask2 mask3).rd (Reg.APPLY_SLOT_MASK0 n) = mask0 % 2 ^ 32 := by
  rw [State.slotTaken_eq, State.rd_wr_of_ne _ _ (by simp), State.rd_wr_of_ne _ _ (by simp), State.rd_wr_of_ne _ _ (by simp),
    State.rd_wr_same]

theorem State.slotSt_slotTaken : (s.slotTaken n target action mask0 mask1 mask2 mask3).slotSt n = s.slotSt n :=
  State.slotSt_of_rd (State.regsBut_slotTaken n target action mask0 mask1 mask2 mask3 _ (by simp [slotMessageKeys]))

theorem State.agree_slotTaken : s.Agree [.slots] (s.slotTaken n target action mask0 mask1 mask2 mask3) := by
  simp [State.slotTaken_eq, State.setSlot]

theorem State.slotRegion_slotTaken (l : List (List Nat)) :
    ((s.slotTaken n target action mask0 mask1 mask2 mask3).slotWaits l).slotRegion n =
      (s.wrs [(Reg.APPLY_SLOT_TARGET n, target), (Reg.APPLY_SLOT_ACTION n, action), (Reg.APPLY_SLOT_MASK0 n, mask0),
        (Reg.APPLY_SLOT_MASK1 n, mask1), (Reg.APPLY_SLOT_MASK2 n, mask2), (Reg.APPLY_SLOT_MASK3 n, mask3)]).slotRegion n := by
  have hregion (v : State) (x : Slot) : ((v.setSlot n x).slotWaits l).slotRegion n = v.slotRegion n := rfl
  rw [State.slotTaken, State.wrs_setSlot, hregion]

/-- The link to the partner is what it was before a SLOT message. -/
theorem State.stCode_slotTaken (l : List (List Nat)) (hn : n < 32) :
    ((s.slotTaken n target action mask0 mask1 mask2 mask3).slotWaits l).stCode (Reg.pagePEER 2) = s.stCode (Reg.pagePEER 2) :=
  State.rdF_of_rd_eq (State.regsBut_slotTaken n target action mask0 mask1 mask2 mask3 _
    (by simp only [slotMessageKeys, List.mem_cons, List.not_mem_nil, or_false, Reg.STATUS, Reg.pagePEER]; simp; omega))

end

/-- The slot is acknowledged. -/
def State.slotAcked (s : State) (n : Nat) : State := (s.setSlotSt n 7).setSlot n { s.slot n with acked := true }

theorem State.judgeSlot_of_same {n crc : Nat} (h : crc32c (s.slotRegion n) = crc) :
    s.judgeSlot n crc = (s.slotAcked n).toPartner 1 0x11 [n] := if_pos h

theorem State.judgeSlot_of_other {n crc : Nat} (h : crc32c (s.slotRegion n) ≠ crc) :
    s.judgeSlot n crc = s.toPartner 1 0x12 [n] := if_neg h

theorem State.rd_setSlot (n : Nat) (x : Slot) (k : Nat) : (s.setSlot n x).rd k = s.rd k := rfl

theorem State.agree_setSlot {ps : List Part} {t : State} (n : Nat) (x : Slot) (hslots : .slots ∈ ps) :
    s.Agree ps (t.setSlot n x) ↔ s.Agree ps t := by
  simp [State.setSlot, hslots]

theorem State.rd_slotAcked_of_ne {n k : Nat} (h : k ≠ Reg.APPLY_SLOT_STATUS n) : (s.slotAcked n).rd k = s.rd k := by
  rw [State.slotAcked, State.rd_setSlot, State.rd_setSlotSt_of_ne h]

theorem State.slotSt_slotAcked (n : Nat) : (s.slotAcked n).slotSt n = 7 :=
  (State.slotSt_of_rd (by rw [State.slotAcked, State.rd_setSlot])).trans (State.slotSt_setSlotSt (s := s) (by decide))

theorem State.agree_slotAcked {ps : List Part} {t : State} (n : Nat) (hslots : .slots ∈ ps) :
    s.Agree ps (t.slotAcked n) ↔ s.Agree ps t := by
  rw [State.slotAcked, State.agree_setSlot _ _ hslots, State.setSlotSt, State.agree_wrF]

/-- A frame to the partner after changes that leave the ports and what was sent alone. -/
theorem State.toPartner_out_of {t : State} {cls kind : Nat} {fields : List Nat} (hring : t.ring = s.ring) (hout : t.out = s.out)
    (hup : t.stCode (Reg.pagePEER 2) = 4) :
    (t.toPartner cls kind fields).out = s.out ++ [Out.peer 2 cls (s.partnerSeq cls) kind fields] := by
  rw [State.toPartner_out hup, hout, State.partnerSeq, State.peerPort, hring]
  rfl

theorem State.agree_slotWaits_slotTaken (n target action mask0 mask1 mask2 mask3 : Nat) (l : List (List Nat)) :
    s.Agree [.slots, .pair] ((s.slotTaken n target action mask0 mask1 mask2 mask3).slotWaits l) := by
  simp [State.slotWaits, State.modPair, (State.agree_slotTaken n target action mask0 mask1 mask2 mask3).mono]

theorem State.peerPort_slotTaken (n target action mask0 mask1 mask2 mask3 p : Nat) :
    (s.slotTaken n target action mask0 mask1 mask2 mask3).peerPort p = s.peerPort p := by
  rw [State.peerPort, State.agree_slotTaken n target action mask0 mask1 mask2 mask3 .ring (by simp)]
  rfl

/-- A SLOT message whose forwarded writes have all been applied is judged at once. -/
theorem execSlotMessage_of_due (n : Fin 32) (target action mask0 mask1 mask2 mask3 fwd crc : Nat)
    (hpair : s.pairMode = true) (hfollows : s.follows = true) (hwait : s.pair.slotWait = [])
    (hfwd : 0 ≤ sdiff 16 (smGet (fun _ => 0) (s.peerPort 2).rxSeq 2) fwd) :
    exec (.slotMessage n target action mask0 mask1 mask2 mask3 fwd crc) s =
      .next (((s.slotTaken n target action mask0 mask1 mask2 mask3).slotWaits []).judgeSlot n crc) := by
  rw [execSlotMessage_of_follows n _ _ _ _ _ _ _ _ hpair hfollows hwait, State.judgeWaiting_of_due]
  rw [State.peerPort_slotTaken]
  exact hfwd

section
variable (n : Fin 32) (target action mask0 mask1 mask2 mask3 fwd crc : Nat)

theorem slotMessage_waits (hpair : s.pairMode = true) (hfollows : s.follows = true) (hwait : s.pair.slotWait = [])
    (hfwd : sdiff 16 (smGet (fun _ => 0) (s.peerPort 2).rxSeq 2) fwd < 0) :
    ∃ u : State, exec (.slotMessage n target action mask0 mask1 mask2 mask3 fwd crc) s = .next u ∧
      u.rd (Reg.APPLY_SLOT_TARGET n) = target % 2 ^ 32 ∧ u.rd (Reg.APPLY_SLOT_ACTION n) = action % 2 ^ 32 ∧
      u.rd (Reg.APPLY_SLOT_MASK0 n) = mask0 % 2 ^ 32 ∧ u.pair = { s.pair with slotWait := [[n, fwd, crc]] } ∧
      u.slot n = {} ∧ u.slotSt n = s.slotSt n ∧ s.regsBut u (slotMessageKeys n) ∧
      { u with regs := s.regs, slots := s.slots, pair := s.pair } = s := by
  have hn := n.isLt
  have hrd (k : Nat) : ((s.slotTaken n target action mask0 mask1 mask2 mask3).slotWaits [[n.val, fwd, crc]]).rd k =
    (s.slotTaken n target action mask0 mask1 mask2 mask3).rd k := rfl
  refine ⟨_, (execSlotMessage_of_follows n _ _ _ _ _ _ _ _ hpair hfollows hwait).trans
    (congrArg _ (State.judgeWaiting_of_behind hfwd)), ?_, ?_, ?_, rfl, ?_, ?_, ?_, ?_⟩
  · rw [hrd, State.slotTarget_slotTaken]
  · rw [hrd, State.slotAction_slotTaken]
  · rw [hrd, State.slotMask_slotTaken]
  · have hslot : (s.setSlot n {}).slot n = {} := State.slot_setSlot n.val {}
    rw [← hslot, State.slotTaken, State.wrs_setSlot]
    rfl
  · rw [State.slotSt_of_rd (hrd _), State.slotSt_slotTaken]
  · exact fun k hk => (hrd k).trans (State.regsBut_slotTaken n _ _ _ _ _ _ k hk)
  · refine State.Agree.revert_eq (ps := [.slots, .pair]) ?_
    exact (State.agree_slotWaits_slotTaken n target action mask0 mask1 mask2 mask3 _).mono (by simp)

/-- The slot's regions as a SLOT message of these registers names them. -/
def State.slotMessageRegion (s : State) (n target action mask0 mask1 mask2 mask3 : Nat) : List Byte :=
  (s.wrs [(Reg.APPLY_SLOT_TARGET n, target), (Reg.APPLY_SLOT_ACTION n, action), (Reg.APPLY_SLOT_MASK0 n, mask0),
    (Reg.APPLY_SLOT_MASK1 n, mask1), (Reg.APPLY_SLOT_MASK2 n, mask2), (Reg.APPLY_SLOT_MASK3 n, mask3)]).slotRegion n

theorem slotMessage_nak (hup : s.stCode (Reg.pagePEER 2) = 4) (hpair : s.pairMode = true) (hfollows : s.follows = true)
    (hwait : s.pair.slotWait = []) (hfwd : 0 ≤ sdiff 16 (smGet (fun _ => 0) (s.peerPort 2).rxSeq 2) fwd)
    (hcrc : crc32c (s.slotMessageRegion n target action mask0 mask1 mask2 mask3) ≠ crc) :
    ∃ u : State, exec (.slotMessage n target action mask0 mask1 mask2 mask3 fwd crc) s = .next u ∧
      u.rd (Reg.APPLY_SLOT_TARGET n) = target % 2 ^ 32 ∧
      u.out = s.out ++ [Out.peer 2 1 (s.partnerSeq 1) 0x12 [n]] ∧ u.slotSt n = s.slotSt n ∧
      s.regsBut u (slotMessageKeys n) ∧
      { u with regs := s.regs, slots := s.slots, pair := s.pair, ring := s.ring, out := s.out } = s := by
  have hn := n.isLt
  have hjudge : crc32c (((s.slotTaken n target action mask0 mask1 mask2 mask3).slotWaits []).slotRegion n) ≠ crc := by
    rw [State.slotRegion_slotTaken]
    exact hcrc
  have hrd (k : Nat) : ((((s.slotTaken n target action mask0 mask1 mask2 mask3).slotWaits []).toPartner 1 0x12 [n.val])).rd k =
    (s.slotTaken n target action mask0 mask1 mask2 mask3).rd k := State.rd_toPartner ..
  refine ⟨_, (execSlotMessage_of_due n _ _ _ _ _ _ _ _ hpair hfollows hwait hfwd).trans
    (congrArg _ (State.judgeSlot_of_other hjudge)), ?_, ?_, ?_, ?_, ?_⟩
  · rw [hrd, State.slotTarget_slotTaken]
  · have hagree := State.agree_slotWaits_slotTaken (s := s) n target action mask0 mask1 mask2 mask3 []
    exact State.toPartner_out_of (hagree .ring (by simp)) (hagree .out (by simp))
      ((State.stCode_slotTaken n _ _ _ _ _ _ [] hn).trans hup)
  · rw [State.slotSt_of_rd (hrd _), State.slotSt_slotTaken]
  · exact fun k hk => (hrd k).trans (State.regsBut_slotTaken n _ _ _ _ _ _ k hk)
  · refine State.Agree.revert_eq (ps := [.slots, .pair, .ring, .out]) ?_
    rw [State.agree_toPartner _ _ _ (by simp) (by simp)]
    exact (State.agree_slotWaits_slotTaken n target action mask0 mask1 mask2 mask3 _).mono (by simp)

theorem slotMessage_ack (hup : s.stCode (Reg.pagePEER 2) = 4) (hpair : s.pairMode = true) (hfollows : s.follows = true)
    (hwait : s.pair.slotWait = []) (hfwd : 0 ≤ sdiff 16 (smGet (fun _ => 0) (s.peerPort 2).rxSeq 2) fwd)
    (hcrc : crc32c (s.slotMessageRegion n target action mask0 mask1 mask2 mask3) = crc) :
    ∃ u : State, exec (.slotMessage n target action mask0 mask1 mask2 mask3 fwd crc) s = .next u ∧
      u.slotSt n = 7 ∧ (u.slot n).acked = true ∧ u.out = s.out ++ [Out.peer 2 1 (s.partnerSeq 1) 0x11 [n]] ∧
      s.regsBut u (slotMessageKeys n ++ [Reg.APPLY_SLOT_STATUS n]) ∧
      { u with regs := s.regs, slots := s.slots, pair := s.pair, ring := s.ring, out := s.out } = s := by
  have hn := n.isLt
  have hjudge : crc32c (((s.slotTaken n target action mask0 mask1 mask2 mask3).slotWaits []).slotRegion n) = crc := by
    rw [State.slotRegion_slotTaken]
    exact hcrc
  have hup' : (((s.slotTaken n target action mask0 mask1 mask2 mask3).slotWaits []).slotAcked n).stCode (Reg.pagePEER 2) = 4 :=
    (State.rdF_of_rd_eq (State.rd_slotAcked_of_ne (by simp; omega))).trans
      ((State.stCode_slotTaken n _ _ _ _ _ _ [] hn).trans hup)
  refine ⟨_, (execSlotMessage_of_due n _ _ _ _ _ _ _ _ hpair hfollows hwait hfwd).trans
    (congrArg _ (State.judgeSlot_of_same hjudge)), ?_, ?_, ?_, ?_, ?_⟩
  · exact (State.slotSt_of_rd (State.rd_toPartner ..)).trans (State.slotSt_slotAcked n)
  · rw [State.slot_toPartner, State.slotAcked, State.slot_setSlot]
  · have hagree : s.Agree [.slots, .pair] (((s.slotTaken n target action mask0 mask1 mask2 mask3).slotWaits []).slotAcked n) :=
      (State.agree_slotAcked _ (by simp)).2 (State.agree_slotWaits_slotTaken n _ _ _ _ _ _ [])
    exact State.toPartner_out_of (hagree .ring (by simp)) (hagree .out (by simp)) hup'
  · intro k hk
    rw [List.mem_append, not_or] at hk
    rw [State.rd_toPartner, State.rd_slotAcked_of_ne (by simpa using hk.2)]
    exact State.regsBut_slotTaken n target action mask0 mask1 mask2 mask3 k hk.1
  · refine State.Agree.revert_eq (ps := [.slots, .pair, .ring, .out]) ?_
    rw [State.agree_toPartner _ _ _ (by simp) (by simp), State.agree_slotAcked _ (by simp)]
    exact (State.agree_slotWaits_slotTaken n target action mask0 mask1 mask2 mask3 _).mono (by simp)

end

/-! ## SLOT_ACK, SLOT_NAK and the deadline -/

theorem execSlotAck_of_confirmed (n : Fin 32) (hleads : s.leads = true) (hpaired : s.paired = true) (hst : s.slotSt n = 7)
    (hearly : 0 ≤ ldiff (ladd (s.slotTarget n) (-16)) s.nextLine) :
    exec (.slotAck n) s = .next ((s.setSlotSt n 1).toPartner 1 0x13 [n]) := by
  unfold exec execSlotAck
  exact if_pos (by simp [hleads, hpaired, hst, hearly])

theorem execSlotAck_of_not (n : Fin 32) (h : s.leads = false ∨ s.paired = false ∨ s.slotSt n ≠ 7 ∨
    ldiff (ladd (s.slotTarget n) (-16)) s.nextLine < 0) : exec (.slotAck n) s = .next s := by
  unfold exec execSlotAck
  exact if_neg (by obtain h | h | h | h := h <;> simp [h])

theorem execSlotNak_of_not (n : Fin 32) (h : s.leads = false ∨ s.paired = false ∨ s.slotSt n ≠ 7) :
    exec (.slotNak n) s = .next s := by
  unfold exec execSlotNak
  exact if_neg (by obtain h | h | h := h <;> simp [h])

theorem execSlotNak_of_waiting (n : Fin 32) (hleads : s.leads = true) (hpaired : s.paired = true) (hst : s.slotSt n = 7) :
    exec (.slotNak n) s = .next (((s.count Reg.PAIR_DIGEST_FAIL).sendRegions n).reschedule n 0) := by
  unfold exec execSlotNak
  exact if_pos (by simp [hleads, hpaired, hst])

theorem execSlotAckDeadline_of_late (n : Fin 32) (hleads : s.leads = true) (hst : s.slotSt n = 7)
    (hlate : 0 < ldiff s.nextLine (ladd (s.slotTarget n) (-16))) : exec (.slotAckDeadline n) s =
      if s.paired then .next (s.reschedule n 0) else if s.frozenPair then .next (s.slotRefuse n 0x0009 0) else .next s := by
  unfold exec execSlotAckDeadline
  exact if_pos (by simp [hleads, hst, hlate])

/-- A slot without targets has no regions to forward again. -/
theorem State.sendRegions_of_none {n : Nat} (hnone : s.slotTargets n = []) : s.sendRegions n = s := by
  unfold State.sendRegions
  rw [hnone]
  rfl

theorem nakRescheduled (n : Fin 32) (hleads : s.leads = true) (hpaired : s.paired = true) (hst : s.slotSt n = 7)
    (hmax : (s.slot n).resched < s.reschedMax) (hnone : s.slotTargets n = []) :
    ∃ u : State, exec (.slotNak n) s = .next u ∧
      u.slotSt n = 7 ∧ u.slotTarget n = ladd s.nextLine s.guard ∧ (u.slot n).resched = (s.slot n).resched + 1 ∧
      u.rd Reg.PAIR_DIGEST_FAIL = satInc 32 (s.rd Reg.PAIR_DIGEST_FAIL) ∧ s.errored u Reg.pageAPPLY 0x000A 0 0 ∧
      s.regsBut u (reschedKeys n ++ [Reg.PAIR_DIGEST_FAIL]) ∧
      { u with regs := s.regs, slots := s.slots, ring := s.ring, out := s.out, pair := s.pair } = s := by
  have hn := n.isLt
  have hcount {k : Nat} (hk : k ≠ Reg.PAIR_DIGEST_FAIL) : (s.count Reg.PAIR_DIGEST_FAIL).rd k = s.rd k :=
    State.rd_count_of_ne _ hk
  have hnone' : (s.count Reg.PAIR_DIGEST_FAIL).slotTargets n = [] := by
    have hpages : (s.count Reg.PAIR_DIGEST_FAIL).slotPages n = s.slotPages n := by
      refine State.slotPages_of_rd ?_ ?_ ?_ ?_ ?_ <;> exact hcount (by simp; omega)
    rw [State.slotPages, State.slotPages, hnone, List.map_nil] at hpages
    exact List.map_eq_nil_iff.1 hpages
  have hmax' : ((s.count Reg.PAIR_DIGEST_FAIL).slot n).resched < (s.count Reg.PAIR_DIGEST_FAIL).reschedMax := by
    rw [State.reschedMax, State.rdF_of_rd_eq (hcount (by decide))]
    exact hmax
  have hline : (s.count Reg.PAIR_DIGEST_FAIL).nextLine = s.nextLine := hcount (by decide)
  have hguard : (s.count Reg.PAIR_DIGEST_FAIL).guard = s.guard := State.rdF_of_rd_eq (hcount (by decide))
  obtain ⟨herr, -, -⟩ := State.rescheduled_flags (s := s.count Reg.PAIR_DIGEST_FAIL) n
  refine ⟨_, execSlotNak_of_waiting n hleads hpaired hst, ?_⟩
  rw [State.sendRegions_of_none hnone', State.reschedule_eq n hmax']
  refine ⟨(State.slotSt_of_rd (State.rd_toPartner ..)).trans (State.slotSt_rescheduled n), ?_, ?_, ?_, ?_, ?_, ?_⟩
  · rw [← hline, ← hguard]
    exact (State.rd_toPartner ..).trans (State.slotTarget_rescheduled n)
  · rw [State.sendSlot, State.slot_toPartner, State.slot_rescheduled]
    rfl
  · rw [State.sendSlot, State.rd_toPartner, State.regsBut_rescheduled hnone' _ (by simp [reschedKeys]; omega), State.rd_count_same]
  · refine State.errored_of_rd (u := (s.count Reg.PAIR_DIGEST_FAIL).rescheduled n) ?_ (State.rd_toPartner ..)
      (State.rd_toPartner ..) (State.bit_of_rd_eq (State.rd_toPartner ..))
    unfold State.errored at herr ⊢
    rw [hcount (by decide), hcount (by decide)] at herr
    exact herr
  · intro k hk
    rw [List.mem_append, not_or] at hk
    rw [State.sendSlot, State.rd_toPartner, State.regsBut_rescheduled hnone' k hk.1, hcount (by simpa using hk.2)]
  · refine State.Agree.revert_eq (ps := [.slots, .ring, .out, .pair]) ?_
    rw [State.sendSlot, State.agree_toPartner _ _ _ (by simp) (by simp)]
    have hcounted : s.Agree [.slots, .ring, .out, .pair] (s.count Reg.PAIR_DIGEST_FAIL) := by simp
    exact hcounted.trans ((State.agree_rescheduled n).mono (by simp))

/-! ## CONFIRM, doubt and cancellation at the follower -/

theorem execSlotConfirm_of_acked (n : Fin 32) (hfollows : s.follows = true) (hst : s.slotSt n = 7)
    (hacked : (s.slot n).acked = true) (hearly : 0 ≤ ldiff (ladd (s.slotTarget n) (-8)) s.nextLine) :
    exec (.slotConfirm n) s = .next (s.setSlotSt n 1) := by
  unfold exec execSlotConfirm
  exact if_pos (by simp [hfollows, hst, hacked, hearly])

theorem execSlotConfirm_of_not (n : Fin 32) (h : s.follows = false ∨ s.slotSt n ≠ 7 ∨ (s.slot n).acked = false ∨
    ldiff (ladd (s.slotTarget n) (-8)) s.nextLine < 0) : exec (.slotConfirm n) s = .next s := by
  unfold exec execSlotConfirm
  exact if_neg (by obtain h | h | h | h := h <;> simp [h])

/-- A slot in doubt: its channels are ABSENT from its target on. -/
def State.doubted (s : State) (n : Nat) : State :=
  ((s.absentFor (s.slotReach n) (s.slotTarget n)).modPair (fun p => { p with inDoubt := p.inDoubt ++ [n] })).showDoubt

theorem execInDoubt_of_late (n : Fin 32) (hfollows : s.follows = true) (hst : s.slotSt n = 7)
    (hacked : (s.slot n).acked = true) (hline : (s.slot n).fromLine = none) (hnew : n.val ∉ s.pair.inDoubt)
    (hlate : 0 < ldiff s.nextLine (ladd (s.slotTarget n) (-8))) (hup : s.peerUp 2 = true) :
    exec (.inDoubt n) s = .next ((s.doubted n).toPartner 1 0x14 [n]) := by
  unfold exec execInDoubt
  dsimp only
  rw [if_pos (by simp [hfollows, hst, hacked, hline, hnew, hlate])]
  exact congrArg Host.Outcome.next (if_pos hup)

theorem execInDoubt_of_not (n : Fin 32) (h : s.follows = false ∨ s.slotSt n ≠ 7 ∨ n.val ∈ s.pair.inDoubt) :
    exec (.inDoubt n) s = .next s := by
  unfold exec execInDoubt
  exact if_neg (by obtain h | h | h := h <;> simp [h])

theorem execInDoubtAnswer_of_not (n : Fin 32) (applied : Bool) (line : Nat) (h : n.val ∉ s.pair.inDoubt) :
    exec (.inDoubtAnswer n applied line) s = .next s := by
  unfold exec execInDoubtAnswer
  exact if_pos (by simp [h])

/-- The slot is in doubt no more. -/
def State.undoubted (s : State) (n : Nat) : State :=
  (s.modPair (fun p => { p with inDoubt := p.inDoubt.filter (· != n) })).showDoubt

theorem State.rd_undoubted_of_ne {n k : Nat} (h : k ≠ Reg.PAIR_PAIR_STATUS) : (s.undoubted n).rd k = s.rd k :=
  State.rd_wrB_of_ne _ _ _ h

theorem execInDoubtAnswer_of_doubt (n : Fin 32) (applied : Bool) (line : Nat) (h : n.val ∈ s.pair.inDoubt) :
    exec (.inDoubtAnswer n applied line) s =
      if applied then .next (((s.undoubted n).setSlot n { s.slot n with fromLine := some line }).resumeFor (s.slotReach n) line)
      else .next (((s.undoubted n).setSlotSt n 6).modPair (fun p => { p with
        absentFrom := p.absentFrom.filter (fun e => !((s.slotReach n).contains e.1 &&
          e.2 == (s.undoubted n).slotTarget n)) })) := by
  unfold exec execInDoubtAnswer
  dsimp only
  rw [if_neg (by simp [h])]
  rfl

theorem State.rd_doubted_of_ne {n k : Nat} (h : k ≠ Reg.PAIR_PAIR_STATUS) : (s.doubted n).rd k = s.rd k :=
  State.rd_wrB_of_ne _ _ _ h

theorem inDoubt_asks (n : Fin 32) (hup : s.stCode (Reg.pagePEER 2) = 4) (hfollows : s.follows = true) (hst : s.slotSt n = 7)
    (hacked : (s.slot n).acked = true) (hline : (s.slot n).fromLine = none) (hnew : n.val ∉ s.pair.inDoubt)
    (hlate : 0 < ldiff s.nextLine (ladd (s.slotTarget n) (-8))) (hpeer : s.peerUp 2 = true) :
    ∃ u : State, exec (.inDoubt n) s = .next u ∧
      u.pair = { s.pair with inDoubt := s.pair.inDoubt ++ [n.val], absentFrom := s.pair.absentFrom ++ (s.slotReach n).map (fun c => (c, s.slotTarget n)) } ∧
      u.bit Reg.PAIR_PAIR_STATUS 13 = true ∧ u.out = s.out ++ [Out.peer 2 1 (s.partnerSeq 1) 0x14 [n]] ∧
      s.regsBut u [Reg.PAIR_PAIR_STATUS] ∧
      { u with regs := s.regs, pair := s.pair, ring := s.ring, out := s.out } = s := by
  refine ⟨_, execInDoubt_of_late n hfollows hst hacked hline hnew hlate hpeer, ?_, ?_, ?_, ?_, ?_⟩
  · rw [State.toPartner_eq]
    rfl
  · rw [State.bit_of_rd_eq (State.rd_toPartner ..), State.doubted, State.showDoubt, State.bit_wrB_same _ _ _ _ (by decide)]
    simp [State.modPair]
  · exact State.toPartner_out_of rfl rfl ((State.rdF_of_rd_eq (State.rd_doubted_of_ne (by decide))).trans hup)
  · intro k hk
    rw [State.rd_toPartner, State.rd_doubted_of_ne (by simpa using hk)]
  · refine State.Agree.revert_eq (ps := [.pair, .ring, .out]) ?_
    rw [State.agree_toPartner _ _ _ (by simp) (by simp), State.doubted, State.showDoubt, State.agree_wrB]
    simp [State.absentFor, State.modPair]

theorem inDoubtAnswer_applies (n : Fin 32) (line : Nat) (h : n.val ∈ s.pair.inDoubt) :
    ∃ u : State, exec (.inDoubtAnswer n true line) s = .next u ∧ (u.slot n).fromLine = some line ∧
      u.pair = { s.pair with inDoubt := s.pair.inDoubt.filter (· != n.val), resumeAt := s.pair.resumeAt ++ (s.slotReach n).map (fun c => (c, line)) } ∧
      u.bit Reg.PAIR_PAIR_STATUS 13 = !u.pair.inDoubt.isEmpty ∧ u.slotSt n = s.slotSt n ∧
      s.regsBut u [Reg.PAIR_PAIR_STATUS] ∧ { u with regs := s.regs, pair := s.pair, slots := s.slots } = s := by
  have hn := n.isLt
  have hrd (k : Nat) : (((s.undoubted n).setSlot n { s.slot n with fromLine := some line }).resumeFor (s.slotReach n) line).rd k =
    (s.undoubted n).rd k := rfl
  refine ⟨_, (execInDoubtAnswer_of_doubt n true line h).trans (if_pos rfl), ?_, rfl, ?_, ?_, ?_, rfl⟩
  · exact congrArg Slot.fromLine (State.slot_setSlot (s := s.undoubted n) n.val { s.slot n with fromLine := some line })
  · rw [State.bit_of_rd_eq (hrd _), State.undoubted, State.showDoubt, State.bit_wrB_same _ _ _ _ (by decide)]
    rfl
  · exact State.slotSt_of_rd ((hrd _).trans (State.rd_undoubted_of_ne (by simp; omega)))
  · exact fun k hk => (hrd k).trans (State.rd_undoubted_of_ne (by simpa using hk))

theorem inDoubtAnswer_discards (n : Fin 32) (line : Nat) (h : n.val ∈ s.pair.inDoubt) :
    ∃ u : State, exec (.inDoubtAnswer n false line) s = .next u ∧ u.slotSt n = 6 ∧
      u.pair = { s.pair with inDoubt := s.pair.inDoubt.filter (· != n.val), absentFrom := s.pair.absentFrom.filter (fun e => !((s.slotReach n).contains e.1 && e.2 == s.slotTarget n)) } ∧
      s.regsBut u [Reg.PAIR_PAIR_STATUS, Reg.APPLY_SLOT_STATUS n] ∧ { u with regs := s.regs, pair := s.pair } = s := by
  have hn := n.isLt
  have htarget : (s.undoubted n).slotTarget n = s.slotTarget n := State.rd_undoubted_of_ne (by simp; omega)
  refine ⟨_, (execInDoubtAnswer_of_doubt n false line h).trans (if_neg Bool.false_ne_true), ?_, ?_, ?_, rfl⟩
  · exact State.slotSt_setSlotSt (s := s.undoubted n) (by decide)
  · rw [htarget]
    rfl
  · intro k hk
    simp only [List.mem_cons, List.not_mem_nil, or_false, not_or] at hk
    exact (State.rd_setSlotSt_of_ne (s := s.undoubted n) hk.2).trans (State.rd_undoubted_of_ne hk.1)

theorem execSlotCancelMessage_of_live (n : Fin 32) (hfollows : s.follows = true) (hst : s.slotSt n = 1 ∨ s.slotSt n = 7) :
    exec (.slotCancelMessage n) s =
      .next ((s.setSlotSt n 6).slotWaits (s.pair.slotWait.filter (fun m => m.getD 0 0 != n.val))) := by
  unfold exec execSlotCancelMessage
  exact if_pos (by obtain h | h := hst <;> simp [hfollows, h])

theorem execSlotCancelMessage_of_not (n : Fin 32) (h : s.follows = false ∨ s.slotSt n ≠ 1 ∧ s.slotSt n ≠ 7) :
    exec (.slotCancelMessage n) s = .next s := by
  unfold exec execSlotCancelMessage
  refine if_neg ?_
  obtain h | ⟨h, h'⟩ := h
  · simp [h]
  · simp [h, h']

end

/-- Settles O50, by what each command of the agreement of a slot makes of the state. -/
theorem pairSlots : Obligations.PairSlots := by
  unfold Obligations.PairSlots
  refine ⟨fun n target action mask0 mask1 mask2 mask3 fwd crc s h => execSlotMessage_of_not n _ _ _ _ _ _ _ _ h,
    fun n target action mask0 mask1 mask2 mask3 fwd crc s hpair hfollows hwait hfwd => ?_,
    fun n target action mask0 mask1 mask2 mask3 fwd crc s hup hpair hfollows hwait hfwd hcrc => ?_,
    fun n target action mask0 mask1 mask2 mask3 fwd crc s hup hpair hfollows hwait hfwd hcrc => ?_,
    fun n s hup hleads hpaired hst hearly => ?_, fun n s h => execSlotAck_of_not n h, fun n s h => execSlotNak_of_not n h,
    fun n s hleads hpaired hst hlate hmax => ?_, fun n s hleads hfrozen hst hlate => ?_,
    fun n s hleads hpaired hst hmax haction hnone => ?_, fun n s hfollows hst hacked hearly => ?_,
    fun n s h => execSlotConfirm_of_not n h, fun n s hup hfollows hst hacked hline hnew hlate hpeer => ?_,
    fun n s h => execInDoubt_of_not n h, fun n applied line s h => execInDoubtAnswer_of_not n applied line h,
    fun n line s h => ?_, fun n line s h => ?_, fun n s hfollows hst => ?_, fun n s h => execSlotCancelMessage_of_not n h⟩
  · exact slotMessage_waits n target action mask0 mask1 mask2 mask3 fwd crc hpair hfollows hwait hfwd
  · exact slotMessage_nak n target action mask0 mask1 mask2 mask3 fwd crc hup hpair hfollows hwait hfwd hcrc
  · exact slotMessage_ack n target action mask0 mask1 mask2 mask3 fwd crc hup hpair hfollows hwait hfwd hcrc
  · refine ⟨_, execSlotAck_of_confirmed n hleads hpaired hst hearly, ?_, ?_, ?_, ?_⟩
    · exact (State.slotSt_of_rd (State.rd_toPartner ..)).trans (State.slotSt_setSlotSt (by decide))
    · exact State.toPartner_out ((State.rdF_of_rd_eq (State.rd_setSlotSt_of_ne (by simp; omega))).trans hup)
    · intro k hk
      rw [State.rd_toPartner, State.rd_setSlotSt_of_ne (by simpa using hk)]
    · exact State.Agree.revert_eq (ps := [.ring, .out]) (by simp [State.setSlotSt])
  · refine ⟨_, (execSlotAckDeadline_of_late n hleads hst hlate).trans (if_pos hpaired), ?_⟩
    rw [State.reschedule_eq n hmax]
    obtain ⟨herr, hlate, hint⟩ := State.rescheduled_flags (s := s) n
    refine ⟨(State.slotSt_of_rd (State.rd_toPartner ..)).trans (State.slotSt_rescheduled n),
      (State.rd_toPartner ..).trans (State.slotTarget_rescheduled n), ?_, ?_, ?_, ?_, ?_, ?_⟩
    · rw [State.sendSlot, State.slot_toPartner, State.slot_rescheduled]
    · exact State.errored_of_rd herr (State.rd_toPartner ..) (State.rd_toPartner ..)
        (State.bit_of_rd_eq (State.rd_toPartner ..))
    · exact (State.bit_of_rd_eq (State.rd_toPartner ..)).trans hlate
    · exact (State.bit_of_rd_eq (State.rd_toPartner ..)).trans hint
    · exact fun k hk => (State.rd_toPartner ..).trans (State.pagesBut_rescheduled n k hk)
    · refine State.Agree.revert_eq (ps := [.slots, .ring, .out]) ?_
      rw [State.sendSlot, State.agree_toPartner _ _ _ (by simp) (by simp)]
      exact (State.agree_rescheduled n).mono (by simp)
  · have hpaired : ¬ s.paired = true := by
      rw [State.frozenPair, Bool.or_eq_true, beq_iff_eq, beq_iff_eq] at hfrozen
      rw [State.paired, beq_iff_eq]
      omega
    obtain ⟨hst', herr, href, hres⟩ := State.slotRefuse_spec (s := s) n (code := 0x0009) (by decide)
    exact ⟨_, (execSlotAckDeadline_of_late n hleads hst hlate).trans ((if_neg hpaired).trans (if_pos hfrozen)), hst', herr, href,
      hres, State.pagesBut_slotRefuse n _, State.Agree.revert_eq (ps := []) (State.agree_slotRefuse n _)⟩
  · exact nakRescheduled n hleads hpaired hst hmax hnone
  · exact ⟨_, execSlotConfirm_of_acked n hfollows hst hacked hearly, State.slotSt_setSlotSt (by decide),
      fun k hk => State.rd_setSlotSt_of_ne (by simpa using hk), rfl⟩
  · exact inDoubt_asks n hup hfollows hst hacked hline hnew hlate hpeer
  · exact inDoubtAnswer_applies n line h
  · exact inDoubtAnswer_discards n line h
  · exact ⟨_, execSlotCancelMessage_of_live n hfollows hst, State.slotSt_setSlotSt (s := s) (by decide), rfl,
      fun k hk => State.rd_setSlotSt_of_ne (s := s) (by simpa using hk), rfl⟩

end Sys2Proof.Machine
end

section
/-! The lamp channels: what the updates of the lamp unit leave, and the diagnostics (R326 to R329). -/

namespace Sys2Proof.Machine

/-! ## Channels and groups -/

section
variable (s : State) (c g : Nat)

@[simp] theorem State.rd_setLampCh (x : LampCh) (k : Nat) : (s.setLampCh c x).rd k = s.rd k := rfl
@[simp] theorem State.rd_setLampGroup (x : LampGroup) (k : Nat) : (s.setLampGroup g x).rd k = s.rd k := rfl
@[simp] theorem State.rd_emit (o : Out) (k : Nat) : (s.emit o).rd k = s.rd k := rfl

@[simp] theorem State.lampCh_setLampCh_same (x : LampCh) : (s.setLampCh c x).lampCh c = x := smGet_smSet_same _ _ _ _
@[simp] theorem State.lampGroup_setLampGroup_same (x : LampGroup) : (s.setLampGroup g x).lampGroup g = x :=
  smGet_smSet_same _ _ _ _

@[simp] theorem State.lampCh_wr (a v : Nat) : (s.wr a v).lampCh c = s.lampCh c := rfl
@[simp] theorem State.lampCh_wrF (a hi lo v : Nat) : (s.wrF a hi lo v).lampCh c = s.lampCh c := rfl
@[simp] theorem State.lampCh_wrB (a i : Nat) (b : Bool) : (s.wrB a i b).lampCh c = s.lampCh c := rfl
@[simp] theorem State.lampCh_intSet (p i : Nat) : (s.intSet p i).lampCh c = s.lampCh c := rfl
@[simp] theorem State.lampCh_emit (o : Out) : (s.emit o).lampCh c = s.lampCh c := rfl
@[simp] theorem State.lampGroup_setLampCh (x : LampCh) : (s.setLampCh c x).lampGroup g = s.lampGroup g := rfl
@[simp] theorem State.lampGroup_wrF (a hi lo v : Nat) : (s.wrF a hi lo v).lampGroup g = s.lampGroup g := rfl

@[simp] theorem State.agree_setLampCh {t : State} {ps : List Part} (x : LampCh) (h : .lamp ∈ ps) :
    t.Agree ps (s.setLampCh c x) ↔ t.Agree ps s := by simp [State.setLampCh, h]

@[simp] theorem State.agree_setLampGroup {t : State} {ps : List Part} (x : LampGroup) (h : .lamp ∈ ps) :
    t.Agree ps (s.setLampGroup g x) ↔ t.Agree ps s := by simp [State.setLampGroup, h]

@[simp] theorem State.rd_cutPulses (a k : Nat) : (s.cutPulses c a).rd k = s.rd k := by
  unfold State.cutPulses
  dsimp only
  split_ifs <;> rfl

@[simp] theorem State.agree_cutPulses {t : State} {ps : List Part} (a : Nat) (h : .lamp ∈ ps) (h' : .out ∈ ps) :
    t.Agree ps (s.cutPulses c a) ↔ t.Agree ps s := by
  unfold State.cutPulses
  dsimp only
  split_ifs
  · rw [State.agree_emit _ h', State.agree_setLampCh _ _ _ h]
  · rfl

/-! ## A sink that is turned off, and a latched channel -/

theorem State.rd_sinkOff_same : (s.sinkOff c).rd (Reg.LAMP_CH_OUT (c / 16) (c % 16)) = 0 := by
  unfold State.sinkOff
  simp only [State.rd_setLampCh, State.rd_cutPulses]
  exact s.rd_wr_same _ _

@[simp] theorem State.rd_sinkOff_of_ne {k : Nat} (h : k ≠ Reg.LAMP_CH_OUT (c / 16) (c % 16)) :
    (s.sinkOff c).rd k = s.rd k := by
  unfold State.sinkOff
  simp only [State.rd_setLampCh, State.rd_cutPulses]
  exact s.rd_wr_of_ne _ h

@[simp] theorem State.agree_sinkOff {t : State} {ps : List Part} (h : .lamp ∈ ps) (h' : .out ∈ ps) :
    t.Agree ps (s.sinkOff c) ↔ t.Agree ps s := by
  unfold State.sinkOff
  dsimp only
  rw [State.agree_setLampCh _ _ _ h, State.agree_cutPulses _ _ _ h h', State.agree_wr]

theorem State.lampCh_sinkOff_probing : ((s.sinkOff c).lampCh c).probing = false := by
  unfold State.sinkOff
  dsimp only
  rw [State.lampCh_setLampCh_same]

theorem State.lamp_tally (code source inst sev arg : Nat) : (s.tally code source inst sev arg).lamp = s.lamp :=
  ((State.agree_tally (s := s) (ps := [.mgmt]) code source inst sev arg (by simp)).2 (.refl s)) .lamp (by simp)

theorem State.lampCh_tally (code source inst sev arg : Nat) :
    (s.tally code source inst sev arg).lampCh c = s.lampCh c := by
  unfold State.lampCh
  rw [s.lamp_tally]

end

/-- The registers that latching channel c reaches. -/
def latchKeys (c : Nat) : List Nat := [diagKey c, Reg.LAMP_CH_OUT (c / 16) (c % 16), Reg.LAMP_DIAG_FAULT (c / 16),
  Reg.INT_STATUS (Reg.pageLAMP (c / 16))]

section
variable (s : State) (ch : Fin 64)

theorem chOut_ne_diagKey : Reg.LAMP_CH_OUT (ch.val / 16) (ch.val % 16) ≠ diagKey ch := by
  simp only [diagKey, Reg.LAMP_CH_OUT, Reg.LAMP_CH_DIAG]; omega
theorem diagFault_ne_diagKey : Reg.LAMP_DIAG_FAULT (ch.val / 16) ≠ diagKey ch := by
  simp only [diagKey, Reg.LAMP_DIAG_FAULT, Reg.LAMP_CH_DIAG]; omega
theorem diagFault_ne_chOut : Reg.LAMP_DIAG_FAULT (ch.val / 16) ≠ Reg.LAMP_CH_OUT (ch.val / 16) (ch.val % 16) := by
  simp only [Reg.LAMP_DIAG_FAULT, Reg.LAMP_CH_OUT]; omega
theorem lampInt_ne_diagKey : Reg.INT_STATUS (Reg.pageLAMP (ch.val / 16)) ≠ diagKey ch := by
  simp only [diagKey, Reg.LAMP_CH_DIAG, Reg.INT_STATUS, Reg.pageLAMP]; omega
theorem lampInt_ne_chOut :
    Reg.INT_STATUS (Reg.pageLAMP (ch.val / 16)) ≠ Reg.LAMP_CH_OUT (ch.val / 16) (ch.val % 16) := by
  simp only [Reg.LAMP_CH_OUT, Reg.INT_STATUS, Reg.pageLAMP]; omega
theorem lampInt_ne_diagFault : Reg.INT_STATUS (Reg.pageLAMP (ch.val / 16)) ≠ Reg.LAMP_DIAG_FAULT (ch.val / 16) := by
  simp only [Reg.LAMP_DIAG_FAULT, Reg.INT_STATUS, Reg.pageLAMP]; omega

theorem latchKeys_not_tally : ∀ k ∈ latchKeys ch.val, k ∉ tallyKeys := by
  have h : ∀ c : Fin 64, ∀ k ∈ latchKeys c.val, k ∉ tallyKeys := by decide
  exact h ch

theorem State.rd_latchLamp {k : Nat} (h : k ∉ tallyKeys) (st : Nat) : (s.latchLamp ch st).rd k =
    ((((s.wrF (diagKey ch) 2 0 st).sinkOff ch).intSet (Reg.pageLAMP (ch.val / 16)) 8).wrB
      (Reg.LAMP_DIAG_FAULT (ch.val / 16)) (ch.val % 16) true).rd k := by
  unfold State.latchLamp
  exact State.rd_tally_of_notMem _ _ _ _ _ _ h

theorem State.diagSt_latchLamp {st : Nat} (hst : st < 8) : (s.latchLamp ch st).diagSt ch = st := by
  have hrd : (s.latchLamp ch st).rd (diagKey ch) = putFld (s.rd (diagKey ch)) 2 0 st := by
    rw [s.rd_latchLamp ch (latchKeys_not_tally ch _ (by simp [latchKeys])),
      State.rd_wrB_of_ne _ _ _ (diagFault_ne_diagKey ch).symm, State.rd_intSet_of_ne _ _ (lampInt_ne_diagKey ch).symm,
      State.rd_sinkOff_of_ne _ _ (chOut_ne_diagKey ch).symm, s.rd_wrF_same _ _ (by decide) (by decide)]
  unfold State.diagSt State.rdF
  rw [hrd, fld_putFld_same _ _ _ _ (by decide)]
  exact Nat.mod_eq_of_lt hst

theorem State.rd_latchLamp_out (st : Nat) : (s.latchLamp ch st).rd (Reg.LAMP_CH_OUT (ch.val / 16) (ch.val % 16)) = 0 := by
  rw [s.rd_latchLamp ch (latchKeys_not_tally ch _ (by simp [latchKeys])),
    State.rd_wrB_of_ne _ _ _ (diagFault_ne_chOut ch).symm, State.rd_intSet_of_ne _ _ (lampInt_ne_chOut ch).symm,
    State.rd_sinkOff_same]

theorem State.bit_latchLamp_fault (st : Nat) :
    (s.latchLamp ch st).bit (Reg.LAMP_DIAG_FAULT (ch.val / 16)) (ch.val % 16) = true := by
  rw [State.bit_of_rd_eq (s.rd_latchLamp ch (latchKeys_not_tally ch _ (by simp [latchKeys])) st),
    State.bit_wrB_same _ _ _ _ (by omega)]

theorem State.bit_latchLamp_int (st : Nat) :
    (s.latchLamp ch st).bit (Reg.INT_STATUS (Reg.pageLAMP (ch.val / 16))) 8 = true := by
  rw [State.bit_of_rd_eq (s.rd_latchLamp ch (latchKeys_not_tally ch _ (by simp [latchKeys])) st),
    State.bit_of_rd_eq (State.rd_wrB_of_ne _ _ _ (lampInt_ne_diagFault ch)),
    State.bit_intSet _ _ _ _ _ (by decide), if_pos ⟨rfl, rfl⟩]

theorem State.regsBut_latchLamp (st : Nat) : s.regsBut (s.latchLamp ch st) (latchKeys ch ++ tallyKeys) := by
  intro k hk
  simp only [latchKeys, List.mem_append, List.mem_cons, List.not_mem_nil, or_false, not_or] at hk
  obtain ⟨⟨hdiag, hout, hfault, hint⟩, htally⟩ := hk
  rw [s.rd_latchLamp ch htally, State.rd_wrB_of_ne _ _ _ hfault, State.rd_intSet_of_ne _ _ hint,
    State.rd_sinkOff_of_ne _ _ hout, s.rd_wrF_of_ne _ _ _ hdiag]

theorem State.agree_latchLamp {t : State} {ps : List Part} (st : Nat) (hl : .lamp ∈ ps) (hm : .mgmt ∈ ps) (ho : .out ∈ ps) :
    t.Agree ps (s.latchLamp ch st) ↔ t.Agree ps s := by
  unfold State.latchLamp
  dsimp only
  rw [State.agree_tally _ _ _ _ _ hm, State.agree_wrB, State.agree_intSet, State.agree_sinkOff _ _ hl ho, State.agree_wrF]

theorem State.lampCh_latchLamp_probing (st : Nat) : ((s.latchLamp ch st).lampCh ch).probing = false := by
  unfold State.latchLamp
  dsimp only
  rw [State.lampCh_tally, State.lampCh_wrB, State.lampCh_intSet, State.lampCh_sinkOff_probing]

/-! ## Samples -/

/-- The lowest sampled sink voltage of a group after a sample. -/
def State.sampledMin (s : State) (g mv : Nat) : Nat := match (s.lampGroup g).vmin with | none => mv | some v => min v mv

/-- The state in which a sample has been recorded, before it is judged. -/
def State.sampledLamp (s : State) (c mv : Nat) : State :=
  (s.wrF (diagKey c) 31 16 mv).setLampGroup (c / 16) { s.lampGroup (c / 16) with vmin := some (s.sampledMin (c / 16) mv) }

theorem State.rdF_sampledLamp_of_ne {k : Nat} (c mv hi lo : Nat) (h : k ≠ diagKey c) :
    (s.sampledLamp c mv).rdF k hi lo = s.rdF k hi lo := State.rdF_of_rd_eq (s.rd_wrF_of_ne _ _ _ h)

/-- SINK_SAMPLE of a channel that is driven and not latched, as its two judgements open and short decide. -/
theorem execSinkSample_of_on {mv ua : Nat} (hon : s.groupSt (ch.val / 16) = 2) (hw : 3200 ≤ s.lampOn ch)
    (hlatched : s.latched ch = false) {open_ short : Bool}
    (hopen : open_ = decide (ua * 2 * 4095 < s.rdF (Reg.LAMP_CH_OUT (ch.val / 16) (ch.val % 16)) 11 0 * 2000000))
    (hshort : short = (s.binWord ch 2 % 65536 != 0 &&
      decide (2 * ((s.rdF (Reg.LAMP_BUS_MEAS (ch.val / 16)) 15 0 : Int) - mv) < (s.binWord ch 2 % 65536 : Nat)))) :
    exec (.sinkSample ch mv ua) s =
      if open_ && (decide (s.sampledMin (ch.val / 16) mv < 400) || s.bit (Reg.LAMP_GROUP_STATUS (ch.val / 16)) 10) then
        .next (s.sampledLamp ch mv)
      else if open_ || short then
        .next (if (s.lampCh ch).fails + 1 ≥ 3 then
          ((s.sampledLamp ch mv).setLampCh ch { s.lampCh ch with fails := (s.lampCh ch).fails + 1 }).latchLamp ch
            (if open_ then 4 else 5)
          else (s.sampledLamp ch mv).setLampCh ch { s.lampCh ch with fails := (s.lampCh ch).fails + 1 })
      else .next (((s.sampledLamp ch mv).setLampCh ch
        { s.lampCh ch with fails := 0, probeFails := 0, unqual := 0 }).wrF (diagKey ch) 2 0 1) := by
  have hmeas : Reg.LAMP_BUS_MEAS (ch.val / 16) ≠ diagKey ch := by
    simp only [diagKey, Reg.LAMP_BUS_MEAS, Reg.LAMP_CH_DIAG]; omega
  have hstatus : Reg.LAMP_GROUP_STATUS (ch.val / 16) ≠ diagKey ch := by
    simp only [diagKey, Reg.LAMP_GROUP_STATUS, Reg.LAMP_CH_DIAG]; omega
  rw [hopen, hshort, ← s.rdF_sampledLamp_of_ne ch mv 11 0 (chOut_ne_diagKey ch),
    ← s.rdF_sampledLamp_of_ne ch mv 15 0 hmeas,
    ← State.bit_of_rd_eq (s := s) (t := s.sampledLamp ch mv) (i := 10) (s.rd_wrF_of_ne _ _ _ hstatus)]
  exact if_neg (by simp [hon, hlatched]; omega)

end

/-! ## The clauses of SINK_SAMPLE -/

theorem sinkSample_of_good (ch : Fin 64) (mv ua : Nat) (s : State) (hon : s.groupSt (ch.val / 16) = 2)
    (hw : 3200 ≤ s.lampOn ch) (hlatched : s.latched ch = false)
    (hopen : s.rdF (Reg.LAMP_CH_OUT (ch.val / 16) (ch.val % 16)) 11 0 * 2000000 ≤ ua * 2 * 4095)
    (hshort : s.binWord ch 2 % 65536 = 0 ∨
      (s.binWord ch 2 % 65536 : Int) ≤ 2 * ((s.rdF (Reg.LAMP_BUS_MEAS (ch.val / 16)) 15 0 : Int) - mv)) :
    ∃ u : State, exec (.sinkSample ch mv ua) s = .next u ∧
      u.diagSt ch = 1 ∧ u.rdF (diagKey ch) 31 16 = mv % 65536 ∧ (u.lampCh ch).fails = 0 ∧
      (u.lampGroup (ch.val / 16)).vmin =
        some (match (s.lampGroup (ch.val / 16)).vmin with | none => mv | some v => min v mv) ∧
      s.regsBut u [diagKey ch] ∧ { u with regs := s.regs, lamp := s.lamp } = s := by
  have hexec := (execSinkSample_of_on s ch (mv := mv) (ua := ua) hon hw hlatched (open_ := false) (short := false)
    (by symm; simpa using hopen) (by symm; simpa [or_iff_not_imp_left] using hshort)).trans (if_neg (by simp)) |>.trans
    (if_neg (by simp))
  refine ⟨_, hexec, ?_, ?_, ?_, ?_, ?_, rfl⟩
  · exact State.rdF_wrF_same _ _ _ _ _ (by decide) (by decide)
  · unfold State.rdF
    rw [State.rd_wrF_same _ _ _ (by decide) (by decide), fld_putFld_other _ _ _ _ _ _ (by decide) (.inr (by decide))]
    exact State.rdF_wrF_same _ _ _ _ _ (by decide) (by decide)
  · rw [State.lampCh_wrF, State.lampCh_setLampCh_same]
  · rw [State.lampGroup_wrF, State.lampGroup_setLampCh]
    exact congrArg LampGroup.vmin (State.lampGroup_setLampGroup_same _ _ _)
  · intro k hk
    rw [List.mem_singleton] at hk
    rw [State.rd_wrF_of_ne _ _ _ _ hk]
    exact s.rd_wrF_of_ne _ _ _ hk

theorem sinkSample_of_thirdOpen (ch : Fin 64) (mv ua : Nat) (s : State) (hon : s.groupSt (ch.val / 16) = 2)
    (hw : 3200 ≤ s.lampOn ch) (hlatched : s.latched ch = false)
    (hopen : ua * 2 * 4095 < s.rdF (Reg.LAMP_CH_OUT (ch.val / 16) (ch.val % 16)) 11 0 * 2000000)
    (hmin : 400 ≤ (match (s.lampGroup (ch.val / 16)).vmin with | none => mv | some v => min v mv))
    (hcmd : s.bit (Reg.LAMP_GROUP_STATUS (ch.val / 16)) 10 = false) (hfails : 2 ≤ (s.lampCh ch).fails) :
    ∃ u : State, exec (.sinkSample ch mv ua) s = .next u ∧
      u.diagSt ch = 4 ∧ u.rd (Reg.LAMP_CH_OUT (ch.val / 16) (ch.val % 16)) = 0 ∧
      u.bit (Reg.LAMP_DIAG_FAULT (ch.val / 16)) (ch.val % 16) = true ∧
      u.bit (Reg.INT_STATUS (Reg.pageLAMP (ch.val / 16))) 8 = true ∧
      s.regsBut u ([diagKey ch, Reg.LAMP_CH_OUT (ch.val / 16) (ch.val % 16), Reg.LAMP_DIAG_FAULT (ch.val / 16),
        Reg.INT_STATUS (Reg.pageLAMP (ch.val / 16))] ++ tallyKeys) ∧
      { u with regs := s.regs, lamp := s.lamp, mgmt := s.mgmt, out := s.out } = s := by
  have hnot : ¬ s.sampledMin (ch.val / 16) mv < 400 := Nat.not_lt.2 hmin
  have hexec := (execSinkSample_of_on s ch (mv := mv) (ua := ua) hon hw hlatched (open_ := true)
    (by symm; simpa using hopen) rfl).trans (if_neg (by simp [hnot, hcmd])) |>.trans (if_pos (by simp))
  rw [if_pos (by omega : (s.lampCh ch).fails + 1 ≥ 3), if_pos rfl] at hexec
  refine ⟨_, hexec, State.diagSt_latchLamp _ _ (by decide), State.rd_latchLamp_out _ _ _, State.bit_latchLamp_fault _ _ _,
    State.bit_latchLamp_int _ _ _, ?_,
    State.Agree.revert_eq (ps := [.lamp, .mgmt, .out])
      ((State.agree_latchLamp _ _ _ (by simp) (by simp) (by simp)).2
        ((State.agree_setLampCh _ _ _ (by simp)).2 ((State.agree_setLampGroup _ _ _ (by simp)).2 (.refl s))))⟩
  refine State.regsBut.trans (fun k hk => ?_) (State.regsBut_latchLamp _ ch 4)
  simp only [List.cons_append, List.mem_cons, not_or] at hk
  exact s.rd_wrF_of_ne _ _ _ hk.1

/-! ## Probes -/

theorem State.rd_startProbe_of_ne (s : State) {c t k : Nat} (h : k ≠ Reg.LAMP_DIAG_FAULT (c / 16)) :
    (s.startProbe c t).rd k = s.rd k := by
  unfold State.startProbe
  rw [State.rd_emit, State.rd_wrB_of_ne _ _ _ h, State.rd_setLampCh]

theorem State.startProbe_spec (s : State) (c t : Nat) :
    ((s.startProbe c t).lampCh c).probing = true ∧ ((s.startProbe c t).lampCh c).want = false ∧
      (s.startProbe c t).out = s.out ++ [Out.lamp c t (usClk 10) 2] ∧
      s.regsBut (s.startProbe c t) [Reg.LAMP_DIAG_FAULT (c / 16)] ∧
      { s.startProbe c t with regs := s.regs, lamp := s.lamp, out := s.out } = s := by
  have hch : (s.startProbe c t).lampCh c = { s.lampCh c with probing := true, want := false, probeAt := t } :=
    State.lampCh_setLampCh_same _ _ _
  refine ⟨by rw [hch], by rw [hch], rfl, fun k hk => ?_, rfl⟩
  rw [List.mem_singleton] at hk
  exact s.rd_startProbe_of_ne hk

/-- The channels of a group in the order in which they are probed. -/
def State.probeOrder (s : State) (g : Nat) : List Nat := (List.range 16).map (fun i => 16 * g + ((s.lampGroup g).next + i) % 16)

theorem State.mem_probeOrder {s : State} {g c : Nat} (h : c ∈ s.probeOrder g) : ∃ i ∈ List.range 16, c = 16 * g + i := by
  obtain ⟨i, -, rfl⟩ := List.mem_map.1 h
  exact ⟨_, List.mem_range.2 (Nat.mod_lt _ (by decide)), rfl⟩

/-- The channel that PROBE_INTERVAL probes. -/
def State.probeNext (s : State) (g t : Nat) : Option Nat :=
  ((s.probeOrder g).filter (fun c => (s.lampCh c).want) ++ s.probeOrder g).find? (fun c => s.probeable c && s.probeFree c t)

theorem execProbeInterval_of_none {g : Fin 4} {t : Nat} {s : State} (h : (s.till t).probeNext g t = none) :
    exec (.probeInterval g t) s = .next (s.till t) := by
  change (match (s.till t).probeNext g t with
    | none => Host.Outcome.next (s.till t)
    | some c => .next (((s.till t).setLampGroup g { (s.till t).lampGroup g with next := (c % 16 + 1) % 16 }).startProbe c t))
      = _
  rw [h]

theorem execProbeInterval_of_some {g : Fin 4} {t c : Nat} {s : State} (h : (s.till t).probeNext g t = some c) :
    exec (.probeInterval g t) s =
      .next (((s.till t).setLampGroup g { s.lampGroup g with next := (c % 16 + 1) % 16 }).startProbe c t) := by
  change (match (s.till t).probeNext g t with
    | none => Host.Outcome.next (s.till t)
    | some c => .next (((s.till t).setLampGroup g { (s.till t).lampGroup g with next := (c % 16 + 1) % 16 }).startProbe c t))
      = _
  rw [h]
  rfl

theorem probeInterval_of_none (g : Fin 4) (t : Nat) (s : State)
    (hnone : ∀ i ∈ List.range 16, (s.till t).probeable (16 * g + i) = false) :
    exec (.probeInterval g t) s = .next (s.till t) := by
  refine execProbeInterval_of_none (List.find?_eq_none.2 fun c hc => ?_)
  have hmem : c ∈ (s.till t).probeOrder g := by
    rcases List.mem_append.1 hc with h | h
    · exact (List.mem_filter.1 h).1
    · exact h
  obtain ⟨i, hi, rfl⟩ := State.mem_probeOrder hmem
  simp [hnone i hi]

theorem probeInterval_of_free (g : Fin 4) (t : Nat) (s : State)
    (hwant : ∀ i ∈ List.range 16, (s.lampCh (16 * g + i)).want = false)
    (hable : (s.till t).probeable (16 * g + (s.lampGroup g).next % 16) = true)
    (hfree : (s.till t).probeFree (16 * g + (s.lampGroup g).next % 16) t = true) :
    ∃ u : State, exec (.probeInterval g t) s = .next u ∧
      (u.lampCh (16 * g + (s.lampGroup g).next % 16)).probing = true ∧
      (u.lampGroup g).next = ((s.lampGroup g).next % 16 + 1) % 16 ∧
      u.out = s.out ++ [Out.lamp (16 * g + (s.lampGroup g).next % 16) t (usClk 10) 2] ∧
      s.regsBut u [Reg.LAMP_DIAG_FAULT g] ∧
      { u with regs := s.regs, frc := s.frc, lamp := s.lamp, out := s.out } = s := by
  have hfilter : ((s.till t).probeOrder g).filter (fun c => ((s.till t).lampCh c).want) = [] := by
    refine List.filter_eq_nil_iff.2 fun c hc => ?_
    obtain ⟨i, hi, rfl⟩ := State.mem_probeOrder hc
    rw [Bool.not_eq_true]
    exact hwant i hi
  have hnext : (s.till t).probeNext g t = some (16 * g + (s.lampGroup g).next % 16) := by
    unfold State.probeNext
    rw [hfilter, List.nil_append]
    exact List.find?_cons_of_pos (Bool.and_eq_true_iff.2 ⟨hable, hfree⟩)
  obtain ⟨hprobing, -, hout, hregs, hframe⟩ := ((s.till t).setLampGroup g
    { s.lampGroup g with next := ((16 * g + (s.lampGroup g).next % 16) % 16 + 1) % 16 }).startProbe_spec
      (16 * g + (s.lampGroup g).next % 16) t
  refine ⟨_, execProbeInterval_of_some hnext, hprobing, ?_, hout, ?_, rfl⟩
  · calc _ = ((16 * g + (s.lampGroup g).next % 16) % 16 + 1) % 16 :=
        congrArg LampGroup.next (State.lampGroup_setLampGroup_same _ _ _)
      _ = ((s.lampGroup g).next % 16 + 1) % 16 := by omega
  · have hg : (16 * g.val + (s.lampGroup g).next % 16) / 16 = g := by omega
    rw [hg] at hregs
    exact hregs

theorem probeNow_of_free (src : Req) (ch : Fin 64) (t : Nat) (s : State) (hcut : s.cutOff src = false)
    (hable : (s.till t).probeable ch = true) (hfree : (s.till t).probeFree ch t = true) :
    ∃ u : State, exec (.probeNow src ch t) s = .next u ∧
      (u.lampCh ch).probing = true ∧ (u.lampCh ch).want = false ∧ u.out = s.out ++ [Out.lamp ch t (usClk 10) 2] ∧
      u.bit (Reg.LAMP_DIAG_FAULT (ch.val / 16)) (16 + ch.val % 16) = false ∧
      s.regsBut u [Reg.LAMP_DIAG_FAULT (ch.val / 16)] ∧
      { u with regs := s.regs, frc := s.frc, lamp := s.lamp, out := s.out } = s := by
  have hexec : exec (.probeNow src ch t) s = .next ((s.till t).startProbe ch t) :=
    (if_neg (by simp [hcut])).trans (congrArg Host.Outcome.next (if_pos (by simp [hable, hfree])))
  obtain ⟨hprobing, hwant, hout, hregs, -⟩ := (s.till t).startProbe_spec ch t
  refine ⟨_, hexec, hprobing, hwant, hout, ?_, hregs, rfl⟩
  unfold State.startProbe
  rw [State.bit_of_rd_eq (State.rd_emit _ _ _), State.bit_wrB_same _ _ _ _ (by omega)]

theorem probeNow_of_waiting (src : Req) (ch : Fin 64) (t : Nat) (s : State) (hcut : s.cutOff src = false)
    (hno : ((s.till t).probeable ch && (s.till t).probeFree ch t) = false) :
    ∃ u : State, exec (.probeNow src ch t) s = .next u ∧
      (u.lampCh ch).want = true ∧ (u.lampCh ch).probing = (s.lampCh ch).probing ∧ u.out = s.out ∧
      { u with frc := s.frc, lamp := s.lamp } = s := by
  have hexec : exec (.probeNow src ch t) s =
      .next ((s.till t).setLampCh ch { s.lampCh ch with want := true }) :=
    (if_neg (by simp [hcut])).trans (congrArg Host.Outcome.next (if_neg (by simp only [hno]; decide)))
  refine ⟨_, hexec, ?_, ?_, rfl, rfl⟩ <;> rw [State.lampCh_setLampCh_same]

theorem probeComplete_of_good (ch : Fin 64) (mv ua : Nat) (s : State) (hprobing : (s.lampCh ch).probing = true)
    (hua : 500 ≤ ua) (hmv : s.rdF (Reg.LAMP_PROBE_CFG (ch.val / 16)) 15 0 ≤ mv) :
    ∃ u : State, exec (.probeComplete ch mv ua) s = .next u ∧
      u.diagSt ch = 3 ∧ (u.lampCh ch).probing = false ∧ (u.lampCh ch).probeFails = 0 ∧ s.regsBut u [diagKey ch] ∧
      { u with regs := s.regs, lamp := s.lamp } = s := by
  have hexec : exec (.probeComplete ch mv ua) s =
      .next ((s.setLampCh ch { s.lampCh ch with probing := false, probeFails := 0 }).wrF (diagKey ch) 2 0 3) :=
    (if_neg (by simp [hprobing])).trans (if_neg (by simp only [Bool.or_eq_true, decide_eq_true_eq, not_or, Nat.not_lt]; exact ⟨hua, hmv⟩))
  refine ⟨_, hexec, State.rdF_wrF_same _ _ _ _ _ (by decide) (by decide), ?_, ?_, ?_, rfl⟩
  · rw [State.lampCh_wrF, State.lampCh_setLampCh_same]
  · rw [State.lampCh_wrF, State.lampCh_setLampCh_same]
  · intro k hk
    rw [List.mem_singleton] at hk
    exact State.rd_wrF_of_ne _ _ _ _ hk

theorem probeComplete_of_secondOpen (ch : Fin 64) (mv ua : Nat) (s : State) (hprobing : (s.lampCh ch).probing = true)
    (hua : ua < 500) (hfails : 1 ≤ (s.lampCh ch).probeFails) :
    ∃ u : State, exec (.probeComplete ch mv ua) s = .next u ∧
      u.diagSt ch = 4 ∧ (u.lampCh ch).probing = false ∧ u.rd (Reg.LAMP_CH_OUT (ch.val / 16) (ch.val % 16)) = 0 ∧
      s.regsBut u ([diagKey ch, Reg.LAMP_CH_OUT (ch.val / 16) (ch.val % 16), Reg.LAMP_DIAG_FAULT (ch.val / 16),
        Reg.INT_STATUS (Reg.pageLAMP (ch.val / 16))] ++ tallyKeys) ∧
      { u with regs := s.regs, lamp := s.lamp, mgmt := s.mgmt, out := s.out } = s := by
  have hexec : exec (.probeComplete ch mv ua) s = .next (State.latchLamp (s.setLampCh ch
      { s.lampCh ch with probing := false, probeFails := (s.lampCh ch).probeFails + 1, want := true }) ch
        (if ua < 500 then 4 else 5)) :=
    (if_neg (by simp [hprobing])).trans ((if_pos (by simp [hua])).trans
      (congrArg Host.Outcome.next (if_pos (Nat.succ_le_succ hfails))))
  rw [if_pos hua] at hexec
  exact ⟨_, hexec, State.diagSt_latchLamp _ _ (by decide), State.lampCh_latchLamp_probing _ _ _,
    State.rd_latchLamp_out _ _ _, State.regsBut_latchLamp _ ch 4,
    State.Agree.revert_eq (ps := [.lamp, .mgmt, .out])
      ((State.agree_latchLamp _ _ _ (by simp) (by simp) (by simp)).2
        ((State.agree_setLampCh _ _ _ (by simp)).2 (.refl s)))⟩

theorem probeAbort_of_probing (ch : Fin 64) (s : State) (hprobing : (s.lampCh ch).probing = true) :
    ∃ u : State, exec (.probeAbort ch) s = .next u ∧
      (u.lampCh ch).probing = false ∧
      u.rd (Reg.LAMP_PROBE_ABORT (ch.val / 16)) = satInc 32 (s.rd (Reg.LAMP_PROBE_ABORT (ch.val / 16))) ∧
      s.regsBut u [Reg.LAMP_PROBE_ABORT (ch.val / 16)] ∧ { u with regs := s.regs, lamp := s.lamp } = s := by
  have hexec : exec (.probeAbort ch) s = .next
      ((s.setLampCh ch { s.lampCh ch with probing := false }).count (Reg.LAMP_PROBE_ABORT (ch.val / 16))) :=
    congrArg Host.Outcome.next (if_pos hprobing)
  refine ⟨_, hexec, ?_, State.rd_count_same _ _, ?_, rfl⟩
  · exact congrArg LampCh.probing (State.lampCh_setLampCh_same _ _ _)
  · intro k hk
    rw [List.mem_singleton] at hk
    exact State.rd_count_of_ne _ hk

theorem probeBlocked_of_unverified (ch : Fin 64) (s : State) (hon : s.groupSt (ch.val / 16) = 2) (hdiag : s.diagSt ch = 2) :
    ∃ u : State, exec (.probeBlocked ch) s = .next u ∧
      u.bit (Reg.INT_STATUS (Reg.pageLAMP (ch.val / 16))) 10 = true ∧
      u.bit (Reg.LAMP_DIAG_FAULT (ch.val / 16)) (16 + ch.val % 16) = true ∧
      s.regsBut u [Reg.INT_STATUS (Reg.pageLAMP (ch.val / 16)), Reg.LAMP_DIAG_FAULT (ch.val / 16)] ∧
      { u with regs := s.regs } = s := by
  have hexec : exec (.probeBlocked ch) s = .next ((s.intSet (Reg.pageLAMP (ch.val / 16)) 10).wrB
      (Reg.LAMP_DIAG_FAULT (ch.val / 16)) (16 + ch.val % 16) true) := if_pos ⟨hon, hdiag⟩
  refine ⟨_, hexec, ?_, State.bit_wrB_same _ _ _ _ (by omega), ?_, rfl⟩
  · rw [State.bit_of_rd_eq (State.rd_wrB_of_ne _ _ _ (lampInt_ne_diagFault ch)), State.bit_intSet _ _ _ _ _ (by decide),
      if_pos ⟨rfl, rfl⟩]
  · intro k hk
    simp only [List.mem_cons, List.not_mem_nil, or_false, not_or] at hk
    rw [State.rd_wrB_of_ne _ _ _ hk.2, State.rd_intSet_of_ne _ _ hk.1]

/-- The registers of a latched channel after CLEAR, its fault bit cleared and its channel new. -/
def State.unlatched (s : State) (c : Nat) : State := (s.setLampCh c {}).wrB (Reg.LAMP_DIAG_FAULT (c / 16)) (c % 16) false

theorem clearLampFault_of_latched (src : Req) (ch : Fin 64) (s : State) (hcut : s.cutOff src = false)
    (hlatched : s.latched ch = true) (hmode : s.lampMode ch ≠ 0) :
    ∃ u : State, exec (.clearLampFault src ch) s = .next u ∧
      u.diagSt ch = 2 ∧ u.lampCh ch = {} ∧ u.bit (Reg.LAMP_DIAG_FAULT (ch.val / 16)) (ch.val % 16) = false ∧
      u.bit (Reg.INT_STATUS (Reg.pageLAMP (ch.val / 16))) 9 = true ∧
      s.regsBut u [diagKey ch, Reg.LAMP_DIAG_FAULT (ch.val / 16), Reg.INT_STATUS (Reg.pageLAMP (ch.val / 16))] ∧
      { u with regs := s.regs, lamp := s.lamp } = s := by
  have hcfg : (s.unlatched ch).lampMode ch = s.lampMode ch := by
    unfold State.lampMode State.lampCfg State.unlatched
    rw [State.rd_wrB_of_ne _ _ _ (by simp only [Reg.LAMP_CH_CFG, Reg.LAMP_DIAG_FAULT]; omega), State.rd_setLampCh]
  have hexec : exec (.clearLampFault src ch) s =
      .next (((s.unlatched ch).wrF (diagKey ch) 2 0 2).intSet (Reg.pageLAMP (ch.val / 16)) 9) :=
    (if_neg (by simp [hcut])).trans (congrArg Host.Outcome.next ((if_pos hlatched).trans (if_neg (by
      change (s.unlatched ch).lampMode ch ≠ 0
      rwa [hcfg]))))
  refine ⟨_, hexec, ?_, ?_, ?_, ?_, ?_, rfl⟩
  · rw [State.diagSt, State.rdF_of_rd_eq (State.rd_intSet_of_ne _ _ (lampInt_ne_diagKey ch).symm),
      State.rdF_wrF_same _ _ _ _ _ (by decide) (by decide)]
    rfl
  · exact State.lampCh_setLampCh_same _ _ _
  · rw [State.bit_of_rd_eq (State.rd_intSet_of_ne _ _ (lampInt_ne_diagFault ch).symm),
      State.bit_of_rd_eq (State.rd_wrF_of_ne _ _ _ _ (diagFault_ne_diagKey ch))]
    exact State.bit_wrB_same _ _ _ _ (by omega)
  · rw [State.bit_intSet _ _ _ _ _ (by decide), if_pos ⟨rfl, rfl⟩]
  · intro k hk
    simp only [List.mem_cons, List.not_mem_nil, or_false, not_or] at hk
    obtain ⟨hdiag, hfault, hint⟩ := hk
    rw [State.rd_intSet_of_ne _ _ hint, State.rd_wrF_of_ne _ _ _ _ hdiag]
    exact State.rd_wrB_of_ne _ _ _ hfault

/-- Settles O28: samples, probes and the clearing of a latched channel, command by command. -/
theorem lampDiagnostics : Obligations.LampDiagnostics := by
  unfold Obligations.LampDiagnostics
  refine ⟨sinkSample_of_good, sinkSample_of_thirdOpen, ?_, probeInterval_of_none, probeInterval_of_free, probeNow_of_free,
    probeNow_of_waiting, probeComplete_of_good, probeComplete_of_secondOpen, probeAbort_of_probing, ?_,
    probeBlocked_of_unverified, clearLampFault_of_latched, ?_⟩
  · intro ch mv ua s h
    exact if_pos h
  · intro ch s h
    exact congrArg Host.Outcome.next (if_neg (by simp [h]))
  · intro src ch s hcut hlatched
    exact (if_neg (by simp [hcut])).trans (congrArg Host.Outcome.next (if_neg (by simp [hlatched])))

end Sys2Proof.Machine
end

section
/-! The state machine of a mailbox channel (R440 to R452). -/

namespace Sys2Proof.Machine

/-! ## The registers of a channel -/

theorem mbKey_ne {a b : Nat} (n : Nat) (h : a ≠ b) : mbKey a n ≠ mbKey b n := by
  unfold mbKey
  split <;> omega

theorem mbKey_ne_of_channel {a b n m : Nat} (h : n ≠ m) (ha : 0xF0100 ≤ a ∧ a < 0xF0140) (hb : 0xF0100 ≤ b ∧ b < 0xF0140)
    (hn : n < 32) (hm : m < 32) : mbKey a n ≠ mbKey b m := by
  unfold mbKey
  split <;> split <;> omega

theorem mbKey_ne_int {a : Nat} (n : Nat) (h : 0xF0100 ≤ a) : mbKey a n ≠ Reg.INT_STATUS (mbPage n) := by
  unfold mbKey mbPage Reg.INT_STATUS
  split <;> simp only [Reg.pageMBOX, Reg.pageMBOXS] <;> omega

theorem mbKey_ne_int_of_channel {a n m : Nat} (ha : 0xF0100 ≤ a ∧ a < 0xF0140) (hn : n < 32) :
    mbKey a n ≠ Reg.INT_STATUS (mbPage m) := by
  by_cases h : n < 16 <;> by_cases h' : m < 16 <;>
    simp only [mbKey, mbPage, Reg.INT_STATUS, Reg.pageMBOX, Reg.pageMBOXS, h, h', if_true, if_false] <;> omega

theorem mbKey_ne_owner {a : Nat} (n : Nat) (h : 0xF0100 ≤ a) : Reg.MBOX_CH_OWNER ≠ mbKey a n := by
  unfold mbKey
  split <;> simp only [Reg.MBOX_CH_OWNER] <;> omega

theorem kMbStatus_ne_int (n : Nat) : kMbStatus n ≠ Reg.INT_STATUS (mbPage n) := mbKey_ne_int n (by decide)
theorem kResult_ne_int (n : Nat) : kResult n ≠ Reg.INT_STATUS (mbPage n) := mbKey_ne_int n (by decide)
theorem kNotice_ne_int (n : Nat) : kNotice n ≠ Reg.INT_STATUS (mbPage n) := mbKey_ne_int n (by decide)
theorem kRejected_ne_int (n : Nat) : kRejected n ≠ Reg.INT_STATUS (mbPage n) := mbKey_ne_int n (by decide)
theorem kResult_ne_kMbStatus (n : Nat) : kResult n ≠ kMbStatus n := mbKey_ne n (by decide)
theorem kRejected_ne_kMbStatus (n : Nat) : kRejected n ≠ kMbStatus n := mbKey_ne n (by decide)
theorem kRejected_ne_kResult (n : Nat) : kRejected n ≠ kResult n := mbKey_ne n (by decide)
theorem kMbCfg_ne_kMbStatus (n : Nat) : kMbCfg n ≠ kMbStatus n := mbKey_ne n (by decide)
theorem kPtrLo_ne_kMbStatus (n : Nat) : kPtrLo n ≠ kMbStatus n := mbKey_ne n (by decide)
theorem kPtrHi_ne_kMbStatus (n : Nat) : kPtrHi n ≠ kMbStatus n := mbKey_ne n (by decide)

theorem mbKey_page {a n : Nat} (h : 0xF0100 ≤ a ∧ a < 0xF0140) (hn : n < 32) : mbKey a n / 0x1000 = mbPage n := by
  unfold mbKey mbPage
  split <;> simp only [Reg.pageMBOX, Reg.pageMBOXS] <;> omega

section
variable (s : State) (n : Nat)

theorem State.mbSeq_lt : s.mbSeq n < 256 := fld_lt _ _ _

theorem State.moduleEnd_congr {t : State} (h : t.rd Reg.MBOX_CH_OWNER = s.rd Reg.MBOX_CH_OWNER) :
    t.moduleEnd n = s.moduleEnd n := by
  unfold State.moduleEnd
  rw [State.rdF_of_rd_eq h]

/-! ## The state and the number of a channel -/

theorem State.mbSt_setMbSt {v : Nat} (hv : v < 4) : (s.setMbSt n v).mbSt n = v := by
  unfold State.mbSt State.setMbSt
  rw [State.rdF_wrF_same _ _ _ _ _ (by decide) (by decide)]
  exact Nat.mod_eq_of_lt hv

theorem State.mbSeq_setMbSt (v : Nat) : (s.setMbSt n v).mbSeq n = s.mbSeq n := by
  unfold State.mbSeq State.setMbSt State.rdF
  rw [s.rd_wrF_same _ _ (by decide) (by decide), fld_putFld_other _ _ _ _ _ _ (by decide) (.inr (by decide))]

theorem State.rd_setMbSt_of_ne {k : Nat} (v : Nat) (h : k ≠ kMbStatus n) : (s.setMbSt n v).rd k = s.rd k :=
  s.rd_wrF_of_ne _ _ _ h

/-- The state with the next number on a channel. -/
def State.nextMbSeq (s : State) (n : Nat) : State := s.wrF (kMbStatus n) 15 8 (s.mbSeq n + 1)

theorem State.mbSeq_nextMbSeq : (s.nextMbSeq n).mbSeq n = (s.mbSeq n + 1) % 256 :=
  State.rdF_wrF_same _ _ _ _ _ (by decide) (by decide)

theorem State.rd_nextMbSeq_of_ne {k : Nat} (h : k ≠ kMbStatus n) : (s.nextMbSeq n).rd k = s.rd k := s.rd_wrF_of_ne _ _ _ h

theorem State.moduleEnd_nextMbSeq : (s.nextMbSeq n).moduleEnd n = s.moduleEnd n :=
  s.moduleEnd_congr n (s.rd_nextMbSeq_of_ne n (mbKey_ne_owner n (by decide)))

/-! ## The event of an end -/

theorem State.hostEvent_bit (s : State) (n : Fin 32) : (s.hostEvent n).bit (Reg.INT_STATUS (mbPage n)) (8 + n % 16) = true := by
  unfold State.hostEvent
  rw [State.bit_intSet _ _ _ _ _ (by omega), if_pos ⟨rfl, rfl⟩]

theorem State.rd_tellSender_of_ne {k : Nat} (h : k ≠ Reg.INT_STATUS (mbPage n)) : (s.tellSender n).rd k = s.rd k := by
  unfold State.tellSender
  split_ifs
  · exact State.rd_intSet_of_ne _ _ h
  · exact State.rd_emit _ _ _

theorem State.rd_tellReceiver_of_ne {k : Nat} (h : k ≠ Reg.INT_STATUS (mbPage n)) : (s.tellReceiver n).rd k = s.rd k := by
  unfold State.tellReceiver
  split_ifs
  · exact State.rd_emit _ _ _
  · exact State.rd_intSet_of_ne _ _ h

theorem State.agree_tellSender {t : State} {ps : List Part} (h : .out ∈ ps) :
    t.Agree ps (s.tellSender n) ↔ t.Agree ps s := by
  unfold State.tellSender State.hostEvent State.moduleEvent
  split_ifs <;> simp [h]

theorem State.agree_tellReceiver {t : State} {ps : List Part} (h : .out ∈ ps) :
    t.Agree ps (s.tellReceiver n) ↔ t.Agree ps s := by
  unfold State.tellReceiver State.hostEvent State.moduleEvent
  split_ifs <;> simp [h]

theorem State.agree_dropMessage {t : State} {ps : List Part} (h : .host ∈ ps) :
    t.Agree ps (s.dropMessage n) ↔ t.Agree ps s := by
  simp [State.dropMessage, h]

/-! ## The result of a message -/

theorem State.rd_mbResult_of_ne {code k : Nat} (hst : k ≠ kMbStatus n) (hint : k ≠ Reg.INT_STATUS (mbPage n))
    (hres : k ≠ kResult n) : (s.mbResult n code).rd k = s.rd k := by
  unfold State.mbResult
  rw [State.rd_tellSender_of_ne _ _ hint, State.rd_setMbSt_of_ne _ _ _ hst, State.rd_wr_of_ne _ _ hres]

theorem State.rd_mbResult_result {code : Nat} (hcode : code < 65536) :
    (s.mbResult n code).rd (kResult n) = code + s.mbSeq n * 65536 := by
  have hseq := s.mbSeq_lt n
  unfold State.mbResult
  rw [State.rd_tellSender_of_ne _ _ (kResult_ne_int n), State.rd_setMbSt_of_ne _ _ _ (kResult_ne_kMbStatus n),
    s.rd_wr_same]
  exact Nat.mod_eq_of_lt (by omega)

theorem State.rd_mbResult_status (code : Nat) :
    (s.mbResult n code).rd (kMbStatus n) = ((s.wr (kResult n) (code + s.mbSeq n * 65536)).setMbSt n 3).rd (kMbStatus n) := by
  unfold State.mbResult
  rw [State.rd_tellSender_of_ne _ _ (kMbStatus_ne_int n)]

theorem State.mbSt_mbResult (code : Nat) : (s.mbResult n code).mbSt n = 3 :=
  (State.rdF_of_rd_eq (s.rd_mbResult_status n code)).trans (State.mbSt_setMbSt _ n (by decide))

theorem State.mbSeq_mbResult (code : Nat) : (s.mbResult n code).mbSeq n = s.mbSeq n :=
  (State.rdF_of_rd_eq (s.rd_mbResult_status n code)).trans ((State.mbSeq_setMbSt _ n 3).trans
    (State.rdF_of_rd_eq (s.rd_wr_of_ne _ (mbKey_ne n (by decide)))))

theorem State.bit_mbResult (s : State) (n : Fin 32) (code : Nat) (hto : toModule n = true) :
    (s.mbResult n code).bit (Reg.INT_STATUS (mbPage n)) (8 + n % 16) = true := by
  unfold State.mbResult State.tellSender
  rw [if_pos hto]
  exact State.hostEvent_bit _ n

theorem State.agree_mbResult {t : State} {ps : List Part} (code : Nat) (h : .out ∈ ps) :
    t.Agree ps (s.mbResult n code) ↔ t.Agree ps s := by
  unfold State.mbResult State.setMbSt
  rw [State.agree_tellSender _ _ h, State.agree_wrF, State.agree_wr]

theorem State.mbResult_of_toModule (code : Nat) (hto : toModule n = true) : s.mbResult n code =
    ((s.wr (kResult n) (code + s.mbSeq n * 65536)).setMbSt n 3).hostEvent n := if_pos hto

end

/-! ## Commands from the wrong end, and in a wrong state -/

section
variable {s : State} {src : Req} {n : Fin 32} {data : Nat}

/-- An error of a channel is recorded, and changes nothing else. -/
theorem mbRefused {r : Res} {code key : Nat} (hcode : code < 0x10000) (h : r = .next (s.errAt (mbPage n) code key src)) :
    ∃ u : State, r = .next u ∧ s.errored u (mbPage n) code key (srcCode src) ∧ s.regsBut u (errorKeys (mbPage n)) ∧
      { u with regs := s.regs } = s := State.refused_errAt hcode h

theorem execMbPost_of_side (hawake : s.asleep src = false) (hsrc : src = s.mbSender n) : exec (.mbPost src n) s =
    .next (if s.mbSt n = 1 ∨ s.mbSt n = 2 then s.errAt (mbPage n) 0x0101 (kMbCtrl n) src
      else if s.outOfRegion n then s.errAt (mbPage n) 0x0104 (kMbCtrl n) src
      else if (s.nextMbSeq n).mbLen n > (s.nextMbSeq n).rdF (kMaxLen n) 24 0 then
        ((s.nextMbSeq n).mbResult n 0xFF04).count (kRejected n)
      else ((s.nextMbSeq n).setMbSt n 1).tellReceiver n) :=
  (if_neg (by simp [hawake])).trans (congrArg Host.Outcome.next (if_pos hsrc))

theorem execMbTake_of_side (hawake : s.asleep src = false) (hsrc : src = s.mbReceiver n) : exec (.mbTake src n) s =
    .next (if s.mbSt n = 1 then (s.setMbSt n 2).requestBody n else s.errAt (mbPage n) 0x0102 (kMbCtrl n) src) :=
  (if_neg (by simp [hawake])).trans (congrArg Host.Outcome.next (if_pos hsrc))

theorem execMailboxAck_of_side (hawake : s.asleep src = false) (hsrc : src = s.mbReceiver n) :
    exec (.mailboxAck src n data) s =
    .next (if fld data 15 0 ≥ 0xFF00 then s.errAt (mbPage n) 0x0106 (kMbAck n) src
      else if s.mbSt n = 2 ∧ fld data 23 16 = s.mbSeq n then (s.mbResult n (fld data 15 0)).dropMessage n
      else s.count (kAckDiscarded n)) :=
  (if_neg (by simp [hawake])).trans (congrArg Host.Outcome.next (if_pos hsrc))

theorem execMbClear_of_side (hawake : s.asleep src = false) (hsrc : src = s.mbSender n) : exec (.mbClear src n) s =
    .next (if s.mbSt n = 3 then s.setMbSt n 0
      else if s.mbSt n = 0 then s else s.errAt (mbPage n) 0x0101 (kMbCtrl n) src) :=
  (if_neg (by simp [hawake])).trans (congrArg Host.Outcome.next (if_pos hsrc))

/-! ## POST -/

theorem State.rd_nextMbSeq_len (s : State) (n : Nat) : (s.nextMbSeq n).mbLen n = s.mbLen n :=
  State.rdF_of_rd_eq (s.rd_nextMbSeq_of_ne n (mbKey_ne n (by decide)))

theorem State.rd_nextMbSeq_maxLen (s : State) (n : Nat) : (s.nextMbSeq n).rdF (kMaxLen n) 24 0 = s.rdF (kMaxLen n) 24 0 :=
  State.rdF_of_rd_eq (s.rd_nextMbSeq_of_ne n (mbKey_ne n (by decide)))

/-- POST of a message that is taken. -/
theorem execMbPost_of_fits (hawake : s.asleep src = false) (hsrc : src = s.mbSender n) (hst : s.mbSt n = 0 ∨ s.mbSt n = 3)
    (hin : s.outOfRegion n = false) (hlen : s.mbLen n ≤ s.rdF (kMaxLen n) 24 0) :
    exec (.mbPost src n) s = .next (((s.nextMbSeq n).setMbSt n 1).tellReceiver n) := by
  rw [execMbPost_of_side hawake hsrc, if_neg (by omega), if_neg (by simp [hin]), State.rd_nextMbSeq_len,
    State.rd_nextMbSeq_maxLen, if_neg (by omega)]

theorem State.rd_posted_of_ne (s : State) (n : Nat) {k : Nat} (h : k ≠ kMbStatus n) :
    ((s.nextMbSeq n).setMbSt n 1).rd k = s.rd k := by
  rw [State.rd_setMbSt_of_ne _ _ _ h, State.rd_nextMbSeq_of_ne _ _ h]

theorem State.posted_spec (s : State) (n : Nat) :
    (((s.nextMbSeq n).setMbSt n 1).tellReceiver n).mbSt n = 1 ∧
    (((s.nextMbSeq n).setMbSt n 1).tellReceiver n).mbSeq n = (s.mbSeq n + 1) % 256 := by
  have hrd := State.rd_tellReceiver_of_ne ((s.nextMbSeq n).setMbSt n 1) n (k := kMbStatus n) (mbKey_ne_int n (by decide))
  exact ⟨(State.rdF_of_rd_eq hrd).trans (State.mbSt_setMbSt _ n (by decide)),
    (State.rdF_of_rd_eq hrd).trans ((State.mbSeq_setMbSt _ n 1).trans (s.mbSeq_nextMbSeq n))⟩

theorem mbPost_toModule (src : Req) (n : Fin 32) (s : State) (hawake : s.asleep src = false) (hsrc : src = s.mbSender n)
    (hst : s.mbSt n = 0 ∨ s.mbSt n = 3) (hin : s.outOfRegion n = false) (hlen : s.mbLen n ≤ s.rdF (kMaxLen n) 24 0)
    (hto : toModule n = true) :
    ∃ u : State, exec (.mbPost src n) s = .next u ∧
      u.mbSt n = 1 ∧ u.mbSeq n = (s.mbSeq n + 1) % 256 ∧ u.out = s.out ++ [Out.firmware (coreNum (s.moduleEnd n)) n] ∧
      s.regsBut u [kMbStatus n] ∧ { u with regs := s.regs, out := s.out } = s := by
  have hexec := execMbPost_of_fits hawake hsrc hst hin hlen
  have htell : ((s.nextMbSeq n).setMbSt n 1).tellReceiver n =
      ((s.nextMbSeq n).setMbSt n 1).emit (.firmware (coreNum (s.moduleEnd n)) n) := by
    unfold State.tellReceiver State.moduleEvent
    rw [if_pos hto, State.moduleEnd_congr s n (s.rd_posted_of_ne n (mbKey_ne_owner n (by decide)))]
  obtain ⟨hu, hseq⟩ := s.posted_spec n
  rw [htell] at hexec hu hseq
  refine ⟨_, hexec, hu, hseq, rfl, fun k hk => ?_, rfl⟩
  rw [State.rd_emit, s.rd_posted_of_ne n (by simpa using hk)]

theorem mbPost_toHost (src : Req) (n : Fin 32) (s : State) (hawake : s.asleep src = false) (hsrc : src = s.mbSender n)
    (hst : s.mbSt n = 0 ∨ s.mbSt n = 3) (hin : s.outOfRegion n = false) (hlen : s.mbLen n ≤ s.rdF (kMaxLen n) 24 0)
    (hto : toModule n = false) :
    ∃ u : State, exec (.mbPost src n) s = .next u ∧
      u.mbSt n = 1 ∧ u.mbSeq n = (s.mbSeq n + 1) % 256 ∧ u.bit (Reg.INT_STATUS (mbPage n)) (8 + n % 16) = true ∧
      s.regsBut u [kMbStatus n, Reg.INT_STATUS (mbPage n)] ∧ { u with regs := s.regs } = s := by
  have hexec := execMbPost_of_fits hawake hsrc hst hin hlen
  have htell : ((s.nextMbSeq n).setMbSt n 1).tellReceiver n = ((s.nextMbSeq n).setMbSt n 1).hostEvent n :=
    if_neg (by simp [hto])
  obtain ⟨hu, hseq⟩ := s.posted_spec n
  rw [htell] at hexec hu hseq
  refine ⟨_, hexec, hu, hseq, State.hostEvent_bit _ n, fun k hk => ?_, rfl⟩
  simp only [List.mem_cons, List.not_mem_nil, or_false, not_or] at hk
  unfold State.hostEvent
  rw [State.rd_intSet_of_ne _ _ hk.2, s.rd_posted_of_ne n hk.1]

theorem mbPost_tooLong (src : Req) (n : Fin 32) (s : State) (hawake : s.asleep src = false) (hsrc : src = s.mbSender n)
    (hst : s.mbSt n = 0 ∨ s.mbSt n = 3) (hin : s.outOfRegion n = false) (hlen : s.rdF (kMaxLen n) 24 0 < s.mbLen n)
    (hto : toModule n = true) :
    ∃ u : State, exec (.mbPost src n) s = .next u ∧
      u.mbSt n = 3 ∧ u.mbSeq n = (s.mbSeq n + 1) % 256 ∧ u.rd (kResult n) = 0xFF04 + u.mbSeq n * 65536 ∧
      u.bit (Reg.INT_STATUS (mbPage n)) (8 + n % 16) = true ∧ u.rd (kRejected n) = satInc 32 (s.rd (kRejected n)) ∧
      s.regsBut u [kMbStatus n, Reg.INT_STATUS (mbPage n), kResult n, kRejected n] ∧ { u with regs := s.regs } = s := by
  have hexec : exec (.mbPost src n) s = .next (((s.nextMbSeq n).mbResult n 0xFF04).count (kRejected n)) := by
    rw [execMbPost_of_side hawake hsrc, if_neg (by omega), if_neg (by simp [hin]), State.rd_nextMbSeq_len,
      State.rd_nextMbSeq_maxLen, if_pos hlen]
  have hstatus : (((s.nextMbSeq n).mbResult n 0xFF04).count (kRejected n)).rd (kMbStatus n) =
      ((s.nextMbSeq n).mbResult n 0xFF04).rd (kMbStatus n) := State.rd_count_of_ne _ (mbKey_ne n (by decide))
  have hseq : (((s.nextMbSeq n).mbResult n 0xFF04).count (kRejected n)).mbSeq n = (s.mbSeq n + 1) % 256 :=
    (State.rdF_of_rd_eq hstatus).trans ((State.mbSeq_mbResult _ n _).trans (s.mbSeq_nextMbSeq n))
  refine ⟨_, hexec, (State.rdF_of_rd_eq hstatus).trans (State.mbSt_mbResult _ n _), hseq, ?_, ?_, ?_, ?_, ?_⟩
  · rw [hseq, State.rd_count_of_ne _ (kRejected_ne_kResult n).symm,
      State.rd_mbResult_result _ n.val (by decide), State.mbSeq_nextMbSeq]
  · rw [State.bit_of_rd_eq (State.rd_count_of_ne _ (kRejected_ne_int n).symm)]
    exact State.bit_mbResult _ n _ hto
  · rw [State.rd_count_same, State.rd_mbResult_of_ne _ n.val (kRejected_ne_kMbStatus n) (kRejected_ne_int n)
      (kRejected_ne_kResult n), s.rd_nextMbSeq_of_ne n.val (kRejected_ne_kMbStatus n)]
  · intro k hk
    simp only [List.mem_cons, List.not_mem_nil, or_false, not_or] at hk
    obtain ⟨hkst, hkint, hkres, hkrej⟩ := hk
    rw [State.rd_count_of_ne _ hkrej, State.rd_mbResult_of_ne _ _ hkst hkint hkres, s.rd_nextMbSeq_of_ne _ hkst]
  · rw [State.mbResult_of_toModule _ _ _ hto]
    rfl

/-! ## TAKE, ACK and CLEAR -/

theorem mbTake_request (src : Req) (n : Fin 32) (s : State) (hawake : s.asleep src = false) (hsrc : src = s.mbReceiver n)
    (hst : s.mbSt n = 1) (hto : toModule n = true) (hlen : s.mbLen n ≠ 0) (hpasid : s.mbPasidOff n = false) :
    ∃ u : State, exec (.mbTake src n) s = .next u ∧
      u.mbSt n = 2 ∧ u.mbSeq n = s.mbSeq n ∧
      u.out = s.out ++ [Out.hostRead (s.mbPasid n) (s.rd64 (kPtrLo n) (kPtrHi n)) (s.mbLen n)] ∧
      s.regsBut u [kMbStatus n] ∧ { u with regs := s.regs, out := s.out } = s := by
  have hcfg : (s.setMbSt n 2).mbPasid n = s.mbPasid n := by
    have hrd := s.rd_setMbSt_of_ne n.val 2 (kMbCfg_ne_kMbStatus n)
    unfold State.mbPasid
    rw [State.bit_of_rd_eq hrd, State.rdF_of_rd_eq hrd]
  have hlen' : (s.setMbSt n 2).mbLen n = s.mbLen n :=
    State.rdF_of_rd_eq (s.rd_setMbSt_of_ne n.val 2 (mbKey_ne n.val (by decide)))
  have hptr : (s.setMbSt n 2).rd64 (kPtrLo n) (kPtrHi n) = s.rd64 (kPtrLo n) (kPtrHi n) := by
    unfold State.rd64
    rw [s.rd_setMbSt_of_ne n.val 2 (kPtrLo_ne_kMbStatus n),
      s.rd_setMbSt_of_ne n.val 2 (kPtrHi_ne_kMbStatus n)]
  have hoff : (s.setMbSt n 2).mbPasidOff n = s.mbPasidOff n := by
    unfold State.mbPasidOff
    rw [hcfg]
    rfl
  have hexec : exec (.mbTake src n) s = .next ((s.setMbSt n 2).emit
      (.hostRead (s.mbPasid n) (s.rd64 (kPtrLo n) (kPtrHi n)) (s.mbLen n))) := by
    rw [execMbTake_of_side hawake hsrc, if_pos hst]
    unfold State.requestBody
    rw [if_neg (by simp [hto, hlen', hlen, hoff, hpasid]), hcfg, hlen', hptr]
  exact ⟨_, hexec, s.mbSt_setMbSt n (by decide), s.mbSeq_setMbSt n 2, rfl,
    fun k hk => s.rd_setMbSt_of_ne n 2 (by simpa using hk), rfl⟩

theorem mbTake_noBody (src : Req) (n : Fin 32) (s : State) (hawake : s.asleep src = false) (hsrc : src = s.mbReceiver n)
    (hst : s.mbSt n = 1) (hno : toModule n = false ∨ s.mbLen n = 0 ∨ s.mbPasidOff n = true) :
    ∃ u : State, exec (.mbTake src n) s = .next u ∧
      u.mbSt n = 2 ∧ u.mbSeq n = s.mbSeq n ∧ s.regsBut u [kMbStatus n] ∧ { u with regs := s.regs } = s := by
  have hlen : (s.setMbSt n 2).mbLen n = s.mbLen n :=
    State.rdF_of_rd_eq (s.rd_setMbSt_of_ne n.val 2 (mbKey_ne n.val (by decide)))
  have hoff : (s.setMbSt n 2).mbPasidOff n = s.mbPasidOff n := by
    have hrd := s.rd_setMbSt_of_ne n.val 2 (kMbCfg_ne_kMbStatus n)
    unfold State.mbPasidOff State.mbPasid
    rw [State.bit_of_rd_eq hrd, State.rdF_of_rd_eq hrd]
    rfl
  have hexec : exec (.mbTake src n) s = .next (s.setMbSt n 2) := by
    rw [execMbTake_of_side hawake hsrc, if_pos hst]
    unfold State.requestBody
    rw [hlen, hoff, if_pos]
    rcases hno with h | h | h <;> simp [h]
  exact ⟨_, hexec, s.mbSt_setMbSt n (by decide), s.mbSeq_setMbSt n 2,
    fun k hk => s.rd_setMbSt_of_ne n 2 (by simpa using hk), rfl⟩

theorem State.body_dropped (s : State) (n code : Nat) : ((s.mbResult n code).dropMessage n).body n = none :=
  smGet_smSet_same (fun _ => none) (s.mbResult n code).host.bodies n none

theorem mailboxAck_taken (src : Req) (n : Fin 32) (data : Nat) (s : State) (hawake : s.asleep src = false)
    (hsrc : src = s.mbReceiver n) (hcode : fld data 15 0 < 0xFF00) (hst : s.mbSt n = 2) (hseq : fld data 23 16 = s.mbSeq n)
    (hto : toModule n = true) :
    ∃ u : State, exec (.mailboxAck src n data) s = .next u ∧
      u.mbSt n = 3 ∧ u.rd (kResult n) = fld data 15 0 + s.mbSeq n * 65536 ∧
      u.bit (Reg.INT_STATUS (mbPage n)) (8 + n % 16) = true ∧ u.body n = none ∧
      s.regsBut u [kMbStatus n, Reg.INT_STATUS (mbPage n), kResult n] ∧ { u with regs := s.regs, host := s.host } = s := by
  have hexec : exec (.mailboxAck src n data) s = .next ((s.mbResult n (fld data 15 0)).dropMessage n) := by
    rw [execMailboxAck_of_side hawake hsrc, if_neg (by omega), if_pos ⟨hst, hseq⟩]
  refine ⟨_, hexec, s.mbSt_mbResult n _, s.rd_mbResult_result n (by omega), s.bit_mbResult n _ hto,
    s.body_dropped n _, fun k hk => ?_, ?_⟩
  · simp only [List.mem_cons, List.not_mem_nil, or_false, not_or] at hk
    exact s.rd_mbResult_of_ne n hk.1 hk.2.1 hk.2.2
  · rw [State.mbResult_of_toModule _ _ _ hto]
    rfl

theorem mailboxAck_discarded (src : Req) (n : Fin 32) (data : Nat) (s : State) (hawake : s.asleep src = false)
    (hsrc : src = s.mbReceiver n) (hcode : fld data 15 0 < 0xFF00) (hno : s.mbSt n ≠ 2 ∨ fld data 23 16 ≠ s.mbSeq n) :
    ∃ u : State, exec (.mailboxAck src n data) s = .next u ∧
      u.rd (kAckDiscarded n) = satInc 32 (s.rd (kAckDiscarded n)) ∧ s.regsBut u [kAckDiscarded n] ∧
      { u with regs := s.regs } = s := by
  have hexec : exec (.mailboxAck src n data) s = .next (s.count (kAckDiscarded n)) := by
    rw [execMailboxAck_of_side hawake hsrc, if_neg (by omega), if_neg (by tauto)]
  exact ⟨_, hexec, State.rd_count_same _ _, fun k hk => State.rd_count_of_ne _ (by simpa using hk), rfl⟩

theorem mbClear_acked (src : Req) (n : Fin 32) (s : State) (hawake : s.asleep src = false) (hsrc : src = s.mbSender n)
    (hst : s.mbSt n = 3) :
    ∃ u : State, exec (.mbClear src n) s = .next u ∧
      u.mbSt n = 0 ∧ u.mbSeq n = s.mbSeq n ∧ s.regsBut u [kMbStatus n] ∧ { u with regs := s.regs } = s := by
  have hexec : exec (.mbClear src n) s = .next (s.setMbSt n 0) := by
    rw [execMbClear_of_side hawake hsrc, if_pos hst]
  exact ⟨_, hexec, s.mbSt_setMbSt n (by decide), s.mbSeq_setMbSt n 0,
    fun k hk => s.rd_setMbSt_of_ne n 0 (by simpa using hk), rfl⟩

end

/-! ## DETACH -/

section
variable (s : State) (n : Nat)

/-- The registers that the reset of the host's end of a channel reaches, but its interrupt. -/
def detachKeys (n : Nat) : List Nat := [kMbStatus n, kResult n, kNotice n]

theorem State.rd_dropMessage (k : Nat) : (s.dropMessage n).rd k = s.rd k := rfl

theorem State.rd_resetReceiver_of_ne {k : Nat} (hst : k ≠ kMbStatus n) (hint : k ≠ Reg.INT_STATUS (mbPage n))
    (hres : k ≠ kResult n) : (s.resetReceiver n).rd k = s.rd k := by
  unfold State.resetReceiver
  split_ifs
  · exact s.rd_mbResult_of_ne n hst hint hres
  · exact s.rd_mbResult_of_ne n hst hint hres
  · rfl

theorem State.rd_resetSender_of_ne {k : Nat} (hst : k ≠ kMbStatus n) (hint : k ≠ Reg.INT_STATUS (mbPage n))
    (hnotice : k ≠ kNotice n) : (s.resetSender n).rd k = s.rd k := by
  unfold State.resetSender
  split_ifs
  · dsimp only
    rw [State.rd_tellReceiver_of_ne _ _ hint, State.rd_dropMessage, State.rd_setMbSt_of_ne _ _ _ hst,
      State.rd_wrB_of_ne _ _ _ hst, State.rd_wr_of_ne _ _ hnotice]
  · exact s.rd_setMbSt_of_ne n 0 hst

theorem State.rd_hostEndReset_of_notMem {k : Nat} (hint : k ≠ Reg.INT_STATUS (mbPage n)) (h : k ∉ detachKeys n) :
    (s.hostEndReset n).rd k = s.rd k := by
  simp only [detachKeys, List.mem_cons, List.not_mem_nil, or_false, not_or] at h
  obtain ⟨hst, hres, hnotice⟩ := h
  unfold State.hostEndReset
  split_ifs
  · exact s.rd_resetSender_of_ne n hst hint hnotice
  · exact s.rd_resetReceiver_of_ne n hst hint hres

theorem State.mbSt_resetSender : (s.resetSender n).mbSt n = 0 := by
  unfold State.resetSender
  split_ifs
  · dsimp only
    rw [State.mbSt, State.rdF_of_rd_eq (State.rd_tellReceiver_of_ne _ _ (kMbStatus_ne_int n)),
      State.rdF_of_rd_eq (State.rd_dropMessage _ _ _)]
    exact State.mbSt_setMbSt _ n (by decide)
  · exact s.mbSt_setMbSt n (by decide)

theorem State.agree_hostEndReset {t : State} : t.Agree [.host, .out] (s.hostEndReset n) ↔ t.Agree [.host, .out] s := by
  unfold State.hostEndReset State.resetSender State.resetReceiver State.setMbSt
  dsimp only
  split_ifs <;>
    simp only [State.agree_tellReceiver _ _ (by simp : Part.out ∈ [Part.host, .out]),
      State.agree_dropMessage _ _ (by simp : Part.host ∈ [Part.host, .out]), State.agree_wrF, State.agree_wrB, State.agree_wr,
      State.agree_mbResult _ _ _ (by simp : Part.out ∈ [Part.host, .out])]

end

/-! ### Over the channels of a page -/

theorem detachKeys_of_channel {n m k : Nat} (hne : n ≠ m) (hn : n < 32) (hm : m < 32) (hk : k ∈ detachKeys n) :
    k ∉ detachKeys m := by
  simp only [detachKeys, List.mem_cons, List.not_mem_nil, or_false, not_or] at hk ⊢
  rcases hk with rfl | rfl | rfl <;>
    exact ⟨mbKey_ne_of_channel hne (by decide) (by decide) hn hm, mbKey_ne_of_channel hne (by decide) (by decide) hn hm,
      mbKey_ne_of_channel hne (by decide) (by decide) hn hm⟩

theorem detachKeys_ne_int {n k m : Nat} (hn : n < 32) (hk : k ∈ detachKeys n) : k ≠ Reg.INT_STATUS (mbPage m) := by
  simp only [detachKeys, List.mem_cons, List.not_mem_nil, or_false] at hk
  rcases hk with rfl | rfl | rfl <;> exact mbKey_ne_int_of_channel (by decide) hn

theorem State.rd_foldl_hostEndReset {k n : Nat} (hn : n < 32) (hk : k ∈ detachKeys n) {l : List Nat} (hl : ∀ m ∈ l, m < 32)
    (hnot : n ∉ l) (s : State) : (l.foldl State.hostEndReset s).rd k = s.rd k := by
  induction l generalizing s with
  | nil => rfl
  | cons m l ih =>
    have hm := hl m (by simp)
    rw [List.foldl_cons, ih (fun i hi => hl i (by simp [hi])) (fun h => hnot (by simp [h])),
      s.rd_hostEndReset_of_notMem m (detachKeys_ne_int hn hk)
        (detachKeys_of_channel (fun h => hnot (by simp [h])) hn hm hk)]

/-- What a channel's registers read after a detach is what its own reset leaves, as if it came first. -/
theorem State.detached_eq {n : Nat} {l : List Nat} (hl : ∀ m ∈ l, m < 32) (hnodup : l.Nodup) (hn : n ∈ l) (s : State) :
    ∃ t : State, (∀ k ∈ detachKeys n, t.rd k = s.rd k) ∧
      ∀ k ∈ detachKeys n, (l.foldl State.hostEndReset s).rd k = (t.hostEndReset n).rd k := by
  obtain ⟨l₁, l₂, rfl⟩ := List.append_of_mem hn
  have hnot := List.nodup_middle.1 hnodup
  rw [List.nodup_cons] at hnot
  refine ⟨l₁.foldl State.hostEndReset s, fun k hk => ?_, fun k hk => ?_⟩
  · exact State.rd_foldl_hostEndReset (hl n hn) hk (fun m hm => hl m (by simp [hm])) (fun h => hnot.1 (by simp [h])) s
  · rw [List.foldl_append, List.foldl_cons]
    exact State.rd_foldl_hostEndReset (hl n hn) hk (fun m hm => hl m (by simp [hm])) (fun h => hnot.1 (by simp [h])) _

/-- The channels of the mailbox page of a function. -/
def detachChans (pf1 : Bool) : List Nat := if pf1 = true then mboxsChans else mboxChans

theorem detachChans_lt {pf1 : Bool} : ∀ m ∈ detachChans pf1, m < 32 := by
  cases pf1 <;> decide

theorem detachChans_nodup (pf1 : Bool) : (detachChans pf1).Nodup := by
  cases pf1 <;> decide

theorem detachChans_page {pf1 : Bool} : ∀ m ∈ detachChans pf1, mbPage m = if pf1 = true then Reg.pageMBOXS else Reg.pageMBOX := by
  cases pf1 <;> decide

section
variable {pf1 : Bool} {n : Nat} (s : State)

theorem State.mbSt_detach_toModule (hn : n ∈ detachChans pf1) (hto : toModule n = true) : (s.detach pf1).mbSt n = 0 := by
  obtain ⟨t, -, ht⟩ := State.detached_eq detachChans_lt (detachChans_nodup pf1) hn s
  refine (State.rdF_of_rd_eq (ht (kMbStatus n) (by simp [detachKeys]))).trans ?_
  unfold State.hostEndReset
  rw [if_pos hto]
  exact t.mbSt_resetSender n

theorem State.detach_toHost (hn : n ∈ detachChans pf1) (hto : toModule n = false) {st code : Nat} (hst : s.mbSt n = st)
    (hcode : st = 1 ∧ code = 0xFF01 ∨ st = 2 ∧ code = 0xFF02) :
    (s.detach pf1).mbSt n = 3 ∧ (s.detach pf1).rd (kResult n) = code + s.mbSeq n * 65536 := by
  obtain ⟨t, hkeep, ht⟩ := State.detached_eq detachChans_lt (detachChans_nodup pf1) hn s
  have hstatus := hkeep (kMbStatus n) (by simp [detachKeys])
  have hst' : t.mbSt n = st := (State.rdF_of_rd_eq hstatus).trans hst
  have hseq' : t.mbSeq n = s.mbSeq n := State.rdF_of_rd_eq hstatus
  have hreset : ∀ k, (t.hostEndReset n).rd k = (t.mbResult n code).rd k := by
    intro k
    unfold State.hostEndReset State.resetReceiver
    rw [if_neg (by simp [hto]), hst']
    rcases hcode with ⟨rfl, rfl⟩ | ⟨rfl, rfl⟩ <;> rfl
  constructor
  · exact (State.rdF_of_rd_eq ((ht (kMbStatus n) (by simp [detachKeys])).trans (hreset _))).trans (t.mbSt_mbResult n code)
  · refine ((ht (kResult n) (by simp [detachKeys])).trans (hreset _)).trans ?_
    rw [t.rd_mbResult_result n (by omega), hseq']

theorem State.pagesBut_hostEndReset (s : State) (hn : n < 32) : s.pagesBut (s.hostEndReset n) [mbPage n] := by
  intro k hk
  rw [List.mem_singleton] at hk
  refine s.rd_hostEndReset_of_notMem n ?_ ?_
  · rintro rfl
    exact hk (by simp only [Reg.INT_STATUS]; omega)
  · simp only [detachKeys, List.mem_cons, List.not_mem_nil, or_false, not_or]
    refine ⟨?_, ?_, ?_⟩ <;> rintro rfl <;> exact hk (mbKey_page (by decide) hn)

theorem State.pagesBut_foldl_hostEndReset {p : Nat} {l : List Nat} (hl : ∀ m ∈ l, m < 32 ∧ mbPage m = p) (s : State) :
    s.pagesBut (l.foldl State.hostEndReset s) [p] := by
  induction l generalizing s with
  | nil => exact fun _ _ => rfl
  | cons m l ih =>
    obtain ⟨hm, hp⟩ := hl m (by simp)
    have hstep := s.pagesBut_hostEndReset hm
    rw [hp] at hstep
    exact hstep.trans (ih (fun i hi => hl i (by simp [hi])) _)

theorem State.agree_foldl_hostEndReset (l : List Nat) (s : State) : s.Agree [.host, .out] (l.foldl State.hostEndReset s) := by
  induction l generalizing s with
  | nil => exact .refl s
  | cons m l ih => exact ((s.agree_hostEndReset m).2 (.refl s)).trans (ih _)

end

theorem detach_spec (src : Req) (pf1 : Bool) (s : State) (hawake : s.asleep src = false) :
    ∃ u : State, exec (.detach src pf1) s = .next u ∧
      (∀ n ∈ (if pf1 = true then mboxsChans else mboxChans), toModule n = true → u.mbSt n = 0) ∧
      (∀ n ∈ (if pf1 = true then mboxsChans else mboxChans), toModule n = false → s.mbSt n = 1 → u.mbSt n = 3 ∧
        u.rd (kResult n) = 0xFF01 + s.mbSeq n * 65536) ∧
      (∀ n ∈ (if pf1 = true then mboxsChans else mboxChans), toModule n = false → s.mbSt n = 2 → u.mbSt n = 3 ∧
        u.rd (kResult n) = 0xFF02 + s.mbSeq n * 65536) ∧
      s.pagesBut u [if pf1 = true then Reg.pageMBOXS else Reg.pageMBOX] ∧
      { u with regs := s.regs, host := s.host, out := s.out } = s :=
  ⟨s.detach pf1, if_neg (by simp [hawake]), fun _ hn hto => s.mbSt_detach_toModule hn hto,
    fun _ hn hto hst => s.detach_toHost hn hto hst (.inl ⟨rfl, rfl⟩),
    fun _ hn hto hst => s.detach_toHost hn hto hst (.inr ⟨rfl, rfl⟩),
    State.pagesBut_foldl_hostEndReset (fun m hm => ⟨detachChans_lt m hm, detachChans_page m hm⟩) s,
    State.Agree.revert_eq (ps := [.host, .out]) (State.agree_foldl_hostEndReset _ s)⟩

/-- Settles O33: each command of a mailbox channel, from its own end and from the wrong one. -/
theorem mailboxCommands : Obligations.MailboxCommands := by
  unfold Obligations.MailboxCommands
  refine ⟨?_, ?_, ?_, mbPost_toModule, mbPost_toHost, mbPost_tooLong, ?_, ?_, mbTake_request, mbTake_noBody, ?_, ?_, ?_,
    mailboxAck_taken, mailboxAck_discarded, mbClear_acked, ?_, ?_, detach_spec⟩
  · intro src n s hawake hsrc
    exact mbRefused (by decide) ((if_neg (by simp [hawake])).trans (congrArg Host.Outcome.next (if_neg hsrc)))
  · intro src n s hawake hsrc
    exact mbRefused (by decide) ((if_neg (by simp [hawake])).trans (congrArg Host.Outcome.next (if_neg hsrc)))
  · intro src n s hawake hsrc
    exact mbRefused (by decide) ((if_neg (by simp [hawake])).trans (congrArg Host.Outcome.next (if_neg hsrc)))
  · intro src n s hawake hsrc hst
    exact mbRefused (by decide) ((execMbPost_of_side hawake hsrc).trans (congrArg Host.Outcome.next (if_pos hst)))
  · intro src n s hawake hsrc hst hout
    exact mbRefused (by decide) ((execMbPost_of_side hawake hsrc).trans (congrArg Host.Outcome.next
      ((if_neg (by omega)).trans (if_pos hout))))
  · intro src n s hawake hsrc hst
    exact mbRefused (by decide) ((execMbTake_of_side hawake hsrc).trans (congrArg Host.Outcome.next (if_neg hst)))
  · intro src n data s hawake hsrc
    exact mbRefused (by decide) ((if_neg (by simp [hawake])).trans (congrArg Host.Outcome.next (if_neg hsrc)))
  · intro src n data s hawake hsrc hcode
    exact mbRefused (by decide) ((execMailboxAck_of_side hawake hsrc).trans (congrArg Host.Outcome.next (if_pos hcode)))
  · intro src n s hawake hsrc hst
    rw [execMbClear_of_side hawake hsrc, if_neg (by omega), if_pos hst]
  · intro src n s hawake hsrc hst
    exact mbRefused (by decide) ((execMbClear_of_side hawake hsrc).trans (congrArg Host.Outcome.next
      ((if_neg (by omega)).trans (if_neg (by omega)))))

end Sys2Proof.Machine
end

section
/-! The groups of the lamp sequencer and the queues of its ports (R311, R321 to R325). -/

namespace Sys2Proof.Machine

/-! ## Repeated updates -/

section
variable {f : State → Nat → State} {l : List Nat} {k : Nat}

theorem State.rd_foldl_of_ne (h : ∀ m ∈ l, ∀ t : State, (f t m).rd k = t.rd k) (s : State) : (l.foldl f s).rd k = s.rd k := by
  induction l generalizing s with
  | nil => rfl
  | cons m l ih =>
    rw [List.foldl_cons, ih (fun i hi => h i (by simp [hi])), h m (by simp)]

/-- Where one element alone reaches a register, the register reads what that element leaves. -/
theorem State.rd_foldl_at {n : Nat} (hnodup : l.Nodup) (hn : n ∈ l)
    (hother : ∀ m ∈ l, m ≠ n → ∀ t : State, (f t m).rd k = t.rd k) (s : State) :
    ∃ t : State, t.rd k = s.rd k ∧ (l.foldl f s).rd k = (f t n).rd k := by
  obtain ⟨l₁, l₂, rfl⟩ := List.append_of_mem hn
  have hnot := (List.nodup_cons.1 (List.nodup_middle.1 hnodup)).1
  refine ⟨l₁.foldl f s, ?_, ?_⟩
  · refine State.rd_foldl_of_ne (fun m hm => hother m (by simp [hm]) ?_) s
    rintro rfl
    exact hnot (by simp [hm])
  · rw [List.foldl_append, List.foldl_cons]
    refine State.rd_foldl_of_ne (fun m hm => hother m (by simp [hm]) ?_) _
    rintro rfl
    exact hnot (by simp [hm])

theorem State.agree_foldl {ps : List Part} (h : ∀ m ∈ l, ∀ t : State, t.Agree ps (f t m)) (s : State) :
    s.Agree ps (l.foldl f s) := by
  induction l generalizing s with
  | nil => exact .refl s
  | cons m l ih => exact (h m (by simp) s).trans (ih (fun i hi => h i (by simp [hi])) _)

end

/-! ## The outputs of a group that is off -/

/-- The output registers of a group. -/
def groupOutKeys (g : Nat) : List Nat := (List.range 16).map (Reg.LAMP_CH_OUT g)

theorem chOut_of_group {i : Nat} (g : Nat) (hi : i < 16) :
    Reg.LAMP_CH_OUT ((16 * g + i) / 16) ((16 * g + i) % 16) = Reg.LAMP_CH_OUT g i := by
  have h1 : (16 * g + i) / 16 = g := by omega
  have h2 : (16 * g + i) % 16 = i := by omega
  rw [h1, h2]

theorem diagKey_of_group {i : Nat} (g : Nat) (hi : i < 16) : diagKey (16 * g + i) = Reg.LAMP_CH_DIAG g i := by
  have h1 : (16 * g + i) / 16 = g := by omega
  have h2 : (16 * g + i) % 16 = i := by omega
  rw [diagKey, h1, h2]

theorem notMem_groupOutKeys {k g : Nat} : k ∉ groupOutKeys g ↔ ∀ i < 16, k ≠ Reg.LAMP_CH_OUT g i := by
  simp only [groupOutKeys, List.mem_map, List.mem_range, not_exists, not_and]
  exact forall₂_congr fun i _ => ⟨fun h e => h e.symm, fun h e => h e.symm⟩

section
variable (s : State) (g : Nat)

theorem State.groupOff_eq : s.groupOff g = (List.range 16).foldl (fun t i => t.sinkOff (16 * g + i)) s := List.foldl_map

theorem State.rd_groupOff_of_notMem {k : Nat} (h : k ∉ groupOutKeys g) : (s.groupOff g).rd k = s.rd k := by
  rw [State.groupOff_eq]
  refine State.rd_foldl_of_ne (fun i hi t => t.rd_sinkOff_of_ne _ ?_) s
  rw [List.mem_range] at hi
  rw [chOut_of_group g hi]
  exact notMem_groupOutKeys.1 h i hi

theorem State.rd_groupOff {i : Nat} (hi : i < 16) : (s.groupOff g).rd (Reg.LAMP_CH_OUT g i) = 0 := by
  rw [State.groupOff_eq]
  obtain ⟨t, -, ht⟩ := State.rd_foldl_at (f := fun t i => t.sinkOff (16 * g + i)) (k := Reg.LAMP_CH_OUT g i) (n := i)
    List.nodup_range (List.mem_range.2 hi) (fun m hm hne t => t.rd_sinkOff_of_ne _ (by
      rw [chOut_of_group g (List.mem_range.1 hm)]
      simp only [Reg.LAMP_CH_OUT]
      omega)) s
  rw [ht, ← chOut_of_group g hi]
  exact t.rd_sinkOff_same _

theorem State.agree_groupOff : s.Agree [.lamp, .out] (s.groupOff g) := by
  rw [State.groupOff_eq]
  exact State.agree_foldl (fun i _ t => (t.agree_sinkOff _ (by simp) (by simp)).2 (.refl t)) s

end

/-! ## The state of a group -/

section
variable (s : State) (g : Fin 4)

theorem lampStatus_notMem_outKeys : Reg.STATUS (Reg.pageLAMP g) ∉ groupOutKeys g :=
  notMem_groupOutKeys.2 fun i _ => by simp only [Reg.STATUS, Reg.pageLAMP, Reg.LAMP_CH_OUT]; omega

theorem lampInt_notMem_outKeys : Reg.INT_STATUS (Reg.pageLAMP g) ∉ groupOutKeys g :=
  notMem_groupOutKeys.2 fun i _ => by simp only [Reg.INT_STATUS, Reg.pageLAMP, Reg.LAMP_CH_OUT]; omega

theorem groupReg_notMem_outKeys {k : Nat} (h : k < 0xD4100) : k + 0x1000 * g ∉ groupOutKeys g :=
  notMem_groupOutKeys.2 fun i _ => by simp only [Reg.LAMP_CH_OUT]; omega

theorem lampInt_ne_lampStatus (p : Nat) : Reg.INT_STATUS p ≠ Reg.STATUS p := by
  simp only [Reg.INT_STATUS, Reg.STATUS]; omega

/-- A group's STATUS shows that it stands at fault. -/
def groupFaulty (st : Nat) : Bool := st == 4 || st == 5 || st == 6

/-- The registers of a group that enters a state, before its sinks are turned off. -/
def State.groupShown (s : State) (g st : Nat) : State :=
  ((s.setStCode (Reg.pageLAMP g) st).ready (Reg.pageLAMP g) (st == 2)).fault (Reg.pageLAMP g) (groupFaulty st)

theorem State.setGroup_of_ne {st : Nat} (h : st ≠ 2) : s.setGroup g st = (s.groupShown g st).groupOff g := if_neg h
theorem State.setGroup_on : s.setGroup g 2 = s.groupShown g 2 := rfl

theorem State.rd_groupShown_status (st : Nat) : (s.groupShown g st).rd (Reg.STATUS (Reg.pageLAMP g)) =
    putB (putB (putFld (s.rd (Reg.STATUS (Reg.pageLAMP g))) 7 4 st) 0 (st == 2)) 2 (groupFaulty st) := by
  unfold State.groupShown
  rw [State.rd_fault_same _ _ rfl, State.rd_ready_same _ _ rfl, State.rd_setStCode_same _ _ rfl]

theorem State.rd_groupShown_of_ne {st k : Nat} (hs : k ≠ Reg.STATUS (Reg.pageLAMP g))
    (hi : k ≠ Reg.INT_STATUS (Reg.pageLAMP g)) : (s.groupShown g st).rd k = s.rd k := by
  unfold State.groupShown
  rw [State.rd_fault_of_ne _ _ hs hi, State.rd_ready_of_ne _ _ hs, State.rd_setStCode_of_ne _ _ hs]

theorem State.rd_groupShown_sound {st k : Nat} (hst : groupFaulty st = false) (hs : k ≠ Reg.STATUS (Reg.pageLAMP g)) :
    (s.groupShown g st).rd k = s.rd k := by
  unfold State.groupShown State.fault
  rw [hst, if_neg (by simp), State.rd_wrB_of_ne _ _ _ hs, State.rd_ready_of_ne _ _ hs, State.rd_setStCode_of_ne _ _ hs]

theorem State.agree_groupShown (st : Nat) : s.Agree [] (s.groupShown g st) := by
  unfold State.groupShown
  rw [State.agree_fault, State.agree_ready, State.agree_setStCode]
  exact .refl s

theorem State.rd_setGroup_status (st : Nat) : (s.setGroup g st).rd (Reg.STATUS (Reg.pageLAMP g)) =
    putB (putB (putFld (s.rd (Reg.STATUS (Reg.pageLAMP g))) 7 4 st) 0 (st == 2)) 2 (groupFaulty st) := by
  by_cases h : st = 2
  · subst h
    exact s.rd_groupShown_status g 2
  · rw [s.setGroup_of_ne g h, State.rd_groupOff_of_notMem _ _ (lampStatus_notMem_outKeys g), s.rd_groupShown_status g]

/-- The state of a group whose STATUS reads what an entry leaves. -/
theorem State.groupSt_of_rd {t : State} {v st : Nat} (hst : st < 16) (h : t.rd (Reg.STATUS (Reg.pageLAMP g)) =
    putB (putB (putFld v 7 4 st) 0 (st == 2)) 2 (groupFaulty st)) :
    t.groupSt g = st ∧ t.bit (Reg.STATUS (Reg.pageLAMP g)) 0 = (st == 2) ∧
      t.bit (Reg.STATUS (Reg.pageLAMP g)) 2 = groupFaulty st := by
  refine ⟨?_, ?_, ?_⟩
  · unfold State.groupSt State.stCode State.rdF
    rw [h, fld_putB_other _ _ _ _ _ (.inr (by decide)), fld_putB_other _ _ _ _ _ (.inr (by decide)),
      fld_putFld_same _ _ _ _ (by decide)]
    exact Nat.mod_eq_of_lt hst
  · unfold State.bit
    rw [h, bitOf_putB, if_neg (by decide), bitOf_putB, if_pos rfl]
  · unfold State.bit
    rw [h, bitOf_putB, if_pos rfl]

theorem State.rd_setGroup_of_notMem {st k : Nat} (hs : k ≠ Reg.STATUS (Reg.pageLAMP g))
    (hi : k ≠ Reg.INT_STATUS (Reg.pageLAMP g)) (ho : k ∉ groupOutKeys g) : (s.setGroup g st).rd k = s.rd k := by
  by_cases h : st = 2
  · subst h
    rw [State.setGroup_on, s.rd_groupShown_of_ne g hs hi]
  · rw [s.setGroup_of_ne g h, State.rd_groupOff_of_notMem _ _ ho, s.rd_groupShown_of_ne g hs hi]

theorem State.rd_setGroup_sound {st k : Nat} (hst : groupFaulty st = false) (hs : k ≠ Reg.STATUS (Reg.pageLAMP g))
    (ho : k ∉ groupOutKeys g) : (s.setGroup g st).rd k = s.rd k := by
  by_cases h : st = 2
  · subst h
    rw [State.setGroup_on, s.rd_groupShown_sound g hst hs]
  · rw [s.setGroup_of_ne g h, State.rd_groupOff_of_notMem _ _ ho, s.rd_groupShown_sound g hst hs]

theorem State.rd_setGroup_out {st i : Nat} (h : st ≠ 2) (hi : i < 16) :
    (s.setGroup g st).rd (Reg.LAMP_CH_OUT g i) = 0 := by
  rw [s.setGroup_of_ne g h, State.rd_groupOff _ _ hi]

theorem State.agree_setGroup (st : Nat) : s.Agree [.lamp, .out] (s.setGroup g st) := by
  by_cases h : st = 2
  · subst h
    exact (s.agree_groupShown g 2).mono (by simp)
  · rw [s.setGroup_of_ne g h]
    exact ((s.agree_groupShown g st).mono (by simp)).trans (State.agree_groupOff _ g)

/-! ## The bus of a group, and its supply -/

theorem State.rd_busEnable_of_ne {b : Bool} {k : Nat} (h : k ≠ Reg.PWR_LAMP_BUS_STATUS) : (s.busEnable g b).rd k = s.rd k := by
  unfold State.busEnable
  dsimp only
  split_ifs
  · exact s.rd_wrB_of_ne _ _ h
  · exact s.rd_wrB_of_ne _ _ h

theorem State.rd_busEnable (b : Bool) : (s.busEnable g b).rd Reg.PWR_LAMP_BUS_STATUS =
    putB (s.rd Reg.PWR_LAMP_BUS_STATUS) g (b && s.pwr.sys24) := by
  unfold State.busEnable
  dsimp only
  split_ifs
  · exact s.rd_wrB_same _ _ (by omega)
  · exact s.rd_wrB_same _ _ (by omega)

theorem State.busEnable_true : s.busEnable g true = s.wrB Reg.PWR_LAMP_BUS_STATUS g s.pwr.sys24 := by
  unfold State.busEnable
  rw [Bool.true_and]
  exact if_pos rfl

theorem State.busEnable_false : s.busEnable g false = (s.wrB Reg.PWR_LAMP_BUS_STATUS g false).setLampGroup g
    { s.lampGroup g with offAt := s.frc } := by
  unfold State.busEnable
  rw [Bool.false_and]
  exact if_neg (by decide)

theorem State.rd_pmbusFails_of_ne {n k : Nat} (h : k ≠ Reg.LAMP_PMBUS_ERR g) : (s.pmbusFails g n).rd k = s.rd k := by
  unfold State.pmbusFails
  dsimp only
  split_ifs
  · rfl
  · exact s.rd_wr_of_ne _ h

theorem State.agree_pmbusFails (n : Nat) : s.Agree [] (s.pmbusFails g n) := by
  unfold State.pmbusFails
  dsimp only
  split_ifs <;> simp

theorem State.rd_pmbus (cmd v k : Nat) : (s.pmbus g cmd v).rd k = s.rd k := rfl

theorem State.rd_setVout_of_ne {v k : Nat} (h : k ≠ Reg.LAMP_VOUT_SET g) : (s.setVout g v).rd k = s.rd k := by
  unfold State.setVout
  rw [State.rd_pmbus, s.rd_wrF_of_ne _ _ _ h]

theorem State.rdF_setVout (v : Nat) : (s.setVout g v).rdF (Reg.LAMP_VOUT_SET g) 15 0 = v % 65536 := by
  unfold State.setVout
  rw [State.rdF_of_rd_eq (State.rd_pmbus _ _ _ _ _)]
  exact State.rdF_wrF_same _ _ _ _ _ (by decide) (by decide)

theorem State.out_setVout (v : Nat) : (s.setVout g v).out =
    s.out ++ [Out.pmbus g (s.rdF (Reg.LAMP_GROUP_CFG g) 6 0) 0x21 v] := by
  have hcfg : (s.wrF (Reg.LAMP_VOUT_SET g) 15 0 v).rdF (Reg.LAMP_GROUP_CFG g) 6 0 = s.rdF (Reg.LAMP_GROUP_CFG g) 6 0 :=
    State.rdF_of_rd_eq (s.rd_wrF_of_ne _ _ _ (by simp only [Reg.LAMP_GROUP_CFG, Reg.LAMP_VOUT_SET]; omega))
  unfold State.setVout State.pmbus
  rw [hcfg]
  rfl

theorem State.rdF_pmbus (cmd v k hi lo : Nat) : (s.pmbus g cmd v).rdF k hi lo = s.rdF k hi lo := rfl

/-- The transactions that start a supply: OPERATION, VOUT_MODE and the voltage. -/
def State.supplyStarted (s : State) (g v : Nat) : State := ((s.pmbus g 0x01 0x80).pmbus g 0x20 0).setVout g v

theorem State.out_supplyStarted (v : Nat) : (s.supplyStarted g v).out = s.out ++
    [Out.pmbus g (s.rdF (Reg.LAMP_GROUP_CFG g) 6 0) 0x01 0x80, Out.pmbus g (s.rdF (Reg.LAMP_GROUP_CFG g) 6 0) 0x20 0,
      Out.pmbus g (s.rdF (Reg.LAMP_GROUP_CFG g) 6 0) 0x21 v] := by
  unfold State.supplyStarted
  rw [State.out_setVout, State.rdF_pmbus, State.rdF_pmbus]
  have hout : ((s.pmbus g 0x01 0x80).pmbus g 0x20 0).out = s.out ++ [Out.pmbus g (s.rdF (Reg.LAMP_GROUP_CFG g) 6 0) 0x01 0x80]
      ++ [Out.pmbus g ((s.pmbus g 0x01 0x80).rdF (Reg.LAMP_GROUP_CFG g) 6 0) 0x20 0] := rfl
  rw [hout, State.rdF_pmbus, List.append_assoc, List.append_assoc]
  rfl

theorem State.rd_supplyStarted_of_ne {v k : Nat} (h : k ≠ Reg.LAMP_VOUT_SET g) : (s.supplyStarted g v).rd k = s.rd k := by
  unfold State.supplyStarted
  rw [State.rd_setVout_of_ne _ _ h, State.rd_pmbus, State.rd_pmbus]

theorem State.agree_supplyStarted (v : Nat) : s.Agree [.out] (s.supplyStarted g v) := by
  unfold State.supplyStarted State.setVout State.pmbus
  simp

theorem State.initialVout_congr {t : State} (hlamp : t.lamp.bins = s.lamp.bins)
    (hlim : t.rd (Reg.LAMP_VOUT_LIMITS g) = s.rd (Reg.LAMP_VOUT_LIMITS g))
    (hhead : t.rd (Reg.LAMP_HEADROOM g) = s.rd (Reg.LAMP_HEADROOM g))
    (hcfg : ∀ i < 16, t.rd (Reg.LAMP_CH_CFG g i) = s.rd (Reg.LAMP_CH_CFG g i)) : t.initialVout g = s.initialVout g := by
  have hmode : ∀ c ∈ (List.range 16).map (16 * g.val + ·), t.lampMode c = s.lampMode c := by
    intro c hc
    obtain ⟨i, hi, rfl⟩ := List.mem_map.1 hc
    rw [List.mem_range] at hi
    have h1 : (16 * g.val + i) / 16 = g := by omega
    have h2 : (16 * g.val + i) % 16 = i := by omega
    unfold State.lampMode State.lampCfg
    rw [h1, h2, hcfg i hi]
  have hbin : t.binWord = s.binWord := by
    unfold State.binWord
    rw [hlamp]
  unfold State.initialVout
  rw [State.rdF_of_rd_eq hlim, State.rdF_of_rd_eq hlim, State.rdF_of_rd_eq hhead, hbin,
    List.filter_congr (fun c hc => by rw [hmode c hc])]

/-! ## Entry to ON -/

theorem State.ntcOff_congr {t : State} (hpwr : t.pwr = s.pwr) (hlim : t.rd (Reg.LAMP_NTC_LIMITS g) = s.rd (Reg.LAMP_NTC_LIMITS g))
    (h01 : t.rd (Reg.LAMP_NTC_TEMP01 g) = s.rd (Reg.LAMP_NTC_TEMP01 g))
    (h23 : t.rd (Reg.LAMP_NTC_TEMP23 g) = s.rd (Reg.LAMP_NTC_TEMP23 g)) : t.ntcOff g = s.ntcOff g := by
  have htemp : ∀ i : Nat, t.rd (if i < 2 then Reg.LAMP_NTC_TEMP01 g else Reg.LAMP_NTC_TEMP23 g) =
      s.rd (if i < 2 then Reg.LAMP_NTC_TEMP01 g else Reg.LAMP_NTC_TEMP23 g) := by
    intro i
    split_ifs
    · exact h01
    · exact h23
  unfold State.ntcOff State.condIn State.dwellAt
  rw [State.rdF_of_rd_eq hlim, hpwr]
  simp only [htemp]

theorem State.groupOn_of_stop (h : s.pwr.stopIn = true) :
    s.groupOn g = (s.setGroup g 3).intSet (Reg.pageLAMP g) 13 := if_pos h

theorem State.groupOn_of_clear (h : s.pwr.stopIn = false) (hntc : s.ntcOff g = false) : s.groupOn g = s.setGroup g 2 :=
  (if_neg (by simp [h])).trans (if_neg (by simp [hntc]))

end

/-! ## Enabling and disabling -/

section
variable {src : Req} {g : Fin 4} {s : State}

theorem busStatus_ne_voutSet (g : Nat) : Reg.PWR_LAMP_BUS_STATUS ≠ Reg.LAMP_VOUT_SET g := by
  simp only [Reg.PWR_LAMP_BUS_STATUS, Reg.LAMP_VOUT_SET]; omega
theorem lampStatus_ne_voutSet (g : Fin 4) : Reg.STATUS (Reg.pageLAMP g) ≠ Reg.LAMP_VOUT_SET g := by
  simp only [Reg.STATUS, Reg.pageLAMP, Reg.LAMP_VOUT_SET]; omega
theorem lampCtrl_ne_voutSet (g : Fin 4) : Reg.CTRL (Reg.pageLAMP g) ≠ Reg.LAMP_VOUT_SET g := by
  simp only [Reg.CTRL, Reg.pageLAMP, Reg.LAMP_VOUT_SET]; omega
theorem status_ne_ctrl (p : Nat) : Reg.STATUS p ≠ Reg.CTRL p := by
  simp only [Reg.STATUS, Reg.CTRL]; omega
theorem lampCtrl_ne_busStatus (g : Fin 4) : Reg.CTRL (Reg.pageLAMP g) ≠ Reg.PWR_LAMP_BUS_STATUS := by
  simp only [Reg.PWR_LAMP_BUS_STATUS, Reg.CTRL, Reg.pageLAMP]; omega
theorem lampStatus_ne_busStatus (g : Fin 4) : Reg.STATUS (Reg.pageLAMP g) ≠ Reg.PWR_LAMP_BUS_STATUS := by
  simp only [Reg.PWR_LAMP_BUS_STATUS, Reg.STATUS, Reg.pageLAMP]; omega
theorem lampCtrl_notMem_outKeys (g : Fin 4) : Reg.CTRL (Reg.pageLAMP g) ∉ groupOutKeys g :=
  notMem_groupOutKeys.2 fun i _ => by simp only [Reg.CTRL, Reg.pageLAMP, Reg.LAMP_CH_OUT]; omega
theorem busStatus_notMem_outKeys (g : Fin 4) : Reg.PWR_LAMP_BUS_STATUS ∉ groupOutKeys g :=
  notMem_groupOutKeys.2 fun i _ => by simp only [Reg.PWR_LAMP_BUS_STATUS, Reg.LAMP_CH_OUT]; omega

/-- The state in which an enable has raised the bus and entered BUS_WAIT. -/
def State.groupWaits (s : State) (g : Nat) : State :=
  ((s.wrB (Reg.CTRL (Reg.pageLAMP g)) 0 true).busEnable g true).setGroup g 1

theorem State.groupEnable_of_off (hst : s.groupSt g = 0) {w : State} (hw : w = (s.busEnable g true).setGroup g 1)
    (hcmd : w.commanding g = true) (htrip : (w.supplyStarted g (w.initialVout g)).bit Reg.PWR_LAMP_BUS_STATUS (16 + g) = false) :
    s.groupEnable g = w.supplyStarted g (w.initialVout g) := by
  subst hw
  unfold State.groupEnable
  rw [if_neg (by simp [hst])]
  dsimp only
  rw [if_pos hcmd]
  exact if_neg (Bool.eq_false_iff.1 htrip)

theorem State.rd_groupWaits_of_notMem {k : Nat} (hctrl : k ≠ Reg.CTRL (Reg.pageLAMP g)) (hbus : k ≠ Reg.PWR_LAMP_BUS_STATUS)
    (hs : k ≠ Reg.STATUS (Reg.pageLAMP g)) (ho : k ∉ groupOutKeys g) : (s.groupWaits g).rd k = s.rd k := by
  unfold State.groupWaits
  rw [State.rd_setGroup_sound _ _ rfl hs ho, State.rd_busEnable_of_ne _ _ hbus, State.rd_wrB_of_ne _ _ _ hctrl]

theorem State.agree_groupWaits : s.Agree [.lamp, .out] (s.groupWaits g) := by
  refine State.Agree.trans ?_ (State.agree_setGroup _ g 1)
  rw [State.busEnable_true, State.agree_wrB, State.agree_wrB]
  exact .refl s

theorem State.bins_sinkOff (s : State) (c : Nat) : (s.sinkOff c).lamp.bins = s.lamp.bins := by
  unfold State.sinkOff State.cutPulses
  dsimp only
  split_ifs <;> rfl

theorem State.bins_groupOff (s : State) (g : Nat) : (s.groupOff g).lamp.bins = s.lamp.bins := by
  unfold State.groupOff
  induction (List.range 16).map (16 * g + ·) generalizing s with
  | nil => rfl
  | cons c l ih => rw [List.foldl_cons, ih, State.bins_sinkOff]

theorem State.bins_groupWaits : (s.groupWaits g).lamp.bins = s.lamp.bins := by
  unfold State.groupWaits
  rw [State.setGroup_of_ne _ g (by decide), State.bins_groupOff, State.busEnable_true]
  exact congrArg LampUnit.bins (State.agree_groupShown _ g 1 .lamp (by simp))

theorem lampGroupEnable_of_off (src : Req) (g : Fin 4) (s : State) (hcut : s.cutOff src = false) (hst : s.groupSt g = 0)
    (htrip : s.bit Reg.PWR_LAMP_BUS_STATUS (16 + g.val) = false) (hcmd : s.bit (Reg.LAMP_GROUP_STATUS g) 10 = false)
    (h24 : s.pwr.sys24 = true) :
    ∃ u : State, exec (.lampGroupEnable src g) s = .next u ∧
      u.groupSt g = 1 ∧ u.bit (Reg.CTRL (Reg.pageLAMP g)) 0 = true ∧ u.bit Reg.PWR_LAMP_BUS_STATUS g = true ∧
      u.rdF (Reg.LAMP_VOUT_SET g) 15 0 = s.initialVout g % 65536 ∧
      [Out.pmbus g (s.rdF (Reg.LAMP_GROUP_CFG g) 6 0) 0x01 0x80,
        Out.pmbus g (s.rdF (Reg.LAMP_GROUP_CFG g) 6 0) 0x20 0,
        Out.pmbus g (s.rdF (Reg.LAMP_GROUP_CFG g) 6 0) 0x21 (s.initialVout g)] <:+ u.out ∧
      s.regsBut u ([Reg.CTRL (Reg.pageLAMP g), Reg.STATUS (Reg.pageLAMP g), Reg.INT_STATUS (Reg.pageLAMP g),
        Reg.PWR_LAMP_BUS_STATUS, Reg.LAMP_VOUT_SET g] ++ (List.range 16).map (Reg.LAMP_CH_OUT g)) ∧
      { u with regs := s.regs, out := s.out, lamp := s.lamp } = s := by
  obtain ⟨w, hw⟩ : ∃ w, w = s.groupWaits g := ⟨_, rfl⟩
  have hbus : w.rd Reg.PWR_LAMP_BUS_STATUS = putB (s.rd Reg.PWR_LAMP_BUS_STATUS) g true := by
    rw [hw, State.groupWaits, State.rd_setGroup_sound _ g rfl (lampStatus_ne_busStatus g).symm
      (busStatus_notMem_outKeys g), State.rd_busEnable, State.rd_wrB_of_ne _ _ _ (lampCtrl_ne_busStatus g).symm,
      Bool.true_and]
    exact congrArg _ h24
  have hkeep : ∀ k, k ≠ Reg.CTRL (Reg.pageLAMP g) → k ≠ Reg.PWR_LAMP_BUS_STATUS → k ≠ Reg.STATUS (Reg.pageLAMP g) →
      k ∉ groupOutKeys g → w.rd k = s.rd k := by
    intro k
    rw [hw]
    exact State.rd_groupWaits_of_notMem
  have hpage : ∀ k, 0xD4040 + 0x1000 * g.val ≤ k → k < 0xD4100 + 0x1000 * g.val → w.rd k = s.rd k := fun k h1 h2 =>
    hkeep k (by simp only [Reg.CTRL, Reg.pageLAMP]; omega) (by simp only [Reg.PWR_LAMP_BUS_STATUS]; omega)
      (by simp only [Reg.STATUS, Reg.pageLAMP]; omega) (notMem_groupOutKeys.2 fun i _ => by simp only [Reg.LAMP_CH_OUT]; omega)
  have hvout : w.initialVout g = s.initialVout g := by
    refine State.initialVout_congr s g (by rw [hw, State.bins_groupWaits]) (hpage _ ?_ ?_) (hpage _ ?_ ?_) (fun i hi => ?_)
    · simp only [Reg.LAMP_VOUT_LIMITS]; omega
    · simp only [Reg.LAMP_VOUT_LIMITS]; omega
    · simp only [Reg.LAMP_HEADROOM]; omega
    · simp only [Reg.LAMP_HEADROOM]; omega
    · exact hkeep _ (by simp only [Reg.CTRL, Reg.pageLAMP, Reg.LAMP_CH_CFG]; omega)
        (by simp only [Reg.PWR_LAMP_BUS_STATUS, Reg.LAMP_CH_CFG]; omega)
        (by simp only [Reg.STATUS, Reg.pageLAMP, Reg.LAMP_CH_CFG]; omega)
        (notMem_groupOutKeys.2 fun j _ => by simp only [Reg.LAMP_CH_OUT, Reg.LAMP_CH_CFG]; omega)
  have hcfg : w.rdF (Reg.LAMP_GROUP_CFG g) 6 0 = s.rdF (Reg.LAMP_GROUP_CFG g) 6 0 :=
    State.rdF_of_rd_eq (hpage _ (by simp only [Reg.LAMP_GROUP_CFG]; omega) (by simp only [Reg.LAMP_GROUP_CFG]; omega))
  have hcommand : w.commanding g = true := by
    unfold State.commanding
    rw [State.bit_of_rd_eq (hpage _ (by simp only [Reg.LAMP_GROUP_STATUS]; omega)
      (by simp only [Reg.LAMP_GROUP_STATUS]; omega)), hcmd]
    rfl
  have hvoutNe : ∀ k, k ≠ Reg.LAMP_VOUT_SET g → (w.supplyStarted g (s.initialVout g)).rd k = w.rd k := fun k h =>
    State.rd_supplyStarted_of_ne w g h
  have hgroup : (s.wrB (Reg.CTRL (Reg.pageLAMP g)) 0 true).groupSt g = 0 := by
    refine Eq.trans (State.rdF_of_rd_eq (s.rd_wrB_of_ne _ _ (status_ne_ctrl _))) hst
  have hexec : exec (.lampGroupEnable src g) s = .next (w.supplyStarted g (s.initialVout g)) := by
    refine (if_neg (by simp [hcut])).trans (congrArg Host.Outcome.next ?_)
    rw [State.groupEnable_of_off hgroup hw hcommand, hvout]
    rw [hvout, State.bit_of_rd_eq (hvoutNe _ (busStatus_ne_voutSet g)), State.bit, hbus, bitOf_putB, if_neg (by omega)]
    exact htrip
  have hagree : s.Agree [.lamp, .out] w := by
    rw [hw]
    exact State.agree_groupWaits
  have hstatus : w.rd (Reg.STATUS (Reg.pageLAMP g)) = (s.groupWaits g).rd (Reg.STATUS (Reg.pageLAMP g)) := by rw [hw]
  refine ⟨_, hexec, ?_, ?_, ?_, State.rdF_setVout _ g _, ?_, ?_, ?_⟩
  · exact (State.groupSt_of_rd g (by decide) ((hvoutNe _ (lampStatus_ne_voutSet g)).trans
      (hstatus.trans (State.rd_setGroup_status _ g 1)))).1
  · rw [State.bit_of_rd_eq (hvoutNe _ (lampCtrl_ne_voutSet g)), hw, State.groupWaits, State.bit_of_rd_eq (State.rd_setGroup_sound _ g rfl
      (status_ne_ctrl _).symm (lampCtrl_notMem_outKeys g)), State.bit_of_rd_eq (State.rd_busEnable_of_ne _ g (lampCtrl_ne_busStatus g)),
      State.bit_wrB_same _ _ _ _ (by decide)]
  · rw [State.bit_of_rd_eq (hvoutNe _ (busStatus_ne_voutSet g)), State.bit, hbus, bitOf_putB, if_pos rfl]
  · rw [State.out_supplyStarted, hcfg]
    exact List.suffix_append _ _
  · intro k hk
    simp only [List.mem_append, List.mem_cons, List.not_mem_nil, or_false, not_or] at hk
    obtain ⟨⟨hctrl, hs, -, hbusk, hv⟩, ho⟩ := hk
    rw [hvoutNe k hv, hkeep k hctrl hbusk hs ho]
  · exact State.Agree.revert_eq (ps := [.out, .lamp])
      ((hagree.mono (by simp)).trans ((State.agree_supplyStarted w g _).mono (by simp)))

theorem lampGroupEnable_of_on (src : Req) (g : Fin 4) (s : State) (hcut : s.cutOff src = false) (hst : s.groupSt g ≠ 0) :
    ∃ u : State, exec (.lampGroupEnable src g) s = .next u ∧
      u.groupSt g = s.groupSt g ∧ u.bit (Reg.CTRL (Reg.pageLAMP g)) 0 = true ∧
      s.regsBut u [Reg.CTRL (Reg.pageLAMP g)] ∧ { u with regs := s.regs } = s := by
  have hgroup : (s.wrB (Reg.CTRL (Reg.pageLAMP g)) 0 true).groupSt g = s.groupSt g :=
    State.rdF_of_rd_eq (s.rd_wrB_of_ne _ _ (status_ne_ctrl _))
  refine ⟨_, (if_neg (by simp [hcut])).trans (congrArg Host.Outcome.next (if_pos (by rwa [hgroup]))), hgroup,
    State.bit_wrB_same _ _ _ _ (by decide), fun k hk => ?_, rfl⟩
  exact s.rd_wrB_of_ne _ _ (by simpa using hk)

theorem lampGroupDisable_spec (src : Req) (g : Fin 4) (s : State) (hcut : s.cutOff src = false) :
    ∃ u : State, exec (.lampGroupDisable src g) s = .next u ∧
      u.groupSt g = 0 ∧ u.bit (Reg.CTRL (Reg.pageLAMP g)) 0 = false ∧ u.bit Reg.PWR_LAMP_BUS_STATUS g = false ∧
      (∀ i ∈ List.range 16, u.rd (Reg.LAMP_CH_OUT g i) = 0) ∧ (u.lampGroup g).offAt = s.frc ∧
      s.regsBut u ([Reg.CTRL (Reg.pageLAMP g), Reg.STATUS (Reg.pageLAMP g), Reg.PWR_LAMP_BUS_STATUS] ++
        (List.range 16).map (Reg.LAMP_CH_OUT g)) ∧ { u with regs := s.regs, lamp := s.lamp, out := s.out } = s := by
  obtain ⟨t, ht⟩ : ∃ t, t = (s.wrB (Reg.CTRL (Reg.pageLAMP g)) 0 false).setGroup g 0 := ⟨_, rfl⟩
  have hexec : exec (.lampGroupDisable src g) s =
      .next ((t.wrB Reg.PWR_LAMP_BUS_STATUS g false).setLampGroup g { t.lampGroup g with offAt := t.frc }) := by
    refine (if_neg (by simp [hcut])).trans (congrArg Host.Outcome.next ?_)
    rw [ht, ← State.busEnable_false]
    rfl
  have hagree : s.Agree [.lamp, .out] t := by
    rw [ht]
    exact State.Agree.trans ((State.agree_wrB _ _ _).2 (.refl s)) (State.agree_setGroup _ g 0)
  have hrd : ∀ k, k ≠ Reg.PWR_LAMP_BUS_STATUS → ((t.wrB Reg.PWR_LAMP_BUS_STATUS g false).setLampGroup g
      { t.lampGroup g with offAt := t.frc }).rd k = t.rd k := fun k h => by
    rw [State.rd_setLampGroup, State.rd_wrB_of_ne _ _ _ h]
  have hctrl : t.rd (Reg.CTRL (Reg.pageLAMP g)) = (s.wrB (Reg.CTRL (Reg.pageLAMP g)) 0 false).rd (Reg.CTRL (Reg.pageLAMP g)) := by
    rw [ht, State.rd_setGroup_sound _ g rfl (status_ne_ctrl _).symm (lampCtrl_notMem_outKeys g)]
  have hstatus : t.rd (Reg.STATUS (Reg.pageLAMP g)) =
      ((s.wrB (Reg.CTRL (Reg.pageLAMP g)) 0 false).setGroup g 0).rd (Reg.STATUS (Reg.pageLAMP g)) := by rw [ht]
  refine ⟨_, hexec, ?_, ?_, ?_, ?_, ?_, ?_, ?_⟩
  · exact (State.groupSt_of_rd g (by decide)
      (((hrd _ (lampStatus_ne_busStatus g)).trans hstatus).trans (State.rd_setGroup_status _ g 0))).1
  · rw [State.bit_of_rd_eq ((hrd _ (lampCtrl_ne_busStatus g)).trans hctrl), State.bit_wrB_same _ _ _ _ (by decide)]
  · rw [State.bit_of_rd_eq (State.rd_setLampGroup _ _ _ _), State.bit_wrB_same _ _ _ _ (by omega)]
  · intro i hi
    rw [hrd _ (notMem_groupOutKeys.1 (busStatus_notMem_outKeys g) i (List.mem_range.1 hi)).symm, ht]
    exact State.rd_setGroup_out _ g (by decide) (List.mem_range.1 hi)
  · rw [State.lampGroup_setLampGroup_same]
    exact hagree .frc (by simp)
  · intro k hk
    simp only [List.mem_append, List.mem_cons, List.not_mem_nil, or_false, not_or] at hk
    obtain ⟨⟨hkc, hks, hkb⟩, hko⟩ := hk
    rw [hrd k hkb, ht, State.rd_setGroup_sound _ g rfl hks hko, s.rd_wrB_of_ne _ _ hkc]
  · exact State.Agree.revert_eq (ps := [.lamp, .out])
      (hagree.trans ((State.agree_setLampGroup _ _ _ (by simp)).2 ((State.agree_wrB _ _ _).2 (.refl t))))

end

/-! ## BUS_GOOD, its timeout and its fault -/

section
variable {g : Fin 4} {s : State}

/-- One channel's diagnostics start again, unless it is latched. -/
def State.diagStarted (s : State) (c : Nat) : State :=
  if s.latched c then s else (s.wrF (diagKey c) 2 0 0).setLampCh c {}

/-- The diagnostics of a group start again. -/
def State.diagsStarted (s : State) (g : Nat) : State := (List.range 16).foldl (fun s i => s.diagStarted (16 * g + i)) s

theorem State.rd_diagStarted_of_ne (s : State) {c k : Nat} (h : k ≠ diagKey c) : (s.diagStarted c).rd k = s.rd k := by
  unfold State.diagStarted
  split_ifs
  · rfl
  · rw [State.rd_setLampCh, s.rd_wrF_of_ne _ _ _ h]

theorem State.agree_diagStarted (s : State) (c : Nat) : s.Agree [.lamp] (s.diagStarted c) := by
  unfold State.diagStarted
  split_ifs <;> simp

/-- The diagnostic registers of a group. -/
def groupDiagKeys (g : Nat) : List Nat := (List.range 16).map (fun i => diagKey (16 * g + i))

theorem State.rd_diagsStarted_of_notMem (s : State) {g k : Nat} (h : k ∉ groupDiagKeys g) :
    (s.diagsStarted g).rd k = s.rd k := by
  refine State.rd_foldl_of_ne (fun i hi t => t.rd_diagStarted_of_ne ?_) s
  rintro rfl
  exact h (List.mem_map.2 ⟨i, hi, rfl⟩)

theorem State.agree_diagsStarted (s : State) (g : Nat) : s.Agree [.lamp] (s.diagsStarted g) :=
  State.agree_foldl (fun i _ t => t.agree_diagStarted (16 * g + i)) s

theorem State.diagSt_diagsStarted (s : State) (g : Fin 4) {i : Nat} (hi : i < 16) :
    (s.diagsStarted g).diagSt (16 * g + i) = if s.latched (16 * g + i) then s.diagSt (16 * g + i) else 0 := by
  obtain ⟨t, hkeep, ht⟩ := State.rd_foldl_at (f := fun (s : State) i => s.diagStarted (16 * g + i)) (k := diagKey (16 * g + i))
    (n := i) List.nodup_range (List.mem_range.2 hi) (fun m hm hne t => t.rd_diagStarted_of_ne (by
      rw [diagKey_of_group g hi, diagKey_of_group g (List.mem_range.1 hm)]
      simp only [Reg.LAMP_CH_DIAG]
      omega)) s
  have hdiag : t.diagSt (16 * g + i) = s.diagSt (16 * g + i) := State.rdF_of_rd_eq hkeep
  have hlatched : t.latched (16 * g + i) = s.latched (16 * g + i) := by
    unfold State.latched
    rw [hdiag]
  refine (State.rdF_of_rd_eq (s := t.diagStarted (16 * g + i)) ht).trans ?_
  unfold State.diagStarted
  rw [hlatched]
  split_ifs
  · exact hdiag
  · rw [State.rdF_of_rd_eq (State.rd_setLampCh _ _ _ _)]
    exact State.rdF_wrF_same _ _ _ _ _ (by decide) (by decide)

theorem notMem_groupDiagKeys {k : Nat} (h : k < 0xD4118 + 0x1000 * g.val) : k ∉ groupDiagKeys g := by
  intro hk
  obtain ⟨i, hi, rfl⟩ := List.mem_map.1 hk
  rw [diagKey_of_group g (List.mem_range.1 hi)] at h
  simp only [Reg.LAMP_CH_DIAG] at h
  omega

/-- The state in which a good bus has been recorded. -/
def State.busShown (s : State) (g f : Nat) : State :=
  ((s.pmbusFails g f).diagsStarted g).wrB (Reg.LAMP_GROUP_STATUS g) 9 true

theorem execBusGood_of_linear {vm f : Nat} (hst : s.groupSt g = 1) (hvm : fld vm 7 5 = 0) :
    exec (.busGood g vm f) s = .next ((s.busShown g f).groupOn g) :=
  (if_neg (by simp [hst])).trans (if_neg (by simp [hvm]))

theorem State.rd_busShown_of_notMem {f k : Nat} (hs : k ≠ Reg.LAMP_GROUP_STATUS g) (he : k ≠ Reg.LAMP_PMBUS_ERR g)
    (hd : k ∉ groupDiagKeys g) : (s.busShown g f).rd k = s.rd k := by
  unfold State.busShown
  rw [State.rd_wrB_of_ne _ _ _ hs, State.rd_diagsStarted_of_notMem _ hd, State.rd_pmbusFails_of_ne _ _ he]

theorem State.agree_busShown (f : Nat) : s.Agree [.lamp] (s.busShown g f) := by
  refine State.Agree.trans ?_ ((State.agree_wrB _ _ _).2 (.refl _))
  exact ((State.agree_pmbusFails s g f).mono (by simp)).trans (State.agree_diagsStarted _ g)

theorem lampStatus_ne_groupStatus (g : Fin 4) : Reg.LAMP_GROUP_STATUS g ≠ Reg.STATUS (Reg.pageLAMP g) := by
  simp only [Reg.STATUS, Reg.pageLAMP, Reg.LAMP_GROUP_STATUS]; omega
theorem lampInt_ne_groupStatus (g : Fin 4) : Reg.LAMP_GROUP_STATUS g ≠ Reg.INT_STATUS (Reg.pageLAMP g) := by
  simp only [Reg.INT_STATUS, Reg.pageLAMP, Reg.LAMP_GROUP_STATUS]; omega
theorem groupStatus_notMem_outKeys (g : Fin 4) : Reg.LAMP_GROUP_STATUS g ∉ groupOutKeys g :=
  notMem_groupOutKeys.2 fun i _ => by simp only [Reg.LAMP_GROUP_STATUS, Reg.LAMP_CH_OUT]; omega
theorem diagKey_ne_lampStatus {i : Nat} (hi : i < 16) : diagKey (16 * g.val + i) ≠ Reg.STATUS (Reg.pageLAMP g) := by
  rw [diagKey_of_group g hi]
  simp only [Reg.STATUS, Reg.pageLAMP, Reg.LAMP_CH_DIAG]; omega
theorem diagKey_ne_groupStatus {i : Nat} (hi : i < 16) : diagKey (16 * g.val + i) ≠ Reg.LAMP_GROUP_STATUS g := by
  rw [diagKey_of_group g hi]
  simp only [Reg.LAMP_GROUP_STATUS, Reg.LAMP_CH_DIAG]; omega
theorem diagKey_ne_pmbusErr {i : Nat} (hi : i < 16) : diagKey (16 * g.val + i) ≠ Reg.LAMP_PMBUS_ERR g := by
  rw [diagKey_of_group g hi]
  simp only [Reg.LAMP_PMBUS_ERR, Reg.LAMP_CH_DIAG]; omega

theorem State.diagSt_busShown {f i : Nat} (hi : i < 16) : (s.busShown g f).diagSt (16 * g + i) =
    if s.latched (16 * g + i) then s.diagSt (16 * g + i) else 0 := by
  have hdiag : (s.pmbusFails g f).diagSt (16 * g + i) = s.diagSt (16 * g + i) :=
    State.rdF_of_rd_eq (s.rd_pmbusFails_of_ne g (diagKey_ne_pmbusErr hi))
  have hlatched : (s.pmbusFails g f).latched (16 * g + i) = s.latched (16 * g + i) := by
    unfold State.latched
    rw [hdiag]
  rw [← hdiag, ← hlatched, ← State.diagSt_diagsStarted _ g hi]
  exact State.rdF_of_rd_eq (State.rd_wrB_of_ne _ _ _ (diagKey_ne_groupStatus hi))

theorem busGood_of_clear (g : Fin 4) (vm f : Nat) (s : State) (hst : s.groupSt g = 1) (hvm : fld vm 7 5 = 0)
    (hstop : s.pwr.stopIn = false) (hntc : s.ntcOff g = false) :
    ∃ u : State, exec (.busGood g vm f) s = .next u ∧
      u.groupSt g = 2 ∧ u.bit (Reg.STATUS (Reg.pageLAMP g)) 0 = true ∧ u.bit (Reg.LAMP_GROUP_STATUS g) 9 = true ∧
      (∀ i ∈ List.range 16, s.latched (16 * g + i) = false → u.diagSt (16 * g + i) = 0) ∧
      (∀ i ∈ List.range 16, s.latched (16 * g + i) = true → u.diagSt (16 * g + i) = s.diagSt (16 * g + i)) ∧
      s.regsBut u ([Reg.STATUS (Reg.pageLAMP g), Reg.LAMP_GROUP_STATUS g, Reg.LAMP_PMBUS_ERR g] ++
        (List.range 16).map (fun i => diagKey (16 * g + i))) ∧
      { u with regs := s.regs, lamp := s.lamp, out := s.out } = s := by
  have hagree := State.agree_busShown (s := s) (g := g) f
  have hpwr : (s.busShown g f).pwr = s.pwr := hagree .pwr (by simp)
  have hon : (s.busShown g f).groupOn g = (s.busShown g f).groupShown g 2 := by
    rw [State.groupOn_of_clear _ g (by rw [hpwr]; exact hstop), State.setGroup_on]
    rw [State.ntcOff_congr s g hpwr, hntc]
    · exact State.rd_busShown_of_notMem (by simp only [Reg.LAMP_NTC_LIMITS, Reg.LAMP_GROUP_STATUS]; omega)
        (by simp only [Reg.LAMP_NTC_LIMITS, Reg.LAMP_PMBUS_ERR]; omega)
        (notMem_groupDiagKeys (by simp only [Reg.LAMP_NTC_LIMITS]; omega))
    · exact State.rd_busShown_of_notMem (by simp only [Reg.LAMP_NTC_TEMP01, Reg.LAMP_GROUP_STATUS]; omega)
        (by simp only [Reg.LAMP_NTC_TEMP01, Reg.LAMP_PMBUS_ERR]; omega)
        (notMem_groupDiagKeys (by simp only [Reg.LAMP_NTC_TEMP01]; omega))
    · exact State.rd_busShown_of_notMem (by simp only [Reg.LAMP_NTC_TEMP23, Reg.LAMP_GROUP_STATUS]; omega)
        (by simp only [Reg.LAMP_NTC_TEMP23, Reg.LAMP_PMBUS_ERR]; omega)
        (notMem_groupDiagKeys (by simp only [Reg.LAMP_NTC_TEMP23]; omega))
  have hexec := execBusGood_of_linear (f := f) hst hvm
  rw [hon] at hexec
  obtain ⟨hgroup, hready, -⟩ := State.groupSt_of_rd g (by decide) (State.rd_groupShown_status (s.busShown g f) g 2)
  have hkeep : ∀ k, k ≠ Reg.STATUS (Reg.pageLAMP g) → ((s.busShown g f).groupShown g 2).rd k = (s.busShown g f).rd k :=
    fun k h => State.rd_groupShown_sound _ g rfl h
  have hdiag : ∀ i < 16, ((s.busShown g f).groupShown g 2).diagSt (16 * g + i) =
      if s.latched (16 * g + i) then s.diagSt (16 * g + i) else 0 := fun i hi =>
    (State.rdF_of_rd_eq (hkeep _ (diagKey_ne_lampStatus hi))).trans (State.diagSt_busShown hi)
  refine ⟨_, hexec, hgroup, hready, ?_, ?_, ?_, ?_, ?_⟩
  · rw [State.bit_of_rd_eq (hkeep _ (lampStatus_ne_groupStatus g))]
    exact State.bit_wrB_same _ _ _ _ (by decide)
  · intro i hi hlatched
    rw [hdiag i (List.mem_range.1 hi), hlatched]
    rfl
  · intro i hi hlatched
    rw [hdiag i (List.mem_range.1 hi), if_pos hlatched]
  · intro k hk
    simp only [List.mem_append, List.mem_cons, List.not_mem_nil, or_false, not_or] at hk
    obtain ⟨⟨hks, hkg, hke⟩, hkd⟩ := hk
    rw [hkeep k hks, State.rd_busShown_of_notMem hkg hke hkd]
  · exact State.Agree.revert_eq (ps := [.lamp, .out])
      ((hagree.mono (by simp)).trans ((State.agree_groupShown _ g 2).mono (by simp)))

theorem busGood_of_stop (g : Fin 4) (vm f : Nat) (s : State) (hst : s.groupSt g = 1) (hvm : fld vm 7 5 = 0)
    (hstop : s.pwr.stopIn = true) :
    ∃ u : State, exec (.busGood g vm f) s = .next u ∧
      u.groupSt g = 3 ∧ u.bit (Reg.INT_STATUS (Reg.pageLAMP g)) 13 = true ∧
      s.regsBut u ([Reg.STATUS (Reg.pageLAMP g), Reg.INT_STATUS (Reg.pageLAMP g), Reg.LAMP_GROUP_STATUS g,
        Reg.LAMP_PMBUS_ERR g] ++ (List.range 16).map (fun i => diagKey (16 * g + i)) ++
        (List.range 16).map (Reg.LAMP_CH_OUT g)) ∧ { u with regs := s.regs, lamp := s.lamp, out := s.out } = s := by
  have hagree := State.agree_busShown (s := s) (g := g) f
  have hpwr : (s.busShown g f).pwr = s.pwr := hagree .pwr (by simp)
  have hexec := execBusGood_of_linear (f := f) hst hvm
  rw [State.groupOn_of_stop _ g (by rw [hpwr]; exact hstop)] at hexec
  refine ⟨_, hexec, ?_, ?_, ?_, ?_⟩
  · exact (State.groupSt_of_rd g (by decide) ((State.rd_intSet_of_ne _ _ (lampInt_ne_lampStatus _).symm).trans
      (State.rd_setGroup_status _ g 3))).1
  · rw [State.bit_intSet _ _ _ _ _ (by decide), if_pos ⟨rfl, rfl⟩]
  · intro k hk
    simp only [List.mem_append, List.mem_cons, List.not_mem_nil, or_false, not_or] at hk
    obtain ⟨⟨⟨hks, hki, hkg, hke⟩, hkd⟩, hko⟩ := hk
    rw [State.rd_intSet_of_ne _ _ hki, State.rd_setGroup_sound _ g rfl hks hko, State.rd_busShown_of_notMem hkg hke hkd]
  · exact State.Agree.revert_eq (ps := [.lamp, .out])
      (((hagree.mono (by simp)).trans (State.agree_setGroup _ g 3)).trans ((State.agree_intSet _ _).2 (.refl _)))

theorem busGood_of_mode (g : Fin 4) (vm f : Nat) (s : State) (hst : s.groupSt g = 1) (hvm : fld vm 7 5 ≠ 0) :
    ∃ u : State, exec (.busGood g vm f) s = .next u ∧
      u.groupSt g = 5 ∧ u.bit (Reg.LAMP_GROUP_STATUS g) 10 = true ∧
      u.bit (Reg.INT_STATUS (Reg.pageLAMP g)) 12 = true ∧ u.bit (Reg.STATUS (Reg.pageLAMP g)) 2 = true ∧
      s.regsBut u ([Reg.STATUS (Reg.pageLAMP g), Reg.INT_STATUS (Reg.pageLAMP g), Reg.LAMP_GROUP_STATUS g,
        Reg.LAMP_PMBUS_ERR g] ++ (List.range 16).map (Reg.LAMP_CH_OUT g)) ∧
      { u with regs := s.regs, lamp := s.lamp, out := s.out } = s := by
  have hexec : exec (.busGood g vm f) s = .next ((((s.pmbusFails g f).setGroup g 5).wrB (Reg.LAMP_GROUP_STATUS g) 10 true).intSet
      (Reg.pageLAMP g) 12) := (if_neg (by simp [hst])).trans (if_pos hvm)
  obtain ⟨hgroup, -, hfault⟩ := State.groupSt_of_rd g (by decide) (((State.rd_intSet_of_ne _ _
    (lampInt_ne_lampStatus _).symm).trans (State.rd_wrB_of_ne _ _ _ (lampStatus_ne_groupStatus g).symm)).trans
      (State.rd_setGroup_status (s.pmbusFails g f) g 5))
  refine ⟨_, hexec, hgroup, ?_, ?_, hfault, ?_, ?_⟩
  · rw [State.bit_of_rd_eq (State.rd_intSet_of_ne _ _ (lampInt_ne_groupStatus g)), State.bit_wrB_same _ _ _ _ (by decide)]
  · rw [State.bit_intSet _ _ _ _ _ (by decide), if_pos ⟨rfl, rfl⟩]
  · intro k hk
    simp only [List.mem_append, List.mem_cons, List.not_mem_nil, or_false, not_or] at hk
    obtain ⟨⟨hks, hki, hkg, hke⟩, hko⟩ := hk
    rw [State.rd_intSet_of_ne _ _ hki, State.rd_wrB_of_ne _ _ _ hkg, State.rd_setGroup_of_notMem _ g hks hki hko,
      State.rd_pmbusFails_of_ne _ _ hke]
  · exact State.Agree.revert_eq (ps := [.lamp, .out])
      ((((State.agree_pmbusFails s g f).mono (by simp)).trans (State.agree_setGroup _ g 5)).trans
        ((State.agree_intSet _ _).2 ((State.agree_wrB _ _ _).2 (.refl _))))

theorem busWaitTimeout_of_waiting (g : Fin 4) (f : Nat) (s : State) (hst : s.groupSt g = 1) :
    ∃ u : State, exec (.busWaitTimeout g f) s = .next u ∧
      u.groupSt g = 5 ∧ u.bit (Reg.STATUS (Reg.pageLAMP g)) 2 = true ∧
      u.bit (Reg.INT_STATUS (Reg.pageLAMP g)) 16 = true ∧
      s.regsBut u ([Reg.STATUS (Reg.pageLAMP g), Reg.INT_STATUS (Reg.pageLAMP g), Reg.LAMP_PMBUS_ERR g] ++
        (List.range 16).map (Reg.LAMP_CH_OUT g)) ∧ { u with regs := s.regs, lamp := s.lamp, out := s.out } = s := by
  have hexec : exec (.busWaitTimeout g f) s = .next (((s.pmbusFails g f).setGroup g 5).intSet (Reg.pageLAMP g) 16) := if_pos hst
  obtain ⟨hgroup, -, hfault⟩ := State.groupSt_of_rd g (by decide) ((State.rd_intSet_of_ne _ _
    (lampInt_ne_lampStatus _).symm).trans (State.rd_setGroup_status (s.pmbusFails g f) g 5))
  refine ⟨_, hexec, hgroup, hfault, ?_, ?_, ?_⟩
  · rw [State.bit_intSet _ _ _ _ _ (by decide), if_pos ⟨rfl, rfl⟩]
  · intro k hk
    simp only [List.mem_append, List.mem_cons, List.not_mem_nil, or_false, not_or] at hk
    obtain ⟨⟨hks, hki, hke⟩, hko⟩ := hk
    rw [State.rd_intSet_of_ne _ _ hki, State.rd_setGroup_of_notMem _ g hks hki hko, State.rd_pmbusFails_of_ne _ _ hke]
  · exact State.Agree.revert_eq (ps := [.lamp, .out])
      ((((State.agree_pmbusFails s g f).mono (by simp)).trans (State.agree_setGroup _ g 5)).trans
        ((State.agree_intSet _ _).2 (.refl _)))

theorem busFault_of_on (g : Fin 4) (s : State) (hst : s.groupSt g = 2) :
    ∃ u : State, exec (.busFault g) s = .next u ∧
      u.groupSt g = 5 ∧ u.bit (Reg.STATUS (Reg.pageLAMP g)) 2 = true ∧ u.bit (Reg.STATUS (Reg.pageLAMP g)) 0 = false ∧
      u.bit (Reg.INT_STATUS (Reg.pageLAMP g)) 16 = true ∧ u.bit (Reg.LAMP_GROUP_STATUS g) 9 = false ∧
      (∀ i ∈ List.range 16, u.rd (Reg.LAMP_CH_OUT g i) = 0) ∧
      s.regsBut u ([Reg.STATUS (Reg.pageLAMP g), Reg.INT_STATUS (Reg.pageLAMP g), Reg.LAMP_GROUP_STATUS g] ++
        (List.range 16).map (Reg.LAMP_CH_OUT g)) ∧ { u with regs := s.regs, lamp := s.lamp, out := s.out } = s := by
  have hexec : exec (.busFault g) s = .next (((s.wrB (Reg.LAMP_GROUP_STATUS g) 9 false).setGroup g 5).intSet
      (Reg.pageLAMP g) 16) := if_pos hst
  obtain ⟨hgroup, hready, hfault⟩ := State.groupSt_of_rd g (by decide) ((State.rd_intSet_of_ne _ _
    (lampInt_ne_lampStatus _).symm).trans (State.rd_setGroup_status (s.wrB (Reg.LAMP_GROUP_STATUS g) 9 false) g 5))
  refine ⟨_, hexec, hgroup, hfault, hready, ?_, ?_, ?_, ?_, ?_⟩
  · rw [State.bit_intSet _ _ _ _ _ (by decide), if_pos ⟨rfl, rfl⟩]
  · rw [State.bit_of_rd_eq (State.rd_intSet_of_ne _ _ (lampInt_ne_groupStatus g)),
      State.bit_of_rd_eq (State.rd_setGroup_of_notMem _ g (lampStatus_ne_groupStatus g) (lampInt_ne_groupStatus g)
        (groupStatus_notMem_outKeys g)), State.bit_wrB_same _ _ _ _ (by decide)]
  · intro i hi
    rw [State.rd_intSet_of_ne _ _ (notMem_groupOutKeys.1 (lampInt_notMem_outKeys g) i (List.mem_range.1 hi)).symm]
    exact State.rd_setGroup_out _ g (by decide) (List.mem_range.1 hi)
  · intro k hk
    simp only [List.mem_append, List.mem_cons, List.not_mem_nil, or_false, not_or] at hk
    obtain ⟨⟨hks, hki, hkg⟩, hko⟩ := hk
    rw [State.rd_intSet_of_ne _ _ hki, State.rd_setGroup_of_notMem _ g hks hki hko, s.rd_wrB_of_ne _ _ hkg]
  · exact State.Agree.revert_eq (ps := [.lamp, .out])
      (State.Agree.trans ((State.agree_wrB _ _ _).2 (.refl s))
        ((State.agree_setGroup _ g 5).trans ((State.agree_intSet _ _).2 (.refl _))))

/-! ## RESUME -/

/-- The state in which commanding has resumed. -/
def State.groupResumed (s : State) (g : Nat) : State :=
  (s.wrB (Reg.LAMP_GROUP_STATUS g) 10 false).setLampGroup g { s.lampGroup g with stepFails := 0 }

theorem groupResume_of_stopped (src : Req) (g : Fin 4) (s : State) (hcut : s.cutOff src = false) (hstop : s.pwr.stopIn = false)
    (hst : s.groupSt g = 3) (hntc : s.ntcOff g = false) :
    ∃ u : State, exec (.groupResume src g) s = .next u ∧
      u.groupSt g = 2 ∧ u.bit (Reg.LAMP_GROUP_STATUS g) 10 = false ∧ (u.lampGroup g).stepFails = 0 ∧
      s.regsBut u [Reg.STATUS (Reg.pageLAMP g), Reg.LAMP_GROUP_STATUS g] ∧
      { u with regs := s.regs, lamp := s.lamp } = s := by
  have hkeep : ∀ k, k ≠ Reg.LAMP_GROUP_STATUS g → (s.groupResumed g).rd k = s.rd k := fun k h => by
    unfold State.groupResumed
    rw [State.rd_setLampGroup, s.rd_wrB_of_ne _ _ h]
  have hgroup : (s.groupResumed g).groupSt g = 3 :=
    (State.rdF_of_rd_eq (hkeep _ (lampStatus_ne_groupStatus g).symm)).trans hst
  have hntc' : (s.groupResumed g).ntcOff g = false := by
    refine (State.ntcOff_congr s g (t := s.groupResumed g) rfl (hkeep _ ?_) (hkeep _ ?_) (hkeep _ ?_)).trans hntc
    · simp only [Reg.LAMP_NTC_LIMITS, Reg.LAMP_GROUP_STATUS]; omega
    · simp only [Reg.LAMP_NTC_TEMP01, Reg.LAMP_GROUP_STATUS]; omega
    · simp only [Reg.LAMP_NTC_TEMP23, Reg.LAMP_GROUP_STATUS]; omega
  have hexec : exec (.groupResume src g) s = .next ((s.groupResumed g).groupShown g 2) := by
    refine (if_neg (by simp [hcut])).trans (congrArg Host.Outcome.next ((if_neg (by simp [hstop])).trans ?_))
    refine (if_pos hgroup).trans ?_
    exact State.groupOn_of_clear (s.groupResumed g) g hstop hntc'
  refine ⟨_, hexec, (State.groupSt_of_rd g (by decide) (State.rd_groupShown_status _ g 2)).1, ?_, ?_, ?_, ?_⟩
  · rw [State.bit_of_rd_eq (State.rd_groupShown_sound _ g rfl (lampStatus_ne_groupStatus g)), State.groupResumed,
      State.bit_of_rd_eq (State.rd_setLampGroup _ _ _ _), State.bit_wrB_same _ _ _ _ (by decide)]
  · have hlamp : ((s.groupResumed g).groupShown g 2).lampGroup g = (s.groupResumed g).lampGroup g := by
      unfold State.lampGroup
      rw [State.agree_groupShown (s.groupResumed g) g 2 .lamp (by simp)]
    rw [hlamp, State.groupResumed, State.lampGroup_setLampGroup_same]
  · intro k hk
    simp only [List.mem_cons, List.not_mem_nil, or_false, not_or] at hk
    rw [State.rd_groupShown_sound _ g rfl hk.1, hkeep k hk.2]
  · exact State.Agree.revert_eq (ps := [.lamp])
      (State.Agree.trans ((State.agree_setLampGroup _ _ _ (by simp)).2 ((State.agree_wrB _ _ _).2 (.refl s)))
        ((State.agree_groupShown (s.groupResumed g) g 2).mono (by simp)))

end

/-! ## The queues of the sequencer -/

theorem satAdd_lt (v n : Nat) : satAdd 32 v n < 2 ^ 32 := by
  unfold satAdd
  split <;> omega

section
variable {s : State} {src : Req}

theorem State.lampQueue_setLampQueue_same (s : State) (q : Nat) (l : List SeqEntry) : (s.setLampQueue q l).lampQueue q = l :=
  smGet_smSet_same (fun _ => []) s.lamp.queues q l

theorem State.lampQueue_setLampQueue_other (s : State) {q p : Nat} (l : List SeqEntry) (h : p ≠ q) :
    (s.setLampQueue q l).lampQueue p = s.lampQueue p :=
  smGet_smSet_ne (fun _ => []) s.lamp.queues q p l h

theorem State.rdF_setLampQueue (s : State) {q : Nat} {l : List SeqEntry} (hq : q < 2) (hl : l.length ≤ 16) :
    (s.setLampQueue q l).rdF Reg.LAMPSEQ_QUEUE_STATUS (8 * q + 4) (8 * q) = l.length := by
  refine (State.rdF_wrF_same _ _ _ _ _ (by omega) (by omega)).trans (Nat.mod_eq_of_lt ?_)
  have hw : 8 * q + 4 + 1 - 8 * q = 5 := by omega
  rw [hw]
  omega

theorem State.rd_setLampQueue_of_ne (s : State) {q k : Nat} (l : List SeqEntry) (h : k ≠ Reg.LAMPSEQ_QUEUE_STATUS) :
    (s.setLampQueue q l).rd k = s.rd k := by
  unfold State.setLampQueue
  rw [State.rd_wrF_of_ne _ _ _ _ h]
  rfl

/-- The entry that PUSH_ENTRY and PUSH_CURRENT describe. -/
def State.pushEntry (s : State) : SeqEntry where
  plan := fld (s.rd Reg.LAMPSEQ_PUSH_ENTRY) 15 0
  band := fld (s.rd Reg.LAMPSEQ_PUSH_ENTRY) 19 16
  current := s.rdF Reg.LAMPSEQ_PUSH_CURRENT 11 0

theorem execLampPush_of_own {q : Nat} (hcut : s.cutOff src = false)
    (hplan : isHost src = false ∨ fld (s.rd Reg.LAMPSEQ_PUSH_ENTRY) 15 0 < 0x8000)
    (hq : q = fld (s.rd Reg.LAMPSEQ_PUSH_ENTRY) 20 20) : exec (.lampPush src) s =
    .next (if (s.lampAdd q s.pushEntry).2 then (s.lampAdd q s.pushEntry).1
      else (s.errAt Reg.pageLAMPSEQ 0x0101 Reg.LAMPSEQ_PUSH_CTRL src).intSet Reg.pageLAMPSEQ 10) := by
  subst hq
  refine (if_neg (by simp [hcut])).trans (congrArg Host.Outcome.next ?_)
  unfold State.lampPush
  refine if_neg ?_
  rintro ⟨hge, hhost⟩
  rcases hplan with h | h
  · simp [h] at hhost
  · omega

theorem lampPush_of_room (src : Req) (q : Nat) (s : State) (hcut : s.cutOff src = false)
    (hplan : isHost src = false ∨ fld (s.rd Reg.LAMPSEQ_PUSH_ENTRY) 15 0 < 0x8000)
    (hq : q = fld (s.rd Reg.LAMPSEQ_PUSH_ENTRY) 20 20) (hroom : (s.lampQueue q).length < 16) :
    ∃ u : State, exec (.lampPush src) s = .next u ∧
      u.lampQueue q = s.lampQueue q ++ [{ plan := fld (s.rd Reg.LAMPSEQ_PUSH_ENTRY) 15 0, band := fld (s.rd Reg.LAMPSEQ_PUSH_ENTRY) 19 16, current := s.rdF Reg.LAMPSEQ_PUSH_CURRENT 11 0 }] ∧
      u.lampQueue (1 - q) = s.lampQueue (1 - q) ∧
      u.rdF Reg.LAMPSEQ_QUEUE_STATUS (8 * q + 4) (8 * q) = (s.lampQueue q).length + 1 ∧
      s.regsBut u [Reg.LAMPSEQ_QUEUE_STATUS] ∧ { u with regs := s.regs, lamp := s.lamp } = s := by
  have hq2 : q < 2 := hq ▸ fld_lt _ _ _
  have hadd : s.lampAdd q s.pushEntry = (s.setLampQueue q (s.lampQueue q ++ [s.pushEntry]), true) := if_neg (by omega)
  have hexec := execLampPush_of_own hcut hplan hq
  rw [hadd] at hexec
  refine ⟨_, hexec.trans (congrArg Host.Outcome.next (if_pos rfl)), State.lampQueue_setLampQueue_same _ _ _,
    State.lampQueue_setLampQueue_other _ _ (by omega), ?_, fun k hk => ?_, rfl⟩
  · rw [State.rdF_setLampQueue _ hq2 (by simp only [List.length_append, List.length_singleton]; omega), List.length_append,
      List.length_singleton]
  · exact State.rd_setLampQueue_of_ne _ _ (by simpa using hk)

theorem lampPush_of_full (src : Req) (q : Nat) (s : State) (hcut : s.cutOff src = false)
    (hplan : isHost src = false ∨ fld (s.rd Reg.LAMPSEQ_PUSH_ENTRY) 15 0 < 0x8000)
    (hq : q = fld (s.rd Reg.LAMPSEQ_PUSH_ENTRY) 20 20) (hfull : 16 ≤ (s.lampQueue q).length) :
    ∃ u : State, exec (.lampPush src) s = .next u ∧
      s.errored u Reg.pageLAMPSEQ 0x0101 Reg.LAMPSEQ_PUSH_CTRL (srcCode src) ∧
      u.bit (Reg.INT_STATUS Reg.pageLAMPSEQ) 10 = true ∧ s.regsBut u (errorKeys Reg.pageLAMPSEQ) ∧
      { u with regs := s.regs } = s := by
  have hadd : (s.lampAdd q s.pushEntry).2 = false := by
    unfold State.lampAdd
    rw [if_pos hfull]
  have hexec := execLampPush_of_own hcut hplan hq
  rw [hadd] at hexec
  obtain ⟨hinfo, hcount, hint⟩ := s.errored_errAt Reg.pageLAMPSEQ 0x0101 Reg.LAMPSEQ_PUSH_CTRL src (by decide)
  refine ⟨_, hexec.trans (congrArg Host.Outcome.next (if_neg (by simp))), ⟨?_, ?_, ?_⟩, ?_, fun k hk => ?_, ?_⟩
  · rw [State.rd_intSet_of_ne _ _ (by decide)]
    exact hinfo
  · rw [State.rd_intSet_of_ne _ _ (by decide)]
    exact hcount
  · rw [State.bit_intSet _ _ _ _ _ (by decide), if_neg (by decide)]
    exact hint
  · rw [State.bit_intSet _ _ _ _ _ (by decide), if_pos ⟨rfl, rfl⟩]
  · rw [State.rd_intSet_of_ne _ _ (by simp only [mem_errorKeys, not_or] at hk; exact hk.2.2)]
    exact s.regsBut_error _ _ _ _ k hk
  · exact State.Agree.revert_eq (ps := []) ((State.agree_intSet _ _).2 ((State.agree_errAt _ _ _ _).2 (.refl s)))

theorem lampFlush_of_entries (src : Req) (port : Fin 2) (s : State) (hcut : s.cutOff src = false) (hne : s.lampQueue port ≠ []) :
    ∃ u : State, exec (.lampFlush src port) s = .next u ∧
      u.lampQueue port = [] ∧ u.rdF Reg.LAMPSEQ_QUEUE_STATUS (8 * port + 4) (8 * port) = 0 ∧
      u.rd Reg.LAMPSEQ_MISMATCH_COUNT = satAdd 32 (s.rd Reg.LAMPSEQ_MISMATCH_COUNT) (s.lampQueue port).length ∧
      u.bit (Reg.INT_STATUS Reg.pageLAMPSEQ) 8 = true ∧
      s.regsBut u [Reg.LAMPSEQ_QUEUE_STATUS, Reg.LAMPSEQ_MISMATCH_COUNT, Reg.INT_STATUS Reg.pageLAMPSEQ] ∧
      { u with regs := s.regs, lamp := s.lamp } = s := by
  have hmiss : (s.setLampQueue port []).rd Reg.LAMPSEQ_MISMATCH_COUNT = s.rd Reg.LAMPSEQ_MISMATCH_COUNT :=
    s.rd_setLampQueue_of_ne _ (by decide)
  have hexec : exec (.lampFlush src port) s = .next (((s.setLampQueue port []).wr Reg.LAMPSEQ_MISMATCH_COUNT
      (satAdd 32 (s.rd Reg.LAMPSEQ_MISMATCH_COUNT) (s.lampQueue port).length)).intSet Reg.pageLAMPSEQ 8) := by
    refine (if_neg (by simp [hcut])).trans (congrArg Host.Outcome.next ?_)
    rw [← hmiss]
    exact if_neg (by simpa using hne)
  refine ⟨_, hexec, State.lampQueue_setLampQueue_same _ _ _, ?_, ?_, ?_, fun k hk => ?_, rfl⟩
  · rw [State.rdF_of_rd_eq (State.rd_intSet_of_ne _ _ (by decide)), State.rdF_of_rd_eq (State.rd_wr_of_ne _ _ (by decide)),
      State.rdF_setLampQueue _ port.isLt (by simp)]
    rfl
  · rw [State.rd_intSet_of_ne _ _ (by decide), State.rd_wr_same]
    exact Nat.mod_eq_of_lt (satAdd_lt _ _)
  · rw [State.bit_intSet _ _ _ _ _ (by decide), if_pos ⟨rfl, rfl⟩]
  · simp only [List.mem_cons, List.not_mem_nil, or_false, not_or] at hk
    rw [State.rd_intSet_of_ne _ _ hk.2.2, State.rd_wr_of_ne _ _ hk.2.1, s.rd_setLampQueue_of_ne _ hk.1]

end

/-- Settles O26: the commands of a lamp group and of the sequencer's queues, case by case. -/
theorem lampGroupsAndQueues : Obligations.LampGroupsAndQueues := by
  unfold Obligations.LampGroupsAndQueues
  refine ⟨lampGroupEnable_of_off, lampGroupEnable_of_on, lampGroupDisable_spec, busGood_of_clear, busGood_of_stop, ?_,
    busGood_of_mode, busWaitTimeout_of_waiting, ?_, busFault_of_on, ?_, ?_, groupResume_of_stopped, lampPush_of_room, ?_,
    lampPush_of_full, lampFlush_of_entries⟩
  · intro g vm f s hst
    exact if_pos hst
  · intro g f s hst
    exact if_neg hst
  · intro g s hst
    exact if_neg hst
  · intro src g s hcut hstop
    exact State.refused_errAt (by decide) ((if_neg (by simp [hcut])).trans (congrArg Host.Outcome.next (if_pos hstop)))
  · intro src s hcut hhost hplan
    exact State.refused_errAt (by decide) ((if_neg (by simp [hcut])).trans
      (congrArg Host.Outcome.next (if_pos ⟨hplan, hhost⟩)))

end Sys2Proof.Machine
end

section
/-! The drive of the lamp channels: periods, headroom, bus measurements and NTC inputs (R312 to R332). -/

namespace Sys2Proof.Machine

/-! ## The start of a period -/

section
variable (s : State) (c g : Nat)

/-- The registers and the pulses of a period that starts at t with a DAC code and a duty. -/
def State.periodBegun (s : State) (c t code duty : Nat) (limited : Bool) : State :=
  let run := (if code = 0 then [] else lampPulses (s.lampPeriod c).1 duty (s.spread c)).map (fun x => (t + x.1, x.2))
  let u := (((s.wrB (diagKey c) 8 (s.lampDemand c).2).wrB (diagKey c) 9 limited).wrB (diagKey c) 11 (s.lampPeriod c).2).wr
    (Reg.LAMP_CH_OUT (c / 16) (c % 16)) (code + duty * 65536)
  (u.setLampCh c { u.lampCh c with start := t, period := (s.lampPeriod c).1, pulses := run, due := t + (s.lampPeriod c).1 }).emits
    (run.map (fun x => .lamp c x.1 x.2 code))

/-- The masks that have begun cut the pulses of the channels that they blank. -/
def State.masksCut (s : State) (c : Nat) : State := ([0, 1].filter (fun q => s.blanked q c)).foldl State.maskCut s

/-- The state after a period's start with a DAC code and a duty. -/
def State.periodStarted (s : State) (c t : Nat) (d : Nat × Nat) (limited : Bool) : State :=
  let u := (((s.till t).periodBegun c t d.1 d.2 limited).showDose (c / 16)).masksCut c
  u.countUnqual c (decide (u.lampOn c ≥ 3200))

theorem execLampPeriodStart_of_due {ch : Fin 64} {t : Nat} {d : Nat × Nat} (hst : s.groupSt (ch.val / 16) = 2)
    (hdue : (s.lampCh ch).due ≤ t)
    (hdrive : (if (s.till t).lampOff ch t = true then (0, 0) else (s.till t).lampDrive ch) = d) :
    ∃ limited : Bool, exec (.lampPeriodStart ch t) s = .next (s.periodStarted ch t d limited) := by
  subst hdrive
  refine ⟨!(s.till t).lampOff ch t && decide ((s.till t).modeDemand ch > (s.till t).dMax ch), ?_⟩
  have hrun : ¬((s.till t).groupSt (ch.val / 16) ≠ 2 ∨ t < ((s.till t).lampCh ch).due) := by
    rintro (h | h)
    · exact h hst
    · exact absurd hdue (Nat.not_le.2 h)
  exact if_neg hrun

/-! ### What a period's start leaves -/

theorem State.rd_emits (l : List Out) (k : Nat) : (s.emits l).rd k = s.rd k := rfl

theorem State.rd_periodBegun_of_ne {t code duty : Nat} {limited : Bool} {k : Nat} (hd : k ≠ diagKey c)
    (ho : k ≠ Reg.LAMP_CH_OUT (c / 16) (c % 16)) : (s.periodBegun c t code duty limited).rd k = s.rd k := by
  unfold State.periodBegun
  dsimp only
  rw [State.rd_emits, State.rd_setLampCh, State.rd_wr_of_ne _ _ ho, State.rd_wrB_of_ne _ _ _ hd, State.rd_wrB_of_ne _ _ _ hd,
    State.rd_wrB_of_ne _ _ _ hd]

theorem State.rd_periodBegun_out (t code duty : Nat) (limited : Bool) :
    (s.periodBegun c t code duty limited).rd (Reg.LAMP_CH_OUT (c / 16) (c % 16)) = (code + duty * 65536) % 2 ^ 32 := by
  unfold State.periodBegun
  dsimp only
  rw [State.rd_emits, State.rd_setLampCh, State.rd_wr_same]

theorem State.lampCh_periodBegun (t code duty : Nat) (limited : Bool) : (s.periodBegun c t code duty limited).lampCh c =
    { s.lampCh c with
      start := t
      period := (s.lampPeriod c).1
      pulses := (if code = 0 then [] else lampPulses (s.lampPeriod c).1 duty (s.spread c)).map (fun x => (t + x.1, x.2))
      due := t + (s.lampPeriod c).1 } := State.lampCh_setLampCh_same _ _ _

theorem State.out_periodBegun (t code duty : Nat) (limited : Bool) : (s.periodBegun c t code duty limited).out =
    s.out ++ (if code = 0 then [] else
      (lampPulses (s.lampPeriod c).1 duty (s.spread c)).map (fun x => Out.lamp c (t + x.1) x.2 code)) := by
  change s.out ++ List.map _ (List.map _ _) = _
  rw [List.map_map]
  split_ifs <;> rfl

theorem State.agree_periodBegun (t code duty : Nat) (limited : Bool) :
    s.Agree [.lamp, .out] (s.periodBegun c t code duty limited) := by
  unfold State.periodBegun
  dsimp only
  rw [State.agree_emits _ (by simp), State.agree_setLampCh _ _ _ (by simp), State.agree_wr, State.agree_wrB, State.agree_wrB,
    State.agree_wrB]
  exact .refl s

/-! ### DOSE_SHORT -/

theorem State.rd_showDose_of_notMem {k : Nat} (h : k ∉ groupDoseKeys g) : (s.showDose g).rd k = s.rd k := by
  obtain ⟨hint, hdiag⟩ : k ≠ Reg.INT_STATUS (Reg.pageLAMP g) ∧ k ∉ groupDiagKeys g :=
    ⟨fun e => h (e ▸ List.mem_cons_self), fun hm => h (List.mem_cons_of_mem _ hm)⟩
  have hfold : (((List.range 16).map (16 * g + ·)).foldl (fun t c => t.wrB (diagKey c) 10 (s.doseShort c)) s).rd k = s.rd k := by
    refine State.rd_foldl_of_ne (fun c hc t => t.rd_wrB_of_ne _ _ ?_) s
    rintro rfl
    obtain ⟨i, hi, rfl⟩ := List.mem_map.1 hc
    exact hdiag (List.mem_map.2 ⟨i, hi, rfl⟩)
  unfold State.showDose
  dsimp only
  split_ifs
  · rw [State.rd_intSet_of_ne _ _ hint, hfold]
  · exact hfold

theorem State.agree_showDose : s.Agree [] (s.showDose g) := by
  have hfold : s.Agree [] (((List.range 16).map (16 * g + ·)).foldl (fun t c => t.wrB (diagKey c) 10 (s.doseShort c)) s) :=
    State.agree_foldl (fun c _ t => (State.agree_wrB _ _ _).2 (.refl t)) s
  unfold State.showDose
  dsimp only
  split_ifs
  · exact (State.agree_intSet _ _).2 hfold
  · exact hfold

theorem State.lampCh_of_agree {t : State} (h : s.Agree [] t) : t.lampCh c = s.lampCh c := by
  unfold State.lampCh
  rw [h .lamp (by simp)]

/-! ### The cuts of a mask -/

/-- A state in which pulses have been cut: no register and no period changes, and a channel without pulses has none. -/
def State.cutFrom (s t : State) (c : Nat) : Prop :=
  (∀ k, t.rd k = s.rd k) ∧ s.Agree [.lamp, .out] t ∧ (t.lampCh c).start = (s.lampCh c).start ∧
    ((s.lampCh c).pulses = [] → (t.lampCh c).pulses = [])

theorem State.cutFrom.refl : s.cutFrom s c := ⟨fun _ => rfl, .refl s, rfl, id⟩

theorem State.cutFrom.trans {s t u : State} {c : Nat} (h : s.cutFrom t c) (h' : t.cutFrom u c) : s.cutFrom u c := by
  obtain ⟨hrd, hagree, hstart, hpulses⟩ := h
  obtain ⟨hrd', hagree', hstart', hpulses'⟩ := h'
  exact ⟨fun k => (hrd' k).trans (hrd k), hagree.trans hagree', hstart'.trans hstart, fun hnone => hpulses' (hpulses hnone)⟩

theorem State.cutFrom_cutPulses (x a : Nat) : s.cutFrom (s.cutPulses x a) c := by
  refine ⟨fun k => s.rd_cutPulses _ _ _, (s.agree_cutPulses _ _ (by simp) (by simp)).2 (.refl s), ?_, ?_⟩
  · unfold State.cutPulses
    dsimp only
    split_ifs
    · by_cases hx : c = x
      · subst hx
        rw [State.lampCh_emit, State.lampCh_setLampCh_same]
      · exact congrArg LampCh.start (smGet_smSet_ne _ _ _ _ _ hx)
    · rfl
  · intro hnone
    unfold State.cutPulses
    dsimp only
    split_ifs with hany
    · by_cases hx : c = x
      · subst hx
        rw [hnone] at hany
        simp at hany
      · exact (congrArg LampCh.pulses (smGet_smSet_ne _ _ _ _ _ hx)).trans hnone
    · exact hnone

theorem State.cutFrom_foldl {α : Type} {f : State → α → State} {l : List α} (h : ∀ x ∈ l, ∀ t : State, t.cutFrom (f t x) c) :
    s.cutFrom (l.foldl f s) c :=
  List.foldlRecOn l f (motive := fun t => s.cutFrom t c) (.refl s c) fun t ht x hx => ht.trans (h x hx t)

theorem State.cutFrom_masksCut : s.cutFrom (s.masksCut c) c :=
  State.cutFrom_foldl s c fun _ _ t => State.cutFrom_foldl t c fun _ _ v => State.cutFrom_foldl v c fun x _ w =>
    w.cutFrom_cutPulses c x _

theorem State.masksCut_of_open (h0 : s.blanked 0 c = false) (h1 : s.blanked 1 c = false) : s.masksCut c = s := by
  unfold State.masksCut
  have hnone : [0, 1].filter (fun q => s.blanked q c) = [] := by simp [h0, h1]
  rw [hnone]
  rfl

theorem State.blanked_congr {t : State} (p : Nat) (h : t.rd (Reg.LAMP_CH_CFG (c / 16) (c % 16)) =
    s.rd (Reg.LAMP_CH_CFG (c / 16) (c % 16))) : t.blanked p c = s.blanked p c := by
  unfold State.blanked State.lampMode State.lampCfg
  rw [h]

/-! ### Qualification -/

/-- What the count of unqualified periods leaves of a channel. -/
def State.unqualCounted (s : State) (c : Nat) (q : Bool) : State :=
  s.setLampCh c { s.lampCh c with unqual := if q then 0 else min 256 ((s.lampCh c).unqual + 1) }

theorem State.countUnqual_cases (q : Bool) : s.countUnqual c q = s.unqualCounted c q ∨
    s.countUnqual c q = ((s.unqualCounted c q).wrF (diagKey c) 2 0 2).intSet (Reg.pageLAMP (c / 16)) 9 := by
  unfold State.countUnqual
  exact (ite_eq_or_eq _ _ _).symm

theorem State.rd_countUnqual_of_ne (q : Bool) {k : Nat} (hd : k ≠ diagKey c)
    (hi : k ≠ Reg.INT_STATUS (Reg.pageLAMP (c / 16))) : (s.countUnqual c q).rd k = s.rd k := by
  rcases s.countUnqual_cases c q with h | h
  · rw [h]
    rfl
  · rw [h, State.rd_intSet_of_ne _ _ hi, State.rd_wrF_of_ne _ _ _ _ hd]
    rfl

theorem State.agree_countUnqual (q : Bool) : s.Agree [.lamp] (s.countUnqual c q) := by
  have hset : s.Agree [.lamp] (s.unqualCounted c q) := (s.agree_setLampCh _ _ (by simp)).2 (.refl s)
  rcases s.countUnqual_cases c q with h | h
  · rwa [h]
  · rw [h, State.agree_intSet, State.agree_wrF]
    exact hset

theorem State.lampCh_countUnqual (q : Bool) : (s.countUnqual c q).lampCh c =
    { s.lampCh c with unqual := if q then 0 else min 256 ((s.lampCh c).unqual + 1) } := by
  have hset : (s.unqualCounted c q).lampCh c = { s.lampCh c with unqual := if q then 0 else min 256 ((s.lampCh c).unqual + 1) } :=
    s.lampCh_setLampCh_same c _
  rcases s.countUnqual_cases c q with h | h
  · rw [h, hset]
  · rw [h, State.lampCh_intSet, State.lampCh_wrF, hset]

/-! ### The whole command -/

theorem diagKey_mem_doseKeys (ch : Fin 64) : diagKey ch ∈ groupDoseKeys (ch.val / 16) :=
  List.mem_cons_of_mem _ (List.mem_map.2 ⟨ch.val % 16, List.mem_range.2 (Nat.mod_lt _ (by decide)),
    by rw [Nat.div_add_mod]⟩)

theorem chOut_notMem_doseKeys (ch : Fin 64) : Reg.LAMP_CH_OUT (ch.val / 16) (ch.val % 16) ∉ groupDoseKeys (ch.val / 16) := by
  have h : ∀ ch : Fin 64, Reg.LAMP_CH_OUT (ch.val / 16) (ch.val % 16) ∉ groupDoseKeys (ch.val / 16) := by decide
  exact h ch

theorem chCfg_notMem_doseKeys (ch : Fin 64) : Reg.LAMP_CH_CFG (ch.val / 16) (ch.val % 16) ∉ groupDoseKeys (ch.val / 16) := by
  have h : ∀ ch : Fin 64, Reg.LAMP_CH_CFG (ch.val / 16) (ch.val % 16) ∉ groupDoseKeys (ch.val / 16) := by decide
  exact h ch

theorem ne_diagKey_of_notMem {ch : Fin 64} {k : Nat} (hk : k ∉ groupDoseKeys (ch.val / 16)) : k ≠ diagKey ch := by
  rintro rfl
  exact hk (diagKey_mem_doseKeys ch)

theorem chCfg_ne_chOut (ch : Fin 64) :
    Reg.LAMP_CH_CFG (ch.val / 16) (ch.val % 16) ≠ Reg.LAMP_CH_OUT (ch.val / 16) (ch.val % 16) := by
  simp only [Reg.LAMP_CH_CFG, Reg.LAMP_CH_OUT]; omega

section
variable (ch : Fin 64) (t code duty : Nat) (limited q : Bool)

/-- The state that a period's start leaves. -/
def State.periodRun (s : State) (c t code duty : Nat) (limited q : Bool) : State :=
  ((((s.till t).periodBegun c t code duty limited).showDose (c / 16)).masksCut c).countUnqual c q

theorem State.rd_periodRun {k : Nat} (hk : k ∉ groupDoseKeys (ch.val / 16)) : (s.periodRun ch t code duty limited q).rd k =
    ((s.till t).periodBegun ch t code duty limited).rd k := by
  have hd := ne_diagKey_of_notMem hk
  have hi : k ≠ Reg.INT_STATUS (Reg.pageLAMP (ch.val / 16)) := fun e => hk (e ▸ List.mem_cons_self)
  rw [State.periodRun, State.rd_countUnqual_of_ne _ _ _ hd hi, (State.cutFrom_masksCut _ ch.val).1,
    State.rd_showDose_of_notMem _ _ hk]

theorem State.agree_periodRun : s.Agree [.frc, .lamp, .out] (s.periodRun ch t code duty limited q) := by
  have htill : s.Agree [.frc, .lamp, .out] (s.till t) := (State.agree_till _ (by simp)).2 (.refl s)
  have hbegun := htill.trans (((s.till t).agree_periodBegun ch.val t code duty limited).mono (by simp))
  have hdose := hbegun.trans ((State.agree_showDose _ (ch.val / 16)).mono (by simp))
  obtain ⟨-, hcut, -, -⟩ := State.cutFrom_masksCut (((s.till t).periodBegun ch t code duty limited).showDose (ch.val / 16)) ch.val
  exact (hdose.trans (hcut.mono (by simp))).trans ((State.agree_countUnqual _ ch.val q).mono (by simp))

theorem State.start_periodRun : ((s.periodRun ch t code duty limited q).lampCh ch).start = t := by
  obtain ⟨-, -, hstart, -⟩ := State.cutFrom_masksCut (((s.till t).periodBegun ch t code duty limited).showDose (ch.val / 16)) ch.val
  rw [State.periodRun, State.lampCh_countUnqual]
  change ((State.masksCut _ _).lampCh ch.val).start = t
  rw [hstart, State.lampCh_of_agree _ _ (State.agree_showDose _ _), State.lampCh_periodBegun]

theorem State.lampOn_periodRun_of_off : (s.periodRun ch t 0 duty limited q).lampOn ch = 0 := by
  have hnone : ((((s.till t).periodBegun ch t 0 duty limited).showDose (ch.val / 16)).lampCh ch).pulses = [] := by
    rw [State.lampCh_of_agree _ _ (State.agree_showDose _ _), State.lampCh_periodBegun]
    rfl
  obtain ⟨-, -, -, hcut⟩ := State.cutFrom_masksCut (((s.till t).periodBegun ch t 0 duty limited).showDose (ch.val / 16)) ch.val
  unfold State.lampOn
  rw [State.periodRun, State.lampCh_countUnqual]
  change ((State.masksCut _ _).lampCh ch.val).pulses.foldl _ 0 = 0
  rw [hcut hnone]
  rfl

theorem State.masksCut_of_unmasked (h0 : s.blanked 0 ch = false) (h1 : s.blanked 1 ch = false) :
    (((s.till t).periodBegun ch t code duty limited).showDose (ch.val / 16)).masksCut ch =
      ((s.till t).periodBegun ch t code duty limited).showDose (ch.val / 16) := by
  have hcfg : (((s.till t).periodBegun ch t code duty limited).showDose (ch.val / 16)).rd
      (Reg.LAMP_CH_CFG (ch.val / 16) (ch.val % 16)) = s.rd (Reg.LAMP_CH_CFG (ch.val / 16) (ch.val % 16)) := by
    rw [State.rd_showDose_of_notMem _ _ (chCfg_notMem_doseKeys ch),
      State.rd_periodBegun_of_ne _ _ (ne_diagKey_of_notMem (chCfg_notMem_doseKeys ch)) (chCfg_ne_chOut ch)]
    rfl
  exact State.masksCut_of_open _ _ ((State.blanked_congr s _ 0 hcfg).trans h0) ((State.blanked_congr s _ 1 hcfg).trans h1)

theorem State.out_periodRun (h0 : s.blanked 0 ch = false) (h1 : s.blanked 1 ch = false) :
    (s.periodRun ch t code duty limited q).out = ((s.till t).periodBegun ch t code duty limited).out := by
  rw [State.periodRun, State.agree_countUnqual _ _ q .out (by simp), s.masksCut_of_unmasked ch t code duty limited h0 h1,
    State.agree_showDose _ _ .out (by simp)]

theorem State.period_periodRun (h0 : s.blanked 0 ch = false) (h1 : s.blanked 1 ch = false) :
    ((s.periodRun ch t code duty limited q).lampCh ch).period = ((s.till t).lampPeriod ch).1 := by
  rw [State.periodRun, State.lampCh_countUnqual]
  change ((State.masksCut _ _).lampCh ch.val).period = _
  rw [s.masksCut_of_unmasked ch t code duty limited h0 h1, State.lampCh_of_agree _ _ (State.agree_showDose _ _),
    State.lampCh_periodBegun]

theorem State.regsBut_periodRun : s.regsBut (s.periodRun ch t code duty limited q)
    (groupDoseKeys (ch.val / 16) ++ [Reg.LAMP_CH_OUT (ch.val / 16) (ch.val % 16)]) := by
  intro k hk
  simp only [List.mem_append, List.mem_singleton, not_or] at hk
  rw [s.rd_periodRun ch t code duty limited q hk.1,
    State.rd_periodBegun_of_ne _ _ (ne_diagKey_of_notMem hk.1) hk.2]
  rfl

end
end

theorem lampPeriodStart_of_off (ch : Fin 64) (t : Nat) (s : State) (hst : s.groupSt (ch.val / 16) = 2)
    (hdue : (s.lampCh ch).due ≤ t) (hoff : (s.till t).lampOff ch t = true) :
    ∃ u : State, exec (.lampPeriodStart ch t) s = .next u ∧
      u.rd (Reg.LAMP_CH_OUT (ch.val / 16) (ch.val % 16)) = 0 ∧ u.lampOn ch = 0 ∧ (u.lampCh ch).start = t ∧
      (s.blanked 0 ch = false → s.blanked 1 ch = false → u.out = s.out) ∧
      s.regsBut u (groupDoseKeys (ch.val / 16) ++ [Reg.LAMP_CH_OUT (ch.val / 16) (ch.val % 16)]) ∧
      { u with regs := s.regs, frc := s.frc, lamp := s.lamp, out := s.out } = s := by
  obtain ⟨limited, hexec⟩ := execLampPeriodStart_of_due s hst hdue (if_pos hoff)
  refine ⟨s.periodRun ch t 0 0 limited _, hexec, ?_, s.lampOn_periodRun_of_off ch t 0 limited _, s.start_periodRun ch t 0 0 limited _,
    fun h0 h1 => ?_, s.regsBut_periodRun ch t 0 0 limited _,
    State.Agree.revert_eq (ps := [.frc, .lamp, .out]) (s.agree_periodRun ch t 0 0 limited _)⟩
  · rw [s.rd_periodRun ch t 0 0 limited _ (chOut_notMem_doseKeys ch), State.rd_periodBegun_out]
    rfl
  · rw [s.out_periodRun ch t 0 0 limited _ h0 h1, State.out_periodBegun, if_pos rfl, List.append_nil]
    rfl

theorem lampPeriodStart_of_driven (ch : Fin 64) (t code duty : Nat) (s : State) (hst : s.groupSt (ch.val / 16) = 2)
    (hdue : (s.lampCh ch).due ≤ t) (h0 : s.blanked 0 ch = false) (h1 : s.blanked 1 ch = false)
    (hoff : (s.till t).lampOff ch t = false) (hdrive : (s.till t).lampDrive ch = (code, duty)) :
    ∃ u : State, exec (.lampPeriodStart ch t) s = .next u ∧
      u.rd (Reg.LAMP_CH_OUT (ch.val / 16) (ch.val % 16)) = (code + duty * 65536) % 2 ^ 32 ∧ (u.lampCh ch).start = t ∧
      (u.lampCh ch).period = ((s.till t).lampPeriod ch).1 ∧
      u.out = s.out ++ (if code = 0 then [] else
        (lampPulses ((s.till t).lampPeriod ch).1 duty (s.spread ch)).map (fun x => Out.lamp ch (t + x.1) x.2 code)) ∧
      s.regsBut u (groupDoseKeys (ch.val / 16) ++ [Reg.LAMP_CH_OUT (ch.val / 16) (ch.val % 16)]) ∧
      { u with regs := s.regs, frc := s.frc, lamp := s.lamp, out := s.out } = s := by
  obtain ⟨limited, hexec⟩ := execLampPeriodStart_of_due s hst hdue ((if_neg (by simp [hoff])).trans hdrive)
  refine ⟨s.periodRun ch t code duty limited _, hexec, ?_, s.start_periodRun ch t code duty limited _,
    s.period_periodRun ch t code duty limited _ h0 h1, ?_, s.regsBut_periodRun ch t code duty limited _,
    State.Agree.revert_eq (ps := [.frc, .lamp, .out]) (s.agree_periodRun ch t code duty limited _)⟩
  · rw [s.rd_periodRun ch t code duty limited _ (chOut_notMem_doseKeys ch), State.rd_periodBegun_out]
  · rw [s.out_periodRun ch t code duty limited _ h0 h1, State.out_periodBegun]
    rfl

/-! ## Headroom -/

section
variable {g f : Fin 4} {s : State}

/-- The state in which the sampled sink voltage has been shown and a new minimum begins. -/
def State.headroomShown (s : State) (g n : Nat) (x : LampGroup) (v : Option Nat) : State :=
  match v with
  | none => (s.pmbusFails g n).setLampGroup g x
  | some v => ((s.pmbusFails g n).setLampGroup g x).wrF (Reg.LAMP_VMIN_SINK g) 15 0 v

/-- The voltage to which a sampled sink voltage v moves VOUT_SET (R325). -/
def State.headroomVout (s : State) (g v : Nat) : Nat :=
  let old := s.rdF (Reg.LAMP_VOUT_SET g) 15 0
  let slew := s.rdF (Reg.LAMP_HEADROOM g) 27 16
  let new := clampI (s.rdF (Reg.LAMP_VOUT_LIMITS g) 15 0) (s.rdF (Reg.LAMP_VOUT_LIMITS g) 31 16)
    ((old : Int) - ((v : Int) - s.rdF (Reg.LAMP_HEADROOM g) 11 0))
  (if v < 400 then new else old + clampI (-(slew : Int)) slew (new - old)).toNat

theorem State.rd_headroomShown_of_ne {n k : Nat} {x : LampGroup} {v : Option Nat} (he : k ≠ Reg.LAMP_PMBUS_ERR g)
    (hv : k ≠ Reg.LAMP_VMIN_SINK g) : (s.headroomShown g n x v).rd k = s.rd k := by
  unfold State.headroomShown
  cases v with
  | none => rw [State.rd_setLampGroup, State.rd_pmbusFails_of_ne _ _ he]
  | some v => rw [State.rd_wrF_of_ne _ _ _ _ hv, State.rd_setLampGroup, State.rd_pmbusFails_of_ne _ _ he]

theorem State.agree_headroomShown (n : Nat) (x : LampGroup) (v : Option Nat) : s.Agree [.lamp] (s.headroomShown g n x v) := by
  have hset : s.Agree [.lamp] ((s.pmbusFails g n).setLampGroup g x) :=
    ((State.agree_pmbusFails s g n).mono (by simp)).trans ((State.agree_setLampGroup _ _ _ (by simp)).2 (.refl _))
  unfold State.headroomShown
  cases v with
  | none => exact hset
  | some v => exact (State.agree_wrF _ _ _ _).2 hset

theorem State.lampGroup_headroomShown (n : Nat) (x : LampGroup) (v : Option Nat) :
    (s.headroomShown g n x v).lampGroup g = x := by
  unfold State.headroomShown
  cases v with
  | none => exact State.lampGroup_setLampGroup_same _ _ _
  | some v => exact State.lampGroup_setLampGroup_same _ _ _

theorem State.headroomVout_congr {t : State} {v : Nat} (hset : t.rd (Reg.LAMP_VOUT_SET g) = s.rd (Reg.LAMP_VOUT_SET g))
    (hhead : t.rd (Reg.LAMP_HEADROOM g) = s.rd (Reg.LAMP_HEADROOM g))
    (hlim : t.rd (Reg.LAMP_VOUT_LIMITS g) = s.rd (Reg.LAMP_VOUT_LIMITS g)) : t.headroomVout g v = s.headroomVout g v := by
  unfold State.headroomVout State.rdF
  rw [hset, hhead, hlim]

/-- HEADROOM_STEP that reads the supply: VOUT_SET moves. -/
theorem execHeadroomStep_of_sample {v : Nat} (hst : s.groupSt g = 2) (hcmd : s.bit (Reg.LAMP_GROUP_STATUS g) 10 = false)
    (hf : f.val ≠ 3) (hv : (s.lampGroup g).vmin = some v) :
    exec (.headroomStep g f) s =
      .next ((s.headroomShown g f { s.lampGroup g with vmin := none, stepFails := 0 } (some v)).setVout g
        ((s.headroomShown g f { s.lampGroup g with vmin := none, stepFails := 0 } (some v)).headroomVout g v)) := by
  refine (if_neg (by simp [hst, hcmd])).trans ?_
  rw [if_neg hf, if_neg hf, hv]
  rfl

theorem headroomStep_moves (g f : Fin 4) (v n : Nat) (s : State) (hst : s.groupSt g = 2)
    (hcmd : s.bit (Reg.LAMP_GROUP_STATUS g) 10 = false) (hf : f.val ≠ 3) (hv : (s.lampGroup g).vmin = some v)
    (hn : n = s.headroomVout g v) :
    ∃ u : State, exec (.headroomStep g f) s = .next u ∧
      u.rdF (Reg.LAMP_VMIN_SINK g) 15 0 = v % 65536 ∧ u.rdF (Reg.LAMP_VOUT_SET g) 15 0 = n % 65536 ∧
      (u.lampGroup g).vmin = none ∧ (u.lampGroup g).stepFails = 0 ∧
      u.out = s.out ++ [Out.pmbus g (s.rdF (Reg.LAMP_GROUP_CFG g) 6 0) 0x21 n] ∧
      s.regsBut u [Reg.LAMP_PMBUS_ERR g, Reg.LAMP_VMIN_SINK g, Reg.LAMP_VOUT_SET g] ∧
      { u with regs := s.regs, lamp := s.lamp, out := s.out } = s := by
  obtain ⟨w, hw⟩ : ∃ w, w = s.headroomShown g f { s.lampGroup g with vmin := none, stepFails := 0 } (some v) := ⟨_, rfl⟩
  have hkeep : ∀ k, k ≠ Reg.LAMP_PMBUS_ERR g → k ≠ Reg.LAMP_VMIN_SINK g → w.rd k = s.rd k := fun k he hvm => by
    rw [hw, State.rd_headroomShown_of_ne he hvm]
  have hvout : w.headroomVout g v = n := by
    rw [hn]
    refine State.headroomVout_congr (hkeep _ ?_ ?_) (hkeep _ ?_ ?_) (hkeep _ ?_ ?_) <;>
      simp only [Reg.LAMP_VOUT_SET, Reg.LAMP_HEADROOM, Reg.LAMP_VOUT_LIMITS, Reg.LAMP_PMBUS_ERR, Reg.LAMP_VMIN_SINK] <;> omega
  have hcfg : w.rdF (Reg.LAMP_GROUP_CFG g) 6 0 = s.rdF (Reg.LAMP_GROUP_CFG g) 6 0 := by
    refine State.rdF_of_rd_eq (hkeep _ ?_ ?_) <;>
      simp only [Reg.LAMP_GROUP_CFG, Reg.LAMP_PMBUS_ERR, Reg.LAMP_VMIN_SINK] <;> omega
  have hexec := execHeadroomStep_of_sample hst hcmd hf hv
  rw [← hw, hvout] at hexec
  have hagree : s.Agree [.lamp] w := by
    rw [hw]
    exact State.agree_headroomShown _ _ _
  have hgroup : (w.setVout g n).lampGroup g = { s.lampGroup g with vmin := none, stepFails := 0 } := by
    refine Eq.trans ?_ (State.lampGroup_headroomShown (s := s) (g := g) f { s.lampGroup g with vmin := none, stepFails := 0 } (some v))
    rw [← hw]
    rfl
  have hvmin : w.rdF (Reg.LAMP_VMIN_SINK g) 15 0 = v % 65536 := by
    rw [hw]
    exact State.rdF_wrF_same _ _ _ _ _ (by decide) (by decide)
  refine ⟨_, hexec, ?_, State.rdF_setVout _ _ _, by rw [hgroup], by rw [hgroup], ?_, ?_, ?_⟩
  · rw [State.rdF_of_rd_eq (State.rd_setVout_of_ne _ _ (by simp only [Reg.LAMP_VMIN_SINK, Reg.LAMP_VOUT_SET]; omega)), hvmin]
  · rw [State.out_setVout, hcfg, hagree .out (by simp)]
  · intro k hk
    simp only [List.mem_cons, List.not_mem_nil, or_false, not_or] at hk
    rw [State.rd_setVout_of_ne _ _ hk.2.2, hkeep k hk.1 hk.2.1]
  · refine State.Agree.revert_eq (ps := [.lamp, .out]) ((hagree.mono (by simp)).trans ?_)
    unfold State.setVout State.pmbus
    rw [State.agree_emit _ (by simp), State.agree_wrF]
    exact .refl w

theorem State.headroomVout_slewed {v : Nat} (h : 400 ≤ v) : s.headroomVout g v =
    (s.rdF (Reg.LAMP_VOUT_SET g) 15 0 + clampI (-(s.rdF (Reg.LAMP_HEADROOM g) 27 16 : Int)) (s.rdF (Reg.LAMP_HEADROOM g) 27 16)
      (clampI (s.rdF (Reg.LAMP_VOUT_LIMITS g) 15 0) (s.rdF (Reg.LAMP_VOUT_LIMITS g) 31 16)
        ((s.rdF (Reg.LAMP_VOUT_SET g) 15 0 : Int) - ((v : Int) - s.rdF (Reg.LAMP_HEADROOM g) 11 0)) -
          s.rdF (Reg.LAMP_VOUT_SET g) 15 0)).toNat := congrArg Int.toNat (if_neg (by omega))

theorem State.headroomVout_raised {v : Nat} (h : v < 400) : s.headroomVout g v =
    (clampI (s.rdF (Reg.LAMP_VOUT_LIMITS g) 15 0) (s.rdF (Reg.LAMP_VOUT_LIMITS g) 31 16)
      ((s.rdF (Reg.LAMP_VOUT_SET g) 15 0 : Int) - ((v : Int) - s.rdF (Reg.LAMP_HEADROOM g) 11 0))).toNat :=
  congrArg Int.toNat (if_pos h)

/-- The state of a group whose step has failed. -/
def State.stepFailed (s : State) (g : Nat) : State :=
  s.headroomShown g 3 { s.lampGroup g with vmin := none, stepFails := (s.lampGroup g).stepFails + 1 } (s.lampGroup g).vmin

theorem execHeadroomStep_of_failed (hst : s.groupSt g = 2) (hcmd : s.bit (Reg.LAMP_GROUP_STATUS g) 10 = false) :
    exec (.headroomStep g 3) s = .next (if (s.lampGroup g).stepFails + 1 ≥ 3 then (s.stepFailed g).headroomFault g
      else s.stepFailed g) := by
  refine (if_neg (by simp [hst, hcmd])).trans ?_
  unfold State.stepFailed
  cases (s.lampGroup g).vmin with
  | none => rfl
  | some v => rfl

theorem groupStatus_ne_pmbusErr (g : Nat) : Reg.LAMP_GROUP_STATUS g ≠ Reg.LAMP_PMBUS_ERR g := by
  simp only [Reg.LAMP_GROUP_STATUS, Reg.LAMP_PMBUS_ERR]; omega
theorem groupStatus_ne_vmin (g : Nat) : Reg.LAMP_GROUP_STATUS g ≠ Reg.LAMP_VMIN_SINK g := by
  simp only [Reg.LAMP_GROUP_STATUS, Reg.LAMP_VMIN_SINK]; omega

theorem State.rd_headroomFault_of_ne (s : State) {g k : Nat} (hs : k ≠ Reg.LAMP_GROUP_STATUS g)
    (hi : k ≠ Reg.INT_STATUS (Reg.pageLAMP g)) : (s.headroomFault g).rd k = s.rd k := by
  unfold State.headroomFault
  rw [State.rd_intSet_of_ne _ _ hi, State.rd_wrB_of_ne _ _ _ hs]

theorem State.rd_stepFailed_err : (s.stepFailed g).rd (Reg.LAMP_PMBUS_ERR g) = satAdd 32 (s.rd (Reg.LAMP_PMBUS_ERR g)) 3 := by
  have hwr : (s.pmbusFails g 3).rd (Reg.LAMP_PMBUS_ERR g) = satAdd 32 (s.rd (Reg.LAMP_PMBUS_ERR g)) 3 :=
    (s.rd_wr_same _ _).trans (Nat.mod_eq_of_lt (satAdd_lt _ _))
  have hne : Reg.LAMP_PMBUS_ERR g ≠ Reg.LAMP_VMIN_SINK g := by
    simp only [Reg.LAMP_PMBUS_ERR, Reg.LAMP_VMIN_SINK]; omega
  unfold State.stepFailed State.headroomShown
  cases (s.lampGroup g).vmin with
  | none => exact hwr
  | some v => exact (State.rd_wrF_of_ne _ _ _ _ hne).trans hwr

theorem headroomStep_of_failed (g : Fin 4) (s : State) (hst : s.groupSt g = 2)
    (hcmd : s.bit (Reg.LAMP_GROUP_STATUS g) 10 = false) :
    ∃ u : State, exec (.headroomStep g 3) s = .next u ∧
      u.rd (Reg.LAMP_PMBUS_ERR g) = satAdd 32 (s.rd (Reg.LAMP_PMBUS_ERR g)) 3 ∧
      (u.lampGroup g).stepFails = (s.lampGroup g).stepFails + 1 ∧
      u.bit (Reg.LAMP_GROUP_STATUS g) 10 = decide (2 ≤ (s.lampGroup g).stepFails) ∧
      u.rd (Reg.LAMP_VOUT_SET g) = s.rd (Reg.LAMP_VOUT_SET g) ∧
      s.regsBut u [Reg.LAMP_PMBUS_ERR g, Reg.LAMP_VMIN_SINK g, Reg.LAMP_GROUP_STATUS g,
        Reg.INT_STATUS (Reg.pageLAMP g)] ∧ { u with regs := s.regs, lamp := s.lamp } = s := by
  have hkeep : ∀ k, k ≠ Reg.LAMP_PMBUS_ERR g → k ≠ Reg.LAMP_VMIN_SINK g → (s.stepFailed g).rd k = s.rd k :=
    fun k he hv => State.rd_headroomShown_of_ne he hv
  have hvout : (s.stepFailed g).rd (Reg.LAMP_VOUT_SET g) = s.rd (Reg.LAMP_VOUT_SET g) := by
    refine hkeep _ ?_ ?_ <;> simp only [Reg.LAMP_VOUT_SET, Reg.LAMP_PMBUS_ERR, Reg.LAMP_VMIN_SINK] <;> omega
  have hgroup : ((s.stepFailed g).lampGroup g).stepFails = (s.lampGroup g).stepFails + 1 :=
    congrArg LampGroup.stepFails (State.lampGroup_headroomShown _ _ _)
  have hagree : s.Agree [.lamp] (s.stepFailed g) := State.agree_headroomShown _ _ _
  have hbit : (s.stepFailed g).bit (Reg.LAMP_GROUP_STATUS g) 10 = false :=
    (State.bit_of_rd_eq (hkeep _ (groupStatus_ne_pmbusErr g) (groupStatus_ne_vmin g))).trans hcmd
  have hexec := execHeadroomStep_of_failed hst hcmd
  by_cases hthird : (s.lampGroup g).stepFails + 1 ≥ 3
  · rw [if_pos hthird] at hexec
    have hfault : ∀ k, k ≠ Reg.LAMP_GROUP_STATUS g → k ≠ Reg.INT_STATUS (Reg.pageLAMP g) →
        ((s.stepFailed g).headroomFault g).rd k = (s.stepFailed g).rd k := fun k => State.rd_headroomFault_of_ne _
    refine ⟨_, hexec, ?_, hgroup, ?_, ?_, ?_, ?_⟩
    · rw [hfault _ (groupStatus_ne_pmbusErr g).symm (by simp only [Reg.LAMP_PMBUS_ERR, Reg.INT_STATUS, Reg.pageLAMP]; omega),
        State.rd_stepFailed_err]
    · rw [decide_eq_true (by omega : 2 ≤ (s.lampGroup g).stepFails), State.headroomFault,
        State.bit_of_rd_eq (State.rd_intSet_of_ne _ _ (lampInt_ne_groupStatus g)), State.bit_wrB_same _ _ _ _ (by decide)]
    · rw [hfault _ (by simp only [Reg.LAMP_VOUT_SET, Reg.LAMP_GROUP_STATUS]; omega)
        (by simp only [Reg.LAMP_VOUT_SET, Reg.INT_STATUS, Reg.pageLAMP]; omega), hvout]
    · intro k hk
      simp only [List.mem_cons, List.not_mem_nil, or_false, not_or] at hk
      obtain ⟨hke, hkv, hks, hki⟩ := hk
      rw [hfault k hks hki, hkeep k hke hkv]
    · exact State.Agree.revert_eq (ps := [.lamp]) ((State.agree_intSet _ _).2 ((State.agree_wrB _ _ _).2 hagree))
  · rw [if_neg hthird] at hexec
    refine ⟨_, hexec, State.rd_stepFailed_err, hgroup, ?_, hvout, ?_, State.Agree.revert_eq (ps := [.lamp]) hagree⟩
    · rw [hbit, decide_eq_false (by omega)]
    · intro k hk
      simp only [List.mem_cons, List.not_mem_nil, or_false, not_or] at hk
      exact hkeep k hk.1 hk.2.1

end

/-! ## The measurement of a bus -/

section
variable {g : Fin 4} {s : State}

/-- The three reads of a supply. -/
def State.supplyRead (s : State) (g : Nat) : State := ((s.pmbus g 0x79 0).pmbus g 0x8B 0).pmbus g 0x8C 0

/-- The registers that show a measurement, but BUS_STRAY. -/
def State.busMeasured (s : State) (g vout iout f : Nat) : State :=
  (((s.supplyRead g).pmbusFails g f).wr (Reg.LAMP_BUS_MEAS g) (vout % 65536 + iout % 65536 * 65536)).wrF
    (if g < 2 then Reg.PWR_LAMP_BUS_V01 else Reg.PWR_LAMP_BUS_V23) (16 * (g % 2) + 15) (16 * (g % 2)) (vout / 10)

/-- Whether a measurement finds a voltage on a bus that has been off for 10 ms (R497). -/
def State.busStray (s : State) (g vout : Nat) : Bool :=
  vout > 5000 && !s.bit Reg.PWR_LAMP_BUS_STATUS g && decide (s.since (s.lampGroup g).offAt > msClk 10)

theorem execBusMeasure_eq (vout iout f t : Nat) : exec (.busMeasure g vout iout f t) s =
    .next (if ((s.till t).busMeasured g vout iout f).busStray g vout &&
          !((s.till t).busMeasured g vout iout f).bit Reg.PWR_LAMP_BUS_STATUS (8 + g) then
        (((s.till t).busMeasured g vout iout f).wrB Reg.PWR_LAMP_BUS_STATUS (8 + g)
          (((s.till t).busMeasured g vout iout f).busStray g vout)).intSet Reg.pagePWR 12
      else ((s.till t).busMeasured g vout iout f).wrB Reg.PWR_LAMP_BUS_STATUS (8 + g)
          (((s.till t).busMeasured g vout iout f).busStray g vout)) := rfl

/-- The registers of the two bus voltages of a group's side. -/
theorem busV_mem (g : Nat) : (if g < 2 then Reg.PWR_LAMP_BUS_V01 else Reg.PWR_LAMP_BUS_V23) = Reg.PWR_LAMP_BUS_V01 ∨
    (if g < 2 then Reg.PWR_LAMP_BUS_V01 else Reg.PWR_LAMP_BUS_V23) = Reg.PWR_LAMP_BUS_V23 := by
  split_ifs
  · exact .inl rfl
  · exact .inr rfl

theorem State.rd_busMeasured_of_ne {vout iout f k : Nat} (he : k ≠ Reg.LAMP_PMBUS_ERR g) (hm : k ≠ Reg.LAMP_BUS_MEAS g)
    (h01 : k ≠ Reg.PWR_LAMP_BUS_V01) (h23 : k ≠ Reg.PWR_LAMP_BUS_V23) : (s.busMeasured g vout iout f).rd k = s.rd k := by
  have hv : k ≠ (if g.val < 2 then Reg.PWR_LAMP_BUS_V01 else Reg.PWR_LAMP_BUS_V23) := by
    rcases busV_mem g with h | h <;> rw [h]
    · exact h01
    · exact h23
  unfold State.busMeasured State.supplyRead
  rw [State.rd_wrF_of_ne _ _ _ _ hv, State.rd_wr_of_ne _ _ hm, State.rd_pmbusFails_of_ne _ _ he, State.rd_pmbus, State.rd_pmbus,
    State.rd_pmbus]

theorem lampReg_ne_busV {k : Nat} (h : 0xD4000 ≤ k) :
    k ≠ (if g.val < 2 then Reg.PWR_LAMP_BUS_V01 else Reg.PWR_LAMP_BUS_V23) := by
  rcases busV_mem g with hv | hv <;> rw [hv] <;> simp only [Reg.PWR_LAMP_BUS_V01, Reg.PWR_LAMP_BUS_V23] <;> omega

theorem State.rd_busMeasured_meas (vout iout f : Nat) :
    (s.busMeasured g vout iout f).rd (Reg.LAMP_BUS_MEAS g) = vout % 65536 + iout % 65536 * 65536 := by
  unfold State.busMeasured
  rw [State.rd_wrF_of_ne _ _ _ _ (lampReg_ne_busV (by simp only [Reg.LAMP_BUS_MEAS]; omega)), State.rd_wr_same]
  exact Nat.mod_eq_of_lt (by omega)

theorem State.rd_busMeasured_err (vout iout f : Nat) :
    (s.busMeasured g vout iout f).rd (Reg.LAMP_PMBUS_ERR g) = satAdd 32 (s.rd (Reg.LAMP_PMBUS_ERR g)) f := by
  unfold State.busMeasured
  rw [State.rd_wrF_of_ne _ _ _ _ (lampReg_ne_busV (by simp only [Reg.LAMP_PMBUS_ERR]; omega)),
    State.rd_wr_of_ne _ _ (by simp only [Reg.LAMP_PMBUS_ERR, Reg.LAMP_BUS_MEAS]; omega)]
  have hread : (s.supplyRead g).rd (Reg.LAMP_PMBUS_ERR g) = s.rd (Reg.LAMP_PMBUS_ERR g) := rfl
  unfold State.pmbusFails
  dsimp only
  split_ifs with hf
  · rw [hread, hf, satAdd, Nat.add_zero, if_pos (s.rd_lt _)]
  · rw [State.rd_wr_same, hread]
    exact Nat.mod_eq_of_lt (satAdd_lt _ _)

theorem State.out_busMeasured (vout iout f : Nat) : (s.busMeasured g vout iout f).out = s.out ++
    [Out.pmbus g (s.rdF (Reg.LAMP_GROUP_CFG g) 6 0) 0x79 0, Out.pmbus g (s.rdF (Reg.LAMP_GROUP_CFG g) 6 0) 0x8B 0,
      Out.pmbus g (s.rdF (Reg.LAMP_GROUP_CFG g) 6 0) 0x8C 0] := by
  have hfails : (s.busMeasured g vout iout f).out = (s.supplyRead g).out := State.agree_pmbusFails (s.supplyRead g) g f .out (by simp)
  have hread : (s.supplyRead g).out = s.out ++ [Out.pmbus g (s.rdF (Reg.LAMP_GROUP_CFG g) 6 0) 0x79 0] ++
      [Out.pmbus g ((s.pmbus g 0x79 0).rdF (Reg.LAMP_GROUP_CFG g) 6 0) 0x8B 0] ++
      [Out.pmbus g (((s.pmbus g 0x79 0).pmbus g 0x8B 0).rdF (Reg.LAMP_GROUP_CFG g) 6 0) 0x8C 0] := rfl
  rw [hfails, hread, State.rdF_pmbus, State.rdF_pmbus, State.rdF_pmbus, List.append_assoc, List.append_assoc]
  rfl

theorem State.agree_busMeasured (vout iout f : Nat) : s.Agree [.out] (s.busMeasured g vout iout f) := by
  have hread : s.Agree [.out] (s.supplyRead g) := by
    unfold State.supplyRead State.pmbus
    simp
  exact (State.agree_wrF _ _ _ _).2 ((State.agree_wr _ _).2 (hread.trans ((State.agree_pmbusFails _ g f).mono (by simp))))

theorem busStatus_ne_lampReg {k : Nat} (h : 0xD4000 ≤ k) : Reg.PWR_LAMP_BUS_STATUS ≠ k := by
  simp only [Reg.PWR_LAMP_BUS_STATUS]; omega

theorem State.rd_busMeasured_status (vout iout f : Nat) :
    (s.busMeasured g vout iout f).rd Reg.PWR_LAMP_BUS_STATUS = s.rd Reg.PWR_LAMP_BUS_STATUS :=
  State.rd_busMeasured_of_ne (busStatus_ne_lampReg (by simp only [Reg.LAMP_PMBUS_ERR]; omega))
    (busStatus_ne_lampReg (by simp only [Reg.LAMP_BUS_MEAS]; omega)) (by decide) (by decide)

/-- What BUS_MEASURE leaves, whether or not the interrupt is raised. -/
theorem busMeasure_leaves {vout iout f t : Nat} {u : State}
    (hu : u = ((s.till t).busMeasured g vout iout f).wrB Reg.PWR_LAMP_BUS_STATUS (8 + g)
        (((s.till t).busMeasured g vout iout f).busStray g vout) ∨
      u = (((s.till t).busMeasured g vout iout f).wrB Reg.PWR_LAMP_BUS_STATUS (8 + g)
        (((s.till t).busMeasured g vout iout f).busStray g vout)).intSet Reg.pagePWR 12) :
    (∀ k, k ≠ Reg.INT_STATUS Reg.pagePWR → u.rd k = (((s.till t).busMeasured g vout iout f).wrB Reg.PWR_LAMP_BUS_STATUS (8 + g)
        (((s.till t).busMeasured g vout iout f).busStray g vout)).rd k) ∧
      ((s.till t).busMeasured g vout iout f).Agree [] u := by
  rcases hu with rfl | rfl
  · exact ⟨fun _ _ => rfl, (State.agree_wrB _ _ _).2 (.refl _)⟩
  · exact ⟨fun k hk => State.rd_intSet_of_ne _ _ hk, (State.agree_intSet _ _).2 ((State.agree_wrB _ _ _).2 (.refl _))⟩

theorem busMeasure_spec (g : Fin 4) (vout iout f t : Nat) (s : State) :
    ∃ u : State, exec (.busMeasure g vout iout f t) s = .next u ∧
      u.out = s.out ++ [Out.pmbus g (s.rdF (Reg.LAMP_GROUP_CFG g) 6 0) 0x79 0,
        Out.pmbus g (s.rdF (Reg.LAMP_GROUP_CFG g) 6 0) 0x8B 0,
        Out.pmbus g (s.rdF (Reg.LAMP_GROUP_CFG g) 6 0) 0x8C 0] ∧
      u.rd (Reg.LAMP_PMBUS_ERR g) = satAdd 32 (s.rd (Reg.LAMP_PMBUS_ERR g)) f ∧
      u.rd (Reg.LAMP_BUS_MEAS g) = vout % 65536 + iout % 65536 * 65536 ∧
      u.bit Reg.PWR_LAMP_BUS_STATUS (8 + g.val) =
        (decide (5000 < vout) && !s.bit Reg.PWR_LAMP_BUS_STATUS g && decide (msClk 10 < u.frc - (s.lampGroup g).offAt)) ∧
      u.bit Reg.PWR_LAMP_BUS_STATUS g = s.bit Reg.PWR_LAMP_BUS_STATUS g ∧
      (u.bit Reg.PWR_LAMP_BUS_STATUS (8 + g.val) = true → s.bit Reg.PWR_LAMP_BUS_STATUS (8 + g.val) = false →
        u.bit (Reg.INT_STATUS Reg.pagePWR) 12 = true) ∧
      s.regsBut u [Reg.LAMP_PMBUS_ERR g, Reg.LAMP_BUS_MEAS g, Reg.PWR_LAMP_BUS_V01, Reg.PWR_LAMP_BUS_V23,
        Reg.PWR_LAMP_BUS_STATUS, Reg.INT_STATUS Reg.pagePWR] ∧
      { u with regs := s.regs, frc := s.frc, out := s.out } = s := by
  obtain ⟨w, hw⟩ : ∃ w, w = (s.till t).busMeasured g vout iout f := ⟨_, rfl⟩
  have hagree : (s.till t).Agree [.out] w := by
    rw [hw]
    exact State.agree_busMeasured vout iout f
  have hstatus : w.rd Reg.PWR_LAMP_BUS_STATUS = s.rd Reg.PWR_LAMP_BUS_STATUS := by
    rw [hw, State.rd_busMeasured_status]
    rfl
  have hexec := execBusMeasure_eq (g := g) (s := s) vout iout f t
  have hleaves := fun u => busMeasure_leaves (g := g) (s := s) (vout := vout) (iout := iout) (f := f) (t := t) (u := u)
  have herr : w.rd (Reg.LAMP_PMBUS_ERR g) = satAdd 32 (s.rd (Reg.LAMP_PMBUS_ERR g)) f := by
    rw [hw, State.rd_busMeasured_err]
    rfl
  have hmeas : w.rd (Reg.LAMP_BUS_MEAS g) = vout % 65536 + iout % 65536 * 65536 := by
    rw [hw, State.rd_busMeasured_meas]
  have hout : w.out = s.out ++ [Out.pmbus g (s.rdF (Reg.LAMP_GROUP_CFG g) 6 0) 0x79 0,
      Out.pmbus g (s.rdF (Reg.LAMP_GROUP_CFG g) 6 0) 0x8B 0, Out.pmbus g (s.rdF (Reg.LAMP_GROUP_CFG g) 6 0) 0x8C 0] := by
    rw [hw, State.out_busMeasured]
    rfl
  have hkeep : ∀ k, k ≠ Reg.LAMP_PMBUS_ERR g → k ≠ Reg.LAMP_BUS_MEAS g → k ≠ Reg.PWR_LAMP_BUS_V01 →
      k ≠ Reg.PWR_LAMP_BUS_V23 → w.rd k = s.rd k := fun k h1 h2 h3 h4 => by
    rw [hw, State.rd_busMeasured_of_ne h1 h2 h3 h4]
    rfl
  have hstray : w.busStray g vout =
      (decide (5000 < vout) && !s.bit Reg.PWR_LAMP_BUS_STATUS g && decide (msClk 10 < w.frc - (s.lampGroup g).offAt)) := by
    have hlamp : w.lampGroup g = s.lampGroup g := by
      unfold State.lampGroup
      rw [hagree .lamp (by simp)]
      rfl
    unfold State.busStray State.since
    rw [State.bit_of_rd_eq hstatus, hlamp]
  rw [← hw] at hexec
  simp only [← hw] at hleaves
  obtain ⟨b, hb⟩ : ∃ b, b = w.busStray g vout := ⟨_, rfl⟩
  rw [← hb] at hexec hleaves hstray
  obtain ⟨u, hu⟩ : ∃ u, u = (if b && !w.bit Reg.PWR_LAMP_BUS_STATUS (8 + g) then
      (w.wrB Reg.PWR_LAMP_BUS_STATUS (8 + g) b).intSet Reg.pagePWR 12 else w.wrB Reg.PWR_LAMP_BUS_STATUS (8 + g) b) := ⟨_, rfl⟩
  rw [← hu] at hexec
  obtain ⟨hrd, hagree'⟩ := hleaves u (by
    rw [hu]
    exact (ite_eq_or_eq _ _ _).symm)
  have hbit : u.bit Reg.PWR_LAMP_BUS_STATUS (8 + g) = b := by
    rw [State.bit_of_rd_eq (hrd _ (by decide)), State.bit_wrB_same _ _ _ _ (by omega)]
  refine ⟨u, hexec, ?_, ?_, ?_, ?_, ?_, ?_, ?_, ?_⟩
  · rw [hagree' .out (by simp), hout]
  · rw [hrd _ (by simp only [Reg.LAMP_PMBUS_ERR, Reg.INT_STATUS, Reg.pagePWR]; omega),
      State.rd_wrB_of_ne _ _ _ (busStatus_ne_lampReg (by simp only [Reg.LAMP_PMBUS_ERR]; omega)).symm, herr]
  · rw [hrd _ (by simp only [Reg.LAMP_BUS_MEAS, Reg.INT_STATUS, Reg.pagePWR]; omega),
      State.rd_wrB_of_ne _ _ _ (busStatus_ne_lampReg (by simp only [Reg.LAMP_BUS_MEAS]; omega)).symm, hmeas]
  · rw [hbit, hstray, hagree' .frc (by simp)]
  · rw [State.bit_of_rd_eq (hrd _ (by decide)), State.bit_wrB _ _ _ _ _ _ (by omega), if_neg (by omega)]
    exact State.bit_of_rd_eq hstatus
  · intro hset hold
    rw [hbit] at hset
    rw [hu, if_pos (by rw [hset, State.bit_of_rd_eq hstatus, hold]; rfl), State.bit_intSet _ _ _ _ _ (by decide), if_pos ⟨rfl, rfl⟩]
  · intro k hk
    simp only [List.mem_cons, List.not_mem_nil, or_false, not_or] at hk
    obtain ⟨h1, h2, h3, h4, h5, h6⟩ := hk
    rw [hrd k h6, State.rd_wrB_of_ne _ _ _ h5, hkeep k h1 h2 h3 h4]
  · exact State.Agree.revert_eq (ps := [.frc, .out])
      ((((State.agree_till _ (by simp)).2 (.refl s)).trans (hagree.mono (by simp))).trans (hagree'.mono (by simp)))

end

/-! ## NTC inputs -/

section
variable {s : State}

theorem dwellSample_none_dwell (s : State) (k inst x : Nat) : ((s.dwellSample k inst none).dwellAt k x) =
    if x = inst then { s.dwellAt k inst with up := 0, down := 0 } else s.dwellAt k x := by
  by_cases h : x = inst
  · subst h
    rw [if_pos rfl]
    exact smGet_smSet_same _ _ _ _
  · rw [if_neg h]
    refine smGet_smSet_ne _ _ _ _ _ ?_
    simp only [condKey]
    omega

/-- Missing samples break both dwells of their thresholds, and change no condition. -/
theorem State.dwellAt_foldl_none (f : Nat → Nat) (l : List Nat) (x : Nat) (s : State) :
    (l.foldl (fun s j => s.dwellSample 16 (f j) none) s).dwellAt 16 x =
      if x ∈ l.map f then { s.dwellAt 16 x with up := 0, down := 0 } else s.dwellAt 16 x := by
  induction l generalizing s with
  | nil => rfl
  | cons j l ih =>
    rw [List.foldl_cons, ih, dwellSample_none_dwell]
    by_cases hx : x = f j
    · subst hx
      simp
    · simp [hx]

/-- The state in which four faulty inputs have been shown. -/
def State.ntcLost (s : State) (g : Nat) : State :=
  ((s.wr (Reg.LAMP_NTC_TEMP01 g) (0x8000 + 0x8000 * 65536)).wr (Reg.LAMP_NTC_TEMP23 g) (0x8000 + 0x8000 * 65536)).intSet
    (Reg.pageLAMP g) 14

/-- The state in which the thresholds of a group have missed a sample. -/
def State.ntcMissed (s : State) (g : Nat) : State :=
  (List.range 4).foldl (fun s j => s.dwellSample 16 (g * 8 + 4 + j) none)
    ((List.range 4).foldl (fun s j => s.dwellSample 16 (g * 8 + j) none) (s.ntcLost g))

/-- The hottest reading in use of a group. -/
def ntcHot (use : Nat) (vs : List (Option Int)) : Option Int :=
  (((List.range 4).filter (bitOf use)).filterMap (fun i => vs.getD i none)).foldl (fun m v => match m with
    | none => some v
    | some x => some (max x v)) none

/-- Four faulty inputs. -/
def noReadings : List (Option Int) := [none, none, none, none]

theorem noReadings_getD (i : Nat) : noReadings.getD i none = none := by
  match i with
  | 0 => rfl
  | 1 => rfl
  | 2 => rfl
  | 3 => rfl
  | _ + 4 => rfl

theorem ntcHot_noReadings (use : Nat) : ntcHot use noReadings = none := by
  unfold ntcHot
  rw [List.filterMap_eq_nil_iff.2 fun i _ => noReadings_getD i]
  rfl

theorem execNtcRead_of_lost (g : Fin 4) (s : State) : exec (.ntcRead g [none, none, none, none]) s =
    .next ((s.ntcMissed g).groupNtc g) := by
  have hexec : exec (.ntcRead g [none, none, none, none]) s =
      .next (((List.range 4).foldl (fun s i => s.dwellSample 16 (g * 8 + 4 + i) (noReadings.getD i none))
        ((List.range 4).foldl (fun t j => t.dwellSample 16 (g * 8 + j)
          (ntcHot ((s.ntcLost g).rdF (Reg.LAMP_NTC_LIMITS g) 19 16) noReadings)) (s.ntcLost g))).groupNtc g) := rfl
  rw [hexec, ntcHot_noReadings]
  simp only [noReadings_getD]
  rfl

theorem State.rd_dwellSample (s : State) (n inst : Nat) (v : Option Int) (k : Nat) :
    (s.dwellSample n inst v).rd k = s.rd k := rfl

theorem State.rd_ntcMissed (s : State) (g k : Nat) : (s.ntcMissed g).rd k = (s.ntcLost g).rd k := by
  unfold State.ntcMissed
  rw [State.rd_foldl_of_ne (f := fun s j => s.dwellSample 16 (g * 8 + 4 + j) none) (fun _ _ t => t.rd_dwellSample _ _ _ k),
    State.rd_foldl_of_ne (f := fun s j => s.dwellSample 16 (g * 8 + j) none) (fun _ _ t => t.rd_dwellSample _ _ _ k)]

theorem State.agree_dwellSample (s : State) (k inst : Nat) (v : Option Int) : s.Agree [.pwr] (s.dwellSample k inst v) := by
  unfold State.dwellSample State.setDwell
  simp

theorem State.agree_ntcMissed (s : State) (g : Nat) : s.Agree [.pwr] (s.ntcMissed g) := by
  have hlost : s.Agree [.pwr] (s.ntcLost g) :=
    (State.agree_intSet _ _).2 ((State.agree_wr _ _).2 ((State.agree_wr _ _).2 (.refl s)))
  exact (hlost.trans (State.agree_foldl (fun _ _ t => t.agree_dwellSample _ _ _) _)).trans
    (State.agree_foldl (fun _ _ t => t.agree_dwellSample _ _ _) _)

theorem State.dwellAt_ntcMissed (s : State) (g : Nat) {j : Nat} (hj : j < 8) :
    (s.ntcMissed g).dwellAt 16 (g * 8 + j) = { s.dwellAt 16 (g * 8 + j) with up := 0, down := 0 } := by
  have hlost : (s.ntcLost g).dwellAt 16 (g * 8 + j) = s.dwellAt 16 (g * 8 + j) := rfl
  unfold State.ntcMissed
  rw [State.dwellAt_foldl_none (fun i => g * 8 + 4 + i), State.dwellAt_foldl_none (fun i => g * 8 + i), hlost]
  rcases Nat.lt_or_ge j 4 with h | h
  · have hmem : g * 8 + j ∈ (List.range 4).map (fun i => g * 8 + i) := List.mem_map.2 ⟨j, List.mem_range.2 h, rfl⟩
    rw [if_pos hmem]
    split_ifs <;> rfl
  · have hmem : g * 8 + j ∈ (List.range 4).map (fun i => g * 8 + 4 + i) :=
      List.mem_map.2 ⟨j - 4, List.mem_range.2 (by omega), by omega⟩
    rw [if_pos hmem]
    split_ifs <;> rfl

theorem State.rd_ntcLost_of_ne (s : State) {g k : Nat} (h01 : k ≠ Reg.LAMP_NTC_TEMP01 g) (h23 : k ≠ Reg.LAMP_NTC_TEMP23 g)
    (hi : k ≠ Reg.INT_STATUS (Reg.pageLAMP g)) : (s.ntcLost g).rd k = s.rd k := by
  unfold State.ntcLost
  rw [State.rd_intSet_of_ne _ _ hi, State.rd_wr_of_ne _ _ h23, State.rd_wr_of_ne _ _ h01]

theorem ntcRead_of_lost (g : Fin 4) (s : State) (hon : s.groupSt g ≠ 2) (hhot : s.groupSt g ≠ 4) :
    ∃ u : State, exec (.ntcRead g [none, none, none, none]) s = .next u ∧
      u.rd (Reg.LAMP_NTC_TEMP01 g) = 0x80008000 ∧ u.rd (Reg.LAMP_NTC_TEMP23 g) = 0x80008000 ∧
      u.bit (Reg.INT_STATUS (Reg.pageLAMP g)) 14 = true ∧
      (∀ j ∈ List.range 8, (u.dwellAt 16 (g * 8 + j)).up = 0 ∧ (u.dwellAt 16 (g * 8 + j)).down = 0 ∧
        u.condIn 16 (g * 8 + j) = s.condIn 16 (g * 8 + j)) ∧
      s.regsBut u [Reg.LAMP_NTC_TEMP01 g, Reg.LAMP_NTC_TEMP23 g, Reg.INT_STATUS (Reg.pageLAMP g)] ∧
      { u with regs := s.regs, pwr := s.pwr } = s := by
  have hgroup : (s.ntcMissed g).groupSt g = s.groupSt g := by
    refine State.rdF_of_rd_eq ((s.rd_ntcMissed _ _).trans (s.rd_ntcLost_of_ne ?_ ?_ ?_)) <;>
      simp only [Reg.STATUS, Reg.pageLAMP, Reg.LAMP_NTC_TEMP01, Reg.LAMP_NTC_TEMP23, Reg.INT_STATUS] <;> omega
  have hexec : exec (.ntcRead g [none, none, none, none]) s = .next (s.ntcMissed g) := by
    rw [execNtcRead_of_lost, State.groupNtc, hgroup, if_neg (fun h => hon h.1), if_neg (fun h => hhot h.1)]
  refine ⟨_, hexec, ?_, ?_, ?_, fun j hj => ?_, fun k hk => ?_,
    State.Agree.revert_eq (ps := [.pwr]) (s.agree_ntcMissed g)⟩
  · rw [s.rd_ntcMissed, State.ntcLost, State.rd_intSet_of_ne _ _ (by
      simp only [Reg.LAMP_NTC_TEMP01, Reg.INT_STATUS, Reg.pageLAMP]; omega), State.rd_wr_of_ne _ _ (by
      simp only [Reg.LAMP_NTC_TEMP01, Reg.LAMP_NTC_TEMP23]; omega), State.rd_wr_same]
    rfl
  · rw [s.rd_ntcMissed, State.ntcLost, State.rd_intSet_of_ne _ _ (by
      simp only [Reg.LAMP_NTC_TEMP23, Reg.INT_STATUS, Reg.pageLAMP]; omega), State.rd_wr_same]
    rfl
  · rw [State.bit_of_rd_eq (s.rd_ntcMissed _ _), State.ntcLost, State.bit_intSet _ _ _ _ _ (by decide), if_pos ⟨rfl, rfl⟩]
  · have hdwell := s.dwellAt_ntcMissed g.val (List.mem_range.1 hj)
    refine ⟨by rw [hdwell], by rw [hdwell], ?_⟩
    unfold State.condIn
    rw [hdwell]
  · simp only [List.mem_cons, List.not_mem_nil, or_false, not_or] at hk
    rw [s.rd_ntcMissed, s.rd_ntcLost_of_ne hk.1 hk.2.1 hk.2.2]

end

/-- Settles O27: the start of a period, the headroom step, the measurement of a bus, and NTC inputs that fail. -/
theorem lampDrive : Obligations.LampDrive := by
  unfold Obligations.LampDrive
  refine ⟨lampPeriodStart_of_off, lampPeriodStart_of_driven, ?_, ?_, ?_, headroomStep_of_failed, ?_, busMeasure_spec,
    ntcRead_of_lost⟩
  · intro ch t s h
    exact if_pos h
  · rintro g f v _ n s hst hcmd hf hv hlow rfl hn
    exact headroomStep_moves g f v n s hst hcmd hf hv (hn.trans (State.headroomVout_slewed hlow).symm)
  · rintro g f v _ n s hst hcmd hf hv hlow rfl hn
    exact headroomStep_moves g f v n s hst hcmd hf hv (hn.trans (State.headroomVout_raised hlow).symm)
  · intro g f s h
    exact if_pos h

end Sys2Proof.Machine
end

section
/-! Handover and retirement (R362), and the digest records of the partner (R141 to R145). -/

namespace Sys2Proof.Machine

/-! ## Asking for a change -/

section
variable {s : State} {src : Req} {retire : Bool}

/-- The SOURCE that HANDOVER_STATUS shows of a request to PAIR_CTRL. -/
def changeSource (src : Req) : Nat := if isHost src then 0 else 1

/-- The state in which a request has been recorded, before it is judged. -/
def State.changeNoted (s : State) (retire : Bool) (src : Req) : State :=
  s.wr Reg.PAIR_HANDOVER_STATUS (b2n retire * 8 + changeSource src * 16)

theorem State.rd_changeNoted_of_ne {k : Nat} (h : k ≠ Reg.PAIR_HANDOVER_STATUS) : (s.changeNoted retire src).rd k = s.rd k :=
  s.rd_wr_of_ne _ h

/-- What HANDOVER_STATUS shows once a recorded request has a STATE. -/
theorem State.change_shown (s : State) (retire : Bool) (src : Req) {v : Nat} (hv : v < 8) :
    ((s.changeNoted retire src).setChange v).rdF Reg.PAIR_HANDOVER_STATUS 2 0 = v ∧
    ((s.changeNoted retire src).setChange v).bit Reg.PAIR_HANDOVER_STATUS 3 = retire ∧
    ((s.changeNoted retire src).setChange v).rdF Reg.PAIR_HANDOVER_STATUS 5 4 = changeSource src := by
  have hnoted : (s.changeNoted retire src).rd Reg.PAIR_HANDOVER_STATUS = b2n retire * 8 + changeSource src * 16 := by
    refine (s.rd_wr_same _ _).trans (Nat.mod_eq_of_lt ?_)
    unfold changeSource
    cases retire <;> split <;> decide
  have hset : ((s.changeNoted retire src).setChange v).rd Reg.PAIR_HANDOVER_STATUS =
      putFld (b2n retire * 8 + changeSource src * 16) 2 0 v :=
    (State.rd_wrF_same _ _ _ (by decide) (by decide)).trans (by rw [hnoted])
  refine ⟨?_, ?_, ?_⟩
  · rw [State.rdF, hset, fld_putFld_same _ _ _ _ (by decide)]
    exact Nat.mod_eq_of_lt hv
  · rw [State.bit, hset, bitOf_putFld_other _ _ _ _ _ (by decide) (.inr (by decide))]
    unfold changeSource
    cases retire <;> split <;> rfl
  · rw [State.rdF, hset, fld_putFld_other _ _ _ _ _ _ (by decide) (.inr (by decide))]
    unfold changeSource
    cases retire <;> split <;> rfl

theorem State.canChange_changeNoted : (s.changeNoted retire src).canChange = s.canChange := by
  have hmode : (s.changeNoted retire src).pairMode = s.pairMode := State.bit_of_rd_eq (State.rd_changeNoted_of_ne (by decide))
  unfold State.canChange State.paired State.cond
  rw [hmode, State.rdF_of_rd_eq (State.rd_changeNoted_of_ne (by decide))]
  rfl

theorem State.leads_changeNoted : (s.changeNoted retire src).leads = s.leads := by
  have hmode : (s.changeNoted retire src).pairMode = s.pairMode := State.bit_of_rd_eq (State.rd_changeNoted_of_ne (by decide))
  unfold State.leads State.role
  rw [hmode, State.rdF_of_rd_eq (State.rd_changeNoted_of_ne (by decide))]

theorem State.pairMode_of_canChange (h : s.canChange = true) : s.pairMode = true := by
  by_contra hmode
  have hcond : s.cond = 0 := if_neg hmode
  simp [State.canChange, State.paired, hcond] at h

/-- A request to PAIR_CTRL, whichever of the two it is. -/
def changeRequest (src : Req) (retire : Bool) : Instr := if retire then .retireRequest src else .handoverRequest src

theorem exec_changeRequest (hcut : s.cutOff src = false) : exec (changeRequest src retire) s = .next (s.changeCtrl src retire) := by
  cases retire with
  | false => exact if_neg (by simp [hcut])
  | true => exact if_neg (by simp [hcut])

theorem changeCtrl_of_open (hmode : s.pairMode = true) (hpending : s.changePending = false) : s.changeCtrl src retire =
    if !(s.changeNoted retire src).canChange then (s.changeNoted retire src).setChange 3
    else if (s.changeNoted retire src).leads then (s.changeNoted retire src).agreeChange retire true
    else ((s.changeNoted retire src).setChange 1).toPartner 1 0x30 [b2n retire] :=
  (if_neg (by simp [hmode])).trans ((if_neg (by simp [hpending])).trans (if_neg (by simp [hpending])))

theorem changeRequest_single (hcut : s.cutOff src = false) (hmode : s.pairMode = false) :
    ∃ u : State, exec (changeRequest src retire) s = .next u ∧
      s.errored u Reg.pagePAIR 0x0101 Reg.PAIR_PAIR_CTRL (srcCode src) ∧ s.regsBut u (errorKeys Reg.pagePAIR) ∧
      { u with regs := s.regs } = s :=
  State.refused_errAt (by decide) ((exec_changeRequest hcut).trans (congrArg Host.Outcome.next (if_pos (by simp [hmode]))))

theorem changeRequest_pending (hcut : s.cutOff src = false) (hmode : s.pairMode = true) (hpending : s.changePending = true) :
    ∃ u : State, exec (changeRequest src retire) s = .next u ∧
      s.errored u Reg.pagePAIR 0x0103 Reg.PAIR_PAIR_CTRL (srcCode src) ∧ s.regsBut u (errorKeys Reg.pagePAIR) ∧
      { u with regs := s.regs } = s :=
  State.refused_errAt (by decide) ((exec_changeRequest hcut).trans (congrArg Host.Outcome.next
    ((if_neg (by simp [hmode])).trans (if_pos hpending))))

theorem changeRequest_alone (hcut : s.cutOff src = false) (hmode : s.pairMode = true) (hpending : s.changePending = false)
    (hcan : s.canChange = false) :
    ∃ u : State, exec (changeRequest src retire) s = .next u ∧
      u.rdF Reg.PAIR_HANDOVER_STATUS 2 0 = 3 ∧ u.bit Reg.PAIR_HANDOVER_STATUS 3 = retire ∧
      (u.rdF Reg.PAIR_HANDOVER_STATUS 5 4 = if isHost src = true then 0 else 1) ∧
      s.regsBut u [Reg.PAIR_HANDOVER_STATUS] ∧ { u with regs := s.regs } = s := by
  have hexec : exec (changeRequest src retire) s = .next ((s.changeNoted retire src).setChange 3) := by
    rw [exec_changeRequest hcut, changeCtrl_of_open hmode hpending, State.canChange_changeNoted, hcan, Bool.not_false, if_pos rfl]
  obtain ⟨hst, hretire, hsource⟩ := s.change_shown retire src (v := 3) (by decide)
  refine ⟨_, hexec, hst, hretire, hsource, fun k hk => ?_, rfl⟩
  rw [List.mem_singleton] at hk
  exact (State.rd_wrF_of_ne _ _ _ _ hk).trans (State.rd_changeNoted_of_ne hk)

/-- The state in which this module's change at a line is agreed. -/
def State.handoverAgreed (s : State) (retire : Bool) (line : Nat) : State :=
  { s with pair := { s.pair with handover := some { retire := retire, mine := true, line := line } } }

theorem changeRequest_leader (hcut : s.cutOff src = false) (hpending : s.changePending = false) (hcan : s.canChange = true)
    (hleads : s.leads = true) :
    ∃ u : State, exec (changeRequest src retire) s = .next u ∧
      u.rdF Reg.PAIR_HANDOVER_STATUS 2 0 = 1 ∧ u.bit Reg.PAIR_HANDOVER_STATUS 3 = retire ∧
      u.rd Reg.PAIR_HANDOVER_LINE = ladd s.nextLine s.guard ∧
      u.pair.handover = some { retire := retire, mine := true, line := ladd s.nextLine s.guard } ∧
      s.regsBut u [Reg.PAIR_HANDOVER_STATUS, Reg.PAIR_HANDOVER_LINE] ∧
      { u with regs := s.regs, pair := s.pair, ring := s.ring, out := s.out } = s := by
  have hline : (s.changeNoted retire src).nextLine = s.nextLine := State.rd_changeNoted_of_ne (by decide)
  have hguard : (s.changeNoted retire src).guard = s.guard := State.rdF_of_rd_eq (State.rd_changeNoted_of_ne (by decide))
  obtain ⟨w, hw⟩ : ∃ w, w = (s.changeNoted retire src).handoverAgreed retire (ladd s.nextLine s.guard) := ⟨_, rfl⟩
  have hexec : exec (changeRequest src retire) s = .next (((w.setChange 1).wr Reg.PAIR_HANDOVER_LINE
      (ladd s.nextLine s.guard)).toPartner 1 0x31 [b2n retire, ladd s.nextLine s.guard, b2n true]) := by
    rw [exec_changeRequest hcut, changeCtrl_of_open (State.pairMode_of_canChange hcan) hpending, State.canChange_changeNoted, hcan,
      Bool.not_true, if_neg (by simp), State.leads_changeNoted, if_pos hleads, State.agreeChange, hline, hguard, hw]
    rfl
  have hrd : ∀ k, k ≠ Reg.PAIR_HANDOVER_LINE → (((w.setChange 1).wr Reg.PAIR_HANDOVER_LINE
      (ladd s.nextLine s.guard)).toPartner 1 0x31 [b2n retire, ladd s.nextLine s.guard, b2n true]).rd k =
      ((s.changeNoted retire src).setChange 1).rd k := fun k hk => by
    rw [State.rd_toPartner, State.rd_wr_of_ne _ _ hk, hw]
    rfl
  obtain ⟨hst, hretire, -⟩ := s.change_shown retire src (v := 1) (by decide)
  refine ⟨_, hexec, ?_, ?_, ?_, ?_, fun k hk => ?_, ?_⟩
  · rw [State.rdF_of_rd_eq (hrd _ (by decide)), hst]
  · rw [State.bit_of_rd_eq (hrd _ (by decide)), hretire]
  · rw [State.rd_toPartner, State.rd_wr_same]
    exact Nat.mod_eq_of_lt (ladd_lt _ _)
  · rw [State.toPartner_eq, hw]
    rfl
  · simp only [List.mem_cons, List.not_mem_nil, or_false, not_or] at hk
    rw [hrd k hk.2]
    exact (State.rd_wrF_of_ne _ _ _ _ hk.1).trans (State.rd_changeNoted_of_ne hk.1)
  · rw [State.toPartner_eq, hw]
    rfl

theorem changeRequest_follower (hcut : s.cutOff src = false) (hpending : s.changePending = false) (hcan : s.canChange = true)
    (hleads : s.leads = false) (hup : s.stCode (Reg.pagePEER 2) = 4) :
    ∃ u : State, exec (changeRequest src retire) s = .next u ∧
      u.rdF Reg.PAIR_HANDOVER_STATUS 2 0 = 1 ∧
      u.out = s.out ++ [Out.peer 2 1 ((smGet (fun _ => 0) (s.peerPort 2).txSeq 1 + 1) % 65536) 0x30 [b2n retire]] ∧
      s.regsBut u [Reg.PAIR_HANDOVER_STATUS] ∧ { u with regs := s.regs, ring := s.ring, out := s.out } = s := by
  have hexec : exec (changeRequest src retire) s =
      .next (((s.changeNoted retire src).setChange 1).toPartner 1 0x30 [b2n retire]) := by
    rw [exec_changeRequest hcut, changeCtrl_of_open (State.pairMode_of_canChange hcan) hpending, State.canChange_changeNoted, hcan,
      Bool.not_true, if_neg (by simp), State.leads_changeNoted, if_neg (by simp [hleads])]
  have hkeep : ∀ k, k ≠ Reg.PAIR_HANDOVER_STATUS → ((s.changeNoted retire src).setChange 1).rd k = s.rd k := fun k hk =>
    (State.rd_wrF_of_ne _ _ _ _ hk).trans (State.rd_changeNoted_of_ne hk)
  obtain ⟨hst, -, -⟩ := s.change_shown retire src (v := 1) (by decide)
  refine ⟨_, hexec, ?_, ?_, fun k hk => ?_, ?_⟩
  · rw [State.rdF_of_rd_eq (State.rd_toPartner _ _ _ _), hst]
  · exact State.toPartner_out ((State.rdF_of_rd_eq (hkeep _ (by decide))).trans hup)
  · rw [State.rd_toPartner, hkeep k (by simpa using hk)]
  · rw [State.toPartner_eq]
    rfl

end

/-! ## The partner's digests -/

section
variable {s : State}

/-- The state in which the partner's digest of a tile is held. -/
def State.digestHeld (s : State) (k crc : Nat) : State :=
  { s with job := { s.job with partner := smSet (fun _ => none) s.job.partner k (some crc) } }

theorem State.partnerDigest_digestHeld (k crc : Nat) : (s.digestHeld k crc).partnerDigest k = some crc :=
  smGet_smSet_same (fun _ => none) s.job.partner k (some crc)

theorem State.partnerDigest_digestHeld_other {k j : Nat} (crc : Nat) (h : j ≠ k) :
    (s.digestHeld k crc).partnerDigest j = s.partnerDigest j :=
  smGet_smSet_ne (fun _ => none) s.job.partner k j (some crc) h

theorem State.tileDigest_digestHeld (k crc j : Nat) : (s.digestHeld k crc).tileDigest j = s.tileDigest j := rfl

theorem State.takeDigest_eq {p row col crc : Nat} (hlost : s.pair.lost = false) :
    s.takeDigest p row col crc = (s.digestHeld (tileKey p row col) crc).compareDigest p row col := if_neg (by simp [hlost])

/-- A record that agrees, or of a tile that is not valid, is only held. -/
theorem State.takeDigest_of_agreeing {p row col crc k : Nat} (hlost : s.pair.lost = false) (hk : k = tileKey p row col)
    (h : s.tileDigest k = none ∨ s.tileDigest k = some crc) : s.takeDigest p row col crc = s.digestHeld k crc := by
  subst hk
  rw [State.takeDigest_eq hlost]
  unfold State.compareDigest
  dsimp only
  rw [State.tileDigest_digestHeld, State.partnerDigest_digestHeld]
  rcases h with h | h
  · rw [h]
  · rw [h]
    exact if_pos (.inl rfl)

theorem exec_peerDigest (hmode : s.pairMode = true) (plane : Fin 8) (row col crc : Nat) :
    exec (.tileDigestRecord (.peer plane row col crc)) s = .next (s.takeDigest plane row col crc) :=
  if_neg (by simp [hmode])

theorem peerDigest_agrees (plane : Fin 8) (row col crc k : Nat) (s : State) (hmode : s.pairMode = true)
    (hlost : s.pair.lost = false) (hk : k = tileKey plane row col) (h : s.tileDigest k = none ∨ s.tileDigest k = some crc) :
    ∃ u : State, exec (.tileDigestRecord (.peer plane row col crc)) s = .next u ∧
      u.partnerDigest k = some crc ∧ u.tileDigest k = s.tileDigest k ∧
      (∀ j, j ≠ k → u.partnerDigest j = s.partnerDigest j) ∧ { u with job := s.job } = s := by
  have hexec := exec_peerDigest hmode plane row col crc
  rw [State.takeDigest_of_agreeing hlost hk h] at hexec
  exact ⟨_, hexec, State.partnerDigest_digestHeld k crc, rfl, fun j => State.partnerDigest_digestHeld_other crc, rfl⟩

theorem State.agree_job (r : SMap Word) (j : JobUnit) : s.Agree [.job] { s with regs := r, job := j } := by
  intro p hp
  cases p
  case job => exact absurd (List.mem_singleton_self _) hp
  all_goals rfl

/-! ### A row that is complete no more -/

/-- The registers that the rows of a stream show. -/
def streamKeys : List Nat := [Reg.JOB_STREAM_RELEASE_ROW, Reg.JOB_STREAM_WRITE_ROW, Reg.JOB_STREAM_CREDITS]

/-- A state that differs from another in what the rows of a stream show, and in nothing that a digest rests on. -/
def State.rowsShown (s t : State) : Prop :=
  (∀ k, k ∉ streamKeys → k ≠ Reg.INT_STATUS Reg.pageJOB → t.rd k = s.rd k) ∧
    (s.bit (Reg.INT_STATUS Reg.pageJOB) 10 = true → t.bit (Reg.INT_STATUS Reg.pageJOB) 10 = true) ∧
    t.job.valid = s.job.valid ∧ t.job.partner = s.job.partner ∧ s.Agree [.job] t

theorem State.rowsShown.refl (s : State) : s.rowsShown s := ⟨fun _ _ _ => rfl, id, rfl, rfl, .refl s⟩

theorem State.rowsShown.trans {s t u : State} (h : s.rowsShown t) (h' : t.rowsShown u) : s.rowsShown u := by
  obtain ⟨hrd, hbit, hvalid, hpartner, hagree⟩ := h
  obtain ⟨hrd', hbit', hvalid', hpartner', hagree'⟩ := h'
  exact ⟨fun k hk hi => (hrd' k hk hi).trans (hrd k hk hi), hbit' ∘ hbit, hvalid'.trans hvalid, hpartner'.trans hpartner,
    hagree.trans hagree'⟩

theorem State.rowsShown_wr {a : Nat} (v : Nat) (h : a ∈ streamKeys) : s.rowsShown (s.wr a v) := by
  have hne : Reg.INT_STATUS Reg.pageJOB ≠ a := by
    rintro rfl
    exact absurd h (by decide)
  refine ⟨fun k hk _ => s.rd_wr_of_ne _ ?_, fun hb => ?_, rfl, rfl, (State.agree_wr _ _).2 (.refl s)⟩
  · rintro rfl
    exact hk h
  · rwa [State.bit_of_rd_eq (s.rd_wr_of_ne _ hne)]

theorem State.rowsShown_advanceWrite (n : Nat) : s.rowsShown (s.advanceWrite n) := by
  induction n generalizing s with
  | zero => exact .refl s
  | succ n ih =>
    unfold State.advanceWrite
    dsimp only
    split_ifs
    · exact (State.rowsShown_wr _ (by decide)).trans ih
    · exact .refl s

theorem State.rowsShown_showCredits : s.rowsShown s.showCredits := by
  obtain ⟨t, ht, hs⟩ : ∃ t : State, s.rowsShown t ∧ (s.showCredits = t ∨ s.showCredits = t.intSet Reg.pageJOB 8) := by
    have hwr := State.rowsShown_wr (s := s) s.credits (by decide : Reg.JOB_STREAM_CREDITS ∈ streamKeys)
    by_cases hc : (s.wr Reg.JOB_STREAM_CREDITS s.credits).credits = 0
    · refine ⟨{ s.wr Reg.JOB_STREAM_CREDITS s.credits with
        job := { (s.wr Reg.JOB_STREAM_CREDITS s.credits).job with creditsHeld := false } }, ?_, ?_⟩
      · obtain ⟨hrd, hbit, hvalid, hpartner, hagree⟩ := hwr
        exact ⟨hrd, hbit, hvalid, hpartner, hagree.trans (State.agree_job _ _)⟩
      · unfold State.showCredits
        dsimp only
        rw [if_pos hc]
        exact (ite_eq_or_eq _ _ _).symm
    · refine ⟨_, hwr, ?_⟩
      unfold State.showCredits
      dsimp only
      rw [if_neg hc]
      exact (ite_eq_or_eq _ _ _).symm
  rcases hs with hs | hs
  · rwa [hs]
  · rw [hs]
    refine ht.trans ⟨fun k _ hi => State.rd_intSet_of_ne _ _ hi, fun hb => ?_, rfl, rfl, (State.agree_intSet _ _).2 (.refl t)⟩
    rw [State.bit_intSet _ _ _ _ _ (by decide), if_neg (by decide)]
    exact hb

theorem State.rowsShown_rowsLose : s.rowsShown s.rowsLose := by
  unfold State.rowsLose
  split_ifs with hstream
  · unfold State.rescanRows
    rw [if_pos hstream]
    exact (((State.rowsShown_wr _ (by decide)).trans (State.rowsShown_wr _ (by decide))).trans
      (State.rowsShown_advanceWrite _)).trans State.rowsShown_showCredits
  · exact .refl s

end

/-! ### A record that differs -/

section
variable {s : State}

theorem State.keyAddr_congr {t : State} (k : Nat) (hpsrc : ∀ p, t.rd (Reg.JOB_PSRC p) = s.rd (Reg.JOB_PSRC p))
    (hbase : ∀ r, r < 64 → t.rd (Reg.YARD_REG_BASE r) = s.rd (Reg.YARD_REG_BASE r))
    (hcfg : t.rd Reg.JOB_JOB_CFG = s.rd Reg.JOB_JOB_CFG) (hrows : t.rd Reg.JOB_STREAM_ROWS = s.rd Reg.JOB_STREAM_ROWS) :
    t.keyAddr k = s.keyAddr k := by
  have hregion : t.tileRegion (keyPlane k) = s.tileRegion (keyPlane k) := State.rdF_of_rd_eq (hpsrc _)
  have hlt : s.tileRegion (keyPlane k) < 64 := fld_lt _ _ _
  unfold State.keyAddr State.tileAddr State.regionRow State.streaming State.streamRows State.tileCols
  rw [hregion, hbase _ hlt, State.rdF_of_rd_eq (hpsrc _), State.bit_of_rd_eq hcfg, State.rdF_of_rd_eq hrows]

/-- The state in which a tile whose digests differ is invalid, before its row is judged. -/
def State.digestFailed (s : State) (k p row col : Nat) : State :=
  let u := ((s.setTile k none).count Reg.JOB_DIGEST_MISMATCH_COUNT).wr Reg.JOB_DIGEST_LAST (p + col * 2 ^ 8)
  let u := u.wr Reg.JOB_DIGEST_LAST_ROW row
  { u with job := { u.job with partner := smSet (fun _ => none) u.job.partner k none } }.intSet Reg.pageJOB 10

theorem State.rd_digestFailed (s : State) (k p row col a : Nat) : (s.digestFailed k p row col).rd a =
    ((((s.count Reg.JOB_DIGEST_MISMATCH_COUNT).wr Reg.JOB_DIGEST_LAST (p + col * 2 ^ 8)).wr Reg.JOB_DIGEST_LAST_ROW row).intSet
      Reg.pageJOB 10).rd a := rfl

theorem State.takeDigest_of_differing {p row col crc k d : Nat} (hlost : s.pair.lost = false) (hk : k = tileKey p row col)
    (hd : s.tileDigest k = some d) (hne : d ≠ crc) :
    s.takeDigest p row col crc = ((s.digestHeld k crc).digestFailed k p row col).rowsLose := by
  subst hk
  have hnot : ¬ (d = crc ∨ (s.digestHeld (tileKey p row col) crc).pair.lost) := by
    rintro (h | h)
    · exact hne h
    · exact absurd h (by rw [show (s.digestHeld (tileKey p row col) crc).pair.lost = s.pair.lost from rfl, hlost]; decide)
  rw [State.takeDigest_eq hlost]
  unfold State.compareDigest
  dsimp only
  rw [State.tileDigest_digestHeld, State.partnerDigest_digestHeld, hd]
  exact if_neg hnot

/-- The registers that show a record that differs. -/
def digestKeys : List Nat := [Reg.JOB_DIGEST_MISMATCH_COUNT, Reg.JOB_DIGEST_LAST, Reg.JOB_DIGEST_LAST_ROW]

theorem State.rd_digestFailed_of_notMem {k p row col a : Nat} (h : a ∉ digestKeys) (hi : a ≠ Reg.INT_STATUS Reg.pageJOB) :
    (s.digestFailed k p row col).rd a = s.rd a := by
  simp only [digestKeys, List.mem_cons, List.not_mem_nil, or_false, not_or] at h
  rw [State.rd_digestFailed, State.rd_intSet_of_ne _ _ hi, State.rd_wr_of_ne _ _ h.2.2, State.rd_wr_of_ne _ _ h.2.1,
    State.rd_count_of_ne _ h.1]

theorem peerDigest_differs (plane : Fin 8) (row col crc k d : Nat) (s : State) (hmode : s.pairMode = true)
    (hlost : s.pair.lost = false) (hk : k = tileKey plane row col) (hd : s.tileDigest k = some d) (hne : d ≠ crc) :
    ∃ u : State, exec (.tileDigestRecord (.peer plane row col crc)) s = .next u ∧
      u.partnerDigest k = none ∧ u.tileDigest k = none ∧
      u.rd Reg.JOB_DIGEST_MISMATCH_COUNT = satInc 32 (s.rd Reg.JOB_DIGEST_MISMATCH_COUNT) ∧
      u.rd Reg.JOB_DIGEST_LAST = (plane + col * 2 ^ 8) % 2 ^ 32 ∧ u.rd Reg.JOB_DIGEST_LAST_ROW = row % 2 ^ 32 ∧
      u.bit (Reg.INT_STATUS Reg.pageJOB) 10 = true ∧
      s.regsBut u [Reg.JOB_DIGEST_MISMATCH_COUNT, Reg.JOB_DIGEST_LAST, Reg.JOB_DIGEST_LAST_ROW,
        Reg.INT_STATUS Reg.pageJOB, Reg.JOB_STREAM_RELEASE_ROW, Reg.JOB_STREAM_WRITE_ROW, Reg.JOB_STREAM_CREDITS] ∧
      { u with regs := s.regs, job := s.job } = s := by
  have hexec := exec_peerDigest hmode plane row col crc
  rw [State.takeDigest_of_differing hlost hk hd hne] at hexec
  obtain ⟨hrd, hbit, hvalid, hpartner, hagree⟩ :=
    State.rowsShown_rowsLose (s := (s.digestHeld k crc).digestFailed k plane row col)
  have hkeep : ∀ a, a ∉ digestKeys → a ∉ streamKeys → a ≠ Reg.INT_STATUS Reg.pageJOB →
      ((s.digestHeld k crc).digestFailed k plane row col).rowsLose.rd a = s.rd a := fun a h1 h2 h3 =>
    (hrd a h2 h3).trans (State.rd_digestFailed_of_notMem h1 h3)
  have haddr : ((s.digestHeld k crc).digestFailed k plane row col).rowsLose.keyAddr k = s.keyAddr k := by
    refine State.keyAddr_congr k (fun p => hkeep _ ?_ ?_ ?_) (fun r hr => hkeep _ ?_ ?_ ?_)
      (hkeep _ (by decide) (by decide) (by decide)) (hkeep _ (by decide) (by decide) (by decide)) <;>
    · simp only [digestKeys, streamKeys, Reg.JOB_PSRC, Reg.YARD_REG_BASE, Reg.INT_STATUS, Reg.pageJOB,
        Reg.JOB_DIGEST_MISMATCH_COUNT, Reg.JOB_DIGEST_LAST, Reg.JOB_DIGEST_LAST_ROW, Reg.JOB_STREAM_RELEASE_ROW,
        Reg.JOB_STREAM_WRITE_ROW, Reg.JOB_STREAM_CREDITS, List.mem_cons, List.not_mem_nil, or_false]
      omega
  refine ⟨_, hexec, ?_, ?_, ?_, ?_, ?_, hbit ?_, fun a ha => ?_, ?_⟩
  · unfold State.partnerDigest
    rw [hpartner]
    exact smGet_smSet_same (fun _ => none) _ k none
  · unfold State.tileDigest
    rw [haddr, hvalid]
    have hnone : smGet (fun _ => none) ((s.digestHeld k crc).digestFailed k plane row col).job.valid (s.keyAddr k) = none :=
      smGet_smSet_same (fun _ => none) s.job.valid (s.keyAddr k) none
    rw [hnone]
  · rw [hrd _ (by decide) (by decide), State.rd_digestFailed, State.rd_intSet_of_ne _ _ (by decide),
      State.rd_wr_of_ne _ _ (by decide), State.rd_wr_of_ne _ _ (by decide), State.rd_count_same]
    rfl
  · rw [hrd _ (by decide) (by decide), State.rd_digestFailed, State.rd_intSet_of_ne _ _ (by decide),
      State.rd_wr_of_ne _ _ (by decide), State.rd_wr_same]
  · rw [hrd _ (by decide) (by decide), State.rd_digestFailed, State.rd_intSet_of_ne _ _ (by decide), State.rd_wr_same]
  · rw [State.bit_of_rd_eq (State.rd_digestFailed _ _ _ _ _ _), State.bit_intSet _ _ _ _ _ (by decide), if_pos ⟨rfl, rfl⟩]
  · simp only [List.mem_cons, List.not_mem_nil, or_false, not_or] at ha
    obtain ⟨h1, h2, h3, h4, h5, h6, h7⟩ := ha
    exact hkeep a (by simp [digestKeys, h1, h2, h3]) (by simp [streamKeys, h5, h6, h7]) h4
  · refine State.Agree.revert_eq (ps := [.job]) (State.Agree.trans ?_ hagree)
    exact State.agree_job _ _

/-! ## A message that fails its checks -/

/-- What a message that fails its checks leaves (R356). -/
theorem State.lookoutBad_spec (s : State) :
    s.lookoutBad.rdF Reg.PAIR_LOOKOUT_COUNT 15 0 = satInc 16 (s.rdF Reg.PAIR_LOOKOUT_COUNT 15 0) ∧
    s.lookoutBad.bit (Reg.INT_STATUS Reg.pagePAIR) 12 = true ∧
    s.regsBut s.lookoutBad ([Reg.PAIR_LOOKOUT_COUNT, Reg.INT_STATUS Reg.pagePAIR] ++ tallyKeys) ∧
    s.Agree [.mgmt] s.lookoutBad := by
  refine ⟨?_, ?_, fun k hk => ?_, ?_⟩
  · rw [State.lookoutBad, State.rdF_of_rd_eq (State.rd_tally_of_notMem _ _ _ _ _ _ (by decide)),
      State.rdF_of_rd_eq (State.rd_intSet_of_ne _ _ (by decide)), State.countF,
      State.rdF_wrF_same _ _ _ _ _ (by decide) (by decide)]
    exact Nat.mod_eq_of_lt (satInc_lt 16 _)
  · rw [State.lookoutBad, State.bit_of_rd_eq (State.rd_tally_of_notMem _ _ _ _ _ _ (by decide)),
      State.bit_intSet _ _ _ _ _ (by decide), if_pos ⟨rfl, rfl⟩]
  · simp only [List.mem_append, List.mem_cons, List.not_mem_nil, or_false, not_or] at hk
    obtain ⟨⟨hcount, hint⟩, htally⟩ := hk
    rw [State.lookoutBad, State.rd_tally_of_notMem _ _ _ _ _ _ htally, State.rd_intSet_of_ne _ _ hint, State.countF,
      State.rd_wrF_of_ne _ _ _ _ hcount]
  · rw [State.lookoutBad, State.agree_tally _ _ _ _ _ (by simp), State.agree_intSet, State.agree_countF]
    exact .refl s

/-! ## Records of the network path -/

theorem exec_netDigest {m : LookoutMsg} (hmode : s.pairMode = true) (htype : m.isType 0x11 = true) :
    exec (.tileDigestRecord (.net m)) s = if !s.lookoutOk m s.pair.partnerSeq then .next s.lookoutBad
      else if 8 ≤ m.field 40 1 then .next { s with pair := { s.pair with partnerSeq := some m.seq } }
      else .next (({ s with pair := { s.pair with partnerSeq := some m.seq } } : State).takeDigest (m.field 40 1) (m.field 44 4)
        (m.field 41 1 % 64) (m.field 48 4)) :=
  (if_neg (by simp [hmode])).trans (if_neg (by simp [htype]))

theorem netDigest_bad (m : LookoutMsg) (s : State) (hmode : s.pairMode = true) (htype : m.isType 0x11 = true)
    (hbad : s.lookoutOk m s.pair.partnerSeq = false) :
    ∃ u : State, exec (.tileDigestRecord (.net m)) s = .next u ∧
      u.rdF Reg.PAIR_LOOKOUT_COUNT 15 0 = satInc 16 (s.rdF Reg.PAIR_LOOKOUT_COUNT 15 0) ∧
      u.bit (Reg.INT_STATUS Reg.pagePAIR) 12 = true ∧
      s.regsBut u ([Reg.PAIR_LOOKOUT_COUNT, Reg.INT_STATUS Reg.pagePAIR] ++ tallyKeys) ∧
      { u with regs := s.regs, mgmt := s.mgmt } = s := by
  have hexec : exec (.tileDigestRecord (.net m)) s = .next s.lookoutBad := by
    rw [exec_netDigest hmode htype, hbad, Bool.not_false, if_pos rfl]
  obtain ⟨hcount, hint, hregs, hparts⟩ := s.lookoutBad_spec
  exact ⟨_, hexec, hcount, hint, hregs, State.Agree.revert_eq (ps := [.mgmt]) hparts⟩

theorem netDigest_agrees (m : LookoutMsg) (k : Nat) (s : State) (hmode : s.pairMode = true) (hlost : s.pair.lost = false)
    (htype : m.isType 0x11 = true) (hok : s.lookoutOk m s.pair.partnerSeq = true) (hplane : m.field 40 1 < 8)
    (hk : k = tileKey (m.field 40 1) (m.field 44 4) (m.field 41 1 % 64))
    (h : s.tileDigest k = none ∨ s.tileDigest k = some (m.field 48 4)) :
    ∃ u : State, exec (.tileDigestRecord (.net m)) s = .next u ∧
      u.partnerDigest k = some (m.field 48 4) ∧ u.tileDigest k = s.tileDigest k ∧
      (∀ j, j ≠ k → u.partnerDigest j = s.partnerDigest j) ∧ u.pair = { s.pair with partnerSeq := some m.seq } ∧
      { u with job := s.job, pair := s.pair } = s := by
  obtain ⟨w, hw⟩ : ∃ w : State, w = { s with pair := { s.pair with partnerSeq := some m.seq } } := ⟨_, rfl⟩
  have hexec : exec (.tileDigestRecord (.net m)) s = .next (w.digestHeld k (m.field 48 4)) := by
    rw [exec_netDigest hmode htype, hok, Bool.not_true, if_neg (by simp), if_neg (by omega), ← hw]
    refine congrArg Host.Outcome.next (State.takeDigest_of_agreeing ?_ hk ?_)
    · rw [hw]
      exact hlost
    · rw [hw]
      exact h
  subst hw
  exact ⟨_, hexec, State.partnerDigest_digestHeld k _, rfl, fun j => State.partnerDigest_digestHeld_other _, rfl, rfl⟩

end

/-- Settles O20: requests for a handover or a retirement, one proof for both, and the partner's digest records. -/
theorem changeCommands : Obligations.ChangeCommands := by
  unfold Obligations.ChangeCommands
  refine ⟨fun src s hcut => changeRequest_single (retire := false) hcut,
    fun src s hcut => changeRequest_pending (retire := false) hcut,
    fun src s hcut => changeRequest_alone (retire := false) hcut,
    fun src s hcut => changeRequest_leader (retire := false) hcut,
    fun src s hcut => changeRequest_follower (retire := false) hcut,
    fun src s hcut => changeRequest_single (retire := true) hcut,
    fun src s hcut => changeRequest_pending (retire := true) hcut,
    fun src s hcut => changeRequest_alone (retire := true) hcut,
    fun src s hcut => changeRequest_leader (retire := true) hcut,
    fun src s hcut => changeRequest_follower (retire := true) hcut, ?_, ?_, peerDigest_agrees, peerDigest_differs,
    netDigest_bad, netDigest_agrees⟩
  · intro r s hmode
    exact if_pos (by simp [hmode])
  · intro plane row col crc s hlost
    by_cases hmode : s.pairMode = true
    · rw [exec_peerDigest hmode]
      exact congrArg Host.Outcome.next (if_pos hlost)
    · exact if_pos (by simp [hmode])

end Sys2Proof.Machine
end

section
/-! Writes at the table apertures (R57, R58, R153, R272, R334). -/

namespace Sys2Proof.Machine

section
variable {s : State} {src : Req} {a data k : Nat}

/-! ## Where a write goes -/

theorem exec_apertureWrite (hup : s.bar0Down src a = false) (hspot : s.spot src a = .table a) :
    exec (.apertureWrite src a data) s = .next (s.tableStore src a data) := by
  refine congrArg Host.Outcome.next ((if_neg (by simp [hup])).trans ?_)
  rw [hspot]

theorem State.writeGate_of_single (h : s.pairMode = false) : s.writeGate src = none := if_pos (by simp [h])

theorem State.targetWrite_of_free {action x : Nat} {f : State → State} (hsingle : s.pairMode = false)
    (hfree : s.targetBusy action x = false) : s.targetWrite src a action x f = f s := by
  unfold State.targetWrite
  rw [State.writeGate_of_single hsingle]
  exact if_neg (by simp [hfree])

theorem State.targetWrite_of_busy {action x : Nat} {f : State → State} (hsingle : s.pairMode = false)
    (hbusy : s.targetBusy action x = true) : s.targetWrite src a action x f = s.tableErr src a 0xC := by
  unfold State.targetWrite
  rw [State.writeGate_of_single hsingle]
  exact if_pos hbusy

/-- Outside a pair a table write is not forwarded. -/
theorem State.tableWrite_of_single {t k v : Nat} (hsingle : s.pairMode = false) : s.tableWrite t k v = s.putTable t k v :=
  if_neg (by
    have h : (s.putTable t k v).pairMode = false := hsingle
    simp [h])

theorem State.tableWrite_two {t k v w : Nat} (hsingle : s.pairMode = false) :
    (s.tableWrite t k v).tableWrite t (k + 1) w = (s.putTable t k v).putTable t (k + 1) w := by
  rw [State.tableWrite_of_single hsingle]
  exact State.tableWrite_of_single hsingle

/-! ## What a table then reads -/

theorem fld_low (v : Nat) : fld v 15 0 = v % 2 ^ 16 := by simp [fld]

theorem fld_high (v : Nat) : fld v 31 16 = v / 2 ^ 16 % 2 ^ 16 := rfl

theorem twoOf_smSet (d : Nat → Nat) (m : SMap Nat) (k v w : Nat) :
    twoOf (smGet d (smSet d (smSet d m k v) (k + 1) w)) k = v + w * 65536 := by
  unfold twoOf
  rw [smGet_smSet_same, smGet_smSet_ne _ _ _ _ _ (by omega), smGet_smSet_same]

/-- What a word of an aperture reads. -/
def State.wordRead (s : State) : TableWord → Nat
  | .nozzle k => smGet nozzleReset s.scr.target.nozzle k
  | .nozzleActive k => smGet nozzleReset s.scr.active.nozzle k
  | .thr k => twoOf (smGet zeroReset s.scr.thr) k
  | .tone k => twoOf (smGet toneReset s.scr.target.tone) k
  | .dmap c => s.scr.target.dmapAt c
  | .kerf k => smGet zeroReset s.scr.target.kerf k
  | .isp x w => ispWord s.cam.target x w
  | .curve k => twoOf (smGet curveReset s.lamp.curves) k
  | .bin k => smGet binReset s.lamp.bins k
  | .reserved => 0

theorem tableRead_of_word {w : TableWord} (h : tableWord a = w) : s.tableRead a = s.wordRead w := by
  unfold State.tableRead
  rw [h]
  cases w <;> rfl

/-! ## The TARGET bank -/

theorem apertureWrite_nozzle (hup : s.bar0Down src a = false) (hspot : s.spot src a = .table a)
    (hword : tableWord a = .nozzle k) (hsingle : s.pairMode = false) (hfree : s.targetBusy 1 (k / 6144) = false) :
    ∃ u : State, exec (.apertureWrite src a data) s = .next u ∧
      u.tableRead a = data % 2 ^ 24 ∧
      (∀ j, j ≠ k → smGet nozzleReset u.scr.target.nozzle j = smGet nozzleReset s.scr.target.nozzle j) ∧
      u.scr.active = s.scr.active ∧ { u with scr := s.scr } = s := by
  have hexec : exec (.apertureWrite src a data) s = .next (s.putTable 0 k (data % 2 ^ 24)) := by
    rw [exec_apertureWrite hup hspot, State.tableStore, hword]
    dsimp only
    rw [State.targetWrite_of_free hsingle hfree, State.tableWrite_of_single hsingle]
  refine ⟨_, hexec, ?_, fun j hj => ?_, rfl, rfl⟩
  · rw [tableRead_of_word hword]
    exact smGet_smSet_same nozzleReset s.scr.target.nozzle k _
  · exact smGet_smSet_ne nozzleReset s.scr.target.nozzle k j _ hj

theorem apertureWrite_tone (hup : s.bar0Down src a = false) (hspot : s.spot src a = .table a)
    (hword : tableWord a = .tone k) (hsingle : s.pairMode = false) (hfree : s.targetBusy 2 (k / 256) = false) :
    ∃ u : State, exec (.apertureWrite src a data) s = .next u ∧
      u.tableRead a = data % 2 ^ 16 % 4096 + data / 2 ^ 16 % 4096 * 65536 ∧ u.scr.active = s.scr.active ∧
      { u with scr := s.scr } = s := by
  have hexec : exec (.apertureWrite src a data) s =
      .next ((s.putTable 1 k (fld data 15 0 % 4096)).putTable 1 (k + 1) (fld data 31 16 % 4096)) := by
    rw [exec_apertureWrite hup hspot, State.tableStore, hword]
    dsimp only
    rw [State.targetWrite_of_free hsingle hfree, State.tableWrite_two hsingle]
  refine ⟨_, hexec, ?_, rfl, rfl⟩
  rw [tableRead_of_word hword]
  refine (twoOf_smSet toneReset s.scr.target.tone k _ _).trans ?_
  rw [fld_low, fld_high]
  omega

theorem apertureWrite_dmap (hup : s.bar0Down src a = false) (hspot : s.spot src a = .table a)
    (hword : tableWord a = .dmap k) (hsingle : s.pairMode = false) (hfree : s.targetBusy 3 k = false) :
    ∃ u : State, exec (.apertureWrite src a data) s = .next u ∧
      u.tableRead a = data &&& 0x77777777 ∧ u.scr.active = s.scr.active ∧ { u with scr := s.scr } = s := by
  have hexec : exec (.apertureWrite src a data) s = .next (s.putTable 2 k (data &&& 0x77777777)) := by
    rw [exec_apertureWrite hup hspot, State.tableStore, hword]
    dsimp only
    rw [State.targetWrite_of_free hsingle hfree, State.tableWrite_of_single hsingle]
  refine ⟨_, hexec, ?_, rfl, rfl⟩
  rw [tableRead_of_word hword]
  exact smGet_smSet_same dmapReset s.scr.target.dmap k _

theorem apertureWrite_kerf (hup : s.bar0Down src a = false) (hspot : s.spot src a = .table a)
    (hword : tableWord a = .kerf k) (hsingle : s.pairMode = false) (hfree : s.targetBusy 6 (k / 6144) = false) :
    ∃ u : State, exec (.apertureWrite src a data) s = .next u ∧
      u.tableRead a = data % 2 ^ 32 ∧ u.scr.active = s.scr.active ∧ { u with scr := s.scr } = s := by
  have hexec : exec (.apertureWrite src a data) s = .next (s.putTable 3 k (data % 2 ^ 32)) := by
    rw [exec_apertureWrite hup hspot, State.tableStore, hword]
    dsimp only
    rw [State.targetWrite_of_free hsingle hfree, State.tableWrite_of_single hsingle]
  refine ⟨_, hexec, ?_, rfl, rfl⟩
  rw [tableRead_of_word hword]
  exact smGet_smSet_same zeroReset s.scr.target.kerf k _

/-! ## The lamp tables and the ISP tables -/

theorem apertureWrite_curve (hup : s.bar0Down src a = false) (hspot : s.spot src a = .table a)
    (hword : tableWord a = .curve k) :
    ∃ u : State, exec (.apertureWrite src a data) s = .next u ∧
      u.tableRead a = data % 2 ^ 32 ∧ { u with lamp := s.lamp } = s := by
  have hexec := exec_apertureWrite (data := data) hup hspot
  rw [State.tableStore, hword] at hexec
  refine ⟨_, hexec, ?_, rfl⟩
  rw [tableRead_of_word hword]
  refine (twoOf_smSet curveReset s.lamp.curves k _ _).trans ?_
  rw [fld_low, fld_high]
  omega

theorem apertureWrite_bin (hup : s.bar0Down src a = false) (hspot : s.spot src a = .table a)
    (hword : tableWord a = .bin k) :
    ∃ u : State, exec (.apertureWrite src a data) s = .next u ∧
      u.tableRead a = data % 2 ^ 16 ∧ { u with lamp := s.lamp } = s := by
  have hexec := exec_apertureWrite (data := data) hup hspot
  rw [State.tableStore, hword] at hexec
  refine ⟨_, hexec, ?_, rfl⟩
  rw [tableRead_of_word hword, ← fld_low]
  exact smGet_smSet_same binReset s.lamp.bins k _

theorem apertureWrite_isp {x w : Nat} (hup : s.bar0Down src a = false) (hspot : s.spot src a = .table a)
    (hword : tableWord a = .isp x w) (hsync : s.bit (Reg.ISPCTX_TABLE_STATE x) 0 = false) :
    ∃ u : State, exec (.apertureWrite src a data) s = .next u ∧
      u.tableRead a = data % 2 ^ 32 ∧ { u with cam := s.cam } = s := by
  have hexec := exec_apertureWrite (data := data) hup hspot
  rw [State.tableStore, hword] at hexec
  refine ⟨_, hexec.trans (congrArg Host.Outcome.next (if_neg (by simp [hsync]))), ?_, rfl⟩
  rw [tableRead_of_word hword]
  exact smGet_smSet_same ispTableReset s.cam.target (x * 8192 + w) _

/-! ## Refused writes -/

theorem State.tableErr_eq {code : Nat} (h : ¬ (code = 3 ∨ code = 4)) :
    s.tableErr src a code = s.errAt Reg.pageSYS code a src := if_neg (fun hc => h hc.2)

theorem apertureWrite_busy (hup : s.bar0Down src a = false) (hspot : s.spot src a = .table a)
    (hword : tableWord a = .nozzle k) (hsingle : s.pairMode = false) (hbusy : s.targetBusy 1 (k / 6144) = true) :
    ∃ u : State, exec (.apertureWrite src a data) s = .next u ∧
      s.errored u Reg.pageSYS 0xC a (srcCode src) ∧
      u.bit (Reg.INT_STATUS Reg.pageSYS) 9 = s.bit (Reg.INT_STATUS Reg.pageSYS) 9 ∧
      s.regsBut u (errorKeys Reg.pageSYS) ∧ { u with regs := s.regs } = s := by
  have hexec : exec (.apertureWrite src a data) s = .next (s.errAt Reg.pageSYS 0xC a src) := by
    rw [exec_apertureWrite hup hspot, State.tableStore, hword]
    dsimp only
    rw [State.targetWrite_of_busy hsingle hbusy, State.tableErr_eq (by decide)]
  refine ⟨_, hexec, s.errored_errAt _ _ _ _ (by decide), ?_, s.regsBut_error _ _ _ _, s.error_frame _ _ _ _⟩
  unfold State.bit
  rw [State.errAt, State.rd_error_intStatus _ _ _ _ rfl, bitOf_putB, if_neg (by decide)]

theorem apertureWrite_active (hup : s.bar0Down src a = false) (hspot : s.spot src a = .table a)
    (hword : tableWord a = .nozzleActive k) :
    ∃ u : State, exec (.apertureWrite src a data) s = .next u ∧
      s.errored u Reg.pageSYS 5 a (srcCode src) ∧ s.regsBut u (errorKeys Reg.pageSYS) ∧ { u with regs := s.regs } = s := by
  refine State.refused_errAt (by decide) ((exec_apertureWrite hup hspot).trans ?_)
  rw [State.tableStore, hword]
  exact congrArg Host.Outcome.next (State.tableErr_eq (by decide))

/-! ## The threshold arrays -/

theorem tableWord_thr (hlo : 0xC00000 ≤ a) (hhi : a < 0xD00000) : tableWord a = .thr ((a - 0xC00000) / 4 * 2) :=
  (if_neg (by omega)).trans ((if_neg (by omega)).trans (if_pos hhi))

theorem exec_thresholdWrite (hup : s.bar0Down src a = false) (hspot : s.spot src a = .table a) (hlo : 0xC00000 ≤ a)
    (hhi : a < 0xD00000) (hsingle : s.pairMode = false) (hk : k = (a - 0xC00000) / 4 * 2) :
    exec (.thresholdWrite src a data) s = .next (if s.runSt ≠ 0 then s.accessErr (Reg.pagePLANE (k / 65536)) 0x0101 a src
      else (s.putTable 4 k (fld data 15 0 % 4096)).putTable 4 (k + 1) (fld data 31 16 % 4096)) := by
  refine (if_pos ⟨hlo, hhi⟩).trans ((exec_apertureWrite hup hspot).trans (congrArg Host.Outcome.next ?_))
  unfold State.tableStore
  rw [tableWord_thr hlo hhi, ← hk]
  dsimp only
  rw [State.writeGate_of_single hsingle, State.tableWrite_two hsingle]

theorem thresholdWrite_idle (hup : s.bar0Down src a = false) (hspot : s.spot src a = .table a) (hlo : 0xC00000 ≤ a)
    (hhi : a < 0xD00000) (hsingle : s.pairMode = false) (hk : k = (a - 0xC00000) / 4 * 2) (hrun : s.runSt = 0) :
    ∃ u : State, exec (.thresholdWrite src a data) s = .next u ∧
      u.tableRead a = data % 2 ^ 16 % 4096 + data / 2 ^ 16 % 4096 * 65536 ∧ u.scr.target = s.scr.target ∧
      u.scr.active = s.scr.active ∧
      (∀ j, j ≠ k → j ≠ k + 1 → smGet zeroReset u.scr.thr j = smGet zeroReset s.scr.thr j) ∧
      { u with scr := s.scr } = s := by
  have hexec := exec_thresholdWrite (data := data) hup hspot hlo hhi hsingle hk
  rw [if_neg (by simp [hrun])] at hexec
  refine ⟨_, hexec, ?_, rfl, rfl, fun j hj hj' => ?_, rfl⟩
  · rw [tableRead_of_word (tableWord_thr hlo hhi), ← hk]
    refine (twoOf_smSet zeroReset s.scr.thr k _ _).trans ?_
    rw [fld_low, fld_high]
    omega
  · exact (smGet_smSet_ne zeroReset _ (k + 1) j _ hj').trans (smGet_smSet_ne zeroReset s.scr.thr k j _ hj)

theorem thresholdWrite_running (hup : s.bar0Down src a = false) (hspot : s.spot src a = .table a) (hlo : 0xC00000 ≤ a)
    (hhi : a < 0xD00000) (hsingle : s.pairMode = false) (hk : k = (a - 0xC00000) / 4 * 2) (hrun : s.runSt ≠ 0) :
    ∃ u : State, exec (.thresholdWrite src a data) s = .next u ∧
      s.errored u (Reg.pagePLANE (k / 65536)) 0x0101 a (srcCode src) ∧
      s.regsBut u (errorKeys (Reg.pagePLANE (k / 65536))) ∧ { u with regs := s.regs } = s := by
  have hsys : Reg.pagePLANE (k / 65536) ≠ Reg.pageSYS := by
    simp only [Reg.pagePLANE, Reg.pageSYS]
    omega
  have hheader : headerPage (Reg.pagePLANE (k / 65536)) = Reg.pagePLANE (k / 65536) := if_neg (by
    simp only [Reg.pagePLANE]
    omega)
  refine State.refused_errAt (by decide) ((exec_thresholdWrite hup hspot hlo hhi hsingle hk).trans
    (congrArg Host.Outcome.next ((if_pos hrun).trans ((State.accessErr_eq hsys).trans ?_))))
  exact congrArg (fun p => s.errAt p 0x0101 a src) hheader

end

/-- Settles O17: a write of each aperture, and the writes that are refused. -/
theorem apertureCommands : Obligations.ApertureCommands := by
  unfold Obligations.ApertureCommands
  exact ⟨fun _ _ _ _ _ => apertureWrite_nozzle, fun _ _ _ _ _ => apertureWrite_tone, fun _ _ _ _ _ => apertureWrite_dmap,
    fun _ _ _ _ _ => apertureWrite_kerf, fun _ _ _ _ _ => apertureWrite_curve, fun _ _ _ _ _ => apertureWrite_bin,
    fun _ _ _ _ _ _ => apertureWrite_isp, fun _ _ _ _ _ => apertureWrite_busy, fun _ _ _ _ _ => apertureWrite_active,
    fun _ _ _ _ _ => thresholdWrite_idle, fun _ _ _ _ _ => thresholdWrite_running⟩

end Sys2Proof.Machine
end

section
/-! The head lanes: what the changes of a lane's state reach (R184, R185). -/

namespace Sys2Proof.Machine

theorem tallyKeys_subset_moduleKeys : tallyKeys ⊆ moduleKeys := by simp [tallyKeys, moduleKeys]

section
variable (s : State)

/-! ## The state of the module -/

@[simp] theorem State.rd_setModule_of_notMem {k : Nat} (st : Nat) (h : k ∉ moduleKeys) : (s.setModule st).rd k = s.rd k := by
  simp only [mem_moduleKeys, not_or] at h
  obtain ⟨hstate, hstatus, hint, hdropped, htally⟩ := h
  unfold State.setModule
  dsimp only
  split_ifs
  · rfl
  · rw [State.rd_tally_of_notMem, State.rd_intSet_of_ne _ _ hint, State.rd_setStCode_of_ne _ _ hstatus,
      s.rd_wr_of_ne _ hstate]
    simp only [mem_tallyKeys, hdropped, htally, or_self, not_false_eq_true]

@[simp] theorem State.rd_showSilent_of_ne {k : Nat} (h : k ≠ Reg.PAIR_PAIR_STATUS) : s.showSilent.rd k = s.rd k := by
  unfold State.showSilent
  split
  · exact s.rd_wrB_of_ne _ _ h
  · rfl

@[simp] theorem State.rd_reCondition_of_notMem {k : Nat} (h : k ∉ moduleKeys) : s.reCondition.rd k = s.rd k := by
  unfold State.reCondition
  split_ifs
  · exact s.rd_setModule_of_notMem _ h
  · exact s.rd_setModule_of_notMem _ h
  · rfl

@[simp] theorem mem_laneKeys (c k : Nat) : k ∈ laneKeys c ↔ k = Reg.CH_LINK_STATUS c ∨ k = Reg.STATUS (Reg.pageCH c) ∨
    k = Reg.INT_STATUS (Reg.pageCH c) ∨ k = Reg.PAIR_PAIR_STATUS := by simp [laneKeys]

variable {s} {t : State} {ps : List Part}

@[simp] theorem State.agree_setModule (st : Nat) (h : .mgmt ∈ ps) : s.Agree ps (t.setModule st) ↔ s.Agree ps t := by
  simp [State.setModule, h]

@[simp] theorem State.agree_showSilent : s.Agree ps t.showSilent ↔ s.Agree ps t := by
  simp [State.showSilent]

@[simp] theorem State.agree_reCondition (h : .mgmt ∈ ps) : s.Agree ps t.reCondition ↔ s.Agree ps t := by
  simp [State.reCondition, h]

@[simp] theorem State.agree_setLaneSt (c st : Nat) (h : .mgmt ∈ ps) : s.Agree ps (t.setLaneSt c st) ↔ s.Agree ps t := by
  simp [State.setLaneSt, h]

end

section
variable (s : State) (c : Nat)

@[simp] theorem State.rd_setLaneSt_of_notMem {k : Nat} (st : Nat) (h : k ∉ laneKeys c) (h' : k ∉ moduleKeys) :
    (s.setLaneSt c st).rd k = s.rd k := by
  have hl := h
  simp only [mem_laneKeys, not_or] at hl
  obtain ⟨hlink, hstatus, hint, hpair⟩ := hl
  simp only [State.setLaneSt, State.rd_reCondition_of_notMem _ h', State.rd_showSilent_of_ne _ hpair,
    State.rd_fault_of_ne _ _ hstatus hint, State.rd_degraded_of_ne _ _ hstatus, State.rd_ready_of_ne _ _ hstatus,
    State.rd_setStCode_of_ne _ _ hstatus, State.rd_wrF_of_ne _ _ _ _ hlink]

theorem linkStatus_ne_chStatus (c : Nat) : Reg.CH_LINK_STATUS c ≠ Reg.STATUS (Reg.pageCH c) := by
  simp only [Reg.CH_LINK_STATUS, Reg.STATUS, Reg.pageCH]; omega
theorem linkStatus_ne_chInt (c : Nat) : Reg.CH_LINK_STATUS c ≠ Reg.INT_STATUS (Reg.pageCH c) := by
  simp only [Reg.CH_LINK_STATUS, Reg.INT_STATUS, Reg.pageCH]; omega
theorem linkStatus_ne_taps (c : Nat) : Reg.CH_LINK_STATUS c ≠ Reg.CH_TX_TAPS c := by
  simp only [Reg.CH_LINK_STATUS, Reg.CH_TX_TAPS]; omega
theorem linkStatus_ne_pairStatus {c : Nat} (hc : c < 128) : Reg.CH_LINK_STATUS c ≠ Reg.PAIR_PAIR_STATUS := by
  simp only [Reg.CH_LINK_STATUS, Reg.PAIR_PAIR_STATUS]; omega
theorem chPage_notMem_moduleKeys {k c : Nat} (h : 0x20000 + 0x1000 * c ≤ k) (h' : k < 0x21000 + 0x1000 * c) (hc : c < 128) :
    k ∉ moduleKeys := by
  simp only [mem_moduleKeys, Reg.SYS_MODULE_STATE, Reg.STATUS, Reg.INT_STATUS, Reg.pageSYS, Reg.TALLY_DROPPED, Reg.pageTALLY]
  omega
theorem linkStatus_notMem_moduleKeys {c : Nat} (hc : c < 128) : Reg.CH_LINK_STATUS c ∉ moduleKeys :=
  chPage_notMem_moduleKeys (c := c) (by simp only [Reg.CH_LINK_STATUS]; omega) (by simp only [Reg.CH_LINK_STATUS]; omega) hc

/-- LINK_STATUS.STATE takes the new state; the rest of LINK_STATUS stays. -/
theorem State.rd_setLaneSt_linkStatus (st : Nat) (hc : c < 128) :
    (s.setLaneSt c st).rd (Reg.CH_LINK_STATUS c) = putFld (s.rd (Reg.CH_LINK_STATUS c)) 3 0 st := by
  unfold State.setLaneSt
  dsimp only
  rw [State.rd_reCondition_of_notMem _ (linkStatus_notMem_moduleKeys hc), State.rd_showSilent_of_ne _ (linkStatus_ne_pairStatus hc),
    State.rd_fault_of_ne _ _ (linkStatus_ne_chStatus c) (linkStatus_ne_chInt c),
    State.rd_degraded_of_ne _ _ (linkStatus_ne_chStatus c), State.rd_ready_of_ne _ _ (linkStatus_ne_chStatus c),
    State.rd_setStCode_of_ne _ _ (linkStatus_ne_chStatus c), State.rd_wrF_same _ _ _ (by decide) (by decide)]

theorem State.laneSt_setLaneSt {st : Nat} (hc : c < 128) (hst : st < 16) : (s.setLaneSt c st).laneSt c = st := by
  unfold State.laneSt State.rdF
  rw [s.rd_setLaneSt_linkStatus c st hc, fld_putFld_same _ _ _ _ (by decide)]
  exact Nat.mod_eq_of_lt hst

@[simp] theorem State.setLaneSt_out (st : Nat) : (s.setLaneSt c st).out = s.out :=
  (State.agree_setLaneSt (ps := [.mgmt]) c st (by simp)).2 (.refl s) .out (by simp)

@[simp] theorem State.setLaneSt_lanes (st : Nat) : (s.setLaneSt c st).lanes = s.lanes :=
  (State.agree_setLaneSt (ps := [.mgmt]) c st (by simp)).2 (.refl s) .lanes (by simp)

@[simp] theorem State.lane_setLaneSt (st d : Nat) : (s.setLaneSt c st).lane d = s.lane d := by
  simp [State.lane]

@[simp] theorem State.lane_modLane_same (f : Lane → Lane) : (s.modLane c f).lane c = f (s.lane c) :=
  smGet_smSet_same _ _ _ _

@[simp] theorem State.lane_emit (o : Out) (d : Nat) : (s.emit o).lane d = s.lane d := rfl
@[simp] theorem State.lane_wr (a v d : Nat) : (s.wr a v).lane d = s.lane d := rfl
@[simp] theorem State.lane_wrF (a hi lo v d : Nat) : (s.wrF a hi lo v).lane d = s.lane d := rfl
@[simp] theorem State.lane_wrB (a i : Nat) (b : Bool) (d : Nat) : (s.wrB a i b).lane d = s.lane d := rfl
@[simp] theorem State.lane_count (a d : Nat) : (s.count a).lane d = s.lane d := rfl
@[simp] theorem State.lane_intSet (p i d : Nat) : (s.intSet p i).lane d = s.lane d := rfl
@[simp] theorem State.modLane_out (f : Lane → Lane) : (s.modLane c f).out = s.out := rfl

/-! ## Entry to DETECT and to TRAIN -/

theorem State.rd_enterDetect_linkStatus (hc : c < 128) : (s.enterDetect c).rd (Reg.CH_LINK_STATUS c) =
    putFld (putB (putB (putFld (s.rd (Reg.CH_LINK_STATUS c)) 19 16 0) 6 false) 7 false) 3 0 1 := by
  unfold State.enterDetect State.setPending State.setBlockLock State.setAttempt
  dsimp only
  rw [State.rd_setLaneSt_linkStatus _ _ _ hc, State.rd_emit, State.rd_modLane, State.rd_wrB_same _ _ _ (by decide),
    State.rd_wrB_same _ _ _ (by decide), State.rd_wrF_same _ _ _ (by decide) (by decide)]

theorem State.regsBut_enterDetect : s.regsBut (s.enterDetect c) (laneKeys c ++ moduleKeys) := by
  intro k hk
  simp only [List.mem_append, not_or] at hk
  obtain ⟨hlane, hmodule⟩ := hk
  rw [State.enterDetect, State.rd_setLaneSt_of_notMem _ _ _ hlane hmodule]
  simp only [mem_laneKeys, not_or] at hlane
  simp -implicitDefEqProofs [State.setPending, State.setBlockLock, State.setAttempt, hlane]

@[simp] theorem State.agree_enterDetect {s t : State} {ps : List Part} (hl : .lanes ∈ ps) (ho : .out ∈ ps)
    (hm : .mgmt ∈ ps) : s.Agree ps (t.enterDetect c) ↔ s.Agree ps t := by
  simp -implicitDefEqProofs [State.enterDetect, State.setPending, State.setBlockLock, State.setAttempt, hl, ho, hm]

theorem State.lane_enterDetect : (s.enterDetect c).lane c = { s.lane c with
    present := 0, absent := 0, detectFrc := s.frc, train := {},
    rateIdle := false, rateUp := false, held := false, heldPair := false, asked := none, rxScr := none, idles := 0 } := by
  simp -implicitDefEqProofs [State.enterDetect, State.setPending, State.setBlockLock, State.setAttempt]

theorem State.out_enterDetect : (s.enterDetect c).out = s.out ++ [.electricalIdle c] := by
  simp -implicitDefEqProofs [State.enterDetect, State.setPending, State.setBlockLock, State.setAttempt]

/-- Training frames leave the registers alone. -/
@[simp] theorem State.rd_sendTraining (k : Nat) : (s.sendTraining c).rd k = s.rd k := by
  simp -implicitDefEqProofs [State.sendTraining]

@[simp] theorem State.agree_sendTraining {s t : State} {ps : List Part} (hl : .lanes ∈ ps) (ho : .out ∈ ps) :
    s.Agree ps (t.sendTraining c) ↔ s.Agree ps t := by
  simp -implicitDefEqProofs [State.sendTraining, hl, ho]

@[simp] theorem State.lane_sendTraining : (s.sendTraining c).lane c = { s.lane c with prbs := some (s.trainSegment c).1 } := by
  simp -implicitDefEqProofs [State.sendTraining]

theorem State.trainField_sendTraining : (s.sendTraining c).trainField c = s.trainField c := by
  simp -implicitDefEqProofs [State.trainField, State.laneHalf, State.rdF, State.bit]

theorem State.out_sendTraining : (s.sendTraining c).out
    = s.out ++ [.training c (trainingUi ((s.sendTraining c).trainField c) (s.trainSegment c).2)] := by
  rw [s.trainField_sendTraining c]
  simp -implicitDefEqProofs only [State.sendTraining, State.emit_out, State.modLane_out]

/-- The PRBS11 of a lane runs on through everything but training frames. -/
theorem State.trainSegment_congr {s t : State} {c : Nat} (h : (t.lane c).prbs = (s.lane c).prbs) :
    t.trainSegment c = s.trainSegment c := by
  unfold State.trainSegment
  rw [h]

theorem State.rd_beginAttempt_linkStatus : (s.beginAttempt c).rd (Reg.CH_LINK_STATUS c) =
    putB (putFld (s.rd (Reg.CH_LINK_STATUS c)) 19 16 (min 15 (s.attempt c + 1))) 5 false := by
  unfold State.beginAttempt State.setAttempt
  dsimp only
  rw [State.rd_sendTraining, State.rd_modLane, State.rd_wrB_same _ _ _ (by decide), State.rd_wr_of_ne _ _ (linkStatus_ne_taps c),
    State.rd_wrF_same _ _ _ (by decide) (by decide)]

theorem State.rd_beginAttempt_taps : (s.beginAttempt c).rd (Reg.CH_TX_TAPS c) = tapsWord 2 6 := by
  unfold State.beginAttempt State.setAttempt
  dsimp only
  rw [State.rd_sendTraining, State.rd_modLane, State.rd_wrB_of_ne _ _ _ (linkStatus_ne_taps c).symm, State.rd_wr_same]
  rfl

theorem State.rd_beginAttempt_of_ne {k : Nat} (h : k ≠ Reg.CH_LINK_STATUS c) (h' : k ≠ Reg.CH_TX_TAPS c) :
    (s.beginAttempt c).rd k = s.rd k := by
  simp -implicitDefEqProofs only [State.beginAttempt, State.rd_sendTraining, State.rd_modLane, State.rd_wrB_of_ne _ _ _ h,
    State.rd_wr_of_ne _ _ h', State.setAttempt, State.rd_wrF_of_ne _ _ _ _ h]

@[simp] theorem State.agree_beginAttempt {s t : State} {ps : List Part} (hl : .lanes ∈ ps) (ho : .out ∈ ps) :
    s.Agree ps (t.beginAttempt c) ↔ s.Agree ps t := by
  simp -implicitDefEqProofs [State.beginAttempt, State.setAttempt, hl, ho]

theorem State.rateIdle_beginAttempt : ((s.beginAttempt c).lane c).rateIdle = false := by
  simp -implicitDefEqProofs [State.beginAttempt, State.setAttempt]

theorem State.out_beginAttempt : (s.beginAttempt c).out
    = s.out ++ [.training c (trainingUi ((s.beginAttempt c).trainField c) (s.trainSegment c).2)] := by
  rw [State.beginAttempt, State.out_sendTraining, State.trainSegment_congr (s := s)]
  · simp -implicitDefEqProofs only [State.setAttempt, State.modLane_out, State.wrB_out, State.wr_out, State.wrF_out]
  · simp -implicitDefEqProofs [State.setAttempt]

end

end Sys2Proof.Machine
end

section
/-! Receiver detect and training of the head lanes (R183 to R194): what each command brings in the states it belongs
to. -/

namespace Sys2Proof.Machine

section
variable (s : State) (c : Nat)

/-! ## Entry to TRAIN -/

theorem chPage_notMem_laneKeys {k c : Nat} (h : k < 0x21000 + 0x1000 * c) (h' : 0x20020 + 0x1000 * c ≤ k) (hc : c < 128)
    (hk : k ≠ Reg.CH_LINK_STATUS c) : k ∉ laneKeys c := by
  simp only [mem_laneKeys, not_or]
  refine ⟨hk, ?_, ?_, ?_⟩ <;>
    simp only [Reg.STATUS, Reg.INT_STATUS, Reg.pageCH, Reg.PAIR_PAIR_STATUS] <;> omega

theorem State.rd_enterTrain_linkStatus (hc : c < 128) : (s.enterTrain c).rd (Reg.CH_LINK_STATUS c) =
    putB (putFld (putFld (putB (putB (s.rd (Reg.CH_LINK_STATUS c)) 6 false) 7 false) 3 0 2) 19 16
      (min 15 (s.attempt c + 1))) 5 false := by
  have hrd : (((s.setBlockLock c false).setPending c false).setLaneSt c 2).rd (Reg.CH_LINK_STATUS c)
      = putFld (putB (putB (s.rd (Reg.CH_LINK_STATUS c)) 6 false) 7 false) 3 0 2 := by
    rw [State.rd_setLaneSt_linkStatus _ _ _ hc, State.setPending, State.rd_wrB_same _ _ _ (by decide),
      State.setBlockLock, State.rd_wrB_same _ _ _ (by decide)]
  have hattempt : (((s.setBlockLock c false).setPending c false).setLaneSt c 2).attempt c = s.attempt c := by
    unfold State.attempt State.rdF
    rw [hrd, fld_putFld_other _ _ _ _ _ _ (by decide) (.inr (by decide)), fld_putB_other _ _ _ _ _ (.inr (by decide)),
      fld_putB_other _ _ _ _ _ (.inr (by decide))]
  rw [State.enterTrain, State.rd_beginAttempt_linkStatus, hrd, hattempt]

theorem min15_lt (n : Nat) : min 15 n < 16 := by omega

theorem State.laneSt_enterTrain (hc : c < 128) : (s.enterTrain c).laneSt c = 2 := by
  unfold State.laneSt State.rdF
  rw [s.rd_enterTrain_linkStatus c hc, fld_putB_other _ _ _ _ _ (.inl (by decide)),
    fld_putFld_other _ _ _ _ _ _ (by decide) (.inl (by decide)), fld_putFld_same _ _ _ _ (by decide)]
  rfl

theorem State.attempt_enterTrain (hc : c < 128) : (s.enterTrain c).attempt c = min 15 (s.attempt c + 1) := by
  conv_lhs => unfold State.attempt State.rdF
  rw [s.rd_enterTrain_linkStatus c hc, fld_putB_other _ _ _ _ _ (.inr (by decide)), fld_putFld_same _ _ _ _ (by decide)]
  exact Nat.mod_eq_of_lt (min15_lt _)

theorem State.regsBut_enterTrain : s.regsBut (s.enterTrain c) (laneKeys c ++ moduleKeys ++ [Reg.CH_TX_TAPS c]) := by
  intro k hk
  simp only [List.mem_append, List.mem_singleton, not_or] at hk
  obtain ⟨⟨hlane, hmodule⟩, htaps⟩ := hk
  have hlink : k ≠ Reg.CH_LINK_STATUS c := fun h => hlane ((mem_laneKeys c k).2 (.inl h))
  rw [State.enterTrain, State.rd_beginAttempt_of_ne _ _ hlink htaps, State.rd_setLaneSt_of_notMem _ _ _ hlane hmodule,
    State.setPending, State.rd_wrB_of_ne _ _ _ hlink, State.setBlockLock, State.rd_wrB_of_ne _ _ _ hlink]

@[simp] theorem State.agree_enterTrain {s t : State} {ps : List Part} (hl : .lanes ∈ ps) (ho : .out ∈ ps)
    (hm : .mgmt ∈ ps) : s.Agree ps (t.enterTrain c) ↔ s.Agree ps t := by
  simp -implicitDefEqProofs [State.enterTrain, State.setPending, State.setBlockLock, hl, ho, hm]

/-! ## A new attempt -/

theorem State.laneSt_beginAttempt : (s.beginAttempt c).laneSt c = s.laneSt c := by
  unfold State.laneSt State.rdF
  rw [s.rd_beginAttempt_linkStatus c, fld_putB_other _ _ _ _ _ (.inl (by decide)),
    fld_putFld_other _ _ _ _ _ _ (by decide) (.inl (by decide))]

theorem State.attempt_beginAttempt : (s.beginAttempt c).attempt c = min 15 (s.attempt c + 1) := by
  conv_lhs => unfold State.attempt State.rdF
  rw [s.rd_beginAttempt_linkStatus c, fld_putB_other _ _ _ _ _ (.inr (by decide)), fld_putFld_same _ _ _ _ (by decide)]
  exact Nat.mod_eq_of_lt (min15_lt _)

theorem State.regsBut_beginAttempt : s.regsBut (s.beginAttempt c) [Reg.CH_LINK_STATUS c, Reg.CH_TX_TAPS c] := by
  intro k hk
  simp only [List.mem_cons, List.not_mem_nil, or_false, not_or] at hk
  exact s.rd_beginAttempt_of_ne c hk.1 hk.2

/-! ## DETECT from FAILED -/

theorem State.rd_redetect (hc : c < 128) : ((s.setHalf c (s.rateMaxHalf c)).enterDetect c).rd (Reg.CH_LINK_STATUS c) =
    putFld (putB (putB (putFld (putB (s.rd (Reg.CH_LINK_STATUS c)) 4 (s.rateMaxHalf c)) 19 16 0) 6 false) 7 false) 3 0 1 := by
  rw [State.rd_enterDetect_linkStatus _ _ hc, State.setHalf, State.rd_wrB_same _ _ _ (by decide)]

theorem State.redetect_facts (hc : c < 128) :
    ((s.setHalf c (s.rateMaxHalf c)).enterDetect c).laneSt c = 1 ∧
    ((s.setHalf c (s.rateMaxHalf c)).enterDetect c).laneHalf c = s.rateMaxHalf c ∧
    ((s.setHalf c (s.rateMaxHalf c)).enterDetect c).attempt c = 0 := by
  refine ⟨?_, ?_, ?_⟩
  · unfold State.laneSt State.rdF
    rw [s.rd_redetect c hc, fld_putFld_same _ _ _ _ (by decide)]
    rfl
  · unfold State.laneHalf State.bit
    rw [s.rd_redetect c hc, bitOf_putFld_other _ _ _ _ _ (by decide) (.inr (by decide)), bitOf_putB, if_neg (by decide), bitOf_putB,
      if_neg (by decide), bitOf_putFld_other _ _ _ _ _ (by decide) (.inl (by decide)), bitOf_putB, if_pos rfl]
  · unfold State.attempt State.rdF
    rw [s.rd_redetect c hc, fld_putFld_other _ _ _ _ _ _ (by decide) (.inr (by decide)), fld_putB_other _ _ _ _ _ (.inr (by decide)),
      fld_putB_other _ _ _ _ _ (.inr (by decide)), fld_putFld_same _ _ _ _ (by decide)]
    rfl

theorem State.regsBut_redetect : s.regsBut ((s.setHalf c (s.rateMaxHalf c)).enterDetect c) (laneKeys c ++ moduleKeys) := by
  intro k hk
  have hlink : k ≠ Reg.CH_LINK_STATUS c := fun h =>
    hk (List.mem_append_left _ ((mem_laneKeys c k).2 (.inl h)))
  rw [State.regsBut_enterDetect _ c k hk, State.setHalf, State.rd_wrB_of_ne _ _ _ hlink]

end

end Sys2Proof.Machine
end

section
/-! Receiver detect and training: what a training frame does (R187 to R193), and the commands. -/

namespace Sys2Proof.Machine

section
variable (s : State) (c : Nat)

/-! ## The SEQ last carried out stays through the search -/

theorem Training.doneSeq_advance (t : Training) : t.advance.doneSeq = t.doneSeq := by
  unfold Training.advance
  split_ifs <;> rfl

theorem Training.doneSeq_measured (t : Training) (e : Nat) : (t.measured e).doneSeq = t.doneSeq := by
  unfold Training.measured
  cases t.step with
  | none => exact Training.doneSeq_advance _
  | some step =>
    dsimp only
    by_cases hundo : t.undo = true
    · rw [if_pos hundo]; exact Training.doneSeq_advance _
    by_cases hstuck : t.stuck = true
    · rw [if_neg hundo, if_pos hstuck]; exact Training.doneSeq_advance _
    by_cases hkept : e ≥ t.best + 2
    · rw [if_neg hundo, if_neg hstuck, if_pos hkept]; exact Training.doneSeq_advance _
    · rw [if_neg hundo, if_neg hstuck, if_neg hkept]
      exact (apply_ite Training.doneSeq _ _ _).trans (ite_self _)

theorem Training.doneSeq_onFrame (t : Training) (field : Nat) (eye : Option Nat) : (t.onFrame field eye).doneSeq = t.doneSeq := by
  unfold Training.onFrame
  dsimp only
  split_ifs
  · rfl
  · rfl
  · rfl
  · rfl
  · cases eye with
    | none => rfl
    | some e => exact t.doneSeq_measured e

/-! ## The parts of a training step -/

/-- The registers of a training step before the answer: HEAD_TAPS and the head's figure. -/
def State.headReport (s : State) (c field : Nat) : State :=
  (s.wr (Reg.CH_HEAD_TAPS c) (fld field 44 40 + fld field 52 48 * 2 ^ 8)).wrF (Reg.CH_EYE c) 15 8 (fld field 39 32)

/-- The state of the lane in which the next training frame goes out. -/
def State.searched (s : State) (c field : Nat) (eye : Option Nat) : State :=
  (((s.headReport c field).respond c field).localEye c eye).modLane c (fun l => { l with
    train := (l.train.onFrame field eye).ready field eye ((((s.headReport c field).respond c field).localEye c eye).eyePass c) })

theorem State.trainStep_eq (field : Nat) (eye : Option Nat) : s.trainStep c field eye
    = ((s.searched c field eye).sendTraining c).enterLock c ∨
    s.trainStep c field eye = (s.searched c field eye).sendTraining c := ite_eq_or_eq _ _ _

/-- The registers that the answer to a frame reaches. -/
abbrev answerKeys (c : Nat) : List Nat := [Reg.CH_HEAD_TAPS c, Reg.CH_EYE c, Reg.CH_EYE_MIN c, Reg.CH_TX_TAPS c]

theorem State.rd_respond_of_ne {k : Nat} (field : Nat) (h : k ≠ Reg.CH_TX_TAPS c) : (s.respond c field).rd k = s.rd k := by
  unfold State.respond
  dsimp only
  split
  · rfl
  · rw [State.rd_modLane, State.rd_wr_of_ne _ _ h]

theorem State.rd_localEye_of_ne {k : Nat} (eye : Option Nat) (h : k ≠ Reg.CH_EYE c) (h' : k ≠ Reg.CH_EYE_MIN c) :
    (s.localEye c eye).rd k = s.rd k := by
  cases eye with
  | none => rfl
  | some e => rw [State.localEye, State.rd_wrF_of_ne _ _ _ _ h', State.rd_wrF_of_ne _ _ _ _ h]

theorem eye_ne_eyeMin (c : Nat) : Reg.CH_EYE c ≠ Reg.CH_EYE_MIN c := by simp only [Reg.CH_EYE, Reg.CH_EYE_MIN]; omega

theorem State.rdF_localEye_head (eye : Option Nat) : (s.localEye c eye).rdF (Reg.CH_EYE c) 15 8 = s.rdF (Reg.CH_EYE c) 15 8 := by
  cases eye with
  | none => rfl
  | some e =>
    unfold State.localEye State.rdF
    rw [State.rd_wrF_of_ne _ _ _ _ (eye_ne_eyeMin c), State.rd_wrF_same _ _ _ (by decide) (by decide),
      fld_putFld_other _ _ _ _ _ _ (by decide) (.inr (by decide))]

theorem State.lane_respond (field : Nat) : ((s.respond c field).lane c).train.doneSeq = some (fld field 23 16) := by
  unfold State.respond
  dsimp only
  split
  next hdone => exact hdone
  · rw [State.lane_modLane_same]

theorem State.lane_localEye (eye : Option Nat) (d : Nat) : (s.localEye c eye).lane d = s.lane d := by
  cases eye <;> rfl

theorem State.doneSeq_searched (field : Nat) (eye : Option Nat) :
    ((s.searched c field eye).lane c).train.doneSeq = some (fld field 23 16) := by
  rw [State.searched, State.lane_modLane_same]
  refine (Training.doneSeq_onFrame _ field eye).trans ?_
  rw [State.lane_localEye, State.lane_respond]

theorem State.regsBut_searched (field : Nat) (eye : Option Nat) : s.regsBut (s.searched c field eye) (answerKeys c) := by
  intro k hk
  simp only [answerKeys, List.mem_cons, List.not_mem_nil, or_false, not_or] at hk
  obtain ⟨hhead, heye, hmin, htaps⟩ := hk
  rw [State.searched, State.rd_modLane, State.rd_localEye_of_ne _ _ _ heye hmin, State.rd_respond_of_ne _ _ _ htaps,
    State.headReport, State.rd_wrF_of_ne _ _ _ _ heye, State.rd_wr_of_ne _ _ hhead]

theorem headTaps_ne (c : Nat) : Reg.CH_HEAD_TAPS c ≠ Reg.CH_EYE c ∧ Reg.CH_HEAD_TAPS c ≠ Reg.CH_EYE_MIN c ∧
    Reg.CH_HEAD_TAPS c ≠ Reg.CH_TX_TAPS c ∧ Reg.CH_EYE c ≠ Reg.CH_TX_TAPS c ∧ Reg.CH_HEAD_TAPS c ≠ Reg.CH_LINK_STATUS c ∧
    Reg.CH_EYE c ≠ Reg.CH_LINK_STATUS c ∧ Reg.CH_EYE_MIN c ≠ Reg.CH_LINK_STATUS c ∧
    Reg.CH_TX_TAPS c ≠ Reg.CH_LINK_STATUS c := by
  simp only [Reg.CH_HEAD_TAPS, Reg.CH_EYE, Reg.CH_EYE_MIN, Reg.CH_TX_TAPS, Reg.CH_LINK_STATUS]; omega

theorem linkStatus_notMem_answerKeys (c : Nat) : Reg.CH_LINK_STATUS c ∉ answerKeys c := by
  obtain ⟨-, -, -, -, hhead, heye, hmin, htaps⟩ := headTaps_ne c
  simp only [answerKeys, List.mem_cons, List.not_mem_nil, or_false, not_or]
  exact ⟨hhead.symm, heye.symm, hmin.symm, htaps.symm⟩
theorem eye_mem (c : Nat) : Reg.CH_EYE c ∈ answerKeys c := List.mem_cons_of_mem _ (List.mem_cons_self ..)

theorem tapsSum_lt (field : Nat) : fld field 44 40 + fld field 52 48 * 2 ^ 8 < 2 ^ 32 := by
  have hlow := fld_lt field 44 40
  have hhigh := fld_lt field 52 48
  norm_num at hlow hhigh ⊢
  omega

theorem State.rd_searched_headTaps (field : Nat) (eye : Option Nat) : (s.searched c field eye).rd (Reg.CH_HEAD_TAPS c)
    = fld field 44 40 + fld field 52 48 * 2 ^ 8 := by
  obtain ⟨heye, hmin, htaps, -⟩ := headTaps_ne c
  rw [State.searched, State.rd_modLane, State.rd_localEye_of_ne _ _ _ heye hmin, State.rd_respond_of_ne _ _ _ htaps,
    State.headReport, State.rd_wrF_of_ne _ _ _ _ heye, State.rd_wr_same]
  exact Nat.mod_eq_of_lt (tapsSum_lt field)

theorem State.rdF_searched_eye (field : Nat) (eye : Option Nat) : (s.searched c field eye).rdF (Reg.CH_EYE c) 15 8
    = fld field 39 32 := by
  obtain ⟨-, -, -, htaps, -⟩ := headTaps_ne c
  have hrd : (s.searched c field eye).rdF (Reg.CH_EYE c) 15 8
      = (((s.headReport c field).respond c field).localEye c eye).rdF (Reg.CH_EYE c) 15 8 := by
    unfold State.rdF
    rw [State.searched, State.rd_modLane]
  rw [hrd, State.rdF_localEye_head]
  unfold State.rdF
  rw [State.rd_respond_of_ne _ _ _ htaps, State.headReport, State.rd_wrF_same _ _ _ (by decide) (by decide),
    fld_putFld_same _ _ _ _ (by decide)]
  exact Nat.mod_eq_of_lt (fld_lt _ _ _)

theorem State.agree_searched {t : State} {ps : List Part} (hl : .lanes ∈ ps) (field : Nat) (eye : Option Nat) :
    s.Agree ps (t.searched c field eye) ↔ s.Agree ps t := by
  have hrespond : ∀ u : State, s.Agree ps (u.respond c field) ↔ s.Agree ps u := by
    intro u
    unfold State.respond
    dsimp only
    split
    · rfl
    · simp [hl]
  have heye : ∀ u : State, s.Agree ps (u.localEye c eye) ↔ s.Agree ps u := by
    intro u
    cases eye with
    | none => rfl
    | some e => simp [State.localEye]
  unfold State.searched
  rw [State.agree_modLane _ _ hl, heye, hrespond]
  simp [State.headReport]

/-! ## Eight ending frames, and LOCK -/

/-- The training frames sent at the end of the training of a lane (R193). -/
def State.endingFrames (s : State) (c : Nat) : State := (List.range 8).foldl (fun s _ => s.sendTraining c) s

theorem State.rd_endingFrames (k : Nat) : (s.endingFrames c).rd k = s.rd k :=
  State.rd_foldl_of_ne (f := fun (s : State) (_ : Nat) => s.sendTraining c) (fun _ _ _ => State.rd_sendTraining _ c k) s

theorem State.train_endingFrames : ((s.endingFrames c).lane c).train = (s.lane c).train :=
  List.foldlRecOn (motive := fun u : State => (u.lane c).train = (s.lane c).train) (List.range 8) _ rfl
    fun u hu _ _ => by rw [State.lane_sendTraining]; exact hu

theorem State.agree_endingFrames {s : State} (c : Nat) {t : State} {ps : List Part} (hl : .lanes ∈ ps) (ho : .out ∈ ps) (h : s.Agree ps t) :
    s.Agree ps (t.endingFrames c) :=
  List.foldlRecOn (motive := fun u : State => s.Agree ps u) (List.range 8) _ h
    fun _ hu _ _ => (State.agree_sendTraining c hl ho).2 hu

/-- A lane that seeks block lock. -/
def Lane.hunting (l : Lane) : Lane := { l with rxScr := none, idles := 0 }

theorem Lane.train_hunting (l : Lane) : l.hunting.train = l.train := rfl

theorem State.enterLock_eq : s.enterLock c
    = ((s.endingFrames c).modLane c Lane.hunting).setLaneSt c 3 := rfl

theorem State.train_enterLock : ((s.enterLock c).lane c).train = (s.lane c).train := by
  have hlane : (s.enterLock c).lane c = ((s.endingFrames c).lane c).hunting :=
    (State.lane_setLaneSt _ c 3 c).trans (State.lane_modLane_same _ c _)
  exact (congrArg Lane.train hlane).trans ((Lane.train_hunting _).trans (s.train_endingFrames c))

theorem State.regsBut_enterLock : s.regsBut (s.enterLock c) (laneKeys c ++ moduleKeys) := by
  intro k hk
  simp only [List.mem_append, not_or] at hk
  have hlock : (s.enterLock c).rd k = ((s.endingFrames c).modLane c Lane.hunting).rd k :=
    State.rd_setLaneSt_of_notMem _ c 3 hk.1 hk.2
  rw [hlock, State.rd_modLane, State.rd_endingFrames]

theorem chRegs_notMem {k c : Nat} (hc : c < 128) (h : k ∈ answerKeys c) : k ∉ laneKeys c ++ moduleKeys := by
  have hrange : 0x20020 + 0x1000 * c ≤ k ∧ k < 0x21000 + 0x1000 * c ∧ k ≠ Reg.CH_LINK_STATUS c := by
    simp only [answerKeys, List.mem_cons, List.not_mem_nil, or_false, Reg.CH_HEAD_TAPS, Reg.CH_EYE, Reg.CH_EYE_MIN,
      Reg.CH_TX_TAPS, Reg.CH_LINK_STATUS] at h ⊢
    omega
  obtain ⟨hlow, hhigh, hlink⟩ := hrange
  rw [List.mem_append, not_or]
  exact ⟨chPage_notMem_laneKeys hhigh hlow hc hlink, chPage_notMem_moduleKeys (c := c) (by omega) hhigh hc⟩

/-! ## A training step -/

/-- What a valid training frame leaves of a lane in TRAIN or RETRAIN (R188 to R193). -/
structure Stepped (s : State) (c field : Nat) (u : State) : Prop where
  headTaps : u.rd (Reg.CH_HEAD_TAPS c) = fld field 44 40 + fld field 52 48 * 2 ^ 8
  eye : u.rdF (Reg.CH_EYE c) 15 8 = fld field 39 32
  laneSt : u.laneSt c = s.laneSt c ∨ u.laneSt c = 3
  doneSeq : (u.lane c).train.doneSeq = some (fld field 23 16)
  regs : s.regsBut u (laneKeys c ++ moduleKeys ++ answerKeys c)
  parts : s.Agree [.lanes, .out, .mgmt] u

/-- The frame is answered, and training goes on. -/
theorem State.stepped_sendTraining (field : Nat) (eye : Option Nat) :
    Stepped s c field ((s.searched c field eye).sendTraining c) where
  headTaps := (State.rd_sendTraining _ _ _).trans (s.rd_searched_headTaps c field eye)
  eye := (State.rdF_of_rd_eq (State.rd_sendTraining _ _ _)).trans (s.rdF_searched_eye c field eye)
  laneSt := by
    exact .inl (State.rdF_of_rd_eq ((State.rd_sendTraining _ _ _).trans
      (s.regsBut_searched c field eye _ (linkStatus_notMem_answerKeys c))))
  doneSeq := by rw [State.lane_sendTraining]; exact s.doneSeq_searched c field eye
  regs := by
    intro k hk
    simp only [List.mem_append, not_or] at hk
    rw [State.rd_sendTraining, s.regsBut_searched c field eye k hk.2]
  parts := (State.agree_sendTraining c (by simp) (by simp)).2 ((s.agree_searched c (by simp) field eye).2 (.refl s))

/-- The ending of training changes nothing that the answer to the frame left, but the state of the lane. -/
theorem Stepped.enterLock {s u : State} {c field : Nat} (hc : c < 128) (h : Stepped s c field u) :
    Stepped s c field (u.enterLock c) where
  headTaps := (u.regsBut_enterLock c _ (chRegs_notMem hc (List.mem_cons_self ..))).trans h.headTaps
  eye := (State.rdF_of_rd_eq (u.regsBut_enterLock c _ (chRegs_notMem hc (eye_mem c)))).trans h.eye
  laneSt := .inr (State.laneSt_setLaneSt _ c hc (by decide))
  doneSeq := by rw [State.train_enterLock]; exact h.doneSeq
  regs := fun k hk => (u.regsBut_enterLock c k fun hmem => hk (List.mem_append_left _ hmem)).trans (h.regs k hk)
  parts := by
    rw [State.enterLock_eq]
    exact (State.agree_setLaneSt c 3 (by simp)).2 ((State.agree_modLane _ _ (by simp)).2
      (State.agree_endingFrames c (by simp) (by simp) h.parts))

theorem State.stepped_trainStep (hc : c < 128) (field : Nat) (eye : Option Nat) : Stepped s c field (s.trainStep c field eye) := by
  have hsent := s.stepped_sendTraining c field eye
  rcases s.trainStep_eq c field eye with h | h
  · rw [h]; exact hsent.enterLock hc
  · rw [h]; exact hsent

end

end Sys2Proof.Machine
end

section
/-! Receiver detect and training: the commands, and the obligation about them. -/

namespace Sys2Proof.Machine

section
variable (s : State) (c : Fin 128) (t : Nat)

/-! ## RECEIVER_DETECT_PROBE -/

/-- A lane with the outcome of one more probe (R183). -/
def Lane.probed (l : Lane) (detected : Bool) : Lane := { l with
  present := if detected then min 2 (l.present + 1) else if l.absent ≥ 1 ∨ l.present < 2 then 0 else 2
  absent := if detected then 0 else min 2 (l.absent + 1)
  sawAbsent := l.sawAbsent || !detected && l.absent ≥ 1 }

/-- The state with the outcome of one more probe. -/
def State.probedAt (s : State) (c : Nat) (detected : Bool) (t : Nat) : State :=
  (s.till t).modLane c (fun l => l.probed detected)

theorem State.lane_probedAt (c : Nat) (d : Bool) : (s.probedAt c d t).lane c = (s.lane c).probed d :=
  State.lane_modLane_same _ _ _

theorem execReceiverDetectProbe_other (d : Bool) (h : s.laneSt c ≠ 1) (h' : s.laneSt c ≠ 7) :
    exec (.receiverDetectProbe c d t) s = .next (s.till t) :=
  if_pos (not_or.2 ⟨h, h'⟩)

/-- What follows from the outcome of a probe in DETECT and in FAILED. -/
theorem execReceiverDetectProbe_of_probed (d : Bool) (h : s.laneSt c = 1 ∨ s.laneSt c = 7) :
    exec (.receiverDetectProbe c d t) s =
      if ((s.lane c).probed d).present < 2 then .next (s.probedAt c d t)
      else if s.laneSt c = 1 then
        .next (if s.bit Reg.PWR_HEAD_PWR_STATUS (c / 16) then (s.probedAt c d t).enterTrain c else s.probedAt c d t)
      else if ((s.lane c).probed d).sawAbsent then
        .next (((s.probedAt c d t).setHalf c ((s.probedAt c d t).rateMaxHalf c)).enterDetect c)
      else .next (s.probedAt c d t) := by
  refine (if_neg (not_not.2 h)).trans ?_
  rw [← s.lane_probedAt t c d]
  rfl

/-- The probe changes the record of the lane alone. -/
theorem State.parts_probedAt (c : Nat) (d : Bool) : { s.probedAt c d t with frc := s.frc, lanes := s.lanes } = s := rfl

theorem execReceiverDetectProbe_stays (d : Bool) (h : s.laneSt c = 1 ∨ s.laneSt c = 7)
    (hpresent : ((s.lane c).probed d).present < 2 ∨ (s.laneSt c = 1 ∧ s.bit Reg.PWR_HEAD_PWR_STATUS (c / 16) = false) ∨
      (s.laneSt c = 7 ∧ ((s.lane c).probed d).sawAbsent = false)) :
    exec (.receiverDetectProbe c d t) s = .next (s.probedAt c d t) := by
  rw [execReceiverDetectProbe_of_probed s c t d h]
  by_cases hfew : ((s.lane c).probed d).present < 2
  · exact if_pos hfew
  rw [if_neg hfew]
  rcases hpresent with hp | ⟨hst, hoff⟩ | ⟨hst, hsaw⟩
  · exact absurd hp hfew
  · rw [if_pos hst, hoff]; rfl
  · rw [if_neg (by omega), hsaw]; rfl

theorem Lane.probed_present_true (l : Lane) : (l.probed true).present = min 2 (l.present + 1) := rfl
theorem Lane.probed_sawAbsent_true (l : Lane) : (l.probed true).sawAbsent = l.sawAbsent := by
  simp [Lane.probed]

theorem min2_lt_of_zero {n : Nat} (h : n = 0) : min 2 (n + 1) < 2 := by omega
theorem not_min2_lt {n : Nat} (h : 1 ≤ n) : ¬ min 2 (n + 1) < 2 := by omega
theorem Lane.probed_present_again {l : Lane} (h : 1 ≤ l.present) : ¬ (l.probed true).present < 2 := not_min2_lt h

theorem probe_detected_stays (hst : s.laneSt c = 1 ∨ s.laneSt c = 7)
    (h : (s.lane c).present = 0 ∨ (s.laneSt c = 1 ∧ s.bit Reg.PWR_HEAD_PWR_STATUS (c / 16) = false) ∨
      (s.laneSt c = 7 ∧ (s.lane c).sawAbsent = false)) :
    ∃ u : State, exec (.receiverDetectProbe c true t) s = .next u ∧
      (u.lane c).present = min 2 ((s.lane c).present + 1) ∧ (u.lane c).absent = 0 ∧
      { u with frc := s.frc, lanes := s.lanes } = s := by
  refine ⟨s.probedAt c true t, execReceiverDetectProbe_stays s c t true hst ?_, ?_, ?_, s.parts_probedAt t c true⟩
  · rcases h with h | h | h
    · exact .inl (min2_lt_of_zero h)
    · exact .inr (.inl h)
    · exact .inr (.inr ⟨h.1, (Lane.probed_sawAbsent_true _).trans h.2⟩)
  · rw [State.lane_probedAt]; rfl
  · rw [State.lane_probedAt]; rfl

theorem probe_enters_train (hst : s.laneSt c = 1) (hp : 1 ≤ (s.lane c).present)
    (hon : s.bit Reg.PWR_HEAD_PWR_STATUS (c / 16) = true) :
    ∃ u : State, exec (.receiverDetectProbe c true t) s = .next u ∧
      u.laneSt c = 2 ∧ u.attempt c = min 15 (s.attempt c + 1) ∧ u.rd (Reg.CH_TX_TAPS c) = tapsWord 2 6 ∧
      s.regsBut u (laneKeys c ++ moduleKeys ++ [Reg.CH_TX_TAPS c]) ∧
      { u with regs := s.regs, frc := s.frc, lanes := s.lanes, out := s.out, mgmt := s.mgmt } = s := by
  refine ⟨(s.probedAt c true t).enterTrain c, ?_, State.laneSt_enterTrain _ c c.isLt, State.attempt_enterTrain _ c c.isLt,
    State.rd_beginAttempt_taps _ c, State.regsBut_enterTrain (s.probedAt c true t) c, ?_⟩
  · rw [execReceiverDetectProbe_of_probed s c t true (.inl hst), if_neg (Lane.probed_present_again hp), if_pos hst, if_pos hon]
  · exact State.Agree.revert_eq (ps := [.frc, .lanes, .out, .mgmt])
      ((State.agree_enterTrain c (by simp) (by simp) (by simp)).2 ((State.agree_modLane _ _ (by simp)).2
        ((State.agree_till t (by simp)).2 (.refl s))))

theorem probe_absent_once (hst : (s.laneSt c = 1 ∧ s.bit Reg.PWR_HEAD_PWR_STATUS (c / 16) = false) ∨
      (s.laneSt c = 7 ∧ (s.lane c).sawAbsent = false)) (hp : (s.lane c).present = 2) (ha : (s.lane c).absent = 0) :
    ∃ u : State, exec (.receiverDetectProbe c false t) s = .next u ∧
      (u.lane c).present = 2 ∧ (u.lane c).absent = 1 ∧ { u with frc := s.frc, lanes := s.lanes } = s := by
  have hsaw : ((s.lane c).probed false).sawAbsent = (s.lane c).sawAbsent := by simp [Lane.probed, ha]
  refine ⟨s.probedAt c false t, execReceiverDetectProbe_stays s c t false (hst.imp And.left And.left)
    (.inr (hst.imp id fun h => ⟨h.1, hsaw.trans h.2⟩)), ?_, ?_, s.parts_probedAt t c false⟩
  · rw [State.lane_probedAt]; simp [Lane.probed, ha, hp]
  · rw [State.lane_probedAt]; simp [Lane.probed, ha]

theorem probe_absent_again (hst : s.laneSt c = 1 ∨ s.laneSt c = 7) (h : 1 ≤ (s.lane c).absent ∨ (s.lane c).present < 2) :
    ∃ u : State, exec (.receiverDetectProbe c false t) s = .next u ∧
      (u.lane c).present = 0 ∧ (u.lane c).absent = min 2 ((s.lane c).absent + 1) ∧
      (u.lane c).sawAbsent = ((s.lane c).sawAbsent || decide (1 ≤ (s.lane c).absent)) ∧
      { u with frc := s.frc, lanes := s.lanes } = s := by
  have hzero : ((s.lane c).probed false).present = 0 := if_pos h
  refine ⟨s.probedAt c false t, execReceiverDetectProbe_stays s c t false hst (.inl (by omega)), ?_, ?_, ?_,
    s.parts_probedAt t c false⟩
  · rw [State.lane_probedAt]; exact hzero
  · rw [State.lane_probedAt]; rfl
  · rw [State.lane_probedAt]; simp [Lane.probed]

theorem probe_leaves_failed (hst : s.laneSt c = 7) (hp : 1 ≤ (s.lane c).present) (hsaw : (s.lane c).sawAbsent = true) :
    ∃ u : State, exec (.receiverDetectProbe c true t) s = .next u ∧
      u.laneSt c = 1 ∧ u.laneHalf c = s.rateMaxHalf c ∧ u.attempt c = 0 ∧ s.regsBut u (laneKeys c ++ moduleKeys) ∧
      { u with regs := s.regs, frc := s.frc, lanes := s.lanes, out := s.out, mgmt := s.mgmt } = s := by
  obtain ⟨hstate, hhalf, hattempt⟩ := State.redetect_facts (s.probedAt c true t) c c.isLt
  refine ⟨_, ?_, hstate, hhalf, hattempt, State.regsBut_redetect (s.probedAt c true t) c, ?_⟩
  · rw [execReceiverDetectProbe_of_probed s c t true (.inr hst), if_neg (Lane.probed_present_again hp), if_neg (by omega),
      if_pos ((Lane.probed_sawAbsent_true _).trans hsaw)]
  · exact State.Agree.revert_eq (ps := [.frc, .lanes, .out, .mgmt])
      ((State.agree_enterDetect c (by simp) (by simp) (by simp)).2 ((State.agree_wrB _ _ _).2
        ((State.agree_modLane _ _ (by simp)).2 ((State.agree_till t (by simp)).2 (.refl s)))))

/-! ## TRAINING_FRAME -/

section
variable (field : Nat) (inv : Bool) (eye : Option (Fin 256))

theorem State.rateIdle_polarity : ((s.polarity c inv).lane c).rateIdle = (s.lane c).rateIdle := by
  have hlane : ∀ p : Prop, [Decidable p] → (if p then s.wrB (Reg.CH_LINK_STATUS c) 5 true else s).lane c = s.lane c :=
    fun p _ => (apply_ite (State.lane · c) p _ _).trans (ite_self _)
  unfold State.polarity
  rw [State.lane_modLane_same]
  dsimp only
  rw [hlane]

theorem execTrainingFrame_step (hcrc : crc8Ok field = true)
    (h : (s.laneSt c = 2 ∧ (s.lane c).rateIdle = false) ∨ s.laneSt c = 6) :
    exec (.trainingFrame c field inv eye) s = .next ((s.polarity c inv).trainStep c field (eye.map Fin.val)) := by
  change execTrainingFrame c field inv eye s = _
  unfold execTrainingFrame
  dsimp only
  rw [if_pos (h.imp And.left id), State.rateIdle_polarity, hcrc]
  exact if_pos (h.imp (fun h => ⟨h.1, by simp [h.2]⟩) id)

theorem execTrainingFrame_other (h2 : s.laneSt c ≠ 2) (h6 : s.laneSt c ≠ 6) :
    exec (.trainingFrame c field inv eye) s =
      if !crc8Ok field then .next s
      else if s.laneSt c = 3 ∧ (!bitOf field 12 ∨ s.bit (Reg.CH_LINK_STATUS c) 6) then .next (s.failAttempt c 3)
      else .next s := by
  change execTrainingFrame c field inv eye s = _
  unfold execTrainingFrame
  dsimp only
  rw [if_neg (not_or.2 ⟨h2, h6⟩)]
  congr 1
  exact if_neg (not_or.2 ⟨fun h => h2 h.1, h6⟩)

theorem execTrainingFrame_lock (hcrc : crc8Ok field = true) (hst : s.laneSt c = 3)
    (h : bitOf field 12 = false ∨ s.bit (Reg.CH_LINK_STATUS c) 6 = true) :
    exec (.trainingFrame c field inv eye) s = .next (s.failAttempt c 3) := by
  rw [execTrainingFrame_other s c field inv eye (by omega) (by omega), hcrc]
  exact (if_neg (by decide)).trans (if_pos ⟨hst, h.imp (fun h => by simp [h]) id⟩)

theorem execTrainingFrame_ignored (h2 : s.laneSt c ≠ 2) (h6 : s.laneSt c ≠ 6)
    (h : crc8Ok field = false ∨ s.laneSt c ≠ 3 ∨ (bitOf field 12 = true ∧ s.bit (Reg.CH_LINK_STATUS c) 6 = false)) :
    exec (.trainingFrame c field inv eye) s = .next s := by
  rw [execTrainingFrame_other s c field inv eye h2 h6]
  rcases h with hcrc | hst | ⟨hready, hlock⟩
  · rw [hcrc]; rfl
  · have hnot : ¬ (s.laneSt c = 3 ∧ (!bitOf field 12 ∨ s.bit (Reg.CH_LINK_STATUS c) 6)) := fun h => hst h.1
    rw [if_neg hnot, ite_self]
  · rw [hready, hlock]; simp

theorem execTrainingFrame_polarity (h2 : s.laneSt c = 2 ∨ s.laneSt c = 6)
    (h : crc8Ok field = false ∨ (s.laneSt c = 2 ∧ (s.lane c).rateIdle = true)) :
    exec (.trainingFrame c field inv eye) s = .next (s.polarity c inv) := by
  change execTrainingFrame c field inv eye s = _
  unfold execTrainingFrame
  dsimp only
  rw [if_pos h2]
  rcases h with hcrc | ⟨hst, hidle⟩
  · rw [hcrc]; rfl
  · rw [State.rateIdle_polarity, hidle, hst]
    simp

end

/-! ## RATE_CHANGE_IDLE_END -/

theorem rateChangeIdleEnd_begins (hst : s.laneSt c = 2) (hidle : (s.lane c).rateIdle = true) :
    ∃ u : State, exec (.rateChangeIdleEnd c) s = .next u ∧
      u.laneSt c = 2 ∧ (u.lane c).rateIdle = false ∧ u.attempt c = min 15 (s.attempt c + 1) ∧
      u.rd (Reg.CH_TX_TAPS c) = tapsWord 2 6 ∧
      u.out = s.out ++ [Out.training c (trainingUi (u.trainField c) (s.trainSegment c).2)] ∧
      s.regsBut u [Reg.CH_LINK_STATUS c, Reg.CH_TX_TAPS c] ∧
      { u with regs := s.regs, lanes := s.lanes, out := s.out } = s :=
  ⟨s.beginAttempt c, if_pos ⟨hst, hidle⟩, (s.laneSt_beginAttempt c).trans hst, s.rateIdle_beginAttempt c,
    s.attempt_beginAttempt c, s.rd_beginAttempt_taps c, s.out_beginAttempt c, s.regsBut_beginAttempt c,
    State.Agree.revert_eq (ps := [.lanes, .out]) ((State.agree_beginAttempt c (by simp) (by simp)).2 (.refl s))⟩

theorem execTrainTimeout_fails (hst : s.laneSt c = 2) (hidle : (s.lane c).rateIdle = false) :
    exec (.trainTimeout c) s = .next (s.failAttempt c (if ((s.lane c).train.converged = true ∧
      (s.lane c).train.best < s.eyePass c) ∨ (s.lane c).train.headLow = true then 2 else 1)) := by
  refine (if_pos ⟨hst, by simp [hidle]⟩).trans ?_
  simp only [Bool.or_eq_true, Bool.and_eq_true, decide_eq_true_eq]

end

/-- Settles O13: each command is the transition of R185 in the states that it belongs to, and has no effect in the
others; a probe is counted in the record of its lane, and a training frame is answered and may end training. -/
theorem laneTraining : Obligations.LaneTraining := by
  unfold Obligations.LaneTraining
  refine ⟨fun c d t s => execReceiverDetectProbe_other s c t d, fun c t s hst hp hon => probe_enters_train s c t hst hp hon,
    fun c t s hst h => probe_detected_stays s c t (.inl hst) (h.imp id fun h => .inl ⟨hst, h⟩),
    fun c t s hst h => probe_detected_stays s c t (.inr hst) (h.imp id fun h => .inr ⟨hst, h⟩),
    fun c t s hst hp ha => probe_absent_once s c t hst hp ha, fun c t s hst h => probe_absent_again s c t hst h,
    fun c t s hst hp hsaw => probe_leaves_failed s c t hst hp hsaw,
    fun c field inv eye s => execTrainingFrame_step s c field inv eye,
    fun c field inv eye s => execTrainingFrame_lock s c field inv eye,
    fun c field inv eye s hst hready hlock => execTrainingFrame_ignored s c field inv eye (by omega) (by omega)
      (.inr (.inr ⟨hready, hlock⟩)),
    fun c field inv eye s h2 h3 h6 => execTrainingFrame_ignored s c field inv eye h2 h6 (.inr (.inl h3)),
    fun c field inv eye s hst hidle => execTrainingFrame_polarity s c field inv eye (.inl hst) (.inr ⟨hst, hidle⟩),
    fun c field inv eye s hcrc h2 h6 => execTrainingFrame_ignored s c field inv eye h2 h6 (.inl hcrc),
    fun c field inv eye s hcrc h => execTrainingFrame_polarity s c field inv eye h (.inl hcrc),
    fun c field eye s => ?_, fun c s => execTrainTimeout_fails s c,
    fun c t s h => if_pos (h.imp (fun h => ⟨h.1, Bool.eq_false_iff.1 h.2⟩) id),
    fun c t s h6 h => if_neg fun h' => h'.elim (fun h2 => h.elim (absurd h2.1) fun hidle => h2.2 hidle) h6,
    fun c s _ hidle => if_neg fun h => h.2 hidle, fun c s _ hidle => if_neg fun h => absurd h.2 (Bool.eq_false_iff.1 hidle),
    fun c s _ hheld => if_neg fun h => h.2 hheld, fun c s => rateChangeIdleEnd_begins s c, fun c s h => if_pos h,
    fun c s hst hheld hpair => if_pos ⟨hst, by simp [hheld, hpair]⟩, fun c s h => if_pos h,
    fun c s h => if_neg fun h' => h h'.1, fun c s h => if_neg h, fun c s h => if_neg fun h' => h h'.1, fun c s h => if_neg h,
    fun c s h => if_neg fun h' => h h'.1⟩
  obtain ⟨htaps, heye, hst, hdone, hregs, hparts⟩ := s.stepped_trainStep c c.isLt field eye
  exact ⟨_, rfl, htaps, heye, hst, hdone, hregs, State.Agree.revert_eq (ps := [.lanes, .out, .mgmt]) hparts⟩

end Sys2Proof.Machine
end

section
/-! The Scaler: the record at its read index, cycles, result sets, strips and drift (R284 to R290, R297, R305, R306). -/

namespace Sys2Proof.Machine

section
variable {s t : State}

@[simp] theorem State.rd_modColour (f : ColourUnit → ColourUnit) (k : Nat) : (s.modColour f).rd k = s.rd k := rfl
@[simp] theorem State.agree_modColour {ps : List Part} (f : ColourUnit → ColourUnit) (h : .colour ∈ ps) :
    s.Agree ps (t.modColour f) ↔ s.Agree ps t := by
  simp [State.modColour, h]

/-! ## What a record read depends on -/

/-- What is known poisoned rests on the words known poisoned and on the states of the DRAM channels. -/
theorem State.poisonedIn_congr (hdram : t.dram = s.dram)
    (hrd : ∀ d, d < 6 → t.rd (Reg.STATUS (Reg.pageDRAM d)) = s.rd (Reg.STATUS (Reg.pageDRAM d))) (a n : Nat) :
    t.poisonedIn a n = s.poisonedIn a n := by
  have hst : ∀ x, t.stCode (Reg.pageDRAM (x % 6)) = s.stCode (Reg.pageDRAM (x % 6)) := fun x =>
    State.rdF_of_rd_eq (hrd _ (Nat.mod_lt _ (by decide)))
  unfold State.poisonedIn
  simp only [hdram, hst]

/-- A virtual channel is mapped by its STREAM_MAP byte, or the one that it still awaits. -/
theorem State.enabledVcs_congr (hcam : t.cam = s.cam) (p : Nat)
    (hrd : ∀ i, i < 4 → t.rd (Reg.CAM_STREAM_MAP p i) = s.rd (Reg.CAM_STREAM_MAP p i)) : t.enabledVcs p = s.enabledVcs p := by
  have hport : t.camPort p = s.camPort p := by unfold State.camPort; rw [hcam]
  refine List.filter_congr fun v hv => ?_
  have hv := List.mem_range.1 hv
  unfold State.mapped State.streamMap
  rw [hport, hrd _ (by omega)]

theorem State.finishOver_of_none (h : ∀ g ∈ s.colour.armed, s.triggerOver g = false) : s.finishOver = s := by
  have hnone : s.colour.armed.filter s.triggerOver = [] :=
    List.filter_eq_nil_iff.2 fun g hg => by rw [h g hg]; exact Bool.false_ne_true
  unfold State.finishOver
  rw [hnone, List.foldl_nil]

theorem atLeast1_pos (n : Nat) : 0 < atLeast1 n := by unfold atLeast1; split <;> omega

theorem atLeast1_le {n m : Nat} (h : n < m) : atLeast1 n < m + 1 := by unfold atLeast1; split <;> omega

theorem mod_atLeast1_lt (x : Nat) {n m : Nat} (h : n < m) : x % atLeast1 n < m :=
  lt_of_lt_of_le (Nat.mod_lt _ (atLeast1_pos n)) (Nat.le_of_lt_succ (atLeast1_le h))

theorem ringIndex_lt (s : State) (r : Nat) : (r + 1) % s.ringSlots < 2 ^ 32 :=
  lt_trans (mod_atLeast1_lt _ (fld_lt _ _ _)) (by decide)

/-! ## SCALER_RECORD_TAKE -/

/-- The Scaler passes on to the next record of the ring. -/
def State.recordPassed (s : State) : State :=
  s.wr Reg.STATS_READ_IDX_SCALER ((s.rd Reg.STATS_READ_IDX_SCALER + 1) % s.ringSlots)

theorem execScalerRecordTake_idle (l : List (Nat × Nat)) (h : ∀ g ∈ s.colour.armed, s.triggerOver g = false)
    (hidle : bitOf s.colour.cfg 5 = false ∨ s.scalerEn = false ∨ s.rd Reg.STATS_READ_IDX_SCALER = s.rd Reg.STATS_WRITE_IDX) :
    exec (.scalerRecordTake l) s = .next s := by
  change execScalerRecordTake l s = _
  unfold execScalerRecordTake
  rw [State.finishOver_of_none h]
  refine if_pos ?_
  rcases hidle with h | h | h <;> simp [h]

theorem execScalerRecordTake_of_record (l : List (Nat × Nat)) (h : ∀ g ∈ s.colour.armed, s.triggerOver g = false)
    (hcfg : bitOf s.colour.cfg 5 = true) (hen : s.scalerEn = true)
    (hrec : s.rd Reg.STATS_READ_IDX_SCALER ≠ s.rd Reg.STATS_WRITE_IDX) :
    exec (.scalerRecordTake l) s =
      match s.colour.armed.find? (fun g =>
          g.port == fld (s.recWord (s.recordAddr (s.rd Reg.STATS_READ_IDX_SCALER)) 0) 20 20 &&
          g.plan == fld (s.recWord (s.recordAddr (s.rd Reg.STATS_READ_IDX_SCALER)) 7) 15 0) with
      | none => .next s.recordPassed
      | some g =>
        if g.band = fld (s.recWord (s.recordAddr (s.rd Reg.STATS_READ_IDX_SCALER)) 7) 19 16
        then .next (s.recordPassed.serve (s.recordAddr (s.rd Reg.STATS_READ_IDX_SCALER)) g l)
        else .next (s.recordPassed.loseTrigger (fld (s.recWord (s.recordAddr (s.rd Reg.STATS_READ_IDX_SCALER)) 0) 20 20) g.plan 1
          (s.recordPassed.enabledVcs (fld (s.recWord (s.recordAddr (s.rd Reg.STATS_READ_IDX_SCALER)) 0) 20 20)).length) := by
  change execScalerRecordTake l s = _
  unfold execScalerRecordTake
  rw [State.finishOver_of_none h]
  exact if_neg (by simp [hcfg, hen, hrec])

theorem scalerTake_nothing_armed (l : List (Nat × Nat)) (hcfg : bitOf s.colour.cfg 5 = true) (hen : s.scalerEn = true)
    (hrec : s.rd Reg.STATS_READ_IDX_SCALER ≠ s.rd Reg.STATS_WRITE_IDX) (harmed : s.colour.armed = []) :
    ∃ u : State, exec (.scalerRecordTake l) s = .next u ∧
      u.rd Reg.STATS_READ_IDX_SCALER = (s.rd Reg.STATS_READ_IDX_SCALER + 1) % s.ringSlots ∧
      s.regsBut u [Reg.STATS_READ_IDX_SCALER] ∧ { u with regs := s.regs } = s := by
  refine ⟨s.recordPassed, ?_, (s.rd_wr_same _ _).trans (Nat.mod_eq_of_lt (ringIndex_lt s _)),
    fun k hk => s.rd_wr_of_ne _ (by simpa using hk), rfl⟩
  rw [execScalerRecordTake_of_record l (by simp [harmed]) hcfg hen hrec, harmed]
  rfl

/-- The record of a trigger counted as skipped. -/
def State.skipped (s : State) (g : Trigger) : State :=
  s.recordPassed.stripSkip.modColour (fun u => { u with
    armed := u.armed.map (fun x => if x == g then { g with got := g.got + 1 } else x) })

theorem State.rd_skipped_of_notMem {k : Nat} (g : Trigger)
    (h : k ∉ [Reg.STATS_READ_IDX_SCALER, Reg.SCALER_STRIP_SKIPPED, Reg.INT_STATUS Reg.pageSCALER]) :
    (s.skipped g).rd k = s.rd k := by
  simp only [List.mem_cons, List.not_mem_nil, or_false, not_or] at h
  obtain ⟨hidx, hcount, hint⟩ := h
  rw [State.skipped, State.rd_modColour, State.stripSkip, State.rd_intSet_of_ne _ _ hint, State.rd_count_of_ne _ hcount,
    State.recordPassed, State.rd_wr_of_ne _ _ hidx]

theorem State.rd_skipped_count (g : Trigger) :
    (s.skipped g).rd Reg.SCALER_STRIP_SKIPPED = satInc 32 (s.rd Reg.SCALER_STRIP_SKIPPED) := by
  have hcount : s.recordPassed.stripSkip.rd Reg.SCALER_STRIP_SKIPPED = satInc 32 (s.recordPassed.rd Reg.SCALER_STRIP_SKIPPED) := by
    rw [State.stripSkip, State.rd_intSet_of_ne _ _ (by decide), State.rd_count_same]
  rw [State.skipped, State.rd_modColour, hcount, State.recordPassed, State.rd_wr_of_ne _ _ (by decide)]

theorem State.bit_skipped_int (g : Trigger) : (s.skipped g).bit (Reg.INT_STATUS Reg.pageSCALER) 12 = true := by
  refine (State.bit_of_rd_eq (State.rd_modColour _ _)).trans ?_
  rw [State.stripSkip]
  exact (State.bit_intSet _ _ _ _ _ (by decide)).trans (if_pos ⟨rfl, rfl⟩)

theorem State.agree_skipped (g : Trigger) : s.Agree [.colour] (s.skipped g) := by
  rw [State.skipped, State.agree_modColour _ (by simp), State.stripSkip, State.agree_intSet, State.agree_count,
    State.recordPassed, State.agree_wr]
  exact .refl s

theorem streamMap_notMem_skipKeys (p i : Nat) (hp : p < 2) (hi : i < 4) : Reg.CAM_STREAM_MAP p i ∉
    [Reg.STATS_READ_IDX_SCALER, Reg.SCALER_STRIP_SKIPPED, Reg.INT_STATUS Reg.pageSCALER] := by
  simp only [Reg.CAM_STREAM_MAP, Reg.STATS_READ_IDX_SCALER, Reg.SCALER_STRIP_SKIPPED, Reg.INT_STATUS, Reg.pageSCALER,
    List.mem_cons, List.not_mem_nil, or_false]
  omega

theorem dramStatus_ne_readIdx (d : Nat) (h : d < 6) : Reg.STATUS (Reg.pageDRAM d) ≠ Reg.STATS_READ_IDX_SCALER := by
  simp only [Reg.STATUS, Reg.pageDRAM, Reg.STATS_READ_IDX_SCALER]; omega

theorem State.poisonedIn_recordPassed (s : State) (a n : Nat) : s.recordPassed.poisonedIn a n = s.poisonedIn a n :=
  State.poisonedIn_congr (s := s) (t := s.recordPassed) rfl (fun d hd => s.rd_wr_of_ne _ (dramStatus_ne_readIdx d hd)) a n

/-- A poisoned record is skipped; its trigger awaits the others. -/
theorem State.serve_of_poisoned (a : Nat) (g : Trigger) (l : List (Nat × Nat)) (hp : s.poisonedIn a (s.recWord a 14) = true) :
    s.recordPassed.serve a g l = (s.skipped g).finishOver := by
  have hp' : s.recordPassed.poisonedIn a (s.recordPassed.recWord a 14) = true := (s.poisonedIn_recordPassed a _).trans hp
  unfold State.serve
  dsimp only
  rw [if_pos hp']
  rfl

theorem scalerTake_poisoned (l : List (Nat × Nat)) (g : Trigger) (hcfg : bitOf s.colour.cfg 5 = true)
    (hen : s.scalerEn = true) (hrec : s.rd Reg.STATS_READ_IDX_SCALER ≠ s.rd Reg.STATS_WRITE_IDX) (harmed : s.colour.armed = [g])
    (hgot : g.got = 0) (hport : g.port = fld (s.recWord (s.recordAddr (s.rd Reg.STATS_READ_IDX_SCALER)) 0) 20 20)
    (hplan : g.plan = fld (s.recWord (s.recordAddr (s.rd Reg.STATS_READ_IDX_SCALER)) 7) 15 0)
    (hband : g.band = fld (s.recWord (s.recordAddr (s.rd Reg.STATS_READ_IDX_SCALER)) 7) 19 16)
    (hpoison : s.poisonedIn (s.recordAddr (s.rd Reg.STATS_READ_IDX_SCALER))
      (s.recWord (s.recordAddr (s.rd Reg.STATS_READ_IDX_SCALER)) 14) = true)
    (hmore : 1 + g.lost < (s.enabledVcs g.port).length) :
    ∃ u : State, exec (.scalerRecordTake l) s = .next u ∧
      u.colour.armed = [{ g with got := 1 }] ∧
      u.rd Reg.SCALER_STRIP_SKIPPED = satInc 32 (s.rd Reg.SCALER_STRIP_SKIPPED) ∧
      u.bit (Reg.INT_STATUS Reg.pageSCALER) 12 = true ∧ u.colour.patches = s.colour.patches ∧
      s.regsBut u [Reg.STATS_READ_IDX_SCALER, Reg.SCALER_STRIP_SKIPPED, Reg.INT_STATUS Reg.pageSCALER] ∧
      { u with regs := s.regs, colour := s.colour } = s := by
  have hskipped : (s.skipped g).colour.armed = [{ g with got := 1 }] := by
    simp [State.skipped, State.modColour, State.recordPassed, State.stripSkip, harmed, hgot]
  have hport2 : g.port < 2 := hport ▸ fld_lt _ 20 20
  have hvcs : (s.skipped g).enabledVcs g.port = s.enabledVcs g.port :=
    State.enabledVcs_congr (s := s) (t := s.skipped g) rfl _ fun i hi => State.rd_skipped_of_notMem g (streamMap_notMem_skipKeys _ i hport2 hi)
  have hwait : ∀ x ∈ (s.skipped g).colour.armed, (s.skipped g).triggerOver x = false := by
    intro x hx
    rw [hskipped, List.mem_singleton] at hx
    subst hx
    unfold State.triggerOver
    rw [hvcs]
    simp [hmore]
  refine ⟨s.skipped g, ?_, hskipped, ?_, ?_, rfl, fun k hk => State.rd_skipped_of_notMem g hk, ?_⟩
  · rw [execScalerRecordTake_of_record l (by simp [harmed, State.triggerOver, hgot]) hcfg hen hrec, harmed]
    simp only [List.find?_cons, ← hport, ← hplan, beq_self_eq_true, Bool.and_self]
    rw [if_pos hband, State.serve_of_poisoned _ g l hpoison, State.finishOver_of_none hwait]
  · exact State.rd_skipped_count g
  · exact State.bit_skipped_int g
  · exact State.Agree.revert_eq (State.agree_skipped g)

/-! ## CYCLE_EXPIRED -/

theorem execCycleExpired_none (h : s.colour.span = none) : exec .cycleExpired s = .next s := by
  change Host.Outcome.next (s.expireCycle _) = _
  unfold State.expireCycle
  rw [h]

theorem execCycleExpired_span {first last : Nat} (h : s.colour.span = some (first, last)) :
    exec .cycleExpired s = .next (if first + atLeast1 (s.rdF Reg.SCALER_CYCLE_CFG 7 0) ≤ s.rd Reg.SCALER_STRIP_NUM - 1
      then ((s.count Reg.SCALER_CYCLE_EXPIRED).intSet Reg.pageSCALER 9).newCycle else s) := by
  change Host.Outcome.next (s.expireCycle _) = _
  unfold State.expireCycle
  rw [h]

theorem State.rd_newCycle (k : Nat) : s.newCycle.rd k = (s.wrF Reg.SCALER_BAND_STATE 11 0 0).rd k := rfl

theorem State.bands_newCycle (s : State) : s.newCycle.rdF Reg.SCALER_BAND_STATE 11 0 = 0 ∧
    s.newCycle.rdF Reg.SCALER_BAND_STATE 31 12 = s.rdF Reg.SCALER_BAND_STATE 31 12 := by
  have hrd : s.newCycle.rd Reg.SCALER_BAND_STATE = putFld (s.rd Reg.SCALER_BAND_STATE) 11 0 0 :=
    State.rd_wrF_same _ _ _ (by decide) (by decide)
  constructor
  · unfold State.rdF
    rw [hrd, fld_putFld_same _ _ _ _ (by decide)]
    rfl
  · unfold State.rdF
    rw [hrd, fld_putFld_other _ _ _ _ _ _ (by decide) (.inr (by decide))]

theorem cycleExpired_counts {first last : Nat} (h : s.colour.span = some (first, last))
    (hlate : first + atLeast1 (s.rdF Reg.SCALER_CYCLE_CFG 7 0) ≤ s.rd Reg.SCALER_STRIP_NUM - 1) :
    ∃ u : State, exec .cycleExpired s = .next u ∧
      u.rd Reg.SCALER_CYCLE_EXPIRED = satInc 32 (s.rd Reg.SCALER_CYCLE_EXPIRED) ∧
      u.rdF Reg.SCALER_BAND_STATE 11 0 = 0 ∧ u.rdF Reg.SCALER_BAND_STATE 31 12 = s.rdF Reg.SCALER_BAND_STATE 31 12 ∧
      u.bit (Reg.INT_STATUS Reg.pageSCALER) 9 = true ∧ u.colour.patches = [] ∧ u.colour.span = none ∧
      u.colour.armed = s.colour.armed ∧
      s.regsBut u [Reg.SCALER_CYCLE_EXPIRED, Reg.SCALER_BAND_STATE, Reg.INT_STATUS Reg.pageSCALER] ∧
      { u with regs := s.regs, colour := s.colour } = s := by
  obtain ⟨hdone, hrest⟩ := State.bands_newCycle ((s.count Reg.SCALER_CYCLE_EXPIRED).intSet Reg.pageSCALER 9)
  refine ⟨((s.count Reg.SCALER_CYCLE_EXPIRED).intSet Reg.pageSCALER 9).newCycle, ?_, ?_, hdone, hrest.trans ?_, ?_, rfl, rfl, rfl, ?_, rfl⟩
  · rw [execCycleExpired_span h, if_pos hlate]
  · rw [State.rd_newCycle, State.rd_wrF_of_ne _ _ _ _ (by decide), State.rd_intSet_of_ne _ _ (by decide), State.rd_count_same]
  · refine State.rdF_of_rd_eq ?_
    rw [State.rd_intSet_of_ne _ _ (by decide), State.rd_count_of_ne _ (by decide)]
  · refine (State.bit_of_rd_eq ((State.rd_newCycle _).trans (State.rd_wrF_of_ne _ _ _ _ (by decide)))).trans ?_
    exact (State.bit_intSet _ _ _ _ _ (by decide)).trans (if_pos ⟨rfl, rfl⟩)
  · intro k hk
    simp only [List.mem_cons, List.not_mem_nil, or_false, not_or] at hk
    obtain ⟨hcount, hband, hint⟩ := hk
    rw [State.rd_newCycle, State.rd_wrF_of_ne _ _ _ _ hband, State.rd_intSet_of_ne _ _ hint, State.rd_count_of_ne _ hcount]

end
end Sys2Proof.Machine
end

section
/-! The Scaler: result sets, strips and drift (R284, R297, R305, R306), and the obligation about its commands. -/

namespace Sys2Proof.Machine

/-! ## Memory that a write reaches -/

/-- A word is poisoned as each of its bytes is. -/
theorem State.poisonedIn_word (s : State) (a : Nat) : s.poisonedIn (a / 8 * 8) 8 = s.poisonedIn a 1 := by
  have hword : ∀ w, (decide (a / 8 * 8 / 8 ≤ w) && decide (w * 8 < a / 8 * 8 + 8)) = (decide (a / 8 ≤ w) && decide (w * 8 < a + 1)) := by
    intro w
    rw [Bool.eq_iff_iff]
    simp only [Bool.and_eq_true, decide_eq_true_eq]
    omega
  have hblock : a / 8 * 8 / 256 = a / 256 := by omega
  have hword' : (a / 8 * 8 + 8 - 1) / 256 = a / 256 := by omega
  unfold State.poisonedIn
  simp only [hword, hblock, hword', Nat.add_sub_cancel]
  rfl

/-- Data that begins on a word reaches in part the word of its last byte alone. -/
theorem eq_of_mem_partWords {a n w : Nat} (ha : a % 8 = 0) (h : w ∈ partWords a n) : w = (a + n - 1) / 8 := by
  unfold partWords at h
  obtain ⟨hw, hpart⟩ := List.mem_filter.1 h
  obtain ⟨i, hi, rfl⟩ := List.mem_map.1 hw
  have := List.mem_range.1 hi
  simp only [Bool.or_eq_true, decide_eq_true_eq] at hpart
  omega

theorem State.memBytes_memWrite_same (s : State) (a : Nat) (l : List Byte) : (s.memWrite a l).memBytes a l.length = l := by
  refine List.ext_getElem (by simp [State.memBytes]) fun i hi hi' => ?_
  simp only [State.memBytes, List.getElem_map, List.getElem_range]
  rw [State.memByte_memWrite, if_pos (by omega), Nat.add_sub_cancel_left, List.getD_eq_getElem _ _ hi']

@[simp] theorem State.rd_memWrite (s : State) (a : Nat) (l : List Byte) (k : Nat) : (s.memWrite a l).rd k = s.rd k := rfl

@[simp] theorem State.agree_memWrite {s t : State} {ps : List Part} (a : Nat) (l : List Byte) (hj : .job ∈ ps)
    (hd : .dram ∈ ps) : s.Agree ps (t.memWrite a l) ↔ s.Agree ps t := by simp [State.memWrite, hj, hd]

/-- A write from the start of a word puts its bytes into job memory, where the word of its last byte is readable. -/
theorem State.dramOnly_of_aligned {s : State} {a : Nat} {l : List Byte} (cls : Nat) (ha : a % 8 = 0)
    (hlast : s.poisonedIn (a + l.length - 1) 1 = false) : (s.memWrite a l).DramOnly (s.dramWrite cls a l) :=
  State.dramOnly_dramWrite cls fun w hw => by
    rw [eq_of_mem_partWords ha hw, s.poisonedIn_word, hlast]

section
variable {s : State}

/-! ## RESULT_SET_PUBLISH -/

/-- The slot that the next result set takes. -/
def State.resultAddr (s : State) : Nat :=
  s.region58 + s.rdF Reg.SCALER_RESULT_BASE 16 0 * 4096 + s.rdF Reg.SCALER_RESULT_WRITE 7 0 * 65536
def State.resultNext (s : State) : Nat := (s.rdF Reg.SCALER_RESULT_WRITE 7 0 + 1) % s.resultSlots

/-- A set leaves the list of those that wait. -/
def State.setTaken (s : State) (x : List Byte × Bool) : State := s.modColour (fun u => { u with sets := u.sets.erase x })

/-- The set stands in its slot, and the write index moves on. -/
def State.setStored (s : State) (x : List Byte × Bool) : State :=
  (((s.setTaken x).dramWrite 2 s.resultAddr x.1).wr Reg.SCALER_RESULT_WRITE s.resultNext).intSet Reg.pageSCALER 8

theorem execResultSetPublish_none {marks : Bool} (h : s.colour.sets.find? (fun x => x.2 == marks) = none) :
    exec (.resultSetPublish marks) s = .next s := by
  change execResultSetPublish marks s = _
  unfold execResultSetPublish
  rw [h]

theorem execResultSetPublish_some {marks : Bool} {x : List Byte × Bool}
    (h : s.colour.sets.find? (fun x => x.2 == marks) = some x) :
    exec (.resultSetPublish marks) s =
      if s.resultNext = s.rdF Reg.SCALER_RESULT_READ 7 0 || !s.inRegion 58 s.resultAddr 65536 then
        .next (((s.setTaken x).count Reg.SCALER_RESULT_OVERFLOW).intSet Reg.pageSCALER 13)
      else
        let v := if !(s.setStored x).crewRuns 1 then s.setStored x
          else if marks then (s.setStored x).regPolicy x.1 else (s.setStored x).tonePolicy x.1
        .next (if !(s.setStored x).crewRuns 1 || v.rdF Reg.SCALER_LOOP_CTRL 3 0 == 0 then v
          else v.wr Reg.SCALER_RESULT_READ s.resultNext) := by
  change execResultSetPublish marks s = _
  unfold execResultSetPublish
  rw [h]
  rfl

theorem State.agree_setTaken (x : List Byte × Bool) : s.Agree [.colour] (s.setTaken x) := by
  rw [State.setTaken, State.agree_modColour _ (by simp)]
  exact .refl s

theorem resultSet_discarded {marks : Bool} {x : List Byte × Bool} (h : s.colour.sets.find? (fun x => x.2 == marks) = some x)
    (hfull : s.resultNext = s.rdF Reg.SCALER_RESULT_READ 7 0) :
    ∃ u : State, exec (.resultSetPublish marks) s = .next u ∧
      u.colour.sets = s.colour.sets.erase x ∧
      u.rd Reg.SCALER_RESULT_OVERFLOW = satInc 32 (s.rd Reg.SCALER_RESULT_OVERFLOW) ∧
      u.bit (Reg.INT_STATUS Reg.pageSCALER) 13 = true ∧
      s.regsBut u [Reg.SCALER_RESULT_OVERFLOW, Reg.INT_STATUS Reg.pageSCALER] ∧
      { u with regs := s.regs, colour := s.colour } = s := by
  refine ⟨((s.setTaken x).count Reg.SCALER_RESULT_OVERFLOW).intSet Reg.pageSCALER 13, ?_, rfl, ?_, ?_, ?_, ?_⟩
  · rw [execResultSetPublish_some h, if_pos (by simp [hfull])]
  · rw [State.rd_intSet_of_ne _ _ (by decide), State.rd_count_same, State.setTaken, State.rd_modColour]
  · exact (State.bit_intSet _ _ _ _ _ (by decide)).trans (if_pos ⟨rfl, rfl⟩)
  · intro k hk
    simp only [List.mem_cons, List.not_mem_nil, or_false, not_or] at hk
    rw [State.rd_intSet_of_ne _ _ hk.2, State.rd_count_of_ne _ hk.1, State.setTaken, State.rd_modColour]
  · exact State.Agree.revert_eq ((State.agree_intSet _ _).2 ((State.agree_count _).2 (State.agree_setTaken x)))

/-- While no policy of the loop is on, firmware makes nothing of a set. -/
theorem State.bit_of_loopOff {t : State} (h : t.rdF Reg.SCALER_LOOP_CTRL 3 0 = 0) {i : Nat} (hi : i < 4) :
    t.bit Reg.SCALER_LOOP_CTRL i = false := by
  unfold State.rdF at h
  have hbit := testBit_fld (t.rd Reg.SCALER_LOOP_CTRL) 3 0 i
  rw [h, Nat.zero_testBit] at hbit
  unfold State.bit
  rw [bitOf_eq_testBit]
  simpa [hi] using hbit.symm

theorem State.tonePolicy_of_off {t : State} (set : List Byte) (h : t.rdF Reg.SCALER_LOOP_CTRL 3 0 = 0) : t.tonePolicy set = t := by
  unfold State.tonePolicy
  rw [State.bit_of_loopOff h (by decide)]
  rfl

theorem State.regFixes_nil (t : State) : t.regFixes [] = t := rfl

theorem State.regPolicy_of_off {t : State} (set : List Byte) (h : t.rdF Reg.SCALER_LOOP_CTRL 3 0 = 0)
    (hcal : ∀ c ∈ channels, smGet (fun _ => none) t.colour.calib c = none) : t.regPolicy set = t := by
  have hnone : channels.filter (fun c => (smGet (fun _ => none) t.colour.calib c).isSome) = [] :=
    List.filter_eq_nil_iff.2 fun c hc => by rw [hcal c hc]; simp
  unfold State.regPolicy
  dsimp only
  rw [hnone, State.bit_of_loopOff h (by decide)]
  exact t.regFixes_nil

theorem State.inRegion_le {r a n : Nat} (h : s.inRegion r a n = true) : a + n ≤ jobBytes := by
  unfold State.inRegion at h
  simp only [Bool.and_eq_true, decide_eq_true_eq] at h
  exact h.2

theorem State.resultAddr_aligned (s : State) : s.resultAddr % 8 = 0 := by
  unfold State.resultAddr State.region58
  omega

theorem resultNext_lt (s : State) : s.resultNext < 2 ^ 32 := lt_trans (mod_atLeast1_lt _ (fld_lt _ _ _)) (by decide)

/-- What a set stored leaves: job memory, the write index and its interrupt. -/
theorem State.setStored_dram {x : List Byte × Bool} (hlast : s.poisonedIn (s.resultAddr + x.1.length - 1) 1 = false) :
    ((s.setTaken x).memWrite s.resultAddr x.1).DramOnly ((s.setTaken x).dramWrite 2 s.resultAddr x.1) :=
  State.dramOnly_of_aligned 2 s.resultAddr_aligned hlast

theorem State.rd_setStored_of_ne {k : Nat} {x : List Byte × Bool} (hlast : s.poisonedIn (s.resultAddr + x.1.length - 1) 1 = false)
    (hwrite : k ≠ Reg.SCALER_RESULT_WRITE) (hint : k ≠ Reg.INT_STATUS Reg.pageSCALER) : (s.setStored x).rd k = s.rd k := by
  rw [State.setStored, State.rd_intSet_of_ne _ _ hint, State.rd_wr_of_ne _ _ hwrite, (State.setStored_dram hlast).rd_eq k,
    State.rd_memWrite, State.setTaken, State.rd_modColour]

theorem State.colour_setStored {x : List Byte × Bool} (hlast : s.poisonedIn (s.resultAddr + x.1.length - 1) 1 = false) :
    (s.setStored x).colour = (s.setTaken x).colour :=
  (State.setStored_dram hlast).agree .colour (by simp)

/-- Nothing but memory, its channels, the list of sets and registers changes. -/
theorem State.agree_setStored {x : List Byte × Bool} (hlast : s.poisonedIn (s.resultAddr + x.1.length - 1) 1 = false) :
    s.Agree [.colour, .job, .dram, .out] (s.setStored x) := by
  rw [State.setStored, State.agree_intSet, State.agree_wr]
  have hmem : (s.setTaken x).Agree [.job, .dram] ((s.setTaken x).memWrite s.resultAddr x.1) :=
    (State.agree_memWrite _ _ (by simp) (by simp)).2 (.refl _)
  exact ((State.agree_setTaken x).mono (by simp)).trans
    ((hmem.mono (by simp)).trans ((State.setStored_dram hlast).agree.mono (by simp)))

theorem resultSet_published {marks : Bool} {x : List Byte × Bool} (h : s.colour.sets.find? (fun x => x.2 == marks) = some x)
    (hfree : s.resultNext ≠ s.rdF Reg.SCALER_RESULT_READ 7 0) (hregion : s.inRegion 58 s.resultAddr 65536 = true)
    (hoff : s.rdF Reg.SCALER_LOOP_CTRL 3 0 = 0)
    (hcal : marks = true → ∀ c ∈ channels, smGet (fun _ => none) s.colour.calib c = none)
    (hlast : s.poisonedIn (s.resultAddr + x.1.length - 1) 1 = false) :
    exec (.resultSetPublish marks) s = .next (s.setStored x) := by
  have hloop : (s.setStored x).rdF Reg.SCALER_LOOP_CTRL 3 0 = 0 :=
    (State.rdF_of_rd_eq (State.rd_setStored_of_ne hlast (by decide) (by decide))).trans hoff
  have hpolicy : (if marks then (s.setStored x).regPolicy x.1 else (s.setStored x).tonePolicy x.1) = s.setStored x := by
    cases marks with
    | false => exact State.tonePolicy_of_off _ hloop
    | true =>
      refine State.regPolicy_of_off _ hloop ?_
      rw [State.colour_setStored hlast]
      exact hcal rfl
  rw [execResultSetPublish_some h, if_neg (by simp [hfree, hregion]), hpolicy]
  dsimp only
  rw [ite_self, hloop, if_pos (by simp)]

theorem resultSet_stored {marks : Bool} {x : List Byte × Bool} (h : s.colour.sets.find? (fun x => x.2 == marks) = some x)
    (hfree : s.resultNext ≠ s.rdF Reg.SCALER_RESULT_READ 7 0) (hregion : s.inRegion 58 s.resultAddr 65536 = true)
    (hoff : s.rdF Reg.SCALER_LOOP_CTRL 3 0 = 0)
    (hcal : marks = true → ∀ c ∈ channels, smGet (fun _ => none) s.colour.calib c = none)
    (hlast : s.poisonedIn (s.resultAddr + x.1.length - 1) 1 = false) :
    ∃ u : State, exec (.resultSetPublish marks) s = .next u ∧
      s.outButDram u ∧ u.colour.sets = s.colour.sets.erase x ∧ u.rd Reg.SCALER_RESULT_WRITE = s.resultNext ∧
      u.rd Reg.SCALER_RESULT_READ = s.rd Reg.SCALER_RESULT_READ ∧ u.bit (Reg.INT_STATUS Reg.pageSCALER) 8 = true ∧
      u.memBytes s.resultAddr x.1.length = x.1 ∧
      s.regsBut u [Reg.SCALER_RESULT_WRITE, Reg.INT_STATUS Reg.pageSCALER] ∧
      { u with regs := s.regs, colour := s.colour, job := s.job, dram := s.dram, out := s.out } = s := by
  refine ⟨s.setStored x, resultSet_published h hfree hregion hoff hcal hlast, (State.setStored_dram hlast).out,
    congrArg ColourUnit.sets (State.colour_setStored hlast), ?_, State.rd_setStored_of_ne hlast (by decide) (by decide), ?_, ?_, ?_,
    State.Agree.revert_eq (State.agree_setStored hlast)⟩
  · rw [State.setStored, State.rd_intSet_of_ne _ _ (by decide), State.rd_wr_same]
    exact Nat.mod_eq_of_lt (resultNext_lt s)
  · rw [State.setStored]
    exact (State.bit_intSet _ _ _ _ _ (by decide)).trans (if_pos ⟨rfl, rfl⟩)
  · have hmem : ∀ a, (s.setStored x).memByte a = ((s.setTaken x).memWrite s.resultAddr x.1).memByte a :=
      (State.setStored_dram hlast).memByte_eq
    have hbytes : (s.setStored x).memBytes s.resultAddr x.1.length
        = ((s.setTaken x).memWrite s.resultAddr x.1).memBytes s.resultAddr x.1.length := by
      unfold State.memBytes
      simp only [hmem]
    rw [hbytes, State.memBytes_memWrite_same]
  · intro k hk
    simp only [List.mem_cons, List.not_mem_nil, or_false, not_or] at hk
    exact State.rd_setStored_of_ne hlast hk.1 hk.2

end
end Sys2Proof.Machine
end

section
/-! The Scaler: strips forced, cycles restarted and drift (R284, R290, R305, R306), and the obligation about its commands. -/

namespace Sys2Proof.Machine

section
variable {s : State} {src : Req}

/-! ## Commands that the host writes -/

theorem State.writeGate_lt {code : Nat} (h : s.writeGate src = some code) : code < 0x10000 := by
  unfold State.writeGate at h
  split_ifs at h
  · cases h; decide
  · cases h; decide

theorem execStairForce_served (hcut : s.cutOff src = false) : exec (.stairForce src) s = .next (s.stairForce src) :=
  if_neg (by simp [hcut])

theorem execCycleRestart_served (hcut : s.cutOff src = false) : exec (.cycleRestart src) s = .next (s.cycleRestart src) :=
  if_neg (by simp [hcut])

theorem stairForce_refused {code : Nat} (hcut : s.cutOff src = false) (hgate : s.writeGate src = some code) :
    exec (.stairForce src) s = .next (s.errAt Reg.pageSCALER code Reg.SCALER_STRIP_CTRL src) := by
  rw [execStairForce_served hcut, State.stairForce, hgate]

theorem cycleRestart_refused {code : Nat} (hcut : s.cutOff src = false) (hgate : s.writeGate src = some code) :
    exec (.cycleRestart src) s = .next (s.errAt Reg.pageSCALER code Reg.SCALER_STRIP_CTRL src) := by
  rw [execCycleRestart_served hcut, State.cycleRestart, hgate]

/-- The strip that STAIR_FORCE names (R284). -/
def State.forcedStrip (s : State) : Nat :=
  ((s.rd Reg.SCALER_STRIP_NUM : Int) - (-(ldiff (ladd s.nextLine 64) (s.stripStart (s.rd Reg.SCALER_STRIP_NUM)))).fdiv
    (atLeast1 s.stripPeriod)).toNat

def State.stairForced (s : State) (k : Nat) : State :=
  s.modColour (fun u => { u with forced := u.forced.filter (· != k) ++ [k] })

theorem State.stairForce_single (hgate : s.writeGate src = none) (hpair : s.pairMode = false) :
    s.stairForce src = s.stairForced s.forcedStrip := by
  unfold State.stairForce
  rw [hgate]
  simp only [hpair, Bool.false_and, Bool.false_eq_true, if_false]
  refine (if_neg ?_).trans rfl
  exact fun h => absurd (hpair.symm.trans h) (by decide)

theorem stairForce_forces (hcut : s.cutOff src = false) (hgate : s.writeGate src = none) (hpair : s.pairMode = false)
    {k : Nat} (hk : k = s.forcedStrip) :
    ∃ u : State, exec (.stairForce src) s = .next u ∧
      u.colour.forced = s.colour.forced.filter (· != k) ++ [k] ∧ u.hasStair k = true ∧ { u with colour := s.colour } = s := by
  subst hk
  refine ⟨s.stairForced s.forcedStrip, ?_, rfl, ?_, rfl⟩
  · rw [execStairForce_served hcut, State.stairForce_single hgate hpair]
  · unfold State.hasStair
    simp [State.stairForced, State.modColour]

theorem State.mirror_of_single (hpair : s.pairMode = false) (key v : Nat) : s.mirror key v = s :=
  if_neg (by simp [hpair])

theorem State.pairMode_newCycle (s : State) : s.newCycle.pairMode = s.pairMode :=
  State.bit_of_rd_eq ((State.rd_newCycle _).trans (s.rd_wrF_of_ne _ _ _ (by decide)))

theorem State.regsBut_newCycle (s : State) : s.regsBut s.newCycle [Reg.SCALER_BAND_STATE] := fun k hk =>
  (State.rd_newCycle k).trans (s.rd_wrF_of_ne _ _ _ (by simpa using hk))

theorem cycleRestart_restarts (hcut : s.cutOff src = false) (hgate : s.writeGate src = none) (hpair : s.pairMode = false) :
    ∃ u : State, exec (.cycleRestart src) s = .next u ∧
      u.rdF Reg.SCALER_BAND_STATE 11 0 = 0 ∧ u.rdF Reg.SCALER_BAND_STATE 31 12 = s.rdF Reg.SCALER_BAND_STATE 31 12 ∧
      u.colour.patches = [] ∧ u.colour.binding = [] ∧ u.colour.span = none ∧ u.colour.armed = s.colour.armed ∧
      s.regsBut u [Reg.SCALER_BAND_STATE] ∧ { u with regs := s.regs, colour := s.colour } = s := by
  obtain ⟨hdone, hrest⟩ := s.bands_newCycle
  refine ⟨s.newCycle, ?_, hdone, hrest, rfl, rfl, rfl, rfl, s.regsBut_newCycle, rfl⟩
  rw [execCycleRestart_served hcut, State.cycleRestart, hgate]
  exact congrArg _ (State.mirror_of_single (s.pairMode_newCycle.trans hpair) _ _)

/-! ## Drift (R305, R306) -/

/-- An array of halves takes the value at its place. -/
theorem State.half_putHalf_same (s : State) (key : Nat → Nat) (i : Nat) {v : Nat} (h : v < 2 ^ 16) :
    (s.putHalf key i v).half key i = v := by
  have hi : 16 * (i % 2) + 15 < 32 := by omega
  unfold State.half State.putHalf
  rw [State.rd_wrF_same _ _ _ (by omega) hi, fld_putFld_same _ _ _ _ (by omega)]
  have hwidth : 16 * (i % 2) + 15 + 1 - 16 * (i % 2) = 16 := by omega
  rw [hwidth]
  exact Nat.mod_eq_of_lt h

theorem State.rd_putHalf_of_ne (s : State) {key : Nat → Nat} {i k : Nat} (v : Nat) (h : k ≠ key (i / 2)) :
    (s.putHalf key i v).rd k = s.rd k := s.rd_wrF_of_ne _ _ _ h

theorem State.half_lt (s : State) (key : Nat → Nat) (i : Nat) : s.half key i < 2 ^ 16 := by
  unfold State.half
  have hwidth : 16 * (i % 2) + 15 + 1 - 16 * (i % 2) = 16 := by omega
  have := fld_lt (s.rd (key (i / 2))) (16 * (i % 2) + 15) (16 * (i % 2))
  rwa [hwidth] at this

theorem unsgn16_lt (x : Int) : unsgn 16 x < 2 ^ 16 := by
  unfold unsgn
  omega

theorem State.regsBut_putHalf (s : State) (key : Nat → Nat) (i v : Nat) : s.regsBut (s.putHalf key i v) [key (i / 2)] :=
  fun _ hk => s.rd_putHalf_of_ne v (by simpa using hk)

/-- The list of channels that await a mean for their reference. -/
def rerefAfter (l : List Nat) (c m : Nat) : List Nat := l.filter (· != c) ++ (if m = 0x8000 then [c] else [])

theorem contains_rerefAfter (l : List Nat) (c m : Nat) : (rerefAfter l c m).contains c = decide (m = 0x8000) := by
  unfold rerefAfter
  split <;> simp [*]

theorem State.reref_eq (s : State) (c : Nat) : s.reref c =
    (s.modColour (fun u => { u with reref := rerefAfter u.reref c (s.half Reg.SCALER_DRIFT_MEAN c) })).putHalf
      Reg.SCALER_DRIFT_REF c (s.half Reg.SCALER_DRIFT_MEAN c) := rfl

theorem driftReref_stores (c : Fin 128) (hcut : s.cutOff src = false) :
    ∃ u : State, exec (.driftReref src c) s = .next u ∧
      u.half Reg.SCALER_DRIFT_REF c = s.half Reg.SCALER_DRIFT_MEAN c ∧
      u.colour.reref.contains c.val = decide (s.half Reg.SCALER_DRIFT_MEAN c = 0x8000) ∧
      s.regsBut u [Reg.SCALER_DRIFT_REF (c / 2)] ∧ { u with regs := s.regs, colour := s.colour } = s :=
  ⟨s.reref c, if_neg (by simp [hcut]), State.half_putHalf_same _ _ _ (s.half_lt _ _), contains_rerefAfter _ _ _,
    State.regsBut_putHalf (s.modColour _) _ _ _, rfl⟩

/-- The state once a bin of a channel has closed, before its reference. -/
def State.binClosed (s : State) (c : Nat) (bins : List (Option Int)) (mean : Nat) : State :=
  (s.modColour (fun u => { u with
    temps := smSet (fun _ => []) u.temps c [], bins := smSet (fun _ => []) u.bins c bins })).putHalf Reg.SCALER_DRIFT_MEAN c mean

theorem State.temps_binClosed (s : State) (c : Nat) (bins : List (Option Int)) (mean : Nat) :
    smGet (fun _ => []) (s.binClosed c bins mean).colour.temps c = [] :=
  smGet_smSet_same (fun _ => []) s.colour.temps c []

theorem State.bins_binClosed (s : State) (c : Nat) (bins : List (Option Int)) (mean : Nat) :
    smGet (fun _ => []) (s.binClosed c bins mean).colour.bins c = bins :=
  smGet_smSet_same (fun _ => []) s.colour.bins c bins

theorem State.half_binClosed (s : State) (c : Nat) (bins : List (Option Int)) {mean : Nat} (h : mean < 2 ^ 16) :
    (s.binClosed c bins mean).half Reg.SCALER_DRIFT_MEAN c = mean := State.half_putHalf_same _ _ _ h

theorem State.regsBut_binClosed (s : State) (c : Nat) (bins : List (Option Int)) (mean : Nat) :
    s.regsBut (s.binClosed c bins mean) [Reg.SCALER_DRIFT_MEAN (c / 2)] := State.regsBut_putHalf (s.modColour _) _ _ _

/-- The figure of a bin, and the mean of the bins in use (R305). -/
def binOf (l : List Int) : Option Int := if l.isEmpty then none else some ((l.foldl (· + ·) 0).fdiv l.length)

def meanOf (bins : List (Option Int)) (n : Nat) : Nat :=
  let used := (bins.take n).filterMap id
  if used.isEmpty || 2 * used.length < n then 0x8000 else unsgn 16 ((used.foldl (· + ·) 0).fdiv used.length)

/-- The bins of a channel once the one that fills has closed. -/
def State.binsAfter (s : State) (c : Nat) : List (Option Int) :=
  (binOf (smGet (fun _ => []) s.colour.temps c) :: smGet (fun _ => []) s.colour.bins c).take 255
def State.meanAfter (s : State) (c : Nat) : Nat := meanOf (s.binsAfter c) (s.rdF Reg.SCALER_DRIFT_CFG 15 8)

theorem State.closeBin_eq (s : State) (c : Nat) : s.closeBin c =
    if (s.binClosed c (s.binsAfter c) (s.meanAfter c)).colour.reref.contains c && s.meanAfter c != 0x8000
    then (s.binClosed c (s.binsAfter c) (s.meanAfter c)).reref c else s.binClosed c (s.binsAfter c) (s.meanAfter c) := rfl

theorem State.driftTrigger_of_noMean {c : Nat}
    (h : s.half Reg.SCALER_DRIFT_MEAN c = 0x8000 ∨ s.half Reg.SCALER_DRIFT_REF c = 0x8000) : s.driftTrigger c = s := by
  unfold State.driftTrigger
  dsimp only
  exact if_pos (by rcases h with h | h <;> simp [h])

theorem meanOf_none (n : Nat) : meanOf [none] n = 0x8000 := by
  have hused : ([none].take n : List (Option Int)).filterMap id = [] := by cases n <;> simp
  unfold meanOf
  rw [hused]
  rfl

theorem meanOf_single (x : Int) : meanOf [some x] 1 = unsgn 16 x := by
  simp [meanOf, Int.fdiv_one]

theorem binOf_single (x : Int) : binOf [x] = some x := by
  simp [binOf, Int.fdiv_one]

theorem driftBin_empty (c : Fin 128) (t : Nat) (htemps : smGet (fun _ => []) s.colour.temps c = [])
    (hbins : smGet (fun _ => []) s.colour.bins c = []) :
    ∃ u : State, exec (.driftBin c t) s = .next u ∧
      u.half Reg.SCALER_DRIFT_MEAN c = 0x8000 ∧ smGet (fun _ => []) u.colour.bins c = [none] ∧
      smGet (fun _ => []) u.colour.temps c = [] ∧ s.regsBut u [Reg.SCALER_DRIFT_MEAN (c / 2)] ∧
      { u with regs := s.regs, frc := s.frc, colour := s.colour } = s := by
  have hlist : (s.till t).binsAfter c = [none] := by
    unfold State.binsAfter
    rw [State.till_colour, htemps, hbins]
    rfl
  have hmean : (s.till t).meanAfter c = 0x8000 := by rw [State.meanAfter, hlist, meanOf_none]
  have hhalf := State.half_binClosed (s.till t) c [none] (mean := 0x8000) (by decide)
  refine ⟨(s.till t).binClosed c [none] 0x8000, ?_, hhalf, State.bins_binClosed _ _ _ _, State.temps_binClosed _ _ _ _,
    State.regsBut_binClosed (s.till t) c _ _, rfl⟩
  change Host.Outcome.next (((s.till t).closeBin c).driftTrigger c) = _
  rw [State.closeBin_eq, hmean, hlist, if_neg (by simp), State.driftTrigger_of_noMean (.inl hhalf)]

theorem driftBin_single (c : Fin 128) (t : Nat) (x : Int) (htemps : smGet (fun _ => []) s.colour.temps c = [x])
    (hbins : smGet (fun _ => []) s.colour.bins c = []) (hcfg : s.rdF Reg.SCALER_DRIFT_CFG 15 8 = 1)
    (href : s.half Reg.SCALER_DRIFT_REF c = 0x8000) (hreref : s.colour.reref = []) :
    ∃ u : State, exec (.driftBin c t) s = .next u ∧
      u.half Reg.SCALER_DRIFT_MEAN c = unsgn 16 x ∧ smGet (fun _ => []) u.colour.bins c = [some x] ∧
      smGet (fun _ => []) u.colour.temps c = [] ∧ s.regsBut u [Reg.SCALER_DRIFT_MEAN (c / 2)] ∧
      { u with regs := s.regs, frc := s.frc, colour := s.colour } = s := by
  have hlist : (s.till t).binsAfter c = [some x] := by
    unfold State.binsAfter
    rw [State.till_colour, htemps, hbins, binOf_single]
    rfl
  have hmean : (s.till t).meanAfter c = unsgn 16 x := by
    have hused : (s.till t).rdF Reg.SCALER_DRIFT_CFG 15 8 = 1 := hcfg
    rw [State.meanAfter, hlist, hused, meanOf_single]
  have hhalf := State.half_binClosed (s.till t) c [some x] (unsgn16_lt x)
  have hnoref : ((s.till t).binClosed c [some x] (unsgn 16 x)).half Reg.SCALER_DRIFT_REF c = 0x8000 :=
    (State.rdF_of_rd_eq (State.regsBut_binClosed (s.till t) c _ _ _ (by simp))).trans href
  refine ⟨(s.till t).binClosed c [some x] (unsgn 16 x), ?_, hhalf, State.bins_binClosed _ _ _ _, State.temps_binClosed _ _ _ _,
    State.regsBut_binClosed (s.till t) c _ _, rfl⟩
  have hwait : ((s.till t).binClosed c [some x] (unsgn 16 x)).colour.reref = [] := hreref
  change Host.Outcome.next (((s.till t).closeBin c).driftTrigger c) = _
  rw [State.closeBin_eq, hmean, hlist, hwait, if_neg (by simp), State.driftTrigger_of_noMean (.inr hnoref)]

end

/-- Settles O31: the record at the read index is passed over or skipped, a cycle that is late starts anew, a set is stored
or discarded, and strips, cycles and drift references follow their commands. -/
theorem scalerCommands : Obligations.ScalerCommands := by
  unfold Obligations.ScalerCommands
  refine ⟨fun l s hcfg hen hrec harmed => scalerTake_nothing_armed l hcfg hen hrec harmed,
    fun l g s hcfg hen hrec harmed _ hgot hport hplan hband hpoison hmore =>
      scalerTake_poisoned l g hcfg hen hrec harmed hgot hport hplan hband hpoison hmore,
    fun l s hwait hidle => execScalerRecordTake_idle l hwait hidle, fun _ _ s hspan hlate => cycleExpired_counts hspan hlate,
    fun _ _ s hspan hearly => ?_, fun s hspan => execCycleExpired_none hspan, fun marks s hnone => execResultSetPublish_none hnone,
    fun marks x s hfind hfull => resultSet_discarded hfind hfull,
    fun marks x s hfind hfree hregion hoff hcal _ hlast => resultSet_stored hfind hfree hregion hoff hcal hlast,
    fun src k s hcut hgate hpair hk => stairForce_forces hcut hgate hpair hk,
    fun src code s hcut hgate => State.refused_errAt (State.writeGate_lt hgate) (stairForce_refused hcut hgate),
    fun src s hcut hgate hpair => cycleRestart_restarts hcut hgate hpair,
    fun src code s hcut hgate => State.refused_errAt (State.writeGate_lt hgate) (cycleRestart_refused hcut hgate),
    fun src c s hcut hmean => ?_, fun src c s hcut hmean => ?_, fun c t s htemps hbins => driftBin_empty c t htemps hbins,
    fun c t x s htemps hbins hcfg href _ hreref => driftBin_single c t x htemps hbins hcfg href hreref⟩
  · exact (execCycleExpired_span hspan).trans (congrArg _ (if_neg (Nat.not_le.2 hearly)))
  · obtain ⟨u, hexec, href, hawait, hregs, hparts⟩ := driftReref_stores c hcut
    exact ⟨u, hexec, href, hawait.trans (decide_eq_false hmean), hregs, hparts⟩
  · obtain ⟨u, hexec, href, hawait, hregs, hparts⟩ := driftReref_stores c hcut
    exact ⟨u, hexec, href.trans hmean, hawait.trans (decide_eq_true hmean), hregs, hparts⟩

end Sys2Proof.Machine
end

section
/-! What retrains and rate changes of the head lanes leave alone (R185, R194, R199 to R202): everything but the lanes, their
pages, the module's readiness and what is sent. -/

namespace Sys2Proof.Machine

/-- A register of the CHANNEL pages. -/
def chKey (k : Nat) : Prop := 0x20000 ≤ k ∧ k < 0xA0000

theorem chKey_page {c k : Nat} (hc : c < 128) (h : 0x20000 + 0x1000 * c ≤ k) (h' : k < 0x21000 + 0x1000 * c) : chKey k := by
  unfold chKey
  omega

theorem chKey_intStatus {c : Nat} (hc : c < 128) : chKey (Reg.INT_STATUS (Reg.pageCH c)) :=
  chKey_page hc (by simp only [Reg.INT_STATUS, Reg.pageCH]; omega) (by simp only [Reg.INT_STATUS, Reg.pageCH]; omega)
theorem chKey_tableStatus {c : Nat} (hc : c < 128) : chKey (Reg.CH_TABLE_STATUS c) :=
  chKey_page hc (by simp only [Reg.CH_TABLE_STATUS]; omega) (by simp only [Reg.CH_TABLE_STATUS]; omega)
theorem chKey_linkStatus {c : Nat} (hc : c < 128) : chKey (Reg.CH_LINK_STATUS c) :=
  chKey_page hc (by simp only [Reg.CH_LINK_STATUS]; omega) (by simp only [Reg.CH_LINK_STATUS]; omega)
theorem chKey_retrainCount {c : Nat} (hc : c < 128) : chKey (Reg.CH_RETRAIN_COUNT c) :=
  chKey_page hc (by simp only [Reg.CH_RETRAIN_COUNT]; omega) (by simp only [Reg.CH_RETRAIN_COUNT]; omega)
theorem chKey_fallbackCount {c : Nat} (hc : c < 128) : chKey (Reg.CH_FALLBACK_COUNT c) :=
  chKey_page hc (by simp only [Reg.CH_FALLBACK_COUNT]; omega) (by simp only [Reg.CH_FALLBACK_COUNT]; omega)

/-- The registers that no lane reaches: those outside the CHANNEL pages but PAIR_STATUS. -/
def laneFree (k : Nat) : Prop := ¬ chKey k ∧ k ≠ Reg.PAIR_PAIR_STATUS

/-- A line unit of which only the frames in production, the lanes stopped and the exchanges owed differ, and where no line
in production is new. -/
def prodOnly (l m : LineUnit) : Prop :=
  m = { l with prod := m.prod, stopped := m.stopped, portStop := m.portStop } ∧ (l.prod = [] → m.prod = [])

theorem prodOnly_of_eq {l m : LineUnit} (h : m = l) : prodOnly l m := by
  subst h
  exact ⟨rfl, id⟩

theorem prodOnly.trans {l m n : LineUnit} (h : prodOnly l m) (h' : prodOnly m n) : prodOnly l n := by
  obtain ⟨hm, hprod⟩ := h
  obtain ⟨hn, hprod'⟩ := h'
  rw [hm] at hn
  exact ⟨hn, hprod' ∘ hprod⟩

/-- What the lanes leave: their own pages aside, the module's readiness, PAIR_STATUS.SILENT, what is sent, and the frames of
lines in production. -/
structure LanesKept (s t : State) : Prop where
  regs : ∀ k, laneFree k → k ∉ moduleKeys → t.rd k = s.rd k
  module : s.modState ≠ 3 → s.modState ≠ 4 → ∀ k, laneFree k → k ∉ tallyKeys → t.rd k = s.rd k
  pairStatus : ∀ i, i ≠ 11 → t.bit Reg.PAIR_PAIR_STATUS i = s.bit Reg.PAIR_PAIR_STATUS i
  line : prodOnly s.line t.line
  pair : t.pair = { s.pair with quiet := t.pair.quiet, grants := t.pair.grants }
  parts : s.Agree [.line, .lanes, .pair, .ring, .mgmt, .out] t

section
variable {s t u : State} {c : Nat}

theorem moduleState_laneFree : laneFree Reg.SYS_MODULE_STATE := by
  unfold laneFree chKey
  decide

theorem moduleState_notMem_tallyKeys : Reg.SYS_MODULE_STATE ∉ tallyKeys := by decide

theorem pair_of_eq {p q : PairUnit} (h : q = p) : q = { p with quiet := q.quiet, grants := q.grants } := by rw [h]

theorem LanesKept.refl (s : State) : LanesKept s s := ⟨fun _ _ _ => rfl, fun _ _ _ _ _ => rfl, fun _ _ => rfl, prodOnly_of_eq rfl, rfl, .refl s⟩

theorem LanesKept.modState (h : LanesKept s t) (h3 : s.modState ≠ 3) (h4 : s.modState ≠ 4) : t.modState = s.modState :=
  State.rdF_of_rd_eq (h.module h3 h4 _ moduleState_laneFree moduleState_notMem_tallyKeys)

theorem LanesKept.trans (h : LanesKept s t) (h' : LanesKept t u) : LanesKept s u where
  regs k hk hm := (h'.regs k hk hm).trans (h.regs k hk hm)
  module h3 h4 k hk ht :=
    have hst := h.modState h3 h4
    (h'.module (hst ▸ h3) (hst ▸ h4) k hk ht).trans (h.module h3 h4 k hk ht)
  pairStatus i hi := (h'.pairStatus i hi).trans (h.pairStatus i hi)
  line := h.line.trans h'.line
  pair := by
    have hpair := h'.pair
    rw [h.pair] at hpair
    exact hpair
  parts := h.parts.trans h'.parts

/-- An update of the lanes' own registers and units. -/
theorem LanesKept.of_own (hregs : ∀ k, ¬ chKey k → t.rd k = s.rd k) (hparts : s.Agree [.lanes, .ring, .out] t) :
    LanesKept s t where
  regs k hk _ := hregs k hk.1
  module _ _ k hk _ := hregs k hk.1
  pairStatus _ _ := State.bit_of_rd_eq (hregs _ (by unfold chKey; decide))
  line := prodOnly_of_eq (hparts .line (by simp))
  pair := pair_of_eq (hparts .pair (by simp))
  parts := hparts.mono (by simp)

theorem ne_of_chKey {a k : Nat} (ha : chKey a) (hk : ¬ chKey k) : k ≠ a := fun h => hk (h ▸ ha)

theorem LanesKept.wr {a : Nat} (v : Nat) (ha : chKey a) : LanesKept s (s.wr a v) :=
  .of_own (fun _ hk => s.rd_wr_of_ne _ (ne_of_chKey ha hk)) ((State.agree_wr _ _).2 (.refl s))

theorem LanesKept.wrF {a : Nat} (hi lo v : Nat) (ha : chKey a) : LanesKept s (s.wrF a hi lo v) := .wr _ ha
theorem LanesKept.wrB {a : Nat} (i : Nat) (b : Bool) (ha : chKey a) : LanesKept s (s.wrB a i b) := .wr _ ha
theorem LanesKept.count {a : Nat} (ha : chKey a) : LanesKept s (s.count a) := .wr _ ha
theorem LanesKept.intSet (i : Nat) (hc : c < 128) : LanesKept s (s.intSet (Reg.pageCH c) i) := .wr _ (chKey_intStatus hc)

theorem LanesKept.modLane (f : Lane → Lane) : LanesKept s (s.modLane c f) :=
  .of_own (fun _ _ => rfl) ((State.agree_modLane _ _ (by simp)).2 (.refl s))

theorem LanesKept.emit (o : Out) : LanesKept s (s.emit o) :=
  .of_own (fun _ _ => rfl) ((State.agree_emit _ (by simp)).2 (.refl s))

theorem LanesKept.toPartner (cls kind : Nat) (fields : List Nat) : LanesKept s (s.toPartner cls kind fields) :=
  .of_own (fun _ _ => State.rd_toPartner _ _ _ _) ((State.agree_toPartner _ _ _ (by simp) (by simp)).2 (.refl s))

theorem LanesKept.tally (code source inst sev arg : Nat) : LanesKept s (s.tally code source inst sev arg) where
  regs _ _ hm := State.rd_tally_of_notMem _ _ _ _ _ _ fun ht => hm (tallyKeys_subset_moduleKeys ht)
  module _ _ _ _ ht := State.rd_tally_of_notMem _ _ _ _ _ _ ht
  pairStatus _ _ := State.bit_of_rd_eq (State.rd_tally_of_notMem _ _ _ _ _ _ (by decide))
  line := prodOnly_of_eq (((State.agree_tally _ _ _ _ _ (by simp)).2 (.refl s) : s.Agree [.mgmt] _) .line (by simp))
  pair := pair_of_eq (((State.agree_tally _ _ _ _ _ (by simp)).2 (.refl s) : s.Agree [.mgmt] _) .pair (by simp))
  parts := (State.agree_tally _ _ _ _ _ (by simp)).2 (.refl s)

/-! ## The state of a lane -/

theorem State.reCondition_of_busy (h3 : s.modState ≠ 3) (h4 : s.modState ≠ 4) : s.reCondition = s := by
  unfold State.reCondition
  rw [if_neg fun h => h3 h.1, if_neg fun h => h4 h.1]

theorem State.bit_showSilent_of_ne {i : Nat} (hi : i ≠ 11) : s.showSilent.bit Reg.PAIR_PAIR_STATUS i = s.bit Reg.PAIR_PAIR_STATUS i := by
  unfold State.showSilent
  split
  · rw [State.bit_wrB _ _ _ _ _ _ (by decide), if_neg fun h => hi h.2]
  · rfl

/-- The registers of a lane's own page that its state shows in. -/
def State.laneShown (s : State) (c st : Nat) : State :=
  let p := Reg.pageCH c
  let s := (s.wrF (Reg.CH_LINK_STATUS c) 3 0 st).setStCode p st
  let s := (s.ready p (st == 5)).degraded p (s.laneHalf c)
  s.fault p (st == 7 || s.scr.fault.contains c)

theorem State.setLaneSt_eq (st : Nat) : s.setLaneSt c st = (s.laneShown c st).showSilent.reCondition := rfl

theorem chKey_status (hc : c < 128) : chKey (Reg.STATUS (Reg.pageCH c)) :=
  chKey_page hc (by simp only [Reg.STATUS, Reg.pageCH]; omega) (by simp only [Reg.STATUS, Reg.pageCH]; omega)

theorem LanesKept.laneShown (st : Nat) (hc : c < 128) : LanesKept s (s.laneShown c st) := by
  refine .of_own (fun k hk => ?_) (by simp [State.laneShown])
  have hlink := ne_of_chKey (chKey_linkStatus hc) hk
  have hstatus := ne_of_chKey (chKey_status hc) hk
  have hint := ne_of_chKey (chKey_intStatus hc) hk
  unfold State.laneShown
  dsimp only
  rw [State.rd_fault_of_ne _ _ hstatus hint, State.rd_degraded_of_ne _ _ hstatus, State.rd_ready_of_ne _ _ hstatus,
    State.rd_setStCode_of_ne _ _ hstatus, State.rd_wrF_of_ne _ _ _ _ hlink]

theorem LanesKept.showSilent : LanesKept s s.showSilent where
  regs _ hk _ := s.rd_showSilent_of_ne hk.2
  module _ _ _ hk _ := s.rd_showSilent_of_ne hk.2
  pairStatus _ hi := State.bit_showSilent_of_ne hi
  line := prodOnly_of_eq ((State.agree_showSilent.2 (.refl s) : s.Agree [] _) .line (by simp))
  pair := pair_of_eq ((State.agree_showSilent.2 (.refl s) : s.Agree [] _) .pair (by simp))
  parts := State.agree_showSilent.2 (.refl s)

theorem LanesKept.reCondition : LanesKept s s.reCondition where
  regs _ _ hm := s.rd_reCondition_of_notMem hm
  module h3 h4 _ _ _ := by rw [State.reCondition_of_busy h3 h4]
  pairStatus _ _ := State.bit_of_rd_eq (s.rd_reCondition_of_notMem (by decide))
  line := prodOnly_of_eq (((State.agree_reCondition (by simp)).2 (.refl s) : s.Agree [.mgmt] _) .line (by simp))
  pair := pair_of_eq (((State.agree_reCondition (by simp)).2 (.refl s) : s.Agree [.mgmt] _) .pair (by simp))
  parts := (State.agree_reCondition (by simp)).2 (.refl s)

theorem LanesKept.setLaneSt (st : Nat) (hc : c < 128) : LanesKept s (s.setLaneSt c st) := by
  rw [State.setLaneSt_eq]
  exact ((LanesKept.laneShown st hc).trans .showSilent).trans .reCondition

/-! ## A lane leaves ACTIVE, and trains again -/

theorem LanesKept.ite {p : Prop} [Decidable p] {a b : State} (ha : LanesKept s a) (hb : LanesKept s b) :
    LanesKept s (if p then a else b) := by
  split
  · exact ha
  · exact hb

/-- The frames of a lane that are not sent yet are sent no more, and it owes no exchange. -/
def State.framesDropped (s : State) (c : Nat) : State := { s with
  line := { s.line with prod := s.line.prod.map (ProdLine.without c), portStop := s.line.portStop.filter (· != c) }
  pair := { s.pair with quiet := smSet (fun _ => []) s.pair.quiet c [] } }

theorem LanesKept.framesDropped : LanesKept s (s.framesDropped c) where
  regs _ _ _ := rfl
  module _ _ _ _ _ := rfl
  pairStatus _ _ := rfl
  line := ⟨rfl, congrArg (List.map (ProdLine.without c))⟩
  pair := rfl
  parts := by simp [State.framesDropped]

theorem LanesKept.leaveActive (hc : c < 128) : LanesKept s (s.leaveActive c) := by
  unfold State.leaveActive
  split
  · exact .refl s
  · have hdropped : LanesKept s ((s.intSet (Reg.pageCH c) 9).framesDropped c) := (LanesKept.intSet 9 hc).trans .framesDropped
    exact .ite (((hdropped.trans (.wrF _ _ _ (chKey_tableStatus hc))).trans (.wrF _ _ _ (chKey_tableStatus hc))).trans
      (.intSet _ hc)) hdropped

theorem LanesKept.tellLane (b : Bool) : LanesKept s (s.tellLane c b) := .ite (.toPartner _ _ _) (.refl s)

theorem LanesKept.sendTraining : LanesKept s (s.sendTraining c) := (LanesKept.modLane _).trans (.emit _)

theorem LanesKept.enterRetrain (hc : c < 128) : LanesKept s (s.enterRetrain c) := by
  have hlink := chKey_linkStatus hc
  unfold State.enterRetrain
  exact ((((((((LanesKept.leaveActive hc).trans (.wrB _ _ hlink)).trans (.wrB _ _ hlink)).trans (.count (chKey_retrainCount hc))).trans
    (.wrB _ _ hlink)).trans (.modLane _)).trans (.setLaneSt _ hc)).trans .sendTraining).trans (.tellLane _)

theorem LanesKept.changeRate (half up : Bool) (hc : c < 128) : LanesKept s (s.changeRate c half up) := by
  have hlink := chKey_linkStatus hc
  have hfall : LanesKept s (if half && !s.laneHalf c
      then ((s.intSet (Reg.pageCH c) 11).count (Reg.CH_FALLBACK_COUNT c)).tally 0x0041 0x20 c 1 0 else s) :=
    .ite (((LanesKept.intSet _ hc).trans (.count (chKey_fallbackCount hc))).trans (.tally _ _ _ _ _)) (.refl s)
  unfold State.changeRate
  exact (((((((hfall.trans (.wrB _ _ hlink)).trans (.wrF _ _ _ hlink)).trans (.wrB _ _ hlink)).trans (.wrB _ _ hlink)).trans
    (.wrB _ _ hlink)).trans (.modLane _)).trans (.emit _)).trans (.setLaneSt _ hc)

theorem LanesKept.startDegraded (up : Bool) (hc : c < 128) : LanesKept s (s.startDegraded c up) :=
  .ite (((LanesKept.leaveActive hc).trans (.changeRate _ _ hc)).trans (.tellLane _)) (.enterRetrain hc)

theorem LanesKept.deferRetrain (up : Bool) (hc : c < 128) : LanesKept s (s.deferRetrain c up) :=
  ((LanesKept.modLane _).trans (.wrB _ _ (chKey_linkStatus hc))).trans (.intSet _ hc)

theorem LanesKept.granted (g : SMap Nat) : LanesKept s { s with pair := { s.pair with grants := g } } where
  regs _ _ _ := rfl
  module _ _ _ _ _ := rfl
  pairStatus _ _ := rfl
  line := prodOnly_of_eq rfl
  pair := rfl
  parts := by simp

theorem LanesKept.askGrant (up : Bool) (hc : c < 128) : LanesKept s (s.askGrant c up) :=
  .ite (.ite ((LanesKept.granted _).trans (.startDegraded up hc)) (.deferRetrain up hc))
    ((LanesKept.modLane _).trans (.toPartner _ _ _))

theorem LanesKept.requestRetrain (up : Bool) (hc : c < 128) : LanesKept s (s.requestRetrain c up) :=
  .ite (.ite (.askGrant up hc) (.deferRetrain up hc)) (.ite (.deferRetrain up hc) (.startDegraded up hc))

theorem LanesKept.releaseOne (hc : c < 128) : LanesKept s (s.releaseOne c) :=
  .ite (.refl s) (.ite (.startDegraded _ hc) (.ite (.askGrant _ hc) (.refl s)))

theorem LanesKept.foldl {f : State → Nat → State} {l : List Nat} (h : ∀ (t : State), ∀ c ∈ l, LanesKept t (f t c)) (s : State) :
    LanesKept s (l.foldl f s) :=
  List.foldlRecOn (motive := fun t : State => LanesKept s t) l _ (.refl s) fun t ht c hc => ht.trans (h t c hc)

theorem mem_channels_lt (h : c ∈ channels) : c < 128 := List.mem_range.1 h

/-- The deferred retrains that start leave what lanes leave. -/
theorem LanesKept.releaseRetrains (s : State) : LanesKept s s.releaseRetrains :=
  .foldl (fun _ _ hc => .releaseOne (mem_channels_lt hc)) s

theorem LanesKept.autoRateUp (s : State) : LanesKept s s.autoRateUp :=
  .foldl (fun t _ hc => .ite (.requestRetrain true (mem_channels_lt hc)) (.refl t)) s

end
end Sys2Proof.Machine
end

section
/-! SAFE and the end of a run: the pages and the parts that they reach (R515, R534, R539). -/

namespace Sys2Proof.Machine

/-- Nothing changes but the registers of these pages and these parts of the state; of the line unit, only what `prodOnly`
lets change. -/
structure Within (ps : List Nat) (qs : List Part) (s t : State) : Prop where
  pages : s.pagesBut t ps
  parts : s.Agree qs t
  line : prodOnly s.line t.line

section
variable {s t u : State} {ps : List Nat} {qs : List Part}

theorem Within.refl (s : State) : Within ps qs s s := ⟨fun _ _ => rfl, .refl s, prodOnly_of_eq rfl⟩

theorem Within.trans (h : Within ps qs s t) (h' : Within ps qs t u) : Within ps qs s u :=
  ⟨h.pages.trans h'.pages, h.parts.trans h'.parts, h.line.trans h'.line⟩

theorem Within.mono {ps' : List Nat} {qs' : List Part} (h : Within ps qs s t) (hps : ps ⊆ ps') (hqs : qs ⊆ qs') :
    Within ps' qs' s t :=
  ⟨fun k hk => h.pages k fun hmem => hk (hps hmem), h.parts.mono hqs, h.line⟩

theorem Within.of_agree (hpages : s.pagesBut t ps) (hparts : s.Agree qs t) (hline : .line ∉ qs) : Within ps qs s t :=
  ⟨hpages, hparts, prodOnly_of_eq (hparts .line hline)⟩

theorem Within.ite {p : Prop} [Decidable p] {a b : State} (ha : Within ps qs s a) (hb : Within ps qs s b) :
    Within ps qs s (if p then a else b) := by
  split
  · exact ha
  · exact hb

theorem Within.foldl {α : Type} {f : State → α → State} {l : List α} (h : ∀ (t : State), ∀ x ∈ l, Within ps qs t (f t x)) (s : State) :
    Within ps qs s (l.foldl f s) :=
  List.foldlRecOn (motive := fun t : State => Within ps qs s t) l _ (.refl s) fun t ht x hx => ht.trans (h t x hx)

theorem Within.wr {a : Nat} (v : Nat) (ha : a / 0x1000 ∈ ps) : Within ps qs s (s.wr a v) where
  pages _ hk := s.rd_wr_of_ne _ fun h => hk (h ▸ ha)
  parts := (State.agree_wr _ _).2 (.refl s)
  line := prodOnly_of_eq rfl

theorem Within.wrF {a : Nat} (hi lo v : Nat) (ha : a / 0x1000 ∈ ps) : Within ps qs s (s.wrF a hi lo v) := .wr _ ha
theorem Within.wrB {a : Nat} (i : Nat) (b : Bool) (ha : a / 0x1000 ∈ ps) : Within ps qs s (s.wrB a i b) := .wr _ ha
theorem Within.count {a : Nat} (ha : a / 0x1000 ∈ ps) : Within ps qs s (s.count a) := .wr _ ha

theorem status_page (p : Nat) : Reg.STATUS p / 0x1000 = p := by simp only [Reg.STATUS]; omega
theorem intStatus_page (p : Nat) : Reg.INT_STATUS p / 0x1000 = p := by simp only [Reg.INT_STATUS]; omega

theorem Within.intSet {p : Nat} (i : Nat) (hp : p ∈ ps) : Within ps qs s (s.intSet p i) := .wr _ ((intStatus_page p).symm ▸ hp)
theorem Within.setStCode {p : Nat} (v : Nat) (hp : p ∈ ps) : Within ps qs s (s.setStCode p v) := .wr _ ((status_page p).symm ▸ hp)
theorem Within.ready {p : Nat} (b : Bool) (hp : p ∈ ps) : Within ps qs s (s.ready p b) := .wr _ ((status_page p).symm ▸ hp)

theorem Within.fault {p : Nat} (b : Bool) (hp : p ∈ ps) : Within ps qs s (s.fault p b) :=
  .ite ((Within.wr _ ((status_page p).symm ▸ hp)).trans (.intSet _ hp)) (.wr _ ((status_page p).symm ▸ hp))

theorem Within.emit (o : Out) (h : .out ∈ qs) : Within ps qs s (s.emit o) :=
  ⟨fun _ _ => rfl, (State.agree_emit _ h).2 (.refl s), prodOnly_of_eq rfl⟩

theorem Within.modLane (c : Nat) (f : Lane → Lane) (h : .lanes ∈ qs) : Within ps qs s (s.modLane c f) :=
  ⟨fun _ _ => rfl, (State.agree_modLane _ _ h).2 (.refl s), prodOnly_of_eq rfl⟩

theorem Within.tally (code source inst sev arg : Nat) (hp : Reg.pageTALLY ∈ ps) (h : .mgmt ∈ qs) :
    Within ps qs s (s.tally code source inst sev arg) :=
  have hparts : s.Agree [.mgmt] (s.tally code source inst sev arg) := (State.agree_tally _ _ _ _ _ (by simp)).2 (.refl s)
  ⟨fun k hk => State.pagesBut_tally s code source inst sev arg k fun hmem => hk (List.mem_singleton.1 hmem ▸ hp),
    hparts.mono (by simpa using h), prodOnly_of_eq (hparts .line (by simp))⟩

/-! ## HALT on the lanes, and the sinks off -/

theorem Within.transmit (c : Nat) (urgent : Bool) (bs : List (Nat × Nat)) (hl : .lanes ∈ qs) (ho : .out ∈ qs) :
    Within ps qs s (s.transmit c urgent bs) := (Within.modLane _ _ hl).trans (.emit _ ho)

theorem Within.sendUrgent (c payload : Nat) (hl : .lanes ∈ qs) (ho : .out ∈ qs) : Within ps qs s (s.sendUrgent c payload) :=
  (Within.emit _ ho).trans (.transmit _ _ _ hl ho)

theorem Within.sendFrame (c : Nat) (words : List Nat) (hl : .lanes ∈ qs) (ho : .out ∈ qs) :
    Within ps qs s (s.sendFrame c words) :=
  (Within.emit _ ho).trans (.transmit _ _ _ hl ho)

/-- The lanes that a stop block has reached. -/
def State.lanesStopped (s : State) (stopped portStop : List Nat) : State :=
  { s with line := { s.line with stopped := stopped, portStop := portStop } }

theorem Within.lanesStopped (stopped portStop : List Nat) (h : .line ∈ qs) : Within ps qs s (s.lanesStopped stopped portStop) where
  pages _ _ := rfl
  parts := by simp [State.lanesStopped, h]
  line := ⟨rfl, id⟩

theorem Within.stopAll (abort : Bool) (cause : Nat) (exchange : Bool) (hline : .line ∈ qs) (hl : .lanes ∈ qs) (ho : .out ∈ qs) :
    Within ps qs s (s.stopAll abort cause exchange) := by
  unfold State.stopAll
  dsimp only
  exact (Within.foldl (fun _ _ _ => .foldl (fun _ _ _ => .sendUrgent _ _ hl ho) _) s).trans (.lanesStopped _ _ hline)

theorem lampOut_page (c : Nat) : Reg.LAMP_CH_OUT (c / 16) (c % 16) / 0x1000 = Reg.pageLAMP (c / 16) := by
  simp only [Reg.LAMP_CH_OUT, Reg.pageLAMP]
  omega

theorem pageLamp_mem {c : Nat} (hc : c < 64) : Reg.pageLAMP (c / 16) ∈ [Reg.pageLAMP 0, Reg.pageLAMP 1, Reg.pageLAMP 2, Reg.pageLAMP 3] := by
  simp only [List.mem_cons, List.not_mem_nil, or_false, Reg.pageLAMP]
  omega

theorem Within.sinkOff {c : Nat} (hc : c < 64) :
    Within [Reg.pageLAMP 0, Reg.pageLAMP 1, Reg.pageLAMP 2, Reg.pageLAMP 3] [.lamp, .out] s (s.sinkOff c) :=
  .of_agree (fun k hk => s.rd_sinkOff_of_ne c fun h => hk (by rw [h, lampOut_page c]; exact pageLamp_mem hc))
    ((State.agree_sinkOff s c (by simp) (by simp)).2 (.refl s)) (by simp)

theorem Within.sinksOff : Within [Reg.pageLAMP 0, Reg.pageLAMP 1, Reg.pageLAMP 2, Reg.pageLAMP 3] [.lamp, .out] s s.sinksOff :=
  .foldl (fun _ _ hc => .sinkOff (List.mem_range.1 hc)) s

theorem lampOut_inj {c g i : Nat} (hi : i < 16) (h : c ≠ 16 * g + i) :
    Reg.LAMP_CH_OUT g i ≠ Reg.LAMP_CH_OUT (c / 16) (c % 16) := by
  simp only [Reg.LAMP_CH_OUT]
  omega

/-- Every sink is off. -/
theorem State.rd_sinksOff {g i : Nat} (hg : g < 4) (hi : i < 16) : s.sinksOff.rd (Reg.LAMP_CH_OUT g i) = 0 := by
  have hmem : 16 * g + i ∈ List.range 64 := List.mem_range.2 (by omega)
  have hoff : ∀ t : State, (t.sinkOff (16 * g + i)).rd (Reg.LAMP_CH_OUT g i) = 0 := by
    intro t
    have h := t.rd_sinkOff_same (16 * g + i)
    rwa [show (16 * g + i) / 16 = g by omega, show (16 * g + i) % 16 = i by omega] at h
  have hkeep : ∀ (l : List Nat) (t : State), (16 * g + i ∈ l ∨ t.rd (Reg.LAMP_CH_OUT g i) = 0) →
      (l.foldl State.sinkOff t).rd (Reg.LAMP_CH_OUT g i) = 0 := by
    intro l
    induction l with
    | nil => exact fun t h => h.resolve_left (List.not_mem_nil)
    | cons c l ih =>
      intro t h
      refine ih _ ?_
      by_cases hc : c = 16 * g + i
      · exact .inr (hc ▸ hoff t)
      · refine h.imp (fun h => (List.mem_cons.1 h).resolve_left fun h' => hc h'.symm) fun h => ?_
        rw [State.rd_sinkOff_of_ne _ _ (lampOut_inj hi hc), h]
  exact hkeep _ s (.inl hmem)

/-! ## A camera port that is disabled -/

/-- The pages that the frames of the camera ports show on. -/
def camPages : List Nat := [Reg.pageCAM 0, Reg.pageCAM 1, Reg.pageISP, Reg.pageSCALER]

theorem Within.stripSkip (hp : Reg.pageSCALER ∈ ps) : Within ps qs s s.stripSkip :=
  (Within.count (a := Reg.SCALER_STRIP_SKIPPED) hp).trans (.intSet _ hp)

theorem Within.colour (x : ColourUnit) (h : .colour ∈ qs) : Within ps qs s { s with colour := x } :=
  ⟨fun _ _ => rfl, by simp [h], prodOnly_of_eq rfl⟩

theorem Within.showPending (b : Nat) (hp : Reg.pageSCALER ∈ ps) : Within ps qs s (s.showPending b) := .wrB _ _ hp
theorem Within.setBandDone (b : Nat) (v : Bool) (hp : Reg.pageSCALER ∈ ps) : Within ps qs s (s.setBandDone b v) := .wrB _ _ hp

theorem Within.loseTrigger (p plan n need : Nat) (hp : Reg.pageSCALER ∈ ps) (h : .colour ∈ qs) :
    Within ps qs s (s.loseTrigger p plan n need) := by
  unfold State.loseTrigger
  split
  · exact .refl s
  · dsimp only
    split
    · refine Within.trans ?_ (.stripSkip hp)
      exact .ite (((Within.colour _ h).trans (.showPending _ hp)).trans (.setBandDone _ _ hp)) (.colour _ h)
    · exact .colour _ h

theorem Within.setCamPort (p : Nat) (x : CamPort) (h : .cam ∈ qs) : Within ps qs s (s.setCamPort p x) :=
  ⟨fun _ _ => rfl, by simp [State.setCamPort, h], prodOnly_of_eq rfl⟩

theorem pageCam_mem {p : Nat} (hp : p < 2) : Reg.pageCAM p ∈ camPages := by
  simp only [camPages, List.mem_cons, List.not_mem_nil, or_false, Reg.pageCAM, Reg.pageISP, Reg.pageSCALER]
  omega

theorem camKey_mem {p k : Nat} (hp : p < 2) (h : 0xC8000 + 0x1000 * p ≤ k) (h' : k < 0xC9000 + 0x1000 * p) :
    k / 0x1000 ∈ camPages := by
  have hpage : k / 0x1000 = Reg.pageCAM p := by simp only [Reg.pageCAM]; omega
  rw [hpage]
  exact pageCam_mem hp

theorem camDropped_mem {p : Nat} (hp : p < 2) : Reg.CAM_FRAME_DROPPED p / 0x1000 ∈ camPages :=
  camKey_mem hp (by simp only [Reg.CAM_FRAME_DROPPED]; omega) (by simp only [Reg.CAM_FRAME_DROPPED]; omega)
theorem camDropLast_mem {p : Nat} (hp : p < 2) : Reg.CAM_DROP_LAST p / 0x1000 ∈ camPages :=
  camKey_mem hp (by simp only [Reg.CAM_DROP_LAST]; omega) (by simp only [Reg.CAM_DROP_LAST]; omega)
theorem camFifoPeak_mem {p : Nat} (hp : p < 2) : Reg.CAM_FIFO_PEAK p / 0x1000 ∈ camPages :=
  camKey_mem hp (by simp only [Reg.CAM_FIFO_PEAK]; omega) (by simp only [Reg.CAM_FIFO_PEAK]; omega)
theorem camPowerStatus_mem {p : Nat} (hp : p < 2) : Reg.CAM_POWER_STATUS p / 0x1000 ∈ camPages :=
  camKey_mem hp (by simp only [Reg.CAM_POWER_STATUS]; omega) (by simp only [Reg.CAM_POWER_STATUS]; omega)
theorem camLaneStatus_mem {p : Nat} (hp : p < 2) : Reg.CAM_LANE_STATUS p / 0x1000 ∈ camPages :=
  camKey_mem hp (by simp only [Reg.CAM_LANE_STATUS]; omega) (by simp only [Reg.CAM_LANE_STATUS]; omega)

theorem fifoLevel_mem (p : Nat) : (if p = 0 then Reg.ISP_FIFO_LEVEL0 else Reg.ISP_FIFO_LEVEL1) / 0x1000 ∈ camPages := by
  split <;> decide

theorem Within.showFifo {p : Nat} (hp : p < 2) : Within camPages qs s (s.showFifo p) := by
  unfold State.showFifo
  exact .ite (((Within.wr _ (fifoLevel_mem p)).trans (.wr _ (camFifoPeak_mem hp))).trans (.intSet 8 (by decide)))
    ((Within.wr _ (fifoLevel_mem p)).trans (.wr _ (camFifoPeak_mem hp)))

theorem Within.showActive : Within camPages qs s s.showActive := .wrF _ _ _ (by decide)

theorem Within.dropFrame {p : Nat} (v cause : Nat) (hp : p < 2) : Within camPages [.cam, .colour, .out] s (s.dropFrame p v cause) := by
  unfold State.dropFrame
  dsimp only
  split
  · exact .refl s
  next f _ =>
    have hcounted := ((Within.setCamPort (s := s) (ps := camPages) (qs := [.cam, .colour, .out]) p { s.camPort p with
        frames := (s.camPort p).frames.map (fun g => if g.id == f.id then { g with dropped := true, lines := [] } else g)
        fifo := (s.camPort p).fifo.filter (fun l => l.frame != f.id) } (by simp)).trans
      (.count (camDropped_mem hp))).trans (.wr (cause + v * 16 + f.num * 65536) (camDropLast_mem hp))
    refine Within.trans (Within.trans (Within.trans ?_ (.intSet _ (pageCam_mem hp))) (.showFifo hp)) .showActive
    split
    · exact hcounted.trans (.loseTrigger _ _ _ _ (by decide) (by simp))
    · exact hcounted

theorem Within.setCamSt {p : Nat} (st : Nat) (hp : p < 2) : Within camPages qs s (s.setCamSt p st) :=
  ((Within.setStCode _ (pageCam_mem hp)).trans (.ready _ (pageCam_mem hp))).trans (.fault _ (pageCam_mem hp))

theorem Within.camLeave {p : Nat} (st : Nat) (hp : p < 2) : Within camPages [.cam, .colour, .out] s (s.camLeave p st) := by
  have hdropped : Within camPages [.cam, .colour, .out] s (s.dropAll p 2) := .foldl (fun _ _ _ => .dropFrame _ _ hp) s
  unfold State.camLeave
  dsimp only
  exact ((Within.ite (hdropped.trans (.setCamPort _ _ (by simp))) (.refl s)).trans (.setCamPort _ _ (by simp))).trans
    (.setCamSt _ hp)

theorem Within.camDisable {p : Nat} (hp : p < 2) : Within camPages [.cam, .colour, .out] s (s.camDisable p) := by
  have hpower : ∀ t : State, Within camPages [.cam, .colour, .out] t (t.camPower p false) := fun t =>
    (Within.wrB _ _ (camPowerStatus_mem hp)).trans (.emit _ (by simp))
  unfold State.camDisable
  dsimp only
  exact ((((Within.camLeave 0 hp).trans (hpower _)).trans (.wrB _ _ (camPowerStatus_mem hp))).trans
    (.setCamPort _ _ (by simp))).trans (.wrF _ _ _ (camLaneStatus_mem hp))

/-! ## SAFE -/

/-- The pages that a safe stop shows on. -/
def stopPages : List Nat := [Reg.pageLAMP 0, Reg.pageLAMP 1, Reg.pageLAMP 2, Reg.pageLAMP 3] ++ camPages

/-- The parts that a safe stop reaches. -/
def stopParts : List Part := [.line, .lanes, .lamp, .cam, .colour, .out]

theorem Within.safeStop (cause : Nat) : Within stopPages stopParts s (s.safeStop cause) := by
  have hlights : Within stopPages stopParts s (((s.stopAll false cause false).sinksOff).modLine (fun l => { l with portStop := [] })) :=
    ((Within.stopAll false cause false (by decide) (by decide) (by decide)).trans
      (Within.sinksOff.mono (by decide) (by decide))).trans (.lanesStopped _ _ (by decide))
  have hcams : ∀ t : State, Within stopPages stopParts t
      ([0, 1].foldl (fun s p => if s.camSt p = 0 then s else s.camDisable p) t) :=
    Within.foldl (fun t p hp => .ite (.refl t) ((Within.camDisable (by
      simp only [List.mem_cons, List.not_mem_nil, or_false] at hp; omega)).mono (by decide) (by decide)))
  exact hlights.trans (hcams _)

theorem Within.setModule (st : Nat) (hsys : Reg.pageSYS ∈ ps) (htally : Reg.pageTALLY ∈ ps) (h : .mgmt ∈ qs) :
    Within ps qs s (s.setModule st) :=
  .ite (.refl s) ((((Within.wr (a := Reg.SYS_MODULE_STATE) _ hsys).trans (.setStCode _ hsys)).trans (.intSet _ hsys)).trans
    (.tally _ _ _ _ _ htally h))

theorem Within.rowsLose : Within [Reg.pageJOB] [.job] s s.rowsLose := by
  obtain ⟨hrd, _, _, _, hparts⟩ := State.rowsShown_rowsLose (s := s)
  refine .of_agree (fun k hk => hrd k (fun hmem => hk ?_) (fun h => hk ?_)) hparts (by simp)
  · simp only [streamKeys, List.mem_cons, List.not_mem_nil, or_false] at hmem
    rcases hmem with rfl | rfl | rfl <;> decide
  · subst h; decide

end
end Sys2Proof.Machine
end

section
/-! The run state, and the end of a run (R89, R534). -/

namespace Sys2Proof.Machine

section
variable {s t : State} {r : Nat}

/-! ## The run state -/

/-- The registers in which the run state shows. -/
def runKeys : List Nat := [Reg.STATUS Reg.pageLINE, Reg.SYS_MODULE_STATE] ++ planes.map (fun p => Reg.STATUS (Reg.pagePLANE p))

theorem planeStatus_mem {p : Nat} (h : p ∈ planes) : Reg.STATUS (Reg.pagePLANE p) ∈ planes.map (fun p => Reg.STATUS (Reg.pagePLANE p)) :=
  List.mem_map.2 ⟨p, h, rfl⟩

theorem State.regsBut_showPlanes (s : State) (r : Nat) :
    s.regsBut (s.showPlanes r) (planes.map (fun p => Reg.STATUS (Reg.pagePLANE p))) :=
  List.foldlRecOn (motive := fun t : State => s.regsBut t _) planes _ (fun _ _ => rfl) fun t ht p hp => by
    have hset : ∀ v, t.regsBut (t.setStCode (Reg.pagePLANE p) v) (planes.map (fun p => Reg.STATUS (Reg.pagePLANE p))) :=
      fun v k hk => State.rd_setStCode_of_ne _ _ fun h => hk (h ▸ planeStatus_mem hp)
    refine ht.trans ?_
    split
    · exact hset 0
    · split
      · exact hset _
      · exact fun _ _ => rfl

theorem State.agree_showPlanes (s : State) (r : Nat) : s.Agree [] (s.showPlanes r) :=
  List.foldlRecOn (motive := fun t : State => s.Agree [] t) planes _ (.refl s) fun t ht p _ => by
    split
    · exact (State.agree_setStCode _ _).2 ht
    · split
      · exact (State.agree_setStCode _ _).2 ht
      · exact ht

/-- STATUS.STATE of LINE and of the planes, before the module state shows the run state. -/
def State.runShown (s : State) (r : Nat) : State := (s.setStCode Reg.pageLINE r).showPlanes r

theorem State.setRun_eq (s : State) (r : Nat) : s.setRun r =
    if (s.runShown r).modState = 5 then (s.runShown r).wrF Reg.SYS_MODULE_STATE 5 4 r else s.runShown r := rfl

theorem lineStatus_notMem_planes : Reg.STATUS Reg.pageLINE ∉ planes.map (fun p => Reg.STATUS (Reg.pagePLANE p)) := by decide
theorem moduleState_notMem_planes : Reg.SYS_MODULE_STATE ∉ planes.map (fun p => Reg.STATUS (Reg.pagePLANE p)) := by decide

theorem State.regsBut_setRun (s : State) (r : Nat) : s.regsBut (s.setRun r) runKeys := by
  intro k hk
  simp only [runKeys, List.cons_append, List.nil_append, List.mem_cons, not_or] at hk
  obtain ⟨hline, hmodule, hplanes⟩ := hk
  have hshown : (s.runShown r).rd k = s.rd k :=
    (State.regsBut_showPlanes _ r k hplanes).trans (State.rd_setStCode_of_ne _ _ hline)
  rw [State.setRun_eq]
  split
  · rw [State.rd_wrF_of_ne _ _ _ _ hmodule, hshown]
  · exact hshown

theorem State.agree_setRun (s : State) (r : Nat) : s.Agree [] (s.setRun r) := by
  have hshown : s.Agree [] (s.runShown r) :=
    ((State.agree_setStCode _ _).2 (.refl s)).trans (State.agree_showPlanes _ r)
  rw [State.setRun_eq]
  split
  · exact (State.agree_wrF _ _ _ _).2 hshown
  · exact hshown

theorem State.rd_setRun_status (s : State) (r : Nat) :
    (s.setRun r).rd (Reg.STATUS Reg.pageLINE) = putFld (s.rd (Reg.STATUS Reg.pageLINE)) 7 4 r := by
  have hshown : (s.runShown r).rd (Reg.STATUS Reg.pageLINE) = putFld (s.rd (Reg.STATUS Reg.pageLINE)) 7 4 r :=
    (State.regsBut_showPlanes _ r _ lineStatus_notMem_planes).trans (State.rd_setStCode_same _ _ rfl)
  rw [State.setRun_eq]
  split
  · rw [State.rd_wrF_of_ne _ _ _ _ (by decide), hshown]
  · exact hshown

theorem State.runSt_setRun (s : State) (hr : r < 16) : (s.setRun r).runSt = r := by
  unfold State.runSt State.stCode State.rdF
  rw [State.rd_setRun_status, fld_putFld_same _ _ _ _ (by decide)]
  exact Nat.mod_eq_of_lt hr

theorem State.modState_runShown (s : State) (r : Nat) : (s.runShown r).rd Reg.SYS_MODULE_STATE = s.rd Reg.SYS_MODULE_STATE :=
  (State.regsBut_showPlanes _ r _ moduleState_notMem_planes).trans (State.rd_setStCode_of_ne _ _ (by decide))

/-- In PRINT the module state shows the run state. -/
theorem State.rd_setRun_module (h : s.modState = 5) : (s.setRun r).rd Reg.SYS_MODULE_STATE = putFld (s.rd Reg.SYS_MODULE_STATE) 5 4 r := by
  have hprint : (s.runShown r).modState = 5 := (State.rdF_of_rd_eq (s.modState_runShown r)).trans h
  rw [State.setRun_eq, if_pos hprint, State.rd_wrF_same _ _ _ (by decide) (by decide), State.modState_runShown]

/-! ## A run that has ended -/

/-- The run state is IDLE, RUN_END is raised, and no line is in production. -/
structure RunEnded (s : State) : Prop where
  runSt : s.runSt = 0
  raised : s.bit (Reg.INT_STATUS Reg.pageLINE) 9 = true
  prod : s.line.prod = []
  finalLine : s.line.finalLine = none

theorem prodOnly.finalLine_eq {l m : LineUnit} (h : prodOnly l m) : m.finalLine = l.finalLine := by rw [h.1]

theorem RunEnded.within {ps : List Nat} {qs : List Part} (h : RunEnded s) (hw : Within ps qs s t) (hp : Reg.pageLINE ∉ ps) :
    RunEnded t where
  runSt := (State.rdF_of_rd_eq (hw.pages _ (by rwa [status_page]))).trans h.runSt
  raised := (State.bit_of_rd_eq (hw.pages _ (by rwa [intStatus_page]))).trans h.raised
  prod := hw.line.2 h.prod
  finalLine := hw.line.finalLine_eq.trans h.finalLine

theorem lineStatus_laneFree : laneFree (Reg.STATUS Reg.pageLINE) := by
  unfold laneFree chKey
  decide
theorem lineInt_laneFree : laneFree (Reg.INT_STATUS Reg.pageLINE) := by
  unfold laneFree chKey
  decide

theorem RunEnded.lanes (h : RunEnded s) (hl : LanesKept s t) : RunEnded t where
  runSt := (State.rdF_of_rd_eq (hl.regs _ lineStatus_laneFree (by decide))).trans h.runSt
  raised := (State.bit_of_rd_eq (hl.regs _ lineInt_laneFree (by decide))).trans h.raised
  prod := hl.line.2 h.prod
  finalLine := hl.line.finalLine_eq.trans h.finalLine

theorem Within.setTimer {ps : List Nat} {qs : List Part} (n : Nat) (x : Timer) (h : .tio ∈ qs) : Within ps qs s (s.setTimer n x) :=
  ⟨fun _ _ => rfl, by simp [State.setTimer, h], prodOnly_of_eq rfl⟩

theorem timerStatus_page {n : Nat} (hn : n < 16) : Reg.TIO_T_STATUS n / 0x1000 = Reg.pageTIO := by
  simp only [Reg.TIO_T_STATUS, Reg.pageTIO]
  omega

theorem Within.loseUnfired (n : Nat) : Within [Reg.pageTIO, Reg.pageSCALER] [.tio, .colour] s (s.loseUnfired n) :=
  .foldl (fun _ _ _ => .loseTrigger _ _ _ _ (by decide) (by decide)) s

theorem Within.endLineTimers : Within [Reg.pageTIO, Reg.pageSCALER] [.tio, .colour] s s.endLineTimers := by
  have hticks : ∀ t : State, Within [Reg.pageTIO, Reg.pageSCALER] [.tio, .colour] t { t with tio := { t.tio with ticks := [] } } :=
    fun t => ⟨fun _ _ => rfl, by simp, prodOnly_of_eq rfl⟩
  refine Within.trans (.foldl (fun t n hn => ?_) s) (hticks _)
  have hkey : Reg.TIO_T_STATUS n / 0x1000 ∈ [Reg.pageTIO, Reg.pageSCALER] := by
    rw [timerStatus_page (List.mem_range.1 hn)]
    decide
  have hlost : ∀ x, Within [Reg.pageTIO, Reg.pageSCALER] [.tio, .colour] t
      ((if (t.timer n).strips.isEmpty then t else t.loseUnfired n).setTimer n x) := fun x =>
    (Within.ite (.refl t) (.loseUnfired n)).trans (.setTimer n x (by decide))
  exact .ite ((hlost _).trans (.wrF _ _ _ hkey)) (hlost _)

/-- The pages that SAFE and the end of a run show on, but for the run state. -/
def safePages : List Nat := stopPages ++ [Reg.pageSYS, Reg.pageTALLY, Reg.pageJOB]
def safeParts : List Part := stopParts ++ [.mgmt, .job]

theorem Within.enterSafe (cause : Nat) : Within safePages safeParts s (s.enterSafe cause) := by
  have hsafe : Within safePages safeParts s ((s.safeStop cause).setModule 7) :=
    ((Within.safeStop cause).mono (by decide) (by decide)).trans (.setModule 7 (by decide) (by decide) (by decide))
  refine .ite (hsafe.trans ?_) hsafe
  refine Within.trans ?_ (Within.rowsLose.mono (by decide) (by decide))
  exact ⟨fun _ _ => rfl, by simp [safeParts], prodOnly_of_eq rfl⟩

/-- The run state is IDLE, before the timers end and the module leaves PRINT. -/
def State.runCleared (s : State) : State :=
  let s := s.modLine (fun l => { l with
    prod := [], due := [], finalLine := none, missStop := false, sealStop := [], lateRun := 0, runIntervals := 0, runTicks := 0 })
  let s := { s with colour := { s.colour with forced := [] } }
  (s.setRun 0).intSet Reg.pageLINE 9

theorem State.runEnded_runCleared (s : State) : RunEnded s.runCleared := by
  obtain ⟨t, ht⟩ : ∃ t : State, t = { s.modLine (fun l => { l with
    prod := [], due := [], finalLine := none, missStop := false, sealStop := [], lateRun := 0, runIntervals := 0, runTicks := 0 }) with
    colour := { s.colour with forced := [] } } := ⟨_, rfl⟩
  have hcleared : s.runCleared = (t.setRun 0).intSet Reg.pageLINE 9 := by rw [ht]; rfl
  have hline : (t.setRun 0).line = t.line := (t.agree_setRun 0) .line (by simp)
  rw [hcleared]
  refine ⟨?_, (State.bit_intSet _ _ _ _ _ (by decide)).trans (if_pos ⟨rfl, rfl⟩), ?_, ?_⟩
  · exact (State.rdF_of_rd_eq (State.rd_intSet_of_ne _ _ (by decide))).trans (t.runSt_setRun (by decide))
  · exact (congrArg LineUnit.prod hline).trans (by rw [ht]; rfl)
  · exact (congrArg LineUnit.finalLine hline).trans (by rw [ht]; rfl)

/-- However a run ends, it has ended. -/
theorem State.runEnded_endRun (s : State) : RunEnded s.endRun := by
  have htimers : RunEnded s.runCleared.endLineTimers := s.runEnded_runCleared.within .endLineTimers (by decide)
  have hmodule : ∀ st, RunEnded (s.runCleared.endLineTimers.setModule st) := fun st =>
    htimers.within (.setModule (ps := [Reg.pageSYS, Reg.pageTALLY]) (qs := [.mgmt]) st (by decide) (by decide) (by decide)) (by decide)
  have hleft : RunEnded (if s.runCleared.endLineTimers.modState ≠ 5 then s.runCleared.endLineTimers
      else if s.runCleared.endLineTimers.dram.stop && s.runCleared.endLineTimers.stopsAlone
        then s.runCleared.endLineTimers.enterSafe causeSafeStop
      else s.runCleared.endLineTimers.setModule (if s.runCleared.endLineTimers.laneCondition then 4 else 3)) := by
    split
    · exact htimers
    · split
      · exact htimers.within (.enterSafe _) (by decide)
      · exact hmodule _
  exact (hleft.lanes (.releaseRetrains _)).lanes (.autoRateUp _)

end
end Sys2Proof.Machine
end

section
/-! The run of a module: an accepted arm (R89, R285, R534). -/

namespace Sys2Proof.Machine

section
variable {s t : State} {src : Req}

/-! ## The run number on the lanes, and the tables that wait -/

/-- A register that the arming of a run changes on the pages of the lanes. -/
def armKey (k : Nat) : Prop := ∃ c, k = Reg.CH_TABLE_STATUS c ∨ k = Reg.CH_PROTO_STATUS c

/-- The lanes told the number of the run, the tables that wait sent. -/
def State.runNumbered (s : State) : State :=
  channels.foldl (fun s c => s.wrF (Reg.CH_PROTO_STATUS c) 7 0 s.line.runNum) s.emitTables

theorem State.rd_emitTable_of_ne {c k : Nat} (h : k ≠ Reg.CH_TABLE_STATUS c) : (s.emitTable c).rd k = s.rd k := by
  unfold State.emitTable
  dsimp only
  split
  · rw [State.rd_wrF_of_ne _ _ _ _ h]
    rfl
  · rfl

theorem State.agree_emitTable (c : Nat) : s.Agree [.lanes, .out] (s.emitTable c) := by
  have hsent : ∀ words, s.Agree [.lanes, .out] (s.sendFrame c words) := fun words =>
    (Within.sendFrame (ps := []) c words (by simp) (by simp)).parts
  unfold State.emitTable
  dsimp only
  split
  · exact (State.agree_wrF _ _ _ _).2 (hsent _)
  · exact .refl s

theorem State.rd_runNumbered {k : Nat} (h : ¬ armKey k) : s.runNumbered.rd k = s.rd k := by
  have htables : s.emitTables.rd k = s.rd k :=
    List.foldlRecOn (motive := fun t : State => t.rd k = s.rd k) channels _ rfl fun t ht c _ =>
      (State.rd_emitTable_of_ne fun hk => h ⟨c, .inl hk⟩).trans ht
  refine List.foldlRecOn (motive := fun t : State => t.rd k = s.rd k) channels _ htables fun t ht c _ => ?_
  rw [State.rd_wrF_of_ne _ _ _ _ fun hk => h ⟨c, .inr hk⟩, ht]

theorem State.agree_runNumbered (s : State) : s.Agree [.lanes, .out] s.runNumbered := by
  have htables : s.Agree [.lanes, .out] s.emitTables :=
    List.foldlRecOn (motive := fun t : State => s.Agree [.lanes, .out] t) channels _ (.refl s) fun t ht c _ =>
      ht.trans (t.agree_emitTable c)
  exact List.foldlRecOn (motive := fun t : State => s.Agree [.lanes, .out] t) channels _ htables fun t ht c _ =>
    (State.agree_wrF _ _ _ _).2 ht

theorem not_armKey_of_not_chKey {k : Nat} (h : k < 0x20000 ∨ (0xA0000 ≤ k ∧ k % 0x1000 ≠ 0x84 ∧ k % 0x1000 ≠ 0xAC)) : ¬ armKey k := by
  rintro ⟨c, rfl | rfl⟩ <;> simp only [Reg.CH_TABLE_STATUS, Reg.CH_PROTO_STATUS] at h <;> omega

theorem lineOffset_not_armKey (c : Nat) : ¬ armKey (Reg.CH_LINE_OFFSET c) := by
  rintro ⟨d, h | h⟩ <;> simp only [Reg.CH_TABLE_STATUS, Reg.CH_PROTO_STATUS, Reg.CH_LINE_OFFSET] at h <;> omega

/-! ## The greatest line offset -/

theorem State.maxOffset_congr (hjob : t.rd Reg.JOB_JOB_CFG = s.rd Reg.JOB_JOB_CFG)
    (hoff : ∀ c, t.rd (Reg.CH_LINE_OFFSET c) = s.rd (Reg.CH_LINE_OFFSET c)) : t.maxOffset = s.maxOffset := by
  have hplanes : t.enabledPlanes = s.enabledPlanes := List.filter_congr fun p _ => State.bit_of_rd_eq hjob
  have hone : ∀ c, t.rdF (Reg.CH_LINE_OFFSET c) 17 0 = s.rdF (Reg.CH_LINE_OFFSET c) 17 0 := fun c =>
    State.rdF_of_rd_eq (hoff c)
  unfold State.maxOffset
  simp only [hplanes, hone]

theorem State.maxOffset_lt (s : State) : s.maxOffset < 2 ^ 32 := by
  unfold State.maxOffset
  refine List.foldlRecOn (motive := fun m : Nat => m < 2 ^ 32) _ _ (by decide) fun m hm c _ => ?_
  exact max_lt hm (lt_of_lt_of_le (fld_lt _ 17 0) (by decide))

/-! ## Rows let go, and the strip of a run -/

theorem State.rowsShown_releaseRows : s.rowsShown s.releaseRows := by
  have hrescan : s.rowsShown s.rescanRows := by
    unfold State.rescanRows
    split
    · exact (((State.rowsShown_wr _ (by decide)).trans (State.rowsShown_wr _ (by decide))).trans
        (State.rowsShown_advanceWrite _)).trans State.rowsShown_showCredits
    · exact State.rowsShown_showCredits
  unfold State.releaseRows
  dsimp only
  split_ifs
  · exact .refl s
  · exact (State.rowsShown_wr _ (by decide)).trans State.rowsShown_showCredits
  · exact hrescan

theorem Within.stripBegin (start : Nat) : Within [Reg.pageSCALER] [.colour] s (s.stripBegin start) := by
  have hanew : ∀ v, Within [Reg.pageSCALER] [.colour] s ((s.wr Reg.SCALER_STRIP_NUM v).stripsAnew) := fun v =>
    (Within.wr (a := Reg.SCALER_STRIP_NUM) v (by decide)).trans (.colour _ (by simp))
  unfold State.stripBegin
  dsimp only
  refine .ite (.refl s) (.ite (hanew _) ((hanew _).trans (.foldl (fun t i _ => .foldl (fun t u _ => ?_) t) _)))
  exact .ite (.stripSkip (by decide)) (.refl t)

/-! ## An accepted arm -/

/-- The line unit of an armed run. -/
def State.lineArmed (s : State) : State :=
  s.modLine (fun l => { l with
    runNum := (l.runNum + 1) % 256, startLine := s.rd Reg.LINE_START_LINE, stopLine := s.rd Reg.LINE_STOP_LINE
    runCfg := if s.follows then putFld (s.rd Reg.LINE_RUN_CFG) 1 0 3 else s.rd Reg.LINE_RUN_CFG, stopped := [] })

/-- The registers of an armed run that JOB and LINE show. -/
def State.armShown (s : State) (start : Nat) : State := (s.wr Reg.JOB_MAX_OFFSET s.maxOffset).wr Reg.LINE_ADMIT_LINE start

theorem State.line_armShown (s : State) (start : Nat) : (s.armShown start).line = s.line := rfl

/-- The job of an armed run, before its rows are let go. -/
def State.jobArmed (s : State) : State :=
  { s with splices := [], job := { s.job with judged := [], spliceEnd := false, edges := [] } }

/-- An armed run before the module state shows it. -/
def State.runPrepared (s : State) : State :=
  ((s.lineArmed.runNumbered.armShown (s.rd Reg.LINE_START_LINE)).jobArmed.releaseRows).stripBegin (s.rd Reg.LINE_START_LINE)

/-- What an armed run has before the module state shows it. -/
structure RunPrepared (s t : State) : Prop where
  keys : ∀ k ∈ [Reg.SYS_MODULE_STATE, Reg.SHADOW_CTRL Reg.pageENC, Reg.SYS_CONFIG], t.rd k = s.rd k
  admitLine : t.rd Reg.LINE_ADMIT_LINE = s.rd Reg.LINE_START_LINE
  maxOffset : t.rd Reg.JOB_MAX_OFFSET = s.maxOffset
  splices : t.splices = []
  line : t.line = s.lineArmed.line

theorem startLine_lt (s : State) : s.rd Reg.LINE_START_LINE % 2 ^ 32 = s.rd Reg.LINE_START_LINE :=
  Nat.mod_eq_of_lt (s.rd_lt _)

theorem State.maxOffset_runNumbered (s : State) : s.lineArmed.runNumbered.maxOffset = s.maxOffset :=
  State.maxOffset_congr (State.rd_runNumbered (not_armKey_of_not_chKey (by decide)))
    fun c => State.rd_runNumbered (lineOffset_not_armKey c)

theorem State.runPrepared_of_arm (s : State) : RunPrepared s s.runPrepared := by
  obtain ⟨a, ha⟩ : ∃ a : State, a = s.lineArmed.runNumbered.armShown (s.rd Reg.LINE_START_LINE) := ⟨_, rfl⟩
  have hrows : a.jobArmed.rowsShown a.jobArmed.releaseRows := State.rowsShown_releaseRows
  have hstrip := Within.stripBegin (s := a.jobArmed.releaseRows) (s.rd Reg.LINE_START_LINE)
  have hprepared : s.runPrepared = a.jobArmed.releaseRows.stripBegin (s.rd Reg.LINE_START_LINE) := by rw [ha]; rfl
  obtain ⟨hrd, -, -, -, hparts⟩ := hrows
  have hkeep : ∀ k, k ∉ streamKeys → k ≠ Reg.INT_STATUS Reg.pageJOB → k / 0x1000 ∉ [Reg.pageSCALER] →
      s.runPrepared.rd k = a.rd k := fun k hstream hint hscaler => by
    rw [hprepared, hstrip.pages k hscaler, hrd k hstream hint]
    rfl
  have hother : ∀ k, k ≠ Reg.LINE_ADMIT_LINE → k ≠ Reg.JOB_MAX_OFFSET → ¬ armKey k → a.rd k = s.rd k := fun k hadmit hmax harm => by
    rw [ha, State.armShown, State.rd_wr_of_ne _ _ hadmit, State.rd_wr_of_ne _ _ hmax, State.rd_runNumbered harm]
    rfl
  refine ⟨fun k hk => ?_, ?_, ?_, ?_, ?_⟩
  · simp only [List.mem_cons, List.not_mem_nil, or_false] at hk
    rcases hk with rfl | rfl | rfl <;>
      exact (hkeep _ (by decide) (by decide) (by decide)).trans
        (hother _ (by decide) (by decide) (not_armKey_of_not_chKey (by decide)))
  · rw [hkeep Reg.LINE_ADMIT_LINE (by decide) (by decide) (by decide), ha, State.armShown, State.rd_wr_same]
    exact startLine_lt s
  · rw [hkeep Reg.JOB_MAX_OFFSET (by decide) (by decide) (by decide), ha, State.armShown, State.rd_wr_of_ne _ _ (by decide), State.rd_wr_same,
      State.maxOffset_runNumbered]
    exact Nat.mod_eq_of_lt s.maxOffset_lt
  · rw [hprepared]
    exact (hstrip.parts .splices (by simp)).trans (hparts .splices (by simp))
  · have hline : a.line = s.lineArmed.line := by
      rw [ha, State.line_armShown]
      exact s.lineArmed.agree_runNumbered .line (by simp)
    rw [hprepared]
    exact ((hstrip.parts .line (by simp)).trans (hparts .line (by simp))).trans hline

end
end Sys2Proof.Machine
end

section
/-! The commands of a run: RUN_ARM, RUN_START, RUN_DRAIN and DRAIN_TIMEOUT (R75, R89, R285, R534). -/

namespace Sys2Proof.Machine

section
variable {s t : State} {src : Req}

/-! ## RUN_ARM -/

theorem exec_runArm_served (hcut : s.cutOff src = false) : exec (.runArm src) s = .next (s.armRun src) :=
  if_neg (by simp [hcut])

theorem State.jobRefusal_lt {code : Nat} (h : s.jobRefusal = some code) : code < 0x10000 := by
  unfold State.jobRefusal State.ringRefusal at h
  dsimp only at h
  split_ifs at h <;> simp only [Option.some.injEq] at h <;> omega

theorem State.armRun_of_job {code : Nat} (hgate : s.writeGate src = none) (hst : s.modState = 4) (hstop : s.pwr.stopIn = false)
    (hjob : s.jobRefusal = some code) : s.armRun src = s.errAt Reg.pageJOB code 0x040 src := by
  unfold State.armRun
  simp only [hgate, if_neg (not_not_intro hst), hstop, Bool.false_eq_true, if_false, hjob]

/-- The state of an armed run, before what waited for it. -/
def State.runArmed (s : State) : State := (s.runPrepared.setModule 5).setRun 1

theorem State.armRun_accepted (hgate : s.writeGate src = none) (hst : s.modState = 4) (hstop : s.pwr.stopIn = false)
    (hjob : s.jobRefusal = none) (hstrip : s.stripPeriodOk = true) (hring : s.ringMode = false) :
    s.armRun src = (s.runArmed.mirror Reg.LINE_RUN_CTRL 1).releaseRetrains.applyIdle := by
  unfold State.armRun
  dsimp only
  rw [hgate]
  dsimp only
  rw [if_neg (not_not_intro hst), hstop, if_neg (by decide), hjob]
  dsimp only
  rw [hstrip, if_neg (by decide), hring, if_neg (by simp)]
  rfl

theorem State.rd_setModule_state {st : Nat} (hst : st < 2 ^ 32) (h : s.modState ≠ st) :
    (s.setModule st).rd Reg.SYS_MODULE_STATE = st := by
  unfold State.setModule
  dsimp only
  rw [if_neg h, State.rd_tally_of_notMem _ _ _ _ _ _ (by decide), State.rd_intSet_of_ne _ _ (by decide),
    State.rd_setStCode_of_ne _ _ (by decide), State.rd_wr_same]
  exact Nat.mod_eq_of_lt hst

theorem State.bit_setModule_int {st : Nat} (h : s.modState ≠ st) : (s.setModule st).bit (Reg.INT_STATUS Reg.pageSYS) 8 = true := by
  unfold State.setModule
  dsimp only
  rw [if_neg h, State.bit_of_rd_eq (State.rd_tally_of_notMem _ _ _ _ _ _ (by decide))]
  exact (State.bit_intSet _ _ _ _ _ (by decide)).trans (if_pos ⟨rfl, rfl⟩)

/-- What an armed run shows. -/
structure RunArmed (s u : State) : Prop where
  run : u.rdF (Reg.STATUS Reg.pageLINE) 7 4 = 1
  module : u.rd Reg.SYS_MODULE_STATE = putFld 5 5 4 1
  raised : u.bit (Reg.INT_STATUS Reg.pageSYS) 8 = true
  admitLine : u.rd Reg.LINE_ADMIT_LINE = s.rd Reg.LINE_START_LINE
  maxOffset : u.rd Reg.JOB_MAX_OFFSET = s.maxOffset
  encArmed : u.rd (Reg.SHADOW_CTRL Reg.pageENC) = s.rd (Reg.SHADOW_CTRL Reg.pageENC)
  splices : u.splices = []
  line : prodOnly s.lineArmed.line u.line

theorem RunArmed.modState (h : RunArmed s t) : t.modState = 5 := by
  unfold State.modState State.rdF
  rw [h.module]
  decide

theorem State.runArmed_of_arm (hst : s.modState = 4) : RunArmed s s.runArmed := by
  obtain ⟨hkeys, hadmit, hmax, hsplices, hline⟩ := s.runPrepared_of_arm
  obtain ⟨p, hp⟩ : ∃ p : State, p = s.runPrepared := ⟨_, rfl⟩
  rw [← hp] at hkeys hadmit hmax hsplices hline
  have harmed : s.runArmed = (p.setModule 5).setRun 1 := by rw [hp]; rfl
  have hstp : p.modState ≠ 5 := by
    rw [State.modState, State.rdF_of_rd_eq (hkeys _ (by simp))]
    exact fun h => absurd (hst.symm.trans h) (by decide)
  have hmodule := State.rd_setModule_state (s := p) (by decide : 5 < 2 ^ 32) hstp
  have hprint : (p.setModule 5).modState = 5 := by
    unfold State.modState State.rdF
    rw [hmodule]
    decide
  have hkeep : ∀ k, k ∉ runKeys → k ∉ moduleKeys → ((p.setModule 5).setRun 1).rd k = p.rd k := fun k hrun hmod =>
    (State.regsBut_setRun _ 1 k hrun).trans (p.rd_setModule_of_notMem _ hmod)
  have hparts : p.Agree [.mgmt] ((p.setModule 5).setRun 1) :=
    ((State.agree_setModule 5 (by simp)).2 (.refl p)).trans (((p.setModule 5).agree_setRun 1).mono (by simp))
  rw [harmed]
  refine ⟨State.runSt_setRun _ (by decide), ?_, ?_, ?_, ?_, ?_, ?_, ?_⟩
  · rw [State.rd_setRun_module hprint, hmodule]
  · rw [State.bit_of_rd_eq (State.regsBut_setRun _ 1 _ (by decide))]
    exact State.bit_setModule_int hstp
  · rw [hkeep Reg.LINE_ADMIT_LINE (by decide) (by decide), hadmit]
  · rw [hkeep Reg.JOB_MAX_OFFSET (by decide) (by decide), hmax]
  · rw [hkeep (Reg.SHADOW_CTRL Reg.pageENC) (by decide) (by decide), hkeys _ (by simp)]
  · exact (hparts .splices (by simp)).trans hsplices
  · exact prodOnly_of_eq ((hparts .line (by simp)).trans hline)

theorem laneFree_of_low {k : Nat} (h : k < 0x20000 ∨ (0xA0000 ≤ k ∧ k < 0xB5000)) : laneFree k := by
  unfold laneFree chKey
  simp only [Reg.PAIR_PAIR_STATUS]
  omega

theorem RunArmed.lanes {u : State} (h : RunArmed s t) (hl : LanesKept t u) : RunArmed s u := by
  have hst := h.modState
  have hkeep : ∀ k, laneFree k → k ∉ tallyKeys → u.rd k = t.rd k := hl.module (by rw [hst]; decide) (by rw [hst]; decide)
  obtain ⟨hrun, hmodule, hraised, hadmit, hmax, henc, hsplices, hline⟩ := h
  refine ⟨?_, ?_, ?_, ?_, ?_, ?_, (hl.parts .splices (by simp)).trans hsplices, hline.trans hl.line⟩
  · rw [State.rdF_of_rd_eq (hkeep _ (laneFree_of_low (by decide)) (by decide)), hrun]
  · rw [hkeep _ (laneFree_of_low (by decide)) (by decide), hmodule]
  · rw [State.bit_of_rd_eq (hkeep _ (laneFree_of_low (by decide)) (by decide)), hraised]
  · rw [hkeep _ (laneFree_of_low (by decide)) (by decide), hadmit]
  · rw [hkeep _ (laneFree_of_low (by decide)) (by decide), hmax]
  · rw [hkeep _ (laneFree_of_low (by decide)) (by decide), henc]

theorem State.applyIdle_of_unarmed (h : s.bit (Reg.SHADOW_CTRL Reg.pageENC) 1 = false) : s.applyIdle = s := by
  unfold State.applyIdle State.pageDue
  rw [h]
  exact if_neg (by simp)

theorem prodOnly.fields {l m : LineUnit} (h : prodOnly l m) :
    m.runNum = l.runNum ∧ m.startLine = l.startLine ∧ m.stopLine = l.stopLine ∧ m.runCfg = l.runCfg := by
  obtain ⟨hm, -⟩ := h
  rw [hm]
  exact ⟨rfl, rfl, rfl, rfl⟩

theorem State.follows_of_single (h : s.pairMode = false) : s.follows = false := by
  unfold State.follows State.role
  rw [h]
  rfl

theorem State.pairMode_runArmed (s : State) (h : s.pairMode = false) : s.runArmed.pairMode = false := by
  obtain ⟨hkeys, -, -, -, -⟩ := s.runPrepared_of_arm
  have hrd : s.runArmed.rd Reg.SYS_CONFIG = s.rd Reg.SYS_CONFIG :=
    ((State.regsBut_setRun _ 1 _ (by decide)).trans (State.rd_setModule_of_notMem _ _ (by decide))).trans (hkeys _ (by simp))
  exact (State.bit_of_rd_eq hrd).trans h

theorem runArm_arms (hcut : s.cutOff src = false) (hgate : s.writeGate src = none) (hst : s.modState = 4)
    (hstop : s.pwr.stopIn = false) (hjob : s.jobRefusal = none) (hstrip : s.stripPeriodOk = true) (hring : s.ringMode = false)
    (hpair : s.pairMode = false) (henc : s.bit (Reg.SHADOW_CTRL Reg.pageENC) 1 = false) :
    ∃ u : State, exec (.runArm src) s = .next u ∧
      u.runSt = 1 ∧ u.modState = 5 ∧ u.rdF Reg.SYS_MODULE_STATE 5 4 = 1 ∧ u.line.runNum = (s.line.runNum + 1) % 256 ∧
      u.line.startLine = s.rd Reg.LINE_START_LINE ∧ u.line.stopLine = s.rd Reg.LINE_STOP_LINE ∧
      u.line.runCfg = s.rd Reg.LINE_RUN_CFG ∧ u.nextLine = s.rd Reg.LINE_START_LINE ∧
      u.rd Reg.JOB_MAX_OFFSET = s.maxOffset ∧ u.splices = [] ∧ u.bit (Reg.INT_STATUS Reg.pageSYS) 8 = true := by
  have harmed : RunArmed s s.runArmed.releaseRetrains := (State.runArmed_of_arm hst).lanes (.releaseRetrains _)
  obtain ⟨u, hu⟩ : ∃ u, u = s.runArmed.releaseRetrains := ⟨_, rfl⟩
  rw [← hu] at harmed
  have hidle : u.applyIdle = u := State.applyIdle_of_unarmed ((State.bit_of_rd_eq harmed.encArmed).trans henc)
  have hstate := harmed.modState
  obtain ⟨hrun, hmodule, hraised, hadmit, hmax, -, hsplices, hline⟩ := harmed
  obtain ⟨hnum, hstart, hend, hcfg⟩ := hline.fields
  refine ⟨u, ?_, hrun, hstate, ?_, hnum, hstart, hend, hcfg.trans ?_, hadmit, hmax, hsplices, hraised⟩
  · rw [exec_runArm_served hcut, State.armRun_accepted hgate hst hstop hjob hstrip hring,
      State.mirror_of_single (s.pairMode_runArmed hpair), ← hu, hidle]
  · unfold State.rdF
    rw [hmodule]
    decide
  · exact if_neg (by rw [State.follows_of_single hpair]; decide)

end
end Sys2Proof.Machine
end

section
/-! The commands of a run: RUN_START, RUN_DRAIN and DRAIN_TIMEOUT, and the obligation about all of them (R75, R89, R534). -/

namespace Sys2Proof.Machine

section
variable {s t : State} {src : Req}

/-! ## RUN_START -/

@[simp] theorem State.agree_modLine {ps : List Part} (f : LineUnit → LineUnit) (h : .line ∈ ps) :
    s.Agree ps (t.modLine f) ↔ s.Agree ps t := by simp [State.modLine, h]

@[simp] theorem State.agree_setRing {ps : List Part} (r : RingUnit) (h : .ring ∈ ps) :
    s.Agree ps { t with ring := r } ↔ s.Agree ps t := by simp [h]

theorem exec_runStart_served (hcut : s.cutOff src = false) (hgate : s.writeGate src = none) :
    exec (.runStart src) s = .next (if fld s.line.runCfg 1 0 = 0 then s.beginRun else s) := by
  refine (if_neg (by simp [hcut])).trans ?_
  unfold State.startRun
  rw [hgate]
  rfl

/-- A loss of the source in use rests on the registers of ENC and the source that AUTO chose. -/
theorem State.sourceLost_congr (hrd : ∀ k, k / 0x1000 = Reg.pageENC → t.rd k = s.rd k)
    (hauto : t.line.autoSwitched = s.line.autoSwitched) : t.sourceLost = s.sourceLost := by
  have hsource : t.rdF Reg.ENC_SOURCE 2 0 = s.rdF Reg.ENC_SOURCE 2 0 := State.rdF_of_rd_eq (hrd _ (by decide))
  unfold State.sourceLost State.sourceInUse
  rw [hsource, hauto]
  simp only [State.los_congr _ hrd]

/-- The first line that is due in a run: LOOKAHEAD + 1 lines before its first. -/
def State.firstCurrent (s : State) : Nat := ladd s.line.startLine (-(s.rdF Reg.LINE_LOOKAHEAD 5 0 : Int) - 1)

/-- A run that has begun, before the loss of its source is looked for. -/
def State.runBegun (s : State) : State :=
  let s := s.wr Reg.LINE_CURRENT_LINE s.firstCurrent
  let s := ((s.setRun 2).intSet Reg.pageLINE 8).modLine (fun l => { l with runTicks := 0, runIntervals := 0 })
  { s with ring := { s.ring with preds := [], ahead := [], held := 0, pos := s.rd Reg.LINE_CURRENT_LINE } }

theorem State.rd_runBegun_of_notMem {k : Nat} (hcur : k ≠ Reg.LINE_CURRENT_LINE) (hint : k ≠ Reg.INT_STATUS Reg.pageLINE)
    (hrun : k ∉ runKeys) : s.runBegun.rd k = s.rd k := by
  have hrd : s.runBegun.rd k = (((s.wr Reg.LINE_CURRENT_LINE s.firstCurrent).setRun 2).intSet Reg.pageLINE 8).rd k := rfl
  rw [hrd, State.rd_intSet_of_ne _ _ hint, State.regsBut_setRun _ 2 k hrun, State.rd_wr_of_ne _ _ hcur]

theorem currentLine_notMem_runKeys : Reg.LINE_CURRENT_LINE ∉ runKeys := by decide
theorem lineInt_notMem_runKeys : Reg.INT_STATUS Reg.pageLINE ∉ runKeys := by decide

theorem State.rd_runBegun_current : s.runBegun.rd Reg.LINE_CURRENT_LINE = s.firstCurrent := by
  have hrd : s.runBegun.rd Reg.LINE_CURRENT_LINE
      = (((s.wr Reg.LINE_CURRENT_LINE s.firstCurrent).setRun 2).intSet Reg.pageLINE 8).rd Reg.LINE_CURRENT_LINE := rfl
  rw [hrd, State.rd_intSet_of_ne _ _ (by decide), State.regsBut_setRun _ 2 _ currentLine_notMem_runKeys, State.rd_wr_same]
  exact Nat.mod_eq_of_lt (ladd_lt _ _)

theorem State.runSt_runBegun : s.runBegun.runSt = 2 := by
  have hrd : s.runBegun.rd (Reg.STATUS Reg.pageLINE)
      = (((s.wr Reg.LINE_CURRENT_LINE s.firstCurrent).setRun 2).intSet Reg.pageLINE 8).rd (Reg.STATUS Reg.pageLINE) := rfl
  refine (State.rdF_of_rd_eq (hrd.trans (State.rd_intSet_of_ne _ _ (by decide)))).trans ?_
  exact State.runSt_setRun _ (by decide)

theorem State.bit_runBegun_int : s.runBegun.bit (Reg.INT_STATUS Reg.pageLINE) 8 = true := by
  have hrd : s.runBegun.rd (Reg.INT_STATUS Reg.pageLINE)
      = (((s.wr Reg.LINE_CURRENT_LINE s.firstCurrent).setRun 2).intSet Reg.pageLINE 8).rd (Reg.INT_STATUS Reg.pageLINE) := rfl
  exact (State.bit_of_rd_eq hrd).trans ((State.bit_intSet _ _ _ _ _ (by decide)).trans (if_pos ⟨rfl, rfl⟩))

theorem State.line_runBegun : s.runBegun.line = { s.line with runTicks := 0, runIntervals := 0 } := by
  have hline : ((s.wr Reg.LINE_CURRENT_LINE s.firstCurrent).setRun 2).line = s.line :=
    State.agree_setRun (s.wr Reg.LINE_CURRENT_LINE s.firstCurrent) 2 .line (by simp)
  exact congrArg (fun l : LineUnit => { l with runTicks := 0, runIntervals := 0 }) hline

theorem State.agree_runBegun : s.Agree [.line, .ring] s.runBegun := by
  have hset : s.Agree [.line, .ring] ((s.wr Reg.LINE_CURRENT_LINE s.firstCurrent).setRun 2) :=
    ((State.agree_wr _ _).2 (.refl s)).trans ((State.agree_setRun _ 2).mono (by simp))
  have hlined : s.Agree [.line, .ring] ((((s.wr Reg.LINE_CURRENT_LINE s.firstCurrent).setRun 2).intSet Reg.pageLINE 8).modLine
      (fun l => { l with runTicks := 0, runIntervals := 0 })) :=
    (State.agree_modLine _ (by simp)).2 ((State.agree_intSet _ _).2 hset)
  exact (State.agree_setRing _ (by simp)).2 hlined

theorem State.sourceLost_runBegun : s.runBegun.sourceLost = s.sourceLost := by
  refine State.sourceLost_congr (fun k hk => ?_) ((congrArg LineUnit.autoSwitched State.line_runBegun).trans rfl)
  refine State.rd_runBegun_of_notMem (fun h => ?_) (fun h => ?_) fun h => ?_
  · subst h; exact absurd hk (by decide)
  · subst h; exact absurd hk (by decide)
  · have hpages : ∀ j ∈ runKeys, j / 0x1000 ≠ Reg.pageENC := by decide
    exact hpages k h hk

/-- The ring and the partner are told of the run that begins. -/
def State.runTold (s : State) : State :=
  let s := if s.ringMode && s.isRoot then s.sendRing 0x0A [s.line.startLine, s.line.runNum] else s
  if s.pairMode && s.leads then s.toPartner 1 0x40 [s.line.startLine, s.line.runNum, s.frc] else s

theorem State.runTold_of_single (hring : s.ringMode = false) (hpair : s.pairMode = false) : s.runTold = s := by
  unfold State.runTold
  simp only [hring, Bool.false_and, Bool.false_eq_true, if_false, hpair]

theorem State.beginRun_of_armed (hrun : s.runSt = 1) : s.beginRun = s.runBegun.runTold.lossCheck :=
  if_neg (not_not_intro hrun)

theorem State.beginRun_of_single (hrun : s.runSt = 1) (hring : s.ringMode = false) (hpair : s.pairMode = false) :
    s.beginRun = if s.sourceLost then s.runBegun.tickLost else s.runBegun := by
  have hcfg : s.runBegun.rd Reg.SYS_CONFIG = s.rd Reg.SYS_CONFIG := State.rd_runBegun_of_notMem (by decide) (by decide) (by decide)
  have hprinting : s.runBegun.printing = true := by
    unfold State.printing
    rw [State.runSt_runBegun]
    rfl
  rw [State.beginRun_of_armed hrun, State.runTold_of_single ((State.bit_of_rd_eq hcfg).trans hring) ((State.bit_of_rd_eq hcfg).trans hpair),
    State.lossCheck, hprinting, State.sourceLost_runBegun, Bool.true_and]

theorem runStart_begins (hcut : s.cutOff src = false) (hgate : s.writeGate src = none) (hrun : s.runSt = 1)
    (hsource : fld s.line.runCfg 1 0 = 0) (hring : s.ringMode = false) (hpair : s.pairMode = false) (hlost : s.sourceLost = false) :
    ∃ u : State, exec (.runStart src) s = .next u ∧
      u.runSt = 2 ∧ u.rd Reg.LINE_CURRENT_LINE = s.firstCurrent ∧
      u.bit (Reg.INT_STATUS Reg.pageLINE) 8 = true ∧ u.line.runTicks = 0 ∧
      s.regsBut u ([Reg.LINE_CURRENT_LINE, Reg.STATUS Reg.pageLINE, Reg.INT_STATUS Reg.pageLINE,
        Reg.SYS_MODULE_STATE] ++ planes.map (fun p => Reg.STATUS (Reg.pagePLANE p))) ∧
      { u with regs := s.regs, line := s.line, ring := s.ring } = s := by
  refine ⟨s.runBegun, ?_, State.runSt_runBegun, State.rd_runBegun_current, State.bit_runBegun_int, rfl, fun k hk => ?_,
    State.Agree.revert_eq (ps := [.line, .ring]) State.agree_runBegun⟩
  · rw [exec_runStart_served hcut hgate, if_pos hsource, State.beginRun_of_single hrun hring hpair, hlost]
    rfl
  · simp only [List.cons_append, List.nil_append, List.mem_cons, not_or] at hk
    obtain ⟨hcur, hstatus, hint, hmodule, hplanes⟩ := hk
    exact State.rd_runBegun_of_notMem hcur hint (by
      simp only [runKeys, List.cons_append, List.nil_append, List.mem_cons, not_or]
      exact ⟨hstatus, hmodule, hplanes⟩)

theorem runStart_loses (hcut : s.cutOff src = false) (hgate : s.writeGate src = none) (hrun : s.runSt = 1)
    (hsource : fld s.line.runCfg 1 0 = 0) (hring : s.ringMode = false) (hpair : s.pairMode = false) (hlost : s.sourceLost = true) :
    ∃ u : State, exec (.runStart src) s = .next u ∧ RunEnded u := by
  refine ⟨s.runBegun.tickLost, ?_, State.runEnded_endRun _⟩
  rw [exec_runStart_served hcut hgate, if_pos hsource, State.beginRun_of_single hrun hring hpair, hlost]
  rfl

theorem runStart_ignored (hcut : s.cutOff src = false) (hgate : s.writeGate src = none)
    (h : s.runSt ≠ 1 ∨ fld s.line.runCfg 1 0 ≠ 0) : exec (.runStart src) s = .next s := by
  rw [exec_runStart_served hcut hgate]
  by_cases hsource : fld s.line.runCfg 1 0 = 0
  · rw [if_pos hsource, State.beginRun, if_pos (h.resolve_right (not_not_intro hsource))]
  · rw [if_neg hsource]

/-! ## RUN_DRAIN and DRAIN_TIMEOUT -/

theorem exec_runDrain_served (hcut : s.cutOff src = false) (hgate : s.writeGate src = none) (hpair : s.pairMode = false) :
    exec (.runDrain src) s = .next (if s.runSt = 1 then s.endRun
      else if s.runSt = 2 then s.drainAt (ladd s.nextLine (-1)) else s) := by
  refine (if_neg (by simp [hcut])).trans ?_
  unfold State.drainRun
  rw [hgate]
  dsimp only
  rw [State.mirror_of_single hpair]

/-- A run that drains to its final line. -/
def State.runDrains (s : State) (final : Nat) : State :=
  (s.setRun 3).modLine (fun l => { l with finalLine := some final, drainSince := s.frc })

theorem State.line_runDrains (s : State) (final : Nat) :
    (s.runDrains final).line = { s.line with finalLine := some final, drainSince := s.frc } := by
  have hline : (s.setRun 3).line = s.line := s.agree_setRun 3 .line (by simp)
  rw [← hline]
  rfl

theorem State.drainAt_of_ahead {final : Nat} (hahead : 0 < ldiff final (s.rd Reg.LINE_CURRENT_LINE))
    (hfirst : 0 ≤ ldiff final s.line.startLine) : s.drainAt final = s.runDrains final := by
  have hcur : (s.runDrains final).rd Reg.LINE_CURRENT_LINE = s.rd Reg.LINE_CURRENT_LINE :=
    State.regsBut_setRun s 3 _ currentLine_notMem_runKeys
  have hstart : (s.runDrains final).line.startLine = s.line.startLine := by rw [State.line_runDrains]
  have hdrain : s.drainAt final = if ldiff final ((s.runDrains final).rd Reg.LINE_CURRENT_LINE) ≤ 0 ∨
      ldiff final (s.runDrains final).line.startLine < 0 then (s.runDrains final).endRun else s.runDrains final := rfl
  rw [hdrain, hcur, hstart, if_neg (by omega)]

theorem runDrain_drains (hcut : s.cutOff src = false) (hgate : s.writeGate src = none) (hrun : s.runSt = 2)
    (hpair : s.pairMode = false) (hahead : 0 < ldiff (ladd s.nextLine (-1)) (s.rd Reg.LINE_CURRENT_LINE))
    (hfirst : 0 ≤ ldiff (ladd s.nextLine (-1)) s.line.startLine) :
    ∃ u : State, exec (.runDrain src) s = .next u ∧
      u.runSt = 3 ∧ u.line.finalLine = some (ladd s.nextLine (-1)) ∧ u.line.drainSince = s.frc ∧
      u.line.prod = s.line.prod ∧ s.regsBut u runKeys ∧ { u with regs := s.regs, line := s.line } = s := by
  refine ⟨s.runDrains (ladd s.nextLine (-1)), ?_, s.runSt_setRun (by decide), rfl, rfl,
    by rw [State.line_runDrains], s.regsBut_setRun 3,
    State.Agree.revert_eq (ps := [.line]) ((State.agree_modLine _ (by simp)).2 ((s.agree_setRun 3).mono (by simp)))⟩
  rw [exec_runDrain_served hcut hgate hpair, if_neg (by omega), if_pos hrun, State.drainAt_of_ahead hahead hfirst]

theorem runDrain_ends (hcut : s.cutOff src = false) (hgate : s.writeGate src = none) (hrun : s.runSt = 1)
    (hpair : s.pairMode = false) : ∃ u : State, exec (.runDrain src) s = .next u ∧ RunEnded u :=
  ⟨s.endRun, by rw [exec_runDrain_served hcut hgate hpair, if_pos hrun], s.runEnded_endRun⟩

theorem drainTimeout_ends (t : Nat) (hrun : s.runSt = 3) (hlate : msClk 1000 ≤ (s.till t).since s.line.drainSince) :
    ∃ u : State, exec (.drainTimeout t) s = .next u ∧ RunEnded u :=
  ⟨(s.till t).tickLost, if_pos ⟨hrun, hlate⟩, State.runEnded_endRun _⟩

end

/-- Settles O22: the checks of RUN_ARM in their order and what an accepted arm shows; the line before which a run begins; its
drain; and that a run whose ticks are lost, or that is drained before it starts, has ended. -/
theorem runCommands : Obligations.RunCommands := by
  unfold Obligations.RunCommands
  refine ⟨fun src s hcut hgate hst => ?_, fun src s hcut hgate hst hstop => ?_, fun src code s hcut hgate hst hstop hjob => ?_,
    fun src s hcut hgate hst hstop hjob hstrip hring hpair _ henc =>
      runArm_arms hcut hgate hst hstop hjob hstrip hring hpair henc,
    fun src s hcut hgate hrun hsource hring hpair hlost => runStart_begins hcut hgate hrun hsource hring hpair hlost,
    fun src s hcut hgate hrun hsource hring hpair hlost => ?_, fun src s hcut hgate h => runStart_ignored hcut hgate h,
    fun src s hcut hgate hrun hpair hahead hfirst => runDrain_drains hcut hgate hrun hpair hahead hfirst,
    fun src s hcut hgate hrun hpair => ?_, fun t s hrun hlate => ?_,
    fun t s h => if_neg fun h' => h.elim (fun hrun => hrun h'.1) fun hearly => absurd h'.2 (Nat.not_le.2 hearly)⟩
  · exact State.refused_errAt (by decide) ((exec_runArm_served hcut).trans (congrArg _ (State.armRun_of_notReady hgate hst)))
  · exact State.refused_errAt (by decide) ((exec_runArm_served hcut).trans (congrArg _ (State.armRun_of_stopActive hgate hst hstop)))
  · exact State.refused_errAt (State.jobRefusal_lt hjob)
      ((exec_runArm_served hcut).trans (congrArg _ (State.armRun_of_job hgate hst hstop hjob)))
  · obtain ⟨u, hexec, hended⟩ := runStart_loses hcut hgate hrun hsource hring hpair hlost
    exact ⟨u, hexec, hended.runSt, hended.raised, hended.prod⟩
  · obtain ⟨u, hexec, hended⟩ := runDrain_ends hcut hgate hrun hpair
    exact ⟨u, hexec, hended.runSt, hended.raised, hended.prod, hended.finalLine⟩
  · obtain ⟨u, hexec, hended⟩ := drainTimeout_ends t hrun hlate
    exact ⟨u, hexec, hended.runSt, hended.raised, hended.prod⟩

end Sys2Proof.Machine
end

section
/-! The role and the condition of a module of a pair, and what it does alone (R342, R347, R353, R359). -/

namespace Sys2Proof.Machine

section
variable {s t : State} {r c : Nat}

theorem State.cond_of_pair (h : s.pairMode = true) : s.cond = s.rdF Reg.PAIR_PAIR_STATUS 2 0 := if_pos h
theorem State.role_of_pair (h : s.pairMode = true) : s.role = s.rdF Reg.PAIR_PAIR_STATUS 5 4 := if_pos h

/-! ## The role -/

/-- The registers that a change of role reaches. -/
def roleKeys : List Nat := [Reg.PAIR_PAIR_STATUS, Reg.INT_STATUS Reg.pagePAIR] ++ tallyKeys

theorem State.setRole_same (h : s.rdF Reg.PAIR_PAIR_STATUS 5 4 = r) : s.setRole r = s := if_pos h

/-- A new role, and for a leader the skew of its ticks. -/
def State.roleShown (s : State) (r : Nat) : State :=
  let s := (s.wrF Reg.PAIR_PAIR_STATUS 5 4 r).intSet Reg.pagePAIR 8
  if r = 1 then s.wr Reg.PAIR_TICK_SKEW 0 else s

theorem State.setRole_other (h : s.rdF Reg.PAIR_PAIR_STATUS 5 4 ≠ r) : s.setRole r =
    (s.roleShown r).tally 0x0061 0x6B 0 1 (r + (s.roleShown r).rd Reg.PAIR_EPOCH % 2 ^ 24 * 256) := if_neg h

theorem State.rd_roleShown_of_ne {k : Nat} (hpair : k ≠ Reg.PAIR_PAIR_STATUS) (hint : k ≠ Reg.INT_STATUS Reg.pagePAIR)
    (hskew : k ≠ Reg.PAIR_TICK_SKEW ∨ r ≠ 1) : (s.roleShown r).rd k = s.rd k := by
  have hset : ((s.wrF Reg.PAIR_PAIR_STATUS 5 4 r).intSet Reg.pagePAIR 8).rd k = s.rd k := by
    rw [State.rd_intSet_of_ne _ _ hint, State.rd_wrF_of_ne _ _ _ _ hpair]
  unfold State.roleShown
  dsimp only
  split
  next hr => rw [State.rd_wr_of_ne _ _ (hskew.resolve_right (not_not_intro hr)), hset]
  · exact hset

theorem State.rd_roleShown_pair : (s.roleShown r).rd Reg.PAIR_PAIR_STATUS = putFld (s.rd Reg.PAIR_PAIR_STATUS) 5 4 r := by
  have hset : ((s.wrF Reg.PAIR_PAIR_STATUS 5 4 r).intSet Reg.pagePAIR 8).rd Reg.PAIR_PAIR_STATUS
      = putFld (s.rd Reg.PAIR_PAIR_STATUS) 5 4 r := by
    rw [State.rd_intSet_of_ne _ _ (by decide), State.rd_wrF_same _ _ _ (by decide) (by decide)]
  unfold State.roleShown
  dsimp only
  split
  · rw [State.rd_wr_of_ne _ _ (by decide), hset]
  · exact hset

theorem State.rd_setRole_of_notMem {k : Nat} (hk : k ∉ roleKeys) (hskew : k ≠ Reg.PAIR_TICK_SKEW ∨ r ≠ 1) :
    (s.setRole r).rd k = s.rd k := by
  simp only [roleKeys, List.mem_append, List.mem_cons, List.not_mem_nil, or_false, not_or] at hk
  obtain ⟨⟨hpair, hint⟩, htally⟩ := hk
  by_cases h : s.rdF Reg.PAIR_PAIR_STATUS 5 4 = r
  · rw [State.setRole_same h]
  · rw [State.setRole_other h, State.rd_tally_of_notMem _ _ _ _ _ _ htally, State.rd_roleShown_of_ne hpair hint hskew]

/-- The role of a module, with the rest of PAIR_STATUS as it was. -/
theorem State.pairStatus_setRole (s : State) (hr : r < 4) : (s.setRole r).rdF Reg.PAIR_PAIR_STATUS 5 4 = r ∧
    (s.setRole r).rdF Reg.PAIR_PAIR_STATUS 2 0 = s.rdF Reg.PAIR_PAIR_STATUS 2 0 ∧
    (s.setRole r).bit Reg.PAIR_PAIR_STATUS 8 = s.bit Reg.PAIR_PAIR_STATUS 8 ∧
    (s.setRole r).bit Reg.PAIR_PAIR_STATUS 12 = s.bit Reg.PAIR_PAIR_STATUS 12 := by
  by_cases h : s.rdF Reg.PAIR_PAIR_STATUS 5 4 = r
  · rw [State.setRole_same h]
    exact ⟨h, rfl, rfl, rfl⟩
  · have hrd : (s.setRole r).rd Reg.PAIR_PAIR_STATUS = putFld (s.rd Reg.PAIR_PAIR_STATUS) 5 4 r := by
      rw [State.setRole_other h, State.rd_tally_of_notMem _ _ _ _ _ _ (by decide), State.rd_roleShown_pair]
    unfold State.rdF State.bit
    rw [hrd, fld_putFld_same _ _ _ _ (by decide), fld_putFld_other _ _ _ _ _ _ (by decide) (.inl (by decide)),
      bitOf_putFld_other _ _ _ _ _ (by decide) (.inr (by decide)), bitOf_putFld_other _ _ _ _ _ (by decide) (.inr (by decide))]
    exact ⟨Nat.mod_eq_of_lt hr, rfl, rfl, rfl⟩

theorem State.agree_setRole (s : State) (r : Nat) : s.Agree [.mgmt] (s.setRole r) := by
  by_cases h : s.rdF Reg.PAIR_PAIR_STATUS 5 4 = r
  · rw [State.setRole_same h]
    exact .refl s
  · rw [State.setRole_other h, State.agree_tally _ _ _ _ _ (by simp), State.roleShown]
    split
    · rw [State.agree_wr, State.agree_intSet, State.agree_wrF]; exact .refl s
    · rw [State.agree_intSet, State.agree_wrF]; exact .refl s

theorem pairMode_of_regs (h : t.rd Reg.SYS_CONFIG = s.rd Reg.SYS_CONFIG) : t.pairMode = s.pairMode := State.bit_of_rd_eq h

theorem State.pairMode_setRole (s : State) (r : Nat) : (s.setRole r).pairMode = s.pairMode :=
  pairMode_of_regs (State.rd_setRole_of_notMem (by decide) (.inl (by decide)))

/-! ## The condition -/

/-- The registers in which the condition shows. -/
def condKeys : List Nat := [Reg.PAIR_PAIR_STATUS, Reg.STATUS Reg.pagePAIR, Reg.INT_STATUS Reg.pagePAIR]

def State.condShown (s : State) (c : Nat) : State :=
  ((s.wrF Reg.PAIR_PAIR_STATUS 2 0 c).setStCode Reg.pagePAIR c).intSet Reg.pagePAIR 9

theorem State.regsBut_condShown (s : State) (c : Nat) : s.regsBut (s.condShown c) condKeys := by
  intro k hk
  simp only [condKeys, List.mem_cons, List.not_mem_nil, or_false, not_or] at hk
  obtain ⟨hpair, hstatus, hint⟩ := hk
  rw [State.condShown, State.rd_intSet_of_ne _ _ hint, State.rd_setStCode_of_ne _ _ hstatus, State.rd_wrF_of_ne _ _ _ _ hpair]

theorem State.agree_condShown (s : State) (c : Nat) : s.Agree [] (s.condShown c) := by
  rw [State.condShown, State.agree_intSet, State.agree_setStCode, State.agree_wrF]
  exact .refl s

theorem State.pairStatus_condShown (s : State) (hc : c < 8) : (s.condShown c).rdF Reg.PAIR_PAIR_STATUS 2 0 = c ∧
    (s.condShown c).rdF Reg.PAIR_PAIR_STATUS 5 4 = s.rdF Reg.PAIR_PAIR_STATUS 5 4 ∧
    (s.condShown c).bit Reg.PAIR_PAIR_STATUS 8 = s.bit Reg.PAIR_PAIR_STATUS 8 := by
  have hrd : (s.condShown c).rd Reg.PAIR_PAIR_STATUS = putFld (s.rd Reg.PAIR_PAIR_STATUS) 2 0 c := by
    rw [State.condShown, State.rd_intSet_of_ne _ _ (by decide), State.rd_setStCode_of_ne _ _ (by decide),
      State.rd_wrF_same _ _ _ (by decide) (by decide)]
  unfold State.rdF State.bit
  rw [hrd, fld_putFld_same _ _ _ _ (by decide), fld_putFld_other _ _ _ _ _ _ (by decide) (.inr (by decide)),
    bitOf_putFld_other _ _ _ _ _ (by decide) (.inr (by decide))]
  exact ⟨Nat.mod_eq_of_lt hc, rfl, rfl⟩

theorem State.pairMode_condShown (s : State) (c : Nat) : (s.condShown c).pairMode = s.pairMode :=
  pairMode_of_regs (s.regsBut_condShown c _ (by decide))

theorem State.cond_condShown (hp : s.pairMode = true) (hc : c < 8) : (s.condShown c).cond = c :=
  (State.cond_of_pair ((s.pairMode_condShown c).trans hp)).trans (s.pairStatus_condShown hc).1

/-- A module that comes to act alone: its slots are armed, and outside a run its lanes train again. -/
def State.wentAlone (s : State) : State := if !s.armAlone.printing then s.armAlone.releaseRetrains else s.armAlone

theorem State.setCond_six (hp : s.pairMode = true) (h : s.rdF Reg.PAIR_PAIR_STATUS 2 0 ≠ 6) : s.setCond 6 = (s.condShown 6).wentAlone := by
  have halone : (s.condShown 6).actsAlone = true := by
    unfold State.actsAlone
    rw [State.cond_condShown hp (by decide)]
    rfl
  unfold State.setCond
  rw [if_neg h]
  simp only [show ¬ 6 = 3 by decide, if_false]
  rw [show (((s.wrF Reg.PAIR_PAIR_STATUS 2 0 6).setStCode Reg.pagePAIR 6).intSet Reg.pagePAIR 9) = s.condShown 6 from rfl,
    if_pos halone]
  rfl

/-- In the other conditions nothing waits. -/
theorem State.setCond_quiet (hp : s.pairMode = true) (h : s.rdF Reg.PAIR_PAIR_STATUS 2 0 ≠ c) (hc : c = 4 ∨ c = 5 ∨ c = 7) :
    s.setCond c = s.condShown c := by
  have halone : ¬ (s.condShown c).actsAlone = true := by
    unfold State.actsAlone
    rw [State.cond_condShown hp (by omega)]
    rcases hc with rfl | rfl | rfl <;> simp
  unfold State.setCond
  rw [if_neg h]
  dsimp only
  rw [if_neg (show c ≠ 3 by omega),
    show (((s.wrF Reg.PAIR_PAIR_STATUS 2 0 c).setStCode Reg.pagePAIR c).intSet Reg.pagePAIR 9) = s.condShown c from rfl,
    if_neg halone]
  exact if_neg (by rcases hc with rfl | rfl | rfl <;> simp)

/-! ## A module alone -/

theorem State.foldl_of_fixed {α : Type} {f : State → α → State} {l : List α} (h : ∀ x ∈ l, f s x = s) : l.foldl f s = s :=
  List.foldlRecOn (motive := fun t : State => t = s) l _ rfl fun t ht x hx => by rw [ht, h x hx]

theorem State.armAlone_of_none (h : ∀ n ∈ List.range 32, s.slotSt n ≠ 7) : s.armAlone = s :=
  State.foldl_of_fixed fun n hn => if_neg fun h' => by
    rw [Bool.and_eq_true, decide_eq_true_eq] at h'
    exact h n hn h'.1

theorem State.releaseRetrains_of_none (h : channels.filter s.retrainPending = []) : s.releaseRetrains = s :=
  State.foldl_of_fixed fun c hc => by
    have hno : s.retrainPending c = false := by
      have := List.filter_eq_nil_iff.1 h c hc
      simpa using this
    unfold State.releaseOne
    rw [hno]
    rfl

theorem State.wentAlone_of_none (hslots : ∀ n ∈ List.range 32, s.slotSt n ≠ 7) (hlanes : channels.filter s.retrainPending = []) :
    s.wentAlone = s := by
  unfold State.wentAlone
  rw [State.armAlone_of_none hslots, State.releaseRetrains_of_none hlanes, ite_self]

/-- The pages on which what a module does alone shows. -/
def alonePages : List Nat := [Reg.pagePAIR, Reg.pageAPPLY, Reg.pageSYS, Reg.pageTALLY] ++ (List.range 128).map Reg.pageCH
def aloneParts : List Part := [.slots, .line, .lanes, .pair, .ring, .mgmt, .out]

/-- What a module that acts alone leaves. -/
structure AloneKept (s t : State) : Prop where
  pages : s.pagesBut t alonePages
  pairRegs : ∀ k, k / 0x1000 = Reg.pagePAIR → k ≠ Reg.PAIR_PAIR_STATUS → t.rd k = s.rd k
  pairStatus : ∀ i, i ≠ 11 → t.bit Reg.PAIR_PAIR_STATUS i = s.bit Reg.PAIR_PAIR_STATUS i
  config : t.rd Reg.SYS_CONFIG = s.rd Reg.SYS_CONFIG
  epochSeen : t.pair.epochSeen = s.pair.epochSeen
  parts : s.Agree aloneParts t

theorem AloneKept.refl (s : State) : AloneKept s s := ⟨fun _ _ => rfl, fun _ _ _ => rfl, fun _ _ => rfl, rfl, rfl, .refl s⟩

theorem AloneKept.trans {u : State} (h : AloneKept s t) (h' : AloneKept t u) : AloneKept s u where
  pages := h.pages.trans h'.pages
  pairRegs k hk hne := (h'.pairRegs k hk hne).trans (h.pairRegs k hk hne)
  pairStatus i hi := (h'.pairStatus i hi).trans (h.pairStatus i hi)
  config := h'.config.trans h.config
  epochSeen := h'.epochSeen.trans h.epochSeen
  parts := h.parts.trans h'.parts

theorem chKey_page_mem {k : Nat} (h : chKey k) : k / 0x1000 ∈ (List.range 128).map Reg.pageCH := by
  unfold chKey at h
  refine List.mem_map.2 ⟨k / 0x1000 - 0x20, List.mem_range.2 (by omega), ?_⟩
  simp only [Reg.pageCH]
  omega

theorem moduleKeys_pages : ∀ k ∈ moduleKeys, k / 0x1000 ∈ [Reg.pageSYS, Reg.pageTALLY] := by decide

theorem LanesKept.alone (h : LanesKept s t) : AloneKept s t where
  pages k hk := by
    simp only [alonePages, List.cons_append, List.nil_append, List.mem_cons, not_or] at hk
    obtain ⟨hpair, happly, hsys, htally, hch⟩ := hk
    refine h.regs k ⟨fun hc => hch (chKey_page_mem hc), fun hp => hpair ?_⟩ fun hm => ?_
    · subst hp; decide
    · have := moduleKeys_pages k hm
      simp only [List.mem_cons, List.not_mem_nil, or_false] at this
      exact this.elim hsys htally
  pairRegs k hk hne := by
    refine h.regs k ⟨fun hc => ?_, hne⟩ fun hm => ?_
    · unfold chKey at hc
      simp only [Reg.pagePAIR] at hk
      omega
    · have := moduleKeys_pages k hm
      rw [hk] at this
      exact absurd this (by decide)
  pairStatus := h.pairStatus
  config := h.regs _ (laneFree_of_low (by decide)) (by decide)
  epochSeen := by rw [h.pair]
  parts := h.parts.mono (by simp [aloneParts])

theorem slotStatus_page {n : Nat} (hn : n < 32) : Reg.APPLY_SLOT_STATUS n / 0x1000 = Reg.pageAPPLY := by
  simp only [Reg.APPLY_SLOT_STATUS, Reg.pageAPPLY]
  omega

theorem AloneKept.slotAlone {n : Nat} (hn : n < 32) : AloneKept s (s.slotAlone n) := by
  have hpage := slotStatus_page hn
  obtain ⟨x, hx⟩ : ∃ x, s.slotAlone n = (s.setSlotSt n 1).setSlot n x := ⟨_, rfl⟩
  have hrd : ∀ k, k / 0x1000 ≠ Reg.pageAPPLY → ((s.setSlotSt n 1).setSlot n x).rd k = s.rd k := fun k hk => by
    have hne : k ≠ Reg.APPLY_SLOT_STATUS n := fun h => hk (h ▸ hpage)
    rw [State.rd_setSlot, State.rd_setSlotSt_of_ne hne]
  rw [hx]
  refine ⟨fun k hk => hrd k fun h => hk (h ▸ by decide), fun k hk _ => hrd k (hk ▸ by decide),
    fun i _ => State.bit_of_rd_eq (hrd _ (by decide)), hrd _ (by decide), rfl, ?_⟩
  exact (State.agree_setSlot _ _ (by decide)).2 ((State.agree_wrF _ _ _ _).2 (.refl s))

theorem AloneKept.armAlone (s : State) : AloneKept s s.armAlone :=
  List.foldlRecOn (motive := fun t : State => AloneKept s t) (List.range 32) _ (.refl s) fun t ht n hn => by
    split
    · exact ht.trans (.slotAlone (List.mem_range.1 hn))
    · exact ht

theorem AloneKept.wentAlone (s : State) : AloneKept s s.wentAlone := by
  unfold State.wentAlone
  split
  · exact (AloneKept.armAlone s).trans (LanesKept.releaseRetrains _).alone
  · exact AloneKept.armAlone s

end
end Sys2Proof.Machine
end

section
/-! Messages to and from the Lookout, and the lease (R355 to R360). -/

namespace Sys2Proof.Machine

section
variable {s t : State}

/-! ## A message that fails its checks -/

/-- A bad answer of the Lookout, at its instant. -/
theorem lookoutBad_at {r : Res} (n : Nat) (h : r = .next (s.till n).lookoutBad) :
    ∃ u : State, r = .next u ∧
      u.frc = (s.till n).frc ∧ u.rdF Reg.PAIR_LOOKOUT_COUNT 15 0 = satInc 16 (s.rdF Reg.PAIR_LOOKOUT_COUNT 15 0) ∧
      u.bit (Reg.INT_STATUS Reg.pagePAIR) 12 = true ∧
      s.regsBut u ([Reg.PAIR_LOOKOUT_COUNT, Reg.INT_STATUS Reg.pagePAIR] ++ tallyKeys) ∧
      { u with regs := s.regs, frc := s.frc, mgmt := s.mgmt } = s := by
  obtain ⟨hcount, hint, hregs, hparts⟩ := (s.till n).lookoutBad_spec
  exact ⟨_, h, hparts .frc (by simp), hcount, hint, hregs,
    State.Agree.revert_eq (ps := [.frc, .mgmt]) (((State.agree_till n (by simp)).2 (.refl s)).trans (hparts.mono (by simp)))⟩

/-! ## Messages sent to the Lookout -/

/-- The registers that count what is sent on both LANs. -/
def txKeys : List Nat := [Reg.NET_TX_FRAMES 0, Reg.NET_TX_FRAMES 1]

/-- What a message sent changes. -/
structure Sent (s t : State) : Prop where
  regs : s.regsBut t txKeys
  parts : s.Agree [.net, .out, .freeCount] t

theorem Sent.trans {u : State} (h : Sent s t) (h' : Sent t u) : Sent s u := ⟨h.regs.trans h'.regs, h.parts.trans h'.parts⟩

theorem Sent.drew : Sent s s.drew := ⟨fun _ _ => rfl, (State.agree_drew (by simp)).2 (.refl s)⟩

/-- Four bytes of a MAC whose key is not known. -/
def macDraw (m : State × List Byte) (_ : Nat) : State × List Byte := (m.1.drew, m.2 ++ leBytes 4 m.1.free)

theorem Sent.macOf (key : Option (List Byte)) (text : List Byte) : Sent s (s.macOf key text).1 := by
  have hrefl : Sent s s := ⟨fun _ _ => rfl, .refl s⟩
  cases key with
  | some k => exact hrefl
  | none =>
    rw [show s.macOf none text = (List.range 8).foldl macDraw (s, []) from rfl]
    exact List.foldlRecOn (motive := fun m : State × List Byte => Sent s m.1) (List.range 8) macDraw hrefl
      fun m hm _ _ => hm.trans .drew

theorem txFrames_mem {p : Nat} (hp : p < 2) : Reg.NET_TX_FRAMES p ∈ txKeys := by
  simp only [txKeys, List.mem_cons, List.not_mem_nil, or_false, Reg.NET_TX_FRAMES]
  omega

theorem Sent.netSend {p : Nat} (kind : Nat) (fields : List Nat) (hp : p < 2) : Sent s (s.netSend p kind fields) := by
  have hsent : Sent s ((s.count (Reg.NET_TX_FRAMES p)).emit (.net p s.netTag kind fields)) :=
    ⟨fun k hk => by rw [State.rd_emit, State.rd_count_of_ne _ (ne_of_mem_of_not_mem (txFrames_mem hp) hk).symm],
      (State.agree_emit _ (by simp)).2 ((State.agree_count _).2 (.refl s))⟩
  unfold State.netSend
  split
  · exact hsent
  · exact ⟨fun _ _ => rfl, .refl s⟩

theorem Sent.prpSend (kind : Nat) (fields : List Nat) : Sent s (s.prpSend kind fields) := by
  unfold State.prpSend
  split
  · have hnext : Sent s { s with net := { s.net with seq := (s.net.seq + 1) % 65536 } } := ⟨fun _ _ => rfl, by simp⟩
    exact (hnext.trans (.netSend _ _ (by decide))).trans (.netSend _ _ (by decide))
  · exact (Sent.netSend _ _ (by decide)).trans (.netSend _ _ (by decide))

/-- The number of the next message. -/
def State.messageNumbered (s : State) : State := { s with pair := { s.pair with seq := (s.pair.seq + 1) % 2 ^ 32 } }

theorem Sent.toLookout (s : State) (type reason : Nat) : Sent s.messageNumbered (s.toLookout type reason) :=
  (Sent.macOf _ _).trans (.prpSend _ _)

theorem State.pair_toLookout (s : State) (type reason : Nat) :
    (s.toLookout type reason).pair = { s.pair with seq := (s.pair.seq + 1) % 2 ^ 32 } :=
  (Sent.toLookout s type reason).parts .pair (by simp)

theorem State.regsBut_toLookout (s : State) (type reason : Nat) : s.regsBut (s.toLookout type reason) txKeys :=
  fun k hk => (Sent.toLookout s type reason).regs k hk

theorem State.agree_toLookout (s : State) (type reason : Nat) : s.Agree [.pair, .net, .out, .freeCount] (s.toLookout type reason) :=
  have hnumbered : s.Agree [.pair, .net, .out, .freeCount] s.messageNumbered := by simp [State.messageNumbered]
  hnumbered.trans ((Sent.toLookout s type reason).parts.mono (by simp))

/-! ## The lease -/

@[simp] theorem State.rd_modPair (f : PairUnit → PairUnit) (k : Nat) : (s.modPair f).rd k = s.rd k := rfl
@[simp] theorem State.agree_modPair {ps : List Part} (f : PairUnit → PairUnit) (h : .pair ∈ ps) :
    s.Agree ps (t.modPair f) ↔ s.Agree ps t := by simp [State.modPair, h]

theorem State.regsBut_answered (s : State) (m : LookoutMsg) : s.regsBut (s.answered m) [Reg.PAIR_GRANT_WAIT] := by
  intro k hk
  have hne : k ≠ Reg.PAIR_GRANT_WAIT := by simpa using hk
  unfold State.answered
  dsimp only
  rw [State.rd_modPair]
  split
  · split
    · exact s.rd_wr_of_ne _ hne
    · rfl
  · rfl

theorem State.pair_answered (s : State) (m : LookoutMsg) :
    (s.answered m).pair = { s.pair with lookoutSeq := some m.seq, answerAt := some s.frc } := by
  unfold State.answered State.modPair
  dsimp only
  split
  · split <;> rfl
  · rfl

theorem State.agree_answered (s : State) (m : LookoutMsg) : s.Agree [.pair] (s.answered m) := by
  unfold State.answered
  dsimp only
  rw [State.agree_modPair _ (by simp)]
  split
  · split
    · exact (State.agree_wr _ _).2 (.refl s)
    · exact .refl s
  · exact .refl s

theorem State.rd_holdLease_pair (s : State) (e : Option Nat) :
    (s.holdLease e).rd Reg.PAIR_PAIR_STATUS = putB (putB (s.rd Reg.PAIR_PAIR_STATUS) 8 true) 12 false := by
  rw [State.holdLease, State.rd_modPair, State.rd_wrB_same _ _ _ (by decide), State.rd_wrB_same _ _ _ (by decide)]

theorem State.rd_holdLease_of_ne (s : State) (e : Option Nat) {k : Nat} (h : k ≠ Reg.PAIR_PAIR_STATUS) :
    (s.holdLease e).rd k = s.rd k := by
  rw [State.holdLease, State.rd_modPair, State.rd_wrB_of_ne _ _ _ h, State.rd_wrB_of_ne _ _ _ h]

theorem State.agree_holdLease (s : State) (e : Option Nat) : s.Agree [.pair] (s.holdLease e) := by
  rw [State.holdLease, State.agree_modPair _ (by simp), State.agree_wrB, State.agree_wrB]
  exact .refl s

/-- The lease shows, and the role and the condition stay. -/
theorem State.pairStatus_holdLease (s : State) (e : Option Nat) :
    (s.holdLease e).bit Reg.PAIR_PAIR_STATUS 8 = true ∧ (s.holdLease e).bit Reg.PAIR_PAIR_STATUS 12 = false ∧
    (s.holdLease e).rdF Reg.PAIR_PAIR_STATUS 2 0 = s.rdF Reg.PAIR_PAIR_STATUS 2 0 ∧
    (s.holdLease e).rdF Reg.PAIR_PAIR_STATUS 5 4 = s.rdF Reg.PAIR_PAIR_STATUS 5 4 := by
  unfold State.bit State.rdF
  rw [State.rd_holdLease_pair, bitOf_putB, bitOf_putB, if_neg (by decide), if_pos rfl, bitOf_putB, if_pos rfl,
    fld_putB_other _ _ _ _ _ (.inl (by decide)), fld_putB_other _ _ _ _ _ (.inl (by decide)),
    fld_putB_other _ _ _ _ _ (.inl (by decide)), fld_putB_other _ _ _ _ _ (.inl (by decide))]
  exact ⟨rfl, rfl, rfl, rfl⟩

/-! ## The lead -/

/-- A leader stays one, and in the conditions without a contest the condition stands. -/
theorem State.takeLead_kept {down : Bool} (hrole : s.rdF Reg.PAIR_PAIR_STATUS 5 4 = 1) (h5 : s.cond ≠ 5) (h4 : s.cond ≠ 4) :
    s.takeLead down = s := by
  unfold State.takeLead
  rw [State.setRole_same hrole]
  exact if_neg (not_or.2 ⟨h5, h4⟩)

/-- A module that takes the lead while its partner is lost acts alone. -/
theorem State.takeLead_alone {down : Bool} (hp : s.pairMode = true) (hc : s.cond = 5) (hlost : s.pair.lost = true)
    (hdown : down = true ∨ s.printing = false) : s.takeLead down = ((s.setRole 1).condShown 6).wentAlone := by
  have hp' : (s.setRole 1).pairMode = true := (s.pairMode_setRole 1).trans hp
  have hfld : (s.setRole 1).rdF Reg.PAIR_PAIR_STATUS 2 0 = 5 :=
    ((s.pairStatus_setRole (by decide)).2.1).trans ((State.cond_of_pair hp).symm.trans hc)
  have hc' : (s.setRole 1).cond = 5 := (State.cond_of_pair hp').trans hfld
  have hlost' : (s.setRole 1).pair.lost = true := (congrArg PairUnit.lost (s.agree_setRole 1 .pair (by simp))).trans hlost
  have hprint : (s.setRole 1).printing = s.printing := by
    have hrun : (s.setRole 1).runSt = s.runSt := State.rdF_of_rd_eq (State.rd_setRole_of_notMem (by decide) (.inl (by decide)))
    unfold State.printing
    rw [hrun]
  unfold State.takeLead
  dsimp only
  rw [if_pos (.inl hc'), hlost', hprint, if_pos (by rcases hdown with h | h <;> simp [h]),
    State.setCond_six hp' (by rw [hfld]; decide)]

/-- The state of a module that acts alone as leader. -/
theorem State.wentAlone_facts (hp : s.pairMode = true) : ((s.setRole 1).condShown 6).wentAlone.cond = 6 ∧
    ((s.setRole 1).condShown 6).wentAlone.role = 1 ∧
    ((s.setRole 1).condShown 6).wentAlone.bit Reg.PAIR_PAIR_STATUS 8 = s.bit Reg.PAIR_PAIR_STATUS 8 := by
  obtain ⟨b, hb⟩ : ∃ b, b = (s.setRole 1).condShown 6 := ⟨_, rfl⟩
  rw [← hb]
  have halone := AloneKept.wentAlone b
  have hfld : ∀ hi lo, hi < 11 → b.wentAlone.rdF Reg.PAIR_PAIR_STATUS hi lo = b.rdF Reg.PAIR_PAIR_STATUS hi lo := by
    intro hi lo hhi
    refine Nat.eq_of_testBit_eq fun j => ?_
    unfold State.rdF
    rw [testBit_fld, testBit_fld, ← bitOf_eq_testBit, ← bitOf_eq_testBit]
    by_cases hj : j < hi + 1 - lo
    · have := halone.pairStatus (lo + j) (by omega)
      unfold State.bit at this
      rw [this]
    · simp [hj]
  have hmode : b.wentAlone.pairMode = true := by
    rw [pairMode_of_regs halone.config, hb, State.pairMode_condShown, State.pairMode_setRole, hp]
  obtain ⟨hcond, hrole, hlease⟩ := (s.setRole 1).pairStatus_condShown (c := 6) (by decide)
  obtain ⟨hrole', -, hlease', -⟩ := s.pairStatus_setRole (r := 1) (by decide)
  refine ⟨?_, ?_, ?_⟩
  · rw [State.cond_of_pair hmode, hfld _ _ (by decide), hb, hcond]
  · rw [State.role_of_pair hmode, hfld _ _ (by decide), hb, hrole, hrole']
  · rw [halone.pairStatus 8 (by decide), hb, hlease, hlease']

end
end Sys2Proof.Machine
end

section
/-! The lease of a pair: the answers of the Lookout, and a module that comes to lead alone (R357 to R359). -/

namespace Sys2Proof.Machine

section
variable {s t g : State} {m : LookoutMsg} {n : Nat}

/-! ## A module that leads alone -/

/-- A module that leads while its partner is lost. -/
def State.ledAlone (g : State) : State := ((g.setRole 1).condShown 6).wentAlone

/-- The registers in which its role and condition show. -/
def leadKeys : List Nat := condKeys ++ [Reg.PAIR_TICK_SKEW] ++ tallyKeys

theorem State.regsBut_leads (g : State) : g.regsBut ((g.setRole 1).condShown 6) leadKeys := by
  intro k hk
  simp only [leadKeys, List.mem_append, List.mem_singleton, not_or] at hk
  obtain ⟨⟨hcond, hskew⟩, htally⟩ := hk
  have hrole : k ∉ roleKeys := by
    simp only [condKeys, List.mem_cons, List.not_mem_nil, or_false, not_or] at hcond
    simp only [roleKeys, List.mem_append, List.mem_cons, List.not_mem_nil, or_false, not_or]
    exact ⟨⟨hcond.1, hcond.2.2⟩, htally⟩
  rw [(g.setRole 1).regsBut_condShown 6 k hcond, State.rd_setRole_of_notMem hrole (.inl hskew)]

theorem State.agree_leads (g : State) : g.Agree [.mgmt] ((g.setRole 1).condShown 6) :=
  (g.agree_setRole 1).trans (((g.setRole 1).agree_condShown 6).mono (by simp))

theorem leadKeys_pages : ∀ k ∈ leadKeys, k / 0x1000 ∈ [Reg.pagePAIR, Reg.pageTALLY] := by decide

theorem State.ledAlone_of_none (hslots : ∀ n ∈ List.range 32, g.slotSt n ≠ 7) (hlanes : channels.filter g.retrainPending = []) :
    g.ledAlone = (g.setRole 1).condShown 6 := by
  have hpages := g.regsBut_leads.pagesBut leadKeys_pages
  refine State.wentAlone_of_none (fun n hn => ?_) ?_
  · have hslot : ((g.setRole 1).condShown 6).slotSt n = g.slotSt n :=
      State.rdF_of_rd_eq (hpages _ (by rw [slotStatus_page (List.mem_range.1 hn)]; decide))
    rw [hslot]
    exact hslots n hn
  · refine (List.filter_congr fun c hc => ?_).trans hlanes
    refine State.bit_of_rd_eq (hpages _ ?_)
    have hc := mem_channels_lt hc
    simp only [Reg.CH_LINK_STATUS, Reg.pagePAIR, Reg.pageTALLY, List.mem_cons, List.not_mem_nil, or_false]
    omega

/-- What a module that comes to lead alone shows and reaches. -/
structure LedAlone (g u : State) : Prop where
  cond : u.cond = 6
  role : u.role = 1
  lease : u.bit Reg.PAIR_PAIR_STATUS 8 = g.bit Reg.PAIR_PAIR_STATUS 8
  epoch : u.rd Reg.PAIR_EPOCH = g.rd Reg.PAIR_EPOCH
  epochSeen : u.pair.epochSeen = g.pair.epochSeen
  pages : g.pagesBut u alonePages
  parts : g.Agree aloneParts u

theorem State.ledAlone_spec (hp : g.pairMode = true) : LedAlone g g.ledAlone := by
  obtain ⟨hcond, hrole, hlease⟩ := State.wentAlone_facts hp
  have halone := AloneKept.wentAlone ((g.setRole 1).condShown 6)
  refine ⟨hcond, hrole, hlease, ?_, ?_, ?_, g.agree_leads.mono (by simp [aloneParts]) |>.trans halone.parts⟩
  · exact (halone.pairRegs _ (by decide) (by decide)).trans (g.regsBut_leads _ (by decide))
  · exact halone.epochSeen.trans (congrArg PairUnit.epochSeen (g.agree_leads .pair (by simp)))
  · refine State.pagesBut.trans (fun k hk => g.regsBut_leads.pagesBut leadKeys_pages k fun hmem => hk ?_) halone.pages
    simp only [List.mem_cons, List.not_mem_nil, or_false] at hmem
    rcases hmem with h | h <;> rw [h] <;> decide

/-! ## LEASE_GRANT -/

theorem exec_leaseGrant_ignored (h : s.pairMode = false ∨ s.wired = true ∨ m.isType 0x02 = false) :
    exec (.leaseGrant m n) s = .next (s.till n) := by
  refine if_pos ?_
  change (!s.pairMode || s.wired || !m.isType 0x02) = true
  rcases h with h | h | h <;> simp [h]

theorem exec_leaseGrant_read (hp : s.pairMode = true) (hw : s.wired = false) (htype : m.isType 0x02 = true) :
    exec (.leaseGrant m n) s = if !(s.till n).lookoutOk m s.pair.lookoutSeq then .next (s.till n).lookoutBad
      else if m.epoch < s.pair.epochSeen ∨ s.cond = 7 then .next ((s.till n).answered m)
      else .next (((((((s.till n).answered m).wr Reg.PAIR_EPOCH (m.epoch % 2 ^ 32)).holdLease
        (some ((s.till n).pair.asked.getD (s.till n).frc + msClk 2000))).modPair (fun p => { p with epochSeen := m.epoch })).takeLead
        (m.partnerState == 2))) := by
  refine if_neg ?_
  change ¬ (!s.pairMode || s.wired || !m.isType 0x02) = true
  simp [hp, hw, htype]

/-- The lease that a GRANT gives, before the role follows it. -/
def State.leaseGranted (s : State) (m : LookoutMsg) : State :=
  (((s.answered m).wr Reg.PAIR_EPOCH (m.epoch % 2 ^ 32)).holdLease (some (s.pair.asked.getD s.frc + msClk 2000))).modPair
    (fun p => { p with epochSeen := m.epoch })

theorem State.leaseGranted_rd (s : State) (m : LookoutMsg) (k : Nat) : (s.leaseGranted m).rd k =
    (((s.answered m).wr Reg.PAIR_EPOCH (m.epoch % 2 ^ 32)).holdLease (some (s.pair.asked.getD s.frc + msClk 2000))).rd k := rfl

theorem State.regsBut_leaseGranted (s : State) (m : LookoutMsg) :
    s.regsBut (s.leaseGranted m) [Reg.PAIR_PAIR_STATUS, Reg.PAIR_EPOCH, Reg.PAIR_GRANT_WAIT] := by
  intro k hk
  simp only [List.mem_cons, List.not_mem_nil, or_false, not_or] at hk
  obtain ⟨hpair, hepoch, hwait⟩ := hk
  rw [State.leaseGranted_rd, State.rd_holdLease_of_ne _ _ hpair, State.rd_wr_of_ne _ _ hepoch,
    s.regsBut_answered m k (by simpa using hwait)]

theorem State.agree_leaseGranted (s : State) (m : LookoutMsg) : s.Agree [.pair] (s.leaseGranted m) := by
  rw [State.leaseGranted, State.agree_modPair _ (by simp)]
  exact ((s.agree_answered m).trans ((State.agree_wr _ _).2 (.refl _))).trans (State.agree_holdLease _ _)

theorem State.pair_leaseGranted (s : State) (m : LookoutMsg) : (s.leaseGranted m).pair = { s.pair with
    lookoutSeq := some m.seq, answerAt := some s.frc, leaseEnd := some (s.pair.asked.getD s.frc + msClk 2000)
    asked := none, epochSeen := m.epoch } := by
  have h : (s.leaseGranted m).pair = { (s.answered m).pair with
    leaseEnd := some (s.pair.asked.getD s.frc + msClk 2000), asked := none, epochSeen := m.epoch } := rfl
  rw [h, State.pair_answered]

/-- The lease shows, the epoch is that of the GRANT, and the role and the condition stay. -/
theorem State.leaseGranted_facts (s : State) (m : LookoutMsg) :
    (s.leaseGranted m).bit Reg.PAIR_PAIR_STATUS 8 = true ∧ (s.leaseGranted m).bit Reg.PAIR_PAIR_STATUS 12 = false ∧
    (s.leaseGranted m).rdF Reg.PAIR_PAIR_STATUS 2 0 = s.rdF Reg.PAIR_PAIR_STATUS 2 0 ∧
    (s.leaseGranted m).rdF Reg.PAIR_PAIR_STATUS 5 4 = s.rdF Reg.PAIR_PAIR_STATUS 5 4 ∧
    (s.leaseGranted m).rd Reg.PAIR_EPOCH = m.epoch % 2 ^ 32 := by
  have hrd := fun k => s.leaseGranted_rd m k
  obtain ⟨hlease, hflag, hcond, hrole⟩ := State.pairStatus_holdLease ((s.answered m).wr Reg.PAIR_EPOCH (m.epoch % 2 ^ 32))
    (some (s.pair.asked.getD s.frc + msClk 2000))
  have hbefore : ((s.answered m).wr Reg.PAIR_EPOCH (m.epoch % 2 ^ 32)).rd Reg.PAIR_PAIR_STATUS = s.rd Reg.PAIR_PAIR_STATUS := by
    rw [State.rd_wr_of_ne _ _ (by decide), s.regsBut_answered m _ (by decide)]
  refine ⟨(State.bit_of_rd_eq (hrd _)).trans hlease, (State.bit_of_rd_eq (hrd _)).trans hflag,
    (State.rdF_of_rd_eq (hrd _)).trans (hcond.trans (State.rdF_of_rd_eq hbefore)),
    (State.rdF_of_rd_eq (hrd _)).trans (hrole.trans (State.rdF_of_rd_eq hbefore)), ?_⟩
  rw [hrd, State.rd_holdLease_of_ne _ _ (by decide), State.rd_wr_same, Nat.mod_mod]

theorem exec_leaseGrant_taken (hp : s.pairMode = true) (hw : s.wired = false) (hok : (s.till n).lookoutOk m s.pair.lookoutSeq = true)
    (htype : m.isType 0x02 = true) (hepoch : s.pair.epochSeen ≤ m.epoch) (hc : s.cond ≠ 7) :
    exec (.leaseGrant m n) s = .next (((s.till n).leaseGranted m).takeLead (m.partnerState == 2)) := by
  rw [exec_leaseGrant_read hp hw htype, hok, if_neg (by decide), if_neg (not_or.2 ⟨Nat.not_lt.2 hepoch, hc⟩)]
  rfl

theorem State.pairMode_leaseGranted (hp : s.pairMode = true) : (s.leaseGranted m).pairMode = true :=
  (pairMode_of_regs (s.regsBut_leaseGranted m _ (by decide))).trans hp

theorem leaseGrant_leads (hp : s.pairMode = true) (hw : s.wired = false) (hok : (s.till n).lookoutOk m s.pair.lookoutSeq = true)
    (htype : m.isType 0x02 = true) (hepoch : s.pair.epochSeen ≤ m.epoch) (hc : s.cond = 3) (hleads : s.leads = true) :
    ∃ u : State, exec (.leaseGrant m n) s = .next u ∧
      u.frc = (s.till n).frc ∧ u.bit Reg.PAIR_PAIR_STATUS 8 = true ∧ u.bit Reg.PAIR_PAIR_STATUS 12 = false ∧
      u.rd Reg.PAIR_EPOCH = m.epoch % 2 ^ 32 ∧
      u.pair.leaseEnd = some (s.pair.asked.getD (s.till n).frc + 1600000000) ∧ u.pair.asked = none ∧
      (u.pair.epochSeen, u.pair.lookoutSeq) = (m.epoch, some m.seq) ∧ (u.cond, u.role) = (3, 1) ∧
      s.regsBut u [Reg.PAIR_PAIR_STATUS, Reg.PAIR_EPOCH, Reg.PAIR_GRANT_WAIT] ∧
      { u with regs := s.regs, pair := s.pair, frc := s.frc } = s := by
  obtain ⟨hlease, hflag, hcond, hrole, hrd⟩ := (s.till n).leaseGranted_facts m
  have hmode : ((s.till n).leaseGranted m).pairMode = true := State.pairMode_leaseGranted (s := s.till n) hp
  have hcond' : ((s.till n).leaseGranted m).cond = 3 :=
    (State.cond_of_pair hmode).trans (hcond.trans ((State.cond_of_pair hp).symm.trans hc))
  have hrole' : ((s.till n).leaseGranted m).rdF Reg.PAIR_PAIR_STATUS 5 4 = 1 :=
    hrole.trans ((State.role_of_pair hp).symm.trans (beq_iff_eq.1 hleads))
  have hpair := (s.till n).pair_leaseGranted m
  refine ⟨(s.till n).leaseGranted m, ?_, (s.till n).agree_leaseGranted m .frc (by simp), hlease, hflag, hrd, ?_, ?_, ?_, ?_,
    (s.till n).regsBut_leaseGranted m, State.Agree.revert_eq (ps := [.frc, .pair])
      (((State.agree_till n (by simp)).2 (.refl s)).trans (((s.till n).agree_leaseGranted m).mono (by simp)))⟩
  · rw [exec_leaseGrant_taken hp hw hok htype hepoch (by omega), State.takeLead_kept hrole' (by omega) (by omega)]
  · rw [hpair]; rfl
  · rw [hpair]
  · rw [hpair]
  · rw [hcond', State.role_of_pair hmode, hrole']

theorem leaseGrant_refused (hp : s.pairMode = true) (hw : s.wired = false) (hok : (s.till n).lookoutOk m s.pair.lookoutSeq = true)
    (htype : m.isType 0x02 = true) (hepoch : m.epoch < s.pair.epochSeen) :
    ∃ u : State, exec (.leaseGrant m n) s = .next u ∧
      u.frc = (s.till n).frc ∧ u.pair.lookoutSeq = some m.seq ∧ u.pair.leaseEnd = s.pair.leaseEnd ∧
      s.regsBut u [Reg.PAIR_GRANT_WAIT] ∧ { u with regs := s.regs, pair := s.pair, frc := s.frc } = s := by
  refine ⟨(s.till n).answered m, ?_, (s.till n).agree_answered m .frc (by simp), ?_, ?_, (s.till n).regsBut_answered m,
    State.Agree.revert_eq (ps := [.frc, .pair])
      (((State.agree_till n (by simp)).2 (.refl s)).trans (((s.till n).agree_answered m).mono (by simp)))⟩
  · rw [exec_leaseGrant_read hp hw htype, hok, if_neg (by decide), if_pos (.inl hepoch)]
  · rw [State.pair_answered]
  · rw [State.pair_answered]; rfl

/-- A GRANT to a module whose partner is lost and shown not to print. -/
theorem exec_leaseGrant_alone (hp : s.pairMode = true) (hw : s.wired = false) (hok : (s.till n).lookoutOk m s.pair.lookoutSeq = true)
    (htype : m.isType 0x02 = true) (hepoch : s.pair.epochSeen ≤ m.epoch) (hc : s.cond = 5) (hlost : s.pair.lost = true)
    (hdown : m.partnerState = 2) : exec (.leaseGrant m n) s = .next ((s.till n).leaseGranted m).ledAlone := by
  have hmode : ((s.till n).leaseGranted m).pairMode = true := State.pairMode_leaseGranted (s := s.till n) hp
  have hcond : ((s.till n).leaseGranted m).cond = 5 :=
    (State.cond_of_pair hmode).trans (((s.till n).leaseGranted_facts m).2.2.1.trans ((State.cond_of_pair hp).symm.trans hc))
  have hlost' : ((s.till n).leaseGranted m).pair.lost = true := by rw [State.pair_leaseGranted]; exact hlost
  rw [exec_leaseGrant_taken hp hw hok htype hepoch (by omega),
    State.takeLead_alone hmode hcond hlost' (.inl (by rw [hdown]; rfl))]
  rfl

end
end Sys2Proof.Machine
end

section
/-! Obligation O49: the lease of a pair (R355 to R361). -/

namespace Sys2Proof.Machine

section
variable {s t : State} {m : LookoutMsg} {n : Nat}

theorem revert_till {ps : List Part} {u : State} (hfrc : .frc ∈ ps) (h : (s.till n).Agree ps u) : s.Agree ps u :=
  ((State.agree_till n hfrc).2 (.refl s)).trans h

/-! ## LEASE_GRANT to a module that comes to lead alone -/

theorem leaseGrantedKeys_pages : ∀ k ∈ [Reg.PAIR_PAIR_STATUS, Reg.PAIR_EPOCH, Reg.PAIR_GRANT_WAIT], k / 0x1000 ∈ [Reg.pagePAIR] := by
  decide

/-- A change on the PAIR page leaves no slot and no lane waiting that did not wait. -/
theorem nothingWaits_of_pages (hpages : s.pagesBut t [Reg.pagePAIR])
    (hslots : ∀ n ∈ List.range 32, s.slotSt n ≠ 7) (hlanes : channels.filter s.retrainPending = []) :
    (∀ n ∈ List.range 32, t.slotSt n ≠ 7) ∧ channels.filter t.retrainPending = [] := by
  refine ⟨fun n hn => ?_, (List.filter_congr fun c hc => ?_).trans hlanes⟩
  · have hslot : t.slotSt n = s.slotSt n :=
      State.rdF_of_rd_eq (hpages _ (by rw [slotStatus_page (List.mem_range.1 hn)]; decide))
    rw [hslot]
    exact hslots n hn
  · refine State.bit_of_rd_eq (hpages _ ?_)
    have hc := mem_channels_lt hc
    simp only [Reg.CH_LINK_STATUS, Reg.pagePAIR, List.mem_singleton]
    omega

/-- What the lead alone shows, where a lease was given on the PAIR page first. -/
theorem leaseGrant_alone (hp : s.pairMode = true) (hw : s.wired = false) (hok : (s.till n).lookoutOk m s.pair.lookoutSeq = true)
    (htype : m.isType 0x02 = true) (hepoch : s.pair.epochSeen ≤ m.epoch) (hc : s.cond = 5) (hlost : s.pair.lost = true)
    (hdown : m.partnerState = 2) : ∃ u : State, exec (.leaseGrant m n) s = .next u ∧
      u.frc = (s.till n).frc ∧ u.bit Reg.PAIR_PAIR_STATUS 8 = true ∧ (u.cond, u.role) = (6, 1) ∧
      u.rd Reg.PAIR_EPOCH = m.epoch % 2 ^ 32 ∧
      s.pagesBut u ([Reg.pagePAIR, Reg.pageAPPLY, Reg.pageSYS, Reg.pageTALLY] ++ (List.range 128).map Reg.pageCH) ∧
      { u with regs := s.regs, pair := s.pair, frc := s.frc, mgmt := s.mgmt, lanes := s.lanes, line := s.line, out := s.out, scr := s.scr, ring := s.ring, net := s.net, slots := s.slots } =
        s := by
  have hmode : ((s.till n).leaseGranted m).pairMode = true := State.pairMode_leaseGranted (s := s.till n) hp
  obtain ⟨hlease, -, -, -, hrd⟩ := (s.till n).leaseGranted_facts m
  have hgrantRegs := (s.till n).regsBut_leaseGranted m
  have hgrantParts := (s.till n).agree_leaseGranted m
  have halone := State.ledAlone_spec hmode
  refine ⟨_, exec_leaseGrant_alone hp hw hok htype hepoch hc hlost hdown, ?_, halone.lease.trans hlease, ?_,
    halone.epoch.trans hrd, ?_, ?_⟩
  · exact (halone.parts .frc (by decide)).trans (hgrantParts .frc (by decide))
  · rw [halone.cond, halone.role]
  · have hgranted : s.pagesBut ((s.till n).leaseGranted m) alonePages := fun k hk =>
      hgrantRegs.pagesBut leaseGrantedKeys_pages k fun h => hk (List.mem_singleton.1 h ▸ by decide)
    exact hgranted.trans halone.pages
  · exact State.Agree.revert_eq (ps := [.frc, .pair, .mgmt, .lanes, .line, .out, .scr, .ring, .net, .slots])
      (revert_till (by simp) ((hgrantParts.mono (by simp)).trans (halone.parts.mono (by simp [aloneParts]))))

theorem leaseGrant_aloneQuiet (hp : s.pairMode = true) (hw : s.wired = false)
    (hok : (s.till n).lookoutOk m s.pair.lookoutSeq = true) (htype : m.isType 0x02 = true)
    (hepoch : s.pair.epochSeen ≤ m.epoch) (hc : s.cond = 5) (hlost : s.pair.lost = true) (hdown : m.partnerState = 2)
    (hslots : ∀ n ∈ List.range 32, s.slotSt n ≠ 7) (hlanes : channels.filter s.retrainPending = []) :
    ∃ u : State, exec (.leaseGrant m n) s = .next u ∧
      u.frc = (s.till n).frc ∧ u.bit Reg.PAIR_PAIR_STATUS 8 = true ∧ (u.cond, u.role) = (6, 1) ∧
      u.rd Reg.PAIR_EPOCH = m.epoch % 2 ^ 32 ∧
      s.regsBut u ([Reg.PAIR_PAIR_STATUS, Reg.STATUS Reg.pagePAIR, Reg.INT_STATUS Reg.pagePAIR] ++ [Reg.PAIR_EPOCH,
        Reg.PAIR_GRANT_WAIT, Reg.PAIR_TICK_SKEW] ++ tallyKeys) ∧
      { u with regs := s.regs, pair := s.pair, frc := s.frc, mgmt := s.mgmt } = s := by
  obtain ⟨u, hu, hfrc, hlease, hcond, hrd, -, -⟩ := leaseGrant_alone hp hw hok htype hepoch hc hlost hdown
  refine ⟨u, hu, hfrc, hlease, hcond, hrd, ?_⟩
  have hgrantRegs := (s.till n).regsBut_leaseGranted m
  obtain ⟨hslots, hlanes⟩ := nothingWaits_of_pages (s := s) (hgrantRegs.pagesBut leaseGrantedKeys_pages) hslots hlanes
  rw [exec_leaseGrant_alone hp hw hok htype hepoch hc hlost hdown, State.ledAlone_of_none hslots hlanes, Host.Outcome.next.injEq] at hu
  subst hu
  refine ⟨?_, State.Agree.revert_eq (ps := [.frc, .pair, .mgmt])
    (revert_till (by simp) ((((s.till n).agree_leaseGranted m).mono (by simp)).trans ((State.agree_leads _).mono (by simp))))⟩
  exact State.regsBut.trans (s := s) (hgrantRegs.mono (by decide)) ((State.regsBut_leads _).mono (by decide))

/-! ## LEASE_DENY -/

theorem exec_leaseDeny_ignored (h : s.pairMode = false ∨ s.wired = true ∨ m.isType 0x03 = false) :
    exec (.leaseDeny m n) s = .next (s.till n) := by
  refine if_pos ?_
  change (!s.pairMode || s.wired || !m.isType 0x03) = true
  rcases h with h | h | h <;> simp [h]

/-- A module whose claim is denied holds no lease. -/
def State.denied (s : State) (m : LookoutMsg) : State :=
  ((s.answered m).wrB Reg.PAIR_PAIR_STATUS 8 false).modPair (fun p => { p with leaseEnd := none, asked := none })

theorem exec_leaseDeny_read (hp : s.pairMode = true) (hw : s.wired = false) (htype : m.isType 0x03 = true) :
    exec (.leaseDeny m n) s = if !(s.till n).lookoutOk m s.pair.lookoutSeq then .next (s.till n).lookoutBad
      else if ((s.till n).denied m).cond = 7 then .next ((s.till n).denied m)
      else if m.disposition = 1 then
        .next (((((s.till n).denied m).setRole 2).pairSafe causeStandDown).toLookout 0x06 0)
      else .next ((s.till n).denied m).denyFollow := by
  refine if_neg ?_
  change ¬ (!s.pairMode || s.wired || !m.isType 0x03) = true
  simp [hp, hw, htype]

theorem State.regsBut_denied (s : State) (m : LookoutMsg) : s.regsBut (s.denied m) [Reg.PAIR_PAIR_STATUS, Reg.PAIR_GRANT_WAIT] := by
  intro k hk
  simp only [List.mem_cons, List.not_mem_nil, or_false, not_or] at hk
  obtain ⟨hpair, hwait⟩ := hk
  rw [State.denied, State.rd_modPair, State.rd_wrB_of_ne _ _ _ hpair, s.regsBut_answered m k (by simpa using hwait)]

theorem State.agree_denied (s : State) (m : LookoutMsg) : s.Agree [.pair] (s.denied m) := by
  rw [State.denied, State.agree_modPair _ (by simp), State.agree_wrB]
  exact s.agree_answered m

theorem State.pair_denied (s : State) (m : LookoutMsg) : (s.denied m).pair = { s.pair with
    lookoutSeq := some m.seq, answerAt := some s.frc, leaseEnd := none, asked := none } := by
  have h : (s.denied m).pair = { (s.answered m).pair with leaseEnd := none, asked := none } := rfl
  rw [h, State.pair_answered]

/-- No lease shows, and the condition stays. -/
theorem State.denied_facts (s : State) (m : LookoutMsg) : (s.denied m).bit Reg.PAIR_PAIR_STATUS 8 = false ∧
    (s.denied m).rdF Reg.PAIR_PAIR_STATUS 2 0 = s.rdF Reg.PAIR_PAIR_STATUS 2 0 := by
  have hrd : (s.denied m).rd Reg.PAIR_PAIR_STATUS = putB (s.rd Reg.PAIR_PAIR_STATUS) 8 false := by
    rw [State.denied, State.rd_modPair, State.rd_wrB_same _ _ _ (by decide), s.regsBut_answered m _ (by decide)]
  unfold State.bit State.rdF
  rw [hrd, bitOf_putB, if_pos rfl, fld_putB_other _ _ _ _ _ (.inl (by decide))]
  exact ⟨rfl, rfl⟩

theorem State.cond_denied (hp : s.pairMode = true) : (s.denied m).pairMode = true ∧ (s.denied m).cond = s.cond := by
  have hmode : (s.denied m).pairMode = true := (pairMode_of_regs (s.regsBut_denied m _ (by decide))).trans hp
  exact ⟨hmode, (State.cond_of_pair hmode).trans ((s.denied_facts m).2.trans (State.cond_of_pair hp).symm)⟩

/-- The role and the condition of a module that follows, or stands down. -/
def State.stoodBack (g : State) (c : Nat) : State := (g.setRole 2).condShown c

theorem State.stoodBack_facts {c : Nat} (hp : t.pairMode = true) (hc : c < 8) : (t.stoodBack c).pairMode = true ∧
    (t.stoodBack c).cond = c ∧ (t.stoodBack c).role = 2 ∧
    (t.stoodBack c).bit Reg.PAIR_PAIR_STATUS 8 = t.bit Reg.PAIR_PAIR_STATUS 8 := by
  have hmode : (t.stoodBack c).pairMode = true := (State.pairMode_condShown _ c).trans ((t.pairMode_setRole 2).trans hp)
  obtain ⟨hcond, hrole, hlease⟩ := (t.setRole 2).pairStatus_condShown hc
  obtain ⟨hrole', -, hlease', -⟩ := t.pairStatus_setRole (r := 2) (by decide)
  exact ⟨hmode, (State.cond_of_pair hmode).trans hcond, (State.role_of_pair hmode).trans (hrole.trans hrole'), hlease.trans hlease'⟩

theorem State.regsBut_setRole_two (g : State) : g.regsBut (g.setRole 2) roleKeys :=
  fun _ hk => State.rd_setRole_of_notMem hk (.inr (by decide))

theorem State.denyFollow_contest (hp : t.pairMode = true) (hc : t.cond = 5) : t.denyFollow = t.stoodBack 4 := by
  have hp' : (t.setRole 2).pairMode = true := (t.pairMode_setRole 2).trans hp
  have hfld : (t.setRole 2).rdF Reg.PAIR_PAIR_STATUS 2 0 = 5 :=
    ((t.pairStatus_setRole (by decide)).2.1).trans ((State.cond_of_pair hp).symm.trans hc)
  have hc' : (t.setRole 2).cond = 5 := (State.cond_of_pair hp').trans hfld
  unfold State.denyFollow
  dsimp only
  rw [if_neg (by rw [hc']; decide), State.setCond_quiet hp' (by rw [hfld]; decide) (.inl rfl)]
  rfl

theorem leaseDeny_follow (hp : s.pairMode = true) (hw : s.wired = false) (hok : (s.till n).lookoutOk m s.pair.lookoutSeq = true)
    (htype : m.isType 0x03 = true) (hdisp : m.disposition = 0) (hc : s.cond = 5) :
    ∃ u : State, exec (.leaseDeny m n) s = .next u ∧
      u.frc = (s.till n).frc ∧ (u.cond, u.role) = (4, 2) ∧ u.bit Reg.PAIR_PAIR_STATUS 8 = false ∧
      (u.pair.leaseEnd, u.pair.asked) = (none, none) ∧
      s.regsBut u ([Reg.PAIR_PAIR_STATUS, Reg.STATUS Reg.pagePAIR, Reg.INT_STATUS Reg.pagePAIR] ++
        [Reg.PAIR_GRANT_WAIT] ++ tallyKeys) ∧
      { u with regs := s.regs, pair := s.pair, frc := s.frc, mgmt := s.mgmt } = s := by
  obtain ⟨hmode, hcond⟩ := State.cond_denied (s := s.till n) (m := m) hp
  have hcond : ((s.till n).denied m).cond = 5 := hcond.trans hc
  obtain ⟨-, hcond', hrole, hlease⟩ := State.stoodBack_facts (c := 4) hmode (by decide)
  have hparts : ((s.till n).denied m).Agree [.mgmt] (((s.till n).denied m).stoodBack 4) :=
    (State.agree_setRole _ 2).trans ((State.agree_condShown _ 4).mono (by simp))
  have hpair : (((s.till n).denied m).stoodBack 4).pair = ((s.till n).denied m).pair := hparts .pair (by simp)
  refine ⟨((s.till n).denied m).stoodBack 4, ?_, ?_, ?_, hlease.trans ((s.till n).denied_facts m).1, ?_, ?_,
    State.Agree.revert_eq (ps := [.frc, .pair, .mgmt])
      (revert_till (by simp) ((((s.till n).agree_denied m).mono (by simp)).trans (hparts.mono (by simp))))⟩
  · rw [exec_leaseDeny_read hp hw htype, hok, if_neg (by decide), if_neg (by rw [hcond]; decide), if_neg (by rw [hdisp]; decide),
      State.denyFollow_contest hmode hcond]
  · exact (hparts .frc (by simp)).trans ((s.till n).agree_denied m .frc (by simp))
  · rw [hcond', hrole]
  · rw [hpair, State.pair_denied]
  · refine State.regsBut.trans (s := s) (((s.till n).regsBut_denied m).mono (by decide)) ?_
    exact State.regsBut.trans ((State.regsBut_setRole_two _).mono (by decide)) ((State.regsBut_condShown _ 4).mono (by decide))

/-! ## A module that stands down -/

/-- The pages and the parts that SAFE reaches while DRAM schedules no stop. -/
def downPages : List Nat := stopPages ++ [Reg.pageSYS, Reg.pageTALLY]
def downParts : List Part := stopParts ++ [.mgmt]

/-- What a module in SAFE shows. -/
structure InSafe (s u : State) : Prop where
  modState : u.modState = 7
  config : u.rd Reg.SYS_CONFIG = s.rd Reg.SYS_CONFIG
  lamps : ∀ g ∈ List.range 4, ∀ i ∈ List.range 16, u.rd (Reg.LAMP_CH_OUT g i) = 0
  within : Within downPages downParts s u

theorem lampOut_camFree {g i : Nat} (hg : g < 4) (hi : i < 16) : Reg.LAMP_CH_OUT g i / 0x1000 ∉ camPages := by
  simp only [Reg.LAMP_CH_OUT, camPages, Reg.pageCAM, Reg.pageISP, Reg.pageSCALER, List.mem_cons, List.not_mem_nil, or_false]
  omega

theorem State.rd_modLine (f : LineUnit → LineUnit) (k : Nat) : (s.modLine f).rd k = s.rd k := rfl

theorem State.rd_safeStop_lamp {g i : Nat} (cause : Nat) (hg : g < 4) (hi : i < 16) :
    (s.safeStop cause).rd (Reg.LAMP_CH_OUT g i) = 0 := by
  have hcams : ∀ t : State, Within camPages [.cam, .colour, .out] t
      ([0, 1].foldl (fun s p => if s.camSt p = 0 then s else s.camDisable p) t) :=
    Within.foldl (fun t p hp => .ite (.refl t) (Within.camDisable (by
      simp only [List.mem_cons, List.not_mem_nil, or_false] at hp; omega)))
  unfold State.safeStop
  dsimp only
  rw [(hcams _).pages _ (lampOut_camFree hg hi), State.rd_modLine, State.rd_sinksOff hg hi]

theorem moduleKeys_lampFree {g i : Nat} (hg : g < 4) (hi : i < 16) : Reg.LAMP_CH_OUT g i ∉ moduleKeys := fun h => by
  have hpage := moduleKeys_pages _ h
  simp only [Reg.LAMP_CH_OUT, Reg.pageSYS, Reg.pageTALLY, List.mem_cons, List.not_mem_nil, or_false] at hpage
  omega

theorem State.modState_setModule {st : Nat} (hst : st < 16) : (s.setModule st).modState = st := by
  by_cases h : s.modState = st
  · rw [show s.setModule st = s from if_pos h]
    exact h
  · unfold State.modState State.rdF
    rw [State.rd_setModule_state (by omega) h]
    unfold fld
    omega

theorem State.enterSafe_spec (cause : Nat) (h : s.dram.stop = false) : InSafe s (s.enterSafe cause) := by
  have hstopped := Within.safeStop (s := s) cause
  have hdram : (((s.safeStop cause).setModule 7)).dram.stop = false := by
    rw [((State.agree_setModule 7 (by simp)).2 (.refl (s.safeStop cause)) : State.Agree [.mgmt] _ _) .dram (by simp),
      hstopped.parts .dram (by decide), h]
  have heq : s.enterSafe cause = (s.safeStop cause).setModule 7 := if_neg (by rw [hdram]; decide)
  rw [heq]
  refine ⟨State.modState_setModule (by decide), ?_, fun g hg i hi => ?_, ?_⟩
  · rw [State.rd_setModule_of_notMem _ _ (by decide)]
    exact hstopped.pages _ (by decide)
  · rw [State.rd_setModule_of_notMem _ _ (moduleKeys_lampFree (List.mem_range.1 hg) (List.mem_range.1 hi))]
    exact State.rd_safeStop_lamp cause (List.mem_range.1 hg) (List.mem_range.1 hi)
  · exact (hstopped.mono (by decide) (by decide)).trans (.setModule 7 (by decide) (by decide) (by decide))

end
end Sys2Proof.Machine
end

section
/-! Obligation O49, the rest: what a module sends, the lease that lapses, and the grant inputs (R355 to R361). -/

namespace Sys2Proof.Machine

section
variable {s t : State} {m : LookoutMsg} {n : Nat}

/-! ## STAND_DOWN -/

theorem State.pairSafe_of_contest {cause : Nat} (hp : s.pairMode = true) (hc : s.rdF Reg.PAIR_PAIR_STATUS 2 0 = 5)
    (hrun : s.runSt = 0) (hstop : s.dram.stop = false) :
    s.pairSafe cause = (s.enterSafe cause).condShown 7 := by
  obtain ⟨-, hconfig, -, hwithin⟩ := s.enterSafe_spec cause hstop
  have hrun' : (s.enterSafe cause).runSt = 0 := (State.rdF_of_rd_eq (hwithin.pages _ (by decide))).trans hrun
  have hc' : (s.enterSafe cause).rdF Reg.PAIR_PAIR_STATUS 2 0 = 5 := (State.rdF_of_rd_eq (hwithin.pages _ (by decide))).trans hc
  unfold State.pairSafe
  rw [show (s.enterSafe cause).stopRun = s.enterSafe cause from if_pos hrun',
    State.setCond_quiet ((pairMode_of_regs hconfig).trans hp) (by rw [hc']; decide) (.inr (.inr rfl))]

/-- A module that stands down, before it tells the Lookout. -/
structure StoodDown (s t : State) : Prop where
  mode : t.pairMode = true
  cond : t.cond = 7
  role : t.role = 2
  modState : t.modState = 7
  lease : t.bit Reg.PAIR_PAIR_STATUS 8 = s.bit Reg.PAIR_PAIR_STATUS 8
  lamps : ∀ g ∈ List.range 4, ∀ i ∈ List.range 16, t.rd (Reg.LAMP_CH_OUT g i) = 0
  pages : s.pagesBut t (Reg.pagePAIR :: downPages)
  parts : s.Agree downParts t

theorem roleKeys_pages : ∀ k ∈ roleKeys, k / 0x1000 ∈ [Reg.pagePAIR, Reg.pageTALLY] := by decide
theorem condKeys_pages : ∀ k ∈ condKeys, k / 0x1000 ∈ [Reg.pagePAIR] := by decide

theorem lampOut_notMem_cond {g i : Nat} (hg : g < 4) (hi : i < 16) : Reg.LAMP_CH_OUT g i ∉ condKeys := fun h => by
  have hpage := condKeys_pages _ h
  simp only [Reg.LAMP_CH_OUT, Reg.pagePAIR, List.mem_singleton] at hpage
  omega

theorem StoodDown.of_contest (hp : s.pairMode = true) (hc : s.cond = 5) (hrun : s.runSt = 0) (hstop : s.dram.stop = false) :
    StoodDown s ((s.setRole 2).pairSafe causeStandDown) := by
  obtain ⟨a, ha⟩ : ∃ a, a = s.setRole 2 := ⟨_, rfl⟩
  obtain ⟨hrole, hcond, hlease, -⟩ := s.pairStatus_setRole (r := 2) (by decide)
  have hregs := s.regsBut_setRole_two
  have hagree := s.agree_setRole 2
  have hmode : (s.setRole 2).pairMode = true := (s.pairMode_setRole 2).trans hp
  rw [← ha] at hrole hcond hlease hregs hagree hmode ⊢
  have hcond5 : a.rdF Reg.PAIR_PAIR_STATUS 2 0 = 5 := hcond.trans ((State.cond_of_pair hp).symm.trans hc)
  have hdram : a.dram.stop = false := by rw [hagree .dram (by simp), hstop]
  rw [State.pairSafe_of_contest hmode hcond5 ((State.rdF_of_rd_eq (hregs _ (by decide))).trans hrun) hdram]
  obtain ⟨hmod, hconfig, hlamps, hwithin⟩ := a.enterSafe_spec causeStandDown hdram
  obtain ⟨b, hb⟩ : ∃ b, b = a.enterSafe causeStandDown := ⟨_, rfl⟩
  rw [← hb] at hmod hconfig hlamps hwithin ⊢
  have hmode' : (b.condShown 7).pairMode = true :=
    (State.pairMode_condShown b 7).trans ((pairMode_of_regs hconfig).trans hmode)
  have hstatus : b.rd Reg.PAIR_PAIR_STATUS = a.rd Reg.PAIR_PAIR_STATUS := hwithin.pages _ (by decide)
  obtain ⟨hcond7, hrole7, hlease7⟩ := b.pairStatus_condShown (c := 7) (by decide)
  refine ⟨hmode', (State.cond_of_pair hmode').trans hcond7, ?_, ?_, ?_, fun g hg i hi => ?_, ?_, ?_⟩
  · rw [State.role_of_pair hmode', hrole7, State.rdF_of_rd_eq hstatus, hrole]
  · exact (State.rdF_of_rd_eq (b.regsBut_condShown 7 _ (by decide))).trans hmod
  · rw [hlease7, State.bit_of_rd_eq hstatus, hlease]
  · exact (b.regsBut_condShown 7 _ (lampOut_notMem_cond (List.mem_range.1 hg) (List.mem_range.1 hi))).trans (hlamps g hg i hi)
  · have hfollows : s.pagesBut a (Reg.pagePAIR :: downPages) := fun k hk =>
      hregs.pagesBut roleKeys_pages k fun h => hk (by
        simp only [List.mem_cons, List.not_mem_nil, or_false] at h
        rcases h with h | h <;> rw [h] <;> decide)
    refine State.pagesBut.trans hfollows (State.pagesBut.trans (t := b) (fun k hk => ?_) fun k hk => ?_)
    · exact hwithin.pages k fun h => hk (List.mem_cons_of_mem _ h)
    · exact (b.regsBut_condShown 7).pagesBut condKeys_pages k fun h => hk (List.mem_singleton.1 h ▸ List.mem_cons_self)
  · exact ((hagree.mono (by decide)).trans hwithin.parts).trans ((b.agree_condShown 7).mono (by simp))

theorem txKeys_pages : ∀ k ∈ txKeys, k / 0x1000 ∈ [Reg.pageNET 0, Reg.pageNET 1] := by decide

theorem lampOut_notMem_tx {g i : Nat} (hg : g < 4) (hi : i < 16) : Reg.LAMP_CH_OUT g i ∉ txKeys := fun h => by
  have hpage := txKeys_pages _ h
  simp only [Reg.LAMP_CH_OUT, Reg.pageNET, List.mem_cons, List.not_mem_nil, or_false] at hpage
  omega

/-- The pages that a module which stands down reaches. -/
def standDownPages : List Nat := [Reg.pagePAIR, Reg.pageSYS, Reg.pageTALLY, Reg.pageLAMP 0, Reg.pageLAMP 1, Reg.pageLAMP 2,
  Reg.pageLAMP 3, Reg.pageNET 0, Reg.pageNET 1, Reg.pageCAM 0, Reg.pageCAM 1, Reg.pageISP, Reg.pageSCALER]

theorem standDownPages_tx : [Reg.pageNET 0, Reg.pageNET 1] ⊆ standDownPages := by decide
theorem standDownPages_down : Reg.pagePAIR :: downPages ⊆ standDownPages := by decide
theorem standDownPages_pair : [Reg.pagePAIR] ⊆ standDownPages := by decide

theorem leaseDeny_standDown (hp : s.pairMode = true) (hw : s.wired = false) (hok : (s.till n).lookoutOk m s.pair.lookoutSeq = true)
    (htype : m.isType 0x03 = true) (hdisp : m.disposition = 1) (hc : s.cond = 5) (hrun : s.runSt = 0)
    (hstop : s.dram.stop = false) :
    ∃ u : State, exec (.leaseDeny m n) s = .next u ∧
      u.frc = (s.till n).frc ∧ (u.cond, u.role) = (7, 2) ∧ u.modState = 7 ∧ u.bit Reg.PAIR_PAIR_STATUS 8 = false ∧
      (∀ g ∈ List.range 4, ∀ i ∈ List.range 16, u.rd (Reg.LAMP_CH_OUT g i) = 0) ∧
      s.pagesBut u [Reg.pagePAIR, Reg.pageSYS, Reg.pageTALLY, Reg.pageLAMP 0, Reg.pageLAMP 1, Reg.pageLAMP 2,
        Reg.pageLAMP 3, Reg.pageNET 0, Reg.pageNET 1, Reg.pageCAM 0, Reg.pageCAM 1, Reg.pageISP, Reg.pageSCALER] ∧
      { u with regs := s.regs, pair := s.pair, frc := s.frc, mgmt := s.mgmt, line := s.line, out := s.out, net := s.net, lamp := s.lamp, lanes := s.lanes, cam := s.cam, colour := s.colour, freeCount := s.freeCount } =
        s := by
  obtain ⟨hmode, hcond⟩ := State.cond_denied (s := s.till n) (m := m) hp
  have hcond : ((s.till n).denied m).cond = 5 := hcond.trans hc
  have hread := exec_leaseDeny_read (n := n) hp hw htype
  rw [hok, if_neg (by decide), if_neg (by rw [hcond]; decide), if_pos hdisp] at hread
  have hregs := (s.till n).regsBut_denied m
  have hparts := (s.till n).agree_denied m
  have hlease := ((s.till n).denied_facts m).1
  obtain ⟨d, hd⟩ : ∃ d, d = (s.till n).denied m := ⟨_, rfl⟩
  rw [← hd] at hmode hcond hread hregs hparts hlease
  have hdown := StoodDown.of_contest hmode hcond ((State.rdF_of_rd_eq (hregs _ (by decide))).trans hrun)
    ((congrArg DramUnit.stop (hparts .dram (by simp))).trans hstop)
  obtain ⟨b, hb⟩ : ∃ b, b = (d.setRole 2).pairSafe causeStandDown := ⟨_, rfl⟩
  rw [← hb] at hread hdown
  have hsent := b.regsBut_toLookout 0x06 0
  have hsentParts := b.agree_toLookout 0x06 0
  have hmode' : (b.toLookout 0x06 0).pairMode = true := (pairMode_of_regs (hsent _ (by decide))).trans hdown.mode
  have hstatus := hsent Reg.PAIR_PAIR_STATUS (by decide)
  refine ⟨b.toLookout 0x06 0, hread, ?_, ?_, ?_, ?_, fun g hg i hi => ?_, ?_, ?_⟩
  · exact (hsentParts .frc (by simp)).trans ((hdown.parts .frc (by decide)).trans (hparts .frc (by simp)))
  · rw [State.cond_of_pair hmode', State.role_of_pair hmode', State.rdF_of_rd_eq hstatus, State.rdF_of_rd_eq hstatus,
      ← State.cond_of_pair hdown.mode, ← State.role_of_pair hdown.mode, hdown.cond, hdown.role]
  · exact (State.rdF_of_rd_eq (hsent _ (by decide))).trans hdown.modState
  · exact (State.bit_of_rd_eq hstatus).trans (hdown.lease.trans hlease)
  · exact (hsent _ (lampOut_notMem_tx (List.mem_range.1 hg) (List.mem_range.1 hi))).trans (hdown.lamps g hg i hi)
  · have hdenied : s.pagesBut d [Reg.pagePAIR] := State.regsBut.pagesBut (s := s) (t := d) hregs (by decide)
    exact fun k hk => (hsent.pagesBut txKeys_pages k fun h => hk (standDownPages_tx h)).trans
      ((hdown.pages k fun h => hk (standDownPages_down h)).trans (hdenied k fun h => hk (standDownPages_pair h)))
  · refine State.Agree.revert_eq (ps := [.frc, .pair, .mgmt, .line, .out, .net, .lamp, .lanes, .cam, .colour, .freeCount])
      (revert_till (by simp) (((hparts.mono (by simp)).trans (hdown.parts.mono (by decide))).trans (hsentParts.mono (by simp))))

/-! ## RENEW and CLAIM -/

theorem exec_leaseRenew (n : Nat) (s : State) : exec (.leaseRenew n) s =
    if s.pairMode && s.leaseValid && s.rangerRuns then .next (s.till n).renew else .next (s.till n) := rfl

theorem exec_leaseRenew_none (n : Nat) (s : State) (h : s.pairMode = false ∨ s.bit Reg.PAIR_PAIR_STATUS 8 = false ∨ s.rangerRuns = false) :
    exec (.leaseRenew n) s = .next (s.till n) := by
  rw [exec_leaseRenew, State.leaseValid]
  exact if_neg (by rcases h with h | h | h <;> simp [h])

/-- A lease whose renewal is asked. -/
def State.renewed (s : State) : State :=
  (s.toLookout 4 0).modPair (fun p => { p with asked := some s.frc, claiming := false })

theorem State.renew_eq (hw : s.wired = false) : s.renew = s.renewed := by
  unfold State.renew
  rw [hw]
  rfl

theorem State.pair_renewed (s : State) :
    s.renewed.pair = { s.pair with seq := (s.pair.seq + 1) % 2 ^ 32, asked := some s.frc, claiming := false } := by
  have h : s.renewed.pair = { (s.toLookout 4 0).pair with asked := some s.frc, claiming := false } := rfl
  rw [h, State.pair_toLookout]

theorem State.agree_renewed (s : State) : s.Agree [.pair, .net, .out, .freeCount] s.renewed :=
  (State.agree_modPair _ (by simp)).2 (s.agree_toLookout 4 0)

theorem leaseRenew_sent (n : Nat) (s : State) (hp : s.pairMode = true) (hw : s.wired = false)
    (hlease : s.bit Reg.PAIR_PAIR_STATUS 8 = true) (hruns : s.rangerRuns = true) :
    ∃ u : State, exec (.leaseRenew n) s = .next u ∧
      u.frc = (s.till n).frc ∧
      u.pair = { s.pair with seq := (s.pair.seq + 1) % 2 ^ 32, asked := some (s.till n).frc, claiming := false } ∧
      s.regsBut u [Reg.NET_TX_FRAMES 0, Reg.NET_TX_FRAMES 1] ∧
      { u with regs := s.regs, pair := s.pair, frc := s.frc, net := s.net, out := s.out, freeCount := s.freeCount } =
        s := by
  refine ⟨(s.till n).renewed, ?_, (s.till n).agree_renewed .frc (by simp), (s.till n).pair_renewed,
    (s.till n).regsBut_toLookout 4 0, State.Agree.revert_eq (ps := [.frc, .pair, .net, .out, .freeCount])
      (revert_till (by simp) ((s.till n).agree_renewed.mono (by simp)))⟩
  rw [exec_leaseRenew, State.leaseValid, hp, hlease, hruns, State.renew_eq (s := s.till n) hw]
  rfl

theorem exec_claimRepeat_none (n : Nat) (s : State) (h : s.pairMode = false ∨ s.pair.asked = none ∧ s.cond ≠ 1) :
    exec (.claimRepeat n) s = .next (s.till n) := by
  rcases h with h | ⟨hasked, hc⟩
  · exact if_pos (by change (!s.pairMode) = true; simp [h])
  · have hlast : exec (.claimRepeat n) s = if !s.pairMode then .next (s.till n) else .next (s.till n) := by
      refine congrArg (ite _ _) ((if_neg ?_).trans (if_neg ?_))
      · change ¬ s.pair.asked.isSome = true
        simp [hasked]
      · exact fun h => hc h.1
    rw [hlast, ite_self]

/-- A claim counted, and the wait for its grant begun. -/
def State.claimed (s : State) (reason : Nat) : State := (((s.toLookout 1 reason).countF Reg.PAIR_LOOKOUT_COUNT 31 16).wr
  Reg.PAIR_GRANT_WAIT 0xFFFF).modPair (fun p => { p with
    asked := some ((s.toLookout 1 reason).countF Reg.PAIR_LOOKOUT_COUNT 31 16).frc, claiming := true, reason := reason })

theorem State.claim_eq {reason : Nat} (hw : s.wired = false) : s.claim reason = s.claimed reason := if_neg (by simp [hw])

theorem State.pair_claimed (s : State) (reason : Nat) : (s.claimed reason).pair = { s.pair with
    seq := (s.pair.seq + 1) % 2 ^ 32, asked := some s.frc, claiming := true, reason := reason } := by
  have h : (s.claimed reason).pair = { (s.toLookout 1 reason).pair with
    asked := some (s.toLookout 1 reason).frc, claiming := true, reason := reason } := rfl
  rw [h, State.pair_toLookout, (s.agree_toLookout 1 reason .frc (by simp) : _ = s.frc)]

theorem State.agree_claimed (s : State) (reason : Nat) : s.Agree [.pair, .net, .out, .freeCount] (s.claimed reason) := by
  rw [State.claimed, State.agree_modPair _ (by simp), State.agree_wr, State.agree_countF]
  exact s.agree_toLookout 1 reason

theorem State.regs_claimed (s : State) (reason : Nat) : (s.claimed reason).rd Reg.PAIR_GRANT_WAIT = 0xFFFF ∧
    (s.claimed reason).rdF Reg.PAIR_LOOKOUT_COUNT 31 16 = satInc 16 (s.rdF Reg.PAIR_LOOKOUT_COUNT 31 16) ∧
    s.regsBut (s.claimed reason) (txKeys ++ [Reg.PAIR_GRANT_WAIT, Reg.PAIR_LOOKOUT_COUNT]) := by
  have hsent := s.regsBut_toLookout 1 reason
  refine ⟨?_, ?_, fun k hk => ?_⟩
  · rw [State.claimed, State.rd_modPair, State.rd_wr_same]
    rfl
  · rw [State.claimed, State.rdF_of_rd_eq (State.rd_modPair _ _), State.rdF_of_rd_eq (State.rd_wr_of_ne _ _ (by decide)),
      State.countF, State.rdF_wrF_same _ _ _ _ _ (by decide) (by decide), State.rdF_of_rd_eq (hsent _ (by decide))]
    exact Nat.mod_eq_of_lt (satInc_lt 16 _)
  · simp only [List.mem_append, List.mem_cons, List.not_mem_nil, or_false, not_or] at hk
    obtain ⟨htx, hwait, hcount⟩ := hk
    rw [State.claimed, State.rd_modPair, State.rd_wr_of_ne _ _ hwait, State.countF, State.rd_wrF_of_ne _ _ _ _ hcount, hsent k htx]

theorem claimRepeat_formation (n : Nat) (s : State) (hp : s.pairMode = true) (hw : s.wired = false) (hc : s.cond = 1)
    (hrole : s.role = 0) (hasked : s.pair.asked = none) :
    ∃ u : State, exec (.claimRepeat n) s = .next u ∧
      u.frc = (s.till n).frc ∧
      u.pair = { s.pair with seq := (s.pair.seq + 1) % 2 ^ 32, asked := some (s.till n).frc, claiming := true, reason := 1 } ∧
      u.rd Reg.PAIR_GRANT_WAIT = 0xFFFF ∧
      u.rdF Reg.PAIR_LOOKOUT_COUNT 31 16 = satInc 16 (s.rdF Reg.PAIR_LOOKOUT_COUNT 31 16) ∧
      s.regsBut u ([Reg.NET_TX_FRAMES 0, Reg.NET_TX_FRAMES 1] ++ [Reg.PAIR_GRANT_WAIT, Reg.PAIR_LOOKOUT_COUNT]) ∧
      { u with regs := s.regs, pair := s.pair, frc := s.frc, net := s.net, out := s.out, freeCount := s.freeCount } =
        s := by
  have hexec : exec (.claimRepeat n) s = .next ((s.till n).claim 1) := by
    refine (if_neg ?_).trans ((if_neg ?_).trans (if_pos ⟨hc, hrole⟩))
    · change ¬ (!s.pairMode) = true
      simp [hp]
    · change ¬ s.pair.asked.isSome = true
      simp [hasked]
  obtain ⟨hwait, hcount, hregs⟩ := (s.till n).regs_claimed 1
  refine ⟨_, hexec.trans (congrArg _ (State.claim_eq (s := s.till n) hw)), (s.till n).agree_claimed 1 .frc (by simp),
    (s.till n).pair_claimed 1, hwait, hcount, hregs, State.Agree.revert_eq (ps := [.frc, .pair, .net, .out, .freeCount])
      (revert_till (by simp) (((s.till n).agree_claimed 1).mono (by simp)))⟩

/-! ## LEASE_LOST -/

/-- A module without its lease, before its condition is judged. -/
def State.unleased (s : State) : State := (s.wrB Reg.PAIR_PAIR_STATUS 8 false).modPair (fun p => { p with leaseEnd := none })

theorem State.leaseLapses_eq (s : State) : s.leaseLapses =
    if s.unleased.cond = 3 then (s.unleased.wrB Reg.PAIR_PAIR_STATUS 12 true).intSet Reg.pagePAIR 11
    else if s.unleased.cond = 6 ∨ s.unleased.cond = 4 then s.unleased.setCond 5 else s.unleased := rfl

theorem State.regsBut_unleased (s : State) : s.regsBut s.unleased [Reg.PAIR_PAIR_STATUS] := by
  intro k hk
  rw [State.unleased, State.rd_modPair, State.rd_wrB_of_ne _ _ _ (List.ne_of_not_mem_cons hk)]

theorem State.agree_unleased (s : State) : s.Agree [.pair] s.unleased := by
  rw [State.unleased, State.agree_modPair _ (by simp), State.agree_wrB]
  exact .refl s

theorem State.rd_unleased (s : State) : s.unleased.rd Reg.PAIR_PAIR_STATUS = putB (s.rd Reg.PAIR_PAIR_STATUS) 8 false := by
  rw [State.unleased, State.rd_modPair, State.rd_wrB_same _ _ _ (by decide)]

theorem State.unleased_facts (hp : s.pairMode = true) : s.unleased.pairMode = true ∧ s.unleased.cond = s.cond ∧
    s.unleased.rdF Reg.PAIR_PAIR_STATUS 5 4 = s.role ∧ s.unleased.bit Reg.PAIR_PAIR_STATUS 8 = false := by
  have hmode : s.unleased.pairMode = true := (pairMode_of_regs (s.regsBut_unleased _ (by decide))).trans hp
  rw [State.cond_of_pair hmode, State.cond_of_pair hp, State.role_of_pair hp]
  unfold State.rdF State.bit
  rw [State.rd_unleased, fld_putB_other _ _ _ _ _ (.inl (by decide)), fld_putB_other _ _ _ _ _ (.inl (by decide)), bitOf_putB,
    if_pos rfl]
  exact ⟨hmode, rfl, rfl, rfl⟩

theorem exec_leaseLost_none (n : Nat) (s : State) (h : s.pair.leaseEnd = none) : exec (.leaseLost n) s = .next (s.till n) := by
  change execLeaseLost n s = _
  unfold execLeaseLost
  dsimp only
  rw [show (s.till n).pair.leaseEnd = none from h]

theorem exec_leaseLost_due {e : Nat} (hp : s.pairMode = true) (hlease : s.bit Reg.PAIR_PAIR_STATUS 8 = true)
    (hend : s.pair.leaseEnd = some e) (hdue : e ≤ (s.till n).frc) :
    exec (.leaseLost n) s = .next (s.till n).leaseLapses := by
  change execLeaseLost n s = _
  unfold execLeaseLost
  dsimp only
  rw [show (s.till n).pair.leaseEnd = some e from hend]
  dsimp only
  rw [show (s.till n).pairMode = true from hp, show (s.till n).leaseValid = true from hlease, decide_eq_true hdue]
  rfl

/-- In PAIRED the loss is flagged. -/
def State.lossFlagged (t : State) : State := (t.wrB Reg.PAIR_PAIR_STATUS 12 true).intSet Reg.pagePAIR 11

theorem State.rd_lossFlagged (t : State) : t.lossFlagged.rd Reg.PAIR_PAIR_STATUS = putB (t.rd Reg.PAIR_PAIR_STATUS) 12 true := by
  rw [State.lossFlagged, State.rd_intSet_of_ne _ _ (by decide), State.rd_wrB_same _ _ _ (by decide)]

theorem State.regsBut_lossFlagged (t : State) :
    t.regsBut t.lossFlagged [Reg.PAIR_PAIR_STATUS, Reg.INT_STATUS Reg.pagePAIR] := by
  intro k hk
  simp only [List.mem_cons, List.not_mem_nil, or_false, not_or] at hk
  rw [State.lossFlagged, State.rd_intSet_of_ne _ _ hk.2, State.rd_wrB_of_ne _ _ _ hk.1]

theorem State.agree_lossFlagged (t : State) : t.Agree [] t.lossFlagged := by
  rw [State.lossFlagged, State.agree_intSet, State.agree_wrB]
  exact .refl t

theorem leaseLost_paired (n e : Nat) (s : State) (hp : s.pairMode = true) (hlease : s.bit Reg.PAIR_PAIR_STATUS 8 = true)
    (hend : s.pair.leaseEnd = some e) (hdue : e ≤ (s.till n).frc) (hc : s.cond = 3) :
    ∃ u : State, exec (.leaseLost n) s = .next u ∧
      u.frc = (s.till n).frc ∧ u.bit Reg.PAIR_PAIR_STATUS 8 = false ∧ u.bit Reg.PAIR_PAIR_STATUS 12 = true ∧
      u.pair = { s.pair with leaseEnd := none } ∧ u.bit (Reg.INT_STATUS Reg.pagePAIR) 11 = true ∧
      (u.cond, u.role) = (3, s.role) ∧ s.regsBut u [Reg.PAIR_PAIR_STATUS, Reg.INT_STATUS Reg.pagePAIR] ∧
      { u with regs := s.regs, pair := s.pair, frc := s.frc } = s := by
  obtain ⟨hmode, hcond, hrole, hnone⟩ := State.unleased_facts (s := s.till n) hp
  have hcond : (s.till n).unleased.cond = 3 := hcond.trans hc
  have hregs := (s.till n).regsBut_unleased
  have hparts := (s.till n).agree_unleased
  have hpair : (s.till n).unleased.pair = { s.pair with leaseEnd := none } := rfl
  have hexec : exec (.leaseLost n) s = .next (s.till n).unleased.lossFlagged := by
    rw [exec_leaseLost_due hp hlease hend hdue, State.leaseLapses_eq, if_pos hcond]
    rfl
  obtain ⟨d, hd⟩ : ∃ d, d = (s.till n).unleased := ⟨_, rfl⟩
  rw [← hd] at hmode hcond hrole hnone hregs hparts hpair hexec
  have hmode' : d.lossFlagged.pairMode = true := (pairMode_of_regs (d.regsBut_lossFlagged _ (by decide))).trans hmode
  refine ⟨d.lossFlagged, hexec, (d.agree_lossFlagged .frc (by simp)).trans (hparts .frc (by simp)), ?_, ?_,
    (d.agree_lossFlagged .pair (by simp)).trans hpair, ?_, ?_,
    State.regsBut.trans (s := s) (hregs.mono (by decide)) d.regsBut_lossFlagged,
    State.Agree.revert_eq (ps := [.frc, .pair])
      (revert_till (by simp) ((hparts.mono (by simp)).trans (d.agree_lossFlagged.mono (by simp))))⟩
  · unfold State.bit at hnone ⊢
    rw [State.rd_lossFlagged, bitOf_putB, if_neg (by decide), hnone]
  · unfold State.bit
    rw [State.rd_lossFlagged, bitOf_putB, if_pos rfl]
  · rw [State.lossFlagged, State.bit_intSet _ _ _ _ _ (by decide), if_pos ⟨rfl, rfl⟩]
  · rw [State.cond_of_pair hmode] at hcond
    rw [State.cond_of_pair hmode', State.role_of_pair hmode']
    unfold State.rdF at hcond hrole ⊢
    rw [State.rd_lossFlagged, fld_putB_other _ _ _ _ _ (.inl (by decide)), fld_putB_other _ _ _ _ _ (.inl (by decide)), hcond,
      hrole]
    rfl

theorem leaseLost_contest (n e : Nat) (s : State) (hp : s.pairMode = true) (hlease : s.bit Reg.PAIR_PAIR_STATUS 8 = true)
    (hend : s.pair.leaseEnd = some e) (hdue : e ≤ (s.till n).frc) (hc : s.cond = 6 ∨ s.cond = 4) :
    ∃ u : State, exec (.leaseLost n) s = .next u ∧
      u.frc = (s.till n).frc ∧ u.bit Reg.PAIR_PAIR_STATUS 8 = false ∧ (u.cond, u.role) = (5, s.role) ∧
      u.pair.leaseEnd = none ∧
      s.regsBut u [Reg.PAIR_PAIR_STATUS, Reg.STATUS Reg.pagePAIR, Reg.INT_STATUS Reg.pagePAIR] ∧
      { u with regs := s.regs, pair := s.pair, frc := s.frc } = s := by
  obtain ⟨hmode, hcond, hrole, hnone⟩ := State.unleased_facts (s := s.till n) hp
  have hcond : (s.till n).unleased.cond = 6 ∨ (s.till n).unleased.cond = 4 := by rw [hcond]; exact hc
  have hregs := (s.till n).regsBut_unleased
  have hparts := (s.till n).agree_unleased
  have hpair : (s.till n).unleased.pair.leaseEnd = none := rfl
  have hexec : exec (.leaseLost n) s = .next ((s.till n).unleased.setCond 5) := by
    rw [exec_leaseLost_due hp hlease hend hdue, State.leaseLapses_eq, if_neg (by omega), if_pos hcond]
  obtain ⟨d, hd⟩ : ∃ d, d = (s.till n).unleased := ⟨_, rfl⟩
  rw [← hd] at hmode hcond hrole hnone hregs hparts hpair hexec
  rw [State.setCond_quiet hmode (by rw [← State.cond_of_pair hmode]; omega) (.inr (.inl rfl))] at hexec
  obtain ⟨-, hrole', hlease'⟩ := d.pairStatus_condShown (c := 5) (by decide)
  have hparts' := d.agree_condShown 5
  refine ⟨d.condShown 5, hexec, (hparts' .frc (by simp)).trans (hparts .frc (by simp)), hlease'.trans hnone, ?_,
    (congrArg PairUnit.leaseEnd (hparts' .pair (by simp))).trans hpair,
    State.regsBut.trans (s := s) (hregs.mono (by decide)) (d.regsBut_condShown 5),
    State.Agree.revert_eq (ps := [.frc, .pair])
      (revert_till (by simp) ((hparts.mono (by simp)).trans (hparts'.mono (by simp))))⟩
  rw [State.cond_condShown hmode (by decide), State.role_of_pair ((d.pairMode_condShown 5).trans hmode), hrole', hrole]
  rfl

end
end Sys2Proof.Machine
end

section
/-! Obligation O49, the grant inputs of a wired pair (R360), and the whole. -/

namespace Sys2Proof.Machine

section
variable {s t : State} {n : Nat} {a b : Bool}

/-- The grant inputs as they stand. -/
def State.grantInputs (s : State) (a b : Bool) : State := s.modPair (fun p => { p with grantA := a, grantB := b })

theorem exec_wiredGrant (a b : Bool) (n : Nat) (s : State) :
    exec (.wiredGrant a b n) s = .next ((s.till n).grantInputs a b).judgeWired := rfl

theorem State.agree_grantInputs (s : State) (a b : Bool) : s.Agree [.pair] (s.grantInputs a b) :=
  (State.agree_modPair _ (by simp)).2 (.refl s)

theorem State.regsBut_grantInputs (s : State) (a b : Bool) : s.regsBut (s.grantInputs a b) [] := fun _ _ => rfl

theorem State.judgeWired_quiet (h : s.pairMode = false ∨ s.wired = false ∧ (s.leaseValid = false ∨ s.pair.leaseEnd.isSome = true)) :
    s.judgeWired = s := by
  unfold State.judgeWired
  dsimp only
  rcases h with h | ⟨hw, h⟩
  · exact if_pos (by simp [h])
  · rw [hw, if_pos (c := (!false) = true) rfl, if_neg (c := s.leaseValid = true ∧ s.pair.leaseEnd = none), ite_self]
    rintro ⟨hvalid, hnone⟩
    rw [hvalid, hnone] at h
    exact absurd h (by decide)

/-- The epoch that a module takes with the lead. -/
def State.epochTaken (s : State) : State :=
  (s.wr Reg.PAIR_EPOCH ((s.pair.epochSeen + 1) % 2 ^ 32)).modPair (fun p => { p with epochSeen := (s.pair.epochSeen + 1) % 2 ^ 32 })

/-- The grant input of this module gives it the lease. -/
theorem State.judgeWired_own (hp : s.pairMode = true) (hw : s.wired = true) (hslot : s.pairSlot = 0) (hc : s.cond ≠ 7)
    (hlease : s.bit Reg.PAIR_PAIR_STATUS 8 = false) (ha : s.pair.grantA = true) (hb : s.pair.grantB = false) :
    s.judgeWired = ((if s.leads then s else s.epochTaken).holdLease none).takeLead false := by
  have hvalid : s.leaseValid = false := hlease
  unfold State.judgeWired
  dsimp only
  rw [hp, hw, if_neg (by simpa using hc), if_neg (by decide), if_pos hslot, ha, hb, if_pos (by decide), hvalid, if_neg (by decide)]
  rfl

theorem wiredGrant_unjudged (a b : Bool) (n : Nat) (s : State)
    (h : s.pairMode = false ∨ s.wired = false ∧ (s.bit Reg.PAIR_PAIR_STATUS 8 = false ∨ s.pair.leaseEnd.isSome = true)) :
    ∃ u : State, exec (.wiredGrant a b n) s = .next u ∧
      u.frc = (s.till n).frc ∧ u.pair = { s.pair with grantA := a, grantB := b } ∧
      { u with pair := s.pair, frc := s.frc } = s :=
  ⟨(s.till n).grantInputs a b, (exec_wiredGrant a b n s).trans
    (congrArg _ (State.judgeWired_quiet (s := (s.till n).grantInputs a b) h)), rfl, rfl, rfl⟩

theorem wiredGrant_leads (n : Nat) (s : State) (hp : s.pairMode = true) (hw : s.wired = true) (hslot : s.pairSlot = 0)
    (hc : s.cond = 3) (hleads : s.leads = true) (hlease : s.bit Reg.PAIR_PAIR_STATUS 8 = false) :
    ∃ u : State, exec (.wiredGrant true false n) s = .next u ∧
      u.frc = (s.till n).frc ∧ u.bit Reg.PAIR_PAIR_STATUS 8 = true ∧ (u.cond, u.role) = (3, 1) ∧
      u.pair = { s.pair with grantA := true, grantB := false, leaseEnd := none, asked := none } ∧
      s.regsBut u [Reg.PAIR_PAIR_STATUS] ∧ { u with regs := s.regs, pair := s.pair, frc := s.frc } = s := by
  obtain ⟨g, hg⟩ : ∃ g, g = (s.till n).grantInputs true false := ⟨_, rfl⟩
  have hregs : s.regsBut g [] := hg ▸ (s.till n).regsBut_grantInputs true false
  have hparts : s.Agree [.frc, .pair] g := hg ▸ revert_till (by simp) (((s.till n).agree_grantInputs true false).mono (by simp))
  have hpair : g.pair = { s.pair with grantA := true, grantB := false } := hg ▸ rfl
  have hfrc : g.frc = (s.till n).frc := hg ▸ rfl
  have hgp : g.pairMode = true := (pairMode_of_regs (hregs _ (by simp))).trans hp
  have hstatus := hregs Reg.PAIR_PAIR_STATUS (by simp)
  have hgc : g.rdF Reg.PAIR_PAIR_STATUS 2 0 = 3 := (State.rdF_of_rd_eq hstatus).trans ((State.cond_of_pair hp).symm.trans hc)
  have hgr : g.rdF Reg.PAIR_PAIR_STATUS 5 4 = 1 :=
    (State.rdF_of_rd_eq hstatus).trans ((State.role_of_pair hp).symm.trans (beq_iff_eq.1 hleads))
  have hgleads : g.leads = true := beq_iff_eq.2 ((State.role_of_pair hgp).trans hgr)
  obtain ⟨hvalid, -, hcond, hrole⟩ := g.pairStatus_holdLease none
  have hheld := g.agree_holdLease none
  have hmode : (g.holdLease none).pairMode = true := (pairMode_of_regs (g.rd_holdLease_of_ne none (by decide))).trans hgp
  have hcond' := (State.cond_of_pair hmode).trans (hcond.trans hgc)
  have hexec : exec (.wiredGrant true false n) s = .next (g.holdLease none) := by
    rw [exec_wiredGrant, ← hg, State.judgeWired_own hgp ((State.bit_of_rd_eq (hregs _ (by simp))).trans hw)
      ((State.rdF_of_rd_eq (hregs _ (by simp))).trans hslot) (by rw [State.cond_of_pair hgp, hgc]; decide)
      ((State.bit_of_rd_eq hstatus).trans hlease) (by rw [hpair]) (by rw [hpair]), if_pos hgleads,
      State.takeLead_kept (hrole.trans hgr) (by omega) (by omega)]
  refine ⟨_, hexec, (hheld .frc (by simp)).trans hfrc, hvalid, ?_, ?_, ?_,
    State.Agree.revert_eq (ps := [.frc, .pair]) (hparts.trans (hheld.mono (by simp)))⟩
  · rw [hcond', State.role_of_pair hmode, hrole, hgr]
  · have h : (g.holdLease none).pair = { g.pair with leaseEnd := none, asked := none } := rfl
    rw [h, hpair]
  · exact fun k hk => (g.rd_holdLease_of_ne none (List.ne_of_not_mem_cons hk)).trans (hregs k (by simp))

/-! ## The lead of a module that did not lead -/

/-- The lease of the inputs, before the role follows it. -/
def State.wiredLease (s : State) (n : Nat) : State := ((s.till n).grantInputs true false).epochTaken.holdLease none

theorem State.wiredLease_facts (n : Nat) (hp : s.pairMode = true) : (s.wiredLease n).pairMode = true ∧
    (s.wiredLease n).cond = s.cond ∧ (s.wiredLease n).bit Reg.PAIR_PAIR_STATUS 8 = true ∧
    (s.wiredLease n).rd Reg.PAIR_EPOCH = (s.pair.epochSeen + 1) % 2 ^ 32 ∧
    (s.wiredLease n).pair.epochSeen = (s.pair.epochSeen + 1) % 2 ^ 32 ∧ (s.wiredLease n).pair.lost = s.pair.lost ∧
    (s.wiredLease n).frc = (s.till n).frc ∧
    s.regsBut (s.wiredLease n) [Reg.PAIR_PAIR_STATUS, Reg.PAIR_EPOCH] ∧ s.Agree [.frc, .pair] (s.wiredLease n) := by
  obtain ⟨g, hg⟩ : ∃ g, g = (s.till n).grantInputs true false := ⟨_, rfl⟩
  have hregs : s.regsBut g [] := hg ▸ (s.till n).regsBut_grantInputs true false
  have hparts : s.Agree [.frc, .pair] g := hg ▸ revert_till (by simp) (((s.till n).agree_grantInputs true false).mono (by simp))
  have hseen : g.pair.epochSeen = s.pair.epochSeen := hg ▸ rfl
  have hlost : g.pair.lost = s.pair.lost := hg ▸ rfl
  have hfrc : g.frc = (s.till n).frc := hg ▸ rfl
  rw [State.wiredLease, ← hg]
  have hepoch : g.epochTaken.rd Reg.PAIR_EPOCH = (g.pair.epochSeen + 1) % 2 ^ 32 := by
    rw [State.epochTaken, State.rd_modPair, State.rd_wr_same, Nat.mod_mod]
  have hother : ∀ k, k ≠ Reg.PAIR_EPOCH → g.epochTaken.rd k = g.rd k := fun k hk => by
    rw [State.epochTaken, State.rd_modPair, State.rd_wr_of_ne _ _ hk]
  have htaken : g.Agree [.pair] g.epochTaken := (State.agree_modPair _ (by simp)).2 ((State.agree_wr _ _).2 (.refl g))
  have hseen' : g.epochTaken.pair.epochSeen = (g.pair.epochSeen + 1) % 2 ^ 32 := rfl
  have hlost' : g.epochTaken.pair.lost = g.pair.lost := rfl
  obtain ⟨d, hd⟩ : ∃ d, d = g.epochTaken := ⟨_, rfl⟩
  rw [← hd] at hepoch hother htaken hseen' hlost' ⊢
  obtain ⟨hvalid, -, hcond, -⟩ := d.pairStatus_holdLease none
  have hmode : (d.holdLease none).pairMode = true := (pairMode_of_regs ((d.rd_holdLease_of_ne none (by decide)).trans
    ((hother _ (by decide)).trans (hregs _ (by simp))))).trans hp
  have hseen'' : (d.holdLease none).pair.epochSeen = d.pair.epochSeen := rfl
  have hlost'' : (d.holdLease none).pair.lost = d.pair.lost := rfl
  refine ⟨hmode, ?_, hvalid, ?_, ?_, ?_, ?_, fun k hk => ?_, ?_⟩
  · rw [State.cond_of_pair hmode, hcond, State.rdF_of_rd_eq (hother _ (by decide)), State.rdF_of_rd_eq (hregs _ (by simp)),
      State.cond_of_pair hp]
  · rw [State.rd_holdLease_of_ne _ _ (by decide), hepoch, hseen]
  · rw [hseen'', hseen', hseen]
  · rw [hlost'', hlost', hlost]
  · exact (d.agree_holdLease none .frc (by simp)).trans ((htaken .frc (by simp)).trans hfrc)
  · simp only [List.mem_cons, List.not_mem_nil, or_false, not_or] at hk
    rw [State.rd_holdLease_of_ne _ _ hk.1, hother k hk.2, hregs k (by simp)]
  · exact hparts.trans ((htaken.mono (by simp)).trans ((d.agree_holdLease none).mono (by simp)))

theorem exec_wiredGrant_alone (n : Nat) (s : State) (hp : s.pairMode = true) (hw : s.wired = true) (hslot : s.pairSlot = 0)
    (hc : s.cond = 5) (hleads : s.leads = false) (hlost : s.pair.lost = true) (hprint : s.printing = false)
    (hlease : s.bit Reg.PAIR_PAIR_STATUS 8 = false) : exec (.wiredGrant true false n) s = .next (s.wiredLease n).ledAlone := by
  obtain ⟨hmode, hcond, -, -, -, hlost', -, hregs, -⟩ := State.wiredLease_facts n hp
  have hrun : (s.wiredLease n).runSt = s.runSt := State.rdF_of_rd_eq (hregs _ (by decide))
  have hprint' : (s.wiredLease n).printing = false := by
    unfold State.printing
    rw [hrun]
    exact hprint
  have hjudge : ((s.till n).grantInputs true false).judgeWired = (s.wiredLease n).takeLead false := by
    have hgleads : ((s.till n).grantInputs true false).leads = false := hleads
    have hc7 : s.cond ≠ 7 := by omega
    rw [State.judgeWired_own (s := (s.till n).grantInputs true false) hp hw hslot hc7 hlease rfl rfl, hgleads, if_neg (by decide)]
    rfl
  rw [exec_wiredGrant, hjudge, State.takeLead_alone hmode (hcond.trans hc) (hlost'.trans hlost) (.inr hprint')]
  rfl

theorem wiredKeys_pages : ∀ k ∈ [Reg.PAIR_PAIR_STATUS, Reg.PAIR_EPOCH], k / 0x1000 ∈ [Reg.pagePAIR] := by decide

theorem wiredGrant_alone (n : Nat) (s : State) (hp : s.pairMode = true) (hw : s.wired = true) (hslot : s.pairSlot = 0)
    (hc : s.cond = 5) (hleads : s.leads = false) (hlost : s.pair.lost = true) (hprint : s.printing = false)
    (hlease : s.bit Reg.PAIR_PAIR_STATUS 8 = false) :
    ∃ u : State, exec (.wiredGrant true false n) s = .next u ∧
      u.frc = (s.till n).frc ∧ u.bit Reg.PAIR_PAIR_STATUS 8 = true ∧ (u.cond, u.role) = (6, 1) ∧
      u.rd Reg.PAIR_EPOCH = (s.pair.epochSeen + 1) % 2 ^ 32 ∧ u.pair.epochSeen = (s.pair.epochSeen + 1) % 2 ^ 32 ∧
      s.pagesBut u ([Reg.pagePAIR, Reg.pageAPPLY, Reg.pageSYS, Reg.pageTALLY] ++ (List.range 128).map Reg.pageCH) ∧
      { u with regs := s.regs, pair := s.pair, frc := s.frc, mgmt := s.mgmt, lanes := s.lanes, line := s.line, out := s.out, scr := s.scr, ring := s.ring, net := s.net, slots := s.slots } =
        s := by
  obtain ⟨hmode, -, hvalid, hepoch, hseen, -, hfrc, hregs, hparts⟩ := State.wiredLease_facts n hp
  have halone := State.ledAlone_spec hmode
  refine ⟨_, exec_wiredGrant_alone n s hp hw hslot hc hleads hlost hprint hlease, ?_, halone.lease.trans hvalid, ?_,
    halone.epoch.trans hepoch, halone.epochSeen.trans hseen, ?_, ?_⟩
  · exact (halone.parts .frc (by decide)).trans hfrc
  · rw [halone.cond, halone.role]
  · have hwired : s.pagesBut (s.wiredLease n) alonePages := fun k hk =>
      hregs.pagesBut wiredKeys_pages k fun h => hk (List.mem_singleton.1 h ▸ by decide)
    exact hwired.trans halone.pages
  · exact State.Agree.revert_eq (ps := [.frc, .pair, .mgmt, .lanes, .line, .out, .scr, .ring, .net, .slots])
      ((hparts.mono (by simp)).trans (halone.parts.mono (by simp [aloneParts])))

theorem wiredGrant_aloneQuiet (n : Nat) (s : State) (hp : s.pairMode = true) (hw : s.wired = true) (hslot : s.pairSlot = 0)
    (hc : s.cond = 5) (hleads : s.leads = false) (hlost : s.pair.lost = true) (hprint : s.printing = false)
    (hlease : s.bit Reg.PAIR_PAIR_STATUS 8 = false) (hslots : ∀ n ∈ List.range 32, s.slotSt n ≠ 7)
    (hlanes : channels.filter s.retrainPending = []) :
    ∃ u : State, exec (.wiredGrant true false n) s = .next u ∧
      u.frc = (s.till n).frc ∧ u.bit Reg.PAIR_PAIR_STATUS 8 = true ∧ (u.cond, u.role) = (6, 1) ∧
      u.rd Reg.PAIR_EPOCH = (s.pair.epochSeen + 1) % 2 ^ 32 ∧ u.pair.epochSeen = (s.pair.epochSeen + 1) % 2 ^ 32 ∧
      s.regsBut u ([Reg.PAIR_PAIR_STATUS, Reg.STATUS Reg.pagePAIR, Reg.INT_STATUS Reg.pagePAIR] ++ [Reg.PAIR_EPOCH,
        Reg.PAIR_TICK_SKEW] ++ tallyKeys) ∧
      { u with regs := s.regs, pair := s.pair, frc := s.frc, mgmt := s.mgmt } = s := by
  obtain ⟨u, hu, hfrc, hvalid, hcond, hepoch, hseen, -, -⟩ := wiredGrant_alone n s hp hw hslot hc hleads hlost hprint hlease
  refine ⟨u, hu, hfrc, hvalid, hcond, hepoch, hseen, ?_⟩
  obtain ⟨-, -, -, -, -, -, -, hregs, hparts⟩ := State.wiredLease_facts n hp
  obtain ⟨hslots, hlanes⟩ := nothingWaits_of_pages (s := s) (hregs.pagesBut wiredKeys_pages) hslots hlanes
  rw [exec_wiredGrant_alone n s hp hw hslot hc hleads hlost hprint hlease, State.ledAlone_of_none hslots hlanes,
    Host.Outcome.next.injEq] at hu
  subst hu
  exact ⟨(hregs.mono (by decide)).trans ((State.regsBut_leads _).mono (by decide)),
    State.Agree.revert_eq (ps := [.frc, .pair, .mgmt]) ((hparts.mono (by simp)).trans ((State.agree_leads _).mono (by simp)))⟩

end

/-- Settles O49: a lease changes PAIR_STATUS alone, and what a module that comes to lead alone does besides keeps to the slots and
the lanes that wait. -/
theorem pairLease : Obligations.PairLease := by
  unfold Obligations.PairLease
  exact ⟨fun _ _ _ h => exec_leaseGrant_ignored h,
    fun m n s hp hw htype hbad => lookoutBad_at n (by rw [exec_leaseGrant_read hp hw htype, hbad]; rfl),
    fun _ _ _ h => exec_leaseDeny_ignored h,
    fun m n s hp hw htype hbad => lookoutBad_at n (by rw [exec_leaseDeny_read hp hw htype, hbad]; rfl),
    fun _ _ _ => leaseGrant_leads,
    fun _ _ _ hp hw hok htype he hc hl hd hslots hlanes => leaseGrant_aloneQuiet hp hw hok htype he hc hl hd hslots hlanes,
    fun _ _ _ => leaseGrant_alone, fun _ _ _ => leaseGrant_refused, fun _ _ _ => leaseDeny_follow,
    fun _ _ _ => leaseDeny_standDown, leaseRenew_sent, exec_leaseRenew_none, claimRepeat_formation, exec_claimRepeat_none,
    leaseLost_paired, leaseLost_contest, exec_leaseLost_none, wiredGrant_unjudged, wiredGrant_leads, wiredGrant_aloneQuiet,
    wiredGrant_alone⟩

end Sys2Proof.Machine
end

section
/-! The journal: what a record written, and what showing the journal, change (R470 to R472). -/

namespace Sys2Proof.Machine

section
variable {s t : State} {k : Nat}

/-- The registers in which the journal shows. -/
def nvKeys : List Nat := [Reg.STATUS Reg.pageNVS, Reg.NVS_NV_STATUS, Reg.NVS_QUEUE_DEPTH, Reg.NVS_JOURNAL_USED, Reg.NVS_RECORDS,
  Reg.NVS_LAST_SEQ_LO, Reg.NVS_LAST_SEQ_HI, Reg.MBOXS_KEY_STATE]

/-- Nothing changes but the registers of the journal; of NV_STATUS, the ranges and the half in use stay. -/
structure JournalShown (s t : State) : Prop where
  regs : s.regsBut t nvKeys
  open_ : t.mramInRange = s.mramInRange
  half : t.activeHalf = s.activeHalf
  parts : s.Agree [] t

theorem JournalShown.trans {u : State} (h : JournalShown s t) (h' : JournalShown t u) : JournalShown s u :=
  ⟨h.regs.trans h'.regs, h'.open_.trans h.open_, h'.half.trans h.half, h.parts.trans h'.parts⟩

theorem JournalShown.wr_of_ne {a : Nat} (v : Nat) (ha : a ∈ nvKeys) (hne : a ≠ Reg.NVS_NV_STATUS) : JournalShown s (s.wr a v) where
  regs _ hk := s.rd_wr_of_ne _ (ne_of_mem_of_not_mem ha hk).symm
  open_ := State.bit_of_rd_eq (s.rd_wr_of_ne _ hne.symm)
  half := State.rdF_of_rd_eq (s.rd_wr_of_ne _ hne.symm)
  parts := (State.agree_wr _ _).2 (.refl s)

theorem JournalShown.wrs {l : List (Nat × Nat)} (h : ∀ p ∈ l, p.1 ∈ nvKeys ∧ p.1 ≠ Reg.NVS_NV_STATUS) : JournalShown s (s.wrs l) :=
  List.foldlRecOn (motive := fun t : State => JournalShown s t) l _ ⟨fun _ _ => rfl, rfl, rfl, .refl s⟩ fun _ ht p hp =>
    ht.trans (.wr_of_ne p.2 (h p hp).1 (h p hp).2)

theorem JournalShown.wrB_status {i : Nat} (b : Bool) (hi : 3 < i ∨ i = 2) (hi' : i < 32) :
    JournalShown s (s.wrB Reg.NVS_NV_STATUS i b) where
  regs _ hk := s.rd_wrB_of_ne _ _ (ne_of_mem_of_not_mem (by decide : Reg.NVS_NV_STATUS ∈ nvKeys) hk).symm
  open_ := by
    unfold State.mramInRange State.bit
    rw [s.rd_wrB_same _ _ hi', bitOf_putB, if_neg (by omega)]
  half := by
    unfold State.activeHalf State.rdF
    rw [s.rd_wrB_same _ _ hi', fld_putB_other _ _ _ _ _ (by omega)]
  parts := (State.agree_wrB _ _ _).2 (.refl s)

theorem JournalShown.showJournal (s : State) : JournalShown s s.showJournal := by
  unfold State.showJournal
  dsimp only
  refine (JournalShown.wrB_status _ (by decide) (by decide)).trans ((JournalShown.wrB_status _ (by decide) (by decide)).trans
    (JournalShown.trans (JournalShown.wr_of_ne _ (by decide) (by decide)) (.wrs ?_)))
  simp only [List.mem_cons, List.not_mem_nil, or_false, forall_eq_or_imp, forall_eq]
  decide

theorem JournalShown.compact (s : State) (b : Bool) : JournalShown s (s.compact b) :=
  (JournalShown.wrB_status b (by decide) (by decide)).trans (.wr_of_ne _ (by decide) (by decide))

theorem JournalShown.needCompact (s : State) : JournalShown s s.needCompact := by
  unfold State.needCompact
  split
  · exact .compact s true
  · exact ⟨fun _ _ => rfl, rfl, rfl, .refl s⟩

theorem JournalShown.shown (s : State) : JournalShown s s.showJournal.needCompact := (JournalShown.showJournal s).trans (.needCompact _)

/-! ## A record written -/

/-- The journal with more records, shown. -/
def State.journalled (s : State) (f : Mgmt → Mgmt) : State := (s.modMgmt f).showJournal.needCompact

theorem State.regsBut_journalled (s : State) (f : Mgmt → Mgmt) : s.regsBut (s.journalled f) nvKeys :=
  (JournalShown.shown (s.modMgmt f)).regs

theorem State.agree_journalled (s : State) (f : Mgmt → Mgmt) : s.Agree [.mgmt] (s.journalled f) := by
  have hmod : s.Agree [.mgmt] (s.modMgmt f) := by simp [State.modMgmt]
  exact hmod.trans ((JournalShown.shown _).parts.mono (by simp))

theorem State.mgmt_journalled (s : State) (f : Mgmt → Mgmt) : (s.journalled f).mgmt = f s.mgmt :=
  (JournalShown.shown (s.modMgmt f)).parts .mgmt (by simp)

theorem State.mramOpen_journalled (s : State) (f : Mgmt → Mgmt) : (s.journalled f).mramOpen = s.mramOpen := by
  have hmod : (s.journalled f).modState = s.modState := State.rdF_of_rd_eq (s.regsBut_journalled f _ (by decide))
  have hrange : (s.journalled f).mramInRange = s.mramInRange := (JournalShown.shown (s.modMgmt f)).open_
  unfold State.mramOpen
  rw [hmod, hrange]

theorem State.activeHalf_journalled (s : State) (f : Mgmt → Mgmt) : (s.journalled f).activeHalf = s.activeHalf :=
  (JournalShown.shown (s.modMgmt f)).half

/-- The journal with one more record. -/
def recordAdded (r : JournalRecord) (m : Mgmt) : Mgmt := { m with journal := m.journal ++ [r], nextSeq := m.nextSeq + 1 }

/-- A record written to MRAM. -/
def State.recorded (s : State) (kind key : Nat) (data : List Byte) : State := s.journalled (recordAdded (s.newRecord kind key data))

theorem State.writeRecord_open (kind key : Nat) (data : List Byte) (h : s.mramOpen = true) :
    s.writeRecord kind key data = some (s.recorded kind key data, 0) := if_pos h

theorem State.mgmt_recorded (s : State) (kind key : Nat) (data : List Byte) : (s.recorded kind key data).mgmt =
    { s.mgmt with
      journal := s.mgmt.journal ++ [{ half := s.activeHalf, kind := kind, key := key, seq := s.mgmt.nextSeq, data := data }]
      nextSeq := s.mgmt.nextSeq + 1 } := s.mgmt_journalled _

/-! ## The channels of the mailboxes -/

/-- The registers of the channels. -/
def channelKey (k : Nat) : Prop := (0xF0100 ≤ k ∧ k < 0xF0500) ∨ (0x100100 ≤ k ∧ k < 0x100500)

theorem channelKey_mbKey {a n : Nat} (h : 0xF0100 ≤ a ∧ a < 0xF0140) (hn : n < 32) : channelKey (mbKey a n) := by
  unfold channelKey mbKey
  split <;> omega

theorem nvKeys_noChannel : ∀ k ∈ nvKeys, ¬ channelKey k := by
  unfold channelKey
  decide

theorem tallyKeys_noChannel : ∀ k ∈ tallyKeys, ¬ channelKey k := by
  unfold channelKey
  decide

theorem State.mgmt_fwAck {n : Fin 32} {code : Nat} (t : State) (hto : toModule n = true) : (t.fwAck n code).mgmt = t.mgmt := by
  unfold State.fwAck
  rw [State.mbResult_of_toModule _ _ _ hto]
  rfl

theorem State.agree_fwAck {n : Fin 32} {code : Nat} (t : State) (hto : toModule n = true) : t.Agree [.host] (t.fwAck n code) := by
  unfold State.fwAck
  rw [State.agree_dropMessage _ _ (by simp), State.mbResult_of_toModule _ _ _ hto, State.hostEvent, State.agree_intSet,
    State.setMbSt, State.agree_wrF, State.agree_wr]
  exact .refl t

theorem State.counters_fwAck {n : Fin 32} {code : Nat} (t : State) (hto : toModule n = true) : (t.fwAck n code).host.counters = t.host.counters := by
  unfold State.fwAck
  rw [State.mbResult_of_toModule _ _ _ hto]
  rfl

/-- What the module's answer to a message changes. -/
structure Acked (s u : State) (n code : Nat) : Prop where
  st : u.mbSt n = 3
  result : u.rd (kResult n) = code + s.mbSeq n * 65536
  raised : u.bit (Reg.INT_STATUS (mbPage n)) (8 + n % 16) = true
  regs : s.regsBut u [kMbStatus n, kResult n, Reg.INT_STATUS (mbPage n)]
  counters : u.host.counters = s.host.counters
  parts : s.Agree [.host] u

theorem Acked.fwAck (s : State) (n : Fin 32) {code : Nat} (hto : toModule n = true) (hcode : code < 65536) :
    Acked s (s.fwAck n code) n code where
  st := s.mbSt_mbResult n code
  result := s.rd_mbResult_result n hcode
  raised := s.bit_mbResult n code hto
  regs k hk := by
    simp only [List.mem_cons, List.not_mem_nil, or_false, not_or] at hk
    exact s.rd_mbResult_of_ne n hk.1 hk.2.2 hk.2.1
  counters := s.counters_fwAck hto
  parts := s.agree_fwAck hto

/-- An answer after a change that leaves the number of the channel. -/
theorem Acked.after {u : State} {n code : Nat} {ks : List Nat} (h : Acked t u n code) (hregs : s.regsBut t ks)
    (hn : kMbStatus n ∉ ks) : u.mbSt n = 3 ∧ u.rd (kResult n) = code + s.mbSeq n * 65536 ∧
      u.bit (Reg.INT_STATUS (mbPage n)) (8 + n % 16) = true ∧
      s.regsBut u ([kMbStatus n, kResult n, Reg.INT_STATUS (mbPage n)] ++ ks) := by
  have hseq : t.mbSeq n = s.mbSeq n := State.rdF_of_rd_eq (hregs _ hn)
  exact ⟨h.st, hseq ▸ h.result, h.raised, (hregs.mono (List.subset_append_right _ _)).trans
    (h.regs.mono (List.subset_append_left _ _))⟩

/-! ## The checks of a secure command -/

theorem State.taken_facts {n type : Nat} (h : s.taken n type = true) : toModule n = true ∧ s.mbType n = type := by
  unfold State.taken at h
  simp only [Bool.and_eq_true, beq_iff_eq] at h
  obtain ⟨⟨⟨⟨hto, -⟩, htype⟩, -⟩, -⟩ := h
  exact ⟨hto, htype⟩

/-- The counter of an accepted command. -/
def State.counterKept (s : State) (n : Nat) (b : List Byte) : State :=
  { s with host := { s.host with counters := smSet (fun _ => 0) s.host.counters n (bodyCounter b) } }

theorem State.rd_counterKept (n : Nat) (b : List Byte) (k : Nat) : (s.counterKept n b).rd k = s.rd k := rfl

theorem State.agree_counterKept (s : State) (n : Nat) (b : List Byte) : s.Agree [.host] (s.counterKept n b) := by
  simp [State.counterKept]

theorem State.counter_counterKept (s : State) (n : Nat) (b : List Byte) :
    smGet (fun _ => 0) (s.counterKept n b).host.counters n = bodyCounter b :=
  smGet_smSet_same (fun _ => 0) s.host.counters n (bodyCounter b)

theorem State.secureOnly_passed {n type : Nat} {b : List Byte} {lenOk : Nat → Bool} {f : List Byte → State → State}
    (h16 : 16 ≤ n) (hb : s.body n = some b) (htype : s.mbType n = type)
    (hcheck : s.secureCheck n b (type == 0x0101) = none) (hlen : lenOk (bodyLen b) = true) :
    s.secureOnly n lenOk f = f (bodyPayload b) (s.counterKept n b) := by
  unfold State.secureOnly State.secure
  rw [if_neg (by omega), hb, htype, Option.getD_some]
  dsimp only
  rw [hcheck]
  exact if_pos hlen

theorem State.secureOnly_unauthentic {n type : Nat} {b : List Byte} {lenOk : Nat → Bool} {f : List Byte → State → State}
    (h16 : 16 ≤ n) (hb : s.body n = some b) (htype : s.mbType n = type)
    (hcheck : s.secureCheck n b (type == 0x0101) = some 6) : s.secureOnly n lenOk f = s.authFail.fwAck n ackAuthFail := by
  unfold State.secureOnly State.secure
  rw [if_neg (by omega), hb, htype, Option.getD_some]
  dsimp only
  rw [hcheck]
  rfl

end
end Sys2Proof.Machine
end

section
/-! Obligation O35: keys, and answers without a reply (R453 to R456). -/

namespace Sys2Proof.Machine

section
variable {s t : State} {n : Fin 32} {b : List Byte}

theorem kMbStatus_notMem_nv (n : Fin 32) : kMbStatus n ∉ nvKeys := fun h =>
  nvKeys_noChannel _ h (channelKey_mbKey (by decide) n.isLt)

/-- What an answer shows, and which registers it reaches besides those already reached. -/
def AckShown (s u : State) (n code : Nat) (ks : List Nat) : Prop :=
  u.mbSt n = 3 ∧ u.rd (kResult n) = code + s.mbSeq n * 65536 ∧ u.bit (Reg.INT_STATUS (mbPage n)) (8 + n % 16) = true ∧
    s.regsBut u ([kMbStatus n, kResult n, Reg.INT_STATUS (mbPage n)] ++ ks)

/-- An answer after the journal, or nothing, changed. -/
theorem ackShown_of {code : Nat} {ks : List Nat} (hto : toModule n = true) (hcode : code < 65536) (hregs : s.regsBut t ks)
    (hn : kMbStatus n ∉ ks) : AckShown s (t.fwAck n code) n code ks :=
  Acked.after (.fwAck t n hto hcode) hregs hn

/-! ## A key written -/

theorem State.counter_recorded (s : State) (n : Nat) (b : List Byte) (kind key : Nat) (data : List Byte) :
    smGet (fun _ => 0) ((s.counterKept n b).recorded kind key data).host.counters n = bodyCounter b := by
  have hhost : ((s.counterKept n b).recorded kind key data).host = (s.counterKept n b).host :=
    (s.counterKept n b).agree_journalled _ .host (by simp)
  rw [hhost, State.counter_counterKept]

/-- A key is written and answered. -/
theorem keySet {r : Res} (kind : Nat) (hto : toModule n = true) (hopen : s.mramOpen = true)
    (hr : r = .next ((s.counterKept n b).keyRecord n kind 0 (bodyPayload b))) :
    ∃ u : State, r = .next u ∧
      u.mbSt n = 3 ∧ u.rd (kResult n) = 0 + s.mbSeq n * 65536 ∧
      u.bit (Reg.INT_STATUS (mbPage n)) (8 + n % 16) = true ∧
      u.mgmt.journal = s.mgmt.journal ++ [{ half := s.activeHalf, kind := kind, key := 0, seq := s.mgmt.nextSeq, data := bodyPayload b }] ∧
      u.mgmt.nextSeq = s.mgmt.nextSeq + 1 ∧ smGet (fun _ => 0) u.host.counters n = bodyCounter b ∧
      s.regsBut u ([kMbStatus n, kResult n, Reg.INT_STATUS (mbPage n)] ++ [Reg.STATUS Reg.pageNVS,
        Reg.NVS_NV_STATUS, Reg.NVS_QUEUE_DEPTH, Reg.NVS_JOURNAL_USED, Reg.NVS_RECORDS, Reg.NVS_LAST_SEQ_LO,
        Reg.NVS_LAST_SEQ_HI, Reg.MBOXS_KEY_STATE]) ∧ { u with regs := s.regs, host := s.host, mgmt := s.mgmt } = s := by
  have hkey : (s.counterKept n b).keyRecord n kind 0 (bodyPayload b) =
      ((s.counterKept n b).recorded kind 0 (bodyPayload b)).fwAck n ackOk := by
    unfold State.keyRecord
    rw [State.writeRecord_open _ _ _ (s := s.counterKept n b) hopen]
  have hcounter := s.counter_recorded n b kind 0 (bodyPayload b)
  have hregs : s.regsBut ((s.counterKept n b).recorded kind 0 (bodyPayload b)) nvKeys := State.regsBut_journalled (s.counterKept n b) _
  have hparts : s.Agree [.host, .mgmt] ((s.counterKept n b).recorded kind 0 (bodyPayload b)) :=
    ((s.agree_counterKept n b).mono (by simp)).trans ((State.agree_journalled (s.counterKept n b) _).mono (by simp))
  have hmgmt := (s.counterKept n b).mgmt_recorded kind 0 (bodyPayload b)
  rw [hkey] at hr
  obtain ⟨t, ht⟩ : ∃ t, t = (s.counterKept n b).recorded kind 0 (bodyPayload b) := ⟨_, rfl⟩
  rw [← ht] at hcounter hregs hparts hmgmt hr
  obtain ⟨hst, hres, hint, hkeys⟩ := ackShown_of (code := 0) hto (by decide) hregs (kMbStatus_notMem_nv n)
  refine ⟨t.fwAck n 0, hr, hst, hres, hint, ?_, ?_, ?_, hkeys,
    State.Agree.revert_eq (ps := [.host, .mgmt]) (hparts.trans ((t.agree_fwAck hto).mono (by simp)))⟩
  · rw [t.mgmt_fwAck hto, hmgmt]; rfl
  · rw [t.mgmt_fwAck hto, hmgmt]; rfl
  · rw [t.counters_fwAck hto, hcounter]

theorem setHostKey_passed (n : Fin 32) (b : List Byte) (s : State) (htaken : s.taken n 0x0101 = true) (h16 : 16 ≤ n.val)
    (hb : s.body n = some b) (hcheck : s.secureCheck n b true = none) (hlen : bodyLen b = 32) :
    exec (.setHostKey n) s = .next ((s.counterKept n b).keyRecord n 0x0030 0 (bodyPayload b)) :=
  (if_pos htaken).trans (congrArg _ (State.secureOnly_passed h16 hb (State.taken_facts htaken).2 hcheck (by rw [hlen]; rfl)))

theorem setLookoutKey_passed (n : Fin 32) (b : List Byte) (s : State) (htaken : s.taken n 0x0102 = true) (h16 : 16 ≤ n.val)
    (hb : s.body n = some b) (hcheck : s.secureCheck n b false = none) (hlen : bodyLen b = 32) :
    exec (.setLookoutKey n) s = .next ((s.counterKept n b).keyRecord n 0x0031 0 (bodyPayload b)) :=
  (if_pos htaken).trans (congrArg _ (State.secureOnly_passed h16 hb (State.taken_facts htaken).2 hcheck (by rw [hlen]; rfl)))

/-! ## An authentication failure -/

/-- The registers that an authentication failure reaches. -/
def authKeys : List Nat := [Reg.MBOXS_AUTH_FAIL_COUNT, Reg.INT_STATUS Reg.pageMBOXS] ++ tallyKeys

theorem State.authFail_spec (s : State) : s.authFail.rd Reg.MBOXS_AUTH_FAIL_COUNT = satInc 32 (s.rd Reg.MBOXS_AUTH_FAIL_COUNT) ∧
    s.authFail.bit (Reg.INT_STATUS Reg.pageMBOXS) 27 = true ∧ s.regsBut s.authFail authKeys ∧ s.Agree [.mgmt] s.authFail ∧
    s.authFail.mgmt.journal = s.mgmt.journal := by
  refine ⟨?_, ?_, fun k hk => ?_, ?_, ?_⟩
  · rw [State.authFail, State.rd_tally_of_notMem _ _ _ _ _ _ (by decide), State.rd_intSet_of_ne _ _ (by decide), State.rd_count_same]
  · rw [State.authFail, State.bit_of_rd_eq (State.rd_tally_of_notMem _ _ _ _ _ _ (by decide)),
      State.bit_intSet _ _ _ _ _ (by decide), if_pos ⟨rfl, rfl⟩]
  · simp only [authKeys, List.mem_append, List.mem_cons, List.not_mem_nil, or_false, not_or] at hk
    obtain ⟨⟨hcount, hint⟩, htally⟩ := hk
    rw [State.authFail, State.rd_tally_of_notMem _ _ _ _ _ _ htally, State.rd_intSet_of_ne _ _ hint, State.rd_count_of_ne _ hcount]
  · rw [State.authFail, State.agree_tally _ _ _ _ _ (by simp), State.agree_intSet, State.agree_count]
    exact .refl s
  · rw [State.authFail, State.tally, State.tallyAt]
    split
    · rfl
    · split <;> rfl

theorem kMbStatus_notMem_auth (n : Fin 32) : kMbStatus n ∉ authKeys := fun h => by
  have hfree : ∀ k ∈ authKeys, ¬ channelKey k := by
    unfold channelKey
    decide
  exact hfree _ h (channelKey_mbKey (by decide) n.isLt)

theorem mbInt_ne_authCount (n : Nat) : Reg.MBOXS_AUTH_FAIL_COUNT ≠ Reg.INT_STATUS (mbPage n) := by
  unfold mbPage
  split <;> decide

theorem mbPage_secure {m : Nat} (h : 16 ≤ m) : mbPage m = Reg.pageMBOXS := if_neg (by omega)

/-- An answer keeps the interrupt of authentication failures. -/
theorem State.authInt_fwAck {code : Nat} (t : State) (hto : toModule n = true) (h : t.bit (Reg.INT_STATUS Reg.pageMBOXS) 27 = true) :
    (t.fwAck n code).bit (Reg.INT_STATUS Reg.pageMBOXS) 27 = true := by
  have hst : kMbStatus n ≠ Reg.INT_STATUS Reg.pageMBOXS := mbKey_ne_int_of_channel (m := 16) (by decide) n.isLt
  have hres : kResult n ≠ Reg.INT_STATUS Reg.pageMBOXS := mbKey_ne_int_of_channel (m := 16) (by decide) n.isLt
  have heq : (t.fwAck n code).bit (Reg.INT_STATUS Reg.pageMBOXS) 27 = (t.mbResult n code).bit (Reg.INT_STATUS Reg.pageMBOXS) 27 := rfl
  rw [heq, State.mbResult_of_toModule _ _ _ hto, State.hostEvent, State.bit_intSet _ _ _ _ _ (by omega)]
  split
  · rfl
  · rw [State.bit_of_rd_eq (State.rd_setMbSt_of_ne _ _ _ hst.symm), State.bit_of_rd_eq (State.rd_wr_of_ne _ _ hres.symm)]
    exact h

theorem setLookoutKey_unauthentic (n : Fin 32) (b : List Byte) (s : State) (htaken : s.taken n 0x0102 = true) (h16 : 16 ≤ n.val)
    (hb : s.body n = some b) (hcheck : s.secureCheck n b false = some 6) :
    ∃ u : State, exec (.setLookoutKey n) s = .next u ∧
      u.mbSt n = 3 ∧ u.rd (kResult n) = 6 + s.mbSeq n * 65536 ∧
      u.bit (Reg.INT_STATUS (mbPage n)) (8 + n % 16) = true ∧ u.mgmt.journal = s.mgmt.journal ∧
      u.rd Reg.MBOXS_AUTH_FAIL_COUNT = satInc 32 (s.rd Reg.MBOXS_AUTH_FAIL_COUNT) ∧
      u.bit (Reg.INT_STATUS Reg.pageMBOXS) 27 = true ∧
      s.regsBut u ([kMbStatus n, kResult n, Reg.INT_STATUS (mbPage n)] ++ [Reg.MBOXS_AUTH_FAIL_COUNT] ++ tallyKeys) ∧
      { u with regs := s.regs, host := s.host, mgmt := s.mgmt } = s := by
  have hto := (State.taken_facts htaken).1
  obtain ⟨hcount, hraised, hregs, hparts, hjournal⟩ := s.authFail_spec
  have hexec : exec (.setLookoutKey n) s = .next (s.authFail.fwAck n 6) :=
    (if_pos htaken).trans (congrArg _ (State.secureOnly_unauthentic h16 hb (State.taken_facts htaken).2 hcheck))
  obtain ⟨t, ht⟩ : ∃ t, t = s.authFail := ⟨_, rfl⟩
  rw [← ht] at hcount hraised hregs hparts hjournal hexec
  obtain ⟨hst, hres, hint, hkeys⟩ := ackShown_of (code := 6) hto (by decide) hregs (kMbStatus_notMem_auth n)
  have hack : Acked t (t.fwAck n 6) n 6 := .fwAck t n hto (by decide)
  refine ⟨_, hexec, hst, hres, hint, ?_, ?_, ?_, ?_,
    State.Agree.revert_eq (ps := [.host, .mgmt]) ((hparts.mono (by simp)).trans ((t.agree_fwAck hto).mono (by simp)))⟩
  · rw [t.mgmt_fwAck hto, hjournal]
  · rw [hack.regs _ ?_, hcount]
    simp only [List.mem_cons, List.not_mem_nil, or_false, not_or]
    exact ⟨fun h => kMbStatus_notMem_auth n (h ▸ by decide), fun h => absurd (h ▸ channelKey_mbKey (by decide) n.isLt :
      channelKey Reg.MBOXS_AUTH_FAIL_COUNT) (by unfold channelKey; decide), mbInt_ne_authCount n⟩
  · exact State.authInt_fwAck t hto hraised
  · refine hkeys.mono fun k hk => ?_
    simp only [authKeys, List.mem_append, List.mem_cons, List.not_mem_nil, or_false, mbPage_secure h16] at hk ⊢
    tauto

/-! ## ERASE_KEYS -/

theorem eraseKeys_passed (n : Fin 32) (b : List Byte) (s : State) (htaken : s.taken n 0x0103 = true) (h16 : 16 ≤ n.val)
    (hb : s.body n = some b) (hcheck : s.secureCheck n b false = none) (hlen : bodyLen b = 0) (hopen : s.mramOpen = true) :
    ∃ u : State, exec (.eraseKeys n) s = .next u ∧
      u.mbSt n = 3 ∧ u.rd (kResult n) = 0 + s.mbSeq n * 65536 ∧
      u.bit (Reg.INT_STATUS (mbPage n)) (8 + n % 16) = true ∧
      u.mgmt.journal = s.mgmt.journal ++ [{ half := s.activeHalf, kind := 0x0040, key := deleteKey 0x0030 0, seq := s.mgmt.nextSeq, data := [] },
        { half := s.activeHalf, kind := 0x0040, key := deleteKey 0x0031 0, seq := s.mgmt.nextSeq + 1, data := [] }] ∧
      u.mgmt.nextSeq = s.mgmt.nextSeq + 2 ∧
      s.regsBut u ([kMbStatus n, kResult n, Reg.INT_STATUS (mbPage n)] ++ [Reg.STATUS Reg.pageNVS,
        Reg.NVS_NV_STATUS, Reg.NVS_QUEUE_DEPTH, Reg.NVS_JOURNAL_USED, Reg.NVS_RECORDS, Reg.NVS_LAST_SEQ_LO,
        Reg.NVS_LAST_SEQ_HI, Reg.MBOXS_KEY_STATE]) ∧ { u with regs := s.regs, host := s.host, mgmt := s.mgmt } = s := by
  have hto := (State.taken_facts htaken).1
  have hexec : exec (.eraseKeys n) s = .next ((s.counterKept n b).eraseKeys n) :=
    (if_pos htaken).trans (congrArg _ (State.secureOnly_passed h16 hb (State.taken_facts htaken).2 hcheck (by rw [hlen]; rfl)))
  obtain ⟨c, hc⟩ : ∃ c, c = s.counterKept n b := ⟨_, rfl⟩
  have hcregs : s.regsBut c [] := hc ▸ fun _ _ => rfl
  have hcparts : s.Agree [.host] c := hc ▸ s.agree_counterKept n b
  have hcopen : c.mramOpen = true := hc ▸ hopen
  rw [← hc] at hexec
  have hmgmt := c.mgmt_recorded 0x0040 (deleteKey 0x0030 0) []
  have hregs : c.regsBut (c.recorded 0x0040 (deleteKey 0x0030 0) []) nvKeys := c.regsBut_journalled _
  have hparts : c.Agree [.mgmt] (c.recorded 0x0040 (deleteKey 0x0030 0) []) := c.agree_journalled _
  have hopen' : (c.recorded 0x0040 (deleteKey 0x0030 0) []).mramOpen = true := (c.mramOpen_journalled _).trans hcopen
  have hhalf : (c.recorded 0x0040 (deleteKey 0x0030 0) []).activeHalf = c.activeHalf := c.activeHalf_journalled _
  unfold State.eraseKeys at hexec
  rw [State.writeRecord_open _ _ _ hcopen] at hexec
  dsimp only at hexec
  obtain ⟨d, hd⟩ : ∃ d, d = c.recorded 0x0040 (deleteKey 0x0030 0) [] := ⟨_, rfl⟩
  rw [← hd] at hmgmt hregs hparts hopen' hhalf hexec
  rw [State.writeRecord_open _ _ _ hopen'] at hexec
  dsimp only at hexec
  have hmgmt' := d.mgmt_recorded 0x0040 (deleteKey 0x0031 0) []
  have hregs' : s.regsBut (d.recorded 0x0040 (deleteKey 0x0031 0) []) nvKeys :=
    (hcregs.mono (List.nil_subset _)).trans (hregs.trans (d.regsBut_journalled _))
  have hparts' : s.Agree [.host, .mgmt] (d.recorded 0x0040 (deleteKey 0x0031 0) []) :=
    (hcparts.mono (by simp)).trans ((hparts.mono (by simp)).trans ((d.agree_journalled _).mono (by simp)))
  obtain ⟨e, he⟩ : ∃ e, e = d.recorded 0x0040 (deleteKey 0x0031 0) [] := ⟨_, rfl⟩
  rw [← he] at hmgmt' hregs' hparts' hexec
  obtain ⟨hst, hres, hint, hkeys⟩ := ackShown_of (code := 0) hto (by decide) hregs' (kMbStatus_notMem_nv n)
  have hchalf : c.activeHalf = s.activeHalf := State.rdF_of_rd_eq (hcregs _ (by simp))
  have hcmgmt : c.mgmt = s.mgmt := hcparts .mgmt (by simp)
  refine ⟨e.fwAck n 0, hexec, hst, hres, hint, ?_, ?_, hkeys,
    State.Agree.revert_eq (ps := [.host, .mgmt]) (hparts'.trans ((e.agree_fwAck hto).mono (by simp)))⟩
  · rw [e.mgmt_fwAck hto, hmgmt', hmgmt, hhalf, hchalf, hcmgmt]
    simp
  · rw [e.mgmt_fwAck hto, hmgmt', hmgmt, hcmgmt]

/-! ## Refused commands -/

/-- An answer that changes nothing but the channel. -/
theorem ackedOnly {r : Res} {code : Nat} (hto : toModule n = true) (hcode : code < 65536)
    (hr : r = .next ((s.counterKept n b).fwAck n code)) :
    ∃ u : State, r = .next u ∧
      u.mbSt n = 3 ∧ u.rd (kResult n) = code + s.mbSeq n * 65536 ∧
      u.bit (Reg.INT_STATUS (mbPage n)) (8 + n % 16) = true ∧ u.mgmt = s.mgmt ∧
      smGet (fun _ => 0) u.host.counters n = bodyCounter b ∧
      s.regsBut u [kMbStatus n, kResult n, Reg.INT_STATUS (mbPage n)] ∧ { u with regs := s.regs, host := s.host } = s := by
  have hack : Acked (s.counterKept n b) ((s.counterKept n b).fwAck n code) n code := .fwAck _ n hto hcode
  refine ⟨_, hr, hack.st, hack.result, hack.raised, (s.counterKept n b).mgmt_fwAck hto, ?_, hack.regs,
    State.Agree.revert_eq (ps := [.host]) ((s.agree_counterKept n b).trans hack.parts)⟩
  rw [hack.counters, State.counter_counterKept]

theorem exec_journalWrite_passed (htaken : s.taken n 0x0104 = true) (h16 : 16 ≤ n.val) (hb : s.body n = some b)
    (hcheck : s.secureCheck n b false = none) (hlen : 8 ≤ bodyLen b) : exec (.journalWrite n) s =
      .next ((s.counterKept n b).serveCmd n 0x0104 (bodyPayload b) (journalWriteAct (bodyPayload b))) :=
  (if_pos htaken).trans (congrArg _ (State.secureOnly_passed h16 hb (State.taken_facts htaken).2 hcheck (by simp [hlen])))

theorem exec_journalRead_passed (htaken : s.taken n 0x0105 = true) (h16 : 16 ≤ n.val) (hb : s.body n = some b)
    (hcheck : s.secureCheck n b false = none) (hlen : bodyLen b = 8) : exec (.journalRead n) s =
      .next ((s.counterKept n b).serveCmd n 0x0105 (bodyPayload b) (journalReadAct (bodyPayload b))) :=
  (if_pos htaken).trans (congrArg _ (State.secureOnly_passed h16 hb (State.taken_facts htaken).2 hcheck (by rw [hlen]; rfl)))

theorem State.serveCmd_of_none {code type : Nat} {p : List Byte} {act : State → State × Nat × Option (List Byte)}
    (h : act s = (t, code, none)) : s.serveCmd n type p act = t.fwAck n code := by
  unfold State.serveCmd
  rw [h]

theorem journalWrite_denied (n : Fin 32) (b : List Byte) (s : State) (htaken : s.taken n 0x0104 = true) (h16 : 16 ≤ n.val)
    (hb : s.body n = some b) (hcheck : s.secureCheck n b false = none) (hlen : 8 ≤ bodyLen b)
    (hkind : journalKind (bodyPayload b) < 0x8000) (hkind' : journalKind (bodyPayload b) ≠ 0x0040) :
    ∃ u : State, exec (.journalWrite n) s = .next u ∧
      u.mbSt n = 3 ∧ u.rd (kResult n) = 5 + s.mbSeq n * 65536 ∧
      u.bit (Reg.INT_STATUS (mbPage n)) (8 + n % 16) = true ∧ u.mgmt = s.mgmt ∧
      smGet (fun _ => 0) u.host.counters n = bodyCounter b ∧
      s.regsBut u [kMbStatus n, kResult n, Reg.INT_STATUS (mbPage n)] ∧ { u with regs := s.regs, host := s.host } = s :=
  ackedOnly (code := 5) (State.taken_facts htaken).1 (by decide)
    ((exec_journalWrite_passed htaken h16 hb hcheck hlen).trans
      (congrArg _ (State.serveCmd_of_none (if_pos ⟨hkind, hkind'⟩))))

theorem journalRead_denied (n : Fin 32) (b : List Byte) (s : State) (htaken : s.taken n 0x0105 = true) (h16 : 16 ≤ n.val)
    (hb : s.body n = some b) (hcheck : s.secureCheck n b false = none) (hlen : bodyLen b = 8)
    (hkind : journalKind (bodyPayload b) = 0x0030) :
    ∃ u : State, exec (.journalRead n) s = .next u ∧
      u.mbSt n = 3 ∧ u.rd (kResult n) = 5 + s.mbSeq n * 65536 ∧
      u.bit (Reg.INT_STATUS (mbPage n)) (8 + n % 16) = true ∧ u.mgmt = s.mgmt ∧
      s.regsBut u [kMbStatus n, kResult n, Reg.INT_STATUS (mbPage n)] ∧ { u with regs := s.regs, host := s.host } = s := by
  obtain ⟨u, hu, hst, hres, hint, hmgmt, -, hrest⟩ := ackedOnly (code := 5) (State.taken_facts htaken).1 (by decide)
    ((exec_journalRead_passed htaken h16 hb hcheck hlen).trans
      (congrArg _ (State.serveCmd_of_none (if_pos (.inl hkind)))))
  exact ⟨u, hu, hst, hres, hint, hmgmt, hrest⟩

end
end Sys2Proof.Machine
end

section
/-! Obligation O35: answers with a reply (R446 to R456). -/

namespace Sys2Proof.Machine

/-! ## The length of a MAC -/

@[simp] theorem length_leBytes (n v : Nat) : (leBytes n v).length = n := by
  induction n generalizing v with
  | zero => rfl
  | succ n ih => simp [leBytes, ih]

theorem length_shaRound (h : List Nat) (kw : Nat) (hl : h.length = 8) : (shaRound h kw).length = 8 := by
  unfold shaRound
  split
  · rfl
  · exact hl

theorem length_shaK : shaK.length = 64 := by decide

theorem length_shaBlock (h : List Nat) (block : List Byte) (hl : h.length = 8) : (shaBlock h block).length = 8 := by
  have hfold : ∀ l : List (Nat × Nat), (l.foldl (fun h p => shaRound h (p.1 + p.2)) h).length = 8 := fun l =>
    List.foldlRecOn (motive := fun h : List Nat => h.length = 8) l _ hl fun h hh p _ => length_shaRound h _ hh
  unfold shaBlock
  dsimp only
  rw [List.length_map, List.length_zip, hfold, hl, Nat.min_self]

theorem length_shaBlocks (n : Nat) (h : List Nat) (l : List Byte) (hl : h.length = 8) : (shaBlocks n h l).length = 8 := by
  induction n generalizing h l with
  | zero => exact hl
  | succ n ih => exact ih _ _ (length_shaBlock h _ hl)

theorem length_sha256 (l : List Byte) : (sha256 l).length = 32 := by
  unfold sha256
  rw [List.length_flatMap]
  have hfour : ∀ v, (beBytes 4 v).length = 4 := fun v => by rw [beBytes, List.length_reverse, length_leBytes]
  rw [List.map_congr_left fun v _ => hfour v, List.map_const', List.sum_replicate, length_shaBlocks _ _ _ rfl]
  rfl

section
variable {s t u : State} {n m : Nat} {b p : List Byte}

theorem macDraw_fold (l : List Nat) (x : State × List Byte) :
    (∀ k, (l.foldl macDraw x).1.rd k = x.1.rd k) ∧ x.1.Agree [.freeCount] (l.foldl macDraw x).1 ∧
    (l.foldl macDraw x).2.length = x.2.length + 4 * l.length := by
  induction l generalizing x with
  | nil => exact ⟨fun _ => rfl, .refl _, rfl⟩
  | cons i l ih =>
    obtain ⟨hrd, hparts, hlen⟩ := ih (macDraw x i)
    refine ⟨fun k => (hrd k).trans rfl, ((State.agree_drew (by simp)).2 (.refl x.1)).trans hparts, hlen.trans ?_⟩
    simp only [macDraw, List.length_append, length_leBytes, List.length_cons]
    omega

/-- A MAC has 32 bytes, and without its key they are drawn. -/
theorem State.macOf_spec (s : State) (key : Option (List Byte)) (text : List Byte) :
    (∀ k, (s.macOf key text).1.rd k = s.rd k) ∧ s.Agree [.freeCount] (s.macOf key text).1 ∧ (s.macOf key text).2.length = 32 := by
  cases key with
  | some k => exact ⟨fun _ => rfl, .refl s, length_sha256 _⟩
  | none =>
    rw [show s.macOf none text = (List.range 8).foldl macDraw (s, []) from rfl]
    exact macDraw_fold _ _

/-! ## A secure reply -/

/-- The number of the module's next message on a channel. -/
def State.ownCounted (s : State) (m : Nat) : State :=
  { s with host := { s.host with ownCounters := smSet (fun _ => 0) s.host.ownCounters m (smGet (fun _ => 0) s.host.ownCounters m + 1) } }

theorem State.agree_ownCounted (s : State) (m : Nat) : s.Agree [.host] (s.ownCounted m) := by simp [State.ownCounted]

theorem State.secureForm_spec (s : State) (m type tag : Nat) (p : List Byte) :
    (∀ k, (s.secureForm m type tag p).1.rd k = s.rd k) ∧ s.Agree [.host, .freeCount] (s.secureForm m type tag p).1 ∧
    (s.secureForm m type tag p).1.host.counters = s.host.counters ∧ (s.secureForm m type tag p).2.length = p.length + 48 := by
  obtain ⟨text, htext⟩ : ∃ text : List Byte, text.length = p.length + 16 ∧ s.secureForm m type tag p =
      (((s.ownCounted m).macOf (s.ownCounted m).hostKey ((s.ownCounted m).macText m text)).1,
        text ++ ((s.ownCounted m).macOf (s.ownCounted m).hostKey ((s.ownCounted m).macText m text)).2) := by
    refine ⟨_, ?_, rfl⟩
    simp only [List.length_append, length_leBytes]
    omega
  obtain ⟨hlen, heq⟩ := htext
  obtain ⟨hrd, hparts, hmac⟩ := (s.ownCounted m).macOf_spec (s.ownCounted m).hostKey ((s.ownCounted m).macText m text)
  have hhost : ((s.ownCounted m).macOf (s.ownCounted m).hostKey ((s.ownCounted m).macText m text)).1.host = (s.ownCounted m).host :=
    hparts .host (by simp)
  rw [heq]
  refine ⟨hrd, ((s.agree_ownCounted m).mono (by simp)).trans (hparts.mono (by simp)), ?_, ?_⟩
  · rw [hhost]
    rfl
  rw [List.length_append, hlen, hmac]

/-! ## The reply posted -/

/-- The registers of a message that the module posts. -/
def replyKeys (m : Nat) : List Nat := [kPtrLo m, kPtrHi m, kMsgLen m, kTypeTag m, kMbStatus m]

/-- A message of a length lies at the receive region of its channel. -/
def State.placed (s : State) (m len tag : Nat) : State :=
  s.wrs [(kPtrLo m, s.rd (kRxLo m)), (kPtrHi m, s.rd (kRxHi m)), (kMsgLen m, len % 2 ^ 25), (kTypeTag m, tag)]

theorem State.placed_eq (s : State) (m len tag : Nat) : s.placed m len tag =
    (((s.wr (kPtrLo m) (s.rd (kRxLo m))).wr (kPtrHi m) (s.rd (kRxHi m))).wr (kMsgLen m) (len % 2 ^ 25)).wr (kTypeTag m) tag := rfl

theorem State.rd_placed_of_ne {k : Nat} (len tag : Nat) (hlo : k ≠ kPtrLo m) (hhi : k ≠ kPtrHi m) (hlen : k ≠ kMsgLen m)
    (htag : k ≠ kTypeTag m) : (s.placed m len tag).rd k = s.rd k := by
  rw [State.placed_eq, State.rd_wr_of_ne _ _ htag, State.rd_wr_of_ne _ _ hlen, State.rd_wr_of_ne _ _ hhi, State.rd_wr_of_ne _ _ hlo]

theorem State.placed_spec (s : State) (m tag : Nat) {len : Nat} (hlen : len < 2 ^ 25) :
    (s.placed m len tag).rd64 (kPtrLo m) (kPtrHi m) = s.rd64 (kRxLo m) (kRxHi m) ∧ (s.placed m len tag).mbLen m = len := by
  have hloHi : kPtrLo m ≠ kPtrHi m := mbKey_ne m (by decide)
  have hloLen : kPtrLo m ≠ kMsgLen m := mbKey_ne m (by decide)
  have hloTag : kPtrLo m ≠ kTypeTag m := mbKey_ne m (by decide)
  have hhiLen : kPtrHi m ≠ kMsgLen m := mbKey_ne m (by decide)
  have hhiTag : kPtrHi m ≠ kTypeTag m := mbKey_ne m (by decide)
  have hlenTag : kMsgLen m ≠ kTypeTag m := mbKey_ne m (by decide)
  have hlo : (s.placed m len tag).rd (kPtrLo m) = s.rd (kRxLo m) := by
    rw [State.placed_eq, State.rd_wr_of_ne _ _ hloTag, State.rd_wr_of_ne _ _ hloLen, State.rd_wr_of_ne _ _ hloHi, State.rd_wr_same]
    exact Nat.mod_eq_of_lt (s.rd_lt _)
  have hhi : (s.placed m len tag).rd (kPtrHi m) = s.rd (kRxHi m) := by
    rw [State.placed_eq, State.rd_wr_of_ne _ _ hhiTag, State.rd_wr_of_ne _ _ hhiLen, State.rd_wr_same]
    exact Nat.mod_eq_of_lt (s.rd_lt _)
  have hmsg : (s.placed m len tag).rd (kMsgLen m) = len := by
    rw [State.placed_eq, State.rd_wr_of_ne _ _ hlenTag, State.rd_wr_same]
    omega
  refine ⟨?_, ?_⟩
  · unfold State.rd64
    rw [hlo, hhi]
  · unfold State.mbLen State.rdF fld
    rw [hmsg]
    omega

theorem State.mbPost_of_fits {src : Req} (hsrc : src = s.mbSender m) (hst : s.mbSt m = 0 ∨ s.mbSt m = 3)
    (hin : s.outOfRegion m = false) (hlen : s.mbLen m ≤ s.rdF (kMaxLen m) 24 0) :
    s.mbPost src m = ((s.nextMbSeq m).setMbSt m 1).tellReceiver m := by
  have hpost : s.mbPost src m = if s.mbSt m = 1 ∨ s.mbSt m = 2 then s.errAt (mbPage m) 0x0101 (kMbCtrl m) src
      else if s.outOfRegion m then s.errAt (mbPage m) 0x0104 (kMbCtrl m) src
      else if (s.nextMbSeq m).mbLen m > (s.nextMbSeq m).rdF (kMaxLen m) 24 0 then
        ((s.nextMbSeq m).mbResult m 0xFF04).count (kRejected m)
      else ((s.nextMbSeq m).setMbSt m 1).tellReceiver m := if_pos hsrc
  rw [hpost, if_neg (by omega), if_neg (by simp [hin]), State.rd_nextMbSeq_len, State.rd_nextMbSeq_maxLen, if_neg (by omega)]

/-- A message of the module, posted on its channel. -/
structure Replied (s u : State) (m len : Nat) : Prop where
  st : u.mbSt m = 1
  len : u.mbLen m = len
  regs : s.regsBut u (replyKeys m ++ [Reg.INT_STATUS (mbPage m)])
  mgmt : u.mgmt = s.mgmt
  counters : u.host.counters = s.host.counters
  parts : s.Agree [.host, .out, .freeCount] u

theorem replyOf_toHost (hto : toModule n = true) : toModule (replyOf n) = false := by
  have h : n % 16 < 8 := of_decide_eq_true hto
  exact decide_eq_false (by unfold replyOf; omega)

theorem State.moduleEnd_secure (h : 16 ≤ m) : s.moduleEnd m = .ranger := if_pos h

theorem State.mbSender_secure (h : 16 ≤ m) (hhost : toModule m = false) : s.mbSender m = .ranger := by
  unfold State.mbSender
  rw [hhost, if_neg (by decide), State.moduleEnd_secure h]

/-- A message placed where it has room is posted. -/
theorem Replied.placed {len tag : Nat} (h16 : 16 ≤ m) (hhost : toModule m = false)
    (hst : s.mbSt m = 0 ∨ s.mbSt m = 3) (hsize : len ≤ s.rdF (kRxSize m) 24 0) (hmax : len ≤ s.rdF (kMaxLen m) 24 0)
    (hlen : len < 2 ^ 25) : Replied s ((s.placed m len tag).mbPost ((s.placed m len tag).moduleEnd m) m) m len := by
  obtain ⟨hptr, hmsg⟩ := s.placed_spec m tag hlen
  have hkeep : ∀ a, a ≠ Reg.MBOX_MB_PTR_LO 0 → a ≠ Reg.MBOX_MB_PTR_HI 0 → a ≠ Reg.MBOX_MB_MSG_LEN 0 → a ≠ Reg.MBOX_MB_TYPE_TAG 0 →
      (s.placed m len tag).rd (mbKey a m) = s.rd (mbKey a m) := fun a hlo hhi hmsg htag =>
    State.rd_placed_of_ne len tag (mbKey_ne m hlo) (mbKey_ne m hhi) (mbKey_ne m hmsg) (mbKey_ne m htag)
  have hst' : (s.placed m len tag).mbSt m = s.mbSt m := State.rdF_of_rd_eq (hkeep _ (by decide) (by decide) (by decide) (by decide))
  have hsize' : (s.placed m len tag).rdF (kRxSize m) 24 0 = s.rdF (kRxSize m) 24 0 :=
    State.rdF_of_rd_eq (hkeep _ (by decide) (by decide) (by decide) (by decide))
  have hmax' : (s.placed m len tag).rdF (kMaxLen m) 24 0 = s.rdF (kMaxLen m) 24 0 :=
    State.rdF_of_rd_eq (hkeep _ (by decide) (by decide) (by decide) (by decide))
  have hrx : (s.placed m len tag).rd64 (kRxLo m) (kRxHi m) = s.rd64 (kRxLo m) (kRxHi m) := by
    unfold State.rd64
    rw [show (s.placed m len tag).rd (kRxLo m) = s.rd (kRxLo m) from hkeep _ (by decide) (by decide) (by decide) (by decide),
      show (s.placed m len tag).rd (kRxHi m) = s.rd (kRxHi m) from hkeep _ (by decide) (by decide) (by decide) (by decide)]
  have hin : (s.placed m len tag).outOfRegion m = false := by
    unfold State.outOfRegion
    dsimp only
    rw [hptr, hrx, hmsg, hsize', decide_eq_false (Nat.lt_irrefl _), decide_eq_false (by omega), Bool.or_self, Bool.and_false]
  have hparts : s.Agree [] (s.placed m len tag) := (State.agree_wrs _).2 (.refl s)
  have hregs : s.regsBut (s.placed m len tag) (replyKeys m) := fun k hk => by
    simp only [replyKeys, List.mem_cons, List.not_mem_nil, or_false, not_or] at hk
    exact State.rd_placed_of_ne len tag hk.1 hk.2.1 hk.2.2.1 hk.2.2.2.1
  have hsender := State.mbSender_secure (s := s.placed m len tag) h16 hhost
  rw [State.mbPost_of_fits ((State.moduleEnd_secure h16).trans hsender.symm) (by rw [hst']; exact hst) hin (by rw [hmsg, hmax']; exact hmax)]
  obtain ⟨w, hw⟩ : ∃ w, w = s.placed m len tag := ⟨_, rfl⟩
  rw [← hw] at hmsg hparts hregs ⊢
  have htell : ((w.nextMbSeq m).setMbSt m 1).tellReceiver m = ((w.nextMbSeq m).setMbSt m 1).hostEvent m := if_neg (by simp [hhost])
  have hposted : ∀ k, k ≠ kMbStatus m → k ≠ Reg.INT_STATUS (mbPage m) → (((w.nextMbSeq m).setMbSt m 1).tellReceiver m).rd k = w.rd k :=
    fun k hk hint => by rw [State.rd_tellReceiver_of_ne _ _ hint, w.rd_posted_of_ne m hk]
  have hposted' : w.Agree [] (((w.nextMbSeq m).setMbSt m 1).tellReceiver m) := by
    rw [htell, State.hostEvent, State.agree_intSet, State.setMbSt, State.agree_wrF, State.nextMbSeq, State.agree_wrF]
    exact .refl w
  have hall : s.Agree [] (((w.nextMbSeq m).setMbSt m 1).tellReceiver m) := hparts.trans hposted'
  refine ⟨(w.posted_spec m).1, ?_, fun k hk => ?_, hall .mgmt (by simp), congrArg HostUnit.counters (hall .host (by simp)),
    hall.mono (by simp)⟩
  · exact (State.rdF_of_rd_eq (hposted _ (mbKey_ne m (by decide)) (mbKey_ne_int m (by decide)))).trans hmsg
  · rw [List.mem_append, not_or] at hk
    rw [hposted k (fun h => hk.1 (by simp [replyKeys, h])) (fun h => hk.2 (by simp [h])), hregs k hk.1]

theorem Replied.from_same {v : State} {len : Nat} (h : Replied t v m len) (hregs : ∀ k, t.rd k = s.rd k)
    (hmgmt : t.mgmt = s.mgmt) (hcounters : t.host.counters = s.host.counters) (hparts : s.Agree [.host, .out, .freeCount] t) :
    Replied s v m len :=
  ⟨h.st, h.len, fun k hk => (h.regs k hk).trans (hregs k), h.mgmt.trans hmgmt, h.counters.trans hcounters, hparts.trans h.parts⟩

theorem Replied.postReply (s : State) (h16 : 16 ≤ n) (hto : toModule n = true)
    (hst : s.mbSt (n + 8) = 0 ∨ s.mbSt (n + 8) = 3) (hsize : p.length + 48 ≤ s.rdF (kRxSize (n + 8)) 24 0)
    (hmax : p.length + 48 ≤ s.rdF (kMaxLen (n + 8)) 24 0) (hlen : p.length + 48 < 2 ^ 25) :
    Replied s (s.postReply n p) (n + 8) (p.length + 48) := by
  obtain ⟨type, tag, tags, o, heq⟩ : ∃ type tag tags o, s.postReply n p =
      (((s.secureForm (n + 8) type tag p).1.emit o).placed (n + 8) (s.secureForm (n + 8) type tag p).2.length tags).mbPost
        ((((s.secureForm (n + 8) type tag p).1.emit o).placed (n + 8) (s.secureForm (n + 8) type tag p).2.length tags).moduleEnd (n + 8))
        (n + 8) := by
    unfold State.postReply
    dsimp only
    rw [if_neg (by omega)]
    exact ⟨_, _, _, _, rfl⟩
  obtain ⟨hrd, hparts, hcounters, hlength⟩ := s.secureForm_spec (n + 8) type tag p
  obtain ⟨x, hx⟩ : ∃ x, x = (s.secureForm (n + 8) type tag p).1.emit o := ⟨_, rfl⟩
  have hxrd : ∀ k, x.rd k = s.rd k := fun k => by rw [hx, State.rd_emit, hrd]
  have hxparts : s.Agree [.host, .out, .freeCount] x := hx ▸ (State.agree_emit o (by simp)).2 (hparts.mono (by simp))
  have hxcounters : x.host.counters = s.host.counters := hx ▸ hcounters
  have hxmgmt : x.mgmt = s.mgmt := hxparts .mgmt (by simp)
  rw [heq, ← hx, hlength]
  refine Replied.from_same (.placed (by omega) (replyOf_toHost hto) ?_ ?_ ?_ hlen) hxrd hxmgmt hxcounters hxparts
  · rw [State.mbSt, State.rdF_of_rd_eq (hxrd _)]; exact hst
  · rw [State.rdF_of_rd_eq (hxrd _)]; exact hsize
  · rw [State.rdF_of_rd_eq (hxrd _)]; exact hmax

end
end Sys2Proof.Machine
end

section
/-! Obligation O35: the journal through its channel, compaction, and host entries of the log (R456, R470 to R476). -/

namespace Sys2Proof.Machine

section
variable {s t u : State} {n : Fin 32} {b p r : List Byte} {code type : Nat}

theorem State.serveCmd_of_some {act : State → State × Nat × Option (List Byte)} (h : act s = (t, code, some r)) (h16 : 16 ≤ n.val)
    (hst : s.mbSt (n + 8) = 0 ∨ s.mbSt (n + 8) = 3) : s.serveCmd n type p act =
      if s.noRoom (n + 8) (r.length + 48) then s.fwAck n ackNoRoom else (t.postReply n r).fwAck n code := by
  have hbusy : ¬ (s.mbSt (replyOf n) = 1 ∨ s.mbSt (replyOf n) = 2) := by
    unfold replyOf
    omega
  unfold State.serveCmd
  rw [h]
  dsimp only
  rw [if_neg hbusy, show replySize n r.length = r.length + 48 from if_neg (by omega)]
  rfl

theorem State.noRoom_facts {m size : Nat} (h : s.noRoom m size = false) :
    size ≤ s.rdF (kRxSize m) 24 0 ∧ size ≤ s.rdF (kMaxLen m) 24 0 := by
  unfold State.noRoom at h
  simp only [Bool.or_eq_false_iff, decide_eq_false_iff_not, not_lt] at h
  exact h.1

/-- A message of the module answers a command that reached only the journal, or nothing. -/
structure Served (s u : State) (n : Fin 32) (len : Nat) (mgmt : Mgmt) (counters : SMap Nat) (ks : List Nat) (ps : List Part) : Prop where
  shown : AckShown s u n 0 (ks ++ replyKeys (n + 8))
  mgmt : u.mgmt = mgmt
  reply : u.mbSt (n + 8) = 1
  len : u.mbLen (n + 8) = len
  counters : u.host.counters = counters
  parts : s.Agree ps u

theorem replyKeys_channel {m : Nat} (hm : m < 32) : ∀ k ∈ replyKeys m, channelKey k := fun k hk => by
  simp only [replyKeys, List.mem_cons, List.not_mem_nil, or_false] at hk
  rcases hk with rfl | rfl | rfl | rfl | rfl <;> exact channelKey_mbKey (by decide) hm

theorem kMbStatus_notMem_reply (n : Fin 32) (hto : toModule n = true) : kMbStatus n ∉ replyKeys (n + 8) := by
  have hlow : n.val % 16 < 8 := of_decide_eq_true hto
  have hne : n.val ≠ n + 8 := by omega
  have hbound : n.val + 8 < 32 := by omega
  simp only [replyKeys, List.mem_cons, List.not_mem_nil, or_false, not_or]
  exact ⟨mbKey_ne_of_channel hne (by decide) (by decide) n.isLt hbound, mbKey_ne_of_channel hne (by decide) (by decide) n.isLt hbound,
    mbKey_ne_of_channel hne (by decide) (by decide) n.isLt hbound, mbKey_ne_of_channel hne (by decide) (by decide) n.isLt hbound,
    mbKey_ne_of_channel hne (by decide) (by decide) n.isLt hbound⟩

theorem reply_notMem_ack (n : Fin 32) (hto : toModule n = true) {a : Nat} (ha : 0xF0100 ≤ a ∧ a < 0xF0140) :
    mbKey a (n + 8) ∉ [kMbStatus n, kResult n, Reg.INT_STATUS (mbPage n)] := by
  have hlow : n.val % 16 < 8 := of_decide_eq_true hto
  have hne : n.val + 8 ≠ n := by omega
  have hbound : n.val + 8 < 32 := by omega
  simp only [List.mem_cons, List.not_mem_nil, or_false, not_or]
  exact ⟨mbKey_ne_of_channel hne ha (by decide) hbound n.isLt, mbKey_ne_of_channel hne ha (by decide) hbound n.isLt,
    mbKey_ne_int_of_channel ha hbound⟩

/-- The reply is posted and the command acknowledged. -/
theorem served_of_replied {ks : List Nat} {ps : List Part} {len : Nat} (h16 : 16 ≤ n.val) (hto : toModule n = true)
    (hregs : s.regsBut t ks) (hks : ∀ k ∈ ks, ¬ channelKey k) (hparts : s.Agree ps t)
    (hps : [.host, .out, .freeCount] ⊆ ps) (h : Replied t u (n + 8) len) :
    Served s (u.fwAck n 0) n len t.mgmt t.host.counters ks ps := by
  have hack : Acked u (u.fwAck n 0) n 0 := .fwAck u n hto (by decide)
  have hint : Reg.INT_STATUS (mbPage (n + 8)) = Reg.INT_STATUS (mbPage n) := by
    rw [mbPage_secure h16, mbPage_secure (by omega)]
  have hnks : kMbStatus n ∉ ks := fun hmem => hks _ hmem (channelKey_mbKey (by decide) n.isLt)
  have hall : s.regsBut u (ks ++ (replyKeys (n + 8) ++ [Reg.INT_STATUS (mbPage n)])) :=
    (hregs.mono (List.subset_append_left _ _)).trans ((hint ▸ h.regs).mono (List.subset_append_right _ _))
  obtain ⟨hst, hres, hraised, hkeys⟩ := hack.after (s := s) hall (by
    simp only [List.mem_append, List.mem_singleton, not_or]
    exact ⟨hnks, kMbStatus_notMem_reply n hto, kMbStatus_ne_int n⟩)
  refine ⟨⟨hst, hres, hraised, hkeys.mono fun k hk => ?_⟩, ?_, ?_, ?_, ?_, ?_⟩
  · simp only [List.mem_append, List.mem_cons, List.not_mem_nil, or_false] at hk ⊢
    tauto
  · rw [u.mgmt_fwAck hto, h.mgmt]
  · exact (State.rdF_of_rd_eq (hack.regs _ (reply_notMem_ack n hto (by decide)))).trans h.st
  · exact (State.rdF_of_rd_eq (hack.regs _ (reply_notMem_ack n hto (by decide)))).trans h.len
  · rw [hack.counters, h.counters]
  · exact hparts.trans ((h.parts.mono hps).trans (hack.parts.mono fun q hq => hps (List.mem_singleton.1 hq ▸ by simp)))

/-! ## JOURNAL_WRITE and JOURNAL_READ -/

/-- A record of a user kind, written and replied. -/
theorem journalWriteAct_open (hopen : s.mramOpen = true) (hkind : 0x8000 ≤ journalKind p) (hlen : p.length ≤ 1048584) :
    ∃ r, r.length = 12 ∧ journalWriteAct p s = (s.recorded (journalKind p) (journalKey p) (p.drop 8), 0, some r) := by
  unfold journalWriteAct
  dsimp only
  rw [if_neg (by omega), if_neg (by omega), State.writeRecord_open _ _ _ hopen]
  exact ⟨_, by simp, rfl⟩

theorem journalWrite_written (n : Fin 32) (b : List Byte) (r : Nat) (s : State) (htaken : s.taken n 0x0104 = true)
    (h16 : 16 ≤ n.val) (hb : s.body n = some b) (hcheck : s.secureCheck n b false = none) (hlen : 8 ≤ bodyLen b)
    (hopen : s.mramOpen = true) (hkind : 0x8000 ≤ journalKind (bodyPayload b)) (hlong : (bodyPayload b).length ≤ 1048584)
    (hr : r = n.val + 8) (hst : s.mbSt r = 0 ∨ s.mbSt r = 3) (hroom : s.noRoom r 60 = false) :
    ∃ u : State, exec (.journalWrite n) s = .next u ∧
      u.mbSt n = 3 ∧ u.rd (kResult n) = 0 + s.mbSeq n * 65536 ∧
      u.bit (Reg.INT_STATUS (mbPage n)) (8 + n % 16) = true ∧
      u.mgmt.journal = s.mgmt.journal ++ [{ half := s.activeHalf, kind := journalKind (bodyPayload b), key := journalKey (bodyPayload b), seq := s.mgmt.nextSeq, data := (bodyPayload b).drop 8 }] ∧
      u.mbSt r = 1 ∧ u.mbLen r = 60 ∧ smGet (fun _ => 0) u.host.counters n = bodyCounter b ∧
      s.regsBut u ([kMbStatus n, kResult n, Reg.INT_STATUS (mbPage n)] ++ [Reg.STATUS Reg.pageNVS,
        Reg.NVS_NV_STATUS, Reg.NVS_QUEUE_DEPTH, Reg.NVS_JOURNAL_USED, Reg.NVS_RECORDS, Reg.NVS_LAST_SEQ_LO,
        Reg.NVS_LAST_SEQ_HI, Reg.MBOXS_KEY_STATE] ++ [kPtrLo r, kPtrHi r, kMsgLen r, kTypeTag r, kMbStatus r]) ∧
      { u with regs := s.regs, host := s.host, mgmt := s.mgmt, out := s.out, freeCount := s.freeCount } = s := by
  subst hr
  have hto := (State.taken_facts htaken).1
  have hbound : n.val + 8 < 32 := by
    have hlow : n.val % 16 < 8 := of_decide_eq_true hto
    omega
  obtain ⟨reply, hreply, hact⟩ := journalWriteAct_open (s := s.counterKept n b) hopen hkind hlong
  have hsmall : s.noRoom (n + 8) (reply.length + 48) = false := by rw [hreply]; exact hroom
  obtain ⟨hsize, hmax⟩ := State.noRoom_facts hsmall
  have hexec := exec_journalWrite_passed htaken h16 hb hcheck hlen
  rw [State.serveCmd_of_some (s := s.counterKept n b) hact h16 hst,
    show (s.counterKept n b).noRoom (n + 8) (reply.length + 48) = false from hsmall, if_neg (by decide)] at hexec
  have hcounter := s.counter_recorded n b (journalKind (bodyPayload b)) (journalKey (bodyPayload b)) ((bodyPayload b).drop 8)
  have hmgmt := (s.counterKept n b).mgmt_recorded (journalKind (bodyPayload b)) (journalKey (bodyPayload b)) ((bodyPayload b).drop 8)
  have hregs : s.regsBut ((s.counterKept n b).recorded (journalKind (bodyPayload b)) (journalKey (bodyPayload b)) ((bodyPayload b).drop 8))
    nvKeys := State.regsBut_journalled (s.counterKept n b) _
  have hparts : s.Agree [.host, .mgmt, .out, .freeCount]
      ((s.counterKept n b).recorded (journalKind (bodyPayload b)) (journalKey (bodyPayload b)) ((bodyPayload b).drop 8)) :=
    ((s.agree_counterKept n b).mono (by simp)).trans ((State.agree_journalled (s.counterKept n b) _).mono (by simp))
  obtain ⟨t, ht⟩ : ∃ t, t = (s.counterKept n b).recorded (journalKind (bodyPayload b)) (journalKey (bodyPayload b))
    ((bodyPayload b).drop 8) := ⟨_, rfl⟩
  rw [← ht] at hexec hcounter hmgmt hregs hparts
  have hkeep : ∀ a, 0xF0100 ≤ a ∧ a < 0xF0140 → t.rd (mbKey a (n + 8)) = s.rd (mbKey a (n + 8)) := fun a ha =>
    hregs _ fun h => nvKeys_noChannel _ h (channelKey_mbKey ha hbound)
  have hst' : t.mbSt (n + 8) = s.mbSt (n + 8) := State.rdF_of_rd_eq (hkeep _ (by decide))
  have hsize' : t.rdF (kRxSize (n + 8)) 24 0 = s.rdF (kRxSize (n + 8)) 24 0 := State.rdF_of_rd_eq (hkeep _ (by decide))
  have hmax' : t.rdF (kMaxLen (n + 8)) 24 0 = s.rdF (kMaxLen (n + 8)) 24 0 := State.rdF_of_rd_eq (hkeep _ (by decide))
  have hposted : Replied t (t.postReply n reply) (n + 8) (reply.length + 48) :=
    .postReply t h16 hto (hst'.symm ▸ hst) (hsize'.symm ▸ hsize) (hmax'.symm ▸ hmax) (by omega)
  have hserved := served_of_replied (s := s) h16 hto hregs nvKeys_noChannel hparts (by decide) hposted
  obtain ⟨hdone, hres, hraised, hkeys⟩ := hserved.shown
  refine ⟨_, hexec, hdone, hres, hraised, ?_, hserved.reply, hserved.len.trans (by rw [hreply]), ?_, ?_,
    State.Agree.revert_eq (ps := [.host, .mgmt, .out, .freeCount]) hserved.parts⟩
  · rw [hserved.mgmt, hmgmt]; rfl
  · rw [hserved.counters, hcounter]
  · exact hkeys

theorem journalWrite_noRoom (n : Fin 32) (b : List Byte) (r : Nat) (s : State) (htaken : s.taken n 0x0104 = true)
    (h16 : 16 ≤ n.val) (hb : s.body n = some b) (hcheck : s.secureCheck n b false = none) (hlen : 8 ≤ bodyLen b)
    (hopen : s.mramOpen = true) (hkind : 0x8000 ≤ journalKind (bodyPayload b)) (hlong : (bodyPayload b).length ≤ 1048584)
    (hr : r = n.val + 8) (hst : s.mbSt r = 0 ∨ s.mbSt r = 3) (hroom : s.noRoom r 60 = true) :
    ∃ u : State, exec (.journalWrite n) s = .next u ∧
      u.mbSt n = 3 ∧ u.rd (kResult n) = 9 + s.mbSeq n * 65536 ∧
      u.bit (Reg.INT_STATUS (mbPage n)) (8 + n % 16) = true ∧ u.mgmt = s.mgmt ∧ u.mbSt r = s.mbSt r ∧
      s.regsBut u [kMbStatus n, kResult n, Reg.INT_STATUS (mbPage n)] ∧ { u with regs := s.regs, host := s.host } = s := by
  subst hr
  have hto := (State.taken_facts htaken).1
  obtain ⟨reply, hreply, hact⟩ := journalWriteAct_open (s := s.counterKept n b) hopen hkind hlong
  have hsmall : (s.counterKept n b).noRoom (n + 8) (reply.length + 48) = true := by rw [hreply]; exact hroom
  have hexec := exec_journalWrite_passed htaken h16 hb hcheck hlen
  rw [State.serveCmd_of_some (s := s.counterKept n b) hact h16 hst, hsmall, if_pos rfl] at hexec
  obtain ⟨u, hu, hdone, hres, hraised, hmgmt, -, hregs, hrest⟩ := ackedOnly (code := 9) hto (by decide) hexec
  exact ⟨u, hu, hdone, hres, hraised, hmgmt, State.rdF_of_rd_eq (hregs _ (reply_notMem_ack n hto (by decide))), hregs, hrest⟩

theorem length_header (q : JournalRecord) : q.header.length = 32 := by
  unfold JournalRecord.header
  dsimp only
  simp only [List.length_append, length_leBytes]

theorem journalReadAct_found {q : JournalRecord} (h30 : journalKind p ≠ 0x0030) (h31 : journalKind p ≠ 0x0031)
    (hq : s.record (journalKind p) (journalKey p) = some q) : journalReadAct p s = (s, 0, some (q.header ++ q.data)) := by
  unfold journalReadAct
  dsimp only
  rw [if_neg (not_or.2 ⟨h30, h31⟩), hq]
  rfl

theorem journalRead_found (n : Fin 32) (b : List Byte) (r : Nat) (q : JournalRecord) (s : State)
    (htaken : s.taken n 0x0105 = true) (h16 : 16 ≤ n.val) (hb : s.body n = some b) (hcheck : s.secureCheck n b false = none)
    (hlen : bodyLen b = 8) (h30 : journalKind (bodyPayload b) ≠ 0x0030) (h31 : journalKind (bodyPayload b) ≠ 0x0031)
    (hq : s.record (journalKind (bodyPayload b)) (journalKey (bodyPayload b)) = some q) (hlong : q.data.length < 1048576)
    (hr : r = n.val + 8) (hst : s.mbSt r = 0 ∨ s.mbSt r = 3) (hroom : s.noRoom r (80 + q.data.length) = false) :
    ∃ u : State, exec (.journalRead n) s = .next u ∧
      u.mbSt n = 3 ∧ u.rd (kResult n) = 0 + s.mbSeq n * 65536 ∧
      u.bit (Reg.INT_STATUS (mbPage n)) (8 + n % 16) = true ∧ u.mgmt = s.mgmt ∧ u.mbSt r = 1 ∧
      u.mbLen r = 80 + q.data.length ∧ smGet (fun _ => 0) u.host.counters n = bodyCounter b ∧
      s.regsBut u ([kMbStatus n, kResult n, Reg.INT_STATUS (mbPage n)] ++ [kPtrLo r, kPtrHi r, kMsgLen r,
        kTypeTag r, kMbStatus r]) ∧
      { u with regs := s.regs, host := s.host, out := s.out, freeCount := s.freeCount } = s := by
  subst hr
  have hto := (State.taken_facts htaken).1
  have hact := journalReadAct_found (s := s.counterKept n b) h30 h31 hq
  have hreply : (q.header ++ q.data).length + 48 = 80 + q.data.length := by
    rw [List.length_append, length_header]
    omega
  have hsmall : (s.counterKept n b).noRoom (n + 8) ((q.header ++ q.data).length + 48) = false := by rw [hreply]; exact hroom
  obtain ⟨hsize, hmax⟩ := State.noRoom_facts hsmall
  have hexec := exec_journalRead_passed htaken h16 hb hcheck hlen
  rw [State.serveCmd_of_some (s := s.counterKept n b) hact h16 hst, hsmall, if_neg (by decide)] at hexec
  have hposted : Replied (s.counterKept n b) ((s.counterKept n b).postReply n (q.header ++ q.data)) (n + 8)
      ((q.header ++ q.data).length + 48) := .postReply (s.counterKept n b) h16 hto hst hsize hmax (by omega)
  have hserved := served_of_replied (s := s) (t := s.counterKept n b) (ks := []) (ps := [.host, .out, .freeCount]) h16 hto
    (fun _ _ => rfl) (by simp) ((s.agree_counterKept n b).mono (by simp)) (by decide) hposted
  obtain ⟨hdone, hres, hraised, hkeys⟩ := hserved.shown
  refine ⟨_, hexec, hdone, hres, hraised, hserved.mgmt, hserved.reply, hserved.len.trans hreply, ?_, hkeys,
    State.Agree.revert_eq (ps := [.host, .out, .freeCount]) hserved.parts⟩
  rw [hserved.counters, State.counter_counterKept]

/-! ## Compaction -/

theorem compactNow_refused (src : Req) (s : State) (hawake : s.asleep src = false) (hbusy : s.compacting = true) :
    ∃ u : State, exec (.compactNow src) s = .next u ∧
      s.errored u Reg.pageNVS 0x0101 Reg.NVS_NV_CTRL (srcCode src) ∧ s.regsBut u (errorKeys Reg.pageNVS) ∧
      { u with regs := s.regs } = s :=
  State.refused_errAt (by decide) ((if_neg (by simp [hawake])).trans (congrArg _ (if_pos hbusy)))

theorem State.compacting_compact (s : State) (b : Bool) : (s.compact b).compacting = b := by
  unfold State.compacting State.compact State.bit
  rw [State.rd_busy_of_ne _ _ (by decide), State.rd_wrB_same _ _ _ (by decide), bitOf_putB, if_pos rfl]

theorem State.regsBut_compact (s : State) (b : Bool) : s.regsBut (s.compact b) [Reg.NVS_NV_STATUS, Reg.STATUS Reg.pageNVS] := by
  intro k hk
  simp only [List.mem_cons, List.not_mem_nil, or_false, not_or] at hk
  rw [State.compact, State.rd_busy_of_ne _ _ hk.2, State.rd_wrB_of_ne _ _ _ hk.1]

theorem compactNow_started (src : Req) (s : State) (hawake : s.asleep src = false) (hidle : s.compacting = false) :
    ∃ u : State, exec (.compactNow src) s = .next u ∧
      u.compacting = true ∧ u.mgmt = s.mgmt ∧ s.regsBut u [Reg.NVS_NV_STATUS, Reg.STATUS Reg.pageNVS] ∧
      { u with regs := s.regs } = s :=
  ⟨s.compact true, (if_neg (by simp [hawake])).trans (congrArg _ (if_neg (by simp [hidle]))), s.compacting_compact true, rfl,
    s.regsBut_compact true, rfl⟩

theorem compactionDone_idle (s : State) (h : s.compacting = false) : exec (.compactionDone) s = .next s := if_pos (by simp [h])

/-- The half that is not in use. -/
def State.otherHalf (s : State) : Nat := 1 - s.activeHalf

/-- The records that a compaction carries over. -/
def State.carried (s : State) (start : JournalRecord) : List JournalRecord :=
  (((s.allInForce.filter (fun r => !s.mgmt.waiting.contains r)) ++ [start]).zipIdx).map
    (fun p => { p.1 with half := s.otherHalf, seq := s.mgmt.nextSeq + p.2 })

/-- START of a half. -/
def startRecord (half : Nat) : JournalRecord := { half := half, kind := 0x0003, key := 0, seq := 0, data := [] }

/-- The journal after a compaction, before it shows. -/
def State.compacted (s : State) : State :=
  ((s.modMgmt (fun m => { m with
    journal := m.journal.filter (fun r => r.half != s.otherHalf) ++ s.carried (startRecord s.otherHalf)
    nextSeq := m.nextSeq + (s.carried (startRecord s.otherHalf)).length })).compact false).wrF Reg.NVS_NV_STATUS 3 3 s.otherHalf

theorem exec_compactionDone (h : s.compacting = true) :
    exec (.compactionDone) s = .next (s.compacted.showJournal.intSet Reg.pageNVS 10) := if_neg (by simp [h])

theorem State.activeHalf_lt (s : State) : s.activeHalf < 2 := fld_lt _ _ _

theorem State.carried_spec (start : JournalRecord) (h : s.mgmt.waiting = []) :
    (s.carried start).map (fun r => (r.kind, r.key, r.data)) =
      s.allInForce.map (fun r => (r.kind, r.key, r.data)) ++ [(start.kind, start.key, start.data)] ∧
    (s.carried start).length = s.allInForce.length + 1 ∧ ∀ r ∈ s.carried start, r.half = s.otherHalf := by
  have hkeep : s.allInForce.filter (fun r => !s.mgmt.waiting.contains r) = s.allInForce := by
    rw [h]
    exact List.filter_eq_self.2 fun _ _ => rfl
  unfold State.carried
  rw [hkeep]
  refine ⟨?_, by simp, fun r hr => ?_⟩
  · rw [List.map_map]
    have hfst : ((fun r : JournalRecord => (r.kind, r.key, r.data)) ∘
        fun p : JournalRecord × Nat => { p.1 with half := s.otherHalf, seq := s.mgmt.nextSeq + p.2 }) =
        (fun r : JournalRecord => (r.kind, r.key, r.data)) ∘ Prod.fst := rfl
    rw [hfst, ← List.map_map, List.zipIdx_map_fst, List.map_append]
    rfl
  · obtain ⟨p, -, rfl⟩ := List.mem_map.1 hr
    rfl

/-- The compacted half holds what was in force, and the other half is as it was. -/
theorem State.journal_compacted (h : s.mgmt.waiting = []) :
    (s.compacted.mgmt.journal.filter (fun r => r.half == s.otherHalf)).map (fun r => (r.kind, r.key, r.data)) =
      s.allInForce.map (fun r => (r.kind, r.key, r.data)) ++ [(0x0003, 0, [])] ∧
    s.compacted.mgmt.journal.filter (fun r => r.half == s.activeHalf) = s.mgmt.journal.filter (fun r => r.half == s.activeHalf) := by
  have hjournal : s.compacted.mgmt.journal =
      s.mgmt.journal.filter (fun r => r.half != s.otherHalf) ++ s.carried (startRecord s.otherHalf) := rfl
  obtain ⟨hmap, -, hhalf⟩ := State.carried_spec (startRecord s.otherHalf) h
  have hlt := s.activeHalf_lt
  have hne : s.otherHalf ≠ s.activeHalf := by
    unfold State.otherHalf
    omega
  rw [hjournal, List.filter_append, List.filter_append, List.filter_filter, List.filter_filter]
  refine ⟨?_, ?_⟩
  · rw [List.filter_eq_nil_iff.2 fun r _ => by simp, List.nil_append, List.filter_eq_self.2 fun r hr => by simp [hhalf r hr], hmap]
    rfl
  · have hnone : (s.carried (startRecord s.otherHalf)).filter (fun r => r.half == s.activeHalf) = [] :=
      List.filter_eq_nil_iff.2 fun r hr => by simp [hhalf r hr, hne]
    rw [hnone, List.append_nil]
    refine List.filter_congr fun r _ => ?_
    by_cases hr : r.half = s.activeHalf
    · simp [hr, hne.symm]
    · simp [hr]

theorem State.compacted_regs (s : State) : s.compacted.compacting = false ∧ s.compacted.activeHalf = s.otherHalf ∧
    s.regsBut s.compacted [Reg.NVS_NV_STATUS, Reg.STATUS Reg.pageNVS] ∧ s.Agree [.mgmt] s.compacted := by
  obtain ⟨g, hg⟩ : ∃ g, g = s.modMgmt (fun m => { m with
    journal := m.journal.filter (fun r => r.half != s.otherHalf) ++ s.carried (startRecord s.otherHalf)
    nextSeq := m.nextSeq + (s.carried (startRecord s.otherHalf)).length }) := ⟨_, rfl⟩
  have hregs : ∀ k, g.rd k = s.rd k := fun _ => hg ▸ rfl
  have hparts : s.Agree [.mgmt] g := hg ▸ by simp [State.modMgmt]
  rw [show s.compacted = (g.compact false).wrF Reg.NVS_NV_STATUS 3 3 s.otherHalf from hg ▸ rfl]
  refine ⟨?_, ?_, fun k hk => ?_, ?_⟩
  · have hno := g.compacting_compact false
    unfold State.compacting State.bit at hno ⊢
    rw [State.rd_wrF_same _ _ _ (by decide) (by decide), bitOf_putFld_other _ _ _ _ _ (by decide) (.inl (by decide)), hno]
  · unfold State.activeHalf
    rw [State.rdF_wrF_same _ _ _ _ _ (by decide) (by decide)]
    have hlt := s.activeHalf_lt
    unfold State.otherHalf
    omega
  · simp only [List.mem_cons, List.not_mem_nil, or_false, not_or] at hk
    rw [State.rd_wrF_of_ne _ _ _ _ hk.1, g.regsBut_compact false k (by simpa only [List.mem_cons, List.not_mem_nil, or_false, not_or] using hk), hregs]
  · rw [State.agree_wrF, State.compact, State.agree_busy, State.agree_wrB]
    exact hparts

end
end Sys2Proof.Machine
end

section
/-! Obligation O35: the end of a compaction, the return of a range, host entries of the log, and the whole. -/

namespace Sys2Proof.Machine

section
variable {s t : State}

theorem State.compacting_showJournal (s : State) : s.showJournal.compacting = s.compacting := by
  unfold State.showJournal State.compacting
  dsimp only
  have hwrs : ∀ (t : State) (l : List (Nat × Nat)), (∀ p ∈ l, p.1 ≠ Reg.NVS_NV_STATUS) →
      (t.wrs l).rd Reg.NVS_NV_STATUS = t.rd Reg.NVS_NV_STATUS := fun t l hl =>
    List.foldlRecOn (motive := fun u : State => u.rd Reg.NVS_NV_STATUS = t.rd Reg.NVS_NV_STATUS) l _ rfl fun u hu p hp => by
      rw [State.rd_wr_of_ne _ _ (hl p hp).symm, hu]
  rw [State.bit_of_rd_eq (hwrs _ _ (by
      simp only [List.mem_cons, List.not_mem_nil, or_false, forall_eq_or_imp, forall_eq]
      decide)), State.bit_of_rd_eq (State.rd_wrB_of_ne _ _ _ (by decide))]
  unfold State.bit
  rw [State.rd_wrB_same _ _ _ (by decide), State.rd_wrB_same _ _ _ (by decide), bitOf_putB, bitOf_putB, if_neg (by decide),
    if_neg (by decide)]

theorem compactionDone_done (s : State) (hbusy : s.compacting = true) (hwait : s.mgmt.waiting = []) :
    ∃ u : State, exec (.compactionDone) s = .next u ∧
      u.compacting = false ∧ u.activeHalf = 1 - s.activeHalf ∧ u.bit (Reg.INT_STATUS Reg.pageNVS) 10 = true ∧
      u.mgmt.nextSeq = s.mgmt.nextSeq + s.allInForce.length + 1 ∧
      (u.mgmt.journal.filter (fun r => r.half == 1 - s.activeHalf)).map (fun r => (r.kind, r.key, r.data)) =
        s.allInForce.map (fun r => (r.kind, r.key, r.data)) ++ [(0x0003, 0, [])] ∧
      u.mgmt.journal.filter (fun r => r.half == s.activeHalf) =
        s.mgmt.journal.filter (fun r => r.half == s.activeHalf) ∧
      s.regsBut u ([Reg.STATUS Reg.pageNVS, Reg.NVS_NV_STATUS, Reg.NVS_QUEUE_DEPTH, Reg.NVS_JOURNAL_USED,
        Reg.NVS_RECORDS, Reg.NVS_LAST_SEQ_LO, Reg.NVS_LAST_SEQ_HI, Reg.MBOXS_KEY_STATE] ++
        [Reg.INT_STATUS Reg.pageNVS]) ∧ { u with regs := s.regs, mgmt := s.mgmt } = s := by
  obtain ⟨hno, hhalf, hregs, hparts⟩ := s.compacted_regs
  obtain ⟨hnew, hold⟩ := State.journal_compacted hwait
  obtain ⟨-, hcount, -⟩ := State.carried_spec (startRecord s.otherHalf) hwait
  have hseq : s.compacted.mgmt.nextSeq = s.mgmt.nextSeq + (s.carried (startRecord s.otherHalf)).length := rfl
  have hexec := exec_compactionDone hbusy
  obtain ⟨c, hc⟩ : ∃ c, c = s.compacted := ⟨_, rfl⟩
  rw [← hc] at hno hhalf hregs hparts hnew hold hseq hexec
  have hshown := JournalShown.showJournal c
  have hidle : c.showJournal.compacting = false := c.compacting_showJournal.trans hno
  obtain ⟨v, hv⟩ : ∃ v, v = c.showJournal := ⟨_, rfl⟩
  rw [← hv] at hshown hidle hexec
  have hint : ∀ k, k ≠ Reg.INT_STATUS Reg.pageNVS → (v.intSet Reg.pageNVS 10).rd k = v.rd k := fun k hk =>
    State.rd_intSet_of_ne _ _ hk
  have hall : c.Agree [] (v.intSet Reg.pageNVS 10) := (State.agree_intSet _ _).2 hshown.parts
  have hmgmt : (v.intSet Reg.pageNVS 10).mgmt = c.mgmt := hall .mgmt (by simp)
  refine ⟨v.intSet Reg.pageNVS 10, hexec, ?_, ?_, ?_, ?_, ?_, ?_, fun k hk => ?_, ?_⟩
  · exact (State.bit_of_rd_eq (hint _ (by decide))).trans hidle
  · exact (State.rdF_of_rd_eq (hint _ (by decide))).trans (hshown.half.trans hhalf)
  · rw [State.bit_intSet _ _ _ _ _ (by decide), if_pos ⟨rfl, rfl⟩]
  · rw [hmgmt, hseq, hcount, Nat.add_assoc]
  · rw [hmgmt]
    exact hnew
  · rw [hmgmt, hold]
  · rw [List.mem_append, List.mem_singleton, not_or] at hk
    exact (hint k hk.2).trans ((hshown.regs k hk.1).trans (hregs.mono (by decide) k hk.1))
  · exact State.Agree.revert_eq (ps := [.mgmt]) (hparts.trans (hall.mono (List.nil_subset _)))

/-! ## The return of a range -/

/-- The journal with the records that waited. -/
def waitingWritten (half : Nat) (m : Mgmt) : Mgmt :=
  { m with journal := m.journal ++ m.waiting.map (fun r => { r with half := half }), waiting := [] }

theorem nvRangeReturn_mram (s : State) (hopen : s.mramOpen = true) :
    ∃ u : State, exec (.nvRangeReturn false) s = .next u ∧
      u.mgmt.waiting = [] ∧
      u.mgmt.journal = s.mgmt.journal ++ s.mgmt.waiting.map (fun r => { r with half := s.activeHalf }) ∧
      u.mgmt.nextSeq = s.mgmt.nextSeq ∧
      s.regsBut u [Reg.STATUS Reg.pageNVS, Reg.NVS_NV_STATUS, Reg.NVS_QUEUE_DEPTH, Reg.NVS_JOURNAL_USED,
        Reg.NVS_RECORDS, Reg.NVS_LAST_SEQ_LO, Reg.NVS_LAST_SEQ_HI, Reg.MBOXS_KEY_STATE] ∧
      { u with regs := s.regs, mgmt := s.mgmt } = s := by
  have hexec : exec (.nvRangeReturn false) s = .next (s.journalled (waitingWritten s.activeHalf)) :=
    congrArg Host.Outcome.next (if_pos hopen)
  have hmgmt := s.mgmt_journalled (waitingWritten s.activeHalf)
  refine ⟨_, hexec, ?_, ?_, ?_, s.regsBut_journalled _, State.Agree.revert_eq (ps := [.mgmt]) (s.agree_journalled _)⟩
  · rw [hmgmt]; rfl
  · rw [hmgmt]; rfl
  · rw [hmgmt]; rfl

theorem nvRangeReturn_nor (s : State) (h : s.norInRange = true) :
    ∃ u : State, exec (.nvRangeReturn true) s = .next u ∧
      u.mgmt = { s.mgmt with norPaused := false } ∧ { u with mgmt := s.mgmt } = s :=
  ⟨s.modMgmt (fun m => { m with norPaused := false }), congrArg Host.Outcome.next (if_pos h), rfl, rfl⟩

/-! ## HOST_POST -/

theorem hostPost_refused (src : Req) (s : State) (hcut : s.cutOff src = false) (hcode : s.rdF Reg.TALLY_HOST_CODE 15 0 < 0xC000) :
    ∃ u : State, exec (.hostPost src) s = .next u ∧
      s.errored u Reg.pageTALLY 0x0101 Reg.TALLY_HOST_POST (srcCode src) ∧ s.regsBut u (errorKeys Reg.pageTALLY) ∧
      { u with regs := s.regs } = s :=
  State.refused_errAt (by decide) ((if_neg (by simp [hcut])).trans (congrArg _ (if_pos hcode)))

theorem hostPost_taken (src : Req) (s : State) (hcut : s.cutOff src = false) (hcode : 0xC000 ≤ s.rdF Reg.TALLY_HOST_CODE 15 0)
    (hsev : s.rdF Reg.TALLY_FILTER 1 0 ≤ s.rdF Reg.TALLY_HOST_CODE 17 16) (hroom : s.mgmt.intake.length < 64) :
    ∃ u : State, exec (.hostPost src) s = .next u ∧
      u.mgmt = { s.mgmt with intake := s.mgmt.intake ++ [{ code := s.rdF Reg.TALLY_HOST_CODE 15 0, source := 0xF2, inst := 0, severity := s.rdF Reg.TALLY_HOST_CODE 17 16, timeValid := s.net.everLocked, time := s.nowNs, line := s.tallyLine, arg := s.rd Reg.TALLY_HOST_ARG }] } ∧
      { u with mgmt := s.mgmt } = s :=
  ⟨{ s with mgmt := { s.mgmt with intake := s.mgmt.intake ++ [{ code := s.rdF Reg.TALLY_HOST_CODE 15 0, source := 0xF2, inst := 0, severity := s.rdF Reg.TALLY_HOST_CODE 17 16, timeValid := s.net.everLocked, time := s.nowNs, line := s.tallyLine, arg := s.rd Reg.TALLY_HOST_ARG }] } },
    (if_neg (by simp [hcut])).trans (congrArg _ ((if_neg (by omega)).trans ((if_neg (by omega)).trans (if_pos hroom)))), rfl, rfl⟩

end

/-- Settles O35: a secure command changes its channel, and by the record that it writes the journal; a compaction carries every
record in force to the other half. -/
theorem secureServicesAndJournal : Obligations.SecureServicesAndJournal := by
  unfold Obligations.SecureServicesAndJournal
  exact ⟨fun n b s htaken h16 hb hcheck hlen hopen => keySet 0x0030 (State.taken_facts htaken).1 hopen
      (setHostKey_passed n b s htaken h16 hb hcheck hlen),
    fun n b s htaken h16 hb hcheck hlen hopen => keySet 0x0031 (State.taken_facts htaken).1 hopen
      (setLookoutKey_passed n b s htaken h16 hb hcheck hlen),
    setLookoutKey_unauthentic, eraseKeys_passed, journalWrite_written, journalWrite_noRoom, journalWrite_denied, journalRead_found,
    journalRead_denied, compactNow_refused, compactNow_started, compactionDone_idle, compactionDone_done, nvRangeReturn_mram,
    nvRangeReturn_nor, hostPost_refused, hostPost_taken⟩

end Sys2Proof.Machine
end
